-- ==== Sys2Proof/Word.lean ====
section
/-! DEFINITION. The word types of the FZM-648: bytes, 32-bit registers, 64-bit counts. -/

namespace Sys2Proof

/-- A byte of memory. -/
abbrev Byte := BitVec 8

/-- A register or memory word (03_register_model.md, limits: register width 32 bits). -/
abbrev Word := BitVec 32

/-- A 64-bit value (chain time in ns, identities, the accumulator). -/
abbrev DWord := BitVec 64

end Sys2Proof
end

