-- ==== Sys2Proof/Forms.lean ====
section
/-! DEFINITION. The operand forms of the commands: who asks, and what the world outside shows the block at an event. -/

namespace Sys2Proof

/-- Who makes an access (03_register_model.md R52; codes of 12_locks_buffers_messages.md Table SYNC-1). -/
inductive Requester where
  | engine (e : Fin 32)
  | mgmt
  | gate
deriving DecidableEq, Repr

/-- Access widths of Table REGS-1. -/
inductive Access where
  | byte | half | word
deriving DecidableEq, Repr

/-- The two dies (01_node_and_chain.md R15). -/
inductive Die where
  | core | field
deriving DecidableEq, Repr

/-- The external rails in the order they are raised (04_power_up_to_service.md R73). -/
inductive Rail where
  | vaux | vlogic | vcore
deriving DecidableEq, Repr

/-- USB speeds a port can detect (14_local_hub.md R308). -/
inductive UsbSpeed where
  | high | full | low
deriving DecidableEq, Repr

/-- The USB devices the node presents: the local hub, the management function, the wide hub (R298, 15_wide_hub_tunnel.md R328). -/
inductive UsbDev where
  | hub | mgmt | wide
deriving DecidableEq, Repr

/-- Recipient of a standard request (USB 2.0 chapter 9, cited by R306). -/
inductive Recipient where
  | device | interface | endpoint | other
deriving DecidableEq, Repr

/-- The wPortChange bits of Table HUB-2. -/
inductive PortChange where
  | connection | enable | suspend | overCurrent | reset | l1
deriving DecidableEq, Repr

/-- An endpoint behind a translator: device address, endpoint number, direction. -/
structure TtEndpoint where
  dev : BitVec 7
  ep : BitVec 4
  dirIn : Bool
deriving DecidableEq, Repr

/-- What a device on a port's bus answers to one transaction. -/
inductive DevReply where
  | ack
  | nak
  | stall
  | err      -- no response, or a bad CRC
  | data (pid1 : Bool) (bytes : List Byte)
deriving DecidableEq, Repr

/-- A poll-table entry polled on its bus, with the device's answer (15_wide_hub_tunnel.md R341). -/
structure PollReply where
  entry : Fin 256
  reply : DevReply
deriving DecidableEq, Repr

/-- A split transaction of the host to the wide hub (15_wide_hub_tunnel.md R340). -/
structure WideSplit where
  w : Fin 256
  dev : BitVec 7
  ep : BitVec 4
  dirIn : Bool
  start : Bool        -- start-split, else complete-split
  periodic : Bool
  setup : Bool
  pid1 : Bool
  data : List Byte
deriving DecidableEq, Repr

/-- A hub-class request for one port of the wide hub (R344). -/
inductive HubPortReq where
  | setPower | clearPower | setReset | setSuspend | clearSuspend | clearEnable
  | clearChange (c : PortChange)
  | setTest | clearL1 | getStatus
  | clearTt (ep : TtEndpoint) | resetTt | getTt | stopTt
deriving DecidableEq, Repr

/-- What a Cuff finds on one CC pin: nothing, Ra, Rd, or the partner's Rp at 1 Default, 2 1.5 A, 3 3.0 A (16_cuffs_type_c_pd.md Table CUFF-4). -/
inductive CcPin where
  | open_ | ra | rd
  | rp (level : Fin 4)
deriving DecidableEq, Repr

/-- The Type-C timers of Table CUFF-3; tTryCCDebounce is the specification's own (R351). -/
inductive TcTimer where
  | ccDebounce | pdDebounce | tryCcDebounce | drpTry | tryTimeout | errorRecovery
deriving DecidableEq, Repr

/-- A PD message as received: SOP type 0 SOP, 1 SOP', 2 SOP'', and its bytes, header first (R355). -/
structure PdMessage where
  sop : Fin 3
  bytes : List Byte
deriving DecidableEq, Repr

/-- A filtered edge on a counter input: its direction, and the level of the pair's other input for quadrature (18_measurement.md R407). -/
structure PulseEdge where
  rising : Bool
  other : Bool
deriving DecidableEq, Repr

/-- A valid classical CAN frame: identifier (base identifiers in [10:0]), DLC, data, and the chain time of its start-of-frame edge
(21_isobus_bridge.md Table CAN-2). -/
structure CanFrame where
  id : BitVec 29
  ide : Bool
  rtr : Bool
  dlc : BitVec 4
  data : List Byte
  sof : BitVec 32
deriving DecidableEq, Repr

/-- How a frame of a controller ends on the bus (R459). -/
inductive CanTxOutcome where
  | sent | lostArbitration | error
deriving DecidableEq, Repr

/-- The ECC-protected memories that have a maintenance port (22_background_work.md R468). -/
inductive EccMemory where
  | sram | code (e : Fin 32) | cluster (k : Fin 4) | marks | tags | can (c : Fin 2) | pd (c : Fin 5)
deriving DecidableEq, Repr

/-- What a read of a word through its ECC finds (09_sprue_engines.md R194). -/
inductive EccState where
  | clean | correctable | uncorrectable
deriving DecidableEq, Repr

/-- What a test finds (23_stitch_test_and_bist.md): the stuck and shorted lands of a pin stitch (R491); lock, inversion and bit
errors of a neighbour test (R492); the signature of a logic self-test (R494). -/
structure TestObs where
  stuck : BitVec 16
  short : BitVec 16
  lock : Bool
  inv : Bool
  errors : BitVec 32
  sig : BitVec 32
deriving DecidableEq, Repr

/-- An uncorrectable error in memory that a flask owns: the flask and the memory address (13_flasks_and_warden.md Table FLASK-2, cause 4). -/
structure FaultIn where
  flask : Fin 64
  addr : BitVec 32
deriving DecidableEq, Repr

/-- What a training port's receiver finds (05_gleshline_link.md R105 to R109, Table LINK-3): lanes that deliver valid blocks, lanes
found inverted, logical lane 1 on physical lane 0, presets and CTLE settings chosen, lanes with an open eye in both
directions, and the partner's identity, rank and target width. -/
structure TrainObs where
  lanes : BitVec 2
  inv : BitVec 2
  swap : Bool
  pre0 : BitVec 3
  pre1 : BitVec 3
  ctle0 : BitVec 6
  ctle1 : BitVec 6
  usable : BitVec 2
  partner : BitVec 64
  rank : BitVec 2
  target : BitVec 2
deriving DecidableEq, Repr

/-- The hardware producers of runner packets (11_runners.md; codes of 12_locks_buffers_messages.md Table SYNC-1). -/
inductive HwProducer where
  | meas | can | evt
deriving DecidableEq, Repr

/-- A slot as it reaches the gate (06_cycle_frames_and_gate.md Table GATE-2): the header of its frame, bytes 0 to 3 of Table GATE-1; its own
header byte 1, bytes 2 to 3, TARGET, bytes 8 to 9 with LEN, and bytes 10 to 11, the header CRC-16; the payload and the result
field. Its row gives OP. -/
structure Slot where
  hdr : BitVec 32
  flags : BitVec 8
  addr : BitVec 16
  target : BitVec 32
  len : BitVec 16
  hcrc : BitVec 16
  payload : List Byte
  acted : BitVec 16
  refused : BitVec 8
  rflags : BitVec 8
deriving DecidableEq, Repr

/-- What END brings of a frame (R125, R145): its header, which a frame without slots shows here first; the bytes between its last whole slot
and its last four; those four, the CRC-32; whether a K30.7 or an invalid code-group stood in it; and how many PRE off a multiple of 32 bytes, IDL and ALM did,
each of which K30.7 replaced (05_gleshline_link.md R99). -/
structure FrameTail where
  hdr : BitVec 32
  rest : List Byte
  crc : BitVec 32
  broken : Bool
  misplaced : BitVec 8
deriving DecidableEq, Repr

/-- A slot whose header CRC-16 is wrong (R144), with the OP byte it carries. -/
structure BadSlot where
  op : BitVec 8
  slot : Slot
deriving DecidableEq, Repr

/-- What the arrival of the folded CYC tells (02_clocks_and_chain_time.md R37, 07_chain_topology_and_heads.md R171), in ps: the loop from
this port's sending of CYC to its return, and the time from its passing outward to its passing back. -/
structure FoldedCyc where
  loopPs : BitVec 32
  backPs : BitVec 32
deriving DecidableEq, Repr

/-- A slot of a frame that comes back to the head: the address field, the payload and the result field. -/
structure ReturnedSlot where
  addr : BitVec 16
  payload : List Byte
  acted : BitVec 16
  refused : BitVec 8
  rflags : BitVec 8
deriving DecidableEq, Repr

/-- A frame that comes back to the head (R146): the port, its index and URG bit, whether its CRC-32 is good, its slots in order. -/
structure ReturnedFrame where
  port : Fin 2
  frame : BitVec 4
  urgent : Bool
  good : Bool
  slots : List ReturnedSlot
deriving DecidableEq, Repr

end Sys2Proof
end

