-- ==== Sys2Proof/Syntax.lean ====
section
/-! DEFINITION. The commands of the block: one constructor for each row of spec/opcode_table.json, with the row's mnemonic, rule and summary. -/

namespace Sys2Proof

/-- A command, or an event outside the block. -/
inductive Instr where
  -- 10_sprue_instruction_set.md
  /-- ADD (R225): add: d := a + b, setting Z N C V. -/
  | isaAdd (e : Fin 32) (d a b : Fin 16)
  /-- SUB (R225): sub: d := a − b, setting Z N C V. -/
  | isaSub (e : Fin 32) (d a b : Fin 16)
  /-- ADC (R225): adc: d := a + b + C. -/
  | isaAdc (e : Fin 32) (d a b : Fin 16)
  /-- SBC (R225): sbc: d := a − b − (1 − C). -/
  | isaSbc (e : Fin 32) (d a b : Fin 16)
  /-- AND (R225): and: bitwise AND. -/
  | isaAnd (e : Fin 32) (d a b : Fin 16)
  /-- OR (R225): or: bitwise OR. -/
  | isaOr (e : Fin 32) (d a b : Fin 16)
  /-- XOR (R225): xor: bitwise XOR. -/
  | isaXor (e : Fin 32) (d a b : Fin 16)
  /-- ANDN (R225): andn: a AND NOT b. -/
  | isaAndn (e : Fin 32) (d a b : Fin 16)
  /-- SHL (R225): shl: shift left by b[4:0]. -/
  | isaShl (e : Fin 32) (d a b : Fin 16)
  /-- SHR (R225): shr: logical shift right by b[4:0]. -/
  | isaShr (e : Fin 32) (d a b : Fin 16)
  /-- SAR (R225): sar: arithmetic shift right by b[4:0]. -/
  | isaSar (e : Fin 32) (d a b : Fin 16)
  /-- ROR (R225): ror: rotate right by b[4:0]. -/
  | isaRor (e : Fin 32) (d a b : Fin 16)
  /-- ADDS (R225): adds: saturating signed add, setting S on saturation. -/
  | isaAdds (e : Fin 32) (d a b : Fin 16)
  /-- SUBS (R225): subs: saturating signed subtract. -/
  | isaSubs (e : Fin 32) (d a b : Fin 16)
  /-- MIN (R225): min: signed minimum. -/
  | isaMin (e : Fin 32) (d a b : Fin 16)
  /-- MAX (R225): max: signed maximum. -/
  | isaMax (e : Fin 32) (d a b : Fin 16)
  /-- MINU (R225): minu: unsigned minimum. -/
  | isaMinu (e : Fin 32) (d a b : Fin 16)
  /-- MAXU (R225): maxu: unsigned maximum. -/
  | isaMaxu (e : Fin 32) (d a b : Fin 16)
  /-- CMP (R225): cmp: sets flags from a − b. -/
  | isaCmp (e : Fin 32) (a b : Fin 16)
  /-- TST (R225): tst: sets flags from a AND b. -/
  | isaTst (e : Fin 32) (a b : Fin 16)
  /-- ABS (R225): abs: saturating absolute value. -/
  | isaAbs (e : Fin 32) (d a : Fin 16)
  /-- NEG (R225): neg: d := 0 − a. -/
  | isaNeg (e : Fin 32) (d a : Fin 16)
  /-- CLZ (R225): clz: count of leading zeros. -/
  | isaClz (e : Fin 32) (d a : Fin 16)
  /-- ADDI (R225): addi: add a sign-extended immediate. -/
  | isaAddi (e : Fin 32) (d a : Fin 16) (imm : BitVec 14)
  /-- ANDI (R225): andi: AND with a zero-extended immediate. -/
  | isaAndi (e : Fin 32) (d a : Fin 16) (imm : BitVec 14)
  /-- ORI (R225): ori: OR with an immediate. -/
  | isaOri (e : Fin 32) (d a : Fin 16) (imm : BitVec 14)
  /-- XORI (R225): xori: XOR with an immediate. -/
  | isaXori (e : Fin 32) (d a : Fin 16) (imm : BitVec 14)
  /-- SHLI (R225): shli: shift left by an immediate. -/
  | isaShli (e : Fin 32) (d a : Fin 16) (n : Fin 32)
  /-- SHRI (R225): shri: logical shift right by an immediate. -/
  | isaShri (e : Fin 32) (d a : Fin 16) (n : Fin 32)
  /-- SARI (R225): sari: arithmetic shift right by an immediate. -/
  | isaSari (e : Fin 32) (d a : Fin 16) (n : Fin 32)
  /-- RORI (R225): rori: rotate right by an immediate. -/
  | isaRori (e : Fin 32) (d a : Fin 16) (n : Fin 32)
  /-- CMPI (R225): cmpi: sets flags from a minus an immediate. -/
  | isaCmpi (e : Fin 32) (a : Fin 16) (imm : BitVec 14)
  /-- MOVI (R225): movi: d := sign-extended imm16. -/
  | isaMovi (e : Fin 32) (d : Fin 16) (imm : BitVec 16)
  /-- MOVHI (R225): movhi: loads the upper half of d. -/
  | isaMovhi (e : Fin 32) (d : Fin 16) (imm : BitVec 16)
  /-- MUL (R228): mul: low 32 bits of the product. -/
  | isaMul (e : Fin 32) (d a b : Fin 16)
  /-- MULH (R228): mulh: high word of the signed product. -/
  | isaMulh (e : Fin 32) (d a b : Fin 16)
  /-- MULHU (R228): mulhu: high word of the unsigned product. -/
  | isaMulhu (e : Fin 32) (d a b : Fin 16)
  /-- MAC (R226): mac: adds the integer product to ACC with saturation. -/
  | isaMac (e : Fin 32) (a b : Fin 16)
  /-- MSU (R226): msu: subtracts the integer product from ACC with saturation. -/
  | isaMsu (e : Fin 32) (a b : Fin 16)
  /-- MAC_Q31 (R226): mac.q31: adds the rounded Q31 product to ACC. -/
  | isaMacQ31 (e : Fin 32) (a b : Fin 16)
  /-- MSU_Q31 (R226): msu.q31: subtracts the rounded Q31 product from ACC. -/
  | isaMsuQ31 (e : Fin 32) (a b : Fin 16)
  /-- MAC_Q15 (R226): mac.q15: adds the Q15 product, in Q31 scale, to ACC. -/
  | isaMacQ15 (e : Fin 32) (a b : Fin 16)
  /-- MSU_Q15 (R226): msu.q15: subtracts the Q15 product from ACC. -/
  | isaMsuQ15 (e : Fin 32) (a b : Fin 16)
  /-- DIV (R228): div: signed divide in 18 cc, with defined special cases. -/
  | isaDiv (e : Fin 32) (d a b : Fin 16)
  /-- DIVU (R228): divu: unsigned divide. -/
  | isaDivu (e : Fin 32) (d a b : Fin 16)
  /-- REM (R228): rem: signed remainder. -/
  | isaRem (e : Fin 32) (d a b : Fin 16)
  /-- REMU (R228): remu: unsigned remainder. -/
  | isaRemu (e : Fin 32) (d a b : Fin 16)
  /-- BFX (R228): bfx: extracts a zero-extended bit field. -/
  | isaBfx (e : Fin 32) (d a : Fin 16) (pos wm1 : Fin 32)
  /-- BFXS (R228): bfxs: extracts a sign-extended bit field. -/
  | isaBfxs (e : Fin 32) (d a : Fin 16) (pos wm1 : Fin 32)
  /-- BFI (R228): bfi: inserts a bit field into d. -/
  | isaBfi (e : Fin 32) (d a : Fin 16) (pos wm1 : Fin 32)
  /-- RACC_LO (R227): racc.lo: reads ACC[31:0], optionally clearing ACC. -/
  | isaRaccLo (e : Fin 32) (d : Fin 16) (clear : Bool)
  /-- RACC_HI (R227): racc.hi: reads ACC[63:32]. -/
  | isaRaccHi (e : Fin 32) (d : Fin 16) (clear : Bool)
  /-- RACC_Q31 (R227): racc.q31: reads ACC saturated to 32 bits. -/
  | isaRaccQ31 (e : Fin 32) (d : Fin 16) (clear : Bool)
  /-- RACC_Q15 (R227): racc.q15: reads ACC rounded and saturated to Q15. -/
  | isaRaccQ15 (e : Fin 32) (d : Fin 16) (clear : Bool)
  /-- WACC (R228): wacc: loads ACC from b:a. -/
  | isaWacc (e : Fin 32) (a b : Fin 16)
  /-- LDW (R229): ldw: loads a word, or takes trap 2 on a refused access. -/
  | isaLdw (e : Fin 32) (d a : Fin 16) (imm : BitVec 14)
  /-- LDHS (R229): ldhs: loads a sign-extended halfword. -/
  | isaLdhs (e : Fin 32) (d a : Fin 16) (imm : BitVec 14)
  /-- LDHU (R229): ldhu: loads a zero-extended halfword. -/
  | isaLdhu (e : Fin 32) (d a : Fin 16) (imm : BitVec 14)
  /-- LDBS (R229): ldbs: loads a sign-extended byte. -/
  | isaLdbs (e : Fin 32) (d a : Fin 16) (imm : BitVec 14)
  /-- LDBU (R229): ldbu: loads a zero-extended byte. -/
  | isaLdbu (e : Fin 32) (d a : Fin 16) (imm : BitVec 14)
  /-- STW (R229): stw: stores a word and sets ACCESS. -/
  | isaStw (e : Fin 32) (d a : Fin 16) (imm : BitVec 14)
  /-- STH (R229): sth: stores a halfword. -/
  | isaSth (e : Fin 32) (d a : Fin 16) (imm : BitVec 14)
  /-- STB (R229): stb: stores a byte. -/
  | isaStb (e : Fin 32) (d a : Fin 16) (imm : BitVec 14)
  /-- B_COND (R231): b.cond: branches when the condition holds, popping loop levels as needed. -/
  | isaBCond (e : Fin 32) (cond : BitVec 4) (imm : BitVec 14)
  /-- CALL (R231): call: g15 := pc + 1, then jumps. -/
  | isaCall (e : Fin 32) (imm : BitVec 14)
  /-- JR (R231): jr: jumps to a[10:0]. -/
  | isaJr (e : Fin 32) (a : Fin 16)
  /-- CALLR (R231): callr: calls through a register. -/
  | isaCallr (e : Fin 32) (a : Fin 16)
  /-- LOOP (R232): loop: pushes a counted-loop level, or skips the body for count 0. -/
  | isaLoop (e : Fin 32) (a : Fin 16) (imm : BitVec 14)
  /-- DBNZ (R231): dbnz: decrements d and branches if it is non-zero. -/
  | isaDbnz (e : Fin 32) (d : Fin 16) (imm : BitVec 14)
  /-- RPUT (R248): rput: appends a DATA word to a runner. -/
  | isaRput (e : Fin 32) (a b : Fin 16)
  /-- RPUTE (R248): rpute: appends a DATA_END word to a runner. -/
  | isaRpute (e : Fin 32) (a b : Fin 16)
  /-- RGET (R249): rget: takes the oldest item, waiting while the runner is empty. -/
  | isaRget (e : Fin 32) (d a : Fin 16)
  /-- RTRY (R249): rtry: takes the oldest item without waiting. -/
  | isaRtry (e : Fin 32) (d a : Fin 16)
  /-- RINFO (R246): rinfo: returns the packets or words waiting. -/
  | isaRinfo (e : Fin 32) (d a : Fin 16) (words : Bool)
  /-- RDROPP (R254): rdropp: discards the rest of the current packet. -/
  | isaRdropp (e : Fin 32) (a : Fin 16)
  /-- BALLOC (R269): balloc: allocates a buffer, waiting while none is available. -/
  | isaBalloc (e : Fin 32) (d : Fin 16)
  /-- BTRY (R269): btry: allocates a buffer without waiting. -/
  | isaBtry (e : Fin 32) (d : Fin 16)
  /-- BFREE (R270): bfree: returns a buffer to the pool, or traps 7 on misuse. -/
  | isaBfree (e : Fin 32) (a : Fin 16)
  /-- BGIVE (R270): bgive: transfers ownership of a buffer. -/
  | isaBgive (e : Fin 32) (a b : Fin 16)
  /-- PIN (R206): pin: reads an instrument port named by imm16. -/
  | isaPin (e : Fin 32) (d : Fin 16) (port : BitVec 16)
  /-- POUT (R206): pout: writes an instrument port named by imm16. -/
  | isaPout (e : Fin 32) (d : Fin 16) (port : BitVec 16)
  /-- PINR (R206): pinr: reads the port named in a register. -/
  | isaPinr (e : Fin 32) (d a : Fin 16)
  /-- POUTR (R206): poutr: writes the port named in a register. -/
  | isaPoutr (e : Fin 32) (a b : Fin 16)
  /-- CTL (R236): ctl: reads chain time [31:0] and latches [63:32]. -/
  | isaCtl (e : Fin 32) (d : Fin 16)
  /-- CTH (R236): cth: reads the chain-time latch. -/
  | isaCth (e : Fin 32) (d : Fin 16)
  /-- CYC (R236): cyc: reads the current cycle number. -/
  | isaCyc (e : Fin 32) (d : Fin 16)
  /-- WMARK (R209): wmark: waits for the next swap. -/
  | isaWmark (e : Fin 32)
  /-- WTIME (R209): wtime: waits until chain time reaches b:a. -/
  | isaWtime (e : Fin 32) (a b : Fin 16)
  /-- EVWAIT (R237): evwait: takes the lowest pending event bit, waiting while none is set. -/
  | isaEvwait (e : Fin 32) (d : Fin 16)
  /-- EVPOLL (R237): evpoll: takes the lowest pending event bit without waiting. -/
  | isaEvpoll (e : Fin 32) (d : Fin 16)
  /-- EVSIG (R238): evsig: fires engine-signal source a. -/
  | isaEvsig (e : Fin 32) (a : Fin 16)
  /-- LACQ (R262): lacq: acquires a lock, waiting while another owner holds it. -/
  | isaLacq (e : Fin 32) (d a : Fin 16)
  /-- LTRY (R262): ltry: tries to acquire a lock. -/
  | isaLtry (e : Fin 32) (d a : Fin 16)
  /-- LREL (R263): lrel: releases a lock, handing it to the oldest waiter. -/
  | isaLrel (e : Fin 32) (a : Fin 16)
  /-- LCLR (R262): lclr: clears the poison of a held lock. -/
  | isaLclr (e : Fin 32) (a : Fin 16)
  /-- MSEND (R274): msend: puts a buffer as a message into a mailbox. -/
  | isaMsend (e : Fin 32) (d a b : Fin 16)
  /-- MRECV (R274): mrecv: takes the oldest message, waiting while the mailbox is empty. -/
  | isaMrecv (e : Fin 32) (d a : Fin 16)
  /-- MTRY (R274): mtry: takes the oldest message without waiting. -/
  | isaMtry (e : Fin 32) (d a : Fin 16)
  /-- CSRR (R241): csrr: reads a CSR. -/
  | isaCsrr (e : Fin 32) (d : Fin 16) (n : BitVec 12)
  /-- CSRW (R241): csrw: writes a CSR under its access code, a WDOG write kicking the watchdog. -/
  | isaCsrw (e : Fin 32) (n : BitVec 12) (a : Fin 16)
  /-- ENGINE_NOP (R241): nop: does nothing. -/
  | isaNop (e : Fin 32)
  /-- HALT (R241): halt: the engine enters HALT with pc := pc + 1. -/
  | isaHalt (e : Fin 32)
  /-- TRAP (R241): trap: a software trap with cause 8 and a code. -/
  | isaTrap (e : Fin 32) (code : BitVec 10)
  /-- WFLG (R241): wflg: writes Z N C V S from a. -/
  | isaWflg (e : Fin 32) (a : Fin 16)
  /-- CRC16_B (R242): crc16.b: a CRC-16 step over one byte. -/
  | isaCrc16B (e : Fin 32) (d a : Fin 16)
  /-- CRC16_W (R242): crc16.w: a CRC-16 step over four bytes. -/
  | isaCrc16W (e : Fin 32) (d a : Fin 16)
  /-- CRC32_B (R242): crc32.b: a CRC-32 step over one byte. -/
  | isaCrc32B (e : Fin 32) (d a : Fin 16)
  /-- CRC32_W (R242): crc32.w: a CRC-32 step over four bytes. -/
  | isaCrc32W (e : Fin 32) (d a : Fin 16)
  /-- ILLEGAL_INSTRUCTION (R222): An instruction word with a reserved opcode or func, cond 15, a non-zero unnamed field or a failed decode check takes trap 1 before it has any effect. -/
  | illegalInstruction (e : Fin 32) (word : BitVec 32)
  -- 01_node_and_chain.md
  /-- REGISTER_WRITE (R55): A write to a register field that has no row of its own acts under its access code, including RW-E ignore and count and RW-P shadow writes. -/
  | registerWrite (r : Requester) (w : Access) (addr data : BitVec 32)
  /-- LO_READ_CAPTURE (R68): A read of a _LO register returns the low half and captures the matching _HI half in the same cc. -/
  | loReadCapture (r : Requester) (addr : BitVec 32)
  /-- SEAM_FRAME_RECEIVE (R17): A die receives a seam frame, discards it and counts it in CRC_CNT on a bad CRC, or delivers its items, copies and beacons. -/
  | seamFrameReceive (die : Die) (crcOk : Bool)
  /-- SEAM_KEEPALIVE (R18): The core die sends a seam frame carrying the time beacon when 1 µs has passed since its last frame. -/
  | seamKeepalive
  /-- SEAM_LOSS_DECLARE (R19): After 20 µs without a valid frame, the field die applies safe states, hands the Cuffs to safe policy, marks the flasks and sets SAFE. -/
  | seamLossDeclare
  /-- SEAM_LOSS_KNOWN (R514): The core die learns of seam loss, from the report or from 20 µs of silence, and originates ALM cause 4 once. -/
  | seamLossKnown
  /-- SEAM_UP_RESUME (R291): When the seam is UP again, the warden fences the marked field-die flasks with cause 7 and sends the fence-lane words afresh. -/
  | seamUpResume
  /-- SEAM_RETRAIN_GO (R24): SEAM.RETRAIN.GO starts a seam retrain and sets RETRAIN_BUSY, or is STATE_REJECT while a retrain is busy. -/
  | seamRetrainGo (r : Requester)
  /-- SEAM_RETRAIN_DONE (R24): Valid frames arrive in both directions again and RETRAIN_BUSY clears. -/
  | seamRetrainDone
  /-- COPY_SET_CAPTURE (R31): On each rising edge of the 1 MHz copy clock, the field die captures every status field at one instant and sends the set across the seam. -/
  | copySetCapture
  /-- CORE_PLL_LOCK_LOSS (R26): When the core PLL has been out of lock for 10 µs, the node raises a clock-loss core reset. -/
  | corePllLockLoss
  /-- FREQ_MEASURE (R27): Once per second, the node measures CORE against KEEPF and updates CLK.FREQ.PPM. -/
  | freqMeasure (tenthPpm : BitVec 16)
  -- 02_clocks_and_chain_time.md
  /-- CYC_SEND (R100): At its mark, the head sends CYC, swaps banks and then builds its housekeeping, slot-map and tunnel frames for the cycle. -/
  | cycSend
  /-- CYC_RECEIVE (R35): A member receives a CYC, checks its body CRC, steers chain time through its synchronisation state and forwards the CYC. -/
  | cycReceive (p : Fin 2) (body : List (BitVec 8))
  /-- HOLDOVER_ENTRY (R35): When a CYC has not arrived within 2,000 ns of its predicted instant, the member enters HOLDOVER. -/
  | holdoverEntry
  /-- LOCAL_MARK (R45): In HOLDOVER, the member makes a local mark, numbers it one past the last, swaps and counts it in MISS_CNT. -/
  | localMark
  /-- USB_LOCK_LOSS (R43): When SOFs stop arriving, the head free-runs from CORE, clears USB_LOCK and raises the USB-lock event. -/
  | usbLockLoss
  /-- APPLY_INSTANT (R46): When the field die's chain time reaches the apply instant, it applies the setpoints it holds and judges fresh and missed setpoints. -/
  | applyInstant
  /-- FIELD_POUR_APPLY (R60): Field-die units take their poured shadow values together, at one instant, within 500 ns of the pour. -/
  | fieldPourApply
  /-- LOCAL_POUR (R60): A write to SYS.POUR.MASK pours every named group except PG15, or is STATE_REJECT as a whole. -/
  | localPour (r : Requester) (mask : BitVec 16)
  /-- WITHDRAW (R61): A write to SYS.WITHDRAW.MASK discards the shadows of the named groups, or is STATE_REJECT when a named group is armed. -/
  | withdraw (r : Requester) (mask : BitVec 16)
  /-- REFILL_COMPLETE (R59): The refill of a double table's new shadow ends, and its group leaves SYS.REFILL. -/
  | refillComplete (g : Fin 16)
  /-- ARMED_POUR (R65): At the target mark of an accepted pour, the armed groups pour before the bank swap. -/
  | armedPour
  /-- POUR_LAPSE (R64): An armed node whose target passes without a pour withdraws its arm and raises the pour-lapse event. -/
  | pourLapse
  /-- CH_GO (R66): A write to SYS.CH_GO on the head starts a chain-wide arm and pour sequence, or is STATE_REJECT. -/
  | chGo (r : Requester) (v : BitVec 32)
  -- 04_power_up_to_service.md
  /-- TRUNK_POR (R70): The trunk falls below 7.0 V and the whole node resets, with the pass-through off. -/
  | trunkPor
  /-- KEEP_POR_RELEASE (R73): After the trunk has stayed above 8.0 V for 0.5 ms, the keep domain leaves POR and starts rail sequencing. -/
  | keepPorRelease
  /-- RAIL_PG_HIGH (R73): A rail's PG land goes high during sequencing. -/
  | railPgHigh (rail : Rail)
  /-- RAIL_ENABLE_NEXT (R73): 0.1 ms after a PG goes high, the keep domain drives the next rail's EN high. -/
  | railEnableNext
  /-- RAIL_PG_TIMEOUT (R74): A PG land that is not high within 10 ms of its EN makes the keep domain drop all rails and record RAIL_FAIL. -/
  | railPgTimeout
  /-- RAIL_RETRY (R74): After a 100 ms wait, the keep domain starts the rail sequence again, up to three attempts. -/
  | railRetry
  /-- RAIL_DISABLE_NEXT (R75): During power-down, the keep domain drops the next EN once the previous PG is low or 2 ms have passed. -/
  | railDisableNext
  /-- RAIL_RESET (R70): A PG land held low for 10 µs while its EN is high causes a rail reset and re-sequencing. -/
  | railReset (rail : Rail)
  /-- NRST_PULSE (R71): NRST low for 1 µs or longer causes a core reset for as long as it stays low. -/
  | nrstPulse
  /-- NRST_LONG (R71): NRST still low 10 ms after it fell turns the core reset into a node reset. -/
  | nrstLong
  /-- RESET_CORE (R70): SYS.RESET.CORE resets the core die alone. -/
  | resetCore (r : Requester)
  /-- RESET_NODE (R70): SYS.RESET.NODE resets both dies, except the keep domain, and ends the Cuff contracts. -/
  | resetNode (r : Requester)
  /-- FIELD_RESET_RELEASE (R76): The field die leaves reset when PG_AUX and PG_LOG are high, with its outputs safe and its Cuffs on safe policy. -/
  | fieldResetRelease
  /-- CORE_RESET_RELEASE (R76): The core die leaves reset once PG_COR is high and the PLL is locked, samples the straps and runs the boot ROM. -/
  | coreResetRelease (role : BitVec 2) (bootsel : Bool)
  /-- JOURNAL_SCAN (R476): At core start, BKG scans the journal, loads CHAIN.INFO2 and, on a head, CT_INIT, and sets JRNL_READY. -/
  | journalScan
  /-- IMAGE_VERIFY_DONE (R85): The boot ROM completes its checks of an image within 2.0 ms of the last byte, and then starts it or records an error. -/
  | imageVerifyDone
  /-- CHAIN_IMAGE_BEGIN (R80): A BEGIN message in M63 starts a chain image on a member and is answered in M62. -/
  | chainImageBegin
  /-- CHAIN_IMAGE_DATA (R80): A DATA message in M63 writes image bytes to NOR in order and is answered with the next expected offset. -/
  | chainImageData
  /-- CHAIN_IMAGE_END (R80): An END message in M63 has the boot ROM check and start the chain image. -/
  | chainImageEnd
  /-- BOOT_STORE (R81): SYS.BOOT_CMD.STORE starts copying the running image into a NOR slot, or is STATE_REJECT. -/
  | bootStore (r : Requester)
  /-- BOOT_STORE_DONE (R81): The store of the running image to NOR completes and STORE_BUSY clears. -/
  | bootStoreDone
  /-- OTP_STAGE (R88): A write to SYS.OTP_STAGE appends a key-hash word, or a ninth word is STATE_REJECT. -/
  | otpStage (r : Requester) (word : BitVec 32)
  /-- OTP_PROG_KEY (R88): SYS.OTP_PROG.KEY starts programming the staged key hash, or is STATE_REJECT. -/
  | otpProgKey (r : Requester)
  /-- OTP_PROG_CLEAR (R88): SYS.OTP_PROG.CLEAR empties the key-hash stage. -/
  | otpProgClear (r : Requester)
  /-- OTP_PROG_DONE (R88): OTP programming completes, sets KEY_SET or FAIL, and clears BUSY. -/
  | otpProgDone (ok : Bool)
  /-- RB_COMMIT (R88): SYS.RB_COMMIT.GO raises the anti-rollback counter to the running image's index, or is STATE_REJECT. -/
  | rbCommit (r : Requester)
  /-- HEAD_LISTEN_END (R89): A head's 500 µs listen window after core-reset release ends without a CYC received. -/
  | headListenEnd
  /-- PWR_RUN (R92): SYS.PWR.REQ 0 returns the node from IDLE to RUN. -/
  | pwrRun (r : Requester)
  /-- PWR_IDLE (R92): SYS.PWR.REQ 1 enters IDLE, halting engines other than those waiting on events or running Cuff policy. -/
  | pwrIdle (r : Requester)
  /-- PWR_STANDBY (R92): SYS.PWR.REQ 2 enters STANDBY with both ports untrained, or is STATE_REJECT. -/
  | pwrStandby (r : Requester)
  /-- PWR_OFF (R92): SYS.PWR.REQ 3 enters OFF, leaving only the keep domain powered. -/
  | pwrOff (r : Requester)
  /-- PWR_TRUNK_OFF (R92): SYS.PWR.TRUNK_OFF together with REQ 3 opens the pass-through on entry to OFF. -/
  | pwrTrunkOff (r : Requester)
  /-- WAKE_TIMER (R93): A write to SYS.WAKE_TIMER loads the keep wake timer, or cancels it with 0. -/
  | wakeTimer (r : Requester) (sec : BitVec 32)
  /-- WAKE_TIMER_EXPIRE (R93): The keep wake timer expires and latches a wake cause. -/
  | wakeTimerExpire
  /-- STANDBY_WAKE (R93): A latched wake cause in STANDBY or OFF raises the rails and ends in a core reset or a full start-up. -/
  | standbyWake
  -- 05_gleshline_link.md
  /-- ALM_RECEIVE (R103): A node forwards a received ALM, records it in ALM_LAST and raises the ring-alarm event. -/
  | almReceive (p : Fin 2) (body : List (BitVec 8))
  /-- ALM_SEND (R103): A node originates ALM for its cause at the first idle run after that cause. -/
  | almSend (p : Fin 2)
  /-- LINK_SIGNAL_DETECT (R105): A port in DOWN that sees signal for 1 µs enters DETECT. -/
  | linkSignalDetect (p : Fin 2)
  /-- LINK_STATE_ADVANCE (R105): A training port meets its state's exit condition and moves to the next training state. -/
  | linkStateAdvance (p : Fin 2) (obs : TrainObs)
  /-- LINK_TRAIN_TIMEOUT (R105): A training state times out, and the port records FAIL_STATE, counts FAIL_CNT and enters QUIET. -/
  | linkTrainTimeout (p : Fin 2)
  /-- QUIET_END (R105): After 1 ms in QUIET, the port returns to DOWN. -/
  | quietEnd (p : Fin 2)
  /-- LINK_UP (R109): At the end of CONFIRM, the port sets its DCQ depths, enters ACTIVE, counts TRAIN_CNT and raises link-up. -/
  | linkUp (p : Fin 2) (outResid retResid : BitVec 16)
  /-- LANE_LOSS (R111): A lane is lost through signal absence or code errors, and the port downshifts or leaves ACTIVE for DOWN. -/
  | laneLoss (p lane : Fin 2)
  /-- LINK_REQUEST_RECEIVE (R113): A width or retrain request arrives in IDL/T and is acknowledged, or is settled against a local request by seniority. -/
  | linkRequestReceive (p : Fin 2) (body : List (BitVec 8))
  /-- LINK_REQUEST_TIMEOUT (R113): A request unacknowledged within two cycles fails, and REQ_RESULT reads failed. -/
  | linkRequestTimeout (p : Fin 2)
  /-- WIDTH_SWITCH (R113): Both ends switch width at the K28.5 of the CYC of request cycle C. -/
  | widthSwitch (p : Fin 2)
  /-- UPSHIFT_LANE_READY (R113): Lane 1 completes DETECT, ORDER and EQ alone for an upshift. -/
  | upshiftLaneReady (p : Fin 2)
  /-- REQUEST_REISSUE (R114): A node-raised request withdrawn for seniority is issued again if its trigger holds for 1 ms after the senior's completes. -/
  | requestReissue (p : Fin 2)
  /-- ERR_LIMIT_RETRAIN (R115): A lane that counts more than ERR_LIMIT invalid code-groups within 1 ms makes the port request a retrain. -/
  | errLimitRetrain (p lane : Fin 2) (errors : Nat)
  /-- LINK_ENABLE (R105): LINK.CTRL.ENABLE sets EN, and the port starts training from DOWN. -/
  | linkEnable (r : Requester) (p : Fin 2)
  /-- LINK_DISABLE (R105): LINK.CTRL.DISABLE clears EN, takes the port DOWN and idles its transmitters. -/
  | linkDisable (r : Requester) (p : Fin 2)
  /-- LINK_RETRAIN (R113): LINK.CTRL.RETRAIN requests a retrain, or is STATE_REJECT while REQ_BUSY is 1. -/
  | linkRetrain (r : Requester) (p : Fin 2)
  /-- LINK_WIDTH (R113): LINK.CTRL.WIDTH requests a width change, or is STATE_REJECT while REQ_BUSY is 1. -/
  | linkWidth (r : Requester) (p : Fin 2) (w : BitVec 2)
  /-- MARGIN_GO (R123): LINK.MARGIN_CTRL.GO starts a margin scan of the named lane, or is STATE_REJECT while any scan runs. -/
  | marginGo (r : Requester) (p lane : Fin 2)
  /-- MARGIN_SCAN_DONE (R123): A margin scan ends, writes MARGIN and clears BUSY. -/
  | marginScanDone (p : Fin 2) (open_ : Bool) (width : BitVec 6) (height : BitVec 8)
  /-- SLEEP_GO (R116): CHAIN.SLEEP_GO on the head starts the sleep agreement, or is STATE_REJECT. -/
  | sleepGo (r : Requester) (lead : BitVec 4)
  /-- SLEEP_PROP (R117): A write of S to CHAIN.SLEEP_PROP sets the node PROPOSED, or is refused, and a write of 0 cancels. -/
  | sleepProp (r : Requester) (cycle : BitVec 32)
  /-- SLP_RECEIVE (R119): A member forwards SLP, and once SLP has passed back headward, it idles its transmitters and enters STANDBY. -/
  | slpReceive (p : Fin 2) (body : List (BitVec 8))
  /-- STANDBY_LANE_WAKE (R120): A node in STANDBY latches a wake when a lane shows signal for 10 µs. -/
  | standbyLaneWake (p lane : Fin 2)
  /-- WAK_BURST_END (R120): After 100 µs of WAK, a waking node starts training from DOWN. -/
  | wakBurstEnd
  /-- REQUEST_ACKNOWLEDGEMENT (R113): The partner's acknowledgement of this end's width or retrain request arrives in IDL/T, and a retrain enters DETECT or a width change is fixed for cycle C. -/
  | requestAcknowledgement (p : Fin 2)
  /-- JOIN_LINK_NORMAL (R163): On a join link, the partner's rank in run-time IDL/T turns 2, the link becomes normal and the fold lifts at the next mark. -/
  | joinLinkNormal (p : Fin 2)
  -- 06_cycle_frames_and_gate.md
  /-- FRAME_END (R145): At END, the gate checks the CRC-32, then applies or discards the commit log, stomping the CRC and counting on failure. -/
  | frameEnd (f : FrameTail)
  /-- SLOT_HEADER_CRC_FAIL (R144): A slot with a bad header CRC stops all action in the frame and is forwarded with a complemented CRC-16. -/
  | slotHeaderCrcFail (x : BadSlot)
  /-- NOP (R130): A NOP slot passes without action. -/
  | nopSlot (x : Slot)
  /-- BAD_OP_SLOT (R130): A slot with a reserved OP or reserved bits passes unchanged and is counted in BAD_OP_CNT. -/
  | badOpSlot (op : BitVec 8) (x : Slot)
  /-- HOP_RD (R129): The node at hop 0 reads registers into the payload, and other nodes decrement the hop. -/
  | hopRd (x : Slot)
  /-- HOP_WR (R129): The node at hop 0 logs a register write of the payload words for commit. -/
  | hopWr (x : Slot)
  /-- ST_RD (R134): The addressed station reads registers into the payload, or defers the read. -/
  | stRd (x : Slot)
  /-- ST_WR (R135): The addressed station decides the outcome of writing the payload words and logs the write for commit. -/
  | stWr (x : Slot)
  /-- ST_RW (R130): The addressed station returns the old gate-fast words and logs the new words for writing. -/
  | stRw (x : Slot)
  /-- BC_OR (R130): Each node ORs its gate-fast words into the payload. -/
  | bcOr (x : Slot)
  /-- IMG_RD (R139): Each serving node fills the bytes its input windows map from the input image, flagging STALE and POISONED. -/
  | imgRd (x : Slot)
  /-- IMG_WR (R139): Each serving node takes the bytes its output windows map into its commit log. -/
  | imgWr (x : Slot)
  /-- MBX_PUT (R275): The addressed node reserves an entry and a buffer and writes one message into an inbound mailbox at commit, or refuses. -/
  | mbxPut (x : Slot)
  /-- MBX_GET (R276): The addressed node copies the oldest message of an outbound mailbox into the payload, and the message leaves at commit. -/
  | mbxGet (x : Slot)
  /-- TUNNEL (R335): The addressed remote commits the down records and fills the up area with poll results, non-periodic results and port events. -/
  | tunnel (x : Slot)
  /-- TELEM (R482): A TELEM slot collects health words, or one chunk of a station's full set. -/
  | telem (x : Slot)
  /-- EVENT (R500): Each node fills empty positions of an EVENT slot with its oldest chain-routed records, which leave at commit. -/
  | eventSlot (x : Slot)
  /-- POUR_ARM (R62): The addressed node arms the named groups for the target cycle when every check passes, or refuses. -/
  | pourArm (x : Slot)
  /-- POUR (R63): A node armed with the same mask and target accepts the pour, and a node reached by a late or withdraw slot withdraws its arm. -/
  | pourSlot (x : Slot)
  /-- DELAY (R37): Each member adds its residence difference to the accumulator and, while pending, records A_k and sets d_k. -/
  | delaySlot (x : Slot)
  /-- URGENT_PRE (R143): At PRE, the gate saves the state of the normal frame and handles the urgent frame as a frame of its own. -/
  | urgentPre
  /-- URGENT_RES (R143): At RES, the gate restores the normal frame and continues mid-slot. -/
  | urgentRes
  /-- URG_GO (R147): A write to GATE.URG_GO queues an urgent frame template, or is STATE_REJECT. -/
  | urgGo (r : Requester) (frame : BitVec 4)
  /-- URGENT_SEND (R142): The head sends a queued urgent frame at the next allowed 32-byte boundary or idle point. -/
  | urgentSend
  /-- HEAD_FRAME_RETURN (R146): A frame returns to the head, which writes back payloads and results, then sets HEAD_RET_CYC and HEAD_RET_ERR. -/
  | headFrameReturn (f : ReturnedFrame)
  -- 07_chain_topology_and_heads.md
  /-- ASSIGN_UID0 (R154): A write to CHAIN.ASSIGN_UID0 stages identity bits [31:0]. -/
  | assignUid0 (r : Requester) (w : BitVec 32)
  /-- ASSIGN_UID1 (R154): A write to CHAIN.ASSIGN_UID1 stages identity bits [63:32]. -/
  | assignUid1 (r : Requester) (w : BitVec 32)
  /-- ASSIGN (R154): A write to CHAIN.ASSIGN gives the node its station address when the staged identity is its own, or is STATE_REJECT. -/
  | assign (r : Requester) (w : BitVec 32)
  /-- STICKY_SAVE (R155): Within 2 s, a newly accepted address that differs from the record is written to the journal as the sticky address. -/
  | stickySave
  /-- STICKY_CLR (R155): CHAIN.STICKY_CLR.GO erases the sticky address record. -/
  | stickyClr (r : Requester)
  /-- DETACH (R164): A write of cycle C to CHAIN.DETACH prepares a planned uncoupling, or is STATE_REJECT. -/
  | detach (r : Requester) (cycle : BitVec 32)
  /-- DETACH_EXECUTE (R164): At mark C, the member folds, idles its tailward transmitters, opens its pass-through and sets DETACHED. -/
  | detachExecute
  /-- DETACH_END (R164): A write of 0 to CHAIN.DETACH ends the detached state, and the tailward port trains again. -/
  | detachEnd (r : Requester)
  /-- EPOCH_START (R166): At a mark, the head begins a new epoch and copies the epoch content into its buffer. -/
  | epochStart
  /-- CKPT_CHUNK (R168): A write to CKPT_IN word 63 makes the reserve judge the chunk and, after the last one, check the CRC and complete the epoch. -/
  | ckptChunk (r : Requester) (w : BitVec 32)
  /-- RESERVE_TAKEOVER (R169): After three missing marks, a READY reserve installs its complete epoch and sends CYC m+4 as head. -/
  | reserveTakeover
  /-- REV_Q_LOAD (R171): A write to CHAIN.REV_Q loads Q for the reversed-delay computation. -/
  | revQLoad (r : Requester) (q : BitVec 32)
  /-- HANDBACK_GO (R172): CHAIN.HANDBACK_GO on an acting reserve schedules the handback, or is STATE_REJECT. -/
  | handbackGo (r : Requester) (lead : BitVec 4)
  /-- HANDBACK_START (R172): From mark H, the reserve sends no CYC, and members send rank 2 to join the original head. -/
  | handbackStart
  /-- FOLDED_CYC_ARRIVAL (R171): The folded CYC returns to a node's tailward receiver, where a member measures L and T_k and the head measures L0. -/
  | foldedCycArrival (p : Fin 2) (x : FoldedCyc)
  -- 09_sprue_engines.md
  /-- ENGINE_START (R213): ENG.CTL.START starts a halted engine from PC, or is STATE_REJECT. -/
  | engineStart (r : Requester) (e : Fin 32)
  /-- ENGINE_HALT (R197): ENG.CTL.HALT requests a halt, or is STATE_REJECT on a fenced engine or one in TRAP after a fault trap. -/
  | engineHalt (r : Requester) (e : Fin 32)
  /-- ENGINE_HALTED (R197): A requested halt takes effect at the end of the running instruction, or abandons a wait. -/
  | engineHalted (e : Fin 32)
  /-- ENGINE_RESUME (R202): ENG.CTL.RESUME continues after a software trap, or is STATE_REJECT. -/
  | engineResume (r : Requester) (e : Fin 32)
  /-- ENGINE_RESET (R198): ENG.CTL.RESET halts the engine with reset values, releases its locks poisoned and reclaims its buffers. -/
  | engineReset (r : Requester) (e : Fin 32)
  /-- ARM_START (R214): ENG.CTL.ARM_START sets a start pending for the next PG2 pour. -/
  | armStart (r : Requester) (e : Fin 32)
  /-- ARM_HALT (R214): ENG.CTL.ARM_HALT sets a halt pending for the next PG2 pour. -/
  | armHalt (r : Requester) (e : Fin 32)
  /-- ARM_CLR (R214): ENG.CTL.ARM_CLR clears the pending pour actions. -/
  | armClr (r : Requester) (e : Fin 32)
  /-- START_MASK (R212): A write to ENG.START_MASK starts every named engine in one cc, or is STATE_REJECT as a whole. -/
  | startMask (r : Requester) (mask : BitVec 32)
  /-- HALT_MASK (R212): A write to ENG.HALT_MASK requests a halt of every named engine, or is STATE_REJECT as a whole. -/
  | haltMask (r : Requester) (mask : BitVec 32)
  /-- LOAD_SRC (R211): A write to ENG.LOAD_SRC stages the loader's source address. -/
  | loadSrc (r : Requester) (addr : BitVec 32)
  /-- LOAD_GO (R211): ENG.LOAD_GO starts copying words into an engine's code RAM, or is refused with RESULT 2. -/
  | loadGo (r : Requester) (v : BitVec 32)
  /-- LOAD_DONE (R211): The program loader completes, or is aborted by a fence, and LOAD_STAT is updated. -/
  | loadDone (aborted : Bool)
  /-- CODE_RAM_WRITE (R210): A management write to a code RAM stores the word with ECC, or is STATE_REJECT while the engine runs. -/
  | codeRamWrite (r : Requester) (e : Fin 32) (word : Fin 2048) (data : BitVec 32)
  /-- WATCHDOG_EXPIRE (R203): An engine's watchdog reaches 0 and the engine takes trap 4. -/
  | watchdogExpire (e : Fin 32)
  /-- MARK_WAIT_RELEASE (R209): An engine waiting in wmark is released in the cc after the node's swap. -/
  | markWaitRelease (e : Fin 32)
  /-- CHAIN_TIME_WAIT_RELEASE (R209): An engine waiting in wtime is released when chain time reaches its target. -/
  | chainTimeWaitRelease (e : Fin 32)
  /-- WAIT_COMPLETE (R243): A waiting instruction completes in the cc after its runner, lock, buffer, message or event cause clears. -/
  | waitComplete (e : Fin 32)
  -- 11_runners.md
  /-- RUNNER_ENABLE (R245): RUN.CTL.ENABLE checks the geometry, empties both banks and enables the runner, or is STATE_REJECT. -/
  | runnerEnable (r : Requester) (q : Fin 128)
  /-- RUNNER_DISABLE (R258): RUN.CTL.DISABLE empties the runner, counts the loss and releases its waiters with a refusal. -/
  | runnerDisable (r : Requester) (q : Fin 128)
  /-- MPUT (R251): A management write to MPUT puts a DATA item. -/
  | mput (r : Requester) (q : Fin 128) (w : BitVec 32)
  /-- MPUT_E (R251): A management write to MPUT_E puts a DATA_END item. -/
  | mputE (r : Requester) (q : Fin 128) (w : BitVec 32)
  /-- MDROPP (R254): A management write to MDROPP discards the rest of the current packet. -/
  | mdropp (r : Requester) (q : Fin 128)
  /-- MGET (R251): A management read of MGET takes one item, waiting up to 10 ms. -/
  | mget (r : Requester) (q : Fin 128)
  /-- MGET_TIMEOUT (R251): A waiting MGET read with no item delivered after 10 ms completes with EMPTY. -/
  | mgetTimeout (q : Fin 128)
  /-- HARDWARE_PUT (R248): A hardware producer puts a packet into a runner, which stores it or applies its full-mode. -/
  | hardwarePut (q : Fin 128) (producer : HwProducer) (packet : List (BitVec 32))
  /-- RUNNER_POINTER_CHECK (R259): The pointer sweep finds a copy mismatch and resets the runner with a gap marker. -/
  | runnerPointerCheck (q : Fin 128)
  /-- RUNNER_OVL_END (R260): A runner's overload episode ends after one cycle period without loss. -/
  | runnerOvlEnd (q : Fin 128)
  -- 12_locks_buffers_messages.md
  /-- LOCK_TRY (R264): LOCK_CMD with OP 0 makes the management function try a lock and record the result in LOCK_RES. -/
  | lockTry (r : Requester) (lock : BitVec 8)
  /-- LOCK_RELEASE (R264): LOCK_CMD with OP 1 releases a lock held by the management function. -/
  | lockRelease (r : Requester) (lock : BitVec 8)
  /-- LOCK_CLEAR_POISON (R264): LOCK_CMD with OP 2 clears the poison of a lock the management function holds. -/
  | lockClearPoison (r : Requester) (lock : BitVec 8)
  /-- B_ALLOC (R269): A read of SYNC.B_ALLOC allocates a buffer to the management function, or returns all ones. -/
  | bAlloc (r : Requester)
  /-- B_FREE (R270): A write to SYNC.B_FREE frees a buffer for the management function. -/
  | bFree (r : Requester) (buf : BitVec 11)
  /-- B_GIVE (R270): A write to SYNC.B_GIVE gives a buffer to another owner. -/
  | bGive (r : Requester) (buf : BitVec 11) (owner : BitVec 6)
  /-- M_SEND (R274): A write to SYNC.M_SEND makes a management send into a mailbox. -/
  | mSend (r : Requester) (v : BitVec 32)
  /-- M_RECV_SEL (R274): A write to SYNC.M_RECV_SEL selects the mailbox for M_RECV. -/
  | mRecvSel (r : Requester) (m : BitVec 6)
  /-- M_RECV (R274): A read of SYNC.M_RECV takes a message without waiting. -/
  | mRecv (r : Requester)
  /-- MBX_FLUSH (R278): SYNC.MBX_CTL.FLUSH returns every message's buffer to the pool and releases the waiters. -/
  | mbxFlush (r : Requester) (m : Fin 64)
  /-- POOL_OVL_END (R272): A pool overload episode ends after one cycle period without failure. -/
  | poolOvlEnd
  -- 13_flasks_and_warden.md
  /-- FLASK_FENCE (R286): The warden latches a fault against an ACTIVE flask and runs the fence sequence within 2 µs. -/
  | flaskFence (faults : List FaultIn)
  /-- FENCE_QUEUED_START (R286): A fence beyond the four concurrent fences starts in the cc after one of them ends. -/
  | fenceQueuedStart
  /-- FENCE_LANE_UPDATE (R285): The field die acts on a changed fence word or output-hold word within 400 ns. -/
  | fenceLaneUpdate
  /-- FENCE (R292): A write to FLASK.FENCE fences the named flask with cause 9, or is STATE_REJECT. -/
  | fenceCmd (r : Requester) (f : BitVec 6)
  /-- REVIVE (R295): A write to FLASK.REVIVE returns a fenced flask to ACTIVE, or is STATE_REJECT. -/
  | revive (r : Requester) (f : BitVec 6)
  /-- AR_CLR (R296): FLASK.AR_CLR sets a flask's consecutive count to 0 and clears GAVEUP. -/
  | arClr (r : Requester) (f : BitVec 6)
  /-- AUTO_REVIVE (R296): When the auto-revive delay ends, the warden revives the flask, retries later, or gives up above AR_LIMIT. -/
  | autoRevive (f : Fin 64)
  /-- AUTO_REVIVE_RETRY (R296): Every 1 ms while R294 refuses it, the warden retries a pending auto-revive. -/
  | autoReviveRetry
  /-- AR_STABLE_EXPIRE (R296): A revived flask that runs fault-free for AR_STABLE seconds has its consecutive count reset. -/
  | arStableExpire (f : Fin 64)
  -- 14_local_hub.md
  /-- SOF_RECEIVE (R314): An SOF arrives on C4, is stamped in chain time, locks the microframe timer and steers the head's marks. -/
  | sofReceive (frame : BitVec 11)
  /-- MICROFRAME_TICK (R314): The hub's microframe timer repeats SOF downstream and drives the translators' SOFs and keep-alives. -/
  | microframeTick
  /-- PORT_CONNECT_CHANGE (R299): A downstream device connects or disconnects, and the hub sets the connection change bits and raises port-change. -/
  | portConnectChange (p : Fin 10) (connected : Bool) (speed : UsbSpeed)
  /-- PORT_BABBLE (R309): A device babbles past the end of a microframe, and the hub disables the port and counts the error. -/
  | portBabble (p : Fin 10)
  /-- GET_STATUS (R306): A standard GetStatus request is answered. -/
  | getStatus (d : UsbDev) (rcp : Recipient) (index : BitVec 16)
  /-- CLEAR_FEATURE (R316): A standard ClearFeature request is handled, resetting the toggle on ENDPOINT_HALT. -/
  | clearFeature (d : UsbDev) (rcp : Recipient) (sel index : BitVec 16)
  /-- SET_FEATURE (R306): A standard SetFeature request is handled. -/
  | setFeature (d : UsbDev) (rcp : Recipient) (sel index : BitVec 16)
  /-- SET_ADDRESS (R306): A SetAddress request assigns the hub's device address. -/
  | setAddress (d : UsbDev) (addr : BitVec 7)
  /-- GET_DESCRIPTOR (R327): A GetDescriptor request returns the fixed descriptor values. -/
  | getDescriptor (d : UsbDev) (kind index : BitVec 8) (length : BitVec 16)
  /-- GET_CONFIGURATION (R306): A GetConfiguration request is answered. -/
  | getConfiguration (d : UsbDev)
  /-- SET_CONFIGURATION (R316): A SetConfiguration request configures the hub and resets the toggles. -/
  | setConfiguration (d : UsbDev) (value : BitVec 8)
  /-- GET_INTERFACE (R306): A GetInterface request is answered. -/
  | getInterface (d : UsbDev) (index : BitVec 16)
  /-- SET_INTERFACE (R310): A SetInterface request selects single-TT or multi-TT operation. -/
  | setInterface (d : UsbDev) (index alt : BitVec 16)
  /-- HUB_REQUEST_STALL (R306): An unsupported request or selector is answered STALL and counted in REQ_STALL_CNT. -/
  | hubRequestStall (d : UsbDev) (rt request : BitVec 8) (value index : BitVec 16)
  /-- GET_HUB_STATUS (R306): GetHubStatus is answered with local power good and no over-current. -/
  | getHubStatus (d : UsbDev)
  /-- CLEAR_HUB_FEATURE (R306): ClearHubFeature is accepted without effect. -/
  | clearHubFeature (d : UsbDev) (sel : BitVec 16)
  /-- GET_HUB_DESCRIPTOR (R327): GetHubDescriptor returns the hub descriptor. -/
  | getHubDescriptor (d : UsbDev) (length : BitVec 16)
  /-- GET_PORT_STATUS (R306): GetPortStatus returns wPortStatus and wPortChange. -/
  | getPortStatus (p : BitVec 8)
  /-- SET_PORT_RESET (R308): SetPortFeature(PORT_RESET) starts a 15 ms port reset. -/
  | setPortReset (p : BitVec 8)
  /-- SET_PORT_SUSPEND (R317): SetPortFeature(PORT_SUSPEND) suspends a downstream port. -/
  | setPortSuspend (p : BitVec 8)
  /-- SET_PORT_POWER (R300): SetPortFeature(PORT_POWER) powers a port's supply switch. -/
  | setPortPower (p : BitVec 8)
  /-- SET_PORT_TEST (R307): SetPortFeature(PORT_TEST) enters a test mode, or answers STALL. -/
  | setPortTest (p : BitVec 8) (mode : BitVec 8)
  /-- CLEAR_PORT_ENABLE (R306): ClearPortFeature(PORT_ENABLE) disables a port. -/
  | clearPortEnable (p : BitVec 8)
  /-- CLEAR_PORT_SUSPEND (R318): ClearPortFeature(PORT_SUSPEND) starts a 20 ms resume. -/
  | clearPortSuspend (p : BitVec 8)
  /-- CLEAR_PORT_POWER (R300): ClearPortFeature(PORT_POWER) opens the port's supply. -/
  | clearPortPower (p : BitVec 8)
  /-- CLEAR_PORT_L1 (R319): ClearPortFeature(PORT_L1) starts an L1 exit. -/
  | clearPortL1 (p : BitVec 8)
  /-- CLEAR_PORT_CHANGE (R306): ClearPortFeature of a change bit clears that bit. -/
  | clearPortChange (p : BitVec 8) (bit : PortChange)
  /-- CLEAR_TT_BUFFER (R312): ClearTTBuffer frees the buffer that holds the named endpoint's transaction. -/
  | clearTtBuffer (p : BitVec 8) (ep : TtEndpoint)
  /-- RESET_TT (R312): ResetTT empties the port translator's buffers and queues. -/
  | resetTt (p : BitVec 8)
  /-- GET_TT_STATE (R306): GetTTState is answered. -/
  | getTtState (p : BitVec 8)
  /-- STOP_TT (R312): StopTT stops the translator until a ResetTT. -/
  | stopTt (p : BitVec 8)
  /-- PORT_RESET_END (R308): At the end of a port reset, the hub sets PORT_ENABLE and C_PORT_RESET and reports the speed. -/
  | portResetEnd (p : Fin 10) (speed : UsbSpeed)
  /-- PORT_RESUME_END (R318): At the end of a 20 ms resume, the hub clears PORT_SUSPEND and sets C_PORT_SUSPEND. -/
  | portResumeEnd (p : Fin 10)
  /-- L1_EXIT_END (R319): At the end of an L1 exit, the hub clears PORT_L1 and sets C_PORT_L1. -/
  | l1ExitEnd (p : Fin 10)
  /-- DEVICE_REMOTE_WAKE (R318): A device's remote wake on a suspended port is reflected on that port, and upstream if the hub is suspended. -/
  | deviceRemoteWake (p : Fin 10)
  /-- UPSTREAM_SUSPEND (R317): After 3 ms of bus idle on C4, the hub suspends its upstream side. -/
  | upstreamSuspend
  /-- HUB_REMOTE_WAKE (R317): The suspended hub signals remote wake upstream for 2 ms. -/
  | hubRemoteWake
  /-- UPSTREAM_RESUME (R320): A host resume on C4 resumes the hub. -/
  | upstreamResume
  /-- UPSTREAM_BUS_RESET (R320): A bus reset on C4 ends every resume and returns the hub to the default state with ports unpowered. -/
  | upstreamBusReset (hs : Bool)
  /-- LPM_TOKEN (R319): An LPM token to the hub is acknowledged or answered NYET. -/
  | lpmToken (besl : BitVec 4)
  /-- PERIODIC_START_SPLIT (R311): A periodic start-split is queued, or discarded and counted when the queue or frame budget is exceeded. -/
  | periodicStartSplit (p : Fin 10) (ep : TtEndpoint) (byteTimes : Nat)
  /-- NONPERIODIC_START_SPLIT (R312): A non-periodic start-split takes a buffer, or is answered NAK. -/
  | nonperiodicStartSplit (p : Fin 10) (ep : TtEndpoint) (data : List (BitVec 8))
  /-- COMPLETE_SPLIT (R311): A complete-split returns the translator's outcome, or ERR. -/
  | completeSplit (p : Fin 10) (ep : TtEndpoint) (outcome : DevReply)
  /-- STATUS_CHANGE_IN (R315): An IN to endpoint 0x81 returns the change bitmap, or NAK. -/
  | statusChangeIn
  /-- HUB_ENABLE (R306): HUB.CTL.ENABLE enables the hub, which attaches on C4. -/
  | hubEnable (r : Requester)
  /-- HUB_DISABLE (R306): HUB.CTL.DISABLE detaches the hub and powers down every downstream port. -/
  | hubDisable (r : Requester)
  /-- HUB_RWAKE (R317): HUB.CTL.RWAKE signals remote wake, or is STATE_REJECT. -/
  | hubRwake (r : Requester)
  /-- READ (R323): A management READ request reads words in address order. -/
  | mgmtRead (tag : BitVec 16) (addr len : BitVec 32)
  /-- WRITE (R323): A management WRITE request writes words in address order, stopping at the first that is not Done. -/
  | mgmtWrite (tag : BitVec 16) (addr : BitVec 32) (data : List (BitVec 32))
  /-- IMAGE_BEGIN (R324): IMAGE_BEGIN starts a chain image, or is STATE_REJECT. -/
  | imageBegin (tag : BitVec 16) (len : BitVec 32)
  /-- IMAGE_DATA (R324): IMAGE_DATA writes image bytes to NOR in ascending order. -/
  | imageData (tag : BitVec 16) (off : BitVec 32) (data : List (BitVec 8))
  /-- IMAGE_END (R324): IMAGE_END verifies and starts the image, or is STATE_REJECT. -/
  | imageEnd (tag : BitVec 16)
  /-- ECHO (R321): ECHO returns the TAG with no data. -/
  | echo (tag : BitVec 16)
  /-- BAD_REQUEST (R322): A malformed header or unknown OP is answered BAD_REQUEST. -/
  | badRequest (op : BitVec 8) (tag : BitVec 16)
  /-- EVENT_ENDPOINT_IN (R325): An IN to endpoint 0x83 returns up to four event records, or NAK. -/
  | eventEndpointIn
  /-- PORT_L1_ENTRY (R319): A host LPM transaction to a device on ports 1–8 is acknowledged, and the hub puts that port into L1 and sets PORT_L1. -/
  | portL1Entry (p : Fin 10) (besl : BitVec 4)
  -- 15_wide_hub_tunnel.md
  /-- WIDE_PRESENT_CHANGE (R328): When a presentation condition changes, the node detaches the presented hub. -/
  | widePresentChange
  /-- WIDE_ATTACH (R328): After 10 ms of detach, the node attaches the hub that the conditions call for. -/
  | wideAttach
  /-- WIDE_ENABLE (R328): WIDE.CTL.ENABLE enables the block, or is STATE_REJECT when NPORTS is below 2. -/
  | wideEnable (r : Requester)
  /-- WIDE_DISABLE (R328): WIDE.CTL.DISABLE detaches the wide hub. -/
  | wideDisable (r : Requester)
  /-- DOWN_RECORD_EXECUTE (R337): A remote executes committed non-periodic down records in its next microframe and stages their outcomes. -/
  | downRecordExecute (w : Fin 256) (reply : DevReply)
  /-- POLL_RUN (R341): A remote runs each poll due in cycle k in the first microframe at mark k. -/
  | pollRun (replies : List PollReply)
  /-- WIDE_HOST_IN (R338): A host IN to a deferred endpoint gets NAK and sends a request, or receives a held result. -/
  | wideHostIn (w : Fin 256) (dev : BitVec 7) (ep : BitVec 4)
  /-- WIDE_HOST_OUT (R338): A host OUT to a deferred endpoint is stored and answered NAK, then its retry gets the remote outcome. -/
  | wideHostOut (w : Fin 256) (dev : BitVec 7) (ep : BitVec 4) (pid : Bool) (data : List (BitVec 8))
  /-- WIDE_HOST_PING (R338): A host PING is answered ACK or NAK by the held state. -/
  | wideHostPing (w : Fin 256) (dev : BitVec 7) (ep : BitVec 4)
  /-- WIDE_HOST_SETUP (R339): A SETUP is always ACKed and takes the port's control place. -/
  | wideHostSetup (w : Fin 256) (dev : BitVec 7) (data : List (BitVec 8))
  /-- WIDE_SPLIT (R340): A split transaction to the wide hub is handled by the distributed translator. -/
  | wideSplit (x : WideSplit)
  /-- POLL_RESULT_IN (R342): A host IN in a presentation window receives the poll result once, or NAK. -/
  | pollResultIn (e : Fin 256)
  /-- POLL_OUT_DATA (R342): Host poll OUT data is accepted and shipped for a later poll. -/
  | pollOutData (e : Fin 256) (pid : Bool) (data : List (BitVec 8))
  /-- WIDE_PORT_REQUEST (R344): A hub request to a wide port travels as a port command, or is answered from the head's copy. -/
  | widePortRequest (w : BitVec 8) (x : HubPortReq)
  /-- GET_PORT_MAP (R349): The vendor request GET_PORT_MAP returns a wide port's map entry. -/
  | getPortMap (w : BitVec 16)
  /-- WIDE_PORT_ORPHAN (R346): A served port that has had no TUNNEL slot for 16 cycles is orphaned by the remote. -/
  | widePortOrphan (w : Fin 256)
  /-- WIDE_OVL_END (R348): A wide-hub overload episode ends after one cycle period without deferral. -/
  | wideOvlEnd
  -- 16_cuffs_type_c_pd.md
  /-- CC_CHANGE (R352): A change on a Cuff's CC pins drives the Type-C connection state machine. -/
  | ccChange (c : Fin 5) (cc1 cc2 : CcPin)
  /-- TC_TIMER_EXPIRE (R352): A Type-C timer such as tCCDebounce, tPDDebounce, tDRPTry or tErrorRecovery expires and moves the attach state. -/
  | tcTimerExpire (c : Fin 5) (t : TcTimer)
  /-- DRP_TOGGLE (R352): A DRP toggles between Unattached.SNK and Unattached.SRC on tDRP. -/
  | drpToggle (c : Fin 5)
  /-- VBUS_REMOVAL (R352): VBUS removal detaches an Attached.SNK Cuff. -/
  | vbusRemoval (c : Fin 5)
  /-- PD_MESSAGE_RECEIVE (R355): A PD message is received, answered with GoodCRC and queued, or left unanswered when the queue is full. -/
  | pdMessageReceive (c : Fin 5) (m : PdMessage)
  /-- TX_GO (R356): A write to the TX_GO port starts a PD transmission, with AMS collision avoidance. -/
  | txGo (e : Fin 32) (c : Fin 5) (v : BitVec 32)
  /-- SINK_TX_WAIT_END (R356): tSinkTx 18 ms after SinkTxNG, the source transmits. -/
  | sinkTxWaitEnd (c : Fin 5)
  /-- CRC_RECEIVE_TIMEOUT (R355): CRCReceiveTimer expires without GoodCRC, and the hardware retries or fails the transmission. -/
  | crcReceiveTimeout (c : Fin 5)
  /-- TX_COMPLETE (R355): A transmission ends with GoodCRC, and TX_RESULT reads sent. -/
  | txComplete (c : Fin 5)
  /-- HARD_RESET_RECEIVE (R358): Received Hard Reset signalling aborts reception and transmission, and the Hard Reset sequence starts. -/
  | hardResetReceive (c : Fin 5)
  /-- PS_HARD_RESET_EXPIRE (R359): tPSHardReset after the signalling, the source opens its switch and discharges VBUS. -/
  | psHardResetExpire (c : Fin 5)
  /-- SRC_RECOVER_EXPIRE (R359): After tSrcRecover, the source restores VCONN and 5 V. -/
  | srcRecoverExpire (c : Fin 5)
  /-- SINK_HARD_RESET_EXPIRE (R359): A sink whose VBUS has not returned 1.7 s after Hard Reset detaches. -/
  | sinkHardResetExpire (c : Fin 5)
  /-- RX_STAT_WRITE (R375): A write to the RX_STAT port discards the oldest received message. -/
  | rxStatWrite (e : Fin 32) (c : Fin 5) (v : BitVec 32)
  /-- VSET_WRITE (R360): A write to the VSET port sets the target code, or is REJECT. -/
  | vsetWrite (e : Fin 32) (c : Fin 5) (v : BitVec 32)
  /-- VSET_RAMP_STEP (R360): Every 2 µs, the VSET output code moves one step toward its target. -/
  | vsetRampStep (c : Fin 5)
  /-- PPS_LIMIT_STEP (R363): Every 100 µs under PPS, the code steps down at the current limit or back up toward target. -/
  | ppsLimitStep (c : Fin 5) (mA : Nat)
  /-- CONTRACT_WRITE (R362): A write to the CONTRACT port records the contract, or is REJECT. -/
  | contractWrite (e : Fin 32) (c : Fin 5) (v : BitVec 32)
  /-- KICK (R374): A write to the KICK port reloads the Cuff policy watchdog. -/
  | kick (e : Fin 32) (c : Fin 5)
  /-- RP_WRITE (R375): A write to the RP port sets the Rp advertised. -/
  | rpWrite (e : Fin 32) (c : Fin 5) (v : BitVec 32)
  /-- HARD_RESET (R358): CMD 1 sends Hard Reset signalling and runs the sequence. -/
  | cuffHardReset (e : Fin 32) (c : Fin 5)
  /-- CABLE_RESET (R376): CMD 2 sends Cable Reset signalling. -/
  | cuffCableReset (e : Fin 32) (c : Fin 5)
  /-- SRC_ON (R376): CMD 3 closes the source switch at the VSET code. -/
  | cuffSrcOn (e : Fin 32) (c : Fin 5)
  /-- SRC_OFF (R376): CMD 4 opens the source switch and discharges VBUS. -/
  | cuffSrcOff (e : Fin 32) (c : Fin 5)
  /-- VCONN_ON (R376): CMD 5 turns VCONN on. -/
  | cuffVconnOn (e : Fin 32) (c : Fin 5)
  /-- VCONN_OFF (R376): CMD 6 turns VCONN off. -/
  | cuffVconnOff (e : Fin 32) (c : Fin 5)
  /-- ROLE_RP (R376): CMD 7 presents Rp within a swap window. -/
  | cuffRoleRp (e : Fin 32) (c : Fin 5)
  /-- ROLE_RD (R376): CMD 8 presents Rd within a swap window. -/
  | cuffRoleRd (e : Fin 32) (c : Fin 5)
  /-- DATA_DFP (R376): CMD 9 takes the DFP data role. -/
  | cuffDataDfp (e : Fin 32) (c : Fin 5)
  /-- DATA_UFP (R376): CMD 10 takes the UFP data role. -/
  | cuffDataUfp (e : Fin 32) (c : Fin 5)
  /-- SWAP_BEGIN (R365): CMD 11 opens a swap window and suspends detach detection. -/
  | cuffSwapBegin (e : Fin 32) (c : Fin 5)
  /-- SWAP_END (R365): CMD 12 closes the swap window and re-reads CC. -/
  | cuffSwapEnd (e : Fin 32) (c : Fin 5)
  /-- AMS_END (R356): CMD 13 returns Rp to SinkTxOK. -/
  | cuffAmsEnd (e : Fin 32) (c : Fin 5)
  /-- ALT_ON (R368): CMD 14 connects the SuperSpeed pairs to the Gleshline port. -/
  | cuffAltOn (e : Fin 32) (c : Fin 5)
  /-- ALT_OFF (R368): CMD 15 idles the port and releases the pairs after the port leaves ACTIVE. -/
  | cuffAltOff (e : Fin 32) (c : Fin 5)
  /-- FRS_ARM (R366): CMD 16 arms FR_Swap. -/
  | cuffFrsArm (e : Fin 32) (c : Fin 5)
  /-- FRS_DISARM (R376): CMD 17 disarms FR_Swap. -/
  | cuffFrsDisarm (e : Fin 32) (c : Fin 5)
  /-- ERROR_RECOVERY (R376): CMD 18 enters ErrorRecovery and ends the contract without Hard Reset. -/
  | cuffErrorRecovery (e : Fin 32) (c : Fin 5)
  /-- SWAP_TIMEOUT (R365): A swap window open for 1 s sends the Cuff to ErrorRecovery and raises swap-timeout. -/
  | swapTimeout (c : Fin 5)
  /-- FRS_TRIGGER (R366): After the trunk stays below TRUNK_LOW for 5 µs, each armed Cuff signals FR_Swap, opens its switch and opens a window. -/
  | frsTrigger
  /-- FRS_SIGNAL_END (R366): After tFRSwapTx 90 µs, the Cuff releases its CC pin. -/
  | frsSignalEnd (c : Fin 5)
  /-- POLICY_HANDOVER (R372): A Cuff leaves FIRMWARE for a safe state, sending Hard Reset if it holds a contract. -/
  | policyHandover (c : Fin 5)
  /-- POLICY_TO_FIRMWARE (R373): A Cuff enters FIRMWARE policy, keeping its attach state, and turns its PD receiver on. -/
  | policyToFirmware (c : Fin 5)
  /-- CUFF_POLICY_WDOG_EXPIRE (R374): The Cuff policy watchdog expires, causing fault 6 against the Cuff's flask. -/
  | cuffPolicyWdogExpire (c : Fin 5)
  /-- CUFF_INSTRUMENT_FAULT (R377): A Cuff instrument fault is detected, the hardware acts, and a cause-5 fault is raised. -/
  | cuffInstrumentFault (c : Fin 5) (code : BitVec 4)
  /-- CUFF_ENABLE (R352): CUFF.CTL.ENABLE starts the Cuff from ErrorRecovery. -/
  | cuffEnable (r : Requester) (c : Fin 5)
  /-- CUFF_DISABLE (R352): CUFF.CTL.DISABLE puts the Cuff in the Disabled state. -/
  | cuffDisable (r : Requester) (c : Fin 5)
  -- 17_switching_and_fusing.md
  /-- CHANNEL_CLOSE (R382): A switched channel whose enable is 1 closes when its output side is below the guard, or enters GUARD. -/
  | channelClose (ch : Fin 10) (vout : BitVec 16)
  /-- CHANNEL_OPEN (R381): A channel opens when its enable falls to 0, and discharges its output side. -/
  | channelOpen (ch : Fin 10)
  /-- GUARD_RELEASE (R382): A held channel's output side falls below its guard, and the channel closes. -/
  | guardRelease (ch : Fin 10) (vout : BitVec 16)
  /-- RAMP_END (R383): The output reaches within 0.5 V of the input, and PG is set. -/
  | rampEnd (ch : Fin 10)
  /-- RAMP_TIMEOUT (R383): A TR ramp not ended after 20 ms trips with cause 5. -/
  | rampTimeout
  /-- FAULT_TIMER_TRIP (R386): The fault timer reaches its limit, and the channel trips with cause 1. -/
  | faultTimerTrip (ch : Fin 10)
  /-- SHORT_CIRCUIT_TRIP (R387): Current reaches twice the limit, and the channel opens within 300 ns with cause 2. -/
  | shortCircuitTrip (ch : Fin 10)
  /-- THERMAL_TRIP (R387): A VB or HP switch reaches 150 °C and trips with cause 3. -/
  | thermalTrip (ch : Fin 10)
  /-- HP_REVERSE_OPEN (R387): Reverse current on an HP channel opens it within 2 µs without a trip. -/
  | hpReverseOpen (h : Fin 4)
  /-- TR_REVERSE_TRIP (R387): Reverse voltage across RSENSE for 10 µs trips TR with cause 4. -/
  | trReverseTrip
  /-- RETRY_WAIT_END (R390): At the end of a RETRY wait, the channel closes again if enabled. -/
  | retryWaitEnd (ch : Fin 10) (vout : BitVec 16)
  /-- RETRY_STABLE (R390): A channel closed for 1 s without a trip resets its consecutive count. -/
  | retryStable (ch : Fin 10)
  /-- SWITCH_STUCK (R396): A channel commanded open still carries over 100 mA after 1 ms and is declared stuck. -/
  | switchStuck (ch : Fin 10)
  /-- FUSE_ENABLE (R381): FUSE.CTL.ENABLE sets a channel's EN. -/
  | fuseEnable (r : Requester) (ch : Fin 10)
  /-- FUSE_DISABLE (R381): FUSE.CTL.DISABLE clears EN, and the channel opens. -/
  | fuseDisable (r : Requester) (ch : Fin 10)
  /-- REARM (R389): FUSE.CTL.REARM toggles TR out of LATCHED, or is STATE_REJECT. -/
  | rearm (r : Requester) (ch : Fin 10)
  /-- THERMAL_RECLOSE (R387): The local sensor of a VB or HP switch that tripped on temperature reads below 130 °C, and the channel may close again. -/
  | thermalReclose (ch : Fin 10) (vout : BitVec 16)
  /-- HP_REVERSE_RECLOSE (R387): After a reverse-current open, the HP channel's output side falls below its input, and the channel closes again under the closing rules. -/
  | hpReverseReclose (h : Fin 4) (vout : BitVec 16)
  -- 18_measurement.md
  /-- AIN_ON (R397): MEAS.AIN_ON enables the named inputs. -/
  | ainOn (r : Requester) (mask : BitVec 24)
  /-- AIN_OFF (R397): MEAS.AIN_OFF disables the named inputs. -/
  | ainOff (r : Requester) (mask : BitVec 24)
  /-- SA_ENABLE (R401): MEAS.CTL bit 0 enables SA. -/
  | saEnable (r : Requester)
  /-- SA_DISABLE (R401): MEAS.CTL bit 1 disables SA. -/
  | saDisable (r : Requester)
  /-- SB_ENABLE (R401): MEAS.CTL bit 2 enables SB. -/
  | sbEnable (r : Requester)
  /-- SB_DISABLE (R401): MEAS.CTL bit 3 disables SB. -/
  | sbDisable (r : Requester)
  /-- BRIDGE_ENABLE (R405): MEAS.CTL bit 4 enables the bridge block. -/
  | bridgeEnable (r : Requester)
  /-- BRIDGE_DISABLE (R405): MEAS.CTL bit 5 disables the bridge block. -/
  | bridgeDisable (r : Requester)
  /-- COUNTER_ENABLE (R407): MEAS.CTL bit 6 enables the counter block. -/
  | counterEnable (r : Requester)
  /-- COUNTER_DISABLE (R407): MEAS.CTL bit 7 disables the counter block. -/
  | counterDisable (r : Requester)
  /-- BURST_START (R401): At its chain time, a SAR burst converts its sequence entries and delivers stamped samples. -/
  | burstStart (k : Fin 2) (i : Fin 16) (readings : List Int)
  /-- BRIDGE_RESULT (R406): At each output instant, a bridge result is stamped and delivered. -/
  | bridgeResult (b : Fin 4) (raw : Int)
  /-- PULSE_EDGE (R407): A filtered edge on a counter input is counted, timed and stamped. -/
  | pulseEdge (p : Fin 12) (edge : PulseEdge)
  /-- PC_SNAPSHOT (R409): At the chain time of each mark, each enabled counter takes and delivers a snapshot. -/
  | pcSnapshot
  /-- SHUNT_OVERCURRENT (R398): Loop current above 30 mA for 10 µs opens the shunt and sets FAULT. -/
  | shuntOvercurrent (n : Fin 24)
  /-- SHUNT_RETRY (R398): Every 100 ms, the shunt recloses for one slot and stays closed below 25 mA. -/
  | shuntRetry (n : Fin 24) (microAmp : Nat)
  /-- MEAS_INSTRUMENT_FAULT (R415): A reference, excitation or conversion fault is detected and raised as cause 5. -/
  | measInstrumentFault (code : BitVec 4) (unit : Fin 4)
  /-- CALIBRATION_START (R483): Every 10 s, BKG starts a calibration of a converter, or skips it and counts it. -/
  | calibrationStart (u : Fin 3)
  /-- CALIBRATION_DONE (R414): A calibration completes, and the new coefficients take effect between two bursts. -/
  | calibrationDone (u : Fin 3)
  -- 19_control_outputs.md
  /-- SETPOINT_ARRIVE (R424): A SET port write reaches the field die and takes effect at once under APPLY 1, or is held for the apply instant. -/
  | setpointArrive (o : Fin 12)
  /-- DRIVER_FAULT (R432): A short, open load, over-temperature or gate-supply fault is detected and acted on. -/
  | driverFault (o : Fin 12) (code : BitVec 3)
  /-- DRV_ENABLE (R419): DRV.CTL.ENABLE sets an output's EN. -/
  | drvEnable (r : Requester) (o : Fin 12)
  /-- DRV_DISABLE (R419): DRV.CTL.DISABLE clears EN, and the output turns off. -/
  | drvDisable (r : Requester) (o : Fin 12)
  /-- FAULT_CLR (R433): FAULT_CLR, by register or port, clears a latched output fault, or is STATE_REJECT. -/
  | faultClr (r : Requester) (o : Fin 12) (present : Bool)
  -- 20_pins_and_muxing.md
  /-- OUT_SET (R441): PIN.OUT_SET sets latch bits. -/
  | outSet (r : Requester) (n : Fin 4) (bits : BitVec 16)
  /-- OUT_CLR (R441): PIN.OUT_CLR clears latch bits. -/
  | outClr (r : Requester) (n : Fin 4) (bits : BitVec 16)
  /-- OUT_TOG (R441): PIN.OUT_TOG inverts latch bits. -/
  | outTog (r : Requester) (n : Fin 4) (bits : BitVec 16)
  /-- OUT_WR (R441): PIN.OUT_WR, or a write to port 0x4000 + n, loads masked latch bits. -/
  | outWr (r : Requester) (n : Fin 4) (value mask : BitVec 16)
  /-- PIN_BIT_WRITE (R443): A write to a single-pin port sets or clears one latch bit. -/
  | pinBitWrite (e : Fin 32) (n : Fin 4) (m : Fin 16) (v : BitVec 32)
  /-- EVCAP_EDGE (R444): A selected edge on an edge-capture pin is stamped in EVCAP_T, counted, and raises pin-capture. -/
  | evcapEdge (k : Fin 8) (rising : Bool)
  /-- STROBE_END (R444): A MARK or APPLY strobe ends after 1 µs high. -/
  | strobeEnd (apply : Bool)
  /-- HVI_DEBOUNCE_EXPIRE (R445): An HVI level stable for DEB × 10 µs updates HVI_IN. -/
  | hviDebounceExpire (i : Fin 16) (level : Bool)
  /-- HVI_WAKE (R447): Three KEEPF samples showing the selected edge latch an HVI wake. -/
  | hviWake (i : Fin 16) (rising : Bool)
  /-- HOLD_REL (R448): PIN.CTL.HOLD_REL ends the pad hold, or is STATE_REJECT. -/
  | holdRel (r : Requester)
  -- 21_isobus_bridge.md
  /-- CAN_ENABLE (R452): CAN.CTL.ENABLE checks the bit timing and starts bus integration, or is STATE_REJECT. -/
  | canEnable (r : Requester) (c : Fin 2)
  /-- CAN_INTEGRATED (R453): After 11 recessive bits, the controller enters error-active. -/
  | canIntegrated (c : Fin 2)
  /-- CAN_DISABLE (R462): CAN.CTL.DISABLE drives recessive, aborts the buffers and closes the sessions. -/
  | canDisable (r : Requester) (c : Fin 2)
  /-- CAN_RECOVER (R454): CAN.CTL.RECOVER starts bus-off recovery, or is STATE_REJECT. -/
  | canRecover (r : Requester) (c : Fin 2)
  /-- CAN_BUS_OFF (R454): The controller enters bus-off, counts it and raises the event. -/
  | canBusOff (c : Fin 2)
  /-- CAN_BUS_OFF_RECOVERED (R454): After 128 × 11 recessive bits, the controller leaves bus-off. -/
  | canBusOffRecovered (c : Fin 2)
  /-- CAN_FRAME_RECEIVE (R456): A valid frame is filtered and delivered to a runner, to SRAM or to a transport session. -/
  | canFrameReceive (c : Fin 2) (f : CanFrame)
  /-- CAN_TX_BUFFER_WRITE (R458): A port write fills a word of a transmit buffer. -/
  | canTxBufferWrite (e : Fin 32) (c : Fin 2) (t : Fin 8) (w : Fin 4) (v : BitVec 32)
  /-- CAN_TX_GO (R458): The GO port makes a buffer pending, or is REJECT. -/
  | canTxGo (e : Fin 32) (c : Fin 2) (t : Fin 8)
  /-- CAN_TX_ABORT (R459): The ABORT port aborts a pending buffer at once, or at the end of its frame. -/
  | canTxAbort (e : Fin 32) (c : Fin 2) (t : Fin 8)
  /-- CAN_TX_COMPLETE (R459): A frame ends sent, or is retried after lost arbitration or an error. -/
  | canTxComplete (c : Fin 2) (outcome : CanTxOutcome)
  /-- SESSION_STAGE (R460): Session port writes stage the PGN, kind, SA and DA. -/
  | sessionStage (e : Fin 32) (c : Fin 2) (s : Fin 8) (w : Fin 2) (v : BitVec 32)
  /-- SESSION_OPEN (R460): A write of the total size opens a transport session, or is REJECT. -/
  | sessionOpen (e : Fin 32) (c : Fin 2) (s : Fin 8) (size : BitVec 32)
  /-- SESSION_CLOSE (R462): The CLOSE port closes a session with status CLOSED. -/
  | sessionClose (e : Fin 32) (c : Fin 2) (s : Fin 8)
  /-- SESSION_TIMEOUT (R462): A session with no packet for 750 ms closes with TIMEOUT. -/
  | sessionTimeout (c : Fin 2) (s : Fin 8)
  /-- CAN_BUS_ERROR (R454): A bus error detected while the controller receives raises REC, sends an error frame, counts ERRFRAME_CNT and may move the controller to error-passive. -/
  | canBusError (c : Fin 2) (dominantAfterFlag : Bool)
  -- 22_background_work.md
  /-- SCRUB_TICK (R468): Every 2.56 µs, the scrubber reads the next word of each ECC memory. -/
  | scrubTick (m : EccMemory) (found : EccState)
  /-- SCRUB_REWRITE (R469): A queued corrected word is rewritten through the maintenance port. -/
  | scrubRewrite (foregroundWrite : Bool)
  /-- NOR_FOREGROUND_REQUEST (R472): A foreground NOR operation arrives, suspends a journal erase or waits for a running page program. -/
  | norForegroundRequest
  /-- JOURNAL_APPEND (R474): BKG appends a pending record to the journal, starting a new sector when the active one is full. -/
  | journalAppend (programOk : Bool)
  /-- JRNL_KEY (R477): A write to BKG.JRNL_KEY stages the key and the delete flag. -/
  | jrnlKey (r : Requester) (v : BitVec 32)
  /-- JRNL_DATA (R477): A write to BKG.JRNL_DATA stages a value word. -/
  | jrnlData (r : Requester) (j : Fin 4) (w : BitVec 32)
  /-- JRNL_PUT (R477): BKG.JRNL_PUT.GO submits a journal record, or is STATE_REJECT. -/
  | jrnlPut (r : Requester)
  /-- JRNL_DURABLE (R477): A record becomes durable, JRNL_BUSY clears and JRNL_VAL updates. -/
  | jrnlDurable
  /-- JOURNAL_FORMAT (R476): A NOR with no sealed sector has sector 0 erased and sealed empty. -/
  | journalFormat
  /-- LOG_PAGE_PROGRAM (R478): BKG programs a log page when 16 records are queued or 1 s after the oldest arrived. -/
  | logPageProgram
  /-- LOG_IDX (R479): A write to BKG.LOG_IDX starts loading the n-th newest record. -/
  | logIdx (r : Requester) (n : BitVec 32)
  /-- LOG_READ_DONE (R479): The log record is loaded into LOG_REC, and LOG_RD_BUSY clears. -/
  | logReadDone
  /-- MARGIN_SCAN_START (R484): Every MARGIN_EVERY seconds, BKG starts a margin scan of the next lane. -/
  | marginScanStart
  -- 23_stitch_test_and_bist.md
  /-- TEST_PINS (R491): TEST.GO KIND 1 starts a pin stitch of the scope, or is refused with a reason. -/
  | testPins (r : Requester) (scope : BitVec 5) (force : Bool)
  /-- TEST_NEIGHBOUR (R492): TEST.GO KIND 2 starts a neighbour cable test at staged cycle C, or is refused. -/
  | testNeighbour (r : Requester) (scope : BitVec 5)
  /-- TEST_LBIST (R494): TEST.GO KIND 3 starts logic BIST of a partition, or is refused. -/
  | testLbist (r : Requester) (scope : BitVec 5) (force : Bool)
  /-- NB_CYCLE (R492): A write to TEST.NB_CYCLE stages the neighbour test cycle. -/
  | nbCycle (r : Requester) (c : BitVec 32)
  /-- NB_PRBS_START (R492): At mark C + 10,000 ns, the node sends PRBS7 on lane 1 and seeks lock. -/
  | nbPrbsStart
  /-- NB_TRUNK_CAPTURE (R492): At mark C + 50,000 ns, the field die captures the trunk values into NB_TRUNK. -/
  | nbTrunkCapture
  /-- TEST_DONE (R490): A test ends, BUSY clears, RESULT is set, the counters rise and test-done is raised. -/
  | testDone (o : TestObs)
  /-- TEST_ABORT_CONDITION (R487): A failed condition, port loss, fence or seam loss aborts a running test. -/
  | testAbortCondition (cause : BitVec 3)
  /-- TEST_ABORT (R487): A write to TEST.ABORT.GO aborts the running test. -/
  | testAbort (r : Requester)
  /-- BYPASS (R495): The TAP BYPASS instruction selects the bypass register. -/
  | tapBypass
  /-- IDCODE (R495): The TAP IDCODE instruction returns 0x1064_86B7. -/
  | tapIdcode
  /-- SAMPLE_PRELOAD (R495): SAMPLE/PRELOAD captures and preloads the boundary register without taking the lands. -/
  | tapSamplePreload (sampled preload : BitVec 412)
  /-- EXTEST (R496): EXTEST takes the lands when allowed, or acts as BYPASS. -/
  | tapExtest
  /-- EXTEST_PULSE (R496): EXTEST_PULSE tests the AC-coupled pairs under IEEE 1149.6. -/
  | tapExtestPulse
  /-- EXTEST_TRAIN (R496): EXTEST_TRAIN tests the AC-coupled pairs with a pulse train. -/
  | tapExtestTrain
  /-- CLAMP (R496): CLAMP holds the lands at their preloaded values with bypass selected. -/
  | tapClamp
  /-- HIGHZ (R496): HIGHZ places the lands in high impedance. -/
  | tapHighz
  -- 24_events.md
  /-- EVENT_FIRE (R499): A source fires, and EVT sets pending bits, builds and queues a record, and routes it to its destinations. -/
  | eventFire (source : Fin 128) (detail : BitVec 32)
  /-- SIGNAL (R502): A write to EVT.SIGNAL fires a source in 112–127, or is STATE_REJECT. -/
  | eventSignal (r : Requester) (source : BitVec 7)
deriving DecidableEq, Repr

end Sys2Proof
end

