-- ==== Sys2Proof/Decode.lean ====
section
/-! DEFINITION. The decoder of command words, and the decoder and encoder of the words in an engine's code RAM (10_sprue_instruction_set.md
R221 to R223). -/

namespace Sys2Proof

/-- The command a word spells by the table's bits: none. No row of spec/opcode_table.json gives its command any bits: the commands come
from outside the block as register accesses, frames and events, and the instructions of an engine as what that engine executes. -/
def decodeTableWord (_nbits _w : Nat) : Option Instr := none

/-! The words of a code RAM. An engine's decoder reads one of them as the instruction of that engine; none is a word that takes trap 1 (R222). -/

/-- An instruction whose word conforms where a condition holds. -/
def onlyIf (c : Bool) (i : Instr) : Option Instr := if c then some i else none

/-- An R-form or I-form word (Table ISA-1): op, d, a, b and bits [13:0]. -/
def wordR (op d a b func : Nat) : Nat := op * 2 ^ 26 + d * 2 ^ 22 + a * 2 ^ 18 + b * 2 ^ 14 + func

/-- A W-form word (Table ISA-1): op, d and bits [15:0]. -/
def wordW (op d imm : Nat) : Nat := op * 2 ^ 26 + d * 2 ^ 22 + imm

/-- The field of k bits of a word that begins at bit i. -/
def fieldOf (k w i : Nat) (h : 0 < 2 ^ k) : Fin (2 ^ k) := ⟨w / 2 ^ i % 2 ^ k, Nat.mod_lt _ h⟩

/-- Table ISA-4, opcode 0x00, by func. -/
def decodeAlu (e : Fin 32) (d a b : Fin 16) (fn : Nat) : Option Instr :=
  match fn with
  | 0 => some (.isaAdd e d a b)
  | 1 => some (.isaSub e d a b)
  | 2 => some (.isaAdc e d a b)
  | 3 => some (.isaSbc e d a b)
  | 4 => some (.isaAnd e d a b)
  | 5 => some (.isaOr e d a b)
  | 6 => some (.isaXor e d a b)
  | 7 => some (.isaAndn e d a b)
  | 8 => some (.isaShl e d a b)
  | 9 => some (.isaShr e d a b)
  | 10 => some (.isaSar e d a b)
  | 11 => some (.isaRor e d a b)
  | 12 => some (.isaAdds e d a b)
  | 13 => some (.isaSubs e d a b)
  | 14 => some (.isaMin e d a b)
  | 15 => some (.isaMax e d a b)
  | 16 => some (.isaMinu e d a b)
  | 17 => some (.isaMaxu e d a b)
  | 18 => onlyIf (d == 0) (.isaCmp e a b)
  | 19 => onlyIf (d == 0) (.isaTst e a b)
  | 20 => onlyIf (b == 0) (.isaAbs e d a)
  | 21 => onlyIf (b == 0) (.isaNeg e d a)
  | 22 => onlyIf (b == 0) (.isaClz e d a)
  | _ => none

/-- Table ISA-5, opcode 0x10, by func. -/
def decodeMul (e : Fin 32) (d a b : Fin 16) (fn : Nat) : Option Instr :=
  match fn with
  | 0 => some (.isaMul e d a b)
  | 1 => some (.isaMulh e d a b)
  | 2 => some (.isaMulhu e d a b)
  | _ => none

/-- Table ISA-5, opcode 0x11, by func. -/
def decodeMac (e : Fin 32) (d a b : Fin 16) (fn : Nat) : Option Instr :=
  match fn with
  | 0 => onlyIf (d == 0) (.isaMac e a b)
  | 1 => onlyIf (d == 0) (.isaMsu e a b)
  | 2 => onlyIf (d == 0) (.isaMacQ31 e a b)
  | 3 => onlyIf (d == 0) (.isaMsuQ31 e a b)
  | 4 => onlyIf (d == 0) (.isaMacQ15 e a b)
  | 5 => onlyIf (d == 0) (.isaMsuQ15 e a b)
  | _ => none

/-- Table ISA-5, opcode 0x12, by func. -/
def decodeDiv (e : Fin 32) (d a b : Fin 16) (fn : Nat) : Option Instr :=
  match fn with
  | 0 => some (.isaDiv e d a b)
  | 1 => some (.isaDivu e d a b)
  | 2 => some (.isaRem e d a b)
  | 3 => some (.isaRemu e d a b)
  | _ => none

/-- Table ISA-5, opcode 0x14, by func. -/
def decodeAcc (e : Fin 32) (d a b : Fin 16) (fn : Nat) : Option Instr :=
  match fn with
  | 0 => onlyIf (a == 0 && b == 0) (.isaRaccLo e d false)
  | 16 => onlyIf (a == 0 && b == 0) (.isaRaccLo e d true)
  | 1 => onlyIf (a == 0 && b == 0) (.isaRaccHi e d false)
  | 17 => onlyIf (a == 0 && b == 0) (.isaRaccHi e d true)
  | 2 => onlyIf (a == 0 && b == 0) (.isaRaccQ31 e d false)
  | 18 => onlyIf (a == 0 && b == 0) (.isaRaccQ31 e d true)
  | 3 => onlyIf (a == 0 && b == 0) (.isaRaccQ15 e d false)
  | 19 => onlyIf (a == 0 && b == 0) (.isaRaccQ15 e d true)
  | 8 => onlyIf (d == 0) (.isaWacc e a b)
  | _ => none

/-- Table ISA-8, opcode 0x28, by func. -/
def decodePut (e : Fin 32) (d a b : Fin 16) (fn : Nat) : Option Instr :=
  match fn with
  | 0 => onlyIf (d == 0) (.isaRput e a b)
  | 1 => onlyIf (d == 0) (.isaRpute e a b)
  | _ => none

/-- Table ISA-8, opcode 0x29, by func. -/
def decodeTake (e : Fin 32) (d a b : Fin 16) (fn : Nat) : Option Instr :=
  match fn with
  | 0 => onlyIf (b == 0) (.isaRget e d a)
  | 1 => onlyIf (b == 0) (.isaRtry e d a)
  | _ => none

/-- Table ISA-8, opcode 0x2A, by func. -/
def decodeInfo (e : Fin 32) (d a b : Fin 16) (fn : Nat) : Option Instr :=
  match fn with
  | 0 => onlyIf (b == 0) (.isaRinfo e d a false)
  | 1 => onlyIf (b == 0) (.isaRinfo e d a true)
  | _ => none

/-- Table ISA-8, opcode 0x2C, by func. -/
def decodeAlloc (e : Fin 32) (d a b : Fin 16) (fn : Nat) : Option Instr :=
  match fn with
  | 0 => onlyIf (a == 0 && b == 0) (.isaBalloc e d)
  | 1 => onlyIf (a == 0 && b == 0) (.isaBtry e d)
  | _ => none

/-- Table ISA-9, opcode 0x34, by func. -/
def decodeTime (e : Fin 32) (d a b : Fin 16) (fn : Nat) : Option Instr :=
  match fn with
  | 0 => onlyIf (a == 0 && b == 0) (.isaCtl e d)
  | 1 => onlyIf (a == 0 && b == 0) (.isaCth e d)
  | 2 => onlyIf (a == 0 && b == 0) (.isaCyc e d)
  | _ => none

/-- Table ISA-9, opcode 0x35, by func. -/
def decodeWait (e : Fin 32) (d a b : Fin 16) (fn : Nat) : Option Instr :=
  match fn with
  | 0 => onlyIf (d == 0 && a == 0 && b == 0) (.isaWmark e)
  | 1 => onlyIf (d == 0) (.isaWtime e a b)
  | _ => none

/-- Table ISA-9, opcode 0x36, by func. -/
def decodeEvent (e : Fin 32) (d a b : Fin 16) (fn : Nat) : Option Instr :=
  match fn with
  | 0 => onlyIf (a == 0 && b == 0) (.isaEvwait e d)
  | 1 => onlyIf (a == 0 && b == 0) (.isaEvpoll e d)
  | 2 => onlyIf (d == 0 && b == 0) (.isaEvsig e a)
  | _ => none

/-- Table ISA-10, opcode 0x38, by func. -/
def decodeLock (e : Fin 32) (d a b : Fin 16) (fn : Nat) : Option Instr :=
  match fn with
  | 0 => onlyIf (b == 0) (.isaLacq e d a)
  | 1 => onlyIf (b == 0) (.isaLtry e d a)
  | 2 => onlyIf (d == 0 && b == 0) (.isaLrel e a)
  | 3 => onlyIf (d == 0 && b == 0) (.isaLclr e a)
  | _ => none

/-- Table ISA-10, opcode 0x39, by func. -/
def decodeMsg (e : Fin 32) (d a b : Fin 16) (fn : Nat) : Option Instr :=
  match fn with
  | 0 => some (.isaMsend e d a b)
  | 1 => onlyIf (b == 0) (.isaMrecv e d a)
  | 2 => onlyIf (b == 0) (.isaMtry e d a)
  | _ => none

/-- Table ISA-11, opcode 0x3E, by func. -/
def decodeCrc (e : Fin 32) (d a b : Fin 16) (fn : Nat) : Option Instr :=
  match fn with
  | 0 => onlyIf (b == 0) (.isaCrc16B e d a)
  | 1 => onlyIf (b == 0) (.isaCrc16W e d a)
  | 2 => onlyIf (b == 0) (.isaCrc32B e d a)
  | 3 => onlyIf (b == 0) (.isaCrc32W e d a)
  | _ => none

/-- Table ISA-4, opcode 0x05, by kind. -/
def decodeShift (e : Fin 32) (d a : Fin 16) (n : Fin 32) (kind : Nat) : Instr :=
  match kind with
  | 0 => .isaShli e d a n
  | 1 => .isaShri e d a n
  | 2 => .isaSari e d a n
  | _ => .isaRori e d a n

/-- Table ISA-5, opcode 0x13, by func[13:10]: the field must not run past bit 31. -/
def decodeField (e : Fin 32) (d a : Fin 16) (pos wm1 : Fin 32) (kind : Nat) : Option Instr :=
  if 32 < pos.val + wm1.val + 1 then none else
  match kind with
  | 0 => some (.isaBfx e d a pos wm1)
  | 4 => some (.isaBfxs e d a pos wm1)
  | 8 => some (.isaBfi e d a pos wm1)
  | _ => none

/-- The instruction engine e reads from a code word (R221 to R223). -/
def decodeSprue (e : Fin 32) (w : Nat) : Option Instr :=
  let d : Fin 16 := fieldOf 4 w 22 (by decide)
  let a : Fin 16 := fieldOf 4 w 18 (by decide)
  let b : Fin 16 := fieldOf 4 w 14 (by decide)
  let fn := w % 2 ^ 14
  let imm := BitVec.ofNat 14 w
  let imm16 := BitVec.ofNat 16 w
  let w6 := w / 2 ^ 16 % 2 ^ 6
  match w / 2 ^ 26 % 2 ^ 6 with
  | 0x00 => decodeAlu e d a b fn
  | 0x01 => onlyIf (b == 0) (.isaAddi e d a imm)
  | 0x02 => onlyIf (b == 0) (.isaAndi e d a imm)
  | 0x03 => onlyIf (b == 0) (.isaOri e d a imm)
  | 0x04 => onlyIf (b == 0) (.isaXori e d a imm)
  | 0x05 => onlyIf (b == 0 && fn / 32 % 128 == 0) (decodeShift e d a (fieldOf 5 w 0 (by decide)) (fn / 4096))
  | 0x06 => onlyIf (b == 0 && d == 0) (.isaCmpi e a imm)
  | 0x07 => onlyIf (w6 == 0) (.isaMovi e d imm16)
  | 0x08 => onlyIf (w6 == 0) (.isaMovhi e d imm16)
  | 0x10 => decodeMul e d a b fn
  | 0x11 => decodeMac e d a b fn
  | 0x12 => decodeDiv e d a b fn
  | 0x13 => if b == 0 then decodeField e d a (fieldOf 5 w 0 (by decide)) (fieldOf 5 w 5 (by decide)) (fn / 1024) else none
  | 0x14 => decodeAcc e d a b fn
  | 0x18 => onlyIf (b == 0) (.isaLdw e d a imm)
  | 0x19 => onlyIf (b == 0) (.isaLdhs e d a imm)
  | 0x1A => onlyIf (b == 0) (.isaLdhu e d a imm)
  | 0x1B => onlyIf (b == 0) (.isaLdbs e d a imm)
  | 0x1C => onlyIf (b == 0) (.isaLdbu e d a imm)
  | 0x1D => onlyIf (b == 0) (.isaStw e d a imm)
  | 0x1E => onlyIf (b == 0) (.isaSth e d a imm)
  | 0x1F => onlyIf (b == 0) (.isaStb e d a imm)
  | 0x20 => onlyIf (d != 15 && a == 0 && b == 0) (.isaBCond e (BitVec.ofFin d) imm)
  | 0x21 => onlyIf (d == 0 && a == 0 && b == 0) (.isaCall e imm)
  | 0x22 => onlyIf (d == 0 && b == 0 && fn == 0) (.isaJr e a)
  | 0x23 => onlyIf (d == 0 && b == 0 && fn == 0) (.isaCallr e a)
  | 0x24 => onlyIf (d == 0 && b == 0 && decide (0 < imm.toInt)) (.isaLoop e a imm)
  | 0x25 => onlyIf (a == 0 && b == 0) (.isaDbnz e d imm)
  | 0x28 => decodePut e d a b fn
  | 0x29 => decodeTake e d a b fn
  | 0x2A => decodeInfo e d a b fn
  | 0x2B => onlyIf (d == 0 && b == 0 && fn == 0) (.isaRdropp e a)
  | 0x2C => decodeAlloc e d a b fn
  | 0x2D => onlyIf (d == 0 && b == 0 && fn == 0) (.isaBfree e a)
  | 0x2E => onlyIf (d == 0 && fn == 0) (.isaBgive e a b)
  | 0x30 => onlyIf (w6 == 0) (.isaPin e d imm16)
  | 0x31 => onlyIf (w6 == 0) (.isaPout e d imm16)
  | 0x32 => onlyIf (b == 0 && fn == 0) (.isaPinr e d a)
  | 0x33 => onlyIf (d == 0 && fn == 0) (.isaPoutr e a b)
  | 0x34 => decodeTime e d a b fn
  | 0x35 => decodeWait e d a b fn
  | 0x36 => decodeEvent e d a b fn
  | 0x38 => decodeLock e d a b fn
  | 0x39 => decodeMsg e d a b fn
  | 0x3C =>
    if fn % 4096 ≤ 7 then
      match fn / 4096 with
      | 0 => onlyIf (a == 0 && b == 0) (.isaCsrr e d (BitVec.ofNat 12 (fn % 4096)))
      | 1 => onlyIf (d == 0 && b == 0) (.isaCsrw e (BitVec.ofNat 12 (fn % 4096)) a)
      | _ => none
    else none
  | 0x3D =>
    if d == 0 && b == 0 then
      if fn = 3 then some (.isaWflg e a)
      else if fn % 16 = 2 then onlyIf (a == 0) (.isaTrap e (BitVec.ofNat 10 (fn / 16)))
      else match fn with
        | 0 => onlyIf (a == 0) (.isaNop e)
        | 1 => onlyIf (a == 0) (.isaHalt e)
        | _ => none
    else none
  | 0x3E => decodeCrc e d a b fn
  | _ => none

/-- The code word of an engine's instruction (Tables ISA-1, ISA-4 to ISA-11); none for a command that is no instruction. -/
def encodeSprue (i : Instr) : Option Nat :=
  match i with
  | .isaAdd _ d a b => some (wordR 0x00 d.val a.val b.val 0)
  | .isaSub _ d a b => some (wordR 0x00 d.val a.val b.val 1)
  | .isaAdc _ d a b => some (wordR 0x00 d.val a.val b.val 2)
  | .isaSbc _ d a b => some (wordR 0x00 d.val a.val b.val 3)
  | .isaAnd _ d a b => some (wordR 0x00 d.val a.val b.val 4)
  | .isaOr _ d a b => some (wordR 0x00 d.val a.val b.val 5)
  | .isaXor _ d a b => some (wordR 0x00 d.val a.val b.val 6)
  | .isaAndn _ d a b => some (wordR 0x00 d.val a.val b.val 7)
  | .isaShl _ d a b => some (wordR 0x00 d.val a.val b.val 8)
  | .isaShr _ d a b => some (wordR 0x00 d.val a.val b.val 9)
  | .isaSar _ d a b => some (wordR 0x00 d.val a.val b.val 10)
  | .isaRor _ d a b => some (wordR 0x00 d.val a.val b.val 11)
  | .isaAdds _ d a b => some (wordR 0x00 d.val a.val b.val 12)
  | .isaSubs _ d a b => some (wordR 0x00 d.val a.val b.val 13)
  | .isaMin _ d a b => some (wordR 0x00 d.val a.val b.val 14)
  | .isaMax _ d a b => some (wordR 0x00 d.val a.val b.val 15)
  | .isaMinu _ d a b => some (wordR 0x00 d.val a.val b.val 16)
  | .isaMaxu _ d a b => some (wordR 0x00 d.val a.val b.val 17)
  | .isaCmp _ a b => some (wordR 0x00 0 a.val b.val 18)
  | .isaTst _ a b => some (wordR 0x00 0 a.val b.val 19)
  | .isaAbs _ d a => some (wordR 0x00 d.val a.val 0 20)
  | .isaNeg _ d a => some (wordR 0x00 d.val a.val 0 21)
  | .isaClz _ d a => some (wordR 0x00 d.val a.val 0 22)
  | .isaAddi _ d a imm => some (wordR 0x01 d.val a.val 0 imm.toNat)
  | .isaAndi _ d a imm => some (wordR 0x02 d.val a.val 0 imm.toNat)
  | .isaOri _ d a imm => some (wordR 0x03 d.val a.val 0 imm.toNat)
  | .isaXori _ d a imm => some (wordR 0x04 d.val a.val 0 imm.toNat)
  | .isaShli _ d a n => some (wordR 0x05 d.val a.val 0 n.val)
  | .isaShri _ d a n => some (wordR 0x05 d.val a.val 0 (4096 + n.val))
  | .isaSari _ d a n => some (wordR 0x05 d.val a.val 0 (8192 + n.val))
  | .isaRori _ d a n => some (wordR 0x05 d.val a.val 0 (12288 + n.val))
  | .isaCmpi _ a imm => some (wordR 0x06 0 a.val 0 imm.toNat)
  | .isaMovi _ d imm => some (wordW 0x07 d.val imm.toNat)
  | .isaMovhi _ d imm => some (wordW 0x08 d.val imm.toNat)
  | .isaMul _ d a b => some (wordR 0x10 d.val a.val b.val 0)
  | .isaMulh _ d a b => some (wordR 0x10 d.val a.val b.val 1)
  | .isaMulhu _ d a b => some (wordR 0x10 d.val a.val b.val 2)
  | .isaMac _ a b => some (wordR 0x11 0 a.val b.val 0)
  | .isaMsu _ a b => some (wordR 0x11 0 a.val b.val 1)
  | .isaMacQ31 _ a b => some (wordR 0x11 0 a.val b.val 2)
  | .isaMsuQ31 _ a b => some (wordR 0x11 0 a.val b.val 3)
  | .isaMacQ15 _ a b => some (wordR 0x11 0 a.val b.val 4)
  | .isaMsuQ15 _ a b => some (wordR 0x11 0 a.val b.val 5)
  | .isaDiv _ d a b => some (wordR 0x12 d.val a.val b.val 0)
  | .isaDivu _ d a b => some (wordR 0x12 d.val a.val b.val 1)
  | .isaRem _ d a b => some (wordR 0x12 d.val a.val b.val 2)
  | .isaRemu _ d a b => some (wordR 0x12 d.val a.val b.val 3)
  | .isaBfx _ d a pos wm1 => some (wordR 0x13 d.val a.val 0 (32 * wm1.val + pos.val))
  | .isaBfxs _ d a pos wm1 => some (wordR 0x13 d.val a.val 0 (4096 + 32 * wm1.val + pos.val))
  | .isaBfi _ d a pos wm1 => some (wordR 0x13 d.val a.val 0 (8192 + 32 * wm1.val + pos.val))
  | .isaRaccLo _ d clear => some (wordR 0x14 d.val 0 0 (if clear then 16 else 0))
  | .isaRaccHi _ d clear => some (wordR 0x14 d.val 0 0 (if clear then 17 else 1))
  | .isaRaccQ31 _ d clear => some (wordR 0x14 d.val 0 0 (if clear then 18 else 2))
  | .isaRaccQ15 _ d clear => some (wordR 0x14 d.val 0 0 (if clear then 19 else 3))
  | .isaWacc _ a b => some (wordR 0x14 0 a.val b.val 8)
  | .isaLdw _ d a imm => some (wordR 0x18 d.val a.val 0 imm.toNat)
  | .isaLdhs _ d a imm => some (wordR 0x19 d.val a.val 0 imm.toNat)
  | .isaLdhu _ d a imm => some (wordR 0x1A d.val a.val 0 imm.toNat)
  | .isaLdbs _ d a imm => some (wordR 0x1B d.val a.val 0 imm.toNat)
  | .isaLdbu _ d a imm => some (wordR 0x1C d.val a.val 0 imm.toNat)
  | .isaStw _ d a imm => some (wordR 0x1D d.val a.val 0 imm.toNat)
  | .isaSth _ d a imm => some (wordR 0x1E d.val a.val 0 imm.toNat)
  | .isaStb _ d a imm => some (wordR 0x1F d.val a.val 0 imm.toNat)
  | .isaBCond _ cond imm => some (wordR 0x20 cond.toNat 0 0 imm.toNat)
  | .isaCall _ imm => some (wordR 0x21 0 0 0 imm.toNat)
  | .isaJr _ a => some (wordR 0x22 0 a.val 0 0)
  | .isaCallr _ a => some (wordR 0x23 0 a.val 0 0)
  | .isaLoop _ a imm => some (wordR 0x24 0 a.val 0 imm.toNat)
  | .isaDbnz _ d imm => some (wordR 0x25 d.val 0 0 imm.toNat)
  | .isaRput _ a b => some (wordR 0x28 0 a.val b.val 0)
  | .isaRpute _ a b => some (wordR 0x28 0 a.val b.val 1)
  | .isaRget _ d a => some (wordR 0x29 d.val a.val 0 0)
  | .isaRtry _ d a => some (wordR 0x29 d.val a.val 0 1)
  | .isaRinfo _ d a words => some (wordR 0x2A d.val a.val 0 (if words then 1 else 0))
  | .isaRdropp _ a => some (wordR 0x2B 0 a.val 0 0)
  | .isaBalloc _ d => some (wordR 0x2C d.val 0 0 0)
  | .isaBtry _ d => some (wordR 0x2C d.val 0 0 1)
  | .isaBfree _ a => some (wordR 0x2D 0 a.val 0 0)
  | .isaBgive _ a b => some (wordR 0x2E 0 a.val b.val 0)
  | .isaPin _ d port => some (wordW 0x30 d.val port.toNat)
  | .isaPout _ d port => some (wordW 0x31 d.val port.toNat)
  | .isaPinr _ d a => some (wordR 0x32 d.val a.val 0 0)
  | .isaPoutr _ a b => some (wordR 0x33 0 a.val b.val 0)
  | .isaCtl _ d => some (wordR 0x34 d.val 0 0 0)
  | .isaCth _ d => some (wordR 0x34 d.val 0 0 1)
  | .isaCyc _ d => some (wordR 0x34 d.val 0 0 2)
  | .isaWmark _ => some (wordR 0x35 0 0 0 0)
  | .isaWtime _ a b => some (wordR 0x35 0 a.val b.val 1)
  | .isaEvwait _ d => some (wordR 0x36 d.val 0 0 0)
  | .isaEvpoll _ d => some (wordR 0x36 d.val 0 0 1)
  | .isaEvsig _ a => some (wordR 0x36 0 a.val 0 2)
  | .isaLacq _ d a => some (wordR 0x38 d.val a.val 0 0)
  | .isaLtry _ d a => some (wordR 0x38 d.val a.val 0 1)
  | .isaLrel _ a => some (wordR 0x38 0 a.val 0 2)
  | .isaLclr _ a => some (wordR 0x38 0 a.val 0 3)
  | .isaMsend _ d a b => some (wordR 0x39 d.val a.val b.val 0)
  | .isaMrecv _ d a => some (wordR 0x39 d.val a.val 0 1)
  | .isaMtry _ d a => some (wordR 0x39 d.val a.val 0 2)
  | .isaCsrr _ d n => some (wordR 0x3C d.val 0 0 n.toNat)
  | .isaCsrw _ n a => some (wordR 0x3C 0 a.val 0 (4096 + n.toNat))
  | .isaNop _ => some (wordR 0x3D 0 0 0 0)
  | .isaHalt _ => some (wordR 0x3D 0 0 0 1)
  | .isaTrap _ code => some (wordR 0x3D 0 0 0 (16 * code.toNat + 2))
  | .isaWflg _ a => some (wordR 0x3D 0 a.val 0 3)
  | .isaCrc16B _ d a => some (wordR 0x3E d.val a.val 0 0)
  | .isaCrc16W _ d a => some (wordR 0x3E d.val a.val 0 1)
  | .isaCrc32B _ d a => some (wordR 0x3E d.val a.val 0 2)
  | .isaCrc32W _ d a => some (wordR 0x3E d.val a.val 0 3)
  | _ => none

end Sys2Proof
end

