-- ==== Sys2Proof/Config.lean ====
section
/-! DEFINITION. What a part or its surroundings fix and the spec leaves without a value: constants without a body,
so that nothing can be proved of their values. Every one is named in the assumption log. -/

namespace Sys2Proof.Config

/-- The 64-bit unique identity of the part (SYS.ID, RO-K without a listed value; log entry 4). -/
opaque uid : DWord

/-- The free values: what an instrument, a servo or a wear leaves open, one for each number drawn (log entry 6). -/
opaque freeValue : Nat → Word

/-- What the wide hub's records in the tunnel buffer region read as, whose layout the spec does not give: by the number of free values drawn,
chain time and the place read (15_wide_hub_tunnel.md, Registers; log entry 47). -/
opaque tunnelByte : Nat → Nat → Nat → BitVec 8

/-- The residence time at a fold, in ps, that the part measures at production (log entry 7). -/
opaque foldResidence : Word

/-- The reference signature of the logic self-test of each partition, by scope (23_stitch_test_and_bist.md R494; log entry 8). -/
opaque lbistReference : Nat → Word

end Sys2Proof.Config
end

