-- ==== Sys2Proof/Machine/RegNames.lean ====
section
/-! DEFINITION. The register fields by name: one definition per field of every register map of the spec,
with its address, width, reset value and access code (03_register_model.md R48, R49, R55; the tables named per block). -/

namespace Sys2Proof.Machine

/-- The access codes of Table REGS-4 (03_register_model.md R55). -/
inductive Code where
  | rwE | rwP | roS | roC | cnt | cmd | roK
deriving DecidableEq, Repr

/-- One register field: `key` is 32 times its word address plus its lowest bit; `width` its bits; `reset` its listed
reset value (or constant); `code` its access code. -/
structure Fld where
  key : Nat
  width : Nat
  reset : Nat
  code : Code
deriving DecidableEq, Repr

/-- Offset of output o in DRV: SD0 to SD7 are 0 to 7, HB0 to HB3 are 8 to 11 (19_control_outputs.md, Registers). -/
def drvOff (o : Nat) : Nat := if o < 8 then 0x40 * o else 0x200 + 0x40 * (o - 8)

/-- Reset of FUSE.ELEC.LIMIT per channel (17_switching_and_fusing.md Table FUSE-4). -/
def fuseLimitReset (ch : Nat) : Nat := if ch < 5 then 560 else if ch < 9 then 165 else 194

/-- The part's 64-bit unique identity as a number (SYS.ID, 04_power_up_to_service.md). -/
def uid : Nat := Sys2Proof.Config.uid.toNat

namespace Reg


/-! SEAM: 01_node_and_chain.md. -/

def SEAM_STATUS_UP : Fld := ⟨32 * (0x1140000), 1, 0, .roS⟩
def SEAM_STATUS_SAFE : Fld := ⟨32 * (0x1140000) + 1, 1, 0, .roC⟩
def SEAM_STATUS_TRUNK_ON : Fld := ⟨32 * (0x1140000) + 2, 1, 0, .roC⟩
def SEAM_STATUS_RETRAIN_BUSY : Fld := ⟨32 * (0x1140000) + 3, 1, 0, .roS⟩
def SEAM_CRC_CNT : Fld := ⟨32 * (0x1140004), 32, 0, .cnt⟩
def SEAM_LOSS_CNT : Fld := ⟨32 * (0x1140008), 32, 0, .cnt⟩
def SEAM_RETRAIN : Fld := ⟨32 * (0x114000c), 1, 0, .cmd⟩
def SEAM_FIELD_ID : Fld := ⟨32 * (0x1140010), 16, 176, .roK⟩
def SEAM_REJ_CNT : Fld := ⟨32 * (0x1140014), 32, 0, .cnt⟩

/-! CLK: 02_clocks_and_chain_time.md. -/

def CLK_STATUS_SYNC : Fld := ⟨32 * (0x1010000), 2, 0, .roS⟩
def CLK_STATUS_CORE_LOCK : Fld := ⟨32 * (0x1010000) + 2, 1, 0, .roS⟩
def CLK_STATUS_USB_LOCK : Fld := ⟨32 * (0x1010000) + 3, 1, 0, .roS⟩
def CLK_STATUS_COPY_STALE : Fld := ⟨32 * (0x1010000) + 4, 1, 0, .roS⟩
def CLK_STATUS_EN : Fld := ⟨32 * (0x1010000) + 5, 1, 0, .roS⟩
def CLK_CT_LO : Fld := ⟨32 * (0x1010008), 32, 0, .roS⟩
def CLK_CT_HI : Fld := ⟨32 * (0x101000c), 32, 0, .roS⟩
def CLK_CT_INIT_LO : Fld := ⟨32 * (0x1010010), 32, 0, .rwE⟩
def CLK_CT_INIT_HI : Fld := ⟨32 * (0x1010014), 32, 0, .rwE⟩
def CLK_CYCLE : Fld := ⟨32 * (0x1010018), 3, 1, .rwP⟩
def CLK_APPLY : Fld := ⟨32 * (0x101001c), 20, 0, .rwP⟩
def CLK_CYC_NUM : Fld := ⟨32 * (0x1010020), 32, 0, .roS⟩
def CLK_PHASE_ERR : Fld := ⟨32 * (0x1010024), 16, 0, .roS⟩
def CLK_FREQ_ADJ : Fld := ⟨32 * (0x1010028), 24, 0, .roS⟩
def CLK_DELAY : Fld := ⟨32 * (0x101002c), 32, 0, .roS⟩
def CLK_RESID_OUT : Fld := ⟨32 * (0x1010030), 16, 0, .roS⟩
def CLK_RESID_RET : Fld := ⟨32 * (0x1010030) + 16, 16, 0, .roS⟩
def CLK_FREQ : Fld := ⟨32 * (0x1010034), 16, 32768, .roS⟩
def CLK_STEP_CNT : Fld := ⟨32 * (0x1010038), 32, 0, .cnt⟩
def CLK_MISS_CNT : Fld := ⟨32 * (0x101003c), 32, 0, .cnt⟩
def CLK_IGN_CNT : Fld := ⟨32 * (0x1010040), 32, 0, .cnt⟩

/-! SYS: 03_register_model.md. -/

def SYS_POUR : Fld := ⟨32 * (0x1000100), 16, 0, .cmd⟩
def SYS_WITHDRAW : Fld := ⟨32 * (0x1000104), 16, 0, .cmd⟩
def SYS_ARMED : Fld := ⟨32 * (0x1000108), 16, 0, .roS⟩
def SYS_ARM_CYC : Fld := ⟨32 * (0x100010c), 32, 0, .roS⟩
def SYS_REFILL : Fld := ⟨32 * (0x1000110), 16, 0, .roS⟩
def SYS_SEAM_PEND : Fld := ⟨32 * (0x1000114), 1, 0, .roS⟩
def SYS_CH_GO_MASK : Fld := ⟨32 * (0x1000118), 16, 0, .cmd⟩
def SYS_CH_GO_LEAD : Fld := ⟨32 * (0x1000118) + 16, 4, 0, .cmd⟩
def SYS_CH_GO_STATION : Fld := ⟨32 * (0x1000118) + 20, 10, 0, .cmd⟩
def SYS_CH_STAT_STATE : Fld := ⟨32 * (0x100011c), 3, 0, .roS⟩
def SYS_CH_STAT_REFUSED : Fld := ⟨32 * (0x100011c) + 8, 8, 0, .roS⟩
def SYS_CH_STAT_ACTED : Fld := ⟨32 * (0x100011c) + 16, 16, 0, .roS⟩
def SYS_CH_TARGET : Fld := ⟨32 * (0x1000120), 32, 0, .roS⟩
def SYS_POUR_CNT : Fld := ⟨32 * (0x1000124), 32, 0, .cnt⟩
def SYS_LAPSE_CNT : Fld := ⟨32 * (0x1000128), 32, 0, .cnt⟩
def SYS_REJ_CNT : Fld := ⟨32 * (0x100012c), 32, 0, .cnt⟩
def SYS_ID_LO : Fld := ⟨32 * (0x1000000), 32, (uid % 4294967296), .roK⟩
def SYS_ID_HI : Fld := ⟨32 * (0x1000004), 32, (uid / 4294967296), .roK⟩
def SYS_PART_PART : Fld := ⟨32 * (0x1000008), 16, 1608, .roK⟩
def SYS_PART_STEP : Fld := ⟨32 * (0x1000008) + 16, 16, 176, .roK⟩
def SYS_STRAP_ROLE : Fld := ⟨32 * (0x100000c), 2, 0, .roS⟩
def SYS_STRAP_BOOTSEL : Fld := ⟨32 * (0x100000c) + 2, 1, 0, .roS⟩
def SYS_RST_CAUSE : Fld := ⟨32 * (0x1000010), 4, 0, .roS⟩
def SYS_RESET_CORE : Fld := ⟨32 * (0x1000014), 1, 0, .cmd⟩
def SYS_RESET_NODE : Fld := ⟨32 * (0x1000014) + 1, 1, 0, .cmd⟩
def SYS_BOOT_STATE : Fld := ⟨32 * (0x1000018), 3, 0, .roS⟩
def SYS_BOOT_ERR : Fld := ⟨32 * (0x1000018) + 3, 4, 0, .roS⟩
def SYS_BOOT_OPEN : Fld := ⟨32 * (0x1000018) + 7, 1, 0, .roS⟩
def SYS_BOOT_SLOT : Fld := ⟨32 * (0x1000018) + 8, 1, 0, .roS⟩
def SYS_BOOT_SRC : Fld := ⟨32 * (0x1000018) + 9, 1, 0, .roS⟩
def SYS_BOOT_STORE_BUSY : Fld := ⟨32 * (0x1000018) + 10, 1, 0, .roS⟩
def SYS_IMG_VER : Fld := ⟨32 * (0x100001c), 32, 0, .roS⟩
def SYS_IMG_RBI : Fld := ⟨32 * (0x1000020), 9, 0, .roS⟩
def SYS_BOOT_CMD : Fld := ⟨32 * (0x1000024), 1, 0, .cmd⟩
def SYS_RB_CNT : Fld := ⟨32 * (0x1000028), 9, 0, .roS⟩
def SYS_RB_COMMIT : Fld := ⟨32 * (0x100002c), 1, 0, .cmd⟩
def SYS_OTP_STAGE : Fld := ⟨32 * (0x1000030), 32, 0, .cmd⟩
def SYS_OTP_PROG_KEY : Fld := ⟨32 * (0x1000034), 1, 0, .cmd⟩
def SYS_OTP_PROG_CLEAR : Fld := ⟨32 * (0x1000034) + 1, 1, 0, .cmd⟩
def SYS_OTP_STAT_BUSY : Fld := ⟨32 * (0x1000038), 1, 0, .roS⟩
def SYS_OTP_STAT_KEY_SET : Fld := ⟨32 * (0x1000038) + 1, 1, 0, .roS⟩
def SYS_OTP_STAT_STAGED : Fld := ⟨32 * (0x1000038) + 2, 4, 0, .roS⟩
def SYS_OTP_STAT_FAIL : Fld := ⟨32 * (0x1000038) + 6, 1, 0, .roS⟩
def SYS_PWR_REQ : Fld := ⟨32 * (0x1000040), 2, 0, .cmd⟩
def SYS_PWR_TRUNK_OFF : Fld := ⟨32 * (0x1000040) + 2, 1, 0, .cmd⟩
def SYS_PWR_STAT : Fld := ⟨32 * (0x1000044), 2, 0, .roS⟩
def SYS_WAKE_TIMER : Fld := ⟨32 * (0x1000048), 32, 0, .cmd⟩
def SYS_WAKE_LEFT : Fld := ⟨32 * (0x100004c), 32, 0, .roC⟩
def SYS_WAKE_CAUSE : Fld := ⟨32 * (0x1000050), 5, 0, .roC⟩
def SYS_KEEP_STAT_KEEPF_OK : Fld := ⟨32 * (0x1000054), 1, 0, .roC⟩
def SYS_KEEP_STAT_RAIL_FAIL : Fld := ⟨32 * (0x1000054) + 1, 2, 0, .roC⟩

/-! LINK: 05_gleshline_link.md. -/

def LINK_STAT_STATE (p : Nat) : Fld := ⟨32 * (0x1020000 + 0x8000 * p), 3, 0, .roS⟩
def LINK_STAT_WIDTH (p : Nat) : Fld := ⟨32 * (0x1020000 + 0x8000 * p) + 3, 2, 0, .roS⟩
def LINK_STAT_ROLE (p : Nat) : Fld := ⟨32 * (0x1020000 + 0x8000 * p) + 5, 1, 0, .roS⟩
def LINK_STAT_SENIOR (p : Nat) : Fld := ⟨32 * (0x1020000 + 0x8000 * p) + 6, 1, 0, .roS⟩
def LINK_STAT_EN (p : Nat) : Fld := ⟨32 * (0x1020000 + 0x8000 * p) + 7, 1, 1, .roS⟩
def LINK_STAT_LANE_SWAP (p : Nat) : Fld := ⟨32 * (0x1020000 + 0x8000 * p) + 8, 1, 0, .roS⟩
def LINK_STAT_INV0 (p : Nat) : Fld := ⟨32 * (0x1020000 + 0x8000 * p) + 9, 1, 0, .roS⟩
def LINK_STAT_INV1 (p : Nat) : Fld := ⟨32 * (0x1020000 + 0x8000 * p) + 10, 1, 0, .roS⟩
def LINK_STAT_ALT (p : Nat) : Fld := ⟨32 * (0x1020000 + 0x8000 * p) + 11, 1, 0, .roS⟩
def LINK_STAT_REQ_RESULT (p : Nat) : Fld := ⟨32 * (0x1020000 + 0x8000 * p) + 12, 2, 0, .roS⟩
def LINK_STAT_REQ_BUSY (p : Nat) : Fld := ⟨32 * (0x1020000 + 0x8000 * p) + 14, 1, 0, .roS⟩
def LINK_CTRL_ENABLE (p : Nat) : Fld := ⟨32 * (0x1020004 + 0x8000 * p), 1, 0, .cmd⟩
def LINK_CTRL_DISABLE (p : Nat) : Fld := ⟨32 * (0x1020004 + 0x8000 * p) + 1, 1, 0, .cmd⟩
def LINK_CTRL_RETRAIN (p : Nat) : Fld := ⟨32 * (0x1020004 + 0x8000 * p) + 2, 1, 0, .cmd⟩
def LINK_CTRL_WIDTH (p : Nat) : Fld := ⟨32 * (0x1020004 + 0x8000 * p) + 3, 2, 0, .cmd⟩
def LINK_PHY_MEDIA (p : Nat) : Fld := ⟨32 * (0x1020008 + 0x8000 * p), 1, 0, .rwE⟩
def LINK_PHY_MAX_WIDTH (p : Nat) : Fld := ⟨32 * (0x1020008 + 0x8000 * p) + 1, 2, 2, .rwE⟩
def LINK_PHY_EQ_PRESET (p : Nat) : Fld := ⟨32 * (0x1020008 + 0x8000 * p) + 3, 3, 0, .rwE⟩
def LINK_PHY_EQ_FORCE (p : Nat) : Fld := ⟨32 * (0x1020008 + 0x8000 * p) + 6, 1, 0, .rwE⟩
def LINK_EQ_PRE0 (p : Nat) : Fld := ⟨32 * (0x102000c + 0x8000 * p), 3, 0, .roS⟩
def LINK_EQ_PRE1 (p : Nat) : Fld := ⟨32 * (0x102000c + 0x8000 * p) + 3, 3, 0, .roS⟩
def LINK_EQ_CTLE0 (p : Nat) : Fld := ⟨32 * (0x102000c + 0x8000 * p) + 6, 6, 0, .roS⟩
def LINK_EQ_CTLE1 (p : Nat) : Fld := ⟨32 * (0x102000c + 0x8000 * p) + 12, 6, 0, .roS⟩
def LINK_PARTNER_LO (p : Nat) : Fld := ⟨32 * (0x1020010 + 0x8000 * p), 32, 0, .roS⟩
def LINK_PARTNER_HI (p : Nat) : Fld := ⟨32 * (0x1020014 + 0x8000 * p), 32, 0, .roS⟩
def LINK_CG_ERR0 (p : Nat) : Fld := ⟨32 * (0x1020018 + 0x8000 * p), 32, 0, .cnt⟩
def LINK_CG_ERR1 (p : Nat) : Fld := ⟨32 * (0x102001c + 0x8000 * p), 32, 0, .cnt⟩
def LINK_TRAIN_CNT (p : Nat) : Fld := ⟨32 * (0x1020020 + 0x8000 * p), 32, 0, .cnt⟩
def LINK_FAIL_CNT (p : Nat) : Fld := ⟨32 * (0x1020024 + 0x8000 * p), 32, 0, .cnt⟩
def LINK_FAIL_STATE (p : Nat) : Fld := ⟨32 * (0x1020028 + 0x8000 * p), 3, 0, .roS⟩
def LINK_WITHDRAW_CNT (p : Nat) : Fld := ⟨32 * (0x102002c + 0x8000 * p), 32, 0, .cnt⟩
def LINK_ALM_LAST (p : Nat) : Fld := ⟨32 * (0x1020030 + 0x8000 * p), 16, 0, .roS⟩
def LINK_ALM_CNT (p : Nat) : Fld := ⟨32 * (0x1020034 + 0x8000 * p), 32, 0, .cnt⟩
def LINK_MARGIN_CTRL_GO (p : Nat) : Fld := ⟨32 * (0x1020038 + 0x8000 * p), 1, 0, .cmd⟩
def LINK_MARGIN_CTRL_LANE (p : Nat) : Fld := ⟨32 * (0x1020038 + 0x8000 * p) + 1, 1, 0, .cmd⟩
def LINK_MARGIN_BUSY (p : Nat) : Fld := ⟨32 * (0x102003c + 0x8000 * p), 1, 0, .roS⟩
def LINK_MARGIN_VALID (p : Nat) : Fld := ⟨32 * (0x102003c + 0x8000 * p) + 1, 1, 0, .roS⟩
def LINK_MARGIN_WIDTH (p : Nat) : Fld := ⟨32 * (0x102003c + 0x8000 * p) + 2, 6, 0, .roS⟩
def LINK_MARGIN_HEIGHT (p : Nat) : Fld := ⟨32 * (0x102003c + 0x8000 * p) + 8, 8, 0, .roS⟩
def LINK_POLICY (p : Nat) : Fld := ⟨32 * (0x1020040 + 0x8000 * p), 8, 0, .rwP⟩
def LINK_CYC_BAD_CNT (p : Nat) : Fld := ⟨32 * (0x1020044 + 0x8000 * p), 32, 0, .cnt⟩
def LINK_DOWN_CNT (p : Nat) : Fld := ⟨32 * (0x1020048 + 0x8000 * p), 32, 0, .cnt⟩
def LINK_IGN_CNT (p : Nat) : Fld := ⟨32 * (0x102004c + 0x8000 * p), 32, 0, .cnt⟩
def LINK_REJ_CNT (p : Nat) : Fld := ⟨32 * (0x1020050 + 0x8000 * p), 32, 0, .cnt⟩

/-! CHAIN: 05_gleshline_link.md. -/

def CHAIN_SLEEP_PROP : Fld := ⟨32 * (0x1040200), 32, 0, .cmd⟩
def CHAIN_SLEEP_STAT_STATE : Fld := ⟨32 * (0x1040204), 2, 0, .roS⟩
def CHAIN_SLEEP_STAT_WAKE_PEND : Fld := ⟨32 * (0x1040204) + 2, 1, 0, .roS⟩
def CHAIN_SLEEP_CFG_INHIBIT : Fld := ⟨32 * (0x1040208), 1, 0, .rwP⟩
def CHAIN_SLEEP_CFG_KEEP_HEAD : Fld := ⟨32 * (0x1040208) + 1, 1, 0, .rwP⟩
def CHAIN_SLEEP_GO : Fld := ⟨32 * (0x104020c), 4, 0, .cmd⟩
def CHAIN_SLEEP_RES : Fld := ⟨32 * (0x1040210), 2, 0, .roS⟩

/-! GATE: 06_cycle_frames_and_gate.md. -/

def GATE_STAT_SERVING : Fld := ⟨32 * (0x1030000), 1, 0, .roS⟩
def GATE_STAT_ORIGIN : Fld := ⟨32 * (0x1030000) + 1, 1, 0, .roS⟩
def GATE_STAT_URG_QUEUED : Fld := ⟨32 * (0x1030000) + 2, 1, 0, .roS⟩
def GATE_STAT_SAVED : Fld := ⟨32 * (0x1030000) + 3, 1, 0, .roS⟩
def GATE_HEAD_RET_CYC : Fld := ⟨32 * (0x1030004), 32, 0, .roS⟩
def GATE_HEAD_RET_ERR : Fld := ⟨32 * (0x1030008), 16, 0, .roS⟩
def GATE_URG_GO : Fld := ⟨32 * (0x103000c), 4, 0, .cmd⟩
def GATE_FRAME_CNT : Fld := ⟨32 * (0x1030010), 32, 0, .cnt⟩
def GATE_FCRC_CNT : Fld := ⟨32 * (0x1030014), 32, 0, .cnt⟩
def GATE_STOMP_CNT : Fld := ⟨32 * (0x1030018), 32, 0, .cnt⟩
def GATE_HCRC_CNT : Fld := ⟨32 * (0x103001c), 32, 0, .cnt⟩
def GATE_MALFORM_CNT : Fld := ⟨32 * (0x1030020), 32, 0, .cnt⟩
def GATE_BAD_OP_CNT : Fld := ⟨32 * (0x1030024), 32, 0, .cnt⟩
def GATE_ACT_CNT : Fld := ⟨32 * (0x1030028), 32, 0, .cnt⟩
def GATE_REFUSE_CNT : Fld := ⟨32 * (0x103002c), 32, 0, .cnt⟩
def GATE_DEF_CNT : Fld := ⟨32 * (0x1030030), 32, 0, .cnt⟩
def GATE_DEF_LOST_CNT : Fld := ⟨32 * (0x1030034), 32, 0, .cnt⟩
def GATE_LATE_REJ_CNT : Fld := ⟨32 * (0x1030038), 32, 0, .cnt⟩
def GATE_PRE_CNT : Fld := ⟨32 * (0x103003c), 32, 0, .cnt⟩
def GATE_REJ_CNT : Fld := ⟨32 * (0x1030040), 32, 0, .cnt⟩
def GATE_FRAME_CTL_COUNT (i : Nat) : Fld := ⟨32 * (0x1030080 + 4 * i), 7, 0, .rwP⟩
def GATE_FRAME_CTL_URG (i : Nat) : Fld := ⟨32 * (0x1030080 + 4 * i) + 7, 1, 0, .rwP⟩
def GATE_HEAD_CTL : Fld := ⟨32 * (0x1030100), 1, 0, .rwP⟩
def GATE_WIN_LOGICAL (i : Nat) : Fld := ⟨32 * (0x1031000 + 16 * i), 32, 0, .rwP⟩
def GATE_WIN_LOCAL (i : Nat) : Fld := ⟨32 * (0x1031004 + 16 * i), 14, 0, .rwP⟩
def GATE_WIN_DIR (i : Nat) : Fld := ⟨32 * (0x1031004 + 16 * i) + 14, 1, 0, .rwP⟩
def GATE_WIN_EN (i : Nat) : Fld := ⟨32 * (0x1031004 + 16 * i) + 15, 1, 0, .rwP⟩
def GATE_WIN_LEN (i : Nat) : Fld := ⟨32 * (0x1031008 + 16 * i), 13, 0, .rwP⟩
def GATE_WIN_LIVE (i : Nat) : Fld := ⟨32 * (0x1031008 + 16 * i) + 13, 1, 0, .rwP⟩
def GATE_WIN_FLASK (i : Nat) : Fld := ⟨32 * (0x1031008 + 16 * i) + 14, 6, 0, .rwP⟩
def GATE_SLOT_HDR (i : Nat) : Fld := ⟨32 * (0x1034000 + 16 * i), 32, 0, .rwP⟩
def GATE_SLOT_TARGET (i : Nat) : Fld := ⟨32 * (0x1034004 + 16 * i), 32, 0, .rwP⟩
def GATE_SLOT_LEN (i : Nat) : Fld := ⟨32 * (0x1034008 + 16 * i), 12, 0, .rwP⟩
def GATE_SLOT_RET (i : Nat) : Fld := ⟨32 * (0x1034008 + 16 * i) + 12, 1, 0, .rwP⟩
def GATE_SLOT_BUF (i : Nat) : Fld := ⟨32 * (0x103400c + 16 * i), 20, 0, .rwP⟩

/-! CHAIN: 07_chain_topology_and_heads.md. -/

def CHAIN_STAT_ROLE : Fld := ⟨32 * (0x1040000), 2, 0, .roS⟩
def CHAIN_STAT_TAIL : Fld := ⟨32 * (0x1040000) + 2, 1, 0, .roS⟩
def CHAIN_STAT_ADDR_VALID : Fld := ⟨32 * (0x1040000) + 3, 1, 0, .roS⟩
def CHAIN_STAT_JOIN : Fld := ⟨32 * (0x1040000) + 4, 1, 0, .roS⟩
def CHAIN_STAT_READY : Fld := ⟨32 * (0x1040000) + 5, 1, 0, .roS⟩
def CHAIN_STAT_DLY_PEND : Fld := ⟨32 * (0x1040000) + 6, 1, 0, .roS⟩
def CHAIN_STAT_DETACHED : Fld := ⟨32 * (0x1040000) + 7, 1, 0, .roS⟩
def CHAIN_STAT_HK_BLOCKED : Fld := ⟨32 * (0x1040000) + 8, 1, 0, .roS⟩
def CHAIN_STAT_RING : Fld := ⟨32 * (0x1040000) + 9, 2, 0, .roS⟩
def CHAIN_STAT_REV_OK : Fld := ⟨32 * (0x1040000) + 11, 1, 0, .roS⟩
def CHAIN_ADDR_STATION : Fld := ⟨32 * (0x1040004), 10, 0, .roS⟩
def CHAIN_ADDR_RING : Fld := ⟨32 * (0x1040004) + 10, 2, 0, .roS⟩
def CHAIN_INFO0 : Fld := ⟨32 * (0x1040010), 32, (uid % 4294967296), .roK⟩
def CHAIN_INFO1 : Fld := ⟨32 * (0x1040014), 32, (uid / 4294967296), .roK⟩
def CHAIN_INFO2_STICKY : Fld := ⟨32 * (0x1040018), 10, 0, .roS⟩
def CHAIN_INFO2_S_RING : Fld := ⟨32 * (0x1040018) + 10, 2, 0, .roS⟩
def CHAIN_INFO2_S_VALID : Fld := ⟨32 * (0x1040018) + 12, 1, 0, .roS⟩
def CHAIN_INFO3_STATION : Fld := ⟨32 * (0x104001c), 10, 0, .roS⟩
def CHAIN_INFO3_RING : Fld := ⟨32 * (0x104001c) + 10, 2, 0, .roS⟩
def CHAIN_INFO3_ADDR_VALID : Fld := ⟨32 * (0x104001c) + 12, 1, 0, .roS⟩
def CHAIN_INFO3_STRAP : Fld := ⟨32 * (0x104001c) + 13, 2, 0, .roS⟩
def CHAIN_INFO3_BRIDGE : Fld := ⟨32 * (0x104001c) + 15, 1, 0, .roS⟩
def CHAIN_INFO3_SERVING : Fld := ⟨32 * (0x104001c) + 16, 1, 0, .roS⟩
def CHAIN_ASSIGN_UID0 : Fld := ⟨32 * (0x1040020), 32, 0, .cmd⟩
def CHAIN_ASSIGN_UID1 : Fld := ⟨32 * (0x1040024), 32, 0, .cmd⟩
def CHAIN_ASSIGN_STATION : Fld := ⟨32 * (0x1040028), 10, 0, .cmd⟩
def CHAIN_ASSIGN_RING : Fld := ⟨32 * (0x1040028) + 10, 2, 0, .cmd⟩
def CHAIN_STICKY_CLR : Fld := ⟨32 * (0x104002c), 1, 0, .cmd⟩
def CHAIN_CFG_AUTO_ENUM : Fld := ⟨32 * (0x1040030), 1, 1, .rwP⟩
def CHAIN_CFG_STICKY_USE : Fld := ⟨32 * (0x1040030) + 1, 1, 1, .rwP⟩
def CHAIN_CFG_STICKY_SAVE : Fld := ⟨32 * (0x1040030) + 2, 1, 1, .rwP⟩
def CHAIN_CFG_RSV_EN : Fld := ⟨32 * (0x1040030) + 3, 1, 1, .rwP⟩
def CHAIN_CFG_CKPT_SLOTS : Fld := ⟨32 * (0x1040030) + 4, 4, 4, .rwP⟩
def CHAIN_CFG_BR_EN : Fld := ⟨32 * (0x1040030) + 8, 1, 0, .rwP⟩
def CHAIN_CFG_BR_RING : Fld := ⟨32 * (0x1040030) + 9, 2, 0, .rwP⟩
def CHAIN_CKPT_EVERY : Fld := ⟨32 * (0x1040034), 16, 1000, .rwP⟩
def CHAIN_MEMBERS : Fld := ⟨32 * (0x1040038), 12, 0, .roS⟩
def CHAIN_RING_CNT_COUNT (i : Nat) : Fld := ⟨32 * (0x1040040 + 4 * i), 10, 0, .roS⟩
def CHAIN_RING_CNT_USED (i : Nat) : Fld := ⟨32 * (0x1040040 + 4 * i) + 10, 1, 0, .roS⟩
def CHAIN_DETACH : Fld := ⟨32 * (0x1040050), 32, 0, .cmd⟩
def CHAIN_HANDBACK_GO : Fld := ⟨32 * (0x1040054), 4, 0, .cmd⟩
def CHAIN_EPOCH_TX : Fld := ⟨32 * (0x1040058), 32, 0, .roS⟩
def CHAIN_EPOCH_OK : Fld := ⟨32 * (0x104005c), 32, 0, .roS⟩
def CHAIN_CKPT_STAT_NEXT : Fld := ⟨32 * (0x1040060), 16, 0, .roS⟩
def CHAIN_CKPT_STAT_TOTAL : Fld := ⟨32 * (0x1040060) + 16, 16, 0, .roS⟩
def CHAIN_BACK_T : Fld := ⟨32 * (0x1040064), 32, 0, .roS⟩
def CHAIN_DLY_ACC : Fld := ⟨32 * (0x1040068), 32, 0, .roS⟩
def CHAIN_FOLD_RES : Fld := ⟨32 * (0x104006c), 16, 0, .roS⟩
def CHAIN_REV_Q : Fld := ⟨32 * (0x1040070), 32, 0, .cmd⟩
def CHAIN_REV_Q_VAL : Fld := ⟨32 * (0x1040074), 32, 0, .roS⟩
def CHAIN_REV_DELAY : Fld := ⟨32 * (0x1040078), 32, 0, .roS⟩
def CHAIN_ASSIGN_CNT : Fld := ⟨32 * (0x1040080), 32, 0, .cnt⟩
def CHAIN_CONFLICT_CNT : Fld := ⟨32 * (0x1040084), 32, 0, .cnt⟩
def CHAIN_TAKEOVER_CNT : Fld := ⟨32 * (0x1040088), 32, 0, .cnt⟩
def CHAIN_CKPT_DISCARD_CNT : Fld := ⟨32 * (0x104008c), 32, 0, .cnt⟩
def CHAIN_SWAP_CNT : Fld := ⟨32 * (0x1040090), 32, 0, .cnt⟩
def CHAIN_REJ_CNT : Fld := ⟨32 * (0x1040094), 32, 0, .cnt⟩
def CHAIN_CKPT_IN (i : Nat) : Fld := ⟨32 * (0x1040400 + 4 * i), 32, 0, .cmd⟩

/-! GATE: 08_process_image.md. -/

def GATE_IMG_FRESH (i : Nat) : Fld := ⟨32 * (0x1030200 + 4 * i), 32, 0, .roS⟩
def GATE_IMG_STALE (i : Nat) : Fld := ⟨32 * (0x1030210 + 4 * i), 32, 0, .roS⟩
def GATE_IMG_SEL (i : Nat) : Fld := ⟨32 * (0x1030220 + 4 * i), 32, 0, .roS⟩
def GATE_IMG_STAT_NSEL : Fld := ⟨32 * (0x1030230), 1, 0, .roS⟩
def GATE_IMG_STAT_HELD : Fld := ⟨32 * (0x1030230) + 1, 1, 0, .roS⟩
def GATE_IMG_SWAP_CNT : Fld := ⟨32 * (0x1030234), 32, 0, .cnt⟩
def GATE_IMG_STALE_CNT : Fld := ⟨32 * (0x1030238), 32, 0, .cnt⟩
def GATE_IMG_STALL_CNT : Fld := ⟨32 * (0x103023c), 32, 0, .cnt⟩
def GATE_IMG_SKIP_CNT : Fld := ⟨32 * (0x1030240), 32, 0, .cnt⟩

/-! ENG: 09_sprue_engines.md. -/

def ENG_STAT_STATE (e : Nat) : Fld := ⟨32 * (0x1050000 + 0x400 * e), 3, 0, .roS⟩
def ENG_STAT_WAIT_CAUSE (e : Nat) : Fld := ⟨32 * (0x1050000 + 0x400 * e) + 3, 4, 0, .roS⟩
def ENG_STAT_IDLE_HELD (e : Nat) : Fld := ⟨32 * (0x1050000 + 0x400 * e) + 7, 1, 0, .roS⟩
def ENG_STAT_ARM_START (e : Nat) : Fld := ⟨32 * (0x1050000 + 0x400 * e) + 8, 1, 0, .roS⟩
def ENG_STAT_ARM_HALT (e : Nat) : Fld := ⟨32 * (0x1050000 + 0x400 * e) + 9, 1, 0, .roS⟩
def ENG_STAT_EN (e : Nat) : Fld := ⟨32 * (0x1050000 + 0x400 * e) + 10, 1, 0, .roS⟩
def ENG_CTL_START (e : Nat) : Fld := ⟨32 * (0x1050004 + 0x400 * e), 1, 0, .cmd⟩
def ENG_CTL_HALT (e : Nat) : Fld := ⟨32 * (0x1050004 + 0x400 * e) + 1, 1, 0, .cmd⟩
def ENG_CTL_RESUME (e : Nat) : Fld := ⟨32 * (0x1050004 + 0x400 * e) + 2, 1, 0, .cmd⟩
def ENG_CTL_RESET (e : Nat) : Fld := ⟨32 * (0x1050004 + 0x400 * e) + 3, 1, 0, .cmd⟩
def ENG_CTL_ARM_START (e : Nat) : Fld := ⟨32 * (0x1050004 + 0x400 * e) + 4, 1, 0, .cmd⟩
def ENG_CTL_ARM_HALT (e : Nat) : Fld := ⟨32 * (0x1050004 + 0x400 * e) + 5, 1, 0, .cmd⟩
def ENG_CTL_ARM_CLR (e : Nat) : Fld := ⟨32 * (0x1050004 + 0x400 * e) + 6, 1, 0, .cmd⟩
def ENG_PC (e : Nat) : Fld := ⟨32 * (0x1050008 + 0x400 * e), 11, 0, .rwE⟩
def ENG_CFG_SUPV_ENG (e : Nat) : Fld := ⟨32 * (0x105000c + 0x400 * e), 5, 0, .rwP⟩
def ENG_CFG_SUPV_EN (e : Nat) : Fld := ⟨32 * (0x105000c + 0x400 * e) + 5, 1, 0, .rwP⟩
def ENG_CFG_MARK_KICK (e : Nat) : Fld := ⟨32 * (0x105000c + 0x400 * e) + 6, 1, 0, .rwP⟩
def ENG_WDOG (e : Nat) : Fld := ⟨32 * (0x1050010 + 0x400 * e), 16, 0, .rwP⟩
def ENG_WDOG_LEFT (e : Nat) : Fld := ⟨32 * (0x1050014 + 0x400 * e), 16, 0, .roS⟩
def ENG_TRAP_CAUSE (e : Nat) : Fld := ⟨32 * (0x1050018 + 0x400 * e), 4, 0, .roS⟩
def ENG_TRAP_PC (e : Nat) : Fld := ⟨32 * (0x1050018 + 0x400 * e) + 4, 11, 0, .roS⟩
def ENG_TRAP_ADDR (e : Nat) : Fld := ⟨32 * (0x105001c + 0x400 * e), 32, 0, .roS⟩
def ENG_ACCESS (e : Nat) : Fld := ⟨32 * (0x1050020 + 0x400 * e), 2, 0, .roS⟩
def ENG_RUN_CC (e : Nat) : Fld := ⟨32 * (0x1050024 + 0x400 * e), 32, 0, .cnt⟩
def ENG_WAIT_CC (e : Nat) : Fld := ⟨32 * (0x1050028 + 0x400 * e), 32, 0, .cnt⟩
def ENG_STALL_CC (e : Nat) : Fld := ⟨32 * (0x105002c + 0x400 * e), 32, 0, .cnt⟩
def ENG_INSTR_CNT (e : Nat) : Fld := ⟨32 * (0x1050030 + 0x400 * e), 32, 0, .cnt⟩
def ENG_ECC_CNT (e : Nat) : Fld := ⟨32 * (0x1050034 + 0x400 * e), 32, 0, .cnt⟩
def ENG_POISON_CNT (e : Nat) : Fld := ⟨32 * (0x1050038 + 0x400 * e), 32, 0, .cnt⟩
def ENG_TRAP_CNT (e : Nat) : Fld := ⟨32 * (0x105003c + 0x400 * e), 32, 0, .cnt⟩
def ENG_IGN_CNT (e : Nat) : Fld := ⟨32 * (0x1050040 + 0x400 * e), 32, 0, .cnt⟩
def ENG_REJ_CNT (e : Nat) : Fld := ⟨32 * (0x1050044 + 0x400 * e), 32, 0, .cnt⟩
def ENG_GREG (e i : Nat) : Fld := ⟨32 * (0x1050100 + 0x400 * e + 4 * i), 32, 0, .roS⟩
def ENG_FLAGS (e : Nat) : Fld := ⟨32 * (0x1050140 + 0x400 * e), 5, 0, .roS⟩
def ENG_ACC_LO (e : Nat) : Fld := ⟨32 * (0x1050144 + 0x400 * e), 32, 0, .roS⟩
def ENG_ACC_HI (e : Nat) : Fld := ⟨32 * (0x1050148 + 0x400 * e), 32, 0, .roS⟩
def ENG_START_MASK : Fld := ⟨32 * (0x1058000), 32, 0, .cmd⟩
def ENG_HALT_MASK : Fld := ⟨32 * (0x1058004), 32, 0, .cmd⟩
def ENG_LOAD_SRC : Fld := ⟨32 * (0x1058008), 20, 0, .cmd⟩
def ENG_LOAD_GO_ENGINE : Fld := ⟨32 * (0x105800c), 5, 0, .cmd⟩
def ENG_LOAD_GO_DST : Fld := ⟨32 * (0x105800c) + 5, 11, 0, .cmd⟩
def ENG_LOAD_GO_LEN : Fld := ⟨32 * (0x105800c) + 16, 12, 0, .cmd⟩
def ENG_LOAD_STAT_BUSY : Fld := ⟨32 * (0x1058010), 1, 0, .roS⟩
def ENG_LOAD_STAT_RESULT : Fld := ⟨32 * (0x1058010) + 1, 2, 0, .roS⟩
def ENG_LOAD_STAT_ENGINE : Fld := ⟨32 * (0x1058010) + 3, 5, 0, .roS⟩
def ENG_LOAD_STAT_DONE : Fld := ⟨32 * (0x1058010) + 8, 12, 0, .roS⟩
def ENG_BLK_REJ_CNT : Fld := ⟨32 * (0x1058014), 32, 0, .cnt⟩
def ENG_CLAIM_FIRST (i : Nat) : Fld := ⟨32 * (0x1059000 + 8 * i), 16, 0, .rwP⟩
def ENG_CLAIM_COUNT (i : Nat) : Fld := ⟨32 * (0x1059000 + 8 * i) + 16, 16, 0, .rwP⟩
def ENG_CLAIM_ENGINE (i : Nat) : Fld := ⟨32 * (0x1059004 + 8 * i), 5, 0, .rwP⟩
def ENG_CLAIM_MODE (i : Nat) : Fld := ⟨32 * (0x1059004 + 8 * i) + 5, 1, 0, .rwP⟩
def ENG_CLAIM_EN (i : Nat) : Fld := ⟨32 * (0x1059004 + 8 * i) + 6, 1, 0, .rwP⟩

/-! RUN: 11_runners.md. -/

def RUN_CFG_BASE (q : Nat) : Fld := ⟨32 * (0x1060000 + 0x40 * q), 15, 0, .rwE⟩
def RUN_CFG_SIZE (q : Nat) : Fld := ⟨32 * (0x1060000 + 0x40 * q) + 16, 11, 16, .rwE⟩
def RUN_CFG_MODE (q : Nat) : Fld := ⟨32 * (0x1060000 + 0x40 * q) + 27, 1, 0, .rwE⟩
def RUN_OWNER_PROD (q : Nat) : Fld := ⟨32 * (0x1060004 + 0x40 * q), 6, 0, .rwP⟩
def RUN_OWNER_PROD_V (q : Nat) : Fld := ⟨32 * (0x1060004 + 0x40 * q) + 6, 1, 0, .rwP⟩
def RUN_OWNER_CONS (q : Nat) : Fld := ⟨32 * (0x1060004 + 0x40 * q) + 8, 6, 0, .rwP⟩
def RUN_OWNER_CONS_V (q : Nat) : Fld := ⟨32 * (0x1060004 + 0x40 * q) + 14, 1, 0, .rwP⟩
def RUN_CTL_ENABLE (q : Nat) : Fld := ⟨32 * (0x1060008 + 0x40 * q), 1, 0, .cmd⟩
def RUN_CTL_DISABLE (q : Nat) : Fld := ⟨32 * (0x1060008 + 0x40 * q) + 1, 1, 0, .cmd⟩
def RUN_STAT_EN (q : Nat) : Fld := ⟨32 * (0x106000c + 0x40 * q), 1, 0, .roS⟩
def RUN_STAT_FILL (q : Nat) : Fld := ⟨32 * (0x106000c + 0x40 * q) + 1, 1, 0, .roS⟩
def RUN_STAT_OVL (q : Nat) : Fld := ⟨32 * (0x106000c + 0x40 * q) + 2, 1, 0, .roS⟩
def RUN_STAT_P_DROP (q : Nat) : Fld := ⟨32 * (0x106000c + 0x40 * q) + 3, 1, 0, .roS⟩
def RUN_STAT_C_DROP (q : Nat) : Fld := ⟨32 * (0x106000c + 0x40 * q) + 4, 1, 0, .roS⟩
def RUN_STAT_P_FENCED (q : Nat) : Fld := ⟨32 * (0x106000c + 0x40 * q) + 5, 1, 0, .roS⟩
def RUN_STAT_C_FENCED (q : Nat) : Fld := ⟨32 * (0x106000c + 0x40 * q) + 6, 1, 0, .roS⟩
def RUN_STAT_WAITERS (q : Nat) : Fld := ⟨32 * (0x106000c + 0x40 * q) + 8, 6, 0, .roS⟩
def RUN_LEVEL_WORDS (q : Nat) : Fld := ⟨32 * (0x1060010 + 0x40 * q), 12, 0, .roS⟩
def RUN_LEVEL_PKTS (q : Nat) : Fld := ⟨32 * (0x1060010 + 0x40 * q) + 16, 12, 0, .roS⟩
def RUN_MGET (q : Nat) : Fld := ⟨32 * (0x1060014 + 0x40 * q), 32, 0, .roS⟩
def RUN_MGET_STAT (q : Nat) : Fld := ⟨32 * (0x1060018 + 0x40 * q), 2, 0, .roS⟩
def RUN_MPUT (q : Nat) : Fld := ⟨32 * (0x106001c + 0x40 * q), 32, 0, .cmd⟩
def RUN_MPUT_E (q : Nat) : Fld := ⟨32 * (0x1060020 + 0x40 * q), 32, 0, .cmd⟩
def RUN_MDROPP (q : Nat) : Fld := ⟨32 * (0x1060024 + 0x40 * q), 1, 0, .cmd⟩
def RUN_LOST_CNT (q : Nat) : Fld := ⟨32 * (0x1060028 + 0x40 * q), 32, 0, .cnt⟩
def RUN_OVL_CNT (q : Nat) : Fld := ⟨32 * (0x106002c + 0x40 * q), 32, 0, .cnt⟩
def RUN_OVL_SUPP_CNT (q : Nat) : Fld := ⟨32 * (0x1060030 + 0x40 * q), 32, 0, .cnt⟩
def RUN_PTR_CNT (q : Nat) : Fld := ⟨32 * (0x1060034 + 0x40 * q), 32, 0, .cnt⟩
def RUN_IGN_CNT (q : Nat) : Fld := ⟨32 * (0x1060038 + 0x40 * q), 32, 0, .cnt⟩
def RUN_REJ_CNT (q : Nat) : Fld := ⟨32 * (0x106003c + 0x40 * q), 32, 0, .cnt⟩
def RUN_USED : Fld := ⟨32 * (0x1068000), 16, 0, .roS⟩
def RUN_OVL_MAP (i : Nat) : Fld := ⟨32 * (0x1068010 + 4 * i), 32, 0, .roS⟩

/-! SYNC: 12_locks_buffers_messages.md. -/

def SYNC_STAT_FREE : Fld := ⟨32 * (0x1070000), 12, 2048, .roS⟩
def SYNC_STAT_OVL : Fld := ⟨32 * (0x1070000) + 12, 1, 0, .roS⟩
def SYNC_POOL_CFG_GATE_RESV : Fld := ⟨32 * (0x1070004), 7, 16, .rwP⟩
def SYNC_POOL_CFG_MAX_OWN : Fld := ⟨32 * (0x1070004) + 8, 11, 0, .rwP⟩
def SYNC_B_ALLOC : Fld := ⟨32 * (0x1070008), 32, 0, .roS⟩
def SYNC_B_FREE : Fld := ⟨32 * (0x107000c), 11, 0, .cmd⟩
def SYNC_B_GIVE_BUF : Fld := ⟨32 * (0x1070010), 11, 0, .cmd⟩
def SYNC_B_GIVE_OWNER : Fld := ⟨32 * (0x1070010) + 16, 6, 0, .cmd⟩
def SYNC_LOCK_CMD_LOCK : Fld := ⟨32 * (0x1070014), 8, 0, .cmd⟩
def SYNC_LOCK_CMD_OP : Fld := ⟨32 * (0x1070014) + 8, 2, 0, .cmd⟩
def SYNC_LOCK_RES : Fld := ⟨32 * (0x1070018), 2, 3, .roS⟩
def SYNC_M_SEND_BUF : Fld := ⟨32 * (0x1070020), 11, 0, .cmd⟩
def SYNC_M_SEND_LEN : Fld := ⟨32 * (0x1070020) + 16, 8, 0, .cmd⟩
def SYNC_M_SEND_MBX : Fld := ⟨32 * (0x1070020) + 24, 6, 0, .cmd⟩
def SYNC_M_RECV_SEL : Fld := ⟨32 * (0x1070024), 6, 0, .cmd⟩
def SYNC_M_RECV : Fld := ⟨32 * (0x1070028), 32, 0, .roS⟩
def SYNC_RECLAIM_CNT : Fld := ⟨32 * (0x1070040), 32, 0, .cnt⟩
def SYNC_FOREIGN_CNT : Fld := ⟨32 * (0x1070044), 32, 0, .cnt⟩
def SYNC_DOUBLE_CNT : Fld := ⟨32 * (0x1070048), 32, 0, .cnt⟩
def SYNC_QUOTA_CNT : Fld := ⟨32 * (0x107004c), 32, 0, .cnt⟩
def SYNC_LPOISON_CNT : Fld := ⟨32 * (0x1070050), 32, 0, .cnt⟩
def SYNC_OVL_CNT : Fld := ⟨32 * (0x1070054), 32, 0, .cnt⟩
def SYNC_OVL_SUPP_CNT : Fld := ⟨32 * (0x1070058), 32, 0, .cnt⟩
def SYNC_MBX_REF_CNT : Fld := ⟨32 * (0x107005c), 32, 0, .cnt⟩
def SYNC_FLUSH_CNT : Fld := ⟨32 * (0x1070060), 32, 0, .cnt⟩
def SYNC_REJ_CNT : Fld := ⟨32 * (0x1070064), 32, 0, .cnt⟩
def SYNC_LOCK_STAT_OWNER (i : Nat) : Fld := ⟨32 * (0x1070100 + 4 * i), 6, 63, .roS⟩
def SYNC_LOCK_STAT_POISON (i : Nat) : Fld := ⟨32 * (0x1070100 + 4 * i) + 6, 1, 0, .roS⟩
def SYNC_LOCK_STAT_WAITERS (i : Nat) : Fld := ⟨32 * (0x1070100 + 4 * i) + 7, 6, 0, .roS⟩
def SYNC_LOCK_HOLD (i : Nat) : Fld := ⟨32 * (0x1070500 + 4 * i), 32, 0, .rwP⟩
def SYNC_BUF_OWN (i : Nat) : Fld := ⟨32 * (0x1070800 + 4 * i), 6, 63, .roS⟩
def SYNC_MBX_CFG_KIND (i : Nat) : Fld := ⟨32 * (0x1073000 + 16 * i), 2, 0, .rwP⟩
def SYNC_MBX_CFG_DEPTH (i : Nat) : Fld := ⟨32 * (0x1073000 + 16 * i) + 2, 8, 128, .rwP⟩
def SYNC_MBX_CFG_SEND (i : Nat) : Fld := ⟨32 * (0x1073000 + 16 * i) + 10, 6, 0, .rwP⟩
def SYNC_MBX_CFG_SEND_V (i : Nat) : Fld := ⟨32 * (0x1073000 + 16 * i) + 16, 1, 0, .rwP⟩
def SYNC_MBX_CFG_RECV (i : Nat) : Fld := ⟨32 * (0x1073000 + 16 * i) + 17, 6, 0, .rwP⟩
def SYNC_MBX_CFG_RECV_V (i : Nat) : Fld := ⟨32 * (0x1073000 + 16 * i) + 23, 1, 0, .rwP⟩
def SYNC_MBX_STAT_COUNT (i : Nat) : Fld := ⟨32 * (0x1073004 + 16 * i), 8, 0, .roS⟩
def SYNC_MBX_STAT_RESV (i : Nat) : Fld := ⟨32 * (0x1073004 + 16 * i) + 8, 8, 0, .roS⟩
def SYNC_MBX_STAT_WAITERS (i : Nat) : Fld := ⟨32 * (0x1073004 + 16 * i) + 16, 6, 0, .roS⟩
def SYNC_MBX_CTL (i : Nat) : Fld := ⟨32 * (0x1073008 + 16 * i), 1, 0, .cmd⟩

/-! FLASK: 13_flasks_and_warden.md. -/

def FLASK_FENCED_LO : Fld := ⟨32 * (0x1080000), 32, 0, .roS⟩
def FLASK_FENCED_HI : Fld := ⟨32 * (0x1080004), 32, 0, .roS⟩
def FLASK_OUT_HELD : Fld := ⟨32 * (0x1080008), 16, 0, .roS⟩
def FLASK_REVIVE : Fld := ⟨32 * (0x1080010), 6, 0, .cmd⟩
def FLASK_FENCE : Fld := ⟨32 * (0x1080014), 6, 0, .cmd⟩
def FLASK_AR_CLR : Fld := ⟨32 * (0x1080018), 6, 0, .cmd⟩
def FLASK_REC_NEXT : Fld := ⟨32 * (0x1080020), 5, 0, .roS⟩
def FLASK_FENCE_CNT : Fld := ⟨32 * (0x1080024), 32, 0, .cnt⟩
def FLASK_REVIVE_CNT : Fld := ⟨32 * (0x1080028), 32, 0, .cnt⟩
def FLASK_AR_CNT : Fld := ⟨32 * (0x108002c), 32, 0, .cnt⟩
def FLASK_REC_OVR_CNT : Fld := ⟨32 * (0x1080030), 32, 0, .cnt⟩
def FLASK_REJ_CNT : Fld := ⟨32 * (0x1080034), 32, 0, .cnt⟩
def FLASK_FSTAT_STATE (i : Nat) : Fld := ⟨32 * (0x1080100 + 4 * i), 2, 0, .roS⟩
def FLASK_FSTAT_CAUSE (i : Nat) : Fld := ⟨32 * (0x1080100 + 4 * i) + 2, 4, 0, .roS⟩
def FLASK_FSTAT_N (i : Nat) : Fld := ⟨32 * (0x1080100 + 4 * i) + 6, 6, 0, .roS⟩
def FLASK_FSTAT_AR_WAIT (i : Nat) : Fld := ⟨32 * (0x1080100 + 4 * i) + 12, 1, 0, .roS⟩
def FLASK_FSTAT_GAVEUP (i : Nat) : Fld := ⟨32 * (0x1080100 + 4 * i) + 13, 1, 0, .roS⟩
def FLASK_FCFG_SUPV_ENG (i : Nat) : Fld := ⟨32 * (0x1080200 + 4 * i), 5, 0, .rwP⟩
def FLASK_FCFG_SUPV_V (i : Nat) : Fld := ⟨32 * (0x1080200 + 4 * i) + 5, 1, 0, .rwP⟩
def FLASK_FCFG_AR_EN (i : Nat) : Fld := ⟨32 * (0x1080200 + 4 * i) + 6, 1, 0, .rwP⟩
def FLASK_FCFG_AR_BASE (i : Nat) : Fld := ⟨32 * (0x1080200 + 4 * i) + 7, 8, 10, .rwP⟩
def FLASK_FCFG_AR_MAXEXP (i : Nat) : Fld := ⟨32 * (0x1080200 + 4 * i) + 15, 3, 3, .rwP⟩
def FLASK_FCFG_AR_LIMIT (i : Nat) : Fld := ⟨32 * (0x1080200 + 4 * i) + 18, 6, 0, .rwP⟩
def FLASK_FCFG_AR_STABLE (i : Nat) : Fld := ⟨32 * (0x1080200 + 4 * i) + 24, 4, 10, .rwP⟩
def FLASK_FCFG_START (i : Nat) : Fld := ⟨32 * (0x1080200 + 4 * i) + 28, 1, 0, .rwP⟩
def FLASK_FAULT_CNT (i : Nat) : Fld := ⟨32 * (0x1080300 + 4 * i), 32, 0, .cnt⟩
def FLASK_REC_FLASK (i : Nat) : Fld := ⟨32 * (0x1080800 + 16 * i), 6, 0, .roS⟩
def FLASK_REC_CAUSE (i : Nat) : Fld := ⟨32 * (0x1080800 + 16 * i) + 6, 4, 0, .roS⟩
def FLASK_REC_N (i : Nat) : Fld := ⟨32 * (0x1080800 + 16 * i) + 10, 6, 0, .roS⟩
def FLASK_REC_DETAIL (i : Nat) : Fld := ⟨32 * (0x1080800 + 16 * i) + 16, 16, 0, .roS⟩
def FLASK_REC_WORD1 (i : Nat) : Fld := ⟨32 * (0x1080804 + 16 * i), 32, 0, .roS⟩
def FLASK_REC_CYC (i : Nat) : Fld := ⟨32 * (0x1080808 + 16 * i), 32, 0, .roS⟩
def FLASK_REC_NS (i : Nat) : Fld := ⟨32 * (0x108080c + 16 * i), 32, 0, .roS⟩
def FLASK_MEMBER_DEP_LO (i : Nat) : Fld := ⟨32 * (0x1081000 + 16 * i), 32, 0, .rwP⟩
def FLASK_MEMBER_DEP_HI (i : Nat) : Fld := ⟨32 * (0x1081004 + 16 * i), 32, 0, .rwP⟩
def FLASK_MEMBER_OUT (i : Nat) : Fld := ⟨32 * (0x1081008 + 16 * i), 16, 0, .rwP⟩

/-! HUB: 14_local_hub.md. -/

def HUB_STAT_EN : Fld := ⟨32 * (0x1090000), 1, 1, .roS⟩
def HUB_STAT_UP_STATE : Fld := ⟨32 * (0x1090000) + 1, 3, 0, .roS⟩
def HUB_STAT_HS : Fld := ⟨32 * (0x1090000) + 4, 1, 0, .roS⟩
def HUB_STAT_ALT : Fld := ⟨32 * (0x1090000) + 5, 1, 0, .roS⟩
def HUB_STAT_RWAKE_EN : Fld := ⟨32 * (0x1090000) + 6, 1, 0, .roS⟩
def HUB_CTL_ENABLE : Fld := ⟨32 * (0x1090004), 1, 0, .cmd⟩
def HUB_CTL_DISABLE : Fld := ⟨32 * (0x1090004) + 1, 1, 0, .cmd⟩
def HUB_CTL_RWAKE : Fld := ⟨32 * (0x1090004) + 2, 1, 0, .cmd⟩
def HUB_SOF_FRAME : Fld := ⟨32 * (0x109000c), 11, 0, .roS⟩
def HUB_SOF_UFRAME : Fld := ⟨32 * (0x109000c) + 11, 3, 0, .roS⟩
def HUB_SOF_LOCK : Fld := ⟨32 * (0x109000c) + 14, 1, 0, .roS⟩
def HUB_SOF_TIME_LO : Fld := ⟨32 * (0x1090010), 32, 0, .roS⟩
def HUB_SOF_TIME_HI : Fld := ⟨32 * (0x1090014), 32, 0, .roS⟩
def HUB_PHY_AMP (i : Nat) : Fld := ⟨32 * (0x1090040 + 4 * i), 4, 8, .rwE⟩
def HUB_PHY_PREEMP (i : Nat) : Fld := ⟨32 * (0x1090040 + 4 * i) + 4, 2, 0, .rwE⟩
def HUB_PHY_SQUELCH (i : Nat) : Fld := ⟨32 * (0x1090040 + 4 * i) + 6, 2, 1, .rwE⟩
def HUB_PORT_STAT_STATUS (i : Nat) : Fld := ⟨32 * (0x1090100 + 4 * i), 16, 0, .roS⟩
def HUB_PORT_STAT_CHANGE (i : Nat) : Fld := ⟨32 * (0x1090100 + 4 * i) + 16, 16, 0, .roS⟩
def HUB_PORT_CFG_LOCK_OFF (i : Nat) : Fld := ⟨32 * (0x1090140 + 4 * i), 1, 0, .rwP⟩
def HUB_PORT_CFG_AUTO_PWR (i : Nat) : Fld := ⟨32 * (0x1090140 + 4 * i) + 1, 1, 0, .rwP⟩
def HUB_PORT_ERR_CNT (i : Nat) : Fld := ⟨32 * (0x1090180 + 4 * i), 32, 0, .cnt⟩
def HUB_TT_DROP_CNT (i : Nat) : Fld := ⟨32 * (0x10901c0 + 4 * i), 32, 0, .cnt⟩
def HUB_OC_CNT (i : Nat) : Fld := ⟨32 * (0x1090200 + 4 * i), 32, 0, .cnt⟩
def HUB_REQ_STALL_CNT : Fld := ⟨32 * (0x1090240), 32, 0, .cnt⟩
def HUB_RESUME_CNT : Fld := ⟨32 * (0x1090244), 32, 0, .cnt⟩
def HUB_MGMT_REQ_CNT : Fld := ⟨32 * (0x1090248), 32, 0, .cnt⟩
def HUB_MGMT_ERR_CNT : Fld := ⟨32 * (0x109024c), 32, 0, .cnt⟩
def HUB_IGN_CNT : Fld := ⟨32 * (0x1090250), 32, 0, .cnt⟩
def HUB_REJ_CNT : Fld := ⟨32 * (0x1090254), 32, 0, .cnt⟩

/-! WIDE: 15_wide_hub_tunnel.md. -/

def WIDE_STAT_EN : Fld := ⟨32 * (0x10a0000), 1, 0, .roS⟩
def WIDE_STAT_PRESENTING : Fld := ⟨32 * (0x10a0000) + 1, 1, 0, .roS⟩
def WIDE_STAT_OVL : Fld := ⟨32 * (0x10a0000) + 2, 1, 0, .roS⟩
def WIDE_STAT_HELD : Fld := ⟨32 * (0x10a0000) + 4, 8, 0, .roS⟩
def WIDE_CTL_ENABLE : Fld := ⟨32 * (0x10a0004), 1, 0, .cmd⟩
def WIDE_CTL_DISABLE : Fld := ⟨32 * (0x10a0004) + 1, 1, 0, .cmd⟩
def WIDE_CFG_NPORTS : Fld := ⟨32 * (0x10a0008), 8, 2, .rwE⟩
def WIDE_CFG_PRESENT : Fld := ⟨32 * (0x10a0008) + 8, 1, 0, .rwE⟩
def WIDE_TUN_TUN_MASK : Fld := ⟨32 * (0x10a000c), 16, 0, .rwP⟩
def WIDE_TUN_TUN_BYTES : Fld := ⟨32 * (0x10a000c) + 16, 13, 4096, .rwP⟩
def WIDE_DEFER_CNT : Fld := ⟨32 * (0x10a0010), 32, 0, .cnt⟩
def WIDE_MISMATCH_CNT : Fld := ⟨32 * (0x10a0014), 32, 0, .cnt⟩
def WIDE_UNLISTED_CNT : Fld := ⟨32 * (0x10a0018), 32, 0, .cnt⟩
def WIDE_POLL_MISS_CNT : Fld := ⟨32 * (0x10a001c), 32, 0, .cnt⟩
def WIDE_POLL_LOST_CNT : Fld := ⟨32 * (0x10a0020), 32, 0, .cnt⟩
def WIDE_ORPHAN_CNT : Fld := ⟨32 * (0x10a0024), 32, 0, .cnt⟩
def WIDE_OVL_CNT : Fld := ⟨32 * (0x10a0028), 32, 0, .cnt⟩
def WIDE_OVL_SUPP_CNT : Fld := ⟨32 * (0x10a002c), 32, 0, .cnt⟩
def WIDE_IGN_CNT : Fld := ⟨32 * (0x10a0030), 32, 0, .cnt⟩
def WIDE_REJ_CNT : Fld := ⟨32 * (0x10a0034), 32, 0, .cnt⟩
def WIDE_MAP_STATION (i : Nat) : Fld := ⟨32 * (0x10a1000 + 8 * i), 10, 0, .rwP⟩
def WIDE_MAP_RING (i : Nat) : Fld := ⟨32 * (0x10a1000 + 8 * i) + 10, 2, 0, .rwP⟩
def WIDE_MAP_LPORT (i : Nat) : Fld := ⟨32 * (0x10a1000 + 8 * i) + 12, 4, 0, .rwP⟩
def WIDE_MAP_EN (i : Nat) : Fld := ⟨32 * (0x10a1000 + 8 * i) + 16, 1, 0, .rwP⟩
def WIDE_MAP_PER_BUDGET (i : Nat) : Fld := ⟨32 * (0x10a1004 + 8 * i), 16, 0, .rwP⟩
def WIDE_MAP_SPAN (i : Nat) : Fld := ⟨32 * (0x10a1004 + 8 * i) + 16, 8, 2, .roK⟩
def WIDE_POLL_PORT (i : Nat) : Fld := ⟨32 * (0x10a2000 + 8 * i), 8, 0, .rwP⟩
def WIDE_POLL_DEV (i : Nat) : Fld := ⟨32 * (0x10a2000 + 8 * i) + 8, 7, 0, .rwP⟩
def WIDE_POLL_EP (i : Nat) : Fld := ⟨32 * (0x10a2000 + 8 * i) + 15, 4, 0, .rwP⟩
def WIDE_POLL_DIR (i : Nat) : Fld := ⟨32 * (0x10a2000 + 8 * i) + 19, 1, 0, .rwP⟩
def WIDE_POLL_TYPE (i : Nat) : Fld := ⟨32 * (0x10a2000 + 8 * i) + 20, 1, 0, .rwP⟩
def WIDE_POLL_SPEED (i : Nat) : Fld := ⟨32 * (0x10a2000 + 8 * i) + 21, 2, 0, .rwP⟩
def WIDE_POLL_EN (i : Nat) : Fld := ⟨32 * (0x10a2000 + 8 * i) + 23, 1, 0, .rwP⟩
def WIDE_POLL_IVL (i : Nat) : Fld := ⟨32 * (0x10a2000 + 8 * i) + 24, 3, 0, .rwP⟩
def WIDE_POLL_MAXP (i : Nat) : Fld := ⟨32 * (0x10a2004 + 8 * i), 10, 0, .rwP⟩
def WIDE_PORT_STAT_STATUS (i : Nat) : Fld := ⟨32 * (0x10a3000 + 4 * i), 16, 0, .roS⟩
def WIDE_PORT_STAT_CHANGE (i : Nat) : Fld := ⟨32 * (0x10a3000 + 4 * i) + 16, 16, 0, .roS⟩

/-! CUFF: 16_cuffs_type_c_pd.md. -/

def CUFF_STAT_TC_STATE (c : Nat) : Fld := ⟨32 * (0x10b0000 + 0x1000 * c), 4, 1, .roC⟩
def CUFF_STAT_ORIENT (c : Nat) : Fld := ⟨32 * (0x10b0000 + 0x1000 * c) + 4, 1, 0, .roC⟩
def CUFF_STAT_PWR (c : Nat) : Fld := ⟨32 * (0x10b0000 + 0x1000 * c) + 5, 1, 0, .roC⟩
def CUFF_STAT_DATA (c : Nat) : Fld := ⟨32 * (0x10b0000 + 0x1000 * c) + 6, 1, 0, .roC⟩
def CUFF_STAT_VCONN (c : Nat) : Fld := ⟨32 * (0x10b0000 + 0x1000 * c) + 7, 1, 0, .roC⟩
def CUFF_STAT_CONTRACT (c : Nat) : Fld := ⟨32 * (0x10b0000 + 0x1000 * c) + 8, 1, 0, .roC⟩
def CUFF_STAT_ALT (c : Nat) : Fld := ⟨32 * (0x10b0000 + 0x1000 * c) + 9, 1, 0, .roC⟩
def CUFF_STAT_CABLE_5A (c : Nat) : Fld := ⟨32 * (0x10b0000 + 0x1000 * c) + 10, 1, 0, .roC⟩
def CUFF_STAT_POLICY (c : Nat) : Fld := ⟨32 * (0x10b0000 + 0x1000 * c) + 11, 3, 0, .roC⟩
def CUFF_STAT_EN (c : Nat) : Fld := ⟨32 * (0x10b0000 + 0x1000 * c) + 14, 1, 1, .roS⟩
def CUFF_STAT_VBUS_OK (c : Nat) : Fld := ⟨32 * (0x10b0000 + 0x1000 * c) + 15, 1, 0, .roC⟩
def CUFF_STAT_SWAP (c : Nat) : Fld := ⟨32 * (0x10b0000 + 0x1000 * c) + 16, 1, 0, .roC⟩
def CUFF_STAT_FRS_ARMED (c : Nat) : Fld := ⟨32 * (0x10b0000 + 0x1000 * c) + 17, 1, 0, .roC⟩
def CUFF_STAT_RX_ON (c : Nat) : Fld := ⟨32 * (0x10b0000 + 0x1000 * c) + 18, 1, 0, .roC⟩
def CUFF_CTL_ENABLE (c : Nat) : Fld := ⟨32 * (0x10b0004 + 0x1000 * c), 1, 0, .cmd⟩
def CUFF_CTL_DISABLE (c : Nat) : Fld := ⟨32 * (0x10b0004 + 0x1000 * c) + 1, 1, 0, .cmd⟩
def CUFF_TC_CFG_MODE (c : Nat) : Fld := ⟨32 * (0x10b0008 + 0x1000 * c), 2, (if c < 4 then 2 else 0), .rwE⟩
def CUFF_TC_CFG_TRY (c : Nat) : Fld := ⟨32 * (0x10b0008 + 0x1000 * c) + 2, 2, (if c < 4 then 1 else 0), .rwE⟩
def CUFF_SAFE (c : Nat) : Fld := ⟨32 * (0x10b000c + 0x1000 * c), 2, 1, .rwE⟩
def CUFF_POL_SRC (c : Nat) : Fld := ⟨32 * (0x10b0010 + 0x1000 * c), 1, 0, .rwP⟩
def CUFF_POL_ENG (c : Nat) : Fld := ⟨32 * (0x10b0010 + 0x1000 * c) + 1, 5, 31, .rwP⟩
def CUFF_POL_WDOG_MS (c : Nat) : Fld := ⟨32 * (0x10b0010 + 0x1000 * c) + 6, 8, 50, .rwP⟩
def CUFF_CONTRACT (c : Nat) : Fld := ⟨32 * (0x10b0014 + 0x1000 * c), 24, 0, .roC⟩
def CUFF_VBUS_CODE (c : Nat) : Fld := ⟨32 * (0x10b0018 + 0x1000 * c), 11, 0, .roC⟩
def CUFF_VBUS_MV (c : Nat) : Fld := ⟨32 * (0x10b0018 + 0x1000 * c) + 16, 16, 0, .roC⟩
def CUFF_HR_TX_CNT (c : Nat) : Fld := ⟨32 * (0x10b0020 + 0x1000 * c), 32, 0, .cnt⟩
def CUFF_HR_RX_CNT (c : Nat) : Fld := ⟨32 * (0x10b0024 + 0x1000 * c), 32, 0, .cnt⟩
def CUFF_RX_ABORT_CNT (c : Nat) : Fld := ⟨32 * (0x10b0028 + 0x1000 * c), 32, 0, .cnt⟩
def CUFF_RX_FULL_CNT (c : Nat) : Fld := ⟨32 * (0x10b002c + 0x1000 * c), 32, 0, .cnt⟩
def CUFF_TX_FAIL_CNT (c : Nat) : Fld := ⟨32 * (0x10b0030 + 0x1000 * c), 32, 0, .cnt⟩
def CUFF_TX_DISCARD_CNT (c : Nat) : Fld := ⟨32 * (0x10b0034 + 0x1000 * c), 32, 0, .cnt⟩
def CUFF_FRS_CNT (c : Nat) : Fld := ⟨32 * (0x10b0038 + 0x1000 * c), 32, 0, .cnt⟩
def CUFF_HANDOVER_CNT (c : Nat) : Fld := ⟨32 * (0x10b003c + 0x1000 * c), 32, 0, .cnt⟩
def CUFF_FAULT_LAST (c : Nat) : Fld := ⟨32 * (0x10b0040 + 0x1000 * c), 4, 0, .roS⟩
def CUFF_IGN_CNT (c : Nat) : Fld := ⟨32 * (0x10b0044 + 0x1000 * c), 32, 0, .cnt⟩
def CUFF_REJ_CNT (c : Nat) : Fld := ⟨32 * (0x10b0048 + 0x1000 * c), 32, 0, .cnt⟩
def CUFF_FRS_CFG : Fld := ⟨32 * (0x10b8000), 8, 85, .rwP⟩
def CUFF_FRS_STAT : Fld := ⟨32 * (0x10b8004), 1, 0, .roC⟩

/-! FUSE: 17_switching_and_fusing.md. -/

def FUSE_STAT_STATE (ch : Nat) : Fld := ⟨32 * (0x10c0000 + 0x40 * ch), 3, 0, .roC⟩
def FUSE_STAT_LAST_TRIP (ch : Nat) : Fld := ⟨32 * (0x10c0000 + 0x40 * ch) + 3, 3, 0, .roC⟩
def FUSE_STAT_ENABLE (ch : Nat) : Fld := ⟨32 * (0x10c0000 + 0x40 * ch) + 6, 1, 0, .roC⟩
def FUSE_STAT_PG (ch : Nat) : Fld := ⟨32 * (0x10c0000 + 0x40 * ch) + 7, 1, 0, .roC⟩
def FUSE_STAT_STUCK (ch : Nat) : Fld := ⟨32 * (0x10c0000 + 0x40 * ch) + 8, 1, 0, .roC⟩
def FUSE_STAT_EN (ch : Nat) : Fld := ⟨32 * (0x10c0000 + 0x40 * ch) + 9, 1, 1, .roS⟩
def FUSE_CTL_ENABLE (ch : Nat) : Fld := ⟨32 * (0x10c0004 + 0x40 * ch), 1, 0, .cmd⟩
def FUSE_CTL_DISABLE (ch : Nat) : Fld := ⟨32 * (0x10c0004 + 0x40 * ch) + 1, 1, 0, .cmd⟩
def FUSE_CTL_REARM (ch : Nat) : Fld := ⟨32 * (0x10c0004 + 0x40 * ch) + 2, 1, 0, .cmd⟩
def FUSE_ELEC_LIMIT (ch : Nat) : Fld := ⟨32 * (0x10c0008 + 0x40 * ch), 10, (fuseLimitReset ch), .rwE⟩
def FUSE_ELEC_TIMER (ch : Nat) : Fld := ⟨32 * (0x10c0008 + 0x40 * ch) + 10, 10, (if ch = 9 then 100 else 10), .rwE⟩
def FUSE_ELEC_RETRY_X (ch : Nat) : Fld := ⟨32 * (0x10c0008 + 0x40 * ch) + 20, 8, 49, .rwE⟩
def FUSE_ELEC_HSEL (ch : Nat) : Fld := ⟨32 * (0x10c0008 + 0x40 * ch) + 28, 1, 0, .rwE⟩
def FUSE_ELEC_SLEW (ch : Nat) : Fld := ⟨32 * (0x10c0008 + 0x40 * ch) + 29, 2, 1, .rwE⟩
def FUSE_POLICY_MODE (ch : Nat) : Fld := ⟨32 * (0x10c000c + 0x40 * ch), 1, 1, .rwP⟩
def FUSE_POLICY_RETRY_MAX (ch : Nat) : Fld := ⟨32 * (0x10c000c + 0x40 * ch) + 1, 8, 0, .rwP⟩
def FUSE_MEAS_MA (ch : Nat) : Fld := ⟨32 * (0x10c0010 + 0x40 * ch), 16, 0, .roC⟩
def FUSE_MEAS_VOUT (ch : Nat) : Fld := ⟨32 * (0x10c0010 + 0x40 * ch) + 16, 16, 0, .roC⟩
def FUSE_VIN (ch : Nat) : Fld := ⟨32 * (0x10c0014 + 0x40 * ch), 16, 0, .roC⟩
def FUSE_EFF_LIMIT (ch : Nat) : Fld := ⟨32 * (0x10c0018 + 0x40 * ch), 10, (fuseLimitReset ch), .roC⟩
def FUSE_TRIP_CNT (ch : Nat) : Fld := ⟨32 * (0x10c001c + 0x40 * ch), 32, 0, .cnt⟩
def FUSE_RETRY_CNT (ch : Nat) : Fld := ⟨32 * (0x10c0020 + 0x40 * ch), 32, 0, .cnt⟩
def FUSE_TRIP_SUPP_CNT (ch : Nat) : Fld := ⟨32 * (0x10c0024 + 0x40 * ch), 32, 0, .cnt⟩
def FUSE_REV_CNT (ch : Nat) : Fld := ⟨32 * (0x10c0028 + 0x40 * ch), 32, 0, .cnt⟩
def FUSE_TRIP_MAP : Fld := ⟨32 * (0x10c0400), 10, 0, .roC⟩
def FUSE_IGN_CNT : Fld := ⟨32 * (0x10c0404), 32, 0, .cnt⟩
def FUSE_REJ_CNT : Fld := ⟨32 * (0x10c0408), 32, 0, .cnt⟩

/-! MEAS: 18_measurement.md. -/

def MEAS_STAT_SA_EN : Fld := ⟨32 * (0x10d0000), 1, 0, .roS⟩
def MEAS_STAT_SB_EN : Fld := ⟨32 * (0x10d0000) + 1, 1, 0, .roS⟩
def MEAS_STAT_BR_EN : Fld := ⟨32 * (0x10d0000) + 2, 1, 0, .roS⟩
def MEAS_STAT_PC_EN : Fld := ⟨32 * (0x10d0000) + 3, 1, 0, .roS⟩
def MEAS_STAT_CAL : Fld := ⟨32 * (0x10d0000) + 4, 2, 0, .roC⟩
def MEAS_CTL : Fld := ⟨32 * (0x10d0004), 8, 0, .cmd⟩
def MEAS_AIN_EN : Fld := ⟨32 * (0x10d0008), 24, 0, .roS⟩
def MEAS_AIN_ON : Fld := ⟨32 * (0x10d000c), 24, 0, .cmd⟩
def MEAS_AIN_OFF : Fld := ⟨32 * (0x10d0010), 24, 0, .cmd⟩
def MEAS_AIN_CFG (i : Nat) : Fld := ⟨32 * (0x10d0040 + 4 * i), 2, 0, .rwE⟩
def MEAS_AIN_VAL (i : Nat) : Fld := ⟨32 * (0x10d0100 + 4 * i), 32, 0, .roC⟩
def MEAS_MON_VAL (i : Nat) : Fld := ⟨32 * (0x10d0180 + 4 * i), 32, 0, .roC⟩
def MEAS_SEQ (i : Nat) : Fld := ⟨32 * (0x10d0200 + 64 * i), 20, 0, .rwP⟩
def MEAS_SEQ_REP_INTERVAL (i : Nat) : Fld := ⟨32 * (0x10d0204 + 64 * i), 20, 0, .rwP⟩
def MEAS_SEQ_REP_COUNT (i : Nat) : Fld := ⟨32 * (0x10d0204 + 64 * i) + 20, 5, 0, .rwP⟩
def MEAS_SEQ_REP_LEN (i : Nat) : Fld := ⟨32 * (0x10d0204 + 64 * i) + 25, 7, 1, .rwP⟩
def MEAS_BURST_CNT (i : Nat) : Fld := ⟨32 * (0x10d0210 + 64 * i), 32, 0, .cnt⟩
def MEAS_BR_CFG_GAIN (i : Nat) : Fld := ⟨32 * (0x10d0300 + 16 * i), 2, 0, .rwE⟩
def MEAS_BR_CFG_EXC (i : Nat) : Fld := ⟨32 * (0x10d0300 + 16 * i) + 2, 1, 0, .rwE⟩
def MEAS_BR_CFG_RATE (i : Nat) : Fld := ⟨32 * (0x10d0300 + 16 * i) + 3, 3, 2, .rwE⟩
def MEAS_BR_DEST (i : Nat) : Fld := ⟨32 * (0x10d0304 + 16 * i), 32, 0, .rwP⟩
def MEAS_BR_VAL (i : Nat) : Fld := ⟨32 * (0x10d0308 + 16 * i), 32, 0, .roC⟩
def MEAS_PC_CFG_MODE (i : Nat) : Fld := ⟨32 * (0x10d0400 + 32 * i), 2, 0, .rwE⟩
def MEAS_PC_CFG_EDGE (i : Nat) : Fld := ⟨32 * (0x10d0400 + 32 * i) + 2, 2, 0, .rwE⟩
def MEAS_PC_CFG_FILT (i : Nat) : Fld := ⟨32 * (0x10d0400 + 32 * i) + 4, 10, 10, .rwE⟩
def MEAS_PC_DEST (i : Nat) : Fld := ⟨32 * (0x10d0404 + 32 * i), 32, 0, .rwP⟩
def MEAS_PC_CNT (i : Nat) : Fld := ⟨32 * (0x10d0408 + 32 * i), 32, 0, .roC⟩
def MEAS_PC_PER (i : Nat) : Fld := ⟨32 * (0x10d040c + 32 * i), 32, 0, .roC⟩
def MEAS_PC_TLAST (i : Nat) : Fld := ⟨32 * (0x10d0410 + 32 * i), 32, 0, .roC⟩
def MEAS_STAMP_LOST_CNT (i : Nat) : Fld := ⟨32 * (0x10d0414 + 32 * i), 32, 0, .cnt⟩
def MEAS_SKIP_CNT (i : Nat) : Fld := ⟨32 * (0x10d0600 + 16 * i), 32, 0, .cnt⟩
def MEAS_DROP_CNT (i : Nat) : Fld := ⟨32 * (0x10d0604 + 16 * i), 32, 0, .cnt⟩
def MEAS_LOST_CNT (i : Nat) : Fld := ⟨32 * (0x10d0608 + 16 * i), 32, 0, .cnt⟩
def MEAS_SHUNT_CNT : Fld := ⟨32 * (0x10d0640), 32, 0, .cnt⟩
def MEAS_IGN_CNT : Fld := ⟨32 * (0x10d0644), 32, 0, .cnt⟩
def MEAS_REJ_CNT : Fld := ⟨32 * (0x10d0648), 32, 0, .cnt⟩
def MEAS_ENTRY_SOURCE (k i : Nat) : Fld := ⟨32 * (0x10d1000 + 512 * k + 8 * i), 6, 0, .rwP⟩
def MEAS_ENTRY_OSR (k i : Nat) : Fld := ⟨32 * (0x10d1000 + 512 * k + 8 * i) + 6, 3, 0, .rwP⟩
def MEAS_ENTRY_DEST (k i : Nat) : Fld := ⟨32 * (0x10d1004 + 512 * k + 8 * i), 24, 0, .rwP⟩

/-! DRV: 19_control_outputs.md. -/

def DRV_STAT_STATE (o : Nat) : Fld := ⟨32 * (0x10e0000 + drvOff o), 3, 1, .roC⟩
def DRV_STAT_OPEN (o : Nat) : Fld := ⟨32 * (0x10e0000 + drvOff o) + 3, 1, 0, .roC⟩
def DRV_STAT_SCALED (o : Nat) : Fld := ⟨32 * (0x10e0000 + drvOff o) + 4, 1, 0, .roC⟩
def DRV_STAT_LAST_FAULT (o : Nat) : Fld := ⟨32 * (0x10e0000 + drvOff o) + 5, 3, 0, .roC⟩
def DRV_STAT_EN (o : Nat) : Fld := ⟨32 * (0x10e0000 + drvOff o) + 8, 1, 1, .roS⟩
def DRV_CTL_ENABLE (o : Nat) : Fld := ⟨32 * (0x10e0004 + drvOff o), 1, 0, .cmd⟩
def DRV_CTL_DISABLE (o : Nat) : Fld := ⟨32 * (0x10e0004 + drvOff o) + 1, 1, 0, .cmd⟩
def DRV_CTL_FAULT_CLR (o : Nat) : Fld := ⟨32 * (0x10e0004 + drvOff o) + 2, 1, 0, .cmd⟩
def DRV_ELEC_PWM (o : Nat) : Fld := ⟨32 * (0x10e0008 + drvOff o), 11, (if o < 8 then 20 else 200), .rwE⟩
def DRV_ELEC_MAX_MA (o : Nat) : Fld := ⟨32 * (0x10e0008 + drvOff o) + 11, 12, 3000, .rwE⟩
def DRV_ELEC_FENCE (o : Nat) : Fld := ⟨32 * (0x10e0008 + drvOff o) + 23, 1, 1, .rwE⟩
def DRV_ELEC_DEAD (o : Nat) : Fld := ⟨32 * (0x10e0008 + drvOff o) + 24, 8, 20, .rwE⟩
def DRV_HB_LIM_LIMIT (o : Nat) : Fld := ⟨32 * (0x10e000c + drvOff o), 10, 500, .rwE⟩
def DRV_HB_LIM_OC_TRIP (o : Nat) : Fld := ⟨32 * (0x10e000c + drvOff o) + 10, 10, 750, .rwE⟩
def DRV_HB_LIM_PAIR (o : Nat) : Fld := ⟨32 * (0x10e000c + drvOff o) + 20, 1, 0, .rwE⟩
def DRV_CFG_SRC (o : Nat) : Fld := ⟨32 * (0x10e0010 + drvOff o), 2, 0, .rwP⟩
def DRV_CFG_MODE (o : Nat) : Fld := ⟨32 * (0x10e0010 + drvOff o) + 2, 1, 0, .rwP⟩
def DRV_CFG_APPLY (o : Nat) : Fld := ⟨32 * (0x10e0010 + drvOff o) + 3, 1, 0, .rwP⟩
def DRV_CFG_STALE_USE (o : Nat) : Fld := ⟨32 * (0x10e0010 + drvOff o) + 4, 1, 1, .rwP⟩
def DRV_CFG_HOLD_LIMIT (o : Nat) : Fld := ⟨32 * (0x10e0010 + drvOff o) + 5, 8, 4, .rwP⟩
def DRV_CFG_SAFE (o : Nat) : Fld := ⟨32 * (0x10e0010 + drvOff o) + 13, 2, 0, .rwP⟩
def DRV_CFG_IMG (o : Nat) : Fld := ⟨32 * (0x10e0010 + drvOff o) + 15, 14, 0, .rwP⟩
def DRV_DITHER_HZ (o : Nat) : Fld := ⟨32 * (0x10e0014 + drvOff o), 9, 100, .rwP⟩
def DRV_DITHER_AMP (o : Nat) : Fld := ⟨32 * (0x10e0014 + drvOff o) + 9, 8, 0, .rwP⟩
def DRV_SAFE_MA (o : Nat) : Fld := ⟨32 * (0x10e0018 + drvOff o), 12, 0, .rwP⟩
def DRV_TARGET (o : Nat) : Fld := ⟨32 * (0x10e001c + drvOff o), 16, 0, .roC⟩
def DRV_MEAS (o : Nat) : Fld := ⟨32 * (0x10e0020 + drvOff o), 16, 0, .roC⟩
def DRV_MISS (o : Nat) : Fld := ⟨32 * (0x10e0024 + drvOff o), 8, 0, .roC⟩
def DRV_MISS_CNT (o : Nat) : Fld := ⟨32 * (0x10e0028 + drvOff o), 32, 0, .cnt⟩
def DRV_LATE_CNT (o : Nat) : Fld := ⟨32 * (0x10e002c + drvOff o), 32, 0, .cnt⟩
def DRV_CLAMP_CNT (o : Nat) : Fld := ⟨32 * (0x10e0030 + drvOff o), 32, 0, .cnt⟩
def DRV_TRIP_CNT (o : Nat) : Fld := ⟨32 * (0x10e0034 + drvOff o), 32, 0, .cnt⟩
def DRV_LIMIT_CNT (o : Nat) : Fld := ⟨32 * (0x10e0038 + drvOff o), 32, 0, .cnt⟩
def DRV_TOTAL : Fld := ⟨32 * (0x10e0400), 13, 8000, .rwP⟩
def DRV_SCALE_CNT : Fld := ⟨32 * (0x10e0404), 32, 0, .cnt⟩
def DRV_IGN_CNT : Fld := ⟨32 * (0x10e0408), 32, 0, .cnt⟩
def DRV_REJ_CNT : Fld := ⟨32 * (0x10e040c), 32, 0, .cnt⟩

/-! PIN: 20_pins_and_muxing.md. -/

def PIN_STAT : Fld := ⟨32 * (0x10f0000), 1, 0, .roS⟩
def PIN_CTL : Fld := ⟨32 * (0x10f0004), 1, 0, .cmd⟩
def PIN_OUT (i : Nat) : Fld := ⟨32 * (0x10f0010 + 32 * i), 16, 0, .roS⟩
def PIN_OUT_SET (i : Nat) : Fld := ⟨32 * (0x10f0014 + 32 * i), 16, 0, .cmd⟩
def PIN_OUT_CLR (i : Nat) : Fld := ⟨32 * (0x10f0018 + 32 * i), 16, 0, .cmd⟩
def PIN_OUT_TOG (i : Nat) : Fld := ⟨32 * (0x10f001c + 32 * i), 16, 0, .cmd⟩
def PIN_OUT_WR_VALUE (i : Nat) : Fld := ⟨32 * (0x10f0020 + 32 * i), 16, 0, .cmd⟩
def PIN_OUT_WR_MASK (i : Nat) : Fld := ⟨32 * (0x10f0020 + 32 * i) + 16, 16, 0, .cmd⟩
def PIN_IN_SYNC (i : Nat) : Fld := ⟨32 * (0x10f0024 + 32 * i), 16, 0, .roS⟩
def PIN_IN_PAD (i : Nat) : Fld := ⟨32 * (0x10f0028 + 32 * i), 16, 0, .roS⟩
def PIN_PCFG_MUX (n m : Nat) : Fld := ⟨32 * (0x10f0100 + 64 * n + 4 * m), 4, 0, .rwP⟩
def PIN_PCFG_DIR (n m : Nat) : Fld := ⟨32 * (0x10f0100 + 64 * n + 4 * m) + 4, 1, 0, .rwP⟩
def PIN_PCFG_PULL (n m : Nat) : Fld := ⟨32 * (0x10f0100 + 64 * n + 4 * m) + 5, 2, 0, .rwP⟩
def PIN_PCFG_DRIVE (n m : Nat) : Fld := ⟨32 * (0x10f0100 + 64 * n + 4 * m) + 7, 1, 0, .rwP⟩
def PIN_PCFG_SLEW (n m : Nat) : Fld := ⟨32 * (0x10f0100 + 64 * n + 4 * m) + 8, 1, 0, .rwP⟩
def PIN_PCFG_OD (n m : Nat) : Fld := ⟨32 * (0x10f0100 + 64 * n + 4 * m) + 9, 1, 0, .rwP⟩
def PIN_PCFG_SCHMITT (n m : Nat) : Fld := ⟨32 * (0x10f0100 + 64 * n + 4 * m) + 10, 1, 1, .rwP⟩
def PIN_PCFG_ANALOG (n m : Nat) : Fld := ⟨32 * (0x10f0100 + 64 * n + 4 * m) + 11, 1, 0, .rwP⟩
def PIN_PCFG_FILT (n m : Nat) : Fld := ⟨32 * (0x10f0100 + 64 * n + 4 * m) + 12, 4, 0, .rwP⟩
def PIN_PCFG_EDGE (n m : Nat) : Fld := ⟨32 * (0x10f0100 + 64 * n + 4 * m) + 16, 2, 0, .rwP⟩
def PIN_HVI_CFG_THRESH (i : Nat) : Fld := ⟨32 * (0x10f0200 + 4 * i), 2, 1, .rwP⟩
def PIN_HVI_CFG_PULL (i : Nat) : Fld := ⟨32 * (0x10f0200 + 4 * i) + 2, 2, 0, .rwP⟩
def PIN_HVI_CFG_DEB (i : Nat) : Fld := ⟨32 * (0x10f0200 + 4 * i) + 4, 8, 0, .rwP⟩
def PIN_HVI_CFG_WAKE_EN (i : Nat) : Fld := ⟨32 * (0x10f0200 + 4 * i) + 12, 1, 0, .rwP⟩
def PIN_HVI_CFG_WAKE_EDGE (i : Nat) : Fld := ⟨32 * (0x10f0200 + 4 * i) + 13, 2, 0, .rwP⟩
def PIN_HVI_IN : Fld := ⟨32 * (0x10f0240), 16, 0, .roC⟩
def PIN_HVI_RAW : Fld := ⟨32 * (0x10f0244), 16, 0, .roC⟩
def PIN_PC_SRC (i : Nat) : Fld := ⟨32 * (0x10f0250 + 4 * i), 1, 0, .rwP⟩
def PIN_EVCAP_T (i : Nat) : Fld := ⟨32 * (0x10f0280 + 4 * i), 32, 0, .roS⟩
def PIN_EVCAP_CNT (i : Nat) : Fld := ⟨32 * (0x10f02a0 + 4 * i), 32, 0, .cnt⟩
def PIN_REJ_CNT : Fld := ⟨32 * (0x10f02c0), 32, 0, .cnt⟩

/-! CAN: 21_isobus_bridge.md. -/

def CAN_STAT_EN (c : Nat) : Fld := ⟨32 * (0x1100000 + 0x4000 * c), 1, 0, .roS⟩
def CAN_STAT_STATE (c : Nat) : Fld := ⟨32 * (0x1100000 + 0x4000 * c) + 1, 2, 3, .roS⟩
def CAN_STAT_TEC (c : Nat) : Fld := ⟨32 * (0x1100000 + 0x4000 * c) + 8, 8, 0, .roS⟩
def CAN_STAT_REC (c : Nat) : Fld := ⟨32 * (0x1100000 + 0x4000 * c) + 16, 8, 0, .roS⟩
def CAN_CTL_ENABLE (c : Nat) : Fld := ⟨32 * (0x1100004 + 0x4000 * c), 1, 0, .cmd⟩
def CAN_CTL_DISABLE (c : Nat) : Fld := ⟨32 * (0x1100004 + 0x4000 * c) + 1, 1, 0, .cmd⟩
def CAN_CTL_RECOVER (c : Nat) : Fld := ⟨32 * (0x1100004 + 0x4000 * c) + 2, 1, 0, .cmd⟩
def CAN_CFG_BRP (c : Nat) : Fld := ⟨32 * (0x1100008 + 0x4000 * c), 8, 20, .rwE⟩
def CAN_CFG_TSEG1 (c : Nat) : Fld := ⟨32 * (0x1100008 + 0x4000 * c) + 8, 6, 12, .rwE⟩
def CAN_CFG_TSEG2 (c : Nat) : Fld := ⟨32 * (0x1100008 + 0x4000 * c) + 14, 5, 3, .rwE⟩
def CAN_CFG_SJW (c : Nat) : Fld := ⟨32 * (0x1100008 + 0x4000 * c) + 19, 4, 3, .rwE⟩
def CAN_CFG_MODE (c : Nat) : Fld := ⟨32 * (0x1100008 + 0x4000 * c) + 23, 2, 0, .rwE⟩
def CAN_CFG_AUTO_BO (c : Nat) : Fld := ⟨32 * (0x1100008 + 0x4000 * c) + 25, 1, 1, .rwE⟩
def CAN_RX_CNT (c : Nat) : Fld := ⟨32 * (0x1100010 + 0x4000 * c), 32, 0, .cnt⟩
def CAN_TX_CNT (c : Nat) : Fld := ⟨32 * (0x1100014 + 0x4000 * c), 32, 0, .cnt⟩
def CAN_NOMATCH_CNT (c : Nat) : Fld := ⟨32 * (0x1100018 + 0x4000 * c), 32, 0, .cnt⟩
def CAN_DROP_CNT (c : Nat) : Fld := ⟨32 * (0x110001c + 0x4000 * c), 32, 0, .cnt⟩
def CAN_ERRFRAME_CNT (c : Nat) : Fld := ⟨32 * (0x1100020 + 0x4000 * c), 32, 0, .cnt⟩
def CAN_BUSOFF_CNT (c : Nat) : Fld := ⟨32 * (0x1100024 + 0x4000 * c), 32, 0, .cnt⟩
def CAN_TP_DONE_CNT (c : Nat) : Fld := ⟨32 * (0x1100028 + 0x4000 * c), 32, 0, .cnt⟩
def CAN_TP_FAIL_CNT (c : Nat) : Fld := ⟨32 * (0x110002c + 0x4000 * c), 32, 0, .cnt⟩
def CAN_SESS_FULL_CNT (c : Nat) : Fld := ⟨32 * (0x1100030 + 0x4000 * c), 32, 0, .cnt⟩
def CAN_IGN_CNT (c : Nat) : Fld := ⟨32 * (0x1100034 + 0x4000 * c), 32, 0, .cnt⟩
def CAN_REJ_CNT (c : Nat) : Fld := ⟨32 * (0x1100038 + 0x4000 * c), 32, 0, .cnt⟩
def CAN_TXSTAT (c i : Nat) : Fld := ⟨32 * (0x1100040 + 0x4000 * c + 4 * i), 2, 0, .roS⟩
def CAN_FILTER_ID (c i : Nat) : Fld := ⟨32 * (0x1101000 + 0x4000 * c + 16 * i), 31, 0, .rwP⟩
def CAN_FILTER_MASK (c i : Nat) : Fld := ⟨32 * (0x1101004 + 0x4000 * c + 16 * i), 31, 0, .rwP⟩
def CAN_FILTER_EN (c i : Nat) : Fld := ⟨32 * (0x1101008 + 0x4000 * c + 16 * i), 1, 0, .rwP⟩
def CAN_FILTER_RUN_EN (c i : Nat) : Fld := ⟨32 * (0x1101008 + 0x4000 * c + 16 * i) + 1, 1, 0, .rwP⟩
def CAN_FILTER_RUN (c i : Nat) : Fld := ⟨32 * (0x1101008 + 0x4000 * c + 16 * i) + 2, 7, 0, .rwP⟩
def CAN_FILTER_SRAM_EN (c i : Nat) : Fld := ⟨32 * (0x1101008 + 0x4000 * c + 16 * i) + 9, 1, 0, .rwP⟩
def CAN_FILTER_ASSIST (c i : Nat) : Fld := ⟨32 * (0x1101008 + 0x4000 * c + 16 * i) + 10, 1, 0, .rwP⟩
def CAN_FILTER_ADDR (c i : Nat) : Fld := ⟨32 * (0x110100c + 0x4000 * c + 16 * i), 20, 0, .rwP⟩
def CAN_SESS_AREA (c i : Nat) : Fld := ⟨32 * (0x1102000 + 0x4000 * c + 16 * i), 20, 0, .rwP⟩
def CAN_SESS_AUTO_BAM (c i : Nat) : Fld := ⟨32 * (0x1102004 + 0x4000 * c + 16 * i), 1, 0, .rwP⟩
def CAN_SESS_DRUN (c i : Nat) : Fld := ⟨32 * (0x1102004 + 0x4000 * c + 16 * i) + 1, 7, 0, .rwP⟩
def CAN_SESS_STATE (c i : Nat) : Fld := ⟨32 * (0x1102008 + 0x4000 * c + 16 * i), 3, 0, .roS⟩
def CAN_SESS_SA (c i : Nat) : Fld := ⟨32 * (0x1102008 + 0x4000 * c + 16 * i) + 3, 8, 0, .roS⟩
def CAN_SESS_DA (c i : Nat) : Fld := ⟨32 * (0x1102008 + 0x4000 * c + 16 * i) + 11, 8, 0, .roS⟩
def CAN_SESS_NEXT (c i : Nat) : Fld := ⟨32 * (0x1102008 + 0x4000 * c + 16 * i) + 19, 8, 0, .roS⟩
def CAN_SESS_PGN (c i : Nat) : Fld := ⟨32 * (0x110200c + 0x4000 * c + 16 * i), 18, 0, .roS⟩

/-! BKG: 22_background_work.md. -/

def BKG_STAT_JRNL_READY : Fld := ⟨32 * (0x1110000), 1, 0, .roS⟩
def BKG_STAT_JRNL_BUSY : Fld := ⟨32 * (0x1110000) + 1, 1, 0, .roS⟩
def BKG_STAT_LOG_RD_BUSY : Fld := ⟨32 * (0x1110000) + 2, 1, 0, .roS⟩
def BKG_STAT_NOR_FG : Fld := ⟨32 * (0x1110000) + 3, 1, 0, .roS⟩
def BKG_STAT_MARGIN_RUN : Fld := ⟨32 * (0x1110000) + 4, 1, 0, .roS⟩
def BKG_STAT_CAL_RUN : Fld := ⟨32 * (0x1110000) + 5, 1, 0, .roS⟩
def BKG_CFG_SCRUB_EN : Fld := ⟨32 * (0x1110004), 1, 1, .rwP⟩
def BKG_CFG_CAL_EN : Fld := ⟨32 * (0x1110004) + 1, 1, 1, .rwP⟩
def BKG_CFG_LOG_EN : Fld := ⟨32 * (0x1110004) + 2, 1, 1, .rwP⟩
def BKG_CFG_TELEM_EN : Fld := ⟨32 * (0x1110004) + 3, 1, 1, .rwP⟩
def BKG_CFG_MARGIN_EN : Fld := ⟨32 * (0x1110004) + 4, 1, 1, .rwP⟩
def BKG_CFG_LOG_RATE : Fld := ⟨32 * (0x1110004) + 8, 8, 20, .rwP⟩
def BKG_CFG_MARGIN_EVERY : Fld := ⟨32 * (0x1110004) + 16, 8, 60, .rwP⟩
def BKG_CFG_MARGIN_MIN : Fld := ⟨32 * (0x1110004) + 24, 6, 8, .rwP⟩
def BKG_HEALTH : Fld := ⟨32 * (0x1110008), 32, 0, .roS⟩
def BKG_SCRUB_PASS_CNT : Fld := ⟨32 * (0x111000c), 32, 0, .cnt⟩
def BKG_SCRUB_CE_CNT : Fld := ⟨32 * (0x1110010), 32, 0, .cnt⟩
def BKG_SCRUB_UE_CNT : Fld := ⟨32 * (0x1110014), 32, 0, .cnt⟩
def BKG_SCRUB_UE_ADDR : Fld := ⟨32 * (0x1110018), 32, 0, .roS⟩
def BKG_CAL_CNT : Fld := ⟨32 * (0x111001c), 32, 0, .cnt⟩
def BKG_CAL_SKIP_CNT : Fld := ⟨32 * (0x1110020), 32, 0, .cnt⟩
def BKG_JRNL_STAT_WEAR : Fld := ⟨32 * (0x1110024), 17, 0, .roS⟩
def BKG_JRNL_STAT_ACTIVE : Fld := ⟨32 * (0x1110024) + 17, 6, 0, .roS⟩
def BKG_JRNL_STAT_LIVE : Fld := ⟨32 * (0x1110024) + 23, 7, 0, .roS⟩
def BKG_JRNL_KEY_KEY : Fld := ⟨32 * (0x1110028), 6, 0, .cmd⟩
def BKG_JRNL_KEY_DELETE : Fld := ⟨32 * (0x1110028) + 8, 1, 0, .cmd⟩
def BKG_JRNL_DATA (i : Nat) : Fld := ⟨32 * (0x111002c + 4 * i), 32, 0, .cmd⟩
def BKG_JRNL_PUT : Fld := ⟨32 * (0x111003c), 1, 0, .cmd⟩
def BKG_JRNL_VALID_LO : Fld := ⟨32 * (0x1110040), 32, 0, .roS⟩
def BKG_JRNL_VALID_HI : Fld := ⟨32 * (0x1110044), 32, 0, .roS⟩
def BKG_JRNL_REC_CNT : Fld := ⟨32 * (0x1110048), 32, 0, .cnt⟩
def BKG_JRNL_ERR_CNT : Fld := ⟨32 * (0x111004c), 32, 0, .cnt⟩
def BKG_LOG_IDX : Fld := ⟨32 * (0x1110050), 32, 0, .cmd⟩
def BKG_LOG_REC (i : Nat) : Fld := ⟨32 * (0x1110054 + 4 * i), 32, 0, .roS⟩
def BKG_LOG_CNT : Fld := ⟨32 * (0x1110064), 32, 0, .cnt⟩
def BKG_LOG_DROP_CNT : Fld := ⟨32 * (0x1110068), 32, 0, .cnt⟩
def BKG_TELEM_SET_CNT : Fld := ⟨32 * (0x111006c), 32, 0, .cnt⟩
def BKG_TELEM_DROP_CNT : Fld := ⟨32 * (0x1110070), 32, 0, .cnt⟩
def BKG_MARGIN_CNT : Fld := ⟨32 * (0x1110074), 32, 0, .cnt⟩
def BKG_MARGIN_LAST_WIDTH (i : Nat) : Fld := ⟨32 * (0x1110080 + 4 * i), 6, 0, .roS⟩
def BKG_MARGIN_LAST_HEIGHT (i : Nat) : Fld := ⟨32 * (0x1110080 + 4 * i) + 6, 8, 0, .roS⟩
def BKG_MARGIN_LAST_VALID (i : Nat) : Fld := ⟨32 * (0x1110080 + 4 * i) + 14, 1, 0, .roS⟩
def BKG_MARGIN_LAST_MIN_W (i : Nat) : Fld := ⟨32 * (0x1110080 + 4 * i) + 15, 6, 0, .roS⟩
def BKG_REJ_CNT : Fld := ⟨32 * (0x1110090), 32, 0, .cnt⟩
def BKG_JRNL_VAL (k j : Nat) : Fld := ⟨32 * (0x1110400 + 16 * k + 4 * j), 32, 0, .roS⟩

/-! TEST: 23_stitch_test_and_bist.md. -/

def TEST_STAT_BUSY : Fld := ⟨32 * (0x1120000), 1, 0, .roS⟩
def TEST_STAT_RESULT : Fld := ⟨32 * (0x1120000) + 1, 3, 0, .roS⟩
def TEST_STAT_ABORT_CAUSE : Fld := ⟨32 * (0x1120000) + 4, 3, 0, .roS⟩
def TEST_STAT_VCORE_OK : Fld := ⟨32 * (0x1120000) + 7, 1, 0, .roC⟩
def TEST_STAT_JTAG_ACTIVE : Fld := ⟨32 * (0x1120000) + 8, 1, 0, .roS⟩
def TEST_STAT_JTAG_REFUSED : Fld := ⟨32 * (0x1120000) + 9, 1, 0, .roS⟩
def TEST_GO_KIND : Fld := ⟨32 * (0x1120004), 2, 0, .cmd⟩
def TEST_GO_SCOPE : Fld := ⟨32 * (0x1120004) + 2, 5, 0, .cmd⟩
def TEST_GO_FORCE : Fld := ⟨32 * (0x1120004) + 7, 1, 0, .cmd⟩
def TEST_NB_CYCLE : Fld := ⟨32 * (0x1120008), 32, 0, .cmd⟩
def TEST_ABORT : Fld := ⟨32 * (0x112000c), 1, 0, .cmd⟩
def TEST_REFUSE : Fld := ⟨32 * (0x1120010), 3, 0, .roS⟩
def TEST_PIN_RES_STUCK : Fld := ⟨32 * (0x1120020), 16, 0, .roS⟩
def TEST_PIN_RES_SHORT : Fld := ⟨32 * (0x1120020) + 16, 16, 0, .roS⟩
def TEST_NB_ERR : Fld := ⟨32 * (0x1120024), 32, 0, .roS⟩
def TEST_NB_STAT_LOCK : Fld := ⟨32 * (0x1120028), 1, 0, .roS⟩
def TEST_NB_STAT_INV : Fld := ⟨32 * (0x1120028) + 1, 1, 0, .roS⟩
def TEST_NB_STAT_TRUNK_VALID : Fld := ⟨32 * (0x1120028) + 2, 1, 0, .roS⟩
def TEST_NB_STAT_END : Fld := ⟨32 * (0x1120028) + 3, 1, 0, .roS⟩
def TEST_NB_TRUNK_V : Fld := ⟨32 * (0x112002c), 16, 0, .roS⟩
def TEST_NB_TRUNK_MA : Fld := ⟨32 * (0x112002c) + 16, 16, 0, .roS⟩
def TEST_LBIST_SIG : Fld := ⟨32 * (0x1120030), 32, 0, .roS⟩
def TEST_CFG_JTAG_PIN : Fld := ⟨32 * (0x1120034), 1, 0, .rwP⟩
def TEST_CFG_OBS : Fld := ⟨32 * (0x1120034) + 1, 2, 0, .rwP⟩
def TEST_RUN_CNT : Fld := ⟨32 * (0x1120040), 32, 0, .cnt⟩
def TEST_FAIL_CNT : Fld := ⟨32 * (0x1120044), 32, 0, .cnt⟩
def TEST_ABORT_CNT : Fld := ⟨32 * (0x1120048), 32, 0, .cnt⟩
def TEST_REJ_CNT : Fld := ⟨32 * (0x112004c), 32, 0, .cnt⟩
def TEST_BSR_LEN : Fld := ⟨32 * (0x1120050), 16, 412, .roK⟩
def TEST_IDCODE : Fld := ⟨32 * (0x1120054), 32, 275023543, .roK⟩

/-! EVT: 24_events.md. -/

def EVT_STAT_INQ : Fld := ⟨32 * (0x1130000), 6, 0, .roS⟩
def EVT_STAT_MQ : Fld := ⟨32 * (0x1130000) + 6, 7, 0, .roS⟩
def EVT_STAT_CQ : Fld := ⟨32 * (0x1130000) + 13, 6, 0, .roS⟩
def EVT_SIGNAL : Fld := ⟨32 * (0x1130004), 7, 0, .cmd⟩
def EVT_QDROP_CNT : Fld := ⟨32 * (0x1130010), 32, 0, .cnt⟩
def EVT_RDROP_CNT : Fld := ⟨32 * (0x1130014), 32, 0, .cnt⟩
def EVT_MDROP_CNT : Fld := ⟨32 * (0x1130018), 32, 0, .cnt⟩
def EVT_CDROP_CNT : Fld := ⟨32 * (0x113001c), 32, 0, .cnt⟩
def EVT_LIM_CNT : Fld := ⟨32 * (0x1130020), 32, 0, .cnt⟩
def EVT_REJ_CNT : Fld := ⟨32 * (0x1130024), 32, 0, .cnt⟩
def EVT_FIRE_CNT (i : Nat) : Fld := ⟨32 * (0x1130400 + 4 * i), 32, 0, .cnt⟩
def EVT_ROUTE_ENG (i : Nat) : Fld := ⟨32 * (0x1131000 + 16 * i), 32, 0, .rwP⟩
def EVT_ROUTE_RUN_EN (i : Nat) : Fld := ⟨32 * (0x1131004 + 16 * i), 1, 0, .rwP⟩
def EVT_ROUTE_RUN (i : Nat) : Fld := ⟨32 * (0x1131004 + 16 * i) + 1, 7, 0, .rwP⟩
def EVT_ROUTE_MGMT (i : Nat) : Fld := ⟨32 * (0x1131004 + 16 * i) + 8, 1, 1, .rwP⟩
def EVT_ROUTE_CHAIN (i : Nat) : Fld := ⟨32 * (0x1131004 + 16 * i) + 9, 1, 0, .rwP⟩
def EVT_ROUTE_LOG (i : Nat) : Fld := ⟨32 * (0x1131004 + 16 * i) + 10, 1, 1, .rwP⟩
def EVT_ROUTE_LIMIT (i : Nat) : Fld := ⟨32 * (0x1131004 + 16 * i) + 11, 3, 0, .rwP⟩

end Reg

end Sys2Proof.Machine
end

