-- ==== Sys2Proof/Machine/SMap.lean ====
section
/-! DEFINITION. Sparse maps from numbers: lists of pairs in one canonical form (keys strictly rising), so that equal
maps are equal data. Register planes, memories and the arrays of units of State are such maps. -/

namespace Sys2Proof.Machine

/-- A sparse map: pairs of key and value, keys strictly rising. -/
abbrev SMap (V : Type) := List (Nat × V)

/-- The value listed under a key. -/
def SMap.find {V : Type} : SMap V → Nat → Option V
  | [], _ => none
  | (k', v) :: t, k => if k' = k then some v else SMap.find t k

/-- The value under a key, `d` where none is listed. -/
def SMap.get {V : Type} (m : SMap V) (d : V) (k : Nat) : V := (SMap.find m k).getD d

/-- List `v` under `k`, in its place. -/
def SMap.ins {V : Type} (k : Nat) (v : V) : SMap V → SMap V
  | [] => [(k, v)]
  | (k', v') :: t =>
    if k < k' then (k, v) :: (k', v') :: t
    else if k = k' then (k, v) :: t
    else (k', v') :: SMap.ins k v t

/-- List nothing under `k`. -/
def SMap.del {V : Type} (k : Nat) : SMap V → SMap V
  | [] => []
  | (k', v') :: t => if k' = k then SMap.del k t else (k', v') :: SMap.del k t

/-- Store `v` under `k` where an unlisted key reads `d`: storing `d` removes the entry. -/
def SMap.put {V : Type} [DecidableEq V] (m : SMap V) (d : V) (k : Nat) (v : V) : SMap V :=
  if v = d then SMap.del k m else SMap.ins k v m

/-- The keys rise strictly, and the first lies at or above `lo`. -/
def SMap.risingFrom {V : Type} : Nat → SMap V → Bool
  | _, [] => true
  | lo, (k, _) :: t => decide (lo ≤ k) && SMap.risingFrom (k + 1) t

/-- The canonical form: keys strictly rising. -/
def SMap.wf {V : Type} (m : SMap V) : Bool := SMap.risingFrom 0 m

/-- Replace what `dst` lists at the keys that `p` picks by what `src` lists there. -/
def SMap.overlay {V : Type} (p : Nat → Bool) (src dst : SMap V) : SMap V :=
  (src.filter (fun e => p e.1)).foldl (fun m e => SMap.ins e.1 e.2 m) (dst.filter (fun e => !p e.1))

/-- Forget the entries at the keys that `p` picks. -/
def SMap.drop {V : Type} (p : Nat → Bool) (m : SMap V) : SMap V := m.filter (fun e => !p e.1)

end Sys2Proof.Machine
end

