-- ==== Sys2Proof/Machine/Chip.lean ====
section
/-! DEFINITION. The block's state beside its queue of commands: the register planes and, chapter by chapter, what the
spec gives the machine beside its register maps. Every field names the rule that gives it and its value at reset. -/

namespace Sys2Proof.Machine

/-- A record latched by EVT with the routing that was working at its firing (24_events.md R498, R499). -/
structure EvRec where
  src : Nat
  supp : Nat
  stn : Nat
  det : Nat
  cyc : Nat
  ns : Nat
  /-- Word 1 of the routing entry that was working at the firing. -/
  rt1 : Nat
  /-- Latched in an earlier cc than this one. -/
  old : Bool := false
deriving DecidableEq, Repr

/-- The event unit beside its registers (24_events.md). -/
structure Evt where
  /-- Records latched and not yet in the input queue (R499). Reset: none. -/
  latched : List EvRec := []
  /-- The input queue, at most 32 records (R499). Reset: empty. -/
  inq : List EvRec := []
  /-- The management queue, at most 64 records of four words (R500). Reset: empty. -/
  mq : List (List Nat) := []
  /-- The chain queue, at most 32 records (R500). Reset: empty. -/
  cq : List (List Nat) := []
  /-- Chain time plus one of each source's last admitted record (R501). Reset: none. -/
  lastAdm : SMap Nat := []
  /-- Firings suppressed since each source's last record (R501). Reset: 0. -/
  supp : SMap Nat := []
deriving DecidableEq, Repr

/-- A setpoint on its way to, or waiting at, the field die (08_process_image.md R185, 19_control_outputs.md R420 to R424). -/
structure Setpoint where
  value : Nat
  stale : Bool   -- the IMG_STALE state of its window
  img : Bool     -- fed from the output image
  cyc : Nat      -- the apply instants that had passed when it was queued (`Chip.applyEra`)
deriving DecidableEq, Repr

/-- An item queued on the core die for the field die (01_node_and_chain.md R23, R54). -/
inductive SeamItem where
  | shadowSet (f : Fld) (v : Nat)        -- a write of a field-die shadow (03_register_model.md R60)
  | workSet (f : Fld) (v : Nat)          -- an accepted RW-E write, or an owning unit's EN
  | pour (mask : Nat)                    -- a pour of field-die groups (R60)
  | withdraw (mask : Nat)                -- a withdraw of field-die groups (R61)
  | arm (mask target : Nat)              -- field-die groups that pour at the mark of a cycle (R65)
  | setpoint (o : Nat) (sp : Setpoint)   -- an output's setpoint
  | unit (blk inst op val : Nat)         -- a command of a field-die unit, by its block's number
deriving DecidableEq, Repr

/-- The seam link beside its registers. -/
structure Seam where
  /-- Items queued on the core die, not yet in a sent frame (R23). Reset: empty. -/
  queue : List SeamItem := []
  /-- Items crossing to the field die while the seam is UP, oldest first: setpoints until SETPOINT_ARRIVE or the next frame brings them, and what was queued behind them (R30, R54). Reset: empty. -/
  flight : List SeamItem := []
  /-- Seam frames sent by the core die and not yet received (R23). Reset: none. -/
  sent : List (List SeamItem) := []
  /-- Valid frames arrive at the field die (R17, R19). Reset: no. -/
  fieldRx : Bool := false
  /-- Valid frames arrive at the core die (R17). Reset: no. -/
  coreRx : Bool := false
  /-- The field die has received a valid frame since its own reset (04_power_up_to_service.md R76). Reset: no. -/
  everRx : Bool := false
  /-- The field die has declared seam loss and no frame has come since (R19). Reset: no. -/
  lost : Bool := false
  /-- The field die's report of a loss waits to cross (R19, R514). Reset: no. -/
  lossReport : Bool := false
  /-- The core die has learned of the present loss (R514). Reset: no. -/
  lossKnown : Bool := false
  /-- Field-die flasks marked for fencing with cause 7, one bit per flask (R19, R291). Reset: none. -/
  marks : Nat := 0
  /-- Outputs held safe by seam loss until their flask is revived: bits 0 to 11 the drivers, 12 to 15 H0 to H3, 16 to 20 the Cuffs (R19, R21). Reset: none. -/
  safeOut : Nat := 0
deriving DecidableEq, Repr

/-- The field die's copy of chain time (02_clocks_and_chain_time.md R39). -/
structure FieldTime where
  /-- The copy, in units of 2^-32 ns. Reset: 0. -/
  t : BitVec 96 := 0
  /-- The steering term of the last beacon, signed, in ppb. Reset: 0. -/
  adj : Nat := 0
  /-- The bound of 1.5 ns is suspended, since a seam loss was declared. Reset: no. -/
  loose : Bool := false
  /-- Chain time plus one at which valid frames resumed after it. Reset: none. -/
  back : Nat := 0
deriving DecidableEq, Repr

/-- Clock and pour state beside the registers (02_clocks_and_chain_time.md, 03_register_model.md). -/
structure Clk where
  /-- Consecutive marks in ACQUIRE whose phase error was within 10 ns (Table CLK-4). Reset: 0. -/
  inWin : Nat := 0
  /-- The counter has been stepped since ACQUIRE was entered (Table CLK-4). Reset: no. -/
  stepped : Bool := false
  /-- Valid marks since ACQUIRE was entered (R35). Reset: 0. -/
  acqMarks : Nat := 0
  /-- Chain time of the last mark at this node (R45). Reset: 0. -/
  markNs : Nat := 0
  /-- Chain time that the last mark carries, the head's own (R40, R46). Reset: 0. -/
  headNs : Nat := 0
  /-- The head has sent its first CYC (R12, R40). Reset: no. -/
  sentCyc : Bool := false
  /-- SOFs since the last SOF-aligned mark (Table CLK-6). Reset: 0. -/
  sofDiv : Nat := 0
  /-- The cycle number whose apply instant has been reached on the field die, plus one (R46). Reset: 0. -/
  applied : Nat := 0
  /-- The field die's copy of the cycle number at the last mark it knows (R46, R65). Reset: 0. -/
  fCyc : Nat := 0
  /-- The field die has marked since its last apply instant (R46). Reset: no. -/
  fMarked : Bool := false
  /-- The apply instant of that mark: the mark's chain time plus CLK.APPLY.OFFSET (R46). Reset: 0. -/
  fApply : Nat := 0
  /-- The core die has last told the field die that the node is LOCKED or in HOLDOVER (R36). Reset: no. -/
  fSteered : Bool := false
  /-- The node serves: it has passed a mark with every condition of R91 (04_power_up_to_service.md R91). Reset: no. -/
  serving : Bool := false
  /-- The counter's frequency error is within 1 ppm (R37). Reset: no. -/
  freqOk : Bool := false
  /-- Consecutive marks missed (07_chain_topology_and_heads.md R169, R170). Reset: 0. -/
  missed : Nat := 0
deriving DecidableEq, Repr

/-- The chain-wide pour (03_register_model.md R62 to R66). -/
structure Arm where
  /-- The node is armed (R62). Reset: no. -/
  on : Bool := false
  /-- The arm was decided at a slot whose frame has not committed (06_cycle_frames_and_gate.md R136). Reset: no. -/
  held : Bool := false
  /-- A pour slot with the armed mask and target has been accepted (R63). Reset: no. -/
  accepted : Bool := false
  /-- The head's request: mask (R66). Reset: 0. -/
  mask : Nat := 0
  /-- The head's request: lead (R66). Reset: 0. -/
  lead : Nat := 0
  /-- The head's request: station (R66). Reset: 0. -/
  station : Nat := 0
  /-- The cycle whose first frame carries the arm (R66). Reset: 0. -/
  cyc : Nat := 0
  /-- The head itself armed (R66). Reset: no. -/
  self : Bool := false
  /-- CH_GO accepted, arm slot not yet sent (R66). Reset: no. -/
  wait : Bool := false
  /-- The arm frame returned with matching counts (R66). Reset: none. -/
  match_ : Option Bool := none
deriving DecidableEq, Repr

/-- Phases of the keep domain's rail sequencer (04_power_up_to_service.md R70, R73 to R75, R92). -/
inductive KeepPhase where
  | por        -- trunk POR: waiting for 8.0 V for 0.5 ms
  | wantPg     -- an EN is high, its PG awaited
  | gap        -- the 0.1 ms after a PG went high
  | up         -- all rails up
  | dropping   -- power-down in progress
  | retryWait  -- the 100 ms after a failed attempt
  | failed     -- three attempts failed; off until the next trunk POR
  | standby    -- VCORE off
  | off        -- OFF: all rails off
deriving DecidableEq, Repr

/-- What a power-down in progress leads to. -/
inductive DropGoal where
  | retry | failed | resequence | standby | off
deriving DecidableEq, Repr

/-- Power, resets and keep domain beside the registers. -/
structure Pwr where
  /-- The sequencer's phase (R73). Reset: trunk POR. -/
  phase : KeepPhase := .por
  /-- The rail being raised or dropped: 0 VAUX, 1 VLOGIC, 2 VCORE (R73). Reset: 0. -/
  rail : Nat := 0
  /-- EN lands, bits 0 to 2 in the order VAUX, VLOGIC, VCORE (Table SYS-2). Reset: all low. -/
  en : Nat := 0
  /-- PG lands, same order. Reset: all low. -/
  pg : Nat := 0
  /-- Failed attempts of the present power-up (R74; counted anew once all rails are up, log entry 21). Reset: 0. -/
  attempts : Nat := 0
  /-- Where a power-down leads (R75). Reset: off. -/
  goal : DropGoal := .off
  /-- The core die is held in reset (R76). Reset: yes. -/
  coreRst : Bool := true
  /-- The field die is held in reset (R76). Reset: yes. -/
  fieldRst : Bool := true
  /-- NRST is low (R71). Reset: no. -/
  nrstLow : Bool := false
  /-- Latched wake causes of the keep domain, not yet acted on: WAK, HVI, Cuff, timer, NRST (R93). Reset: none. -/
  wake : Nat := 0
  /-- Seconds left on the keep wake timer (R93). Reset: 0. -/
  timer : Nat := 0
  /-- Part of a second counted, in cc (log entry 1). Reset: 0. -/
  timerCc : Nat := 0
  /-- The PLL has been locked since core release (R76). Reset: no. -/
  pllOnce : Bool := false
  /-- The head's listen window has ended without a CYC (R89). Reset: no. -/
  listenDone : Bool := false
  /-- A head-strapped node has become a member until its next power cycle (01_node_and_chain.md R12, R13). Reset: no. -/
  lostHead : Bool := false
  /-- The core die orders the pass-through closed (R89). Reset: no. -/
  trOrder : Bool := false
  /-- The pass-through has closed since the last reset that stages it again (R89). Reset: no. -/
  trStaged : Bool := false
  /-- The trunk-fed event has been raised (R89). Reset: no. -/
  trFed : Bool := false
  /-- The pass-through opens on entry to OFF (R92). Reset: no. -/
  trunkOff : Bool := false
deriving DecidableEq, Repr

/-- Boot ROM, image reception and OTP beside the registers (R78 to R88). -/
structure Boot where
  /-- An image is being received: length, next offset, slot it is written to, 0 A or 1 B (R80). Reset: none. -/
  load : Option (Nat × Nat × Nat) := none
  /-- The last received image is complete and being checked: length and slot (R85). Reset: none. -/
  verify : Option (Nat × Nat) := none
  /-- The NOR slot of the image that runs, or 2 for none (R81). Reset: 2. -/
  runSlot : Nat := 2
  /-- Length of the running image (R81). Reset: 0. -/
  runLen : Nat := 0
  /-- The key hash in OTP as 8 words, least significant first; none while blank (R87, R88). Reset: blank (00_scope.md R8). -/
  keyHash : Option (List (BitVec 32)) := none
  /-- Words staged for the key hash (R88). Reset: none. -/
  staged : List (BitVec 32) := []
  /-- The words being programmed (R88). Reset: none. -/
  prog : List (BitVec 32) := []
  /-- The anti-rollback counter in OTP (R88). Reset: 0 (00_scope.md R8). -/
  rbCnt : Nat := 0
  /-- The slots whose image the boot ROM found valid at this boot, with their versions (R79, R81). Reset: none. -/
  slotA : Option Nat := none
  slotB : Option Nat := none
  /-- M62 and M63 are held by the boot ROM (R80). Reset: no. -/
  holdsMbx : Bool := false
  /-- The image to be checked came from the host (R324) or the chain (R80), not from NOR. Reset: no. -/
  fromOut : Bool := false
deriving DecidableEq, Repr

/-- A fault latched against a flask (13_flasks_and_warden.md R283, Table FLASK-2). -/
structure FaultLine where
  flask : Nat
  cause : Nat
  detail : Nat
  word1 : Nat
  cyc : Nat
  ns : Nat
deriving DecidableEq, Repr

/-- The warden beside its registers (13_flasks_and_warden.md). -/
structure Warden where
  /-- Faults latched, their flasks FENCING, whose fence sequence has not run (R284, R286). Reset: none. -/
  lines : List FaultLine := []
  /-- Faults whose fence waits behind the four that run at once (R286). Reset: none. -/
  queue : List FaultLine := []
  /-- The field-flask fence word last sent on the fence lane, one bit per flask (R285). Reset: 0. -/
  sentFence : Nat := 0
  /-- The output-hold word last sent on the fence lane (R285, R289). Reset: 0. -/
  sentHold : Nat := 0
  /-- The fence word the field die keeps (R285). Reset: 0. -/
  laneFence : Nat := 0
  /-- The output-hold word the field die keeps (R285). Reset: 0. -/
  laneHold : Nat := 0
  /-- The words sent have not yet been acted on by the field die (R285). Reset: no. -/
  lanePend : Bool := false
  /-- Locks the warden holds, with the flask each is held for (R265). Reset: none. -/
  locks : SMap Nat := []
  /-- Flasks whose windows stay POISONED until the next mark after a revive, one bit each (R295). Reset: none. -/
  poisonTail : Nat := 0
  /-- Consecutive-fault counts (R296). Reset: 0. -/
  n : SMap Nat := []
  /-- Chain time of the cc in which a fault last reached each flask, in units of 2^-32 ns, plus one (R294). Reset: none. -/
  lastFault : SMap Nat := []
  /-- Chain time, in ns, at which the delay of each pending auto-revive ends, or its next retry falls (R296). Reset: none. -/
  due : SMap Nat := []
  /-- Chain time of each flask's last revive, in ns (R296). Reset: none. -/
  revivedAt : SMap Nat := []
  /-- Flasks whose due auto-revive was refused and is retried every 1 ms, one bit each (R296). Reset: none. -/
  retry : Nat := 0
  /-- Flasks whose AR_STABLE time runs after a revive, one bit each (R296). Reset: none. -/
  stable : Nat := 0
  /-- Both words are due afresh once the seam is UP (R285). Reset: yes. -/
  afresh : Bool := true
  /-- Records written since reset, to tell when the ring of 32 is full (R297). Reset: 0. -/
  recs : Nat := 0
deriving DecidableEq, Repr

/-- The test running in TEST (23_stitch_test_and_bist.md R488). -/
structure RunningTest where
  kind : Nat
  scope : Nat
  force : Bool
deriving DecidableEq, Repr

/-- Stitch test and TAP beside the registers (23_stitch_test_and_bist.md). -/
structure Test where
  /-- The running test (R488). Reset: none. -/
  run : Option RunningTest := none
  /-- The staged neighbour-test cycle (R492). Reset: 0. -/
  nbCycle : Nat := 0
  /-- Chain time at which the running test began (R488). Reset: 0. -/
  since : Nat := 0
  /-- PRBS7 is on lane 1 (R492). Reset: no. -/
  prbs : Bool := false
  /-- The TAP's current instruction code (Table TEST-3). Reset: IDCODE (IEEE 1149.1 test-logic-reset, log entry 9). -/
  tapInstr : Nat := 1
  /-- What the instruction register last shifted out (R495). Reset: 0 (DESIGN CHOICE, log entry 5). -/
  irOut : BitVec 5 := 0
  /-- A land-taking instruction is current (R496). Reset: no. -/
  landsTaken : Bool := false
  /-- The boundary register, 412 cells (R495). Reset: 0 (DESIGN CHOICE, log entry 5). -/
  boundary : BitVec 412 := 0
  /-- The value the TAP last shifted out of the selected register. Reset: 0 (DESIGN CHOICE, log entry 5). -/
  tapOut : BitVec 412 := 0
deriving DecidableEq, Repr

/-- What an engine in WAIT waits for, with the register its instruction writes (10_sprue_instruction_set.md R243). -/
inductive Wait where
  | none
  | runner (q : Nat) (d : Nat)
  | pool (d : Nat)
  | lock (l : Nat) (d : Nat)
  | msg (m : Nat) (d : Nat)
  | mark
  | time (t : BitVec 64)
  | event (d : Nat)
  | granted (d : Nat) (val : BitVec 32) (upd : Nat) (z c v : Bool) (access : Nat)  -- cleared: the value; flags written (0 none, 1 Z, 2 all four; of waits that make no access, 3 a mark's, 4 a time's or an event's) and their values; the access status
deriving DecidableEq, Repr

/-- One Sprue engine beside its registers (09_sprue_engines.md R187). -/
structure Engine where
  /-- g1 to g15, 32 bits each; g0 reads 0 (10_sprue_instruction_set.md R218). Reset: 0. -/
  g : SMap (BitVec 32) := []
  /-- Flags Z, N, C, V, S (R187, R224). Reset: 0. -/
  z : Bool := false
  n : Bool := false
  c : Bool := false
  v : Bool := false
  sat : Bool := false
  /-- ACC, 64 bits (R187). Reset: 0. -/
  acc : BitVec 64 := 0
  /-- The chain-time latch that ctl captures and cth reads (R236). Reset: 0. -/
  latch : BitVec 32 := 0
  /-- The loop stack, innermost first: first word, end word, passes left (R232). Reset: empty. -/
  loops : List (Nat × Nat × Nat) := []
  /-- The event pending set, one bit per source (R237). Reset: 0. -/
  pend : BitVec 128 := 0
  /-- The cycle counter CSR, 32 bits (Table ISA-11). Reset: 0. -/
  cc : BitVec 32 := 0
  /-- What the engine waits for (R243). Reset: nothing. -/
  wait : Wait := .none
  /-- Chain time at which its last wait began, in units of 2^-32 ns, plus one (12_locks_buffers_messages.md R263). Reset: none. -/
  waitAt : Nat := 0
  /-- A halt is requested and takes hold at the end of the instruction (R197). Reset: no. -/
  haltReq : Bool := false
deriving DecidableEq, Repr

/-- The program loader beside its registers (R211). -/
structure Loader where
  /-- The staged source address (LOAD_SRC). Reset: 0. -/
  src : Nat := 0
  /-- The running load: target, first word, length. Reset: none. -/
  run : Option (Nat × Nat × Nat) := none
deriving DecidableEq, Repr

/-- One runner beside its registers; its items' values lie in runner storage (11_runners.md R244, R246). -/
structure Runner where
  /-- Read offset of banks 0 and 1 in words. Reset: 0. -/
  rd0 : Nat := 0
  rd1 : Nat := 0
  /-- Item kinds of banks 0 and 1, oldest first: 0 DATA, 1 DATA_END, 2 GAP (the mark array, R244). Reset: empty. -/
  k0 : List Nat := []
  k1 : List Nat := []
  /-- The last item stored was DATA (R257). Reset: no. -/
  lastStored : Bool := false
  /-- The last item put was DATA (R259). Reset: no. -/
  lastPut : Bool := false
  /-- Chain time plus one of the last loss (R260). Reset: none. -/
  lastLoss : Nat := 0
  /-- Chain time plus one of the last overload event (R260). Reset: none. -/
  lastEvt : Nat := 0
  /-- Parties waiting to take, oldest first: engines 0 to 31, 32 the management function (R249). Reset: none. -/
  waiters : List Nat := []
  /-- Plus one, the flask whose fence set STAT.P_FENCED, and that whose fence set STAT.C_FENCED (R257). Reset: none. -/
  pBy : Nat := 0
  cBy : Nat := 0
deriving DecidableEq, Repr

/-- One mailbox beside its registers; its ring lies in the mailbox region (12_locks_buffers_messages.md R273). -/
structure Mbx where
  /-- Ring index of the oldest message. Reset: 0. -/
  head : Nat := 0
  /-- Messages waiting (MBX_STAT.COUNT). Reset: 0. -/
  count : Nat := 0
  /-- Entries reserved by slots not yet committed (MBX_STAT.RESV). Reset: 0. -/
  resv : Nat := 0
  /-- Engines waiting to receive, oldest first (R274). Reset: none. -/
  waiters : List Nat := []
deriving DecidableEq, Repr

/-- Locks, buffers and messages beside the registers (12_locks_buffers_messages.md). -/
structure Sync where
  /-- Buffers never taken since reset: those from this number on head the free list (R268). Reset: 0. -/
  fresh : Nat := 0
  /-- Buffers freed since, in the order of the free list behind the fresh ones (R268). Reset: none. -/
  freed : List Nat := []
  /-- Engines waiting for each lock, oldest first (R263). Reset: none. -/
  lockWait : SMap (List Nat) := []
  /-- Engines waiting for a buffer, oldest first (R268). Reset: none. -/
  poolWait : List Nat := []
  /-- Mailboxes that differ from their reset value (R273). -/
  mbx : SMap Mbx := []
  /-- The mailbox selected for M_RECV. Reset: 0. -/
  sel : Nat := 0
  /-- Chain time plus one of the last pool failure and of the last pool-overload event (R272). Reset: none. -/
  lastFail : Nat := 0
  lastEvt : Nat := 0
deriving DecidableEq, Repr

/-- One driver output on the field die beside its registers (19_control_outputs.md). -/
structure DrvOut where
  /-- The setpoint held for the next apply instant (R424). Reset: none. -/
  held : Option Setpoint := none
  /-- A SET write has arrived since the last apply instant (R426). Reset: no. -/
  seen : Bool := false
  /-- The target in hand, 16 bits, before any scaling (R421, R427). Reset: 0. -/
  cmd : Nat := 0
  /-- The output is in its safe state until a fresh setpoint (R430, R431). Reset: yes (04_power_up_to_service.md R76). -/
  safe : Bool := true
  /-- A fault has latched the output (R432). Reset: no. -/
  latched : Bool := false
  /-- Chain time plus one of the last driver-fault event (R432). Reset: none. -/
  lastEvt : Nat := 0
  /-- Instant at which the output last began a new PWM period for a setpoint, in units of 2^-32 ns (R425). Reset: 0. -/
  pwmAt : Nat := 0
  /-- Start of the PWM period for whose rest the current limit holds the switch or high-side gate off (R420, R422). Reset: none. -/
  cut : Option Nat := none
  /-- Instant at which the dither restarted, in units of 2^-32 ns (R420). Reset: 0. -/
  ditherAt : Nat := 0
deriving DecidableEq, Repr

/-- What the node answers on its upstream bus to the last transaction or request a host made (14_local_hub.md R306). -/
inductive UsbReply where
  | none | ack | nak | stall | nyet | err
  | data (bytes : List (BitVec 8))
deriving DecidableEq, Repr

/-- One of the two non-periodic buffers of a translator (R310, R312). -/
structure TtBuf where
  ep : TtEndpoint
  data : List (BitVec 8)
deriving DecidableEq, Repr

/-- A periodic start-split, accepted or discarded (R311), with its age in microframes; it is forgotten after a frame. -/
structure TtPer where
  ep : TtEndpoint
  ok : Bool
  age : Nat
deriving DecidableEq, Repr

/-- One hub port beside its registers (14_local_hub.md). -/
structure HubPort where
  /-- wPortStatus of the port itself, whoever serves it (R300, R303). Reset: 0. -/
  st : Nat := 0
  /-- wPortChange of the port while it is tunnelled (15_wide_hub_tunnel.md Table WIDE-1). Reset: 0. -/
  tchg : Nat := 0
  /-- 0 quiet, 1 port reset, 2 resume, 3 L1 exit in progress (R308, R318, R319). Reset: 0. -/
  phase : Nat := 0
  /-- The device detected at the port (R299). Reset: none. -/
  conn : Option UsbSpeed := none
  /-- A supply trip holds off AUTO_PWR (R302). Reset: no. -/
  tripped : Bool := false
  /-- A fence of its flask holds PORT_POWER off until the host sets it (R305). Reset: no. -/
  fenced : Bool := false
  /-- Chain time at which the present phase began, in ns (R308, R318, R319). Reset: 0. -/
  since : Nat := 0
  /-- BESL of the accepted L1 token (R319). Reset: 0. -/
  besl : Nat := 0
  /-- Test mode (R307). Reset: none. -/
  test : Nat := 0
  /-- Non-periodic buffers in use (R312). Reset: none. -/
  bufs : List TtBuf := []
  /-- Periodic start-splits of the last eight microframes (R311). Reset: none. -/
  per : List TtPer := []
  /-- Byte times committed to the present frame (R311). Reset: 0. -/
  bytes : Nat := 0
  /-- The translator is stopped (R312). Reset: no. -/
  stopped : Bool := false
deriving DecidableEq, Repr

/-- One USB device the node presents (R306, R316). -/
structure UsbDevice where
  /-- Device address. Reset: 0. -/
  addr : Nat := 0
  /-- Configuration. Reset: 0. -/
  config : Nat := 0
  /-- Halted endpoints, by endpoint address modulo 16 with bit 4 for IN. Reset: none. -/
  halts : Nat := 0
  /-- Data toggles, by the same number: 1 DATA1 (R316). Reset: DATA0. -/
  toggles : Nat := 0
  /-- Alternate setting of interface 0. Reset: 0. -/
  alt : Nat := 0
  /-- Remote wake enabled. Reset: no. -/
  rwake : Bool := false
deriving DecidableEq, Repr

/-- The local hub beside its registers. -/
structure Hub where
  /-- Ports 1 to 9 (R298). -/
  ports : SMap HubPort := []
  /-- The USB devices by number: 0 hub, 1 management function, 2 wide hub. -/
  devs : SMap UsbDevice := []
  /-- The answer to the last request or transaction. Reset: none. -/
  reply : UsbReply := .none
  /-- The data PID of the last data a device behind the wide hub returned: 1 DATA1 (15_wide_hub_tunnel.md R338, R342). Reset: DATA0. -/
  pid : Bool := false
  /-- UP_STATE before a suspend or L1 (R317). Reset: 0. -/
  upPrev : Nat := 0
  /-- The hub signals remote wake upstream (R317). Reset: no. -/
  waking : Bool := false
  /-- A cause of R317 asks the suspended hub for remote wake. Reset: no. -/
  wakeDue : Bool := false
  /-- Chain time plus one of the last SOF (R314). Reset: none. -/
  lastSof : Nat := 0
  /-- BESL of the LPM token the hub accepted (R319). Reset: 0. -/
  besl : Nat := 0
  /-- Test mode of the upstream port (R306, SetFeature TEST_MODE). Reset: none. -/
  upTest : Nat := 0
  /-- The upstream state of the wide hub, in the codes of UP_STATE (15_wide_hub_tunnel.md R328). Reset: 0 detached. -/
  wup : Nat := 0
  /-- A host is attached at C4 and its pair is in service (R299). Reset: no. -/
  pair : Bool := false
deriving DecidableEq, Repr

/-- One switched channel on the field die beside its registers (17_switching_and_fusing.md). -/
structure FuseCh where
  /-- ENABLE has been 0 since the channel latched (R389). Reset: no. -/
  low : Bool := false
  /-- A RETRY wait has ended and the channel has not closed since (R390). Reset: no. -/
  waited : Bool := false
  /-- The present close came after a wait (R390). Reset: no. -/
  retried : Bool := false
  /-- Consecutive count (R390). Reset: 0. -/
  cons : Nat := 0
  /-- The switch tripped on temperature and has not read below 130 C since (R387). Reset: no. -/
  hot : Bool := false
  /-- Opened on reverse current, the output side not yet below its input (R387). Reset: no. -/
  rev : Bool := false
  /-- The channel waits for its guard: the back-feed event was raised (R382). Reset: no. -/
  held : Bool := false
  /-- Chain time plus one of the last channel-trip event (R388). Reset: none. -/
  lastEvt : Nat := 0
  /-- Chain time at which the channel last closed (R383, R390). Reset: 0. -/
  closedAt : Nat := 0
  /-- Chain time at which the RETRY wait ends (R390). Reset: 0. -/
  due : Nat := 0
deriving DecidableEq, Repr

/-- One Gleshline port beside its registers (05_gleshline_link.md). -/
structure LnkPort where
  /-- Signal has been present on a lane for 1 us, one bit per lane (Table LINK-4). Reset: none. -/
  sig : Nat := 0
  /-- Chain time at which the port entered its present state (R107). Reset: 0. -/
  since : Nat := 0
  /-- Logical lanes that work, one bit each (R111). Reset: none. -/
  lanes : Nat := 0
  /-- Rank in the partner's last IDL/T (R110). Reset: 2. -/
  rank : Nat := 2
  /-- This end's request: 0 none, 1 retrain, 2 width (R113). Reset: none. -/
  req : Nat := 0
  /-- Its target width. Reset: 0. -/
  reqW : Nat := 0
  /-- Its request cycle. Reset: 0. -/
  reqC : Nat := 0
  /-- The node raised the request itself (R115). Reset: no. -/
  byNode : Bool := false
  /-- A withdrawn request of the node's own waits to be evaluated again (R114). Reset: no. -/
  again : Bool := false
  /-- A width change is fixed for a cycle: width and cycle (R113). Reset: none. -/
  fixed : Option (Nat × Nat) := none
  /-- Lane 1 has run DETECT, ORDER and EQ for an upshift (R113). Reset: no. -/
  lane1 : Bool := false
  /-- The lane a margin scan runs on (R123). Reset: 0. -/
  scan : Nat := 0
  /-- The body of the last ALM this port sent, its own or one passed on (R103). Reset: none. -/
  almOut : List (BitVec 8) := []
  /-- The body of the last CYC this port sent, its own, passed on or folded (R100, R102; 07_chain_topology_and_heads.md R158, R159). Reset: none. -/
  cycOut : List (BitVec 8) := []
  /-- The body of the last SLP this port sent (R116, R119). Reset: none. -/
  slpOut : List (BitVec 8) := []
  /-- The body of the IDL/T this port sends on logical lane 0, as its last event left it (Table LINK-3). Reset: none. -/
  idlOut : List (BitVec 8) := []
  /-- The transmitters are held in electrical idle after SLP, with KEEP_HEAD (R119). Reset: no. -/
  quiet : Bool := false
  /-- The port sends WAK on its lanes (R120). Reset: no. -/
  wak : Bool := false
deriving DecidableEq, Repr

/-- One Cuff on the field die beside its registers (16_cuffs_type_c_pd.md). -/
structure Cuff where
  /-- What stands on CC1 and CC2 (R352). Reset: open. -/
  cc1 : CcPin := .open_
  cc2 : CcPin := .open_
  /-- The Cuff presents Rp, else Rd (Table CUFF-5). Reset: Rd. -/
  rp : Bool := false
  /-- Rp advertised: 0 Default, 1 1.5 A, 2 3.0 A (R371, Table CUFF-4). Reset: 1, CUFF.SAFE.RP. -/
  adv : Nat := 1
  /-- The source switch is requested (Table FUSE-2). Reset: no. -/
  srcOn : Bool := false
  /-- VSET target code (R360). Reset: 0. -/
  target : Nat := 0
  /-- The output code moves toward its target (R360). Reset: no. -/
  ramping : Bool := false
  /-- The CC pins stand open after instrument fault 2 (Table CUFF-8). Reset: no. -/
  ccOpen : Bool := false
  /-- Hard Reset sequence: 0 none, 1 source before tPSHardReset, 2 source before tSrcRecover, 3 sink (R359). Reset: 0. -/
  hr : Nat := 0
  /-- Chain time of the signalling. Reset: 0. -/
  hrAt : Nat := 0
  /-- The PD receiver turns off when the sequence ends (R372). Reset: no. -/
  hrOff : Bool := false
  /-- The receive queue, oldest first (R355). Reset: empty. -/
  rx : List (Nat × List (BitVec 8)) := []
  /-- MessageID last received per SOP type, plus one (R355). Reset: none. -/
  rxId : SMap Nat := []
  /-- MessageID counter per SOP type (R355). Reset: 0. -/
  txId : SMap Nat := []
  /-- TX_DATA words 0 to 7, those that are not 0 (Table CUFF-4). Reset: 0. -/
  txData : SMap Nat := []
  /-- The last accepted TX_GO word. Reset: 0. -/
  txGo : Nat := 0
  /-- TX_RESULT (Table CUFF-4). Reset: 0 idle. -/
  txRes : Nat := 0
  /-- The transmission waits tSinkTx (R356). Reset: no. -/
  txWait : Bool := false
  /-- Chain time at which that wait began (R356). Reset: 0. -/
  txAt : Nat := 0
  /-- An atomic message sequence that the node opened as source is open (R356). Reset: no. -/
  ams : Bool := false
  /-- Retries left (R355). Reset: 0. -/
  retries : Nat := 0
  /-- Chain time at which the swap window opened (R365, R366). Reset: 0. -/
  swapAt : Nat := 0
  /-- FR_Swap has fired in the open window (R366, Table CUFF-5). Reset: no. -/
  frsFired : Bool := false
  /-- The active CC pin is driven low for tFRSwapTx (R366). Reset: no. -/
  frsLow : Bool := false
  /-- Chain time plus one of the last VCONN fault (Table CUFF-5). Reset: none. -/
  vconnFault : Nat := 0
  /-- Chain time of the last KICK (R374). Reset: 0. -/
  kick : Nat := 0
  /-- The pair serves the hub (R299). Reset: no. -/
  pair : Bool := false
deriving DecidableEq, Repr

/-- A delivery of a measurement unit: runner items and an image word (18_measurement.md R411). `first` is the first of its packet. -/
structure MeasOut where
  first : Bool
  run : Option Nat
  items : List (Nat × Nat)
  img : Option (Nat × Nat)
deriving DecidableEq, Repr

/-- Measurement on the field die beside its registers (18_measurement.md). -/
structure Meas where
  /-- Inputs whose shunt is open, one bit each (R398). Reset: none. -/
  shuntOpen : Nat := 0
  /-- Flags OVR, UNDER, FAULT at each input's last sample (the note under Table MEAS-11). Reset: 0. -/
  flags : SMap Nat := []
  /-- Chain time plus one of each input's last input-range event. Reset: none. -/
  lastEvt : SMap Nat := []
  /-- Entries of SA and SB whose next sample carries CAL, one bit each (R414). Reset: none. -/
  calA : Nat := 0
  calB : Nat := 0
  /-- Bridges whose next result carries CAL for new coefficients (R414). Reset: none. -/
  calBr : Nat := 0
  /-- Bridges shorted by a running calibration (R414). Reset: none. -/
  shorted : Nat := 0
  /-- Converters whose reference is at fault, one bit each (Table MEAS-5). Reset: none. -/
  refBad : Nat := 0
  /-- Bridges whose excitation is off after a fault (Table MEAS-5). Reset: none. -/
  excOff : Nat := 0
  /-- Results still to carry SETTLE per bridge (R406). Reset: 0. -/
  settle : SMap Nat := []
  /-- Chain time of each bridge's last output instant, plus one (R406). Reset: none. -/
  brAt : SMap Nat := []
  /-- Time of each counter's last counted edge in units of 2^-32 ns, plus one (R407). Reset: none. -/
  edge : SMap Nat := []
  /-- Edge stamps queued per counter, oldest first (R409). Reset: none. -/
  stamps : SMap (List Nat) := []
  /-- Counters whose next stamp carries GAP (R409). Reset: none. -/
  gap : Nat := 0
  /-- Words held for the seam by SA, SB, the bridges and the counters (R413). Reset: none. -/
  hold : SMap (List MeasOut) := []
  /-- SA, SB, and F47's units are stopped until the next mark after a revive, one bit each (R413, R416). Reset: none. -/
  stopped : Nat := 0
deriving DecidableEq, Repr

/-- The pins beside their registers (20_pins_and_muxing.md). -/
structure Pin where
  /-- The MARK strobe is high (R444). Reset: low. -/
  mark : Bool := false
  /-- The APPLY strobe is high (R444). Reset: low. -/
  apply : Bool := false
  /-- Chain time at which each went high. Reset: 0. -/
  markAt : Nat := 0
  applyAt : Nat := 0
  /-- While the pads hold: bits of each port that are driven, their levels, and the pads' pulls by pin 16n + m (R448). Reset: none. -/
  heldDrive : SMap Nat := []
  heldLevel : SMap Nat := []
  heldPull : SMap Nat := []
  /-- The wake fields of HVI_CFG in the keep domain, by input: 1 + WAKE_EDGE where WAKE_EN is 1 (R447). Reset: none. -/
  hviWake : SMap Nat := []
deriving DecidableEq, Repr
/-- A tunnel record (15_wide_hub_tunnel.md Table WIDE-4). -/
structure WRec where
  kind : Nat
  b1 : Nat
  dev : Nat
  b3 : Nat
  status : Nat
  data : List (BitVec 8)
deriving DecidableEq, Repr

/-- A non-periodic transaction the head holds (R338 to R340): kind 1 SETUP, 2 OUT, 3 IN; state 0 waits, 1 in flight, 2 has its outcome. -/
structure WTx where
  dev : Nat
  ep : Nat
  kind : Nat
  pid : Bool
  data : List (BitVec 8)
  state : Nat
  status : Nat
  rpid : Bool
  rdata : List (BitVec 8)
  split : Bool    -- made by a split transaction (R340)
deriving DecidableEq, Repr

/-- A wide port at the head (R334 to R345). -/
structure WPort where
  /-- Transactions held, oldest first (R338). Reset: none. -/
  held : List WTx := []
  /-- Port commands not yet sent (R344). Reset: none. -/
  cmds : List WRec := []
  /-- DSEQ of the last records sent (R336). Reset: 0. -/
  dseq : Nat := 0
  /-- Records sent with it whose frame has not returned good (R336). Reset: none. -/
  sent : List WRec := []
  /-- The last USEQ received (R336). Reset: 0. -/
  uack : Nat := 0
  /-- Consecutive refused slots (R345). Reset: 0. -/
  refused : Nat := 0
  /-- The entry is unreachable (R345). Reset: no. -/
  gone : Bool := false
  /-- Cycles since its last slot (R334). Reset: 0. -/
  age : Nat := 0
  /-- A port reset: 0 none, 1 requested, 2 committed at the remote and not reported ended (R344). Reset: none. -/
  resetting : Nat := 0
  /-- C_PORT_CONNECTION that the head itself set for an unreachable port and the host has not cleared (R345). Reset: no. -/
  lost : Bool := false
deriving DecidableEq, Repr

/-- A poll result: status of Table WIDE-4, data PID, data. -/
structure PollRes where
  status : Nat
  pid : Bool
  data : List (BitVec 8)
deriving DecidableEq, Repr

/-- A poll entry at the head (R342). -/
structure WPoll where
  /-- The result that comes in this cycle, presented from the next mark. Reset: none. -/
  next : Option PollRes := none
  /-- The result presented and not yet taken. Reset: none. -/
  shown : Option PollRes := none
  /-- Poll OUT data the host sent and no slot has carried. Reset: none. -/
  out : Option (Bool × List (BitVec 8)) := none
  /-- Of a station-0 entry: the result of this cycle's poll, and the OUT data that counts as shipped in this cycle (R329). Reset: none. -/
  made : Option PollRes := none
  ship : Option (Bool × List (BitVec 8)) := none
  /-- The handshake of the last OUT start-split, for its complete-split (R340, R342). Reset: ACK. -/
  hand : UsbReply := .ack
  /-- The device's STALL of an OUT, for the host's next OUT. Reset: no. -/
  stall : Bool := false
deriving DecidableEq, Repr

/-- A wide port at the node that serves it (R335 to R337, R341, R346). -/
structure WServed where
  /-- The last DSEQ committed. Reset: 0. -/
  dack : Nat := 0
  /-- Down records committed and not yet executed. Reset: none. -/
  todo : List WRec := []
  /-- Outcomes staged and not yet in a batch. Reset: none. -/
  fresh : List WRec := []
  /-- The batch of outcomes under the present USEQ, resent until acknowledged. Reset: none. -/
  batch : List WRec := []
  /-- USEQ of the batch. Reset: 0. -/
  useq : Nat := 0
  /-- Poll results staged for the next slot. Reset: none. -/
  polls : List WRec := []
  /-- Poll OUT data received, oldest first: entry, PID, data. Reset: none. -/
  outs : List (Nat × Bool × List (BitVec 8)) := []
  /-- A port event waits (R335). Reset: no. -/
  event : Bool := false
  /-- Cycle number of the last TUNNEL slot, plus one (R346). Reset: none. -/
  last : Nat := 0
  /-- The port is orphaned (R346). Reset: no. -/
  orphan : Bool := false
deriving DecidableEq, Repr

/-- The wide hub beside its registers (15_wide_hub_tunnel.md). -/
structure Wide where
  /-- The 10 ms of detach run (R328). Reset: no. -/
  detach : Bool := false
  /-- Chain time at which they began, in ns. Reset: 0. -/
  detachAt : Nat := 0
  /-- The frame number of the SOFs on the served ports (R337). Reset: 0. -/
  frame : Nat := 0
  /-- Cycle number of the last polls, plus one (R341). Reset: none. -/
  polled : Nat := 0
  /-- Free values drawn and chain time when the block was last disabled: what its records left in the tunnel buffer region. Reset: none. -/
  left : Option (Nat × Nat) := none
  /-- Bytes of the region stored since then. Reset: none. -/
  wrote : List Nat := []
  /-- Wide ports at the head. -/
  ports : SMap WPort := []
  /-- Poll entries at the head. -/
  polls : SMap WPoll := []
  /-- Wide ports this node serves. -/
  served : SMap WServed := []
  /-- The port that comes first in the round of non-periodic records (R334). Reset: 2. -/
  turn : Nat := 2
  /-- Chain time plus one of the last deferral and of the last overload event (R348). Reset: none. -/
  lastDefer : Nat := 0
  lastEvt : Nat := 0
deriving DecidableEq, Repr
/-- A transport session beside its registers (21_isobus_bridge.md R460 to R462). -/
structure CanSess where
  /-- Staged PGN, kind (1 ETP), SA and DA (Table CAN-3). Reset: 0. -/
  pgn : Nat := 0
  etp : Bool := false
  sa : Nat := 0
  da : Nat := 0
  /-- Total size of the message. Reset: 0. -/
  size : Nat := 0
  /-- Bytes received before the present window, and in all. Reset: 0. -/
  base : Nat := 0
  got : Nat := 0
  /-- Packets of the ETP window the last DPO named. Reset: 0. -/
  count : Nat := 0
  /-- Packets in the area. Reset: 0. -/
  packets : Nat := 0
  /-- Chain time of the open or of the last packet. Reset: 0. -/
  last : Nat := 0
deriving DecidableEq, Repr

/-- A CAN controller beside its registers (21_isobus_bridge.md). -/
structure Can where
  /-- Words of the transmit buffers, 4 t + w (Table CAN-3). Reset: 0. -/
  tx : SMap Nat := []
  /-- The buffer whose frame is on the bus (R459). Reset: none. -/
  onBus : Option Nat := none
  /-- It is to be aborted at the end of its frame (R459). Reset: no. -/
  abort : Bool := false
  /-- TEC has passed 255 (R454). Reset: no. -/
  offDue : Bool := false
  /-- Recovery from bus-off runs (R454). Reset: no. -/
  recover : Bool := false
  /-- Chain time at which the integration or the recovery that runs began (R453, R454). Reset: 0. -/
  since : Nat := 0
  /-- Sessions S0 to S7. -/
  sess : SMap CanSess := []
deriving DecidableEq, Repr
/-- A value put to the configuration journal (22_background_work.md R473, R477). -/
structure JPut where
  key : Nat
  del : Bool
  val : List Nat
  user : Bool    -- put by JRNL_PUT, which shows JRNL_BUSY
deriving DecidableEq, Repr

/-- The background unit beside its registers (22_background_work.md). -/
structure Bkg where
  /-- Words found correctable and awaiting their rewrite, oldest first, at most 16 (R469). Reset: none. -/
  rewrite : List Nat := []
  /-- The word each memory's scrubber reads next, by memory (R468). Reset: 0. -/
  scrubAt : SMap Nat := []
  /-- Staged key, delete flag and value words (R477). Reset: 0. -/
  jKey : Nat := 0
  jDel : Bool := false
  jData : SMap Nat := []
  /-- Records put and not yet appended, oldest first (R474). Reset: none. -/
  pend : List JPut := []
  /-- Records appended and not yet durable, oldest first (R475). Reset: none. -/
  written : List JPut := []
  /-- A sealed sector is active (R474, R476). Reset: no. -/
  sealed : Bool := false
  /-- The next free slot of the active sector (R474). Reset: 1. -/
  slot : Nat := 1
  /-- The sequence the next record takes (Table BKG-2). Reset: 0. -/
  recSeq : Nat := 0
  /-- The sequence of the active sector (Table BKG-2). Reset: 0. -/
  secSeq : Nat := 0
  /-- Erase count of each sector (Table BKG-2). Reset: 0. -/
  erases : SMap Nat := []
  /-- The sector being erased, and whether its erase is suspended (R472, R474). Reset: none. -/
  erasing : Option Nat := none
  suspended : Bool := false
  /-- Event records admitted and not yet programmed, oldest first, at most 64 (R478). Reset: none. -/
  logQ : List (List Nat) := []
  /-- Chain time of each one's arrival (R478). Reset: none. -/
  logAts : List Nat := []
  /-- The whole second of chain time last admitted in, and the records admitted in it (R478). Reset: 0. -/
  logSec : Nat := 0
  logN : Nat := 0
  /-- The index a log read was started with (R479). Reset: 0. -/
  logIdx : Nat := 0
  /-- Full telemetry sets held, oldest first: set number and 512 bytes (R481). Reset: none. -/
  sets : List (Nat × List (BitVec 8)) := []
  /-- Bytes of the oldest set delivered (R482). Reset: 0. -/
  setOff : Nat := 0
  /-- The number of full sets built, which numbers the next (Table BKG-3). Reset: 0. -/
  setNum : Nat := 0
  /-- The lane the next background scan begins its search at (R484). Reset: 0. -/
  lane : Nat := 0
  /-- Lanes with a valid result since reset, one bit each (MIN_W). Reset: none. -/
  seen : Nat := 0
  /-- Chain time plus one of each lane's last margin-low event (R484). Reset: none. -/
  lastLow : SMap Nat := []
  /-- Calibrations running, one bit each for SA, SB and the bridges (R483). Reset: none. -/
  cal : Nat := 0
  /-- Chain time plus one at which each unit's calibration last fell due, and at which a scan last did (R483, R484). Reset: none. -/
  calAt : SMap Nat := []
  scanAt : Nat := 0
deriving DecidableEq, Repr
/-- An address the enumerator gives in the next cycle (07_chain_topology_and_heads.md R153). -/
structure ChainGive where
  ring : Nat
  hop : Nat
  uid0 : Nat
  uid1 : Nat
  station : Nat
deriving DecidableEq, Repr

/-- Topology, enumeration, the reserve and the sleep agreement beside the registers (07_chain_topology_and_heads.md,
05_gleshline_link.md R116 to R119). -/
structure Chain where
  /-- Staged identity words (R154). Reset: 0. -/
  uid0 : Nat := 0
  uid1 : Nat := 0
  /-- The cycle of a planned uncoupling (R164). Reset: none. -/
  detach : Option Nat := none
  /-- The mark from which the acting reserve sends no CYC (R172). Reset: none. -/
  hand : Option Nat := none
  /-- The handback has begun: the acting reserve sends no CYC (R172). Reset: no. -/
  handed : Bool := false
  /-- Ports whose link is a join link, one bit each (R163). Reset: none. -/
  join : Nat := 0
  /-- The fold lifts at the next mark (01_node_and_chain.md R11). Reset: no. -/
  lift : Bool := false
  /-- Head: the loop delay L0 measured at each port, in ps (R37, R156). Reset: 0. -/
  l0 : SMap Nat := []
  /-- Loop delay L_k measured at the last mark, in ps (02_clocks_and_chain_time.md R37). Reset: 0. -/
  loop : Nat := 0
  /-- A_k has been recorded from the first slot of a DELAY pair (R37). Reset: no. -/
  gotA : Bool := false
  /-- A member reports DLY_PEND in the last OR-read of CHAIN.STAT (R156). Reset: no. -/
  dlyWant : Bool := false
  /-- The cycle of the last DELAY pair's first slot (R156). Reset: none. -/
  dlyCyc : Option Nat := none
  /-- The second slot of the pair is due (02_clocks_and_chain_time.md R37). Reset: no. -/
  dlyB : Bool := false
  /-- Ring and station of bridge members the head has found (R158, R159). Reset: none. -/
  bridges : List (Nat × Nat) := []
  /-- Of these, the ones whose CFG, DLY_ACC and RESID have been read (R156). Reset: none. -/
  brKnown : List (Nat × Nat) := []
  /-- Accumulator start of a ring behind a bridge member, by ring, plus 2^32: the member's DLY_ACC plus its residence difference in ps (R156). Reset: none. -/
  brAcc : SMap Nat := []
  /-- The last OR-read of CHAIN.STAT showed DETACHED (R164). Reset: no. -/
  detSeen : Bool := false
  /-- It showed it for the first time, and no alarm has come since (R164). Reset: no. -/
  detNew : Bool := false
  /-- A shrink whose entries went LOST before any OR-read told of an uncoupling: ring, position, cycle (R161, R164). Reset: none. -/
  shrink : Option (Nat × Nat × Nat) := none
  /-- The address held is newly accepted and not yet recorded (R155). Reset: no. -/
  newAddr : Bool := false
  /-- The reserve has installed its epoch and sends CYC from the next mark (R169). Reset: no. -/
  taking : Bool := false
  /-- Addresses to give in the next cycle, oldest first (R153). Reset: none. -/
  give : List ChainGive := []
  /-- The reserve's station, where the enumerator found one, else 0 (R165, R167). Reset: 0. -/
  rsv : Nat := 0
  /-- The last OR-read of CHAIN.STAT showed READY (R166). Reset: no. -/
  rsvReady : Bool := false
  /-- REV_Q is due: DLY_PEND has just cleared, or the reserve has just become READY (R171). Reset: no. -/
  qDue : Bool := false
  /-- The value to write to REV_Q (R171). Reset: none. -/
  q : Option Nat := none
  /-- A new epoch is due (R166). Reset: no. -/
  due : Bool := false
  /-- An epoch is being sent (R166). Reset: no. -/
  active : Bool := false
  /-- The reserve holds no epoch of this head (R166). Reset: yes. -/
  noEpoch : Bool := true
  /-- The number of the last epoch begun (R166). Reset: 0. -/
  epoch : Nat := 0
  /-- The next chunk to send (R167). Reset: 0. -/
  chunk : Nat := 0
  /-- The cycle in which the last epoch began (R166). Reset: 0. -/
  epochCyc : Nat := 0
  /-- The station table of ring 0 has changed since the last epoch began (R166). Reset: no. -/
  changed : Bool := false
  /-- Staged chunk words 0 to 63 (R168). Reset: 0. -/
  words : SMap Nat := []
  /-- The partial epoch: number and next index (R168). Reset: none. -/
  part : Option (Nat × Nat) := none
  /-- The reserve holds a complete epoch (R168). Reset: no. -/
  complete : Bool := false
  /-- The complete epoch lies at 0x000D_2000, else at 0x000C_8000 (R168). Reset: no. -/
  sel : Bool := false
  /-- The reversed-delay value Q has been loaded since d_k was set (R171). Reset: no. -/
  qLoaded : Bool := false
  /-- Head: the propose cycle and the sleep cycle of a running agreement (R116). Reset: none. -/
  sleep : Option (Nat × Nat) := none
  /-- Head: the propose has been sent (R116). Reset: no. -/
  sleepSent : Bool := false
  /-- Head: the cycle of the last check sent (R116). Reset: none. -/
  sleepChk : Option Nat := none
  /-- Head: the agreement fails (R116). Reset: no. -/
  sleepBad : Bool := false
  /-- Head: a write of 0 to SLEEP_PROP is due in this cycle (R116). Reset: no. -/
  sleepZero : Bool := false
  /-- Member: the sleep cycle S proposed (R117). Reset: 0. -/
  sleepS : Nat := 0
  /-- The sleep cycle the last SLP carried (R119). Reset: 0. -/
  slpS : Nat := 0
  /-- SLP has been sent, or has passed tailward (R119). Reset: no. -/
  slp : Bool := false
deriving DecidableEq, Repr

/-- An entry of a frame's commit log (06_cycle_frames_and_gate.md R135). -/
inductive LogOp where
  | write (addr v : Nat)                                   -- a register write
  | img (w x : Nat) (b : List (BitVec 8))                  -- bytes for output window w, at its local offset x
  | mbxPut (m buf len : Nat)                               -- a message put
  | mbxGet (m buf : Nat)                                   -- a message removal, named by its buffer
  | propose                                                -- the sleep proposal decided at its slot (R136)
  | arm                                                    -- the arm decided at its slot
  | pour (mask target : Nat)                               -- a pour slot for this node's arm
  | withdraw                                               -- a pour slot with WD
  | delay (acc l0 : Nat)                                   -- a DELAY slot
  | defer (frame off : Nat) (hdr : List Nat) (addr n : Nat)  -- a deferred read of n words
  | events (recs : List (List Nat))                        -- chain-routed records leave
  | tunnel (w dseq : Nat) (recs : List WRec)               -- a TUNNEL slot's down records
  | telem (n off : Nat)                                    -- a chunk of a full telemetry set delivered
deriving DecidableEq, Repr

/-- A slot as this node forwarded it (Table GATE-2): OP, header byte 1, address field, TARGET, bytes 8 to 9, the payload, the result field, and
the header CRC-16 it sent. -/
structure FwdSlot where
  op : Nat
  flags : Nat
  addr : Nat
  target : Nat
  len : Nat
  payload : List (BitVec 8)
  acted : Nat
  refused : Nat
  rflags : Nat
  hcrc : Nat
deriving DecidableEq, Repr

/-- A frame as this node forwarded it (Table GATE-1): its header, its slots, the bytes behind its last whole slot, and the CRC-32 it sent. -/
structure FwdFrame where
  hdr : Nat
  slots : List FwdSlot
  rest : List (BitVec 8)
  crc : Nat
deriving DecidableEq, Repr

/-- The handling of one frame (R135, R143, R144). -/
structure FrameRun where
  /-- A slot of the frame has come. -/
  begun : Bool := false
  /-- The frame header, bytes 0 to 3 (Table GATE-1). -/
  hdr : Nat := 0
  /-- The bytes of the frame received, from its header on (R124). -/
  rx : List (BitVec 8) := []
  /-- The byte offset in the frame of the slot in hand (R134). -/
  at_ : Nat := 0
  /-- A K30.7 stands in the frame (05_gleshline_link.md R97, R99). -/
  broken : Bool := false
  /-- The frame has had its urgent insertion (05_gleshline_link.md R99). -/
  hadUrg : Bool := false
  /-- The flask of its port was fenced at some slot of it (13_flasks_and_warden.md R295). -/
  shut : Bool := false
  /-- The commit log, in slot order. -/
  log : List LogOp := []
  /-- A header CRC was wrong: nothing more of the frame is acted on (R144). -/
  stop : Bool := false
  /-- The slots as forwarded, in order. -/
  fwd : List FwdSlot := []
deriving DecidableEq, Repr

/-- A deferred read answered in the next cycle (R134): none for a read that was refused; `poison` where a word fetched held an
uncorrectable error (Table GATE-3). -/
structure Deferred where
  frame : Nat
  off : Nat
  hdr : List Nat
  cyc : Nat
  words : Option (List Nat)
  poison : Bool
deriving DecidableEq, Repr

/-- What a slot the head sent is for (07_chain_topology_and_heads.md R150 to R167, R146, 15_wide_hub_tunnel.md R334). -/
inductive SlotUse where
  | map (d : Nat)                    -- slot-map descriptor d
  | arm | pour | withdraw            -- R66
  | propose | check | cancel         -- R116
  | delayA | delayB                  -- R37
  | probe (ring hop m : Nat)         -- R152: sent while the ring counted m members
  | assign (g : ChainGive)           -- R153
  | chunk (k : Nat)                  -- R167
  | stat                             -- the OR-read of CHAIN.STAT (R156)
  | brRead (ring st k : Nat)         -- R156: 0 CHAIN.CFG, 1 CHAIN.DLY_ACC, 2 CLK.RESID of a bridge member
  | rsvRead (k : Nat)                -- R171: 0 CLK.DELAY, 1 CHAIN.DLY_ACC and FOLD_RES
  | revQ                             -- R171
  | tunnel (w : Nat)
deriving DecidableEq, Repr

/-- A slot the head sent: its use, OP, header byte 1, station or hop with ring, TARGET, payload. -/
structure SentSlot where
  use : SlotUse
  op : Nat
  flags : Nat
  addr : Nat
  target : Nat
  payload : List (BitVec 8)
deriving DecidableEq, Repr

/-- A frame the head sent and has not got back (R146). -/
structure SentFrame where
  index : Nat
  urgent : Bool
  cyc : Nat
  slots : List SentSlot
  relayed : Bool := false   -- it has come back on the tailward port and gone out of the bridge port (R158)
  start : Nat := 0          -- the chain time at which it begins on the tailward link (R104)
  late : Nat := 0           -- code-groups per lane of the urgent frame that has broken into it, with its PRE and RES (R142); 0: none has
deriving DecidableEq, Repr

/-- The gate beside its registers (06_cycle_frames_and_gate.md). -/
structure Gate where
  /-- The frame being handled (R135). Reset: none. -/
  run : FrameRun := {}
  /-- The normal frame saved at PRE (R143). Reset: none. -/
  saved : Option FrameRun := none
  /-- The urgent frame that broke into the saved one has ended (05_gleshline_link.md R99). Reset: no. -/
  urgEnd : Bool := false
  /-- The last frame forwarded (R145). Reset: none. -/
  last : Option FwdFrame := none
  /-- Deferred reads held (R134). Reset: none. -/
  held : List Deferred := []
  /-- Reads deferred in this cycle (R134). Reset: 0. -/
  defers : Nat := 0
  /-- The urgent template queued (R147). Reset: none. -/
  urg : Option Nat := none
  /-- Frames of the slot map still to be sent in this cycle: index, and the chain time at which each begins (R146). Reset: none. -/
  plan : List (Nat × Nat) := []
  /-- Frames sent in this cycle and not yet returned (R146). Reset: none. -/
  sent : List SentFrame := []
  /-- Frames of this cycle that returned bad (R146). Reset: none. -/
  bad : Nat := 0
  /-- The frames of this cycle have all returned (R146). Reset: yes. -/
  allBack : Bool := true
deriving DecidableEq, Repr

/-- A request to the management function (14_local_hub.md Tables HUB-3, HUB-4). -/
structure MgmtReq where
  op : Nat
  tag : Nat
  addr : Nat
  len : Nat
  data : List (BitVec 8)
deriving DecidableEq, Repr

/-- A response (R322, Table HUB-5). -/
structure MgmtResp where
  op : Nat
  status : Nat
  tag : Nat
  data : List (BitVec 8)
deriving DecidableEq, Repr

/-- The management function beside its registers (14_local_hub.md R321 to R325). -/
structure Mgmt where
  /-- The request executing, with the bytes read so far: a READ that waits at RUN.MGET, or IMAGE_END while the boot ROM checks (R323, R324). Reset: none. -/
  run : Option (MgmtReq × List (BitVec 8)) := none
  /-- Requests held behind it, at most two (R322). Reset: none. -/
  held : List MgmtReq := []
  /-- The response to the last request executed (R322). Reset: none. -/
  resp : Option MgmtResp := none
  /-- The length field of the response to the last WRITE: the bytes done (R323). Reset: 0. -/
  doneLen : Nat := 0
  /-- Chain time at which the last wait at a runner began, in units of 2^-32 ns, plus one (11_runners.md R249, R250). Reset: none. -/
  waitAt : Nat := 0
deriving DecidableEq, Repr

/-- Everything the block holds but its queue of waiting commands. A field's default is its value at reset. -/
structure Chip where
  /-- Register fields as the core die reads them in the normal view, all codes but RW-P; key 32 * address + lowest bit; the copies of RO-C fields (03_register_model.md R55; 01_node_and_chain.md R15). Reset: nothing listed, every field at its listed reset value. -/
  regs : SMap Nat := []
  /-- Shadows of RW-P fields and double tables, as the core die holds them (R58, R59). Reset: listed values. -/
  shadow : SMap Nat := []
  /-- Working values of RW-P fields and double tables, as the core die records them (R51, R58). Reset: listed values. -/
  work : SMap Nat := []
  /-- The field die's own shadows (R60). Reset: listed values. -/
  fShadow : SMap Nat := []
  /-- The field die's own working values, RW-E fields of its units with them (R60, R19). Reset: listed values. -/
  fWork : SMap Nat := []
  /-- Groups whose pour the field die has been sent and not yet taken (R60); 16 bits. Reset: none. -/
  fPour : Nat := 0
  /-- Groups the field die pours at its own mark of a cycle: mask and cycle (R65). Reset: none. -/
  fArm : Option (Nat × Nat) := none
  /-- Live values of the RO-C fields on the field die and in the keep domain (R15, R31). Reset: listed values. -/
  live : SMap Nat := []
  /-- The set of RO-C values captured at the last copy-clock edge and in transit to the core die (R31). Reset: none. -/
  copySet : Option (SMap Nat) := none
  /-- The captured high half of each ..._LO/..._HI pair, under the address of the _HI register (R34, R68). Reset: none, a _HI reads its listed value. -/
  hiLatch : SMap Nat := []
  /-- Global SRAM with the second copies of the image, engine code RAMs and cluster data RAMs: bytes by physical address (R16, R48, 08_process_image.md R173). Reset: nothing listed, a byte nothing has written reads 0 (DESIGN CHOICE, log entry 3). -/
  mem : SMap (BitVec 8) := []
  /-- The SPI NOR device's bytes (04_power_up_to_service.md R78). Reset: nothing listed, an erased byte reads 0xFF (PRESUMED, log entry 3). -/
  nor : SMap (BitVec 8) := []
  /-- How many free values have been drawn (the MODEL's own field, not the spec's). Reset: 0 (DESIGN CHOICE, log entry 6). -/
  freeCnt : Nat := 0
  /-- The last outcome each requester learned, by requester code: 0 Done, 1 STATE_REJECT, 2 refused access, 3 busy in test (R53, Table REGS-3). Reset: 0. -/
  outcome : SMap Nat := []
  /-- Chain time in ns, 64 bits (02_clocks_and_chain_time.md R33). Reset: 0. -/
  ct : BitVec 64 := 0
  /-- The fraction of chain time below one ns, 32 bits (R33). Reset: 0. -/
  ctFrac : BitVec 32 := 0
  /-- The field die's copy of chain time (R39). -/
  fTime : FieldTime := {}
  /-- The event unit (24_events.md). -/
  evt : Evt := {}
  /-- The seam link (01_node_and_chain.md). -/
  seam : Seam := {}
  /-- Clocks and marks (02_clocks_and_chain_time.md). -/
  clk : Clk := {}
  /-- The chain-wide pour in hand (03_register_model.md). -/
  arm : Arm := {}
  /-- Power and resets (04_power_up_to_service.md). -/
  pwr : Pwr := {}
  /-- Boot (04_power_up_to_service.md). -/
  boot : Boot := {}
  /-- The warden (13_flasks_and_warden.md). -/
  warden : Warden := {}
  /-- Stitch test and TAP (23_stitch_test_and_bist.md). -/
  test : Test := {}
  /-- The engines that differ from their reset value, by number (09_sprue_engines.md). -/
  engs : SMap Engine := []
  /-- The program loader (09_sprue_engines.md R211). -/
  loader : Loader := {}
  /-- Words of the memories whose ECC is bad, by physical word address: 1 correctable, 2 uncorrectable (R194, 22_background_work.md R468). Reset: none. -/
  ecc : SMap Nat := []
  /-- The runners that differ from their reset value (11_runners.md). -/
  runs : SMap Runner := []
  /-- The word each requester last read, by requester code. Reset: 0. -/
  lastRead : SMap Nat := []
  /-- Locks, buffers and messages (12_locks_buffers_messages.md). -/
  sync : Sync := {}
  /-- The driver outputs that differ from their reset value: SD0 to SD7 are 0 to 7, HB0 to HB3 are 8 to 11 (19_control_outputs.md). -/
  drv : SMap DrvOut := []
  /-- The scaling of CURRENT targets in force: the limit and the sum (R421). Reset: none. -/
  drvScale : Option (Nat × Nat) := none
  /-- The core die has last told the field die that the node does not serve or is not steered (R430). Reset: yes. -/
  drvHold : Bool := true
  /-- The local hub (14_local_hub.md). -/
  hub : Hub := {}
  /-- ALM causes to originate at the next idle run, oldest first (05_gleshline_link.md R103). Reset: none. -/
  alms : List Nat := []
  /-- The switched channels that differ from their reset value (17_switching_and_fusing.md): 0 to 4 VB, 5 to 8 HP, 9 TR. -/
  fuse : SMap FuseCh := []
  /-- The enable terms the core die has last sent to the field die: bits 0 to 3 and 5 to 8 the ports' power, 9 DETACHED, 10 the order to stage TR (Table FUSE-2, 04_power_up_to_service.md R89). Reset: 0. -/
  fuseReq : Nat := 0
  /-- The Gleshline ports GL0 and GL1 (05_gleshline_link.md). -/
  lnk : SMap LnkPort := []
  /-- The node folds its outbound path into its return path (01_node_and_chain.md R11, 07_chain_topology_and_heads.md R160). Reset: yes, no port has trained. -/
  folded : Bool := true
  /-- The Cuffs C0 to C4 that differ from their reset value (16_cuffs_type_c_pd.md). -/
  cuffs : SMap Cuff := []
  /-- Measurement (18_measurement.md). -/
  meas : Meas := {}
  /-- The pins (20_pins_and_muxing.md). -/
  pin : Pin := {}
  /-- The wide hub (15_wide_hub_tunnel.md). -/
  wide : Wide := {}
  /-- The CAN controllers (21_isobus_bridge.md). -/
  can : SMap Can := []
  /-- Background work (22_background_work.md). -/
  bkg : Bkg := {}
  /-- Topology and heads (07_chain_topology_and_heads.md). -/
  chain : Chain := {}
  /-- The gate (06_cycle_frames_and_gate.md). -/
  gate : Gate := {}
  /-- The management function (14_local_hub.md). -/
  mgmt : Mgmt := {}
  /-- cc counted of the present microsecond (log entry 1). Reset: 0. -/
  usCc : Nat := 0
deriving DecidableEq, Repr

end Sys2Proof.Machine
end

