-- ==== Sys2Proof/Machine/RegMap.lean ====
section
/-! DEFINITION. The register maps as tables: which offsets each block defines and which fields stand in each word
(03_register_model.md R49, R50, Table REGS-2; the register tables of every chapter). -/

namespace Sys2Proof.Machine

/-- One register of a map: `count` words from `off`, `stride` apart, each holding the same fields, a field being
its lowest bit, width, reset value and access code. -/
structure Row where
  off : Nat
  stride : Nat
  count : Nat
  fields : List (Nat × Nat × Nat × Code)
deriving DecidableEq, Repr

namespace Rows

/-- SEAM. -/
def seam : List Row :=
  [⟨0x0, 4, 1, [(0, 1, 0, .roS), (1, 1, 0, .roC), (2, 1, 0, .roC), (3, 1, 0, .roS)]⟩,
   ⟨0x4, 4, 1, [(0, 32, 0, .cnt)]⟩,
   ⟨0x8, 4, 1, [(0, 32, 0, .cnt)]⟩,
   ⟨0xc, 4, 1, [(0, 1, 0, .cmd)]⟩,
   ⟨0x10, 4, 1, [(0, 16, 176, .roK)]⟩,
   ⟨0x14, 4, 1, [(0, 32, 0, .cnt)]⟩]

/-- CLK. -/
def clk : List Row :=
  [⟨0x0, 4, 1, [(0, 2, 0, .roS), (2, 1, 0, .roS), (3, 1, 0, .roS), (4, 1, 0, .roS), (5, 1, 0, .roS)]⟩,
   ⟨0x8, 4, 1, [(0, 32, 0, .roS)]⟩,
   ⟨0xc, 4, 1, [(0, 32, 0, .roS)]⟩,
   ⟨0x10, 4, 1, [(0, 32, 0, .rwE)]⟩,
   ⟨0x14, 4, 1, [(0, 32, 0, .rwE)]⟩,
   ⟨0x18, 4, 1, [(0, 3, 1, .rwP)]⟩,
   ⟨0x1c, 4, 1, [(0, 20, 0, .rwP)]⟩,
   ⟨0x20, 4, 1, [(0, 32, 0, .roS)]⟩,
   ⟨0x24, 4, 1, [(0, 16, 0, .roS)]⟩,
   ⟨0x28, 4, 1, [(0, 24, 0, .roS)]⟩,
   ⟨0x2c, 4, 1, [(0, 32, 0, .roS)]⟩,
   ⟨0x30, 4, 1, [(0, 16, 0, .roS), (16, 16, 0, .roS)]⟩] ++
  [⟨0x34, 4, 1, [(0, 16, 32768, .roS)]⟩,
   ⟨0x38, 4, 1, [(0, 32, 0, .cnt)]⟩,
   ⟨0x3c, 4, 1, [(0, 32, 0, .cnt)]⟩,
   ⟨0x40, 4, 1, [(0, 32, 0, .cnt)]⟩]

/-- SYS. -/
def sys : List Row :=
  [⟨0x100, 4, 1, [(0, 16, 0, .cmd)]⟩,
   ⟨0x104, 4, 1, [(0, 16, 0, .cmd)]⟩,
   ⟨0x108, 4, 1, [(0, 16, 0, .roS)]⟩,
   ⟨0x10c, 4, 1, [(0, 32, 0, .roS)]⟩,
   ⟨0x110, 4, 1, [(0, 16, 0, .roS)]⟩,
   ⟨0x114, 4, 1, [(0, 1, 0, .roS)]⟩,
   ⟨0x118, 4, 1, [(0, 16, 0, .cmd), (16, 4, 0, .cmd), (20, 10, 0, .cmd)]⟩,
   ⟨0x11c, 4, 1, [(0, 3, 0, .roS), (8, 8, 0, .roS), (16, 16, 0, .roS)]⟩,
   ⟨0x120, 4, 1, [(0, 32, 0, .roS)]⟩,
   ⟨0x124, 4, 1, [(0, 32, 0, .cnt)]⟩,
   ⟨0x128, 4, 1, [(0, 32, 0, .cnt)]⟩,
   ⟨0x12c, 4, 1, [(0, 32, 0, .cnt)]⟩] ++
  [⟨0x0, 4, 1, [(0, 32, (uid % 4294967296), .roK)]⟩,
   ⟨0x4, 4, 1, [(0, 32, (uid / 4294967296), .roK)]⟩,
   ⟨0x8, 4, 1, [(0, 16, 1608, .roK), (16, 16, 176, .roK)]⟩,
   ⟨0xc, 4, 1, [(0, 2, 0, .roS), (2, 1, 0, .roS)]⟩,
   ⟨0x10, 4, 1, [(0, 4, 0, .roS)]⟩,
   ⟨0x14, 4, 1, [(0, 1, 0, .cmd), (1, 1, 0, .cmd)]⟩,
   ⟨0x18, 4, 1, [(0, 3, 0, .roS), (3, 4, 0, .roS), (7, 1, 0, .roS), (8, 1, 0, .roS), (9, 1, 0, .roS), (10, 1, 0, .roS)]⟩,
   ⟨0x1c, 4, 1, [(0, 32, 0, .roS)]⟩,
   ⟨0x20, 4, 1, [(0, 9, 0, .roS)]⟩,
   ⟨0x24, 4, 1, [(0, 1, 0, .cmd)]⟩,
   ⟨0x28, 4, 1, [(0, 9, 0, .roS)]⟩,
   ⟨0x2c, 4, 1, [(0, 1, 0, .cmd)]⟩] ++
  [⟨0x30, 4, 1, [(0, 32, 0, .cmd)]⟩,
   ⟨0x34, 4, 1, [(0, 1, 0, .cmd), (1, 1, 0, .cmd)]⟩,
   ⟨0x38, 4, 1, [(0, 1, 0, .roS), (1, 1, 0, .roS), (2, 4, 0, .roS), (6, 1, 0, .roS)]⟩,
   ⟨0x40, 4, 1, [(0, 2, 0, .cmd), (2, 1, 0, .cmd)]⟩,
   ⟨0x44, 4, 1, [(0, 2, 0, .roS)]⟩,
   ⟨0x48, 4, 1, [(0, 32, 0, .cmd)]⟩,
   ⟨0x4c, 4, 1, [(0, 32, 0, .roC)]⟩,
   ⟨0x50, 4, 1, [(0, 5, 0, .roC)]⟩,
   ⟨0x54, 4, 1, [(0, 1, 0, .roC), (1, 2, 0, .roC)]⟩]

/-- LINK. -/
def link : List Row :=
  [⟨0x0, 4, 1, [(0, 3, 0, .roS), (3, 2, 0, .roS), (5, 1, 0, .roS), (6, 1, 0, .roS), (7, 1, 1, .roS), (8, 1, 0, .roS), (9, 1, 0, .roS), (10, 1, 0, .roS), (11, 1, 0, .roS), (12, 2, 0, .roS), (14, 1, 0, .roS)]⟩,
   ⟨0x4, 4, 1, [(0, 1, 0, .cmd), (1, 1, 0, .cmd), (2, 1, 0, .cmd), (3, 2, 0, .cmd)]⟩,
   ⟨0x8, 4, 1, [(0, 1, 0, .rwE), (1, 2, 2, .rwE), (3, 3, 0, .rwE), (6, 1, 0, .rwE)]⟩,
   ⟨0xc, 4, 1, [(0, 3, 0, .roS), (3, 3, 0, .roS), (6, 6, 0, .roS), (12, 6, 0, .roS)]⟩,
   ⟨0x10, 4, 1, [(0, 32, 0, .roS)]⟩,
   ⟨0x14, 4, 1, [(0, 32, 0, .roS)]⟩,
   ⟨0x18, 4, 1, [(0, 32, 0, .cnt)]⟩,
   ⟨0x1c, 4, 1, [(0, 32, 0, .cnt)]⟩,
   ⟨0x20, 4, 1, [(0, 32, 0, .cnt)]⟩,
   ⟨0x24, 4, 1, [(0, 32, 0, .cnt)]⟩,
   ⟨0x28, 4, 1, [(0, 3, 0, .roS)]⟩,
   ⟨0x2c, 4, 1, [(0, 32, 0, .cnt)]⟩] ++
  [⟨0x30, 4, 1, [(0, 16, 0, .roS)]⟩,
   ⟨0x34, 4, 1, [(0, 32, 0, .cnt)]⟩,
   ⟨0x38, 4, 1, [(0, 1, 0, .cmd), (1, 1, 0, .cmd)]⟩,
   ⟨0x3c, 4, 1, [(0, 1, 0, .roS), (1, 1, 0, .roS), (2, 6, 0, .roS), (8, 8, 0, .roS)]⟩,
   ⟨0x40, 4, 1, [(0, 8, 0, .rwP)]⟩,
   ⟨0x44, 4, 1, [(0, 32, 0, .cnt)]⟩,
   ⟨0x48, 4, 1, [(0, 32, 0, .cnt)]⟩,
   ⟨0x4c, 4, 1, [(0, 32, 0, .cnt)]⟩,
   ⟨0x50, 4, 1, [(0, 32, 0, .cnt)]⟩]

/-- CHAIN. -/
def chain : List Row :=
  [⟨0x200, 4, 1, [(0, 32, 0, .cmd)]⟩,
   ⟨0x204, 4, 1, [(0, 2, 0, .roS), (2, 1, 0, .roS)]⟩,
   ⟨0x208, 4, 1, [(0, 1, 0, .rwP), (1, 1, 0, .rwP)]⟩,
   ⟨0x20c, 4, 1, [(0, 4, 0, .cmd)]⟩,
   ⟨0x210, 4, 1, [(0, 2, 0, .roS)]⟩,
   ⟨0x0, 4, 1, [(0, 2, 0, .roS), (2, 1, 0, .roS), (3, 1, 0, .roS), (4, 1, 0, .roS), (5, 1, 0, .roS), (6, 1, 0, .roS), (7, 1, 0, .roS), (8, 1, 0, .roS), (9, 2, 0, .roS), (11, 1, 0, .roS)]⟩,
   ⟨0x4, 4, 1, [(0, 10, 0, .roS), (10, 2, 0, .roS)]⟩,
   ⟨0x10, 4, 1, [(0, 32, (uid % 4294967296), .roK)]⟩,
   ⟨0x14, 4, 1, [(0, 32, (uid / 4294967296), .roK)]⟩,
   ⟨0x18, 4, 1, [(0, 10, 0, .roS), (10, 2, 0, .roS), (12, 1, 0, .roS)]⟩,
   ⟨0x1c, 4, 1, [(0, 10, 0, .roS), (10, 2, 0, .roS), (12, 1, 0, .roS), (13, 2, 0, .roS), (15, 1, 0, .roS), (16, 1, 0, .roS)]⟩,
   ⟨0x20, 4, 1, [(0, 32, 0, .cmd)]⟩] ++
  [⟨0x24, 4, 1, [(0, 32, 0, .cmd)]⟩,
   ⟨0x28, 4, 1, [(0, 10, 0, .cmd), (10, 2, 0, .cmd)]⟩,
   ⟨0x2c, 4, 1, [(0, 1, 0, .cmd)]⟩,
   ⟨0x30, 4, 1, [(0, 1, 1, .rwP), (1, 1, 1, .rwP), (2, 1, 1, .rwP), (3, 1, 1, .rwP), (4, 4, 4, .rwP), (8, 1, 0, .rwP), (9, 2, 0, .rwP)]⟩,
   ⟨0x34, 4, 1, [(0, 16, 1000, .rwP)]⟩,
   ⟨0x38, 4, 1, [(0, 12, 0, .roS)]⟩,
   ⟨0x40, 4, 4, [(0, 10, 0, .roS), (10, 1, 0, .roS)]⟩,
   ⟨0x50, 4, 1, [(0, 32, 0, .cmd)]⟩,
   ⟨0x54, 4, 1, [(0, 4, 0, .cmd)]⟩,
   ⟨0x58, 4, 1, [(0, 32, 0, .roS)]⟩,
   ⟨0x5c, 4, 1, [(0, 32, 0, .roS)]⟩,
   ⟨0x60, 4, 1, [(0, 16, 0, .roS), (16, 16, 0, .roS)]⟩] ++
  [⟨0x64, 4, 1, [(0, 32, 0, .roS)]⟩,
   ⟨0x68, 4, 1, [(0, 32, 0, .roS)]⟩,
   ⟨0x6c, 4, 1, [(0, 16, 0, .roS)]⟩,
   ⟨0x70, 4, 1, [(0, 32, 0, .cmd)]⟩,
   ⟨0x74, 4, 1, [(0, 32, 0, .roS)]⟩,
   ⟨0x78, 4, 1, [(0, 32, 0, .roS)]⟩,
   ⟨0x80, 4, 1, [(0, 32, 0, .cnt)]⟩,
   ⟨0x84, 4, 1, [(0, 32, 0, .cnt)]⟩,
   ⟨0x88, 4, 1, [(0, 32, 0, .cnt)]⟩,
   ⟨0x8c, 4, 1, [(0, 32, 0, .cnt)]⟩,
   ⟨0x90, 4, 1, [(0, 32, 0, .cnt)]⟩,
   ⟨0x94, 4, 1, [(0, 32, 0, .cnt)]⟩] ++
  [⟨0x400, 4, 64, [(0, 32, 0, .cmd)]⟩]

/-- GATE. -/
def gate : List Row :=
  [⟨0x0, 4, 1, [(0, 1, 0, .roS), (1, 1, 0, .roS), (2, 1, 0, .roS), (3, 1, 0, .roS)]⟩,
   ⟨0x4, 4, 1, [(0, 32, 0, .roS)]⟩,
   ⟨0x8, 4, 1, [(0, 16, 0, .roS)]⟩,
   ⟨0xc, 4, 1, [(0, 4, 0, .cmd)]⟩,
   ⟨0x10, 4, 1, [(0, 32, 0, .cnt)]⟩,
   ⟨0x14, 4, 1, [(0, 32, 0, .cnt)]⟩,
   ⟨0x18, 4, 1, [(0, 32, 0, .cnt)]⟩,
   ⟨0x1c, 4, 1, [(0, 32, 0, .cnt)]⟩,
   ⟨0x20, 4, 1, [(0, 32, 0, .cnt)]⟩,
   ⟨0x24, 4, 1, [(0, 32, 0, .cnt)]⟩,
   ⟨0x28, 4, 1, [(0, 32, 0, .cnt)]⟩,
   ⟨0x2c, 4, 1, [(0, 32, 0, .cnt)]⟩] ++
  [⟨0x30, 4, 1, [(0, 32, 0, .cnt)]⟩,
   ⟨0x34, 4, 1, [(0, 32, 0, .cnt)]⟩,
   ⟨0x38, 4, 1, [(0, 32, 0, .cnt)]⟩,
   ⟨0x3c, 4, 1, [(0, 32, 0, .cnt)]⟩,
   ⟨0x40, 4, 1, [(0, 32, 0, .cnt)]⟩,
   ⟨0x80, 4, 16, [(0, 7, 0, .rwP), (7, 1, 0, .rwP)]⟩,
   ⟨0x100, 4, 1, [(0, 1, 0, .rwP)]⟩,
   ⟨0x1000, 16, 128, [(0, 32, 0, .rwP)]⟩,
   ⟨0x1004, 16, 128, [(0, 14, 0, .rwP), (14, 1, 0, .rwP), (15, 1, 0, .rwP)]⟩,
   ⟨0x1008, 16, 128, [(0, 13, 0, .rwP), (13, 1, 0, .rwP), (14, 6, 0, .rwP)]⟩,
   ⟨0x100c, 16, 128, []⟩,
   ⟨0x4000, 16, 1024, [(0, 32, 0, .rwP)]⟩] ++
  [⟨0x4004, 16, 1024, [(0, 32, 0, .rwP)]⟩,
   ⟨0x4008, 16, 1024, [(0, 12, 0, .rwP), (12, 1, 0, .rwP)]⟩,
   ⟨0x400c, 16, 1024, [(0, 20, 0, .rwP)]⟩,
   ⟨0x200, 4, 4, [(0, 32, 0, .roS)]⟩,
   ⟨0x210, 4, 4, [(0, 32, 0, .roS)]⟩,
   ⟨0x220, 4, 4, [(0, 32, 0, .roS)]⟩,
   ⟨0x230, 4, 1, [(0, 1, 0, .roS), (1, 1, 0, .roS)]⟩,
   ⟨0x234, 4, 1, [(0, 32, 0, .cnt)]⟩,
   ⟨0x238, 4, 1, [(0, 32, 0, .cnt)]⟩,
   ⟨0x23c, 4, 1, [(0, 32, 0, .cnt)]⟩,
   ⟨0x240, 4, 1, [(0, 32, 0, .cnt)]⟩]

/-- ENG. -/
def eng : List Row :=
  [⟨0x0, 4, 1, [(0, 3, 0, .roS), (3, 4, 0, .roS), (7, 1, 0, .roS), (8, 1, 0, .roS), (9, 1, 0, .roS), (10, 1, 0, .roS)]⟩,
   ⟨0x4, 4, 1, [(0, 1, 0, .cmd), (1, 1, 0, .cmd), (2, 1, 0, .cmd), (3, 1, 0, .cmd), (4, 1, 0, .cmd), (5, 1, 0, .cmd), (6, 1, 0, .cmd)]⟩,
   ⟨0x8, 4, 1, [(0, 11, 0, .rwE)]⟩,
   ⟨0xc, 4, 1, [(0, 5, 0, .rwP), (5, 1, 0, .rwP), (6, 1, 0, .rwP)]⟩,
   ⟨0x10, 4, 1, [(0, 16, 0, .rwP)]⟩,
   ⟨0x14, 4, 1, [(0, 16, 0, .roS)]⟩,
   ⟨0x18, 4, 1, [(0, 4, 0, .roS), (4, 11, 0, .roS)]⟩,
   ⟨0x1c, 4, 1, [(0, 32, 0, .roS)]⟩,
   ⟨0x20, 4, 1, [(0, 2, 0, .roS)]⟩,
   ⟨0x24, 4, 1, [(0, 32, 0, .cnt)]⟩,
   ⟨0x28, 4, 1, [(0, 32, 0, .cnt)]⟩,
   ⟨0x2c, 4, 1, [(0, 32, 0, .cnt)]⟩] ++
  [⟨0x30, 4, 1, [(0, 32, 0, .cnt)]⟩,
   ⟨0x34, 4, 1, [(0, 32, 0, .cnt)]⟩,
   ⟨0x38, 4, 1, [(0, 32, 0, .cnt)]⟩,
   ⟨0x3c, 4, 1, [(0, 32, 0, .cnt)]⟩,
   ⟨0x40, 4, 1, [(0, 32, 0, .cnt)]⟩,
   ⟨0x44, 4, 1, [(0, 32, 0, .cnt)]⟩,
   ⟨0x100, 4, 16, [(0, 32, 0, .roS)]⟩,
   ⟨0x140, 4, 1, [(0, 5, 0, .roS)]⟩,
   ⟨0x144, 4, 1, [(0, 32, 0, .roS)]⟩,
   ⟨0x148, 4, 1, [(0, 32, 0, .roS)]⟩]

/-- ENG block-wide. -/
def engWide : List Row :=
  [⟨0x8000, 4, 1, [(0, 32, 0, .cmd)]⟩,
   ⟨0x8004, 4, 1, [(0, 32, 0, .cmd)]⟩,
   ⟨0x8008, 4, 1, [(0, 20, 0, .cmd)]⟩,
   ⟨0x800c, 4, 1, [(0, 5, 0, .cmd), (5, 11, 0, .cmd), (16, 12, 0, .cmd)]⟩,
   ⟨0x8010, 4, 1, [(0, 1, 0, .roS), (1, 2, 0, .roS), (3, 5, 0, .roS), (8, 12, 0, .roS)]⟩,
   ⟨0x8014, 4, 1, [(0, 32, 0, .cnt)]⟩,
   ⟨0x9000, 8, 256, [(0, 16, 0, .rwP), (16, 16, 0, .rwP)]⟩,
   ⟨0x9004, 8, 256, [(0, 5, 0, .rwP), (5, 1, 0, .rwP), (6, 1, 0, .rwP)]⟩]

/-- RUN. -/
def run : List Row :=
  [⟨0x0, 4, 1, [(0, 15, 0, .rwE), (16, 11, 16, .rwE), (27, 1, 0, .rwE)]⟩,
   ⟨0x4, 4, 1, [(0, 6, 0, .rwP), (6, 1, 0, .rwP), (8, 6, 0, .rwP), (14, 1, 0, .rwP)]⟩,
   ⟨0x8, 4, 1, [(0, 1, 0, .cmd), (1, 1, 0, .cmd)]⟩,
   ⟨0xc, 4, 1, [(0, 1, 0, .roS), (1, 1, 0, .roS), (2, 1, 0, .roS), (3, 1, 0, .roS), (4, 1, 0, .roS), (5, 1, 0, .roS), (6, 1, 0, .roS), (8, 6, 0, .roS)]⟩,
   ⟨0x10, 4, 1, [(0, 12, 0, .roS), (16, 12, 0, .roS)]⟩,
   ⟨0x14, 4, 1, [(0, 32, 0, .roS)]⟩,
   ⟨0x18, 4, 1, [(0, 2, 0, .roS)]⟩,
   ⟨0x1c, 4, 1, [(0, 32, 0, .cmd)]⟩,
   ⟨0x20, 4, 1, [(0, 32, 0, .cmd)]⟩,
   ⟨0x24, 4, 1, [(0, 1, 0, .cmd)]⟩,
   ⟨0x28, 4, 1, [(0, 32, 0, .cnt)]⟩,
   ⟨0x2c, 4, 1, [(0, 32, 0, .cnt)]⟩] ++
  [⟨0x30, 4, 1, [(0, 32, 0, .cnt)]⟩,
   ⟨0x34, 4, 1, [(0, 32, 0, .cnt)]⟩,
   ⟨0x38, 4, 1, [(0, 32, 0, .cnt)]⟩,
   ⟨0x3c, 4, 1, [(0, 32, 0, .cnt)]⟩]

/-- RUN block-wide. -/
def runWide : List Row :=
  [⟨0x8000, 4, 1, [(0, 16, 0, .roS)]⟩,
   ⟨0x8010, 4, 4, [(0, 32, 0, .roS)]⟩]

/-- SYNC. -/
def sync : List Row :=
  [⟨0x0, 4, 1, [(0, 12, 2048, .roS), (12, 1, 0, .roS)]⟩,
   ⟨0x4, 4, 1, [(0, 7, 16, .rwP), (8, 11, 0, .rwP)]⟩,
   ⟨0x8, 4, 1, [(0, 32, 0, .roS)]⟩,
   ⟨0xc, 4, 1, [(0, 11, 0, .cmd)]⟩,
   ⟨0x10, 4, 1, [(0, 11, 0, .cmd), (16, 6, 0, .cmd)]⟩,
   ⟨0x14, 4, 1, [(0, 8, 0, .cmd), (8, 2, 0, .cmd)]⟩,
   ⟨0x18, 4, 1, [(0, 2, 3, .roS)]⟩,
   ⟨0x20, 4, 1, [(0, 11, 0, .cmd), (16, 8, 0, .cmd), (24, 6, 0, .cmd)]⟩,
   ⟨0x24, 4, 1, [(0, 6, 0, .cmd)]⟩,
   ⟨0x28, 4, 1, [(0, 32, 0, .roS)]⟩,
   ⟨0x40, 4, 1, [(0, 32, 0, .cnt)]⟩,
   ⟨0x44, 4, 1, [(0, 32, 0, .cnt)]⟩] ++
  [⟨0x48, 4, 1, [(0, 32, 0, .cnt)]⟩,
   ⟨0x4c, 4, 1, [(0, 32, 0, .cnt)]⟩,
   ⟨0x50, 4, 1, [(0, 32, 0, .cnt)]⟩,
   ⟨0x54, 4, 1, [(0, 32, 0, .cnt)]⟩,
   ⟨0x58, 4, 1, [(0, 32, 0, .cnt)]⟩,
   ⟨0x5c, 4, 1, [(0, 32, 0, .cnt)]⟩,
   ⟨0x60, 4, 1, [(0, 32, 0, .cnt)]⟩,
   ⟨0x64, 4, 1, [(0, 32, 0, .cnt)]⟩,
   ⟨0x100, 4, 256, [(0, 6, 63, .roS), (6, 1, 0, .roS), (7, 6, 0, .roS)]⟩,
   ⟨0x500, 4, 8, [(0, 32, 0, .rwP)]⟩,
   ⟨0x800, 4, 2048, [(0, 6, 63, .roS)]⟩,
   ⟨0x3000, 16, 64, [(0, 2, 0, .rwP), (2, 8, 128, .rwP), (10, 6, 0, .rwP), (16, 1, 0, .rwP), (17, 6, 0, .rwP), (23, 1, 0, .rwP)]⟩] ++
  [⟨0x3004, 16, 64, [(0, 8, 0, .roS), (8, 8, 0, .roS), (16, 6, 0, .roS)]⟩,
   ⟨0x3008, 16, 64, [(0, 1, 0, .cmd)]⟩]

/-- FLASK. -/
def flask : List Row :=
  [⟨0x0, 4, 1, [(0, 32, 0, .roS)]⟩,
   ⟨0x4, 4, 1, [(0, 32, 0, .roS)]⟩,
   ⟨0x8, 4, 1, [(0, 16, 0, .roS)]⟩,
   ⟨0x10, 4, 1, [(0, 6, 0, .cmd)]⟩,
   ⟨0x14, 4, 1, [(0, 6, 0, .cmd)]⟩,
   ⟨0x18, 4, 1, [(0, 6, 0, .cmd)]⟩,
   ⟨0x20, 4, 1, [(0, 5, 0, .roS)]⟩,
   ⟨0x24, 4, 1, [(0, 32, 0, .cnt)]⟩,
   ⟨0x28, 4, 1, [(0, 32, 0, .cnt)]⟩,
   ⟨0x2c, 4, 1, [(0, 32, 0, .cnt)]⟩,
   ⟨0x30, 4, 1, [(0, 32, 0, .cnt)]⟩,
   ⟨0x34, 4, 1, [(0, 32, 0, .cnt)]⟩] ++
  [⟨0x100, 4, 64, [(0, 2, 0, .roS), (2, 4, 0, .roS), (6, 6, 0, .roS), (12, 1, 0, .roS), (13, 1, 0, .roS)]⟩,
   ⟨0x200, 4, 64, [(0, 5, 0, .rwP), (5, 1, 0, .rwP), (6, 1, 0, .rwP), (7, 8, 10, .rwP), (15, 3, 3, .rwP), (18, 6, 0, .rwP), (24, 4, 10, .rwP), (28, 1, 0, .rwP)]⟩,
   ⟨0x300, 4, 64, [(0, 32, 0, .cnt)]⟩,
   ⟨0x800, 16, 32, [(0, 6, 0, .roS), (6, 4, 0, .roS), (10, 6, 0, .roS), (16, 16, 0, .roS)]⟩,
   ⟨0x804, 16, 32, [(0, 32, 0, .roS)]⟩,
   ⟨0x808, 16, 32, [(0, 32, 0, .roS)]⟩,
   ⟨0x80c, 16, 32, [(0, 32, 0, .roS)]⟩,
   ⟨0x1000, 16, 64, [(0, 32, 0, .rwP)]⟩,
   ⟨0x1004, 16, 64, [(0, 32, 0, .rwP)]⟩,
   ⟨0x1008, 16, 64, [(0, 16, 0, .rwP)]⟩]

/-- HUB. -/
def hub : List Row :=
  [⟨0x0, 4, 1, [(0, 1, 1, .roS), (1, 3, 0, .roS), (4, 1, 0, .roS), (5, 1, 0, .roS), (6, 1, 0, .roS)]⟩,
   ⟨0x4, 4, 1, [(0, 1, 0, .cmd), (1, 1, 0, .cmd), (2, 1, 0, .cmd)]⟩,
   ⟨0xc, 4, 1, [(0, 11, 0, .roS), (11, 3, 0, .roS), (14, 1, 0, .roS)]⟩,
   ⟨0x10, 4, 1, [(0, 32, 0, .roS)]⟩,
   ⟨0x14, 4, 1, [(0, 32, 0, .roS)]⟩,
   ⟨0x40, 4, 9, [(0, 4, 8, .rwE), (4, 2, 0, .rwE), (6, 2, 1, .rwE)]⟩,
   ⟨0x104, 4, 9, [(0, 16, 0, .roS), (16, 16, 0, .roS)]⟩,
   ⟨0x144, 4, 8, [(0, 1, 0, .rwP), (1, 1, 0, .rwP)]⟩,
   ⟨0x184, 4, 9, [(0, 32, 0, .cnt)]⟩,
   ⟨0x1c4, 4, 8, [(0, 32, 0, .cnt)]⟩,
   ⟨0x204, 4, 8, [(0, 32, 0, .cnt)]⟩,
   ⟨0x240, 4, 1, [(0, 32, 0, .cnt)]⟩] ++
  [⟨0x244, 4, 1, [(0, 32, 0, .cnt)]⟩,
   ⟨0x248, 4, 1, [(0, 32, 0, .cnt)]⟩,
   ⟨0x24c, 4, 1, [(0, 32, 0, .cnt)]⟩,
   ⟨0x250, 4, 1, [(0, 32, 0, .cnt)]⟩,
   ⟨0x254, 4, 1, [(0, 32, 0, .cnt)]⟩]

/-- WIDE. -/
def wide : List Row :=
  [⟨0x0, 4, 1, [(0, 1, 0, .roS), (1, 1, 0, .roS), (2, 1, 0, .roS), (4, 8, 0, .roS)]⟩,
   ⟨0x4, 4, 1, [(0, 1, 0, .cmd), (1, 1, 0, .cmd)]⟩,
   ⟨0x8, 4, 1, [(0, 8, 2, .rwE), (8, 1, 0, .rwE)]⟩,
   ⟨0xc, 4, 1, [(0, 16, 0, .rwP), (16, 13, 4096, .rwP)]⟩,
   ⟨0x10, 4, 1, [(0, 32, 0, .cnt)]⟩,
   ⟨0x14, 4, 1, [(0, 32, 0, .cnt)]⟩,
   ⟨0x18, 4, 1, [(0, 32, 0, .cnt)]⟩,
   ⟨0x1c, 4, 1, [(0, 32, 0, .cnt)]⟩,
   ⟨0x20, 4, 1, [(0, 32, 0, .cnt)]⟩,
   ⟨0x24, 4, 1, [(0, 32, 0, .cnt)]⟩,
   ⟨0x28, 4, 1, [(0, 32, 0, .cnt)]⟩,
   ⟨0x2c, 4, 1, [(0, 32, 0, .cnt)]⟩] ++
  [⟨0x30, 4, 1, [(0, 32, 0, .cnt)]⟩,
   ⟨0x34, 4, 1, [(0, 32, 0, .cnt)]⟩,
   ⟨0x1010, 8, 254, [(0, 10, 0, .rwP), (10, 2, 0, .rwP), (12, 4, 0, .rwP), (16, 1, 0, .rwP)]⟩,
   ⟨0x1014, 8, 254, [(0, 16, 0, .rwP), (16, 8, 2, .roK)]⟩,
   ⟨0x2000, 8, 256, [(0, 8, 0, .rwP), (8, 7, 0, .rwP), (15, 4, 0, .rwP), (19, 1, 0, .rwP), (20, 1, 0, .rwP), (21, 2, 0, .rwP), (23, 1, 0, .rwP), (24, 3, 0, .rwP)]⟩,
   ⟨0x2004, 8, 256, [(0, 10, 0, .rwP)]⟩,
   ⟨0x3000, 4, 256, [(0, 16, 0, .roS), (16, 16, 0, .roS)]⟩]

/-- CUFF. -/
def cuff (c : Nat) : List Row :=
  [⟨0x0, 4, 1, [(0, 4, 1, .roC), (4, 1, 0, .roC), (5, 1, 0, .roC), (6, 1, 0, .roC), (7, 1, 0, .roC), (8, 1, 0, .roC), (9, 1, 0, .roC), (10, 1, 0, .roC), (11, 3, 0, .roC), (14, 1, 1, .roS), (15, 1, 0, .roC), (16, 1, 0, .roC), (17, 1, 0, .roC), (18, 1, 0, .roC)]⟩,
   ⟨0x4, 4, 1, [(0, 1, 0, .cmd), (1, 1, 0, .cmd)]⟩,
   ⟨0x8, 4, 1, [(0, 2, (if c < 4 then 2 else 0), .rwE), (2, 2, (if c < 4 then 1 else 0), .rwE)]⟩,
   ⟨0xc, 4, 1, [(0, 2, 1, .rwE)]⟩,
   ⟨0x10, 4, 1, [(0, 1, 0, .rwP), (1, 5, 31, .rwP), (6, 8, 50, .rwP)]⟩,
   ⟨0x14, 4, 1, [(0, 24, 0, .roC)]⟩,
   ⟨0x18, 4, 1, [(0, 11, 0, .roC), (16, 16, 0, .roC)]⟩,
   ⟨0x20, 4, 1, [(0, 32, 0, .cnt)]⟩,
   ⟨0x24, 4, 1, [(0, 32, 0, .cnt)]⟩,
   ⟨0x28, 4, 1, [(0, 32, 0, .cnt)]⟩,
   ⟨0x2c, 4, 1, [(0, 32, 0, .cnt)]⟩,
   ⟨0x30, 4, 1, [(0, 32, 0, .cnt)]⟩] ++
  [⟨0x34, 4, 1, [(0, 32, 0, .cnt)]⟩,
   ⟨0x38, 4, 1, [(0, 32, 0, .cnt)]⟩,
   ⟨0x3c, 4, 1, [(0, 32, 0, .cnt)]⟩,
   ⟨0x40, 4, 1, [(0, 4, 0, .roS)]⟩,
   ⟨0x44, 4, 1, [(0, 32, 0, .cnt)]⟩,
   ⟨0x48, 4, 1, [(0, 32, 0, .cnt)]⟩]

/-- CUFF block-wide. -/
def cuffWide : List Row :=
  [⟨0x8000, 4, 1, [(0, 8, 85, .rwP)]⟩,
   ⟨0x8004, 4, 1, [(0, 1, 0, .roC)]⟩]

/-- FUSE. -/
def fuse (ch : Nat) : List Row :=
  [⟨0x0, 4, 1, [(0, 3, 0, .roC), (3, 3, 0, .roC), (6, 1, 0, .roC), (7, 1, 0, .roC), (8, 1, 0, .roC), (9, 1, 1, .roS)]⟩,
   ⟨0x4, 4, 1, [(0, 1, 0, .cmd), (1, 1, 0, .cmd), (2, 1, 0, .cmd)]⟩,
   ⟨0x8, 4, 1, [(0, 10, (fuseLimitReset ch), .rwE), (10, 10, (if ch = 9 then 100 else 10), .rwE), (20, 8, 49, .rwE), (28, 1, 0, .rwE), (29, 2, 1, .rwE)]⟩,
   ⟨0xc, 4, 1, [(0, 1, 1, .rwP), (1, 8, 0, .rwP)]⟩,
   ⟨0x10, 4, 1, [(0, 16, 0, .roC), (16, 16, 0, .roC)]⟩,
   ⟨0x14, 4, 1, [(0, 16, 0, .roC)]⟩,
   ⟨0x18, 4, 1, [(0, 10, (fuseLimitReset ch), .roC)]⟩,
   ⟨0x1c, 4, 1, [(0, 32, 0, .cnt)]⟩,
   ⟨0x20, 4, 1, [(0, 32, 0, .cnt)]⟩,
   ⟨0x24, 4, 1, [(0, 32, 0, .cnt)]⟩,
   ⟨0x28, 4, 1, [(0, 32, 0, .cnt)]⟩]

/-- FUSE block-wide. -/
def fuseWide : List Row :=
  [⟨0x400, 4, 1, [(0, 10, 0, .roC)]⟩,
   ⟨0x404, 4, 1, [(0, 32, 0, .cnt)]⟩,
   ⟨0x408, 4, 1, [(0, 32, 0, .cnt)]⟩]

/-- MEAS. -/
def meas : List Row :=
  [⟨0x0, 4, 1, [(0, 1, 0, .roS), (1, 1, 0, .roS), (2, 1, 0, .roS), (3, 1, 0, .roS), (4, 2, 0, .roC)]⟩,
   ⟨0x4, 4, 1, [(0, 8, 0, .cmd)]⟩,
   ⟨0x8, 4, 1, [(0, 24, 0, .roS)]⟩,
   ⟨0xc, 4, 1, [(0, 24, 0, .cmd)]⟩,
   ⟨0x10, 4, 1, [(0, 24, 0, .cmd)]⟩,
   ⟨0x40, 4, 24, [(0, 2, 0, .rwE)]⟩,
   ⟨0x100, 4, 24, [(0, 32, 0, .roC)]⟩,
   ⟨0x180, 4, 16, [(0, 32, 0, .roC)]⟩,
   ⟨0x200, 64, 2, [(0, 20, 0, .rwP)]⟩,
   ⟨0x204, 64, 2, [(0, 20, 0, .rwP), (20, 5, 0, .rwP), (25, 7, 1, .rwP)]⟩,
   ⟨0x210, 64, 2, [(0, 32, 0, .cnt)]⟩,
   ⟨0x300, 16, 4, [(0, 2, 0, .rwE), (2, 1, 0, .rwE), (3, 3, 2, .rwE)]⟩] ++
  [⟨0x304, 16, 4, [(0, 32, 0, .rwP)]⟩,
   ⟨0x308, 16, 4, [(0, 32, 0, .roC)]⟩,
   ⟨0x400, 32, 12, [(0, 2, 0, .rwE), (2, 2, 0, .rwE), (4, 10, 10, .rwE)]⟩,
   ⟨0x404, 32, 12, [(0, 32, 0, .rwP)]⟩,
   ⟨0x408, 32, 12, [(0, 32, 0, .roC)]⟩,
   ⟨0x40c, 32, 12, [(0, 32, 0, .roC)]⟩,
   ⟨0x410, 32, 12, [(0, 32, 0, .roC)]⟩,
   ⟨0x414, 32, 12, [(0, 32, 0, .cnt)]⟩,
   ⟨0x600, 16, 4, [(0, 32, 0, .cnt)]⟩,
   ⟨0x604, 16, 4, [(0, 32, 0, .cnt)]⟩,
   ⟨0x608, 16, 4, [(0, 32, 0, .cnt)]⟩,
   ⟨0x640, 4, 1, [(0, 32, 0, .cnt)]⟩] ++
  [⟨0x644, 4, 1, [(0, 32, 0, .cnt)]⟩,
   ⟨0x648, 4, 1, [(0, 32, 0, .cnt)]⟩,
   ⟨0x1000, 8, 128, [(0, 6, 0, .rwP), (6, 3, 0, .rwP)]⟩,
   ⟨0x1004, 8, 128, [(0, 24, 0, .rwP)]⟩]

/-- DRV. -/
def drv (o : Nat) : List Row :=
  [⟨0x0, 4, 1, [(0, 3, 1, .roC), (3, 1, 0, .roC), (4, 1, 0, .roC), (5, 3, 0, .roC), (8, 1, 1, .roS)]⟩,
   ⟨0x4, 4, 1, [(0, 1, 0, .cmd), (1, 1, 0, .cmd), (2, 1, 0, .cmd)]⟩,
   ⟨0x8, 4, 1, [(0, 11, (if o < 8 then 20 else 200), .rwE), (11, 12, 3000, .rwE), (23, 1, 1, .rwE), (24, 8, 20, .rwE)]⟩,
   ⟨0xc, 4, 1, [(0, 10, 500, .rwE), (10, 10, 750, .rwE), (20, 1, 0, .rwE)]⟩,
   ⟨0x10, 4, 1, [(0, 2, 0, .rwP), (2, 1, 0, .rwP), (3, 1, 0, .rwP), (4, 1, 1, .rwP), (5, 8, 4, .rwP), (13, 2, 0, .rwP), (15, 14, 0, .rwP)]⟩,
   ⟨0x14, 4, 1, [(0, 9, 100, .rwP), (9, 8, 0, .rwP)]⟩,
   ⟨0x18, 4, 1, [(0, 12, 0, .rwP)]⟩,
   ⟨0x1c, 4, 1, [(0, 16, 0, .roC)]⟩,
   ⟨0x20, 4, 1, [(0, 16, 0, .roC)]⟩,
   ⟨0x24, 4, 1, [(0, 8, 0, .roC)]⟩,
   ⟨0x28, 4, 1, [(0, 32, 0, .cnt)]⟩,
   ⟨0x2c, 4, 1, [(0, 32, 0, .cnt)]⟩] ++
  [⟨0x30, 4, 1, [(0, 32, 0, .cnt)]⟩,
   ⟨0x34, 4, 1, [(0, 32, 0, .cnt)]⟩,
   ⟨0x38, 4, 1, [(0, 32, 0, .cnt)]⟩]

/-- DRV block-wide. -/
def drvWide : List Row :=
  [⟨0x400, 4, 1, [(0, 13, 8000, .rwP)]⟩,
   ⟨0x404, 4, 1, [(0, 32, 0, .cnt)]⟩,
   ⟨0x408, 4, 1, [(0, 32, 0, .cnt)]⟩,
   ⟨0x40c, 4, 1, [(0, 32, 0, .cnt)]⟩]

/-- PIN. -/
def pin : List Row :=
  [⟨0x0, 4, 1, [(0, 1, 0, .roS)]⟩,
   ⟨0x4, 4, 1, [(0, 1, 0, .cmd)]⟩,
   ⟨0x10, 32, 4, [(0, 16, 0, .roS)]⟩,
   ⟨0x14, 32, 4, [(0, 16, 0, .cmd)]⟩,
   ⟨0x18, 32, 4, [(0, 16, 0, .cmd)]⟩,
   ⟨0x1c, 32, 4, [(0, 16, 0, .cmd)]⟩,
   ⟨0x20, 32, 4, [(0, 16, 0, .cmd), (16, 16, 0, .cmd)]⟩,
   ⟨0x24, 32, 4, [(0, 16, 0, .roS)]⟩,
   ⟨0x28, 32, 4, [(0, 16, 0, .roS)]⟩,
   ⟨0x100, 4, 64, [(0, 4, 0, .rwP), (4, 1, 0, .rwP), (5, 2, 0, .rwP), (7, 1, 0, .rwP), (8, 1, 0, .rwP), (9, 1, 0, .rwP), (10, 1, 1, .rwP), (11, 1, 0, .rwP), (12, 4, 0, .rwP), (16, 2, 0, .rwP)]⟩,
   ⟨0x200, 4, 16, [(0, 2, 1, .rwP), (2, 2, 0, .rwP), (4, 8, 0, .rwP), (12, 1, 0, .rwP), (13, 2, 0, .rwP)]⟩,
   ⟨0x240, 4, 1, [(0, 16, 0, .roC)]⟩] ++
  [⟨0x244, 4, 1, [(0, 16, 0, .roC)]⟩,
   ⟨0x250, 4, 12, [(0, 1, 0, .rwP)]⟩,
   ⟨0x280, 4, 8, [(0, 32, 0, .roS)]⟩,
   ⟨0x2a0, 4, 8, [(0, 32, 0, .cnt)]⟩,
   ⟨0x2c0, 4, 1, [(0, 32, 0, .cnt)]⟩]

/-- CAN. -/
def can : List Row :=
  [⟨0x0, 4, 1, [(0, 1, 0, .roS), (1, 2, 3, .roS), (8, 8, 0, .roS), (16, 8, 0, .roS)]⟩,
   ⟨0x4, 4, 1, [(0, 1, 0, .cmd), (1, 1, 0, .cmd), (2, 1, 0, .cmd)]⟩,
   ⟨0x8, 4, 1, [(0, 8, 20, .rwE), (8, 6, 12, .rwE), (14, 5, 3, .rwE), (19, 4, 3, .rwE), (23, 2, 0, .rwE), (25, 1, 1, .rwE)]⟩,
   ⟨0x10, 4, 1, [(0, 32, 0, .cnt)]⟩,
   ⟨0x14, 4, 1, [(0, 32, 0, .cnt)]⟩,
   ⟨0x18, 4, 1, [(0, 32, 0, .cnt)]⟩,
   ⟨0x1c, 4, 1, [(0, 32, 0, .cnt)]⟩,
   ⟨0x20, 4, 1, [(0, 32, 0, .cnt)]⟩,
   ⟨0x24, 4, 1, [(0, 32, 0, .cnt)]⟩,
   ⟨0x28, 4, 1, [(0, 32, 0, .cnt)]⟩,
   ⟨0x2c, 4, 1, [(0, 32, 0, .cnt)]⟩,
   ⟨0x30, 4, 1, [(0, 32, 0, .cnt)]⟩] ++
  [⟨0x34, 4, 1, [(0, 32, 0, .cnt)]⟩,
   ⟨0x38, 4, 1, [(0, 32, 0, .cnt)]⟩,
   ⟨0x40, 4, 8, [(0, 2, 0, .roS)]⟩,
   ⟨0x1000, 16, 64, [(0, 31, 0, .rwP)]⟩,
   ⟨0x1004, 16, 64, [(0, 31, 0, .rwP)]⟩,
   ⟨0x1008, 16, 64, [(0, 1, 0, .rwP), (1, 1, 0, .rwP), (2, 7, 0, .rwP), (9, 1, 0, .rwP), (10, 1, 0, .rwP)]⟩,
   ⟨0x100c, 16, 64, [(0, 20, 0, .rwP)]⟩,
   ⟨0x2000, 16, 8, [(0, 20, 0, .rwP)]⟩,
   ⟨0x2004, 16, 8, [(0, 1, 0, .rwP), (1, 7, 0, .rwP)]⟩,
   ⟨0x2008, 16, 8, [(0, 3, 0, .roS), (3, 8, 0, .roS), (11, 8, 0, .roS), (19, 8, 0, .roS)]⟩,
   ⟨0x200c, 16, 8, [(0, 18, 0, .roS)]⟩]

/-- BKG. -/
def bkg : List Row :=
  [⟨0x0, 4, 1, [(0, 1, 0, .roS), (1, 1, 0, .roS), (2, 1, 0, .roS), (3, 1, 0, .roS), (4, 1, 0, .roS), (5, 1, 0, .roS)]⟩,
   ⟨0x4, 4, 1, [(0, 1, 1, .rwP), (1, 1, 1, .rwP), (2, 1, 1, .rwP), (3, 1, 1, .rwP), (4, 1, 1, .rwP), (8, 8, 20, .rwP), (16, 8, 60, .rwP), (24, 6, 8, .rwP)]⟩,
   ⟨0x8, 4, 1, [(0, 32, 0, .roS)]⟩,
   ⟨0xc, 4, 1, [(0, 32, 0, .cnt)]⟩,
   ⟨0x10, 4, 1, [(0, 32, 0, .cnt)]⟩,
   ⟨0x14, 4, 1, [(0, 32, 0, .cnt)]⟩,
   ⟨0x18, 4, 1, [(0, 32, 0, .roS)]⟩,
   ⟨0x1c, 4, 1, [(0, 32, 0, .cnt)]⟩,
   ⟨0x20, 4, 1, [(0, 32, 0, .cnt)]⟩,
   ⟨0x24, 4, 1, [(0, 17, 0, .roS), (17, 6, 0, .roS), (23, 7, 0, .roS)]⟩,
   ⟨0x28, 4, 1, [(0, 6, 0, .cmd), (8, 1, 0, .cmd)]⟩,
   ⟨0x2c, 4, 4, [(0, 32, 0, .cmd)]⟩] ++
  [⟨0x3c, 4, 1, [(0, 1, 0, .cmd)]⟩,
   ⟨0x40, 4, 1, [(0, 32, 0, .roS)]⟩,
   ⟨0x44, 4, 1, [(0, 32, 0, .roS)]⟩,
   ⟨0x48, 4, 1, [(0, 32, 0, .cnt)]⟩,
   ⟨0x4c, 4, 1, [(0, 32, 0, .cnt)]⟩,
   ⟨0x50, 4, 1, [(0, 32, 0, .cmd)]⟩,
   ⟨0x54, 4, 4, [(0, 32, 0, .roS)]⟩,
   ⟨0x64, 4, 1, [(0, 32, 0, .cnt)]⟩,
   ⟨0x68, 4, 1, [(0, 32, 0, .cnt)]⟩,
   ⟨0x6c, 4, 1, [(0, 32, 0, .cnt)]⟩,
   ⟨0x70, 4, 1, [(0, 32, 0, .cnt)]⟩,
   ⟨0x74, 4, 1, [(0, 32, 0, .cnt)]⟩] ++
  [⟨0x80, 4, 4, [(0, 6, 0, .roS), (6, 8, 0, .roS), (14, 1, 0, .roS), (15, 6, 0, .roS)]⟩,
   ⟨0x90, 4, 1, [(0, 32, 0, .cnt)]⟩,
   ⟨0x400, 4, 256, [(0, 32, 0, .roS)]⟩]

/-- TEST. -/
def test : List Row :=
  [⟨0x0, 4, 1, [(0, 1, 0, .roS), (1, 3, 0, .roS), (4, 3, 0, .roS), (7, 1, 0, .roC), (8, 1, 0, .roS), (9, 1, 0, .roS)]⟩,
   ⟨0x4, 4, 1, [(0, 2, 0, .cmd), (2, 5, 0, .cmd), (7, 1, 0, .cmd)]⟩,
   ⟨0x8, 4, 1, [(0, 32, 0, .cmd)]⟩,
   ⟨0xc, 4, 1, [(0, 1, 0, .cmd)]⟩,
   ⟨0x10, 4, 1, [(0, 3, 0, .roS)]⟩,
   ⟨0x20, 4, 1, [(0, 16, 0, .roS), (16, 16, 0, .roS)]⟩,
   ⟨0x24, 4, 1, [(0, 32, 0, .roS)]⟩,
   ⟨0x28, 4, 1, [(0, 1, 0, .roS), (1, 1, 0, .roS), (2, 1, 0, .roS), (3, 1, 0, .roS)]⟩,
   ⟨0x2c, 4, 1, [(0, 16, 0, .roS), (16, 16, 0, .roS)]⟩,
   ⟨0x30, 4, 1, [(0, 32, 0, .roS)]⟩,
   ⟨0x34, 4, 1, [(0, 1, 0, .rwP), (1, 2, 0, .rwP)]⟩,
   ⟨0x40, 4, 1, [(0, 32, 0, .cnt)]⟩] ++
  [⟨0x44, 4, 1, [(0, 32, 0, .cnt)]⟩,
   ⟨0x48, 4, 1, [(0, 32, 0, .cnt)]⟩,
   ⟨0x4c, 4, 1, [(0, 32, 0, .cnt)]⟩,
   ⟨0x50, 4, 1, [(0, 16, 412, .roK)]⟩,
   ⟨0x54, 4, 1, [(0, 32, 275023543, .roK)]⟩]

/-- EVT. -/
def evt : List Row :=
  [⟨0x0, 4, 1, [(0, 6, 0, .roS), (6, 7, 0, .roS), (13, 6, 0, .roS)]⟩,
   ⟨0x4, 4, 1, [(0, 7, 0, .cmd)]⟩,
   ⟨0x10, 4, 1, [(0, 32, 0, .cnt)]⟩,
   ⟨0x14, 4, 1, [(0, 32, 0, .cnt)]⟩,
   ⟨0x18, 4, 1, [(0, 32, 0, .cnt)]⟩,
   ⟨0x1c, 4, 1, [(0, 32, 0, .cnt)]⟩,
   ⟨0x20, 4, 1, [(0, 32, 0, .cnt)]⟩,
   ⟨0x24, 4, 1, [(0, 32, 0, .cnt)]⟩,
   ⟨0x400, 4, 128, [(0, 32, 0, .cnt)]⟩,
   ⟨0x1000, 16, 128, [(0, 32, 0, .rwP)]⟩,
   ⟨0x1004, 16, 128, [(0, 1, 0, .rwP), (1, 7, 0, .rwP), (8, 1, 1, .rwP), (9, 1, 0, .rwP), (10, 1, 1, .rwP), (11, 3, 0, .rwP)]⟩]

end Rows

end Sys2Proof.Machine
end

