-- ==== Sys2Proof/Machine/Ops.lean ====
section
/-! DEFINITION. The named operations over registers, memory, events and refusals that every meaning uses. -/

namespace Sys2Proof

/-- The requester code of Table SYNC-1 (12_locks_buffers_messages.md). -/
def Requester.code : Requester → Nat
  | .engine e => e.val
  | .mgmt => 32
  | .gate => 34

/-- The engine that asks, where one does. -/
def Requester.eng? : Requester → Option Nat
  | .engine e => some e.val
  | _ => none

end Sys2Proof

namespace Sys2Proof.Machine

/-- Outcomes of an access (03_register_model.md R53, Table REGS-3). -/
inductive Acc where
  | done | reject | refused | busy
deriving DecidableEq, Repr

/-- The code the model records for an outcome. -/
def Acc.code : Acc → Nat
  | .done => 0 | .reject => 1 | .refused => 2 | .busy => 3

/-- A number from a Bool. -/
def b2n (b : Bool) : Nat := if b then 1 else 0

/-- Bit i of a mask. -/
def bit (m i : Nat) : Bool := m / 2 ^ i % 2 == 1

/-- A mask with bit i set. -/
def setBit (m i : Nat) : Nat := if bit m i then m else m + 2 ^ i

/-- A mask with bit i cleared. -/
def clrBit (m i : Nat) : Nat := if bit m i then m - 2 ^ i else m

/-- Bits hi down to lo of a number. -/
def bits (v hi lo : Nat) : Nat := v / 2 ^ lo % 2 ^ (hi + 1 - lo)

/-- The two's complement reading of a w-bit number. -/
def signed (w v : Nat) : Int := if v % 2 ^ w < 2 ^ (w - 1) then (v % 2 ^ w : Int) else (v % 2 ^ w : Int) - 2 ^ w

/-- The w-bit two's complement of an integer. -/
def unsigned (w : Nat) (i : Int) : Nat := (i % (2 ^ w : Int)).toNat

/-- An integer held between two bounds. -/
def clampInt (lo hi i : Int) : Int := if i < lo then lo else if hi < i then hi else i

/-! Register planes -/

/-- The value the core die holds for a field that is not RW-P (R55). -/
def Chip.get (s : Chip) (f : Fld) : Nat := s.regs.get f.reset f.key

/-- Set a field that is not RW-P; a value is held to the field's width. -/
def Chip.put (s : Chip) (f : Fld) (v : Nat) : Chip :=
  { s with regs := s.regs.put f.reset f.key (v % 2 ^ f.width) }

/-- Is the field non-zero? -/
def Chip.flag (s : Chip) (f : Fld) : Bool := s.get f != 0

/-- Set a one-bit field. -/
def Chip.putB (s : Chip) (f : Fld) (b : Bool) : Chip := s.put f (b2n b)

/-- Add to a count, which stops at all-ones (R55). -/
def Chip.add (s : Chip) (f : Fld) (k : Nat) : Chip := s.put f (min (s.get f + k) (2 ^ f.width - 1))

/-- Add one to a count (R55). -/
def Chip.inc (s : Chip) (f : Fld) : Chip := s.add f 1

/-- The working value of an RW-P field as the core die records it (R51). -/
def Chip.wk (s : Chip) (f : Fld) : Nat := s.work.get f.reset f.key

/-- Is the working value non-zero? -/
def Chip.wkB (s : Chip) (f : Fld) : Bool := s.wk f != 0

/-- The shadow of an RW-P field (R58). -/
def Chip.sh (s : Chip) (f : Fld) : Nat := s.shadow.get f.reset f.key

/-- The field die's working value of a field of its units (R60). -/
def Chip.fwk (s : Chip) (f : Fld) : Nat := s.fWork.get f.reset f.key

/-- Is the field die's working value non-zero? -/
def Chip.fwkB (s : Chip) (f : Fld) : Bool := s.fwk f != 0

/-- The live value of an RO-C field (R31). -/
def Chip.lv (s : Chip) (f : Fld) : Nat := s.live.get f.reset f.key

/-- Is the live value non-zero? -/
def Chip.lvB (s : Chip) (f : Fld) : Bool := s.lv f != 0

/-- Set a live value; it is held to the field's width. -/
def Chip.setLv (s : Chip) (f : Fld) (v : Nat) : Chip :=
  { s with live := s.live.put f.reset f.key (v % 2 ^ f.width) }

/-- Set a one-bit live value. -/
def Chip.setLvB (s : Chip) (f : Fld) (b : Bool) : Chip := s.setLv f (b2n b)

/-- Set a shadow. -/
def Chip.putSh (s : Chip) (f : Fld) (v : Nat) : Chip :=
  { s with shadow := s.shadow.put f.reset f.key (v % 2 ^ f.width) }

/-! Where an address lies -/

/-- The place of a register: block number (order of Table REGS-2), instance, offset from the instance or block base,
index in its row, word address in the normal view, and the fields of the word. -/
structure Loc where
  blk : Nat
  inst : Nat
  off : Nat
  idx : Nat
  addr : Nat
  fields : List Fld
deriving DecidableEq, Repr

/-- The row of a map that defines an offset, with the index in it. -/
def findRow (rows : List Row) (off : Nat) : Option (Row × Nat) :=
  match rows with
  | [] => none
  | r :: t =>
    if r.off ≤ off ∧ off < r.off + r.stride * r.count ∧ (off - r.off) % r.stride = 0 then some (r, (off - r.off) / r.stride)
    else findRow t off

/-- The map that serves an offset of a block: instance, offset from the instance or block base, rows (R49, Table REGS-2). -/
def blockMap (blk off : Nat) : Nat × Nat × List Row :=
  match blk with
  | 0 => (0, off, Rows.sys)
  | 1 => (0, off, Rows.clk)
  | 2 => (off / 0x8000, off % 0x8000, Rows.link)
  | 3 => (0, off, Rows.gate)
  | 4 => (0, off, Rows.chain)
  | 5 => if off < 0x8000 then (off / 0x400, off % 0x400, Rows.eng) else (0, off, Rows.engWide)
  | 6 => if off < 0x2000 then (off / 0x40, off % 0x40, Rows.run) else (0, off, Rows.runWide)
  | 7 => (0, off, Rows.sync)
  | 8 => (0, off, Rows.flask)
  | 9 => (0, off, Rows.hub)
  | 10 => (0, off, Rows.wide)
  | 11 => if off < 0x5000 then (off / 0x1000, off % 0x1000, Rows.cuff (off / 0x1000)) else (0, off, Rows.cuffWide)
  | 12 => if off < 0x280 then (off / 0x40, off % 0x40, Rows.fuse (off / 0x40)) else (0, off, Rows.fuseWide)
  | 13 => (0, off, Rows.meas)
  | 14 =>
    if off < 0x200 then (off / 0x40, off % 0x40, Rows.drv (off / 0x40))
    else if off < 0x300 then (8 + (off - 0x200) / 0x40, off % 0x40, Rows.drv (8 + (off - 0x200) / 0x40))
    else (0, off, Rows.drvWide)
  | 15 => (0, off, Rows.pin)
  | 16 => if off < 0x8000 then (off / 0x4000, off % 0x4000, Rows.can) else (0, off, [])
  | 17 => (0, off, Rows.bkg)
  | 18 => (0, off, Rows.test)
  | 19 => (0, off, Rows.evt)
  | 20 => (0, off, Rows.seam)
  | _ => (0, off, [])

/-- The register at a word address of the normal view, where its block defines one (R48, R50). -/
def locate (addr : Nat) : Option Loc :=
  if addr < 0x01000000 ∨ 0x01150000 ≤ addr ∨ addr % 4 ≠ 0 then none else
  let blk := (addr - 0x01000000) / 0x10000
  let m := blockMap blk (addr % 0x10000)
  match findRow m.2.2 m.2.1 with
  | none => none
  | some (r, i) =>
    some ⟨blk, m.1, m.2.1, i, addr, r.fields.map (fun q => ⟨32 * addr + q.1, q.2.1, q.2.2.1, q.2.2.2⟩)⟩

/-- The register address a field lies in. -/
def Fld.addr (f : Fld) : Nat := f.key / 32

/-- The lowest bit of a field in its register. -/
def Fld.lsb (f : Fld) : Nat := f.key % 32

/-- The pour group of a block's RW-P fields (Table REGS-5); 16 where it has none. -/
def groupOfBlk (blk : Nat) : Nat :=
  match blk with
  | 3 => 0 | 4 => 1 | 2 => 1 | 5 => 2 | 6 => 3 | 7 => 4 | 8 => 5 | 9 => 6 | 10 => 7 | 11 => 8 | 12 => 9 | 13 => 10
  | 14 => 11 | 15 => 12 | 16 => 13 | 17 => 14 | 18 => 14 | 19 => 14 | 1 => 15 | _ => 16

/-- The block of a field's key. -/
def blkOfKey (key : Nat) : Nat := (key / 32 - 0x01000000) / 0x10000

/-- Does the pour mask name the group of this field key? -/
def inMask (mask key : Nat) : Bool := groupOfBlk (blkOfKey key) < 16 && bit mask (groupOfBlk (blkOfKey key))

/-- Does a unit on the field die hold this field (01_node_and_chain.md Table NODE-2): CUFF, FUSE, MEAS and DRV, and of
PIN the high-voltage inputs and the counters' sources. -/
def fieldDieKey (key : Nat) : Bool :=
  let b := blkOfKey key
  let off := key / 32 % 0x10000
  (11 ≤ b && b ≤ 14) || (b == 15 && 0x200 ≤ off && off < 0x280)

/-! Units and their reset values -/

/-- Engine e. -/
def Chip.eng (s : Chip) (e : Nat) : Engine := s.engs.get {} e

/-- Set engine e. -/
def Chip.setEng (s : Chip) (e : Nat) (x : Engine) : Chip := { s with engs := s.engs.put {} e x }

/-- Is the core die out of reset (04_power_up_to_service.md R76)? -/
def Chip.coreUp (s : Chip) : Bool := !s.pwr.coreRst

/-- Is the field die out of reset? -/
def Chip.fieldUp (s : Chip) : Bool := !s.pwr.fieldRst

/-- Draw a free value (log entry 6): an unconstrained number, a new one each time. -/
def Chip.free (s : Chip) : Nat := (Sys2Proof.Config.freeValue s.freeCnt).toNat

/-- Count a free value as drawn. -/
def Chip.drew (s : Chip) : Chip := { s with freeCnt := s.freeCnt + 1 }

/-- Is flask f ACTIVE (13_flasks_and_warden.md R284)? -/
def Chip.active (s : Chip) (f : Nat) : Bool := s.get (Reg.FLASK_FSTAT_STATE f) == 0

/-- Flasks not ACTIVE, one bit each (FLASK.FENCED). -/
def Chip.fencedMask (s : Chip) : Nat :=
  (List.range 54).foldl (fun m f => if s.active f then m else m + 2 ^ f) 0

/-! Event records (24_events.md) -/

/-- The station and ring part of a record's word 0: [8:7] ring, [18:9] station, 1,023 without an address (R498). -/
def Chip.recStation (s : Chip) : Nat :=
  if s.flag Reg.CHAIN_STAT_ADDR_VALID then
    s.get Reg.CHAIN_ADDR_RING * 2 ^ 7 + s.get Reg.CHAIN_ADDR_STATION * 2 ^ 9
  else 1023 * 2 ^ 9

/-- Nanoseconds of one cycle period in force (02_clocks_and_chain_time.md Table CLK-6). -/
def periodNs (code : Nat) : Nat :=
  match code with | 0 => 62500 | 1 => 125000 | 2 => 250000 | 3 => 500000 | _ => 1000000

/-- The cycle period in force, in ns. -/
def Chip.period (s : Chip) : Nat := periodNs (s.wk Reg.CLK_CYCLE)

/-- Leave IDLE: RUN, and each engine still held in HALT by IDLE starts again (R92, 09_sprue_engines.md R215). -/
def Chip.idleExit (s : Chip) : Chip :=
  if s.get Reg.SYS_PWR_STAT = 1 then
    (List.range 32).foldl (fun s e =>
      if s.flag (Reg.ENG_STAT_IDLE_HELD e) && s.get (Reg.ENG_STAT_STATE e) == 0 then
        ((((s.put (Reg.ENG_STAT_IDLE_HELD e) 0).put (Reg.ENG_STAT_STATE e) 1).put (Reg.ENG_STAT_EN e) 1).put
          (Reg.ENG_WDOG_LEFT e) (s.wk (Reg.ENG_WDOG e)))
      else s) (s.put Reg.SYS_PWR_STAT 0)
  else s

/-- Set the pending bit of a source in every engine a mask names (R500, 10_sprue_instruction_set.md R237). -/
def Chip.setPending (s : Chip) (mask src : Nat) : Chip :=
  if mask = 0 then s else
  (List.range 32).foldl (fun s e =>
    if bit mask e then s.setEng e { s.eng e with pend := (s.eng e).pend ||| (1#128 <<< src) } else s) s

/-- Put a record into the latched list: records of one cc stand in ascending source number, ahead of any latched later (R499). -/
def insertRec (r : EvRec) : List EvRec → List EvRec
  | [] => [r]
  | x :: t => if x.ns = r.ns ∧ !x.old ∧ r.src < x.src then r :: x :: t else x :: insertRec r t

/-- A source fires (R499, R500, R501): pending bits, FIRE_CNT, and a latched record, folded into a waiting one, or
suppressed by the source's limit. Nothing fires while the core die is in reset. -/
def Chip.fire (s : Chip) (src det : Nat) : Chip :=
  if !s.coreUp then s else
  let rt0 := s.wk (Reg.EVT_ROUTE_ENG src)
  let lim := s.wk (Reg.EVT_ROUTE_LIMIT src)
  let rt1 := s.wk (Reg.EVT_ROUTE_RUN_EN src) + 2 * s.wk (Reg.EVT_ROUTE_RUN src) + 256 * s.wk (Reg.EVT_ROUTE_MGMT src)
    + 512 * s.wk (Reg.EVT_ROUTE_CHAIN src) + 1024 * s.wk (Reg.EVT_ROUTE_LOG src)
  let s := (s.setPending rt0 src).inc (Reg.EVT_FIRE_CNT src)
  let s := if rt0 ≠ 0 ∨ bit rt1 8 then s.idleExit else s
  let s := if bit rt1 8 && s.get Reg.HUB_STAT_UP_STATE == 4 && s.flag Reg.HUB_STAT_RWAKE_EN then
    { s with hub := { s.hub with wakeDue := true } } else s
  let now := s.ct.toNat
  let last := s.evt.lastAdm.get 0 src
  let supp := s.evt.supp.get 0 src
  if lim ≠ 0 ∧ last ≠ 0 ∧ now + 1 < last + 4 ^ lim * s.period then
    { (s.inc Reg.EVT_LIM_CNT) with evt := { s.evt with supp := s.evt.supp.put 0 src (min 127 (supp + 1)) } }
  else if s.evt.latched.any (fun r => r.src == src) then
    { s with evt := { s.evt with latched := s.evt.latched.map (fun r =>
        if r.src = src then { r with supp := min 127 (r.supp + 1) } else r) } }
  else
    { s with evt := { s.evt with
        latched := insertRec ⟨src, supp, s.recStation, det % 2 ^ 32, s.get Reg.CLK_CYC_NUM, now % 2 ^ 32, rt1, false⟩ s.evt.latched
        supp := s.evt.supp.put 0 src 0
        lastAdm := s.evt.lastAdm.put 0 src (now + 1) } }

/-- The detail word of most sources: unit in [7:0], code in [15:8] (R497). -/
def detail (unit code : Nat) : Nat := unit % 256 + 256 * (code % 256)

/-! Refusals and ignored writes -/

/-- The REJ_CNT a refusal at this place counts in (R67). A write refused at a block-wide register of CUFF, for which Table CUFF-11 lists
no counter, counts in C0's (DESIGN CHOICE, log entry 27). -/
def rejFld (blk inst off : Nat) : Fld :=
  match blk with
  | 0 => Reg.SYS_REJ_CNT | 2 => Reg.LINK_REJ_CNT inst | 3 => Reg.GATE_REJ_CNT | 4 => Reg.CHAIN_REJ_CNT
  | 5 => if 0x8000 ≤ off ∧ off < 0xC000 then Reg.ENG_BLK_REJ_CNT else Reg.ENG_REJ_CNT inst
  | 6 => Reg.RUN_REJ_CNT inst | 7 => Reg.SYNC_REJ_CNT | 8 => Reg.FLASK_REJ_CNT | 9 => Reg.HUB_REJ_CNT
  | 10 => Reg.WIDE_REJ_CNT | 11 => Reg.CUFF_REJ_CNT inst | 12 => Reg.FUSE_REJ_CNT | 13 => Reg.MEAS_REJ_CNT
  | 14 => Reg.DRV_REJ_CNT | 15 => Reg.PIN_REJ_CNT | 16 => Reg.CAN_REJ_CNT inst | 17 => Reg.BKG_REJ_CNT
  | 18 => Reg.TEST_REJ_CNT | 19 => Reg.EVT_REJ_CNT | _ => Reg.SEAM_REJ_CNT

/-- The IGN_CNT of an owning unit (R56), and the block's config event (Table EVT-1, EV21 to EV31). -/
def ignFld (blk inst : Nat) : Fld × Nat :=
  match blk with
  | 1 => (Reg.CLK_IGN_CNT, 21) | 2 => (Reg.LINK_IGN_CNT inst, 22) | 5 => (Reg.ENG_IGN_CNT inst, 23)
  | 6 => (Reg.RUN_IGN_CNT inst, 24) | 9 => (Reg.HUB_IGN_CNT, 25) | 10 => (Reg.WIDE_IGN_CNT, 26)
  | 11 => (Reg.CUFF_IGN_CNT inst, 27) | 12 => (Reg.FUSE_IGN_CNT, 28) | 13 => (Reg.MEAS_IGN_CNT, 29)
  | 14 => (Reg.DRV_IGN_CNT, 30) | _ => (Reg.CAN_IGN_CNT inst, 31)

/-- The detail word of a reject or config event: requester, instance, offset (Table EVT-1). FUSE and DRV are blocks
without instances (Table REGS-2), so their instance is 0 and their offset counts from the block base. -/
def rejDetail (r blk inst off : Nat) : Nat :=
  if blk = 12 then r % 64 + 8192 * ((off + 0x40 * inst) % 65536)
  else if blk = 14 then r % 64 + 8192 * ((off + (if off < 0x40 then drvOff inst else 0)) % 65536)
  else r % 64 + 64 * (inst % 128) + 8192 * (off % 65536)

/-- Count and report a STATE_REJECT (R67). CLK has no REJ_CNT: a write refused there raises its event alone. -/
def Chip.reject (s : Chip) (r blk inst off : Nat) : Chip :=
  (if blk = 1 then s else s.inc (rejFld blk inst off)).fire blk (rejDetail r blk inst off)

/-- Count and report an ignored RW-E write (R55, R56). -/
def Chip.ignored (s : Chip) (r blk inst off : Nat) : Chip :=
  (s.inc (ignFld blk inst).1).fire (ignFld blk inst).2 (rejDetail r blk inst off)

/-- What a command does: its outcome and the block after it. -/
abbrev Did := Acc × Chip

/-- A command that acted. -/
def Chip.ok (s : Chip) : Did := (.done, s)

/-- A command that ends in STATE_REJECT, counted and reported. -/
def Chip.no (s : Chip) (r blk inst off : Nat) : Did := (.reject, s.reject r blk inst off)

/-- Does a wake cause count now: in STANDBY, in OFF, on the way to either (04_power_up_to_service.md R93, Table SYS-7a)? -/
def Chip.wakeOpen (s : Chip) : Bool :=
  s.pwr.phase == .standby || s.pwr.phase == .off ||
  (s.pwr.phase == .dropping && (s.pwr.goal == .standby || s.pwr.goal == .off))

/-- A wake cause arrives: 0 WAK, 1 HVI, 2 Cuff, 3 timer, 4 NRST. In STANDBY, in OFF and on the way to either the keep domain
latches it, the timer at any time, a node that is PROPOSED latches and reports it, one that is COMMITTED only latches it (04_power_up_to_service.md R93,
05_gleshline_link.md R117, R118, R120; log entry 18). -/
def Chip.wakeCause (s : Chip) (c : Nat) : Chip :=
  let st := s.get Reg.CHAIN_SLEEP_STAT_STATE
  let s := if s.wakeOpen || st == 1 || st == 2 || c == 3 then { s with pwr := { s.pwr with wake := setBit s.pwr.wake c } } else s
  if st = 1 then s.put Reg.CHAIN_SLEEP_STAT_WAKE_PEND 1 else s

/-- The node is no longer PROPOSED or COMMITTED (05_gleshline_link.md R117): what it latched for the agreement goes, the timer's cause stays. -/
def Chip.proposeOver (s : Chip) : Chip :=
  ({ s with pwr := { s.pwr with wake := if bit s.pwr.wake 3 then 8 else 0 } }.put Reg.CHAIN_SLEEP_STAT_STATE 0).put
    Reg.CHAIN_SLEEP_STAT_WAKE_PEND 0

/-! Engines' traps -/

/-- Chain time in units of 2^-32 ns. -/
def Chip.ctFine (s : Chip) : Nat := s.ct.toNat * 2 ^ 32 + s.ctFrac.toNat

/-- A fault reaches flask f (13_flasks_and_warden.md R283, R284, R286): counted; an ACTIVE flask passes to FENCING and the warden
latches the fault; of several faults of one instant the lowest cause is recorded. Nothing while the core die is in reset. -/
def Chip.fault (s : Chip) (f cause det word1 : Nat) : Chip :=
  if !s.coreUp || decide (54 ≤ f) then s else
  let s := s.inc (Reg.FLASK_FAULT_CNT f)
  let s := { s with warden := { s.warden with lastFault := s.warden.lastFault.put 0 f (s.ctFine + 1) } }
  let line : FaultLine := ⟨f, cause, det, word1, s.get Reg.CLK_CYC_NUM, s.ct.toNat⟩
  if s.active f then
    let s := (s.put (Reg.FLASK_FSTAT_STATE f) 1).put (Reg.FLASK_FSTAT_CAUSE f) cause
    let n := s.warden.n.get 0 f + 1
    ({ s with warden := { s.warden with lines := s.warden.lines ++ [line], n := s.warden.n.put 0 f n, stable := clrBit s.warden.stable f } }).put
      (Reg.FLASK_FSTAT_N f) (min 63 n)
  else if s.warden.lines.any (fun (l : FaultLine) => l.flask == f && l.ns == s.ct.toNat && decide (cause < l.cause)) then
    ({ s with warden := { s.warden with lines := s.warden.lines.map (fun (l : FaultLine) => if l.flask = f then line else l) } }).put
      (Reg.FLASK_FSTAT_CAUSE f) cause
  else s

/-- Engine state. -/
def Chip.engState (s : Chip) (e : Nat) : Nat := s.get (Reg.ENG_STAT_STATE e)

/-- Put engine e in a state of Table ENG-3, with EN as R196 says, abandoning any wait. Out of HALT, IDLE holds it no longer (R215). -/
def Chip.setEngState (s : Chip) (e st : Nat) : Chip :=
  let s := if st = 0 then s else s.put (Reg.ENG_STAT_IDLE_HELD e) 0
  let s := ((s.put (Reg.ENG_STAT_STATE e) st).putB (Reg.ENG_STAT_EN e) (st == 1 || st == 2)).put (Reg.ENG_STAT_WAIT_CAUSE e) 0
  if st = 2 then s else s.setEng e { s.eng e with wait := .none, haltReq := if st = 1 then (s.eng e).haltReq else false }

/-- Engine e traps (R200): TRAP, cause and pc, the faulting address where one is given, the count and the event; codes 1
to 7 are faults against its flask (R201). -/
def Chip.trap (s : Chip) (e cause : Nat) (addr : Option Nat) : Chip :=
  let pc := s.get (Reg.ENG_PC e)
  let s := s.setEngState e 3
  let s := (s.put (Reg.ENG_TRAP_CAUSE e) cause).put (Reg.ENG_TRAP_PC e) pc
  let s := match addr with | some a => s.put (Reg.ENG_TRAP_ADDR e) a | none => s
  let s := (s.inc (Reg.ENG_TRAP_CNT e)).fire 56 (detail e cause)
  if cause = 8 then s else s.fault e 1 (cause + 16 * pc) (s.get (Reg.ENG_TRAP_ADDR e))

/-- The ACCESS CSR's code for an outcome (Table ENG-8). -/
def Acc.access : Acc → Nat
  | .reject => 1 | .busy => 2 | _ => 0

/-- The requester learns the outcome of its access (Table REGS-3): an engine in its ACCESS register, or a trap 2 for a
refused access; every requester in the model's record of last outcomes. -/
def Chip.respond (s : Chip) (r : Requester) (addr : Nat) (a : Acc) : Chip :=
  let s := { s with outcome := s.outcome.put 0 r.code a.code }
  match r with
  | .engine e => if a = .refused then s.trap e.val 2 (some addr) else s.put (Reg.ENG_ACCESS e.val) a.access
  | _ => s

/-! Tests that occupy units (23_stitch_test_and_bist.md R488, R489, R496) -/

/-- Is a test of this kind and scope running? -/
def Chip.testing (s : Chip) (kind scope : Nat) : Bool :=
  match s.test.run with | some t => t.kind == kind && t.scope == scope | none => false

/-- Is engine e occupied? -/
def Chip.occEngine (s : Chip) (e : Nat) : Bool := s.testing 3 (e / 8)

/-- Is a CAN controller occupied? -/
def Chip.occCan (s : Chip) (c : Nat) : Bool := s.testing 3 (4 + c) || s.test.landsTaken

/-- Is measurement occupied? -/
def Chip.occMeas (s : Chip) : Bool := s.testing 3 6 || s.test.landsTaken

/-- Are the drivers occupied? -/
def Chip.occDrv (s : Chip) : Bool := s.testing 3 7 || s.test.landsTaken

/-- Is Cuff c occupied? -/
def Chip.occCuff (s : Chip) (c : Nat) : Bool := s.testing 1 (5 + c) || s.testing 3 (8 + c) || s.test.landsTaken

/-- Is hub port p occupied: ports 1 to 4 are C0 to C3, 5 to 8 are H0 to H3 (Table TEST-2)? -/
def Chip.occPort (s : Chip) (p : Nat) : Bool :=
  if 1 ≤ p ∧ p ≤ 4 then s.occCuff (p - 1)
  else if 5 ≤ p ∧ p ≤ 8 then s.testing 1 (5 + p) || s.test.landsTaken
  else false

/-- Is switch channel ch occupied: the VBUS switches with their Cuffs, the harness switches with their ports? -/
def Chip.occFuse (s : Chip) (ch : Nat) : Bool :=
  if ch < 5 then s.occCuff ch else if ch < 9 then s.occPort ch else s.test.landsTaken

/-- Is pin P n.m occupied? -/
def Chip.occPin (s : Chip) (n : Nat) : Bool := s.testing 1 n || s.test.landsTaken

/-- Are the high-voltage inputs occupied? -/
def Chip.occHvi (s : Chip) : Bool := s.testing 1 4 || s.test.landsTaken

/-- Would a write at this place change an occupied unit (R489)? Writes to the TEST block itself never do. -/
def Chip.occupied (s : Chip) (l : Loc) : Bool :=
  match l.blk with
  | 2 => s.test.landsTaken
  | 5 => l.off < 0x400 && s.occEngine l.inst
  | 9 => (0x140 ≤ l.off && l.off < 0x160 && s.occPort (l.idx + 1)) || (0x40 ≤ l.off && l.off < 0x64 && s.occPort l.idx)
  | 11 => l.off < 0x8000 && s.occCuff l.inst
  | 12 => l.off < 0x400 && s.occFuse l.inst
  | 13 => s.occMeas
  | 14 => l.off < 0x400 && s.occDrv
  | 15 =>
    if l.off < 0x100 then 0x10 ≤ l.off && s.occPin ((l.off - 0x10) / 0x20)
    else if l.off < 0x200 then s.occPin ((l.off - 0x100) / 0x40)
    else if l.off < 0x240 then s.occHvi
    else if l.off < 0x280 then s.occMeas else false
  | 16 => s.occCan l.inst
  | _ => false

/-! A command register written on its own -/

/-- A write of one command register by requester r: nothing while the core die is in reset; busy while its unit is under
test; refused to a fenced management function outside FLASK (13_flasks_and_warden.md R295); else what `act` does; the requester learns the
outcome (R53). -/
def Chip.command (s : Chip) (r : Requester) (addr : Nat) (act : Chip → Did) : Chip :=
  if !s.coreUp then s else
  match locate addr with
  | none => s.respond r addr .refused
  | some l =>
    if r = .mgmt ∧ !s.active 52 ∧ l.blk ≠ 8 then s.respond r addr .refused else
    if s.occupied l then s.respond r addr .busy else
    let d := act s
    d.2.respond r addr d.1

/-! Memory bytes -/

/-- The byte at a physical address. -/
def Chip.rdb (s : Chip) (a : Nat) : BitVec 8 := s.mem.get 0 a

/-- Store a byte at a physical address; the word's ECC is made good (09_sprue_engines.md R210). -/
def Chip.wrb (s : Chip) (a : Nat) (b : BitVec 8) : Chip :=
  { s with mem := s.mem.put 0 a b, ecc := s.ecc.put 0 (a / 4 * 4) 0 }

/-- The little-endian word at a physical address (R50). -/
def Chip.rdw (s : Chip) (a : Nat) : BitVec 32 :=
  (s.rdb (a + 3)) ++ (s.rdb (a + 2)) ++ (s.rdb (a + 1)) ++ (s.rdb a)

/-- Store a little-endian word at a physical address (R50). -/
def Chip.wrw (s : Chip) (a : Nat) (v : BitVec 32) : Chip :=
  (((s.wrb a (v.extractLsb' 0 8)).wrb (a + 1) (v.extractLsb' 8 8)).wrb (a + 2) (v.extractLsb' 16 8)).wrb (a + 3)
    (v.extractLsb' 24 8)

/-- Store bytes from an address upward. -/
def Chip.wrbs (s : Chip) (a : Nat) : List (BitVec 8) → Chip
  | [] => s
  | b :: t => (s.wrb a b).wrbs (a + 1) t

/-- The n bytes from an address upward. -/
def Chip.rdbs (s : Chip) (a n : Nat) : List (BitVec 8) := (List.range n).map (fun i => s.rdb (a + i))

/-- Store words from an address upward. -/
def Chip.wrws (s : Chip) (a : Nat) : List (BitVec 32) → Chip
  | [] => s
  | w :: t => (s.wrw a w).wrws (a + 4) t

/-- The four bytes of a word, lowest first. -/
def wordBytes (v : BitVec 32) : List (BitVec 8) :=
  [v.extractLsb' 0 8, v.extractLsb' 8 8, v.extractLsb' 16 8, v.extractLsb' 24 8]

/-- A little-endian number from bytes. -/
def leNat : List (BitVec 8) → Nat
  | [] => 0
  | b :: t => b.toNat + 256 * leNat t

/-- The n little-endian bytes of a number. -/
def natBytes : Nat → Nat → List (BitVec 8)
  | 0, _ => []
  | n + 1, v => BitVec.ofNat 8 v :: natBytes n (v / 256)

/-- Words from bytes, four at a time. -/
def bytesWords : List (BitVec 8) → List (BitVec 32)
  | a :: b :: c :: d :: t => (d ++ c ++ b ++ a) :: bytesWords t
  | [] => []
  | l => [BitVec.ofNat 32 (leNat l)]

/-- An erased NOR byte reads 0xFF (log entry 3). -/
def Chip.norb (s : Chip) (a : Nat) : BitVec 8 := s.nor.get 0xFF a

/-- Program a NOR byte. -/
def Chip.norw (s : Chip) (a : Nat) (b : BitVec 8) : Chip := { s with nor := s.nor.put 0xFF a b }

/-- Program bytes into NOR from an address upward. -/
def Chip.norws (s : Chip) (a : Nat) : List (BitVec 8) → Chip
  | [] => s
  | b :: t => (s.norw a b).norws (a + 1) t

/-- Is cycle number a later than b (00_scope.md R6)? -/
def later (a b : Nat) : Bool :=
  let d := (a + 2 ^ 32 - b % 2 ^ 32) % 2 ^ 32
  decide (1 ≤ d) && decide (d < 2 ^ 31)

/-- a minus b modulo 2^32. -/
def sub32 (a b : Nat) : Nat := (a + 2 ^ 32 - b % 2 ^ 32) % 2 ^ 32

/-! Chain time on both dies (02_clocks_and_chain_time.md R33, R39) -/

/-- Set chain time, in units of 2^-32 ns. -/
def Chip.setFine (s : Chip) (t : Nat) : Chip := { s with ct := BitVec.ofNat 64 (t / 2 ^ 32), ctFrac := BitVec.ofNat 32 t }

/-- The field die's copy of chain time in ns. -/
def Chip.fNow (s : Chip) : Nat := s.fTime.t.toNat / 2 ^ 32

/-- The field die's copy goes on by a span in units of 2^-32 ns. -/
def Chip.fieldPass (s : Chip) (d : Nat) : Chip :=
  if s.fieldUp then { s with fTime := { s.fTime with t := s.fTime.t + BitVec.ofNat 96 d } } else s

/-- Chain time comes to an instant the spec fixes, unless the counter already stands there or later: it never runs backward
(R33; log entry 2). The field die's copy goes on with it. -/
def Chip.timeTo (s : Chip) (ns : Nat) : Chip :=
  if s.ct.toNat < ns then { s.fieldPass (ns * 2 ^ 32 - s.ctFine) with ct := BitVec.ofNat 64 ns, ctFrac := 0 } else s

/-- The field die's copy of chain time comes to an instant, unless it stands there or later, and chain time goes on with it; a copy
without its bound tells no instant (log entries 2, 26). -/
def Chip.fieldTimeTo (s : Chip) (ns : Nat) : Chip :=
  if s.fTime.loose ∨ ns ≤ s.fNow then s else
  let d := ns * 2 ^ 32 - s.fTime.t.toNat
  let s := s.fieldPass d
  if s.coreUp then s.setFine (s.ctFine + d) else s

/-- A count in units of 2^-32 ns moved on by one cc, 2.5 ns adjusted by a steering term in ppb (R33). -/
def ccSpan (adj : Int) : Nat := ((10737418240 * (1000000000 + adj)) / 1000000000).toNat

/-- Apply a function of state for each element of a list, in order. -/
def Chip.each {α : Type} (s : Chip) (l : List α) (f : Chip → α → Chip) : Chip := l.foldl f s

end Sys2Proof.Machine
end

