-- ==== Sys2Proof/Machine/Image.lean ====
section
/-! DEFINITION. The process image (08_process_image.md): the copies a view shows, refreshes, and the swap. -/

namespace Sys2Proof.Machine

/-- Does window w cover image byte x in a direction: 0 input, 1 output (R175)? -/
def Chip.winHas (s : Chip) (w dir x : Nat) : Bool :=
  s.wkB (Reg.GATE_WIN_EN w) && s.wk (Reg.GATE_WIN_DIR w) == dir && decide (s.wk (Reg.GATE_WIN_LOCAL w) ≤ x) &&
    decide (x < s.wk (Reg.GATE_WIN_LOCAL w) + 4 * s.wk (Reg.GATE_WIN_LEN w))

/-- The enabled window that covers an image byte. -/
def Chip.window (s : Chip) (dir x : Nat) : Option Nat := (List.range 128).find? (fun w => s.winHas w dir x)

/-- Bit of window w in one of the bitmap registers of Table IMAGE-3. -/
def Chip.winBit (s : Chip) (f : Nat → Fld) (w : Nat) : Bool := bit (s.get (f (w / 32))) (w % 32)

/-- Set the bit of window w in a bitmap register. -/
def Chip.putWin (s : Chip) (f : Nat → Fld) (w : Nat) (b : Bool) : Chip :=
  let v := s.get (f (w / 32))
  s.put (f (w / 32)) (if b then setBit v (w % 32) else clrBit v (w % 32))

/-- Does a view of an image byte show copy B (R175)? -/
def Chip.copyB (s : Chip) (dir x : Nat) (gate : Bool) : Bool :=
  match s.window dir x with
  | some w => !s.wkB (Reg.GATE_WIN_LIVE w) && (s.winBit Reg.GATE_IMG_SEL w != gate)
  | none => s.flag Reg.GATE_IMG_STAT_NSEL != gate

/-- Where a copy of an image byte is kept: copy A of each image at the addresses of its local view, copy B at those of its
gate view (Table IMAGE-1). -/
def imgPhys (dir x : Nat) (b : Bool) : Nat := 0x8000 * dir + (if b then 0x4000 else 0) + x % 0x4000

/-- The physical address behind an address of global SRAM (R173, R175). -/
def Chip.map (s : Chip) (a : Nat) : Nat :=
  if a < 0x10000 then imgPhys (a / 0x8000) (a % 0x4000) (s.copyB (a / 0x8000) (a % 0x4000) (a / 0x4000 % 2 == 1)) else a

/-- Is an address in a gate view, which local software may only read (R174)? -/
def gateView (a : Nat) : Bool := decide (a < 0x10000) && a / 0x4000 % 2 == 1

/-! The tunnel buffer region (01_node_and_chain.md R16, 15_wide_hub_tunnel.md, Registers) -/

/-- Is an address in the tunnel buffer region? -/
def inTunnel (a : Nat) : Bool := decide (0x78000 ≤ a) && decide (a < 0xB8000)

/-- What a byte of the tunnel buffer region reads as where it is the wide hub's: while the WIDE block is enabled its records, which move as it
works; after it, what they left, until the byte is stored. The layout is not the spec's: a free value (log entry 47). -/
def Chip.tunnelHas (s : Chip) (a : Nat) : Option (BitVec 8) :=
  if !inTunnel a then none
  else if s.flag Reg.WIDE_STAT_EN then some (Sys2Proof.Config.tunnelByte s.freeCnt s.ctFine a)
  else match s.wide.left with
    | some t => if s.wide.wrote.contains a then none else some (Sys2Proof.Config.tunnelByte t.1 t.2 a)
    | none => none

/-- The byte that a physical address of global SRAM shows. -/
def Chip.sees (s : Chip) (a : Nat) : BitVec 8 := (s.tunnelHas a).getD (s.rdb a)

/-- The bytes of record data after a store that software must not make struck them: free values, one per byte, by a place of their own. -/
def Chip.struck (s : Chip) (place : Nat) (l : List (BitVec 8)) : List (BitVec 8) :=
  (List.range l.length).map (fun i => Sys2Proof.Config.tunnelByte s.freeCnt s.ctFine (2 ^ 20 + 1024 * place + i))

/-- Records struck. -/
def Chip.struckRecs (s : Chip) (place : Nat) (l : List WRec) : List WRec :=
  (List.zip (List.range l.length) l).map (fun (x : Nat × WRec) => { x.2 with data := s.struck (place + 16 * x.1) x.2.data })

/-- Poll data struck. -/
def Chip.struckOut (s : Chip) (place : Nat) (o : Option (Bool × List (BitVec 8))) : Option (Bool × List (BitVec 8)) :=
  o.map (fun x => (x.1, s.struck place x.2))

/-- A poll result struck. -/
def Chip.struckRes (s : Chip) (place : Nat) (o : Option PollRes) : Option PollRes :=
  o.map (fun x => { x with data := s.struck place x.data })

/-- A store into the tunnel buffer region of an enabled WIDE block, where nothing must be placed: which records it meets the spec does not
say; the data of every record there becomes a free value (log entry 47). -/
def Chip.strikeTunnel (s : Chip) : Chip :=
  let w := s.wide
  let port := fun (k : Nat) (x : WPort) => { x with
    held := (List.zip (List.range x.held.length) x.held).map (fun (y : Nat × WTx) => { y.2 with
      data := s.struck (2 ^ 24 * k + 16 * y.1) y.2.data, rdata := s.struck (2 ^ 24 * k + 16 * y.1 + 1) y.2.rdata })
    cmds := s.struckRecs (2 ^ 24 * k + 2) x.cmds, sent := s.struckRecs (2 ^ 24 * k + 3) x.sent }
  let serve := fun (k : Nat) (x : WServed) => { x with
    todo := s.struckRecs (2 ^ 24 * k + 4) x.todo, fresh := s.struckRecs (2 ^ 24 * k + 5) x.fresh
    batch := s.struckRecs (2 ^ 24 * k + 6) x.batch, polls := s.struckRecs (2 ^ 24 * k + 7) x.polls
    outs := (List.zip (List.range x.outs.length) x.outs).map (fun (y : Nat × Nat × Bool × List (BitVec 8)) => (y.2.1, y.2.2.1, s.struck (2 ^ 24 * k + 8 + 16 * y.1) y.2.2.2)) }
  let poll := fun (k : Nat) (x : WPoll) => { x with
    next := s.struckRes (2 ^ 24 * k + 9) x.next, shown := s.struckRes (2 ^ 24 * k + 10) x.shown, made := s.struckRes (2 ^ 24 * k + 11) x.made
    out := s.struckOut (2 ^ 24 * k + 12) x.out, ship := s.struckOut (2 ^ 24 * k + 13) x.ship }
  ({ s with wide := { w with
      ports := w.ports.map (fun (e : Nat × WPort) => (e.1, port e.1 e.2)), served := w.served.map (fun (e : Nat × WServed) => (e.1, serve e.1 e.2))
      polls := w.polls.map (fun (e : Nat × WPoll) => (e.1, poll e.1 e.2)) } }).drew

/-- A byte of global SRAM is stored: in the tunnel buffer region it meets the wide hub's records, or what they left. -/
def Chip.putByte (s : Chip) (a : Nat) (b : BitVec 8) : Chip :=
  let s := s.wrb a b
  if !inTunnel a then s
  else if s.flag Reg.WIDE_STAT_EN then s.strikeTunnel
  else if s.wide.left.isSome && !s.wide.wrote.contains a then { s with wide := { s.wide with wrote := a :: s.wide.wrote } }
  else s

/-- The WIDE block is disabled: its records stay in the region as they lie. -/
def Chip.tunnelLeave (s : Chip) : Wide :=
  if s.flag Reg.WIDE_STAT_EN then { s.wide with left := some (s.freeCnt, s.ctFine), wrote := [] } else s.wide

/-- The byte local software sees. -/
def Chip.ldb (s : Chip) (a : Nat) : BitVec 8 := s.sees (s.map a)

/-- The word local software sees; an address of a word is aligned. -/
def Chip.ldw (s : Chip) (a : Nat) : BitVec 32 := s.ldb (a + 3) ++ s.ldb (a + 2) ++ s.ldb (a + 1) ++ s.ldb a

/-- Is image byte x in the seal word of window w (R176)? -/
def Chip.inSeal (s : Chip) (w x : Nat) : Bool :=
  decide (x / 4 = (s.wk (Reg.GATE_WIN_LOCAL w) + 4 * s.wk (Reg.GATE_WIN_LEN w) - 4) / 4)

/-- A local write of bytes from an address within one word: it goes to the copy of the local view, and to a seal word of an
input window it refreshes the window (R176). -/
def Chip.stbs (s : Chip) (a : Nat) (l : List (BitVec 8)) : Chip :=
  let s := (List.zip (List.range l.length) l).foldl (fun s p => s.putByte (s.map (a + p.1)) p.2) s
  if a < 0x4000 ∧ l ≠ [] then
    match s.window 0 a with
    | some w => if s.inSeal w a then s.putWin Reg.GATE_IMG_FRESH w true else s
    | none => s
  else s

/-- Bytes written to global SRAM by a unit on the local side: none lands in a gate view (R174); the address wraps at 1 MiB. -/
def Chip.stMany (s : Chip) (a : Nat) (l : List (BitVec 8)) : Chip :=
  (List.zip (List.range l.length) l).foldl (fun s p =>
    let x := (a + p.1) % 2 ^ 20
    if gateView x then s else s.stbs x [p.2]) s

/-- Bytes of global SRAM as a unit on the local side reads them (R173). -/
def Chip.ldMany (s : Chip) (a n : Nat) : List (BitVec 8) := (List.range n).map (fun i => s.ldb ((a + i) % 2 ^ 20))

/-- A local write of one word. -/
def Chip.stw (s : Chip) (a : Nat) (v : BitVec 32) : Chip := s.stbs a (wordBytes v)

/-- The bytes the gate sees of the input image (R174). -/
def Chip.gateIn (s : Chip) (x n : Nat) : List (BitVec 8) :=
  (List.range n).map (fun i => s.rdb (imgPhys 0 (x + i) (s.copyB 0 (x + i) true)))

/-- The gate commits bytes to an output window; a byte of its seal word refreshes it (R176, R183). -/
def Chip.gateOut (s : Chip) (w x : Nat) (l : List (BitVec 8)) : Chip :=
  (List.zip (List.range l.length) l).foldl (fun s p =>
    let s := s.wrb (imgPhys 1 (x + p.1) (s.copyB 1 (x + p.1) true)) p.2
    if s.inSeal w (x + p.1) then s.putWin Reg.GATE_IMG_FRESH w true else s) s

/-- The gate writes a word through the output image's gate view (R174), which refreshes a window whose seal word it is (R176). -/
def Chip.gateStore (s : Chip) (a : Nat) (v : BitVec 32) : Chip :=
  match s.window 1 (a % 0x4000) with
  | some w => s.gateOut w (a % 0x4000) (wordBytes v)
  | none => s.wrbs (s.map a) (wordBytes v)

/-- Does a local access touch what the gate may hold (R174, R184): a byte of a live window, or a gate view? -/
def Chip.meetsGate (s : Chip) (a : Nat) : Bool :=
  decide (a < 0x10000) && (gateView a || (match s.window (a / 0x8000) (a % 0x4000) with
    | some w => s.wkB (Reg.GATE_WIN_LIVE w) | none => false))

/-- A local access to what the gate may hold stalls or does not, by the gate's own accesses of that cc: a free value (R184, log entry 6). -/
def Chip.liveStall (s : Chip) (a : Nat) : Chip :=
  if s.meetsGate a then (s.add Reg.GATE_IMG_STALL_CNT (s.free % 2)).drew else s

/-- The swap (R177): the node-wide selector and that of every refreshed non-live window flip, IMG_STALE is set anew, and every
refresh is cleared. -/
def Chip.swap (s : Chip) : Chip :=
  let s := s.put Reg.GATE_IMG_STAT_NSEL (1 - s.get Reg.GATE_IMG_STAT_NSEL)
  let s := s.each (List.range 128) (fun s w =>
    let fresh := s.winBit Reg.GATE_IMG_FRESH w
    let s := if fresh && !s.wkB (Reg.GATE_WIN_LIVE w) then s.putWin Reg.GATE_IMG_SEL w (!s.winBit Reg.GATE_IMG_SEL w) else s
    let s := if fresh then s.putWin Reg.GATE_IMG_STALE w false
      else if s.wkB (Reg.GATE_WIN_EN w) then (s.putWin Reg.GATE_IMG_STALE w true).inc Reg.GATE_IMG_STALE_CNT else s
    s.putWin Reg.GATE_IMG_FRESH w false)
  s.inc Reg.GATE_IMG_SWAP_CNT

/-- Window fields a pour may change (R182). -/
def winFields (w : Nat) : List Fld :=
  [Reg.GATE_WIN_LOCAL w, Reg.GATE_WIN_LEN w, Reg.GATE_WIN_DIR w, Reg.GATE_WIN_EN w, Reg.GATE_WIN_LIVE w]

/-- A window whose entry a pour of PG0 changed takes the node-wide selector as it stands after the coming swap, and counts as refreshed
for it (R182): an ordinary window flips with it, a live one never does. -/
def Chip.pourWindow (s : Chip) (w : Nat) : Chip :=
  let swaps := s.clk.serving && (s.get Reg.CLK_STATUS_SYNC == 2 || s.get Reg.CLK_STATUS_SYNC == 3)
  (s.putWin Reg.GATE_IMG_SEL w (s.flag Reg.GATE_IMG_STAT_NSEL != (s.wkB (Reg.GATE_WIN_LIVE w) && swaps))).putWin Reg.GATE_IMG_FRESH w true

/-- After a pour of PG0 (R182). -/
def Chip.pourWindows (s before : Chip) : Chip :=
  s.each (List.range 128) (fun s w => if (winFields w).any (fun f => s.wk f != before.wk f) then s.pourWindow w else s)

/-- IMG_STALE of the window that holds an output byte; a byte in no window has none, and counts as not stale (R185, DEDUCED). -/
def Chip.outStale (s : Chip) (x : Nat) : Bool :=
  match s.window 1 x with | some w => s.winBit Reg.GATE_IMG_STALE w | none => false

end Sys2Proof.Machine
end

