-- ==== Sys2Proof/Machine/Runners.lean ====
section
/-! DEFINITION. Runners (11_runners.md): storage, puts, takes, full-modes, refusals, overload. -/

namespace Sys2Proof.Machine

/-- Runner q. -/
def Chip.runner (s : Chip) (q : Nat) : Runner := s.runs.get {} q

/-- Set runner q. -/
def Chip.setRunner (s : Chip) (q : Nat) (r : Runner) : Chip := { s with runs := s.runs.put {} q r }

/-- Words per bank. -/
def Chip.runSize (s : Chip) (q : Nat) : Nat := s.get (Reg.RUN_CFG_SIZE q)

/-- The filling bank, 0 or 1. -/
def Chip.runFill (s : Chip) (q : Nat) : Nat := s.get (Reg.RUN_STAT_FILL q)

/-- Item kinds of a bank. -/
def Runner.kinds (r : Runner) (b : Nat) : List Nat := if b = 0 then r.k0 else r.k1

/-- Read offset of a bank. -/
def Runner.rd (r : Runner) (b : Nat) : Nat := if b = 0 then r.rd0 else r.rd1

/-- Set a bank's read offset and kinds. -/
def Runner.setBank (r : Runner) (b rd : Nat) (ks : List Nat) : Runner :=
  if b = 0 then { r with rd0 := rd, k0 := ks } else { r with rd1 := rd, k1 := ks }

/-- The storage address of item i of bank b (R244). -/
def Chip.runAddr (s : Chip) (q b i : Nat) : Nat :=
  0x50000 + 4 * ((s.get (Reg.RUN_CFG_BASE q) + b * s.runSize q + ((s.runner q).rd b + i) % s.runSize q) % 32768)

/-- Data words waiting in both banks (LEVEL.WORDS, R246). -/
def Chip.runWords (s : Chip) (q : Nat) : Nat :=
  ((s.runner q).k0 ++ (s.runner q).k1).countP (fun k => k != 2)

/-- Packets waiting in both banks (LEVEL.PKTS, R246). -/
def Chip.runPkts (s : Chip) (q : Nat) : Nat :=
  ((s.runner q).k0 ++ (s.runner q).k1).countP (fun k => k != 0)

/-- Swap the banks: the other bank fills, from its start (R248, R249). -/
def Chip.runSwap (s : Chip) (q : Nat) : Chip :=
  let b := 1 - s.runFill q
  (s.setRunner q ((s.runner q).setBank b 0 [])).put (Reg.RUN_STAT_FILL q) b

/-- Store an item at the tail of a bank. -/
def Chip.runStore (s : Chip) (q b kind val : Nat) : Chip :=
  let r := s.runner q
  let s := s.wrw (s.runAddr q b (r.kinds b).length) (BitVec.ofNat 32 val)
  let s := s.setRunner q { r.setBank b (r.rd b) (r.kinds b ++ [kind]) with lastStored := kind == 0 }
  if kind = 2 then s.put (Reg.RUN_STAT_C_DROP q) 0 else s

/-- Value of item i of bank b. -/
def Chip.runVal (s : Chip) (q b i : Nat) : Nat := (s.rdw (s.runAddr q b i)).toNat

/-- A loss of k items: LOST_CNT, and an overload episode when none runs (R252, R253, R260). -/
def Chip.runLose (s : Chip) (q k : Nat) : Chip :=
  if k = 0 then s else
  let now := s.ct.toNat + 1
  let s := s.add (Reg.RUN_LOST_CNT q) k
  let r := s.runner q
  let s := s.setRunner q { r with lastLoss := now }
  if s.flag (Reg.RUN_STAT_OVL q) then s else
  let s := (s.put (Reg.RUN_STAT_OVL q) 1).inc (Reg.RUN_OVL_CNT q)
  if r.lastEvt ≠ 0 ∧ now < r.lastEvt + 1000 * s.period then s.inc (Reg.RUN_OVL_SUPP_CNT q)
  else (s.setRunner q { s.runner q with lastEvt := now }).fire 59 (detail q 0)

/-- The run of items an eviction removes from the items behind a head gap: up to and including the first DATA_END or gap
marker; none where there is neither (R252). -/
def packetLen : List Nat → Option Nat
  | [] => none
  | k :: t => if k = 0 then (packetLen t).map (· + 1) else some 1

/-- How many items OVERWRITE evicts behind the head gap, and whether it evicted every data item because no packet ends
there (R252 steps 1 to 3): packets go until fewer than `room` items are left. -/
def evictLen (room : Nat) : Nat → List Nat → Nat × Bool
  | 0, ks => (ks.length, true)
  | fuel + 1, ks =>
    match packetLen ks with
    | none => (ks.length, true)
    | some n =>
      if (ks.drop n).length < room then (n, false)
      else let t := evictLen room fuel (ks.drop n); (n + t.1, t.2)

/-- OVERWRITE makes room in the full filling bank (R252); answers whether drop-to-end was turned on. -/
def Chip.runOverwrite (s : Chip) (q : Nat) : Bool × Chip :=
  let b := s.runFill q
  let r := s.runner q
  let ks := r.kinds b
  let h := match ks with | k :: _ => k == 2 | [] => false
  let rest := if h then ks.drop 1 else ks
  let off := b2n h
  let ev := evictLen (s.runSize q - 2) ks.length rest
  let n := ev.1
  let gone := (List.range n).map (fun i => (rest.getD i 0, s.runVal q b (off + i)))
  let data := gone.countP (fun g => g.1 != 2)
  let cnt := gone.foldl (fun t g => if g.1 = 2 then t + g.2 else t + 1) 0
  let old := if h then s.runVal q b 0 else 0
  let rd := (r.rd b + n + off + s.runSize q - 1) % s.runSize q
  let s := s.setRunner q { r.setBank b rd (2 :: rest.drop n) with lastStored := h && r.lastStored }
  let s := s.wrw (s.runAddr q b 0) (BitVec.ofNat 32 (min (old + cnt) 0xFFFFFFFF))
  let s := s.put (Reg.RUN_STAT_C_DROP q) 0
  let s := if ev.2 then s.put (Reg.RUN_STAT_P_DROP q) 1 else s
  (ev.2, s.runLose q data)

/-- Add a count to the gap marker at the tail of the filling bank. -/
def Chip.runAddTailGap (s : Chip) (q n : Nat) : Chip :=
  let b := s.runFill q
  let i := ((s.runner q).kinds b).length - 1
  s.wrw (s.runAddr q b i) (BitVec.ofNat 32 (min (s.runVal q b i + n) 0xFFFFFFFF))

/-- Is the tail item of the filling bank a gap marker? -/
def Chip.runTailGap (s : Chip) (q : Nat) : Bool := ((s.runner q).kinds (s.runFill q)).getLast? == some 2

/-- Store a gap marker at the tail of the filling bank as a put would (R248 steps 2 to 4; R253). -/
def Chip.runPutGap (s : Chip) (q val : Nat) : Chip :=
  let b := s.runFill q
  let n := ((s.runner q).kinds b).length
  if n + 1 < s.runSize q then s.runStore q b 2 val
  else if ((s.runner q).kinds (1 - b)).isEmpty then
    if n + 1 = s.runSize q then (s.runStore q b 2 val).runSwap q
    else let s := s.runSwap q; s.runStore q (s.runFill q) 2 val
  else if s.flag (Reg.RUN_CFG_MODE q) then
    if s.runTailGap q then s.runAddTailGap q val else s.runStore q b 2 val
  else
    let o := s.runOverwrite q
    if o.1 then o.2.runAddTailGap q val else o.2.runStore q b 2 val

/-- Drop an item under drop-to-end (R253): counted, added to the tail's gap marker, ended by a DATA_END. -/
def Chip.runDropItem (s : Chip) (q kind : Nat) : Chip :=
  let s := if s.runTailGap q then s else s.runPutGap q 0
  let s := if s.runTailGap q then s.runAddTailGap q 1 else
    -- the marker took the last word and the banks swapped: it is the draining bank's tail
    let b := 1 - s.runFill q
    let i := ((s.runner q).kinds b).length - 1
    s.wrw (s.runAddr q b i) (BitVec.ofNat 32 (min (s.runVal q b i + 1) 0xFFFFFFFF))
  let s := s.runLose q 1
  if kind = 1 then s.put (Reg.RUN_STAT_P_DROP q) 0 else s

/-- A put of DATA (0) or DATA_END (1) into an enabled runner (R248, R252 to R254). -/
def Chip.runPut (s : Chip) (q kind val : Nat) : Chip :=
  let s := s.setRunner q { s.runner q with lastPut := kind == 0 }
  if s.flag (Reg.RUN_STAT_P_DROP q) then s.runDropItem q kind
  else if s.flag (Reg.RUN_STAT_C_DROP q) then
    if kind = 1 then s.put (Reg.RUN_STAT_C_DROP q) 0 else s
  else
    let b := s.runFill q
    let n := ((s.runner q).kinds b).length
    if n + 1 < s.runSize q then s.runStore q b kind val
    else if ((s.runner q).kinds (1 - b)).isEmpty then
      if n + 1 = s.runSize q then (s.runStore q b kind val).runSwap q
      else let s := s.runSwap q; s.runStore q (s.runFill q) kind val
    else if s.flag (Reg.RUN_CFG_MODE q) then
      let s := if s.runTailGap q then s.runAddTailGap q 1 else s.runStore q b 2 1
      let s := s.runLose q 1
      if kind = 0 then s.put (Reg.RUN_STAT_P_DROP q) 1 else s
    else
      let o := s.runOverwrite q
      if o.1 then o.2.runDropItem q kind else o.2.runStore q b kind val

/-- Take the oldest item: kind and value, or none where nothing waits (R249). -/
def Chip.runTake (s : Chip) (q : Nat) : Option (Nat × Nat) × Chip :=
  let d := 1 - s.runFill q
  let s := if ((s.runner q).kinds d).isEmpty && !((s.runner q).kinds (s.runFill q)).isEmpty then s.runSwap q else s
  let d := 1 - s.runFill q
  let r := s.runner q
  match r.kinds d with
  | [] => (none, s)
  | k :: t => (some (k, s.runVal q d 0), s.setRunner q (r.setBank d ((r.rd d + 1) % s.runSize q) t))

/-- The place of a party among those that begin to wait in one cc: port H with the management function, then E0, then E1, and within a port
by engine number (R250, 12_locks_buffers_messages.md R263). -/
def portRank (w : Nat) : Nat := if w = 32 then 0 else w + 1

/-- When a party's last wait began. -/
def Chip.waitAt (s : Chip) (w : Nat) : Nat := if w = 32 then s.mgmt.waitAt else (s.eng w).waitAt

/-- A party joins a list of waiting parties: behind those that began to wait before this cc, and among those of this cc in the order of
ports (R249, 12_locks_buffers_messages.md R263). -/
def Chip.waitIn (s : Chip) (w : Nat) (l : List Nat) : List Nat :=
  let behind := fun x => s.waitAt x == s.ctFine + 1 && decide (portRank w < portRank x)
  l.filter (fun x => !behind x) ++ w :: l.filter behind

/-- A wait is cleared: the engine's instruction completes with this value in the next cc (10_sprue_instruction_set.md R243). -/
def Chip.grant (s : Chip) (e : Nat) (val upd : Nat) (z c v : Bool) (access : Nat) : Chip :=
  let x := s.eng e
  let d := match x.wait with
    | .runner _ d => d | .pool d => d | .lock _ d => d | .msg _ d => d | .event d => d | _ => 0
  s.setEng e { x with wait := .granted d (BitVec.ofNat 32 val) upd z c v access }

/-- Serve the parties that wait, oldest first, while items wait (R249). -/
def Chip.runServe (s : Chip) (q : Nat) : Nat → Chip
  | 0 => s
  | fuel + 1 =>
    match (s.runner q).waiters with
    | [] => s
    | w :: t =>
      match s.runTake q with
      | (none, s) => s
      | (some (k, v), s) =>
        let s := s.setRunner q { s.runner q with waiters := t }
        let s :=
          if w < 32 then s.grant w v 2 false (k != 0) (k == 2) 0
          else { (s.put (Reg.RUN_MGET_STAT q) k) with lastRead := s.lastRead.put 0 32 v, outcome := s.outcome.put 0 32 0 }
        s.runServe q fuel

/-- Is a party refused by the owner field (R255)? `flask` is none for a party in no flask. -/
def Chip.runRefuses (s : Chip) (q : Nat) (put : Bool) (flask : Option Nat) : Bool :=
  !s.flag (Reg.RUN_STAT_EN q) ||
  (if put then s.wkB (Reg.RUN_OWNER_PROD_V q) && flask != some (s.wk (Reg.RUN_OWNER_PROD q))
   else s.wkB (Reg.RUN_OWNER_CONS_V q) && flask != some (s.wk (Reg.RUN_OWNER_CONS q)))

/-- Restore a runner whose pointer copies differ (R259): what waited is lost, and counts in LOST_CNT alone. The model holds each pointer once:
between an upset and its detection lies nothing the model shows, and the count lost is that of the items that wait (log entry 64). -/
def Chip.runReset (s : Chip) (q : Nat) : Chip :=
  let w := s.runWords q
  let r := s.runner q
  let last := r.lastPut
  let s := s.setRunner q { r with rd0 := 0, rd1 := 0, k0 := [], k1 := [] }
  let s := s.put (Reg.RUN_STAT_FILL q) 0
  let s := (s.add (Reg.RUN_LOST_CNT q) w).runStore q 0 2 w
  let s := if last then s.put (Reg.RUN_STAT_P_DROP q) 1 else s
  let s := (s.put (Reg.RUN_STAT_C_DROP q) 0).inc (Reg.RUN_PTR_CNT q)
  s.fire 58 (detail q 0)

/-- A put of one item by a party in a flask: refused, or done (R248, R255). -/
def Chip.runPutBy (s : Chip) (r q kind val : Nat) (flask : Option Nat) (off : Nat) : Did :=
  if s.runRefuses q true flask then s.no r 6 q off
  else ((s.runPut q kind val).runServe q 34).ok

/-- Store the items of a packet in order. -/
def Chip.runPutAll (s : Chip) (q : Nat) : List (Nat × Nat) → Chip
  | [] => s
  | (k, v) :: t => (if k = 2 then (s.runPutGap q v) else s.runPut q k v).runPutAll q t

/-- A hardware producer's packet of items (kind, value): refused whole, counted once (R255), or stored; the answer says
whether it was taken. EVT, code 37, raises no reject event. -/
def Chip.hwPut (s : Chip) (q code : Nat) (flask : Option Nat) (items : List (Nat × Nat)) : Bool × Chip :=
  if s.runRefuses q true flask then
    let off := if (items.getLast?.map (·.1)) == some 1 then 0x20 else 0x1C
    (false, if code = 37 then s.inc (Reg.RUN_REJ_CNT q) else s.reject code 6 q off)
  else (true, (s.runPutAll q items).runServe q 34)

/-- The items of a packet of words, the last end-marked. -/
def packetItems : List Nat → List (Nat × Nat)
  | [] => []
  | [w] => [(1, w)]
  | w :: t => (0, w) :: packetItems t

/-- DROPP discards waiting data items up to and including the next DATA_END, stopping before a gap (R254). -/
def Chip.runDropPkt (s : Chip) (q : Nat) : Nat → Chip
  | 0 => s
  | fuel + 1 =>
    let d := 1 - s.runFill q
    let s := if ((s.runner q).kinds d).isEmpty && !((s.runner q).kinds (s.runFill q)).isEmpty then s.runSwap q else s
    let d := 1 - s.runFill q
    let r := s.runner q
    match r.kinds d with
    | [] => s.put (Reg.RUN_STAT_C_DROP q) 1
    | k :: t =>
      if k = 2 then s else
      let s := s.setRunner q (r.setBank d ((r.rd d + 1) % s.runSize q) t)
      if k = 1 then s else s.runDropPkt q fuel

/-- A DROPP by a party in a flask (R254, R255). -/
def Chip.runDroppBy (s : Chip) (r q : Nat) (flask : Option Nat) : Did :=
  if s.runRefuses q false flask then s.no r 6 q 0x24
  else (s.runDropPkt q 2049).ok

/-- Do two runs of storage words overlap? -/
def overlap (a n b m : Nat) : Bool := decide (a < b + m) && decide (b < a + n)

/-- CTL.ENABLE (R245). -/
def Chip.runEnable (s : Chip) (r q : Nat) : Did :=
  let base := s.get (Reg.RUN_CFG_BASE q)
  let size := s.runSize q
  let bad := size % 16 ≠ 0 ∨ size < 16 ∨ 1024 < size ∨ base % 16 ≠ 0 ∨ 32768 < base + 2 * size ∨ s.flag (Reg.RUN_STAT_EN q)
  let clash := (List.range 128).any (fun p => p != q && s.flag (Reg.RUN_STAT_EN p) &&
    overlap base (2 * size) (s.get (Reg.RUN_CFG_BASE p)) (2 * s.runSize p))
  if bad ∨ clash then s.no r 6 q 0x08
  else
    let x := s.runner q
    (((s.setRunner q { x with rd0 := 0, rd1 := 0, k0 := [], k1 := [], lastStored := false, lastPut := false }).put
      (Reg.RUN_STAT_FILL q) 0).put (Reg.RUN_STAT_EN q) 1).ok

/-- Release every waiter with a refusal (R258): value 0, Z 1 and REJECT for engines (10_sprue_instruction_set.md R234). -/
def Chip.runRelease (s : Chip) (q : Nat) : Chip :=
  let ws := (s.runner q).waiters
  let s := s.setRunner q { s.runner q with waiters := [] }
  s.each ws (fun s w => if w < 32 then s.grant w 0 2 true false false 1 else { s with outcome := s.outcome.put 0 32 1 })

/-- CTL.DISABLE (R258). -/
def Chip.runDisable (s : Chip) (q : Nat) : Chip :=
  if !s.flag (Reg.RUN_STAT_EN q) then s else
  let s := s.add (Reg.RUN_LOST_CNT q) (s.runWords q)
  let r := s.runner q
  let s := s.setRunner q { r with rd0 := 0, rd1 := 0, k0 := [], k1 := [], lastStored := false }
  (((s.put (Reg.RUN_STAT_P_DROP q) 0).put (Reg.RUN_STAT_C_DROP q) 0).put (Reg.RUN_STAT_EN q) 0).runRelease q

/-- The fence of a runner's producer flask or consumer flask (R257). -/
def Chip.runFence (s : Chip) (q f : Nat) : Chip :=
  let s :=
    if s.wkB (Reg.RUN_OWNER_PROD_V q) && s.wk (Reg.RUN_OWNER_PROD q) == f then
      let s := (s.setRunner q { s.runner q with pBy := f + 1 }).put (Reg.RUN_STAT_P_FENCED q) 1
      if s.flag (Reg.RUN_STAT_EN q) && (s.runner q).lastStored then
        let b := s.runFill q
        let full := decide (s.runSize q ≤ ((s.runner q).kinds b).length + 1) && !((s.runner q).kinds (1 - b)).isEmpty
        let s := if !full then s.runPutGap q 0
          else if s.flag (Reg.RUN_CFG_MODE q) then (if s.runTailGap q then s else s.runStore q b 2 0)
          else (s.runOverwrite q).2
        (s.put (Reg.RUN_STAT_P_DROP q) 1).runServe q 34
      else s
    else s
  if s.wkB (Reg.RUN_OWNER_CONS_V q) && s.wk (Reg.RUN_OWNER_CONS q) == f then
    (s.setRunner q { s.runner q with cBy := f + 1 }).put (Reg.RUN_STAT_C_FENCED q) 1
  else s

/-- A revive clears the bits that the flask's fence set, whoever owns the runner by now (R257). -/
def Chip.runRevive (s : Chip) (q f : Nat) : Chip :=
  let s := if (s.runner q).pBy = f + 1 then (s.setRunner q { s.runner q with pBy := 0 }).put (Reg.RUN_STAT_P_FENCED q) 0 else s
  if (s.runner q).cBy = f + 1 then (s.setRunner q { s.runner q with cBy := 0 }).put (Reg.RUN_STAT_C_FENCED q) 0 else s

/-- A party stops waiting at a runner. -/
def Chip.runUnwait (s : Chip) (q w : Nat) : Chip :=
  s.setRunner q { s.runner q with waiters := (s.runner q).waiters.filter (fun x => x != w) }

/-- Storage words held by enabled runners (USED). -/
def Chip.runUsed (s : Chip) : Nat :=
  (List.range 128).foldl (fun n q => if s.flag (Reg.RUN_STAT_EN q) then n + 2 * s.runSize q else n) 0

/-! The commands -/

/-- RUN.CTL.ENABLE as a command. -/
def cmdRunnerEnable (r : Requester) (q : Nat) (s : Chip) : Chip :=
  s.command r (Reg.RUN_CTL_ENABLE q).addr (fun s => s.runEnable r.code q)

/-- RUN.CTL.DISABLE as a command. -/
def cmdRunnerDisable (r : Requester) (q : Nat) (s : Chip) : Chip :=
  s.command r (Reg.RUN_CTL_DISABLE q).addr (fun s => (s.runDisable q).ok)

/-- MPUT and MPUT_E, for the management function only (R251). -/
def Chip.runMput (s : Chip) (r : Requester) (q kind val : Nat) : Did :=
  if r = .mgmt then s.runPutBy 32 q kind val (some 52) (if kind = 1 then 0x20 else 0x1C) else (.refused, s)

/-- MDROPP, for the management function only (R251). -/
def Chip.runMdropp (s : Chip) (r : Requester) (q : Nat) : Did :=
  if r = .mgmt then s.runDroppBy 32 q (some 52) else (.refused, s)

/-- A read of MGET (R251): the item, or a wait of at most 10 ms; for the management function only. -/
def Chip.runMget (s : Chip) (r : Requester) (q : Nat) : Did :=
  if r ≠ .mgmt then (.refused, s)
  else if s.runRefuses q false (some 52) then s.no 32 6 q 0x14
  else
    let s := s.setRunner q { s.runner q with waiters := s.waitIn 32 (s.runner q).waiters }
    ({ s with mgmt := { s.mgmt with waitAt := s.ctFine + 1 } }.runServe q 34).ok

/-- An MGET read has waited 10 ms without an item (R251): EMPTY, the read returns 0. -/
def Chip.runMgetTimeout (s : Chip) (q : Nat) : Chip :=
  if (s.runner q).waiters.contains 32 then
    let s := (s.runUnwait q 32).put (Reg.RUN_MGET_STAT q) 3
    { s with lastRead := s.lastRead.put 0 32 0, outcome := s.outcome.put 0 32 4 }
  else s

/-- The sweep, or an operation, finds a runner's pointer copies different (R259). -/
def Chip.runPointerCheck (s : Chip) (q : Nat) : Chip :=
  if s.coreUp && s.flag (Reg.RUN_STAT_EN q) then (s.runReset q).runServe q 34 else s

/-- One cycle period of chain time has passed without a loss: the episode ends (R260). -/
def Chip.runOvlEnd (s : Chip) (q : Nat) : Chip :=
  if s.flag (Reg.RUN_STAT_OVL q) && decide ((s.runner q).lastLoss + s.period ≤ s.ct.toNat + 1) then
    s.put (Reg.RUN_STAT_OVL q) 0
  else s

end Sys2Proof.Machine
end

