-- ==== Sys2Proof/Machine/Sync.lean ====
section
/-! DEFINITION. Locks, buffers and mailboxes (12_locks_buffers_messages.md). -/

namespace Sys2Proof.Machine

/-- The flask of an owner code (Table SYNC-1). -/
def ownerFlask (c : Nat) : Option Nat := if c < 32 then some c else if c = 32 then some 52 else none

/-- Is the flask of an owner code fenced or being fenced? -/
def Chip.ownerFenced (s : Chip) (c : Nat) : Bool :=
  match ownerFlask c with | some f => !s.active f | none => false

/-! Locks -/

/-- Lock owner. -/
def Chip.lockOwner (s : Chip) (l : Nat) : Nat := s.get (Reg.SYNC_LOCK_STAT_OWNER l)

/-- Lock poison. -/
def Chip.lockPoison (s : Chip) (l : Nat) : Bool := s.flag (Reg.SYNC_LOCK_STAT_POISON l)

/-- Engines waiting for a lock. -/
def Chip.lockWaiters (s : Chip) (l : Nat) : List Nat := s.sync.lockWait.get [] l

/-- Set the engines waiting for a lock. -/
def Chip.setLockWaiters (s : Chip) (l : Nat) (ws : List Nat) : Chip :=
  { s with sync := { s.sync with lockWait := s.sync.lockWait.put [] l ws } }

/-- An acquisition of a free lock: the owner is written, the answer is 0, or 1 when poisoned (R262). -/
def Chip.lockTake (s : Chip) (l who : Nat) : Nat × Chip :=
  (b2n (s.lockPoison l), s.put (Reg.SYNC_LOCK_STAT_OWNER l) who)

/-- A try: 0 acquired, 1 acquired poisoned, 2 held by another (R262, Table ISA-10). -/
def Chip.lockTry (s : Chip) (l who : Nat) : Nat × Chip :=
  if s.lockOwner l = 63 then s.lockTake l who else (2, s)

/-- A release hands the lock to the oldest waiter with its poison, or frees it (R263). -/
def Chip.lockPass (s : Chip) (l : Nat) : Chip :=
  match s.lockWaiters l with
  | [] => s.put (Reg.SYNC_LOCK_STAT_OWNER l) 63
  | w :: t =>
    let s := s.setLockWaiters l t
    let p := b2n (s.lockPoison l)
    (s.put (Reg.SYNC_LOCK_STAT_OWNER l) w).grant w p 1 (p == 0) false false 0

/-- A lock is taken from its owner (R265): released POISONED, or held by the warden for a fenced flask when HOLD is 1. -/
def Chip.lockSeize (s : Chip) (l : Nat) (hold : Option Nat) : Chip :=
  let s := (s.put (Reg.SYNC_LOCK_STAT_POISON l) 1).inc Reg.SYNC_LPOISON_CNT
  let s := s.fire 60 (detail l 0)
  match hold with
  | some f =>
    if bit (s.wk (Reg.SYNC_LOCK_HOLD (l / 32))) (l % 32) then
      { (s.put (Reg.SYNC_LOCK_STAT_OWNER l) 33) with warden := { s.warden with locks := s.warden.locks.ins l f } }
    else s.lockPass l
  | none => s.lockPass l

/-- Every lock an owner holds is taken from it (R265). -/
def Chip.locksSeize (s : Chip) (who : Nat) (hold : Option Nat) : Chip :=
  s.each (List.range 256) (fun s l => if s.lockOwner l = who then s.lockSeize l hold else s)

/-- The warden releases the locks it holds for a flask, POISONED (R265, R295). -/
def Chip.locksRevive (s : Chip) (f : Nat) : Chip :=
  let held := s.warden.locks.filter (fun e => e.2 == f)
  let s := { s with warden := { s.warden with locks := s.warden.locks.filter (fun e => e.2 != f) } }
  s.each held (fun s e => s.lockPass e.1)

/-! Buffers -/

/-- Buffers on the free list (STAT.FREE). -/
def Chip.poolFree (s : Chip) : Nat := (2048 - s.sync.fresh) + s.sync.freed.length

/-- Owner of a buffer. -/
def Chip.bufOwner (s : Chip) (b : Nat) : Nat := s.get (Reg.SYNC_BUF_OWN b)

/-- Buffers an owner holds. -/
def Chip.owned (s : Chip) (who : Nat) : Nat := (List.range 2048).countP (fun b => s.bufOwner b == who)

/-- Take the buffer at the head of the free list (R268). -/
def Chip.poolPop (s : Chip) (who : Nat) : Option (Nat × Chip) :=
  if s.sync.fresh < 2048 then
    some (s.sync.fresh, { (s.put (Reg.SYNC_BUF_OWN s.sync.fresh) who) with sync := { s.sync with fresh := s.sync.fresh + 1 } })
  else match s.sync.freed with
    | [] => none
    | b :: t => some (b, { (s.put (Reg.SYNC_BUF_OWN b) who) with sync := { s.sync with freed := t } })

/-- Does MAX_OWN alone bar an owner (R269)? -/
def Chip.quotaBars (s : Chip) (who : Nat) : Bool :=
  s.wkB Reg.SYNC_POOL_CFG_MAX_OWN && decide (s.wk Reg.SYNC_POOL_CFG_MAX_OWN ≤ s.owned who)

/-- Does the free list hold more than the gate's reserve (R269)? -/
def Chip.poolOpen (s : Chip) : Bool := decide (s.wk Reg.SYNC_POOL_CFG_GATE_RESV < s.poolFree)

/-- A failed allocation or inbound slot: the pool's overload episode (R272). -/
def Chip.poolFail (s : Chip) : Chip :=
  let now := s.ct.toNat + 1
  let s := { s with sync := { s.sync with lastFail := now } }
  if s.flag Reg.SYNC_STAT_OVL then s else
  let s := (s.put Reg.SYNC_STAT_OVL 1).inc Reg.SYNC_OVL_CNT
  if s.sync.lastEvt ≠ 0 ∧ now < s.sync.lastEvt + 1000 * s.period then s.inc Reg.SYNC_OVL_SUPP_CNT
  else ({ s with sync := { s.sync with lastEvt := now } }).fire 61 0

/-- An allocation: the buffer, or none with QUOTA_CNT and the overload episode counted (R268, R269, R272). -/
def Chip.poolAlloc (s : Chip) (who : Nat) : Option Nat × Chip :=
  if s.poolOpen && !s.quotaBars who then
    match s.poolPop who with | some (b, s) => (some b, s) | none => (none, s.poolFail)
  else
    let s := if s.poolOpen then s.inc Reg.SYNC_QUOTA_CNT else s
    (none, s.poolFail)

/-- Serve waiting allocations: oldest first among those to whom a buffer is available (R268). -/
def Chip.poolServe (s : Chip) : Nat → Chip
  | 0 => s
  | fuel + 1 =>
    if !s.poolOpen then s else
    match s.sync.poolWait.find? (fun e => !s.quotaBars e) with
    | none => s
    | some e =>
      match s.poolPop e with
      | none => s
      | some (b, s) =>
        let s := { s with sync := { s.sync with poolWait := s.sync.poolWait.filter (fun x => x != e) } }
        (s.grant e b 1 false false false 0).poolServe fuel

/-- A buffer joins the tail of the free list. -/
def Chip.poolPush (s : Chip) (b : Nat) : Chip :=
  { (s.put (Reg.SYNC_BUF_OWN b) 63) with sync := { s.sync with freed := s.sync.freed ++ [b] } }

/-- A free by an owner code (R270): 0 Done, 1 double free, 2 foreign buffer. -/
def Chip.bufFree (s : Chip) (who b : Nat) : Nat × Chip :=
  if s.bufOwner b = 63 then (1, s.inc Reg.SYNC_DOUBLE_CNT)
  else if s.bufOwner b ≠ who then (2, s.inc Reg.SYNC_FOREIGN_CNT)
  else (0, (s.poolPush b).poolServe 32)

/-- A BGIVE by an owner code (R270): 0 Done, 2 foreign, 3 no such target, 4 fenced target. -/
def Chip.bufGive (s : Chip) (who b to_ : Nat) : Nat × Chip :=
  if s.bufOwner b ≠ who then (2, s.inc Reg.SYNC_FOREIGN_CNT)
  else if 32 < to_ then (3, s)
  else if s.ownerFenced to_ then (4, s)
  else (0, (s.put (Reg.SYNC_BUF_OWN b) to_).poolServe 32)

/-- The pool takes back every buffer of an owner, in ascending order (R271). -/
def Chip.poolReclaim (s : Chip) (who : Nat) : Chip :=
  let bs := (List.range 2048).filter (fun b => s.bufOwner b == who)
  ((s.each bs (fun s b => s.poolPush b)).add Reg.SYNC_RECLAIM_CNT bs.length).poolServe 32

/-! Mailboxes -/

/-- Mailbox m. -/
def Chip.mbx (s : Chip) (m : Nat) : Mbx := s.sync.mbx.get {} m

/-- Set mailbox m. -/
def Chip.setMbx (s : Chip) (m : Nat) (x : Mbx) : Chip := { s with sync := { s.sync with mbx := s.sync.mbx.put {} m x } }

/-- Mailbox kind in force; the boot ROM holds M63 inbound and M62 outbound while it waits for a chain image (R273; 04_power_up_to_service.md R80). -/
def Chip.mbxKind (s : Chip) (m : Nat) : Nat :=
  if s.boot.holdsMbx && m == 63 then 2 else if s.boot.holdsMbx && m == 62 then 3 else s.wk (Reg.SYNC_MBX_CFG_KIND m)

/-- Mailbox depth in force; a DEPTH of 0 counts as 1, above 128 as 128 (R273, R279). -/
def Chip.mbxDepth (s : Chip) (m : Nat) : Nat :=
  if s.boot.holdsMbx && m == 63 then 128 else if s.boot.holdsMbx && m == 62 then 8
  else min 128 (max 1 (s.wk (Reg.SYNC_MBX_CFG_DEPTH m)))

/-- May a flask send to m (R274)? -/
def Chip.maySend (s : Chip) (m flask : Nat) : Bool :=
  (s.mbxKind m == 1 || s.mbxKind m == 3) && (!s.wkB (Reg.SYNC_MBX_CFG_SEND_V m) || s.wk (Reg.SYNC_MBX_CFG_SEND m) == flask)

/-- May a flask receive from m (R274)? -/
def Chip.mayRecv (s : Chip) (m flask : Nat) : Bool :=
  (s.mbxKind m == 1 || s.mbxKind m == 2) && (!s.wkB (Reg.SYNC_MBX_CFG_RECV_V m) || s.wk (Reg.SYNC_MBX_CFG_RECV m) == flask)

/-- Address of ring entry i (R273). -/
def mbxEntry (m i : Nat) : Nat := 0x70000 + m * 512 + 4 * (i % 128)

/-- An entry joins the tail of the ring; its buffer is the mailbox's, code 62 (R274, R275). -/
def Chip.mbxPush (s : Chip) (m buf len : Nat) : Chip :=
  let x := s.mbx m
  let s := s.wrw (mbxEntry m (x.head + x.count)) (BitVec.ofNat 32 (buf % 2048 + 65536 * (len % 256)))
  (s.setMbx m { x with count := x.count + 1 }).put (Reg.SYNC_BUF_OWN buf) 62

/-- The oldest message: buffer and length. -/
def Chip.mbxPeek (s : Chip) (m : Nat) : Option (Nat × Nat) :=
  let x := s.mbx m
  if x.count = 0 then none else
  let w := (s.rdw (mbxEntry m x.head)).toNat
  some (bits w 10 0, bits w 23 16)

/-- The oldest message leaves the ring. -/
def Chip.mbxPop (s : Chip) (m : Nat) : Chip :=
  let x := s.mbx m
  s.setMbx m { x with head := (x.head + 1) % 128, count := x.count - 1 }

/-- A receiver's word for a message: buffer [10:0], length [23:16]. -/
def msgWord (b : Nat × Nat) : Nat := b.1 + 65536 * b.2

/-- Hand the oldest messages to the waiting receivers, oldest first (R274). -/
def Chip.mbxServe (s : Chip) (m : Nat) : Nat → Chip
  | 0 => s
  | fuel + 1 =>
    match (s.mbx m).waiters, s.mbxPeek m with
    | w :: t, some b =>
      let s := s.mbxPop m
      let s := (s.setMbx m { s.mbx m with waiters := t }).put (Reg.SYNC_BUF_OWN b.1) w
      (s.grant w (msgWord b) 0 false false false 0).mbxServe m fuel
    | _, _ => s

/-- A send by a party (R274): 0 Done, 1 full, 2 may not send. The caller owns the buffer and the length is good. -/
def Chip.mbxSend (s : Chip) (m buf len flask : Nat) : Nat × Chip :=
  if !s.maySend m flask then (2, s)
  else if s.mbxDepth m ≤ (s.mbx m).count + (s.mbx m).resv then (1, s)
  else (0, ((s.mbxPush m buf len).mbxServe m 32).poolServe 32)

/-- A refusal at a mailbox: counted, with the SYNC reject event (R274, R67). -/
def Chip.mbxRefuse (s : Chip) (r off : Nat) : Chip := (s.inc Reg.SYNC_MBX_REF_CNT).reject r 7 0 off

/-- Remove a party's waits from every lock, runner, pool and mailbox queue (13_flasks_and_warden.md Table FLASK-3). -/
def Chip.unwaitAll (s : Chip) (w : Nat) : Chip :=
  let s := s.each (List.range 128) (fun s q => s.runUnwait q w)
  let s := s.each (List.range 64) (fun s m => s.setMbx m { s.mbx m with waiters := (s.mbx m).waiters.filter (fun x => x != w) })
  let lw := s.sync.lockWait.map (fun e => (e.1, e.2.filter (fun x => x != w)))
  { s with sync := { s.sync with lockWait := lw.filter (fun e => !e.2.isEmpty), poolWait := s.sync.poolWait.filter (fun x => x != w) } }

/-! Commands of the management function (R513) -/

/-- The faults of the management function against F52 (R264, R270, R274). -/
def Chip.mgmtMisuse (s : Chip) (cause det : Nat) : Did := (.refused, s.fault 52 cause det 0)

/-- LOCK_CMD OP 0 (R264). -/
def Chip.syncLockTry (s : Chip) (r : Requester) (l : Nat) : Did :=
  if r ≠ .mgmt then (.refused, s)
  else if s.lockOwner l = 32 then s.mgmtMisuse 2 l
  else let t := s.lockTry l 32; (t.2.put Reg.SYNC_LOCK_RES t.1).ok

/-- LOCK_CMD OP 1 (R264): a release of a lock not owned, or still poisoned, is misuse. -/
def Chip.syncLockRel (s : Chip) (r : Requester) (l : Nat) : Did :=
  if r ≠ .mgmt then (.refused, s)
  else if s.lockOwner l ≠ 32 ∨ s.lockPoison l then s.mgmtMisuse 2 l
  else (s.lockPass l).ok

/-- LOCK_CMD OP 2 (R262, R264): a clear of poison by a party that does not own the lock is misuse. -/
def Chip.syncLockClr (s : Chip) (r : Requester) (l : Nat) : Did :=
  if r ≠ .mgmt then (.refused, s)
  else if s.lockOwner l ≠ 32 then s.mgmtMisuse 2 l
  else (s.put (Reg.SYNC_LOCK_STAT_POISON l) 0).ok

/-- A read of B_ALLOC (R268, R269, R513). -/
def Chip.syncAlloc (s : Chip) (r : Requester) : Did :=
  if r ≠ .mgmt then (.refused, s) else
  let a := s.poolAlloc 32
  let v := match a.1 with | some b => b | none => 0xFFFFFFFF
  ({ a.2 with lastRead := a.2.lastRead.put 0 32 v }).ok

/-- B_FREE (R270). -/
def Chip.syncFree (s : Chip) (r : Requester) (b : Nat) : Did :=
  if r ≠ .mgmt then (.refused, s) else
  let t := s.bufFree 32 b
  if t.1 = 0 then t.2.ok else t.2.mgmtMisuse 3 b

/-- B_GIVE (R270). -/
def Chip.syncGive (s : Chip) (r : Requester) (b to_ : Nat) : Did :=
  if r ≠ .mgmt then (.refused, s) else
  let t := s.bufGive 32 b to_
  if t.1 = 0 then t.2.ok else if t.1 = 4 then t.2.no 32 7 0 0x10 else t.2.mgmtMisuse 3 b

/-- M_SEND: buffer [10:0], length [23:16], mailbox [29:24] (R274). -/
def Chip.syncSend (s : Chip) (r : Requester) (v : Nat) : Did :=
  if r ≠ .mgmt then (.refused, s) else
  let b := bits v 10 0
  let len := bits v 23 16
  if s.bufOwner b ≠ 32 ∨ len = 0 ∨ 128 < len then s.mgmtMisuse 3 b else
  let t := s.mbxSend (bits v 29 24) b len 52
  if t.1 = 0 then t.2.ok else (.reject, t.2.mbxRefuse 32 0x20)

/-- M_RECV_SEL (R513). -/
def Chip.syncSel (s : Chip) (r : Requester) (m : Nat) : Did :=
  if r ≠ .mgmt then (.refused, s) else ({ s with sync := { s.sync with sel := m } }).ok

/-- A read of M_RECV (R274). -/
def Chip.syncRecv (s : Chip) (r : Requester) : Did :=
  if r ≠ .mgmt then (.refused, s) else
  let m := s.sync.sel
  if !s.mayRecv m 52 then (.reject, s.mbxRefuse 32 0x28) else
  match s.mbxPeek m with
  | none => ({ s with lastRead := s.lastRead.put 0 32 0xFFFFFFFF }).ok
  | some b =>
    let s := (s.mbxPop m).put (Reg.SYNC_BUF_OWN b.1) 32
    ({ s with lastRead := s.lastRead.put 0 32 (msgWord b) }).ok

/-- MBX_CTL.FLUSH (R278): the messages' buffers return to the free list, waiters are released with a refusal. -/
def Chip.mbxFlush (s : Chip) (m : Nat) : Chip :=
  let n := (s.mbx m).count
  let bufs := (List.range n).map (fun i => bits (s.rdw (mbxEntry m ((s.mbx m).head + i))).toNat 10 0)
  let ws := (s.mbx m).waiters
  let s := s.setMbx m { s.mbx m with head := ((s.mbx m).head + n) % 128, count := 0, waiters := [] }
  let s := (s.each bufs (fun s b => s.poolPush b)).add Reg.SYNC_FLUSH_CNT n
  (s.each ws (fun s w => s.grant w 0xFFFFFFFF 0 false false false 1)).poolServe 32

/-- One cycle period without a pool failure: the episode ends (R272). -/
def Chip.poolOvlEnd (s : Chip) : Chip :=
  if s.flag Reg.SYNC_STAT_OVL && decide (s.sync.lastFail + s.period ≤ s.ct.toNat + 1) then s.put Reg.SYNC_STAT_OVL 0 else s

end Sys2Proof.Machine
end

