-- ==== Sys2Proof/Machine/Can.lean ====
section
/-! DEFINITION. The CAN controllers and their transport sessions (21_isobus_bridge.md R451 to R465). What the chapter takes from
ISO 11898-1 and ISO 11783-3 (error counts, parameter groups, control bytes) is PRESUMED (log entry 17). -/

namespace Sys2Proof.Machine

/-- Controller c. -/
def Chip.cn (s : Chip) (c : Nat) : Can := s.can.get {} c

/-- Set controller c. -/
def Chip.setCn (s : Chip) (c : Nat) (x : Can) : Chip := { s with can := s.can.put {} c x }

/-- Session i of controller c. -/
def Chip.session (s : Chip) (c i : Nat) : CanSess := (s.cn c).sess.get {} i

/-- Set session i of controller c. -/
def Chip.setSession (s : Chip) (c i : Nat) (x : CanSess) : Chip := s.setCn c { s.cn c with sess := (s.cn c).sess.put {} i x }

/-- Is controller c on the bus: enabled, error-active or error-passive, neither fenced nor under test (R453, R464, R465)? -/
def Chip.canLive (s : Chip) (c : Nat) : Bool :=
  s.coreUp && s.flag (Reg.CAN_STAT_EN c) && decide (s.get (Reg.CAN_STAT_STATE c) ≤ 1) && s.active (43 + c) && !s.occCan c

/-- Does controller c drive the bus in its mode? A reserved MODE 3 counts as LISTEN (log entry 13). -/
def Chip.canDrives (s : Chip) (c : Nat) : Bool := s.get (Reg.CAN_CFG_MODE c) == 0 || s.get (Reg.CAN_CFG_MODE c) == 2

/-! Transmit buffers (R458, R459) -/

/-- The identifier of a transmit buffer (Table CAN-2, word 1). -/
def Chip.canTxId (s : Chip) (c t : Nat) : Nat :=
  let w := (s.cn c).tx.get 0 (4 * t)
  if bit w 29 then w % 2 ^ 29 else w % 2 ^ 11

/-- The pending buffer that goes first: lowest identifier, as a number whatever its length (DEDUCED, log entry 17), then lowest number (R459). -/
def Chip.canFirst (s : Chip) (c : Nat) : Option Nat :=
  (List.range 8).foldl (fun m t =>
    if s.get (Reg.CAN_TXSTAT c t) ≠ 1 then m else
    match m with
    | none => some t
    | some u => if s.canTxId c t < s.canTxId c u then some t else m) none

/-- The controller begins arbitration with its first pending buffer, where none is on the bus. -/
def Chip.canArbitrate (s : Chip) (c : Nat) : Chip :=
  if s.canLive c && (s.cn c).onBus.isNone && !(s.cn c).offDue then s.setCn c { s.cn c with onBus := s.canFirst c, abort := false } else s

/-- GO of a buffer (R458): answers whether it was taken. -/
def Chip.canGo (s : Chip) (c t : Nat) : Bool × Chip :=
  if !s.flag (Reg.CAN_STAT_EN c) ∨ !s.canDrives c ∨ s.get (Reg.CAN_TXSTAT c t) = 1 then (false, s)
  else (true, (s.put (Reg.CAN_TXSTAT c t) 1).canArbitrate c)

/-- ABORT of a buffer (R458, R459). -/
def Chip.canAbort (s : Chip) (c t : Nat) : Bool × Chip :=
  if s.get (Reg.CAN_TXSTAT c t) ≠ 1 then (false, s)
  else if (s.cn c).onBus = some t then (true, s.setCn c { s.cn c with abort := true })
  else (true, s.put (Reg.CAN_TXSTAT c t) 3)

/-- Every pending buffer becomes aborted, and the controller goes recessive. -/
def Chip.canQuiet (s : Chip) (c : Nat) : Chip :=
  let s := s.each (List.range 8) (fun s t => if s.get (Reg.CAN_TXSTAT c t) = 1 then s.put (Reg.CAN_TXSTAT c t) 3 else s)
  (s.setCn c { s.cn c with onBus := none, abort := false, offDue := false, recover := false }).put (Reg.CAN_STAT_STATE c) 3

/-- One bit in ns, at least (R452): 1 + TSEG1 + TSEG2 quanta of BRP periods of 80 MHz; a BRP of 0 counts as 1. -/
def Chip.canBits (s : Chip) (c n : Nat) : Nat :=
  n * (1 + s.get (Reg.CAN_CFG_TSEG1 c) + s.get (Reg.CAN_CFG_TSEG2 c)) * max 1 (s.get (Reg.CAN_CFG_BRP c)) * 25 / 2

/-- Error-active or error-passive by the counts (R454). -/
def Chip.canErrState (s : Chip) (c : Nat) : Chip :=
  if 1 < s.get (Reg.CAN_STAT_STATE c) then s
  else s.putB (Reg.CAN_STAT_STATE c) (decide (128 ≤ s.get (Reg.CAN_STAT_TEC c)) || decide (128 ≤ s.get (Reg.CAN_STAT_REC c)))

/-! Sessions (R460 to R462) -/

/-- A session's descriptor goes to its runner (Table CAN-4); one that the runner refuses counts as a received frame's packet does (DEDUCED
from R456, log entry 17). -/
def Chip.sessDescr (s : Chip) (c i status : Nat) : Chip :=
  let x := s.session c i
  let w0 := s.get (Reg.CAN_SESS_PGN c i) + s.get (Reg.CAN_SESS_SA c i) * 2 ^ 18 + status * 2 ^ 26
  let w2 := s.get (Reg.CAN_SESS_DA c i) + i * 2 ^ 8 + x.packets * 2 ^ 11
  let r := s.hwPut (s.wk (Reg.CAN_SESS_DRUN c i)) 36 (some (43 + c)) (packetItems [w0, x.got, w2, x.last % 2 ^ 32])
  if r.1 then r.2 else r.2.inc (Reg.CAN_DROP_CNT c)

/-- A session becomes free. -/
def Chip.sessFree (s : Chip) (c i : Nat) : Chip := (s.put (Reg.CAN_SESS_STATE c i) 0).put (Reg.CAN_SESS_NEXT c i) 0

/-- A session closes with an outcome (R462). -/
def Chip.sessClose (s : Chip) (c i status : Nat) : Chip :=
  let s := s.sessDescr c i status
  (s.inc (if status = 0 then Reg.CAN_TP_DONE_CNT c else Reg.CAN_TP_FAIL_CNT c)).sessFree c i

/-- Is a session open? -/
def Chip.sessOpen (s : Chip) (c i : Nat) : Bool := s.get (Reg.CAN_SESS_STATE c i) != 0

/-- A session opens (R460): kind 1 TP, 2 ETP, 3 BAM. -/
def Chip.sessBegin (s : Chip) (c i kind pgn sa da size : Nat) : Chip :=
  let x := s.session c i
  let s := s.setSession c i { x with size := size, base := 0, got := 0, count := 0, packets := 0, last := s.ct.toNat }
  ((((s.put (Reg.CAN_SESS_STATE c i) kind).put (Reg.CAN_SESS_SA c i) sa).put (Reg.CAN_SESS_DA c i) da).put (Reg.CAN_SESS_NEXT c i) 1).put
    (Reg.CAN_SESS_PGN c i) pgn

/-- The open port of a session (R460). -/
def Chip.sessOpenPort (s : Chip) (c i size : Nat) : Bool × Chip :=
  let x := s.session c i
  let good := if x.etp then decide (1786 ≤ size) && decide (size ≤ 117440505) else decide (9 ≤ size) && decide (size ≤ 1785)
  if s.sessOpen c i ∨ !good then (false, s)
  else (true, s.sessBegin c i (if x.etp then 2 else 1) x.pgn x.sa x.da size)

/-- CLOSE of a session: of a free one it does nothing. -/
def Chip.sessClosePort (s : Chip) (c i : Nat) : Chip := if s.sessOpen c i then s.sessClose c i 5 else s

/-- A data packet of an open session (R461). -/
def Chip.sessPacket (s : Chip) (c i n : Nat) (payload : List (BitVec 8)) : Chip :=
  let x := s.session c i
  let next := s.get (Reg.CAN_SESS_NEXT c i)
  let kind := s.get (Reg.CAN_SESS_STATE c i)
  let store := fun s : Chip => s.stMany (s.wk (Reg.CAN_SESS_AREA c i) + (n - 1) * 7) payload
  if 1 ≤ n ∧ n < next ∧ kind ≠ 3 then (store s).setSession c i { x with last := s.ct.toNat }
  else if n ≠ next ∨ n = 0 ∨ (kind = 2 ∧ x.count < n) then s.sessClose c i 4
  else
    let got := min x.size (x.base + n * 7)
    let s := (store s).setSession c i { x with packets := n, got := got, last := s.ct.toNat }
    let s := s.put (Reg.CAN_SESS_NEXT c i) (n + 1)
    if x.size ≤ got then s.sessClose c i 0
    else if kind = 2 ∧ n = x.count then s.sessDescr c i 1
    else s

/-- An ETP.CM_DPO of a session: packet count and offset of the next window (R461). -/
def Chip.sessDpo (s : Chip) (c i count offset : Nat) : Chip :=
  (s.setSession c i { s.session c i with count := count, base := offset * 7, packets := 0 }).put (Reg.CAN_SESS_NEXT c i) 1

/-- The session, open in a kind, whose SA and DA a frame has. -/
def Chip.sessOf (s : Chip) (c sa da : Nat) (kind : Nat → Bool) : Option Nat :=
  (List.range 8).find? (fun i => s.sessOpen c i && kind (s.get (Reg.CAN_SESS_STATE c i)) && s.get (Reg.CAN_SESS_SA c i) == sa &&
    s.get (Reg.CAN_SESS_DA c i) == da)

/-- A frame filter f takes brings a BAM: the lowest free session with AUTO_BAM opens (R460). -/
def Chip.bam (s : Chip) (c sa : Nat) (data : List (BitVec 8)) : Chip :=
  let size := leNat ((data.drop 1).take 2)
  match (List.range 8).find? (fun i => !s.sessOpen c i && s.wkB (Reg.CAN_SESS_AUTO_BAM c i)) with
  | some i => s.sessBegin c i 3 (leNat ((data.drop 5).take 3) % 2 ^ 18) sa 0xFF size
  | none => s.inc (Reg.CAN_SESS_FULL_CNT c)

/-! Receiving (R455 to R457) -/

/-- Identifier word of a frame (Table CAN-2, word 1). -/
def idWord (f : CanFrame) : Nat :=
  (if f.ide then f.id.toNat else f.id.toNat % 2 ^ 11) + (if f.ide then 2 ^ 29 else 0) + (if f.rtr then 2 ^ 30 else 0)

/-- The filter that takes a frame (R455). -/
def Chip.canFilter (s : Chip) (c : Nat) (w : Nat) : Option Nat :=
  (List.range 64).find? (fun f => s.wkB (Reg.CAN_FILTER_EN c f) &&
    (w ^^^ s.wk (Reg.CAN_FILTER_ID c f)) &&& s.wk (Reg.CAN_FILTER_MASK c f) == 0)

/-- The eight data bytes of a frame; bytes beyond the DLC read 0, and a remote frame has none. -/
def frameBytes (f : CanFrame) : List (BitVec 8) :=
  let n := if f.rtr then 0 else min 8 f.dlc.toNat
  let l := f.data.take n
  l ++ List.replicate (8 - l.length) 0

/-- A frame delivered by filter i (R456, R457). -/
def Chip.canDeliver (s : Chip) (c i : Nat) (f : CanFrame) : Chip :=
  let d := frameBytes f
  let s := if s.wkB (Reg.CAN_FILTER_RUN_EN c i) then
      let r := s.hwPut (s.wk (Reg.CAN_FILTER_RUN c i)) 36 (some (43 + c))
        (packetItems [f.sof.toNat, idWord f, f.dlc.toNat + 16 * i, leNat (d.take 4), leNat (d.drop 4)])
      if r.1 then r.2 else r.2.inc (Reg.CAN_DROP_CNT c)
    else s
  if s.wkB (Reg.CAN_FILTER_SRAM_EN c i) then s.stMany (s.wk (Reg.CAN_FILTER_ADDR c i) / 8 * 8) d else s

/-- A frame the controller has received meets sessions and filters. -/
def Chip.canTake (s : Chip) (c : Nat) (f : CanFrame) : Chip :=
  let s := s.inc (Reg.CAN_RX_CNT c)
  let id := f.id.toNat
  let sa := id % 256
  let da := id / 256 % 256
  let pf := if f.ide && !f.rtr then id / 65536 % 256 else 0
  let d := frameBytes f
  let ctl := leNat (d.take 1)
  let pgn := leNat ((d.drop 5).take 3) % 2 ^ 18
  let data := if pf = 0xEB then s.sessOf c sa da (fun k => k != 2) else if pf = 0xC7 then s.sessOf c sa da (fun k => k == 2) else none
  match data with
  | some i => s.sessPacket c i ctl (d.drop 1)
  | none =>
    let t := s.canFilter c (idWord f)
    let s := match t with
      | some i => s.canDeliver c i f
      | none => s.inc (Reg.CAN_NOMATCH_CNT c)
    -- connection management that concerns an open session
    let s :=
      if pf = 0xC8 ∧ ctl = 22 then
        match s.sessOf c sa da (fun k => k == 2) with
        | some i => if s.get (Reg.CAN_SESS_PGN c i) = pgn then s.sessDpo c i (leNat ((d.drop 1).take 1)) (leNat ((d.drop 2).take 3)) else s
        | none => s
      else if (pf = 0xEC ∨ pf = 0xC8) ∧ ctl = 255 then
        match s.sessOf c sa da (fun k => (k == 2) == (pf == 0xC8)) with
        | some i => if s.get (Reg.CAN_SESS_PGN c i) = pgn then s.sessClose c i 3 else s
        | none => s
      else s
    match t with
    | some i => if pf = 0xEC ∧ ctl = 32 ∧ s.wkB (Reg.CAN_FILTER_ASSIST c i) then s.bam c sa d else s
    | none => s

/-- CAN_FRAME_RECEIVE (R456): a valid frame of another node on the bus; REC falls as ISO 11898-1 lays down, from above 127 to a value
between 119 and 127 which it leaves free (log entries 6, 17). -/
def Chip.canReceive (s : Chip) (c : Nat) (f : CanFrame) : Chip :=
  if !s.canLive c ∨ s.get (Reg.CAN_CFG_MODE c) = 2 then s else
  let rec_ := s.get (Reg.CAN_STAT_REC c)
  let s := (s.put (Reg.CAN_STAT_REC c) (if 127 < rec_ then 119 + s.free % 9 else rec_ - 1)).canErrState c
  (if 127 < rec_ then s.drew else s).canTake c f

/-- CAN_BUS_ERROR while receiving (R454). -/
def Chip.canBusError (s : Chip) (c : Nat) (dom : Bool) : Chip :=
  if !s.canLive c then s else
  let s := (s.put (Reg.CAN_STAT_REC c) (min 255 (s.get (Reg.CAN_STAT_REC c) + (if dom then 8 else 1)))).canErrState c
  if s.get (Reg.CAN_CFG_MODE c) = 0 then s.inc (Reg.CAN_ERRFRAME_CNT c) else s

/-- The frame of a transmit buffer, for LOOPBACK; its start of frame lies at a time the outcome does not tell (a free value). -/
def Chip.canOwnFrame (s : Chip) (c t : Nat) : CanFrame :=
  let w := fun i => (s.cn c).tx.get 0 (4 * t + i)
  ⟨BitVec.ofNat 29 (w 0), bit (w 0) 29, bit (w 0) 30, BitVec.ofNat 4 (w 1), natBytes 4 (w 2) ++ natBytes 4 (w 3), BitVec.ofNat 32 s.free⟩

/-- CAN_TX_COMPLETE (R454, R459). An error-passive transmitter whose frame no one acknowledged keeps its TEC (ISO 11898-1); which error it
was the row does not tell: a free value (log entries 6, 17). -/
def Chip.canTxDone (s : Chip) (c : Nat) (o : CanTxOutcome) : Chip :=
  if !s.canLive c then s else
  match (s.cn c).onBus with
  | none => s
  | some t =>
    let ab := (s.cn c).abort
    let s := s.setCn c { s.cn c with onBus := none, abort := false }
    let s := match o with
      | .sent =>
        let s := ((s.put (Reg.CAN_TXSTAT c t) 2).inc (Reg.CAN_TX_CNT c)).put (Reg.CAN_STAT_TEC c) (s.get (Reg.CAN_STAT_TEC c) - 1)
        let s := s.canErrState c
        if s.get (Reg.CAN_CFG_MODE c) = 2 then (s.drew).canTake c (s.canOwnFrame c t) else s
      | .lostArbitration => if ab then s.put (Reg.CAN_TXSTAT c t) 3 else s
      | .error =>
        let s := if ab then s.put (Reg.CAN_TXSTAT c t) 3 else s
        let passive := s.get (Reg.CAN_STAT_STATE c) == 1
        let tec := s.get (Reg.CAN_STAT_TEC c) + (if passive && s.free % 2 == 1 then 0 else 8)
        let s := if passive then s.drew else s
        let s := (s.put (Reg.CAN_STAT_TEC c) (min 255 tec)).inc (Reg.CAN_ERRFRAME_CNT c)
        (if 255 < tec then s.setCn c { s.cn c with offDue := true } else s).canErrState c
    s.canArbitrate c

/-- CAN_BUS_OFF (R454): TEC has passed 255. -/
def Chip.canBusOff (s : Chip) (c : Nat) : Chip :=
  if !s.canLive c || !(s.cn c).offDue then s else
  let s := s.setCn c { s.cn c with offDue := false, onBus := none, abort := false, recover := s.flag (Reg.CAN_CFG_AUTO_BO c), since := s.ct.toNat }
  ((s.put (Reg.CAN_STAT_STATE c) 2).inc (Reg.CAN_BUSOFF_CNT c)).fire 77 (detail c 0)

/-- CTL.RECOVER (R454). -/
def Chip.canRecover (s : Chip) (r c : Nat) : Did :=
  if s.get (Reg.CAN_STAT_STATE c) ≠ 2 ∨ !s.active (43 + c) then s.no r 16 c 0x0004
  else if (s.cn c).recover then s.ok else (s.setCn c { s.cn c with recover := true, since := s.ct.toNat }).ok

/-- The controller enters error-active with both counts at 0. -/
def Chip.canJoin (s : Chip) (c : Nat) : Chip :=
  let s := s.setCn c { s.cn c with recover := false, offDue := false }
  (((s.put (Reg.CAN_STAT_STATE c) 0).put (Reg.CAN_STAT_TEC c) 0).put (Reg.CAN_STAT_REC c) 0).canArbitrate c

/-- CAN_BUS_OFF_RECOVERED (R454): no earlier than 128 times 11 bits after the recovery began. -/
def Chip.canRecovered (s : Chip) (c : Nat) : Chip :=
  if s.coreUp && s.get (Reg.CAN_STAT_STATE c) == 2 && (s.cn c).recover then (s.timeTo ((s.cn c).since + s.canBits c 1408)).canJoin c else s

/-- CAN_INTEGRATED (R453): no earlier than 11 bits after the integration began. -/
def Chip.canIntegrated (s : Chip) (c : Nat) : Chip :=
  if s.coreUp && s.flag (Reg.CAN_STAT_EN c) && s.get (Reg.CAN_STAT_STATE c) == 3 && s.active (43 + c) && !s.occCan c then
    (s.timeTo ((s.cn c).since + s.canBits c 11)).canJoin c
  else s

/-- An enabled controller joins the bus afresh: it integrates before it enters error-active (R453, R464, R465). -/
def Chip.canRejoin (s : Chip) (c : Nat) : Chip :=
  if !s.flag (Reg.CAN_STAT_EN c) then s else
  (s.setCn c { s.cn c with onBus := none, abort := false, offDue := false, recover := false, since := s.ct.toNat }).put (Reg.CAN_STAT_STATE c) 3

/-- CTL.ENABLE (R452, R453). -/
def Chip.canEnable (s : Chip) (r c : Nat) : Did :=
  let t1 := s.get (Reg.CAN_CFG_TSEG1 c)
  let t2 := s.get (Reg.CAN_CFG_TSEG2 c)
  let sj := s.get (Reg.CAN_CFG_SJW c)
  let q := 1 + t1 + t2
  if q < 8 ∨ 25 < q ∨ t1 < 2 ∨ 63 < t1 ∨ t2 < 2 ∨ 16 < t2 ∨ sj < 1 ∨ t2 < sj ∨ !s.active (43 + c) then s.no r 16 c 0x0004
  else
    ((s.put (Reg.CAN_STAT_EN c) 1).canRejoin c).ok

/-- CTL.DISABLE (R462, Table CAN-6). -/
def Chip.canDisable (s : Chip) (c : Nat) : Did :=
  let s := (s.put (Reg.CAN_STAT_EN c) 0).canQuiet c
  (s.each (List.range 8) (fun s i => s.sessClosePort c i)).ok

/-- SESSION_TIMEOUT (R462): 750 ms since the open or the last packet. -/
def Chip.sessTimeout (s : Chip) (c i : Nat) : Chip :=
  if s.coreUp && s.sessOpen c i then (s.timeTo ((s.session c i).last + 750000000)).sessClose c i 2 else s

/-- A fence of a controller's flask, or a test that takes it (R464, R465): off the bus, buffers aborted, sessions freed. -/
def Chip.canFence (s : Chip) (c : Nat) : Chip := (s.canQuiet c).each (List.range 8) (fun s i => s.sessFree c i)

/-- The word an engine reads at a CAN port (Table CAN-3). -/
def Chip.canPortRead (s : Chip) (c off : Nat) : Nat :=
  if off < 0x80 then
    let t := off / 16
    let w := off % 16
    if w < 4 then (s.cn c).tx.get 0 (4 * t + w) else if w = 4 then s.get (Reg.CAN_TXSTAT c t) else 0
  else if off < 0xA0 then
    let i := (off - 0x80) / 4
    match (off - 0x80) % 4 with
    | 0 => s.get (Reg.CAN_SESS_STATE c i) + 8 * s.get (Reg.CAN_SESS_SA c i) + 2 ^ 11 * s.get (Reg.CAN_SESS_DA c i)
        + 2 ^ 19 * s.get (Reg.CAN_SESS_NEXT c i)
    | 1 => s.get (Reg.CAN_SESS_PGN c i)
    | _ => 0
  else if off = 0xC0 then
    s.get (Reg.CAN_STAT_EN c) + 2 * s.get (Reg.CAN_STAT_STATE c) + 256 * s.get (Reg.CAN_STAT_TEC c) + 65536 * s.get (Reg.CAN_STAT_REC c)
  else 0

/-- Is a CAN port one that Table CAN-3 lists? -/
def canPortIs (off : Nat) : Bool := (decide (off < 0x80) && decide (off % 16 < 6)) || (decide (0x80 ≤ off) && decide (off < 0xA0)) || off == 0xC0

/-- A write of a CAN port (Table CAN-3): whether it was taken. Of a fenced controller it is REJECT (R282). -/
def Chip.canPortWrite (s : Chip) (c off v : Nat) : Bool × Chip :=
  if !s.active (43 + c) then (false, s)
  else if off < 0x80 then
    let t := off / 16
    match off % 16 with
    | 4 => s.canGo c t
    | 5 => s.canAbort c t
    | w => if w < 4 then (true, s.setCn c { s.cn c with tx := (s.cn c).tx.put 0 (4 * t + w) v }) else (false, s)
  else if off < 0xA0 then
    let i := (off - 0x80) / 4
    let x := s.session c i
    match (off - 0x80) % 4 with
    | 0 => (true, s.setSession c i { x with pgn := v % 2 ^ 18, etp := bit v 18 })
    | 1 => (true, s.setSession c i { x with sa := v % 256, da := v / 256 % 256 })
    | 2 => s.sessOpenPort c i v
    | _ => (true, s.sessClosePort c i)
  else (false, s)

/-- Would a pour of PG13 be refused (R463)? -/
def Chip.canBad (s : Chip) : Bool :=
  [0, 1].any (fun c =>
    (List.range 8).any (fun i => s.sessOpen c i &&
      (s.sh (Reg.CAN_SESS_AREA c i) != s.wk (Reg.CAN_SESS_AREA c i) || s.sh (Reg.CAN_SESS_DRUN c i) != s.wk (Reg.CAN_SESS_DRUN c i))) ||
    (List.range 64).any (fun f => s.sh (Reg.CAN_FILTER_ADDR c f) % 8 != 0))

end Sys2Proof.Machine
end

