-- ==== Sys2Proof/Machine/EngineCtl.lean ====
section
/-! DEFINITION. Control of the Sprue engines (09_sprue_engines.md): start, halt, reset, waits, watchdog, loader, claims. -/

namespace Sys2Proof.Machine

/-- Word w lies in a loop level's range, measured from its start (10_sprue_instruction_set.md R232). -/
def inLoop (start end_ w : Nat) : Bool := decide ((w + 2048 - start) % 2048 ≤ (end_ + 2048 - start) % 2048)

/-- The next program counter and loop stack at the end of the instruction at pc that transfers no control (R219, R232). -/
def advance (pc : Nat) (loops : List (Nat × Nat × Nat)) : Nat × List (Nat × Nat × Nat) :=
  match loops with
  | (st, en, n) :: t =>
    if pc = en then (if 1 < n then (st, (st, en, n - 1) :: t) else ((pc + 1) % 2048, t)) else ((pc + 1) % 2048, loops)
  | [] => ((pc + 1) % 2048, [])

/-- Pop the levels whose range does not hold the target (R232). -/
def popLoops (target : Nat) : List (Nat × Nat × Nat) → List (Nat × Nat × Nat)
  | [] => []
  | (st, en, n) :: t => if inLoop st en target then (st, en, n) :: t else popLoops target t

/-- Register i of an engine: g0 reads 0 (R218). -/
def Engine.reg (x : Engine) (i : Nat) : BitVec 32 := if i = 0 then 0 else x.g.get 0 i

/-- Write register i of an engine: a write to g0 is discarded (R218). -/
def Engine.setReg (x : Engine) (i : Nat) (v : BitVec 32) : Engine := if i = 0 then x else { x with g := x.g.put 0 i v }

/-- A requested halt takes hold at the end of an instruction (09_sprue_engines.md R197). -/
def Chip.haltIfAsked (s : Chip) (e : Nat) : Chip :=
  if (s.eng e).haltReq && (s.engState e == 1 || s.engState e == 2) then (s.unwaitAll e).setEngState e 0 else s

/-- The end of an instruction that transfers no control: pc, loop stack, INSTR_CNT, a requested halt (R197, R232). -/
def Chip.engNext (s : Chip) (e : Nat) : Chip :=
  let a := advance (s.get (Reg.ENG_PC e)) (s.eng e).loops
  let s := (s.setEng e { s.eng e with loops := a.2 }).put (Reg.ENG_PC e) a.1
  (s.inc (Reg.ENG_INSTR_CNT e)).haltIfAsked e

/-- The end of an instruction that transfers control; levels are popped except at calls (R232). -/
def Chip.engJump (s : Chip) (e target : Nat) (pop : Bool) : Chip :=
  let t := target % 2048
  let x := s.eng e
  let s := (s.setEng e { x with loops := if pop then popLoops t x.loops else x.loops }).put (Reg.ENG_PC e) t
  (s.inc (Reg.ENG_INSTR_CNT e)).haltIfAsked e

/-- Reload the watchdog to the working LIMIT (R203). -/
def Chip.kickWdog (s : Chip) (e : Nat) : Chip := s.put (Reg.ENG_WDOG_LEFT e) (s.wk (Reg.ENG_WDOG e))

/-- Start engine e (R203, R213). -/
def Chip.engStart (s : Chip) (e : Nat) : Chip := (s.setEngState e 1).kickWdog e

/-- A wait whose cause has cleared completes (10_sprue_instruction_set.md R243); one that made no access leaves ACCESS as it stands (R230). -/
def Chip.completeWait (s : Chip) (e : Nat) : Chip :=
  match (s.eng e).wait with
  | .granted d val upd z c v access =>
    let x := (s.eng e).setReg d val
    let x := if upd = 1 then { x with z := z } else if upd = 2 then { x with z := z, n := false, c := c, v := v } else x
    let s := s.setEng e { x with wait := .none }
    let s := s.setEngState e 1
    let s := if upd = 3 then (if s.wkB (Reg.ENG_CFG_MARK_KICK e) then s.kickWdog e else s) else if upd = 4 then s else s.put (Reg.ENG_ACCESS e) access
    s.engNext e
  | _ => s

/-- Enter WAIT with a cause code of STAT.WAIT_CAUSE (R195, R243). -/
def Chip.enterWait (s : Chip) (e cause : Nat) (w : Wait) : Chip :=
  let s := s.setEng e { s.eng e with wait := w, waitAt := s.ctFine + 1 }
  ((s.put (Reg.ENG_STAT_STATE e) 2).put (Reg.ENG_STAT_EN e) 1).put (Reg.ENG_STAT_WAIT_CAUSE e) cause

/-- Abandon what engine e waits for; a wait whose cause has already cleared completes first (R197, R243). -/
def Chip.abandonWait (s : Chip) (e : Nat) : Chip :=
  match (s.eng e).wait with
  | .granted _ _ _ _ _ _ _ => s.completeWait e
  | _ => (s.unwaitAll e).setEng e { (s.unwaitAll e).eng e with wait := .none }

/-- Halt engine e now, abandoning a wait (R197). -/
def Chip.engHaltNow (s : Chip) (e : Nat) : Chip := (s.abandonWait e).setEngState e 0

/-- May a requester write the CMD fields of ENG[e] (R199)? -/
def Chip.mayCtl (s : Chip) (r : Requester) (e : Nat) : Bool :=
  match r with
  | .engine x => x.val == e || (s.wkB (Reg.ENG_CFG_SUPV_EN e) && s.wk (Reg.ENG_CFG_SUPV_ENG e) == x.val)
  | _ => true

/-- Is a load to engine e running (R211)? -/
def Chip.loadingTo (s : Chip) (e : Nat) : Bool :=
  match s.loader.run with | some (t, _, _) => t == e | none => false

/-- Is engine e in TRAP after a software trap (R202)? -/
def Chip.softTrap (s : Chip) (e : Nat) : Bool := s.engState e == 3 && s.get (Reg.ENG_TRAP_CAUSE e) == 8

/-- CTL.START (R213). -/
def Chip.ctlStart (s : Chip) (r : Requester) (e : Nat) : Did :=
  if !s.mayCtl r e then (.refused, s)
  else if s.engState e ≠ 0 ∨ s.loadingTo e ∨ s.flag (Reg.ENG_STAT_ARM_START e) ∨ s.flag (Reg.ENG_STAT_ARM_HALT e) then
    s.no r.code 5 e 0x004
  else (s.engStart e).ok

/-- CTL.HALT (R197). -/
def Chip.ctlHalt (s : Chip) (r : Requester) (e : Nat) : Did :=
  if !s.mayCtl r e then (.refused, s)
  else if s.engState e = 4 ∨ (s.engState e = 3 ∧ ¬ s.softTrap e) then s.no r.code 5 e 0x004
  else if s.engState e = 0 then s.ok
  else if s.engState e = 3 then (s.setEngState e 0).ok
  else (s.setEng e { s.eng e with haltReq := true }).ok

/-- A requested halt takes effect (R197). -/
def Chip.engHalted (s : Chip) (e : Nat) : Chip :=
  if (s.eng e).haltReq && (s.engState e == 1 || s.engState e == 2) then s.engHaltNow e else s

/-- CTL.RESUME (R202): on at the word where the trap left the program counter (10_sprue_instruction_set.md R232, R241). -/
def Chip.ctlResume (s : Chip) (r : Requester) (e : Nat) : Did :=
  if !s.mayCtl r e then (.refused, s)
  else if ¬ s.softTrap e ∨ s.loadingTo e then s.no r.code 5 e 0x004
  else (s.setEngState e 1).ok

/-- The register values CTL.RESET gives (R198, R217): pc 0, g1 to g15, flags, ACC, loop stack, latch and pending set cleared, watchdog stopped. -/
def Chip.engClear (s : Chip) (e : Nat) : Chip :=
  let x := s.eng e
  let s := s.setEng e { x with g := [], z := false, n := false, c := false, v := false, sat := false, acc := 0, latch := 0, loops := [], pend := 0, wait := .none, haltReq := false }
  (s.put (Reg.ENG_PC e) 0).put (Reg.ENG_WDOG_LEFT e) 0

/-- CTL.RESET (R198): locks released POISONED, buffers reclaimed. -/
def Chip.ctlReset (s : Chip) (r : Requester) (e : Nat) : Did :=
  if !s.mayCtl r e then (.refused, s)
  else if ¬ (s.engState e = 0 ∨ s.softTrap e) then s.no r.code 5 e 0x004
  else
    let s := (s.setEngState e 0).engClear e
    ((s.locksSeize e none).poolReclaim e).ok

/-- CTL.ARM_START (R211, R214). -/
def Chip.ctlArmStart (s : Chip) (r : Requester) (e : Nat) : Did :=
  if !s.mayCtl r e then (.refused, s)
  else if s.engState e ≠ 0 ∨ s.loadingTo e then s.no r.code 5 e 0x004
  else (s.put (Reg.ENG_STAT_ARM_START e) 1).ok

/-- CTL.ARM_HALT (R214). -/
def Chip.ctlArmHalt (s : Chip) (r : Requester) (e : Nat) : Did :=
  if !s.mayCtl r e then (.refused, s)
  else if ¬ (s.engState e = 1 ∨ s.engState e = 2) then s.no r.code 5 e 0x004
  else (s.put (Reg.ENG_STAT_ARM_HALT e) 1).ok

/-- CTL.ARM_CLR (R214). -/
def Chip.ctlArmClr (s : Chip) (r : Requester) (e : Nat) : Did :=
  if !s.mayCtl r e then (.refused, s)
  else ((s.put (Reg.ENG_STAT_ARM_START e) 0).put (Reg.ENG_STAT_ARM_HALT e) 0).ok

/-- START_MASK (R199, R212). -/
def Chip.startMask (s : Chip) (r : Requester) (m : Nat) : Did :=
  let named := (List.range 32).filter (fun e => bit m e)
  if named.any (fun e => !s.mayCtl r e) then (.refused, s)
  else if named.any (fun e => s.engState e != 0 || s.loadingTo e) then s.no r.code 5 0 0x8000
  else (s.each named (fun s e => s.engStart e)).ok

/-- HALT_MASK (R199, R212). -/
def Chip.haltMask (s : Chip) (r : Requester) (m : Nat) : Did :=
  let named := (List.range 32).filter (fun e => bit m e)
  if named.any (fun e => !s.mayCtl r e) then (.refused, s)
  else if named.any (fun e => s.engState e == 3 || s.engState e == 4) then s.no r.code 5 0 0x8004
  else (s.each named (fun s e => if s.engState e = 0 then s else s.setEng e { s.eng e with haltReq := true })).ok

/-- LOAD_SRC stages a source address (R211). -/
def Chip.loadSrc (s : Chip) (a : Nat) : Did := ({ s with loader := { s.loader with src := a % 2 ^ 20 } }).ok

/-- LOAD_GO: target [4:0], first word [15:5], length [27:16] (R211). A refusal, that of R57 while a load runs among them, leaves RESULT and
ENGINE. -/
def Chip.loadGo (s : Chip) (r : Requester) (v : Nat) : Did :=
  let e := bits v 4 0
  let dst := bits v 15 5
  let len := bits v 27 16
  if !s.mayCtl r e then (.refused, s)
  else if s.flag Reg.ENG_LOAD_STAT_BUSY ∨ s.engState e = 1 ∨ s.engState e = 2 ∨ len = 0 ∨ 2048 < dst + len ∨ s.loader.src % 4 ≠ 0
      ∨ 0x100000 < s.loader.src + 4 * len
      ∨ (s.flag (Reg.ENG_STAT_ARM_START e) ∧ bit (s.get Reg.SYS_ARMED) 2) then
    ((s.put Reg.ENG_LOAD_STAT_RESULT 2).put Reg.ENG_LOAD_STAT_ENGINE e).no r.code 5 0 0x800C
  else
    let s := ((s.put Reg.ENG_LOAD_STAT_BUSY 1).put Reg.ENG_LOAD_STAT_ENGINE e).put Reg.ENG_LOAD_STAT_DONE 0
    ({ s with loader := { s.loader with run := some (e, dst, len) } }).ok

/-- Physical address of code word w of engine e. -/
def codeAddr (e w : Nat) : Nat := 0x100000 + e * 0x2000 + 4 * (w % 2048)

/-- Copy k staged words into a code RAM (R211). -/
def Chip.copyCode (s : Chip) (e dst k : Nat) : Chip :=
  s.each (List.range k) (fun s i => s.wrw (codeAddr e (dst + i)) (s.ldw ((s.loader.src + 4 * i) % 2 ^ 20)))

/-- The loader completes; or the fence of its target aborts it after a number of words the spec does not fix (R211, log entry 6). -/
def Chip.loadDone (s : Chip) (aborted : Bool) : Chip :=
  match s.loader.run with
  | none => s
  | some (e, dst, len) =>
    let end_ (s : Chip) (k res : Nat) : Chip :=
      let s := s.copyCode e dst k
      let s := ((s.put Reg.ENG_LOAD_STAT_BUSY 0).put Reg.ENG_LOAD_STAT_RESULT res).put Reg.ENG_LOAD_STAT_DONE k
      { s with loader := { s.loader with run := none } }
    if aborted then (if s.active e then s else end_ s.drew (s.free % (len + 1)) 3) else end_ s len 1

/-- A write to a code RAM through the address map: the management function only, refused while the engine runs (R210). -/
def Chip.codeWrite (s : Chip) (r : Requester) (e w : Nat) (v : BitVec 32) : Did :=
  if r ≠ .mgmt then (.refused, s)
  else if s.engState e = 1 ∨ s.engState e = 2 then s.no 32 5 e (0xC000 + 4 * w)
  else (s.wrw (codeAddr e w) v).ok

/-- The watchdog of engine e reaches 0: trap 4, any wait abandoned (R203); a wait whose cause has cleared completes, as an instruction in
execution does, and the trap is taken at its end (R200, 10_sprue_instruction_set.md Table ISA-14). -/
def Chip.wdogExpire (s : Chip) (e : Nat) : Chip :=
  if (s.engState e = 1 ∨ s.engState e = 2) ∧ s.wkB (Reg.ENG_WDOG e) then
    let s := s.abandonWait e
    if s.engState e = 0 then s else (s.put (Reg.ENG_WDOG_LEFT e) 0).trap e 4 none
  else s

/-- Release from a mark wait (R209). -/
def Chip.markRelease (s : Chip) (e : Nat) : Chip :=
  match (s.eng e).wait with
  | .granted _ _ 3 _ _ _ _ => s.completeWait e
  | _ => s

/-- Release from a chain-time wait in the first cc whose chain time is not before the target (R209). -/
def Chip.timeRelease (s : Chip) (e : Nat) : Chip :=
  match (s.eng e).wait with
  | .time t =>
    if t.toNat ≤ s.ct.toNat then (s.setEng e { s.eng e with wait := .granted 0 0 4 false false false 0 }).completeWait e else s
  | _ => s

/-- The lowest pending event bit. -/
def lowestBit (b : BitVec 128) : Option Nat := (List.range 128).find? (fun i => b.getLsbD i)

/-- Take the lowest pending bit of engine e (10_sprue_instruction_set.md R237). -/
def Chip.takePending (s : Chip) (e : Nat) : Option Nat × Chip :=
  match lowestBit (s.eng e).pend with
  | none => (none, s)
  | some i => (some i, s.setEng e { s.eng e with pend := (s.eng e).pend &&& ~~~(1#128 <<< i) })

/-- A waiting instruction completes once its runner, lock, buffer, message or event cause has cleared (R243). -/
def Chip.waitComplete (s : Chip) (e : Nat) : Chip :=
  match (s.eng e).wait with
  | .granted _ _ 3 _ _ _ _ => s
  | .granted _ _ _ _ _ _ _ => s.completeWait e
  | .event d =>
    match s.takePending e with
    | (some i, s) => (s.setEng e { s.eng e with wait := .granted d (BitVec.ofNat 32 i) 4 false false false 0 }).completeWait e
    | (none, s) => s
  | _ => s

/-- Every engine in a mark wait is released after the swap (R209). -/
def Chip.grantMarks (s : Chip) : Chip :=
  s.each (List.range 32) (fun s e =>
    if (s.eng e).wait = .mark then s.setEng e { s.eng e with wait := .granted 0 0 3 false false false 0 } else s)

/-- The engine's claim on a port (R205, R206): 0 none, 1 shared read, 2 exclusive. Claims are suspended while its flask is fenced. -/
def Chip.claim (s : Chip) (e port : Nat) : Nat :=
  if !s.active e then 0 else
  (List.range 256).foldl (fun m c =>
    if s.wkB (Reg.ENG_CLAIM_EN c) && s.wk (Reg.ENG_CLAIM_ENGINE c) == e &&
        decide (s.wk (Reg.ENG_CLAIM_FIRST c) ≤ port) &&
        decide (port < s.wk (Reg.ENG_CLAIM_FIRST c) + s.wk (Reg.ENG_CLAIM_COUNT c)) then
      max m (if s.wkB (Reg.ENG_CLAIM_MODE c) then 1 else 2)
    else m) 0

/-- The reserved ranges of port numbers, the end not included: 0x7000 and up (R204), and of the Cuffs' ports 0x2500 to 0x2FFF and what
Table CUFF-4 does not list (16_cuffs_type_c_pd.md R375). -/
def reservedPorts : List (Nat × Nat) :=
  [(0x7000, 0x10000), (0x2500, 0x3000)] ++ [0x2000, 0x2100, 0x2200, 0x2300, 0x2400].flatMap (fun c =>
    [(c + 0x03, c + 0x10), (c + 0x19, c + 0x20), (c + 0x29, c + 0x30), (c + 0x35, c + 0x100)])

/-- Is a port reserved (R204, 16_cuffs_type_c_pd.md R375)? -/
def portReserved (p : Nat) : Bool := decide (0x10000 ≤ p) || reservedPorts.any (fun r => decide (r.1 ≤ p) && decide (p < r.2))

/-- Does a range of n ports from a reach reserved ports, or run past 0xFFFF (R205)? -/
def rangeReserved (a n : Nat) : Bool := decide (0x10000 < a + n) || reservedPorts.any (fun r => decide (a < r.2) && decide (r.1 < a + n))

/-- Do two claims overlap: the same port, or a GPIO port and one of its pins (R205, 20_pins_and_muxing.md R443)? -/
def claimsMeet (a n b m : Nat) : Bool :=
  overlap a n b m || [0, 1, 2, 3].any (fun k =>
    (overlap a n (0x4000 + k) 1 && overlap b m (0x4100 + 16 * k) 16) || (overlap b m (0x4000 + k) 1 && overlap a n (0x4100 + 16 * k) 16))

/-- Is a claim table refused (R205)? Judged on the shadows. -/
def Chip.claimsBad (s : Chip) : Bool :=
  let es := (List.range 256).filter (fun c => s.sh (Reg.ENG_CLAIM_EN c) != 0 && s.sh (Reg.ENG_CLAIM_COUNT c) != 0)
  es.any (fun c => rangeReserved (s.sh (Reg.ENG_CLAIM_FIRST c)) (s.sh (Reg.ENG_CLAIM_COUNT c)) ||
    (s.sh (Reg.ENG_CLAIM_MODE c) == 0 && es.any (fun d => d != c &&
      claimsMeet (s.sh (Reg.ENG_CLAIM_FIRST c)) (s.sh (Reg.ENG_CLAIM_COUNT c)) (s.sh (Reg.ENG_CLAIM_FIRST d))
        (s.sh (Reg.ENG_CLAIM_COUNT d)))))

/-- Is a PG2 pour refused because a load runs to an engine whose start is armed (R214)? -/
def Chip.loadArmed (s : Chip) : Bool :=
  match s.loader.run with | some (e, _, _) => s.flag (Reg.ENG_STAT_ARM_START e) | none => false

/-- A pour of PG2, after the claims changed: pending halts, then pending starts; watchdogs follow a changed LIMIT, that of an engine in a
software trap too, which goes on with it after RESUME (R203, R214). -/
def Chip.pourEngines (s : Chip) (before : Chip) : Chip :=
  let es := List.range 32
  let s := s.each es (fun s e =>
    if s.flag (Reg.ENG_STAT_ARM_HALT e) && (s.engState e == 1 || s.engState e == 2) then s.setEng e { s.eng e with haltReq := true } else s)
  let s := s.each es (fun s e =>
    if before.wk (Reg.ENG_WDOG e) = 0 ∧ s.wk (Reg.ENG_WDOG e) ≠ 0 ∧ (s.engState e = 1 ∨ s.engState e = 2 ∨ s.softTrap e) then s.kickWdog e else s)
  let s := s.each es (fun s e => if s.flag (Reg.ENG_STAT_ARM_START e) && s.engState e == 0 then s.engStart e else s)
  s.each es (fun s e => (s.put (Reg.ENG_STAT_ARM_START e) 0).put (Reg.ENG_STAT_ARM_HALT e) 0)

/-- Enter IDLE (R215): engines other than event waiters and policy engines of Cuffs under firmware policy halt, held. -/
def Chip.idleEnter (s : Chip) : Chip :=
  s.each (List.range 32) (fun s e =>
    let ev := match (s.eng e).wait with | .event _ => true | _ => false
    let pol := (List.range 5).any (fun c => s.wkB (Reg.CUFF_POL_SRC c) && s.wk (Reg.CUFF_POL_ENG c) == e)
    if (s.engState e = 1 ∨ s.engState e = 2) ∧ !ev ∧ !pol then (s.engHaltNow e).put (Reg.ENG_STAT_IDLE_HELD e) 1 else s)

end Sys2Proof.Machine
end

