-- ==== Sys2Proof/Machine/Drv.lean ====
section
/-! DEFINITION. The driver outputs on the field die (19_control_outputs.md R419 to R433): setpoints, apply instants, safe
states and faults. SD0 to SD7 are outputs 0 to 7, HB0 to HB3 outputs 8 to 11. -/

namespace Sys2Proof.Machine

/-- Output o. -/
def Chip.out (s : Chip) (o : Nat) : DrvOut := s.drv.get {} o

/-- Set output o. -/
def Chip.setOut (s : Chip) (o : Nat) (x : DrvOut) : Chip := { s with drv := s.drv.put {} o x }

/-- The flask of output o (Table DRV-1). -/
def drvFlask (o : Nat) : Nat := if o < 4 then 48 else if o < 8 then 49 else 50

/-- The bit of a field-die flask in the fence word (13_flasks_and_warden.md R285, DEDUCED order F32 to F40, F45 to F50). -/
def laneBit (f : Nat) : Nat := if f < 41 then f - 32 else f - 36

/-- Does the fence lane's last word name flask f? -/
def Chip.laneFenced (s : Chip) (f : Nat) : Bool := bit s.warden.laneFence (laneBit f)

/-- The output that drives o as the second of a pair (R422). -/
def Chip.drvMaster (s : Chip) (o : Nat) : Option Nat :=
  if (o = 9 ∨ o = 11) ∧ s.fwkB (Reg.DRV_HB_LIM_PAIR (o - 1)) then some (o - 1) else none

/-- A cause of R430 other than the hold limit holds for output o. -/
def Chip.drvCause (s : Chip) (o : Nat) : Bool :=
  s.drvHold || s.laneFenced (drvFlask o) || bit s.warden.laneHold o || bit s.seam.safeOut o || s.pwr.phase == .standby
    || s.pwr.phase == .off || s.occDrv

/-- Is output o on: enabled, with a source (R423; a reserved SRC 3 counts as none, log entry 13)? -/
def Chip.drvOn (s : Chip) (o : Nat) : Bool :=
  s.fwkB (Reg.DRV_STAT_EN o) && (s.fwk (Reg.DRV_CFG_SRC o) == 1 || s.fwk (Reg.DRV_CFG_SRC o) == 2)

/-- STAT.STATE of output o (Table DRV-6). -/
def Chip.drvState (s : Chip) (o : Nat) : Nat :=
  if (s.out o).latched then 3 else if !s.drvOn o then 0 else if (s.out o).safe then 1 else 2

/-- Is o an SD output in DUTY mode? -/
def Chip.drvDuty (s : Chip) (o : Nat) : Bool := decide (o < 8) && s.fwkB (Reg.DRV_CFG_MODE o)

/-- The most current an SD output may be set to (Table DRV-2). -/
def Chip.drvCap (s : Chip) (o : Nat) : Nat := min 3000 (s.fwk (Reg.DRV_ELEC_MAX_MA o))

/-- Does output o regulate a current: an SD output running in CURRENT mode, or safe with SAFE at CURRENT (R420, R429)? -/
def Chip.drvCurrent (s : Chip) (o : Nat) : Bool :=
  decide (o < 8) && ((s.drvState o == 2 && !s.drvDuty o) || (s.drvState o == 1 && s.fwk (Reg.DRV_CFG_SAFE o) == 2))

/-- The target in force before scaling; an output that is off, latched or safe without a current has none. -/
def Chip.drvBase (s : Chip) (o : Nat) : Nat :=
  if s.drvState o = 2 then (if s.drvCurrent o then min (s.out o).cmd (s.drvCap o) else (s.out o).cmd)
  else if s.drvCurrent o then min (s.fwk (Reg.DRV_SAFE_MA o)) (s.drvCap o) else 0

/-- Bring STATE, TARGET and SCALED of output o up to date; a cause of R430, or being off, puts it in its safe state. -/
def Chip.drvSettle1 (s : Chip) (o : Nat) : Chip :=
  match s.drvMaster o with
  | some m =>
    let s := s.setOut o { s.out o with cmd := (s.out m).cmd, safe := (s.out m).safe || s.drvCause o }
    let st := if (s.out o).latched then 3 else if !s.fwkB (Reg.DRV_STAT_EN o) then 0 else if s.drvState m = 2 ∧ (s.out o).safe then 1 else s.drvState m
    (s.setLv (Reg.DRV_STAT_STATE o) st).setLv (Reg.DRV_TARGET o) (if st = 2 then s.drvBase m else 0)
  | none =>
    let s := if s.drvCause o || !s.drvOn o then s.setOut o { s.out o with safe := true } else s
    let b := s.drvBase o
    let v := match s.drvScale with
      | some (l, t) => if s.drvCurrent o then (b * l / t, true) else (b, false)
      | none => (b, false)
    ((s.setLv (Reg.DRV_STAT_STATE o) (s.drvState o)).setLv (Reg.DRV_TARGET o) v.1).setLvB (Reg.DRV_STAT_SCALED o) v.2

/-- Bring every output up to date. -/
def Chip.drvSettle (s : Chip) : Chip := s.each (List.range 12) (fun s o => s.drvSettle1 o)

/-- A setpoint word held to its range (Table DRV-2): the value, and whether it was clamped. -/
def Chip.drvClamp (s : Chip) (o v : Nat) : Nat × Bool :=
  let v := v % 65536
  if o < 8 then
    let hi := if s.drvDuty o then 10000 else s.drvCap o
    (min v hi, decide (hi < v))
  else if s.fwkB (Reg.DRV_HB_LIM_PAIR o) then
    let i := signed 16 v
    let c := clampInt (-10000) 10000 i
    (unsigned 16 c, c != i)
  else (min v 10000, decide (10000 < v))

/-- The present instant of the field die's copy of chain time, resolved to 2.5 ns, in units of 2^-32 ns (R425). -/
def Chip.drvInstant (s : Chip) : Nat := s.fTime.t.toNat / (5 * 2 ^ 31) * (5 * 2 ^ 31)

/-- Take a setpoint word as the target in hand: the output begins a new PWM period, cutting short the running one (R425). -/
def Chip.drvTake (s : Chip) (o v : Nat) : Chip :=
  let c := s.drvClamp o v
  let s := if c.2 then s.inc (Reg.DRV_CLAMP_CNT o) else s
  s.setOut o { s.out o with cmd := c.1, pwmAt := s.drvInstant, cut := none }

/-- A fresh setpoint takes effect: MISS falls to 0, and with no cause left the output leaves its safe state (R427, R431). -/
def Chip.drvFresh (s : Chip) (o : Nat) : Chip :=
  let s := s.setLv (Reg.DRV_MISS o) 0
  if s.drvCause o then s else s.setOut o { s.out o with safe := false }

/-- A miss (R427): MISS and MISS_CNT rise, and at the hold limit the output takes its safe state. -/
def Chip.drvMiss (s : Chip) (o : Nat) : Chip :=
  let m := min 255 (s.lv (Reg.DRV_MISS o) + 1)
  let s := (s.setLv (Reg.DRV_MISS o) m).inc (Reg.DRV_MISS_CNT o)
  let h := s.fwk (Reg.DRV_CFG_HOLD_LIMIT o)
  if h ≠ 0 ∧ h ≤ m then s.setOut o { s.out o with safe := true } else s

/-- The apply instant at one output (R424, R426, R427, R428). A SET write that took effect on its arrival since the last instant is fresh; an
output with APPLY 1 leaves its safe state at an arrival alone (R431). -/
def Chip.drvApply1 (s : Chip) (o : Nat) : Chip :=
  let x := s.out o
  let s := s.setOut o { x with held := none, seen := false }
  if (s.drvMaster o).isSome ∨ !s.drvOn o then s else
  let idle := s.get Reg.SYS_PWR_STAT == 1
  match s.fwk (Reg.DRV_CFG_SRC o), x.held.filter (fun sp => sp.img == (s.fwk (Reg.DRV_CFG_SRC o) == 1)) with
  | 1, some sp =>
    if !sp.stale then (s.drvTake o sp.value).drvFresh o
    else
      let s := if s.fwkB (Reg.DRV_CFG_STALE_USE o) then s.drvTake o sp.value else s
      s.drvMiss o
  | 2, some sp => if x.seen then (s.drvTake o sp.value).drvFresh o else s.drvMiss o
  | 2, none => if x.seen then s.setLv (Reg.DRV_MISS o) 0 else if idle then s else s.drvMiss o
  | _, _ => if idle then s else s.drvMiss o

/-- The sum of R421. -/
def Chip.drvSum (s : Chip) : Nat :=
  (List.range 8).foldl (fun t o =>
    if !s.drvOn o then t
    else if s.drvDuty o then t + s.fwk (Reg.DRV_ELEC_MAX_MA o)
    else t + (if s.drvCurrent o then s.drvBase o else 0)) 0

/-- The total limit on what the outputs have been set to (R421). -/
def Chip.drvTotal (s : Chip) : Chip :=
  let s := s.drvSettle
  let sum := s.drvSum
  let lim := min 8000 (s.fwk Reg.DRV_TOTAL)
  if lim < sum then ({ s.inc Reg.DRV_SCALE_CNT with drvScale := some (lim, sum) }).drvSettle
  else ({ s with drvScale := none }).drvSettle

/-- Every output at an apply instant, then the total limit (R421). -/
def Chip.drvApply (s : Chip) : Chip := (s.each (List.range 12) (fun s o => s.drvApply1 o)).drvTotal

/-- How many apply instants have passed on the field die, by its record: one is past once its copy of chain time is (R46, R47). -/
def Chip.applyEra (s : Chip) : Nat := if s.clk.fMarked && decide (s.clk.fApply < s.fNow) then s.clk.fCyc + 1 else s.clk.applied

/-- A setpoint reaches the field die (R424, R426, 02_clocks_and_chain_time.md R47). One that takes effect on arrival forms the sum of R421
too, since the total never exceeds 8,000 mA (DEDUCED, log entry 67). -/
def Chip.drvArrive (s : Chip) (o : Nat) (sp : Setpoint) : Chip :=
  let x := s.out o
  let late := sp.cyc != s.applyEra
  if sp.img then (if late then s.inc (Reg.DRV_LATE_CNT o) else s.setOut o { x with held := some sp })
  else if s.fwk (Reg.DRV_CFG_SRC o) ≠ 2 then s
  else if s.fwkB (Reg.DRV_CFG_APPLY o) then
    let s := s.setOut o { x with seen := true }
    if s.drvOn o then ((s.drvTake o sp.value).drvFresh o).drvTotal else s
  else
    let s := if late then s.inc (Reg.DRV_LATE_CNT o) else s
    s.setOut o { x with held := some sp, seen := true }

/-! What the drivers put out (R420, R422, R423, R425, R429) -/

/-- A PWM period in units of 2^-32 ns (Table DRV-6; a value outside its range counts as the nearer end: DESIGN CHOICE, log entry 67). -/
def Chip.pwmPeriod (s : Chip) (o : Nat) : Nat :=
  let p := s.fwk (Reg.DRV_ELEC_PWM o)
  if o < 8 then 100000000 * 2 ^ 32 / max 10 (min 2000 p) else 10000000 * 2 ^ 32 / max 10 (min 500 p)

/-- The output whose setpoint and PWM drive output o: its own, or the first of its pair (R422). -/
def Chip.pwmOf (s : Chip) (o : Nat) : Nat := (s.drvMaster o).getD o

/-- How far the running PWM period has come, in units of 2^-32 ns (R425). -/
def Chip.pwmPhase (s : Chip) (o : Nat) : Nat := (s.fTime.t.toNat - (s.out (s.pwmOf o)).pwmAt) % s.pwmPeriod (s.pwmOf o)

/-- When the running PWM period began. -/
def Chip.pwmStart (s : Chip) (o : Nat) : Nat := s.fTime.t.toNat - s.pwmPhase o

/-- Does the current limit hold the switch or high-side gate off for the rest of this period (R420, R422)? -/
def Chip.pwmCut (s : Chip) (o : Nat) : Bool := (s.out o).cut == some (s.pwmStart o)

/-- What the solenoid driver of an output does. -/
inductive SdDrive where
  /-- Off, the current decaying through the freewheel path (SAFE 0), or through the 45 V clamp (SAFE 1). -/
  | slow | fast
  /-- Regulated at a current in mA. -/
  | regulate (mA : Int)
  /-- Switched: closed now, or open. -/
  | switch (closed : Bool)
deriving DecidableEq, Repr

/-- The dither of an SD output in mA: a triangle from 0 upward, AMP peak to peak (R420; its phase at the restart, and a rate outside its range
counting as the nearer end, are DESIGN CHOICES, log entry 67). -/
def Chip.dither (s : Chip) (o : Nat) : Int :=
  let per := 1000000000 * 2 ^ 32 / max 50 (min 400 (s.fwk (Reg.DRV_DITHER_HZ o)))
  let a := 10 * min 100 (s.fwk (Reg.DRV_DITHER_AMP o))
  let q := 2 * a * ((s.fTime.t.toNat - (s.out o).ditherAt) % per) / per
  if 2 * q < a then q else if 2 * q < 3 * a then (a : Int) - q else (q : Int) - 2 * a

/-- An SD output (R420, R429, R432): a latched output, or one that is off, is off as OFF_SLOW. -/
def Chip.sdDrive (s : Chip) (o : Nat) : SdDrive :=
  let t := s.lv (Reg.DRV_TARGET o)
  match s.drvState o with
  | 1 => match s.fwk (Reg.DRV_CFG_SAFE o) with | 1 => .fast | 2 => .regulate t | _ => .slow
  | 2 => if s.drvDuty o then .switch (decide (s.pwmPhase o * 10000 < t * s.pwmPeriod o) && !s.pwmCut o) else .regulate (t + s.dither o)
  | _ => .slow

/-- The duty at which an HB output switches its high-side gate in 0.01 %; a pair's turned-off side has none: its low-side gate is on (R423). -/
def Chip.hbDuty (s : Chip) (o : Nat) : Option Nat :=
  let m := s.pwmOf o
  if s.fwkB (Reg.DRV_HB_LIM_PAIR m) && (m == 8 || m == 10) then
    let d := signed 16 (s.lv (Reg.DRV_TARGET m))
    if m = o then (if d < 0 then none else some d.toNat) else (if d < 0 then some (-d).toNat else none)
  else some (s.lv (Reg.DRV_TARGET o))

/-- The dead time in units of 2^-32 ns (R422). -/
def Chip.hbDead (s : Chip) (o : Nat) : Nat := 10 * 2 ^ 32 * max 5 (s.fwk (Reg.DRV_ELEC_DEAD o))

/-- The high-side and low-side gates of HB output o (R422, R423, R429): the low-side gate is on for what the duty leaves of a period, each gate
turns on a dead time after the other turned off, and after a cut both stay off (which gate is on then the spec does not say: DESIGN CHOICE, log
entry 67). A latched output, or one that is off, has both gates off. -/
def Chip.hbGates (s : Chip) (o : Nat) : Bool × Bool :=
  match s.drvState (s.pwmOf o), s.lv (Reg.DRV_STAT_STATE o) with
  | 2, 2 =>
    match s.hbDuty o with
    | none => (false, true)
    | some d =>
      let p := s.pwmPhase o
      let on := d * s.pwmPeriod (s.pwmOf o) / 10000
      if s.pwmCut o then (false, false)
      else if d = 0 then (false, true)
      else if 10000 ≤ d then (true, false)
      else (decide (s.hbDead o ≤ p) && decide (p < on), decide (on + s.hbDead o ≤ p))
  | _, 1 => match s.fwk (Reg.DRV_CFG_SAFE o) with | 1 => (false, true) | 2 => (!s.pwmCut o, false) | _ => (false, false)
  | _, _ => (false, false)

/-- Does the measured current stand at the limit of output o while its switch or high-side gate may be on (R420, R422)? -/
def Chip.overLimit (s : Chip) (o : Nat) : Bool :=
  if o < 8 then s.drvState o == 2 && s.drvDuty o && decide (s.fwk (Reg.DRV_ELEC_MAX_MA o) ≤ s.lv (Reg.DRV_MEAS o))
  else
    decide ((10 * s.fwk (Reg.DRV_HB_LIM_LIMIT o) : Int) < signed 16 (s.lv (Reg.DRV_MEAS o))) &&
    (match s.lv (Reg.DRV_STAT_STATE o) with
    | 1 => s.fwk (Reg.DRV_CFG_SAFE o) == 2
    | 2 => s.hbDuty o != none
    | _ => false)

/-- The current limits as readings show them: the rest of the period is cut, and of an HB output each such period counts (R420, R422). The
current is looked at where readings are taken (DESIGN CHOICE, log entry 67). -/
def Chip.drvLimits (s : Chip) : Chip :=
  s.each (List.range 12) (fun s o =>
    if s.overLimit o && !s.pwmCut o then
      let s : Chip := s.setOut o { s.out o with cut := some (s.pwmStart o) }
      if o < 8 then s else s.inc (Reg.DRV_LIMIT_CNT o)
    else s)

/-- The driver-fault event, at most once per 1,000 cycle periods of an output (R432). -/
def Chip.drvEvent (s : Chip) (o code : Nat) : Chip :=
  let x := s.out o
  if x.lastEvt ≠ 0 ∧ s.fNow + 1 < x.lastEvt + 1000 * s.period then s
  else (s.setOut o { x with lastEvt := s.fNow + 1 }).fire 76 (detail o code)

/-- A latching fault of output o (R432). -/
def Chip.drvTrip (s : Chip) (o code : Nat) (flt : Bool) : Chip :=
  let s := (s.setOut o { s.out o with latched := true, safe := true }).setLv (Reg.DRV_STAT_LAST_FAULT o) code
  let s := (s.inc (Reg.DRV_TRIP_CNT o)).drvEvent o code
  (if flt then s.fault (drvFlask o) 5 code 0 else s).drvSettle

/-- DRIVER_FAULT (Table DRV-3). -/
def Chip.driverFault (s : Chip) (o code : Nat) : Chip :=
  if !s.fieldUp then s else
  match code with
  | 1 => s.drvTrip o 1 (s.fwkB (Reg.DRV_ELEC_FENCE o))
  | 2 => if o < 8 then s.setLv (Reg.DRV_STAT_OPEN o) 1 else s
  | 3 => if o < 8 then s.drvTrip o 3 true else s
  | 4 =>
    if 8 ≤ o then
      let s := s.each [8, 9, 10, 11] (fun s o => s.setOut o { s.out o with safe := true, cmd := 0 })
      (s.fault 50 5 4 0).drvSettle
    else s
  | _ => s

/-- A command of DRV on the field die: 0 the core die's word on serving and steering, 1 FAULT_CLR of an output, 2 the output was enabled
(R420). -/
def Chip.drvUnit (s : Chip) (o op v : Nat) : Chip :=
  match op with
  | 0 => ({ s with drvHold := bit v 0, clk := { s.clk with fSteered := bit v 1 } }).drvSettle
  | 1 => (s.setOut o { s.out o with latched := false, safe := true }).drvSettle
  | 2 => s.setOut o { s.out o with ditherAt := s.drvInstant }
  | _ => s

end Sys2Proof.Machine
end

