-- ==== Sys2Proof/Machine/HubPort.lean ====
section
/-! DEFINITION. The ports of the local hub as registers and detectors (14_local_hub.md R298 to R309): what each change of a
port does to wPortStatus and wPortChange. The bits are those of USB 2.0 chapter 11 (PRESUMED, log entry 10). -/

namespace Sys2Proof.Machine

/-- Hub port p. -/
def Chip.hp (s : Chip) (p : Nat) : HubPort := s.hub.ports.get {} p

/-- Set hub port p. -/
def Chip.setHp (s : Chip) (p : Nat) (x : HubPort) : Chip := { s with hub := { s.hub with ports := s.hub.ports.put {} p x } }

/-- wPortStatus bits. -/
def stConn : Nat := 0
def stEnable : Nat := 1
def stSuspend : Nat := 2
def stOver : Nat := 3
def stReset : Nat := 4
def stL1 : Nat := 5
def stPower : Nat := 8
def stLow : Nat := 9
def stHigh : Nat := 10
def stTest : Nat := 11

/-- The wPortChange bit of a change. -/
def changeBit : PortChange → Nat
  | .connection => 0 | .enable => 1 | .suspend => 2 | .overCurrent => 3 | .reset => 4 | .l1 => 5

/-- The wide port that the working port map gives a local port of this node (15_wide_hub_tunnel.md R330). -/
def Chip.wideOf (s : Chip) (p : Nat) : Option Nat :=
  (List.range 254).map (· + 2) |>.find? (fun w =>
    s.wkB (Reg.WIDE_MAP_EN w) && s.wk (Reg.WIDE_MAP_LPORT w) == p && s.flag Reg.CHAIN_STAT_ADDR_VALID &&
      s.wk (Reg.WIDE_MAP_STATION w) == s.get Reg.CHAIN_ADDR_STATION && s.wk (Reg.WIDE_MAP_RING w) == s.get Reg.CHAIN_ADDR_RING)

/-- Is port p tunnelled (R303)? -/
def Chip.tunnelled (s : Chip) (p : Nat) : Bool := decide (1 ≤ p) && decide (p ≤ 8) && (s.wideOf p).isSome

/-- Is port p locked off (R301)? -/
def Chip.lockedOff (s : Chip) (p : Nat) : Bool := decide (1 ≤ p) && decide (p ≤ 8) && s.wkB (Reg.HUB_PORT_CFG_LOCK_OFF p)

/-- Does the local host see port p empty and unpowered (R301, R303, R304)? -/
def Chip.portHidden (s : Chip) (p : Nat) : Bool := s.lockedOff p || s.tunnelled p || s.occPort p

/-- Show internal port 9 as wide port 1 while the wide hub is on C4 (15_wide_hub_tunnel.md R329). -/
def Chip.copyMgmt (s : Chip) : Chip :=
  if !s.flag Reg.WIDE_STAT_PRESENTING then s else
  (s.put (Reg.WIDE_PORT_STAT_STATUS 1) (s.hp 9).st).put (Reg.WIDE_PORT_STAT_CHANGE 1) (s.get (Reg.HUB_PORT_STAT_CHANGE 9))

/-- Report port p to the local host. -/
def Chip.portShow (s : Chip) (p : Nat) : Chip :=
  let s := s.put (Reg.HUB_PORT_STAT_STATUS p) (if s.portHidden p then 0 else (s.hp p).st)
  if p = 9 then s.copyMgmt else s

/-- Set wPortStatus of the port itself. -/
def Chip.setSt (s : Chip) (p st : Nat) : Chip := (s.setHp p { s.hp p with st := st }).portShow p

/-- Set a change bit of port p, with the port-change event (Table HUB-8 and the note under it); of a tunnelled port it is the
wide hub's, and a port event (15_wide_hub_tunnel.md R335). -/
def Chip.portChange (s : Chip) (p : Nat) (c : PortChange) : Chip :=
  let s := match (if 1 ≤ p ∧ p ≤ 8 then s.wideOf p else none) with
    | some w =>
      let s := s.setHp p { s.hp p with tchg := setBit (s.hp p).tchg (changeBit c) }
      { s with wide := { s.wide with served := s.wide.served.put {} w { s.wide.served.get {} w with event := true } } }
    | none =>
      let s := s.put (Reg.HUB_PORT_STAT_CHANGE p) (setBit (s.get (Reg.HUB_PORT_STAT_CHANGE p)) (changeBit c))
      if p = 9 then s.copyMgmt else s
  s.fire 64 (detail p 0)

/-- A cause of remote wake meets the suspended hub (R317). -/
def Chip.hubWake (s : Chip) : Chip :=
  if s.get Reg.HUB_STAT_UP_STATE == 4 && s.flag Reg.HUB_STAT_RWAKE_EN then { s with hub := { s.hub with wakeDue := true } } else s

/-- Is port p powered? -/
def Chip.portPowered (s : Chip) (p : Nat) : Bool := bit (s.hp p).st stPower

/-- A device is no longer detected at port p (R308, R320). -/
def Chip.portGone (s : Chip) (p : Nat) : Chip :=
  let x := s.hp p
  let was := bit x.st stConn
  let st := (if bit x.st stOver then 8 else 0) + (if bit x.st stPower then 256 else 0) + (if bit x.st stTest then 2048 else 0)
  let s := (s.setHp p { x with conn := none, phase := 0, bufs := [], per := [] }).setSt p st
  if was then (s.portChange p .connection).hubWake else s

/-- Port p loses power: its status falls to over-current and the test mode, which holds until the hub is reset or off (R307). -/
def Chip.portPowerOff (s : Chip) (p : Nat) : Chip :=
  let x := s.hp p
  (s.setHp p { x with conn := none, phase := 0, bufs := [], per := [] }).setSt p ((if bit x.st stOver then 8 else 0) + (if x.test ≠ 0 then 2048 else 0))

/-- Port p takes PORT_POWER. -/
def Chip.portPowerOn (s : Chip) (p : Nat) : Chip := s.setSt p (setBit (s.hp p).st stPower)

/-- A device is detected at port p. -/
def Chip.portConnect (s : Chip) (p : Nat) (v : UsbSpeed) : Chip :=
  let x := s.hp p
  let s := (s.setHp p { x with conn := some v }).setSt p (setBit x.st stConn)
  (s.portChange p .connection).hubWake

/-- The speed bits of wPortStatus. -/
def speedBits (v : UsbSpeed) : Nat := match v with | .high => 1024 | .low => 512 | .full => 0

/-- Port p is disabled by an error: babble, a supply trip or a fence (R309). -/
def Chip.portError (s : Chip) (p : Nat) : Chip :=
  let s := s.setSt p (clrBit (s.hp p).st stEnable)
  (s.portChange p .enable).inc (Reg.HUB_PORT_ERR_CNT p)

/-- The supply channel of port p trips (R300, R309). -/
def Chip.portTrip (s : Chip) (p : Nat) : Chip :=
  let s := (s.portError p).inc (Reg.HUB_OC_CNT p)
  let s := s.setSt p (setBit (s.hp p).st stOver)
  let s := (s.portChange p .overCurrent).portPowerOff p
  (s.setHp p { s.hp p with tripped := true }).hubWake

/-- The channel of port p reports its trip condition gone (R300). -/
def Chip.portTripGone (s : Chip) (p : Nat) : Chip := s.setSt p (clrBit (s.hp p).st stOver)

/-- Has no host configured the enabled hub (R302)? -/
def Chip.hubUnconfigured (s : Chip) : Bool := s.flag Reg.HUB_STAT_EN && decide (s.get Reg.HUB_STAT_UP_STATE ≤ 2)

/-- The supply channel of port p, 1 to 8 (17_switching_and_fusing.md). -/
def portChannel (p : Nat) : Nat := if p ≤ 4 then p - 1 else p

/-- AUTO_PWR (R302): with no host, each of its ports takes power, but after a trip or a fence (R305). A port locked off has none, and its
host sees a disconnect (R301; DEDUCED, log entry 46: with C_PORT_CONNECTION). -/
def Chip.hubAuto (s : Chip) : Chip :=
  s.each [1, 2, 3, 4, 5, 6, 7, 8] (fun s p =>
    let x := s.hp p
    if s.lockedOff p then
      if !s.portPowered p then s.portShow p
      else if bit x.st stConn then (s.portPowerOff p).portChange p .connection
      else s.portPowerOff p
    else if s.hubUnconfigured && s.wkB (Reg.HUB_PORT_CFG_AUTO_PWR p) && !s.portHidden p && !x.tripped && !x.fenced && !s.portPowered p then
      s.portPowerOn p
    else s.portShow p)

/-- The hub's upstream state changes: trips no longer hold off AUTO_PWR, but of a channel that still waits to retry (R302). -/
def Chip.hubUpState (s : Chip) (v : Nat) : Chip :=
  if s.get Reg.HUB_STAT_UP_STATE = v then s else
  let s := s.each [1, 2, 3, 4, 5, 6, 7, 8] (fun s p =>
    if s.lv (Reg.FUSE_STAT_STATE (portChannel p)) = 4 then s else s.setHp p { s.hp p with tripped := false })
  (s.put Reg.HUB_STAT_UP_STATE v).hubAuto

/-- The power terms of Table FUSE-2 as the core die holds them: bits 0 to 3 and 5 to 8 (R300, R301, R304). -/
def Chip.portPowerWord (s : Chip) : Nat :=
  [1, 2, 3, 4, 5, 6, 7, 8].foldl (fun m p =>
    if s.portPowered p && !s.lockedOff p && !s.occPort p then m + 2 ^ portChannel p else m) 0

end Sys2Proof.Machine
end

