-- ==== Sys2Proof/Machine/LinkPort.lean ====
section
/-! DEFINITION. What a Gleshline port does when it leaves service, which a Cuff's alternate mode and a planned uncoupling
need as well as the link itself (05_gleshline_link.md R111, R122; 07_chain_topology_and_heads.md R160). -/

namespace Sys2Proof.Machine

/-- Gleshline port p beside its registers. -/
def Chip.gl (s : Chip) (p : Nat) : LnkPort := s.lnk.get {} p

/-- Set port p. -/
def Chip.setGl (s : Chip) (p : Nat) (x : LnkPort) : Chip := { s with lnk := s.lnk.put {} p x }

/-- Is port p ACTIVE (Table LINK-4)? -/
def Chip.linkActive (s : Chip) (p : Nat) : Bool := s.get (Reg.LINK_STAT_STATE p) == 7

/-- Is port p tailward? -/
def Chip.linkTailward (s : Chip) (p : Nat) : Bool := s.flag (Reg.LINK_STAT_ROLE p)

/-- Raise an ALM (R103, Table LINK-2). -/
def Chip.alm (s : Chip) (cause : Nat) : Chip := if s.coreUp then { s with alms := s.alms ++ [cause] } else s

/-- The outcome of this end's request shows, and the port is no longer busy with it (R113). -/
def Chip.linkReqEnd (s : Chip) (p res : Nat) : Chip :=
  ((s.setGl p { s.gl p with req := 0, lane1 := false }).put (Reg.LINK_STAT_REQ_RESULT p) res).put (Reg.LINK_STAT_REQ_BUSY p) 0

/-- A margin scan ends, with a result or without one (R123); a background scan's result is copied and judged
(22_background_work.md R484). -/
def Chip.marginEnd (s : Chip) (p : Nat) (valid : Bool) (w h : Nat) : Chip :=
  if !s.flag (Reg.LINK_MARGIN_BUSY p) then s else
  let s := (((s.put (Reg.LINK_MARGIN_BUSY p) 0).putB (Reg.LINK_MARGIN_VALID p) valid).put (Reg.LINK_MARGIN_WIDTH p)
    (if valid then w else 0)).put (Reg.LINK_MARGIN_HEIGHT p) (if valid then h else 0)
  if !s.flag Reg.BKG_STAT_MARGIN_RUN then s else
  let i := 2 * p + (s.gl p).scan
  let s := ((((s.put Reg.BKG_STAT_MARGIN_RUN 0).inc Reg.BKG_MARGIN_CNT).put (Reg.BKG_MARGIN_LAST_WIDTH i) (if valid then w else 0)).put
    (Reg.BKG_MARGIN_LAST_HEIGHT i) (if valid then h else 0)).putB (Reg.BKG_MARGIN_LAST_VALID i) valid
  if !valid then s else
  let s := if !bit s.bkg.seen i ∨ w < s.get (Reg.BKG_MARGIN_LAST_MIN_W i) then
    ({ s with bkg := { s.bkg with seen := setBit s.bkg.seen i } }).put (Reg.BKG_MARGIN_LAST_MIN_W i) w else s
  let last := s.bkg.lastLow.get 0 i
  if w < s.wk Reg.BKG_CFG_MARGIN_MIN ∧ (last = 0 ∨ last + 1000 * s.period ≤ s.ct.toNat + 1) then
    ({ s with bkg := { s.bkg with lastLow := s.bkg.lastLow.put 0 i (s.ct.toNat + 1) } }).fire 52 (detail i 0)
  else s

/-- A margin scan ends without a result (R123). -/
def Chip.marginCut (s : Chip) (p : Nat) : Chip := s.marginEnd p false 0 0

/-- Has port p a partner: it sees its signal, or runs its link (R117; DEDUCED)? -/
def Chip.linkPartner (s : Chip) (p : Nat) : Bool := (s.gl p).sig != 0 || s.linkActive p

/-- The node folds and, unless it is the head, takes the tail condition (R160, 01_node_and_chain.md R11). -/
def Chip.foldBack (s : Chip) : Chip :=
  let s := { s with folded := true, chain := { s.chain with lift := false } }
  if s.get Reg.CHAIN_STAT_ROLE = 1 then s else s.put Reg.CHAIN_STAT_TAIL 1

/-- A test ends (23_stitch_test_and_bist.md R490): BUSY clears, its result shows, the counts rise and test-done is raised. -/
def Chip.testOver (s : Chip) (res cause : Nat) : Chip :=
  let s := { s with test := { s.test with run := none, prbs := false } }
  let s := ((s.put Reg.TEST_STAT_BUSY 0).put Reg.TEST_STAT_RESULT res).put Reg.TEST_STAT_ABORT_CAUSE cause
  let s := s.inc Reg.TEST_RUN_CNT
  let s := if res = 2 then s.inc Reg.TEST_FAIL_CNT else if res = 4 then s.inc Reg.TEST_ABORT_CNT else s
  s.fire 88 (detail 0 res)

/-- The result registers of a test read zero (R487). -/
def Chip.testZero (s : Chip) (kind : Nat) : Chip :=
  match kind with
  | 1 => (s.put Reg.TEST_PIN_RES_STUCK 0).put Reg.TEST_PIN_RES_SHORT 0
  | 2 => ((((((s.put Reg.TEST_NB_ERR 0).put Reg.TEST_NB_STAT_LOCK 0).put Reg.TEST_NB_STAT_INV 0).put Reg.TEST_NB_STAT_TRUNK_VALID 0).put
      Reg.TEST_NB_TRUNK_V 0).put Reg.TEST_NB_TRUNK_MA 0).put Reg.TEST_NB_STAT_END 0
  | 3 => s.put Reg.TEST_LBIST_SIG 0
  | _ => s

/-- The port of a running neighbour test leaves ACTIVE: the test ends ABORTED, cause 2 (R487). -/
def Chip.nbAbort (s : Chip) (p : Nat) : Chip := if s.testing 2 p then (s.testZero 2).testOver 4 2 else s

/-- Port p enters a training state other than ACTIVE; leaving ACTIVE breaks the link: it is counted, link-down is raised, a
request fails, a scan is cut, ALM cause 1 or 2 becomes due, and a tailward port folds (R111, R160). -/
def Chip.linkEnter (s : Chip) (p st : Nat) : Chip :=
  let was := s.linkActive p
  let s := (s.put (Reg.LINK_STAT_STATE p) st).put (Reg.LINK_STAT_WIDTH p) 0
  let s := s.setGl p { s.gl p with fixed := none, since := s.ct.toNat }
  let s := if s.flag (Reg.LINK_STAT_REQ_BUSY p) then s.linkReqEnd p 3 else s
  if !was then s else
  let s := { s with chain := { s.chain with join := clrBit s.chain.join p } }
  let s := if s.linkTailward p then { s with chain := { s.chain with lift := false } } else s
  let s := (((s.inc (Reg.LINK_DOWN_CNT p)).fire 49 (detail p 0)).marginCut p).nbAbort p
  if s.linkTailward p then (s.alm 1).foldBack else s.alm 2

end Sys2Proof.Machine
end

