-- ==== Sys2Proof/Machine/Fuse.lean ====
section
/-! DEFINITION. The switched channels on the field die (17_switching_and_fusing.md): 0 to 4 VB0 to VB4, 5 to 8 HP0 to HP3, 9 TR. -/

namespace Sys2Proof.Machine

/-- Cuff c beside its registers. -/
def Chip.cuff (s : Chip) (c : Nat) : Cuff := s.cuffs.get {} c

/-- Set Cuff c. -/
def Chip.setCuff (s : Chip) (c : Nat) (x : Cuff) : Chip := { s with cuffs := s.cuffs.put {} c x }

/-- Channel ch beside its registers. -/
def Chip.fuseCh (s : Chip) (ch : Nat) : FuseCh := s.fuse.get {} ch

/-- Set channel ch. -/
def Chip.setFuse (s : Chip) (ch : Nat) (x : FuseCh) : Chip := { s with fuse := s.fuse.put {} ch x }

/-- STAT.STATE of a channel: 0 OFF, 1 RAMP, 2 ON, 3 LIMIT, 4 OFF_WAIT, 5 LATCHED, 6 GUARD. -/
def Chip.fuseState (s : Chip) (ch : Nat) : Nat := s.lv (Reg.FUSE_STAT_STATE ch)

/-- Is the switch closed? -/
def Chip.fuseClosed (s : Chip) (ch : Nat) : Bool := decide (1 ≤ s.fuseState ch) && decide (s.fuseState ch ≤ 3)

/-- The port power the field die knows of for a channel. -/
def Chip.portPow (s : Chip) (ch : Nat) : Bool := ch == 4 || bit s.fuseReq ch

/-- The enable (Table FUSE-2). -/
def Chip.fuseEnable (s : Chip) (ch : Nat) : Bool :=
  s.fwkB (Reg.FUSE_STAT_EN ch) &&
  (if ch < 5 then (s.cuff ch).srcOn && s.portPow ch
   else if ch < 9 then s.portPow ch && !s.laneFenced (32 + ch) && !bit s.warden.laneHold (7 + ch) && !bit s.seam.safeOut (7 + ch) && !s.occPort ch
   else s.pwr.trOrder && !bit s.fuseReq 9 && !(s.pwr.phase == .off && s.pwr.trunkOff))

/-- The current a Cuff allows its VBUS channel, in mA (R385). -/
def Chip.cuffAllowance (s : Chip) (c : Nat) : Nat :=
  if s.lvB (Reg.CUFF_STAT_CONTRACT c) ∧ bit (s.lv (Reg.CUFF_CONTRACT c)) 22 then 10 * bits (s.lv (Reg.CUFF_CONTRACT c)) 20 11
  else match (s.cuff c).adv with | 0 => 500 | 1 => 1500 | _ => 3000

/-- The effective limit (R379, R385). -/
def Chip.fuseLimit (s : Chip) (ch : Nat) : Nat :=
  let l := s.fwk (Reg.FUSE_ELEC_LIMIT ch)
  if ch < 5 then min (max 10 (min 560 l)) ((11 * s.cuffAllowance ch + 99) / 100)
  else if ch < 9 then max 10 (min 165 l) else max 50 (min 500 l)

/-- Bring ENABLE, EFF_LIMIT, TRIP_MAP and the trunk state of the field die up to date; a low enable is remembered for a
latched channel (R389). -/
def Chip.fuseSettle (s : Chip) : Chip :=
  let s := s.each (List.range 10) (fun s ch =>
    let en := s.fuseEnable ch
    let s := if en then s else s.setFuse ch { s.fuseCh ch with low := true }
    (s.setLvB (Reg.FUSE_STAT_ENABLE ch) en).setLv (Reg.FUSE_EFF_LIMIT ch) (s.fuseLimit ch))
  let s := s.setLv Reg.FUSE_TRIP_MAP ((List.range 10).foldl (fun m ch =>
    if s.fuseState ch == 4 || s.fuseState ch == 5 then m + 2 ^ ch else m) 0)
  s.setLvB Reg.SEAM_STATUS_TRUNK_ON (s.fuseClosed 9)

/-- The guard voltage in 10 mV units (Table FUSE-1). -/
def fuseGuard (ch : Nat) : Nat := if ch < 9 then 80 else 100

/-- Open a channel without a trip (R381, R384). -/
def Chip.fuseOpen (s : Chip) (ch : Nat) : Chip :=
  let s := (s.setLv (Reg.FUSE_STAT_STATE ch) 0).setLv (Reg.FUSE_STAT_PG ch) 0
  (s.setFuse ch { s.fuseCh ch with held := false, retried := false }).fuseSettle

/-- Close a channel under the guard (R382, R390), with the output side at vout in 10 mV units. Above the guard an HP channel
shows GUARD and raises back-feed once, and TR raises trunk-fed once (04_power_up_to_service.md R89). -/
def Chip.fuseClose (s : Chip) (ch vout : Nat) : Chip :=
  let x := s.fuseCh ch
  if fuseGuard ch ≤ vout then
    let s := if x.held then s
      else if ch = 9 then { (s.fire 35 0) with pwr := { s.pwr with trFed := true } }
      else if 5 ≤ ch then s.fire 72 (detail ch (s.lv (Reg.FUSE_STAT_LAST_TRIP ch))) else s
    let s := if 5 ≤ ch ∧ ch < 9 then s.setLv (Reg.FUSE_STAT_STATE ch) 6 else s
    (s.setFuse ch { x with held := true }).fuseSettle
  else
    let s := if x.waited then s.inc (Reg.FUSE_RETRY_CNT ch) else s
    let s := s.setFuse ch { x with held := false, waited := false, retried := x.waited, low := false, closedAt := s.fNow }
    let s := if ch = 9 then { s with pwr := { s.pwr with trStaged := true } } else s
    ((s.setLv (Reg.FUSE_STAT_STATE ch) 1).setLv (Reg.FUSE_STAT_PG ch) 0).fuseSettle

/-- May a channel that is open close now: enabled, not waiting, not latched without a toggle, not hot, not reversed? -/
def Chip.fuseMay (s : Chip) (ch : Nat) : Bool :=
  let x := s.fuseCh ch
  s.fuseEnable ch && !x.hot && !x.rev && (s.fuseState ch == 0 || (s.fuseState ch == 5 && x.low))

/-- Does seam loss hold the pass-through open: it is no retry of its own trip (01_node_and_chain.md R20)? -/
def Chip.trunkHeld (s : Chip) (ch : Nat) : Bool := ch == 9 && s.seam.lost && !(s.fuseCh 9).waited

/-- CHANNEL_CLOSE. -/
def Chip.channelClose (s : Chip) (ch vout : Nat) : Chip :=
  if s.fieldUp && s.fuseMay ch && !s.trunkHeld ch then s.fuseClose ch vout else s

/-- CHANNEL_OPEN: the enable has fallen; a waiting channel keeps its wait (R390, R395). -/
def Chip.channelOpen (s : Chip) (ch : Nat) : Chip :=
  if s.fieldUp && !s.fuseEnable ch && s.fuseState ch != 4 then
    let s := if s.fuseState ch = 5 then (if ch < 4 then s.portTripGone (ch + 1) else if 5 ≤ ch ∧ ch < 9 then s.portTripGone ch else s) else s
    s.fuseOpen ch
  else s

/-- GUARD_RELEASE: the output side of a held channel falls below its guard. -/
def Chip.guardRelease (s : Chip) (ch vout : Nat) : Chip :=
  if s.fieldUp ∧ !s.trunkHeld ch ∧ (s.fuseCh ch).held ∧ vout < fuseGuard ch ∧ s.fuseEnable ch ∧ (s.fuseState ch = 0 ∨ s.fuseState ch = 6) then
    s.fuseClose ch vout
  else s

/-- The channel-trip event, at most once per 1,000 cycle periods of a channel (R388). -/
def Chip.fuseEvent (s : Chip) (ch cause : Nat) : Chip :=
  let x := s.fuseCh ch
  if x.lastEvt ≠ 0 ∧ s.fNow + 1 < x.lastEvt + 1000 * s.period then s.inc (Reg.FUSE_TRIP_SUPP_CNT ch)
  else (s.setFuse ch { x with lastEvt := s.fNow + 1 }).fire 73 (detail ch cause)

/-- The RETRY wait in ns (R386, R390). -/
def Chip.retryWait (s : Chip) (ch : Nat) : Nat :=
  max 49 (s.fwk (Reg.FUSE_ELEC_RETRY_X ch)) * max 1 (min 1000 (s.fwk (Reg.FUSE_ELEC_TIMER ch))) * 100000

/-- A trip (R388 to R390). The trip that brings the consecutive count to RETRY_MAX latches; only one that ends a close after a wait counts. -/
def Chip.fuseTrip (s : Chip) (ch cause : Nat) : Chip :=
  let x := s.fuseCh ch
  let cons := if x.retried then x.cons + 1 else x.cons
  let mx := s.fwk (Reg.FUSE_POLICY_RETRY_MAX ch)
  let latch := !s.fwkB (Reg.FUSE_POLICY_MODE ch) || (mx != 0 && x.retried && decide (mx ≤ cons))
  let s := s.setFuse ch { x with
    cons := cons, retried := false, low := false, hot := x.hot || cause == 3, due := s.fNow + s.retryWait ch }
  let s := ((s.setLv (Reg.FUSE_STAT_STATE ch) (if latch then 5 else 4)).setLv (Reg.FUSE_STAT_PG ch) 0).setLv (Reg.FUSE_STAT_LAST_TRIP ch) cause
  let s := (s.inc (Reg.FUSE_TRIP_CNT ch)).fuseEvent ch cause
  let s := if ch < 4 then { (s.portTrip (ch + 1)) with fuseReq := clrBit s.fuseReq ch }
    else if 5 ≤ ch ∧ ch < 9 then { (s.portTrip ch) with fuseReq := clrBit s.fuseReq ch }
    else if ch = 9 then s.alm 5 else s
  s.fuseSettle

/-- A trip of a channel whose switch is closed. -/
def Chip.tripIfClosed (s : Chip) (ch cause : Nat) : Chip := if s.fieldUp && s.fuseClosed ch then s.fuseTrip ch cause else s

/-- RAMP_END (R383). -/
def Chip.rampEnd (s : Chip) (ch : Nat) : Chip :=
  if s.fieldUp ∧ s.fuseState ch = 1 then
    let s := s.setLv (Reg.FUSE_STAT_STATE ch) 2
    if ch = 9 then s.setLv (Reg.FUSE_STAT_PG ch) 1 else s
  else s

/-- RAMP_TIMEOUT: TR alone (R383). -/
def Chip.rampTimeout (s : Chip) : Chip :=
  if s.fieldUp ∧ s.fuseState 9 = 1 then (s.fieldTimeTo ((s.fuseCh 9).closedAt + 20000000)).fuseTrip 9 5 else s

/-- HP_REVERSE_OPEN (R387). -/
def Chip.hpReverse (s : Chip) (h : Nat) : Chip :=
  let ch := 5 + h
  if s.fieldUp && s.fuseClosed ch then
    let s := (s.fuseOpen ch).inc (Reg.FUSE_REV_CNT ch)
    s.setFuse ch { s.fuseCh ch with rev := true }
  else s

/-- HP_REVERSE_RECLOSE (R387). -/
def Chip.hpReclose (s : Chip) (h vout : Nat) : Chip :=
  let ch := 5 + h
  if s.fieldUp && (s.fuseCh ch).rev then
    let s := s.setFuse ch { s.fuseCh ch with rev := false }
    if s.fuseMay ch then s.fuseClose ch vout else s
  else s

/-- THERMAL_RECLOSE (R387). -/
def Chip.thermalReclose (s : Chip) (ch vout : Nat) : Chip :=
  if s.fieldUp ∧ ch < 9 ∧ (s.fuseCh ch).hot then
    let s := s.setFuse ch { s.fuseCh ch with hot := false }
    if s.fuseMay ch then s.fuseClose ch vout else s
  else s

/-- RETRY_WAIT_END (R390, R391): the wait ends; under a mode that is LATCH by now the channel latches, else it closes if its
enable is 1. A port without a host takes its power again (14_local_hub.md R302). -/
def Chip.retryWaitEnd (s : Chip) (ch vout : Nat) : Chip :=
  if s.fieldUp ∧ s.fuseState ch = 4 then
    let s : Chip := s.fieldTimeTo (s.fuseCh ch).due
    let p := if ch < 4 then ch + 1 else ch
    let port := ch < 4 ∨ (5 ≤ ch ∧ ch < 9)
    let s := if port then s.portTripGone p else s
    if !s.fwkB (Reg.FUSE_POLICY_MODE ch) then (s.setLv (Reg.FUSE_STAT_STATE ch) 5).fuseSettle else
    let s := (s.setLv (Reg.FUSE_STAT_STATE ch) 0).setFuse ch { s.fuseCh ch with waited := true }
    let s := if port then
        let s := (s.setHp p { s.hp p with tripped := false }).hubAuto
        { s with fuseReq := if bit s.portPowerWord ch then setBit s.fuseReq ch else s.fuseReq }
      else s
    let s := s.fuseSettle
    if s.fuseMay ch then s.fuseClose ch vout else s
  else s

/-- RETRY_STABLE (R390). -/
def Chip.retryStable (s : Chip) (ch : Nat) : Chip :=
  if s.fieldUp && s.fuseClosed ch then
    let s : Chip := s.fieldTimeTo ((s.fuseCh ch).closedAt + 1000000000)
    s.setFuse ch { s.fuseCh ch with cons := 0, retried := false }
  else s

/-- A command of FUSE on the field die: 0 the power terms, 1 EN has changed, 2 REARM of TR (R389). -/
def Chip.fuseUnit (s : Chip) (ch op v : Nat) : Chip :=
  match op with
  | 0 =>
    let s := { s with fuseReq := v, pwr := { s.pwr with trOrder := s.pwr.trOrder || bit v 10 } }
    s.fuseSettle
  | 1 =>
    let s := s.fuseSettle
    if s.fuseEnable ch then s else if s.fuseState ch = 4 then s else s.fuseOpen ch
  | 2 => if s.fuseState ch = 5 then s.fuseOpen ch else s
  | _ => s

end Sys2Proof.Machine
end

