-- ==== Sys2Proof/Machine/Cuff.lean ====
section
/-! DEFINITION. The Cuffs on the field die (16_cuffs_type_c_pd.md): attach machine, PD protocol hardware, Hard Reset, VSET,
swaps and policy. What the chapter leaves to the published Type-C and PD specifications (R351) is PRESUMED from them, log
entry 11. -/

namespace Sys2Proof.Machine

/-- TC_STATE (Table CUFF-3). -/
def Chip.tc (s : Chip) (c : Nat) : Nat := s.lv (Reg.CUFF_STAT_TC_STATE c)

/-- Is the Cuff attached? -/
def Chip.attached (s : Chip) (c : Nat) : Bool := s.tc c == 4 || s.tc c == 7

/-- Does the Cuff source: attached presenting Rp? -/
def Chip.sourcing (s : Chip) (c : Nat) : Bool := s.attached c && (s.cuff c).rp

/-- The Cuff's alternate-mode port (Table CUFF-1). -/
def altPort (c : Nat) : Option Nat := if c = 0 then some 1 else if c = 4 then some 0 else none

/-- STAT.POLICY as Table CUFF-7 gives it, the first row that applies. -/
def Chip.cuffPolicy (s : Chip) (c : Nat) : Nat :=
  let e := s.fwk (Reg.CUFF_POL_ENG c)
  if s.seam.lost || bit s.seam.safeOut (16 + c) then 4
  else if s.laneFenced (32 + c) || !s.active (32 + c) then 3
  else if !s.fwkB (Reg.CUFF_POL_SRC c) then 0
  else if !((s.engState e == 1 || s.engState e == 2) && s.active e && s.flag Reg.SEAM_STATUS_UP
      && (List.range 256).all (fun o => portReserved (0x2000 + 0x100 * c + o) || s.claim e (0x2000 + 0x100 * c + o) == 2)) then 2
  else 1

/-- STAT.POLICY as shown. -/
def Chip.policyShown (s : Chip) (c : Nat) : Nat := s.lv (Reg.CUFF_STAT_POLICY c)

/-- Does the Cuff run firmware policy? -/
def Chip.firmware (s : Chip) (c : Nat) : Bool := s.policyShown c == 1 && s.cuffPolicy c == 1

/-- The attach-change event. -/
def Chip.attachEvent (s : Chip) (c : Nat) : Chip := (s.fire 66 (detail c (s.tc c))).wakeCause 2

/-- Which pin bears the partner: 1 where CC2 does. -/
def ccOrient (p : CcPin → Bool) (x : Cuff) : Nat := if p x.cc1 then 0 else if p x.cc2 then 1 else 0

/-- Is a pin the partner's Rd, Rp, Ra? -/
def isRd (p : CcPin) : Bool := p == .rd
def isRp (p : CcPin) : Bool := match p with | .rp l => l != 0 | _ => false
def isRa (p : CcPin) : Bool := p == .ra

/-- A sink is found: Rd on one pin alone (R353). -/
def seesSink (x : Cuff) : Bool := isRd x.cc1 != isRd x.cc2

/-- A source is found: Rp on one pin alone. -/
def seesSource (x : Cuff) : Bool := isRp x.cc1 != isRp x.cc2

/-- The partner's Rp on the active pin: 0 none, 1 Default, 2 1.5 A, 3 3.0 A (Table CUFF-4, port CC). -/
def partnerRp (x : Cuff) : Nat :=
  match x.cc1, x.cc2 with | .rp l, _ => l.val | _, .rp l => l.val | _, _ => 0

/-- The pins as the attach machine sees them: open while instrument fault 2 holds both open (Table CUFF-8). -/
def Cuff.pins (x : Cuff) : Cuff := if x.ccOpen then { x with cc1 := .open_, cc2 := .open_ } else x

/-- Does the Cuff see Ra? -/
def seesRa (x : Cuff) : Bool := isRa x.cc1 || isRa x.cc2

/-- Follow the Cuff's pair into and out of the hub's service (R299, 14_local_hub.md R299). -/
def Chip.cuffPair (s : Chip) (c : Nat) : Chip :=
  let now := s.attached c && (if c < 4 then s.lvB (Reg.CUFF_STAT_DATA c) else !s.lvB (Reg.CUFF_STAT_DATA c))
  if now = (s.cuff c).pair then s else
  let s := s.setCuff c { s.cuff c with pair := now }
  if c < 4 then (if now then s else s.portGone (c + 1))
  else
    let s := { s with hub := { s.hub with pair := now } }
    if now then s else s.hubUpState 0

/-- VBUS_OK: the ramp has ended and the measured VBUS lies within 5 % of the target, 20 mV a code; at code 0 it reads 0, as at reset
(R361; DEDUCED, log entry 11). -/
def Chip.vbusShow (s : Chip) (c : Nat) : Chip :=
  let x := s.cuff c
  let mv := s.lv (Reg.CUFF_VBUS_MV c)
  s.setLvB (Reg.CUFF_STAT_VBUS_OK c) (x.target != 0 && !x.ramping && decide (19 * x.target ≤ mv) && decide (mv ≤ 21 * x.target))

/-- Set the VSET target (R360). -/
def Chip.vset (s : Chip) (c v : Nat) : Chip :=
  (s.setCuff c { s.cuff c with target := v, ramping := s.lv (Reg.CUFF_VBUS_CODE c) != v }).vbusShow c

/-- Open the source switch with VSET at code 0, the output code at once, since code 0 turns the converter off (R359, R360, Table CUFF-5;
DESIGN CHOICE, log entry 11). -/
def Chip.srcOff (s : Chip) (c : Nat) : Chip :=
  let s := s.setCuff c { s.cuff c with srcOn := false, target := 0, ramping := false }
  let s := (s.setLv (Reg.CUFF_VBUS_CODE c) 0).setLv (Reg.CUFF_STAT_VBUS_OK c) 0
  if s.fuseClosed c then s.fuseOpen c else s.fuseSettle

/-- Was there a VCONN fault within the last 1 s (Table CUFF-5)? -/
def Chip.vconnLate (s : Chip) (c : Nat) : Bool :=
  (s.cuff c).vconnFault != 0 && decide (s.fNow + 1 < (s.cuff c).vconnFault + 1000000000)

/-- Turn VCONN on where R353 has a source supply it: Ra stands on the other pin. A VCONN fault of the last 1 s keeps it off, as it does
for VCONN_ON (DESIGN CHOICE, log entry 11). -/
def Chip.vconnAuto (s : Chip) (c : Nat) : Chip := s.setLvB (Reg.CUFF_STAT_VCONN c) (seesRa (s.cuff c) && !s.vconnLate c)

/-- Does the safe-policy machine request the source switch (R371)? R300 and R303 hold the switch itself open (Table FUSE-2). -/
def Chip.safeWants (s : Chip) (c : Nat) : Bool := s.tc c == 7 && (s.cuff c).rp && (s.cuff c).hr == 0

/-- The safe-policy machine at work (R371): as source 5 V and VCONN under R353, with CUFF.SAFE.RP. -/
def Chip.safeSource (s : Chip) (c : Nat) : Chip :=
  if s.policyShown c = 1 then s else
  let a := min 2 (s.fwk (Reg.CUFF_SAFE c))
  let s : Chip := if (s.cuff c).adv = a then s else (s.setCuff c { s.cuff c with adv := a }).fuseSettle
  if s.safeWants c then
    let s : Chip := s.vconnAuto c
    if (s.cuff c).srcOn && (s.cuff c).target == 250 then s else ((s.setCuff c { s.cuff c with srcOn := true }).vset c 250).fuseSettle
  else if (s.cuff c).srcOn && (s.cuff c).hr == 0 then s.srcOff c else s

/-- End the alternate mode: the port leaves ACTIVE, then the pairs are released (R368, 05_gleshline_link.md R122). -/
def Chip.altOff (s : Chip) (c : Nat) : Chip :=
  if s.lvB (Reg.CUFF_STAT_ALT c) then
    let s := match altPort c with
      | some p => (s.linkEnter p 0).put (Reg.LINK_STAT_ALT p) 0
      | none => s
    s.setLv (Reg.CUFF_STAT_ALT c) 0
  else s

/-- A transmission that waits or is in progress ends with a result. -/
def Chip.txEnd (s : Chip) (c res : Nat) : Chip :=
  if (s.cuff c).txRes = 1 then s.setCuff c { s.cuff c with txRes := res, txWait := false } else s

/-- The contract ends (R359). -/
def Chip.contractEnd (s : Chip) (c : Nat) : Chip := ((s.setLv (Reg.CUFF_STAT_CONTRACT c) 0).setLv (Reg.CUFF_CONTRACT c) 0).fuseSettle

/-- Is the Cuff in a Hard Reset sequence; a sink's ends 1.7 s after the signalling (R359)? -/
def Chip.hrBusy (s : Chip) (c : Nat) : Bool :=
  let x := s.cuff c
  x.hr == 1 || x.hr == 2 || (x.hr == 3 && decide (s.fNow < x.hrAt + 1700000000))

/-- Everything an attachment leaves ends: source, VCONN, contract, window, FR_Swap, alternate mode, queue, cable. -/
def Chip.cuffClear (s : Chip) (c : Nat) : Chip :=
  let s := ((s.altOff c).txEnd c 3).srcOff c
  let s := (((s.contractEnd c).setLv (Reg.CUFF_STAT_VCONN c) 0).setLv (Reg.CUFF_STAT_SWAP c) 0).setLv (Reg.CUFF_STAT_FRS_ARMED c) 0
  let s := s.setLv (Reg.CUFF_STAT_CABLE_5A c) 0
  s.setCuff c { s.cuff c with
    hr := 0, hrOff := false, rx := [], rxId := [], txId := [], frsFired := false, frsLow := false, ams := false }

/-- Does the state present Rp? -/
def tcRp (st : Nat) : Bool := st == 5 || st == 6 || st == 7 || st == 8 || st == 11

/-- Enter an attach state that is not Attached; leaving Attached is a detach (R352). An unattached state that finds a partner
goes on to its wait. ErrorRecovery and Disabled end the hold of instrument fault 2, of which the spec gives no end (DESIGN CHOICE, log entry 11). -/
def Chip.tcEnter (s : Chip) (c st : Nat) : Chip :=
  let was := s.attached c
  let s := if was then s.cuffClear c else s
  let x : Cuff := if st < 2 then { s.cuff c with ccOpen := false } else s.cuff c
  let st := if st = 2 ∧ seesSource x.pins then 3 else if st = 5 ∧ seesSink x.pins then 6 else st
  let s := (s.setLv (Reg.CUFF_STAT_TC_STATE c) st).setLvB (Reg.CUFF_STAT_PWR c) false
  let s := (s.setCuff c { x with rp := tcRp st }).setLv (Reg.CUFF_STAT_DATA c) 0
  let s := s.cuffPair c
  if was then s.attachEvent c else s

/-- Enter Attached.SRC or Attached.SNK (R352 to R354). -/
def Chip.tcAttach (s : Chip) (c : Nat) (src : Bool) : Chip :=
  let x := s.cuff c
  let s := (s.setLv (Reg.CUFF_STAT_TC_STATE c) (if src then 7 else 4)).setLvB (Reg.CUFF_STAT_PWR c) src
  let s := (s.setLvB (Reg.CUFF_STAT_DATA c) src).setLv (Reg.CUFF_STAT_ORIENT c) (ccOrient (if src then isRd else isRp) x)
  let s := s.setCuff c { x with rp := src }
  let s := if src then s.vconnAuto c else s.setLv (Reg.CUFF_STAT_VCONN c) 0
  ((s.safeSource c).cuffPair c).attachEvent c

/-- The Cuff's connection mode: 0 sink, 1 source, 2 DRP; a reserved code counts as sink. -/
def Chip.tcMode (s : Chip) (c : Nat) : Nat := if s.fwk (Reg.CUFF_TC_CFG_MODE c) = 3 then 0 else s.fwk (Reg.CUFF_TC_CFG_MODE c)

/-- The unattached state after ErrorRecovery (Type-C 4.5.2.2.2.2). -/
def Chip.tcFresh (s : Chip) (c : Nat) : Nat :=
  match s.tcMode c with | 0 => 2 | 1 => 5 | _ => if s.fwk (Reg.CUFF_TC_CFG_TRY c) = 1 then 5 else 2

/-- The unattached state after a detach. -/
def Chip.tcUnattached (s : Chip) (c : Nat) : Nat := if s.tcMode c = 1 then 5 else 2

/-- CC_CHANGE (R352, R353): new pins; moves that need no timer are made at once. Attached states wait for tPDDebounce. -/
def Chip.ccChange (s : Chip) (c : Nat) (a b : CcPin) : Chip :=
  if !s.fieldUp then s else
  let x := { s.cuff c with cc1 := a, cc2 := b }
  let s := s.setCuff c x
  let x : Cuff := x.pins
  if s.lvB (Reg.CUFF_STAT_SWAP c) then s else
  match s.tc c with
  | 2 => if seesSource x then s.tcEnter c 3 else s
  | 5 => if seesSink x then s.tcEnter c 6 else s
  | 6 => if seesSink x then s else s.tcEnter c (if s.tcMode c = 2 then 2 else 5)
  | _ => s

/-- TC_TIMER_EXPIRE (R352, Table CUFF-3). -/
def Chip.tcTimer (s : Chip) (c : Nat) (t : TcTimer) : Chip :=
  if !s.fieldUp then s else
  let x : Cuff := (s.cuff c).pins
  let drp := s.tcMode c == 2
  let tri := s.fwk (Reg.CUFF_TC_CFG_TRY c)
  let frozen := s.lvB (Reg.CUFF_STAT_SWAP c)
  match s.tc c, t with
  | 1, .errorRecovery => s.tcEnter c (s.tcFresh c)
  | 3, .ccDebounce => if seesSource x then (if drp && tri == 1 then s.tcEnter c 8 else s.tcAttach c false) else s
  | 3, .pdDebounce => if seesSource x then s else s.tcEnter c (if drp then 5 else 2)
  | 4, .pdDebounce => if seesSource x || frozen then s else s.tcEnter c 2
  | 6, .ccDebounce => if seesSink x then (if drp && tri == 2 then s.tcEnter c 10 else s.tcAttach c true) else s
  | 7, .pdDebounce => if seesSink x || frozen then s else s.tcEnter c (s.tcUnattached c)
  | 8, .tryCcDebounce => if seesSink x then s.tcAttach c true else s
  | 8, .drpTry => if seesSink x then s else s.tcEnter c 9
  | 8, .tryTimeout => s.tcEnter c 9
  | 9, .ccDebounce => if seesSource x then s.tcAttach c false else s
  | 9, .pdDebounce => if seesSource x then s else s.tcEnter c 2
  | 10, .tryCcDebounce => if seesSource x then s.tcAttach c false else s
  | 10, .drpTry => if seesSource x then s else s.tcEnter c 11
  | 11, .tryCcDebounce => if seesSink x then s.tcAttach c true else s
  | 11, .drpTry => if seesSink x then s else s.tcEnter c 2
  | _, _ => s

/-- DRP_TOGGLE (R352). -/
def Chip.drpToggle (s : Chip) (c : Nat) : Chip :=
  if s.fieldUp && s.tcMode c == 2 then
    match s.tc c with
    | 2 => s.tcEnter c 5
    | 5 => s.tcEnter c 2
    | _ => s
  else s

/-- VBUS_REMOVAL: an Attached.SNK Cuff detaches, but in a window, and in the 1.7 s after a Hard Reset (R352, R359, R365). -/
def Chip.vbusRemoval (s : Chip) (c : Nat) : Chip :=
  if s.fieldUp && s.tc c == 4 && !s.lvB (Reg.CUFF_STAT_SWAP c) && !((s.cuff c).hr == 3 && s.hrBusy c) then s.tcEnter c 2 else s

/-! Messages -/

/-- The type, count of data objects and MessageID of a PD header. -/
def pdHeader (b : List (BitVec 8)) : Nat × Nat × Nat :=
  let h := leNat (b.take 2)
  (h % 32, h / 4096 % 8, h / 512 % 8)

/-- Data object i of a message. -/
def pdObject (b : List (BitVec 8)) (i : Nat) : Nat := leNat ((b.drop (2 + 4 * i)).take 4)

/-- An SOP' Discover Identity ACK whose cable VDO gives 5 A VBUS current handling (R362; field places from PD 3.1). -/
def cable5A (sop : Nat) (b : List (BitVec 8)) : Bool :=
  let h := pdHeader b
  let v := pdObject b 0
  sop == 1 && h.1 == 15 && decide (5 ≤ h.2.1) && v / 65536 == 0xFF00 && bit v 15 && bits v 7 6 == 1 && bits v 4 0 == 1 &&
    bits (pdObject b 4) 6 5 == 2

/-- Is a message a Soft_Reset: control message 13, not extended (PRESUMED from PD 3.1, log entry 11)? -/
def isSoftReset (b : List (BitVec 8)) : Bool := leNat (b.take 2) % 32 == 13 && bits (leNat (b.take 2)) 15 12 == 0

/-- PD_MESSAGE_RECEIVE (R355, R357): answered and queued, or left unanswered with a full queue; a repeat is answered alone. A Soft_Reset
resets the MessageIDs of its SOP type first (PRESUMED from PD 3.1, log entry 11). -/
def Chip.pdReceive (s : Chip) (c sop : Nat) (b : List (BitVec 8)) : Chip :=
  if !s.fieldUp || !s.lvB (Reg.CUFF_STAT_RX_ON c) || !s.attached c then s else
  let x := s.cuff c
  let s := if x.txRes = 1 ∧ x.txWait then (s.txEnd c 4).inc (Reg.CUFF_TX_DISCARD_CNT c) else s
  let x := s.cuff c
  if 4 ≤ x.rx.length then s.inc (Reg.CUFF_RX_FULL_CNT c) else
  let id := (pdHeader b).2.2
  let x : Cuff := if isSoftReset b then { x with txId := x.txId.put 0 sop 0, rxId := x.rxId.put 0 sop 0 } else x
  if x.rxId.get 0 sop = id + 1 then s else
  let s := s.setCuff c { x with rx := x.rx ++ [(sop, b.take 30)], rxId := x.rxId.put 0 sop (id + 1) }
  if cable5A sop b then s.setLv (Reg.CUFF_STAT_CABLE_5A c) 1 else s

/-- A write of TX_GO (R355, R356, Table CUFF-4): true where it is accepted; a length outside 2 to 30 or the unlisted SOP type is
refused (DESIGN CHOICE, log entry 13). A Soft_Reset starts its SOP type's MessageIDs anew (PRESUMED from PD 3.1, log entry 11). -/
def Chip.txGo (s : Chip) (c v : Nat) : Bool × Chip :=
  let x := s.cuff c
  let n := bits v 4 0
  if x.txRes = 1 ∨ n < 2 ∨ 30 < n ∨ bits v 6 5 = 3 then (false, s) else
  let ams := bit v 8 && !bit v 7
  let x := { x with txGo := v % 512, txRes := 1, txWait := false, retries := if bit v 7 then 3 else 2 }
  let k := bits v 6 5
  let x := if x.txData.get 0 0 % 32 = 13 ∧ bits (x.txData.get 0 0) 15 12 = 0 then { x with txId := x.txId.put 0 k 0, rxId := x.rxId.put 0 k 0 } else x
  if ams && x.rp then (true, (s.setCuff c { x with txWait := true, txAt := s.fNow, ams := true, adv := 1 }).fuseSettle)
  else if ams && partnerRp x != 3 then (true, s.setCuff c { x with txRes := 6 })
  else (true, s.setCuff c x)

/-- SINK_TX_WAIT_END (R356). -/
def Chip.sinkTxWaitEnd (s : Chip) (c : Nat) : Chip :=
  if s.fieldUp && (s.cuff c).txRes == 1 && (s.cuff c).txWait then
    let s : Chip := s.fieldTimeTo ((s.cuff c).txAt + 18000000)
    s.setCuff c { s.cuff c with txWait := false }
  else s

/-- The MessageID of the transmission's SOP type goes on. -/
def nextTxId (x : Cuff) : Cuff :=
  let k := bits x.txGo 6 5
  { x with txId := x.txId.put 0 k ((x.txId.get 0 k + 1) % 8) }

/-- CRC_RECEIVE_TIMEOUT (R355). -/
def Chip.crcTimeout (s : Chip) (c : Nat) : Chip :=
  let x := s.cuff c
  if s.fieldUp && x.txRes == 1 && !x.txWait then
    if 0 < x.retries then s.setCuff c { x with retries := x.retries - 1 }
    else (s.setCuff c { nextTxId x with txRes := 3 }).inc (Reg.CUFF_TX_FAIL_CNT c)
  else s

/-- TX_COMPLETE (R355). -/
def Chip.txComplete (s : Chip) (c : Nat) : Chip :=
  let x := s.cuff c
  if s.fieldUp && x.txRes == 1 && !x.txWait then s.setCuff c { nextTxId x with txRes := 2 } else s

/-! Hard Reset -/

/-- A swap window closes with the roles as they stand (R365, R372). -/
def Chip.windowClose (s : Chip) (c : Nat) : Chip :=
  if !s.lvB (Reg.CUFF_STAT_SWAP c) then s else
  let x := s.cuff c
  let s := (s.setLv (Reg.CUFF_STAT_SWAP c) 0).setCuff c { x with frsFired := false }
  (s.setLv (Reg.CUFF_STAT_TC_STATE c) (if x.rp then 7 else 4)).setLvB (Reg.CUFF_STAT_PWR c) x.rp

/-- The sequence of R359 begins with the signalling; a source whose sequence R356 opened advertises SinkTxOK again. -/
def Chip.hrStart (s : Chip) (c : Nat) : Chip :=
  let s := ((s.txEnd c 5).contractEnd c).altOff c
  let s := (s.setLv (Reg.CUFF_STAT_FRS_ARMED c) 0).windowClose c
  let x := s.cuff c
  let src := x.rp
  let s := s.setCuff c { x with
    rx := [], rxId := [], txId := [], hr := if src then 1 else 3, hrAt := s.fNow, ams := false
    adv := if x.ams && src then 2 else x.adv }
  let s := if src then s.fuseSettle else ((s.setLv (Reg.CUFF_STAT_DATA c) 0).setLv (Reg.CUFF_STAT_VCONN c) 0).cuffPair c
  s.fire 68 (detail c (s.tc c))

/-- HARD_RESET_RECEIVE (R358), under either policy. Whether a message was being received at its instant the row does not tell: while the receiver
is on, a free value says so (log entry 6). -/
def Chip.hrReceive (s : Chip) (c : Nat) : Chip :=
  if !s.fieldUp || !s.attached c then s else
  let s := if s.lvB (Reg.CUFF_STAT_RX_ON c) then ((if s.free % 2 = 1 then s.inc (Reg.CUFF_RX_ABORT_CNT c) else s)).drew else s
  (s.inc (Reg.CUFF_HR_RX_CNT c)).hrStart c

/-- Send Hard Reset signalling (R358). -/
def Chip.hrSend (s : Chip) (c : Nat) : Chip := (s.inc (Reg.CUFF_HR_TX_CNT c)).hrStart c

/-- The sequence ends; after a handover the receiver turns off (R372). -/
def Chip.hrEnd (s : Chip) (c : Nat) : Chip :=
  let x := s.cuff c
  let s := if x.hrOff then s.setLv (Reg.CUFF_STAT_RX_ON c) 0 else s
  s.setCuff c { x with hr := 0, hrOff := false }

/-- PS_HARD_RESET_EXPIRE (R359, step 2). -/
def Chip.psHrExpire (s : Chip) (c : Nat) : Chip :=
  if s.fieldUp && (s.cuff c).hr == 1 then
    let s : Chip := s.fieldTimeTo ((s.cuff c).hrAt + 30000000)
    let s := ((s.srcOff c).setLv (Reg.CUFF_STAT_VCONN c) 0).setLv (Reg.CUFF_STAT_DATA c) 1
    (s.setCuff c { s.cuff c with hr := 2 }).cuffPair c
  else s

/-- SRC_RECOVER_EXPIRE (R359, step 2); where R300 and R303 do not allow the switch to close, its enable holds it open (Table FUSE-2). -/
def Chip.srcRecover (s : Chip) (c : Nat) : Chip :=
  if s.fieldUp && (s.cuff c).hr == 2 then
    let s : Chip := s.fieldTimeTo ((s.cuff c).hrAt + 830000000)
    let s := (s.hrEnd c).vconnAuto c
    if s.policyShown c = 1 then ((s.setCuff c { s.cuff c with srcOn := true }).vset c 250).fuseSettle else s.safeSource c
  else s

/-- SINK_HARD_RESET_EXPIRE (R359, step 3). -/
def Chip.sinkHrExpire (s : Chip) (c : Nat) : Chip :=
  if s.fieldUp && (s.cuff c).hr == 3 then ((s.fieldTimeTo ((s.cuff c).hrAt + 1700000000)).hrEnd c).tcEnter c 2 else s

/-- A sink's sequence is over by itself once 1.7 s have passed with VBUS back (R359). -/
def Chip.cuffTick (s : Chip) : Chip :=
  s.each (List.range 5) (fun s c => if (s.cuff c).hr == 3 && !s.hrBusy c then s.hrEnd c else s)

/-! VSET and contracts -/

/-- VSET_RAMP_STEP (R360). -/
def Chip.vsetStep (s : Chip) (c : Nat) : Chip :=
  let x := s.cuff c
  if s.fieldUp && x.ramping then
    let v := s.lv (Reg.CUFF_VBUS_CODE c)
    let w := if v < x.target then v + 1 else if x.target < v then v - 1 else v
    ((s.setLv (Reg.CUFF_VBUS_CODE c) w).setCuff c { x with ramping := w != x.target }).vbusShow c
  else s

/-- PPS_LIMIT_STEP: the channel measures a current in mA (R363). -/
def Chip.ppsStep (s : Chip) (c mA : Nat) : Chip :=
  let x := s.cuff c
  let k := s.lv (Reg.CUFF_CONTRACT c)
  if s.fieldUp && s.lvB (Reg.CUFF_STAT_CONTRACT c) && bit k 21 && s.fuseClosed c then
    let v := s.lv (Reg.CUFF_VBUS_CODE c)
    let i := 10 * bits k 20 11
    if i ≤ mA then s.setLv (Reg.CUFF_VBUS_CODE c) (if 165 < v then v - 1 else v)
    else if 100 * mA ≤ 95 * i ∧ v < x.target then s.setLv (Reg.CUFF_VBUS_CODE c) (v + 1) else s
  else s

/-- A write of VSET (Table CUFF-4). -/
def Chip.vsetPort (s : Chip) (c v : Nat) : Bool × Chip :=
  if (v = 0 ∨ (165 ≤ v ∧ v ≤ 1050)) ∧ s.sourcing c then (true, s.vset c v) else (false, s)

/-- A write of CONTRACT (R362). -/
def Chip.contractPort (s : Chip) (c v : Nat) : Bool × Chip :=
  let v := v % 2 ^ 24
  if !bit v 23 then (true, s.contractEnd c) else
  let code := bits v 10 0
  let src := bit v 22
  let bad := (src && decide (300 < bits v 20 11) && !s.lvB (Reg.CUFF_STAT_CABLE_5A c)) ||
    (!bit v 21 && code != 250 && code != 450 && code != 750 && code != 1000) ||
    (bit v 21 && (decide (code < 165) || decide (1050 < code) || !src))
  if bad then (false, s)
  else (true, ((s.setLv (Reg.CUFF_CONTRACT c) v).setLv (Reg.CUFF_STAT_CONTRACT c) 1).fuseSettle)

/-- Enter ErrorRecovery: the contract ends without Hard Reset (Table CUFF-5). -/
def Chip.errorRecovery (s : Chip) (c : Nat) : Chip := s.tcEnter c 1

/-- The VBUS voltage is at or above 0.8 V, as last measured. -/
def Chip.vbusLive (s : Chip) (c : Nat) : Bool := decide (800 ≤ s.lv (Reg.CUFF_VBUS_MV c))

/-- A command at the CMD port (R376, Table CUFF-5): true where it is accepted. SRC_ON's code is the VSET output code (DEDUCED, log entry 11);
a code that the table does not list is refused (DESIGN CHOICE, log entry 13). -/
def Chip.cuffCmd (s : Chip) (c code : Nat) : Bool × Chip :=
  let x := s.cuff c
  let win := s.lvB (Reg.CUFF_STAT_SWAP c)
  let no : Bool × Chip := (false, s)
  if s.hrBusy c ∧ code ≠ 18 ∧ code ≠ 15 then no else
  match code with
  | 1 => if s.attached c then (true, s.hrSend c) else no
  | 2 => if s.lvB (Reg.CUFF_STAT_DATA c) && s.lvB (Reg.CUFF_STAT_VCONN c) then (true, s) else no
  | 3 =>
    if !x.rp ∨ !(s.tc c == 7 || win) ∨ !s.portPow c ∨ s.lv (Reg.CUFF_VBUS_CODE c) = 0 ∨ s.vbusLive c then no
    else (true, (s.setCuff c { x with srcOn := true }).fuseSettle)
  | 4 => (true, s.srcOff c)
  | 5 =>
    if !s.attached c ∨ s.vconnLate c then no
    else (true, s.setLv (Reg.CUFF_STAT_VCONN c) 1)
  | 6 => (true, s.setLv (Reg.CUFF_STAT_VCONN c) 0)
  | 7 => if !win ∨ s.fuseClosed c then no else (true, s.setCuff c { x with rp := true })
  | 8 => if !win ∨ s.fuseClosed c ∨ (s.vbusLive c ∧ !x.frsFired) then no else (true, s.setCuff c { x with rp := false })
  | 9 => if s.attached c then (true, (s.setLv (Reg.CUFF_STAT_DATA c) 1).cuffPair c) else no
  | 10 => if s.attached c then (true, (s.setLv (Reg.CUFF_STAT_DATA c) 0).cuffPair c) else no
  | 11 => if !s.attached c ∨ win then no else (true, (s.setLv (Reg.CUFF_STAT_SWAP c) 1).setCuff c { x with swapAt := s.fNow })
  | 12 => if win then (true, (s.windowClose c).cuffPair c) else no
  | 13 => if x.rp then (true, (s.setCuff c { x with adv := 2, ams := false }).fuseSettle) else no
  | 14 =>
    match altPort c with
    | none => no
    | some p =>
      if !s.flag (Reg.LINK_PHY_MEDIA p) ∨ !s.lvB (Reg.CUFF_STAT_CONTRACT c) ∨ s.lvB (Reg.CUFF_STAT_ALT c) then no
      else (true, (s.setLv (Reg.CUFF_STAT_ALT c) 1).put (Reg.LINK_STAT_ALT p) 1)
  | 15 => (true, s.altOff c)
  | 16 =>
    if s.tc c ≠ 7 ∨ !(s.lvB (Reg.CUFF_STAT_CONTRACT c) && bit (s.lv (Reg.CUFF_CONTRACT c)) 22) ∨ win then no
    else (true, s.setLv (Reg.CUFF_STAT_FRS_ARMED c) 1)
  | 17 => (true, s.setLv (Reg.CUFF_STAT_FRS_ARMED c) 0)
  | 18 => (true, s.errorRecovery c)
  | _ => no

/-- Has the policy watchdog run out (R374)? -/
def Chip.wdogLate (s : Chip) (c : Nat) : Bool :=
  let ms := s.fwk (Reg.CUFF_POL_WDOG_MS c)
  s.policyShown c == 1 && ms != 0 && !s.fTime.loose && decide ((s.cuff c).kick + ms * 1000000 ≤ s.fNow)

/-- A write of a Cuff port by its offset (Table CUFF-4): true where it is accepted. A KICK that meets the expiry does not stop it (Table
CUFF-9). -/
def Chip.cuffPortWrite (s : Chip) (c off v : Nat) : Bool × Chip :=
  if !s.firmware c ∨ !s.flag (Reg.CUFF_STAT_EN c) ∨ !s.active (32 + c) then (false, s) else
  let x := s.cuff c
  if off = 0x18 then (true, s.setCuff c { x with rx := x.rx.drop 1 })
  else if 0x20 ≤ off ∧ off < 0x28 then (true, s.setCuff c { x with txData := x.txData.put 0 (off - 0x20) v })
  else if off = 0x28 then s.txGo c v
  else if off = 0x30 then s.cuffCmd c v
  else if off = 0x31 then s.vsetPort c v
  else if off = 0x32 then s.contractPort c v
  else if off = 0x33 then (true, if s.wdogLate c then s.fault (32 + c) 6 0 0 else s.setCuff c { x with kick := s.fNow })
  else if off = 0x34 then (if v < 3 then (true, (s.setCuff c { x with adv := v }).fuseSettle) else (false, s))
  else (false, s)

/-! Swaps, policy and faults -/

/-- SWAP_TIMEOUT (R365). -/
def Chip.swapTimeout (s : Chip) (c : Nat) : Chip :=
  if s.fieldUp && s.lvB (Reg.CUFF_STAT_SWAP c) then
    let s : Chip := s.fieldTimeTo ((s.cuff c).swapAt + 1000000000)
    let s := s.setLv (Reg.CUFF_STAT_SWAP c) 0
    (s.fire 70 (detail c (s.tc c))).errorRecovery c
  else s

/-- FRS_TRIGGER (R366). -/
def Chip.frsTrigger (s : Chip) : Chip :=
  if !s.fieldUp then s else
  (s.setLv Reg.CUFF_FRS_STAT 1).each (List.range 5) (fun s c =>
    if s.lvB (Reg.CUFF_STAT_FRS_ARMED c) && !s.lvB (Reg.CUFF_STAT_SWAP c) then
      let s := ((s.srcOff c).setLv (Reg.CUFF_STAT_SWAP c) 1).setLv (Reg.CUFF_STAT_FRS_ARMED c) 0
      let s := s.setCuff c { s.cuff c with frsFired := true, frsLow := true, swapAt := s.fNow }
      (s.inc (Reg.CUFF_FRS_CNT c)).fire 69 (detail c (s.tc c))
    else s)

/-- FRS_SIGNAL_END (R366). -/
def Chip.frsSignalEnd (s : Chip) (c : Nat) : Chip :=
  if s.fieldUp && (s.cuff c).frsLow then
    let s : Chip := s.fieldTimeTo ((s.cuff c).swapAt + 90000)
    s.setCuff c { s.cuff c with frsLow := false }
  else s

/-- A Cuff leaves FIRMWARE (R372). A transmission ends as HARD_RESET with a contract (R358), else as failed (DESIGN CHOICE, log entry 11). -/
def Chip.handover (s : Chip) (c to_ : Nat) : Chip :=
  let s := (s.txEnd c (if s.lvB (Reg.CUFF_STAT_CONTRACT c) then 5 else 3)).setLv (Reg.CUFF_STAT_FRS_ARMED c) 0
  let s := s.setLv (Reg.CUFF_STAT_POLICY c) to_
  let s := if s.lvB (Reg.CUFF_STAT_CONTRACT c) then
      let s := s.hrSend c
      s.setCuff c { s.cuff c with hrOff := true }
    else (((s.setLv (Reg.CUFF_STAT_RX_ON c) 0).altOff c).windowClose c).cuffPair c
  let s := (s.inc (Reg.CUFF_HANDOVER_CNT c)).fire 67 (detail c to_)
  if (s.cuff c).hr = 0 then s.safeSource c else s

/-- POLICY_HANDOVER: a condition of R370 no longer holds. -/
def Chip.policyHandover (s : Chip) (c : Nat) : Chip :=
  if s.fieldUp && s.policyShown c == 1 && s.cuffPolicy c != 1 then s.handover c (s.cuffPolicy c) else s

/-- POLICY_TO_FIRMWARE (R373). -/
def Chip.policyToFirmware (s : Chip) (c : Nat) : Chip :=
  if s.fieldUp && s.policyShown c != 1 && s.cuffPolicy c == 1 then
    let s := (s.setLv (Reg.CUFF_STAT_POLICY c) 1).setLv (Reg.CUFF_STAT_RX_ON c) 1
    let s := s.setCuff c { s.cuff c with hrOff := false, kick := s.fNow }
    s.fire 67 (detail c 1)
  else s

/-- Among the safe states STAT.POLICY follows Table CUFF-7 at once. -/
def Chip.policyShow (s : Chip) : Chip :=
  s.each (List.range 5) (fun s c =>
    if s.policyShown c != 1 && s.cuffPolicy c != 1 then s.setLv (Reg.CUFF_STAT_POLICY c) (s.cuffPolicy c) else s)

/-- CUFF_POLICY_WDOG_EXPIRE (R374). -/
def Chip.cuffWdog (s : Chip) (c : Nat) : Chip :=
  let ms := s.fwk (Reg.CUFF_POL_WDOG_MS c)
  if s.fieldUp ∧ s.policyShown c = 1 ∧ ms ≠ 0 then (s.fieldTimeTo ((s.cuff c).kick + ms * 1000000)).fault (32 + c) 6 0 0 else s

/-- CUFF_INSTRUMENT_FAULT (R377, Table CUFF-8). -/
def Chip.cuffFault (s : Chip) (c code : Nat) : Chip :=
  if !s.fieldUp ∨ code = 0 ∨ 5 < code ∨ (code = 1 ∧ !(s.cuff c).srcOn) then s else
  let s := match code with
    | 1 => s.srcOff c
    | 2 => s.setCuff c { s.cuff c with ccOpen := true }
    | 4 => (s.setLv (Reg.CUFF_STAT_VCONN c) 0).setCuff c { s.cuff c with vconnFault := s.fNow + 1 }
    | 5 => s.srcOff c
    | _ => s
  (s.put (Reg.CUFF_FAULT_LAST c) code).fault (32 + c) 5 code 0

/-- SWITCH_STUCK (17_switching_and_fusing.md R396). -/
def Chip.switchStuck (s : Chip) (ch : Nat) : Chip :=
  if !s.fieldUp || s.fuseClosed ch then s
  else if ch < 5 then s.cuffFault ch 5
  else if ch < 9 then s.fault (32 + ch) 5 1 0
  else (s.setLv (Reg.FUSE_STAT_STUCK 9) 1).fire 74 (detail 9 (s.lv (Reg.FUSE_STAT_LAST_TRIP 9)))

/-- Disable a Cuff: both CC pins open, VBUS and VCONN off (Table CUFF-3). -/
def Chip.cuffOff (s : Chip) (c : Nat) : Chip := (s.cuffClear c).tcEnter c 0

/-- A command of CUFF on the field die: 0 DISABLE, 1 ENABLE. -/
def Chip.cuffUnit (s : Chip) (c op : Nat) : Chip :=
  match op with
  | 0 => s.cuffOff c
  | 1 => if s.tc c = 0 then s.tcEnter c 1 else s
  | _ => s

end Sys2Proof.Machine
end

