-- ==== Sys2Proof/Machine/Meas.lean ====
section
/-! DEFINITION. Measurement on the field die (18_measurement.md R397 to R416). Units: 0 SA, 1 SB, 2 the bridges, 3 the counters. -/

namespace Sys2Proof.Machine

/-- The flask of a measurement unit. -/
def measFlask (u : Nat) : Nat := if u = 0 then 45 else if u = 1 then 46 else 47

/-- The unit's enable. -/
def measEn (u : Nat) : Fld :=
  match u with | 0 => Reg.MEAS_STAT_SA_EN | 1 => Reg.MEAS_STAT_SB_EN | 2 => Reg.MEAS_STAT_BR_EN | _ => Reg.MEAS_STAT_PC_EN

/-- Is the unit stopped: its flask fenced, or waiting for a mark after a revive (R413, R416)? -/
def Chip.measStopped (s : Chip) (u : Nat) : Bool :=
  s.laneFenced (measFlask u) || s.seam.lost || bit s.seam.marks (measFlask u) || bit s.meas.stopped (min u 2)

/-- Is chain time steered: LOCKED or HOLDOVER (R401)? -/
def Chip.steered (s : Chip) : Bool := decide (2 ≤ s.get Reg.CLK_STATUS_SYNC)

/-- Words a delivery holds for the seam (R413). -/
def measWords (l : List MeasOut) : Nat := l.foldl (fun n o => n + o.items.length + (if o.img.isSome then 1 else 0)) 0

/-- A delivery reaches the core die: the runner put, then the image word (R411, R412). Of a packet the runner refuses, the first delivery
counts and is reported (11_runners.md R255), and each counts in DROP_CNT. -/
def Chip.measPut (s : Chip) (u : Nat) (o : MeasOut) : Chip :=
  let s := match o.run with
    | some q =>
      let r := if !o.first && s.runRefuses q true (some (measFlask u)) then (false, s) else s.hwPut q 35 (some (measFlask u)) o.items
      if r.1 then r.2 else r.2.inc (Reg.MEAS_DROP_CNT u)
    | none => s
  match o.img with
  | some (x, w) => s.stw (x % 0x4000 / 4 * 4) (BitVec.ofNat 32 w)
  | none => s

/-- A delivery cut to its first n words: its runner items, then its image word. -/
def measCut (n : Nat) (o : MeasOut) : MeasOut :=
  { o with
    run := if (o.items.take n).isEmpty then none else o.run
    items := o.items.take n, img := if n ≤ o.items.length then none else o.img }

/-- Deliver over the seam, or hold up to 64 words of the unit while it is silent; each word that finds the hold full is lost (R413). -/
def Chip.measSend (s : Chip) (u : Nat) (o : MeasOut) : Chip :=
  if s.coreUp && s.seam.coreRx then s.measPut u o
  else
    let h := s.meas.hold.get [] u
    let kept := measCut (64 - measWords h) o
    let s := if measWords [kept] = 0 then s else { s with meas := { s.meas with hold := s.meas.hold.put [] u (h ++ [kept]) } }
    s.add (Reg.MEAS_LOST_CNT u) (measWords [o] - measWords [kept])

/-- The seam returns: what was held is delivered (R413). -/
def Chip.measRelease (s : Chip) : Chip :=
  let h := s.meas.hold
  ({ s with meas := { s.meas with hold := [] } }).each [0, 1, 2, 3] (fun s u => s.each (h.get [] u) (fun s o => s.measPut u o))

/-- A delivery to the destination word of Table MEAS-11: the sample word, and the stamp word with TS. -/
def measOut (dest word stamp : Nat) (ts endMark first : Bool) : MeasOut :=
  let k := if endMark then 1 else 0
  { first := first
    run := if bit dest 0 then some (bits dest 7 1) else none
    items := if bit dest 0 then (if ts then [(0, word), (k, stamp % 2 ^ 32)] else [(k, word)]) else []
    img := if bit dest 9 then some (bits dest 23 10, word) else none }

/-- The sample word of input n at a reading in its value unit, with its flags but TIME and CAL (R397, R398, R410). -/
def Chip.ainSample (s : Chip) (n : Nat) (r : Int) : Nat :=
  let mode := s.fwk (Reg.MEAS_AIN_CFG n)
  if !bit (s.fwk Reg.MEAS_AIN_EN) n ∨ mode = 0 then 2 ^ 24 else
  if mode = 3 ∧ bit s.meas.shuntOpen n then 2 ^ 29 else
  let hi : Int := if mode = 1 then 55000 else if mode = 2 then 35200 else 22000
  let ov : Int := if mode = 1 then 50000 else if mode = 2 then 32000 else 21000
  let v := clampInt 0 hi r
  v.toNat + (if ov < v then 2 ^ 25 else 0) + (if mode = 3 ∧ v < 3600 then 2 ^ 26 else 0)

/-- Is monitor m signed (Table MEAS-2)? -/
def monSigned (m : Nat) : Bool := m == 8 || m == 9 || m == 13

/-- The sample word of monitor m. -/
def monSample (m : Nat) (r : Int) : Nat :=
  if monSigned m then unsigned 24 (clampInt (-32768) 32767 r) else (clampInt 0 65535 r).toNat

/-- The input-range event, at most once per 1,000 cycle periods of an input (the note under Table MEAS-11). -/
def Chip.rangeEvent (s : Chip) (n word : Nat) : Chip :=
  let last := s.meas.lastEvt.get 0 n
  if last ≠ 0 ∧ s.fNow + 1 < last + 1000 * s.period then s
  else ({ s with meas := { s.meas with lastEvt := s.meas.lastEvt.put 0 n (s.fNow + 1) } }).fire 75 (detail n (word / 2 ^ 24))

/-- The flags of an input, with an event on each change of OVR, UNDER or FAULT while it is enabled (the note under Table MEAS-11). -/
def Chip.ainFlags (s : Chip) (n word : Nat) : Chip :=
  let f := bits word 29 25 % 4 + 16 * bits word 29 29
  let old := s.meas.flags.get 0 n
  if f = old then s else
  ({ s with meas := { s.meas with flags := s.meas.flags.put 0 n f } }).rangeEvent n word

/-- One entry of a burst: its sample word, recorded as the last of its source (R402, R410, R417). -/
def Chip.entrySample (s : Chip) (k e src : Nat) (r : Int) : Nat × Chip :=
  let cal := if k = 0 then s.meas.calA else s.meas.calB
  let w := (if src < 24 then s.ainSample src r else monSample (src - 32) r)
  let w := w + (if s.get Reg.CLK_STATUS_SYNC = 3 then 2 ^ 27 else 0) + (if bit cal e then 2 ^ 28 else 0)
    + (if bit s.meas.refBad k && !bit w 29 then 2 ^ 29 else 0)
  let m := if k = 0 then { s.meas with calA := clrBit cal e } else { s.meas with calB := clrBit cal e }
  let s := { s with meas := m }
  let s := if src < 24 then
      let s := s.setLv (Reg.MEAS_AIN_VAL src) w
      if bit w 24 then s else s.ainFlags src w
    else s.setLv (Reg.MEAS_MON_VAL (src - 32)) w
  (w, s)

/-- The entries of a burst from entry e on, starting at a chain time (R401, R402, R411). -/
def Chip.burstEntries (s : Chip) (k len e t : Nat) : List Int → Chip
  | [] => s
  | r :: rest =>
    if len ≤ e then s else
    let o := min 4 (s.fwk (Reg.MEAS_ENTRY_OSR k e))
    let dest := s.fwk (Reg.MEAS_ENTRY_DEST k e)
    let w := s.entrySample k e (s.fwk (Reg.MEAS_ENTRY_SOURCE k e)) r
    let q := bits dest 7 1
    let last := (List.range (len - e - 1)).all (fun j =>
      let d := s.fwk (Reg.MEAS_ENTRY_DEST k (e + 1 + j))
      !(bit d 0 && bits d 7 1 == q))
    let first := (List.range e).all (fun j =>
      let d := s.fwk (Reg.MEAS_ENTRY_DEST k j)
      !(bit d 0 && bits d 7 1 == q))
    let s := w.2.measSend k (measOut dest w.1 (t + 125 + (2 ^ o - 1) * 250) (bit dest 8) last first)
    s.burstEntries k len (e + 1) (t + 500 * 2 ^ o) rest

/-- BURST_START (R401, R416): burst i of converter k, with a reading for each of its entries. -/
def Chip.burst (s : Chip) (k i : Nat) (readings : List Int) : Chip :=
  if !s.fieldUp ∨ !s.fwkB (measEn k) ∨ !s.steered ∨ s.measStopped k ∨ s.fwk (Reg.MEAS_SEQ_REP_COUNT k) ≤ i
      ∨ s.get Reg.SYS_PWR_STAT = 1 then s
  else if s.occMeas then s.inc (Reg.MEAS_SKIP_CNT k) else
  let len := s.fwk (Reg.MEAS_SEQ_REP_LEN k)
  let t := s.clk.markNs + s.fwk (Reg.MEAS_SEQ k) + i * s.fwk (Reg.MEAS_SEQ_REP_INTERVAL k)
  let s : Chip := s.fieldTimeTo t
  let rs := readings.take len ++ List.replicate (len - readings.length) 0
  (s.inc (Reg.MEAS_BURST_CNT k)).burstEntries k len 0 t rs

/-- The output period of a bridge in ns (Table MEAS-3; a reserved RATE counts as 5, log entry 13). -/
def Chip.brPeriod (s : Chip) (b : Nat) : Nat := 250000 * 2 ^ min 5 (s.fwk (Reg.MEAS_BR_CFG_RATE b))

/-- The gain of a bridge, and its excitation in pV (R405, Table MEAS-9). -/
def Chip.brGain (s : Chip) (b : Nat) : Nat := match s.fwk (Reg.MEAS_BR_CFG_GAIN b) with | 0 => 1 | 1 => 8 | 2 => 32 | _ => 128
def Chip.brVexc (s : Chip) (b : Nat) : Nat := if s.fwk (Reg.MEAS_BR_CFG_EXC b) = 0 then 2500000000000 else 5000000000000

/-- A bridge's value before it saturates, from its difference in pV (R405), truncated toward zero (DESIGN CHOICE, log entry 66). -/
def Chip.brValue (s : Chip) (b : Nat) (vdiff : Int) : Int := Int.tdiv (2 ^ 23 * vdiff * (s.brGain b : Int)) (s.brVexc b : Int)

/-- The next output instant of a bridge in ns: a multiple of its output period, later than its last (R406). -/
def Chip.brNext (s : Chip) (b : Nat) : Nat :=
  let per := s.brPeriod b
  max ((s.fNow + per - 1) / per * per) ((s.meas.brAt.get 0 b + per - 1) / per * per)

/-- BRIDGE_RESULT (R405, R406, R414): the result that appears at the next output instant, of a difference in pV. -/
def Chip.bridge (s : Chip) (b : Nat) (vdiff : Int) : Chip :=
  if !s.fieldUp || !s.fwkB (measEn 2) || s.measStopped 2 || bit s.meas.excOff b || s.get Reg.SYS_PWR_STAT == 1 then s
  else
  let at_ := s.brNext b
  let s : Chip := s.fieldTimeTo at_
  let s : Chip := { s with meas := { s.meas with brAt := s.meas.brAt.put 0 b (at_ + 1) } }
  if s.occMeas then s.inc (Reg.MEAS_SKIP_CNT 2) else
  let raw := s.brValue b vdiff
  let v := clampInt (-8388608) 8388607 raw
  let cut := bit s.meas.shorted b
  let val := if cut then s.free % 2 ^ 24 else unsigned 24 v
  let s := if cut then s.drew else s
  let st := s.meas.settle.get 0 b
  let w := val + (if v ≠ raw ∧ !cut then 2 ^ 25 else 0) + (if s.get Reg.CLK_STATUS_SYNC = 3 then 2 ^ 27 else 0)
    + (if cut || bit s.meas.calBr b then 2 ^ 28 else 0) + (if st ≠ 0 then 2 ^ 30 else 0)
  let m := { s.meas with
    shorted := clrBit s.meas.shorted b
    calBr := if cut then s.meas.calBr else clrBit s.meas.calBr b
    settle := s.meas.settle.put 0 b (st - 1) }
  let s := ({ s with meas := m }).setLv (Reg.MEAS_BR_VAL b) w
  let dest := s.fwk (Reg.MEAS_BR_DEST b)
  s.measSend 2 (measOut dest w (at_ + 2 ^ 32 - s.brPeriod b * 3 / 2) (bit dest 8) true true)

/-- The step a quadrature edge makes: up where A leads B (PRESUMED, log entry 12). -/
def quadUp (p : Nat) (x : PulseEdge) : Bool := if p % 2 = 0 then x.rising != x.other else x.rising == x.other

/-- A counter takes an edge: count, period, stamp (R407, R409). -/
def Chip.countEdge (s : Chip) (p : Nat) (up : Bool) : Chip :=
  let n := s.lv (Reg.MEAS_PC_CNT p)
  let s := s.setLv (Reg.MEAS_PC_CNT p) (if up then n + 1 else n + (2 ^ 32 - 1))
  let last := s.meas.edge.get 0 p
  let s := if s.fwk (Reg.MEAS_PC_CFG_MODE p) = 2 ∧ last ≠ 0 then
      s.setLv (Reg.MEAS_PC_PER p) (min (2 ^ 32 - 1) ((s.fTime.t.toNat + 1 - last) * 2 / (5 * 2 ^ 32))) else s
  let s := ({ s with meas := { s.meas with edge := s.meas.edge.put 0 p (s.fTime.t.toNat + 1) } }).setLv (Reg.MEAS_PC_TLAST p) (s.fNow % 2 ^ 32)
  let dest := s.fwk (Reg.MEAS_PC_DEST p)
  if bit dest 24 && bit dest 0 then
    let l := s.meas.stamps.get [] p
    if 32 ≤ l.length then
      ({ s with meas := { s.meas with gap := setBit s.meas.gap p } }).inc (Reg.MEAS_STAMP_LOST_CNT p)
    else
      let g := bit s.meas.gap p
      let w := s.fNow % 2 ^ 32
      let w := if g then w % 2 ^ 31 + 2 ^ 31 else w
      { s with meas := { s.meas with gap := clrBit s.meas.gap p, stamps := s.meas.stamps.put [] p (l ++ [w]) } }
  else s

/-- Does an input reach counter p: HVIp, or the pin that holds code 1 for it (20_pins_and_muxing.md R439, R446)? -/
def Chip.pulseWired (s : Chip) (p : Nat) : Bool :=
  s.fwk (Reg.PIN_PC_SRC p) == 0 ||
  [0, 2].any (fun n => s.wk (Reg.PIN_PCFG_MUX n p) == 1 && !s.wkB (Reg.PIN_PCFG_ANALOG n p))

/-- PULSE_EDGE (R407): an edge that the counter's glitch filter has passed. -/
def Chip.pulse (s : Chip) (p : Nat) (x : PulseEdge) : Chip :=
  if !s.fieldUp || !s.pulseWired p || !s.fwkB (measEn 3) || s.measStopped 3 || s.occMeas then s else
  let sel := s.fwk (Reg.MEAS_PC_CFG_EDGE p)
  let hit := if sel = 0 then x.rising else if sel = 1 then !x.rising else sel == 2
  let pair := p / 2 * 2
  if s.fwk (Reg.MEAS_PC_CFG_MODE pair) = 3 then
    (s.countEdge pair (quadUp p x)).countEdge (pair + 1) (quadUp p x)
  else match s.fwk (Reg.MEAS_PC_CFG_MODE p) with
    | 1 => if hit then s.countEdge p true else s
    | 2 => if hit then s.countEdge p true else s
    | _ => s

/-- One queued stamp of each counter goes to its runner: once a microsecond (R409, log entry 1). -/
def Chip.stampsDrain (s : Chip) : Chip :=
  s.each (List.range 12) (fun s p =>
    match s.meas.stamps.get [] p with
    | [] => s
    | w :: t =>
      let s := { s with meas := { s.meas with stamps := s.meas.stamps.put [] p t } }
      s.measSend 3 { first := true, run := some (bits (s.fwk (Reg.MEAS_PC_DEST p)) 7 1), items := [(0, w)], img := none })

/-- Have 2^32 counts of 2.5 ns passed since an instant (R407), in units of 2^-32 ns? -/
def periodOver (now last : Nat) : Bool := decide (10737418240 ≤ (now - last) / 2 ^ 32)

/-- A measured period stands at all ones once no edge has come for 2^32 counts of 2.5 ns (R407). -/
def Chip.periodShow (s : Chip) : Chip :=
  if !s.fwkB (measEn 3) then s else
  s.each (List.range 12) (fun s p =>
    let last := s.meas.edge.get 0 p
    if s.fwk (Reg.MEAS_PC_CFG_MODE p) = 2 ∧ last ≠ 0 ∧ periodOver (s.fTime.t.toNat + 1) last then s.setLv (Reg.MEAS_PC_PER p) (2 ^ 32 - 1) else s)

/-- PC_SNAPSHOT (R409): every enabled counter delivers its count, or its period in mode 2, and the time of its last edge. -/
def Chip.snapshot (s : Chip) : Chip :=
  if !s.fieldUp || !s.fwkB (measEn 3) || s.measStopped 3 || s.get Reg.SYS_PWR_STAT == 1 then s else
  s.periodShow.each (List.range 12) (fun s p =>
    let mode := s.fwk (Reg.MEAS_PC_CFG_MODE p)
    if mode = 0 ∧ s.fwk (Reg.MEAS_PC_CFG_MODE (p / 2 * 2)) ≠ 3 then s
    else if s.occMeas then s.inc (Reg.MEAS_SKIP_CNT 3) else
    let dest := s.fwk (Reg.MEAS_PC_DEST p)
    let v := if mode = 2 then s.lv (Reg.MEAS_PC_PER p) else s.lv (Reg.MEAS_PC_CNT p)
    s.measSend 3 (measOut dest v (s.lv (Reg.MEAS_PC_TLAST p)) true true true))

/-- SHUNT_OVERCURRENT (R398). -/
def Chip.shuntOver (s : Chip) (n : Nat) : Chip :=
  if s.fieldUp && bit (s.fwk Reg.MEAS_AIN_EN) n && s.fwk (Reg.MEAS_AIN_CFG n) == 3 && !bit s.meas.shuntOpen n then
    let s := ({ s with meas := { s.meas with shuntOpen := setBit s.meas.shuntOpen n } }).inc Reg.MEAS_SHUNT_CNT
    ({ s with meas := { s.meas with flags := s.meas.flags.put 0 n 16 } }).rangeEvent n (2 ^ 29)
  else s

/-- SHUNT_RETRY (R398). -/
def Chip.shuntRetry (s : Chip) (n microAmp : Nat) : Chip :=
  if s.fieldUp ∧ bit s.meas.shuntOpen n ∧ microAmp < 25000 then
    { s with meas := { s.meas with shuntOpen := clrBit s.meas.shuntOpen n } }
  else s

/-- MEAS_INSTRUMENT_FAULT (Table MEAS-5): unit is the converter, or the bridge for code 2. -/
def Chip.measFault (s : Chip) (code u : Nat) : Chip :=
  if !s.fieldUp then s else
  match code with
  | 1 => if u < 2 then ({ s with meas := { s.meas with refBad := setBit s.meas.refBad u } }).fault (measFlask u) 5 1 0 else s
  | 2 => ({ s with meas := { s.meas with excOff := setBit s.meas.excOff u } }).fault 47 5 2 0
  | 3 => if u < 2 then s.fault (measFlask u) 5 3 0 else s
  | _ => s

/-- A calibration of a converter begins (R414): 0 SA, 1 SB, 2 the bridges. -/
def Chip.calBegin (s : Chip) (u : Nat) : Chip :=
  if u < 2 then s.setLv Reg.MEAS_STAT_CAL (setBit (s.lv Reg.MEAS_STAT_CAL) u)
  else { s with meas := { s.meas with shorted := 15 } }

/-- CALIBRATION_DONE (R414): the first sample of each entry then carries CAL. -/
def Chip.calDone (s : Chip) (u : Nat) : Chip :=
  if u < 2 then
    if bit (s.lv Reg.MEAS_STAT_CAL) u then
      let m := if u = 0 then { s.meas with calA := 2 ^ 64 - 1 } else { s.meas with calB := 2 ^ 64 - 1 }
      ({ s with meas := m }).setLv Reg.MEAS_STAT_CAL (clrBit (s.lv Reg.MEAS_STAT_CAL) u)
    else s
  else { s with meas := { s.meas with calBr := 15, shorted := 0 } }

/-- A command of MEAS on the field die: 0 the bridges were enabled or a RATE changed (R406). -/
def Chip.measUnit (s : Chip) (op v : Nat) : Chip :=
  match op with
  | 0 => { s with meas := { s.meas with brAt := [], settle := (List.range 4).foldl (fun m b => if bit v b then m.put 0 b 2 else m) s.meas.settle, excOff := 0 } }
  | _ => s

/-- Sequences that R403 refuses, judged on the shadows for a cycle period in ns: an OSR code above 4 counts as 4, and the
entries in use, 0 to LEN - 1, are those that must name a source (DEDUCED, log entry 13); a 14-bit image offset lies inside the input image. -/
def Chip.measBad (s : Chip) (period : Nat) : Bool :=
  [0, 1].any (fun k =>
    let n := s.sh (Reg.MEAS_SEQ_REP_COUNT k)
    let len := s.sh (Reg.MEAS_SEQ_REP_LEN k)
    let slots := (List.range len).foldl (fun t e => t + 2 ^ min 4 (s.sh (Reg.MEAS_ENTRY_OSR k e))) 0
    let itv := s.sh (Reg.MEAS_SEQ_REP_INTERVAL k)
    let ofs := s.sh (Reg.MEAS_SEQ k)
    decide (16 < n) || len == 0 || decide (64 < len) ||
    (List.range len).any (fun e =>
      let src := s.sh (Reg.MEAS_ENTRY_SOURCE k e)
      (decide (24 ≤ src) && decide (src < 32)) || decide (48 ≤ src)) ||
    (n != 0 && ((n != 1 && decide (itv < 500 * slots)) ||
      decide (period < ofs + (n - 1) * itv + 500 * slots + 1000) ||
      decide (99 * (period / 500) < 100 * (n * slots)))))

end Sys2Proof.Machine
end

