-- ==== Sys2Proof/Machine/Pin.lean ====
section
/-! DEFINITION. Pins (20_pins_and_muxing.md R437 to R450): the output latches, what a read of a port shows, strobes, edge capture,
the high-voltage inputs and the pad hold. -/

namespace Sys2Proof.Machine

/-- The function instance that a MUX code gives a pin; none for a code that is reserved or not offered there (Table PIN-2). -/
def pinFn (code n m : Nat) : Option Nat :=
  let odd := n == 1 || n == 3
  match code with
  | 0 => some 0
  | 1 => if !odd && decide (m < 12) then some (100 + m) else none
  | 2 => if !odd && (m == 12 || m == 13) then some (200 + m) else none
  | 3 => if !odd && (m == 14 || m == 15) then some (300 + m) else none
  | 4 => if odd && decide (m < 4) then some (400 + m) else none
  | 5 => if odd && (m == 4 || m == 5) then some (500 + m) else none
  | 6 => if odd && m == 6 then some 600 else none
  | 7 => if odd && m == 7 then some 700 else none
  | 8 => if odd && decide (8 ≤ m) then some (800 + m) else none
  | 11 => if odd && m == 9 then some (1100 + n) else none
  | _ => none

/-- Would a pour of PG12 leave a function shared or undefined (R438)? Judged on the shadows. -/
def Chip.pinBad (s : Chip) : Bool :=
  let pins := (List.range 64).map (fun i => (i / 16, i % 16))
  let fn := fun p : Nat × Nat => pinFn (s.sh (Reg.PIN_PCFG_MUX p.1 p.2)) p.1 p.2
  pins.any (fun p =>
    match fn p with
    | none => true
    | some 0 => false
    | some k => pins.any (fun q => q != p && fn q == some k) ||
        (decide (k < 200) && s.sh (Reg.PIN_PC_SRC (k - 100)) == 0))

/-- The pin that carries edge capture k (Table PIN-2). -/
def Chip.evcapPin (s : Chip) (k : Nat) : Option Nat :=
  [1, 3].find? (fun n => s.wk (Reg.PIN_PCFG_MUX n (8 + k)) == 8)

/-- Is P n.m a GPIO output (R441)? -/
def Chip.pinDrives (s : Chip) (n m : Nat) : Bool :=
  s.wk (Reg.PIN_PCFG_MUX n m) == 0 && s.wkB (Reg.PIN_PCFG_DIR n m) && !s.wkB (Reg.PIN_PCFG_ANALOG n m)

/-- A pin under test: none of its own output stands but, in a pin stitch, that of the land its 20 us belong to, high for 10 us and then low
(23_stitch_test_and_bist.md R491). -/
def Chip.pinStitch (s : Chip) (n m : Nat) : Option Bool :=
  let t := s.ct.toNat - s.test.since
  if s.testing 1 n && t / 20000 == m then some (decide (t % 20000 < 10000)) else none

/-- The level a pin's own output gives its pad, where it drives it: the latch, a strobe, the test observe output (R441, R444);
an open-drain pin drives only low; a held pad what it held (R448). -/
def Chip.pinOut (s : Chip) (n m : Nat) : Option Bool :=
  if s.occPin n then s.pinStitch n m else
  if s.flag Reg.PIN_STAT then
    if bit (s.pin.heldDrive.get 0 n) m then some (bit (s.pin.heldLevel.get 0 n) m) else none
  else if s.wkB (Reg.PIN_PCFG_ANALOG n m) then none
  else match s.wk (Reg.PIN_PCFG_MUX n m) with
    | 0 =>
      let l := bit (s.get (Reg.PIN_OUT n)) m
      if s.wkB (Reg.PIN_PCFG_DIR n m) && !(s.wkB (Reg.PIN_PCFG_OD n m) && l) then some l else none
    | 6 => some s.pin.mark
    | 7 => some s.pin.apply
    | 11 =>
      match s.wk Reg.TEST_CFG_OBS with
      | 1 => some (s.flag Reg.TEST_STAT_BUSY)
      | 2 => some (s.get Reg.TEST_STAT_RESULT == 1)
      | _ => some false
    | _ => none

/-- The pull of a pad: 0 none, 1 up, 2 down; an ANALOG pad has none, a held pad what it held (R439, R448). -/
def Chip.pinPull (s : Chip) (n m : Nat) : Nat :=
  if s.flag Reg.PIN_STAT then s.pin.heldPull.get 0 (16 * n + m)
  else if s.wkB (Reg.PIN_PCFG_ANALOG n m) then 0 else s.wk (Reg.PIN_PCFG_PULL n m)

/-- What a read of a port shows (R439, R440): a driven pin its level, an ANALOG pin 0; what stands on any other pad the
surroundings decide, a free value (log entry 6). -/
def Chip.pinLevels (s : Chip) (n : Nat) : Nat × Chip :=
  let v := (List.range 16).foldl (fun a m =>
    match s.pinOut n m with
    | some l => a + (if l then 2 ^ m else 0)
    | none => if s.wkB (Reg.PIN_PCFG_ANALOG n m) && !s.flag Reg.PIN_STAT && !s.occPin n then a else a + (if bit s.free m then 2 ^ m else 0)) 0
  (v, s.drew)

/-- Load latch bits where a mask is 1 (R441). -/
def Chip.latchWrite (s : Chip) (n value mask : Nat) : Chip :=
  let old := s.get (Reg.PIN_OUT n)
  s.put (Reg.PIN_OUT n) ((List.range 16).foldl (fun a m => a + (if bit (if bit mask m then value else old) m then 2 ^ m else 0)) 0)

/-- OUT_TOG. -/
def Chip.latchToggle (s : Chip) (n b : Nat) : Chip := s.latchWrite n (s.get (Reg.PIN_OUT n) ^^^ b) b

/-- Is an edge direction one that a select field names: 0 rising, 1 falling, 2 both (a reserved 3 names none, log entry 13)? -/
def edgeHit (sel : Nat) (rising : Bool) : Bool := if sel = 0 then rising else if sel = 1 then !rising else sel == 2

/-- EVCAP_EDGE (R444): the stamp is the time at the pad, 2 + FILT cc before the edge reaches IN_SYNC. -/
def Chip.evcap (s : Chip) (k : Nat) (rising : Bool) : Chip :=
  match s.evcapPin k with
  | none => s
  | some n =>
    if !s.coreUp || s.flag Reg.PIN_STAT || s.wkB (Reg.PIN_PCFG_ANALOG n (8 + k)) || !edgeHit (s.wk (Reg.PIN_PCFG_EDGE n (8 + k))) rising then s
    else
      let fine := s.ct.toNat * 2 ^ 32 + s.ctFrac.toNat
      let back := (2 + s.wk (Reg.PIN_PCFG_FILT n (8 + k))) * 5 * 2 ^ 31
      let ns := (fine + 2 ^ 96 - back) / 2 ^ 32 % 2 ^ 32
      ((s.put (Reg.PIN_EVCAP_T k) ns).inc (Reg.PIN_EVCAP_CNT k)).fire (80 + k) 0

/-- Pads latch their driven level, direction, pull and open-drain state and hold them (R448). -/
def Chip.holdPads (s : Chip) : Chip :=
  if s.flag Reg.PIN_STAT then s else
  let m := fun f : Nat → Nat → Bool => (List.range 4).foldl (fun (a : SMap Nat) n =>
    a.put 0 n ((List.range 16).foldl (fun v m => v + (if f n m then 2 ^ m else 0)) 0)) []
  let d := m (fun n k => (s.pinOut n k).isSome)
  let l := m (fun n k => s.pinOut n k == some true)
  let p : SMap Nat := (List.range 64).foldl (fun (a : SMap Nat) i => a.put 0 i (s.pinPull (i / 16) (i % 16))) []
  ({ s with pin := { s.pin with heldDrive := d, heldLevel := l, heldPull := p } }).put Reg.PIN_STAT 1

/-- The hold ends (R448). -/
def Chip.releasePads (s : Chip) : Chip :=
  if s.flag Reg.PIN_STAT then ({ s with pin := { s.pin with heldDrive := [], heldLevel := [], heldPull := [] } }).put Reg.PIN_STAT 0 else s

/-- CTL.HOLD_REL (R448). -/
def Chip.holdRel (s : Chip) (r : Nat) : Did :=
  if s.flag Reg.PIN_STAT then s.releasePads.ok else s.no r 15 0 0x04

/-- The keep domain takes the wake fields (R447). -/
def Chip.takeWakeFields (s : Chip) : Chip :=
  { s with pin := { s.pin with hviWake := (List.range 16).foldl (fun (m : SMap Nat) i =>
      m.put 0 i (if s.fwkB (Reg.PIN_HVI_CFG_WAKE_EN i) then 1 + s.fwk (Reg.PIN_HVI_CFG_WAKE_EDGE i) else 0)) [] } }

/-- HVI_WAKE (R447): in STANDBY, in OFF, on the way to either, or while the node is PROPOSED or COMMITTED. -/
def Chip.hviWakes (s : Chip) (i : Nat) (rising : Bool) : Chip :=
  let w := s.pin.hviWake.get 0 i
  let due := s.wakeOpen || s.flag Reg.CHAIN_SLEEP_STAT_STATE
  if due ∧ w ≠ 0 ∧ edgeHit (w - 1) rising then s.wakeCause 1 else s

/-- HVI_DEBOUNCE_EXPIRE (R445): the level that stood for the debounce shows before it and after it. -/
def Chip.hviLevel (s : Chip) (i : Nat) (level : Bool) : Chip :=
  if !s.fieldUp || s.occHvi then s else
  let to_ (f : Fld) : Nat := if level then setBit (s.lv f) i else clrBit (s.lv f) i
  (s.setLv Reg.PIN_HVI_IN (to_ Reg.PIN_HVI_IN)).setLv Reg.PIN_HVI_RAW (to_ Reg.PIN_HVI_RAW)

/-- STROBE_END (R444): 1 us after the strobe went high. -/
def Chip.strobeEnds (s : Chip) (apply : Bool) : Chip :=
  if apply then
    if s.pin.apply then (let s : Chip := s.timeTo (s.pin.applyAt + 1000); { s with pin := { s.pin with apply := false } }) else s
  else if s.pin.mark then (let s : Chip := s.timeTo (s.pin.markAt + 1000); { s with pin := { s.pin with mark := false } }) else s

end Sys2Proof.Machine
end

