-- ==== Sys2Proof/Machine/Seam.lean ====
section
/-! DEFINITION. The seam link (01_node_and_chain.md R17 to R24, 02_clocks_and_chain_time.md R31, R32): what crosses it, copies,
loss and retrains. -/

namespace Sys2Proof.Machine

/-- The access code of the field at a key. -/
def codeOfKey (key : Nat) : Option Code :=
  match locate (key / 32) with
  | some l => (l.fields.find? (fun f => f.key == key)).map (·.code)
  | none => none

/-- Is a key an RW-P field of a group that a mask names? -/
def pourKey (mask key : Nat) : Bool := inMask mask key && codeOfKey key == some Code.rwP

/-- Is the seam UP (Table NODE-6)? -/
def Chip.seamUp (s : Chip) : Bool := s.flag Reg.SEAM_STATUS_UP

/-- Bring STATUS.UP up to date. -/
def Chip.seamShow (s : Chip) : Chip :=
  s.putB Reg.SEAM_STATUS_UP (s.seam.fieldRx && s.seam.coreRx && !s.flag Reg.SEAM_STATUS_RETRAIN_BUSY)

/-! The field die takes what the seam brings -/

/-- Units whose working values changed bring their outputs up to date. -/
def Chip.fieldSettle (s : Chip) : Chip := ((s.fuseSettle.drvSettle).policyShow).each (List.range 5) (fun s c => s.safeSource c)

/-- The field die's units take the poured values of the groups in a mask together (03_register_model.md R60). -/
def Chip.fieldTake (s : Chip) (mask : Nat) : Chip :=
  let s := { s with
    fWork := SMap.overlay (pourKey mask) s.fShadow s.fWork
    fPour := (List.range 16).foldl (fun m g => if bit mask g then clrBit m g else m) s.fPour }
  (if bit mask 12 then s.takeWakeFields else s).fieldSettle

/-- FIELD_POUR_APPLY (03_register_model.md R60, R65). -/
def Chip.fieldPourApply (s : Chip) : Chip := if s.fieldUp ∧ s.fPour ≠ 0 then s.fieldTake s.fPour else s

/-- The field die learns that its flask f is revived (01_node_and_chain.md R21, 18_measurement.md R416): its mark and its hold after
seam loss end, its sequences wait for the next mark, and what an instrument fault of its converters or bridges left ends (18_measurement.md
R415: the spec gives no other end, DESIGN CHOICE, log entry 66); SAFE falls with the last output held. -/
def Chip.fieldRevive (s : Chip) (f : Nat) : Chip :=
  let clr (m : Nat) (l : List Nat) : Nat := l.foldl clrBit m
  let outs := if f < 37 then [f - 16] else if f < 41 then [f - 25] else
    match f with | 48 => [0, 1, 2, 3] | 49 => [4, 5, 6, 7] | 50 => [8, 9, 10, 11] | _ => []
  let s := { s with seam := { s.seam with marks := clrBit s.seam.marks f, safeOut := clr s.seam.safeOut outs } }
  let s := if 45 ≤ f ∧ f ≤ 47 then
      { s with meas := { s.meas with
          stopped := setBit s.meas.stopped (f - 45)
          refBad := if f = 47 then s.meas.refBad else clrBit s.meas.refBad (f - 45)
          excOff := if f = 47 then 0 else s.meas.excOff } }
    else s
  (if s.seam.safeOut = 0 then s.setLv Reg.SEAM_STATUS_SAFE 0 else s).fieldSettle

/-- An item reaches the field die. -/
def Chip.deliver (s : Chip) (i : SeamItem) : Chip :=
  match i with
  | .shadowSet f v =>
    let g := groupOfBlk (blkOfKey f.key)
    let s := if bit s.fPour g then s.fieldTake (2 ^ g) else s
    { s with fShadow := s.fShadow.put f.reset f.key (v % 2 ^ f.width) }
  | .workSet f v => ({ s with fWork := s.fWork.put f.reset f.key (v % 2 ^ f.width) }).fieldSettle
  | .pour mask => { s with fPour := s.fPour ||| mask }
  | .arm mask target => if later target s.clk.fCyc then { s with fArm := some (mask, target) } else { s with fPour := s.fPour ||| mask }
  | .withdraw mask =>
    let s := if s.fPour &&& mask = 0 then s else s.fieldTake (s.fPour &&& mask)
    { s with
      fShadow := SMap.overlay (pourKey mask) s.fWork s.fShadow
      fArm := match s.fArm with | some (m, t) => if m &&& mask = 0 then some (m, t) else none | none => none }
  | .setpoint o sp => s.drvArrive o sp
  | .unit blk inst op val =>
    match blk with
    | 8 => s.fieldRevive inst
    | 11 => s.cuffUnit inst op
    | 12 => s.fuseUnit inst op val
    | 13 => s.measUnit op val
    | 14 => s.drvUnit inst op val
    | _ => s

/-- May an item cross at once: the seam is UP and nothing queued waits before it? -/
def Chip.seamClear (s : Chip) : Bool := s.seamUp && s.seam.queue.isEmpty && s.seam.sent.all List.isEmpty

/-- The core die has something for the field die: while the seam is UP and nothing waits before it, it crosses (R30: at most
500 ns, which the model counts as no time, log entry 14), behind a setpoint that is crossing (R54); else it waits for a frame (R23). -/
def Chip.fieldAct (s : Chip) (i : SeamItem) : Chip :=
  if s.seamClear then
    if s.seam.flight.isEmpty then s.deliver i else { s with seam := { s.seam with flight := s.seam.flight ++ [i] } }
  else { s with seam := { s.seam with queue := s.seam.queue ++ [i] } }

/-- Do shadow writes wait for the seam (SYS.SEAM_PEND)? -/
def Chip.seamPend (s : Chip) : Bool :=
  (s.seam.flight ++ s.seam.sent.flatten ++ s.seam.queue).any (fun i => match i with | .shadowSet _ _ => true | _ => false)

/-- An image-fed or written setpoint leaves for the field die: crossing while the seam is UP, else queued. -/
def Chip.sendSetpoint (s : Chip) (o : Nat) (sp : Setpoint) : Chip :=
  if s.seamClear then { s with seam := { s.seam with flight := s.seam.flight ++ [.setpoint o sp] } }
  else { s with seam := { s.seam with queue := s.seam.queue ++ [.setpoint o sp] } }

/-- Is an item a setpoint? -/
def isSetpoint : SeamItem → Bool
  | .setpoint _ _ => true | _ => false

/-- Is an item a setpoint of output o? -/
def isSetpointOf (o : Nat) : SeamItem → Bool
  | .setpoint p _ => p == o | _ => false

/-- SETPOINT_ARRIVE: the oldest setpoint of output o that crosses the seam arrives, with what crosses before it, and what was queued behind
it up to the next setpoint (R54). -/
def Chip.setpointArrive (s : Chip) (o : Nat) : Chip :=
  let l := s.seam.flight
  if !s.fieldUp || !s.seam.fieldRx || !l.any (isSetpointOf o) then s else
  let first := l.takeWhile (fun i => !isSetpointOf o i)
  let rest := l.drop (first.length + 1)
  let behind := rest.takeWhile (fun i => !isSetpoint i)
  let s := { s with seam := { s.seam with flight := rest.drop behind.length } }
  s.each (l.take (first.length + 1 + behind.length)) (fun s i => s.deliver i)

/-- The core die writes an RW-E field of a field-die unit, or its EN: its own record and the field die's value. -/
def Chip.putField (s : Chip) (f : Fld) (v : Nat) : Chip := (s.put f v).fieldAct (.workSet f v)

/-- SEAM_KEEPALIVE (R18, R39): the core die sends a frame with a time beacon and what is queued, if anything is. -/
def Chip.seamKeepalive (s : Chip) : Chip :=
  if !s.coreUp || s.flag Reg.SEAM_STATUS_RETRAIN_BUSY then s else
  { s with seam := { s.seam with queue := [], sent := s.seam.sent ++ [s.seam.queue] } }

/-- The core die knows of a seam loss: ALM cause 4, once per loss (05_gleshline_link.md R514). -/
def Chip.lossLearn (s : Chip) : Chip :=
  if s.seam.lossKnown then s else ({ s with seam := { s.seam with lossKnown := true } }).alm 4

/-- The field die's report of a seam loss reaches the core die (R19, 05_gleshline_link.md R514). -/
def Chip.lossReported (s : Chip) : Chip :=
  if s.seam.lossReport then (({ s with seam := { s.seam with lossReport := false } }).inc Reg.SEAM_LOSS_CNT).lossLearn else s

/-- A beacon in a valid frame steers the field die's copy of chain time (02_clocks_and_chain_time.md R39): within 1.5 ns of the core die's,
by an error that is a free value (log entry 6); from a declared loss until 10 us after frames resume the copy is free. -/
def Chip.beacon (s : Chip) : Chip :=
  let now := s.ct.toNat
  let back := if s.fTime.back = 0 then now + 1 else s.fTime.back
  let loose := s.fTime.loose && decide (now + 1 < back + 10000)
  let t : BitVec 96 := if loose then BitVec.ofNat 96 s.free
    else BitVec.ofInt 96 ((s.ctFine : Int) + (s.free % (3 * 2 ^ 32 + 1) : Nat) - 3 * 2 ^ 31)
  ({ s with fTime := ⟨t, s.get Reg.CLK_FREQ_ADJ, loose, if loose then back else 0⟩ }).drew

/-- A frame arrives at the field die (R17, R21): a bad one is lost with what it and the crossing items before it carried (log entry 30). -/
def Chip.fieldFrame (s : Chip) (ok : Bool) : Chip :=
  if !s.fieldUp || s.flag Reg.SEAM_STATUS_RETRAIN_BUSY || (!s.coreUp && s.seam.sent.isEmpty) then s else
  let items := s.seam.flight ++ s.seam.sent.headD []
  let s := { s with seam := { s.seam with flight := [], sent := s.seam.sent.drop 1 } }
  if !ok then s.inc Reg.SEAM_CRC_CNT else
  let s := if s.coreUp then s.beacon else s
  let s := ({ s with seam := { s.seam with fieldRx := s.coreUp, everRx := true, lost := false } }).seamShow
  (s.each items (fun s i => s.deliver i)).fieldSettle

/-- A frame arrives at the core die (R17, R31, R514): a complete copy set replaces every RO-C copy at once; a bad frame's set is lost. -/
def Chip.coreFrame (s : Chip) (ok : Bool) : Chip :=
  if !s.coreUp || !s.fieldUp || s.flag Reg.SEAM_STATUS_RETRAIN_BUSY then s
  else if !ok then ({ s with copySet := none }).inc Reg.SEAM_CRC_CNT else
  let s := (({ s with seam := { s.seam with coreRx := true } }).seamShow).lossReported
  let s := match s.copySet with
    | some c =>
      ({ s with regs := SMap.overlay (fun k => codeOfKey k == some Code.roC) c s.regs, copySet := none }).put Reg.CLK_STATUS_COPY_STALE 0
    | none => s
  s.measRelease

/-- SEAM_LOSS_KNOWN (05_gleshline_link.md R514, 02_clocks_and_chain_time.md R32): by the field die's report, or by 20 us of silence, from which
on COPY_STALE shows it (how long a silence must last for that is a DESIGN CHOICE, log entry 32). While a report waits and frames come, which of
the two it is the row does not tell: a free value (log entry 6). -/
def Chip.seamLossKnown (s : Chip) : Chip :=
  if !s.coreUp then s else
  let either := s.seam.lossReport && s.seam.coreRx && !s.seam.lossKnown
  let report := either && s.free % 2 == 1
  let s := if either then s.drew else s
  if report then s.lossReported
  else ((({ s with seam := { s.seam with coreRx := false } }).seamShow).put Reg.CLK_STATUS_COPY_STALE 1).lossLearn

/-- The flasks of the field die, one bit each. -/
def fieldFlasks : List Nat := [32, 33, 34, 35, 36, 37, 38, 39, 40, 45, 46, 47, 48, 49, 50]

/-- SEAM_LOSS_DECLARE (R19); words that measurement held are delivered only where the seam returns within 20 us (18_measurement.md R413). -/
def Chip.seamLoss (s : Chip) : Chip :=
  if !s.fieldUp || !s.seam.everRx || s.seam.lost then s else
  let s := ({ s with seam := { s.seam with
      fieldRx := false, lost := true, lossReport := true, marks := fieldFlasks.foldl (fun m f => m + 2 ^ f) 0
      safeOut := 2 ^ 21 - 1 }, meas := { s.meas with hold := [] }, fTime := { s.fTime with loose := true, back := 0 } }).seamShow
  let s := s.setLv Reg.SEAM_STATUS_SAFE 1
  let s := s.each (List.range 5) (fun s c => s.policyHandover c)
  (s.fieldSettle).each [5, 6, 7, 8] (fun s ch => s.channelOpen ch)

/-- SEAM.RETRAIN.GO (R24): both directions fall silent; a copy set on its way is lost. -/
def Chip.retrainGo (s : Chip) (r : Nat) : Did :=
  if s.flag Reg.SEAM_STATUS_RETRAIN_BUSY then s.no r 20 0 0x0C
  else
    let s := { s with copySet := none, seam := { s.seam with fieldRx := false, coreRx := false } }
    (((s.put Reg.SEAM_STATUS_RETRAIN_BUSY 1).put Reg.CLK_STATUS_COPY_STALE 1).seamShow).ok

/-- SEAM_RETRAIN_DONE (R24). -/
def Chip.retrainDone (s : Chip) : Chip :=
  if s.coreUp && s.fieldUp && s.flag Reg.SEAM_STATUS_RETRAIN_BUSY then
    let s := { s with seam := { s.seam with fieldRx := true, coreRx := true, everRx := true, lost := false } }
    ((((s.put Reg.SEAM_STATUS_RETRAIN_BUSY 0).seamShow).lossReported).beacon).measRelease
  else s

/-- The instrument readings of the field die, which the machine it is built into decides. -/
def readingFields : List Fld :=
  (List.range 12).map Reg.DRV_MEAS ++ (List.range 10).map Reg.FUSE_MEAS_MA ++ (List.range 10).map Reg.FUSE_MEAS_VOUT ++
  (List.range 10).map Reg.FUSE_VIN ++ [Reg.PIN_HVI_RAW] ++ (List.range 5).map Reg.CUFF_VBUS_MV

/-- The trunk at the node's input, which TR's input side measures, is below TRUNK_LOW (16_cuffs_type_c_pd.md R366, Table CUFF-11; DEDUCED,
log entry 11). -/
def Chip.trunkLow (s : Chip) : Bool := decide (s.lv (Reg.FUSE_VIN 9) < 10 * max 75 (min 200 (s.fwk Reg.CUFF_FRS_CFG)))

/-- The readings are taken: free values (log entry 6), with what follows from them: VBUS_OK (16_cuffs_type_c_pd.md R361), FRS_STAT.LOW,
and a closed switch is ON or LIMIT (17_switching_and_fusing.md R386), current limits act (19_control_outputs.md R420, R422); an input without debounce follows its comparator
(20_pins_and_muxing.md R445). -/
def Chip.readings (s : Chip) : Chip :=
  let s := s.each readingFields (fun s f => (s.setLv f s.free).drew)
  let s := s.setLvB Reg.CUFF_FRS_STAT s.trunkLow
  let s := (s.each (List.range 5) (fun s c => s.vbusShow c)).periodShow.drvLimits
  let s := s.each (List.range 10) (fun s ch =>
    if s.fuseState ch = 2 ∨ s.fuseState ch = 3 then (s.setLv (Reg.FUSE_STAT_STATE ch) (2 + s.free % 2)).drew else s)
  s.each (List.range 16) (fun s i =>
    if s.fwk (Reg.PIN_HVI_CFG_DEB i) = 0 then s.hviLevel i (bit (s.lv Reg.PIN_HVI_RAW) i) else s)

/-- COPY_SET_CAPTURE (02_clocks_and_chain_time.md R31). -/
def Chip.copyCapture (s : Chip) : Chip :=
  if !s.fieldUp then s else
  let s := s.readings.setLvB Reg.TEST_STAT_VCORE_OK (bit s.pwr.pg 2)
  { s with copySet := some s.live }

end Sys2Proof.Machine
end

