-- ==== Sys2Proof/Machine/FieldCmds.lean ====
section
/-! DEFINITION. The commands of the field die's units as the core die takes them: CUFF, FUSE, MEAS and DRV. What acts is judged on the
core die and carried over the seam (03_register_model.md R54). While a unit's flask is fenced, a command that would make it act is
STATE_REJECT (13_flasks_and_warden.md R282). -/

namespace Sys2Proof.Machine

/-- CUFF.CTL.ENABLE (16_cuffs_type_c_pd.md R352, Table CUFF-3). -/
def Chip.cuffEnable (s : Chip) (r c : Nat) : Did :=
  if !s.active (32 + c) then s.no r 11 c 0x004
  else ((s.putField (Reg.CUFF_STAT_EN c) 1).fieldAct (.unit 11 c 1 0)).ok

/-- CUFF.CTL.DISABLE. -/
def Chip.cuffDisable (s : Chip) (c : Nat) : Did :=
  ((s.putField (Reg.CUFF_STAT_EN c) 0).fieldAct (.unit 11 c 0 0)).ok

/-- The flask of a channel, where it has one. -/
def fuseFlask (ch : Nat) : Option Nat := if ch < 9 then some (32 + ch) else none

/-- Is a channel's flask fenced? -/
def Chip.fuseFenced (s : Chip) (ch : Nat) : Bool := match fuseFlask ch with | some f => !s.active f | none => false

/-- FUSE.CTL.ENABLE (17_switching_and_fusing.md R381). -/
def Chip.fuseOn (s : Chip) (r ch : Nat) : Did :=
  if s.fuseFenced ch then s.no r 12 0 (0x40 * ch + 4)
  else ((s.putField (Reg.FUSE_STAT_EN ch) 1).fieldAct (.unit 12 ch 1 0)).ok

/-- FUSE.CTL.DISABLE (R381). -/
def Chip.fuseOff (s : Chip) (ch : Nat) : Did := ((s.putField (Reg.FUSE_STAT_EN ch) 0).fieldAct (.unit 12 ch 1 0)).ok

/-- FUSE.CTL.REARM (R389): for TR alone, while LATCHED. -/
def Chip.rearm (s : Chip) (r ch : Nat) : Did :=
  if ch ≠ 9 ∨ s.fuseState 9 ≠ 5 then s.no r 12 0 (0x40 * ch + 4) else (s.fieldAct (.unit 12 9 2 0)).ok

/-- An enable bit of MEAS.CTL: unit u of 0 SA, 1 SB, 2 bridges, 3 counters (18_measurement.md R401, R405 to R407). -/
def Chip.measOn (s : Chip) (r u : Nat) : Did :=
  if !s.active (measFlask u) then s.no r 13 0 0x0004
  else
    let was := s.flag (measEn u)
    let s := s.putField (measEn u) 1
    (if u = 2 ∧ !was then s.fieldAct (.unit 13 0 0 15) else s).ok

/-- A disable bit of MEAS.CTL. -/
def Chip.measOff (s : Chip) (u : Nat) : Did := (s.putField (measEn u) 0).ok

/-- MEAS.CTL: one command of eight bits, in ascending order; it is refused whole when an enable it names is (03_register_model.md R512). -/
def Chip.measCtl (s : Chip) (r v : Nat) : Did :=
  if (List.range 4).any (fun u => bit v (2 * u) && !s.active (measFlask u)) then s.no r 13 0 0x0004
  else ((List.range 4).foldl (fun s u =>
    let s := if bit v (2 * u) then (s.measOn r u).2 else s
    if bit v (2 * u + 1) then (s.measOff u).2 else s) s).ok

/-- MEAS.AIN_ON (R397). -/
def Chip.ainOn (s : Chip) (m : Nat) : Did := (s.putField Reg.MEAS_AIN_EN (s.get Reg.MEAS_AIN_EN ||| m)).ok

/-- MEAS.AIN_OFF (R397). -/
def Chip.ainOff (s : Chip) (m : Nat) : Did :=
  let v := s.get Reg.MEAS_AIN_EN
  (s.putField Reg.MEAS_AIN_EN (v - (v &&& m))).ok

/-- The offset of a DRV register of an output as a reject reports it (19_control_outputs.md, Registers). -/
def Chip.drvNo (s : Chip) (r o off : Nat) : Did := s.no r 14 o off

/-- DRV.CTL.ENABLE (R419). -/
def Chip.drvEnable (s : Chip) (r o : Nat) : Did :=
  if !s.active (drvFlask o) then s.drvNo r o 0x04
  else
    let was := s.flag (Reg.DRV_STAT_EN o)
    let s := s.putField (Reg.DRV_STAT_EN o) 1
    (if was then s else s.fieldAct (.unit 14 o 2 0)).ok

/-- DRV.CTL.DISABLE (R419). -/
def Chip.drvDisable (s : Chip) (o : Nat) : Did := (s.putField (Reg.DRV_STAT_EN o) 0).ok

/-- May FAULT_CLR act (R433)? -/
def Chip.mayClear (s : Chip) (o : Nat) (present : Bool) : Bool := s.active (drvFlask o) && (s.out o).latched && !present

/-- FAULT_CLR by the register (R433): the fault's condition may still be present. -/
def Chip.faultClr (s : Chip) (r o : Nat) (present : Bool) : Did :=
  if s.mayClear o present then (s.fieldAct (.unit 14 o 1 0)).ok else s.drvNo r o 0x04

/-- A write of a DRV port, offset from the output's base: 0 SET, 3 FAULT_CLR (R424, R434). Answers whether it was taken. -/
def Chip.drvPortWrite (s : Chip) (o off v : Nat) : Bool × Chip :=
  if !s.active (drvFlask o) then (false, s)
  else if off = 0 then
    if s.wk (Reg.DRV_CFG_SRC o) ≠ 2 then (false, s)
    else (true, s.sendSetpoint o ⟨v % 65536, false, false, s.applyEra⟩)
  else if off = 3 then
    let present := s.free % 2 == 1
    let s := s.drew
    if s.mayClear o present then (true, s.fieldAct (.unit 14 o 1 0)) else (false, s)
  else (false, s)

/-- The last word of a unit that left for the field die and has not come there, or else the word it holds. -/
def Chip.told (s : Chip) (unit cur : Nat) : Nat :=
  (s.seam.flight ++ s.seam.sent.flatten ++ s.seam.queue).foldl (fun v i =>
    match i with | .unit u 0 0 w => if u = unit then w else v | _ => v) cur

/-- The core die tells the field die whether the node serves and is steered (R430), and whether it is steered (02_clocks_and_chain_time.md R36),
where its word changes. -/
def Chip.tellHold (s : Chip) : Chip :=
  let v := b2n (!(s.clk.serving && s.steered)) + 2 * b2n s.steered
  if v = s.told 14 (b2n s.drvHold + 2 * b2n s.clk.fSteered) then s else s.fieldAct (.unit 14 0 0 v)

/-- The enable terms as the core die holds them: the ports' power, DETACHED, and whether TR has been staged. -/
def Chip.fuseTerms (s : Chip) : Nat :=
  s.portPowerWord + (if s.flag Reg.CHAIN_STAT_DETACHED then 2 ^ 9 else 0) + (if s.pwr.trOrder then 2 ^ 10 else 0)

/-- The core die tells the field die the enable terms it holds, where they changed. -/
def Chip.tellTerms (s : Chip) : Chip :=
  let v := s.fuseTerms
  if v = s.told 12 s.fuseReq then s else s.fieldAct (.unit 12 0 0 v)

/-- The core die orders the pass-through staged (04_power_up_to_service.md R89). -/
def Chip.orderTrunk (s : Chip) : Chip :=
  if s.pwr.trOrder then s else s.fieldAct (.unit 12 0 0 (s.fuseTerms + 2 ^ 10))

end Sys2Proof.Machine
end

