-- ==== Sys2Proof/Machine/Flags.lean ====
section
/-! DEFINITION. Flag computations of the Sprue instructions (10_sprue_instruction_set.md R224 to R228) and the conditions of
Table ISA-3. -/

namespace Sys2Proof.Machine

/-- The flags an instruction changes; none leaves a flag unchanged (R224). -/
structure FlagUpd where
  z : Option Bool := none
  n : Option Bool := none
  c : Option Bool := none
  v : Option Bool := none
  s : Option Bool := none
deriving DecidableEq, Repr

/-- Apply flag changes. -/
def Engine.upd (x : Engine) (u : FlagUpd) : Engine :=
  { x with z := u.z.getD x.z, n := u.n.getD x.n, c := u.c.getD x.c, v := u.v.getD x.v, sat := u.s.getD x.sat }

/-- Z and N of a result. -/
def zn (r : BitVec 32) : FlagUpd := { z := some (r == 0), n := some r.msb }

/-- Does an integer leave the signed 32-bit range? -/
def over32 (i : Int) : Bool := decide (i < -2147483648) || decide (2147483647 < i)

/-- sat32: an integer held to the signed 32-bit range. -/
def sat32 (i : Int) : Int := clampInt (-2147483648) 2147483647 i

/-- sat64: an integer held to the signed 64-bit range. -/
def sat64 (i : Int) : Int := clampInt (-9223372036854775808) 9223372036854775807 i

/-- a + b + carry with Z N C V. -/
def addFlags (a b : BitVec 32) (ci : Bool) : BitVec 32 × FlagUpd :=
  let r := a + b + BitVec.ofNat 32 (b2n ci)
  (r, { zn r with c := some (decide (4294967296 ≤ a.toNat + b.toNat + b2n ci)), v := some (over32 (a.toInt + b.toInt + b2n ci)) })

/-- a - b - borrow with Z N C V; C is 1 when no borrow occurred. -/
def subFlags (a b : BitVec 32) (bi : Bool) : BitVec 32 × FlagUpd :=
  let r := a - b - BitVec.ofNat 32 (b2n bi)
  (r, { zn r with c := some (decide (b.toNat + b2n bi ≤ a.toNat)), v := some (over32 (a.toInt - b.toInt - b2n bi)) })

/-- A saturating result with Z N, and S where it saturates. -/
def satFlags (i : Int) : BitVec 32 × FlagUpd :=
  let r := BitVec.ofInt 32 (sat32 i)
  (r, { zn r with s := if over32 i then some true else none })

/-- Shifts and rotates by n (0 shl, 1 shr, 2 sar, 3 ror) with Z N C; an amount of 0 leaves C unchanged. -/
def shiftFlags (kind : Nat) (a : BitVec 32) (n : Nat) : BitVec 32 × FlagUpd :=
  let r := match kind with
    | 0 => a <<< n
    | 1 => a >>> n
    | 2 => a.sshiftRight n
    | _ => a.rotateRight n
  let c := match kind with
    | 0 => a.getLsbD (32 - n)
    | 3 => r.msb
    | _ => a.getLsbD (n - 1)
  (r, { zn r with c := if n = 0 then none else some c })

/-- Leading zeros of a word. -/
def clz32 (a : BitVec 32) : Nat :=
  match (List.range 32).find? (fun i => a.getLsbD (31 - i)) with | some i => i | none => 32

/-- The conditions of Table ISA-3; 15 is reserved. -/
def condHolds (x : Engine) (cond : Nat) : Bool :=
  match cond with
  | 0 => true | 1 => x.z | 2 => !x.z | 3 => x.n != x.v | 4 => x.n == x.v | 5 => !x.z && x.n == x.v
  | 6 => x.z || x.n != x.v | 7 => !x.c | 8 => x.c | 9 => x.n | 10 => !x.n | 11 => x.v | 12 => !x.v
  | 13 => x.sat | 14 => !x.sat | _ => false

/-- Quotient and remainder with V (R228): kinds 0 div, 1 divu, 2 rem, 3 remu. -/
def divFlags (kind : Nat) (a b : BitVec 32) : BitVec 32 × FlagUpd :=
  let out (r : BitVec 32) (v : Bool) : BitVec 32 × FlagUpd := (r, { zn r with v := some v })
  if b = 0 then
    match kind with
    | 0 => out (if a.msb then 0x80000000 else 0x7FFFFFFF) true
    | 1 => out 0xFFFFFFFF true
    | _ => out a true
  else if (kind = 0 ∨ kind = 2) ∧ a = 0x80000000 ∧ b = 0xFFFFFFFF then
    out (if kind = 0 then 0x7FFFFFFF else 0) true
  else
    match kind with
    | 0 => out (BitVec.ofInt 32 (Int.tdiv a.toInt b.toInt)) false
    | 1 => out (a / b) false
    | 2 => out (BitVec.ofInt 32 (Int.tmod a.toInt b.toInt)) false
    | _ => out (a % b) false

/-- The product of a MAC form (R226): 0 integer, 1 Q31, 2 Q15. -/
def macProduct (form : Nat) (a b : BitVec 32) : Int :=
  match form with
  | 0 => a.toInt * b.toInt
  | 1 => Int.fdiv (a.toInt * b.toInt + 1073741824) 2147483648
  | _ => signed 16 a.toNat * signed 16 b.toNat * 2

/-- What racc reads, and whether its saturation acts (R227): 0 lo, 1 hi, 2 Q31, 3 Q15. -/
def raccRead (form : Nat) (acc : BitVec 64) : BitVec 32 × Bool :=
  match form with
  | 0 => (acc.extractLsb' 0 32, false)
  | 1 => (acc.extractLsb' 32 32, false)
  | 2 => (BitVec.ofInt 32 (sat32 acc.toInt), over32 acc.toInt)
  | _ =>
    let t := sat32 acc.toInt
    if 0x7FFF8000 ≤ t then (0x00007FFF, true)
    else (BitVec.ofInt 32 (signed 16 (unsigned 16 (Int.fdiv (t + 0x8000) 65536))), over32 acc.toInt)

/-- One CRC-16 step by a byte (R242): polynomial 0x1021, most significant bit first. -/
def crc16Byte (d : BitVec 32) (v : Nat) : BitVec 32 :=
  (List.range 8).foldl (fun d _ => if d.getLsbD 15 then ((d <<< 1) ^^^ 0x1021) &&& 0xFFFF else (d <<< 1) &&& 0xFFFF)
    (d ^^^ (BitVec.ofNat 32 v <<< 8))

/-- One CRC-32 step by a byte (R242): reflected polynomial 0xEDB88320. -/
def crc32Byte (d : BitVec 32) (v : Nat) : BitVec 32 :=
  (List.range 8).foldl (fun d _ => if d.getLsbD 0 then (d >>> 1) ^^^ 0xEDB88320 else d >>> 1) (d ^^^ BitVec.ofNat 32 v)

/-- CRC-16 of bytes from a start value. -/
def crc16 (d : BitVec 32) (l : List (BitVec 8)) : BitVec 32 := l.foldl (fun d b => crc16Byte d b.toNat) d

/-- CRC-32 of bytes: all ones to start, complemented at the end (06_cycle_frames_and_gate.md R124). -/
def crc32 (l : List (BitVec 8)) : BitVec 32 := ~~~(l.foldl (fun d b => crc32Byte d b.toNat) 0xFFFFFFFF)

end Sys2Proof.Machine
end

