-- ==== Sys2Proof/Machine/Bkg.lean ====
section
/-! DEFINITION. Background work (22_background_work.md R466 to R484): scrubbing, the configuration journal, the event log,
telemetry, calibration and margin scans. -/

namespace Sys2Proof.Machine

/-- Set the background unit. -/
def Chip.setBkg (s : Chip) (b : Bkg) : Chip := { s with bkg := b }

/-- The value of a whole register as its fields stand on the core die, working values for RW-P fields. -/
def Chip.regWord (s : Chip) (addr : Nat) : Nat :=
  match locate addr with
  | some l => l.fields.foldl (fun a f =>
      a + (match f.code with | .cmd => 0 | .rwP => s.wk f | _ => s.get f) * 2 ^ f.lsb) 0
  | none => 0

/-- Does background work go on: F53 is not fenced (R467)? -/
def Chip.bkgRuns (s : Chip) : Bool := s.coreUp && s.active 53

/-! Scrubbing (R468 to R470) -/

/-- A number for each memory with a maintenance port. -/
def memIndex (m : EccMemory) : Nat :=
  match m with
  | .sram => 0 | .code e => 1 + e.val | .cluster k => 33 + k.val | .marks => 37 | .tags => 38 | .can c => 39 + c.val | .pd c => 41 + c.val

/-- First address and words of a memory of the address map; none for a memory without a place in it. -/
def memPlace (m : EccMemory) : Option (Nat × Nat) :=
  match m with
  | .sram => some (0, 0x40000)
  | .code e => some (0x100000 + 0x2000 * e.val, 2048)
  | .cluster k => some (0x140000 + 0x8000 * k.val, 8192)
  | _ => none

/-- A correctable word joins the rewrite queue, or is dropped from a full one (R469). -/
def Chip.rewriteLater (s : Chip) (a : Nat) : Chip :=
  if s.bkg.rewrite.length < 16 then s.setBkg { s.bkg with rewrite := s.bkg.rewrite ++ [a] } else s

/-- The key of word i of memory m: its address in the map, or a number beyond the map. -/
def memKey (m : EccMemory) (i : Nat) : Nat :=
  match memPlace m with | some p => p.1 + 4 * i | none => 0x1000000 * (memIndex m + 1) + 4 * i

/-- What SCRUB_UE_ADDR shows of word i of memory m: a field-die memory by its word index; a memory with no place in the
address map has no module address that the spec gives, a free value (log entry 6). -/
def Chip.ueAddr (s : Chip) (m : EccMemory) (i : Nat) : Nat × Chip :=
  match memPlace m, m with
  | some p, _ => (p.1 + 4 * i, s)
  | none, .pd _ => (0xF0000000 + i, s)
  | none, _ => (s.free, s.drew)

/-- SCRUB_TICK: the next word of a memory is read (R468 to R470). The pass ends at the last word; where the spec gives a
memory no size, whether it was the last is a free value. -/
def Chip.scrubTick (s : Chip) (m : EccMemory) (found : EccState) : Chip :=
  if !s.bkgRuns || !s.wkB Reg.BKG_CFG_SCRUB_EN then s else
  let i := s.bkg.scrubAt.get 0 (memIndex m)
  let last := match memPlace m with | some p => i + 1 == p.2 | none => bit s.free 0
  let s := if (memPlace m).isSome then s else s.drew
  let s := s.setBkg { s.bkg with scrubAt := s.bkg.scrubAt.put 0 (memIndex m) (if last then 0 else i + 1) }
  let s := if last then s.inc Reg.BKG_SCRUB_PASS_CNT else s
  match found with
  | .clean => s
  | .correctable => ({ s with ecc := s.ecc.put 0 (memKey m i) 1 }).rewriteLater (memKey m i)
  | .uncorrectable =>
    let s := { s with ecc := s.ecc.put 0 (memKey m i) 2 }
    let a := s.ueAddr m i
    ((a.2.inc Reg.BKG_SCRUB_UE_CNT).put Reg.BKG_SCRUB_UE_ADDR a.1).fire 78 0

/-- SCRUB_REWRITE: the oldest queued word is rewritten, or dropped behind a foreground write of that cc (R469). -/
def Chip.scrubRewrite (s : Chip) (fg : Bool) : Chip :=
  if !s.bkgRuns || !s.wkB Reg.BKG_CFG_SCRUB_EN then s else
  match s.bkg.rewrite with
  | [] => s
  | a :: t =>
    let s := { s.setBkg { s.bkg with rewrite := t } with ecc := s.ecc.put 0 a 0 }
    if fg then s else s.inc Reg.BKG_SCRUB_CE_CNT

/-! The SPI NOR (R471, R472) -/

/-- A sector is erased: every byte reads 0xFF. -/
def Chip.norErase (s : Chip) (a : Nat) : Chip := { s with nor := SMap.drop (fun k => decide (a ≤ k) && decide (k < a + 4096)) s.nor }

/-- The n bytes of NOR from an offset upward. -/
def Chip.norbs (s : Chip) (a n : Nat) : List (BitVec 8) := (List.range n).map (fun i => s.norb (a + i))

/-- Offset of a journal sector. -/
def jSector (k : Nat) : Nat := 0x200000 + 4096 * (k % 64)

/-- The journal sector whose erase runs is erased, and becomes the spare (R474). -/
def Chip.eraseDone (s : Chip) : Chip :=
  match s.bkg.erasing with
  | none => s
  | some k =>
    let n := s.bkg.erases.get 0 k + 1
    let s := (s.norErase (jSector k)).setBkg { s.bkg with erasing := none, suspended := false, erases := s.bkg.erases.put 0 k n }
    s.put Reg.BKG_JRNL_STAT_WEAR (max n (s.get Reg.BKG_JRNL_STAT_WEAR))

/-- A foreground operation takes the NOR: an erase that runs is suspended; a page program, which the model completes at
once, has completed (R472). -/
def Chip.norForeground (s : Chip) : Chip :=
  if !s.coreUp then s else
  (s.setBkg { s.bkg with suspended := s.bkg.erasing.isSome }).put Reg.BKG_STAT_NOR_FG 1

/-- The NOR is free again: a suspended erase resumes. -/
def Chip.norFree (s : Chip) : Chip := (s.setBkg { s.bkg with suspended := false }).put Reg.BKG_STAT_NOR_FG 0

/-! The configuration journal (R473 to R477) -/

/-- Bytes 0 to 29 of a slot with their CRC-16 (Table BKG-2, 05_gleshline_link.md R96). -/
def jSlotBytes (b : List (BitVec 8)) : List (BitVec 8) := b ++ natBytes 2 (crc16 0xFFFF b).toNat

/-- A record's slot. -/
def jRecord (key : Nat) (del : Bool) (seq : Nat) (val : List Nat) : List (BitVec 8) :=
  jSlotBytes (natBytes 2 key ++ natBytes 2 (b2n del) ++ natBytes 4 seq ++
    ((List.range 4).map (fun j => natBytes 4 (val.getD j 0))).flatten ++ List.replicate 6 0xFF)

/-- A sector's header. -/
def jHeader (seq erases : Nat) : List (BitVec 8) :=
  jSlotBytes (natBytes 2 0x4A53 ++ natBytes 2 0 ++ natBytes 4 seq ++ natBytes 4 erases ++ List.replicate 12 0 ++ List.replicate 6 0xFF)

/-- The 30 bytes of a slot whose CRC is good. -/
def Chip.jSlot (s : Chip) (k i : Nat) : Option (List (BitVec 8)) :=
  let b := s.norbs (jSector k + 32 * i) 30
  if leNat (s.norbs (jSector k + 32 * i + 30) 2) = (crc16 0xFFFF b).toNat then some b else none

/-- Sector sequence and erase count of a sealed sector. -/
def Chip.jHead (s : Chip) (k : Nat) : Option (Nat × Nat) :=
  match s.jSlot k 0 with
  | some b => if leNat (b.take 2) = 0x4A53 then some (leNat ((b.drop 4).take 4), leNat ((b.drop 8).take 4)) else none
  | none => none

/-- The newest sealed sector, with its sequence (R476). -/
def Chip.jNewest (s : Chip) : Option (Nat × Nat) :=
  (List.range 64).foldl (fun best k =>
    match s.jHead k, best with
    | some h, some b => if b.2 < h.1 then some (k, h.1) else some b
    | some h, none => some (k, h.1)
    | none, b => b) none

/-- What a sector holds under each key: sequence, delete flag and value of the valid record with the highest sequence (R476). -/
def Chip.jScanKeys (s : Chip) (k : Nat) : SMap (Nat × Bool × List Nat) :=
  (List.range 127).foldl (fun m i =>
    match s.jSlot k (i + 1) with
    | none => m
    | some b =>
      let key := leNat (b.take 2)
      let seq := leNat ((b.drop 4).take 4)
      if 63 < key then m else
      match SMap.find m key with
      | some o => if seq < o.1 then m else SMap.ins key (seq, bit (leNat ((b.drop 2).take 2)) 0, (List.range 4).map (fun j => leNat ((b.drop (8 + 4 * j)).take 4))) m
      | none => SMap.ins key (seq, bit (leNat ((b.drop 2).take 2)) 0, (List.range 4).map (fun j => leNat ((b.drop (8 + 4 * j)).take 4))) m) []

/-- The live records of a sector: a DELETE removes its key (R476). -/
def Chip.jLive (s : Chip) (k : Nat) : SMap (Nat × Bool × List Nat) := (s.jScanKeys k).filter (fun e => !e.2.2.1)

/-- The slot behind the last one that is not blank. -/
def Chip.jFree (s : Chip) (k : Nat) : Nat :=
  (List.range 127).foldl (fun n i => if (s.norbs (jSector k + 32 * (i + 1)) 32).all (· == 0xFF) then n else i + 2) 1

/-- A key's durable value shows in JRNL_VAL, JRNL_VALID and LIVE; key 0 in CHAIN.INFO2 with it (07_chain_topology_and_heads.md R155). -/
def Chip.jShow (s : Chip) (key : Nat) (v : Option (List Nat)) : Chip :=
  let f := if key < 32 then Reg.BKG_JRNL_VALID_LO else Reg.BKG_JRNL_VALID_HI
  let m := s.get f
  let s := s.put f (if v.isSome then setBit m (key % 32) else clrBit m (key % 32))
  let s := s.each (List.range 4) (fun s j => s.put (Reg.BKG_JRNL_VAL key j) ((v.getD []).getD j 0))
  let s := s.put Reg.BKG_JRNL_STAT_LIVE ((List.range 64).countP (fun k =>
    bit (s.get (if k < 32 then Reg.BKG_JRNL_VALID_LO else Reg.BKG_JRNL_VALID_HI)) (k % 32)))
  if key ≠ 0 then s else
  let w := (v.getD []).getD 0 0
  ((s.put Reg.CHAIN_INFO2_STICKY w).put Reg.CHAIN_INFO2_S_RING (w / 1024)).putB Reg.CHAIN_INFO2_S_VALID v.isSome

/-- JOURNAL_SCAN (R476): with it CHAIN.INFO2 and, on a node strapped head, CLK.CT_INIT (02_clocks_and_chain_time.md R41). -/
def Chip.journalScan (s : Chip) : Chip :=
  if !s.coreUp || s.flag Reg.BKG_STAT_JRNL_READY then s else
  let s := match s.jNewest with
    | none => s
    | some n =>
      let keys := s.jScanKeys n.1
      let counts := (List.range 64).foldl (fun (m : SMap Nat) k =>
        match s.jHead k with | some h => m.put 0 k h.2 | none => m) []
      let act := counts.get 0 n.1
      let counts := if (s.jHead ((n.1 + 1) % 64)).isSome then counts
        else counts.put 0 ((n.1 + 1) % 64) (if n.1 = 63 then act + 1 else act)
      let s := s.setBkg { s.bkg with
        sealed := true, slot := s.jFree n.1, secSeq := n.2, erases := counts
        recSeq := keys.foldl (fun (q : Nat) (e : Nat × Nat × Bool × List Nat) => max q (e.2.1 + 1)) 0
        erasing := if (s.norbs (jSector (n.1 + 1)) 4096).all (· == 0xFF) then none else some ((n.1 + 1) % 64) }
      let s := (s.put Reg.BKG_JRNL_STAT_ACTIVE n.1).put Reg.BKG_JRNL_STAT_WEAR (counts.foldl (fun (q : Nat) (e : Nat × Nat) => max q e.2) 0)
      s.each (s.jLive n.1) (fun s e => s.jShow e.1 (some e.2.2.2))
  let s := if s.get Reg.CHAIN_INFO3_STRAP = 1 ∧ bit (s.get Reg.BKG_JRNL_VALID_LO) 1 then
      (s.put Reg.CLK_CT_INIT_LO (s.get (Reg.BKG_JRNL_VAL 1 0))).put Reg.CLK_CT_INIT_HI (s.get (Reg.BKG_JRNL_VAL 1 1))
    else s
  s.put Reg.BKG_STAT_JRNL_READY 1

/-- JOURNAL_FORMAT (R476): sector 0 is erased and sealed empty; the erase of the next one follows. -/
def Chip.journalFormat (s : Chip) : Chip :=
  if !s.bkgRuns || !s.flag Reg.BKG_STAT_JRNL_READY || s.bkg.sealed then s else
  let n := s.bkg.erases.get 0 0 + 1
  let s := (s.norErase (jSector 0)).norws (jSector 0) (jHeader 0 n)
  let s := s.setBkg { s.bkg with sealed := true, slot := 1, secSeq := 0, erases := s.bkg.erases.put 0 0 n, erasing := some 1, suspended := false }
  (s.put Reg.BKG_JRNL_STAT_ACTIVE 0).put Reg.BKG_JRNL_STAT_WEAR n

/-- The active sector is full: every live record is copied to the spare, its header seals it, and the oldest sector's erase
begins (R474). -/
def Chip.jRotate (s : Chip) : Chip :=
  let s := s.eraseDone
  let k := s.get Reg.BKG_JRNL_STAT_ACTIVE
  let n := (k + 1) % 64
  let live := s.jLive k
  let s := (List.zip (List.range live.length) live).foldl (fun s p =>
    s.norws (jSector n + 32 * (p.1 + 1)) (jRecord p.2.1 false p.2.2.1 p.2.2.2.2)) s
  let s := s.norws (jSector n) (jHeader (s.bkg.secSeq + 1) (s.bkg.erases.get 0 n))
  (s.setBkg { s.bkg with secSeq := s.bkg.secSeq + 1, slot := live.length + 1, erasing := some ((n + 1) % 64), suspended := false }).put
    Reg.BKG_JRNL_STAT_ACTIVE n

/-- JOURNAL_APPEND (R474): the oldest pending record is programmed to the next free slot; a failed slot is skipped and the
record keeps waiting. Under a fence of F53 only a sticky-address record is written (R467). -/
def Chip.journalAppend (s : Chip) (ok : Bool) : Chip :=
  let may := fun p : JPut => s.active 53 || p.key == 0
  match s.bkg.pend.find? may with
  | none => s
  | some p =>
    if !s.coreUp || !s.bkg.sealed then s else
    let s := if s.bkg.suspended then s else s.eraseDone
    let s := if 127 < s.bkg.slot then s.jRotate else s
    let a := jSector (s.get Reg.BKG_JRNL_STAT_ACTIVE) + 32 * s.bkg.slot
    let rec_ := jRecord p.key p.del s.bkg.recSeq p.val
    let s := s.setBkg { s.bkg with slot := s.bkg.slot + 1 }
    if ok then
      let s := s.norws a rec_
      s.setBkg { s.bkg with recSeq := s.bkg.recSeq + 1, pend := s.bkg.pend.erase p, written := s.bkg.written ++ [p] }
    else
      -- the slot holds what a torn record leaves: its CRC fails (R475)
      ((s.norws a (rec_.take 30 ++ (rec_.drop 30).map (fun b => ~~~b))).inc Reg.BKG_JRNL_ERR_CNT).fire 79 0

/-- JRNL_DURABLE (R477); under a fence of F53 of a sticky-address record alone (R467). -/
def Chip.jrnlDurable (s : Chip) : Chip :=
  match s.bkg.written.find? (fun p => s.active 53 || p.key == 0) with
  | none => s
  | some p =>
    if !s.coreUp then s else
    let s := (s.setBkg { s.bkg with written := s.bkg.written.erase p }).inc Reg.BKG_JRNL_REC_CNT
    let s := s.jShow p.key (if p.del then none else some p.val)
    if p.user then s.put Reg.BKG_STAT_JRNL_BUSY 0 else s

/-- A value is put to the journal. -/
def Chip.jPut (s : Chip) (p : JPut) : Chip := s.setBkg { s.bkg with pend := s.bkg.pend ++ [p] }

/-- JRNL_KEY (R477). -/
def Chip.jStageKey (s : Chip) (v : Nat) : Did := (s.setBkg { s.bkg with jKey := bits v 5 0, jDel := bit v 8 }).ok

/-- JRNL_DATA (R477). -/
def Chip.jStageData (s : Chip) (j w : Nat) : Did := (s.setBkg { s.bkg with jData := s.bkg.jData.put 0 j w }).ok

/-- JRNL_PUT.GO (R477). -/
def Chip.jrnlGo (s : Chip) (r : Nat) : Did :=
  if s.bkg.jKey = 0 ∨ 63 < s.bkg.jKey ∨ s.flag Reg.BKG_STAT_JRNL_BUSY ∨ ¬ s.flag Reg.BKG_STAT_JRNL_READY ∨ ¬ s.active 53 then
    s.no r 17 0 0x3C
  else ((s.jPut ⟨s.bkg.jKey, s.bkg.jDel, (List.range 4).map (s.bkg.jData.get 0), true⟩).put Reg.BKG_STAT_JRNL_BUSY 1).ok

/-! The event log (R478, R479) -/

/-- An event record is offered to the log (R478). LOG_CNT counts at admission; while F53 is fenced the log admits none, and the record counts as
dropped (DESIGN CHOICES, log entry 68). -/
def Chip.logAdmit (s : Chip) (w : List Nat) : Chip :=
  if !s.wkB Reg.BKG_CFG_LOG_EN then s else
  let sec := s.ct.toNat / 1000000000
  let n := if s.bkg.logSec = sec then s.bkg.logN else 0
  if !s.bkgRuns || decide (max 1 (s.wk Reg.BKG_CFG_LOG_RATE) ≤ n) || decide (64 ≤ s.bkg.logQ.length) then s.inc Reg.BKG_LOG_DROP_CNT
  else
    (s.setBkg { s.bkg with logQ := s.bkg.logQ ++ [w], logAts := s.bkg.logAts ++ [s.ct.toNat], logSec := sec, logN := n + 1 }).inc Reg.BKG_LOG_CNT

/-- Sectors of the log: a device of 4 MiB (log entry 3). -/
def logSectors : Nat := 448

/-- Offset of a log sector. -/
def logSector (k : Nat) : Nat := 0x240000 + 4096 * (k % logSectors)

/-- Sequence of a log sector; none while it is erased. -/
def Chip.logSeq (s : Chip) (k : Nat) : Option Nat :=
  let v := leNat (s.norbs (logSector k) 4)
  if v = 0xFFFFFFFF then none else some v

/-- The newest log sector: number and sequence. -/
def Chip.logNewest (s : Chip) : Option (Nat × Nat) :=
  (List.range logSectors).foldl (fun best k =>
    match s.logSeq k, best with
    | some h, some b => if b.2 < h then some (k, h) else some b
    | some h, none => some (k, h)
    | none, b => b) none

/-- Records a log sector holds: up to the first blank place. -/
def Chip.logCount (s : Chip) (k : Nat) : Nat :=
  match (List.range 255).find? (fun i => (s.norbs (logSector k + 16 * (i + 1)) 16).all (· == 0xFF)) with | some i => i | none => 255

/-- Write a record behind the newest; a full sector is followed by the next of the ring, whose successor is erased ahead (R478). -/
def Chip.logWrite (s : Chip) (w : List Nat) : Chip :=
  let b := (w.map (natBytes 4)).flatten
  let open_ (s : Chip) (k seq : Nat) : Chip := ((s.norErase (logSector k)).norws (logSector k) (natBytes 4 seq)).norErase (logSector (k + 1))
  match s.logNewest with
  | none => (open_ s 0 0).norws (logSector 0 + 16) b
  | some n =>
    let c := s.logCount n.1
    if c < 255 then s.norws (logSector n.1 + 16 * (c + 1)) b
    else (open_ s ((n.1 + 1) % logSectors) (n.2 + 1)).norws (logSector (n.1 + 1) + 16) b

/-- LOG_PAGE_PROGRAM (R478): at 16 queued records, or 1 s after the oldest arrived. -/
def Chip.logPage (s : Chip) : Chip :=
  if !s.bkgRuns || s.bkg.logQ.isEmpty then s
  else
    let s : Chip := if s.bkg.logQ.length < 16 then s.timeTo (s.bkg.logAts.headD 0 + 1000000000) else s
    let page := s.bkg.logQ.take 16
    (s.each page (fun s w => s.logWrite w)).setBkg { s.bkg with logQ := s.bkg.logQ.drop 16, logAts := s.bkg.logAts.drop 16 }

/-- The n-th newest record below sector k of sequence seq, walking the ring back. -/
def Chip.logBack (s : Chip) (k seq n : Nat) : Nat → Option (List Nat)
  | 0 => none
  | fuel + 1 =>
    if s.logSeq k ≠ some seq then none else
    let c := s.logCount k
    if n < c then some ((List.range 4).map (fun j => leNat (s.norbs (logSector k + 16 * (c - n) + 4 * j) 4)))
    else if seq = 0 then none
    else s.logBack ((k + logSectors - 1) % logSectors) (seq - 1) (n - c) fuel

/-- The n-th newest record held, the queue's counting as the newest (R479). -/
def Chip.logNth (s : Chip) (n : Nat) : Option (List Nat) :=
  if n < s.bkg.logQ.length then s.bkg.logQ.reverse[n]?
  else match s.logNewest with
    | some t => s.logBack t.1 t.2 (n - s.bkg.logQ.length) logSectors
    | none => none

/-- LOG_IDX (R479), a start bit paired with LOG_RD_BUSY. -/
def Chip.logStart (s : Chip) (r n : Nat) : Did :=
  if s.flag Reg.BKG_STAT_LOG_RD_BUSY then s.no r 17 0 0x50
  else if !s.active 53 then s.no r 17 0 0x50
  else ((s.setBkg { s.bkg with logIdx := n }).put Reg.BKG_STAT_LOG_RD_BUSY 1).ok

/-- LOG_READ_DONE (R479). -/
def Chip.logDone (s : Chip) : Chip :=
  if !s.bkgRuns || !s.flag Reg.BKG_STAT_LOG_RD_BUSY then s else
  let w := (s.logNth s.bkg.logIdx).getD (List.replicate 4 0xFFFFFFFF)
  (s.each (List.range 4) (fun s j => s.put (Reg.BKG_LOG_REC j) (w.getD j 0))).put Reg.BKG_STAT_LOG_RD_BUSY 0

/-! Telemetry (R480 to R482) -/

/-- The health word (Table BKG-3). -/
def Chip.healthWord (s : Chip) : Nat :=
  let outs := (List.range 12).any (fun o => s.get (Reg.DRV_STAT_STATE o) == 1 || s.get (Reg.DRV_STAT_STATE o) == 3)
  let link := [0, 1].any (fun p => s.linkPartner p &&
    (!s.linkActive p || decide (s.get (Reg.LINK_STAT_WIDTH p) < s.get (Reg.LINK_PHY_MAX_WIDTH p))))
  let ovl := (List.range 128).any (fun q => s.flag (Reg.RUN_STAT_OVL q)) || s.flag Reg.SYNC_STAT_OVL || s.flag Reg.WIDE_STAT_OVL
  let fuse := (List.range 10).any (fun ch => s.get (Reg.FUSE_STAT_STATE ch) == 4 || s.get (Reg.FUSE_STAT_STATE ch) == 5)
  let m := fun k => s.get (Reg.MEAS_MON_VAL k) % 65536
  let temp := max (signed 16 (m 8)) (signed 16 (m 9))
  b2n s.clk.serving + 2 * b2n (s.get Reg.CLK_STATUS_SYNC == 2) + 4 * b2n (s.fencedMask != 0) + 8 * s.get Reg.SEAM_STATUS_SAFE +
    16 * b2n (outs || s.flag Reg.FLASK_OUT_HELD) + 32 * b2n link + 64 * b2n ovl + 128 * b2n fuse +
    2 ^ 8 * min 255 (m 0 / 20) + 2 ^ 16 * (clampInt 0 255 (Int.fdiv temp 10 + 40)).toNat + 2 ^ 24 * (s.bkg.setNum % 256)

/-- The 512 bytes of a full set (Table BKG-4). -/
def Chip.fullSet (s : Chip) : List (BitVec 8) :=
  let link := fun p => [s.get (Reg.LINK_CG_ERR0 p), s.get (Reg.LINK_CG_ERR1 p), s.get (Reg.LINK_DOWN_CNT p), s.get (Reg.LINK_CYC_BAD_CNT p)]
  let words :=
    [s.get Reg.CHAIN_ADDR_STATION + 1024 * s.get Reg.CHAIN_ADDR_RING, s.bkg.setNum, s.get Reg.CLK_CYC_NUM, s.ct.toNat % 2 ^ 32,
      s.get Reg.BKG_HEALTH, s.fencedMask % 2 ^ 32, s.fencedMask / 2 ^ 32, s.get Reg.FLASK_OUT_HELD] ++
    (List.range 16).map (fun m => s.get (Reg.MEAS_MON_VAL m)) ++ link 0 ++ link 1 ++
    (List.range 4).map (fun i => s.regWord (0x01110080 + 4 * i)) ++
    [s.get Reg.GATE_FCRC_CNT, s.get Reg.GATE_STOMP_CNT, s.get Reg.GATE_HCRC_CNT, s.get Reg.GATE_DEF_LOST_CNT,
      s.get Reg.CLK_PHASE_ERR, s.get Reg.CLK_MISS_CNT,
      s.get Reg.BKG_SCRUB_PASS_CNT, s.get Reg.BKG_SCRUB_CE_CNT, s.get Reg.BKG_SCRUB_UE_CNT, s.get Reg.BKG_SCRUB_UE_ADDR,
      s.regWord 0x010C0240, s.get Reg.FUSE_TRIP_MAP, s.get Reg.DRV_SCALE_CNT,
      (List.range 8).foldl (fun t o => t + s.get (Reg.DRV_MEAS o)) 0] ++
    (List.range 12).map (fun o => s.regWord (0x010E0000 + drvOff o)) ++
    (List.range 4).map (fun i => (List.range 32).foldl (fun m b => if s.flag (Reg.RUN_STAT_OVL (32 * i + b)) then m + 2 ^ b else m) 0)
  let b := (words.map (natBytes 4)).flatten
  b ++ List.replicate (512 - b.length) 0

/-- In the swap cc of a mark: the health word, and the full set where the mark's number calls for it (R480, R481). -/
def Chip.telemetry (s : Chip) : Chip :=
  if !s.active 53 then s else
  let s := s.put Reg.BKG_HEALTH s.healthWord
  if s.flag Reg.CHAIN_STAT_ADDR_VALID ∧ s.wkB Reg.BKG_CFG_TELEM_EN ∧
      s.get Reg.CLK_CYC_NUM % 1000 = s.get Reg.CHAIN_ADDR_STATION % 1000 then
    let set := (s.bkg.setNum, s.fullSet)
    let s := if 2 ≤ s.bkg.sets.length then
      (s.setBkg { s.bkg with sets := s.bkg.sets.drop 1, setOff := 0 }).inc Reg.BKG_TELEM_DROP_CNT else s
    (s.setBkg { s.bkg with sets := s.bkg.sets ++ [set], setNum := s.bkg.setNum + 1 }).inc Reg.BKG_TELEM_SET_CNT
  else s

/-- What a TELEM slot with SET 1 of len bytes carries away: its first bytes, and the set and offset its commit reaches (R482). While F53 is
fenced no set is delivered (R467). -/
def Chip.telemChunk (s : Chip) (len : Nat) : Option (List (BitVec 8) × Nat × Nat) :=
  if !s.active 53 then none else
  match s.bkg.sets with
  | [] => none
  | (n, b) :: _ =>
    let d := (b.drop s.bkg.setOff).take (len - 4)
    some (natBytes 4 (s.bkg.setOff + 65536 * (n % 65536)) ++ d, n, s.bkg.setOff + d.length)

/-- The chunk commits: the offset advances, and a set whose last byte went is released (R482); not while F53 is fenced (R467). -/
def Chip.telemCommit (s : Chip) (n off : Nat) : Chip :=
  if !s.active 53 then s else
  match s.bkg.sets with
  | (k, b) :: t =>
    if k ≠ n then s
    else if b.length ≤ off then s.setBkg { s.bkg with sets := t, setOff := 0 }
    else s.setBkg { s.bkg with setOff := off }
  | [] => s

/-! Calibration and margin scans (R483, R484) -/

/-- When a unit's calibration next falls due: 10 s after it last did, at first SB 2.5 s and the bridges 5 s after SA (R483); none before the
first of SA, whose instant the spec does not give (log entry 2). -/
def Chip.calDue (s : Chip) (u : Nat) : Nat :=
  let last := s.bkg.calAt.get 0 u
  let sa := s.bkg.calAt.get 0 0
  if last ≠ 0 then last - 1 + 10000000000 else if sa ≠ 0 then sa - 1 + 2500000000 * u else 0

/-- CALIBRATION_START of SA, SB or the bridges falls due (R483). -/
def Chip.calStart (s : Chip) (u : Nat) : Chip :=
  if !s.bkgRuns || !s.wkB Reg.BKG_CFG_CAL_EN || bit s.bkg.cal u then s else
  let s : Chip := s.timeTo (s.calDue u)
  let s : Chip := s.setBkg { s.bkg with calAt := s.bkg.calAt.put 0 u (s.ct.toNat + 1) }
  if !s.fieldUp || !s.flag (measEn u) || !s.active (measFlask u) || s.occMeas || s.get Reg.SYS_PWR_STAT == 1 then
    s.inc Reg.BKG_CAL_SKIP_CNT
  else ((s.setBkg { s.bkg with cal := setBit s.bkg.cal u }).put Reg.BKG_STAT_CAL_RUN 1).calBegin u

/-- CALIBRATION_DONE (R414, R483); a calibration rests while F53 is fenced (R467). -/
def Chip.calEnd (s : Chip) (u : Nat) : Chip :=
  if !s.bkgRuns || !bit s.bkg.cal u then s else
  let s := s.setBkg { s.bkg with cal := clrBit s.bkg.cal u }
  ((s.putB Reg.BKG_STAT_CAL_RUN (s.bkg.cal != 0)).inc Reg.BKG_CAL_CNT).calDone u

/-- Is lane l of port p in use? -/
def Chip.laneUsed (s : Chip) (i : Nat) : Bool := s.linkActive (i / 2) && decide (i % 2 < s.get (Reg.LINK_STAT_WIDTH (i / 2)))

/-- A scan starts on lane l of port p (05_gleshline_link.md R123). -/
def Chip.marginBegin (s : Chip) (p l : Nat) : Chip :=
  (s.setGl p { s.gl p with scan := l }).put (Reg.LINK_MARGIN_BUSY p) 1

/-- MARGIN_SCAN_START (R484): MARGIN_EVERY seconds after the last fell due, the next lane in use; while another scan runs it waits for the next
period. -/
def Chip.marginDue (s : Chip) : Chip :=
  if !s.bkgRuns || !s.wkB Reg.BKG_CFG_MARGIN_EN then s else
  let s : Chip := if s.bkg.scanAt = 0 then s else s.timeTo (s.bkg.scanAt - 1 + 1000000000 * max 1 (s.wk Reg.BKG_CFG_MARGIN_EVERY))
  let s : Chip := s.setBkg { s.bkg with scanAt := s.ct.toNat + 1 }
  if s.flag (Reg.LINK_MARGIN_BUSY 0) || s.flag (Reg.LINK_MARGIN_BUSY 1) then s else
  match ((List.range 4).map (fun k => (s.bkg.lane + k) % 4)).find? s.laneUsed with
  | none => s
  | some i => ((s.setBkg { s.bkg with lane := (i + 1) % 4 }).put Reg.BKG_STAT_MARGIN_RUN 1).marginBegin (i / 2) (i % 2)

/-- Entry to STANDBY: every pending configuration record is programmed, records of the log still queued are lost (R467). -/
def Chip.bkgStandby (s : Chip) : Chip :=
  let s := s.each s.bkg.pend (fun s _ => s.journalAppend true)
  s.setBkg { s.bkg with logQ := [], logAts := [] }

end Sys2Proof.Machine
end

