-- ==== Sys2Proof/Machine/Crypto.lean ====
section
/-! DEFINITION. SHA-256 (FIPS 180-4) and ECDSA over P-256 (FIPS 186-4), by which the boot ROM checks an image
(04_power_up_to_service.md R85). -/

namespace Sys2Proof.Machine

/-! SHA-256. Words are numbers below 2^32; the tables of constants are numbers of eight words, the first word highest. -/

/-- Word i of a number of eight words. -/
def wordOf8 (n i : Nat) : Nat := n >>> (32 * (7 - i)) % 2 ^ 32

/-- The eight words of a number. -/
def words8 (n : Nat) : List Nat := (List.range 8).map (wordOf8 n)

/-- The round constants: the fractions of the cube roots of the first 64 primes. -/
def shaRoots : List Nat :=
  words8 0x428a2f9871374491b5c0fbcfe9b5dba53956c25b59f111f1923f82a4ab1c5ed5 ++
  words8 0xd807aa9812835b01243185be550c7dc372be5d7480deb1fe9bdc06a7c19bf174 ++
  words8 0xe49b69c1efbe47860fc19dc6240ca1cc2de92c6f4a7484aa5cb0a9dc76f988da ++
  words8 0x983e5152a831c66db00327c8bf597fc7c6e00bf3d5a7914706ca635114292967 ++
  words8 0x27b70a852e1b21384d2c6dfc53380d13650a7354766a0abb81c2c92e92722c85 ++
  words8 0xa2bfe8a1a81a664bc24b8b70c76c51a3d192e819d6990624f40e3585106aa070 ++
  words8 0x19a4c1161e376c082748774c34b0bcb5391c0cb34ed8aa4a5b9cca4f682e6ff3 ++
  words8 0x748f82ee78a5636f84c878148cc7020890befffaa4506cebbef9a3f7c67178f2

/-- The value a digest starts from: the fractions of the square roots of the first eight primes. -/
def shaSeed : List Nat := words8 0x6a09e667bb67ae853c6ef372a54ff53a510e527f9b05688c1f83d9ab5be0cd19

/-- A big-endian number from bytes. -/
def beNat (l : List (BitVec 8)) : Nat := l.foldl (fun n b => 256 * n + b.toNat) 0

/-- The n big-endian bytes of a number. -/
def beBytes (n v : Nat) : List (BitVec 8) := (List.range n).map (fun i => BitVec.ofNat 8 (v / 256 ^ (n - 1 - i)))

/-- A word turned right by n places. -/
def turn (n x : Nat) : Nat := (x >>> n) ||| (x <<< (32 - n) % 2 ^ 32)

/-- Three turns of a word, added modulo 2. -/
def turns (i j k x : Nat) : Nat := turn i x ^^^ turn j x ^^^ turn k x

/-- Two turns and a shift of a word, added modulo 2. -/
def mixes (i j k x : Nat) : Nat := turn i x ^^^ turn j x ^^^ (x >>> k)

/-- A block's words, newest first, with n more of the schedule before them. -/
def shaGrow : Nat → List Nat → List Nat
  | 0, w => w
  | n + 1, w =>
    shaGrow n ((w.getD 15 0 + mixes 7 18 3 (w.getD 14 0) + w.getD 6 0 + mixes 17 19 10 (w.getD 1 0)) % 2 ^ 32 :: w)

/-- One round on the working words, with its constant and schedule word already summed. -/
def shaStep (v : List Nat) (kw : Nat) : List Nat :=
  match v with
  | [a, b, c, d, e, f, g, h] =>
    let t := h + turns 6 11 25 e + ((e &&& f) ^^^ ((2 ^ 32 - 1 - e) &&& g)) + kw
    [(t + turns 2 13 22 a + ((a &&& b) ^^^ (a &&& c) ^^^ (b &&& c))) % 2 ^ 32, a, b, c, (d + t) % 2 ^ 32, e, f, g]
  | _ => v

/-- One block of 64 bytes into a running digest. -/
def shaAbsorb (v : List Nat) (block : List (BitVec 8)) : List Nat :=
  let w := ((List.range 16).map (fun i => beNat ((block.drop (4 * i)).take 4))).reverse
  let kw := List.zipWith (· + ·) shaRoots (shaGrow 48 w).reverse
  List.zipWith (fun x y => (x + y) % 2 ^ 32) v (kw.foldl shaStep v)

/-- The blocks of a padded message, in order. -/
def shaFold : Nat → List (BitVec 8) → List Nat → List Nat
  | 0, _, v => v
  | n + 1, l, v => shaFold n (l.drop 64) (shaAbsorb v (l.take 64))

/-- SHA-256 of a byte string, as 32 bytes: the message, a byte 0x80, zeros to 56 modulo 64, and its length in bits. -/
def sha256 (m : List (BitVec 8)) : List (BitVec 8) :=
  let p := m ++ [0x80] ++ List.replicate ((119 - m.length % 64) % 64) 0 ++ beBytes 8 (8 * m.length)
  (shaFold (p.length / 64) p shaSeed).flatMap (beBytes 4)

/-! ECDSA over P-256 -/

/-- The field prime. -/
def p256P : Nat := 0xffffffff00000001000000000000000000000000ffffffffffffffffffffffff

/-- The order of the base point. -/
def p256N : Nat := 0xffffffff00000000ffffffffffffffffbce6faada7179e84f3b9cac2fc632551

/-- The curve's coefficient b. -/
def p256B : Nat := 0x5ac635d8aa3a93e7b3ebbd55769886bc651d06b0cc53b0f63bce3c3e27d2604b

/-- The base point. -/
def p256G : Nat × Nat :=
  (0x6b17d1f2e12c4247f8bce6e563a440f277037d812deb33a0f4a13945d898c296,
   0x4fe342e2fe1a7f9b8ee7eb4a7c0f9e162bce33576b315ececbb6406837bf51f5)

/-- b to the power e modulo m, over the bits of e. -/
def powMod : Nat → Nat → Nat → Nat → Nat
  | 0, _, _, _ => 1
  | k + 1, b, e, m =>
    let r := powMod k (b * b % m) (e / 2) m
    if e % 2 = 1 then r * b % m else r

/-- The inverse modulo a prime. -/
def invMod (a m : Nat) : Nat := powMod 256 (a % m) (m - 2) m

/-- A point of the curve; none is the point at infinity. -/
abbrev EcPoint := Option (Nat × Nat)

/-- The sum of two points. -/
def ecAdd (a b : EcPoint) : EcPoint :=
  match a, b with
  | none, q => q
  | q, none => q
  | some (x1, y1), some (x2, y2) =>
    let p := p256P
    let with_ (l : Nat) : EcPoint :=
      let x3 := (l * l + 2 * p - x1 - x2) % p
      some (x3, (l * (x1 + p - x3) + p - y1) % p)
    if x1 = x2 then
      if (y1 + y2) % p = 0 then none
      else with_ ((3 * x1 * x1 + p - 3) * invMod (2 * y1) p % p)
    else with_ ((y2 + p - y1) * invMod (x2 + p - x1) p % p)

/-- k times a point, over the bits of k. -/
def ecMul : Nat → Nat → EcPoint → EcPoint
  | 0, _, _ => none
  | n + 1, k, q =>
    let r := ecMul n (k / 2) (ecAdd q q)
    if k % 2 = 1 then ecAdd r q else r

/-- Does a signature (r, s) of a digest verify under a public key? -/
def ecdsaOk (x y r s : Nat) (digest : List (BitVec 8)) : Bool :=
  let onCurve := decide (x < p256P) && decide (y < p256P) &&
    decide (y * y % p256P = (x * x * x + (p256P - 3) * x + p256B) % p256P)
  if !onCurve || r == 0 || decide (p256N ≤ r) || s == 0 || decide (p256N ≤ s) then false else
  let w := invMod s p256N
  let u1 := beNat digest * w % p256N
  let u2 := r * w % p256N
  match ecAdd (ecMul 256 u1 (some p256G)) (ecMul 256 u2 (some (x, y))) with
  | none => false
  | some (vx, _) => vx % p256N == r

end Sys2Proof.Machine
end

