-- ==== Sys2Proof/Machine/Usb.lean ====
section
/-! DEFINITION. The USB devices the node presents (14_local_hub.md R306, R316, R327; 15_wide_hub_tunnel.md R349): the local hub, the
management function and the wide hub; their standard requests and descriptors. What the chapters leave to USB 2.0 chapters 9 and 11
is taken from there (PRESUMED, log entry 10). -/

namespace Sys2Proof.Machine

/-- The number of a USB device in the hub's state. -/
def devNum : UsbDev → Nat
  | .hub => 0 | .mgmt => 1 | .wide => 2

/-- A USB device of the node. -/
def Chip.dev (s : Chip) (d : UsbDev) : UsbDevice := s.hub.devs.get {} (devNum d)

/-- Set a USB device. -/
def Chip.setDev (s : Chip) (d : UsbDev) (x : UsbDevice) : Chip := { s with hub := { s.hub with devs := s.hub.devs.put {} (devNum d) x } }

/-- Answer the host. -/
def Chip.answer (s : Chip) (r : UsbReply) : Chip := { s with hub := { s.hub with reply := r } }

/-- Answer with data, cut to the length asked. -/
def Chip.answerData (s : Chip) (l : List (BitVec 8)) (n : Nat) : Chip := s.answer (.data (l.take n))

/-- Is the wide hub on C4 (15_wide_hub_tunnel.md R328)? -/
def Chip.presenting (s : Chip) : Bool := s.flag Reg.WIDE_STAT_PRESENTING

/-- The upstream state of the hub on C4, in the codes of UP_STATE. -/
def Chip.upState (s : Chip) : Nat := if s.presenting then s.hub.wup else s.get Reg.HUB_STAT_UP_STATE

/-- Set it. -/
def Chip.setUpState (s : Chip) (v : Nat) : Chip :=
  if s.presenting then { s with hub := { s.hub with wup := v } } else (s.hubUpState v).tellTerms

/-- The hub on C4. -/
def Chip.upHub (s : Chip) : UsbDev := if s.presenting then .wide else .hub

/-- Does a device take requests: its hub is on C4 and not detached, suspended or in L1; the management function on its enabled port 9
of a configured hub (14_local_hub.md R298, R321)? -/
def Chip.usbOn (s : Chip) (d : UsbDev) : Bool :=
  s.coreUp && decide (1 ≤ s.upState) && decide (s.upState ≤ 3) &&
  (match d with
   | .hub => !s.presenting && s.flag Reg.HUB_STAT_EN
   | .wide => s.presenting
   | .mgmt => s.upState == 3 && bit (s.hp 9).st stEnable && !bit (s.hp 9).st stSuspend && !bit (s.hp 9).st stReset)

/-- A request answered STALL; of the local hub it is counted (R306). -/
def Chip.stalls (s : Chip) (d : UsbDev) : Chip :=
  (if d = .hub then s.inc Reg.HUB_REQ_STALL_CNT else s).answer .stall

/-- A request of a device. -/
def Chip.usbReq (s : Chip) (d : UsbDev) (f : Chip → Chip) : Chip := if s.usbOn d then f s else s

/-! Descriptors (Table HUB-6, Table WIDE-5) -/

/-- Bytes from numbers. -/
def bytesOf (l : List Nat) : List (BitVec 8) := l.map (BitVec.ofNat 8)

/-- A 16-bit little-endian pair. -/
def le2 (n : Nat) : List Nat := [n % 256, n / 256 % 256]

/-- The text of a string as UTF-16 units. -/
def stringDesc (t : List Nat) : List Nat := [2 + 2 * t.length, 3] ++ t.flatMap (fun c => [c, 0])

/-- SYS.ID as 16 upper-case hexadecimal digits. -/
def serialText : List Nat :=
  (List.range 16).map (fun i => let d := uid / 16 ^ (15 - i) % 16; if d < 10 then 48 + d else 55 + d)

/-- "Nyxanko". -/
def textMaker : List Nat := [78, 121, 120, 97, 110, 107, 111]

/-- "FZM-648 node hub". -/
def textHub : List Nat := [70, 90, 77, 45, 54, 52, 56, 32, 110, 111, 100, 101, 32, 104, 117, 98]

/-- "FZM-648 wide hub". -/
def textWide : List Nat := [70, 90, 77, 45, 54, 52, 56, 32, 119, 105, 100, 101, 32, 104, 117, 98]

/-- The identity of a device. -/
def productId : UsbDev → Nat
  | .hub => 0x0648 | .mgmt => 0x0649 | .wide => 0x064A

/-- The hub protocol of the device descriptor at a speed: 2 multi-TT, 0 at full speed. -/
def hubProto (hs : Bool) : Nat := if hs then 2 else 0

/-- The device descriptor. -/
def deviceDesc (d : UsbDev) (hs : Bool) : List Nat :=
  [18, 1] ++ le2 0x0210 ++ (if d = .mgmt then [0, 0, 0] else [9, 0, hubProto hs]) ++ [64] ++ le2 0x2E6B ++ le2 (productId d)
    ++ le2 0x00B0 ++ (if d = .mgmt then [0, 0, 0] else [1, 2, 3]) ++ [1]

/-- The device qualifier, for the other speed. -/
def qualifierDesc (d : UsbDev) (hs : Bool) : List Nat :=
  [10, 6] ++ le2 0x0210 ++ (if d = .mgmt then [0, 0, 0] else [9, 0, hubProto (!hs)]) ++ [64, 1, 0]

/-- Bytes of the status-change bitmap: of the wide hub one bit per port and the hub's. -/
def Chip.changeBytes (s : Chip) (d : UsbDev) : Nat := if d = .wide then (s.get Reg.WIDE_CFG_NPORTS + 1 + 7) / 8 else 2

/-- One alternate setting of a hub with its endpoint. -/
def hubAlt (alt proto size interval : Nat) : List Nat :=
  [9, 4, 0, alt, 1, 9, 0, proto, 0] ++ [7, 5, 0x81, 3] ++ le2 size ++ [interval]

/-- The configuration descriptor with all it holds; `kind` is 2, or 7 for the other speed. -/
def Chip.configDesc (s : Chip) (d : UsbDev) (kind : Nat) (hs : Bool) : List Nat :=
  let bulk := if hs then 512 else 64
  let body := if d = .mgmt then
      [9, 4, 0, 0, 3, 0xFF, 1, 1, 0] ++ [7, 5, 0x01, 2] ++ le2 bulk ++ [0] ++ [7, 5, 0x82, 2] ++ le2 bulk ++ [0] ++ [7, 5, 0x83, 3] ++ le2 64 ++ [1]
    else if hs then hubAlt 0 1 (s.changeBytes d) 12 ++ hubAlt 1 2 (s.changeBytes d) 12
    else hubAlt 0 0 (s.changeBytes d) 255
  [9, kind] ++ le2 (9 + body.length) ++ [1, 1, 0, 0xE0, 0] ++ body

/-- The BOS descriptor: USB 2.0 Extension with LPM, BESL, baseline 4 and deep 10; Container ID. -/
def bosDesc : List Nat :=
  [5, 15] ++ le2 32 ++ [2] ++ [7, 16, 2, 0x1E, 0xA4, 0, 0] ++ [20, 16, 4, 0] ++ (List.range 8).map (fun i => uid / 256 ^ i % 256)
    ++ [0x48, 0x06, 0x6B, 0x2E, 0, 0, 0, 0]

/-- The hub descriptor. -/
def Chip.hubDesc (s : Chip) (d : UsbDev) : List Nat :=
  if d = .wide then
    let n := s.get Reg.WIDE_CFG_NPORTS
    let k := (n + 1 + 7) / 8
    [7 + 2 * k, 0x29, n, 0x6D, 0, 50, 0, 2] ++ List.replicate (k - 1) 0 ++ List.replicate k 255
  else [11, 0x29, 9, 0x0D, 0, 20, 0, 0, 2, 255, 255]

/-- A descriptor by type and index; none where the device has none. -/
def Chip.descriptor (s : Chip) (d : UsbDev) (kind index : Nat) : Option (List Nat) :=
  let hs := s.flag Reg.HUB_STAT_HS
  match kind with
  | 1 => some (deviceDesc d hs)
  | 2 => if index = 0 then some (s.configDesc d 2 hs) else none
  | 3 =>
    if d = .mgmt then none else
    match index with
    | 0 => some [4, 3, 9, 4]
    | 1 => some (stringDesc textMaker)
    | 2 => some (stringDesc (if d = .wide then textWide else textHub))
    | 3 => some (stringDesc serialText)
    | _ => none
  | 6 => some (qualifierDesc d hs)
  | 7 => if index = 0 then some (s.configDesc d 7 (!hs)) else none
  | 15 => some bosDesc
  | _ => none

/-! Standard requests -/

/-- Has a device the endpoint of this wIndex? -/
def hasEp (d : UsbDev) (x : Nat) : Bool :=
  x == 0 || x == 0x80 || (if d = .mgmt then x == 0x01 || x == 0x82 || x == 0x83 else x == 0x81)

/-- The number of an endpoint in the halt and toggle masks. -/
def epBit (x : Nat) : Nat := x % 16 + (if 128 ≤ x then 16 else 0)

/-- GET_STATUS. -/
def Chip.getStatus (s : Chip) (d : UsbDev) (rcp : Recipient) (x : Nat) : Chip :=
  match rcp with
  | .device => s.answer (.data (bytesOf [1 + (if (s.dev d).rwake then 2 else 0), 0]))
  | .interface => if x = 0 ∧ (s.dev d).config ≠ 0 then s.answer (.data (bytesOf [0, 0])) else s.stalls d
  | .endpoint => if hasEp d x then s.answer (.data (bytesOf [b2n (bit (s.dev d).halts (epBit x)), 0])) else s.stalls d
  | .other => s.stalls d

/-- Show DEVICE_REMOTE_WAKEUP of the local hub. -/
def Chip.showRwake (s : Chip) : Chip := s.putB Reg.HUB_STAT_RWAKE_EN (s.dev .hub).rwake

/-- CLEAR_FEATURE: DEVICE_REMOTE_WAKEUP of a device, ENDPOINT_HALT of an endpoint, whose toggle returns to DATA0 (R316). -/
def Chip.clearFeature (s : Chip) (d : UsbDev) (rcp : Recipient) (sel x : Nat) : Chip :=
  let v := s.dev d
  match rcp with
  | .device => if sel = 1 then ((s.setDev d { v with rwake := false }).showRwake).answer .ack else s.stalls d
  | .endpoint =>
    if sel = 0 ∧ hasEp d x then
      (s.setDev d { v with halts := clrBit v.halts (epBit x), toggles := clrBit v.toggles (epBit x) }).answer .ack
    else s.stalls d
  | _ => s.stalls d

/-- SET_FEATURE: DEVICE_REMOTE_WAKEUP, TEST_MODE 1 to 5 of the upstream port, ENDPOINT_HALT. -/
def Chip.setFeature (s : Chip) (d : UsbDev) (rcp : Recipient) (sel x : Nat) : Chip :=
  let v := s.dev d
  match rcp with
  | .device =>
    if sel = 1 then ((s.setDev d { v with rwake := true }).showRwake).answer .ack
    else if sel = 2 ∧ d ≠ .mgmt ∧ x % 256 = 0 ∧ 1 ≤ x / 256 ∧ x / 256 ≤ 5 then
      ({ s with hub := { s.hub with upTest := x / 256 } }).answer .ack
    else s.stalls d
  | .endpoint =>
    if sel = 0 ∧ hasEp d x then (s.setDev d { v with halts := setBit v.halts (epBit x) }).answer .ack else s.stalls d
  | _ => s.stalls d

/-- SET_ADDRESS. -/
def Chip.setAddress (s : Chip) (d : UsbDev) (a : Nat) : Chip :=
  let s := (s.setDev d { s.dev d with addr := a }).answer .ack
  if d = .mgmt ∨ s.upState = 3 then s else s.setUpState (if a = 0 then 1 else 2)

/-- Every port of the hub leaves its state for powered-off (R320, Table HUB-8 at DISABLE). -/
def Chip.portsOff (s : Chip) : Chip :=
  s.each [1, 2, 3, 4, 5, 6, 7, 8, 9] (fun s p => if s.tunnelled p then s else (s.setHp p { s.hp p with test := 0 }).portPowerOff p)

/-- The management function leaves its configuration: a reset or loss of power of port 9. -/
def Chip.mgmtReset (s : Chip) : Chip := s.setDev .mgmt {}

/-- SET_CONFIGURATION: 1 configures, 0 returns to the address state, whose hub has its ports powered off until R302 powers them;
toggles return to DATA0 (R316). -/
def Chip.setConfiguration (s : Chip) (d : UsbDev) (v : Nat) : Chip :=
  if 1 < v then s.stalls d else
  let s := (s.setDev d { s.dev d with config := v, toggles := 0, halts := 0, alt := 0 }).answer .ack
  match d with
  | .mgmt => s
  | .wide => s.setUpState (if v = 1 then 3 else 2)
  | .hub =>
    let s := s.put Reg.HUB_STAT_ALT 0
    if v = 1 then s.hubUpState 3
    else (((s.portsOff.mgmtReset).hubUpState 2).hubAuto).tellTerms

/-- GET_INTERFACE. -/
def Chip.getInterface (s : Chip) (d : UsbDev) (x : Nat) : Chip :=
  if x = 0 ∧ (s.dev d).config ≠ 0 then s.answer (.data (bytesOf [(s.dev d).alt])) else s.stalls d

/-- SET_INTERFACE (R310, R316): alternate setting 0 single-TT, 1 multi-TT; of a hub at full speed, and of the management function,
there is but setting 0. -/
def Chip.setInterface (s : Chip) (d : UsbDev) (x alt : Nat) : Chip :=
  if x ≠ 0 ∨ (s.dev d).config = 0 ∨ 1 < alt ∨ (alt = 1 ∧ (d = .mgmt ∨ !s.flag Reg.HUB_STAT_HS)) then s.stalls d else
  let s := (s.setDev d { s.dev d with alt := alt, toggles := 0, halts := 0 }).answer .ack
  if d = .hub then s.put Reg.HUB_STAT_ALT alt else s

end Sys2Proof.Machine
end

