-- ==== Sys2Proof/Machine/Hub.lean ====
section
/-! DEFINITION. The local hub: its port requests, translators, microframes, suspend and LPM (14_local_hub.md R298 to R320). -/

namespace Sys2Proof.Machine

/-! Port requests -/

/-- A hub-class request for port p of the local hub: answered while the hub is configured and has the port (R306). -/
def Chip.portReq (s : Chip) (p : Nat) (f : Chip → Chip) : Chip :=
  s.usbReq .hub (fun s => if s.upState ≠ 3 ∨ p = 0 ∨ 9 < p then s.stalls .hub else f s)

/-- Does SetPortFeature to port p answer STALL (R303, R304)? -/
def Chip.portShut (s : Chip) (p : Nat) : Bool := s.tunnelled p || s.occPort p

/-- The device on internal port 9 is found at once: the management function (R298). -/
def Chip.mgmtAttach (s : Chip) : Chip :=
  if (s.hp 9).conn.isNone then s.portConnect 9 (if s.flag Reg.HUB_STAT_HS then .high else .full) else s

/-- PORT_POWER set on a port, whoever asks (R300, R301). -/
def Chip.powerUp (s : Chip) (p : Nat) : Chip :=
  if s.lockedOff p then s else
  let s := (s.setHp p { s.hp p with tripped := false, fenced := false }).portPowerOn p
  (if p = 9 then s.mgmtAttach else s).tellTerms

/-- PORT_POWER cleared (R300). -/
def Chip.powerDown (s : Chip) (p : Nat) : Chip :=
  let s := s.portPowerOff p
  (if p = 9 then s.mgmtReset else s).tellTerms

/-- A port reset begins (R308, R320): at once, whatever resume or L1 exit runs; of a port with nothing connected it does nothing. -/
def Chip.resetBegin (s : Chip) (p : Nat) : Chip :=
  let x := s.hp p
  if !bit x.st stConn then s else
  let st := setBit (clrBit (clrBit (clrBit x.st stEnable) stSuspend) stL1) stReset
  let s := (s.setHp p { x with phase := 1, since := s.ct.toNat }).setSt p st
  if p = 9 then s.mgmtReset else s

/-- The reset of port p ends: the port is enabled at the speed it has found (R308). -/
def Chip.resetDone (s : Chip) (p : Nat) (v : UsbSpeed) : Chip :=
  let x := s.hp p
  let v := if p = 9 then (if s.flag Reg.HUB_STAT_HS then .high else .full) else v
  let st := clrBit (clrBit (clrBit x.st stReset) stLow) stHigh
  ((s.setHp p { x with phase := 0, conn := some v }).setSt p (setBit st stEnable + speedBits v)).portChange p .reset

/-- PORT_RESET_END (R308): 15 ms after it began. -/
def Chip.resetEnd (s : Chip) (p : Nat) (v : UsbSpeed) : Chip :=
  if (s.hp p).phase ≠ 1 then s else (s.timeTo ((s.hp p).since + 15000000)).resetDone p v

/-- PORT_SUSPEND set: an enabled port suspends. -/
def Chip.suspendPort (s : Chip) (p : Nat) : Chip :=
  let x := s.hp p
  if bit x.st stEnable && !bit x.st stSuspend && x.phase == 0 then s.setSt p (setBit x.st stSuspend) else s

/-- PORT_SUSPEND cleared: a suspended port begins its resume (R318). -/
def Chip.resumePort (s : Chip) (p : Nat) : Chip :=
  let x := s.hp p
  if bit x.st stSuspend && x.phase == 0 then s.setHp p { x with phase := 2, since := s.ct.toNat } else s

/-- The resume of port p ends (R318). -/
def Chip.resumeDone (s : Chip) (p : Nat) : Chip :=
  let x := s.hp p
  (((s.setHp p { x with phase := 0 }).setSt p (clrBit x.st stSuspend)).inc Reg.HUB_RESUME_CNT).portChange p .suspend

/-- PORT_RESUME_END (R318, R320): 20 ms after the resume began. -/
def Chip.resumeEnd (s : Chip) (p : Nat) : Chip :=
  if (s.hp p).phase ≠ 2 then s else (s.timeTo ((s.hp p).since + 20000000)).resumeDone p

/-- PORT_L1 cleared: the exit begins (R319). -/
def Chip.l1Exit (s : Chip) (p : Nat) : Chip :=
  let x := s.hp p
  if bit x.st stL1 && x.phase == 0 then s.setHp p { x with phase := 3, since := s.ct.toNat } else s

/-- The resume time a BESL code stands for, in ns (the codes of the USB 2.0 LPM ECN's errata: PRESUMED, log entry 10). -/
def beslTime (b : Nat) : Nat := 1000 * [125, 150, 200, 300, 400, 500].getD b (1000 * (b - 5))

/-- L1_EXIT_END (R319): once K has been driven for the resume time of the accepted token. -/
def Chip.l1End (s : Chip) (p : Nat) : Chip :=
  let x := s.hp p
  if x.phase ≠ 3 then s else
  let s : Chip := s.timeTo (x.since + beslTime x.besl)
  ((s.setHp p { x with phase := 0 }).setSt p (clrBit x.st stL1)).portChange p .l1

/-- DEVICE_REMOTE_WAKE (R317, R318, R320). -/
def Chip.deviceWake (s : Chip) (p : Nat) : Chip :=
  let x := s.hp p
  if bit x.st stSuspend then (s.resumePort p).hubWake else if bit x.st stL1 then s.l1Exit p else s

/-- PORT_L1_ENTRY (R319): ports 1 to 8. -/
def Chip.l1Entry (s : Chip) (p besl : Nat) : Chip :=
  let x := s.hp p
  if 1 ≤ p && p ≤ 8 && bit x.st stEnable && !bit x.st stSuspend && !bit x.st stL1 && x.phase == 0 then
    (s.setHp p { x with besl := besl }).setSt p (setBit x.st stL1)
  else s

/-- GetPortStatus (R306). -/
def Chip.portStatus (s : Chip) (p : Nat) : Chip :=
  s.portReq p (fun s => s.answer (.data (bytesOf (le2 (s.get (Reg.HUB_PORT_STAT_STATUS p)) ++ le2 (s.get (Reg.HUB_PORT_STAT_CHANGE p))))))

/-- SetPortFeature with an action: STALL on a tunnelled port and on one under test. -/
def Chip.setPort (s : Chip) (p : Nat) (f : Chip → Chip) : Chip :=
  s.portReq p (fun s => if s.portShut p then s.stalls .hub else (f s).answer .ack)

/-- ClearPortFeature with an action; on a tunnelled port it is accepted and leaves the port to the wide hub (DESIGN CHOICE, log entry 46:
R303 says STALL of SetPortFeature alone). -/
def Chip.clearPort (s : Chip) (p : Nat) (f : Chip → Chip) : Chip :=
  s.portReq p (fun s => (if s.tunnelled p then s else f s).answer .ack)

/-- SetPortFeature(PORT_TEST) (R307). -/
def Chip.testPort (s : Chip) (p mode : Nat) : Chip :=
  s.portReq p (fun s =>
    let st := fun q => s.get (Reg.HUB_PORT_STAT_STATUS q)
    let others := [1, 2, 3, 4, 5, 6, 7, 8, 9].any (fun q => q != p && bit (st q) stEnable && !bit (st q) stSuspend)
    if s.portShut p ∨ p = 9 ∨ mode = 0 ∨ 5 < mode ∨ others then s.stalls .hub
    else ((s.setHp p { s.hp p with test := mode }).setSt p (setBit (s.hp p).st stTest)).answer .ack)

/-- ClearPortFeature of a change bit; it acts on a tunnelled port as well, whose C_PORT_CONNECTION the local host still sees (R303). -/
def Chip.clearChange (s : Chip) (p : Nat) (c : PortChange) : Chip :=
  s.portReq p (fun s => (s.put (Reg.HUB_PORT_STAT_CHANGE p) (clrBit (s.get (Reg.HUB_PORT_STAT_CHANGE p)) (changeBit c))).answer .ack)

/-! Translators (R310 to R312) -/

/-- The ports whose translator counts as one with port p's: all eight in single-TT operation, of those the local hub serves (R310). -/
def Chip.ttPorts (s : Chip) (p : Nat) : List Nat :=
  if s.flag Reg.HUB_STAT_ALT || s.tunnelled p then [p] else [1, 2, 3, 4, 5, 6, 7, 8].filter (fun q => !s.tunnelled q)

/-- A TT request for a port: ports 1 to 8. -/
def Chip.ttReq (s : Chip) (p : Nat) (f : Chip → Chip) : Chip :=
  s.portReq p (fun s => if p = 9 then s.stalls .hub else if s.tunnelled p then s.answer .ack else f s)

/-- ClearTTBuffer. -/
def Chip.ttClear (s : Chip) (p : Nat) (ep : TtEndpoint) : Chip :=
  s.each (s.ttPorts p) (fun s q => s.setHp q { s.hp q with bufs := (s.hp q).bufs.filter (fun b => b.ep != ep) })

/-- ResetTT. -/
def Chip.ttReset (s : Chip) (p : Nat) : Chip :=
  s.each (s.ttPorts p) (fun s q => s.setHp q { s.hp q with bufs := [], per := [], bytes := 0, stopped := false })

/-- StopTT. -/
def Chip.ttStop (s : Chip) (p : Nat) : Chip := s.each (s.ttPorts p) (fun s q => s.setHp q { s.hp q with stopped := true })

/-- Can port p's translator take a split of its hub: an enabled port with a full- or low-speed device, not suspended? -/
def Chip.ttLive (s : Chip) (p : Nat) : Bool :=
  decide (1 ≤ p) && decide (p ≤ 8) && bit (s.hp p).st stEnable && !bit (s.hp p).st stSuspend && !bit (s.hp p).st stL1 &&
    !bit (s.hp p).st stHigh

/-- A periodic start-split at a translator (R311). A stopped translator takes none; the spec says nothing of one then, and it is held as
discarded and not counted (DESIGN CHOICE, log entry 46). -/
def Chip.periodicAt (s : Chip) (p : Nat) (ep : TtEndpoint) (n : Nat) : Chip :=
  let qs := s.ttPorts p
  let held := (qs.flatMap (fun q => (s.hp q).per)).countP (fun e => e.ok && e.age == 0)
  let used := qs.foldl (fun t q => t + (s.hp q).bytes) 0
  let x := s.hp p
  if x.stopped then s.setHp p { x with per := x.per ++ [⟨ep, false, 0⟩] }
  else if held < 16 ∧ used + n ≤ 1350 then
    s.setHp p { x with per := x.per ++ [⟨ep, true, 0⟩], bytes := x.bytes + n }
  else (s.setHp p { x with per := x.per ++ [⟨ep, false, 0⟩] }).inc (Reg.HUB_TT_DROP_CNT p)

/-- PERIODIC_START_SPLIT of the local hub. -/
def Chip.periodicStart (s : Chip) (p : Nat) (ep : TtEndpoint) (n : Nat) : Chip :=
  if s.usbOn .hub && s.upState == 3 && !s.tunnelled p && s.ttLive p then s.periodicAt p ep n else s

/-- A non-periodic start-split (R312): a buffer of its endpoint or a free one, else NAK. -/
def Chip.nonperiodicStart (s : Chip) (p : Nat) (ep : TtEndpoint) (data : List (BitVec 8)) : Chip :=
  if !(s.usbOn .hub && s.upState == 3 && !s.tunnelled p && s.ttLive p) then s else
  let qs := s.ttPorts p
  let others := (qs.flatMap (fun q => (s.hp q).bufs)).countP (fun b => b.ep != ep)
  let x := s.hp p
  if x.stopped ∨ 2 ≤ others then s.answer .nak
  else (s.setHp p { x with bufs := (x.bufs.filter (fun b => b.ep != ep)) ++ [⟨ep, data⟩] }).answer .ack

/-- What a device's reply is to the host. -/
def replyOf : DevReply → UsbReply
  | .ack => .ack | .nak => .nak | .stall => .stall | .err => .err
  | .data _ b => .data b

/-- COMPLETE_SPLIT (R311, R312): the outcome of the endpoint's transaction; ERR for one that was discarded or that the translator
does not hold. -/
def Chip.completeSplit (s : Chip) (p : Nat) (ep : TtEndpoint) (o : DevReply) : Chip :=
  if !(s.usbOn .hub && s.upState == 3 && !s.tunnelled p && s.ttLive p) then s else
  let x := s.hp p
  match x.per.find? (fun e => e.ep == ep) with
  | some e =>
    let s := s.setHp p { x with per := x.per.erase e }
    s.answer (if e.ok then replyOf o else .err)
  | none =>
    if x.bufs.any (fun b => b.ep == ep) then
      (s.setHp p { x with bufs := x.bufs.filter (fun b => b.ep != ep) }).answer (replyOf o)
    else s.answer .err

/-! Microframes (R314) -/

/-- The hub's side of an SOF: frame and microframe, chain time, and the lock. Two SOFs within one microframe of each other are at most
125 us and the 500 ppm of USB 2.0 apart (PRESUMED, log entry 10). -/
def Chip.hubSof (s : Chip) (frame : Nat) : Chip :=
  let now := s.ct.toNat
  let same := s.get Reg.HUB_SOF_FRAME == frame && s.flag Reg.HUB_STAT_HS && s.hub.lastSof != 0
  let s := s.put Reg.HUB_SOF_UFRAME (if same then (s.get Reg.HUB_SOF_UFRAME + 1) % 8 else 0)
  let s := s.put Reg.HUB_SOF_FRAME frame
  let s := if s.hub.lastSof ≠ 0 ∧ now + 1 ≤ s.hub.lastSof + 125063 then s.put Reg.HUB_SOF_LOCK 1 else s
  let s := { s with hub := { s.hub with lastSof := now + 1 } }
  (s.put Reg.HUB_SOF_TIME_LO now).put Reg.HUB_SOF_TIME_HI (now / 2 ^ 32)

/-- A microframe of port p's translator passes: entries age, and a frame's byte times end with it (R311). -/
def Chip.ttTick (s : Chip) (p : Nat) (newFrame : Bool) : Chip :=
  let x := s.hp p
  let per := (x.per.map (fun e => { e with age := e.age + 1 })).filter (fun e => decide (e.age ≤ 8))
  s.setHp p { x with per := per, bytes := if newFrame then 0 else x.bytes }

/-- The hub's microframe timer (R314): it runs on at its last period when SOFs stop. -/
def Chip.hubTick (s : Chip) : Chip :=
  if !s.flag Reg.HUB_SOF_LOCK || s.upState == 4 || s.upState == 0 then s else
  let s := if s.hub.lastSof + 187500 ≤ s.ct.toNat then
      let u := (s.get Reg.HUB_SOF_UFRAME + 1) % 8
      let s := s.put Reg.HUB_SOF_UFRAME u
      if u = 0 then s.put Reg.HUB_SOF_FRAME (s.get Reg.HUB_SOF_FRAME + 1) else s
    else s
  let f := s.get Reg.HUB_SOF_UFRAME == 0
  s.each [1, 2, 3, 4, 5, 6, 7, 8] (fun s p => if s.tunnelled p then s else s.ttTick p f)

/-! Upstream (R317 to R320) -/

/-- UPSTREAM_SUSPEND (R317). -/
def Chip.upSuspend (s : Chip) : Chip :=
  if s.coreUp && decide (1 ≤ s.upState) && decide (s.upState ≤ 3) then
    ({ s with hub := { s.hub with upPrev := s.upState } }).setUpState 4
  else s

/-- HUB_REMOTE_WAKE (R317). -/
def Chip.remoteWake (s : Chip) : Chip :=
  if s.coreUp && s.hub.wakeDue && s.upState == 4 then { s with hub := { s.hub with waking := true, wakeDue := false } } else s

/-- UPSTREAM_RESUME (R317, R320): a host resume meets a remote wake of the hub as one resume. -/
def Chip.upResume (s : Chip) : Chip :=
  if s.coreUp && (s.upState == 4 || s.upState == 5) then
    let s := if s.upState = 4 then s.inc Reg.HUB_RESUME_CNT else s
    let s := { s with hub := { s.hub with waking := false, wakeDue := false } }
    s.setUpState s.hub.upPrev
  else s

/-- Forget what a bus reset of the upstream port ends (R320). -/
def Chip.hubDefault (s : Chip) : Chip :=
  let s := (s.portsOff).each [1, 2, 3, 4, 5, 6, 7, 8, 9] (fun s p => s.put (Reg.HUB_PORT_STAT_CHANGE p) 0)
  let s := (s.setDev .hub {}).mgmtReset
  { s with hub := { s.hub with waking := false, wakeDue := false, upTest := 0 } }

/-- UPSTREAM_BUS_RESET of the local hub (R320). -/
def Chip.hubBusReset (s : Chip) (hs : Bool) : Chip :=
  let s := (((s.hubDefault).putB Reg.HUB_STAT_HS hs).put Reg.HUB_STAT_ALT 0).put Reg.HUB_STAT_RWAKE_EN 0
  ((s.hubUpState 1).hubAuto).tellTerms

/-- Is every downstream port of the local hub suspended, in L1, disabled or unconnected (R319)? -/
def Chip.portsQuiet (s : Chip) : Bool :=
  [1, 2, 3, 4, 5, 6, 7, 8, 9].all (fun p =>
    let st := s.get (Reg.HUB_PORT_STAT_STATUS p)
    !bit st stConn || !bit st stEnable || bit st stSuspend || bit st stL1)

/-- The hub on C4 takes an LPM token (R319); `quiet` says whether its ports allow it. No response waits: the model answers each request
at once (log entry 15). -/
def Chip.lpm (s : Chip) (quiet : Bool) (besl : Nat) : Chip :=
  if !(s.coreUp && decide (1 ≤ s.upState) && decide (s.upState ≤ 3)) then s
  else if quiet && s.evt.mq.isEmpty then
    (({ s with hub := { s.hub with upPrev := s.upState, besl := besl } }).setUpState 5).answer .ack
  else s.answer .nyet

/-- An IN to the status-change endpoint (R315). -/
def Chip.statusIn (s : Chip) : Chip :=
  if !(s.usbOn .hub && s.upState == 3) then s
  else if bit (s.dev .hub).halts 17 then s.answer .stall
  else
    let v := [1, 2, 3, 4, 5, 6, 7, 8, 9].foldl (fun m p => if s.get (Reg.HUB_PORT_STAT_CHANGE p) = 0 then m else m + 2 ^ p) 0
    if v = 0 then s.answer .nak else s.answer (.data (bytesOf (le2 v)))

/-! Events at the ports, and CTL -/

/-- PORT_CONNECT_CHANGE (R299, R308, R320): a powered port whose supply and pair are in service. -/
def Chip.connectChange (s : Chip) (p : Nat) (connected : Bool) (v : UsbSpeed) : Chip :=
  if !s.coreUp || p == 0 || p == 9 || s.occPort p then s
  else if !connected then (if (s.hp p).conn.isSome then s.portGone p else s)
  else if s.portPowered p && (s.hp p).conn.isNone && (decide (5 ≤ p) || (s.cuff (p - 1)).pair) then s.portConnect p v
  else s

/-- PORT_BABBLE (R309). -/
def Chip.babble (s : Chip) (p : Nat) : Chip :=
  if s.coreUp && p != 0 && bit (s.hp p).st stEnable then s.portError p else s

/-- HUB.CTL.ENABLE. -/
def Chip.hubEnable (s : Chip) : Did := (((s.put Reg.HUB_STAT_EN 1).hubAuto).tellTerms).ok

/-- HUB.CTL.DISABLE: it detaches, and every downstream port loses power. -/
def Chip.hubDisable (s : Chip) : Did :=
  let s := (s.put Reg.HUB_STAT_EN 0).hubDefault
  (((s.put Reg.HUB_STAT_RWAKE_EN 0).hubUpState 0).tellTerms).ok

/-- HUB.CTL.RWAKE (R317, Table HUB-8). -/
def Chip.hubRwake (s : Chip) (r : Nat) : Did :=
  if s.get Reg.HUB_STAT_UP_STATE = 4 ∧ s.flag Reg.HUB_STAT_RWAKE_EN then ({ s with hub := { s.hub with wakeDue := true } }).ok
  else s.no r 9 0 0x04

end Sys2Proof.Machine
end

