-- ==== Sys2Proof/Machine/Test.lean ====
section
/-! DEFINITION. Stitch test, self-test and the TAP (23_stitch_test_and_bist.md R485 to R496). -/

namespace Sys2Proof.Machine

/-- Does a test's scope lie on the field die: the high-voltage inputs, Cuffs, harness ports with their supply, measurement and
driver logic (DEDUCED)? -/
def fieldScope (kind scope : Nat) : Bool :=
  (kind == 1 && decide (4 ≤ scope)) || (kind == 3 && decide (6 ≤ scope))

/-- Is a test's scope one of Table TEST-2? -/
def scopeOk (kind scope : Nat) : Bool :=
  match kind with | 1 => decide (scope ≤ 13) | 2 => decide (scope ≤ 1) | 3 => decide (scope ≤ 12) | _ => false

/-- The Cuff in a test's scope. -/
def scopeCuff (kind scope : Nat) : Option Nat :=
  if kind = 1 ∧ 5 ≤ scope ∧ scope ≤ 9 then some (scope - 5) else if kind = 3 ∧ 8 ≤ scope ∧ scope ≤ 12 then some (scope - 8) else none

/-- The supply condition of R485. -/
def Chip.supplyOk (s : Chip) : Bool := s.flag Reg.TEST_STAT_VCORE_OK

/-- The clock condition of R485: the PLL locked and FREQ within 200 ppm. -/
def Chip.clockOk (s : Chip) : Bool :=
  s.flag Reg.CLK_STATUS_CORE_LOCK && s.get Reg.CLK_FREQ != 0x8000 &&
    decide (-2000 ≤ signed 16 (s.get Reg.CLK_FREQ)) && decide (signed 16 (s.get Reg.CLK_FREQ) ≤ 2000)

/-- The reason a GO is refused with, 0 where the test may start (Table TEST-1): the first that applies. -/
def Chip.testRefusal (s : Chip) (kind scope : Nat) (force : Bool) : Nat :=
  if !s.supplyOk then 1
  else if !s.clockOk then 2
  else if fieldScope kind scope && !s.seamUp then 3
  else if !scopeOk kind scope || s.test.landsTaken ||
      (kind == 3 && decide (scope < 4) && (List.range 8).any (fun i => s.engState (8 * scope + i) != 0)) ||
      (kind == 3 && (scope == 4 || scope == 5) && s.flag (Reg.CAN_STAT_EN (scope - 4))) then 4
  else if (match scopeCuff kind scope with | some c => s.flag (Reg.CUFF_STAT_CONTRACT c) && !force | none => false) then 5
  else if kind = 2 then
    if !s.linkActive scope || s.get (Reg.LINK_STAT_WIDTH scope) != 1 then 6
    else if !later s.test.nbCycle (s.get Reg.CLK_CYC_NUM + 1) then 7 else 0
  else 0

/-- Units newly occupied, or free again, bring what they show up to date. -/
def Chip.occShow (s : Chip) : Chip := ((s.hubAuto.tellTerms).drvSettle).fuseSettle

/-- A Cuff in scope that holds a contract goes to Disabled (R378). -/
def Chip.cuffForced (s : Chip) (c : Nat) : Chip := if s.lvB (Reg.CUFF_STAT_CONTRACT c) then s.cuffOff c else s

/-- TEST.GO (R486, R488). -/
def Chip.testGo (s : Chip) (r kind scope : Nat) (force : Bool) : Did :=
  if s.flag Reg.TEST_STAT_BUSY then s.no r 18 0 0x04 else
  let why := s.testRefusal kind scope force
  if why ≠ 0 then (s.put Reg.TEST_REFUSE why).no r 18 0 0x04 else
  let s := { s with test := { s.test with run := some ⟨kind, scope, force⟩, prbs := false, since := s.ct.toNat } }
  let s := (s.put Reg.TEST_STAT_BUSY 1).testZero kind
  let s := if kind = 2 then s.putB Reg.TEST_NB_STAT_END (!s.linkTailward scope) else s
  let s := match scopeCuff kind scope with | some c => s.cuffForced c | none => s
  s.occShow.ok

/-- A Cuff is released: from Disabled, and after its logic was tested, it starts from ErrorRecovery (R378, R494). -/
def Chip.cuffFreed (s : Chip) (c : Nat) (always : Bool) : Chip :=
  if s.flag (Reg.CUFF_STAT_EN c) && (always || s.tc c == 0) then s.tcEnter c 1 else s

/-- A controller whose logic was tested stands disabled as at reset; its message RAM keeps its contents (R494). -/
def Chip.canFresh (s : Chip) (c : Nat) : Chip :=
  let s := s.each (List.range 8) (fun s t => s.put (Reg.CAN_TXSTAT c t) 0)
  ((s.put (Reg.CAN_STAT_STATE c) 3).put (Reg.CAN_STAT_TEC c) 0).put (Reg.CAN_STAT_REC c) 0

/-- The units a test released stand as R494 says. -/
def Chip.testFreed (s : Chip) (kind scope : Nat) : Chip :=
  let s := if kind = 3 ∧ scope < 4 then s.each (List.range 8) (fun s i => s.engClear (8 * scope + i))
    else if kind = 3 ∧ scope < 6 then s.canFresh (scope - 4)
    else if kind = 3 ∧ scope = 6 then { s with meas := { s.meas with stopped := 7 } }
    else match scopeCuff kind scope with
      | some c => s.cuffFreed c (kind == 3)
      | none => s
  s.occShow

/-- A running test ends ABORTED with a cause (R487): its occupancy is released at once, its results read zero. -/
def Chip.testCut (s : Chip) (cause : Nat) : Chip :=
  match s.test.run with
  | none => s
  | some t => ((s.testZero t.kind).testOver 4 cause).testFreed t.kind t.scope

/-- TEST.ABORT.GO (R487). -/
def Chip.testAbortGo (s : Chip) : Did := (s.testCut 5).ok

/-- How long a pin stitch or a logic BIST takes, in ns (Table TEST-2). -/
def testSpan (kind scope : Nat) : Nat :=
  if kind = 1 then (if scope ≤ 4 then 320000 else if scope ≤ 9 then 80000 else 40000)
  else if scope < 4 then 4000000 else if scope < 6 then 2000000 else 10000000

/-- A neighbour test whose cycle C runs comes to a chain time after its mark, where it has not passed (R492). -/
def Chip.nbTime (s : Chip) (ns : Nat) : Chip :=
  if s.get Reg.CLK_CYC_NUM = s.test.nbCycle then s.timeTo (s.clk.markNs + ns) else s

/-- Has cycle C of the neighbour test begun (R6, R492)? -/
def Chip.nbBegun (s : Chip) : Bool := !later s.test.nbCycle (s.get Reg.CLK_CYC_NUM)

/-- TEST_DONE (R490 to R494), at the end of the test's span. -/
def Chip.testDone (s : Chip) (o : TestObs) : Chip :=
  match s.test.run with
  | none => s
  | some t =>
    if !s.coreUp then s else
    match t.kind with
    | 1 =>
      let s : Chip := s.timeTo (s.test.since + testSpan 1 t.scope)
      let s := (s.put Reg.TEST_PIN_RES_STUCK o.stuck.toNat).put Reg.TEST_PIN_RES_SHORT o.short.toNat
      (s.testOver (if o.stuck = 0 ∧ o.short = 0 then 1 else 2) 0).testFreed 1 t.scope
    | 2 =>
      if !s.nbBegun then s else
      let s : Chip := s.nbTime 110000
      let s := ((s.putB Reg.TEST_NB_STAT_LOCK o.lock).putB Reg.TEST_NB_STAT_INV (o.lock && o.inv)).put Reg.TEST_NB_ERR
        (if o.lock then o.errors.toNat else 0)
      s.testOver (if !o.lock then 3 else if o.errors = 0 then 1 else 2) 0
    | _ =>
      let s : Chip := s.timeTo (s.test.since + testSpan 3 t.scope)
      let s := s.put Reg.TEST_LBIST_SIG o.sig.toNat
      (s.testOver (if o.sig = Sys2Proof.Config.lbistReference t.scope then 1 else 2) 0).testFreed 3 t.scope

/-- The flasks whose units a test occupies: an engine's own, a Cuff's, a harness port's, of a controller, measurement, the
drivers, a Gleshline port (Table NODE-2). -/
def testFlasks (kind scope : Nat) : List Nat :=
  match kind with
  | 1 => if 5 ≤ scope ∧ scope ≤ 9 then [27 + scope] else if 10 ≤ scope ∧ scope ≤ 13 then [27 + scope] else []
  | 2 => [41 + scope]
  | 3 =>
    if scope < 4 then (List.range 8).map (fun i => 8 * scope + i)
    else if scope < 6 then [39 + scope]
    else if scope = 6 then [45, 46, 47] else if scope = 7 then [48, 49, 50] else [24 + scope]
  | _ => []

/-- A fence of flask f ends a test that occupies a unit of it (R487, cause 3). -/
def Chip.testFence (s : Chip) (f : Nat) : Chip :=
  match s.test.run with
  | some t => if (testFlasks t.kind t.scope).contains f then s.testCut 3 else s
  | none => s

/-- Seam loss ends a test on the field die (R487, cause 4). -/
def Chip.testSeam (s : Chip) : Chip :=
  match s.test.run with
  | some t => if fieldScope t.kind t.scope && s.seam.lost then s.testCut 4 else s
  | none => s

/-- TEST_ABORT_CONDITION (R487). Cause 1: a condition of R485 fails; where clock and seam stand, it is VCORE that left its
window. Causes 2 to 4 act where the model's own state shows them. -/
def Chip.testCondition (s : Chip) (cause : Nat) : Chip :=
  match s.test.run with
  | none => s
  | some t =>
    match cause with
    | 1 =>
      let s := if s.clockOk ∧ (!fieldScope t.kind t.scope ∨ s.seamUp) then
          (s.setLv Reg.TEST_STAT_VCORE_OK 0).put Reg.TEST_STAT_VCORE_OK 0 else s
      s.testCut 1
    | 2 => if t.kind = 2 ∧ ¬ s.linkActive t.scope then s.testCut 2 else s
    | 3 => if (testFlasks t.kind t.scope).any (fun f => !s.active f) then s.testCut 3 else s
    | 4 => s.testSeam
    | _ => s

/-- NB_CYCLE (R492). -/
def Chip.nbStage (s : Chip) (c : Nat) : Did := ({ s with test := { s.test with nbCycle := c } }).ok

/-- Is a neighbour test in its cycle C (R492)? -/
def Chip.nbNow (s : Chip) : Bool :=
  s.coreUp && (s.testing 2 0 || s.testing 2 1) && s.get Reg.CLK_CYC_NUM == s.test.nbCycle

/-- NB_PRBS_START (R492). -/
def Chip.nbPrbs (s : Chip) : Chip :=
  if s.nbNow then (let s : Chip := s.nbTime 10000; { s with test := { s.test with prbs := true } }) else s

/-- NB_TRUNK_CAPTURE (R492): VOUT and MA of TR at the headward end, VIN at the tailward end; nothing over a Cuff. -/
def Chip.nbTrunk (s : Chip) : Chip :=
  if !s.fieldUp || !s.nbNow then s else
  let s : Chip := s.nbTime 50000
  let p := if s.testing 2 0 then 0 else 1
  if s.flag (Reg.LINK_PHY_MEDIA p) then s else
  let s := s.put Reg.TEST_NB_STAT_TRUNK_VALID 1
  if s.linkTailward p then (s.put Reg.TEST_NB_TRUNK_V (s.lv (Reg.FUSE_MEAS_VOUT 9))).put Reg.TEST_NB_TRUNK_MA (s.lv (Reg.FUSE_MEAS_MA 9))
  else s.put Reg.TEST_NB_TRUNK_V (s.lv (Reg.FUSE_VIN 9))

/-! The TAP (R495, R496) -/

/-- The lands are released: the units stand as after a test of each. -/
def Chip.landsFree (s : Chip) : Chip :=
  if !s.test.landsTaken then s else
  let s := ({ s with test := { s.test with landsTaken := false }, meas := { s.meas with stopped := 7 } }).put Reg.TEST_STAT_JTAG_ACTIVE 0
  let s := s.each (List.range 5) (fun s c => s.cuffFreed c false)
  let s := s.each [0, 1] (fun s c => if s.active (43 + c) then s.canRejoin c else s)
  s.occShow

/-- May an instruction take the lands (R496)? -/
def Chip.landsMay (s : Chip) : Bool :=
  s.coreUp && s.supplyOk && s.clockOk && s.seamUp && (s.get Reg.SYS_BOOT_STATE != 5 || s.wkB Reg.TEST_CFG_JTAG_PIN)

/-- The lands are taken (R496): the running test is aborted, Cuffs with a contract go to Disabled, both ports leave ACTIVE. -/
def Chip.landsTake (s : Chip) : Chip :=
  if s.test.landsTaken then s else
  let s := s.testCut 5
  let s := ({ s with test := { s.test with landsTaken := true } }).put Reg.TEST_STAT_JTAG_ACTIVE 1
  let s := s.each (List.range 5) (fun s c => s.cuffForced c)
  let s := s.each [0, 1] (fun s c => if s.flag (Reg.CAN_STAT_EN c) then s.canFence c else s)
  let s := s.each [0, 1] (fun s p => if s.linkActive p then s.linkEnter p 0 else s)
  s.occShow

/-- What the instruction register captures, and so shifts out as an instruction shifts in (R495). -/
def tapCapture : BitVec 5 := 0b00001

/-- Update-IR with an instruction that leaves the lands alone; out is what its register shifts out. -/
def Chip.tapPlain (s : Chip) (code : Nat) (out : BitVec 412) : Chip :=
  let s := s.landsFree.put Reg.TEST_STAT_JTAG_REFUSED 0
  { s with test := { s.test with tapInstr := code, irOut := tapCapture, tapOut := out } }

/-- SAMPLE/PRELOAD: the cells capture the lands, which shift out while the preload shifts in. -/
def Chip.tapSample (s : Chip) (sampled preload : BitVec 412) : Chip :=
  let s := s.tapPlain 2 sampled
  { s with test := { s.test with boundary := preload } }

/-- Update-IR with an instruction that takes the lands, where it may; else it acts as BYPASS and leaves them (R496). CLAMP and HIGHZ select
the bypass register, the others the boundary register. -/
def Chip.tapLands (s : Chip) (code : Nat) : Chip :=
  let s := s.put Reg.TEST_STAT_JTAG_REFUSED 0
  if s.landsMay then
    let s := s.landsTake
    { s with test := { s.test with tapInstr := code, irOut := tapCapture, tapOut := if code = 4 ∨ code = 5 then 0 else s.test.boundary } }
  else
    let s := s.landsFree.put Reg.TEST_STAT_JTAG_REFUSED 1
    { s with test := { s.test with tapInstr := 0x1F, irOut := tapCapture, tapOut := 0 } }

end Sys2Proof.Machine
end

