-- ==== Sys2Proof/Machine/Wide.lean ====
section
/-! DEFINITION. The wide hub and its tunnelled ports (15_wide_hub_tunnel.md R328 to R349). -/

namespace Sys2Proof.Machine

/-! Records (Table WIDE-4) -/

/-- Bytes of data padded to four. -/
def pad4 (n : Nat) : Nat := (n + 3) / 4 * 4

/-- The bytes of a record. -/
def WRec.bytes (r : WRec) : List (BitVec 8) :=
  let n := r.data.length
  bytesOf ([r.kind, r.b1, r.dev, r.b3] ++ le2 n ++ [r.status, 0]) ++ r.data ++ List.replicate (pad4 n - n) 0

/-- The records in a run of bytes; what is left over is none. -/
def parseRecs : Nat → List (BitVec 8) → List WRec
  | 0, _ => []
  | fuel + 1, l =>
    match l with
    | k :: b1 :: d :: b3 :: l0 :: l1 :: st :: _ :: rest =>
      let n := l0.toNat + 256 * l1.toNat
      ⟨k.toNat, b1.toNat, d.toNat, b3.toNat, st.toNat, rest.take n⟩ :: parseRecs fuel (rest.drop (pad4 n))
    | _ => []

/-- The length of records in bytes. -/
def recsLen (l : List WRec) : Nat := l.foldl (fun n r => n + 8 + pad4 r.data.length) 0

/-- Wide port w at the head. -/
def Chip.wp (s : Chip) (w : Nat) : WPort := s.wide.ports.get {} w

/-- Set wide port w. -/
def Chip.setWp (s : Chip) (w : Nat) (x : WPort) : Chip := { s with wide := { s.wide with ports := s.wide.ports.put {} w x } }

/-- Poll entry e at the head. -/
def Chip.wpoll (s : Chip) (e : Nat) : WPoll := s.wide.polls.get {} e

/-- Set poll entry e. -/
def Chip.setWpoll (s : Chip) (e : Nat) (x : WPoll) : Chip := { s with wide := { s.wide with polls := s.wide.polls.put {} e x } }

/-- Served port w. -/
def Chip.ws (s : Chip) (w : Nat) : WServed := s.wide.served.get {} w

/-- Set served port w. -/
def Chip.setWs (s : Chip) (w : Nat) (x : WServed) : Chip := { s with wide := { s.wide with served := s.wide.served.put {} w x } }

/-! Presentation (R328) -/

/-- The conditions for the wide hub on C4. -/
def Chip.wantWide (s : Chip) : Bool := s.flag Reg.WIDE_STAT_EN && s.flag Reg.WIDE_CFG_PRESENT && s.flag Reg.GATE_STAT_ORIGIN

/-- Forget every transaction the head holds. -/
def Chip.wideForget (s : Chip) : Chip :=
  ({ s with wide := { s.wide with ports := [], polls := [] } }).put Reg.WIDE_STAT_HELD 0

/-- WIDE_PRESENT_CHANGE: the hub that was presented detaches. -/
def Chip.presentChange (s : Chip) : Chip :=
  if s.wantWide == s.presenting || s.wide.detach || !s.coreUp then s else
  let s := if s.presenting then
      (({ s with hub := { s.hub with wup := 0 } }).setDev .wide {}).wideForget.put Reg.WIDE_STAT_PRESENTING 0
    else s.hubDefault.hubUpState 0
  ({ s with wide := { s.wide with detach := true, detachAt := s.ct.toNat } }).tellTerms

/-- WIDE_ATTACH: after 10 ms, the hub that the conditions call for attaches. -/
def Chip.wideAttach (s : Chip) : Chip :=
  if !s.wide.detach || !s.coreUp then s else
  let s : Chip := s.timeTo (s.wide.detachAt + 10000000)
  (({ s with wide := { s.wide with detach := false } }).putB Reg.WIDE_STAT_PRESENTING s.wantWide).copyMgmt

/-- WIDE.CTL.ENABLE. -/
def Chip.wideEnable (s : Chip) (r : Nat) : Did :=
  if s.get Reg.WIDE_CFG_NPORTS < 2 ∨ !s.active 51 then s.no r 10 0 0x04 else (s.put Reg.WIDE_STAT_EN 1).ok

/-- WIDE.CTL.DISABLE: the wide hub detaches; the change of presentation follows as R328 says. A node whose block is disabled refuses TUNNEL
slots, so its served ports orphan (R346; DEDUCED, log entry 49). -/
def Chip.wideDisable (s : Chip) : Did := ((({ s with wide := s.tunnelLeave }).put Reg.WIDE_STAT_EN 0).presentChange).ok

/-! The working map and poll table -/

/-- Is wide port w mapped? -/
def Chip.mapped (s : Chip) (w : Nat) : Bool := decide (2 ≤ w) && decide (w ≤ s.get Reg.WIDE_CFG_NPORTS) && s.wkB (Reg.WIDE_MAP_EN w)

/-- Does this node serve wide port w (R330)? -/
def Chip.serves (s : Chip) (w : Nat) : Bool :=
  decide (2 ≤ w) && s.wkB (Reg.WIDE_MAP_EN w) && s.flag Reg.CHAIN_STAT_ADDR_VALID &&
    s.wk (Reg.WIDE_MAP_STATION w) == s.get Reg.CHAIN_ADDR_STATION && s.wk (Reg.WIDE_MAP_RING w) == s.get Reg.CHAIN_ADDR_RING

/-- The head's own port behind a station-0 entry (R329). -/
def Chip.ownEntry (s : Chip) (w : Nat) : Bool := s.wk (Reg.WIDE_MAP_STATION w) == 0

/-- Is poll entry e due in a cycle (R331)? -/
def Chip.pollDue (s : Chip) (e cyc : Nat) : Bool := s.wkB (Reg.WIDE_POLL_EN e) && cyc % 2 ^ s.wk (Reg.WIDE_POLL_IVL e) == 0

/-- The poll entry of an endpoint. -/
def Chip.pollOf (s : Chip) (w dev ep : Nat) (dirIn : Bool) : Option Nat :=
  (List.range 256).find? (fun e => s.wkB (Reg.WIDE_POLL_EN e) && s.wk (Reg.WIDE_POLL_PORT e) == w && s.wk (Reg.WIDE_POLL_DEV e) == dev &&
    s.wk (Reg.WIDE_POLL_EP e) == ep && s.wkB (Reg.WIDE_POLL_DIR e) == dirIn)

/-! The head's transactions (R338 to R340) -/

/-- Does the wide hub carry traffic for port w: configured, mapped, reachable and enabled? -/
def Chip.wideLive (s : Chip) (w : Nat) : Bool :=
  s.usbOn .wide && s.hub.wup == 3 && s.mapped w && !(s.wp w).gone && bit (s.get (Reg.WIDE_PORT_STAT_STATUS w)) stEnable

/-- Count the held transactions. -/
def Chip.wideCount (s : Chip) : Chip := s.put Reg.WIDE_STAT_HELD (s.wide.ports.foldl (fun n e => n + e.2.held.length) 0)

/-- A deferral, for lack of room or of non-periodic bytes: an overload episode begins where none runs (R348). -/
def Chip.wideOverload (s : Chip) : Chip :=
  let now := s.ct.toNat + 1
  let s := { s with wide := { s.wide with lastDefer := now } }
  if s.flag Reg.WIDE_STAT_OVL then s else
  let s := (s.put Reg.WIDE_STAT_OVL 1).inc Reg.WIDE_OVL_CNT
  if s.wide.lastEvt ≠ 0 ∧ now < s.wide.lastEvt + 1000 * s.period then s.inc Reg.WIDE_OVL_SUPP_CNT
  else ({ s with wide := { s.wide with lastEvt := now } }).fire 65 0

/-- A transaction finds no room (R338). -/
def Chip.wideDefer (s : Chip) : Chip := (s.inc Reg.WIDE_DEFER_CNT).wideOverload

/-- WIDE_OVL_END (R348). -/
def Chip.wideOvlEnd (s : Chip) : Chip :=
  if s.coreUp && s.flag Reg.WIDE_STAT_OVL && decide (s.wide.lastDefer + s.period ≤ s.ct.toNat + 1) then s.put Reg.WIDE_STAT_OVL 0 else s

/-- Is there room for a transaction of an endpoint: one place for control endpoint 0, one for all others, 240 in all (R338, R339)? -/
def Chip.wideRoom (s : Chip) (w ep : Nat) : Bool :=
  decide (s.get Reg.WIDE_STAT_HELD < 240) && (s.wp w).held.all (fun t => (t.ep == 0) != (ep == 0))

/-- Hold a transaction. -/
def Chip.wideHold (s : Chip) (w : Nat) (t : WTx) : Chip := (s.setWp w { s.wp w with held := (s.wp w).held ++ [t] }).wideCount

/-- Drop a transaction. -/
def Chip.wideDrop (s : Chip) (w : Nat) (t : WTx) : Chip := (s.setWp w { s.wp w with held := (s.wp w).held.erase t }).wideCount

/-- The transaction held for an endpoint and direction; a SETUP holds both directions of endpoint 0. -/
def Chip.wideFind (s : Chip) (w dev ep : Nat) (dirIn : Bool) : Option WTx :=
  (s.wp w).held.find? (fun t => t.dev == dev && t.ep == ep && (t.kind == 1 || (t.kind == 3) == dirIn))

/-- A new transaction. -/
def newTx (dev ep kind : Nat) (pid : Bool) (data : List (BitVec 8)) (split : Bool) : WTx := ⟨dev, ep, kind, pid, data, 0, 0, false, [], split⟩

/-- The PID of data on its way to the host. -/
def Chip.withPid (s : Chip) (pid : Bool) : Chip := { s with hub := { s.hub with pid := pid } }

/-- The answer to a host IN from a result. -/
def inReply (status : Nat) (data : List (BitVec 8)) : UsbReply :=
  match status with | 0 => .data data | 1 => .nak | 2 => .stall | _ => .err

/-- A presented poll result meets the host's IN (R342). An ERR result answers as NAK (DESIGN CHOICE, log entry 49). -/
def Chip.pollIn (s : Chip) (e : Nat) : Chip :=
  let iso := s.wkB (Reg.WIDE_POLL_TYPE e)
  let none_ : UsbReply := if iso then .data [] else .nak
  match (s.wpoll e).shown with
  | none => (s.withPid false).answer none_
  | some r =>
    let s := s.setWpoll e { s.wpoll e with shown := none }
    match r.status with
    | 0 => (s.withPid r.pid).answer (.data r.data)
    | 2 => (s.withPid false).answer (if iso then .data [] else .stall)
    | _ => (s.withPid false).answer none_

/-- Poll OUT data of the host (R342): the handshake, and the entry after it. -/
def WPoll.take (x : WPoll) (iso pid : Bool) (data : List (BitVec 8)) : UsbReply × WPoll :=
  if x.stall then (.stall, { x with stall := false })
  else if iso then (.none, { x with out := some (pid, data.take 512) })
  else if x.out.isSome then (.nak, x)
  else (.ack, { x with out := some (pid, data.take 512) })

/-- Poll OUT data of the host (R342); a start-split takes no handshake, which its complete-split gives (R340). -/
def Chip.pollOut (s : Chip) (e : Nat) (pid : Bool) (data : List (BitVec 8)) (split : Bool) : Chip :=
  let t := (s.wpoll e).take (s.wkB (Reg.WIDE_POLL_TYPE e)) pid data
  (s.setWpoll e { t.2 with hand := t.1 }).answer (if split then .none else t.1)

/-- POLL_RESULT_IN. -/
def Chip.pollResultIn (s : Chip) (e : Nat) : Chip :=
  if !s.wideLive (s.wk (Reg.WIDE_POLL_PORT e)) || !s.wkB (Reg.WIDE_POLL_EN e) || !s.wkB (Reg.WIDE_POLL_DIR e) then s
  else if !s.active 51 then s.answer .nak else s.pollIn e

/-- POLL_OUT_DATA. -/
def Chip.pollOutData (s : Chip) (e : Nat) (pid : Bool) (data : List (BitVec 8)) : Chip :=
  if !s.wideLive (s.wk (Reg.WIDE_POLL_PORT e)) || !s.wkB (Reg.WIDE_POLL_EN e) || s.wkB (Reg.WIDE_POLL_DIR e) then s
  else if !s.active 51 then s.answer .nak else s.pollOut e pid data false

/-- WIDE_HOST_IN (R338, R339). -/
def Chip.wideIn (s : Chip) (w dev ep : Nat) : Chip :=
  if !s.wideLive w then s
  else if !s.active 51 then s.answer .nak
  else match s.pollOf w dev ep true with
  | some e => s.pollIn e
  | none =>
    match s.wideFind w dev ep true with
    | some t =>
      if t.state ≠ 2 then s.answer .nak
      else ((s.wideDrop w t).withPid t.rpid).answer (if t.kind = 1 then .stall else inReply t.status t.rdata)
    | none => if s.wideRoom w ep then (s.wideHold w (newTx dev ep 3 false [] false)).answer .nak else s.wideDefer.answer .nak

/-- WIDE_HOST_OUT (R338, R339). -/
def Chip.wideOut (s : Chip) (w dev ep : Nat) (pid : Bool) (data : List (BitVec 8)) : Chip :=
  if !s.wideLive w then s
  else if !s.active 51 then s.answer .nak
  else match s.pollOf w dev ep false with
  | some e => s.pollOut e pid data false
  | none =>
  match s.wideFind w dev ep false with
  | some t =>
    if t.kind = 1 then (if t.state = 2 then (s.wideDrop w t).answer .stall else s.answer .nak)
    else if t.pid ≠ pid ∨ t.data.length ≠ data.length then (s.inc Reg.WIDE_MISMATCH_CNT).answer .nak
    else if t.state ≠ 2 then s.answer .nak
    else (s.wideDrop w t).answer (match t.status with | 0 => .ack | 2 => .stall | _ => .nak)
  | none => if s.wideRoom w ep then (s.wideHold w (newTx dev ep 2 pid (data.take 512) false)).answer .nak else s.wideDefer.answer .nak

/-- WIDE_HOST_PING (R338). -/
def Chip.widePing (s : Chip) (w dev ep : Nat) : Chip :=
  if !s.wideLive w then s
  else if !s.active 51 then s.answer .nak
  else match s.wideFind w dev ep false with
  | some t => s.answer (if t.state = 2 then .ack else .nak)
  | none => s.answer .ack

/-- A SETUP takes the control place, whatever it held (R339); ClearFeature(ENDPOINT_HALT) and SetConfiguration discard what is held for the
endpoints concerned. -/
def Chip.takeSetup (s : Chip) (w dev : Nat) (data : List (BitVec 8)) (split : Bool) : Chip :=
  let req := leNat (data.take 2)
  let val := leNat ((data.drop 2).take 2)
  let ep := leNat ((data.drop 4).take 2)
  let gone := fun (t : WTx) => t.ep == 0 ||
    (t.dev == dev && ((req == 0x0102 && val == 0 && t.ep == ep % 16 && ((t.kind == 3) == decide (128 ≤ ep))) || req == 0x0900))
  (s.setWp w { s.wp w with held := (s.wp w).held.filter (fun t => !gone t) }).wideHold w (newTx dev 0 1 false (data.take 8) split)

/-- WIDE_HOST_SETUP (R339): always ACKed. -/
def Chip.wideSetup (s : Chip) (w dev : Nat) (data : List (BitVec 8)) : Chip :=
  if !s.wideLive w then s
  else if !s.active 51 then s.answer .nak
  else (s.takeSetup w dev data false).answer .ack

/-- WIDE_SPLIT (R340). -/
def Chip.wideSplit (s : Chip) (x : Sys2Proof.WideSplit) : Chip :=
  let w := x.w.val
  let dev := x.dev.toNat
  let ep := x.ep.toNat
  if !s.wideLive w then s
  else if !s.active 51 then s.answer (if x.start then .nak else .err)
  else if x.periodic then
    match s.pollOf w dev ep x.dirIn with
    | some e =>
      if x.start then (if x.dirIn then s.answer .none else s.pollOut e x.pid1 x.data true)
      else if x.dirIn then s.pollIn e else s.answer (s.wpoll e).hand
    | none => if x.start then (s.inc Reg.WIDE_UNLISTED_CNT).answer .none else s.answer .err
  else if x.start then
    if x.setup then (s.takeSetup w dev x.data true).answer .ack
    else if s.wideRoom w ep then
      (s.wideHold w (newTx dev ep (if x.dirIn then 3 else 2) x.pid1 (x.data.take 512) true)).answer .ack
    else s.wideDefer.answer .nak
  else match s.wideFind w dev ep x.dirIn with
  | some t =>
    if t.state ≠ 2 then s.answer .nyet
    else ((s.wideDrop w t).withPid t.rpid).answer (if t.kind = 3 then inReply t.status t.rdata
      else match t.status with | 0 => .ack | 1 => .nak | 2 => .stall | _ => .err)
  | none => s.answer .err

/-! Port requests (R344) -/

/-- A port command: set or clear of a feature selector. -/
def portCmd (sel : Nat) (set : Bool) (dev : Nat) (ep : Nat) : WRec := ⟨4, sel, dev, (if set then 8 else 0), 0, if ep = 0 then [] else bytesOf [ep]⟩

/-- The change bit of a feature selector of USB 2.0: C_PORT_CONNECTION 16 to C_PORT_RESET 20; C_PORT_L1 23 (PRESUMED, log entry 10). -/
def changeSel (c : PortChange) : Nat := if c = .l1 then 23 else 16 + changeBit c

/-- What a port command does at the port (R300, R308 to R320, R344). Selectors 0x48 and 0x49 stand for ClearTTBuffer and ResetTT
(DESIGN CHOICE, log entry 16). -/
def Chip.portCommand (s : Chip) (p : Nat) (r : WRec) : Chip :=
  let set := bit r.b3 3
  match r.b1, set with
  | 8, true => s.powerUp p
  | 8, false => s.powerDown p
  | 4, true => s.resetBegin p
  | 2, true => s.suspendPort p
  | 2, false => s.resumePort p
  | 1, false => s.setSt p (clrBit (s.hp p).st stEnable)
  | 0x48, _ =>
    let e := leNat r.data
    s.ttClear p ⟨BitVec.ofNat 7 r.dev, BitVec.ofNat 4 e, decide (128 ≤ e)⟩
  | 0x49, _ => s.ttReset p
  | sel, _ => if 16 ≤ sel ∧ sel ≤ 20 then s.setHp p { s.hp p with tchg := clrBit (s.hp p).tchg (sel - 16) }
    else if sel = 23 then s.setHp p { s.hp p with tchg := clrBit (s.hp p).tchg 5 } else s

/-- The head's copy of an own port (R329, R344). -/
def Chip.copyOwn (s : Chip) (w : Nat) : Chip :=
  let p := s.wk (Reg.WIDE_MAP_LPORT w)
  (s.put (Reg.WIDE_PORT_STAT_STATUS w) (s.hp p).st).put (Reg.WIDE_PORT_STAT_CHANGE w) (s.hp p).tchg

/-- A port command leaves for its port: through the tunnel, or at once for the head's own port. -/
def Chip.sendCmd (s : Chip) (w : Nat) (r : WRec) : Chip :=
  if s.ownEntry w then (s.portCommand (s.wk (Reg.WIDE_MAP_LPORT w)) r).copyOwn w
  else s.setWp w { s.wp w with cmds := (s.wp w).cmds ++ [r] }

/-- A hub request for wide port 1, which behaves as local port 9. -/
def Chip.mgmtPortReq (s : Chip) (x : HubPortReq) : Chip :=
  let s := match x with
    | .setPower => (s.powerUp 9).answer .ack
    | .clearPower => (s.powerDown 9).answer .ack
    | .setReset => (s.resetBegin 9).answer .ack
    | .setSuspend => (s.suspendPort 9).answer .ack
    | .clearSuspend => (s.resumePort 9).answer .ack
    | .clearEnable => (s.setSt 9 (clrBit (s.hp 9).st stEnable)).answer .ack
    | .clearChange c => (s.put (Reg.HUB_PORT_STAT_CHANGE 9) (clrBit (s.get (Reg.HUB_PORT_STAT_CHANGE 9)) (changeBit c))).answer .ack
    | .getStatus => s.answer (.data (bytesOf (le2 (s.hp 9).st ++ le2 (s.get (Reg.HUB_PORT_STAT_CHANGE 9)))))
    | _ => s.answer .stall
  s.copyMgmt

/-- WIDE_PORT_REQUEST (R344). -/
def Chip.widePortReq (s : Chip) (w : Nat) (x : HubPortReq) : Chip :=
  if !s.usbOn .wide then s
  else if s.hub.wup ≠ 3 ∨ w = 0 ∨ s.get Reg.WIDE_CFG_NPORTS < w then s.answer .stall
  else if w = 1 then s.mgmtPortReq x
  else
    let cmd := fun (s : Chip) sel set => if s.mapped w then (s.sendCmd w (portCmd sel set 0 0)).answer .ack else s.answer .ack
    let st := s.get (Reg.WIDE_PORT_STAT_STATUS w)
    let ch := s.get (Reg.WIDE_PORT_STAT_CHANGE w)
    match x with
    | .setPower => cmd s 8 true
    | .clearPower => cmd s 8 false
    | .setReset =>
      let s := if bit st stConn && !s.ownEntry w then s.put (Reg.WIDE_PORT_STAT_STATUS w) (clrBit (setBit st stReset) stEnable) else s
      let s := (s.setWp w { s.wp w with held := [], resetting := if s.mapped w && !s.ownEntry w then 1 else 0 }).wideCount
      cmd s 4 true
    | .setSuspend => cmd s 2 true
    | .clearSuspend => cmd s 2 false
    | .clearEnable => cmd (if s.ownEntry w then s else s.put (Reg.WIDE_PORT_STAT_STATUS w) (clrBit st stEnable)) 1 false
    | .clearChange c =>
      let s := if c = .connection then s.setWp w { s.wp w with lost := false } else s
      cmd (s.put (Reg.WIDE_PORT_STAT_CHANGE w) (clrBit ch (changeBit c))) (changeSel c) false
    | .getStatus => s.answer (.data (bytesOf (le2 st ++ le2 ch)))
    | .clearTt ep =>
      if s.mapped w then
        (s.sendCmd w (portCmd 0x48 false ep.dev.toNat (ep.ep.toNat + (if ep.dirIn then 128 else 0)))).answer .ack
      else s.answer .ack
    | .resetTt => cmd s 0x49 false
    | .setTest => s.answer .stall
    | .clearL1 => s.answer .stall
    | .getTt => s.answer .stall
    | .stopTt => s.answer .stall

/-- GET_PORT_MAP (Table WIDE-5). -/
def Chip.getPortMap (s : Chip) (w : Nat) : Chip :=
  if !s.usbOn .wide then s
  else if w < 256 ∧ s.mapped w then
    s.answer (.data (bytesOf (le2 (s.wk (Reg.WIDE_MAP_STATION w)) ++ [s.wk (Reg.WIDE_MAP_RING w), s.wk (Reg.WIDE_MAP_LPORT w), 2, 0]
      ++ le2 (s.wk (Reg.WIDE_MAP_PER_BUDGET w)))))
  else s.answer (.data (List.replicate 8 0))

/-- Is every wide port quiet, for LPM (R319, R344)? -/
def Chip.wideQuiet (s : Chip) : Bool :=
  (List.range (s.get Reg.WIDE_CFG_NPORTS)).all (fun i =>
    let st := s.get (Reg.WIDE_PORT_STAT_STATUS (i + 1))
    !bit st stConn || !bit st stEnable || bit st stSuspend || bit st stL1)

/-- The status-change endpoint of the wide hub. -/
def Chip.wideStatusIn (s : Chip) : Chip :=
  if !(s.usbOn .wide && s.hub.wup == 3) then s
  else if bit (s.dev .wide).halts 17 then s.answer .stall
  else
    let v := (List.range (s.get Reg.WIDE_CFG_NPORTS)).foldl (fun m i =>
      if s.get (Reg.WIDE_PORT_STAT_CHANGE (i + 1)) = 0 then m else m + 2 ^ (i + 1)) 0
    if v = 0 then s.answer .nak else s.answer (.data (natBytes (s.changeBytes .wide) v))

/-- Every port of the wide hub loses power, and what is held for it goes. -/
def Chip.widePortsOff (s : Chip) : Chip :=
  let s := (s.each ((List.range 254).map (· + 2)) (fun s w =>
    if s.mapped w then (s.setWp w { s.wp w with held := [] }).sendCmd w (portCmd 8 false 0 0) else s)).wideCount
  s.powerDown 9

/-- A bus reset of the wide hub (R320, R344): the default state, every port unpowered. -/
def Chip.wideBusReset (s : Chip) (hs : Bool) : Chip :=
  let s := ((s.setDev .wide {}).mgmtReset).widePortsOff
  ({ s with hub := { s.hub with wup := 1, waking := false, wakeDue := false } }).putB Reg.HUB_STAT_HS hs

/-- SET_CONFIGURATION of any device; the wide hub that returns to the address state has its ports powered off, as the local hub has. -/
def Chip.configure (s : Chip) (d : UsbDev) (v : Nat) : Chip :=
  let s := s.setConfiguration d v
  if d = .wide ∧ v = 0 then s.widePortsOff else s

/-! Reach (R345) -/

/-- What the head holds of a port's poll entries goes. -/
def Chip.dropPolls (s : Chip) (w : Nat) : Chip :=
  s.each (List.range 256) (fun s e => if s.wk (Reg.WIDE_POLL_PORT e) = w then s.setWpoll e {} else s)

/-- A map entry is unreachable: its port reports disconnect once, and what is held for it goes. -/
def Chip.wideGone (s : Chip) (w : Nat) : Chip :=
  if (s.wp w).gone then s else
  let s := ((s.setWp w { s.wp w with gone := true, held := [], cmds := [], sent := [], resetting := 0, lost := true }).dropPolls w).wideCount
  let s := s.put (Reg.WIDE_PORT_STAT_CHANGE w) (setBit (s.get (Reg.WIDE_PORT_STAT_CHANGE w)) 0)
  s.put (Reg.WIDE_PORT_STAT_STATUS w) (clrBit (clrBit (s.get (Reg.WIDE_PORT_STAT_STATUS w)) stConn) stEnable)

/-! Tunnel slots at the head (R334 to R336) -/

/-- The speed a record names (Table WIDE-4): of a transaction made by splits the port's, else high (DEDUCED, log entry 49: Table WIDE-4 does not
say whose speed it is). -/
def Chip.speedOf (s : Chip) (w : Nat) (t : WTx) : Nat :=
  if !t.split then 0 else if bit (s.get (Reg.WIDE_PORT_STAT_STATUS w)) stLow then 2 else 1

/-- Down records of a transaction: SETUP, OUT, IN request. -/
def WTx.down (speed : Nat) (t : WTx) : WRec := ⟨t.kind, t.ep + (if t.kind = 3 then 128 else 0), t.dev, b2n t.pid + 2 * speed, 0, t.data⟩

/-- Poll OUT records of a port (R342). -/
def Chip.outRecs (s : Chip) (w : Nat) : List WRec :=
  (List.range 256).filterMap (fun e =>
    if s.wkB (Reg.WIDE_POLL_EN e) && s.wk (Reg.WIDE_POLL_PORT e) == w && !s.wkB (Reg.WIDE_POLL_DIR e) then
      (s.wpoll e).out.map (fun o => ⟨5, s.wk (Reg.WIDE_POLL_EP e), e, b2n o.1 + 2 * s.wk (Reg.WIDE_POLL_SPEED e), 0, o.2⟩)
    else none)

/-- Bytes that the poll results due in the slot of a cycle take: polls taken in the cycle before (R342). -/
def Chip.dueBytes (s : Chip) (w cyc : Nat) : Nat :=
  (List.range 256).foldl (fun n e =>
    if s.wk (Reg.WIDE_POLL_PORT e) == w && s.pollDue e ((cyc + 2 ^ 32 - 1) % 2 ^ 32) then
      n + 8 + (if s.wkB (Reg.WIDE_POLL_DIR e) then pad4 (s.wk (Reg.WIDE_POLL_MAXP e)) else 0)
    else n) 0

/-- The payload of a TUNNEL slot with its down records and an up area (Table WIDE-1). -/
def tunnelPayload (uack dseq up : Nat) (down : List WRec) : List (BitVec 8) :=
  let d := (down.map WRec.bytes).flatten
  bytesOf (le2 d.length ++ [uack, dseq]) ++ d ++ List.replicate (8 + up) 0

/-- Up bytes for the outcomes of transactions in flight. -/
def flightBytes (l : List WTx) : Nat := l.foldl (fun n t => if t.state = 2 then n else n + (if t.kind = 3 then 520 else 8)) 0

/-- The slot of wide port w in this cycle, where it needs one: its payload, and the state with its records sent (R334, R336). `room` is the
payload the tunnel frame still holds. -/
def Chip.portSlot (s : Chip) (w cyc room : Nat) : Option (List (BitVec 8) × Chip) :=
  let x := s.wp w
  let due := s.dueBytes w cyc
  let outs := s.outRecs w
  let fresh := x.cmds ++ (x.held.filter (fun t => t.state == 0)).map (fun t => t.down (s.speedOf w t))
  let resend := !x.sent.isEmpty
  let down := if resend then x.sent else fresh ++ outs
  if down.isEmpty ∧ due = 0 ∧ x.age < 8 then none else
  let up := due + flightBytes x.held + 8
  let full := 12 + recsLen down + up
  let down := if full ≤ room then down else if resend then x.sent else outs
  if room < 12 + recsLen down + up then none else
  let dseq := if resend ∨ down.isEmpty then x.dseq else (x.dseq + 1) % 256
  let sentNp := !resend && decide (full ≤ room)
  let held := if sentNp then x.held.map (fun t => if t.state = 0 then { t with state := 1 } else t) else x.held
  let s := s.setWp w { x with dseq := dseq, sent := down, age := 0, held := held, cmds := if sentNp then [] else x.cmds }
  let s := if resend then s else s.each outs (fun s r => s.setWpoll r.dev { s.wpoll r.dev with out := none })
  some (tunnelPayload x.uack dseq up down, s)

/-- Does the head build tunnel frames (R334, R347)? -/
def Chip.tunnels (s : Chip) : Bool := s.presenting && s.active 51

/-- The presented poll results change at a mark (R342): one the host has not taken is missed. A station-0 entry, which has no slots, goes
through the same cycles (R329). -/
def Chip.pollMark (s : Chip) : Chip :=
  s.each (List.range 256) (fun s e =>
    let x := s.wpoll e
    if x = {} then s else
    let w := s.wk (Reg.WIDE_POLL_PORT e)
    let own := s.ownEntry w
    let s := if x.shown.isSome then s.inc Reg.WIDE_POLL_MISS_CNT else s
    let s := match x.ship with
      | some o => s.setWs w { s.ws w with outs := (s.ws w).outs ++ [(e, o.1, o.2)] }
      | none => s
    s.setWpoll e { x with shown := x.next, next := x.made, made := none, ship := if own then x.out else none, out := if own then none else x.out })

/-- An up record reaches the head (R336, R338, R339, R342). -/
def Chip.upRecord (s : Chip) (w : Nat) (r : WRec) : Chip :=
  let x := s.wp w
  match r.kind with
  | 0x81 =>
    match x.held.find? (fun t => t.state == 1 && t.dev == r.dev && t.ep == r.b1 % 16 && (t.kind == 3) == decide (128 ≤ r.b1)) with
    | some t =>
      if t.kind = 1 ∧ r.status = 0 ∧ !t.split then s.wideDrop w t
      else s.setWp w { x with held := x.held.map (fun u => if u = t then { t with state := 2, status := r.status, rpid := bit r.b3 0, rdata := r.data } else u) }
    | none => s
  | 0x82 =>
    if s.wkB (Reg.WIDE_POLL_DIR r.dev) then s.setWpoll r.dev { s.wpoll r.dev with next := some ⟨r.status, bit r.b3 0, r.data⟩ }
    else if r.status = 2 then s.setWpoll r.dev { s.wpoll r.dev with stall := true } else s
  | _ => s

/-- A TUNNEL slot returned to the head: the frame was good, the slot acted on or refused, and its payload (R336, R344, R345). A slot acted on in
a good frame has committed its down records; PORT_RESET reads 1 until the remote, which has taken the request, reports it ended. -/
def Chip.tunnelReturn (s : Chip) (w cyc : Nat) (good acted refused : Bool) (payload : List (BitVec 8)) : Chip :=
  if !good then
    s.add Reg.WIDE_POLL_LOST_CNT ((List.range 256).countP (fun e => s.wkB (Reg.WIDE_POLL_DIR e) && s.wk (Reg.WIDE_POLL_PORT e) == w &&
      s.pollDue e ((cyc + 2 ^ 32 - 1) % 2 ^ 32)))
  else if refused then
    let s := s.setWp w { s.wp w with refused := (s.wp w).refused + 1 }
    if 3 ≤ (s.wp w).refused then s.wideGone w else s
  else if !acted then s
  else
    let dlen := leNat (payload.take 2) % 8192
    let up := payload.drop (4 + dlen)
    let ulen := leNat (up.take 2) % 8192
    let useq := leNat ((up.drop 3).take 1)
    let st := leNat ((up.drop 4).take 2)
    let ch := leNat ((up.drop 6).take 2)
    let recs := parseRecs 1024 ((up.drop 8).take ulen)
    let x := s.wp w
    let again := useq == x.uack
    let asked := x.sent.any (fun r => r.kind == 4 && r.b1 == 4 && bit r.b3 3)
    let phase := if x.resetting = 1 ∧ asked then 2 else if x.resetting = 2 ∧ !bit st stReset then 0 else x.resetting
    let s := s.setWp w { x with refused := 0, gone := false, sent := [], uack := useq, resetting := phase }
    let s := s.put (Reg.WIDE_PORT_STAT_STATUS w) (if phase = 0 then st else clrBit (setBit st stReset) stEnable)
    let s := s.put (Reg.WIDE_PORT_STAT_CHANGE w) (if x.lost then setBit ch 0 else ch)
    (s.each recs (fun s r => if again && r.kind == 0x81 then s else s.upRecord w r)).wideCount

/-! The node that serves a port (R335 to R337, R341, R346, R347) -/

/-- Records up to the first that does not fit, with those left over (R335). -/
def fitRecs : Nat → List WRec → List WRec × List WRec
  | _, [] => ([], [])
  | room, r :: t =>
    let n := 8 + pad4 r.data.length
    if n ≤ room then let q := fitRecs (room - n) t; (r :: q.1, q.2) else ([], r :: t)

/-- The up area a served port writes into a slot's payload, and its state after (R335, R336). -/
def Chip.fillUp (s : Chip) (w : Nat) (payload : List (BitVec 8)) : List (BitVec 8) × Chip :=
  let p := s.wk (Reg.WIDE_MAP_LPORT w)
  let x := s.ws w
  let dlen := leNat (payload.take 2) % 8192
  let uack := leNat ((payload.drop 2).take 1)
  let room := payload.length - (12 + dlen)
  let acked := uack == x.useq || x.batch.isEmpty
  let batch := if acked then x.fresh else x.batch
  let useq := if acked && !x.fresh.isEmpty then (x.useq + 1) % 256 else x.useq
  let fresh := if acked then [] else x.fresh
  let polls := fitRecs room x.polls
  let room1 := room - recsLen polls.1
  let np := if polls.2.isEmpty then fitRecs room1 batch else ([], batch)
  let room2 := room1 - recsLen np.1
  let ev : List WRec := if x.event && polls.2.isEmpty && np.2.isEmpty && decide (8 ≤ room2) then [⟨0x83, 0, 0, 0, 0, []⟩] else []
  -- outcomes that did not fit stay behind for the next batch
  let s := s.setWs w { x with batch := np.1, fresh := np.2 ++ fresh, useq := useq, polls := polls.2, event := x.event && ev.isEmpty }
  let recs := ((polls.1 ++ np.1 ++ ev).map WRec.bytes).flatten
  let head := bytesOf (le2 recs.length ++ [x.dack, useq] ++ le2 (s.hp p).st ++ le2 (s.hp p).tchg)
  let out := payload.take (4 + dlen) ++ head ++ recs
  (out ++ payload.drop out.length, s)

/-- A slot of a served port commits (R336): its down records apply unless they are a resend. -/
def Chip.tunnelCommit (s : Chip) (w dseq : Nat) (recs : List WRec) : Chip :=
  let p := s.wk (Reg.WIDE_MAP_LPORT w)
  let x := s.ws w
  let s := s.setWs w { x with last := s.get Reg.CLK_CYC_NUM + 1, orphan := false }
  if dseq = x.dack then s else
  let s := s.setWs w { s.ws w with dack := dseq }
  s.each recs (fun s r =>
    match r.kind with
    | 4 => s.portCommand p r
    | 5 => s.setWs w { s.ws w with outs := (s.ws w).outs ++ [(r.dev, bit r.b3 0, r.data)] }
    | _ => s.setWs w { s.ws w with todo := (s.ws w).todo ++ [r] })

/-- Status code, PID and data of a device's reply (Table WIDE-4). -/
def replyParts : DevReply → Nat × Bool × List (BitVec 8)
  | .ack => (0, false, []) | .nak => (1, false, []) | .stall => (2, false, []) | .err => (3, false, [])
  | .data pid b => (0, pid, b.take 512)

/-- Can the node work a port it serves, whose bus is up? -/
def Chip.servedLive (s : Chip) (w : Nat) : Bool :=
  let st := (s.hp (s.wk (Reg.WIDE_MAP_LPORT w))).st
  s.flag Reg.WIDE_STAT_EN && s.serves w && bit st stEnable && !bit st stSuspend && !bit st stL1 && !(s.ws w).orphan

/-- The outcome of a transaction is staged: for the head's own ports it is with the head at once. -/
def Chip.stage (s : Chip) (w : Nat) (r : WRec) : Chip :=
  if s.ownEntry w then s.upRecord w r else s.setWs w { s.ws w with fresh := (s.ws w).fresh ++ [r] }

/-- DOWN_RECORD_EXECUTE (R337): the oldest committed record of port w meets its device. -/
def Chip.downExecute (s : Chip) (w : Nat) (rep : DevReply) : Chip :=
  if !s.coreUp || !s.servedLive w then s else
  let q := replyParts rep
  if s.ownEntry w then
    match (s.wp w).held.find? (fun t => t.state == 0) with
    | some t =>
      let s := s.setWp w { s.wp w with held := (s.wp w).held.map (fun u => if u = t then { t with state := 1 } else u) }
      s.upRecord w ⟨0x81, (t.down 0).b1, t.dev, b2n q.2.1, q.1, q.2.2⟩
    | none => s
  else
    match (s.ws w).todo with
    | [] => s
    | r :: t => (s.setWs w { s.ws w with todo := t }).stage w ⟨0x81, r.b1, r.dev, b2n q.2.1 + r.b3 / 2 % 4 * 2, q.1, q.2.2⟩

/-- One poll of this cycle (R341): a result is staged, of a station-0 entry with the head itself. OUT data that an interrupt endpoint answers NAK
or not at all waits for the next poll (DESIGN CHOICE, log entry 49). -/
def Chip.poll1 (s : Chip) (e : Nat) (rep : DevReply) : Chip :=
  let w := s.wk (Reg.WIDE_POLL_PORT e)
  let q := replyParts rep
  let b1 := s.wk (Reg.WIDE_POLL_EP e) + (if s.wkB (Reg.WIDE_POLL_DIR e) then 128 else 0)
  let stage := fun (s : Chip) (r : WRec) => s.setWs w { s.ws w with polls := (s.ws w).polls ++ [r] }
  if s.wkB (Reg.WIDE_POLL_DIR e) then
    let d := q.2.2.take (s.wk (Reg.WIDE_POLL_MAXP e))
    if s.ownEntry w then s.setWpoll e { s.wpoll e with made := some ⟨q.1, q.2.1, d⟩ } else stage s ⟨0x82, b1, e, b2n q.2.1, q.1, d⟩
  else match (s.ws w).outs.find? (fun o => o.1 == e) with
    | none => s
    | some o =>
      let again := !s.wkB (Reg.WIDE_POLL_TYPE e) && (q.1 == 1 || q.1 == 3)
      let s := if again then s else s.setWs w { s.ws w with outs := (s.ws w).outs.erase o }
      if q.1 ≠ 2 then s
      else if s.ownEntry w then s.setWpoll e { s.wpoll e with stall := true }
      else stage s ⟨0x82, b1, e, 0, 2, []⟩

/-- POLL_RUN (R341): every poll due in this cycle on a served port, once; a device that does not answer counts as ERR. -/
def Chip.pollRun (s : Chip) (l : List PollReply) : Chip :=
  let cyc := s.get Reg.CLK_CYC_NUM
  if !s.coreUp || s.wide.polled == cyc + 1 then s else
  Chip.each ({ s with wide := { s.wide with polled := cyc + 1 } }) (List.range 256) (fun s e =>
    if s.pollDue e cyc && s.servedLive (s.wk (Reg.WIDE_POLL_PORT e)) then
      s.poll1 e (match l.find? (fun r => r.entry.val == e) with | some r => r.reply | none => .err)
    else s)

/-- A served port is orphaned (R346). -/
def Chip.orphan (s : Chip) (w : Nat) : Chip :=
  let p := s.wk (Reg.WIDE_MAP_LPORT w)
  let s := s.setWs w { s.ws w with orphan := true, todo := [], fresh := [], batch := [], polls := [], outs := [], event := false }
  (s.setSt p (clrBit (s.hp p).st stEnable)).inc Reg.WIDE_ORPHAN_CNT

/-- WIDE_PORT_ORPHAN: 16 cycles without a slot. -/
def Chip.portOrphan (s : Chip) (w : Nat) : Chip :=
  if s.coreUp && s.serves w && !s.ownEntry w && !(s.ws w).orphan && decide (16 ≤ sub32 (s.get Reg.CLK_CYC_NUM + 1) (s.ws w).last) then s.orphan w
  else s

/-- F51 is fenced: the served ports are orphaned at once (R347). -/
def Chip.orphanAll (s : Chip) : Chip :=
  s.each ((List.range 254).map (· + 2)) (fun s w => if s.serves w && !s.ownEntry w && !(s.ws w).orphan then s.orphan w else s)

/-! Pours of PG7 (R303, R332, R333) -/

/-- Does a pour change the map entry of wide port w? -/
def Chip.mapChanged (s before : Chip) (w : Nat) : Bool :=
  [Reg.WIDE_MAP_STATION w, Reg.WIDE_MAP_RING w, Reg.WIDE_MAP_LPORT w, Reg.WIDE_MAP_EN w].any (fun f => s.wk f != before.wk f)

/-- Does a pour change poll entry e? -/
def Chip.pollChanged (s before : Chip) (e : Nat) : Bool :=
  [Reg.WIDE_POLL_PORT e, Reg.WIDE_POLL_DEV e, Reg.WIDE_POLL_EP e, Reg.WIDE_POLL_DIR e, Reg.WIDE_POLL_TYPE e, Reg.WIDE_POLL_EN e].any
    (fun f => s.wk f != before.wk f)

/-- After a pour of PG7: an enabled port that became tunnelled shows its disconnect to the local host (R303). What was held or staged for an
entry that the pour changed goes (DESIGN CHOICE, log entry 49). -/
def Chip.pourWide (s before : Chip) : Chip :=
  let s := (s.each ((List.range 254).map (· + 2)) (fun s w => if s.mapChanged before w then (s.setWp w {}).setWs w {} else s)).wideCount
  let s := s.each (List.range 256) (fun s e => if s.pollChanged before e then s.setWpoll e {} else s)
  (s.each [1, 2, 3, 4, 5, 6, 7, 8] (fun s p =>
    if s.tunnelled p && !before.tunnelled p && bit (s.hp p).st stEnable then
      ((s.put (Reg.HUB_PORT_STAT_CHANGE p) (setBit (s.get (Reg.HUB_PORT_STAT_CHANGE p)) 0)).fire 64 (detail p 0)).portShow p
    else s.portShow p)).hubAuto

/-- Byte times of a full- or low-speed transaction (USB 2.0 section 11.18, PRESUMED, log entry 10). -/
def byteTimes (speed n : Nat) (iso : Bool) : Nat :=
  let t := (if iso then 9 else 13) + (7 * n + 5) / 6
  if speed = 2 then 8 * t else t

/-- The polling interval rule for a period in ns (R332, rule 2), over a reading of the tables. -/
def ivlBad (rd : Fld → Nat) (period : Nat) : Bool :=
  (List.range 256).any (fun e => rd (Reg.WIDE_POLL_EN e) != 0 &&
    decide (2 ^ rd (Reg.WIDE_POLL_IVL e) * period < (if rd (Reg.WIDE_POLL_SPEED e) = 0 then 125000 else 1000000)))

/-- The bus budget of the served ports for a period in ns (R333). -/
def Chip.busBad (s : Chip) (rd : Fld → Nat) (period : Nat) : Bool :=
  let es := (List.range 256).filter (fun e => rd (Reg.WIDE_POLL_EN e) != 0)
  ((List.range 254).map (· + 2)).any (fun w =>
    rd (Reg.WIDE_MAP_EN w) != 0 && s.flag Reg.CHAIN_STAT_ADDR_VALID && rd (Reg.WIDE_MAP_STATION w) == s.get Reg.CHAIN_ADDR_STATION &&
    rd (Reg.WIDE_MAP_RING w) == s.get Reg.CHAIN_ADDR_RING &&
    (let mine := es.filter (fun e => rd (Reg.WIDE_POLL_PORT e) == w)
     let hs := mine.foldl (fun n e => if rd (Reg.WIDE_POLL_SPEED e) = 0 then n + rd (Reg.WIDE_POLL_MAXP e) + 20 else n) 0
     let fs := mine.foldl (fun n e => if rd (Reg.WIDE_POLL_SPEED e) = 0 then n else
       n + byteTimes (rd (Reg.WIDE_POLL_SPEED e)) (rd (Reg.WIDE_POLL_MAXP e)) (rd (Reg.WIDE_POLL_TYPE e) != 0)) 0
     decide (48 * min period 125000 < 1000 * hs) || decide (135 * min period 1000000 < 100000 * fs)))

/-- Rules 1 to 4 of R332, judged on the shadows. -/
def Chip.wideBad (s : Chip) (period : Nat) : Bool :=
  let ws := ((List.range 254).map (· + 2)).filter (fun w => s.sh (Reg.WIDE_MAP_EN w) != 0)
  let es := (List.range 256).filter (fun e => s.sh (Reg.WIDE_POLL_EN e) != 0)
  let key := fun w => (s.sh (Reg.WIDE_MAP_STATION w), s.sh (Reg.WIDE_MAP_RING w), s.sh (Reg.WIDE_MAP_LPORT w))
  let pay := (List.range 16).foldl (fun n i => if bit (s.sh Reg.WIDE_TUN_TUN_MASK) i then n + (s.sh Reg.WIDE_TUN_TUN_BYTES - 8) else n) 0
  ws.any (fun w => decide (s.get Reg.WIDE_CFG_NPORTS < w) || s.sh (Reg.WIDE_MAP_LPORT w) == 0 || decide (8 < s.sh (Reg.WIDE_MAP_LPORT w))
    || ws.any (fun v => v != w && key v == key w)) ||
  es.any (fun e => !ws.contains (s.sh (Reg.WIDE_POLL_PORT e)) || s.sh (Reg.WIDE_POLL_MAXP e) == 0 || decide (512 < s.sh (Reg.WIDE_POLL_MAXP e))) ||
  ivlBad s.sh period ||
  ws.any (fun w => decide (s.sh (Reg.WIDE_MAP_PER_BUDGET w) <
    es.foldl (fun n e => if s.sh (Reg.WIDE_POLL_PORT e) = w then n + 8 + pad4 (s.sh (Reg.WIDE_POLL_MAXP e)) else n) 0)) ||
  decide (3 * pay < 4 * ws.foldl (fun n w => if s.sh (Reg.WIDE_MAP_PER_BUDGET w) = 0 then n else n + 28 + s.sh (Reg.WIDE_MAP_PER_BUDGET w)) 0)

/-- Rule 5 of R332: counts of frame descriptors against a tunnel mask. -/
def tunnelClash (count : Nat → Nat) (mask : Nat) : Bool :=
  (List.range 16).any (fun i => bit mask i && count i != 0) ||
  (match (List.range 16).find? (fun i => count i == 0) with | some i => bit mask i | none => false)

end Sys2Proof.Machine
end

