-- ==== Sys2Proof/Machine/Flask.lean ====
section
/-! DEFINITION. Flasks and the warden (13_flasks_and_warden.md R281 to R297): fencing, revive, auto-revive, records, the fence lane
and what follows a seam loss. -/

namespace Sys2Proof.Machine

/-- Is f one of the flasks of Table FLASK-1 that may be fenced? -/
def flaskOk (f : Nat) : Bool := decide (f < 54)

/-- Does flask f lie on the field die (R281)? -/
def fieldFlask (f : Nat) : Bool := fieldFlasks.contains f

/-! The fence lane (R285, R289) -/

/-- The output-hold word: the OUT masks of all fenced flasks (R289). -/
def Chip.holdWord (s : Chip) : Nat :=
  (List.range 54).foldl (fun m f => if s.active f then m else m ||| s.wk (Reg.FLASK_MEMBER_OUT f)) 0

/-- The field-flask fence word (R285). -/
def Chip.fenceWord (s : Chip) : Nat :=
  fieldFlasks.foldl (fun m f => if s.active f then m else m + 2 ^ laneBit f) 0

/-- The warden sends both words, where one of them changed or they are due afresh. -/
def Chip.laneSend (s : Chip) (afresh : Bool) : Chip :=
  let w := s.warden
  let s := s.put Reg.FLASK_OUT_HELD s.holdWord
  if afresh || s.fenceWord != w.sentFence || s.holdWord != w.sentHold then
    { s with warden := { w with sentFence := s.fenceWord, sentHold := s.holdWord, lanePend := true } }
  else s

/-- FENCE_LANE_UPDATE (R285): the field die acts on the words: Cuffs pass to the safe-policy machine, switches open, outputs take
their safe states. -/
def Chip.laneUpdate (s : Chip) : Chip :=
  if !s.coreUp || !s.fieldUp || !s.warden.lanePend then s else
  let s := { s with warden := { s.warden with laneFence := s.warden.sentFence, laneHold := s.warden.sentHold, lanePend := false } }
  let s := s.each (List.range 5) (fun s c => s.policyHandover c)
  s.fieldSettle.each [5, 6, 7, 8] (fun s ch => s.channelOpen ch)

/-! Fencing (R286 to R288) -/

/-- A flask's units stop, and the warden takes what the flask holds (Table FLASK-1, Table FLASK-3 steps 1, 3 and 5). -/
def Chip.fenceUnits (s : Chip) (f : Nat) : Chip :=
  let s :=
    if f < 32 then (((((s.abandonWait f).unwaitAll f).setEngState f 4).locksSeize f (some f)).poolReclaim f)
    else if f < 37 then s.policyHandover (f - 32)
    else if f < 41 then
      let p := f - 32
      let s := (s.portError p).portPowerOff p
      (s.setHp p { s.hp p with fenced := true }).tellTerms
    else if f = 43 ∨ f = 44 then s.canFence (f - 43)
    else if f = 51 then s.orphanAll
    else if f = 52 then
      let s := if (List.range 128).any (fun q => (s.runner q).waiters.contains 32) then { s with outcome := s.outcome.put 0 32 2 } else s
      ((s.unwaitAll 32).locksSeize 32 (some 52)).poolReclaim 32
    else s
  (s.each (List.range 128) (fun s q => s.runFence q f)).testFence f

/-- Write the fault record of a fence and raise the fence event (R297). -/
def Chip.faultRecord (s : Chip) (l : FaultLine) : Chip :=
  let i := s.get Reg.FLASK_REC_NEXT
  let n := min 63 (s.warden.n.get 0 l.flask)
  let s := if 32 ≤ s.warden.recs then s.inc Reg.FLASK_REC_OVR_CNT else s
  let s := ((((((s.put (Reg.FLASK_REC_FLASK i) l.flask).put (Reg.FLASK_REC_CAUSE i) l.cause).put (Reg.FLASK_REC_N i) n).put
    (Reg.FLASK_REC_DETAIL i) l.detail).put (Reg.FLASK_REC_WORD1 i) l.word1).put (Reg.FLASK_REC_CYC i) l.cyc).put (Reg.FLASK_REC_NS i) l.ns
  let s := { s with warden := { s.warden with recs := s.warden.recs + 1 } }
  (s.put Reg.FLASK_REC_NEXT ((i + 1) % 32)).fire 62 (l.flask + 64 * l.cause + 1024 * n + 65536 * (l.detail % 65536))

/-- The delay of an auto-revive of flask f, in ns (R296). -/
def Chip.autoDelay (s : Chip) (f : Nat) : Nat :=
  1000000 * max 1 (s.wk (Reg.FLASK_FCFG_AR_BASE f)) * 2 ^ min (s.warden.n.get 0 f - 1) (s.wk (Reg.FLASK_FCFG_AR_MAXEXP f))

/-- A fence has ended: auto-revive waits for its delay, or is given up (R296). DEDUCED: one is planned at the end of a fence only, with
AR_EN as it then stands (log entry 45). -/
def Chip.autoPlan (s : Chip) (f : Nat) : Chip :=
  if !s.wkB (Reg.FLASK_FCFG_AR_EN f) then s else
  let lim := s.wk (Reg.FLASK_FCFG_AR_LIMIT f)
  if lim ≠ 0 ∧ lim < s.warden.n.get 0 f then (s.put (Reg.FLASK_FSTAT_GAVEUP f) 1).fire 63 (detail f 0)
  else ({ s with warden := { s.warden with due := s.warden.due.put 0 f (s.ct.toNat + s.autoDelay f) } }).put (Reg.FLASK_FSTAT_AR_WAIT f) 1

/-- Flasks that working DEP masks name, fenced with cause 8 (R288). -/
def Chip.linkFence (s : Chip) (f : Nat) (dep : Nat) : Chip :=
  s.each (List.range 54) (fun s g => if bit dep g && g != f && s.active g then s.fault g 8 f 0 else s)

/-- The DEP mask of flask f. -/
def Chip.depMask (s : Chip) (f : Nat) : Nat := s.wk (Reg.FLASK_MEMBER_DEP_LO f) + 2 ^ 32 * s.wk (Reg.FLASK_MEMBER_DEP_HI f)

/-- One fence, from the latched fault to FENCED (Table FLASK-3). -/
def Chip.fenceOne (s : Chip) (l : FaultLine) : Chip :=
  let s := s.fenceUnits l.flask
  let s := if l.cause = 8 then s else s.linkFence l.flask (s.depMask l.flask)
  let s := (s.laneSend false).faultRecord l
  let s := (s.put (Reg.FLASK_FSTAT_STATE l.flask) 2).inc Reg.FLASK_FENCE_CNT
  s.autoPlan l.flask

/-- Run the fences of the latched faults, at most four at once; the others wait (R286). -/
def Chip.fenceRun (s : Chip) : Nat → Chip
  | 0 => { s with warden := { s.warden with queue := s.warden.queue ++ s.warden.lines, lines := [] } }
  | k + 1 =>
    match s.warden.lines with
    | [] => s
    | l :: t => (({ s with warden := { s.warden with lines := t } }).fenceOne l).fenceRun k

/-- The flasks that own memory with an uncorrectable error (Table FLASK-2, cause 4). -/
def ownsMemory (f : Nat) : Bool := (decide (32 ≤ f) && decide (f < 37)) || (decide (41 ≤ f) && decide (f < 45)) || f == 51 || f == 52

/-- FLASK_FENCE (R286): faults of memory that a flask owns, and every fault already latched. -/
def Chip.flaskFence (s : Chip) (faults : List FaultIn) : Chip :=
  if !s.coreUp then s else
  let s := s.each faults (fun s x => if ownsMemory x.flask.val then s.fault x.flask.val 4 0 x.addr.toNat else s)
  s.fenceRun 4

/-- FENCE_QUEUED_START (R286). -/
def Chip.fenceQueued (s : Chip) : Chip :=
  match s.warden.queue with
  | [] => s
  | l :: t =>
    if !s.coreUp then s else
    let s := ({ s with warden := { s.warden with queue := t } }).fenceOne l
    { s with warden := { s.warden with queue := s.warden.queue ++ s.warden.lines.filter (fun x => x.cause == 8 && x.detail == l.flask)
                                       lines := s.warden.lines.filter (fun x => !(x.cause == 8 && x.detail == l.flask)) } }

/-! Who may fence and revive (R292, R293) -/

/-- May requester r fence or revive flask f: an engine only as its supervisor, never its own flask? -/
def Chip.mayWarden (s : Chip) (r : Requester) (f : Nat) : Bool :=
  match r with
  | .engine e => e.val != f && s.wkB (Reg.FLASK_FCFG_SUPV_V f) && s.wk (Reg.FLASK_FCFG_SUPV_ENG f) == e.val
  | _ => true

/-- FLASK.FENCE (R292): the flask passes to FENCING at once. -/
def Chip.fenceGo (s : Chip) (r : Requester) (f : Nat) : Did :=
  if !s.mayWarden r f then (.refused, s)
  else if !flaskOk f || !s.active f then s.no r.code 8 0 0x14
  else (s.fault f 9 r.code 0).ok

/-! Revive (R294 to R296) -/

/-- Does R294 allow a revive of flask f: fenced, the seam UP for one of the field die, and no fault in this cc? -/
def Chip.mayRevive (s : Chip) (f : Nat) : Bool :=
  flaskOk f && s.get (Reg.FLASK_FSTAT_STATE f) == 2 && (!fieldFlask f || s.seamUp) && s.warden.lastFault.get 0 f != s.ctFine + 1

/-- Flask f returns to ACTIVE (R295). -/
def Chip.reviveFlask (s : Chip) (f : Nat) : Chip :=
  let s := ((s.put (Reg.FLASK_FSTAT_STATE f) 0).put (Reg.FLASK_FSTAT_CAUSE f) 0).put (Reg.FLASK_FSTAT_AR_WAIT f) 0
  let w := { s.warden with retry := clrBit s.warden.retry f, stable := setBit s.warden.stable f }
  let s := { s with warden := { w with poisonTail := setBit w.poisonTail f, revivedAt := w.revivedAt.put 0 f s.ct.toNat } }
  let s := (s.inc Reg.FLASK_REVIVE_CNT).locksRevive f
  let s := s.each (List.range 128) (fun s q => s.runRevive q f)
  let s := s.laneSend false
  if f < 32 then
    let s := s.setEngState f 0
    if s.wkB (Reg.FLASK_FCFG_START f) then (s.engClear f).engStart f else s
  else if fieldFlask f then s.fieldAct (.unit 8 f 0 0)
  else if f = 43 ∨ f = 44 then s.canRejoin (f - 43)
  else s

/-- FLASK.REVIVE (R293, R294): it cancels a pending auto-revive. -/
def Chip.reviveGo (s : Chip) (r : Requester) (f : Nat) : Did :=
  if !s.mayWarden r f then (.refused, s)
  else if !s.mayRevive f then s.no r.code 8 0 0x10
  else (s.reviveFlask f).ok

/-- FLASK.AR_CLR (R296). -/
def Chip.arClr (s : Chip) (f : Nat) : Did :=
  if !flaskOk f then s.ok else
  ((({ s with warden := { s.warden with n := s.warden.n.put 0 f 0 } }).put (Reg.FLASK_FSTAT_N f) 0).put (Reg.FLASK_FSTAT_GAVEUP f) 0).ok

/-- A pending auto-revive of flask f acts (R296): the flask is revived, or to be retried in 1 ms while R294 refuses. -/
def Chip.autoAct (s : Chip) (f : Nat) : Chip :=
  if !s.wkB (Reg.FLASK_FCFG_AR_EN f) then s.put (Reg.FLASK_FSTAT_AR_WAIT f) 0
  else if s.mayRevive f then (s.reviveFlask f).inc Reg.FLASK_AR_CNT
  else { s with warden := { s.warden with retry := setBit s.warden.retry f, due := s.warden.due.put 0 f (s.ct.toNat + 1000000) } }

/-- AUTO_REVIVE (R296): the delay of flask f ends. -/
def Chip.autoRevive (s : Chip) (f : Nat) : Chip :=
  if !s.coreUp || !flaskOk f || !s.flag (Reg.FLASK_FSTAT_AR_WAIT f) || bit s.warden.retry f then s
  else (s.timeTo (s.warden.due.get 0 f)).autoAct f

/-- The flasks whose auto-revive is retried. -/
def Chip.retrying (s : Chip) : List Nat := (List.range 54).filter (fun f => bit s.warden.retry f && s.flag (Reg.FLASK_FSTAT_AR_WAIT f))

/-- AUTO_REVIVE_RETRY (R296): the next retry that falls due, and with it every other due by then. -/
def Chip.autoRetry (s : Chip) : Chip :=
  match s.retrying.map (fun f => s.warden.due.get 0 f) with
  | [] => s
  | d :: t =>
    if !s.coreUp then s else
    let s : Chip := s.timeTo (t.foldl min d)
    s.each s.retrying (fun s f => if s.warden.due.get 0 f ≤ s.ct.toNat then s.autoAct f else s)

/-- AR_STABLE_EXPIRE (R296): flask f has run free of faults for AR_STABLE seconds since its revive. -/
def Chip.arStable (s : Chip) (f : Nat) : Chip :=
  if s.coreUp && s.active f && bit s.warden.stable f then
    let s : Chip := s.timeTo (s.warden.revivedAt.get 0 f + 1000000000 * max 1 (s.wk (Reg.FLASK_FCFG_AR_STABLE f)))
    ({ s with warden := { s.warden with n := s.warden.n.put 0 f 0, stable := clrBit s.warden.stable f } }).put (Reg.FLASK_FSTAT_N f) 0
  else s

/-! Pours, marks, seam -/

/-- After a pour of PG5 (R290, R296): new DEP bits of the flasks fenced before it act, the hold word follows, a cleared AR_EN cancels. -/
def Chip.pourFlasks (s before : Chip) : Chip :=
  let s := s.each (List.range 54) (fun s f =>
    let s := if before.active f then s else s.linkFence f (s.depMask f - (s.depMask f &&& before.depMask f))
    if s.flag (Reg.FLASK_FSTAT_AR_WAIT f) && !s.wkB (Reg.FLASK_FCFG_AR_EN f) then
      ({ s with warden := { s.warden with retry := clrBit s.warden.retry f } }).put (Reg.FLASK_FSTAT_AR_WAIT f) 0
    else s)
  s.laneSend false

/-- Is window w sent with POISONED: its flask is fenced, or revived since the last mark (R282, R295)? -/
def Chip.winPoisoned (s : Chip) (w : Nat) : Bool :=
  let f := s.wk (Reg.GATE_WIN_FLASK w)
  flaskOk f && (!s.active f || bit s.warden.poisonTail f)

/-- SEAM_UP_RESUME (R285, R291): with the seam UP again the warden fences the marked flasks with cause 7 as one fence, records
each, raises seam-loss once, and sends its words afresh. -/
def Chip.seamResume (s : Chip) : Chip :=
  if !s.coreUp || !s.seamUp || !(s.seam.lossKnown || s.warden.afresh) then s else
  let s := s.lossReported
  let before := s
  let marked := fieldFlasks.filter (fun f => bit s.seam.marks f)
  let fresh := marked.filter (fun f => s.active f)
  let s := s.each marked (fun s f => s.fault f 7 0 0)
  let mine := s.warden.lines.filter (fun l => fresh.contains l.flask && l.cause == 7)
  let s := { s with
    warden := { s.warden with lines := s.warden.lines.filter (fun l => !(fresh.contains l.flask && l.cause == 7)), afresh := false }
    seam := { s.seam with lossKnown := false } }
  let loss := before.seam.lossKnown || !marked.isEmpty
  let s := s.each mine (fun s l => s.fenceOne l)
  (if loss then s.fire 46 0 else s).laneSend true

end Sys2Proof.Machine
end

