-- ==== Sys2Proof/Machine/ChainBase.lean ====
section
/-! DEFINITION. Roles, ports and conditions of the node in its chain (01_node_and_chain.md R9 to R14,
07_chain_topology_and_heads.md R160, R165). -/

namespace Sys2Proof.Machine

/-- Is the node a head, or a reserve acting as one (Table CHAIN-4, STAT.ROLE)? -/
def Chip.isHead (s : Chip) : Bool := s.get Reg.CHAIN_STAT_ROLE == 1 || s.get Reg.CHAIN_STAT_ROLE == 3

/-- The headward port of a node that has received a CYC (R14). -/
def Chip.headPort (s : Chip) : Option Nat :=
  if s.isHead || !s.flag Reg.CLK_STATUS_EN then none
  else if !s.linkTailward 0 then some 0 else if !s.linkTailward 1 then some 1 else none

/-- The tailward port: on a head the port that carries ring 0, on a member the port that is not headward (R14). -/
def Chip.tailPort (s : Chip) : Option Nat :=
  if s.linkTailward 0 then some 0 else if s.linkTailward 1 then some 1 else none

/-- Width of the tailward link, 1 or 2; 1 while it has none. -/
def Chip.tailWidth (s : Chip) : Nat :=
  match s.tailPort with | some p => max 1 (s.get (Reg.LINK_STAT_WIDTH p)) | none => 1

/-- Base of an epoch buffer: false 0x000C_8000, true 0x000D_2000 (R151). -/
def epochBase (sel : Bool) : Nat := if sel then 0xD2000 else 0xC8000

/-- Has the node the tail condition (R11): it folds, and its tailward port has not completed training since? -/
def Chip.tailCond (s : Chip) : Bool := s.folded && !s.chain.lift && !s.isHead

/-- Is the node a READY reserve (R165)? -/
def Chip.ready (s : Chip) : Bool :=
  s.get Reg.CHAIN_STAT_ROLE == 2 && s.wkB Reg.CHAIN_CFG_RSV_EN && s.chain.complete && s.flag Reg.CHAIN_STAT_ADDR_VALID &&
  (match s.headPort with | some p => s.linkActive p | none => false) && s.tailCond &&
  (s.rdw (epochBase s.chain.sel + 12)).toNat == 1

/-- Bring the shown conditions of CHAIN up to date: READY, TAIL, JOIN, BRIDGE, and the fold residence of a tail. -/
def Chip.chainShow (s : Chip) : Chip :=
  let s := s.putB Reg.CHAIN_STAT_READY s.ready
  let s := s.put Reg.CHAIN_FOLD_RES (if s.tailCond then Sys2Proof.Config.foldResidence.toNat else 0)
  let s := s.putB Reg.CHAIN_STAT_TAIL s.tailCond
  let s := s.putB Reg.CHAIN_STAT_JOIN (s.chain.join != 0)
  s.putB Reg.CHAIN_INFO3_BRIDGE (s.wkB Reg.CHAIN_CFG_BR_EN && !s.isHead)

/-- The fold lifts (R11, R163). -/
def Chip.unfold (s : Chip) : Chip :=
  ({ s with folded := false, chain := { s.chain with lift := false } }).chainShow

/-- Port p is ACTIVE and tailward (R11, R163): a partner of rank 0 or 1 makes it a join link, which keeps the fold; else the fold
lifts at the next mark. -/
def Chip.tailLink (s : Chip) (p : Nat) : Chip :=
  if (s.gl p).rank ≤ 1 then
    (({ s with chain := { s.chain with join := setBit s.chain.join p } }).fire 44 (detail p 0)).chainShow
  else if s.folded then ({ s with chain := { s.chain with lift := true } }).chainShow
  else s.chainShow

end Sys2Proof.Machine
end

