-- ==== Sys2Proof/Machine/Pour.lean ====
section
/-! DEFINITION. Pours, withdraws and arms (03_register_model.md R58 to R66), with the checks that blocks state for them. -/

namespace Sys2Proof.Machine

/-! Checks of PG0 (06_cycle_frames_and_gate.md R141, R148) and of the lane budget (05_gleshline_link.md R104) -/

/-- Code-groups per lane of one cycle for frames (R104): the period, less CYC and the guard. -/
def laneBudget (period : Nat) : Nat := period / 4 - 518

/-- Bytes of frame f of the slot map under a reading of the tables; COUNT is 0 to 64 (Table GATE-7). -/
def mapBytes (rd : Fld → Nat) (f : Nat) : Nat :=
  (List.range (min 64 (rd (Reg.GATE_FRAME_CTL_COUNT f)))).foldl (fun n d => n + 16 + rd (Reg.GATE_SLOT_LEN (64 * f + d))) 8

/-- Code-groups per lane of a frame of n bytes with its END (R104). -/
def frameCost (width n : Nat) : Nat := (n + width - 1) / width + 2

/-- Code-groups per lane of the normal frames of the slot map. -/
def mapCost (rd : Fld → Nat) (width : Nat) : Nat :=
  (List.range 16).foldl (fun n f =>
    if rd (Reg.GATE_FRAME_CTL_COUNT f) = 0 ∨ rd (Reg.GATE_FRAME_CTL_URG f) ≠ 0 then n else n + frameCost width (mapBytes rd f)) 0

/-- R148. -/
def slotMapBad (rd : Fld → Nat) (width period : Nat) : Bool :=
  (List.range 16).any (fun f => decide ((if rd (Reg.GATE_FRAME_CTL_URG f) = 0 then 4096 else 512) < mapBytes rd f)) ||
  decide (laneBudget period < mapCost rd width + 524)

/-- Fields of the slot map and FRAME_CTL (R148). -/
def slotFields : List Fld :=
  (List.range 16).flatMap (fun f => [Reg.GATE_FRAME_CTL_COUNT f, Reg.GATE_FRAME_CTL_URG f]) ++
  (List.range 1024).flatMap (fun d => [Reg.GATE_SLOT_HDR d, Reg.GATE_SLOT_TARGET d, Reg.GATE_SLOT_LEN d, Reg.GATE_SLOT_RET d, Reg.GATE_SLOT_BUF d])

/-- Do two ranges of enabled windows of one direction meet? -/
def winMeet (a n b m : Nat) : Bool := decide (a < b + m) && decide (b < a + n)

/-- R141. -/
def windowsBad (rd : Fld → Nat) : Bool :=
  let ws := (List.range 128).filter (fun w => rd (Reg.GATE_WIN_EN w) != 0)
  let len := fun w => 4 * rd (Reg.GATE_WIN_LEN w)
  ws.any (fun w =>
    decide (0x4000 < rd (Reg.GATE_WIN_LOCAL w) + len w) ||
    ws.any (fun v => v != w && rd (Reg.GATE_WIN_DIR v) == rd (Reg.GATE_WIN_DIR w) &&
      (winMeet (rd (Reg.GATE_WIN_LOGICAL w)) (len w) (rd (Reg.GATE_WIN_LOGICAL v)) (len v) ||
       winMeet (rd (Reg.GATE_WIN_LOCAL w)) (len w) (rd (Reg.GATE_WIN_LOCAL v)) (len v)))) ||
  decide (1024 < ws.foldl (fun n w => if rd (Reg.GATE_WIN_LIVE w) = 0 then n else n + len w) 0)

/-- Rule 5 of R332. -/
def tunnelIndexBad (rd : Fld → Nat) : Bool := tunnelClash (fun i => rd (Reg.GATE_FRAME_CTL_COUNT i)) (rd Reg.WIDE_TUN_TUN_MASK)

/-- Rule 6 of R332. -/
def tunnelBudgetBad (rd : Fld → Nat) (width period : Nat) : Bool :=
  let tun := (List.range 16).foldl (fun n i =>
    if bit (rd Reg.WIDE_TUN_TUN_MASK) i then n + frameCost width (rd Reg.WIDE_TUN_TUN_BYTES) else n) 0
  decide (laneBudget period < mapCost rd width + tun + 524 + 64)

/-! The check of PG4 (12_locks_buffers_messages.md R279) -/

/-- R279: the effective depth of a DEPTH value. -/
def mbxEffective (d : Nat) : Nat := if d = 0 then 1 else d

/-- R279. -/
def Chip.mbxBad (s : Chip) : Bool :=
  (List.range 64).any (fun m =>
    decide (0 < (s.mbx m).count + (s.mbx m).resv) &&
    (s.sh (Reg.SYNC_MBX_CFG_KIND m) != s.wk (Reg.SYNC_MBX_CFG_KIND m) ||
     mbxEffective (s.sh (Reg.SYNC_MBX_CFG_DEPTH m)) != mbxEffective (s.wk (Reg.SYNC_MBX_CFG_DEPTH m))))

/-! All checks of a pour of a mask -/

/-- The chip with its shadows as the working values would be after a pour of a mask. -/
def Chip.after (s : Chip) (mask : Nat) : Chip := { s with shadow := SMap.overlay (pourKey mask) s.shadow s.work }

/-- Fields of the sample sequences (18_measurement.md R403). -/
def seqFields : List Fld :=
  [0, 1].flatMap (fun k => [Reg.MEAS_SEQ k, Reg.MEAS_SEQ_REP_INTERVAL k, Reg.MEAS_SEQ_REP_COUNT k, Reg.MEAS_SEQ_REP_LEN k] ++
    (List.range 64).flatMap (fun e => [Reg.MEAS_ENTRY_SOURCE k e, Reg.MEAS_ENTRY_OSR k e, Reg.MEAS_ENTRY_DEST k e]))

/-- Would any block's check refuse a pour of the mask, judged on the values in force after it (R60, R62 item 5)? -/
def Chip.pourBad (s : Chip) (mask : Nat) : Bool :=
  let a := s.after mask
  let period := periodNs (a.sh Reg.CLK_CYCLE)
  let w := s.tailWidth
  let changed (l : List Fld) : Bool := l.any (fun f => a.sh f != s.wk f)
  (bit mask 0 && ((changed ((List.range 128).flatMap (fun w => Reg.GATE_WIN_LOGICAL w :: winFields w)) && windowsBad a.sh) ||
    (changed slotFields && slotMapBad a.sh w period) ||
    (s.isHead && (tunnelIndexBad a.sh || tunnelBudgetBad a.sh w period)))) ||
  (bit mask 2 && (a.claimsBad || s.loadArmed)) ||
  (bit mask 4 && s.mbxBad) ||
  (bit mask 7 && (if s.isHead then a.wideBad period || tunnelIndexBad a.sh || tunnelBudgetBad a.sh w period else s.busBad a.sh period)) ||
  (bit mask 10 && changed seqFields && a.measBad period) ||
  (bit mask 12 && a.pinBad) ||
  (bit mask 13 && s.canBad)

/-- The further checks of an arm that names PG15 (02_clocks_and_chain_time.md R44, R332, R333, R403). -/
def Chip.periodBad (s : Chip) (mask target : Nat) : Bool :=
  let a := s.after mask
  let code := a.sh Reg.CLK_CYCLE
  let period := periodNs code
  decide (period ≤ a.sh Reg.CLK_APPLY) || a.measBad period ||
  (if s.isHead then
    decide (5 ≤ code) || (s.wk Reg.CLK_CYCLE == 0 && (sub32 target (s.get Reg.CLK_CYC_NUM) + s.clk.sofDiv) % 2 == 1) ||
      ivlBad a.sh period || tunnelBudgetBad a.sh s.tailWidth period
   else s.busBad a.sh period)

/-! Pours and withdraws -/

/-- Groups that hold double tables (R59): PG0, PG2, PG5, PG7, PG13, PG14, and PG10 by the chapter's case. -/
def tableGroups : Nat := 2 ^ 0 + 2 ^ 2 + 2 ^ 5 + 2 ^ 7 + 2 ^ 10 + 2 ^ 13 + 2 ^ 14

/-- Groups with fields on the field die. -/
def fieldGroups : Nat := 2 ^ 8 + 2 ^ 9 + 2 ^ 10 + 2 ^ 11 + 2 ^ 12

/-- The groups of a mask pour on the core die (R58, R60, R65, R214): fields and tables take their new working values, and what the units
do with new values follows. -/
def Chip.pourCore (s : Chip) (mask : Nat) : Chip :=
  let before := s
  let s := { s with work := SMap.overlay (pourKey mask) s.shadow s.work }
  let s := s.put Reg.SYS_REFILL (s.get Reg.SYS_REFILL ||| (mask &&& tableGroups))
  let s := if bit mask 0 then s.pourWindows before else s
  let s := if bit mask 2 then s.pourEngines before else s
  let s := if bit mask 4 then s.poolServe 32 else s
  let s := if bit mask 5 then s.pourFlasks before else s
  let s := if bit mask 6 then (s.each [1, 2, 3, 4, 5, 6, 7, 8] (fun s p => s.portShow p)).hubAuto.tellTerms else s
  let s := if bit mask 7 then (s.pourWide before).tellTerms else s
  let s := if bit mask 12 then s.releasePads else s
  let s := if bit mask 0 ∨ bit mask 1 ∨ bit mask 15 then { s with chain := { s.chain with due := true } } else s
  (s.inc Reg.SYS_POUR_CNT).chainShow

/-- The groups of a mask pour, and the field die is told (R60). -/
def Chip.pour (s : Chip) (mask : Nat) : Chip :=
  (if mask &&& fieldGroups = 0 then s else s.fieldAct (.pour (mask &&& fieldGroups))).pourCore mask

/-- The groups of a mask lose their shadows (R61); pending starts and halts of PG2 go with them (R214). -/
def Chip.unshadow (s : Chip) (mask : Nat) : Chip :=
  let s := { s with shadow := SMap.overlay (pourKey mask) s.work s.shadow }
  let s := s.put Reg.SYS_REFILL (s.get Reg.SYS_REFILL ||| (mask &&& tableGroups))
  let s := if mask &&& fieldGroups = 0 then s else s.fieldAct (.withdraw (mask &&& fieldGroups))
  if bit mask 2 then s.each (List.range 32) (fun s e => (s.put (Reg.ENG_STAT_ARM_START e) 0).put (Reg.ENG_STAT_ARM_HALT e) 0) else s

/-- A local pour (R60): PG15 in its mask counts as 0 (R44). -/
def Chip.localPour (s : Chip) (r mask : Nat) : Did :=
  let m := clrBit mask 15
  if m &&& s.get Reg.SYS_ARMED ≠ 0 ∨ m &&& s.get Reg.SYS_REFILL ≠ 0 ∨ s.pourBad m then s.no r 0 0 0x100
  else (s.pour m).ok

/-- SYS.WITHDRAW (R61, Table REGS-6). -/
def Chip.withdrawGo (s : Chip) (r mask : Nat) : Did :=
  if mask &&& s.get Reg.SYS_ARMED ≠ 0 ∨ mask &&& s.get Reg.SYS_REFILL ≠ 0 then s.no r 0 0 0x104 else (s.unshadow mask).ok

/-- REFILL_COMPLETE (R59). -/
def Chip.refillDone (s : Chip) (g : Nat) : Chip := s.put Reg.SYS_REFILL (clrBit (s.get Reg.SYS_REFILL) g)

/-! The chain-wide pour -/

/-- May the node arm (R62)? `cyc` is the cycle that carries the slot. -/
def Chip.mayArm (s : Chip) (mask target cyc : Nat) : Bool :=
  let d := sub32 target cyc
  !s.arm.on && mask &&& s.get Reg.SYS_REFILL == 0 && !s.seamPend && decide (2 ≤ d) && decide (d < 2 ^ 31) &&
  !s.pourBad mask && !(bit mask 15 && s.periodBad mask target)

/-- Arm (R62). -/
def Chip.armNow (s : Chip) (mask target : Nat) (held : Bool) : Chip :=
  ({ s with arm := { s.arm with on := true, held := held, accepted := false } }.put Reg.SYS_ARMED mask).put Reg.SYS_ARM_CYC target

/-- The arm ends without action: only its marks go. -/
def Chip.disarm (s : Chip) : Chip :=
  ({ s with arm := { s.arm with on := false, held := false, accepted := false } }.put Reg.SYS_ARMED 0).put Reg.SYS_ARM_CYC 0

/-- The node withdraws its arm as R61 says (R63). -/
def Chip.armWithdraw (s : Chip) : Chip :=
  if s.arm.on then (s.disarm).unshadow (s.get Reg.SYS_ARMED) else s

/-- The target passes without a pour (R64). -/
def Chip.armLapse (s : Chip) : Chip := ((s.armWithdraw).inc Reg.SYS_LAPSE_CNT).fire 40 0

/-- The node takes the pour for which it is armed (R63), and the field die holds it for its own mark (R65). -/
def Chip.armAccept (s : Chip) : Chip :=
  let m := s.get Reg.SYS_ARMED &&& fieldGroups
  let s := { s with arm := { s.arm with accepted := true } }
  if m = 0 then s else s.fieldAct (.arm m (s.get Reg.SYS_ARM_CYC))

/-- The armed groups pour (R65), the field die's at its own mark; a head's request is then DONE, unless a member fell short (R66). -/
def Chip.armPour (s : Chip) : Chip :=
  let m := s.get Reg.SYS_ARMED
  let s := (s.disarm).pourCore m
  if s.get Reg.SYS_CH_STAT_STATE = 2 then s.put Reg.SYS_CH_STAT_STATE 3 else s

/-- What the mark of a cycle number does to the arm (R63 to R65). -/
def Chip.armMark (s : Chip) (n : Nat) : Chip :=
  if !s.arm.on then s else
  let target := s.get Reg.SYS_ARM_CYC
  if n = target then (if s.arm.accepted then s.armPour else s.armLapse)
  else if later target n then s else s.armLapse

/-- ARMED_POUR (R65): at the target mark of an accepted pour. -/
def Chip.armedPour (s : Chip) : Chip :=
  if s.coreUp && s.arm.on && s.arm.accepted && s.get Reg.CLK_CYC_NUM == s.get Reg.SYS_ARM_CYC then s.armPour else s

/-- POUR_LAPSE (R64): the target has come or passed without a pour. -/
def Chip.pourLapse (s : Chip) : Chip :=
  if s.coreUp && s.arm.on && !later (s.get Reg.SYS_ARM_CYC) (s.get Reg.CLK_CYC_NUM) &&
    !(s.arm.accepted && s.get Reg.CLK_CYC_NUM == s.get Reg.SYS_ARM_CYC) then s.armLapse else s

/-- A pour slot for this node's arm (R63): accepted before its target mark, else refused and the arm withdrawn. Answers whether
the node acts. -/
def Chip.armFits (s : Chip) (mask target : Nat) : Bool :=
  s.arm.on && mask == s.get Reg.SYS_ARMED && target == s.get Reg.SYS_ARM_CYC

/-- The cycle whose first frame carries a request made now: the next one, which is cycle 0 before a head's first CYC (R66,
02_clocks_and_chain_time.md R40). -/
def Chip.nextCyc (s : Chip) : Nat := if s.clk.sentCyc then (s.get Reg.CLK_CYC_NUM + 1) % 2 ^ 32 else 0

/-- SYS.CH_GO (R66): MASK, LEAD and STATION. A request that waits for its cycle gives way to a later one (DESIGN CHOICE, log entry 33). -/
def Chip.chGo (s : Chip) (r v : Nat) : Did :=
  let lead := bits v 19 16
  let st := s.get Reg.SYS_CH_STAT_STATE
  if !s.isHead ∨ st = 1 ∨ st = 2 ∨ lead < 2 then s.no r 0 0 0x118 else
  let s := { s with arm := { s.arm with mask := bits v 15 0, lead := lead, station := bits v 29 20, wait := true } }
  (s.put Reg.SYS_CH_TARGET (s.nextCyc + lead)).ok

end Sys2Proof.Machine
end

