-- ==== Sys2Proof/Machine/GateBase.lean ====
section
/-! DEFINITION. The handling of one frame at the gate: what a frame that fails gives back (06_cycle_frames_and_gate.md R135, R136,
R143 to R145), and the deferred reads a mark ends (R134). -/

namespace Sys2Proof.Machine

/-- Set the gate. -/
def Chip.setGate (s : Chip) (g : Gate) : Chip := { s with gate := g }

/-- Set the frame being handled. -/
def Chip.setRun (s : Chip) (r : FrameRun) : Chip := { s with gate := { s.gate with run := r } }

/-- What a discarded log entry gives back (R136, 12_locks_buffers_messages.md R275): a reserved entry with its buffer, an arm, a proposal. -/
def Chip.logRelease (s : Chip) (o : LogOp) : Chip :=
  match o with
  | .mbxPut m buf _ => ((s.setMbx m { s.mbx m with resv := (s.mbx m).resv - 1 }).poolPush buf).poolServe 32
  | .arm => if s.arm.held then s.disarm else s
  | .propose => if s.get Reg.CHAIN_SLEEP_STAT_STATE = 1 then s.proposeOver else s
  | _ => s

/-- A frame's commit log is discarded (R145). -/
def Chip.logDrop (s : Chip) (r : FrameRun) : Chip := s.each r.log (fun s o => s.logRelease o)

/-- A frame that a CYC cuts fails its CRC (05_gleshline_link.md R100, R145); one the gate left alone is not counted. -/
def Chip.cutRun (s : Chip) (r : FrameRun) : Chip := if r.shut then s.logDrop r else (s.logDrop r).inc Reg.GATE_FCRC_CNT

/-- A mark cuts the frame in progress, and the normal frame it may have broken into. -/
def Chip.frameCut (s : Chip) : Chip :=
  let s := if s.gate.run.begun then s.cutRun s.gate.run else s
  let s := s.setRun {}
  match s.gate.saved with
  | some r => ((s.cutRun r).setGate { (s.cutRun r).gate with saved := none, urgEnd := false }).put Reg.GATE_STAT_SAVED 0
  | none => s

/-- Is a frame in progress on port p, so that nothing but its data, PRE, RES and END may stand there (05_gleshline_link.md R99)? -/
def Chip.frameOpen (s : Chip) (p : Nat) : Bool := s.headPort == some p && (s.gate.run.begun || s.gate.saved.isSome)

/-- So many ordered sets stood where R99 allows none: each counts as an invalid code-group on each lane in use (05_gleshline_link.md R97). -/
def Chip.codeGroups (s : Chip) (p n : Nat) : Chip :=
  let s := s.add (Reg.LINK_CG_ERR0 p) n
  if s.get (Reg.LINK_STAT_WIDTH p) = 2 then s.add (Reg.LINK_CG_ERR1 p) n else s

/-- An ordered set stands where R99 allows none (05_gleshline_link.md R97, R99): it counts as an invalid code-group on each lane in use, K30.7
goes on in its place, and the frame it stands in fails its CRC. -/
def Chip.codeBad (s : Chip) (p : Nat) : Chip :=
  let s := s.codeGroups p 1
  match s.gate.saved with
  | some r => if s.gate.urgEnd then s.setGate { s.gate with saved := some { r with broken := true } }
    else s.setRun { s.gate.run with broken := true }
  | none => if s.gate.run.begun then s.setRun { s.gate.run with broken := true } else s

/-- Deferred reads that no slot of the next cycle picked up are discarded at the mark that ends it (R134). -/
def Chip.deferMark (s : Chip) (n : Nat) : Chip :=
  let lost := s.gate.held.filter (fun d => decide (2 ≤ sub32 n d.cyc))
  (s.setGate { s.gate with held := s.gate.held.filter (fun d => decide (sub32 n d.cyc < 2)), defers := 0 }).add
    Reg.GATE_DEF_LOST_CNT lost.length

end Sys2Proof.Machine
end

