-- ==== Sys2Proof/Machine/Clock.lean ====
section
/-! DEFINITION. Chain time, marks and the synchronisation of a member (02_clocks_and_chain_time.md R33 to R47, R65,
05_gleshline_link.md R100, R102, 08_process_image.md R177 to R185, 04_power_up_to_service.md R91). -/

namespace Sys2Proof.Machine

/-! Chain time -/

/-- The instant at which the next mark is predicted. -/
def Chip.predicted (s : Chip) : Nat := s.clk.markNs + s.period

/-- Chain time at the arrival of a mark: steps of the idle clock that came within 2,000 ns of the predicted instant stand as they are;
else the time up to the prediction has passed unseen (log entry 2). -/
def Chip.timeToMark (s : Chip) : Chip := if s.ct.toNat + 2000 < s.predicted then s.timeTo s.predicted else s

/-- HELD (R180): a member that serves, and so swaps, is past the predicted instant of its mark and has not made it. -/
def Chip.held (s : Chip) : Bool := !s.isHead && s.steered && s.clk.serving && decide (s.predicted < s.ct.toNat)

/-- One cc of chain time on the core die (R33): 2.5 ns adjusted by the steering term, in ppb. -/
def Chip.ctTick (s : Chip) : Chip := s.setFine ((s.ctFine + ccSpan (signed 24 (s.get Reg.CLK_FREQ_ADJ))) % 2 ^ 96)

/-- One cc of the field die's copy, at its last steering (R39). -/
def Chip.fieldTick (s : Chip) : Chip := s.fieldPass (ccSpan (signed 24 s.fTime.adj))

/-! The mark -/

/-- The node begins to serve at the first mark at which every condition holds (R91). -/
def Chip.serveCheck (s : Chip) : Chip :=
  if !s.clk.serving && s.get Reg.SYS_BOOT_STATE == 5 && s.steered && s.flag Reg.CHAIN_STAT_ADDR_VALID then
    (({ s with clk := { s.clk with serving := true } }).put Reg.GATE_STAT_SERVING 1).put Reg.CHAIN_INFO3_SERVING 1
  else s

/-- In the swap cc every image-fed setpoint is queued on the seam with its window's IMG_STALE state (R185). -/
def Chip.imageSetpoints (s : Chip) : Chip :=
  s.each (List.range 12) (fun s o =>
    if s.wk (Reg.DRV_CFG_SRC o) = 1 then
      let x := s.wk (Reg.DRV_CFG_IMG o)
      s.sendSetpoint o ⟨(s.ldw (0x8000 + x)).toNat % 65536, s.outStale x, true, s.applyEra⟩
    else s)

/-- The wide hub at a mark: the frame number on served ports (R337), poll results, its own ports' state, and the age of each port's last slot (15_wide_hub_tunnel.md R334, R342). -/
def Chip.wideMark (s : Chip) : Chip :=
  let s := { s with wide := { s.wide with frame := s.get Reg.CLK_CYC_NUM * s.period / 1000000 % 2048 } }
  if !s.tunnels then s else
  let ws := ((List.range 254).map (· + 2)).filter (fun w => s.mapped w)
  s.pollMark.each ws (fun s w => if s.ownEntry w then s.copyOwn w else s.setWp w { s.wp w with age := (s.wp w).age + 1 })

/-- The field die's own mark (R46, R65): what it holds for this mark pours, and the apply instant follows the offset in force. -/
def Chip.fieldMark (s : Chip) (n : Nat) : Chip :=
  if !s.fieldUp then s else
  let s := match s.fArm with
    | some (m, t) => if t = n then ({ s with fArm := none }).fieldTake m else s
    | none => s
  { s with clk := { s.clk with fMarked := true, fCyc := n, fApply := s.clk.headNs + s.wk Reg.CLK_APPLY } }

/-- The mark of the present cycle number (R65, R91, R177, R179, R480, 13_flasks_and_warden.md R295, 18_measurement.md R416): a cut frame fails,
deferred reads end, the arm is judged, the node may begin to serve, and while it serves and is steered it swaps. -/
def Chip.mark (s : Chip) : Chip :=
  let n := s.get Reg.CLK_CYC_NUM
  let s := (((s.frameCut).deferMark n).armMark n).fieldMark n
  let s := s.serveCheck
  let s := if s.clk.serving && s.steered then
      let s := (s.swap).imageSetpoints
      let s := { s with pin := { s.pin with mark := true, markAt := s.ct.toNat } }
      s.telemetry
    else s
  let s := { s with
    warden := { s.warden with poisonTail := 0 }, meas := { s.meas with stopped := 0 } }
  let s := ((s.tellHold).grantMarks).wideMark
  if s.chain.lift then s.unfold else s

/-- APPLY_INSTANT (R46): the field die acts on the setpoints it holds when its copy of chain time reaches the instant, once for each
mark, while by its last word the node is steered (R36). -/
def Chip.applyInstant (s : Chip) : Chip :=
  if !s.fieldUp || !s.clk.fMarked || !s.clk.fSteered then s else
  let s := s.fieldTimeTo s.clk.fApply
  let s := { s with clk := { s.clk with applied := s.clk.fCyc + 1, fMarked := false }, pin := { s.pin with apply := true, applyAt := s.ct.toNat } }
  s.drvApply

/-! The cycle mark on the wire -/

/-- A body with its CRC-16 behind it (R96). -/
def bodySealed (b : List (BitVec 8)) : List (BitVec 8) := b ++ natBytes 2 (crc16 0xFFFF b).toNat

/-- Body of a CYC (Table LINK-1). -/
def cycBody (ct num code : Nat) (usb : Bool) (ring : Nat) : List (BitVec 8) :=
  bodySealed (natBytes 8 ct ++ natBytes 4 num ++ natBytes 1 (code + 8 * b2n usb + 16 * ring) ++ natBytes 1 0)

/-- Body of an SLP (Table LINK-1). -/
def slpBody (cyc : Nat) : List (BitVec 8) := bodySealed (natBytes 4 cyc)

/-- Is a body's CRC-16 good (R96)? `n` is the body's length. -/
def bodyOk (n : Nat) (b : List (BitVec 8)) : Bool :=
  b.length == n && leNat (b.drop (n - 2)) == (crc16 0xFFFF (b.take (n - 2))).toNat

/-- A CYC body as a bridge member passes it on: with another ring ID and a new CRC-16 (07_chain_topology_and_heads.md R159). -/
def cycWithRing (body : List (BitVec 8)) (ring : Nat) : List (BitVec 8) :=
  let v := leNat ((body.drop 12).take 1)
  bodySealed (body.take 12 ++ natBytes 1 (v - 16 * (v / 16 % 4) + 16 * ring) ++ (body.drop 13).take 1)

/-- The port on which an ordered set leaves that a member passes on from port p: the other port, or p where the node folds (R11). -/
def Chip.passPort (s : Chip) (p : Nat) : Option Nat :=
  if s.isHead then none
  else if s.linkActive (1 - p) && !bit s.chain.join (1 - p) then some (1 - p)
  else if s.folded && s.linkActive p then some p else none

/-- A member passes on the CYC that came on port p (05_gleshline_link.md R102); a bridge member rewrites its ring tailward (R159). -/
def Chip.passCyc (s : Chip) (p : Nat) (body : List (BitVec 8)) : Chip :=
  match s.passPort p with
  | some q =>
    let b := if q ≠ p ∧ s.wkB Reg.CHAIN_CFG_BR_EN ∧ bodyOk 16 body then cycWithRing body (s.wk Reg.CHAIN_CFG_BR_RING) else body
    s.setGl q { s.gl q with cycOut := b }
  | none => s

/-- Lock-lost, on each exit from LOCKED, to the state of the given code (Table CLK-4). -/
def Chip.leaveLocked (s : Chip) (next : Nat) : Chip := if s.get Reg.CLK_STATUS_SYNC = 2 then s.fire 37 (detail 0 next) else s

/-- USB_LOCK takes a value, with its event on a change (R43). -/
def Chip.usbLock (s : Chip) (v : Bool) : Chip :=
  if s.flag Reg.CLK_STATUS_USB_LOCK == v then s else (s.putB Reg.CLK_STATUS_USB_LOCK v).fire 38 (detail 0 (b2n v))

/-- Enter ACQUIRE (Table CLK-4): the count of marks starts again. -/
def Chip.enterAcquire (s : Chip) : Chip :=
  let s := s.leaveLocked 1
  ({ s with clk := { s.clk with inWin := 0, stepped := false, acqMarks := 0, freqOk := false } }).put Reg.CLK_STATUS_SYNC 1

/-- The steering term, which the servo sets from what it measures: a free value (log entry 6), within a bound in ppb (Table CLK-4, R43). -/
def Chip.steer (s : Chip) (bound : Nat) : Chip :=
  (s.put Reg.CLK_FREQ_ADJ (unsigned 24 ((s.free % (2 * bound + 1) : Nat) - (bound : Int)))).drew

/-- The member drops the address of its old ring (07_chain_topology_and_heads.md R159). -/
def Chip.dropAddr (s : Chip) : Chip :=
  let s := ((s.put Reg.CHAIN_STAT_ADDR_VALID 0).put Reg.CHAIN_ADDR_STATION 0).put Reg.CHAIN_ADDR_RING 0
  (((s.put Reg.CHAIN_INFO3_ADDR_VALID 0).put Reg.CHAIN_INFO3_STATION 0).put Reg.CHAIN_INFO3_RING 0).hubAuto.chainShow

/-- What ACQUIRE makes of a valid mark (Table CLK-4, R35): its count, the 1 ppm that the 64th mark bounds, the one step, and LOCKED after
16 marks within 10 ns, by the 96th mark at the latest (DEDUCED, log entry 28). The step goes to the mark's time whether that lies later
or earlier, and is taken at the first mark more than 10 ns off, the mark of entry included (DESIGN CHOICE, log entry 29). -/
def Chip.acquireMark (s : Chip) (target : Int) (near : Bool) : Chip :=
  let m := s.clk.acqMarks + 1
  let early := s.free % 2 == 1
  let s := s.drew
  let s := { s with clk := { s.clk with
    acqMarks := m, freqOk := s.clk.freqOk || decide (64 ≤ m) || early, inWin := if near then s.clk.inWin + 1 else 0 } }
  if 16 ≤ s.clk.inWin ∨ 96 ≤ m then s.put Reg.CLK_STATUS_SYNC 2
  else if near ∨ s.clk.stepped then s
  else
    let s := { s with clk := { s.clk with stepped := true }, ct := BitVec.ofInt 64 (target / 1000), ctFrac := 0 }
    (s.inc Reg.CLK_STEP_CNT).fire 36 (detail 0 (s.get Reg.CLK_STATUS_SYNC))

/-- The synchronisation of a member at a valid mark, by Table CLK-4: `target` is the mark's chain time plus d_k in ps. PHASE_ERR shows the
target less the member's own count, cut toward zero to ns (DESIGN CHOICE, log entry 29). The servo slews at up to 500 ppm in LOCKED. -/
def Chip.syncMark (s : Chip) (target : Int) : Chip :=
  let local_ : Int := (s.ct.toNat : Int) * 1000 + (s.ctFrac.toNat : Int) * 1000 / 2 ^ 32
  let e := target - local_
  let s := s.put Reg.CLK_PHASE_ERR (unsigned 16 (clampInt (-32767) 32767 (e.tdiv 1000)))
  let near := decide (e.natAbs ≤ 10000)
  let far := decide (1000000 < e.natAbs)
  let st := s.get Reg.CLK_STATUS_SYNC
  let s := if st = 0 then s.enterAcquire else
    if st = 2 ∧ far then s.enterAcquire else
    if st = 3 then (if near then s.put Reg.CLK_STATUS_SYNC 2 else s.enterAcquire) else s
  let s := if s.get Reg.CLK_STATUS_SYNC = 1 then s.acquireMark target near
    else { s with clk := { s.clk with freqOk := true } }
  s.steer (if s.get Reg.CLK_STATUS_SYNC = 1 then 8388607 else 500000)

/-- LOCKED is left because a mark is missing (Table CLK-4). -/
def Chip.enterHoldover (s : Chip) : Chip :=
  if s.get Reg.CLK_STATUS_SYNC = 2 then (s.put Reg.CLK_STATUS_SYNC 3).fire 37 (detail 0 3) else s

/-- A mark is missing in ACQUIRE, which makes no local marks: it counts, and the next is predicted one period on (R35;
07_chain_topology_and_heads.md R170). -/
def Chip.acquireMiss (s : Chip) : Chip :=
  if s.get Reg.CLK_STATUS_SYNC = 1 then
    { s with clk := { s.clk with missed := s.clk.missed + 1, markNs := s.predicted, headNs := s.clk.headNs + s.period } }
  else s

/-- HOLDOVER_ENTRY (R35): 2,000 ns after the predicted instant. In ACQUIRE the mark counts as missing, no more. -/
def Chip.holdoverEntry (s : Chip) : Chip :=
  if !s.coreUp || s.isHead then s
  else if s.get Reg.CLK_STATUS_SYNC = 2 then (s.timeTo (s.predicted + 2000)).enterHoldover
  else if s.get Reg.CLK_STATUS_SYNC = 1 then (s.timeTo (s.predicted + 2000)).acquireMiss
  else s

/-- A member makes its local mark in HOLDOVER (R45): it stands at the predicted instant and carries the next number. A reserve that takes
over sends its CYC in its place (07_chain_topology_and_heads.md R169). -/
def Chip.ownMark (s : Chip) : Chip :=
  if !s.coreUp || s.isHead || s.chain.taking || s.get Reg.CLK_STATUS_SYNC ≠ 3 then s else
  let s := { s with clk := { s.clk with missed := s.clk.missed + 1, markNs := s.predicted, headNs := s.clk.headNs + s.period } }
  ((s.put Reg.CLK_CYC_NUM (s.get Reg.CLK_CYC_NUM + 1)).inc Reg.CLK_MISS_CNT).mark

/-- LOCAL_MARK (R45, R180): 2,000 ns after the predicted instant, for no CYC has come. -/
def Chip.localMark (s : Chip) : Chip :=
  if !s.coreUp || s.isHead || s.chain.taking || s.get Reg.CLK_STATUS_SYNC ≠ 3 then s else (s.timeTo (s.predicted + 2000)).ownMark

/-- A CYC whose body fails its CRC counts as a missing mark; the member swaps at it (R102, R180). -/
def Chip.badMark (s : Chip) : Chip := (((s.timeToMark).enterHoldover).ownMark).acquireMiss

/-- The roles of the two ports, from the port on which CYC arrives headward (R14), with the seniority that follows them (R110). -/
def Chip.portRoles (s : Chip) (p : Nat) : Chip :=
  let s := (s.put (Reg.LINK_STAT_ROLE p) 0).put (Reg.LINK_STAT_ROLE (1 - p)) 1
  let s := if s.linkActive p then s.put (Reg.LINK_STAT_SENIOR p) 0 else s
  if s.linkActive (1 - p) then s.put (Reg.LINK_STAT_SENIOR (1 - p)) 1 else s

/-- The node ceases to be a head (R12, R13): a member until its next power cycle. -/
def Chip.loseHead (s : Chip) : Chip :=
  let s := { s with pwr := { s.pwr with lostHead := true } }
  let s := (((s.put Reg.CHAIN_STAT_ROLE 0).put Reg.GATE_STAT_ORIGIN 0).usbLock false).leaveLocked 0
  let s := if s.clk.sentCyc then (s.dropAddr).put Reg.CLK_STATUS_EN 0 else s
  let s : Chip := { (s.put Reg.CLK_STATUS_SYNC 0) with clk := { s.clk with sentCyc := false, serving := false } }
  -- a node that waits for a chain image now takes it from its neighbour (04_power_up_to_service.md R80)
  let s : Chip := if s.get Reg.SYS_BOOT_STATE = 2 ∨ s.get Reg.SYS_BOOT_STATE = 3 then { s with boot := { s.boot with holdsMbx := true } } else s
  (((s.put Reg.GATE_STAT_SERVING 0).put Reg.CHAIN_INFO3_SERVING 0).fire 33 0).presentChange

/-- The member takes its ring from the CYC, and with another ring drops its address (07_chain_topology_and_heads.md R158, R159). -/
def Chip.takeRing (s : Chip) (ring : Nat) : Chip :=
  if ring = s.get Reg.CHAIN_STAT_RING then s
  else (if s.flag Reg.CHAIN_STAT_ADDR_VALID then s.dropAddr else s).put Reg.CHAIN_STAT_RING ring

/-- A CYC at mark S ends a sleep proposal or a commit (05_gleshline_link.md R117). -/
def Chip.cycSleep (s : Chip) (num : Nat) : Chip :=
  if s.flag Reg.CHAIN_SLEEP_STAT_STATE ∧ num = s.chain.sleepS then s.proposeOver else s

/-- What a CYC's arrival leaves: no mark is missing, the mark's time as the member counts it and as the head sent it; one that comes
after all ends a takeover before its first CYC (DESIGN CHOICE, log entry 35). -/
def Chip.markTaken (s : Chip) (t : Nat) : Chip :=
  { s with clk := { s.clk with missed := 0, markNs := s.ct.toNat, headNs := t }, chain := { s.chain with taking := false } }

/-- A member takes a valid CYC that arrives on its headward port as its mark (R35, R45, R100), and passes it on (R102). A CYC that
repeats the number of HOLDOVER's local mark makes no second one. -/
def Chip.acceptCyc (s : Chip) (body : List (BitVec 8)) : Chip :=
  let t := leNat (body.take 8)
  let num := leNat ((body.drop 8).take 4)
  let st := s.get Reg.CLK_STATUS_SYNC
  let cur := s.get Reg.CLK_CYC_NUM
  let again := st == 3 && num == cur
  let s : Chip := if again ∨ st = 0 then s else s.timeToMark
  let s : Chip := ((s.syncMark ((t : Int) * 1000 + signed 32 (s.get Reg.CLK_DELAY))).markTaken t).takeRing
    (leNat ((body.drop 12).take 1) / 16 % 4)
  let s : Chip := if st ≠ 0 ∧ num ≠ (cur + 1) % 2 ^ 32 ∧ !again then s.fire 39 0 else s
  let s : Chip := (s.put Reg.CLK_CYC_NUM num).cycSleep num
  let s : Chip := if again then s.tellHold else s.mark
  match s.headPort with | some p => s.passCyc p body | none => s

/-- A member swaps its port roles at a CYC that reaches its tailward port after three missing marks (R170). -/
def Chip.roleSwap (s : Chip) (p : Nat) : Chip :=
  let s := (s.portRoles p).inc Reg.CHAIN_SWAP_CNT
  let s := s.put Reg.CLK_DELAY (s.get Reg.CHAIN_REV_DELAY)
  let s := if s.flag Reg.CHAIN_STAT_REV_OK then s else s.enterAcquire
  if s.linkActive (1 - p) then s else s.foldBack

/-- The first CYC a member receives (R14, Table CLK-4): the CLK block is enabled and the port roles are settled. -/
def Chip.firstCyc (s : Chip) (p : Nat) : Chip :=
  let s := (s.put Reg.CLK_STATUS_EN 1).portRoles p
  if s.linkActive (1 - p) then s.tailLink (1 - p) else s.chainShow

/-- Does the head keep its place against the other whose CYC has come on port p (R13)? The other head's identity is that of the port's
partner, where this is a head itself; behind other nodes nothing tells it, and a free value decides (log entries 6, 34). -/
def Chip.outranks (s : Chip) (p : Nat) : Bool :=
  if (s.gl p).rank = 0 then
    decide (Sys2Proof.Config.uid.toNat < s.get (Reg.LINK_PARTNER_LO p) + 2 ^ 32 * s.get (Reg.LINK_PARTNER_HI p))
  else s.free % 2 == 1

/-- A head gives way and takes the CYC that came on port p as its first (R12, R13). -/
def Chip.yield_ (s : Chip) (p : Nat) (body : List (BitVec 8)) : Chip :=
  let s := { s with chain := { s.chain with join := clrBit s.chain.join p } }
  (((s.loseHead).firstCyc p).acceptCyc body).chainShow

/-- CYC_RECEIVE at port p (R12, R13, R35, R45, R102, R158 to R172). A join link brings none (R163), but of two heads that face each other
the one hears the other (R12, R13; DEDUCED, log entry 34). -/
def Chip.cycReceive (s : Chip) (p : Nat) (body : List (BitVec 8)) : Chip :=
  if !s.coreUp || !s.linkActive p || (bit s.chain.join p && !(s.get Reg.CHAIN_STAT_ROLE == 1 && (s.gl p).rank == 0)) then s else
  let headward := s.headPort == some p
  if !bodyOk 16 body then
    let s := (s.inc (Reg.LINK_CYC_BAD_CNT p)).passCyc p body
    if headward then s.badMark else s
  else
  let own := s.clk.sentCyc && leNat (body.take 8) == s.clk.markNs && leNat ((body.drop 8).take 4) == s.get Reg.CLK_CYC_NUM
  if s.get Reg.CHAIN_STAT_ROLE = 1 then
    if !s.clk.sentCyc then s.yield_ p body
    else if own then s
    else
      let stays := s.outranks p
      let s := if (s.gl p).rank = 0 then s else s.drew
      if stays then s else s.yield_ p body
  else if s.get Reg.CHAIN_STAT_ROLE = 3 then
    if !s.chain.handed ∨ own then s else
    let s := { s with chain := { s.chain with handed := false, hand := none }, clk := { s.clk with sentCyc := false } }
    let s := (((((s.put Reg.CHAIN_STAT_ROLE 2).put Reg.GATE_STAT_ORIGIN 0).dropAddr).portRoles p).leaveLocked 3).put Reg.CLK_STATUS_SYNC 3
    (s.acceptCyc body).chainShow
  else if !s.flag Reg.CLK_STATUS_EN then ((s.firstCyc p).acceptCyc body).chainShow
  else if headward then s.acceptCyc body
  else if 3 ≤ s.clk.missed then ((s.roleSwap p).acceptCyc body).chainShow
  else s

/-- USB_LOCK_LOSS (R43). -/
def Chip.usbLockLoss (s : Chip) : Chip := if s.coreUp then s.usbLock false else s

/-- Do the marks of the head coincide with SOFs: the SOF at the present instant lies within 10 ns of a mark, or of a place on the grid of
SOFs through the last one (DESIGN CHOICE, log entry 31)? -/
def Chip.sofAtMark (s : Chip) : Bool :=
  let d := (s.ct.toNat + 125000 - s.clk.markNs % 125000) % 125000
  decide (d ≤ 10) || decide (124990 ≤ d)

/-- Is an SOF-aligned mark due now (Table CLK-6): from half a microframe before its instant on? At 62.5 us every other mark is. -/
def Chip.sofDue (s : Chip) : Bool :=
  (s.wk Reg.CLK_CYCLE != 0 || s.clk.sofDiv == 1) && decide (s.predicted ≤ s.ct.toNat + 31250)

/-- The head's side of an SOF (R42, R43). Locked, it steers chain time so that the SOF-aligned mark that is due falls on the SOF; else it
slews at up to 100 ppm beside the 500 ppm of the host, until the marks coincide, which USB_LOCK shows. -/
def Chip.sofHead (s : Chip) : Chip :=
  if !(s.isHead && s.clk.sentCyc) then s
  else if s.flag Reg.CLK_STATUS_USB_LOCK then (if s.sofDue then s.timeTo s.predicted else s).steer 500000
  else if s.sofAtMark then (s.usbLock true).steer 500000
  else s.steer 600000

/-- FREQ_MEASURE (R27): PPM in 0.1 ppm units, 0x8000 while the core PLL is not locked. -/
def Chip.freqMeasure (s : Chip) (v : Nat) : Chip :=
  if !s.coreUp then s else s.put Reg.CLK_FREQ (if s.flag Reg.CLK_STATUS_CORE_LOCK then v else 0x8000)

end Sys2Proof.Machine
end

