-- ==== Sys2Proof/Machine/Power.lean ====
section
/-! DEFINITION. Rails, resets, straps and low-power states (04_power_up_to_service.md R70 to R77, R89, R92, R93). -/

namespace Sys2Proof.Machine

/-! Resets (Table SYS-1) -/

/-- What a core reset leaves (R70, 01_node_and_chain.md R23): the field die, the keep domain, the memories, the NOR and the OTP, and the
registers of field-die units, which belong to the field die (log entry 19). Words that were being programmed into the OTP are dropped, and
the key hash stays blank (DESIGN CHOICE, log entry 22). Pads go on holding through the reset of a
STANDBY wake (20_pins_and_muxing.md R448). -/
def Chip.coreReset (s : Chip) (cause : Nat) (keepPads : Bool) : Chip :=
  let field := fun m : SMap Nat => SMap.drop (fun k => !fieldDieKey k) m
  let c : Chip := {
    regs := field s.regs, shadow := field s.shadow, work := field s.work
    fShadow := s.fShadow, fWork := s.fWork, fPour := s.fPour, live := s.live, fTime := s.fTime
    mem := s.mem, ecc := s.ecc, nor := s.nor, freeCnt := s.freeCnt
    seam := { s.seam with queue := [], flight := [], fieldRx := false, coreRx := false, lossKnown := false }
    clk := { ({} : Clk) with
      applied := s.clk.applied, fCyc := s.clk.fCyc, fMarked := s.clk.fMarked, fApply := s.clk.fApply, fSteered := s.clk.fSteered }
    pwr := { s.pwr with coreRst := true, pllOnce := false, listenDone := false }
    boot := { ({} : Boot) with keyHash := s.boot.keyHash, rbCnt := s.boot.rbCnt }
    warden := { ({} : Warden) with laneFence := s.warden.laneFence, laneHold := s.warden.laneHold }
    drv := s.drv, drvScale := s.drvScale, drvHold := s.drvHold, fuse := s.fuse, fuseReq := s.fuseReq, cuffs := s.cuffs
    meas := s.meas
    wide := { ({} : Wide) with left := s.tunnelLeave.left, wrote := s.tunnelLeave.wrote }
    pin := { ({} : Pin) with
      hviWake := s.pin.hviWake
      heldDrive := if keepPads then s.pin.heldDrive else []
      heldLevel := if keepPads then s.pin.heldLevel else []
      heldPull := if keepPads then s.pin.heldPull else [] } }
  let c := c.put Reg.SYS_RST_CAUSE cause
  if keepPads then c.put Reg.PIN_STAT (s.get Reg.PIN_STAT) else c

/-- Does a key of a live value belong to the keep domain or the trunk controller: SYS, or the channel TR of FUSE? -/
def keepKey (key : Nat) : Bool :=
  let a := key / 32
  (decide (0x01000000 ≤ a) && decide (a < 0x01010000)) || (decide (0x010C0240 ≤ a) && decide (a < 0x010C0280))

/-- What a reset of the field die leaves: the keep domain with its wake fields, the trunk pass-through with its controller and the
settings of channel TR, and what stands on the Cuffs' CC pins (Table SYS-1, R76, R89, 20_pins_and_muxing.md R447). -/
def Chip.fieldReset (s : Chip) : Chip :=
  let core := fun m : SMap Nat => SMap.drop (fun k => fieldDieKey k && !keepKey k) m
  let keep := fun m : SMap Nat => SMap.drop (fun k => !keepKey k) m
  let on := s.fuseClosed 9
  { s with
    regs := core s.regs, shadow := core s.shadow, work := core s.work
    fShadow := keep s.fShadow, fWork := keep s.fWork, fPour := 0
    live := keep s.live
    copySet := none, seam := {}
    drv := [], drvScale := none, drvHold := true
    cuffs := (List.range 5).foldl (fun (m : SMap Cuff) c => m.put {} c { ({} : Cuff) with cc1 := (s.cuff c).cc1, cc2 := (s.cuff c).cc2 }) []
    meas := {}, fuse := SMap.drop (fun k => k != 9) s.fuse, fuseReq := 0
    warden := { s.warden with laneFence := 0, laneHold := 0 }
    fTime := {}, fArm := none
    clk := { s.clk with applied := 0, fCyc := 0, fMarked := false, fApply := 0, fSteered := false }
    pwr := { s.pwr with fieldRst := true, trStaged := on, trOrder := on, trFed := false } }

/-- Both dies reset, for any cause but a trunk POR. -/
def Chip.bothReset (s : Chip) (cause : Nat) : Chip := (s.coreReset cause false).fieldReset

/-- TRUNK_POR: everything but NOR, OTP, the latched wake causes with those SYS.WAKE_CAUSE shows, and KEEP_STAT (R70, R72). -/
def Chip.trunkPor (s : Chip) : Chip :=
  let c : Chip := { nor := s.nor, freeCnt := s.freeCnt }
  let c := { c with
    boot := { c.boot with keyHash := s.boot.keyHash, rbCnt := s.boot.rbCnt }, pwr := { c.pwr with wake := s.pwr.wake } }
  let c := c.setLv Reg.SYS_WAKE_CAUSE (s.lv Reg.SYS_WAKE_CAUSE)
  (c.setLv Reg.SYS_KEEP_STAT_KEEPF_OK (s.lv Reg.SYS_KEEP_STAT_KEEPF_OK)).setLv Reg.SYS_KEEP_STAT_RAIL_FAIL (s.lv Reg.SYS_KEEP_STAT_RAIL_FAIL)

/-! Rails (R73 to R75) -/

/-- Raise rail n: its EN goes high, its PG is awaited. -/
def Chip.railUp (s : Chip) (n : Nat) : Chip :=
  { s with pwr := { s.pwr with phase := .wantPg, rail := n, en := setBit s.pwr.en n } }

/-- EN of rail n falls, and its PG with it. Memory loses its contents with VCORE (log entry 3); the dies are in reset without their rails. -/
def Chip.railDown (s : Chip) (n : Nat) : Chip :=
  let s := { s with pwr := { s.pwr with rail := n, en := clrBit s.pwr.en n, pg := clrBit s.pwr.pg n } }
  if n = 2 then
    let s := if s.coreUp then s.coreReset (s.get Reg.SYS_RST_CAUSE) false else s
    ({ s with mem := [], ecc := [], wide := { s.wide with left := none, wrote := [] } }).setLv Reg.TEST_STAT_VCORE_OK 0
  else if s.fieldUp then s.fieldReset else s

/-- The next rail to drop: VCORE, VLOGIC, VAUX; toward STANDBY only VCORE (R75, R92). -/
def Chip.railNext (s : Chip) : Option Nat :=
  if bit s.pwr.en 2 then some 2 else if s.pwr.goal = .standby then none
  else if bit s.pwr.en 1 then some 1 else if bit s.pwr.en 0 then some 0 else none

/-- A power-down begins: the first EN falls. -/
def Chip.dropStart (s : Chip) (goal : DropGoal) : Chip :=
  let s := { s with pwr := { s.pwr with phase := .dropping, goal := goal } }
  match s.railNext with | some n => s.railDown n | none => s

/-- The rails lie down as the power-down meant. -/
def Chip.dropped (s : Chip) : Chip :=
  match s.pwr.goal with
  | .retry => { s with pwr := { s.pwr with phase := .retryWait } }
  | .failed => { s with pwr := { s.pwr with phase := .failed } }
  | .resequence => s.railUp 0
  | .standby => { s with pwr := { s.pwr with phase := .standby } }
  | .off =>
    let s := { s with pwr := { s.pwr with phase := .off } }
    if s.pwr.trunkOff then
      let s := { s with pwr := { s.pwr with trOrder := false, trStaged := false } }
      if s.fuseClosed 9 then s.fuseOpen 9 else s
    else s

/-- KEEP_POR_RELEASE (R73). -/
def Chip.keepPorRelease (s : Chip) : Chip :=
  if s.pwr.phase = .por then (s.setLv Reg.SYS_KEEP_STAT_KEEPF_OK 1).railUp 0 else s

/-- RAIL_PG_HIGH (R73). -/
def Chip.railPgHigh (s : Chip) (n : Nat) : Chip :=
  if s.pwr.phase ≠ .wantPg ∨ s.pwr.rail ≠ n then s else
  let s := { s with pwr := { s.pwr with pg := setBit s.pwr.pg n, phase := if n = 2 then .up else .gap } }
  if n = 2 then ({ s with pwr := { s.pwr with attempts := 0 } }).setLv Reg.TEST_STAT_VCORE_OK 1 else s

/-- RAIL_ENABLE_NEXT (R73). -/
def Chip.railEnableNext (s : Chip) : Chip := if s.pwr.phase = .gap then s.railUp (s.pwr.rail + 1) else s

/-- RAIL_PG_TIMEOUT (R74). -/
def Chip.railPgTimeout (s : Chip) : Chip :=
  if s.pwr.phase ≠ .wantPg then s else
  let n := s.pwr.attempts + 1
  let s := (s.setLv Reg.SYS_KEEP_STAT_RAIL_FAIL (s.pwr.rail + 1))
  ({ s with pwr := { s.pwr with attempts := n } }).dropStart (if 3 ≤ n then .failed else .retry)

/-- RAIL_RETRY (R74). -/
def Chip.railRetry (s : Chip) : Chip := if s.pwr.phase = .retryWait then s.railUp 0 else s

/-- RAIL_DISABLE_NEXT (R75). -/
def Chip.railDisableNext (s : Chip) : Chip :=
  if s.pwr.phase ≠ .dropping then s else
  match s.railNext with | some n => s.railDown n | none => s.dropped

/-- RAIL_RESET (R70): a PG that was high falls while its EN is high. Both dies are reset, and the rails drop and rise again; a power-down
under way toward anything but STANDBY goes on to its own end (DESIGN CHOICE, log entry 21). -/
def Chip.railReset (s : Chip) (n : Nat) : Chip :=
  if !(bit s.pwr.en n && bit s.pwr.pg n) then s else
  let s := s.bothReset 1
  if s.pwr.phase = .dropping ∧ s.pwr.goal ≠ .standby then s else s.dropStart .resequence

/-! Release of the dies (R76, R77) -/

/-- FIELD_RESET_RELEASE: the Cuffs start on the hardware machine. -/
def Chip.fieldRelease (s : Chip) : Chip :=
  if !s.pwr.fieldRst || !(bit s.pwr.pg 0 && bit s.pwr.pg 1) then s else
  let s := ({ s with pwr := { s.pwr with fieldRst := false } }).setLvB Reg.TEST_STAT_VCORE_OK (bit s.pwr.pg 2)
  (s.each (List.range 5) (fun s c => s.tcEnter c (s.tcFresh c))).fieldSettle

/-- The OTP shows in the registers of the core die (R72, R88). -/
def Chip.otpShow (s : Chip) : Chip :=
  (s.put Reg.SYS_RB_CNT s.boot.rbCnt).putB Reg.SYS_OTP_STAT_KEY_SET s.boot.keyHash.isSome

/-- CORE_RESET_RELEASE: the straps are sampled, the PLL is locked, and the boot ROM runs (R76 to R79; 01_node_and_chain.md R9, R10, R12;
05_gleshline_link.md R120). -/
def Chip.coreRelease (s : Chip) (role : Nat) (bootsel : Bool) : Chip :=
  if !s.pwr.coreRst || !bit s.pwr.pg 2 || s.pwr.phase != .up then s else
  let woken := s.get Reg.SYS_RST_CAUSE == 7
  let s := ({ s with pwr := { s.pwr with coreRst := false, pllOnce := true, nrstLow := false } }).put Reg.CLK_STATUS_CORE_LOCK 1
  let s := (s.put Reg.SYS_STRAP_ROLE role).putB Reg.SYS_STRAP_BOOTSEL bootsel
  let s := (s.put Reg.CHAIN_INFO3_STRAP role).put Reg.CHAIN_STAT_ROLE
    (if role = 1 ∧ !s.pwr.lostHead then 1 else if role = 2 then 2 else 0)
  let s := if role = 3 then s.fire 32 0 else s
  let s := if bootsel then s.put Reg.SYS_BOOT_STATE 2 else (s.put Reg.SYS_BOOT_STATE 1).norForeground
  let s := { s with boot := { s.boot with holdsMbx := bootsel && !s.isHead } }
  let s := s.otpShow.put Reg.SYS_PWR_STAT 0
  let s := if woken then s.each [0, 1] (fun s p => s.setGl p { s.gl p with wak := true }) else s
  ((s.seamShow).chainShow).laneUpdate

/-! Resets from outside and from software -/

/-- NRST_PULSE (R71, R93): a wake cause where VCORE is off or about to be, else a core reset while it stays low. -/
def Chip.nrstPulse (s : Chip) : Chip :=
  if s.pwr.phase = .por then s
  else
    let s := if s.wakeOpen then s.wakeCause 4 else s.coreReset 4 false
    { s with pwr := { s.pwr with nrstLow := true } }

/-- NRST_LONG (R71): NRST is still low 10 ms after it fell, whatever the node did at its fall. -/
def Chip.nrstLong (s : Chip) : Chip := if s.pwr.nrstLow then s.bothReset 2 else s

/-- CORE_PLL_LOCK_LOSS (02_clocks_and_chain_time.md R26): from the first lock onward (R76). -/
def Chip.pllLoss (s : Chip) : Chip := if s.coreUp && s.pwr.pllOnce then s.coreReset 5 false else s

/-! Low-power states (R92, R93) -/

/-- SYS.PWR.REQ 0. -/
def Chip.pwrRun (s : Chip) : Did := s.idleExit.ok

/-- SYS.PWR.REQ 1. -/
def Chip.pwrIdle (s : Chip) : Did :=
  if s.get Reg.SYS_PWR_STAT = 0 then ((s.put Reg.SYS_PWR_STAT 1).idleEnter).ok else s.ok

/-- Entry to STANDBY: the pads hold, pending records are programmed, the core die stops and VCORE falls (R92, 20_pins_and_muxing.md R448,
22_background_work.md R467). -/
def Chip.enterStandby (s : Chip) : Chip :=
  let s := (s.bkgStandby.holdPads).coreReset (s.get Reg.SYS_RST_CAUSE) true
  (s.put Reg.SYS_PWR_STAT 2).dropStart .standby

/-- SYS.PWR.REQ 2 (R92, R93). -/
def Chip.pwrStandby (s : Chip) (r : Nat) : Did :=
  if s.linkActive 0 || s.linkActive 1 then s.no r 0 0 0x40 else s.enterStandby.ok

/-- SYS.PWR.REQ 3, with TRUNK_OFF or without it (R92). -/
def Chip.pwrOff (s : Chip) (trunk : Bool) : Did :=
  let cause := s.get Reg.SYS_RST_CAUSE
  let s := (s.bkgStandby).bothReset cause
  let s := { s with pwr := { s.pwr with trunkOff := trunk } }
  ((s.put Reg.SYS_PWR_STAT 3).dropStart .off).ok

/-- SYS.WAKE_TIMER (R93): loads the timer; 0 cancels it. A cause of the timer latched before goes with it (DESIGN CHOICE, log entry 18). -/
def Chip.wakeTimer (s : Chip) (sec : Nat) : Did :=
  (({ s with pwr := { s.pwr with timer := sec, timerCc := 0, wake := clrBit s.pwr.wake 3 } }).setLv Reg.SYS_WAKE_LEFT sec).ok

/-- WAKE_TIMER_EXPIRE (R93). -/
def Chip.wakeTimerExpire (s : Chip) : Chip :=
  if s.pwr.timer = 0 then s else
  (({ s with pwr := { s.pwr with timer := 0, timerCc := 0 } }).setLv Reg.SYS_WAKE_LEFT 0).wakeCause 3

/-- A second of the wake timer passes. -/
def Chip.wakeSecond (s : Chip) : Chip :=
  if s.pwr.timer ≤ 1 then s.wakeTimerExpire
  else ({ s with pwr := { s.pwr with timer := s.pwr.timer - 1 } }).setLv Reg.SYS_WAKE_LEFT (s.pwr.timer - 1)

/-- STANDBY_WAKE (R93): a latched cause raises VCORE again, and ends in a core reset; from OFF, an HVI or the timer starts the whole
sequence, for whose RST_CAUSE the spec has no code: a free value (log entry 20). -/
def Chip.standbyWake (s : Chip) : Chip :=
  let w := s.pwr.wake
  if s.pwr.phase = .standby ∧ w ≠ 0 then
    let s := ({ s with pwr := { s.pwr with wake := 0 } }).setLv Reg.SYS_WAKE_CAUSE w
    (s.put Reg.SYS_RST_CAUSE 7).railUp 2
  else if s.pwr.phase = .off ∧ (bit w 1 ∨ bit w 3) then
    let s := ({ s with pwr := { s.pwr with wake := 0, trunkOff := false } }).setLv Reg.SYS_WAKE_CAUSE w
    ((s.put Reg.SYS_RST_CAUSE s.free).drew).railUp 0
  else s

/-! The staged pass-through (R89) -/

/-- HEAD_LISTEN_END: no CYC has come in the 500 us of the window; the head orders the pass-through closed, and sends CYC from now on. -/
def Chip.headListenEnd (s : Chip) : Chip :=
  if s.coreUp && s.get Reg.CHAIN_STAT_ROLE == 1 && !s.clk.sentCyc && !s.pwr.listenDone then
    ({ s with pwr := { s.pwr with listenDone := true } }).orderTrunk
  else s

/-- A member with a trained headward link and an address orders its pass-through closed (R89). -/
def Chip.memberTrunk (s : Chip) : Chip :=
  match s.headPort with
  | some p => if s.linkActive p && s.flag Reg.CHAIN_STAT_ADDR_VALID then s.orderTrunk else s
  | none => s

end Sys2Proof.Machine
end

