-- ==== Sys2Proof/Machine/Boot.lean ====
section
/-! DEFINITION. The OTP, the checks of a pattern image, its reception and its store (04_power_up_to_service.md R78 to R88,
14_local_hub.md R324). -/

namespace Sys2Proof.Machine

/-! The OTP (R87, R88) -/

/-- SYS.OTP_STAGE: a ninth word is STATE_REJECT. -/
def Chip.otpStage (s : Chip) (r : Nat) (w : BitVec 32) : Did :=
  if 8 ≤ s.boot.staged.length then s.no r 0 0 0x30 else
  let l := s.boot.staged ++ [w]
  (({ s with boot := { s.boot with staged := l } }).put Reg.SYS_OTP_STAT_STAGED l.length).ok

/-- SYS.OTP_PROG.KEY. -/
def Chip.otpProgKey (s : Chip) (r : Nat) : Did :=
  if s.boot.staged.length < 8 ∨ s.flag Reg.SYS_OTP_STAT_KEY_SET ∨ s.flag Reg.SYS_OTP_STAT_BUSY then s.no r 0 0 0x34
  else (({ s with boot := { s.boot with prog := s.boot.staged } }).put Reg.SYS_OTP_STAT_BUSY 1).ok

/-- SYS.OTP_PROG.CLEAR. -/
def Chip.otpProgClear (s : Chip) : Did := (({ s with boot := { s.boot with staged := [] } }).put Reg.SYS_OTP_STAT_STAGED 0).ok

/-- OTP_PROG_DONE: the read-back shows the key hash, or fails. The stage stays as it stands, so STAGED stays 8; after a failed read-back
the key hash reads blank and may be programmed again (DESIGN CHOICE, log entry 22: R88 says neither). -/
def Chip.otpProgDone (s : Chip) (good : Bool) : Chip :=
  if !s.flag Reg.SYS_OTP_STAT_BUSY then s else
  let s := (s.put Reg.SYS_OTP_STAT_BUSY 0).putB Reg.SYS_OTP_STAT_FAIL (!good)
  if good then ({ s with boot := { s.boot with keyHash := some s.boot.prog, prog := [] } }).put Reg.SYS_OTP_STAT_KEY_SET 1
  else { s with boot := { s.boot with prog := [] } }

/-- SYS.RB_COMMIT.GO. -/
def Chip.rbCommit (s : Chip) (r : Nat) : Did :=
  let i := s.get Reg.SYS_IMG_RBI
  if s.get Reg.SYS_BOOT_STATE ≠ 5 ∨ s.flag Reg.SYS_BOOT_OPEN ∨ i ≤ s.boot.rbCnt then s.no r 0 0 0x2C
  else (({ s with boot := { s.boot with rbCnt := i } }).put Reg.SYS_RB_CNT i).ok

/-! The checks of an image (R83 to R85) -/

/-- The little-endian word at an offset of an image. -/
def imgWord (b : List (BitVec 8)) (off : Nat) : Nat := leNat ((b.drop off).take 4)

/-- A section: kind, target, data offset, length (Table SYS-4). -/
structure Section where
  kind : Nat
  target : Nat
  off : Nat
  len : Nat
deriving DecidableEq, Repr

/-- The section table, in its order. -/
def sections (b : List (BitVec 8)) : List Section :=
  (List.range (min 64 (imgWord b 0x14))).map (fun i =>
    let e := 0x100 + 16 * i
    ⟨imgWord b e, imgWord b (e + 4), imgWord b (e + 8), imgWord b (e + 12)⟩)

/-- May a memory copy target these bytes (R84, 01_node_and_chain.md Table NODE-2a)? Code RAM takes whole words (R48). -/
def copyTarget (a n : Nat) : Bool :=
  [(0x100000, 0x140000), (0x140000, 0x160000), (0x70000, 0x78000), (0xB8000, 0x100000)].any (fun r =>
    decide (r.1 ≤ a) && decide (a + n ≤ r.2) && (r.1 != 0x100000 || a % 4 == 0))

/-- Does a section conform (R83, R84)? -/
def sectionOk (b : List (BitVec 8)) (x : Section) : Bool :=
  x.len % 4 == 0 && decide (0x100 + 16 * imgWord b 0x14 ≤ x.off) && decide (x.off + x.len ≤ b.length) &&
  ((x.kind == 1 && copyTarget x.target x.len) || (x.kind == 2 && x.target == 0 && x.len % 8 == 0))

/-- R85 item 1, for an image of exactly these bytes. A rollback index above 256 is bad format; the reserved header bytes and pour-mask bits
[31:16] are not looked at (DESIGN CHOICE, log entry 22: R85 names neither). -/
def formatOk (b : List (BitVec 8)) : Bool :=
  decide (0x100 ≤ b.length) && decide (b.length ≤ 0x100000) && imgWord b 0 == 0x49505A46 && imgWord b 4 == 1 &&
  imgWord b 8 == b.length && decide (imgWord b 0xC ≤ 256) && decide (1 ≤ imgWord b 0x14) && decide (imgWord b 0x14 ≤ 64) &&
  decide (0x100 + 16 * imgWord b 0x14 ≤ b.length) && (sections b).all (sectionOk b)

/-- The key hash of an image's header key, as 8 words (R85 item 3, R88): digest bytes 0 to 3 are the first word staged, byte 0 lowest (DESIGN
CHOICE, log entry 22: R88 numbers the words and not the digest's bytes). -/
def imageKeyHash (b : List (BitVec 8)) : List (BitVec 32) := bytesWords (sha256 ((b.drop 0x20).take 64))

/-- Is the signature good (R85 item 4)? -/
def signatureOk (b : List (BitVec 8)) : Bool :=
  let n := fun off => beNat ((b.drop off).take 32)
  ecdsaOk (n 0x20) (n 0x40) (n 0x60) (n 0x80) (sha256 (b.take 0x60 ++ b.drop 0xA0))

/-- The code of SYS.BOOT.ERR for an image; 0 for a valid one (R85). Of several faults the first in R85's order counts. -/
def Chip.imageErr (s : Chip) (b : List (BitVec 8)) : Nat :=
  if !formatOk b then 2
  else if imgWord b 0xC < s.boot.rbCnt then 5
  else if s.boot.keyHash.any (fun h => h != imageKeyHash b) then 3
  else if !signatureOk b then 4 else 0

/-! The NOR slots (R78, R79, R81) -/

/-- NOR offset of a slot: 0 A, 1 B. -/
def slotBase (k : Nat) : Nat := 0x100000 * k

/-- The image in a slot: none without the magic, the header alone where its length is out of range. -/
def Chip.slotImage (s : Chip) (k : Nat) : Option (List (BitVec 8)) :=
  let h := s.norbs (slotBase k) 0x100
  if imgWord h 0 ≠ 0x49505A46 then none
  else if imgWord h 8 < 0x100 ∨ 0x100000 < imgWord h 8 then some h
  else some (s.norbs (slotBase k) (imgWord h 8))

/-- The version of a slot's valid image. -/
def Chip.slotVersion (s : Chip) (k : Nat) : Option Nat :=
  match s.slotImage k with
  | some b => if s.imageErr b = 0 then some (imgWord b 0x10) else none
  | none => none

/-- The slot that R81 writes: one without a valid image, slot A first; else the lower version; of equal versions the slot that does
not run, or B when none does (log entry 22). -/
def Chip.targetSlot (s : Chip) : Nat :=
  match s.slotVersion 0, s.slotVersion 1 with
  | none, _ => 0
  | _, none => 1
  | some a, some b => if a < b then 0 else if b < a then 1 else if s.boot.runSlot = 1 then 0 else 1

/-- Program bytes at an offset of a slot, erasing each sector whose first byte is among them (R324, 22_background_work.md R471). -/
def Chip.slotWrite (s : Chip) (k off : Nat) (l : List (BitVec 8)) : Chip :=
  let a := slotBase k + off
  let first := (a + 4095) / 4096
  let n := (a + l.length + 4095) / 4096 - first
  let s := s.each (List.range n) (fun s i => s.norErase (4096 * (first + i)))
  s.norws a l

/-! Reception (R80, 14_local_hub.md R324) -/

/-- The boot ROM waits for a chain image (R79): on a member it holds M62 and M63 meanwhile (R80). -/
def Chip.chainWait (s : Chip) (err : Nat) : Chip :=
  let s := (s.put Reg.SYS_BOOT_STATE 2).put Reg.SYS_BOOT_ERR err
  { s with boot := { s.boot with load := none, verify := none, holdsMbx := !s.isHead } }

/-- IMAGE_BEGIN. Answers whether it is accepted. -/
def Chip.imageBegin (s : Chip) (len : Nat) : Bool × Chip :=
  if s.get Reg.SYS_BOOT_STATE ≠ 2 ∨ 0x100000 < len then (false, s) else
  (true, ({ s with boot := { s.boot with load := some (len, 0, s.targetSlot) } }).put Reg.SYS_BOOT_STATE 3)

/-- IMAGE_DATA. -/
def Chip.imageData (s : Chip) (off : Nat) (l : List (BitVec 8)) : Bool × Chip :=
  match s.boot.load with
  | some (len, next, k) =>
    if s.get Reg.SYS_BOOT_STATE ≠ 3 ∨ off ≠ next ∨ len < off + l.length then (false, s) else
    let s := s.norForeground.slotWrite k off l
    (true, { s with boot := { s.boot with load := some (len, next + l.length, k) } })
  | none => (false, s)

/-- IMAGE_END: the check begins once the stated length has arrived. -/
def Chip.imageEnd (s : Chip) : Bool × Chip :=
  match s.boot.load with
  | some (len, next, k) =>
    if s.get Reg.SYS_BOOT_STATE ≠ 3 ∨ next ≠ len then (false, s) else
    (true, ({ s with boot := { s.boot with load := none, verify := some (len, k), fromOut := true, holdsMbx := false } }).put
      Reg.SYS_BOOT_STATE 4)
  | none => (false, s)

/-- The address of a buffer's bytes (12_locks_buffers_messages.md R268). -/
def bufAddr (b : Nat) : Nat := 0x10000 + 128 * (b % 2048)

/-- The oldest message in M63, for the boot ROM: its buffer and its bytes. -/
def Chip.bootMsg (s : Chip) : Option (Nat × List (BitVec 8)) :=
  if !s.coreUp || !s.boot.holdsMbx then none else (s.mbxPeek 63).map (fun m => (m.1, s.rdbs (bufAddr m.1) m.2))

/-- The operation byte of a chain-image message; 0 for a message too short to have a header. -/
def msgOp (l : List (BitVec 8)) : Nat := if l.length < 8 then 0 else leNat (l.take 1)

/-- Is a message's header in order: bytes 1 to 3 zero, and its length as its operation asks (Table SYS-2a)? -/
def msgOk (l : List (BitVec 8)) (data : Bool) : Bool :=
  decide (8 ≤ l.length) && ((l.drop 1).take 3).all (· == 0) &&
  (if data then decide (12 ≤ l.length) && l.length % 4 == 0 && imgWord l 4 % 4 == 0 else l.length == 8)

/-- A message leaves M63, and its buffer carries the reply to M62, or is freed where no reply is due (R80; which buffer a reply takes is
the model's choice, log entry 22). -/
def Chip.bootReply (s : Chip) (buf : Nat) (reply : Option (Nat × Bool)) : Chip :=
  let s := s.mbxPop 63
  match reply with
  | none => (s.poolPush buf).poolServe 32
  | some (op, good) =>
    let next := match s.boot.load with | some x => x.2.1 | none => 0
    let s := s.wrbs (bufAddr buf) (natBytes 4 (op + 256 * b2n (!good)) ++ natBytes 4 next)
    s.mbxPush 62 buf 8

/-- Has M62 room for a reply? -/
def Chip.replyRoom (s : Chip) : Bool := decide ((s.mbx 62).count < 8)

/-- CHAIN_IMAGE_BEGIN: the boot ROM takes a BEGIN message. -/
def Chip.chainImageBegin (s : Chip) : Chip :=
  match s.bootMsg with
  | some (buf, l) =>
    if msgOp l ≠ 1 ∨ !s.replyRoom then s else
    let t := if msgOk l false then s.imageBegin (imgWord l 4) else (false, s)
    t.2.bootReply buf (some (1, t.1))
  | none => s

/-- CHAIN_IMAGE_DATA: the boot ROM takes a DATA message. -/
def Chip.chainImageData (s : Chip) : Chip :=
  match s.bootMsg with
  | some (buf, l) =>
    if msgOp l ≠ 2 ∨ !s.replyRoom then s else
    let t := if msgOk l true then s.imageData (imgWord l 4) (l.drop 8) else (false, s)
    t.2.bootReply buf (some (2, t.1))
  | none => s

/-- CHAIN_IMAGE_END: the boot ROM takes an END message, or one that is none of the three, which changes nothing; neither has a reply. -/
def Chip.chainImageEnd (s : Chip) : Chip :=
  match s.bootMsg with
  | some (buf, l) =>
    if msgOp l = 1 ∨ msgOp l = 2 then s else
    let s := s.bootReply buf none
    if msgOp l = 3 ∧ msgOk l false ∧ imgWord l 4 = 0 then s.imageEnd.2 else s
  | none => s

/-! STORE (R81) -/

/-- SYS.BOOT_CMD.STORE. -/
def Chip.bootStore (s : Chip) (r : Nat) : Did :=
  if s.get Reg.SYS_BOOT_STATE ≠ 5 ∨ s.flag Reg.SYS_BOOT_STORE_BUSY then s.no r 0 0 0x24
  else (s.norForeground.put Reg.SYS_BOOT_STORE_BUSY 1).ok

/-- BOOT_STORE_DONE: the running image lies in the slot too. -/
def Chip.bootStoreDone (s : Chip) : Chip :=
  if !s.flag Reg.SYS_BOOT_STORE_BUSY then s else
  let s := s.put Reg.SYS_BOOT_STORE_BUSY 0
  if s.boot.runSlot = 2 then s else
  s.slotWrite s.targetSlot 0 (s.norbs (slotBase s.boot.runSlot) s.boot.runLen)

/-- Does the boot ROM use the NOR? -/
def Chip.bootUsesNor (s : Chip) : Bool :=
  s.flag Reg.SYS_BOOT_STORE_BUSY || s.get Reg.SYS_BOOT_STATE == 1 || s.get Reg.SYS_BOOT_STATE == 4

end Sys2Proof.Machine
end

