-- ==== Sys2Proof/Machine/Link.lean ====
section
/-! DEFINITION. The Gleshline link: training, changes on an ACTIVE link, alarms, margin scans, sleep and wake
(05_gleshline_link.md R94 to R123, R514; 07_chain_topology_and_heads.md R163, R164). -/

namespace Sys2Proof.Machine

/-! Training (R105 to R110) -/

/-- The rank this end states on port p (R110; 07_chain_topology_and_heads.md R172). -/
def Chip.rankOn (s : Chip) (p : Nat) : Nat :=
  if s.isHead then 0
  else if s.headPort = some (1 - p) ∧ s.linkActive (1 - p) ∧ s.clk.missed < 3 then 1 else 2

/-- The identity of port p's partner. -/
def Chip.partner (s : Chip) (p : Nat) : Nat := s.get (Reg.LINK_PARTNER_LO p) + 2 ^ 32 * s.get (Reg.LINK_PARTNER_HI p)

/-- Is this end senior by rank and identity (R110)? -/
def Chip.seniorByRank (s : Chip) (p : Nat) : Bool :=
  decide (s.rankOn p < (s.gl p).rank) || (s.rankOn p == (s.gl p).rank && decide (Sys2Proof.Config.uid.toNat < s.partner p))

/-- Is this end senior on an ACTIVE link: by its port's role where the roles are known (R110)? -/
def Chip.senior (s : Chip) (p : Nat) : Bool :=
  if s.isHead then true else if s.flag Reg.CLK_STATUS_EN then s.linkTailward p else s.seniorByRank p

/-- May port p train: enabled, out of the WAK burst, over a Cuff only in the alternate mode (R121), not the tailward port of a detached
node (07_chain_topology_and_heads.md R164), a head's second port only as its bridge (R158), and not while the TAP has its lands (23_stitch_test_and_bist.md R496)? -/
def Chip.mayTrain (s : Chip) (p : Nat) : Bool :=
  s.coreUp && s.flag (Reg.LINK_STAT_EN p) && !(s.gl p).wak && !s.test.landsTaken &&
  (!s.flag (Reg.LINK_PHY_MEDIA p) || s.flag (Reg.LINK_STAT_ALT p)) &&
  !(s.flag Reg.CHAIN_STAT_DETACHED && s.linkTailward p) &&
  !(s.isHead && s.linkTailward (1 - p) && !s.linkTailward p && !s.wkB Reg.CHAIN_CFG_BR_EN)

/-- The target width of this end: that of its last width request, else MAX_WIDTH (R108). A reserved code counts as 1 (log entry 13). -/
def Chip.targetWidth (s : Chip) (p : Nat) : Nat :=
  let w := if (s.gl p).reqW = 0 then s.get (Reg.LINK_PHY_MAX_WIDTH p) else (s.gl p).reqW
  if w = 2 then 2 else 1

/-- Is a request of this end out and not acknowledged? -/
def Chip.asking (s : Chip) (p : Nat) : Bool :=
  s.flag (Reg.LINK_STAT_REQ_BUSY p) && (s.gl p).req != 0 && (s.gl p).fixed.isNone

/-! What the port sends (R96, R98, R105, R107, R113, R119, R120) -/

/-- The preset a receiver in EQ asks of its partner's transmitter (R107): EQ_PRESET alone with EQ_FORCE, else 0 to 7 in turn, 25 us for
each from the entry to EQ on (DEDUCED, log entry 39). -/
def Chip.presetAsked (s : Chip) (p : Nat) : Option Nat :=
  if s.get (Reg.LINK_STAT_STATE p) ≠ 4 then none
  else if s.flag (Reg.LINK_PHY_EQ_FORCE p) then some (s.get (Reg.LINK_PHY_EQ_PRESET p))
  else some (min 7 ((s.ct.toNat - (s.gl p).since) / 25000))

/-- The training body that port p sends on a logical lane (Table LINK-3), with or without the acknowledgement of its partner's request. -/
def Chip.trainBody (s : Chip) (p lane : Nat) (ack : Bool) : List (BitVec 8) :=
  let x := s.gl p
  let st := s.get (Reg.LINK_STAT_STATE p)
  bodySealed (natBytes 1 lane ++ natBytes 1 st ++ natBytes 1 (s.targetWidth p + 4 * (if 5 ≤ st then x.lanes % 4 else 0)) ++
    natBytes 1 (s.rankOn p) ++ natBytes 8 Sys2Proof.Config.uid.toNat ++
    natBytes 1 (match s.presetAsked p with | some v => v + 8 | none => 0) ++
    natBytes 1 (b2n (bit x.lanes lane) + 2 * b2n (s.asking p && x.req == 1) + 4 * b2n (s.asking p && x.req == 2) + 8 * b2n ack) ++
    natBytes 4 (if s.asking p then x.reqC else 0))

/-- What a port's transmitters send. -/
inductive PortTx where
  | silent    -- electrical idle
  | wak       -- WAK on every lane (R120)
  | training  -- IDL/T on every lane (R105)
  | idle      -- idle alone: a join link (07_chain_topology_and_heads.md R163)
  | traffic   -- the stream of R99
deriving DecidableEq, Repr

/-- What port p sends: idle of the line in QUIET, while it may not train, and after SLP with KEEP_HEAD (Table LINK-4, R119, R121, R122). -/
def Chip.portSends (s : Chip) (p : Nat) : PortTx :=
  if s.coreUp && s.flag (Reg.LINK_STAT_EN p) && (s.gl p).wak then .wak
  else if !s.mayTrain p || (s.gl p).quiet || s.get (Reg.LINK_STAT_STATE p) == 1 then .silent
  else if s.linkActive p then (if bit s.chain.join p then .idle else .traffic)
  else .training

/-- The port records the IDL/T it sends (Table LINK-3); none where it sends none. -/
def Chip.tellIdl (s : Chip) (p : Nat) (ack : Bool) : Chip :=
  s.setGl p { s.gl p with idlOut := match s.portSends p with | .silent | .wak => [] | _ => s.trainBody p 0 ack }

/-- LINK_SIGNAL_DETECT (R105): DOWN to DETECT. Signal also ends the electrical idle that KEEP_HEAD left (DESIGN CHOICE, log entry 40). -/
def Chip.signalDetect (s : Chip) (p : Nat) : Chip :=
  if s.mayTrain p && s.get (Reg.LINK_STAT_STATE p) == 0 then
    ((s.setGl p { s.gl p with sig := setBit (s.gl p).sig 0, quiet := false }).linkEnter p 2).tellIdl p false
  else s

/-- Record what the partner's training blocks state: identity and rank. -/
def Chip.notePartner (s : Chip) (p : Nat) (obs : TrainObs) : Chip :=
  let s := (s.put (Reg.LINK_PARTNER_LO p) obs.partner.toNat).put (Reg.LINK_PARTNER_HI p) (obs.partner.toNat / 2 ^ 32)
  s.setGl p { s.gl p with rank := obs.rank.toNat }

/-- Lanes in their logical order. -/
def logical (swap : Bool) (m : Nat) : Nat := if swap then m / 2 % 2 + 2 * (m % 2) else m

/-- The port leaves its training state by the exit condition its receiver shows (R105 to R108). Where physical lane 1 alone works it becomes
logical lane 0, which LANE_SWAP shows (DESIGN CHOICE, log entry 39). -/
def Chip.stateExit (s : Chip) (p : Nat) (obs : TrainObs) : Chip :=
  match s.get (Reg.LINK_STAT_STATE p) with
  | 2 =>
    if obs.lanes = 0 then s else
    let s := (s.notePartner p obs).setGl p { (s.notePartner p obs).gl p with lanes := obs.lanes.toNat }
    (((s.putB (Reg.LINK_STAT_INV0 p) (obs.inv.getLsbD 0)).putB (Reg.LINK_STAT_INV1 p) (obs.inv.getLsbD 1)).put (Reg.LINK_STAT_LANE_SWAP p) 0).linkEnter p 3
  | 3 =>
    let l := (s.gl p).lanes
    let swap := if l = 3 then obs.swap else l == 2
    let i := logical swap (s.get (Reg.LINK_STAT_INV0 p) + 2 * s.get (Reg.LINK_STAT_INV1 p))
    let s := (s.notePartner p obs).setGl p { (s.notePartner p obs).gl p with lanes := logical swap l }
    (((s.putB (Reg.LINK_STAT_LANE_SWAP p) swap).putB (Reg.LINK_STAT_INV0 p) (bit i 0)).putB (Reg.LINK_STAT_INV1 p) (bit i 1)).linkEnter p 4
  | 4 =>
    let use := (s.gl p).lanes &&& obs.usable.toNat
    if use = 0 then s else
    let f := s.flag (Reg.LINK_PHY_EQ_FORCE p)
    let pre := s.get (Reg.LINK_PHY_EQ_PRESET p)
    let s := (s.notePartner p obs).setGl p { (s.notePartner p obs).gl p with lanes := use }
    let s := (s.put (Reg.LINK_EQ_PRE0 p) (if f then pre else obs.pre0.toNat)).put (Reg.LINK_EQ_PRE1 p) (if f then pre else obs.pre1.toNat)
    ((s.put (Reg.LINK_EQ_CTLE0 p) obs.ctle0.toNat).put (Reg.LINK_EQ_CTLE1 p) obs.ctle1.toNat).linkEnter p 5
  | 5 =>
    let s := s.notePartner p obs
    let sr := s.seniorByRank p
    let w := if sr then s.targetWidth p else obs.target.toNat
    let w := if w = 2 ∧ (s.gl p).lanes = 3 then 2 else 1
    ((s.linkEnter p 6).put (Reg.LINK_STAT_WIDTH p) w).putB (Reg.LINK_STAT_SENIOR p) sr
  | _ => s

/-- LINK_STATE_ADVANCE (R105 to R108). -/
def Chip.stateAdvance (s : Chip) (p : Nat) (obs : TrainObs) : Chip :=
  if s.mayTrain p then (s.stateExit p obs).tellIdl p false else s

/-- LINK_TRAIN_TIMEOUT (R105). -/
def Chip.trainTimeout (s : Chip) (p : Nat) : Chip :=
  let st := s.get (Reg.LINK_STAT_STATE p)
  if !s.coreUp || decide (st < 2) || decide (6 < st) then s else
  (((s.put (Reg.LINK_FAIL_STATE p) st).inc (Reg.LINK_FAIL_CNT p)).linkEnter p 1).tellIdl p false

/-- QUIET_END (R105). -/
def Chip.quietEnd (s : Chip) (p : Nat) : Chip :=
  if s.coreUp && s.get (Reg.LINK_STAT_STATE p) == 1 then (s.linkEnter p 0).tellIdl p false else s

/-- Port p enters ACTIVE (R29, R109; 01_node_and_chain.md R11, R14; 07_chain_topology_and_heads.md R156, R162, R163): the residences of the session in
bit times, the port's role on a head, a join link or the fold's end on a tailward port, a new delay measurement on a headward one,
which drops a half-measured pair (02_clocks_and_chain_time.md R37). -/
def Chip.linkBegin (s : Chip) (p outRes retRes : Nat) : Chip :=
  let s := (s.put (Reg.LINK_STAT_STATE p) 7).inc (Reg.LINK_TRAIN_CNT p)
  let s := (s.put Reg.CLK_RESID_OUT outRes).put Reg.CLK_RESID_RET retRes
  let s := if s.isHead ∧ !s.linkTailward (1 - p) then s.put (Reg.LINK_STAT_ROLE p) 1 else s
  let s := (s.putB (Reg.LINK_STAT_SENIOR p) (s.senior p)).fire 48 (detail p 0)
  if s.linkTailward p || s.isHead then s.tailLink p
  else if s.headPort = some p then
    ((({ s with chain := { s.chain with gotA := false } }).put Reg.CHAIN_STAT_DLY_PEND 1).memberTrunk).chainShow
  else s

/-- LINK_UP: at the end of CONFIRM. -/
def Chip.linkUp (s : Chip) (p outRes retRes : Nat) : Chip :=
  if s.mayTrain p && s.get (Reg.LINK_STAT_STATE p) == 6 then (s.linkBegin p outRes retRes).tellIdl p false else s

/-! Loss, requests and their answers (R111 to R115) -/

/-- Leave ACTIVE, or any state, for another. -/
def Chip.linkDrop (s : Chip) (p st : Nat) : Chip := (s.linkEnter p st).chainShow

/-- Logical lane 1 becomes lane 0 (R112): what stands of each lane changes its number, a scan that runs on lane 1 with it. -/
def Chip.renumber (s : Chip) (p : Nat) : Chip :=
  let s := s.putB (Reg.LINK_STAT_LANE_SWAP p) (!s.flag (Reg.LINK_STAT_LANE_SWAP p))
  let s := (s.put (Reg.LINK_STAT_INV0 p) (s.get (Reg.LINK_STAT_INV1 p))).put (Reg.LINK_STAT_INV1 p) (s.get (Reg.LINK_STAT_INV0 p))
  let s := (s.put (Reg.LINK_EQ_PRE0 p) (s.get (Reg.LINK_EQ_PRE1 p))).put (Reg.LINK_EQ_PRE1 p) (s.get (Reg.LINK_EQ_PRE0 p))
  let s := (s.put (Reg.LINK_EQ_CTLE0 p) (s.get (Reg.LINK_EQ_CTLE1 p))).put (Reg.LINK_EQ_CTLE1 p) (s.get (Reg.LINK_EQ_CTLE0 p))
  s.setGl p { s.gl p with scan := 1 - (s.gl p).scan }

/-- Logical lane `lane` of an ACTIVE port is lost (R111, R112): of two, the other goes on as lane 0 at x1; lane 1 of a x1 link fails the
upshift that waits for it; the only lane takes the port DOWN. -/
def Chip.laneGone (s : Chip) (p lane : Nat) : Chip :=
  let s := if s.flag (Reg.LINK_MARGIN_BUSY p) ∧ (s.gl p).scan = lane then s.marginCut p else s
  if s.get (Reg.LINK_STAT_WIDTH p) = 2 then
    let s := if lane = 0 then s.renumber p else s
    (((s.setGl p { s.gl p with lanes := 1, lane1 := false }).put (Reg.LINK_STAT_WIDTH p) 1)).alm 3
  else if lane = 1 then
    let s := s.setGl p { s.gl p with lanes := 1, lane1 := false }
    match (s.gl p).fixed with
    | some (2, _) =>
      let s := s.setGl p { s.gl p with fixed := none }
      if s.flag (Reg.LINK_STAT_REQ_BUSY p) then s.linkReqEnd p 3 else s
    | _ => if s.flag (Reg.LINK_STAT_REQ_BUSY p) ∧ (s.gl p).req = 2 ∧ (s.gl p).reqW = 2 then s.linkReqEnd p 3 else s
  else (s.setGl p { s.gl p with sig := 0, lanes := 0 }).linkDrop p 0

/-- LANE_LOSS (R111, R112). -/
def Chip.laneLoss (s : Chip) (p lane : Nat) : Chip :=
  if s.coreUp && s.linkActive p then (s.laneGone p lane).tellIdl p false else s

/-- This end sends a request (R113): kind 1 retrain, 2 width. Its cycle is the earliest allowed, two on from the present one (DESIGN CHOICE,
log entry 39). -/
def Chip.request (s : Chip) (p kind w : Nat) (byNode : Bool) : Chip :=
  let x := s.gl p
  let s := s.setGl p { x with
    req := kind, reqW := if kind = 2 then w else x.reqW, reqC := (s.get Reg.CLK_CYC_NUM + 2) % 2 ^ 32
    byNode := byNode, lane1 := false, fixed := none }
  ((s.put (Reg.LINK_STAT_REQ_RESULT p) 0).put (Reg.LINK_STAT_REQ_BUSY p) 1).tellIdl p false

/-- The rank in a partner's IDL/T (R110; 07_chain_topology_and_heads.md R163): on a tailward port, and on a head, 0 or 1 makes a normal link a join
link, and anything above 1 a join link normal. -/
def Chip.rankHeard (s : Chip) (p rank : Nat) : Chip :=
  let s := s.setGl p { s.gl p with rank := rank }
  if bit s.chain.join p then
    if rank ≤ 1 then s else ({ s with chain := { s.chain with join := clrBit s.chain.join p } }).tailLink p
  else if rank ≤ 1 ∧ (s.linkTailward p ∨ s.isHead) then (s.foldBack).tailLink p
  else s

/-- A request bit of the partner (R113, R114): the junior end withdraws what it asked itself, a retrain is acknowledged and begins, a width
change is acknowledged and fixed for its cycle. A senior's own request stands. -/
def Chip.requestTake (s : Chip) (p : Nat) (retrain : Bool) (w c : Nat) : Chip :=
  if s.asking p && s.senior p then s else
  let s := if s.asking p then
      let s := ((s.linkReqEnd p 2).inc (Reg.LINK_WITHDRAW_CNT p)).fire 50 (detail p 0)
      if (s.gl p).byNode then s.setGl p { s.gl p with again := true } else s
    else s
  if retrain then (s.tellIdl p true).linkDrop p 2
  else if (w = 1 ∨ w = 2) ∧ later c (s.get Reg.CLK_CYC_NUM) then (s.setGl p { s.gl p with fixed := some (w, c) }).tellIdl p true else s

/-- LINK_REQUEST_RECEIVE (R99, R110, R113, R114, R163): a run-time IDL/T, with its rank and what it asks; inside a frame it is none, and while
lane 1 is under test a width request is not acknowledged (23_stitch_test_and_bist.md R493). -/
def Chip.requestReceive (s : Chip) (p : Nat) (body : List (BitVec 8)) : Chip :=
  if !s.coreUp || !s.linkActive p then s
  else if s.frameOpen p then s.codeBad p
  else if !bodyOk 20 body then s
  else
    let s := s.rankHeard p (leNat ((body.drop 3).take 1) % 4)
    let b13 := leNat ((body.drop 13).take 1)
    if bit b13 1 || (bit b13 2 && !s.testing 2 p) then
      s.requestTake p (bit b13 1) (leNat ((body.drop 2).take 1) % 4) (leNat ((body.drop 14).take 4))
    else s

/-- REQUEST_ACKNOWLEDGEMENT (R113): a retrain is done with it and enters DETECT; a width change is fixed for its cycle. -/
def Chip.requestAck (s : Chip) (p : Nat) : Chip :=
  if !s.coreUp || !s.linkActive p || !s.asking p then s else
  if (s.gl p).req = 1 then ((s.linkReqEnd p 1).linkDrop p 2).tellIdl p false
  else s.setGl p { s.gl p with fixed := some ((s.gl p).reqW, (s.gl p).reqC) }

/-- LINK_REQUEST_TIMEOUT (R113). -/
def Chip.requestTimeout (s : Chip) (p : Nat) : Chip := if s.coreUp && s.asking p then (s.linkReqEnd p 3).tellIdl p false else s

/-- WIDTH_SWITCH (R113): at the CYC of the request cycle; an upshift whose lane 1 is not ready fails. -/
def Chip.widthSwitch (s : Chip) (p : Nat) : Chip :=
  match (s.gl p).fixed with
  | none => s
  | some (w, c) =>
    if !s.coreUp || !s.linkActive p || later c (s.get Reg.CLK_CYC_NUM) then s else
    let was := s.get (Reg.LINK_STAT_WIDTH p)
    let fail := w == 2 && was != 2 && !(s.gl p).lane1
    let s := s.setGl p { s.gl p with fixed := none, lanes := if fail ∨ w = 1 then 1 else 3, lane1 := false }
    let s := if fail then s else s.put (Reg.LINK_STAT_WIDTH p) w
    let s := if !fail ∧ w = 1 ∧ was = 2 ∧ (s.gl p).scan = 1 then s.marginCut p else s
    if s.flag (Reg.LINK_STAT_REQ_BUSY p) ∧ (s.gl p).req = 2 then s.linkReqEnd p (if fail then 3 else 1) else s

/-- UPSHIFT_LANE_READY (R113). -/
def Chip.upshiftReady (s : Chip) (p : Nat) : Chip :=
  let wanted := (match (s.gl p).fixed with | some (w, _) => w == 2 | none => false) || (s.asking p && (s.gl p).req == 2 && (s.gl p).reqW == 2)
  if s.coreUp && s.linkActive p && wanted && s.get (Reg.LINK_STAT_WIDTH p) == 1 then s.setGl p { s.gl p with lane1 := true } else s

/-- REQUEST_REISSUE (R114): the trigger of a withdrawn request of the node's own has held for 1 ms. -/
def Chip.requestReissue (s : Chip) (p : Nat) : Chip :=
  if s.coreUp && s.linkActive p && (s.gl p).again && !s.flag (Reg.LINK_STAT_REQ_BUSY p) && (s.gl p).fixed.isNone then
    (s.setGl p { s.gl p with again := false }).request p 1 0 true
  else s

/-- ERR_LIMIT_RETRAIN (R97, R115): the invalid code-groups of a lane in 1 ms. -/
def Chip.errLimit (s : Chip) (p lane errors : Nat) : Chip :=
  if !s.coreUp then s else
  let s := s.add (if lane = 0 then Reg.LINK_CG_ERR0 p else Reg.LINK_CG_ERR1 p) errors
  let lim := s.wk (Reg.LINK_POLICY p)
  if lim ≠ 0 ∧ lim < errors ∧ s.linkActive p ∧ !s.flag (Reg.LINK_STAT_REQ_BUSY p) then s.request p 1 0 true else s

/-- Is port p's flask fenced, so that its commands that act on the link are STATE_REJECT (13_flasks_and_warden.md R282)? A margin scan acts on
nothing but its sampler and stays allowed (DEDUCED, log entry 41). -/
def Chip.linkFenced (s : Chip) (p : Nat) : Bool := !s.active (41 + p)

/-- LINK.CTRL.ENABLE (R105): training starts from DOWN; the electrical idle that KEEP_HEAD left ends (DESIGN CHOICE, log entry 40). -/
def Chip.linkEnable (s : Chip) (r p : Nat) : Did :=
  if s.linkFenced p then s.no r 2 p 4
  else (((s.setGl p { s.gl p with quiet := false }).put (Reg.LINK_STAT_EN p) 1).tellIdl p false).ok

/-- LINK.CTRL.DISABLE: the port goes DOWN, a busy request fails (Table LINK-5). -/
def Chip.linkDisable (s : Chip) (r p : Nat) : Did :=
  if s.linkFenced p then s.no r 2 p 4 else
  let s := s.put (Reg.LINK_STAT_EN p) 0
  (((s.setGl p { s.gl p with sig := 0 }).linkDrop p 0).tellIdl p false).ok

/-- LINK.CTRL.RETRAIN (R57, R113). -/
def Chip.linkRetrain (s : Chip) (r p : Nat) : Did :=
  if s.linkFenced p || s.flag (Reg.LINK_STAT_REQ_BUSY p) then s.no r 2 p 4 else (s.request p 1 0 false).ok

/-- LINK.CTRL.WIDTH (R57, R113; of a port whose lane 1 is under test no upshift, 23_stitch_test_and_bist.md R493): 0 asks for nothing, and so does the reserved code 3 (log entry 13). -/
def Chip.linkWidth (s : Chip) (r p w : Nat) : Did :=
  if w = 0 ∨ w = 3 then s.ok
  else if (w == 2 && s.testing 2 p) || s.linkFenced p || s.flag (Reg.LINK_STAT_REQ_BUSY p) then s.no r 2 p 4 else (s.request p 2 w false).ok

/-! Alarms (R103) -/

/-- Body of an ALM without its CRC: station, ring, cause (Table LINK-1). -/
def Chip.almWord (s : Chip) (cause : Nat) : Nat :=
  s.get Reg.CHAIN_ADDR_STATION + 1024 * s.get Reg.CHAIN_ADDR_RING + 4096 * (cause % 16)

/-- Body of an ALM (Table LINK-1). -/
def Chip.almBody (s : Chip) (cause : Nat) : List (BitVec 8) := bodySealed (natBytes 2 (s.almWord cause))

/-- The port on which a cause is sent (Table LINK-2). -/
def Chip.almPort (s : Chip) (cause : Nat) : Option Nat := if cause = 2 then s.tailPort else s.headPort

/-- ALM_SEND: the oldest cause whose direction is port p goes out at its first idle run. -/
def Chip.almSend (s : Chip) (p : Nat) : Chip :=
  if !s.coreUp || !s.linkActive p || bit s.chain.join p then s else
  match s.alms.find? (fun c => s.almPort c == some p) with
  | none => s
  | some c => ({ s with alms := s.alms.erase c }).setGl p { s.gl p with almOut := s.almBody c }

/-- A node that is no head passes an ALM on unchanged, in the direction it travels (R103). -/
def Chip.almPass (s : Chip) (p : Nat) (body : List (BitVec 8)) : Chip :=
  match s.passPort p with | some q => s.setGl q { s.gl q with almOut := body } | none => s

/-- What every node does with an ALM it receives (R103): recorded, counted, raised. -/
def Chip.almTake (s : Chip) (p : Nat) (body : List (BitVec 8)) : Chip :=
  let v := leNat (body.take 2)
  ((s.put (Reg.LINK_ALM_LAST p) v).inc (Reg.LINK_ALM_CNT p)).fire 51 (v + 65536 * p)

/-! Margin scans (R123) -/

/-- LINK.MARGIN_CTRL.GO. -/
def Chip.marginGo (s : Chip) (r p lane : Nat) : Did :=
  if s.flag (Reg.LINK_MARGIN_BUSY 0) || s.flag (Reg.LINK_MARGIN_BUSY 1) then s.no r 2 p 0x38 else (s.marginBegin p lane).ok

/-- MARGIN_SCAN_DONE: a lane not in use ends with VALID 0; a closed eye has no width and no height. A background scan rests while F53 is
fenced (22_background_work.md R467). -/
def Chip.marginDone (s : Chip) (p : Nat) (open_ : Bool) (w h : Nat) : Chip :=
  if !s.coreUp || (s.flag Reg.BKG_STAT_MARGIN_RUN && !s.active 53) then s else
  s.marginEnd p (s.laneUsed (2 * p + (s.gl p).scan)) (if open_ then w else 0) (if open_ then h else 0)

/-! Sleep and wake (R116 to R120) -/

/-- CHAIN.SLEEP_GO. -/
def Chip.sleepGo (s : Chip) (r lead : Nat) : Did :=
  if !s.isHead || decide (lead < 2) || s.chain.sleep.isSome then s.no r 4 0 0x20C else
  let p := (s.get Reg.CLK_CYC_NUM + 1) % 2 ^ 32
  (({ s with chain := { s.chain with
    sleep := some (p, (p + lead) % 2 ^ 32), sleepSent := false, sleepChk := none, sleepBad := false, sleepZero := false } }).put
    Reg.CHAIN_SLEEP_RES 1).ok

/-- Does a node refuse a propose of cycle S (R117)? -/
def Chip.sleepRefuses (s : Chip) (c : Nat) : Bool :=
  let d := sub32 c (s.get Reg.CLK_CYC_NUM)
  s.pwr.wake != 0 || s.wkB Reg.CHAIN_SLEEP_CFG_INHIBIT || [0, 1].any (fun p => s.linkPartner p && !s.linkActive p) ||
  decide (d < 2) || decide (2 ^ 31 ≤ d)

/-- CHAIN.SLEEP_PROP: S proposes, 0 cancels (R117). -/
def Chip.sleepProp (s : Chip) (r c : Nat) : Did :=
  if c = 0 then (if s.get Reg.CHAIN_SLEEP_STAT_STATE = 0 then s else s.proposeOver).ok
  else if s.sleepRefuses c then s.no r 4 0 0x200
  else (({ s with chain := { s.chain with sleepS := c, slp := false } }).put Reg.CHAIN_SLEEP_STAT_STATE 1).ok

/-- The commit point (R118): the OR-read of cycle S − 1 has passed, and what it carries on, this node's own bit with it, is without
WAKE_PEND. -/
def Chip.sleepCommit (s : Chip) (pend : Bool) : Chip :=
  if s.get Reg.CHAIN_SLEEP_STAT_STATE = 1 ∧ !pend ∧ (s.get Reg.CLK_CYC_NUM + 1) % 2 ^ 32 = s.chain.sleepS then
    s.put Reg.CHAIN_SLEEP_STAT_STATE 2
  else s

/-- SLP leaves on port p. -/
def Chip.slpPass (s : Chip) (p : Nat) (body : List (BitVec 8)) : Chip := s.setGl p { s.gl p with slpOut := body }

/-- Port p goes into electrical idle for KEEP_HEAD (R119). -/
def Chip.hush (s : Chip) (p : Nat) : Chip := (s.setGl p { s.gl p with quiet := true }).tellIdl p false

/-- SLP returns to the head (R119): STANDBY, or with KEEP_HEAD both ports in electrical idle. -/
def Chip.slpHead (s : Chip) : Chip :=
  let s := { s with chain := { s.chain with slp := false } }
  if !s.wkB Reg.CHAIN_SLEEP_CFG_KEEP_HEAD then s.enterStandby else
  let s := (s.linkDrop 0 0).linkDrop 1 0
  (s.hush 0).hush 1

/-- SLP_RECEIVE (R119): a member passes it tailward and enters STANDBY when it comes back, a tail folds it and does so at once; a head when
it returns. What comes back must carry the sleep cycle that went out (DEDUCED, log entry 37). -/
def Chip.slpReceive (s : Chip) (p : Nat) (body : List (BitVec 8)) : Chip :=
  if !s.coreUp || !s.linkActive p || bit s.chain.join p || !bodyOk 6 body then s else
  let c := leNat (body.take 4)
  let back := s.chain.slp && s.chain.slpS == c
  if s.isHead then (if back && s.tailPort == some p then s.slpHead else s)
  else if s.headPort = some p then
    let s := { s with chain := { s.chain with slp := true, slpS := c } }
    if s.folded then (s.slpPass p body).enterStandby
    else match s.tailPort with | some q => s.slpPass q body | none => s
  else if back then (s.slpPass (1 - p) body).enterStandby else s

/-- STANDBY_LANE_WAKE (R120). -/
def Chip.laneWake (s : Chip) : Chip :=
  if s.pwr.phase = .standby ∨ (s.pwr.phase = .dropping ∧ s.pwr.goal = .standby) then s.wakeCause 0 else s

/-- The burst of WAK ends on port p. -/
def Chip.wakOff (s : Chip) (p : Nat) : Chip := (s.setGl p { s.gl p with wak := false }).tellIdl p false

/-- WAK_BURST_END (R120): training starts from DOWN. -/
def Chip.wakEnd (s : Chip) : Chip := (s.wakOff 0).wakOff 1

/-! Join links and planned uncoupling (07_chain_topology_and_heads.md R163, R164) -/

/-- JOIN_LINK_NORMAL: the partner's rank turns 2. -/
def Chip.joinNormal (s : Chip) (p : Nat) : Chip :=
  if s.coreUp && bit s.chain.join p then s.rankHeard p 2 else s

/-- CHAIN.DETACH with 0: the detached state ends. -/
def Chip.detachEnd (s : Chip) : Did :=
  let s := { s with chain := { s.chain with detach := none } }
  let s := s.put Reg.CHAIN_STAT_DETACHED 0
  ((match s.tailPort with | some p => s.tellIdl p false | none => s).tellTerms).ok

/-- CHAIN.DETACH. -/
def Chip.detach (s : Chip) (r c : Nat) : Did :=
  if c = 0 then s.detachEnd else
  let d := sub32 c (s.get Reg.CLK_CYC_NUM)
  if s.isHead || decide (d < 2) || decide (2 ^ 31 ≤ d) then s.no r 4 0 0x50
  else ({ s with chain := { s.chain with detach := some c } }).ok

/-- DETACH_EXECUTE: at mark C. -/
def Chip.detachExecute (s : Chip) : Chip :=
  if !s.coreUp || s.chain.detach != some (s.get Reg.CLK_CYC_NUM) then s else
  let s := { s with chain := { s.chain with detach := none, lift := false } }
  let s := (s.foldBack).put Reg.CHAIN_STAT_DETACHED 1
  let s := match s.tailPort with | some p => (s.linkDrop p 0).tellIdl p false | none => s
  s.tellTerms.chainShow

end Sys2Proof.Machine
end

