-- ==== Sys2Proof/Machine/ChainCmds.lean ====
section
/-! DEFINITION. Addresses, the station table, delays, the reserve head's epochs, takeover and handback
(07_chain_topology_and_heads.md R149 to R172). -/

namespace Sys2Proof.Machine

/-! Addresses (R154, R155) -/

/-- CHAIN.ASSIGN_UID0 and ASSIGN_UID1. -/
def Chip.assignUid (s : Chip) (hi : Bool) (w : Nat) : Did :=
  if hi then ({ s with chain := { s.chain with uid1 := w } }).ok else ({ s with chain := { s.chain with uid0 := w } }).ok

/-- The node holds an address, which ADDR, STAT and INFO3 show; the ports that the wide port map names by it follow (R303). -/
def Chip.putAddr (s : Chip) (st ring : Nat) : Chip :=
  let s := ((s.put Reg.CHAIN_ADDR_STATION st).put Reg.CHAIN_ADDR_RING ring).put Reg.CHAIN_STAT_ADDR_VALID 1
  (((s.put Reg.CHAIN_INFO3_STATION st).put Reg.CHAIN_INFO3_RING ring).put Reg.CHAIN_INFO3_ADDR_VALID 1).hubAuto

/-- CHAIN.ASSIGN (R154, R156): station [9:0], ring [11:10]. -/
def Chip.assign (s : Chip) (r w : Nat) : Did :=
  let st := bits w 9 0
  if s.chain.uid0 + 2 ^ 32 * s.chain.uid1 ≠ Sys2Proof.Config.uid.toNat ∨ st = 0 ∨ 1022 < st then s.no r 4 0 0x28 else
  let s := ((s.putAddr st (bits w 11 10)).inc Reg.CHAIN_ASSIGN_CNT).put Reg.CHAIN_STAT_DLY_PEND 1
  let s := { s with chain := { s.chain with newAddr := true } }
  (s.memberTrunk.chainShow).ok

/-- STICKY_SAVE (R155): a newly accepted address goes to the journal unless it is the one recorded, or on its way there. -/
def Chip.stickySave (s : Chip) : Chip :=
  let w := s.get Reg.CHAIN_ADDR_STATION + 1024 * s.get Reg.CHAIN_ADDR_RING
  let rec_ := s.get Reg.CHAIN_INFO2_STICKY + 1024 * s.get Reg.CHAIN_INFO2_S_RING
  let same := s.flag Reg.CHAIN_INFO2_S_VALID && rec_ == w
  let p : JPut := ⟨0, false, [w, 0, 0, 0], false⟩
  if !s.coreUp || s.isHead || !s.wkB Reg.CHAIN_CFG_STICKY_SAVE || !s.flag Reg.CHAIN_STAT_ADDR_VALID || !s.chain.newAddr || same ||
    s.bkg.pend.contains p || s.bkg.written.contains p then s
  else ({ s with chain := { s.chain with newAddr := false } }).jPut p

/-- CHAIN.STICKY_CLR.GO (R155): the record is deleted. -/
def Chip.stickyClr (s : Chip) : Did := (s.jPut ⟨0, true, [], false⟩).ok

/-! The station table (R151, R157) -/

/-- Address of an entry. -/
def entryAt (ring st : Nat) : Nat := 0xB8000 + 16 * (1024 * ring + st)

/-- Identity of an entry. -/
def Chip.entUid (s : Chip) (ring st : Nat) : Nat := (s.rdw (entryAt ring st)).toNat + 2 ^ 32 * (s.rdw (entryAt ring st + 4)).toNat

/-- Position of an entry. -/
def Chip.entPos (s : Chip) (ring st : Nat) : Nat := bits (s.rdw (entryAt ring st + 8)).toNat 9 0

/-- State of an entry: 0 FREE, 1 PRESENT, 2 LOST, 3 DETACHED, 4 UNCONFIRMED. -/
def Chip.entState (s : Chip) (ring st : Nat) : Nat := bits (s.rdw (entryAt ring st + 8)).toNat 12 10

/-- Stations of a ring whose entry is PRESENT. -/
def Chip.present (s : Chip) (ring : Nat) : List Nat := (List.range 1024).filter (fun st => s.entState ring st == 1)

/-- Is a ring in use: ring 0, the ring of the head's bridge port or behind a bridge member it has read, and a ring in which the table lists a
node (log entries 23, 38)? -/
def Chip.ringUsed (s : Chip) (ring : Nat) : Bool :=
  ring == 0 || s.chain.brAcc.get 0 ring != 0 || (s.wkB Reg.CHAIN_CFG_BR_EN && s.wk Reg.CHAIN_CFG_BR_RING == ring) ||
  (List.range 1024).any (fun st => s.entState ring st != 0)

/-- The rings in use. -/
def Chip.rings (s : Chip) : List Nat := (List.range 4).filter s.ringUsed

/-- MEMBERS and RING_CNT follow the table (R157). -/
def Chip.countMembers (s : Chip) : Chip :=
  let n := fun r => (s.present r).length
  let s := s.put Reg.CHAIN_MEMBERS (n 0 + n 1 + n 2 + n 3)
  s.each (List.range 4) (fun s r => (s.put (Reg.CHAIN_RING_CNT_COUNT r) (s.present r).length).putB (Reg.CHAIN_RING_CNT_USED r) (s.ringUsed r))

/-- Change an entry's state and position, with the cycle of the change. -/
def Chip.setEntry (s : Chip) (ring st pos state : Nat) : Chip :=
  let s := (s.wrw (entryAt ring st + 8) (BitVec.ofNat 32 (pos + 1024 * state))).wrw (entryAt ring st + 12) (BitVec.ofNat 32 (s.get Reg.CLK_CYC_NUM))
  if ring = 0 then { s with chain := { s.chain with changed := true } } else s

/-! Delays (02_clocks_and_chain_time.md R37, R171) -/

/-- Own outbound minus return residence in ps; a bit lasts 400 ps (02_clocks_and_chain_time.md R37, 05_gleshline_link.md R94). -/
def Chip.residDiff (s : Chip) : Int := ((s.get Reg.CLK_RESID_OUT : Int) - s.get Reg.CLK_RESID_RET) * 400

/-- rev_k, while Q is loaded (R171). -/
def Chip.revShow (s : Chip) : Chip :=
  let s := s.putB Reg.CHAIN_STAT_REV_OK s.chain.qLoaded
  let v : Int := signed 32 (s.get Reg.CHAIN_BACK_T) - signed 32 (s.get Reg.CHAIN_REV_Q_VAL) - signed 32 (s.get Reg.CHAIN_DLY_ACC) - s.residDiff
  if s.chain.qLoaded then s.put Reg.CHAIN_REV_DELAY (unsigned 32 v) else s

/-- CHAIN.REV_Q. -/
def Chip.revQLoad (s : Chip) (q : Nat) : Did :=
  ((({ s with chain := { s.chain with qLoaded := true } }).put Reg.CHAIN_REV_Q_VAL q).revShow).ok

/-- May the member measure (02_clocks_and_chain_time.md R37)? -/
def Chip.mayMeasure (s : Chip) : Bool :=
  s.flag Reg.CHAIN_STAT_DLY_PEND && (s.get Reg.CLK_STATUS_SYNC == 2 || (s.get Reg.CLK_STATUS_SYNC == 1 && s.clk.freqOk))

/-- FOLDED_CYC_ARRIVAL at port p (R37, R156, R171): a head takes L0 of that port; a member, at its tailward receiver, T_k in every cycle,
and L while it may measure. -/
def Chip.foldedCyc (s : Chip) (p loop back : Nat) : Chip :=
  if !s.coreUp then s
  else if s.isHead then { s with chain := { s.chain with l0 := s.chain.l0.put 0 p loop } }
  else if s.tailPort ≠ some p then s
  else ((if s.mayMeasure then { s with chain := { s.chain with loop := loop } } else s).put Reg.CHAIN_BACK_T back).revShow

/-- The first DELAY slot of a pair passes with accumulator `acc` (02_clocks_and_chain_time.md R37). -/
def Chip.delayA (s : Chip) (acc : Nat) : Chip :=
  if s.mayMeasure then ({ s with chain := { s.chain with gotA := true } }).put Reg.CHAIN_DLY_ACC acc else s

/-- The second slot brings L0: the member sets d_k (02_clocks_and_chain_time.md R37), and Q must be loaded again (R171). -/
def Chip.delayB (s : Chip) (l0 : Nat) : Chip :=
  if s.mayMeasure && s.chain.gotA then
    let d : Int := ((l0 : Int) - s.chain.loop) / 2 + signed 32 (s.get Reg.CHAIN_DLY_ACC) / 2
    let s := { s with chain := { s.chain with gotA := false, qLoaded := false } }
    (((s.put Reg.CLK_DELAY (unsigned 32 d)).put Reg.CHAIN_STAT_DLY_PEND 0)).revShow
  else s

/-! Epochs (R166 to R168) -/

/-- Chunks of an epoch, and its bytes (Table CHAIN-2). -/
def epochChunks : Nat := 141
def epochBytes : Nat := 34920

/-- Register words of an epoch in the order of Table CHAIN-2: slot map, FRAME_CTL and HEAD_CTL, windows, CLK.CYCLE and APPLY, CFG and
CKPT_EVERY. -/
def epochRegs : List Nat :=
  (List.range 4096).map (fun i => 0x1034000 + 4 * i) ++ (List.range 16).map (fun i => 0x1030080 + 4 * i) ++ [0x1030100] ++
  (List.range 512).map (fun i => 0x1031000 + 4 * i) ++ [Reg.CLK_CYCLE.addr, Reg.CLK_APPLY.addr, 0x1040030, 0x1040034]

/-- The content of a new epoch, by working values (R166). -/
def Chip.epochContent (s : Chip) (n : Nat) : List (BitVec 8) :=
  let head := [n, s.get Reg.CLK_CYC_NUM, epochChunks, s.rings.length].flatMap (natBytes 4)
  let b := head ++ s.rdbs 0xB8000 16384 ++ epochRegs.flatMap (fun a => natBytes 4 (s.regWord a))
  b ++ natBytes 4 (crc32 b).toNat

/-- Is an epoch due (R166)? A copy goes to a reserve as soon as one is found: READY itself asks for a complete epoch (R165), so that the
first case is read without it (log entry 23). -/
def Chip.epochDue (s : Chip) : Bool :=
  s.isHead && !s.chain.active && s.chain.rsv != 0 &&
  (s.chain.noEpoch || s.chain.due || s.chain.changed ||
    decide (s.wk Reg.CHAIN_CKPT_EVERY ≤ sub32 (s.get Reg.CLK_CYC_NUM) s.chain.epochCyc))

/-- A new epoch begins with the next number. -/
def Chip.epochBegin (s : Chip) : Chip :=
  let n := (s.chain.epoch + 1) % 2 ^ 32
  let s := s.wrbs 0xC8000 (s.epochContent n)
  let s := { s with chain := { s.chain with
    active := true, epoch := n, chunk := 0, epochCyc := s.get Reg.CLK_CYC_NUM, due := false, changed := false, noEpoch := false } }
  ((s.put Reg.CHAIN_EPOCH_TX n).put Reg.CHAIN_CKPT_STAT_NEXT 0).put Reg.CHAIN_CKPT_STAT_TOTAL epochChunks

/-- EPOCH_START (R166). -/
def Chip.epochStart (s : Chip) : Chip := if s.coreUp && s.epochDue then s.epochBegin else s

/-- CHAIN.CKPT_IN, a word before the last: staged (R168). -/
def Chip.ckptWord (s : Chip) (i w : Nat) : Chip := { s with chain := { s.chain with words := s.chain.words.put 0 i w } }

/-- The partial epoch is given up (R168, R169). -/
def Chip.partDrop (s : Chip) : Chip :=
  ((({ s with chain := { s.chain with part := none } }).put Reg.CHAIN_CKPT_STAT_NEXT 0).put Reg.CHAIN_CKPT_STAT_TOTAL 0)

/-- The reserve stores chunk i of epoch e, and after the last one judges the epoch (R168). -/
def Chip.ckptStore (s : Chip) (e i : Nat) : Chip :=
  let base := epochBase (!s.chain.sel)
  let data := ((List.range 62).map (fun k => s.chain.words.get 0 (k + 2))).flatMap (natBytes 4)
  let s := s.wrbs (base + 248 * i) (data.take (epochBytes - 248 * i))
  let s := ({ s with chain := { s.chain with part := some (e, i + 1) } }).put Reg.CHAIN_CKPT_STAT_NEXT (i + 1)
  let s := s.put Reg.CHAIN_CKPT_STAT_TOTAL epochChunks
  if i + 1 < epochChunks then s
  else if (crc32 (s.rdbs base (epochBytes - 4))).toNat = leNat (s.rdbs (base + epochBytes - 4) 4) then
    ((({ s with chain := { s.chain with sel := !s.chain.sel, complete := true } }).put Reg.CHAIN_EPOCH_OK e)).chainShow
  else ((s.partDrop).inc Reg.CHAIN_CKPT_DISCARD_CNT).fire 45 0

/-- CHAIN.CKPT_IN word 63 (R168). -/
def Chip.ckptChunk (s : Chip) (r w : Nat) : Did :=
  let s := s.ckptWord 63 w
  let e := s.chain.words.get 0 0
  let i := s.chain.words.get 0 1 % 65536
  let total := s.chain.words.get 0 1 / 65536
  let no := s.no r 4 0 0x4FC
  if s.get Reg.CHAIN_STAT_ROLE ≠ 2 ∨ total ≠ epochChunks then no else
  match s.chain.part with
  | some (n, next) =>
    if e = n ∧ i = next ∧ next < epochChunks then (s.ckptStore e i).ok
    else if e = n ∧ i + 1 = next then s.ok
    else if i = 0 ∧ later e n then (s.ckptStore e 0).ok else no
  | none => if i = 0 ∧ (!s.chain.complete ∨ later e (s.get Reg.CHAIN_EPOCH_OK)) then (s.ckptStore e 0).ok else no

/-! Takeover and handback (R169, R172) -/

/-- Put a word into both copies of a register's RW-P fields (R169). -/
def Chip.putBoth (s : Chip) (addr w : Nat) : Chip :=
  match locate addr with
  | none => s
  | some l => s.each l.fields (fun s f =>
      if f.code != .rwP then s else
      let v := w / 2 ^ f.lsb % 2 ^ f.width
      { s with shadow := s.shadow.put f.reset f.key v, work := s.work.put f.reset f.key v })

/-- The complete epoch is installed (R169 items 2 to 4). Every entry of ring 0, the epoch's, goes UNCONFIRMED, a FREE one too (log
entry 43). -/
def Chip.epochInstall (s : Chip) : Chip :=
  let base := epochBase s.chain.sel
  let before := s
  let s := s.wrbs 0xB8000 (s.rdbs (base + 16) 16384)
  let s := s.each (List.zip (List.range epochRegs.length) epochRegs) (fun s p => s.putBoth p.2 (s.rdw (base + 16400 + 4 * p.1)).toNat)
  let s := s.pourWindows before
  let own := s.get Reg.CHAIN_ADDR_STATION
  let s := s.each (List.range 1024) (fun s st => s.setEntry 0 st (s.entPos 0 st) 4)
  s.setEntry 0 own 0 0

/-- RESERVE_TAKEOVER (R169 items 1 to 4): after three missing marks. The reserve sends its first CYC at the next mark. -/
def Chip.takeover (s : Chip) : Chip :=
  if !s.coreUp || !s.ready || s.chain.taking || decide (s.clk.missed < 3) then s else
  let s := ((s.armWithdraw).partDrop).epochInstall
  { s with chain := { s.chain with taking := true } }

/-- At mark m + 4 the reserve sends from its former headward port, in LOCKED (R169 item 5, R110). -/
def Chip.takeoverPort (s : Chip) : Chip :=
  let s := s.put Reg.CLK_STATUS_SYNC 2
  match s.headPort with
  | none => s
  | some p => ((s.put (Reg.LINK_STAT_ROLE p) 1).put (Reg.LINK_STAT_SENIOR p) 1).put (Reg.LINK_STAT_ROLE (1 - p)) 0

/-- It is the head (R169 item 6). -/
def Chip.takeoverEnd (s : Chip) : Chip :=
  let s := ((s.put Reg.CHAIN_STAT_ROLE 3).putAddr 0 0).inc Reg.CHAIN_TAKEOVER_CNT
  let s := s.put Reg.CHAIN_STAT_RING 0
  let s := { s with chain := { s.chain with taking := false, handed := false, hand := none, rsv := 0, noEpoch := true, active := false
                                            give := [], epoch := s.get Reg.CHAIN_EPOCH_OK } }
  (((s.fire 47 0).countMembers).presentChange).chainShow

/-- CHAIN.HANDBACK_GO (R172). -/
def Chip.handbackGo (s : Chip) (r lead : Nat) : Did :=
  if s.get Reg.CHAIN_STAT_ROLE ≠ 3 ∨ lead < 2 then s.no r 4 0 0x54
  else ({ s with chain := { s.chain with hand := some ((s.get Reg.CLK_CYC_NUM + lead) % 2 ^ 32) } }).ok

/-- HANDBACK_START (R172): from mark H the reserve sends no CYC. -/
def Chip.handbackStart (s : Chip) : Chip :=
  match s.chain.hand with
  | none => s
  | some h =>
    if !s.coreUp || s.get Reg.CHAIN_STAT_ROLE != 3 || later h ((s.get Reg.CLK_CYC_NUM + 1) % 2 ^ 32) then s else
    ({ s with chain := { s.chain with hand := none, handed := true } }).put Reg.GATE_STAT_ORIGIN 0

end Sys2Proof.Machine
end

