-- ==== Sys2Proof/Machine/Head.lean ====
section
/-! DEFINITION. The head: its cycle marks, the frames it builds and what it makes of those that return (02_clocks_and_chain_time.md R40,
03_register_model.md R66, 05_gleshline_link.md R100, R116, 06_cycle_frames_and_gate.md R142, R146, R147, 07_chain_topology_and_heads.md R150 to R171,
15_wide_hub_tunnel.md R334, R345). -/

namespace Sys2Proof.Machine

/-- Operation codes of the head's own slots (06_cycle_frames_and_gate.md Table GATE-4). -/
abbrev opHopRd : Nat := 0x01
abbrev opHopWr : Nat := 0x02
abbrev opStRd : Nat := 0x03
abbrev opStWr : Nat := 0x04
abbrev opBcOr : Nat := 0x06
abbrev opTunnel : Nat := 0x0C
abbrev opPourArm : Nat := 0x10
abbrev opPour : Nat := 0x11
abbrev opDelay : Nat := 0x12

/-- A slot with what the head does as it sends it. -/
abbrev HeadSlot := SentSlot × (Chip → Chip)

/-- Slots that go out together or wait together: those of one purpose, one for each ring in use (R157). -/
abbrev SlotGroup := List HeadSlot

/-- A slot without a further effect at its sending. -/
def plainSlot (use : SlotUse) (op addr target : Nat) (payload : List (BitVec 8)) : HeadSlot :=
  (⟨use, op, 0, addr, target, payload⟩, id)

/-- CHAIN.SLEEP_PROP and CHAIN.SLEEP_STAT (05_gleshline_link.md Table LINK-7). -/
def sleepPropReg : Nat := 0x01040200
def sleepStatReg : Nat := 0x01040204

/-- Station 1023 of a ring. -/
def allOf (ring : Nat) : Nat := 1023 + 1024 * ring

/-! Pour and sleep slots (03_register_model.md R66, 05_gleshline_link.md R116) -/

/-- The payload of POUR_ARM and POUR. -/
def pourPayload (mask target : Nat) : List (BitVec 8) := natBytes 4 mask ++ natBytes 4 target

/-- The head's own arm, in the cc in which the arm slot goes out. -/
def Chip.headArm (s : Chip) (n : Nat) : Chip :=
  let t := s.get Reg.SYS_CH_TARGET
  let may := s.mayArm s.arm.mask t n
  let s := if may then s.armNow s.arm.mask t false else s
  ({ s with arm := { s.arm with wait := false, self := may, cyc := n, match_ := none } }).put Reg.SYS_CH_STAT_STATE 1

/-- The head accepts its own pour. -/
def Chip.headPour (s : Chip) : Chip := (s.armAccept).put Reg.SYS_CH_STAT_STATE 2

/-- The head sends the withdraw, and withdraws its own arm. -/
def Chip.headWithdraw (s : Chip) : Chip := ((if s.arm.self then s.armWithdraw else s)).put Reg.SYS_CH_STAT_STATE 4

/-- An effect at the first of a list of slots. -/
def withFirst (f : Chip → Chip) : List HeadSlot → List HeadSlot
  | [] => []
  | x :: t => (x.1, f) :: t

/-- The pour slots of cycle n, one for each ring in use (07_chain_topology_and_heads.md R157). -/
def Chip.pourSlots (s : Chip) (n : Nat) : SlotGroup :=
  let p := pourPayload s.arm.mask (s.get Reg.SYS_CH_TARGET)
  let mk := fun (use : SlotUse) op fl => s.rings.map (fun r => ((⟨use, op, fl, s.arm.station + 1024 * r, 0, p⟩, id) : HeadSlot))
  if s.arm.wait then withFirst (fun c => c.headArm n) (mk .arm opPourArm 0)
  else if s.get Reg.SYS_CH_STAT_STATE = 1 ∧ n ≠ s.arm.cyc then
    if s.arm.match_ = some true ∧ s.arm.self ∧ s.arm.on then withFirst Chip.headPour (mk .pour opPour 0)
    else withFirst Chip.headWithdraw (mk .withdraw opPour 1)
  else []

/-- One station write, or OR-read, to every member of each ring in use, with what its sending does. -/
def Chip.toAll (s : Chip) (use : SlotUse) (op target : Nat) (payload : List (BitVec 8)) (f : Chip → Chip) : SlotGroup :=
  withFirst f (s.rings.map (fun r => plainSlot use op (allOf r) target payload))

/-- The sleep slots of cycle n (05_gleshline_link.md R116): the write of 0 that is due, the propose until it has gone out, then a check in each
cycle. -/
def Chip.sleepSlots (s : Chip) (n : Nat) : List SlotGroup :=
  let cancel := if s.chain.sleepZero then
      [s.toAll .cancel opStWr sleepPropReg (natBytes 4 0) (fun c => { c with chain := { c.chain with sleepZero := false } })]
    else []
  match s.chain.sleep with
  | none => cancel
  | some (_, t) =>
    cancel ++ [if s.chain.sleepSent then
        s.toAll .check opBcOr sleepStatReg (natBytes 4 0) (fun c => { c with chain := { c.chain with sleepChk := some n } })
      else s.toAll .propose opStWr sleepPropReg (natBytes 4 t) (fun c => { c with chain := { c.chain with sleepSent := true } })]

/-! Delay slots (02_clocks_and_chain_time.md R37, 07_chain_topology_and_heads.md R156, R171) -/

/-- The port of the head that carries a ring: the bridge port its own bridge ring, the tailward port every other. -/
def Chip.ringPort (s : Chip) (r : Nat) : Nat :=
  let p := s.tailPort.getD 0
  if r ≠ 0 ∧ s.wkB Reg.CHAIN_CFG_BR_EN ∧ s.wk Reg.CHAIN_CFG_BR_RING = r then 1 - p else p

/-- Where the accumulator of a ring's first slot starts (R156): at 0 for a ring of the head's own ports; behind a bridge member at that
member's DLY_ACC plus its own residence difference, none until the head has read them (log entry 38). -/
def Chip.accStart (s : Chip) (r : Nat) : Option Nat :=
  if r = 0 ∨ (s.wkB Reg.CHAIN_CFG_BR_EN ∧ s.wk Reg.CHAIN_CFG_BR_RING = r) then some 0
  else match s.chain.brAcc.get 0 r with | 0 => none | v => some (v % 2 ^ 32)

/-- What the head reads of a bridge member: its CFG, DLY_ACC and RESID (R156, R159; log entry 38). -/
def bridgeReg (k : Nat) : Nat := if k = 0 then 0x01040030 else if k = 1 then 0x01040068 else 0x01010030

/-- The reads of the bridge members found, while a measurement is wanted or the ring behind is not known. -/
def Chip.bridgeSlots (s : Chip) : List SlotGroup :=
  (s.chain.bridges.filter (fun b => s.chain.dlyWant || !s.chain.brKnown.contains b)).map (fun b =>
    [0, 1, 2].map (fun k => plainSlot (.brRead b.1 b.2 k) opStRd (b.2 + 1024 * b.1) (bridgeReg k) (natBytes 4 0)))

/-- The first slots of a DELAY pair carry L0 as 0, by which a member tells the two apart (log entry 24). -/
def Chip.delaySlotsA (s : Chip) (n : Nat) : SlotGroup :=
  withFirst (fun c => { c with chain := { c.chain with dlyCyc := some n, dlyB := true } })
    (s.rings.filterMap (fun r => (s.accStart r).map (fun a => plainSlot .delayA opDelay (allOf r) 0 (natBytes 4 a ++ natBytes 4 0))))

/-- The second slots, with the L0 of the port that carries the ring. -/
def Chip.delaySlotsB (s : Chip) : SlotGroup :=
  withFirst (fun c => { c with chain := { c.chain with dlyB := false } })
    (s.rings.filterMap (fun r =>
      match s.accStart r, s.chain.l0.get 0 (s.ringPort r) with
      | _, 0 | none, _ => none
      | some a, l => some (plainSlot .delayB opDelay (allOf r) 0 (natBytes 4 a ++ natBytes 4 l))))

/-- The delay slots of cycle n: what the head reads of the reserve and writes as Q (R171), the reads of bridge members, the pair every 8
cycles while a member asks for it (R156), and the OR-read of CHAIN.STAT. -/
def Chip.delaySlots (s : Chip) (n : Nat) : List SlotGroup :=
  let reads := if s.chain.qDue ∧ s.chain.rsvReady ∧ s.chain.rsv ≠ 0 then
      [[plainSlot (.rsvRead 0) opStRd s.chain.rsv 0x0101002C (natBytes 4 0), plainSlot (.rsvRead 1) opStRd s.chain.rsv 0x01040068 (natBytes 8 0)]]
    else []
  let q := match s.chain.q with
    | some v => [s.toAll .revQ opStWr 0x01040070 (natBytes 4 v) (fun c => { c with chain := { c.chain with q := none } })]
    | none => []
  let due := s.chain.dlyWant && (match s.chain.dlyCyc with | some c => decide (8 ≤ sub32 n c) | none => true)
  let pair := if s.chain.dlyB ∧ !s.delaySlotsB.isEmpty then [s.delaySlotsB] else if due then [s.delaySlotsA n] else []
  reads ++ q ++ s.bridgeSlots ++ pair ++ [s.toAll .stat opBcOr 0x01040000 (natBytes 4 0) id]

/-! Enumeration and checkpoint slots (R152, R153, R167) -/

/-- Members of a ring as the table lists them. -/
def Chip.ringM (s : Chip) (r : Nat) : Nat := (s.present r).length

/-- The enumeration slots. -/
def Chip.enumSlots (s : Chip) : List SlotGroup :=
  if !s.wkB Reg.CHAIN_CFG_AUTO_ENUM then [] else
  s.chain.give.map (fun g => [plainSlot (.assign g) opHopWr (g.hop + 1024 * g.ring) 0x01040020
    (natBytes 4 g.uid0 ++ natBytes 4 g.uid1 ++ natBytes 4 (g.station + 1024 * g.ring))]) ++
  s.rings.flatMap (fun r =>
    let m := s.ringM r
    let hops := if m = 0 then [0, 1, 2, 3] else [m - 1, m, m + 1, m + 2]
    (hops.filter (fun h => decide (h < 1023))).map (fun h => [plainSlot (.probe r h m) opHopRd (h + 1024 * r) 0x01040010 (natBytes 16 0)]))

/-- The checkpoint slots (R167): CKPT_SLOTS 0 counts as 1, above 8 as 8. -/
def Chip.ckptSlots (s : Chip) : List SlotGroup :=
  if !s.chain.active then [] else
  let k := min 8 (max 1 (s.wk Reg.CHAIN_CFG_CKPT_SLOTS))
  ((List.range k).filter (fun i => decide (s.chain.chunk + i < epochChunks))).map (fun i =>
    let c := s.chain.chunk + i
    let data := s.rdbs (0xC8000 + 248 * c) (min 248 (epochBytes - 248 * c))
    [plainSlot (.chunk c) opStWr s.chain.rsv 0x01040400
      (natBytes 4 s.chain.epoch ++ natBytes 4 (c + 65536 * epochChunks) ++ data ++ List.replicate (248 - data.length) 0)])

/-- The lowest frame index with COUNT 0 (R150). -/
def Chip.freeIndex (s : Chip) : Option Nat := (List.range 16).find? (fun f => s.wk (Reg.GATE_FRAME_CTL_COUNT f) == 0)

/-- The groups that fit, in their order, with whether any had to wait (R150). -/
def fitGroups (fits : Nat → Bool) : Nat → List SlotGroup → List HeadSlot × Bool
  | _, [] => ([], false)
  | n, g :: t =>
    let m := g.foldl (fun n x => n + 16 + x.1.payload.length) n
    if fits m then let r := fitGroups fits m t; (g ++ r.1, r.2) else ([], true)

/-- The slots the head has to send in cycle n, in the order of R150. -/
def Chip.houseSlots (s : Chip) (n : Nat) : List SlotGroup :=
  (s.pourSlots n :: (s.sleepSlots n ++ s.delaySlots n ++ s.enumSlots ++ s.ckptSlots)).filter (fun g => !g.isEmpty)

/-- The housekeeping frame of cycle n, if there is any slot for it; what does not fit waits, which HK_BLOCKED shows (R150). -/
def Chip.houseFrame (s : Chip) (n : Nat) : List SentFrame × Chip :=
  let cands := s.houseSlots n
  match s.freeIndex with
  | none => ([], s.putB Reg.CHAIN_STAT_HK_BLOCKED (!cands.isEmpty))
  | some i =>
    let free := laneBudget s.period - 524 - (if s.wkB Reg.GATE_HEAD_CTL then mapCost s.wk s.tailWidth else 0)
    let w := s.tailWidth
    let r := fitGroups (fun b => decide (b ≤ 4096) && decide (frameCost w b ≤ free)) 8 cands
    let s := s.each r.1 (fun s x => x.2 s)
    (if r.1.isEmpty then [] else [{ index := i, urgent := false, cyc := n, slots := r.1.map (·.1) }], s.putB Reg.CHAIN_STAT_HK_BLOCKED r.2)

/-- Bytes of a frame the head sends (Table GATE-1). -/
def SentFrame.bytes (f : SentFrame) : Nat := f.slots.foldl (fun n x => n + 16 + x.payload.length) 8

/-! The slot map (R146) -/

/-- Frame f of the slot map, its payloads taken from their buffers as it is sent. -/
def Chip.mapFrame (s : Chip) (f n : Nat) : SentFrame :=
  { index := f, urgent := s.wkB (Reg.GATE_FRAME_CTL_URG f), cyc := n
    slots := (List.range (min 64 (s.wk (Reg.GATE_FRAME_CTL_COUNT f)))).map (fun k =>
      let d := 64 * f + k
      let h := s.wk (Reg.GATE_SLOT_HDR d)
      ⟨.map d, bits h 7 0, bits h 15 8, bits h 31 16, s.wk (Reg.GATE_SLOT_TARGET d),
        s.ldMany (s.wk (Reg.GATE_SLOT_BUF d) / 4 * 4) (s.wk (Reg.GATE_SLOT_LEN d))⟩) }

/-- Frames one behind the other from an instant on, with the instant at which the last has ended (R104). -/
def Chip.inTurn (s : Chip) (at_ : Nat) (l : List SentFrame) : List SentFrame × Nat :=
  l.foldl (fun a f => (a.1 ++ [{ f with start := a.2 }], a.2 + 4 * frameCost s.tailWidth f.bytes)) ([], at_)

/-- The normal frames of the slot map with the chain time at which each begins, one behind the other from an instant on, and the instant at
which the last has ended (R104, R146). -/
def Chip.mapPlan (s : Chip) (at_ : Nat) : List (Nat × Nat) × Nat :=
  if !s.wkB Reg.GATE_HEAD_CTL then ([], at_) else
  ((List.range 16).filter (fun f => s.wk (Reg.GATE_FRAME_CTL_COUNT f) != 0 && !s.wkB (Reg.GATE_FRAME_CTL_URG f))).foldl
    (fun (a : List (Nat × Nat) × Nat) f => (a.1 ++ [(f, a.2)], a.2 + 4 * frameCost s.tailWidth (mapBytes s.wk f))) ([], at_)

/-- The frames whose time has come go out, their payloads taken from the buffers (R146). -/
def Chip.sendDue (s : Chip) : Chip :=
  if !s.gate.plan.any (fun x => decide (x.2 ≤ s.ct.toNat)) then s else
  s.setGate { s.gate with
    plan := s.gate.plan.filter (fun x => decide (s.ct.toNat < x.2))
    sent := s.gate.sent ++ (s.gate.plan.filter (fun x => decide (x.2 ≤ s.ct.toNat))).map (fun x =>
      { s.mapFrame x.1 (s.get Reg.CLK_CYC_NUM) with start := x.2 }) }

/-! Tunnel frames (15_wide_hub_tunnel.md R334, R345) -/

/-- The bytes a port's non-periodic records and outcomes take. -/
def Chip.npBytes (s : Chip) (w : Nat) : Nat :=
  let x := s.wp w
  recsLen (x.cmds ++ (x.held.filter (fun t => t.state == 0)).map (WTx.down 0)) + flightBytes x.held

/-- The wide ports that take tunnel bytes, in ascending order. -/
def Chip.tunnelPorts (s : Chip) : List Nat := ((List.range 254).map (· + 2)).filter (fun w => s.mapped w && !s.ownEntry w)

/-- Ports whose non-periodic bytes fit behind the reserved periodic ones, served round-robin from the port whose turn it is. -/
def Chip.npGrants (s : Chip) (ports : List Nat) : List Nat :=
  let total := ((List.range 16).filter (fun i => bit (s.wk Reg.WIDE_TUN_TUN_MASK) i)).length * (s.wk Reg.WIDE_TUN_TUN_BYTES - 8)
  let reserved := ports.foldl (fun n w => n + 28 + s.wk (Reg.WIDE_MAP_PER_BUDGET w)) 0
  let order := ports.filter (fun w => decide (s.wide.turn ≤ w)) ++ ports.filter (fun w => decide (w < s.wide.turn))
  (order.foldl (fun (a : Nat × List Nat) w =>
    let n := s.npBytes w
    if n ≤ a.1 then (a.1 - n, w :: a.2) else a) (total - reserved, [])).2

/-- Fill tunnel frames of the given indices with the slots of the ports, in ascending order. -/
def Chip.tunnelFill (s : Chip) (n : Nat) (grants : List Nat) : Nat → List Nat → List Nat → Nat → List SentSlot → List SentFrame × Chip
  | 0, _, _, _, _ => ([], s)
  | _ + 1, [], _, _, _ => ([], s)
  | _ + 1, i :: _, [], _, acc => (if acc.isEmpty then [] else [{ index := i, urgent := false, cyc := n, slots := acc }], s)
  | fuel + 1, i :: t, w :: ws, used, acc =>
    let left := s.wk Reg.WIDE_TUN_TUN_BYTES - 16
    let most := if grants.contains w ∨ !(s.wp w).sent.isEmpty then left
      else min left (12 + recsLen (s.outRecs w) + s.dueBytes w n + s.npBytes w + 7)
    let place (used : Nat) : Option (SentSlot × Nat × Chip) :=
      (s.portSlot w n (min most (left - used))).map (fun r =>
        (⟨.tunnel w, opTunnel, 0, s.wk (Reg.WIDE_MAP_STATION w) + 1024 * s.wk (Reg.WIDE_MAP_RING w), w, r.1⟩, used + 16 + r.1.length, r.2))
    match place used, t, place 8 with
    | some (x, u, s'), _, _ => s'.tunnelFill n grants fuel (i :: t) ws u (acc ++ [x])
    | none, j :: t', some (x, u, s') =>
      -- the next frame takes what this one has no room for
      let r := s'.tunnelFill n grants fuel (j :: t') ws u [x]
      (if acc.isEmpty then r.1 else { index := i, urgent := false, cyc := n, slots := acc } :: r.1, r.2)
    | none, _, _ => s.tunnelFill n grants fuel (i :: t) ws used acc

/-- The tunnel frames of cycle n: a port whose station is not PRESENT is unreachable. -/
def Chip.tunnelFrames (s : Chip) (n : Nat) : List SentFrame × Chip :=
  if !s.tunnels then ([], s) else
  let s := s.each s.tunnelPorts (fun s w =>
    if s.entState (s.wk (Reg.WIDE_MAP_RING w)) (s.wk (Reg.WIDE_MAP_STATION w)) = 1 then s else s.wideGone w)
  let ports := s.tunnelPorts.filter (fun w => s.entState (s.wk (Reg.WIDE_MAP_RING w)) (s.wk (Reg.WIDE_MAP_STATION w)) == 1)
  let idx := (List.range 16).filter (fun i => bit (s.wk Reg.WIDE_TUN_TUN_MASK) i)
  let grants := s.npGrants ports
  let fresh := fun w => !(s.wp w).cmds.isEmpty || (s.wp w).held.any (fun t => t.state == 0)
  let s := if ports.any (fun w => fresh w && !grants.contains w) then s.wideOverload else s
  let r := s.tunnelFill n grants (ports.length + 1) idx ports 8 []
  let turn := match ports.find? (fun w => decide (s.wide.turn < w)) with | some w => w | none => ports.headD 2
  (r.1, { r.2 with wide := { r.2.wide with turn := turn } })

/-! What the head makes of a returned frame (R146) -/

/-- The sum of the acted counts, and of the refusal counts, of the slots of one use. -/
def actedOf (l : List (SentSlot × ReturnedSlot)) (is : SlotUse → Bool) : Nat × Nat :=
  l.foldl (fun a x => if is x.1.use then (a.1 + x.2.acted.toNat, a.2 + x.2.refused.toNat) else a) (0, 0)

/-- The expected count of a pour (03_register_model.md R66). -/
def Chip.expected (s : Chip) : Nat := if s.arm.station = 1023 then s.get Reg.CHAIN_MEMBERS else 1

/-- CH_STAT's counts of the last pour-arm slot, which saturate. -/
def Chip.chCounts (s : Chip) (a : Nat × Nat) : Chip :=
  (s.put Reg.SYS_CH_STAT_ACTED (min a.1 65535)).put Reg.SYS_CH_STAT_REFUSED (min a.2 255)

/-- Pour and sleep slots returned. -/
def Chip.pourReturn (s : Chip) (l : List (SentSlot × ReturnedSlot)) : Chip :=
  let has := fun u : SlotUse => l.any (fun x => x.1.use == u)
  let cnt := fun u : SlotUse => actedOf l (fun v => v == u)
  let s := if has .arm then
      ({ s with arm := { s.arm with match_ := some ((cnt .arm).1 == s.expected) } }).chCounts (cnt .arm) else s
  let s := if has .pour then
      if (cnt .pour).1 < s.expected ∧ s.get Reg.SYS_CH_STAT_STATE = 2 then (s.put Reg.SYS_CH_STAT_STATE 5).fire 41 0 else s
    else s
  let bad := (has .propose && decide ((cnt .propose).1 < s.get Reg.CHAIN_MEMBERS)) ||
    l.any (fun x => x.1.use == .check && bit (leNat (x.2.payload.take 4)) 2)
  if bad then { s with chain := { s.chain with sleepBad := true } } else s

/-- The payload of the slot of a use that a node acted on, if one did. -/
def wordBack (l : List (SentSlot × ReturnedSlot)) (u : SlotUse) : Option (List (BitVec 8)) :=
  (l.find? (fun x => x.1.use == u && x.2.acted != 0)).map (fun x => x.2.payload)

/-- The reserve's D, A and F have come back: Q := D + F − A (R171). -/
def Chip.qReturn (s : Chip) (l : List (SentSlot × ReturnedSlot)) : Chip :=
  match wordBack l (.rsvRead 0), wordBack l (.rsvRead 1) with
  | some d, some a =>
    let q := (leNat (d.take 4) + leNat ((a.drop 4).take 2) + 2 ^ 32 - leNat (a.take 4)) % 2 ^ 32
    { s with chain := { s.chain with q := some q, qDue := false } }
  | _, _ => s

/-- A bridge member's CFG, DLY_ACC and RESID have come back: the ring behind it starts at its DLY_ACC plus its residence difference in ps
(R156, log entry 38). -/
def Chip.bridgeReturn (s : Chip) (l : List (SentSlot × ReturnedSlot)) (b : Nat × Nat) : Chip :=
  match wordBack l (.brRead b.1 b.2 0), wordBack l (.brRead b.1 b.2 1), wordBack l (.brRead b.1 b.2 2) with
  | some cfg, some acc, some res =>
    let ring := bits (leNat (cfg.take 4)) 10 9
    let diff : Int := ((leNat (res.take 2) : Int) - leNat ((res.drop 2).take 2)) * 400
    if !bit (leNat (cfg.take 4)) 8 || ring == b.1 || ring == 0 then s else
    { s with chain := { s.chain with
        brAcc := s.chain.brAcc.put 0 ring (2 ^ 32 + unsigned 32 ((leNat (acc.take 4) : Int) + diff))
        brKnown := if s.chain.brKnown.contains b then s.chain.brKnown else b :: s.chain.brKnown } }
  | _, _, _ => s

/-- The PRESENT entries of a ring that went LOST beyond position p in cycle c were uncoupled by plan: DETACHED (R164, log entry 36). -/
def Chip.shrinkDetached (s : Chip) (ring p c : Nat) : Chip :=
  s.each ((List.range 1024).filter (fun st => s.entState ring st == 2 && decide (p < s.entPos ring st) &&
    (s.rdw (entryAt ring st + 12)).toNat == c)) (fun s st => s.setEntry ring st (s.entPos ring st) 3)

/-- The OR-read of CHAIN.STAT shows a node DETACHED that the last one did not (R164, log entry 36): the shrink of this cycle or of the last
was that node's, else the next alarm is. -/
def Chip.detachTold (s : Chip) (det : Bool) : Chip :=
  let new := det && !s.chain.detSeen
  let s := { s with chain := { s.chain with detSeen := det, detNew := det && s.chain.detNew } }
  if !new then s else
  match s.chain.shrink with
  | some (r, p, c) =>
    if sub32 (s.get Reg.CLK_CYC_NUM) c ≤ 1 then (({ s with chain := { s.chain with shrink := none } }).shrinkDetached r p c)
    else { s with chain := { s.chain with shrink := none, detNew := true } }
  | none => { s with chain := { s.chain with detNew := true } }

/-- The OR-read of CHAIN.STAT returned (R156, R164, R171). -/
def Chip.statReturn (s : Chip) (l : List (SentSlot × ReturnedSlot)) : Chip :=
  if !l.any (fun x => x.1.use == .stat) then s else
  let st := (l.filter (fun x => x.1.use == .stat)).foldl (fun v x => v ||| leNat (x.2.payload.take 4)) 0
  let want := bit st 6
  let ready := bit st 5
  let due := (s.chain.dlyWant && !want && ready) || (ready && !s.chain.rsvReady) || s.chain.qDue
  ({ s with chain := { s.chain with dlyWant := want, rsvReady := ready, qDue := due } }).detachTold (bit st 7)

/-- Delay slots returned. -/
def Chip.delayReturn (s : Chip) (l : List (SentSlot × ReturnedSlot)) : Chip :=
  ((s.qReturn l).each s.chain.bridges (fun s b => s.bridgeReturn l b)).statReturn l

/-- The station with an identity in a ring (R153 rule 1). -/
def Chip.stationOf (s : Chip) (ring uid : Nat) : Option Nat :=
  ((List.range 1022).map (· + 1)).find? (fun st => s.entState ring st != 0 && s.entUid ring st == uid)

/-- The station of the PRESENT entry at a position. -/
def Chip.stationAt (s : Chip) (ring pos : Nat) : Option Nat := (s.present ring).find? (fun st => s.entPos ring st == pos)

/-- May an address be given by rule 2 or 3: it lies in the ring and its entry is FREE? -/
def Chip.addrFree (s : Chip) (ring st : Nat) : Bool := decide (1 ≤ st) && decide (st ≤ 1022) && s.entState ring st == 0

/-- The address of a found node, and whether a rule failed because its address is taken (R153). -/
def Chip.chooseAddr (s : Chip) (ring uid info2 info3 : Nat) : Option Nat × Bool :=
  match s.stationOf ring uid with
  | some st => (some st, false)
  | none =>
    let hold := bits info3 9 0
    let sticky := bits info2 9 0
    let r2 := bit info3 12 && bits info3 11 10 == ring && decide (1 ≤ hold) && decide (hold ≤ 1022)
    let r3 := s.wkB Reg.CHAIN_CFG_STICKY_USE && bit info2 12 && bits info2 11 10 == ring && decide (1 ≤ sticky) && decide (sticky ≤ 1022)
    if r2 && s.addrFree ring hold then (some hold, false)
    else if r3 && s.addrFree ring sticky then (some sticky, r2)
    else
      let all := (List.range 1022).map (· + 1)
      match all.find? (fun st => s.entState ring st == 0) with
      | some st => (some st, r2 || r3)
      | none => (all.find? (fun st => s.entState ring st == 2 || s.entState ring st == 3), r2 || r3)

/-- A node has been found at position pos (R153). -/
def Chip.foundNode (s : Chip) (ring pos : Nat) (p : List (BitVec 8)) : Chip :=
  if 1022 ≤ s.ringM ring then s else
  let uid := leNat (p.take 8)
  let c := s.chooseAddr ring uid (leNat ((p.drop 8).take 4)) (leNat ((p.drop 12).take 4))
  let s := if c.2 then (s.inc Reg.CHAIN_CONFLICT_CNT).fire 42 0 else s
  match c.1 with
  | none => s
  | some st =>
    let s := (s.wrw (entryAt ring st) (BitVec.ofNat 32 uid)).wrw (entryAt ring st + 4) (BitVec.ofNat 32 (uid / 2 ^ 32))
    let s := (s.setEntry ring st pos 1).countMembers
    { s with chain := { s.chain with give := s.chain.give ++ [⟨ring, pos - 1, uid % 2 ^ 32, uid / 2 ^ 32, st⟩] } }

/-- The reserve is the last member of ring 0, where it is strapped one (R165, R167). Another reserve holds no epoch of this head. -/
def Chip.setReserve (s : Chip) (st : Nat) : Chip :=
  if st = s.chain.rsv then s
  else { s with chain := { s.chain with rsv := st, noEpoch := true, active := false, rsvReady := false } }

/-- INFO3 of a probe's node tells whether it is a bridge member (R159). -/
def Chip.noteBridge (s : Chip) (ring st info3 : Nat) : Chip :=
  let rest := s.chain.bridges.filter (fun b => b != (ring, st))
  if bit info3 15 then { s with chain := { s.chain with bridges := (ring, st) :: rest } }
  else { s with chain := { s.chain with bridges := rest, brKnown := s.chain.brKnown.filter (fun b => b != (ring, st)) } }

/-- The probe that confirms the last member, at position m (R152): without ACTED, or with another identity, its entry goes LOST. -/
def Chip.confirmReturn (s : Chip) (ring m : Nat) (x : ReturnedSlot) : Chip :=
  match s.stationAt ring m with
  | none => s
  | some st =>
    let info3 := leNat ((x.payload.drop 12).take 4)
    if x.acted ≠ 1 ∨ s.entUid ring st ≠ leNat (x.payload.take 8) then (s.setEntry ring st m 2).countMembers
    else
      let s := s.noteBridge ring st info3
      -- the reserve is addressed by station once its address has been committed (R154)
      if ring ≠ 0 ∨ s.chain.give.any (fun g => g.ring == 0 && g.station == st) then s
      else s.setReserve (if bits info3 14 13 = 2 then st else 0)

/-- One probe returned (R152), sent while its ring counted m members. -/
def Chip.probeReturn (s : Chip) (ring hop m : Nat) (x : ReturnedSlot) : Chip :=
  let s := if hop + 1 = m then s.confirmReturn ring m x
    else if x.acted = 1 then s.foundNode ring (hop + 1) x.payload else s
  if ring = 0 ∧ s.ringM 0 = 0 then s.setReserve 0 else s

/-- One chunk returned (R167): a chunk without ACTED is sent again, REFUSED restarts the epoch with a new number. -/
def Chip.chunkReturn (s : Chip) (k : Nat) (x : ReturnedSlot) : Chip :=
  if !s.chain.active ∨ k ≠ s.chain.chunk then s
  else if x.refused ≠ 0 then { s with chain := { s.chain with active := false, noEpoch := true } }
  else if x.acted = 0 then s
  else
    let s := ({ s with chain := { s.chain with chunk := k + 1 } }).put Reg.CHAIN_CKPT_STAT_NEXT (k + 1)
    if k + 1 = epochChunks then { s with chain := { s.chain with active := false } } else s

/-- A slot of the map returned: the payload where RET is 1, and the result field, go to the buffer. -/
def Chip.mapReturn (s : Chip) (d : Nat) (x : ReturnedSlot) : Chip :=
  let buf := s.wk (Reg.GATE_SLOT_BUF d) / 4 * 4
  let len := s.wk (Reg.GATE_SLOT_LEN d)
  let s := if s.wkB (Reg.GATE_SLOT_RET d) then s.stMany buf (x.payload.take len) else s
  s.stMany (buf + len) (natBytes 2 x.acted.toNat ++ natBytes 1 x.refused.toNat ++ natBytes 1 x.rflags.toNat)

/-- The slots of a good frame, in their order. -/
def Chip.slotsReturn (s : Chip) (cyc : Nat) (l : List (SentSlot × ReturnedSlot)) : Chip :=
  let s := (s.pourReturn l).delayReturn l
  s.each l (fun s x =>
    match x.1.use with
    | .map d => s.mapReturn d x.2
    | .probe ring hop m => s.probeReturn ring hop m x.2
    | .assign g => { s with chain := { s.chain with give := s.chain.give.filter (fun y => y != g) } }
    | .chunk k => s.chunkReturn k x.2
    | .tunnel w => s.tunnelReturn w cyc true (x.2.acted != 0) (x.2.refused != 0) x.2.payload
    | _ => s)

/-- A frame that returned bad, or not at all. -/
def Chip.frameLost (s : Chip) (f : SentFrame) : Chip :=
  let s := s.setGate { s.gate with bad := setBit s.gate.bad f.index }
  s.each f.slots (fun s x =>
    match x.use with
    | .propose | .check => { s with chain := { s.chain with sleepBad := true } }
    | .tunnel w => s.tunnelReturn w f.cyc false false false []
    | _ => s)

/-- When every frame of cycle N has returned, HEAD_RET_CYC and HEAD_RET_ERR show it (R146). -/
def Chip.retShow (s : Chip) (n : Nat) : Chip :=
  if s.gate.allBack ∨ !s.gate.sent.isEmpty ∨ !s.gate.plan.isEmpty then s else
  ((s.setGate { s.gate with allBack := true }).put Reg.GATE_HEAD_RET_CYC n).put Reg.GATE_HEAD_RET_ERR s.gate.bad

/-- The next mark has come: what has not returned, and what was still to be sent, counts as lost. -/
def Chip.retClose (s : Chip) : Chip :=
  let l := s.gate.sent
  let bad := s.gate.plan.foldl (fun m x => setBit m x.1) s.gate.bad
  let s := (s.setGate { s.gate with sent := [], plan := [], bad := bad }).each l (fun s f => s.frameLost f)
  s.retShow (s.get Reg.CLK_CYC_NUM)

/-- The head's bridge port, while its link carries traffic (R158). -/
def Chip.bridgePort (s : Chip) : Option Nat :=
  if !s.isHead || !s.wkB Reg.CHAIN_CFG_BR_EN then none else
  match s.tailPort with
  | some p => if s.linkActive (1 - p) && !bit s.chain.join (1 - p) then some (1 - p) else none
  | none => none

/-- Can a transmission of so many code-groups that begins now end 2,000 ns before the next mark (R101)? -/
def Chip.endsInTime (s : Chip) (groups : Nat) : Bool := decide (s.ct.toNat + 4 * groups + 2000 ≤ s.predicted)

/-- A frame of the slot map that comes back has been sent before. -/
def Chip.sendBefore (s : Chip) (index : Nat) (urgent : Bool) : Chip :=
  match s.gate.plan.find? (fun x => x.1 == index) with
  | some x => if urgent then s else (s.timeTo x.2).sendDue
  | none => s

/-- The returned frame (R146): its slots, or its loss, and what HEAD_RET_CYC and HEAD_RET_ERR then show. -/
def Chip.frameTaken (s : Chip) (x : SentFrame) (f : ReturnedFrame) : Chip :=
  let s := s.setGate { s.gate with sent := s.gate.sent.erase x }
  (if f.good then s.slotsReturn x.cyc (List.zip x.slots f.slots) else s.frameLost x).retShow x.cyc

/-- A frame that has come back on the tailward port goes out of the bridge port q (R158); where it cannot end in time it is not sent, and
its bit is set in HEAD_RET_ERR. -/
def Chip.frameRelay (s : Chip) (x : SentFrame) (q : Nat) : Chip :=
  if s.endsInTime (frameCost (max 1 (s.get (Reg.LINK_STAT_WIDTH q))) x.bytes) then
    s.setGate { s.gate with sent := s.gate.sent.map (fun y => if y = x then { x with relayed := true } else y) }
  else ((s.setGate { s.gate with sent := s.gate.sent.erase x }).frameLost x).retShow x.cyc

/-- HEAD_FRAME_RETURN on port p (R146, R158): without a bridge the frame that returns on the tailward port is the returned frame; with one it
is relayed, and the frame that returns on the bridge port is. -/
def Chip.headFrameReturn (s : Chip) (p : Nat) (f : ReturnedFrame) : Chip :=
  if !s.coreUp then s else
  let s := s.sendBefore f.frame.toNat f.urgent
  match s.gate.sent.find? (fun x => x.index == f.frame.toNat && x.urgent == f.urgent), s.bridgePort with
  | none, _ => s
  | some x, none => if s.tailPort = some p then s.frameTaken x f else s
  | some x, some q =>
    if p = q then (if x.relayed then s.frameTaken x f else s)
    else if x.relayed then s else s.frameRelay x q

/-! The cycle -/

/-- Does the head have a link to send frames on? -/
def Chip.headLinked (s : Chip) : Bool :=
  match s.tailPort with | some p => s.linkActive p && !bit s.chain.join p | none => false

/-- The frames of cycle n, in their order: housekeeping, slot map, tunnel; the first follows the 18 code-groups of CYC (R104). Without a
tailward link the housekeeping frame meets no member, and counts as returned with the zero counts it carries (log entry 24). -/
def Chip.buildFrames (s : Chip) (n : Nat) : Chip :=
  let h := s.houseFrame n
  let t := h.2.tunnelFrames n
  let s := t.2
  let linked := s.headLinked
  let house := s.inTurn (s.ct.toNat + 72) (if linked then h.1 else [])
  let map := s.mapPlan house.2
  let s := s.setGate { s.gate with
    sent := house.1 ++ (s.inTurn map.2 t.1).1, plan := map.1, bad := 0, allBack := false }
  let s := if linked then s else s.each h.1 (fun s f =>
    s.slotsReturn n (f.slots.map (fun x => (x, ⟨BitVec.ofNat 16 x.addr, x.payload, 0, 0, 0⟩))))
  s.retShow n

/-- The head's first CYC (R12, R35, R40, R91): chain time starts at CT_INIT with cycle number 0, and the head holds station 0. -/
def Chip.firstMark (s : Chip) : Chip :=
  let t := s.get Reg.CLK_CT_INIT_LO + 2 ^ 32 * s.get Reg.CLK_CT_INIT_HI
  let s := { s with ct := BitVec.ofNat 64 t, ctFrac := 0, clk := { s.clk with markNs := t, headNs := t, sentCyc := true } }
  let s := ((s.put Reg.CLK_CYC_NUM 0).put Reg.CLK_STATUS_EN 1).put Reg.CLK_STATUS_SYNC 2
  (((s.putAddr 0 0).countMembers).put Reg.GATE_STAT_ORIGIN 1).presentChange

/-- The next mark of a head that has sent CYC, or of a reserve that took over. -/
def Chip.nextMark (s : Chip) : Chip :=
  let at_ := s.predicted
  let s := s.timeTo at_
  let s := { s with clk := { s.clk with markNs := at_, headNs := at_, sentCyc := true, missed := 0 } }
  let s := s.put Reg.CLK_CYC_NUM (s.get Reg.CLK_CYC_NUM + 1)
  if s.flag Reg.GATE_STAT_ORIGIN then s else (s.put Reg.GATE_STAT_ORIGIN 1).presentChange

/-- SLEEP_DECIDE (05_gleshline_link.md R116): at mark S, SLP goes out unless the agreement failed, which it also did where the propose, or the
check of cycle S − 1, could not be sent (DEDUCED, log entry 37). Answers whether it goes out. -/
def Chip.sleepDecide (s : Chip) (n : Nat) : Bool × Chip :=
  match s.chain.sleep with
  | some (_, t) =>
    if n ≠ t then (false, s) else
    let bad := s.chain.sleepBad || !s.chain.sleepSent || s.chain.sleepChk != some (sub32 t 1)
    let s := { s with chain := { s.chain with
      sleep := none, sleepBad := false, sleepZero := bad && s.chain.sleepSent, slp := !bad, slpS := if bad then s.chain.slpS else t } }
    (!bad, s.put Reg.CHAIN_SLEEP_RES (if bad then 3 else 2))
  | none => (false, s)

/-- SOF alignment of the marks at a period of 62.5 us (Table CLK-6): 0 at a mark that falls on an SOF. -/
def Chip.sofStep (s : Chip) : Chip :=
  let near := s.hub.lastSof != 0 && decide (s.ct.toNat + 1 ≤ s.hub.lastSof + 31250)
  { s with clk := { s.clk with sofDiv := if s.wk Reg.CLK_CYCLE ≠ 0 ∨ near then 0 else (s.clk.sofDiv + 1) % 2 } }

/-- Does the node send cycle marks now: a head after its listen window, or a reserve that acts as one and has not handed back (R89, R169, R172)? -/
def Chip.sends (s : Chip) : Bool :=
  s.coreUp &&
  ((s.get Reg.CHAIN_STAT_ROLE == 1 && (s.pwr.listenDone || s.clk.sentCyc)) ||
   (s.get Reg.CHAIN_STAT_ROLE == 3 && !s.chain.handed &&
     (match s.chain.hand with | some h => later h ((s.get Reg.CLK_CYC_NUM + 1) % 2 ^ 32) | none => true)) || s.chain.taking)

/-- The CYC of the present mark leaves on the tailward port with ring 0, and on the bridge port with BR_RING (05_gleshline_link.md R100, R158). -/
def Chip.cycLeaves (s : Chip) : Chip :=
  let body := cycBody s.clk.markNs (s.get Reg.CLK_CYC_NUM) (s.wk Reg.CLK_CYCLE) (s.flag Reg.CLK_STATUS_USB_LOCK)
  let s := match s.tailPort with
    | some p => if s.headLinked then s.setGl p { s.gl p with cycOut := body 0 } else s
    | none => s
  match s.bridgePort with
  | some q => s.setGl q { s.gl q with cycOut := body (s.wk Reg.CHAIN_CFG_BR_RING) }
  | none => s

/-- SLP leaves in its place (05_gleshline_link.md R116). -/
def Chip.slpLeaves (s : Chip) : Chip :=
  let body := slpBody s.chain.slpS
  let s := match s.tailPort with | some p => if s.headLinked then s.slpPass p body else s | none => s
  match s.bridgePort with | some q => s.slpPass q body | none => s

/-- The mark a sender of cycle marks makes: a head's first, or the next; a reserve that takes over becomes the head with it (R169). -/
def Chip.sendMark (s : Chip) : Chip :=
  if s.chain.taking then ((s.takeoverPort).nextMark).takeoverEnd
  else if s.get Reg.CHAIN_STAT_ROLE = 1 ∧ !s.clk.sentCyc then s.firstMark else s.nextMark

/-- CYC_SEND (R100): CYC, or SLP in its place, the mark, and the frames of the cycle. -/
def Chip.cycSend (s : Chip) : Chip :=
  if !s.sends then s else
  let s := (s.retClose).sendMark
  let n := s.get Reg.CLK_CYC_NUM
  let d := s.sleepDecide n
  let s := if d.1 then d.2.slpLeaves else d.2.cycLeaves
  let s := (s.sofStep).mark
  if d.1 then s else s.buildFrames n

/-- GATE.URG_GO (R147). -/
def Chip.urgGo (s : Chip) (r f : Nat) : Did :=
  if !s.flag Reg.GATE_STAT_ORIGIN || s.gate.urg.isSome || !s.wkB (Reg.GATE_FRAME_CTL_URG f) then s.no r 3 0 0x0C
  else ((s.setGate { s.gate with urg := some f }).put Reg.GATE_STAT_URG_QUEUED 1).ok

/-- Code-groups per lane of urgent template f with its END; inserted, PRE and RES stand beside it (05_gleshline_link.md R98, R104). -/
def Chip.urgCost (s : Chip) (f : Nat) (inserted : Bool) : Nat :=
  frameCost s.tailWidth (mapBytes s.wk f) + (if inserted then 4 else 0)

/-- The chain time at which a frame has ended on a link of w lanes. -/
def SentFrame.ends (w : Nat) (f : SentFrame) : Nat := f.start + 4 * (frameCost w f.bytes + f.late)

/-- The frame that the head's tailward transmitter sends at an instant. -/
def Chip.onWay (s : Chip) (t : Nat) : Option SentFrame :=
  s.gate.sent.find? (fun x => !x.relayed && decide (x.start ≤ t) && decide (t < x.ends s.tailWidth))

/-- The point at which the queued urgent template f goes out (R142), from the end of CYC on: its chain time, with the normal frame it breaks
into. At the next 32-byte boundary of a normal frame on its way that has had no insertion, else in idle, after the END of what is on its way;
in the guard it waits for the CYC. -/
def Chip.urgPoint (s : Chip) (f : Nat) : Option (Nat × Option SentFrame) :=
  let now := max s.ct.toNat (s.clk.markNs + 72)
  let w := s.tailWidth
  let idle := fun t : Nat => if t + 4 * s.urgCost f false + 2000 ≤ s.predicted then some (t, none) else none
  match s.onWay now with
  | none => idle now
  | some x =>
    let b := 32 * max 1 (((now - x.start) / 4 * w + 31) / 32)
    if !x.urgent ∧ x.late = 0 ∧ b < x.bytes then some (x.start + 4 * (b / w), some x) else idle (x.ends w)

/-- The head's frames once urgent template f goes out at chain time t: what it breaks into ends so much later, and what is still to begin
begins so much later. -/
def Chip.urgGoes (s : Chip) (f t : Nat) (into : Option SentFrame) : Chip :=
  let more := s.urgCost f into.isSome
  let sent := s.gate.sent.map (fun y =>
    if into = some y then { y with late := more } else if t ≤ y.start then { y with start := y.start + 4 * more } else y)
  (s.setGate { s.gate with
    urg := none, sent := sent ++ [{ s.mapFrame f (s.get Reg.CLK_CYC_NUM) with urgent := true, start := t }]
    plan := s.gate.plan.map (fun y => (y.1, y.2 + 4 * more)), allBack := false }).put Reg.GATE_STAT_URG_QUEUED 0

/-- URGENT_SEND (R142): the queued frame goes out at the next point that allows it; in the guard it waits on. -/
def Chip.urgentSend (s : Chip) : Chip :=
  match s.gate.urg with
  | none => s
  | some f =>
    if !s.flag Reg.GATE_STAT_ORIGIN || !s.coreUp then s else
    let s := s.sendDue
    match s.urgPoint f with
    | none => s
    | some (t, into) => (s.timeTo t).urgGoes f t into

/-! Alarms at the head (R161) -/

/-- The PRESENT entries of a ring beyond a position take another state. -/
def Chip.markGone (s : Chip) (ring p state : Nat) : Chip :=
  s.each ((s.present ring).filter (fun x => decide (p < s.entPos ring x))) (fun s x => s.setEntry ring x (s.entPos ring x) state)

/-- Addresses no longer go to positions beyond p, and a reserve beyond it is none. -/
def Chip.forgetBeyond (s : Chip) (ring p : Nat) : Chip :=
  let s := { s with chain := { s.chain with give := s.chain.give.filter (fun g => g.ring != ring || decide (g.hop < p)) } }
  if ring = 0 ∧ (s.stationAt 0 p).getD 0 ≠ s.chain.rsv then s.setReserve 0 else s

/-- ALM cause 1 from a station at position p (R161, R164): the PRESENT entries beyond it go LOST, or DETACHED where the last OR-read of
CHAIN.STAT has told of a planned uncoupling (log entry 36). -/
def Chip.chainShrink (s : Chip) (ring st : Nat) : Chip :=
  if s.entState ring st ≠ 1 then s else
  let p := s.entPos ring st
  let det := s.chain.detNew
  let s := { s with chain := { s.chain with
    detNew := false, shrink := if det then none else some (ring, p, s.get Reg.CLK_CYC_NUM) } }
  (((s.markGone ring p (if det then 3 else 2)).forgetBeyond ring p).countMembers).fire 43 0

/-- ALM_RECEIVE (05_gleshline_link.md R103): passed on, recorded, counted, raised. Inside a frame it is none (R99); one whose CRC fails is passed on
alone (R96, DEDUCED, log entry 42). -/
def Chip.almReceive (s : Chip) (p : Nat) (body : List (BitVec 8)) : Chip :=
  if !s.coreUp || !s.linkActive p || bit s.chain.join p then s
  else if s.frameOpen p then s.codeBad p
  else
    let s := s.almPass p body
    if !bodyOk 4 body then s else
    let s := s.almTake p body
    let v := leNat (body.take 2)
    if s.isHead && s.clk.sentCyc && bits v 15 12 == 1 then s.chainShrink (bits v 11 10) (bits v 9 0) else s

end Sys2Proof.Machine
end

