-- ==== Sys2Proof/Machine/Evt.lean ====
section
/-! DEFINITION. The event unit (24_events.md): firings from outside, delivery of records, the signal register, and the management
queue's endpoint (14_local_hub.md R325). -/

namespace Sys2Proof.Machine

/-- Set the event unit. -/
def Chip.setEvt (s : Chip) (x : Evt) : Chip := { s with evt := x }

/-- Is a source reserved (Table EVT-1, R497)? -/
def evReserved (n : Nat) : Bool :=
  (decide (53 ≤ n) && decide (n ≤ 55)) || n == 71 || (decide (89 ≤ n) && decide (n ≤ 111)) || decide (128 ≤ n)

/-- EVENT_FIRE (R499): a source fires; a reserved one never does (R497). -/
def Chip.eventFire (s : Chip) (src det : Nat) : Chip := if evReserved src then s else s.fire src det

/-- EVT.SIGNAL (R502). -/
def Chip.eventSignal (s : Chip) (r n : Nat) : Did :=
  if 112 ≤ n ∧ n ≤ 127 then (s.fire n (detail 32 0)).ok else s.no r 19 0 0x04

/-- The four words of a record (Table EVT-2). -/
def EvRec.words (x : EvRec) : List Nat := [x.src + x.stn + 2 ^ 19 * min 127 x.supp, x.det, x.cyc, x.ns]

/-- A record joins a queue of n, whose oldest leaves when it is full; answers whether one left. -/
def pushLast (n : Nat) (q : List (List Nat)) (w : List Nat) : Bool × List (List Nat) :=
  if q.length < n then (false, q ++ [w]) else (true, q.drop 1 ++ [w])

/-- RUN delivery (R500): a refused put drops the record; an engine that waits at the runner leaves IDLE with it. -/
def Chip.evRun (s : Chip) (x : EvRec) : Chip :=
  if !bit x.rt1 0 then s else
  let q := bits x.rt1 7 1
  let s := if (s.runner q).waiters.any (fun w => decide (w < 32)) then s.idleExit else s
  let d := s.hwPut q 37 none (packetItems x.words)
  if d.1 then d.2 else d.2.inc Reg.EVT_RDROP_CNT

/-- MGMT delivery (R500). -/
def Chip.evMgmt (s : Chip) (x : EvRec) : Chip :=
  if !bit x.rt1 8 then s else
  let q := pushLast 64 s.evt.mq x.words
  let s := s.setEvt { s.evt with mq := q.2 }
  if q.1 then s.inc Reg.EVT_MDROP_CNT else s

/-- CHAIN delivery (R500); ignored on an origin node. -/
def Chip.evChain (s : Chip) (x : EvRec) : Chip :=
  if !bit x.rt1 9 || s.flag Reg.GATE_STAT_ORIGIN then s else
  let q := pushLast 32 s.evt.cq x.words
  let s := s.setEvt { s.evt with cq := q.2 }
  if q.1 then s.inc Reg.EVT_CDROP_CNT else s

/-- A record is delivered under the routing of its firing (R499, R500). -/
def Chip.evDeliver (s : Chip) (x : EvRec) : Chip :=
  let s := ((s.evRun x).evMgmt x).evChain x
  if bit x.rt1 10 then s.logAdmit x.words else s

/-- One cc of EVT (R499): the front of the input queue is delivered, then one latched record enters it, or is dropped from a full
one. -/
def Chip.evtTick (s : Chip) : Chip :=
  if !s.coreUp then s else
  let s := match s.evt.inq with
    | [] => s
    | x :: t => (s.setEvt { s.evt with inq := t }).evDeliver x
  match s.evt.latched with
  | [] => s
  | x :: t =>
    let s := s.setEvt { s.evt with latched := t.map (fun (y : EvRec) => { y with old := true }) }
    if s.evt.inq.length < 32 then s.setEvt { s.evt with inq := s.evt.inq ++ [x] } else s.inc Reg.EVT_QDROP_CNT

/-- An IN to endpoint 0x83 (14_local_hub.md R325): up to four records, NAK while none waits. -/
def Chip.eventIn (s : Chip) : Chip :=
  if !s.usbOn .mgmt then s
  else if bit (s.dev .mgmt).halts 19 then s.answer .stall
  else if s.evt.mq.isEmpty then s.answer .nak
  else
    let out := (s.evt.mq.take 4).flatten.flatMap (natBytes 4)
    (s.setEvt { s.evt with mq := s.evt.mq.drop 4 }).answer (.data out)

end Sys2Proof.Machine
end

