-- ==== Sys2Proof/Machine/Operands.lean ====
section
/-! DEFINITION. Operand forms of the Sprue instructions: immediates, instruction words and which words are legal
(10_sprue_instruction_set.md R221 to R223). -/

namespace Sys2Proof.Machine

/-- A signed 14-bit immediate as a word. -/
def sx14 (i : BitVec 14) : BitVec 32 := i.signExtend 32

/-- An unsigned 14-bit immediate as a word. -/
def zx14 (i : BitVec 14) : BitVec 32 := i.zeroExtend 32

/-- A branch target: pc plus simm14 modulo 2,048 (R219, R231). -/
def branchTo (pc : Nat) (i : BitVec 14) : Nat := ((pc : Int) + i.toInt).emod 2048 |>.toNat

/-- Is an instruction word legal (R222, R223)? Otherwise it takes trap 1. -/
def wordLegal (w : Nat) : Bool := (decodeSprue 0 w).isSome

end Sys2Proof.Machine
end

