-- ==== Sys2Proof/Machine/IsaAlu.lean ====
section
/-! DEFINITION. Sprue instructions that reach no memory, register or port: ALU, multiply and divide, control flow, runners and
buffers, locks and messages, time and events, system and CRC (10_sprue_instruction_set.md R225 to R243). Each acts on an engine
in RUN. -/

namespace Sys2Proof.Machine

/-- What the code of the word at a physical address holds: 0 clean, 1 a correctable error, 2 an uncorrectable one. -/
def Chip.eccAt (s : Chip) (a : Nat) : Nat := s.ecc.get 0 (a / 4 * 4)

/-- A foreground read corrected a word: the scrubber is to rewrite it. -/
def Chip.corrected (s : Chip) (a : Nat) : Chip := if s.bkgRuns then s.rewriteLater (a / 4 * 4) else s

/-- The word an engine executes is read through its ECC: true where it may execute (R194). A correctable error counts; an
uncorrectable one takes trap 5. -/
def Chip.fetchEcc (s : Chip) (e : Nat) : Bool × Chip :=
  let a := codeAddr e (s.get (Reg.ENG_PC e))
  match s.eccAt a with
  | 0 => (true, s)
  | 1 => (true, (s.inc (Reg.ENG_ECC_CNT e)).corrected a)
  | _ => (false, s.trap e 5 (some a))

/-- An instruction executes on engine e: only while the core die runs and the engine is in RUN (R195); its word is read through the
ECC first (09_sprue_engines.md R194). -/
def Chip.isa (s : Chip) (e : Nat) (f : Chip → Chip) : Chip :=
  if s.coreUp && s.engState e == 1 then
    let t := s.fetchEcc e
    if t.1 then f t.2 else t.2
  else s

/-- An instruction that computes a register and flags from the engine's registers (R220). -/
def isaCompute (e d : Nat) (f : Engine → BitVec 32 × FlagUpd) (s : Chip) : Chip :=
  s.isa e (fun s =>
    let x := s.eng e
    let r := f x
    (s.setEng e ((x.setReg d r.1).upd r.2)).engNext e)

/-- Three-register ALU operation. -/
def isaOp3 (e d a b : Nat) (f : BitVec 32 → BitVec 32 → BitVec 32 × FlagUpd) (s : Chip) : Chip :=
  isaCompute e d (fun x => f (x.reg a) (x.reg b)) s

/-- A result with Z and N only. -/
def withZN (r : BitVec 32) : BitVec 32 × FlagUpd := (r, zn r)

/-- The low five bits of a shift amount. -/
def amt (b : BitVec 32) : Nat := b.toNat % 32

/-- A trap 1 that records the instruction word (R222). -/
def Chip.illegal (s : Chip) (e w : Nat) : Chip := s.trap e 1 (some w)

/-! Multiply, MAC, divide, bit-field, accumulator -/

/-- MAC and MSU forms (R226): ACC plus or minus the product, saturated, S on saturation. -/
def isaMacOp (e a b form : Nat) (sub : Bool) (s : Chip) : Chip :=
  s.isa e (fun s =>
    let x := s.eng e
    let p := macProduct form (x.reg a) (x.reg b)
    let t := if sub then x.acc.toInt - p else x.acc.toInt + p
    let x := { x with acc := BitVec.ofInt 64 (sat64 t), sat := x.sat || (sat64 t != t) }
    (s.setEng e x).engNext e)

/-- racc forms (R227). -/
def isaRacc (e d form : Nat) (clear : Bool) (s : Chip) : Chip :=
  s.isa e (fun s =>
    let x := s.eng e
    let r := raccRead form x.acc
    let x := { x.setReg d r.1 with acc := if clear then 0 else x.acc, sat := x.sat || r.2 }
    (s.setEng e x).engNext e)

/-- wacc: ACC := b : a (R228). -/
def isaWaccOp (e a b : Nat) (s : Chip) : Chip :=
  s.isa e (fun s => let x := s.eng e; (s.setEng e { x with acc := x.reg b ++ x.reg a }).engNext e)

/-- Bit-field forms (Table ISA-5): 0 bfx, 1 bfxs, 2 bfi; a field past bit 31 fails the decode check. -/
def isaBf (e d a pos wm1 kind : Nat) (s : Chip) : Chip :=
  if 32 < pos + wm1 + 1 then s.isa e (fun s => s.illegal e (wordR 0x13 d a 0 (kind * 4096 + wm1 * 32 + pos)))
  else isaCompute e d (fun x =>
    let w := wm1 + 1
    let fld := (x.reg a).toNat / 2 ^ pos % 2 ^ w
    withZN (match kind with
      | 0 => BitVec.ofNat 32 fld
      | 1 => BitVec.ofInt 32 (signed w fld)
      | _ =>
        let old := (x.reg d).toNat
        BitVec.ofNat 32 (old - old / 2 ^ pos % 2 ^ w * 2 ^ pos + (x.reg a).toNat % 2 ^ w * 2 ^ pos))) s

/-! Control flow -/

/-- b.cond (R231); cond 15 is reserved. -/
def isaBranch (e cond : Nat) (imm : BitVec 14) (s : Chip) : Chip :=
  s.isa e (fun s =>
    if cond = 15 then s.illegal e (wordR 0x20 15 0 0 imm.toNat)
    else if condHolds (s.eng e) cond then s.engJump e (branchTo (s.get (Reg.ENG_PC e)) imm) true
    else s.engNext e)

/-- call: g15 := pc + 1 (R231). -/
def isaCallTo (e : Nat) (imm : BitVec 14) (s : Chip) : Chip :=
  s.isa e (fun s =>
    let pc := s.get (Reg.ENG_PC e)
    let s := s.setEng e ((s.eng e).setReg 15 (BitVec.ofNat 32 ((pc + 1) % 2048)))
    s.engJump e (branchTo pc imm) false)

/-- jr and callr: a target above 2,047 takes trap 2 (R231). -/
def isaJump (e a : Nat) (link : Bool) (s : Chip) : Chip :=
  s.isa e (fun s =>
    let t := ((s.eng e).reg a).toNat
    if 2048 ≤ t then s.trap e 2 (some t) else
    let pc := s.get (Reg.ENG_PC e)
    let s := if link then s.setEng e ((s.eng e).setReg 15 (BitVec.ofNat 32 ((pc + 1) % 2048))) else s
    s.engJump e t (!link))

/-- loop (R232). -/
def isaLoopOp (e a : Nat) (imm : BitVec 14) (s : Chip) : Chip :=
  s.isa e (fun s =>
    let x := s.eng e
    let pc := s.get (Reg.ENG_PC e)
    let word := wordR 0x24 0 a 0 imm.toNat
    if imm.toInt ≤ 0 then s.illegal e word else
    let end_ := branchTo pc imm
    let tooDeep := match x.loops with
      | [] => false
      | [(st, en, _)] => !decide ((end_ + 2048 - st) % 2048 < (en + 2048 - st) % 2048)
      | _ => true
    if tooDeep then s.illegal e word
    else if x.reg a = 0 then s.engJump e ((end_ + 1) % 2048) true
    else
      (s.setEng e { x with loops := ((pc + 1) % 2048, end_, (x.reg a).toNat) :: x.loops }).engNext e)

/-- dbnz (R231). -/
def isaDbnzOp (e d : Nat) (imm : BitVec 14) (s : Chip) : Chip :=
  s.isa e (fun s =>
    let x := s.eng e
    let v := x.reg d - 1
    let s := s.setEng e (x.setReg d v)
    if v ≠ 0 then s.engJump e (branchTo (s.get (Reg.ENG_PC e)) imm) true else s.engNext e)

/-! Accesses to units -/

/-- Contention adds cc to an access of engine e, at most a bound, by what others access in that cc: a free value within it
(09_sprue_engines.md R208, Table ENG-6, log entry 6). -/
def Chip.contend (s : Chip) (e bound : Nat) : Chip := (s.add (Reg.ENG_STALL_CC e) (s.free % (bound + 1))).drew

/-- The end of an instruction that made an access: what contention added, ACCESS, then on (R230). -/
def Chip.accessEnd (s : Chip) (e bound access : Nat) : Chip := ((s.contend e bound).put (Reg.ENG_ACCESS e) access).engNext e

/-- The end of an instruction whose access ended so (R53, R230); a refused access traps. -/
def Chip.didEnd (d : Did) (e addr bound : Nat) : Chip :=
  if d.1 = .refused then d.2.trap e 2 (some addr) else d.2.accessEnd e bound d.1.access

/-- rput and rpute (R233). -/
def isaPut (e a b kind : Nat) (s : Chip) : Chip :=
  s.isa e (fun s =>
    let q := ((s.eng e).reg a).toNat
    if 128 ≤ q then s.trap e 2 (some q)
    else Chip.didEnd (s.runPutBy e q kind ((s.eng e).reg b).toNat (some e) (if kind = 1 then 0x20 else 0x1C)) e 0 23)

/-- Write a taken item's value and flags (R234). -/
def Chip.itemIn (s : Chip) (e d : Nat) (v : Nat) (z c v_ : Bool) : Chip :=
  s.setEng e { (s.eng e).setReg d (BitVec.ofNat 32 v) with z := z, n := false, c := c, v := v_ }

/-- rget and rtry (R233, R234, R249). -/
def isaTake (e d a : Nat) (wait : Bool) (s : Chip) : Chip :=
  s.isa e (fun s =>
    let q := ((s.eng e).reg a).toNat
    if 128 ≤ q then s.trap e 2 (some q)
    else if s.runRefuses q false (some e) then ((s.reject e 6 q 0x14).itemIn e d 0 true false false).accessEnd e 23 1
    else
      match s.runTake q with
      | (some (k, v), s) => (s.itemIn e d v false (k != 0) (k == 2)).accessEnd e 23 0
      | (none, s) =>
        if wait then
          ((s.setRunner q { s.runner q with waiters := s.waitIn e (s.runner q).waiters }).enterWait e 1 (.runner q d)).contend e 23
        else (s.itemIn e d 0 true false false).accessEnd e 23 0)

/-- Write d and Z only. -/
def Chip.setDZ (s : Chip) (e d v : Nat) (z : Bool) : Chip :=
  s.setEng e { (s.eng e).setReg d (BitVec.ofNat 32 v) with z := z }

/-- Write d only. -/
def Chip.setD (s : Chip) (e d v : Nat) : Chip := s.setEng e ((s.eng e).setReg d (BitVec.ofNat 32 v))

/-- rinfo: waiting packets or words (R233, R246). -/
def isaInfo (e d a : Nat) (words : Bool) (s : Chip) : Chip :=
  s.isa e (fun s =>
    let q := ((s.eng e).reg a).toNat
    if 128 ≤ q then s.trap e 2 (some q)
    else
      let v := if words then s.runWords q else s.runPkts q
      (s.setDZ e d v (v == 0)).accessEnd e 23 0)

/-- rdropp (R254). -/
def isaDropp (e a : Nat) (s : Chip) : Chip :=
  s.isa e (fun s =>
    let q := ((s.eng e).reg a).toNat
    if 128 ≤ q then s.trap e 2 (some q) else Chip.didEnd (s.runDroppBy e q (some e)) e 0 23)

/-- balloc and btry (R233, R234, R269). -/
def isaAlloc (e d : Nat) (wait : Bool) (s : Chip) : Chip :=
  s.isa e (fun s =>
    match s.poolAlloc e with
    | (some b, s) => (s.setDZ e d b false).accessEnd e 23 0
    | (none, s) =>
      if wait then (({ s with sync := { s.sync with poolWait := s.waitIn e s.sync.poolWait } }).enterWait e 7 (.pool d)).contend e 23
      else (s.setDZ e d 0xFFFFFFFF true).accessEnd e 23 0)

/-- bfree (R235, R270). -/
def isaFree (e a : Nat) (s : Chip) : Chip :=
  s.isa e (fun s =>
    let b := ((s.eng e).reg a).toNat
    if 2048 ≤ b then s.trap e 2 (some b) else
    let t := s.bufFree e b
    if t.1 = 0 then t.2.accessEnd e 23 0 else t.2.trap e 7 (some b))

/-- bgive (R235, R270). -/
def isaGive (e a b : Nat) (s : Chip) : Chip :=
  s.isa e (fun s =>
    let n := ((s.eng e).reg a).toNat
    if 2048 ≤ n then s.trap e 2 (some n) else
    let t := s.bufGive e n (((s.eng e).reg b).toNat % 64)
    if t.1 = 0 then t.2.accessEnd e 23 0
    else if t.1 = 4 then (t.2.reject e 7 0 0x10).accessEnd e 23 1
    else t.2.trap e 7 (some n))

/-- lacq and ltry (R239, R240, R262). -/
def isaLock (e d a : Nat) (wait : Bool) (s : Chip) : Chip :=
  s.isa e (fun s =>
    let l := ((s.eng e).reg a).toNat
    if 256 ≤ l then s.trap e 2 (some l)
    else if s.lockOwner l = e then s.trap e 6 (some l)
    else
      let t := s.lockTry l e
      if t.1 = 2 ∧ wait then ((s.setLockWaiters l (s.waitIn e (s.lockWaiters l))).enterWait e 2 (.lock l d)).contend e 34
      else (t.2.setDZ e d t.1 (t.1 == 0)).accessEnd e 34 0)

/-- lrel (R240, R263). -/
def isaUnlock (e a : Nat) (s : Chip) : Chip :=
  s.isa e (fun s =>
    let l := ((s.eng e).reg a).toNat
    if 256 ≤ l then s.trap e 2 (some l)
    else if s.lockOwner l ≠ e ∨ s.lockPoison l then s.trap e 6 (some l)
    else (s.lockPass l).accessEnd e 34 0)

/-- lclr (R240, R262). -/
def isaUnpoison (e a : Nat) (s : Chip) : Chip :=
  s.isa e (fun s =>
    let l := ((s.eng e).reg a).toNat
    if 256 ≤ l then s.trap e 2 (some l)
    else if s.lockOwner l ≠ e then s.trap e 6 (some l)
    else (s.put (Reg.SYNC_LOCK_STAT_POISON l) 0).accessEnd e 34 0)

/-- msend (R239, R240, R274). -/
def isaSend (e d a b : Nat) (s : Chip) : Chip :=
  s.isa e (fun s =>
    let m := ((s.eng e).reg a).toNat
    let w := ((s.eng e).reg b).toNat
    let buf := bits w 10 0
    let len := bits w 23 16
    if 64 ≤ m then s.trap e 2 (some m)
    else if s.bufOwner buf ≠ e ∨ len = 0 ∨ 128 < len then s.trap e 7 (some w)
    else
      let t := s.mbxSend m buf len e
      if t.1 = 2 then ((t.2.mbxRefuse e 0x20).setD e d 2).accessEnd e 34 1
      else (t.2.setD e d t.1).accessEnd e 34 0)

/-- mrecv and mtry (R239, R274). -/
def isaRecv (e d a : Nat) (wait : Bool) (s : Chip) : Chip :=
  s.isa e (fun s =>
    let m := ((s.eng e).reg a).toNat
    if 64 ≤ m then s.trap e 2 (some m)
    else if !s.mayRecv m e then ((s.mbxRefuse e 0x28).setD e d 0xFFFFFFFF).accessEnd e 34 1
    else
      match s.mbxPeek m with
      | some b => (((s.mbxPop m).put (Reg.SYNC_BUF_OWN b.1) e).setD e d (msgWord b)).accessEnd e 34 0
      | none =>
        if wait then ((s.setMbx m { s.mbx m with waiters := s.waitIn e (s.mbx m).waiters }).enterWait e 6 (.msg m d)).contend e 34
        else (s.setD e d 0xFFFFFFFF).accessEnd e 34 0)

/-! Time and events -/

/-- ctl: the low half of chain time; the latch takes the high half (R236). -/
def isaCtlOp (e d : Nat) (s : Chip) : Chip :=
  s.isa e (fun s =>
    let x := (s.eng e).setReg d (s.ct.extractLsb' 0 32)
    (s.setEng e { x with latch := s.ct.extractLsb' 32 32 }).engNext e)

/-- wmark (R209). -/
def isaWmarkOp (e : Nat) (s : Chip) : Chip := s.isa e (fun s => s.enterWait e 5 .mark)

/-- wtime: until chain time is not before b : a (R209, R236). -/
def isaWtimeOp (e a b : Nat) (s : Chip) : Chip :=
  s.isa e (fun s => s.enterWait e 4 (.time ((s.eng e).reg b ++ (s.eng e).reg a)))

/-- evwait and evpoll (R237). -/
def isaEvent (e d : Nat) (wait : Bool) (s : Chip) : Chip :=
  s.isa e (fun s =>
    match s.takePending e with
    | (some i, s) => (s.setD e d i).engNext e
    | (none, s) => if wait then s.enterWait e 3 (.event d) else (s.setD e d 0xFFFFFFFF).engNext e)

/-- evsig (R238). -/
def isaEvsigOp (e a : Nat) (s : Chip) : Chip :=
  s.isa e (fun s =>
    let n := ((s.eng e).reg a).toNat
    if n < 112 ∨ 127 < n then s.trap e 2 (some n) else (s.fire n (detail e 0)).accessEnd e 34 0)

/-! System -/

/-- Flags as ENG.FLAGS shows them: Z [4], N [3], C [2], V [1], S [0]. -/
def Engine.flags (x : Engine) : Nat := b2n x.sat + 2 * b2n x.v + 4 * b2n x.c + 8 * b2n x.n + 16 * b2n x.z

/-- The value of a CSR (Table ISA-13). -/
def Chip.csr (s : Chip) (e n : Nat) : Nat :=
  let x := s.eng e
  match n with
  | 0 => e + 32 * (e / 8)
  | 1 => s.get (Reg.ENG_ACCESS e)
  | 3 => s.get (Reg.ENG_WDOG_LEFT e)
  | 4 => x.cc.toNat
  | 5 => x.flags
  | 6 => x.loops.length
  | 7 => (match x.loops with | (_, _, c) :: _ => c | [] => 0)
  | _ => 0

/-- csrr; an unlisted CSR fails the decode check (R241). -/
def isaCsrRead (e d n : Nat) (s : Chip) : Chip :=
  s.isa e (fun s => if 7 < n then s.illegal e (wordR 0x3C d 0 0 n) else (s.setD e d (s.csr e n)).engNext e)

/-- csrw: WDOG kicks the watchdog, CC takes the value, read-only CSRs ignore it (R241, Table ISA-13). -/
def isaCsrWrite (e n a : Nat) (s : Chip) : Chip :=
  s.isa e (fun s =>
    if 7 < n then s.illegal e (wordR 0x3C 0 a 0 (4096 + n))
    else if n = 2 then (s.kickWdog e).engNext e
    else if n = 4 then (s.setEng e { s.eng e with cc := (s.eng e).reg a }).engNext e
    else s.engNext e)

/-- nop. -/
def isaNopOp (e : Nat) (s : Chip) : Chip := s.isa e (fun s => s.engNext e)

/-- halt: on to the next word, then HALT (Table ISA-11). -/
def isaHaltOp (e : Nat) (s : Chip) : Chip := s.isa e (fun s => (s.engNext e).setEngState e 0)

/-- trap code: trap 8, the code in TRAP_ADDR, with the program counter on the word that follows, loop back edge included (R232, R241); a
halt asked for meanwhile takes hold at its end (09_sprue_engines.md R197). -/
def isaTrapOp (e code : Nat) (s : Chip) : Chip :=
  s.isa e (fun s =>
    let a := advance (s.get (Reg.ENG_PC e)) (s.eng e).loops
    let asked := (s.eng e).haltReq
    let s := (s.inc (Reg.ENG_INSTR_CNT e)).trap e 8 (some code)
    let s := (s.setEng e { s.eng e with loops := a.2 }).put (Reg.ENG_PC e) a.1
    if asked then s.setEngState e 0 else s)

/-- wflg: all five flags from a (Table ISA-11). -/
def isaWflgOp (e a : Nat) (s : Chip) : Chip :=
  s.isa e (fun s =>
    let x := s.eng e
    let f := x.reg a
    (s.setEng e { x with z := f.getLsbD 4, n := f.getLsbD 3, c := f.getLsbD 2, v := f.getLsbD 1, sat := f.getLsbD 0 }).engNext e)

/-- CRC steps (R242): 16 or 32 bits, by one byte or by the four bytes of a word, lowest first. -/
def isaCrc (e d a : Nat) (wide32 word : Bool) (s : Chip) : Chip :=
  isaCompute e d (fun x =>
    let bs := if word then wordBytes (x.reg a) else [(x.reg a).extractLsb' 0 8]
    (bs.foldl (fun v b => if wide32 then crc32Byte v b.toNat else crc16Byte v b.toNat) (x.reg d), {})) s

/-- A word that is not legal takes trap 1 before any effect (R222). -/
def isaIllegal (e w : Nat) (s : Chip) : Chip :=
  s.isa e (fun s => if wordLegal w then s else s.illegal e w)

end Sys2Proof.Machine
end

