-- ==== Sys2Proof/Machine/RegWrite.lean ====
section
/-! DEFINITION. Accesses to registers as such (03_register_model.md R50 to R58, R67, R68, R512): what a write of a register does field by
field, with the command each command field gives, and what a read returns. -/

namespace Sys2Proof.Machine

/-! Commands of command registers -/

/-- The command, where a condition on the written value holds. -/
def when_ (b : Bool) (f : Chip → Did) : List (Chip → Did) := if b then [f] else []

/-- SYS and CLK. -/
def cmdsSys (r : Requester) (off v : Nat) : List (Chip → Did) :=
  match off with
  | 0x100 => [fun s => s.localPour r.code (v % 65536)]
  | 0x104 => [fun s => s.withdrawGo r.code (v % 65536)]
  | 0x118 => [fun s => s.chGo r.code v]
  | 0x014 => when_ (bit v 0) (fun s => (s.coreReset 6 false).ok) ++ when_ (bit v 1) (fun s => (s.bothReset 3).ok)
  | 0x024 => when_ (bit v 0) (fun s => s.bootStore r.code)
  | 0x02C => when_ (bit v 0) (fun s => s.rbCommit r.code)
  | 0x030 => [fun s => s.otpStage r.code (BitVec.ofNat 32 v)]
  | 0x034 => when_ (bit v 0) (fun s => s.otpProgKey r.code) ++ when_ (bit v 1) (fun s => s.otpProgClear)
  | 0x040 =>
    [fun s => match v % 4 with
      | 0 => s.pwrRun
      | 1 => s.pwrIdle
      | 2 => s.pwrStandby r.code
      | _ => s.pwrOff (bit v 2)]
  | 0x048 => [fun s => s.wakeTimer v]
  | _ => []

/-- LINK port p. -/
def cmdsLink (r : Requester) (p off v : Nat) : List (Chip → Did) :=
  match off with
  | 0x04 =>
    when_ (bit v 0) (fun s => s.linkEnable r.code p) ++ when_ (bit v 1) (fun s => s.linkDisable r.code p) ++
    when_ (bit v 2) (fun s => s.linkRetrain r.code p) ++ when_ (bits v 4 3 != 0) (fun s => s.linkWidth r.code p (bits v 4 3))
  | 0x38 => when_ (bit v 0) (fun s => s.marginGo r.code p (bits v 1 1))
  | _ => []

/-- CHAIN: a write of 0 to DETACH takes an uncoupling back (07_chain_topology_and_heads.md R164). -/
def cmdsChain (r : Requester) (off v : Nat) : List (Chip → Did) :=
  match off with
  | 0x200 => [fun s => s.sleepProp r.code v]
  | 0x20C => [fun s => s.sleepGo r.code (v % 16)]
  | 0x020 => [fun s => s.assignUid false v]
  | 0x024 => [fun s => s.assignUid true v]
  | 0x028 => [fun s => s.assign r.code v]
  | 0x02C => when_ (bit v 0) (fun s => s.stickyClr)
  | 0x050 => [fun s => if v = 0 then s.detachEnd else s.detach r.code v]
  | 0x054 => [fun s => s.handbackGo r.code (v % 16)]
  | 0x070 => [fun s => s.revQLoad v]
  | 0x4FC => [fun s => s.ckptChunk r.code v]
  | _ => if 0x400 ≤ off ∧ off < 0x4FC then [fun s => (s.ckptWord ((off - 0x400) / 4) v).ok] else []

/-- ENG instance e, or block-wide. -/
def cmdsEng (r : Requester) (e off v : Nat) : List (Chip → Did) :=
  match off with
  | 0x004 =>
    when_ (bit v 0) (fun s => s.ctlStart r e) ++ when_ (bit v 1) (fun s => s.ctlHalt r e) ++
    when_ (bit v 2) (fun s => s.ctlResume r e) ++ when_ (bit v 3) (fun s => s.ctlReset r e) ++
    when_ (bit v 4) (fun s => s.ctlArmStart r e) ++ when_ (bit v 5) (fun s => s.ctlArmHalt r e) ++
    when_ (bit v 6) (fun s => s.ctlArmClr r e)
  | 0x8000 => [fun s => s.startMask r v]
  | 0x8004 => [fun s => s.haltMask r v]
  | 0x8008 => [fun s => s.loadSrc v]
  | 0x800C => [fun s => s.loadGo r v]
  | _ => []

/-- RUN instance q. -/
def cmdsRun (r : Requester) (q off v : Nat) : List (Chip → Did) :=
  match off with
  | 0x08 => when_ (bit v 0) (fun s => s.runEnable r.code q) ++ when_ (bit v 1) (fun s => (s.runDisable q).ok)
  | 0x1C => [fun s => s.runMput r q 0 v]
  | 0x20 => [fun s => s.runMput r q 1 v]
  | 0x24 => [fun s => if bit v 0 then s.runMdropp r q else if r = .mgmt then s.ok else (.refused, s)]
  | _ => []

/-- SYNC; LOCK_CMD with OP 3 is a refused access (12_locks_buffers_messages.md R264). -/
def cmdsSync (r : Requester) (off v : Nat) : List (Chip → Did) :=
  match off with
  | 0x0C => [fun s => s.syncFree r (bits v 10 0)]
  | 0x10 => [fun s => s.syncGive r (bits v 10 0) (bits v 21 16)]
  | 0x14 =>
    [fun s => match bits v 9 8 with
      | 0 => s.syncLockTry r (bits v 7 0)
      | 1 => s.syncLockRel r (bits v 7 0)
      | 2 => s.syncLockClr r (bits v 7 0)
      | _ => (.refused, s)]
  | 0x20 => [fun s => s.syncSend r v]
  | 0x24 => [fun s => s.syncSel r (bits v 5 0)]
  | _ =>
    if 0x3000 ≤ off ∧ off < 0x3400 ∧ off % 16 = 8 then when_ (bit v 0) (fun s => (s.mbxFlush ((off - 0x3000) / 16)).ok) else []

/-- HUB, WIDE, CUFF and FUSE. -/
def cmdsPower (r : Requester) (blk i off v : Nat) : List (Chip → Did) :=
  match blk, off with
  | 9, 0x04 =>
    when_ (bit v 0) (fun s => s.hubEnable) ++ when_ (bit v 1) (fun s => s.hubDisable) ++ when_ (bit v 2) (fun s => s.hubRwake r.code)
  | 10, 0x04 => when_ (bit v 0) (fun s => s.wideEnable r.code) ++ when_ (bit v 1) (fun s => s.wideDisable)
  | 11, 0x04 => when_ (bit v 0) (fun s => s.cuffEnable r.code i) ++ when_ (bit v 1) (fun s => s.cuffDisable i)
  | 12, 0x04 =>
    when_ (bit v 0) (fun s => s.fuseOn r.code i) ++ when_ (bit v 1) (fun s => s.fuseOff i) ++ when_ (bit v 2) (fun s => s.rearm r.code i)
  | _, _ => []

/-- MEAS, DRV and PIN: whether a fault FAULT_CLR names is still present, its condition decides, a free value (log entry 6). -/
def cmdsField (r : Requester) (blk i off v : Nat) : List (Chip → Did) :=
  match blk with
  | 13 =>
    (match off with
    | 0x04 => [fun s => s.measCtl r.code (v % 256)]
    | 0x0C => [fun s => s.ainOn (v % 2 ^ 24)]
    | 0x10 => [fun s => s.ainOff (v % 2 ^ 24)]
    | _ => [])
  | 14 =>
    if off = 0x04 then
      when_ (bit v 0) (fun s => s.drvEnable r.code i) ++ when_ (bit v 1) (fun s => s.drvDisable i) ++
      when_ (bit v 2) (fun s => s.drew.faultClr r.code i (bit s.free 0))
    else []
  | _ =>
    if off = 0x04 then when_ (bit v 0) (fun s => s.holdRel r.code)
    else if 0x10 ≤ off ∧ off < 0x90 then
      let n := (off - 0x10) / 32
      match (off - 0x10) % 32 with
      | 0x04 => [fun s => (s.latchWrite n (v % 65536) (v % 65536)).ok]
      | 0x08 => [fun s => (s.latchWrite n 0 (v % 65536)).ok]
      | 0x0C => [fun s => (s.latchToggle n (v % 65536)).ok]
      | 0x10 => [fun s => (s.latchWrite n (v % 65536) (v / 65536)).ok]
      | _ => []
    else []

/-- CAN, BKG and TEST. -/
def cmdsBack (r : Requester) (blk i off v : Nat) : List (Chip → Did) :=
  match blk with
  | 16 =>
    if off = 0x04 then
      when_ (bit v 0) (fun s => s.canEnable r.code i) ++ when_ (bit v 1) (fun s => s.canDisable i) ++ when_ (bit v 2) (fun s => s.canRecover r.code i)
    else []
  | 17 =>
    (match off with
    | 0x28 => [fun s => s.jStageKey v]
    | 0x3C => when_ (bit v 0) (fun s => s.jrnlGo r.code)
    | 0x50 => [fun s => s.logStart r.code v]
    | _ => if 0x2C ≤ off ∧ off < 0x3C then [fun s => s.jStageData ((off - 0x2C) / 4) v] else [])
  | _ =>
    match off with
    | 0x04 => [fun s => s.testGo r.code (bits v 1 0) (bits v 6 2) (bit v 7)]
    | 0x08 => [fun s => s.nbStage v]
    | 0x0C => when_ (bit v 0) (fun s => s.testAbortGo)
    | _ => []

/-- The commands of one write of a register, in ascending bit order (R512). -/
def cmdsOf (r : Requester) (l : Loc) (v : Nat) : List (Chip → Did) :=
  match l.blk with
  | 0 => cmdsSys r l.off v
  | 2 => cmdsLink r l.inst l.off v
  | 3 => if l.off = 0x0C then [fun s => s.urgGo r.code (v % 16)] else []
  | 4 => cmdsChain r l.off v
  | 5 => cmdsEng r l.inst l.off v
  | 6 => cmdsRun r l.inst l.off v
  | 7 => cmdsSync r l.off v
  | 8 =>
    (match l.off with
    | 0x10 => [fun s => s.reviveGo r (v % 64)]
    | 0x14 => [fun s => s.fenceGo r (v % 64)]
    | 0x18 => [fun s => s.arClr (v % 64)]
    | _ => [])
  | 9 | 10 | 11 | 12 => cmdsPower r l.blk l.inst l.off v
  | 13 | 14 | 15 => cmdsField r l.blk l.inst l.off v
  | 16 | 17 | 18 => cmdsBack r l.blk l.inst l.off v
  | 19 => if l.off = 0x04 then [fun s => s.eventSignal r.code (v % 128)] else []
  | 20 => if l.off = 0x0C then when_ (bit v 0) (fun s => s.retrainGo r.code) else []
  | _ => []

/-- The commands act one after another, each on the state the one before left; the write ends as the first one that was not
done ended (R512). -/
def runCmds (l : List (Chip → Did)) (s : Chip) : Did :=
  l.foldl (fun (d : Did) f => let n := f d.2; (if d.1 = .done then n.1 else d.1, n.2)) (.done, s)

/-! Writes -/

/-- Is the owning unit of the RW-E fields of a register enabled (R55, R56)? -/
def Chip.unitOn (s : Chip) (l : Loc) : Bool :=
  match l.blk with
  | 1 => s.flag Reg.CLK_STATUS_EN
  | 2 => s.flag (Reg.LINK_STAT_EN l.inst)
  | 5 => s.flag (Reg.ENG_STAT_EN l.inst)
  | 6 => s.flag (Reg.RUN_STAT_EN l.inst)
  | 9 => s.flag Reg.HUB_STAT_EN
  | 10 => s.flag Reg.WIDE_STAT_EN
  | 11 => s.flag (Reg.CUFF_STAT_EN l.inst)
  | 12 => s.flag (Reg.FUSE_STAT_EN l.inst)
  | 13 => if l.off < 0x100 then bit (s.get Reg.MEAS_AIN_EN) l.idx else s.flag (if l.off < 0x400 then measEn 2 else measEn 3)
  | 14 => s.flag (Reg.DRV_STAT_EN l.inst)
  | 16 => s.flag (Reg.CAN_STAT_EN l.inst)
  | _ => false

/-- What a written word gives a field. -/
def Fld.part (f : Fld) (v : Nat) : Nat := v / 2 ^ f.lsb % 2 ^ f.width

/-- A write of one field that is no command (Table REGS-4). -/
def Chip.writeFld (s : Chip) (l : Loc) (v : Nat) (f : Fld) : Chip :=
  match f.code with
  | .rwE => if s.unitOn l then s else if fieldDieKey f.key then s.putField f (f.part v) else s.put f (f.part v)
  | .rwP =>
    let s := s.putSh f (f.part v)
    if fieldDieKey f.key then s.fieldAct (.shadowSet f (f.part v)) else s
  | .cnt => s.put f (f.part v)
  | _ => s

/-- Is a register's pour group armed (R55)? -/
def Chip.groupArmed (s : Chip) (l : Loc) : Bool :=
  l.fields.any (fun f => f.code == .rwP) && bit (s.get Reg.SYS_ARMED) (groupOfBlk l.blk)

/-- The registers only the management function may use (11_runners.md R251, 12_locks_buffers_messages.md R513): an access by another
requester is refused. -/
def mgmtOnly (l : Loc) : Bool :=
  (l.blk == 6 && [0x14, 0x1C, 0x20, 0x24].contains l.off) ||
  (l.blk == 7 && [0x08, 0x0C, 0x10, 0x14, 0x18, 0x20, 0x24, 0x28].contains l.off)

/-- A write of a register by a requester (R53, R55, R56, R512): busy while its unit is under test, STATE_REJECT while its group is
armed; else field by field, an ignored RW-E write counted once, and then its commands. -/
def Chip.writeReg (s : Chip) (r : Requester) (l : Loc) (v : Nat) : Did :=
  if mgmtOnly l ∧ r ≠ .mgmt then (.refused, s)
  else if s.occupied l then (.busy, s)
  else if s.groupArmed l then s.no r.code l.blk l.inst l.off
  else
    let ign := l.fields.any (fun f => f.code == .rwE) && s.unitOn l
    let s := s.each l.fields (fun s f => s.writeFld l v f)
    let s := if ign then s.ignored r.code l.blk l.inst l.off else s
    runCmds (cmdsOf r l v) s

/-! Reads -/

/-- The live value of a field that stands elsewhere than in the register plane. -/
def Chip.fldLive (s : Chip) (l : Loc) (f : Fld) : Option Nat :=
  let i := l.inst
  match l.blk, l.off with
  | 0, 0x114 => some (b2n s.seamPend)
  | 1, 0x08 => some (s.ct.toNat % 2 ^ 32)
  | 1, 0x0C => some (s.ct.toNat / 2 ^ 32)
  | 3, 0x230 => if f.lsb = 1 then some (b2n s.held) else none
  | 5, 0x140 => some (s.eng i).flags
  | 5, 0x144 => some ((s.eng i).acc.toNat % 2 ^ 32)
  | 5, 0x148 => some ((s.eng i).acc.toNat / 2 ^ 32)
  | 6, 0x0C => if f.lsb = 8 then some (s.runner i).waiters.length else none
  | 6, 0x10 => some (if f.lsb = 0 then s.runWords i else s.runPkts i)
  | 6, 0x8000 => some s.runUsed
  | 7, 0x00 => if f.lsb = 0 then some s.poolFree else none
  | 8, 0x00 => some (s.fencedMask % 2 ^ 32)
  | 8, 0x04 => some (s.fencedMask / 2 ^ 32)
  | 19, 0x00 => some (if f.lsb = 0 then s.evt.inq.length else if f.lsb = 6 then s.evt.mq.length else s.evt.cq.length)
  | 5, off => if 0x100 ≤ off ∧ off < 0x140 then some ((s.eng i).reg l.idx).toNat else none
  | 6, off =>
    if 0x8010 ≤ off ∧ off < 0x8020 then
      some ((List.range 32).foldl (fun m b => if s.flag (Reg.RUN_STAT_OVL (32 * l.idx + b)) then m + 2 ^ b else m) 0)
    else none
  | 7, off =>
    if 0x100 ≤ off ∧ off < 0x500 then (if f.lsb = 7 then some (s.lockWaiters l.idx).length else none)
    else if 0x3000 ≤ off ∧ off < 0x3400 ∧ off % 16 = 4 then
      let m := s.mbx l.idx
      some (if f.lsb = 0 then m.count else if f.lsb = 8 then m.resv else m.waiters.length)
    else none
  | _, _ => none

/-- What a read of one field returns (Table REGS-4; in the active view a RW-P field its working value, R51). -/
def Chip.readFld (s : Chip) (l : Loc) (active : Bool) (f : Fld) : Nat :=
  match f.code with
  | .cmd => 0
  | .roK => f.reset
  | .rwP => if active then s.wk f else s.sh f
  | _ => ((s.fldLive l f).getD (s.get f)) % 2 ^ f.width

/-- The word of a register's fields. -/
def Chip.readWord (s : Chip) (l : Loc) (active : Bool) : Nat :=
  l.fields.foldl (fun a f => a + s.readFld l active f * 2 ^ f.lsb) 0

/-- Is a register the _LO half of a pair (R68)? A constant pair needs no capture. -/
def loReg (l : Loc) : Bool :=
  match l.blk, l.off with
  | 1, 0x08 | 1, 0x10 | 2, 0x10 | 5, 0x144 | 8, 0x00 | 9, 0x10 | 17, 0x40 => true
  | _, _ => false

/-- Is a register the _HI half of a pair? -/
def hiReg (l : Loc) : Bool :=
  match l.blk, l.off with
  | 1, 0x0C | 1, 0x14 | 2, 0x14 | 5, 0x148 | 8, 0x04 | 9, 0x14 | 17, 0x44 => true
  | _, _ => false

/-- The listed reset value of a register that one field fills. -/
def resetWord (l : Loc) : Nat := l.fields.foldl (fun a f => a + f.reset * 2 ^ f.lsb) 0

/-- Does a read of the normal view take, allocate or wait (R51)? -/
def takingRead (l : Loc) : Bool := (l.blk == 6 && l.off == 0x14) || (l.blk == 7 && (l.off == 0x08 || l.off == 0x28))

/-- A read that takes an item, a buffer or a message: for the management function (11_runners.md R251, 12_locks_buffers_messages.md R513). -/
def Chip.takeRead (s : Chip) (r : Requester) (l : Loc) : Acc × Nat × Chip :=
  let d := if l.blk = 6 then s.runMget r l.inst else if l.off = 0x08 then s.syncAlloc r else s.syncRecv r
  (d.1, if d.1 = .done then d.2.lastRead.get 0 32 else 0, d.2)

/-- The conditions that are shown only when they are read are brought up to date. -/
def Chip.freshen (s : Chip) (l : Loc) : Chip := if l.blk = 4 then s.chainShow else s

/-- A read of a register by a requester in the normal or the active view (R51, R53, R68): the outcome, the word, the block. -/
def Chip.readReg (s : Chip) (r : Requester) (l : Loc) (active : Bool) : Acc × Nat × Chip :=
  if mgmtOnly l ∧ r ≠ .mgmt then (.refused, 0, s)
  else if takingRead l then (if active then (.refused, 0, s) else s.takeRead r l)
  else if l.blk = 15 ∧ 0x10 ≤ l.off ∧ l.off < 0x90 ∧ (l.off % 32 = 0x04 ∨ l.off % 32 = 0x08) ∧ 0x24 ≤ l.off then
    let x := s.pinLevels l.idx
    (.done, x.1, x.2)
  else if hiReg l then (.done, s.hiLatch.get (resetWord l) l.addr, s)
  else
    let s := s.freshen l
    let v := s.readWord l active
    if loReg l then
      let hi := match locate (l.addr + 4) with | some h => s.readWord h active | none => 0
      (.done, v, { s with hiLatch := s.hiLatch.put (resetWord l) (l.addr + 4) hi })
    else (.done, v, s)

/-- The register an address names: in the normal view, or in the active view (R48, R51). -/
def regAt (a : Nat) : Option (Loc × Bool) :=
  if 0x01800000 ≤ a ∧ a < 0x01950000 then (locate (a - 0x800000)).map (fun l => (l, true))
  else (locate a).map (fun l => (l, false))

end Sys2Proof.Machine
end

