-- ==== Sys2Proof/Machine/IsaMem.lean ====
section
/-! DEFINITION. What engines reach by loads, stores and port instructions (09_sprue_engines.md R188, R194, R204 to R206,
10_sprue_instruction_set.md R229, R230, R236), and the word accesses of the management function and of the gate (03_register_model.md R48 to R53). -/

namespace Sys2Proof.Machine

/-! Error correction (R194, 22_background_work.md R469) -/

/-- A load by engine e from a physical address: the ACCESS it gives, and the block after it. -/
def Chip.loadEcc (s : Chip) (e a : Nat) : Nat × Chip :=
  match s.eccAt a with
  | 0 => (0, s)
  | 1 => (0, (s.inc (Reg.ENG_ECC_CNT e)).corrected a)
  | _ => (3, (s.inc (Reg.ENG_POISON_CNT e)).fire 57 (detail e 0))

/-! Engine memory accesses -/

/-- Does a cluster data RAM of engine e hold this address (Table ENG-1, Table REGS-1)? -/
def ownCluster (e a : Nat) : Bool := decide (0x140000 + 0x8000 * (e / 8) ≤ a) && decide (a < 0x148000 + 0x8000 * (e / 8))

/-- What a load of n bytes by engine e finds: none for a refused access, else the value, ACCESS, and the block after it. -/
def Chip.engLoad (s : Chip) (e : Fin 32) (a n : Nat) : Option (Nat × Nat × Chip) :=
  if a % n ≠ 0 then none
  else if a < 0x100000 then
    let t := (s.liveStall a).loadEcc e.val (s.map a)
    some (leNat ((List.range n).map (fun i => s.ldb (a + i))), t.1, t.2)
  else if ownCluster e.val a then
    let t := s.loadEcc e.val a
    some (leNat (s.rdbs a n), t.1, t.2)
  else if n ≠ 4 then none
  else match regAt a with
    | none => none
    | some (l, act) =>
      let d := s.readReg (.engine e) l act
      if d.1 = .refused then none else some (d.2.1, 0, d.2.2)

/-- A store of bytes by engine e. -/
def Chip.engStore (s : Chip) (e : Fin 32) (a : Nat) (b : List (BitVec 8)) : Did :=
  if a % b.length ≠ 0 then (.refused, s)
  else if a < 0x100000 then (if gateView a then (.refused, s) else ((s.liveStall a).stbs a b).ok)
  else if ownCluster e.val a then (s.wrbs a b).ok
  else if b.length ≠ 4 then (.refused, s)
  else match regAt a with
    | some (l, false) => s.writeReg (.engine e) l (leNat b)
    | _ => (.refused, s)

/-- The most cc that contention adds to an engine's access to an address (09_sprue_engines.md Table ENG-6). -/
def contendBound (e a : Nat) : Nat := if a < 0x100000 then 23 else if ownCluster e a then 7 else 34

/-- The end of an instruction whose store may have reset the core die. -/
def Chip.storeEnd (d : Did) (e addr : Nat) : Chip := if d.2.coreUp then Chip.didEnd d e addr (contendBound e addr) else d.2

/-- The address of a load or store (R229). -/
def Chip.memAddr (s : Chip) (e a : Nat) (imm : BitVec 14) : Nat := ((s.eng e).reg a + sx14 imm).toNat

/-- A load of n bytes, sign-extended or not (R229, Table ISA-6). -/
def isaLoadOp (e : Fin 32) (d a : Nat) (imm : BitVec 14) (n : Nat) (sx : Bool) (s : Chip) : Chip :=
  s.isa e.val (fun s =>
    let addr := s.memAddr e.val a imm
    match s.engLoad e addr n with
    | none => s.trap e.val 2 (some addr)
    | some (v, acc, s) => (s.setD e.val d (if sx then unsigned 32 (signed (8 * n) v) else v)).accessEnd e.val (contendBound e.val addr) acc)

/-- A store of the low n bytes of d (R229, Table ISA-6). -/
def isaStoreOp (e : Fin 32) (d a : Nat) (imm : BitVec 14) (n : Nat) (s : Chip) : Chip :=
  s.isa e.val (fun s =>
    let addr := s.memAddr e.val a imm
    Chip.storeEnd (s.engStore e addr (natBytes n ((s.eng e.val).reg d).toNat)) e.val addr)

/-! Instrument ports -/

/-- The word of a register at an address, as the core die reads it. -/
def Chip.regPort (s : Chip) (addr : Nat) : Nat := match locate addr with | some l => s.readWord l false | none => 0

/-- Measurement ports (18_measurement.md Table MEAS-6); none for a number the table does not list. -/
def Chip.measPort (s : Chip) (n : Nat) : Option Nat :=
  if n < 24 then some (s.get (Reg.MEAS_AIN_VAL n))
  else if 0x20 ≤ n ∧ n < 0x30 then some (s.get (Reg.MEAS_MON_VAL (n - 0x20)))
  else if 0x40 ≤ n ∧ n < 0x44 then some (s.get (Reg.MEAS_BR_VAL (n - 0x40)))
  else if 0x80 ≤ n ∧ n < 0x8C then some (s.get (Reg.MEAS_PC_CNT (n - 0x80)))
  else if 0xA0 ≤ n ∧ n < 0xAC then some (s.get (Reg.MEAS_PC_PER (n - 0xA0)))
  else if 0xC0 ≤ n ∧ n < 0xCC then some (s.get (Reg.MEAS_PC_TLAST (n - 0xC0)))
  else none

/-- The output and the offset in its ports, for a number from 0x1000 (19_control_outputs.md Table DRV-4). -/
def drvPort (n : Nat) : Option (Nat × Nat) :=
  if n < 0x80 ∧ n % 16 < 4 then some (n / 16, n % 16)
  else if 0x100 ≤ n ∧ n < 0x140 ∧ n % 16 < 4 then some (8 + (n - 0x100) / 16, n % 16)
  else none

/-- Output ports. The current of an HB is signed. -/
def Chip.drvPortRead (s : Chip) (n : Nat) : Option Nat :=
  if n = 0x200 then some ((List.range 8).foldl (fun t o => t + s.get (Reg.DRV_MEAS o)) 0) else
  match drvPort n with
  | none => none
  | some (o, k) => some (match k with
    | 0 => s.get (Reg.DRV_TARGET o)
    | 1 => s.regPort (0x10E0000 + drvOff o)
    | 2 => if o < 8 then s.get (Reg.DRV_MEAS o) else unsigned 32 (signed 16 (s.get (Reg.DRV_MEAS o)))
    | _ => 0)

/-- Is this offset one of a Cuff's ports (16_cuffs_type_c_pd.md Table CUFF-4)? -/
def cuffPortIs (k : Nat) : Bool :=
  decide (k < 3) || (decide (0x10 ≤ k) && decide (k ≤ 0x18)) || (decide (0x20 ≤ k) && decide (k ≤ 0x28)) ||
  (decide (0x30 ≤ k) && decide (k ≤ 0x34))

/-- A Cuff's ports (Table CUFF-4). -/
def Chip.cuffPortRead (s : Chip) (c k : Nat) : Nat :=
  let x := s.cuff c
  if k = 0 then s.regPort (0x10B0000 + 0x1000 * c)
  else if k = 1 then s.get (Reg.CUFF_VBUS_MV c)
  else if k = 2 then partnerRp x + (if seesRa x then 4 else 0)
  else if k < 0x18 then (match x.rx with | [] => 0 | (_, b) :: _ => leNat ((b.drop (4 * (k - 0x10))).take 4))
  else if k = 0x18 then
    (match x.rx with
    | [] => 0
    | (sop, b) :: _ => 1 + 2 * (b.length % 32) + 64 * sop + 256 * x.rx.length)
  else if k < 0x28 then x.txData.get 0 (k - 0x20)
  else match k with
    | 0x28 => x.txRes
    | 0x31 => s.get (Reg.CUFF_VBUS_CODE c)
    | 0x32 => s.get (Reg.CUFF_CONTRACT c)
    | 0x34 => x.adv
    | _ => 0

/-- Channel ports (17_switching_and_fusing.md Table FUSE-5). -/
def Chip.fusePort (s : Chip) (n : Nat) : Option Nat :=
  let ch := n / 16
  if 10 ≤ ch then none else
  match n % 16 with
  | 0 => some (s.regPort (0x10C0000 + 0x40 * ch))
  | 1 => some (s.get (Reg.FUSE_MEAS_MA ch))
  | 2 => some (s.get (Reg.FUSE_MEAS_VOUT ch))
  | 3 => some (s.get (Reg.FUSE_VIN ch))
  | _ => none

/-- Pin ports (20_pins_and_muxing.md Table PIN-3). -/
def Chip.pinPort (s : Chip) (n : Nat) : Option (Nat × Chip) :=
  if n < 4 then some (s.pinLevels n)
  else if 0x10 ≤ n ∧ n < 0x14 then some (s.get (Reg.PIN_OUT (n - 0x10)), s)
  else if 0x100 ≤ n ∧ n < 0x140 then
    let x := s.pinLevels ((n - 0x100) / 16)
    some (b2n (bit x.1 (n % 16)), x.2)
  else if n = 0x200 then some (s.get Reg.PIN_HVI_IN, s)
  else if n = 0x201 then some (s.get Reg.PIN_HVI_RAW, s)
  else if 0x210 ≤ n ∧ n < 0x218 then some (s.get (Reg.PIN_EVCAP_T (n - 0x210)), s)
  else none

/-- The value of a port (R204). A port no chapter lists, those of UART and I2C among them, reads a free value (log entry 60). -/
def Chip.portRead (s : Chip) (p : Nat) : Nat × Chip :=
  let n := p % 0x1000
  let v : Option (Nat × Chip) := match p / 0x1000 with
    | 0 => (s.measPort n).map (fun v => (v, s))
    | 1 => (s.drvPortRead n).map (fun v => (v, s))
    | 2 => some (s.cuffPortRead (n / 256) (n % 256), s)
    | 3 => (s.fusePort n).map (fun v => (v, s))
    | 4 => s.pinPort n
    | 5 => if n < 0x200 ∧ canPortIs (n % 256) then some (s.canPortRead (n / 256) (n % 256), s) else none
    | _ => none
  match v with
  | some t => t
  | none => (s.free, s.drew)

/-- Is the unit behind a port occupied by a test (R206)? -/
def Chip.portBusy (s : Chip) (p : Nat) : Bool :=
  let n := p % 0x1000
  match p / 0x1000 with
  | 0 => s.occMeas
  | 1 => s.occDrv
  | 2 => s.occCuff (n / 256)
  | 3 => s.occFuse (n / 16)
  | 4 => if n < 0x20 then s.occPin (n % 16) else if 0x100 ≤ n ∧ n < 0x140 then s.occPin ((n - 0x100) / 16) else if n < 0x202 then s.occHvi else false
  | 5 => s.occCan (n / 256 % 2)
  | _ => false

/-- A write of a pin port (Table PIN-3): true where it is accepted. -/
def Chip.pinPortWrite (s : Chip) (n v : Nat) : Bool × Chip :=
  if n < 4 then (true, s.latchWrite n (v % 65536) (v / 65536))
  else if 0x100 ≤ n ∧ n < 0x140 then (true, s.latchWrite ((n - 0x100) / 16) (if bit v 0 then 65535 else 0) (2 ^ (n % 16)))
  else (false, s)

/-- What a port write does (R204): true where it is accepted. What a UART or I2C port does with it, no chapter says; the write is Done. -/
def Chip.portDo (s : Chip) (p v : Nat) : Bool × Chip :=
  let n := p % 0x1000
  match p / 0x1000 with
  | 1 => (match drvPort n with | some (o, k) => s.drvPortWrite o k v | none => (false, s))
  | 2 => s.cuffPortWrite (n / 256) (n % 256) v
  | 4 => s.pinPortWrite n v
  | 5 => if n < 0x200 ∧ canPortIs (n % 256) then s.canPortWrite (n / 256) (n % 256) v else (false, s)
  | 6 => (true, s)
  | _ => (false, s)

/-- Block and instance of a port (R67). -/
def portBlock (p : Nat) : Nat × Nat :=
  let n := p % 0x1000
  match p / 0x1000 with
  | 0 => (13, 0) | 1 => (14, 0) | 2 => (11, n / 256) | 3 => (12, 0) | 4 => (15, 0) | _ => (16, n / 256 % 2)

/-- A claimed port write by engine e (R206). A rejected one counts and is reported; the spec names no offset for a port in the event, a
free value (log entry 6). -/
def Chip.portWrite (s : Chip) (e p v : Nat) : Did :=
  if s.portBusy p then (.busy, s) else
  let t := s.portDo p v
  if t.1 then t.2.ok else
  let b := portBlock p
  t.2.drew.no e b.1 b.2 (t.2.free % 65536)

/-- pin and pinr (R206, R236). -/
def isaPortIn (e d : Nat) (p : Chip → Nat) (s : Chip) : Chip :=
  s.isa e (fun s =>
    let n := p s
    if portReserved n || s.claim e n == 0 then s.trap e 3 (some n)
    else
      let t := s.portRead n
      (t.2.setD e d t.1).accessEnd e 34 0)

/-- pout and poutr (R206, R236). -/
def isaPortOut (e : Nat) (p v : Chip → Nat) (s : Chip) : Chip :=
  s.isa e (fun s =>
    let n := p s
    if portReserved n || s.claim e n != 2 then s.trap e 3 (some n)
    else Chip.didEnd (s.portWrite e n (v s)) e n 34)

/-! Word accesses of the management function and of the gate -/

/-- The words of the address map that are memory: physical address of the word, and whether it may be written by an address
(R48, R174; code RAM by the management function alone, R210). -/
def Chip.memWord (s : Chip) (a : Nat) : Option Nat :=
  if a % 4 ≠ 0 then none else if a < 0x100000 then some (s.map a) else if a < 0x160000 then some a else none

/-- A read of a word (R50, R53). -/
def Chip.busRead (s : Chip) (r : Requester) (a : Nat) : Acc × Nat × Chip :=
  match s.memWord a with
  | some p =>
    let s := if r = .gate then s else s.liveStall a
    (.done, leNat ((List.range 4).map (fun i => s.sees (p + i))), if s.eccAt p = 1 then s.corrected p else s)
  | none =>
    match regAt a with
    | none => (.refused, 0, s)
    | some (l, act) => s.readReg r l act

/-- A write of a word (R50, R53). -/
def Chip.busWrite (s : Chip) (r : Requester) (a v : Nat) : Did :=
  if a % 4 ≠ 0 then (.refused, s)
  else if a < 0x100000 then
    if r = .gate then (if a < 0x10000 then s.gateStore a (BitVec.ofNat 32 v) else s.stw a (BitVec.ofNat 32 v)).ok
    else if gateView a then (.refused, s) else ((s.liveStall a).stw a (BitVec.ofNat 32 v)).ok
  else if a < 0x140000 then s.codeWrite r ((a - 0x100000) / 0x2000) ((a - 0x100000) / 4 % 2048) (BitVec.ofNat 32 v)
  else if a < 0x160000 then (s.wrw a (BitVec.ofNat 32 v)).ok
  else match regAt a with
    | some (l, false) => s.writeReg r l v
    | _ => (.refused, s)

end Sys2Proof.Machine
end

