-- ==== Sys2Proof/Machine/BootStart.lean ====
section
/-! DEFINITION. The start of a pattern image and the end of the boot ROM's checks (04_power_up_to_service.md R79, R80, R84 to R87). -/

namespace Sys2Proof.Machine

/-- Pairs of a register list: address, value (R84). -/
def pairsOf : List (BitVec 32) → List (Nat × Nat)
  | a :: v :: t => (a.toNat, v.toNat) :: pairsOf t
  | _ => []

/-- The pairs in list order, as writes of the management function; false once one is not Done. Nothing more follows a write that
resets the core die. -/
def bootPairs : List (Nat × Nat) → Chip → Bool × Chip
  | [], s => (true, s)
  | p :: t, s =>
    let d := s.busWrite .mgmt p.1 p.2
    if d.1 ≠ .done then (false, d.2) else if d.2.coreUp then bootPairs t d.2 else (true, d.2)

/-- One section is written. -/
def Chip.bootSection (s : Chip) (b : List (BitVec 8)) (x : Section) : Bool × Chip :=
  let data := (b.drop x.off).take x.len
  if x.kind = 1 then (true, s.wrbs x.target data) else bootPairs (pairsOf (bytesWords data)) s

/-- The sections in table order (R86, step 1). -/
def bootSections (b : List (BitVec 8)) : List Section → Chip → Bool × Chip
  | [], s => (true, s)
  | x :: t, s =>
    let d := s.bootSection b x
    if d.1 && d.2.coreUp then bootSections b t d.2 else d

/-- The boot ROM empties a mailbox it held (R80); no flush is counted. -/
def Chip.bootEmpty (s : Chip) (m : Nat) : Chip :=
  let n := s.get Reg.SYNC_FLUSH_CNT
  (s.mbxFlush m).put Reg.SYNC_FLUSH_CNT n

/-- A start fails: every engine stops, and the boot ROM waits for a chain image (R86). -/
def Chip.bootFail (s : Chip) : Chip :=
  (s.each (List.range 32) (fun s e => if s.engState e = 1 ∨ s.engState e = 2 then s.engHaltNow e else s)).chainWait 6

/-- The last steps of a start: engines, STATE, and what the registers show of the image (R86, R87). -/
def Chip.bootStarted (s : Chip) (b : List (BitVec 8)) (k src : Nat) : Chip :=
  let mask := imgWord b 0x18
  let s := s.each (List.range 32) (fun s e => if bit mask e && s.engState e == 0 then s.engStart e else s)
  let s := ((s.put Reg.SYS_BOOT_STATE 5).put Reg.SYS_BOOT_ERR 0).put Reg.SYS_BOOT_SLOT k
  let s := ((s.put Reg.SYS_BOOT_SRC src).put Reg.SYS_IMG_VER (imgWord b 0x10)).put Reg.SYS_IMG_RBI (imgWord b 0xC)
  let s := { s with boot := { s.boot with runSlot := k, runLen := b.length, verify := none, load := none, holdsMbx := false } }
  if s.boot.keyHash.isNone then (s.put Reg.SYS_BOOT_OPEN 1).fire 34 0 else s.put Reg.SYS_BOOT_OPEN 0

/-- The boot ROM starts a valid image of slot k (R86). -/
def Chip.bootStart (s : Chip) (b : List (BitVec 8)) (k src : Nat) : Chip :=
  let d := bootSections b (sections b) s
  if !d.2.coreUp then d.2
  else if !d.1 then d.2.bootFail
  else
    let s : Chip := { d.2 with boot := { d.2.boot with holdsMbx := false } }
    let s := (s.bootEmpty 63).bootEmpty 62
    let p := s.localPour 32 (imgWord b 0x1C % 65536)
    if p.1 ≠ .done then p.2.bootFail else p.2.bootStarted b k src

/-- The choice between the slots (R79): the valid image of the higher version, slot A of equal ones. -/
def pickSlot (a b : Option Nat) : Option Nat :=
  match a, b with
  | none, none => none
  | some _, none => some 0
  | none, some _ => some 1
  | some x, some y => some (if x < y then 1 else 0)

/-- The reason ERR shows when neither slot is valid (log entry 22): 1 without the magic in either, else that of slot A where it holds
the magic, else that of slot B. -/
def Chip.slotsErr (s : Chip) : Nat :=
  match s.slotImage 0, s.slotImage 1 with
  | some b, _ => s.imageErr b
  | none, some b => s.imageErr b
  | none, none => 1

/-- The checks of both NOR slots are complete (R79). -/
def Chip.norChecked (s : Chip) : Chip :=
  let va := s.slotVersion 0
  let vb := s.slotVersion 1
  let s := { s with boot := { s.boot with slotA := va, slotB := vb } }
  match pickSlot va vb with
  | none => s.chainWait s.slotsErr
  | some k => match s.slotImage k with | some b => s.bootStart b k 0 | none => s

/-- IMAGE_VERIFY_DONE (R85): of the NOR slots, or of an image received. -/
def Chip.imageVerifyDone (s : Chip) : Chip :=
  if !s.coreUp then s
  else if s.get Reg.SYS_BOOT_STATE = 1 then s.norChecked
  else match s.boot.verify with
    | none => s
    | some (len, k) =>
      if s.get Reg.SYS_BOOT_STATE ≠ 4 then s else
      let b := s.norbs (slotBase k) len
      let e := s.imageErr b
      if e = 0 then s.bootStart b k 1 else s.chainWait e

end Sys2Proof.Machine
end

