-- ==== Sys2Proof/Machine/GateSlots.lean ====
section
/-! DEFINITION. Slots at the gate of a member, and the end of a frame (06_cycle_frames_and_gate.md R125 to R145). A slot command stands for
the slot as it passes; it is decided at once, and its log acts at FRAME_END. -/

namespace Sys2Proof.Machine

/-! The frame in hand -/

/-- What the node makes of a slot: the payload it forwards, whether it counts in ACTED or REFUSED, the flags it sets, and what it logs. -/
structure SlotOut where
  payload : List (BitVec 8)
  acted : Bool := false
  refused : Bool := false
  flags : Nat := 0
  log : List LogOp := []
deriving DecidableEq, Repr

/-- The port on which frames reach the gate: a node that sends cycle marks acts on none (R129, R14). -/
def Chip.gatePort (s : Chip) : Option Nat := if s.coreUp then s.headPort else none

/-- Are slots that arrive on a port left alone, its flask F41 or F42 being fenced (13_flasks_and_warden.md Table FLASK-1)? -/
def Chip.gateShut (s : Chip) (p : Nat) : Bool := !s.active (41 + p)

end Sys2Proof.Machine

namespace Sys2Proof

open Machine

/-- Header bytes 0 to 9 of a slot (Table GATE-2). -/
def Slot.head (x : Slot) (op : Nat) : List (BitVec 8) :=
  natBytes 1 op ++ natBytes 1 x.flags.toNat ++ natBytes 2 x.addr.toNat ++ natBytes 4 x.target.toNat ++ natBytes 2 x.len.toNat

/-- Is the header CRC-16 good (R127)? -/
def Slot.crcOk (x : Slot) (op : Nat) : Bool := (crc16 0xFFFF (x.head op)).toNat == x.hcrc.toNat

/-- A slot byte by byte, as it arrives. -/
def Slot.bytes (x : Slot) (op : Nat) : List (BitVec 8) :=
  x.head op ++ natBytes 2 x.hcrc.toNat ++ x.payload ++ natBytes 2 x.acted.toNat ++ natBytes 1 x.refused.toNat ++ natBytes 1 x.rflags.toNat

/-- A slot leaves as it came. -/
def Slot.asCame (x : Slot) (op : Nat) : FwdSlot :=
  ⟨op, x.flags.toNat, x.addr.toNat, x.target.toNat, x.len.toNat, x.payload, x.acted.toNat, x.refused.toNat, x.rflags.toNat, x.hcrc.toNat⟩

end Sys2Proof

namespace Sys2Proof.Machine

/-- Header bytes 0 to 9 as forwarded. -/
def FwdSlot.head (w : FwdSlot) : List (BitVec 8) :=
  natBytes 1 w.op ++ natBytes 1 w.flags ++ natBytes 2 w.addr ++ natBytes 4 w.target ++ natBytes 2 w.len

/-- The slot with the right header CRC-16 for the bytes sent (R129). -/
def FwdSlot.sealed_ (w : FwdSlot) : FwdSlot := { w with hcrc := (crc16 0xFFFF w.head).toNat }

/-- The slot with the complement of the right one (R144). -/
def FwdSlot.spoiled (w : FwdSlot) : FwdSlot := { w with hcrc := 0xFFFF - (crc16 0xFFFF w.head).toNat }

/-- A slot byte by byte, as it is sent. -/
def FwdSlot.bytes (w : FwdSlot) : List (BitVec 8) :=
  w.head ++ natBytes 2 w.hcrc ++ w.payload ++ natBytes 2 w.acted ++ natBytes 1 w.refused ++ natBytes 1 w.rflags

/-- Is a frame header in order (R125): byte 1 the complement of byte 0, a length of 2 to 1,024 words? -/
def hdrOk (h : Nat) : Bool := h / 256 % 256 == 255 - h % 256 && decide (2 ≤ h / 65536) && decide (h / 65536 ≤ 1024)

/-- A slot arrives on port p: its frame begins with the first one, and its bytes count to the frame's (R124, R134). -/
def Chip.arrive (s : Chip) (p op : Nat) (x : Slot) : Chip :=
  let r := s.gate.run
  let r := if r.begun then r else { r with begun := true, hdr := x.hdr.toNat, rx := natBytes 4 x.hdr.toNat }
  s.setRun { r with at_ := r.rx.length, rx := r.rx ++ x.bytes op, shut := r.shut || s.gateShut p }

/-- Add a slot to those forwarded. -/
def Chip.forward (s : Chip) (w : FwdSlot) : Chip := s.setRun { s.gate.run with fwd := s.gate.run.fwd ++ [w] }

/-- A slot leaves with what the node made of it: ACTED saturates at 0xFFFF, REFUSED at 0xFF, flags are ORed (R128); the counts (Table
GATE-7) and the log follow. -/
def Chip.slotLeaves (s : Chip) (op addr : Nat) (x : Slot) (o : SlotOut) : Chip :=
  let w : FwdSlot := { x.asCame op with
    addr := addr, payload := o.payload, acted := min 0xFFFF (x.acted.toNat + b2n o.acted)
    refused := min 0xFF (x.refused.toNat + b2n o.refused), rflags := x.rflags.toNat ||| o.flags }
  let s := s.setRun { s.gate.run with log := s.gate.run.log ++ o.log, fwd := s.gate.run.fwd ++ [w.sealed_] }
  let s := if o.acted then s.inc Reg.GATE_ACT_CNT else s
  if o.refused then s.inc Reg.GATE_REFUSE_CNT else s

/-- Is OP one of Table GATE-4? -/
def opListed (op : Nat) : Bool := decide (op ≤ 6) || (decide (8 ≤ op) && decide (op ≤ 14)) || (decide (16 ≤ op) && decide (op ≤ 18))

end Sys2Proof.Machine

namespace Sys2Proof

open Machine

/-- Are reserved header bits of a slot set (Table GATE-2)? WD belongs to POUR and SET to TELEM. -/
def Slot.reserved (x : Slot) (op : Nat) : Bool :=
  let f := x.flags.toNat
  decide (4 ≤ f) || (bit f 0 && op != 17) || (bit f 1 && op != 13) || decide (0x1000 ≤ x.addr.toNat) || decide (0x2000 ≤ x.len.toNat)

/-- Ring and station or hop of the address field. -/
def Slot.ring (x : Slot) : Nat := bits x.addr.toNat 11 10

def Slot.station (x : Slot) : Nat := bits x.addr.toNat 9 0

/-- The address field with another station or hop. -/
def Slot.withStation (x : Slot) (n : Nat) : Nat := x.addr.toNat - x.station + n

end Sys2Proof

namespace Sys2Proof.Machine

/-- Does a station slot address this node (R129)? -/
def Chip.addressed (s : Chip) (st : Nat) : Bool :=
  st == 1023 || (s.flag Reg.CHAIN_STAT_ADDR_VALID && s.get Reg.CHAIN_ADDR_STATION == st)

/-- NOT_OP of a node that does not yet serve (R132). -/
def Chip.notOp (s : Chip) : Nat := if s.clk.serving then 0 else 4

/-- A slot whose header CRC-16 is wrong (R144): counted; no action in the rest of the frame; the header goes on with the complement of the
right CRC-16 for the bytes sent. -/
def Chip.headerBad (s : Chip) (op : Nat) (x : Slot) : Chip :=
  let s := (s.inc Reg.GATE_HCRC_CNT).forward (x.asCame op).spoiled
  s.setRun { s.gate.run with stop := true }

/-- A slot reaches the gate (R125, R144, R281): it goes on as it came through a shut gate, behind a failed slot header and in a frame
whose header is not in order; else its own header is judged, and a good one is `k`'s. -/
def Chip.slotSeen (s : Chip) (op : Nat) (x : Slot) (k : Chip → Chip) : Chip :=
  match s.gatePort with
  | none => s
  | some p =>
    let s := s.arrive p op x
    if s.gate.run.shut || s.gate.run.stop || !hdrOk s.gate.run.hdr then s.forward (x.asCame op)
    else if x.crcOk op then k s else s.headerBad op x

/-- A slot passes (R129, R130, R132): unchanged with reserved bits, in another ring or for another node; else with what `f` makes of it. A
node that does not serve takes no part unless `early`. -/
def Chip.slotMine (s : Chip) (op : Nat) (hop early : Bool) (x : Slot) (f : Chip → Slot → SlotOut × Chip) : Chip :=
  if x.reserved op then (s.inc Reg.GATE_BAD_OP_CNT).forward (x.asCame op)
  else if x.ring ≠ s.get Reg.CHAIN_STAT_RING then s.forward (x.asCame op)
  else if hop && x.station == 1023 then s.forward (x.asCame op)
  else if hop && x.station != 0 then s.forward { x.asCame op with addr := x.withStation (x.station - 1) }.sealed_
  else if !hop && !s.addressed x.station then s.forward (x.asCame op)
  else
    let addr := if hop then x.withStation 1023 else x.addr.toNat
    if !s.clk.serving && !early then s.forward { x.asCame op with rflags := x.rflags.toNat ||| 4 }
    else
      let t := f s x
      t.2.slotLeaves op addr x { t.1 with flags := t.1.flags ||| s.notOp }

/-- A slot of an operation of Table GATE-4. -/
def Chip.slotAt (s : Chip) (op : Nat) (hop early : Bool) (x : Slot) (f : Chip → Slot → SlotOut × Chip) : Chip :=
  s.slotSeen op x (fun s => s.slotMine op hop early x f)

end Sys2Proof.Machine

namespace Sys2Proof

open Machine

/-- A slot the node refuses: it changes nothing. -/
def Slot.refuse (x : Slot) : SlotOut := { payload := x.payload, refused := true }

/-- A slot that passes unchanged. -/
def Slot.pass (x : Slot) : SlotOut := { payload := x.payload }

end Sys2Proof

namespace Sys2Proof.Machine

/-- SLOT_HEADER_CRC_FAIL (R144); nothing for a slot whose header CRC is good. -/
def Chip.slotBad (s : Chip) (op : Nat) (x : Slot) : Chip := if x.crcOk op then s else s.slotSeen op x id

/-- NOP. -/
def Chip.slotNop (s : Chip) (x : Slot) : Chip :=
  s.slotSeen 0 x (fun s => (if x.reserved 0 then s.inc Reg.GATE_BAD_OP_CNT else s).forward (x.asCame 0))

/-- BAD_OP_SLOT (R130): a reserved OP, or reserved bits under a listed one; nothing for any other slot. -/
def Chip.slotBadOp (s : Chip) (op : Nat) (x : Slot) : Chip :=
  if opListed op && !x.reserved op then s
  else s.slotSeen op x (fun s => (s.inc Reg.GATE_BAD_OP_CNT).forward (x.asCame op))

/-! Register operations (R131, R134 to R137) -/

end Sys2Proof.Machine

namespace Sys2Proof

open Machine

/-- Word addresses of a register operation. -/
def Slot.words (x : Slot) : List Nat := (List.range (x.payload.length / 4)).map (fun i => (x.target.toNat + 4 * i) % 2 ^ 32)

/-- Is the length one a register operation may have (R131)? -/
def Slot.regLen (x : Slot) : Bool :=
  x.payload.length % 4 == 0 && decide (4 ≤ x.payload.length) && decide (x.payload.length ≤ 256)

end Sys2Proof

namespace Sys2Proof.Machine

/-- Would an access of the gate be a refused access (R50, R131)? Of the process image the gate reads the input's gate view and writes the
output's, no other (08_process_image.md R174). -/
def Chip.gateRefused (s : Chip) (write : Bool) (a : Nat) : Bool :=
  match s.memWord a with
  | some _ =>
    if a < 0x10000 then (if write then decide (a < 0xC000) else a / 0x4000 != 1)
    else write && decide (0x100000 ≤ a) && decide (a < 0x140000)
  | none =>
    match regAt a with
    | none => true
    | some (l, act) => mgmtOnly l || (write && act)

/-- Is a word gate-fast (R134): process-image memory, or a register it lists? -/
def gateFast (a : Nat) : Bool :=
  if a < 0x10000 then true else
  match regAt a with
  | none => false
  | some (l, _) =>
    match l.blk with
    | 1 | 3 | 4 => true
    | 0 => decide (l.off ≤ 0x54) || (decide (0x100 ≤ l.off) && decide (l.off ≤ 0x12C))
    | 2 => l.off == 0x00 || l.off == 0x30
    | 8 => decide (l.off ≤ 8)
    | 17 => l.off == 8
    | 20 => l.off == 0
    | _ => false

/-- Words read one after another, or none where one is not Done. -/
def Chip.gateReads (s : Chip) : List Nat → Option (List Nat) × Chip
  | [] => (some [], s)
  | a :: t =>
    let d := s.busRead .gate a
    if d.1 ≠ .done then (none, d.2.2) else
    let u := d.2.2.gateReads t
    (u.1.map (fun l => d.2.1 :: l), u.2)

/-- Do memory words hold an uncorrectable error (Table GATE-3)? -/
def Chip.gatePoison (s : Chip) (l : List Nat) : Bool :=
  l.any (fun a => match s.memWord a with | some p => s.eccAt p == 2 | none => false)

/-- A payload with words put over its first bytes. -/
def overWords (p : List (BitVec 8)) (l : List Nat) : List (BitVec 8) := l.flatMap (natBytes 4) ++ p.drop (4 * l.length)

end Sys2Proof.Machine

namespace Sys2Proof

open Machine

/-- Header bytes 0 to 9 as a deferred read keeps them (R134). -/
def Slot.header (x : Slot) (op : Nat) : List Nat := [op, x.flags.toNat, x.addr.toNat, x.target.toNat, x.len.toNat]

end Sys2Proof

namespace Sys2Proof.Machine

/-- A read held from the last cycle is picked up (R134, step 3). -/
def Chip.pickup (s : Chip) (op : Nat) (x : Slot) : Option (SlotOut × Chip) :=
  let hit := fun (d : Deferred) => d.frame == s.gate.run.hdr % 16 && d.off == s.gate.run.at_ && d.hdr == x.header op &&
    sub32 (s.get Reg.CLK_CYC_NUM) d.cyc == 1
  match s.gate.held.find? hit with
  | none => none
  | some d =>
    let s := s.setGate { s.gate with held := s.gate.held.filter (fun e => !hit e) }
    some (match d.words with
      | some l => ({ payload := overWords x.payload l, acted := true, flags := if d.poison then 17 else 1 }, s)
      | none => ({ payload := x.payload, refused := true, flags := 1 }, s))

/-- A read that is not gate-fast is deferred, the 33rd of a cycle refused (R134). -/
def Chip.deferRead (s : Chip) (op : Nat) (x : Slot) : SlotOut × Chip :=
  if 32 ≤ s.gate.defers then (x.refuse, s) else
  ({ payload := x.payload, flags := 1
     log := [.defer (s.gate.run.hdr % 16) s.gate.run.at_ (x.header op) x.target.toNat (x.payload.length / 4)] },
   (s.setGate { s.gate with defers := s.gate.defers + 1 }).inc Reg.GATE_DEF_CNT)

/-- HOP_RD and ST_RD. -/
def gateRd (op : Nat) (s : Chip) (x : Slot) : SlotOut × Chip :=
  if !x.regLen || (op == 3 && x.station == 1023) || x.words.any (s.gateRefused false) then (x.refuse, s) else
  match s.pickup op x with
  | some t => t
  | none =>
    if !x.words.all gateFast then s.deferRead op x else
    match s.gateReads x.words with
    | (some l, t) => ({ payload := overWords x.payload l, acted := true, flags := if s.gatePoison x.words then 16 else 0 }, t)
    | (none, t) => (x.refuse, t)

/-- The first word that would not end Done if it were written in the block's present state (R135), with its address and value. -/
def Chip.notDone (s : Chip) (words : List (Nat × Nat)) : Option (Acc × Nat × Nat) :=
  words.findSome? (fun p =>
    let d := s.busWrite .gate p.1 p.2
    if d.1 = .done then none else some (d.1, p.1, p.2))

/-- A write decided STATE_REJECT counts at its block and is reported (R67), with the record its block keeps of it. -/
def Chip.gateReject (s : Chip) (a v : Nat) : Chip :=
  let d := s.busWrite .gate a v
  if d.1 = .reject then d.2 else
  match regAt a with
  | some (l, _) => s.reject 34 l.blk l.inst l.off
  | none => s

/-- Words decided Done are logged; a sleep proposal acts at the slot. -/
def Chip.logWrites (s : Chip) (l : List (Nat × Nat)) : List LogOp × Chip :=
  l.foldl (fun (t : List LogOp × Chip) p =>
    if p.1 = sleepPropReg ∧ p.2 ≠ 0 then (t.1 ++ [.propose], (t.2.busWrite .gate p.1 p.2).2)
    else (t.1 ++ [.write p.1 p.2], t.2)) ([], s)

end Sys2Proof.Machine

namespace Sys2Proof

open Machine

/-- The words of a payload as writes. -/
def Slot.writes (x : Slot) : List (Nat × Nat) := List.zip x.words ((bytesWords x.payload).map BitVec.toNat)

end Sys2Proof

namespace Sys2Proof.Machine

/-- Decide and log a slot's writes: each word is judged on the present state, and the slot acts on all of its words
or on none (R135; log entry 63). `out` is the payload where it acts. -/
def Chip.decideWrites (s : Chip) (x : Slot) (out : List (BitVec 8)) : SlotOut × Chip :=
  match s.notDone x.writes with
  | some (.busy, _, _) => ({ payload := x.payload, flags := 2 }, s)
  | some (.reject, a, v) => (x.refuse, s.gateReject a v)
  | some _ => (x.refuse, s)
  | none =>
    let t := s.logWrites x.writes
    ({ payload := out, acted := true, log := t.1 }, t.2)

/-- HOP_WR and ST_WR. -/
def gateWr (s : Chip) (x : Slot) : SlotOut × Chip :=
  if !x.regLen || x.words.any (s.gateRefused true) then (x.refuse, s) else s.decideWrites x x.payload

/-- ST_RW: the old words return. -/
def gateRw (s : Chip) (x : Slot) : SlotOut × Chip :=
  if !x.regLen || x.station == 1023 || x.words.any (s.gateRefused true) || !x.words.all gateFast then (x.refuse, s) else
  match s.gateReads x.words with
  | (some l, s) => s.decideWrites x (overWords x.payload l)
  | (none, s) => (x.refuse, s)

/-- BC_OR; an OR-read of SLEEP_STAT may pass the commit point (05_gleshline_link.md R118). -/
def gateOr (s : Chip) (x : Slot) : SlotOut × Chip :=
  if !x.regLen || x.words.any (s.gateRefused false) || !x.words.all gateFast then (x.refuse, s) else
  match s.gateReads x.words with
  | (some l, s) =>
    let v := List.zipWith (fun a b => a ||| b) l ((bytesWords x.payload).map BitVec.toNat)
    let pend := (List.zip x.words v).any (fun p => p.1 == sleepStatReg && bit p.2 2)
    ({ payload := overWords x.payload v, acted := true }, if x.words.contains sleepStatReg then s.sleepCommit pend else s)
  | (none, s) => (x.refuse, s)

/-! Image operations (R139, R140; 08_process_image.md R180) -/

/-- The part of the logical range of a slot that window w covers: offset in the payload, length, offset in the image (R139). -/
def Chip.winPart (s : Chip) (w : Nat) (x : Slot) : Option (Nat × Nat × Nat) :=
  let t := x.target.toNat
  let g := s.wk (Reg.GATE_WIN_LOGICAL w)
  let lo := max t g
  let hi := min (t + x.payload.length) (g + 4 * s.wk (Reg.GATE_WIN_LEN w))
  if hi ≤ lo then none else some (lo - t, hi - lo, s.wk (Reg.GATE_WIN_LOCAL w) + (lo - g))

/-- The enabled windows of a direction that overlap a slot. -/
def Chip.winParts (s : Chip) (dir : Nat) (x : Slot) : List (Nat × Nat × Nat × Nat) :=
  (List.range 128).filterMap (fun w =>
    if s.wkB (Reg.GATE_WIN_EN w) && s.wk (Reg.GATE_WIN_DIR w) == dir then (s.winPart w x).map (fun p => (w, p)) else none)

/-- Bytes put over part of a payload. -/
def overBytes (p : List (BitVec 8)) (off : Nat) (l : List (BitVec 8)) : List (BitVec 8) := p.take off ++ l ++ p.drop (off + l.length)

/-- STALE and POISONED of bytes from an input window (R128, R140). -/
def Chip.winFlags (s : Chip) (w x n : Nat) : Nat :=
  let bad := (List.range n).any (fun i => s.eccAt (imgPhys 0 (x + i) (s.copyB 0 (x + i) true)) == 2)
  (if s.winBit Reg.GATE_IMG_STALE w then 8 else 0) + (if bad || s.winPoisoned w then 16 else 0)

/-- IMG_RD. -/
def gateImgRd (s : Chip) (x : Slot) : SlotOut × Chip :=
  if s.held then (x.refuse, s.inc Reg.GATE_IMG_SKIP_CNT) else
  let ps := s.winParts 0 x
  let out := ps.foldl (fun (o : List (BitVec 8)) p => overBytes o p.2.1 (s.gateIn p.2.2.2 p.2.2.1)) x.payload
  let fl := ps.foldl (fun (f : Nat) p => f ||| s.winFlags p.1 p.2.2.2 p.2.2.1) 0
  ({ payload := out, acted := !ps.isEmpty, flags := fl }, s)

/-- IMG_WR. -/
def gateImgWr (s : Chip) (x : Slot) : SlotOut × Chip :=
  if s.held then (x.refuse, s.inc Reg.GATE_IMG_SKIP_CNT) else
  let ps := s.winParts 1 x
  ({ payload := x.payload, acted := !ps.isEmpty
     log := ps.map (fun p => .img p.1 p.2.2.2 ((x.payload.drop p.2.1).take p.2.2.1)) }, s)

/-! Mailboxes (R133; 12_locks_buffers_messages.md R275, R276) -/

/-- Bytes a message of a length takes in a payload. -/
def msgRoom (n : Nat) : Nat := 4 + (n + 3) / 4 * 4

/-- MBX_PUT. -/
def gateMbxPut (s : Chip) (x : Slot) : SlotOut × Chip :=
  let m := x.target.toNat
  let n := leNat (x.payload.take 4)
  if 64 ≤ m ∨ x.payload.length < 4 ∨ n = 0 ∨ 128 < n ∨ x.payload.length < msgRoom n ∨ s.mbxKind m ≠ 2 ∨
      s.mbxDepth m ≤ (s.mbx m).count + (s.mbx m).resv then (x.refuse, s)
  else
    match s.poolPop 62 with
    | none => (x.refuse, s.poolFail)
    | some (b, s) =>
      let s := (s.setMbx m { s.mbx m with resv := (s.mbx m).resv + 1 }).wrbs (bufAddr b) ((x.payload.drop 4).take n)
      ({ payload := x.payload, acted := true, log := [.mbxPut m b n] }, s)

/-- MBX_GET. -/
def gateMbxGet (s : Chip) (x : Slot) : SlotOut × Chip :=
  let m := x.target.toNat
  if 64 ≤ m ∨ s.mbxKind m ≠ 3 then (x.refuse, s) else
  match s.mbxPeek m with
  | none => (x.pass, s)
  | some (b, n) =>
    if x.payload.length < msgRoom n then (x.pass, s) else
    let bad := (List.range n).any (fun i => s.eccAt (bufAddr b + i) == 2)
    ({ payload := overBytes (overBytes x.payload 0 (natBytes 4 n)) 4 (s.rdbs (bufAddr b) n), acted := true
       flags := if bad then 16 else 0
       log := if s.gate.run.log.contains (.mbxGet m b) then [] else [.mbxGet m b] }, s)

/-! Tunnel, telemetry, events -/

/-- TUNNEL (15_wide_hub_tunnel.md R335, R336, R347): a payload too short for its down records and the fixed words is refused. -/
def gateTunnel (s : Chip) (x : Slot) : SlotOut × Chip :=
  let w := x.target.toNat
  let dlen := leNat (x.payload.take 2) % 8192
  if 256 ≤ w ∨ !s.flag Reg.WIDE_STAT_EN ∨ !s.serves w ∨ !s.active 51 ∨ x.payload.length < 12 + dlen then (x.refuse, s) else
  let t := s.fillUp w x.payload
  let dseq := leNat ((x.payload.drop 3).take 1)
  ({ payload := t.1, acted := true, log := [.tunnel w dseq (parseRecs 1024 ((x.payload.drop 4).take dlen))] }, t.2)

/-- TELEM (R130; 22_background_work.md R480, R482). -/
def gateTelem (s : Chip) (x : Slot) : SlotOut × Chip :=
  let me := s.get Reg.CHAIN_ADDR_STATION
  let t := x.target.toNat
  if !s.flag Reg.CHAIN_STAT_ADDR_VALID then (x.pass, s)
  else if bit x.flags.toNat 1 then
    if t ≠ me ∨ x.payload.length < 8 then (x.pass, s) else
    match s.telemChunk x.payload.length with
    | none => (x.pass, s)
    | some (b, n, off) => ({ payload := overBytes x.payload 0 b, acted := true, log := [.telem n off] }, s)
  else if t ≤ me ∧ 4 * (me - t) + 4 ≤ x.payload.length then
    ({ payload := overBytes x.payload (4 * (me - t)) (natBytes 4 (s.get Reg.BKG_HEALTH)), acted := true }, s)
  else (x.pass, s)

/-- Records that slots of the frames in hand have taken (24_events.md R500). -/
def Chip.eventsTaken (s : Chip) : List (List Nat) :=
  let of := fun (r : FrameRun) => r.log.flatMap (fun o => match o with | .events l => l | _ => [])
  of s.gate.run ++ (match s.gate.saved with | some r => of r | none => [])

/-- Fill the empty positions of an EVENT payload in order: positions left, records left; the payload and the records put. -/
def fillEvents : Nat → List (BitVec 8) → List (List Nat) → List (BitVec 8) × List (List Nat)
  | 0, p, _ => (p, [])
  | _ + 1, p, [] => (p, [])
  | k + 1, p, r :: t =>
    if leNat (p.take 4) = 0xFFFFFFFF ∧ 16 ≤ p.length then
      let u := fillEvents k (p.drop 16) t
      (r.flatMap (natBytes 4) ++ u.1, r :: u.2)
    else
      let u := fillEvents k (p.drop 16) (r :: t)
      (p.take 16 ++ u.1, u.2)

/-- EVENT. -/
def gateEvent (s : Chip) (x : Slot) : SlotOut × Chip :=
  let u := fillEvents (x.payload.length / 16) x.payload (s.evt.cq.filter (fun r => !s.eventsTaken.contains r))
  ({ payload := u.1, acted := !u.2.isEmpty, log := if u.2.isEmpty then [] else [.events u.2] }, s)

/-! Pours and delay (03_register_model.md R62, R63; 02_clocks_and_chain_time.md R37) -/

end Sys2Proof.Machine

namespace Sys2Proof

open Machine

/-- Mask and target of POUR_ARM and POUR; none in a payload below 8 bytes. -/
def Slot.pour (x : Slot) : Option (Nat × Nat) :=
  if x.payload.length < 8 then none else some (leNat (x.payload.take 2), leNat ((x.payload.drop 4).take 4))

end Sys2Proof

namespace Sys2Proof.Machine

/-- POUR_ARM: decided at the slot, and held from it (R136). -/
def gateArm (s : Chip) (x : Slot) : SlotOut × Chip :=
  match x.pour with
  | none => (x.refuse, s)
  | some (m, t) =>
    if s.mayArm m t (s.get Reg.CLK_CYC_NUM) then ({ payload := x.payload, acted := true, log := [.arm] }, s.armNow m t true)
    else (x.refuse, s)

/-- POUR: with WD, or for exactly the arm held; at or after the target the arm is withdrawn and the slot refused (R63). -/
def gatePour (s : Chip) (x : Slot) : SlotOut × Chip :=
  if bit x.flags.toNat 0 then
    if s.arm.on then ({ payload := x.payload, acted := true, log := [.withdraw] }, s) else (x.refuse, s)
  else match x.pour with
    | none => (x.refuse, s)
    | some (m, t) =>
      if !s.armFits m t then (x.refuse, s)
      else if later t (s.get Reg.CLK_CYC_NUM) then ({ payload := x.payload, acted := true, log := [.pour m t] }, s)
      else ({ x.refuse with log := [.withdraw] }, s)

/-- DELAY: every member adds its residence difference. -/
def gateDelay (s : Chip) (x : Slot) : SlotOut × Chip :=
  if x.payload.length < 8 then (x.refuse, s) else
  let acc := leNat (x.payload.take 4)
  ({ payload := overBytes x.payload 0 (natBytes 4 (unsigned 32 ((acc : Int) + s.residDiff))), acted := true
     log := [.delay acc (leNat ((x.payload.drop 4).take 4))] }, s)

/-! END and commit (R135, R136, R145) -/

/-- A deferred read is made after the commit and held (R134, step 2); words already held for that place are lost. -/
def Chip.deferFetch (s : Chip) (frame off : Nat) (hdr : List Nat) (a n : Nat) : Chip :=
  let ws := (List.range n).map (fun i => (a + 4 * i) % 2 ^ 32)
  let bad := s.gatePoison ws
  let t := s.gateReads ws
  let s := t.2
  let same := fun (d : Deferred) => d.frame == frame && d.off == off && d.hdr == hdr
  let s := if s.gate.held.any same then s.inc Reg.GATE_DEF_LOST_CNT else s
  s.setGate { s.gate with held := s.gate.held.filter (fun d => !same d) ++ [⟨frame, off, hdr, s.get Reg.CLK_CYC_NUM, t.1, bad⟩] }

/-- A logged register write acts; one that meanwhile turned STATE_REJECT or busy counts (R136). -/
def Chip.commitWrite (s : Chip) (a v : Nat) : Chip :=
  let d := s.busWrite .gate a v
  match d.1 with
  | .reject => d.2.inc Reg.GATE_LATE_REJ_CNT
  | .busy =>
    (match regAt a with
    | some (l, _) => d.2.reject 34 l.blk l.inst l.off
    | none => d.2).inc Reg.GATE_LATE_REJ_CNT
  | _ => d.2

/-- A logged delay slot: the first of a pair brings A_k and an L0 of 0, the second L0 (log entry 24). -/
def Chip.commitDelay (s : Chip) (acc l0 : Nat) : Chip := if l0 = 0 then s.delayA acc else s.delayB l0

/-- One entry of the log acts, the deferred reads apart. Nothing acts once the core die is in reset. -/
def Chip.commitOp (s : Chip) (o : LogOp) : Chip :=
  if !s.coreUp then s else
  match o with
  | .write a v => s.commitWrite a v
  | .img w x b => s.gateOut w x b
  | .mbxPut m buf n =>
    (((s.setMbx m { s.mbx m with resv := (s.mbx m).resv - 1 }).mbxPush m buf n).mbxServe m 32).poolServe 32
  | .mbxGet m buf => if (s.mbxPeek m).map Prod.fst = some buf then ((s.mbxPop m).poolPush buf).poolServe 32 else s
  | .propose => s
  | .arm => { s with arm := { s.arm with held := false } }
  | .pour m t =>
    if !s.armFits m t then s
    else if later t (s.get Reg.CLK_CYC_NUM) then s.armAccept else s.armWithdraw
  | .withdraw => s.armWithdraw
  | .delay acc l0 => s.commitDelay acc l0
  | .defer _ _ _ _ _ => s
  | .events l => s.setEvt { s.evt with cq := s.evt.cq.filter (fun r => !l.contains r) }
  | .tunnel w dseq recs => s.tunnelCommit w dseq recs
  | .telem n off => s.telemCommit n off

/-- The deferred reads of a log. -/
def Chip.commitRead (s : Chip) (o : LogOp) : Chip :=
  if !s.coreUp then s else
  match o with
  | .defer f off hdr a n => s.deferFetch f off hdr a n
  | _ => s

/-- A good frame commits (R135). -/
def Chip.frameCommit (s : Chip) (l : List LogOp) : Chip := (s.each l (fun s o => s.commitOp o)).each l (fun s o => s.commitRead o)

/-- The frame at its END on port p: what its slots left of it, or a frame without slots. -/
def Chip.runAtEnd (s : Chip) (p : Nat) (f : FrameTail) : FrameRun :=
  let r := s.gate.run
  let r := if r.begun then r else { r with begun := true, hdr := f.hdr.toNat, rx := natBytes 4 f.hdr.toNat }
  { r with rx := r.rx ++ f.rest, shut := r.shut || s.gateShut p, broken := r.broken || f.broken || f.misplaced != 0 }

/-- Does a frame end where its length says, with its header in order (R125)? -/
def FrameRun.wellFormed (r : FrameRun) : Bool := hdrOk r.hdr && r.rx.length + 4 == 4 * (r.hdr / 65536)

/-- The CRC-32 of the frame as received (R124). -/
def FrameRun.crc (r : FrameRun) : Nat := (crc32 r.rx).toNat

/-- Does a frame commit (R135, R145): no K30.7 in it, its CRC-32 good, its form in order, no failed slot header? -/
def FrameRun.good (r : FrameRun) (f : FrameTail) : Bool := r.wellFormed && !r.broken && f.crc.toNat == r.crc && !r.stop

/-- The CRC-32 of the bytes this node sent of the frame. -/
def FrameRun.outCrc (r : FrameRun) (f : FrameTail) : Nat := (crc32 (r.rx.take 4 ++ r.fwd.flatMap FwdSlot.bytes ++ f.rest)).toNat

/-- A frame leaves: the gate is done with it. -/
def Chip.frameSent (s : Chip) (w : FwdFrame) : Chip :=
  s.setGate { s.gate with run := {}, last := some w, urgEnd := s.gate.saved.isSome }

/-- FRAME_END (R125, R135, R145): a good frame commits and goes on with the CRC-32 of what was sent; any other goes on with its
complement, and its log is discarded. One the gate left alone goes on as it came. -/
def Chip.frameEnd (s : Chip) (f : FrameTail) : Chip :=
  match s.gatePort with
  | none => s
  | some p =>
    let r := s.runAtEnd p f
    let s := s.codeGroups p f.misplaced.toNat
    if r.shut then (s.frameSent ⟨r.hdr, r.fwd, f.rest, f.crc.toNat⟩).logDrop r else
    let s := s.frameSent ⟨r.hdr, r.fwd, f.rest, if r.good f then r.outCrc f else 0xFFFFFFFF - r.outCrc f⟩
    let s := s.inc Reg.GATE_FRAME_CNT
    let s := if r.wellFormed then s else s.inc Reg.GATE_MALFORM_CNT
    if r.good f then s.frameCommit r.log
    else (s.logDrop r).inc (if !r.broken && f.crc.toNat == 0xFFFFFFFF - r.crc then Reg.GATE_STOMP_CNT else Reg.GATE_FCRC_CNT)

/-- May PRE stand here (05_gleshline_link.md R99): in a normal frame that has had no insertion? -/
def Chip.preOk (s : Chip) : Bool := s.gate.saved.isNone && !s.gate.run.hadUrg

/-- URGENT_PRE (R143): the normal frame is saved; inside an urgent frame, or a second time in a normal one, K30.7 replaces it
(05_gleshline_link.md R99). One off a multiple of 32 bytes comes with the frame's END. -/
def Chip.urgentPre (s : Chip) : Chip :=
  match s.gatePort with
  | none => s
  | some p =>
    if s.preOk then
      ((s.setGate { s.gate with saved := some { s.gate.run with hadUrg := true }, run := {}, urgEnd := false }).put Reg.GATE_STAT_SAVED 1).inc
        Reg.GATE_PRE_CNT
    else s.codeBad p

/-- URGENT_RES (R143): behind an urgent END the normal frame goes on where it stood; at any other place K30.7 replaces it
(05_gleshline_link.md R99). -/
def Chip.urgentRes (s : Chip) : Chip :=
  match s.gatePort with
  | none => s
  | some p =>
    match s.gate.saved with
    | some r =>
      if s.gate.urgEnd then (s.setGate { s.gate with run := r, saved := none, urgEnd := false }).put Reg.GATE_STAT_SAVED 0
      else s.codeBad p
    | none => s.codeBad p

end Sys2Proof.Machine
end

