-- ==== Sys2Proof/Machine/Mgmt.lean ====
section
/-! DEFINITION. The management function (14_local_hub.md R321 to R326): requests, held and executed in order, and their responses. -/

namespace Sys2Proof.Machine

/-- Statuses of Table HUB-5 for the outcome of one access. -/
def Acc.status : Acc → Nat
  | .done => 0 | .reject => 1 | .refused => 2 | .busy => 3

/-- The management state set. -/
def Chip.setMgmt (s : Chip) (m : Mgmt) : Chip := { s with mgmt := m }

/-- A request ends: its response, MGMT_REQ_CNT, and MGMT_ERR_CNT for a status other than OK (R322, R326). -/
def Chip.mgmtEnd (s : Chip) (q : MgmtReq) (status : Nat) (data : List (BitVec 8)) : Chip :=
  let s := s.setMgmt { s.mgmt with run := none, resp := some ⟨q.op, status, q.tag, data⟩ }
  let s := s.inc Reg.HUB_MGMT_REQ_CNT
  if status = 0 then s else s.inc Reg.HUB_MGMT_ERR_CNT

/-- May the management function make this access: F52 is ACTIVE, or the word is in the FLASK block, which the warden serves
(13_flasks_and_warden.md R295)? -/
def Chip.mgmtMay (s : Chip) (a : Nat) : Bool :=
  s.active 52 || (match regAt a with | some (l, _) => l.blk == 8 | none => false)

/-- The runner whose MGET an address is. -/
def mgetRunner (a : Nat) : Option Nat :=
  match regAt a with | some (l, false) => if l.blk = 6 ∧ l.off = 0x14 then some l.inst else none | _ => none

/-- Does the management function wait at a runner for the word at an address (R251, R323)? -/
def Chip.mgetWaits (s : Chip) (a : Nat) : Bool :=
  match mgetRunner a with | some q => (s.runner q).waiters.contains 32 | none => false

/-- The words of a READ, n of them from address a, with the bytes read so far (R323). -/
def mgmtReads (q : MgmtReq) : Nat → Nat → List (BitVec 8) → Chip → Chip
  | 0, _, acc, s => s.mgmtEnd q 0 acc
  | n + 1, a, acc, s =>
    if !s.mgmtMay a then s.mgmtEnd q 2 acc else
    let x := s.busRead .mgmt a
    let s := { x.2.2 with outcome := x.2.2.outcome.put 0 32 x.1.code }
    if x.1 ≠ .done then s.mgmtEnd q x.1.status acc
    else if s.mgetWaits a then s.setMgmt { s.mgmt with run := some (q, acc) }
    else mgmtReads q n ((a + 4) % 2 ^ 32) (acc ++ natBytes 4 x.2.1) s

/-- The words of a WRITE; the length of its response counts the bytes done (R323). A write that takes the core die into reset ends
the request with it. -/
def mgmtWrites (q : MgmtReq) : List (BitVec 32) → Nat → Nat → Chip → Chip × Nat × Nat
  | [], _, n, s => (s, 0, n)
  | w :: t, a, n, s =>
    if !s.mgmtMay a then (s, 2, n) else
    let d := s.busWrite .mgmt a w.toNat
    let s := { d.2 with outcome := d.2.outcome.put 0 32 d.1.code }
    if d.1 ≠ .done ∨ !s.coreUp then (s, d.1.status, n) else mgmtWrites q t ((a + 4) % 2 ^ 32) (n + 4) s

/-- LEN is a multiple of 4, at most 4096 (Table HUB-3). -/
def mgmtLen (n : Nat) : Bool := n % 4 == 0 && decide (n ≤ 4096)

/-- Execute one request: a malformed header first (Table HUB-5), then F52 (R295), then the operation. -/
def Chip.mgmtExec (s : Chip) (q : MgmtReq) : Chip :=
  if !mgmtLen q.len then s.mgmtEnd q 5 []
  else match q.op with
    | 1 => mgmtReads q (q.len / 4) q.addr [] s
    | 2 =>
      let t := mgmtWrites q (bytesWords q.data) q.addr 0 s
      if t.1.coreUp then
        let s := t.1.mgmtEnd q t.2.1 []
        s.setMgmt { s.mgmt with doneLen := t.2.2 }
      else t.1
    | 4 =>
      if !s.active 52 then s.mgmtEnd q 2 [] else
      let t := s.imageBegin q.addr
      t.2.mgmtEnd q (b2n (!t.1)) []
    | 5 =>
      if !s.active 52 then s.mgmtEnd q 2 [] else
      let t := s.imageData q.addr q.data
      t.2.mgmtEnd q (b2n (!t.1)) []
    | 6 =>
      if !s.active 52 then s.mgmtEnd q 2 [] else
      let t := s.imageEnd
      if t.1 then t.2.setMgmt { t.2.mgmt with run := some (q, []) } else t.2.mgmtEnd q 1 []
    | 7 => s.mgmtEnd q (if s.active 52 then 0 else 2) []
    | _ => s.mgmtEnd q 5 []

/-- The address of the word a READ with some bytes read waits for. -/
def MgmtReq.nextAddr (q : MgmtReq) (acc : List (BitVec 8)) : Nat := (q.addr + acc.length) % 2 ^ 32

/-- The request in hand goes on where what it waits for has come: the item of MGET, its 10 ms, its refusal, the fence of F52 (R251,
R323), or the outcome of the boot ROM's check (R324). -/
def Chip.mgmtResume (s : Chip) : Chip :=
  match s.mgmt.run with
  | none => s
  | some (q, acc) =>
    if q.op = 6 then
      let st := s.get Reg.SYS_BOOT_STATE
      if st = 4 then s else s.mgmtEnd q (if st = 5 then 0 else 1) []
    else if !s.mgmtMay (q.nextAddr acc) then s.mgmtEnd q 2 acc
    else if s.mgetWaits (q.nextAddr acc) then s
    else
      let c := s.outcome.get 0 32
      if c ≠ 0 then s.mgmtEnd q c acc
      else mgmtReads q (q.len / 4 - (acc.length / 4 + 1)) ((q.nextAddr acc + 4) % 2 ^ 32) (acc ++ natBytes 4 (s.lastRead.get 0 32)) s

/-- The management function at work, a request at a time (R322): the one in hand, or else the oldest held. -/
def Chip.mgmtDrive (s : Chip) : Chip :=
  if !s.coreUp then s else
  match s.mgmt.run, s.mgmt.held with
  | none, q :: t => (s.setMgmt { s.mgmt with held := t }).mgmtExec q
  | _, _ => s.mgmtResume

/-- A request arrives at endpoint 0x01 (R321, R322): behind one in hand and two held it is answered NAK. -/
def Chip.mgmtTake (s : Chip) (q : MgmtReq) : Chip :=
  if !s.usbOn .mgmt then s
  else if bit (s.dev .mgmt).halts 1 then s.answer .stall
  else if s.mgmt.run.isSome && decide (2 ≤ s.mgmt.held.length) then s.answer .nak
  else ((s.setMgmt { s.mgmt with held := s.mgmt.held ++ [q] }).answer .ack).mgmtDrive

end Sys2Proof.Machine
end

