-- ==== Sys2Proof/Machine/CmdOps.lean ====
section
/-! DEFINITION. Accesses that a command makes on its own: register writes and captures, code RAM, instrument ports, hardware
producers' packets, and requests on C4. -/

namespace Sys2Proof.Machine

/-- Bytes of an access width (03_register_model.md Table REGS-1). -/
def accessBytes (w : Access) : Nat := match w with | .byte => 1 | .half => 2 | .word => 4

/-- A write at an address by a requester (R50, R53): the management function and the gate write words alone; a fenced management
function reaches the FLASK block alone (13_flasks_and_warden.md R295); the gate, what its slots may (06_cycle_frames_and_gate.md R134, R135). -/
def Chip.writeBy (s : Chip) (r : Requester) (n a v : Nat) : Did :=
  match r with
  | .engine e => s.engStore e a (natBytes n v)
  | .mgmt => if n ≠ 4 ∨ !s.mgmtMay a then (.refused, s) else s.busWrite .mgmt a v
  | .gate => if n ≠ 4 ∨ s.gateRefused true a then (.refused, s) else s.busWrite .gate a v

/-- The requester of an access learns its outcome, unless the access took the core die into reset. -/
def Chip.respondUp (d : Did) (r : Requester) (a : Nat) : Chip := if d.2.coreUp then d.2.respond r a d.1 else d.2

/-- REGISTER_WRITE. -/
def Chip.regWriteBy (s : Chip) (r : Requester) (w : Access) (a v : Nat) : Chip :=
  if s.coreUp then Chip.respondUp (s.writeBy r (accessBytes w) a v) r a else s

/-- LO_READ_CAPTURE (R68): a read of a _LO register; the word is the requester's last read. -/
def Chip.loCapture (s : Chip) (r : Requester) (a : Nat) : Chip :=
  if !s.coreUp then s else
  match regAt a with
  | none => s
  | some (l, act) =>
    if !loReg l then s
    else if r = .mgmt ∧ !s.mgmtMay a then s.respond r a .refused
    else
      let d := s.readReg r l act
      ({ d.2.2 with lastRead := d.2.2.lastRead.put 0 r.code d.2.1 }).respond r a d.1

/-- CODE_RAM_WRITE (09_sprue_engines.md R210). -/
def Chip.codeWriteBy (s : Chip) (r : Requester) (e w : Nat) (v : BitVec 32) : Chip :=
  if !s.coreUp then s
  else if r = .mgmt ∧ !s.active 52 then s.respond r (codeAddr e w) .refused
  else Chip.respondUp (s.codeWrite r e w v) r (codeAddr e w)

/-! Instrument ports (09_sprue_engines.md R204 to R206) -/

/-- Port numbers of a Cuff and of a CAN controller (Table ENG-5). -/
def cuffPort (c off : Nat) : Nat := 0x2000 + 0x100 * c + off
def canPort (c off : Nat) : Nat := 0x5000 + 0x100 * c + off

/-- A port write by a running engine, as a command of its own: trap 3 without the claim. -/
def Chip.portDoBy (s : Chip) (e : Fin 32) (p v : Nat) : Chip :=
  if !s.coreUp || s.engState e.val != 1 then s
  else if portReserved p || s.claim e.val p != 2 then s.trap e.val 3 (some p)
  else
    let d := s.portWrite e.val p v
    d.2.respond (.engine e) p d.1

/-! Packets of hardware producers (11_runners.md R248, R255) -/

/-- Requester code and flasks of a hardware producer (12_locks_buffers_messages.md Table SYNC-1). -/
def producerOf (h : HwProducer) : Nat × List Nat :=
  match h with
  | .meas => (35, [45, 46, 47])
  | .can => (36, [43, 44])
  | .evt => (37, [])

/-- HARDWARE_PUT: a packet of one producer; a producer with several flasks puts as the one the runner names, where it names one of
them. -/
def Chip.hwPacket (s : Chip) (q : Nat) (h : HwProducer) (packet : List (BitVec 32)) : Chip :=
  if !s.coreUp || packet.isEmpty then s else
  let p := producerOf h
  let own := s.wk (Reg.RUN_OWNER_PROD q)
  let f := if p.2.contains own then some own else p.2.head?
  let d := s.hwPut q p.1 f (packetItems (packet.map BitVec.toNat))
  if !d.1 && h == .evt then d.2.inc Reg.EVT_RDROP_CNT else d.2

/-! C4 -/

/-- SOF_RECEIVE (14_local_hub.md R314): stamped by the hub on C4, and used by a head (02_clocks_and_chain_time.md R42, R43). -/
def Chip.sofIn (s : Chip) (frame : Nat) : Chip :=
  if s.coreUp && decide (1 ≤ s.upState) && decide (s.upState ≤ 3) then (s.hubSof frame).sofHead else s

/-- A descriptor, cut to the length asked for; STALL where there is none. -/
def Chip.giveDescriptor (s : Chip) (d : UsbDev) (o : Option (List Nat)) (n : Nat) : Chip :=
  match o with
  | some l => s.answerData (bytesOf l) n
  | none => s.stalls d

/-- Is a request of Table HUB-2 or of Table WIDE-5 listed for a device (R306)? Request numbers and selectors are those of USB 2.0 and its
LPM ECN (PRESUMED, log entry 10). -/
def hubListed (d : UsbDev) (rt request value : Nat) : Bool :=
  let std := rt / 32 % 4 == 0 && [0, 1, 3, 5, 6, 8, 9, 10, 11].contains request
  let hub := match rt, request with
    | 0xA0, 0 => true
    | 0x20, 1 => decide (value ≤ 1)
    | 0xA0, 6 => true
    | 0xA3, 0 => true
    | 0x23, 3 => [2, 4, 8, 21].contains value
    | 0x23, 1 => [1, 2, 8, 10, 16, 17, 18, 19, 20, 23].contains value
    | 0x23, 8 => true
    | 0x23, 9 => true
    | 0xA3, 10 => true
    | 0x23, 11 => true
    | _, _ => false
  std || (d != .mgmt && hub) || (d == .wide && rt == 0xC0 && request == 1)

/-- GET_TT_STATE: what a translator shows of itself, the spec does not say, a free value of four bytes (log entry 10). -/
def Chip.ttState (s : Chip) : Chip := (s.answer (.data (natBytes 4 s.free))).drew

/-- UPSTREAM_BUS_RESET (R320): of the hub attached on C4, whose pair must be in service (R299) and which R328 must not hold detached. -/
def Chip.busReset (s : Chip) (hs : Bool) : Chip :=
  if !s.coreUp || !s.hub.pair || s.wide.detach then s
  else if s.presenting then s.wideBusReset hs
  else if s.flag Reg.HUB_STAT_EN then s.hubBusReset hs
  else s

/-- The number of a rail, in the order of R73. -/
def railNum (r : Rail) : Nat := match r with | .vaux => 0 | .vlogic => 1 | .vcore => 2

end Sys2Proof.Machine
end

