-- ==== Sys2Proof/Machine/State.lean ====
section
/-! DEFINITION. The state of the block with its queue of waiting commands, and the reasons a step could stop. -/

namespace Sys2Proof.Machine

/-- Everything the block holds, and the commands that wait. -/
structure State where
  /-- The block. -/
  chip : Chip := {}
  /-- The commands that wait, first in, first out. Reset: none. -/
  pending : List Instr := []
deriving DecidableEq, Repr

/-- Faults. No meaning raises one. -/
inductive Fault where
  | none_   -- raised by nothing: every effect the spec gives is a next state (safe)
deriving DecidableEq, Repr

/-- Refusals. -/
inductive Refusal where
  | notModelled (mnemonic : String)   -- raised by an arm of exec whose command has no meaning yet (safe)
deriving DecidableEq, Repr

/-- The block right after reset, the trunk POR (04_power_up_to_service.md R70): both dies in reset, every rail off. -/
def State.reset : State := {}

end Sys2Proof.Machine
end

