-- ==== Sys2Proof/Machine/Run.lean ====
section
/-! DEFINITION. How a command's effect on the block becomes a meaning. -/

namespace Sys2Proof.Machine

/-- A command that has an effect on the block: the next state, its queue as it is. -/
def State.run (s : State) (f : Chip → Chip) : Host.Outcome State Fault Refusal := .next { s with chip := f s.chip }

end Sys2Proof.Machine
end

