-- ==== Sys2Proof/Machine/ExecBkg.lean ====
section
/-! DEFINITION. The meanings of the commands of 22_background_work.md: each the effect of one row on the block. -/

namespace Sys2Proof.Machine

/-- SCRUB_TICK (R468). -/
def execScrubTick (m : EccMemory) (found : EccState) (s : State) : Host.Outcome State Fault Refusal :=
  s.run (fun s => s.scrubTick m found)

/-- SCRUB_REWRITE (R469). -/
def execScrubRewrite (foregroundWrite : Bool) (s : State) : Host.Outcome State Fault Refusal :=
  s.run (fun s => s.scrubRewrite foregroundWrite)

/-- NOR_FOREGROUND_REQUEST (R472). -/
def execNorForegroundRequest (s : State) : Host.Outcome State Fault Refusal :=
  s.run (fun s => if s.coreUp then s.norForeground else s)

/-- JOURNAL_APPEND (R474). -/
def execJournalAppend (programOk : Bool) (s : State) : Host.Outcome State Fault Refusal :=
  s.run (fun s => s.journalAppend programOk)

/-- JRNL_KEY (R477). -/
def execJrnlKey (r : Requester) (v : BitVec 32) (s : State) : Host.Outcome State Fault Refusal :=
  s.run (fun s => s.command r Reg.BKG_JRNL_KEY_KEY.addr (fun s => s.jStageKey v.toNat))

/-- JRNL_DATA (R477). -/
def execJrnlData (r : Requester) (j : Fin 4) (w : BitVec 32) (s : State) : Host.Outcome State Fault Refusal :=
  s.run (fun s => s.command r (Reg.BKG_JRNL_DATA j.val).addr (fun s => s.jStageData j.val w.toNat))

/-- JRNL_PUT (R477). -/
def execJrnlPut (r : Requester) (s : State) : Host.Outcome State Fault Refusal :=
  s.run (fun s => s.command r Reg.BKG_JRNL_PUT.addr (fun s => s.jrnlGo r.code))

/-- JRNL_DURABLE (R477). -/
def execJrnlDurable (s : State) : Host.Outcome State Fault Refusal :=
  s.run (fun s => s.jrnlDurable)

/-- JOURNAL_FORMAT (R476). -/
def execJournalFormat (s : State) : Host.Outcome State Fault Refusal :=
  s.run (fun s => s.journalFormat)

/-- LOG_PAGE_PROGRAM (R478). -/
def execLogPageProgram (s : State) : Host.Outcome State Fault Refusal :=
  s.run (fun s => s.logPage)

/-- LOG_IDX (R479). -/
def execLogIdx (r : Requester) (n : BitVec 32) (s : State) : Host.Outcome State Fault Refusal :=
  s.run (fun s => s.command r Reg.BKG_LOG_IDX.addr (fun s => s.logStart r.code n.toNat))

/-- LOG_READ_DONE (R479). -/
def execLogReadDone (s : State) : Host.Outcome State Fault Refusal :=
  s.run (fun s => s.logDone)

/-- MARGIN_SCAN_START (R484). -/
def execMarginScanStart (s : State) : Host.Outcome State Fault Refusal :=
  s.run (fun s => s.marginDue)

end Sys2Proof.Machine
end

