-- ==== Sys2Proof/Machine/ExecCan.lean ====
section
/-! DEFINITION. The meanings of the commands of 21_isobus_bridge.md: each the effect of one row on the block. -/

namespace Sys2Proof.Machine

/-- CAN_ENABLE (R452). -/
def execCanEnable (r : Requester) (c : Fin 2) (s : State) : Host.Outcome State Fault Refusal :=
  s.run (fun s => s.command r (Reg.CAN_CTL_ENABLE c.val).addr (fun s => s.canEnable r.code c.val))

/-- CAN_INTEGRATED (R453). -/
def execCanIntegrated (c : Fin 2) (s : State) : Host.Outcome State Fault Refusal :=
  s.run (fun s => s.canIntegrated c.val)

/-- CAN_DISABLE (R462). -/
def execCanDisable (r : Requester) (c : Fin 2) (s : State) : Host.Outcome State Fault Refusal :=
  s.run (fun s => s.command r (Reg.CAN_CTL_DISABLE c.val).addr (fun s => s.canDisable c.val))

/-- CAN_RECOVER (R454). -/
def execCanRecover (r : Requester) (c : Fin 2) (s : State) : Host.Outcome State Fault Refusal :=
  s.run (fun s => s.command r (Reg.CAN_CTL_RECOVER c.val).addr (fun s => s.canRecover r.code c.val))

/-- CAN_BUS_OFF (R454). -/
def execCanBusOff (c : Fin 2) (s : State) : Host.Outcome State Fault Refusal :=
  s.run (fun s => s.canBusOff c.val)

/-- CAN_BUS_OFF_RECOVERED (R454). -/
def execCanBusOffRecovered (c : Fin 2) (s : State) : Host.Outcome State Fault Refusal :=
  s.run (fun s => s.canRecovered c.val)

/-- CAN_FRAME_RECEIVE (R456). -/
def execCanFrameReceive (c : Fin 2) (f : CanFrame) (s : State) : Host.Outcome State Fault Refusal :=
  s.run (fun s => s.canReceive c.val f)

/-- CAN_TX_BUFFER_WRITE (R458). -/
def execCanTxBufferWrite (e : Fin 32) (c : Fin 2) (t : Fin 8) (w : Fin 4) (v : BitVec 32) (s : State) : Host.Outcome State Fault Refusal :=
  s.run (fun s => s.portDoBy e (canPort c.val (16 * t.val + w.val)) v.toNat)

/-- CAN_TX_GO (R458). -/
def execCanTxGo (e : Fin 32) (c : Fin 2) (t : Fin 8) (s : State) : Host.Outcome State Fault Refusal :=
  s.run (fun s => s.portDoBy e (canPort c.val (16 * t.val + 4)) 0)

/-- CAN_TX_ABORT (R459). -/
def execCanTxAbort (e : Fin 32) (c : Fin 2) (t : Fin 8) (s : State) : Host.Outcome State Fault Refusal :=
  s.run (fun s => s.portDoBy e (canPort c.val (16 * t.val + 5)) 0)

/-- CAN_TX_COMPLETE (R459). -/
def execCanTxComplete (c : Fin 2) (outcome : CanTxOutcome) (s : State) : Host.Outcome State Fault Refusal :=
  s.run (fun s => s.canTxDone c.val outcome)

/-- SESSION_STAGE (R460). -/
def execSessionStage (e : Fin 32) (c : Fin 2) (idx : Fin 8) (w : Fin 2) (v : BitVec 32) (s : State) : Host.Outcome State Fault Refusal :=
  s.run (fun s => s.portDoBy e (canPort c.val (0x80 + 4 * idx.val + w.val)) v.toNat)

/-- SESSION_OPEN (R460). -/
def execSessionOpen (e : Fin 32) (c : Fin 2) (idx : Fin 8) (size : BitVec 32) (s : State) : Host.Outcome State Fault Refusal :=
  s.run (fun s => s.portDoBy e (canPort c.val (0x82 + 4 * idx.val)) size.toNat)

/-- SESSION_CLOSE (R462). -/
def execSessionClose (e : Fin 32) (c : Fin 2) (idx : Fin 8) (s : State) : Host.Outcome State Fault Refusal :=
  s.run (fun s => s.portDoBy e (canPort c.val (0x83 + 4 * idx.val)) 0)

/-- SESSION_TIMEOUT (R462). -/
def execSessionTimeout (c : Fin 2) (idx : Fin 8) (s : State) : Host.Outcome State Fault Refusal :=
  s.run (fun s => s.sessTimeout c.val idx.val)

/-- CAN_BUS_ERROR (R454). -/
def execCanBusError (c : Fin 2) (dominantAfterFlag : Bool) (s : State) : Host.Outcome State Fault Refusal :=
  s.run (fun s => s.canBusError c.val dominantAfterFlag)

end Sys2Proof.Machine
end

