-- ==== Sys2Proof/Machine/ExecChain.lean ====
section
/-! DEFINITION. The meanings of the commands of 07_chain_topology_and_heads.md: each the effect of one row on the block. -/

namespace Sys2Proof.Machine

/-- ASSIGN_UID0 (R154). -/
def execAssignUid0 (r : Requester) (w : BitVec 32) (s : State) : Host.Outcome State Fault Refusal :=
  s.run (fun s => s.command r Reg.CHAIN_ASSIGN_UID0.addr (fun s => s.assignUid false w.toNat))

/-- ASSIGN_UID1 (R154). -/
def execAssignUid1 (r : Requester) (w : BitVec 32) (s : State) : Host.Outcome State Fault Refusal :=
  s.run (fun s => s.command r Reg.CHAIN_ASSIGN_UID1.addr (fun s => s.assignUid true w.toNat))

/-- ASSIGN (R154). -/
def execAssign (r : Requester) (w : BitVec 32) (s : State) : Host.Outcome State Fault Refusal :=
  s.run (fun s => s.command r Reg.CHAIN_ASSIGN_STATION.addr (fun s => s.assign r.code w.toNat))

/-- STICKY_SAVE (R155). -/
def execStickySave (s : State) : Host.Outcome State Fault Refusal :=
  s.run (fun s => s.stickySave)

/-- STICKY_CLR (R155). -/
def execStickyClr (r : Requester) (s : State) : Host.Outcome State Fault Refusal :=
  s.run (fun s => s.command r Reg.CHAIN_STICKY_CLR.addr (fun s => s.stickyClr))

/-- DETACH (R164). -/
def execDetach (r : Requester) (cycle : BitVec 32) (s : State) : Host.Outcome State Fault Refusal :=
  s.run (fun s => s.command r Reg.CHAIN_DETACH.addr (fun s => if cycle = 0 then s.detachEnd else s.detach r.code cycle.toNat))

/-- DETACH_EXECUTE (R164). -/
def execDetachExecute (s : State) : Host.Outcome State Fault Refusal :=
  s.run (fun s => s.detachExecute)

/-- DETACH_END (R164). -/
def execDetachEnd (r : Requester) (s : State) : Host.Outcome State Fault Refusal :=
  s.run (fun s => s.command r Reg.CHAIN_DETACH.addr (fun s => s.detachEnd))

/-- EPOCH_START (R166). -/
def execEpochStart (s : State) : Host.Outcome State Fault Refusal :=
  s.run (fun s => s.epochStart)

/-- CKPT_CHUNK (R168). -/
def execCkptChunk (r : Requester) (w : BitVec 32) (s : State) : Host.Outcome State Fault Refusal :=
  s.run (fun s => s.command r (Reg.CHAIN_CKPT_IN 63).addr (fun s => s.ckptChunk r.code w.toNat))

/-- RESERVE_TAKEOVER (R169). -/
def execReserveTakeover (s : State) : Host.Outcome State Fault Refusal :=
  s.run (fun s => s.takeover)

/-- REV_Q_LOAD (R171). -/
def execRevQLoad (r : Requester) (q : BitVec 32) (s : State) : Host.Outcome State Fault Refusal :=
  s.run (fun s => s.command r Reg.CHAIN_REV_Q.addr (fun s => s.revQLoad q.toNat))

/-- HANDBACK_GO (R172). -/
def execHandbackGo (r : Requester) (lead : BitVec 4) (s : State) : Host.Outcome State Fault Refusal :=
  s.run (fun s => s.command r Reg.CHAIN_HANDBACK_GO.addr (fun s => s.handbackGo r.code lead.toNat))

/-- HANDBACK_START (R172). -/
def execHandbackStart (s : State) : Host.Outcome State Fault Refusal :=
  s.run (fun s => s.handbackStart)

/-- FOLDED_CYC_ARRIVAL (R171). -/
def execFoldedCycArrival (p : Fin 2) (x : FoldedCyc) (s : State) : Host.Outcome State Fault Refusal :=
  s.run (fun s => s.foldedCyc p.val x.loopPs.toNat x.backPs.toNat)

end Sys2Proof.Machine
end

