-- ==== Sys2Proof/Machine/ExecClock.lean ====
section
/-! DEFINITION. The meanings of the commands of 02_clocks_and_chain_time.md: each the effect of one row on the block. -/

namespace Sys2Proof.Machine

/-- CYC_SEND (R100). -/
def execCycSend (s : State) : Host.Outcome State Fault Refusal :=
  s.run (fun s => s.cycSend)

/-- CYC_RECEIVE (R35). -/
def execCycReceive (p : Fin 2) (body : List (BitVec 8)) (s : State) : Host.Outcome State Fault Refusal :=
  s.run (fun s => s.cycReceive p.val body)

/-- HOLDOVER_ENTRY (R35). -/
def execHoldoverEntry (s : State) : Host.Outcome State Fault Refusal :=
  s.run (fun s => s.holdoverEntry)

/-- LOCAL_MARK (R45). -/
def execLocalMark (s : State) : Host.Outcome State Fault Refusal :=
  s.run (fun s => s.localMark)

/-- USB_LOCK_LOSS (R43). -/
def execUsbLockLoss (s : State) : Host.Outcome State Fault Refusal :=
  s.run (fun s => s.usbLockLoss)

/-- APPLY_INSTANT (R46). -/
def execApplyInstant (s : State) : Host.Outcome State Fault Refusal :=
  s.run (fun s => s.applyInstant)

/-- FIELD_POUR_APPLY (R60). -/
def execFieldPourApply (s : State) : Host.Outcome State Fault Refusal :=
  s.run (fun s => s.fieldPourApply)

/-- LOCAL_POUR (R60). -/
def execLocalPour (r : Requester) (mask : BitVec 16) (s : State) : Host.Outcome State Fault Refusal :=
  s.run (fun s => s.command r Reg.SYS_POUR.addr (fun s => s.localPour r.code mask.toNat))

/-- WITHDRAW (R61). -/
def execWithdraw (r : Requester) (mask : BitVec 16) (s : State) : Host.Outcome State Fault Refusal :=
  s.run (fun s => s.command r Reg.SYS_WITHDRAW.addr (fun s => s.withdrawGo r.code mask.toNat))

/-- REFILL_COMPLETE (R59). -/
def execRefillComplete (g : Fin 16) (s : State) : Host.Outcome State Fault Refusal :=
  s.run (fun s => s.refillDone g.val)

/-- ARMED_POUR (R65). -/
def execArmedPour (s : State) : Host.Outcome State Fault Refusal :=
  s.run (fun s => s.armedPour)

/-- POUR_LAPSE (R64). -/
def execPourLapse (s : State) : Host.Outcome State Fault Refusal :=
  s.run (fun s => s.pourLapse)

/-- CH_GO (R66). -/
def execChGo (r : Requester) (v : BitVec 32) (s : State) : Host.Outcome State Fault Refusal :=
  s.run (fun s => s.command r Reg.SYS_CH_GO_MASK.addr (fun s => s.chGo r.code v.toNat))

end Sys2Proof.Machine
end

