-- ==== Sys2Proof/Machine/ExecCuff.lean ====
section
/-! DEFINITION. The meanings of the commands of 16_cuffs_type_c_pd.md: each the effect of one row on the block. -/

namespace Sys2Proof.Machine

/-- CC_CHANGE (R352). -/
def execCcChange (c : Fin 5) (cc1 cc2 : CcPin) (s : State) : Host.Outcome State Fault Refusal :=
  s.run (fun s => s.ccChange c.val cc1 cc2)

/-- TC_TIMER_EXPIRE (R352). -/
def execTcTimerExpire (c : Fin 5) (t : TcTimer) (s : State) : Host.Outcome State Fault Refusal :=
  s.run (fun s => s.tcTimer c.val t)

/-- DRP_TOGGLE (R352). -/
def execDrpToggle (c : Fin 5) (s : State) : Host.Outcome State Fault Refusal :=
  s.run (fun s => s.drpToggle c.val)

/-- VBUS_REMOVAL (R352). -/
def execVbusRemoval (c : Fin 5) (s : State) : Host.Outcome State Fault Refusal :=
  s.run (fun s => s.vbusRemoval c.val)

/-- PD_MESSAGE_RECEIVE (R355). -/
def execPdMessageReceive (c : Fin 5) (m : PdMessage) (s : State) : Host.Outcome State Fault Refusal :=
  s.run (fun s => s.pdReceive c.val m.sop.val m.bytes)

/-- TX_GO (R356). -/
def execTxGo (e : Fin 32) (c : Fin 5) (v : BitVec 32) (s : State) : Host.Outcome State Fault Refusal :=
  s.run (fun s => s.portDoBy e (cuffPort c.val 0x28) v.toNat)

/-- SINK_TX_WAIT_END (R356). -/
def execSinkTxWaitEnd (c : Fin 5) (s : State) : Host.Outcome State Fault Refusal :=
  s.run (fun s => s.sinkTxWaitEnd c.val)

/-- CRC_RECEIVE_TIMEOUT (R355). -/
def execCrcReceiveTimeout (c : Fin 5) (s : State) : Host.Outcome State Fault Refusal :=
  s.run (fun s => s.crcTimeout c.val)

/-- TX_COMPLETE (R355). -/
def execTxComplete (c : Fin 5) (s : State) : Host.Outcome State Fault Refusal :=
  s.run (fun s => s.txComplete c.val)

/-- HARD_RESET_RECEIVE (R358). -/
def execHardResetReceive (c : Fin 5) (s : State) : Host.Outcome State Fault Refusal :=
  s.run (fun s => s.hrReceive c.val)

/-- PS_HARD_RESET_EXPIRE (R359). -/
def execPsHardResetExpire (c : Fin 5) (s : State) : Host.Outcome State Fault Refusal :=
  s.run (fun s => s.psHrExpire c.val)

/-- SRC_RECOVER_EXPIRE (R359). -/
def execSrcRecoverExpire (c : Fin 5) (s : State) : Host.Outcome State Fault Refusal :=
  s.run (fun s => s.srcRecover c.val)

/-- SINK_HARD_RESET_EXPIRE (R359). -/
def execSinkHardResetExpire (c : Fin 5) (s : State) : Host.Outcome State Fault Refusal :=
  s.run (fun s => s.sinkHrExpire c.val)

/-- RX_STAT_WRITE (R375). -/
def execRxStatWrite (e : Fin 32) (c : Fin 5) (v : BitVec 32) (s : State) : Host.Outcome State Fault Refusal :=
  s.run (fun s => s.portDoBy e (cuffPort c.val 0x18) v.toNat)

/-- VSET_WRITE (R360). -/
def execVsetWrite (e : Fin 32) (c : Fin 5) (v : BitVec 32) (s : State) : Host.Outcome State Fault Refusal :=
  s.run (fun s => s.portDoBy e (cuffPort c.val 0x31) v.toNat)

/-- VSET_RAMP_STEP (R360). -/
def execVsetRampStep (c : Fin 5) (s : State) : Host.Outcome State Fault Refusal :=
  s.run (fun s => s.vsetStep c.val)

/-- PPS_LIMIT_STEP (R363). -/
def execPpsLimitStep (c : Fin 5) (mA : Nat) (s : State) : Host.Outcome State Fault Refusal :=
  s.run (fun s => s.ppsStep c.val mA)

/-- CONTRACT_WRITE (R362). -/
def execContractWrite (e : Fin 32) (c : Fin 5) (v : BitVec 32) (s : State) : Host.Outcome State Fault Refusal :=
  s.run (fun s => s.portDoBy e (cuffPort c.val 0x32) v.toNat)

/-- KICK (R374). -/
def execKick (e : Fin 32) (c : Fin 5) (s : State) : Host.Outcome State Fault Refusal :=
  s.run (fun s => s.portDoBy e (cuffPort c.val 0x33) 0)

/-- RP_WRITE (R375). -/
def execRpWrite (e : Fin 32) (c : Fin 5) (v : BitVec 32) (s : State) : Host.Outcome State Fault Refusal :=
  s.run (fun s => s.portDoBy e (cuffPort c.val 0x34) v.toNat)

/-- HARD_RESET (R358). -/
def execCuffHardReset (e : Fin 32) (c : Fin 5) (s : State) : Host.Outcome State Fault Refusal :=
  s.run (fun s => s.portDoBy e (cuffPort c.val 0x30) 1)

/-- CABLE_RESET (R376). -/
def execCuffCableReset (e : Fin 32) (c : Fin 5) (s : State) : Host.Outcome State Fault Refusal :=
  s.run (fun s => s.portDoBy e (cuffPort c.val 0x30) 2)

/-- SRC_ON (R376). -/
def execCuffSrcOn (e : Fin 32) (c : Fin 5) (s : State) : Host.Outcome State Fault Refusal :=
  s.run (fun s => s.portDoBy e (cuffPort c.val 0x30) 3)

/-- SRC_OFF (R376). -/
def execCuffSrcOff (e : Fin 32) (c : Fin 5) (s : State) : Host.Outcome State Fault Refusal :=
  s.run (fun s => s.portDoBy e (cuffPort c.val 0x30) 4)

/-- VCONN_ON (R376). -/
def execCuffVconnOn (e : Fin 32) (c : Fin 5) (s : State) : Host.Outcome State Fault Refusal :=
  s.run (fun s => s.portDoBy e (cuffPort c.val 0x30) 5)

/-- VCONN_OFF (R376). -/
def execCuffVconnOff (e : Fin 32) (c : Fin 5) (s : State) : Host.Outcome State Fault Refusal :=
  s.run (fun s => s.portDoBy e (cuffPort c.val 0x30) 6)

/-- ROLE_RP (R376). -/
def execCuffRoleRp (e : Fin 32) (c : Fin 5) (s : State) : Host.Outcome State Fault Refusal :=
  s.run (fun s => s.portDoBy e (cuffPort c.val 0x30) 7)

/-- ROLE_RD (R376). -/
def execCuffRoleRd (e : Fin 32) (c : Fin 5) (s : State) : Host.Outcome State Fault Refusal :=
  s.run (fun s => s.portDoBy e (cuffPort c.val 0x30) 8)

/-- DATA_DFP (R376). -/
def execCuffDataDfp (e : Fin 32) (c : Fin 5) (s : State) : Host.Outcome State Fault Refusal :=
  s.run (fun s => s.portDoBy e (cuffPort c.val 0x30) 9)

/-- DATA_UFP (R376). -/
def execCuffDataUfp (e : Fin 32) (c : Fin 5) (s : State) : Host.Outcome State Fault Refusal :=
  s.run (fun s => s.portDoBy e (cuffPort c.val 0x30) 10)

/-- SWAP_BEGIN (R365). -/
def execCuffSwapBegin (e : Fin 32) (c : Fin 5) (s : State) : Host.Outcome State Fault Refusal :=
  s.run (fun s => s.portDoBy e (cuffPort c.val 0x30) 11)

/-- SWAP_END (R365). -/
def execCuffSwapEnd (e : Fin 32) (c : Fin 5) (s : State) : Host.Outcome State Fault Refusal :=
  s.run (fun s => s.portDoBy e (cuffPort c.val 0x30) 12)

/-- AMS_END (R356). -/
def execCuffAmsEnd (e : Fin 32) (c : Fin 5) (s : State) : Host.Outcome State Fault Refusal :=
  s.run (fun s => s.portDoBy e (cuffPort c.val 0x30) 13)

/-- ALT_ON (R368). -/
def execCuffAltOn (e : Fin 32) (c : Fin 5) (s : State) : Host.Outcome State Fault Refusal :=
  s.run (fun s => s.portDoBy e (cuffPort c.val 0x30) 14)

/-- ALT_OFF (R368). -/
def execCuffAltOff (e : Fin 32) (c : Fin 5) (s : State) : Host.Outcome State Fault Refusal :=
  s.run (fun s => s.portDoBy e (cuffPort c.val 0x30) 15)

/-- FRS_ARM (R366). -/
def execCuffFrsArm (e : Fin 32) (c : Fin 5) (s : State) : Host.Outcome State Fault Refusal :=
  s.run (fun s => s.portDoBy e (cuffPort c.val 0x30) 16)

/-- FRS_DISARM (R376). -/
def execCuffFrsDisarm (e : Fin 32) (c : Fin 5) (s : State) : Host.Outcome State Fault Refusal :=
  s.run (fun s => s.portDoBy e (cuffPort c.val 0x30) 17)

/-- ERROR_RECOVERY (R376). -/
def execCuffErrorRecovery (e : Fin 32) (c : Fin 5) (s : State) : Host.Outcome State Fault Refusal :=
  s.run (fun s => s.portDoBy e (cuffPort c.val 0x30) 18)

/-- SWAP_TIMEOUT (R365). -/
def execSwapTimeout (c : Fin 5) (s : State) : Host.Outcome State Fault Refusal :=
  s.run (fun s => s.swapTimeout c.val)

/-- FRS_TRIGGER (R366). -/
def execFrsTrigger (s : State) : Host.Outcome State Fault Refusal :=
  s.run (fun s => s.frsTrigger)

/-- FRS_SIGNAL_END (R366). -/
def execFrsSignalEnd (c : Fin 5) (s : State) : Host.Outcome State Fault Refusal :=
  s.run (fun s => s.frsSignalEnd c.val)

/-- POLICY_HANDOVER (R372). -/
def execPolicyHandover (c : Fin 5) (s : State) : Host.Outcome State Fault Refusal :=
  s.run (fun s => s.policyHandover c.val)

/-- POLICY_TO_FIRMWARE (R373). -/
def execPolicyToFirmware (c : Fin 5) (s : State) : Host.Outcome State Fault Refusal :=
  s.run (fun s => s.policyToFirmware c.val)

/-- CUFF_POLICY_WDOG_EXPIRE (R374). -/
def execCuffPolicyWdogExpire (c : Fin 5) (s : State) : Host.Outcome State Fault Refusal :=
  s.run (fun s => s.cuffWdog c.val)

/-- CUFF_INSTRUMENT_FAULT (R377). -/
def execCuffInstrumentFault (c : Fin 5) (code : BitVec 4) (s : State) : Host.Outcome State Fault Refusal :=
  s.run (fun s => s.cuffFault c.val code.toNat)

/-- CUFF_ENABLE (R352). -/
def execCuffEnable (r : Requester) (c : Fin 5) (s : State) : Host.Outcome State Fault Refusal :=
  s.run (fun s => s.command r (Reg.CUFF_CTL_ENABLE c.val).addr (fun s => s.cuffEnable r.code c.val))

/-- CUFF_DISABLE (R352). -/
def execCuffDisable (r : Requester) (c : Fin 5) (s : State) : Host.Outcome State Fault Refusal :=
  s.run (fun s => s.command r (Reg.CUFF_CTL_DISABLE c.val).addr (fun s => s.cuffDisable c.val))

end Sys2Proof.Machine
end

