-- ==== Sys2Proof/Machine/ExecDrv.lean ====
section
/-! DEFINITION. The meanings of the commands of 19_control_outputs.md: each the effect of one row on the block. -/

namespace Sys2Proof.Machine

/-- SETPOINT_ARRIVE (R424). -/
def execSetpointArrive (o : Fin 12) (s : State) : Host.Outcome State Fault Refusal :=
  s.run (fun s => s.setpointArrive o.val)

/-- DRIVER_FAULT (R432). -/
def execDriverFault (o : Fin 12) (code : BitVec 3) (s : State) : Host.Outcome State Fault Refusal :=
  s.run (fun s => s.driverFault o.val code.toNat)

/-- DRV_ENABLE (R419). -/
def execDrvEnable (r : Requester) (o : Fin 12) (s : State) : Host.Outcome State Fault Refusal :=
  s.run (fun s => s.command r (Reg.DRV_CTL_ENABLE o.val).addr (fun s => s.drvEnable r.code o.val))

/-- DRV_DISABLE (R419). -/
def execDrvDisable (r : Requester) (o : Fin 12) (s : State) : Host.Outcome State Fault Refusal :=
  s.run (fun s => s.command r (Reg.DRV_CTL_DISABLE o.val).addr (fun s => s.drvDisable o.val))

/-- FAULT_CLR (R433). -/
def execFaultClr (r : Requester) (o : Fin 12) (present : Bool) (s : State) : Host.Outcome State Fault Refusal :=
  s.run (fun s => s.command r (Reg.DRV_CTL_FAULT_CLR o.val).addr (fun s => s.faultClr r.code o.val present))

end Sys2Proof.Machine
end

