-- ==== Sys2Proof/Machine/ExecEng.lean ====
section
/-! DEFINITION. The meanings of the commands of 09_sprue_engines.md: each the effect of one row on the block. -/

namespace Sys2Proof.Machine

/-- ENGINE_START (R213). -/
def execEngineStart (r : Requester) (e : Fin 32) (s : State) : Host.Outcome State Fault Refusal :=
  s.run (fun s => s.command r (Reg.ENG_CTL_START e.val).addr (fun s => s.ctlStart r e.val))

/-- ENGINE_HALT (R197). -/
def execEngineHalt (r : Requester) (e : Fin 32) (s : State) : Host.Outcome State Fault Refusal :=
  s.run (fun s => s.command r (Reg.ENG_CTL_HALT e.val).addr (fun s => s.ctlHalt r e.val))

/-- ENGINE_HALTED (R197). -/
def execEngineHalted (e : Fin 32) (s : State) : Host.Outcome State Fault Refusal :=
  s.run (fun s => s.engHalted e.val)

/-- ENGINE_RESUME (R202). -/
def execEngineResume (r : Requester) (e : Fin 32) (s : State) : Host.Outcome State Fault Refusal :=
  s.run (fun s => s.command r (Reg.ENG_CTL_RESUME e.val).addr (fun s => s.ctlResume r e.val))

/-- ENGINE_RESET (R198). -/
def execEngineReset (r : Requester) (e : Fin 32) (s : State) : Host.Outcome State Fault Refusal :=
  s.run (fun s => s.command r (Reg.ENG_CTL_RESET e.val).addr (fun s => s.ctlReset r e.val))

/-- ARM_START (R214). -/
def execArmStart (r : Requester) (e : Fin 32) (s : State) : Host.Outcome State Fault Refusal :=
  s.run (fun s => s.command r (Reg.ENG_CTL_ARM_START e.val).addr (fun s => s.ctlArmStart r e.val))

/-- ARM_HALT (R214). -/
def execArmHalt (r : Requester) (e : Fin 32) (s : State) : Host.Outcome State Fault Refusal :=
  s.run (fun s => s.command r (Reg.ENG_CTL_ARM_HALT e.val).addr (fun s => s.ctlArmHalt r e.val))

/-- ARM_CLR (R214). -/
def execArmClr (r : Requester) (e : Fin 32) (s : State) : Host.Outcome State Fault Refusal :=
  s.run (fun s => s.command r (Reg.ENG_CTL_ARM_CLR e.val).addr (fun s => s.ctlArmClr r e.val))

/-- START_MASK (R212). -/
def execStartMask (r : Requester) (mask : BitVec 32) (s : State) : Host.Outcome State Fault Refusal :=
  s.run (fun s => s.command r Reg.ENG_START_MASK.addr (fun s => s.startMask r mask.toNat))

/-- HALT_MASK (R212). -/
def execHaltMask (r : Requester) (mask : BitVec 32) (s : State) : Host.Outcome State Fault Refusal :=
  s.run (fun s => s.command r Reg.ENG_HALT_MASK.addr (fun s => s.haltMask r mask.toNat))

/-- LOAD_SRC (R211). -/
def execLoadSrc (r : Requester) (addr : BitVec 32) (s : State) : Host.Outcome State Fault Refusal :=
  s.run (fun s => s.command r Reg.ENG_LOAD_SRC.addr (fun s => s.loadSrc addr.toNat))

/-- LOAD_GO (R211). -/
def execLoadGo (r : Requester) (v : BitVec 32) (s : State) : Host.Outcome State Fault Refusal :=
  s.run (fun s => s.command r Reg.ENG_LOAD_GO_ENGINE.addr (fun s => s.loadGo r v.toNat))

/-- LOAD_DONE (R211). -/
def execLoadDone (aborted : Bool) (s : State) : Host.Outcome State Fault Refusal :=
  s.run (fun s => s.loadDone aborted)

/-- CODE_RAM_WRITE (R210). -/
def execCodeRamWrite (r : Requester) (e : Fin 32) (word : Fin 2048) (data : BitVec 32) (s : State) : Host.Outcome State Fault Refusal :=
  s.run (fun s => s.codeWriteBy r e.val word.val data)

/-- WATCHDOG_EXPIRE (R203). -/
def execWatchdogExpire (e : Fin 32) (s : State) : Host.Outcome State Fault Refusal :=
  s.run (fun s => s.wdogExpire e.val)

/-- MARK_WAIT_RELEASE (R209). -/
def execMarkWaitRelease (e : Fin 32) (s : State) : Host.Outcome State Fault Refusal :=
  s.run (fun s => s.markRelease e.val)

/-- CHAIN_TIME_WAIT_RELEASE (R209). -/
def execChainTimeWaitRelease (e : Fin 32) (s : State) : Host.Outcome State Fault Refusal :=
  s.run (fun s => s.timeRelease e.val)

/-- WAIT_COMPLETE (R243). -/
def execWaitComplete (e : Fin 32) (s : State) : Host.Outcome State Fault Refusal :=
  s.run (fun s => s.waitComplete e.val)

end Sys2Proof.Machine
end

