-- ==== Sys2Proof/Machine/ExecEvt.lean ====
section
/-! DEFINITION. The meanings of the commands of 24_events.md: each the effect of one row on the block. -/

namespace Sys2Proof.Machine

/-- EVENT_FIRE (R499). -/
def execEventFire (source : Fin 128) (detail : BitVec 32) (s : State) : Host.Outcome State Fault Refusal :=
  s.run (fun s => if s.coreUp then s.eventFire source.val detail.toNat else s)

/-- SIGNAL (R502). -/
def execEventSignal (r : Requester) (source : BitVec 7) (s : State) : Host.Outcome State Fault Refusal :=
  s.run (fun s => s.command r Reg.EVT_SIGNAL.addr (fun s => s.eventSignal r.code source.toNat))

end Sys2Proof.Machine
end

