-- ==== Sys2Proof/Machine/ExecFlask.lean ====
section
/-! DEFINITION. The meanings of the commands of 13_flasks_and_warden.md: each the effect of one row on the block. -/

namespace Sys2Proof.Machine

/-- FLASK_FENCE (R286). -/
def execFlaskFence (faults : List FaultIn) (s : State) : Host.Outcome State Fault Refusal :=
  s.run (fun s => s.flaskFence faults)

/-- FENCE_QUEUED_START (R286). -/
def execFenceQueuedStart (s : State) : Host.Outcome State Fault Refusal :=
  s.run (fun s => s.fenceQueued)

/-- FENCE_LANE_UPDATE (R285). -/
def execFenceLaneUpdate (s : State) : Host.Outcome State Fault Refusal :=
  s.run (fun s => s.laneUpdate)

/-- FENCE (R292). -/
def execFenceCmd (r : Requester) (f : BitVec 6) (s : State) : Host.Outcome State Fault Refusal :=
  s.run (fun s => s.command r Reg.FLASK_FENCE.addr (fun s => s.fenceGo r f.toNat))

/-- REVIVE (R295). -/
def execRevive (r : Requester) (f : BitVec 6) (s : State) : Host.Outcome State Fault Refusal :=
  s.run (fun s => s.command r Reg.FLASK_REVIVE.addr (fun s => s.reviveGo r f.toNat))

/-- AR_CLR (R296). -/
def execArClr (r : Requester) (f : BitVec 6) (s : State) : Host.Outcome State Fault Refusal :=
  s.run (fun s => s.command r Reg.FLASK_AR_CLR.addr (fun s => s.arClr f.toNat))

/-- AUTO_REVIVE (R296). -/
def execAutoRevive (f : Fin 64) (s : State) : Host.Outcome State Fault Refusal :=
  s.run (fun s => s.autoRevive f.val)

/-- AUTO_REVIVE_RETRY (R296). -/
def execAutoReviveRetry (s : State) : Host.Outcome State Fault Refusal :=
  s.run (fun s => s.autoRetry)

/-- AR_STABLE_EXPIRE (R296). -/
def execArStableExpire (f : Fin 64) (s : State) : Host.Outcome State Fault Refusal :=
  s.run (fun s => s.arStable f.val)

end Sys2Proof.Machine
end

