-- ==== Sys2Proof/Machine/ExecFuse.lean ====
section
/-! DEFINITION. The meanings of the commands of 17_switching_and_fusing.md: each the effect of one row on the block. -/

namespace Sys2Proof.Machine

/-- CHANNEL_CLOSE (R382). -/
def execChannelClose (ch : Fin 10) (vout : BitVec 16) (s : State) : Host.Outcome State Fault Refusal :=
  s.run (fun s => s.channelClose ch.val vout.toNat)

/-- CHANNEL_OPEN (R381). -/
def execChannelOpen (ch : Fin 10) (s : State) : Host.Outcome State Fault Refusal :=
  s.run (fun s => s.channelOpen ch.val)

/-- GUARD_RELEASE (R382). -/
def execGuardRelease (ch : Fin 10) (vout : BitVec 16) (s : State) : Host.Outcome State Fault Refusal :=
  s.run (fun s => s.guardRelease ch.val vout.toNat)

/-- RAMP_END (R383). -/
def execRampEnd (ch : Fin 10) (s : State) : Host.Outcome State Fault Refusal :=
  s.run (fun s => s.rampEnd ch.val)

/-- RAMP_TIMEOUT (R383). -/
def execRampTimeout (s : State) : Host.Outcome State Fault Refusal :=
  s.run (fun s => s.rampTimeout)

/-- FAULT_TIMER_TRIP (R386). -/
def execFaultTimerTrip (ch : Fin 10) (s : State) : Host.Outcome State Fault Refusal :=
  s.run (fun s => s.tripIfClosed ch.val 1)

/-- SHORT_CIRCUIT_TRIP (R387). -/
def execShortCircuitTrip (ch : Fin 10) (s : State) : Host.Outcome State Fault Refusal :=
  s.run (fun s => s.tripIfClosed ch.val 2)

/-- THERMAL_TRIP (R387). -/
def execThermalTrip (ch : Fin 10) (s : State) : Host.Outcome State Fault Refusal :=
  s.run (fun s => if ch.val < 9 then s.tripIfClosed ch.val 3 else s)

/-- HP_REVERSE_OPEN (R387). -/
def execHpReverseOpen (h : Fin 4) (s : State) : Host.Outcome State Fault Refusal :=
  s.run (fun s => s.hpReverse h.val)

/-- TR_REVERSE_TRIP (R387). -/
def execTrReverseTrip (s : State) : Host.Outcome State Fault Refusal :=
  s.run (fun s => s.tripIfClosed 9 4)

/-- RETRY_WAIT_END (R390). -/
def execRetryWaitEnd (ch : Fin 10) (vout : BitVec 16) (s : State) : Host.Outcome State Fault Refusal :=
  s.run (fun s => s.retryWaitEnd ch.val vout.toNat)

/-- RETRY_STABLE (R390). -/
def execRetryStable (ch : Fin 10) (s : State) : Host.Outcome State Fault Refusal :=
  s.run (fun s => s.retryStable ch.val)

/-- SWITCH_STUCK (R396). -/
def execSwitchStuck (ch : Fin 10) (s : State) : Host.Outcome State Fault Refusal :=
  s.run (fun s => s.switchStuck ch.val)

/-- FUSE_ENABLE (R381). -/
def execFuseEnable (r : Requester) (ch : Fin 10) (s : State) : Host.Outcome State Fault Refusal :=
  s.run (fun s => s.command r (Reg.FUSE_CTL_ENABLE ch.val).addr (fun s => s.fuseOn r.code ch.val))

/-- FUSE_DISABLE (R381). -/
def execFuseDisable (r : Requester) (ch : Fin 10) (s : State) : Host.Outcome State Fault Refusal :=
  s.run (fun s => s.command r (Reg.FUSE_CTL_DISABLE ch.val).addr (fun s => s.fuseOff ch.val))

/-- REARM (R389). -/
def execRearm (r : Requester) (ch : Fin 10) (s : State) : Host.Outcome State Fault Refusal :=
  s.run (fun s => s.command r (Reg.FUSE_CTL_REARM ch.val).addr (fun s => s.rearm r.code ch.val))

/-- THERMAL_RECLOSE (R387). -/
def execThermalReclose (ch : Fin 10) (vout : BitVec 16) (s : State) : Host.Outcome State Fault Refusal :=
  s.run (fun s => s.thermalReclose ch.val vout.toNat)

/-- HP_REVERSE_RECLOSE (R387). -/
def execHpReverseReclose (h : Fin 4) (vout : BitVec 16) (s : State) : Host.Outcome State Fault Refusal :=
  s.run (fun s => s.hpReclose h.val vout.toNat)

end Sys2Proof.Machine
end

