-- ==== Sys2Proof/Machine/ExecGate.lean ====
section
/-! DEFINITION. The meanings of the commands of 06_cycle_frames_and_gate.md: each the effect of one row on the block. -/

namespace Sys2Proof.Machine

/-- FRAME_END (R145). -/
def execFrameEnd (f : FrameTail) (s : State) : Host.Outcome State Fault Refusal :=
  s.run (fun s => s.frameEnd f)

/-- SLOT_HEADER_CRC_FAIL (R144). -/
def execSlotHeaderCrcFail (x : BadSlot) (s : State) : Host.Outcome State Fault Refusal :=
  s.run (fun s => s.slotBad x.op.toNat x.slot)

/-- NOP (R130). -/
def execNopSlot (x : Slot) (s : State) : Host.Outcome State Fault Refusal :=
  s.run (fun s => s.slotNop x)

/-- BAD_OP_SLOT (R130). -/
def execBadOpSlot (op : BitVec 8) (x : Slot) (s : State) : Host.Outcome State Fault Refusal :=
  s.run (fun s => s.slotBadOp op.toNat x)

/-- HOP_RD (R129). -/
def execHopRd (x : Slot) (s : State) : Host.Outcome State Fault Refusal :=
  s.run (fun s => s.slotAt 1 true true x (gateRd 1))

/-- HOP_WR (R129). -/
def execHopWr (x : Slot) (s : State) : Host.Outcome State Fault Refusal :=
  s.run (fun s => s.slotAt 2 true true x gateWr)

/-- ST_RD (R134). -/
def execStRd (x : Slot) (s : State) : Host.Outcome State Fault Refusal :=
  s.run (fun s => s.slotAt 3 false true x (gateRd 3))

/-- ST_WR (R135). -/
def execStWr (x : Slot) (s : State) : Host.Outcome State Fault Refusal :=
  s.run (fun s => s.slotAt 4 false true x gateWr)

/-- ST_RW (R130). -/
def execStRw (x : Slot) (s : State) : Host.Outcome State Fault Refusal :=
  s.run (fun s => s.slotAt 5 false true x gateRw)

/-- BC_OR (R130). -/
def execBcOr (x : Slot) (s : State) : Host.Outcome State Fault Refusal :=
  s.run (fun s => s.slotAt 6 false true x gateOr)

/-- IMG_RD (R139). -/
def execImgRd (x : Slot) (s : State) : Host.Outcome State Fault Refusal :=
  s.run (fun s => s.slotAt 8 false false x gateImgRd)

/-- IMG_WR (R139). -/
def execImgWr (x : Slot) (s : State) : Host.Outcome State Fault Refusal :=
  s.run (fun s => s.slotAt 9 false false x gateImgWr)

/-- MBX_PUT (R275). -/
def execMbxPut (x : Slot) (s : State) : Host.Outcome State Fault Refusal :=
  s.run (fun s => s.slotAt 10 false true x gateMbxPut)

/-- MBX_GET (R276). -/
def execMbxGet (x : Slot) (s : State) : Host.Outcome State Fault Refusal :=
  s.run (fun s => s.slotAt 11 false true x gateMbxGet)

/-- TUNNEL (R335). -/
def execTunnel (x : Slot) (s : State) : Host.Outcome State Fault Refusal :=
  s.run (fun s => s.slotAt 12 false false x gateTunnel)

/-- TELEM (R482). -/
def execTelem (x : Slot) (s : State) : Host.Outcome State Fault Refusal :=
  s.run (fun s => s.slotAt 13 false false x gateTelem)

/-- EVENT (R500). -/
def execEventSlot (x : Slot) (s : State) : Host.Outcome State Fault Refusal :=
  s.run (fun s => s.slotAt 14 false false x gateEvent)

/-- POUR_ARM (R62). -/
def execPourArm (x : Slot) (s : State) : Host.Outcome State Fault Refusal :=
  s.run (fun s => s.slotAt 16 false true x gateArm)

/-- POUR (R63). -/
def execPourSlot (x : Slot) (s : State) : Host.Outcome State Fault Refusal :=
  s.run (fun s => s.slotAt 17 false true x gatePour)

/-- DELAY (R37). -/
def execDelaySlot (x : Slot) (s : State) : Host.Outcome State Fault Refusal :=
  s.run (fun s => s.slotAt 18 false true x gateDelay)

/-- URGENT_PRE (R143). -/
def execUrgentPre (s : State) : Host.Outcome State Fault Refusal :=
  s.run (fun s => s.urgentPre)

/-- URGENT_RES (R143). -/
def execUrgentRes (s : State) : Host.Outcome State Fault Refusal :=
  s.run (fun s => s.urgentRes)

/-- URG_GO (R147). -/
def execUrgGo (r : Requester) (frame : BitVec 4) (s : State) : Host.Outcome State Fault Refusal :=
  s.run (fun s => s.command r Reg.GATE_URG_GO.addr (fun s => s.urgGo r.code frame.toNat))

/-- URGENT_SEND (R142). -/
def execUrgentSend (s : State) : Host.Outcome State Fault Refusal :=
  s.run (fun s => s.urgentSend)

/-- HEAD_FRAME_RETURN (R146). -/
def execHeadFrameReturn (f : ReturnedFrame) (s : State) : Host.Outcome State Fault Refusal :=
  s.run (fun s => s.headFrameReturn f.port.val f)

end Sys2Proof.Machine
end

