-- ==== Sys2Proof/Machine/ExecHub.lean ====
section
/-! DEFINITION. The meanings of the commands of 14_local_hub.md: each the effect of one row on the block. -/

namespace Sys2Proof.Machine

/-- SOF_RECEIVE (R314). -/
def execSofReceive (frame : BitVec 11) (s : State) : Host.Outcome State Fault Refusal :=
  s.run (fun s => s.sofIn frame.toNat)

/-- MICROFRAME_TICK (R314). -/
def execMicroframeTick (s : State) : Host.Outcome State Fault Refusal :=
  s.run (fun s => s.hubTick)

/-- PORT_CONNECT_CHANGE (R299). -/
def execPortConnectChange (p : Fin 10) (connected : Bool) (speed : UsbSpeed) (s : State) : Host.Outcome State Fault Refusal :=
  s.run (fun s => s.connectChange p.val connected speed)

/-- PORT_BABBLE (R309). -/
def execPortBabble (p : Fin 10) (s : State) : Host.Outcome State Fault Refusal :=
  s.run (fun s => s.babble p.val)

/-- GET_STATUS (R306). -/
def execGetStatus (d : UsbDev) (rcp : Recipient) (index : BitVec 16) (s : State) : Host.Outcome State Fault Refusal :=
  s.run (fun s => s.usbReq d (fun s => s.getStatus d rcp index.toNat))

/-- CLEAR_FEATURE (R316). -/
def execClearFeature (d : UsbDev) (rcp : Recipient) (sel index : BitVec 16) (s : State) : Host.Outcome State Fault Refusal :=
  s.run (fun s => s.usbReq d (fun s => s.clearFeature d rcp sel.toNat index.toNat))

/-- SET_FEATURE (R306). -/
def execSetFeature (d : UsbDev) (rcp : Recipient) (sel index : BitVec 16) (s : State) : Host.Outcome State Fault Refusal :=
  s.run (fun s => s.usbReq d (fun s => s.setFeature d rcp sel.toNat index.toNat))

/-- SET_ADDRESS (R306). -/
def execSetAddress (d : UsbDev) (addr : BitVec 7) (s : State) : Host.Outcome State Fault Refusal :=
  s.run (fun s => s.usbReq d (fun s => s.setAddress d addr.toNat))

/-- GET_DESCRIPTOR (R327). -/
def execGetDescriptor (d : UsbDev) (kind index : BitVec 8) (length : BitVec 16) (s : State) : Host.Outcome State Fault Refusal :=
  s.run (fun s => s.usbReq d (fun s => s.giveDescriptor d (s.descriptor d kind.toNat index.toNat) length.toNat))

/-- GET_CONFIGURATION (R306). -/
def execGetConfiguration (d : UsbDev) (s : State) : Host.Outcome State Fault Refusal :=
  s.run (fun s => s.usbReq d (fun s => s.answer (.data (bytesOf [(s.dev d).config]))))

/-- SET_CONFIGURATION (R316). -/
def execSetConfiguration (d : UsbDev) (value : BitVec 8) (s : State) : Host.Outcome State Fault Refusal :=
  s.run (fun s => s.usbReq d (fun s => s.configure d value.toNat))

/-- GET_INTERFACE (R306). -/
def execGetInterface (d : UsbDev) (index : BitVec 16) (s : State) : Host.Outcome State Fault Refusal :=
  s.run (fun s => s.usbReq d (fun s => s.getInterface d index.toNat))

/-- SET_INTERFACE (R310). -/
def execSetInterface (d : UsbDev) (index alt : BitVec 16) (s : State) : Host.Outcome State Fault Refusal :=
  s.run (fun s => s.usbReq d (fun s => s.setInterface d index.toNat alt.toNat))

/-- HUB_REQUEST_STALL (R306). -/
def execHubRequestStall (d : UsbDev) (rt request : BitVec 8) (value _index : BitVec 16) (s : State) : Host.Outcome State Fault Refusal :=
  s.run (fun s => s.usbReq d (fun s => if hubListed d rt.toNat request.toNat value.toNat then s else s.stalls d))

/-- GET_HUB_STATUS (R306). -/
def execGetHubStatus (d : UsbDev) (s : State) : Host.Outcome State Fault Refusal :=
  s.run (fun s => s.usbReq d (fun s => if d = .mgmt then s.stalls d else s.answer (.data (bytesOf [0, 0, 0, 0]))))

/-- CLEAR_HUB_FEATURE (R306). -/
def execClearHubFeature (d : UsbDev) (sel : BitVec 16) (s : State) : Host.Outcome State Fault Refusal :=
  s.run (fun s => s.usbReq d (fun s => if d = .mgmt ∨ 1 < sel.toNat then s.stalls d else s.answer .ack))

/-- GET_HUB_DESCRIPTOR (R327). -/
def execGetHubDescriptor (d : UsbDev) (length : BitVec 16) (s : State) : Host.Outcome State Fault Refusal :=
  s.run (fun s => s.usbReq d (fun s => if d = .mgmt then s.stalls d else s.giveDescriptor d (some (s.hubDesc d)) length.toNat))

/-- GET_PORT_STATUS (R306). -/
def execGetPortStatus (p : BitVec 8) (s : State) : Host.Outcome State Fault Refusal :=
  s.run (fun s => s.portStatus p.toNat)

/-- SET_PORT_RESET (R308). -/
def execSetPortReset (p : BitVec 8) (s : State) : Host.Outcome State Fault Refusal :=
  s.run (fun s => s.setPort p.toNat (fun s => s.resetBegin p.toNat))

/-- SET_PORT_SUSPEND (R317). -/
def execSetPortSuspend (p : BitVec 8) (s : State) : Host.Outcome State Fault Refusal :=
  s.run (fun s => s.setPort p.toNat (fun s => s.suspendPort p.toNat))

/-- SET_PORT_POWER (R300). -/
def execSetPortPower (p : BitVec 8) (s : State) : Host.Outcome State Fault Refusal :=
  s.run (fun s => s.setPort p.toNat (fun s => s.powerUp p.toNat))

/-- SET_PORT_TEST (R307). -/
def execSetPortTest (p : BitVec 8) (mode : BitVec 8) (s : State) : Host.Outcome State Fault Refusal :=
  s.run (fun s => s.testPort p.toNat mode.toNat)

/-- CLEAR_PORT_ENABLE (R306). -/
def execClearPortEnable (p : BitVec 8) (s : State) : Host.Outcome State Fault Refusal :=
  s.run (fun s => s.clearPort p.toNat (fun s => s.setSt p.toNat (clrBit (s.hp p.toNat).st stEnable)))

/-- CLEAR_PORT_SUSPEND (R318). -/
def execClearPortSuspend (p : BitVec 8) (s : State) : Host.Outcome State Fault Refusal :=
  s.run (fun s => s.clearPort p.toNat (fun s => s.resumePort p.toNat))

/-- CLEAR_PORT_POWER (R300). -/
def execClearPortPower (p : BitVec 8) (s : State) : Host.Outcome State Fault Refusal :=
  s.run (fun s => s.clearPort p.toNat (fun s => s.powerDown p.toNat))

/-- CLEAR_PORT_L1 (R319). -/
def execClearPortL1 (p : BitVec 8) (s : State) : Host.Outcome State Fault Refusal :=
  s.run (fun s => s.clearPort p.toNat (fun s => s.l1Exit p.toNat))

/-- CLEAR_PORT_CHANGE (R306). -/
def execClearPortChange (p : BitVec 8) (bit : PortChange) (s : State) : Host.Outcome State Fault Refusal :=
  s.run (fun s => s.clearChange p.toNat bit)

/-- CLEAR_TT_BUFFER (R312). -/
def execClearTtBuffer (p : BitVec 8) (ep : TtEndpoint) (s : State) : Host.Outcome State Fault Refusal :=
  s.run (fun s => s.ttReq p.toNat (fun s => (s.ttClear p.toNat ep).answer .ack))

/-- RESET_TT (R312). -/
def execResetTt (p : BitVec 8) (s : State) : Host.Outcome State Fault Refusal :=
  s.run (fun s => s.ttReq p.toNat (fun s => (s.ttReset p.toNat).answer .ack))

/-- GET_TT_STATE (R306). -/
def execGetTtState (p : BitVec 8) (s : State) : Host.Outcome State Fault Refusal :=
  s.run (fun s => s.ttReq p.toNat (fun s => s.ttState))

/-- STOP_TT (R312). -/
def execStopTt (p : BitVec 8) (s : State) : Host.Outcome State Fault Refusal :=
  s.run (fun s => s.ttReq p.toNat (fun s => (s.ttStop p.toNat).answer .ack))

/-- PORT_RESET_END (R308). -/
def execPortResetEnd (p : Fin 10) (speed : UsbSpeed) (s : State) : Host.Outcome State Fault Refusal :=
  s.run (fun s => if s.coreUp then s.resetEnd p.val speed else s)

/-- PORT_RESUME_END (R318). -/
def execPortResumeEnd (p : Fin 10) (s : State) : Host.Outcome State Fault Refusal :=
  s.run (fun s => if s.coreUp then s.resumeEnd p.val else s)

/-- L1_EXIT_END (R319). -/
def execL1ExitEnd (p : Fin 10) (s : State) : Host.Outcome State Fault Refusal :=
  s.run (fun s => if s.coreUp then s.l1End p.val else s)

/-- DEVICE_REMOTE_WAKE (R318). -/
def execDeviceRemoteWake (p : Fin 10) (s : State) : Host.Outcome State Fault Refusal :=
  s.run (fun s => if s.coreUp then s.deviceWake p.val else s)

/-- UPSTREAM_SUSPEND (R317). -/
def execUpstreamSuspend (s : State) : Host.Outcome State Fault Refusal :=
  s.run (fun s => s.upSuspend)

/-- HUB_REMOTE_WAKE (R317). -/
def execHubRemoteWake (s : State) : Host.Outcome State Fault Refusal :=
  s.run (fun s => s.remoteWake)

/-- UPSTREAM_RESUME (R320). -/
def execUpstreamResume (s : State) : Host.Outcome State Fault Refusal :=
  s.run (fun s => s.upResume)

/-- UPSTREAM_BUS_RESET (R320). -/
def execUpstreamBusReset (hs : Bool) (s : State) : Host.Outcome State Fault Refusal :=
  s.run (fun s => s.busReset hs)

/-- LPM_TOKEN (R319). -/
def execLpmToken (besl : BitVec 4) (s : State) : Host.Outcome State Fault Refusal :=
  s.run (fun s => s.lpm (if s.presenting then s.wideQuiet else s.portsQuiet) besl.toNat)

/-- PERIODIC_START_SPLIT (R311). -/
def execPeriodicStartSplit (p : Fin 10) (ep : TtEndpoint) (byteTimes : Nat) (s : State) : Host.Outcome State Fault Refusal :=
  s.run (fun s => s.periodicStart p.val ep byteTimes)

/-- NONPERIODIC_START_SPLIT (R312). -/
def execNonperiodicStartSplit (p : Fin 10) (ep : TtEndpoint) (data : List (BitVec 8)) (s : State) : Host.Outcome State Fault Refusal :=
  s.run (fun s => s.nonperiodicStart p.val ep data)

/-- COMPLETE_SPLIT (R311). -/
def execCompleteSplit (p : Fin 10) (ep : TtEndpoint) (outcome : DevReply) (s : State) : Host.Outcome State Fault Refusal :=
  s.run (fun s => s.completeSplit p.val ep outcome)

/-- STATUS_CHANGE_IN (R315). -/
def execStatusChangeIn (s : State) : Host.Outcome State Fault Refusal :=
  s.run (fun s => if s.presenting then s.wideStatusIn else s.statusIn)

/-- HUB_ENABLE (R306). -/
def execHubEnable (r : Requester) (s : State) : Host.Outcome State Fault Refusal :=
  s.run (fun s => s.command r Reg.HUB_CTL_ENABLE.addr (fun s => s.hubEnable))

/-- HUB_DISABLE (R306). -/
def execHubDisable (r : Requester) (s : State) : Host.Outcome State Fault Refusal :=
  s.run (fun s => s.command r Reg.HUB_CTL_DISABLE.addr (fun s => s.hubDisable))

/-- HUB_RWAKE (R317). -/
def execHubRwake (r : Requester) (s : State) : Host.Outcome State Fault Refusal :=
  s.run (fun s => s.command r Reg.HUB_CTL_RWAKE.addr (fun s => s.hubRwake r.code))

/-- READ (R323). -/
def execMgmtRead (tag : BitVec 16) (addr len : BitVec 32) (s : State) : Host.Outcome State Fault Refusal :=
  s.run (fun s => s.mgmtTake ⟨1, tag.toNat, addr.toNat, len.toNat, []⟩)

/-- WRITE (R323). -/
def execMgmtWrite (tag : BitVec 16) (addr : BitVec 32) (data : List (BitVec 32)) (s : State) : Host.Outcome State Fault Refusal :=
  s.run (fun s => s.mgmtTake ⟨2, tag.toNat, addr.toNat, 4 * data.length, data.flatMap wordBytes⟩)

/-- IMAGE_BEGIN (R324). -/
def execImageBegin (tag : BitVec 16) (len : BitVec 32) (s : State) : Host.Outcome State Fault Refusal :=
  s.run (fun s => s.mgmtTake ⟨4, tag.toNat, len.toNat, 0, []⟩)

/-- IMAGE_DATA (R324). -/
def execImageData (tag : BitVec 16) (off : BitVec 32) (data : List (BitVec 8)) (s : State) : Host.Outcome State Fault Refusal :=
  s.run (fun s => s.mgmtTake ⟨5, tag.toNat, off.toNat, data.length, data⟩)

/-- IMAGE_END (R324). -/
def execImageEnd (tag : BitVec 16) (s : State) : Host.Outcome State Fault Refusal :=
  s.run (fun s => s.mgmtTake ⟨6, tag.toNat, 0, 0, []⟩)

/-- ECHO (R321). -/
def execEcho (tag : BitVec 16) (s : State) : Host.Outcome State Fault Refusal :=
  s.run (fun s => s.mgmtTake ⟨7, tag.toNat, 0, 0, []⟩)

/-- BAD_REQUEST (R322). -/
def execBadRequest (op : BitVec 8) (tag : BitVec 16) (s : State) : Host.Outcome State Fault Refusal :=
  s.run (fun s => s.mgmtTake ⟨op.toNat, tag.toNat, 0, 1, []⟩)

/-- EVENT_ENDPOINT_IN (R325). -/
def execEventEndpointIn (s : State) : Host.Outcome State Fault Refusal :=
  s.run (fun s => s.eventIn)

/-- PORT_L1_ENTRY (R319). -/
def execPortL1Entry (p : Fin 10) (besl : BitVec 4) (s : State) : Host.Outcome State Fault Refusal :=
  s.run (fun s => if s.coreUp then s.l1Entry p.val besl.toNat else s)

end Sys2Proof.Machine
end

