-- ==== Sys2Proof/Machine/ExecIsa.lean ====
section
/-! DEFINITION. The meanings of the commands of 10_sprue_instruction_set.md: each the effect of one row on the block. -/

namespace Sys2Proof.Machine

/-- ADD (R225). -/
def execIsaAdd (e : Fin 32) (d a b : Fin 16) (s : State) : Host.Outcome State Fault Refusal :=
  s.run (fun s => isaOp3 e.val d.val a.val b.val (fun x y => addFlags x y false) s)

/-- SUB (R225). -/
def execIsaSub (e : Fin 32) (d a b : Fin 16) (s : State) : Host.Outcome State Fault Refusal :=
  s.run (fun s => isaOp3 e.val d.val a.val b.val (fun x y => subFlags x y false) s)

/-- ADC (R225). -/
def execIsaAdc (e : Fin 32) (d a b : Fin 16) (s : State) : Host.Outcome State Fault Refusal :=
  s.run (fun s => isaCompute e.val d.val (fun x => addFlags (x.reg a.val) (x.reg b.val) x.c) s)

/-- SBC (R225). -/
def execIsaSbc (e : Fin 32) (d a b : Fin 16) (s : State) : Host.Outcome State Fault Refusal :=
  s.run (fun s => isaCompute e.val d.val (fun x => subFlags (x.reg a.val) (x.reg b.val) (!x.c)) s)

/-- AND (R225). -/
def execIsaAnd (e : Fin 32) (d a b : Fin 16) (s : State) : Host.Outcome State Fault Refusal :=
  s.run (fun s => isaOp3 e.val d.val a.val b.val (fun x y => withZN (x &&& y)) s)

/-- OR (R225). -/
def execIsaOr (e : Fin 32) (d a b : Fin 16) (s : State) : Host.Outcome State Fault Refusal :=
  s.run (fun s => isaOp3 e.val d.val a.val b.val (fun x y => withZN (x ||| y)) s)

/-- XOR (R225). -/
def execIsaXor (e : Fin 32) (d a b : Fin 16) (s : State) : Host.Outcome State Fault Refusal :=
  s.run (fun s => isaOp3 e.val d.val a.val b.val (fun x y => withZN (x ^^^ y)) s)

/-- ANDN (R225). -/
def execIsaAndn (e : Fin 32) (d a b : Fin 16) (s : State) : Host.Outcome State Fault Refusal :=
  s.run (fun s => isaOp3 e.val d.val a.val b.val (fun x y => withZN (x &&& ~~~y)) s)

/-- SHL (R225). -/
def execIsaShl (e : Fin 32) (d a b : Fin 16) (s : State) : Host.Outcome State Fault Refusal :=
  s.run (fun s => isaOp3 e.val d.val a.val b.val (fun x y => shiftFlags 0 x (amt y)) s)

/-- SHR (R225). -/
def execIsaShr (e : Fin 32) (d a b : Fin 16) (s : State) : Host.Outcome State Fault Refusal :=
  s.run (fun s => isaOp3 e.val d.val a.val b.val (fun x y => shiftFlags 1 x (amt y)) s)

/-- SAR (R225). -/
def execIsaSar (e : Fin 32) (d a b : Fin 16) (s : State) : Host.Outcome State Fault Refusal :=
  s.run (fun s => isaOp3 e.val d.val a.val b.val (fun x y => shiftFlags 2 x (amt y)) s)

/-- ROR (R225). -/
def execIsaRor (e : Fin 32) (d a b : Fin 16) (s : State) : Host.Outcome State Fault Refusal :=
  s.run (fun s => isaOp3 e.val d.val a.val b.val (fun x y => shiftFlags 3 x (amt y)) s)

/-- ADDS (R225). -/
def execIsaAdds (e : Fin 32) (d a b : Fin 16) (s : State) : Host.Outcome State Fault Refusal :=
  s.run (fun s => isaOp3 e.val d.val a.val b.val (fun x y => satFlags (x.toInt + y.toInt)) s)

/-- SUBS (R225). -/
def execIsaSubs (e : Fin 32) (d a b : Fin 16) (s : State) : Host.Outcome State Fault Refusal :=
  s.run (fun s => isaOp3 e.val d.val a.val b.val (fun x y => satFlags (x.toInt - y.toInt)) s)

/-- MIN (R225). -/
def execIsaMin (e : Fin 32) (d a b : Fin 16) (s : State) : Host.Outcome State Fault Refusal :=
  s.run (fun s => isaOp3 e.val d.val a.val b.val (fun x y => withZN (if x.toInt ≤ y.toInt then x else y)) s)

/-- MAX (R225). -/
def execIsaMax (e : Fin 32) (d a b : Fin 16) (s : State) : Host.Outcome State Fault Refusal :=
  s.run (fun s => isaOp3 e.val d.val a.val b.val (fun x y => withZN (if x.toInt ≤ y.toInt then y else x)) s)

/-- MINU (R225). -/
def execIsaMinu (e : Fin 32) (d a b : Fin 16) (s : State) : Host.Outcome State Fault Refusal :=
  s.run (fun s => isaOp3 e.val d.val a.val b.val (fun x y => withZN (if x.toNat ≤ y.toNat then x else y)) s)

/-- MAXU (R225). -/
def execIsaMaxu (e : Fin 32) (d a b : Fin 16) (s : State) : Host.Outcome State Fault Refusal :=
  s.run (fun s => isaOp3 e.val d.val a.val b.val (fun x y => withZN (if x.toNat ≤ y.toNat then y else x)) s)

/-- CMP (R225). -/
def execIsaCmp (e : Fin 32) (a b : Fin 16) (s : State) : Host.Outcome State Fault Refusal :=
  s.run (fun s => isaOp3 e.val 0 a.val b.val (fun x y => subFlags x y false) s)

/-- TST (R225). -/
def execIsaTst (e : Fin 32) (a b : Fin 16) (s : State) : Host.Outcome State Fault Refusal :=
  s.run (fun s => isaOp3 e.val 0 a.val b.val (fun x y => withZN (x &&& y)) s)

/-- ABS (R225). -/
def execIsaAbs (e : Fin 32) (d a : Fin 16) (s : State) : Host.Outcome State Fault Refusal :=
  s.run (fun s => isaCompute e.val d.val (fun x => satFlags (x.reg a.val).toInt.natAbs) s)

/-- NEG (R225). -/
def execIsaNeg (e : Fin 32) (d a : Fin 16) (s : State) : Host.Outcome State Fault Refusal :=
  s.run (fun s => isaCompute e.val d.val (fun x => subFlags 0 (x.reg a.val) false) s)

/-- CLZ (R225). -/
def execIsaClz (e : Fin 32) (d a : Fin 16) (s : State) : Host.Outcome State Fault Refusal :=
  s.run (fun s => isaCompute e.val d.val (fun x => (BitVec.ofNat 32 (clz32 (x.reg a.val)), { z := some (clz32 (x.reg a.val) == 0) })) s)

/-- ADDI (R225). -/
def execIsaAddi (e : Fin 32) (d a : Fin 16) (imm : BitVec 14) (s : State) : Host.Outcome State Fault Refusal :=
  s.run (fun s => isaCompute e.val d.val (fun x => addFlags (x.reg a.val) (sx14 imm) false) s)

/-- ANDI (R225). -/
def execIsaAndi (e : Fin 32) (d a : Fin 16) (imm : BitVec 14) (s : State) : Host.Outcome State Fault Refusal :=
  s.run (fun s => isaCompute e.val d.val (fun x => withZN (x.reg a.val &&& zx14 imm)) s)

/-- ORI (R225). -/
def execIsaOri (e : Fin 32) (d a : Fin 16) (imm : BitVec 14) (s : State) : Host.Outcome State Fault Refusal :=
  s.run (fun s => isaCompute e.val d.val (fun x => withZN (x.reg a.val ||| zx14 imm)) s)

/-- XORI (R225). -/
def execIsaXori (e : Fin 32) (d a : Fin 16) (imm : BitVec 14) (s : State) : Host.Outcome State Fault Refusal :=
  s.run (fun s => isaCompute e.val d.val (fun x => withZN (x.reg a.val ^^^ zx14 imm)) s)

/-- SHLI (R225). -/
def execIsaShli (e : Fin 32) (d a : Fin 16) (n : Fin 32) (s : State) : Host.Outcome State Fault Refusal :=
  s.run (fun s => isaCompute e.val d.val (fun x => shiftFlags 0 (x.reg a.val) n.val) s)

/-- SHRI (R225). -/
def execIsaShri (e : Fin 32) (d a : Fin 16) (n : Fin 32) (s : State) : Host.Outcome State Fault Refusal :=
  s.run (fun s => isaCompute e.val d.val (fun x => shiftFlags 1 (x.reg a.val) n.val) s)

/-- SARI (R225). -/
def execIsaSari (e : Fin 32) (d a : Fin 16) (n : Fin 32) (s : State) : Host.Outcome State Fault Refusal :=
  s.run (fun s => isaCompute e.val d.val (fun x => shiftFlags 2 (x.reg a.val) n.val) s)

/-- RORI (R225). -/
def execIsaRori (e : Fin 32) (d a : Fin 16) (n : Fin 32) (s : State) : Host.Outcome State Fault Refusal :=
  s.run (fun s => isaCompute e.val d.val (fun x => shiftFlags 3 (x.reg a.val) n.val) s)

/-- CMPI (R225). -/
def execIsaCmpi (e : Fin 32) (a : Fin 16) (imm : BitVec 14) (s : State) : Host.Outcome State Fault Refusal :=
  s.run (fun s => isaCompute e.val 0 (fun x => subFlags (x.reg a.val) (sx14 imm) false) s)

/-- MOVI (R225). -/
def execIsaMovi (e : Fin 32) (d : Fin 16) (imm : BitVec 16) (s : State) : Host.Outcome State Fault Refusal :=
  s.run (fun s => isaCompute e.val d.val (fun _ => (imm.signExtend 32, {})) s)

/-- MOVHI (R225). -/
def execIsaMovhi (e : Fin 32) (d : Fin 16) (imm : BitVec 16) (s : State) : Host.Outcome State Fault Refusal :=
  s.run (fun s => isaCompute e.val d.val (fun x => (imm ++ (x.reg d.val).extractLsb' 0 16, {})) s)

/-- MUL (R228). -/
def execIsaMul (e : Fin 32) (d a b : Fin 16) (s : State) : Host.Outcome State Fault Refusal :=
  s.run (fun s => isaOp3 e.val d.val a.val b.val (fun x y => withZN (x * y)) s)

/-- MULH (R228). -/
def execIsaMulh (e : Fin 32) (d a b : Fin 16) (s : State) : Host.Outcome State Fault Refusal :=
  s.run (fun s => isaOp3 e.val d.val a.val b.val (fun x y => withZN (BitVec.ofInt 32 (Int.fdiv (x.toInt * y.toInt) 4294967296))) s)

/-- MULHU (R228). -/
def execIsaMulhu (e : Fin 32) (d a b : Fin 16) (s : State) : Host.Outcome State Fault Refusal :=
  s.run (fun s => isaOp3 e.val d.val a.val b.val (fun x y => withZN (BitVec.ofNat 32 (x.toNat * y.toNat / 4294967296))) s)

/-- MAC (R226). -/
def execIsaMac (e : Fin 32) (a b : Fin 16) (s : State) : Host.Outcome State Fault Refusal :=
  s.run (fun s => isaMacOp e.val a.val b.val 0 false s)

/-- MSU (R226). -/
def execIsaMsu (e : Fin 32) (a b : Fin 16) (s : State) : Host.Outcome State Fault Refusal :=
  s.run (fun s => isaMacOp e.val a.val b.val 0 true s)

/-- MAC_Q31 (R226). -/
def execIsaMacQ31 (e : Fin 32) (a b : Fin 16) (s : State) : Host.Outcome State Fault Refusal :=
  s.run (fun s => isaMacOp e.val a.val b.val 1 false s)

/-- MSU_Q31 (R226). -/
def execIsaMsuQ31 (e : Fin 32) (a b : Fin 16) (s : State) : Host.Outcome State Fault Refusal :=
  s.run (fun s => isaMacOp e.val a.val b.val 1 true s)

/-- MAC_Q15 (R226). -/
def execIsaMacQ15 (e : Fin 32) (a b : Fin 16) (s : State) : Host.Outcome State Fault Refusal :=
  s.run (fun s => isaMacOp e.val a.val b.val 2 false s)

/-- MSU_Q15 (R226). -/
def execIsaMsuQ15 (e : Fin 32) (a b : Fin 16) (s : State) : Host.Outcome State Fault Refusal :=
  s.run (fun s => isaMacOp e.val a.val b.val 2 true s)

/-- DIV (R228). -/
def execIsaDiv (e : Fin 32) (d a b : Fin 16) (s : State) : Host.Outcome State Fault Refusal :=
  s.run (fun s => isaOp3 e.val d.val a.val b.val (fun x y => divFlags 0 x y) s)

/-- DIVU (R228). -/
def execIsaDivu (e : Fin 32) (d a b : Fin 16) (s : State) : Host.Outcome State Fault Refusal :=
  s.run (fun s => isaOp3 e.val d.val a.val b.val (fun x y => divFlags 1 x y) s)

/-- REM (R228). -/
def execIsaRem (e : Fin 32) (d a b : Fin 16) (s : State) : Host.Outcome State Fault Refusal :=
  s.run (fun s => isaOp3 e.val d.val a.val b.val (fun x y => divFlags 2 x y) s)

/-- REMU (R228). -/
def execIsaRemu (e : Fin 32) (d a b : Fin 16) (s : State) : Host.Outcome State Fault Refusal :=
  s.run (fun s => isaOp3 e.val d.val a.val b.val (fun x y => divFlags 3 x y) s)

/-- BFX (R228). -/
def execIsaBfx (e : Fin 32) (d a : Fin 16) (pos wm1 : Fin 32) (s : State) : Host.Outcome State Fault Refusal :=
  s.run (fun s => isaBf e.val d.val a.val pos.val wm1.val 0 s)

/-- BFXS (R228). -/
def execIsaBfxs (e : Fin 32) (d a : Fin 16) (pos wm1 : Fin 32) (s : State) : Host.Outcome State Fault Refusal :=
  s.run (fun s => isaBf e.val d.val a.val pos.val wm1.val 1 s)

/-- BFI (R228). -/
def execIsaBfi (e : Fin 32) (d a : Fin 16) (pos wm1 : Fin 32) (s : State) : Host.Outcome State Fault Refusal :=
  s.run (fun s => isaBf e.val d.val a.val pos.val wm1.val 2 s)

/-- RACC_LO (R227). -/
def execIsaRaccLo (e : Fin 32) (d : Fin 16) (clear : Bool) (s : State) : Host.Outcome State Fault Refusal :=
  s.run (fun s => isaRacc e.val d.val 0 clear s)

/-- RACC_HI (R227). -/
def execIsaRaccHi (e : Fin 32) (d : Fin 16) (clear : Bool) (s : State) : Host.Outcome State Fault Refusal :=
  s.run (fun s => isaRacc e.val d.val 1 clear s)

/-- RACC_Q31 (R227). -/
def execIsaRaccQ31 (e : Fin 32) (d : Fin 16) (clear : Bool) (s : State) : Host.Outcome State Fault Refusal :=
  s.run (fun s => isaRacc e.val d.val 2 clear s)

/-- RACC_Q15 (R227). -/
def execIsaRaccQ15 (e : Fin 32) (d : Fin 16) (clear : Bool) (s : State) : Host.Outcome State Fault Refusal :=
  s.run (fun s => isaRacc e.val d.val 3 clear s)

/-- WACC (R228). -/
def execIsaWacc (e : Fin 32) (a b : Fin 16) (s : State) : Host.Outcome State Fault Refusal :=
  s.run (fun s => isaWaccOp e.val a.val b.val s)

/-- LDW (R229). -/
def execIsaLdw (e : Fin 32) (d a : Fin 16) (imm : BitVec 14) (s : State) : Host.Outcome State Fault Refusal :=
  s.run (fun s => isaLoadOp e d.val a.val imm 4 false s)

/-- LDHS (R229). -/
def execIsaLdhs (e : Fin 32) (d a : Fin 16) (imm : BitVec 14) (s : State) : Host.Outcome State Fault Refusal :=
  s.run (fun s => isaLoadOp e d.val a.val imm 2 true s)

/-- LDHU (R229). -/
def execIsaLdhu (e : Fin 32) (d a : Fin 16) (imm : BitVec 14) (s : State) : Host.Outcome State Fault Refusal :=
  s.run (fun s => isaLoadOp e d.val a.val imm 2 false s)

/-- LDBS (R229). -/
def execIsaLdbs (e : Fin 32) (d a : Fin 16) (imm : BitVec 14) (s : State) : Host.Outcome State Fault Refusal :=
  s.run (fun s => isaLoadOp e d.val a.val imm 1 true s)

/-- LDBU (R229). -/
def execIsaLdbu (e : Fin 32) (d a : Fin 16) (imm : BitVec 14) (s : State) : Host.Outcome State Fault Refusal :=
  s.run (fun s => isaLoadOp e d.val a.val imm 1 false s)

/-- STW (R229). -/
def execIsaStw (e : Fin 32) (d a : Fin 16) (imm : BitVec 14) (s : State) : Host.Outcome State Fault Refusal :=
  s.run (fun s => isaStoreOp e d.val a.val imm 4 s)

/-- STH (R229). -/
def execIsaSth (e : Fin 32) (d a : Fin 16) (imm : BitVec 14) (s : State) : Host.Outcome State Fault Refusal :=
  s.run (fun s => isaStoreOp e d.val a.val imm 2 s)

/-- STB (R229). -/
def execIsaStb (e : Fin 32) (d a : Fin 16) (imm : BitVec 14) (s : State) : Host.Outcome State Fault Refusal :=
  s.run (fun s => isaStoreOp e d.val a.val imm 1 s)

/-- B_COND (R231). -/
def execIsaBCond (e : Fin 32) (cond : BitVec 4) (imm : BitVec 14) (s : State) : Host.Outcome State Fault Refusal :=
  s.run (fun s => isaBranch e.val cond.toNat imm s)

/-- CALL (R231). -/
def execIsaCall (e : Fin 32) (imm : BitVec 14) (s : State) : Host.Outcome State Fault Refusal :=
  s.run (fun s => isaCallTo e.val imm s)

/-- JR (R231). -/
def execIsaJr (e : Fin 32) (a : Fin 16) (s : State) : Host.Outcome State Fault Refusal :=
  s.run (fun s => isaJump e.val a.val false s)

/-- CALLR (R231). -/
def execIsaCallr (e : Fin 32) (a : Fin 16) (s : State) : Host.Outcome State Fault Refusal :=
  s.run (fun s => isaJump e.val a.val true s)

/-- LOOP (R232). -/
def execIsaLoop (e : Fin 32) (a : Fin 16) (imm : BitVec 14) (s : State) : Host.Outcome State Fault Refusal :=
  s.run (fun s => isaLoopOp e.val a.val imm s)

/-- DBNZ (R231). -/
def execIsaDbnz (e : Fin 32) (d : Fin 16) (imm : BitVec 14) (s : State) : Host.Outcome State Fault Refusal :=
  s.run (fun s => isaDbnzOp e.val d.val imm s)

/-- RPUT (R248). -/
def execIsaRput (e : Fin 32) (a b : Fin 16) (s : State) : Host.Outcome State Fault Refusal :=
  s.run (fun s => isaPut e.val a.val b.val 0 s)

/-- RPUTE (R248). -/
def execIsaRpute (e : Fin 32) (a b : Fin 16) (s : State) : Host.Outcome State Fault Refusal :=
  s.run (fun s => isaPut e.val a.val b.val 1 s)

/-- RGET (R249). -/
def execIsaRget (e : Fin 32) (d a : Fin 16) (s : State) : Host.Outcome State Fault Refusal :=
  s.run (fun s => isaTake e.val d.val a.val true s)

/-- RTRY (R249). -/
def execIsaRtry (e : Fin 32) (d a : Fin 16) (s : State) : Host.Outcome State Fault Refusal :=
  s.run (fun s => isaTake e.val d.val a.val false s)

/-- RINFO (R246). -/
def execIsaRinfo (e : Fin 32) (d a : Fin 16) (words : Bool) (s : State) : Host.Outcome State Fault Refusal :=
  s.run (fun s => isaInfo e.val d.val a.val words s)

/-- RDROPP (R254). -/
def execIsaRdropp (e : Fin 32) (a : Fin 16) (s : State) : Host.Outcome State Fault Refusal :=
  s.run (fun s => isaDropp e.val a.val s)

/-- BALLOC (R269). -/
def execIsaBalloc (e : Fin 32) (d : Fin 16) (s : State) : Host.Outcome State Fault Refusal :=
  s.run (fun s => isaAlloc e.val d.val true s)

/-- BTRY (R269). -/
def execIsaBtry (e : Fin 32) (d : Fin 16) (s : State) : Host.Outcome State Fault Refusal :=
  s.run (fun s => isaAlloc e.val d.val false s)

/-- BFREE (R270). -/
def execIsaBfree (e : Fin 32) (a : Fin 16) (s : State) : Host.Outcome State Fault Refusal :=
  s.run (fun s => isaFree e.val a.val s)

/-- BGIVE (R270). -/
def execIsaBgive (e : Fin 32) (a b : Fin 16) (s : State) : Host.Outcome State Fault Refusal :=
  s.run (fun s => isaGive e.val a.val b.val s)

/-- PIN (R206). -/
def execIsaPin (e : Fin 32) (d : Fin 16) (port : BitVec 16) (s : State) : Host.Outcome State Fault Refusal :=
  s.run (fun s => isaPortIn e.val d.val (fun _ => port.toNat) s)

/-- POUT (R206). -/
def execIsaPout (e : Fin 32) (d : Fin 16) (port : BitVec 16) (s : State) : Host.Outcome State Fault Refusal :=
  s.run (fun s => isaPortOut e.val (fun _ => port.toNat) (fun s => ((s.eng e.val).reg d.val).toNat) s)

/-- PINR (R206). -/
def execIsaPinr (e : Fin 32) (d a : Fin 16) (s : State) : Host.Outcome State Fault Refusal :=
  s.run (fun s => isaPortIn e.val d.val (fun s => ((s.eng e.val).reg a.val).toNat) s)

/-- POUTR (R206). -/
def execIsaPoutr (e : Fin 32) (a b : Fin 16) (s : State) : Host.Outcome State Fault Refusal :=
  s.run (fun s => isaPortOut e.val (fun s => ((s.eng e.val).reg a.val).toNat) (fun s => ((s.eng e.val).reg b.val).toNat) s)

/-- CTL (R236). -/
def execIsaCtl (e : Fin 32) (d : Fin 16) (s : State) : Host.Outcome State Fault Refusal :=
  s.run (fun s => isaCtlOp e.val d.val s)

/-- CTH (R236). -/
def execIsaCth (e : Fin 32) (d : Fin 16) (s : State) : Host.Outcome State Fault Refusal :=
  s.run (fun s => isaCompute e.val d.val (fun x => (x.latch, {})) s)

/-- CYC (R236). -/
def execIsaCyc (e : Fin 32) (d : Fin 16) (s : State) : Host.Outcome State Fault Refusal :=
  s.run (fun s => s.isa e.val (fun s => (s.setD e.val d.val (s.get Reg.CLK_CYC_NUM)).engNext e.val))

/-- WMARK (R209). -/
def execIsaWmark (e : Fin 32) (s : State) : Host.Outcome State Fault Refusal :=
  s.run (fun s => isaWmarkOp e.val s)

/-- WTIME (R209). -/
def execIsaWtime (e : Fin 32) (a b : Fin 16) (s : State) : Host.Outcome State Fault Refusal :=
  s.run (fun s => isaWtimeOp e.val a.val b.val s)

/-- EVWAIT (R237). -/
def execIsaEvwait (e : Fin 32) (d : Fin 16) (s : State) : Host.Outcome State Fault Refusal :=
  s.run (fun s => isaEvent e.val d.val true s)

/-- EVPOLL (R237). -/
def execIsaEvpoll (e : Fin 32) (d : Fin 16) (s : State) : Host.Outcome State Fault Refusal :=
  s.run (fun s => isaEvent e.val d.val false s)

/-- EVSIG (R238). -/
def execIsaEvsig (e : Fin 32) (a : Fin 16) (s : State) : Host.Outcome State Fault Refusal :=
  s.run (fun s => isaEvsigOp e.val a.val s)

/-- LACQ (R262). -/
def execIsaLacq (e : Fin 32) (d a : Fin 16) (s : State) : Host.Outcome State Fault Refusal :=
  s.run (fun s => isaLock e.val d.val a.val true s)

/-- LTRY (R262). -/
def execIsaLtry (e : Fin 32) (d a : Fin 16) (s : State) : Host.Outcome State Fault Refusal :=
  s.run (fun s => isaLock e.val d.val a.val false s)

/-- LREL (R263). -/
def execIsaLrel (e : Fin 32) (a : Fin 16) (s : State) : Host.Outcome State Fault Refusal :=
  s.run (fun s => isaUnlock e.val a.val s)

/-- LCLR (R262). -/
def execIsaLclr (e : Fin 32) (a : Fin 16) (s : State) : Host.Outcome State Fault Refusal :=
  s.run (fun s => isaUnpoison e.val a.val s)

/-- MSEND (R274). -/
def execIsaMsend (e : Fin 32) (d a b : Fin 16) (s : State) : Host.Outcome State Fault Refusal :=
  s.run (fun s => isaSend e.val d.val a.val b.val s)

/-- MRECV (R274). -/
def execIsaMrecv (e : Fin 32) (d a : Fin 16) (s : State) : Host.Outcome State Fault Refusal :=
  s.run (fun s => isaRecv e.val d.val a.val true s)

/-- MTRY (R274). -/
def execIsaMtry (e : Fin 32) (d a : Fin 16) (s : State) : Host.Outcome State Fault Refusal :=
  s.run (fun s => isaRecv e.val d.val a.val false s)

/-- CSRR (R241). -/
def execIsaCsrr (e : Fin 32) (d : Fin 16) (n : BitVec 12) (s : State) : Host.Outcome State Fault Refusal :=
  s.run (fun s => isaCsrRead e.val d.val n.toNat s)

/-- CSRW (R241). -/
def execIsaCsrw (e : Fin 32) (n : BitVec 12) (a : Fin 16) (s : State) : Host.Outcome State Fault Refusal :=
  s.run (fun s => isaCsrWrite e.val n.toNat a.val s)

/-- ENGINE_NOP (R241). -/
def execIsaNop (e : Fin 32) (s : State) : Host.Outcome State Fault Refusal :=
  s.run (fun s => isaNopOp e.val s)

/-- HALT (R241). -/
def execIsaHalt (e : Fin 32) (s : State) : Host.Outcome State Fault Refusal :=
  s.run (fun s => isaHaltOp e.val s)

/-- TRAP (R241). -/
def execIsaTrap (e : Fin 32) (code : BitVec 10) (s : State) : Host.Outcome State Fault Refusal :=
  s.run (fun s => isaTrapOp e.val code.toNat s)

/-- WFLG (R241). -/
def execIsaWflg (e : Fin 32) (a : Fin 16) (s : State) : Host.Outcome State Fault Refusal :=
  s.run (fun s => isaWflgOp e.val a.val s)

/-- CRC16_B (R242). -/
def execIsaCrc16B (e : Fin 32) (d a : Fin 16) (s : State) : Host.Outcome State Fault Refusal :=
  s.run (fun s => isaCrc e.val d.val a.val false false s)

/-- CRC16_W (R242). -/
def execIsaCrc16W (e : Fin 32) (d a : Fin 16) (s : State) : Host.Outcome State Fault Refusal :=
  s.run (fun s => isaCrc e.val d.val a.val false true s)

/-- CRC32_B (R242). -/
def execIsaCrc32B (e : Fin 32) (d a : Fin 16) (s : State) : Host.Outcome State Fault Refusal :=
  s.run (fun s => isaCrc e.val d.val a.val true false s)

/-- CRC32_W (R242). -/
def execIsaCrc32W (e : Fin 32) (d a : Fin 16) (s : State) : Host.Outcome State Fault Refusal :=
  s.run (fun s => isaCrc e.val d.val a.val true true s)

/-- ILLEGAL_INSTRUCTION (R222). -/
def execIllegalInstruction (e : Fin 32) (word : BitVec 32) (s : State) : Host.Outcome State Fault Refusal :=
  s.run (fun s => isaIllegal e.val word.toNat s)

end Sys2Proof.Machine
end

