-- ==== Sys2Proof/Machine/ExecLink.lean ====
section
/-! DEFINITION. The meanings of the commands of 05_gleshline_link.md: each the effect of one row on the block. -/

namespace Sys2Proof.Machine

/-- ALM_RECEIVE (R103). -/
def execAlmReceive (p : Fin 2) (body : List (BitVec 8)) (s : State) : Host.Outcome State Fault Refusal :=
  s.run (fun s => s.almReceive p.val body)

/-- ALM_SEND (R103). -/
def execAlmSend (p : Fin 2) (s : State) : Host.Outcome State Fault Refusal :=
  s.run (fun s => s.almSend p.val)

/-- LINK_SIGNAL_DETECT (R105). -/
def execLinkSignalDetect (p : Fin 2) (s : State) : Host.Outcome State Fault Refusal :=
  s.run (fun s => s.signalDetect p.val)

/-- LINK_STATE_ADVANCE (R105). -/
def execLinkStateAdvance (p : Fin 2) (obs : TrainObs) (s : State) : Host.Outcome State Fault Refusal :=
  s.run (fun s => s.stateAdvance p.val obs)

/-- LINK_TRAIN_TIMEOUT (R105). -/
def execLinkTrainTimeout (p : Fin 2) (s : State) : Host.Outcome State Fault Refusal :=
  s.run (fun s => s.trainTimeout p.val)

/-- QUIET_END (R105). -/
def execQuietEnd (p : Fin 2) (s : State) : Host.Outcome State Fault Refusal :=
  s.run (fun s => s.quietEnd p.val)

/-- LINK_UP (R109). -/
def execLinkUp (p : Fin 2) (outResid retResid : BitVec 16) (s : State) : Host.Outcome State Fault Refusal :=
  s.run (fun s => s.linkUp p.val outResid.toNat retResid.toNat)

/-- LANE_LOSS (R111). -/
def execLaneLoss (p lane : Fin 2) (s : State) : Host.Outcome State Fault Refusal :=
  s.run (fun s => s.laneLoss p.val lane.val)

/-- LINK_REQUEST_RECEIVE (R113). -/
def execLinkRequestReceive (p : Fin 2) (body : List (BitVec 8)) (s : State) : Host.Outcome State Fault Refusal :=
  s.run (fun s => s.requestReceive p.val body)

/-- LINK_REQUEST_TIMEOUT (R113). -/
def execLinkRequestTimeout (p : Fin 2) (s : State) : Host.Outcome State Fault Refusal :=
  s.run (fun s => s.requestTimeout p.val)

/-- WIDTH_SWITCH (R113). -/
def execWidthSwitch (p : Fin 2) (s : State) : Host.Outcome State Fault Refusal :=
  s.run (fun s => s.widthSwitch p.val)

/-- UPSHIFT_LANE_READY (R113). -/
def execUpshiftLaneReady (p : Fin 2) (s : State) : Host.Outcome State Fault Refusal :=
  s.run (fun s => s.upshiftReady p.val)

/-- REQUEST_REISSUE (R114). -/
def execRequestReissue (p : Fin 2) (s : State) : Host.Outcome State Fault Refusal :=
  s.run (fun s => s.requestReissue p.val)

/-- ERR_LIMIT_RETRAIN (R115). -/
def execErrLimitRetrain (p lane : Fin 2) (errors : Nat) (s : State) : Host.Outcome State Fault Refusal :=
  s.run (fun s => s.errLimit p.val lane.val errors)

/-- LINK_ENABLE (R105). -/
def execLinkEnable (r : Requester) (p : Fin 2) (s : State) : Host.Outcome State Fault Refusal :=
  s.run (fun s => s.command r (Reg.LINK_CTRL_ENABLE p.val).addr (fun s => s.linkEnable r.code p.val))

/-- LINK_DISABLE (R105). -/
def execLinkDisable (r : Requester) (p : Fin 2) (s : State) : Host.Outcome State Fault Refusal :=
  s.run (fun s => s.command r (Reg.LINK_CTRL_DISABLE p.val).addr (fun s => s.linkDisable r.code p.val))

/-- LINK_RETRAIN (R113). -/
def execLinkRetrain (r : Requester) (p : Fin 2) (s : State) : Host.Outcome State Fault Refusal :=
  s.run (fun s => s.command r (Reg.LINK_CTRL_RETRAIN p.val).addr (fun s => s.linkRetrain r.code p.val))

/-- LINK_WIDTH (R113). -/
def execLinkWidth (r : Requester) (p : Fin 2) (w : BitVec 2) (s : State) : Host.Outcome State Fault Refusal :=
  s.run (fun s => s.command r (Reg.LINK_CTRL_WIDTH p.val).addr (fun s => s.linkWidth r.code p.val w.toNat))

/-- MARGIN_GO (R123). -/
def execMarginGo (r : Requester) (p lane : Fin 2) (s : State) : Host.Outcome State Fault Refusal :=
  s.run (fun s => s.command r (Reg.LINK_MARGIN_CTRL_GO p.val).addr (fun s => s.marginGo r.code p.val lane.val))

/-- MARGIN_SCAN_DONE (R123). -/
def execMarginScanDone (p : Fin 2) (open_ : Bool) (width : BitVec 6) (height : BitVec 8) (s : State) : Host.Outcome State Fault Refusal :=
  s.run (fun s => s.marginDone p.val open_ width.toNat height.toNat)

/-- SLEEP_GO (R116). -/
def execSleepGo (r : Requester) (lead : BitVec 4) (s : State) : Host.Outcome State Fault Refusal :=
  s.run (fun s => s.command r Reg.CHAIN_SLEEP_GO.addr (fun s => s.sleepGo r.code lead.toNat))

/-- SLEEP_PROP (R117). -/
def execSleepProp (r : Requester) (cycle : BitVec 32) (s : State) : Host.Outcome State Fault Refusal :=
  s.run (fun s => s.command r Reg.CHAIN_SLEEP_PROP.addr (fun s => s.sleepProp r.code cycle.toNat))

/-- SLP_RECEIVE (R119). -/
def execSlpReceive (p : Fin 2) (body : List (BitVec 8)) (s : State) : Host.Outcome State Fault Refusal :=
  s.run (fun s => s.slpReceive p.val body)

/-- STANDBY_LANE_WAKE (R120). -/
def execStandbyLaneWake (_p _lane : Fin 2) (s : State) : Host.Outcome State Fault Refusal :=
  s.run (fun s => s.laneWake)

/-- WAK_BURST_END (R120). -/
def execWakBurstEnd (s : State) : Host.Outcome State Fault Refusal :=
  s.run (fun s => s.wakEnd)

/-- REQUEST_ACKNOWLEDGEMENT (R113). -/
def execRequestAcknowledgement (p : Fin 2) (s : State) : Host.Outcome State Fault Refusal :=
  s.run (fun s => s.requestAck p.val)

/-- JOIN_LINK_NORMAL (R163). -/
def execJoinLinkNormal (p : Fin 2) (s : State) : Host.Outcome State Fault Refusal :=
  s.run (fun s => s.joinNormal p.val)

end Sys2Proof.Machine
end

