-- ==== Sys2Proof/Machine/ExecMeas.lean ====
section
/-! DEFINITION. The meanings of the commands of 18_measurement.md: each the effect of one row on the block. -/

namespace Sys2Proof.Machine

/-- AIN_ON (R397). -/
def execAinOn (r : Requester) (mask : BitVec 24) (s : State) : Host.Outcome State Fault Refusal :=
  s.run (fun s => s.command r Reg.MEAS_AIN_ON.addr (fun s => s.ainOn mask.toNat))

/-- AIN_OFF (R397). -/
def execAinOff (r : Requester) (mask : BitVec 24) (s : State) : Host.Outcome State Fault Refusal :=
  s.run (fun s => s.command r Reg.MEAS_AIN_OFF.addr (fun s => s.ainOff mask.toNat))

/-- SA_ENABLE (R401). -/
def execSaEnable (r : Requester) (s : State) : Host.Outcome State Fault Refusal :=
  s.run (fun s => s.command r Reg.MEAS_CTL.addr (fun s => s.measOn r.code 0))

/-- SA_DISABLE (R401). -/
def execSaDisable (r : Requester) (s : State) : Host.Outcome State Fault Refusal :=
  s.run (fun s => s.command r Reg.MEAS_CTL.addr (fun s => s.measOff 0))

/-- SB_ENABLE (R401). -/
def execSbEnable (r : Requester) (s : State) : Host.Outcome State Fault Refusal :=
  s.run (fun s => s.command r Reg.MEAS_CTL.addr (fun s => s.measOn r.code 1))

/-- SB_DISABLE (R401). -/
def execSbDisable (r : Requester) (s : State) : Host.Outcome State Fault Refusal :=
  s.run (fun s => s.command r Reg.MEAS_CTL.addr (fun s => s.measOff 1))

/-- BRIDGE_ENABLE (R405). -/
def execBridgeEnable (r : Requester) (s : State) : Host.Outcome State Fault Refusal :=
  s.run (fun s => s.command r Reg.MEAS_CTL.addr (fun s => s.measOn r.code 2))

/-- BRIDGE_DISABLE (R405). -/
def execBridgeDisable (r : Requester) (s : State) : Host.Outcome State Fault Refusal :=
  s.run (fun s => s.command r Reg.MEAS_CTL.addr (fun s => s.measOff 2))

/-- COUNTER_ENABLE (R407). -/
def execCounterEnable (r : Requester) (s : State) : Host.Outcome State Fault Refusal :=
  s.run (fun s => s.command r Reg.MEAS_CTL.addr (fun s => s.measOn r.code 3))

/-- COUNTER_DISABLE (R407). -/
def execCounterDisable (r : Requester) (s : State) : Host.Outcome State Fault Refusal :=
  s.run (fun s => s.command r Reg.MEAS_CTL.addr (fun s => s.measOff 3))

/-- BURST_START (R401). -/
def execBurstStart (k : Fin 2) (idx : Fin 16) (readings : List Int) (s : State) : Host.Outcome State Fault Refusal :=
  s.run (fun s => s.burst k.val idx.val readings)

/-- BRIDGE_RESULT (R406). -/
def execBridgeResult (b : Fin 4) (raw : Int) (s : State) : Host.Outcome State Fault Refusal :=
  s.run (fun s => s.bridge b.val raw)

/-- PULSE_EDGE (R407). -/
def execPulseEdge (p : Fin 12) (edge : PulseEdge) (s : State) : Host.Outcome State Fault Refusal :=
  s.run (fun s => s.pulse p.val edge)

/-- PC_SNAPSHOT (R409). -/
def execPcSnapshot (s : State) : Host.Outcome State Fault Refusal :=
  s.run (fun s => s.snapshot)

/-- SHUNT_OVERCURRENT (R398). -/
def execShuntOvercurrent (n : Fin 24) (s : State) : Host.Outcome State Fault Refusal :=
  s.run (fun s => s.shuntOver n.val)

/-- SHUNT_RETRY (R398). -/
def execShuntRetry (n : Fin 24) (microAmp : Nat) (s : State) : Host.Outcome State Fault Refusal :=
  s.run (fun s => s.shuntRetry n.val microAmp)

/-- MEAS_INSTRUMENT_FAULT (R415). -/
def execMeasInstrumentFault (code : BitVec 4) (unit : Fin 4) (s : State) : Host.Outcome State Fault Refusal :=
  s.run (fun s => s.measFault code.toNat unit.val)

/-- CALIBRATION_START (R483). -/
def execCalibrationStart (u : Fin 3) (s : State) : Host.Outcome State Fault Refusal :=
  s.run (fun s => s.calStart u.val)

/-- CALIBRATION_DONE (R414). -/
def execCalibrationDone (u : Fin 3) (s : State) : Host.Outcome State Fault Refusal :=
  s.run (fun s => s.calEnd u.val)

end Sys2Proof.Machine
end

