-- ==== Sys2Proof/Machine/ExecPin.lean ====
section
/-! DEFINITION. The meanings of the commands of 20_pins_and_muxing.md: each the effect of one row on the block. -/

namespace Sys2Proof.Machine

/-- OUT_SET (R441). -/
def execOutSet (r : Requester) (n : Fin 4) (bits : BitVec 16) (s : State) : Host.Outcome State Fault Refusal :=
  s.run (fun s => s.command r (Reg.PIN_OUT_SET n.val).addr (fun s => (s.latchWrite n.val bits.toNat bits.toNat).ok))

/-- OUT_CLR (R441). -/
def execOutClr (r : Requester) (n : Fin 4) (bits : BitVec 16) (s : State) : Host.Outcome State Fault Refusal :=
  s.run (fun s => s.command r (Reg.PIN_OUT_CLR n.val).addr (fun s => (s.latchWrite n.val 0 bits.toNat).ok))

/-- OUT_TOG (R441). -/
def execOutTog (r : Requester) (n : Fin 4) (bits : BitVec 16) (s : State) : Host.Outcome State Fault Refusal :=
  s.run (fun s => s.command r (Reg.PIN_OUT_TOG n.val).addr (fun s => (s.latchToggle n.val bits.toNat).ok))

/-- OUT_WR (R441). -/
def execOutWr (r : Requester) (n : Fin 4) (value mask : BitVec 16) (s : State) : Host.Outcome State Fault Refusal :=
  s.run (fun s => s.command r (Reg.PIN_OUT_WR_VALUE n.val).addr (fun s => (s.latchWrite n.val value.toNat mask.toNat).ok))

/-- PIN_BIT_WRITE (R443). -/
def execPinBitWrite (e : Fin 32) (n : Fin 4) (m : Fin 16) (v : BitVec 32) (s : State) : Host.Outcome State Fault Refusal :=
  s.run (fun s => s.portDoBy e (0x4100 + 16 * n.val + m.val) v.toNat)

/-- EVCAP_EDGE (R444). -/
def execEvcapEdge (k : Fin 8) (rising : Bool) (s : State) : Host.Outcome State Fault Refusal :=
  s.run (fun s => s.evcap k.val rising)

/-- STROBE_END (R444). -/
def execStrobeEnd (apply : Bool) (s : State) : Host.Outcome State Fault Refusal :=
  s.run (fun s => s.strobeEnds apply)

/-- HVI_DEBOUNCE_EXPIRE (R445). -/
def execHviDebounceExpire (idx : Fin 16) (level : Bool) (s : State) : Host.Outcome State Fault Refusal :=
  s.run (fun s => s.hviLevel idx.val level)

/-- HVI_WAKE (R447). -/
def execHviWake (idx : Fin 16) (rising : Bool) (s : State) : Host.Outcome State Fault Refusal :=
  s.run (fun s => s.hviWakes idx.val rising)

/-- HOLD_REL (R448). -/
def execHoldRel (r : Requester) (s : State) : Host.Outcome State Fault Refusal :=
  s.run (fun s => s.command r Reg.PIN_CTL.addr (fun s => s.holdRel r.code))

end Sys2Proof.Machine
end

