-- ==== Sys2Proof/Machine/ExecPower.lean ====
section
/-! DEFINITION. The meanings of the commands of 04_power_up_to_service.md: each the effect of one row on the block. -/

namespace Sys2Proof.Machine

/-- TRUNK_POR (R70). -/
def execTrunkPor (s : State) : Host.Outcome State Fault Refusal :=
  s.run (fun s => s.trunkPor)

/-- KEEP_POR_RELEASE (R73). -/
def execKeepPorRelease (s : State) : Host.Outcome State Fault Refusal :=
  s.run (fun s => s.keepPorRelease)

/-- RAIL_PG_HIGH (R73). -/
def execRailPgHigh (rail : Rail) (s : State) : Host.Outcome State Fault Refusal :=
  s.run (fun s => s.railPgHigh (railNum rail))

/-- RAIL_ENABLE_NEXT (R73). -/
def execRailEnableNext (s : State) : Host.Outcome State Fault Refusal :=
  s.run (fun s => s.railEnableNext)

/-- RAIL_PG_TIMEOUT (R74). -/
def execRailPgTimeout (s : State) : Host.Outcome State Fault Refusal :=
  s.run (fun s => s.railPgTimeout)

/-- RAIL_RETRY (R74). -/
def execRailRetry (s : State) : Host.Outcome State Fault Refusal :=
  s.run (fun s => s.railRetry)

/-- RAIL_DISABLE_NEXT (R75). -/
def execRailDisableNext (s : State) : Host.Outcome State Fault Refusal :=
  s.run (fun s => s.railDisableNext)

/-- RAIL_RESET (R70). -/
def execRailReset (rail : Rail) (s : State) : Host.Outcome State Fault Refusal :=
  s.run (fun s => s.railReset (railNum rail))

/-- NRST_PULSE (R71). -/
def execNrstPulse (s : State) : Host.Outcome State Fault Refusal :=
  s.run (fun s => s.nrstPulse)

/-- NRST_LONG (R71). -/
def execNrstLong (s : State) : Host.Outcome State Fault Refusal :=
  s.run (fun s => s.nrstLong)

/-- RESET_CORE (R70). -/
def execResetCore (r : Requester) (s : State) : Host.Outcome State Fault Refusal :=
  s.run (fun s => s.command r Reg.SYS_RESET_CORE.addr (fun s => (s.coreReset 6 false).ok))

/-- RESET_NODE (R70). -/
def execResetNode (r : Requester) (s : State) : Host.Outcome State Fault Refusal :=
  s.run (fun s => s.command r Reg.SYS_RESET_NODE.addr (fun s => (s.bothReset 3).ok))

/-- FIELD_RESET_RELEASE (R76). -/
def execFieldResetRelease (s : State) : Host.Outcome State Fault Refusal :=
  s.run (fun s => s.fieldRelease)

/-- CORE_RESET_RELEASE (R76). -/
def execCoreResetRelease (role : BitVec 2) (bootsel : Bool) (s : State) : Host.Outcome State Fault Refusal :=
  s.run (fun s => s.coreRelease role.toNat bootsel)

/-- JOURNAL_SCAN (R476). -/
def execJournalScan (s : State) : Host.Outcome State Fault Refusal :=
  s.run (fun s => s.journalScan)

/-- IMAGE_VERIFY_DONE (R85). -/
def execImageVerifyDone (s : State) : Host.Outcome State Fault Refusal :=
  s.run (fun s => s.imageVerifyDone)

/-- CHAIN_IMAGE_BEGIN (R80). -/
def execChainImageBegin (s : State) : Host.Outcome State Fault Refusal :=
  s.run (fun s => s.chainImageBegin)

/-- CHAIN_IMAGE_DATA (R80). -/
def execChainImageData (s : State) : Host.Outcome State Fault Refusal :=
  s.run (fun s => s.chainImageData)

/-- CHAIN_IMAGE_END (R80). -/
def execChainImageEnd (s : State) : Host.Outcome State Fault Refusal :=
  s.run (fun s => s.chainImageEnd)

/-- BOOT_STORE (R81). -/
def execBootStore (r : Requester) (s : State) : Host.Outcome State Fault Refusal :=
  s.run (fun s => s.command r Reg.SYS_BOOT_CMD.addr (fun s => s.bootStore r.code))

/-- BOOT_STORE_DONE (R81). -/
def execBootStoreDone (s : State) : Host.Outcome State Fault Refusal :=
  s.run (fun s => s.bootStoreDone)

/-- OTP_STAGE (R88). -/
def execOtpStage (r : Requester) (word : BitVec 32) (s : State) : Host.Outcome State Fault Refusal :=
  s.run (fun s => s.command r Reg.SYS_OTP_STAGE.addr (fun s => s.otpStage r.code word))

/-- OTP_PROG_KEY (R88). -/
def execOtpProgKey (r : Requester) (s : State) : Host.Outcome State Fault Refusal :=
  s.run (fun s => s.command r Reg.SYS_OTP_PROG_KEY.addr (fun s => s.otpProgKey r.code))

/-- OTP_PROG_CLEAR (R88). -/
def execOtpProgClear (r : Requester) (s : State) : Host.Outcome State Fault Refusal :=
  s.run (fun s => s.command r Reg.SYS_OTP_PROG_CLEAR.addr (fun s => s.otpProgClear))

/-- OTP_PROG_DONE (R88). -/
def execOtpProgDone (ok : Bool) (s : State) : Host.Outcome State Fault Refusal :=
  s.run (fun s => s.otpProgDone ok)

/-- RB_COMMIT (R88). -/
def execRbCommit (r : Requester) (s : State) : Host.Outcome State Fault Refusal :=
  s.run (fun s => s.command r Reg.SYS_RB_COMMIT.addr (fun s => s.rbCommit r.code))

/-- HEAD_LISTEN_END (R89). -/
def execHeadListenEnd (s : State) : Host.Outcome State Fault Refusal :=
  s.run (fun s => s.headListenEnd)

/-- PWR_RUN (R92). -/
def execPwrRun (r : Requester) (s : State) : Host.Outcome State Fault Refusal :=
  s.run (fun s => s.command r Reg.SYS_PWR_REQ.addr (fun s => s.pwrRun))

/-- PWR_IDLE (R92). -/
def execPwrIdle (r : Requester) (s : State) : Host.Outcome State Fault Refusal :=
  s.run (fun s => s.command r Reg.SYS_PWR_REQ.addr (fun s => s.pwrIdle))

/-- PWR_STANDBY (R92). -/
def execPwrStandby (r : Requester) (s : State) : Host.Outcome State Fault Refusal :=
  s.run (fun s => s.command r Reg.SYS_PWR_REQ.addr (fun s => s.pwrStandby r.code))

/-- PWR_OFF (R92). -/
def execPwrOff (r : Requester) (s : State) : Host.Outcome State Fault Refusal :=
  s.run (fun s => s.command r Reg.SYS_PWR_REQ.addr (fun s => s.pwrOff false))

/-- PWR_TRUNK_OFF (R92). -/
def execPwrTrunkOff (r : Requester) (s : State) : Host.Outcome State Fault Refusal :=
  s.run (fun s => s.command r Reg.SYS_PWR_REQ.addr (fun s => s.pwrOff true))

/-- WAKE_TIMER (R93). -/
def execWakeTimer (r : Requester) (sec : BitVec 32) (s : State) : Host.Outcome State Fault Refusal :=
  s.run (fun s => s.command r Reg.SYS_WAKE_TIMER.addr (fun s => s.wakeTimer sec.toNat))

/-- WAKE_TIMER_EXPIRE (R93). -/
def execWakeTimerExpire (s : State) : Host.Outcome State Fault Refusal :=
  s.run (fun s => s.wakeTimerExpire)

/-- STANDBY_WAKE (R93). -/
def execStandbyWake (s : State) : Host.Outcome State Fault Refusal :=
  s.run (fun s => s.standbyWake)

end Sys2Proof.Machine
end

