-- ==== Sys2Proof/Machine/ExecRun.lean ====
section
/-! DEFINITION. The meanings of the commands of 11_runners.md: each the effect of one row on the block. -/

namespace Sys2Proof.Machine

/-- RUNNER_ENABLE (R245). -/
def execRunnerEnable (r : Requester) (q : Fin 128) (s : State) : Host.Outcome State Fault Refusal :=
  s.run (fun s => cmdRunnerEnable r q.val s)

/-- RUNNER_DISABLE (R258). -/
def execRunnerDisable (r : Requester) (q : Fin 128) (s : State) : Host.Outcome State Fault Refusal :=
  s.run (fun s => cmdRunnerDisable r q.val s)

/-- MPUT (R251). -/
def execMput (r : Requester) (q : Fin 128) (w : BitVec 32) (s : State) : Host.Outcome State Fault Refusal :=
  s.run (fun s => s.command r (Reg.RUN_MPUT q.val).addr (fun s => s.runMput r q.val 0 w.toNat))

/-- MPUT_E (R251). -/
def execMputE (r : Requester) (q : Fin 128) (w : BitVec 32) (s : State) : Host.Outcome State Fault Refusal :=
  s.run (fun s => s.command r (Reg.RUN_MPUT_E q.val).addr (fun s => s.runMput r q.val 1 w.toNat))

/-- MDROPP (R254). -/
def execMdropp (r : Requester) (q : Fin 128) (s : State) : Host.Outcome State Fault Refusal :=
  s.run (fun s => s.command r (Reg.RUN_MDROPP q.val).addr (fun s => s.runMdropp r q.val))

/-- MGET (R251). -/
def execMget (r : Requester) (q : Fin 128) (s : State) : Host.Outcome State Fault Refusal :=
  s.run (fun s => s.command r (Reg.RUN_MGET q.val).addr (fun s => s.runMget r q.val))

/-- MGET_TIMEOUT (R251). -/
def execMgetTimeout (q : Fin 128) (s : State) : Host.Outcome State Fault Refusal :=
  s.run (fun s => s.runMgetTimeout q.val)

/-- HARDWARE_PUT (R248). -/
def execHardwarePut (q : Fin 128) (producer : HwProducer) (packet : List (BitVec 32)) (s : State) : Host.Outcome State Fault Refusal :=
  s.run (fun s => s.hwPacket q.val producer packet)

/-- RUNNER_POINTER_CHECK (R259). -/
def execRunnerPointerCheck (q : Fin 128) (s : State) : Host.Outcome State Fault Refusal :=
  s.run (fun s => s.runPointerCheck q.val)

/-- RUNNER_OVL_END (R260). -/
def execRunnerOvlEnd (q : Fin 128) (s : State) : Host.Outcome State Fault Refusal :=
  s.run (fun s => s.runOvlEnd q.val)

end Sys2Proof.Machine
end

