-- ==== Sys2Proof/Machine/ExecSeam.lean ====
section
/-! DEFINITION. The meanings of the commands of 01_node_and_chain.md: each the effect of one row on the block. -/

namespace Sys2Proof.Machine

/-- REGISTER_WRITE (R55). -/
def execRegisterWrite (r : Requester) (w : Access) (addr data : BitVec 32) (s : State) : Host.Outcome State Fault Refusal :=
  s.run (fun s => s.regWriteBy r w addr.toNat data.toNat)

/-- LO_READ_CAPTURE (R68). -/
def execLoReadCapture (r : Requester) (addr : BitVec 32) (s : State) : Host.Outcome State Fault Refusal :=
  s.run (fun s => s.loCapture r addr.toNat)

/-- SEAM_FRAME_RECEIVE (R17). -/
def execSeamFrameReceive (die : Die) (crcOk : Bool) (s : State) : Host.Outcome State Fault Refusal :=
  s.run (fun s => (match die with | .core => s.coreFrame crcOk | .field => s.fieldFrame crcOk))

/-- SEAM_KEEPALIVE (R18). -/
def execSeamKeepalive (s : State) : Host.Outcome State Fault Refusal :=
  s.run (fun s => s.seamKeepalive)

/-- SEAM_LOSS_DECLARE (R19). -/
def execSeamLossDeclare (s : State) : Host.Outcome State Fault Refusal :=
  s.run (fun s => s.seamLoss)

/-- SEAM_LOSS_KNOWN (R514). -/
def execSeamLossKnown (s : State) : Host.Outcome State Fault Refusal :=
  s.run (fun s => s.seamLossKnown)

/-- SEAM_UP_RESUME (R291). -/
def execSeamUpResume (s : State) : Host.Outcome State Fault Refusal :=
  s.run (fun s => s.seamResume)

/-- SEAM_RETRAIN_GO (R24). -/
def execSeamRetrainGo (r : Requester) (s : State) : Host.Outcome State Fault Refusal :=
  s.run (fun s => s.command r Reg.SEAM_RETRAIN.addr (fun s => s.retrainGo r.code))

/-- SEAM_RETRAIN_DONE (R24). -/
def execSeamRetrainDone (s : State) : Host.Outcome State Fault Refusal :=
  s.run (fun s => s.retrainDone)

/-- COPY_SET_CAPTURE (R31). -/
def execCopySetCapture (s : State) : Host.Outcome State Fault Refusal :=
  s.run (fun s => s.copyCapture)

/-- CORE_PLL_LOCK_LOSS (R26). -/
def execCorePllLockLoss (s : State) : Host.Outcome State Fault Refusal :=
  s.run (fun s => s.pllLoss)

/-- FREQ_MEASURE (R27). -/
def execFreqMeasure (tenthPpm : BitVec 16) (s : State) : Host.Outcome State Fault Refusal :=
  s.run (fun s => s.freqMeasure tenthPpm.toNat)

end Sys2Proof.Machine
end

