-- ==== Sys2Proof/Machine/ExecSync.lean ====
section
/-! DEFINITION. The meanings of the commands of 12_locks_buffers_messages.md: each the effect of one row on the block. -/

namespace Sys2Proof.Machine

/-- LOCK_TRY (R264). -/
def execLockTry (r : Requester) (lock : BitVec 8) (s : State) : Host.Outcome State Fault Refusal :=
  s.run (fun s => s.command r Reg.SYNC_LOCK_CMD_LOCK.addr (fun s => s.syncLockTry r lock.toNat))

/-- LOCK_RELEASE (R264). -/
def execLockRelease (r : Requester) (lock : BitVec 8) (s : State) : Host.Outcome State Fault Refusal :=
  s.run (fun s => s.command r Reg.SYNC_LOCK_CMD_LOCK.addr (fun s => s.syncLockRel r lock.toNat))

/-- LOCK_CLEAR_POISON (R264). -/
def execLockClearPoison (r : Requester) (lock : BitVec 8) (s : State) : Host.Outcome State Fault Refusal :=
  s.run (fun s => s.command r Reg.SYNC_LOCK_CMD_LOCK.addr (fun s => s.syncLockClr r lock.toNat))

/-- B_ALLOC (R269). -/
def execBAlloc (r : Requester) (s : State) : Host.Outcome State Fault Refusal :=
  s.run (fun s => s.command r Reg.SYNC_B_ALLOC.addr (fun s => s.syncAlloc r))

/-- B_FREE (R270). -/
def execBFree (r : Requester) (buf : BitVec 11) (s : State) : Host.Outcome State Fault Refusal :=
  s.run (fun s => s.command r Reg.SYNC_B_FREE.addr (fun s => s.syncFree r buf.toNat))

/-- B_GIVE (R270). -/
def execBGive (r : Requester) (buf : BitVec 11) (owner : BitVec 6) (s : State) : Host.Outcome State Fault Refusal :=
  s.run (fun s => s.command r Reg.SYNC_B_GIVE_BUF.addr (fun s => s.syncGive r buf.toNat owner.toNat))

/-- M_SEND (R274). -/
def execMSend (r : Requester) (v : BitVec 32) (s : State) : Host.Outcome State Fault Refusal :=
  s.run (fun s => s.command r Reg.SYNC_M_SEND_BUF.addr (fun s => s.syncSend r v.toNat))

/-- M_RECV_SEL (R274). -/
def execMRecvSel (r : Requester) (m : BitVec 6) (s : State) : Host.Outcome State Fault Refusal :=
  s.run (fun s => s.command r Reg.SYNC_M_RECV_SEL.addr (fun s => s.syncSel r m.toNat))

/-- M_RECV (R274). -/
def execMRecv (r : Requester) (s : State) : Host.Outcome State Fault Refusal :=
  s.run (fun s => s.command r Reg.SYNC_M_RECV.addr (fun s => s.syncRecv r))

/-- MBX_FLUSH (R278). -/
def execMbxFlush (r : Requester) (m : Fin 64) (s : State) : Host.Outcome State Fault Refusal :=
  s.run (fun s => s.command r (Reg.SYNC_MBX_CTL m.val).addr (fun s => (s.mbxFlush m.val).ok))

/-- POOL_OVL_END (R272). -/
def execPoolOvlEnd (s : State) : Host.Outcome State Fault Refusal :=
  s.run (fun s => s.poolOvlEnd)

end Sys2Proof.Machine
end

