-- ==== Sys2Proof/Machine/ExecTest.lean ====
section
/-! DEFINITION. The meanings of the commands of 23_stitch_test_and_bist.md: each the effect of one row on the block. -/

namespace Sys2Proof.Machine

/-- TEST_PINS (R491). -/
def execTestPins (r : Requester) (scope : BitVec 5) (force : Bool) (s : State) : Host.Outcome State Fault Refusal :=
  s.run (fun s => s.command r Reg.TEST_GO_KIND.addr (fun s => s.testGo r.code 1 scope.toNat force))

/-- TEST_NEIGHBOUR (R492). -/
def execTestNeighbour (r : Requester) (scope : BitVec 5) (s : State) : Host.Outcome State Fault Refusal :=
  s.run (fun s => s.command r Reg.TEST_GO_KIND.addr (fun s => s.testGo r.code 2 scope.toNat false))

/-- TEST_LBIST (R494). -/
def execTestLbist (r : Requester) (scope : BitVec 5) (force : Bool) (s : State) : Host.Outcome State Fault Refusal :=
  s.run (fun s => s.command r Reg.TEST_GO_KIND.addr (fun s => s.testGo r.code 3 scope.toNat force))

/-- NB_CYCLE (R492). -/
def execNbCycle (r : Requester) (c : BitVec 32) (s : State) : Host.Outcome State Fault Refusal :=
  s.run (fun s => s.command r Reg.TEST_NB_CYCLE.addr (fun s => s.nbStage c.toNat))

/-- NB_PRBS_START (R492). -/
def execNbPrbsStart (s : State) : Host.Outcome State Fault Refusal :=
  s.run (fun s => s.nbPrbs)

/-- NB_TRUNK_CAPTURE (R492). -/
def execNbTrunkCapture (s : State) : Host.Outcome State Fault Refusal :=
  s.run (fun s => s.nbTrunk)

/-- TEST_DONE (R490). -/
def execTestDone (o : TestObs) (s : State) : Host.Outcome State Fault Refusal :=
  s.run (fun s => s.testDone o)

/-- TEST_ABORT_CONDITION (R487). -/
def execTestAbortCondition (cause : BitVec 3) (s : State) : Host.Outcome State Fault Refusal :=
  s.run (fun s => s.testCondition cause.toNat)

/-- TEST_ABORT (R487). -/
def execTestAbort (r : Requester) (s : State) : Host.Outcome State Fault Refusal :=
  s.run (fun s => s.command r Reg.TEST_ABORT.addr (fun s => s.testAbortGo))

/-- BYPASS (R495). -/
def execTapBypass (s : State) : Host.Outcome State Fault Refusal :=
  s.run (fun s => s.tapPlain 0x1F 0)

/-- IDCODE (R495). -/
def execTapIdcode (s : State) : Host.Outcome State Fault Refusal :=
  s.run (fun s => s.tapPlain 1 0x106486B7)

/-- SAMPLE_PRELOAD (R495). -/
def execTapSamplePreload (sampled preload : BitVec 412) (s : State) : Host.Outcome State Fault Refusal :=
  s.run (fun s => s.tapSample sampled preload)

/-- EXTEST (R496). -/
def execTapExtest (s : State) : Host.Outcome State Fault Refusal :=
  s.run (fun s => s.tapLands 0)

/-- EXTEST_PULSE (R496). -/
def execTapExtestPulse (s : State) : Host.Outcome State Fault Refusal :=
  s.run (fun s => s.tapLands 8)

/-- EXTEST_TRAIN (R496). -/
def execTapExtestTrain (s : State) : Host.Outcome State Fault Refusal :=
  s.run (fun s => s.tapLands 9)

/-- CLAMP (R496). -/
def execTapClamp (s : State) : Host.Outcome State Fault Refusal :=
  s.run (fun s => s.tapLands 4)

/-- HIGHZ (R496). -/
def execTapHighz (s : State) : Host.Outcome State Fault Refusal :=
  s.run (fun s => s.tapLands 5)

end Sys2Proof.Machine
end

