-- ==== Sys2Proof/Machine/ExecWide.lean ====
section
/-! DEFINITION. The meanings of the commands of 15_wide_hub_tunnel.md: each the effect of one row on the block. -/

namespace Sys2Proof.Machine

/-- WIDE_PRESENT_CHANGE (R328). -/
def execWidePresentChange (s : State) : Host.Outcome State Fault Refusal :=
  s.run (fun s => if s.coreUp then s.presentChange else s)

/-- WIDE_ATTACH (R328). -/
def execWideAttach (s : State) : Host.Outcome State Fault Refusal :=
  s.run (fun s => if s.coreUp then s.wideAttach else s)

/-- WIDE_ENABLE (R328). -/
def execWideEnable (r : Requester) (s : State) : Host.Outcome State Fault Refusal :=
  s.run (fun s => s.command r Reg.WIDE_CTL_ENABLE.addr (fun s => s.wideEnable r.code))

/-- WIDE_DISABLE (R328). -/
def execWideDisable (r : Requester) (s : State) : Host.Outcome State Fault Refusal :=
  s.run (fun s => s.command r Reg.WIDE_CTL_DISABLE.addr (fun s => s.wideDisable))

/-- DOWN_RECORD_EXECUTE (R337). -/
def execDownRecordExecute (w : Fin 256) (reply : DevReply) (s : State) : Host.Outcome State Fault Refusal :=
  s.run (fun s => s.downExecute w.val reply)

/-- POLL_RUN (R341). -/
def execPollRun (replies : List PollReply) (s : State) : Host.Outcome State Fault Refusal :=
  s.run (fun s => s.pollRun replies)

/-- WIDE_HOST_IN (R338). -/
def execWideHostIn (w : Fin 256) (dev : BitVec 7) (ep : BitVec 4) (s : State) : Host.Outcome State Fault Refusal :=
  s.run (fun s => s.wideIn w.val dev.toNat ep.toNat)

/-- WIDE_HOST_OUT (R338). -/
def execWideHostOut (w : Fin 256) (dev : BitVec 7) (ep : BitVec 4) (pid : Bool) (data : List (BitVec 8)) (s : State) : Host.Outcome State Fault Refusal :=
  s.run (fun s => s.wideOut w.val dev.toNat ep.toNat pid data)

/-- WIDE_HOST_PING (R338). -/
def execWideHostPing (w : Fin 256) (dev : BitVec 7) (ep : BitVec 4) (s : State) : Host.Outcome State Fault Refusal :=
  s.run (fun s => s.widePing w.val dev.toNat ep.toNat)

/-- WIDE_HOST_SETUP (R339). -/
def execWideHostSetup (w : Fin 256) (dev : BitVec 7) (data : List (BitVec 8)) (s : State) : Host.Outcome State Fault Refusal :=
  s.run (fun s => s.wideSetup w.val dev.toNat data)

/-- WIDE_SPLIT (R340). -/
def execWideSplit (x : WideSplit) (s : State) : Host.Outcome State Fault Refusal :=
  s.run (fun s => s.wideSplit x)

/-- POLL_RESULT_IN (R342). -/
def execPollResultIn (e : Fin 256) (s : State) : Host.Outcome State Fault Refusal :=
  s.run (fun s => s.pollResultIn e.val)

/-- POLL_OUT_DATA (R342). -/
def execPollOutData (e : Fin 256) (pid : Bool) (data : List (BitVec 8)) (s : State) : Host.Outcome State Fault Refusal :=
  s.run (fun s => s.pollOutData e.val pid data)

/-- WIDE_PORT_REQUEST (R344). -/
def execWidePortRequest (w : BitVec 8) (x : HubPortReq) (s : State) : Host.Outcome State Fault Refusal :=
  s.run (fun s => s.widePortReq w.toNat x)

/-- GET_PORT_MAP (R349). -/
def execGetPortMap (w : BitVec 16) (s : State) : Host.Outcome State Fault Refusal :=
  s.run (fun s => s.getPortMap w.toNat)

/-- WIDE_PORT_ORPHAN (R346). -/
def execWidePortOrphan (w : Fin 256) (s : State) : Host.Outcome State Fault Refusal :=
  s.run (fun s => s.portOrphan w.val)

/-- WIDE_OVL_END (R348). -/
def execWideOvlEnd (s : State) : Host.Outcome State Fault Refusal :=
  s.run (fun s => if s.coreUp then s.wideOvlEnd else s)

end Sys2Proof.Machine
end

