-- ==== Sys2Proof/Machine/Dispatch.lean ====
section
/-! DEFINITION. One arm per command: each calls its meaning. -/

namespace Sys2Proof.Machine

/-- The effect of a command on everything but the queue. -/
def exec (i : Instr) (s : State) : Host.Outcome State Fault Refusal :=
  match i with
  | .registerWrite r w addr data => Sys2Proof.Machine.execRegisterWrite r w addr data s
  | .loReadCapture r addr => Sys2Proof.Machine.execLoReadCapture r addr s
  | .seamFrameReceive die crcOk => Sys2Proof.Machine.execSeamFrameReceive die crcOk s
  | .seamKeepalive => Sys2Proof.Machine.execSeamKeepalive s
  | .seamLossDeclare => Sys2Proof.Machine.execSeamLossDeclare s
  | .seamLossKnown => Sys2Proof.Machine.execSeamLossKnown s
  | .seamUpResume => Sys2Proof.Machine.execSeamUpResume s
  | .seamRetrainGo r => Sys2Proof.Machine.execSeamRetrainGo r s
  | .seamRetrainDone => Sys2Proof.Machine.execSeamRetrainDone s
  | .copySetCapture => Sys2Proof.Machine.execCopySetCapture s
  | .corePllLockLoss => Sys2Proof.Machine.execCorePllLockLoss s
  | .freqMeasure tenthPpm => Sys2Proof.Machine.execFreqMeasure tenthPpm s
  | .cycSend => Sys2Proof.Machine.execCycSend s
  | .cycReceive p body => Sys2Proof.Machine.execCycReceive p body s
  | .holdoverEntry => Sys2Proof.Machine.execHoldoverEntry s
  | .localMark => Sys2Proof.Machine.execLocalMark s
  | .usbLockLoss => Sys2Proof.Machine.execUsbLockLoss s
  | .applyInstant => Sys2Proof.Machine.execApplyInstant s
  | .fieldPourApply => Sys2Proof.Machine.execFieldPourApply s
  | .localPour r mask => Sys2Proof.Machine.execLocalPour r mask s
  | .withdraw r mask => Sys2Proof.Machine.execWithdraw r mask s
  | .refillComplete g => Sys2Proof.Machine.execRefillComplete g s
  | .armedPour => Sys2Proof.Machine.execArmedPour s
  | .pourLapse => Sys2Proof.Machine.execPourLapse s
  | .chGo r v => Sys2Proof.Machine.execChGo r v s
  | .trunkPor => Sys2Proof.Machine.execTrunkPor s
  | .keepPorRelease => Sys2Proof.Machine.execKeepPorRelease s
  | .railPgHigh rail => Sys2Proof.Machine.execRailPgHigh rail s
  | .railEnableNext => Sys2Proof.Machine.execRailEnableNext s
  | .railPgTimeout => Sys2Proof.Machine.execRailPgTimeout s
  | .railRetry => Sys2Proof.Machine.execRailRetry s
  | .railDisableNext => Sys2Proof.Machine.execRailDisableNext s
  | .railReset rail => Sys2Proof.Machine.execRailReset rail s
  | .nrstPulse => Sys2Proof.Machine.execNrstPulse s
  | .nrstLong => Sys2Proof.Machine.execNrstLong s
  | .resetCore r => Sys2Proof.Machine.execResetCore r s
  | .resetNode r => Sys2Proof.Machine.execResetNode r s
  | .fieldResetRelease => Sys2Proof.Machine.execFieldResetRelease s
  | .coreResetRelease role bootsel => Sys2Proof.Machine.execCoreResetRelease role bootsel s
  | .journalScan => Sys2Proof.Machine.execJournalScan s
  | .imageVerifyDone => Sys2Proof.Machine.execImageVerifyDone s
  | .chainImageBegin => Sys2Proof.Machine.execChainImageBegin s
  | .chainImageData => Sys2Proof.Machine.execChainImageData s
  | .chainImageEnd => Sys2Proof.Machine.execChainImageEnd s
  | .bootStore r => Sys2Proof.Machine.execBootStore r s
  | .bootStoreDone => Sys2Proof.Machine.execBootStoreDone s
  | .otpStage r word => Sys2Proof.Machine.execOtpStage r word s
  | .otpProgKey r => Sys2Proof.Machine.execOtpProgKey r s
  | .otpProgClear r => Sys2Proof.Machine.execOtpProgClear r s
  | .otpProgDone ok => Sys2Proof.Machine.execOtpProgDone ok s
  | .rbCommit r => Sys2Proof.Machine.execRbCommit r s
  | .headListenEnd => Sys2Proof.Machine.execHeadListenEnd s
  | .pwrRun r => Sys2Proof.Machine.execPwrRun r s
  | .pwrIdle r => Sys2Proof.Machine.execPwrIdle r s
  | .pwrStandby r => Sys2Proof.Machine.execPwrStandby r s
  | .pwrOff r => Sys2Proof.Machine.execPwrOff r s
  | .pwrTrunkOff r => Sys2Proof.Machine.execPwrTrunkOff r s
  | .wakeTimer r sec => Sys2Proof.Machine.execWakeTimer r sec s
  | .wakeTimerExpire => Sys2Proof.Machine.execWakeTimerExpire s
  | .standbyWake => Sys2Proof.Machine.execStandbyWake s
  | .almReceive p body => Sys2Proof.Machine.execAlmReceive p body s
  | .almSend p => Sys2Proof.Machine.execAlmSend p s
  | .linkSignalDetect p => Sys2Proof.Machine.execLinkSignalDetect p s
  | .linkStateAdvance p obs => Sys2Proof.Machine.execLinkStateAdvance p obs s
  | .linkTrainTimeout p => Sys2Proof.Machine.execLinkTrainTimeout p s
  | .quietEnd p => Sys2Proof.Machine.execQuietEnd p s
  | .linkUp p outResid retResid => Sys2Proof.Machine.execLinkUp p outResid retResid s
  | .laneLoss p lane => Sys2Proof.Machine.execLaneLoss p lane s
  | .linkRequestReceive p body => Sys2Proof.Machine.execLinkRequestReceive p body s
  | .linkRequestTimeout p => Sys2Proof.Machine.execLinkRequestTimeout p s
  | .widthSwitch p => Sys2Proof.Machine.execWidthSwitch p s
  | .upshiftLaneReady p => Sys2Proof.Machine.execUpshiftLaneReady p s
  | .requestReissue p => Sys2Proof.Machine.execRequestReissue p s
  | .errLimitRetrain p lane errors => Sys2Proof.Machine.execErrLimitRetrain p lane errors s
  | .linkEnable r p => Sys2Proof.Machine.execLinkEnable r p s
  | .linkDisable r p => Sys2Proof.Machine.execLinkDisable r p s
  | .linkRetrain r p => Sys2Proof.Machine.execLinkRetrain r p s
  | .linkWidth r p w => Sys2Proof.Machine.execLinkWidth r p w s
  | .marginGo r p lane => Sys2Proof.Machine.execMarginGo r p lane s
  | .marginScanDone p open_ width height => Sys2Proof.Machine.execMarginScanDone p open_ width height s
  | .sleepGo r lead => Sys2Proof.Machine.execSleepGo r lead s
  | .sleepProp r cycle => Sys2Proof.Machine.execSleepProp r cycle s
  | .slpReceive p body => Sys2Proof.Machine.execSlpReceive p body s
  | .standbyLaneWake p lane => Sys2Proof.Machine.execStandbyLaneWake p lane s
  | .wakBurstEnd => Sys2Proof.Machine.execWakBurstEnd s
  | .requestAcknowledgement p => Sys2Proof.Machine.execRequestAcknowledgement p s
  | .joinLinkNormal p => Sys2Proof.Machine.execJoinLinkNormal p s
  | .frameEnd f => Sys2Proof.Machine.execFrameEnd f s
  | .slotHeaderCrcFail x => Sys2Proof.Machine.execSlotHeaderCrcFail x s
  | .nopSlot x => Sys2Proof.Machine.execNopSlot x s
  | .badOpSlot op x => Sys2Proof.Machine.execBadOpSlot op x s
  | .hopRd x => Sys2Proof.Machine.execHopRd x s
  | .hopWr x => Sys2Proof.Machine.execHopWr x s
  | .stRd x => Sys2Proof.Machine.execStRd x s
  | .stWr x => Sys2Proof.Machine.execStWr x s
  | .stRw x => Sys2Proof.Machine.execStRw x s
  | .bcOr x => Sys2Proof.Machine.execBcOr x s
  | .imgRd x => Sys2Proof.Machine.execImgRd x s
  | .imgWr x => Sys2Proof.Machine.execImgWr x s
  | .mbxPut x => Sys2Proof.Machine.execMbxPut x s
  | .mbxGet x => Sys2Proof.Machine.execMbxGet x s
  | .tunnel x => Sys2Proof.Machine.execTunnel x s
  | .telem x => Sys2Proof.Machine.execTelem x s
  | .eventSlot x => Sys2Proof.Machine.execEventSlot x s
  | .pourArm x => Sys2Proof.Machine.execPourArm x s
  | .pourSlot x => Sys2Proof.Machine.execPourSlot x s
  | .delaySlot x => Sys2Proof.Machine.execDelaySlot x s
  | .urgentPre => Sys2Proof.Machine.execUrgentPre s
  | .urgentRes => Sys2Proof.Machine.execUrgentRes s
  | .urgGo r frame => Sys2Proof.Machine.execUrgGo r frame s
  | .urgentSend => Sys2Proof.Machine.execUrgentSend s
  | .headFrameReturn f => Sys2Proof.Machine.execHeadFrameReturn f s
  | .assignUid0 r w => Sys2Proof.Machine.execAssignUid0 r w s
  | .assignUid1 r w => Sys2Proof.Machine.execAssignUid1 r w s
  | .assign r w => Sys2Proof.Machine.execAssign r w s
  | .stickySave => Sys2Proof.Machine.execStickySave s
  | .stickyClr r => Sys2Proof.Machine.execStickyClr r s
  | .detach r cycle => Sys2Proof.Machine.execDetach r cycle s
  | .detachExecute => Sys2Proof.Machine.execDetachExecute s
  | .detachEnd r => Sys2Proof.Machine.execDetachEnd r s
  | .epochStart => Sys2Proof.Machine.execEpochStart s
  | .ckptChunk r w => Sys2Proof.Machine.execCkptChunk r w s
  | .reserveTakeover => Sys2Proof.Machine.execReserveTakeover s
  | .revQLoad r q => Sys2Proof.Machine.execRevQLoad r q s
  | .handbackGo r lead => Sys2Proof.Machine.execHandbackGo r lead s
  | .handbackStart => Sys2Proof.Machine.execHandbackStart s
  | .foldedCycArrival p x => Sys2Proof.Machine.execFoldedCycArrival p x s
  | .engineStart r e => Sys2Proof.Machine.execEngineStart r e s
  | .engineHalt r e => Sys2Proof.Machine.execEngineHalt r e s
  | .engineHalted e => Sys2Proof.Machine.execEngineHalted e s
  | .engineResume r e => Sys2Proof.Machine.execEngineResume r e s
  | .engineReset r e => Sys2Proof.Machine.execEngineReset r e s
  | .armStart r e => Sys2Proof.Machine.execArmStart r e s
  | .armHalt r e => Sys2Proof.Machine.execArmHalt r e s
  | .armClr r e => Sys2Proof.Machine.execArmClr r e s
  | .startMask r mask => Sys2Proof.Machine.execStartMask r mask s
  | .haltMask r mask => Sys2Proof.Machine.execHaltMask r mask s
  | .loadSrc r addr => Sys2Proof.Machine.execLoadSrc r addr s
  | .loadGo r v => Sys2Proof.Machine.execLoadGo r v s
  | .loadDone aborted => Sys2Proof.Machine.execLoadDone aborted s
  | .codeRamWrite r e word data => Sys2Proof.Machine.execCodeRamWrite r e word data s
  | .watchdogExpire e => Sys2Proof.Machine.execWatchdogExpire e s
  | .markWaitRelease e => Sys2Proof.Machine.execMarkWaitRelease e s
  | .chainTimeWaitRelease e => Sys2Proof.Machine.execChainTimeWaitRelease e s
  | .waitComplete e => Sys2Proof.Machine.execWaitComplete e s
  | .isaAdd e d a b => Sys2Proof.Machine.execIsaAdd e d a b s
  | .isaSub e d a b => Sys2Proof.Machine.execIsaSub e d a b s
  | .isaAdc e d a b => Sys2Proof.Machine.execIsaAdc e d a b s
  | .isaSbc e d a b => Sys2Proof.Machine.execIsaSbc e d a b s
  | .isaAnd e d a b => Sys2Proof.Machine.execIsaAnd e d a b s
  | .isaOr e d a b => Sys2Proof.Machine.execIsaOr e d a b s
  | .isaXor e d a b => Sys2Proof.Machine.execIsaXor e d a b s
  | .isaAndn e d a b => Sys2Proof.Machine.execIsaAndn e d a b s
  | .isaShl e d a b => Sys2Proof.Machine.execIsaShl e d a b s
  | .isaShr e d a b => Sys2Proof.Machine.execIsaShr e d a b s
  | .isaSar e d a b => Sys2Proof.Machine.execIsaSar e d a b s
  | .isaRor e d a b => Sys2Proof.Machine.execIsaRor e d a b s
  | .isaAdds e d a b => Sys2Proof.Machine.execIsaAdds e d a b s
  | .isaSubs e d a b => Sys2Proof.Machine.execIsaSubs e d a b s
  | .isaMin e d a b => Sys2Proof.Machine.execIsaMin e d a b s
  | .isaMax e d a b => Sys2Proof.Machine.execIsaMax e d a b s
  | .isaMinu e d a b => Sys2Proof.Machine.execIsaMinu e d a b s
  | .isaMaxu e d a b => Sys2Proof.Machine.execIsaMaxu e d a b s
  | .isaCmp e a b => Sys2Proof.Machine.execIsaCmp e a b s
  | .isaTst e a b => Sys2Proof.Machine.execIsaTst e a b s
  | .isaAbs e d a => Sys2Proof.Machine.execIsaAbs e d a s
  | .isaNeg e d a => Sys2Proof.Machine.execIsaNeg e d a s
  | .isaClz e d a => Sys2Proof.Machine.execIsaClz e d a s
  | .isaAddi e d a imm => Sys2Proof.Machine.execIsaAddi e d a imm s
  | .isaAndi e d a imm => Sys2Proof.Machine.execIsaAndi e d a imm s
  | .isaOri e d a imm => Sys2Proof.Machine.execIsaOri e d a imm s
  | .isaXori e d a imm => Sys2Proof.Machine.execIsaXori e d a imm s
  | .isaShli e d a n => Sys2Proof.Machine.execIsaShli e d a n s
  | .isaShri e d a n => Sys2Proof.Machine.execIsaShri e d a n s
  | .isaSari e d a n => Sys2Proof.Machine.execIsaSari e d a n s
  | .isaRori e d a n => Sys2Proof.Machine.execIsaRori e d a n s
  | .isaCmpi e a imm => Sys2Proof.Machine.execIsaCmpi e a imm s
  | .isaMovi e d imm => Sys2Proof.Machine.execIsaMovi e d imm s
  | .isaMovhi e d imm => Sys2Proof.Machine.execIsaMovhi e d imm s
  | .isaMul e d a b => Sys2Proof.Machine.execIsaMul e d a b s
  | .isaMulh e d a b => Sys2Proof.Machine.execIsaMulh e d a b s
  | .isaMulhu e d a b => Sys2Proof.Machine.execIsaMulhu e d a b s
  | .isaMac e a b => Sys2Proof.Machine.execIsaMac e a b s
  | .isaMsu e a b => Sys2Proof.Machine.execIsaMsu e a b s
  | .isaMacQ31 e a b => Sys2Proof.Machine.execIsaMacQ31 e a b s
  | .isaMsuQ31 e a b => Sys2Proof.Machine.execIsaMsuQ31 e a b s
  | .isaMacQ15 e a b => Sys2Proof.Machine.execIsaMacQ15 e a b s
  | .isaMsuQ15 e a b => Sys2Proof.Machine.execIsaMsuQ15 e a b s
  | .isaDiv e d a b => Sys2Proof.Machine.execIsaDiv e d a b s
  | .isaDivu e d a b => Sys2Proof.Machine.execIsaDivu e d a b s
  | .isaRem e d a b => Sys2Proof.Machine.execIsaRem e d a b s
  | .isaRemu e d a b => Sys2Proof.Machine.execIsaRemu e d a b s
  | .isaBfx e d a pos wm1 => Sys2Proof.Machine.execIsaBfx e d a pos wm1 s
  | .isaBfxs e d a pos wm1 => Sys2Proof.Machine.execIsaBfxs e d a pos wm1 s
  | .isaBfi e d a pos wm1 => Sys2Proof.Machine.execIsaBfi e d a pos wm1 s
  | .isaRaccLo e d clear => Sys2Proof.Machine.execIsaRaccLo e d clear s
  | .isaRaccHi e d clear => Sys2Proof.Machine.execIsaRaccHi e d clear s
  | .isaRaccQ31 e d clear => Sys2Proof.Machine.execIsaRaccQ31 e d clear s
  | .isaRaccQ15 e d clear => Sys2Proof.Machine.execIsaRaccQ15 e d clear s
  | .isaWacc e a b => Sys2Proof.Machine.execIsaWacc e a b s
  | .isaLdw e d a imm => Sys2Proof.Machine.execIsaLdw e d a imm s
  | .isaLdhs e d a imm => Sys2Proof.Machine.execIsaLdhs e d a imm s
  | .isaLdhu e d a imm => Sys2Proof.Machine.execIsaLdhu e d a imm s
  | .isaLdbs e d a imm => Sys2Proof.Machine.execIsaLdbs e d a imm s
  | .isaLdbu e d a imm => Sys2Proof.Machine.execIsaLdbu e d a imm s
  | .isaStw e d a imm => Sys2Proof.Machine.execIsaStw e d a imm s
  | .isaSth e d a imm => Sys2Proof.Machine.execIsaSth e d a imm s
  | .isaStb e d a imm => Sys2Proof.Machine.execIsaStb e d a imm s
  | .isaBCond e cond imm => Sys2Proof.Machine.execIsaBCond e cond imm s
  | .isaCall e imm => Sys2Proof.Machine.execIsaCall e imm s
  | .isaJr e a => Sys2Proof.Machine.execIsaJr e a s
  | .isaCallr e a => Sys2Proof.Machine.execIsaCallr e a s
  | .isaLoop e a imm => Sys2Proof.Machine.execIsaLoop e a imm s
  | .isaDbnz e d imm => Sys2Proof.Machine.execIsaDbnz e d imm s
  | .isaRput e a b => Sys2Proof.Machine.execIsaRput e a b s
  | .isaRpute e a b => Sys2Proof.Machine.execIsaRpute e a b s
  | .isaRget e d a => Sys2Proof.Machine.execIsaRget e d a s
  | .isaRtry e d a => Sys2Proof.Machine.execIsaRtry e d a s
  | .isaRinfo e d a words => Sys2Proof.Machine.execIsaRinfo e d a words s
  | .isaRdropp e a => Sys2Proof.Machine.execIsaRdropp e a s
  | .isaBalloc e d => Sys2Proof.Machine.execIsaBalloc e d s
  | .isaBtry e d => Sys2Proof.Machine.execIsaBtry e d s
  | .isaBfree e a => Sys2Proof.Machine.execIsaBfree e a s
  | .isaBgive e a b => Sys2Proof.Machine.execIsaBgive e a b s
  | .isaPin e d port => Sys2Proof.Machine.execIsaPin e d port s
  | .isaPout e d port => Sys2Proof.Machine.execIsaPout e d port s
  | .isaPinr e d a => Sys2Proof.Machine.execIsaPinr e d a s
  | .isaPoutr e a b => Sys2Proof.Machine.execIsaPoutr e a b s
  | .isaCtl e d => Sys2Proof.Machine.execIsaCtl e d s
  | .isaCth e d => Sys2Proof.Machine.execIsaCth e d s
  | .isaCyc e d => Sys2Proof.Machine.execIsaCyc e d s
  | .isaWmark e => Sys2Proof.Machine.execIsaWmark e s
  | .isaWtime e a b => Sys2Proof.Machine.execIsaWtime e a b s
  | .isaEvwait e d => Sys2Proof.Machine.execIsaEvwait e d s
  | .isaEvpoll e d => Sys2Proof.Machine.execIsaEvpoll e d s
  | .isaEvsig e a => Sys2Proof.Machine.execIsaEvsig e a s
  | .isaLacq e d a => Sys2Proof.Machine.execIsaLacq e d a s
  | .isaLtry e d a => Sys2Proof.Machine.execIsaLtry e d a s
  | .isaLrel e a => Sys2Proof.Machine.execIsaLrel e a s
  | .isaLclr e a => Sys2Proof.Machine.execIsaLclr e a s
  | .isaMsend e d a b => Sys2Proof.Machine.execIsaMsend e d a b s
  | .isaMrecv e d a => Sys2Proof.Machine.execIsaMrecv e d a s
  | .isaMtry e d a => Sys2Proof.Machine.execIsaMtry e d a s
  | .isaCsrr e d n => Sys2Proof.Machine.execIsaCsrr e d n s
  | .isaCsrw e n a => Sys2Proof.Machine.execIsaCsrw e n a s
  | .isaNop e => Sys2Proof.Machine.execIsaNop e s
  | .isaHalt e => Sys2Proof.Machine.execIsaHalt e s
  | .isaTrap e code => Sys2Proof.Machine.execIsaTrap e code s
  | .isaWflg e a => Sys2Proof.Machine.execIsaWflg e a s
  | .isaCrc16B e d a => Sys2Proof.Machine.execIsaCrc16B e d a s
  | .isaCrc16W e d a => Sys2Proof.Machine.execIsaCrc16W e d a s
  | .isaCrc32B e d a => Sys2Proof.Machine.execIsaCrc32B e d a s
  | .isaCrc32W e d a => Sys2Proof.Machine.execIsaCrc32W e d a s
  | .illegalInstruction e word => Sys2Proof.Machine.execIllegalInstruction e word s
  | .runnerEnable r q => Sys2Proof.Machine.execRunnerEnable r q s
  | .runnerDisable r q => Sys2Proof.Machine.execRunnerDisable r q s
  | .mput r q w => Sys2Proof.Machine.execMput r q w s
  | .mputE r q w => Sys2Proof.Machine.execMputE r q w s
  | .mdropp r q => Sys2Proof.Machine.execMdropp r q s
  | .mget r q => Sys2Proof.Machine.execMget r q s
  | .mgetTimeout q => Sys2Proof.Machine.execMgetTimeout q s
  | .hardwarePut q producer packet => Sys2Proof.Machine.execHardwarePut q producer packet s
  | .runnerPointerCheck q => Sys2Proof.Machine.execRunnerPointerCheck q s
  | .runnerOvlEnd q => Sys2Proof.Machine.execRunnerOvlEnd q s
  | .lockTry r lock => Sys2Proof.Machine.execLockTry r lock s
  | .lockRelease r lock => Sys2Proof.Machine.execLockRelease r lock s
  | .lockClearPoison r lock => Sys2Proof.Machine.execLockClearPoison r lock s
  | .bAlloc r => Sys2Proof.Machine.execBAlloc r s
  | .bFree r buf => Sys2Proof.Machine.execBFree r buf s
  | .bGive r buf owner => Sys2Proof.Machine.execBGive r buf owner s
  | .mSend r v => Sys2Proof.Machine.execMSend r v s
  | .mRecvSel r m => Sys2Proof.Machine.execMRecvSel r m s
  | .mRecv r => Sys2Proof.Machine.execMRecv r s
  | .mbxFlush r m => Sys2Proof.Machine.execMbxFlush r m s
  | .poolOvlEnd => Sys2Proof.Machine.execPoolOvlEnd s
  | .flaskFence faults => Sys2Proof.Machine.execFlaskFence faults s
  | .fenceQueuedStart => Sys2Proof.Machine.execFenceQueuedStart s
  | .fenceLaneUpdate => Sys2Proof.Machine.execFenceLaneUpdate s
  | .fenceCmd r f => Sys2Proof.Machine.execFenceCmd r f s
  | .revive r f => Sys2Proof.Machine.execRevive r f s
  | .arClr r f => Sys2Proof.Machine.execArClr r f s
  | .autoRevive f => Sys2Proof.Machine.execAutoRevive f s
  | .autoReviveRetry => Sys2Proof.Machine.execAutoReviveRetry s
  | .arStableExpire f => Sys2Proof.Machine.execArStableExpire f s
  | .sofReceive frame => Sys2Proof.Machine.execSofReceive frame s
  | .microframeTick => Sys2Proof.Machine.execMicroframeTick s
  | .portConnectChange p connected speed => Sys2Proof.Machine.execPortConnectChange p connected speed s
  | .portBabble p => Sys2Proof.Machine.execPortBabble p s
  | .getStatus d rcp index => Sys2Proof.Machine.execGetStatus d rcp index s
  | .clearFeature d rcp sel index => Sys2Proof.Machine.execClearFeature d rcp sel index s
  | .setFeature d rcp sel index => Sys2Proof.Machine.execSetFeature d rcp sel index s
  | .setAddress d addr => Sys2Proof.Machine.execSetAddress d addr s
  | .getDescriptor d kind index length => Sys2Proof.Machine.execGetDescriptor d kind index length s
  | .getConfiguration d => Sys2Proof.Machine.execGetConfiguration d s
  | .setConfiguration d value => Sys2Proof.Machine.execSetConfiguration d value s
  | .getInterface d index => Sys2Proof.Machine.execGetInterface d index s
  | .setInterface d index alt => Sys2Proof.Machine.execSetInterface d index alt s
  | .hubRequestStall d rt request value index => Sys2Proof.Machine.execHubRequestStall d rt request value index s
  | .getHubStatus d => Sys2Proof.Machine.execGetHubStatus d s
  | .clearHubFeature d sel => Sys2Proof.Machine.execClearHubFeature d sel s
  | .getHubDescriptor d length => Sys2Proof.Machine.execGetHubDescriptor d length s
  | .getPortStatus p => Sys2Proof.Machine.execGetPortStatus p s
  | .setPortReset p => Sys2Proof.Machine.execSetPortReset p s
  | .setPortSuspend p => Sys2Proof.Machine.execSetPortSuspend p s
  | .setPortPower p => Sys2Proof.Machine.execSetPortPower p s
  | .setPortTest p mode => Sys2Proof.Machine.execSetPortTest p mode s
  | .clearPortEnable p => Sys2Proof.Machine.execClearPortEnable p s
  | .clearPortSuspend p => Sys2Proof.Machine.execClearPortSuspend p s
  | .clearPortPower p => Sys2Proof.Machine.execClearPortPower p s
  | .clearPortL1 p => Sys2Proof.Machine.execClearPortL1 p s
  | .clearPortChange p bit => Sys2Proof.Machine.execClearPortChange p bit s
  | .clearTtBuffer p ep => Sys2Proof.Machine.execClearTtBuffer p ep s
  | .resetTt p => Sys2Proof.Machine.execResetTt p s
  | .getTtState p => Sys2Proof.Machine.execGetTtState p s
  | .stopTt p => Sys2Proof.Machine.execStopTt p s
  | .portResetEnd p speed => Sys2Proof.Machine.execPortResetEnd p speed s
  | .portResumeEnd p => Sys2Proof.Machine.execPortResumeEnd p s
  | .l1ExitEnd p => Sys2Proof.Machine.execL1ExitEnd p s
  | .deviceRemoteWake p => Sys2Proof.Machine.execDeviceRemoteWake p s
  | .upstreamSuspend => Sys2Proof.Machine.execUpstreamSuspend s
  | .hubRemoteWake => Sys2Proof.Machine.execHubRemoteWake s
  | .upstreamResume => Sys2Proof.Machine.execUpstreamResume s
  | .upstreamBusReset hs => Sys2Proof.Machine.execUpstreamBusReset hs s
  | .lpmToken besl => Sys2Proof.Machine.execLpmToken besl s
  | .periodicStartSplit p ep byteTimes => Sys2Proof.Machine.execPeriodicStartSplit p ep byteTimes s
  | .nonperiodicStartSplit p ep data => Sys2Proof.Machine.execNonperiodicStartSplit p ep data s
  | .completeSplit p ep outcome => Sys2Proof.Machine.execCompleteSplit p ep outcome s
  | .statusChangeIn => Sys2Proof.Machine.execStatusChangeIn s
  | .hubEnable r => Sys2Proof.Machine.execHubEnable r s
  | .hubDisable r => Sys2Proof.Machine.execHubDisable r s
  | .hubRwake r => Sys2Proof.Machine.execHubRwake r s
  | .mgmtRead tag addr len => Sys2Proof.Machine.execMgmtRead tag addr len s
  | .mgmtWrite tag addr data => Sys2Proof.Machine.execMgmtWrite tag addr data s
  | .imageBegin tag len => Sys2Proof.Machine.execImageBegin tag len s
  | .imageData tag off data => Sys2Proof.Machine.execImageData tag off data s
  | .imageEnd tag => Sys2Proof.Machine.execImageEnd tag s
  | .echo tag => Sys2Proof.Machine.execEcho tag s
  | .badRequest op tag => Sys2Proof.Machine.execBadRequest op tag s
  | .eventEndpointIn => Sys2Proof.Machine.execEventEndpointIn s
  | .portL1Entry p besl => Sys2Proof.Machine.execPortL1Entry p besl s
  | .widePresentChange => Sys2Proof.Machine.execWidePresentChange s
  | .wideAttach => Sys2Proof.Machine.execWideAttach s
  | .wideEnable r => Sys2Proof.Machine.execWideEnable r s
  | .wideDisable r => Sys2Proof.Machine.execWideDisable r s
  | .downRecordExecute w reply => Sys2Proof.Machine.execDownRecordExecute w reply s
  | .pollRun replies => Sys2Proof.Machine.execPollRun replies s
  | .wideHostIn w dev ep => Sys2Proof.Machine.execWideHostIn w dev ep s
  | .wideHostOut w dev ep pid data => Sys2Proof.Machine.execWideHostOut w dev ep pid data s
  | .wideHostPing w dev ep => Sys2Proof.Machine.execWideHostPing w dev ep s
  | .wideHostSetup w dev data => Sys2Proof.Machine.execWideHostSetup w dev data s
  | .wideSplit x => Sys2Proof.Machine.execWideSplit x s
  | .pollResultIn e => Sys2Proof.Machine.execPollResultIn e s
  | .pollOutData e pid data => Sys2Proof.Machine.execPollOutData e pid data s
  | .widePortRequest w x => Sys2Proof.Machine.execWidePortRequest w x s
  | .getPortMap w => Sys2Proof.Machine.execGetPortMap w s
  | .widePortOrphan w => Sys2Proof.Machine.execWidePortOrphan w s
  | .wideOvlEnd => Sys2Proof.Machine.execWideOvlEnd s
  | .ccChange c cc1 cc2 => Sys2Proof.Machine.execCcChange c cc1 cc2 s
  | .tcTimerExpire c t => Sys2Proof.Machine.execTcTimerExpire c t s
  | .drpToggle c => Sys2Proof.Machine.execDrpToggle c s
  | .vbusRemoval c => Sys2Proof.Machine.execVbusRemoval c s
  | .pdMessageReceive c m => Sys2Proof.Machine.execPdMessageReceive c m s
  | .txGo e c v => Sys2Proof.Machine.execTxGo e c v s
  | .sinkTxWaitEnd c => Sys2Proof.Machine.execSinkTxWaitEnd c s
  | .crcReceiveTimeout c => Sys2Proof.Machine.execCrcReceiveTimeout c s
  | .txComplete c => Sys2Proof.Machine.execTxComplete c s
  | .hardResetReceive c => Sys2Proof.Machine.execHardResetReceive c s
  | .psHardResetExpire c => Sys2Proof.Machine.execPsHardResetExpire c s
  | .srcRecoverExpire c => Sys2Proof.Machine.execSrcRecoverExpire c s
  | .sinkHardResetExpire c => Sys2Proof.Machine.execSinkHardResetExpire c s
  | .rxStatWrite e c v => Sys2Proof.Machine.execRxStatWrite e c v s
  | .vsetWrite e c v => Sys2Proof.Machine.execVsetWrite e c v s
  | .vsetRampStep c => Sys2Proof.Machine.execVsetRampStep c s
  | .ppsLimitStep c mA => Sys2Proof.Machine.execPpsLimitStep c mA s
  | .contractWrite e c v => Sys2Proof.Machine.execContractWrite e c v s
  | .kick e c => Sys2Proof.Machine.execKick e c s
  | .rpWrite e c v => Sys2Proof.Machine.execRpWrite e c v s
  | .cuffHardReset e c => Sys2Proof.Machine.execCuffHardReset e c s
  | .cuffCableReset e c => Sys2Proof.Machine.execCuffCableReset e c s
  | .cuffSrcOn e c => Sys2Proof.Machine.execCuffSrcOn e c s
  | .cuffSrcOff e c => Sys2Proof.Machine.execCuffSrcOff e c s
  | .cuffVconnOn e c => Sys2Proof.Machine.execCuffVconnOn e c s
  | .cuffVconnOff e c => Sys2Proof.Machine.execCuffVconnOff e c s
  | .cuffRoleRp e c => Sys2Proof.Machine.execCuffRoleRp e c s
  | .cuffRoleRd e c => Sys2Proof.Machine.execCuffRoleRd e c s
  | .cuffDataDfp e c => Sys2Proof.Machine.execCuffDataDfp e c s
  | .cuffDataUfp e c => Sys2Proof.Machine.execCuffDataUfp e c s
  | .cuffSwapBegin e c => Sys2Proof.Machine.execCuffSwapBegin e c s
  | .cuffSwapEnd e c => Sys2Proof.Machine.execCuffSwapEnd e c s
  | .cuffAmsEnd e c => Sys2Proof.Machine.execCuffAmsEnd e c s
  | .cuffAltOn e c => Sys2Proof.Machine.execCuffAltOn e c s
  | .cuffAltOff e c => Sys2Proof.Machine.execCuffAltOff e c s
  | .cuffFrsArm e c => Sys2Proof.Machine.execCuffFrsArm e c s
  | .cuffFrsDisarm e c => Sys2Proof.Machine.execCuffFrsDisarm e c s
  | .cuffErrorRecovery e c => Sys2Proof.Machine.execCuffErrorRecovery e c s
  | .swapTimeout c => Sys2Proof.Machine.execSwapTimeout c s
  | .frsTrigger => Sys2Proof.Machine.execFrsTrigger s
  | .frsSignalEnd c => Sys2Proof.Machine.execFrsSignalEnd c s
  | .policyHandover c => Sys2Proof.Machine.execPolicyHandover c s
  | .policyToFirmware c => Sys2Proof.Machine.execPolicyToFirmware c s
  | .cuffPolicyWdogExpire c => Sys2Proof.Machine.execCuffPolicyWdogExpire c s
  | .cuffInstrumentFault c code => Sys2Proof.Machine.execCuffInstrumentFault c code s
  | .cuffEnable r c => Sys2Proof.Machine.execCuffEnable r c s
  | .cuffDisable r c => Sys2Proof.Machine.execCuffDisable r c s
  | .channelClose ch vout => Sys2Proof.Machine.execChannelClose ch vout s
  | .channelOpen ch => Sys2Proof.Machine.execChannelOpen ch s
  | .guardRelease ch vout => Sys2Proof.Machine.execGuardRelease ch vout s
  | .rampEnd ch => Sys2Proof.Machine.execRampEnd ch s
  | .rampTimeout => Sys2Proof.Machine.execRampTimeout s
  | .faultTimerTrip ch => Sys2Proof.Machine.execFaultTimerTrip ch s
  | .shortCircuitTrip ch => Sys2Proof.Machine.execShortCircuitTrip ch s
  | .thermalTrip ch => Sys2Proof.Machine.execThermalTrip ch s
  | .hpReverseOpen h => Sys2Proof.Machine.execHpReverseOpen h s
  | .trReverseTrip => Sys2Proof.Machine.execTrReverseTrip s
  | .retryWaitEnd ch vout => Sys2Proof.Machine.execRetryWaitEnd ch vout s
  | .retryStable ch => Sys2Proof.Machine.execRetryStable ch s
  | .switchStuck ch => Sys2Proof.Machine.execSwitchStuck ch s
  | .fuseEnable r ch => Sys2Proof.Machine.execFuseEnable r ch s
  | .fuseDisable r ch => Sys2Proof.Machine.execFuseDisable r ch s
  | .rearm r ch => Sys2Proof.Machine.execRearm r ch s
  | .thermalReclose ch vout => Sys2Proof.Machine.execThermalReclose ch vout s
  | .hpReverseReclose h vout => Sys2Proof.Machine.execHpReverseReclose h vout s
  | .ainOn r mask => Sys2Proof.Machine.execAinOn r mask s
  | .ainOff r mask => Sys2Proof.Machine.execAinOff r mask s
  | .saEnable r => Sys2Proof.Machine.execSaEnable r s
  | .saDisable r => Sys2Proof.Machine.execSaDisable r s
  | .sbEnable r => Sys2Proof.Machine.execSbEnable r s
  | .sbDisable r => Sys2Proof.Machine.execSbDisable r s
  | .bridgeEnable r => Sys2Proof.Machine.execBridgeEnable r s
  | .bridgeDisable r => Sys2Proof.Machine.execBridgeDisable r s
  | .counterEnable r => Sys2Proof.Machine.execCounterEnable r s
  | .counterDisable r => Sys2Proof.Machine.execCounterDisable r s
  | .burstStart k idx readings => Sys2Proof.Machine.execBurstStart k idx readings s
  | .bridgeResult b raw => Sys2Proof.Machine.execBridgeResult b raw s
  | .pulseEdge p edge => Sys2Proof.Machine.execPulseEdge p edge s
  | .pcSnapshot => Sys2Proof.Machine.execPcSnapshot s
  | .shuntOvercurrent n => Sys2Proof.Machine.execShuntOvercurrent n s
  | .shuntRetry n microAmp => Sys2Proof.Machine.execShuntRetry n microAmp s
  | .measInstrumentFault code unit => Sys2Proof.Machine.execMeasInstrumentFault code unit s
  | .calibrationStart u => Sys2Proof.Machine.execCalibrationStart u s
  | .calibrationDone u => Sys2Proof.Machine.execCalibrationDone u s
  | .setpointArrive o => Sys2Proof.Machine.execSetpointArrive o s
  | .driverFault o code => Sys2Proof.Machine.execDriverFault o code s
  | .drvEnable r o => Sys2Proof.Machine.execDrvEnable r o s
  | .drvDisable r o => Sys2Proof.Machine.execDrvDisable r o s
  | .faultClr r o present => Sys2Proof.Machine.execFaultClr r o present s
  | .outSet r n bits => Sys2Proof.Machine.execOutSet r n bits s
  | .outClr r n bits => Sys2Proof.Machine.execOutClr r n bits s
  | .outTog r n bits => Sys2Proof.Machine.execOutTog r n bits s
  | .outWr r n value mask => Sys2Proof.Machine.execOutWr r n value mask s
  | .pinBitWrite e n m v => Sys2Proof.Machine.execPinBitWrite e n m v s
  | .evcapEdge k rising => Sys2Proof.Machine.execEvcapEdge k rising s
  | .strobeEnd apply => Sys2Proof.Machine.execStrobeEnd apply s
  | .hviDebounceExpire idx level => Sys2Proof.Machine.execHviDebounceExpire idx level s
  | .hviWake idx rising => Sys2Proof.Machine.execHviWake idx rising s
  | .holdRel r => Sys2Proof.Machine.execHoldRel r s
  | .canEnable r c => Sys2Proof.Machine.execCanEnable r c s
  | .canIntegrated c => Sys2Proof.Machine.execCanIntegrated c s
  | .canDisable r c => Sys2Proof.Machine.execCanDisable r c s
  | .canRecover r c => Sys2Proof.Machine.execCanRecover r c s
  | .canBusOff c => Sys2Proof.Machine.execCanBusOff c s
  | .canBusOffRecovered c => Sys2Proof.Machine.execCanBusOffRecovered c s
  | .canFrameReceive c f => Sys2Proof.Machine.execCanFrameReceive c f s
  | .canTxBufferWrite e c t w v => Sys2Proof.Machine.execCanTxBufferWrite e c t w v s
  | .canTxGo e c t => Sys2Proof.Machine.execCanTxGo e c t s
  | .canTxAbort e c t => Sys2Proof.Machine.execCanTxAbort e c t s
  | .canTxComplete c outcome => Sys2Proof.Machine.execCanTxComplete c outcome s
  | .sessionStage e c idx w v => Sys2Proof.Machine.execSessionStage e c idx w v s
  | .sessionOpen e c idx size => Sys2Proof.Machine.execSessionOpen e c idx size s
  | .sessionClose e c idx => Sys2Proof.Machine.execSessionClose e c idx s
  | .sessionTimeout c idx => Sys2Proof.Machine.execSessionTimeout c idx s
  | .canBusError c dominantAfterFlag => Sys2Proof.Machine.execCanBusError c dominantAfterFlag s
  | .scrubTick m found => Sys2Proof.Machine.execScrubTick m found s
  | .scrubRewrite foregroundWrite => Sys2Proof.Machine.execScrubRewrite foregroundWrite s
  | .norForegroundRequest => Sys2Proof.Machine.execNorForegroundRequest s
  | .journalAppend programOk => Sys2Proof.Machine.execJournalAppend programOk s
  | .jrnlKey r v => Sys2Proof.Machine.execJrnlKey r v s
  | .jrnlData r j w => Sys2Proof.Machine.execJrnlData r j w s
  | .jrnlPut r => Sys2Proof.Machine.execJrnlPut r s
  | .jrnlDurable => Sys2Proof.Machine.execJrnlDurable s
  | .journalFormat => Sys2Proof.Machine.execJournalFormat s
  | .logPageProgram => Sys2Proof.Machine.execLogPageProgram s
  | .logIdx r n => Sys2Proof.Machine.execLogIdx r n s
  | .logReadDone => Sys2Proof.Machine.execLogReadDone s
  | .marginScanStart => Sys2Proof.Machine.execMarginScanStart s
  | .testPins r scope force => Sys2Proof.Machine.execTestPins r scope force s
  | .testNeighbour r scope => Sys2Proof.Machine.execTestNeighbour r scope s
  | .testLbist r scope force => Sys2Proof.Machine.execTestLbist r scope force s
  | .nbCycle r c => Sys2Proof.Machine.execNbCycle r c s
  | .nbPrbsStart => Sys2Proof.Machine.execNbPrbsStart s
  | .nbTrunkCapture => Sys2Proof.Machine.execNbTrunkCapture s
  | .testDone o => Sys2Proof.Machine.execTestDone o s
  | .testAbortCondition cause => Sys2Proof.Machine.execTestAbortCondition cause s
  | .testAbort r => Sys2Proof.Machine.execTestAbort r s
  | .tapBypass => Sys2Proof.Machine.execTapBypass s
  | .tapIdcode => Sys2Proof.Machine.execTapIdcode s
  | .tapSamplePreload sampled preload => Sys2Proof.Machine.execTapSamplePreload sampled preload s
  | .tapExtest => Sys2Proof.Machine.execTapExtest s
  | .tapExtestPulse => Sys2Proof.Machine.execTapExtestPulse s
  | .tapExtestTrain => Sys2Proof.Machine.execTapExtestTrain s
  | .tapClamp => Sys2Proof.Machine.execTapClamp s
  | .tapHighz => Sys2Proof.Machine.execTapHighz s
  | .eventFire source detail => Sys2Proof.Machine.execEventFire source detail s
  | .eventSignal r source => Sys2Proof.Machine.execEventSignal r source s

end Sys2Proof.Machine
end

