-- ==== Sys2Proof/Machine/Tick.lean ====
section
/-! DEFINITION. The block's clock: what one cc does when no command waits (DESIGN CHOICE, log entry 1). -/

namespace Sys2Proof.Machine

/-- The CSR that counts cc in RUN and WAIT, to all-ones (10_sprue_instruction_set.md Table ISA-13, 03_register_model.md R55). -/
def Chip.csrCount (s : Chip) (e : Nat) : Chip :=
  let n := (s.eng e).cc
  if n.toNat + 1 < 2 ^ 32 then s.setEng e { s.eng e with cc := n + 1 } else s

/-- The counters of cc in RUN and in WAIT (09_sprue_engines.md, Registers). -/
def Chip.engCount (s : Chip) (e : Nat) : Chip :=
  if s.engState e = 1 then (s.inc (Reg.ENG_RUN_CC e)).csrCount e
  else if s.engState e = 2 then (s.inc (Reg.ENG_WAIT_CC e)).csrCount e
  else s

/-- A microsecond of engine e's watchdog (R203): it counts in RUN and WAIT, and at 0 the engine takes trap 4. -/
def Chip.wdogCount (s : Chip) (e : Nat) : Chip :=
  let n := s.get (Reg.ENG_WDOG_LEFT e)
  if (s.engState e = 1 ∨ s.engState e = 2) ∧ s.wkB (Reg.ENG_WDOG e) ∧ n ≠ 0 then
    if n = 1 then s.wdogExpire e else s.put (Reg.ENG_WDOG_LEFT e) (n - 1)
  else s

/-- A microsecond ends: the watchdogs count, and each counter's oldest stamp goes to its runner (18_measurement.md R409). -/
def Chip.usTick (s : Chip) : Chip := (s.each (List.range 32) (fun s e => s.wdogCount e)).stampsDrain

/-- One cc of the core die; frames of a head whose time has come go out (06_cycle_frames_and_gate.md R146), and the
field die hears of port power that changed (14_local_hub.md R300). -/
def Chip.coreTick (s : Chip) : Chip :=
  if !s.coreUp then s else
  let s := (s.ctTick.sendDue).each (List.range 32) (fun s e => s.engCount e)
  let s := s.evtTick.mgmtDrive.tellTerms
  let s := if s.flag Reg.BKG_STAT_NOR_FG && !s.bootUsesNor then s.norFree else s
  if s.usCc < 399 then { s with usCc := s.usCc + 1 } else ({ s with usCc := 0 }).usTick

/-- One cc of the keep domain: its wake timer counts seconds (04_power_up_to_service.md R93). -/
def Chip.keepTick (s : Chip) : Chip :=
  if s.pwr.timer = 0 then s
  else if s.pwr.timerCc < 399999999 then { s with pwr := { s.pwr with timerCc := s.pwr.timerCc + 1 } }
  else ({ s with pwr := { s.pwr with timerCc := 0 } }).wakeSecond

/-- One cc of the block. -/
def Chip.ccTick (s : Chip) : Chip := (((s.coreTick).fieldTick).keepTick).cuffTick

end Sys2Proof.Machine
end

