-- ==== Sys2Proof/Safety.lean ====
section
/-! DEFINITION. What claims about a run are stated in: the canonical form of the memories, how a command completes, when a requester's
access reaches its register, when an engine executes an instruction and how the instruction ends. -/

namespace Sys2Proof.Machine

/-- A memory in canonical form: addresses strictly rising, and no entry equal to what an unlisted address reads as. -/
def Memory.wf (d : BitVec 8) (m : SMap (BitVec 8)) : Bool := SMap.wf m && m.all (fun e => e.2 != d)

/-- The memories of the block are in canonical form: the RAMs, whose unlisted bytes read 0, and the NOR, whose unlisted bytes are
erased (log entry 3). -/
def Chip.memoriesWf (s : Chip) : Bool := Memory.wf 0 s.mem && Memory.wf 0xFF s.nor

/-- A command answers a next state whose queue is the same and whose block is as `p` says. -/
def Completes (i : Instr) (s : State) (p : Chip → Prop) : Prop := ∃ c : Chip, exec i s = .next { s with chip := c } ∧ p c

/-- A command answers the next state with this block and the same queue. -/
def Gives (i : Instr) (s : State) (c : Chip) : Prop := exec i s = .next { s with chip := c }

/-- A step never faults and never refuses. -/
def Step.total (s : State) : Prop := ∃ t, step s = .next t

/-- An access of requester r to the register at a word address reaches it: the core die is out of reset, a block defines the
register, the management function is not held to FLASK (13_flasks_and_warden.md R295), and no test occupies the unit (23_stitch_test_and_bist.md R489). -/
def Chip.takes (s : Chip) (r : Requester) (addr : Nat) : Bool :=
  s.coreUp &&
  match locate addr with
  | none => false
  | some l => !(r == .mgmt && !s.active 52 && l.blk != 8) && !s.occupied l

/-- A register command of requester r at an address that ended in STATE_REJECT, with nothing else of it (03_register_model.md R67, R53). -/
def Chip.rejected (s : Chip) (r : Requester) (addr blk inst off : Nat) : Chip := (s.reject r.code blk inst off).respond r addr .reject

/-- Engine e executes an instruction: the core die is out of reset, the engine is in RUN, and the word at its program counter has no
uncorrectable error (09_sprue_engines.md R194, R195). -/
def Chip.executes (s : Chip) (e : Fin 32) : Bool := s.coreUp && s.engState e.val == 1 && (s.fetchEcc e.val).1

/-- The block once engine e has read the word at its program counter through the ECC. -/
def Chip.fetched (s : Chip) (e : Fin 32) : Chip := (s.fetchEcc e.val).2

/-- Register gN of engine e; g0 reads 0. -/
def Chip.g (s : Chip) (e : Fin 32) (n : Fin 16) : BitVec 32 := (s.eng e.val).reg n.val

/-- The program counter of engine e. -/
def Chip.pc (s : Chip) (e : Fin 32) : Nat := s.get (Reg.ENG_PC e.val)

/-- Flags Z and N of a result (10_sprue_instruction_set.md R224). -/
def flagsZN (r : BitVec 32) : FlagUpd := { z := some (r == 0), n := some r.msb }

/-- Flags Z and N of a result, with C and V. -/
def flagsZNCV (r : BitVec 32) (c v : Bool) : FlagUpd := { z := some (r == 0), n := some r.msb, c := some c, v := some v }

/-- The end of an instruction of engine e that wrote gd and these flags, and transferred no control. -/
def Chip.wrote (t : Chip) (e : Fin 32) (d : Fin 16) (r : BitVec 32) (u : FlagUpd) : Chip :=
  (t.setEng e.val (((t.eng e.val).setReg d.val r).upd u)).engNext e.val

/-- The end of an access instruction of engine e that wrote gd: what contention added within the bound, ACCESS, then on to the next word
(10_sprue_instruction_set.md R230, 09_sprue_engines.md Table ENG-6). -/
def Chip.wroteAccess (t : Chip) (e : Fin 32) (d : Fin 16) (r : BitVec 32) (u : FlagUpd) (bound access : Nat) : Chip :=
  (t.setEng e.val (((t.eng e.val).setReg d.val r).upd u)).accessEnd e.val bound access

/-- The end of an instruction of engine e that changed ACC alone and, where it saturated, set S. -/
def Chip.wroteAcc (t : Chip) (e : Fin 32) (acc : BitVec 64) (saturated : Bool) : Chip :=
  (t.setEng e.val { t.eng e.val with acc := acc, sat := (t.eng e.val).sat || saturated }).engNext e.val

/-- Flags of a shift or rotate by n: Z and N of the result, and C the last bit shifted out, unchanged where n is 0 (R224). -/
def flagsShift (r : BitVec 32) (n : Nat) (last : Bool) : FlagUpd :=
  { z := some (r == 0), n := some r.msb, c := if n = 0 then none else some last }

/-- The exact value i held to the signed 32-bit range, and Z, N of it, with S set where it was out of range (R224, R225). -/
def held32 (i : Int) : BitVec 32 := BitVec.ofInt 32 (max (-2147483648) (min 2147483647 i))

/-- Flags of a saturating result. -/
def flagsSat (i : Int) : FlagUpd :=
  { z := some (held32 i == 0), n := some (held32 i).msb, s := if i < -2147483648 ∨ 2147483647 < i then some true else none }

/-- Flags of a divide: Z and N of the result, and V (R228). -/
def flagsZNV (r : BitVec 32) (v : Bool) : FlagUpd := { z := some (r == 0), n := some r.msb, v := some v }

/-- The exact value i held to the signed 64-bit range (R226). -/
def held64 (i : Int) : Int := max (-9223372036854775808) (min 9223372036854775807 i)

/-- The state after n steps; none where one of them stops. -/
def Step.runs : Nat → State → Option State
  | 0, s => some s
  | n + 1, s => match step s with | .next t => Step.runs n t | _ => none

end Sys2Proof.Machine

namespace Sys2Proof

open Sys2Proof.Machine

/-- Commands that can store into a memory: those whose effect the spec lets reach the RAMs or the NOR. Every other command leaves each
byte of both as it was. -/
def Instr.stores (i : Instr) : Bool :=
  match i with
  | .registerWrite .. | .seamFrameReceive .. | .seamUpResume | .seamRetrainDone | .corePllLockLoss | .cycSend | .trunkPor | .railPgTimeout
  | .railDisableNext | .railReset .. | .nrstPulse | .nrstLong | .resetCore .. | .resetNode .. | .imageVerifyDone
  | .chainImageBegin | .chainImageData | .chainImageEnd | .bootStoreDone | .pwrStandby .. | .pwrOff .. | .pwrTrunkOff ..
  | .almReceive .. | .slpReceive .. | .frameEnd .. | .hopWr .. | .stWr .. | .stRw .. | .mbxPut .. | .headFrameReturn ..
  | .epochStart | .ckptChunk .. | .reserveTakeover | .loadDone .. | .codeRamWrite .. | .isaStw .. | .isaSth .. | .isaStb ..
  | .isaRput .. | .isaRpute .. | .isaPout .. | .isaPoutr .. | .isaMsend .. | .mput .. | .mputE .. | .hardwarePut ..
  | .runnerPointerCheck .. | .mSend .. | .flaskFence .. | .fenceQueuedStart | .mgmtRead .. | .mgmtWrite .. | .imageBegin ..
  | .imageData .. | .imageEnd .. | .echo .. | .badRequest .. | .burstStart .. | .bridgeResult .. | .pcSnapshot | .canDisable ..
  | .canFrameReceive .. | .canTxGo .. | .canTxAbort .. | .canTxComplete .. | .sessionOpen .. | .sessionClose ..
  | .sessionTimeout .. | .journalAppend .. | .journalFormat | .logPageProgram => true
  | _ => false

/-- The register a command writes, with the requester that writes it: for the commands that are each a write of one command register. -/
def Instr.registerOf (i : Instr) : Option (Requester × Nat) :=
  match i with
  | .seamRetrainGo r => some (r, Reg.SEAM_RETRAIN.addr)
  | .localPour r _ => some (r, Reg.SYS_POUR.addr)
  | .withdraw r _ => some (r, Reg.SYS_WITHDRAW.addr)
  | .chGo r _ => some (r, Reg.SYS_CH_GO_MASK.addr)
  | .resetCore r => some (r, Reg.SYS_RESET_CORE.addr)
  | .resetNode r => some (r, Reg.SYS_RESET_NODE.addr)
  | .bootStore r => some (r, Reg.SYS_BOOT_CMD.addr)
  | .otpStage r _ => some (r, Reg.SYS_OTP_STAGE.addr)
  | .otpProgKey r => some (r, Reg.SYS_OTP_PROG_KEY.addr)
  | .otpProgClear r => some (r, Reg.SYS_OTP_PROG_CLEAR.addr)
  | .rbCommit r => some (r, Reg.SYS_RB_COMMIT.addr)
  | .pwrRun r => some (r, Reg.SYS_PWR_REQ.addr)
  | .pwrIdle r => some (r, Reg.SYS_PWR_REQ.addr)
  | .pwrStandby r => some (r, Reg.SYS_PWR_REQ.addr)
  | .pwrOff r => some (r, Reg.SYS_PWR_REQ.addr)
  | .pwrTrunkOff r => some (r, Reg.SYS_PWR_REQ.addr)
  | .wakeTimer r _ => some (r, Reg.SYS_WAKE_TIMER.addr)
  | .linkEnable r p => some (r, (Reg.LINK_CTRL_ENABLE p.val).addr)
  | .linkDisable r p => some (r, (Reg.LINK_CTRL_DISABLE p.val).addr)
  | .linkRetrain r p => some (r, (Reg.LINK_CTRL_RETRAIN p.val).addr)
  | .linkWidth r p _ => some (r, (Reg.LINK_CTRL_WIDTH p.val).addr)
  | .marginGo r p _ => some (r, (Reg.LINK_MARGIN_CTRL_GO p.val).addr)
  | .sleepGo r _ => some (r, Reg.CHAIN_SLEEP_GO.addr)
  | .sleepProp r _ => some (r, Reg.CHAIN_SLEEP_PROP.addr)
  | .urgGo r _ => some (r, Reg.GATE_URG_GO.addr)
  | .assignUid0 r _ => some (r, Reg.CHAIN_ASSIGN_UID0.addr)
  | .assignUid1 r _ => some (r, Reg.CHAIN_ASSIGN_UID1.addr)
  | .assign r _ => some (r, Reg.CHAIN_ASSIGN_STATION.addr)
  | .stickyClr r => some (r, Reg.CHAIN_STICKY_CLR.addr)
  | .detach r _ => some (r, Reg.CHAIN_DETACH.addr)
  | .detachEnd r => some (r, Reg.CHAIN_DETACH.addr)
  | .ckptChunk r _ => some (r, (Reg.CHAIN_CKPT_IN 63).addr)
  | .revQLoad r _ => some (r, Reg.CHAIN_REV_Q.addr)
  | .handbackGo r _ => some (r, Reg.CHAIN_HANDBACK_GO.addr)
  | .engineStart r e => some (r, (Reg.ENG_CTL_START e.val).addr)
  | .engineHalt r e => some (r, (Reg.ENG_CTL_HALT e.val).addr)
  | .engineResume r e => some (r, (Reg.ENG_CTL_RESUME e.val).addr)
  | .engineReset r e => some (r, (Reg.ENG_CTL_RESET e.val).addr)
  | .armStart r e => some (r, (Reg.ENG_CTL_ARM_START e.val).addr)
  | .armHalt r e => some (r, (Reg.ENG_CTL_ARM_HALT e.val).addr)
  | .armClr r e => some (r, (Reg.ENG_CTL_ARM_CLR e.val).addr)
  | .startMask r _ => some (r, Reg.ENG_START_MASK.addr)
  | .haltMask r _ => some (r, Reg.ENG_HALT_MASK.addr)
  | .loadSrc r _ => some (r, Reg.ENG_LOAD_SRC.addr)
  | .loadGo r _ => some (r, Reg.ENG_LOAD_GO_ENGINE.addr)
  | .runnerEnable r q => some (r, (Reg.RUN_CTL_ENABLE q.val).addr)
  | .runnerDisable r q => some (r, (Reg.RUN_CTL_ENABLE q.val).addr)
  | .mput r q _ => some (r, (Reg.RUN_MPUT q.val).addr)
  | .mputE r q _ => some (r, (Reg.RUN_MPUT_E q.val).addr)
  | .mdropp r q => some (r, (Reg.RUN_MDROPP q.val).addr)
  | .mget r q => some (r, (Reg.RUN_MGET q.val).addr)
  | .lockTry r _ => some (r, Reg.SYNC_LOCK_CMD_LOCK.addr)
  | .lockRelease r _ => some (r, Reg.SYNC_LOCK_CMD_LOCK.addr)
  | .lockClearPoison r _ => some (r, Reg.SYNC_LOCK_CMD_LOCK.addr)
  | .bAlloc r => some (r, Reg.SYNC_B_ALLOC.addr)
  | .bFree r _ => some (r, Reg.SYNC_B_FREE.addr)
  | .bGive r _ _ => some (r, Reg.SYNC_B_GIVE_BUF.addr)
  | .mSend r _ => some (r, Reg.SYNC_M_SEND_BUF.addr)
  | .mRecvSel r _ => some (r, Reg.SYNC_M_RECV_SEL.addr)
  | .mRecv r => some (r, Reg.SYNC_M_RECV.addr)
  | .mbxFlush r m => some (r, (Reg.SYNC_MBX_CTL m.val).addr)
  | .fenceCmd r _ => some (r, Reg.FLASK_FENCE.addr)
  | .revive r _ => some (r, Reg.FLASK_REVIVE.addr)
  | .arClr r _ => some (r, Reg.FLASK_AR_CLR.addr)
  | .hubEnable r => some (r, Reg.HUB_CTL_ENABLE.addr)
  | .hubDisable r => some (r, Reg.HUB_CTL_DISABLE.addr)
  | .hubRwake r => some (r, Reg.HUB_CTL_RWAKE.addr)
  | .wideEnable r => some (r, Reg.WIDE_CTL_ENABLE.addr)
  | .wideDisable r => some (r, Reg.WIDE_CTL_DISABLE.addr)
  | .cuffEnable r c => some (r, (Reg.CUFF_CTL_ENABLE c.val).addr)
  | .cuffDisable r c => some (r, (Reg.CUFF_CTL_DISABLE c.val).addr)
  | .fuseEnable r ch => some (r, (Reg.FUSE_CTL_ENABLE ch.val).addr)
  | .fuseDisable r ch => some (r, (Reg.FUSE_CTL_DISABLE ch.val).addr)
  | .rearm r ch => some (r, (Reg.FUSE_CTL_REARM ch.val).addr)
  | .ainOn r _ => some (r, Reg.MEAS_AIN_ON.addr)
  | .ainOff r _ => some (r, Reg.MEAS_AIN_OFF.addr)
  | .saEnable r => some (r, Reg.MEAS_CTL.addr)
  | .saDisable r => some (r, Reg.MEAS_CTL.addr)
  | .sbEnable r => some (r, Reg.MEAS_CTL.addr)
  | .sbDisable r => some (r, Reg.MEAS_CTL.addr)
  | .bridgeEnable r => some (r, Reg.MEAS_CTL.addr)
  | .bridgeDisable r => some (r, Reg.MEAS_CTL.addr)
  | .counterEnable r => some (r, Reg.MEAS_CTL.addr)
  | .counterDisable r => some (r, Reg.MEAS_CTL.addr)
  | .drvEnable r o => some (r, (Reg.DRV_CTL_ENABLE o.val).addr)
  | .drvDisable r o => some (r, (Reg.DRV_CTL_DISABLE o.val).addr)
  | .faultClr r o _ => some (r, (Reg.DRV_CTL_FAULT_CLR o.val).addr)
  | .outSet r n _ => some (r, (Reg.PIN_OUT_SET n.val).addr)
  | .outClr r n _ => some (r, (Reg.PIN_OUT_CLR n.val).addr)
  | .outTog r n _ => some (r, (Reg.PIN_OUT_TOG n.val).addr)
  | .outWr r n _ _ => some (r, (Reg.PIN_OUT_WR_VALUE n.val).addr)
  | .holdRel r => some (r, Reg.PIN_CTL.addr)
  | .canEnable r c => some (r, (Reg.CAN_CTL_ENABLE c.val).addr)
  | .canDisable r c => some (r, (Reg.CAN_CTL_DISABLE c.val).addr)
  | .canRecover r c => some (r, (Reg.CAN_CTL_RECOVER c.val).addr)
  | .jrnlKey r _ => some (r, Reg.BKG_JRNL_KEY_KEY.addr)
  | .jrnlData r j _ => some (r, (Reg.BKG_JRNL_DATA j.val).addr)
  | .jrnlPut r => some (r, Reg.BKG_JRNL_PUT.addr)
  | .logIdx r _ => some (r, Reg.BKG_LOG_IDX.addr)
  | .testPins r _ _ => some (r, Reg.TEST_GO_KIND.addr)
  | .testNeighbour r _ => some (r, Reg.TEST_GO_KIND.addr)
  | .testLbist r _ _ => some (r, Reg.TEST_GO_KIND.addr)
  | .nbCycle r _ => some (r, Reg.TEST_NB_CYCLE.addr)
  | .testAbort r => some (r, Reg.TEST_ABORT.addr)
  | .eventSignal r _ => some (r, Reg.EVT_SIGNAL.addr)
  | _ => none

/-- The engine that executes an instruction, for the commands that are each one instruction of a Sprue engine. -/
def Instr.engineOf (i : Instr) : Option (Fin 32) :=
  match i with
  | .isaAdd e _ _ _ | .isaSub e _ _ _ | .isaAdc e _ _ _ | .isaSbc e _ _ _ | .isaAnd e _ _ _ | .isaOr e _ _ _ | .isaXor e _ _ _
  | .isaAndn e _ _ _ | .isaShl e _ _ _ | .isaShr e _ _ _ | .isaSar e _ _ _ | .isaRor e _ _ _ | .isaAdds e _ _ _ | .isaSubs e _ _ _
  | .isaMin e _ _ _ | .isaMax e _ _ _ | .isaMinu e _ _ _ | .isaMaxu e _ _ _ | .isaCmp e _ _ | .isaTst e _ _ | .isaAbs e _ _
  | .isaNeg e _ _ | .isaClz e _ _ | .isaAddi e _ _ _ | .isaAndi e _ _ _ | .isaOri e _ _ _ | .isaXori e _ _ _ | .isaShli e _ _ _
  | .isaShri e _ _ _ | .isaSari e _ _ _ | .isaRori e _ _ _ | .isaCmpi e _ _ | .isaMovi e _ _ | .isaMovhi e _ _ | .isaMul e _ _ _
  | .isaMulh e _ _ _ | .isaMulhu e _ _ _ | .isaMac e _ _ | .isaMsu e _ _ | .isaMacQ31 e _ _ | .isaMsuQ31 e _ _ | .isaMacQ15 e _ _
  | .isaMsuQ15 e _ _ | .isaDiv e _ _ _ | .isaDivu e _ _ _ | .isaRem e _ _ _ | .isaRemu e _ _ _ | .isaBfx e _ _ _ _
  | .isaBfxs e _ _ _ _ | .isaBfi e _ _ _ _ | .isaRaccLo e _ _ | .isaRaccHi e _ _ | .isaRaccQ31 e _ _ | .isaRaccQ15 e _ _
  | .isaWacc e _ _ | .isaLdw e _ _ _ | .isaLdhs e _ _ _ | .isaLdhu e _ _ _ | .isaLdbs e _ _ _ | .isaLdbu e _ _ _ | .isaStw e _ _ _
  | .isaSth e _ _ _ | .isaStb e _ _ _ | .isaBCond e _ _ | .isaCall e _ | .isaJr e _ | .isaCallr e _ | .isaLoop e _ _ | .isaDbnz e _ _
  | .isaRput e _ _ | .isaRpute e _ _ | .isaRget e _ _ | .isaRtry e _ _ | .isaRinfo e _ _ _ | .isaRdropp e _ | .isaBalloc e _
  | .isaBtry e _ | .isaBfree e _ | .isaBgive e _ _ | .isaPin e _ _ | .isaPout e _ _ | .isaPinr e _ _ | .isaPoutr e _ _ | .isaCtl e _
  | .isaCth e _ | .isaCyc e _ | .isaWmark e | .isaWtime e _ _ | .isaEvwait e _ | .isaEvpoll e _ | .isaEvsig e _ | .isaLacq e _ _
  | .isaLtry e _ _ | .isaLrel e _ | .isaLclr e _ | .isaMsend e _ _ _ | .isaMrecv e _ _ | .isaMtry e _ _ | .isaCsrr e _ _
  | .isaCsrw e _ _ | .isaNop e | .isaHalt e | .isaTrap e _ | .isaWflg e _ | .isaCrc16B e _ _ | .isaCrc16W e _ _ | .isaCrc32B e _ _
  | .isaCrc32W e _ _ | .illegalInstruction e _ => some e
  | _ => none

end Sys2Proof
end

