-- ==== Sys2Proof/WellFormed.lean ====
section
/-! DEFINITION. Well-formed commands: what the spec's formats ask of operands whose types do not say it. A command that is not well formed
spells nothing the world outside can send. -/

namespace Sys2Proof

/-- LEN of a slot, bits [12:0] of header bytes 8 to 9, is its payload's length, a multiple of 4 bytes and at most 4,072
(06_cycle_frames_and_gate.md R127). -/
def Slot.lenOk (x : Slot) : Bool :=
  x.len.toNat % 8192 == x.payload.length && x.payload.length % 4 == 0 && decide (x.payload.length ≤ 4072)

/-- A classical frame carries as many data bytes as its DLC says, at most 8, none where it is a remote frame, and a base identifier
has 11 bits (21_isobus_bridge.md Table CAN-2). -/
def CanFrame.ok (f : CanFrame) : Bool :=
  (f.data.length == (if f.rtr then 0 else min 8 f.dlc.toNat)) && (f.ide || decide (f.id.toNat < 2048))

/-- A PD message has its 2-byte header and at most 28 bytes behind it (16_cuffs_type_c_pd.md R355). -/
def PdMessage.ok (m : PdMessage) : Bool := decide (2 ≤ m.bytes.length) && decide (m.bytes.length ≤ 30)

/-- A data packet on the bus has at most 1,024 bytes (USB 2.0, cited by 14_local_hub.md R298). -/
def DevReply.ok (r : DevReply) : Bool := match r with | .data _ b => decide (b.length ≤ 1024) | _ => true

/-- The slot of a slot command. -/
def Instr.slot? (i : Instr) : Option Slot :=
  match i with
  | .slotHeaderCrcFail ⟨_, x⟩ | .nopSlot x | .badOpSlot _ x | .hopRd x | .hopWr x | .stRd x | .stWr x | .stRw x | .bcOr x | .imgRd x | .imgWr x
  | .mbxPut x | .mbxGet x | .tunnel x | .telem x | .eventSlot x | .pourArm x | .pourSlot x | .delaySlot x => some x
  | _ => none

/-- A command's operands keep the formats. Rows whose operands' types say all are well formed as they stand. -/
def Instr.wf (i : Instr) : Bool :=
  match i.slot? with
  | some x => x.lenOk
  | none =>
    match i with
    | .canFrameReceive _ f => f.ok
    | .pdMessageReceive _ m => m.ok
    | .hardwarePut _ _ packet => !packet.isEmpty
    | .wideHostSetup _ _ data => data.length == 8
    | .downRecordExecute _ reply => reply.ok
    | .completeSplit _ _ outcome => outcome.ok
    | .pollRun replies => replies.all (fun p => p.reply.ok)
    | .burstStart _ _ readings => decide (readings.length ≤ 64)
    | .headFrameReturn f => f.slots.all (fun x => x.payload.length % 4 == 0)
    | _ => true

/-- An instruction whose word conforms: none of its operands takes trap 1 (10_sprue_instruction_set.md R222): cond is not 15, the loop ends
ahead, the bit field stays within 31, the CSR exists. -/
def Instr.conforms (i : Instr) : Bool :=
  match i with
  | .isaBCond _ cond _ => cond != 15
  | .isaLoop _ _ imm => decide (0 < imm.toInt)
  | .isaBfx _ _ _ pos wm1 | .isaBfxs _ _ _ pos wm1 | .isaBfi _ _ _ pos wm1 => decide (pos.val + wm1.val ≤ 31)
  | .isaCsrr _ _ n | .isaCsrw _ n _ => decide (n.toNat ≤ 7)
  | .illegalInstruction _ _ => false
  | _ => true

end Sys2Proof
end

