-- ==== Sys2Proof/Certificates/Slice0/Obligations.lean ====
section
/-! DEFINITION. The statements for the provers. `Gives i s c` says that command i completes in state s with the block c and the queue as it
was; an equation with `Gives` is an instruction's or a command's result and its frame at once: what c does not change is unchanged. -/

open Sys2Proof Sys2Proof.Machine

/-! ### The machine as a whole -/

/-- A step takes the command at the front of the queue and runs it on the block with the rest of the queue. -/
def Obligations.StepRunsCommandAtFront : Prop :=
  ∀ (c : Instr) (s : State), step { s with pending := c :: s.pending } = exec c s

/-- Every one of the 504 commands completes in every state and leaves the rest of the queue alone; so commands are taken first in, first out:
from a queue of n or more commands n steps lead to a state whose queue is the old one without its first n. The last clause is the model's
choice (log entry 1, DESIGN CHOICE): with no command waiting, a step is one cc of the block's clock, and the queue stays empty. -/
def Obligations.QueuedCommandsRunInOrder : Prop :=
  (∀ (i : Instr) (s : State), ∃ c : Chip, exec i s = .next { s with chip := c }) ∧
  (∀ (n : Nat) (s : State), n ≤ s.pending.length → ∃ t : State, Step.runs n s = some t ∧ t.pending = s.pending.drop n) ∧
  (∀ s : State, s.pending = [] → step s = .next { s with chip := s.chip.ccTick })

/-- R221 to R223 with R225 to R241 (10_sprue_instruction_set.md): the decoder and the encoder of an engine's code words agree, with every operand at
every value its encoding admits. The word of every instruction that conforms decodes, for its engine, to that instruction; and a word
that decodes is the word of the instruction it decodes to, so that no bit of it is left unread. -/
def Obligations.CodeWordsAndInstructionsAgree : Prop :=
  (∀ (i : Instr) (e : Fin 32), i.engineOf = some e → i.conforms = true →
    ∃ w : Nat, encodeSprue i = some w ∧ w < 2 ^ 32 ∧ decodeSprue e w = some i) ∧
  (∀ (i : Instr) (e : Fin 32) (w : Nat), w < 2 ^ 32 → decodeSprue e w = some i →
    encodeSprue i = some w ∧ i.engineOf = some e ∧ i.conforms = true)

/-- R70, R73, R76 (04_power_up_to_service.md): right after the trunk POR nothing waits, both dies are held in reset, every rail's EN is low,
nothing of any memory or register is listed beyond its reset value, and both memories are in canonical form. -/
def Obligations.ResetStateIsTrunkPor : Prop :=
  let c := State.reset.chip
  State.reset.pending = [] ∧ c.coreUp = false ∧ c.fieldUp = false ∧ c.pwr.phase = .por ∧ c.pwr.en = 0 ∧
  (∀ f : Fld, c.get f = f.reset ∧ c.wk f = f.reset ∧ c.sh f = f.reset ∧ c.lv f = f.reset ∧ c.fwk f = f.reset) ∧
  (∀ e : Nat, c.eng e = {}) ∧ (∀ q : Nat, c.runner q = {}) ∧ c.memoriesWf = true

/-- The invariant of the memories: whatever the state, if both memories are in canonical form before a step (a command or a cc of the clock),
they are after it. -/
def Obligations.EveryStepKeepsMemoriesCanonical : Prop :=
  ∀ s t : State, s.chip.memoriesWf = true → step s = .next t → t.chip.memoriesWf = true

/-- The frame of memory: a command that is not one of those that can store (`Instr.stores`) leaves every byte of the RAMs and of the NOR
reading as before. -/
def Obligations.CommandsThatStoreNothingKeepMemory : Prop :=
  ∀ (i : Instr) (s t : State), i.stores = false → exec i s = .next t →
    ∀ a : Nat, t.chip.rdb a = s.chip.rdb a ∧ t.chip.norb a = s.chip.norb a

/-- R53, R489, R295 (03_register_model.md, 23_stitch_test_and_bist.md, 13_flasks_and_warden.md): when a command that is one write of a
command register does not reach it. With the core die in reset nothing happens; to the management function while its flask is not ACTIVE
every register outside FLASK is a refused access; a unit under test is busy. In the last two nothing changes but what the requester
learns. -/
def Obligations.RegisterCommandsTurnedAway : Prop :=
  ∀ (i : Instr) (r : Requester) (addr : Nat) (l : Loc) (s : State), i.registerOf = some (r, addr) → locate addr = some l →
    (s.chip.coreUp = false → Gives i s s.chip) ∧
    (s.chip.coreUp = true → r = .mgmt → s.chip.active 52 = false → l.blk ≠ 8 → Gives i s (s.chip.respond r addr .refused)) ∧
    (s.chip.coreUp = true → r ≠ .mgmt ∨ s.chip.active 52 = true ∨ l.blk = 8 → s.chip.occupied l = true →
      Gives i s (s.chip.respond r addr .busy))

/-- R194, R195 (09_sprue_engines.md): an instruction of an engine that is not in RUN, or while the core die is in reset, has no effect; one
whose code word has an uncorrectable error takes trap 5 and has no other effect; a correctable error counts, is left to the
scrubber where it runs, and the engine executes. -/
def Obligations.InstructionsNeedRunAndGoodCode : Prop :=
  ∀ (i : Instr) (e : Fin 32) (s : State), i.engineOf = some e →
    let addr := 0x100000 + e.val * 0x2000 + 4 * (s.chip.pc e % 2048)
    let code := s.chip.ecc.get 0 addr
    (s.chip.coreUp = false ∨ s.chip.engState e.val ≠ 1 → Gives i s s.chip) ∧
    (s.chip.coreUp = true → s.chip.engState e.val = 1 → 2 ≤ code → Gives i s (s.chip.trap e.val 5 (some addr))) ∧
    (s.chip.coreUp = true → s.chip.engState e.val = 1 → code = 0 → s.chip.executes e = true ∧ s.chip.fetched e = s.chip) ∧
    (s.chip.coreUp = true → s.chip.engState e.val = 1 → code = 1 → s.chip.executes e = true ∧
      s.chip.fetched e = (let c := s.chip.inc (Reg.ENG_ECC_CNT e.val); if c.bkgRuns then c.rewriteLater addr else c))

/-- R218 (10_sprue_instruction_set.md), as the instructions show it: whatever is written, g0 reads 0 and a write to g0 leaves the engine as it
was; any other register reads back what was written and leaves the rest; a move to g0 ends as any instruction does, with
no trap; `call` and `callr` write the next word's number to g15. -/
def Obligations.RegisterZeroReadsZeroAndDiscardsWrites : Prop :=
  ∀ (x : Engine) (k j : Fin 16) (v : BitVec 32),
    x.reg 0 = 0 ∧ x.setReg 0 v = x ∧
    (k ≠ 0 → (x.setReg k.val v).reg k.val = v) ∧
    (j ≠ k → (x.setReg k.val v).reg j.val = x.reg j.val) ∧
    (∀ (s : State) (e : Fin 32) (a : Fin 16) (imm : BitVec 14), s.chip.executes e = true → (s.chip.fetched e).g e a < 2048 →
      let t := s.chip.fetched e
      let link := BitVec.ofNat 32 ((t.pc e + 1) % 2048)
      Completes (.isaCall e imm) s (fun c => c.g e 15 = link) ∧ Completes (.isaCallr e a) s (fun c => c.g e 15 = link)) ∧
    (∀ (s : State) (e : Fin 32) (imm : BitVec 16), s.chip.executes e = true →
      let t := s.chip.fetched e
      Gives (.isaMovi e 0 imm) s ((t.setEng e.val (t.eng e.val)).engNext e.val))

/-- R219, R232 with R197 (10_sprue_instruction_set.md, 09_sprue_engines.md): the end of an instruction that transfers no control, on an
engine asked for no halt. The program counter goes on modulo 2,048; at the end word of the innermost loop its count falls, and goes back to
the start while passes are left, else the level is popped; INSTR_CNT counts, stopping at all-ones; nothing else changes. -/
def Obligations.InstructionEndAdvancesPcAndLoops : Prop :=
  ∀ (t : Chip) (e : Fin 32), (t.eng e.val).haltReq = false →
    let u := t.eng e.val
    let goes (pc : Nat) (loops : List (Nat × Nat × Nat)) : Prop :=
      t.engNext e.val = ((t.setEng e.val { u with loops := loops }).put (Reg.ENG_PC e.val) pc).put (Reg.ENG_INSTR_CNT e.val)
        (min (t.get (Reg.ENG_INSTR_CNT e.val) + 1) (2 ^ 32 - 1))
    (u.loops = [] → goes ((t.pc e + 1) % 2048) []) ∧
    ∀ st en n rest, u.loops = (st, en, n) :: rest →
      (t.pc e ≠ en → goes ((t.pc e + 1) % 2048) u.loops) ∧
      (t.pc e = en → 1 < n → goes st ((st, en, n - 1) :: rest)) ∧
      (t.pc e = en → n ≤ 1 → goes ((t.pc e + 1) % 2048) rest)

/-- R200, R201 (09_sprue_engines.md), R283 (13_flasks_and_warden.md): what a trap of an engine that IDLE does not hold records. The engine is in
TRAP and not enabled, its wait is abandoned, cause and trapping program counter stand in ENG.TRAP, the address given in TRAP_ADDR, and
TRAP_CNT counts, stopping at all-ones; the software trap, code 8, is no fault; any other is a fault against the engine's flask, which
counts it. -/
def Obligations.TrapRecordsCauseAndFaultsFlask : Prop :=
  ∀ (t : Chip) (e : Fin 32) (cause addr : Nat), t.coreUp = true → t.flag (Reg.ENG_STAT_IDLE_HELD e.val) = false → 1 ≤ cause → cause ≤ 8 →
    addr < 2 ^ 32 →
    let c := t.trap e.val cause (some addr)
    let counts (f : Fld) : Prop := c.get f = min (t.get f + 1) (2 ^ f.width - 1)
    c.engState e.val = 3 ∧ c.get (Reg.ENG_STAT_EN e.val) = 0 ∧ (c.eng e.val).wait = .none ∧
    c.get (Reg.ENG_TRAP_CAUSE e.val) = cause ∧ c.get (Reg.ENG_TRAP_PC e.val) = t.pc e % 2048 ∧ c.get (Reg.ENG_TRAP_ADDR e.val) = addr ∧
    counts (Reg.ENG_TRAP_CNT e.val) ∧
    (cause = 8 → c.get (Reg.FLASK_FAULT_CNT e.val) = t.get (Reg.FLASK_FAULT_CNT e.val)) ∧
    (cause ≠ 8 → counts (Reg.FLASK_FAULT_CNT e.val))

/-- R53, R67 (03_register_model.md Table REGS-3): what a requester learns, and what a STATE_REJECT leaves. The outcome is recorded under the
requester's code; an engine's ACCESS shows REJECT or BUSY, else OK, and a refused access is trap 2 at the address; a STATE_REJECT adds one to
the REJ_CNT of its place and fires the block's reject event with requester, instance and offset. -/
def Obligations.RequesterLearnsOutcome : Prop :=
  ∀ (t : Chip) (r : Requester) (e : Fin 32) (addr blk inst off : Nat) (a : Acc),
    (t.respond r addr a).outcome.get 0 r.code = a.code ∧
    (t.respond .mgmt addr a = { t with outcome := t.outcome.put 0 32 a.code }) ∧
    (t.respond .gate addr a = { t with outcome := t.outcome.put 0 34 a.code }) ∧
    (a ≠ .refused → t.respond (.engine e) addr a =
      { t with outcome := t.outcome.put 0 e.val a.code }.put (Reg.ENG_ACCESS e.val) (match a with | .reject => 1 | .busy => 2 | _ => 0)) ∧
    (t.respond (.engine e) addr .refused = { t with outcome := t.outcome.put 0 e.val 2 }.trap e.val 2 (some addr)) ∧
    (t.reject r.code blk inst off = (t.inc (rejFld blk inst off)).fire blk (rejDetail r.code blk inst off))

/-! ### 10_sprue_instruction_set.md: arithmetic -/

/-- R225 with R224 (Table ISA-4), add to subtract and compare: for every engine that executes, the result goes to gd, Z and N are those of
the result, C is the carry out of bit 31 (for subtraction 1 where no borrow occurred), V is 1 exactly where the result is not the exact
signed sum or difference; nothing else changes but what the end of an instruction changes. `cmp` and `cmpi` write no register. -/
def Obligations.IsaAddSubtractCompareResults : Prop :=
  ∀ (s : State) (e : Fin 32) (d a b : Fin 16) (imm : BitVec 14), s.chip.executes e = true →
    let t := s.chip.fetched e
    let x := t.g e a
    let y := t.g e b
    let i := imm.signExtend 32
    let k : Nat := if (t.eng e.val).c then 1 else 0
    let w : Nat := if (t.eng e.val).c then 0 else 1
    let sum := x + y + BitVec.ofNat 32 k
    let dif := x - y - BitVec.ofNat 32 w
    Gives (.isaAdd e d a b) s (t.wrote e d (x + y)
      (flagsZNCV (x + y) (decide (2 ^ 32 ≤ x.toNat + y.toNat)) (decide ((x + y).toInt ≠ x.toInt + y.toInt)))) ∧
    Gives (.isaAdc e d a b) s (t.wrote e d sum
      (flagsZNCV sum (decide (2 ^ 32 ≤ x.toNat + y.toNat + k)) (decide (sum.toInt ≠ x.toInt + y.toInt + k)))) ∧
    Gives (.isaAddi e d a imm) s (t.wrote e d (x + i)
      (flagsZNCV (x + i) (decide (2 ^ 32 ≤ x.toNat + i.toNat)) (decide ((x + i).toInt ≠ x.toInt + i.toInt)))) ∧
    Gives (.isaSub e d a b) s (t.wrote e d (x - y)
      (flagsZNCV (x - y) (decide (y.toNat ≤ x.toNat)) (decide ((x - y).toInt ≠ x.toInt - y.toInt)))) ∧
    Gives (.isaSbc e d a b) s (t.wrote e d dif
      (flagsZNCV dif (decide (y.toNat + w ≤ x.toNat)) (decide (dif.toInt ≠ x.toInt - y.toInt - w)))) ∧
    Gives (.isaNeg e d a) s (t.wrote e d (0 - x)
      (flagsZNCV (0 - x) (decide (x = 0)) (decide ((0 - x).toInt ≠ - x.toInt)))) ∧
    Gives (.isaCmp e a b) s (t.wrote e 0 (x - y)
      (flagsZNCV (x - y) (decide (y.toNat ≤ x.toNat)) (decide ((x - y).toInt ≠ x.toInt - y.toInt)))) ∧
    Gives (.isaCmpi e a imm) s (t.wrote e 0 (x - i)
      (flagsZNCV (x - i) (decide (i.toNat ≤ x.toNat)) (decide ((x - i).toInt ≠ x.toInt - i.toInt))))

/-- R225 with R224 (Table ISA-4) and the multiplies of Table ISA-5: logic, moves and the halves of a product. The logic forms and the
multiplies set Z and N of their result; the moves set no flag. -/
def Obligations.IsaLogicMoveMultiplyResults : Prop :=
  ∀ (s : State) (e : Fin 32) (d a b : Fin 16) (imm : BitVec 14) (wide : BitVec 16), s.chip.executes e = true →
    let t := s.chip.fetched e
    let x := t.g e a
    let y := t.g e b
    let i := imm.zeroExtend 32
    let gives (j : Instr) (d : Fin 16) (r : BitVec 32) : Prop := Gives j s (t.wrote e d r (flagsZN r))
    gives (.isaAnd e d a b) d (x &&& y) ∧
    gives (.isaOr e d a b) d (x ||| y) ∧
    gives (.isaXor e d a b) d (x ^^^ y) ∧
    gives (.isaAndn e d a b) d (x &&& ~~~y) ∧
    gives (.isaTst e a b) 0 (x &&& y) ∧
    gives (.isaAndi e d a imm) d (x &&& i) ∧
    gives (.isaOri e d a imm) d (x ||| i) ∧
    gives (.isaXori e d a imm) d (x ^^^ i) ∧
    Gives (.isaMovi e d wide) s (t.wrote e d (wide.signExtend 32) {}) ∧
    Gives (.isaMovhi e d wide) s (t.wrote e d (wide ++ (t.g e d).extractLsb' 0 16) {}) ∧
    gives (.isaMul e d a b) d (x * y) ∧
    gives (.isaMulh e d a b) d ((x.signExtend 64 * y.signExtend 64).extractLsb' 32 32) ∧
    gives (.isaMulhu e d a b) d ((x.zeroExtend 64 * y.zeroExtend 64).extractLsb' 32 32)

/-- R225 with R224 (Table ISA-4): shifts and rotates by the low five bits of gb, or by an immediate amount: the result, Z and N of it,
and C the last bit shifted out (for a rotate bit 31 of the result); an amount of 0 leaves C unchanged. -/
def Obligations.IsaShiftResults : Prop :=
  ∀ (s : State) (e : Fin 32) (d a b : Fin 16) (amount : Fin 32), s.chip.executes e = true →
    let t := s.chip.fetched e
    let x := t.g e a
    let gives (j : Instr) (n : Nat) (r : BitVec 32) (last : Bool) : Prop := Gives j s (t.wrote e d r (flagsShift r n last))
    let n := ((t.g e b).extractLsb' 0 5).toNat
    let m := amount.val
    gives (.isaShl e d a b) n (x <<< n) (x.getLsbD (32 - n)) ∧
    gives (.isaShr e d a b) n (x >>> n) (x.getLsbD (n - 1)) ∧
    gives (.isaSar e d a b) n (x.sshiftRight n) (x.getLsbD (n - 1)) ∧
    gives (.isaRor e d a b) n (x.rotateRight n) (x.rotateRight n).msb ∧
    gives (.isaShli e d a amount) m (x <<< m) (x.getLsbD (32 - m)) ∧
    gives (.isaShri e d a amount) m (x >>> m) (x.getLsbD (m - 1)) ∧
    gives (.isaSari e d a amount) m (x.sshiftRight m) (x.getLsbD (m - 1)) ∧
    gives (.isaRori e d a amount) m (x.rotateRight m) (x.rotateRight m).msb

/-- R225 with R224 (Table ISA-4): saturating arithmetic, minima and maxima, and leading zeros. A saturating form sets S exactly where the
exact result is out of the signed 32-bit range; `clz` gives the n for which bit 31 - n is the highest 1 of ga, 32 where ga is 0, and
sets Z alone. -/
def Obligations.IsaSaturatingMinMaxClzResults : Prop :=
  ∀ (s : State) (e : Fin 32) (d a b : Fin 16), s.chip.executes e = true →
    let t := s.chip.fetched e
    let x := t.g e a
    let y := t.g e b
    let saturates (j : Instr) (i : Int) : Prop := Gives j s (t.wrote e d (held32 i) (flagsSat i))
    let gives (j : Instr) (r : BitVec 32) : Prop := Gives j s (t.wrote e d r (flagsZN r))
    saturates (.isaAdds e d a b) (x.toInt + y.toInt) ∧
    saturates (.isaSubs e d a b) (x.toInt - y.toInt) ∧
    saturates (.isaAbs e d a) (if x.toInt < 0 then - x.toInt else x.toInt) ∧
    gives (.isaMin e d a b) (BitVec.ofInt 32 (min x.toInt y.toInt)) ∧
    gives (.isaMax e d a b) (BitVec.ofInt 32 (max x.toInt y.toInt)) ∧
    gives (.isaMinu e d a b) (BitVec.ofNat 32 (min x.toNat y.toNat)) ∧
    gives (.isaMaxu e d a b) (BitVec.ofNat 32 (max x.toNat y.toNat)) ∧
    ∀ n : Nat, n ≤ 32 → x.toNat < 2 ^ (32 - n) → (n < 32 → 2 ^ (31 - n) ≤ x.toNat) →
      Gives (.isaClz e d a) s (t.wrote e d (BitVec.ofNat 32 n) { z := some (n == 0) })

/-- R228 with R224: the divides. A divisor of 0 and, for the signed forms, the most negative number over -1 give the results of R228's
table with V 1; in every other case the quotient truncates toward zero, the remainder takes the sign of ga, and V is 0. -/
def Obligations.IsaDivideResults : Prop :=
  ∀ (s : State) (e : Fin 32) (d a b : Fin 16), s.chip.executes e = true →
    let t := s.chip.fetched e
    let x := t.g e a
    let y := t.g e b
    let gives (j : Instr) (r : BitVec 32) (v : Bool) : Prop := Gives j s (t.wrote e d r (flagsZNV r v))
    (y = 0 →
      gives (.isaDiv e d a b) (if 0 ≤ x.toInt then 0x7FFFFFFF else 0x80000000) true ∧
      gives (.isaDivu e d a b) 0xFFFFFFFF true ∧
      gives (.isaRem e d a b) x true ∧
      gives (.isaRemu e d a b) x true) ∧
    (x = 0x80000000 → y = 0xFFFFFFFF →
      gives (.isaDiv e d a b) 0x7FFFFFFF true ∧
      gives (.isaRem e d a b) 0 true) ∧
    (y ≠ 0 → ¬ (x = 0x80000000 ∧ y = 0xFFFFFFFF) →
      gives (.isaDiv e d a b) (BitVec.ofInt 32 (x.toInt.tdiv y.toInt)) false ∧
      gives (.isaRem e d a b) (BitVec.ofInt 32 (x.toInt.tmod y.toInt)) false) ∧
    (y ≠ 0 →
      gives (.isaDivu e d a b) (BitVec.ofNat 32 (x.toNat / y.toNat)) false ∧
      gives (.isaRemu e d a b) (BitVec.ofNat 32 (x.toNat % y.toNat)) false)

/-- R226 to R228 (Table ISA-5): the accumulator. The MAC and MSU forms add to or subtract from ACC their integer, Q31 (rounded half up) or
exact Q15 product, held to the signed 64-bit range, and set S where that acts; `racc` reads ACC by R227, sets S where its saturation acts
and clears ACC in its `.c` forms; `wacc` loads it. No other flag changes. -/
def Obligations.IsaAccumulatorResults : Prop :=
  ∀ (s : State) (e : Fin 32) (d a b : Fin 16) (clear : Bool), s.chip.executes e = true →
    let t := s.chip.fetched e
    let x := t.g e a
    let y := t.g e b
    let acc := (t.eng e.val).acc
    let q31 : Int := (x.toInt * y.toInt + 2 ^ 30) >>> 31
    let q15 : Int := (x.extractLsb' 0 16).toInt * (y.extractLsb' 0 16).toInt * 2
    let sums (j : Instr) (i : Int) : Prop := Gives j s (t.wroteAcc e (BitVec.ofInt 64 (held64 i)) (decide (held64 i ≠ i)))
    let reads (j : Instr) (r : BitVec 32) (acts : Bool) : Prop :=
      Gives j s ((t.setEng e.val { (t.eng e.val).setReg d.val r with
        acc := if clear then 0 else acc, sat := (t.eng e.val).sat || acts }).engNext e.val)
    let beyond : Bool := decide (acc.toInt < -2147483648 ∨ 2147483647 < acc.toInt)
    let h := held32 acc.toInt
    sums (.isaMac e a b) (acc.toInt + x.toInt * y.toInt) ∧
    sums (.isaMsu e a b) (acc.toInt - x.toInt * y.toInt) ∧
    sums (.isaMacQ31 e a b) (acc.toInt + q31) ∧
    sums (.isaMsuQ31 e a b) (acc.toInt - q31) ∧
    sums (.isaMacQ15 e a b) (acc.toInt + q15) ∧
    sums (.isaMsuQ15 e a b) (acc.toInt - q15) ∧
    reads (.isaRaccLo e d clear) (acc.extractLsb' 0 32) false ∧
    reads (.isaRaccHi e d clear) (acc.extractLsb' 32 32) false ∧
    reads (.isaRaccQ31 e d clear) h beyond ∧
    (0x7FFF8000 ≤ h.toInt → reads (.isaRaccQ15 e d clear) 0x7FFF true) ∧
    (h.toInt < 0x7FFF8000 → reads (.isaRaccQ15 e d clear) (((h + 0x8000).extractLsb' 16 16).signExtend 32) beyond) ∧
    Gives (.isaWacc e a b) s (t.wroteAcc e (y ++ x) false)

/-- Table ISA-5, R228, R236, R241, R242: bit fields, CRC steps, flags, time and CSRs. A bit field sets Z and N; a CRC step and the reads of
time and CSRs set no flag; `wflg` sets all five; `ctl` captures the high half of chain time in the latch that `cth` reads; `csrr` reads the
CSRs of Table ISA-13; `csrw` to WDOG reloads the watchdog, to CC stores, and to a read-only CSR does nothing. -/
def Obligations.IsaBitFieldCrcTimeCsrResults : Prop :=
  ∀ (s : State) (e : Fin 32) (d a : Fin 16) (pos wm1 : Fin 32) (n : BitVec 12), s.chip.executes e = true →
    let t := s.chip.fetched e
    let x := t.g e a
    let u := t.eng e.val
    let plain (j : Instr) (r : BitVec 32) : Prop := Gives j s (t.wrote e d r {})
    let width := wm1.val + 1
    let mask : BitVec 32 := (BitVec.allOnes width).zeroExtend 32 <<< pos.val
    let byte (k : Nat) : Nat := (x.extractLsb' (8 * k) 8).toNat
    (pos.val + width ≤ 32 →
      Gives (.isaBfx e d a pos wm1) s (t.wrote e d ((x.extractLsb' pos.val width).zeroExtend 32) (flagsZN ((x.extractLsb' pos.val width).zeroExtend 32))) ∧
      Gives (.isaBfxs e d a pos wm1) s (t.wrote e d ((x.extractLsb' pos.val width).signExtend 32) (flagsZN ((x.extractLsb' pos.val width).signExtend 32))) ∧
      Gives (.isaBfi e d a pos wm1) s (t.wrote e d ((t.g e d &&& ~~~mask) ||| ((x <<< pos.val) &&& mask))
        (flagsZN ((t.g e d &&& ~~~mask) ||| ((x <<< pos.val) &&& mask))))) ∧
    plain (.isaCrc16B e d a) (crc16Byte (t.g e d) (byte 0)) ∧
    plain (.isaCrc16W e d a) (crc16Byte (crc16Byte (crc16Byte (crc16Byte (t.g e d) (byte 0)) (byte 1)) (byte 2)) (byte 3)) ∧
    plain (.isaCrc32B e d a) (crc32Byte (t.g e d) (byte 0)) ∧
    plain (.isaCrc32W e d a) (crc32Byte (crc32Byte (crc32Byte (crc32Byte (t.g e d) (byte 0)) (byte 1)) (byte 2)) (byte 3)) ∧
    Gives (.isaWflg e a) s ((t.setEng e.val (u.upd ⟨x.getLsbD 4, x.getLsbD 3, x.getLsbD 2, x.getLsbD 1, x.getLsbD 0⟩)).engNext e.val) ∧
    Gives (.isaCtl e d) s ((t.setEng e.val { u.setReg d.val (t.ct.extractLsb' 0 32) with latch := t.ct.extractLsb' 32 32 }).engNext e.val) ∧
    plain (.isaCth e d) u.latch ∧
    plain (.isaCyc e d) (BitVec.ofNat 32 (t.get Reg.CLK_CYC_NUM)) ∧
    (n = 0 → plain (.isaCsrr e d n) (BitVec.ofNat 32 (e.val + 32 * (e.val / 8)))) ∧
    (n = 1 → plain (.isaCsrr e d n) (BitVec.ofNat 32 (t.get (Reg.ENG_ACCESS e.val)))) ∧
    (n = 2 → plain (.isaCsrr e d n) 0) ∧
    (n = 3 → plain (.isaCsrr e d n) (BitVec.ofNat 32 (t.get (Reg.ENG_WDOG_LEFT e.val)))) ∧
    (n = 4 → plain (.isaCsrr e d n) u.cc) ∧
    (n = 5 → plain (.isaCsrr e d n) (BitVec.ofNat 32 (16 * u.z.toNat + 8 * u.n.toNat + 4 * u.c.toNat + 2 * u.v.toNat + u.sat.toNat))) ∧
    (n = 6 → plain (.isaCsrr e d n) (BitVec.ofNat 32 u.loops.length)) ∧
    (n = 7 → plain (.isaCsrr e d n) (BitVec.ofNat 32 ((u.loops.head?.map (fun l => l.2.2)).getD 0))) ∧
    (n = 2 → Gives (.isaCsrw e n a) s ((t.put (Reg.ENG_WDOG_LEFT e.val) (t.wk (Reg.ENG_WDOG e.val))).engNext e.val)) ∧
    (n = 4 → Gives (.isaCsrw e n a) s ((t.setEng e.val { u with cc := x }).engNext e.val)) ∧
    (n.toNat ≤ 7 → n ≠ 2 → n ≠ 4 → Gives (.isaCsrw e n a) s (t.engNext e.val))

/-- R219, R231, R232, R241, R222: control flow. A branch whose condition of Table ISA-3 holds, `jr`, a taken `dbnz` and a `loop` with count
zero go to their target modulo 2,048 and pop the loop levels that do not hold it; `call` and `callr` write g15 and pop none; a `loop` with
a count pushes its level; `nop` and `halt` go on to the next word, `halt` into HALT; `trap` enters TRAP with cause 8 and its code, the
program counter and the loop stack on the word that follows, into HALT where a halt was asked for; a word that is not legal takes trap 1 before any effect. -/
def Obligations.IsaControlFlowResults : Prop :=
  ∀ (s : State) (e : Fin 32) (d a : Fin 16) (cond : BitVec 4) (imm : BitVec 14) (code : BitVec 10) (word : BitVec 32),
    s.chip.executes e = true →
    let t := s.chip.fetched e
    let x := t.g e a
    let u := t.eng e.val
    let target : Nat := (((t.pc e : Int) + imm.toInt) % 2048).toNat
    let next : Nat := (t.pc e + 1) % 2048
    let holds : Bool := [true, u.z, !u.z, u.n != u.v, u.n == u.v, !u.z && u.n == u.v, u.z || u.n != u.v, !u.c, u.c, u.n, !u.n, u.v, !u.v,
      u.sat, !u.sat].getD cond.toNat false
    let linked := t.setEng e.val (u.setReg 15 (BitVec.ofNat 32 next))
    let counted := t.setEng e.val (u.setReg d.val (t.g e d - 1))
    let fits : Prop := u.loops = [] ∨ ∃ st en n, u.loops = [(st, en, n)] ∧ (target + 2048 - st) % 2048 < (en + 2048 - st) % 2048
    (cond ≠ 15 → Gives (.isaBCond e cond imm) s (if holds then t.engJump e.val target true else t.engNext e.val)) ∧
    Gives (.isaCall e imm) s (linked.engJump e.val target false) ∧
    (x.toNat < 2048 → Gives (.isaJr e a) s (t.engJump e.val x.toNat true)) ∧
    (x.toNat < 2048 → Gives (.isaCallr e a) s (linked.engJump e.val x.toNat false)) ∧
    (0 < imm.toInt → fits → x = 0 → Gives (.isaLoop e a imm) s (t.engJump e.val ((target + 1) % 2048) true)) ∧
    (0 < imm.toInt → fits → x ≠ 0 → Gives (.isaLoop e a imm) s
      ((t.setEng e.val { u with loops := (next, target, x.toNat) :: u.loops }).engNext e.val)) ∧
    (t.g e d - 1 ≠ 0 → Gives (.isaDbnz e d imm) s (counted.engJump e.val target true)) ∧
    (t.g e d - 1 = 0 → Gives (.isaDbnz e d imm) s (counted.engNext e.val)) ∧
    Gives (.isaNop e) s (t.engNext e.val) ∧
    Gives (.isaHalt e) s ((t.engNext e.val).setEngState e.val 0) ∧
    (let a := advance (t.pc e) u.loops
     let c := (t.inc (Reg.ENG_INSTR_CNT e.val)).trap e.val 8 (some code.toNat)
     let moved := (c.setEng e.val { c.eng e.val with loops := a.2 }).put (Reg.ENG_PC e.val) a.1
     Gives (.isaTrap e code) s (if u.haltReq then moved.setEngState e.val 0 else moved)) ∧
    (wordLegal word.toNat = false → Gives (.illegalInstruction e word) s (t.trap e.val 1 (some word.toNat)))

/-- R229, R230, R194 (Table ISA-6): loads and stores at ga + sx(imm14). An aligned access to global SRAM, through the view its address
names, or to the engine's own cluster data RAM moves the bytes and sets ACCESS to OK, a load of a word with an uncorrectable error to
POISON; `ldw` and `stw` of a register read and write it. No flag changes; contention adds its cc within the
bound of Table ENG-6. -/
def Obligations.IsaLoadStoreResults : Prop :=
  ∀ (s : State) (e : Fin 32) (d a : Fin 16) (imm : BitVec 14), s.chip.executes e = true →
    let t := s.chip.fetched e
    let addr := (t.g e a + imm.signExtend 32).toNat
    let own : Prop := 0x140000 + 0x8000 * (e.val / 8) ≤ addr ∧ addr < 0x148000 + 0x8000 * (e.val / 8)
    let place (k : Nat) : Nat := if addr < 0x100000 then t.map (addr + k) else addr + k
    let byte (k : Nat) : BitVec 8 := if addr < 0x100000 then t.sees (place k) else t.rdb (place k)
    let read := (if addr < 0x100000 then t.liveStall addr else t).loadEcc e.val (place 0)
    let bound := contendBound e.val addr
    let loads (j : Instr) (v : BitVec 32) : Prop := Gives j s (read.2.wroteAccess e d v {} bound read.1)
    let stores (j : Instr) (n : Nat) : Prop :=
      let l := (wordBytes (t.g e d)).take n
      Gives j s ((if addr < 0x100000 then (t.liveStall addr).stbs addr l else t.wrbs addr l).accessEnd e.val bound 0)
    (addr < 0x100000 ∨ own →
      (addr % 4 = 0 → loads (.isaLdw e d a imm) (byte 3 ++ byte 2 ++ byte 1 ++ byte 0)) ∧
      (addr % 2 = 0 → loads (.isaLdhs e d a imm) ((byte 1 ++ byte 0).signExtend 32)) ∧
      (addr % 2 = 0 → loads (.isaLdhu e d a imm) ((byte 1 ++ byte 0).zeroExtend 32)) ∧
      loads (.isaLdbs e d a imm) ((byte 0).signExtend 32) ∧
      loads (.isaLdbu e d a imm) ((byte 0).zeroExtend 32)) ∧
    (addr < 0x100000 ∧ gateView addr = false ∨ own →
      (addr % 4 = 0 → stores (.isaStw e d a imm) 4) ∧
      (addr % 2 = 0 → stores (.isaSth e d a imm) 2) ∧
      stores (.isaStb e d a imm) 1) ∧
    (addr % 4 = 0 → 0x160000 ≤ addr → ∀ l act, regAt addr = some (l, act) →
      let got := t.readReg (.engine e) l act
      (got.1 ≠ .refused → Gives (.isaLdw e d a imm) s (got.2.2.wroteAccess e d (BitVec.ofNat 32 got.2.1) {} 34 0)) ∧
      (act = false → (t.writeReg (.engine e) l (t.g e d).toNat).2.coreUp = true → (t.writeReg (.engine e) l (t.g e d).toNat).1 ≠ .refused →
        Gives (.isaStw e d a imm) s ((t.writeReg (.engine e) l (t.g e d).toNat).2.accessEnd e.val 34
          (t.writeReg (.engine e) l (t.g e d).toNat).1.access)))

/-- R233 to R235, R243 (Table ISA-8): runner and buffer instructions on a runner or buffer in range. A put that the runner takes appends
its word, end-marked by `rpute`; `rget` and `rtry` take the oldest item with the flags of R234, an empty runner gives `rtry` 0 with Z and
sends `rget` into WAIT with cause runner; a runner that refuses gives REJECT; `balloc` and `btry` take a buffer, an empty pool gives `btry`
0xFFFFFFFF with Z and sends `balloc` into WAIT with cause buffer; `bfree` and `bgive` pass on a buffer of this engine. -/
def Obligations.IsaRunnerBufferResults : Prop :=
  ∀ (s : State) (e : Fin 32) (d a b : Fin 16) (words : Bool), s.chip.executes e = true →
    let t := s.chip.fetched e
    let q := (t.g e a).toNat
    let w := (t.g e b).toNat
    let ends (c : Chip) (access : Nat) : Chip := c.accessEnd e.val 23 access
    let none_ : FlagUpd := { z := some true, n := some false, c := some false, v := some false }
    (q < 128 → t.runRefuses q true (some e.val) = false →
      Gives (.isaRput e a b) s (ends ((t.runPut q 0 w).runServe q 34) 0) ∧
      Gives (.isaRpute e a b) s (ends ((t.runPut q 1 w).runServe q 34) 0)) ∧
    (q < 128 → t.runRefuses q true (some e.val) = true →
      Gives (.isaRput e a b) s (ends (t.reject e.val 6 q 0x1C) 1) ∧
      Gives (.isaRpute e a b) s (ends (t.reject e.val 6 q 0x20) 1)) ∧
    (q < 128 → t.runRefuses q false (some e.val) = false → ∀ k v c, t.runTake q = (some (k, v), c) →
      let f : FlagUpd := { z := some false, n := some false, c := some (k != 0), v := some (k == 2) }
      Gives (.isaRget e d a) s (c.wroteAccess e d (BitVec.ofNat 32 v) f 23 0) ∧
      Gives (.isaRtry e d a) s (c.wroteAccess e d (BitVec.ofNat 32 v) f 23 0)) ∧
    (q < 128 → t.runRefuses q false (some e.val) = false → ∀ c, t.runTake q = (none, c) →
      Gives (.isaRget e d a) s (((c.setRunner q { c.runner q with waiters := c.waitIn e.val (c.runner q).waiters }).enterWait e.val 1
        (.runner q d.val)).contend e.val 23) ∧
      Gives (.isaRtry e d a) s (c.wroteAccess e d 0 none_ 23 0)) ∧
    (q < 128 → t.runRefuses q false (some e.val) = true →
      Gives (.isaRget e d a) s ((t.reject e.val 6 q 0x14).wroteAccess e d 0 none_ 23 1) ∧
      Gives (.isaRtry e d a) s ((t.reject e.val 6 q 0x14).wroteAccess e d 0 none_ 23 1) ∧
      Gives (.isaRdropp e a) s (ends (t.reject e.val 6 q 0x24) 1)) ∧
    (q < 128 → t.runRefuses q false (some e.val) = false → Gives (.isaRdropp e a) s (ends (t.runDropPkt q 2049) 0)) ∧
    (q < 128 → let v := if words then t.runWords q else t.runPkts q
      Gives (.isaRinfo e d a words) s (t.wroteAccess e d (BitVec.ofNat 32 v) { z := some (v == 0) } 23 0)) ∧
    (∀ n c, t.poolAlloc e.val = (some n, c) →
      Gives (.isaBalloc e d) s (c.wroteAccess e d (BitVec.ofNat 32 n) { z := some false } 23 0) ∧
      Gives (.isaBtry e d) s (c.wroteAccess e d (BitVec.ofNat 32 n) { z := some false } 23 0)) ∧
    (∀ c, t.poolAlloc e.val = (none, c) →
      Gives (.isaBalloc e d) s ((({ c with sync := { c.sync with poolWait := c.waitIn e.val c.sync.poolWait } }).enterWait e.val 7 (.pool d.val)).contend e.val 23) ∧
      Gives (.isaBtry e d) s (c.wroteAccess e d 0xFFFFFFFF { z := some true } 23 0)) ∧
    (q < 2048 → t.bufOwner q = e.val →
      Gives (.isaBfree e a) s (ends ((t.poolPush q).poolServe 32) 0) ∧
      (w % 64 ≤ 32 → t.ownerFenced (w % 64) = false →
        Gives (.isaBgive e a b) s (ends ((t.put (Reg.SYNC_BUF_OWN q) (w % 64)).poolServe 32) 0)) ∧
      (w % 64 ≤ 32 → t.ownerFenced (w % 64) = true → Gives (.isaBgive e a b) s (ends (t.reject e.val 7 0 0x10) 1)))

/-- R239, R240, R243 (Table ISA-10): locks and messages with a number in range. A free lock is acquired, with 1 where it is poisoned; a
lock of another owner gives `ltry` 2 and sends `lacq` into WAIT with cause lock; `lrel` passes an unpoisoned lock of this engine on and
`lclr` clears its poison; `msend` gives 0, 1 on a full mailbox, 2 where the engine may not send; `mrecv` and `mtry` take the oldest message
and its buffer, an empty mailbox gives `mtry` 0xFFFFFFFF and sends `mrecv` into WAIT with cause message. -/
def Obligations.IsaLockMessageResults : Prop :=
  ∀ (s : State) (e : Fin 32) (d a b : Fin 16), s.chip.executes e = true →
    let t := s.chip.fetched e
    let l := (t.g e a).toNat
    let w := t.g e b
    let buf := (w.extractLsb' 0 11).toNat
    let len := (w.extractLsb' 16 8).toNat
    let ends (c : Chip) : Chip := c.accessEnd e.val 34 0
    let owner := t.lockOwner l
    let p := t.lockPoison l
    (l < 256 → owner = 63 →
      let c := (t.put (Reg.SYNC_LOCK_STAT_OWNER l) e.val).wroteAccess e d (if p then 1 else 0) { z := some (!p) } 34 0
      Gives (.isaLacq e d a) s c ∧ Gives (.isaLtry e d a) s c) ∧
    (l < 256 → owner ≠ 63 → owner ≠ e.val →
      Gives (.isaLacq e d a) s (((t.setLockWaiters l (t.waitIn e.val (t.lockWaiters l))).enterWait e.val 2 (.lock l d.val)).contend e.val 34) ∧
      Gives (.isaLtry e d a) s (t.wroteAccess e d 2 { z := some false } 34 0)) ∧
    (l < 256 → owner = e.val → p = false → Gives (.isaLrel e a) s (ends (t.lockPass l))) ∧
    (l < 256 → owner = e.val → Gives (.isaLclr e a) s (ends (t.put (Reg.SYNC_LOCK_STAT_POISON l) 0))) ∧
    (l < 64 → t.bufOwner buf = e.val → 1 ≤ len → len ≤ 128 → t.maySend l e.val = true →
      (t.mbxDepth l ≤ (t.mbx l).count + (t.mbx l).resv → Gives (.isaMsend e d a b) s (t.wroteAccess e d 1 {} 34 0)) ∧
      ((t.mbx l).count + (t.mbx l).resv < t.mbxDepth l →
        Gives (.isaMsend e d a b) s ((((t.mbxPush l buf len).mbxServe l 32).poolServe 32).wroteAccess e d 0 {} 34 0))) ∧
    (l < 64 → t.bufOwner buf = e.val → 1 ≤ len → len ≤ 128 → t.maySend l e.val = false →
      Gives (.isaMsend e d a b) s (((t.inc Reg.SYNC_MBX_REF_CNT).reject e.val 7 0 0x20).wroteAccess e d 2 {} 34 1)) ∧
    (l < 64 → t.mayRecv l e.val = true → ∀ m n, t.mbxPeek l = some (m, n) →
      let c := ((t.mbxPop l).put (Reg.SYNC_BUF_OWN m) e.val).wroteAccess e d (BitVec.ofNat 32 (m + 65536 * n)) {} 34 0
      Gives (.isaMrecv e d a) s c ∧ Gives (.isaMtry e d a) s c) ∧
    (l < 64 → t.mayRecv l e.val = true → t.mbxPeek l = none →
      Gives (.isaMrecv e d a) s (((t.setMbx l { t.mbx l with waiters := t.waitIn e.val (t.mbx l).waiters }).enterWait e.val 6 (.msg l d.val)).contend e.val 34) ∧
      Gives (.isaMtry e d a) s (t.wroteAccess e d 0xFFFFFFFF {} 34 0)) ∧
    (l < 64 → t.mayRecv l e.val = false →
      let c := ((t.inc Reg.SYNC_MBX_REF_CNT).reject e.val 7 0 0x28).wroteAccess e d 0xFFFFFFFF {} 34 1
      Gives (.isaMrecv e d a) s c ∧ Gives (.isaMtry e d a) s c)

/-- R236 to R238, R209, R243 (Table ISA-9): port, wait and event instructions. A claimed port is read, or written where the claim is
exclusive: ACCESS tells OK, REJECT or, under a test, BUSY; `wmark` and `wtime` enter WAIT with causes mark and chain time; `evwait` and
`evpoll` take the lowest pending source and clear its bit, with none `evpoll` gives 0xFFFFFFFF and `evwait` enters WAIT; `evsig` raises an
engine-signal source. -/
def Obligations.IsaPortTimeEventResults : Prop :=
  ∀ (s : State) (e : Fin 32) (d a b : Fin 16) (port : BitVec 16), s.chip.executes e = true →
    let t := s.chip.fetched e
    let ends (c : Chip) (access : Nat) : Chip := c.accessEnd e.val 34 access
    let u := t.eng e.val
    let ra := (t.g e a).toNat
    (portReserved port.toNat = false → t.claim e.val port.toNat ≠ 0 →
      Gives (.isaPin e d port) s ((t.portRead port.toNat).2.wroteAccess e d (BitVec.ofNat 32 (t.portRead port.toNat).1) {} 34 0)) ∧
    (portReserved ra = false → t.claim e.val ra ≠ 0 →
      Gives (.isaPinr e d a) s ((t.portRead ra).2.wroteAccess e d (BitVec.ofNat 32 (t.portRead ra).1) {} 34 0)) ∧
    (portReserved port.toNat = false → t.claim e.val port.toNat = 2 →
      let w := t.portWrite e.val port.toNat (t.g e d).toNat
      Gives (.isaPout e d port) s (ends w.2 w.1.access)) ∧
    (portReserved ra = false → t.claim e.val ra = 2 →
      let w := t.portWrite e.val ra (t.g e b).toNat
      Gives (.isaPoutr e a b) s (ends w.2 w.1.access)) ∧
    Gives (.isaWmark e) s (t.enterWait e.val 5 .mark) ∧
    Gives (.isaWtime e a b) s (t.enterWait e.val 4 (.time (t.g e b ++ t.g e a))) ∧
    (∀ i : Nat, i < 128 → u.pend.getLsbD i = true → (∀ j, j < i → u.pend.getLsbD j = false) →
      let c := (t.setEng e.val { u with pend := u.pend &&& ~~~(1#128 <<< i) }).wrote e d (BitVec.ofNat 32 i) {}
      Gives (.isaEvwait e d) s c ∧ Gives (.isaEvpoll e d) s c) ∧
    (u.pend = 0 →
      Gives (.isaEvwait e d) s (t.enterWait e.val 3 (.event d.val)) ∧
      Gives (.isaEvpoll e d) s (t.wrote e d 0xFFFFFFFF {})) ∧
    (112 ≤ ra → ra ≤ 127 → Gives (.isaEvsig e a) s (ends (t.fire ra e.val) 0))

/-- R222, R229, R231 to R233, R235, R236, R238 to R241: the forms that trap. Each takes its trap in place of its effect, with the address,
number or word the rule names in TRAP_ADDR: a number out of range or a jump above word 2,047 trap 2, a reserved cond, field or CSR and a
loop nested too deep trap 1, a port without a fitting claim trap 3, misuse of a lock trap 6 and of a buffer trap 7. -/
def Obligations.IsaTrappingForms : Prop :=
  ∀ (s : State) (e : Fin 32) (d a b : Fin 16) (imm : BitVec 14) (pos wm1 : Fin 32) (n : BitVec 12) (port : BitVec 16) (words : Bool),
    s.chip.executes e = true →
    let t := s.chip.fetched e
    let x := (t.g e a).toNat
    let w := t.g e b
    let u := t.eng e.val
    let traps (cause addr : Nat) (j : Instr) : Prop := Gives j s (t.trap e.val cause (some addr))
    let field (kind : Nat) : Nat := 0x13 * 2 ^ 26 + d.val * 2 ^ 22 + a.val * 2 ^ 18 + kind * 2 ^ 12 + wm1.val * 2 ^ 5 + pos.val
    let target : Nat := (((t.pc e : Int) + imm.toInt) % 2048).toNat
    let addr := (t.g e a + imm.signExtend 32).toNat
    let loopWord : Nat := 0x24 * 2 ^ 26 + a.val * 2 ^ 18 + imm.toNat
    traps 1 (0x20 * 2 ^ 26 + 15 * 2 ^ 22 + imm.toNat) (.isaBCond e 15 imm) ∧
    (32 < pos.val + (wm1.val + 1) →
      traps 1 (field 0) (.isaBfx e d a pos wm1) ∧ traps 1 (field 1) (.isaBfxs e d a pos wm1) ∧ traps 1 (field 2) (.isaBfi e d a pos wm1)) ∧
    (7 < n.toNat →
      traps 1 (0x3C * 2 ^ 26 + d.val * 2 ^ 22 + n.toNat) (.isaCsrr e d n) ∧
      traps 1 (0x3C * 2 ^ 26 + a.val * 2 ^ 18 + 2 ^ 12 + n.toNat) (.isaCsrw e n a)) ∧
    (imm.toInt ≤ 0 → traps 1 loopWord (.isaLoop e a imm)) ∧
    (2 ≤ u.loops.length → traps 1 loopWord (.isaLoop e a imm)) ∧
    (∀ st en k, u.loops = [(st, en, k)] → (en + 2048 - st) % 2048 ≤ (target + 2048 - st) % 2048 → traps 1 loopWord (.isaLoop e a imm)) ∧
    (2048 ≤ x → traps 2 x (.isaJr e a) ∧ traps 2 x (.isaCallr e a) ∧ traps 2 x (.isaBfree e a) ∧ traps 2 x (.isaBgive e a b)) ∧
    (128 ≤ x → traps 2 x (.isaRput e a b) ∧ traps 2 x (.isaRpute e a b) ∧ traps 2 x (.isaRget e d a) ∧ traps 2 x (.isaRtry e d a) ∧
      traps 2 x (.isaRinfo e d a words) ∧ traps 2 x (.isaRdropp e a)) ∧
    (256 ≤ x → traps 2 x (.isaLacq e d a) ∧ traps 2 x (.isaLtry e d a) ∧ traps 2 x (.isaLrel e a) ∧ traps 2 x (.isaLclr e a)) ∧
    (64 ≤ x → traps 2 x (.isaMsend e d a b) ∧ traps 2 x (.isaMrecv e d a) ∧ traps 2 x (.isaMtry e d a)) ∧
    (x < 112 ∨ 127 < x → traps 2 x (.isaEvsig e a)) ∧
    (portReserved port.toNat = true ∨ t.claim e.val port.toNat = 0 → traps 3 port.toNat (.isaPin e d port)) ∧
    (portReserved port.toNat = true ∨ t.claim e.val port.toNat ≠ 2 → traps 3 port.toNat (.isaPout e d port)) ∧
    (portReserved x = true ∨ t.claim e.val x = 0 → traps 3 x (.isaPinr e d a)) ∧
    (portReserved x = true ∨ t.claim e.val x ≠ 2 → traps 3 x (.isaPoutr e a b)) ∧
    (x < 256 → t.lockOwner x = e.val → traps 6 x (.isaLacq e d a) ∧ traps 6 x (.isaLtry e d a)) ∧
    (x < 256 → t.lockOwner x ≠ e.val → traps 6 x (.isaLrel e a) ∧ traps 6 x (.isaLclr e a)) ∧
    (x < 256 → t.lockOwner x = e.val → t.lockPoison x = true → traps 6 x (.isaLrel e a)) ∧
    (x < 64 → t.bufOwner (w.extractLsb' 0 11).toNat ≠ e.val ∨ (w.extractLsb' 16 8).toNat = 0 ∨ 128 < (w.extractLsb' 16 8).toNat →
      traps 7 w.toNat (.isaMsend e d a b)) ∧
    ((addr % 4 ≠ 0 → traps 2 addr (.isaLdw e d a imm) ∧ traps 2 addr (.isaStw e d a imm)) ∧
      (addr % 2 ≠ 0 → traps 2 addr (.isaLdhs e d a imm) ∧ traps 2 addr (.isaLdhu e d a imm) ∧ traps 2 addr (.isaSth e d a imm)) ∧
      (gateView addr = true → traps 2 addr (.isaStw e d a imm) ∧ traps 2 addr (.isaSth e d a imm) ∧ traps 2 addr (.isaStb e d a imm)))

/-! ### Registers, pours and the seam -/

/-- R50, R53, R55, R512, R68 (03_register_model.md), as commands show them: a write to the register space, field by field by access code and
then command by command, and a read of a _LO register, which captures its _HI half. A field-die unit's field goes on to the
field die. A register for the management function alone refuses every other requester (R251, R513). -/
def Obligations.RegisterAccessResults : Prop :=
  ∀ (r : Requester) (addr data : BitVec 32) (l : Loc) (s : State),
    let c := s.chip
    let a := addr.toNat
    let ignored := l.fields.any (fun f => f.code == .rwE) && c.unitOn l
    let mine := mgmtOnly l = true → r = .mgmt
    let t := c.each l.fields (fun c f => c.writeFld l data.toNat f)
    c.coreUp = true → (r = .mgmt → c.active 52 = true ∨ l.blk = 8) → locate a = some l →
    (mgmtOnly l = true → r ≠ .mgmt → Gives (.registerWrite r .word addr data) s (c.respond r a .refused)) ∧
    (mine → c.occupied l = true → Gives (.registerWrite r .word addr data) s (c.respond r a .busy)) ∧
    (mine → c.occupied l = false → c.groupArmed l = true → Gives (.registerWrite r .word addr data) s (c.rejected r a l.blk l.inst l.off)) ∧
    (mine → c.occupied l = false → c.groupArmed l = false → ignored = false →
      Gives (.registerWrite r .word addr data) s (Chip.respondUp (runCmds (cmdsOf r l data.toNat) t) r a)) ∧
    (mine → c.occupied l = false → c.groupArmed l = false → ignored = true →
      Gives (.registerWrite r .word addr data) s
        (Chip.respondUp (runCmds (cmdsOf r l data.toNat) (t.ignored r.code l.blk l.inst l.off)) r a)) ∧
    Gives (.registerWrite r .half addr data) s (c.respond r a .refused) ∧
    Gives (.registerWrite r .byte addr data) s (c.respond r a .refused) ∧
    (∀ (d : Chip) (f : Fld) (v : Nat),
      let p := v / 2 ^ f.lsb % 2 ^ f.width
      (f.code = .rwE → d.unitOn l = true → d.writeFld l v f = d) ∧
      (f.code = .rwE → d.unitOn l = false → fieldDieKey f.key = false → (d.writeFld l v f).get f = p) ∧
      (f.code = .rwP → fieldDieKey f.key = false → (d.writeFld l v f).sh f = p ∧ (d.writeFld l v f).wk f = d.wk f) ∧
      (f.code = .cnt → (d.writeFld l v f).get f = p) ∧
      (f.code ≠ .rwE → f.code ≠ .rwP → f.code ≠ .cnt → d.writeFld l v f = d)) ∧
    (∀ h : Loc, loReg l = true → locate (a + 4) = some h →
      Gives (.loReadCapture r addr) s
        ({ c with hiLatch := c.hiLatch.put (resetWord l) (a + 4) (c.readWord h false),
                  lastRead := c.lastRead.put 0 r.code (c.readWord l false) }.respond r a .done))

/-- R59 to R66 (03_register_model.md): pours and withdraws. PG15 of a local pour counts as 0 (R44); a group armed, refilling or whose values a
block's check refuses turns the whole pour away; a withdraw of an armed or a refilling group is turned away; the target mark of an
accepted arm pours, a target passed without one lapses. A request that waits for its cycle gives way to a later one (the model's choice,
log entry 33). -/
def Obligations.PourCommandResults : Prop :=
  ∀ (r : Requester) (mask : BitVec 16) (v : BitVec 32) (g : Fin 16) (s : State),
    let c := s.chip
    let m := clrBit mask.toNat 15
    let lead := bits v.toNat 19 16
    let st := c.get Reg.SYS_CH_STAT_STATE
    let n := c.get Reg.CLK_CYC_NUM
    let first := if c.clk.sentCyc = true then (n + 1) % 2 ^ 32 else 0
    let target := c.get Reg.SYS_ARM_CYC
    (c.takes r Reg.SYS_POUR.addr = true →
      (m &&& c.get Reg.SYS_ARMED = 0 ∧ m &&& c.get Reg.SYS_REFILL = 0 ∧ c.pourBad m = false →
        Gives (.localPour r mask) s ((c.pour m).respond r Reg.SYS_POUR.addr .done)) ∧
      (m &&& c.get Reg.SYS_ARMED ≠ 0 ∨ m &&& c.get Reg.SYS_REFILL ≠ 0 ∨ c.pourBad m = true →
        Gives (.localPour r mask) s (c.rejected r Reg.SYS_POUR.addr 0 0 0x100))) ∧
    (c.takes r Reg.SYS_WITHDRAW.addr = true →
      (mask.toNat &&& c.get Reg.SYS_ARMED = 0 ∧ mask.toNat &&& c.get Reg.SYS_REFILL = 0 →
        Gives (.withdraw r mask) s ((c.unshadow mask.toNat).respond r Reg.SYS_WITHDRAW.addr .done)) ∧
      (mask.toNat &&& c.get Reg.SYS_ARMED ≠ 0 ∨ mask.toNat &&& c.get Reg.SYS_REFILL ≠ 0 →
        Gives (.withdraw r mask) s (c.rejected r Reg.SYS_WITHDRAW.addr 0 0 0x104))) ∧
    (c.takes r Reg.SYS_CH_GO_MASK.addr = true →
      (c.isHead = true ∧ st ≠ 1 ∧ st ≠ 2 ∧ 2 ≤ lead →
        Gives (.chGo r v) s
          (({ c with arm := { c.arm with mask := bits v.toNat 15 0, lead := lead, station := bits v.toNat 29 20, wait := true } }.put
            Reg.SYS_CH_TARGET (first + lead)).respond r Reg.SYS_CH_GO_MASK.addr .done)) ∧
      (c.isHead = false ∨ st = 1 ∨ st = 2 ∨ lead < 2 →
        Gives (.chGo r v) s (c.rejected r Reg.SYS_CH_GO_MASK.addr 0 0 0x118))) ∧
    Gives (.refillComplete g) s (c.put Reg.SYS_REFILL (clrBit (c.get Reg.SYS_REFILL) g.val)) ∧
    (c.coreUp = true → c.arm.on = true → c.arm.accepted = true → n = target →
      Gives .armedPour s
        (let t := c.disarm.pourCore (c.get Reg.SYS_ARMED)
         if t.get Reg.SYS_CH_STAT_STATE = 2 then t.put Reg.SYS_CH_STAT_STATE 3 else t)) ∧
    (c.coreUp = false ∨ c.arm.on = false ∨ c.arm.accepted = false ∨ n ≠ target → Gives .armedPour s c) ∧
    (c.coreUp = true → c.arm.on = true → later target n = false → c.arm.accepted = false ∨ n ≠ target →
      Gives .pourLapse s (((c.disarm.unshadow (c.get Reg.SYS_ARMED)).inc Reg.SYS_LAPSE_CNT).fire 40 0)) ∧
    (c.coreUp = false ∨ c.arm.on = false ∨ later target n = true ∨ c.arm.accepted = true ∧ n = target → Gives .pourLapse s c)

/-- R58 to R61 (03_register_model.md): what a pour and a withdraw move. A pour of groups on the core die that no unit follows at once makes the
shadow of each of their RW-P fields the working value, and leaves every other working value and every shadow; a withdraw makes the
working values the shadows. The groups' double tables refill. -/
def Obligations.PourCopiesShadowsOfItsGroups : Prop :=
  ∀ (s : Chip) (mask : Nat) (f : Fld), s.work.wf = true → s.shadow.wf = true →
    (mask &&& 0x1FE5 = 0 →
      (s.pour mask).wk f = (if pourKey mask f.key then s.sh f else s.wk f) ∧ (s.pour mask).sh f = s.sh f) ∧
    (mask &&& 0x1F04 = 0 →
      (s.unshadow mask).sh f = (if pourKey mask f.key then s.wk f else s.sh f) ∧ (s.unshadow mask).wk f = s.wk f ∧
      (s.unshadow mask).get Reg.SYS_REFILL = (s.get Reg.SYS_REFILL ||| (mask &&& 25765)) % 65536)

/-- R17 to R24, R26, R27, R39, R291, R514 (01_node_and_chain.md, 02_clocks_and_chain_time.md, 05_gleshline_link.md, 13_flasks_and_warden.md): frames of the
seam, its loss on the two dies, its retrain, and the measurement of CORE. A discarded frame delivers nothing, so that its items
are lost (log entry 30, DEDUCED); how long a silence shows COPY_STALE is the model's choice (log entry 32). -/
def Obligations.SeamLinkResults : Prop :=
  ∀ (r : Requester) (v : BitVec 16) (items : List SeamItem) (rest : List (List SeamItem)) (s : State),
    let c := s.chip
    let busy := c.flag Reg.SEAM_STATUS_RETRAIN_BUSY
    let taken := { c with seam := { c.seam with flight := [], sent := rest } }
    let got := ({ taken.beacon with seam := { taken.beacon.seam with fieldRx := true, everRx := true, lost := false } }).seamShow
    let dead := ({ c with
      meas := { c.meas with hold := [] }
      fTime := { c.fTime with loose := true, back := 0 }
      seam := { c.seam with
        fieldRx := false, lost := true, lossReport := true, safeOut := 2 ^ 21 - 1
        marks := fieldFlasks.foldl (fun m f => m + 2 ^ f) 0 } }).seamShow
    let quiet := (({ c with seam := { c.seam with coreRx := false } }).seamShow).put Reg.CLK_STATUS_COPY_STALE 1
    let d := c.drew
    let counted := { d with seam := { d.seam with lossReport := false } }.inc Reg.SEAM_LOSS_CNT
    let hushed := (({ d with seam := { d.seam with coreRx := false } }).seamShow).put Reg.CLK_STATUS_COPY_STALE 1
    let hush := { c with copySet := none, seam := { c.seam with fieldRx := false, coreRx := false } }
    let retrained := ({ c with seam := { c.seam with fieldRx := true, coreRx := true, everRx := true, lost := false } }.put
      Reg.SEAM_STATUS_RETRAIN_BUSY 0).seamShow
    (c.coreUp = true → c.fieldUp = true → busy = false → c.seam.sent = items :: rest →
      Gives (.seamFrameReceive .field true) s ((got.each (c.seam.flight ++ items) (fun t i => t.deliver i)).fieldSettle) ∧
      Gives (.seamFrameReceive .field false) s (taken.inc Reg.SEAM_CRC_CNT)) ∧
    (c.coreUp = true → c.fieldUp = true → busy = false →
      Gives (.seamFrameReceive .core false) s ({ c with copySet := none }.inc Reg.SEAM_CRC_CNT) ∧
      (c.seam.lossReport = false →
        let t := ({ c with seam := { c.seam with coreRx := true } }).seamShow
        (c.copySet = none → Gives (.seamFrameReceive .core true) s t.measRelease) ∧
        (∀ x : SMap Nat, c.copySet = some x →
          Gives (.seamFrameReceive .core true) s
            ((({ t with regs := SMap.overlay (fun k => codeOfKey k == some Code.roC) x t.regs, copySet := none }).put
              Reg.CLK_STATUS_COPY_STALE 0).measRelease)))) ∧
    (busy = true → ∀ (die : Die) (ok : Bool), Gives (.seamFrameReceive die ok) s c) ∧
    (c.coreUp = true → busy = false →
      Gives .seamKeepalive s { c with seam := { c.seam with queue := [], sent := c.seam.sent ++ [c.seam.queue] } }) ∧
    (c.coreUp = false ∨ busy = true → Gives .seamKeepalive s c) ∧
    (c.fieldUp = true → c.seam.everRx = true → c.seam.lost = false →
      Gives .seamLossDeclare s
        ((((dead.setLv Reg.SEAM_STATUS_SAFE 1).each [0, 1, 2, 3, 4] (fun t p => t.policyHandover p)).fieldSettle).each [5, 6, 7, 8]
          (fun t ch => t.channelOpen ch))) ∧
    (c.seam.lost = true → Gives .seamLossDeclare s c) ∧
    (c.coreUp = true → c.seam.lossReport = false ∨ c.seam.coreRx = false →
      (c.seam.lossKnown = false →
        Gives .seamLossKnown s (({ quiet with seam := { quiet.seam with lossKnown := true } }).alm 4)) ∧
      (c.seam.lossKnown = true → Gives .seamLossKnown s quiet)) ∧
    (c.coreUp = true → c.seam.lossReport = true → c.seam.coreRx = true → c.seam.lossKnown = false →
      Gives .seamLossKnown s (({ counted with seam := { counted.seam with lossKnown := true } }).alm 4) ∨
      Gives .seamLossKnown s (({ hushed with seam := { hushed.seam with lossKnown := true } }).alm 4)) ∧
    (c.coreUp = false → Gives .seamLossKnown s c) ∧
    (c.coreUp = true → c.seamUp = true → c.seam.marks = 0 → c.warden.afresh = true → c.seam.lossKnown = false → c.seam.lossReport = false →
      Gives .seamUpResume s (({ c with warden := { c.warden with afresh := false } }).laneSend true)) ∧
    (c.seamUp = false ∨ c.seam.lossKnown = false ∧ c.warden.afresh = false → Gives .seamUpResume s c) ∧
    (c.takes r Reg.SEAM_RETRAIN.addr = true →
      (busy = false → Gives (.seamRetrainGo r) s
        ((((hush.put Reg.SEAM_STATUS_RETRAIN_BUSY 1).put Reg.CLK_STATUS_COPY_STALE 1).seamShow).respond r Reg.SEAM_RETRAIN.addr .done)) ∧
      (busy = true → Gives (.seamRetrainGo r) s (c.rejected r Reg.SEAM_RETRAIN.addr 20 0 0x0C))) ∧
    (c.coreUp = true → c.fieldUp = true → busy = true → c.seam.lossReport = false →
      Gives .seamRetrainDone s retrained.beacon.measRelease) ∧
    (busy = false → Gives .seamRetrainDone s c) ∧
    (c.fieldUp = true →
      Gives .copySetCapture s
        (let t := c.readings.setLvB Reg.TEST_STAT_VCORE_OK (bit c.pwr.pg 2); { t with copySet := some t.live })) ∧
    (c.coreUp = true → c.pwr.pllOnce = true → Gives .corePllLockLoss s (c.coreReset 5 false)) ∧
    (c.pwr.pllOnce = false → Gives .corePllLockLoss s c) ∧
    (c.coreUp = true →
      (c.flag Reg.CLK_STATUS_CORE_LOCK = true → Gives (.freqMeasure v) s (c.put Reg.CLK_FREQ v.toNat)) ∧
      (c.flag Reg.CLK_STATUS_CORE_LOCK = false → Gives (.freqMeasure v) s (c.put Reg.CLK_FREQ 0x8000)))

/-! ### Clocks and marks -/

/-- R100, R35, R43, R45, R46, R60, R169, R180 (05_gleshline_link.md, 02_clocks_and_chain_time.md, 03_register_model.md, 07_chain_topology_and_heads.md,
08_process_image.md): the marks of a head, of a reserve that takes over and of a member in HOLDOVER, a missing mark in ACQUIRE, the loss of the
host's SOFs, the apply instant and a field-die pour. `Chip.mark` is what every mark does. -/
def Obligations.ClockCommandResults : Prop :=
  ∀ s : State,
    let c := s.chip
    let sync := c.get Reg.CLK_STATUS_SYNC
    let cleared := c.retClose
    let start := cleared.get Reg.CLK_CT_INIT_LO + 2 ^ 32 * cleared.get Reg.CLK_CT_INIT_HI
    let first := ({ cleared with
        ct := BitVec.ofNat 64 start, ctFrac := 0
        clk := { cleared.clk with markNs := start, headNs := start, sentCyc := true } }.put Reg.CLK_CYC_NUM 0)
    let begun := ((((first.put Reg.CLK_STATUS_EN 1).put Reg.CLK_STATUS_SYNC 2).putAddr 0 0).countMembers.put Reg.GATE_STAT_ORIGIN 1).presentChange
    let late := c.timeTo (c.predicted + 2000)
    (c.sends = true →
      let own := if cleared.chain.taking = true then cleared.takeoverPort.nextMark.takeoverEnd
        else if cleared.get Reg.CHAIN_STAT_ROLE = 1 ∧ cleared.clk.sentCyc = false then begun else cleared.nextMark
      let n := own.get Reg.CLK_CYC_NUM
      let d := own.sleepDecide n
      (d.1 = true → Gives .cycSend s d.2.slpLeaves.sofStep.mark) ∧
      (d.1 = false → Gives .cycSend s (d.2.cycLeaves.sofStep.mark.buildFrames n))) ∧
    (c.sends = false → Gives .cycSend s c) ∧
    (c.coreUp = true → c.isHead = false →
      (sync = 2 → late.get Reg.CLK_STATUS_SYNC = 2 →
        Gives .holdoverEntry s ((late.put Reg.CLK_STATUS_SYNC 3).fire 37 (detail 0 3))) ∧
      (sync = 1 → late.get Reg.CLK_STATUS_SYNC = 1 →
        Gives .holdoverEntry s { late with clk := { late.clk with
          missed := late.clk.missed + 1, markNs := late.predicted, headNs := late.clk.headNs + late.period } }) ∧
      (sync ≠ 1 → sync ≠ 2 → Gives .holdoverEntry s c) ∧
      (sync = 3 → c.chain.taking = false → late.coreUp = true → late.isHead = false → late.get Reg.CLK_STATUS_SYNC = 3 → late.chain.taking = false →
        let t := { late with clk := { late.clk with
          missed := late.clk.missed + 1, markNs := late.predicted, headNs := late.clk.headNs + late.period } }
        Gives .localMark s (((t.put Reg.CLK_CYC_NUM (t.get Reg.CLK_CYC_NUM + 1)).inc Reg.CLK_MISS_CNT).mark)) ∧
      (sync ≠ 3 ∨ c.chain.taking = true → Gives .localMark s c)) ∧
    (c.coreUp = true → c.flag Reg.CLK_STATUS_USB_LOCK = true →
      Gives .usbLockLoss s ((c.put Reg.CLK_STATUS_USB_LOCK 0).fire 38 (detail 0 0))) ∧
    (c.flag Reg.CLK_STATUS_USB_LOCK = false → Gives .usbLockLoss s c) ∧
    (c.fieldUp = true → c.clk.fMarked = true → c.clk.fSteered = true →
      let t := c.fieldTimeTo c.clk.fApply
      Gives .applyInstant s
        ({ t with clk := { t.clk with applied := t.clk.fCyc + 1, fMarked := false }
                  pin := { t.pin with apply := true, applyAt := t.ct.toNat } }.drvApply)) ∧
    (c.clk.fMarked = false ∨ c.clk.fSteered = false → Gives .applyInstant s c) ∧
    (c.fieldUp = true → c.fPour ≠ 0 → Gives .fieldPourApply s (c.fieldTake c.fPour)) ∧
    (c.fPour = 0 → Gives .fieldPourApply s c)

/-- R12 to R14, R35, R45, R96, R102, R163, R170 (01_node_and_chain.md, 02_clocks_and_chain_time.md, 05_gleshline_link.md, 07_chain_topology_and_heads.md): a
CYC at a port. A body whose CRC-16 fails counts, is passed on, and is a missing mark on the headward port; a member takes a good one from the
headward port; before its first the port gives the roles; one at its tailward port swaps the roles after three missing marks. A head that
has sent CYC yields to a head of the lower UID that faces it (across the join link of the two: the model's reading, log entry 34). -/
def Obligations.CycleMarkReceptionResults : Prop :=
  ∀ (p : Fin 2) (body : List (BitVec 8)) (s : State),
    let c := s.chip
    let q := p.val
    let good := body.length == 16 && leNat (body.drop 14) == (crc16 0xFFFF (body.take 14)).toNat
    let own := c.clk.sentCyc && leNat (body.take 8) == c.clk.markNs && leNat ((body.drop 8).take 4) == c.get Reg.CLK_CYC_NUM
    let partner := c.get (Reg.LINK_PARTNER_LO q) + 2 ^ 32 * c.get (Reg.LINK_PARTNER_HI q)
    let counted := (c.inc (Reg.LINK_CYC_BAD_CNT q)).passCyc q body
    let role := c.get Reg.CHAIN_STAT_ROLE
    let facing := (c.gl q).rank = 0
    let apart := { c with chain := { c.chain with join := clrBit c.chain.join q } }
    (c.coreUp = false ∨ c.linkActive q = false ∨ (bit c.chain.join q = true ∧ (role ≠ 1 ∨ ¬facing)) → Gives (.cycReceive p body) s c) ∧
    (c.coreUp = true → c.linkActive q = true → bit c.chain.join q = false ∨ (role = 1 ∧ facing) →
      (good = false → c.headPort = some q → Gives (.cycReceive p body) s counted.badMark) ∧
      (good = false → c.headPort ≠ some q → Gives (.cycReceive p body) s counted) ∧
      (good = true → role ≠ 1 → role ≠ 3 →
        (c.flag Reg.CLK_STATUS_EN = false → Gives (.cycReceive p body) s (((c.firstCyc q).acceptCyc body).chainShow)) ∧
        (c.flag Reg.CLK_STATUS_EN = true → c.headPort = some q → Gives (.cycReceive p body) s (c.acceptCyc body)) ∧
        (c.flag Reg.CLK_STATUS_EN = true → c.headPort ≠ some q → 3 ≤ c.clk.missed →
          Gives (.cycReceive p body) s (((c.roleSwap q).acceptCyc body).chainShow)) ∧
        (c.flag Reg.CLK_STATUS_EN = true → c.headPort ≠ some q → c.clk.missed < 3 → Gives (.cycReceive p body) s c)) ∧
      (good = true → role = 1 →
        (c.clk.sentCyc = false ∨ (own = false ∧ facing ∧ partner ≤ Sys2Proof.Config.uid.toNat) →
          Gives (.cycReceive p body) s (((apart.loseHead.firstCyc q).acceptCyc body).chainShow)) ∧
        (c.clk.sentCyc = true → own = true ∨ (facing ∧ Sys2Proof.Config.uid.toNat < partner) → Gives (.cycReceive p body) s c)) ∧
      (good = true → role = 3 → c.chain.handed = false ∨ own = true → Gives (.cycReceive p body) s c))

/-- R35 with Table CLK-4 (02_clocks_and_chain_time.md): the synchronisation state of a member after a valid mark whose chain time plus its delay is
`target` ps: LOCKED within 10 ns for 16 marks in ACQUIRE, by the 96th mark in any case (log entry 28, DEDUCED), or at once in HOLDOVER; kept up to
1,000 ns, never stepped while it is kept. ACQUIRE steps once, at the first mark further off (log entry 29, the model's choice). -/
def Obligations.SynchronisationFollowsTableClk4 : Prop :=
  ∀ (c : Chip) (target : Int),
    let e := target - ((c.ct.toNat : Int) * 1000 + (c.ctFrac.toNat : Int) * 1000 / 2 ^ 32)
    let st := c.get Reg.CLK_STATUS_SYNC
    let last := 95 ≤ c.clk.acqMarks
    let t := c.syncMark target
    (st = 0 → t.get Reg.CLK_STATUS_SYNC = 1) ∧
    (st = 1 → e.natAbs ≤ 10000 → 15 ≤ c.clk.inWin ∨ last → t.get Reg.CLK_STATUS_SYNC = 2 ∧ t.ct = c.ct) ∧
    (st = 1 → e.natAbs ≤ 10000 → c.clk.inWin < 15 → ¬last →
      t.get Reg.CLK_STATUS_SYNC = 1 ∧ t.clk.inWin = c.clk.inWin + 1 ∧ t.ct = c.ct) ∧
    (st = 1 → 10000 < e.natAbs → ¬last → c.clk.stepped = false →
      t.get Reg.CLK_STATUS_SYNC = 1 ∧ t.clk.stepped = true ∧ t.clk.inWin = 0 ∧ t.ct = BitVec.ofInt 64 (target / 1000)) ∧
    (st = 1 → 10000 < e.natAbs → ¬last → c.clk.stepped = true → t.get Reg.CLK_STATUS_SYNC = 1 ∧ t.clk.inWin = 0 ∧ t.ct = c.ct) ∧
    (st = 1 → 10000 < e.natAbs → last → t.get Reg.CLK_STATUS_SYNC = 2 ∧ t.ct = c.ct) ∧
    (st = 2 → e.natAbs ≤ 1000000 → t.get Reg.CLK_STATUS_SYNC = 2 ∧ t.ct = c.ct) ∧
    (st = 2 → 1000000 < e.natAbs → t.get Reg.CLK_STATUS_SYNC = 1) ∧
    (st = 3 → e.natAbs ≤ 10000 → t.get Reg.CLK_STATUS_SYNC = 2 ∧ t.ct = c.ct) ∧
    (st = 3 → 10000 < e.natAbs → t.get Reg.CLK_STATUS_SYNC = 1)

/-! ### Power, boot and low power -/

/-- R73 to R76 (04_power_up_to_service.md): the rail sequencer of the keep domain and the release of the dies, at which the fence lane's words reach the field die. EN and PG hold a bit for each of VAUX, VLOGIC
and VCORE; the failed attempts of a power-up count anew once all rails are up (log entry 21, DEDUCED). -/
def Obligations.RailSequencerResults : Prop :=
  ∀ (rail : Rail) (role : BitVec 2) (sel : Bool) (s : State),
    let c := s.chip
    let n := railNum rail
    let up (d : Chip) (k : Nat) : Chip := { d with pwr := { d.pwr with phase := .wantPg, rail := k, en := setBit d.pwr.en k } }
    let failed := c.setLv Reg.SYS_KEEP_STAT_RAIL_FAIL (c.pwr.rail + 1)
    (c.pwr.phase = .por → Gives .keepPorRelease s (up (c.setLv Reg.SYS_KEEP_STAT_KEEPF_OK 1) 0)) ∧
    (c.pwr.phase ≠ .por → Gives .keepPorRelease s c) ∧
    (c.pwr.phase = .wantPg → c.pwr.rail = n →
      (n ≠ 2 → Gives (.railPgHigh rail) s { c with pwr := { c.pwr with pg := setBit c.pwr.pg n, phase := .gap } }) ∧
      (n = 2 → Gives (.railPgHigh rail) s
        ({ c with pwr := { c.pwr with pg := setBit c.pwr.pg 2, phase := .up, attempts := 0 } }.setLv Reg.TEST_STAT_VCORE_OK 1))) ∧
    (c.pwr.phase ≠ .wantPg ∨ c.pwr.rail ≠ n → Gives (.railPgHigh rail) s c) ∧
    (c.pwr.phase = .gap → Gives .railEnableNext s (up c (c.pwr.rail + 1))) ∧
    (c.pwr.phase ≠ .gap → Gives .railEnableNext s c) ∧
    (c.pwr.phase = .wantPg →
      Gives .railPgTimeout s
        ({ failed with pwr := { failed.pwr with attempts := c.pwr.attempts + 1 } }.dropStart (if 2 ≤ c.pwr.attempts then .failed else .retry))) ∧
    (c.pwr.phase ≠ .wantPg → Gives .railPgTimeout s c) ∧
    (c.pwr.phase = .retryWait → Gives .railRetry s (up c 0)) ∧
    (c.pwr.phase ≠ .retryWait → Gives .railRetry s c) ∧
    (c.pwr.phase = .dropping →
      (∀ k : Nat, c.railNext = some k → Gives .railDisableNext s (c.railDown k)) ∧
      (c.railNext = none →
        (c.pwr.goal = .retry → Gives .railDisableNext s { c with pwr := { c.pwr with phase := .retryWait } }) ∧
        (c.pwr.goal = .failed → Gives .railDisableNext s { c with pwr := { c.pwr with phase := .failed } }) ∧
        (c.pwr.goal = .standby → Gives .railDisableNext s { c with pwr := { c.pwr with phase := .standby } }) ∧
        (c.pwr.goal = .resequence → Gives .railDisableNext s (up c 0)) ∧
        (c.pwr.goal = .off → c.pwr.trunkOff = false → Gives .railDisableNext s { c with pwr := { c.pwr with phase := .off } }))) ∧
    (c.pwr.phase ≠ .dropping → Gives .railDisableNext s c) ∧
    (∀ d : Chip, (bit d.pwr.en 2 = true → d.railNext = some 2) ∧
      (bit d.pwr.en 2 = false → d.pwr.goal ≠ .standby → bit d.pwr.en 1 = true → d.railNext = some 1) ∧
      (bit d.pwr.en 2 = false → d.pwr.goal ≠ .standby → bit d.pwr.en 1 = false → bit d.pwr.en 0 = true → d.railNext = some 0) ∧
      (bit d.pwr.en 2 = false → d.pwr.goal = .standby ∨ (bit d.pwr.en 1 = false ∧ bit d.pwr.en 0 = false) → d.railNext = none)) ∧
    (c.pwr.fieldRst = true → bit c.pwr.pg 0 = true → bit c.pwr.pg 1 = true →
      Gives .fieldResetRelease s
        ((({ c with pwr := { c.pwr with fieldRst := false } }.setLvB Reg.TEST_STAT_VCORE_OK (bit c.pwr.pg 2)).each [0, 1, 2, 3, 4]
          (fun t p => t.tcEnter p (t.tcFresh p))).fieldSettle)) ∧
    (c.pwr.fieldRst = false ∨ bit c.pwr.pg 0 = false ∨ bit c.pwr.pg 1 = false → Gives .fieldResetRelease s c) ∧
    (c.pwr.coreRst = false ∨ bit c.pwr.pg 2 = false ∨ c.pwr.phase ≠ .up → Gives (.coreResetRelease role sel) s c) ∧
    (c.pwr.coreRst = true → bit c.pwr.pg 2 = true → c.pwr.phase = .up →
      Completes (.coreResetRelease role sel) s (fun t => ∃ d : Chip, t = d.laneUpdate ∧ d.coreUp = true ∧ d.pwr.pllOnce = true ∧
        d.pwr.nrstLow = false ∧ d.get Reg.SYS_STRAP_ROLE = role.toNat ∧ d.get Reg.SYS_STRAP_BOOTSEL = b2n sel ∧
        d.get Reg.SYS_BOOT_STATE = (if sel then 2 else 1) ∧ d.get Reg.CLK_STATUS_CORE_LOCK = 1 ∧ d.get Reg.SYS_PWR_STAT = 0 ∧
        d.get Reg.CHAIN_STAT_ROLE = (if role = 1 ∧ c.pwr.lostHead = false then 1 else if role = 2 then 2 else 0) ∧ d.mem = c.mem))

/-- R70 to R72 with Table SYS-1 (04_power_up_to_service.md): the four reset kinds. A core reset clears the core die and keeps the field die, the keep
domain and the memories; a node reset also clears the field die; a rail reset then drops the rails; a trunk POR leaves the NOR, the OTP
and what the keep domain latched. Memory outlives a core reset (log entry 3), field-die registers too (log entry 19). -/
def Obligations.ResetKindResults : Prop :=
  ∀ (r : Requester) (rail : Rail) (s : State),
    let c := s.chip
    let n := railNum rail
    let core (t : Chip) : Prop := t.coreUp = false ∧ t.engs = [] ∧ t.runs = [] ∧ t.sync = {} ∧ t.evt = {} ∧ t.hub = {} ∧ t.arm = {} ∧
      t.clk.serving = false ∧ t.seam.queue = [] ∧ t.nor = c.nor ∧ t.mem = c.mem ∧ t.boot.keyHash = c.boot.keyHash ∧ t.boot.rbCnt = c.boot.rbCnt
    let fieldKept (t : Chip) : Prop := t.fieldUp = c.fieldUp ∧ t.live = c.live ∧ t.fWork = c.fWork ∧ t.fShadow = c.fShadow ∧ t.drv = c.drv ∧
      t.fuse = c.fuse ∧ t.cuffs = c.cuffs ∧ t.meas = c.meas
    let fieldGone (t : Chip) : Prop := t.fieldUp = false ∧ t.fWork = [] ∧ t.fShadow = [] ∧ t.drv = [] ∧ t.meas = {} ∧ t.seam = {} ∧
      (t.fuse.find 9 = c.fuse.find 9 ∧ ∀ k : Nat, k ≠ 9 → t.fuse.find k = none)
    let keep (t : Chip) : Prop := t.pwr.en = c.pwr.en ∧ t.pwr.pg = c.pwr.pg ∧ t.pwr.wake = c.pwr.wake ∧ t.pwr.timer = c.pwr.timer
    (c.takes r Reg.SYS_RESET_CORE.addr = true →
      Gives (.resetCore r) s ((c.coreReset 6 false).respond r Reg.SYS_RESET_CORE.addr .done) ∧
      Completes (.resetCore r) s (fun t => core t ∧ fieldKept t ∧ keep t ∧ t.get Reg.SYS_RST_CAUSE = 6)) ∧
    (c.takes r Reg.SYS_RESET_NODE.addr = true →
      Gives (.resetNode r) s (((c.coreReset 3 false).fieldReset).respond r Reg.SYS_RESET_NODE.addr .done) ∧
      Completes (.resetNode r) s (fun t => core t ∧ fieldGone t ∧ keep t ∧ t.get Reg.SYS_RST_CAUSE = 3)) ∧
    (bit c.pwr.en n = true → bit c.pwr.pg n = true → c.pwr.phase ≠ .dropping →
      Gives (.railReset rail) s (((c.coreReset 1 false).fieldReset).dropStart .resequence)) ∧
    (bit c.pwr.en n = false ∨ bit c.pwr.pg n = false ∨ c.pwr.phase = .dropping → Gives (.railReset rail) s c) ∧
    (c.wakeOpen = true → Gives .nrstPulse s (c.wakeCause 4)) ∧
    (c.wakeOpen = false → c.pwr.phase ≠ .por →
      Completes .nrstPulse s (fun t => core t ∧ fieldKept t ∧ keep t ∧ t.pwr.nrstLow = true ∧ t.get Reg.SYS_RST_CAUSE = 4)) ∧
    (c.wakeOpen = false → c.pwr.phase = .por → Gives .nrstPulse s c) ∧
    (c.pwr.nrstLow = true →
      Completes .nrstLong s (fun t => core t ∧ fieldGone t ∧ keep t ∧ t.get Reg.SYS_RST_CAUSE = 2)) ∧
    (c.pwr.nrstLow = false → Gives .nrstLong s c) ∧
    Completes .trunkPor s (fun t => t.coreUp = false ∧ t.fieldUp = false ∧ t.pwr.phase = .por ∧ t.pwr.en = 0 ∧ t.pwr.pg = 0 ∧ t.regs = [] ∧
      t.work = [] ∧ t.shadow = [] ∧ t.mem = [] ∧ t.engs = [] ∧ t.fuse = [] ∧ t.nor = c.nor ∧ t.boot.keyHash = c.boot.keyHash ∧
      t.boot.rbCnt = c.boot.rbCnt ∧ t.pwr.wake = c.pwr.wake)

/-- R79 to R81, R85, R86 (04_power_up_to_service.md): the boot ROM's checks, the start of a valid image, the messages that bring a chain image, and STORE.
A message that is malformed or comes out of turn is answered STATE_REJECT and changes nothing; the reply takes the message's buffer
(log entry 22, DESIGN CHOICE). -/
def Obligations.BootImageResults : Prop :=
  ∀ (r : Requester) (s : State),
    let c := s.chip
    let st := c.get Reg.SYS_BOOT_STATE
    let checked := { c with boot := { c.boot with slotA := c.slotVersion 0, slotB := c.slotVersion 1 } }
    (c.coreUp = true → st = 1 →
      (c.slotVersion 0 = none → c.slotVersion 1 = none → Gives .imageVerifyDone s (checked.chainWait checked.slotsErr)) ∧
      (∀ (v : Nat) (b : List (BitVec 8)),
        (c.slotImage 0 = some b → c.slotVersion 0 = some v → c.slotVersion 1 = none → Gives .imageVerifyDone s (checked.bootStart b 0 0)) ∧
        (c.slotImage 1 = some b → c.slotVersion 0 = none → c.slotVersion 1 = some v → Gives .imageVerifyDone s (checked.bootStart b 1 0))) ∧
      (∀ (va vb : Nat) (a b : List (BitVec 8)), c.slotImage 0 = some a → c.slotImage 1 = some b →
        (c.slotVersion 0 = some va → c.slotVersion 1 = some vb → vb ≤ va → Gives .imageVerifyDone s (checked.bootStart a 0 0)) ∧
        (c.slotVersion 0 = some va → c.slotVersion 1 = some vb → va < vb → Gives .imageVerifyDone s (checked.bootStart b 1 0)))) ∧
    (c.coreUp = true → st = 4 → ∀ (len k : Nat), c.boot.verify = some (len, k) →
      let b := c.norbs (slotBase k) len
      (c.imageErr b = 0 → Gives .imageVerifyDone s (c.bootStart b k 1)) ∧
      (c.imageErr b ≠ 0 → Gives .imageVerifyDone s (c.chainWait (c.imageErr b)))) ∧
    (∀ (d : Chip) (b : List (BitVec 8)) (k src : Nat), (bootSections b (sections b) d).2.coreUp = true →
      let w := bootSections b (sections b) d
      let e := (({ w.2 with boot := { w.2.boot with holdsMbx := false } }.bootEmpty 63).bootEmpty 62)
      let p := e.localPour 32 (imgWord b 0x1C % 65536)
      (w.1 = false → d.bootStart b k src = w.2.bootFail) ∧
      (w.1 = true → p.1 ≠ .done → d.bootStart b k src = p.2.bootFail) ∧
      (w.1 = true → p.1 = .done → d.bootStart b k src = p.2.bootStarted b k src)) ∧
    (∀ (buf : Nat) (l : List (BitVec 8)), c.bootMsg = some (buf, l) → (c.mbx 62).count < 8 →
      (msgOp l = 1 → msgOk l false = true → st = 2 → imgWord l 4 ≤ 0x100000 →
        Gives .chainImageBegin s
          ((({ c with boot := { c.boot with load := some (imgWord l 4, 0, c.targetSlot) } }.put Reg.SYS_BOOT_STATE 3)).bootReply
            buf (some (1, true)))) ∧
      (msgOp l = 1 → msgOk l false = false ∨ st ≠ 2 ∨ 0x100000 < imgWord l 4 →
        Gives .chainImageBegin s (c.bootReply buf (some (1, false)))) ∧
      (∀ (len next k : Nat), c.boot.load = some (len, next, k) → msgOp l = 2 →
        (msgOk l true = true → st = 3 → imgWord l 4 = next → next + (l.drop 8).length ≤ len →
          let t := c.norForeground.slotWrite k next (l.drop 8)
          Gives .chainImageData s
            ({ t with boot := { t.boot with load := some (len, next + (l.drop 8).length, k) } }.bootReply buf (some (2, true)))) ∧
        (msgOk l true = false ∨ st ≠ 3 ∨ imgWord l 4 ≠ next ∨ len < next + (l.drop 8).length →
          Gives .chainImageData s (c.bootReply buf (some (2, false)))))) ∧
    (∀ (buf : Nat) (l : List (BitVec 8)), c.bootMsg = some (buf, l) → msgOp l ≠ 1 → msgOp l ≠ 2 →
      (msgOp l = 3 → msgOk l false = true → imgWord l 4 = 0 →
        Gives .chainImageEnd s (c.bootReply buf none).imageEnd.2) ∧
      (msgOp l ≠ 3 ∨ msgOk l false = false ∨ imgWord l 4 ≠ 0 → Gives .chainImageEnd s (c.bootReply buf none))) ∧
    (∀ (d : Chip) (len k : Nat), d.boot.load = some (len, len, k) → d.get Reg.SYS_BOOT_STATE = 3 →
      d.imageEnd = (true, ({ d with boot := { d.boot with load := none, verify := some (len, k), fromOut := true, holdsMbx := false } }.put
        Reg.SYS_BOOT_STATE 4))) ∧
    (c.bootMsg = none → Gives .chainImageBegin s c ∧ Gives .chainImageData s c ∧ Gives .chainImageEnd s c) ∧
    (c.takes r Reg.SYS_BOOT_CMD.addr = true →
      (st = 5 → c.flag Reg.SYS_BOOT_STORE_BUSY = false →
        Gives (.bootStore r) s ((c.norForeground.put Reg.SYS_BOOT_STORE_BUSY 1).respond r Reg.SYS_BOOT_CMD.addr .done)) ∧
      (st ≠ 5 ∨ c.flag Reg.SYS_BOOT_STORE_BUSY = true → Gives (.bootStore r) s (c.rejected r Reg.SYS_BOOT_CMD.addr 0 0 0x24))) ∧
    (c.flag Reg.SYS_BOOT_STORE_BUSY = true → c.boot.runSlot ≠ 2 →
      let t := c.put Reg.SYS_BOOT_STORE_BUSY 0
      Gives .bootStoreDone s (t.slotWrite t.targetSlot 0 (t.norbs (slotBase c.boot.runSlot) c.boot.runLen))) ∧
    (c.flag Reg.SYS_BOOT_STORE_BUSY = false → Gives .bootStoreDone s c)

/-- R87, R88, R476 (04_power_up_to_service.md, 22_background_work.md): the OTP's key hash and anti-rollback counter, and the journal scan at boot, which takes
up the newest sealed sector. -/
def Obligations.OtpAndJournalScanResults : Prop :=
  ∀ (r : Requester) (w : BitVec 32) (s : State),
    let c := s.chip
    let n := c.boot.staged.length
    let i := c.get Reg.SYS_IMG_RBI
    let busy := c.flag Reg.SYS_OTP_STAT_BUSY
    let set_ := c.flag Reg.SYS_OTP_STAT_KEY_SET
    let ended := c.put Reg.SYS_OTP_STAT_BUSY 0
    (c.takes r Reg.SYS_OTP_STAGE.addr = true →
      (n < 8 → Gives (.otpStage r w) s
        (({ c with boot := { c.boot with staged := c.boot.staged ++ [w] } }.put Reg.SYS_OTP_STAT_STAGED (n + 1)).respond r Reg.SYS_OTP_STAGE.addr .done)) ∧
      (8 ≤ n → Gives (.otpStage r w) s (c.rejected r Reg.SYS_OTP_STAGE.addr 0 0 0x30))) ∧
    (c.takes r Reg.SYS_OTP_PROG_KEY.addr = true →
      (8 ≤ n → set_ = false → busy = false → Gives (.otpProgKey r) s
        (({ c with boot := { c.boot with prog := c.boot.staged } }.put Reg.SYS_OTP_STAT_BUSY 1).respond r Reg.SYS_OTP_PROG_KEY.addr .done)) ∧
      (n < 8 ∨ set_ = true ∨ busy = true → Gives (.otpProgKey r) s (c.rejected r Reg.SYS_OTP_PROG_KEY.addr 0 0 0x34))) ∧
    (c.takes r Reg.SYS_OTP_PROG_CLEAR.addr = true → Gives (.otpProgClear r) s
      (({ c with boot := { c.boot with staged := [] } }.put Reg.SYS_OTP_STAT_STAGED 0).respond r Reg.SYS_OTP_PROG_CLEAR.addr .done)) ∧
    (busy = true →
      (Gives (.otpProgDone true) s
        ({ (ended.put Reg.SYS_OTP_STAT_FAIL 0) with boot := { c.boot with keyHash := some c.boot.prog, prog := [] } }.put Reg.SYS_OTP_STAT_KEY_SET 1)) ∧
      (Gives (.otpProgDone false) s { (ended.put Reg.SYS_OTP_STAT_FAIL 1) with boot := { c.boot with prog := [] } })) ∧
    (busy = false → Gives (.otpProgDone true) s c ∧ Gives (.otpProgDone false) s c) ∧
    (c.takes r Reg.SYS_RB_COMMIT.addr = true →
      (c.get Reg.SYS_BOOT_STATE = 5 → c.flag Reg.SYS_BOOT_OPEN = false → c.boot.rbCnt < i → Gives (.rbCommit r) s
        (({ c with boot := { c.boot with rbCnt := i } }.put Reg.SYS_RB_CNT i).respond r Reg.SYS_RB_COMMIT.addr .done)) ∧
      (c.get Reg.SYS_BOOT_STATE ≠ 5 ∨ c.flag Reg.SYS_BOOT_OPEN = true ∨ i ≤ c.boot.rbCnt →
        Gives (.rbCommit r) s (c.rejected r Reg.SYS_RB_COMMIT.addr 0 0 0x2C))) ∧
    (c.coreUp = false ∨ c.flag Reg.BKG_STAT_JRNL_READY = true → Gives .journalScan s c) ∧
    (c.coreUp = true → c.flag Reg.BKG_STAT_JRNL_READY = false →
      (∀ k q : Nat, c.jNewest = some (k, q) → Completes .journalScan s (fun t => t.flag Reg.BKG_STAT_JRNL_READY = true ∧
        t.bkg.sealed = true ∧ t.bkg.slot = c.jFree k ∧ t.bkg.secSeq = q ∧ t.nor = c.nor)) ∧
      (c.jNewest = none →
        (c.get Reg.CHAIN_INFO3_STRAP ≠ 1 ∨ bit (c.get Reg.BKG_JRNL_VALID_LO) 1 = false →
          Gives .journalScan s (c.put Reg.BKG_STAT_JRNL_READY 1)) ∧
        (c.get Reg.CHAIN_INFO3_STRAP = 1 → bit (c.get Reg.BKG_JRNL_VALID_LO) 1 = true →
          Gives .journalScan s (((c.put Reg.CLK_CT_INIT_LO (c.get (Reg.BKG_JRNL_VAL 1 0))).put Reg.CLK_CT_INIT_HI
            (c.get (Reg.BKG_JRNL_VAL 1 1))).put Reg.BKG_STAT_JRNL_READY 1))))

/-- R89, R92, R93 (04_power_up_to_service.md): the head's listen window, the low-power states and the wake causes. RST_CAUSE after a wake from OFF is a
free value (log entries 6, 20). -/
def Obligations.LowPowerResults : Prop :=
  ∀ (r : Requester) (sec : BitVec 32) (s : State),
    let c := s.chip
    let a := Reg.SYS_PWR_REQ.addr
    let left := c.setLv Reg.SYS_WAKE_LEFT 0
    let off (trunk : Bool) : Chip :=
      let t := (c.bkgStandby).bothReset (c.get Reg.SYS_RST_CAUSE)
      (({ t with pwr := { t.pwr with trunkOff := trunk } }.put Reg.SYS_PWR_STAT 3).dropStart .off)
    (c.coreUp = true → c.get Reg.CHAIN_STAT_ROLE = 1 → c.clk.sentCyc = false → c.pwr.listenDone = false →
      Gives .headListenEnd s ({ c with pwr := { c.pwr with listenDone := true } }.orderTrunk)) ∧
    (c.get Reg.CHAIN_STAT_ROLE ≠ 1 ∨ c.clk.sentCyc = true ∨ c.pwr.listenDone = true → Gives .headListenEnd s c) ∧
    (∀ d : Chip, (d.pwr.trOrder = true → d.orderTrunk = d) ∧
      (d.pwr.trOrder = false → d.orderTrunk = d.fieldAct (.unit 12 0 0 (d.fuseTerms + 1024)))) ∧
    (c.takes r a = true →
      (c.get Reg.SYS_PWR_STAT ≠ 1 → Gives (.pwrRun r) s (c.respond r a .done)) ∧
      (c.get Reg.SYS_PWR_STAT = 1 → (∀ e : Nat, e < 32 → c.get (Reg.ENG_STAT_IDLE_HELD e) = 0) →
        Gives (.pwrRun r) s ((c.put Reg.SYS_PWR_STAT 0).respond r a .done)) ∧
      (c.get Reg.SYS_PWR_STAT = 1 → Gives (.pwrRun r) s (c.idleExit.respond r a .done)) ∧
      (c.get Reg.SYS_PWR_STAT = 0 → Gives (.pwrIdle r) s (((c.put Reg.SYS_PWR_STAT 1).idleEnter).respond r a .done)) ∧
      (c.get Reg.SYS_PWR_STAT ≠ 0 → Gives (.pwrIdle r) s (c.respond r a .done)) ∧
      (c.linkActive 0 = false → c.linkActive 1 = false →
        Gives (.pwrStandby r) s
          (((((c.bkgStandby.holdPads).coreReset (c.get Reg.SYS_RST_CAUSE) true).put Reg.SYS_PWR_STAT 2).dropStart .standby).respond r a .done)) ∧
      (c.linkActive 0 = true ∨ c.linkActive 1 = true → Gives (.pwrStandby r) s (c.rejected r a 0 0 0x40)) ∧
      Gives (.pwrOff r) s ((off false).respond r a .done) ∧
      Gives (.pwrTrunkOff r) s ((off true).respond r a .done)) ∧
    (c.takes r Reg.SYS_WAKE_TIMER.addr = true →
      Gives (.wakeTimer r sec) s
        ((({ c with pwr := { c.pwr with timer := sec.toNat, timerCc := 0, wake := clrBit c.pwr.wake 3 } }).setLv Reg.SYS_WAKE_LEFT sec.toNat).respond
          r Reg.SYS_WAKE_TIMER.addr .done)) ∧
    (c.pwr.timer = 0 → Gives .wakeTimerExpire s c) ∧
    (c.pwr.timer ≠ 0 → c.get Reg.CHAIN_SLEEP_STAT_STATE ≠ 1 →
      Gives .wakeTimerExpire s { left with pwr := { c.pwr with timer := 0, timerCc := 0, wake := setBit c.pwr.wake 3 } }) ∧
    (c.pwr.timer ≠ 0 → c.get Reg.CHAIN_SLEEP_STAT_STATE = 1 →
      Gives .wakeTimerExpire s
        ({ left with pwr := { c.pwr with timer := 0, timerCc := 0, wake := setBit c.pwr.wake 3 } }.put Reg.CHAIN_SLEEP_STAT_WAKE_PEND 1)) ∧
    (c.pwr.phase = .standby → c.pwr.wake ≠ 0 →
      Gives .standbyWake s
        (((({ c with pwr := { c.pwr with wake := 0 } }.setLv Reg.SYS_WAKE_CAUSE c.pwr.wake).put Reg.SYS_RST_CAUSE 7)).railUp 2)) ∧
    (c.pwr.phase = .off → bit c.pwr.wake 1 = true ∨ bit c.pwr.wake 3 = true →
      Gives .standbyWake s
        ((((({ c with pwr := { c.pwr with wake := 0, trunkOff := false } }.setLv Reg.SYS_WAKE_CAUSE c.pwr.wake).put Reg.SYS_RST_CAUSE
          c.free)).drew).railUp 0)) ∧
    (c.pwr.phase ≠ .standby ∧ c.pwr.phase ≠ .off ∨ c.pwr.wake = 0 ∨ (c.pwr.phase = .off ∧ bit c.pwr.wake 1 = false ∧ bit c.pwr.wake 3 = false) →
      Gives .standbyWake s c)

/-! ### The link -/

/-- R105 to R112 with Table LINK-4 (05_gleshline_link.md): training of a port from DOWN (0) over DETECT (2), ORDER (3), EQ (4), CONFIG (5) and CONFIRM (6) to
ACTIVE (7), by way of QUIET (1) after a timeout. `Chip.linkEnter` is the entry to a training state, `Chip.tellIdl` the training block the port
sends after it. ENABLE and DISABLE are turned away while the port's flask is fenced (R282). -/
def Obligations.LinkTrainingResults : Prop :=
  ∀ (r : Requester) (p lane : Fin 2) (obs : TrainObs) (outRes retRes : BitVec 16) (s : State),
    let c := s.chip
    let q := p.val
    let st := c.get (Reg.LINK_STAT_STATE q)
    let x := c.gl q
    let told := c.notePartner q obs
    (c.mayTrain q = true → st = 0 → Gives (.linkSignalDetect p) s (((c.setGl q { x with sig := setBit x.sig 0, quiet := false }).linkEnter q 2).tellIdl q false)) ∧
    (c.mayTrain q = false ∨ st ≠ 0 → Gives (.linkSignalDetect p) s c) ∧
    (c.mayTrain q = true →
      (st = 2 → obs.lanes ≠ 0 → Gives (.linkStateAdvance p obs) s
        ((((((told.setGl q { told.gl q with lanes := obs.lanes.toNat }).put (Reg.LINK_STAT_INV0 q) (b2n (obs.inv.getLsbD 0))).put
          (Reg.LINK_STAT_INV1 q) (b2n (obs.inv.getLsbD 1))).put (Reg.LINK_STAT_LANE_SWAP q) 0).linkEnter q 3).tellIdl q false)) ∧
      (st = 2 → obs.lanes = 0 → Gives (.linkStateAdvance p obs) s (c.tellIdl q false)) ∧
      (st = 3 →
        let swap := if x.lanes = 3 then obs.swap else x.lanes == 2
        let inv := logical swap (c.get (Reg.LINK_STAT_INV0 q) + 2 * c.get (Reg.LINK_STAT_INV1 q))
        Gives (.linkStateAdvance p obs) s
          ((((((told.setGl q { told.gl q with lanes := logical swap x.lanes }).put (Reg.LINK_STAT_LANE_SWAP q) (b2n swap)).put
            (Reg.LINK_STAT_INV0 q) (b2n (bit inv 0))).put (Reg.LINK_STAT_INV1 q) (b2n (bit inv 1))).linkEnter q 4).tellIdl q false)) ∧
      (st = 4 →
        let use := x.lanes &&& obs.usable.toNat
        let preset (n : BitVec 3) : Nat :=
          if c.flag (Reg.LINK_PHY_EQ_FORCE q) then c.get (Reg.LINK_PHY_EQ_PRESET q) else n.toNat
        (use = 0 → Gives (.linkStateAdvance p obs) s (c.tellIdl q false)) ∧
        (use ≠ 0 → Gives (.linkStateAdvance p obs) s
          (((((((told.setGl q { told.gl q with lanes := use }).put (Reg.LINK_EQ_PRE0 q) (preset obs.pre0)).put (Reg.LINK_EQ_PRE1 q)
            (preset obs.pre1)).put (Reg.LINK_EQ_CTLE0 q) obs.ctle0.toNat).put (Reg.LINK_EQ_CTLE1 q) obs.ctle1.toNat).linkEnter q 5).tellIdl q false))) ∧
      (st = 5 →
        let want := if told.seniorByRank q then told.targetWidth q else obs.target.toNat
        Gives (.linkStateAdvance p obs) s
          ((((told.linkEnter q 6).put (Reg.LINK_STAT_WIDTH q) (if want = 2 ∧ (told.gl q).lanes = 3 then 2 else 1)).put
            (Reg.LINK_STAT_SENIOR q) (b2n (told.seniorByRank q))).tellIdl q false)) ∧
      (st < 2 ∨ 5 < st → Gives (.linkStateAdvance p obs) s (c.tellIdl q false))) ∧
    (c.mayTrain q = false → Gives (.linkStateAdvance p obs) s c) ∧
    (c.coreUp = true → 2 ≤ st → st ≤ 6 →
      Gives (.linkTrainTimeout p) s ((((c.put (Reg.LINK_FAIL_STATE q) st).inc (Reg.LINK_FAIL_CNT q)).linkEnter q 1).tellIdl q false)) ∧
    (st < 2 ∨ 6 < st → Gives (.linkTrainTimeout p) s c) ∧
    (c.coreUp = true → st = 1 → Gives (.quietEnd p) s ((c.linkEnter q 0).tellIdl q false)) ∧
    (st ≠ 1 → Gives (.quietEnd p) s c) ∧
    (c.mayTrain q = true → st = 6 →
      let t := (((c.put (Reg.LINK_STAT_STATE q) 7).inc (Reg.LINK_TRAIN_CNT q)).put Reg.CLK_RESID_OUT outRes.toNat).put Reg.CLK_RESID_RET retRes.toNat
      let u := if t.isHead = true ∧ t.linkTailward (1 - q) = false then t.put (Reg.LINK_STAT_ROLE q) 1 else t
      let v := (u.put (Reg.LINK_STAT_SENIOR q) (b2n (u.senior q))).fire 48 (detail q 0)
      (v.linkTailward q = true ∨ v.isHead = true → Gives (.linkUp p outRes retRes) s ((v.tailLink q).tellIdl q false)) ∧
      (v.linkTailward q = false → v.isHead = false → v.headPort = some q →
        Gives (.linkUp p outRes retRes) s ((({ v with chain := { v.chain with gotA := false } }.put Reg.CHAIN_STAT_DLY_PEND 1).memberTrunk.chainShow).tellIdl q false)) ∧
      (v.linkTailward q = false → v.isHead = false → v.headPort ≠ some q → Gives (.linkUp p outRes retRes) s (v.tellIdl q false))) ∧
    (c.mayTrain q = false ∨ st ≠ 6 → Gives (.linkUp p outRes retRes) s c) ∧
    (c.coreUp = true → st = 7 → c.flag (Reg.LINK_MARGIN_BUSY q) = false →
      let t := if lane = 0 then c.renumber q else c
      (c.get (Reg.LINK_STAT_WIDTH q) = 2 → Gives (.laneLoss p lane) s
        ((((t.setGl q { t.gl q with lanes := 1, lane1 := false }).put (Reg.LINK_STAT_WIDTH q) 1).alm 3).tellIdl q false)) ∧
      (c.get (Reg.LINK_STAT_WIDTH q) ≠ 2 → lane = 0 →
        Gives (.laneLoss p lane) s ((((c.setGl q { x with sig := 0, lanes := 0 }).linkEnter q 0).chainShow).tellIdl q false)) ∧
      (c.get (Reg.LINK_STAT_WIDTH q) ≠ 2 → lane = 1 → x.fixed = none → c.flag (Reg.LINK_STAT_REQ_BUSY q) = false →
        Gives (.laneLoss p lane) s ((c.setGl q { x with lanes := 1, lane1 := false }).tellIdl q false))) ∧
    (st ≠ 7 → Gives (.laneLoss p lane) s c) ∧
    (c.takes r (Reg.LINK_CTRL_ENABLE q).addr = true →
      (c.active (41 + q) = true → Gives (.linkEnable r p) s
        ((((c.setGl q { x with quiet := false }).put (Reg.LINK_STAT_EN q) 1).tellIdl q false).respond r (Reg.LINK_CTRL_ENABLE q).addr .done)) ∧
      (c.active (41 + q) = false → Gives (.linkEnable r p) s (c.rejected r (Reg.LINK_CTRL_ENABLE q).addr 2 q 4))) ∧
    (c.takes r (Reg.LINK_CTRL_DISABLE q).addr = true →
      let t := c.put (Reg.LINK_STAT_EN q) 0
      (c.active (41 + q) = true → Gives (.linkDisable r p) s
        (((((t.setGl q { t.gl q with sig := 0 }).linkEnter q 0).chainShow).tellIdl q false).respond r (Reg.LINK_CTRL_DISABLE q).addr .done)) ∧
      (c.active (41 + q) = false → Gives (.linkDisable r p) s (c.rejected r (Reg.LINK_CTRL_DISABLE q).addr 2 q 4)))

/-- R105, R111, R160 (05_gleshline_link.md, 07_chain_topology_and_heads.md): what entering a training state does. From any state but ACTIVE only the state, the
width and a request change; leaving ACTIVE counts, raises link-down, makes ALM cause 1 or 2 due, and on a tailward port folds. -/
def Obligations.LeavingActiveBreaksTheLink : Prop :=
  ∀ (c : Chip) (p : Fin 2) (st : Nat), st < 7 → c.coreUp = true →
    c.flag (Reg.LINK_STAT_REQ_BUSY p.val) = false → c.flag (Reg.LINK_MARGIN_BUSY p.val) = false → c.test.run = none →
    let q := p.val
    let t := ((c.put (Reg.LINK_STAT_STATE q) st).put (Reg.LINK_STAT_WIDTH q) 0).setGl q { c.gl q with fixed := none, since := c.ct.toNat }
    let cut := ({ t with chain := { t.chain with join := clrBit t.chain.join q } })
    let down := (({ cut with chain := { cut.chain with lift := if c.linkTailward q then false else cut.chain.lift } }.inc
      (Reg.LINK_DOWN_CNT q)).fire 49 (detail q 0))
    (c.linkActive q = false → c.linkEnter q st = t) ∧
    (c.linkActive q = true → c.linkTailward q = true → c.linkEnter q st = ({ down with alms := down.alms ++ [1] }).foldBack) ∧
    (c.linkActive q = true → c.linkTailward q = false → c.linkEnter q st = { down with alms := down.alms ++ [2] })

/-- R97, R113 to R115 (05_gleshline_link.md): width and retrain requests on an ACTIVE link, from either end. Of two crossing requests the senior end's
stands; the junior's is withdrawn. A retrain is done with its acknowledgement (log entry 48, DEDUCED). The rank in the request says whether the
link is a join link (R163); a request inside a frame is an error of its lanes (R99); the commands are turned away while the port's flask is
fenced (R282). `Chip.tellIdl` is the training block the port sends after it; its request cycle is two on (the model's choice, log entry 39). -/
def Obligations.LinkRequestResults : Prop :=
  ∀ (r : Requester) (p lane : Fin 2) (w : BitVec 2) (body : List (BitVec 8)) (n wd cy : Nat) (s : State),
    let c := s.chip
    let q := p.val
    let x := c.gl q
    let act := c.get (Reg.LINK_STAT_STATE q) = 7
    let busy := c.flag (Reg.LINK_STAT_REQ_BUSY q)
    let a := (Reg.LINK_CTRL_RETRAIN q).addr
    let aw := (Reg.LINK_CTRL_WIDTH q).addr
    let asked (d : Chip) (kind width : Nat) (own : Bool) : Chip :=
      (((d.setGl q { d.gl q with
        req := kind, reqW := if kind = 2 then width else (d.gl q).reqW, reqC := (d.get Reg.CLK_CYC_NUM + 2) % 2 ^ 32, byNode := own
        lane1 := false, fixed := none }).put (Reg.LINK_STAT_REQ_RESULT q) 0).put (Reg.LINK_STAT_REQ_BUSY q) 1).tellIdl q false
    let ended (d : Chip) (res : Nat) : Chip :=
      ((d.setGl q { d.gl q with req := 0, lane1 := false }).put (Reg.LINK_STAT_REQ_RESULT q) res).put (Reg.LINK_STAT_REQ_BUSY q) 0
    let good := body.length == 20 && leNat (body.drop 18) == (crc16 0xFFFF (body.take 18)).toNat
    let flags := leNat ((body.drop 13).take 1)
    let wAsk := leNat ((body.drop 2).take 1) % 4
    let cAsk := leNat ((body.drop 14).take 4)
    let rank := leNat ((body.drop 3).take 1) % 4
    let heard := c.rankHeard q rank
    let inFrame := c.frameOpen q
    let counted := c.add (if lane = 0 then Reg.LINK_CG_ERR0 q else Reg.LINK_CG_ERR1 q) n
    (c.takes r a = true →
      (busy = false → c.active (41 + q) = true → Gives (.linkRetrain r p) s ((asked c 1 0 false).respond r a .done)) ∧
      (busy = true ∨ c.active (41 + q) = false → Gives (.linkRetrain r p) s (c.rejected r a 2 q 4))) ∧
    (c.takes r aw = true →
      (busy = true ∨ c.active (41 + q) = false ∨ (w = 2 ∧ c.testing 2 q = true) → w = 1 ∨ w = 2 → Gives (.linkWidth r p w) s (c.rejected r aw 2 q 4)) ∧
      (busy = false → c.active (41 + q) = true → w = 1 ∨ (w = 2 ∧ c.testing 2 q = false) → Gives (.linkWidth r p w) s ((asked c 2 w.toNat false).respond r aw .done)) ∧
      (w = 0 ∨ w = 3 → Gives (.linkWidth r p w) s (c.respond r aw .done))) ∧
    (c.coreUp = true → act → inFrame = false → good = true → (heard.asking q = true → heard.senior q = false) →
      let t := ((ended heard 2).inc (Reg.LINK_WITHDRAW_CNT q)).fire 50 (detail q 0)
      let own := if heard.asking q = true then (if (t.gl q).byNode = true then t.setGl q { t.gl q with again := true } else t) else heard
      (bit flags 1 = true → Gives (.linkRequestReceive p body) s (((own.tellIdl q true).linkEnter q 2).chainShow)) ∧
      (bit flags 1 = false → bit flags 2 = true → heard.testing 2 q = false → wAsk = 1 ∨ wAsk = 2 → later cAsk (own.get Reg.CLK_CYC_NUM) = true →
        Gives (.linkRequestReceive p body) s ((own.setGl q { own.gl q with fixed := some (wAsk, cAsk) }).tellIdl q true)) ∧
      (bit flags 1 = false → bit flags 2 = true → heard.testing 2 q = false → (wAsk ≠ 1 ∧ wAsk ≠ 2) ∨ later cAsk (own.get Reg.CLK_CYC_NUM) = false →
        Gives (.linkRequestReceive p body) s own) ∧
      (bit flags 1 = false → bit flags 2 = false ∨ heard.testing 2 q = true → Gives (.linkRequestReceive p body) s heard)) ∧
    (c.coreUp = true → act → inFrame = false → good = true → heard.asking q = true → heard.senior q = true →
      Gives (.linkRequestReceive p body) s heard) ∧
    (c.coreUp = true → act → inFrame = true → Gives (.linkRequestReceive p body) s (c.codeBad q)) ∧
    (c.coreUp = true → act → inFrame = false → good = false → Gives (.linkRequestReceive p body) s c) ∧
    (¬act → Gives (.linkRequestReceive p body) s c) ∧
    (c.coreUp = true → c.asking q = true →
      Gives (.linkRequestTimeout p) s ((ended c 3).tellIdl q false) ∧
      (act → x.req = 1 → Gives (.requestAcknowledgement p) s ((((ended c 1).linkEnter q 2).chainShow).tellIdl q false)) ∧
      (act → x.req ≠ 1 → Gives (.requestAcknowledgement p) s (c.setGl q { x with fixed := some (x.reqW, x.reqC) }))) ∧
    (c.asking q = false → Gives (.linkRequestTimeout p) s c ∧ Gives (.requestAcknowledgement p) s c) ∧
    (c.coreUp = true → act → x.fixed = some (wd, cy) → later cy (c.get Reg.CLK_CYC_NUM) = false → busy = false →
      (wd = 2 → c.get (Reg.LINK_STAT_WIDTH q) = 1 → x.lane1 = true →
        Gives (.widthSwitch p) s ((c.setGl q { x with fixed := none, lanes := 3, lane1 := false }).put (Reg.LINK_STAT_WIDTH q) 2)) ∧
      (wd = 2 → c.get (Reg.LINK_STAT_WIDTH q) = 1 → x.lane1 = false →
        Gives (.widthSwitch p) s (c.setGl q { x with fixed := none, lanes := 1, lane1 := false })) ∧
      (wd = 1 → c.get (Reg.LINK_STAT_WIDTH q) = 2 → x.scan ≠ 1 →
        Gives (.widthSwitch p) s ((c.setGl q { x with fixed := none, lanes := 1, lane1 := false }).put (Reg.LINK_STAT_WIDTH q) 1))) ∧
    (x.fixed = none → Gives (.widthSwitch p) s c) ∧
    (c.coreUp = true → act → c.get (Reg.LINK_STAT_WIDTH q) = 1 →
      (x.fixed = some (2, cy) ∨ (c.asking q = true ∧ x.req = 2 ∧ x.reqW = 2) →
        Gives (.upshiftLaneReady p) s (c.setGl q { x with lane1 := true })) ∧
      (x.fixed = none → c.asking q = false → Gives (.upshiftLaneReady p) s c)) ∧
    (c.coreUp = true → act → x.again = true → busy = false → x.fixed = none →
      Gives (.requestReissue p) s (asked (c.setGl q { x with again := false }) 1 0 true)) ∧
    (x.again = false ∨ busy = true → Gives (.requestReissue p) s c) ∧
    (c.coreUp = true →
      (c.wk (Reg.LINK_POLICY q) ≠ 0 → c.wk (Reg.LINK_POLICY q) < n → act → busy = false →
        Gives (.errLimitRetrain p lane n) s (asked counted 1 0 true)) ∧
      (c.wk (Reg.LINK_POLICY q) = 0 ∨ n ≤ c.wk (Reg.LINK_POLICY q) ∨ ¬act ∨ busy = true →
        Gives (.errLimitRetrain p lane n) s counted))

/-- R96, R103, R116 to R120, R123, R163 (05_gleshline_link.md, 07_chain_topology_and_heads.md): alarms, margin scans, the agreement to sleep, wake, and a join link
that turns normal. A node that is no head passes an ALM and an SLP on; what comes back as SLP carries the cycle that went out (log entry 37,
DEDUCED). -/
def Obligations.LinkAlarmSleepResults : Prop :=
  ∀ (r : Requester) (p lane : Fin 2) (body : List (BitVec 8)) (lead : BitVec 4) (cycle : BitVec 32) (wd : BitVec 6) (ht : BitVec 8)
    (isOpen : Bool) (s : State),
    let c := s.chip
    let q := p.val
    let serves := c.coreUp = true ∧ c.get (Reg.LINK_STAT_STATE q) = 7 ∧ bit c.chain.join q = false
    let v := leNat (body.take 2)
    let good (k : Nat) : Bool := body.length == k && leNat (body.drop (k - 2)) == (crc16 0xFFFF (body.take (k - 2))).toNat
    let inFrame := c.frameOpen q
    let passed := match c.passPort q with | some o => c.setGl o { c.gl o with almOut := body } | none => c
    let taken := ((passed.put (Reg.LINK_ALM_LAST q) v).inc (Reg.LINK_ALM_CNT q)).fire 51 (v + 65536 * q)
    let scan := (Reg.LINK_MARGIN_CTRL_GO q).addr
    let first := (c.get Reg.CLK_CYC_NUM + 1) % 2 ^ 32
    let st := c.get Reg.CHAIN_SLEEP_STAT_STATE
    let cyc := leNat (body.take 4)
    let back := c.chain.slp = true ∧ c.chain.slpS = cyc
    let held := { c with chain := { c.chain with slp := true, slpS := cyc } }
    let slp (d : Chip) (o : Nat) : Chip := d.setGl o { d.gl o with slpOut := body }
    (serves → inFrame = false → good 4 = true →
      (taken.isHead = false ∨ taken.clk.sentCyc = false ∨ bits v 15 12 ≠ 1 → Gives (.almReceive p body) s taken) ∧
      (taken.isHead = true → taken.clk.sentCyc = true → bits v 15 12 = 1 →
        Gives (.almReceive p body) s (taken.chainShrink (bits v 11 10) (bits v 9 0)))) ∧
    (serves → inFrame = true → Gives (.almReceive p body) s (c.codeBad q)) ∧
    (serves → inFrame = false → good 4 = false → Gives (.almReceive p body) s passed) ∧
    (¬serves → Gives (.almReceive p body) s c) ∧
    (serves →
      (∀ k : Nat, c.alms.find? (fun a => c.almPort a == some q) = some k →
        let word := natBytes 2 (c.get Reg.CHAIN_ADDR_STATION + 1024 * c.get Reg.CHAIN_ADDR_RING + 4096 * (k % 16))
        Gives (.almSend p) s
          ({ c with alms := c.alms.erase k }.setGl q { c.gl q with almOut := word ++ natBytes 2 (crc16 0xFFFF word).toNat })) ∧
      (c.alms.find? (fun a => c.almPort a == some q) = none → Gives (.almSend p) s c)) ∧
    (c.takes r scan = true →
      (c.flag (Reg.LINK_MARGIN_BUSY 0) = false → c.flag (Reg.LINK_MARGIN_BUSY 1) = false →
        Gives (.marginGo r p lane) s (((c.setGl q { c.gl q with scan := lane.val }).put (Reg.LINK_MARGIN_BUSY q) 1).respond r scan .done)) ∧
      (c.flag (Reg.LINK_MARGIN_BUSY 0) = true ∨ c.flag (Reg.LINK_MARGIN_BUSY 1) = true →
        Gives (.marginGo r p lane) s (c.rejected r scan 2 q 0x38))) ∧
    (c.coreUp = true → c.flag (Reg.LINK_MARGIN_BUSY q) = true → c.flag Reg.BKG_STAT_MARGIN_RUN = false →
      let used := c.laneUsed (2 * q + (c.gl q).scan)
      Gives (.marginScanDone p isOpen wd ht) s
        ((((c.put (Reg.LINK_MARGIN_BUSY q) 0).put (Reg.LINK_MARGIN_VALID q) (b2n used)).put (Reg.LINK_MARGIN_WIDTH q)
          (if used = true ∧ isOpen = true then wd.toNat else 0)).put (Reg.LINK_MARGIN_HEIGHT q) (if used = true ∧ isOpen = true then ht.toNat else 0))) ∧
    (c.flag (Reg.LINK_MARGIN_BUSY q) = false → Gives (.marginScanDone p isOpen wd ht) s c) ∧
    (c.takes r Reg.CHAIN_SLEEP_GO.addr = true →
      (c.isHead = true → 2 ≤ lead.toNat → c.chain.sleep = none → Gives (.sleepGo r lead) s
        (({ c with chain := { c.chain with sleep := some (first, (first + lead.toNat) % 2 ^ 32), sleepSent := false, sleepChk := none, sleepBad := false, sleepZero := false } }.put
          Reg.CHAIN_SLEEP_RES 1).respond r Reg.CHAIN_SLEEP_GO.addr .done)) ∧
      (c.isHead = false ∨ lead.toNat < 2 ∨ c.chain.sleep ≠ none → Gives (.sleepGo r lead) s (c.rejected r Reg.CHAIN_SLEEP_GO.addr 4 0 0x20C))) ∧
    (c.takes r Reg.CHAIN_SLEEP_PROP.addr = true →
      (cycle ≠ 0 → c.sleepRefuses cycle.toNat = false → Gives (.sleepProp r cycle) s
        (({ c with chain := { c.chain with sleepS := cycle.toNat, slp := false } }.put Reg.CHAIN_SLEEP_STAT_STATE 1).respond
          r Reg.CHAIN_SLEEP_PROP.addr .done)) ∧
      (cycle ≠ 0 → c.sleepRefuses cycle.toNat = true → Gives (.sleepProp r cycle) s (c.rejected r Reg.CHAIN_SLEEP_PROP.addr 4 0 0x200)) ∧
      (cycle = 0 → st = 0 → Gives (.sleepProp r cycle) s (c.respond r Reg.CHAIN_SLEEP_PROP.addr .done)) ∧
      (cycle = 0 → st ≠ 0 → Gives (.sleepProp r cycle) s
        (((({ c with pwr := { c.pwr with wake := if bit c.pwr.wake 3 then 8 else 0 } }.put Reg.CHAIN_SLEEP_STAT_STATE 0).put
          Reg.CHAIN_SLEEP_STAT_WAKE_PEND 0)).respond r Reg.CHAIN_SLEEP_PROP.addr .done))) ∧
    (serves → good 6 = true →
      (c.isHead = false → c.headPort = some q → c.folded = true → Gives (.slpReceive p body) s (slp held q).enterStandby) ∧
      (c.isHead = false → c.headPort = some q → c.folded = false →
        (∀ o : Nat, held.tailPort = some o → Gives (.slpReceive p body) s (slp held o)) ∧
        (held.tailPort = none → Gives (.slpReceive p body) s held)) ∧
      (c.isHead = false → c.headPort ≠ some q → back → Gives (.slpReceive p body) s (slp c (1 - q)).enterStandby) ∧
      (c.isHead = true → back → c.tailPort = some q →
        let t := { c with chain := { c.chain with slp := false } }
        (t.wkB Reg.CHAIN_SLEEP_CFG_KEEP_HEAD = false → Gives (.slpReceive p body) s t.enterStandby) ∧
        (t.wkB Reg.CHAIN_SLEEP_CFG_KEEP_HEAD = true →
          let u := (t.linkDrop 0 0).linkDrop 1 0
          let w := (u.setGl 0 { u.gl 0 with quiet := true }).tellIdl 0 false
          Gives (.slpReceive p body) s ((w.setGl 1 { w.gl 1 with quiet := true }).tellIdl 1 false))) ∧
      (¬back → c.isHead = true ∨ c.headPort ≠ some q → Gives (.slpReceive p body) s c)) ∧
    (¬serves ∨ good 6 = false → Gives (.slpReceive p body) s c) ∧
    (c.pwr.phase = .standby ∨ (c.pwr.phase = .dropping ∧ c.pwr.goal = .standby) → Gives (.standbyLaneWake p lane) s (c.wakeCause 0)) ∧
    (c.pwr.phase ≠ .standby → c.pwr.phase ≠ .dropping ∨ c.pwr.goal ≠ .standby → Gives (.standbyLaneWake p lane) s c) ∧
    (let t := (c.setGl 0 { c.gl 0 with wak := false }).tellIdl 0 false
     Gives .wakBurstEnd s ((t.setGl 1 { t.gl 1 with wak := false }).tellIdl 1 false)) ∧
    (c.coreUp = true → bit c.chain.join q = true → Gives (.joinLinkNormal p) s
      (let t := c.setGl q { c.gl q with rank := 2 }
       ({ t with chain := { t.chain with join := clrBit t.chain.join q } }.tailLink q))) ∧
    (bit c.chain.join q = false → Gives (.joinLinkNormal p) s c)

/-! ### The gate -/

/-- R125, R127 to R132, R144 (06_cycle_frames_and_gate.md): how every slot passes a member. A slot in a frame whose header is not in order, behind a
failed header CRC-16 or through a gate whose flask is fenced leaves as it came; a failed header CRC-16 of its own is counted and goes on as the
complement; with reserved bits, of another ring or for another node it leaves as it came, a hop slot with its hop counted down; before the node
serves, the slots of Table GATE-4 that need it leave with NOT_OP; else the slot leaves with what its operation decides. `Chip.arrive` counts its
bytes to its frame. -/
def Obligations.SlotsPassOrAct : Prop :=
  ∀ (x : Slot) (op8 : BitVec 8) (s : State),
    let c := s.chip
    let slots : List (Instr × Nat × Bool × Bool × (Chip → Slot → SlotOut × Chip)) :=
      [(.hopRd x, 1, true, true, gateRd 1), (.hopWr x, 2, true, true, gateWr), (.stRd x, 3, false, true, gateRd 3),
       (.stWr x, 4, false, true, gateWr), (.stRw x, 5, false, true, gateRw), (.bcOr x, 6, false, true, gateOr),
       (.imgRd x, 8, false, false, gateImgRd), (.imgWr x, 9, false, false, gateImgWr), (.mbxPut x, 10, false, true, gateMbxPut),
       (.mbxGet x, 11, false, true, gateMbxGet), (.tunnel x, 12, false, false, gateTunnel), (.telem x, 13, false, false, gateTelem),
       (.eventSlot x, 14, false, false, gateEvent), (.pourArm x, 16, false, true, gateArm), (.pourSlot x, 17, false, true, gatePour),
       (.delaySlot x, 18, false, true, gateDelay)]
    let aside (d : Chip) : Bool := d.gate.run.shut || d.gate.run.stop || !hdrOk d.gate.run.hdr
    let goodCrc (op : Nat) : Bool :=
      (crc16 0xFFFF (natBytes 1 op ++ natBytes 1 x.flags.toNat ++ natBytes 2 x.addr.toNat ++ natBytes 4 x.target.toNat ++
        natBytes 2 x.len.toNat)).toNat == x.hcrc.toNat
    let spoilt (d : Chip) (op : Nat) : Chip :=
      let t := (d.inc Reg.GATE_HCRC_CNT).forward (x.asCame op).spoiled
      t.setRun { t.gate.run with stop := true }
    (c.gatePort = none →
      Gives (.slotHeaderCrcFail ⟨op8, x⟩) s c ∧ Gives (.nopSlot x) s c ∧ Gives (.badOpSlot op8 x) s c ∧ ∀ k ∈ slots, Gives k.1 s c) ∧
    (∀ p : Nat, c.gatePort = some p →
      (∀ (i : Instr) (op : Nat) (hop early : Bool) (f : Chip → Slot → SlotOut × Chip), (i, op, hop, early, f) ∈ slots →
        let d := c.arrive p op x
        (aside d = true → Gives i s (d.forward (x.asCame op))) ∧
        (aside d = false → goodCrc op = false → Gives i s (spoilt d op)) ∧
        (aside d = false → goodCrc op = true → x.reserved op = true → Gives i s ((d.inc Reg.GATE_BAD_OP_CNT).forward (x.asCame op))) ∧
        (aside d = false → goodCrc op = true → x.reserved op = false →
          let mine := x.ring = d.get Reg.CHAIN_STAT_RING
          let here := if hop then x.station = 0 else d.addressed x.station = true
          let addr := if hop then x.withStation 1023 else x.addr.toNat
          (¬mine → Gives i s (d.forward (x.asCame op))) ∧
          (mine → hop = true → x.station = 1023 → Gives i s (d.forward (x.asCame op))) ∧
          (mine → hop = true → x.station ≠ 1023 → x.station ≠ 0 →
            Gives i s (d.forward { x.asCame op with addr := x.withStation (x.station - 1) }.sealed_)) ∧
          (mine → hop = false → d.addressed x.station = false → Gives i s (d.forward (x.asCame op))) ∧
          (mine → here → d.clk.serving = false → early = false →
            Gives i s (d.forward { x.asCame op with rflags := x.rflags.toNat ||| 4 })) ∧
          (mine → here → d.clk.serving = true ∨ early = true →
            Gives i s ((f d x).2.slotLeaves op addr x { (f d x).1 with flags := (f d x).1.flags ||| d.notOp })))) ∧
      (let d := c.arrive p op8.toNat x
       (goodCrc op8.toNat = false → aside d = true → Gives (.slotHeaderCrcFail ⟨op8, x⟩) s (d.forward (x.asCame op8.toNat))) ∧
       (goodCrc op8.toNat = false → aside d = false → Gives (.slotHeaderCrcFail ⟨op8, x⟩) s (spoilt d op8.toNat)) ∧
       (opListed op8.toNat = false ∨ x.reserved op8.toNat = true →
        (aside d = true → Gives (.badOpSlot op8 x) s (d.forward (x.asCame op8.toNat))) ∧
        (aside d = false → goodCrc op8.toNat = false → Gives (.badOpSlot op8 x) s (spoilt d op8.toNat)) ∧
        (aside d = false → goodCrc op8.toNat = true →
          Gives (.badOpSlot op8 x) s ((d.inc Reg.GATE_BAD_OP_CNT).forward (x.asCame op8.toNat))))) ∧
      (let d := c.arrive p 0 x
       (aside d = true → Gives (.nopSlot x) s (d.forward (x.asCame 0))) ∧
       (aside d = false → goodCrc 0 = false → Gives (.nopSlot x) s (spoilt d 0)) ∧
       (aside d = false → goodCrc 0 = true → x.reserved 0 = false → Gives (.nopSlot x) s (d.forward (x.asCame 0))) ∧
       (aside d = false → goodCrc 0 = true → x.reserved 0 = true →
        Gives (.nopSlot x) s ((d.inc Reg.GATE_BAD_OP_CNT).forward (x.asCame 0))))) ∧
    (goodCrc op8.toNat = true → Gives (.slotHeaderCrcFail ⟨op8, x⟩) s c) ∧
    (opListed op8.toNat = true → x.reserved op8.toNat = false → Gives (.badOpSlot op8 x) s c)

/-- R131, R134 to R137, R139, R275, R276, R335, R482, R500, R62, R63, R37 (06_cycle_frames_and_gate.md and the chapters of the operations): what the node
decides at a slot that reaches it. A refused slot changes no payload; a write, a message, an image part and a pour act at END. A write of
several words acts on all of them or on none, each judged on the present state (log entry 63, DEDUCED). -/
def Obligations.SlotDecisions : Prop :=
  ∀ (c : Chip) (x : Slot),
    let refuse : SlotOut := { payload := x.payload, refused := true }
    let pass : SlotOut := { payload := x.payload }
    let n := c.get Reg.CLK_CYC_NUM
    let legal := x.payload.length % 4 == 0 && decide (4 ≤ x.payload.length) && decide (x.payload.length ≤ 256)
    let m := x.target.toNat
    let len := leNat (x.payload.take 4)
    let mask := leNat (x.payload.take 2)
    let target := leNat ((x.payload.drop 4).take 4)
    let me := c.get Reg.CHAIN_ADDR_STATION
    let u := fillEvents (x.payload.length / 16) x.payload (c.evt.cq.filter (fun r => !c.eventsTaken.contains r))
    -- reads
    (∀ op : Nat, legal = false ∨ (op = 3 ∧ x.station = 1023) ∨ x.words.any (c.gateRefused false) = true → gateRd op c x = (refuse, c)) ∧
    (∀ (op : Nat) (l : List Nat) (t : Chip), legal = true → op ≠ 3 ∨ x.station ≠ 1023 → x.words.any (c.gateRefused false) = false →
      c.pickup op x = none →
      (x.words.all gateFast = true → c.gateReads x.words = (some l, t) → 
        gateRd op c x = ({ payload := overWords x.payload l, acted := true, flags := if c.gatePoison x.words = true then 16 else 0 }, t)) ∧
      (x.words.all gateFast = false → c.gate.defers < 32 →
        gateRd op c x = ({ payload := x.payload, flags := 1
                           log := [.defer (c.gate.run.hdr % 16) c.gate.run.at_ (x.header op) m (x.payload.length / 4)] },
          ({ c with gate := { c.gate with defers := c.gate.defers + 1 } }).inc Reg.GATE_DEF_CNT)) ∧
      (x.words.all gateFast = false → 32 ≤ c.gate.defers → gateRd op c x = (refuse, c))) ∧
    -- writes
    (legal = false ∨ x.words.any (c.gateRefused true) = true → gateWr c x = (refuse, c) ∧ gateRw c x = (refuse, c)) ∧
    (legal = true → x.words.any (c.gateRefused true) = false →
      (c.notDone x.writes = none →
        gateWr c x = ({ payload := x.payload, acted := true, log := (c.logWrites x.writes).1 }, (c.logWrites x.writes).2)) ∧
      (∀ a v : Nat, c.notDone x.writes = some (.busy, a, v) → gateWr c x = ({ payload := x.payload, flags := 2 }, c)) ∧
      (∀ a v : Nat, c.notDone x.writes = some (.reject, a, v) → gateWr c x = (refuse, c.gateReject a v)) ∧
      (∀ (l : List Nat) (t : Chip), x.station ≠ 1023 → x.words.all gateFast = true → c.gateReads x.words = (some l, t) →
        gateRw c x = t.decideWrites x (overWords x.payload l))) ∧
    (∀ (l : List Nat) (t : Chip), legal = true → x.words.any (c.gateRefused false) = false → x.words.all gateFast = true →
      c.gateReads x.words = (some l, t) → x.words.contains 0x01040204 = false →
      gateOr c x = ({ payload := overWords x.payload (List.zipWith (fun a b => a ||| b) l ((bytesWords x.payload).map BitVec.toNat)),
                      acted := true }, t)) ∧
    -- image and mailboxes
    (c.held = true → gateImgRd c x = (refuse, c.inc Reg.GATE_IMG_SKIP_CNT) ∧ gateImgWr c x = (refuse, c.inc Reg.GATE_IMG_SKIP_CNT)) ∧
    (c.held = false → (c.winParts 0 x = [] → gateImgRd c x = (pass, c)) ∧ (c.winParts 1 x = [] → gateImgWr c x = (pass, c)) ∧
      (c.winParts 1 x ≠ [] → gateImgWr c x =
        ({ payload := x.payload, acted := true
           log := (c.winParts 1 x).map (fun p => .img p.1 p.2.2.2 ((x.payload.drop p.2.1).take p.2.2.1)) }, c)) ∧
      (∀ w off k at_ : Nat, c.winParts 0 x = [(w, off, k, at_)] → gateImgRd c x =
        ({ payload := x.payload.take off ++ c.gateIn at_ k ++ x.payload.drop (off + (c.gateIn at_ k).length), acted := true
           flags := c.winFlags w at_ k }, c))) ∧
    (m < 64 → 0 < len → len ≤ 128 → msgRoom len ≤ x.payload.length → c.mbxKind m = 2 → (c.mbx m).count + (c.mbx m).resv < c.mbxDepth m →
      (c.poolPop 62 = none → gateMbxPut c x = (refuse, c.poolFail)) ∧
      (∀ (b : Nat) (t : Chip), c.poolPop 62 = some (b, t) →
        gateMbxPut c x = ({ payload := x.payload, acted := true, log := [.mbxPut m b len] },
          (t.setMbx m { t.mbx m with resv := (t.mbx m).resv + 1 }).wrbs (bufAddr b) ((x.payload.drop 4).take len)))) ∧
    (64 ≤ m ∨ x.payload.length < 4 ∨ len = 0 ∨ 128 < len ∨ x.payload.length < msgRoom len ∨ c.mbxKind m ≠ 2 ∨
      c.mbxDepth m ≤ (c.mbx m).count + (c.mbx m).resv → gateMbxPut c x = (refuse, c)) ∧
    (m < 64 → c.mbxKind m = 3 → (c.mbxPeek m = none → gateMbxGet c x = (pass, c)) ∧
      (∀ b k : Nat, c.mbxPeek m = some (b, k) → x.payload.length < msgRoom k → gateMbxGet c x = (pass, c)) ∧
      (∀ b k : Nat, c.mbxPeek m = some (b, k) → msgRoom k ≤ x.payload.length → (List.range k).any (fun i => c.eccAt (bufAddr b + i) == 2) = false →
        c.gate.run.log.contains (.mbxGet m b) = false →
        gateMbxGet c x = ({ payload := overBytes (overBytes x.payload 0 (natBytes 4 k)) 4 (c.rdbs (bufAddr b) k), acted := true
                            log := [.mbxGet m b] }, c))) ∧
    (64 ≤ m ∨ c.mbxKind m ≠ 3 → gateMbxGet c x = (refuse, c)) ∧
    -- tunnel, telemetry, events
    (256 ≤ m ∨ c.flag Reg.WIDE_STAT_EN = false ∨ c.serves m = false ∨ c.active 51 = false ∨ x.payload.length < 12 + leNat (x.payload.take 2) % 8192 →
      gateTunnel c x = (refuse, c)) ∧
    (m < 256 → c.flag Reg.WIDE_STAT_EN = true → c.serves m = true → c.active 51 = true → 12 + leNat (x.payload.take 2) % 8192 ≤ x.payload.length →
      gateTunnel c x = ({ payload := (c.fillUp m x.payload).1, acted := true
                          log := [.tunnel m (leNat ((x.payload.drop 3).take 1))
                            (parseRecs 1024 ((x.payload.drop 4).take (leNat (x.payload.take 2) % 8192)))] }, (c.fillUp m x.payload).2)) ∧
    (c.flag Reg.CHAIN_STAT_ADDR_VALID = true → bit x.flags.toNat 1 = false →
      (m ≤ me → 4 * (me - m) + 4 ≤ x.payload.length →
        gateTelem c x = ({ payload := overBytes x.payload (4 * (me - m)) (natBytes 4 (c.get Reg.BKG_HEALTH)), acted := true }, c)) ∧
      (me < m ∨ x.payload.length < 4 * (me - m) + 4 → gateTelem c x = (pass, c))) ∧
    (∀ (b : List (BitVec 8)) (k off : Nat), c.flag Reg.CHAIN_STAT_ADDR_VALID = true → bit x.flags.toNat 1 = true → m = me → 8 ≤ x.payload.length →
      c.telemChunk x.payload.length = some (b, k, off) →
      gateTelem c x = ({ payload := overBytes x.payload 0 b, acted := true, log := [.telem k off] }, c)) ∧
    ((u.2 = [] → gateEvent c x = ({ payload := u.1 }, c)) ∧
      (u.2 ≠ [] → gateEvent c x = ({ payload := u.1, acted := true, log := [.events u.2] }, c))) ∧
    -- pours and delay
    (8 ≤ x.payload.length →
      (c.mayArm mask target n = true → gateArm c x = ({ payload := x.payload, acted := true, log := [.arm] }, c.armNow mask target true)) ∧
      (c.mayArm mask target n = false → gateArm c x = (refuse, c)) ∧
      (bit x.flags.toNat 0 = false → c.armFits mask target = true → later target n = true →
        gatePour c x = ({ payload := x.payload, acted := true, log := [.pour mask target] }, c)) ∧
      (bit x.flags.toNat 0 = false → c.armFits mask target = true → later target n = false →
        gatePour c x = ({ payload := x.payload, refused := true, log := [.withdraw] }, c)) ∧
      (bit x.flags.toNat 0 = false → c.armFits mask target = false → gatePour c x = (refuse, c)) ∧
      gateDelay c x = ({ payload := overBytes x.payload 0 (natBytes 4 (unsigned 32 ((len : Int) + c.residDiff))), acted := true
                         log := [.delay len target] }, c)) ∧
    (bit x.flags.toNat 0 = true → c.arm.on = true → gatePour c x = ({ payload := x.payload, acted := true, log := [.withdraw] }, c)) ∧
    (x.payload.length < 8 → gateArm c x = (refuse, c) ∧ gateDelay c x = (refuse, c))

/-- R99, R124, R125, R133 to R136, R142, R143, R145 to R147, R158, R275, R276 (05_gleshline_link.md, 06_cycle_frames_and_gate.md,
07_chain_topology_and_heads.md, 12_locks_buffers_messages.md): the end of a frame, what its log does when it commits, and urgent frames. A frame
commits with its header in order, its length as counted, its CRC-32 good and no failed slot header; it goes on with the CRC-32 of what was sent,
any other with the complement, and its log is discarded. PRE, RES, IDL and ALM at any other place are errors. An urgent frame goes out at the
next 32-byte boundary of a normal frame on its way, else in idle. A head's returned frame writes back its
payloads, or is lost; with a bridge the tailward one is relayed. -/
def Obligations.FrameEndResults : Prop :=
  ∀ (r : Requester) (f : FrameTail) (g : ReturnedFrame) (k : BitVec 4) (p : Nat) (s : State),
    let c := s.chip
    let had := c.gate.run
    let begun := if had.begun = true then had else { had with begun := true, hdr := f.hdr.toNat, rx := natBytes 4 f.hdr.toNat }
    let run := { begun with rx := begun.rx ++ f.rest, shut := begun.shut || c.gateShut p, broken := begun.broken || f.broken || f.misplaced != 0 }
    let formed := hdrOk run.hdr && run.rx.length + 4 == 4 * (run.hdr / 65536)
    let crc := (crc32 run.rx).toNat
    let good := formed && !run.broken && f.crc.toNat == crc && !run.stop
    let out := (crc32 (run.rx.take 4 ++ run.fwd.flatMap FwdSlot.bytes ++ f.rest)).toNat
    let errs := c.add (Reg.LINK_CG_ERR0 p) f.misplaced.toNat
    let codes := if errs.get (Reg.LINK_STAT_WIDTH p) = 2 then errs.add (Reg.LINK_CG_ERR1 p) f.misplaced.toNat else errs
    let sent (w : Nat) : Chip :=
      { codes with gate := { codes.gate with run := {}, last := some ⟨run.hdr, run.fwd, f.rest, w⟩, urgEnd := codes.gate.saved.isSome } }
    let shown (w : Nat) : Chip :=
      if formed then (sent w).inc Reg.GATE_FRAME_CNT else ((sent w).inc Reg.GATE_FRAME_CNT).inc Reg.GATE_MALFORM_CNT
    (c.gatePort = none → Gives (.frameEnd f) s c ∧ Gives .urgentPre s c ∧ Gives .urgentRes s c) ∧
    (c.gatePort = some p →
      (run.shut = true → Gives (.frameEnd f) s ((sent f.crc.toNat).logDrop run)) ∧
      (run.shut = false → good = true → Gives (.frameEnd f) s ((shown out).frameCommit run.log)) ∧
      (run.shut = false → good = false → run.broken = false → f.crc.toNat = 0xFFFFFFFF - crc →
        Gives (.frameEnd f) s (((shown (0xFFFFFFFF - out)).logDrop run).inc Reg.GATE_STOMP_CNT)) ∧
      (run.shut = false → good = false → run.broken = true ∨ f.crc.toNat ≠ 0xFFFFFFFF - crc →
        Gives (.frameEnd f) s (((shown (0xFFFFFFFF - out)).logDrop run).inc Reg.GATE_FCRC_CNT)) ∧
      (c.gate.saved = none → had.hadUrg = false →
        Gives .urgentPre s
          (({ c with gate := { c.gate with saved := some { had with hadUrg := true }, run := {}, urgEnd := false } }.put
            Reg.GATE_STAT_SAVED 1).inc Reg.GATE_PRE_CNT)) ∧
      (c.gate.saved ≠ none ∨ had.hadUrg = true → Gives .urgentPre s (c.codeBad p)) ∧
      (∀ w : FrameRun, c.gate.saved = some w → c.gate.urgEnd = true →
        Gives .urgentRes s ({ c with gate := { c.gate with run := w, saved := none, urgEnd := false } }.put Reg.GATE_STAT_SAVED 0)) ∧
      (c.gate.saved = none ∨ c.gate.urgEnd = false → Gives .urgentRes s (c.codeBad p))) ∧
    (c.takes r Reg.GATE_URG_GO.addr = true →
      (c.flag Reg.GATE_STAT_ORIGIN = true → c.gate.urg = none → c.wkB (Reg.GATE_FRAME_CTL_URG k.toNat) = true →
        Gives (.urgGo r k) s
          (({ c with gate := { c.gate with urg := some k.toNat } }.put Reg.GATE_STAT_URG_QUEUED 1).respond r Reg.GATE_URG_GO.addr .done)) ∧
      (c.flag Reg.GATE_STAT_ORIGIN = false ∨ c.gate.urg ≠ none ∨ c.wkB (Reg.GATE_FRAME_CTL_URG k.toNat) = false →
        Gives (.urgGo r k) s (c.rejected r Reg.GATE_URG_GO.addr 3 0 0x0C))) ∧
    (∀ j : Nat, c.coreUp = true → c.flag Reg.GATE_STAT_ORIGIN = true → c.gate.urg = some j →
      let d := c.sendDue
      (∀ (t : Nat) (into : Option SentFrame), d.urgPoint j = some (t, into) →
        let e := d.timeTo t
        let more := e.urgCost j into.isSome
        let others := e.gate.sent.map (fun (y : SentFrame) =>
          if into = some y then { y with late := more } else if t ≤ y.start then { y with start := y.start + 4 * more } else y)
        Gives .urgentSend s ({ e with gate := { e.gate with
          urg := none, sent := others ++ [{ e.mapFrame j (e.get Reg.CLK_CYC_NUM) with urgent := true, start := t }]
          plan := e.gate.plan.map (fun (y : Nat × Nat) => (y.1, y.2 + 4 * more)), allBack := false } }.put Reg.GATE_STAT_URG_QUEUED 0)) ∧
      (d.urgPoint j = none → Gives .urgentSend s d)) ∧
    (c.gate.urg = none ∨ c.coreUp = false ∨ c.flag Reg.GATE_STAT_ORIGIN = false → Gives .urgentSend s c) ∧
    (∀ (d : Chip) (j : Nat),
      let now := max d.ct.toNat (d.clk.markNs + 72)
      let fits (t : Nat) : Bool := decide (t + 4 * d.urgCost j false + 2000 ≤ d.predicted)
      (d.onWay now = none → d.urgPoint j = if fits now then some (now, none) else none) ∧
      (∀ x : SentFrame, d.onWay now = some x →
        let b := 32 * max 1 (((now - x.start) / 4 * d.tailWidth + 31) / 32)
        (x.urgent = false → x.late = 0 → b < x.bytes → d.urgPoint j = some (x.start + 4 * (b / d.tailWidth), some x)) ∧
        (x.urgent = true ∨ x.late ≠ 0 ∨ x.bytes ≤ b →
          d.urgPoint j = if fits (x.ends d.tailWidth) then some (x.ends d.tailWidth, none) else none))) ∧
    (c.coreUp = true →
      let d := c.sendBefore g.frame.toNat g.urgent
      let back := d.gate.sent.find? (fun x => x.index == g.frame.toNat && x.urgent == g.urgent)
      (back = none → Gives (.headFrameReturn g) s d) ∧
      (∀ x : SentFrame, back = some x →
        let t := { d with gate := { d.gate with sent := d.gate.sent.erase x } }
        let ends := (d.bridgePort = none ∧ d.tailPort = some g.port.val) ∨ (d.bridgePort = some g.port.val ∧ x.relayed = true)
        (ends → g.good = true →
          Gives (.headFrameReturn g) s ((t.slotsReturn x.cyc (List.zip x.slots g.slots)).retShow x.cyc)) ∧
        (ends → g.good = false → Gives (.headFrameReturn g) s ((t.frameLost x).retShow x.cyc)) ∧
        (∀ q : Nat, d.bridgePort = some q → q ≠ g.port.val → x.relayed = false →
          Gives (.headFrameReturn g) s (d.frameRelay x q)) ∧
        (d.bridgePort = none → d.tailPort ≠ some g.port.val → Gives (.headFrameReturn g) s d))) ∧
    (∀ d : Chip, d.coreUp = true →
      d.frameCommit [] = d ∧
      (∀ a v : Nat, (d.busWrite .gate a v).1 = .done → d.commitOp (.write a v) = (d.busWrite .gate a v).2) ∧
      (∀ a v : Nat, (d.busWrite .gate a v).1 = .reject → d.commitOp (.write a v) = (d.busWrite .gate a v).2.inc Reg.GATE_LATE_REJ_CNT) ∧
      (∀ (m b n : Nat), d.commitOp (.mbxPut m b n) =
        (((d.setMbx m { d.mbx m with resv := (d.mbx m).resv - 1 }).mbxPush m b n).mbxServe m 32).poolServe 32) ∧
      (∀ (m b n : Nat), d.mbxPeek m = some (b, n) → d.commitOp (.mbxGet m b) = ((d.mbxPop m).poolPush b).poolServe 32) ∧
      (∀ mask target : Nat, d.armFits mask target = true → later target (d.get Reg.CLK_CYC_NUM) = true →
        d.commitOp (.pour mask target) = d.armAccept) ∧
      d.commitOp .withdraw = d.armWithdraw ∧
      (∀ l : List (List Nat), d.commitOp (.events l) = { d with evt := { d.evt with cq := d.evt.cq.filter (fun e => !l.contains e) } }))

/-! ### The chain -/

/-- R154, R155, R164, R166, R168, R169, R171, R172 (07_chain_topology_and_heads.md): addresses, the planned uncoupling, epochs at the head and at the reserve,
takeover and handback, and the folded CYC. A duplicate of the last chunk is accepted without effect (log entry 54, DEDUCED). -/
def Obligations.ChainCommandResults : Prop :=
  ∀ (r : Requester) (w : BitVec 32) (back : BitVec 32) (lead : BitVec 4) (q : Fin 2) (s : State),
    let c := s.chip
    let st := bits w.toNat 9 0
    let n := c.get Reg.CLK_CYC_NUM
    let mine := c.chain.uid0 + 2 ^ 32 * c.chain.uid1 = Sys2Proof.Config.uid.toNat
    let role := c.get Reg.CHAIN_STAT_ROLE
    let a := Reg.CHAIN_DETACH.addr
    let held := c.get Reg.CHAIN_ADDR_STATION + 1024 * c.get Reg.CHAIN_ADDR_RING
    let kept := c.get Reg.CHAIN_INFO2_STICKY + 1024 * c.get Reg.CHAIN_INFO2_S_RING
    let undetached := { c with chain := { c.chain with detach := none } }.put Reg.CHAIN_STAT_DETACHED 0
    let whole := match undetached.tailPort with | some p => undetached.tellIdl p false | none => undetached
    let word := c.ckptWord 63 w.toNat
    let e := word.chain.words.get 0 0
    let i := word.chain.words.get 0 1 % 65536
    let ck := (Reg.CHAIN_CKPT_IN 63).addr
    (c.takes r Reg.CHAIN_ASSIGN_UID0.addr = true → Gives (.assignUid0 r w) s
      ({ c with chain := { c.chain with uid0 := w.toNat } }.respond r Reg.CHAIN_ASSIGN_UID0.addr .done)) ∧
    (c.takes r Reg.CHAIN_ASSIGN_UID1.addr = true → Gives (.assignUid1 r w) s
      ({ c with chain := { c.chain with uid1 := w.toNat } }.respond r Reg.CHAIN_ASSIGN_UID1.addr .done)) ∧
    (c.takes r Reg.CHAIN_ASSIGN_STATION.addr = true →
      (mine → 1 ≤ st → st ≤ 1022 → Gives (.assign r w) s
        (let t := ((c.putAddr st (bits w.toNat 11 10)).inc Reg.CHAIN_ASSIGN_CNT).put Reg.CHAIN_STAT_DLY_PEND 1
         ({ t with chain := { t.chain with newAddr := true } }.memberTrunk.chainShow).respond r Reg.CHAIN_ASSIGN_STATION.addr .done)) ∧
      (¬mine ∨ st = 0 ∨ 1022 < st → Gives (.assign r w) s (c.rejected r Reg.CHAIN_ASSIGN_STATION.addr 4 0 0x28))) ∧
    (c.coreUp = true → c.isHead = false → c.wkB Reg.CHAIN_CFG_STICKY_SAVE = true → c.flag Reg.CHAIN_STAT_ADDR_VALID = true →
      c.chain.newAddr = true → c.bkg.pend.contains ⟨0, false, [held, 0, 0, 0], false⟩ = false → c.bkg.written.contains ⟨0, false, [held, 0, 0, 0], false⟩ = false →
      c.flag Reg.CHAIN_INFO2_S_VALID = false ∨ kept ≠ held → 
      Gives .stickySave s ({ c with chain := { c.chain with newAddr := false } }.jPut ⟨0, false, [held, 0, 0, 0], false⟩)) ∧
    (c.isHead = true ∨ c.wkB Reg.CHAIN_CFG_STICKY_SAVE = false ∨ c.flag Reg.CHAIN_STAT_ADDR_VALID = false ∨
      c.chain.newAddr = false ∨ (c.flag Reg.CHAIN_INFO2_S_VALID = true ∧ kept = held) → Gives .stickySave s c) ∧
    (c.takes r Reg.CHAIN_STICKY_CLR.addr = true →
      Gives (.stickyClr r) s ((c.jPut ⟨0, true, [], false⟩).respond r Reg.CHAIN_STICKY_CLR.addr .done)) ∧
    (c.takes r a = true →
      (w ≠ 0 → c.isHead = false → 2 ≤ sub32 w.toNat n → sub32 w.toNat n < 2 ^ 31 →
        Gives (.detach r w) s ({ c with chain := { c.chain with detach := some w.toNat } }.respond r a .done)) ∧
      (w ≠ 0 → c.isHead = true ∨ sub32 w.toNat n < 2 ∨ 2 ^ 31 ≤ sub32 w.toNat n → Gives (.detach r w) s (c.rejected r a 4 0 0x50)) ∧
      (w = 0 → Gives (.detach r w) s (whole.tellTerms.respond r a .done)) ∧
      Gives (.detachEnd r) s (whole.tellTerms.respond r a .done)) ∧
    (c.coreUp = true → c.chain.detach = some n →
      let t := ({ c with chain := { c.chain with detach := none, lift := false } }.foldBack).put Reg.CHAIN_STAT_DETACHED 1
      (∀ p : Nat, t.tailPort = some p → Gives .detachExecute s ((((t.linkDrop p 0).tellIdl p false).tellTerms).chainShow)) ∧
      (t.tailPort = none → Gives .detachExecute s (t.tellTerms.chainShow))) ∧
    (c.chain.detach ≠ some n → Gives .detachExecute s c) ∧
    (c.coreUp = true → c.epochDue = true →
      let k := (c.chain.epoch + 1) % 2 ^ 32
      let t := c.wrbs 0xC8000 (c.epochContent k)
      Gives .epochStart s
        (((({ t with chain := { t.chain with
          active := true, epoch := k, chunk := 0, epochCyc := t.get Reg.CLK_CYC_NUM, due := false, changed := false, noEpoch := false } }).put
          Reg.CHAIN_EPOCH_TX k).put Reg.CHAIN_CKPT_STAT_NEXT 0).put Reg.CHAIN_CKPT_STAT_TOTAL 141)) ∧
    (c.epochDue = false → Gives .epochStart s c) ∧
    (c.takes r ck = true →
      (word.get Reg.CHAIN_STAT_ROLE ≠ 2 ∨ word.chain.words.get 0 1 / 65536 ≠ 141 → Gives (.ckptChunk r w) s (word.rejected r ck 4 0 0x4FC)) ∧
      (word.get Reg.CHAIN_STAT_ROLE = 2 → word.chain.words.get 0 1 / 65536 = 141 →
        (∀ k next : Nat, word.chain.part = some (k, next) →
          (e = k → i = next → next < 141 → Gives (.ckptChunk r w) s ((word.ckptStore e i).respond r ck .done)) ∧
          (e = k → i + 1 = next → Gives (.ckptChunk r w) s (word.respond r ck .done)) ∧
          (i = 0 → later e k = true → e ≠ k → Gives (.ckptChunk r w) s ((word.ckptStore e 0).respond r ck .done)) ∧
          (e = k → i ≠ next → i + 1 ≠ next → Gives (.ckptChunk r w) s (word.rejected r ck 4 0 0x4FC)) ∧
          (e ≠ k → i ≠ 0 ∨ later e k = false → Gives (.ckptChunk r w) s (word.rejected r ck 4 0 0x4FC))) ∧
        (word.chain.part = none →
          (i = 0 → word.chain.complete = false ∨ later e (word.get Reg.CHAIN_EPOCH_OK) = true →
            Gives (.ckptChunk r w) s ((word.ckptStore e 0).respond r ck .done)) ∧
          (i ≠ 0 ∨ (word.chain.complete = true ∧ later e (word.get Reg.CHAIN_EPOCH_OK) = false) →
            Gives (.ckptChunk r w) s (word.rejected r ck 4 0 0x4FC))))) ∧
    (c.coreUp = true → c.ready = true → 3 ≤ c.clk.missed → c.chain.taking = false →
      let t := c.armWithdraw.partDrop.epochInstall
      Gives .reserveTakeover s { t with chain := { t.chain with taking := true } }) ∧
    (∀ (d : Chip) (p : Nat), (d.put Reg.CLK_STATUS_SYNC 2).headPort = some p →
      d.takeoverPort = (((d.put Reg.CLK_STATUS_SYNC 2).put (Reg.LINK_STAT_ROLE p) 1).put (Reg.LINK_STAT_SENIOR p) 1).put (Reg.LINK_STAT_ROLE (1 - p)) 0) ∧
    (∀ d : Chip,
      let t := (((d.put Reg.CHAIN_STAT_ROLE 3).putAddr 0 0).inc Reg.CHAIN_TAKEOVER_CNT).put Reg.CHAIN_STAT_RING 0
      let u := { t with chain := { t.chain with
        taking := false, handed := false, hand := none, rsv := 0, noEpoch := true, active := false, give := [], epoch := t.get Reg.CHAIN_EPOCH_OK } }
      d.takeoverEnd = (((u.fire 47 0).countMembers).presentChange).chainShow) ∧
    (c.ready = false ∨ c.clk.missed < 3 ∨ c.chain.taking = true → Gives .reserveTakeover s c) ∧
    (c.takes r Reg.CHAIN_REV_Q.addr = true → Gives (.revQLoad r w) s
      ((({ c with chain := { c.chain with qLoaded := true } }.put Reg.CHAIN_REV_Q_VAL w.toNat).revShow).respond r Reg.CHAIN_REV_Q.addr .done)) ∧
    (c.takes r Reg.CHAIN_HANDBACK_GO.addr = true →
      (role = 3 → 2 ≤ lead.toNat → Gives (.handbackGo r lead) s
        ({ c with chain := { c.chain with hand := some ((n + lead.toNat) % 2 ^ 32) } }.respond r Reg.CHAIN_HANDBACK_GO.addr .done)) ∧
      (role ≠ 3 ∨ lead.toNat < 2 → Gives (.handbackGo r lead) s (c.rejected r Reg.CHAIN_HANDBACK_GO.addr 4 0 0x54))) ∧
    (∀ h : Nat, c.coreUp = true → role = 3 → c.chain.hand = some h → later h ((n + 1) % 2 ^ 32) = false →
      Gives .handbackStart s ({ c with chain := { c.chain with hand := none, handed := true } }.put Reg.GATE_STAT_ORIGIN 0)) ∧
    (c.chain.hand = none ∨ role ≠ 3 → Gives .handbackStart s c) ∧
    (c.coreUp = true →
      (c.isHead = true → Gives (.foldedCycArrival q ⟨w, back⟩) s { c with chain := { c.chain with l0 := c.chain.l0.put 0 q.val w.toNat } }) ∧
      (c.isHead = false → c.tailPort = some q.val →
        let t := if c.mayMeasure = true then { c with chain := { c.chain with loop := w.toNat } } else c
        Gives (.foldedCycArrival q ⟨w, back⟩) s ((t.put Reg.CHAIN_BACK_T back.toNat).revShow)) ∧
      (c.isHead = false → c.tailPort ≠ some q.val → Gives (.foldedCycArrival q ⟨w, back⟩) s c))

/-! ### Engines -/

/-- R197 to R199, R202, R211 to R214 (09_sprue_engines.md): control of an engine by its registers. Another engine than the engine itself or its supervisor is
refused; RESUME goes on at the word where the trap left the program counter; states are 0 halted, 1 RUN, 2 WAIT, 3 TRAP, 4 fenced. -/
def Obligations.EngineControlResults : Prop :=
  ∀ (r : Requester) (e : Fin 32) (mask : BitVec 32) (s : State),
    let c := s.chip
    let n := e.val
    let st := c.engState n
    let soft := st = 3 ∧ c.get (Reg.ENG_TRAP_CAUSE n) = 8
    let done (i : Instr) (a : Nat) (t : Chip) : Prop := Gives i s (t.respond r a .done)
    let no (i : Instr) (a : Nat) : Prop := Gives i s (c.rejected r a 5 n 4)
    let named := (List.range 32).filter (fun k => bit mask.toNat k)
    let armed := c.flag (Reg.ENG_STAT_ARM_START n) = true ∨ c.flag (Reg.ENG_STAT_ARM_HALT n) = true
    let start := (Reg.ENG_CTL_START n).addr
    let halt := (Reg.ENG_CTL_HALT n).addr
    let resume := (Reg.ENG_CTL_RESUME n).addr
    let reset := (Reg.ENG_CTL_RESET n).addr
    let armS := (Reg.ENG_CTL_ARM_START n).addr
    let armH := (Reg.ENG_CTL_ARM_HALT n).addr
    let clr := (Reg.ENG_CTL_ARM_CLR n).addr
    (c.mayCtl r n = false →
      (c.takes r start = true → Gives (.engineStart r e) s (c.respond r start .refused)) ∧
      (c.takes r halt = true → Gives (.engineHalt r e) s (c.respond r halt .refused)) ∧
      (c.takes r resume = true → Gives (.engineResume r e) s (c.respond r resume .refused)) ∧
      (c.takes r reset = true → Gives (.engineReset r e) s (c.respond r reset .refused)) ∧
      (c.takes r armS = true → Gives (.armStart r e) s (c.respond r armS .refused)) ∧
      (c.takes r armH = true → Gives (.armHalt r e) s (c.respond r armH .refused)) ∧
      (c.takes r clr = true → Gives (.armClr r e) s (c.respond r clr .refused))) ∧
    (c.mayCtl r n = true →
      (c.takes r start = true →
        (st = 0 → c.loadingTo n = false → ¬armed →
          done (.engineStart r e) start ((c.setEngState n 1).put (Reg.ENG_WDOG_LEFT n) ((c.setEngState n 1).wk (Reg.ENG_WDOG n)))) ∧
        (st ≠ 0 ∨ c.loadingTo n = true ∨ armed → no (.engineStart r e) start)) ∧
      (c.takes r halt = true →
        (st = 0 → done (.engineHalt r e) halt c) ∧
        (st = 1 ∨ st = 2 → done (.engineHalt r e) halt (c.setEng n { c.eng n with haltReq := true })) ∧
        (soft → done (.engineHalt r e) halt (c.setEngState n 0)) ∧
        (st = 4 ∨ (st = 3 ∧ ¬soft) → no (.engineHalt r e) halt)) ∧
      (c.takes r resume = true →
        (soft → c.loadingTo n = false →
          done (.engineResume r e) resume (c.setEngState n 1)) ∧
        (¬soft ∨ c.loadingTo n = true → no (.engineResume r e) resume)) ∧
      (c.takes r reset = true →
        (st = 0 ∨ soft → done (.engineReset r e) reset ((((c.setEngState n 0).engClear n).locksSeize n none).poolReclaim n)) ∧
        (st ≠ 0 → ¬soft → no (.engineReset r e) reset)) ∧
      (c.takes r armS = true →
        (st = 0 → c.loadingTo n = false → done (.armStart r e) armS (c.put (Reg.ENG_STAT_ARM_START n) 1)) ∧
        (st ≠ 0 ∨ c.loadingTo n = true → no (.armStart r e) armS)) ∧
      (c.takes r armH = true →
        (st = 1 ∨ st = 2 → done (.armHalt r e) armH (c.put (Reg.ENG_STAT_ARM_HALT n) 1)) ∧
        (st ≠ 1 → st ≠ 2 → no (.armHalt r e) armH)) ∧
      (c.takes r clr = true → done (.armClr r e) clr ((c.put (Reg.ENG_STAT_ARM_START n) 0).put (Reg.ENG_STAT_ARM_HALT n) 0))) ∧
    (c.takes r Reg.ENG_START_MASK.addr = true →
      (named.any (fun k => !c.mayCtl r k) = true → Gives (.startMask r mask) s (c.respond r Reg.ENG_START_MASK.addr .refused)) ∧
      (named.any (fun k => !c.mayCtl r k) = false →
        (named.any (fun k => c.engState k != 0 || c.loadingTo k) = false →
          done (.startMask r mask) Reg.ENG_START_MASK.addr (c.each named (fun t k => t.engStart k))) ∧
        (named.any (fun k => c.engState k != 0 || c.loadingTo k) = true →
          Gives (.startMask r mask) s (c.rejected r Reg.ENG_START_MASK.addr 5 0 0x8000)))) ∧
    (c.takes r Reg.ENG_HALT_MASK.addr = true →
      (named.any (fun k => !c.mayCtl r k) = true → Gives (.haltMask r mask) s (c.respond r Reg.ENG_HALT_MASK.addr .refused)) ∧
      (named.any (fun k => !c.mayCtl r k) = false →
        (named.any (fun k => c.engState k == 3 || c.engState k == 4) = false →
          done (.haltMask r mask) Reg.ENG_HALT_MASK.addr
            (c.each named (fun t k => if t.engState k = 0 then t else t.setEng k { t.eng k with haltReq := true }))) ∧
        (named.any (fun k => c.engState k == 3 || c.engState k == 4) = true →
          Gives (.haltMask r mask) s (c.rejected r Reg.ENG_HALT_MASK.addr 5 0 0x8004)))) ∧
    ((c.eng n).haltReq = true → st = 1 ∨ st = 2 → Gives (.engineHalted e) s ((c.abandonWait n).setEngState n 0)) ∧
    ((c.eng n).haltReq = false ∨ (st ≠ 1 ∧ st ≠ 2) → Gives (.engineHalted e) s c) ∧
    (∀ d : Chip, let t := d.setEngState n 0
      (d.eng n).wait = .none → t.get (Reg.ENG_STAT_STATE n) = 0 ∧ t.get (Reg.ENG_STAT_EN n) = 0 ∧ t.get (Reg.ENG_STAT_WAIT_CAUSE n) = 0 ∧
        t.eng n = { d.eng n with haltReq := false })

/-- R203, R209 to R211, R243 (09_sprue_engines.md, 10_sprue_instruction_set.md): the program loader, code RAM, the watchdog, which lets a wait whose cause has cleared
complete first, and the release of waits. A wait that made no access leaves ACCESS (R230). How many
words an aborted load has copied is a free value (log entry 6). -/
def Obligations.LoaderWatchdogWaitResults : Prop :=
  ∀ (r : Requester) (e : Fin 32) (w : Fin 2048) (v : BitVec 32) (k dst len : Nat) (s : State),
    let c := s.chip
    let n := e.val
    let x := c.eng n
    let tgt := bits v.toNat 4 0
    let first := bits v.toNat 15 5
    let words := bits v.toNat 27 16
    let go := Reg.ENG_LOAD_GO_ENGINE.addr
    let src := c.loader.src
    let bad := c.engState tgt = 1 ∨ c.engState tgt = 2 ∨ words = 0 ∨ 2048 < first + words ∨ src % 4 ≠ 0 ∨ 0x100000 < src + 4 * words ∨
      (c.flag (Reg.ENG_STAT_ARM_START tgt) = true ∧ bit (c.get Reg.SYS_ARMED) 2 = true)
    let marked := (c.put Reg.ENG_LOAD_STAT_RESULT 2).put Reg.ENG_LOAD_STAT_ENGINE tgt
    let code := codeAddr n w.val
    let ended (d : Chip) (m res : Nat) : Chip :=
      let t := d.each (List.range m) (fun t i => t.wrw (codeAddr k (dst + i)) (t.ldw ((t.loader.src + 4 * i) % 2 ^ 20)))
      let u := ((t.put Reg.ENG_LOAD_STAT_BUSY 0).put Reg.ENG_LOAD_STAT_RESULT res).put Reg.ENG_LOAD_STAT_DONE m
      { u with loader := { u.loader with run := none } }
    (c.takes r Reg.ENG_LOAD_SRC.addr = true → Gives (.loadSrc r v) s
      ({ c with loader := { c.loader with src := v.toNat % 2 ^ 20 } }.respond r Reg.ENG_LOAD_SRC.addr .done)) ∧
    (c.takes r go = true →
      (c.mayCtl r tgt = false → Gives (.loadGo r v) s (c.respond r go .refused)) ∧
      (c.mayCtl r tgt = true →
        (c.flag Reg.ENG_LOAD_STAT_BUSY = true ∨ bad → Gives (.loadGo r v) s (marked.rejected r go 5 0 0x800C)) ∧
        (c.flag Reg.ENG_LOAD_STAT_BUSY = false → ¬bad →
          let t := ((c.put Reg.ENG_LOAD_STAT_BUSY 1).put Reg.ENG_LOAD_STAT_ENGINE tgt).put Reg.ENG_LOAD_STAT_DONE 0
          Gives (.loadGo r v) s ({ t with loader := { t.loader with run := some (tgt, first, words) } }.respond r go .done)))) ∧
    (c.loader.run = none → Gives (.loadDone false) s c ∧ Gives (.loadDone true) s c) ∧
    (c.loader.run = some (k, dst, len) → Gives (.loadDone false) s (ended c len 1) ∧
      (c.active k = true → Gives (.loadDone true) s c) ∧
      (c.active k = false → Gives (.loadDone true) s (ended c.drew (c.free % (len + 1)) 3))) ∧
    (c.coreUp = true →
      (r = .mgmt → c.active 52 = true → c.engState n ≠ 1 → c.engState n ≠ 2 →
        Gives (.codeRamWrite r e w v) s ((c.wrw code v).respond r code .done)) ∧
      (r = .mgmt → c.active 52 = true → c.engState n = 1 ∨ c.engState n = 2 →
        Gives (.codeRamWrite r e w v) s (c.rejected r code 5 n (0xC000 + 4 * w.val))) ∧
      (r = .mgmt → c.active 52 = false → Gives (.codeRamWrite r e w v) s (c.respond r code .refused)) ∧
      (r ≠ .mgmt → Gives (.codeRamWrite r e w v) s (c.respond r code .refused))) ∧
    (c.engState n = 1 ∨ c.engState n = 2 → c.wkB (Reg.ENG_WDOG n) = true →
      let t := c.abandonWait n
      Gives (.watchdogExpire e) s (if t.engState n = 0 then t else (t.put (Reg.ENG_WDOG_LEFT n) 0).trap n 4 none)) ∧
    (c.engState n ≠ 1 ∧ c.engState n ≠ 2 ∨ c.wkB (Reg.ENG_WDOG n) = false → Gives (.watchdogExpire e) s c) ∧
    (∀ (d : Nat) (val : BitVec 32) (upd acc : Nat) (z cy ov : Bool), x.wait = .granted d val upd z cy ov acc →
      (upd = 3 → Gives (.markWaitRelease e) s (c.completeWait n) ∧ Gives (.waitComplete e) s c) ∧
      (upd ≠ 3 → Gives (.markWaitRelease e) s c ∧ Gives (.waitComplete e) s (c.completeWait n))) ∧
    (∀ t : BitVec 64, x.wait = .time t →
      (t.toNat ≤ c.ct.toNat → Gives (.chainTimeWaitRelease e) s
        ((c.setEng n { x with wait := .granted 0 0 4 false false false 0 }).completeWait n)) ∧
      (c.ct.toNat < t.toNat → Gives (.chainTimeWaitRelease e) s c)) ∧
    (∀ d : Nat, x.wait = .event d →
      (lowestBit x.pend = none → Gives (.waitComplete e) s c) ∧
      (∀ i : Nat, lowestBit x.pend = some i →
        let t := c.setEng n { x with pend := x.pend &&& ~~~(1#128 <<< i) }
        Gives (.waitComplete e) s
          ((t.setEng n { t.eng n with wait := .granted d (BitVec.ofNat 32 i) 4 false false false 0 }).completeWait n))) ∧
    (x.wait = .none → Gives (.markWaitRelease e) s c ∧ Gives (.chainTimeWaitRelease e) s c ∧ Gives (.waitComplete e) s c) ∧
    (∀ (q : Chip) (d : Nat) (val : BitVec 32), (q.eng n).wait = .granted d val 0 false false false 0 →
      q.completeWait n =
        (let t := (q.setEng n { (q.eng n).setReg d val with wait := .none }).setEngState n 1
         (t.put (Reg.ENG_ACCESS n) 0).engNext n))

/-! ### Runners, locks, buffers and messages -/

/-- R245, R248, R249, R251 to R255, R258 to R260 (11_runners.md): the commands of a runner, and what a put, a served reader and a
hardware producer's packet are. -/
def Obligations.RunnerCommandResults : Prop :=
  ∀ (r : Requester) (q : Fin 128) (w : BitVec 32) (producer : HwProducer) (packet : List (BitVec 32)) (s : State),
    let c := s.chip
    let n := q.val
    let en := c.flag (Reg.RUN_STAT_EN n)
    let x := c.runner n
    let size := c.get (Reg.RUN_CFG_SIZE n)
    let base := c.get (Reg.RUN_CFG_BASE n)
    let good := size % 16 = 0 ∧ 16 ≤ size ∧ size ≤ 1024 ∧ base % 16 = 0 ∧ base + 2 * size ≤ 32768 ∧ en = false
    let clash := ∃ p : Nat, p < 128 ∧ p ≠ n ∧ c.flag (Reg.RUN_STAT_EN p) = true ∧
      base < c.get (Reg.RUN_CFG_BASE p) + 2 * c.get (Reg.RUN_CFG_SIZE p) ∧ c.get (Reg.RUN_CFG_BASE p) < base + 2 * size
    let ctl := (Reg.RUN_CTL_ENABLE n).addr
    let noPut := en = false ∨ (c.wkB (Reg.RUN_OWNER_PROD_V n) = true ∧ c.wk (Reg.RUN_OWNER_PROD n) ≠ 52)
    let noTake := en = false ∨ (c.wkB (Reg.RUN_OWNER_CONS_V n) = true ∧ c.wk (Reg.RUN_OWNER_CONS n) ≠ 52)
    let b := c.get (Reg.RUN_STAT_FILL n)
    let held := (x.kinds b).length
    let open_ := c.flag (Reg.RUN_STAT_P_DROP n) = false ∧ c.flag (Reg.RUN_STAT_C_DROP n) = false
    let put := fun k : Nat => c.setRunner n { x with lastPut := k == 0 }
    let now := c.ct.toNat + 1
    let own := c.wk (Reg.RUN_OWNER_PROD n)
    let flask := if (producerOf producer).2.contains own then some own else (producerOf producer).2.head?
    (c.takes r ctl = true →
      (good → ¬clash → Gives (.runnerEnable r q) s
        ((((c.setRunner n { x with rd0 := 0, rd1 := 0, k0 := [], k1 := [], lastStored := false, lastPut := false }).put (Reg.RUN_STAT_FILL n) 0).put
          (Reg.RUN_STAT_EN n) 1).respond r ctl .done)) ∧
      (¬good ∨ clash → Gives (.runnerEnable r q) s (c.rejected r ctl 6 n 0x08))) ∧
    (c.takes r (Reg.RUN_CTL_DISABLE n).addr = true →
      (en = false → Gives (.runnerDisable r q) s (c.respond r (Reg.RUN_CTL_DISABLE n).addr .done)) ∧
      (en = true →
        let t := c.add (Reg.RUN_LOST_CNT n) ((x.k0 ++ x.k1).countP (fun k => k != 2))
        let u := t.setRunner n { t.runner n with rd0 := 0, rd1 := 0, k0 := [], k1 := [], lastStored := false }
        Gives (.runnerDisable r q) s
          (((((u.put (Reg.RUN_STAT_P_DROP n) 0).put (Reg.RUN_STAT_C_DROP n) 0).put (Reg.RUN_STAT_EN n) 0).runRelease n).respond r
            (Reg.RUN_CTL_DISABLE n).addr .done))) ∧
    (c.takes .mgmt (Reg.RUN_MPUT n).addr = true →
      (noPut → Gives (.mput .mgmt q w) s (c.rejected .mgmt (Reg.RUN_MPUT n).addr 6 n 0x1C)) ∧
      (¬noPut → Gives (.mput .mgmt q w) s (((c.runPut n 0 w.toNat).runServe n 34).respond .mgmt (Reg.RUN_MPUT n).addr .done))) ∧
    (c.takes .mgmt (Reg.RUN_MPUT_E n).addr = true →
      (noPut → Gives (.mputE .mgmt q w) s (c.rejected .mgmt (Reg.RUN_MPUT_E n).addr 6 n 0x20)) ∧
      (¬noPut → Gives (.mputE .mgmt q w) s (((c.runPut n 1 w.toNat).runServe n 34).respond .mgmt (Reg.RUN_MPUT_E n).addr .done))) ∧
    (c.takes .mgmt (Reg.RUN_MDROPP n).addr = true →
      (noTake → Gives (.mdropp .mgmt q) s (c.rejected .mgmt (Reg.RUN_MDROPP n).addr 6 n 0x24)) ∧
      (¬noTake → Gives (.mdropp .mgmt q) s ((c.runDropPkt n 2049).respond .mgmt (Reg.RUN_MDROPP n).addr .done))) ∧
    (c.takes .mgmt (Reg.RUN_MGET n).addr = true →
      (noTake → Gives (.mget .mgmt q) s (c.rejected .mgmt (Reg.RUN_MGET n).addr 6 n 0x14)) ∧
      (¬noTake → Gives (.mget .mgmt q) s
        (let t := c.setRunner n { x with waiters := c.waitIn 32 x.waiters }
         (({ t with mgmt := { t.mgmt with waitAt := t.ctFine + 1 } }.runServe n 34).respond .mgmt (Reg.RUN_MGET n).addr .done)))) ∧
    (r ≠ .mgmt →
      (c.takes r (Reg.RUN_MPUT n).addr = true → Gives (.mput r q w) s (c.respond r (Reg.RUN_MPUT n).addr .refused)) ∧
      (c.takes r (Reg.RUN_MPUT_E n).addr = true → Gives (.mputE r q w) s (c.respond r (Reg.RUN_MPUT_E n).addr .refused)) ∧
      (c.takes r (Reg.RUN_MDROPP n).addr = true → Gives (.mdropp r q) s (c.respond r (Reg.RUN_MDROPP n).addr .refused)) ∧
      (c.takes r (Reg.RUN_MGET n).addr = true → Gives (.mget r q) s (c.respond r (Reg.RUN_MGET n).addr .refused))) ∧
    (x.waiters.contains 32 = true → Gives (.mgetTimeout q) s
      (let t := (c.setRunner n { x with waiters := x.waiters.filter (fun v => v != 32) }).put (Reg.RUN_MGET_STAT n) 3
       { t with lastRead := t.lastRead.put 0 32 0, outcome := t.outcome.put 0 32 4 })) ∧
    (x.waiters.contains 32 = false → Gives (.mgetTimeout q) s c) ∧
    (c.coreUp = true → packet ≠ [] →
      let items := packetItems (packet.map BitVec.toNat)
      let refused := en = false ∨ (c.wkB (Reg.RUN_OWNER_PROD_V n) = true ∧ flask ≠ some own)
      (¬refused → Gives (.hardwarePut q producer packet) s ((c.runPutAll n items).runServe n 34)) ∧
      (refused → producer ≠ .evt → Gives (.hardwarePut q producer packet) s (c.reject (producerOf producer).1 6 n 0x20)) ∧
      (refused → producer = .evt → Gives (.hardwarePut q producer packet) s ((c.inc (Reg.RUN_REJ_CNT n)).inc Reg.EVT_RDROP_CNT))) ∧
    (packet = [] → Gives (.hardwarePut q producer packet) s c) ∧
    (c.coreUp = true → en = true → Gives (.runnerPointerCheck q) s ((c.runReset n).runServe n 34)) ∧
    (en = false → Gives (.runnerPointerCheck q) s c) ∧
    (c.flag (Reg.RUN_STAT_OVL n) = true → x.lastLoss + c.period ≤ now → Gives (.runnerOvlEnd q) s (c.put (Reg.RUN_STAT_OVL n) 0)) ∧
    (c.flag (Reg.RUN_STAT_OVL n) = false ∨ now < x.lastLoss + c.period → Gives (.runnerOvlEnd q) s c) ∧
    -- a put (R248, R252, R253): stored, stored with a swap, or lost
    (∀ k v : Nat, open_ → held + 1 < size → c.runPut n k v = (put k).runStore n b k v) ∧
    (∀ k v : Nat, open_ → held + 1 = size → (x.kinds (1 - b)).isEmpty = true → c.runPut n k v = ((put k).runStore n b k v).runSwap n) ∧
    (∀ v : Nat, open_ → size ≤ held + 1 → (x.kinds (1 - b)).isEmpty = false → c.flag (Reg.RUN_CFG_MODE n) = true → (x.kinds b).getLast? ≠ some 2 →
      c.runPut n 0 v = ((((put 0).runStore n b 2 1).runLose n 1).put (Reg.RUN_STAT_P_DROP n) 1)) ∧
    (∀ v : Nat, c.flag (Reg.RUN_STAT_P_DROP n) = false → c.flag (Reg.RUN_STAT_C_DROP n) = true →
      c.runPut n 0 v = put 0 ∧ c.runPut n 1 v = (put 1).put (Reg.RUN_STAT_C_DROP n) 0) ∧
    -- a waiting reader is served with the oldest item (R249, R251)
    (∀ k : Nat, x.waiters = [] → c.runServe n k = c) ∧
    (∀ k v m : Nat, ∀ t u : Chip, ∀ ws : List Nat, x.waiters = 32 :: ws → c.runTake n = (some (k, v), t) →
      u = (t.setRunner n { t.runner n with waiters := ws }).put (Reg.RUN_MGET_STAT n) k →
      c.runServe n (m + 1) = ({ u with lastRead := u.lastRead.put 0 32 v, outcome := u.outcome.put 0 32 0 }).runServe n m)

/-- R262 to R265, R268 to R270, R272, R274, R278, R513 (12_locks_buffers_messages.md): the commands of the locks, the pool and the mailboxes. -/
def Obligations.LockBufferMessageCommandResults : Prop :=
  ∀ (r : Requester) (lock : BitVec 8) (buf : BitVec 11) (owner m : BitVec 6) (v : BitVec 32) (k : Fin 64) (s : State),
    let c := s.chip
    let l := lock.toNat
    let holder := c.get (Reg.SYNC_LOCK_STAT_OWNER l)
    let poison := c.flag (Reg.SYNC_LOCK_STAT_POISON l)
    let lk := Reg.SYNC_LOCK_CMD_LOCK.addr
    let gives := fun (i : Instr) (a : Nat) (t : Chip) => Gives i s (t.respond .mgmt a .done)
    let misuse := fun (i : Instr) (a : Nat) (t : Chip) (cause det : Nat) => Gives i s ((t.fault 52 cause det 0).respond .mgmt a .refused)
    let b := buf.toNat
    let code := c.get (Reg.SYNC_BUF_OWN b)
    let sb := bits v.toNat 10 0
    let len := bits v.toNat 23 16
    let box := bits v.toNat 29 24
    let read := fun (t : Chip) (x : Nat) => { t with lastRead := t.lastRead.put 0 32 x }
    let fenced := (owner.toNat < 32 ∧ c.active owner.toNat = false) ∨ (owner.toNat = 32 ∧ c.active 52 = false)
    (c.takes .mgmt lk = true →
      (holder = 63 → gives (.lockTry .mgmt lock) lk ((c.put (Reg.SYNC_LOCK_STAT_OWNER l) 32).put Reg.SYNC_LOCK_RES (if poison then 1 else 0))) ∧
      (holder ≠ 63 → holder ≠ 32 → gives (.lockTry .mgmt lock) lk (c.put Reg.SYNC_LOCK_RES 2)) ∧
      (holder = 32 → misuse (.lockTry .mgmt lock) lk c 2 l) ∧
      (holder = 32 → poison = false → c.sync.lockWait.get [] l = [] → gives (.lockRelease .mgmt lock) lk (c.put (Reg.SYNC_LOCK_STAT_OWNER l) 63)) ∧
      (holder = 32 → poison = false → ∀ e : Nat, ∀ t : List Nat, c.sync.lockWait.get [] l = e :: t →
        gives (.lockRelease .mgmt lock) lk
          (((({ c with sync := { c.sync with lockWait := c.sync.lockWait.put [] l t } }).put (Reg.SYNC_LOCK_STAT_OWNER l) e).grant
            e 0 1 true false false 0))) ∧
      (holder ≠ 32 ∨ poison = true → misuse (.lockRelease .mgmt lock) lk c 2 l) ∧
      (holder = 32 → gives (.lockClearPoison .mgmt lock) lk (c.put (Reg.SYNC_LOCK_STAT_POISON l) 0)) ∧
      (holder ≠ 32 → misuse (.lockClearPoison .mgmt lock) lk c 2 l)) ∧
    (c.takes .mgmt Reg.SYNC_B_ALLOC.addr = true →
      let a := Reg.SYNC_B_ALLOC.addr
      (∀ t : Chip, ∀ x : Nat, c.wk Reg.SYNC_POOL_CFG_GATE_RESV < c.poolFree →
        c.wkB Reg.SYNC_POOL_CFG_MAX_OWN = false ∨ c.owned 32 < c.wk Reg.SYNC_POOL_CFG_MAX_OWN → c.poolPop 32 = some (x, t) →
        gives (.bAlloc .mgmt) a (read t x)) ∧
      (c.poolFree ≤ c.wk Reg.SYNC_POOL_CFG_GATE_RESV → gives (.bAlloc .mgmt) a (read c.poolFail 0xFFFFFFFF)) ∧
      (c.wk Reg.SYNC_POOL_CFG_GATE_RESV < c.poolFree → c.wkB Reg.SYNC_POOL_CFG_MAX_OWN = true → c.wk Reg.SYNC_POOL_CFG_MAX_OWN ≤ c.owned 32 →
        gives (.bAlloc .mgmt) a (read (c.inc Reg.SYNC_QUOTA_CNT).poolFail 0xFFFFFFFF))) ∧
    (c.takes .mgmt Reg.SYNC_B_FREE.addr = true →
      let a := Reg.SYNC_B_FREE.addr
      (code = 32 → gives (.bFree .mgmt buf) a
        ((({ c.put (Reg.SYNC_BUF_OWN b) 63 with sync := { c.sync with freed := c.sync.freed ++ [b] } }).poolServe 32))) ∧
      (code = 63 → misuse (.bFree .mgmt buf) a (c.inc Reg.SYNC_DOUBLE_CNT) 3 b) ∧
      (code ≠ 32 → code ≠ 63 → misuse (.bFree .mgmt buf) a (c.inc Reg.SYNC_FOREIGN_CNT) 3 b)) ∧
    (c.takes .mgmt Reg.SYNC_B_GIVE_BUF.addr = true →
      let a := Reg.SYNC_B_GIVE_BUF.addr
      (code = 32 → owner.toNat ≤ 32 → ¬fenced → gives (.bGive .mgmt buf owner) a ((c.put (Reg.SYNC_BUF_OWN b) owner.toNat).poolServe 32)) ∧
      (code = 32 → owner.toNat ≤ 32 → fenced → Gives (.bGive .mgmt buf owner) s (c.rejected .mgmt a 7 0 0x10)) ∧
      (code = 32 → 32 < owner.toNat → misuse (.bGive .mgmt buf owner) a c 3 b) ∧
      (code ≠ 32 → misuse (.bGive .mgmt buf owner) a (c.inc Reg.SYNC_FOREIGN_CNT) 3 b)) ∧
    (c.takes .mgmt Reg.SYNC_M_SEND_BUF.addr = true →
      let a := Reg.SYNC_M_SEND_BUF.addr
      (c.get (Reg.SYNC_BUF_OWN sb) = 32 → 1 ≤ len → len ≤ 128 →
        (c.maySend box 52 = true → (c.mbx box).count + (c.mbx box).resv < c.mbxDepth box →
          gives (.mSend .mgmt v) a (((c.mbxPush box sb len).mbxServe box 32).poolServe 32)) ∧
        (c.maySend box 52 = false ∨ c.mbxDepth box ≤ (c.mbx box).count + (c.mbx box).resv →
          Gives (.mSend .mgmt v) s (((c.inc Reg.SYNC_MBX_REF_CNT).reject 32 7 0 0x20).respond .mgmt a .reject))) ∧
      (c.get (Reg.SYNC_BUF_OWN sb) ≠ 32 ∨ len = 0 ∨ 128 < len → misuse (.mSend .mgmt v) a c 3 sb)) ∧
    (c.takes .mgmt Reg.SYNC_M_RECV_SEL.addr = true →
      gives (.mRecvSel .mgmt m) Reg.SYNC_M_RECV_SEL.addr { c with sync := { c.sync with sel := m.toNat } }) ∧
    (c.takes .mgmt Reg.SYNC_M_RECV.addr = true →
      let a := Reg.SYNC_M_RECV.addr
      let x := c.sync.sel
      (c.mayRecv x 52 = true → c.mbxPeek x = none → gives (.mRecv .mgmt) a (read c 0xFFFFFFFF)) ∧
      (∀ y n : Nat, c.mayRecv x 52 = true → c.mbxPeek x = some (y, n) →
        gives (.mRecv .mgmt) a (read ((c.mbxPop x).put (Reg.SYNC_BUF_OWN y) 32) (y + 65536 * n))) ∧
      (c.mayRecv x 52 = false → Gives (.mRecv .mgmt) s (((c.inc Reg.SYNC_MBX_REF_CNT).reject 32 7 0 0x28).respond .mgmt a .reject))) ∧
    (r ≠ .mgmt →
      (c.takes r lk = true → Gives (.lockTry r lock) s (c.respond r lk .refused) ∧ Gives (.lockRelease r lock) s (c.respond r lk .refused) ∧
        Gives (.lockClearPoison r lock) s (c.respond r lk .refused)) ∧
      (c.takes r Reg.SYNC_B_ALLOC.addr = true → Gives (.bAlloc r) s (c.respond r Reg.SYNC_B_ALLOC.addr .refused)) ∧
      (c.takes r Reg.SYNC_B_FREE.addr = true → Gives (.bFree r buf) s (c.respond r Reg.SYNC_B_FREE.addr .refused)) ∧
      (c.takes r Reg.SYNC_B_GIVE_BUF.addr = true → Gives (.bGive r buf owner) s (c.respond r Reg.SYNC_B_GIVE_BUF.addr .refused)) ∧
      (c.takes r Reg.SYNC_M_SEND_BUF.addr = true → Gives (.mSend r v) s (c.respond r Reg.SYNC_M_SEND_BUF.addr .refused)) ∧
      (c.takes r Reg.SYNC_M_RECV_SEL.addr = true → Gives (.mRecvSel r m) s (c.respond r Reg.SYNC_M_RECV_SEL.addr .refused)) ∧
      (c.takes r Reg.SYNC_M_RECV.addr = true → Gives (.mRecv r) s (c.respond r Reg.SYNC_M_RECV.addr .refused))) ∧
    (c.takes r (Reg.SYNC_MBX_CTL k.val).addr = true →
      let n := (c.mbx k.val).count
      let bufs := (List.range n).map (fun i => bits (c.rdw (mbxEntry k.val ((c.mbx k.val).head + i))).toNat 10 0)
      let t := c.setMbx k.val { c.mbx k.val with head := ((c.mbx k.val).head + n) % 128, count := 0, waiters := [] }
      let u := (t.each bufs (fun t x => t.poolPush x)).add Reg.SYNC_FLUSH_CNT n
      Gives (.mbxFlush r k) s
        (((u.each (c.mbx k.val).waiters (fun t e => t.grant e 0xFFFFFFFF 0 false false false 1)).poolServe 32).respond r
          (Reg.SYNC_MBX_CTL k.val).addr .done)) ∧
    (c.flag Reg.SYNC_STAT_OVL = true → c.sync.lastFail + c.period ≤ c.ct.toNat + 1 → Gives .poolOvlEnd s (c.put Reg.SYNC_STAT_OVL 0)) ∧
    (c.flag Reg.SYNC_STAT_OVL = false ∨ c.ct.toNat + 1 < c.sync.lastFail + c.period → Gives .poolOvlEnd s c)

/-! ### Flasks and the warden -/

/-- R284, R286, R292 to R296 (13_flasks_and_warden.md): faults, fences, revives and auto-revive. A flask passes to FENCING at its fault and a
fence sequence runs as one command. -/
def Obligations.FlaskCommandResults : Prop :=
  ∀ (r : Requester) (f : BitVec 6) (g : Fin 64) (faults : List FaultIn) (s : State),
    let c := s.chip
    let n := f.toNat
    let m := g.val
    let fe := Reg.FLASK_FENCE.addr
    let re := Reg.FLASK_REVIVE.addr
    let may := ∀ e : Fin 32, r = .engine e → e.val ≠ n ∧ c.wkB (Reg.FLASK_FCFG_SUPV_V n) = true ∧ c.wk (Reg.FLASK_FCFG_SUPV_ENG n) = e.val
    let canRevive := fun (c : Chip) (k : Nat) => k < 54 ∧ c.get (Reg.FLASK_FSTAT_STATE k) = 2 ∧ (fieldFlask k = false ∨ c.seamUp = true) ∧
      c.warden.lastFault.get 0 k ≠ c.ctFine + 1
    let waits := c.flag (Reg.FLASK_FSTAT_AR_WAIT m)
    -- the flask is fenced and revived
    (c.takes r fe = true →
      (may → n < 54 → c.active n = true → Gives (.fenceCmd r f) s ((c.fault n 9 r.code 0).respond r fe .done)) ∧
      (may → 54 ≤ n ∨ c.active n = false → Gives (.fenceCmd r f) s (c.rejected r fe 8 0 0x14)) ∧
      (¬may → Gives (.fenceCmd r f) s (c.respond r fe .refused))) ∧
    (c.takes r re = true →
      (may → canRevive c n → Gives (.revive r f) s ((c.reviveFlask n).respond r re .done)) ∧
      (may → ¬canRevive c n → Gives (.revive r f) s (c.rejected r re 8 0 0x10)) ∧
      (¬may → Gives (.revive r f) s (c.respond r re .refused))) ∧
    (c.takes r Reg.FLASK_AR_CLR.addr = true →
      (n < 54 → Gives (.arClr r f) s
        (((({ c with warden := { c.warden with n := c.warden.n.put 0 n 0 } }).put (Reg.FLASK_FSTAT_N n) 0).put (Reg.FLASK_FSTAT_GAVEUP n) 0).respond
          r Reg.FLASK_AR_CLR.addr .done)) ∧
      (54 ≤ n → Gives (.arClr r f) s (c.respond r Reg.FLASK_AR_CLR.addr .done))) ∧
    -- a fault against an ACTIVE flask is latched, and its flask passes to FENCING
    (c.coreUp = true → m < 54 → c.active m = true → ∀ cause det w : Nat,
      let i0 := c.inc (Reg.FLASK_FAULT_CNT m)
      let i := { i0 with warden := { i0.warden with lastFault := i0.warden.lastFault.put 0 m (i0.ctFine + 1) } }
      let t := (i.put (Reg.FLASK_FSTAT_STATE m) 1).put (Reg.FLASK_FSTAT_CAUSE m) cause
      let k := t.warden.n.get 0 m + 1
      c.fault m cause det w =
        ({ t with warden := { t.warden with
            lines := t.warden.lines ++ [(⟨m, cause, det, w, i.get Reg.CLK_CYC_NUM, i.ct.toNat⟩ : FaultLine)]
            n := t.warden.n.put 0 m k
            stable := clrBit t.warden.stable m } }).put (Reg.FLASK_FSTAT_N m) (min 63 k)) ∧
    -- up to four of the latched faults are fenced at once, oldest first; the rest wait
    (c.coreUp = true → faults = [] → Gives (.flaskFence faults) s (c.fenceRun 4)) ∧
    (c.coreUp = true → ∀ x : FaultIn, faults = [x] →
      (ownsMemory x.flask.val = true → Gives (.flaskFence faults) s ((c.fault x.flask.val 4 0 x.addr.toNat).fenceRun 4)) ∧
      (ownsMemory x.flask.val = false → Gives (.flaskFence faults) s (c.fenceRun 4))) ∧
    (∀ l : FaultLine, ∀ t : List FaultLine, ∀ k : Nat, c.warden.lines = l :: t →
      c.fenceRun (k + 1) = (({ c with warden := { c.warden with lines := t } }).fenceOne l).fenceRun k) ∧
    (c.fenceRun 0 = { c with warden := { c.warden with queue := c.warden.queue ++ c.warden.lines, lines := [] } }) ∧
    (∀ l : FaultLine, ∀ t : List FaultLine, c.coreUp = true → c.warden.queue = l :: t →
      let u := ({ c with warden := { c.warden with queue := t } }).fenceOne l
      Gives .fenceQueuedStart s { u with warden := { u.warden with
        queue := u.warden.queue ++ u.warden.lines.filter (fun x => x.cause == 8 && x.detail == l.flask)
        lines := u.warden.lines.filter (fun x => !(x.cause == 8 && x.detail == l.flask)) } }) ∧
    (c.warden.queue = [] → Gives .fenceQueuedStart s c) ∧
    (c.coreUp = true → c.fieldUp = true → c.warden.lanePend = true →
      let t := { c with warden := { c.warden with laneFence := c.warden.sentFence, laneHold := c.warden.sentHold, lanePend := false } }
      Gives .fenceLaneUpdate s
        (((t.each [0, 1, 2, 3, 4] (fun t k => t.policyHandover k)).fieldSettle).each [5, 6, 7, 8] (fun t k => t.channelOpen k))) ∧
    (c.warden.lanePend = false → Gives .fenceLaneUpdate s c) ∧
    -- what a pending auto-revive does, in the chip t it acts in
    (m < 54 → ∀ t : Chip,
      (t.wkB (Reg.FLASK_FCFG_AR_EN m) = true → canRevive t m → t.autoAct m = (t.reviveFlask m).inc Reg.FLASK_AR_CNT) ∧
      (t.wkB (Reg.FLASK_FCFG_AR_EN m) = true → ¬canRevive t m →
        t.autoAct m = { t with warden := { t.warden with
          retry := setBit t.warden.retry m, due := t.warden.due.put 0 m (t.ct.toNat + 1000000) } }) ∧
      (t.wkB (Reg.FLASK_FCFG_AR_EN m) = false → t.autoAct m = t.put (Reg.FLASK_FSTAT_AR_WAIT m) 0)) ∧
    -- auto-revive acts at its delay's end; one that was refused acts every 1 ms
    (c.coreUp = true → m < 54 → waits = true → Sys2Proof.Machine.bit c.warden.retry m = false →
      Gives (.autoRevive g) s ((c.timeTo (c.warden.due.get 0 m)).autoAct m)) ∧
    (waits = false ∨ Sys2Proof.Machine.bit c.warden.retry m = true → Gives (.autoRevive g) s c) ∧
    (c.coreUp = true → ∀ k : Nat, ∀ l : List Nat, c.retrying = k :: l →
      let u := c.timeTo ((l.map (fun f => c.warden.due.get 0 f)).foldl min (c.warden.due.get 0 k))
      Gives .autoReviveRetry s
        (u.each u.retrying (fun t f => if t.warden.due.get 0 f ≤ t.ct.toNat then t.autoAct f else t))) ∧
    (c.retrying = [] → Gives .autoReviveRetry s c) ∧
    (∀ k : Nat, k < 54 → Sys2Proof.Machine.bit c.warden.retry k = true → c.flag (Reg.FLASK_FSTAT_AR_WAIT k) = true → k ∈ c.retrying) ∧
    (c.warden.lines = [] → ∀ k : Nat, c.fenceRun (k + 1) = c) ∧
    (c.coreUp = true → c.active m = true → Sys2Proof.Machine.bit c.warden.stable m = true →
      let t := c.timeTo (c.warden.revivedAt.get 0 m + 1000000000 * max 1 (c.wk (Reg.FLASK_FCFG_AR_STABLE m)))
      Gives (.arStableExpire g) s
        (({ t with warden := { t.warden with n := t.warden.n.put 0 m 0, stable := clrBit t.warden.stable m } }).put (Reg.FLASK_FSTAT_N m) 0)) ∧
    (c.active m = false ∨ Sys2Proof.Machine.bit c.warden.stable m = false → Gives (.arStableExpire g) s c)

/-! ### The hub -/

/-- R299 to R304, R306 to R312, R317 to R320 (14_local_hub.md): the requests for a port of the local hub and for its translator, and what
happens at its ports. -/
def Obligations.HubPortResults : Prop :=
  ∀ (q : Fin 10) (p mode : BitVec 8) (chg : PortChange) (ep : TtEndpoint) (speed : UsbSpeed) (besl : BitVec 4) (s : State),
    let c := s.chip
    let n := p.toNat
    let m := q.val
    let x := c.hp n
    let y := c.hp m
    let on := c.usbOn .hub = true ∧ c.upState = 3
    let has := 1 ≤ n ∧ n ≤ 9
    let shut := c.tunnelled n = true ∨ c.occPort n = true
    let stall := (c.inc Reg.HUB_REQ_STALL_CNT).answer .stall
    let acked := fun t : Chip => t.answer .ack
    -- no port of that number: every one of these requests is answered STALL
    (on → ¬has →
      Gives (.getPortStatus p) s stall ∧ Gives (.setPortReset p) s stall ∧ Gives (.setPortSuspend p) s stall ∧ Gives (.setPortPower p) s stall ∧
      Gives (.setPortTest p mode) s stall ∧ Gives (.clearPortEnable p) s stall ∧ Gives (.clearPortSuspend p) s stall ∧
      Gives (.clearPortPower p) s stall ∧ Gives (.clearPortL1 p) s stall ∧ Gives (.clearPortChange p chg) s stall ∧
      Gives (.clearTtBuffer p ep) s stall ∧ Gives (.resetTt p) s stall ∧ Gives (.getTtState p) s stall ∧ Gives (.stopTt p) s stall) ∧
    -- the hub takes no request: nothing changes
    (c.usbOn .hub = false →
      Gives (.getPortStatus p) s c ∧ Gives (.setPortReset p) s c ∧ Gives (.setPortSuspend p) s c ∧ Gives (.setPortPower p) s c ∧
      Gives (.setPortTest p mode) s c ∧ Gives (.clearPortEnable p) s c ∧ Gives (.clearPortSuspend p) s c ∧ Gives (.clearPortPower p) s c ∧
      Gives (.clearPortL1 p) s c ∧ Gives (.clearPortChange p chg) s c ∧ Gives (.clearTtBuffer p ep) s c ∧ Gives (.resetTt p) s c ∧
      Gives (.getTtState p) s c ∧ Gives (.stopTt p) s c) ∧
    (on → has → Gives (.getPortStatus p) s
      (c.answer (.data (bytesOf (le2 (c.get (Reg.HUB_PORT_STAT_STATUS n)) ++ le2 (c.get (Reg.HUB_PORT_STAT_CHANGE n))))))) ∧
    (on → has → shut →
      Gives (.setPortReset p) s stall ∧ Gives (.setPortSuspend p) s stall ∧ Gives (.setPortPower p) s stall ∧ Gives (.setPortTest p mode) s stall) ∧
    (on → has → ¬shut →
      (Sys2Proof.Machine.bit x.st stConn = true → n ≠ 9 → Gives (.setPortReset p) s (acked
        ((c.setHp n { x with phase := 1, since := c.ct.toNat }).setSt n (setBit (clrBit (clrBit (clrBit x.st stEnable) stSuspend) stL1) stReset)))) ∧
      (Sys2Proof.Machine.bit x.st stConn = false → Gives (.setPortReset p) s (acked c)) ∧
      (Sys2Proof.Machine.bit x.st stEnable = true → Sys2Proof.Machine.bit x.st stSuspend = false → x.phase = 0 →
        Gives (.setPortSuspend p) s (acked (c.setSt n (setBit x.st stSuspend)))) ∧
      (Sys2Proof.Machine.bit x.st stEnable = false ∨ Sys2Proof.Machine.bit x.st stSuspend = true ∨ x.phase ≠ 0 →
        Gives (.setPortSuspend p) s (acked c)) ∧
      (c.lockedOff n = true → Gives (.setPortPower p) s (acked c)) ∧
      (c.lockedOff n = false → n ≠ 9 →
        Gives (.setPortPower p) s (acked ((c.setHp n { x with tripped := false, fenced := false }).portPowerOn n).tellTerms)) ∧
      (n ≠ 9 → 1 ≤ mode.toNat → mode.toNat ≤ 5 →
        (∀ k : Nat, 1 ≤ k → k ≤ 9 → k ≠ n → 
          Sys2Proof.Machine.bit (c.get (Reg.HUB_PORT_STAT_STATUS k)) stEnable = false ∨
            Sys2Proof.Machine.bit (c.get (Reg.HUB_PORT_STAT_STATUS k)) stSuspend = true) →
        Gives (.setPortTest p mode) s (acked ((c.setHp n { x with test := mode.toNat }).setSt n (setBit x.st stTest)))) ∧
      (n = 9 ∨ mode.toNat = 0 ∨ 5 < mode.toNat → Gives (.setPortTest p mode) s stall)) ∧
    (on → has → c.tunnelled n = true →
      Gives (.clearPortEnable p) s (acked c) ∧ Gives (.clearPortSuspend p) s (acked c) ∧ Gives (.clearPortPower p) s (acked c) ∧
      Gives (.clearPortL1 p) s (acked c)) ∧
    (on → has → c.tunnelled n = false →
      Gives (.clearPortEnable p) s (acked (c.setSt n (clrBit x.st stEnable))) ∧
      (Sys2Proof.Machine.bit x.st stSuspend = true → x.phase = 0 → Gives (.clearPortSuspend p) s (acked (c.setHp n { x with phase := 2, since := c.ct.toNat }))) ∧
      (Sys2Proof.Machine.bit x.st stSuspend = false ∨ x.phase ≠ 0 → Gives (.clearPortSuspend p) s (acked c)) ∧
      (n ≠ 9 → Gives (.clearPortPower p) s (acked (c.portPowerOff n).tellTerms)) ∧
      (n = 9 → Gives (.clearPortPower p) s (acked ((c.portPowerOff n).setDev .mgmt {}).tellTerms)) ∧
      (Sys2Proof.Machine.bit x.st stL1 = true → x.phase = 0 → Gives (.clearPortL1 p) s (acked (c.setHp n { x with phase := 3, since := c.ct.toNat }))) ∧
      (Sys2Proof.Machine.bit x.st stL1 = false ∨ x.phase ≠ 0 → Gives (.clearPortL1 p) s (acked c))) ∧
    (on → has → Gives (.clearPortChange p chg) s
      (acked (c.put (Reg.HUB_PORT_STAT_CHANGE n) (clrBit (c.get (Reg.HUB_PORT_STAT_CHANGE n)) (changeBit chg))))) ∧
    -- the translator of the port, or the one of all eight
    (on → n = 9 → Gives (.clearTtBuffer p ep) s stall ∧ Gives (.resetTt p) s stall ∧ Gives (.getTtState p) s stall ∧ Gives (.stopTt p) s stall) ∧
    (on → 1 ≤ n → n ≤ 8 → c.tunnelled n = true →
      Gives (.clearTtBuffer p ep) s (acked c) ∧ Gives (.resetTt p) s (acked c) ∧ Gives (.getTtState p) s (acked c) ∧ Gives (.stopTt p) s (acked c)) ∧
    (on → 1 ≤ n → n ≤ 8 → c.tunnelled n = false →
      Gives (.clearTtBuffer p ep) s
        (acked (c.each (c.ttPorts n) (fun t k => t.setHp k { t.hp k with bufs := (t.hp k).bufs.filter (fun b => b.ep != ep) }))) ∧
      Gives (.resetTt p) s
        (acked (c.each (c.ttPorts n) (fun t k => t.setHp k { t.hp k with bufs := [], per := [], bytes := 0, stopped := false }))) ∧
      Gives (.stopTt p) s (acked (c.each (c.ttPorts n) (fun t k => t.setHp k { t.hp k with stopped := true }))) ∧
      Gives (.getTtState p) s (c.answer (.data (natBytes 4 c.free))).drew) ∧
    (c.flag Reg.HUB_STAT_ALT = true → c.ttPorts n = [n]) ∧
    (c.flag Reg.HUB_STAT_ALT = false → c.tunnelled n = false → ∀ k : Nat, k ∈ c.ttPorts n ↔ 1 ≤ k ∧ k ≤ 8 ∧ c.tunnelled k = false) ∧
    -- the ends of resets, resumes and L1 exits; events at a port
    (c.coreUp = true → y.phase = 1 →
      let t := c.timeTo (y.since + 15000000)
      let z := t.hp m
      let v := if m = 9 then (if t.flag Reg.HUB_STAT_HS then .high else .full) else speed
      let st := clrBit (clrBit (clrBit z.st stReset) stLow) stHigh
      Gives (.portResetEnd q speed) s
        (((t.setHp m { z with phase := 0, conn := some v }).setSt m (setBit st stEnable + speedBits v)).portChange m .reset)) ∧
    (y.phase ≠ 1 → Gives (.portResetEnd q speed) s c) ∧
    (c.coreUp = true → y.phase = 2 →
      let t := c.timeTo (y.since + 20000000)
      Gives (.portResumeEnd q) s
        ((((t.setHp m { t.hp m with phase := 0 }).setSt m (clrBit (t.hp m).st stSuspend)).inc Reg.HUB_RESUME_CNT).portChange m .suspend)) ∧
    (y.phase ≠ 2 → Gives (.portResumeEnd q) s c) ∧
    (c.coreUp = true → y.phase = 3 →
      let t := c.timeTo (y.since + beslTime y.besl)
      Gives (.l1ExitEnd q) s (((t.setHp m { y with phase := 0 }).setSt m (clrBit y.st stL1)).portChange m .l1)) ∧
    (y.phase ≠ 3 → Gives (.l1ExitEnd q) s c) ∧
    (c.coreUp = true → Sys2Proof.Machine.bit y.st stSuspend = true → y.phase = 0 →
      Gives (.deviceRemoteWake q) s (c.setHp m { y with phase := 2, since := c.ct.toNat }).hubWake) ∧
    (c.coreUp = true → Sys2Proof.Machine.bit y.st stSuspend = false → Sys2Proof.Machine.bit y.st stL1 = true → y.phase = 0 →
      Gives (.deviceRemoteWake q) s (c.setHp m { y with phase := 3, since := c.ct.toNat })) ∧
    (c.coreUp = true → Sys2Proof.Machine.bit y.st stSuspend = false → Sys2Proof.Machine.bit y.st stL1 = false → Gives (.deviceRemoteWake q) s c) ∧
    (c.coreUp = true → 1 ≤ m → m ≤ 8 → Sys2Proof.Machine.bit y.st stEnable = true → Sys2Proof.Machine.bit y.st stSuspend = false →
      Sys2Proof.Machine.bit y.st stL1 = false → y.phase = 0 →
      Gives (.portL1Entry q besl) s ((c.setHp m { y with besl := besl.toNat }).setSt m (setBit y.st stL1))) ∧
    (m = 0 ∨ m = 9 ∨ Sys2Proof.Machine.bit y.st stEnable = false ∨ Sys2Proof.Machine.bit y.st stSuspend = true ∨
      Sys2Proof.Machine.bit y.st stL1 = true ∨ y.phase ≠ 0 → Gives (.portL1Entry q besl) s c) ∧
    (c.coreUp = true → 1 ≤ m → m ≤ 8 → c.occPort m = false →
      (y.conn.isSome = true → Gives (.portConnectChange q false speed) s (c.portGone m)) ∧
      (Sys2Proof.Machine.bit y.st stPower = true → y.conn = none → 5 ≤ m ∨ (c.cuff (m - 1)).pair = true → Gives (.portConnectChange q true speed) s
        ((((c.setHp m { y with conn := some speed }).setSt m (setBit y.st stConn)).portChange m .connection).hubWake)) ∧
      (y.conn = none → Gives (.portConnectChange q false speed) s c) ∧
      (Sys2Proof.Machine.bit y.st stPower = false ∨ y.conn ≠ none → Gives (.portConnectChange q true speed) s c)) ∧
    (c.coreUp = true → m ≠ 0 → Sys2Proof.Machine.bit y.st stEnable = true → Gives (.portBabble q) s
      (((c.setSt m (clrBit y.st stEnable)).portChange m .enable).inc (Reg.HUB_PORT_ERR_CNT m))) ∧
    (m = 0 ∨ Sys2Proof.Machine.bit y.st stEnable = false → Gives (.portBabble q) s c)

/-- R298, R306, R309 to R317, R319, R320, R327 (14_local_hub.md), R328, R349 (15_wide_hub_tunnel.md): standard and hub requests, SOFs,
splits, suspend, resume and reset of the bus, and HUB.CTL. Numbers of USB 2.0 that the chapter cites are PRESUMED (log entry 10). -/
def Obligations.HubRequestAndBusResults : Prop :=
  ∀ (d : UsbDev) (rcp : Recipient) (index sel alt length value16 : BitVec 16) (addr : BitVec 7) (kind i8 value rt request : BitVec 8)
    (frame : BitVec 11) (hs : Bool) (besl : BitVec 4) (q : Fin 10) (ep : TtEndpoint) (n : Nat) (data : List (BitVec 8)) (o : DevReply)
    (r : Requester) (s : State),
    let c := s.chip
    let on := c.usbOn d = true
    let v := c.dev d
    let w := index.toNat
    let b := epBit w
    let stall := c.stalls d
    let acked := fun t : Chip => t.answer .ack
    let bytes := fun l : List Nat => c.answer (.data (bytesOf l))
    let up := c.upState
    let awake := c.coreUp = true ∧ 1 ≤ up ∧ up ≤ 3
    let m := q.val
    let x := c.hp m
    let takes := c.usbOn .hub = true ∧ up = 3 ∧ c.tunnelled m = false ∧ c.ttLive m = true
    -- requests of a device
    (on → Gives (.getStatus d .device index) s (bytes [1 + (if v.rwake then 2 else 0), 0])) ∧
    (on → hasEp d w = true → Gives (.getStatus d .endpoint index) s (bytes [(if Sys2Proof.Machine.bit v.halts b then 1 else 0), 0])) ∧
    (on → hasEp d w = false → Gives (.getStatus d .endpoint index) s stall) ∧
    (on → w = 0 → v.config ≠ 0 → Gives (.getStatus d .interface index) s (bytes [0, 0])) ∧
    (on → w ≠ 0 ∨ v.config = 0 → Gives (.getStatus d .interface index) s stall) ∧
    (on → Gives (.getStatus d .other index) s stall) ∧
    (on → sel.toNat = 1 → Gives (.clearFeature d .device sel index) s (acked (c.setDev d { v with rwake := false }).showRwake)) ∧
    (on → sel.toNat = 0 → hasEp d w = true → Gives (.clearFeature d .endpoint sel index) s
      (acked (c.setDev d { v with halts := clrBit v.halts b, toggles := clrBit v.toggles b }))) ∧
    (on → (rcp = .device ∧ sel.toNat ≠ 1) ∨ (rcp = .endpoint ∧ (sel.toNat ≠ 0 ∨ hasEp d w = false)) ∨ rcp = .interface ∨ rcp = .other →
      Gives (.clearFeature d rcp sel index) s stall) ∧
    (on → sel.toNat = 1 → Gives (.setFeature d .device sel index) s (acked (c.setDev d { v with rwake := true }).showRwake)) ∧
    (on → sel.toNat = 2 → d ≠ .mgmt → w % 256 = 0 → 1 ≤ w / 256 → w / 256 ≤ 5 → Gives (.setFeature d .device sel index) s
      (acked { c with hub := { c.hub with upTest := w / 256 } })) ∧
    (on → sel.toNat = 0 → hasEp d w = true → Gives (.setFeature d .endpoint sel index) s (acked (c.setDev d { v with halts := setBit v.halts b }))) ∧
    (on → (rcp = .device ∧ sel.toNat ≠ 1 ∧ sel.toNat ≠ 2) ∨ (rcp = .endpoint ∧ (sel.toNat ≠ 0 ∨ hasEp d w = false)) ∨ rcp = .interface ∨ rcp = .other →
      Gives (.setFeature d rcp sel index) s stall) ∧
    (on → d = .mgmt ∨ up = 3 → Gives (.setAddress d addr) s (acked (c.setDev d { v with addr := addr.toNat }))) ∧
    (on → d ≠ .mgmt → up ≠ 3 → Gives (.setAddress d addr) s
      ((acked (c.setDev d { v with addr := addr.toNat })).setUpState (if addr.toNat = 0 then 1 else 2))) ∧
    (on → ∀ l : List Nat, c.descriptor d kind.toNat i8.toNat = some l →
      Gives (.getDescriptor d kind i8 length) s (c.answer (.data ((bytesOf l).take length.toNat)))) ∧
    (on → c.descriptor d kind.toNat i8.toNat = none → Gives (.getDescriptor d kind i8 length) s stall) ∧
    (on → Gives (.getConfiguration d) s (bytes [v.config])) ∧
    (on → 1 < value.toNat → Gives (.setConfiguration d value) s stall) ∧
    (on → value.toNat ≤ 1 →
      let t := acked (c.setDev d { v with config := value.toNat, toggles := 0, halts := 0, alt := 0 })
      (d = .mgmt → Gives (.setConfiguration d value) s t) ∧
      (d = .wide → value.toNat = 1 → Gives (.setConfiguration d value) s (t.setUpState 3)) ∧
      (d = .wide → value.toNat = 0 → Gives (.setConfiguration d value) s (t.setUpState 2).widePortsOff) ∧
      (d = .hub → value.toNat = 1 → Gives (.setConfiguration d value) s ((t.put Reg.HUB_STAT_ALT 0).hubUpState 3)) ∧
      (d = .hub → value.toNat = 0 → Gives (.setConfiguration d value) s
        (((((t.put Reg.HUB_STAT_ALT 0).portsOff.setDev .mgmt {}).hubUpState 2).hubAuto).tellTerms))) ∧
    (on → w = 0 → v.config ≠ 0 → Gives (.getInterface d index) s (bytes [v.alt])) ∧
    (on → w ≠ 0 ∨ v.config = 0 → Gives (.getInterface d index) s stall) ∧
    (on → w = 0 → v.config ≠ 0 → alt.toNat = 0 ∨ (alt.toNat = 1 ∧ d ≠ .mgmt ∧ c.flag Reg.HUB_STAT_HS = true) →
      let t := acked (c.setDev d { v with alt := alt.toNat, toggles := 0, halts := 0 })
      Gives (.setInterface d index alt) s (if d = .hub then t.put Reg.HUB_STAT_ALT alt.toNat else t)) ∧
    (on → w ≠ 0 ∨ v.config = 0 ∨ 1 < alt.toNat ∨ (alt.toNat = 1 ∧ (d = .mgmt ∨ c.flag Reg.HUB_STAT_HS = false)) →
      Gives (.setInterface d index alt) s stall) ∧
    (on → hubListed d rt.toNat request.toNat value16.toNat = false → Gives (.hubRequestStall d rt request value16 index) s stall) ∧
    (on → hubListed d rt.toNat request.toNat value16.toNat = true → Gives (.hubRequestStall d rt request value16 index) s c) ∧
    (on → d ≠ .mgmt → Gives (.getHubStatus d) s (bytes [0, 0, 0, 0])) ∧
    (on → d ≠ .mgmt → sel.toNat ≤ 1 → Gives (.clearHubFeature d sel) s (acked c)) ∧
    (on → 1 < sel.toNat → Gives (.clearHubFeature d sel) s stall) ∧
    (on → d ≠ .mgmt → Gives (.getHubDescriptor d length) s (c.answer (.data ((bytesOf (c.hubDesc d)).take length.toNat)))) ∧
    (on → d = .mgmt → Gives (.getHubStatus d) s stall ∧ Gives (.clearHubFeature d sel) s stall ∧ Gives (.getHubDescriptor d length) s stall) ∧
    (c.usbOn d = false →
      Gives (.getStatus d rcp index) s c ∧ Gives (.clearFeature d rcp sel index) s c ∧ Gives (.setFeature d rcp sel index) s c ∧
      Gives (.setAddress d addr) s c ∧ Gives (.getDescriptor d kind i8 length) s c ∧ Gives (.getConfiguration d) s c ∧
      Gives (.setConfiguration d value) s c ∧ Gives (.getInterface d index) s c ∧ Gives (.setInterface d index alt) s c ∧
      Gives (.hubRequestStall d rt request value16 index) s c ∧ Gives (.getHubStatus d) s c ∧ Gives (.clearHubFeature d sel) s c ∧
      Gives (.getHubDescriptor d length) s c) ∧
    (c.stalls .hub = (c.inc Reg.HUB_REQ_STALL_CNT).answer .stall) ∧
    (d ≠ .hub → c.stalls d = c.answer .stall) ∧
    -- the bus
    (awake → Gives (.sofReceive frame) s (c.hubSof frame.toNat).sofHead) ∧
    (¬awake → Gives (.sofReceive frame) s c) ∧
    (c.flag Reg.HUB_SOF_LOCK = false ∨ up = 4 ∨ up = 0 → Gives .microframeTick s c) ∧
    (c.flag Reg.HUB_SOF_LOCK = true → up ≠ 4 → up ≠ 0 → c.ct.toNat < c.hub.lastSof + 187500 → Gives .microframeTick s
      (c.each [1, 2, 3, 4, 5, 6, 7, 8] (fun t k => if t.tunnelled k then t else t.ttTick k (c.get Reg.HUB_SOF_UFRAME == 0)))) ∧
    (awake → Gives .upstreamSuspend s (({ c with hub := { c.hub with upPrev := up } }).setUpState 4)) ∧
    (¬awake → Gives .upstreamSuspend s c) ∧
    (c.coreUp = true → c.hub.wakeDue = true → up = 4 →
      Gives .hubRemoteWake s { c with hub := { c.hub with waking := true, wakeDue := false } }) ∧
    (c.hub.wakeDue = false ∨ up ≠ 4 → Gives .hubRemoteWake s c) ∧
    (c.coreUp = true → up = 5 → Gives .upstreamResume s
      (({ c with hub := { c.hub with waking := false, wakeDue := false } }).setUpState c.hub.upPrev)) ∧
    (c.coreUp = true → up = 4 →
      let t := c.inc Reg.HUB_RESUME_CNT
      Gives .upstreamResume s (({ t with hub := { c.hub with waking := false, wakeDue := false } }).setUpState c.hub.upPrev)) ∧
    (up ≠ 4 → up ≠ 5 → Gives .upstreamResume s c) ∧
    (c.coreUp = true → c.hub.pair = true → c.wide.detach = false →
      (c.presenting = true → Gives (.upstreamBusReset hs) s (c.wideBusReset hs)) ∧
      (c.presenting = false → c.flag Reg.HUB_STAT_EN = true → Gives (.upstreamBusReset hs) s
        ((((((c.hubDefault).putB Reg.HUB_STAT_HS hs).put Reg.HUB_STAT_ALT 0).put Reg.HUB_STAT_RWAKE_EN 0).hubUpState 1).hubAuto).tellTerms) ∧
      (c.presenting = false → c.flag Reg.HUB_STAT_EN = false → Gives (.upstreamBusReset hs) s c)) ∧
    (c.hub.pair = false ∨ c.wide.detach = true → Gives (.upstreamBusReset hs) s c) ∧
    (awake → (if c.presenting then c.wideQuiet else c.portsQuiet) = true → c.evt.mq = [] → Gives (.lpmToken besl) s
      (acked (({ c with hub := { c.hub with upPrev := up, besl := besl.toNat } }).setUpState 5))) ∧
    (awake → (if c.presenting then c.wideQuiet else c.portsQuiet) = false ∨ c.evt.mq ≠ [] → Gives (.lpmToken besl) s (c.answer .nyet)) ∧
    (¬awake → Gives (.lpmToken besl) s c) ∧
    -- a translator
    (takes →
      let ks := c.ttPorts m
      let held := (ks.flatMap (fun k => (c.hp k).per)).countP (fun e => e.ok && e.age == 0)
      let used := ks.foldl (fun t k => t + (c.hp k).bytes) 0
      let others := (ks.flatMap (fun k => (c.hp k).bufs)).countP (fun e => e.ep != ep)
      (held < 16 → used + n ≤ 1350 → x.stopped = false →
        Gives (.periodicStartSplit q ep n) s (c.setHp m { x with per := x.per ++ [⟨ep, true, 0⟩], bytes := x.bytes + n })) ∧
      (x.stopped = true → Gives (.periodicStartSplit q ep n) s (c.setHp m { x with per := x.per ++ [⟨ep, false, 0⟩] })) ∧
      (16 ≤ held ∨ 1350 < used + n → x.stopped = false →
        Gives (.periodicStartSplit q ep n) s ((c.setHp m { x with per := x.per ++ [⟨ep, false, 0⟩] }).inc (Reg.HUB_TT_DROP_CNT m))) ∧
      (others < 2 → x.stopped = false → Gives (.nonperiodicStartSplit q ep data) s
        (acked (c.setHp m { x with bufs := (x.bufs.filter (fun e => e.ep != ep)) ++ [⟨ep, data⟩] }))) ∧
      (2 ≤ others ∨ x.stopped = true → Gives (.nonperiodicStartSplit q ep data) s (c.answer .nak)) ∧
      (∀ e : TtPer, x.per.find? (fun e => e.ep == ep) = some e → Gives (.completeSplit q ep o) s
        ((c.setHp m { x with per := x.per.erase e }).answer (if e.ok then replyOf o else .err))) ∧
      (x.per.find? (fun e => e.ep == ep) = none → x.bufs.any (fun e => e.ep == ep) = true → Gives (.completeSplit q ep o) s
        ((c.setHp m { x with bufs := x.bufs.filter (fun e => e.ep != ep) }).answer (replyOf o))) ∧
      (x.per.find? (fun e => e.ep == ep) = none → x.bufs.any (fun e => e.ep == ep) = false → Gives (.completeSplit q ep o) s (c.answer .err))) ∧
    (¬takes → Gives (.periodicStartSplit q ep n) s c ∧ Gives (.nonperiodicStartSplit q ep data) s c ∧ Gives (.completeSplit q ep o) s c) ∧
    -- the status-change endpoint and HUB.CTL
    (c.presenting = false → c.usbOn .hub = true → up = 3 → Sys2Proof.Machine.bit (c.dev .hub).halts 17 = false →
      let changes := [1, 2, 3, 4, 5, 6, 7, 8, 9].foldl (fun t k => if c.get (Reg.HUB_PORT_STAT_CHANGE k) = 0 then t else t + 2 ^ k) 0
      (changes = 0 → Gives .statusChangeIn s (c.answer .nak)) ∧
      (changes ≠ 0 → Gives .statusChangeIn s (c.answer (.data (bytesOf (le2 changes)))))) ∧
    (c.presenting = false → c.usbOn .hub = false → Gives .statusChangeIn s c) ∧
    (c.takes r Reg.HUB_CTL_ENABLE.addr = true →
      Gives (.hubEnable r) s ((((c.put Reg.HUB_STAT_EN 1).hubAuto).tellTerms).respond r Reg.HUB_CTL_ENABLE.addr .done)) ∧
    (c.takes r Reg.HUB_CTL_DISABLE.addr = true → Gives (.hubDisable r) s
      ((((((c.put Reg.HUB_STAT_EN 0).hubDefault).put Reg.HUB_STAT_RWAKE_EN 0).hubUpState 0).tellTerms).respond r Reg.HUB_CTL_DISABLE.addr .done)) ∧
    (c.takes r Reg.HUB_CTL_RWAKE.addr = true →
      (c.get Reg.HUB_STAT_UP_STATE = 4 → c.flag Reg.HUB_STAT_RWAKE_EN = true →
        Gives (.hubRwake r) s ({ c with hub := { c.hub with wakeDue := true } }.respond r Reg.HUB_CTL_RWAKE.addr .done)) ∧
      (c.get Reg.HUB_STAT_UP_STATE ≠ 4 ∨ c.flag Reg.HUB_STAT_RWAKE_EN = false →
        Gives (.hubRwake r) s (c.rejected r Reg.HUB_CTL_RWAKE.addr 9 0 0x04)))

/-- R321 to R326 (14_local_hub.md), R295 (13_flasks_and_warden.md): the management function takes a request, executes it, and answers; a third
request behind one in hand is answered NAK; events. -/
def Obligations.ManagementRequestResults : Prop :=
  ∀ (tag : BitVec 16) (addr len off : BitVec 32) (words : List (BitVec 32)) (data : List (BitVec 8)) (op : BitVec 8) (s : State),
    let c := s.chip
    let on := c.usbOn .mgmt = true
    let open_ := on ∧ Sys2Proof.Machine.bit (c.dev .mgmt).halts 1 = false
    let idle := open_ ∧ c.mgmt.run = none ∧ c.mgmt.held = []
    let t := c.answer .ack
    let f52 := c.active 52 = true
    let rd : MgmtReq := ⟨1, tag.toNat, addr.toNat, len.toNat, []⟩
    let wr : MgmtReq := ⟨2, tag.toNat, addr.toNat, 4 * words.length, words.flatMap wordBytes⟩
    let ib : MgmtReq := ⟨4, tag.toNat, len.toNat, 0, []⟩
    let id_ : MgmtReq := ⟨5, tag.toNat, off.toNat, data.length, data⟩
    let ie : MgmtReq := ⟨6, tag.toNat, 0, 0, []⟩
    let ec : MgmtReq := ⟨7, tag.toNat, 0, 0, []⟩
    let bad : MgmtReq := ⟨op.toNat, tag.toNat, 0, 1, []⟩
    let all := fun u : MgmtReq → Chip =>
      Gives (.mgmtRead tag addr len) s (u rd) ∧ Gives (.mgmtWrite tag addr words) s (u wr) ∧ Gives (.imageBegin tag len) s (u ib) ∧
      Gives (.imageData tag off data) s (u id_) ∧ Gives (.imageEnd tag) s (u ie) ∧ Gives (.echo tag) s (u ec) ∧ Gives (.badRequest op tag) s (u bad)
    let queued := fun q : MgmtReq => ({ c with mgmt := { c.mgmt with held := c.mgmt.held ++ [q] } }).answer .ack
    -- whether a request is taken
    (c.usbOn .mgmt = false → all (fun _ => c)) ∧
    (on → Sys2Proof.Machine.bit (c.dev .mgmt).halts 1 = true → all (fun _ => c.answer .stall)) ∧
    (open_ → c.mgmt.run.isSome = true → 2 ≤ c.mgmt.held.length → all (fun _ => c.answer .nak)) ∧
    (∀ q : MgmtReq, ∀ l : List (BitVec 8), open_ → c.mgmt.run = some (q, l) → c.mgmt.held.length < 2 → q.op = 6 →
      c.get Reg.SYS_BOOT_STATE = 4 → all queued) ∧
    -- what each request does when none is in hand
    (idle →
      (f52 → Gives (.echo tag) s (t.mgmtEnd ec 0 [])) ∧
      (¬f52 → Gives (.echo tag) s (t.mgmtEnd ec 2 [])) ∧
      Gives (.badRequest op tag) s (t.mgmtEnd bad 5 []) ∧
      (len.toNat % 4 = 0 → len.toNat ≤ 4096 → Gives (.mgmtRead tag addr len) s (mgmtReads rd (len.toNat / 4) addr.toNat [] t)) ∧
      (len.toNat % 4 ≠ 0 ∨ 4096 < len.toNat → Gives (.mgmtRead tag addr len) s (t.mgmtEnd rd 5 [])) ∧
      (words.length ≤ 1024 →
        let u := mgmtWrites wr words addr.toNat 0 t
        (u.1.coreUp = true → Gives (.mgmtWrite tag addr words) s
          (let v := u.1.mgmtEnd wr u.2.1 []
           { v with mgmt := { v.mgmt with doneLen := u.2.2 } })) ∧
        (u.1.coreUp = false → Gives (.mgmtWrite tag addr words) s u.1)) ∧
      (1024 < words.length → Gives (.mgmtWrite tag addr words) s (t.mgmtEnd wr 5 [])) ∧
      (f52 → c.get Reg.SYS_BOOT_STATE = 2 → len.toNat ≤ 0x100000 → Gives (.imageBegin tag len) s
        ((({ t with boot := { t.boot with load := some (len.toNat, 0, t.targetSlot) } }).put Reg.SYS_BOOT_STATE 3).mgmtEnd ib 0 [])) ∧
      (f52 → c.get Reg.SYS_BOOT_STATE ≠ 2 ∨ 0x100000 < len.toNat → Gives (.imageBegin tag len) s (t.mgmtEnd ib 1 [])) ∧
      (data.length % 4 = 0 → data.length ≤ 4096 → f52 → c.get Reg.SYS_BOOT_STATE = 3 → ∀ n k : Nat, c.boot.load = some (n, off.toNat, k) →
        off.toNat + data.length ≤ n →
        let u := t.norForeground.slotWrite k off.toNat data
        Gives (.imageData tag off data) s
          (({ u with boot := { u.boot with load := some (n, off.toNat + data.length, k) } }).mgmtEnd id_ 0 [])) ∧
      (data.length % 4 = 0 → data.length ≤ 4096 → f52 →
        c.boot.load = none ∨ c.get Reg.SYS_BOOT_STATE ≠ 3 ∨
          (∃ n p k : Nat, c.boot.load = some (n, p, k) ∧ (off.toNat ≠ p ∨ n < off.toNat + data.length)) →
        Gives (.imageData tag off data) s (t.mgmtEnd id_ 1 [])) ∧
      (data.length % 4 ≠ 0 ∨ 4096 < data.length → Gives (.imageData tag off data) s (t.mgmtEnd id_ 5 [])) ∧
      (f52 → c.get Reg.SYS_BOOT_STATE = 3 → ∀ n k : Nat, c.boot.load = some (n, n, k) →
        let u := ({ t with boot := { t.boot with load := none, verify := some (n, k), fromOut := true, holdsMbx := false } }).put Reg.SYS_BOOT_STATE 4
        Gives (.imageEnd tag) s { u with mgmt := { u.mgmt with run := some (ie, []) } }) ∧
      (f52 → c.boot.load = none ∨ c.get Reg.SYS_BOOT_STATE ≠ 3 ∨ (∃ n p k : Nat, c.boot.load = some (n, p, k) ∧ p ≠ n) →
        Gives (.imageEnd tag) s (t.mgmtEnd ie 1 [])) ∧
      (¬f52 → Gives (.imageBegin tag len) s (t.mgmtEnd ib 2 []) ∧ Gives (.imageEnd tag) s (t.mgmtEnd ie 2 []) ∧
        (data.length % 4 = 0 → data.length ≤ 4096 → Gives (.imageData tag off data) s (t.mgmtEnd id_ 2 [])))) ∧
    -- words are read and written one after another, until one is not done
    (∀ q : MgmtReq, ∀ a n : Nat, ∀ l : List (BitVec 8),
      mgmtReads q 0 a l c = c.mgmtEnd q 0 l ∧
      (c.mgmtMay a = false → mgmtReads q (n + 1) a l c = c.mgmtEnd q 2 l) ∧
      (c.mgmtMay a = true →
        let x := c.busRead .mgmt a
        let u := { x.2.2 with outcome := x.2.2.outcome.put 0 32 x.1.code }
        (x.1 = .done → u.mgetWaits a = false →
          mgmtReads q (n + 1) a l c = mgmtReads q n ((a + 4) % 2 ^ 32) (l ++ natBytes 4 x.2.1) u) ∧
        (x.1 = .done → u.mgetWaits a = true → mgmtReads q (n + 1) a l c = { u with mgmt := { u.mgmt with run := some (q, l) } }) ∧
        (x.1 ≠ .done → mgmtReads q (n + 1) a l c = u.mgmtEnd q x.1.status l))) ∧
    (∀ q : MgmtReq, ∀ a n : Nat, ∀ w : BitVec 32, ∀ l : List (BitVec 32),
      mgmtWrites q [] a n c = (c, 0, n) ∧
      (c.mgmtMay a = false → mgmtWrites q (w :: l) a n c = (c, 2, n)) ∧
      (c.mgmtMay a = true →
        let x := c.busWrite .mgmt a w.toNat
        let u := { x.2 with outcome := x.2.outcome.put 0 32 x.1.code }
        (x.1 = .done → u.coreUp = true → mgmtWrites q (w :: l) a n c = mgmtWrites q l ((a + 4) % 2 ^ 32) (n + 4) u) ∧
        (x.1 ≠ .done ∨ u.coreUp = false → mgmtWrites q (w :: l) a n c = (u, x.1.status, n)))) ∧
    -- a request ends: it is counted, and its response stands
    (∀ q : MgmtReq, ∀ l : List (BitVec 8), ∀ st : Nat,
      let u := ({ c with mgmt := { c.mgmt with run := none, resp := some ⟨q.op, st, q.tag, l⟩ } }).inc Reg.HUB_MGMT_REQ_CNT
      c.mgmtEnd q st l = if st = 0 then u else u.inc Reg.HUB_MGMT_ERR_CNT) ∧
    -- the event endpoint
    (c.usbOn .mgmt = false → Gives .eventEndpointIn s c) ∧
    (on → Sys2Proof.Machine.bit (c.dev .mgmt).halts 19 = true → Gives .eventEndpointIn s (c.answer .stall)) ∧
    (on → Sys2Proof.Machine.bit (c.dev .mgmt).halts 19 = false → c.evt.mq = [] → Gives .eventEndpointIn s (c.answer .nak)) ∧
    (on → Sys2Proof.Machine.bit (c.dev .mgmt).halts 19 = false → c.evt.mq ≠ [] → Gives .eventEndpointIn s
      (({ c with evt := { c.evt with mq := c.evt.mq.drop 4 } }).answer (.data ((c.evt.mq.take 4).flatten.flatMap (natBytes 4)))))

/-! ### The wide hub -/

/-- R328, R337 to R344, R346, R348, R349 (15_wide_hub_tunnel.md): which hub C4 shows, transactions of the host, polls, port requests, and a
served port that is no longer served. -/
def Obligations.WideHubResults : Prop :=
  ∀ (r : Requester) (w e : Fin 256) (dev : BitVec 7) (ep : BitVec 4) (pid : Bool) (data : List (BitVec 8)) (o : DevReply)
    (replies : List PollReply) (p : BitVec 8) (m : BitVec 16) (s : State),
    let c := s.chip
    let k := w.val
    let d := dev.toNat
    let n := ep.toNat
    let x := c.wp k
    let y := c.ws k
    let f51 := c.active 51 = true
    let live := c.wideLive k = true ∧ f51
    let nak := c.answer .nak
    let dropped := fun t : WTx => c.wideDrop k t
    let e_ := e.val
    let pl := c.wpoll e_
    let pollLive := c.wideLive (c.wk (Reg.WIDE_POLL_PORT e_)) = true ∧ c.wkB (Reg.WIDE_POLL_EN e_) = true
    let iso := c.wkB (Reg.WIDE_POLL_TYPE e_)
    let q := p.toNat
    let req := c.usbOn .wide = true
    let here := req ∧ c.hub.wup = 3 ∧ 2 ≤ q ∧ q ≤ c.get Reg.WIDE_CFG_NPORTS
    let st := c.get (Reg.WIDE_PORT_STAT_STATUS q)
    let ch := c.get (Reg.WIDE_PORT_STAT_CHANGE q)
    let cmd := fun (t : Chip) (sel : Nat) (set : Bool) => if t.mapped q then (t.sendCmd q (portCmd sel set 0 0)).answer .ack else t.answer .ack
    let mine := c.wk (Reg.WIDE_MAP_LPORT k)
    -- presentation
    (c.coreUp = true → c.wide.detach = false → c.presenting = true → c.wantWide = false → Gives .widePresentChange s
      (let t := (((({ c with hub := { c.hub with wup := 0 } }).setDev .wide {}).wideForget).put Reg.WIDE_STAT_PRESENTING 0)
       ({ t with wide := { t.wide with detach := true, detachAt := t.ct.toNat } }).tellTerms)) ∧
    (c.coreUp = true → c.wide.detach = false → c.presenting = false → c.wantWide = true → Gives .widePresentChange s
      (let t := c.hubDefault.hubUpState 0
       ({ t with wide := { t.wide with detach := true, detachAt := t.ct.toNat } }).tellTerms)) ∧
    (c.wide.detach = true ∨ c.presenting = c.wantWide → Gives .widePresentChange s c) ∧
    (c.coreUp = true → c.wide.detach = true →
      let t := c.timeTo (c.wide.detachAt + 10000000)
      Gives .wideAttach s ((({ t with wide := { t.wide with detach := false } }).putB Reg.WIDE_STAT_PRESENTING t.wantWide).copyMgmt)) ∧
    (c.wide.detach = false → Gives .wideAttach s c) ∧
    (c.takes r Reg.WIDE_CTL_ENABLE.addr = true →
      (2 ≤ c.get Reg.WIDE_CFG_NPORTS → f51 → Gives (.wideEnable r) s ((c.put Reg.WIDE_STAT_EN 1).respond r Reg.WIDE_CTL_ENABLE.addr .done)) ∧
      (c.get Reg.WIDE_CFG_NPORTS < 2 ∨ ¬f51 → Gives (.wideEnable r) s (c.rejected r Reg.WIDE_CTL_ENABLE.addr 10 0 0x04))) ∧
    (c.takes r Reg.WIDE_CTL_DISABLE.addr = true →
      Gives (.wideDisable r) s (((({ c with wide := c.tunnelLeave }).put Reg.WIDE_STAT_EN 0).presentChange).respond r Reg.WIDE_CTL_DISABLE.addr .done)) ∧
    -- transactions of the host: none of a port that carries no traffic, NAK while F51 is fenced
    (c.wideLive k = false → Gives (.wideHostIn w dev ep) s c ∧ Gives (.wideHostOut w dev ep pid data) s c ∧ Gives (.wideHostPing w dev ep) s c ∧
      Gives (.wideHostSetup w dev data) s c) ∧
    (c.wideLive k = true → ¬f51 → Gives (.wideHostIn w dev ep) s nak ∧ Gives (.wideHostOut w dev ep pid data) s nak ∧
      Gives (.wideHostPing w dev ep) s nak ∧ Gives (.wideHostSetup w dev data) s nak) ∧
    (live → ∀ i : Nat, c.pollOf k d n true = some i → Gives (.wideHostIn w dev ep) s (c.pollIn i)) ∧
    (live → c.pollOf k d n true = none → c.wideFind k d n true = none →
      (c.wideRoom k n = true → Gives (.wideHostIn w dev ep) s ((c.wideHold k (newTx d n 3 false [] false)).answer .nak)) ∧
      (c.wideRoom k n = false → Gives (.wideHostIn w dev ep) s (c.wideDefer.answer .nak))) ∧
    (live → c.pollOf k d n true = none → ∀ t : WTx, c.wideFind k d n true = some t →
      (t.state ≠ 2 → Gives (.wideHostIn w dev ep) s nak) ∧
      (t.state = 2 → Gives (.wideHostIn w dev ep) s (((dropped t).withPid t.rpid).answer (if t.kind = 1 then .stall else inReply t.status t.rdata)))) ∧
    (live → ∀ i : Nat, c.pollOf k d n false = some i → Gives (.wideHostOut w dev ep pid data) s (c.pollOut i pid data false)) ∧
    (live → c.wideFind k d n false = none →
      (c.pollOf k d n false = none → c.wideRoom k n = true →
        Gives (.wideHostOut w dev ep pid data) s ((c.wideHold k (newTx d n 2 pid (data.take 512) false)).answer .nak)) ∧
      (c.pollOf k d n false = none → c.wideRoom k n = false → Gives (.wideHostOut w dev ep pid data) s (c.wideDefer.answer .nak)) ∧
      Gives (.wideHostPing w dev ep) s (c.answer .ack)) ∧
    (live → ∀ t : WTx, c.wideFind k d n false = some t →
      let noPoll := c.pollOf k d n false = none
      (t.state = 2 → Gives (.wideHostPing w dev ep) s (c.answer .ack)) ∧
      (t.state ≠ 2 → Gives (.wideHostPing w dev ep) s nak) ∧
      (noPoll → t.kind = 1 → t.state = 2 → Gives (.wideHostOut w dev ep pid data) s ((dropped t).answer .stall)) ∧
      (noPoll → t.kind = 1 → t.state ≠ 2 → Gives (.wideHostOut w dev ep pid data) s nak) ∧
      (noPoll → t.kind ≠ 1 → t.pid ≠ pid ∨ t.data.length ≠ data.length →
        Gives (.wideHostOut w dev ep pid data) s ((c.inc Reg.WIDE_MISMATCH_CNT).answer .nak)) ∧
      (noPoll → t.kind ≠ 1 → t.pid = pid → t.data.length = data.length → t.state ≠ 2 → Gives (.wideHostOut w dev ep pid data) s nak) ∧
      (noPoll → t.kind ≠ 1 → t.pid = pid → t.data.length = data.length → t.state = 2 → Gives (.wideHostOut w dev ep pid data) s
        ((dropped t).answer (if t.status = 0 then .ack else if t.status = 2 then .stall else .nak)))) ∧
    (live → Gives (.wideHostSetup w dev data) s ((c.takeSetup k d data false).answer .ack)) ∧
    -- a SETUP empties the control place, and what is held for the endpoints that its request names
    (∀ split : Bool,
      let gone := fun t : WTx => t.ep = 0 ∨ (t.dev = d ∧
        (leNat (data.take 2) = 0x0900 ∨
          (leNat (data.take 2) = 0x0102 ∧ leNat ((data.drop 2).take 2) = 0 ∧ t.ep = leNat ((data.drop 4).take 2) % 16 ∧
            ((t.kind = 3) ↔ 128 ≤ leNat ((data.drop 4).take 2)))))
      ∃ l : List WTx, (∀ t : WTx, t ∈ l ↔ t ∈ x.held ∧ ¬gone t) ∧
        c.takeSetup k d data split = (c.setWp k { x with held := l }).wideHold k (newTx d 0 1 false (data.take 8) split)) ∧
    (∀ z : WideSplit, let v := z.w.val
      let a := z.dev.toNat
      let b := z.ep.toNat
      let wl := c.wideLive v = true
      (¬wl → Gives (.wideSplit z) s c) ∧
      (wl → ¬f51 → z.start = true → Gives (.wideSplit z) s nak) ∧
      (wl → ¬f51 → z.start = false → Gives (.wideSplit z) s (c.answer .err)) ∧
      (wl → f51 → z.periodic = true → c.pollOf v a b z.dirIn = none →
        (z.start = true → Gives (.wideSplit z) s ((c.inc Reg.WIDE_UNLISTED_CNT).answer .none)) ∧
        (z.start = false → Gives (.wideSplit z) s (c.answer .err))) ∧
      (wl → f51 → z.periodic = true → ∀ i : Nat, c.pollOf v a b z.dirIn = some i →
        (z.start = true → z.dirIn = true → Gives (.wideSplit z) s (c.answer .none)) ∧
        (z.start = true → z.dirIn = false → Gives (.wideSplit z) s (c.pollOut i z.pid1 z.data true)) ∧
        (z.start = false → z.dirIn = true → Gives (.wideSplit z) s (c.pollIn i)) ∧
        (z.start = false → z.dirIn = false → Gives (.wideSplit z) s (c.answer (c.wpoll i).hand))) ∧
      (wl → f51 → z.periodic = false → z.start = true → z.setup = true → Gives (.wideSplit z) s
        ((c.takeSetup v a z.data true).answer .ack)) ∧
      (wl → f51 → z.periodic = false → z.start = true → z.setup = false →
        (c.wideRoom v b = true →
          Gives (.wideSplit z) s ((c.wideHold v (newTx a b (if z.dirIn then 3 else 2) z.pid1 (z.data.take 512) true)).answer .ack)) ∧
        (c.wideRoom v b = false → Gives (.wideSplit z) s (c.wideDefer.answer .nak))) ∧
      (wl → f51 → z.periodic = false → z.start = false → c.wideFind v a b z.dirIn = none → Gives (.wideSplit z) s (c.answer .err)) ∧
      (wl → f51 → z.periodic = false → z.start = false → ∀ t : WTx, c.wideFind v a b z.dirIn = some t →
        (t.state ≠ 2 → Gives (.wideSplit z) s (c.answer .nyet)) ∧
        (t.state = 2 → t.kind = 3 → Gives (.wideSplit z) s (((c.wideDrop v t).withPid t.rpid).answer (inReply t.status t.rdata))) ∧
        (t.state = 2 → t.kind ≠ 3 → Gives (.wideSplit z) s (((c.wideDrop v t).withPid t.rpid).answer
          (if t.status = 0 then .ack else if t.status = 1 then .nak else if t.status = 2 then .stall else .err))))) ∧
    -- poll results and poll data meet the host (R342)
    (pollLive → f51 → c.wkB (Reg.WIDE_POLL_DIR e_) = true →
      (pl.shown = none → Gives (.pollResultIn e) s ((c.withPid false).answer (if iso then .data [] else .nak))) ∧
      (∀ z : PollRes, pl.shown = some z →
        let u := c.setWpoll e_ { pl with shown := none }
        (z.status = 0 → Gives (.pollResultIn e) s ((u.withPid z.pid).answer (.data z.data))) ∧
        (z.status = 2 → iso = false → Gives (.pollResultIn e) s ((u.withPid false).answer .stall)))) ∧
    (pollLive → f51 → c.wkB (Reg.WIDE_POLL_DIR e_) = false →
      let data_ := some (pid, data.take 512)
      (pl.stall = true → Gives (.pollOutData e pid data) s ((c.setWpoll e_ { pl with stall := false, hand := .stall }).answer .stall)) ∧
      (pl.stall = false → iso = true →
        Gives (.pollOutData e pid data) s ((c.setWpoll e_ { pl with out := data_, hand := .none }).answer .none)) ∧
      (pl.stall = false → iso = false → pl.out.isSome = true →
        Gives (.pollOutData e pid data) s ((c.setWpoll e_ { pl with hand := .nak }).answer .nak)) ∧
      (pl.stall = false → iso = false → pl.out = none →
        Gives (.pollOutData e pid data) s ((c.setWpoll e_ { pl with out := data_, hand := .ack }).answer .ack))) ∧
    (pollLive → ¬f51 → (c.wkB (Reg.WIDE_POLL_DIR e_) = true → Gives (.pollResultIn e) s nak) ∧
      (c.wkB (Reg.WIDE_POLL_DIR e_) = false → Gives (.pollOutData e pid data) s nak)) ∧
    (¬pollLive → Gives (.pollResultIn e) s c ∧ Gives (.pollOutData e pid data) s c) ∧
    -- port requests (R344)
    (¬req → ∀ z : HubPortReq, Gives (.widePortRequest p z) s c) ∧
    (req → c.hub.wup ≠ 3 ∨ q = 0 ∨ c.get Reg.WIDE_CFG_NPORTS < q → ∀ z : HubPortReq, Gives (.widePortRequest p z) s (c.answer .stall)) ∧
    (req → c.hub.wup = 3 → q = 1 → 1 ≤ c.get Reg.WIDE_CFG_NPORTS → ∀ z : HubPortReq, Gives (.widePortRequest p z) s (c.mgmtPortReq z)) ∧
    (here →
      Gives (.widePortRequest p .setPower) s (cmd c 8 true) ∧ Gives (.widePortRequest p .clearPower) s (cmd c 8 false) ∧
      Gives (.widePortRequest p .setSuspend) s (cmd c 2 true) ∧ Gives (.widePortRequest p .clearSuspend) s (cmd c 2 false) ∧
      Gives (.widePortRequest p .resetTt) s (cmd c 0x49 false) ∧
      Gives (.widePortRequest p .getStatus) s (c.answer (.data (bytesOf (le2 st ++ le2 ch)))) ∧
      (c.ownEntry q = false → Sys2Proof.Machine.bit st stConn = true → Gives (.widePortRequest p .setReset) s
        (let t := c.put (Reg.WIDE_PORT_STAT_STATUS q) (clrBit (setBit st stReset) stEnable)
         cmd ((t.setWp q { t.wp q with held := [], resetting := if t.mapped q then 1 else 0 }).wideCount) 4 true)) ∧
      (c.ownEntry q = false →
        Gives (.widePortRequest p .clearEnable) s (cmd (c.put (Reg.WIDE_PORT_STAT_STATUS q) (clrBit st stEnable)) 1 false)) ∧
      (∀ z : PortChange, Gives (.widePortRequest p (.clearChange z)) s
        (let t := if z = .connection then c.setWp q { c.wp q with lost := false } else c
         cmd (t.put (Reg.WIDE_PORT_STAT_CHANGE q) (clrBit ch (changeBit z))) (changeSel z) false)) ∧
      (∀ z : TtEndpoint, c.mapped q = true → Gives (.widePortRequest p (.clearTt z)) s
        ((c.sendCmd q (portCmd 0x48 false z.dev.toNat (z.ep.toNat + (if z.dirIn then 128 else 0)))).answer .ack)) ∧
      Gives (.widePortRequest p .setTest) s (c.answer .stall) ∧ Gives (.widePortRequest p .clearL1) s (c.answer .stall) ∧
      Gives (.widePortRequest p .getTt) s (c.answer .stall) ∧ Gives (.widePortRequest p .stopTt) s (c.answer .stall)) ∧
    (req → m.toNat < 256 → c.mapped m.toNat = true → Gives (.getPortMap m) s
      (c.answer (.data (bytesOf (le2 (c.wk (Reg.WIDE_MAP_STATION m.toNat)) ++ [c.wk (Reg.WIDE_MAP_RING m.toNat), c.wk (Reg.WIDE_MAP_LPORT m.toNat), 2, 0]
        ++ le2 (c.wk (Reg.WIDE_MAP_PER_BUDGET m.toNat))))))) ∧
    (req → 256 ≤ m.toNat ∨ c.mapped m.toNat = false → Gives (.getPortMap m) s (c.answer (.data (List.replicate 8 0)))) ∧
    (¬req → Gives (.getPortMap m) s c) ∧
    -- the node that serves a port (R337, R341, R346)
    (c.coreUp = true → c.servedLive k = true → c.ownEntry k = false → ∀ z : WRec, ∀ l : List WRec, y.todo = z :: l →
      Gives (.downRecordExecute w o) s
        ((c.setWs k { y with todo := l }).stage k ⟨0x81, z.b1, z.dev, b2n (replyParts o).2.1 + z.b3 / 2 % 4 * 2, (replyParts o).1, (replyParts o).2.2⟩)) ∧
    (c.servedLive k = false → Gives (.downRecordExecute w o) s c) ∧
    (c.ownEntry k = false → y.todo = [] → Gives (.downRecordExecute w o) s c) ∧
    (c.coreUp = true → c.wide.polled ≠ c.get Reg.CLK_CYC_NUM + 1 → Gives (.pollRun replies) s
      (Chip.each { c with wide := { c.wide with polled := c.get Reg.CLK_CYC_NUM + 1 } } (List.range 256) (fun t i =>
        if t.pollDue i (c.get Reg.CLK_CYC_NUM) && t.servedLive (t.wk (Reg.WIDE_POLL_PORT i)) then
          t.poll1 i (match replies.find? (fun z => z.entry.val == i) with | some z => z.reply | none => .err)
        else t))) ∧
    (c.wide.polled = c.get Reg.CLK_CYC_NUM + 1 → Gives (.pollRun replies) s c) ∧
    (c.coreUp = true → c.serves k = true → c.ownEntry k = false → y.orphan = false → 16 ≤ sub32 (c.get Reg.CLK_CYC_NUM + 1) y.last →
      Gives (.widePortOrphan w) s
        (let t := c.setWs k { y with orphan := true, todo := [], fresh := [], batch := [], polls := [], outs := [], event := false }
         (t.setSt mine (clrBit (t.hp mine).st stEnable)).inc Reg.WIDE_ORPHAN_CNT)) ∧
    (c.serves k = false ∨ c.ownEntry k = true ∨ y.orphan = true ∨ sub32 (c.get Reg.CLK_CYC_NUM + 1) y.last < 16 → Gives (.widePortOrphan w) s c) ∧
    (c.coreUp = true → c.flag Reg.WIDE_STAT_OVL = true → c.wide.lastDefer + c.period ≤ c.ct.toNat + 1 →
      Gives .wideOvlEnd s (c.put Reg.WIDE_STAT_OVL 0)) ∧
    (c.flag Reg.WIDE_STAT_OVL = false ∨ c.ct.toNat + 1 < c.wide.lastDefer + c.period → Gives .wideOvlEnd s c)

/-! ### The Cuffs -/

/-- R206 (09_sprue_engines.md), R355, R356, R358 to R362, R365, R366, R368, R374 to R376 (16_cuffs_type_c_pd.md): the writes of a Cuff's ports
by the engine that claims them, CMD among them. -/
def Obligations.CuffPortCommandResults : Prop :=
  ∀ (e : Fin 32) (k : Fin 5) (v : BitVec 32) (s : State),
    let c := s.chip
    let n := k.val
    let x := c.cuff n
    let w := v.toNat
    let rows : List (Instr × Nat) :=
      [(.rxStatWrite e k v, 0x18), (.txGo e k v, 0x28), (.cuffHardReset e k, 0x30), (.cuffCableReset e k, 0x30), (.cuffSrcOn e k, 0x30),
        (.cuffSrcOff e k, 0x30), (.cuffVconnOn e k, 0x30), (.cuffVconnOff e k, 0x30), (.cuffRoleRp e k, 0x30), (.cuffRoleRd e k, 0x30),
        (.cuffDataDfp e k, 0x30), (.cuffDataUfp e k, 0x30), (.cuffSwapBegin e k, 0x30), (.cuffSwapEnd e k, 0x30), (.cuffAmsEnd e k, 0x30),
        (.cuffAltOn e k, 0x30), (.cuffAltOff e k, 0x30), (.cuffFrsArm e k, 0x30), (.cuffFrsDisarm e k, 0x30), (.cuffErrorRecovery e k, 0x30),
        (.vsetWrite e k v, 0x31), (.contractWrite e k v, 0x32), (.kick e k, 0x33), (.rpWrite e k v, 0x34)]
    let up := c.coreUp = true ∧ c.engState e.val = 1
    let reached := fun off : Nat => up ∧ c.claim e.val (0x2000 + 0x100 * n + off) = 2 ∧ c.occCuff n = false
    let firm := c.firmware n = true ∧ c.flag (Reg.CUFF_STAT_EN n) = true ∧ c.active (32 + n) = true
    let done := fun (i : Instr) (off : Nat) (t : Chip) => Gives i s (t.respond (.engine e) (0x2000 + 0x100 * n + off) .done)
    let turned := fun (i : Instr) (off : Nat) =>
      Gives i s ((c.drew.reject e.val 11 n (c.free % 65536)).respond (.engine e) (0x2000 + 0x100 * n + off) .reject)
    let cmd := reached 0x30 ∧ firm
    let calm := cmd ∧ c.hrBusy n = false
    let win := c.lvB (Reg.CUFF_STAT_SWAP n) = true
    let att := c.attached n = true
    let txn := bits w 4 0
    let ams := Sys2Proof.Machine.bit w 8 = true ∧ Sys2Proof.Machine.bit w 7 = false
    -- a Soft_Reset starts the MessageIDs of its SOP type anew (PRESUMED, log entry 11)
    let k_ := bits w 6 5
    let soft := x.txData.get 0 0 % 32 = 13 ∧ bits (x.txData.get 0 0) 15 12 = 0
    let x1 : Cuff := if soft then { x with txId := x.txId.put 0 k_ 0, rxId := x.rxId.put 0 k_ 0 } else x
    let sent := { x1 with txGo := w % 512, txRes := 1, txWait := false, retries := if Sys2Proof.Machine.bit w 7 then 3 else 2 }
    -- every row: no command of an engine that does not run, trap 3 without the claim, BUSY_TEST, rejected outside firmware policy
    (∀ i ∈ rows, ¬up → Gives i.1 s c) ∧
    (∀ i ∈ rows, up → c.claim e.val (0x2000 + 0x100 * n + i.2) ≠ 2 → Gives i.1 s (c.trap e.val 3 (some (0x2000 + 0x100 * n + i.2)))) ∧
    (∀ i ∈ rows, up → c.claim e.val (0x2000 + 0x100 * n + i.2) = 2 → c.occCuff n = true →
      Gives i.1 s (c.respond (.engine e) (0x2000 + 0x100 * n + i.2) .busy)) ∧
    (∀ i ∈ rows, reached i.2 → ¬firm → turned i.1 i.2) ∧
    -- reception and transmission
    (reached 0x18 → firm → done (.rxStatWrite e k v) 0x18 (c.setCuff n { x with rx := x.rx.drop 1 })) ∧
    (reached 0x28 → firm → x.txRes ≠ 1 → 2 ≤ txn → txn ≤ 30 → bits w 6 5 ≠ 3 →
      (ams → x.rp = true → done (.txGo e k v) 0x28 ((c.setCuff n { sent with txWait := true, txAt := c.fNow, ams := true, adv := 1 }).fuseSettle)) ∧
      (ams → x.rp = false → partnerRp x ≠ 3 → done (.txGo e k v) 0x28 (c.setCuff n { sent with txRes := 6 })) ∧
      (¬ams ∨ (x.rp = false ∧ partnerRp x = 3) → done (.txGo e k v) 0x28 (c.setCuff n sent))) ∧
    (reached 0x28 → firm → x.txRes = 1 ∨ txn < 2 ∨ 30 < txn ∨ bits w 6 5 = 3 → turned (.txGo e k v) 0x28) ∧
    -- VSET, CONTRACT, KICK, RP
    (reached 0x31 → firm → w = 0 ∨ (165 ≤ w ∧ w ≤ 1050) → c.sourcing n = true → done (.vsetWrite e k v) 0x31
      ((c.setCuff n { x with target := w, ramping := c.lv (Reg.CUFF_VBUS_CODE n) != w }).vbusShow n)) ∧
    (reached 0x31 → firm → (w ≠ 0 ∧ (w < 165 ∨ 1050 < w)) ∨ c.sourcing n = false → turned (.vsetWrite e k v) 0x31) ∧
    (reached 0x32 → firm → Sys2Proof.Machine.bit w 23 = false → done (.contractWrite e k v) 0x32
      (((c.setLv (Reg.CUFF_STAT_CONTRACT n) 0).setLv (Reg.CUFF_CONTRACT n) 0).fuseSettle)) ∧
    (reached 0x32 → firm → Sys2Proof.Machine.bit w 23 = true →
      let code := bits w 10 0
      let src := Sys2Proof.Machine.bit w 22 = true
      let pps := Sys2Proof.Machine.bit w 21 = true
      let cable := src → 300 < bits w 20 11 → c.lvB (Reg.CUFF_STAT_CABLE_5A n) = true
      let volts := (¬pps → code = 250 ∨ code = 450 ∨ code = 750 ∨ code = 1000) ∧ (pps → 165 ≤ code ∧ code ≤ 1050 ∧ src)
      (cable → volts → done (.contractWrite e k v) 0x32
        (((c.setLv (Reg.CUFF_CONTRACT n) (w % 2 ^ 24)).setLv (Reg.CUFF_STAT_CONTRACT n) 1).fuseSettle)) ∧
      (¬cable ∨ ¬volts → turned (.contractWrite e k v) 0x32)) ∧
    (reached 0x33 → firm → c.wdogLate n = false → done (.kick e k) 0x33 (c.setCuff n { x with kick := c.fNow })) ∧
    (reached 0x33 → firm → c.wdogLate n = true → done (.kick e k) 0x33 (c.fault (32 + n) 6 0 0)) ∧
    (reached 0x34 → firm → w < 3 → done (.rpWrite e k v) 0x34 ((c.setCuff n { x with adv := w }).fuseSettle)) ∧
    (reached 0x34 → firm → 3 ≤ w → turned (.rpWrite e k v) 0x34) ∧
    -- CMD (Table CUFF-5)
    (∀ i ∈ rows, i.2 = 0x30 → i.1 ≠ .cuffAltOff e k → i.1 ≠ .cuffErrorRecovery e k → cmd → c.hrBusy n = true → turned i.1 0x30) ∧
    (calm → att → done (.cuffHardReset e k) 0x30 ((c.inc (Reg.CUFF_HR_TX_CNT n)).hrStart n)) ∧
    (calm → c.lvB (Reg.CUFF_STAT_DATA n) = true → c.lvB (Reg.CUFF_STAT_VCONN n) = true → done (.cuffCableReset e k) 0x30 c) ∧
    (calm → c.lvB (Reg.CUFF_STAT_DATA n) = false ∨ c.lvB (Reg.CUFF_STAT_VCONN n) = false → turned (.cuffCableReset e k) 0x30) ∧
    (calm → x.rp = true → c.tc n = 7 ∨ win → c.portPow n = true → c.lv (Reg.CUFF_VBUS_CODE n) ≠ 0 → c.vbusLive n = false →
      done (.cuffSrcOn e k) 0x30 ((c.setCuff n { x with srcOn := true }).fuseSettle)) ∧
    (calm → x.rp = false ∨ (c.tc n ≠ 7 ∧ ¬win) ∨ c.portPow n = false ∨ c.lv (Reg.CUFF_VBUS_CODE n) = 0 ∨ c.vbusLive n = true →
      turned (.cuffSrcOn e k) 0x30) ∧
    (calm → done (.cuffSrcOff e k) 0x30 (c.srcOff n)) ∧
    (calm → att → x.vconnFault = 0 ∨ x.vconnFault + 1000000000 ≤ c.fNow + 1 →
      done (.cuffVconnOn e k) 0x30 (c.setLv (Reg.CUFF_STAT_VCONN n) 1)) ∧
    (calm → ¬att ∨ (x.vconnFault ≠ 0 ∧ c.fNow + 1 < x.vconnFault + 1000000000) → turned (.cuffVconnOn e k) 0x30) ∧
    (calm → done (.cuffVconnOff e k) 0x30 (c.setLv (Reg.CUFF_STAT_VCONN n) 0)) ∧
    (calm → win → c.fuseClosed n = false → done (.cuffRoleRp e k) 0x30 (c.setCuff n { x with rp := true })) ∧
    (calm → win → c.fuseClosed n = false → c.vbusLive n = false ∨ x.frsFired = true →
      done (.cuffRoleRd e k) 0x30 (c.setCuff n { x with rp := false })) ∧
    (calm → ¬win ∨ c.fuseClosed n = true → turned (.cuffRoleRp e k) 0x30 ∧ turned (.cuffRoleRd e k) 0x30) ∧
    (calm → att → done (.cuffDataDfp e k) 0x30 ((c.setLv (Reg.CUFF_STAT_DATA n) 1).cuffPair n) ∧
      done (.cuffDataUfp e k) 0x30 ((c.setLv (Reg.CUFF_STAT_DATA n) 0).cuffPair n)) ∧
    (calm → att → ¬win → done (.cuffSwapBegin e k) 0x30
      ((c.setLv (Reg.CUFF_STAT_SWAP n) 1).setCuff n { x with swapAt := c.fNow })) ∧
    (calm → ¬att → turned (.cuffHardReset e k) 0x30 ∧ turned (.cuffDataDfp e k) 0x30 ∧ turned (.cuffDataUfp e k) 0x30 ∧
      turned (.cuffSwapBegin e k) 0x30) ∧
    (calm → win → turned (.cuffSwapBegin e k) 0x30) ∧
    (calm → win → done (.cuffSwapEnd e k) 0x30
      (let t := (c.setLv (Reg.CUFF_STAT_SWAP n) 0).setCuff n { x with frsFired := false }
       ((t.setLv (Reg.CUFF_STAT_TC_STATE n) (if x.rp then 7 else 4)).setLvB (Reg.CUFF_STAT_PWR n) x.rp).cuffPair n)) ∧
    (calm → ¬win → turned (.cuffSwapEnd e k) 0x30) ∧
    (calm → x.rp = true → done (.cuffAmsEnd e k) 0x30 ((c.setCuff n { x with adv := 2, ams := false }).fuseSettle)) ∧
    (calm → x.rp = false → turned (.cuffAmsEnd e k) 0x30) ∧
    (∀ p : Nat, calm → altPort n = some p → c.flag (Reg.LINK_PHY_MEDIA p) = true → c.lvB (Reg.CUFF_STAT_CONTRACT n) = true →
      c.lvB (Reg.CUFF_STAT_ALT n) = false → done (.cuffAltOn e k) 0x30 ((c.setLv (Reg.CUFF_STAT_ALT n) 1).put (Reg.LINK_STAT_ALT p) 1)) ∧
    (calm → altPort n = none ∨ c.lvB (Reg.CUFF_STAT_CONTRACT n) = false ∨ c.lvB (Reg.CUFF_STAT_ALT n) = true → turned (.cuffAltOn e k) 0x30) ∧
    (cmd → done (.cuffAltOff e k) 0x30 (c.altOff n)) ∧
    (calm → c.tc n = 7 → c.lvB (Reg.CUFF_STAT_CONTRACT n) = true → Sys2Proof.Machine.bit (c.lv (Reg.CUFF_CONTRACT n)) 22 = true → ¬win →
      done (.cuffFrsArm e k) 0x30 (c.setLv (Reg.CUFF_STAT_FRS_ARMED n) 1)) ∧
    (calm → c.tc n ≠ 7 ∨ c.lvB (Reg.CUFF_STAT_CONTRACT n) = false ∨ Sys2Proof.Machine.bit (c.lv (Reg.CUFF_CONTRACT n)) 22 = false ∨ win →
      turned (.cuffFrsArm e k) 0x30) ∧
    (calm → done (.cuffFrsDisarm e k) 0x30 (c.setLv (Reg.CUFF_STAT_FRS_ARMED n) 0)) ∧
    (cmd → done (.cuffErrorRecovery e k) 0x30 (c.tcEnter n 1))

/-- R352 to R356, R358 to R360, R363, R365, R366, R370, R372 to R374, R377 (16_cuffs_type_c_pd.md): what happens at a Cuff: attach moves,
messages, Hard Reset, ramps, swaps, policy and faults. Attach moves of Type-C itself are PRESUMED (log entry 11). -/
def Obligations.CuffEventResults : Prop :=
  ∀ (k : Fin 5) (a b : CcPin) (m : PdMessage) (mA : Nat) (code : BitVec 4) (r : Requester) (s : State),
    let c := s.chip
    let n := k.val
    let x := c.cuff n
    let up := c.fieldUp = true
    let tc := c.tc n
    let win := c.lvB (Reg.CUFF_STAT_SWAP n)
    let y := { x with cc1 := a, cc2 := b }
    let t := c.setCuff n y
    -- the pins as the attach machine sees them: open while instrument fault 2 holds them open
    let snk := seesSink x.pins = true
    let src := seesSource x.pins = true
    let frozen := win = true
    let mode := c.tcMode n
    let tri := c.fwk (Reg.CUFF_TC_CFG_TRY n)
    let sending := x.txRes = 1 ∧ x.txWait = false
    let v := c.lv (Reg.CUFF_VBUS_CODE n)
    let con := c.lv (Reg.CUFF_CONTRACT n)
    let limit := 10 * bits con 20 11
    let id_ := (pdHeader m.bytes).2.2
    -- a Soft_Reset resets the MessageIDs of its SOP type first (PRESUMED, log entry 11)
    let x1 : Cuff := if isSoftReset m.bytes = true then { x with txId := x.txId.put 0 m.sop.val 0, rxId := x.rxId.put 0 m.sop.val 0 } else x
    let kept := c.setCuff n { x1 with
      rx := x1.rx ++ [(m.sop.val, m.bytes.take 30)], rxId := x1.rxId.put 0 m.sop.val (id_ + 1) }
    let hears := up ∧ c.lvB (Reg.CUFF_STAT_RX_ON n) = true ∧ c.attached n = true
    let wdog := c.fwk (Reg.CUFF_POL_WDOG_MS n)
    let faulted := fun u : Chip => (u.put (Reg.CUFF_FAULT_LAST n) code.toNat).fault (32 + n) 5 code.toNat 0
    -- the pins
    (up → tc ≠ 2 → tc ≠ 5 → tc ≠ 6 → Gives (.ccChange k a b) s t) ∧
    (up → win = true → Gives (.ccChange k a b) s t) ∧
    (up → win = false →
      (tc = 2 → seesSource y.pins = true → Gives (.ccChange k a b) s (t.tcEnter n 3)) ∧
      (tc = 2 → seesSource y.pins = false → Gives (.ccChange k a b) s t) ∧
      (tc = 5 → seesSink y.pins = true → Gives (.ccChange k a b) s (t.tcEnter n 6)) ∧
      (tc = 5 → seesSink y.pins = false → Gives (.ccChange k a b) s t) ∧
      (tc = 6 → seesSink y.pins = true → Gives (.ccChange k a b) s t) ∧
      (tc = 6 → seesSink y.pins = false → Gives (.ccChange k a b) s (t.tcEnter n (if mode = 2 then 2 else 5)))) ∧
    -- the timers of Table CUFF-3
    (up → tc = 1 → Gives (.tcTimerExpire k .errorRecovery) s (c.tcEnter n (c.tcFresh n))) ∧
    (up → tc = 3 →
      (src → mode = 2 → tri = 1 → Gives (.tcTimerExpire k .ccDebounce) s (c.tcEnter n 8)) ∧
      (src → mode ≠ 2 ∨ tri ≠ 1 → Gives (.tcTimerExpire k .ccDebounce) s (c.tcAttach n false)) ∧
      (¬src → Gives (.tcTimerExpire k .ccDebounce) s c) ∧
      (¬src → Gives (.tcTimerExpire k .pdDebounce) s (c.tcEnter n (if mode = 2 then 5 else 2))) ∧
      (src → Gives (.tcTimerExpire k .pdDebounce) s c)) ∧
    (up → tc = 4 → (src ∨ frozen → Gives (.tcTimerExpire k .pdDebounce) s c) ∧
      (¬src → ¬frozen → Gives (.tcTimerExpire k .pdDebounce) s (c.tcEnter n 2))) ∧
    (up → tc = 6 →
      (snk → mode = 2 → tri = 2 → Gives (.tcTimerExpire k .ccDebounce) s (c.tcEnter n 10)) ∧
      (snk → mode ≠ 2 ∨ tri ≠ 2 → Gives (.tcTimerExpire k .ccDebounce) s (c.tcAttach n true)) ∧
      (¬snk → Gives (.tcTimerExpire k .ccDebounce) s c)) ∧
    (up → tc = 7 → (snk ∨ frozen → Gives (.tcTimerExpire k .pdDebounce) s c) ∧
      (¬snk → ¬frozen → Gives (.tcTimerExpire k .pdDebounce) s (c.tcEnter n (c.tcUnattached n)))) ∧
    (up → tc = 8 → (snk → Gives (.tcTimerExpire k .tryCcDebounce) s (c.tcAttach n true)) ∧
      (¬snk → Gives (.tcTimerExpire k .drpTry) s (c.tcEnter n 9)) ∧ Gives (.tcTimerExpire k .tryTimeout) s (c.tcEnter n 9)) ∧
    (up → tc = 9 → (src → Gives (.tcTimerExpire k .ccDebounce) s (c.tcAttach n false)) ∧
      (¬src → Gives (.tcTimerExpire k .pdDebounce) s (c.tcEnter n 2))) ∧
    (up → tc = 10 → (src → Gives (.tcTimerExpire k .tryCcDebounce) s (c.tcAttach n false)) ∧
      (¬src → Gives (.tcTimerExpire k .drpTry) s (c.tcEnter n 11))) ∧
    (up → tc = 11 → (snk → Gives (.tcTimerExpire k .tryCcDebounce) s (c.tcAttach n true)) ∧
      (¬snk → Gives (.tcTimerExpire k .drpTry) s (c.tcEnter n 2))) ∧
    (∀ z : TcTimer, tc = 0 ∨ tc = 2 ∨ tc = 5 → Gives (.tcTimerExpire k z) s c) ∧
    (up → mode = 2 → tc = 2 → Gives (.drpToggle k) s (c.tcEnter n 5)) ∧
    (up → mode = 2 → tc = 5 → Gives (.drpToggle k) s (c.tcEnter n 2)) ∧
    (mode ≠ 2 ∨ (tc ≠ 2 ∧ tc ≠ 5) → Gives (.drpToggle k) s c) ∧
    (up → tc = 4 → win = false → x.hr ≠ 3 → Gives (.vbusRemoval k) s (c.tcEnter n 2)) ∧
    (tc ≠ 4 ∨ win = true ∨ (x.hr = 3 ∧ c.hrBusy n = true) → Gives (.vbusRemoval k) s c) ∧
    -- messages (R355, R356)
    (¬hears → Gives (.pdMessageReceive k m) s c) ∧
    (hears → x.txRes ≠ 1 ∨ x.txWait = false → x.rx.length < 4 → x1.rxId.get 0 m.sop.val ≠ id_ + 1 →
      (cable5A m.sop.val m.bytes = false → Gives (.pdMessageReceive k m) s kept) ∧
      (cable5A m.sop.val m.bytes = true → Gives (.pdMessageReceive k m) s (kept.setLv (Reg.CUFF_STAT_CABLE_5A n) 1))) ∧
    (hears → x.txRes ≠ 1 ∨ x.txWait = false → x.rx.length < 4 → x1.rxId.get 0 m.sop.val = id_ + 1 → Gives (.pdMessageReceive k m) s c) ∧
    (hears → x.txRes ≠ 1 ∨ x.txWait = false → 4 ≤ x.rx.length → Gives (.pdMessageReceive k m) s (c.inc (Reg.CUFF_RX_FULL_CNT n))) ∧
    (up → x.txRes = 1 → x.txWait = true → 
      (let u := c.fieldTimeTo (x.txAt + 18000000)
       Gives (.sinkTxWaitEnd k) s (u.setCuff n { u.cuff n with txWait := false }))) ∧
    (x.txRes ≠ 1 ∨ x.txWait = false → Gives (.sinkTxWaitEnd k) s c) ∧
    (up → sending → 0 < x.retries → Gives (.crcReceiveTimeout k) s (c.setCuff n { x with retries := x.retries - 1 })) ∧
    (up → sending → x.retries = 0 →
      Gives (.crcReceiveTimeout k) s ((c.setCuff n { nextTxId x with txRes := 3 }).inc (Reg.CUFF_TX_FAIL_CNT n))) ∧
    (up → sending → Gives (.txComplete k) s (c.setCuff n { nextTxId x with txRes := 2 })) ∧
    (¬sending → Gives (.crcReceiveTimeout k) s c ∧ Gives (.txComplete k) s c) ∧
    -- Hard Reset (R358, R359)
    (up → c.attached n = true →
      (c.lvB (Reg.CUFF_STAT_RX_ON n) = false → Gives (.hardResetReceive k) s ((c.inc (Reg.CUFF_HR_RX_CNT n)).hrStart n)) ∧
      -- a free value says whether a message was being received
      (c.lvB (Reg.CUFF_STAT_RX_ON n) = true → Gives (.hardResetReceive k) s
        ((((if c.free % 2 = 1 then c.inc (Reg.CUFF_RX_ABORT_CNT n) else c).drew).inc (Reg.CUFF_HR_RX_CNT n)).hrStart n))) ∧
    (c.attached n = false → Gives (.hardResetReceive k) s c) ∧
    (up → x.hr = 1 →
      let u := (((c.fieldTimeTo (x.hrAt + 30000000)).srcOff n).setLv (Reg.CUFF_STAT_VCONN n) 0).setLv (Reg.CUFF_STAT_DATA n) 1
      Gives (.psHardResetExpire k) s ((u.setCuff n { u.cuff n with hr := 2 }).cuffPair n)) ∧
    (x.hr ≠ 1 → Gives (.psHardResetExpire k) s c) ∧
    (up → x.hr = 2 →
      let u := ((c.fieldTimeTo (x.hrAt + 830000000)).hrEnd n).vconnAuto n
      (u.policyShown n = 1 →
        Gives (.srcRecoverExpire k) s (((u.setCuff n { u.cuff n with srcOn := true }).vset n 250).fuseSettle)) ∧
      (u.policyShown n ≠ 1 → Gives (.srcRecoverExpire k) s (u.safeSource n))) ∧
    (x.hr ≠ 2 → Gives (.srcRecoverExpire k) s c) ∧
    (up → x.hr = 3 → Gives (.sinkHardResetExpire k) s (((c.fieldTimeTo (x.hrAt + 1700000000)).hrEnd n).tcEnter n 2)) ∧
    (x.hr ≠ 3 → Gives (.sinkHardResetExpire k) s c) ∧
    -- ramps (R360, R363)
    (up → x.ramping = true → v < x.target →
      Gives (.vsetRampStep k) s (((c.setLv (Reg.CUFF_VBUS_CODE n) (v + 1)).setCuff n { x with ramping := v + 1 != x.target }).vbusShow n)) ∧
    (up → x.ramping = true → x.target < v →
      Gives (.vsetRampStep k) s (((c.setLv (Reg.CUFF_VBUS_CODE n) (v - 1)).setCuff n { x with ramping := v - 1 != x.target }).vbusShow n)) ∧
    (x.ramping = false → Gives (.vsetRampStep k) s c) ∧
    (up → c.lvB (Reg.CUFF_STAT_CONTRACT n) = true → Sys2Proof.Machine.bit con 21 = true → c.fuseClosed n = true →
      (limit ≤ mA → Gives (.ppsLimitStep k mA) s (c.setLv (Reg.CUFF_VBUS_CODE n) (if 165 < v then v - 1 else v))) ∧
      (mA < limit → 100 * mA ≤ 95 * limit → v < x.target → Gives (.ppsLimitStep k mA) s (c.setLv (Reg.CUFF_VBUS_CODE n) (v + 1))) ∧
      (mA < limit → 95 * limit < 100 * mA ∨ x.target ≤ v → Gives (.ppsLimitStep k mA) s c)) ∧
    (c.lvB (Reg.CUFF_STAT_CONTRACT n) = false ∨ Sys2Proof.Machine.bit con 21 = false ∨ c.fuseClosed n = false →
      Gives (.ppsLimitStep k mA) s c) ∧
    -- swaps (R365, R366)
    (up → win = true →
      let u := (c.fieldTimeTo (x.swapAt + 1000000000)).setLv (Reg.CUFF_STAT_SWAP n) 0
      Gives (.swapTimeout k) s ((u.fire 70 (detail n (u.tc n))).tcEnter n 1)) ∧
    (win = false → Gives (.swapTimeout k) s c) ∧
    (up → (∀ i : Nat, i < 5 → (c.setLv Reg.CUFF_FRS_STAT 1).lvB (Reg.CUFF_STAT_FRS_ARMED i) = false) →
      Gives .frsTrigger s (c.setLv Reg.CUFF_FRS_STAT 1)) ∧
    (up → Gives .frsTrigger s ((c.setLv Reg.CUFF_FRS_STAT 1).each (List.range 5) (fun u i =>
      if u.lvB (Reg.CUFF_STAT_FRS_ARMED i) && !u.lvB (Reg.CUFF_STAT_SWAP i) then
        let f := ((u.srcOff i).setLv (Reg.CUFF_STAT_SWAP i) 1).setLv (Reg.CUFF_STAT_FRS_ARMED i) 0
        let g := f.setCuff i { f.cuff i with frsFired := true, frsLow := true, swapAt := f.fNow }
        (g.inc (Reg.CUFF_FRS_CNT i)).fire 69 (detail i (g.tc i))
      else u))) ∧
    (up → x.frsLow = true →
      let u := c.fieldTimeTo (x.swapAt + 90000)
      Gives (.frsSignalEnd k) s (u.setCuff n { u.cuff n with frsLow := false })) ∧
    (x.frsLow = false → Gives (.frsSignalEnd k) s c) ∧
    -- policy (R370, R372 to R374) and faults (R377)
    (up → c.policyShown n = 1 → c.cuffPolicy n ≠ 1 → Gives (.policyHandover k) s (c.handover n (c.cuffPolicy n))) ∧
    (c.policyShown n ≠ 1 ∨ c.cuffPolicy n = 1 → Gives (.policyHandover k) s c) ∧
    (up → c.policyShown n ≠ 1 → c.cuffPolicy n = 1 →
      let u := (c.setLv (Reg.CUFF_STAT_POLICY n) 1).setLv (Reg.CUFF_STAT_RX_ON n) 1
      Gives (.policyToFirmware k) s ((u.setCuff n { u.cuff n with hrOff := false, kick := u.fNow }).fire 67 (detail n 1))) ∧
    (c.policyShown n = 1 ∨ c.cuffPolicy n ≠ 1 → Gives (.policyToFirmware k) s c) ∧
    (up → c.policyShown n = 1 → wdog ≠ 0 →
      Gives (.cuffPolicyWdogExpire k) s ((c.fieldTimeTo (x.kick + wdog * 1000000)).fault (32 + n) 6 0 0)) ∧
    (c.policyShown n ≠ 1 ∨ wdog = 0 → Gives (.cuffPolicyWdogExpire k) s c) ∧
    (up → (code.toNat = 1 ∧ x.srcOn = true) ∨ code.toNat = 5 → Gives (.cuffInstrumentFault k code) s (faulted (c.srcOff n))) ∧
    (up → code.toNat = 2 → Gives (.cuffInstrumentFault k code) s (faulted (c.setCuff n { x with ccOpen := true }))) ∧
    (up → code.toNat = 3 → Gives (.cuffInstrumentFault k code) s (faulted c)) ∧
    (up → code.toNat = 4 → Gives (.cuffInstrumentFault k code) s
      (faulted ((c.setLv (Reg.CUFF_STAT_VCONN n) 0).setCuff n { x with vconnFault := c.fNow + 1 }))) ∧
    (code.toNat = 0 ∨ 5 < code.toNat ∨ (code.toNat = 1 ∧ x.srcOn = false) → Gives (.cuffInstrumentFault k code) s c) ∧
    (c.takes r (Reg.CUFF_CTL_ENABLE n).addr = true →
      (c.active (32 + n) = true → Gives (.cuffEnable r k) s
        (((c.putField (Reg.CUFF_STAT_EN n) 1).fieldAct (.unit 11 n 1 0)).respond r (Reg.CUFF_CTL_ENABLE n).addr .done)) ∧
      (c.active (32 + n) = false → Gives (.cuffEnable r k) s (c.rejected r (Reg.CUFF_CTL_ENABLE n).addr 11 n 0x004))) ∧
    (c.takes r (Reg.CUFF_CTL_DISABLE n).addr = true → Gives (.cuffDisable r k) s
      (((c.putField (Reg.CUFF_STAT_EN n) 0).fieldAct (.unit 11 n 0 0)).respond r (Reg.CUFF_CTL_DISABLE n).addr .done)) ∧
    (c.fieldUp = false →
      Gives (.ccChange k a b) s c ∧ (∀ z : TcTimer, Gives (.tcTimerExpire k z) s c) ∧ Gives (.drpToggle k) s c ∧ Gives (.vbusRemoval k) s c ∧
      Gives (.pdMessageReceive k m) s c ∧ Gives (.hardResetReceive k) s c ∧ Gives (.vsetRampStep k) s c ∧ Gives .frsTrigger s c ∧
      Gives (.cuffInstrumentFault k code) s c)

/-! ### Switched channels -/

/-- R381 to R383, R386 to R391, R396 (17_switching_and_fusing.md): closing under the guard, opening, trips, waits and re-closing. -/
def Obligations.ChannelResults : Prop :=
  ∀ (ch : Fin 10) (h : Fin 4) (vout : BitVec 16) (r : Requester) (s : State),
    let c := s.chip
    let n := ch.val
    let v := vout.toNat
    let x := c.fuseCh n
    let st := c.fuseState n
    let up := c.fieldUp = true
    let closed := c.fuseClosed n = true
    let en := c.fuseEnable n = true
    let open_ := fun (u : Chip) (k : Nat) => ((u.setLv (Reg.FUSE_STAT_STATE k) 0).setLv (Reg.FUSE_STAT_PG k) 0)
    let p := 5 + h.val
    let held_ := c.trunkHeld n
    let w := c.fieldTimeTo x.due
    let port := if n < 4 then n + 1 else n
    let hasPort := n < 4 ∨ (5 ≤ n ∧ n < 9)
    let cool := c.setFuse n { x with hot := false }
    let back := c.setFuse p { c.fuseCh p with rev := false }
    -- closing (R382, R390): below the guard it ramps, at or above it is held
    (v < (if n < 9 then 80 else 100) →
      let a := if x.waited then c.inc (Reg.FUSE_RETRY_CNT n) else c
      let b := a.setFuse n { x with held := false, waited := false, retried := x.waited, low := false, closedAt := a.fNow }
      let d := if n = 9 then { b with pwr := { b.pwr with trStaged := true } } else b
      c.fuseClose n v = ((d.setLv (Reg.FUSE_STAT_STATE n) 1).setLv (Reg.FUSE_STAT_PG n) 0).fuseSettle) ∧
    ((if n < 9 then 80 else 100) ≤ v →
      (x.held = false → n = 9 →
        let a := c.fire 35 0
        c.fuseClose n v = (({ a with pwr := { c.pwr with trFed := true } }).setFuse n { x with held := true }).fuseSettle) ∧
      (x.held = false → 5 ≤ n → n < 9 → c.fuseClose n v =
        ((((c.fire 72 (detail n (c.lv (Reg.FUSE_STAT_LAST_TRIP n)))).setLv (Reg.FUSE_STAT_STATE n) 6).setFuse n { x with held := true }).fuseSettle)) ∧
      (n < 5 ∨ (n = 9 ∧ x.held = true) → c.fuseClose n v = (c.setFuse n { x with held := true }).fuseSettle)) ∧
    -- seam loss holds off every close of the pass-through but the retry of its own trip (R20)
    (up → held_ = false → en → x.hot = false → x.rev = false → st = 0 ∨ (st = 5 ∧ x.low = true) → Gives (.channelClose ch vout) s (c.fuseClose n v)) ∧
    (held_ = true ∨ ¬en ∨ x.hot = true ∨ x.rev = true ∨ (st ≠ 0 ∧ (st ≠ 5 ∨ x.low = false)) → Gives (.channelClose ch vout) s c) ∧
    (up → ¬en → st ≠ 4 → st ≠ 5 → Gives (.channelOpen ch) s
      (let u := open_ c n
       (u.setFuse n { u.fuseCh n with held := false, retried := false }).fuseSettle)) ∧
    (up → ¬en → st = 5 → hasPort → Gives (.channelOpen ch) s ((c.portTripGone port).fuseOpen n)) ∧
    (up → ¬en → st = 5 → ¬hasPort → Gives (.channelOpen ch) s (c.fuseOpen n)) ∧
    (en ∨ st = 4 → Gives (.channelOpen ch) s c) ∧
    (c.trunkHeld n = true ↔ n = 9 ∧ c.seam.lost = true ∧ (c.fuseCh 9).waited = false) ∧
    (up → held_ = false → x.held = true → v < (if n < 9 then 80 else 100) → en → st = 0 ∨ st = 6 → Gives (.guardRelease ch vout) s (c.fuseClose n v)) ∧
    (held_ = true ∨ x.held = false ∨ (if n < 9 then 80 else 100) ≤ v ∨ ¬en ∨ (st ≠ 0 ∧ st ≠ 6) → Gives (.guardRelease ch vout) s c) ∧
    (up → st = 1 → n < 9 → Gives (.rampEnd ch) s (c.setLv (Reg.FUSE_STAT_STATE n) 2)) ∧
    (up → st = 1 → n = 9 → Gives (.rampEnd ch) s ((c.setLv (Reg.FUSE_STAT_STATE n) 2).setLv (Reg.FUSE_STAT_PG n) 1)) ∧
    (st ≠ 1 → Gives (.rampEnd ch) s c) ∧
    -- trips (R383, R386 to R390)
    (up → c.fuseState 9 = 1 → Gives .rampTimeout s ((c.fieldTimeTo ((c.fuseCh 9).closedAt + 20000000)).fuseTrip 9 5)) ∧
    (c.fuseState 9 ≠ 1 → Gives .rampTimeout s c) ∧
    (up → closed → Gives (.faultTimerTrip ch) s (c.fuseTrip n 1) ∧ Gives (.shortCircuitTrip ch) s (c.fuseTrip n 2) ∧
      (n < 9 → Gives (.thermalTrip ch) s (c.fuseTrip n 3))) ∧
    (¬closed → Gives (.faultTimerTrip ch) s c ∧ Gives (.shortCircuitTrip ch) s c ∧ Gives (.thermalTrip ch) s c) ∧
    (n = 9 → Gives (.thermalTrip ch) s c) ∧
    (up → c.fuseClosed 9 = true → Gives .trReverseTrip s (c.fuseTrip 9 4)) ∧
    (c.fuseClosed 9 = false → Gives .trReverseTrip s c) ∧
    (∀ cause : Nat,
      let cons := if x.retried then x.cons + 1 else x.cons
      let mx := c.fwk (Reg.FUSE_POLICY_RETRY_MAX n)
      let latch := c.fwkB (Reg.FUSE_POLICY_MODE n) = false ∨ (mx ≠ 0 ∧ x.retried = true ∧ mx ≤ cons)
      let a := c.setFuse n { x with cons := cons, retried := false, low := false, hot := x.hot || cause == 3, due := c.fNow + c.retryWait n }
      let b := ((a.setLv (Reg.FUSE_STAT_STATE n) (if latch then 5 else 4)).setLv (Reg.FUSE_STAT_PG n) 0).setLv (Reg.FUSE_STAT_LAST_TRIP n) cause
      let d := (b.inc (Reg.FUSE_TRIP_CNT n)).fuseEvent n cause
      (hasPort → c.fuseTrip n cause = ({ d.portTrip port with fuseReq := clrBit d.fuseReq n }).fuseSettle) ∧
      (n = 4 → c.fuseTrip n cause = d.fuseSettle) ∧
      (n = 9 → c.fuseTrip n cause = (d.alm 5).fuseSettle)) ∧
    (up → c.fuseClosed p = true → Gives (.hpReverseOpen h) s
      (let u := (c.fuseOpen p).inc (Reg.FUSE_REV_CNT p)
       u.setFuse p { u.fuseCh p with rev := true })) ∧
    (c.fuseClosed p = false → Gives (.hpReverseOpen h) s c) ∧
    (up → (c.fuseCh p).rev = true → back.fuseMay p = true → Gives (.hpReverseReclose h vout) s (back.fuseClose p v)) ∧
    (up → (c.fuseCh p).rev = true → back.fuseMay p = false → Gives (.hpReverseReclose h vout) s back) ∧
    ((c.fuseCh p).rev = false → Gives (.hpReverseReclose h vout) s c) ∧
    (up → n < 9 → x.hot = true → cool.fuseMay n = true → Gives (.thermalReclose ch vout) s (cool.fuseClose n v)) ∧
    (up → n < 9 → x.hot = true → cool.fuseMay n = false → Gives (.thermalReclose ch vout) s cool) ∧
    (n = 9 ∨ x.hot = false → Gives (.thermalReclose ch vout) s c) ∧
    -- the RETRY wait (R390, R391)
    (up → st = 4 → ¬hasPort → w.fwkB (Reg.FUSE_POLICY_MODE n) = false →
      Gives (.retryWaitEnd ch vout) s (w.setLv (Reg.FUSE_STAT_STATE n) 5).fuseSettle) ∧
    (up → st = 4 → ¬hasPort → w.fwkB (Reg.FUSE_POLICY_MODE n) = true →
      let u := ((w.setLv (Reg.FUSE_STAT_STATE n) 0).setFuse n { w.fuseCh n with waited := true }).fuseSettle
      (u.fuseMay n = true → Gives (.retryWaitEnd ch vout) s (u.fuseClose n v)) ∧
      (u.fuseMay n = false → Gives (.retryWaitEnd ch vout) s u)) ∧
    (up → st = 4 → hasPort →
      let a := w.portTripGone port
      (a.fwkB (Reg.FUSE_POLICY_MODE n) = false → Gives (.retryWaitEnd ch vout) s (a.setLv (Reg.FUSE_STAT_STATE n) 5).fuseSettle) ∧
      (a.fwkB (Reg.FUSE_POLICY_MODE n) = true →
        let b := (a.setLv (Reg.FUSE_STAT_STATE n) 0).setFuse n { a.fuseCh n with waited := true }
        let d := (b.setHp port { b.hp port with tripped := false }).hubAuto
        let u := ({ d with fuseReq := if Sys2Proof.Machine.bit d.portPowerWord n then setBit d.fuseReq n else d.fuseReq }).fuseSettle
        (u.fuseMay n = true → Gives (.retryWaitEnd ch vout) s (u.fuseClose n v)) ∧
        (u.fuseMay n = false → Gives (.retryWaitEnd ch vout) s u))) ∧
    (st ≠ 4 → Gives (.retryWaitEnd ch vout) s c) ∧
    (up → closed → Gives (.retryStable ch) s
      (let u := c.fieldTimeTo (x.closedAt + 1000000000)
       u.setFuse n { u.fuseCh n with cons := 0, retried := false })) ∧
    (¬closed → Gives (.retryStable ch) s c) ∧
    -- a stuck switch (R396)
    (closed → Gives (.switchStuck ch) s c) ∧
    (up → ¬closed → n < 5 → Gives (.switchStuck ch) s
      (let u := c.srcOff n
       (u.put (Reg.CUFF_FAULT_LAST n) 5).fault (32 + n) 5 5 0)) ∧
    (up → ¬closed → 5 ≤ n → n < 9 → Gives (.switchStuck ch) s (c.fault (32 + n) 5 1 0)) ∧
    (up → ¬closed → n = 9 → Gives (.switchStuck ch) s
      ((c.setLv (Reg.FUSE_STAT_STUCK 9) 1).fire 74 (detail 9 (c.lv (Reg.FUSE_STAT_LAST_TRIP 9))))) ∧
    -- CTL
    (c.takes r (Reg.FUSE_CTL_ENABLE n).addr = true →
      (9 = n ∨ c.active (32 + n) = true → Gives (.fuseEnable r ch) s
        (((c.putField (Reg.FUSE_STAT_EN n) 1).fieldAct (.unit 12 n 1 0)).respond r (Reg.FUSE_CTL_ENABLE n).addr .done)) ∧
      (n < 9 → c.active (32 + n) = false → Gives (.fuseEnable r ch) s (c.rejected r (Reg.FUSE_CTL_ENABLE n).addr 12 0 (0x40 * n + 4)))) ∧
    (c.takes r (Reg.FUSE_CTL_DISABLE n).addr = true → Gives (.fuseDisable r ch) s
      (((c.putField (Reg.FUSE_STAT_EN n) 0).fieldAct (.unit 12 n 1 0)).respond r (Reg.FUSE_CTL_DISABLE n).addr .done)) ∧
    (c.takes r (Reg.FUSE_CTL_REARM n).addr = true →
      (n = 9 → c.fuseState 9 = 5 → Gives (.rearm r ch) s ((c.fieldAct (.unit 12 9 2 0)).respond r (Reg.FUSE_CTL_REARM n).addr .done)) ∧
      (n ≠ 9 ∨ c.fuseState 9 ≠ 5 → Gives (.rearm r ch) s (c.rejected r (Reg.FUSE_CTL_REARM n).addr 12 0 (0x40 * n + 4)))) ∧
    (c.fieldUp = false →
      Gives (.channelClose ch vout) s c ∧ Gives (.channelOpen ch) s c ∧ Gives (.rampEnd ch) s c ∧ Gives (.faultTimerTrip ch) s c ∧
      Gives (.shortCircuitTrip ch) s c ∧ Gives (.retryWaitEnd ch vout) s c ∧ Gives (.switchStuck ch) s c)

/-! ### Measurement and driver outputs -/

/-- R397, R398, R401 to R415 (18_measurement.md), R419, R424, R426, R427, R430 to R433 (19_control_outputs.md), R483 (22_background_work.md): the
commands of MEAS and DRV, samples, edges, snapshots, shunts, calibrations, setpoints and driver faults. The direction of a quadrature edge is
PRESUMED (log entry 12), and the value of a bridge sample in a calibration is a free value (log entry 6). -/
def Obligations.MeasurementAndDriverResults : Prop :=
  ∀ (r : Requester) (mask : BitVec 24) (k : Fin 2) (i : Fin 16) (readings : List Int) (b : Fin 4) (raw : Int) (p : Fin 12) (edge : PulseEdge)
    (a : Fin 24) (uA : Nat) (code : BitVec 4) (unit : Fin 4) (u : Fin 3) (o : Fin 12) (kind : BitVec 3) (present : Bool) (s : State),
    let c := s.chip
    let en := c.get Reg.MEAS_AIN_EN
    let ctl := Reg.MEAS_CTL.addr
    let rejected := c.rejected r ctl 13 0 4
    let up := c.fieldUp = true
    let x := c.out o.val
    let n := a.val
    let m := c.meas
    let dc := (Reg.DRV_CTL_FAULT_CLR o.val).addr
    let wired := c.pulseWired p.val = true
    let run := c.fwkB Reg.MEAS_STAT_PC_EN = true ∧ c.measStopped 3 = false
    let q := p.val
    let mode := c.fwk (Reg.MEAS_PC_CFG_MODE q)
    let sel := c.fwk (Reg.MEAS_PC_CFG_EDGE q)
    let hit := (sel = 0 ∧ edge.rising = true) ∨ (sel = 1 ∧ edge.rising = false) ∨ sel = 2
    let sk := k.val
    let bursts := c.fwkB (measEn sk) = true ∧ c.steered = true ∧ c.measStopped sk = false ∧ i.val < c.fwk (Reg.MEAS_SEQ_REP_COUNT sk) ∧
      c.get Reg.SYS_PWR_STAT ≠ 1
    let len := c.fwk (Reg.MEAS_SEQ_REP_LEN sk)
    let bridging := c.fwkB Reg.MEAS_STAT_BR_EN = true ∧ c.measStopped 2 = false ∧ Sys2Proof.Machine.bit m.excOff b.val = false ∧
      c.get Reg.SYS_PWR_STAT ≠ 1
    -- inputs and units
    (c.takes r Reg.MEAS_AIN_ON.addr = true →
      Gives (.ainOn r mask) s ((c.putField Reg.MEAS_AIN_EN (en ||| mask.toNat)).respond r Reg.MEAS_AIN_ON.addr .done)) ∧
    (c.takes r Reg.MEAS_AIN_OFF.addr = true →
      Gives (.ainOff r mask) s ((c.putField Reg.MEAS_AIN_EN (en - (en &&& mask.toNat))).respond r Reg.MEAS_AIN_OFF.addr .done)) ∧
    (c.takes r ctl = true →
      (c.active 45 = true → Gives (.saEnable r) s ((c.putField Reg.MEAS_STAT_SA_EN 1).respond r ctl .done)) ∧
      (c.active 45 = false → Gives (.saEnable r) s rejected) ∧
      Gives (.saDisable r) s ((c.putField Reg.MEAS_STAT_SA_EN 0).respond r ctl .done) ∧
      (c.active 46 = true → Gives (.sbEnable r) s ((c.putField Reg.MEAS_STAT_SB_EN 1).respond r ctl .done)) ∧
      (c.active 46 = false → Gives (.sbEnable r) s rejected) ∧
      Gives (.sbDisable r) s ((c.putField Reg.MEAS_STAT_SB_EN 0).respond r ctl .done) ∧
      (c.active 47 = true →
        (c.flag Reg.MEAS_STAT_BR_EN = false →
          Gives (.bridgeEnable r) s (((c.putField Reg.MEAS_STAT_BR_EN 1).fieldAct (.unit 13 0 0 15)).respond r ctl .done)) ∧
        (c.flag Reg.MEAS_STAT_BR_EN = true → Gives (.bridgeEnable r) s ((c.putField Reg.MEAS_STAT_BR_EN 1).respond r ctl .done)) ∧
        Gives (.counterEnable r) s ((c.putField Reg.MEAS_STAT_PC_EN 1).respond r ctl .done)) ∧
      (c.active 47 = false → Gives (.bridgeEnable r) s rejected ∧ Gives (.counterEnable r) s rejected) ∧
      Gives (.bridgeDisable r) s ((c.putField Reg.MEAS_STAT_BR_EN 0).respond r ctl .done) ∧
      Gives (.counterDisable r) s ((c.putField Reg.MEAS_STAT_PC_EN 0).respond r ctl .done)) ∧
    -- a burst converts its entries (R401, R402)
    (up → bursts → c.occMeas = false →
      let t := c.clk.markNs + c.fwk (Reg.MEAS_SEQ sk) + i.val * c.fwk (Reg.MEAS_SEQ_REP_INTERVAL sk)
      Gives (.burstStart k i readings) s (((c.fieldTimeTo t).inc (Reg.MEAS_BURST_CNT sk)).burstEntries sk len 0 t
        (readings.take len ++ List.replicate (len - readings.length) 0))) ∧
    (up → bursts → c.occMeas = true → Gives (.burstStart k i readings) s (c.inc (Reg.MEAS_SKIP_CNT sk))) ∧
    (¬bursts → Gives (.burstStart k i readings) s c) ∧
    -- a bridge result, of a difference in pV, at the bridge's next output instant (R405, R406, R410)
    (let per := c.brPeriod b.val
     c.brNext b.val % per = 0 ∧ c.fNow ≤ c.brNext b.val ∧ m.brAt.get 0 b.val ≤ c.brNext b.val) ∧
    (c.brValue b.val raw = Int.tdiv (2 ^ 23 * raw * (c.brGain b.val : Int)) (c.brVexc b.val : Int)) ∧
    (up → bridging →
      let at_ := c.brNext b.val
      let d := c.fieldTimeTo at_
      let e := { d with meas := { d.meas with brAt := d.meas.brAt.put 0 b.val (at_ + 1) } }
      let exact_ := e.brValue b.val raw
      (e.occMeas = true → Gives (.bridgeResult b raw) s (e.inc (Reg.MEAS_SKIP_CNT 2))) ∧
      (e.occMeas = false → Sys2Proof.Machine.bit e.meas.shorted b.val = false →
        let v := clampInt (-8388608) 8388607 exact_
        let st := e.meas.settle.get 0 b.val
        let w := unsigned 24 v + (if v ≠ exact_ then 2 ^ 25 else 0) + (if e.get Reg.CLK_STATUS_SYNC = 3 then 2 ^ 27 else 0) +
          (if Sys2Proof.Machine.bit e.meas.calBr b.val then 2 ^ 28 else 0) + (if st ≠ 0 then 2 ^ 30 else 0)
        let t := ({ e with meas := { e.meas with
          shorted := clrBit e.meas.shorted b.val
          calBr := clrBit e.meas.calBr b.val
          settle := e.meas.settle.put 0 b.val (st - 1) } }).setLv (Reg.MEAS_BR_VAL b.val) w
        Gives (.bridgeResult b raw) s
          (t.measSend 2 (measOut (t.fwk (Reg.MEAS_BR_DEST b.val)) w (at_ + 2 ^ 32 - t.brPeriod b.val * 3 / 2)
            (Sys2Proof.Machine.bit (t.fwk (Reg.MEAS_BR_DEST b.val)) 8) true true)))) ∧
    (¬bridging → Gives (.bridgeResult b raw) s c) ∧
    -- counters (R407, R409)
    (up → wired → run → c.occMeas = false → c.fwk (Reg.MEAS_PC_CFG_MODE (q / 2 * 2)) ≠ 3 →
      (mode = 1 ∨ mode = 2 → hit → Gives (.pulseEdge p edge) s (c.countEdge q true)) ∧
      ((mode ≠ 1 ∧ mode ≠ 2) ∨ ¬hit → Gives (.pulseEdge p edge) s c)) ∧
    (up → wired → run → c.occMeas = false → c.fwk (Reg.MEAS_PC_CFG_MODE (q / 2 * 2)) = 3 →
      Gives (.pulseEdge p edge) s ((c.countEdge (q / 2 * 2) (quadUp q edge)).countEdge (q / 2 * 2 + 1) (quadUp q edge))) ∧
    (¬wired ∨ ¬run ∨ c.occMeas = true → Gives (.pulseEdge p edge) s c) ∧
    (up → run → c.get Reg.SYS_PWR_STAT ≠ 1 → (∀ j : Nat, j < 12 → c.periodShow.fwk (Reg.MEAS_PC_CFG_MODE j) = 0) →
      Gives .pcSnapshot s c.periodShow) ∧
    (up → run → c.get Reg.SYS_PWR_STAT ≠ 1 → Gives .pcSnapshot s (c.periodShow.each (List.range 12) (fun t j =>
      if t.fwk (Reg.MEAS_PC_CFG_MODE j) = 0 ∧ t.fwk (Reg.MEAS_PC_CFG_MODE (j / 2 * 2)) ≠ 3 then t
      else if t.occMeas then t.inc (Reg.MEAS_SKIP_CNT 3)
      else t.measSend 3 (measOut (t.fwk (Reg.MEAS_PC_DEST j))
        (if t.fwk (Reg.MEAS_PC_CFG_MODE j) = 2 then t.lv (Reg.MEAS_PC_PER j) else t.lv (Reg.MEAS_PC_CNT j)) (t.lv (Reg.MEAS_PC_TLAST j)) true true true)))) ∧
    (¬run ∨ c.get Reg.SYS_PWR_STAT = 1 → Gives .pcSnapshot s c) ∧
    -- shunts, faults and calibration (R398, R414, R415, R483)
    (up → Sys2Proof.Machine.bit (c.fwk Reg.MEAS_AIN_EN) n = true → c.fwk (Reg.MEAS_AIN_CFG n) = 3 → Sys2Proof.Machine.bit m.shuntOpen n = false →
      let t := ({ c with meas := { m with shuntOpen := setBit m.shuntOpen n } }).inc Reg.MEAS_SHUNT_CNT
      Gives (.shuntOvercurrent a) s (({ t with meas := { t.meas with flags := t.meas.flags.put 0 n 16 } }).rangeEvent n (2 ^ 29))) ∧
    (Sys2Proof.Machine.bit (c.fwk Reg.MEAS_AIN_EN) n = false ∨ c.fwk (Reg.MEAS_AIN_CFG n) ≠ 3 ∨ Sys2Proof.Machine.bit m.shuntOpen n = true →
      Gives (.shuntOvercurrent a) s c) ∧
    (up → Sys2Proof.Machine.bit m.shuntOpen n = true → uA < 25000 →
      Gives (.shuntRetry a uA) s { c with meas := { m with shuntOpen := clrBit m.shuntOpen n } }) ∧
    (Sys2Proof.Machine.bit m.shuntOpen n = false ∨ 25000 ≤ uA → Gives (.shuntRetry a uA) s c) ∧
    (up → code.toNat = 1 → unit.val < 2 → Gives (.measInstrumentFault code unit) s
      (({ c with meas := { m with refBad := setBit m.refBad unit.val } }).fault (measFlask unit.val) 5 1 0)) ∧
    (up → code.toNat = 2 → Gives (.measInstrumentFault code unit) s
      (({ c with meas := { m with excOff := setBit m.excOff unit.val } }).fault 47 5 2 0)) ∧
    (up → code.toNat = 3 → unit.val < 2 → Gives (.measInstrumentFault code unit) s (c.fault (measFlask unit.val) 5 3 0)) ∧
    (code.toNat = 0 ∨ 3 < code.toNat → Gives (.measInstrumentFault code unit) s c) ∧
    (c.bkgRuns = true → c.wkB Reg.BKG_CFG_CAL_EN = true → Sys2Proof.Machine.bit c.bkg.cal u.val = false →
      let d := c.timeTo (c.calDue u.val)
      let t := { d with bkg := { d.bkg with calAt := d.bkg.calAt.put 0 u.val (d.ct.toNat + 1) } }
      let may := t.fieldUp = true ∧ t.flag (measEn u.val) = true ∧ t.active (measFlask u.val) = true ∧ t.occMeas = false ∧
        t.get Reg.SYS_PWR_STAT ≠ 1
      (may → Gives (.calibrationStart u) s
        ((({ t with bkg := { t.bkg with cal := setBit t.bkg.cal u.val } }).put Reg.BKG_STAT_CAL_RUN 1).calBegin u.val)) ∧
      (¬may → Gives (.calibrationStart u) s (t.inc Reg.BKG_CAL_SKIP_CNT))) ∧
    (c.bkgRuns = false ∨ c.wkB Reg.BKG_CFG_CAL_EN = false ∨ Sys2Proof.Machine.bit c.bkg.cal u.val = true → Gives (.calibrationStart u) s c) ∧
    (c.bkgRuns = true → Sys2Proof.Machine.bit c.bkg.cal u.val = true →
      let left := clrBit c.bkg.cal u.val
      Gives (.calibrationDone u) s
        ((((({ c with bkg := { c.bkg with cal := left } }).putB Reg.BKG_STAT_CAL_RUN (left != 0)).inc Reg.BKG_CAL_CNT).calDone u.val))) ∧
    (c.bkgRuns = false ∨ Sys2Proof.Machine.bit c.bkg.cal u.val = false → Gives (.calibrationDone u) s c) ∧
    -- outputs (R419, R424, R432, R433)
    -- the oldest setpoint of the output that is on its way arrives, with what left before it, and after it up to the next setpoint
    (up → c.seam.fieldRx = true → ∀ sp : SeamItem, ∀ pre behind rest : List SeamItem,
      c.seam.flight = pre ++ sp :: (behind ++ rest) → pre.all (fun j => !isSetpointOf o.val j) = true → isSetpointOf o.val sp = true →
      behind.all (fun j => !isSetpoint j) = true → (∀ j : SeamItem, rest.head? = some j → isSetpoint j = true) →
      Gives (.setpointArrive o) s
        (Chip.each { c with seam := { c.seam with flight := rest } } (pre ++ sp :: behind) (fun t j => t.deliver j))) ∧
    (c.seam.flight.any (isSetpointOf o.val) = false ∨ c.seam.fieldRx = false → Gives (.setpointArrive o) s c) ∧
    (up → kind.toNat = 1 → Gives (.driverFault o kind) s (c.drvTrip o.val 1 (c.fwkB (Reg.DRV_ELEC_FENCE o.val)))) ∧
    (up → kind.toNat = 2 → o.val < 8 → Gives (.driverFault o kind) s (c.setLv (Reg.DRV_STAT_OPEN o.val) 1)) ∧
    (up → kind.toNat = 3 → o.val < 8 → Gives (.driverFault o kind) s (c.drvTrip o.val 3 true)) ∧
    (up → kind.toNat = 4 → 8 ≤ o.val → Gives (.driverFault o kind) s
      ((c.each [8, 9, 10, 11] (fun t j => t.setOut j { t.out j with safe := true, cmd := 0 })).fault 50 5 4 0).drvSettle) ∧
    (kind.toNat = 0 ∨ 4 < kind.toNat ∨ (kind.toNat = 2 ∧ 8 ≤ o.val) ∨ (kind.toNat = 3 ∧ 8 ≤ o.val) ∨ (kind.toNat = 4 ∧ o.val < 8) →
      Gives (.driverFault o kind) s c) ∧
    (∀ cause : Nat, ∀ fenced : Bool,
      let t := (c.setOut o.val { x with latched := true, safe := true }).setLv (Reg.DRV_STAT_LAST_FAULT o.val) cause
      let v := (t.inc (Reg.DRV_TRIP_CNT o.val)).drvEvent o.val cause
      c.drvTrip o.val cause fenced = (if fenced then v.fault (drvFlask o.val) 5 cause 0 else v).drvSettle) ∧
    (c.takes r (Reg.DRV_CTL_ENABLE o.val).addr = true →
      (c.active (drvFlask o.val) = true →
        (c.flag (Reg.DRV_STAT_EN o.val) = true →
          Gives (.drvEnable r o) s ((c.putField (Reg.DRV_STAT_EN o.val) 1).respond r (Reg.DRV_CTL_ENABLE o.val).addr .done)) ∧
        (c.flag (Reg.DRV_STAT_EN o.val) = false → Gives (.drvEnable r o) s
          (((c.putField (Reg.DRV_STAT_EN o.val) 1).fieldAct (.unit 14 o.val 2 0)).respond r (Reg.DRV_CTL_ENABLE o.val).addr .done))) ∧
      (c.active (drvFlask o.val) = false → Gives (.drvEnable r o) s (c.rejected r (Reg.DRV_CTL_ENABLE o.val).addr 14 o.val 0x04))) ∧
    (c.takes r (Reg.DRV_CTL_DISABLE o.val).addr = true →
      Gives (.drvDisable r o) s ((c.putField (Reg.DRV_STAT_EN o.val) 0).respond r (Reg.DRV_CTL_DISABLE o.val).addr .done)) ∧
    (c.takes r dc = true →
      (c.active (drvFlask o.val) = true → x.latched = true → present = false →
        Gives (.faultClr r o present) s ((c.fieldAct (.unit 14 o.val 1 0)).respond r dc .done)) ∧
      (c.active (drvFlask o.val) = false ∨ x.latched = false ∨ present = true →
        Gives (.faultClr r o present) s (c.rejected r dc 14 o.val 0x04))) ∧
    (c.fieldUp = false →
      Gives (.burstStart k i readings) s c ∧ Gives (.bridgeResult b raw) s c ∧ Gives (.pulseEdge p edge) s c ∧ Gives .pcSnapshot s c ∧
      Gives (.shuntOvercurrent a) s c ∧ Gives (.shuntRetry a uA) s c ∧ Gives (.setpointArrive o) s c ∧ Gives (.driverFault o kind) s c)

/-! ### Pins and the CAN controllers -/

/-- R441, R443 to R445, R447, R448 (20_pins_and_muxing.md): output latches, edge capture, strobes, the high-voltage inputs and the pad hold;
R452 to R454, R456, R458 to R462 (21_isobus_bridge.md): the CAN controllers, their buffers and sessions. -/
def Obligations.PinAndCanResults : Prop :=
  ∀ (r : Requester) (e : Fin 32) (n : Fin 4) (m : Fin 16) (value mask : BitVec 16) (v : BitVec 32) (k : Fin 8) (edge : Bool) (i : Fin 16)
    (cc : Fin 2) (t : Fin 8) (w : Fin 4) (w2 : Fin 2) (f : CanFrame) (dominant : Bool) (s : State),
    let c := s.chip
    let latch := fun val msk : Nat => c.latchWrite n.val val msk
    let j := cc.val
    let x := c.cn j
    let q := t.val
    let ses := c.session j q
    let state := c.get (Reg.CAN_STAT_STATE j)
    let tec := c.get (Reg.CAN_STAT_TEC j)
    let rec_ := c.get (Reg.CAN_STAT_REC j)
    let enabled := c.flag (Reg.CAN_STAT_EN j) = true
    let f43 := c.active (43 + j) = true
    let live := c.canLive j = true
    let up := c.coreUp = true ∧ c.engState e.val = 1
    let pin := 0x4100 + 16 * n.val + m.val
    let port := fun off : Nat => 0x5000 + 0x100 * j + off
    let reached := fun off : Nat => up ∧ c.claim e.val (port off) = 2 ∧ c.occCan j = false
    let done := fun (a : Instr) (off : Nat) (u : Chip) => Gives a s (u.respond (.engine e) (port off) .done)
    let turned := fun (a : Instr) (off : Nat) =>
      Gives a s ((c.drew.reject e.val 16 j (c.free % 65536)).respond (.engine e) (port off) .reject)
    let rows : List (Instr × Nat) :=
      [(.canTxBufferWrite e cc t w v, 16 * q + w.val), (.canTxGo e cc t, 16 * q + 4), (.canTxAbort e cc t, 16 * q + 5),
        (.sessionStage e cc t w2 v, 0x80 + 4 * q + w2.val), (.sessionOpen e cc t v, 0x82 + 4 * q), (.sessionClose e cc t, 0x83 + 4 * q)]
    let pending := c.get (Reg.CAN_TXSTAT j q) = 1
    let size := v.toNat
    let t1 := c.get (Reg.CAN_CFG_TSEG1 j)
    let t2 := c.get (Reg.CAN_CFG_TSEG2 j)
    let sj := c.get (Reg.CAN_CFG_SJW j)
    let timing := 8 ≤ 1 + t1 + t2 ∧ 1 + t1 + t2 ≤ 25 ∧ 2 ≤ t1 ∧ t1 ≤ 63 ∧ 2 ≤ t2 ∧ t2 ≤ 16 ∧ 1 ≤ sj ∧ sj ≤ t2
    let ctl := (Reg.CAN_CTL_ENABLE j).addr
    -- latches: where the mask is 1 a bit takes the value, elsewhere it stays
    (c.takes r (Reg.PIN_OUT_SET n.val).addr = true →
      Gives (.outSet r n mask) s ((latch mask.toNat mask.toNat).respond r (Reg.PIN_OUT_SET n.val).addr .done)) ∧
    (c.takes r (Reg.PIN_OUT_CLR n.val).addr = true →
      Gives (.outClr r n mask) s ((latch 0 mask.toNat).respond r (Reg.PIN_OUT_CLR n.val).addr .done)) ∧
    (c.takes r (Reg.PIN_OUT_TOG n.val).addr = true → Gives (.outTog r n mask) s
      ((latch (c.get (Reg.PIN_OUT n.val) ^^^ mask.toNat) mask.toNat).respond r (Reg.PIN_OUT_TOG n.val).addr .done)) ∧
    (c.takes r (Reg.PIN_OUT_WR_VALUE n.val).addr = true → Gives (.outWr r n value mask) s
      ((latch value.toNat mask.toNat).respond r (Reg.PIN_OUT_WR_VALUE n.val).addr .done)) ∧
    (up → c.claim e.val pin = 2 → c.occPin n.val = false → Gives (.pinBitWrite e n m v) s
      ((latch (if Sys2Proof.Machine.bit v.toNat 0 then 65535 else 0) (2 ^ m.val)).respond (.engine e) pin .done)) ∧
    (up → c.claim e.val pin ≠ 2 → Gives (.pinBitWrite e n m v) s (c.trap e.val 3 (some pin))) ∧
    (∀ val msk b : Nat, b < 16 → Sys2Proof.Machine.bit ((latch val msk).get (Reg.PIN_OUT n.val)) b =
      if Sys2Proof.Machine.bit msk b then Sys2Proof.Machine.bit val b else Sys2Proof.Machine.bit (c.get (Reg.PIN_OUT n.val)) b) ∧
    -- captures, strobes, inputs, the hold
    (∀ p : Nat, c.evcapPin k.val = some p → c.coreUp = true → c.flag Reg.PIN_STAT = false → c.wkB (Reg.PIN_PCFG_ANALOG p (8 + k.val)) = false →
      edgeHit (c.wk (Reg.PIN_PCFG_EDGE p (8 + k.val))) edge = true →
      let back := (2 + c.wk (Reg.PIN_PCFG_FILT p (8 + k.val))) * 5 * 2 ^ 31
      Gives (.evcapEdge k edge) s
        (((c.put (Reg.PIN_EVCAP_T k.val) ((c.ct.toNat * 2 ^ 32 + c.ctFrac.toNat + 2 ^ 96 - back) / 2 ^ 32 % 2 ^ 32)).inc
          (Reg.PIN_EVCAP_CNT k.val)).fire (80 + k.val) 0)) ∧
    (c.evcapPin k.val = none ∨ c.flag Reg.PIN_STAT = true → Gives (.evcapEdge k edge) s c) ∧
    (c.pin.apply = true →
      let u := c.timeTo (c.pin.applyAt + 1000)
      Gives (.strobeEnd true) s { u with pin := { u.pin with apply := false } }) ∧
    (c.pin.mark = true →
      let u := c.timeTo (c.pin.markAt + 1000)
      Gives (.strobeEnd false) s { u with pin := { u.pin with mark := false } }) ∧
    (c.pin.apply = false → Gives (.strobeEnd true) s c) ∧
    (c.pin.mark = false → Gives (.strobeEnd false) s c) ∧
    (c.fieldUp = true → c.occHvi = false →
      let to_ := fun f : Fld => if edge then setBit (c.lv f) i.val else clrBit (c.lv f) i.val
      Gives (.hviDebounceExpire i edge) s ((c.setLv Reg.PIN_HVI_IN (to_ Reg.PIN_HVI_IN)).setLv Reg.PIN_HVI_RAW (to_ Reg.PIN_HVI_RAW))) ∧
    (c.fieldUp = false ∨ c.occHvi = true → Gives (.hviDebounceExpire i edge) s c) ∧
    (c.wakeOpen = true ∨ c.flag Reg.CHAIN_SLEEP_STAT_STATE = true → c.pin.hviWake.get 0 i.val ≠ 0 →
      edgeHit (c.pin.hviWake.get 0 i.val - 1) edge = true → Gives (.hviWake i edge) s (c.wakeCause 1)) ∧
    ((c.wakeOpen = false ∧ c.flag Reg.CHAIN_SLEEP_STAT_STATE = false) ∨ c.pin.hviWake.get 0 i.val = 0 → Gives (.hviWake i edge) s c) ∧
    (c.takes r Reg.PIN_CTL.addr = true →
      (c.flag Reg.PIN_STAT = true → Gives (.holdRel r) s
        ((({ c with pin := { c.pin with heldDrive := [], heldLevel := [], heldPull := [] } }).put Reg.PIN_STAT 0).respond r Reg.PIN_CTL.addr .done)) ∧
      (c.flag Reg.PIN_STAT = false → Gives (.holdRel r) s (c.rejected r Reg.PIN_CTL.addr 15 0 0x04))) ∧
    -- a controller joins and leaves its bus
    (c.takes r ctl = true →
      (timing → f43 → Gives (.canEnable r cc) s
        ((((c.put (Reg.CAN_STAT_EN j) 1).setCn j
          { x with onBus := none, abort := false, offDue := false, recover := false, since := c.ct.toNat }).put
          (Reg.CAN_STAT_STATE j) 3).respond r ctl .done)) ∧
      (¬timing ∨ ¬f43 → Gives (.canEnable r cc) s (c.rejected r ctl 16 j 0x0004))) ∧
    (c.coreUp = true → enabled → state = 3 → f43 → c.occCan j = false → 
      Gives (.canIntegrated cc) s ((c.timeTo (x.since + c.canBits j 11)).canJoin j)) ∧
    (¬enabled ∨ state ≠ 3 ∨ ¬f43 ∨ c.occCan j = true → Gives (.canIntegrated cc) s c) ∧
    (c.takes r (Reg.CAN_CTL_DISABLE j).addr = true → Gives (.canDisable r cc) s
      (((((c.put (Reg.CAN_STAT_EN j) 0).canQuiet j).each (List.range 8) (fun u a => if u.sessOpen j a then u.sessClose j a 5 else u))).respond r
        (Reg.CAN_CTL_DISABLE j).addr .done)) ∧
    (c.takes r (Reg.CAN_CTL_RECOVER j).addr = true →
      (state = 2 → f43 → x.recover = false → Gives (.canRecover r cc) s
        ((c.setCn j { x with recover := true, since := c.ct.toNat }).respond r (Reg.CAN_CTL_RECOVER j).addr .done)) ∧
      (state = 2 → f43 → x.recover = true → Gives (.canRecover r cc) s (c.respond r (Reg.CAN_CTL_RECOVER j).addr .done)) ∧
      (state ≠ 2 ∨ ¬f43 → Gives (.canRecover r cc) s (c.rejected r (Reg.CAN_CTL_RECOVER j).addr 16 j 0x0004))) ∧
    (live → x.offDue = true → Gives (.canBusOff cc) s
      ((((c.setCn j { x with
          offDue := false
          onBus := none
          abort := false
          since := c.ct.toNat
          recover := c.flag (Reg.CAN_CFG_AUTO_BO j) }).put
        (Reg.CAN_STAT_STATE j) 2).inc (Reg.CAN_BUSOFF_CNT j)).fire 77 (detail j 0))) ∧
    (x.offDue = false → Gives (.canBusOff cc) s c) ∧
    (c.coreUp = true → state = 2 → x.recover = true → 
      Gives (.canBusOffRecovered cc) s ((c.timeTo (x.since + c.canBits j 1408)).canJoin j)) ∧
    (state ≠ 2 ∨ x.recover = false → Gives (.canBusOffRecovered cc) s c) ∧
    -- frames (R454, R456, R459)
    (live → c.get (Reg.CAN_CFG_MODE j) ≠ 2 → rec_ ≤ 127 → Gives (.canFrameReceive cc f) s
      (((c.put (Reg.CAN_STAT_REC j) (rec_ - 1)).canErrState j).canTake j f)) ∧
    -- above 127 it falls to a value that ISO 11898-1 leaves free between 119 and 127
    (live → c.get (Reg.CAN_CFG_MODE j) ≠ 2 → 127 < rec_ → ∃ y : Nat, 119 ≤ y ∧ y ≤ 127 ∧ Gives (.canFrameReceive cc f) s
      (((c.put (Reg.CAN_STAT_REC j) y).canErrState j).drew.canTake j f)) ∧
    (¬live ∨ c.get (Reg.CAN_CFG_MODE j) = 2 → Gives (.canFrameReceive cc f) s c) ∧
    (live →
      let u := (c.put (Reg.CAN_STAT_REC j) (min 255 (rec_ + (if dominant then 8 else 1)))).canErrState j
      (u.get (Reg.CAN_CFG_MODE j) = 0 → Gives (.canBusError cc dominant) s (u.inc (Reg.CAN_ERRFRAME_CNT j))) ∧
      (u.get (Reg.CAN_CFG_MODE j) ≠ 0 → Gives (.canBusError cc dominant) s u)) ∧
    (¬live → Gives (.canBusError cc dominant) s c) ∧
    (∀ b : Nat, ∀ o : CanTxOutcome, live → x.onBus = some b →
      let u := c.setCn j { x with onBus := none, abort := false }
      (o = .lostArbitration → x.abort = false → Gives (.canTxComplete cc o) s (u.canArbitrate j)) ∧
      (o = .lostArbitration → x.abort = true → Gives (.canTxComplete cc o) s ((u.put (Reg.CAN_TXSTAT j b) 3).canArbitrate j)) ∧
      (o = .sent →
        let y := (((u.put (Reg.CAN_TXSTAT j b) 2).inc (Reg.CAN_TX_CNT j)).put (Reg.CAN_STAT_TEC j) (tec - 1)).canErrState j
        y.get (Reg.CAN_CFG_MODE j) ≠ 2 → Gives (.canTxComplete cc o) s (y.canArbitrate j)) ∧
      (o = .error → x.abort = false → state ≠ 1 → tec + 8 ≤ 255 → Gives (.canTxComplete cc o) s
        ((((u.put (Reg.CAN_STAT_TEC j) (tec + 8)).inc (Reg.CAN_ERRFRAME_CNT j)).canErrState j).canArbitrate j))) ∧
    (¬live ∨ x.onBus = none → ∀ o : CanTxOutcome, Gives (.canTxComplete cc o) s c) ∧
    -- ports of buffers and sessions (R458 to R462)
    (∀ a ∈ rows, ¬up → Gives a.1 s c) ∧
    (∀ a ∈ rows, up → c.claim e.val (port a.2) ≠ 2 → Gives a.1 s (c.trap e.val 3 (some (port a.2)))) ∧
    (∀ a ∈ rows, up → c.claim e.val (port a.2) = 2 → c.occCan j = true → Gives a.1 s (c.respond (.engine e) (port a.2) .busy)) ∧
    (∀ a ∈ rows, reached a.2 → ¬f43 → turned a.1 a.2) ∧
    (reached (16 * q + w.val) → f43 →
      done (.canTxBufferWrite e cc t w v) (16 * q + w.val) (c.setCn j { x with tx := x.tx.put 0 (4 * q + w.val) v.toNat })) ∧
    (reached (16 * q + 4) → f43 → enabled → c.canDrives j = true → ¬pending →
      done (.canTxGo e cc t) (16 * q + 4) ((c.put (Reg.CAN_TXSTAT j q) 1).canArbitrate j)) ∧
    (reached (16 * q + 4) → f43 → ¬enabled ∨ c.canDrives j = false ∨ pending → turned (.canTxGo e cc t) (16 * q + 4)) ∧
    (reached (16 * q + 5) → f43 → pending → x.onBus = some q → done (.canTxAbort e cc t) (16 * q + 5) (c.setCn j { x with abort := true })) ∧
    (reached (16 * q + 5) → f43 → pending → x.onBus ≠ some q → done (.canTxAbort e cc t) (16 * q + 5) (c.put (Reg.CAN_TXSTAT j q) 3)) ∧
    (reached (16 * q + 5) → f43 → ¬pending → turned (.canTxAbort e cc t) (16 * q + 5)) ∧
    (reached (0x80 + 4 * q + w2.val) → f43 →
      (w2.val = 0 → done (.sessionStage e cc t w2 v) (0x80 + 4 * q + w2.val)
        (c.setSession j q { ses with pgn := v.toNat % 2 ^ 18, etp := Sys2Proof.Machine.bit v.toNat 18 })) ∧
      (w2.val = 1 → done (.sessionStage e cc t w2 v) (0x80 + 4 * q + w2.val)
        (c.setSession j q { ses with sa := v.toNat % 256, da := v.toNat / 256 % 256 }))) ∧
    (reached (0x82 + 4 * q) → f43 →
      (c.sessOpen j q = false → (ses.etp = true ∧ 1786 ≤ size ∧ size ≤ 117440505) ∨ (ses.etp = false ∧ 9 ≤ size ∧ size ≤ 1785) →
        done (.sessionOpen e cc t v) (0x82 + 4 * q) (c.sessBegin j q (if ses.etp then 2 else 1) ses.pgn ses.sa ses.da size)) ∧
      (c.sessOpen j q = true ∨ (ses.etp = true ∧ (size < 1786 ∨ 117440505 < size)) ∨ (ses.etp = false ∧ (size < 9 ∨ 1785 < size)) →
        turned (.sessionOpen e cc t v) (0x82 + 4 * q))) ∧
    (reached (0x83 + 4 * q) → f43 → c.sessOpen j q = true → done (.sessionClose e cc t) (0x83 + 4 * q) (c.sessClose j q 5)) ∧
    (reached (0x83 + 4 * q) → f43 → c.sessOpen j q = false → done (.sessionClose e cc t) (0x83 + 4 * q) c) ∧
    (c.coreUp = true → c.sessOpen j q = true →
      Gives (.sessionTimeout cc t) s ((c.timeTo (ses.last + 750000000)).sessClose j q 2)) ∧
    (c.sessOpen j q = false → Gives (.sessionTimeout cc t) s c)

/-! ### Background work, tests, the TAP and events -/

/-- R468, R469, R472, R474, R476 to R479, R484 (22_background_work.md): scrubbing, the NOR, the configuration journal, the event log and
margin scans; R486 to R492, R494 to R496 (23_stitch_test_and_bist.md): tests and the TAP; R499, R502 (24_events.md): firings. The address
that SCRUB_UE_ADDR shows of a memory outside the address map, and where its pass ends, are the model's free values (log entry 6), the
logic self-test's stored reference is a constant the spec leaves open (log entry 8), the TAP's shifted-out register is log entry 9. -/
def Obligations.BackgroundTestEventResults : Prop :=
  ∀ (r : Requester) (m : EccMemory) (fg ok : Bool) (v : BitVec 32) (jw : Fin 4) (scope : BitVec 5) (force : Bool) (o : TestObs)
    (cause : BitVec 3) (sampled preload : BitVec 412) (src : Fin 128) (det : BitVec 32) (sig : BitVec 7) (s : State),
    let c := s.chip
    let b := c.bkg
    let runs := c.bkgRuns = true
    let scrubs := runs ∧ c.wkB Reg.BKG_CFG_SCRUB_EN = true
    let ready := c.flag Reg.BKG_STAT_JRNL_READY = true
    let busy := c.flag Reg.BKG_STAT_JRNL_BUSY = true
    let i := b.scrubAt.get 0 (memIndex m)
    -- the pass goes on behind word i, or ends at it
    let moved := fun (u : Chip) (last : Bool) =>
      let w := u.setBkg { b with scrubAt := b.scrubAt.put 0 (memIndex m) (if last = true then 0 else i + 1) }
      if last = true then w.inc Reg.BKG_SCRUB_PASS_CNT else w
    let put := Reg.BKG_JRNL_PUT.addr
    let log := Reg.BKG_LOG_IDX.addr
    let go := Reg.TEST_GO_KIND.addr
    let sc := scope.toNat
    let starts : List (Instr × Nat × Bool) :=
      [(.testPins r scope force, 1, force), (.testNeighbour r scope, 2, false), (.testLbist r scope force, 3, force)]
    let z := c.put Reg.TEST_STAT_JTAG_REFUSED 0
    -- the neighbour test's cycle C runs (R492)
    let nb := c.coreUp = true ∧ (c.testing 2 0 = true ∨ c.testing 2 1 = true) ∧ c.get Reg.CLK_CYC_NUM = c.test.nbCycle
    -- a test that took its time (Table TEST-2)
    let after := fun (ns : Nat) => c.timeTo (c.test.since + ns)
    let plain := fun (code : Nat) (out : BitVec 412) =>
      let u := c.landsFree.put Reg.TEST_STAT_JTAG_REFUSED 0
      { u with test := { u.test with tapInstr := code, irOut := 1, tapOut := out } }
    let landed : List (Instr × Nat) := [(.tapExtest, 0), (.tapExtestPulse, 8), (.tapExtestTrain, 9), (.tapClamp, 4), (.tapHighz, 5)]
    -- scrubbing: a memory with a place in the address map, then one without
    (∀ place : Nat × Nat, memPlace m = some place → scrubs →
      let u := moved c (decide (i + 1 = place.2))
      let addr := place.1 + 4 * i
      Gives (.scrubTick m .clean) s u ∧
      (b.rewrite.length < 16 → Gives (.scrubTick m .correctable) s
        { u with ecc := u.ecc.put 0 addr 1, bkg := { u.bkg with rewrite := b.rewrite ++ [addr] } }) ∧
      (16 ≤ b.rewrite.length → Gives (.scrubTick m .correctable) s { u with ecc := u.ecc.put 0 addr 1 }) ∧
      Gives (.scrubTick m .uncorrectable) s
        (((({ u with ecc := u.ecc.put 0 addr 2 }).inc Reg.BKG_SCRUB_UE_CNT).put Reg.BKG_SCRUB_UE_ADDR addr).fire 78 0)) ∧
    (memPlace m = none → scrubs →
      let u := moved c.drew (Sys2Proof.Machine.bit c.free 0)
      Gives (.scrubTick m .clean) s u ∧
      (b.rewrite.length < 16 → Gives (.scrubTick m .correctable) s
        { u with ecc := u.ecc.put 0 (memKey m i) 1, bkg := { u.bkg with rewrite := b.rewrite ++ [memKey m i] } }) ∧
      (16 ≤ b.rewrite.length → Gives (.scrubTick m .correctable) s { u with ecc := u.ecc.put 0 (memKey m i) 1 }) ∧
      ((∀ k : Fin 5, m ≠ .pd k) →
        let w := { u with ecc := u.ecc.put 0 (memKey m i) 2 }
        Gives (.scrubTick m .uncorrectable) s (((w.drew.inc Reg.BKG_SCRUB_UE_CNT).put Reg.BKG_SCRUB_UE_ADDR w.free).fire 78 0)) ∧
      (∀ k : Fin 5, m = .pd k → Gives (.scrubTick m .uncorrectable) s
        (((({ u with ecc := u.ecc.put 0 (memKey m i) 2 }).inc Reg.BKG_SCRUB_UE_CNT).put Reg.BKG_SCRUB_UE_ADDR (0xF0000000 + i)).fire 78 0))) ∧
    (¬scrubs → (∀ f : EccState, Gives (.scrubTick m f) s c) ∧ Gives (.scrubRewrite fg) s c) ∧
    (scrubs → ∀ (a : Nat) (t : List Nat), b.rewrite = a :: t →
      let u := { c with bkg := { b with rewrite := t }, ecc := c.ecc.put 0 a 0 }
      (fg = false → Gives (.scrubRewrite fg) s (u.inc Reg.BKG_SCRUB_CE_CNT)) ∧ (fg = true → Gives (.scrubRewrite fg) s u)) ∧
    (b.rewrite = [] → Gives (.scrubRewrite fg) s c) ∧
    -- the NOR and the journal
    (c.coreUp = true → Gives .norForegroundRequest s
      ((c.setBkg { b with suspended := b.erasing.isSome }).put Reg.BKG_STAT_NOR_FG 1)) ∧
    (c.coreUp = false → Gives .norForegroundRequest s c) ∧
    (c.coreUp = true → b.sealed = true → ∀ p : JPut, b.pend.find? (fun q => c.active 53 || q.key == 0) = some p →
      let e := if b.suspended = true then c else c.eraseDone
      let u := if 127 < e.bkg.slot then e.jRotate else e
      let a := jSector (u.get Reg.BKG_JRNL_STAT_ACTIVE) + 32 * u.bkg.slot
      let image := jRecord p.key p.del u.bkg.recSeq p.val
      let w := u.setBkg { u.bkg with slot := u.bkg.slot + 1 }
      let d := (w.norws a image).bkg
      let k := { d with recSeq := d.recSeq + 1, pend := d.pend.erase p, written := d.written ++ [p] }
      (ok = true → Gives (.journalAppend ok) s ((w.norws a image).setBkg k)) ∧
      (ok = false → Gives (.journalAppend ok) s
        (((w.norws a (image.take 30 ++ (image.drop 30).map (fun x => ~~~x))).inc Reg.BKG_JRNL_ERR_CNT).fire 79 0))) ∧
    (c.coreUp = false ∨ b.sealed = false ∨ b.pend.find? (fun q => c.active 53 || q.key == 0) = none → Gives (.journalAppend ok) s c) ∧
    (c.takes r Reg.BKG_JRNL_KEY_KEY.addr = true → Gives (.jrnlKey r v) s
      ((c.setBkg { b with jKey := v.toNat % 64, jDel := Sys2Proof.Machine.bit v.toNat 8 }).respond r Reg.BKG_JRNL_KEY_KEY.addr .done)) ∧
    (c.takes r (Reg.BKG_JRNL_DATA jw.val).addr = true → Gives (.jrnlData r jw v) s
      ((c.setBkg { b with jData := b.jData.put 0 jw.val v.toNat }).respond r (Reg.BKG_JRNL_DATA jw.val).addr .done)) ∧
    (c.takes r put = true →
      (b.jKey ≠ 0 → b.jKey ≤ 63 → ¬busy → ready → c.active 53 = true → Gives (.jrnlPut r) s
        (((c.setBkg { b with pend := b.pend ++ [⟨b.jKey, b.jDel, (List.range 4).map (b.jData.get 0), true⟩] }).put
          Reg.BKG_STAT_JRNL_BUSY 1).respond r put .done)) ∧
      (b.jKey = 0 ∨ 63 < b.jKey ∨ busy ∨ ¬ready ∨ c.active 53 = false → Gives (.jrnlPut r) s (c.rejected r put 17 0 0x3C))) ∧
    (c.coreUp = true → ∀ p : JPut, b.written.find? (fun q => c.active 53 || q.key == 0) = some p →
      let u := ((c.setBkg { b with written := b.written.erase p }).inc Reg.BKG_JRNL_REC_CNT).jShow p.key (if p.del = true then none else some p.val)
      (p.user = true → Gives .jrnlDurable s (u.put Reg.BKG_STAT_JRNL_BUSY 0)) ∧ (p.user = false → Gives .jrnlDurable s u)) ∧
    (c.coreUp = false ∨ b.written.find? (fun q => c.active 53 || q.key == 0) = none → Gives .jrnlDurable s c) ∧
    (runs → ready → b.sealed = false →
      let n := b.erases.get 0 0 + 1
      let u := (c.norErase (jSector 0)).norws (jSector 0) (jHeader 0 n)
      let k := { u.bkg with sealed := true, slot := 1, secSeq := 0, erases := u.bkg.erases.put 0 0 n,
                            erasing := some 1, suspended := false }
      Gives .journalFormat s (((u.setBkg k).put Reg.BKG_JRNL_STAT_ACTIVE 0).put Reg.BKG_JRNL_STAT_WEAR n)) ∧
    (¬runs ∨ ¬ready ∨ b.sealed = true → Gives .journalFormat s c) ∧
    -- the event log
    (runs → b.logQ ≠ [] →
      let paged := fun (u : Chip) => (u.each (u.bkg.logQ.take 16) (fun x w => x.logWrite w)).setBkg
        { u.bkg with logQ := u.bkg.logQ.drop 16, logAts := u.bkg.logAts.drop 16 }
      (16 ≤ b.logQ.length → Gives .logPageProgram s (paged c)) ∧
      (b.logQ.length < 16 → Gives .logPageProgram s (paged (c.timeTo (b.logAts.headD 0 + 1000000000))))) ∧
    (¬runs ∨ b.logQ = [] → Gives .logPageProgram s c) ∧
    (c.takes r log = true →
      (c.flag Reg.BKG_STAT_LOG_RD_BUSY = false → c.active 53 = true → Gives (.logIdx r v) s
        (((c.setBkg { b with logIdx := v.toNat }).put Reg.BKG_STAT_LOG_RD_BUSY 1).respond r log .done)) ∧
      (c.flag Reg.BKG_STAT_LOG_RD_BUSY = true ∨ c.active 53 = false → Gives (.logIdx r v) s (c.rejected r log 17 0 0x50))) ∧
    (runs → c.flag Reg.BKG_STAT_LOG_RD_BUSY = true →
      let w := (c.logNth b.logIdx).getD (List.replicate 4 0xFFFFFFFF)
      Gives .logReadDone s ((c.each (List.range 4) (fun u j => u.put (Reg.BKG_LOG_REC j) (w.getD j 0))).put Reg.BKG_STAT_LOG_RD_BUSY 0)) ∧
    (¬runs ∨ c.flag Reg.BKG_STAT_LOG_RD_BUSY = false → Gives .logReadDone s c) ∧
    (∀ n : Nat, n < b.logQ.length → c.logNth n = b.logQ[b.logQ.length - 1 - n]?) ∧
    -- margin scans
    (runs → c.wkB Reg.BKG_CFG_MARGIN_EN = true →
      let u := if b.scanAt = 0 then c else c.timeTo (b.scanAt - 1 + 1000000000 * max 1 (c.wk Reg.BKG_CFG_MARGIN_EVERY))
      let t := u.setBkg { u.bkg with scanAt := u.ct.toNat + 1 }
      let free := t.flag (Reg.LINK_MARGIN_BUSY 0) = false ∧ t.flag (Reg.LINK_MARGIN_BUSY 1) = false
      (free → ∀ l : Nat, ((List.range 4).map (fun k => (t.bkg.lane + k) % 4)).find? t.laneUsed = some l → Gives .marginScanStart s
        (((t.setBkg { t.bkg with lane := (l + 1) % 4 }).put Reg.BKG_STAT_MARGIN_RUN 1).marginBegin (l / 2) (l % 2))) ∧
      (¬free ∨ (∀ l : Nat, l < 4 → t.laneUsed l = false) → Gives .marginScanStart s t)) ∧
    (¬runs ∨ c.wkB Reg.BKG_CFG_MARGIN_EN = false → Gives .marginScanStart s c) ∧
    -- TEST.GO: refused while busy or for a reason, which TEST.REFUSE shows; else the units are occupied
    (∀ a ∈ starts, c.takes r go = true →
      let kind := a.2.1
      let why := c.testRefusal kind sc a.2.2
      let e := { c with test := { c.test with run := some ⟨kind, sc, a.2.2⟩, prbs := false, since := c.ct.toNat } }
      let u := (e.put Reg.TEST_STAT_BUSY 1).testZero kind
      let w := if kind = 2 then u.putB Reg.TEST_NB_STAT_END (!u.linkTailward sc) else u
      (c.flag Reg.TEST_STAT_BUSY = true → Gives a.1 s (c.rejected r go 18 0 0x04)) ∧
      (c.flag Reg.TEST_STAT_BUSY = false → why ≠ 0 → Gives a.1 s ((c.put Reg.TEST_REFUSE why).rejected r go 18 0 0x04)) ∧
      (c.flag Reg.TEST_STAT_BUSY = false → why = 0 →
        (scopeCuff kind sc = none → Gives a.1 s (w.occShow.respond r go .done)) ∧
        (∀ k : Nat, scopeCuff kind sc = some k → Gives a.1 s ((w.cuffForced k).occShow.respond r go .done)))) ∧
    (∀ kind scp : Nat, ∀ fr : Bool,
      (c.supplyOk = false → c.testRefusal kind scp fr = 1) ∧
      (c.supplyOk = true → c.clockOk = false → c.testRefusal kind scp fr = 2) ∧
      (c.supplyOk = true → c.clockOk = true → fieldScope kind scp = true → c.seamUp = false → c.testRefusal kind scp fr = 3) ∧
      (c.supplyOk = true → c.clockOk = true → c.seamUp = true → scopeOk kind scp = false → c.testRefusal kind scp fr = 4)) ∧
    (c.takes r Reg.TEST_NB_CYCLE.addr = true →
      Gives (.nbCycle r v) s (({ c with test := { c.test with nbCycle := v.toNat } }).respond r Reg.TEST_NB_CYCLE.addr .done)) ∧
    -- the neighbour test's instants (R492)
    (nb → Gives .nbPrbsStart s (let u := c.timeTo (c.clk.markNs + 10000); { u with test := { u.test with prbs := true } })) ∧
    (¬nb → Gives .nbPrbsStart s c ∧ Gives .nbTrunkCapture s c) ∧
    (c.fieldUp = false → Gives .nbTrunkCapture s c) ∧
    (nb → c.fieldUp = true →
      let t := c.timeTo (c.clk.markNs + 50000)
      let p := if t.testing 2 0 = true then 0 else 1
      let u := t.put Reg.TEST_NB_STAT_TRUNK_VALID 1
      (t.flag (Reg.LINK_PHY_MEDIA p) = true → Gives .nbTrunkCapture s t) ∧
      (t.flag (Reg.LINK_PHY_MEDIA p) = false → u.linkTailward p = true → Gives .nbTrunkCapture s
        ((u.put Reg.TEST_NB_TRUNK_V (t.lv (Reg.FUSE_MEAS_VOUT 9))).put Reg.TEST_NB_TRUNK_MA (t.lv (Reg.FUSE_MEAS_MA 9)))) ∧
      (t.flag (Reg.LINK_PHY_MEDIA p) = false → u.linkTailward p = false → Gives .nbTrunkCapture s
        (u.put Reg.TEST_NB_TRUNK_V (t.lv (Reg.FUSE_VIN 9))))) ∧
    -- ends and aborts
    (c.coreUp = true → ∀ t : RunningTest, c.test.run = some t →
      (t.kind = 1 →
        let e := after (if t.scope ≤ 4 then 320000 else if t.scope ≤ 9 then 80000 else 40000)
        let u := (e.put Reg.TEST_PIN_RES_STUCK o.stuck.toNat).put Reg.TEST_PIN_RES_SHORT o.short.toNat
        (o.stuck = 0 → o.short = 0 → Gives (.testDone o) s ((u.testOver 1 0).testFreed 1 t.scope)) ∧
        (o.stuck ≠ 0 ∨ o.short ≠ 0 → Gives (.testDone o) s ((u.testOver 2 0).testFreed 1 t.scope))) ∧
      (t.kind = 2 → later c.test.nbCycle (c.get Reg.CLK_CYC_NUM) = true → Gives (.testDone o) s c) ∧
      (t.kind = 2 → later c.test.nbCycle (c.get Reg.CLK_CYC_NUM) = false →
        let e := if c.get Reg.CLK_CYC_NUM = c.test.nbCycle then c.timeTo (c.clk.markNs + 110000) else c
        (o.lock = false → Gives (.testDone o) s
          ((((e.put Reg.TEST_NB_STAT_LOCK 0).put Reg.TEST_NB_STAT_INV 0).put Reg.TEST_NB_ERR 0).testOver 3 0)) ∧
        (o.lock = true →
          let u := ((e.put Reg.TEST_NB_STAT_LOCK 1).putB Reg.TEST_NB_STAT_INV o.inv).put Reg.TEST_NB_ERR o.errors.toNat
          (o.errors = 0 → Gives (.testDone o) s (u.testOver 1 0)) ∧ (o.errors ≠ 0 → Gives (.testDone o) s (u.testOver 2 0)))) ∧
      (t.kind = 3 →
        let u := (after (if t.scope < 4 then 4000000 else if t.scope < 6 then 2000000 else 10000000)).put Reg.TEST_LBIST_SIG o.sig.toNat
        (o.sig = Sys2Proof.Config.lbistReference t.scope → Gives (.testDone o) s ((u.testOver 1 0).testFreed 3 t.scope)) ∧
        (o.sig ≠ Sys2Proof.Config.lbistReference t.scope → Gives (.testDone o) s ((u.testOver 2 0).testFreed 3 t.scope))) ∧
      Gives (.testAbortCondition 1) s (
        let u := if c.clockOk = true ∧ (fieldScope t.kind t.scope = false ∨ c.seamUp = true) then
          (c.setLv Reg.TEST_STAT_VCORE_OK 0).put Reg.TEST_STAT_VCORE_OK 0 else c
        ((u.testZero t.kind).testOver 4 1).testFreed t.kind t.scope) ∧
      (cause = 2 → t.kind = 2 → c.linkActive t.scope = false →
        Gives (.testAbortCondition cause) s (((c.testZero t.kind).testOver 4 2).testFreed t.kind t.scope)) ∧
      (cause = 2 → t.kind ≠ 2 ∨ c.linkActive t.scope = true → Gives (.testAbortCondition cause) s c) ∧
      (cause = 3 → (∃ f ∈ testFlasks t.kind t.scope, c.active f = false) →
        Gives (.testAbortCondition cause) s (((c.testZero t.kind).testOver 4 3).testFreed t.kind t.scope)) ∧
      (cause = 3 → (∀ f ∈ testFlasks t.kind t.scope, c.active f = true) → Gives (.testAbortCondition cause) s c) ∧
      (cause = 4 → fieldScope t.kind t.scope = true → c.seam.lost = true →
        Gives (.testAbortCondition cause) s (((c.testZero t.kind).testOver 4 4).testFreed t.kind t.scope)) ∧
      (cause = 4 → fieldScope t.kind t.scope = false ∨ c.seam.lost = false → Gives (.testAbortCondition cause) s c) ∧
      (cause = 0 ∨ 5 ≤ cause.toNat → Gives (.testAbortCondition cause) s c) ∧
      (c.takes r Reg.TEST_ABORT.addr = true → Gives (.testAbort r) s
        ((((c.testZero t.kind).testOver 4 5).testFreed t.kind t.scope).respond r Reg.TEST_ABORT.addr .done))) ∧
    (c.test.run = none → Gives (.testDone o) s c ∧ Gives (.testAbortCondition cause) s c ∧
      (c.takes r Reg.TEST_ABORT.addr = true → Gives (.testAbort r) s (c.respond r Reg.TEST_ABORT.addr .done))) ∧
    -- the TAP (R495, R496)
    Gives .tapBypass s (plain 0x1F 0) ∧
    Gives .tapIdcode s (plain 1 0x106486B7) ∧
    Gives (.tapSamplePreload sampled preload) s
      { plain 2 sampled with test := { (plain 2 sampled).test with boundary := preload } } ∧
    (∀ a ∈ landed,
      (z.landsMay = true →
        (a.2 = 4 ∨ a.2 = 5 → Gives a.1 s
          { z.landsTake with test := { z.landsTake.test with tapInstr := a.2, irOut := 1, tapOut := 0 } }) ∧
        (a.2 ≠ 4 → a.2 ≠ 5 → Gives a.1 s
          { z.landsTake with test := { z.landsTake.test with tapInstr := a.2, irOut := 1, tapOut := z.landsTake.test.boundary } })) ∧
      (z.landsMay = false →
        let u := z.landsFree.put Reg.TEST_STAT_JTAG_REFUSED 1
        Gives a.1 s { u with test := { u.test with tapInstr := 0x1F, irOut := 1, tapOut := 0 } })) ∧
    (c.test.landsTaken = false → c.landsFree = c) ∧
    -- firings (R497, R499, R502)
    (c.coreUp = true → evReserved src.val = false → Gives (.eventFire src det) s (c.fire src.val det.toNat)) ∧
    (c.coreUp = false ∨ evReserved src.val = true → Gives (.eventFire src det) s c) ∧
    (evReserved src.val = true ↔ (53 ≤ src.val ∧ src.val ≤ 55) ∨ src.val = 71 ∨ (89 ≤ src.val ∧ src.val ≤ 111)) ∧
    (c.coreUp = true → c.wk (Reg.EVT_ROUTE_LIMIT src.val) = 0 → c.evt.latched = [] →
      ∃ x : EvRec, (c.fire src.val det.toNat).evt.latched = [x] ∧ x.src = src.val ∧ x.det = det.toNat ∧
        x.supp = c.evt.supp.get 0 src.val ∧ x.ns = c.ct.toNat % 2 ^ 32) ∧
    (c.takes r Reg.EVT_SIGNAL.addr = true →
      (112 ≤ sig.toNat → Gives (.eventSignal r sig) s ((c.fire sig.toNat (detail 32 0)).respond r Reg.EVT_SIGNAL.addr .done)) ∧
      (sig.toNat < 112 → Gives (.eventSignal r sig) s (c.rejected r Reg.EVT_SIGNAL.addr 19 0 0x04)))
end

