-- ==== Sys2Proof/Laws/State.lean ====
section
/-! SUPPORT. What each plain update of the block leaves: one lemma per update and field, true by unfolding. -/

namespace Sys2Proof.Machine

/-! The fields that `Chip.put` leaves. -/

@[simp] theorem Chip.put_shadow (s : Chip) (f : Fld) (v : Nat) : (s.put f v).shadow = s.shadow := (rfl)
@[simp] theorem Chip.put_work (s : Chip) (f : Fld) (v : Nat) : (s.put f v).work = s.work := (rfl)
@[simp] theorem Chip.put_fShadow (s : Chip) (f : Fld) (v : Nat) : (s.put f v).fShadow = s.fShadow := (rfl)
@[simp] theorem Chip.put_fWork (s : Chip) (f : Fld) (v : Nat) : (s.put f v).fWork = s.fWork := (rfl)
@[simp] theorem Chip.put_fPour (s : Chip) (f : Fld) (v : Nat) : (s.put f v).fPour = s.fPour := (rfl)
@[simp] theorem Chip.put_fArm (s : Chip) (f : Fld) (v : Nat) : (s.put f v).fArm = s.fArm := (rfl)
@[simp] theorem Chip.put_live (s : Chip) (f : Fld) (v : Nat) : (s.put f v).live = s.live := (rfl)
@[simp] theorem Chip.put_copySet (s : Chip) (f : Fld) (v : Nat) : (s.put f v).copySet = s.copySet := (rfl)
@[simp] theorem Chip.put_hiLatch (s : Chip) (f : Fld) (v : Nat) : (s.put f v).hiLatch = s.hiLatch := (rfl)
@[simp] theorem Chip.put_mem (s : Chip) (f : Fld) (v : Nat) : (s.put f v).mem = s.mem := (rfl)
@[simp] theorem Chip.put_nor (s : Chip) (f : Fld) (v : Nat) : (s.put f v).nor = s.nor := (rfl)
@[simp] theorem Chip.put_freeCnt (s : Chip) (f : Fld) (v : Nat) : (s.put f v).freeCnt = s.freeCnt := (rfl)
@[simp] theorem Chip.put_outcome (s : Chip) (f : Fld) (v : Nat) : (s.put f v).outcome = s.outcome := (rfl)
@[simp] theorem Chip.put_ct (s : Chip) (f : Fld) (v : Nat) : (s.put f v).ct = s.ct := (rfl)
@[simp] theorem Chip.put_ctFrac (s : Chip) (f : Fld) (v : Nat) : (s.put f v).ctFrac = s.ctFrac := (rfl)
@[simp] theorem Chip.put_fTime (s : Chip) (f : Fld) (v : Nat) : (s.put f v).fTime = s.fTime := (rfl)
@[simp] theorem Chip.put_evt (s : Chip) (f : Fld) (v : Nat) : (s.put f v).evt = s.evt := (rfl)
@[simp] theorem Chip.put_seam (s : Chip) (f : Fld) (v : Nat) : (s.put f v).seam = s.seam := (rfl)
@[simp] theorem Chip.put_clk (s : Chip) (f : Fld) (v : Nat) : (s.put f v).clk = s.clk := (rfl)
@[simp] theorem Chip.put_arm (s : Chip) (f : Fld) (v : Nat) : (s.put f v).arm = s.arm := (rfl)
@[simp] theorem Chip.put_pwr (s : Chip) (f : Fld) (v : Nat) : (s.put f v).pwr = s.pwr := (rfl)
@[simp] theorem Chip.put_boot (s : Chip) (f : Fld) (v : Nat) : (s.put f v).boot = s.boot := (rfl)
@[simp] theorem Chip.put_warden (s : Chip) (f : Fld) (v : Nat) : (s.put f v).warden = s.warden := (rfl)
@[simp] theorem Chip.put_test (s : Chip) (f : Fld) (v : Nat) : (s.put f v).test = s.test := (rfl)
@[simp] theorem Chip.put_engs (s : Chip) (f : Fld) (v : Nat) : (s.put f v).engs = s.engs := (rfl)
@[simp] theorem Chip.put_loader (s : Chip) (f : Fld) (v : Nat) : (s.put f v).loader = s.loader := (rfl)
@[simp] theorem Chip.put_ecc (s : Chip) (f : Fld) (v : Nat) : (s.put f v).ecc = s.ecc := (rfl)
@[simp] theorem Chip.put_runs (s : Chip) (f : Fld) (v : Nat) : (s.put f v).runs = s.runs := (rfl)
@[simp] theorem Chip.put_lastRead (s : Chip) (f : Fld) (v : Nat) : (s.put f v).lastRead = s.lastRead := (rfl)
@[simp] theorem Chip.put_sync (s : Chip) (f : Fld) (v : Nat) : (s.put f v).sync = s.sync := (rfl)
@[simp] theorem Chip.put_drv (s : Chip) (f : Fld) (v : Nat) : (s.put f v).drv = s.drv := (rfl)
@[simp] theorem Chip.put_drvScale (s : Chip) (f : Fld) (v : Nat) : (s.put f v).drvScale = s.drvScale := (rfl)
@[simp] theorem Chip.put_drvHold (s : Chip) (f : Fld) (v : Nat) : (s.put f v).drvHold = s.drvHold := (rfl)
@[simp] theorem Chip.put_hub (s : Chip) (f : Fld) (v : Nat) : (s.put f v).hub = s.hub := (rfl)
@[simp] theorem Chip.put_alms (s : Chip) (f : Fld) (v : Nat) : (s.put f v).alms = s.alms := (rfl)
@[simp] theorem Chip.put_fuse (s : Chip) (f : Fld) (v : Nat) : (s.put f v).fuse = s.fuse := (rfl)
@[simp] theorem Chip.put_fuseReq (s : Chip) (f : Fld) (v : Nat) : (s.put f v).fuseReq = s.fuseReq := (rfl)
@[simp] theorem Chip.put_lnk (s : Chip) (f : Fld) (v : Nat) : (s.put f v).lnk = s.lnk := (rfl)
@[simp] theorem Chip.put_folded (s : Chip) (f : Fld) (v : Nat) : (s.put f v).folded = s.folded := (rfl)
@[simp] theorem Chip.put_cuffs (s : Chip) (f : Fld) (v : Nat) : (s.put f v).cuffs = s.cuffs := (rfl)
@[simp] theorem Chip.put_meas (s : Chip) (f : Fld) (v : Nat) : (s.put f v).meas = s.meas := (rfl)
@[simp] theorem Chip.put_pin (s : Chip) (f : Fld) (v : Nat) : (s.put f v).pin = s.pin := (rfl)
@[simp] theorem Chip.put_wide (s : Chip) (f : Fld) (v : Nat) : (s.put f v).wide = s.wide := (rfl)
@[simp] theorem Chip.put_can (s : Chip) (f : Fld) (v : Nat) : (s.put f v).can = s.can := (rfl)
@[simp] theorem Chip.put_bkg (s : Chip) (f : Fld) (v : Nat) : (s.put f v).bkg = s.bkg := (rfl)
@[simp] theorem Chip.put_chain (s : Chip) (f : Fld) (v : Nat) : (s.put f v).chain = s.chain := (rfl)
@[simp] theorem Chip.put_gate (s : Chip) (f : Fld) (v : Nat) : (s.put f v).gate = s.gate := (rfl)
@[simp] theorem Chip.put_mgmt (s : Chip) (f : Fld) (v : Nat) : (s.put f v).mgmt = s.mgmt := (rfl)
@[simp] theorem Chip.put_usCc (s : Chip) (f : Fld) (v : Nat) : (s.put f v).usCc = s.usCc := (rfl)

/-! The fields that `Chip.putB` leaves. -/

@[simp] theorem Chip.putB_shadow (s : Chip) (f : Fld) (v : Bool) : (s.putB f v).shadow = s.shadow := (rfl)
@[simp] theorem Chip.putB_work (s : Chip) (f : Fld) (v : Bool) : (s.putB f v).work = s.work := (rfl)
@[simp] theorem Chip.putB_fShadow (s : Chip) (f : Fld) (v : Bool) : (s.putB f v).fShadow = s.fShadow := (rfl)
@[simp] theorem Chip.putB_fWork (s : Chip) (f : Fld) (v : Bool) : (s.putB f v).fWork = s.fWork := (rfl)
@[simp] theorem Chip.putB_fPour (s : Chip) (f : Fld) (v : Bool) : (s.putB f v).fPour = s.fPour := (rfl)
@[simp] theorem Chip.putB_fArm (s : Chip) (f : Fld) (v : Bool) : (s.putB f v).fArm = s.fArm := (rfl)
@[simp] theorem Chip.putB_live (s : Chip) (f : Fld) (v : Bool) : (s.putB f v).live = s.live := (rfl)
@[simp] theorem Chip.putB_copySet (s : Chip) (f : Fld) (v : Bool) : (s.putB f v).copySet = s.copySet := (rfl)
@[simp] theorem Chip.putB_hiLatch (s : Chip) (f : Fld) (v : Bool) : (s.putB f v).hiLatch = s.hiLatch := (rfl)
@[simp] theorem Chip.putB_mem (s : Chip) (f : Fld) (v : Bool) : (s.putB f v).mem = s.mem := (rfl)
@[simp] theorem Chip.putB_nor (s : Chip) (f : Fld) (v : Bool) : (s.putB f v).nor = s.nor := (rfl)
@[simp] theorem Chip.putB_freeCnt (s : Chip) (f : Fld) (v : Bool) : (s.putB f v).freeCnt = s.freeCnt := (rfl)
@[simp] theorem Chip.putB_outcome (s : Chip) (f : Fld) (v : Bool) : (s.putB f v).outcome = s.outcome := (rfl)
@[simp] theorem Chip.putB_ct (s : Chip) (f : Fld) (v : Bool) : (s.putB f v).ct = s.ct := (rfl)
@[simp] theorem Chip.putB_ctFrac (s : Chip) (f : Fld) (v : Bool) : (s.putB f v).ctFrac = s.ctFrac := (rfl)
@[simp] theorem Chip.putB_fTime (s : Chip) (f : Fld) (v : Bool) : (s.putB f v).fTime = s.fTime := (rfl)
@[simp] theorem Chip.putB_evt (s : Chip) (f : Fld) (v : Bool) : (s.putB f v).evt = s.evt := (rfl)
@[simp] theorem Chip.putB_seam (s : Chip) (f : Fld) (v : Bool) : (s.putB f v).seam = s.seam := (rfl)
@[simp] theorem Chip.putB_clk (s : Chip) (f : Fld) (v : Bool) : (s.putB f v).clk = s.clk := (rfl)
@[simp] theorem Chip.putB_arm (s : Chip) (f : Fld) (v : Bool) : (s.putB f v).arm = s.arm := (rfl)
@[simp] theorem Chip.putB_pwr (s : Chip) (f : Fld) (v : Bool) : (s.putB f v).pwr = s.pwr := (rfl)
@[simp] theorem Chip.putB_boot (s : Chip) (f : Fld) (v : Bool) : (s.putB f v).boot = s.boot := (rfl)
@[simp] theorem Chip.putB_warden (s : Chip) (f : Fld) (v : Bool) : (s.putB f v).warden = s.warden := (rfl)
@[simp] theorem Chip.putB_test (s : Chip) (f : Fld) (v : Bool) : (s.putB f v).test = s.test := (rfl)
@[simp] theorem Chip.putB_engs (s : Chip) (f : Fld) (v : Bool) : (s.putB f v).engs = s.engs := (rfl)
@[simp] theorem Chip.putB_loader (s : Chip) (f : Fld) (v : Bool) : (s.putB f v).loader = s.loader := (rfl)
@[simp] theorem Chip.putB_ecc (s : Chip) (f : Fld) (v : Bool) : (s.putB f v).ecc = s.ecc := (rfl)
@[simp] theorem Chip.putB_runs (s : Chip) (f : Fld) (v : Bool) : (s.putB f v).runs = s.runs := (rfl)
@[simp] theorem Chip.putB_lastRead (s : Chip) (f : Fld) (v : Bool) : (s.putB f v).lastRead = s.lastRead := (rfl)
@[simp] theorem Chip.putB_sync (s : Chip) (f : Fld) (v : Bool) : (s.putB f v).sync = s.sync := (rfl)
@[simp] theorem Chip.putB_drv (s : Chip) (f : Fld) (v : Bool) : (s.putB f v).drv = s.drv := (rfl)
@[simp] theorem Chip.putB_drvScale (s : Chip) (f : Fld) (v : Bool) : (s.putB f v).drvScale = s.drvScale := (rfl)
@[simp] theorem Chip.putB_drvHold (s : Chip) (f : Fld) (v : Bool) : (s.putB f v).drvHold = s.drvHold := (rfl)
@[simp] theorem Chip.putB_hub (s : Chip) (f : Fld) (v : Bool) : (s.putB f v).hub = s.hub := (rfl)
@[simp] theorem Chip.putB_alms (s : Chip) (f : Fld) (v : Bool) : (s.putB f v).alms = s.alms := (rfl)
@[simp] theorem Chip.putB_fuse (s : Chip) (f : Fld) (v : Bool) : (s.putB f v).fuse = s.fuse := (rfl)
@[simp] theorem Chip.putB_fuseReq (s : Chip) (f : Fld) (v : Bool) : (s.putB f v).fuseReq = s.fuseReq := (rfl)
@[simp] theorem Chip.putB_lnk (s : Chip) (f : Fld) (v : Bool) : (s.putB f v).lnk = s.lnk := (rfl)
@[simp] theorem Chip.putB_folded (s : Chip) (f : Fld) (v : Bool) : (s.putB f v).folded = s.folded := (rfl)
@[simp] theorem Chip.putB_cuffs (s : Chip) (f : Fld) (v : Bool) : (s.putB f v).cuffs = s.cuffs := (rfl)
@[simp] theorem Chip.putB_meas (s : Chip) (f : Fld) (v : Bool) : (s.putB f v).meas = s.meas := (rfl)
@[simp] theorem Chip.putB_pin (s : Chip) (f : Fld) (v : Bool) : (s.putB f v).pin = s.pin := (rfl)
@[simp] theorem Chip.putB_wide (s : Chip) (f : Fld) (v : Bool) : (s.putB f v).wide = s.wide := (rfl)
@[simp] theorem Chip.putB_can (s : Chip) (f : Fld) (v : Bool) : (s.putB f v).can = s.can := (rfl)
@[simp] theorem Chip.putB_bkg (s : Chip) (f : Fld) (v : Bool) : (s.putB f v).bkg = s.bkg := (rfl)
@[simp] theorem Chip.putB_chain (s : Chip) (f : Fld) (v : Bool) : (s.putB f v).chain = s.chain := (rfl)
@[simp] theorem Chip.putB_gate (s : Chip) (f : Fld) (v : Bool) : (s.putB f v).gate = s.gate := (rfl)
@[simp] theorem Chip.putB_mgmt (s : Chip) (f : Fld) (v : Bool) : (s.putB f v).mgmt = s.mgmt := (rfl)
@[simp] theorem Chip.putB_usCc (s : Chip) (f : Fld) (v : Bool) : (s.putB f v).usCc = s.usCc := (rfl)

/-! The fields that `Chip.add` leaves. -/

@[simp] theorem Chip.add_shadow (s : Chip) (f : Fld) (v : Nat) : (s.add f v).shadow = s.shadow := (rfl)
@[simp] theorem Chip.add_work (s : Chip) (f : Fld) (v : Nat) : (s.add f v).work = s.work := (rfl)
@[simp] theorem Chip.add_fShadow (s : Chip) (f : Fld) (v : Nat) : (s.add f v).fShadow = s.fShadow := (rfl)
@[simp] theorem Chip.add_fWork (s : Chip) (f : Fld) (v : Nat) : (s.add f v).fWork = s.fWork := (rfl)
@[simp] theorem Chip.add_fPour (s : Chip) (f : Fld) (v : Nat) : (s.add f v).fPour = s.fPour := (rfl)
@[simp] theorem Chip.add_fArm (s : Chip) (f : Fld) (v : Nat) : (s.add f v).fArm = s.fArm := (rfl)
@[simp] theorem Chip.add_live (s : Chip) (f : Fld) (v : Nat) : (s.add f v).live = s.live := (rfl)
@[simp] theorem Chip.add_copySet (s : Chip) (f : Fld) (v : Nat) : (s.add f v).copySet = s.copySet := (rfl)
@[simp] theorem Chip.add_hiLatch (s : Chip) (f : Fld) (v : Nat) : (s.add f v).hiLatch = s.hiLatch := (rfl)
@[simp] theorem Chip.add_mem (s : Chip) (f : Fld) (v : Nat) : (s.add f v).mem = s.mem := (rfl)
@[simp] theorem Chip.add_nor (s : Chip) (f : Fld) (v : Nat) : (s.add f v).nor = s.nor := (rfl)
@[simp] theorem Chip.add_freeCnt (s : Chip) (f : Fld) (v : Nat) : (s.add f v).freeCnt = s.freeCnt := (rfl)
@[simp] theorem Chip.add_outcome (s : Chip) (f : Fld) (v : Nat) : (s.add f v).outcome = s.outcome := (rfl)
@[simp] theorem Chip.add_ct (s : Chip) (f : Fld) (v : Nat) : (s.add f v).ct = s.ct := (rfl)
@[simp] theorem Chip.add_ctFrac (s : Chip) (f : Fld) (v : Nat) : (s.add f v).ctFrac = s.ctFrac := (rfl)
@[simp] theorem Chip.add_fTime (s : Chip) (f : Fld) (v : Nat) : (s.add f v).fTime = s.fTime := (rfl)
@[simp] theorem Chip.add_evt (s : Chip) (f : Fld) (v : Nat) : (s.add f v).evt = s.evt := (rfl)
@[simp] theorem Chip.add_seam (s : Chip) (f : Fld) (v : Nat) : (s.add f v).seam = s.seam := (rfl)
@[simp] theorem Chip.add_clk (s : Chip) (f : Fld) (v : Nat) : (s.add f v).clk = s.clk := (rfl)
@[simp] theorem Chip.add_arm (s : Chip) (f : Fld) (v : Nat) : (s.add f v).arm = s.arm := (rfl)
@[simp] theorem Chip.add_pwr (s : Chip) (f : Fld) (v : Nat) : (s.add f v).pwr = s.pwr := (rfl)
@[simp] theorem Chip.add_boot (s : Chip) (f : Fld) (v : Nat) : (s.add f v).boot = s.boot := (rfl)
@[simp] theorem Chip.add_warden (s : Chip) (f : Fld) (v : Nat) : (s.add f v).warden = s.warden := (rfl)
@[simp] theorem Chip.add_test (s : Chip) (f : Fld) (v : Nat) : (s.add f v).test = s.test := (rfl)
@[simp] theorem Chip.add_engs (s : Chip) (f : Fld) (v : Nat) : (s.add f v).engs = s.engs := (rfl)
@[simp] theorem Chip.add_loader (s : Chip) (f : Fld) (v : Nat) : (s.add f v).loader = s.loader := (rfl)
@[simp] theorem Chip.add_ecc (s : Chip) (f : Fld) (v : Nat) : (s.add f v).ecc = s.ecc := (rfl)
@[simp] theorem Chip.add_runs (s : Chip) (f : Fld) (v : Nat) : (s.add f v).runs = s.runs := (rfl)
@[simp] theorem Chip.add_lastRead (s : Chip) (f : Fld) (v : Nat) : (s.add f v).lastRead = s.lastRead := (rfl)
@[simp] theorem Chip.add_sync (s : Chip) (f : Fld) (v : Nat) : (s.add f v).sync = s.sync := (rfl)
@[simp] theorem Chip.add_drv (s : Chip) (f : Fld) (v : Nat) : (s.add f v).drv = s.drv := (rfl)
@[simp] theorem Chip.add_drvScale (s : Chip) (f : Fld) (v : Nat) : (s.add f v).drvScale = s.drvScale := (rfl)
@[simp] theorem Chip.add_drvHold (s : Chip) (f : Fld) (v : Nat) : (s.add f v).drvHold = s.drvHold := (rfl)
@[simp] theorem Chip.add_hub (s : Chip) (f : Fld) (v : Nat) : (s.add f v).hub = s.hub := (rfl)
@[simp] theorem Chip.add_alms (s : Chip) (f : Fld) (v : Nat) : (s.add f v).alms = s.alms := (rfl)
@[simp] theorem Chip.add_fuse (s : Chip) (f : Fld) (v : Nat) : (s.add f v).fuse = s.fuse := (rfl)
@[simp] theorem Chip.add_fuseReq (s : Chip) (f : Fld) (v : Nat) : (s.add f v).fuseReq = s.fuseReq := (rfl)
@[simp] theorem Chip.add_lnk (s : Chip) (f : Fld) (v : Nat) : (s.add f v).lnk = s.lnk := (rfl)
@[simp] theorem Chip.add_folded (s : Chip) (f : Fld) (v : Nat) : (s.add f v).folded = s.folded := (rfl)
@[simp] theorem Chip.add_cuffs (s : Chip) (f : Fld) (v : Nat) : (s.add f v).cuffs = s.cuffs := (rfl)
@[simp] theorem Chip.add_meas (s : Chip) (f : Fld) (v : Nat) : (s.add f v).meas = s.meas := (rfl)
@[simp] theorem Chip.add_pin (s : Chip) (f : Fld) (v : Nat) : (s.add f v).pin = s.pin := (rfl)
@[simp] theorem Chip.add_wide (s : Chip) (f : Fld) (v : Nat) : (s.add f v).wide = s.wide := (rfl)
@[simp] theorem Chip.add_can (s : Chip) (f : Fld) (v : Nat) : (s.add f v).can = s.can := (rfl)
@[simp] theorem Chip.add_bkg (s : Chip) (f : Fld) (v : Nat) : (s.add f v).bkg = s.bkg := (rfl)
@[simp] theorem Chip.add_chain (s : Chip) (f : Fld) (v : Nat) : (s.add f v).chain = s.chain := (rfl)
@[simp] theorem Chip.add_gate (s : Chip) (f : Fld) (v : Nat) : (s.add f v).gate = s.gate := (rfl)
@[simp] theorem Chip.add_mgmt (s : Chip) (f : Fld) (v : Nat) : (s.add f v).mgmt = s.mgmt := (rfl)
@[simp] theorem Chip.add_usCc (s : Chip) (f : Fld) (v : Nat) : (s.add f v).usCc = s.usCc := (rfl)

/-! The fields that `Chip.inc` leaves. -/

@[simp] theorem Chip.inc_shadow (s : Chip) (f : Fld) : (s.inc f).shadow = s.shadow := (rfl)
@[simp] theorem Chip.inc_work (s : Chip) (f : Fld) : (s.inc f).work = s.work := (rfl)
@[simp] theorem Chip.inc_fShadow (s : Chip) (f : Fld) : (s.inc f).fShadow = s.fShadow := (rfl)
@[simp] theorem Chip.inc_fWork (s : Chip) (f : Fld) : (s.inc f).fWork = s.fWork := (rfl)
@[simp] theorem Chip.inc_fPour (s : Chip) (f : Fld) : (s.inc f).fPour = s.fPour := (rfl)
@[simp] theorem Chip.inc_fArm (s : Chip) (f : Fld) : (s.inc f).fArm = s.fArm := (rfl)
@[simp] theorem Chip.inc_live (s : Chip) (f : Fld) : (s.inc f).live = s.live := (rfl)
@[simp] theorem Chip.inc_copySet (s : Chip) (f : Fld) : (s.inc f).copySet = s.copySet := (rfl)
@[simp] theorem Chip.inc_hiLatch (s : Chip) (f : Fld) : (s.inc f).hiLatch = s.hiLatch := (rfl)
@[simp] theorem Chip.inc_mem (s : Chip) (f : Fld) : (s.inc f).mem = s.mem := (rfl)
@[simp] theorem Chip.inc_nor (s : Chip) (f : Fld) : (s.inc f).nor = s.nor := (rfl)
@[simp] theorem Chip.inc_freeCnt (s : Chip) (f : Fld) : (s.inc f).freeCnt = s.freeCnt := (rfl)
@[simp] theorem Chip.inc_outcome (s : Chip) (f : Fld) : (s.inc f).outcome = s.outcome := (rfl)
@[simp] theorem Chip.inc_ct (s : Chip) (f : Fld) : (s.inc f).ct = s.ct := (rfl)
@[simp] theorem Chip.inc_ctFrac (s : Chip) (f : Fld) : (s.inc f).ctFrac = s.ctFrac := (rfl)
@[simp] theorem Chip.inc_fTime (s : Chip) (f : Fld) : (s.inc f).fTime = s.fTime := (rfl)
@[simp] theorem Chip.inc_evt (s : Chip) (f : Fld) : (s.inc f).evt = s.evt := (rfl)
@[simp] theorem Chip.inc_seam (s : Chip) (f : Fld) : (s.inc f).seam = s.seam := (rfl)
@[simp] theorem Chip.inc_clk (s : Chip) (f : Fld) : (s.inc f).clk = s.clk := (rfl)
@[simp] theorem Chip.inc_arm (s : Chip) (f : Fld) : (s.inc f).arm = s.arm := (rfl)
@[simp] theorem Chip.inc_pwr (s : Chip) (f : Fld) : (s.inc f).pwr = s.pwr := (rfl)
@[simp] theorem Chip.inc_boot (s : Chip) (f : Fld) : (s.inc f).boot = s.boot := (rfl)
@[simp] theorem Chip.inc_warden (s : Chip) (f : Fld) : (s.inc f).warden = s.warden := (rfl)
@[simp] theorem Chip.inc_test (s : Chip) (f : Fld) : (s.inc f).test = s.test := (rfl)
@[simp] theorem Chip.inc_engs (s : Chip) (f : Fld) : (s.inc f).engs = s.engs := (rfl)
@[simp] theorem Chip.inc_loader (s : Chip) (f : Fld) : (s.inc f).loader = s.loader := (rfl)
@[simp] theorem Chip.inc_ecc (s : Chip) (f : Fld) : (s.inc f).ecc = s.ecc := (rfl)
@[simp] theorem Chip.inc_runs (s : Chip) (f : Fld) : (s.inc f).runs = s.runs := (rfl)
@[simp] theorem Chip.inc_lastRead (s : Chip) (f : Fld) : (s.inc f).lastRead = s.lastRead := (rfl)
@[simp] theorem Chip.inc_sync (s : Chip) (f : Fld) : (s.inc f).sync = s.sync := (rfl)
@[simp] theorem Chip.inc_drv (s : Chip) (f : Fld) : (s.inc f).drv = s.drv := (rfl)
@[simp] theorem Chip.inc_drvScale (s : Chip) (f : Fld) : (s.inc f).drvScale = s.drvScale := (rfl)
@[simp] theorem Chip.inc_drvHold (s : Chip) (f : Fld) : (s.inc f).drvHold = s.drvHold := (rfl)
@[simp] theorem Chip.inc_hub (s : Chip) (f : Fld) : (s.inc f).hub = s.hub := (rfl)
@[simp] theorem Chip.inc_alms (s : Chip) (f : Fld) : (s.inc f).alms = s.alms := (rfl)
@[simp] theorem Chip.inc_fuse (s : Chip) (f : Fld) : (s.inc f).fuse = s.fuse := (rfl)
@[simp] theorem Chip.inc_fuseReq (s : Chip) (f : Fld) : (s.inc f).fuseReq = s.fuseReq := (rfl)
@[simp] theorem Chip.inc_lnk (s : Chip) (f : Fld) : (s.inc f).lnk = s.lnk := (rfl)
@[simp] theorem Chip.inc_folded (s : Chip) (f : Fld) : (s.inc f).folded = s.folded := (rfl)
@[simp] theorem Chip.inc_cuffs (s : Chip) (f : Fld) : (s.inc f).cuffs = s.cuffs := (rfl)
@[simp] theorem Chip.inc_meas (s : Chip) (f : Fld) : (s.inc f).meas = s.meas := (rfl)
@[simp] theorem Chip.inc_pin (s : Chip) (f : Fld) : (s.inc f).pin = s.pin := (rfl)
@[simp] theorem Chip.inc_wide (s : Chip) (f : Fld) : (s.inc f).wide = s.wide := (rfl)
@[simp] theorem Chip.inc_can (s : Chip) (f : Fld) : (s.inc f).can = s.can := (rfl)
@[simp] theorem Chip.inc_bkg (s : Chip) (f : Fld) : (s.inc f).bkg = s.bkg := (rfl)
@[simp] theorem Chip.inc_chain (s : Chip) (f : Fld) : (s.inc f).chain = s.chain := (rfl)
@[simp] theorem Chip.inc_gate (s : Chip) (f : Fld) : (s.inc f).gate = s.gate := (rfl)
@[simp] theorem Chip.inc_mgmt (s : Chip) (f : Fld) : (s.inc f).mgmt = s.mgmt := (rfl)
@[simp] theorem Chip.inc_usCc (s : Chip) (f : Fld) : (s.inc f).usCc = s.usCc := (rfl)

/-! The fields that `Chip.setLv` leaves. -/

@[simp] theorem Chip.setLv_regs (s : Chip) (f : Fld) (v : Nat) : (s.setLv f v).regs = s.regs := (rfl)
@[simp] theorem Chip.setLv_shadow (s : Chip) (f : Fld) (v : Nat) : (s.setLv f v).shadow = s.shadow := (rfl)
@[simp] theorem Chip.setLv_work (s : Chip) (f : Fld) (v : Nat) : (s.setLv f v).work = s.work := (rfl)
@[simp] theorem Chip.setLv_fShadow (s : Chip) (f : Fld) (v : Nat) : (s.setLv f v).fShadow = s.fShadow := (rfl)
@[simp] theorem Chip.setLv_fWork (s : Chip) (f : Fld) (v : Nat) : (s.setLv f v).fWork = s.fWork := (rfl)
@[simp] theorem Chip.setLv_fPour (s : Chip) (f : Fld) (v : Nat) : (s.setLv f v).fPour = s.fPour := (rfl)
@[simp] theorem Chip.setLv_fArm (s : Chip) (f : Fld) (v : Nat) : (s.setLv f v).fArm = s.fArm := (rfl)
@[simp] theorem Chip.setLv_copySet (s : Chip) (f : Fld) (v : Nat) : (s.setLv f v).copySet = s.copySet := (rfl)
@[simp] theorem Chip.setLv_hiLatch (s : Chip) (f : Fld) (v : Nat) : (s.setLv f v).hiLatch = s.hiLatch := (rfl)
@[simp] theorem Chip.setLv_mem (s : Chip) (f : Fld) (v : Nat) : (s.setLv f v).mem = s.mem := (rfl)
@[simp] theorem Chip.setLv_nor (s : Chip) (f : Fld) (v : Nat) : (s.setLv f v).nor = s.nor := (rfl)
@[simp] theorem Chip.setLv_freeCnt (s : Chip) (f : Fld) (v : Nat) : (s.setLv f v).freeCnt = s.freeCnt := (rfl)
@[simp] theorem Chip.setLv_outcome (s : Chip) (f : Fld) (v : Nat) : (s.setLv f v).outcome = s.outcome := (rfl)
@[simp] theorem Chip.setLv_ct (s : Chip) (f : Fld) (v : Nat) : (s.setLv f v).ct = s.ct := (rfl)
@[simp] theorem Chip.setLv_ctFrac (s : Chip) (f : Fld) (v : Nat) : (s.setLv f v).ctFrac = s.ctFrac := (rfl)
@[simp] theorem Chip.setLv_fTime (s : Chip) (f : Fld) (v : Nat) : (s.setLv f v).fTime = s.fTime := (rfl)
@[simp] theorem Chip.setLv_evt (s : Chip) (f : Fld) (v : Nat) : (s.setLv f v).evt = s.evt := (rfl)
@[simp] theorem Chip.setLv_seam (s : Chip) (f : Fld) (v : Nat) : (s.setLv f v).seam = s.seam := (rfl)
@[simp] theorem Chip.setLv_clk (s : Chip) (f : Fld) (v : Nat) : (s.setLv f v).clk = s.clk := (rfl)
@[simp] theorem Chip.setLv_arm (s : Chip) (f : Fld) (v : Nat) : (s.setLv f v).arm = s.arm := (rfl)
@[simp] theorem Chip.setLv_pwr (s : Chip) (f : Fld) (v : Nat) : (s.setLv f v).pwr = s.pwr := (rfl)
@[simp] theorem Chip.setLv_boot (s : Chip) (f : Fld) (v : Nat) : (s.setLv f v).boot = s.boot := (rfl)
@[simp] theorem Chip.setLv_warden (s : Chip) (f : Fld) (v : Nat) : (s.setLv f v).warden = s.warden := (rfl)
@[simp] theorem Chip.setLv_test (s : Chip) (f : Fld) (v : Nat) : (s.setLv f v).test = s.test := (rfl)
@[simp] theorem Chip.setLv_engs (s : Chip) (f : Fld) (v : Nat) : (s.setLv f v).engs = s.engs := (rfl)
@[simp] theorem Chip.setLv_loader (s : Chip) (f : Fld) (v : Nat) : (s.setLv f v).loader = s.loader := (rfl)
@[simp] theorem Chip.setLv_ecc (s : Chip) (f : Fld) (v : Nat) : (s.setLv f v).ecc = s.ecc := (rfl)
@[simp] theorem Chip.setLv_runs (s : Chip) (f : Fld) (v : Nat) : (s.setLv f v).runs = s.runs := (rfl)
@[simp] theorem Chip.setLv_lastRead (s : Chip) (f : Fld) (v : Nat) : (s.setLv f v).lastRead = s.lastRead := (rfl)
@[simp] theorem Chip.setLv_sync (s : Chip) (f : Fld) (v : Nat) : (s.setLv f v).sync = s.sync := (rfl)
@[simp] theorem Chip.setLv_drv (s : Chip) (f : Fld) (v : Nat) : (s.setLv f v).drv = s.drv := (rfl)
@[simp] theorem Chip.setLv_drvScale (s : Chip) (f : Fld) (v : Nat) : (s.setLv f v).drvScale = s.drvScale := (rfl)
@[simp] theorem Chip.setLv_drvHold (s : Chip) (f : Fld) (v : Nat) : (s.setLv f v).drvHold = s.drvHold := (rfl)
@[simp] theorem Chip.setLv_hub (s : Chip) (f : Fld) (v : Nat) : (s.setLv f v).hub = s.hub := (rfl)
@[simp] theorem Chip.setLv_alms (s : Chip) (f : Fld) (v : Nat) : (s.setLv f v).alms = s.alms := (rfl)
@[simp] theorem Chip.setLv_fuse (s : Chip) (f : Fld) (v : Nat) : (s.setLv f v).fuse = s.fuse := (rfl)
@[simp] theorem Chip.setLv_fuseReq (s : Chip) (f : Fld) (v : Nat) : (s.setLv f v).fuseReq = s.fuseReq := (rfl)
@[simp] theorem Chip.setLv_lnk (s : Chip) (f : Fld) (v : Nat) : (s.setLv f v).lnk = s.lnk := (rfl)
@[simp] theorem Chip.setLv_folded (s : Chip) (f : Fld) (v : Nat) : (s.setLv f v).folded = s.folded := (rfl)
@[simp] theorem Chip.setLv_cuffs (s : Chip) (f : Fld) (v : Nat) : (s.setLv f v).cuffs = s.cuffs := (rfl)
@[simp] theorem Chip.setLv_meas (s : Chip) (f : Fld) (v : Nat) : (s.setLv f v).meas = s.meas := (rfl)
@[simp] theorem Chip.setLv_pin (s : Chip) (f : Fld) (v : Nat) : (s.setLv f v).pin = s.pin := (rfl)
@[simp] theorem Chip.setLv_wide (s : Chip) (f : Fld) (v : Nat) : (s.setLv f v).wide = s.wide := (rfl)
@[simp] theorem Chip.setLv_can (s : Chip) (f : Fld) (v : Nat) : (s.setLv f v).can = s.can := (rfl)
@[simp] theorem Chip.setLv_bkg (s : Chip) (f : Fld) (v : Nat) : (s.setLv f v).bkg = s.bkg := (rfl)
@[simp] theorem Chip.setLv_chain (s : Chip) (f : Fld) (v : Nat) : (s.setLv f v).chain = s.chain := (rfl)
@[simp] theorem Chip.setLv_gate (s : Chip) (f : Fld) (v : Nat) : (s.setLv f v).gate = s.gate := (rfl)
@[simp] theorem Chip.setLv_mgmt (s : Chip) (f : Fld) (v : Nat) : (s.setLv f v).mgmt = s.mgmt := (rfl)
@[simp] theorem Chip.setLv_usCc (s : Chip) (f : Fld) (v : Nat) : (s.setLv f v).usCc = s.usCc := (rfl)

/-! The fields that `Chip.setLvB` leaves. -/

@[simp] theorem Chip.setLvB_regs (s : Chip) (f : Fld) (v : Bool) : (s.setLvB f v).regs = s.regs := (rfl)
@[simp] theorem Chip.setLvB_shadow (s : Chip) (f : Fld) (v : Bool) : (s.setLvB f v).shadow = s.shadow := (rfl)
@[simp] theorem Chip.setLvB_work (s : Chip) (f : Fld) (v : Bool) : (s.setLvB f v).work = s.work := (rfl)
@[simp] theorem Chip.setLvB_fShadow (s : Chip) (f : Fld) (v : Bool) : (s.setLvB f v).fShadow = s.fShadow := (rfl)
@[simp] theorem Chip.setLvB_fWork (s : Chip) (f : Fld) (v : Bool) : (s.setLvB f v).fWork = s.fWork := (rfl)
@[simp] theorem Chip.setLvB_fPour (s : Chip) (f : Fld) (v : Bool) : (s.setLvB f v).fPour = s.fPour := (rfl)
@[simp] theorem Chip.setLvB_fArm (s : Chip) (f : Fld) (v : Bool) : (s.setLvB f v).fArm = s.fArm := (rfl)
@[simp] theorem Chip.setLvB_copySet (s : Chip) (f : Fld) (v : Bool) : (s.setLvB f v).copySet = s.copySet := (rfl)
@[simp] theorem Chip.setLvB_hiLatch (s : Chip) (f : Fld) (v : Bool) : (s.setLvB f v).hiLatch = s.hiLatch := (rfl)
@[simp] theorem Chip.setLvB_mem (s : Chip) (f : Fld) (v : Bool) : (s.setLvB f v).mem = s.mem := (rfl)
@[simp] theorem Chip.setLvB_nor (s : Chip) (f : Fld) (v : Bool) : (s.setLvB f v).nor = s.nor := (rfl)
@[simp] theorem Chip.setLvB_freeCnt (s : Chip) (f : Fld) (v : Bool) : (s.setLvB f v).freeCnt = s.freeCnt := (rfl)
@[simp] theorem Chip.setLvB_outcome (s : Chip) (f : Fld) (v : Bool) : (s.setLvB f v).outcome = s.outcome := (rfl)
@[simp] theorem Chip.setLvB_ct (s : Chip) (f : Fld) (v : Bool) : (s.setLvB f v).ct = s.ct := (rfl)
@[simp] theorem Chip.setLvB_ctFrac (s : Chip) (f : Fld) (v : Bool) : (s.setLvB f v).ctFrac = s.ctFrac := (rfl)
@[simp] theorem Chip.setLvB_fTime (s : Chip) (f : Fld) (v : Bool) : (s.setLvB f v).fTime = s.fTime := (rfl)
@[simp] theorem Chip.setLvB_evt (s : Chip) (f : Fld) (v : Bool) : (s.setLvB f v).evt = s.evt := (rfl)
@[simp] theorem Chip.setLvB_seam (s : Chip) (f : Fld) (v : Bool) : (s.setLvB f v).seam = s.seam := (rfl)
@[simp] theorem Chip.setLvB_clk (s : Chip) (f : Fld) (v : Bool) : (s.setLvB f v).clk = s.clk := (rfl)
@[simp] theorem Chip.setLvB_arm (s : Chip) (f : Fld) (v : Bool) : (s.setLvB f v).arm = s.arm := (rfl)
@[simp] theorem Chip.setLvB_pwr (s : Chip) (f : Fld) (v : Bool) : (s.setLvB f v).pwr = s.pwr := (rfl)
@[simp] theorem Chip.setLvB_boot (s : Chip) (f : Fld) (v : Bool) : (s.setLvB f v).boot = s.boot := (rfl)
@[simp] theorem Chip.setLvB_warden (s : Chip) (f : Fld) (v : Bool) : (s.setLvB f v).warden = s.warden := (rfl)
@[simp] theorem Chip.setLvB_test (s : Chip) (f : Fld) (v : Bool) : (s.setLvB f v).test = s.test := (rfl)
@[simp] theorem Chip.setLvB_engs (s : Chip) (f : Fld) (v : Bool) : (s.setLvB f v).engs = s.engs := (rfl)
@[simp] theorem Chip.setLvB_loader (s : Chip) (f : Fld) (v : Bool) : (s.setLvB f v).loader = s.loader := (rfl)
@[simp] theorem Chip.setLvB_ecc (s : Chip) (f : Fld) (v : Bool) : (s.setLvB f v).ecc = s.ecc := (rfl)
@[simp] theorem Chip.setLvB_runs (s : Chip) (f : Fld) (v : Bool) : (s.setLvB f v).runs = s.runs := (rfl)
@[simp] theorem Chip.setLvB_lastRead (s : Chip) (f : Fld) (v : Bool) : (s.setLvB f v).lastRead = s.lastRead := (rfl)
@[simp] theorem Chip.setLvB_sync (s : Chip) (f : Fld) (v : Bool) : (s.setLvB f v).sync = s.sync := (rfl)
@[simp] theorem Chip.setLvB_drv (s : Chip) (f : Fld) (v : Bool) : (s.setLvB f v).drv = s.drv := (rfl)
@[simp] theorem Chip.setLvB_drvScale (s : Chip) (f : Fld) (v : Bool) : (s.setLvB f v).drvScale = s.drvScale := (rfl)
@[simp] theorem Chip.setLvB_drvHold (s : Chip) (f : Fld) (v : Bool) : (s.setLvB f v).drvHold = s.drvHold := (rfl)
@[simp] theorem Chip.setLvB_hub (s : Chip) (f : Fld) (v : Bool) : (s.setLvB f v).hub = s.hub := (rfl)
@[simp] theorem Chip.setLvB_alms (s : Chip) (f : Fld) (v : Bool) : (s.setLvB f v).alms = s.alms := (rfl)
@[simp] theorem Chip.setLvB_fuse (s : Chip) (f : Fld) (v : Bool) : (s.setLvB f v).fuse = s.fuse := (rfl)
@[simp] theorem Chip.setLvB_fuseReq (s : Chip) (f : Fld) (v : Bool) : (s.setLvB f v).fuseReq = s.fuseReq := (rfl)
@[simp] theorem Chip.setLvB_lnk (s : Chip) (f : Fld) (v : Bool) : (s.setLvB f v).lnk = s.lnk := (rfl)
@[simp] theorem Chip.setLvB_folded (s : Chip) (f : Fld) (v : Bool) : (s.setLvB f v).folded = s.folded := (rfl)
@[simp] theorem Chip.setLvB_cuffs (s : Chip) (f : Fld) (v : Bool) : (s.setLvB f v).cuffs = s.cuffs := (rfl)
@[simp] theorem Chip.setLvB_meas (s : Chip) (f : Fld) (v : Bool) : (s.setLvB f v).meas = s.meas := (rfl)
@[simp] theorem Chip.setLvB_pin (s : Chip) (f : Fld) (v : Bool) : (s.setLvB f v).pin = s.pin := (rfl)
@[simp] theorem Chip.setLvB_wide (s : Chip) (f : Fld) (v : Bool) : (s.setLvB f v).wide = s.wide := (rfl)
@[simp] theorem Chip.setLvB_can (s : Chip) (f : Fld) (v : Bool) : (s.setLvB f v).can = s.can := (rfl)
@[simp] theorem Chip.setLvB_bkg (s : Chip) (f : Fld) (v : Bool) : (s.setLvB f v).bkg = s.bkg := (rfl)
@[simp] theorem Chip.setLvB_chain (s : Chip) (f : Fld) (v : Bool) : (s.setLvB f v).chain = s.chain := (rfl)
@[simp] theorem Chip.setLvB_gate (s : Chip) (f : Fld) (v : Bool) : (s.setLvB f v).gate = s.gate := (rfl)
@[simp] theorem Chip.setLvB_mgmt (s : Chip) (f : Fld) (v : Bool) : (s.setLvB f v).mgmt = s.mgmt := (rfl)
@[simp] theorem Chip.setLvB_usCc (s : Chip) (f : Fld) (v : Bool) : (s.setLvB f v).usCc = s.usCc := (rfl)

/-! The fields that `Chip.putSh` leaves. -/

@[simp] theorem Chip.putSh_regs (s : Chip) (f : Fld) (v : Nat) : (s.putSh f v).regs = s.regs := (rfl)
@[simp] theorem Chip.putSh_work (s : Chip) (f : Fld) (v : Nat) : (s.putSh f v).work = s.work := (rfl)
@[simp] theorem Chip.putSh_fShadow (s : Chip) (f : Fld) (v : Nat) : (s.putSh f v).fShadow = s.fShadow := (rfl)
@[simp] theorem Chip.putSh_fWork (s : Chip) (f : Fld) (v : Nat) : (s.putSh f v).fWork = s.fWork := (rfl)
@[simp] theorem Chip.putSh_fPour (s : Chip) (f : Fld) (v : Nat) : (s.putSh f v).fPour = s.fPour := (rfl)
@[simp] theorem Chip.putSh_fArm (s : Chip) (f : Fld) (v : Nat) : (s.putSh f v).fArm = s.fArm := (rfl)
@[simp] theorem Chip.putSh_live (s : Chip) (f : Fld) (v : Nat) : (s.putSh f v).live = s.live := (rfl)
@[simp] theorem Chip.putSh_copySet (s : Chip) (f : Fld) (v : Nat) : (s.putSh f v).copySet = s.copySet := (rfl)
@[simp] theorem Chip.putSh_hiLatch (s : Chip) (f : Fld) (v : Nat) : (s.putSh f v).hiLatch = s.hiLatch := (rfl)
@[simp] theorem Chip.putSh_mem (s : Chip) (f : Fld) (v : Nat) : (s.putSh f v).mem = s.mem := (rfl)
@[simp] theorem Chip.putSh_nor (s : Chip) (f : Fld) (v : Nat) : (s.putSh f v).nor = s.nor := (rfl)
@[simp] theorem Chip.putSh_freeCnt (s : Chip) (f : Fld) (v : Nat) : (s.putSh f v).freeCnt = s.freeCnt := (rfl)
@[simp] theorem Chip.putSh_outcome (s : Chip) (f : Fld) (v : Nat) : (s.putSh f v).outcome = s.outcome := (rfl)
@[simp] theorem Chip.putSh_ct (s : Chip) (f : Fld) (v : Nat) : (s.putSh f v).ct = s.ct := (rfl)
@[simp] theorem Chip.putSh_ctFrac (s : Chip) (f : Fld) (v : Nat) : (s.putSh f v).ctFrac = s.ctFrac := (rfl)
@[simp] theorem Chip.putSh_fTime (s : Chip) (f : Fld) (v : Nat) : (s.putSh f v).fTime = s.fTime := (rfl)
@[simp] theorem Chip.putSh_evt (s : Chip) (f : Fld) (v : Nat) : (s.putSh f v).evt = s.evt := (rfl)
@[simp] theorem Chip.putSh_seam (s : Chip) (f : Fld) (v : Nat) : (s.putSh f v).seam = s.seam := (rfl)
@[simp] theorem Chip.putSh_clk (s : Chip) (f : Fld) (v : Nat) : (s.putSh f v).clk = s.clk := (rfl)
@[simp] theorem Chip.putSh_arm (s : Chip) (f : Fld) (v : Nat) : (s.putSh f v).arm = s.arm := (rfl)
@[simp] theorem Chip.putSh_pwr (s : Chip) (f : Fld) (v : Nat) : (s.putSh f v).pwr = s.pwr := (rfl)
@[simp] theorem Chip.putSh_boot (s : Chip) (f : Fld) (v : Nat) : (s.putSh f v).boot = s.boot := (rfl)
@[simp] theorem Chip.putSh_warden (s : Chip) (f : Fld) (v : Nat) : (s.putSh f v).warden = s.warden := (rfl)
@[simp] theorem Chip.putSh_test (s : Chip) (f : Fld) (v : Nat) : (s.putSh f v).test = s.test := (rfl)
@[simp] theorem Chip.putSh_engs (s : Chip) (f : Fld) (v : Nat) : (s.putSh f v).engs = s.engs := (rfl)
@[simp] theorem Chip.putSh_loader (s : Chip) (f : Fld) (v : Nat) : (s.putSh f v).loader = s.loader := (rfl)
@[simp] theorem Chip.putSh_ecc (s : Chip) (f : Fld) (v : Nat) : (s.putSh f v).ecc = s.ecc := (rfl)
@[simp] theorem Chip.putSh_runs (s : Chip) (f : Fld) (v : Nat) : (s.putSh f v).runs = s.runs := (rfl)
@[simp] theorem Chip.putSh_lastRead (s : Chip) (f : Fld) (v : Nat) : (s.putSh f v).lastRead = s.lastRead := (rfl)
@[simp] theorem Chip.putSh_sync (s : Chip) (f : Fld) (v : Nat) : (s.putSh f v).sync = s.sync := (rfl)
@[simp] theorem Chip.putSh_drv (s : Chip) (f : Fld) (v : Nat) : (s.putSh f v).drv = s.drv := (rfl)
@[simp] theorem Chip.putSh_drvScale (s : Chip) (f : Fld) (v : Nat) : (s.putSh f v).drvScale = s.drvScale := (rfl)
@[simp] theorem Chip.putSh_drvHold (s : Chip) (f : Fld) (v : Nat) : (s.putSh f v).drvHold = s.drvHold := (rfl)
@[simp] theorem Chip.putSh_hub (s : Chip) (f : Fld) (v : Nat) : (s.putSh f v).hub = s.hub := (rfl)
@[simp] theorem Chip.putSh_alms (s : Chip) (f : Fld) (v : Nat) : (s.putSh f v).alms = s.alms := (rfl)
@[simp] theorem Chip.putSh_fuse (s : Chip) (f : Fld) (v : Nat) : (s.putSh f v).fuse = s.fuse := (rfl)
@[simp] theorem Chip.putSh_fuseReq (s : Chip) (f : Fld) (v : Nat) : (s.putSh f v).fuseReq = s.fuseReq := (rfl)
@[simp] theorem Chip.putSh_lnk (s : Chip) (f : Fld) (v : Nat) : (s.putSh f v).lnk = s.lnk := (rfl)
@[simp] theorem Chip.putSh_folded (s : Chip) (f : Fld) (v : Nat) : (s.putSh f v).folded = s.folded := (rfl)
@[simp] theorem Chip.putSh_cuffs (s : Chip) (f : Fld) (v : Nat) : (s.putSh f v).cuffs = s.cuffs := (rfl)
@[simp] theorem Chip.putSh_meas (s : Chip) (f : Fld) (v : Nat) : (s.putSh f v).meas = s.meas := (rfl)
@[simp] theorem Chip.putSh_pin (s : Chip) (f : Fld) (v : Nat) : (s.putSh f v).pin = s.pin := (rfl)
@[simp] theorem Chip.putSh_wide (s : Chip) (f : Fld) (v : Nat) : (s.putSh f v).wide = s.wide := (rfl)
@[simp] theorem Chip.putSh_can (s : Chip) (f : Fld) (v : Nat) : (s.putSh f v).can = s.can := (rfl)
@[simp] theorem Chip.putSh_bkg (s : Chip) (f : Fld) (v : Nat) : (s.putSh f v).bkg = s.bkg := (rfl)
@[simp] theorem Chip.putSh_chain (s : Chip) (f : Fld) (v : Nat) : (s.putSh f v).chain = s.chain := (rfl)
@[simp] theorem Chip.putSh_gate (s : Chip) (f : Fld) (v : Nat) : (s.putSh f v).gate = s.gate := (rfl)
@[simp] theorem Chip.putSh_mgmt (s : Chip) (f : Fld) (v : Nat) : (s.putSh f v).mgmt = s.mgmt := (rfl)
@[simp] theorem Chip.putSh_usCc (s : Chip) (f : Fld) (v : Nat) : (s.putSh f v).usCc = s.usCc := (rfl)

/-! The fields that `Chip.setEng` leaves. -/

@[simp] theorem Chip.setEng_regs (s : Chip) (e : Nat) (x : Engine) : (s.setEng e x).regs = s.regs := (rfl)
@[simp] theorem Chip.setEng_shadow (s : Chip) (e : Nat) (x : Engine) : (s.setEng e x).shadow = s.shadow := (rfl)
@[simp] theorem Chip.setEng_work (s : Chip) (e : Nat) (x : Engine) : (s.setEng e x).work = s.work := (rfl)
@[simp] theorem Chip.setEng_fShadow (s : Chip) (e : Nat) (x : Engine) : (s.setEng e x).fShadow = s.fShadow := (rfl)
@[simp] theorem Chip.setEng_fWork (s : Chip) (e : Nat) (x : Engine) : (s.setEng e x).fWork = s.fWork := (rfl)
@[simp] theorem Chip.setEng_fPour (s : Chip) (e : Nat) (x : Engine) : (s.setEng e x).fPour = s.fPour := (rfl)
@[simp] theorem Chip.setEng_fArm (s : Chip) (e : Nat) (x : Engine) : (s.setEng e x).fArm = s.fArm := (rfl)
@[simp] theorem Chip.setEng_live (s : Chip) (e : Nat) (x : Engine) : (s.setEng e x).live = s.live := (rfl)
@[simp] theorem Chip.setEng_copySet (s : Chip) (e : Nat) (x : Engine) : (s.setEng e x).copySet = s.copySet := (rfl)
@[simp] theorem Chip.setEng_hiLatch (s : Chip) (e : Nat) (x : Engine) : (s.setEng e x).hiLatch = s.hiLatch := (rfl)
@[simp] theorem Chip.setEng_mem (s : Chip) (e : Nat) (x : Engine) : (s.setEng e x).mem = s.mem := (rfl)
@[simp] theorem Chip.setEng_nor (s : Chip) (e : Nat) (x : Engine) : (s.setEng e x).nor = s.nor := (rfl)
@[simp] theorem Chip.setEng_freeCnt (s : Chip) (e : Nat) (x : Engine) : (s.setEng e x).freeCnt = s.freeCnt := (rfl)
@[simp] theorem Chip.setEng_outcome (s : Chip) (e : Nat) (x : Engine) : (s.setEng e x).outcome = s.outcome := (rfl)
@[simp] theorem Chip.setEng_ct (s : Chip) (e : Nat) (x : Engine) : (s.setEng e x).ct = s.ct := (rfl)
@[simp] theorem Chip.setEng_ctFrac (s : Chip) (e : Nat) (x : Engine) : (s.setEng e x).ctFrac = s.ctFrac := (rfl)
@[simp] theorem Chip.setEng_fTime (s : Chip) (e : Nat) (x : Engine) : (s.setEng e x).fTime = s.fTime := (rfl)
@[simp] theorem Chip.setEng_evt (s : Chip) (e : Nat) (x : Engine) : (s.setEng e x).evt = s.evt := (rfl)
@[simp] theorem Chip.setEng_seam (s : Chip) (e : Nat) (x : Engine) : (s.setEng e x).seam = s.seam := (rfl)
@[simp] theorem Chip.setEng_clk (s : Chip) (e : Nat) (x : Engine) : (s.setEng e x).clk = s.clk := (rfl)
@[simp] theorem Chip.setEng_arm (s : Chip) (e : Nat) (x : Engine) : (s.setEng e x).arm = s.arm := (rfl)
@[simp] theorem Chip.setEng_pwr (s : Chip) (e : Nat) (x : Engine) : (s.setEng e x).pwr = s.pwr := (rfl)
@[simp] theorem Chip.setEng_boot (s : Chip) (e : Nat) (x : Engine) : (s.setEng e x).boot = s.boot := (rfl)
@[simp] theorem Chip.setEng_warden (s : Chip) (e : Nat) (x : Engine) : (s.setEng e x).warden = s.warden := (rfl)
@[simp] theorem Chip.setEng_test (s : Chip) (e : Nat) (x : Engine) : (s.setEng e x).test = s.test := (rfl)
@[simp] theorem Chip.setEng_loader (s : Chip) (e : Nat) (x : Engine) : (s.setEng e x).loader = s.loader := (rfl)
@[simp] theorem Chip.setEng_ecc (s : Chip) (e : Nat) (x : Engine) : (s.setEng e x).ecc = s.ecc := (rfl)
@[simp] theorem Chip.setEng_runs (s : Chip) (e : Nat) (x : Engine) : (s.setEng e x).runs = s.runs := (rfl)
@[simp] theorem Chip.setEng_lastRead (s : Chip) (e : Nat) (x : Engine) : (s.setEng e x).lastRead = s.lastRead := (rfl)
@[simp] theorem Chip.setEng_sync (s : Chip) (e : Nat) (x : Engine) : (s.setEng e x).sync = s.sync := (rfl)
@[simp] theorem Chip.setEng_drv (s : Chip) (e : Nat) (x : Engine) : (s.setEng e x).drv = s.drv := (rfl)
@[simp] theorem Chip.setEng_drvScale (s : Chip) (e : Nat) (x : Engine) : (s.setEng e x).drvScale = s.drvScale := (rfl)
@[simp] theorem Chip.setEng_drvHold (s : Chip) (e : Nat) (x : Engine) : (s.setEng e x).drvHold = s.drvHold := (rfl)
@[simp] theorem Chip.setEng_hub (s : Chip) (e : Nat) (x : Engine) : (s.setEng e x).hub = s.hub := (rfl)
@[simp] theorem Chip.setEng_alms (s : Chip) (e : Nat) (x : Engine) : (s.setEng e x).alms = s.alms := (rfl)
@[simp] theorem Chip.setEng_fuse (s : Chip) (e : Nat) (x : Engine) : (s.setEng e x).fuse = s.fuse := (rfl)
@[simp] theorem Chip.setEng_fuseReq (s : Chip) (e : Nat) (x : Engine) : (s.setEng e x).fuseReq = s.fuseReq := (rfl)
@[simp] theorem Chip.setEng_lnk (s : Chip) (e : Nat) (x : Engine) : (s.setEng e x).lnk = s.lnk := (rfl)
@[simp] theorem Chip.setEng_folded (s : Chip) (e : Nat) (x : Engine) : (s.setEng e x).folded = s.folded := (rfl)
@[simp] theorem Chip.setEng_cuffs (s : Chip) (e : Nat) (x : Engine) : (s.setEng e x).cuffs = s.cuffs := (rfl)
@[simp] theorem Chip.setEng_meas (s : Chip) (e : Nat) (x : Engine) : (s.setEng e x).meas = s.meas := (rfl)
@[simp] theorem Chip.setEng_pin (s : Chip) (e : Nat) (x : Engine) : (s.setEng e x).pin = s.pin := (rfl)
@[simp] theorem Chip.setEng_wide (s : Chip) (e : Nat) (x : Engine) : (s.setEng e x).wide = s.wide := (rfl)
@[simp] theorem Chip.setEng_can (s : Chip) (e : Nat) (x : Engine) : (s.setEng e x).can = s.can := (rfl)
@[simp] theorem Chip.setEng_bkg (s : Chip) (e : Nat) (x : Engine) : (s.setEng e x).bkg = s.bkg := (rfl)
@[simp] theorem Chip.setEng_chain (s : Chip) (e : Nat) (x : Engine) : (s.setEng e x).chain = s.chain := (rfl)
@[simp] theorem Chip.setEng_gate (s : Chip) (e : Nat) (x : Engine) : (s.setEng e x).gate = s.gate := (rfl)
@[simp] theorem Chip.setEng_mgmt (s : Chip) (e : Nat) (x : Engine) : (s.setEng e x).mgmt = s.mgmt := (rfl)
@[simp] theorem Chip.setEng_usCc (s : Chip) (e : Nat) (x : Engine) : (s.setEng e x).usCc = s.usCc := (rfl)

/-! The fields that `Chip.drew` leaves. -/

@[simp] theorem Chip.drew_regs (s : Chip) : (s.drew).regs = s.regs := (rfl)
@[simp] theorem Chip.drew_shadow (s : Chip) : (s.drew).shadow = s.shadow := (rfl)
@[simp] theorem Chip.drew_work (s : Chip) : (s.drew).work = s.work := (rfl)
@[simp] theorem Chip.drew_fShadow (s : Chip) : (s.drew).fShadow = s.fShadow := (rfl)
@[simp] theorem Chip.drew_fWork (s : Chip) : (s.drew).fWork = s.fWork := (rfl)
@[simp] theorem Chip.drew_fPour (s : Chip) : (s.drew).fPour = s.fPour := (rfl)
@[simp] theorem Chip.drew_fArm (s : Chip) : (s.drew).fArm = s.fArm := (rfl)
@[simp] theorem Chip.drew_live (s : Chip) : (s.drew).live = s.live := (rfl)
@[simp] theorem Chip.drew_copySet (s : Chip) : (s.drew).copySet = s.copySet := (rfl)
@[simp] theorem Chip.drew_hiLatch (s : Chip) : (s.drew).hiLatch = s.hiLatch := (rfl)
@[simp] theorem Chip.drew_mem (s : Chip) : (s.drew).mem = s.mem := (rfl)
@[simp] theorem Chip.drew_nor (s : Chip) : (s.drew).nor = s.nor := (rfl)
@[simp] theorem Chip.drew_outcome (s : Chip) : (s.drew).outcome = s.outcome := (rfl)
@[simp] theorem Chip.drew_ct (s : Chip) : (s.drew).ct = s.ct := (rfl)
@[simp] theorem Chip.drew_ctFrac (s : Chip) : (s.drew).ctFrac = s.ctFrac := (rfl)
@[simp] theorem Chip.drew_fTime (s : Chip) : (s.drew).fTime = s.fTime := (rfl)
@[simp] theorem Chip.drew_evt (s : Chip) : (s.drew).evt = s.evt := (rfl)
@[simp] theorem Chip.drew_seam (s : Chip) : (s.drew).seam = s.seam := (rfl)
@[simp] theorem Chip.drew_clk (s : Chip) : (s.drew).clk = s.clk := (rfl)
@[simp] theorem Chip.drew_arm (s : Chip) : (s.drew).arm = s.arm := (rfl)
@[simp] theorem Chip.drew_pwr (s : Chip) : (s.drew).pwr = s.pwr := (rfl)
@[simp] theorem Chip.drew_boot (s : Chip) : (s.drew).boot = s.boot := (rfl)
@[simp] theorem Chip.drew_warden (s : Chip) : (s.drew).warden = s.warden := (rfl)
@[simp] theorem Chip.drew_test (s : Chip) : (s.drew).test = s.test := (rfl)
@[simp] theorem Chip.drew_engs (s : Chip) : (s.drew).engs = s.engs := (rfl)
@[simp] theorem Chip.drew_loader (s : Chip) : (s.drew).loader = s.loader := (rfl)
@[simp] theorem Chip.drew_ecc (s : Chip) : (s.drew).ecc = s.ecc := (rfl)
@[simp] theorem Chip.drew_runs (s : Chip) : (s.drew).runs = s.runs := (rfl)
@[simp] theorem Chip.drew_lastRead (s : Chip) : (s.drew).lastRead = s.lastRead := (rfl)
@[simp] theorem Chip.drew_sync (s : Chip) : (s.drew).sync = s.sync := (rfl)
@[simp] theorem Chip.drew_drv (s : Chip) : (s.drew).drv = s.drv := (rfl)
@[simp] theorem Chip.drew_drvScale (s : Chip) : (s.drew).drvScale = s.drvScale := (rfl)
@[simp] theorem Chip.drew_drvHold (s : Chip) : (s.drew).drvHold = s.drvHold := (rfl)
@[simp] theorem Chip.drew_hub (s : Chip) : (s.drew).hub = s.hub := (rfl)
@[simp] theorem Chip.drew_alms (s : Chip) : (s.drew).alms = s.alms := (rfl)
@[simp] theorem Chip.drew_fuse (s : Chip) : (s.drew).fuse = s.fuse := (rfl)
@[simp] theorem Chip.drew_fuseReq (s : Chip) : (s.drew).fuseReq = s.fuseReq := (rfl)
@[simp] theorem Chip.drew_lnk (s : Chip) : (s.drew).lnk = s.lnk := (rfl)
@[simp] theorem Chip.drew_folded (s : Chip) : (s.drew).folded = s.folded := (rfl)
@[simp] theorem Chip.drew_cuffs (s : Chip) : (s.drew).cuffs = s.cuffs := (rfl)
@[simp] theorem Chip.drew_meas (s : Chip) : (s.drew).meas = s.meas := (rfl)
@[simp] theorem Chip.drew_pin (s : Chip) : (s.drew).pin = s.pin := (rfl)
@[simp] theorem Chip.drew_wide (s : Chip) : (s.drew).wide = s.wide := (rfl)
@[simp] theorem Chip.drew_can (s : Chip) : (s.drew).can = s.can := (rfl)
@[simp] theorem Chip.drew_bkg (s : Chip) : (s.drew).bkg = s.bkg := (rfl)
@[simp] theorem Chip.drew_chain (s : Chip) : (s.drew).chain = s.chain := (rfl)
@[simp] theorem Chip.drew_gate (s : Chip) : (s.drew).gate = s.gate := (rfl)
@[simp] theorem Chip.drew_mgmt (s : Chip) : (s.drew).mgmt = s.mgmt := (rfl)
@[simp] theorem Chip.drew_usCc (s : Chip) : (s.drew).usCc = s.usCc := (rfl)

/-! The fields that `Chip.wrb` leaves. -/

@[simp] theorem Chip.wrb_regs (s : Chip) (a : Nat) (b : BitVec 8) : (s.wrb a b).regs = s.regs := (rfl)
@[simp] theorem Chip.wrb_shadow (s : Chip) (a : Nat) (b : BitVec 8) : (s.wrb a b).shadow = s.shadow := (rfl)
@[simp] theorem Chip.wrb_work (s : Chip) (a : Nat) (b : BitVec 8) : (s.wrb a b).work = s.work := (rfl)
@[simp] theorem Chip.wrb_fShadow (s : Chip) (a : Nat) (b : BitVec 8) : (s.wrb a b).fShadow = s.fShadow := (rfl)
@[simp] theorem Chip.wrb_fWork (s : Chip) (a : Nat) (b : BitVec 8) : (s.wrb a b).fWork = s.fWork := (rfl)
@[simp] theorem Chip.wrb_fPour (s : Chip) (a : Nat) (b : BitVec 8) : (s.wrb a b).fPour = s.fPour := (rfl)
@[simp] theorem Chip.wrb_fArm (s : Chip) (a : Nat) (b : BitVec 8) : (s.wrb a b).fArm = s.fArm := (rfl)
@[simp] theorem Chip.wrb_live (s : Chip) (a : Nat) (b : BitVec 8) : (s.wrb a b).live = s.live := (rfl)
@[simp] theorem Chip.wrb_copySet (s : Chip) (a : Nat) (b : BitVec 8) : (s.wrb a b).copySet = s.copySet := (rfl)
@[simp] theorem Chip.wrb_hiLatch (s : Chip) (a : Nat) (b : BitVec 8) : (s.wrb a b).hiLatch = s.hiLatch := (rfl)
@[simp] theorem Chip.wrb_nor (s : Chip) (a : Nat) (b : BitVec 8) : (s.wrb a b).nor = s.nor := (rfl)
@[simp] theorem Chip.wrb_freeCnt (s : Chip) (a : Nat) (b : BitVec 8) : (s.wrb a b).freeCnt = s.freeCnt := (rfl)
@[simp] theorem Chip.wrb_outcome (s : Chip) (a : Nat) (b : BitVec 8) : (s.wrb a b).outcome = s.outcome := (rfl)
@[simp] theorem Chip.wrb_ct (s : Chip) (a : Nat) (b : BitVec 8) : (s.wrb a b).ct = s.ct := (rfl)
@[simp] theorem Chip.wrb_ctFrac (s : Chip) (a : Nat) (b : BitVec 8) : (s.wrb a b).ctFrac = s.ctFrac := (rfl)
@[simp] theorem Chip.wrb_fTime (s : Chip) (a : Nat) (b : BitVec 8) : (s.wrb a b).fTime = s.fTime := (rfl)
@[simp] theorem Chip.wrb_evt (s : Chip) (a : Nat) (b : BitVec 8) : (s.wrb a b).evt = s.evt := (rfl)
@[simp] theorem Chip.wrb_seam (s : Chip) (a : Nat) (b : BitVec 8) : (s.wrb a b).seam = s.seam := (rfl)
@[simp] theorem Chip.wrb_clk (s : Chip) (a : Nat) (b : BitVec 8) : (s.wrb a b).clk = s.clk := (rfl)
@[simp] theorem Chip.wrb_arm (s : Chip) (a : Nat) (b : BitVec 8) : (s.wrb a b).arm = s.arm := (rfl)
@[simp] theorem Chip.wrb_pwr (s : Chip) (a : Nat) (b : BitVec 8) : (s.wrb a b).pwr = s.pwr := (rfl)
@[simp] theorem Chip.wrb_boot (s : Chip) (a : Nat) (b : BitVec 8) : (s.wrb a b).boot = s.boot := (rfl)
@[simp] theorem Chip.wrb_warden (s : Chip) (a : Nat) (b : BitVec 8) : (s.wrb a b).warden = s.warden := (rfl)
@[simp] theorem Chip.wrb_test (s : Chip) (a : Nat) (b : BitVec 8) : (s.wrb a b).test = s.test := (rfl)
@[simp] theorem Chip.wrb_engs (s : Chip) (a : Nat) (b : BitVec 8) : (s.wrb a b).engs = s.engs := (rfl)
@[simp] theorem Chip.wrb_loader (s : Chip) (a : Nat) (b : BitVec 8) : (s.wrb a b).loader = s.loader := (rfl)
@[simp] theorem Chip.wrb_runs (s : Chip) (a : Nat) (b : BitVec 8) : (s.wrb a b).runs = s.runs := (rfl)
@[simp] theorem Chip.wrb_lastRead (s : Chip) (a : Nat) (b : BitVec 8) : (s.wrb a b).lastRead = s.lastRead := (rfl)
@[simp] theorem Chip.wrb_sync (s : Chip) (a : Nat) (b : BitVec 8) : (s.wrb a b).sync = s.sync := (rfl)
@[simp] theorem Chip.wrb_drv (s : Chip) (a : Nat) (b : BitVec 8) : (s.wrb a b).drv = s.drv := (rfl)
@[simp] theorem Chip.wrb_drvScale (s : Chip) (a : Nat) (b : BitVec 8) : (s.wrb a b).drvScale = s.drvScale := (rfl)
@[simp] theorem Chip.wrb_drvHold (s : Chip) (a : Nat) (b : BitVec 8) : (s.wrb a b).drvHold = s.drvHold := (rfl)
@[simp] theorem Chip.wrb_hub (s : Chip) (a : Nat) (b : BitVec 8) : (s.wrb a b).hub = s.hub := (rfl)
@[simp] theorem Chip.wrb_alms (s : Chip) (a : Nat) (b : BitVec 8) : (s.wrb a b).alms = s.alms := (rfl)
@[simp] theorem Chip.wrb_fuse (s : Chip) (a : Nat) (b : BitVec 8) : (s.wrb a b).fuse = s.fuse := (rfl)
@[simp] theorem Chip.wrb_fuseReq (s : Chip) (a : Nat) (b : BitVec 8) : (s.wrb a b).fuseReq = s.fuseReq := (rfl)
@[simp] theorem Chip.wrb_lnk (s : Chip) (a : Nat) (b : BitVec 8) : (s.wrb a b).lnk = s.lnk := (rfl)
@[simp] theorem Chip.wrb_folded (s : Chip) (a : Nat) (b : BitVec 8) : (s.wrb a b).folded = s.folded := (rfl)
@[simp] theorem Chip.wrb_cuffs (s : Chip) (a : Nat) (b : BitVec 8) : (s.wrb a b).cuffs = s.cuffs := (rfl)
@[simp] theorem Chip.wrb_meas (s : Chip) (a : Nat) (b : BitVec 8) : (s.wrb a b).meas = s.meas := (rfl)
@[simp] theorem Chip.wrb_pin (s : Chip) (a : Nat) (b : BitVec 8) : (s.wrb a b).pin = s.pin := (rfl)
@[simp] theorem Chip.wrb_wide (s : Chip) (a : Nat) (b : BitVec 8) : (s.wrb a b).wide = s.wide := (rfl)
@[simp] theorem Chip.wrb_can (s : Chip) (a : Nat) (b : BitVec 8) : (s.wrb a b).can = s.can := (rfl)
@[simp] theorem Chip.wrb_bkg (s : Chip) (a : Nat) (b : BitVec 8) : (s.wrb a b).bkg = s.bkg := (rfl)
@[simp] theorem Chip.wrb_chain (s : Chip) (a : Nat) (b : BitVec 8) : (s.wrb a b).chain = s.chain := (rfl)
@[simp] theorem Chip.wrb_gate (s : Chip) (a : Nat) (b : BitVec 8) : (s.wrb a b).gate = s.gate := (rfl)
@[simp] theorem Chip.wrb_mgmt (s : Chip) (a : Nat) (b : BitVec 8) : (s.wrb a b).mgmt = s.mgmt := (rfl)
@[simp] theorem Chip.wrb_usCc (s : Chip) (a : Nat) (b : BitVec 8) : (s.wrb a b).usCc = s.usCc := (rfl)

/-! The fields that `Chip.norw` leaves. -/

@[simp] theorem Chip.norw_regs (s : Chip) (a : Nat) (b : BitVec 8) : (s.norw a b).regs = s.regs := (rfl)
@[simp] theorem Chip.norw_shadow (s : Chip) (a : Nat) (b : BitVec 8) : (s.norw a b).shadow = s.shadow := (rfl)
@[simp] theorem Chip.norw_work (s : Chip) (a : Nat) (b : BitVec 8) : (s.norw a b).work = s.work := (rfl)
@[simp] theorem Chip.norw_fShadow (s : Chip) (a : Nat) (b : BitVec 8) : (s.norw a b).fShadow = s.fShadow := (rfl)
@[simp] theorem Chip.norw_fWork (s : Chip) (a : Nat) (b : BitVec 8) : (s.norw a b).fWork = s.fWork := (rfl)
@[simp] theorem Chip.norw_fPour (s : Chip) (a : Nat) (b : BitVec 8) : (s.norw a b).fPour = s.fPour := (rfl)
@[simp] theorem Chip.norw_fArm (s : Chip) (a : Nat) (b : BitVec 8) : (s.norw a b).fArm = s.fArm := (rfl)
@[simp] theorem Chip.norw_live (s : Chip) (a : Nat) (b : BitVec 8) : (s.norw a b).live = s.live := (rfl)
@[simp] theorem Chip.norw_copySet (s : Chip) (a : Nat) (b : BitVec 8) : (s.norw a b).copySet = s.copySet := (rfl)
@[simp] theorem Chip.norw_hiLatch (s : Chip) (a : Nat) (b : BitVec 8) : (s.norw a b).hiLatch = s.hiLatch := (rfl)
@[simp] theorem Chip.norw_mem (s : Chip) (a : Nat) (b : BitVec 8) : (s.norw a b).mem = s.mem := (rfl)
@[simp] theorem Chip.norw_freeCnt (s : Chip) (a : Nat) (b : BitVec 8) : (s.norw a b).freeCnt = s.freeCnt := (rfl)
@[simp] theorem Chip.norw_outcome (s : Chip) (a : Nat) (b : BitVec 8) : (s.norw a b).outcome = s.outcome := (rfl)
@[simp] theorem Chip.norw_ct (s : Chip) (a : Nat) (b : BitVec 8) : (s.norw a b).ct = s.ct := (rfl)
@[simp] theorem Chip.norw_ctFrac (s : Chip) (a : Nat) (b : BitVec 8) : (s.norw a b).ctFrac = s.ctFrac := (rfl)
@[simp] theorem Chip.norw_fTime (s : Chip) (a : Nat) (b : BitVec 8) : (s.norw a b).fTime = s.fTime := (rfl)
@[simp] theorem Chip.norw_evt (s : Chip) (a : Nat) (b : BitVec 8) : (s.norw a b).evt = s.evt := (rfl)
@[simp] theorem Chip.norw_seam (s : Chip) (a : Nat) (b : BitVec 8) : (s.norw a b).seam = s.seam := (rfl)
@[simp] theorem Chip.norw_clk (s : Chip) (a : Nat) (b : BitVec 8) : (s.norw a b).clk = s.clk := (rfl)
@[simp] theorem Chip.norw_arm (s : Chip) (a : Nat) (b : BitVec 8) : (s.norw a b).arm = s.arm := (rfl)
@[simp] theorem Chip.norw_pwr (s : Chip) (a : Nat) (b : BitVec 8) : (s.norw a b).pwr = s.pwr := (rfl)
@[simp] theorem Chip.norw_boot (s : Chip) (a : Nat) (b : BitVec 8) : (s.norw a b).boot = s.boot := (rfl)
@[simp] theorem Chip.norw_warden (s : Chip) (a : Nat) (b : BitVec 8) : (s.norw a b).warden = s.warden := (rfl)
@[simp] theorem Chip.norw_test (s : Chip) (a : Nat) (b : BitVec 8) : (s.norw a b).test = s.test := (rfl)
@[simp] theorem Chip.norw_engs (s : Chip) (a : Nat) (b : BitVec 8) : (s.norw a b).engs = s.engs := (rfl)
@[simp] theorem Chip.norw_loader (s : Chip) (a : Nat) (b : BitVec 8) : (s.norw a b).loader = s.loader := (rfl)
@[simp] theorem Chip.norw_ecc (s : Chip) (a : Nat) (b : BitVec 8) : (s.norw a b).ecc = s.ecc := (rfl)
@[simp] theorem Chip.norw_runs (s : Chip) (a : Nat) (b : BitVec 8) : (s.norw a b).runs = s.runs := (rfl)
@[simp] theorem Chip.norw_lastRead (s : Chip) (a : Nat) (b : BitVec 8) : (s.norw a b).lastRead = s.lastRead := (rfl)
@[simp] theorem Chip.norw_sync (s : Chip) (a : Nat) (b : BitVec 8) : (s.norw a b).sync = s.sync := (rfl)
@[simp] theorem Chip.norw_drv (s : Chip) (a : Nat) (b : BitVec 8) : (s.norw a b).drv = s.drv := (rfl)
@[simp] theorem Chip.norw_drvScale (s : Chip) (a : Nat) (b : BitVec 8) : (s.norw a b).drvScale = s.drvScale := (rfl)
@[simp] theorem Chip.norw_drvHold (s : Chip) (a : Nat) (b : BitVec 8) : (s.norw a b).drvHold = s.drvHold := (rfl)
@[simp] theorem Chip.norw_hub (s : Chip) (a : Nat) (b : BitVec 8) : (s.norw a b).hub = s.hub := (rfl)
@[simp] theorem Chip.norw_alms (s : Chip) (a : Nat) (b : BitVec 8) : (s.norw a b).alms = s.alms := (rfl)
@[simp] theorem Chip.norw_fuse (s : Chip) (a : Nat) (b : BitVec 8) : (s.norw a b).fuse = s.fuse := (rfl)
@[simp] theorem Chip.norw_fuseReq (s : Chip) (a : Nat) (b : BitVec 8) : (s.norw a b).fuseReq = s.fuseReq := (rfl)
@[simp] theorem Chip.norw_lnk (s : Chip) (a : Nat) (b : BitVec 8) : (s.norw a b).lnk = s.lnk := (rfl)
@[simp] theorem Chip.norw_folded (s : Chip) (a : Nat) (b : BitVec 8) : (s.norw a b).folded = s.folded := (rfl)
@[simp] theorem Chip.norw_cuffs (s : Chip) (a : Nat) (b : BitVec 8) : (s.norw a b).cuffs = s.cuffs := (rfl)
@[simp] theorem Chip.norw_meas (s : Chip) (a : Nat) (b : BitVec 8) : (s.norw a b).meas = s.meas := (rfl)
@[simp] theorem Chip.norw_pin (s : Chip) (a : Nat) (b : BitVec 8) : (s.norw a b).pin = s.pin := (rfl)
@[simp] theorem Chip.norw_wide (s : Chip) (a : Nat) (b : BitVec 8) : (s.norw a b).wide = s.wide := (rfl)
@[simp] theorem Chip.norw_can (s : Chip) (a : Nat) (b : BitVec 8) : (s.norw a b).can = s.can := (rfl)
@[simp] theorem Chip.norw_bkg (s : Chip) (a : Nat) (b : BitVec 8) : (s.norw a b).bkg = s.bkg := (rfl)
@[simp] theorem Chip.norw_chain (s : Chip) (a : Nat) (b : BitVec 8) : (s.norw a b).chain = s.chain := (rfl)
@[simp] theorem Chip.norw_gate (s : Chip) (a : Nat) (b : BitVec 8) : (s.norw a b).gate = s.gate := (rfl)
@[simp] theorem Chip.norw_mgmt (s : Chip) (a : Nat) (b : BitVec 8) : (s.norw a b).mgmt = s.mgmt := (rfl)
@[simp] theorem Chip.norw_usCc (s : Chip) (a : Nat) (b : BitVec 8) : (s.norw a b).usCc = s.usCc := (rfl)

/-! The fields that `Chip.setGate` leaves. -/

@[simp] theorem Chip.setGate_regs (s : Chip) (g : Gate) : (s.setGate g).regs = s.regs := (rfl)
@[simp] theorem Chip.setGate_shadow (s : Chip) (g : Gate) : (s.setGate g).shadow = s.shadow := (rfl)
@[simp] theorem Chip.setGate_work (s : Chip) (g : Gate) : (s.setGate g).work = s.work := (rfl)
@[simp] theorem Chip.setGate_fShadow (s : Chip) (g : Gate) : (s.setGate g).fShadow = s.fShadow := (rfl)
@[simp] theorem Chip.setGate_fWork (s : Chip) (g : Gate) : (s.setGate g).fWork = s.fWork := (rfl)
@[simp] theorem Chip.setGate_fPour (s : Chip) (g : Gate) : (s.setGate g).fPour = s.fPour := (rfl)
@[simp] theorem Chip.setGate_fArm (s : Chip) (g : Gate) : (s.setGate g).fArm = s.fArm := (rfl)
@[simp] theorem Chip.setGate_live (s : Chip) (g : Gate) : (s.setGate g).live = s.live := (rfl)
@[simp] theorem Chip.setGate_copySet (s : Chip) (g : Gate) : (s.setGate g).copySet = s.copySet := (rfl)
@[simp] theorem Chip.setGate_hiLatch (s : Chip) (g : Gate) : (s.setGate g).hiLatch = s.hiLatch := (rfl)
@[simp] theorem Chip.setGate_mem (s : Chip) (g : Gate) : (s.setGate g).mem = s.mem := (rfl)
@[simp] theorem Chip.setGate_nor (s : Chip) (g : Gate) : (s.setGate g).nor = s.nor := (rfl)
@[simp] theorem Chip.setGate_freeCnt (s : Chip) (g : Gate) : (s.setGate g).freeCnt = s.freeCnt := (rfl)
@[simp] theorem Chip.setGate_outcome (s : Chip) (g : Gate) : (s.setGate g).outcome = s.outcome := (rfl)
@[simp] theorem Chip.setGate_ct (s : Chip) (g : Gate) : (s.setGate g).ct = s.ct := (rfl)
@[simp] theorem Chip.setGate_ctFrac (s : Chip) (g : Gate) : (s.setGate g).ctFrac = s.ctFrac := (rfl)
@[simp] theorem Chip.setGate_fTime (s : Chip) (g : Gate) : (s.setGate g).fTime = s.fTime := (rfl)
@[simp] theorem Chip.setGate_evt (s : Chip) (g : Gate) : (s.setGate g).evt = s.evt := (rfl)
@[simp] theorem Chip.setGate_seam (s : Chip) (g : Gate) : (s.setGate g).seam = s.seam := (rfl)
@[simp] theorem Chip.setGate_clk (s : Chip) (g : Gate) : (s.setGate g).clk = s.clk := (rfl)
@[simp] theorem Chip.setGate_arm (s : Chip) (g : Gate) : (s.setGate g).arm = s.arm := (rfl)
@[simp] theorem Chip.setGate_pwr (s : Chip) (g : Gate) : (s.setGate g).pwr = s.pwr := (rfl)
@[simp] theorem Chip.setGate_boot (s : Chip) (g : Gate) : (s.setGate g).boot = s.boot := (rfl)
@[simp] theorem Chip.setGate_warden (s : Chip) (g : Gate) : (s.setGate g).warden = s.warden := (rfl)
@[simp] theorem Chip.setGate_test (s : Chip) (g : Gate) : (s.setGate g).test = s.test := (rfl)
@[simp] theorem Chip.setGate_engs (s : Chip) (g : Gate) : (s.setGate g).engs = s.engs := (rfl)
@[simp] theorem Chip.setGate_loader (s : Chip) (g : Gate) : (s.setGate g).loader = s.loader := (rfl)
@[simp] theorem Chip.setGate_ecc (s : Chip) (g : Gate) : (s.setGate g).ecc = s.ecc := (rfl)
@[simp] theorem Chip.setGate_runs (s : Chip) (g : Gate) : (s.setGate g).runs = s.runs := (rfl)
@[simp] theorem Chip.setGate_lastRead (s : Chip) (g : Gate) : (s.setGate g).lastRead = s.lastRead := (rfl)
@[simp] theorem Chip.setGate_sync (s : Chip) (g : Gate) : (s.setGate g).sync = s.sync := (rfl)
@[simp] theorem Chip.setGate_drv (s : Chip) (g : Gate) : (s.setGate g).drv = s.drv := (rfl)
@[simp] theorem Chip.setGate_drvScale (s : Chip) (g : Gate) : (s.setGate g).drvScale = s.drvScale := (rfl)
@[simp] theorem Chip.setGate_drvHold (s : Chip) (g : Gate) : (s.setGate g).drvHold = s.drvHold := (rfl)
@[simp] theorem Chip.setGate_hub (s : Chip) (g : Gate) : (s.setGate g).hub = s.hub := (rfl)
@[simp] theorem Chip.setGate_alms (s : Chip) (g : Gate) : (s.setGate g).alms = s.alms := (rfl)
@[simp] theorem Chip.setGate_fuse (s : Chip) (g : Gate) : (s.setGate g).fuse = s.fuse := (rfl)
@[simp] theorem Chip.setGate_fuseReq (s : Chip) (g : Gate) : (s.setGate g).fuseReq = s.fuseReq := (rfl)
@[simp] theorem Chip.setGate_lnk (s : Chip) (g : Gate) : (s.setGate g).lnk = s.lnk := (rfl)
@[simp] theorem Chip.setGate_folded (s : Chip) (g : Gate) : (s.setGate g).folded = s.folded := (rfl)
@[simp] theorem Chip.setGate_cuffs (s : Chip) (g : Gate) : (s.setGate g).cuffs = s.cuffs := (rfl)
@[simp] theorem Chip.setGate_meas (s : Chip) (g : Gate) : (s.setGate g).meas = s.meas := (rfl)
@[simp] theorem Chip.setGate_pin (s : Chip) (g : Gate) : (s.setGate g).pin = s.pin := (rfl)
@[simp] theorem Chip.setGate_wide (s : Chip) (g : Gate) : (s.setGate g).wide = s.wide := (rfl)
@[simp] theorem Chip.setGate_can (s : Chip) (g : Gate) : (s.setGate g).can = s.can := (rfl)
@[simp] theorem Chip.setGate_bkg (s : Chip) (g : Gate) : (s.setGate g).bkg = s.bkg := (rfl)
@[simp] theorem Chip.setGate_chain (s : Chip) (g : Gate) : (s.setGate g).chain = s.chain := (rfl)
@[simp] theorem Chip.setGate_mgmt (s : Chip) (g : Gate) : (s.setGate g).mgmt = s.mgmt := (rfl)
@[simp] theorem Chip.setGate_usCc (s : Chip) (g : Gate) : (s.setGate g).usCc = s.usCc := (rfl)

/-! The fields that `Chip.setBkg` leaves. -/

@[simp] theorem Chip.setBkg_regs (s : Chip) (b : Bkg) : (s.setBkg b).regs = s.regs := (rfl)
@[simp] theorem Chip.setBkg_shadow (s : Chip) (b : Bkg) : (s.setBkg b).shadow = s.shadow := (rfl)
@[simp] theorem Chip.setBkg_work (s : Chip) (b : Bkg) : (s.setBkg b).work = s.work := (rfl)
@[simp] theorem Chip.setBkg_fShadow (s : Chip) (b : Bkg) : (s.setBkg b).fShadow = s.fShadow := (rfl)
@[simp] theorem Chip.setBkg_fWork (s : Chip) (b : Bkg) : (s.setBkg b).fWork = s.fWork := (rfl)
@[simp] theorem Chip.setBkg_fPour (s : Chip) (b : Bkg) : (s.setBkg b).fPour = s.fPour := (rfl)
@[simp] theorem Chip.setBkg_fArm (s : Chip) (b : Bkg) : (s.setBkg b).fArm = s.fArm := (rfl)
@[simp] theorem Chip.setBkg_live (s : Chip) (b : Bkg) : (s.setBkg b).live = s.live := (rfl)
@[simp] theorem Chip.setBkg_copySet (s : Chip) (b : Bkg) : (s.setBkg b).copySet = s.copySet := (rfl)
@[simp] theorem Chip.setBkg_hiLatch (s : Chip) (b : Bkg) : (s.setBkg b).hiLatch = s.hiLatch := (rfl)
@[simp] theorem Chip.setBkg_mem (s : Chip) (b : Bkg) : (s.setBkg b).mem = s.mem := (rfl)
@[simp] theorem Chip.setBkg_nor (s : Chip) (b : Bkg) : (s.setBkg b).nor = s.nor := (rfl)
@[simp] theorem Chip.setBkg_freeCnt (s : Chip) (b : Bkg) : (s.setBkg b).freeCnt = s.freeCnt := (rfl)
@[simp] theorem Chip.setBkg_outcome (s : Chip) (b : Bkg) : (s.setBkg b).outcome = s.outcome := (rfl)
@[simp] theorem Chip.setBkg_ct (s : Chip) (b : Bkg) : (s.setBkg b).ct = s.ct := (rfl)
@[simp] theorem Chip.setBkg_ctFrac (s : Chip) (b : Bkg) : (s.setBkg b).ctFrac = s.ctFrac := (rfl)
@[simp] theorem Chip.setBkg_fTime (s : Chip) (b : Bkg) : (s.setBkg b).fTime = s.fTime := (rfl)
@[simp] theorem Chip.setBkg_evt (s : Chip) (b : Bkg) : (s.setBkg b).evt = s.evt := (rfl)
@[simp] theorem Chip.setBkg_seam (s : Chip) (b : Bkg) : (s.setBkg b).seam = s.seam := (rfl)
@[simp] theorem Chip.setBkg_clk (s : Chip) (b : Bkg) : (s.setBkg b).clk = s.clk := (rfl)
@[simp] theorem Chip.setBkg_arm (s : Chip) (b : Bkg) : (s.setBkg b).arm = s.arm := (rfl)
@[simp] theorem Chip.setBkg_pwr (s : Chip) (b : Bkg) : (s.setBkg b).pwr = s.pwr := (rfl)
@[simp] theorem Chip.setBkg_boot (s : Chip) (b : Bkg) : (s.setBkg b).boot = s.boot := (rfl)
@[simp] theorem Chip.setBkg_warden (s : Chip) (b : Bkg) : (s.setBkg b).warden = s.warden := (rfl)
@[simp] theorem Chip.setBkg_test (s : Chip) (b : Bkg) : (s.setBkg b).test = s.test := (rfl)
@[simp] theorem Chip.setBkg_engs (s : Chip) (b : Bkg) : (s.setBkg b).engs = s.engs := (rfl)
@[simp] theorem Chip.setBkg_loader (s : Chip) (b : Bkg) : (s.setBkg b).loader = s.loader := (rfl)
@[simp] theorem Chip.setBkg_ecc (s : Chip) (b : Bkg) : (s.setBkg b).ecc = s.ecc := (rfl)
@[simp] theorem Chip.setBkg_runs (s : Chip) (b : Bkg) : (s.setBkg b).runs = s.runs := (rfl)
@[simp] theorem Chip.setBkg_lastRead (s : Chip) (b : Bkg) : (s.setBkg b).lastRead = s.lastRead := (rfl)
@[simp] theorem Chip.setBkg_sync (s : Chip) (b : Bkg) : (s.setBkg b).sync = s.sync := (rfl)
@[simp] theorem Chip.setBkg_drv (s : Chip) (b : Bkg) : (s.setBkg b).drv = s.drv := (rfl)
@[simp] theorem Chip.setBkg_drvScale (s : Chip) (b : Bkg) : (s.setBkg b).drvScale = s.drvScale := (rfl)
@[simp] theorem Chip.setBkg_drvHold (s : Chip) (b : Bkg) : (s.setBkg b).drvHold = s.drvHold := (rfl)
@[simp] theorem Chip.setBkg_hub (s : Chip) (b : Bkg) : (s.setBkg b).hub = s.hub := (rfl)
@[simp] theorem Chip.setBkg_alms (s : Chip) (b : Bkg) : (s.setBkg b).alms = s.alms := (rfl)
@[simp] theorem Chip.setBkg_fuse (s : Chip) (b : Bkg) : (s.setBkg b).fuse = s.fuse := (rfl)
@[simp] theorem Chip.setBkg_fuseReq (s : Chip) (b : Bkg) : (s.setBkg b).fuseReq = s.fuseReq := (rfl)
@[simp] theorem Chip.setBkg_lnk (s : Chip) (b : Bkg) : (s.setBkg b).lnk = s.lnk := (rfl)
@[simp] theorem Chip.setBkg_folded (s : Chip) (b : Bkg) : (s.setBkg b).folded = s.folded := (rfl)
@[simp] theorem Chip.setBkg_cuffs (s : Chip) (b : Bkg) : (s.setBkg b).cuffs = s.cuffs := (rfl)
@[simp] theorem Chip.setBkg_meas (s : Chip) (b : Bkg) : (s.setBkg b).meas = s.meas := (rfl)
@[simp] theorem Chip.setBkg_pin (s : Chip) (b : Bkg) : (s.setBkg b).pin = s.pin := (rfl)
@[simp] theorem Chip.setBkg_wide (s : Chip) (b : Bkg) : (s.setBkg b).wide = s.wide := (rfl)
@[simp] theorem Chip.setBkg_can (s : Chip) (b : Bkg) : (s.setBkg b).can = s.can := (rfl)
@[simp] theorem Chip.setBkg_chain (s : Chip) (b : Bkg) : (s.setBkg b).chain = s.chain := (rfl)
@[simp] theorem Chip.setBkg_gate (s : Chip) (b : Bkg) : (s.setBkg b).gate = s.gate := (rfl)
@[simp] theorem Chip.setBkg_mgmt (s : Chip) (b : Bkg) : (s.setBkg b).mgmt = s.mgmt := (rfl)
@[simp] theorem Chip.setBkg_usCc (s : Chip) (b : Bkg) : (s.setBkg b).usCc = s.usCc := (rfl)

/-! The fields that `Chip.setMgmt` leaves. -/

@[simp] theorem Chip.setMgmt_regs (s : Chip) (m : Mgmt) : (s.setMgmt m).regs = s.regs := (rfl)
@[simp] theorem Chip.setMgmt_shadow (s : Chip) (m : Mgmt) : (s.setMgmt m).shadow = s.shadow := (rfl)
@[simp] theorem Chip.setMgmt_work (s : Chip) (m : Mgmt) : (s.setMgmt m).work = s.work := (rfl)
@[simp] theorem Chip.setMgmt_fShadow (s : Chip) (m : Mgmt) : (s.setMgmt m).fShadow = s.fShadow := (rfl)
@[simp] theorem Chip.setMgmt_fWork (s : Chip) (m : Mgmt) : (s.setMgmt m).fWork = s.fWork := (rfl)
@[simp] theorem Chip.setMgmt_fPour (s : Chip) (m : Mgmt) : (s.setMgmt m).fPour = s.fPour := (rfl)
@[simp] theorem Chip.setMgmt_fArm (s : Chip) (m : Mgmt) : (s.setMgmt m).fArm = s.fArm := (rfl)
@[simp] theorem Chip.setMgmt_live (s : Chip) (m : Mgmt) : (s.setMgmt m).live = s.live := (rfl)
@[simp] theorem Chip.setMgmt_copySet (s : Chip) (m : Mgmt) : (s.setMgmt m).copySet = s.copySet := (rfl)
@[simp] theorem Chip.setMgmt_hiLatch (s : Chip) (m : Mgmt) : (s.setMgmt m).hiLatch = s.hiLatch := (rfl)
@[simp] theorem Chip.setMgmt_mem (s : Chip) (m : Mgmt) : (s.setMgmt m).mem = s.mem := (rfl)
@[simp] theorem Chip.setMgmt_nor (s : Chip) (m : Mgmt) : (s.setMgmt m).nor = s.nor := (rfl)
@[simp] theorem Chip.setMgmt_freeCnt (s : Chip) (m : Mgmt) : (s.setMgmt m).freeCnt = s.freeCnt := (rfl)
@[simp] theorem Chip.setMgmt_outcome (s : Chip) (m : Mgmt) : (s.setMgmt m).outcome = s.outcome := (rfl)
@[simp] theorem Chip.setMgmt_ct (s : Chip) (m : Mgmt) : (s.setMgmt m).ct = s.ct := (rfl)
@[simp] theorem Chip.setMgmt_ctFrac (s : Chip) (m : Mgmt) : (s.setMgmt m).ctFrac = s.ctFrac := (rfl)
@[simp] theorem Chip.setMgmt_fTime (s : Chip) (m : Mgmt) : (s.setMgmt m).fTime = s.fTime := (rfl)
@[simp] theorem Chip.setMgmt_evt (s : Chip) (m : Mgmt) : (s.setMgmt m).evt = s.evt := (rfl)
@[simp] theorem Chip.setMgmt_seam (s : Chip) (m : Mgmt) : (s.setMgmt m).seam = s.seam := (rfl)
@[simp] theorem Chip.setMgmt_clk (s : Chip) (m : Mgmt) : (s.setMgmt m).clk = s.clk := (rfl)
@[simp] theorem Chip.setMgmt_arm (s : Chip) (m : Mgmt) : (s.setMgmt m).arm = s.arm := (rfl)
@[simp] theorem Chip.setMgmt_pwr (s : Chip) (m : Mgmt) : (s.setMgmt m).pwr = s.pwr := (rfl)
@[simp] theorem Chip.setMgmt_boot (s : Chip) (m : Mgmt) : (s.setMgmt m).boot = s.boot := (rfl)
@[simp] theorem Chip.setMgmt_warden (s : Chip) (m : Mgmt) : (s.setMgmt m).warden = s.warden := (rfl)
@[simp] theorem Chip.setMgmt_test (s : Chip) (m : Mgmt) : (s.setMgmt m).test = s.test := (rfl)
@[simp] theorem Chip.setMgmt_engs (s : Chip) (m : Mgmt) : (s.setMgmt m).engs = s.engs := (rfl)
@[simp] theorem Chip.setMgmt_loader (s : Chip) (m : Mgmt) : (s.setMgmt m).loader = s.loader := (rfl)
@[simp] theorem Chip.setMgmt_ecc (s : Chip) (m : Mgmt) : (s.setMgmt m).ecc = s.ecc := (rfl)
@[simp] theorem Chip.setMgmt_runs (s : Chip) (m : Mgmt) : (s.setMgmt m).runs = s.runs := (rfl)
@[simp] theorem Chip.setMgmt_lastRead (s : Chip) (m : Mgmt) : (s.setMgmt m).lastRead = s.lastRead := (rfl)
@[simp] theorem Chip.setMgmt_sync (s : Chip) (m : Mgmt) : (s.setMgmt m).sync = s.sync := (rfl)
@[simp] theorem Chip.setMgmt_drv (s : Chip) (m : Mgmt) : (s.setMgmt m).drv = s.drv := (rfl)
@[simp] theorem Chip.setMgmt_drvScale (s : Chip) (m : Mgmt) : (s.setMgmt m).drvScale = s.drvScale := (rfl)
@[simp] theorem Chip.setMgmt_drvHold (s : Chip) (m : Mgmt) : (s.setMgmt m).drvHold = s.drvHold := (rfl)
@[simp] theorem Chip.setMgmt_hub (s : Chip) (m : Mgmt) : (s.setMgmt m).hub = s.hub := (rfl)
@[simp] theorem Chip.setMgmt_alms (s : Chip) (m : Mgmt) : (s.setMgmt m).alms = s.alms := (rfl)
@[simp] theorem Chip.setMgmt_fuse (s : Chip) (m : Mgmt) : (s.setMgmt m).fuse = s.fuse := (rfl)
@[simp] theorem Chip.setMgmt_fuseReq (s : Chip) (m : Mgmt) : (s.setMgmt m).fuseReq = s.fuseReq := (rfl)
@[simp] theorem Chip.setMgmt_lnk (s : Chip) (m : Mgmt) : (s.setMgmt m).lnk = s.lnk := (rfl)
@[simp] theorem Chip.setMgmt_folded (s : Chip) (m : Mgmt) : (s.setMgmt m).folded = s.folded := (rfl)
@[simp] theorem Chip.setMgmt_cuffs (s : Chip) (m : Mgmt) : (s.setMgmt m).cuffs = s.cuffs := (rfl)
@[simp] theorem Chip.setMgmt_meas (s : Chip) (m : Mgmt) : (s.setMgmt m).meas = s.meas := (rfl)
@[simp] theorem Chip.setMgmt_pin (s : Chip) (m : Mgmt) : (s.setMgmt m).pin = s.pin := (rfl)
@[simp] theorem Chip.setMgmt_wide (s : Chip) (m : Mgmt) : (s.setMgmt m).wide = s.wide := (rfl)
@[simp] theorem Chip.setMgmt_can (s : Chip) (m : Mgmt) : (s.setMgmt m).can = s.can := (rfl)
@[simp] theorem Chip.setMgmt_bkg (s : Chip) (m : Mgmt) : (s.setMgmt m).bkg = s.bkg := (rfl)
@[simp] theorem Chip.setMgmt_chain (s : Chip) (m : Mgmt) : (s.setMgmt m).chain = s.chain := (rfl)
@[simp] theorem Chip.setMgmt_gate (s : Chip) (m : Mgmt) : (s.setMgmt m).gate = s.gate := (rfl)
@[simp] theorem Chip.setMgmt_usCc (s : Chip) (m : Mgmt) : (s.setMgmt m).usCc = s.usCc := (rfl)

/-! The fields that `Chip.setEvt` leaves. -/

@[simp] theorem Chip.setEvt_regs (s : Chip) (x : Evt) : (s.setEvt x).regs = s.regs := (rfl)
@[simp] theorem Chip.setEvt_shadow (s : Chip) (x : Evt) : (s.setEvt x).shadow = s.shadow := (rfl)
@[simp] theorem Chip.setEvt_work (s : Chip) (x : Evt) : (s.setEvt x).work = s.work := (rfl)
@[simp] theorem Chip.setEvt_fShadow (s : Chip) (x : Evt) : (s.setEvt x).fShadow = s.fShadow := (rfl)
@[simp] theorem Chip.setEvt_fWork (s : Chip) (x : Evt) : (s.setEvt x).fWork = s.fWork := (rfl)
@[simp] theorem Chip.setEvt_fPour (s : Chip) (x : Evt) : (s.setEvt x).fPour = s.fPour := (rfl)
@[simp] theorem Chip.setEvt_fArm (s : Chip) (x : Evt) : (s.setEvt x).fArm = s.fArm := (rfl)
@[simp] theorem Chip.setEvt_live (s : Chip) (x : Evt) : (s.setEvt x).live = s.live := (rfl)
@[simp] theorem Chip.setEvt_copySet (s : Chip) (x : Evt) : (s.setEvt x).copySet = s.copySet := (rfl)
@[simp] theorem Chip.setEvt_hiLatch (s : Chip) (x : Evt) : (s.setEvt x).hiLatch = s.hiLatch := (rfl)
@[simp] theorem Chip.setEvt_mem (s : Chip) (x : Evt) : (s.setEvt x).mem = s.mem := (rfl)
@[simp] theorem Chip.setEvt_nor (s : Chip) (x : Evt) : (s.setEvt x).nor = s.nor := (rfl)
@[simp] theorem Chip.setEvt_freeCnt (s : Chip) (x : Evt) : (s.setEvt x).freeCnt = s.freeCnt := (rfl)
@[simp] theorem Chip.setEvt_outcome (s : Chip) (x : Evt) : (s.setEvt x).outcome = s.outcome := (rfl)
@[simp] theorem Chip.setEvt_ct (s : Chip) (x : Evt) : (s.setEvt x).ct = s.ct := (rfl)
@[simp] theorem Chip.setEvt_ctFrac (s : Chip) (x : Evt) : (s.setEvt x).ctFrac = s.ctFrac := (rfl)
@[simp] theorem Chip.setEvt_fTime (s : Chip) (x : Evt) : (s.setEvt x).fTime = s.fTime := (rfl)
@[simp] theorem Chip.setEvt_seam (s : Chip) (x : Evt) : (s.setEvt x).seam = s.seam := (rfl)
@[simp] theorem Chip.setEvt_clk (s : Chip) (x : Evt) : (s.setEvt x).clk = s.clk := (rfl)
@[simp] theorem Chip.setEvt_arm (s : Chip) (x : Evt) : (s.setEvt x).arm = s.arm := (rfl)
@[simp] theorem Chip.setEvt_pwr (s : Chip) (x : Evt) : (s.setEvt x).pwr = s.pwr := (rfl)
@[simp] theorem Chip.setEvt_boot (s : Chip) (x : Evt) : (s.setEvt x).boot = s.boot := (rfl)
@[simp] theorem Chip.setEvt_warden (s : Chip) (x : Evt) : (s.setEvt x).warden = s.warden := (rfl)
@[simp] theorem Chip.setEvt_test (s : Chip) (x : Evt) : (s.setEvt x).test = s.test := (rfl)
@[simp] theorem Chip.setEvt_engs (s : Chip) (x : Evt) : (s.setEvt x).engs = s.engs := (rfl)
@[simp] theorem Chip.setEvt_loader (s : Chip) (x : Evt) : (s.setEvt x).loader = s.loader := (rfl)
@[simp] theorem Chip.setEvt_ecc (s : Chip) (x : Evt) : (s.setEvt x).ecc = s.ecc := (rfl)
@[simp] theorem Chip.setEvt_runs (s : Chip) (x : Evt) : (s.setEvt x).runs = s.runs := (rfl)
@[simp] theorem Chip.setEvt_lastRead (s : Chip) (x : Evt) : (s.setEvt x).lastRead = s.lastRead := (rfl)
@[simp] theorem Chip.setEvt_sync (s : Chip) (x : Evt) : (s.setEvt x).sync = s.sync := (rfl)
@[simp] theorem Chip.setEvt_drv (s : Chip) (x : Evt) : (s.setEvt x).drv = s.drv := (rfl)
@[simp] theorem Chip.setEvt_drvScale (s : Chip) (x : Evt) : (s.setEvt x).drvScale = s.drvScale := (rfl)
@[simp] theorem Chip.setEvt_drvHold (s : Chip) (x : Evt) : (s.setEvt x).drvHold = s.drvHold := (rfl)
@[simp] theorem Chip.setEvt_hub (s : Chip) (x : Evt) : (s.setEvt x).hub = s.hub := (rfl)
@[simp] theorem Chip.setEvt_alms (s : Chip) (x : Evt) : (s.setEvt x).alms = s.alms := (rfl)
@[simp] theorem Chip.setEvt_fuse (s : Chip) (x : Evt) : (s.setEvt x).fuse = s.fuse := (rfl)
@[simp] theorem Chip.setEvt_fuseReq (s : Chip) (x : Evt) : (s.setEvt x).fuseReq = s.fuseReq := (rfl)
@[simp] theorem Chip.setEvt_lnk (s : Chip) (x : Evt) : (s.setEvt x).lnk = s.lnk := (rfl)
@[simp] theorem Chip.setEvt_folded (s : Chip) (x : Evt) : (s.setEvt x).folded = s.folded := (rfl)
@[simp] theorem Chip.setEvt_cuffs (s : Chip) (x : Evt) : (s.setEvt x).cuffs = s.cuffs := (rfl)
@[simp] theorem Chip.setEvt_meas (s : Chip) (x : Evt) : (s.setEvt x).meas = s.meas := (rfl)
@[simp] theorem Chip.setEvt_pin (s : Chip) (x : Evt) : (s.setEvt x).pin = s.pin := (rfl)
@[simp] theorem Chip.setEvt_wide (s : Chip) (x : Evt) : (s.setEvt x).wide = s.wide := (rfl)
@[simp] theorem Chip.setEvt_can (s : Chip) (x : Evt) : (s.setEvt x).can = s.can := (rfl)
@[simp] theorem Chip.setEvt_bkg (s : Chip) (x : Evt) : (s.setEvt x).bkg = s.bkg := (rfl)
@[simp] theorem Chip.setEvt_chain (s : Chip) (x : Evt) : (s.setEvt x).chain = s.chain := (rfl)
@[simp] theorem Chip.setEvt_gate (s : Chip) (x : Evt) : (s.setEvt x).gate = s.gate := (rfl)
@[simp] theorem Chip.setEvt_mgmt (s : Chip) (x : Evt) : (s.setEvt x).mgmt = s.mgmt := (rfl)
@[simp] theorem Chip.setEvt_usCc (s : Chip) (x : Evt) : (s.setEvt x).usCc = s.usCc := (rfl)

end Sys2Proof.Machine
end

