-- ==== Sys2Proof/Laws/Memory.lean ====
section
/-! SUPPORT. Operations that store to no memory: one law for each says that the RAMs and the NOR come out as they went in. -/

namespace Sys2Proof.Machine

/-- Neither memory differs. -/
@[simp] abbrev Keeps (s c : Chip) : Prop := c.mem = s.mem ∧ c.nor = s.nor

theorem Keeps.trans {a b c : Chip} (h : Keeps a b) (k : Keeps b c) : Keeps a c := ⟨k.1.trans h.1, k.2.trans h.2⟩

theorem Keeps.foldl {α : Type} {f : Chip → α → Chip} {l : List α} {s0 s : Chip} (h : ∀ s x, Keeps s (f s x)) (h0 : Keeps s0 s) :
    Keeps s0 (l.foldl f s) := by
  induction l generalizing s with
  | nil => exact h0
  | cons x t ih => exact ih ⟨(h s x).1.trans h0.1, (h s x).2.trans h0.2⟩

@[simp] theorem foldl_mem {α : Type} {f : Chip → α → Chip} {l : List α} {s : Chip} (h : ∀ s x, (f s x).mem = s.mem) :
    (l.foldl f s).mem = s.mem := by
  induction l generalizing s with
  | nil => rfl
  | cons x t ih => simp only [List.foldl_cons]; exact ih.trans (h s x)

@[simp] theorem foldl_nor {α : Type} {f : Chip → α → Chip} {l : List α} {s : Chip} (h : ∀ s x, (f s x).nor = s.nor) :
    (l.foldl f s).nor = s.nor := by
  induction l generalizing s with
  | nil => rfl
  | cons x t ih => simp only [List.foldl_cons]; exact ih.trans (h s x)

@[simp] theorem ite_mem {c : Prop} [Decidable c] {a b : Chip} : (if c then a else b).mem = if c then a.mem else b.mem := apply_ite _ _ _ _
@[simp] theorem ite_nor {c : Prop} [Decidable c] {a b : Chip} : (if c then a else b).nor = if c then a.nor else b.nor := apply_ite _ _ _ _

theorem Keeps.each {α : Type} {f : Chip → α → Chip} {l : List α} {s0 s : Chip} (h : ∀ s x, Keeps s (f s x)) (h0 : Keeps s0 s) :
    Keeps s0 (s.each l f) := Keeps.foldl h h0

@[simp] theorem Chip.rewriteLater_keeps (s : Chip) (a : Nat) : Keeps s (Chip.rewriteLater s a) := by simp [Chip.rewriteLater]

@[simp] theorem Chip.ueAddr_keeps (s : Chip) (m : EccMemory) (i : Nat) : Keeps s (Chip.ueAddr s m i).2 := by unfold Chip.ueAddr; (repeat' split) <;> simp

@[simp] theorem Chip.setPending_keeps (s : Chip) (mask src : Nat) : Keeps s (Chip.setPending s mask src) := by
  unfold Chip.setPending
  repeat' first
    | (try lift_lets); intro x
      first
      | have hx : Keeps s x := by simp only [x]; (repeat' first | with_reducible refine Keeps.foldl (fun s _ => ?_) ?_ | (simp [*]; done) | split | dsimp only); done
        clear_value x
      | have hx : Keeps s x.2 := by simp only [x]; (repeat' first | with_reducible refine Keeps.foldl (fun s _ => ?_) ?_ | (simp [*]; done) | split | dsimp only); done
        clear_value x
      | clear_value x
    | with_reducible refine Keeps.foldl (fun s _ => ?_) ?_
    | simp [*]; done
    | split
    | dsimp only

@[simp] theorem Chip.idleExit_keeps (s : Chip) : Keeps s (Chip.idleExit s) := by
  unfold Chip.idleExit
  repeat' first
    | (try lift_lets); intro x
      first
      | have hx : Keeps s x := by simp only [x]; (repeat' first | with_reducible refine Keeps.foldl (fun s _ => ?_) ?_ | (simp [*]; done) | split | dsimp only); done
        clear_value x
      | have hx : Keeps s x.2 := by simp only [x]; (repeat' first | with_reducible refine Keeps.foldl (fun s _ => ?_) ?_ | (simp [*]; done) | split | dsimp only); done
        clear_value x
      | clear_value x
    | with_reducible refine Keeps.foldl (fun s _ => ?_) ?_
    | simp [*]; done
    | split
    | dsimp only

@[simp] theorem Chip.fire_keeps (s : Chip) (src det : Nat) : Keeps s (Chip.fire s src det) := by
  unfold Chip.fire
  repeat' first
    | (try lift_lets); intro x
      first
      | have hx : Keeps s x := by simp only [x]; (repeat' first | (simp [*]; done) | split); done
        clear_value x
      | have hx : Keeps s x.2 := by simp only [x]; (repeat' first | (simp [*]; done) | split); done
        clear_value x
      | clear_value x
    | simp [*]; done
    | split

@[simp] theorem Chip.scrubTick_keeps (s : Chip) (m : EccMemory) (found : EccState) : Keeps s (Chip.scrubTick s m found) := by
  unfold Chip.scrubTick
  repeat' first
    | (try lift_lets); intro x
      first
      | have hx : Keeps s x := by simp only [x]; (repeat' first | (simp [*]; done) | split); done
        clear_value x
      | have hx : Keeps s x.2 := by simp only [x]; (repeat' first | (simp [*]; done) | split); done
        clear_value x
      | clear_value x
    | simp [*]; done
    | rename_i h; obtain rfl := congrArg Prod.snd h; simp; done
    | split

@[simp] theorem Chip.scrubRewrite_keeps (s : Chip) (fg : Bool) : Keeps s (Chip.scrubRewrite s fg) := by
  unfold Chip.scrubRewrite
  repeat' first
    | (try lift_lets); intro x
      first
      | have hx : Keeps s x := by simp only [x]; (repeat' first | (simp [*]; done) | split); done
        clear_value x
      | have hx : Keeps s x.2 := by simp only [x]; (repeat' first | (simp [*]; done) | split); done
        clear_value x
      | clear_value x
    | simp [*]; done
    | rename_i h; obtain rfl := congrArg Prod.snd h; simp; done
    | split

@[simp] theorem Chip.norForeground_keeps (s : Chip) : Keeps s (Chip.norForeground s) := by simp [Chip.norForeground]

@[simp] theorem Chip.norFree_keeps (s : Chip) : Keeps s (Chip.norFree s) := by simp [Chip.norFree]

@[simp] theorem Chip.each_keeps {α : Type} (s : Chip) (l : List α) (f : Chip → α → Chip) (h : ∀ s x, Keeps s (f s x)) : Keeps s (s.each l f) :=
  Keeps.foldl h ⟨rfl, rfl⟩

@[simp] theorem Chip.each_mem {α : Type} {s : Chip} {l : List α} {f : Chip → α → Chip} (h : ∀ s x, (f s x).mem = s.mem) : (s.each l f).mem = s.mem := foldl_mem h
@[simp] theorem Chip.each_nor {α : Type} {s : Chip} {l : List α} {f : Chip → α → Chip} (h : ∀ s x, (f s x).nor = s.nor) : (s.each l f).nor = s.nor := foldl_nor h

@[simp] theorem Chip.jShow_keeps (s : Chip) (key : Nat) (v : Option (List Nat)) : Keeps s (Chip.jShow s key v) := by
  unfold Chip.jShow
  repeat' first
    | (try lift_lets); intro x
      first
      | have hx : Keeps s x := by simp only [x]; (repeat' first | with_reducible refine Keeps.each (fun s _ => ?_) ?_ | (simp [*]; done) | split | dsimp only); done
        clear_value x
      | have hx : Keeps s x.2 := by simp only [x]; (repeat' first | with_reducible refine Keeps.each (fun s _ => ?_) ?_ | (simp [*]; done) | split | dsimp only); done
        clear_value x
      | clear_value x
    | with_reducible refine Keeps.each (fun s _ => ?_) ?_
    | simp [*]; done
    | split
    | dsimp only

@[simp] theorem Chip.journalScan_keeps (s : Chip) : Keeps s (Chip.journalScan s) := by
  unfold Chip.journalScan
  repeat' first
    | (try lift_lets); intro x
      first
      | have hx : Keeps s x := by simp only [x]; (repeat' first | with_reducible refine Keeps.each (fun s _ => ?_) ?_ | with_reducible refine Keeps.foldl (fun s _ => ?_) ?_ | (simp [*]; done) | split | dsimp only); done
        clear_value x
      | have hx : Keeps s x.2 := by simp only [x]; (repeat' first | with_reducible refine Keeps.each (fun s _ => ?_) ?_ | with_reducible refine Keeps.foldl (fun s _ => ?_) ?_ | (simp [*]; done) | split | dsimp only); done
        clear_value x
      | clear_value x
    | with_reducible refine Keeps.each (fun s _ => ?_) ?_
    | with_reducible refine Keeps.foldl (fun s _ => ?_) ?_
    | simp [*]; done
    | rename_i h; obtain rfl := congrArg Prod.snd h; simp; done
    | split
    | dsimp only

@[simp] theorem Chip.ok_keeps (s : Chip) : Keeps s (Chip.ok s).2 := by simp [Chip.ok]

@[simp] theorem Chip.jrnlDurable_keeps (s : Chip) : Keeps s (Chip.jrnlDurable s) := by
  unfold Chip.jrnlDurable
  repeat' first
    | (try lift_lets); intro x
      first
      | have hx : Keeps s x := by simp only [x]; (repeat' first | (simp [*]; done) | split); done
        clear_value x
      | have hx : Keeps s x.2 := by simp only [x]; (repeat' first | (simp [*]; done) | split); done
        clear_value x
      | clear_value x
    | simp [*]; done
    | rename_i h; obtain rfl := congrArg Prod.snd h; simp; done
    | split

@[simp] theorem Chip.jPut_keeps (s : Chip) (p : JPut) : Keeps s (Chip.jPut s p) := by simp [Chip.jPut]

@[simp] theorem Chip.jStageKey_keeps (s : Chip) (v : Nat) : Keeps s (Chip.jStageKey s v).2 := by simp [Chip.jStageKey]

@[simp] theorem Chip.jStageData_keeps (s : Chip) (j w : Nat) : Keeps s (Chip.jStageData s j w).2 := by simp [Chip.jStageData]

@[simp] theorem Chip.reject_keeps (s : Chip) (r blk inst off : Nat) : Keeps s (Chip.reject s r blk inst off) := by simp [Chip.reject]

@[simp] theorem Chip.no_keeps (s : Chip) (r blk inst off : Nat) : Keeps s (Chip.no s r blk inst off).2 := by simp [Chip.no]

@[simp] theorem Chip.jrnlGo_keeps (s : Chip) (r : Nat) : Keeps s (Chip.jrnlGo s r).2 := by unfold Chip.jrnlGo; (repeat' split) <;> simp

@[simp] theorem Chip.logAdmit_keeps (s : Chip) (w : List Nat) : Keeps s (Chip.logAdmit s w) := by
  unfold Chip.logAdmit
  repeat' first
    | (try lift_lets); intro x
      first
      | have hx : Keeps s x := by simp only [x]; (repeat' first | (simp [*]; done) | split); done
        clear_value x
      | have hx : Keeps s x.2 := by simp only [x]; (repeat' first | (simp [*]; done) | split); done
        clear_value x
      | clear_value x
    | simp [*]; done
    | split

@[simp] theorem Chip.fieldPass_keeps (s : Chip) (d : Nat) : Keeps s (Chip.fieldPass s d) := by
  unfold Chip.fieldPass
  repeat' first
    | (try lift_lets); intro x
      first
      | have hx : Keeps s x := by simp only [x]; (repeat' first | (simp [*]; done) | split); done
        clear_value x
      | have hx : Keeps s x.2 := by simp only [x]; (repeat' first | (simp [*]; done) | split); done
        clear_value x
      | clear_value x
    | simp [*]; done
    | split

@[simp] theorem Chip.timeTo_keeps (s : Chip) (ns : Nat) : Keeps s (Chip.timeTo s ns) := by simp [Chip.timeTo]

@[simp] theorem Chip.logStart_keeps (s : Chip) (r n : Nat) : Keeps s (Chip.logStart s r n).2 := by unfold Chip.logStart; (repeat' split) <;> simp

@[simp] theorem Chip.logDone_keeps (s : Chip) : Keeps s (Chip.logDone s) := by
  unfold Chip.logDone
  repeat' first
    | (try lift_lets); intro x
      first
      | have hx : Keeps s x := by simp only [x]; (repeat' first | with_reducible refine Keeps.each (fun s _ => ?_) ?_ | (simp [*]; done) | split | dsimp only); done
        clear_value x
      | have hx : Keeps s x.2 := by simp only [x]; (repeat' first | with_reducible refine Keeps.each (fun s _ => ?_) ?_ | (simp [*]; done) | split | dsimp only); done
        clear_value x
      | clear_value x
    | with_reducible refine Keeps.each (fun s _ => ?_) ?_
    | simp [*]; done
    | split
    | dsimp only

@[simp] theorem Chip.telemetry_keeps (s : Chip) : Keeps s (Chip.telemetry s) := by
  unfold Chip.telemetry
  repeat' first
    | (try lift_lets); intro x
      first
      | have hx : Keeps s x := by simp only [x]; (repeat' first | (simp [*]; done) | split); done
        clear_value x
      | have hx : Keeps s x.2 := by simp only [x]; (repeat' first | (simp [*]; done) | split); done
        clear_value x
      | clear_value x
    | simp [*]; done
    | split

@[simp] theorem Chip.telemCommit_keeps (s : Chip) (n off : Nat) : Keeps s (Chip.telemCommit s n off) := by unfold Chip.telemCommit; (repeat' split) <;> simp

@[simp] theorem Chip.calBegin_keeps (s : Chip) (u : Nat) : Keeps s (Chip.calBegin s u) := by simp [Chip.calBegin]

@[simp] theorem Chip.calStart_keeps (s : Chip) (u : Nat) : Keeps s (Chip.calStart s u) := by simp [Chip.calStart]

@[simp] theorem Chip.calDone_keeps (s : Chip) (u : Nat) : Keeps s (Chip.calDone s u) := by
  unfold Chip.calDone
  repeat' first
    | (try lift_lets); intro x
      first
      | have hx : Keeps s x := by simp only [x]; (repeat' first | (simp [*]; done) | split); done
        clear_value x
      | have hx : Keeps s x.2 := by simp only [x]; (repeat' first | (simp [*]; done) | split); done
        clear_value x
      | clear_value x
    | simp [*]; done
    | split

@[simp] theorem Chip.calEnd_keeps (s : Chip) (u : Nat) : Keeps s (Chip.calEnd s u) := by
  unfold Chip.calEnd
  repeat' first
    | (try lift_lets); intro x
      first
      | have hx : Keeps s x := by simp only [x]; (repeat' first | (simp [*]; done) | split); done
        clear_value x
      | have hx : Keeps s x.2 := by simp only [x]; (repeat' first | (simp [*]; done) | split); done
        clear_value x
      | clear_value x
    | simp [*]; done
    | split

@[simp] theorem Chip.setGl_keeps (s : Chip) (p : Nat) (x : LnkPort) : Keeps s (Chip.setGl s p x) := by simp [Chip.setGl]

@[simp] theorem Chip.marginBegin_keeps (s : Chip) (p l : Nat) : Keeps s (Chip.marginBegin s p l) := by simp [Chip.marginBegin]

@[simp] theorem Chip.marginDue_keeps (s : Chip) : Keeps s (Chip.marginDue s) := by
  unfold Chip.marginDue
  repeat' first
    | (try lift_lets); intro x
      first
      | have hx : Keeps s x := by simp only [x]; (repeat' first | (simp [*]; done) | split); done
        clear_value x
      | have hx : Keeps s x.2 := by simp only [x]; (repeat' first | (simp [*]; done) | split); done
        clear_value x
      | clear_value x
    | simp [*]; done
    | rename_i h; obtain rfl := congrArg Prod.snd h; simp; done
    | split

@[simp] theorem Chip.otpStage_keeps (s : Chip) (r : Nat) (w : BitVec 32) : Keeps s (Chip.otpStage s r w).2 := by
  unfold Chip.otpStage
  repeat' first
    | (try lift_lets); intro x
      first
      | have hx : Keeps s x := by simp only [x]; (repeat' first | (simp [*]; done) | split); done
        clear_value x
      | have hx : Keeps s x.2 := by simp only [x]; (repeat' first | (simp [*]; done) | split); done
        clear_value x
      | clear_value x
    | simp [*]; done
    | split

@[simp] theorem Chip.otpProgKey_keeps (s : Chip) (r : Nat) : Keeps s (Chip.otpProgKey s r).2 := by unfold Chip.otpProgKey; (repeat' split) <;> simp

@[simp] theorem Chip.otpProgClear_keeps (s : Chip) : Keeps s (Chip.otpProgClear s).2 := by simp [Chip.otpProgClear]

@[simp] theorem Chip.otpProgDone_keeps (s : Chip) (good : Bool) : Keeps s (Chip.otpProgDone s good) := by
  unfold Chip.otpProgDone
  repeat' first
    | (try lift_lets); intro x
      first
      | have hx : Keeps s x := by simp only [x]; (repeat' first | (simp [*]; done) | split); done
        clear_value x
      | have hx : Keeps s x.2 := by simp only [x]; (repeat' first | (simp [*]; done) | split); done
        clear_value x
      | clear_value x
    | simp [*]; done
    | split

@[simp] theorem Chip.rbCommit_keeps (s : Chip) (r : Nat) : Keeps s (Chip.rbCommit s r).2 := by
  unfold Chip.rbCommit
  repeat' first
    | (try lift_lets); intro x
      first
      | have hx : Keeps s x := by simp only [x]; (repeat' first | (simp [*]; done) | split); done
        clear_value x
      | have hx : Keeps s x.2 := by simp only [x]; (repeat' first | (simp [*]; done) | split); done
        clear_value x
      | clear_value x
    | simp [*]; done
    | split

@[simp] theorem Chip.chainWait_keeps (s : Chip) (err : Nat) : Keeps s (Chip.chainWait s err) := by
  unfold Chip.chainWait
  repeat' first
    | (try lift_lets); intro x
      first
      | have hx : Keeps s x := by simp only [x]; (repeat' first | (simp [*]; done) | split); done
        clear_value x
      | have hx : Keeps s x.2 := by simp only [x]; (repeat' first | (simp [*]; done) | split); done
        clear_value x
      | clear_value x
    | simp [*]; done
    | split

@[simp] theorem Chip.imageBegin_keeps (s : Chip) (len : Nat) : Keeps s (Chip.imageBegin s len).2 := by unfold Chip.imageBegin; (repeat' split) <;> simp

@[simp] theorem Chip.imageEnd_keeps (s : Chip) : Keeps s (Chip.imageEnd s).2 := by unfold Chip.imageEnd; (repeat' split) <;> simp

@[simp] theorem Chip.setMbx_keeps (s : Chip) (m : Nat) (x : Mbx) : Keeps s (Chip.setMbx s m x) := by simp [Chip.setMbx]

@[simp] theorem Chip.mbxPop_keeps (s : Chip) (m : Nat) : Keeps s (Chip.mbxPop s m) := by
  unfold Chip.mbxPop
  repeat' first
    | (try lift_lets); intro x
      first
      | have hx : Keeps s x := by simp only [x]; (repeat' first | (simp [*]; done) | split); done
        clear_value x
      | have hx : Keeps s x.2 := by simp only [x]; (repeat' first | (simp [*]; done) | split); done
        clear_value x
      | clear_value x
    | simp [*]; done
    | split

@[simp] theorem Chip.poolPush_keeps (s : Chip) (b : Nat) : Keeps s (Chip.poolPush s b) := by simp [Chip.poolPush]

theorem Chip.poolPop_keeps (s : Chip) (who : Nat) {r : Nat × Chip} (h : s.poolPop who = some r) : Keeps s r.2 := by
  unfold Chip.poolPop at h
  split at h
  · cases h; simp
  · split at h
    · cases h
    · cases h; simp

@[simp] theorem Chip.grant_keeps (s : Chip) (e : Nat) (val upd : Nat) (z c v : Bool) (access : Nat) : Keeps s (Chip.grant s e val upd z c v access) := by
  unfold Chip.grant
  repeat' first
    | (try lift_lets); intro x
      first
      | have hx : Keeps s x := by simp only [x]; (repeat' first | (simp [*]; done) | split); done
        clear_value x
      | have hx : Keeps s x.2 := by simp only [x]; (repeat' first | (simp [*]; done) | split); done
        clear_value x
      | clear_value x
    | simp [*]; done
    | rename_i h; obtain rfl := congrArg Prod.snd h; simp; done
    | split

@[simp] theorem Chip.poolServe_keeps (s : Chip) (fuel : Nat) : Keeps s (s.poolServe fuel) := by
  induction fuel generalizing s with
  | zero => simp [Chip.poolServe]
  | succ fuel ih =>
    simp only [Chip.poolServe]
    split
    · simp
    · split
      · simp
      · split
        · simp
        · rename_i h
          refine Keeps.trans (Chip.poolPop_keeps _ _ h) (Keeps.trans ?_ (ih _)); simp

@[simp] theorem Chip.bootStore_keeps (s : Chip) (r : Nat) : Keeps s (Chip.bootStore s r).2 := by unfold Chip.bootStore; (repeat' split) <;> simp

@[simp] theorem Chip.putWin_keeps (s : Chip) (f : Nat → Fld) (w : Nat) (b : Bool) : Keeps s (s.putWin f w b) := by simp [Chip.putWin]

@[simp] theorem Chip.strikeTunnel_keeps (s : Chip) : Keeps s (Chip.strikeTunnel s) := by
  unfold Chip.strikeTunnel
  repeat' first
    | (try lift_lets); intro x
      first
      | have hx : Keeps s x := by simp only [x]; (repeat' first | (simp [*]; done) | split); done
        clear_value x
      | have hx : Keeps s x.2 := by simp only [x]; (repeat' first | (simp [*]; done) | split); done
        clear_value x
      | clear_value x
    | simp [*]; done
    | split

@[simp] theorem Chip.liveStall_keeps (s : Chip) (a : Nat) : Keeps s (Chip.liveStall s a) := by
  unfold Chip.liveStall
  repeat' first
    | (try lift_lets); intro x
      first
      | have hx : Keeps s x := by simp only [x]; (repeat' first | (simp [*]; done) | split); done
        clear_value x
      | have hx : Keeps s x.2 := by simp only [x]; (repeat' first | (simp [*]; done) | split); done
        clear_value x
      | clear_value x
    | simp [*]; done
    | split

@[simp] theorem Chip.takeWakeFields_keeps (s : Chip) : Keeps s (Chip.takeWakeFields s) := by
  unfold Chip.takeWakeFields
  repeat' first
    | (try lift_lets); intro x
      first
      | have hx : Keeps s x := by simp only [x]; (repeat' first | with_reducible refine Keeps.foldl (fun s _ => ?_) ?_ | (simp [*]; done) | split | dsimp only); done
        clear_value x
      | have hx : Keeps s x.2 := by simp only [x]; (repeat' first | with_reducible refine Keeps.foldl (fun s _ => ?_) ?_ | (simp [*]; done) | split | dsimp only); done
        clear_value x
      | clear_value x
    | with_reducible refine Keeps.foldl (fun s _ => ?_) ?_
    | simp [*]; done
    | split
    | dsimp only

@[simp] theorem Chip.setFuse_keeps (s : Chip) (ch : Nat) (x : FuseCh) : Keeps s (Chip.setFuse s ch x) := by simp [Chip.setFuse]

@[simp] theorem Chip.fuseSettle_keeps (s : Chip) : Keeps s (Chip.fuseSettle s) := by
  unfold Chip.fuseSettle
  repeat' first
    | (try lift_lets); intro x
      first
      | have hx : Keeps s x := by simp only [x]; (repeat' first | with_reducible refine Keeps.each (fun s _ => ?_) ?_ | with_reducible refine Keeps.foldl (fun s _ => ?_) ?_ | (simp [*]; done) | split | dsimp only); done
        clear_value x
      | have hx : Keeps s x.2 := by simp only [x]; (repeat' first | with_reducible refine Keeps.each (fun s _ => ?_) ?_ | with_reducible refine Keeps.foldl (fun s _ => ?_) ?_ | (simp [*]; done) | split | dsimp only); done
        clear_value x
      | clear_value x
    | with_reducible refine Keeps.each (fun s _ => ?_) ?_
    | with_reducible refine Keeps.foldl (fun s _ => ?_) ?_
    | simp [*]; done
    | split
    | dsimp only

@[simp] theorem Chip.setOut_keeps (s : Chip) (o : Nat) (x : DrvOut) : Keeps s (Chip.setOut s o x) := by simp [Chip.setOut]

@[simp] theorem Chip.drvSettle1_keeps (s : Chip) (o : Nat) : Keeps s (Chip.drvSettle1 s o) := by
  unfold Chip.drvSettle1
  repeat' first
    | (try lift_lets); intro x
      first
      | have hx : Keeps s x := by simp only [x]; (repeat' first | (simp [*]; done) | split); done
        clear_value x
      | have hx : Keeps s x.2 := by simp only [x]; (repeat' first | (simp [*]; done) | split); done
        clear_value x
      | clear_value x
    | simp [*]; done
    | rename_i h; obtain rfl := congrArg Prod.snd h; simp; done
    | split

@[simp] theorem Chip.drvSettle_keeps (s : Chip) : Keeps s (Chip.drvSettle s) := by
  unfold Chip.drvSettle
  repeat' first
    | (try lift_lets); intro x
      first
      | have hx : Keeps s x := by simp only [x]; (repeat' first | with_reducible refine Keeps.each (fun s _ => ?_) ?_ | (simp [*]; done) | split | dsimp only); done
        clear_value x
      | have hx : Keeps s x.2 := by simp only [x]; (repeat' first | with_reducible refine Keeps.each (fun s _ => ?_) ?_ | (simp [*]; done) | split | dsimp only); done
        clear_value x
      | clear_value x
    | with_reducible refine Keeps.each (fun s _ => ?_) ?_
    | simp [*]; done
    | split
    | dsimp only

@[simp] theorem Chip.policyShow_keeps (s : Chip) : Keeps s (Chip.policyShow s) := by
  unfold Chip.policyShow
  repeat' first
    | (try lift_lets); intro x
      first
      | have hx : Keeps s x := by simp only [x]; (repeat' first | with_reducible refine Keeps.each (fun s _ => ?_) ?_ | (simp [*]; done) | split | dsimp only); done
        clear_value x
      | have hx : Keeps s x.2 := by simp only [x]; (repeat' first | with_reducible refine Keeps.each (fun s _ => ?_) ?_ | (simp [*]; done) | split | dsimp only); done
        clear_value x
      | clear_value x
    | with_reducible refine Keeps.each (fun s _ => ?_) ?_
    | simp [*]; done
    | split
    | dsimp only

@[simp] theorem Chip.setCuff_keeps (s : Chip) (c : Nat) (x : Cuff) : Keeps s (Chip.setCuff s c x) := by simp [Chip.setCuff]

@[simp] theorem Chip.vconnAuto_keeps (s : Chip) (c : Nat) : Keeps s (Chip.vconnAuto s c) := by
  unfold Chip.vconnAuto
  repeat' first
    | (try lift_lets); intro x
      first
      | have hx : Keeps s x := by simp only [x]; (repeat' first | (simp [*]; done) | split); done
        clear_value x
      | have hx : Keeps s x.2 := by simp only [x]; (repeat' first | (simp [*]; done) | split); done
        clear_value x
      | clear_value x
    | simp [*]; done
    | split

@[simp] theorem Chip.vbusShow_keeps (s : Chip) (c : Nat) : Keeps s (Chip.vbusShow s c) := by
  unfold Chip.vbusShow
  repeat' first
    | (try lift_lets); intro x
      first
      | have hx : Keeps s x := by simp only [x]; (repeat' first | (simp [*]; done) | split); done
        clear_value x
      | have hx : Keeps s x.2 := by simp only [x]; (repeat' first | (simp [*]; done) | split); done
        clear_value x
      | clear_value x
    | simp [*]; done
    | split

@[simp] theorem Chip.vset_keeps (s : Chip) (c v : Nat) : Keeps s (Chip.vset s c v) := by simp [Chip.vset]

@[simp] theorem Chip.fuseOpen_keeps (s : Chip) (ch : Nat) : Keeps s (Chip.fuseOpen s ch) := by
  unfold Chip.fuseOpen
  repeat' first
    | (try lift_lets); intro x
      first
      | have hx : Keeps s x := by simp only [x]; (repeat' first | (simp [*]; done) | split); done
        clear_value x
      | have hx : Keeps s x.2 := by simp only [x]; (repeat' first | (simp [*]; done) | split); done
        clear_value x
      | clear_value x
    | simp [*]; done
    | split

@[simp] theorem Chip.srcOff_keeps (s : Chip) (c : Nat) : Keeps s (Chip.srcOff s c) := by
  unfold Chip.srcOff
  repeat' first
    | (try lift_lets); intro x
      first
      | have hx : Keeps s x := by simp only [x]; (repeat' first | (simp [*]; done) | split); done
        clear_value x
      | have hx : Keeps s x.2 := by simp only [x]; (repeat' first | (simp [*]; done) | split); done
        clear_value x
      | clear_value x
    | simp [*]; done
    | split

@[simp] theorem Chip.safeSource_keeps (s : Chip) (c : Nat) : Keeps s (Chip.safeSource s c) := by
  unfold Chip.safeSource
  repeat' first
    | (try lift_lets); intro x
      first
      | have hx : Keeps s x := by simp only [x]; (repeat' first | (simp [*]; done) | split); done
        clear_value x
      | have hx : Keeps s x.2 := by simp only [x]; (repeat' first | (simp [*]; done) | split); done
        clear_value x
      | clear_value x
    | simp [*]; done
    | split

@[simp] theorem Chip.fieldSettle_keeps (s : Chip) : Keeps s (Chip.fieldSettle s) := by simp [Chip.fieldSettle]

@[simp] theorem Chip.fieldTake_keeps (s : Chip) (mask : Nat) : Keeps s (Chip.fieldTake s mask) := by
  unfold Chip.fieldTake
  repeat' first
    | (try lift_lets); intro x
      first
      | have hx : Keeps s x := by simp only [x]; (repeat' first | with_reducible refine Keeps.foldl (fun s _ => ?_) ?_ | (simp [*]; done) | split | dsimp only); done
        clear_value x
      | have hx : Keeps s x.2 := by simp only [x]; (repeat' first | with_reducible refine Keeps.foldl (fun s _ => ?_) ?_ | (simp [*]; done) | split | dsimp only); done
        clear_value x
      | clear_value x
    | with_reducible refine Keeps.foldl (fun s _ => ?_) ?_
    | simp [*]; done
    | split
    | dsimp only

@[simp] theorem Chip.drvTake_keeps (s : Chip) (o v : Nat) : Keeps s (Chip.drvTake s o v) := by
  unfold Chip.drvTake
  repeat' first
    | (try lift_lets); intro x
      first
      | have hx : Keeps s x := by simp only [x]; (repeat' first | (simp [*]; done) | split); done
        clear_value x
      | have hx : Keeps s x.2 := by simp only [x]; (repeat' first | (simp [*]; done) | split); done
        clear_value x
      | clear_value x
    | simp [*]; done
    | split

@[simp] theorem Chip.drvFresh_keeps (s : Chip) (o : Nat) : Keeps s (Chip.drvFresh s o) := by
  unfold Chip.drvFresh
  repeat' first
    | (try lift_lets); intro x
      first
      | have hx : Keeps s x := by simp only [x]; (repeat' first | (simp [*]; done) | split); done
        clear_value x
      | have hx : Keeps s x.2 := by simp only [x]; (repeat' first | (simp [*]; done) | split); done
        clear_value x
      | clear_value x
    | simp [*]; done
    | split

@[simp] theorem Chip.drvTotal_keeps (s : Chip) : Keeps s (Chip.drvTotal s) := by
  unfold Chip.drvTotal
  repeat' first
    | (try lift_lets); intro x
      first
      | have hx : Keeps s x := by simp only [x]; (repeat' first | (simp [*]; done) | split); done
        clear_value x
      | have hx : Keeps s x.2 := by simp only [x]; (repeat' first | (simp [*]; done) | split); done
        clear_value x
      | clear_value x
    | simp [*]; done
    | split

@[simp] theorem Chip.drvArrive_keeps (s : Chip) (o : Nat) (sp : Setpoint) : Keeps s (Chip.drvArrive s o sp) := by
  unfold Chip.drvArrive
  repeat' first
    | (try lift_lets); intro x
      first
      | have hx : Keeps s x := by simp only [x]; (repeat' first | (simp [*]; done) | split); done
        clear_value x
      | have hx : Keeps s x.2 := by simp only [x]; (repeat' first | (simp [*]; done) | split); done
        clear_value x
      | clear_value x
    | simp [*]; done
    | split

@[simp] theorem Chip.fieldRevive_keeps (s : Chip) (f : Nat) : Keeps s (Chip.fieldRevive s f) := by
  unfold Chip.fieldRevive
  repeat' first
    | (try lift_lets); intro x
      first
      | have hx : Keeps s x := by simp only [x]; (repeat' first | with_reducible refine Keeps.foldl (fun s _ => ?_) ?_ | (simp [*]; done) | split | dsimp only); done
        clear_value x
      | have hx : Keeps s x.2 := by simp only [x]; (repeat' first | with_reducible refine Keeps.foldl (fun s _ => ?_) ?_ | (simp [*]; done) | split | dsimp only); done
        clear_value x
      | clear_value x
    | with_reducible refine Keeps.foldl (fun s _ => ?_) ?_
    | simp [*]; done
    | rename_i h; obtain rfl := congrArg Prod.snd h; simp; done
    | split
    | dsimp only

@[simp] theorem Chip.linkReqEnd_keeps (s : Chip) (p res : Nat) : Keeps s (Chip.linkReqEnd s p res) := by simp [Chip.linkReqEnd]

@[simp] theorem Chip.marginEnd_keeps (s : Chip) (p : Nat) (valid : Bool) (w h : Nat) : Keeps s (Chip.marginEnd s p valid w h) := by
  unfold Chip.marginEnd
  repeat' first
    | (try lift_lets); intro x
      first
      | have hx : Keeps s x := by simp only [x]; (repeat' first | (simp [*]; done) | split); done
        clear_value x
      | have hx : Keeps s x.2 := by simp only [x]; (repeat' first | (simp [*]; done) | split); done
        clear_value x
      | clear_value x
    | simp [*]; done
    | split

@[simp] theorem Chip.marginCut_keeps (s : Chip) (p : Nat) : Keeps s (Chip.marginCut s p) := by simp [Chip.marginCut]

@[simp] theorem Chip.testZero_keeps (s : Chip) (kind : Nat) : Keeps s (Chip.testZero s kind) := by unfold Chip.testZero; (repeat' split) <;> simp

@[simp] theorem Chip.testOver_keeps (s : Chip) (res cause : Nat) : Keeps s (Chip.testOver s res cause) := by
  unfold Chip.testOver
  repeat' first
    | (try lift_lets); intro x
      first
      | have hx : Keeps s x := by simp only [x]; (repeat' first | (simp [*]; done) | split); done
        clear_value x
      | have hx : Keeps s x.2 := by simp only [x]; (repeat' first | (simp [*]; done) | split); done
        clear_value x
      | clear_value x
    | simp [*]; done
    | split

@[simp] theorem Chip.nbAbort_keeps (s : Chip) (p : Nat) : Keeps s (Chip.nbAbort s p) := by simp [Chip.nbAbort]

@[simp] theorem Chip.alm_keeps (s : Chip) (cause : Nat) : Keeps s (Chip.alm s cause) := by simp [Chip.alm]

@[simp] theorem Chip.foldBack_keeps (s : Chip) : Keeps s (Chip.foldBack s) := by simp [Chip.foldBack]

@[simp] theorem Chip.linkEnter_keeps (s : Chip) (p st : Nat) : Keeps s (Chip.linkEnter s p st) := by
  unfold Chip.linkEnter
  repeat' first
    | (try lift_lets); intro x
      first
      | have hx : Keeps s x := by simp only [x]; (repeat' first | (simp [*]; done) | split); done
        clear_value x
      | have hx : Keeps s x.2 := by simp only [x]; (repeat' first | (simp [*]; done) | split); done
        clear_value x
      | clear_value x
    | simp [*]; done
    | split

@[simp] theorem Chip.altOff_keeps (s : Chip) (c : Nat) : Keeps s (Chip.altOff s c) := by
  unfold Chip.altOff
  repeat' first
    | (try lift_lets); intro x
      first
      | have hx : Keeps s x := by simp only [x]; (repeat' first | (simp [*]; done) | split); done
        clear_value x
      | have hx : Keeps s x.2 := by simp only [x]; (repeat' first | (simp [*]; done) | split); done
        clear_value x
      | clear_value x
    | simp [*]; done
    | rename_i h; obtain rfl := congrArg Prod.snd h; simp; done
    | split

@[simp] theorem Chip.txEnd_keeps (s : Chip) (c res : Nat) : Keeps s (Chip.txEnd s c res) := by simp [Chip.txEnd]

@[simp] theorem Chip.contractEnd_keeps (s : Chip) (c : Nat) : Keeps s (Chip.contractEnd s c) := by simp [Chip.contractEnd]

@[simp] theorem Chip.cuffClear_keeps (s : Chip) (c : Nat) : Keeps s (Chip.cuffClear s c) := by
  unfold Chip.cuffClear
  repeat' first
    | (try lift_lets); intro x
      first
      | have hx : Keeps s x := by simp only [x]; (repeat' first | (simp [*]; done) | split); done
        clear_value x
      | have hx : Keeps s x.2 := by simp only [x]; (repeat' first | (simp [*]; done) | split); done
        clear_value x
      | clear_value x
    | simp [*]; done
    | split

@[simp] theorem Chip.setHp_keeps (s : Chip) (p : Nat) (x : HubPort) : Keeps s (Chip.setHp s p x) := by simp [Chip.setHp]

@[simp] theorem Chip.copyMgmt_keeps (s : Chip) : Keeps s (Chip.copyMgmt s) := by simp [Chip.copyMgmt]

@[simp] theorem Chip.portShow_keeps (s : Chip) (p : Nat) : Keeps s (Chip.portShow s p) := by simp [Chip.portShow]

@[simp] theorem Chip.setSt_keeps (s : Chip) (p st : Nat) : Keeps s (Chip.setSt s p st) := by simp [Chip.setSt]

@[simp] theorem Chip.portChange_keeps (s : Chip) (p : Nat) (c : PortChange) : Keeps s (Chip.portChange s p c) := by
  unfold Chip.portChange
  repeat' first
    | (try lift_lets); intro x
      first
      | have hx : Keeps s x := by simp only [x]; (repeat' first | (simp [*]; done) | split); done
        clear_value x
      | have hx : Keeps s x.2 := by simp only [x]; (repeat' first | (simp [*]; done) | split); done
        clear_value x
      | clear_value x
    | simp [*]; done
    | rename_i h; obtain rfl := congrArg Prod.snd h; simp; done
    | split

@[simp] theorem Chip.hubWake_keeps (s : Chip) : Keeps s (Chip.hubWake s) := by simp [Chip.hubWake]

@[simp] theorem Chip.portGone_keeps (s : Chip) (p : Nat) : Keeps s (Chip.portGone s p) := by
  unfold Chip.portGone
  repeat' first
    | (try lift_lets); intro x
      first
      | have hx : Keeps s x := by simp only [x]; (repeat' first | (simp [*]; done) | split); done
        clear_value x
      | have hx : Keeps s x.2 := by simp only [x]; (repeat' first | (simp [*]; done) | split); done
        clear_value x
      | clear_value x
    | simp [*]; done
    | split

@[simp] theorem Chip.portPowerOff_keeps (s : Chip) (p : Nat) : Keeps s (Chip.portPowerOff s p) := by
  unfold Chip.portPowerOff
  repeat' first
    | (try lift_lets); intro x
      first
      | have hx : Keeps s x := by simp only [x]; (repeat' first | (simp [*]; done) | split); done
        clear_value x
      | have hx : Keeps s x.2 := by simp only [x]; (repeat' first | (simp [*]; done) | split); done
        clear_value x
      | clear_value x
    | simp [*]; done
    | split

@[simp] theorem Chip.portPowerOn_keeps (s : Chip) (p : Nat) : Keeps s (Chip.portPowerOn s p) := by simp [Chip.portPowerOn]

@[simp] theorem Chip.hubAuto_keeps (s : Chip) : Keeps s (Chip.hubAuto s) := by
  unfold Chip.hubAuto
  repeat' first
    | (try lift_lets); intro x
      first
      | have hx : Keeps s x := by simp only [x]; (repeat' first | with_reducible refine Keeps.each (fun s _ => ?_) ?_ | (simp [*]; done) | split | dsimp only); done
        clear_value x
      | have hx : Keeps s x.2 := by simp only [x]; (repeat' first | with_reducible refine Keeps.each (fun s _ => ?_) ?_ | (simp [*]; done) | split | dsimp only); done
        clear_value x
      | clear_value x
    | with_reducible refine Keeps.each (fun s _ => ?_) ?_
    | simp [*]; done
    | split
    | dsimp only

@[simp] theorem Chip.hubUpState_keeps (s : Chip) (v : Nat) : Keeps s (Chip.hubUpState s v) := by
  unfold Chip.hubUpState
  repeat' first
    | (try lift_lets); intro x
      first
      | have hx : Keeps s x := by simp only [x]; (repeat' first | with_reducible refine Keeps.each (fun s _ => ?_) ?_ | (simp [*]; done) | split | dsimp only); done
        clear_value x
      | have hx : Keeps s x.2 := by simp only [x]; (repeat' first | with_reducible refine Keeps.each (fun s _ => ?_) ?_ | (simp [*]; done) | split | dsimp only); done
        clear_value x
      | clear_value x
    | with_reducible refine Keeps.each (fun s _ => ?_) ?_
    | simp [*]; done
    | split
    | dsimp only

@[simp] theorem Chip.cuffPair_keeps (s : Chip) (c : Nat) : Keeps s (Chip.cuffPair s c) := by
  unfold Chip.cuffPair
  repeat' first
    | (try lift_lets); intro x
      first
      | have hx : Keeps s x := by simp only [x]; (repeat' first | (simp [*]; done) | split); done
        clear_value x
      | have hx : Keeps s x.2 := by simp only [x]; (repeat' first | (simp [*]; done) | split); done
        clear_value x
      | clear_value x
    | simp [*]; done
    | split

@[simp] theorem Chip.wakeCause_keeps (s : Chip) (c : Nat) : Keeps s (Chip.wakeCause s c) := by
  unfold Chip.wakeCause
  repeat' first
    | (try lift_lets); intro x
      first
      | have hx : Keeps s x := by simp only [x]; (repeat' first | (simp [*]; done) | split); done
        clear_value x
      | have hx : Keeps s x.2 := by simp only [x]; (repeat' first | (simp [*]; done) | split); done
        clear_value x
      | clear_value x
    | simp [*]; done
    | split

@[simp] theorem Chip.attachEvent_keeps (s : Chip) (c : Nat) : Keeps s (Chip.attachEvent s c) := by simp [Chip.attachEvent]

@[simp] theorem Chip.tcEnter_keeps (s : Chip) (c st : Nat) : Keeps s (Chip.tcEnter s c st) := by
  unfold Chip.tcEnter
  repeat' first
    | (try lift_lets); intro x
      first
      | have hx : Keeps s x := by simp only [x]; (repeat' first | (simp [*]; done) | split); done
        clear_value x
      | have hx : Keeps s x.2 := by simp only [x]; (repeat' first | (simp [*]; done) | split); done
        clear_value x
      | clear_value x
    | simp [*]; done
    | split

@[simp] theorem Chip.cuffOff_keeps (s : Chip) (c : Nat) : Keeps s (Chip.cuffOff s c) := by simp [Chip.cuffOff]

@[simp] theorem Chip.cuffUnit_keeps (s : Chip) (c op : Nat) : Keeps s (Chip.cuffUnit s c op) := by unfold Chip.cuffUnit; (repeat' split) <;> simp

@[simp] theorem Chip.fuseUnit_keeps (s : Chip) (ch op v : Nat) : Keeps s (Chip.fuseUnit s ch op v) := by
  unfold Chip.fuseUnit
  repeat' first
    | (try lift_lets); intro x
      first
      | have hx : Keeps s x := by simp only [x]; (repeat' first | (simp [*]; done) | split); done
        clear_value x
      | have hx : Keeps s x.2 := by simp only [x]; (repeat' first | (simp [*]; done) | split); done
        clear_value x
      | clear_value x
    | simp [*]; done
    | rename_i h; obtain rfl := congrArg Prod.snd h; simp; done
    | split

@[simp] theorem Chip.measUnit_keeps (s : Chip) (op v : Nat) : Keeps s (Chip.measUnit s op v) := by
  unfold Chip.measUnit
  repeat' first
    | (try lift_lets); intro x
      first
      | have hx : Keeps s x := by simp only [x]; (repeat' first | with_reducible refine Keeps.foldl (fun s _ => ?_) ?_ | (simp [*]; done) | split | dsimp only); done
        clear_value x
      | have hx : Keeps s x.2 := by simp only [x]; (repeat' first | with_reducible refine Keeps.foldl (fun s _ => ?_) ?_ | (simp [*]; done) | split | dsimp only); done
        clear_value x
      | clear_value x
    | with_reducible refine Keeps.foldl (fun s _ => ?_) ?_
    | simp [*]; done
    | rename_i h; obtain rfl := congrArg Prod.snd h; simp; done
    | split
    | dsimp only

@[simp] theorem Chip.drvUnit_keeps (s : Chip) (o op v : Nat) : Keeps s (Chip.drvUnit s o op v) := by unfold Chip.drvUnit; (repeat' split) <;> simp

@[simp] theorem Chip.deliver_keeps (s : Chip) (i : SeamItem) : Keeps s (s.deliver i) := by
  have k1 : ∀ (t : Chip) (m : SMap Nat), Keeps s t → Keeps s { t with fShadow := m } := fun _ _ h => h
  have k2 : ∀ t : Chip, Keeps s t → Keeps s t.fieldSettle := fun t h => by simpa using h
  have k3 : ∀ (t : Chip) (m : SMap Nat) (a : Option (Nat × Nat)), Keeps s t → Keeps s { t with fShadow := m, fArm := a } := fun _ _ _ h => h
  cases i with
  | shadowSet f v =>
    simp only [Chip.deliver]
    generalize groupOfBlk (blkOfKey f.key) = g
    exact k1 _ _ (by split <;> simp)
  | workSet f v => exact k2 _ ⟨rfl, rfl⟩
  | pour m => exact ⟨rfl, rfl⟩
  | arm m t => simp only [Chip.deliver]; split <;> exact ⟨rfl, rfl⟩
  | withdraw m =>
    simp only [Chip.deliver]
    exact k3 _ _ _ (by split <;> simp)
  | setpoint o x => exact Chip.drvArrive_keeps _ _ _
  | unit b i o v => simp only [Chip.deliver]; split <;> simp

@[simp] theorem Chip.fieldAct_keeps (s : Chip) (i : SeamItem) : Keeps s (Chip.fieldAct s i) := by simp [Chip.fieldAct]

@[simp] theorem Chip.putField_keeps (s : Chip) (f : Fld) (v : Nat) : Keeps s (Chip.putField s f v) := by simp [Chip.putField]

@[simp] theorem Chip.writeFld_keeps (s : Chip) (l : Loc) (v : Nat) (f : Fld) : Keeps s (Chip.writeFld s l v f) := by
  unfold Chip.writeFld
  repeat' first
    | (try lift_lets); intro x
      first
      | have hx : Keeps s x := by simp only [x]; (repeat' first | (simp [*]; done) | split); done
        clear_value x
      | have hx : Keeps s x.2 := by simp only [x]; (repeat' first | (simp [*]; done) | split); done
        clear_value x
      | clear_value x
    | simp [*]; done
    | rename_i h; obtain rfl := congrArg Prod.snd h; simp; done
    | split

@[simp] theorem Chip.ignored_keeps (s : Chip) (r blk inst off : Nat) : Keeps s (Chip.ignored s r blk inst off) := by simp [Chip.ignored]

@[simp] theorem Chip.after_keeps (s : Chip) (mask : Nat) : Keeps s (Chip.after s mask) := by simp [Chip.after]

@[simp] theorem Chip.pourWindow_keeps (s : Chip) (w : Nat) : Keeps s (Chip.pourWindow s w) := by
  unfold Chip.pourWindow
  repeat' first
    | (try lift_lets); intro x
      first
      | have hx : Keeps s x := by simp only [x]; (repeat' first | (simp [*]; done) | split); done
        clear_value x
      | have hx : Keeps s x.2 := by simp only [x]; (repeat' first | (simp [*]; done) | split); done
        clear_value x
      | clear_value x
    | simp [*]; done
    | split

@[simp] theorem Chip.pourWindows_keeps (s before : Chip) : Keeps s (Chip.pourWindows s before) := by
  unfold Chip.pourWindows
  repeat' first
    | (try lift_lets); intro x
      first
      | have hx : Keeps s x := by simp only [x]; (repeat' first | with_reducible refine Keeps.each (fun s _ => ?_) ?_ | (simp [*]; done) | split | dsimp only); done
        clear_value x
      | have hx : Keeps s x.2 := by simp only [x]; (repeat' first | with_reducible refine Keeps.each (fun s _ => ?_) ?_ | (simp [*]; done) | split | dsimp only); done
        clear_value x
      | clear_value x
    | with_reducible refine Keeps.each (fun s _ => ?_) ?_
    | simp [*]; done
    | split
    | dsimp only

@[simp] theorem Chip.kickWdog_keeps (s : Chip) (e : Nat) : Keeps s (Chip.kickWdog s e) := by simp [Chip.kickWdog]

@[simp] theorem Chip.setEngState_keeps (s : Chip) (e st : Nat) : Keeps s (Chip.setEngState s e st) := by
  unfold Chip.setEngState
  repeat' first
    | (try lift_lets); intro x
      first
      | have hx : Keeps s x := by simp only [x]; (repeat' first | (simp [*]; done) | split); done
        clear_value x
      | have hx : Keeps s x.2 := by simp only [x]; (repeat' first | (simp [*]; done) | split); done
        clear_value x
      | clear_value x
    | simp [*]; done
    | split

@[simp] theorem Chip.engStart_keeps (s : Chip) (e : Nat) : Keeps s (Chip.engStart s e) := by simp [Chip.engStart]

@[simp] theorem Chip.pourEngines_keeps (s : Chip) (before : Chip) : Keeps s (Chip.pourEngines s before) := by
  unfold Chip.pourEngines
  repeat' first
    | (try lift_lets); intro x
      first
      | have hx : Keeps s x := by simp only [x]; (repeat' first | with_reducible refine Keeps.each (fun s _ => ?_) ?_ | (simp [*]; done) | split | dsimp only); done
        clear_value x
      | have hx : Keeps s x.2 := by simp only [x]; (repeat' first | with_reducible refine Keeps.each (fun s _ => ?_) ?_ | (simp [*]; done) | split | dsimp only); done
        clear_value x
      | clear_value x
    | with_reducible refine Keeps.each (fun s _ => ?_) ?_
    | simp [*]; done
    | split
    | dsimp only

@[simp] theorem Chip.fault_keeps (s : Chip) (f cause det word1 : Nat) : Keeps s (Chip.fault s f cause det word1) := by
  unfold Chip.fault
  repeat' first
    | (try lift_lets); intro x
      first
      | have hx : Keeps s x := by simp only [x]; (repeat' first | (simp [*]; done) | split); done
        clear_value x
      | have hx : Keeps s x.2 := by simp only [x]; (repeat' first | (simp [*]; done) | split); done
        clear_value x
      | clear_value x
    | simp [*]; done
    | split

@[simp] theorem Chip.linkFence_keeps (s : Chip) (f : Nat) (dep : Nat) : Keeps s (Chip.linkFence s f dep) := by
  unfold Chip.linkFence
  repeat' first
    | (try lift_lets); intro x
      first
      | have hx : Keeps s x := by simp only [x]; (repeat' first | with_reducible refine Keeps.each (fun s _ => ?_) ?_ | (simp [*]; done) | split | dsimp only); done
        clear_value x
      | have hx : Keeps s x.2 := by simp only [x]; (repeat' first | with_reducible refine Keeps.each (fun s _ => ?_) ?_ | (simp [*]; done) | split | dsimp only); done
        clear_value x
      | clear_value x
    | with_reducible refine Keeps.each (fun s _ => ?_) ?_
    | simp [*]; done
    | split
    | dsimp only

@[simp] theorem Chip.laneSend_keeps (s : Chip) (afresh : Bool) : Keeps s (Chip.laneSend s afresh) := by
  unfold Chip.laneSend
  repeat' first
    | (try lift_lets); intro x
      first
      | have hx : Keeps s x := by simp only [x]; (repeat' first | (simp [*]; done) | split); done
        clear_value x
      | have hx : Keeps s x.2 := by simp only [x]; (repeat' first | (simp [*]; done) | split); done
        clear_value x
      | clear_value x
    | simp [*]; done
    | split

@[simp] theorem Chip.pourFlasks_keeps (s before : Chip) : Keeps s (Chip.pourFlasks s before) := by
  unfold Chip.pourFlasks
  repeat' first
    | (try lift_lets); intro x
      first
      | have hx : Keeps s x := by simp only [x]; (repeat' first | with_reducible refine Keeps.each (fun s _ => ?_) ?_ | (simp [*]; done) | split | dsimp only); done
        clear_value x
      | have hx : Keeps s x.2 := by simp only [x]; (repeat' first | with_reducible refine Keeps.each (fun s _ => ?_) ?_ | (simp [*]; done) | split | dsimp only); done
        clear_value x
      | clear_value x
    | with_reducible refine Keeps.each (fun s _ => ?_) ?_
    | simp [*]; done
    | split
    | dsimp only

@[simp] theorem Chip.tellTerms_keeps (s : Chip) : Keeps s s.tellTerms := by
  unfold Chip.tellTerms
  dsimp only
  split <;> simp

@[simp] theorem Chip.setWp_keeps (s : Chip) (w : Nat) (x : WPort) : Keeps s (Chip.setWp s w x) := by simp [Chip.setWp]

@[simp] theorem Chip.setWs_keeps (s : Chip) (w : Nat) (x : WServed) : Keeps s (Chip.setWs s w x) := by simp [Chip.setWs]

@[simp] theorem Chip.wideCount_keeps (s : Chip) : Keeps s (Chip.wideCount s) := by
  unfold Chip.wideCount
  repeat' first
    | (try lift_lets); intro x
      first
      | have hx : Keeps s x := by simp only [x]; (repeat' first | with_reducible refine Keeps.foldl (fun s _ => ?_) ?_ | (simp [*]; done) | split | dsimp only); done
        clear_value x
      | have hx : Keeps s x.2 := by simp only [x]; (repeat' first | with_reducible refine Keeps.foldl (fun s _ => ?_) ?_ | (simp [*]; done) | split | dsimp only); done
        clear_value x
      | clear_value x
    | with_reducible refine Keeps.foldl (fun s _ => ?_) ?_
    | simp [*]; done
    | split
    | dsimp only

@[simp] theorem Chip.setWpoll_keeps (s : Chip) (e : Nat) (x : WPoll) : Keeps s (Chip.setWpoll s e x) := by simp [Chip.setWpoll]

@[simp] theorem Chip.pourWide_keeps (s before : Chip) : Keeps s (s.pourWide before) := by
  have k1 : ∀ (t : Chip), Keeps s t → Keeps s t.wideCount := fun t h => by simpa using h
  have k2 : ∀ (t : Chip), Keeps s t → Keeps s t.hubAuto := fun t h => by simpa using h
  unfold Chip.pourWide
  refine k2 _ (Keeps.each (fun s p => ?_) (Keeps.each (fun s e => ?_) (k1 _ (Keeps.each (fun s w => ?_) ⟨rfl, rfl⟩))))
  all_goals (split <;> simp)

@[simp] theorem Chip.releasePads_keeps (s : Chip) : Keeps s (Chip.releasePads s) := by simp [Chip.releasePads]

@[simp] theorem Chip.chainShow_keeps (s : Chip) : Keeps s (Chip.chainShow s) := by
  unfold Chip.chainShow
  repeat' first
    | (try lift_lets); intro x
      first
      | have hx : Keeps s x := by simp only [x]; (repeat' first | (simp [*]; done) | split); done
        clear_value x
      | have hx : Keeps s x.2 := by simp only [x]; (repeat' first | (simp [*]; done) | split); done
        clear_value x
      | clear_value x
    | simp [*]; done
    | split

@[simp] theorem Chip.pourCore_keeps (s : Chip) (mask : Nat) : Keeps s (Chip.pourCore s mask) := by
  unfold Chip.pourCore
  repeat' first
    | (try lift_lets); intro x
      first
      | have hx : Keeps s x := by simp only [x]; (repeat' first | with_reducible refine Keeps.each (fun s _ => ?_) ?_ | (simp [*]; done) | split | dsimp only); done
        clear_value x
      | have hx : Keeps s x.2 := by simp only [x]; (repeat' first | with_reducible refine Keeps.each (fun s _ => ?_) ?_ | (simp [*]; done) | split | dsimp only); done
        clear_value x
      | clear_value x
    | with_reducible refine Keeps.each (fun s _ => ?_) ?_
    | simp [*]; done
    | split
    | dsimp only

@[simp] theorem Chip.pour_keeps (s : Chip) (mask : Nat) : Keeps s (Chip.pour s mask) := by
  unfold Chip.pour
  repeat' first
    | (try lift_lets); intro x
      first
      | have hx : Keeps s x := by simp only [x]; (repeat' first | (simp [*]; done) | split); done
        clear_value x
      | have hx : Keeps s x.2 := by simp only [x]; (repeat' first | (simp [*]; done) | split); done
        clear_value x
      | clear_value x
    | simp [*]; done
    | split

@[simp] theorem Chip.localPour_keeps (s : Chip) (r mask : Nat) : Keeps s (Chip.localPour s r mask).2 := by
  unfold Chip.localPour
  repeat' first
    | (try lift_lets); intro x
      first
      | have hx : Keeps s x := by simp only [x]; (repeat' first | (simp [*]; done) | split); done
        clear_value x
      | have hx : Keeps s x.2 := by simp only [x]; (repeat' first | (simp [*]; done) | split); done
        clear_value x
      | clear_value x
    | simp [*]; done
    | split

@[simp] theorem Chip.unshadow_keeps (s : Chip) (mask : Nat) : Keeps s (Chip.unshadow s mask) := by
  unfold Chip.unshadow
  repeat' first
    | (try lift_lets); intro x
      first
      | have hx : Keeps s x := by simp only [x]; (repeat' first | with_reducible refine Keeps.each (fun s _ => ?_) ?_ | (simp [*]; done) | split | dsimp only); done
        clear_value x
      | have hx : Keeps s x.2 := by simp only [x]; (repeat' first | with_reducible refine Keeps.each (fun s _ => ?_) ?_ | (simp [*]; done) | split | dsimp only); done
        clear_value x
      | clear_value x
    | with_reducible refine Keeps.each (fun s _ => ?_) ?_
    | simp [*]; done
    | split
    | dsimp only

@[simp] theorem Chip.withdrawGo_keeps (s : Chip) (r mask : Nat) : Keeps s (Chip.withdrawGo s r mask).2 := by unfold Chip.withdrawGo; (repeat' split) <;> simp

@[simp] theorem Chip.chGo_keeps (s : Chip) (r v : Nat) : Keeps s (Chip.chGo s r v).2 := by
  unfold Chip.chGo
  repeat' first
    | (try lift_lets); intro x
      first
      | have hx : Keeps s x := by simp only [x]; (repeat' first | (simp [*]; done) | split); done
        clear_value x
      | have hx : Keeps s x.2 := by simp only [x]; (repeat' first | (simp [*]; done) | split); done
        clear_value x
      | clear_value x
    | simp [*]; done
    | split

@[simp] theorem Chip.pwrRun_keeps (s : Chip) : Keeps s (Chip.pwrRun s).2 := by simp [Chip.pwrRun]

@[simp] theorem Chip.setRunner_keeps (s : Chip) (q : Nat) (r : Runner) : Keeps s (Chip.setRunner s q r) := by simp [Chip.setRunner]

@[simp] theorem Chip.runUnwait_keeps (s : Chip) (q w : Nat) : Keeps s (Chip.runUnwait s q w) := by simp [Chip.runUnwait]

@[simp] theorem Chip.unwaitAll_keeps (s : Chip) (w : Nat) : Keeps s (s.unwaitAll w) := by
  have key : ∀ t : Chip, Keeps s t → ∀ (a : SMap (List Nat)) (b : List Nat),
      Keeps s { t with sync := { t.sync with lockWait := a, poolWait := b } } := fun _ h _ _ => h
  exact key _ (Keeps.each (fun _ _ => by simp) (Keeps.each (fun _ _ => by simp) ⟨rfl, rfl⟩)) _ _

@[simp] theorem Chip.haltIfAsked_keeps (s : Chip) (e : Nat) : Keeps s (Chip.haltIfAsked s e) := by simp [Chip.haltIfAsked]

@[simp] theorem Chip.engNext_keeps (s : Chip) (e : Nat) : Keeps s (Chip.engNext s e) := by
  unfold Chip.engNext
  repeat' first
    | (try lift_lets); intro x
      first
      | have hx : Keeps s x := by simp only [x]; (repeat' first | (simp [*]; done) | split); done
        clear_value x
      | have hx : Keeps s x.2 := by simp only [x]; (repeat' first | (simp [*]; done) | split); done
        clear_value x
      | clear_value x
    | simp [*]; done
    | split

@[simp] theorem Chip.completeWait_keeps (s : Chip) (e : Nat) : Keeps s (Chip.completeWait s e) := by
  unfold Chip.completeWait
  repeat' first
    | (try lift_lets); intro x
      first
      | have hx : Keeps s x := by simp only [x]; (repeat' first | (simp [*]; done) | split); done
        clear_value x
      | have hx : Keeps s x.2 := by simp only [x]; (repeat' first | (simp [*]; done) | split); done
        clear_value x
      | clear_value x
    | simp [*]; done
    | rename_i h; obtain rfl := congrArg Prod.snd h; simp; done
    | split

@[simp] theorem Chip.abandonWait_keeps (s : Chip) (e : Nat) : Keeps s (Chip.abandonWait s e) := by
  unfold Chip.abandonWait
  repeat' first
    | (try lift_lets); intro x
      first
      | have hx : Keeps s x := by simp only [x]; (repeat' first | (simp [*]; done) | split); done
        clear_value x
      | have hx : Keeps s x.2 := by simp only [x]; (repeat' first | (simp [*]; done) | split); done
        clear_value x
      | clear_value x
    | simp [*]; done
    | rename_i h; obtain rfl := congrArg Prod.snd h; simp; done
    | split

@[simp] theorem Chip.engHaltNow_keeps (s : Chip) (e : Nat) : Keeps s (Chip.engHaltNow s e) := by simp [Chip.engHaltNow]

@[simp] theorem Chip.idleEnter_keeps (s : Chip) : Keeps s (Chip.idleEnter s) := by
  unfold Chip.idleEnter
  repeat' first
    | (try lift_lets); intro x
      first
      | have hx : Keeps s x := by simp only [x]; (repeat' first | with_reducible refine Keeps.each (fun s _ => ?_) ?_ | (simp [*]; done) | split | dsimp only); done
        clear_value x
      | have hx : Keeps s x.2 := by simp only [x]; (repeat' first | with_reducible refine Keeps.each (fun s _ => ?_) ?_ | (simp [*]; done) | split | dsimp only); done
        clear_value x
      | clear_value x
    | with_reducible refine Keeps.each (fun s _ => ?_) ?_
    | simp [*]; done
    | rename_i h; obtain rfl := congrArg Prod.snd h; simp; done
    | split
    | dsimp only

@[simp] theorem Chip.pwrIdle_keeps (s : Chip) : Keeps s (Chip.pwrIdle s).2 := by unfold Chip.pwrIdle; (repeat' split) <;> simp

@[simp] theorem Chip.disarm_keeps (s : Chip) : Keeps s (Chip.disarm s) := by simp [Chip.disarm]

@[simp] theorem Chip.proposeOver_keeps (s : Chip) : Keeps s (Chip.proposeOver s) := by simp [Chip.proposeOver]

@[simp] theorem Chip.logRelease_keeps (s : Chip) (o : LogOp) : Keeps s (Chip.logRelease s o) := by
  unfold Chip.logRelease
  repeat' first
    | (try lift_lets); intro x
      first
      | have hx : Keeps s x := by simp only [x]; (repeat' first | (simp [*]; done) | split); done
        clear_value x
      | have hx : Keeps s x.2 := by simp only [x]; (repeat' first | (simp [*]; done) | split); done
        clear_value x
      | clear_value x
    | simp [*]; done
    | rename_i h; obtain rfl := congrArg Prod.snd h; simp; done
    | split

@[simp] theorem Chip.logDrop_keeps (s : Chip) (r : FrameRun) : Keeps s (Chip.logDrop s r) := by
  unfold Chip.logDrop
  repeat' first
    | (try lift_lets); intro x
      first
      | have hx : Keeps s x := by simp only [x]; (repeat' first | with_reducible refine Keeps.each (fun s _ => ?_) ?_ | (simp [*]; done) | split | dsimp only); done
        clear_value x
      | have hx : Keeps s x.2 := by simp only [x]; (repeat' first | with_reducible refine Keeps.each (fun s _ => ?_) ?_ | (simp [*]; done) | split | dsimp only); done
        clear_value x
      | clear_value x
    | with_reducible refine Keeps.each (fun s _ => ?_) ?_
    | simp [*]; done
    | split
    | dsimp only

@[simp] theorem Chip.cutRun_keeps (s : Chip) (r : FrameRun) : Keeps s (Chip.cutRun s r) := by
  unfold Chip.cutRun
  repeat' first
    | (try lift_lets); intro x
      first
      | have hx : Keeps s x := by simp only [x]; (repeat' first | (simp [*]; done) | split); done
        clear_value x
      | have hx : Keeps s x.2 := by simp only [x]; (repeat' first | (simp [*]; done) | split); done
        clear_value x
      | clear_value x
    | simp [*]; done
    | split

@[simp] theorem Chip.setRun_keeps (s : Chip) (r : FrameRun) : Keeps s (Chip.setRun s r) := by simp [Chip.setRun]

@[simp] theorem Chip.frameCut_keeps (s : Chip) : Keeps s s.frameCut := by
  have key : ∀ t : Chip, Keeps s t → Keeps s (match t.gate.saved with
      | some r => ((t.cutRun r).setGate { (t.cutRun r).gate with saved := none, urgEnd := false }).put Reg.GATE_STAT_SAVED 0
      | none => t) := fun t h => by split <;> simpa using h
  unfold Chip.frameCut
  exact key _ (by split <;> simp)

@[simp] theorem Chip.deferMark_keeps (s : Chip) (n : Nat) : Keeps s (Chip.deferMark s n) := by
  unfold Chip.deferMark
  repeat' first
    | (try lift_lets); intro x
      first
      | have hx : Keeps s x := by simp only [x]; (repeat' first | (simp [*]; done) | split); done
        clear_value x
      | have hx : Keeps s x.2 := by simp only [x]; (repeat' first | (simp [*]; done) | split); done
        clear_value x
      | clear_value x
    | simp [*]; done
    | split

@[simp] theorem Chip.armPour_keeps (s : Chip) : Keeps s (Chip.armPour s) := by
  unfold Chip.armPour
  repeat' first
    | (try lift_lets); intro x
      first
      | have hx : Keeps s x := by simp only [x]; (repeat' first | (simp [*]; done) | split); done
        clear_value x
      | have hx : Keeps s x.2 := by simp only [x]; (repeat' first | (simp [*]; done) | split); done
        clear_value x
      | clear_value x
    | simp [*]; done
    | split

@[simp] theorem Chip.armWithdraw_keeps (s : Chip) : Keeps s (Chip.armWithdraw s) := by simp [Chip.armWithdraw]

@[simp] theorem Chip.armLapse_keeps (s : Chip) : Keeps s (Chip.armLapse s) := by simp [Chip.armLapse]

@[simp] theorem Chip.armMark_keeps (s : Chip) (n : Nat) : Keeps s (Chip.armMark s n) := by
  unfold Chip.armMark
  repeat' first
    | (try lift_lets); intro x
      first
      | have hx : Keeps s x := by simp only [x]; (repeat' first | (simp [*]; done) | split); done
        clear_value x
      | have hx : Keeps s x.2 := by simp only [x]; (repeat' first | (simp [*]; done) | split); done
        clear_value x
      | clear_value x
    | simp [*]; done
    | split

@[simp] theorem Chip.fieldMark_keeps (s : Chip) (n : Nat) : Keeps s (Chip.fieldMark s n) := by
  unfold Chip.fieldMark
  repeat' first
    | (try lift_lets); intro x
      first
      | have hx : Keeps s x := by simp only [x]; (repeat' first | (simp [*]; done) | split); done
        clear_value x
      | have hx : Keeps s x.2 := by simp only [x]; (repeat' first | (simp [*]; done) | split); done
        clear_value x
      | clear_value x
    | simp [*]; done
    | rename_i h; obtain rfl := congrArg Prod.snd h; simp; done
    | split

@[simp] theorem Chip.serveCheck_keeps (s : Chip) : Keeps s (Chip.serveCheck s) := by simp [Chip.serveCheck]

@[simp] theorem Chip.swap_keeps (s : Chip) : Keeps s (Chip.swap s) := by
  unfold Chip.swap
  repeat' first
    | (try lift_lets); intro x
      first
      | have hx : Keeps s x := by simp only [x]; (repeat' first | with_reducible refine Keeps.each (fun s _ => ?_) ?_ | (simp [*]; done) | split | dsimp only); done
        clear_value x
      | have hx : Keeps s x.2 := by simp only [x]; (repeat' first | with_reducible refine Keeps.each (fun s _ => ?_) ?_ | (simp [*]; done) | split | dsimp only); done
        clear_value x
      | clear_value x
    | with_reducible refine Keeps.each (fun s _ => ?_) ?_
    | simp [*]; done
    | split
    | dsimp only

@[simp] theorem Chip.sendSetpoint_keeps (s : Chip) (o : Nat) (sp : Setpoint) : Keeps s (Chip.sendSetpoint s o sp) := by simp [Chip.sendSetpoint]

@[simp] theorem Chip.imageSetpoints_keeps (s : Chip) : Keeps s (Chip.imageSetpoints s) := by
  unfold Chip.imageSetpoints
  repeat' first
    | (try lift_lets); intro x
      first
      | have hx : Keeps s x := by simp only [x]; (repeat' first | with_reducible refine Keeps.each (fun s _ => ?_) ?_ | (simp [*]; done) | split | dsimp only); done
        clear_value x
      | have hx : Keeps s x.2 := by simp only [x]; (repeat' first | with_reducible refine Keeps.each (fun s _ => ?_) ?_ | (simp [*]; done) | split | dsimp only); done
        clear_value x
      | clear_value x
    | with_reducible refine Keeps.each (fun s _ => ?_) ?_
    | simp [*]; done
    | split
    | dsimp only

@[simp] theorem Chip.tellHold_keeps (s : Chip) : Keeps s (Chip.tellHold s) := by simp [Chip.tellHold]

@[simp] theorem Chip.grantMarks_keeps (s : Chip) : Keeps s (Chip.grantMarks s) := by
  unfold Chip.grantMarks
  repeat' first
    | (try lift_lets); intro x
      first
      | have hx : Keeps s x := by simp only [x]; (repeat' first | with_reducible refine Keeps.each (fun s _ => ?_) ?_ | (simp [*]; done) | split | dsimp only); done
        clear_value x
      | have hx : Keeps s x.2 := by simp only [x]; (repeat' first | with_reducible refine Keeps.each (fun s _ => ?_) ?_ | (simp [*]; done) | split | dsimp only); done
        clear_value x
      | clear_value x
    | with_reducible refine Keeps.each (fun s _ => ?_) ?_
    | simp [*]; done
    | split
    | dsimp only

@[simp] theorem Chip.pollMark_keeps (s : Chip) : Keeps s (Chip.pollMark s) := by
  unfold Chip.pollMark
  repeat' first
    | (try lift_lets); intro x
      first
      | have hx : Keeps s x := by simp only [x]; (repeat' first | with_reducible refine Keeps.each (fun s _ => ?_) ?_ | (simp [*]; done) | split | dsimp only); done
        clear_value x
      | have hx : Keeps s x.2 := by simp only [x]; (repeat' first | with_reducible refine Keeps.each (fun s _ => ?_) ?_ | (simp [*]; done) | split | dsimp only); done
        clear_value x
      | clear_value x
    | with_reducible refine Keeps.each (fun s _ => ?_) ?_
    | simp [*]; done
    | rename_i h; obtain rfl := congrArg Prod.snd h; simp; done
    | split
    | dsimp only

@[simp] theorem Chip.copyOwn_keeps (s : Chip) (w : Nat) : Keeps s (Chip.copyOwn s w) := by
  unfold Chip.copyOwn
  repeat' first
    | (try lift_lets); intro x
      first
      | have hx : Keeps s x := by simp only [x]; (repeat' first | (simp [*]; done) | split); done
        clear_value x
      | have hx : Keeps s x.2 := by simp only [x]; (repeat' first | (simp [*]; done) | split); done
        clear_value x
      | clear_value x
    | simp [*]; done
    | split

@[simp] theorem Chip.wideMark_keeps (s : Chip) : Keeps s (Chip.wideMark s) := by
  unfold Chip.wideMark
  repeat' first
    | (try lift_lets); intro x
      first
      | have hx : Keeps s x := by simp only [x]; (repeat' first | with_reducible refine Keeps.each (fun s _ => ?_) ?_ | (simp [*]; done) | split | dsimp only); done
        clear_value x
      | have hx : Keeps s x.2 := by simp only [x]; (repeat' first | with_reducible refine Keeps.each (fun s _ => ?_) ?_ | (simp [*]; done) | split | dsimp only); done
        clear_value x
      | clear_value x
    | with_reducible refine Keeps.each (fun s _ => ?_) ?_
    | simp [*]; done
    | split
    | dsimp only

@[simp] theorem Chip.unfold_keeps (s : Chip) : Keeps s (Chip.unfold s) := by simp [Chip.unfold]

@[simp] theorem Chip.mark_keeps (s : Chip) : Keeps s (Chip.mark s) := by
  unfold Chip.mark
  repeat' first
    | (try lift_lets); intro x
      first
      | have hx : Keeps s x := by simp only [x]; (repeat' first | (simp [*]; done) | split); done
        clear_value x
      | have hx : Keeps s x.2 := by simp only [x]; (repeat' first | (simp [*]; done) | split); done
        clear_value x
      | clear_value x
    | simp [*]; done
    | split

@[simp] theorem Chip.holdPads_keeps (s : Chip) : Keeps s (Chip.holdPads s) := by
  unfold Chip.holdPads
  repeat' first
    | (try lift_lets); intro x
      first
      | have hx : Keeps s x := by simp only [x]; (repeat' first | with_reducible refine Keeps.foldl (fun s _ => ?_) ?_ | (simp [*]; done) | split | dsimp only); done
        clear_value x
      | have hx : Keeps s x.2 := by simp only [x]; (repeat' first | with_reducible refine Keeps.foldl (fun s _ => ?_) ?_ | (simp [*]; done) | split | dsimp only); done
        clear_value x
      | clear_value x
    | with_reducible refine Keeps.foldl (fun s _ => ?_) ?_
    | simp [*]; done
    | split
    | dsimp only

@[simp] theorem Chip.wakeTimer_keeps (s : Chip) (sec : Nat) : Keeps s (Chip.wakeTimer s sec).2 := by simp [Chip.wakeTimer]

@[simp] theorem Chip.tellIdl_keeps (s : Chip) (p : Nat) (ack : Bool) : Keeps s (Chip.tellIdl s p ack) := by
  unfold Chip.tellIdl
  repeat' first
    | (try lift_lets); intro x
      first
      | have hx : Keeps s x := by simp only [x]; (repeat' first | (simp [*]; done) | split); done
        clear_value x
      | have hx : Keeps s x.2 := by simp only [x]; (repeat' first | (simp [*]; done) | split); done
        clear_value x
      | clear_value x
    | simp [*]; done
    | rename_i h; obtain rfl := congrArg Prod.snd h; simp; done
    | split

@[simp] theorem Chip.linkEnable_keeps (s : Chip) (r p : Nat) : Keeps s (Chip.linkEnable s r p).2 := by
  unfold Chip.linkEnable
  repeat' first
    | (try lift_lets); intro x
      first
      | have hx : Keeps s x := by simp only [x]; (repeat' first | (simp [*]; done) | split); done
        clear_value x
      | have hx : Keeps s x.2 := by simp only [x]; (repeat' first | (simp [*]; done) | split); done
        clear_value x
      | clear_value x
    | simp [*]; done
    | split

@[simp] theorem Chip.linkDrop_keeps (s : Chip) (p st : Nat) : Keeps s (Chip.linkDrop s p st) := by simp [Chip.linkDrop]

@[simp] theorem Chip.linkDisable_keeps (s : Chip) (r p : Nat) : Keeps s (Chip.linkDisable s r p).2 := by
  unfold Chip.linkDisable
  repeat' first
    | (try lift_lets); intro x
      first
      | have hx : Keeps s x := by simp only [x]; (repeat' first | (simp [*]; done) | split); done
        clear_value x
      | have hx : Keeps s x.2 := by simp only [x]; (repeat' first | (simp [*]; done) | split); done
        clear_value x
      | clear_value x
    | simp [*]; done
    | split

@[simp] theorem Chip.request_keeps (s : Chip) (p kind w : Nat) (byNode : Bool) : Keeps s (Chip.request s p kind w byNode) := by
  unfold Chip.request
  repeat' first
    | (try lift_lets); intro x
      first
      | have hx : Keeps s x := by simp only [x]; (repeat' first | (simp [*]; done) | split); done
        clear_value x
      | have hx : Keeps s x.2 := by simp only [x]; (repeat' first | (simp [*]; done) | split); done
        clear_value x
      | clear_value x
    | simp [*]; done
    | split

@[simp] theorem Chip.linkRetrain_keeps (s : Chip) (r p : Nat) : Keeps s (Chip.linkRetrain s r p).2 := by unfold Chip.linkRetrain; (repeat' split) <;> simp

@[simp] theorem Chip.linkWidth_keeps (s : Chip) (r p w : Nat) : Keeps s (Chip.linkWidth s r p w).2 := by unfold Chip.linkWidth; (repeat' split) <;> simp

@[simp] theorem Chip.marginGo_keeps (s : Chip) (r p lane : Nat) : Keeps s (Chip.marginGo s r p lane).2 := by unfold Chip.marginGo; (repeat' split) <;> simp

@[simp] theorem Chip.urgGo_keeps (s : Chip) (r f : Nat) : Keeps s (Chip.urgGo s r f).2 := by unfold Chip.urgGo; (repeat' split) <;> simp

@[simp] theorem Chip.sleepProp_keeps (s : Chip) (r c : Nat) : Keeps s (Chip.sleepProp s r c).2 := by unfold Chip.sleepProp; (repeat' split) <;> simp

@[simp] theorem Chip.sleepGo_keeps (s : Chip) (r lead : Nat) : Keeps s (Chip.sleepGo s r lead).2 := by
  unfold Chip.sleepGo
  repeat' first
    | (try lift_lets); intro x
      first
      | have hx : Keeps s x := by simp only [x]; (repeat' first | (simp [*]; done) | split); done
        clear_value x
      | have hx : Keeps s x.2 := by simp only [x]; (repeat' first | (simp [*]; done) | split); done
        clear_value x
      | clear_value x
    | simp [*]; done
    | split

@[simp] theorem Chip.assignUid_keeps (s : Chip) (hi : Bool) (w : Nat) : Keeps s (Chip.assignUid s hi w).2 := by unfold Chip.assignUid; (repeat' split) <;> simp

@[simp] theorem Chip.putAddr_keeps (s : Chip) (st ring : Nat) : Keeps s (Chip.putAddr s st ring) := by
  unfold Chip.putAddr
  repeat' first
    | (try lift_lets); intro x
      first
      | have hx : Keeps s x := by simp only [x]; (repeat' first | (simp [*]; done) | split); done
        clear_value x
      | have hx : Keeps s x.2 := by simp only [x]; (repeat' first | (simp [*]; done) | split); done
        clear_value x
      | clear_value x
    | simp [*]; done
    | split

@[simp] theorem Chip.orderTrunk_keeps (s : Chip) : Keeps s (Chip.orderTrunk s) := by simp [Chip.orderTrunk]

@[simp] theorem Chip.memberTrunk_keeps (s : Chip) : Keeps s (Chip.memberTrunk s) := by unfold Chip.memberTrunk; (repeat' split) <;> simp

@[simp] theorem Chip.assign_keeps (s : Chip) (r w : Nat) : Keeps s (Chip.assign s r w).2 := by
  unfold Chip.assign
  repeat' first
    | (try lift_lets); intro x
      first
      | have hx : Keeps s x := by simp only [x]; (repeat' first | (simp [*]; done) | split); done
        clear_value x
      | have hx : Keeps s x.2 := by simp only [x]; (repeat' first | (simp [*]; done) | split); done
        clear_value x
      | clear_value x
    | simp [*]; done
    | split

@[simp] theorem Chip.stickyClr_keeps (s : Chip) : Keeps s (Chip.stickyClr s).2 := by simp [Chip.stickyClr]

@[simp] theorem Chip.detachEnd_keeps (s : Chip) : Keeps s (Chip.detachEnd s).2 := by
  unfold Chip.detachEnd
  repeat' first
    | (try lift_lets); intro x
      first
      | have hx : Keeps s x := by simp only [x]; (repeat' first | (simp [*]; done) | split); done
        clear_value x
      | have hx : Keeps s x.2 := by simp only [x]; (repeat' first | (simp [*]; done) | split); done
        clear_value x
      | clear_value x
    | simp [*]; done
    | rename_i h; obtain rfl := congrArg Prod.snd h; simp; done
    | split

@[simp] theorem Chip.detach_keeps (s : Chip) (r c : Nat) : Keeps s (Chip.detach s r c).2 := by
  unfold Chip.detach
  repeat' first
    | (try lift_lets); intro x
      first
      | have hx : Keeps s x := by simp only [x]; (repeat' first | (simp [*]; done) | split); done
        clear_value x
      | have hx : Keeps s x.2 := by simp only [x]; (repeat' first | (simp [*]; done) | split); done
        clear_value x
      | clear_value x
    | simp [*]; done
    | split

@[simp] theorem Chip.handbackGo_keeps (s : Chip) (r lead : Nat) : Keeps s (Chip.handbackGo s r lead).2 := by unfold Chip.handbackGo; (repeat' split) <;> simp

@[simp] theorem Chip.revShow_keeps (s : Chip) : Keeps s (Chip.revShow s) := by
  unfold Chip.revShow
  repeat' first
    | (try lift_lets); intro x
      first
      | have hx : Keeps s x := by simp only [x]; (repeat' first | (simp [*]; done) | split); done
        clear_value x
      | have hx : Keeps s x.2 := by simp only [x]; (repeat' first | (simp [*]; done) | split); done
        clear_value x
      | clear_value x
    | simp [*]; done
    | split

@[simp] theorem Chip.revQLoad_keeps (s : Chip) (q : Nat) : Keeps s (Chip.revQLoad s q).2 := by simp [Chip.revQLoad]

@[simp] theorem Chip.ckptWord_keeps (s : Chip) (i w : Nat) : Keeps s (Chip.ckptWord s i w) := by simp [Chip.ckptWord]

@[simp] theorem Chip.partDrop_keeps (s : Chip) : Keeps s (Chip.partDrop s) := by simp [Chip.partDrop]

@[simp] theorem Chip.ctlStart_keeps (s : Chip) (r : Requester) (e : Nat) : Keeps s (Chip.ctlStart s r e).2 := by unfold Chip.ctlStart; (repeat' split) <;> simp

@[simp] theorem Chip.ctlHalt_keeps (s : Chip) (r : Requester) (e : Nat) : Keeps s (Chip.ctlHalt s r e).2 := by unfold Chip.ctlHalt; (repeat' split) <;> simp

@[simp] theorem Chip.ctlResume_keeps (s : Chip) (r : Requester) (e : Nat) : Keeps s (Chip.ctlResume s r e).2 := by
  unfold Chip.ctlResume
  repeat' first
    | (try lift_lets); intro x
      first
      | have hx : Keeps s x := by simp only [x]; (repeat' first | (simp [*]; done) | split); done
        clear_value x
      | have hx : Keeps s x.2 := by simp only [x]; (repeat' first | (simp [*]; done) | split); done
        clear_value x
      | clear_value x
    | simp [*]; done
    | split

@[simp] theorem Chip.engClear_keeps (s : Chip) (e : Nat) : Keeps s (Chip.engClear s e) := by
  unfold Chip.engClear
  repeat' first
    | (try lift_lets); intro x
      first
      | have hx : Keeps s x := by simp only [x]; (repeat' first | (simp [*]; done) | split); done
        clear_value x
      | have hx : Keeps s x.2 := by simp only [x]; (repeat' first | (simp [*]; done) | split); done
        clear_value x
      | clear_value x
    | simp [*]; done
    | split

@[simp] theorem Chip.setLockWaiters_keeps (s : Chip) (l : Nat) (ws : List Nat) : Keeps s (Chip.setLockWaiters s l ws) := by simp [Chip.setLockWaiters]

@[simp] theorem Chip.lockPass_keeps (s : Chip) (l : Nat) : Keeps s (Chip.lockPass s l) := by
  unfold Chip.lockPass
  repeat' first
    | (try lift_lets); intro x
      first
      | have hx : Keeps s x := by simp only [x]; (repeat' first | (simp [*]; done) | split); done
        clear_value x
      | have hx : Keeps s x.2 := by simp only [x]; (repeat' first | (simp [*]; done) | split); done
        clear_value x
      | clear_value x
    | simp [*]; done
    | rename_i h; obtain rfl := congrArg Prod.snd h; simp; done
    | split

@[simp] theorem Chip.lockSeize_keeps (s : Chip) (l : Nat) (hold : Option Nat) : Keeps s (Chip.lockSeize s l hold) := by
  unfold Chip.lockSeize
  repeat' first
    | (try lift_lets); intro x
      first
      | have hx : Keeps s x := by simp only [x]; (repeat' first | (simp [*]; done) | split); done
        clear_value x
      | have hx : Keeps s x.2 := by simp only [x]; (repeat' first | (simp [*]; done) | split); done
        clear_value x
      | clear_value x
    | simp [*]; done
    | rename_i h; obtain rfl := congrArg Prod.snd h; simp; done
    | split

@[simp] theorem Chip.locksSeize_keeps (s : Chip) (who : Nat) (hold : Option Nat) : Keeps s (Chip.locksSeize s who hold) := by
  unfold Chip.locksSeize
  repeat' first
    | (try lift_lets); intro x
      first
      | have hx : Keeps s x := by simp only [x]; (repeat' first | with_reducible refine Keeps.each (fun s _ => ?_) ?_ | (simp [*]; done) | split | dsimp only); done
        clear_value x
      | have hx : Keeps s x.2 := by simp only [x]; (repeat' first | with_reducible refine Keeps.each (fun s _ => ?_) ?_ | (simp [*]; done) | split | dsimp only); done
        clear_value x
      | clear_value x
    | with_reducible refine Keeps.each (fun s _ => ?_) ?_
    | simp [*]; done
    | split
    | dsimp only

@[simp] theorem Chip.poolReclaim_keeps (s : Chip) (who : Nat) : Keeps s (Chip.poolReclaim s who) := by
  unfold Chip.poolReclaim
  repeat' first
    | (try lift_lets); intro x
      first
      | have hx : Keeps s x := by simp only [x]; (repeat' first | with_reducible refine Keeps.each (fun s _ => ?_) ?_ | (simp [*]; done) | split | dsimp only); done
        clear_value x
      | have hx : Keeps s x.2 := by simp only [x]; (repeat' first | with_reducible refine Keeps.each (fun s _ => ?_) ?_ | (simp [*]; done) | split | dsimp only); done
        clear_value x
      | clear_value x
    | with_reducible refine Keeps.each (fun s _ => ?_) ?_
    | simp [*]; done
    | split
    | dsimp only

@[simp] theorem Chip.ctlReset_keeps (s : Chip) (r : Requester) (e : Nat) : Keeps s (Chip.ctlReset s r e).2 := by
  unfold Chip.ctlReset
  repeat' first
    | (try lift_lets); intro x
      first
      | have hx : Keeps s x := by simp only [x]; (repeat' first | (simp [*]; done) | split); done
        clear_value x
      | have hx : Keeps s x.2 := by simp only [x]; (repeat' first | (simp [*]; done) | split); done
        clear_value x
      | clear_value x
    | simp [*]; done
    | split

@[simp] theorem Chip.ctlArmStart_keeps (s : Chip) (r : Requester) (e : Nat) : Keeps s (Chip.ctlArmStart s r e).2 := by unfold Chip.ctlArmStart; (repeat' split) <;> simp

@[simp] theorem Chip.ctlArmHalt_keeps (s : Chip) (r : Requester) (e : Nat) : Keeps s (Chip.ctlArmHalt s r e).2 := by unfold Chip.ctlArmHalt; (repeat' split) <;> simp

@[simp] theorem Chip.ctlArmClr_keeps (s : Chip) (r : Requester) (e : Nat) : Keeps s (Chip.ctlArmClr s r e).2 := by unfold Chip.ctlArmClr; (repeat' split) <;> simp

@[simp] theorem Chip.startMask_keeps (s : Chip) (r : Requester) (m : Nat) : Keeps s (Chip.startMask s r m).2 := by
  unfold Chip.startMask
  repeat' first
    | (try lift_lets); intro x
      first
      | have hx : Keeps s x := by simp only [x]; (repeat' first | with_reducible refine Keeps.each (fun s _ => ?_) ?_ | (simp [*]; done) | split | dsimp only); done
        clear_value x
      | have hx : Keeps s x.2 := by simp only [x]; (repeat' first | with_reducible refine Keeps.each (fun s _ => ?_) ?_ | (simp [*]; done) | split | dsimp only); done
        clear_value x
      | clear_value x
    | with_reducible refine Keeps.each (fun s _ => ?_) ?_
    | simp [*]; done
    | split
    | dsimp only

@[simp] theorem Chip.haltMask_keeps (s : Chip) (r : Requester) (m : Nat) : Keeps s (Chip.haltMask s r m).2 := by
  unfold Chip.haltMask
  repeat' first
    | (try lift_lets); intro x
      first
      | have hx : Keeps s x := by simp only [x]; (repeat' first | with_reducible refine Keeps.each (fun s _ => ?_) ?_ | (simp [*]; done) | split | dsimp only); done
        clear_value x
      | have hx : Keeps s x.2 := by simp only [x]; (repeat' first | with_reducible refine Keeps.each (fun s _ => ?_) ?_ | (simp [*]; done) | split | dsimp only); done
        clear_value x
      | clear_value x
    | with_reducible refine Keeps.each (fun s _ => ?_) ?_
    | simp [*]; done
    | split
    | dsimp only

@[simp] theorem Chip.loadSrc_keeps (s : Chip) (a : Nat) : Keeps s (Chip.loadSrc s a).2 := by simp [Chip.loadSrc]

@[simp] theorem Chip.loadGo_keeps (s : Chip) (r : Requester) (v : Nat) : Keeps s (Chip.loadGo s r v).2 := by
  unfold Chip.loadGo
  repeat' first
    | (try lift_lets); intro x
      first
      | have hx : Keeps s x := by simp only [x]; (repeat' first | (simp [*]; done) | split); done
        clear_value x
      | have hx : Keeps s x.2 := by simp only [x]; (repeat' first | (simp [*]; done) | split); done
        clear_value x
      | clear_value x
    | simp [*]; done
    | split

@[simp] theorem Chip.runEnable_keeps (s : Chip) (r q : Nat) : Keeps s (s.runEnable r q).2 := by
  unfold Chip.runEnable
  dsimp only
  split <;> simp

@[simp] theorem Chip.runRelease_keeps (s : Chip) (q : Nat) : Keeps s (Chip.runRelease s q) := by
  unfold Chip.runRelease
  repeat' first
    | (try lift_lets); intro x
      first
      | have hx : Keeps s x := by simp only [x]; (repeat' first | with_reducible refine Keeps.each (fun s _ => ?_) ?_ | (simp [*]; done) | split | dsimp only); done
        clear_value x
      | have hx : Keeps s x.2 := by simp only [x]; (repeat' first | with_reducible refine Keeps.each (fun s _ => ?_) ?_ | (simp [*]; done) | split | dsimp only); done
        clear_value x
      | clear_value x
    | with_reducible refine Keeps.each (fun s _ => ?_) ?_
    | simp [*]; done
    | split
    | dsimp only

@[simp] theorem Chip.runDisable_keeps (s : Chip) (q : Nat) : Keeps s (Chip.runDisable s q) := by
  unfold Chip.runDisable
  repeat' first
    | (try lift_lets); intro x
      first
      | have hx : Keeps s x := by simp only [x]; (repeat' first | (simp [*]; done) | split); done
        clear_value x
      | have hx : Keeps s x.2 := by simp only [x]; (repeat' first | (simp [*]; done) | split); done
        clear_value x
      | clear_value x
    | simp [*]; done
    | split

@[simp] theorem Chip.runSwap_keeps (s : Chip) (q : Nat) : Keeps s (Chip.runSwap s q) := by
  unfold Chip.runSwap
  repeat' first
    | (try lift_lets); intro x
      first
      | have hx : Keeps s x := by simp only [x]; (repeat' first | (simp [*]; done) | split); done
        clear_value x
      | have hx : Keeps s x.2 := by simp only [x]; (repeat' first | (simp [*]; done) | split); done
        clear_value x
      | clear_value x
    | simp [*]; done
    | split

@[simp] theorem Chip.runLose_keeps (s : Chip) (q k : Nat) : Keeps s (Chip.runLose s q k) := by
  unfold Chip.runLose
  repeat' first
    | (try lift_lets); intro x
      first
      | have hx : Keeps s x := by simp only [x]; (repeat' first | (simp [*]; done) | split); done
        clear_value x
      | have hx : Keeps s x.2 := by simp only [x]; (repeat' first | (simp [*]; done) | split); done
        clear_value x
      | clear_value x
    | simp [*]; done
    | split

@[simp] theorem Chip.runTake_keeps (s : Chip) (q : Nat) : Keeps s (s.runTake q).2 := by
  unfold Chip.runTake
  dsimp only
  split <;> simp <;> (constructor <;> split <;> simp)

@[simp] theorem Chip.runServe_keeps (s : Chip) (q fuel : Nat) : Keeps s (s.runServe q fuel) := by
  induction fuel generalizing s with
  | zero => simp [Chip.runServe]
  | succ fuel ih =>
    have ht := Chip.runTake_keeps s q
    simp only [Chip.runServe]
    split
    · simp
    · split
      · rename_i h; rw [h] at ht; exact ht
      · rename_i h
        rw [h] at ht
        refine Keeps.trans ht (Keeps.trans ?_ (ih _))
        split <;> simp

@[simp] theorem Chip.runDropPkt_keeps (s : Chip) (q fuel : Nat) : Keeps s (s.runDropPkt q fuel) := by
  induction fuel generalizing s with
  | zero => simp [Chip.runDropPkt]
  | succ fuel ih =>
    simp only [Chip.runDropPkt]
    have key : ∀ t : Chip, Keeps s t → Keeps s (match (t.runner q).kinds (1 - t.runFill q) with
      | [] => t.put (Reg.RUN_STAT_C_DROP q) 1
      | k :: t' =>
        if k = 2 then t else
        let u := t.setRunner q ((t.runner q).setBank (1 - t.runFill q) (((t.runner q).rd (1 - t.runFill q) + 1) % t.runSize q) t')
        if k = 1 then u else u.runDropPkt q fuel) := by
      intro t ht
      split
      · simpa using ht
      · split
        · exact ht
        · dsimp only
          split
          · simpa using ht
          · refine Keeps.trans ht (Keeps.trans ?_ (ih _)); simp
    apply key
    split <;> simp

@[simp] theorem Chip.runDroppBy_keeps (s : Chip) (r q : Nat) (flask : Option Nat) : Keeps s (Chip.runDroppBy s r q flask).2 := by
  unfold Chip.runDroppBy
  repeat' first
    | (try lift_lets); intro x
      first
      | have hx : Keeps s x := by simp only [x]; (repeat' first | (simp [*]; done) | split); done
        clear_value x
      | have hx : Keeps s x.2 := by simp only [x]; (repeat' first | (simp [*]; done) | split); done
        clear_value x
      | clear_value x
    | simp [*]; done
    | split

@[simp] theorem Chip.runMdropp_keeps (s : Chip) (r : Requester) (q : Nat) : Keeps s (Chip.runMdropp s r q).2 := by unfold Chip.runMdropp; (repeat' split) <;> simp

@[simp] theorem Chip.bufFree_keeps (s : Chip) (who b : Nat) : Keeps s (Chip.bufFree s who b).2 := by
  unfold Chip.bufFree
  repeat' first
    | (try lift_lets); intro x
      first
      | have hx : Keeps s x := by simp only [x]; (repeat' first | (simp [*]; done) | split); done
        clear_value x
      | have hx : Keeps s x.2 := by simp only [x]; (repeat' first | (simp [*]; done) | split); done
        clear_value x
      | clear_value x
    | simp [*]; done
    | split

@[simp] theorem Chip.mgmtMisuse_keeps (s : Chip) (cause det : Nat) : Keeps s (Chip.mgmtMisuse s cause det).2 := by simp [Chip.mgmtMisuse]

@[simp] theorem Chip.syncFree_keeps (s : Chip) (r : Requester) (b : Nat) : Keeps s (Chip.syncFree s r b).2 := by
  unfold Chip.syncFree
  repeat' first
    | (try lift_lets); intro x
      first
      | have hx : Keeps s x := by simp only [x]; (repeat' first | (simp [*]; done) | split); done
        clear_value x
      | have hx : Keeps s x.2 := by simp only [x]; (repeat' first | (simp [*]; done) | split); done
        clear_value x
      | clear_value x
    | simp [*]; done
    | split

@[simp] theorem Chip.bufGive_keeps (s : Chip) (who b to_ : Nat) : Keeps s (Chip.bufGive s who b to_).2 := by
  unfold Chip.bufGive
  repeat' first
    | (try lift_lets); intro x
      first
      | have hx : Keeps s x := by simp only [x]; (repeat' first | (simp [*]; done) | split); done
        clear_value x
      | have hx : Keeps s x.2 := by simp only [x]; (repeat' first | (simp [*]; done) | split); done
        clear_value x
      | clear_value x
    | simp [*]; done
    | split

@[simp] theorem Chip.syncGive_keeps (s : Chip) (r : Requester) (b to_ : Nat) : Keeps s (Chip.syncGive s r b to_).2 := by
  unfold Chip.syncGive
  repeat' first
    | (try lift_lets); intro x
      first
      | have hx : Keeps s x := by simp only [x]; (repeat' first | (simp [*]; done) | split); done
        clear_value x
      | have hx : Keeps s x.2 := by simp only [x]; (repeat' first | (simp [*]; done) | split); done
        clear_value x
      | clear_value x
    | simp [*]; done
    | split

@[simp] theorem Chip.lockTake_keeps (s : Chip) (l who : Nat) : Keeps s (Chip.lockTake s l who).2 := by simp [Chip.lockTake]

@[simp] theorem Chip.lockTry_keeps (s : Chip) (l who : Nat) : Keeps s (Chip.lockTry s l who).2 := by unfold Chip.lockTry; (repeat' split) <;> simp

@[simp] theorem Chip.syncLockTry_keeps (s : Chip) (r : Requester) (l : Nat) : Keeps s (Chip.syncLockTry s r l).2 := by
  unfold Chip.syncLockTry
  repeat' first
    | (try lift_lets); intro x
      first
      | have hx : Keeps s x := by simp only [x]; (repeat' first | (simp [*]; done) | split); done
        clear_value x
      | have hx : Keeps s x.2 := by simp only [x]; (repeat' first | (simp [*]; done) | split); done
        clear_value x
      | clear_value x
    | simp [*]; done
    | split

@[simp] theorem Chip.syncLockRel_keeps (s : Chip) (r : Requester) (l : Nat) : Keeps s (Chip.syncLockRel s r l).2 := by unfold Chip.syncLockRel; (repeat' split) <;> simp

@[simp] theorem Chip.syncLockClr_keeps (s : Chip) (r : Requester) (l : Nat) : Keeps s (Chip.syncLockClr s r l).2 := by unfold Chip.syncLockClr; (repeat' split) <;> simp

@[simp] theorem Chip.mbxServe_keeps (s : Chip) (m fuel : Nat) : Keeps s (s.mbxServe m fuel) := by
  induction fuel generalizing s with
  | zero => simp [Chip.mbxServe]
  | succ fuel ih =>
    simp only [Chip.mbxServe]
    split
    · refine Keeps.trans ?_ (ih _); simp
    · simp

@[simp] theorem Chip.mbxRefuse_keeps (s : Chip) (r off : Nat) : Keeps s (Chip.mbxRefuse s r off) := by simp [Chip.mbxRefuse]

@[simp] theorem Chip.syncSel_keeps (s : Chip) (r : Requester) (m : Nat) : Keeps s (Chip.syncSel s r m).2 := by unfold Chip.syncSel; (repeat' split) <;> simp

@[simp] theorem Chip.mbxFlush_keeps (s : Chip) (m : Nat) : Keeps s (Chip.mbxFlush s m) := by
  unfold Chip.mbxFlush
  repeat' first
    | (try lift_lets); intro x
      first
      | have hx : Keeps s x := by simp only [x]; (repeat' first | with_reducible refine Keeps.each (fun s _ => ?_) ?_ | (simp [*]; done) | split | dsimp only); done
        clear_value x
      | have hx : Keeps s x.2 := by simp only [x]; (repeat' first | with_reducible refine Keeps.each (fun s _ => ?_) ?_ | (simp [*]; done) | split | dsimp only); done
        clear_value x
      | clear_value x
    | with_reducible refine Keeps.each (fun s _ => ?_) ?_
    | simp [*]; done
    | split
    | dsimp only

@[simp] theorem Chip.locksRevive_keeps (s : Chip) (f : Nat) : Keeps s (Chip.locksRevive s f) := by
  unfold Chip.locksRevive
  repeat' first
    | (try lift_lets); intro x
      first
      | have hx : Keeps s x := by simp only [x]; (repeat' first | with_reducible refine Keeps.each (fun s _ => ?_) ?_ | (simp [*]; done) | split | dsimp only); done
        clear_value x
      | have hx : Keeps s x.2 := by simp only [x]; (repeat' first | with_reducible refine Keeps.each (fun s _ => ?_) ?_ | (simp [*]; done) | split | dsimp only); done
        clear_value x
      | clear_value x
    | with_reducible refine Keeps.each (fun s _ => ?_) ?_
    | simp [*]; done
    | split
    | dsimp only

@[simp] theorem Chip.runRevive_keeps (s : Chip) (q f : Nat) : Keeps s (Chip.runRevive s q f) := by
  unfold Chip.runRevive
  repeat' first
    | (try lift_lets); intro x
      first
      | have hx : Keeps s x := by simp only [x]; (repeat' first | (simp [*]; done) | split); done
        clear_value x
      | have hx : Keeps s x.2 := by simp only [x]; (repeat' first | (simp [*]; done) | split); done
        clear_value x
      | clear_value x
    | simp [*]; done
    | split

@[simp] theorem Chip.setCn_keeps (s : Chip) (c : Nat) (x : Can) : Keeps s (Chip.setCn s c x) := by simp [Chip.setCn]

@[simp] theorem Chip.canRejoin_keeps (s : Chip) (c : Nat) : Keeps s (Chip.canRejoin s c) := by
  unfold Chip.canRejoin
  repeat' first
    | (try lift_lets); intro x
      first
      | have hx : Keeps s x := by simp only [x]; (repeat' first | (simp [*]; done) | split); done
        clear_value x
      | have hx : Keeps s x.2 := by simp only [x]; (repeat' first | (simp [*]; done) | split); done
        clear_value x
      | clear_value x
    | simp [*]; done
    | split

@[simp] theorem Chip.reviveFlask_keeps (s : Chip) (f : Nat) : Keeps s (Chip.reviveFlask s f) := by
  unfold Chip.reviveFlask
  repeat' first
    | (try lift_lets); intro x
      first
      | have hx : Keeps s x := by simp only [x]; (repeat' first | with_reducible refine Keeps.each (fun s _ => ?_) ?_ | (simp [*]; done) | split | dsimp only); done
        clear_value x
      | have hx : Keeps s x.2 := by simp only [x]; (repeat' first | with_reducible refine Keeps.each (fun s _ => ?_) ?_ | (simp [*]; done) | split | dsimp only); done
        clear_value x
      | clear_value x
    | with_reducible refine Keeps.each (fun s _ => ?_) ?_
    | simp [*]; done
    | split
    | dsimp only

@[simp] theorem Chip.reviveGo_keeps (s : Chip) (r : Requester) (f : Nat) : Keeps s (Chip.reviveGo s r f).2 := by unfold Chip.reviveGo; (repeat' split) <;> simp

@[simp] theorem Chip.fenceGo_keeps (s : Chip) (r : Requester) (f : Nat) : Keeps s (Chip.fenceGo s r f).2 := by unfold Chip.fenceGo; (repeat' split) <;> simp

@[simp] theorem Chip.arClr_keeps (s : Chip) (f : Nat) : Keeps s (Chip.arClr s f).2 := by unfold Chip.arClr; (repeat' split) <;> simp

@[simp] theorem Chip.hubEnable_keeps (s : Chip) : Keeps s (Chip.hubEnable s).2 := by simp [Chip.hubEnable]

@[simp] theorem Chip.portsOff_keeps (s : Chip) : Keeps s (Chip.portsOff s) := by
  unfold Chip.portsOff
  repeat' first
    | (try lift_lets); intro x
      first
      | have hx : Keeps s x := by simp only [x]; (repeat' first | with_reducible refine Keeps.each (fun s _ => ?_) ?_ | (simp [*]; done) | split | dsimp only); done
        clear_value x
      | have hx : Keeps s x.2 := by simp only [x]; (repeat' first | with_reducible refine Keeps.each (fun s _ => ?_) ?_ | (simp [*]; done) | split | dsimp only); done
        clear_value x
      | clear_value x
    | with_reducible refine Keeps.each (fun s _ => ?_) ?_
    | simp [*]; done
    | split
    | dsimp only

@[simp] theorem Chip.setDev_keeps (s : Chip) (d : UsbDev) (x : UsbDevice) : Keeps s (Chip.setDev s d x) := by simp [Chip.setDev]

@[simp] theorem Chip.mgmtReset_keeps (s : Chip) : Keeps s (Chip.mgmtReset s) := by simp [Chip.mgmtReset]

@[simp] theorem Chip.hubDefault_keeps (s : Chip) : Keeps s (Chip.hubDefault s) := by
  unfold Chip.hubDefault
  repeat' first
    | (try lift_lets); intro x
      first
      | have hx : Keeps s x := by simp only [x]; (repeat' first | with_reducible refine Keeps.each (fun s _ => ?_) ?_ | (simp [*]; done) | split | dsimp only); done
        clear_value x
      | have hx : Keeps s x.2 := by simp only [x]; (repeat' first | with_reducible refine Keeps.each (fun s _ => ?_) ?_ | (simp [*]; done) | split | dsimp only); done
        clear_value x
      | clear_value x
    | with_reducible refine Keeps.each (fun s _ => ?_) ?_
    | simp [*]; done
    | split
    | dsimp only

@[simp] theorem Chip.hubDisable_keeps (s : Chip) : Keeps s (Chip.hubDisable s).2 := by
  unfold Chip.hubDisable
  repeat' first
    | (try lift_lets); intro x
      first
      | have hx : Keeps s x := by simp only [x]; (repeat' first | (simp [*]; done) | split); done
        clear_value x
      | have hx : Keeps s x.2 := by simp only [x]; (repeat' first | (simp [*]; done) | split); done
        clear_value x
      | clear_value x
    | simp [*]; done
    | split

@[simp] theorem Chip.hubRwake_keeps (s : Chip) (r : Nat) : Keeps s (Chip.hubRwake s r).2 := by unfold Chip.hubRwake; (repeat' split) <;> simp

@[simp] theorem Chip.wideEnable_keeps (s : Chip) (r : Nat) : Keeps s (Chip.wideEnable s r).2 := by unfold Chip.wideEnable; (repeat' split) <;> simp

@[simp] theorem Chip.wideForget_keeps (s : Chip) : Keeps s (Chip.wideForget s) := by simp [Chip.wideForget]

@[simp] theorem Chip.presentChange_keeps (s : Chip) : Keeps s (Chip.presentChange s) := by
  unfold Chip.presentChange
  repeat' first
    | (try lift_lets); intro x
      first
      | have hx : Keeps s x := by simp only [x]; (repeat' first | (simp [*]; done) | split); done
        clear_value x
      | have hx : Keeps s x.2 := by simp only [x]; (repeat' first | (simp [*]; done) | split); done
        clear_value x
      | clear_value x
    | simp [*]; done
    | split

@[simp] theorem Chip.wideDisable_keeps (s : Chip) : Keeps s (Chip.wideDisable s).2 := by simp [Chip.wideDisable]

@[simp] theorem Chip.cuffEnable_keeps (s : Chip) (r c : Nat) : Keeps s (Chip.cuffEnable s r c).2 := by unfold Chip.cuffEnable; (repeat' split) <;> simp

@[simp] theorem Chip.cuffDisable_keeps (s : Chip) (c : Nat) : Keeps s (Chip.cuffDisable s c).2 := by simp [Chip.cuffDisable]

@[simp] theorem Chip.fuseOn_keeps (s : Chip) (r ch : Nat) : Keeps s (Chip.fuseOn s r ch).2 := by unfold Chip.fuseOn; (repeat' split) <;> simp

@[simp] theorem Chip.fuseOff_keeps (s : Chip) (ch : Nat) : Keeps s (Chip.fuseOff s ch).2 := by simp [Chip.fuseOff]

@[simp] theorem Chip.rearm_keeps (s : Chip) (r ch : Nat) : Keeps s (Chip.rearm s r ch).2 := by unfold Chip.rearm; (repeat' split) <;> simp

@[simp] theorem Chip.measOn_keeps (s : Chip) (r u : Nat) : Keeps s (Chip.measOn s r u).2 := by
  unfold Chip.measOn
  repeat' first
    | (try lift_lets); intro x
      first
      | have hx : Keeps s x := by simp only [x]; (repeat' first | (simp [*]; done) | split); done
        clear_value x
      | have hx : Keeps s x.2 := by simp only [x]; (repeat' first | (simp [*]; done) | split); done
        clear_value x
      | clear_value x
    | simp [*]; done
    | split

@[simp] theorem Chip.measOff_keeps (s : Chip) (u : Nat) : Keeps s (Chip.measOff s u).2 := by simp [Chip.measOff]

@[simp] theorem Chip.measCtl_keeps (s : Chip) (r v : Nat) : Keeps s (Chip.measCtl s r v).2 := by
  unfold Chip.measCtl
  repeat' first
    | (try lift_lets); intro x
      first
      | have hx : Keeps s x := by simp only [x]; (repeat' first | with_reducible refine Keeps.foldl (fun s _ => ?_) ?_ | (simp [*]; done) | split | dsimp only); done
        clear_value x
      | have hx : Keeps s x.2 := by simp only [x]; (repeat' first | with_reducible refine Keeps.foldl (fun s _ => ?_) ?_ | (simp [*]; done) | split | dsimp only); done
        clear_value x
      | clear_value x
    | with_reducible refine Keeps.foldl (fun s _ => ?_) ?_
    | simp [*]; done
    | split
    | dsimp only

@[simp] theorem Chip.ainOn_keeps (s : Chip) (m : Nat) : Keeps s (Chip.ainOn s m).2 := by simp [Chip.ainOn]

@[simp] theorem Chip.ainOff_keeps (s : Chip) (m : Nat) : Keeps s (Chip.ainOff s m).2 := by
  unfold Chip.ainOff
  repeat' first
    | (try lift_lets); intro x
      first
      | have hx : Keeps s x := by simp only [x]; (repeat' first | (simp [*]; done) | split); done
        clear_value x
      | have hx : Keeps s x.2 := by simp only [x]; (repeat' first | (simp [*]; done) | split); done
        clear_value x
      | clear_value x
    | simp [*]; done
    | split

@[simp] theorem Chip.drvNo_keeps (s : Chip) (r o off : Nat) : Keeps s (Chip.drvNo s r o off).2 := by simp [Chip.drvNo]

@[simp] theorem Chip.drvEnable_keeps (s : Chip) (r o : Nat) : Keeps s (Chip.drvEnable s r o).2 := by unfold Chip.drvEnable; (repeat' split) <;> simp

@[simp] theorem Chip.drvDisable_keeps (s : Chip) (o : Nat) : Keeps s (Chip.drvDisable s o).2 := by simp [Chip.drvDisable]

@[simp] theorem Chip.faultClr_keeps (s : Chip) (r o : Nat) (present : Bool) : Keeps s (Chip.faultClr s r o present).2 := by unfold Chip.faultClr; (repeat' split) <;> simp

@[simp] theorem Chip.holdRel_keeps (s : Chip) (r : Nat) : Keeps s (Chip.holdRel s r).2 := by unfold Chip.holdRel; (repeat' split) <;> simp

@[simp] theorem Chip.latchWrite_keeps (s : Chip) (n value mask : Nat) : Keeps s (Chip.latchWrite s n value mask) := by
  unfold Chip.latchWrite
  repeat' first
    | (try lift_lets); intro x
      first
      | have hx : Keeps s x := by simp only [x]; (repeat' first | with_reducible refine Keeps.foldl (fun s _ => ?_) ?_ | (simp [*]; done) | split | dsimp only); done
        clear_value x
      | have hx : Keeps s x.2 := by simp only [x]; (repeat' first | with_reducible refine Keeps.foldl (fun s _ => ?_) ?_ | (simp [*]; done) | split | dsimp only); done
        clear_value x
      | clear_value x
    | with_reducible refine Keeps.foldl (fun s _ => ?_) ?_
    | simp [*]; done
    | split
    | dsimp only

@[simp] theorem Chip.latchToggle_keeps (s : Chip) (n b : Nat) : Keeps s (Chip.latchToggle s n b) := by simp [Chip.latchToggle]

@[simp] theorem Chip.canEnable_keeps (s : Chip) (r c : Nat) : Keeps s (Chip.canEnable s r c).2 := by
  unfold Chip.canEnable
  repeat' first
    | (try lift_lets); intro x
      first
      | have hx : Keeps s x := by simp only [x]; (repeat' first | (simp [*]; done) | split); done
        clear_value x
      | have hx : Keeps s x.2 := by simp only [x]; (repeat' first | (simp [*]; done) | split); done
        clear_value x
      | clear_value x
    | simp [*]; done
    | split

@[simp] theorem Chip.canQuiet_keeps (s : Chip) (c : Nat) : Keeps s (Chip.canQuiet s c) := by
  unfold Chip.canQuiet
  repeat' first
    | (try lift_lets); intro x
      first
      | have hx : Keeps s x := by simp only [x]; (repeat' first | with_reducible refine Keeps.each (fun s _ => ?_) ?_ | (simp [*]; done) | split | dsimp only); done
        clear_value x
      | have hx : Keeps s x.2 := by simp only [x]; (repeat' first | with_reducible refine Keeps.each (fun s _ => ?_) ?_ | (simp [*]; done) | split | dsimp only); done
        clear_value x
      | clear_value x
    | with_reducible refine Keeps.each (fun s _ => ?_) ?_
    | simp [*]; done
    | split
    | dsimp only

@[simp] theorem Chip.sessFree_keeps (s : Chip) (c i : Nat) : Keeps s (Chip.sessFree s c i) := by simp [Chip.sessFree]

@[simp] theorem Chip.canRecover_keeps (s : Chip) (r c : Nat) : Keeps s (Chip.canRecover s r c).2 := by unfold Chip.canRecover; (repeat' split) <;> simp

@[simp] theorem Chip.cuffForced_keeps (s : Chip) (c : Nat) : Keeps s (Chip.cuffForced s c) := by simp [Chip.cuffForced]

@[simp] theorem Chip.occShow_keeps (s : Chip) : Keeps s (Chip.occShow s) := by simp [Chip.occShow]

@[simp] theorem Chip.testGo_keeps (s : Chip) (r kind scope : Nat) (force : Bool) : Keeps s (Chip.testGo s r kind scope force).2 := by
  unfold Chip.testGo
  repeat' first
    | (try lift_lets); intro x
      first
      | have hx : Keeps s x := by simp only [x]; (repeat' first | (simp [*]; done) | split); done
        clear_value x
      | have hx : Keeps s x.2 := by simp only [x]; (repeat' first | (simp [*]; done) | split); done
        clear_value x
      | clear_value x
    | simp [*]; done
    | rename_i h; obtain rfl := congrArg Prod.snd h; simp; done
    | split

@[simp] theorem Chip.nbStage_keeps (s : Chip) (c : Nat) : Keeps s (Chip.nbStage s c).2 := by simp [Chip.nbStage]

@[simp] theorem Chip.canFresh_keeps (s : Chip) (c : Nat) : Keeps s (Chip.canFresh s c) := by
  unfold Chip.canFresh
  repeat' first
    | (try lift_lets); intro x
      first
      | have hx : Keeps s x := by simp only [x]; (repeat' first | with_reducible refine Keeps.each (fun s _ => ?_) ?_ | (simp [*]; done) | split | dsimp only); done
        clear_value x
      | have hx : Keeps s x.2 := by simp only [x]; (repeat' first | with_reducible refine Keeps.each (fun s _ => ?_) ?_ | (simp [*]; done) | split | dsimp only); done
        clear_value x
      | clear_value x
    | with_reducible refine Keeps.each (fun s _ => ?_) ?_
    | simp [*]; done
    | split
    | dsimp only

@[simp] theorem Chip.cuffFreed_keeps (s : Chip) (c : Nat) (always : Bool) : Keeps s (Chip.cuffFreed s c always) := by simp [Chip.cuffFreed]

@[simp] theorem Chip.testFreed_keeps (s : Chip) (kind scope : Nat) : Keeps s (Chip.testFreed s kind scope) := by
  unfold Chip.testFreed
  repeat' first
    | (try lift_lets); intro x
      first
      | have hx : Keeps s x := by simp only [x]; (repeat' first | with_reducible refine Keeps.each (fun s _ => ?_) ?_ | (simp [*]; done) | split | dsimp only); done
        clear_value x
      | have hx : Keeps s x.2 := by simp only [x]; (repeat' first | with_reducible refine Keeps.each (fun s _ => ?_) ?_ | (simp [*]; done) | split | dsimp only); done
        clear_value x
      | clear_value x
    | with_reducible refine Keeps.each (fun s _ => ?_) ?_
    | simp [*]; done
    | rename_i h; obtain rfl := congrArg Prod.snd h; simp; done
    | split
    | dsimp only

@[simp] theorem Chip.testCut_keeps (s : Chip) (cause : Nat) : Keeps s (Chip.testCut s cause) := by unfold Chip.testCut; (repeat' split) <;> simp

@[simp] theorem Chip.testAbortGo_keeps (s : Chip) : Keeps s (Chip.testAbortGo s).2 := by simp [Chip.testAbortGo]

@[simp] theorem Chip.eventSignal_keeps (s : Chip) (r n : Nat) : Keeps s (Chip.eventSignal s r n).2 := by unfold Chip.eventSignal; (repeat' split) <;> simp

@[simp] theorem Chip.seamShow_keeps (s : Chip) : Keeps s (Chip.seamShow s) := by simp [Chip.seamShow]

@[simp] theorem Chip.retrainGo_keeps (s : Chip) (r : Nat) : Keeps s (Chip.retrainGo s r).2 := by unfold Chip.retrainGo; (repeat' split) <;> simp

@[simp] theorem Chip.bootEmpty_keeps (s : Chip) (m : Nat) : Keeps s (Chip.bootEmpty s m) := by
  unfold Chip.bootEmpty
  repeat' first
    | (try lift_lets); intro x
      first
      | have hx : Keeps s x := by simp only [x]; (repeat' first | (simp [*]; done) | split); done
        clear_value x
      | have hx : Keeps s x.2 := by simp only [x]; (repeat' first | (simp [*]; done) | split); done
        clear_value x
      | clear_value x
    | simp [*]; done
    | split

@[simp] theorem Chip.bootFail_keeps (s : Chip) : Keeps s (Chip.bootFail s) := by
  unfold Chip.bootFail
  repeat' first
    | (try lift_lets); intro x
      first
      | have hx : Keeps s x := by simp only [x]; (repeat' first | with_reducible refine Keeps.each (fun s _ => ?_) ?_ | (simp [*]; done) | split | dsimp only); done
        clear_value x
      | have hx : Keeps s x.2 := by simp only [x]; (repeat' first | with_reducible refine Keeps.each (fun s _ => ?_) ?_ | (simp [*]; done) | split | dsimp only); done
        clear_value x
      | clear_value x
    | with_reducible refine Keeps.each (fun s _ => ?_) ?_
    | simp [*]; done
    | split
    | dsimp only

@[simp] theorem Chip.bootStarted_keeps (s : Chip) (b : List (BitVec 8)) (k src : Nat) : Keeps s (Chip.bootStarted s b k src) := by
  unfold Chip.bootStarted
  repeat' first
    | (try lift_lets); intro x
      first
      | have hx : Keeps s x := by simp only [x]; (repeat' first | with_reducible refine Keeps.each (fun s _ => ?_) ?_ | (simp [*]; done) | split | dsimp only); done
        clear_value x
      | have hx : Keeps s x.2 := by simp only [x]; (repeat' first | with_reducible refine Keeps.each (fun s _ => ?_) ?_ | (simp [*]; done) | split | dsimp only); done
        clear_value x
      | clear_value x
    | with_reducible refine Keeps.each (fun s _ => ?_) ?_
    | simp [*]; done
    | split
    | dsimp only

@[simp] theorem Chip.setSession_keeps (s : Chip) (c i : Nat) (x : CanSess) : Keeps s (Chip.setSession s c i x) := by simp [Chip.setSession]

@[simp] theorem Chip.canArbitrate_keeps (s : Chip) (c : Nat) : Keeps s (Chip.canArbitrate s c) := by simp [Chip.canArbitrate]

@[simp] theorem Chip.canGo_keeps (s : Chip) (c t : Nat) : Keeps s (Chip.canGo s c t).2 := by unfold Chip.canGo; (repeat' split) <;> simp

@[simp] theorem Chip.canAbort_keeps (s : Chip) (c t : Nat) : Keeps s (Chip.canAbort s c t).2 := by unfold Chip.canAbort; (repeat' split) <;> simp

@[simp] theorem Chip.canErrState_keeps (s : Chip) (c : Nat) : Keeps s (Chip.canErrState s c) := by simp [Chip.canErrState]

@[simp] theorem Chip.sessBegin_keeps (s : Chip) (c i kind pgn sa da size : Nat) : Keeps s (Chip.sessBegin s c i kind pgn sa da size) := by
  unfold Chip.sessBegin
  repeat' first
    | (try lift_lets); intro x
      first
      | have hx : Keeps s x := by simp only [x]; (repeat' first | (simp [*]; done) | split); done
        clear_value x
      | have hx : Keeps s x.2 := by simp only [x]; (repeat' first | (simp [*]; done) | split); done
        clear_value x
      | clear_value x
    | simp [*]; done
    | split

@[simp] theorem Chip.sessOpenPort_keeps (s : Chip) (c i size : Nat) : Keeps s (Chip.sessOpenPort s c i size).2 := by
  unfold Chip.sessOpenPort
  repeat' first
    | (try lift_lets); intro x
      first
      | have hx : Keeps s x := by simp only [x]; (repeat' first | (simp [*]; done) | split); done
        clear_value x
      | have hx : Keeps s x.2 := by simp only [x]; (repeat' first | (simp [*]; done) | split); done
        clear_value x
      | clear_value x
    | simp [*]; done
    | split

@[simp] theorem Chip.sessDpo_keeps (s : Chip) (c i count offset : Nat) : Keeps s (Chip.sessDpo s c i count offset) := by simp [Chip.sessDpo]

@[simp] theorem Chip.bam_keeps (s : Chip) (c sa : Nat) (data : List (BitVec 8)) : Keeps s (Chip.bam s c sa data) := by
  unfold Chip.bam
  repeat' first
    | (try lift_lets); intro x
      first
      | have hx : Keeps s x := by simp only [x]; (repeat' first | (simp [*]; done) | split); done
        clear_value x
      | have hx : Keeps s x.2 := by simp only [x]; (repeat' first | (simp [*]; done) | split); done
        clear_value x
      | clear_value x
    | simp [*]; done
    | rename_i h; obtain rfl := congrArg Prod.snd h; simp; done
    | split

@[simp] theorem Chip.canBusError_keeps (s : Chip) (c : Nat) (dom : Bool) : Keeps s (Chip.canBusError s c dom) := by
  unfold Chip.canBusError
  repeat' first
    | (try lift_lets); intro x
      first
      | have hx : Keeps s x := by simp only [x]; (repeat' first | (simp [*]; done) | split); done
        clear_value x
      | have hx : Keeps s x.2 := by simp only [x]; (repeat' first | (simp [*]; done) | split); done
        clear_value x
      | clear_value x
    | simp [*]; done
    | split

@[simp] theorem Chip.canBusOff_keeps (s : Chip) (c : Nat) : Keeps s (Chip.canBusOff s c) := by
  unfold Chip.canBusOff
  repeat' first
    | (try lift_lets); intro x
      first
      | have hx : Keeps s x := by simp only [x]; (repeat' first | (simp [*]; done) | split); done
        clear_value x
      | have hx : Keeps s x.2 := by simp only [x]; (repeat' first | (simp [*]; done) | split); done
        clear_value x
      | clear_value x
    | simp [*]; done
    | split

@[simp] theorem Chip.canJoin_keeps (s : Chip) (c : Nat) : Keeps s (Chip.canJoin s c) := by
  unfold Chip.canJoin
  repeat' first
    | (try lift_lets); intro x
      first
      | have hx : Keeps s x := by simp only [x]; (repeat' first | (simp [*]; done) | split); done
        clear_value x
      | have hx : Keeps s x.2 := by simp only [x]; (repeat' first | (simp [*]; done) | split); done
        clear_value x
      | clear_value x
    | simp [*]; done
    | split

@[simp] theorem Chip.canRecovered_keeps (s : Chip) (c : Nat) : Keeps s (Chip.canRecovered s c) := by simp [Chip.canRecovered]

@[simp] theorem Chip.canIntegrated_keeps (s : Chip) (c : Nat) : Keeps s (Chip.canIntegrated s c) := by simp [Chip.canIntegrated]

@[simp] theorem Chip.canFence_keeps (s : Chip) (c : Nat) : Keeps s (Chip.canFence s c) := by
  unfold Chip.canFence
  repeat' first
    | (try lift_lets); intro x
      first
      | have hx : Keeps s x := by simp only [x]; (repeat' first | with_reducible refine Keeps.each (fun s _ => ?_) ?_ | (simp [*]; done) | split | dsimp only); done
        clear_value x
      | have hx : Keeps s x.2 := by simp only [x]; (repeat' first | with_reducible refine Keeps.each (fun s _ => ?_) ?_ | (simp [*]; done) | split | dsimp only); done
        clear_value x
      | clear_value x
    | with_reducible refine Keeps.each (fun s _ => ?_) ?_
    | simp [*]; done
    | split
    | dsimp only

@[simp] theorem Chip.tailLink_keeps (s : Chip) (p : Nat) : Keeps s (Chip.tailLink s p) := by simp [Chip.tailLink]

@[simp] theorem Chip.stickySave_keeps (s : Chip) : Keeps s (Chip.stickySave s) := by
  unfold Chip.stickySave
  repeat' first
    | (try lift_lets); intro x
      first
      | have hx : Keeps s x := by simp only [x]; (repeat' first | (simp [*]; done) | split); done
        clear_value x
      | have hx : Keeps s x.2 := by simp only [x]; (repeat' first | (simp [*]; done) | split); done
        clear_value x
      | clear_value x
    | simp [*]; done
    | split

@[simp] theorem Chip.countMembers_keeps (s : Chip) : Keeps s (Chip.countMembers s) := by
  unfold Chip.countMembers
  repeat' first
    | (try lift_lets); intro x
      first
      | have hx : Keeps s x := by simp only [x]; (repeat' first | with_reducible refine Keeps.each (fun s _ => ?_) ?_ | (simp [*]; done) | split | dsimp only); done
        clear_value x
      | have hx : Keeps s x.2 := by simp only [x]; (repeat' first | with_reducible refine Keeps.each (fun s _ => ?_) ?_ | (simp [*]; done) | split | dsimp only); done
        clear_value x
      | clear_value x
    | with_reducible refine Keeps.each (fun s _ => ?_) ?_
    | simp [*]; done
    | split
    | dsimp only

@[simp] theorem Chip.foldedCyc_keeps (s : Chip) (p loop back : Nat) : Keeps s (Chip.foldedCyc s p loop back) := by simp [Chip.foldedCyc]

@[simp] theorem Chip.delayA_keeps (s : Chip) (acc : Nat) : Keeps s (Chip.delayA s acc) := by simp [Chip.delayA]

@[simp] theorem Chip.delayB_keeps (s : Chip) (l0 : Nat) : Keeps s (Chip.delayB s l0) := by
  unfold Chip.delayB
  repeat' first
    | (try lift_lets); intro x
      first
      | have hx : Keeps s x := by simp only [x]; (repeat' first | (simp [*]; done) | split); done
        clear_value x
      | have hx : Keeps s x.2 := by simp only [x]; (repeat' first | (simp [*]; done) | split); done
        clear_value x
      | clear_value x
    | simp [*]; done
    | split

@[simp] theorem Chip.putBoth_keeps (s : Chip) (addr w : Nat) : Keeps s (Chip.putBoth s addr w) := by
  unfold Chip.putBoth
  repeat' first
    | (try lift_lets); intro x
      first
      | have hx : Keeps s x := by simp only [x]; (repeat' first | with_reducible refine Keeps.each (fun s _ => ?_) ?_ | (simp [*]; done) | split | dsimp only); done
        clear_value x
      | have hx : Keeps s x.2 := by simp only [x]; (repeat' first | with_reducible refine Keeps.each (fun s _ => ?_) ?_ | (simp [*]; done) | split | dsimp only); done
        clear_value x
      | clear_value x
    | with_reducible refine Keeps.each (fun s _ => ?_) ?_
    | simp [*]; done
    | rename_i h; obtain rfl := congrArg Prod.snd h; simp; done
    | split
    | dsimp only

@[simp] theorem Chip.takeoverPort_keeps (s : Chip) : Keeps s (Chip.takeoverPort s) := by
  unfold Chip.takeoverPort
  repeat' first
    | (try lift_lets); intro x
      first
      | have hx : Keeps s x := by simp only [x]; (repeat' first | (simp [*]; done) | split); done
        clear_value x
      | have hx : Keeps s x.2 := by simp only [x]; (repeat' first | (simp [*]; done) | split); done
        clear_value x
      | clear_value x
    | simp [*]; done
    | rename_i h; obtain rfl := congrArg Prod.snd h; simp; done
    | split

@[simp] theorem Chip.takeoverEnd_keeps (s : Chip) : Keeps s (Chip.takeoverEnd s) := by
  unfold Chip.takeoverEnd
  repeat' first
    | (try lift_lets); intro x
      first
      | have hx : Keeps s x := by simp only [x]; (repeat' first | (simp [*]; done) | split); done
        clear_value x
      | have hx : Keeps s x.2 := by simp only [x]; (repeat' first | (simp [*]; done) | split); done
        clear_value x
      | clear_value x
    | simp [*]; done
    | split

@[simp] theorem Chip.handbackStart_keeps (s : Chip) : Keeps s (Chip.handbackStart s) := by unfold Chip.handbackStart; (repeat' split) <;> simp

@[simp] theorem Chip.timeToMark_keeps (s : Chip) : Keeps s (Chip.timeToMark s) := by simp [Chip.timeToMark]

@[simp] theorem Chip.setFine_keeps (s : Chip) (t : Nat) : Keeps s (Chip.setFine s t) := by
  unfold Chip.setFine
  repeat' first
    | (try lift_lets); intro x
      first
      | have hx : Keeps s x := by simp only [x]; (repeat' first | (simp [*]; done) | split); done
        clear_value x
      | have hx : Keeps s x.2 := by simp only [x]; (repeat' first | (simp [*]; done) | split); done
        clear_value x
      | clear_value x
    | simp [*]; done
    | split

@[simp] theorem Chip.ctTick_keeps (s : Chip) : Keeps s (Chip.ctTick s) := by
  unfold Chip.ctTick
  repeat' first
    | (try lift_lets); intro x
      first
      | have hx : Keeps s x := by simp only [x]; (repeat' first | (simp [*]; done) | split); done
        clear_value x
      | have hx : Keeps s x.2 := by simp only [x]; (repeat' first | (simp [*]; done) | split); done
        clear_value x
      | clear_value x
    | simp [*]; done
    | split

@[simp] theorem Chip.fieldTick_keeps (s : Chip) : Keeps s (Chip.fieldTick s) := by
  unfold Chip.fieldTick
  repeat' first
    | (try lift_lets); intro x
      first
      | have hx : Keeps s x := by simp only [x]; (repeat' first | (simp [*]; done) | split); done
        clear_value x
      | have hx : Keeps s x.2 := by simp only [x]; (repeat' first | (simp [*]; done) | split); done
        clear_value x
      | clear_value x
    | simp [*]; done
    | split

@[simp] theorem Chip.fieldTimeTo_keeps (s : Chip) (ns : Nat) : Keeps s (Chip.fieldTimeTo s ns) := by
  unfold Chip.fieldTimeTo
  repeat' first
    | (try lift_lets); intro x
      first
      | have hx : Keeps s x := by simp only [x]; (repeat' first | (simp [*]; done) | split); done
        clear_value x
      | have hx : Keeps s x.2 := by simp only [x]; (repeat' first | (simp [*]; done) | split); done
        clear_value x
      | clear_value x
    | simp [*]; done
    | split

@[simp] theorem Chip.drvMiss_keeps (s : Chip) (o : Nat) : Keeps s (Chip.drvMiss s o) := by
  unfold Chip.drvMiss
  repeat' first
    | (try lift_lets); intro x
      first
      | have hx : Keeps s x := by simp only [x]; (repeat' first | (simp [*]; done) | split); done
        clear_value x
      | have hx : Keeps s x.2 := by simp only [x]; (repeat' first | (simp [*]; done) | split); done
        clear_value x
      | clear_value x
    | simp [*]; done
    | split

@[simp] theorem Chip.drvApply1_keeps (s : Chip) (o : Nat) : Keeps s (Chip.drvApply1 s o) := by
  unfold Chip.drvApply1
  repeat' first
    | (try lift_lets); intro x
      first
      | have hx : Keeps s x := by simp only [x]; (repeat' first | (simp [*]; done) | split); done
        clear_value x
      | have hx : Keeps s x.2 := by simp only [x]; (repeat' first | (simp [*]; done) | split); done
        clear_value x
      | clear_value x
    | simp [*]; done
    | rename_i h; obtain rfl := congrArg Prod.snd h; simp; done
    | split

@[simp] theorem Chip.drvApply_keeps (s : Chip) : Keeps s (Chip.drvApply s) := by
  unfold Chip.drvApply
  repeat' first
    | (try lift_lets); intro x
      first
      | have hx : Keeps s x := by simp only [x]; (repeat' first | with_reducible refine Keeps.each (fun s _ => ?_) ?_ | (simp [*]; done) | split | dsimp only); done
        clear_value x
      | have hx : Keeps s x.2 := by simp only [x]; (repeat' first | with_reducible refine Keeps.each (fun s _ => ?_) ?_ | (simp [*]; done) | split | dsimp only); done
        clear_value x
      | clear_value x
    | with_reducible refine Keeps.each (fun s _ => ?_) ?_
    | simp [*]; done
    | split
    | dsimp only

@[simp] theorem Chip.applyInstant_keeps (s : Chip) : Keeps s (Chip.applyInstant s) := by
  unfold Chip.applyInstant
  repeat' first
    | (try lift_lets); intro x
      first
      | have hx : Keeps s x := by simp only [x]; (repeat' first | (simp [*]; done) | split); done
        clear_value x
      | have hx : Keeps s x.2 := by simp only [x]; (repeat' first | (simp [*]; done) | split); done
        clear_value x
      | clear_value x
    | simp [*]; done
    | split

@[simp] theorem Chip.passCyc_keeps (s : Chip) (p : Nat) (body : List (BitVec 8)) : Keeps s (Chip.passCyc s p body) := by
  unfold Chip.passCyc
  repeat' first
    | (try lift_lets); intro x
      first
      | have hx : Keeps s x := by simp only [x]; (repeat' first | (simp [*]; done) | split); done
        clear_value x
      | have hx : Keeps s x.2 := by simp only [x]; (repeat' first | (simp [*]; done) | split); done
        clear_value x
      | clear_value x
    | simp [*]; done
    | rename_i h; obtain rfl := congrArg Prod.snd h; simp; done
    | split

@[simp] theorem Chip.leaveLocked_keeps (s : Chip) (next : Nat) : Keeps s (Chip.leaveLocked s next) := by
  unfold Chip.leaveLocked
  repeat' first
    | (try lift_lets); intro x
      first
      | have hx : Keeps s x := by simp only [x]; (repeat' first | (simp [*]; done) | split); done
        clear_value x
      | have hx : Keeps s x.2 := by simp only [x]; (repeat' first | (simp [*]; done) | split); done
        clear_value x
      | clear_value x
    | simp [*]; done
    | split

@[simp] theorem Chip.usbLock_keeps (s : Chip) (v : Bool) : Keeps s (Chip.usbLock s v) := by
  unfold Chip.usbLock
  repeat' first
    | (try lift_lets); intro x
      first
      | have hx : Keeps s x := by simp only [x]; (repeat' first | (simp [*]; done) | split); done
        clear_value x
      | have hx : Keeps s x.2 := by simp only [x]; (repeat' first | (simp [*]; done) | split); done
        clear_value x
      | clear_value x
    | simp [*]; done
    | split

@[simp] theorem Chip.enterAcquire_keeps (s : Chip) : Keeps s (Chip.enterAcquire s) := by
  unfold Chip.enterAcquire
  repeat' first
    | (try lift_lets); intro x
      first
      | have hx : Keeps s x := by simp only [x]; (repeat' first | (simp [*]; done) | split); done
        clear_value x
      | have hx : Keeps s x.2 := by simp only [x]; (repeat' first | (simp [*]; done) | split); done
        clear_value x
      | clear_value x
    | simp [*]; done
    | split

@[simp] theorem Chip.steer_keeps (s : Chip) (bound : Nat) : Keeps s (Chip.steer s bound) := by simp [Chip.steer]

@[simp] theorem Chip.dropAddr_keeps (s : Chip) : Keeps s (Chip.dropAddr s) := by
  unfold Chip.dropAddr
  repeat' first
    | (try lift_lets); intro x
      first
      | have hx : Keeps s x := by simp only [x]; (repeat' first | (simp [*]; done) | split); done
        clear_value x
      | have hx : Keeps s x.2 := by simp only [x]; (repeat' first | (simp [*]; done) | split); done
        clear_value x
      | clear_value x
    | simp [*]; done
    | split

@[simp] theorem Chip.acquireMark_keeps (s : Chip) (target : Int) (near : Bool) : Keeps s (Chip.acquireMark s target near) := by
  unfold Chip.acquireMark
  repeat' first
    | (try lift_lets); intro x
      first
      | have hx : Keeps s x := by simp only [x]; (repeat' first | (simp [*]; done) | split); done
        clear_value x
      | have hx : Keeps s x.2 := by simp only [x]; (repeat' first | (simp [*]; done) | split); done
        clear_value x
      | clear_value x
    | simp [*]; done
    | split

@[simp] theorem Chip.syncMark_keeps (s : Chip) (target : Int) : Keeps s (Chip.syncMark s target) := by
  unfold Chip.syncMark
  repeat' first
    | (try lift_lets); intro x
      first
      | have hx : Keeps s x := by simp only [x]; (repeat' first | (simp [*]; done) | split); done
        clear_value x
      | have hx : Keeps s x.2 := by simp only [x]; (repeat' first | (simp [*]; done) | split); done
        clear_value x
      | clear_value x
    | simp [*]; done
    | split

@[simp] theorem Chip.enterHoldover_keeps (s : Chip) : Keeps s (Chip.enterHoldover s) := by simp [Chip.enterHoldover]

@[simp] theorem Chip.acquireMiss_keeps (s : Chip) : Keeps s (Chip.acquireMiss s) := by
  unfold Chip.acquireMiss
  repeat' first
    | (try lift_lets); intro x
      first
      | have hx : Keeps s x := by simp only [x]; (repeat' first | (simp [*]; done) | split); done
        clear_value x
      | have hx : Keeps s x.2 := by simp only [x]; (repeat' first | (simp [*]; done) | split); done
        clear_value x
      | clear_value x
    | simp [*]; done
    | split

@[simp] theorem Chip.holdoverEntry_keeps (s : Chip) : Keeps s (Chip.holdoverEntry s) := by simp [Chip.holdoverEntry]

@[simp] theorem Chip.ownMark_keeps (s : Chip) : Keeps s (Chip.ownMark s) := by
  unfold Chip.ownMark
  repeat' first
    | (try lift_lets); intro x
      first
      | have hx : Keeps s x := by simp only [x]; (repeat' first | (simp [*]; done) | split); done
        clear_value x
      | have hx : Keeps s x.2 := by simp only [x]; (repeat' first | (simp [*]; done) | split); done
        clear_value x
      | clear_value x
    | simp [*]; done
    | split

@[simp] theorem Chip.localMark_keeps (s : Chip) : Keeps s (Chip.localMark s) := by
  unfold Chip.localMark
  repeat' first
    | (try lift_lets); intro x
      first
      | have hx : Keeps s x := by simp only [x]; (repeat' first | (simp [*]; done) | split); done
        clear_value x
      | have hx : Keeps s x.2 := by simp only [x]; (repeat' first | (simp [*]; done) | split); done
        clear_value x
      | clear_value x
    | simp [*]; done
    | split

@[simp] theorem Chip.badMark_keeps (s : Chip) : Keeps s (Chip.badMark s) := by simp [Chip.badMark]

@[simp] theorem Chip.portRoles_keeps (s : Chip) (p : Nat) : Keeps s (Chip.portRoles s p) := by
  unfold Chip.portRoles
  repeat' first
    | (try lift_lets); intro x
      first
      | have hx : Keeps s x := by simp only [x]; (repeat' first | (simp [*]; done) | split); done
        clear_value x
      | have hx : Keeps s x.2 := by simp only [x]; (repeat' first | (simp [*]; done) | split); done
        clear_value x
      | clear_value x
    | simp [*]; done
    | split

@[simp] theorem Chip.loseHead_keeps (s : Chip) : Keeps s (Chip.loseHead s) := by
  unfold Chip.loseHead
  repeat' first
    | (try lift_lets); intro x
      first
      | have hx : Keeps s x := by simp only [x]; (repeat' first | (simp [*]; done) | split); done
        clear_value x
      | have hx : Keeps s x.2 := by simp only [x]; (repeat' first | (simp [*]; done) | split); done
        clear_value x
      | clear_value x
    | simp [*]; done
    | split

@[simp] theorem Chip.takeRing_keeps (s : Chip) (ring : Nat) : Keeps s (Chip.takeRing s ring) := by
  unfold Chip.takeRing
  repeat' first
    | (try lift_lets); intro x
      first
      | have hx : Keeps s x := by simp only [x]; (repeat' first | (simp [*]; done) | split); done
        clear_value x
      | have hx : Keeps s x.2 := by simp only [x]; (repeat' first | (simp [*]; done) | split); done
        clear_value x
      | clear_value x
    | simp [*]; done
    | split

@[simp] theorem Chip.cycSleep_keeps (s : Chip) (num : Nat) : Keeps s (Chip.cycSleep s num) := by
  unfold Chip.cycSleep
  repeat' first
    | (try lift_lets); intro x
      first
      | have hx : Keeps s x := by simp only [x]; (repeat' first | (simp [*]; done) | split); done
        clear_value x
      | have hx : Keeps s x.2 := by simp only [x]; (repeat' first | (simp [*]; done) | split); done
        clear_value x
      | clear_value x
    | simp [*]; done
    | split

@[simp] theorem Chip.markTaken_keeps (s : Chip) (t : Nat) : Keeps s (Chip.markTaken s t) := by
  unfold Chip.markTaken
  repeat' first
    | (try lift_lets); intro x
      first
      | have hx : Keeps s x := by simp only [x]; (repeat' first | (simp [*]; done) | split); done
        clear_value x
      | have hx : Keeps s x.2 := by simp only [x]; (repeat' first | (simp [*]; done) | split); done
        clear_value x
      | clear_value x
    | simp [*]; done
    | split

@[simp] theorem Chip.acceptCyc_keeps (s : Chip) (body : List (BitVec 8)) : Keeps s (Chip.acceptCyc s body) := by
  unfold Chip.acceptCyc
  repeat' first
    | (try lift_lets); intro x
      first
      | have hx : Keeps s x := by simp only [x]; (repeat' first | (simp [*]; done) | split); done
        clear_value x
      | have hx : Keeps s x.2 := by simp only [x]; (repeat' first | (simp [*]; done) | split); done
        clear_value x
      | clear_value x
    | simp [*]; done
    | rename_i h; obtain rfl := congrArg Prod.snd h; simp; done
    | split

@[simp] theorem Chip.roleSwap_keeps (s : Chip) (p : Nat) : Keeps s (Chip.roleSwap s p) := by
  unfold Chip.roleSwap
  repeat' first
    | (try lift_lets); intro x
      first
      | have hx : Keeps s x := by simp only [x]; (repeat' first | (simp [*]; done) | split); done
        clear_value x
      | have hx : Keeps s x.2 := by simp only [x]; (repeat' first | (simp [*]; done) | split); done
        clear_value x
      | clear_value x
    | simp [*]; done
    | split

@[simp] theorem Chip.firstCyc_keeps (s : Chip) (p : Nat) : Keeps s (Chip.firstCyc s p) := by
  unfold Chip.firstCyc
  repeat' first
    | (try lift_lets); intro x
      first
      | have hx : Keeps s x := by simp only [x]; (repeat' first | (simp [*]; done) | split); done
        clear_value x
      | have hx : Keeps s x.2 := by simp only [x]; (repeat' first | (simp [*]; done) | split); done
        clear_value x
      | clear_value x
    | simp [*]; done
    | split

@[simp] theorem Chip.yield__keeps (s : Chip) (p : Nat) (body : List (BitVec 8)) : Keeps s (Chip.yield_ s p body) := by
  unfold Chip.yield_
  repeat' first
    | (try lift_lets); intro x
      first
      | have hx : Keeps s x := by simp only [x]; (repeat' first | (simp [*]; done) | split); done
        clear_value x
      | have hx : Keeps s x.2 := by simp only [x]; (repeat' first | (simp [*]; done) | split); done
        clear_value x
      | clear_value x
    | simp [*]; done
    | split

@[simp] theorem Chip.cycReceive_keeps (s : Chip) (p : Nat) (body : List (BitVec 8)) : Keeps s (Chip.cycReceive s p body) := by
  unfold Chip.cycReceive
  repeat' first
    | (try lift_lets); intro x
      first
      | have hx : Keeps s x := by simp only [x]; (repeat' first | (simp [*]; done) | split); done
        clear_value x
      | have hx : Keeps s x.2 := by simp only [x]; (repeat' first | (simp [*]; done) | split); done
        clear_value x
      | clear_value x
    | simp [*]; done
    | split

@[simp] theorem Chip.usbLockLoss_keeps (s : Chip) : Keeps s (Chip.usbLockLoss s) := by simp [Chip.usbLockLoss]

@[simp] theorem Chip.sofHead_keeps (s : Chip) : Keeps s (Chip.sofHead s) := by simp [Chip.sofHead]

@[simp] theorem Chip.freqMeasure_keeps (s : Chip) (v : Nat) : Keeps s (Chip.freqMeasure s v) := by simp [Chip.freqMeasure]

@[simp] theorem Chip.trap_keeps (s : Chip) (e cause : Nat) (addr : Option Nat) : Keeps s (Chip.trap s e cause addr) := by
  unfold Chip.trap
  repeat' first
    | (try lift_lets); intro x
      first
      | have hx : Keeps s x := by simp only [x]; (repeat' first | (simp [*]; done) | split); done
        clear_value x
      | have hx : Keeps s x.2 := by simp only [x]; (repeat' first | (simp [*]; done) | split); done
        clear_value x
      | clear_value x
    | simp [*]; done
    | rename_i h; obtain rfl := congrArg Prod.snd h; simp; done
    | split

@[simp] theorem Chip.respond_keeps (s : Chip) (r : Requester) (addr : Nat) (a : Acc) : Keeps s (Chip.respond s r addr a) := by
  unfold Chip.respond
  repeat' first
    | (try lift_lets); intro x
      first
      | have hx : Keeps s x := by simp only [x]; (repeat' first | (simp [*]; done) | split); done
        clear_value x
      | have hx : Keeps s x.2 := by simp only [x]; (repeat' first | (simp [*]; done) | split); done
        clear_value x
      | clear_value x
    | simp [*]; done
    | rename_i h; obtain rfl := congrArg Prod.snd h; simp; done
    | split

@[simp] theorem Chip.respondUp_keeps (d : Did) (r : Requester) (a : Nat) : Keeps d.2 (Chip.respondUp d r a) := by
  unfold Chip.respondUp; split <;> simp

@[simp] theorem Chip.runMget_keeps (s : Chip) (r : Requester) (q : Nat) : Keeps s (Chip.runMget s r q).2 := by
  unfold Chip.runMget
  repeat' first
    | (try lift_lets); intro x
      first
      | have hx : Keeps s x := by simp only [x]; (repeat' first | (simp [*]; done) | split); done
        clear_value x
      | have hx : Keeps s x.2 := by simp only [x]; (repeat' first | (simp [*]; done) | split); done
        clear_value x
      | clear_value x
    | simp [*]; done
    | split

@[simp] theorem Chip.poolFail_keeps (s : Chip) : Keeps s (Chip.poolFail s) := by
  unfold Chip.poolFail
  repeat' first
    | (try lift_lets); intro x
      first
      | have hx : Keeps s x := by simp only [x]; (repeat' first | (simp [*]; done) | split); done
        clear_value x
      | have hx : Keeps s x.2 := by simp only [x]; (repeat' first | (simp [*]; done) | split); done
        clear_value x
      | clear_value x
    | simp [*]; done
    | split

@[simp] theorem Chip.poolAlloc_keeps (s : Chip) (who : Nat) : Keeps s (s.poolAlloc who).2 := by
  unfold Chip.poolAlloc
  repeat' split
  all_goals first
    | simp; done
    | (rename_i h; have := Chip.poolPop_keeps _ _ h; simp_all; done)

@[simp] theorem Chip.syncAlloc_keeps (s : Chip) (r : Requester) : Keeps s (Chip.syncAlloc s r).2 := by
  unfold Chip.syncAlloc
  repeat' first
    | (try lift_lets); intro x
      first
      | have hx : Keeps s x := by simp only [x]; (repeat' first | (simp [*]; done) | split); done
        clear_value x
      | have hx : Keeps s x.2 := by simp only [x]; (repeat' first | (simp [*]; done) | split); done
        clear_value x
      | clear_value x
    | simp [*]; done
    | rename_i h; obtain rfl := congrArg Prod.snd h; simp; done
    | split

@[simp] theorem Chip.syncRecv_keeps (s : Chip) (r : Requester) : Keeps s (Chip.syncRecv s r).2 := by
  unfold Chip.syncRecv
  repeat' first
    | (try lift_lets); intro x
      first
      | have hx : Keeps s x := by simp only [x]; (repeat' first | (simp [*]; done) | split); done
        clear_value x
      | have hx : Keeps s x.2 := by simp only [x]; (repeat' first | (simp [*]; done) | split); done
        clear_value x
      | clear_value x
    | simp [*]; done
    | rename_i h; obtain rfl := congrArg Prod.snd h; simp; done
    | split

@[simp] theorem Chip.takeRead_keeps (s : Chip) (r : Requester) (l : Loc) : Keeps s (Chip.takeRead s r l).2.2 := by
  unfold Chip.takeRead
  repeat' first
    | (try lift_lets); intro x
      first
      | have hx : Keeps s x := by simp only [x]; (repeat' first | (simp [*]; done) | split); done
        clear_value x
      | have hx : Keeps s x.2 := by simp only [x]; (repeat' first | (simp [*]; done) | split); done
        clear_value x
      | clear_value x
    | simp [*]; done
    | split

@[simp] theorem Chip.pinLevels_keeps (s : Chip) (n : Nat) : Keeps s (Chip.pinLevels s n).2 := by
  unfold Chip.pinLevels
  repeat' first
    | (try lift_lets); intro x
      first
      | have hx : Keeps s x := by simp only [x]; (repeat' first | with_reducible refine Keeps.foldl (fun s _ => ?_) ?_ | (simp [*]; done) | split | dsimp only); done
        clear_value x
      | have hx : Keeps s x.2 := by simp only [x]; (repeat' first | with_reducible refine Keeps.foldl (fun s _ => ?_) ?_ | (simp [*]; done) | split | dsimp only); done
        clear_value x
      | clear_value x
    | with_reducible refine Keeps.foldl (fun s _ => ?_) ?_
    | simp [*]; done
    | rename_i h; obtain rfl := congrArg Prod.snd h; simp; done
    | split
    | dsimp only

@[simp] theorem Chip.freshen_keeps (s : Chip) (l : Loc) : Keeps s (Chip.freshen s l) := by simp [Chip.freshen]

@[simp] theorem Chip.readReg_keeps (s : Chip) (r : Requester) (l : Loc) (active : Bool) : Keeps s (Chip.readReg s r l active).2.2 := by
  unfold Chip.readReg
  repeat' first
    | (try lift_lets); intro x
      first
      | have hx : Keeps s x := by simp only [x]; (repeat' first | (simp [*]; done) | split); done
        clear_value x
      | have hx : Keeps s x.2 := by simp only [x]; (repeat' first | (simp [*]; done) | split); done
        clear_value x
      | clear_value x
    | simp [*]; done
    | rename_i h; obtain rfl := congrArg Prod.snd h; simp; done
    | split

@[simp] theorem Chip.loCapture_keeps (s : Chip) (r : Requester) (a : Nat) : Keeps s (Chip.loCapture s r a) := by unfold Chip.loCapture; (repeat' split) <;> simp

@[simp] theorem Chip.drvPortWrite_keeps (s : Chip) (o off v : Nat) : Keeps s (Chip.drvPortWrite s o off v).2 := by
  unfold Chip.drvPortWrite
  repeat' first
    | (try lift_lets); intro x
      first
      | have hx : Keeps s x := by simp only [x]; (repeat' first | (simp [*]; done) | split); done
        clear_value x
      | have hx : Keeps s x.2 := by simp only [x]; (repeat' first | (simp [*]; done) | split); done
        clear_value x
      | clear_value x
    | simp [*]; done
    | split

@[simp] theorem Chip.txGo_keeps (s : Chip) (c v : Nat) : Keeps s (s.txGo c v).2 := by
  unfold Chip.txGo
  extract_lets x n y k z a
  clear_value z
  (repeat' split) <;> simp

@[simp] theorem Chip.windowClose_keeps (s : Chip) (c : Nat) : Keeps s (Chip.windowClose s c) := by
  unfold Chip.windowClose
  repeat' first
    | (try lift_lets); intro x
      first
      | have hx : Keeps s x := by simp only [x]; (repeat' first | (simp [*]; done) | split); done
        clear_value x
      | have hx : Keeps s x.2 := by simp only [x]; (repeat' first | (simp [*]; done) | split); done
        clear_value x
      | clear_value x
    | simp [*]; done
    | split

@[simp] theorem Chip.hrStart_keeps (s : Chip) (c : Nat) : Keeps s (Chip.hrStart s c) := by
  unfold Chip.hrStart
  repeat' first
    | (try lift_lets); intro x
      first
      | have hx : Keeps s x := by simp only [x]; (repeat' first | (simp [*]; done) | split); done
        clear_value x
      | have hx : Keeps s x.2 := by simp only [x]; (repeat' first | (simp [*]; done) | split); done
        clear_value x
      | clear_value x
    | simp [*]; done
    | split

@[simp] theorem Chip.hrSend_keeps (s : Chip) (c : Nat) : Keeps s (Chip.hrSend s c) := by simp [Chip.hrSend]

@[simp] theorem Chip.errorRecovery_keeps (s : Chip) (c : Nat) : Keeps s (Chip.errorRecovery s c) := by simp [Chip.errorRecovery]

@[simp] theorem Chip.cuffCmd_keeps (s : Chip) (c code : Nat) : Keeps s (Chip.cuffCmd s c code).2 := by
  unfold Chip.cuffCmd
  repeat' first
    | (try lift_lets); intro x
      first
      | have hx : Keeps s x := by simp only [x]; (repeat' first | (simp [*]; done) | split); done
        clear_value x
      | have hx : Keeps s x.2 := by simp only [x]; (repeat' first | (simp [*]; done) | split); done
        clear_value x
      | clear_value x
    | simp [*]; done
    | rename_i h; obtain rfl := congrArg Prod.snd h; simp; done
    | split

@[simp] theorem Chip.vsetPort_keeps (s : Chip) (c v : Nat) : Keeps s (Chip.vsetPort s c v).2 := by unfold Chip.vsetPort; (repeat' split) <;> simp

@[simp] theorem Chip.contractPort_keeps (s : Chip) (c v : Nat) : Keeps s (Chip.contractPort s c v).2 := by
  unfold Chip.contractPort
  repeat' first
    | (try lift_lets); intro x
      first
      | have hx : Keeps s x := by simp only [x]; (repeat' first | (simp [*]; done) | split); done
        clear_value x
      | have hx : Keeps s x.2 := by simp only [x]; (repeat' first | (simp [*]; done) | split); done
        clear_value x
      | clear_value x
    | simp [*]; done
    | split

@[simp] theorem Chip.cuffPortWrite_keeps (s : Chip) (c off v : Nat) : Keeps s (s.cuffPortWrite c off v).2 := by
  have key : ∀ (p : Prop) [Decidable p] (a b : Bool × Chip), Keeps s a.2 → Keeps s b.2 → Keeps s (if p then a else b).2 := by
    intro p _ a b ha hb; split <;> assumption
  unfold Chip.cuffPortWrite
  refine key _ _ _ (by simp) ?_
  extract_lets x
  clear_value x
  repeat' first
    | with_reducible refine key _ _ _ ?_ ?_
    | simp; done

@[simp] theorem Chip.pinPortWrite_keeps (s : Chip) (n v : Nat) : Keeps s (Chip.pinPortWrite s n v).2 := by unfold Chip.pinPortWrite; (repeat' split) <;> simp

@[simp] theorem Chip.hubSof_keeps (s : Chip) (frame : Nat) : Keeps s (Chip.hubSof s frame) := by
  unfold Chip.hubSof
  repeat' first
    | (try lift_lets); intro x
      first
      | have hx : Keeps s x := by simp only [x]; (repeat' first | (simp [*]; done) | split); done
        clear_value x
      | have hx : Keeps s x.2 := by simp only [x]; (repeat' first | (simp [*]; done) | split); done
        clear_value x
      | clear_value x
    | simp [*]; done
    | split

@[simp] theorem Chip.sofIn_keeps (s : Chip) (frame : Nat) : Keeps s (Chip.sofIn s frame) := by simp [Chip.sofIn]

@[simp] theorem Chip.answer_keeps (s : Chip) (r : UsbReply) : Keeps s (Chip.answer s r) := by simp [Chip.answer]

@[simp] theorem Chip.answerData_keeps (s : Chip) (l : List (BitVec 8)) (n : Nat) : Keeps s (Chip.answerData s l n) := by simp [Chip.answerData]

@[simp] theorem Chip.stalls_keeps (s : Chip) (d : UsbDev) : Keeps s (Chip.stalls s d) := by simp [Chip.stalls]

@[simp] theorem Chip.giveDescriptor_keeps (s : Chip) (d : UsbDev) (o : Option (List Nat)) (n : Nat) : Keeps s (Chip.giveDescriptor s d o n) := by unfold Chip.giveDescriptor; (repeat' split) <;> simp

@[simp] theorem Chip.ttState_keeps (s : Chip) : Keeps s (Chip.ttState s) := by simp [Chip.ttState]

@[simp] theorem Chip.portConnect_keeps (s : Chip) (p : Nat) (v : UsbSpeed) : Keeps s (Chip.portConnect s p v) := by
  unfold Chip.portConnect
  repeat' first
    | (try lift_lets); intro x
      first
      | have hx : Keeps s x := by simp only [x]; (repeat' first | (simp [*]; done) | split); done
        clear_value x
      | have hx : Keeps s x.2 := by simp only [x]; (repeat' first | (simp [*]; done) | split); done
        clear_value x
      | clear_value x
    | simp [*]; done
    | split

@[simp] theorem Chip.mgmtAttach_keeps (s : Chip) : Keeps s (Chip.mgmtAttach s) := by simp [Chip.mgmtAttach]

@[simp] theorem Chip.powerUp_keeps (s : Chip) (p : Nat) : Keeps s (Chip.powerUp s p) := by
  unfold Chip.powerUp
  repeat' first
    | (try lift_lets); intro x
      first
      | have hx : Keeps s x := by simp only [x]; (repeat' first | (simp [*]; done) | split); done
        clear_value x
      | have hx : Keeps s x.2 := by simp only [x]; (repeat' first | (simp [*]; done) | split); done
        clear_value x
      | clear_value x
    | simp [*]; done
    | split

@[simp] theorem Chip.powerDown_keeps (s : Chip) (p : Nat) : Keeps s (Chip.powerDown s p) := by
  unfold Chip.powerDown
  repeat' first
    | (try lift_lets); intro x
      first
      | have hx : Keeps s x := by simp only [x]; (repeat' first | (simp [*]; done) | split); done
        clear_value x
      | have hx : Keeps s x.2 := by simp only [x]; (repeat' first | (simp [*]; done) | split); done
        clear_value x
      | clear_value x
    | simp [*]; done
    | split

@[simp] theorem Chip.resetBegin_keeps (s : Chip) (p : Nat) : Keeps s (Chip.resetBegin s p) := by
  unfold Chip.resetBegin
  repeat' first
    | (try lift_lets); intro x
      first
      | have hx : Keeps s x := by simp only [x]; (repeat' first | (simp [*]; done) | split); done
        clear_value x
      | have hx : Keeps s x.2 := by simp only [x]; (repeat' first | (simp [*]; done) | split); done
        clear_value x
      | clear_value x
    | simp [*]; done
    | split

@[simp] theorem Chip.suspendPort_keeps (s : Chip) (p : Nat) : Keeps s (Chip.suspendPort s p) := by
  unfold Chip.suspendPort
  repeat' first
    | (try lift_lets); intro x
      first
      | have hx : Keeps s x := by simp only [x]; (repeat' first | (simp [*]; done) | split); done
        clear_value x
      | have hx : Keeps s x.2 := by simp only [x]; (repeat' first | (simp [*]; done) | split); done
        clear_value x
      | clear_value x
    | simp [*]; done
    | split

@[simp] theorem Chip.resumePort_keeps (s : Chip) (p : Nat) : Keeps s (Chip.resumePort s p) := by
  unfold Chip.resumePort
  repeat' first
    | (try lift_lets); intro x
      first
      | have hx : Keeps s x := by simp only [x]; (repeat' first | (simp [*]; done) | split); done
        clear_value x
      | have hx : Keeps s x.2 := by simp only [x]; (repeat' first | (simp [*]; done) | split); done
        clear_value x
      | clear_value x
    | simp [*]; done
    | split

@[simp] theorem Chip.ttClear_keeps (s : Chip) (p : Nat) (ep : TtEndpoint) : Keeps s (Chip.ttClear s p ep) := by
  unfold Chip.ttClear
  repeat' first
    | (try lift_lets); intro x
      first
      | have hx : Keeps s x := by simp only [x]; (repeat' first | with_reducible refine Keeps.each (fun s _ => ?_) ?_ | (simp [*]; done) | split | dsimp only); done
        clear_value x
      | have hx : Keeps s x.2 := by simp only [x]; (repeat' first | with_reducible refine Keeps.each (fun s _ => ?_) ?_ | (simp [*]; done) | split | dsimp only); done
        clear_value x
      | clear_value x
    | with_reducible refine Keeps.each (fun s _ => ?_) ?_
    | simp [*]; done
    | split
    | dsimp only

@[simp] theorem Chip.ttReset_keeps (s : Chip) (p : Nat) : Keeps s (Chip.ttReset s p) := by
  unfold Chip.ttReset
  repeat' first
    | (try lift_lets); intro x
      first
      | have hx : Keeps s x := by simp only [x]; (repeat' first | with_reducible refine Keeps.each (fun s _ => ?_) ?_ | (simp [*]; done) | split | dsimp only); done
        clear_value x
      | have hx : Keeps s x.2 := by simp only [x]; (repeat' first | with_reducible refine Keeps.each (fun s _ => ?_) ?_ | (simp [*]; done) | split | dsimp only); done
        clear_value x
      | clear_value x
    | with_reducible refine Keeps.each (fun s _ => ?_) ?_
    | simp [*]; done
    | split
    | dsimp only

@[simp] theorem Chip.portCommand_keeps (s : Chip) (p : Nat) (r : WRec) : Keeps s (Chip.portCommand s p r) := by
  unfold Chip.portCommand
  repeat' first
    | (try lift_lets); intro x
      first
      | have hx : Keeps s x := by simp only [x]; (repeat' first | (simp [*]; done) | split); done
        clear_value x
      | have hx : Keeps s x.2 := by simp only [x]; (repeat' first | (simp [*]; done) | split); done
        clear_value x
      | clear_value x
    | simp [*]; done
    | rename_i h; obtain rfl := congrArg Prod.snd h; simp; done
    | split

@[simp] theorem Chip.sendCmd_keeps (s : Chip) (w : Nat) (r : WRec) : Keeps s (Chip.sendCmd s w r) := by simp [Chip.sendCmd]

@[simp] theorem Chip.widePortsOff_keeps (s : Chip) : Keeps s (Chip.widePortsOff s) := by
  unfold Chip.widePortsOff
  repeat' first
    | (try lift_lets); intro x
      first
      | have hx : Keeps s x := by simp only [x]; (repeat' first | with_reducible refine Keeps.each (fun s _ => ?_) ?_ | (simp [*]; done) | split | dsimp only); done
        clear_value x
      | have hx : Keeps s x.2 := by simp only [x]; (repeat' first | with_reducible refine Keeps.each (fun s _ => ?_) ?_ | (simp [*]; done) | split | dsimp only); done
        clear_value x
      | clear_value x
    | with_reducible refine Keeps.each (fun s _ => ?_) ?_
    | simp [*]; done
    | split
    | dsimp only

@[simp] theorem Chip.wideBusReset_keeps (s : Chip) (hs : Bool) : Keeps s (Chip.wideBusReset s hs) := by
  unfold Chip.wideBusReset
  repeat' first
    | (try lift_lets); intro x
      first
      | have hx : Keeps s x := by simp only [x]; (repeat' first | (simp [*]; done) | split); done
        clear_value x
      | have hx : Keeps s x.2 := by simp only [x]; (repeat' first | (simp [*]; done) | split); done
        clear_value x
      | clear_value x
    | simp [*]; done
    | split

@[simp] theorem Chip.hubBusReset_keeps (s : Chip) (hs : Bool) : Keeps s (Chip.hubBusReset s hs) := by
  unfold Chip.hubBusReset
  repeat' first
    | (try lift_lets); intro x
      first
      | have hx : Keeps s x := by simp only [x]; (repeat' first | (simp [*]; done) | split); done
        clear_value x
      | have hx : Keeps s x.2 := by simp only [x]; (repeat' first | (simp [*]; done) | split); done
        clear_value x
      | clear_value x
    | simp [*]; done
    | split

@[simp] theorem Chip.busReset_keeps (s : Chip) (hs : Bool) : Keeps s (Chip.busReset s hs) := by simp [Chip.busReset]

@[simp] theorem Chip.tcAttach_keeps (s : Chip) (c : Nat) (src : Bool) : Keeps s (Chip.tcAttach s c src) := by
  unfold Chip.tcAttach
  repeat' first
    | (try lift_lets); intro x
      first
      | have hx : Keeps s x := by simp only [x]; (repeat' first | (simp [*]; done) | split); done
        clear_value x
      | have hx : Keeps s x.2 := by simp only [x]; (repeat' first | (simp [*]; done) | split); done
        clear_value x
      | clear_value x
    | simp [*]; done
    | split

@[simp] theorem Chip.ccChange_keeps (s : Chip) (c : Nat) (a b : CcPin) : Keeps s (Chip.ccChange s c a b) := by
  unfold Chip.ccChange
  repeat' first
    | (try lift_lets); intro x
      first
      | have hx : Keeps s x := by simp only [x]; (repeat' first | (simp [*]; done) | split); done
        clear_value x
      | have hx : Keeps s x.2 := by simp only [x]; (repeat' first | (simp [*]; done) | split); done
        clear_value x
      | clear_value x
    | simp [*]; done
    | rename_i h; obtain rfl := congrArg Prod.snd h; simp; done
    | split

@[simp] theorem Chip.tcTimer_keeps (s : Chip) (c : Nat) (t : TcTimer) : Keeps s (Chip.tcTimer s c t) := by
  unfold Chip.tcTimer
  repeat' first
    | (try lift_lets); intro x
      first
      | have hx : Keeps s x := by simp only [x]; (repeat' first | (simp [*]; done) | split); done
        clear_value x
      | have hx : Keeps s x.2 := by simp only [x]; (repeat' first | (simp [*]; done) | split); done
        clear_value x
      | clear_value x
    | simp [*]; done
    | rename_i h; obtain rfl := congrArg Prod.snd h; simp; done
    | split

@[simp] theorem Chip.drpToggle_keeps (s : Chip) (c : Nat) : Keeps s (Chip.drpToggle s c) := by unfold Chip.drpToggle; (repeat' split) <;> simp

@[simp] theorem Chip.vbusRemoval_keeps (s : Chip) (c : Nat) : Keeps s (Chip.vbusRemoval s c) := by simp [Chip.vbusRemoval]

@[simp] theorem Chip.pdReceive_keeps (s : Chip) (c sop : Nat) (b : List (BitVec 8)) : Keeps s (Chip.pdReceive s c sop b) := by
  unfold Chip.pdReceive
  repeat' first
    | (try lift_lets); intro x
      first
      | have hx : Keeps s x := by simp only [x]; (repeat' first | (simp [*]; done) | split); done
        clear_value x
      | have hx : Keeps s x.2 := by simp only [x]; (repeat' first | (simp [*]; done) | split); done
        clear_value x
      | clear_value x
    | simp [*]; done
    | split

@[simp] theorem Chip.sinkTxWaitEnd_keeps (s : Chip) (c : Nat) : Keeps s (Chip.sinkTxWaitEnd s c) := by simp [Chip.sinkTxWaitEnd]

@[simp] theorem Chip.crcTimeout_keeps (s : Chip) (c : Nat) : Keeps s (Chip.crcTimeout s c) := by
  unfold Chip.crcTimeout
  repeat' first
    | (try lift_lets); intro x
      first
      | have hx : Keeps s x := by simp only [x]; (repeat' first | (simp [*]; done) | split); done
        clear_value x
      | have hx : Keeps s x.2 := by simp only [x]; (repeat' first | (simp [*]; done) | split); done
        clear_value x
      | clear_value x
    | simp [*]; done
    | split

@[simp] theorem Chip.txComplete_keeps (s : Chip) (c : Nat) : Keeps s (Chip.txComplete s c) := by
  unfold Chip.txComplete
  repeat' first
    | (try lift_lets); intro x
      first
      | have hx : Keeps s x := by simp only [x]; (repeat' first | (simp [*]; done) | split); done
        clear_value x
      | have hx : Keeps s x.2 := by simp only [x]; (repeat' first | (simp [*]; done) | split); done
        clear_value x
      | clear_value x
    | simp [*]; done
    | split

@[simp] theorem Chip.hrReceive_keeps (s : Chip) (c : Nat) : Keeps s (Chip.hrReceive s c) := by simp [Chip.hrReceive]

@[simp] theorem Chip.hrEnd_keeps (s : Chip) (c : Nat) : Keeps s (Chip.hrEnd s c) := by
  unfold Chip.hrEnd
  repeat' first
    | (try lift_lets); intro x
      first
      | have hx : Keeps s x := by simp only [x]; (repeat' first | (simp [*]; done) | split); done
        clear_value x
      | have hx : Keeps s x.2 := by simp only [x]; (repeat' first | (simp [*]; done) | split); done
        clear_value x
      | clear_value x
    | simp [*]; done
    | split

@[simp] theorem Chip.psHrExpire_keeps (s : Chip) (c : Nat) : Keeps s (Chip.psHrExpire s c) := by
  unfold Chip.psHrExpire
  repeat' first
    | (try lift_lets); intro x
      first
      | have hx : Keeps s x := by simp only [x]; (repeat' first | (simp [*]; done) | split); done
        clear_value x
      | have hx : Keeps s x.2 := by simp only [x]; (repeat' first | (simp [*]; done) | split); done
        clear_value x
      | clear_value x
    | simp [*]; done
    | split

@[simp] theorem Chip.srcRecover_keeps (s : Chip) (c : Nat) : Keeps s (Chip.srcRecover s c) := by
  unfold Chip.srcRecover
  repeat' first
    | (try lift_lets); intro x
      first
      | have hx : Keeps s x := by simp only [x]; (repeat' first | (simp [*]; done) | split); done
        clear_value x
      | have hx : Keeps s x.2 := by simp only [x]; (repeat' first | (simp [*]; done) | split); done
        clear_value x
      | clear_value x
    | simp [*]; done
    | split

@[simp] theorem Chip.sinkHrExpire_keeps (s : Chip) (c : Nat) : Keeps s (Chip.sinkHrExpire s c) := by simp [Chip.sinkHrExpire]

@[simp] theorem Chip.cuffTick_keeps (s : Chip) : Keeps s (Chip.cuffTick s) := by
  unfold Chip.cuffTick
  repeat' first
    | (try lift_lets); intro x
      first
      | have hx : Keeps s x := by simp only [x]; (repeat' first | with_reducible refine Keeps.each (fun s _ => ?_) ?_ | (simp [*]; done) | split | dsimp only); done
        clear_value x
      | have hx : Keeps s x.2 := by simp only [x]; (repeat' first | with_reducible refine Keeps.each (fun s _ => ?_) ?_ | (simp [*]; done) | split | dsimp only); done
        clear_value x
      | clear_value x
    | with_reducible refine Keeps.each (fun s _ => ?_) ?_
    | simp [*]; done
    | split
    | dsimp only

@[simp] theorem Chip.vsetStep_keeps (s : Chip) (c : Nat) : Keeps s (Chip.vsetStep s c) := by
  unfold Chip.vsetStep
  repeat' first
    | (try lift_lets); intro x
      first
      | have hx : Keeps s x := by simp only [x]; (repeat' first | (simp [*]; done) | split); done
        clear_value x
      | have hx : Keeps s x.2 := by simp only [x]; (repeat' first | (simp [*]; done) | split); done
        clear_value x
      | clear_value x
    | simp [*]; done
    | split

@[simp] theorem Chip.ppsStep_keeps (s : Chip) (c mA : Nat) : Keeps s (Chip.ppsStep s c mA) := by
  unfold Chip.ppsStep
  repeat' first
    | (try lift_lets); intro x
      first
      | have hx : Keeps s x := by simp only [x]; (repeat' first | (simp [*]; done) | split); done
        clear_value x
      | have hx : Keeps s x.2 := by simp only [x]; (repeat' first | (simp [*]; done) | split); done
        clear_value x
      | clear_value x
    | simp [*]; done
    | split

@[simp] theorem Chip.swapTimeout_keeps (s : Chip) (c : Nat) : Keeps s (Chip.swapTimeout s c) := by
  unfold Chip.swapTimeout
  repeat' first
    | (try lift_lets); intro x
      first
      | have hx : Keeps s x := by simp only [x]; (repeat' first | (simp [*]; done) | split); done
        clear_value x
      | have hx : Keeps s x.2 := by simp only [x]; (repeat' first | (simp [*]; done) | split); done
        clear_value x
      | clear_value x
    | simp [*]; done
    | split

@[simp] theorem Chip.frsTrigger_keeps (s : Chip) : Keeps s (Chip.frsTrigger s) := by
  unfold Chip.frsTrigger
  repeat' first
    | (try lift_lets); intro x
      first
      | have hx : Keeps s x := by simp only [x]; (repeat' first | with_reducible refine Keeps.each (fun s _ => ?_) ?_ | (simp [*]; done) | split | dsimp only); done
        clear_value x
      | have hx : Keeps s x.2 := by simp only [x]; (repeat' first | with_reducible refine Keeps.each (fun s _ => ?_) ?_ | (simp [*]; done) | split | dsimp only); done
        clear_value x
      | clear_value x
    | with_reducible refine Keeps.each (fun s _ => ?_) ?_
    | simp [*]; done
    | split
    | dsimp only

@[simp] theorem Chip.frsSignalEnd_keeps (s : Chip) (c : Nat) : Keeps s (Chip.frsSignalEnd s c) := by simp [Chip.frsSignalEnd]

@[simp] theorem Chip.handover_keeps (s : Chip) (c to_ : Nat) : Keeps s (Chip.handover s c to_) := by
  unfold Chip.handover
  repeat' first
    | (try lift_lets); intro x
      first
      | have hx : Keeps s x := by simp only [x]; (repeat' first | (simp [*]; done) | split); done
        clear_value x
      | have hx : Keeps s x.2 := by simp only [x]; (repeat' first | (simp [*]; done) | split); done
        clear_value x
      | clear_value x
    | simp [*]; done
    | split

@[simp] theorem Chip.policyHandover_keeps (s : Chip) (c : Nat) : Keeps s (Chip.policyHandover s c) := by simp [Chip.policyHandover]

@[simp] theorem Chip.policyToFirmware_keeps (s : Chip) (c : Nat) : Keeps s (Chip.policyToFirmware s c) := by
  unfold Chip.policyToFirmware
  repeat' first
    | (try lift_lets); intro x
      first
      | have hx : Keeps s x := by simp only [x]; (repeat' first | (simp [*]; done) | split); done
        clear_value x
      | have hx : Keeps s x.2 := by simp only [x]; (repeat' first | (simp [*]; done) | split); done
        clear_value x
      | clear_value x
    | simp [*]; done
    | split

@[simp] theorem Chip.cuffWdog_keeps (s : Chip) (c : Nat) : Keeps s (Chip.cuffWdog s c) := by
  unfold Chip.cuffWdog
  repeat' first
    | (try lift_lets); intro x
      first
      | have hx : Keeps s x := by simp only [x]; (repeat' first | (simp [*]; done) | split); done
        clear_value x
      | have hx : Keeps s x.2 := by simp only [x]; (repeat' first | (simp [*]; done) | split); done
        clear_value x
      | clear_value x
    | simp [*]; done
    | split

@[simp] theorem Chip.cuffFault_keeps (s : Chip) (c code : Nat) : Keeps s (Chip.cuffFault s c code) := by
  unfold Chip.cuffFault
  repeat' first
    | (try lift_lets); intro x
      first
      | have hx : Keeps s x := by simp only [x]; (repeat' first | (simp [*]; done) | split); done
        clear_value x
      | have hx : Keeps s x.2 := by simp only [x]; (repeat' first | (simp [*]; done) | split); done
        clear_value x
      | clear_value x
    | simp [*]; done
    | rename_i h; obtain rfl := congrArg Prod.snd h; simp; done
    | split

@[simp] theorem Chip.switchStuck_keeps (s : Chip) (ch : Nat) : Keeps s (Chip.switchStuck s ch) := by simp [Chip.switchStuck]

@[simp] theorem Chip.seamKeepalive_keeps (s : Chip) : Keeps s (Chip.seamKeepalive s) := by simp [Chip.seamKeepalive]

@[simp] theorem Chip.lossLearn_keeps (s : Chip) : Keeps s (Chip.lossLearn s) := by simp [Chip.lossLearn]

@[simp] theorem Chip.lossReported_keeps (s : Chip) : Keeps s (Chip.lossReported s) := by
  unfold Chip.lossReported
  repeat' first
    | (try lift_lets); intro x
      first
      | have hx : Keeps s x := by simp only [x]; (repeat' first | (simp [*]; done) | split); done
        clear_value x
      | have hx : Keeps s x.2 := by simp only [x]; (repeat' first | (simp [*]; done) | split); done
        clear_value x
      | clear_value x
    | simp [*]; done
    | split

@[simp] theorem Chip.seamLossKnown_keeps (s : Chip) : Keeps s (Chip.seamLossKnown s) := by simp [Chip.seamLossKnown]

@[simp] theorem Chip.dropPolls_keeps (s : Chip) (w : Nat) : Keeps s (Chip.dropPolls s w) := by
  unfold Chip.dropPolls
  repeat' first
    | (try lift_lets); intro x
      first
      | have hx : Keeps s x := by simp only [x]; (repeat' first | with_reducible refine Keeps.each (fun s _ => ?_) ?_ | (simp [*]; done) | split | dsimp only); done
        clear_value x
      | have hx : Keeps s x.2 := by simp only [x]; (repeat' first | with_reducible refine Keeps.each (fun s _ => ?_) ?_ | (simp [*]; done) | split | dsimp only); done
        clear_value x
      | clear_value x
    | with_reducible refine Keeps.each (fun s _ => ?_) ?_
    | simp [*]; done
    | split
    | dsimp only

@[simp] theorem Chip.wideGone_keeps (s : Chip) (w : Nat) : Keeps s (Chip.wideGone s w) := by
  unfold Chip.wideGone
  repeat' first
    | (try lift_lets); intro x
      first
      | have hx : Keeps s x := by simp only [x]; (repeat' first | (simp [*]; done) | split); done
        clear_value x
      | have hx : Keeps s x.2 := by simp only [x]; (repeat' first | (simp [*]; done) | split); done
        clear_value x
      | clear_value x
    | simp [*]; done
    | split

@[simp] theorem Chip.wideDrop_keeps (s : Chip) (w : Nat) (t : WTx) : Keeps s (Chip.wideDrop s w t) := by simp [Chip.wideDrop]

@[simp] theorem Chip.upRecord_keeps (s : Chip) (w : Nat) (r : WRec) : Keeps s (Chip.upRecord s w r) := by
  unfold Chip.upRecord
  repeat' first
    | (try lift_lets); intro x
      first
      | have hx : Keeps s x := by simp only [x]; (repeat' first | (simp [*]; done) | split); done
        clear_value x
      | have hx : Keeps s x.2 := by simp only [x]; (repeat' first | (simp [*]; done) | split); done
        clear_value x
      | clear_value x
    | simp [*]; done
    | rename_i h; obtain rfl := congrArg Prod.snd h; simp; done
    | split

@[simp] theorem Chip.tunnelReturn_keeps (s : Chip) (w cyc : Nat) (good acted refused : Bool) (payload : List (BitVec 8)) :
    Keeps s (s.tunnelReturn w cyc good acted refused payload) := by
  have key : ∀ t : Chip, Keeps s t → Keeps s t.wideCount := fun t h => by simpa using h
  unfold Chip.tunnelReturn
  split
  · simp only [Chip.add_mem, Chip.add_nor, Keeps, and_self]
  · split
    · dsimp only; split <;> simp
    · split
      · simp
      · exact key _ (Keeps.each (fun s r => by split <;> simp) (by simp))

@[simp] theorem Chip.frameLost_keeps (s : Chip) (f : SentFrame) : Keeps s (Chip.frameLost s f) := by
  unfold Chip.frameLost
  repeat' first
    | (try lift_lets); intro x
      first
      | have hx : Keeps s x := by simp only [x]; (repeat' first | with_reducible refine Keeps.each (fun s _ => ?_) ?_ | (simp [*]; done) | split | dsimp only); done
        clear_value x
      | have hx : Keeps s x.2 := by simp only [x]; (repeat' first | with_reducible refine Keeps.each (fun s _ => ?_) ?_ | (simp [*]; done) | split | dsimp only); done
        clear_value x
      | clear_value x
    | with_reducible refine Keeps.each (fun s _ => ?_) ?_
    | simp [*]; done
    | rename_i h; obtain rfl := congrArg Prod.snd h; simp; done
    | split
    | dsimp only

@[simp] theorem Chip.retShow_keeps (s : Chip) (n : Nat) : Keeps s (Chip.retShow s n) := by simp [Chip.retShow]

@[simp] theorem Chip.retClose_keeps (s : Chip) : Keeps s (Chip.retClose s) := by
  unfold Chip.retClose
  repeat' first
    | (try lift_lets); intro x
      first
      | have hx : Keeps s x := by simp only [x]; (repeat' first | with_reducible refine Keeps.each (fun s _ => ?_) ?_ | with_reducible refine Keeps.foldl (fun s _ => ?_) ?_ | (simp [*]; done) | split | dsimp only); done
        clear_value x
      | have hx : Keeps s x.2 := by simp only [x]; (repeat' first | with_reducible refine Keeps.each (fun s _ => ?_) ?_ | with_reducible refine Keeps.foldl (fun s _ => ?_) ?_ | (simp [*]; done) | split | dsimp only); done
        clear_value x
      | clear_value x
    | with_reducible refine Keeps.each (fun s _ => ?_) ?_
    | with_reducible refine Keeps.foldl (fun s _ => ?_) ?_
    | simp [*]; done
    | split
    | dsimp only

@[simp] theorem Chip.nextMark_keeps (s : Chip) : Keeps s (Chip.nextMark s) := by
  unfold Chip.nextMark
  repeat' first
    | (try lift_lets); intro x
      first
      | have hx : Keeps s x := by simp only [x]; (repeat' first | (simp [*]; done) | split); done
        clear_value x
      | have hx : Keeps s x.2 := by simp only [x]; (repeat' first | (simp [*]; done) | split); done
        clear_value x
      | clear_value x
    | simp [*]; done
    | split

@[simp] theorem Chip.firstMark_keeps (s : Chip) : Keeps s (Chip.firstMark s) := by
  unfold Chip.firstMark
  repeat' first
    | (try lift_lets); intro x
      first
      | have hx : Keeps s x := by simp only [x]; (repeat' first | (simp [*]; done) | split); done
        clear_value x
      | have hx : Keeps s x.2 := by simp only [x]; (repeat' first | (simp [*]; done) | split); done
        clear_value x
      | clear_value x
    | simp [*]; done
    | split

@[simp] theorem Chip.sendMark_keeps (s : Chip) : Keeps s (Chip.sendMark s) := by
  unfold Chip.sendMark
  repeat' first
    | (try lift_lets); intro x
      first
      | have hx : Keeps s x := by simp only [x]; (repeat' first | (simp [*]; done) | split); done
        clear_value x
      | have hx : Keeps s x.2 := by simp only [x]; (repeat' first | (simp [*]; done) | split); done
        clear_value x
      | clear_value x
    | simp [*]; done
    | split

@[simp] theorem Chip.sleepDecide_keeps (s : Chip) (n : Nat) : Keeps s (Chip.sleepDecide s n).2 := by
  unfold Chip.sleepDecide
  repeat' first
    | (try lift_lets); intro x
      first
      | have hx : Keeps s x := by simp only [x]; (repeat' first | (simp [*]; done) | split); done
        clear_value x
      | have hx : Keeps s x.2 := by simp only [x]; (repeat' first | (simp [*]; done) | split); done
        clear_value x
      | clear_value x
    | simp [*]; done
    | rename_i h; obtain rfl := congrArg Prod.snd h; simp; done
    | split

@[simp] theorem Chip.slpPass_keeps (s : Chip) (p : Nat) (body : List (BitVec 8)) : Keeps s (Chip.slpPass s p body) := by
  unfold Chip.slpPass
  repeat' first
    | (try lift_lets); intro x
      first
      | have hx : Keeps s x := by simp only [x]; (repeat' first | (simp [*]; done) | split); done
        clear_value x
      | have hx : Keeps s x.2 := by simp only [x]; (repeat' first | (simp [*]; done) | split); done
        clear_value x
      | clear_value x
    | simp [*]; done
    | split

@[simp] theorem Chip.slpLeaves_keeps (s : Chip) : Keeps s (Chip.slpLeaves s) := by
  unfold Chip.slpLeaves
  repeat' first
    | (try lift_lets); intro x
      first
      | have hx : Keeps s x := by simp only [x]; (repeat' first | (simp [*]; done) | split); done
        clear_value x
      | have hx : Keeps s x.2 := by simp only [x]; (repeat' first | (simp [*]; done) | split); done
        clear_value x
      | clear_value x
    | simp [*]; done
    | rename_i h; obtain rfl := congrArg Prod.snd h; simp; done
    | split

@[simp] theorem Chip.cycLeaves_keeps (s : Chip) : Keeps s (Chip.cycLeaves s) := by
  unfold Chip.cycLeaves
  repeat' first
    | (try lift_lets); intro x
      first
      | have hx : Keeps s x := by simp only [x]; (repeat' first | (simp [*]; done) | split); done
        clear_value x
      | have hx : Keeps s x.2 := by simp only [x]; (repeat' first | (simp [*]; done) | split); done
        clear_value x
      | clear_value x
    | simp [*]; done
    | rename_i h; obtain rfl := congrArg Prod.snd h; simp; done
    | split

@[simp] theorem Chip.sofStep_keeps (s : Chip) : Keeps s (Chip.sofStep s) := by
  unfold Chip.sofStep
  repeat' first
    | (try lift_lets); intro x
      first
      | have hx : Keeps s x := by simp only [x]; (repeat' first | (simp [*]; done) | split); done
        clear_value x
      | have hx : Keeps s x.2 := by simp only [x]; (repeat' first | (simp [*]; done) | split); done
        clear_value x
      | clear_value x
    | simp [*]; done
    | split

@[simp] theorem Chip.armNow_keeps (s : Chip) (mask target : Nat) (held : Bool) : Keeps s (Chip.armNow s mask target held) := by simp [Chip.armNow]

@[simp] theorem Chip.headArm_keeps (s : Chip) (n : Nat) : Keeps s (Chip.headArm s n) := by
  unfold Chip.headArm
  repeat' first
    | (try lift_lets); intro x
      first
      | have hx : Keeps s x := by simp only [x]; (repeat' first | (simp [*]; done) | split); done
        clear_value x
      | have hx : Keeps s x.2 := by simp only [x]; (repeat' first | (simp [*]; done) | split); done
        clear_value x
      | clear_value x
    | simp [*]; done
    | rename_i h; obtain rfl := congrArg Prod.snd h; simp; done
    | split

@[simp] theorem Chip.armAccept_keeps (s : Chip) : Keeps s (Chip.armAccept s) := by
  unfold Chip.armAccept
  repeat' first
    | (try lift_lets); intro x
      first
      | have hx : Keeps s x := by simp only [x]; (repeat' first | (simp [*]; done) | split); done
        clear_value x
      | have hx : Keeps s x.2 := by simp only [x]; (repeat' first | (simp [*]; done) | split); done
        clear_value x
      | clear_value x
    | simp [*]; done
    | split

@[simp] theorem Chip.headPour_keeps (s : Chip) : Keeps s (Chip.headPour s) := by simp [Chip.headPour]

@[simp] theorem Chip.headWithdraw_keeps (s : Chip) : Keeps s (Chip.headWithdraw s) := by simp [Chip.headWithdraw]

/-- What the head does at each slot of a list keeps both memories. -/
def SlotsKeep (l : List HeadSlot) : Prop := ∀ x ∈ l, ∀ c, Keeps c (x.2 c)

theorem SlotsKeep.withFirst {f : Chip → Chip} {l : List HeadSlot} (hf : ∀ c, Keeps c (f c)) (h : SlotsKeep l) : SlotsKeep (withFirst f l) := by
  cases l with
  | nil => exact h
  | cons x t =>
    intro y hy
    rcases List.mem_cons.1 hy with rfl | hy
    · exact hf
    · exact h y (List.mem_cons_of_mem _ hy)

theorem SlotsKeep.append {a b : List HeadSlot} (h : SlotsKeep a) (k : SlotsKeep b) : SlotsKeep (a ++ b) := by
  intro x hx
  rcases List.mem_append.1 hx with hx | hx
  · exact h x hx
  · exact k x hx

theorem SlotsKeep.map {α : Type} {f : α → HeadSlot} {l : List α} (h : ∀ x c, Keeps c ((f x).2 c)) : SlotsKeep (l.map f) := by
  intro x hx
  obtain ⟨y, _, rfl⟩ := List.mem_map.1 hx
  exact h y

theorem SlotsKeep.nil : SlotsKeep [] := fun _ h => absurd h List.not_mem_nil

/-- Every group of slots keeps both memories. -/
def GroupsKeep (l : List SlotGroup) : Prop := ∀ g ∈ l, SlotsKeep g

theorem GroupsKeep.nil : GroupsKeep [] := fun _ h => absurd h List.not_mem_nil

theorem GroupsKeep.cons {g : SlotGroup} {l : List SlotGroup} (h : SlotsKeep g) (k : GroupsKeep l) : GroupsKeep (g :: l) := by
  intro y hy
  rcases List.mem_cons.1 hy with rfl | hy
  · exact h
  · exact k y hy

theorem GroupsKeep.append {a b : List SlotGroup} (h : GroupsKeep a) (k : GroupsKeep b) : GroupsKeep (a ++ b) := by
  intro x hx
  rcases List.mem_append.1 hx with hx | hx
  · exact h x hx
  · exact k x hx

theorem GroupsKeep.map {α : Type} {f : α → SlotGroup} {l : List α} (h : ∀ x, SlotsKeep (f x)) : GroupsKeep (l.map f) := by
  intro x hx
  obtain ⟨y, _, rfl⟩ := List.mem_map.1 hx
  exact h y

/-- A group whose slots have no further effect at their sending. -/
theorem SlotsKeep.plain (use : SlotUse) (op addr target : Nat) (p : List (BitVec 8)) : ∀ c, Keeps c ((plainSlot use op addr target p).2 c) :=
  fun _ => ⟨rfl, rfl⟩

theorem SlotsKeep.one {x : HeadSlot} (h : ∀ c, Keeps c (x.2 c)) : SlotsKeep [x] := by
  intro y hy
  rw [List.mem_singleton.1 hy]
  exact h

theorem SlotsKeep.fit (fits : Nat → Bool) (n : Nat) {l : List SlotGroup} (h : GroupsKeep l) : SlotsKeep (fitGroups fits n l).1 := by
  induction l generalizing n with
  | nil => exact SlotsKeep.nil
  | cons x t ih =>
    simp only [fitGroups]
    split
    · exact SlotsKeep.append (h _ List.mem_cons_self) (ih _ (fun z hz => h z (List.mem_cons_of_mem _ hz)))
    · exact SlotsKeep.nil

theorem Chip.toAll_keep (s : Chip) (use : SlotUse) (op target : Nat) (p : List (BitVec 8)) {f : Chip → Chip} (h : ∀ c, Keeps c (f c)) :
    SlotsKeep (s.toAll use op target p f) :=
  SlotsKeep.withFirst h (SlotsKeep.map fun _ _ => ⟨rfl, rfl⟩)

theorem Chip.pourSlots_keep (s : Chip) (n : Nat) : SlotsKeep (s.pourSlots n) := by
  have hm : ∀ (u : SlotUse) (op fl : Nat) (p : List (BitVec 8)),
      SlotsKeep (s.rings.map (fun r => ((⟨u, op, fl, s.arm.station + 1024 * r, 0, p⟩, id) : HeadSlot))) :=
    fun _ _ _ _ => SlotsKeep.map fun _ _ => ⟨rfl, rfl⟩
  unfold Chip.pourSlots
  dsimp only
  split
  · exact SlotsKeep.withFirst (fun _ => by simp) (hm _ _ _ _)
  · split
    · split <;> exact SlotsKeep.withFirst (fun _ => by simp) (hm _ _ _ _)
    · exact SlotsKeep.nil

theorem Chip.sleepSlots_keep (s : Chip) (n : Nat) : GroupsKeep (s.sleepSlots n) := by
  have hc : GroupsKeep (if s.chain.sleepZero then
      [s.toAll .cancel opStWr sleepPropReg (natBytes 4 0) (fun c => { c with chain := { c.chain with sleepZero := false } })] else []) := by
    split
    · exact GroupsKeep.cons (Chip.toAll_keep _ _ _ _ _ fun _ => ⟨rfl, rfl⟩) GroupsKeep.nil
    · exact GroupsKeep.nil
  unfold Chip.sleepSlots
  dsimp only
  split
  · exact hc
  · refine GroupsKeep.append hc (GroupsKeep.cons ?_ GroupsKeep.nil)
    split <;> exact Chip.toAll_keep _ _ _ _ _ fun _ => ⟨rfl, rfl⟩

theorem Chip.delaySlotsA_keep (s : Chip) (n : Nat) : SlotsKeep (s.delaySlotsA n) := by
  refine SlotsKeep.withFirst (fun _ => ⟨rfl, rfl⟩) ?_
  intro x hx
  obtain ⟨r, _, hr⟩ := List.mem_filterMap.1 hx
  obtain ⟨a, _, rfl⟩ := Option.map_eq_some_iff.1 hr
  exact fun _ => ⟨rfl, rfl⟩

theorem Chip.delaySlotsB_keep (s : Chip) : SlotsKeep s.delaySlotsB := by
  refine SlotsKeep.withFirst (fun _ => ⟨rfl, rfl⟩) ?_
  intro x hx
  obtain ⟨r, _, hr⟩ := List.mem_filterMap.1 hx
  split at hr
  · cases hr
  · cases hr
  · cases hr; exact fun _ => ⟨rfl, rfl⟩

theorem Chip.bridgeSlots_keep (s : Chip) : GroupsKeep s.bridgeSlots :=
  GroupsKeep.map fun _ => SlotsKeep.map fun _ _ => ⟨rfl, rfl⟩

theorem Chip.delaySlots_keep (s : Chip) (n : Nat) : GroupsKeep (s.delaySlots n) := by
  have one : ∀ {g : SlotGroup}, SlotsKeep g → GroupsKeep [g] := fun h => GroupsKeep.cons h GroupsKeep.nil
  have p1 : ∀ (u : SlotUse) (a b c : Nat) (p : List (BitVec 8)), SlotsKeep [plainSlot u a b c p] :=
    fun _ _ _ _ _ => SlotsKeep.one fun _ => ⟨rfl, rfl⟩
  have hs : GroupsKeep [s.toAll .stat opBcOr 0x01040000 (natBytes 4 0) id] := one (Chip.toAll_keep _ _ _ _ _ fun _ => ⟨rfl, rfl⟩)
  have hq : GroupsKeep (match s.chain.q with
    | some v => [s.toAll .revQ opStWr 0x01040070 (natBytes 4 v) (fun c => { c with chain := { c.chain with q := none } })]
    | none => []) := by
    split
    · exact one (Chip.toAll_keep _ _ _ _ _ fun _ => ⟨rfl, rfl⟩)
    · exact GroupsKeep.nil
  unfold Chip.delaySlots
  refine GroupsKeep.append (GroupsKeep.append (GroupsKeep.append (GroupsKeep.append ?_ hq) (Chip.bridgeSlots_keep s)) ?_) hs
  · split
    · exact one (SlotsKeep.append (p1 _ _ _ _ _) (p1 _ _ _ _ _))
    · exact GroupsKeep.nil
  · split
    · exact one (Chip.delaySlotsB_keep s)
    · generalize (s.chain.dlyWant && _) = due
      split
      · exact one (Chip.delaySlotsA_keep s n)
      · exact GroupsKeep.nil

theorem Chip.enumSlots_keep (s : Chip) : GroupsKeep s.enumSlots := by
  have p1 : ∀ (u : SlotUse) (a b c : Nat) (p : List (BitVec 8)), SlotsKeep [plainSlot u a b c p] :=
    fun _ _ _ _ _ => SlotsKeep.one fun _ => ⟨rfl, rfl⟩
  unfold Chip.enumSlots
  split
  · exact GroupsKeep.nil
  · refine GroupsKeep.append (GroupsKeep.map fun _ => p1 _ _ _ _ _) ?_
    intro x hx
    obtain ⟨r, _, hr⟩ := List.mem_flatMap.1 hx
    obtain ⟨h, _, rfl⟩ := List.mem_map.1 hr
    exact p1 _ _ _ _ _

theorem Chip.ckptSlots_keep (s : Chip) : GroupsKeep s.ckptSlots := by
  unfold Chip.ckptSlots
  split
  · exact GroupsKeep.nil
  · exact GroupsKeep.map fun _ => SlotsKeep.one fun _ => ⟨rfl, rfl⟩

theorem Chip.houseSlots_keep (s : Chip) (n : Nat) : GroupsKeep (s.houseSlots n) := by
  intro g hg
  refine GroupsKeep.cons (Chip.pourSlots_keep s n) ?_ g (List.mem_filter.1 hg).1
  exact (((Chip.sleepSlots_keep s n).append (Chip.delaySlots_keep s n)).append (Chip.enumSlots_keep s)).append (Chip.ckptSlots_keep s)

theorem Keeps.slots {l : List HeadSlot} {s0 s : Chip} (h : SlotsKeep l) (h0 : Keeps s0 s) : Keeps s0 (s.each l (fun s x => x.2 s)) := by
  unfold Chip.each
  induction l generalizing s with
  | nil => exact h0
  | cons x t ih =>
    exact ih (fun y hy => h y (List.mem_cons_of_mem _ hy)) (Keeps.trans h0 (h x List.mem_cons_self s))

@[simp] theorem Chip.houseFrame_keeps (s : Chip) (n : Nat) : Keeps s (s.houseFrame n).2 := by
  have key : ∀ (t : Chip) (f : Fld) (b : Bool), Keeps s t → Keeps s (t.putB f b) := fun _ _ _ h => by simpa using h
  unfold Chip.houseFrame
  dsimp only
  split
  · exact key _ _ _ ⟨rfl, rfl⟩
  · exact key _ _ _ (Keeps.slots (SlotsKeep.fit _ _ (Chip.houseSlots_keep s n)) ⟨rfl, rfl⟩)

@[simp] theorem Chip.wideOverload_keeps (s : Chip) : Keeps s (Chip.wideOverload s) := by
  unfold Chip.wideOverload
  repeat' first
    | (try lift_lets); intro x
      first
      | have hx : Keeps s x := by simp only [x]; (repeat' first | (simp [*]; done) | split); done
        clear_value x
      | have hx : Keeps s x.2 := by simp only [x]; (repeat' first | (simp [*]; done) | split); done
        clear_value x
      | clear_value x
    | simp [*]; done
    | split

theorem Chip.portSlot_keeps (s : Chip) (w cyc room : Nat) {r : List (BitVec 8) × Chip} (h : s.portSlot w cyc room = some r) : Keeps s r.2 := by
  unfold Chip.portSlot at h
  extract_lets x due outs fresh resend down up full down' dseq sentNp held s1 s2 at h
  have h1 : Keeps s s1 := by simp [s1]
  have h2 : Keeps s s2 := by simp only [s2]; split <;> simpa using h1
  clear_value s2
  split at h
  · cases h
  · split at h
    · cases h
    · cases h; exact h2

@[simp] theorem Chip.tunnelFill_keeps (s : Chip) (n : Nat) (grants : List Nat) (fuel : Nat) (is ws : List Nat) (used : Nat) (acc : List SentSlot) :
    Keeps s (s.tunnelFill n grants fuel is ws used acc).2 := by
  induction fuel generalizing s is ws used acc with
  | zero => simp [Chip.tunnelFill]
  | succ fuel ih =>
    match is, ws with
    | [], _ => simp [Chip.tunnelFill]
    | _ :: _, [] => simp [Chip.tunnelFill]
    | i :: t, w :: ws =>
      simp only [Chip.tunnelFill]
      split
      · rename_i h
        simp only [Option.map_eq_some_iff] at h
        obtain ⟨r, hr, h⟩ := h
        have := Chip.portSlot_keeps _ _ _ _ hr
        cases h
        exact Keeps.trans this (ih _ _ _ _ _)
      · rename_i h
        simp only [Option.map_eq_some_iff] at h
        obtain ⟨r, hr, h⟩ := h
        have := Chip.portSlot_keeps _ _ _ _ hr
        cases h
        exact Keeps.trans this (ih _ _ _ _ _)
      · exact ih _ _ _ _ _

@[simp] theorem Chip.tunnelFrames_keeps (s : Chip) (n : Nat) : Keeps s (s.tunnelFrames n).2 := by
  unfold Chip.tunnelFrames
  split
  · simp
  · have key : ∀ (t : Chip) (w : Nat), Keeps s t → Keeps s { t with wide := { t.wide with turn := w } } := fun _ _ h => h
    extract_lets s1 ports idx grants fresh s2 r turn
    have h1 : Keeps s s1 := Keeps.each (fun s w => by split <;> simp) ⟨rfl, rfl⟩
    have h2 : Keeps s s2 := by
      show Keeps s (if _ then _ else _)
      split
      · exact Keeps.trans h1 (by simp)
      · exact h1
    exact key _ _ (Keeps.trans h2 (Chip.tunnelFill_keeps _ _ _ _ _ _ _ _))

@[simp] theorem Chip.chCounts_keeps (s : Chip) (a : Nat × Nat) : Keeps s (Chip.chCounts s a) := by simp [Chip.chCounts]

@[simp] theorem Chip.pourReturn_keeps (s : Chip) (l : List (SentSlot × ReturnedSlot)) : Keeps s (Chip.pourReturn s l) := by
  unfold Chip.pourReturn
  repeat' first
    | (try lift_lets); intro x
      first
      | have hx : Keeps s x := by simp only [x]; (repeat' first | (simp [*]; done) | split); done
        clear_value x
      | have hx : Keeps s x.2 := by simp only [x]; (repeat' first | (simp [*]; done) | split); done
        clear_value x
      | clear_value x
    | simp [*]; done
    | rename_i h; obtain rfl := congrArg Prod.snd h; simp; done
    | split

@[simp] theorem Chip.qReturn_keeps (s : Chip) (l : List (SentSlot × ReturnedSlot)) : Keeps s (Chip.qReturn s l) := by
  unfold Chip.qReturn
  repeat' first
    | (try lift_lets); intro x
      first
      | have hx : Keeps s x := by simp only [x]; (repeat' first | (simp [*]; done) | split); done
        clear_value x
      | have hx : Keeps s x.2 := by simp only [x]; (repeat' first | (simp [*]; done) | split); done
        clear_value x
      | clear_value x
    | simp [*]; done
    | rename_i h; obtain rfl := congrArg Prod.snd h; simp; done
    | split

@[simp] theorem Chip.bridgeReturn_keeps (s : Chip) (l : List (SentSlot × ReturnedSlot)) (b : Nat × Nat) : Keeps s (Chip.bridgeReturn s l b) := by unfold Chip.bridgeReturn; (repeat' split) <;> simp

@[simp] theorem Chip.noteBridge_keeps (s : Chip) (ring st info3 : Nat) : Keeps s (Chip.noteBridge s ring st info3) := by
  unfold Chip.noteBridge
  repeat' first
    | (try lift_lets); intro x
      first
      | have hx : Keeps s x := by simp only [x]; (repeat' first | (simp [*]; done) | split); done
        clear_value x
      | have hx : Keeps s x.2 := by simp only [x]; (repeat' first | (simp [*]; done) | split); done
        clear_value x
      | clear_value x
    | simp [*]; done
    | split

@[simp] theorem Chip.setReserve_keeps (s : Chip) (st : Nat) : Keeps s (Chip.setReserve s st) := by simp [Chip.setReserve]

@[simp] theorem Chip.chunkReturn_keeps (s : Chip) (k : Nat) (x : ReturnedSlot) : Keeps s (Chip.chunkReturn s k x) := by
  unfold Chip.chunkReturn
  repeat' first
    | (try lift_lets); intro x
      first
      | have hx : Keeps s x := by simp only [x]; (repeat' first | (simp [*]; done) | split); done
        clear_value x
      | have hx : Keeps s x.2 := by simp only [x]; (repeat' first | (simp [*]; done) | split); done
        clear_value x
      | clear_value x
    | simp [*]; done
    | split

@[simp] theorem Chip.fieldPourApply_keeps (s : Chip) : Keeps s (Chip.fieldPourApply s) := by simp [Chip.fieldPourApply]

@[simp] theorem Chip.armedPour_keeps (s : Chip) : Keeps s (Chip.armedPour s) := by simp [Chip.armedPour]

@[simp] theorem Chip.pourLapse_keeps (s : Chip) : Keeps s (Chip.pourLapse s) := by simp [Chip.pourLapse]

@[simp] theorem Chip.railUp_keeps (s : Chip) (n : Nat) : Keeps s (Chip.railUp s n) := by simp [Chip.railUp]

@[simp] theorem Chip.keepPorRelease_keeps (s : Chip) : Keeps s (Chip.keepPorRelease s) := by simp [Chip.keepPorRelease]

@[simp] theorem Chip.railPgHigh_keeps (s : Chip) (n : Nat) : Keeps s (Chip.railPgHigh s n) := by
  unfold Chip.railPgHigh
  repeat' first
    | (try lift_lets); intro x
      first
      | have hx : Keeps s x := by simp only [x]; (repeat' first | (simp [*]; done) | split); done
        clear_value x
      | have hx : Keeps s x.2 := by simp only [x]; (repeat' first | (simp [*]; done) | split); done
        clear_value x
      | clear_value x
    | simp [*]; done
    | split

@[simp] theorem Chip.railEnableNext_keeps (s : Chip) : Keeps s (Chip.railEnableNext s) := by simp [Chip.railEnableNext]

@[simp] theorem Chip.railRetry_keeps (s : Chip) : Keeps s (Chip.railRetry s) := by simp [Chip.railRetry]

@[simp] theorem Chip.dropped_keeps (s : Chip) : Keeps s (Chip.dropped s) := by
  unfold Chip.dropped
  repeat' first
    | (try lift_lets); intro x
      first
      | have hx : Keeps s x := by simp only [x]; (repeat' first | (simp [*]; done) | split); done
        clear_value x
      | have hx : Keeps s x.2 := by simp only [x]; (repeat' first | (simp [*]; done) | split); done
        clear_value x
      | clear_value x
    | simp [*]; done
    | rename_i h; obtain rfl := congrArg Prod.snd h; simp; done
    | split

@[simp] theorem Chip.headListenEnd_keeps (s : Chip) : Keeps s (Chip.headListenEnd s) := by simp [Chip.headListenEnd]

@[simp] theorem Chip.wakeTimerExpire_keeps (s : Chip) : Keeps s (Chip.wakeTimerExpire s) := by simp [Chip.wakeTimerExpire]

@[simp] theorem Chip.standbyWake_keeps (s : Chip) : Keeps s (Chip.standbyWake s) := by
  unfold Chip.standbyWake
  repeat' first
    | (try lift_lets); intro x
      first
      | have hx : Keeps s x := by simp only [x]; (repeat' first | (simp [*]; done) | split); done
        clear_value x
      | have hx : Keeps s x.2 := by simp only [x]; (repeat' first | (simp [*]; done) | split); done
        clear_value x
      | clear_value x
    | simp [*]; done
    | split

@[simp] theorem Chip.codeGroups_keeps (s : Chip) (p n : Nat) : Keeps s (Chip.codeGroups s p n) := by
  unfold Chip.codeGroups
  repeat' first
    | (try lift_lets); intro x
      first
      | have hx : Keeps s x := by simp only [x]; (repeat' first | (simp [*]; done) | split); done
        clear_value x
      | have hx : Keeps s x.2 := by simp only [x]; (repeat' first | (simp [*]; done) | split); done
        clear_value x
      | clear_value x
    | simp [*]; done
    | rename_i h; obtain rfl := congrArg Prod.snd h; simp; done
    | split

@[simp] theorem Chip.codeBad_keeps (s : Chip) (p : Nat) : Keeps s (Chip.codeBad s p) := by
  unfold Chip.codeBad
  repeat' first
    | (try lift_lets); intro x
      first
      | have hx : Keeps s x := by simp only [x]; (repeat' first | (simp [*]; done) | split); done
        clear_value x
      | have hx : Keeps s x.2 := by simp only [x]; (repeat' first | (simp [*]; done) | split); done
        clear_value x
      | clear_value x
    | simp [*]; done
    | rename_i h; obtain rfl := congrArg Prod.snd h; simp; done
    | split

@[simp] theorem Chip.almPass_keeps (s : Chip) (p : Nat) (body : List (BitVec 8)) : Keeps s (Chip.almPass s p body) := by
  unfold Chip.almPass
  repeat' first
    | (try lift_lets); intro x
      first
      | have hx : Keeps s x := by simp only [x]; (repeat' first | (simp [*]; done) | split); done
        clear_value x
      | have hx : Keeps s x.2 := by simp only [x]; (repeat' first | (simp [*]; done) | split); done
        clear_value x
      | clear_value x
    | simp [*]; done
    | rename_i h; obtain rfl := congrArg Prod.snd h; simp; done
    | split

@[simp] theorem Chip.almTake_keeps (s : Chip) (p : Nat) (body : List (BitVec 8)) : Keeps s (Chip.almTake s p body) := by
  unfold Chip.almTake
  repeat' first
    | (try lift_lets); intro x
      first
      | have hx : Keeps s x := by simp only [x]; (repeat' first | (simp [*]; done) | split); done
        clear_value x
      | have hx : Keeps s x.2 := by simp only [x]; (repeat' first | (simp [*]; done) | split); done
        clear_value x
      | clear_value x
    | simp [*]; done
    | split

@[simp] theorem Chip.forgetBeyond_keeps (s : Chip) (ring p : Nat) : Keeps s (Chip.forgetBeyond s ring p) := by
  unfold Chip.forgetBeyond
  repeat' first
    | (try lift_lets); intro x
      first
      | have hx : Keeps s x := by simp only [x]; (repeat' first | (simp [*]; done) | split); done
        clear_value x
      | have hx : Keeps s x.2 := by simp only [x]; (repeat' first | (simp [*]; done) | split); done
        clear_value x
      | clear_value x
    | simp [*]; done
    | split

@[simp] theorem Chip.almSend_keeps (s : Chip) (p : Nat) : Keeps s (Chip.almSend s p) := by unfold Chip.almSend; (repeat' split) <;> simp

@[simp] theorem Chip.quietEnd_keeps (s : Chip) (p : Nat) : Keeps s (Chip.quietEnd s p) := by simp [Chip.quietEnd]

@[simp] theorem Chip.linkBegin_keeps (s : Chip) (p outRes retRes : Nat) : Keeps s (Chip.linkBegin s p outRes retRes) := by
  unfold Chip.linkBegin
  repeat' first
    | (try lift_lets); intro x
      first
      | have hx : Keeps s x := by simp only [x]; (repeat' first | (simp [*]; done) | split); done
        clear_value x
      | have hx : Keeps s x.2 := by simp only [x]; (repeat' first | (simp [*]; done) | split); done
        clear_value x
      | clear_value x
    | simp [*]; done
    | split

@[simp] theorem Chip.linkUp_keeps (s : Chip) (p outRes retRes : Nat) : Keeps s (Chip.linkUp s p outRes retRes) := by
  unfold Chip.linkUp
  repeat' first
    | (try lift_lets); intro x
      first
      | have hx : Keeps s x := by simp only [x]; (repeat' first | (simp [*]; done) | split); done
        clear_value x
      | have hx : Keeps s x.2 := by simp only [x]; (repeat' first | (simp [*]; done) | split); done
        clear_value x
      | clear_value x
    | simp [*]; done
    | split

@[simp] theorem Chip.renumber_keeps (s : Chip) (p : Nat) : Keeps s (Chip.renumber s p) := by
  unfold Chip.renumber
  repeat' first
    | (try lift_lets); intro x
      first
      | have hx : Keeps s x := by simp only [x]; (repeat' first | (simp [*]; done) | split); done
        clear_value x
      | have hx : Keeps s x.2 := by simp only [x]; (repeat' first | (simp [*]; done) | split); done
        clear_value x
      | clear_value x
    | simp [*]; done
    | split

@[simp] theorem Chip.laneGone_keeps (s : Chip) (p lane : Nat) : Keeps s (Chip.laneGone s p lane) := by
  unfold Chip.laneGone
  repeat' first
    | (try lift_lets); intro x
      first
      | have hx : Keeps s x := by simp only [x]; (repeat' first | (simp [*]; done) | split); done
        clear_value x
      | have hx : Keeps s x.2 := by simp only [x]; (repeat' first | (simp [*]; done) | split); done
        clear_value x
      | clear_value x
    | simp [*]; done
    | rename_i h; obtain rfl := congrArg Prod.snd h; simp; done
    | split

@[simp] theorem Chip.laneLoss_keeps (s : Chip) (p lane : Nat) : Keeps s (Chip.laneLoss s p lane) := by
  unfold Chip.laneLoss
  repeat' first
    | (try lift_lets); intro x
      first
      | have hx : Keeps s x := by simp only [x]; (repeat' first | (simp [*]; done) | split); done
        clear_value x
      | have hx : Keeps s x.2 := by simp only [x]; (repeat' first | (simp [*]; done) | split); done
        clear_value x
      | clear_value x
    | simp [*]; done
    | split

@[simp] theorem Chip.widthSwitch_keeps (s : Chip) (p : Nat) : Keeps s (Chip.widthSwitch s p) := by unfold Chip.widthSwitch; (repeat' split) <;> simp

@[simp] theorem Chip.requestReissue_keeps (s : Chip) (p : Nat) : Keeps s (Chip.requestReissue s p) := by simp [Chip.requestReissue]

@[simp] theorem Chip.hush_keeps (s : Chip) (p : Nat) : Keeps s (Chip.hush s p) := by
  unfold Chip.hush
  repeat' first
    | (try lift_lets); intro x
      first
      | have hx : Keeps s x := by simp only [x]; (repeat' first | (simp [*]; done) | split); done
        clear_value x
      | have hx : Keeps s x.2 := by simp only [x]; (repeat' first | (simp [*]; done) | split); done
        clear_value x
      | clear_value x
    | simp [*]; done
    | split

@[simp] theorem Chip.frameSent_keeps (s : Chip) (w : FwdFrame) : Keeps s (Chip.frameSent s w) := by
  unfold Chip.frameSent
  repeat' first
    | (try lift_lets); intro x
      first
      | have hx : Keeps s x := by simp only [x]; (repeat' first | (simp [*]; done) | split); done
        clear_value x
      | have hx : Keeps s x.2 := by simp only [x]; (repeat' first | (simp [*]; done) | split); done
        clear_value x
      | clear_value x
    | simp [*]; done
    | split

@[simp] theorem Chip.commitDelay_keeps (s : Chip) (acc l0 : Nat) : Keeps s (Chip.commitDelay s acc l0) := by simp [Chip.commitDelay]

@[simp] theorem Chip.orphan_keeps (s : Chip) (w : Nat) : Keeps s (Chip.orphan s w) := by
  unfold Chip.orphan
  repeat' first
    | (try lift_lets); intro x
      first
      | have hx : Keeps s x := by simp only [x]; (repeat' first | (simp [*]; done) | split); done
        clear_value x
      | have hx : Keeps s x.2 := by simp only [x]; (repeat' first | (simp [*]; done) | split); done
        clear_value x
      | clear_value x
    | simp [*]; done
    | split

@[simp] theorem Chip.tunnelCommit_keeps (s : Chip) (w dseq : Nat) (recs : List WRec) : Keeps s (Chip.tunnelCommit s w dseq recs) := by
  unfold Chip.tunnelCommit
  repeat' first
    | (try lift_lets); intro x
      first
      | have hx : Keeps s x := by simp only [x]; (repeat' first | with_reducible refine Keeps.each (fun s _ => ?_) ?_ | (simp [*]; done) | split | dsimp only); done
        clear_value x
      | have hx : Keeps s x.2 := by simp only [x]; (repeat' first | with_reducible refine Keeps.each (fun s _ => ?_) ?_ | (simp [*]; done) | split | dsimp only); done
        clear_value x
      | clear_value x
    | with_reducible refine Keeps.each (fun s _ => ?_) ?_
    | simp [*]; done
    | rename_i h; obtain rfl := congrArg Prod.snd h; simp; done
    | split
    | dsimp only

@[simp] theorem Chip.corrected_keeps (s : Chip) (a : Nat) : Keeps s (Chip.corrected s a) := by simp [Chip.corrected]

@[simp] theorem Chip.busRead_keeps (s : Chip) (r : Requester) (a : Nat) : Keeps s (Chip.busRead s r a).2.2 := by unfold Chip.busRead; (repeat' split) <;> simp

@[simp] theorem Chip.gateReads_keeps (s : Chip) (l : List Nat) : Keeps s (s.gateReads l).2 := by
  induction l generalizing s with
  | nil => simp [Chip.gateReads]
  | cons a t ih =>
    simp only [Chip.gateReads]
    split
    · simp
    · exact Keeps.trans (by simp) (ih _)

@[simp] theorem Chip.deferFetch_keeps (s : Chip) (frame off : Nat) (hdr : List Nat) (a n : Nat) : Keeps s (Chip.deferFetch s frame off hdr a n) := by
  unfold Chip.deferFetch
  repeat' first
    | (try lift_lets); intro x
      first
      | have hx : Keeps s x := by simp only [x]; (repeat' first | (simp [*]; done) | split); done
        clear_value x
      | have hx : Keeps s x.2 := by simp only [x]; (repeat' first | (simp [*]; done) | split); done
        clear_value x
      | clear_value x
    | simp [*]; done
    | split

@[simp] theorem Chip.commitRead_keeps (s : Chip) (o : LogOp) : Keeps s (Chip.commitRead s o) := by unfold Chip.commitRead; (repeat' split) <;> simp

@[simp] theorem Chip.urgentPre_keeps (s : Chip) : Keeps s (Chip.urgentPre s) := by
  unfold Chip.urgentPre
  repeat' first
    | (try lift_lets); intro x
      first
      | have hx : Keeps s x := by simp only [x]; (repeat' first | (simp [*]; done) | split); done
        clear_value x
      | have hx : Keeps s x.2 := by simp only [x]; (repeat' first | (simp [*]; done) | split); done
        clear_value x
      | clear_value x
    | simp [*]; done
    | rename_i h; obtain rfl := congrArg Prod.snd h; simp; done
    | split

@[simp] theorem Chip.urgentRes_keeps (s : Chip) : Keeps s (Chip.urgentRes s) := by unfold Chip.urgentRes; (repeat' split) <;> simp

@[simp] theorem Chip.sendDue_keeps (s : Chip) : Keeps s (Chip.sendDue s) := by
  unfold Chip.sendDue
  repeat' first
    | (try lift_lets); intro x
      first
      | have hx : Keeps s x := by simp only [x]; (repeat' first | (simp [*]; done) | split); done
        clear_value x
      | have hx : Keeps s x.2 := by simp only [x]; (repeat' first | (simp [*]; done) | split); done
        clear_value x
      | clear_value x
    | simp [*]; done
    | split

@[simp] theorem Chip.urgGoes_keeps (s : Chip) (f t : Nat) (into : Option SentFrame) : Keeps s (Chip.urgGoes s f t into) := by
  unfold Chip.urgGoes
  repeat' first
    | (try lift_lets); intro x
      first
      | have hx : Keeps s x := by simp only [x]; (repeat' first | (simp [*]; done) | split); done
        clear_value x
      | have hx : Keeps s x.2 := by simp only [x]; (repeat' first | (simp [*]; done) | split); done
        clear_value x
      | clear_value x
    | simp [*]; done
    | rename_i h; obtain rfl := congrArg Prod.snd h; simp; done
    | split

@[simp] theorem Chip.urgentSend_keeps (s : Chip) : Keeps s (Chip.urgentSend s) := by
  unfold Chip.urgentSend
  repeat' first
    | (try lift_lets); intro x
      first
      | have hx : Keeps s x := by simp only [x]; (repeat' first | (simp [*]; done) | split); done
        clear_value x
      | have hx : Keeps s x.2 := by simp only [x]; (repeat' first | (simp [*]; done) | split); done
        clear_value x
      | clear_value x
    | simp [*]; done
    | rename_i h; obtain rfl := congrArg Prod.snd h; simp; done
    | split

@[simp] theorem Chip.sendBefore_keeps (s : Chip) (index : Nat) (urgent : Bool) : Keeps s (Chip.sendBefore s index urgent) := by
  unfold Chip.sendBefore
  repeat' first
    | (try lift_lets); intro x
      first
      | have hx : Keeps s x := by simp only [x]; (repeat' first | (simp [*]; done) | split); done
        clear_value x
      | have hx : Keeps s x.2 := by simp only [x]; (repeat' first | (simp [*]; done) | split); done
        clear_value x
      | clear_value x
    | simp [*]; done
    | rename_i h; obtain rfl := congrArg Prod.snd h; simp; done
    | split

@[simp] theorem Chip.frameRelay_keeps (s : Chip) (x : SentFrame) (q : Nat) : Keeps s (Chip.frameRelay s x q) := by
  unfold Chip.frameRelay
  repeat' first
    | (try lift_lets); intro x
      first
      | have hx : Keeps s x := by simp only [x]; (repeat' first | (simp [*]; done) | split); done
        clear_value x
      | have hx : Keeps s x.2 := by simp only [x]; (repeat' first | (simp [*]; done) | split); done
        clear_value x
      | clear_value x
    | simp [*]; done
    | split

@[simp] theorem Chip.detachExecute_keeps (s : Chip) : Keeps s (Chip.detachExecute s) := by
  unfold Chip.detachExecute
  repeat' first
    | (try lift_lets); intro x
      first
      | have hx : Keeps s x := by simp only [x]; (repeat' first | (simp [*]; done) | split); done
        clear_value x
      | have hx : Keeps s x.2 := by simp only [x]; (repeat' first | (simp [*]; done) | split); done
        clear_value x
      | clear_value x
    | simp [*]; done
    | rename_i h; obtain rfl := congrArg Prod.snd h; simp; done
    | split

@[simp] theorem Chip.takePending_keeps (s : Chip) (e : Nat) : Keeps s (Chip.takePending s e).2 := by unfold Chip.takePending; (repeat' split) <;> simp

@[simp] theorem Chip.waitComplete_keeps (s : Chip) (e : Nat) : Keeps s (Chip.waitComplete s e) := by
  unfold Chip.waitComplete
  repeat' first
    | (try lift_lets); intro x
      first
      | have hx : Keeps s x := by simp only [x]; (repeat' first | (simp [*]; done) | split); done
        clear_value x
      | have hx : Keeps s x.2 := by simp only [x]; (repeat' first | (simp [*]; done) | split); done
        clear_value x
      | clear_value x
    | simp [*]; done
    | rename_i h; obtain rfl := congrArg Prod.snd h; simp; done
    | split

@[simp] theorem Chip.poolOvlEnd_keeps (s : Chip) : Keeps s (Chip.poolOvlEnd s) := by simp [Chip.poolOvlEnd]

@[simp] theorem Chip.portError_keeps (s : Chip) (p : Nat) : Keeps s (Chip.portError s p) := by
  unfold Chip.portError
  repeat' first
    | (try lift_lets); intro x
      first
      | have hx : Keeps s x := by simp only [x]; (repeat' first | (simp [*]; done) | split); done
        clear_value x
      | have hx : Keeps s x.2 := by simp only [x]; (repeat' first | (simp [*]; done) | split); done
        clear_value x
      | clear_value x
    | simp [*]; done
    | split

@[simp] theorem Chip.orphanAll_keeps (s : Chip) : Keeps s (Chip.orphanAll s) := by
  unfold Chip.orphanAll
  repeat' first
    | (try lift_lets); intro x
      first
      | have hx : Keeps s x := by simp only [x]; (repeat' first | with_reducible refine Keeps.each (fun s _ => ?_) ?_ | (simp [*]; done) | split | dsimp only); done
        clear_value x
      | have hx : Keeps s x.2 := by simp only [x]; (repeat' first | with_reducible refine Keeps.each (fun s _ => ?_) ?_ | (simp [*]; done) | split | dsimp only); done
        clear_value x
      | clear_value x
    | with_reducible refine Keeps.each (fun s _ => ?_) ?_
    | simp [*]; done
    | split
    | dsimp only

@[simp] theorem Chip.testFence_keeps (s : Chip) (f : Nat) : Keeps s (Chip.testFence s f) := by unfold Chip.testFence; (repeat' split) <;> simp

@[simp] theorem Chip.faultRecord_keeps (s : Chip) (l : FaultLine) : Keeps s (Chip.faultRecord s l) := by
  unfold Chip.faultRecord
  repeat' first
    | (try lift_lets); intro x
      first
      | have hx : Keeps s x := by simp only [x]; (repeat' first | (simp [*]; done) | split); done
        clear_value x
      | have hx : Keeps s x.2 := by simp only [x]; (repeat' first | (simp [*]; done) | split); done
        clear_value x
      | clear_value x
    | simp [*]; done
    | split

@[simp] theorem Chip.autoPlan_keeps (s : Chip) (f : Nat) : Keeps s (Chip.autoPlan s f) := by
  unfold Chip.autoPlan
  repeat' first
    | (try lift_lets); intro x
      first
      | have hx : Keeps s x := by simp only [x]; (repeat' first | (simp [*]; done) | split); done
        clear_value x
      | have hx : Keeps s x.2 := by simp only [x]; (repeat' first | (simp [*]; done) | split); done
        clear_value x
      | clear_value x
    | simp [*]; done
    | split

@[simp] theorem Chip.autoAct_keeps (s : Chip) (f : Nat) : Keeps s (Chip.autoAct s f) := by
  unfold Chip.autoAct
  repeat' first
    | (try lift_lets); intro x
      first
      | have hx : Keeps s x := by simp only [x]; (repeat' first | (simp [*]; done) | split); done
        clear_value x
      | have hx : Keeps s x.2 := by simp only [x]; (repeat' first | (simp [*]; done) | split); done
        clear_value x
      | clear_value x
    | simp [*]; done
    | split

@[simp] theorem Chip.autoRevive_keeps (s : Chip) (f : Nat) : Keeps s (Chip.autoRevive s f) := by simp [Chip.autoRevive]

@[simp] theorem Chip.getStatus_keeps (s : Chip) (d : UsbDev) (rcp : Recipient) (x : Nat) : Keeps s (Chip.getStatus s d rcp x) := by unfold Chip.getStatus; (repeat' split) <;> simp

@[simp] theorem Chip.showRwake_keeps (s : Chip) : Keeps s (Chip.showRwake s) := by simp [Chip.showRwake]

@[simp] theorem Chip.clearFeature_keeps (s : Chip) (d : UsbDev) (rcp : Recipient) (sel x : Nat) : Keeps s (Chip.clearFeature s d rcp sel x) := by
  unfold Chip.clearFeature
  repeat' first
    | (try lift_lets); intro x
      first
      | have hx : Keeps s x := by simp only [x]; (repeat' first | (simp [*]; done) | split); done
        clear_value x
      | have hx : Keeps s x.2 := by simp only [x]; (repeat' first | (simp [*]; done) | split); done
        clear_value x
      | clear_value x
    | simp [*]; done
    | rename_i h; obtain rfl := congrArg Prod.snd h; simp; done
    | split

@[simp] theorem Chip.setFeature_keeps (s : Chip) (d : UsbDev) (rcp : Recipient) (sel x : Nat) : Keeps s (Chip.setFeature s d rcp sel x) := by
  unfold Chip.setFeature
  repeat' first
    | (try lift_lets); intro x
      first
      | have hx : Keeps s x := by simp only [x]; (repeat' first | (simp [*]; done) | split); done
        clear_value x
      | have hx : Keeps s x.2 := by simp only [x]; (repeat' first | (simp [*]; done) | split); done
        clear_value x
      | clear_value x
    | simp [*]; done
    | rename_i h; obtain rfl := congrArg Prod.snd h; simp; done
    | split

@[simp] theorem Chip.setUpState_keeps (s : Chip) (v : Nat) : Keeps s (Chip.setUpState s v) := by simp [Chip.setUpState]

@[simp] theorem Chip.setAddress_keeps (s : Chip) (d : UsbDev) (a : Nat) : Keeps s (Chip.setAddress s d a) := by
  unfold Chip.setAddress
  repeat' first
    | (try lift_lets); intro x
      first
      | have hx : Keeps s x := by simp only [x]; (repeat' first | (simp [*]; done) | split); done
        clear_value x
      | have hx : Keeps s x.2 := by simp only [x]; (repeat' first | (simp [*]; done) | split); done
        clear_value x
      | clear_value x
    | simp [*]; done
    | split

@[simp] theorem Chip.setConfiguration_keeps (s : Chip) (d : UsbDev) (v : Nat) : Keeps s (Chip.setConfiguration s d v) := by
  unfold Chip.setConfiguration
  repeat' first
    | (try lift_lets); intro x
      first
      | have hx : Keeps s x := by simp only [x]; (repeat' first | (simp [*]; done) | split); done
        clear_value x
      | have hx : Keeps s x.2 := by simp only [x]; (repeat' first | (simp [*]; done) | split); done
        clear_value x
      | clear_value x
    | simp [*]; done
    | rename_i h; obtain rfl := congrArg Prod.snd h; simp; done
    | split

@[simp] theorem Chip.getInterface_keeps (s : Chip) (d : UsbDev) (x : Nat) : Keeps s (Chip.getInterface s d x) := by simp [Chip.getInterface]

@[simp] theorem Chip.setInterface_keeps (s : Chip) (d : UsbDev) (x alt : Nat) : Keeps s (Chip.setInterface s d x alt) := by
  unfold Chip.setInterface
  repeat' first
    | (try lift_lets); intro x
      first
      | have hx : Keeps s x := by simp only [x]; (repeat' first | (simp [*]; done) | split); done
        clear_value x
      | have hx : Keeps s x.2 := by simp only [x]; (repeat' first | (simp [*]; done) | split); done
        clear_value x
      | clear_value x
    | simp [*]; done
    | split

@[simp] theorem Chip.completeSplit_keeps (s : Chip) (p : Nat) (ep : TtEndpoint) (o : DevReply) : Keeps s (Chip.completeSplit s p ep o) := by
  unfold Chip.completeSplit
  repeat' first
    | (try lift_lets); intro x
      first
      | have hx : Keeps s x := by simp only [x]; (repeat' first | (simp [*]; done) | split); done
        clear_value x
      | have hx : Keeps s x.2 := by simp only [x]; (repeat' first | (simp [*]; done) | split); done
        clear_value x
      | clear_value x
    | simp [*]; done
    | rename_i h; obtain rfl := congrArg Prod.snd h; simp; done
    | split

@[simp] theorem Chip.wideAttach_keeps (s : Chip) : Keeps s (Chip.wideAttach s) := by simp [Chip.wideAttach]

@[simp] theorem Chip.stage_keeps (s : Chip) (w : Nat) (r : WRec) : Keeps s (Chip.stage s w r) := by simp [Chip.stage]

@[simp] theorem Chip.poll1_keeps (s : Chip) (e : Nat) (rep : DevReply) : Keeps s (s.poll1 e rep) := by
  unfold Chip.poll1
  dsimp only
  (repeat' split) <;> simp

@[simp] theorem Chip.pollRun_keeps (s : Chip) (l : List PollReply) : Keeps s (Chip.pollRun s l) := by
  unfold Chip.pollRun
  repeat' first
    | (try lift_lets); intro x
      first
      | have hx : Keeps s x := by simp only [x]; (repeat' first | with_reducible refine Keeps.each (fun s _ => ?_) ?_ | (simp [*]; done) | split | dsimp only); done
        clear_value x
      | have hx : Keeps s x.2 := by simp only [x]; (repeat' first | with_reducible refine Keeps.each (fun s _ => ?_) ?_ | (simp [*]; done) | split | dsimp only); done
        clear_value x
      | clear_value x
    | with_reducible refine Keeps.each (fun s _ => ?_) ?_
    | simp [*]; done
    | rename_i h; obtain rfl := congrArg Prod.snd h; simp; done
    | split
    | dsimp only

@[simp] theorem Chip.pollOut_keeps (s : Chip) (e : Nat) (pid : Bool) (data : List (BitVec 8)) (split : Bool) : Keeps s (Chip.pollOut s e pid data split) := by
  unfold Chip.pollOut
  repeat' first
    | (try lift_lets); intro x
      first
      | have hx : Keeps s x := by simp only [x]; (repeat' first | (simp [*]; done) | split); done
        clear_value x
      | have hx : Keeps s x.2 := by simp only [x]; (repeat' first | (simp [*]; done) | split); done
        clear_value x
      | clear_value x
    | simp [*]; done
    | split

@[simp] theorem Chip.withPid_keeps (s : Chip) (pid : Bool) : Keeps s (Chip.withPid s pid) := by
  unfold Chip.withPid
  repeat' first
    | (try lift_lets); intro x
      first
      | have hx : Keeps s x := by simp only [x]; (repeat' first | (simp [*]; done) | split); done
        clear_value x
      | have hx : Keeps s x.2 := by simp only [x]; (repeat' first | (simp [*]; done) | split); done
        clear_value x
      | clear_value x
    | simp [*]; done
    | split

@[simp] theorem Chip.pollIn_keeps (s : Chip) (e : Nat) : Keeps s (Chip.pollIn s e) := by
  unfold Chip.pollIn
  repeat' first
    | (try lift_lets); intro x
      first
      | have hx : Keeps s x := by simp only [x]; (repeat' first | (simp [*]; done) | split); done
        clear_value x
      | have hx : Keeps s x.2 := by simp only [x]; (repeat' first | (simp [*]; done) | split); done
        clear_value x
      | clear_value x
    | simp [*]; done
    | rename_i h; obtain rfl := congrArg Prod.snd h; simp; done
    | split

@[simp] theorem Chip.wideHold_keeps (s : Chip) (w : Nat) (t : WTx) : Keeps s (Chip.wideHold s w t) := by simp [Chip.wideHold]

@[simp] theorem Chip.takeSetup_keeps (s : Chip) (w dev : Nat) (data : List (BitVec 8)) (split : Bool) : Keeps s (Chip.takeSetup s w dev data split) := by
  unfold Chip.takeSetup
  repeat' first
    | (try lift_lets); intro x
      first
      | have hx : Keeps s x := by simp only [x]; (repeat' first | (simp [*]; done) | split); done
        clear_value x
      | have hx : Keeps s x.2 := by simp only [x]; (repeat' first | (simp [*]; done) | split); done
        clear_value x
      | clear_value x
    | simp [*]; done
    | split

@[simp] theorem Chip.wideDefer_keeps (s : Chip) : Keeps s (Chip.wideDefer s) := by
  unfold Chip.wideDefer
  repeat' first
    | (try lift_lets); intro x
      first
      | have hx : Keeps s x := by simp only [x]; (repeat' first | (simp [*]; done) | split); done
        clear_value x
      | have hx : Keeps s x.2 := by simp only [x]; (repeat' first | (simp [*]; done) | split); done
        clear_value x
      | clear_value x
    | simp [*]; done
    | split

@[simp] theorem Chip.wideSplit_keeps (s : Chip) (x : Sys2Proof.WideSplit) : Keeps s (Chip.wideSplit s x) := by
  unfold Chip.wideSplit
  repeat' first
    | (try lift_lets); intro x
      first
      | have hx : Keeps s x := by simp only [x]; (repeat' first | (simp [*]; done) | split); done
        clear_value x
      | have hx : Keeps s x.2 := by simp only [x]; (repeat' first | (simp [*]; done) | split); done
        clear_value x
      | clear_value x
    | simp [*]; done
    | rename_i h; obtain rfl := congrArg Prod.snd h; simp; done
    | split

@[simp] theorem Chip.pollResultIn_keeps (s : Chip) (e : Nat) : Keeps s (Chip.pollResultIn s e) := by simp [Chip.pollResultIn]

@[simp] theorem Chip.pollOutData_keeps (s : Chip) (e : Nat) (pid : Bool) (data : List (BitVec 8)) : Keeps s (Chip.pollOutData s e pid data) := by simp [Chip.pollOutData]

@[simp] theorem Chip.getPortMap_keeps (s : Chip) (w : Nat) : Keeps s (Chip.getPortMap s w) := by simp [Chip.getPortMap]

@[simp] theorem Chip.wideOvlEnd_keeps (s : Chip) : Keeps s (Chip.wideOvlEnd s) := by simp [Chip.wideOvlEnd]

@[simp] theorem Chip.fuseClose_keeps (s : Chip) (ch vout : Nat) : Keeps s (Chip.fuseClose s ch vout) := by
  unfold Chip.fuseClose
  repeat' first
    | (try lift_lets); intro x
      first
      | have hx : Keeps s x := by simp only [x]; (repeat' first | (simp [*]; done) | split); done
        clear_value x
      | have hx : Keeps s x.2 := by simp only [x]; (repeat' first | (simp [*]; done) | split); done
        clear_value x
      | clear_value x
    | simp [*]; done
    | split

@[simp] theorem Chip.channelClose_keeps (s : Chip) (ch vout : Nat) : Keeps s (Chip.channelClose s ch vout) := by simp [Chip.channelClose]

@[simp] theorem Chip.portTripGone_keeps (s : Chip) (p : Nat) : Keeps s (Chip.portTripGone s p) := by simp [Chip.portTripGone]

@[simp] theorem Chip.channelOpen_keeps (s : Chip) (ch : Nat) : Keeps s (Chip.channelOpen s ch) := by
  unfold Chip.channelOpen
  repeat' first
    | (try lift_lets); intro x
      first
      | have hx : Keeps s x := by simp only [x]; (repeat' first | (simp [*]; done) | split); done
        clear_value x
      | have hx : Keeps s x.2 := by simp only [x]; (repeat' first | (simp [*]; done) | split); done
        clear_value x
      | clear_value x
    | simp [*]; done
    | split

@[simp] theorem Chip.guardRelease_keeps (s : Chip) (ch vout : Nat) : Keeps s (Chip.guardRelease s ch vout) := by simp [Chip.guardRelease]

@[simp] theorem Chip.rampEnd_keeps (s : Chip) (ch : Nat) : Keeps s (Chip.rampEnd s ch) := by
  unfold Chip.rampEnd
  repeat' first
    | (try lift_lets); intro x
      first
      | have hx : Keeps s x := by simp only [x]; (repeat' first | (simp [*]; done) | split); done
        clear_value x
      | have hx : Keeps s x.2 := by simp only [x]; (repeat' first | (simp [*]; done) | split); done
        clear_value x
      | clear_value x
    | simp [*]; done
    | split

@[simp] theorem Chip.fuseEvent_keeps (s : Chip) (ch cause : Nat) : Keeps s (Chip.fuseEvent s ch cause) := by
  unfold Chip.fuseEvent
  repeat' first
    | (try lift_lets); intro x
      first
      | have hx : Keeps s x := by simp only [x]; (repeat' first | (simp [*]; done) | split); done
        clear_value x
      | have hx : Keeps s x.2 := by simp only [x]; (repeat' first | (simp [*]; done) | split); done
        clear_value x
      | clear_value x
    | simp [*]; done
    | split

@[simp] theorem Chip.portTrip_keeps (s : Chip) (p : Nat) : Keeps s (Chip.portTrip s p) := by
  unfold Chip.portTrip
  repeat' first
    | (try lift_lets); intro x
      first
      | have hx : Keeps s x := by simp only [x]; (repeat' first | (simp [*]; done) | split); done
        clear_value x
      | have hx : Keeps s x.2 := by simp only [x]; (repeat' first | (simp [*]; done) | split); done
        clear_value x
      | clear_value x
    | simp [*]; done
    | split

@[simp] theorem Chip.fuseTrip_keeps (s : Chip) (ch cause : Nat) : Keeps s (Chip.fuseTrip s ch cause) := by
  unfold Chip.fuseTrip
  repeat' first
    | (try lift_lets); intro x
      first
      | have hx : Keeps s x := by simp only [x]; (repeat' first | (simp [*]; done) | split); done
        clear_value x
      | have hx : Keeps s x.2 := by simp only [x]; (repeat' first | (simp [*]; done) | split); done
        clear_value x
      | clear_value x
    | simp [*]; done
    | split

@[simp] theorem Chip.rampTimeout_keeps (s : Chip) : Keeps s (Chip.rampTimeout s) := by simp [Chip.rampTimeout]

@[simp] theorem Chip.retryWaitEnd_keeps (s : Chip) (ch vout : Nat) : Keeps s (Chip.retryWaitEnd s ch vout) := by
  unfold Chip.retryWaitEnd
  repeat' first
    | (try lift_lets); intro x
      first
      | have hx : Keeps s x := by simp only [x]; (repeat' first | (simp [*]; done) | split); done
        clear_value x
      | have hx : Keeps s x.2 := by simp only [x]; (repeat' first | (simp [*]; done) | split); done
        clear_value x
      | clear_value x
    | simp [*]; done
    | split

@[simp] theorem Chip.retryStable_keeps (s : Chip) (ch : Nat) : Keeps s (Chip.retryStable s ch) := by simp [Chip.retryStable]

@[simp] theorem Chip.thermalReclose_keeps (s : Chip) (ch vout : Nat) : Keeps s (Chip.thermalReclose s ch vout) := by
  unfold Chip.thermalReclose
  repeat' first
    | (try lift_lets); intro x
      first
      | have hx : Keeps s x := by simp only [x]; (repeat' first | (simp [*]; done) | split); done
        clear_value x
      | have hx : Keeps s x.2 := by simp only [x]; (repeat' first | (simp [*]; done) | split); done
        clear_value x
      | clear_value x
    | simp [*]; done
    | split

@[simp] theorem Chip.periodShow_keeps (s : Chip) : Keeps s (Chip.periodShow s) := by
  unfold Chip.periodShow
  repeat' first
    | (try lift_lets); intro x
      first
      | have hx : Keeps s x := by simp only [x]; (repeat' first | with_reducible refine Keeps.each (fun s _ => ?_) ?_ | (simp [*]; done) | split | dsimp only); done
        clear_value x
      | have hx : Keeps s x.2 := by simp only [x]; (repeat' first | with_reducible refine Keeps.each (fun s _ => ?_) ?_ | (simp [*]; done) | split | dsimp only); done
        clear_value x
      | clear_value x
    | with_reducible refine Keeps.each (fun s _ => ?_) ?_
    | simp [*]; done
    | split
    | dsimp only

@[simp] theorem Chip.drvLimits_keeps (s : Chip) : Keeps s (Chip.drvLimits s) := by
  unfold Chip.drvLimits
  repeat' first
    | (try lift_lets); intro x
      first
      | have hx : Keeps s x := by simp only [x]; (repeat' first | with_reducible refine Keeps.each (fun s _ => ?_) ?_ | (simp [*]; done) | split | dsimp only); done
        clear_value x
      | have hx : Keeps s x.2 := by simp only [x]; (repeat' first | with_reducible refine Keeps.each (fun s _ => ?_) ?_ | (simp [*]; done) | split | dsimp only); done
        clear_value x
      | clear_value x
    | with_reducible refine Keeps.each (fun s _ => ?_) ?_
    | simp [*]; done
    | split
    | dsimp only

@[simp] theorem Chip.hviLevel_keeps (s : Chip) (i : Nat) (level : Bool) : Keeps s (Chip.hviLevel s i level) := by
  unfold Chip.hviLevel
  repeat' first
    | (try lift_lets); intro x
      first
      | have hx : Keeps s x := by simp only [x]; (repeat' first | (simp [*]; done) | split); done
        clear_value x
      | have hx : Keeps s x.2 := by simp only [x]; (repeat' first | (simp [*]; done) | split); done
        clear_value x
      | clear_value x
    | simp [*]; done
    | split

@[simp] theorem Chip.readings_keeps (s : Chip) : Keeps s (Chip.readings s) := by
  unfold Chip.readings
  repeat' first
    | (try lift_lets); intro x
      first
      | have hx : Keeps s x := by simp only [x]; (repeat' first | with_reducible refine Keeps.each (fun s _ => ?_) ?_ | (simp [*]; done) | split | dsimp only); done
        clear_value x
      | have hx : Keeps s x.2 := by simp only [x]; (repeat' first | with_reducible refine Keeps.each (fun s _ => ?_) ?_ | (simp [*]; done) | split | dsimp only); done
        clear_value x
      | clear_value x
    | with_reducible refine Keeps.each (fun s _ => ?_) ?_
    | simp [*]; done
    | split
    | dsimp only

@[simp] theorem Chip.shuntRetry_keeps (s : Chip) (n microAmp : Nat) : Keeps s (Chip.shuntRetry s n microAmp) := by simp [Chip.shuntRetry]

@[simp] theorem Chip.setpointArrive_keeps (s : Chip) (o : Nat) : Keeps s (Chip.setpointArrive s o) := by unfold Chip.setpointArrive; (repeat' split) <;> simp

@[simp] theorem Chip.drvEvent_keeps (s : Chip) (o code : Nat) : Keeps s (Chip.drvEvent s o code) := by
  unfold Chip.drvEvent
  repeat' first
    | (try lift_lets); intro x
      first
      | have hx : Keeps s x := by simp only [x]; (repeat' first | (simp [*]; done) | split); done
        clear_value x
      | have hx : Keeps s x.2 := by simp only [x]; (repeat' first | (simp [*]; done) | split); done
        clear_value x
      | clear_value x
    | simp [*]; done
    | split

@[simp] theorem Chip.drvTrip_keeps (s : Chip) (o code : Nat) (flt : Bool) : Keeps s (Chip.drvTrip s o code flt) := by
  unfold Chip.drvTrip
  repeat' first
    | (try lift_lets); intro x
      first
      | have hx : Keeps s x := by simp only [x]; (repeat' first | (simp [*]; done) | split); done
        clear_value x
      | have hx : Keeps s x.2 := by simp only [x]; (repeat' first | (simp [*]; done) | split); done
        clear_value x
      | clear_value x
    | simp [*]; done
    | split

@[simp] theorem Chip.driverFault_keeps (s : Chip) (o code : Nat) : Keeps s (Chip.driverFault s o code) := by
  unfold Chip.driverFault
  repeat' first
    | (try lift_lets); intro x
      first
      | have hx : Keeps s x := by simp only [x]; (repeat' first | with_reducible refine Keeps.each (fun s _ => ?_) ?_ | (simp [*]; done) | split | dsimp only); done
        clear_value x
      | have hx : Keeps s x.2 := by simp only [x]; (repeat' first | with_reducible refine Keeps.each (fun s _ => ?_) ?_ | (simp [*]; done) | split | dsimp only); done
        clear_value x
      | clear_value x
    | with_reducible refine Keeps.each (fun s _ => ?_) ?_
    | simp [*]; done
    | rename_i h; obtain rfl := congrArg Prod.snd h; simp; done
    | split
    | dsimp only

@[simp] theorem Chip.nbTime_keeps (s : Chip) (ns : Nat) : Keeps s (Chip.nbTime s ns) := by
  unfold Chip.nbTime
  repeat' first
    | (try lift_lets); intro x
      first
      | have hx : Keeps s x := by simp only [x]; (repeat' first | (simp [*]; done) | split); done
        clear_value x
      | have hx : Keeps s x.2 := by simp only [x]; (repeat' first | (simp [*]; done) | split); done
        clear_value x
      | clear_value x
    | simp [*]; done
    | split

@[simp] theorem Chip.testDone_keeps (s : Chip) (o : TestObs) : Keeps s (Chip.testDone s o) := by
  unfold Chip.testDone
  repeat' first
    | (try lift_lets); intro x
      first
      | have hx : Keeps s x := by simp only [x]; (repeat' first | (simp [*]; done) | split); done
        clear_value x
      | have hx : Keeps s x.2 := by simp only [x]; (repeat' first | (simp [*]; done) | split); done
        clear_value x
      | clear_value x
    | simp [*]; done
    | rename_i h; obtain rfl := congrArg Prod.snd h; simp; done
    | split

@[simp] theorem Chip.eventFire_keeps (s : Chip) (src det : Nat) : Keeps s (Chip.eventFire s src det) := by simp [Chip.eventFire]

@[simp] theorem Chip.engJump_keeps (s : Chip) (e target : Nat) (pop : Bool) : Keeps s (Chip.engJump s e target pop) := by
  unfold Chip.engJump
  repeat' first
    | (try lift_lets); intro x
      first
      | have hx : Keeps s x := by simp only [x]; (repeat' first | (simp [*]; done) | split); done
        clear_value x
      | have hx : Keeps s x.2 := by simp only [x]; (repeat' first | (simp [*]; done) | split); done
        clear_value x
      | clear_value x
    | simp [*]; done
    | split

@[simp] theorem Chip.enterWait_keeps (s : Chip) (e cause : Nat) (w : Wait) : Keeps s (Chip.enterWait s e cause w) := by
  unfold Chip.enterWait
  repeat' first
    | (try lift_lets); intro x
      first
      | have hx : Keeps s x := by simp only [x]; (repeat' first | (simp [*]; done) | split); done
        clear_value x
      | have hx : Keeps s x.2 := by simp only [x]; (repeat' first | (simp [*]; done) | split); done
        clear_value x
      | clear_value x
    | simp [*]; done
    | split

@[simp] theorem Chip.engHalted_keeps (s : Chip) (e : Nat) : Keeps s (Chip.engHalted s e) := by simp [Chip.engHalted]

@[simp] theorem Chip.wdogExpire_keeps (s : Chip) (e : Nat) : Keeps s (Chip.wdogExpire s e) := by
  unfold Chip.wdogExpire
  repeat' first
    | (try lift_lets); intro x
      first
      | have hx : Keeps s x := by simp only [x]; (repeat' first | (simp [*]; done) | split); done
        clear_value x
      | have hx : Keeps s x.2 := by simp only [x]; (repeat' first | (simp [*]; done) | split); done
        clear_value x
      | clear_value x
    | simp [*]; done
    | split

@[simp] theorem Chip.markRelease_keeps (s : Chip) (e : Nat) : Keeps s (Chip.markRelease s e) := by unfold Chip.markRelease; (repeat' split) <;> simp

@[simp] theorem Chip.timeRelease_keeps (s : Chip) (e : Nat) : Keeps s (Chip.timeRelease s e) := by unfold Chip.timeRelease; (repeat' split) <;> simp

@[simp] theorem Chip.evMgmt_keeps (s : Chip) (x : EvRec) : Keeps s (Chip.evMgmt s x) := by
  unfold Chip.evMgmt
  repeat' first
    | (try lift_lets); intro x
      first
      | have hx : Keeps s x := by simp only [x]; (repeat' first | (simp [*]; done) | split); done
        clear_value x
      | have hx : Keeps s x.2 := by simp only [x]; (repeat' first | (simp [*]; done) | split); done
        clear_value x
      | clear_value x
    | simp [*]; done
    | split

@[simp] theorem Chip.evChain_keeps (s : Chip) (x : EvRec) : Keeps s (Chip.evChain s x) := by
  unfold Chip.evChain
  repeat' first
    | (try lift_lets); intro x
      first
      | have hx : Keeps s x := by simp only [x]; (repeat' first | (simp [*]; done) | split); done
        clear_value x
      | have hx : Keeps s x.2 := by simp only [x]; (repeat' first | (simp [*]; done) | split); done
        clear_value x
      | clear_value x
    | simp [*]; done
    | split

@[simp] theorem Chip.eventIn_keeps (s : Chip) : Keeps s (Chip.eventIn s) := by
  unfold Chip.eventIn
  repeat' first
    | (try lift_lets); intro x
      first
      | have hx : Keeps s x := by simp only [x]; (repeat' first | (simp [*]; done) | split); done
        clear_value x
      | have hx : Keeps s x.2 := by simp only [x]; (repeat' first | (simp [*]; done) | split); done
        clear_value x
      | clear_value x
    | simp [*]; done
    | split

@[simp] theorem Chip.laneUpdate_keeps (s : Chip) : Keeps s (Chip.laneUpdate s) := by
  unfold Chip.laneUpdate
  repeat' first
    | (try lift_lets); intro x
      first
      | have hx : Keeps s x := by simp only [x]; (repeat' first | with_reducible refine Keeps.each (fun s _ => ?_) ?_ | (simp [*]; done) | split | dsimp only); done
        clear_value x
      | have hx : Keeps s x.2 := by simp only [x]; (repeat' first | with_reducible refine Keeps.each (fun s _ => ?_) ?_ | (simp [*]; done) | split | dsimp only); done
        clear_value x
      | clear_value x
    | with_reducible refine Keeps.each (fun s _ => ?_) ?_
    | simp [*]; done
    | split
    | dsimp only

@[simp] theorem Chip.autoRetry_keeps (s : Chip) : Keeps s (Chip.autoRetry s) := by
  unfold Chip.autoRetry
  repeat' first
    | (try lift_lets); intro x
      first
      | have hx : Keeps s x := by simp only [x]; (repeat' first | with_reducible refine Keeps.each (fun s _ => ?_) ?_ | with_reducible refine Keeps.foldl (fun s _ => ?_) ?_ | (simp [*]; done) | split | dsimp only); done
        clear_value x
      | have hx : Keeps s x.2 := by simp only [x]; (repeat' first | with_reducible refine Keeps.each (fun s _ => ?_) ?_ | with_reducible refine Keeps.foldl (fun s _ => ?_) ?_ | (simp [*]; done) | split | dsimp only); done
        clear_value x
      | clear_value x
    | with_reducible refine Keeps.each (fun s _ => ?_) ?_
    | with_reducible refine Keeps.foldl (fun s _ => ?_) ?_
    | simp [*]; done
    | rename_i h; obtain rfl := congrArg Prod.snd h; simp; done
    | split
    | dsimp only

@[simp] theorem Chip.arStable_keeps (s : Chip) (f : Nat) : Keeps s (Chip.arStable s f) := by simp [Chip.arStable]

@[simp] theorem Chip.tripIfClosed_keeps (s : Chip) (ch cause : Nat) : Keeps s (Chip.tripIfClosed s ch cause) := by simp [Chip.tripIfClosed]

@[simp] theorem Chip.hpReverse_keeps (s : Chip) (h : Nat) : Keeps s (Chip.hpReverse s h) := by
  unfold Chip.hpReverse
  repeat' first
    | (try lift_lets); intro x
      first
      | have hx : Keeps s x := by simp only [x]; (repeat' first | (simp [*]; done) | split); done
        clear_value x
      | have hx : Keeps s x.2 := by simp only [x]; (repeat' first | (simp [*]; done) | split); done
        clear_value x
      | clear_value x
    | simp [*]; done
    | split

@[simp] theorem Chip.hpReclose_keeps (s : Chip) (h vout : Nat) : Keeps s (Chip.hpReclose s h vout) := by
  unfold Chip.hpReclose
  repeat' first
    | (try lift_lets); intro x
      first
      | have hx : Keeps s x := by simp only [x]; (repeat' first | (simp [*]; done) | split); done
        clear_value x
      | have hx : Keeps s x.2 := by simp only [x]; (repeat' first | (simp [*]; done) | split); done
        clear_value x
      | clear_value x
    | simp [*]; done
    | split

@[simp] theorem Chip.arrive_keeps (s : Chip) (p op : Nat) (x : Slot) : Keeps s (Chip.arrive s p op x) := by
  unfold Chip.arrive
  repeat' first
    | (try lift_lets); intro x
      first
      | have hx : Keeps s x := by simp only [x]; (repeat' first | (simp [*]; done) | split); done
        clear_value x
      | have hx : Keeps s x.2 := by simp only [x]; (repeat' first | (simp [*]; done) | split); done
        clear_value x
      | clear_value x
    | simp [*]; done
    | split

@[simp] theorem Chip.forward_keeps (s : Chip) (w : FwdSlot) : Keeps s (Chip.forward s w) := by simp [Chip.forward]

@[simp] theorem Chip.slotLeaves_keeps (s : Chip) (op addr : Nat) (x : Slot) (o : SlotOut) : Keeps s (Chip.slotLeaves s op addr x o) := by
  unfold Chip.slotLeaves
  repeat' first
    | (try lift_lets); intro x
      first
      | have hx : Keeps s x := by simp only [x]; (repeat' first | (simp [*]; done) | split); done
        clear_value x
      | have hx : Keeps s x.2 := by simp only [x]; (repeat' first | (simp [*]; done) | split); done
        clear_value x
      | clear_value x
    | simp [*]; done
    | split

@[simp] theorem Chip.headerBad_keeps (s : Chip) (op : Nat) (x : Slot) : Keeps s (Chip.headerBad s op x) := by
  unfold Chip.headerBad
  repeat' first
    | (try lift_lets); intro x
      first
      | have hx : Keeps s x := by simp only [x]; (repeat' first | (simp [*]; done) | split); done
        clear_value x
      | have hx : Keeps s x.2 := by simp only [x]; (repeat' first | (simp [*]; done) | split); done
        clear_value x
      | clear_value x
    | simp [*]; done
    | split

theorem Chip.slotSeen_keeps (s : Chip) (op : Nat) (x : Slot) {k : Chip → Chip} (h : ∀ s, Keeps s (k s)) : Keeps s (s.slotSeen op x k) := by
  unfold Chip.slotSeen
  split
  · simp
  · rename_i p _
    have := h (s.arrive p op x)
    dsimp only
    (repeat' split) <;> simp_all

theorem Chip.slotMine_keeps (s : Chip) (op : Nat) (hop early : Bool) (x : Slot) {f : Chip → Slot → SlotOut × Chip}
    (h : ∀ s x, Keeps s (f s x).2) : Keeps s (s.slotMine op hop early x f) := by
  have := h s x
  unfold Chip.slotMine
  dsimp only
  (repeat' split) <;> simp_all

theorem Chip.slotAt_keeps (s : Chip) (op : Nat) (hop early : Bool) (x : Slot) {f : Chip → Slot → SlotOut × Chip}
    (h : ∀ s x, Keeps s (f s x).2) : Keeps s (s.slotAt op hop early x f) :=
  Chip.slotSeen_keeps s op x fun s => Chip.slotMine_keeps s op hop early x h

@[simp] theorem Chip.slotBad_keeps (s : Chip) (op : Nat) (x : Slot) : Keeps s (s.slotBad op x) := by
  unfold Chip.slotBad
  split
  · simp
  · exact Chip.slotSeen_keeps s op x fun _ => ⟨rfl, rfl⟩

@[simp] theorem Chip.slotNop_keeps (s : Chip) (x : Slot) : Keeps s (s.slotNop x) :=
  Chip.slotSeen_keeps s 0 x fun _ => by split <;> simp

@[simp] theorem Chip.slotBadOp_keeps (s : Chip) (op : Nat) (x : Slot) : Keeps s (s.slotBadOp op x) := by
  unfold Chip.slotBadOp
  split
  · simp
  · exact Chip.slotSeen_keeps s op x fun _ => by simp

theorem Chip.pickup_keeps (s : Chip) (op : Nat) (x : Slot) {r : SlotOut × Chip} (h : s.pickup op x = some r) : Keeps s r.2 := by
  unfold Chip.pickup at h
  dsimp only at h
  split at h
  · cases h
  · split at h <;> (cases h; simp)

@[simp] theorem Chip.deferRead_keeps (s : Chip) (op : Nat) (x : Slot) : Keeps s (Chip.deferRead s op x).2 := by unfold Chip.deferRead; (repeat' split) <;> simp

@[simp] theorem gateRd_keeps (op : Nat) (s : Chip) (x : Slot) : Keeps s (gateRd op s x).2 := by
  unfold gateRd
  split
  · simp
  · split
    · rename_i h; exact Chip.pickup_keeps _ _ _ h
    · split
      · simp
      · split <;> (rename_i h; obtain rfl := congrArg Prod.snd h; simp)

@[simp] theorem Chip.sleepCommit_keeps (s : Chip) (pend : Bool) : Keeps s (Chip.sleepCommit s pend) := by simp [Chip.sleepCommit]

@[simp] theorem gateOr_keeps (s : Chip) (x : Slot) : Keeps s (gateOr s x).2 := by
  unfold gateOr
  split
  · simp
  · split <;> (rename_i h; obtain rfl := congrArg Prod.snd h)
    · dsimp only
      split <;> simp
    · simp

@[simp] theorem gateImgRd_keeps (s : Chip) (x : Slot) : Keeps s (gateImgRd s x).2 := by
  unfold gateImgRd
  repeat' first
    | (try lift_lets); intro x
      first
      | have hx : Keeps s x := by simp only [x]; (repeat' first | with_reducible refine Keeps.foldl (fun s _ => ?_) ?_ | (simp [*]; done) | split | dsimp only); done
        clear_value x
      | have hx : Keeps s x.2 := by simp only [x]; (repeat' first | with_reducible refine Keeps.foldl (fun s _ => ?_) ?_ | (simp [*]; done) | split | dsimp only); done
        clear_value x
      | clear_value x
    | with_reducible refine Keeps.foldl (fun s _ => ?_) ?_
    | simp [*]; done
    | split
    | dsimp only

@[simp] theorem gateImgWr_keeps (s : Chip) (x : Slot) : Keeps s (gateImgWr s x).2 := by
  unfold gateImgWr
  repeat' first
    | (try lift_lets); intro x
      first
      | have hx : Keeps s x := by simp only [x]; (repeat' first | (simp [*]; done) | split); done
        clear_value x
      | have hx : Keeps s x.2 := by simp only [x]; (repeat' first | (simp [*]; done) | split); done
        clear_value x
      | clear_value x
    | simp [*]; done
    | split

@[simp] theorem gateMbxGet_keeps (s : Chip) (x : Slot) : Keeps s (gateMbxGet s x).2 := by
  unfold gateMbxGet
  repeat' first
    | (try lift_lets); intro x
      first
      | have hx : Keeps s x := by simp only [x]; (repeat' first | (simp [*]; done) | split); done
        clear_value x
      | have hx : Keeps s x.2 := by simp only [x]; (repeat' first | (simp [*]; done) | split); done
        clear_value x
      | clear_value x
    | simp [*]; done
    | rename_i h; obtain rfl := congrArg Prod.snd h; simp; done
    | split

@[simp] theorem Chip.fillUp_keeps (s : Chip) (w : Nat) (payload : List (BitVec 8)) : Keeps s (s.fillUp w payload).2 := by
  unfold Chip.fillUp; dsimp only; simp

@[simp] theorem gateTunnel_keeps (s : Chip) (x : Slot) : Keeps s (gateTunnel s x).2 := by
  unfold gateTunnel
  repeat' first
    | (try lift_lets); intro x
      first
      | have hx : Keeps s x := by simp only [x]; (repeat' first | (simp [*]; done) | split); done
        clear_value x
      | have hx : Keeps s x.2 := by simp only [x]; (repeat' first | (simp [*]; done) | split); done
        clear_value x
      | clear_value x
    | simp [*]; done
    | split

@[simp] theorem gateTelem_keeps (s : Chip) (x : Slot) : Keeps s (gateTelem s x).2 := by
  unfold gateTelem
  repeat' first
    | (try lift_lets); intro x
      first
      | have hx : Keeps s x := by simp only [x]; (repeat' first | (simp [*]; done) | split); done
        clear_value x
      | have hx : Keeps s x.2 := by simp only [x]; (repeat' first | (simp [*]; done) | split); done
        clear_value x
      | clear_value x
    | simp [*]; done
    | rename_i h; obtain rfl := congrArg Prod.snd h; simp; done
    | split

@[simp] theorem gateEvent_keeps (s : Chip) (x : Slot) : Keeps s (gateEvent s x).2 := by
  unfold gateEvent
  repeat' first
    | (try lift_lets); intro x
      first
      | have hx : Keeps s x := by simp only [x]; (repeat' first | (simp [*]; done) | split); done
        clear_value x
      | have hx : Keeps s x.2 := by simp only [x]; (repeat' first | (simp [*]; done) | split); done
        clear_value x
      | clear_value x
    | simp [*]; done
    | split

@[simp] theorem gateArm_keeps (s : Chip) (x : Slot) : Keeps s (gateArm s x).2 := by unfold gateArm; (repeat' split) <;> simp

@[simp] theorem gatePour_keeps (s : Chip) (x : Slot) : Keeps s (gatePour s x).2 := by unfold gatePour; (repeat' split) <;> simp

@[simp] theorem gateDelay_keeps (s : Chip) (x : Slot) : Keeps s (gateDelay s x).2 := by
  unfold gateDelay
  repeat' first
    | (try lift_lets); intro x
      first
      | have hx : Keeps s x := by simp only [x]; (repeat' first | (simp [*]; done) | split); done
        clear_value x
      | have hx : Keeps s x.2 := by simp only [x]; (repeat' first | (simp [*]; done) | split); done
        clear_value x
      | clear_value x
    | simp [*]; done
    | split

theorem Chip.usbReq_keeps (s : Chip) (d : UsbDev) (f : Chip → Chip) (h : ∀ s, Keeps s (f s)) : Keeps s (s.usbReq d f) := by
  unfold Chip.usbReq; split
  · exact h s
  · simp

theorem Chip.portReq_keeps (s : Chip) (p : Nat) (f : Chip → Chip) (h : ∀ s, Keeps s (f s)) : Keeps s (s.portReq p f) :=
  Chip.usbReq_keeps _ _ _ fun s => by
    split
    · simp
    · exact h s

@[simp] theorem Chip.resetDone_keeps (s : Chip) (p : Nat) (v : UsbSpeed) : Keeps s (Chip.resetDone s p v) := by
  unfold Chip.resetDone
  repeat' first
    | (try lift_lets); intro x
      first
      | have hx : Keeps s x := by simp only [x]; (repeat' first | (simp [*]; done) | split); done
        clear_value x
      | have hx : Keeps s x.2 := by simp only [x]; (repeat' first | (simp [*]; done) | split); done
        clear_value x
      | clear_value x
    | simp [*]; done
    | split

@[simp] theorem Chip.resetEnd_keeps (s : Chip) (p : Nat) (v : UsbSpeed) : Keeps s (Chip.resetEnd s p v) := by unfold Chip.resetEnd; (repeat' split) <;> simp

@[simp] theorem Chip.resumeDone_keeps (s : Chip) (p : Nat) : Keeps s (Chip.resumeDone s p) := by
  unfold Chip.resumeDone
  repeat' first
    | (try lift_lets); intro x
      first
      | have hx : Keeps s x := by simp only [x]; (repeat' first | (simp [*]; done) | split); done
        clear_value x
      | have hx : Keeps s x.2 := by simp only [x]; (repeat' first | (simp [*]; done) | split); done
        clear_value x
      | clear_value x
    | simp [*]; done
    | split

@[simp] theorem Chip.resumeEnd_keeps (s : Chip) (p : Nat) : Keeps s (Chip.resumeEnd s p) := by unfold Chip.resumeEnd; (repeat' split) <;> simp

@[simp] theorem Chip.l1Exit_keeps (s : Chip) (p : Nat) : Keeps s (Chip.l1Exit s p) := by
  unfold Chip.l1Exit
  repeat' first
    | (try lift_lets); intro x
      first
      | have hx : Keeps s x := by simp only [x]; (repeat' first | (simp [*]; done) | split); done
        clear_value x
      | have hx : Keeps s x.2 := by simp only [x]; (repeat' first | (simp [*]; done) | split); done
        clear_value x
      | clear_value x
    | simp [*]; done
    | split

@[simp] theorem Chip.l1End_keeps (s : Chip) (p : Nat) : Keeps s (Chip.l1End s p) := by
  unfold Chip.l1End
  repeat' first
    | (try lift_lets); intro x
      first
      | have hx : Keeps s x := by simp only [x]; (repeat' first | (simp [*]; done) | split); done
        clear_value x
      | have hx : Keeps s x.2 := by simp only [x]; (repeat' first | (simp [*]; done) | split); done
        clear_value x
      | clear_value x
    | simp [*]; done
    | split

@[simp] theorem Chip.deviceWake_keeps (s : Chip) (p : Nat) : Keeps s (Chip.deviceWake s p) := by
  unfold Chip.deviceWake
  repeat' first
    | (try lift_lets); intro x
      first
      | have hx : Keeps s x := by simp only [x]; (repeat' first | (simp [*]; done) | split); done
        clear_value x
      | have hx : Keeps s x.2 := by simp only [x]; (repeat' first | (simp [*]; done) | split); done
        clear_value x
      | clear_value x
    | simp [*]; done
    | split

@[simp] theorem Chip.l1Entry_keeps (s : Chip) (p besl : Nat) : Keeps s (Chip.l1Entry s p besl) := by
  unfold Chip.l1Entry
  repeat' first
    | (try lift_lets); intro x
      first
      | have hx : Keeps s x := by simp only [x]; (repeat' first | (simp [*]; done) | split); done
        clear_value x
      | have hx : Keeps s x.2 := by simp only [x]; (repeat' first | (simp [*]; done) | split); done
        clear_value x
      | clear_value x
    | simp [*]; done
    | split

@[simp] theorem Chip.portStatus_keeps (s : Chip) (p : Nat) : Keeps s (Chip.portStatus s p) := by
  unfold Chip.portStatus
  repeat' first
    | (try lift_lets); intro x
      first
      | have hx : Keeps s x := by simp only [x]; (repeat' first | with_reducible refine Chip.portReq_keeps _ _ _ fun s => ?_ | (simp [*]; done) | split | dsimp only); done
        clear_value x
      | have hx : Keeps s x.2 := by simp only [x]; (repeat' first | with_reducible refine Chip.portReq_keeps _ _ _ fun s => ?_ | (simp [*]; done) | split | dsimp only); done
        clear_value x
      | clear_value x
    | with_reducible refine Chip.portReq_keeps _ _ _ fun s => ?_
    | simp [*]; done
    | split
    | dsimp only

theorem Chip.setPort_keeps (s : Chip) (p : Nat) (f : Chip → Chip) (h : ∀ s, Keeps s (f s)) : Keeps s (s.setPort p f) :=
  Chip.portReq_keeps _ _ _ fun s => by
    have := h s
    split <;> simp_all

theorem Chip.clearPort_keeps (s : Chip) (p : Nat) (f : Chip → Chip) (h : ∀ s, Keeps s (f s)) : Keeps s (s.clearPort p f) :=
  Chip.portReq_keeps _ _ _ fun s => by
    have := h s
    split <;> simp_all

@[simp] theorem Chip.testPort_keeps (s : Chip) (p mode : Nat) : Keeps s (Chip.testPort s p mode) := by
  unfold Chip.testPort
  repeat' first
    | (try lift_lets); intro x
      first
      | have hx : Keeps s x := by simp only [x]; (repeat' first | with_reducible refine Chip.portReq_keeps _ _ _ fun s => ?_ | (simp [*]; done) | split | dsimp only); done
        clear_value x
      | have hx : Keeps s x.2 := by simp only [x]; (repeat' first | with_reducible refine Chip.portReq_keeps _ _ _ fun s => ?_ | (simp [*]; done) | split | dsimp only); done
        clear_value x
      | clear_value x
    | with_reducible refine Chip.portReq_keeps _ _ _ fun s => ?_
    | simp [*]; done
    | split
    | dsimp only

@[simp] theorem Chip.clearChange_keeps (s : Chip) (p : Nat) (c : PortChange) : Keeps s (Chip.clearChange s p c) := by
  unfold Chip.clearChange
  repeat' first
    | (try lift_lets); intro x
      first
      | have hx : Keeps s x := by simp only [x]; (repeat' first | with_reducible refine Chip.portReq_keeps _ _ _ fun s => ?_ | (simp [*]; done) | split | dsimp only); done
        clear_value x
      | have hx : Keeps s x.2 := by simp only [x]; (repeat' first | with_reducible refine Chip.portReq_keeps _ _ _ fun s => ?_ | (simp [*]; done) | split | dsimp only); done
        clear_value x
      | clear_value x
    | with_reducible refine Chip.portReq_keeps _ _ _ fun s => ?_
    | simp [*]; done
    | split
    | dsimp only

theorem Chip.ttReq_keeps (s : Chip) (p : Nat) (f : Chip → Chip) (h : ∀ s, Keeps s (f s)) : Keeps s (s.ttReq p f) :=
  Chip.portReq_keeps _ _ _ fun s => by
    have := h s
    (repeat' split) <;> simp_all

@[simp] theorem Chip.ttStop_keeps (s : Chip) (p : Nat) : Keeps s (Chip.ttStop s p) := by
  unfold Chip.ttStop
  repeat' first
    | (try lift_lets); intro x
      first
      | have hx : Keeps s x := by simp only [x]; (repeat' first | with_reducible refine Keeps.each (fun s _ => ?_) ?_ | (simp [*]; done) | split | dsimp only); done
        clear_value x
      | have hx : Keeps s x.2 := by simp only [x]; (repeat' first | with_reducible refine Keeps.each (fun s _ => ?_) ?_ | (simp [*]; done) | split | dsimp only); done
        clear_value x
      | clear_value x
    | with_reducible refine Keeps.each (fun s _ => ?_) ?_
    | simp [*]; done
    | split
    | dsimp only

@[simp] theorem Chip.periodicAt_keeps (s : Chip) (p : Nat) (ep : TtEndpoint) (n : Nat) : Keeps s (Chip.periodicAt s p ep n) := by
  unfold Chip.periodicAt
  repeat' first
    | (try lift_lets); intro x
      first
      | have hx : Keeps s x := by simp only [x]; (repeat' first | with_reducible refine Keeps.foldl (fun s _ => ?_) ?_ | (simp [*]; done) | split | dsimp only); done
        clear_value x
      | have hx : Keeps s x.2 := by simp only [x]; (repeat' first | with_reducible refine Keeps.foldl (fun s _ => ?_) ?_ | (simp [*]; done) | split | dsimp only); done
        clear_value x
      | clear_value x
    | with_reducible refine Keeps.foldl (fun s _ => ?_) ?_
    | simp [*]; done
    | split
    | dsimp only

@[simp] theorem Chip.periodicStart_keeps (s : Chip) (p : Nat) (ep : TtEndpoint) (n : Nat) : Keeps s (Chip.periodicStart s p ep n) := by simp [Chip.periodicStart]

@[simp] theorem Chip.nonperiodicStart_keeps (s : Chip) (p : Nat) (ep : TtEndpoint) (data : List (BitVec 8)) : Keeps s (Chip.nonperiodicStart s p ep data) := by
  unfold Chip.nonperiodicStart
  repeat' first
    | (try lift_lets); intro x
      first
      | have hx : Keeps s x := by simp only [x]; (repeat' first | (simp [*]; done) | split); done
        clear_value x
      | have hx : Keeps s x.2 := by simp only [x]; (repeat' first | (simp [*]; done) | split); done
        clear_value x
      | clear_value x
    | simp [*]; done
    | split

@[simp] theorem Chip.ttTick_keeps (s : Chip) (p : Nat) (newFrame : Bool) : Keeps s (Chip.ttTick s p newFrame) := by
  unfold Chip.ttTick
  repeat' first
    | (try lift_lets); intro x
      first
      | have hx : Keeps s x := by simp only [x]; (repeat' first | (simp [*]; done) | split); done
        clear_value x
      | have hx : Keeps s x.2 := by simp only [x]; (repeat' first | (simp [*]; done) | split); done
        clear_value x
      | clear_value x
    | simp [*]; done
    | split

@[simp] theorem Chip.hubTick_keeps (s : Chip) : Keeps s (Chip.hubTick s) := by
  unfold Chip.hubTick
  repeat' first
    | (try lift_lets); intro x
      first
      | have hx : Keeps s x := by simp only [x]; (repeat' first | with_reducible refine Keeps.each (fun s _ => ?_) ?_ | (simp [*]; done) | split | dsimp only); done
        clear_value x
      | have hx : Keeps s x.2 := by simp only [x]; (repeat' first | with_reducible refine Keeps.each (fun s _ => ?_) ?_ | (simp [*]; done) | split | dsimp only); done
        clear_value x
      | clear_value x
    | with_reducible refine Keeps.each (fun s _ => ?_) ?_
    | simp [*]; done
    | split
    | dsimp only

@[simp] theorem Chip.upSuspend_keeps (s : Chip) : Keeps s (Chip.upSuspend s) := by simp [Chip.upSuspend]

@[simp] theorem Chip.remoteWake_keeps (s : Chip) : Keeps s (Chip.remoteWake s) := by simp [Chip.remoteWake]

@[simp] theorem Chip.upResume_keeps (s : Chip) : Keeps s (Chip.upResume s) := by
  unfold Chip.upResume
  repeat' first
    | (try lift_lets); intro x
      first
      | have hx : Keeps s x := by simp only [x]; (repeat' first | (simp [*]; done) | split); done
        clear_value x
      | have hx : Keeps s x.2 := by simp only [x]; (repeat' first | (simp [*]; done) | split); done
        clear_value x
      | clear_value x
    | simp [*]; done
    | split

@[simp] theorem Chip.lpm_keeps (s : Chip) (quiet : Bool) (besl : Nat) : Keeps s (Chip.lpm s quiet besl) := by simp [Chip.lpm]

@[simp] theorem Chip.statusIn_keeps (s : Chip) : Keeps s (Chip.statusIn s) := by
  unfold Chip.statusIn
  repeat' first
    | (try lift_lets); intro x
      first
      | have hx : Keeps s x := by simp only [x]; (repeat' first | with_reducible refine Keeps.foldl (fun s _ => ?_) ?_ | (simp [*]; done) | split | dsimp only); done
        clear_value x
      | have hx : Keeps s x.2 := by simp only [x]; (repeat' first | with_reducible refine Keeps.foldl (fun s _ => ?_) ?_ | (simp [*]; done) | split | dsimp only); done
        clear_value x
      | clear_value x
    | with_reducible refine Keeps.foldl (fun s _ => ?_) ?_
    | simp [*]; done
    | split
    | dsimp only

@[simp] theorem Chip.connectChange_keeps (s : Chip) (p : Nat) (connected : Bool) (v : UsbSpeed) : Keeps s (Chip.connectChange s p connected v) := by simp [Chip.connectChange]

@[simp] theorem Chip.babble_keeps (s : Chip) (p : Nat) : Keeps s (Chip.babble s p) := by simp [Chip.babble]

@[simp] theorem Chip.fetchEcc_keeps (s : Chip) (e : Nat) : Keeps s (Chip.fetchEcc s e).2 := by
  unfold Chip.fetchEcc
  repeat' first
    | (try lift_lets); intro x
      first
      | have hx : Keeps s x := by simp only [x]; (repeat' first | (simp [*]; done) | split); done
        clear_value x
      | have hx : Keeps s x.2 := by simp only [x]; (repeat' first | (simp [*]; done) | split); done
        clear_value x
      | clear_value x
    | simp [*]; done
    | rename_i h; obtain rfl := congrArg Prod.snd h; simp; done
    | split

theorem Chip.isa_keeps (s : Chip) (e : Nat) (f : Chip → Chip) (h : ∀ s, Keeps s (f s)) : Keeps s (s.isa e f) := by
  unfold Chip.isa
  split
  · dsimp only
    split
    · have := h (s.fetchEcc e).2; simp_all
    · simp
  · simp

@[simp] theorem isaCompute_keeps (e d : Nat) (f : Engine → BitVec 32 × FlagUpd) (s : Chip) : Keeps s (isaCompute e d f s) :=
  Chip.isa_keeps _ _ _ fun s => by simp

@[simp] theorem isaOp3_keeps (e d a b : Nat) (f : BitVec 32 → BitVec 32 → BitVec 32 × FlagUpd) (s : Chip) : Keeps s (isaOp3 e d a b f s) :=
  isaCompute_keeps _ _ _ _

@[simp] theorem Chip.illegal_keeps (s : Chip) (e w : Nat) : Keeps s (Chip.illegal s e w) := by simp [Chip.illegal]

@[simp] theorem isaMacOp_keeps (e a b form : Nat) (sub : Bool) (s : Chip) : Keeps s (isaMacOp e a b form sub s) := by
  unfold isaMacOp
  repeat' first
    | (try lift_lets); intro x
      first
      | have hx : Keeps s x := by simp only [x]; (repeat' first | with_reducible refine Chip.isa_keeps _ _ _ fun s => ?_ | (simp [*]; done) | split | dsimp only); done
        clear_value x
      | have hx : Keeps s x.2 := by simp only [x]; (repeat' first | with_reducible refine Chip.isa_keeps _ _ _ fun s => ?_ | (simp [*]; done) | split | dsimp only); done
        clear_value x
      | clear_value x
    | with_reducible refine Chip.isa_keeps _ _ _ fun s => ?_
    | simp [*]; done
    | split
    | dsimp only

@[simp] theorem isaRacc_keeps (e d form : Nat) (clear : Bool) (s : Chip) : Keeps s (isaRacc e d form clear s) := by
  unfold isaRacc
  repeat' first
    | (try lift_lets); intro x
      first
      | have hx : Keeps s x := by simp only [x]; (repeat' first | with_reducible refine Chip.isa_keeps _ _ _ fun s => ?_ | (simp [*]; done) | split | dsimp only); done
        clear_value x
      | have hx : Keeps s x.2 := by simp only [x]; (repeat' first | with_reducible refine Chip.isa_keeps _ _ _ fun s => ?_ | (simp [*]; done) | split | dsimp only); done
        clear_value x
      | clear_value x
    | with_reducible refine Chip.isa_keeps _ _ _ fun s => ?_
    | simp [*]; done
    | split
    | dsimp only

@[simp] theorem isaWaccOp_keeps (e a b : Nat) (s : Chip) : Keeps s (isaWaccOp e a b s) := by
  unfold isaWaccOp
  repeat' first
    | (try lift_lets); intro x
      first
      | have hx : Keeps s x := by simp only [x]; (repeat' first | with_reducible refine Chip.isa_keeps _ _ _ fun s => ?_ | (simp [*]; done) | split | dsimp only); done
        clear_value x
      | have hx : Keeps s x.2 := by simp only [x]; (repeat' first | with_reducible refine Chip.isa_keeps _ _ _ fun s => ?_ | (simp [*]; done) | split | dsimp only); done
        clear_value x
      | clear_value x
    | with_reducible refine Chip.isa_keeps _ _ _ fun s => ?_
    | simp [*]; done
    | split
    | dsimp only

@[simp] theorem isaBf_keeps (e d a pos wm1 kind : Nat) (s : Chip) : Keeps s (isaBf e d a pos wm1 kind s) := by
  unfold isaBf
  repeat' first
    | (try lift_lets); intro x
      first
      | have hx : Keeps s x := by simp only [x]; (repeat' first | with_reducible refine Chip.isa_keeps _ _ _ fun s => ?_ | (simp [*]; done) | split | dsimp only); done
        clear_value x
      | have hx : Keeps s x.2 := by simp only [x]; (repeat' first | with_reducible refine Chip.isa_keeps _ _ _ fun s => ?_ | (simp [*]; done) | split | dsimp only); done
        clear_value x
      | clear_value x
    | with_reducible refine Chip.isa_keeps _ _ _ fun s => ?_
    | simp [*]; done
    | rename_i h; obtain rfl := congrArg Prod.snd h; simp; done
    | split
    | dsimp only

@[simp] theorem isaBranch_keeps (e cond : Nat) (imm : BitVec 14) (s : Chip) : Keeps s (isaBranch e cond imm s) := by
  unfold isaBranch
  repeat' first
    | (try lift_lets); intro x
      first
      | have hx : Keeps s x := by simp only [x]; (repeat' first | with_reducible refine Chip.isa_keeps _ _ _ fun s => ?_ | (simp [*]; done) | split | dsimp only); done
        clear_value x
      | have hx : Keeps s x.2 := by simp only [x]; (repeat' first | with_reducible refine Chip.isa_keeps _ _ _ fun s => ?_ | (simp [*]; done) | split | dsimp only); done
        clear_value x
      | clear_value x
    | with_reducible refine Chip.isa_keeps _ _ _ fun s => ?_
    | simp [*]; done
    | split
    | dsimp only

@[simp] theorem isaCallTo_keeps (e : Nat) (imm : BitVec 14) (s : Chip) : Keeps s (isaCallTo e imm s) := by
  unfold isaCallTo
  repeat' first
    | (try lift_lets); intro x
      first
      | have hx : Keeps s x := by simp only [x]; (repeat' first | with_reducible refine Chip.isa_keeps _ _ _ fun s => ?_ | (simp [*]; done) | split | dsimp only); done
        clear_value x
      | have hx : Keeps s x.2 := by simp only [x]; (repeat' first | with_reducible refine Chip.isa_keeps _ _ _ fun s => ?_ | (simp [*]; done) | split | dsimp only); done
        clear_value x
      | clear_value x
    | with_reducible refine Chip.isa_keeps _ _ _ fun s => ?_
    | simp [*]; done
    | split
    | dsimp only

@[simp] theorem isaJump_keeps (e a : Nat) (link : Bool) (s : Chip) : Keeps s (isaJump e a link s) := by
  unfold isaJump
  repeat' first
    | (try lift_lets); intro x
      first
      | have hx : Keeps s x := by simp only [x]; (repeat' first | with_reducible refine Chip.isa_keeps _ _ _ fun s => ?_ | (simp [*]; done) | split | dsimp only); done
        clear_value x
      | have hx : Keeps s x.2 := by simp only [x]; (repeat' first | with_reducible refine Chip.isa_keeps _ _ _ fun s => ?_ | (simp [*]; done) | split | dsimp only); done
        clear_value x
      | clear_value x
    | with_reducible refine Chip.isa_keeps _ _ _ fun s => ?_
    | simp [*]; done
    | split
    | dsimp only

@[simp] theorem isaLoopOp_keeps (e a : Nat) (imm : BitVec 14) (s : Chip) : Keeps s (isaLoopOp e a imm s) := by
  unfold isaLoopOp
  repeat' first
    | (try lift_lets); intro x
      first
      | have hx : Keeps s x := by simp only [x]; (repeat' first | with_reducible refine Chip.isa_keeps _ _ _ fun s => ?_ | (simp [*]; done) | split | dsimp only); done
        clear_value x
      | have hx : Keeps s x.2 := by simp only [x]; (repeat' first | with_reducible refine Chip.isa_keeps _ _ _ fun s => ?_ | (simp [*]; done) | split | dsimp only); done
        clear_value x
      | clear_value x
    | with_reducible refine Chip.isa_keeps _ _ _ fun s => ?_
    | simp [*]; done
    | rename_i h; obtain rfl := congrArg Prod.snd h; simp; done
    | split
    | dsimp only

@[simp] theorem isaDbnzOp_keeps (e d : Nat) (imm : BitVec 14) (s : Chip) : Keeps s (isaDbnzOp e d imm s) := by
  unfold isaDbnzOp
  repeat' first
    | (try lift_lets); intro x
      first
      | have hx : Keeps s x := by simp only [x]; (repeat' first | with_reducible refine Chip.isa_keeps _ _ _ fun s => ?_ | (simp [*]; done) | split | dsimp only); done
        clear_value x
      | have hx : Keeps s x.2 := by simp only [x]; (repeat' first | with_reducible refine Chip.isa_keeps _ _ _ fun s => ?_ | (simp [*]; done) | split | dsimp only); done
        clear_value x
      | clear_value x
    | with_reducible refine Chip.isa_keeps _ _ _ fun s => ?_
    | simp [*]; done
    | split
    | dsimp only

@[simp] theorem Chip.contend_keeps (s : Chip) (e bound : Nat) : Keeps s (Chip.contend s e bound) := by
  unfold Chip.contend
  repeat' first
    | (try lift_lets); intro x
      first
      | have hx : Keeps s x := by simp only [x]; (repeat' first | (simp [*]; done) | split); done
        clear_value x
      | have hx : Keeps s x.2 := by simp only [x]; (repeat' first | (simp [*]; done) | split); done
        clear_value x
      | clear_value x
    | simp [*]; done
    | split

@[simp] theorem Chip.accessEnd_keeps (s : Chip) (e bound access : Nat) : Keeps s (Chip.accessEnd s e bound access) := by simp [Chip.accessEnd]

@[simp] theorem Chip.didEnd_keeps (d : Did) (e addr n : Nat) : Keeps d.2 (Chip.didEnd d e addr n) := by
  unfold Chip.didEnd; split <;> simp

@[simp] theorem Chip.itemIn_keeps (s : Chip) (e d : Nat) (v : Nat) (z c v_ : Bool) : Keeps s (Chip.itemIn s e d v z c v_) := by simp [Chip.itemIn]

@[simp] theorem isaTake_keeps (e d a : Nat) (wait : Bool) (s : Chip) : Keeps s (isaTake e d a wait s) := by
  unfold isaTake
  repeat' first
    | (try lift_lets); intro x
      first
      | have hx : Keeps s x := by simp only [x]; (repeat' first | with_reducible refine Chip.isa_keeps _ _ _ fun s => ?_ | (simp [*]; done) | split | dsimp only); done
        clear_value x
      | have hx : Keeps s x.2 := by simp only [x]; (repeat' first | with_reducible refine Chip.isa_keeps _ _ _ fun s => ?_ | (simp [*]; done) | split | dsimp only); done
        clear_value x
      | clear_value x
    | with_reducible refine Chip.isa_keeps _ _ _ fun s => ?_
    | simp [*]; done
    | rename_i h; obtain rfl := congrArg Prod.snd h; simp; done
    | split
    | dsimp only

@[simp] theorem Chip.setDZ_keeps (s : Chip) (e d v : Nat) (z : Bool) : Keeps s (Chip.setDZ s e d v z) := by simp [Chip.setDZ]

@[simp] theorem Chip.setD_keeps (s : Chip) (e d v : Nat) : Keeps s (Chip.setD s e d v) := by simp [Chip.setD]

@[simp] theorem isaInfo_keeps (e d a : Nat) (words : Bool) (s : Chip) : Keeps s (isaInfo e d a words s) := by
  unfold isaInfo
  repeat' first
    | (try lift_lets); intro x
      first
      | have hx : Keeps s x := by simp only [x]; (repeat' first | with_reducible refine Chip.isa_keeps _ _ _ fun s => ?_ | (simp [*]; done) | split | dsimp only); done
        clear_value x
      | have hx : Keeps s x.2 := by simp only [x]; (repeat' first | with_reducible refine Chip.isa_keeps _ _ _ fun s => ?_ | (simp [*]; done) | split | dsimp only); done
        clear_value x
      | clear_value x
    | with_reducible refine Chip.isa_keeps _ _ _ fun s => ?_
    | simp [*]; done
    | split
    | dsimp only

@[simp] theorem isaDropp_keeps (e a : Nat) (s : Chip) : Keeps s (isaDropp e a s) := by
  unfold isaDropp
  repeat' first
    | (try lift_lets); intro x
      first
      | have hx : Keeps s x := by simp only [x]; (repeat' first | with_reducible refine Chip.isa_keeps _ _ _ fun s => ?_ | (simp [*]; done) | split | dsimp only); done
        clear_value x
      | have hx : Keeps s x.2 := by simp only [x]; (repeat' first | with_reducible refine Chip.isa_keeps _ _ _ fun s => ?_ | (simp [*]; done) | split | dsimp only); done
        clear_value x
      | clear_value x
    | with_reducible refine Chip.isa_keeps _ _ _ fun s => ?_
    | simp [*]; done
    | split
    | dsimp only

@[simp] theorem isaAlloc_keeps (e d : Nat) (wait : Bool) (s : Chip) : Keeps s (isaAlloc e d wait s) := by
  unfold isaAlloc
  repeat' first
    | (try lift_lets); intro x
      first
      | have hx : Keeps s x := by simp only [x]; (repeat' first | with_reducible refine Chip.isa_keeps _ _ _ fun s => ?_ | (simp [*]; done) | split | dsimp only); done
        clear_value x
      | have hx : Keeps s x.2 := by simp only [x]; (repeat' first | with_reducible refine Chip.isa_keeps _ _ _ fun s => ?_ | (simp [*]; done) | split | dsimp only); done
        clear_value x
      | clear_value x
    | with_reducible refine Chip.isa_keeps _ _ _ fun s => ?_
    | simp [*]; done
    | rename_i h; obtain rfl := congrArg Prod.snd h; simp; done
    | split
    | dsimp only

@[simp] theorem isaFree_keeps (e a : Nat) (s : Chip) : Keeps s (isaFree e a s) := by
  unfold isaFree
  repeat' first
    | (try lift_lets); intro x
      first
      | have hx : Keeps s x := by simp only [x]; (repeat' first | with_reducible refine Chip.isa_keeps _ _ _ fun s => ?_ | (simp [*]; done) | split | dsimp only); done
        clear_value x
      | have hx : Keeps s x.2 := by simp only [x]; (repeat' first | with_reducible refine Chip.isa_keeps _ _ _ fun s => ?_ | (simp [*]; done) | split | dsimp only); done
        clear_value x
      | clear_value x
    | with_reducible refine Chip.isa_keeps _ _ _ fun s => ?_
    | simp [*]; done
    | split
    | dsimp only

@[simp] theorem isaGive_keeps (e a b : Nat) (s : Chip) : Keeps s (isaGive e a b s) := by
  unfold isaGive
  repeat' first
    | (try lift_lets); intro x
      first
      | have hx : Keeps s x := by simp only [x]; (repeat' first | with_reducible refine Chip.isa_keeps _ _ _ fun s => ?_ | (simp [*]; done) | split | dsimp only); done
        clear_value x
      | have hx : Keeps s x.2 := by simp only [x]; (repeat' first | with_reducible refine Chip.isa_keeps _ _ _ fun s => ?_ | (simp [*]; done) | split | dsimp only); done
        clear_value x
      | clear_value x
    | with_reducible refine Chip.isa_keeps _ _ _ fun s => ?_
    | simp [*]; done
    | split
    | dsimp only

@[simp] theorem isaLock_keeps (e d a : Nat) (wait : Bool) (s : Chip) : Keeps s (isaLock e d a wait s) := by
  unfold isaLock
  repeat' first
    | (try lift_lets); intro x
      first
      | have hx : Keeps s x := by simp only [x]; (repeat' first | with_reducible refine Chip.isa_keeps _ _ _ fun s => ?_ | (simp [*]; done) | split | dsimp only); done
        clear_value x
      | have hx : Keeps s x.2 := by simp only [x]; (repeat' first | with_reducible refine Chip.isa_keeps _ _ _ fun s => ?_ | (simp [*]; done) | split | dsimp only); done
        clear_value x
      | clear_value x
    | with_reducible refine Chip.isa_keeps _ _ _ fun s => ?_
    | simp [*]; done
    | split
    | dsimp only

@[simp] theorem isaUnlock_keeps (e a : Nat) (s : Chip) : Keeps s (isaUnlock e a s) := by
  unfold isaUnlock
  repeat' first
    | (try lift_lets); intro x
      first
      | have hx : Keeps s x := by simp only [x]; (repeat' first | with_reducible refine Chip.isa_keeps _ _ _ fun s => ?_ | (simp [*]; done) | split | dsimp only); done
        clear_value x
      | have hx : Keeps s x.2 := by simp only [x]; (repeat' first | with_reducible refine Chip.isa_keeps _ _ _ fun s => ?_ | (simp [*]; done) | split | dsimp only); done
        clear_value x
      | clear_value x
    | with_reducible refine Chip.isa_keeps _ _ _ fun s => ?_
    | simp [*]; done
    | split
    | dsimp only

@[simp] theorem isaUnpoison_keeps (e a : Nat) (s : Chip) : Keeps s (isaUnpoison e a s) := by
  unfold isaUnpoison
  repeat' first
    | (try lift_lets); intro x
      first
      | have hx : Keeps s x := by simp only [x]; (repeat' first | with_reducible refine Chip.isa_keeps _ _ _ fun s => ?_ | (simp [*]; done) | split | dsimp only); done
        clear_value x
      | have hx : Keeps s x.2 := by simp only [x]; (repeat' first | with_reducible refine Chip.isa_keeps _ _ _ fun s => ?_ | (simp [*]; done) | split | dsimp only); done
        clear_value x
      | clear_value x
    | with_reducible refine Chip.isa_keeps _ _ _ fun s => ?_
    | simp [*]; done
    | split
    | dsimp only

@[simp] theorem isaRecv_keeps (e d a : Nat) (wait : Bool) (s : Chip) : Keeps s (isaRecv e d a wait s) := by
  unfold isaRecv
  repeat' first
    | (try lift_lets); intro x
      first
      | have hx : Keeps s x := by simp only [x]; (repeat' first | with_reducible refine Chip.isa_keeps _ _ _ fun s => ?_ | (simp [*]; done) | split | dsimp only); done
        clear_value x
      | have hx : Keeps s x.2 := by simp only [x]; (repeat' first | with_reducible refine Chip.isa_keeps _ _ _ fun s => ?_ | (simp [*]; done) | split | dsimp only); done
        clear_value x
      | clear_value x
    | with_reducible refine Chip.isa_keeps _ _ _ fun s => ?_
    | simp [*]; done
    | rename_i h; obtain rfl := congrArg Prod.snd h; simp; done
    | split
    | dsimp only

@[simp] theorem isaCtlOp_keeps (e d : Nat) (s : Chip) : Keeps s (isaCtlOp e d s) := by
  unfold isaCtlOp
  repeat' first
    | (try lift_lets); intro x
      first
      | have hx : Keeps s x := by simp only [x]; (repeat' first | with_reducible refine Chip.isa_keeps _ _ _ fun s => ?_ | (simp [*]; done) | split | dsimp only); done
        clear_value x
      | have hx : Keeps s x.2 := by simp only [x]; (repeat' first | with_reducible refine Chip.isa_keeps _ _ _ fun s => ?_ | (simp [*]; done) | split | dsimp only); done
        clear_value x
      | clear_value x
    | with_reducible refine Chip.isa_keeps _ _ _ fun s => ?_
    | simp [*]; done
    | split
    | dsimp only

@[simp] theorem isaWmarkOp_keeps (e : Nat) (s : Chip) : Keeps s (isaWmarkOp e s) := by
  unfold isaWmarkOp
  repeat' first
    | (try lift_lets); intro x
      first
      | have hx : Keeps s x := by simp only [x]; (repeat' first | with_reducible refine Chip.isa_keeps _ _ _ fun s => ?_ | (simp [*]; done) | split | dsimp only); done
        clear_value x
      | have hx : Keeps s x.2 := by simp only [x]; (repeat' first | with_reducible refine Chip.isa_keeps _ _ _ fun s => ?_ | (simp [*]; done) | split | dsimp only); done
        clear_value x
      | clear_value x
    | with_reducible refine Chip.isa_keeps _ _ _ fun s => ?_
    | simp [*]; done
    | split
    | dsimp only

@[simp] theorem isaWtimeOp_keeps (e a b : Nat) (s : Chip) : Keeps s (isaWtimeOp e a b s) := by
  unfold isaWtimeOp
  repeat' first
    | (try lift_lets); intro x
      first
      | have hx : Keeps s x := by simp only [x]; (repeat' first | with_reducible refine Chip.isa_keeps _ _ _ fun s => ?_ | (simp [*]; done) | split | dsimp only); done
        clear_value x
      | have hx : Keeps s x.2 := by simp only [x]; (repeat' first | with_reducible refine Chip.isa_keeps _ _ _ fun s => ?_ | (simp [*]; done) | split | dsimp only); done
        clear_value x
      | clear_value x
    | with_reducible refine Chip.isa_keeps _ _ _ fun s => ?_
    | simp [*]; done
    | split
    | dsimp only

@[simp] theorem isaEvent_keeps (e d : Nat) (wait : Bool) (s : Chip) : Keeps s (isaEvent e d wait s) := by
  unfold isaEvent
  repeat' first
    | (try lift_lets); intro x
      first
      | have hx : Keeps s x := by simp only [x]; (repeat' first | with_reducible refine Chip.isa_keeps _ _ _ fun s => ?_ | (simp [*]; done) | split | dsimp only); done
        clear_value x
      | have hx : Keeps s x.2 := by simp only [x]; (repeat' first | with_reducible refine Chip.isa_keeps _ _ _ fun s => ?_ | (simp [*]; done) | split | dsimp only); done
        clear_value x
      | clear_value x
    | with_reducible refine Chip.isa_keeps _ _ _ fun s => ?_
    | simp [*]; done
    | rename_i h; obtain rfl := congrArg Prod.snd h; simp; done
    | split
    | dsimp only

@[simp] theorem isaEvsigOp_keeps (e a : Nat) (s : Chip) : Keeps s (isaEvsigOp e a s) := by
  unfold isaEvsigOp
  repeat' first
    | (try lift_lets); intro x
      first
      | have hx : Keeps s x := by simp only [x]; (repeat' first | with_reducible refine Chip.isa_keeps _ _ _ fun s => ?_ | (simp [*]; done) | split | dsimp only); done
        clear_value x
      | have hx : Keeps s x.2 := by simp only [x]; (repeat' first | with_reducible refine Chip.isa_keeps _ _ _ fun s => ?_ | (simp [*]; done) | split | dsimp only); done
        clear_value x
      | clear_value x
    | with_reducible refine Chip.isa_keeps _ _ _ fun s => ?_
    | simp [*]; done
    | split
    | dsimp only

@[simp] theorem isaCsrRead_keeps (e d n : Nat) (s : Chip) : Keeps s (isaCsrRead e d n s) := by
  unfold isaCsrRead
  repeat' first
    | (try lift_lets); intro x
      first
      | have hx : Keeps s x := by simp only [x]; (repeat' first | with_reducible refine Chip.isa_keeps _ _ _ fun s => ?_ | (simp [*]; done) | split | dsimp only); done
        clear_value x
      | have hx : Keeps s x.2 := by simp only [x]; (repeat' first | with_reducible refine Chip.isa_keeps _ _ _ fun s => ?_ | (simp [*]; done) | split | dsimp only); done
        clear_value x
      | clear_value x
    | with_reducible refine Chip.isa_keeps _ _ _ fun s => ?_
    | simp [*]; done
    | split
    | dsimp only

@[simp] theorem isaCsrWrite_keeps (e n a : Nat) (s : Chip) : Keeps s (isaCsrWrite e n a s) := by
  unfold isaCsrWrite
  repeat' first
    | (try lift_lets); intro x
      first
      | have hx : Keeps s x := by simp only [x]; (repeat' first | with_reducible refine Chip.isa_keeps _ _ _ fun s => ?_ | (simp [*]; done) | split | dsimp only); done
        clear_value x
      | have hx : Keeps s x.2 := by simp only [x]; (repeat' first | with_reducible refine Chip.isa_keeps _ _ _ fun s => ?_ | (simp [*]; done) | split | dsimp only); done
        clear_value x
      | clear_value x
    | with_reducible refine Chip.isa_keeps _ _ _ fun s => ?_
    | simp [*]; done
    | split
    | dsimp only

@[simp] theorem isaNopOp_keeps (e : Nat) (s : Chip) : Keeps s (isaNopOp e s) := by
  unfold isaNopOp
  repeat' first
    | (try lift_lets); intro x
      first
      | have hx : Keeps s x := by simp only [x]; (repeat' first | with_reducible refine Chip.isa_keeps _ _ _ fun s => ?_ | (simp [*]; done) | split | dsimp only); done
        clear_value x
      | have hx : Keeps s x.2 := by simp only [x]; (repeat' first | with_reducible refine Chip.isa_keeps _ _ _ fun s => ?_ | (simp [*]; done) | split | dsimp only); done
        clear_value x
      | clear_value x
    | with_reducible refine Chip.isa_keeps _ _ _ fun s => ?_
    | simp [*]; done
    | split
    | dsimp only

@[simp] theorem isaHaltOp_keeps (e : Nat) (s : Chip) : Keeps s (isaHaltOp e s) := by
  unfold isaHaltOp
  repeat' first
    | (try lift_lets); intro x
      first
      | have hx : Keeps s x := by simp only [x]; (repeat' first | with_reducible refine Chip.isa_keeps _ _ _ fun s => ?_ | (simp [*]; done) | split | dsimp only); done
        clear_value x
      | have hx : Keeps s x.2 := by simp only [x]; (repeat' first | with_reducible refine Chip.isa_keeps _ _ _ fun s => ?_ | (simp [*]; done) | split | dsimp only); done
        clear_value x
      | clear_value x
    | with_reducible refine Chip.isa_keeps _ _ _ fun s => ?_
    | simp [*]; done
    | split
    | dsimp only

@[simp] theorem isaTrapOp_keeps (e code : Nat) (s : Chip) : Keeps s (isaTrapOp e code s) := by
  unfold isaTrapOp
  repeat' first
    | (try lift_lets); intro x
      first
      | have hx : Keeps s x := by simp only [x]; (repeat' first | with_reducible refine Chip.isa_keeps _ _ _ fun s => ?_ | (simp [*]; done) | split | dsimp only); done
        clear_value x
      | have hx : Keeps s x.2 := by simp only [x]; (repeat' first | with_reducible refine Chip.isa_keeps _ _ _ fun s => ?_ | (simp [*]; done) | split | dsimp only); done
        clear_value x
      | clear_value x
    | with_reducible refine Chip.isa_keeps _ _ _ fun s => ?_
    | simp [*]; done
    | split
    | dsimp only

@[simp] theorem isaWflgOp_keeps (e a : Nat) (s : Chip) : Keeps s (isaWflgOp e a s) := by
  unfold isaWflgOp
  repeat' first
    | (try lift_lets); intro x
      first
      | have hx : Keeps s x := by simp only [x]; (repeat' first | with_reducible refine Chip.isa_keeps _ _ _ fun s => ?_ | (simp [*]; done) | split | dsimp only); done
        clear_value x
      | have hx : Keeps s x.2 := by simp only [x]; (repeat' first | with_reducible refine Chip.isa_keeps _ _ _ fun s => ?_ | (simp [*]; done) | split | dsimp only); done
        clear_value x
      | clear_value x
    | with_reducible refine Chip.isa_keeps _ _ _ fun s => ?_
    | simp [*]; done
    | split
    | dsimp only

@[simp] theorem isaCrc_keeps (e d a : Nat) (wide32 word : Bool) (s : Chip) : Keeps s (isaCrc e d a wide32 word s) := by
  unfold isaCrc
  repeat' first
    | (try lift_lets); intro x
      first
      | have hx : Keeps s x := by simp only [x]; (repeat' first | with_reducible refine Keeps.foldl (fun s _ => ?_) ?_ | (simp [*]; done) | split | dsimp only); done
        clear_value x
      | have hx : Keeps s x.2 := by simp only [x]; (repeat' first | with_reducible refine Keeps.foldl (fun s _ => ?_) ?_ | (simp [*]; done) | split | dsimp only); done
        clear_value x
      | clear_value x
    | with_reducible refine Keeps.foldl (fun s _ => ?_) ?_
    | simp [*]; done
    | split
    | dsimp only

@[simp] theorem isaIllegal_keeps (e w : Nat) (s : Chip) : Keeps s (isaIllegal e w s) := by
  unfold isaIllegal
  repeat' first
    | (try lift_lets); intro x
      first
      | have hx : Keeps s x := by simp only [x]; (repeat' first | with_reducible refine Chip.isa_keeps _ _ _ fun s => ?_ | (simp [*]; done) | split | dsimp only); done
        clear_value x
      | have hx : Keeps s x.2 := by simp only [x]; (repeat' first | with_reducible refine Chip.isa_keeps _ _ _ fun s => ?_ | (simp [*]; done) | split | dsimp only); done
        clear_value x
      | clear_value x
    | with_reducible refine Chip.isa_keeps _ _ _ fun s => ?_
    | simp [*]; done
    | split
    | dsimp only

@[simp] theorem Chip.loadEcc_keeps (s : Chip) (e a : Nat) : Keeps s (Chip.loadEcc s e a).2 := by unfold Chip.loadEcc; (repeat' split) <;> simp

theorem Chip.engLoad_keeps (s : Chip) (e : Fin 32) (a n : Nat) {r : Nat × Nat × Chip} (h : s.engLoad e a n = some r) : Keeps s r.2.2 := by
  unfold Chip.engLoad at h
  dsimp only at h
  repeat' split at h
  all_goals (cases h; try simp)

@[simp] theorem Chip.storeEnd_keeps (d : Did) (e addr : Nat) : Keeps d.2 (Chip.storeEnd d e addr) := by
  unfold Chip.storeEnd; split <;> simp

@[simp] theorem isaLoadOp_keeps (e : Fin 32) (d a : Nat) (imm : BitVec 14) (n : Nat) (sx : Bool) (s : Chip) :
    Keeps s (isaLoadOp e d a imm n sx s) :=
  Chip.isa_keeps _ _ _ fun s => by
    dsimp only
    split
    · simp
    · rename_i h
      have := Chip.engLoad_keeps _ _ _ _ h
      simp_all

theorem Chip.pinPort_keeps (s : Chip) (n : Nat) {r : Nat × Chip} (h : s.pinPort n = some r) : Keeps s r.2 := by
  unfold Chip.pinPort at h
  dsimp only at h
  repeat' split at h
  all_goals (cases h; try simp)

@[simp] theorem Chip.portRead_keeps (s : Chip) (n : Nat) : Keeps s (s.portRead n).2 := by
  unfold Chip.portRead
  dsimp only
  split
  · rename_i h
    split at h
    · simp only [Option.map_eq_some_iff] at h; obtain ⟨_, _, rfl⟩ := h; simp
    · simp only [Option.map_eq_some_iff] at h; obtain ⟨_, _, rfl⟩ := h; simp
    · obtain rfl := Option.some.inj h; simp
    · simp only [Option.map_eq_some_iff] at h; obtain ⟨_, _, rfl⟩ := h; simp
    · exact Chip.pinPort_keeps _ _ h
    · split at h
      · obtain rfl := Option.some.inj h; simp
      · simp at h
    · simp at h
  · simp

@[simp] theorem isaPortIn_keeps (e d : Nat) (p : Chip → Nat) (s : Chip) : Keeps s (isaPortIn e d p s) :=
  Chip.isa_keeps _ _ _ fun s => by dsimp only; split <;> simp

@[simp] theorem Chip.signalDetect_keeps (s : Chip) (p : Nat) : Keeps s (Chip.signalDetect s p) := by simp [Chip.signalDetect]

@[simp] theorem Chip.notePartner_keeps (s : Chip) (p : Nat) (obs : TrainObs) : Keeps s (Chip.notePartner s p obs) := by
  unfold Chip.notePartner
  repeat' first
    | (try lift_lets); intro x
      first
      | have hx : Keeps s x := by simp only [x]; (repeat' first | (simp [*]; done) | split); done
        clear_value x
      | have hx : Keeps s x.2 := by simp only [x]; (repeat' first | (simp [*]; done) | split); done
        clear_value x
      | clear_value x
    | simp [*]; done
    | split

@[simp] theorem Chip.stateExit_keeps (s : Chip) (p : Nat) (obs : TrainObs) : Keeps s (Chip.stateExit s p obs) := by
  unfold Chip.stateExit
  repeat' first
    | (try lift_lets); intro x
      first
      | have hx : Keeps s x := by simp only [x]; (repeat' first | (simp [*]; done) | split); done
        clear_value x
      | have hx : Keeps s x.2 := by simp only [x]; (repeat' first | (simp [*]; done) | split); done
        clear_value x
      | clear_value x
    | simp [*]; done
    | rename_i h; obtain rfl := congrArg Prod.snd h; simp; done
    | split

@[simp] theorem Chip.stateAdvance_keeps (s : Chip) (p : Nat) (obs : TrainObs) : Keeps s (Chip.stateAdvance s p obs) := by
  unfold Chip.stateAdvance
  repeat' first
    | (try lift_lets); intro x
      first
      | have hx : Keeps s x := by simp only [x]; (repeat' first | (simp [*]; done) | split); done
        clear_value x
      | have hx : Keeps s x.2 := by simp only [x]; (repeat' first | (simp [*]; done) | split); done
        clear_value x
      | clear_value x
    | simp [*]; done
    | split

@[simp] theorem Chip.trainTimeout_keeps (s : Chip) (p : Nat) : Keeps s (Chip.trainTimeout s p) := by
  unfold Chip.trainTimeout
  repeat' first
    | (try lift_lets); intro x
      first
      | have hx : Keeps s x := by simp only [x]; (repeat' first | (simp [*]; done) | split); done
        clear_value x
      | have hx : Keeps s x.2 := by simp only [x]; (repeat' first | (simp [*]; done) | split); done
        clear_value x
      | clear_value x
    | simp [*]; done
    | split

@[simp] theorem Chip.rankHeard_keeps (s : Chip) (p rank : Nat) : Keeps s (Chip.rankHeard s p rank) := by
  unfold Chip.rankHeard
  repeat' first
    | (try lift_lets); intro x
      first
      | have hx : Keeps s x := by simp only [x]; (repeat' first | (simp [*]; done) | split); done
        clear_value x
      | have hx : Keeps s x.2 := by simp only [x]; (repeat' first | (simp [*]; done) | split); done
        clear_value x
      | clear_value x
    | simp [*]; done
    | split

@[simp] theorem Chip.requestTake_keeps (s : Chip) (p : Nat) (retrain : Bool) (w c : Nat) : Keeps s (Chip.requestTake s p retrain w c) := by
  unfold Chip.requestTake
  repeat' first
    | (try lift_lets); intro x
      first
      | have hx : Keeps s x := by simp only [x]; (repeat' first | (simp [*]; done) | split); done
        clear_value x
      | have hx : Keeps s x.2 := by simp only [x]; (repeat' first | (simp [*]; done) | split); done
        clear_value x
      | clear_value x
    | simp [*]; done
    | split

@[simp] theorem Chip.requestReceive_keeps (s : Chip) (p : Nat) (body : List (BitVec 8)) : Keeps s (Chip.requestReceive s p body) := by
  unfold Chip.requestReceive
  repeat' first
    | (try lift_lets); intro x
      first
      | have hx : Keeps s x := by simp only [x]; (repeat' first | (simp [*]; done) | split); done
        clear_value x
      | have hx : Keeps s x.2 := by simp only [x]; (repeat' first | (simp [*]; done) | split); done
        clear_value x
      | clear_value x
    | simp [*]; done
    | split

@[simp] theorem Chip.requestAck_keeps (s : Chip) (p : Nat) : Keeps s (Chip.requestAck s p) := by simp [Chip.requestAck]

@[simp] theorem Chip.requestTimeout_keeps (s : Chip) (p : Nat) : Keeps s (Chip.requestTimeout s p) := by simp [Chip.requestTimeout]

@[simp] theorem Chip.upshiftReady_keeps (s : Chip) (p : Nat) : Keeps s (Chip.upshiftReady s p) := by
  unfold Chip.upshiftReady
  repeat' first
    | (try lift_lets); intro x
      first
      | have hx : Keeps s x := by simp only [x]; (repeat' first | (simp [*]; done) | split); done
        clear_value x
      | have hx : Keeps s x.2 := by simp only [x]; (repeat' first | (simp [*]; done) | split); done
        clear_value x
      | clear_value x
    | simp [*]; done
    | rename_i h; obtain rfl := congrArg Prod.snd h; simp; done
    | split

@[simp] theorem Chip.errLimit_keeps (s : Chip) (p lane errors : Nat) : Keeps s (Chip.errLimit s p lane errors) := by
  unfold Chip.errLimit
  repeat' first
    | (try lift_lets); intro x
      first
      | have hx : Keeps s x := by simp only [x]; (repeat' first | (simp [*]; done) | split); done
        clear_value x
      | have hx : Keeps s x.2 := by simp only [x]; (repeat' first | (simp [*]; done) | split); done
        clear_value x
      | clear_value x
    | simp [*]; done
    | split

@[simp] theorem Chip.marginDone_keeps (s : Chip) (p : Nat) (open_ : Bool) (w h : Nat) : Keeps s (Chip.marginDone s p open_ w h) := by simp [Chip.marginDone]

@[simp] theorem Chip.laneWake_keeps (s : Chip) : Keeps s (Chip.laneWake s) := by simp [Chip.laneWake]

@[simp] theorem Chip.wakOff_keeps (s : Chip) (p : Nat) : Keeps s (Chip.wakOff s p) := by
  unfold Chip.wakOff
  repeat' first
    | (try lift_lets); intro x
      first
      | have hx : Keeps s x := by simp only [x]; (repeat' first | (simp [*]; done) | split); done
        clear_value x
      | have hx : Keeps s x.2 := by simp only [x]; (repeat' first | (simp [*]; done) | split); done
        clear_value x
      | clear_value x
    | simp [*]; done
    | split

@[simp] theorem Chip.wakEnd_keeps (s : Chip) : Keeps s (Chip.wakEnd s) := by simp [Chip.wakEnd]

@[simp] theorem Chip.joinNormal_keeps (s : Chip) (p : Nat) : Keeps s (Chip.joinNormal s p) := by simp [Chip.joinNormal]

@[simp] theorem Chip.rangeEvent_keeps (s : Chip) (n word : Nat) : Keeps s (Chip.rangeEvent s n word) := by
  unfold Chip.rangeEvent
  repeat' first
    | (try lift_lets); intro x
      first
      | have hx : Keeps s x := by simp only [x]; (repeat' first | (simp [*]; done) | split); done
        clear_value x
      | have hx : Keeps s x.2 := by simp only [x]; (repeat' first | (simp [*]; done) | split); done
        clear_value x
      | clear_value x
    | simp [*]; done
    | split

@[simp] theorem Chip.ainFlags_keeps (s : Chip) (n word : Nat) : Keeps s (Chip.ainFlags s n word) := by
  unfold Chip.ainFlags
  repeat' first
    | (try lift_lets); intro x
      first
      | have hx : Keeps s x := by simp only [x]; (repeat' first | (simp [*]; done) | split); done
        clear_value x
      | have hx : Keeps s x.2 := by simp only [x]; (repeat' first | (simp [*]; done) | split); done
        clear_value x
      | clear_value x
    | simp [*]; done
    | split

@[simp] theorem Chip.entrySample_keeps (s : Chip) (k e src : Nat) (r : Int) : Keeps s (Chip.entrySample s k e src r).2 := by
  unfold Chip.entrySample
  repeat' first
    | (try lift_lets); intro x
      first
      | have hx : Keeps s x := by simp only [x]; (repeat' first | (simp [*]; done) | split); done
        clear_value x
      | have hx : Keeps s x.2 := by simp only [x]; (repeat' first | (simp [*]; done) | split); done
        clear_value x
      | clear_value x
    | simp [*]; done
    | split

@[simp] theorem Chip.countEdge_keeps (s : Chip) (p : Nat) (up : Bool) : Keeps s (s.countEdge p up) := by
  unfold Chip.countEdge
  extract_lets n s1 last s2 m s3 dest l
  have h1 : Keeps s s1 := by simp [s1]
  have h2 : Keeps s s2 := by simp only [s2]; split <;> simpa using h1
  have h3 : Keeps s s3 := by simpa [s3] using h2
  (repeat' split) <;> simpa using h3

@[simp] theorem Chip.pulse_keeps (s : Chip) (p : Nat) (x : PulseEdge) : Keeps s (Chip.pulse s p x) := by
  unfold Chip.pulse
  repeat' first
    | (try lift_lets); intro x
      first
      | have hx : Keeps s x := by simp only [x]; (repeat' first | (simp [*]; done) | split); done
        clear_value x
      | have hx : Keeps s x.2 := by simp only [x]; (repeat' first | (simp [*]; done) | split); done
        clear_value x
      | clear_value x
    | simp [*]; done
    | rename_i h; obtain rfl := congrArg Prod.snd h; simp; done
    | split

@[simp] theorem Chip.shuntOver_keeps (s : Chip) (n : Nat) : Keeps s (Chip.shuntOver s n) := by
  unfold Chip.shuntOver
  repeat' first
    | (try lift_lets); intro x
      first
      | have hx : Keeps s x := by simp only [x]; (repeat' first | (simp [*]; done) | split); done
        clear_value x
      | have hx : Keeps s x.2 := by simp only [x]; (repeat' first | (simp [*]; done) | split); done
        clear_value x
      | clear_value x
    | simp [*]; done
    | split

@[simp] theorem Chip.measFault_keeps (s : Chip) (code u : Nat) : Keeps s (Chip.measFault s code u) := by unfold Chip.measFault; (repeat' split) <;> simp

@[simp] theorem Chip.mgmtEnd_keeps (s : Chip) (q : MgmtReq) (status : Nat) (data : List (BitVec 8)) : Keeps s (Chip.mgmtEnd s q status data) := by
  unfold Chip.mgmtEnd
  repeat' first
    | (try lift_lets); intro x
      first
      | have hx : Keeps s x := by simp only [x]; (repeat' first | (simp [*]; done) | split); done
        clear_value x
      | have hx : Keeps s x.2 := by simp only [x]; (repeat' first | (simp [*]; done) | split); done
        clear_value x
      | clear_value x
    | simp [*]; done
    | split

@[simp] theorem mgmtReads_keeps (q : MgmtReq) (n a : Nat) (acc : List (BitVec 8)) (s : Chip) : Keeps s (mgmtReads q n a acc s) := by
  induction n generalizing a acc s with
  | zero => simp [mgmtReads]
  | succ n ih =>
    have hb : Keeps s (s.busRead .mgmt a).2.2 := by simp
    simp only [mgmtReads]
    split
    · simp
    · generalize s.busRead .mgmt a = x at hb
      split
      · simpa using hb
      · split
        · simpa using hb
        · exact Keeps.trans (by simpa using hb) (ih _ _ _)

@[simp] theorem Chip.mgmtResume_keeps (s : Chip) : Keeps s s.mgmtResume := by
  unfold Chip.mgmtResume
  split
  · simp
  · split
    · dsimp only; split <;> simp
    · split
      · simp
      · split
        · simp
        · dsimp only; split <;> simp

theorem Chip.command_keeps (s : Chip) (r : Requester) (addr : Nat) (act : Chip → Did) (h : ∀ s, Keeps s (act s).2) :
    Keeps s (s.command r addr act) := by
  have := h s
  unfold Chip.command
  (repeat' split) <;> simp_all

@[simp] theorem Chip.evcap_keeps (s : Chip) (k : Nat) (rising : Bool) : Keeps s (s.evcap k rising) := by
  unfold Chip.evcap
  split
  · simp
  · split
    · simp
    · generalize (s.ct.toNat * 2 ^ 32 + s.ctFrac.toNat) = fine
      simp

@[simp] theorem Chip.hviWakes_keeps (s : Chip) (i : Nat) (rising : Bool) : Keeps s (Chip.hviWakes s i rising) := by
  unfold Chip.hviWakes
  repeat' first
    | (try lift_lets); intro x
      first
      | have hx : Keeps s x := by simp only [x]; (repeat' first | (simp [*]; done) | split); done
        clear_value x
      | have hx : Keeps s x.2 := by simp only [x]; (repeat' first | (simp [*]; done) | split); done
        clear_value x
      | clear_value x
    | simp [*]; done
    | split

@[simp] theorem Chip.strobeEnds_keeps (s : Chip) (apply : Bool) : Keeps s (Chip.strobeEnds s apply) := by simp [Chip.strobeEnds]

@[simp] theorem Chip.refillDone_keeps (s : Chip) (g : Nat) : Keeps s (Chip.refillDone s g) := by simp [Chip.refillDone]

@[simp] theorem Chip.fieldRelease_keeps (s : Chip) : Keeps s (Chip.fieldRelease s) := by
  unfold Chip.fieldRelease
  repeat' first
    | (try lift_lets); intro x
      first
      | have hx : Keeps s x := by simp only [x]; (repeat' first | with_reducible refine Keeps.each (fun s _ => ?_) ?_ | (simp [*]; done) | split | dsimp only); done
        clear_value x
      | have hx : Keeps s x.2 := by simp only [x]; (repeat' first | with_reducible refine Keeps.each (fun s _ => ?_) ?_ | (simp [*]; done) | split | dsimp only); done
        clear_value x
      | clear_value x
    | with_reducible refine Keeps.each (fun s _ => ?_) ?_
    | simp [*]; done
    | split
    | dsimp only

@[simp] theorem Chip.otpShow_keeps (s : Chip) : Keeps s (Chip.otpShow s) := by simp [Chip.otpShow]

@[simp] theorem Chip.coreRelease_keeps (s : Chip) (role : Nat) (bootsel : Bool) : Keeps s (Chip.coreRelease s role bootsel) := by
  unfold Chip.coreRelease
  repeat' first
    | (try lift_lets); intro x
      first
      | have hx : Keeps s x := by simp only [x]; (repeat' first | with_reducible refine Keeps.each (fun s _ => ?_) ?_ | (simp [*]; done) | split | dsimp only); done
        clear_value x
      | have hx : Keeps s x.2 := by simp only [x]; (repeat' first | with_reducible refine Keeps.each (fun s _ => ?_) ?_ | (simp [*]; done) | split | dsimp only); done
        clear_value x
      | clear_value x
    | with_reducible refine Keeps.each (fun s _ => ?_) ?_
    | simp [*]; done
    | split
    | dsimp only

@[simp] theorem Chip.wakeSecond_keeps (s : Chip) : Keeps s (Chip.wakeSecond s) := by simp [Chip.wakeSecond]

@[simp] theorem cmdRunnerEnable_keeps (r : Requester) (q : Nat) (s : Chip) : Keeps s (cmdRunnerEnable r q s) := by
  unfold cmdRunnerEnable
  repeat' first
    | (try lift_lets); intro x
      first
      | have hx : Keeps s x := by simp only [x]; (repeat' first | with_reducible refine Chip.command_keeps _ _ _ _ fun s => ?_ | (simp [*]; done) | split | dsimp only); done
        clear_value x
      | have hx : Keeps s x.2 := by simp only [x]; (repeat' first | with_reducible refine Chip.command_keeps _ _ _ _ fun s => ?_ | (simp [*]; done) | split | dsimp only); done
        clear_value x
      | clear_value x
    | with_reducible refine Chip.command_keeps _ _ _ _ fun s => ?_
    | simp [*]; done
    | split
    | dsimp only

@[simp] theorem cmdRunnerDisable_keeps (r : Requester) (q : Nat) (s : Chip) : Keeps s (cmdRunnerDisable r q s) := by
  unfold cmdRunnerDisable
  repeat' first
    | (try lift_lets); intro x
      first
      | have hx : Keeps s x := by simp only [x]; (repeat' first | with_reducible refine Chip.command_keeps _ _ _ _ fun s => ?_ | (simp [*]; done) | split | dsimp only); done
        clear_value x
      | have hx : Keeps s x.2 := by simp only [x]; (repeat' first | with_reducible refine Chip.command_keeps _ _ _ _ fun s => ?_ | (simp [*]; done) | split | dsimp only); done
        clear_value x
      | clear_value x
    | with_reducible refine Chip.command_keeps _ _ _ _ fun s => ?_
    | simp [*]; done
    | split
    | dsimp only

@[simp] theorem Chip.runMgetTimeout_keeps (s : Chip) (q : Nat) : Keeps s (Chip.runMgetTimeout s q) := by
  unfold Chip.runMgetTimeout
  repeat' first
    | (try lift_lets); intro x
      first
      | have hx : Keeps s x := by simp only [x]; (repeat' first | (simp [*]; done) | split); done
        clear_value x
      | have hx : Keeps s x.2 := by simp only [x]; (repeat' first | (simp [*]; done) | split); done
        clear_value x
      | clear_value x
    | simp [*]; done
    | split

@[simp] theorem Chip.runOvlEnd_keeps (s : Chip) (q : Nat) : Keeps s (Chip.runOvlEnd s q) := by simp [Chip.runOvlEnd]

@[simp] theorem Chip.beacon_keeps (s : Chip) : Keeps s (Chip.beacon s) := by
  unfold Chip.beacon
  repeat' first
    | (try lift_lets); intro x
      first
      | have hx : Keeps s x := by simp only [x]; (repeat' first | (simp [*]; done) | split); done
        clear_value x
      | have hx : Keeps s x.2 := by simp only [x]; (repeat' first | (simp [*]; done) | split); done
        clear_value x
      | clear_value x
    | simp [*]; done
    | split

@[simp] theorem Chip.fieldFrame_keeps (s : Chip) (ok : Bool) : Keeps s (Chip.fieldFrame s ok) := by
  unfold Chip.fieldFrame
  repeat' first
    | (try lift_lets); intro x
      first
      | have hx : Keeps s x := by simp only [x]; (repeat' first | with_reducible refine Keeps.each (fun s _ => ?_) ?_ | (simp [*]; done) | split | dsimp only); done
        clear_value x
      | have hx : Keeps s x.2 := by simp only [x]; (repeat' first | with_reducible refine Keeps.each (fun s _ => ?_) ?_ | (simp [*]; done) | split | dsimp only); done
        clear_value x
      | clear_value x
    | with_reducible refine Keeps.each (fun s _ => ?_) ?_
    | simp [*]; done
    | split
    | dsimp only

@[simp] theorem Chip.seamLoss_keeps (s : Chip) : Keeps s (Chip.seamLoss s) := by
  unfold Chip.seamLoss
  repeat' first
    | (try lift_lets); intro x
      first
      | have hx : Keeps s x := by simp only [x]; (repeat' first | with_reducible refine Keeps.each (fun s _ => ?_) ?_ | with_reducible refine Keeps.foldl (fun s _ => ?_) ?_ | (simp [*]; done) | split | dsimp only); done
        clear_value x
      | have hx : Keeps s x.2 := by simp only [x]; (repeat' first | with_reducible refine Keeps.each (fun s _ => ?_) ?_ | with_reducible refine Keeps.foldl (fun s _ => ?_) ?_ | (simp [*]; done) | split | dsimp only); done
        clear_value x
      | clear_value x
    | with_reducible refine Keeps.each (fun s _ => ?_) ?_
    | with_reducible refine Keeps.foldl (fun s _ => ?_) ?_
    | simp [*]; done
    | split
    | dsimp only

@[simp] theorem Chip.copyCapture_keeps (s : Chip) : Keeps s (Chip.copyCapture s) := by
  unfold Chip.copyCapture
  repeat' first
    | (try lift_lets); intro x
      first
      | have hx : Keeps s x := by simp only [x]; (repeat' first | (simp [*]; done) | split); done
        clear_value x
      | have hx : Keeps s x.2 := by simp only [x]; (repeat' first | (simp [*]; done) | split); done
        clear_value x
      | clear_value x
    | simp [*]; done
    | split

@[simp] theorem Chip.csrCount_keeps (s : Chip) (e : Nat) : Keeps s (Chip.csrCount s e) := by
  unfold Chip.csrCount
  repeat' first
    | (try lift_lets); intro x
      first
      | have hx : Keeps s x := by simp only [x]; (repeat' first | (simp [*]; done) | split); done
        clear_value x
      | have hx : Keeps s x.2 := by simp only [x]; (repeat' first | (simp [*]; done) | split); done
        clear_value x
      | clear_value x
    | simp [*]; done
    | split

@[simp] theorem Chip.engCount_keeps (s : Chip) (e : Nat) : Keeps s (Chip.engCount s e) := by simp [Chip.engCount]

@[simp] theorem Chip.wdogCount_keeps (s : Chip) (e : Nat) : Keeps s (Chip.wdogCount s e) := by
  unfold Chip.wdogCount
  repeat' first
    | (try lift_lets); intro x
      first
      | have hx : Keeps s x := by simp only [x]; (repeat' first | (simp [*]; done) | split); done
        clear_value x
      | have hx : Keeps s x.2 := by simp only [x]; (repeat' first | (simp [*]; done) | split); done
        clear_value x
      | clear_value x
    | simp [*]; done
    | split

@[simp] theorem Chip.keepTick_keeps (s : Chip) : Keeps s (Chip.keepTick s) := by simp [Chip.keepTick]

@[simp] theorem Chip.testSeam_keeps (s : Chip) : Keeps s (Chip.testSeam s) := by unfold Chip.testSeam; (repeat' split) <;> simp

@[simp] theorem Chip.testCondition_keeps (s : Chip) (cause : Nat) : Keeps s (Chip.testCondition s cause) := by
  unfold Chip.testCondition
  repeat' first
    | (try lift_lets); intro x
      first
      | have hx : Keeps s x := by simp only [x]; (repeat' first | (simp [*]; done) | split); done
        clear_value x
      | have hx : Keeps s x.2 := by simp only [x]; (repeat' first | (simp [*]; done) | split); done
        clear_value x
      | clear_value x
    | simp [*]; done
    | rename_i h; obtain rfl := congrArg Prod.snd h; simp; done
    | split

@[simp] theorem Chip.nbPrbs_keeps (s : Chip) : Keeps s (Chip.nbPrbs s) := by simp [Chip.nbPrbs]

@[simp] theorem Chip.nbTrunk_keeps (s : Chip) : Keeps s (Chip.nbTrunk s) := by
  unfold Chip.nbTrunk
  repeat' first
    | (try lift_lets); intro x
      first
      | have hx : Keeps s x := by simp only [x]; (repeat' first | (simp [*]; done) | split); done
        clear_value x
      | have hx : Keeps s x.2 := by simp only [x]; (repeat' first | (simp [*]; done) | split); done
        clear_value x
      | clear_value x
    | simp [*]; done
    | split

@[simp] theorem Chip.landsFree_keeps (s : Chip) : Keeps s (Chip.landsFree s) := by
  unfold Chip.landsFree
  repeat' first
    | (try lift_lets); intro x
      first
      | have hx : Keeps s x := by simp only [x]; (repeat' first | with_reducible refine Keeps.each (fun s _ => ?_) ?_ | (simp [*]; done) | split | dsimp only); done
        clear_value x
      | have hx : Keeps s x.2 := by simp only [x]; (repeat' first | with_reducible refine Keeps.each (fun s _ => ?_) ?_ | (simp [*]; done) | split | dsimp only); done
        clear_value x
      | clear_value x
    | with_reducible refine Keeps.each (fun s _ => ?_) ?_
    | simp [*]; done
    | split
    | dsimp only

@[simp] theorem Chip.landsTake_keeps (s : Chip) : Keeps s (Chip.landsTake s) := by
  unfold Chip.landsTake
  repeat' first
    | (try lift_lets); intro x
      first
      | have hx : Keeps s x := by simp only [x]; (repeat' first | with_reducible refine Keeps.each (fun s _ => ?_) ?_ | (simp [*]; done) | split | dsimp only); done
        clear_value x
      | have hx : Keeps s x.2 := by simp only [x]; (repeat' first | with_reducible refine Keeps.each (fun s _ => ?_) ?_ | (simp [*]; done) | split | dsimp only); done
        clear_value x
      | clear_value x
    | with_reducible refine Keeps.each (fun s _ => ?_) ?_
    | simp [*]; done
    | split
    | dsimp only

@[simp] theorem Chip.tapPlain_keeps (s : Chip) (code : Nat) (out : BitVec 412) : Keeps s (Chip.tapPlain s code out) := by
  unfold Chip.tapPlain
  repeat' first
    | (try lift_lets); intro x
      first
      | have hx : Keeps s x := by simp only [x]; (repeat' first | (simp [*]; done) | split); done
        clear_value x
      | have hx : Keeps s x.2 := by simp only [x]; (repeat' first | (simp [*]; done) | split); done
        clear_value x
      | clear_value x
    | simp [*]; done
    | split

@[simp] theorem Chip.tapSample_keeps (s : Chip) (sampled preload : BitVec 412) : Keeps s (Chip.tapSample s sampled preload) := by
  unfold Chip.tapSample
  repeat' first
    | (try lift_lets); intro x
      first
      | have hx : Keeps s x := by simp only [x]; (repeat' first | (simp [*]; done) | split); done
        clear_value x
      | have hx : Keeps s x.2 := by simp only [x]; (repeat' first | (simp [*]; done) | split); done
        clear_value x
      | clear_value x
    | simp [*]; done
    | split

@[simp] theorem Chip.tapLands_keeps (s : Chip) (code : Nat) : Keeps s (Chip.tapLands s code) := by
  unfold Chip.tapLands
  repeat' first
    | (try lift_lets); intro x
      first
      | have hx : Keeps s x := by simp only [x]; (repeat' first | (simp [*]; done) | split); done
        clear_value x
      | have hx : Keeps s x.2 := by simp only [x]; (repeat' first | (simp [*]; done) | split); done
        clear_value x
      | clear_value x
    | simp [*]; done
    | split

@[simp] theorem Chip.wideIn_keeps (s : Chip) (w dev ep : Nat) : Keeps s (Chip.wideIn s w dev ep) := by unfold Chip.wideIn; (repeat' split) <;> simp

@[simp] theorem Chip.wideOut_keeps (s : Chip) (w dev ep : Nat) (pid : Bool) (data : List (BitVec 8)) : Keeps s (Chip.wideOut s w dev ep pid data) := by unfold Chip.wideOut; (repeat' split) <;> simp

@[simp] theorem Chip.widePing_keeps (s : Chip) (w dev ep : Nat) : Keeps s (Chip.widePing s w dev ep) := by unfold Chip.widePing; (repeat' split) <;> simp

@[simp] theorem Chip.wideSetup_keeps (s : Chip) (w dev : Nat) (data : List (BitVec 8)) : Keeps s (Chip.wideSetup s w dev data) := by
  unfold Chip.wideSetup
  repeat' first
    | (try lift_lets); intro x
      first
      | have hx : Keeps s x := by simp only [x]; (repeat' first | (simp [*]; done) | split); done
        clear_value x
      | have hx : Keeps s x.2 := by simp only [x]; (repeat' first | (simp [*]; done) | split); done
        clear_value x
      | clear_value x
    | simp [*]; done
    | split

@[simp] theorem Chip.mgmtPortReq_keeps (s : Chip) (x : HubPortReq) : Keeps s (Chip.mgmtPortReq s x) := by
  unfold Chip.mgmtPortReq
  repeat' first
    | (try lift_lets); intro x
      first
      | have hx : Keeps s x := by simp only [x]; (repeat' first | (simp [*]; done) | split); done
        clear_value x
      | have hx : Keeps s x.2 := by simp only [x]; (repeat' first | (simp [*]; done) | split); done
        clear_value x
      | clear_value x
    | simp [*]; done
    | rename_i h; obtain rfl := congrArg Prod.snd h; simp; done
    | split

@[simp] theorem Chip.widePortReq_keeps (s : Chip) (w : Nat) (x : HubPortReq) : Keeps s (Chip.widePortReq s w x) := by unfold Chip.widePortReq; (repeat' split) <;> simp

@[simp] theorem Chip.wideStatusIn_keeps (s : Chip) : Keeps s (Chip.wideStatusIn s) := by
  unfold Chip.wideStatusIn
  repeat' first
    | (try lift_lets); intro x
      first
      | have hx : Keeps s x := by simp only [x]; (repeat' first | with_reducible refine Keeps.foldl (fun s _ => ?_) ?_ | (simp [*]; done) | split | dsimp only); done
        clear_value x
      | have hx : Keeps s x.2 := by simp only [x]; (repeat' first | with_reducible refine Keeps.foldl (fun s _ => ?_) ?_ | (simp [*]; done) | split | dsimp only); done
        clear_value x
      | clear_value x
    | with_reducible refine Keeps.foldl (fun s _ => ?_) ?_
    | simp [*]; done
    | split
    | dsimp only

@[simp] theorem Chip.configure_keeps (s : Chip) (d : UsbDev) (v : Nat) : Keeps s (Chip.configure s d v) := by
  unfold Chip.configure
  repeat' first
    | (try lift_lets); intro x
      first
      | have hx : Keeps s x := by simp only [x]; (repeat' first | (simp [*]; done) | split); done
        clear_value x
      | have hx : Keeps s x.2 := by simp only [x]; (repeat' first | (simp [*]; done) | split); done
        clear_value x
      | clear_value x
    | simp [*]; done
    | split

@[simp] theorem Chip.downExecute_keeps (s : Chip) (w : Nat) (rep : DevReply) : Keeps s (Chip.downExecute s w rep) := by
  unfold Chip.downExecute
  repeat' first
    | (try lift_lets); intro x
      first
      | have hx : Keeps s x := by simp only [x]; (repeat' first | (simp [*]; done) | split); done
        clear_value x
      | have hx : Keeps s x.2 := by simp only [x]; (repeat' first | (simp [*]; done) | split); done
        clear_value x
      | clear_value x
    | simp [*]; done
    | rename_i h; obtain rfl := congrArg Prod.snd h; simp; done
    | split

@[simp] theorem Chip.portOrphan_keeps (s : Chip) (w : Nat) : Keeps s (Chip.portOrphan s w) := by simp [Chip.portOrphan]

end Sys2Proof.Machine
end

