-- ==== Sys2Proof/Laws/SMap.lean ====
section
/-! SUPPORT. Laws of sparse maps: what a read answers after a store, and that every operation keeps the canonical form. -/

namespace Sys2Proof.Machine

/-- Listing a value under a key: that key finds it, every other key what it found before. -/
theorem SMap.find_ins {V : Type} (k j : Nat) (v : V) (m : SMap V) :
    SMap.find (SMap.ins k v m) j = if j = k then some v else SMap.find m j := by
  induction m with
  | nil => by_cases h : k = j <;> simp [SMap.ins, SMap.find, h, eq_comm]
  | cons e t ih =>
    obtain ⟨k', v'⟩ := e
    simp only [SMap.ins]
    split
    · by_cases h : k = j
      · simp [SMap.find, h]
      · have h' : ¬ j = k := fun x => h x.symm
        simp [SMap.find, h, h']
    · split
      · rename_i hk
        rw [← hk]
        by_cases h : k = j
        · simp [SMap.find, h]
        · have h' : ¬ j = k := fun x => h x.symm
          simp [SMap.find, h, h']
      · by_cases h : k' = j
        · subst h; simp [SMap.find]; intro hh; omega
        · simp [SMap.find, h, ih]

/-- After deleting a key, that key finds nothing, every other key what it found before. -/
theorem SMap.find_del {V : Type} (k j : Nat) (m : SMap V) :
    SMap.find (SMap.del k m) j = if j = k then none else SMap.find m j := by
  induction m with
  | nil => simp [SMap.del, SMap.find]
  | cons e t ih =>
    obtain ⟨k', v'⟩ := e
    simp only [SMap.del]
    by_cases hk : k' = k
    · simp only [hk, if_true, ih]
      by_cases hj : j = k
      · simp [hj]
      · have hj' : ¬ k = j := fun x => hj x.symm
        simp [SMap.find, hj, hj']
    · simp only [hk, if_false]
      by_cases hj : k' = j
      · subst hj; simp [SMap.find, hk]
      · simp [SMap.find, hj, ih]

/-- A lower bound may be lowered. -/
theorem SMap.risingFrom_mono {V : Type} {m : SMap V} {lo lo' : Nat} (h : SMap.risingFrom lo m = true) (hl : lo' ≤ lo) :
    SMap.risingFrom lo' m = true := by
  cases m with
  | nil => rfl
  | cons e t =>
    obtain ⟨k', v'⟩ := e
    simp only [SMap.risingFrom, Bool.and_eq_true, decide_eq_true_eq] at *
    exact ⟨by omega, h.2⟩

/-- Listing a value keeps the keys rising. -/
theorem SMap.risingFrom_ins {V : Type} {m : SMap V} {lo : Nat} (k : Nat) (v : V) (h : SMap.risingFrom lo m = true) (hk : lo ≤ k) :
    SMap.risingFrom lo (SMap.ins k v m) = true := by
  induction m generalizing lo with
  | nil => simp [SMap.ins, SMap.risingFrom, hk]
  | cons e t ih =>
    obtain ⟨k', v'⟩ := e
    simp only [SMap.risingFrom, Bool.and_eq_true, decide_eq_true_eq] at h
    simp only [SMap.ins]
    split
    · simp only [SMap.risingFrom, Bool.and_eq_true, decide_eq_true_eq]
      exact ⟨hk, by omega, h.2⟩
    · split
      · subst_vars
        simp only [SMap.risingFrom, Bool.and_eq_true, decide_eq_true_eq]
        exact ⟨hk, h.2⟩
      · simp only [SMap.risingFrom, Bool.and_eq_true, decide_eq_true_eq]
        exact ⟨h.1, ih h.2 (by omega)⟩

/-- Deleting a key keeps the keys rising. -/
theorem SMap.risingFrom_del {V : Type} {m : SMap V} {lo : Nat} (k : Nat) (h : SMap.risingFrom lo m = true) :
    SMap.risingFrom lo (SMap.del k m) = true := by
  induction m generalizing lo with
  | nil => rfl
  | cons e t ih =>
    obtain ⟨k', v'⟩ := e
    simp only [SMap.risingFrom, Bool.and_eq_true, decide_eq_true_eq] at h
    simp only [SMap.del]
    split
    · exact SMap.risingFrom_mono (ih h.2) (by omega)
    · simp only [SMap.risingFrom, Bool.and_eq_true, decide_eq_true_eq]
      exact ⟨h.1, ih h.2⟩

/-- Dropping entries keeps the keys rising. -/
theorem SMap.risingFrom_drop {V : Type} {m : SMap V} {lo : Nat} (p : Nat → Bool) (h : SMap.risingFrom lo m = true) :
    SMap.risingFrom lo (SMap.drop p m) = true := by
  induction m generalizing lo with
  | nil => rfl
  | cons e t ih =>
    obtain ⟨k', v'⟩ := e
    simp only [SMap.risingFrom, Bool.and_eq_true, decide_eq_true_eq] at h
    simp only [SMap.drop, List.filter]
    split
    · simp only [SMap.risingFrom, Bool.and_eq_true, decide_eq_true_eq]
      exact ⟨h.1, ih h.2⟩
    · exact SMap.risingFrom_mono (ih h.2) (by omega)

/-- A key that reads nothing is left by deleting it. -/
theorem SMap.put_wf {V : Type} [DecidableEq V] {m : SMap V} (d v : V) (k : Nat) (h : SMap.wf m = true) :
    SMap.wf (SMap.put m d k v) = true := by
  unfold SMap.put
  split
  · exact SMap.risingFrom_del k h
  · exact SMap.risingFrom_ins k v h (Nat.zero_le k)

/-- A read after a store: the stored key reads the value, every other key what it read before. -/
theorem SMap.get_put {V : Type} [DecidableEq V] (m : SMap V) (d v : V) (k j : Nat) :
    SMap.get (SMap.put m d k v) d j = if j = k then v else SMap.get m d j := by
  unfold SMap.put SMap.get
  split
  · rw [SMap.find_del]; subst_vars; split <;> rfl
  · rw [SMap.find_ins]; split <;> rfl

/-- The stored key reads the stored value. -/
@[simp] theorem SMap.get_put_same {V : Type} [DecidableEq V] (m : SMap V) (d v : V) (k : Nat) :
    SMap.get (SMap.put m d k v) d k = v := by simp [SMap.get_put]

/-- Another key reads what it read. -/
theorem SMap.get_put_ne {V : Type} [DecidableEq V] (m : SMap V) (d d' v : V) {k j : Nat} (h : j ≠ k) :
    SMap.get (SMap.put m d k v) d' j = SMap.get m d' j := by
  unfold SMap.put SMap.get
  split
  · rw [SMap.find_del, if_neg h]
  · rw [SMap.find_ins, if_neg h]

/-- What an entry of a map after a listing is. -/
theorem SMap.mem_ins {V : Type} {k : Nat} {v : V} {m : SMap V} {e : Nat × V} (h : e ∈ SMap.ins k v m) : e = (k, v) ∨ e ∈ m := by
  induction m with
  | nil => simpa [SMap.ins] using h
  | cons x t ih =>
    obtain ⟨k', v'⟩ := x
    simp only [SMap.ins] at h
    split at h
    · simpa using h
    · split at h
      · rcases List.mem_cons.1 h with h | h
        · exact .inl h
        · exact .inr (List.mem_cons_of_mem _ h)
      · rcases List.mem_cons.1 h with h | h
        · exact .inr (h ▸ List.mem_cons_self)
        · rcases ih h with h | h
          · exact .inl h
          · exact .inr (List.mem_cons_of_mem _ h)

/-- Deleting adds no entry. -/
theorem SMap.mem_del {V : Type} {k : Nat} {m : SMap V} {e : Nat × V} (h : e ∈ SMap.del k m) : e ∈ m := by
  induction m with
  | nil => exact h
  | cons x t ih =>
    obtain ⟨k', v'⟩ := x
    simp only [SMap.del] at h
    split at h
    · exact List.mem_cons_of_mem _ (ih h)
    · rcases List.mem_cons.1 h with h | h
      · exact h ▸ List.mem_cons_self
      · exact List.mem_cons_of_mem _ (ih h)

/-- Storing a byte keeps a memory canonical. -/
theorem Memory.wf_put {d : BitVec 8} {m : SMap (BitVec 8)} (k : Nat) (v : BitVec 8) (h : Memory.wf d m = true) :
    Memory.wf d (SMap.put m d k v) = true := by
  simp only [Memory.wf, Bool.and_eq_true, List.all_eq_true, bne_iff_ne, ne_eq] at *
  refine ⟨SMap.put_wf d v k h.1, fun e he => ?_⟩
  unfold SMap.put at he
  split at he
  · exact h.2 e (SMap.mem_del he)
  · rcases SMap.mem_ins he with he | he
    · subst he; assumption
    · exact h.2 e he

/-- Dropping entries keeps a memory canonical. -/
theorem Memory.wf_drop {d : BitVec 8} {m : SMap (BitVec 8)} (p : Nat → Bool) (h : Memory.wf d m = true) :
    Memory.wf d (SMap.drop p m) = true := by
  simp only [Memory.wf, Bool.and_eq_true, List.all_eq_true] at *
  exact ⟨SMap.risingFrom_drop p h.1, fun e he => h.2 e ((List.mem_filter.1 he).1)⟩

/-- An empty memory is canonical. -/
theorem Memory.wf_nil (d : BitVec 8) : Memory.wf d [] = true := rfl

end Sys2Proof.Machine
end

