-- ==== Sys2Proof/Laws/MemoryWf.lean ====
section
/-! SUPPORT. Operations that do store: one law for each says that it keeps both memories in canonical form. -/

namespace Sys2Proof.Machine

/-- Both memories are in canonical form. -/
@[simp] abbrev Wf (s : Chip) : Prop := Memory.wf 0#8 s.mem = true ∧ Memory.wf 255#8 s.nor = true

theorem Wf.foldl {α : Type} {f : Chip → α → Chip} {l : List α} {s : Chip} (h : ∀ s x, Wf s → Wf (f s x)) (h0 : Wf s) : Wf (l.foldl f s) := by
  induction l generalizing s with
  | nil => exact h0
  | cons x t ih => exact ih (h s x h0)

theorem Wf.each {α : Type} {f : Chip → α → Chip} {l : List α} {s : Chip} (h : ∀ s x, Wf s → Wf (f s x)) (h0 : Wf s) : Wf (s.each l f) :=
  Wf.foldl h h0

theorem Chip.isa_wf (s : Chip) (e : Nat) (f : Chip → Chip) (h : ∀ s, Wf s → Wf (f s)) (h0 : Wf s) : Wf (s.isa e f) := by
  unfold Chip.isa
  split
  · dsimp only
    split
    · exact h _ (by simpa using h0)
    · simpa using h0
  · exact h0

theorem Chip.command_wf (s : Chip) (r : Requester) (addr : Nat) (act : Chip → Did) (h : ∀ s, Wf s → Wf (act s).2) (h0 : Wf s) :
    Wf (s.command r addr act) := by
  have := h s h0
  unfold Chip.command
  (repeat' split) <;> simp_all

@[simp] theorem Chip.norErase_wf (s : Chip) (a : Nat) (h : Wf s) : Wf (s.norErase a) := by
  have e : (s.norErase a).nor = SMap.drop (fun k => decide (a ≤ k) && decide (k < a + 4096)) s.nor := rfl
  exact ⟨h.1, e ▸ Memory.wf_drop _ h.2⟩

@[simp] theorem Chip.eraseDone_wf (s : Chip) (h0 : Wf s) : Wf (Chip.eraseDone s) := by
  unfold Chip.eraseDone
  repeat' first
    | (try lift_lets); intro x
      first
      | have hx : Wf x := by simp only [x]; (repeat' first | (simp [*]; done) | split); done
        clear_value x
      | have hx : Wf x.2 := by simp only [x]; (repeat' first | (simp [*]; done) | split); done
        clear_value x
      | clear_value x
    | simp [*]; done
    | rename_i h; obtain rfl := congrArg Prod.snd h; simp [*]; done
    | split

@[simp] theorem Chip.norw_wf (s : Chip) (a : Nat) (b : BitVec 8) (h : Wf s) : Wf (s.norw a b) :=
  ⟨h.1, Memory.wf_put a b h.2⟩

@[simp] theorem Chip.norws_wf (s : Chip) (a : Nat) (l : List (BitVec 8)) (h : Wf s) : Wf (s.norws a l) := by
  induction l generalizing s a with
  | nil => exact h
  | cons b t ih => exact ih _ _ (Chip.norw_wf _ _ _ h)

@[simp] theorem Chip.journalFormat_wf (s : Chip) (h0 : Wf s) : Wf (Chip.journalFormat s) := by
  unfold Chip.journalFormat
  repeat' first
    | (try lift_lets); intro x
      first
      | have hx : Wf x := by simp only [x]; (repeat' first | (simp [*]; done) | split); done
        clear_value x
      | have hx : Wf x.2 := by simp only [x]; (repeat' first | (simp [*]; done) | split); done
        clear_value x
      | clear_value x
    | simp [*]; done
    | split

@[simp] theorem Chip.jRotate_wf (s : Chip) (h0 : Wf s) : Wf (Chip.jRotate s) := by
  unfold Chip.jRotate
  repeat' first
    | (try lift_lets); intro x
      first
      | have hx : Wf x := by simp only [x]; (repeat' first | with_reducible refine Wf.foldl (fun s _ _ => ?_) ?_ | (simp [*]; done) | split | dsimp only); done
        clear_value x
      | have hx : Wf x.2 := by simp only [x]; (repeat' first | with_reducible refine Wf.foldl (fun s _ _ => ?_) ?_ | (simp [*]; done) | split | dsimp only); done
        clear_value x
      | clear_value x
    | with_reducible refine Wf.foldl (fun s _ _ => ?_) ?_
    | simp [*]; done
    | split
    | dsimp only

@[simp] theorem Chip.journalAppend_wf (s : Chip) (ok : Bool) (h0 : Wf s) : Wf (Chip.journalAppend s ok) := by
  unfold Chip.journalAppend
  repeat' first
    | (try lift_lets); intro x
      first
      | have hx : Wf x := by simp only [x]; (repeat' first | (simp [*]; done) | split); done
        clear_value x
      | have hx : Wf x.2 := by simp only [x]; (repeat' first | (simp [*]; done) | split); done
        clear_value x
      | clear_value x
    | simp [*]; done
    | rename_i h; obtain rfl := congrArg Prod.snd h; simp [*]; done
    | split

@[simp] theorem Chip.logWrite_wf (s : Chip) (w : List Nat) (h : Wf s) : Wf (s.logWrite w) := by
  unfold Chip.logWrite
  dsimp only
  split
  · exact Chip.norws_wf _ _ _ (Chip.norErase_wf _ _ (Chip.norws_wf _ _ _ (Chip.norErase_wf _ _ h)))
  · split
    · exact Chip.norws_wf _ _ _ h
    · exact Chip.norws_wf _ _ _ (Chip.norErase_wf _ _ (Chip.norws_wf _ _ _ (Chip.norErase_wf _ _ h)))

@[simp] theorem Chip.logPage_wf (s : Chip) (h : Wf s) : Wf s.logPage := by
  have key : ∀ t : Chip, Wf t → ∀ b, Wf (t.setBkg b) := fun _ h _ => h
  have page : ∀ (t : Chip) (l : List (List Nat)) b, Wf t → Wf ((t.each l (fun s w => s.logWrite w)).setBkg b) :=
    fun t l b h => key _ (Wf.each (fun s w h => Chip.logWrite_wf s w h) h) _
  unfold Chip.logPage
  split
  · exact h
  · refine page _ _ _ ?_
    split <;> simpa using h

@[simp] theorem Chip.bkgStandby_wf (s : Chip) (h0 : Wf s) : Wf (Chip.bkgStandby s) := by
  unfold Chip.bkgStandby
  repeat' first
    | (try lift_lets); intro x
      first
      | have hx : Wf x := by simp only [x]; (repeat' first | with_reducible refine Wf.each (fun s _ _ => ?_) ?_ | (simp [*]; done) | split | dsimp only); done
        clear_value x
      | have hx : Wf x.2 := by simp only [x]; (repeat' first | with_reducible refine Wf.each (fun s _ _ => ?_) ?_ | (simp [*]; done) | split | dsimp only); done
        clear_value x
      | clear_value x
    | with_reducible refine Wf.each (fun s _ _ => ?_) ?_
    | simp [*]; done
    | split
    | dsimp only

@[simp] theorem Chip.slotWrite_wf (s : Chip) (k off : Nat) (l : List (BitVec 8)) (h0 : Wf s) : Wf (Chip.slotWrite s k off l) := by
  unfold Chip.slotWrite
  repeat' first
    | (try lift_lets); intro x
      first
      | have hx : Wf x := by simp only [x]; (repeat' first | with_reducible refine Wf.each (fun s _ _ => ?_) ?_ | (simp [*]; done) | split | dsimp only); done
        clear_value x
      | have hx : Wf x.2 := by simp only [x]; (repeat' first | with_reducible refine Wf.each (fun s _ _ => ?_) ?_ | (simp [*]; done) | split | dsimp only); done
        clear_value x
      | clear_value x
    | with_reducible refine Wf.each (fun s _ _ => ?_) ?_
    | simp [*]; done
    | split
    | dsimp only

@[simp] theorem Chip.imageData_wf (s : Chip) (off : Nat) (l : List (BitVec 8)) (h0 : Wf s) : Wf (Chip.imageData s off l).2 := by
  unfold Chip.imageData
  repeat' first
    | (try lift_lets); intro x
      first
      | have hx : Wf x := by simp only [x]; (repeat' first | (simp [*]; done) | split); done
        clear_value x
      | have hx : Wf x.2 := by simp only [x]; (repeat' first | (simp [*]; done) | split); done
        clear_value x
      | clear_value x
    | simp [*]; done
    | rename_i h; obtain rfl := congrArg Prod.snd h; simp [*]; done
    | split

@[simp] theorem Chip.wrb_wf (s : Chip) (a : Nat) (b : BitVec 8) (h : Wf s) : Wf (s.wrb a b) :=
  ⟨Memory.wf_put a b h.1, h.2⟩

@[simp] theorem Chip.wrbs_wf (s : Chip) (a : Nat) (l : List (BitVec 8)) (h : Wf s) : Wf (s.wrbs a l) := by
  induction l generalizing s a with
  | nil => exact h
  | cons b t ih => exact ih _ _ (Chip.wrb_wf _ _ _ h)

@[simp] theorem Chip.wrw_wf (s : Chip) (a : Nat) (v : BitVec 32) (h : Wf s) : Wf (s.wrw a v) :=
  Chip.wrb_wf _ _ _ (Chip.wrb_wf _ _ _ (Chip.wrb_wf _ _ _ (Chip.wrb_wf _ _ _ h)))

@[simp] theorem Chip.mbxPush_wf (s : Chip) (m buf len : Nat) (h0 : Wf s) : Wf (Chip.mbxPush s m buf len) := by
  unfold Chip.mbxPush
  repeat' first
    | (try lift_lets); intro x
      first
      | have hx : Wf x := by simp only [x]; (repeat' first | (simp [*]; done) | split); done
        clear_value x
      | have hx : Wf x.2 := by simp only [x]; (repeat' first | (simp [*]; done) | split); done
        clear_value x
      | clear_value x
    | simp [*]; done
    | split

@[simp] theorem Chip.bootReply_wf (s : Chip) (buf : Nat) (reply : Option (Nat × Bool)) (h0 : Wf s) : Wf (Chip.bootReply s buf reply) := by
  unfold Chip.bootReply
  repeat' first
    | (try lift_lets); intro x
      first
      | have hx : Wf x := by simp only [x]; (repeat' first | (simp [*]; done) | split); done
        clear_value x
      | have hx : Wf x.2 := by simp only [x]; (repeat' first | (simp [*]; done) | split); done
        clear_value x
      | clear_value x
    | simp [*]; done
    | rename_i h; obtain rfl := congrArg Prod.snd h; simp [*]; done
    | split

@[simp] theorem Chip.chainImageBegin_wf (s : Chip) (h0 : Wf s) : Wf (Chip.chainImageBegin s) := by
  unfold Chip.chainImageBegin
  repeat' first
    | (try lift_lets); intro x
      first
      | have hx : Wf x := by simp only [x]; (repeat' first | (simp [*]; done) | split); done
        clear_value x
      | have hx : Wf x.2 := by simp only [x]; (repeat' first | (simp [*]; done) | split); done
        clear_value x
      | clear_value x
    | simp [*]; done
    | rename_i h; obtain rfl := congrArg Prod.snd h; simp [*]; done
    | split

@[simp] theorem Chip.chainImageData_wf (s : Chip) (h0 : Wf s) : Wf (Chip.chainImageData s) := by
  unfold Chip.chainImageData
  repeat' first
    | (try lift_lets); intro x
      first
      | have hx : Wf x := by simp only [x]; (repeat' first | (simp [*]; done) | split); done
        clear_value x
      | have hx : Wf x.2 := by simp only [x]; (repeat' first | (simp [*]; done) | split); done
        clear_value x
      | clear_value x
    | simp [*]; done
    | rename_i h; obtain rfl := congrArg Prod.snd h; simp [*]; done
    | split

@[simp] theorem Chip.chainImageEnd_wf (s : Chip) (h0 : Wf s) : Wf (Chip.chainImageEnd s) := by
  unfold Chip.chainImageEnd
  repeat' first
    | (try lift_lets); intro x
      first
      | have hx : Wf x := by simp only [x]; (repeat' first | (simp [*]; done) | split); done
        clear_value x
      | have hx : Wf x.2 := by simp only [x]; (repeat' first | (simp [*]; done) | split); done
        clear_value x
      | clear_value x
    | simp [*]; done
    | rename_i h; obtain rfl := congrArg Prod.snd h; simp [*]; done
    | split

@[simp] theorem Chip.bootStoreDone_wf (s : Chip) (h0 : Wf s) : Wf (Chip.bootStoreDone s) := by
  unfold Chip.bootStoreDone
  repeat' first
    | (try lift_lets); intro x
      first
      | have hx : Wf x := by simp only [x]; (repeat' first | (simp [*]; done) | split); done
        clear_value x
      | have hx : Wf x.2 := by simp only [x]; (repeat' first | (simp [*]; done) | split); done
        clear_value x
      | clear_value x
    | simp [*]; done
    | split

@[simp] theorem Chip.gateOut_wf (s : Chip) (w x : Nat) (l : List (BitVec 8)) (h0 : Wf s) : Wf (Chip.gateOut s w x l) := by
  unfold Chip.gateOut
  repeat' first
    | (try lift_lets); intro x
      first
      | have hx : Wf x := by simp only [x]; (repeat' first | with_reducible refine Wf.foldl (fun s _ _ => ?_) ?_ | (simp [*]; done) | split | dsimp only); done
        clear_value x
      | have hx : Wf x.2 := by simp only [x]; (repeat' first | with_reducible refine Wf.foldl (fun s _ _ => ?_) ?_ | (simp [*]; done) | split | dsimp only); done
        clear_value x
      | clear_value x
    | with_reducible refine Wf.foldl (fun s _ _ => ?_) ?_
    | simp [*]; done
    | split
    | dsimp only

@[simp] theorem Chip.gateStore_wf (s : Chip) (a : Nat) (v : BitVec 32) (h0 : Wf s) : Wf (Chip.gateStore s a v) := by
  unfold Chip.gateStore
  repeat' first
    | (try lift_lets); intro x
      first
      | have hx : Wf x := by simp only [x]; (repeat' first | (simp [*]; done) | split); done
        clear_value x
      | have hx : Wf x.2 := by simp only [x]; (repeat' first | (simp [*]; done) | split); done
        clear_value x
      | clear_value x
    | simp [*]; done
    | rename_i h; obtain rfl := congrArg Prod.snd h; simp [*]; done
    | split

@[simp] theorem Chip.putByte_wf (s : Chip) (a : Nat) (b : BitVec 8) (h0 : Wf s) : Wf (Chip.putByte s a b) := by
  unfold Chip.putByte
  repeat' first
    | (try lift_lets); intro x
      first
      | have hx : Wf x := by simp only [x]; (repeat' first | (simp [*]; done) | split); done
        clear_value x
      | have hx : Wf x.2 := by simp only [x]; (repeat' first | (simp [*]; done) | split); done
        clear_value x
      | clear_value x
    | simp [*]; done
    | split

@[simp] theorem Chip.stbs_wf (s : Chip) (a : Nat) (l : List (BitVec 8)) (h0 : Wf s) : Wf (Chip.stbs s a l) := by
  unfold Chip.stbs
  repeat' first
    | (try lift_lets); intro x
      first
      | have hx : Wf x := by simp only [x]; (repeat' first | with_reducible refine Wf.foldl (fun s _ _ => ?_) ?_ | (simp [*]; done) | split | dsimp only); done
        clear_value x
      | have hx : Wf x.2 := by simp only [x]; (repeat' first | with_reducible refine Wf.foldl (fun s _ _ => ?_) ?_ | (simp [*]; done) | split | dsimp only); done
        clear_value x
      | clear_value x
    | with_reducible refine Wf.foldl (fun s _ _ => ?_) ?_
    | simp [*]; done
    | rename_i h; obtain rfl := congrArg Prod.snd h; simp [*]; done
    | split
    | dsimp only

@[simp] theorem Chip.stw_wf (s : Chip) (a : Nat) (v : BitVec 32) (h0 : Wf s) : Wf (Chip.stw s a v) := by
  unfold Chip.stw
  repeat' first
    | (try lift_lets); intro x
      first
      | have hx : Wf x := by simp only [x]; (repeat' first | (simp [*]; done) | split); done
        clear_value x
      | have hx : Wf x.2 := by simp only [x]; (repeat' first | (simp [*]; done) | split); done
        clear_value x
      | clear_value x
    | simp [*]; done
    | split

@[simp] theorem Chip.codeWrite_wf (s : Chip) (r : Requester) (e w : Nat) (v : BitVec 32) (h0 : Wf s) : Wf (Chip.codeWrite s r e w v).2 := by
  unfold Chip.codeWrite
  repeat' first
    | (try lift_lets); intro x
      first
      | have hx : Wf x := by simp only [x]; (repeat' first | (simp [*]; done) | split); done
        clear_value x
      | have hx : Wf x.2 := by simp only [x]; (repeat' first | (simp [*]; done) | split); done
        clear_value x
      | clear_value x
    | simp [*]; done
    | split

@[simp] theorem Chip.coreReset_keeps (s : Chip) (cause : Nat) (keepPads : Bool) : Keeps s (s.coreReset cause keepPads) := by
  cases keepPads <;> exact ⟨rfl, rfl⟩

@[simp] theorem Chip.fieldReset_keeps (s : Chip) : Keeps s s.fieldReset := ⟨rfl, rfl⟩

@[simp] theorem Chip.bothReset_keeps (s : Chip) (cause : Nat) : Keeps s (s.bothReset cause) := by simp [Chip.bothReset]

/-- VCORE's fall empties the RAMs. -/
@[simp] theorem Chip.railDown_wf (s : Chip) (n : Nat) (h : Wf s) : Wf (s.railDown n) := by
  have key : ∀ (c : Chip) (x : Wide) (f : Fld) (v : Nat), Wf c → Wf (({ c with mem := [], ecc := [], wide := x }).setLv f v) :=
    fun _ _ _ _ h => ⟨rfl, h.2⟩
  unfold Chip.railDown
  extract_lets p s1 s2
  have h1 : Wf s1 := h
  clear_value s1
  split
  · refine key _ _ _ _ ?_
    simp only [s2]
    split
    · simpa using h1
    · exact h1
  · split
    · simpa using h1
    · exact h1

@[simp] theorem Chip.dropStart_wf (s : Chip) (goal : DropGoal) (h0 : Wf s) : Wf (Chip.dropStart s goal) := by
  unfold Chip.dropStart
  repeat' first
    | (try lift_lets); intro x
      first
      | have hx : Wf x := by simp only [x]; (repeat' first | (simp [*]; done) | split); done
        clear_value x
      | have hx : Wf x.2 := by simp only [x]; (repeat' first | (simp [*]; done) | split); done
        clear_value x
      | clear_value x
    | simp [*]; done
    | rename_i h; obtain rfl := congrArg Prod.snd h; simp [*]; done
    | split

@[simp] theorem Chip.enterStandby_wf (s : Chip) (h0 : Wf s) : Wf (Chip.enterStandby s) := by
  unfold Chip.enterStandby
  repeat' first
    | (try lift_lets); intro x
      first
      | have hx : Wf x := by simp only [x]; (repeat' first | (simp [*]; done) | split); done
        clear_value x
      | have hx : Wf x.2 := by simp only [x]; (repeat' first | (simp [*]; done) | split); done
        clear_value x
      | clear_value x
    | simp [*]; done
    | split

@[simp] theorem Chip.pwrStandby_wf (s : Chip) (r : Nat) (h0 : Wf s) : Wf (Chip.pwrStandby s r).2 := by
  unfold Chip.pwrStandby
  repeat' first
    | (try lift_lets); intro x
      first
      | have hx : Wf x := by simp only [x]; (repeat' first | (simp [*]; done) | split); done
        clear_value x
      | have hx : Wf x.2 := by simp only [x]; (repeat' first | (simp [*]; done) | split); done
        clear_value x
      | clear_value x
    | simp [*]; done
    | split

@[simp] theorem Chip.pwrOff_wf (s : Chip) (trunk : Bool) (h0 : Wf s) : Wf (Chip.pwrOff s trunk).2 := by
  unfold Chip.pwrOff
  repeat' first
    | (try lift_lets); intro x
      first
      | have hx : Wf x := by simp only [x]; (repeat' first | (simp [*]; done) | split); done
        clear_value x
      | have hx : Wf x.2 := by simp only [x]; (repeat' first | (simp [*]; done) | split); done
        clear_value x
      | clear_value x
    | simp [*]; done
    | split

/-- Each command of a list keeps both memories canonical. -/
def CmdsWf (l : List (Chip → Did)) : Prop := ∀ f ∈ l, ∀ s, Wf s → Wf (f s).2

theorem CmdsWf.nil : CmdsWf [] := fun _ h => absurd h List.not_mem_nil

theorem CmdsWf.one {f : Chip → Did} (h : ∀ s, Wf s → Wf (f s).2) : CmdsWf [f] := fun g hg => by
  rw [List.mem_singleton.1 hg]; exact h

theorem CmdsWf.when {b : Bool} {f : Chip → Did} (h : ∀ s, Wf s → Wf (f s).2) : CmdsWf (when_ b f) := by
  unfold when_; split
  · exact CmdsWf.one h
  · exact CmdsWf.nil

theorem CmdsWf.append {a b : List (Chip → Did)} (h : CmdsWf a) (k : CmdsWf b) : CmdsWf (a ++ b) := fun f hf => by
  rcases List.mem_append.1 hf with hf | hf
  · exact h f hf
  · exact k f hf

theorem runCmds_wf {l : List (Chip → Did)} (h : CmdsWf l) (s : Chip) (h0 : Wf s) : Wf (runCmds l s).2 := by
  have key : ∀ (l : List (Chip → Did)), CmdsWf l → ∀ d : Did, Wf d.2 →
      Wf (l.foldl (fun (d : Did) f => let n := f d.2; (if d.1 = .done then n.1 else d.1, n.2)) d).2 := by
    intro l
    induction l with
    | nil => exact fun _ _ h => h
    | cons f t ih => exact fun h d hd => ih (fun g hg => h g (List.mem_cons_of_mem _ hg)) _ (h f List.mem_cons_self _ hd)
  exact key l h _ h0

theorem cmdsSys_wf (r : Requester) (off v : Nat) : CmdsWf (cmdsSys r off v) := by
  unfold cmdsSys
  repeat' first
    | exact CmdsWf.nil
    | refine CmdsWf.append ?_ ?_
    | refine CmdsWf.when fun s h => ?_
    | refine CmdsWf.one fun s h => ?_
    | split
    | simp [h]; done

theorem cmdsLink_wf (r : Requester) (p off v : Nat) : CmdsWf (cmdsLink r p off v) := by
  unfold cmdsLink
  repeat' first
    | exact CmdsWf.nil
    | refine CmdsWf.append ?_ ?_
    | refine CmdsWf.when fun s h => ?_
    | refine CmdsWf.one fun s h => ?_
    | split
    | simp [h]; done

@[simp] theorem Chip.ckptStore_wf (s : Chip) (e i : Nat) (h0 : Wf s) : Wf (Chip.ckptStore s e i) := by
  unfold Chip.ckptStore
  repeat' first
    | (try lift_lets); intro x
      first
      | have hx : Wf x := by simp only [x]; (repeat' first | (simp [*]; done) | split); done
        clear_value x
      | have hx : Wf x.2 := by simp only [x]; (repeat' first | (simp [*]; done) | split); done
        clear_value x
      | clear_value x
    | simp [*]; done
    | split

@[simp] theorem Chip.ckptChunk_wf (s : Chip) (r w : Nat) (h0 : Wf s) : Wf (Chip.ckptChunk s r w).2 := by
  unfold Chip.ckptChunk
  repeat' first
    | (try lift_lets); intro x
      first
      | have hx : Wf x := by simp only [x]; (repeat' first | (simp [*]; done) | split); done
        clear_value x
      | have hx : Wf x.2 := by simp only [x]; (repeat' first | (simp [*]; done) | split); done
        clear_value x
      | clear_value x
    | simp [*]; done
    | rename_i h; obtain rfl := congrArg Prod.snd h; simp [*]; done
    | split

theorem cmdsChain_wf (r : Requester) (off v : Nat) : CmdsWf (cmdsChain r off v) := by
  unfold cmdsChain
  repeat' first
    | exact CmdsWf.nil
    | refine CmdsWf.append ?_ ?_
    | refine CmdsWf.when fun s h => ?_
    | refine CmdsWf.one fun s h => ?_
    | split
    | simp [h]; done

theorem cmdsEng_wf (r : Requester) (e off v : Nat) : CmdsWf (cmdsEng r e off v) := by
  unfold cmdsEng
  repeat' first
    | exact CmdsWf.nil
    | refine CmdsWf.append ?_ ?_
    | refine CmdsWf.when fun s h => ?_
    | refine CmdsWf.one fun s h => ?_
    | split
    | simp [h]; done

@[simp] theorem Chip.runStore_wf (s : Chip) (q b kind val : Nat) (h0 : Wf s) : Wf (Chip.runStore s q b kind val) := by
  unfold Chip.runStore
  repeat' first
    | (try lift_lets); intro x
      first
      | have hx : Wf x := by simp only [x]; (repeat' first | (simp [*]; done) | split); done
        clear_value x
      | have hx : Wf x.2 := by simp only [x]; (repeat' first | (simp [*]; done) | split); done
        clear_value x
      | clear_value x
    | simp [*]; done
    | split

@[simp] theorem Chip.runAddTailGap_wf (s : Chip) (q n : Nat) (h0 : Wf s) : Wf (Chip.runAddTailGap s q n) := by
  unfold Chip.runAddTailGap
  repeat' first
    | (try lift_lets); intro x
      first
      | have hx : Wf x := by simp only [x]; (repeat' first | (simp [*]; done) | split); done
        clear_value x
      | have hx : Wf x.2 := by simp only [x]; (repeat' first | (simp [*]; done) | split); done
        clear_value x
      | clear_value x
    | simp [*]; done
    | split

@[simp] theorem Chip.runOverwrite_wf (s : Chip) (q : Nat) (h0 : Wf s) : Wf (Chip.runOverwrite s q).2 := by
  unfold Chip.runOverwrite
  repeat' first
    | (try lift_lets); intro x
      first
      | have hx : Wf x := by simp only [x]; (repeat' first | with_reducible refine Wf.foldl (fun s _ _ => ?_) ?_ | (simp [*]; done) | split | dsimp only); done
        clear_value x
      | have hx : Wf x.2 := by simp only [x]; (repeat' first | with_reducible refine Wf.foldl (fun s _ _ => ?_) ?_ | (simp [*]; done) | split | dsimp only); done
        clear_value x
      | clear_value x
    | with_reducible refine Wf.foldl (fun s _ _ => ?_) ?_
    | simp [*]; done
    | rename_i h; obtain rfl := congrArg Prod.snd h; simp [*]; done
    | split
    | dsimp only

@[simp] theorem Chip.runPutGap_wf (s : Chip) (q val : Nat) (h0 : Wf s) : Wf (Chip.runPutGap s q val) := by
  unfold Chip.runPutGap
  repeat' first
    | (try lift_lets); intro x
      first
      | have hx : Wf x := by simp only [x]; (repeat' first | (simp [*]; done) | split); done
        clear_value x
      | have hx : Wf x.2 := by simp only [x]; (repeat' first | (simp [*]; done) | split); done
        clear_value x
      | clear_value x
    | simp [*]; done
    | split

@[simp] theorem Chip.runDropItem_wf (s : Chip) (q kind : Nat) (h0 : Wf s) : Wf (Chip.runDropItem s q kind) := by
  unfold Chip.runDropItem
  repeat' first
    | (try lift_lets); intro x
      first
      | have hx : Wf x := by simp only [x]; (repeat' first | (simp [*]; done) | split); done
        clear_value x
      | have hx : Wf x.2 := by simp only [x]; (repeat' first | (simp [*]; done) | split); done
        clear_value x
      | clear_value x
    | simp [*]; done
    | split

@[simp] theorem Chip.runPut_wf (s : Chip) (q kind val : Nat) (h0 : Wf s) : Wf (Chip.runPut s q kind val) := by
  unfold Chip.runPut
  repeat' first
    | (try lift_lets); intro x
      first
      | have hx : Wf x := by simp only [x]; (repeat' first | (simp [*]; done) | split); done
        clear_value x
      | have hx : Wf x.2 := by simp only [x]; (repeat' first | (simp [*]; done) | split); done
        clear_value x
      | clear_value x
    | simp [*]; done
    | split

@[simp] theorem Chip.runPutBy_wf (s : Chip) (r q kind val : Nat) (flask : Option Nat) (off : Nat) (h0 : Wf s) : Wf (Chip.runPutBy s r q kind val flask off).2 := by
  unfold Chip.runPutBy
  repeat' first
    | (try lift_lets); intro x
      first
      | have hx : Wf x := by simp only [x]; (repeat' first | (simp [*]; done) | split); done
        clear_value x
      | have hx : Wf x.2 := by simp only [x]; (repeat' first | (simp [*]; done) | split); done
        clear_value x
      | clear_value x
    | simp [*]; done
    | split

@[simp] theorem Chip.runMput_wf (s : Chip) (r : Requester) (q kind val : Nat) (h0 : Wf s) : Wf (Chip.runMput s r q kind val).2 := by
  unfold Chip.runMput
  repeat' first
    | (try lift_lets); intro x
      first
      | have hx : Wf x := by simp only [x]; (repeat' first | (simp [*]; done) | split); done
        clear_value x
      | have hx : Wf x.2 := by simp only [x]; (repeat' first | (simp [*]; done) | split); done
        clear_value x
      | clear_value x
    | simp [*]; done
    | split

theorem cmdsRun_wf (r : Requester) (q off v : Nat) : CmdsWf (cmdsRun r q off v) := by
  unfold cmdsRun
  repeat' first
    | exact CmdsWf.nil
    | refine CmdsWf.append ?_ ?_
    | refine CmdsWf.when fun s h => ?_
    | refine CmdsWf.one fun s h => ?_
    | split
    | simp [h]; done

@[simp] theorem Chip.mbxSend_wf (s : Chip) (m buf len flask : Nat) (h0 : Wf s) : Wf (Chip.mbxSend s m buf len flask).2 := by
  unfold Chip.mbxSend
  repeat' first
    | (try lift_lets); intro x
      first
      | have hx : Wf x := by simp only [x]; (repeat' first | (simp [*]; done) | split); done
        clear_value x
      | have hx : Wf x.2 := by simp only [x]; (repeat' first | (simp [*]; done) | split); done
        clear_value x
      | clear_value x
    | simp [*]; done
    | split

@[simp] theorem Chip.syncSend_wf (s : Chip) (r : Requester) (v : Nat) (h0 : Wf s) : Wf (Chip.syncSend s r v).2 := by
  unfold Chip.syncSend
  repeat' first
    | (try lift_lets); intro x
      first
      | have hx : Wf x := by simp only [x]; (repeat' first | (simp [*]; done) | split); done
        clear_value x
      | have hx : Wf x.2 := by simp only [x]; (repeat' first | (simp [*]; done) | split); done
        clear_value x
      | clear_value x
    | simp [*]; done
    | split

theorem cmdsSync_wf (r : Requester) (off v : Nat) : CmdsWf (cmdsSync r off v) := by
  unfold cmdsSync
  repeat' first
    | exact CmdsWf.nil
    | refine CmdsWf.append ?_ ?_
    | refine CmdsWf.when fun s h => ?_
    | refine CmdsWf.one fun s h => ?_
    | split
    | simp [h]; done

theorem cmdsPower_wf (r : Requester) (blk i off v : Nat) : CmdsWf (cmdsPower r blk i off v) := by
  unfold cmdsPower
  repeat' first
    | exact CmdsWf.nil
    | refine CmdsWf.append ?_ ?_
    | refine CmdsWf.when fun s h => ?_
    | refine CmdsWf.one fun s h => ?_
    | split
    | simp [h]; done

theorem cmdsField_wf (r : Requester) (blk i off v : Nat) : CmdsWf (cmdsField r blk i off v) := by
  unfold cmdsField
  repeat' first
    | exact CmdsWf.nil
    | refine CmdsWf.append ?_ ?_
    | refine CmdsWf.when fun s h => ?_
    | refine CmdsWf.one fun s h => ?_
    | split
    | simp [h]; done

@[simp] theorem Chip.runPutAll_wf (s : Chip) (q : Nat) (l : List (Nat × Nat)) (h : Wf s) : Wf (s.runPutAll q l) := by
  induction l generalizing s with
  | nil => exact h
  | cons x t ih =>
    obtain ⟨k, v⟩ := x
    refine ih _ ?_
    split
    · exact Chip.runPutGap_wf _ _ _ h
    · exact Chip.runPut_wf _ _ _ _ h

@[simp] theorem Chip.hwPut_wf (s : Chip) (q code : Nat) (flask : Option Nat) (items : List (Nat × Nat)) (h0 : Wf s) : Wf (Chip.hwPut s q code flask items).2 := by
  unfold Chip.hwPut
  repeat' first
    | (try lift_lets); intro x
      first
      | have hx : Wf x := by simp only [x]; (repeat' first | (simp [*]; done) | split); done
        clear_value x
      | have hx : Wf x.2 := by simp only [x]; (repeat' first | (simp [*]; done) | split); done
        clear_value x
      | clear_value x
    | simp [*]; done
    | split

@[simp] theorem Chip.sessDescr_wf (s : Chip) (c i status : Nat) (h0 : Wf s) : Wf (Chip.sessDescr s c i status) := by
  unfold Chip.sessDescr
  repeat' first
    | (try lift_lets); intro x
      first
      | have hx : Wf x := by simp only [x]; (repeat' first | (simp [*]; done) | split); done
        clear_value x
      | have hx : Wf x.2 := by simp only [x]; (repeat' first | (simp [*]; done) | split); done
        clear_value x
      | clear_value x
    | simp [*]; done
    | split

@[simp] theorem Chip.sessClose_wf (s : Chip) (c i status : Nat) (h0 : Wf s) : Wf (Chip.sessClose s c i status) := by
  unfold Chip.sessClose
  repeat' first
    | (try lift_lets); intro x
      first
      | have hx : Wf x := by simp only [x]; (repeat' first | (simp [*]; done) | split); done
        clear_value x
      | have hx : Wf x.2 := by simp only [x]; (repeat' first | (simp [*]; done) | split); done
        clear_value x
      | clear_value x
    | simp [*]; done
    | split

@[simp] theorem Chip.sessClosePort_wf (s : Chip) (c i : Nat) (h0 : Wf s) : Wf (Chip.sessClosePort s c i) := by
  unfold Chip.sessClosePort
  repeat' first
    | (try lift_lets); intro x
      first
      | have hx : Wf x := by simp only [x]; (repeat' first | (simp [*]; done) | split); done
        clear_value x
      | have hx : Wf x.2 := by simp only [x]; (repeat' first | (simp [*]; done) | split); done
        clear_value x
      | clear_value x
    | simp [*]; done
    | split

@[simp] theorem Chip.canDisable_wf (s : Chip) (c : Nat) (h : Wf s) : Wf (s.canDisable c).2 := by
  unfold Chip.canDisable
  exact Wf.each (fun s i h => Chip.sessClosePort_wf _ _ _ h) (by simpa using h)

theorem cmdsBack_wf (r : Requester) (blk i off v : Nat) : CmdsWf (cmdsBack r blk i off v) := by
  unfold cmdsBack
  repeat' first
    | exact CmdsWf.nil
    | refine CmdsWf.append ?_ ?_
    | refine CmdsWf.when fun s h => ?_
    | refine CmdsWf.one fun s h => ?_
    | split
    | simp [h]; done

theorem cmdsOf_wf (r : Requester) (l : Loc) (v : Nat) : CmdsWf (cmdsOf r l v) := by
  unfold cmdsOf
  repeat' first
    | exact CmdsWf.nil
    | exact cmdsSys_wf _ _ _
    | exact cmdsLink_wf _ _ _ _
    | exact cmdsChain_wf _ _ _
    | exact cmdsEng_wf _ _ _ _
    | exact cmdsRun_wf _ _ _ _
    | exact cmdsSync_wf _ _ _
    | exact cmdsPower_wf _ _ _ _ _
    | exact cmdsField_wf _ _ _ _ _
    | exact cmdsBack_wf _ _ _ _ _
    | refine CmdsWf.when fun s h => ?_
    | refine CmdsWf.one fun s h => ?_
    | split
    | simp [h]; done

@[simp] theorem Chip.writeReg_wf (s : Chip) (r : Requester) (l : Loc) (v : Nat) (h : Wf s) : Wf (s.writeReg r l v).2 := by
  unfold Chip.writeReg
  split
  · exact h
  · split
    · exact h
    · split
      · simpa using h
      · refine runCmds_wf (cmdsOf_wf _ _ _) _ ?_
        have : Wf (s.each l.fields (fun s f => s.writeFld l v f)) := Wf.each (fun s x h => by simpa using h) h
        split
        · simpa using this
        · exact this

@[simp] theorem Chip.busWrite_wf (s : Chip) (r : Requester) (a v : Nat) (h0 : Wf s) : Wf (Chip.busWrite s r a v).2 := by
  unfold Chip.busWrite
  repeat' first
    | (try lift_lets); intro x
      first
      | have hx : Wf x := by simp only [x]; (repeat' first | (simp [*]; done) | split); done
        clear_value x
      | have hx : Wf x.2 := by simp only [x]; (repeat' first | (simp [*]; done) | split); done
        clear_value x
      | clear_value x
    | simp [*]; done
    | rename_i h; obtain rfl := congrArg Prod.snd h; simp [*]; done
    | split

@[simp] theorem bootPairs_wf (l : List (Nat × Nat)) (s : Chip) (h : Wf s) : Wf (bootPairs l s).2 := by
  induction l generalizing s with
  | nil => exact h
  | cons x t ih =>
    have hb := Chip.busWrite_wf s .mgmt x.1 x.2 h
    simp only [bootPairs]
    split
    · exact hb
    · split
      · exact ih _ hb
      · exact hb

@[simp] theorem Chip.bootSection_wf (s : Chip) (b : List (BitVec 8)) (x : Section) (h0 : Wf s) : Wf (Chip.bootSection s b x).2 := by
  unfold Chip.bootSection
  repeat' first
    | (try lift_lets); intro x
      first
      | have hx : Wf x := by simp only [x]; (repeat' first | (simp [*]; done) | split); done
        clear_value x
      | have hx : Wf x.2 := by simp only [x]; (repeat' first | (simp [*]; done) | split); done
        clear_value x
      | clear_value x
    | simp [*]; done
    | split

@[simp] theorem bootSections_wf (b : List (BitVec 8)) (l : List Section) (s : Chip) (h : Wf s) : Wf (bootSections b l s).2 := by
  induction l generalizing s with
  | nil => exact h
  | cons x t ih =>
    have hb := Chip.bootSection_wf s b x h
    simp only [bootSections]
    split
    · exact ih _ hb
    · exact hb

@[simp] theorem Chip.bootStart_wf (s : Chip) (b : List (BitVec 8)) (k src : Nat) (h0 : Wf s) : Wf (Chip.bootStart s b k src) := by
  unfold Chip.bootStart
  repeat' first
    | (try lift_lets); intro x
      first
      | have hx : Wf x := by simp only [x]; (repeat' first | (simp [*]; done) | split); done
        clear_value x
      | have hx : Wf x.2 := by simp only [x]; (repeat' first | (simp [*]; done) | split); done
        clear_value x
      | clear_value x
    | simp [*]; done
    | split

@[simp] theorem Chip.norChecked_wf (s : Chip) (h0 : Wf s) : Wf (Chip.norChecked s) := by
  unfold Chip.norChecked
  repeat' first
    | (try lift_lets); intro x
      first
      | have hx : Wf x := by simp only [x]; (repeat' first | (simp [*]; done) | split); done
        clear_value x
      | have hx : Wf x.2 := by simp only [x]; (repeat' first | (simp [*]; done) | split); done
        clear_value x
      | clear_value x
    | simp [*]; done
    | rename_i h; obtain rfl := congrArg Prod.snd h; simp [*]; done
    | split

@[simp] theorem Chip.imageVerifyDone_wf (s : Chip) (h0 : Wf s) : Wf (Chip.imageVerifyDone s) := by
  unfold Chip.imageVerifyDone
  repeat' first
    | (try lift_lets); intro x
      first
      | have hx : Wf x := by simp only [x]; (repeat' first | (simp [*]; done) | split); done
        clear_value x
      | have hx : Wf x.2 := by simp only [x]; (repeat' first | (simp [*]; done) | split); done
        clear_value x
      | clear_value x
    | simp [*]; done
    | rename_i h; obtain rfl := congrArg Prod.snd h; simp [*]; done
    | split

@[simp] theorem Chip.stMany_wf (s : Chip) (a : Nat) (l : List (BitVec 8)) (h0 : Wf s) : Wf (Chip.stMany s a l) := by
  unfold Chip.stMany
  repeat' first
    | (try lift_lets); intro x
      first
      | have hx : Wf x := by simp only [x]; (repeat' first | with_reducible refine Wf.foldl (fun s _ _ => ?_) ?_ | (simp [*]; done) | split | dsimp only); done
        clear_value x
      | have hx : Wf x.2 := by simp only [x]; (repeat' first | with_reducible refine Wf.foldl (fun s _ _ => ?_) ?_ | (simp [*]; done) | split | dsimp only); done
        clear_value x
      | clear_value x
    | with_reducible refine Wf.foldl (fun s _ _ => ?_) ?_
    | simp [*]; done
    | split
    | dsimp only

@[simp] theorem Chip.sessPacket_wf (s : Chip) (c i n : Nat) (payload : List (BitVec 8)) (h : Wf s) : Wf (s.sessPacket c i n payload) := by
  have hs : Wf (s.stMany (s.wk (Reg.CAN_SESS_AREA c i) + (n - 1) * 7) payload) := Chip.stMany_wf _ _ _ h
  unfold Chip.sessPacket
  dsimp only
  generalize s.stMany (s.wk (Reg.CAN_SESS_AREA c i) + (n - 1) * 7) payload = t at hs
  repeat' first
    | simp [h, hs]; done
    | split

@[simp] theorem Chip.canDeliver_wf (s : Chip) (c i : Nat) (f : CanFrame) (h0 : Wf s) : Wf (Chip.canDeliver s c i f) := by
  unfold Chip.canDeliver
  repeat' first
    | (try lift_lets); intro x
      first
      | have hx : Wf x := by simp only [x]; (repeat' first | (simp [*]; done) | split); done
        clear_value x
      | have hx : Wf x.2 := by simp only [x]; (repeat' first | (simp [*]; done) | split); done
        clear_value x
      | clear_value x
    | simp [*]; done
    | split

@[simp] theorem Chip.canTake_wf (s : Chip) (c : Nat) (f : CanFrame) (h0 : Wf s) : Wf (Chip.canTake s c f) := by
  unfold Chip.canTake
  repeat' first
    | (try lift_lets); intro x
      first
      | have hx : Wf x := by simp only [x]; (repeat' first | (simp [*]; done) | split); done
        clear_value x
      | have hx : Wf x.2 := by simp only [x]; (repeat' first | (simp [*]; done) | split); done
        clear_value x
      | clear_value x
    | simp [*]; done
    | rename_i h; obtain rfl := congrArg Prod.snd h; simp [*]; done
    | split

@[simp] theorem Chip.canReceive_wf (s : Chip) (c : Nat) (f : CanFrame) (h0 : Wf s) : Wf (Chip.canReceive s c f) := by
  unfold Chip.canReceive
  repeat' first
    | (try lift_lets); intro x
      first
      | have hx : Wf x := by simp only [x]; (repeat' first | (simp [*]; done) | split); done
        clear_value x
      | have hx : Wf x.2 := by simp only [x]; (repeat' first | (simp [*]; done) | split); done
        clear_value x
      | clear_value x
    | simp [*]; done
    | split

@[simp] theorem Chip.canTxDone_wf (s : Chip) (c : Nat) (o : CanTxOutcome) (h0 : Wf s) : Wf (Chip.canTxDone s c o) := by
  unfold Chip.canTxDone
  repeat' first
    | (try lift_lets); intro x
      first
      | have hx : Wf x := by simp only [x]; (repeat' first | (simp [*]; done) | split); done
        clear_value x
      | have hx : Wf x.2 := by simp only [x]; (repeat' first | (simp [*]; done) | split); done
        clear_value x
      | clear_value x
    | simp [*]; done
    | rename_i h; obtain rfl := congrArg Prod.snd h; simp [*]; done
    | split

@[simp] theorem Chip.sessTimeout_wf (s : Chip) (c i : Nat) (h0 : Wf s) : Wf (Chip.sessTimeout s c i) := by
  unfold Chip.sessTimeout
  repeat' first
    | (try lift_lets); intro x
      first
      | have hx : Wf x := by simp only [x]; (repeat' first | (simp [*]; done) | split); done
        clear_value x
      | have hx : Wf x.2 := by simp only [x]; (repeat' first | (simp [*]; done) | split); done
        clear_value x
      | clear_value x
    | simp [*]; done
    | split

@[simp] theorem Chip.canPortWrite_wf (s : Chip) (c off v : Nat) (h0 : Wf s) : Wf (Chip.canPortWrite s c off v).2 := by
  unfold Chip.canPortWrite
  repeat' first
    | (try lift_lets); intro x
      first
      | have hx : Wf x := by simp only [x]; (repeat' first | (simp [*]; done) | split); done
        clear_value x
      | have hx : Wf x.2 := by simp only [x]; (repeat' first | (simp [*]; done) | split); done
        clear_value x
      | clear_value x
    | simp [*]; done
    | rename_i h; obtain rfl := congrArg Prod.snd h; simp [*]; done
    | split

@[simp] theorem Chip.setEntry_wf (s : Chip) (ring st pos state : Nat) (h0 : Wf s) : Wf (Chip.setEntry s ring st pos state) := by
  unfold Chip.setEntry
  repeat' first
    | (try lift_lets); intro x
      first
      | have hx : Wf x := by simp only [x]; (repeat' first | (simp [*]; done) | split); done
        clear_value x
      | have hx : Wf x.2 := by simp only [x]; (repeat' first | (simp [*]; done) | split); done
        clear_value x
      | clear_value x
    | simp [*]; done
    | split

@[simp] theorem Chip.epochBegin_wf (s : Chip) (h : Wf s) : Wf s.epochBegin := by
  have key : ∀ t : Chip, Wf t → ∀ (x : Chain) (f g k : Fld) (a b c : Nat), Wf ((({ t with chain := x }.put f a).put g b).put k c) :=
    fun _ h _ _ _ _ _ _ _ => h
  exact key _ (Chip.wrbs_wf _ _ _ h) _ _ _ _ _ _ _

@[simp] theorem Chip.epochStart_wf (s : Chip) (h0 : Wf s) : Wf (Chip.epochStart s) := by
  unfold Chip.epochStart
  repeat' first
    | (try lift_lets); intro x
      first
      | have hx : Wf x := by simp only [x]; (repeat' first | (simp [*]; done) | split); done
        clear_value x
      | have hx : Wf x.2 := by simp only [x]; (repeat' first | (simp [*]; done) | split); done
        clear_value x
      | clear_value x
    | simp [*]; done
    | split

@[simp] theorem Chip.epochInstall_wf (s : Chip) (h : Wf s) : Wf s.epochInstall := by
  unfold Chip.epochInstall
  refine Chip.setEntry_wf _ _ _ _ _ (Wf.each (fun s st h => Chip.setEntry_wf _ _ _ _ _ h) ?_)
  rw [Wf, (Chip.pourWindows_keeps _ _).1, (Chip.pourWindows_keeps _ _).2]
  exact Wf.each (fun s p h => by simpa using h) (Chip.wrbs_wf _ _ _ h)

@[simp] theorem Chip.takeover_wf (s : Chip) (h : Wf s) : Wf s.takeover := by
  have key : ∀ (t : Chip) (b : Bool), Wf t → Wf { t with chain := { t.chain with taking := b } } := fun _ _ h => h
  unfold Chip.takeover
  split
  · exact h
  · exact key _ _ (Chip.epochInstall_wf _ (by simpa using h))

@[simp] theorem Chip.engStore_wf (s : Chip) (e : Fin 32) (a : Nat) (b : List (BitVec 8)) (h0 : Wf s) : Wf (Chip.engStore s e a b).2 := by
  unfold Chip.engStore
  repeat' first
    | (try lift_lets); intro x
      first
      | have hx : Wf x := by simp only [x]; (repeat' first | (simp [*]; done) | split); done
        clear_value x
      | have hx : Wf x.2 := by simp only [x]; (repeat' first | (simp [*]; done) | split); done
        clear_value x
      | clear_value x
    | simp [*]; done
    | rename_i h; obtain rfl := congrArg Prod.snd h; simp [*]; done
    | split

@[simp] theorem Chip.writeBy_wf (s : Chip) (r : Requester) (n a v : Nat) (h0 : Wf s) : Wf (Chip.writeBy s r n a v).2 := by
  unfold Chip.writeBy
  repeat' first
    | (try lift_lets); intro x
      first
      | have hx : Wf x := by simp only [x]; (repeat' first | (simp [*]; done) | split); done
        clear_value x
      | have hx : Wf x.2 := by simp only [x]; (repeat' first | (simp [*]; done) | split); done
        clear_value x
      | clear_value x
    | simp [*]; done
    | rename_i h; obtain rfl := congrArg Prod.snd h; simp [*]; done
    | split

@[simp] theorem Chip.regWriteBy_wf (s : Chip) (r : Requester) (w : Access) (a v : Nat) (h0 : Wf s) : Wf (Chip.regWriteBy s r w a v) := by
  unfold Chip.regWriteBy
  repeat' first
    | (try lift_lets); intro x
      first
      | have hx : Wf x := by simp only [x]; (repeat' first | (simp [*]; done) | split); done
        clear_value x
      | have hx : Wf x.2 := by simp only [x]; (repeat' first | (simp [*]; done) | split); done
        clear_value x
      | clear_value x
    | simp [*]; done
    | split

@[simp] theorem Chip.codeWriteBy_wf (s : Chip) (r : Requester) (e w : Nat) (v : BitVec 32) (h0 : Wf s) : Wf (Chip.codeWriteBy s r e w v) := by
  unfold Chip.codeWriteBy
  repeat' first
    | (try lift_lets); intro x
      first
      | have hx : Wf x := by simp only [x]; (repeat' first | (simp [*]; done) | split); done
        clear_value x
      | have hx : Wf x.2 := by simp only [x]; (repeat' first | (simp [*]; done) | split); done
        clear_value x
      | clear_value x
    | simp [*]; done
    | split

@[simp] theorem Chip.portDo_wf (s : Chip) (p v : Nat) (h0 : Wf s) : Wf (Chip.portDo s p v).2 := by
  unfold Chip.portDo
  repeat' first
    | (try lift_lets); intro x
      first
      | have hx : Wf x := by simp only [x]; (repeat' first | (simp [*]; done) | split); done
        clear_value x
      | have hx : Wf x.2 := by simp only [x]; (repeat' first | (simp [*]; done) | split); done
        clear_value x
      | clear_value x
    | simp [*]; done
    | rename_i h; obtain rfl := congrArg Prod.snd h; simp [*]; done
    | split

@[simp] theorem Chip.portWrite_wf (s : Chip) (e p v : Nat) (h0 : Wf s) : Wf (Chip.portWrite s e p v).2 := by
  unfold Chip.portWrite
  repeat' first
    | (try lift_lets); intro x
      first
      | have hx : Wf x := by simp only [x]; (repeat' first | (simp [*]; done) | split); done
        clear_value x
      | have hx : Wf x.2 := by simp only [x]; (repeat' first | (simp [*]; done) | split); done
        clear_value x
      | clear_value x
    | simp [*]; done
    | split

@[simp] theorem Chip.portDoBy_wf (s : Chip) (e : Fin 32) (p v : Nat) (h0 : Wf s) : Wf (Chip.portDoBy s e p v) := by
  unfold Chip.portDoBy
  repeat' first
    | (try lift_lets); intro x
      first
      | have hx : Wf x := by simp only [x]; (repeat' first | (simp [*]; done) | split); done
        clear_value x
      | have hx : Wf x.2 := by simp only [x]; (repeat' first | (simp [*]; done) | split); done
        clear_value x
      | clear_value x
    | simp [*]; done
    | split

@[simp] theorem Chip.hwPacket_wf (s : Chip) (q : Nat) (h : HwProducer) (packet : List (BitVec 32)) (h0 : Wf s) : Wf (Chip.hwPacket s q h packet) := by
  unfold Chip.hwPacket
  repeat' first
    | (try lift_lets); intro x
      first
      | have hx : Wf x := by simp only [x]; (repeat' first | (simp [*]; done) | split); done
        clear_value x
      | have hx : Wf x.2 := by simp only [x]; (repeat' first | (simp [*]; done) | split); done
        clear_value x
      | clear_value x
    | simp [*]; done
    | split

@[simp] theorem Chip.shrinkDetached_wf (s : Chip) (ring p c : Nat) (h0 : Wf s) : Wf (Chip.shrinkDetached s ring p c) := by
  unfold Chip.shrinkDetached
  repeat' first
    | (try lift_lets); intro x
      first
      | have hx : Wf x := by simp only [x]; (repeat' first | with_reducible refine Wf.each (fun s _ _ => ?_) ?_ | (simp [*]; done) | split | dsimp only); done
        clear_value x
      | have hx : Wf x.2 := by simp only [x]; (repeat' first | with_reducible refine Wf.each (fun s _ _ => ?_) ?_ | (simp [*]; done) | split | dsimp only); done
        clear_value x
      | clear_value x
    | with_reducible refine Wf.each (fun s _ _ => ?_) ?_
    | simp [*]; done
    | split
    | dsimp only

@[simp] theorem Chip.detachTold_wf (s : Chip) (det : Bool) (h0 : Wf s) : Wf (Chip.detachTold s det) := by
  unfold Chip.detachTold
  repeat' first
    | (try lift_lets); intro x
      first
      | have hx : Wf x := by simp only [x]; (repeat' first | (simp [*]; done) | split); done
        clear_value x
      | have hx : Wf x.2 := by simp only [x]; (repeat' first | (simp [*]; done) | split); done
        clear_value x
      | clear_value x
    | simp [*]; done
    | rename_i h; obtain rfl := congrArg Prod.snd h; simp [*]; done
    | split

@[simp] theorem Chip.statReturn_wf (s : Chip) (l : List (SentSlot × ReturnedSlot)) (h0 : Wf s) : Wf (Chip.statReturn s l) := by
  unfold Chip.statReturn
  repeat' first
    | (try lift_lets); intro x
      first
      | have hx : Wf x := by simp only [x]; (repeat' first | with_reducible refine Wf.foldl (fun s _ _ => ?_) ?_ | (simp [*]; done) | split | dsimp only); done
        clear_value x
      | have hx : Wf x.2 := by simp only [x]; (repeat' first | with_reducible refine Wf.foldl (fun s _ _ => ?_) ?_ | (simp [*]; done) | split | dsimp only); done
        clear_value x
      | clear_value x
    | with_reducible refine Wf.foldl (fun s _ _ => ?_) ?_
    | simp [*]; done
    | split
    | dsimp only

@[simp] theorem Chip.delayReturn_wf (s : Chip) (l : List (SentSlot × ReturnedSlot)) (h0 : Wf s) : Wf (Chip.delayReturn s l) := by
  unfold Chip.delayReturn
  repeat' first
    | (try lift_lets); intro x
      first
      | have hx : Wf x := by simp only [x]; (repeat' first | with_reducible refine Wf.each (fun s _ _ => ?_) ?_ | (simp [*]; done) | split | dsimp only); done
        clear_value x
      | have hx : Wf x.2 := by simp only [x]; (repeat' first | with_reducible refine Wf.each (fun s _ _ => ?_) ?_ | (simp [*]; done) | split | dsimp only); done
        clear_value x
      | clear_value x
    | with_reducible refine Wf.each (fun s _ _ => ?_) ?_
    | simp [*]; done
    | split
    | dsimp only

@[simp] theorem Chip.mapReturn_wf (s : Chip) (d : Nat) (x : ReturnedSlot) (h0 : Wf s) : Wf (Chip.mapReturn s d x) := by
  unfold Chip.mapReturn
  repeat' first
    | (try lift_lets); intro x
      first
      | have hx : Wf x := by simp only [x]; (repeat' first | (simp [*]; done) | split); done
        clear_value x
      | have hx : Wf x.2 := by simp only [x]; (repeat' first | (simp [*]; done) | split); done
        clear_value x
      | clear_value x
    | simp [*]; done
    | split

@[simp] theorem Chip.confirmReturn_wf (s : Chip) (ring m : Nat) (x : ReturnedSlot) (h : Wf s) : Wf (s.confirmReturn ring m x) := by
  unfold Chip.confirmReturn
  split
  · exact h
  · extract_lets info3 t
    have ht : Wf t := by simpa [t] using h
    clear_value t
    split
    · simpa using Chip.setEntry_wf _ _ _ _ _ h
    · split
      · exact ht
      · simpa using ht

@[simp] theorem Chip.foundNode_wf (s : Chip) (ring pos : Nat) (p : List (BitVec 8)) (h0 : Wf s) : Wf (Chip.foundNode s ring pos p) := by
  unfold Chip.foundNode
  repeat' first
    | (try lift_lets); intro x
      first
      | have hx : Wf x := by simp only [x]; (repeat' first | (simp [*]; done) | split); done
        clear_value x
      | have hx : Wf x.2 := by simp only [x]; (repeat' first | (simp [*]; done) | split); done
        clear_value x
      | clear_value x
    | simp [*]; done
    | rename_i h; obtain rfl := congrArg Prod.snd h; simp [*]; done
    | split

@[simp] theorem Chip.probeReturn_wf (s : Chip) (ring hop m : Nat) (x : ReturnedSlot) (h0 : Wf s) : Wf (Chip.probeReturn s ring hop m x) := by
  unfold Chip.probeReturn
  repeat' first
    | (try lift_lets); intro x
      first
      | have hx : Wf x := by simp only [x]; (repeat' first | (simp [*]; done) | split); done
        clear_value x
      | have hx : Wf x.2 := by simp only [x]; (repeat' first | (simp [*]; done) | split); done
        clear_value x
      | clear_value x
    | simp [*]; done
    | split

@[simp] theorem Chip.slotsReturn_wf (s : Chip) (cyc : Nat) (l : List (SentSlot × ReturnedSlot)) (h0 : Wf s) : Wf (Chip.slotsReturn s cyc l) := by
  unfold Chip.slotsReturn
  repeat' first
    | (try lift_lets); intro x
      first
      | have hx : Wf x := by simp only [x]; (repeat' first | with_reducible refine Wf.each (fun s _ _ => ?_) ?_ | (simp [*]; done) | split | dsimp only); done
        clear_value x
      | have hx : Wf x.2 := by simp only [x]; (repeat' first | with_reducible refine Wf.each (fun s _ _ => ?_) ?_ | (simp [*]; done) | split | dsimp only); done
        clear_value x
      | clear_value x
    | with_reducible refine Wf.each (fun s _ _ => ?_) ?_
    | simp [*]; done
    | rename_i h; obtain rfl := congrArg Prod.snd h; simp [*]; done
    | split
    | dsimp only

@[simp] theorem Chip.buildFrames_wf (s : Chip) (n : Nat) (h0 : Wf s) : Wf (Chip.buildFrames s n) := by
  unfold Chip.buildFrames
  repeat' first
    | (try lift_lets); intro x
      first
      | have hx : Wf x := by simp only [x]; (repeat' first | with_reducible refine Wf.each (fun s _ _ => ?_) ?_ | with_reducible refine Wf.foldl (fun s _ _ => ?_) ?_ | (simp [*]; done) | split | dsimp only); done
        clear_value x
      | have hx : Wf x.2 := by simp only [x]; (repeat' first | with_reducible refine Wf.each (fun s _ _ => ?_) ?_ | with_reducible refine Wf.foldl (fun s _ _ => ?_) ?_ | (simp [*]; done) | split | dsimp only); done
        clear_value x
      | clear_value x
    | with_reducible refine Wf.each (fun s _ _ => ?_) ?_
    | with_reducible refine Wf.foldl (fun s _ _ => ?_) ?_
    | simp [*]; done
    | split
    | dsimp only

@[simp] theorem Chip.cycSend_wf (s : Chip) (h0 : Wf s) : Wf (Chip.cycSend s) := by
  unfold Chip.cycSend
  repeat' first
    | (try lift_lets); intro x
      first
      | have hx : Wf x := by simp only [x]; (repeat' first | (simp [*]; done) | split); done
        clear_value x
      | have hx : Wf x.2 := by simp only [x]; (repeat' first | (simp [*]; done) | split); done
        clear_value x
      | clear_value x
    | simp [*]; done
    | split

/-- The trunk POR empties the RAMs and keeps the NOR. -/
@[simp] theorem Chip.trunkPor_wf (s : Chip) (h : Wf s) : Wf s.trunkPor := ⟨rfl, h.2⟩

@[simp] theorem Chip.railPgTimeout_wf (s : Chip) (h0 : Wf s) : Wf (Chip.railPgTimeout s) := by
  unfold Chip.railPgTimeout
  repeat' first
    | (try lift_lets); intro x
      first
      | have hx : Wf x := by simp only [x]; (repeat' first | (simp [*]; done) | split); done
        clear_value x
      | have hx : Wf x.2 := by simp only [x]; (repeat' first | (simp [*]; done) | split); done
        clear_value x
      | clear_value x
    | simp [*]; done
    | split

@[simp] theorem Chip.railDisableNext_wf (s : Chip) (h0 : Wf s) : Wf (Chip.railDisableNext s) := by
  unfold Chip.railDisableNext
  repeat' first
    | (try lift_lets); intro x
      first
      | have hx : Wf x := by simp only [x]; (repeat' first | (simp [*]; done) | split); done
        clear_value x
      | have hx : Wf x.2 := by simp only [x]; (repeat' first | (simp [*]; done) | split); done
        clear_value x
      | clear_value x
    | simp [*]; done
    | rename_i h; obtain rfl := congrArg Prod.snd h; simp [*]; done
    | split

@[simp] theorem Chip.railReset_wf (s : Chip) (n : Nat) (h0 : Wf s) : Wf (Chip.railReset s n) := by
  unfold Chip.railReset
  repeat' first
    | (try lift_lets); intro x
      first
      | have hx : Wf x := by simp only [x]; (repeat' first | (simp [*]; done) | split); done
        clear_value x
      | have hx : Wf x.2 := by simp only [x]; (repeat' first | (simp [*]; done) | split); done
        clear_value x
      | clear_value x
    | simp [*]; done
    | split

@[simp] theorem Chip.nrstPulse_wf (s : Chip) (h0 : Wf s) : Wf (Chip.nrstPulse s) := by
  unfold Chip.nrstPulse
  repeat' first
    | (try lift_lets); intro x
      first
      | have hx : Wf x := by simp only [x]; (repeat' first | (simp [*]; done) | split); done
        clear_value x
      | have hx : Wf x.2 := by simp only [x]; (repeat' first | (simp [*]; done) | split); done
        clear_value x
      | clear_value x
    | simp [*]; done
    | split

@[simp] theorem Chip.nrstLong_wf (s : Chip) (h0 : Wf s) : Wf (Chip.nrstLong s) := by
  unfold Chip.nrstLong
  repeat' first
    | (try lift_lets); intro x
      first
      | have hx : Wf x := by simp only [x]; (repeat' first | (simp [*]; done) | split); done
        clear_value x
      | have hx : Wf x.2 := by simp only [x]; (repeat' first | (simp [*]; done) | split); done
        clear_value x
      | clear_value x
    | simp [*]; done
    | split

@[simp] theorem Chip.markGone_wf (s : Chip) (ring p state : Nat) (h0 : Wf s) : Wf (Chip.markGone s ring p state) := by
  unfold Chip.markGone
  repeat' first
    | (try lift_lets); intro x
      first
      | have hx : Wf x := by simp only [x]; (repeat' first | with_reducible refine Wf.each (fun s _ _ => ?_) ?_ | (simp [*]; done) | split | dsimp only); done
        clear_value x
      | have hx : Wf x.2 := by simp only [x]; (repeat' first | with_reducible refine Wf.each (fun s _ _ => ?_) ?_ | (simp [*]; done) | split | dsimp only); done
        clear_value x
      | clear_value x
    | with_reducible refine Wf.each (fun s _ _ => ?_) ?_
    | simp [*]; done
    | split
    | dsimp only

@[simp] theorem Chip.chainShrink_wf (s : Chip) (ring st : Nat) (h0 : Wf s) : Wf (Chip.chainShrink s ring st) := by
  unfold Chip.chainShrink
  repeat' first
    | (try lift_lets); intro x
      first
      | have hx : Wf x := by simp only [x]; (repeat' first | (simp [*]; done) | split); done
        clear_value x
      | have hx : Wf x.2 := by simp only [x]; (repeat' first | (simp [*]; done) | split); done
        clear_value x
      | clear_value x
    | simp [*]; done
    | split

@[simp] theorem Chip.almReceive_wf (s : Chip) (p : Nat) (body : List (BitVec 8)) (h0 : Wf s) : Wf (Chip.almReceive s p body) := by
  unfold Chip.almReceive
  repeat' first
    | (try lift_lets); intro x
      first
      | have hx : Wf x := by simp only [x]; (repeat' first | (simp [*]; done) | split); done
        clear_value x
      | have hx : Wf x.2 := by simp only [x]; (repeat' first | (simp [*]; done) | split); done
        clear_value x
      | clear_value x
    | simp [*]; done
    | split

@[simp] theorem Chip.slpHead_wf (s : Chip) (h0 : Wf s) : Wf (Chip.slpHead s) := by
  unfold Chip.slpHead
  repeat' first
    | (try lift_lets); intro x
      first
      | have hx : Wf x := by simp only [x]; (repeat' first | (simp [*]; done) | split); done
        clear_value x
      | have hx : Wf x.2 := by simp only [x]; (repeat' first | (simp [*]; done) | split); done
        clear_value x
      | clear_value x
    | simp [*]; done
    | split

@[simp] theorem Chip.slpReceive_wf (s : Chip) (p : Nat) (body : List (BitVec 8)) (h0 : Wf s) : Wf (Chip.slpReceive s p body) := by
  unfold Chip.slpReceive
  repeat' first
    | (try lift_lets); intro x
      first
      | have hx : Wf x := by simp only [x]; (repeat' first | (simp [*]; done) | split); done
        clear_value x
      | have hx : Wf x.2 := by simp only [x]; (repeat' first | (simp [*]; done) | split); done
        clear_value x
      | clear_value x
    | simp [*]; done
    | rename_i h; obtain rfl := congrArg Prod.snd h; simp [*]; done
    | split

@[simp] theorem Chip.commitWrite_wf (s : Chip) (a v : Nat) (h0 : Wf s) : Wf (Chip.commitWrite s a v) := by
  unfold Chip.commitWrite
  repeat' first
    | (try lift_lets); intro x
      first
      | have hx : Wf x := by simp only [x]; (repeat' first | (simp [*]; done) | split); done
        clear_value x
      | have hx : Wf x.2 := by simp only [x]; (repeat' first | (simp [*]; done) | split); done
        clear_value x
      | clear_value x
    | simp [*]; done
    | rename_i h; obtain rfl := congrArg Prod.snd h; simp [*]; done
    | split

@[simp] theorem Chip.commitOp_wf (s : Chip) (o : LogOp) (h0 : Wf s) : Wf (Chip.commitOp s o) := by
  unfold Chip.commitOp
  repeat' first
    | (try lift_lets); intro x
      first
      | have hx : Wf x := by simp only [x]; (repeat' first | (simp [*]; done) | split); done
        clear_value x
      | have hx : Wf x.2 := by simp only [x]; (repeat' first | (simp [*]; done) | split); done
        clear_value x
      | clear_value x
    | simp [*]; done
    | rename_i h; obtain rfl := congrArg Prod.snd h; simp [*]; done
    | split

@[simp] theorem Chip.frameCommit_wf (s : Chip) (l : List LogOp) (h0 : Wf s) : Wf (Chip.frameCommit s l) := by
  unfold Chip.frameCommit
  repeat' first
    | (try lift_lets); intro x
      first
      | have hx : Wf x := by simp only [x]; (repeat' first | with_reducible refine Wf.each (fun s _ _ => ?_) ?_ | (simp [*]; done) | split | dsimp only); done
        clear_value x
      | have hx : Wf x.2 := by simp only [x]; (repeat' first | with_reducible refine Wf.each (fun s _ _ => ?_) ?_ | (simp [*]; done) | split | dsimp only); done
        clear_value x
      | clear_value x
    | with_reducible refine Wf.each (fun s _ _ => ?_) ?_
    | simp [*]; done
    | split
    | dsimp only

@[simp] theorem Chip.frameEnd_wf (s : Chip) (f : FrameTail) (h0 : Wf s) : Wf (Chip.frameEnd s f) := by
  unfold Chip.frameEnd
  repeat' first
    | (try lift_lets); intro x
      first
      | have hx : Wf x := by simp only [x]; (repeat' first | (simp [*]; done) | split); done
        clear_value x
      | have hx : Wf x.2 := by simp only [x]; (repeat' first | (simp [*]; done) | split); done
        clear_value x
      | clear_value x
    | simp [*]; done
    | rename_i h; obtain rfl := congrArg Prod.snd h; simp [*]; done
    | split

@[simp] theorem Chip.frameTaken_wf (s : Chip) (x : SentFrame) (f : ReturnedFrame) (h0 : Wf s) : Wf (Chip.frameTaken s x f) := by
  unfold Chip.frameTaken
  repeat' first
    | (try lift_lets); intro x
      first
      | have hx : Wf x := by simp only [x]; (repeat' first | (simp [*]; done) | split); done
        clear_value x
      | have hx : Wf x.2 := by simp only [x]; (repeat' first | (simp [*]; done) | split); done
        clear_value x
      | clear_value x
    | simp [*]; done
    | split

@[simp] theorem Chip.headFrameReturn_wf (s : Chip) (p : Nat) (f : ReturnedFrame) (h0 : Wf s) : Wf (Chip.headFrameReturn s p f) := by
  unfold Chip.headFrameReturn
  repeat' first
    | (try lift_lets); intro x
      first
      | have hx : Wf x := by simp only [x]; (repeat' first | (simp [*]; done) | split); done
        clear_value x
      | have hx : Wf x.2 := by simp only [x]; (repeat' first | (simp [*]; done) | split); done
        clear_value x
      | clear_value x
    | simp [*]; done
    | rename_i h; obtain rfl := congrArg Prod.snd h; simp [*]; done
    | split

@[simp] theorem Chip.copyCode_wf (s : Chip) (e dst k : Nat) (h0 : Wf s) : Wf (Chip.copyCode s e dst k) := by
  unfold Chip.copyCode
  repeat' first
    | (try lift_lets); intro x
      first
      | have hx : Wf x := by simp only [x]; (repeat' first | with_reducible refine Wf.each (fun s _ _ => ?_) ?_ | (simp [*]; done) | split | dsimp only); done
        clear_value x
      | have hx : Wf x.2 := by simp only [x]; (repeat' first | with_reducible refine Wf.each (fun s _ _ => ?_) ?_ | (simp [*]; done) | split | dsimp only); done
        clear_value x
      | clear_value x
    | with_reducible refine Wf.each (fun s _ _ => ?_) ?_
    | simp [*]; done
    | split
    | dsimp only

@[simp] theorem Chip.loadDone_wf (s : Chip) (aborted : Bool) (h : Wf s) : Wf (s.loadDone aborted) := by
  have key : ∀ t : Chip, Wf t → ∀ (x : Loader) (f g k : Fld) (a b c : Nat), Wf { ((t.put f a).put g b).put k c with loader := x } :=
    fun _ h _ _ _ _ _ _ _ => h
  unfold Chip.loadDone
  split
  · exact h
  · split
    · split
      · exact h
      · exact key _ (Chip.copyCode_wf s.drew _ _ _ (by simpa using h)) _ _ _ _ _ _ _
    · exact key _ (Chip.copyCode_wf s _ _ _ h) _ _ _ _ _ _ _

@[simp] theorem Chip.runFence_wf (s : Chip) (q f : Nat) (h0 : Wf s) : Wf (Chip.runFence s q f) := by
  unfold Chip.runFence
  repeat' first
    | (try lift_lets); intro x
      first
      | have hx : Wf x := by simp only [x]; (repeat' first | (simp [*]; done) | split); done
        clear_value x
      | have hx : Wf x.2 := by simp only [x]; (repeat' first | (simp [*]; done) | split); done
        clear_value x
      | clear_value x
    | simp [*]; done
    | split

@[simp] theorem Chip.fenceUnits_wf (s : Chip) (f : Nat) (h : Wf s) : Wf (s.fenceUnits f) := by
  have key : ∀ t : Chip, Wf t → Wf ((t.each (List.range 128) (fun s q => s.runFence q f)).testFence f) := fun t h => by
    have := Wf.each (l := List.range 128) (fun s q h => Chip.runFence_wf s q f h) h
    simpa using this
  unfold Chip.fenceUnits
  refine key _ ?_
  repeat' first
    | (simp [h]; done)
    | split

@[simp] theorem Chip.fenceOne_wf (s : Chip) (l : FaultLine) (h0 : Wf s) : Wf (Chip.fenceOne s l) := by
  unfold Chip.fenceOne
  repeat' first
    | (try lift_lets); intro x
      first
      | have hx : Wf x := by simp only [x]; (repeat' first | (simp [*]; done) | split); done
        clear_value x
      | have hx : Wf x.2 := by simp only [x]; (repeat' first | (simp [*]; done) | split); done
        clear_value x
      | clear_value x
    | simp [*]; done
    | split

@[simp] theorem Chip.fenceRun_wf (s : Chip) (k : Nat) (h : Wf s) : Wf (s.fenceRun k) := by
  induction k generalizing s with
  | zero => exact h
  | succ k ih =>
    simp only [Chip.fenceRun]
    split
    · exact h
    · exact ih _ (Chip.fenceOne_wf _ _ h)

@[simp] theorem Chip.flaskFence_wf (s : Chip) (faults : List FaultIn) (h0 : Wf s) : Wf (Chip.flaskFence s faults) := by
  unfold Chip.flaskFence
  repeat' first
    | (try lift_lets); intro x
      first
      | have hx : Wf x := by simp only [x]; (repeat' first | with_reducible refine Wf.each (fun s _ _ => ?_) ?_ | (simp [*]; done) | split | dsimp only); done
        clear_value x
      | have hx : Wf x.2 := by simp only [x]; (repeat' first | with_reducible refine Wf.each (fun s _ _ => ?_) ?_ | (simp [*]; done) | split | dsimp only); done
        clear_value x
      | clear_value x
    | with_reducible refine Wf.each (fun s _ _ => ?_) ?_
    | simp [*]; done
    | split
    | dsimp only

@[simp] theorem Chip.evRun_wf (s : Chip) (x : EvRec) (h0 : Wf s) : Wf (Chip.evRun s x) := by
  unfold Chip.evRun
  repeat' first
    | (try lift_lets); intro x
      first
      | have hx : Wf x := by simp only [x]; (repeat' first | (simp [*]; done) | split); done
        clear_value x
      | have hx : Wf x.2 := by simp only [x]; (repeat' first | (simp [*]; done) | split); done
        clear_value x
      | clear_value x
    | simp [*]; done
    | split

@[simp] theorem Chip.evDeliver_wf (s : Chip) (x : EvRec) (h0 : Wf s) : Wf (Chip.evDeliver s x) := by
  unfold Chip.evDeliver
  repeat' first
    | (try lift_lets); intro x
      first
      | have hx : Wf x := by simp only [x]; (repeat' first | (simp [*]; done) | split); done
        clear_value x
      | have hx : Wf x.2 := by simp only [x]; (repeat' first | (simp [*]; done) | split); done
        clear_value x
      | clear_value x
    | simp [*]; done
    | split

@[simp] theorem Chip.evtTick_wf (s : Chip) (h0 : Wf s) : Wf (Chip.evtTick s) := by
  unfold Chip.evtTick
  repeat' first
    | (try lift_lets); intro x
      first
      | have hx : Wf x := by simp only [x]; (repeat' first | (simp [*]; done) | split); done
        clear_value x
      | have hx : Wf x.2 := by simp only [x]; (repeat' first | (simp [*]; done) | split); done
        clear_value x
      | clear_value x
    | simp [*]; done
    | rename_i h; obtain rfl := congrArg Prod.snd h; simp [*]; done
    | split

@[simp] theorem Chip.fenceQueued_wf (s : Chip) (h0 : Wf s) : Wf (Chip.fenceQueued s) := by
  unfold Chip.fenceQueued
  repeat' first
    | (try lift_lets); intro x
      first
      | have hx : Wf x := by simp only [x]; (repeat' first | (simp [*]; done) | split); done
        clear_value x
      | have hx : Wf x.2 := by simp only [x]; (repeat' first | (simp [*]; done) | split); done
        clear_value x
      | clear_value x
    | simp [*]; done
    | rename_i h; obtain rfl := congrArg Prod.snd h; simp [*]; done
    | split

@[simp] theorem Chip.seamResume_wf (s : Chip) (h0 : Wf s) : Wf (Chip.seamResume s) := by
  unfold Chip.seamResume
  repeat' first
    | (try lift_lets); intro x
      first
      | have hx : Wf x := by simp only [x]; (repeat' first | with_reducible refine Wf.each (fun s _ _ => ?_) ?_ | (simp [*]; done) | split | dsimp only); done
        clear_value x
      | have hx : Wf x.2 := by simp only [x]; (repeat' first | with_reducible refine Wf.each (fun s _ _ => ?_) ?_ | (simp [*]; done) | split | dsimp only); done
        clear_value x
      | clear_value x
    | with_reducible refine Wf.each (fun s _ _ => ?_) ?_
    | simp [*]; done
    | split
    | dsimp only

@[simp] theorem Chip.gateReject_wf (s : Chip) (a v : Nat) (h0 : Wf s) : Wf (Chip.gateReject s a v) := by
  unfold Chip.gateReject
  repeat' first
    | (try lift_lets); intro x
      first
      | have hx : Wf x := by simp only [x]; (repeat' first | (simp [*]; done) | split); done
        clear_value x
      | have hx : Wf x.2 := by simp only [x]; (repeat' first | (simp [*]; done) | split); done
        clear_value x
      | clear_value x
    | simp [*]; done
    | rename_i h; obtain rfl := congrArg Prod.snd h; simp [*]; done
    | split

@[simp] theorem Chip.logWrites_wf (s : Chip) (l : List (Nat × Nat)) (h : Wf s) : Wf (s.logWrites l).2 := by
  have key : ∀ (l : List (Nat × Nat)) (a : List LogOp) (s : Chip), Wf s → Wf (l.foldl (fun (t : List LogOp × Chip) p =>
      if p.1 = sleepPropReg ∧ p.2 ≠ 0 then (t.1 ++ [.propose], (t.2.busWrite .gate p.1 p.2).2)
      else (t.1 ++ [.write p.1 p.2], t.2)) (a, s)).2 := by
    intro l
    induction l with
    | nil => exact fun _ _ h => h
    | cons x t ih =>
      intro a s h
      simp only [List.foldl_cons]
      split
      · exact ih _ _ (Chip.busWrite_wf _ _ _ _ h)
      · exact ih _ _ h
  exact key _ _ _ h

@[simp] theorem Chip.decideWrites_wf (s : Chip) (x : Slot) (out : List (BitVec 8)) (h0 : Wf s) : Wf (Chip.decideWrites s x out).2 := by
  unfold Chip.decideWrites
  repeat' first
    | (try lift_lets); intro x
      first
      | have hx : Wf x := by simp only [x]; (repeat' first | (simp [*]; done) | split); done
        clear_value x
      | have hx : Wf x.2 := by simp only [x]; (repeat' first | (simp [*]; done) | split); done
        clear_value x
      | clear_value x
    | simp [*]; done
    | rename_i h; obtain rfl := congrArg Prod.snd h; simp [*]; done
    | split

@[simp] theorem gateWr_wf (s : Chip) (x : Slot) (h0 : Wf s) : Wf (gateWr s x).2 := by
  unfold gateWr
  repeat' first
    | (try lift_lets); intro x
      first
      | have hx : Wf x := by simp only [x]; (repeat' first | (simp [*]; done) | split); done
        clear_value x
      | have hx : Wf x.2 := by simp only [x]; (repeat' first | (simp [*]; done) | split); done
        clear_value x
      | clear_value x
    | simp [*]; done
    | split

@[simp] theorem gateRw_wf (s : Chip) (x : Slot) (h : Wf s) : Wf (gateRw s x).2 := by
  unfold gateRw
  split
  · exact h
  · have hr := Chip.gateReads_keeps s x.words
    split
    · rename_i e
      rw [e] at hr
      exact Chip.decideWrites_wf _ _ _ (by rw [Wf, hr.1, hr.2]; exact h)
    · rename_i e
      rw [e] at hr
      rw [Wf, hr.1, hr.2]; exact h

@[simp] theorem gateMbxPut_wf (s : Chip) (x : Slot) (h : Wf s) : Wf (gateMbxPut s x).2 := by
  unfold gateMbxPut
  dsimp only
  split
  · exact h
  · split
    · simpa using h
    · rename_i e
      have hp := Chip.poolPop_keeps _ _ e
      have ht : Wf _ := ⟨hp.1 ▸ h.1, hp.2 ▸ h.2⟩
      exact Chip.wrbs_wf _ _ _ (by simpa using ht)

@[simp] theorem isaPut_wf (e a b kind : Nat) (s : Chip) (h0 : Wf s) : Wf (isaPut e a b kind s) := by
  unfold isaPut
  repeat' first
    | (try lift_lets); intro x
      first
      | have hx : Wf x := by simp only [x]; (repeat' first | with_reducible refine Chip.isa_wf _ _ _ (fun s _ => ?_) ?_ | (simp [*]; done) | split | dsimp only); done
        clear_value x
      | have hx : Wf x.2 := by simp only [x]; (repeat' first | with_reducible refine Chip.isa_wf _ _ _ (fun s _ => ?_) ?_ | (simp [*]; done) | split | dsimp only); done
        clear_value x
      | clear_value x
    | with_reducible refine Chip.isa_wf _ _ _ (fun s _ => ?_) ?_
    | simp [*]; done
    | split
    | dsimp only

@[simp] theorem isaSend_wf (e d a b : Nat) (s : Chip) (h0 : Wf s) : Wf (isaSend e d a b s) := by
  unfold isaSend
  repeat' first
    | (try lift_lets); intro x
      first
      | have hx : Wf x := by simp only [x]; (repeat' first | with_reducible refine Chip.isa_wf _ _ _ (fun s _ => ?_) ?_ | (simp [*]; done) | split | dsimp only); done
        clear_value x
      | have hx : Wf x.2 := by simp only [x]; (repeat' first | with_reducible refine Chip.isa_wf _ _ _ (fun s _ => ?_) ?_ | (simp [*]; done) | split | dsimp only); done
        clear_value x
      | clear_value x
    | with_reducible refine Chip.isa_wf _ _ _ (fun s _ => ?_) ?_
    | simp [*]; done
    | split
    | dsimp only

@[simp] theorem isaStoreOp_wf (e : Fin 32) (d a : Nat) (imm : BitVec 14) (n : Nat) (s : Chip) (h0 : Wf s) : Wf (isaStoreOp e d a imm n s) := by
  unfold isaStoreOp
  repeat' first
    | (try lift_lets); intro x
      first
      | have hx : Wf x := by simp only [x]; (repeat' first | with_reducible refine Chip.isa_wf _ _ _ (fun s _ => ?_) ?_ | (simp [*]; done) | split | dsimp only); done
        clear_value x
      | have hx : Wf x.2 := by simp only [x]; (repeat' first | with_reducible refine Chip.isa_wf _ _ _ (fun s _ => ?_) ?_ | (simp [*]; done) | split | dsimp only); done
        clear_value x
      | clear_value x
    | with_reducible refine Chip.isa_wf _ _ _ (fun s _ => ?_) ?_
    | simp [*]; done
    | split
    | dsimp only

@[simp] theorem isaPortOut_wf (e : Nat) (p v : Chip → Nat) (s : Chip) (h : Wf s) : Wf (isaPortOut e p v s) :=
  Chip.isa_wf _ _ _ (fun s h => by
    dsimp only
    split
    · simpa using h
    · have := Chip.portWrite_wf s e (p s) (v s) h
      simpa using this) h

@[simp] theorem Chip.measPut_wf (s : Chip) (u : Nat) (o : MeasOut) (h0 : Wf s) : Wf (Chip.measPut s u o) := by
  unfold Chip.measPut
  repeat' first
    | (try lift_lets); intro x
      first
      | have hx : Wf x := by simp only [x]; (repeat' first | (simp [*]; done) | split); done
        clear_value x
      | have hx : Wf x.2 := by simp only [x]; (repeat' first | (simp [*]; done) | split); done
        clear_value x
      | clear_value x
    | simp [*]; done
    | rename_i h; obtain rfl := congrArg Prod.snd h; simp [*]; done
    | split

@[simp] theorem Chip.measSend_wf (s : Chip) (u : Nat) (o : MeasOut) (h0 : Wf s) : Wf (Chip.measSend s u o) := by
  unfold Chip.measSend
  repeat' first
    | (try lift_lets); intro x
      first
      | have hx : Wf x := by simp only [x]; (repeat' first | (simp [*]; done) | split); done
        clear_value x
      | have hx : Wf x.2 := by simp only [x]; (repeat' first | (simp [*]; done) | split); done
        clear_value x
      | clear_value x
    | simp [*]; done
    | split

@[simp] theorem Chip.measRelease_wf (s : Chip) (h0 : Wf s) : Wf (Chip.measRelease s) := by
  unfold Chip.measRelease
  repeat' first
    | (try lift_lets); intro x
      first
      | have hx : Wf x := by simp only [x]; (repeat' first | with_reducible refine Wf.each (fun s _ _ => ?_) ?_ | (simp [*]; done) | split | dsimp only); done
        clear_value x
      | have hx : Wf x.2 := by simp only [x]; (repeat' first | with_reducible refine Wf.each (fun s _ _ => ?_) ?_ | (simp [*]; done) | split | dsimp only); done
        clear_value x
      | clear_value x
    | with_reducible refine Wf.each (fun s _ _ => ?_) ?_
    | simp [*]; done
    | split
    | dsimp only

@[simp] theorem Chip.burstEntries_wf (s : Chip) (k len e t : Nat) (l : List Int) (h : Wf s) : Wf (s.burstEntries k len e t l) := by
  induction l generalizing s e t with
  | nil => exact h
  | cons x l ih =>
    simp only [Chip.burstEntries]
    split
    · exact h
    · refine ih _ _ _ ?_
      refine Chip.measSend_wf _ _ _ ?_
      simpa using h

@[simp] theorem Chip.burst_wf (s : Chip) (k i : Nat) (readings : List Int) (h0 : Wf s) : Wf (Chip.burst s k i readings) := by
  unfold Chip.burst
  repeat' first
    | (try lift_lets); intro x
      first
      | have hx : Wf x := by simp only [x]; (repeat' first | (simp [*]; done) | split); done
        clear_value x
      | have hx : Wf x.2 := by simp only [x]; (repeat' first | (simp [*]; done) | split); done
        clear_value x
      | clear_value x
    | simp [*]; done
    | split

@[simp] theorem Chip.bridge_wf (s : Chip) (b : Nat) (vdiff : Int) (h0 : Wf s) : Wf (Chip.bridge s b vdiff) := by
  unfold Chip.bridge
  repeat' first
    | (try lift_lets); intro x
      first
      | have hx : Wf x := by simp only [x]; (repeat' first | (simp [*]; done) | split); done
        clear_value x
      | have hx : Wf x.2 := by simp only [x]; (repeat' first | (simp [*]; done) | split); done
        clear_value x
      | clear_value x
    | simp [*]; done
    | split

@[simp] theorem Chip.stampsDrain_wf (s : Chip) (h0 : Wf s) : Wf (Chip.stampsDrain s) := by
  unfold Chip.stampsDrain
  repeat' first
    | (try lift_lets); intro x
      first
      | have hx : Wf x := by simp only [x]; (repeat' first | with_reducible refine Wf.each (fun s _ _ => ?_) ?_ | (simp [*]; done) | split | dsimp only); done
        clear_value x
      | have hx : Wf x.2 := by simp only [x]; (repeat' first | with_reducible refine Wf.each (fun s _ _ => ?_) ?_ | (simp [*]; done) | split | dsimp only); done
        clear_value x
      | clear_value x
    | with_reducible refine Wf.each (fun s _ _ => ?_) ?_
    | simp [*]; done
    | rename_i h; obtain rfl := congrArg Prod.snd h; simp [*]; done
    | split
    | dsimp only

@[simp] theorem Chip.snapshot_wf (s : Chip) (h0 : Wf s) : Wf (Chip.snapshot s) := by
  unfold Chip.snapshot
  repeat' first
    | (try lift_lets); intro x
      first
      | have hx : Wf x := by simp only [x]; (repeat' first | with_reducible refine Wf.each (fun s _ _ => ?_) ?_ | (simp [*]; done) | split | dsimp only); done
        clear_value x
      | have hx : Wf x.2 := by simp only [x]; (repeat' first | with_reducible refine Wf.each (fun s _ _ => ?_) ?_ | (simp [*]; done) | split | dsimp only); done
        clear_value x
      | clear_value x
    | with_reducible refine Wf.each (fun s _ _ => ?_) ?_
    | simp [*]; done
    | split
    | dsimp only

@[simp] theorem mgmtWrites_wf (q : MgmtReq) (l : List (BitVec 32)) (a n : Nat) (s : Chip) (h : Wf s) : Wf (mgmtWrites q l a n s).1 := by
  induction l generalizing a n s with
  | nil => exact h
  | cons x t ih =>
    have hb := Chip.busWrite_wf s .mgmt a x.toNat h
    simp only [mgmtWrites]
    split
    · exact h
    · split
      · exact hb
      · exact ih _ _ _ hb

@[simp] theorem Chip.mgmtExec_wf (s : Chip) (q : MgmtReq) (h : Wf s) : Wf (s.mgmtExec q) := by
  have hw := mgmtWrites_wf q (bytesWords q.data) q.addr 0 s h
  have hd := Chip.imageData_wf s q.addr q.data h
  unfold Chip.mgmtExec
  dsimp only
  (repeat' split) <;> simp [h, hw, hd]

@[simp] theorem Chip.mgmtDrive_wf (s : Chip) (h0 : Wf s) : Wf (Chip.mgmtDrive s) := by
  unfold Chip.mgmtDrive
  repeat' first
    | (try lift_lets); intro x
      first
      | have hx : Wf x := by simp only [x]; (repeat' first | (simp [*]; done) | split); done
        clear_value x
      | have hx : Wf x.2 := by simp only [x]; (repeat' first | (simp [*]; done) | split); done
        clear_value x
      | clear_value x
    | simp [*]; done
    | rename_i h; obtain rfl := congrArg Prod.snd h; simp [*]; done
    | split

@[simp] theorem Chip.mgmtTake_wf (s : Chip) (q : MgmtReq) (h0 : Wf s) : Wf (Chip.mgmtTake s q) := by
  unfold Chip.mgmtTake
  repeat' first
    | (try lift_lets); intro x
      first
      | have hx : Wf x := by simp only [x]; (repeat' first | (simp [*]; done) | split); done
        clear_value x
      | have hx : Wf x.2 := by simp only [x]; (repeat' first | (simp [*]; done) | split); done
        clear_value x
      | clear_value x
    | simp [*]; done
    | split

@[simp] theorem Chip.wrws_wf (s : Chip) (a : Nat) (l : List (BitVec 32)) (h : Wf s) : Wf (s.wrws a l) := by
  induction l generalizing s a with
  | nil => exact h
  | cons b t ih => exact ih _ _ (Chip.wrw_wf _ _ _ h)

@[simp] theorem Chip.pllLoss_wf (s : Chip) (h0 : Wf s) : Wf (Chip.pllLoss s) := by
  unfold Chip.pllLoss
  repeat' first
    | (try lift_lets); intro x
      first
      | have hx : Wf x := by simp only [x]; (repeat' first | (simp [*]; done) | split); done
        clear_value x
      | have hx : Wf x.2 := by simp only [x]; (repeat' first | (simp [*]; done) | split); done
        clear_value x
      | clear_value x
    | simp [*]; done
    | split

@[simp] theorem Chip.runReset_wf (s : Chip) (q : Nat) (h0 : Wf s) : Wf (Chip.runReset s q) := by
  unfold Chip.runReset
  repeat' first
    | (try lift_lets); intro x
      first
      | have hx : Wf x := by simp only [x]; (repeat' first | (simp [*]; done) | split); done
        clear_value x
      | have hx : Wf x.2 := by simp only [x]; (repeat' first | (simp [*]; done) | split); done
        clear_value x
      | clear_value x
    | simp [*]; done
    | split

@[simp] theorem Chip.runPointerCheck_wf (s : Chip) (q : Nat) (h0 : Wf s) : Wf (Chip.runPointerCheck s q) := by
  unfold Chip.runPointerCheck
  repeat' first
    | (try lift_lets); intro x
      first
      | have hx : Wf x := by simp only [x]; (repeat' first | (simp [*]; done) | split); done
        clear_value x
      | have hx : Wf x.2 := by simp only [x]; (repeat' first | (simp [*]; done) | split); done
        clear_value x
      | clear_value x
    | simp [*]; done
    | split

@[simp] theorem Chip.coreFrame_wf (s : Chip) (ok : Bool) (h0 : Wf s) : Wf (Chip.coreFrame s ok) := by
  unfold Chip.coreFrame
  repeat' first
    | (try lift_lets); intro x
      first
      | have hx : Wf x := by simp only [x]; (repeat' first | (simp [*]; done) | split); done
        clear_value x
      | have hx : Wf x.2 := by simp only [x]; (repeat' first | (simp [*]; done) | split); done
        clear_value x
      | clear_value x
    | simp [*]; done
    | rename_i h; obtain rfl := congrArg Prod.snd h; simp [*]; done
    | split

@[simp] theorem Chip.retrainDone_wf (s : Chip) (h0 : Wf s) : Wf (Chip.retrainDone s) := by
  unfold Chip.retrainDone
  repeat' first
    | (try lift_lets); intro x
      first
      | have hx : Wf x := by simp only [x]; (repeat' first | (simp [*]; done) | split); done
        clear_value x
      | have hx : Wf x.2 := by simp only [x]; (repeat' first | (simp [*]; done) | split); done
        clear_value x
      | clear_value x
    | simp [*]; done
    | split

@[simp] theorem Chip.usTick_wf (s : Chip) (h0 : Wf s) : Wf (Chip.usTick s) := by
  unfold Chip.usTick
  repeat' first
    | (try lift_lets); intro x
      first
      | have hx : Wf x := by simp only [x]; (repeat' first | with_reducible refine Wf.each (fun s _ _ => ?_) ?_ | (simp [*]; done) | split | dsimp only); done
        clear_value x
      | have hx : Wf x.2 := by simp only [x]; (repeat' first | with_reducible refine Wf.each (fun s _ _ => ?_) ?_ | (simp [*]; done) | split | dsimp only); done
        clear_value x
      | clear_value x
    | with_reducible refine Wf.each (fun s _ _ => ?_) ?_
    | simp [*]; done
    | split
    | dsimp only

@[simp] theorem Chip.coreTick_wf (s : Chip) (h0 : Wf s) : Wf (Chip.coreTick s) := by
  unfold Chip.coreTick
  repeat' first
    | (try lift_lets); intro x
      first
      | have hx : Wf x := by simp only [x]; (repeat' first | with_reducible refine Wf.each (fun s _ _ => ?_) ?_ | (simp [*]; done) | split | dsimp only); done
        clear_value x
      | have hx : Wf x.2 := by simp only [x]; (repeat' first | with_reducible refine Wf.each (fun s _ _ => ?_) ?_ | (simp [*]; done) | split | dsimp only); done
        clear_value x
      | clear_value x
    | with_reducible refine Wf.each (fun s _ _ => ?_) ?_
    | simp [*]; done
    | split
    | dsimp only

@[simp] theorem Chip.ccTick_wf (s : Chip) (h0 : Wf s) : Wf (Chip.ccTick s) := by
  unfold Chip.ccTick
  repeat' first
    | (try lift_lets); intro x
      first
      | have hx : Wf x := by simp only [x]; (repeat' first | (simp [*]; done) | split); done
        clear_value x
      | have hx : Wf x.2 := by simp only [x]; (repeat' first | (simp [*]; done) | split); done
        clear_value x
      | clear_value x
    | simp [*]; done
    | split

end Sys2Proof.Machine
end

