-- ==== Sys2Proof/Laws/Ports.lean ====
section
/-! SUPPORT. Port writes by engines and the memories: only a transmit or session port of a CAN controller can store. -/

namespace Sys2Proof.Machine

/-- What a port write does keeps both memories, but at the CAN controllers' ports. -/
theorem Chip.portDo_keeps (s : Chip) (p v : Nat) (h : p / 0x1000 ≠ 5) : Keeps s (s.portDo p v).2 := by
  unfold Chip.portDo
  dsimp only
  repeat' first
    | simp; done
    | contradiction
    | split

/-- The buffer words of a CAN controller and the staged words of its sessions keep both memories. -/
theorem Chip.canStage_keeps (s : Chip) (c off v : Nat) (h : off < 0x80 ∧ off % 16 < 4 ∨ 0x80 ≤ off ∧ (off - 0x80) % 4 < 2) :
    Keeps s (s.canPortWrite c off v).2 := by
  unfold Chip.canPortWrite
  dsimp only
  repeat' first
    | simp; done
    | (exfalso; omega)
    | split
  rename_i a b c
  exact absurd h (by
    have h0 : (off - 128) % 4 ≠ 0 := fun e => a e
    have h1 : (off - 128) % 4 ≠ 1 := fun e => b e
    omega)

/-- A port write as a command keeps the memories wherever what it does keeps them. -/
theorem Chip.portDoBy_keeps (s : Chip) (e : Fin 32) (p v : Nat) (h : ∀ s : Chip, Keeps s (s.portDo p v).2) :
    Keeps s (s.portDoBy e p v) := by
  have hw : Keeps s (s.portWrite e.val p v).2 := by
    unfold Chip.portWrite
    split
    · simp
    · dsimp only
      split
      · simpa using h s
      · exact Keeps.trans (h s) (by simp)
  unfold Chip.portDoBy
  split
  · simp
  · split
    · simp
    · exact Keeps.trans hw (by simp)

end Sys2Proof.Machine
end

