-- ==== Sys2Proof/Tests/Slice0.lean ====
section
/-! SUPPORT. Tests: ill-formed commands are refused, code words decode as the spec encodes them, single steps against the spec's worked
examples, and for every statement with hypotheses a state and operands that meet them. -/

namespace Sys2Proof.Tests

open Sys2Proof.Machine

set_option maxRecDepth 20000
set_option Elab.async false

/-! Well-formed commands: one ill-formed term for each check -/

/-- A slot whose LEN says 8 and whose payload has 4 bytes. -/
theorem test_refuses_slot_length : (Instr.hopRd ⟨0x0002FF00, 0, 0, 0, 8, 0, [0, 0, 0, 0], 0, 0, 0⟩).wf = false := by decide

/-- A slot with a payload of 3 bytes. -/
theorem test_refuses_slot_part_word : (Instr.hopRd ⟨0x0002FF00, 0, 0, 0, 3, 0, [0, 0, 0], 0, 0, 0⟩).wf = false := by decide

/-- A CAN frame with more data than its DLC. -/
theorem test_refuses_can_data : (Instr.canFrameReceive 0 ⟨1, false, false, 1, [1, 2], 0⟩).wf = false := by decide

/-- A base identifier of 12 bits. -/
theorem test_refuses_can_identifier : (Instr.canFrameReceive 0 ⟨0x800, false, false, 0, [], 0⟩).wf = false := by decide

/-- A PD message without its header. -/
theorem test_refuses_pd_message : (Instr.pdMessageReceive 0 ⟨0, [1]⟩).wf = false := by decide

/-- A packet with no data words. -/
theorem test_refuses_empty_packet : (Instr.hardwarePut 0 .meas []).wf = false := by decide

/-- A SETUP whose data are not 8 bytes. -/
theorem test_refuses_setup_data : (Instr.wideHostSetup 0 0 [1, 2, 3]).wf = false := by decide

/-- A data packet of more than 1,024 bytes: at a split, a poll and a down record. -/
theorem test_refuses_long_reply :
    (Instr.completeSplit 0 ⟨1, 1, true⟩ (.data false (List.replicate 1025 0))).wf = false ∧
    (Instr.pollRun [⟨0, .data false (List.replicate 1025 0)⟩]).wf = false ∧
    (Instr.downRecordExecute 0 (.data false (List.replicate 1025 0))).wf = false := by decide +kernel

/-- A burst of more than 64 readings. -/
theorem test_refuses_long_burst : (Instr.burstStart 0 0 (List.replicate 65 0)).wf = false := by decide +kernel

/-- A returned slot with a payload of 3 bytes. -/
theorem test_refuses_returned_slot : (Instr.headFrameReturn ⟨0, 0, false, true, [⟨0, [0, 0, 0], 0, 0, 0⟩]⟩).wf = false := by decide

/-! Code words, from the worked example of 10_sprue_instruction_set.md (words 0x040 to 0x048) -/

theorem test_word_clracc : decodeSprue 6 0x50000008 = some (.isaWacc 6 0 0) := by decide
theorem test_word_movi : decodeSprue 6 0x1D800004 = some (.isaMovi 6 6 4) := by decide
theorem test_word_loop : decodeSprue 6 0x90180005 = some (.isaLoop 6 6 5) := by decide
theorem test_word_ldhs : decodeSprue 6 0x65040000 = some (.isaLdhs 6 4 1 0) ∧ decodeSprue 6 0x65480000 = some (.isaLdhs 6 5 2 0) := by decide
theorem test_word_addi : decodeSprue 6 0x04440002 = some (.isaAddi 6 1 1 2) ∧ decodeSprue 6 0x04880002 = some (.isaAddi 6 2 2 2) := by decide
theorem test_word_mac_q15 : decodeSprue 6 0x44114004 = some (.isaMacQ15 6 4 5) := by decide
theorem test_word_racc_q15 : decodeSprue 6 0x50C00003 = some (.isaRaccQ15 6 3 false) := by decide

/-- Table ISA-1 by hand, one word of each further family: op, d, a, b and func. -/
theorem test_words_by_hand :
    decodeSprue 0 (0x00 * 2 ^ 26 + 3 * 2 ^ 22 + 4 * 2 ^ 18 + 5 * 2 ^ 14 + 1) = some (.isaSub 0 3 4 5) ∧
    decodeSprue 0 (0x20 * 2 ^ 26 + 1 * 2 ^ 22 + 9) = some (.isaBCond 0 1 9) ∧
    decodeSprue 0 (0x28 * 2 ^ 26 + 2 * 2 ^ 18 + 3 * 2 ^ 14) = some (.isaRput 0 2 3) ∧
    decodeSprue 0 (0x30 * 2 ^ 26 + 7 * 2 ^ 22 + 0x1234) = some (.isaPin 0 7 0x1234) ∧
    decodeSprue 0 (0x39 * 2 ^ 26 + 1 * 2 ^ 22 + 2 * 2 ^ 18 + 1) = some (.isaMrecv 0 1 2) ∧
    decodeSprue 0 (0x3D * 2 ^ 26 + 16 * 5 + 2) = some (.isaTrap 0 5) := by decide

/-- R222: cond 15, a reserved opcode, a field the row does not name, a bit field past bit 31. -/
theorem test_words_of_trap_1 :
    decodeSprue 0 (0x20 * 2 ^ 26 + 15 * 2 ^ 22) = none ∧ decodeSprue 0 (0x0F * 2 ^ 26) = none ∧
    decodeSprue 0 (0x01 * 2 ^ 26 + 1 * 2 ^ 14) = none ∧ decodeSprue 0 (0x13 * 2 ^ 26 + 32 * 31 + 1) = none := by decide

/-- FIPS 180-4's example: the digest of "abc". -/
theorem test_sha256_abc :
    beNat (sha256 [0x61, 0x62, 0x63]) = 0xba7816bf8f01cfea414140de5dae2223b00361a396177a9cb410ff61f20015ad := by decide +kernel

/-! States for the tests -/

/-- A block out of reset with the given fields of the register file, working values (on both dies) and live values. -/
def chip (regs : List (Fld × Nat) := []) (works : List (Fld × Nat) := []) (lives : List (Fld × Nat) := []) : Chip :=
  let c := { State.reset.chip with pwr := { State.reset.chip.pwr with coreRst := false, fieldRst := false } }
  let c := regs.foldl (fun c x => c.put x.1 x.2) c
  let c := lives.foldl (fun c x => c.setLv x.1 x.2) c
  works.foldl (fun c x => { c with
    work := c.work.put x.1.reset x.1.key x.2, shadow := c.shadow.put x.1.reset x.1.key x.2
    fWork := c.fWork.put x.1.reset x.1.key x.2, fShadow := c.fShadow.put x.1.reset x.1.key x.2 }) c

/-- The block with the ports from `lo` on claimed by engine 0 for itself. -/
def claimed (lo : Nat) (c : Chip) : Chip :=
  [(Reg.ENG_CLAIM_EN 0, 1), (Reg.ENG_CLAIM_FIRST 0, lo), (Reg.ENG_CLAIM_COUNT 0, 64)].foldl
    (fun c x => { c with work := c.work.put x.1.reset x.1.key x.2 }) (c.put (Reg.ENG_STAT_STATE 0) 1)

/-- Bytes with their CRC-16 behind them. -/
def withCrc (b : List (BitVec 8)) : List (BitVec 8) := b ++ natBytes 2 (crc16 0xFFFF b).toNat

/-- A state with nothing waiting. -/
def st (c : Chip) : State := { State.reset with chip := c }

/-- Working values of fields, on both dies. -/
def works (l : List (Fld × Nat)) (c : Chip) : Chip :=
  l.foldl (fun c x => { c with work := c.work.put x.1.reset x.1.key x.2, fWork := c.fWork.put x.1.reset x.1.key x.2 }) c
/-- Fields of the register file. -/
def regs (l : List (Fld × Nat)) (c : Chip) : Chip := l.foldl (fun c x => c.put x.1 x.2) c
/-- Cuff 0 under firmware policy of engine 0, which runs. -/
def firmCuff (c : Chip) : Chip :=
  (works [(Reg.CUFF_POL_SRC 0, 1), (Reg.CUFF_POL_ENG 0, 0)] (claimed 0x2000 (regs [(Reg.SEAM_STATUS_UP, 1), (Reg.CUFF_STAT_EN 0, 1)] c))).setLv (Reg.CUFF_STAT_POLICY 0) 1
/-- The management function is configured and reachable. -/
def mgmtOn (c : Chip) : Chip := (c.put Reg.HUB_STAT_UP_STATE 3).setHp 9 { st := 2 ^ stEnable }
/-- The wide hub is shown and configured, wide port 2 mapped, enabled and live. -/
def wideOn (c : Chip) : Chip :=
  let c := works [(Reg.WIDE_MAP_EN 2, 1), (Reg.WIDE_MAP_STATION 2, 5)]
    (regs [(Reg.WIDE_STAT_PRESENTING, 1), (Reg.WIDE_CFG_NPORTS, 8), (Reg.WIDE_PORT_STAT_STATUS 2, 2 ^ stEnable)] c)
  { c with hub := { c.hub with wup := 3 } }
/-- Wide port 2 is served by this node, its device on local port 1 enabled. -/
def wideServed (c : Chip) : Chip :=
  (works [(Reg.WIDE_MAP_EN 2, 1), (Reg.WIDE_MAP_STATION 2, 5), (Reg.WIDE_MAP_LPORT 2, 1)]
    (regs [(Reg.CHAIN_STAT_ADDR_VALID, 1), (Reg.CHAIN_ADDR_STATION, 5)] c)).setHp 1 { st := 2 ^ stEnable }
/-- Engine 0 runs with these values in g1 and g2. -/
def eng2 (a b : BitVec 32) (c : Chip) : Chip := (c.put (Reg.ENG_STAT_STATE 0) 1).setEng 0 { g := [(1, a), (2, b)] }
/-- A synchronised member whose headward port is 0. -/
def member (c : Chip) : Chip := regs [(Reg.CLK_STATUS_EN, 1), (Reg.CHAIN_STAT_ROLE, 2), (Reg.LINK_STAT_STATE 0, 7)] c
/-- The words of a checkpoint chunk i of epoch e stand in CKPT_IN of a reserve. -/
def chunkIn (e i : Nat) (part : Option (Nat × Nat)) (c : Chip) : Chip :=
  let c := c.put Reg.CHAIN_STAT_ROLE 2
  { c with chain := { c.chain with words := [(0, e), (1, 141 * 65536 + i)], part := part } }
/-- The local hub is configured. -/
def hubOn (c : Chip) : Chip := regs [(Reg.HUB_STAT_EN, 1), (Reg.HUB_STAT_UP_STATE, 3)] c
/-- A full-speed device is enabled on hub port 1, whose translator is as given. -/
def ttOn (x : HubPort) (c : Chip) : Chip := (hubOn c).setHp 1 { x with st := 2 ^ stEnable }
/-- A test runs. -/
def testing (kind scope : Nat) (c : Chip) : Chip := { c with test := { c.test with run := some ⟨kind, scope, false⟩ } }
/-- A joined node with its headward port, on which frames reach it. -/
def joined (c : Chip) : Chip := regs [(Reg.CLK_STATUS_EN, 1), (Reg.LINK_STAT_STATE 0, 7)] c
/-- The wide hub holds these transactions for wide port 2. -/
def wideHeld (l : List WTx) (c : Chip) : Chip := (wideOn c).setWp 2 { held := l }
/-- Poll entry 0 of wide port 2, device 1, endpoint 1. -/
def widePoll (dirIn iso : Nat) (c : Chip) : Chip :=
  works [(Reg.WIDE_POLL_EN 0, 1), (Reg.WIDE_POLL_PORT 0, 2), (Reg.WIDE_POLL_DEV 0, 1), (Reg.WIDE_POLL_EP 0, 1), (Reg.WIDE_POLL_DIR 0, dirIn),
    (Reg.WIDE_POLL_TYPE 0, iso)] (wideOn c)
/-- A slot of a frame whose header is in order, with its header CRC. -/
def goodSlot (op : Nat) (flags : BitVec 8) (addr : BitVec 16) (target : BitVec 32) (payload : List (BitVec 8)) : Slot :=
  ⟨0x0002FF00, flags, addr, target, BitVec.ofNat 16 payload.length,
    (crc16 0xFFFF (natBytes 1 op ++ natBytes 1 flags.toNat ++ natBytes 2 addr.toNat ++ natBytes 4 target.toNat ++
      natBytes 2 payload.length)).setWidth 16,
    payload, 0, 0, 0⟩
/-- A slot of a frame in order whose header CRC is wrong. -/
def badSlot (op : Nat) : Slot := { goodSlot op 0 0 0 [0, 0, 0, 0] with hcrc := 0 }
/-- A member in the middle of a frame on port 0. -/
def midFrame (c : Chip) : Chip := let c := joined c; { c with gate := { c.gate with run := { begun := true } } }

/-- An image of one empty register section, of this version, signed with the private key 1: its public key is the base point. Source of the
signature (r is the base point's abscissa): computed by hand from FIPS 186-4 with the nonce 1. -/
def imageOf (version s : Nat) : List (BitVec 8) :=
  natBytes 4 0x49505A46 ++ natBytes 4 1 ++ natBytes 4 272 ++ natBytes 4 0 ++ natBytes 4 version ++ natBytes 4 1 ++ List.replicate 8 0 ++
  beBytes 32 p256G.1 ++ beBytes 32 p256G.2 ++ beBytes 32 p256G.1 ++
  beBytes 32 s ++
  List.replicate 0x60 0 ++ natBytes 4 2 ++ natBytes 4 0 ++ natBytes 4 272 ++ natBytes 4 0

/-- Version 1. -/
def signedImage : List (BitVec 8) := imageOf 1 0x2c88a529aa2430f2f0cca5631776395c0e639d6a9852e50afb599c5d6e74af40

/-- Version 2. -/
def newerImage : List (BitVec 8) := imageOf 2 0xb2e185089a9ef10cf548183c1852d81aaf1232d066c98f1d2e48f397a8379b7c

theorem test_signed_image_format : formatOk signedImage = true := by decide +kernel

theorem test_signed_image_signature : signatureOk signedImage = true := by decide +kernel

theorem test_newer_image_format : formatOk newerImage = true := by decide +kernel

theorem test_newer_image_signature : signatureOk newerImage = true := by decide +kernel

/-- A NOR slot holds an image. -/
def inSlotOf (b : List (BitVec 8)) (k : Nat) (c : Chip) : Chip :=
  { c with nor := ((List.range 272).map (fun i => slotBase k + i)).zip b ++ c.nor }

/-- A NOR slot holds the signed image. -/
def inSlot (k : Nat) (c : Chip) : Chip := inSlotOf signedImage k c

theorem image_good (c : Chip) (b : List (BitVec 8)) (hf : formatOk b = true) (hs : signatureOk b = true) (hr : c.boot.rbCnt = 0)
    (hk : c.boot.keyHash = none) : c.imageErr b = 0 := by
  simp [Chip.imageErr, hr, hk, hf, hs]

theorem image_err (c : Chip) (b : List (BitVec 8)) (hb : b = signedImage) (hr : c.boot.rbCnt = 0) (hk : c.boot.keyHash = none) :
    c.imageErr b = 0 := by
  subst hb; exact image_good c _ test_signed_image_format test_signed_image_signature hr hk

theorem image_version : imgWord signedImage 0x10 = 1 := by decide +kernel

theorem newer_version : imgWord newerImage 0x10 = 2 := by decide +kernel

theorem slot_version (k : Nat) (c : Chip) (hk : c.boot.keyHash = none) (hr : c.boot.rbCnt = 0) (h : c.slotImage k = some signedImage) :
    c.slotVersion k = some 1 := by
  simp only [Chip.slotVersion, h, image_good c _ test_signed_image_format test_signed_image_signature hr hk, image_version, if_true]

theorem slot_newer (k : Nat) (c : Chip) (hk : c.boot.keyHash = none) (hr : c.boot.rbCnt = 0) (h : c.slotImage k = some newerImage) :
    c.slotVersion k = some 2 := by
  simp only [Chip.slotVersion, h, image_good c _ test_newer_image_format test_newer_image_signature hr hk, newer_version, if_true]

/-! Single steps -/

/-- The block behind a command. -/
def behind (i : Instr) (c : Chip) : Chip := match exec i (st c) with | .next t => t.chip | _ => c

theorem test_reset_memories : State.reset.chip.memoriesWf = true := by decide

/-- The worked example of 10_sprue_instruction_set.md: 0x2000 times 0x4000, shifted left by 1. -/
theorem test_mac_q15 :
    ((behind (.isaMacQ15 0 1 2) (eng2 0x2000 0x4000 chip)).eng 0).acc = 0x10000000 := by decide +kernel

/-- The same example: ACC 0x4080_0000 rounds to 0x4080, and S stays 0. -/
theorem test_racc_q15 :
    let x := (behind (.isaRaccQ15 0 3 false) ((chip [(Reg.ENG_STAT_STATE 0, 1)]).setEng 0 { acc := 0x40800000 })).eng 0
    x.reg 3 = 0x4080 ∧ x.sat = false := by decide +kernel

/-- Addition wraps: 0xFFFF_FFFF + 1 is 0 with Z and C set, and the program counter goes on (Table ISA-4). -/
theorem test_add_wraps :
    let c := behind (.isaAdd 0 1 1 2) (eng2 0xFFFFFFFF 1 chip)
    (c.eng 0).reg 1 = 0 ∧ (c.eng 0).z = true ∧ (c.eng 0).c = true ∧ c.get (Reg.ENG_PC 0) = 1 := by decide +kernel

/-- An illegal word takes trap 1, and TRAP_ADDR holds it (R222). -/
theorem test_illegal_word :
    let c := behind (.illegalInstruction 0 0x83C00000) (chip [(Reg.ENG_STAT_STATE 0, 1)])
    c.get (Reg.ENG_TRAP_CAUSE 0) = 1 ∧ c.get (Reg.ENG_TRAP_ADDR 0) = 0x83C00000 := by decide +kernel

/-- The worked example of 24_events.md: source 73 at station 30, unit 9, code 2, cycle 51,200. -/
theorem test_event_record_words :
    EvRec.words ⟨73, 0, 30 * 2 ^ 9, detail 9 2, 51200, 7, 0, false⟩ = [0x3C49, 0x0209, 0xC800, 7] := by decide +kernel

/-- A HOP_RD at hop 0 is acted on: ACTED goes out as 1, and the address counts down (06_cycle_frames_and_gate.md R129). -/
theorem test_hop_read_acts :
    ((behind (.hopRd (goodSlot 1 0 0 0x1000000 [0, 0, 0, 0])) (joined chip)).gate.run.fwd.map (fun w => w.acted)) = [1] := by
  decide +kernel

/-! Witnesses: states and operands that meet the hypotheses of the statements -/

/-- Witness of the hypotheses of Obligations.EveryStepKeepsMemoriesCanonical. -/
theorem meets_EveryStepKeepsMemoriesCanonical : State.reset.chip.memoriesWf = true ∧ ∃ t, step State.reset = .next t :=
  ⟨by decide, _, rfl⟩

/-- Witness of the hypotheses of Obligations.CommandsThatStoreNothingKeepMemory. -/
theorem meets_CommandsThatStoreNothingKeepMemory :
    (Instr.isaAdd 0 1 2 3).stores = false ∧ ∃ t, exec (.isaAdd 0 1 2 3) State.reset = .next t :=
  ⟨by decide +kernel, _, rfl⟩

/-- Witnesses of the hypotheses of Obligations.CodeWordsAndInstructionsAgree, at the bounds of `Instr.conforms` and on a word. -/
theorem meets_CodeWordsAndInstructionsAgree :
    ((Instr.isaBCond 31 14 0).engineOf = some 31 ∧ (Instr.isaBCond 31 14 0).conforms = true) ∧
    ((Instr.isaLoop 0 1 1).engineOf = some 0 ∧ (Instr.isaLoop 0 1 1).conforms = true) ∧
    ((Instr.isaBfx 0 1 2 31 0).engineOf = some 0 ∧ (Instr.isaBfx 0 1 2 31 0).conforms = true) ∧
    ((Instr.isaCsrr 0 1 7).engineOf = some 0 ∧ (Instr.isaCsrr 0 1 7).conforms = true) ∧
    (0x50000008 < 2 ^ 32 ∧ decodeSprue 0 0x50000008 = some (.isaWacc 0 0 0)) := by decide +kernel


/-- Witnesses of the hypotheses of Obligations.QueuedCommandsRunInOrder. -/
theorem meets_QueuedCommandsRunInOrder :
    (
     let n : Nat := 0
     let s : State := st (chip)
     (n ≤ s.pending.length)) ∧
    (
     let s : State := st (chip)
     (s.pending = [])) := by
  refine ⟨?_, ?_⟩ <;> dsimp only <;> decide +kernel

/-- Witnesses of the hypotheses of Obligations.RegisterCommandsTurnedAway. -/
theorem meets_RegisterCommandsTurnedAway :
    (
     let i : Instr := .localPour .mgmt 1
     let r : Requester := .mgmt
     let addr : Nat := Reg.SYS_POUR.addr
     let l : Loc := ((locate addr).getD ⟨0, 0, 0, 0, 0, []⟩)
     let s : State := State.reset
     (i.registerOf = some (r, addr)) ∧ (
     (locate addr = some l) ∧ (
     (s.chip.coreUp = false)))) ∧
    (
     let i : Instr := .localPour .mgmt 1
     let r : Requester := .mgmt
     let addr : Nat := Reg.SYS_POUR.addr
     let l : Loc := ((locate addr).getD ⟨0, 0, 0, 0, 0, []⟩)
     let s : State := st (chip [(Reg.FLASK_FSTAT_STATE 52, 1)])
     (i.registerOf = some (r, addr)) ∧ (
     (locate addr = some l) ∧ (
     (s.chip.coreUp = true) ∧ (
     (r = .mgmt) ∧ (
     (s.chip.active 52 = false) ∧ (
     (l.blk ≠ 8))))))) ∧
    (
     let i : Instr := .drvEnable .gate 0
     let r : Requester := .gate
     let addr : Nat := (Reg.DRV_CTL_ENABLE 0).addr
     let l : Loc := ((locate addr).getD ⟨0, 0, 0, 0, 0, []⟩)
     let s : State := st (testing 3 7 chip)
     (i.registerOf = some (r, addr)) ∧ (
     (locate addr = some l) ∧ (
     (s.chip.coreUp = true) ∧ (
     (r ≠ .mgmt ∨ s.chip.active 52 = true ∨ l.blk = 8) ∧ (
     (s.chip.occupied l = true)))))) := by
  refine ⟨?_, ?_, ?_⟩ <;> dsimp only <;> decide +kernel

/-- Witnesses of the hypotheses of Obligations.InstructionsNeedRunAndGoodCode. -/
theorem meets_InstructionsNeedRunAndGoodCode :
    (
     let i : Instr := .isaAdd 31 1 2 3
     let e : Fin 32 := 31
     let s : State := st chip
     (i.engineOf = some e) ∧ (
     (s.chip.coreUp = false ∨ s.chip.engState e.val ≠ 1))) ∧
    (
     let i : Instr := .isaAdd 31 1 2 3
     let e : Fin 32 := 31
     let s : State := st { chip [(Reg.ENG_STAT_STATE 31, 1)] with ecc := [(0x13E000, 2)] }
     (i.engineOf = some e) ∧ (
     let addr := 0x100000 + e.val * 0x2000 + 4 * (s.chip.pc e % 2048)
     let code := s.chip.ecc.get 0 addr
     (s.chip.coreUp = true) ∧ (
     (s.chip.engState e.val = 1) ∧ (
     (2 ≤ code))))) ∧
    (
     let i : Instr := .isaAdd 31 1 2 3
     let e : Fin 32 := 31
     let s : State := st (chip [(Reg.ENG_STAT_STATE 31, 1)])
     (i.engineOf = some e) ∧ (
     let addr := 0x100000 + e.val * 0x2000 + 4 * (s.chip.pc e % 2048)
     let code := s.chip.ecc.get 0 addr
     (s.chip.coreUp = true) ∧ (
     (s.chip.engState e.val = 1) ∧ (
     (code = 0))))) ∧
    (
     let i : Instr := .isaAdd 31 1 2 3
     let e : Fin 32 := 31
     let s : State := st { chip [(Reg.ENG_STAT_STATE 31, 1)] with ecc := [(0x13E000, 1)] }
     (i.engineOf = some e) ∧ (
     let addr := 0x100000 + e.val * 0x2000 + 4 * (s.chip.pc e % 2048)
     let code := s.chip.ecc.get 0 addr
     (s.chip.coreUp = true) ∧ (
     (s.chip.engState e.val = 1) ∧ (
     (code = 1))))) := by
  refine ⟨?_, ?_, ?_, ?_⟩ <;> dsimp only <;> decide +kernel

/-- Witnesses of the hypotheses of Obligations.RegisterZeroReadsZeroAndDiscardsWrites. -/
theorem meets_RegisterZeroReadsZeroAndDiscardsWrites :
    (
     let k : Fin 16 := 5
     (k ≠ 0)) ∧
    (
     let k : Fin 16 := 5
     let j : Fin 16 := 1
     (j ≠ k)) ∧
    (
     let s : State := st ({ chip [(Reg.ENG_PC 0, 8), (Reg.ENG_STAT_STATE 0, 1)] with pwr := { coreRst := false, fieldRst := false }, ecc := [(0, 7)] })
     let e : Fin 32 := 0
     (s.chip.executes e = true) ∧ (
     let a : Fin 16 := 15
     ((s.chip.fetched e).g e a < 2048))) := by
  refine ⟨?_, ?_, ?_⟩ <;> dsimp only <;> decide +kernel

/-- Witnesses of the hypotheses of Obligations.InstructionEndAdvancesPcAndLoops. -/
theorem meets_InstructionEndAdvancesPcAndLoops :
    (
     let t : Chip := chip
     let e : Fin 32 := 0
     ((t.eng e.val).haltReq = false) ∧ (
     let u := t.eng e.val
     (u.loops = []))) ∧
    (
     let t : Chip := { chip [(Reg.ENG_PC 0, 2)] with engs := [(0, { loops := [(0, (16, 0))] })] }
     let e : Fin 32 := 0
     ((t.eng e.val).haltReq = false) ∧ (
     let u := t.eng e.val
     let st := 0
     let en := 16
     let n := 0
     let rest := []
     (u.loops = (st, en, n) :: rest) ∧ (
     (t.pc e ≠ en)))) ∧
    (
     let t : Chip := { chip [(Reg.ENG_PC 1, 7)] with engs := [(0, { loops := [(9, (0, 7))] })] }
     let e : Fin 32 := 0
     ((t.eng e.val).haltReq = false) ∧ (
     let u := t.eng e.val
     let st := 9
     let en := 0
     let n := 7
     let rest := []
     (u.loops = (st, en, n) :: rest) ∧ (
     (t.pc e = en) ∧ (
     (1 < n))))) ∧
    (
     let t : Chip := { chip [(Reg.ENG_PC 1, 7)] with engs := [(0, { loops := [(9, (0, 0))] })] }
     let e : Fin 32 := 0
     ((t.eng e.val).haltReq = false) ∧ (
     let u := t.eng e.val
     let st := 9
     let en := 0
     let n := 0
     let rest := []
     (u.loops = (st, en, n) :: rest) ∧ (
     (t.pc e = en) ∧ (
     (n ≤ 1))))) := by
  refine ⟨?_, ?_, ?_, ?_⟩ <;> dsimp only <;> decide +kernel

/-- Witnesses of the hypotheses of Obligations.TrapRecordsCauseAndFaultsFlask. -/
theorem meets_TrapRecordsCauseAndFaultsFlask :
    (
     let t : Chip := chip
     let e : Fin 32 := 0
     let cause : Nat := 8
     let addr : Nat := 0
     (t.coreUp = true) ∧ (
     (t.flag (Reg.ENG_STAT_IDLE_HELD e.val) = false) ∧ (
     (1 ≤ cause) ∧ (
     (cause ≤ 8) ∧ (
     (addr < 2 ^ 32) ∧ (
     (cause = 8))))))) ∧
    (
     let t : Chip := chip
     let e : Fin 32 := 20
     let cause : Nat := 6
     let addr : Nat := 2
     (t.coreUp = true) ∧ (
     (t.flag (Reg.ENG_STAT_IDLE_HELD e.val) = false) ∧ (
     (1 ≤ cause) ∧ (
     (cause ≤ 8) ∧ (
     (addr < 2 ^ 32) ∧ (
     (cause ≠ 8))))))) := by
  refine ⟨?_, ?_⟩ <;> dsimp only <;> decide +kernel

/-- Witnesses of the hypotheses of Obligations.RequesterLearnsOutcome. -/
theorem meets_RequesterLearnsOutcome :
    (
     let a : Acc := .done
     (a ≠ .refused)) := by
  dsimp only <;> decide +kernel

/-- Witnesses of the hypotheses of Obligations.IsaAddSubtractCompareResults. -/
theorem meets_IsaAddSubtractCompareResults :
    (
     let s : State := st (chip [(Reg.ENG_STAT_STATE 0, 1)])
     let e : Fin 32 := 0
     (s.chip.executes e = true)) := by
  dsimp only <;> decide +kernel

/-- Witnesses of the hypotheses of Obligations.IsaLogicMoveMultiplyResults. -/
theorem meets_IsaLogicMoveMultiplyResults :
    (
     let s : State := st (chip [(Reg.ENG_STAT_STATE 0, 1)])
     let e : Fin 32 := 0
     (s.chip.executes e = true)) := by
  dsimp only <;> decide +kernel

/-- Witnesses of the hypotheses of Obligations.IsaShiftResults. -/
theorem meets_IsaShiftResults :
    (
     let s : State := st (chip [(Reg.ENG_STAT_STATE 0, 1)])
     let e : Fin 32 := 0
     (s.chip.executes e = true)) := by
  dsimp only <;> decide +kernel

/-- Witnesses of the hypotheses of Obligations.IsaSaturatingMinMaxClzResults. -/
theorem meets_IsaSaturatingMinMaxClzResults :
    (
     let s : State := st (eng2 0 0 chip)
     let e : Fin 32 := 0
     let a : Fin 16 := 1
     (s.chip.executes e = true) ∧ (
     let t := s.chip.fetched e
     let x := t.g e a
     let n : Nat := 32
     (n ≤ 32) ∧ (
     (x.toNat < 2 ^ (32 - n)) ∧ (
     ((n < 32 → 2 ^ (31 - n) ≤ x.toNat)))))) := by
  dsimp only <;> decide +kernel

/-- Witnesses of the hypotheses of Obligations.IsaDivideResults. -/
theorem meets_IsaDivideResults :
    (
     let s : State := st ({ chip [(Reg.ENG_STAT_STATE 0, 1)] with pwr := { coreRst := false, fieldRst := false }, ecc := [] })
     let e : Fin 32 := 0
     let b : Fin 16 := 0
     (s.chip.executes e = true) ∧ (
     let t := s.chip.fetched e
     let y := t.g e b
     (y = 0))) ∧
    (
     let s : State := st (eng2 0x80000000 0xFFFFFFFF chip)
     let e : Fin 32 := 0
     let a : Fin 16 := 1
     let b : Fin 16 := 2
     (s.chip.executes e = true) ∧ (
     let t := s.chip.fetched e
     let x := t.g e a
     let y := t.g e b
     (x = 0x80000000) ∧ (
     (y = 0xFFFFFFFF)))) ∧
    (
     let s : State := st (eng2 0x80000000 1 chip)
     let e : Fin 32 := 0
     let a : Fin 16 := 1
     let b : Fin 16 := 2
     (s.chip.executes e = true) ∧ (
     let t := s.chip.fetched e
     let x := t.g e a
     let y := t.g e b
     (y ≠ 0) ∧ (
     (¬ (x = 0x80000000 ∧ y = 0xFFFFFFFF))))) := by
  refine ⟨?_, ?_, ?_⟩ <;> dsimp only <;> decide +kernel

/-- Witnesses of the hypotheses of Obligations.IsaAccumulatorResults. -/
theorem meets_IsaAccumulatorResults :
    (
     let s : State := st (let c := eng2 0 0 chip; c.setEng 0 { acc := 0x7FFF8000 })
     let e : Fin 32 := 0
     (s.chip.executes e = true) ∧ (
     let t := s.chip.fetched e
     let acc := (t.eng e.val).acc
     let h := held32 acc.toInt
     (0x7FFF8000 ≤ h.toInt))) ∧
    (
     let s : State := st (chip [(Reg.ENG_PC 0, 2), (Reg.ENG_STAT_STATE 0, 1)])
     let e : Fin 32 := 0
     (s.chip.executes e = true) ∧ (
     let t := s.chip.fetched e
     let acc := (t.eng e.val).acc
     let h := held32 acc.toInt
     (h.toInt < 0x7FFF8000))) := by
  refine ⟨?_, ?_⟩ <;> dsimp only <;> decide +kernel

/-- Witnesses of the hypotheses of Obligations.IsaBitFieldCrcTimeCsrResults. -/
theorem meets_IsaBitFieldCrcTimeCsrResults :
    (
     let s : State := st ({ chip [(Reg.ENG_STAT_STATE 0, 1)] with pwr := { coreRst := false, fieldRst := false }, ecc := [] })
     let e : Fin 32 := 0
     let pos : Fin 32 := 18
     let wm1 : Fin 32 := 0
     (s.chip.executes e = true) ∧ (
     let width := wm1.val + 1
     (pos.val + width ≤ 32))) ∧
    (
     let s : State := st (chip [(Reg.ENG_STAT_STATE 0, 1), (Reg.ENG_PC 0, 8)])
     let e : Fin 32 := 0
     let n : BitVec 12 := 0
     (s.chip.executes e = true) ∧ (
     (n = 0))) ∧
    (
     let s : State := st (chip [(Reg.ENG_STAT_STATE 0, 1), (Reg.ENG_PC 0, 8)])
     let e : Fin 32 := 0
     let n : BitVec 12 := 1
     (s.chip.executes e = true) ∧ (
     (n = 1))) ∧
    (
     let s : State := st (chip [(Reg.ENG_STAT_STATE 0, 1), (Reg.ENG_PC 0, 4)])
     let e : Fin 32 := 0
     let n : BitVec 12 := 2
     (s.chip.executes e = true) ∧ (
     (n = 2))) ∧
    (
     let s : State := st (chip [(Reg.ENG_STAT_STATE 0, 1), (Reg.ENG_PC 0, 3)])
     let e : Fin 32 := 0
     let n : BitVec 12 := 3
     (s.chip.executes e = true) ∧ (
     (n = 3))) ∧
    (
     let s : State := st ({ chip [(Reg.ENG_STAT_STATE 0, 1), (Reg.ENG_PC 0, 8)] with pwr := { coreRst := false, fieldRst := false }, ecc := [(1, 7)] })
     let e : Fin 32 := 0
     let n : BitVec 12 := 4
     (s.chip.executes e = true) ∧ (
     (n = 4))) ∧
    (
     let s : State := st (chip [(Reg.ENG_STAT_STATE 0, 1)])
     let e : Fin 32 := 0
     let n : BitVec 12 := 5
     (s.chip.executes e = true) ∧ (
     (n = 5))) ∧
    (
     let s : State := st (chip [(Reg.ENG_STAT_STATE 0, 1), (Reg.ENG_PC 0, 4)])
     let e : Fin 32 := 0
     let n : BitVec 12 := 6
     (s.chip.executes e = true) ∧ (
     (n = 6))) ∧
    (
     let s : State := st (chip [(Reg.ENG_STAT_STATE 0, 1)])
     let e : Fin 32 := 0
     let n : BitVec 12 := 7
     (s.chip.executes e = true) ∧ (
     (n = 7))) ∧
    (
     let s : State := st (chip [(Reg.ENG_STAT_STATE 0, 1), (Reg.ENG_PC 0, 8)])
     let e : Fin 32 := 0
     let n : BitVec 12 := 0
     (s.chip.executes e = true) ∧ (
     (n.toNat ≤ 7) ∧ (
     (n ≠ 2) ∧ (
     (n ≠ 4))))) := by
  refine ⟨?_, ?_, ?_, ?_, ?_, ?_, ?_, ?_, ?_, ?_⟩ <;> dsimp only <;> decide +kernel

/-- Witnesses of the hypotheses of Obligations.IsaControlFlowResults. -/
theorem meets_IsaControlFlowResults :
    (
     let s : State := st (chip [(Reg.ENG_STAT_STATE 0, 1), (Reg.ENG_PC 0, 2)])
     let e : Fin 32 := 0
     let cond : BitVec 4 := 4
     (s.chip.executes e = true) ∧ (
     (cond ≠ 15))) ∧
    (
     let s : State := st ({ chip [(Reg.ENG_PC 0, 8), (Reg.ENG_STAT_STATE 0, 1)] with pwr := { coreRst := false, fieldRst := false }, ecc := [(0, 7)] })
     let e : Fin 32 := 0
     let a : Fin 16 := 15
     (s.chip.executes e = true) ∧ (
     let t := s.chip.fetched e
     let x := t.g e a
     (x.toNat < 2048))) ∧
    (
     let s : State := st (eng2 0 0 chip)
     let e : Fin 32 := 0
     let a : Fin 16 := 1
     let imm : BitVec 14 := 1
     (s.chip.executes e = true) ∧ (
     let t := s.chip.fetched e
     let x := t.g e a
     let u := t.eng e.val
     let target : Nat := (((t.pc e : Int) + imm.toInt) % 2048).toNat
     let fits : Prop := u.loops = [] ∨ ∃ st en n, u.loops = [(st, en, n)] ∧ (target + 2048 - st) % 2048 < (en + 2048 - st) % 2048
     (0 < imm.toInt) ∧ (
     (fits) ∧ (
     (x = 0))))) ∧
    (
     let s : State := st (eng2 1 0 chip)
     let e : Fin 32 := 0
     let a : Fin 16 := 1
     let imm : BitVec 14 := 1
     (s.chip.executes e = true) ∧ (
     let t := s.chip.fetched e
     let x := t.g e a
     let u := t.eng e.val
     let target : Nat := (((t.pc e : Int) + imm.toInt) % 2048).toNat
     let fits : Prop := u.loops = [] ∨ ∃ st en n, u.loops = [(st, en, n)] ∧ (target + 2048 - st) % 2048 < (en + 2048 - st) % 2048
     (0 < imm.toInt) ∧ (
     (fits) ∧ (
     (x ≠ 0))))) ∧
    (
     let s : State := st ({ chip [(Reg.ENG_STAT_STATE 0, 1)] with pwr := { coreRst := false, fieldRst := false }, ecc := [] })
     let e : Fin 32 := 0
     let d : Fin 16 := 0
     (s.chip.executes e = true) ∧ (
     let t := s.chip.fetched e
     (t.g e d - 1 ≠ 0))) ∧
    (
     let s : State := st (eng2 1 0 chip)
     let e : Fin 32 := 0
     let d : Fin 16 := 1
     (s.chip.executes e = true) ∧ (
     let t := s.chip.fetched e
     (t.g e d - 1 = 0))) ∧
    (
     let s : State := st ({ chip [(Reg.ENG_ACCESS 0, 1), (Reg.ENG_WDOG_LEFT 0, 1), (Reg.ENG_STAT_STATE 0, 1), (Reg.ENG_PC 0, 4)] with pwr := { coreRst := false, fieldRst := false }, engs := [(1, { n := false, c := true, loops := [(0, (0, 1))] })], ecc := [] })
     let e : Fin 32 := 0
     let word : BitVec 32 := 861229091
     (s.chip.executes e = true) ∧ (
     (wordLegal word.toNat = false))) := by
  refine ⟨?_, ?_, ⟨by decide +kernel, by decide, Or.inl (by decide +kernel), by decide +kernel⟩, ⟨by decide +kernel, by decide, Or.inl (by decide +kernel), by decide +kernel⟩, ?_, ?_, ?_⟩ <;> dsimp only <;> decide +kernel

/-- Witnesses of the hypotheses of Obligations.IsaLoadStoreResults. -/
theorem meets_IsaLoadStoreResults :
    (
     let s : State := st ({ chip [(Reg.ENG_PC 0, 0), (Reg.ENG_STAT_STATE 0, 1)] with pwr := { coreRst := false, fieldRst := false }, engs := [(0, { g := [(0, 31)] })] })
     let e : Fin 32 := 0
     let a : Fin 16 := 0
     let imm : BitVec 14 := 0
     (s.chip.executes e = true) ∧ (
     let t := s.chip.fetched e
     let addr := (t.g e a + imm.signExtend 32).toNat
     let own : Prop := 0x140000 + 0x8000 * (e.val / 8) ≤ addr ∧ addr < 0x148000 + 0x8000 * (e.val / 8)
     (addr < 0x100000 ∨ own) ∧ (
     (addr % 4 = 0)))) ∧
    (
     let s : State := st ({ chip [(Reg.ENG_PC 0, 0), (Reg.ENG_STAT_STATE 0, 1)] with pwr := { coreRst := false, fieldRst := false }, engs := [(0, { g := [(0, 31)] })] })
     let e : Fin 32 := 0
     let a : Fin 16 := 0
     let imm : BitVec 14 := 0
     (s.chip.executes e = true) ∧ (
     let t := s.chip.fetched e
     let addr := (t.g e a + imm.signExtend 32).toNat
     let own : Prop := 0x140000 + 0x8000 * (e.val / 8) ≤ addr ∧ addr < 0x148000 + 0x8000 * (e.val / 8)
     (addr < 0x100000 ∨ own) ∧ (
     (addr % 2 = 0)))) ∧
    (
     let s : State := st ({ chip [(Reg.ENG_PC 0, 0), (Reg.ENG_STAT_STATE 0, 1)] with pwr := { coreRst := false, fieldRst := false }, engs := [(0, { g := [(0, 31)] })] })
     let e : Fin 32 := 0
     let a : Fin 16 := 0
     let imm : BitVec 14 := 0
     (s.chip.executes e = true) ∧ (
     let t := s.chip.fetched e
     let addr := (t.g e a + imm.signExtend 32).toNat
     let own : Prop := 0x140000 + 0x8000 * (e.val / 8) ≤ addr ∧ addr < 0x148000 + 0x8000 * (e.val / 8)
     (addr < 0x100000 ∧ gateView addr = false ∨ own) ∧ (
     (addr % 4 = 0)))) ∧
    (
     let s : State := st ({ chip [(Reg.ENG_PC 0, 0), (Reg.ENG_STAT_STATE 0, 1)] with pwr := { coreRst := false, fieldRst := false }, engs := [(0, { g := [(0, 31)] })] })
     let e : Fin 32 := 0
     let a : Fin 16 := 0
     let imm : BitVec 14 := 0
     (s.chip.executes e = true) ∧ (
     let t := s.chip.fetched e
     let addr := (t.g e a + imm.signExtend 32).toNat
     let own : Prop := 0x140000 + 0x8000 * (e.val / 8) ≤ addr ∧ addr < 0x148000 + 0x8000 * (e.val / 8)
     (addr < 0x100000 ∧ gateView addr = false ∨ own) ∧ (
     (addr % 2 = 0)))) ∧
    (
     let s : State := st (eng2 0x1000010 0 chip)
     let e : Fin 32 := 0
     let a : Fin 16 := 1
     let imm : BitVec 14 := 0
     (s.chip.executes e = true) ∧ (
     let t := s.chip.fetched e
     let addr := (t.g e a + imm.signExtend 32).toNat
     (addr % 4 = 0) ∧ (
     (0x160000 ≤ addr) ∧ (
     let l := ((regAt addr).getD (⟨0, 0, 0, 0, 0, []⟩, true)).1
     let act := false
     (regAt addr = some (l, act)) ∧ (
     let got := t.readReg (.engine e) l act
     (got.1 ≠ .refused)))))) ∧
    (
     let s : State := st (eng2 0x1000010 0 chip)
     let e : Fin 32 := 0
     let d : Fin 16 := 2
     let a : Fin 16 := 1
     let imm : BitVec 14 := 0
     (s.chip.executes e = true) ∧ (
     let t := s.chip.fetched e
     let addr := (t.g e a + imm.signExtend 32).toNat
     (addr % 4 = 0) ∧ (
     (0x160000 ≤ addr) ∧ (
     let l := ((regAt addr).getD (⟨0, 0, 0, 0, 0, []⟩, true)).1
     let act := false
     (regAt addr = some (l, act)) ∧ (
     (act = false) ∧ (
     ((t.writeReg (.engine e) l (t.g e d).toNat).2.coreUp = true) ∧ (
     ((t.writeReg (.engine e) l (t.g e d).toNat).1 ≠ .refused)))))))) := by
  refine ⟨?_, ?_, ?_, ?_, ?_, ?_⟩ <;> dsimp only <;> decide +kernel

/-- Witnesses of the hypotheses of Obligations.IsaRunnerBufferResults. -/
theorem meets_IsaRunnerBufferResults :
    (
     let s : State := st (chip [(Reg.RUN_STAT_EN 0, 3), (Reg.ENG_PC 0, 4), (Reg.ENG_STAT_STATE 0, 1)] [(Reg.RUN_OWNER_PROD 0, 7), (Reg.RUN_OWNER_CONS 0, 1)])
     let e : Fin 32 := 0
     let a : Fin 16 := 0
     (s.chip.executes e = true) ∧ (
     let t := s.chip.fetched e
     let q := (t.g e a).toNat
     (q < 128) ∧ (
     (t.runRefuses q true (some e.val) = false)))) ∧
    (
     let s : State := st (chip [(Reg.RUN_STAT_EN 0, 5), (Reg.ENG_PC 0, 4), (Reg.ENG_STAT_STATE 0, 1)] [(Reg.RUN_OWNER_PROD_V 0, 128), (Reg.RUN_OWNER_PROD 0, 2), (Reg.RUN_OWNER_CONS 0, 1)])
     let e : Fin 32 := 0
     let a : Fin 16 := 0
     (s.chip.executes e = true) ∧ (
     let t := s.chip.fetched e
     let q := (t.g e a).toNat
     (q < 128) ∧ (
     (t.runRefuses q true (some e.val) = true)))) ∧
    (
     let s : State := st ({ chip [(Reg.RUN_CFG_BASE 0, 8), (Reg.RUN_CFG_SIZE 0, 4), (Reg.RUN_STAT_FILL 0, 8), (Reg.ENG_STAT_STATE 0, 1), (Reg.ENG_PC 1, 4), (Reg.RUN_STAT_EN 0, 5)] [(Reg.RUN_OWNER_PROD_V 1, 5), (Reg.RUN_OWNER_PROD 0, 5), (Reg.RUN_OWNER_CONS_V 1, 8), (Reg.RUN_OWNER_CONS 0, 3)] with pwr := { coreRst := false, fieldRst := false }, runs := [(0, { rd1 := 31, k1 := 1 :: 6 :: [] })] })
     let e : Fin 32 := 0
     let a : Fin 16 := 0
     (s.chip.executes e = true) ∧ (
     let t := s.chip.fetched e
     let q := (t.g e a).toNat
     (q < 128) ∧ (
     (t.runRefuses q false (some e.val) = false) ∧ (
     let k := 1
     let v := 0
     let c := (t.runTake q).2
     (t.runTake q = (some (k, v), c)))))) ∧
    (
     let s : State := st ({ chip [(Reg.RUN_CFG_BASE 0, 7), (Reg.RUN_CFG_SIZE 0, 1), (Reg.RUN_STAT_FILL 0, 3), (Reg.ENG_STAT_STATE 0, 1), (Reg.ENG_PC 1, 4), (Reg.RUN_STAT_EN 0, 7)] [(Reg.RUN_OWNER_PROD_V 0, 5), (Reg.RUN_OWNER_PROD 0, 1), (Reg.RUN_OWNER_CONS_V 0, 8), (Reg.RUN_OWNER_CONS 0, 0)] with pwr := { coreRst := false, fieldRst := false }, runs := [(0, { rd1 := 0 })] })
     let e : Fin 32 := 0
     let a : Fin 16 := 0
     (s.chip.executes e = true) ∧ (
     let t := s.chip.fetched e
     let q := (t.g e a).toNat
     (q < 128) ∧ (
     (t.runRefuses q false (some e.val) = false) ∧ (
     let c := (t.runTake q).2
     (t.runTake q = (none, c)))))) ∧
    (
     let s : State := st (chip [(Reg.RUN_STAT_EN 0, 5), (Reg.ENG_PC 0, 4), (Reg.ENG_STAT_STATE 0, 1)] [(Reg.RUN_OWNER_PROD_V 0, 0), (Reg.RUN_OWNER_PROD 0, 2), (Reg.RUN_OWNER_CONS_V 0, 128), (Reg.RUN_OWNER_CONS 0, 1)])
     let e : Fin 32 := 0
     let a : Fin 16 := 0
     (s.chip.executes e = true) ∧ (
     let t := s.chip.fetched e
     let q := (t.g e a).toNat
     (q < 128) ∧ (
     (t.runRefuses q false (some e.val) = true)))) ∧
    (
     let s : State := st ({ chip [(Reg.ENG_STAT_STATE 0, 1)] [(Reg.SYNC_POOL_CFG_GATE_RESV, 3), (Reg.CLK_CYCLE, 0)] with pwr := { coreRst := false, fieldRst := false }, sync := { fresh := 0, freed := 32 :: 5 :: [] }, ct := 4 })
     let e : Fin 32 := 0
     (s.chip.executes e = true) ∧ (
     let t := s.chip.fetched e
     let n := 0
     let c := (t.poolAlloc e.val).2
     (t.poolAlloc e.val = (some n, c)))) ∧
    (
     let s : State := st ({ chip [(Reg.ENG_PC 0, 4), (Reg.ENG_STAT_STATE 0, 1), (Reg.SYNC_BUF_OWN 1, 0)] [(Reg.SYNC_POOL_CFG_MAX_OWN, 1)] with pwr := { coreRst := false, fieldRst := false }, ct := 0, ecc := [(0, 3)] })
     let e : Fin 32 := 0
     (s.chip.executes e = true) ∧ (
     let t := s.chip.fetched e
     let c := (t.poolAlloc e.val).2
     (t.poolAlloc e.val = (none, c)))) ∧
    (
     let s : State := st ({ chip [(Reg.SYNC_BUF_OWN 0, 2048), (Reg.ENG_STAT_STATE 0, 1)] with pwr := { coreRst := false, fieldRst := false }, ecc := [(9, 32)] })
     let e : Fin 32 := 0
     let a : Fin 16 := 0
     let b : Fin 16 := 0
     (s.chip.executes e = true) ∧ (
     let t := s.chip.fetched e
     let q := (t.g e a).toNat
     let w := (t.g e b).toNat
     (q < 2048) ∧ (
     (t.bufOwner q = e.val) ∧ (
     (w % 64 ≤ 32) ∧ (
     (t.ownerFenced (w % 64) = false)))))) ∧
    (
     let s : State := st (chip [(Reg.ENG_PC 32, 7), (Reg.ENG_STAT_STATE 0, 1), (Reg.SYNC_BUF_OWN 0, 64), (Reg.FLASK_FSTAT_STATE 0, 7)])
     let e : Fin 32 := 0
     let a : Fin 16 := 5
     let b : Fin 16 := 0
     (s.chip.executes e = true) ∧ (
     let t := s.chip.fetched e
     let q := (t.g e a).toNat
     let w := (t.g e b).toNat
     (q < 2048) ∧ (
     (t.bufOwner q = e.val) ∧ (
     (w % 64 ≤ 32) ∧ (
     (t.ownerFenced (w % 64) = true)))))) := by
  refine ⟨?_, ?_, ?_, ?_, ?_, ?_, ?_, ?_, ?_⟩ <;> dsimp only <;> decide +kernel

/-- Witnesses of the hypotheses of Obligations.IsaLockMessageResults. -/
theorem meets_IsaLockMessageResults :
    (
     let s : State := st (chip [(Reg.ENG_STAT_STATE 0, 1)])
     let e : Fin 32 := 0
     let a : Fin 16 := 8
     (s.chip.executes e = true) ∧ (
     let t := s.chip.fetched e
     let l := (t.g e a).toNat
     let owner := t.lockOwner l
     (l < 256) ∧ (
     (owner = 63)))) ∧
    (
     let s : State := st (chip [(Reg.ENG_PC 0, 8), (Reg.SYNC_LOCK_STAT_OWNER 0, 2), (Reg.ENG_STAT_STATE 0, 1)])
     let e : Fin 32 := 0
     let a : Fin 16 := 7
     (s.chip.executes e = true) ∧ (
     let t := s.chip.fetched e
     let l := (t.g e a).toNat
     let owner := t.lockOwner l
     (l < 256) ∧ (
     (owner ≠ 63) ∧ (
     (owner ≠ e.val))))) ∧
    (
     let s : State := st (chip [(Reg.ENG_PC 0, 5), (Reg.SYNC_LOCK_STAT_OWNER 0, 256), (Reg.ENG_STAT_STATE 0, 1)])
     let e : Fin 32 := 0
     let a : Fin 16 := 0
     (s.chip.executes e = true) ∧ (
     let t := s.chip.fetched e
     let l := (t.g e a).toNat
     let owner := t.lockOwner l
     let p := t.lockPoison l
     (l < 256) ∧ (
     (owner = e.val) ∧ (
     (p = false))))) ∧
    (
     let s : State := st (eng2 0 0x00800000 (Chip.setMbx (chip [(Reg.SYNC_BUF_OWN 0, 0)] [(Reg.SYNC_MBX_CFG_KIND 0, 1)]) 0 { count := 128 }))
     let e : Fin 32 := 0
     let a : Fin 16 := 1
     let b : Fin 16 := 2
     (s.chip.executes e = true) ∧ (
     let t := s.chip.fetched e
     let l := (t.g e a).toNat
     let w := t.g e b
     let buf := (w.extractLsb' 0 11).toNat
     let len := (w.extractLsb' 16 8).toNat
     (l < 64) ∧ (
     (t.bufOwner buf = e.val) ∧ (
     (1 ≤ len) ∧ (
     (len ≤ 128) ∧ (
     (t.maySend l e.val = true) ∧ (
     (t.mbxDepth l ≤ (t.mbx l).count + (t.mbx l).resv)))))))) ∧
    (
     let s : State := st (eng2 0 0x00800000 (chip [(Reg.SYNC_BUF_OWN 0, 0)] [(Reg.SYNC_MBX_CFG_KIND 0, 1)]))
     let e : Fin 32 := 0
     let a : Fin 16 := 1
     let b : Fin 16 := 2
     (s.chip.executes e = true) ∧ (
     let t := s.chip.fetched e
     let l := (t.g e a).toNat
     let w := t.g e b
     let buf := (w.extractLsb' 0 11).toNat
     let len := (w.extractLsb' 16 8).toNat
     (l < 64) ∧ (
     (t.bufOwner buf = e.val) ∧ (
     (1 ≤ len) ∧ (
     (len ≤ 128) ∧ (
     (t.maySend l e.val = true) ∧ (
     ((t.mbx l).count + (t.mbx l).resv < t.mbxDepth l)))))))) ∧
    (
     let s : State := st (eng2 63 0x00010000 (chip [(Reg.SYNC_BUF_OWN 0, 0)]))
     let e : Fin 32 := 0
     let a : Fin 16 := 1
     let b : Fin 16 := 2
     (s.chip.executes e = true) ∧ (
     let t := s.chip.fetched e
     let l := (t.g e a).toNat
     let w := t.g e b
     let buf := (w.extractLsb' 0 11).toNat
     let len := (w.extractLsb' 16 8).toNat
     (l < 64) ∧ (
     (t.bufOwner buf = e.val) ∧ (
     (1 ≤ len) ∧ (
     (len ≤ 128) ∧ (
     (t.maySend l e.val = false))))))) ∧
    (
     let s : State := st (eng2 0 0 (Chip.setMbx (chip [(Reg.SYNC_BUF_OWN 0, 0)] [(Reg.SYNC_MBX_CFG_KIND 0, 1)]) 0 { count := 1 }))
     let e : Fin 32 := 0
     let a : Fin 16 := 1
     (s.chip.executes e = true) ∧ (
     let t := s.chip.fetched e
     let l := (t.g e a).toNat
     (l < 64) ∧ (
     (t.mayRecv l e.val = true) ∧ (
     let m := 0
     let n := 0
     (t.mbxPeek l = some (m, n)))))) ∧
    (
     let s : State := st ({ chip [(Reg.ENG_STAT_STATE 0, 1)] [(Reg.SYNC_MBX_CFG_RECV 0, 7), (Reg.SYNC_MBX_CFG_KIND 0, 2)] with pwr := { coreRst := false, fieldRst := false }, boot := { holdsMbx := false }, engs := [(0, { g := [(1, 0)] })], mem := [(1, 0)] })
     let e : Fin 32 := 0
     let a : Fin 16 := 0
     (s.chip.executes e = true) ∧ (
     let t := s.chip.fetched e
     let l := (t.g e a).toNat
     (l < 64) ∧ (
     (t.mayRecv l e.val = true) ∧ (
     (t.mbxPeek l = none))))) ∧
    (
     let s : State := st ({ chip [(Reg.ENG_PC 0, 2), (Reg.ENG_STAT_STATE 0, 1)] with pwr := { coreRst := false, fieldRst := false }, engs := [(0, { g := [] })], ecc := [(1, 2)] })
     let e : Fin 32 := 0
     let a : Fin 16 := 14
     (s.chip.executes e = true) ∧ (
     let t := s.chip.fetched e
     let l := (t.g e a).toNat
     (l < 64) ∧ (
     (t.mayRecv l e.val = false)))) := by
  refine ⟨?_, ?_, ?_, ?_, ?_, ?_, ?_, ?_, ?_⟩ <;> dsimp only <;> decide +kernel

/-- Witnesses of the hypotheses of Obligations.IsaPortTimeEventResults. -/
theorem meets_IsaPortTimeEventResults :
    (
     let s : State := st ({ claimed 0 (chip [(Reg.ENG_PC 0, 1)]) with pwr := { coreRst := false, fieldRst := false }, ecc := [(0, 63)] })
     let e : Fin 32 := 0
     let port : BitVec 16 := 16
     (s.chip.executes e = true) ∧ (
     let t := s.chip.fetched e
     (portReserved port.toNat = false) ∧ (
     (t.claim e.val port.toNat ≠ 0)))) ∧
    (
     let s : State := st ({ claimed 0 (chip [(Reg.ENG_PC 0, 8)] [(Reg.ENG_CLAIM_EN 0, 0)]) with pwr := { coreRst := false, fieldRst := false }, ecc := [(1, 0)] })
     let e : Fin 32 := 0
     let a : Fin 16 := 0
     (s.chip.executes e = true) ∧ (
     let t := s.chip.fetched e
     let ra := (t.g e a).toNat
     (portReserved ra = false) ∧ (
     (t.claim e.val ra ≠ 0)))) ∧
    (
     let s : State := st ({ claimed 0 (chip [(Reg.ENG_PC 1, 8), (Reg.ENG_STAT_STATE 1, 4), (Reg.FLASK_FSTAT_STATE 2, 0)] [(Reg.ENG_CLAIM_ENGINE 2, 2)]) with pwr := { coreRst := false, fieldRst := false }, ecc := [(0, 5)] })
     let e : Fin 32 := 0
     let port : BitVec 16 := 0
     (s.chip.executes e = true) ∧ (
     let t := s.chip.fetched e
     (portReserved port.toNat = false) ∧ (
     (t.claim e.val port.toNat = 2)))) ∧
    (
     let s : State := st ({ claimed 0 (chip [(Reg.ENG_PC 0, 8)] [(Reg.ENG_CLAIM_EN 0, 0)]) with pwr := { coreRst := false, fieldRst := false }, ecc := [(1, 0)] })
     let e : Fin 32 := 0
     let a : Fin 16 := 0
     (s.chip.executes e = true) ∧ (
     let t := s.chip.fetched e
     let ra := (t.g e a).toNat
     (portReserved ra = false) ∧ (
     (t.claim e.val ra = 2)))) ∧
    (
     let s : State := st ({ chip [(Reg.ENG_STAT_STATE 0, 1)] with pwr := { coreRst := false, fieldRst := false }, engs := [(0, { pend := 282039067 })], ecc := [(1, 4)] })
     let e : Fin 32 := 0
     (s.chip.executes e = true) ∧ (
     let t := s.chip.fetched e
     let u := t.eng e.val
     let i : Nat := 0
     (i < 128) ∧ (
     (u.pend.getLsbD i = true) ∧ (
     ((∀ j, j < i → u.pend.getLsbD j = false)))))) ∧
    (
     let s : State := st ({ chip [(Reg.ENG_PC 0, 2), (Reg.ENG_STAT_STATE 0, 1)] with pwr := { coreRst := false, fieldRst := false }, engs := [(9, { pend := 0 })] })
     let e : Fin 32 := 0
     (s.chip.executes e = true) ∧ (
     let t := s.chip.fetched e
     let u := t.eng e.val
     (u.pend = 0))) ∧
    (
     let s : State := st (eng2 127 0 chip)
     let e : Fin 32 := 0
     let a : Fin 16 := 1
     (s.chip.executes e = true) ∧ (
     let t := s.chip.fetched e
     let ra := (t.g e a).toNat
     (112 ≤ ra) ∧ (
     (ra ≤ 127)))) := by
  refine ⟨?_, ?_, ?_, ?_, ?_, ?_, ?_⟩ <;> dsimp only <;> decide +kernel

/-- Witnesses of the hypotheses of Obligations.IsaTrappingForms (part 1). -/
theorem meets_IsaTrappingForms_1 :
    (
     let s : State := st ({ chip [(Reg.ENG_STAT_STATE 0, 1)] with pwr := { coreRst := false, fieldRst := false }, ecc := [(1, 63)] })
     let e : Fin 32 := 0
     let pos : Fin 32 := 27
     let wm1 : Fin 32 := 6
     (s.chip.executes e = true) ∧ (
     (32 < pos.val + (wm1.val + 1)))) ∧
    (
     let s : State := st (chip [(Reg.ENG_STAT_STATE 0, 1), (Reg.ENG_PC 0, 8)])
     let e : Fin 32 := 0
     let n : BitVec 12 := 3059
     (s.chip.executes e = true) ∧ (
     (7 < n.toNat))) ∧
    (
     let s : State := st (chip [(Reg.ENG_STAT_STATE 0, 1), (Reg.ENG_PC 0, 8)])
     let e : Fin 32 := 0
     let imm : BitVec 14 := 0
     (s.chip.executes e = true) ∧ (
     (imm.toInt ≤ 0))) ∧
    (
     let s : State := st (let c := eng2 0 0 chip; c.setEng 0 { loops := [(0, 1, 1), (0, 2, 1)] })
     let e : Fin 32 := 0
     (s.chip.executes e = true) ∧ (
     let t := s.chip.fetched e
     let u := t.eng e.val
     (2 ≤ u.loops.length))) ∧
    (
     let s : State := st ({ chip [(Reg.ENG_PC 1, 7), (Reg.ENG_STAT_STATE 0, 1)] with pwr := { coreRst := false, fieldRst := false }, engs := [(0, { loops := [(2, (4, 4))] })] })
     let e : Fin 32 := 0
     let imm : BitVec 14 := 7048
     (s.chip.executes e = true) ∧ (
     let t := s.chip.fetched e
     let u := t.eng e.val
     let target : Nat := (((t.pc e : Int) + imm.toInt) % 2048).toNat
     let st := 2
     let en := 4
     let k := 4
     (u.loops = [(st, en, k)]) ∧ (
     ((en + 2048 - st) % 2048 ≤ (target + 2048 - st) % 2048)))) ∧
    (
     let s : State := st (eng2 2048 0 chip)
     let e : Fin 32 := 0
     let a : Fin 16 := 1
     (s.chip.executes e = true) ∧ (
     let t := s.chip.fetched e
     let x := (t.g e a).toNat
     (2048 ≤ x))) ∧
    (
     let s : State := st (eng2 128 0 chip)
     let e : Fin 32 := 0
     let a : Fin 16 := 1
     (s.chip.executes e = true) ∧ (
     let t := s.chip.fetched e
     let x := (t.g e a).toNat
     (128 ≤ x))) ∧
    (
     let s : State := st (eng2 256 0 chip)
     let e : Fin 32 := 0
     let a : Fin 16 := 1
     (s.chip.executes e = true) ∧ (
     let t := s.chip.fetched e
     let x := (t.g e a).toNat
     (256 ≤ x))) ∧
    (
     let s : State := st (eng2 64 0 chip)
     let e : Fin 32 := 0
     let a : Fin 16 := 1
     (s.chip.executes e = true) ∧ (
     let t := s.chip.fetched e
     let x := (t.g e a).toNat
     (64 ≤ x))) ∧
    (
     let s : State := st ({ chip [(Reg.ENG_PC 0, 2), (Reg.ENG_STAT_STATE 0, 1)] with pwr := { coreRst := false, fieldRst := false }, ecc := [] })
     let e : Fin 32 := 0
     let a : Fin 16 := 12
     (s.chip.executes e = true) ∧ (
     let t := s.chip.fetched e
     let x := (t.g e a).toNat
     (x < 112 ∨ 127 < x))) ∧
    (
     let s : State := st ({ chip [(Reg.ENG_PC 0, 0), (Reg.ENG_STAT_STATE 0, 1)] [(Reg.ENG_CLAIM_MODE 0, 3)] with pwr := { coreRst := false, fieldRst := false }, ecc := [(1, 2)] })
     let e : Fin 32 := 0
     let port : BitVec 16 := 0
     (s.chip.executes e = true) ∧ (
     let t := s.chip.fetched e
     (portReserved port.toNat = true ∨ t.claim e.val port.toNat = 0))) ∧
    (
     let s : State := st ({ chip [(Reg.ENG_PC 0, 0), (Reg.ENG_STAT_STATE 0, 1)] [(Reg.ENG_CLAIM_MODE 0, 3)] with pwr := { coreRst := false, fieldRst := false }, ecc := [(1, 2)] })
     let e : Fin 32 := 0
     let port : BitVec 16 := 0
     (s.chip.executes e = true) ∧ (
     let t := s.chip.fetched e
     (portReserved port.toNat = true ∨ t.claim e.val port.toNat ≠ 2))) ∧
    (
     let s : State := st ({ chip [(Reg.ENG_PC 0, 7), (Reg.FLASK_FSTAT_STATE 0, 1), (Reg.ENG_STAT_STATE 0, 1)] [(Reg.ENG_CLAIM_EN 0, 2), (Reg.ENG_CLAIM_ENGINE 0, 1), (Reg.ENG_CLAIM_FIRST 0, 7), (Reg.ENG_CLAIM_COUNT 0, 0), (Reg.ENG_CLAIM_MODE 0, 0)] with pwr := { coreRst := false, fieldRst := false }, engs := [(0, { g := [] })] })
     let e : Fin 32 := 0
     let a : Fin 16 := 0
     (s.chip.executes e = true) ∧ (
     let t := s.chip.fetched e
     let x := (t.g e a).toNat
     (portReserved x = true ∨ t.claim e.val x = 0))) ∧
    (
     let s : State := st ({ chip [(Reg.ENG_PC 0, 7), (Reg.FLASK_FSTAT_STATE 0, 1), (Reg.ENG_STAT_STATE 0, 1)] [(Reg.ENG_CLAIM_EN 0, 2), (Reg.ENG_CLAIM_ENGINE 0, 1), (Reg.ENG_CLAIM_FIRST 0, 7), (Reg.ENG_CLAIM_COUNT 0, 0), (Reg.ENG_CLAIM_MODE 0, 0)] with pwr := { coreRst := false, fieldRst := false }, engs := [(0, { g := [] })] })
     let e : Fin 32 := 0
     let a : Fin 16 := 0
     (s.chip.executes e = true) ∧ (
     let t := s.chip.fetched e
     let x := (t.g e a).toNat
     (portReserved x = true ∨ t.claim e.val x ≠ 2))) ∧
    (
     let s : State := st ({ chip [(Reg.ENG_PC 0, 4), (Reg.SYNC_LOCK_STAT_OWNER 0, 8), (Reg.ENG_STAT_STATE 0, 1)] with pwr := { coreRst := false, fieldRst := false }, ecc := [(0, 52)] })
     let e : Fin 32 := 0
     let a : Fin 16 := 0
     (s.chip.executes e = true) ∧ (
     let t := s.chip.fetched e
     let x := (t.g e a).toNat
     (x < 256) ∧ (
     (t.lockOwner x ≠ e.val)))) ∧
    (
     let s : State := st ({ chip [(Reg.SYNC_LOCK_STAT_OWNER 0, 256), (Reg.ENG_STAT_STATE 0, 1), (Reg.SYNC_LOCK_STAT_POISON 0, 7)] with pwr := { coreRst := false, fieldRst := false }, engs := [(9, { g := [] })] })
     let e : Fin 32 := 0
     let a : Fin 16 := 0
     (s.chip.executes e = true) ∧ (
     let t := s.chip.fetched e
     let x := (t.g e a).toNat
     (x < 256) ∧ (
     (t.lockOwner x = e.val) ∧ (
     (t.lockPoison x = true))))) := by
  refine ⟨?_, ?_, ?_, ?_, ?_, ?_, ?_, ?_, ?_, ?_, ?_, ?_, ?_, ?_, ?_, ?_⟩ <;> dsimp only <;> decide +kernel

/-- Witnesses of the hypotheses of Obligations.IsaTrappingForms (part 2). -/
theorem meets_IsaTrappingForms_2 :
    (
     let s : State := st ({ chip [(Reg.SYNC_BUF_OWN 0, 64), (Reg.ENG_PC 0, 5), (Reg.ENG_STAT_STATE 0, 1)] with pwr := { coreRst := false, fieldRst := false }, engs := [(1, { g := [(1, 0)] })], ecc := [] })
     let e : Fin 32 := 0
     let a : Fin 16 := 0
     let b : Fin 16 := 0
     (s.chip.executes e = true) ∧ (
     let t := s.chip.fetched e
     let x := (t.g e a).toNat
     let w := t.g e b
     (x < 64) ∧ (
     (t.bufOwner (w.extractLsb' 0 11).toNat ≠ e.val ∨ (w.extractLsb' 16 8).toNat = 0 ∨ 128 < (w.extractLsb' 16 8).toNat)))) ∧
    (
     let s : State := st ({ chip [(Reg.ENG_PC 0, 1), (Reg.ENG_STAT_STATE 0, 1)] with pwr := { coreRst := false, fieldRst := false }, engs := [(0, { g := [(0, 31)] })] })
     let e : Fin 32 := 0
     let a : Fin 16 := 0
     let imm : BitVec 14 := 8229
     (s.chip.executes e = true) ∧ (
     let t := s.chip.fetched e
     let addr := (t.g e a + imm.signExtend 32).toNat
     (addr % 4 ≠ 0))) ∧
    (
     let s : State := st ({ chip [(Reg.ENG_PC 0, 1), (Reg.ENG_STAT_STATE 0, 1)] with pwr := { coreRst := false, fieldRst := false }, engs := [(0, { g := [(0, 31)] })] })
     let e : Fin 32 := 0
     let a : Fin 16 := 0
     let imm : BitVec 14 := 8229
     (s.chip.executes e = true) ∧ (
     let t := s.chip.fetched e
     let addr := (t.g e a + imm.signExtend 32).toNat
     (addr % 2 ≠ 0))) ∧
    (
     let s : State := st (eng2 0x4000 0 chip)
     let e : Fin 32 := 0
     let a : Fin 16 := 1
     let imm : BitVec 14 := 0
     (s.chip.executes e = true) ∧ (
     let t := s.chip.fetched e
     let addr := (t.g e a + imm.signExtend 32).toNat
     (gateView addr = true))) := by
  refine ⟨?_, ?_, ?_, ?_⟩ <;> dsimp only <;> decide +kernel

/-- Witnesses of the hypotheses of Obligations.RegisterAccessResults. -/
theorem meets_RegisterAccessResults :
    (
     let r : Requester := .engine 0
     let addr : BitVec 32 := 0x1060014
     let l : Loc := ((locate addr.toNat).getD ⟨0, 0, 0, 0, 0, []⟩)
     let s : State := st chip
     let c := s.chip
     let a := addr.toNat
     (c.coreUp = true) ∧ (
     ((r = .mgmt → c.active 52 = true ∨ l.blk = 8)) ∧ (
     (locate a = some l) ∧ (
     (mgmtOnly l = true) ∧ (
     (r ≠ .mgmt)))))) ∧
    (
     let r : Requester := .mgmt
     let addr : BitVec 32 := 0x10b0010
     let l : Loc := ((locate addr.toNat).getD ⟨0, 0, 0, 0, 0, []⟩)
     let s : State := st (testing 1 5 chip)
     let c := s.chip
     let a := addr.toNat
     let mine := mgmtOnly l = true → r = .mgmt
     (c.coreUp = true) ∧ (
     ((r = .mgmt → c.active 52 = true ∨ l.blk = 8)) ∧ (
     (locate a = some l) ∧ (
     (mine) ∧ (
     (c.occupied l = true)))))) ∧
    (
     let r : Requester := .mgmt
     let addr : BitVec 32 := 0x10b0010
     let l : Loc := ((locate addr.toNat).getD ⟨0, 0, 0, 0, 0, []⟩)
     let s : State := st (chip [(Reg.SYS_ARMED, 2 ^ groupOfBlk 11)])
     let c := s.chip
     let a := addr.toNat
     let mine := mgmtOnly l = true → r = .mgmt
     (c.coreUp = true) ∧ (
     ((r = .mgmt → c.active 52 = true ∨ l.blk = 8)) ∧ (
     (locate a = some l) ∧ (
     (mine) ∧ (
     (c.occupied l = false) ∧ (
     (c.groupArmed l = true))))))) ∧
    (
     let r : Requester := .mgmt
     let addr : BitVec 32 := 0x10b0010
     let l : Loc := ((locate addr.toNat).getD ⟨0, 0, 0, 0, 0, []⟩)
     let s : State := st chip
     let c := s.chip
     let a := addr.toNat
     let ignored := l.fields.any (fun f => f.code == .rwE) && c.unitOn l
     let mine := mgmtOnly l = true → r = .mgmt
     (c.coreUp = true) ∧ (
     ((r = .mgmt → c.active 52 = true ∨ l.blk = 8)) ∧ (
     (locate a = some l) ∧ (
     (mine) ∧ (
     (c.occupied l = false) ∧ (
     (c.groupArmed l = false) ∧ (
     (ignored = false)))))))) ∧
    (
     let r : Requester := .gate
     let addr : BitVec 32 := 0x1020008
     let l : Loc := ((locate addr.toNat).getD ⟨0, 0, 0, 0, 0, []⟩)
     let s : State := st (chip [(Reg.LINK_STAT_EN 0, 1)])
     let c := s.chip
     let a := addr.toNat
     let ignored := l.fields.any (fun f => f.code == .rwE) && c.unitOn l
     let mine := mgmtOnly l = true → r = .mgmt
     (c.coreUp = true) ∧ (
     ((r = .mgmt → c.active 52 = true ∨ l.blk = 8)) ∧ (
     (locate a = some l) ∧ (
     (mine) ∧ (
     (c.occupied l = false) ∧ (
     (c.groupArmed l = false) ∧ (
     (ignored = true)))))))) ∧
    (
     let r : Requester := .gate
     let addr : BitVec 32 := 0x1020008
     let l : Loc := ((locate addr.toNat).getD ⟨0, 0, 0, 0, 0, []⟩)
     let s : State := st chip
     let c := s.chip
     let a := addr.toNat
     (c.coreUp = true) ∧ (
     ((r = .mgmt → c.active 52 = true ∨ l.blk = 8)) ∧ (
     (locate a = some l) ∧ (
     let f : Fld := Reg.LINK_PHY_EQ_PRESET 0
     (f.code = .rwE) ∧ (
     let d : Chip := chip [(Reg.LINK_STAT_EN 0, 1)]
     (d.unitOn l = true)))))) ∧
    (
     let r : Requester := .gate
     let addr : BitVec 32 := 0x1020008
     let l : Loc := ((locate addr.toNat).getD ⟨0, 0, 0, 0, 0, []⟩)
     let s : State := st chip
     let c := s.chip
     let a := addr.toNat
     (c.coreUp = true) ∧ (
     ((r = .mgmt → c.active 52 = true ∨ l.blk = 8)) ∧ (
     (locate a = some l) ∧ (
     let f : Fld := Reg.LINK_PHY_EQ_PRESET 0
     (f.code = .rwE) ∧ (
     let d : Chip := chip [(Reg.LINK_STAT_EN 0, 0)]
     (d.unitOn l = false) ∧ (
     (fieldDieKey f.key = false))))))) ∧
    (
     let r : Requester := .gate
     let addr : BitVec 32 := 0x1020008
     let l : Loc := ((locate addr.toNat).getD ⟨0, 0, 0, 0, 0, []⟩)
     let s : State := st chip
     let c := s.chip
     let a := addr.toNat
     (c.coreUp = true) ∧ (
     ((r = .mgmt → c.active 52 = true ∨ l.blk = 8)) ∧ (
     (locate a = some l) ∧ (
     let f : Fld := Reg.SYNC_MBX_CFG_KIND 0
     (f.code = .rwP) ∧ (
     (fieldDieKey f.key = false)))))) ∧
    (
     let r : Requester := .gate
     let addr : BitVec 32 := 0x1020008
     let l : Loc := ((locate addr.toNat).getD ⟨0, 0, 0, 0, 0, []⟩)
     let s : State := st chip
     let c := s.chip
     let a := addr.toNat
     (c.coreUp = true) ∧ (
     ((r = .mgmt → c.active 52 = true ∨ l.blk = 8)) ∧ (
     (locate a = some l) ∧ (
     let f : Fld := Reg.HUB_REQ_STALL_CNT
     (f.code = .cnt))))) ∧
    (
     let r : Requester := .gate
     let addr : BitVec 32 := 0x1020008
     let l : Loc := ((locate addr.toNat).getD ⟨0, 0, 0, 0, 0, []⟩)
     let s : State := st chip
     let c := s.chip
     let a := addr.toNat
     (c.coreUp = true) ∧ (
     ((r = .mgmt → c.active 52 = true ∨ l.blk = 8)) ∧ (
     (locate a = some l) ∧ (
     let f : Fld := Reg.SYS_RESET_CORE
     (f.code ≠ .rwE) ∧ (
     (f.code ≠ .rwP) ∧ (
     (f.code ≠ .cnt))))))) ∧
    (
     let r : Requester := .gate
     let addr : BitVec 32 := 0x1010008
     let l : Loc := ((locate addr.toNat).getD ⟨0, 0, 0, 0, 0, []⟩)
     let s : State := st chip
     let c := s.chip
     let a := addr.toNat
     (c.coreUp = true) ∧ (
     ((r = .mgmt → c.active 52 = true ∨ l.blk = 8)) ∧ (
     (locate a = some l) ∧ (
     (loReg l = true) ∧ (
     let h : Loc := ((locate (addr.toNat + 4)).getD ⟨0, 0, 0, 0, 0, []⟩)
     (locate (a + 4) = some h)))))) := by
  refine ⟨?_, ?_, ?_, ?_, ?_, ?_, ?_, ?_, ?_, ?_, ?_⟩ <;> dsimp only <;> decide +kernel

/-- Witnesses of the hypotheses of Obligations.PourCommandResults. -/
theorem meets_PourCommandResults :
    (
     let r : Requester := .gate
     let mask : BitVec 16 := 32
     let s : State := st (chip [(Reg.SYS_ARMED, 3), (Reg.SYS_REFILL, 1)])
     let c := s.chip
     let m := clrBit mask.toNat 15
     (c.takes r Reg.SYS_POUR.addr = true) ∧ (
     (m &&& c.get Reg.SYS_ARMED = 0 ∧ m &&& c.get Reg.SYS_REFILL = 0 ∧ c.pourBad m = false))) ∧
    (
     let r : Requester := .engine 0
     let mask : BitVec 16 := 29061
     let s : State := st (chip [(Reg.SYS_ARMED, 0), (Reg.SYS_REFILL, 15)])
     let c := s.chip
     let m := clrBit mask.toNat 15
     (c.takes r Reg.SYS_POUR.addr = true) ∧ (
     (m &&& c.get Reg.SYS_ARMED ≠ 0 ∨ m &&& c.get Reg.SYS_REFILL ≠ 0 ∨ c.pourBad m = true))) ∧
    (
     let r : Requester := .gate
     let mask : BitVec 16 := 2
     let s : State := st (chip)
     let c := s.chip
     (c.takes r Reg.SYS_WITHDRAW.addr = true) ∧ (
     (mask.toNat &&& c.get Reg.SYS_ARMED = 0 ∧ mask.toNat &&& c.get Reg.SYS_REFILL = 0))) ∧
    (
     let r : Requester := .engine 0
     let mask : BitVec 16 := 29061
     let s : State := st (chip [(Reg.SYS_ARMED, 3)])
     let c := s.chip
     (c.takes r Reg.SYS_WITHDRAW.addr = true) ∧ (
     (mask.toNat &&& c.get Reg.SYS_ARMED ≠ 0 ∨ mask.toNat &&& c.get Reg.SYS_REFILL ≠ 0))) ∧
    (
     let r : Requester := .mgmt
     let v : BitVec 32 := 1498405254
     let s : State := st (chip [(Reg.CHAIN_STAT_ROLE, 3), (Reg.FLASK_FSTAT_STATE 0, 3)])
     let c := s.chip
     let lead := bits v.toNat 19 16
     let st := c.get Reg.SYS_CH_STAT_STATE
     (c.takes r Reg.SYS_CH_GO_MASK.addr = true) ∧ (
     (c.isHead = true ∧ st ≠ 1 ∧ st ≠ 2 ∧ 2 ≤ lead))) ∧
    (
     let r : Requester := .engine 0
     let v : BitVec 32 := 1794732421
     let s : State := st (chip [(Reg.SYS_CH_STAT_STATE, 3)])
     let c := s.chip
     let lead := bits v.toNat 19 16
     let st := c.get Reg.SYS_CH_STAT_STATE
     (c.takes r Reg.SYS_CH_GO_MASK.addr = true) ∧ (
     (c.isHead = false ∨ st = 1 ∨ st = 2 ∨ lead < 2))) ∧
    (
     let s : State := st ({ chip with arm := { on := true, accepted := true }, pwr := { coreRst := false, fieldRst := false } })
     let c := s.chip
     let n := c.get Reg.CLK_CYC_NUM
     let target := c.get Reg.SYS_ARM_CYC
     (c.coreUp = true) ∧ (
     (c.arm.on = true) ∧ (
     (c.arm.accepted = true) ∧ (
     (n = target))))) ∧
    (
     let s : State := st (chip)
     let c := s.chip
     let n := c.get Reg.CLK_CYC_NUM
     let target := c.get Reg.SYS_ARM_CYC
     (c.coreUp = false ∨ c.arm.on = false ∨ c.arm.accepted = false ∨ n ≠ target)) ∧
    (
     let s : State := st ({ chip with arm := { on := true }, pwr := { coreRst := false, fieldRst := false } })
     let c := s.chip
     let n := c.get Reg.CLK_CYC_NUM
     let target := c.get Reg.SYS_ARM_CYC
     (c.coreUp = true) ∧ (
     (c.arm.on = true) ∧ (
     (later target n = false) ∧ (
     (c.arm.accepted = false ∨ n ≠ target))))) ∧
    (
     let s : State := st ({ chip with arm := { on := true, accepted := true }, pwr := { coreRst := false, fieldRst := false } })
     let c := s.chip
     let n := c.get Reg.CLK_CYC_NUM
     let target := c.get Reg.SYS_ARM_CYC
     (c.coreUp = false ∨ c.arm.on = false ∨ later target n = true ∨ c.arm.accepted = true ∧ n = target)) := by
  refine ⟨?_, ?_, ?_, ?_, ?_, ?_, ?_, ?_, ?_, ?_⟩ <;> dsimp only <;> decide +kernel

/-- Witnesses of the hypotheses of Obligations.PourCopiesShadowsOfItsGroups. -/
theorem meets_PourCopiesShadowsOfItsGroups :
    (
     let s : Chip := chip
     let mask : Nat := 0
     (s.work.wf = true) ∧ (
     (s.shadow.wf = true) ∧ (
     (mask &&& 0x1FE5 = 0)))) ∧
    (
     let s : Chip := chip
     let mask : Nat := 0
     (s.work.wf = true) ∧ (
     (s.shadow.wf = true) ∧ (
     (mask &&& 0x1F04 = 0)))) := by
  refine ⟨?_, ?_⟩ <;> dsimp only <;> decide +kernel

/-- Witnesses of the hypotheses of Obligations.SeamLinkResults (part 1). -/
theorem meets_SeamLinkResults_1 :
    (
     let items : List SeamItem := .withdraw 1 :: []
     let rest : List (List SeamItem) := [] :: []
     let s : State := st ({ chip [(Reg.SEAM_STATUS_RETRAIN_BUSY, 8)] with seam := { sent := [[.withdraw 1], []] }, pwr := { coreRst := false, fieldRst := false } })
     let c := s.chip
     let busy := c.flag Reg.SEAM_STATUS_RETRAIN_BUSY
     (c.coreUp = true) ∧ (
     (c.fieldUp = true) ∧ (
     (busy = false) ∧ (
     (c.seam.sent = items :: rest))))) ∧
    (
     let s : State := st (chip)
     let c := s.chip
     let busy := c.flag Reg.SEAM_STATUS_RETRAIN_BUSY
     (c.coreUp = true) ∧ (
     (c.fieldUp = true) ∧ (
     (busy = false) ∧ (
     (c.seam.lossReport = false) ∧ (
     (c.copySet = none)))))) ∧
    (
     let s : State := st ({ chip [(Reg.SEAM_STATUS_RETRAIN_BUSY, 2)] with pwr := { coreRst := false, fieldRst := false }, copySet := some ([(0, 0)]) })
     let c := s.chip
     let busy := c.flag Reg.SEAM_STATUS_RETRAIN_BUSY
     (c.coreUp = true) ∧ (
     (c.fieldUp = true) ∧ (
     (busy = false) ∧ (
     (c.seam.lossReport = false) ∧ (
     let x : SMap Nat := [(0, 0)]
     (c.copySet = some x)))))) ∧
    (
     let s : State := st (chip [(Reg.SEAM_STATUS_RETRAIN_BUSY, 3)])
     let c := s.chip
     let busy := c.flag Reg.SEAM_STATUS_RETRAIN_BUSY
     (busy = true)) ∧
    (
     let s : State := st ({ chip with seam := { queue := .withdraw 1 :: .unit 13 0 0 0 :: [] }, pwr := { coreRst := false, fieldRst := false } })
     let c := s.chip
     let busy := c.flag Reg.SEAM_STATUS_RETRAIN_BUSY
     (c.coreUp = true) ∧ (
     (busy = false))) ∧
    (
     let s : State := st (chip [(Reg.SEAM_STATUS_RETRAIN_BUSY, 3)])
     let c := s.chip
     let busy := c.flag Reg.SEAM_STATUS_RETRAIN_BUSY
     (c.coreUp = false ∨ busy = true)) ∧
    (
     let s : State := st ({ chip with seam := { everRx := true, lost := false }, pwr := { fieldRst := false, coreRst := false } })
     let c := s.chip
     (c.fieldUp = true) ∧ (
     (c.seam.everRx = true) ∧ (
     (c.seam.lost = false)))) ∧
    (
     let s : State := st ({ chip with seam := { lost := true } })
     let c := s.chip
     (c.seam.lost = true)) ∧
    (
     let s : State := st ({ chip [(Reg.SEAM_STATUS_UP, 1)] with pwr := { coreRst := false, fieldRst := false }, warden := { afresh := true } })
     let c := s.chip
     (c.coreUp = true) ∧ (
     (c.seam.lossReport = false ∨ c.seam.coreRx = false) ∧ (
     (c.seam.lossKnown = false)))) ∧
    (
     let s : State := st (let c := chip; { c with seam := { c.seam with lossKnown := true } })
     let c := s.chip
     (c.coreUp = true) ∧ (
     (c.seam.lossReport = false ∨ c.seam.coreRx = false) ∧ (
     (c.seam.lossKnown = true)))) ∧
    (
     let s : State := st ({ chip with seam := { coreRx := true, lossReport := true, lossKnown := false }, pwr := { coreRst := false, fieldRst := false } })
     let c := s.chip
     (c.coreUp = true) ∧ (
     (c.seam.lossReport = true) ∧ (
     (c.seam.coreRx = true) ∧ (
     (c.seam.lossKnown = false))))) ∧
    (
     let s : State := st State.reset.chip
     let c := s.chip
     (c.coreUp = false)) ∧
    (
     let s : State := st ({ chip [(Reg.SEAM_STATUS_UP, 1)] with pwr := { coreRst := false, fieldRst := false }, warden := { afresh := true } })
     let c := s.chip
     (c.coreUp = true) ∧ (
     (c.seamUp = true) ∧ (
     (c.seam.marks = 0) ∧ (
     (c.warden.afresh = true) ∧ (
     (c.seam.lossKnown = false) ∧ (
     (c.seam.lossReport = false))))))) ∧
    (
     let s : State := st (chip)
     let c := s.chip
     (c.seamUp = false ∨ c.seam.lossKnown = false ∧ c.warden.afresh = false)) ∧
    (
     let r : Requester := .engine 0
     let s : State := st (chip)
     let c := s.chip
     let busy := c.flag Reg.SEAM_STATUS_RETRAIN_BUSY
     (c.takes r Reg.SEAM_RETRAIN.addr = true) ∧ (
     (busy = false))) ∧
    (
     let r : Requester := .mgmt
     let s : State := st (chip [(Reg.SEAM_STATUS_RETRAIN_BUSY, 7)])
     let c := s.chip
     let busy := c.flag Reg.SEAM_STATUS_RETRAIN_BUSY
     (c.takes r Reg.SEAM_RETRAIN.addr = true) ∧ (
     (busy = true))) := by
  refine ⟨?_, ?_, ?_, ?_, ?_, ?_, ?_, ?_, ?_, ?_, ?_, ?_, ?_, ?_, ?_, ?_⟩ <;> dsimp only <;> decide +kernel

/-- Witnesses of the hypotheses of Obligations.SeamLinkResults (part 2). -/
theorem meets_SeamLinkResults_2 :
    (
     let s : State := st (chip [(Reg.SEAM_STATUS_RETRAIN_BUSY, 3)])
     let c := s.chip
     let busy := c.flag Reg.SEAM_STATUS_RETRAIN_BUSY
     (c.coreUp = true) ∧ (
     (c.fieldUp = true) ∧ (
     (busy = true) ∧ (
     (c.seam.lossReport = false))))) ∧
    (
     let s : State := st (chip)
     let c := s.chip
     let busy := c.flag Reg.SEAM_STATUS_RETRAIN_BUSY
     (busy = false)) ∧
    (
     let s : State := st ({ chip with pwr := { coreRst := false, pllOnce := true, fieldRst := false } })
     let c := s.chip
     (c.coreUp = true) ∧ (
     (c.pwr.pllOnce = true))) ∧
    (
     let s : State := st (chip)
     let c := s.chip
     (c.pwr.pllOnce = false)) ∧
    (
     let s : State := st (chip [(Reg.CLK_STATUS_CORE_LOCK, 3)])
     let c := s.chip
     (c.coreUp = true) ∧ (
     (c.flag Reg.CLK_STATUS_CORE_LOCK = true))) ∧
    (
     let s : State := st (chip)
     let c := s.chip
     (c.coreUp = true) ∧ (
     (c.flag Reg.CLK_STATUS_CORE_LOCK = false))) := by
  refine ⟨?_, ?_, ?_, ?_, ?_, ?_⟩ <;> dsimp only <;> decide +kernel

/-- Witnesses of the hypotheses of Obligations.ClockCommandResults. -/
theorem meets_ClockCommandResults :
    (
     let s : State := st (let c := regs [(Reg.CHAIN_STAT_ROLE, 1), (Reg.CLK_CYC_NUM, 4)] chip; { c with pwr := { c.pwr with listenDone := true }, clk := { c.clk with sentCyc := true }, chain := { c.chain with sleep := some (0, 5), sleepSent := true, sleepChk := some 4 } })
     let c := s.chip
     let cleared := c.retClose
     let start := cleared.get Reg.CLK_CT_INIT_LO + 2 ^ 32 * cleared.get Reg.CLK_CT_INIT_HI
     let first := ({ cleared with
     ct := BitVec.ofNat 64 start, ctFrac := 0
     clk := { cleared.clk with markNs := start, headNs := start, sentCyc := true } }.put Reg.CLK_CYC_NUM 0)
     let begun := ((((first.put Reg.CLK_STATUS_EN 1).put Reg.CLK_STATUS_SYNC 2).putAddr 0 0).countMembers.put Reg.GATE_STAT_ORIGIN 1).presentChange
     (c.sends = true) ∧ (
     let own := if cleared.chain.taking = true then cleared.takeoverPort.nextMark.takeoverEnd
     else if cleared.get Reg.CHAIN_STAT_ROLE = 1 ∧ cleared.clk.sentCyc = false then begun else cleared.nextMark
     let n := own.get Reg.CLK_CYC_NUM
     let d := own.sleepDecide n
     (d.1 = true))) ∧
    (
     let s : State := st (chip [(Reg.CHAIN_STAT_ROLE, 3), (Reg.CLK_STATUS_EN, 4), (Reg.CLK_STATUS_SYNC, 8), (Reg.GATE_STAT_ORIGIN, 2)])
     let c := s.chip
     let cleared := c.retClose
     let start := cleared.get Reg.CLK_CT_INIT_LO + 2 ^ 32 * cleared.get Reg.CLK_CT_INIT_HI
     let first := ({ cleared with
     ct := BitVec.ofNat 64 start, ctFrac := 0
     clk := { cleared.clk with markNs := start, headNs := start, sentCyc := true } }.put Reg.CLK_CYC_NUM 0)
     let begun := ((((first.put Reg.CLK_STATUS_EN 1).put Reg.CLK_STATUS_SYNC 2).putAddr 0 0).countMembers.put Reg.GATE_STAT_ORIGIN 1).presentChange
     (c.sends = true) ∧ (
     let own := if cleared.chain.taking = true then cleared.takeoverPort.nextMark.takeoverEnd
     else if cleared.get Reg.CHAIN_STAT_ROLE = 1 ∧ cleared.clk.sentCyc = false then begun else cleared.nextMark
     let n := own.get Reg.CLK_CYC_NUM
     let d := own.sleepDecide n
     (d.1 = false))) ∧
    (
     let s : State := st (chip)
     let c := s.chip
     (c.sends = false)) ∧
    (
     let s : State := st (chip [(Reg.CLK_STATUS_SYNC, 2)])
     let c := s.chip
     let sync := c.get Reg.CLK_STATUS_SYNC
     let late := c.timeTo (c.predicted + 2000)
     (c.coreUp = true) ∧ (
     (c.isHead = false) ∧ (
     (sync = 2) ∧ (
     (late.get Reg.CLK_STATUS_SYNC = 2))))) ∧
    (
     let s : State := st (chip [(Reg.CLK_STATUS_SYNC, 1)])
     let c := s.chip
     let sync := c.get Reg.CLK_STATUS_SYNC
     let late := c.timeTo (c.predicted + 2000)
     (c.coreUp = true) ∧ (
     (c.isHead = false) ∧ (
     (sync = 1) ∧ (
     (late.get Reg.CLK_STATUS_SYNC = 1))))) ∧
    (
     let s : State := st (chip)
     let c := s.chip
     let sync := c.get Reg.CLK_STATUS_SYNC
     (c.coreUp = true) ∧ (
     (c.isHead = false) ∧ (
     (sync ≠ 1) ∧ (
     (sync ≠ 2))))) ∧
    (
     let s : State := st (chip [(Reg.CLK_STATUS_SYNC, 3)])
     let c := s.chip
     let sync := c.get Reg.CLK_STATUS_SYNC
     let late := c.timeTo (c.predicted + 2000)
     (c.coreUp = true) ∧ (
     (c.isHead = false) ∧ (
     (sync = 3) ∧ (
     (c.chain.taking = false) ∧ (
     (late.coreUp = true) ∧ (
     (late.isHead = false) ∧ (
     (late.get Reg.CLK_STATUS_SYNC = 3) ∧ (
     (late.chain.taking = false))))))))) ∧
    (
     let s : State := st (chip)
     let c := s.chip
     let sync := c.get Reg.CLK_STATUS_SYNC
     (c.coreUp = true) ∧ (
     (c.isHead = false) ∧ (
     (sync ≠ 3 ∨ c.chain.taking = true)))) ∧
    (
     let s : State := st (chip [(Reg.CLK_STATUS_USB_LOCK, 3)])
     let c := s.chip
     (c.coreUp = true) ∧ (
     (c.flag Reg.CLK_STATUS_USB_LOCK = true))) ∧
    (
     let s : State := st (chip)
     let c := s.chip
     (c.flag Reg.CLK_STATUS_USB_LOCK = false)) ∧
    (
     let s : State := st (let c := chip; { c with clk := { c.clk with fMarked := true, fSteered := true } })
     let c := s.chip
     (c.fieldUp = true) ∧ (
     (c.clk.fMarked = true) ∧ (
     (c.clk.fSteered = true)))) ∧
    (
     let s : State := st (chip)
     let c := s.chip
     (c.clk.fMarked = false ∨ c.clk.fSteered = false)) ∧
    (
     let s : State := st ({ chip with pwr := { fieldRst := false, coreRst := false }, fPour := 1 })
     let c := s.chip
     (c.fieldUp = true) ∧ (
     (c.fPour ≠ 0))) ∧
    (
     let s : State := st (chip)
     let c := s.chip
     (c.fPour = 0)) := by
  refine ⟨?_, ?_, ?_, ?_, ?_, ?_, ?_, ?_, ?_, ?_, ?_, ?_, ?_, ?_⟩ <;> dsimp only <;> decide +kernel

/-- Witnesses of the hypotheses of Obligations.CycleMarkReceptionResults. -/
theorem meets_CycleMarkReceptionResults :
    (
     let p : Fin 2 := 0
     let s : State := st (chip)
     let c := s.chip
     let q := p.val
     let role := c.get Reg.CHAIN_STAT_ROLE
     let facing := (c.gl q).rank = 0
     (c.coreUp = false ∨ c.linkActive q = false ∨ (bit c.chain.join q = true ∧ (role ≠ 1 ∨ ¬facing)))) ∧
    (
     let p : Fin 2 := 0
     let body : List (BitVec 8) := 0 :: 137 :: []
     let s : State := st ({ chip [(Reg.LINK_STAT_STATE 0, 7), (Reg.CLK_STATUS_EN, 65535), (Reg.CHAIN_STAT_ROLE, 14), (Reg.LINK_STAT_ROLE 0, 2)] with pwr := { coreRst := false, fieldRst := false }, chain := { join := 0 } })
     let c := s.chip
     let q := p.val
     let good := body.length == 16 && leNat (body.drop 14) == (crc16 0xFFFF (body.take 14)).toNat
     let role := c.get Reg.CHAIN_STAT_ROLE
     let facing := (c.gl q).rank = 0
     (c.coreUp = true) ∧ (
     (c.linkActive q = true) ∧ (
     (bit c.chain.join q = false ∨ (role = 1 ∧ facing)) ∧ (
     (good = false) ∧ (
     (c.headPort = some q)))))) ∧
    (
     let p : Fin 2 := 0
     let body : List (BitVec 8) := 0 :: 4 :: []
     let s : State := st (chip [(Reg.LINK_STAT_STATE 0, 65535), (Reg.LINK_STAT_ROLE 0, 65535)])
     let c := s.chip
     let q := p.val
     let good := body.length == 16 && leNat (body.drop 14) == (crc16 0xFFFF (body.take 14)).toNat
     let role := c.get Reg.CHAIN_STAT_ROLE
     let facing := (c.gl q).rank = 0
     (c.coreUp = true) ∧ (
     (c.linkActive q = true) ∧ (
     (bit c.chain.join q = false ∨ (role = 1 ∧ facing)) ∧ (
     (good = false) ∧ (
     (c.headPort ≠ some q)))))) ∧
    (
     let p : Fin 2 := 0
     let body : List (BitVec 8) := withCrc [3, 0, 0, 3, 0, 0, 8, 0, 7, 1, 0, 7, 0, 0]
     let s : State := st (chip [(Reg.LINK_STAT_STATE 0, 65535)])
     let c := s.chip
     let q := p.val
     let good := body.length == 16 && leNat (body.drop 14) == (crc16 0xFFFF (body.take 14)).toNat
     let role := c.get Reg.CHAIN_STAT_ROLE
     let facing := (c.gl q).rank = 0
     (c.coreUp = true) ∧ (
     (c.linkActive q = true) ∧ (
     (bit c.chain.join q = false ∨ (role = 1 ∧ facing)) ∧ (
     (good = true) ∧ (
     (role ≠ 1) ∧ (
     (role ≠ 3) ∧ (
     (c.flag Reg.CLK_STATUS_EN = false)))))))) ∧
    (
     let p : Fin 2 := 0
     let body : List (BitVec 8) := withCrc [0, 1, 2, 16, 8, 3, 255, 0, 1, 3, 0, 0, 0, 0]
     let s : State := st (chip [(Reg.CHAIN_STAT_ROLE, 8), (Reg.CLK_STATUS_EN, 65535), (Reg.LINK_STAT_STATE 0, 7), (Reg.LINK_STAT_ROLE 1, 7)])
     let c := s.chip
     let q := p.val
     let good := body.length == 16 && leNat (body.drop 14) == (crc16 0xFFFF (body.take 14)).toNat
     let role := c.get Reg.CHAIN_STAT_ROLE
     let facing := (c.gl q).rank = 0
     (c.coreUp = true) ∧ (
     (c.linkActive q = true) ∧ (
     (bit c.chain.join q = false ∨ (role = 1 ∧ facing)) ∧ (
     (good = true) ∧ (
     (role ≠ 1) ∧ (
     (role ≠ 3) ∧ (
     (c.flag Reg.CLK_STATUS_EN = true) ∧ (
     (c.headPort = some q))))))))) ∧
    (
     let p : Fin 2 := 0
     let body : List (BitVec 8) := withCrc [8, 0, 8, 255, 0, 255, 0, 0, 3, 0, 7, 0, 1, 3]
     let s : State := st ({ chip [(Reg.CLK_STATUS_EN, 7), (Reg.LINK_STAT_STATE 0, 65535), (Reg.LINK_STAT_ROLE 0, 5)] with clk := { missed := 16 }, pwr := { coreRst := false, fieldRst := false } })
     let c := s.chip
     let q := p.val
     let good := body.length == 16 && leNat (body.drop 14) == (crc16 0xFFFF (body.take 14)).toNat
     let role := c.get Reg.CHAIN_STAT_ROLE
     let facing := (c.gl q).rank = 0
     (c.coreUp = true) ∧ (
     (c.linkActive q = true) ∧ (
     (bit c.chain.join q = false ∨ (role = 1 ∧ facing)) ∧ (
     (good = true) ∧ (
     (role ≠ 1) ∧ (
     (role ≠ 3) ∧ (
     (c.flag Reg.CLK_STATUS_EN = true) ∧ (
     (c.headPort ≠ some q) ∧ (
     (3 ≤ c.clk.missed)))))))))) ∧
    (
     let p : Fin 2 := 0
     let body : List (BitVec 8) := withCrc [8, 0, 8, 255, 0, 255, 0, 0, 3, 0, 7, 0, 1, 3]
     let s : State := st (chip [(Reg.CLK_STATUS_EN, 7), (Reg.LINK_STAT_STATE 0, 65535), (Reg.LINK_STAT_ROLE 0, 5)])
     let c := s.chip
     let q := p.val
     let good := body.length == 16 && leNat (body.drop 14) == (crc16 0xFFFF (body.take 14)).toNat
     let role := c.get Reg.CHAIN_STAT_ROLE
     let facing := (c.gl q).rank = 0
     (c.coreUp = true) ∧ (
     (c.linkActive q = true) ∧ (
     (bit c.chain.join q = false ∨ (role = 1 ∧ facing)) ∧ (
     (good = true) ∧ (
     (role ≠ 1) ∧ (
     (role ≠ 3) ∧ (
     (c.flag Reg.CLK_STATUS_EN = true) ∧ (
     (c.headPort ≠ some q) ∧ (
     (c.clk.missed < 3)))))))))) ∧
    (
     let p : Fin 2 := 0
     let body : List (BitVec 8) := withCrc [0, 4, 0, 0, 4, 8, 0, 16, 0, 2, 0, 0, 0, 4]
     let s : State := st (chip [(Reg.CHAIN_STAT_ROLE, 5), (Reg.CLK_CYC_NUM, 5), (Reg.LINK_PARTNER_HI 1, 65535), (Reg.LINK_PARTNER_LO 1, 2), (Reg.LINK_STAT_STATE 0, 65535)])
     let c := s.chip
     let q := p.val
     let good := body.length == 16 && leNat (body.drop 14) == (crc16 0xFFFF (body.take 14)).toNat
     let own := c.clk.sentCyc && leNat (body.take 8) == c.clk.markNs && leNat ((body.drop 8).take 4) == c.get Reg.CLK_CYC_NUM
     let partner := c.get (Reg.LINK_PARTNER_LO q) + 2 ^ 32 * c.get (Reg.LINK_PARTNER_HI q)
     let role := c.get Reg.CHAIN_STAT_ROLE
     let facing := (c.gl q).rank = 0
     (c.coreUp = true) ∧ (
     (c.linkActive q = true) ∧ (
     (bit c.chain.join q = false ∨ (role = 1 ∧ facing)) ∧ (
     (good = true) ∧ (
     (role = 1) ∧ (
     (c.clk.sentCyc = false ∨ (own = false ∧ facing ∧ partner ≤ Sys2Proof.Config.uid.toNat)))))))) ∧
    (
     let p : Fin 2 := 0
     let body : List (BitVec 8) := withCrc (List.replicate 14 0)
     let s : State := st (let c := chip [(Reg.CHAIN_STAT_ROLE, 1), (Reg.LINK_STAT_STATE 0, 7)]; { c with clk := { c.clk with sentCyc := true } })
     let c := s.chip
     let q := p.val
     let good := body.length == 16 && leNat (body.drop 14) == (crc16 0xFFFF (body.take 14)).toNat
     let own := c.clk.sentCyc && leNat (body.take 8) == c.clk.markNs && leNat ((body.drop 8).take 4) == c.get Reg.CLK_CYC_NUM
     let partner := c.get (Reg.LINK_PARTNER_LO q) + 2 ^ 32 * c.get (Reg.LINK_PARTNER_HI q)
     let role := c.get Reg.CHAIN_STAT_ROLE
     let facing := (c.gl q).rank = 0
     (c.coreUp = true) ∧ (
     (c.linkActive q = true) ∧ (
     (bit c.chain.join q = false ∨ (role = 1 ∧ facing)) ∧ (
     (good = true) ∧ (
     (role = 1) ∧ (
     (c.clk.sentCyc = true) ∧ (
     (own = true ∨ (facing ∧ Sys2Proof.Config.uid.toNat < partner))))))))) ∧
    (
     let p : Fin 2 := 0
     let body : List (BitVec 8) := withCrc [0, 3, 0, 16, 0, 3, 1, 1, 16, 0, 0, 8, 0, 0]
     let s : State := st ({ chip [(Reg.CHAIN_STAT_ROLE, 65535), (Reg.CLK_CYC_NUM, 16), (Reg.LINK_STAT_STATE 0, 7)] with clk := { sentCyc := true }, pwr := { coreRst := false, fieldRst := false } })
     let c := s.chip
     let q := p.val
     let good := body.length == 16 && leNat (body.drop 14) == (crc16 0xFFFF (body.take 14)).toNat
     let own := c.clk.sentCyc && leNat (body.take 8) == c.clk.markNs && leNat ((body.drop 8).take 4) == c.get Reg.CLK_CYC_NUM
     let role := c.get Reg.CHAIN_STAT_ROLE
     let facing := (c.gl q).rank = 0
     (c.coreUp = true) ∧ (
     (c.linkActive q = true) ∧ (
     (bit c.chain.join q = false ∨ (role = 1 ∧ facing)) ∧ (
     (good = true) ∧ (
     (role = 3) ∧ (
     (c.chain.handed = false ∨ own = true))))))) := by
  refine ⟨?_, ?_, ?_, ?_, ?_, ?_, ?_, ?_, ⟨by decide +kernel, by decide +kernel, by decide +kernel, by decide +kernel, by decide +kernel, by decide +kernel, Or.inl (by decide +kernel)⟩, ?_⟩ <;> dsimp only <;> decide +kernel

/-- Witnesses of the hypotheses of Obligations.SynchronisationFollowsTableClk4. -/
theorem meets_SynchronisationFollowsTableClk4 :
    (
     let c : Chip := chip
     let st := c.get Reg.CLK_STATUS_SYNC
     (st = 0)) ∧
    (
     let c : Chip := { chip [(Reg.CLK_STATUS_SYNC, 1)] with clk := { inWin := 63 }, ct := 7, ctFrac := 1997350852 }
     let target : Int := -8
     let e := target - ((c.ct.toNat : Int) * 1000 + (c.ctFrac.toNat : Int) * 1000 / 2 ^ 32)
     let st := c.get Reg.CLK_STATUS_SYNC
     let last := 95 ≤ c.clk.acqMarks
     (st = 1) ∧ (
     (e.natAbs ≤ 10000) ∧ (
     (15 ≤ c.clk.inWin ∨ last)))) ∧
    (
     let c : Chip := chip [(Reg.CLK_STATUS_SYNC, 1)]
     let target : Int := 0
     let e := target - ((c.ct.toNat : Int) * 1000 + (c.ctFrac.toNat : Int) * 1000 / 2 ^ 32)
     let st := c.get Reg.CLK_STATUS_SYNC
     let last := 95 ≤ c.clk.acqMarks
     (st = 1) ∧ (
     (e.natAbs ≤ 10000) ∧ (
     (c.clk.inWin < 15) ∧ (
     (¬last))))) ∧
    (
     let c : Chip := { chip [(Reg.CLK_STATUS_SYNC, 5)] with clk := { stepped := false }, ct := 35552612, ctFrac := 1988331556 }
     let target : Int := -0
     let e := target - ((c.ct.toNat : Int) * 1000 + (c.ctFrac.toNat : Int) * 1000 / 2 ^ 32)
     let st := c.get Reg.CLK_STATUS_SYNC
     let last := 95 ≤ c.clk.acqMarks
     (st = 1) ∧ (
     (10000 < e.natAbs) ∧ (
     (¬last) ∧ (
     (c.clk.stepped = false))))) ∧
    (
     let c : Chip := { chip [(Reg.CLK_STATUS_SYNC, 1)] with clk := { stepped := true }, ct := 1154634657 }
     let target : Int := -1
     let e := target - ((c.ct.toNat : Int) * 1000 + (c.ctFrac.toNat : Int) * 1000 / 2 ^ 32)
     let st := c.get Reg.CLK_STATUS_SYNC
     let last := 95 ≤ c.clk.acqMarks
     (st = 1) ∧ (
     (10000 < e.natAbs) ∧ (
     (¬last) ∧ (
     (c.clk.stepped = true))))) ∧
    (
     let c : Chip := (let c := chip [(Reg.CLK_STATUS_SYNC, 1)]; { c with ct := 1352450524, clk := { c.clk with acqMarks := 95 } })
     let target : Int := 100
     let e := target - ((c.ct.toNat : Int) * 1000 + (c.ctFrac.toNat : Int) * 1000 / 2 ^ 32)
     let st := c.get Reg.CLK_STATUS_SYNC
     let last := 95 ≤ c.clk.acqMarks
     (st = 1) ∧ (
     (10000 < e.natAbs) ∧ (
     (last)))) ∧
    (
     let c : Chip := chip [(Reg.CLK_STATUS_SYNC, 2)]
     let target : Int := 2
     let e := target - ((c.ct.toNat : Int) * 1000 + (c.ctFrac.toNat : Int) * 1000 / 2 ^ 32)
     let st := c.get Reg.CLK_STATUS_SYNC
     (st = 2) ∧ (
     (e.natAbs ≤ 1000000))) ∧
    (
     let c : Chip := { chip [(Reg.CLK_STATUS_SYNC, 2)] with ct := 1543396729, ctFrac := 4 }
     let target : Int := -7
     let e := target - ((c.ct.toNat : Int) * 1000 + (c.ctFrac.toNat : Int) * 1000 / 2 ^ 32)
     let st := c.get Reg.CLK_STATUS_SYNC
     (st = 2) ∧ (
     (1000000 < e.natAbs))) ∧
    (
     let c : Chip := chip [(Reg.CLK_STATUS_SYNC, 3)]
     let target : Int := -0
     let e := target - ((c.ct.toNat : Int) * 1000 + (c.ctFrac.toNat : Int) * 1000 / 2 ^ 32)
     let st := c.get Reg.CLK_STATUS_SYNC
     (st = 3) ∧ (
     (e.natAbs ≤ 10000))) ∧
    (
     let c : Chip := { chip [(Reg.CLK_STATUS_SYNC, 7)] with ct := 1352450524, ctFrac := 0 }
     let target : Int := 100
     let e := target - ((c.ct.toNat : Int) * 1000 + (c.ctFrac.toNat : Int) * 1000 / 2 ^ 32)
     let st := c.get Reg.CLK_STATUS_SYNC
     (st = 3) ∧ (
     (10000 < e.natAbs))) := by
  refine ⟨?_, ?_, ?_, ?_, ?_, ?_, ?_, ?_, ?_, ?_⟩ <;> dsimp only <;> decide +kernel

/-- Witnesses of the hypotheses of Obligations.RailSequencerResults (part 1). -/
theorem meets_RailSequencerResults_1 :
    (
     let s : State := st (chip)
     let c := s.chip
     (c.pwr.phase = .por)) ∧
    (
     let s : State := st ({ chip with pwr := { phase := .dropping, coreRst := false, fieldRst := false } })
     let c := s.chip
     (c.pwr.phase ≠ .por)) ∧
    (
     let rail : Rail := .vaux
     let s : State := st ({ chip with pwr := { phase := .wantPg, coreRst := false, fieldRst := false } })
     let c := s.chip
     let n := railNum rail
     (c.pwr.phase = .wantPg) ∧ (
     (c.pwr.rail = n) ∧ (
     (n ≠ 2)))) ∧
    (
     let rail : Rail := .vcore
     let s : State := st ({ chip with pwr := { phase := .wantPg, rail := 2, coreRst := false, fieldRst := false } })
     let c := s.chip
     let n := railNum rail
     (c.pwr.phase = .wantPg) ∧ (
     (c.pwr.rail = n) ∧ (
     (n = 2)))) ∧
    (
     let rail : Rail := .vlogic
     let s : State := st (chip)
     let c := s.chip
     let n := railNum rail
     (c.pwr.phase ≠ .wantPg ∨ c.pwr.rail ≠ n)) ∧
    (
     let s : State := st ({ chip with pwr := { phase := .gap, coreRst := false, fieldRst := false } })
     let c := s.chip
     (c.pwr.phase = .gap)) ∧
    (
     let s : State := st (chip)
     let c := s.chip
     (c.pwr.phase ≠ .gap)) ∧
    (
     let s : State := st (chip)
     let c := s.chip
     (c.pwr.phase ≠ .wantPg)) ∧
    (
     let s : State := st ({ chip with pwr := { phase := .retryWait, coreRst := false, fieldRst := false } })
     let c := s.chip
     (c.pwr.phase = .retryWait)) ∧
    (
     let s : State := st (chip)
     let c := s.chip
     (c.pwr.phase ≠ .retryWait)) ∧
    (
     let s : State := st ({ chip with pwr := { phase := .dropping, en := 1, goal := .retry, coreRst := false, fieldRst := false } })
     let c := s.chip
     (c.pwr.phase = .dropping) ∧ (
     let k : Nat := 0
     (c.railNext = some k))) ∧
    (
     let s : State := st ({ chip with pwr := { phase := .dropping, goal := .retry, coreRst := false, fieldRst := false } })
     let c := s.chip
     (c.pwr.phase = .dropping) ∧ (
     (c.railNext = none) ∧ (
     (c.pwr.goal = .retry)))) ∧
    (
     let s : State := st ({ chip [(Reg.SYS_KEEP_STAT_RAIL_FAIL, 7)] with pwr := { phase := .dropping, en := 32, goal := .failed, coreRst := false, fieldRst := false } })
     let c := s.chip
     (c.pwr.phase = .dropping) ∧ (
     (c.railNext = none) ∧ (
     (c.pwr.goal = .failed)))) ∧
    (
     let s : State := st ({ chip with pwr := { phase := .dropping, en := 1, goal := .standby, coreRst := false, fieldRst := false } })
     let c := s.chip
     (c.pwr.phase = .dropping) ∧ (
     (c.railNext = none) ∧ (
     (c.pwr.goal = .standby)))) ∧
    (
     let s : State := st ({ chip with pwr := { phase := .dropping, goal := .resequence, coreRst := false, fieldRst := false } })
     let c := s.chip
     (c.pwr.phase = .dropping) ∧ (
     (c.railNext = none) ∧ (
     (c.pwr.goal = .resequence)))) ∧
    (
     let s : State := st ({ chip with pwr := { phase := .dropping, en := 0, trunkOff := false, coreRst := false, fieldRst := false } })
     let c := s.chip
     (c.pwr.phase = .dropping) ∧ (
     (c.railNext = none) ∧ (
     (c.pwr.goal = .off) ∧ (
     (c.pwr.trunkOff = false))))) := by
  refine ⟨?_, ?_, ?_, ?_, ?_, ?_, ?_, ?_, ?_, ?_, ?_, ?_, ?_, ?_, ?_, ?_⟩ <;> dsimp only <;> decide +kernel

/-- Witnesses of the hypotheses of Obligations.RailSequencerResults (part 2). -/
theorem meets_RailSequencerResults_2 :
    (
     let s : State := st (chip)
     let c := s.chip
     (c.pwr.phase ≠ .dropping)) ∧
    (
     let d : Chip := { chip with pwr := { en := 5, coreRst := false, fieldRst := false } }
     (bit d.pwr.en 2 = true)) ∧
    (
     let d : Chip := { chip with pwr := { en := 2, coreRst := false, fieldRst := false } }
     (bit d.pwr.en 2 = false) ∧ (
     (d.pwr.goal ≠ .standby) ∧ (
     (bit d.pwr.en 1 = true)))) ∧
    (
     let d : Chip := { chip with pwr := { en := 1, coreRst := false, fieldRst := false } }
     (bit d.pwr.en 2 = false) ∧ (
     (d.pwr.goal ≠ .standby) ∧ (
     (bit d.pwr.en 1 = false) ∧ (
     (bit d.pwr.en 0 = true))))) ∧
    (
     let d : Chip := chip
     (bit d.pwr.en 2 = false) ∧ (
     (d.pwr.goal = .standby ∨ (bit d.pwr.en 1 = false ∧ bit d.pwr.en 0 = false)))) ∧
    (
     let s : State := st ({ chip with pwr := { pg := 63, fieldRst := true, coreRst := false } })
     let c := s.chip
     (c.pwr.fieldRst = true) ∧ (
     (bit c.pwr.pg 0 = true) ∧ (
     (bit c.pwr.pg 1 = true)))) ∧
    (
     let s : State := st (chip)
     let c := s.chip
     (c.pwr.fieldRst = false ∨ bit c.pwr.pg 0 = false ∨ bit c.pwr.pg 1 = false)) ∧
    (
     let s : State := st (chip)
     let c := s.chip
     (c.pwr.coreRst = false ∨ bit c.pwr.pg 2 = false ∨ c.pwr.phase ≠ .up)) ∧
    (
     let s : State := st ({ chip with pwr := { phase := .up, pg := 52, coreRst := true, fieldRst := false } })
     let c := s.chip
     (c.pwr.coreRst = true) ∧ (
     (bit c.pwr.pg 2 = true) ∧ (
     (c.pwr.phase = .up)))) := by
  refine ⟨?_, ?_, ?_, ?_, ?_, ?_, ?_, ?_, ?_⟩ <;> dsimp only <;> decide +kernel

/-- Witnesses of the hypotheses of Obligations.ResetKindResults. -/
theorem meets_ResetKindResults :
    (
     let r : Requester := .engine 0
     let s : State := st (chip)
     let c := s.chip
     (c.takes r Reg.SYS_RESET_CORE.addr = true)) ∧
    (
     let r : Requester := .engine 0
     let s : State := st (chip)
     let c := s.chip
     (c.takes r Reg.SYS_RESET_NODE.addr = true)) ∧
    (
     let rail : Rail := .vlogic
     let s : State := st ({ chip with pwr := { en := 2, pg := 63, coreRst := false, fieldRst := false } })
     let c := s.chip
     let n := railNum rail
     (bit c.pwr.en n = true) ∧ (
     (bit c.pwr.pg n = true) ∧ (
     (c.pwr.phase ≠ .dropping)))) ∧
    (
     let rail : Rail := .vlogic
     let s : State := st (chip)
     let c := s.chip
     let n := railNum rail
     (bit c.pwr.en n = false ∨ bit c.pwr.pg n = false ∨ c.pwr.phase = .dropping)) ∧
    (
     let s : State := st ({ chip with pwr := { phase := .dropping, goal := .standby, coreRst := false, fieldRst := false } })
     let c := s.chip
     (c.wakeOpen = true)) ∧
    (
     let s : State := st ({ chip with pwr := { phase := .dropping, goal := .retry, coreRst := false, fieldRst := false } })
     let c := s.chip
     (c.wakeOpen = false) ∧ (
     (c.pwr.phase ≠ .por))) ∧
    (
     let s : State := st (chip)
     let c := s.chip
     (c.wakeOpen = false) ∧ (
     (c.pwr.phase = .por))) ∧
    (
     let s : State := st ({ chip with pwr := { nrstLow := true, coreRst := false, fieldRst := false } })
     let c := s.chip
     (c.pwr.nrstLow = true)) ∧
    (
     let s : State := st (chip)
     let c := s.chip
     (c.pwr.nrstLow = false)) := by
  refine ⟨?_, ?_, ?_, ?_, ?_, ?_, ?_, ?_, ?_⟩ <;> dsimp only <;> decide +kernel

/-- Witnesses of the hypotheses of Obligations.BootImageResults (part 1). -/
theorem meets_BootImageResults_1 :
    (
     let s : State := st (chip [(Reg.SYS_BOOT_STATE, 1)])
     let c := s.chip
     let st := c.get Reg.SYS_BOOT_STATE
     (c.coreUp = true) ∧ (
     (st = 1) ∧ (
     (c.slotVersion 0 = none) ∧ (
     (c.slotVersion 1 = none))))) ∧
    (
     let s : State := st (inSlot 0 (chip [(Reg.SYS_BOOT_STATE, 1)]))
     let c := s.chip
     let st := c.get Reg.SYS_BOOT_STATE
     (c.coreUp = true) ∧ (
     (st = 1) ∧ (
     let b : List (BitVec 8) := signedImage
     (c.slotImage 0 = some b) ∧ (
     let v : Nat := 1
     (c.slotVersion 0 = some v) ∧ (
     (c.slotVersion 1 = none)))))) ∧
    (
     let s : State := st (inSlot 1 (chip [(Reg.SYS_BOOT_STATE, 1)]))
     let c := s.chip
     let st := c.get Reg.SYS_BOOT_STATE
     (c.coreUp = true) ∧ (
     (st = 1) ∧ (
     let b : List (BitVec 8) := signedImage
     (c.slotImage 1 = some b) ∧ (
     (c.slotVersion 0 = none) ∧ (
     let v : Nat := 1
     (c.slotVersion 1 = some v)))))) ∧
    (
     let s : State := st (inSlot 0 (inSlot 1 (chip [(Reg.SYS_BOOT_STATE, 1)])))
     let c := s.chip
     let st := c.get Reg.SYS_BOOT_STATE
     (c.coreUp = true) ∧ (
     (st = 1) ∧ (
     let a : List (BitVec 8) := signedImage
     (c.slotImage 0 = some a) ∧ (
     let b : List (BitVec 8) := signedImage
     (c.slotImage 1 = some b) ∧ (
     let va : Nat := 1
     (c.slotVersion 0 = some va) ∧ (
     let vb : Nat := 1
     (c.slotVersion 1 = some vb) ∧ (
     (vb ≤ va)))))))) ∧
    (
     let s : State := st (inSlotOf signedImage 0 (inSlotOf newerImage 1 (chip [(Reg.SYS_BOOT_STATE, 1)])))
     let c := s.chip
     let st := c.get Reg.SYS_BOOT_STATE
     (c.coreUp = true) ∧ (
     (st = 1) ∧ (
     let a : List (BitVec 8) := signedImage
     (c.slotImage 0 = some a) ∧ (
     let b : List (BitVec 8) := newerImage
     (c.slotImage 1 = some b) ∧ (
     let va : Nat := 1
     (c.slotVersion 0 = some va) ∧ (
     let vb : Nat := 2
     (c.slotVersion 1 = some vb) ∧ (
     (va < vb)))))))) ∧
    (
     let s : State := st (let c := inSlot 0 (chip [(Reg.SYS_BOOT_STATE, 4)]); { c with boot := { c.boot with verify := some (272, 0) } })
     let c := s.chip
     let st := c.get Reg.SYS_BOOT_STATE
     (c.coreUp = true) ∧ (
     (st = 4) ∧ (
     let len : Nat := 272
     let k : Nat := 0
     (c.boot.verify = some (len, k)) ∧ (
     let b := c.norbs (slotBase k) len
     (c.imageErr b = 0))))) ∧
    (
     let s : State := st ({ chip [(Reg.SYS_BOOT_STATE, 4)] with pwr := { coreRst := false, fieldRst := false }, boot := { verify := some ((0, 1)) } })
     let c := s.chip
     let st := c.get Reg.SYS_BOOT_STATE
     (c.coreUp = true) ∧ (
     (st = 4) ∧ (
     let len : Nat := 0
     let k : Nat := 1
     (c.boot.verify = some (len, k)) ∧ (
     let b := c.norbs (slotBase k) len
     (c.imageErr b ≠ 0))))) ∧
    (
     let b : List (BitVec 8) := List.replicate 0x14 0 ++ [1] ++ List.replicate (0x100 - 0x15) 0 ++ [2, 0, 0, 0, 0, 0, 0, 0, 0x10, 1, 0, 0, 8, 0, 0, 0, 0xFC, 0xFF, 0xFF, 0xFF, 0, 0, 0, 0]
     let d : Chip := chip
     ((bootSections b (sections b) d).2.coreUp = true) ∧ (
     let w := bootSections b (sections b) d
     (w.1 = false))) ∧
    (
     let b : List (BitVec 8) := List.replicate 0x1C 0 ++ [1, 0, 0, 0]
     let d : Chip := chip [(Reg.SYS_ARMED, 1)]
     ((bootSections b (sections b) d).2.coreUp = true) ∧ (
     let w := bootSections b (sections b) d
     let e := (({ w.2 with boot := { w.2.boot with holdsMbx := false } }.bootEmpty 63).bootEmpty 62)
     let p := e.localPour 32 (imgWord b 0x1C % 65536)
     (w.1 = true) ∧ (
     (p.1 ≠ .done)))) ∧
    (
     let b : List (BitVec 8) := 0 :: 0 :: 16 :: 8 :: 177 :: 16 :: 3 :: 2 :: 0 :: 5 :: 0 :: 2 :: 145 :: 32 :: 8 :: 0 :: []
     let d : Chip := chip
     ((bootSections b (sections b) d).2.coreUp = true) ∧ (
     let w := bootSections b (sections b) d
     let e := (({ w.2 with boot := { w.2.boot with holdsMbx := false } }.bootEmpty 63).bootEmpty 62)
     let p := e.localPour 32 (imgWord b 0x1C % 65536)
     (w.1 = true) ∧ (
     (p.1 = .done)))) ∧
    (
     let s : State := st (let c := chip [(Reg.SYS_BOOT_STATE, 2)]; let c := { c with boot := { c.boot with holdsMbx := true, load := none } }; let c := (c.setMbx 63 { count := 1 }).wrw (mbxEntry 63 0) 524288; c.wrbs (bufAddr 0) [1, 0, 0, 0, 0, 0, 16, 0])
     let c := s.chip
     let st := c.get Reg.SYS_BOOT_STATE
     let buf : Nat := 0
     let l : List (BitVec 8) := [1, 0, 0, 0, 0, 0, 16, 0]
     (c.bootMsg = some (buf, l)) ∧ (
     ((c.mbx 62).count < 8) ∧ (
     (msgOp l = 1) ∧ (
     (msgOk l false = true) ∧ (
     (st = 2) ∧ (
     (imgWord l 4 ≤ 0x100000))))))) ∧
    (
     let s : State := st (let c := chip [(Reg.SYS_BOOT_STATE, 2)]; let c := { c with boot := { c.boot with holdsMbx := true, load := none } }; let c := (c.setMbx 63 { count := 1 }).wrw (mbxEntry 63 0) 524288; c.wrbs (bufAddr 0) [1, 0, 0, 0, 1, 0, 16, 0])
     let c := s.chip
     let st := c.get Reg.SYS_BOOT_STATE
     let buf : Nat := 0
     let l : List (BitVec 8) := [1, 0, 0, 0, 1, 0, 16, 0]
     (c.bootMsg = some (buf, l)) ∧ (
     ((c.mbx 62).count < 8) ∧ (
     (msgOp l = 1) ∧ (
     (msgOk l false = false ∨ st ≠ 2 ∨ 0x100000 < imgWord l 4))))) ∧
    (
     let s : State := st (let c := chip [(Reg.SYS_BOOT_STATE, 3)]; let c := { c with boot := { c.boot with holdsMbx := true, load := some (8, 4, 0) } }; let c := (c.setMbx 63 { count := 1 }).wrw (mbxEntry 63 0) 786432; c.wrbs (bufAddr 0) [2, 0, 0, 0, 4, 0, 0, 0, 9, 9, 9, 9])
     let c := s.chip
     let st := c.get Reg.SYS_BOOT_STATE
     let buf : Nat := 0
     let l : List (BitVec 8) := [2, 0, 0, 0, 4, 0, 0, 0, 9, 9, 9, 9]
     (c.bootMsg = some (buf, l)) ∧ (
     ((c.mbx 62).count < 8) ∧ (
     let len : Nat := 8
     let next : Nat := 4
     let k : Nat := 0
     (c.boot.load = some (len, next, k)) ∧ (
     (msgOp l = 2) ∧ (
     (msgOk l true = true) ∧ (
     (st = 3) ∧ (
     (imgWord l 4 = next) ∧ (
     (next + (l.drop 8).length ≤ len))))))))) ∧
    (
     let s : State := st (let c := chip [(Reg.SYS_BOOT_STATE, 3)]; let c := { c with boot := { c.boot with holdsMbx := true, load := some (8, 4, 0) } }; let c := (c.setMbx 63 { count := 1 }).wrw (mbxEntry 63 0) 786432; c.wrbs (bufAddr 0) [2, 0, 0, 0, 8, 0, 0, 0, 9, 9, 9, 9])
     let c := s.chip
     let st := c.get Reg.SYS_BOOT_STATE
     let buf : Nat := 0
     let l : List (BitVec 8) := [2, 0, 0, 0, 8, 0, 0, 0, 9, 9, 9, 9]
     (c.bootMsg = some (buf, l)) ∧ (
     ((c.mbx 62).count < 8) ∧ (
     let len : Nat := 8
     let next : Nat := 4
     let k : Nat := 0
     (c.boot.load = some (len, next, k)) ∧ (
     (msgOp l = 2) ∧ (
     (msgOk l true = false ∨ st ≠ 3 ∨ imgWord l 4 ≠ next ∨ len < next + (l.drop 8).length)))))) ∧
    (
     let s : State := st (let c := chip [(Reg.SYS_BOOT_STATE, 3)]; let c := { c with boot := { c.boot with holdsMbx := true, load := none } }; let c := (c.setMbx 63 { count := 1 }).wrw (mbxEntry 63 0) 524288; c.wrbs (bufAddr 0) [3, 0, 0, 0, 0, 0, 0, 0])
     let c := s.chip
     let buf : Nat := 0
     let l : List (BitVec 8) := [3, 0, 0, 0, 0, 0, 0, 0]
     (c.bootMsg = some (buf, l)) ∧ (
     (msgOp l ≠ 1) ∧ (
     (msgOp l ≠ 2) ∧ (
     (msgOp l = 3) ∧ (
     (msgOk l false = true) ∧ (
     (imgWord l 4 = 0))))))) ∧
    (
     let s : State := st (let c := chip [(Reg.SYS_BOOT_STATE, 2)]; let c := { c with boot := { c.boot with holdsMbx := true, load := none } }; let c := (c.setMbx 63 { count := 1 }).wrw (mbxEntry 63 0) 262144; c.wrbs (bufAddr 0) [0, 0, 0, 0])
     let c := s.chip
     let buf : Nat := 0
     let l : List (BitVec 8) := [0, 0, 0, 0]
     (c.bootMsg = some (buf, l)) ∧ (
     (msgOp l ≠ 1) ∧ (
     (msgOp l ≠ 2) ∧ (
     (msgOp l ≠ 3 ∨ msgOk l false = false ∨ imgWord l 4 ≠ 0))))) := by
  refine ⟨?_, (fun h : (inSlot 0 (chip [(Reg.SYS_BOOT_STATE, 1)])).slotImage 0 = some signedImage => ⟨by decide +kernel, by decide +kernel, h, slot_version 0 _ (by decide +kernel) (by decide +kernel) h, by decide +kernel⟩) (by decide +kernel), (fun h : (inSlot 1 (chip [(Reg.SYS_BOOT_STATE, 1)])).slotImage 1 = some signedImage => ⟨by decide +kernel, by decide +kernel, h, by decide +kernel, slot_version 1 _ (by decide +kernel) (by decide +kernel) h⟩) (by decide +kernel), (fun (h : (inSlot 0 (inSlot 1 (chip [(Reg.SYS_BOOT_STATE, 1)]))).slotImage 0 = some signedImage) (k : (inSlot 0 (inSlot 1 (chip [(Reg.SYS_BOOT_STATE, 1)]))).slotImage 1 = some signedImage) => ⟨by decide +kernel, by decide +kernel, h, k, slot_version 0 _ (by decide +kernel) (by decide +kernel) h, slot_version 1 _ (by decide +kernel) (by decide +kernel) k, by decide⟩) (by decide +kernel) (by decide +kernel), (fun (h : (inSlotOf signedImage 0 (inSlotOf newerImage 1 (chip [(Reg.SYS_BOOT_STATE, 1)]))).slotImage 0 = some signedImage) (k : (inSlotOf signedImage 0 (inSlotOf newerImage 1 (chip [(Reg.SYS_BOOT_STATE, 1)]))).slotImage 1 = some newerImage) => ⟨by decide +kernel, by decide +kernel, h, k, slot_version 0 _ (by decide +kernel) (by decide +kernel) h, slot_newer 1 _ (by decide +kernel) (by decide +kernel) k, by decide⟩) (by decide +kernel) (by decide +kernel), ⟨by decide +kernel, by decide +kernel, by decide +kernel, image_err _ _ (by decide +kernel) (by decide +kernel) (by decide +kernel)⟩, ?_, ?_, ?_, ?_, ?_, ?_, ?_, ?_, ?_, ?_⟩ <;> dsimp only <;> decide +kernel

/-- Witnesses of the hypotheses of Obligations.BootImageResults (part 2). -/
theorem meets_BootImageResults_2 :
    (
     let d : Chip := { chip [(Reg.SYS_BOOT_STATE, 3)] with boot := { load := some ((0, (0, 0))) } }
     let len : Nat := 0
     let k : Nat := 0
     (d.boot.load = some (len, len, k)) ∧ (
     (d.get Reg.SYS_BOOT_STATE = 3))) ∧
    (
     let s : State := st (chip)
     let c := s.chip
     (c.bootMsg = none)) ∧
    (
     let r : Requester := .mgmt
     let s : State := st (chip [(Reg.SYS_BOOT_STATE, 5), (Reg.SYS_BOOT_STORE_BUSY, 0)])
     let c := s.chip
     let st := c.get Reg.SYS_BOOT_STATE
     (c.takes r Reg.SYS_BOOT_CMD.addr = true) ∧ (
     (st = 5) ∧ (
     (c.flag Reg.SYS_BOOT_STORE_BUSY = false)))) ∧
    (
     let r : Requester := .engine 0
     let s : State := st (chip)
     let c := s.chip
     let st := c.get Reg.SYS_BOOT_STATE
     (c.takes r Reg.SYS_BOOT_CMD.addr = true) ∧ (
     (st ≠ 5 ∨ c.flag Reg.SYS_BOOT_STORE_BUSY = true))) ∧
    (
     let s : State := st ({ chip [(Reg.SYS_BOOT_STORE_BUSY, 5)] with boot := { runSlot := 31 } })
     let c := s.chip
     (c.flag Reg.SYS_BOOT_STORE_BUSY = true) ∧ (
     (c.boot.runSlot ≠ 2))) ∧
    (
     let s : State := st (chip)
     let c := s.chip
     (c.flag Reg.SYS_BOOT_STORE_BUSY = false)) := by
  refine ⟨?_, ?_, ?_, ?_, ?_, ?_⟩ <;> dsimp only <;> decide +kernel

/-- Witnesses of the hypotheses of Obligations.OtpAndJournalScanResults. -/
theorem meets_OtpAndJournalScanResults :
    (
     let r : Requester := .engine 0
     let s : State := st (chip)
     let c := s.chip
     let n := c.boot.staged.length
     (c.takes r Reg.SYS_OTP_STAGE.addr = true) ∧ (
     (n < 8))) ∧
    (
     let r : Requester := .engine 0
     let s : State := st ({ chip with boot := { staged := 685610723 :: 31 :: 0 :: 4 :: 7 :: 1848711124 :: 0 :: 1488824407 :: 1759686420 :: 379318000 :: 0 :: 100 :: 0 :: 0 :: 1480337820 :: 16 :: [] } })
     let c := s.chip
     let n := c.boot.staged.length
     (c.takes r Reg.SYS_OTP_STAGE.addr = true) ∧ (
     (8 ≤ n))) ∧
    (
     let r : Requester := .mgmt
     let s : State := st ({ chip with boot := { staged := 6 :: 0 :: 4 :: 0 :: 0 :: 5 :: 1759686420 :: 379318000 :: 0 :: 100 :: [] } })
     let c := s.chip
     let n := c.boot.staged.length
     let busy := c.flag Reg.SYS_OTP_STAT_BUSY
     let set_ := c.flag Reg.SYS_OTP_STAT_KEY_SET
     (c.takes r Reg.SYS_OTP_PROG_KEY.addr = true) ∧ (
     (8 ≤ n) ∧ (
     (set_ = false) ∧ (
     (busy = false))))) ∧
    (
     let r : Requester := .engine 0
     let s : State := st (chip)
     let c := s.chip
     let n := c.boot.staged.length
     let busy := c.flag Reg.SYS_OTP_STAT_BUSY
     let set_ := c.flag Reg.SYS_OTP_STAT_KEY_SET
     (c.takes r Reg.SYS_OTP_PROG_KEY.addr = true) ∧ (
     (n < 8 ∨ set_ = true ∨ busy = true))) ∧
    (
     let r : Requester := .engine 0
     let s : State := st (chip)
     let c := s.chip
     (c.takes r Reg.SYS_OTP_PROG_CLEAR.addr = true)) ∧
    (
     let s : State := st (chip [(Reg.SYS_OTP_STAT_BUSY, 3)])
     let c := s.chip
     let busy := c.flag Reg.SYS_OTP_STAT_BUSY
     (busy = true)) ∧
    (
     let s : State := st (chip)
     let c := s.chip
     let busy := c.flag Reg.SYS_OTP_STAT_BUSY
     (busy = false)) ∧
    (
     let r : Requester := .engine 29
     let s : State := st (chip [(Reg.SYS_BOOT_OPEN, 0), (Reg.SYS_BOOT_STATE, 5), (Reg.SYS_IMG_RBI, 2)])
     let c := s.chip
     let i := c.get Reg.SYS_IMG_RBI
     (c.takes r Reg.SYS_RB_COMMIT.addr = true) ∧ (
     (c.get Reg.SYS_BOOT_STATE = 5) ∧ (
     (c.flag Reg.SYS_BOOT_OPEN = false) ∧ (
     (c.boot.rbCnt < i))))) ∧
    (
     let r : Requester := .engine 0
     let s : State := st (chip [(Reg.SYS_IMG_RBI, 3)])
     let c := s.chip
     let i := c.get Reg.SYS_IMG_RBI
     (c.takes r Reg.SYS_RB_COMMIT.addr = true) ∧ (
     (c.get Reg.SYS_BOOT_STATE ≠ 5 ∨ c.flag Reg.SYS_BOOT_OPEN = true ∨ i ≤ c.boot.rbCnt))) ∧
    (
     let s : State := st (chip [(Reg.BKG_STAT_JRNL_READY, 3)])
     let c := s.chip
     (c.coreUp = false ∨ c.flag Reg.BKG_STAT_JRNL_READY = true)) ∧
    (
     let s : State := st ((chip).norws (jSector 0) (withCrc (natBytes 2 0x4A53 ++ List.replicate 28 0)))
     let c := s.chip
     (c.coreUp = true) ∧ (
     (c.flag Reg.BKG_STAT_JRNL_READY = false) ∧ (
     let k : Nat := 0
     let q : Nat := 0
     (c.jNewest = some (k, q))))) ∧
    (
     let s : State := st (chip)
     let c := s.chip
     (c.coreUp = true) ∧ (
     (c.flag Reg.BKG_STAT_JRNL_READY = false) ∧ (
     (c.jNewest = none) ∧ (
     (c.get Reg.CHAIN_INFO3_STRAP ≠ 1 ∨ bit (c.get Reg.BKG_JRNL_VALID_LO) 1 = false))))) ∧
    (
     let s : State := st (chip [(Reg.BKG_JRNL_VALID_LO, 2), (Reg.BKG_STAT_JRNL_READY, 8), (Reg.CHAIN_INFO3_STRAP, 5)])
     let c := s.chip
     (c.coreUp = true) ∧ (
     (c.flag Reg.BKG_STAT_JRNL_READY = false) ∧ (
     (c.jNewest = none) ∧ (
     (c.get Reg.CHAIN_INFO3_STRAP = 1) ∧ (
     (bit (c.get Reg.BKG_JRNL_VALID_LO) 1 = true)))))) := by
  refine ⟨?_, ?_, ?_, ?_, ?_, ?_, ?_, ?_, ?_, ?_, ?_, ?_, ?_⟩ <;> dsimp only <;> decide +kernel

/-- Witnesses of the hypotheses of Obligations.LowPowerResults (part 1). -/
theorem meets_LowPowerResults_1 :
    (
     let s : State := st (chip [(Reg.CHAIN_STAT_ROLE, 1)])
     let c := s.chip
     (c.coreUp = true) ∧ (
     (c.get Reg.CHAIN_STAT_ROLE = 1) ∧ (
     (c.clk.sentCyc = false) ∧ (
     (c.pwr.listenDone = false))))) ∧
    (
     let s : State := st (chip)
     let c := s.chip
     (c.get Reg.CHAIN_STAT_ROLE ≠ 1 ∨ c.clk.sentCyc = true ∨ c.pwr.listenDone = true)) ∧
    (
     let d : Chip := { chip with pwr := { trOrder := true, coreRst := false, fieldRst := false } }
     (d.pwr.trOrder = true)) ∧
    (
     let d : Chip := chip
     (d.pwr.trOrder = false)) ∧
    (
     let r : Requester := .engine 0
     let s : State := st (chip)
     let c := s.chip
     let a := Reg.SYS_PWR_REQ.addr
     (c.takes r a = true) ∧ (
     (c.get Reg.SYS_PWR_STAT ≠ 1))) ∧
    (
     let r : Requester := .mgmt
     let s : State := st (chip [(Reg.SYS_PWR_STAT, 1)])
     let c := s.chip
     let a := Reg.SYS_PWR_REQ.addr
     (c.takes r a = true) ∧ (
     (c.get Reg.SYS_PWR_STAT = 1) ∧ (
     ((∀ e : Nat, e < 32 → c.get (Reg.ENG_STAT_IDLE_HELD e) = 0))))) ∧
    (
     let r : Requester := .engine 0
     let s : State := st (chip)
     let c := s.chip
     let a := Reg.SYS_PWR_REQ.addr
     (c.takes r a = true) ∧ (
     (c.get Reg.SYS_PWR_STAT = 0))) ∧
    (
     let r : Requester := .mgmt
     let s : State := st (chip [(Reg.SYS_PWR_STAT, 7)])
     let c := s.chip
     let a := Reg.SYS_PWR_REQ.addr
     (c.takes r a = true) ∧ (
     (c.get Reg.SYS_PWR_STAT ≠ 0))) ∧
    (
     let r : Requester := .engine 0
     let s : State := st (chip)
     let c := s.chip
     let a := Reg.SYS_PWR_REQ.addr
     (c.takes r a = true) ∧ (
     (c.linkActive 0 = false) ∧ (
     (c.linkActive 1 = false)))) ∧
    (
     let r : Requester := .mgmt
     let s : State := st (chip [(Reg.LINK_STAT_STATE 0, 7)])
     let c := s.chip
     let a := Reg.SYS_PWR_REQ.addr
     (c.takes r a = true) ∧ (
     (c.linkActive 0 = true ∨ c.linkActive 1 = true))) ∧
    (
     let r : Requester := .engine 0
     let s : State := st (chip)
     let c := s.chip
     (c.takes r Reg.SYS_WAKE_TIMER.addr = true)) ∧
    (
     let s : State := st (chip)
     let c := s.chip
     (c.pwr.timer = 0)) ∧
    (
     let s : State := st ({ chip with pwr := { timer := 31, coreRst := false, fieldRst := false } })
     let c := s.chip
     (c.pwr.timer ≠ 0) ∧ (
     (c.get Reg.CHAIN_SLEEP_STAT_STATE ≠ 1))) ∧
    (
     let s : State := st ({ chip [(Reg.CHAIN_SLEEP_STAT_STATE, 5)] with pwr := { timer := 31, coreRst := false, fieldRst := false } })
     let c := s.chip
     (c.pwr.timer ≠ 0) ∧ (
     (c.get Reg.CHAIN_SLEEP_STAT_STATE = 1))) ∧
    (
     let s : State := st ({ chip with pwr := { phase := .standby, wake := 2, coreRst := false, fieldRst := false } })
     let c := s.chip
     (c.pwr.phase = .standby) ∧ (
     (c.pwr.wake ≠ 0))) ∧
    (
     let s : State := st ({ chip [(Reg.FLASK_FSTAT_STATE 0, 4)] with pwr := { phase := .off, coreRst := false, fieldRst := false, wake := 63 }, boot := { keyHash := some ([]), rbCnt := 32 }, cuffs := [(0, { cc1 := .open_ })], bkg := { pend := ⟨63, true, [], false⟩ :: [], written := [], recSeq := 0, suspended := false }, fuseReq := 0, drvHold := true, nor := [(2, 233)] })
     let c := s.chip
     (c.pwr.phase = .off) ∧ (
     (bit c.pwr.wake 1 = true ∨ bit c.pwr.wake 3 = true))) := by
  refine ⟨?_, ?_, ?_, ?_, ?_, ?_, ?_, ?_, ?_, ?_, ?_, ?_, ?_, ?_, ?_, ?_⟩ <;> dsimp only <;> decide +kernel

/-- Witnesses of the hypotheses of Obligations.LowPowerResults (part 2). -/
theorem meets_LowPowerResults_2 :
    (
     let s : State := st (chip)
     let c := s.chip
     (c.pwr.phase ≠ .standby ∧ c.pwr.phase ≠ .off ∨ c.pwr.wake = 0 ∨ (c.pwr.phase = .off ∧ bit c.pwr.wake 1 = false ∧ bit c.pwr.wake 3 = false))) := by
  dsimp only <;> decide +kernel

/-- Witnesses of the hypotheses of Obligations.LinkTrainingResults (part 1). -/
theorem meets_LinkTrainingResults_1 :
    (
     let p : Fin 2 := 0
     let s : State := st (chip)
     let c := s.chip
     let q := p.val
     let st := c.get (Reg.LINK_STAT_STATE q)
     (c.mayTrain q = true) ∧ (
     (st = 0))) ∧
    (
     let p : Fin 2 := 0
     let s : State := st (chip [(Reg.LINK_STAT_STATE 0, 3)])
     let c := s.chip
     let q := p.val
     let st := c.get (Reg.LINK_STAT_STATE q)
     (c.mayTrain q = false ∨ st ≠ 0)) ∧
    (
     let p : Fin 2 := 0
     let obs : TrainObs := ⟨1, 0, false, 0, 0, 0, 0, 1, 5, 1, 1⟩
     let s : State := st (chip [(Reg.LINK_STAT_STATE 0, 2)])
     let c := s.chip
     let q := p.val
     let st := c.get (Reg.LINK_STAT_STATE q)
     (c.mayTrain q = true) ∧ (
     (st = 2) ∧ (
     (obs.lanes ≠ 0)))) ∧
    (
     let p : Fin 2 := 0
     let obs : TrainObs := ⟨0, 0, false, 0, 0, 0, 0, 1, 5, 1, 1⟩
     let s : State := st (chip [(Reg.LINK_STAT_STATE 0, 2)])
     let c := s.chip
     let q := p.val
     let st := c.get (Reg.LINK_STAT_STATE q)
     (c.mayTrain q = true) ∧ (
     (st = 2) ∧ (
     (obs.lanes = 0)))) ∧
    (
     let p : Fin 2 := 0
     let s : State := st (chip [(Reg.LINK_STAT_STATE 0, 3)])
     let c := s.chip
     let q := p.val
     let st := c.get (Reg.LINK_STAT_STATE q)
     (c.mayTrain q = true) ∧ (
     (st = 3))) ∧
    (
     let p : Fin 2 := 0
     let obs : TrainObs := ⟨2, 0, false, 0, 0, 0, 0, 3, 5, 1, 1⟩
     let s : State := st (chip [(Reg.LINK_STAT_STATE 0, 4)])
     let c := s.chip
     let q := p.val
     let st := c.get (Reg.LINK_STAT_STATE q)
     let x := c.gl q
     (c.mayTrain q = true) ∧ (
     (st = 4) ∧ (
     let use := x.lanes &&& obs.usable.toNat
     (use = 0)))) ∧
    (
     let p : Fin 2 := 0
     let obs : TrainObs := ⟨1, 0, false, 0, 0, 0, 0, 3, 5, 1, 1⟩
     let s : State := st ({ chip [(Reg.LINK_STAT_STATE 0, 4)] with pwr := { coreRst := false, fieldRst := false }, lnk := [(0, { lanes := 1 })] })
     let c := s.chip
     let q := p.val
     let st := c.get (Reg.LINK_STAT_STATE q)
     let x := c.gl q
     (c.mayTrain q = true) ∧ (
     (st = 4) ∧ (
     let use := x.lanes &&& obs.usable.toNat
     (use ≠ 0)))) ∧
    (
     let p : Fin 2 := 0
     let s : State := st (chip [(Reg.LINK_STAT_STATE 0, 5)])
     let c := s.chip
     let q := p.val
     let st := c.get (Reg.LINK_STAT_STATE q)
     (c.mayTrain q = true) ∧ (
     (st = 5))) ∧
    (
     let p : Fin 2 := 0
     let s : State := st (chip)
     let c := s.chip
     let q := p.val
     let st := c.get (Reg.LINK_STAT_STATE q)
     (c.mayTrain q = true) ∧ (
     (st < 2 ∨ 5 < st))) ∧
    (
     let p : Fin 2 := 0
     let s : State := st (chip [(Reg.LINK_STAT_EN 0, 0)])
     let c := s.chip
     let q := p.val
     (c.mayTrain q = false)) ∧
    (
     let p : Fin 2 := 0
     let s : State := st (chip [(Reg.LINK_STAT_STATE 0, 3)])
     let c := s.chip
     let q := p.val
     let st := c.get (Reg.LINK_STAT_STATE q)
     (c.coreUp = true) ∧ (
     (2 ≤ st) ∧ (
     (st ≤ 6)))) ∧
    (
     let p : Fin 2 := 0
     let s : State := st (chip)
     let c := s.chip
     let q := p.val
     let st := c.get (Reg.LINK_STAT_STATE q)
     (st < 2 ∨ 6 < st)) ∧
    (
     let p : Fin 2 := 0
     let s : State := st (chip [(Reg.LINK_STAT_STATE 0, 1)])
     let c := s.chip
     let q := p.val
     let st := c.get (Reg.LINK_STAT_STATE q)
     (c.coreUp = true) ∧ (
     (st = 1))) ∧
    (
     let p : Fin 2 := 0
     let s : State := st (chip)
     let c := s.chip
     let q := p.val
     let st := c.get (Reg.LINK_STAT_STATE q)
     (st ≠ 1)) ∧
    (
     let p : Fin 2 := 0
     let outRes : BitVec 16 := 100
     let retRes : BitVec 16 := 3
     let s : State := st (chip [(Reg.CLK_RESID_OUT, 5), (Reg.CLK_RESID_RET, 48), (Reg.LINK_STAT_ROLE 0, 3), (Reg.LINK_STAT_STATE 0, 6), (Reg.LINK_TRAIN_CNT 0, 4)])
     let c := s.chip
     let q := p.val
     let st := c.get (Reg.LINK_STAT_STATE q)
     (c.mayTrain q = true) ∧ (
     (st = 6) ∧ (
     let t := (((c.put (Reg.LINK_STAT_STATE q) 7).inc (Reg.LINK_TRAIN_CNT q)).put Reg.CLK_RESID_OUT outRes.toNat).put Reg.CLK_RESID_RET retRes.toNat
     let u := if t.isHead = true ∧ t.linkTailward (1 - q) = false then t.put (Reg.LINK_STAT_ROLE q) 1 else t
     let v := (u.put (Reg.LINK_STAT_SENIOR q) (b2n (u.senior q))).fire 48 (detail q 0)
     (v.linkTailward q = true ∨ v.isHead = true)))) ∧
    (
     let p : Fin 2 := 0
     let outRes : BitVec 16 := 0
     let retRes : BitVec 16 := 52
     let s : State := st ({ chip [(Reg.CLK_RESID_RET, 7), (Reg.LINK_STAT_SENIOR 0, 7), (Reg.LINK_STAT_STATE 0, 6), (Reg.CLK_STATUS_EN, 1), (Reg.LINK_PARTNER_LO 0, 7), (Reg.CHAIN_STAT_DETACHED, 2)] with pwr := { coreRst := false, fieldRst := false }, lnk := [(9, { rank := 0 })] })
     let c := s.chip
     let q := p.val
     let st := c.get (Reg.LINK_STAT_STATE q)
     (c.mayTrain q = true) ∧ (
     (st = 6) ∧ (
     let t := (((c.put (Reg.LINK_STAT_STATE q) 7).inc (Reg.LINK_TRAIN_CNT q)).put Reg.CLK_RESID_OUT outRes.toNat).put Reg.CLK_RESID_RET retRes.toNat
     let u := if t.isHead = true ∧ t.linkTailward (1 - q) = false then t.put (Reg.LINK_STAT_ROLE q) 1 else t
     let v := (u.put (Reg.LINK_STAT_SENIOR q) (b2n (u.senior q))).fire 48 (detail q 0)
     (v.linkTailward q = false) ∧ (
     (v.isHead = false) ∧ (
     (v.headPort = some q)))))) := by
  refine ⟨?_, ?_, ?_, ?_, ?_, ?_, ?_, ?_, ?_, ?_, ?_, ?_, ?_, ?_, ?_, ?_⟩ <;> dsimp only <;> decide +kernel

/-- Witnesses of the hypotheses of Obligations.LinkTrainingResults (part 2). -/
theorem meets_LinkTrainingResults_2 :
    (
     let p : Fin 2 := 0
     let outRes : BitVec 16 := 22534
     let retRes : BitVec 16 := 7
     let s : State := st (chip [(Reg.LINK_STAT_STATE 0, 6)])
     let c := s.chip
     let q := p.val
     let st := c.get (Reg.LINK_STAT_STATE q)
     (c.mayTrain q = true) ∧ (
     (st = 6) ∧ (
     let t := (((c.put (Reg.LINK_STAT_STATE q) 7).inc (Reg.LINK_TRAIN_CNT q)).put Reg.CLK_RESID_OUT outRes.toNat).put Reg.CLK_RESID_RET retRes.toNat
     let u := if t.isHead = true ∧ t.linkTailward (1 - q) = false then t.put (Reg.LINK_STAT_ROLE q) 1 else t
     let v := (u.put (Reg.LINK_STAT_SENIOR q) (b2n (u.senior q))).fire 48 (detail q 0)
     (v.linkTailward q = false) ∧ (
     (v.isHead = false) ∧ (
     (v.headPort ≠ some q)))))) ∧
    (
     let p : Fin 2 := 0
     let s : State := st (chip)
     let c := s.chip
     let q := p.val
     let st := c.get (Reg.LINK_STAT_STATE q)
     (c.mayTrain q = false ∨ st ≠ 6)) ∧
    (
     let p : Fin 2 := 0
     let s : State := st (chip [(Reg.LINK_STAT_STATE 0, 7), (Reg.LINK_STAT_WIDTH 0, 2)])
     let c := s.chip
     let q := p.val
     let st := c.get (Reg.LINK_STAT_STATE q)
     (c.coreUp = true) ∧ (
     (st = 7) ∧ (
     (c.flag (Reg.LINK_MARGIN_BUSY q) = false) ∧ (
     (c.get (Reg.LINK_STAT_WIDTH q) = 2))))) ∧
    (
     let p : Fin 2 := 0
     let lane : Fin 2 := 0
     let s : State := st (chip [(Reg.LINK_MARGIN_BUSY 0, 2), (Reg.LINK_STAT_STATE 0, 7)])
     let c := s.chip
     let q := p.val
     let st := c.get (Reg.LINK_STAT_STATE q)
     (c.coreUp = true) ∧ (
     (st = 7) ∧ (
     (c.flag (Reg.LINK_MARGIN_BUSY q) = false) ∧ (
     (c.get (Reg.LINK_STAT_WIDTH q) ≠ 2) ∧ (
     (lane = 0)))))) ∧
    (
     let p : Fin 2 := 0
     let lane : Fin 2 := 1
     let s : State := st (chip [(Reg.LINK_STAT_STATE 0, 7)])
     let c := s.chip
     let q := p.val
     let st := c.get (Reg.LINK_STAT_STATE q)
     let x := c.gl q
     (c.coreUp = true) ∧ (
     (st = 7) ∧ (
     (c.flag (Reg.LINK_MARGIN_BUSY q) = false) ∧ (
     (c.get (Reg.LINK_STAT_WIDTH q) ≠ 2) ∧ (
     (lane = 1) ∧ (
     (x.fixed = none) ∧ (
     (c.flag (Reg.LINK_STAT_REQ_BUSY q) = false)))))))) ∧
    (
     let p : Fin 2 := 0
     let s : State := st (chip)
     let c := s.chip
     let q := p.val
     let st := c.get (Reg.LINK_STAT_STATE q)
     (st ≠ 7)) ∧
    (
     let r : Requester := .engine 0
     let p : Fin 2 := 0
     let s : State := st (chip)
     let c := s.chip
     let q := p.val
     (c.takes r (Reg.LINK_CTRL_ENABLE q).addr = true) ∧ (
     (c.active (41 + q) = true))) ∧
    (
     let r : Requester := .mgmt
     let p : Fin 2 := 0
     let s : State := st (chip [(Reg.FLASK_FSTAT_STATE 41, 1)])
     let c := s.chip
     let q := p.val
     (c.takes r (Reg.LINK_CTRL_ENABLE q).addr = true) ∧ (
     (c.active (41 + q) = false))) ∧
    (
     let r : Requester := .engine 0
     let p : Fin 2 := 0
     let s : State := st (chip)
     let c := s.chip
     let q := p.val
     (c.takes r (Reg.LINK_CTRL_DISABLE q).addr = true) ∧ (
     (c.active (41 + q) = true))) ∧
    (
     let r : Requester := .mgmt
     let p : Fin 2 := 0
     let s : State := st (chip [(Reg.FLASK_FSTAT_STATE 41, 1)])
     let c := s.chip
     let q := p.val
     (c.takes r (Reg.LINK_CTRL_DISABLE q).addr = true) ∧ (
     (c.active (41 + q) = false))) := by
  refine ⟨?_, ?_, ?_, ?_, ?_, ?_, ?_, ?_, ?_, ?_⟩ <;> dsimp only <;> decide +kernel

/-- Witnesses of the hypotheses of Obligations.LeavingActiveBreaksTheLink. -/
theorem meets_LeavingActiveBreaksTheLink :
    (
     let c : Chip := chip
     let p : Fin 2 := 0
     let st : Nat := 0
     (st < 7) ∧ (
     (c.coreUp = true) ∧ (
     (c.flag (Reg.LINK_STAT_REQ_BUSY p.val) = false) ∧ (
     (c.flag (Reg.LINK_MARGIN_BUSY p.val) = false) ∧ (
     (c.test.run = none) ∧ (
     let q := p.val
     (c.linkActive q = false))))))) ∧
    (
     let c : Chip := chip [(Reg.LINK_STAT_STATE 0, 7), (Reg.LINK_STAT_ROLE 0, 7)]
     let p : Fin 2 := 0
     let st : Nat := 0
     (st < 7) ∧ (
     (c.coreUp = true) ∧ (
     (c.flag (Reg.LINK_STAT_REQ_BUSY p.val) = false) ∧ (
     (c.flag (Reg.LINK_MARGIN_BUSY p.val) = false) ∧ (
     (c.test.run = none) ∧ (
     let q := p.val
     (c.linkActive q = true) ∧ (
     (c.linkTailward q = true)))))))) ∧
    (
     let c : Chip := chip [(Reg.LINK_STAT_STATE 0, 7)]
     let p : Fin 2 := 0
     let st : Nat := 0
     (st < 7) ∧ (
     (c.coreUp = true) ∧ (
     (c.flag (Reg.LINK_STAT_REQ_BUSY p.val) = false) ∧ (
     (c.flag (Reg.LINK_MARGIN_BUSY p.val) = false) ∧ (
     (c.test.run = none) ∧ (
     let q := p.val
     (c.linkActive q = true) ∧ (
     (c.linkTailward q = false)))))))) := by
  refine ⟨?_, ?_, ?_⟩ <;> dsimp only <;> decide +kernel

/-- Witnesses of the hypotheses of Obligations.LinkRequestResults (part 1). -/
theorem meets_LinkRequestResults_1 :
    (
     let r : Requester := .mgmt
     let p : Fin 2 := 0
     let s : State := st (chip)
     let c := s.chip
     let q := p.val
     let busy := c.flag (Reg.LINK_STAT_REQ_BUSY q)
     let a := (Reg.LINK_CTRL_RETRAIN q).addr
     (c.takes r a = true) ∧ (
     (busy = false) ∧ (
     (c.active (41 + q) = true)))) ∧
    (
     let r : Requester := .engine 0
     let p : Fin 2 := 0
     let s : State := st (chip [(Reg.LINK_STAT_REQ_BUSY 0, 7)])
     let c := s.chip
     let q := p.val
     let busy := c.flag (Reg.LINK_STAT_REQ_BUSY q)
     let a := (Reg.LINK_CTRL_RETRAIN q).addr
     (c.takes r a = true) ∧ (
     (busy = true ∨ c.active (41 + q) = false))) ∧
    (
     let r : Requester := .gate
     let p : Fin 2 := 0
     let w : BitVec 2 := 1
     let s : State := st (chip [(Reg.LINK_STAT_REQ_BUSY 0, 5)])
     let c := s.chip
     let q := p.val
     let busy := c.flag (Reg.LINK_STAT_REQ_BUSY q)
     let aw := (Reg.LINK_CTRL_WIDTH q).addr
     (c.takes r aw = true) ∧ (
     (busy = true ∨ c.active (41 + q) = false ∨ (w = 2 ∧ c.testing 2 q = true)) ∧ (
     (w = 1 ∨ w = 2)))) ∧
    (
     let r : Requester := .mgmt
     let p : Fin 2 := 0
     let w : BitVec 2 := 1
     let s : State := st (chip)
     let c := s.chip
     let q := p.val
     let busy := c.flag (Reg.LINK_STAT_REQ_BUSY q)
     let aw := (Reg.LINK_CTRL_WIDTH q).addr
     (c.takes r aw = true) ∧ (
     (busy = false) ∧ (
     (c.active (41 + q) = true) ∧ (
     (w = 1 ∨ (w = 2 ∧ c.testing 2 q = false)))))) ∧
    (
     let r : Requester := .engine 0
     let p : Fin 2 := 0
     let w : BitVec 2 := 0
     let s : State := st (chip)
     let c := s.chip
     let q := p.val
     let aw := (Reg.LINK_CTRL_WIDTH q).addr
     (c.takes r aw = true) ∧ (
     (w = 0 ∨ w = 3))) ∧
    (
     let p : Fin 2 := 0
     let body : List (BitVec 8) := withCrc [3, 7, 0, 0, 0, 0, 0, 16, 7, 7, 8, 255, 0, 3, 0, 7, 0, 0]
     let s : State := st ({ chip [(Reg.LINK_STAT_STATE 0, 65535), (Reg.CLK_STATUS_EN, 7), (Reg.LINK_PARTNER_LO 1, 20), (Reg.LINK_PARTNER_HI 1, 4), (Reg.CHAIN_STAT_ROLE, 2), (Reg.LINK_STAT_ROLE 0, 20), (Reg.LINK_STAT_REQ_BUSY 0, 7)] with pwr := { coreRst := false, fieldRst := false }, lnk := [(0, { req := 31, fixed := none })] })
     let c := s.chip
     let q := p.val
     let act := c.get (Reg.LINK_STAT_STATE q) = 7
     let good := body.length == 20 && leNat (body.drop 18) == (crc16 0xFFFF (body.take 18)).toNat
     let flags := leNat ((body.drop 13).take 1)
     let rank := leNat ((body.drop 3).take 1) % 4
     let heard := c.rankHeard q rank
     let inFrame := c.frameOpen q
     (c.coreUp = true) ∧ (
     (act) ∧ (
     (inFrame = false) ∧ (
     (good = true) ∧ (
     ((heard.asking q = true → heard.senior q = false)) ∧ (
     (bit flags 1 = true))))))) ∧
    (
     let p : Fin 2 := 0
     let body : List (BitVec 8) := withCrc [0, 4, 1, 3, 2, 3, 0, 0, 8, 8, 16, 0, 0, 4, 0, 3, 3, 3]
     let s : State := st (member (chip [(Reg.LINK_STAT_STATE 14, 0)]))
     let c := s.chip
     let q := p.val
     let act := c.get (Reg.LINK_STAT_STATE q) = 7
     let ended (d : Chip) (res : Nat) : Chip :=
     ((d.setGl q { d.gl q with req := 0, lane1 := false }).put (Reg.LINK_STAT_REQ_RESULT q) res).put (Reg.LINK_STAT_REQ_BUSY q) 0
     let good := body.length == 20 && leNat (body.drop 18) == (crc16 0xFFFF (body.take 18)).toNat
     let flags := leNat ((body.drop 13).take 1)
     let wAsk := leNat ((body.drop 2).take 1) % 4
     let cAsk := leNat ((body.drop 14).take 4)
     let rank := leNat ((body.drop 3).take 1) % 4
     let heard := c.rankHeard q rank
     let inFrame := c.frameOpen q
     (c.coreUp = true) ∧ (
     (act) ∧ (
     (inFrame = false) ∧ (
     (good = true) ∧ (
     ((heard.asking q = true → heard.senior q = false)) ∧ (
     let t := ((ended heard 2).inc (Reg.LINK_WITHDRAW_CNT q)).fire 50 (detail q 0)
     let own := if heard.asking q = true then (if (t.gl q).byNode = true then t.setGl q { t.gl q with again := true } else t) else heard
     (bit flags 1 = false) ∧ (
     (bit flags 2 = true) ∧ (
     (heard.testing 2 q = false) ∧ (
     (wAsk = 1 ∨ wAsk = 2) ∧ (
     (later cAsk (own.get Reg.CLK_CYC_NUM) = true))))))))))) ∧
    (
     let p : Fin 2 := 0
     let body : List (BitVec 8) := withCrc [0, 0, 0, 2, 0, 0, 0, 0, 0, 0, 0, 0, 0, 4, 9, 0, 0, 0]
     let s : State := st (chip [(Reg.LINK_STAT_STATE 0, 7)])
     let c := s.chip
     let q := p.val
     let act := c.get (Reg.LINK_STAT_STATE q) = 7
     let ended (d : Chip) (res : Nat) : Chip :=
     ((d.setGl q { d.gl q with req := 0, lane1 := false }).put (Reg.LINK_STAT_REQ_RESULT q) res).put (Reg.LINK_STAT_REQ_BUSY q) 0
     let good := body.length == 20 && leNat (body.drop 18) == (crc16 0xFFFF (body.take 18)).toNat
     let flags := leNat ((body.drop 13).take 1)
     let wAsk := leNat ((body.drop 2).take 1) % 4
     let cAsk := leNat ((body.drop 14).take 4)
     let rank := leNat ((body.drop 3).take 1) % 4
     let heard := c.rankHeard q rank
     let inFrame := c.frameOpen q
     (c.coreUp = true) ∧ (
     (act) ∧ (
     (inFrame = false) ∧ (
     (good = true) ∧ (
     ((heard.asking q = true → heard.senior q = false)) ∧ (
     let t := ((ended heard 2).inc (Reg.LINK_WITHDRAW_CNT q)).fire 50 (detail q 0)
     let own := if heard.asking q = true then (if (t.gl q).byNode = true then t.setGl q { t.gl q with again := true } else t) else heard
     (bit flags 1 = false) ∧ (
     (bit flags 2 = true) ∧ (
     (heard.testing 2 q = false) ∧ (
     ((wAsk ≠ 1 ∧ wAsk ≠ 2) ∨ later cAsk (own.get Reg.CLK_CYC_NUM) = false)))))))))) ∧
    (
     let p : Fin 2 := 0
     let body : List (BitVec 8) := withCrc [255, 4, 0, 16, 1, 255, 3, 16, 3, 16, 3, 1, 0, 0, 255, 3, 2, 0]
     let s : State := st ({ chip [(Reg.CLK_CYC_NUM, 0), (Reg.LINK_STAT_STATE 0, 7)] with pwr := { coreRst := false, fieldRst := false }, lnk := [(1, { fixed := some ((16, 16)) })] })
     let c := s.chip
     let q := p.val
     let act := c.get (Reg.LINK_STAT_STATE q) = 7
     let good := body.length == 20 && leNat (body.drop 18) == (crc16 0xFFFF (body.take 18)).toNat
     let flags := leNat ((body.drop 13).take 1)
     let rank := leNat ((body.drop 3).take 1) % 4
     let heard := c.rankHeard q rank
     let inFrame := c.frameOpen q
     (c.coreUp = true) ∧ (
     (act) ∧ (
     (inFrame = false) ∧ (
     (good = true) ∧ (
     ((heard.asking q = true → heard.senior q = false)) ∧ (
     (bit flags 1 = false) ∧ (
     (bit flags 2 = false ∨ heard.testing 2 q = true)))))))) ∧
    (
     let p : Fin 2 := 0
     let body : List (BitVec 8) := withCrc (List.replicate 18 0)
     let s : State := st ((chip [(Reg.CHAIN_STAT_ROLE, 1), (Reg.LINK_STAT_STATE 0, 7), (Reg.LINK_STAT_REQ_BUSY 0, 1)]).setGl 0 { req := 16 })
     let c := s.chip
     let q := p.val
     let act := c.get (Reg.LINK_STAT_STATE q) = 7
     let good := body.length == 20 && leNat (body.drop 18) == (crc16 0xFFFF (body.take 18)).toNat
     let rank := leNat ((body.drop 3).take 1) % 4
     let heard := c.rankHeard q rank
     let inFrame := c.frameOpen q
     (c.coreUp = true) ∧ (
     (act) ∧ (
     (inFrame = false) ∧ (
     (good = true) ∧ (
     (heard.asking q = true) ∧ (
     (heard.senior q = true))))))) ∧
    (
     let p : Fin 2 := 0
     let s : State := st (midFrame chip)
     let c := s.chip
     let q := p.val
     let act := c.get (Reg.LINK_STAT_STATE q) = 7
     let inFrame := c.frameOpen q
     (c.coreUp = true) ∧ (
     (act) ∧ (
     (inFrame = true)))) ∧
    (
     let p : Fin 2 := 0
     let body : List (BitVec 8) := []
     let s : State := st (chip [(Reg.LINK_STAT_STATE 0, 7)])
     let c := s.chip
     let q := p.val
     let act := c.get (Reg.LINK_STAT_STATE q) = 7
     let good := body.length == 20 && leNat (body.drop 18) == (crc16 0xFFFF (body.take 18)).toNat
     let inFrame := c.frameOpen q
     (c.coreUp = true) ∧ (
     (act) ∧ (
     (inFrame = false) ∧ (
     (good = false))))) ∧
    (
     let p : Fin 2 := 0
     let s : State := st (chip)
     let c := s.chip
     let q := p.val
     let act := c.get (Reg.LINK_STAT_STATE q) = 7
     (¬act)) ∧
    (
     let p : Fin 2 := 0
     let s : State := st ({ chip [(Reg.LINK_STAT_STATE 0, 7), (Reg.LINK_STAT_REQ_BUSY 0, 5)] with pwr := { coreRst := false, fieldRst := false }, lnk := [(0, { req := 1 })] })
     let c := s.chip
     let q := p.val
     let x := c.gl q
     let act := c.get (Reg.LINK_STAT_STATE q) = 7
     (c.coreUp = true) ∧ (
     (c.asking q = true) ∧ (
     (act) ∧ (
     (x.req = 1))))) ∧
    (
     let p : Fin 2 := 0
     let s : State := st ({ chip [(Reg.LINK_STAT_STATE 0, 7), (Reg.LINK_STAT_REQ_BUSY 0, 7)] with pwr := { coreRst := false, fieldRst := false }, lnk := [(0, { req := 31, fixed := none })] })
     let c := s.chip
     let q := p.val
     let x := c.gl q
     let act := c.get (Reg.LINK_STAT_STATE q) = 7
     (c.coreUp = true) ∧ (
     (c.asking q = true) ∧ (
     (act) ∧ (
     (x.req ≠ 1))))) ∧
    (
     let p : Fin 2 := 0
     let s : State := st (chip)
     let c := s.chip
     let q := p.val
     (c.asking q = false)) := by
  refine ⟨?_, ?_, ?_, ?_, ?_, ?_, ?_, ?_, ?_, ?_, ?_, ?_, ?_, ?_, ?_, ?_⟩ <;> dsimp only <;> decide +kernel

/-- Witnesses of the hypotheses of Obligations.LinkRequestResults (part 2). -/
theorem meets_LinkRequestResults_2 :
    (
     let p : Fin 2 := 0
     let wd : Nat := 2
     let cy : Nat := 0
     let s : State := st ((chip [(Reg.LINK_STAT_STATE 0, 7), (Reg.LINK_STAT_WIDTH 0, 1)]).setGl 0 { fixed := some (2, 0), lane1 := true })
     let c := s.chip
     let q := p.val
     let x := c.gl q
     let act := c.get (Reg.LINK_STAT_STATE q) = 7
     let busy := c.flag (Reg.LINK_STAT_REQ_BUSY q)
     (c.coreUp = true) ∧ (
     (act) ∧ (
     (x.fixed = some (wd, cy)) ∧ (
     (later cy (c.get Reg.CLK_CYC_NUM) = false) ∧ (
     (busy = false) ∧ (
     (wd = 2) ∧ (
     (c.get (Reg.LINK_STAT_WIDTH q) = 1) ∧ (
     (x.lane1 = true))))))))) ∧
    (
     let p : Fin 2 := 0
     let wd : Nat := 2
     let cy : Nat := 0
     let s : State := st ((chip [(Reg.LINK_STAT_STATE 0, 7), (Reg.LINK_STAT_WIDTH 0, 1)]).setGl 0 { fixed := some (2, 0) })
     let c := s.chip
     let q := p.val
     let x := c.gl q
     let act := c.get (Reg.LINK_STAT_STATE q) = 7
     let busy := c.flag (Reg.LINK_STAT_REQ_BUSY q)
     (c.coreUp = true) ∧ (
     (act) ∧ (
     (x.fixed = some (wd, cy)) ∧ (
     (later cy (c.get Reg.CLK_CYC_NUM) = false) ∧ (
     (busy = false) ∧ (
     (wd = 2) ∧ (
     (c.get (Reg.LINK_STAT_WIDTH q) = 1) ∧ (
     (x.lane1 = false))))))))) ∧
    (
     let p : Fin 2 := 0
     let wd : Nat := 1
     let cy : Nat := 1
     let s : State := st ({ chip [(Reg.CLK_CYC_NUM, 3), (Reg.LINK_STAT_STATE 0, 7), (Reg.LINK_STAT_WIDTH 0, 2)] with pwr := { coreRst := false, fieldRst := false }, lnk := [(0, { fixed := some ((1, 1)), scan := 2 })] })
     let c := s.chip
     let q := p.val
     let x := c.gl q
     let act := c.get (Reg.LINK_STAT_STATE q) = 7
     let busy := c.flag (Reg.LINK_STAT_REQ_BUSY q)
     (c.coreUp = true) ∧ (
     (act) ∧ (
     (x.fixed = some (wd, cy)) ∧ (
     (later cy (c.get Reg.CLK_CYC_NUM) = false) ∧ (
     (busy = false) ∧ (
     (wd = 1) ∧ (
     (c.get (Reg.LINK_STAT_WIDTH q) = 2) ∧ (
     (x.scan ≠ 1))))))))) ∧
    (
     let p : Fin 2 := 0
     let s : State := st (chip)
     let c := s.chip
     let q := p.val
     let x := c.gl q
     (x.fixed = none)) ∧
    (
     let p : Fin 2 := 0
     let cy : Nat := 0
     let s : State := st ({ chip [(Reg.LINK_STAT_STATE 0, 7), (Reg.LINK_STAT_WIDTH 0, 5), (Reg.LINK_STAT_REQ_BUSY 0, 7)] with pwr := { coreRst := false, fieldRst := false }, lnk := [(0, { fixed := some ((2, 0)) })] })
     let c := s.chip
     let q := p.val
     let x := c.gl q
     let act := c.get (Reg.LINK_STAT_STATE q) = 7
     (c.coreUp = true) ∧ (
     (act) ∧ (
     (c.get (Reg.LINK_STAT_WIDTH q) = 1) ∧ (
     (x.fixed = some (2, cy) ∨ (c.asking q = true ∧ x.req = 2 ∧ x.reqW = 2)))))) ∧
    (
     let p : Fin 2 := 0
     let s : State := st (chip [(Reg.LINK_STAT_STATE 0, 7), (Reg.LINK_STAT_WIDTH 0, 5)])
     let c := s.chip
     let q := p.val
     let x := c.gl q
     let act := c.get (Reg.LINK_STAT_STATE q) = 7
     (c.coreUp = true) ∧ (
     (act) ∧ (
     (c.get (Reg.LINK_STAT_WIDTH q) = 1) ∧ (
     (x.fixed = none) ∧ (
     (c.asking q = false)))))) ∧
    (
     let p : Fin 2 := 0
     let s : State := st ({ chip [(Reg.LINK_STAT_STATE 0, 7)] with pwr := { coreRst := false, fieldRst := false }, lnk := [(0, { again := true })] })
     let c := s.chip
     let q := p.val
     let x := c.gl q
     let act := c.get (Reg.LINK_STAT_STATE q) = 7
     let busy := c.flag (Reg.LINK_STAT_REQ_BUSY q)
     (c.coreUp = true) ∧ (
     (act) ∧ (
     (x.again = true) ∧ (
     (busy = false) ∧ (
     (x.fixed = none)))))) ∧
    (
     let p : Fin 2 := 0
     let s : State := st (chip)
     let c := s.chip
     let q := p.val
     let x := c.gl q
     let busy := c.flag (Reg.LINK_STAT_REQ_BUSY q)
     (x.again = false ∨ busy = true)) ∧
    (
     let p : Fin 2 := 0
     let n : Nat := 8
     let s : State := st (chip [(Reg.LINK_STAT_REQ_BUSY 0, 2), (Reg.LINK_STAT_STATE 0, 7)] [(Reg.LINK_POLICY 0, 3)])
     let c := s.chip
     let q := p.val
     let act := c.get (Reg.LINK_STAT_STATE q) = 7
     let busy := c.flag (Reg.LINK_STAT_REQ_BUSY q)
     (c.coreUp = true) ∧ (
     (c.wk (Reg.LINK_POLICY q) ≠ 0) ∧ (
     (c.wk (Reg.LINK_POLICY q) < n) ∧ (
     (act) ∧ (
     (busy = false)))))) ∧
    (
     let p : Fin 2 := 0
     let n : Nat := 0
     let s : State := st (chip [] [(Reg.LINK_POLICY 0, 3)])
     let c := s.chip
     let q := p.val
     let act := c.get (Reg.LINK_STAT_STATE q) = 7
     let busy := c.flag (Reg.LINK_STAT_REQ_BUSY q)
     (c.coreUp = true) ∧ (
     (c.wk (Reg.LINK_POLICY q) = 0 ∨ n ≤ c.wk (Reg.LINK_POLICY q) ∨ ¬act ∨ busy = true))) := by
  refine ⟨?_, ?_, ?_, ?_, ?_, ?_, ?_, ?_, ?_, ?_⟩ <;> dsimp only <;> decide +kernel

/-- Witnesses of the hypotheses of Obligations.LinkAlarmSleepResults (part 1). -/
theorem meets_LinkAlarmSleepResults_1 :
    (
     let p : Fin 2 := 0
     let body : List (BitVec 8) := withCrc [255, 0]
     let s : State := st (chip [(Reg.LINK_STAT_STATE 0, 15), (Reg.CHAIN_ADDR_RING, 8)])
     let c := s.chip
     let q := p.val
     let serves := c.coreUp = true ∧ c.get (Reg.LINK_STAT_STATE q) = 7 ∧ bit c.chain.join q = false
     let v := leNat (body.take 2)
     let good (k : Nat) : Bool := body.length == k && leNat (body.drop (k - 2)) == (crc16 0xFFFF (body.take (k - 2))).toNat
     let inFrame := c.frameOpen q
     let passed := match c.passPort q with | some o => c.setGl o { c.gl o with almOut := body } | none => c
     let taken := ((passed.put (Reg.LINK_ALM_LAST q) v).inc (Reg.LINK_ALM_CNT q)).fire 51 (v + 65536 * q)
     (serves) ∧ (
     (inFrame = false) ∧ (
     (good 4 = true) ∧ (
     (taken.isHead = false ∨ taken.clk.sentCyc = false ∨ bits v 15 12 ≠ 1))))) ∧
    (
     let p : Fin 2 := 0
     let body : List (BitVec 8) := withCrc [8, 16]
     let s : State := st ({ chip [(Reg.LINK_ALM_CNT 0, 65536), (Reg.LINK_ALM_LAST 0, 3), (Reg.LINK_STAT_STATE 0, 65535), (Reg.CHAIN_STAT_ROLE, 5), (Reg.CHAIN_STAT_ADDR_VALID, 12), (Reg.CHAIN_ADDR_STATION, 1), (Reg.CHAIN_ADDR_RING, 7)] [(Reg.WIDE_MAP_EN 7, 4), (Reg.WIDE_MAP_STATION 15, 51), (Reg.WIDE_MAP_RING 1, 7)] with clk := { sentCyc := true }, pwr := { coreRst := false, fieldRst := false }, chain := { join := 0 } })
     let c := s.chip
     let q := p.val
     let serves := c.coreUp = true ∧ c.get (Reg.LINK_STAT_STATE q) = 7 ∧ bit c.chain.join q = false
     let v := leNat (body.take 2)
     let good (k : Nat) : Bool := body.length == k && leNat (body.drop (k - 2)) == (crc16 0xFFFF (body.take (k - 2))).toNat
     let inFrame := c.frameOpen q
     let passed := match c.passPort q with | some o => c.setGl o { c.gl o with almOut := body } | none => c
     let taken := ((passed.put (Reg.LINK_ALM_LAST q) v).inc (Reg.LINK_ALM_CNT q)).fire 51 (v + 65536 * q)
     (serves) ∧ (
     (inFrame = false) ∧ (
     (good 4 = true) ∧ (
     (taken.isHead = true) ∧ (
     (taken.clk.sentCyc = true) ∧ (
     (bits v 15 12 = 1))))))) ∧
    (
     let p : Fin 2 := 0
     let s : State := st (midFrame chip)
     let c := s.chip
     let q := p.val
     let serves := c.coreUp = true ∧ c.get (Reg.LINK_STAT_STATE q) = 7 ∧ bit c.chain.join q = false
     let inFrame := c.frameOpen q
     (serves) ∧ (
     (inFrame = true))) ∧
    (
     let p : Fin 2 := 0
     let body : List (BitVec 8) := withCrc [0, 0, 0, 7]
     let s : State := st ({ chip [(Reg.LINK_STAT_STATE 0, 65535), (Reg.CLK_STATUS_EN, 5), (Reg.CHAIN_STAT_ADDR_VALID, 2)] [(Reg.WIDE_MAP_RING 0, 2)] with pwr := { coreRst := false, fieldRst := false }, folded := false })
     let c := s.chip
     let q := p.val
     let serves := c.coreUp = true ∧ c.get (Reg.LINK_STAT_STATE q) = 7 ∧ bit c.chain.join q = false
     let good (k : Nat) : Bool := body.length == k && leNat (body.drop (k - 2)) == (crc16 0xFFFF (body.take (k - 2))).toNat
     let inFrame := c.frameOpen q
     (serves) ∧ (
     (inFrame = false) ∧ (
     (good 4 = false)))) ∧
    (
     let p : Fin 2 := 0
     let s : State := st (chip)
     let c := s.chip
     let q := p.val
     let serves := c.coreUp = true ∧ c.get (Reg.LINK_STAT_STATE q) = 7 ∧ bit c.chain.join q = false
     (¬serves)) ∧
    (
     let p : Fin 2 := 0
     let s : State := st ({ chip [(Reg.LINK_STAT_STATE 0, 7), (Reg.CLK_STATUS_EN, 3), (Reg.CHAIN_ADDR_STATION, 2)] with pwr := { coreRst := false, fieldRst := false }, chain := { join := 8 }, alms := 0 :: 4 :: [] })
     let c := s.chip
     let q := p.val
     let serves := c.coreUp = true ∧ c.get (Reg.LINK_STAT_STATE q) = 7 ∧ bit c.chain.join q = false
     (serves) ∧ (
     let k : Nat := 0
     (c.alms.find? (fun a => c.almPort a == some q) = some k))) ∧
    (
     let p : Fin 2 := 0
     let s : State := st (chip [(Reg.LINK_STAT_STATE 0, 7)])
     let c := s.chip
     let q := p.val
     let serves := c.coreUp = true ∧ c.get (Reg.LINK_STAT_STATE q) = 7 ∧ bit c.chain.join q = false
     (serves) ∧ (
     (c.alms.find? (fun a => c.almPort a == some q) = none))) ∧
    (
     let r : Requester := .gate
     let p : Fin 2 := 0
     let s : State := st (chip [(Reg.LINK_MARGIN_BUSY 1, 4)])
     let c := s.chip
     let q := p.val
     let scan := (Reg.LINK_MARGIN_CTRL_GO q).addr
     (c.takes r scan = true) ∧ (
     (c.flag (Reg.LINK_MARGIN_BUSY 0) = false) ∧ (
     (c.flag (Reg.LINK_MARGIN_BUSY 1) = false)))) ∧
    (
     let r : Requester := .engine 0
     let p : Fin 2 := 0
     let s : State := st (chip [(Reg.LINK_MARGIN_BUSY 0, 7)])
     let c := s.chip
     let q := p.val
     let scan := (Reg.LINK_MARGIN_CTRL_GO q).addr
     (c.takes r scan = true) ∧ (
     (c.flag (Reg.LINK_MARGIN_BUSY 0) = true ∨ c.flag (Reg.LINK_MARGIN_BUSY 1) = true))) ∧
    (
     let p : Fin 2 := 0
     let s : State := st (chip [(Reg.LINK_MARGIN_BUSY 0, 1)])
     let c := s.chip
     let q := p.val
     (c.coreUp = true) ∧ (
     (c.flag (Reg.LINK_MARGIN_BUSY q) = true) ∧ (
     (c.flag Reg.BKG_STAT_MARGIN_RUN = false)))) ∧
    (
     let p : Fin 2 := 0
     let s : State := st (chip)
     let c := s.chip
     let q := p.val
     (c.flag (Reg.LINK_MARGIN_BUSY q) = false)) ∧
    (
     let r : Requester := .mgmt
     let lead : BitVec 4 := 3
     let s : State := st (chip [(Reg.CHAIN_STAT_ROLE, 1), (Reg.FLASK_FSTAT_STATE 0, 1)])
     let c := s.chip
     (c.takes r Reg.CHAIN_SLEEP_GO.addr = true) ∧ (
     (c.isHead = true) ∧ (
     (2 ≤ lead.toNat) ∧ (
     (c.chain.sleep = none))))) ∧
    (
     let r : Requester := .engine 0
     let lead : BitVec 4 := 5
     let s : State := st (chip)
     let c := s.chip
     (c.takes r Reg.CHAIN_SLEEP_GO.addr = true) ∧ (
     (c.isHead = false ∨ lead.toNat < 2 ∨ c.chain.sleep ≠ none))) ∧
    (
     let r : Requester := .engine 0
     let cycle : BitVec 32 := 1794732421
     let s : State := st (chip)
     let c := s.chip
     (c.takes r Reg.CHAIN_SLEEP_PROP.addr = true) ∧ (
     (cycle ≠ 0) ∧ (
     (c.sleepRefuses cycle.toNat = false)))) ∧
    (
     let r : Requester := .mgmt
     let cycle : BitVec 32 := 1
     let s : State := st (chip)
     let c := s.chip
     (c.takes r Reg.CHAIN_SLEEP_PROP.addr = true) ∧ (
     (cycle ≠ 0) ∧ (
     (c.sleepRefuses cycle.toNat = true)))) ∧
    (
     let r : Requester := .mgmt
     let cycle : BitVec 32 := 0
     let s : State := st (chip)
     let c := s.chip
     let st := c.get Reg.CHAIN_SLEEP_STAT_STATE
     (c.takes r Reg.CHAIN_SLEEP_PROP.addr = true) ∧ (
     (cycle = 0) ∧ (
     (st = 0)))) := by
  refine ⟨?_, ?_, ?_, ?_, ?_, ?_, ?_, ?_, ?_, ?_, ?_, ?_, ?_, ?_, ?_, ?_⟩ <;> dsimp only <;> decide +kernel

/-- Witnesses of the hypotheses of Obligations.LinkAlarmSleepResults (part 2). -/
theorem meets_LinkAlarmSleepResults_2 :
    (
     let r : Requester := .gate
     let cycle : BitVec 32 := 0
     let s : State := st (chip [(Reg.CHAIN_SLEEP_STAT_STATE, 3)])
     let c := s.chip
     let st := c.get Reg.CHAIN_SLEEP_STAT_STATE
     (c.takes r Reg.CHAIN_SLEEP_PROP.addr = true) ∧ (
     (cycle = 0) ∧ (
     (st ≠ 0)))) ∧
    (
     let p : Fin 2 := 0
     let body : List (BitVec 8) := withCrc [0, 0, 0, 7]
     let s : State := st (chip [(Reg.LINK_STAT_STATE 0, 65535), (Reg.CLK_STATUS_EN, 5), (Reg.CHAIN_STAT_ADDR_VALID, 2)] [(Reg.WIDE_MAP_RING 0, 2)])
     let c := s.chip
     let q := p.val
     let serves := c.coreUp = true ∧ c.get (Reg.LINK_STAT_STATE q) = 7 ∧ bit c.chain.join q = false
     let good (k : Nat) : Bool := body.length == k && leNat (body.drop (k - 2)) == (crc16 0xFFFF (body.take (k - 2))).toNat
     (serves) ∧ (
     (good 6 = true) ∧ (
     (c.isHead = false) ∧ (
     (c.headPort = some q) ∧ (
     (c.folded = true)))))) ∧
    (
     let p : Fin 2 := 0
     let body : List (BitVec 8) := withCrc [0, 0, 0, 7]
     let s : State := st { regs [(Reg.LINK_STAT_ROLE 1, 1)] (joined chip) with folded := false }
     let c := s.chip
     let q := p.val
     let serves := c.coreUp = true ∧ c.get (Reg.LINK_STAT_STATE q) = 7 ∧ bit c.chain.join q = false
     let good (k : Nat) : Bool := body.length == k && leNat (body.drop (k - 2)) == (crc16 0xFFFF (body.take (k - 2))).toNat
     let cyc := leNat (body.take 4)
     let held := { c with chain := { c.chain with slp := true, slpS := cyc } }
     (serves) ∧ (
     (good 6 = true) ∧ (
     (c.isHead = false) ∧ (
     (c.headPort = some q) ∧ (
     (c.folded = false) ∧ (
     let o : Nat := 1
     (held.tailPort = some o))))))) ∧
    (
     let p : Fin 2 := 0
     let body : List (BitVec 8) := withCrc [0, 0, 0, 7]
     let s : State := st ({ chip [(Reg.LINK_STAT_STATE 0, 65535), (Reg.CLK_STATUS_EN, 5), (Reg.CHAIN_STAT_ADDR_VALID, 2)] [(Reg.WIDE_MAP_RING 0, 2)] with pwr := { coreRst := false, fieldRst := false }, folded := false })
     let c := s.chip
     let q := p.val
     let serves := c.coreUp = true ∧ c.get (Reg.LINK_STAT_STATE q) = 7 ∧ bit c.chain.join q = false
     let good (k : Nat) : Bool := body.length == k && leNat (body.drop (k - 2)) == (crc16 0xFFFF (body.take (k - 2))).toNat
     let cyc := leNat (body.take 4)
     let held := { c with chain := { c.chain with slp := true, slpS := cyc } }
     (serves) ∧ (
     (good 6 = true) ∧ (
     (c.isHead = false) ∧ (
     (c.headPort = some q) ∧ (
     (c.folded = false) ∧ (
     (held.tailPort = none))))))) ∧
    (
     let p : Fin 2 := 0
     let body : List (BitVec 8) := withCrc [0, 0, 0, 7]
     let s : State := st (let c := regs [(Reg.LINK_STAT_ROLE 0, 1)] (joined chip); { c with chain := { c.chain with slp := true, slpS := 0x07000000 } })
     let c := s.chip
     let q := p.val
     let serves := c.coreUp = true ∧ c.get (Reg.LINK_STAT_STATE q) = 7 ∧ bit c.chain.join q = false
     let good (k : Nat) : Bool := body.length == k && leNat (body.drop (k - 2)) == (crc16 0xFFFF (body.take (k - 2))).toNat
     let cyc := leNat (body.take 4)
     let back := c.chain.slp = true ∧ c.chain.slpS = cyc
     (serves) ∧ (
     (good 6 = true) ∧ (
     (c.isHead = false) ∧ (
     (c.headPort ≠ some q) ∧ (
     (back)))))) ∧
    (
     let p : Fin 2 := 0
     let body : List (BitVec 8) := withCrc [0, 0, 0, 7]
     let s : State := st (let c := chip [(Reg.CHAIN_STAT_ROLE, 1), (Reg.LINK_STAT_ROLE 0, 1), (Reg.LINK_STAT_STATE 0, 7)]; { c with chain := { c.chain with slp := true, slpS := 0x07000000 } })
     let c := s.chip
     let q := p.val
     let serves := c.coreUp = true ∧ c.get (Reg.LINK_STAT_STATE q) = 7 ∧ bit c.chain.join q = false
     let good (k : Nat) : Bool := body.length == k && leNat (body.drop (k - 2)) == (crc16 0xFFFF (body.take (k - 2))).toNat
     let cyc := leNat (body.take 4)
     let back := c.chain.slp = true ∧ c.chain.slpS = cyc
     let slp (d : Chip) (o : Nat) : Chip := d.setGl o { d.gl o with slpOut := body }
     (serves) ∧ (
     (good 6 = true) ∧ (
     (c.isHead = true) ∧ (
     (back) ∧ (
     (c.tailPort = some q) ∧ (
     let t := { c with chain := { c.chain with slp := false } }
     (t.wkB Reg.CHAIN_SLEEP_CFG_KEEP_HEAD = false))))))) ∧
    (
     let p : Fin 2 := 0
     let body : List (BitVec 8) := withCrc [0, 0, 0, 7]
     let s : State := st (let c := chip [(Reg.CHAIN_STAT_ROLE, 1), (Reg.LINK_STAT_ROLE 0, 1), (Reg.LINK_STAT_STATE 0, 7)] [(Reg.CHAIN_SLEEP_CFG_KEEP_HEAD, 1)]; { c with chain := { c.chain with slp := true, slpS := 0x07000000 } })
     let c := s.chip
     let q := p.val
     let serves := c.coreUp = true ∧ c.get (Reg.LINK_STAT_STATE q) = 7 ∧ bit c.chain.join q = false
     let good (k : Nat) : Bool := body.length == k && leNat (body.drop (k - 2)) == (crc16 0xFFFF (body.take (k - 2))).toNat
     let cyc := leNat (body.take 4)
     let back := c.chain.slp = true ∧ c.chain.slpS = cyc
     let slp (d : Chip) (o : Nat) : Chip := d.setGl o { d.gl o with slpOut := body }
     (serves) ∧ (
     (good 6 = true) ∧ (
     (c.isHead = true) ∧ (
     (back) ∧ (
     (c.tailPort = some q) ∧ (
     let t := { c with chain := { c.chain with slp := false } }
     (t.wkB Reg.CHAIN_SLEEP_CFG_KEEP_HEAD = true))))))) ∧
    (
     let p : Fin 2 := 0
     let body : List (BitVec 8) := withCrc [2, 0, 3, 7]
     let s : State := st (chip [(Reg.LINK_STAT_STATE 0, 65535)] [(Reg.WIDE_MAP_RING 0, 2)])
     let c := s.chip
     let q := p.val
     let serves := c.coreUp = true ∧ c.get (Reg.LINK_STAT_STATE q) = 7 ∧ bit c.chain.join q = false
     let good (k : Nat) : Bool := body.length == k && leNat (body.drop (k - 2)) == (crc16 0xFFFF (body.take (k - 2))).toNat
     let cyc := leNat (body.take 4)
     let back := c.chain.slp = true ∧ c.chain.slpS = cyc
     (serves) ∧ (
     (good 6 = true) ∧ (
     (¬back) ∧ (
     (c.isHead = true ∨ c.headPort ≠ some q))))) ∧
    (
     let p : Fin 2 := 0
     let body : List (BitVec 8) := 0 :: 0 :: 16 :: 8 :: 177 :: 16 :: 3 :: 2 :: 0 :: 5 :: 0 :: 2 :: 145 :: 32 :: 8 :: 0 :: []
     let s : State := st (chip)
     let c := s.chip
     let q := p.val
     let serves := c.coreUp = true ∧ c.get (Reg.LINK_STAT_STATE q) = 7 ∧ bit c.chain.join q = false
     let good (k : Nat) : Bool := body.length == k && leNat (body.drop (k - 2)) == (crc16 0xFFFF (body.take (k - 2))).toNat
     (¬serves ∨ good 6 = false)) ∧
    (
     let s : State := st ({ chip with pwr := { phase := .dropping, goal := .standby, coreRst := false, fieldRst := false } })
     let c := s.chip
     (c.pwr.phase = .standby ∨ (c.pwr.phase = .dropping ∧ c.pwr.goal = .standby))) ∧
    (
     let s : State := st (chip)
     let c := s.chip
     (c.pwr.phase ≠ .standby) ∧ (
     (c.pwr.phase ≠ .dropping ∨ c.pwr.goal ≠ .standby))) ∧
    (
     let p : Fin 2 := 0
     let s : State := st ({ chip with pwr := { coreRst := false, fieldRst := false }, chain := { join := 5 } })
     let c := s.chip
     let q := p.val
     (c.coreUp = true) ∧ (
     (bit c.chain.join q = true))) ∧
    (
     let p : Fin 2 := 0
     let s : State := st (chip)
     let c := s.chip
     let q := p.val
     (bit c.chain.join q = false)) := by
  refine ⟨?_, ?_, ?_, ?_, ?_, ?_, ?_, ?_, ?_, ?_, ?_, ?_, ?_⟩ <;> dsimp only <;> decide +kernel

/-- Witnesses of the hypotheses of Obligations.SlotsPassOrAct (part 1). -/
theorem meets_SlotsPassOrAct_1 :
    (
     let x : Slot := goodSlot 1 0 0 0 [0, 0, 0, 0]
     let s : State := st chip
     let c := s.chip
     let slots : List (Instr × Nat × Bool × Bool × (Chip → Slot → SlotOut × Chip)) :=
     [(.hopRd x, 1, true, true, gateRd 1), (.hopWr x, 2, true, true, gateWr), (.stRd x, 3, false, true, gateRd 3),
      (.stWr x, 4, false, true, gateWr), (.stRw x, 5, false, true, gateRw), (.bcOr x, 6, false, true, gateOr),
      (.imgRd x, 8, false, false, gateImgRd), (.imgWr x, 9, false, false, gateImgWr), (.mbxPut x, 10, false, true, gateMbxPut),
      (.mbxGet x, 11, false, true, gateMbxGet), (.tunnel x, 12, false, false, gateTunnel), (.telem x, 13, false, false, gateTelem),
      (.eventSlot x, 14, false, false, gateEvent), (.pourArm x, 16, false, true, gateArm), (.pourSlot x, 17, false, true, gatePour),
      (.delaySlot x, 18, false, true, gateDelay)]
     (c.gatePort = none)) ∧
    (
     let x : Slot := goodSlot 1 0 0 0 [0, 0, 0, 0]
     let s : State := st (joined (chip [(Reg.FLASK_FSTAT_STATE 41, 1)]))
     let c := s.chip
     let slots : List (Instr × Nat × Bool × Bool × (Chip → Slot → SlotOut × Chip)) :=
     [(.hopRd x, 1, true, true, gateRd 1), (.hopWr x, 2, true, true, gateWr), (.stRd x, 3, false, true, gateRd 3),
      (.stWr x, 4, false, true, gateWr), (.stRw x, 5, false, true, gateRw), (.bcOr x, 6, false, true, gateOr),
      (.imgRd x, 8, false, false, gateImgRd), (.imgWr x, 9, false, false, gateImgWr), (.mbxPut x, 10, false, true, gateMbxPut),
      (.mbxGet x, 11, false, true, gateMbxGet), (.tunnel x, 12, false, false, gateTunnel), (.telem x, 13, false, false, gateTelem),
      (.eventSlot x, 14, false, false, gateEvent), (.pourArm x, 16, false, true, gateArm), (.pourSlot x, 17, false, true, gatePour),
      (.delaySlot x, 18, false, true, gateDelay)]
     let aside (d : Chip) : Bool := d.gate.run.shut || d.gate.run.stop || !hdrOk d.gate.run.hdr
     let p : Nat := 0
     (c.gatePort = some p) ∧ (
     let i : Instr := .hopRd x
     let op : Nat := 1
     let hop : Bool := true
     let early : Bool := true
     let f : Chip → Slot → SlotOut × Chip := gateRd 1
     ((i, op, hop, early, f) ∈ slots) ∧ (
     let d := c.arrive p op x
     (aside d = true)))) ∧
    (
     let x : Slot := badSlot 1
     let s : State := st (joined chip)
     let c := s.chip
     let slots : List (Instr × Nat × Bool × Bool × (Chip → Slot → SlotOut × Chip)) :=
     [(.hopRd x, 1, true, true, gateRd 1), (.hopWr x, 2, true, true, gateWr), (.stRd x, 3, false, true, gateRd 3),
      (.stWr x, 4, false, true, gateWr), (.stRw x, 5, false, true, gateRw), (.bcOr x, 6, false, true, gateOr),
      (.imgRd x, 8, false, false, gateImgRd), (.imgWr x, 9, false, false, gateImgWr), (.mbxPut x, 10, false, true, gateMbxPut),
      (.mbxGet x, 11, false, true, gateMbxGet), (.tunnel x, 12, false, false, gateTunnel), (.telem x, 13, false, false, gateTelem),
      (.eventSlot x, 14, false, false, gateEvent), (.pourArm x, 16, false, true, gateArm), (.pourSlot x, 17, false, true, gatePour),
      (.delaySlot x, 18, false, true, gateDelay)]
     let aside (d : Chip) : Bool := d.gate.run.shut || d.gate.run.stop || !hdrOk d.gate.run.hdr
     let op : Nat := 1
     let goodCrc (op : Nat) : Bool :=
     (crc16 0xFFFF (natBytes 1 op ++ natBytes 1 x.flags.toNat ++ natBytes 2 x.addr.toNat ++ natBytes 4 x.target.toNat ++
       natBytes 2 x.len.toNat)).toNat == x.hcrc.toNat
     let p : Nat := 0
     (c.gatePort = some p) ∧ (
     let i : Instr := .hopRd x
     let hop : Bool := true
     let early : Bool := true
     let f : Chip → Slot → SlotOut × Chip := gateRd 1
     ((i, op, hop, early, f) ∈ slots) ∧ (
     let d := c.arrive p op x
     (aside d = false) ∧ (
     (goodCrc op = false))))) ∧
    (
     let x : Slot := goodSlot 1 4 0 0 [0, 0, 0, 0]
     let s : State := st (joined chip)
     let c := s.chip
     let slots : List (Instr × Nat × Bool × Bool × (Chip → Slot → SlotOut × Chip)) :=
     [(.hopRd x, 1, true, true, gateRd 1), (.hopWr x, 2, true, true, gateWr), (.stRd x, 3, false, true, gateRd 3),
      (.stWr x, 4, false, true, gateWr), (.stRw x, 5, false, true, gateRw), (.bcOr x, 6, false, true, gateOr),
      (.imgRd x, 8, false, false, gateImgRd), (.imgWr x, 9, false, false, gateImgWr), (.mbxPut x, 10, false, true, gateMbxPut),
      (.mbxGet x, 11, false, true, gateMbxGet), (.tunnel x, 12, false, false, gateTunnel), (.telem x, 13, false, false, gateTelem),
      (.eventSlot x, 14, false, false, gateEvent), (.pourArm x, 16, false, true, gateArm), (.pourSlot x, 17, false, true, gatePour),
      (.delaySlot x, 18, false, true, gateDelay)]
     let aside (d : Chip) : Bool := d.gate.run.shut || d.gate.run.stop || !hdrOk d.gate.run.hdr
     let op : Nat := 1
     let goodCrc (op : Nat) : Bool :=
     (crc16 0xFFFF (natBytes 1 op ++ natBytes 1 x.flags.toNat ++ natBytes 2 x.addr.toNat ++ natBytes 4 x.target.toNat ++
       natBytes 2 x.len.toNat)).toNat == x.hcrc.toNat
     let p : Nat := 0
     (c.gatePort = some p) ∧ (
     let i : Instr := .hopRd x
     let hop : Bool := true
     let early : Bool := true
     let f : Chip → Slot → SlotOut × Chip := gateRd 1
     ((i, op, hop, early, f) ∈ slots) ∧ (
     let d := c.arrive p op x
     (aside d = false) ∧ (
     (goodCrc op = true) ∧ (
     (x.reserved op = true)))))) ∧
    (
     let x : Slot := goodSlot 1 0 1024 0 [0, 0, 0, 0]
     let s : State := st (joined chip)
     let c := s.chip
     let slots : List (Instr × Nat × Bool × Bool × (Chip → Slot → SlotOut × Chip)) :=
     [(.hopRd x, 1, true, true, gateRd 1), (.hopWr x, 2, true, true, gateWr), (.stRd x, 3, false, true, gateRd 3),
      (.stWr x, 4, false, true, gateWr), (.stRw x, 5, false, true, gateRw), (.bcOr x, 6, false, true, gateOr),
      (.imgRd x, 8, false, false, gateImgRd), (.imgWr x, 9, false, false, gateImgWr), (.mbxPut x, 10, false, true, gateMbxPut),
      (.mbxGet x, 11, false, true, gateMbxGet), (.tunnel x, 12, false, false, gateTunnel), (.telem x, 13, false, false, gateTelem),
      (.eventSlot x, 14, false, false, gateEvent), (.pourArm x, 16, false, true, gateArm), (.pourSlot x, 17, false, true, gatePour),
      (.delaySlot x, 18, false, true, gateDelay)]
     let aside (d : Chip) : Bool := d.gate.run.shut || d.gate.run.stop || !hdrOk d.gate.run.hdr
     let op : Nat := 1
     let goodCrc (op : Nat) : Bool :=
     (crc16 0xFFFF (natBytes 1 op ++ natBytes 1 x.flags.toNat ++ natBytes 2 x.addr.toNat ++ natBytes 4 x.target.toNat ++
       natBytes 2 x.len.toNat)).toNat == x.hcrc.toNat
     let p : Nat := 0
     (c.gatePort = some p) ∧ (
     let i : Instr := .hopRd x
     let hop : Bool := true
     let early : Bool := true
     let f : Chip → Slot → SlotOut × Chip := gateRd 1
     ((i, op, hop, early, f) ∈ slots) ∧ (
     let d := c.arrive p op x
     (aside d = false) ∧ (
     (goodCrc op = true) ∧ (
     (x.reserved op = false) ∧ (
     let mine := x.ring = d.get Reg.CHAIN_STAT_RING
     (¬mine))))))) ∧
    (
     let x : Slot := goodSlot 1 0 1023 0 [0, 0, 0, 0]
     let s : State := st (joined chip)
     let c := s.chip
     let slots : List (Instr × Nat × Bool × Bool × (Chip → Slot → SlotOut × Chip)) :=
     [(.hopRd x, 1, true, true, gateRd 1), (.hopWr x, 2, true, true, gateWr), (.stRd x, 3, false, true, gateRd 3),
      (.stWr x, 4, false, true, gateWr), (.stRw x, 5, false, true, gateRw), (.bcOr x, 6, false, true, gateOr),
      (.imgRd x, 8, false, false, gateImgRd), (.imgWr x, 9, false, false, gateImgWr), (.mbxPut x, 10, false, true, gateMbxPut),
      (.mbxGet x, 11, false, true, gateMbxGet), (.tunnel x, 12, false, false, gateTunnel), (.telem x, 13, false, false, gateTelem),
      (.eventSlot x, 14, false, false, gateEvent), (.pourArm x, 16, false, true, gateArm), (.pourSlot x, 17, false, true, gatePour),
      (.delaySlot x, 18, false, true, gateDelay)]
     let aside (d : Chip) : Bool := d.gate.run.shut || d.gate.run.stop || !hdrOk d.gate.run.hdr
     let op : Nat := 1
     let goodCrc (op : Nat) : Bool :=
     (crc16 0xFFFF (natBytes 1 op ++ natBytes 1 x.flags.toNat ++ natBytes 2 x.addr.toNat ++ natBytes 4 x.target.toNat ++
       natBytes 2 x.len.toNat)).toNat == x.hcrc.toNat
     let p : Nat := 0
     (c.gatePort = some p) ∧ (
     let i : Instr := .hopRd x
     let hop : Bool := true
     let early : Bool := true
     let f : Chip → Slot → SlotOut × Chip := gateRd 1
     ((i, op, hop, early, f) ∈ slots) ∧ (
     let d := c.arrive p op x
     (aside d = false) ∧ (
     (goodCrc op = true) ∧ (
     (x.reserved op = false) ∧ (
     let mine := x.ring = d.get Reg.CHAIN_STAT_RING
     (mine) ∧ (
     (hop = true) ∧ (
     (x.station = 1023))))))))) ∧
    (
     let x : Slot := goodSlot 1 0 1 0 [0, 0, 0, 0]
     let s : State := st (joined chip)
     let c := s.chip
     let slots : List (Instr × Nat × Bool × Bool × (Chip → Slot → SlotOut × Chip)) :=
     [(.hopRd x, 1, true, true, gateRd 1), (.hopWr x, 2, true, true, gateWr), (.stRd x, 3, false, true, gateRd 3),
      (.stWr x, 4, false, true, gateWr), (.stRw x, 5, false, true, gateRw), (.bcOr x, 6, false, true, gateOr),
      (.imgRd x, 8, false, false, gateImgRd), (.imgWr x, 9, false, false, gateImgWr), (.mbxPut x, 10, false, true, gateMbxPut),
      (.mbxGet x, 11, false, true, gateMbxGet), (.tunnel x, 12, false, false, gateTunnel), (.telem x, 13, false, false, gateTelem),
      (.eventSlot x, 14, false, false, gateEvent), (.pourArm x, 16, false, true, gateArm), (.pourSlot x, 17, false, true, gatePour),
      (.delaySlot x, 18, false, true, gateDelay)]
     let aside (d : Chip) : Bool := d.gate.run.shut || d.gate.run.stop || !hdrOk d.gate.run.hdr
     let op : Nat := 1
     let goodCrc (op : Nat) : Bool :=
     (crc16 0xFFFF (natBytes 1 op ++ natBytes 1 x.flags.toNat ++ natBytes 2 x.addr.toNat ++ natBytes 4 x.target.toNat ++
       natBytes 2 x.len.toNat)).toNat == x.hcrc.toNat
     let p : Nat := 0
     (c.gatePort = some p) ∧ (
     let i : Instr := .hopRd x
     let hop : Bool := true
     let early : Bool := true
     let f : Chip → Slot → SlotOut × Chip := gateRd 1
     ((i, op, hop, early, f) ∈ slots) ∧ (
     let d := c.arrive p op x
     (aside d = false) ∧ (
     (goodCrc op = true) ∧ (
     (x.reserved op = false) ∧ (
     let mine := x.ring = d.get Reg.CHAIN_STAT_RING
     (mine) ∧ (
     (hop = true) ∧ (
     (x.station ≠ 1023) ∧ (
     (x.station ≠ 0)))))))))) ∧
    (
     let x : Slot := goodSlot 3 0 1 0 [0, 0, 0, 0]
     let s : State := st (joined chip)
     let c := s.chip
     let slots : List (Instr × Nat × Bool × Bool × (Chip → Slot → SlotOut × Chip)) :=
     [(.hopRd x, 1, true, true, gateRd 1), (.hopWr x, 2, true, true, gateWr), (.stRd x, 3, false, true, gateRd 3),
      (.stWr x, 4, false, true, gateWr), (.stRw x, 5, false, true, gateRw), (.bcOr x, 6, false, true, gateOr),
      (.imgRd x, 8, false, false, gateImgRd), (.imgWr x, 9, false, false, gateImgWr), (.mbxPut x, 10, false, true, gateMbxPut),
      (.mbxGet x, 11, false, true, gateMbxGet), (.tunnel x, 12, false, false, gateTunnel), (.telem x, 13, false, false, gateTelem),
      (.eventSlot x, 14, false, false, gateEvent), (.pourArm x, 16, false, true, gateArm), (.pourSlot x, 17, false, true, gatePour),
      (.delaySlot x, 18, false, true, gateDelay)]
     let aside (d : Chip) : Bool := d.gate.run.shut || d.gate.run.stop || !hdrOk d.gate.run.hdr
     let op : Nat := 3
     let goodCrc (op : Nat) : Bool :=
     (crc16 0xFFFF (natBytes 1 op ++ natBytes 1 x.flags.toNat ++ natBytes 2 x.addr.toNat ++ natBytes 4 x.target.toNat ++
       natBytes 2 x.len.toNat)).toNat == x.hcrc.toNat
     let p : Nat := 0
     (c.gatePort = some p) ∧ (
     let i : Instr := .stRd x
     let hop : Bool := false
     let early : Bool := true
     let f : Chip → Slot → SlotOut × Chip := gateRd 3
     ((i, op, hop, early, f) ∈ slots) ∧ (
     let d := c.arrive p op x
     (aside d = false) ∧ (
     (goodCrc op = true) ∧ (
     (x.reserved op = false) ∧ (
     let mine := x.ring = d.get Reg.CHAIN_STAT_RING
     (mine) ∧ (
     (hop = false) ∧ (
     (d.addressed x.station = false))))))))) ∧
    (
     let x : Slot := goodSlot 8 0 1023 0 [0, 0, 0, 0]
     let s : State := st (joined chip)
     let c := s.chip
     let slots : List (Instr × Nat × Bool × Bool × (Chip → Slot → SlotOut × Chip)) :=
     [(.hopRd x, 1, true, true, gateRd 1), (.hopWr x, 2, true, true, gateWr), (.stRd x, 3, false, true, gateRd 3),
      (.stWr x, 4, false, true, gateWr), (.stRw x, 5, false, true, gateRw), (.bcOr x, 6, false, true, gateOr),
      (.imgRd x, 8, false, false, gateImgRd), (.imgWr x, 9, false, false, gateImgWr), (.mbxPut x, 10, false, true, gateMbxPut),
      (.mbxGet x, 11, false, true, gateMbxGet), (.tunnel x, 12, false, false, gateTunnel), (.telem x, 13, false, false, gateTelem),
      (.eventSlot x, 14, false, false, gateEvent), (.pourArm x, 16, false, true, gateArm), (.pourSlot x, 17, false, true, gatePour),
      (.delaySlot x, 18, false, true, gateDelay)]
     let aside (d : Chip) : Bool := d.gate.run.shut || d.gate.run.stop || !hdrOk d.gate.run.hdr
     let op : Nat := 8
     let goodCrc (op : Nat) : Bool :=
     (crc16 0xFFFF (natBytes 1 op ++ natBytes 1 x.flags.toNat ++ natBytes 2 x.addr.toNat ++ natBytes 4 x.target.toNat ++
       natBytes 2 x.len.toNat)).toNat == x.hcrc.toNat
     let p : Nat := 0
     (c.gatePort = some p) ∧ (
     let i : Instr := .imgRd x
     let hop : Bool := false
     let early : Bool := false
     let f : Chip → Slot → SlotOut × Chip := gateImgRd
     ((i, op, hop, early, f) ∈ slots) ∧ (
     let d := c.arrive p op x
     (aside d = false) ∧ (
     (goodCrc op = true) ∧ (
     (x.reserved op = false) ∧ (
     let mine := x.ring = d.get Reg.CHAIN_STAT_RING
     let here := if hop then x.station = 0 else d.addressed x.station = true
     (mine) ∧ (
     (here) ∧ (
     (d.clk.serving = false) ∧ (
     (early = false)))))))))) ∧
    (
     let x : Slot := goodSlot 1 0 0 0 [0, 0, 0, 0]
     let s : State := st (joined chip)
     let c := s.chip
     let slots : List (Instr × Nat × Bool × Bool × (Chip → Slot → SlotOut × Chip)) :=
     [(.hopRd x, 1, true, true, gateRd 1), (.hopWr x, 2, true, true, gateWr), (.stRd x, 3, false, true, gateRd 3),
      (.stWr x, 4, false, true, gateWr), (.stRw x, 5, false, true, gateRw), (.bcOr x, 6, false, true, gateOr),
      (.imgRd x, 8, false, false, gateImgRd), (.imgWr x, 9, false, false, gateImgWr), (.mbxPut x, 10, false, true, gateMbxPut),
      (.mbxGet x, 11, false, true, gateMbxGet), (.tunnel x, 12, false, false, gateTunnel), (.telem x, 13, false, false, gateTelem),
      (.eventSlot x, 14, false, false, gateEvent), (.pourArm x, 16, false, true, gateArm), (.pourSlot x, 17, false, true, gatePour),
      (.delaySlot x, 18, false, true, gateDelay)]
     let aside (d : Chip) : Bool := d.gate.run.shut || d.gate.run.stop || !hdrOk d.gate.run.hdr
     let op : Nat := 1
     let goodCrc (op : Nat) : Bool :=
     (crc16 0xFFFF (natBytes 1 op ++ natBytes 1 x.flags.toNat ++ natBytes 2 x.addr.toNat ++ natBytes 4 x.target.toNat ++
       natBytes 2 x.len.toNat)).toNat == x.hcrc.toNat
     let p : Nat := 0
     (c.gatePort = some p) ∧ (
     let i : Instr := .hopRd x
     let hop : Bool := true
     let early : Bool := true
     let f : Chip → Slot → SlotOut × Chip := gateRd 1
     ((i, op, hop, early, f) ∈ slots) ∧ (
     let d := c.arrive p op x
     (aside d = false) ∧ (
     (goodCrc op = true) ∧ (
     (x.reserved op = false) ∧ (
     let mine := x.ring = d.get Reg.CHAIN_STAT_RING
     let here := if hop then x.station = 0 else d.addressed x.station = true
     (mine) ∧ (
     (here) ∧ (
     (d.clk.serving = true ∨ early = true))))))))) ∧
    (
     let x : Slot := badSlot 1
     let op8 : BitVec 8 := 1
     let s : State := st (joined (chip [(Reg.FLASK_FSTAT_STATE 41, 1)]))
     let c := s.chip
     let aside (d : Chip) : Bool := d.gate.run.shut || d.gate.run.stop || !hdrOk d.gate.run.hdr
     let goodCrc (op : Nat) : Bool :=
     (crc16 0xFFFF (natBytes 1 op ++ natBytes 1 x.flags.toNat ++ natBytes 2 x.addr.toNat ++ natBytes 4 x.target.toNat ++
       natBytes 2 x.len.toNat)).toNat == x.hcrc.toNat
     let p : Nat := 0
     (c.gatePort = some p) ∧ (
     let d := c.arrive p op8.toNat x
     (goodCrc op8.toNat = false) ∧ (
     (aside d = true)))) ∧
    (
     let x : Slot := badSlot 1
     let op8 : BitVec 8 := 1
     let s : State := st (joined chip)
     let c := s.chip
     let aside (d : Chip) : Bool := d.gate.run.shut || d.gate.run.stop || !hdrOk d.gate.run.hdr
     let goodCrc (op : Nat) : Bool :=
     (crc16 0xFFFF (natBytes 1 op ++ natBytes 1 x.flags.toNat ++ natBytes 2 x.addr.toNat ++ natBytes 4 x.target.toNat ++
       natBytes 2 x.len.toNat)).toNat == x.hcrc.toNat
     let p : Nat := 0
     (c.gatePort = some p) ∧ (
     let d := c.arrive p op8.toNat x
     (goodCrc op8.toNat = false) ∧ (
     (aside d = false)))) ∧
    (
     let x : Slot := goodSlot 200 0 0 0 [0, 0, 0, 0]
     let op8 : BitVec 8 := 200
     let s : State := st (joined (chip [(Reg.FLASK_FSTAT_STATE 41, 1)]))
     let c := s.chip
     let aside (d : Chip) : Bool := d.gate.run.shut || d.gate.run.stop || !hdrOk d.gate.run.hdr
     let p : Nat := 0
     (c.gatePort = some p) ∧ (
     let d := c.arrive p op8.toNat x
     (opListed op8.toNat = false ∨ x.reserved op8.toNat = true) ∧ (
     (aside d = true)))) ∧
    (
     let x : Slot := badSlot 200
     let op8 : BitVec 8 := 200
     let s : State := st (joined chip)
     let c := s.chip
     let aside (d : Chip) : Bool := d.gate.run.shut || d.gate.run.stop || !hdrOk d.gate.run.hdr
     let goodCrc (op : Nat) : Bool :=
     (crc16 0xFFFF (natBytes 1 op ++ natBytes 1 x.flags.toNat ++ natBytes 2 x.addr.toNat ++ natBytes 4 x.target.toNat ++
       natBytes 2 x.len.toNat)).toNat == x.hcrc.toNat
     let p : Nat := 0
     (c.gatePort = some p) ∧ (
     let d := c.arrive p op8.toNat x
     (opListed op8.toNat = false ∨ x.reserved op8.toNat = true) ∧ (
     (aside d = false) ∧ (
     (goodCrc op8.toNat = false))))) ∧
    (
     let x : Slot := goodSlot 200 0 0 0 [0, 0, 0, 0]
     let op8 : BitVec 8 := 200
     let s : State := st (joined chip)
     let c := s.chip
     let aside (d : Chip) : Bool := d.gate.run.shut || d.gate.run.stop || !hdrOk d.gate.run.hdr
     let goodCrc (op : Nat) : Bool :=
     (crc16 0xFFFF (natBytes 1 op ++ natBytes 1 x.flags.toNat ++ natBytes 2 x.addr.toNat ++ natBytes 4 x.target.toNat ++
       natBytes 2 x.len.toNat)).toNat == x.hcrc.toNat
     let p : Nat := 0
     (c.gatePort = some p) ∧ (
     let d := c.arrive p op8.toNat x
     (opListed op8.toNat = false ∨ x.reserved op8.toNat = true) ∧ (
     (aside d = false) ∧ (
     (goodCrc op8.toNat = true))))) ∧
    (
     let x : Slot := goodSlot 0 0 0 0 [0, 0, 0, 0]
     let s : State := st (joined (chip [(Reg.FLASK_FSTAT_STATE 41, 1)]))
     let c := s.chip
     let aside (d : Chip) : Bool := d.gate.run.shut || d.gate.run.stop || !hdrOk d.gate.run.hdr
     let p : Nat := 0
     (c.gatePort = some p) ∧ (
     let d := c.arrive p 0 x
     (aside d = true))) := by
  refine ⟨?_, ⟨by decide +kernel, List.Mem.head _, by decide +kernel⟩, ⟨by decide +kernel, List.Mem.head _, by decide +kernel, by decide +kernel⟩, ⟨by decide +kernel, List.Mem.head _, by decide +kernel, by decide +kernel, by decide +kernel⟩, ⟨by decide +kernel, List.Mem.head _, by decide +kernel, by decide +kernel, by decide +kernel, by decide +kernel⟩, ⟨by decide +kernel, List.Mem.head _, by decide +kernel, by decide +kernel, by decide +kernel, by decide +kernel, by decide +kernel, by decide +kernel⟩, ⟨by decide +kernel, List.Mem.head _, by decide +kernel, by decide +kernel, by decide +kernel, by decide +kernel, by decide +kernel, by decide +kernel, by decide +kernel⟩, ⟨by decide +kernel, List.Mem.tail _ (List.Mem.tail _ (List.Mem.head _)), by decide +kernel, by decide +kernel, by decide +kernel, by decide +kernel, by decide +kernel, by decide +kernel⟩, ⟨by decide +kernel, List.Mem.tail _ (List.Mem.tail _ (List.Mem.tail _ (List.Mem.tail _ (List.Mem.tail _ (List.Mem.tail _ (List.Mem.head _)))))), by decide +kernel, by decide +kernel, by decide +kernel, by decide +kernel, by decide +kernel, by decide +kernel, by decide +kernel⟩, ⟨by decide +kernel, List.Mem.head _, by decide +kernel, by decide +kernel, by decide +kernel, by decide +kernel, by decide +kernel, by decide +kernel⟩, ?_, ?_, ?_, ?_, ?_, ?_⟩ <;> dsimp only <;> decide +kernel

/-- Witnesses of the hypotheses of Obligations.SlotsPassOrAct (part 2). -/
theorem meets_SlotsPassOrAct_2 :
    (
     let x : Slot := badSlot 0
     let s : State := st (joined chip)
     let c := s.chip
     let aside (d : Chip) : Bool := d.gate.run.shut || d.gate.run.stop || !hdrOk d.gate.run.hdr
     let goodCrc (op : Nat) : Bool :=
     (crc16 0xFFFF (natBytes 1 op ++ natBytes 1 x.flags.toNat ++ natBytes 2 x.addr.toNat ++ natBytes 4 x.target.toNat ++
       natBytes 2 x.len.toNat)).toNat == x.hcrc.toNat
     let p : Nat := 0
     (c.gatePort = some p) ∧ (
     let d := c.arrive p 0 x
     (aside d = false) ∧ (
     (goodCrc 0 = false)))) ∧
    (
     let x : Slot := goodSlot 0 0 0 0 [0, 0, 0, 0]
     let s : State := st (joined chip)
     let c := s.chip
     let aside (d : Chip) : Bool := d.gate.run.shut || d.gate.run.stop || !hdrOk d.gate.run.hdr
     let goodCrc (op : Nat) : Bool :=
     (crc16 0xFFFF (natBytes 1 op ++ natBytes 1 x.flags.toNat ++ natBytes 2 x.addr.toNat ++ natBytes 4 x.target.toNat ++
       natBytes 2 x.len.toNat)).toNat == x.hcrc.toNat
     let p : Nat := 0
     (c.gatePort = some p) ∧ (
     let d := c.arrive p 0 x
     (aside d = false) ∧ (
     (goodCrc 0 = true) ∧ (
     (x.reserved 0 = false))))) ∧
    (
     let x : Slot := goodSlot 0 4 0 0 [0, 0, 0, 0]
     let s : State := st (joined chip)
     let c := s.chip
     let aside (d : Chip) : Bool := d.gate.run.shut || d.gate.run.stop || !hdrOk d.gate.run.hdr
     let goodCrc (op : Nat) : Bool :=
     (crc16 0xFFFF (natBytes 1 op ++ natBytes 1 x.flags.toNat ++ natBytes 2 x.addr.toNat ++ natBytes 4 x.target.toNat ++
       natBytes 2 x.len.toNat)).toNat == x.hcrc.toNat
     let p : Nat := 0
     (c.gatePort = some p) ∧ (
     let d := c.arrive p 0 x
     (aside d = false) ∧ (
     (goodCrc 0 = true) ∧ (
     (x.reserved 0 = true))))) ∧
    (
     let x : Slot := goodSlot 200 0 0 0 [0, 0, 0, 0]
     let op8 : BitVec 8 := 200
     let goodCrc (op : Nat) : Bool :=
     (crc16 0xFFFF (natBytes 1 op ++ natBytes 1 x.flags.toNat ++ natBytes 2 x.addr.toNat ++ natBytes 4 x.target.toNat ++
       natBytes 2 x.len.toNat)).toNat == x.hcrc.toNat
     (goodCrc op8.toNat = true)) ∧
    (
     let x : Slot := goodSlot 1 0 0 0 [0, 0, 0, 0]
     let op8 : BitVec 8 := 1
     (opListed op8.toNat = true) ∧ (
     (x.reserved op8.toNat = false))) := by
  refine ⟨?_, ?_, ?_, ?_, ?_⟩ <;> dsimp only <;> decide +kernel

/-- Witnesses of the hypotheses of Obligations.SlotDecisions (part 1). -/
theorem meets_SlotDecisions_1 :
    (
     let c : Chip := chip
     let x : Slot := goodSlot 1 0 0 0 []
     let legal := x.payload.length % 4 == 0 && decide (4 ≤ x.payload.length) && decide (x.payload.length ≤ 256)
     let op : Nat := 1
     (legal = false ∨ (op = 3 ∧ x.station = 1023) ∨ x.words.any (c.gateRefused false) = true)) ∧
    (
     let c : Chip := chip
     let x : Slot := goodSlot 1 0 0 0x1000010 [0, 0, 0, 0]
     let legal := x.payload.length % 4 == 0 && decide (4 ≤ x.payload.length) && decide (x.payload.length ≤ 256)
     (legal = true) ∧ (
     let op : Nat := 1
     (op ≠ 3 ∨ x.station ≠ 1023) ∧ (
     (x.words.any (c.gateRefused false) = false) ∧ (
     (c.pickup op x = none) ∧ (
     (x.words.all gateFast = true) ∧ (
     let l : List Nat := (c.gateReads x.words).1.getD []
     let t : Chip := (c.gateReads x.words).2
     (c.gateReads x.words = (some l, t)))))))) ∧
    (
     let c : Chip := chip
     let x : Slot := goodSlot 1 0 0 0x20000 [0, 0, 0, 0]
     let legal := x.payload.length % 4 == 0 && decide (4 ≤ x.payload.length) && decide (x.payload.length ≤ 256)
     (legal = true) ∧ (
     let op : Nat := 1
     (op ≠ 3 ∨ x.station ≠ 1023) ∧ (
     (x.words.any (c.gateRefused false) = false) ∧ (
     (c.pickup op x = none) ∧ (
     (x.words.all gateFast = false) ∧ (
     (c.gate.defers < 32))))))) ∧
    (
     let c : Chip := (let c := chip; { c with gate := { c.gate with defers := 32 } })
     let x : Slot := goodSlot 1 0 0 0x20000 [0, 0, 0, 0]
     let legal := x.payload.length % 4 == 0 && decide (4 ≤ x.payload.length) && decide (x.payload.length ≤ 256)
     (legal = true) ∧ (
     let op : Nat := 1
     (op ≠ 3 ∨ x.station ≠ 1023) ∧ (
     (x.words.any (c.gateRefused false) = false) ∧ (
     (c.pickup op x = none) ∧ (
     (x.words.all gateFast = false) ∧ (
     (32 ≤ c.gate.defers))))))) ∧
    (
     let c : Chip := chip
     let x : Slot := ({ goodSlot 0 8 53425 1774058000 (List.replicate 4 0) with hcrc := 0 })
     let legal := x.payload.length % 4 == 0 && decide (4 ≤ x.payload.length) && decide (x.payload.length ≤ 256)
     (legal = false ∨ x.words.any (c.gateRefused true) = true)) ∧
    (
     let c : Chip := chip
     let x : Slot := goodSlot 2 0 0 0x20000 [0, 0, 0, 0]
     let legal := x.payload.length % 4 == 0 && decide (4 ≤ x.payload.length) && decide (x.payload.length ≤ 256)
     (legal = true) ∧ (
     (x.words.any (c.gateRefused true) = false) ∧ (
     (c.notDone x.writes = none)))) ∧
    (
     let c : Chip := testing 1 5 chip
     let x : Slot := ({ goodSlot 0 0 5 0x10b0010 ([0, 0, 0, 0]) with hcrc := 0 })
     let legal := x.payload.length % 4 == 0 && decide (4 ≤ x.payload.length) && decide (x.payload.length ≤ 256)
     (legal = true) ∧ (
     (x.words.any (c.gateRefused true) = false) ∧ (
     let a : Nat := 0x10b0010
     let v : Nat := 0
     (c.notDone x.writes = some (.busy, a, v))))) ∧
    (
     let c : Chip := chip [(Reg.SYS_ARMED, 2 ^ groupOfBlk 11)]
     let x : Slot := ({ goodSlot 0 0 5 0x10b0010 ([0, 0, 0, 0]) with hcrc := 0 })
     let legal := x.payload.length % 4 == 0 && decide (4 ≤ x.payload.length) && decide (x.payload.length ≤ 256)
     (legal = true) ∧ (
     (x.words.any (c.gateRefused true) = false) ∧ (
     let a : Nat := 0x10b0010
     let v : Nat := 0
     (c.notDone x.writes = some (.reject, a, v))))) ∧
    (
     let c : Chip := chip
     let x : Slot := ({ goodSlot 0 0 5 0x1000010 ([0, 0, 0, 0]) with hcrc := 0 })
     let legal := x.payload.length % 4 == 0 && decide (4 ≤ x.payload.length) && decide (x.payload.length ≤ 256)
     (legal = true) ∧ (
     (x.words.any (c.gateRefused true) = false) ∧ (
     (x.station ≠ 1023) ∧ (
     (x.words.all gateFast = true) ∧ (
     let l : List Nat := (c.gateReads x.words).1.getD []
     let t : Chip := (c.gateReads x.words).2
     (c.gateReads x.words = (some l, t))))))) ∧
    (
     let c : Chip := chip
     let x : Slot := ({ goodSlot 0 0 5 0x1000010 ([0, 0, 0, 0]) with hcrc := 0 })
     let legal := x.payload.length % 4 == 0 && decide (4 ≤ x.payload.length) && decide (x.payload.length ≤ 256)
     (legal = true) ∧ (
     (x.words.any (c.gateRefused false) = false) ∧ (
     (x.words.all gateFast = true) ∧ (
     let l : List Nat := (c.gateReads x.words).1.getD []
     let t : Chip := (c.gateReads x.words).2
     (c.gateReads x.words = (some l, t)) ∧ (
     (x.words.contains 0x01040204 = false)))))) ∧
    (
     let c : Chip := (let c := chip [(Reg.CLK_STATUS_SYNC, 2), (Reg.CHAIN_STAT_ROLE, 4)]; { c with ct := 674980116, clk := { c.clk with serving := true } })
     (c.held = true)) ∧
    (
     let c : Chip := chip
     let x : Slot := ({ goodSlot 0 0 0 0 (List.replicate 12 0) with hcrc := 0 })
     (c.held = false) ∧ (
     (c.winParts 0 x = []))) ∧
    (
     let c : Chip := chip
     let x : Slot := ({ goodSlot 0 0 0 0 (List.replicate 12 0) with hcrc := 0 })
     (c.held = false) ∧ (
     (c.winParts 1 x = []))) ∧
    (
     let c : Chip := { chip [(Reg.CLK_STATUS_SYNC, 4), (Reg.CHAIN_STAT_ROLE, 7)] [(Reg.CLK_CYCLE, 0), (Reg.GATE_WIN_EN 0, 1), (Reg.GATE_WIN_DIR 0, 1), (Reg.GATE_WIN_LOGICAL 0, 2), (Reg.GATE_WIN_LEN 0, 4), (Reg.GATE_WIN_LOCAL 0, 3)] with clk := { markNs := 8 } }
     let x : Slot := ({ goodSlot 0 190 31161 0 (List.replicate 64 0) with hcrc := 0 })
     (c.held = false) ∧ (
     (c.winParts 1 x ≠ []))) ∧
    (
     let c : Chip := { chip [(Reg.CHAIN_STAT_ROLE, 8), (Reg.CLK_STATUS_SYNC, 4)] [(Reg.CLK_CYCLE, 0), (Reg.GATE_WIN_EN 0, 8), (Reg.GATE_WIN_DIR 1, 1), (Reg.GATE_WIN_LOGICAL 0, 3), (Reg.GATE_WIN_LEN 0, 4), (Reg.GATE_WIN_LOCAL 0, 4)] with clk := { markNs := 3 }, ct := 0 }
     let x : Slot := ({ goodSlot 0 99 28811 0 (List.replicate 16 0) with hcrc := 0 })
     (c.held = false) ∧ (
     let w : Nat := 0
     let off : Nat := 3
     let k : Nat := 13
     let at_ : Nat := 4
     (c.winParts 0 x = [(w, off, k, at_)]))) ∧
    (
     let c : Chip := { chip [] [(Reg.SYNC_MBX_CFG_KIND 0, 2)] with sync := { fresh := 2048 } }
     let x : Slot := ({ goodSlot 0 0 5 0 ([4, 0, 0, 0, 1, 2, 3, 4]) with hcrc := 0 })
     let m := x.target.toNat
     let len := leNat (x.payload.take 4)
     (m < 64) ∧ (
     (0 < len) ∧ (
     (len ≤ 128) ∧ (
     (msgRoom len ≤ x.payload.length) ∧ (
     (c.mbxKind m = 2) ∧ (
     ((c.mbx m).count + (c.mbx m).resv < c.mbxDepth m) ∧ (
     (c.poolPop 62 = none)))))))) := by
  refine ⟨?_, ?_, ?_, ?_, ?_, ?_, ?_, ?_, ?_, ?_, ?_, ?_, ?_, ?_, ?_, ?_⟩ <;> dsimp only <;> decide +kernel

/-- Witnesses of the hypotheses of Obligations.SlotDecisions (part 2). -/
theorem meets_SlotDecisions_2 :
    (
     let c : Chip := chip [] [(Reg.SYNC_MBX_CFG_KIND 0, 2)]
     let x : Slot := ({ goodSlot 0 0 5 0 ([4, 0, 0, 0, 1, 2, 3, 4]) with hcrc := 0 })
     let m := x.target.toNat
     let len := leNat (x.payload.take 4)
     (m < 64) ∧ (
     (0 < len) ∧ (
     (len ≤ 128) ∧ (
     (msgRoom len ≤ x.payload.length) ∧ (
     (c.mbxKind m = 2) ∧ (
     ((c.mbx m).count + (c.mbx m).resv < c.mbxDepth m) ∧ (
     let b : Nat := 0
     let t : Chip := ((c.poolPop 62).getD (0, c)).2
     (c.poolPop 62 = some (b, t))))))))) ∧
    (
     let c : Chip := chip
     let x : Slot := ({ goodSlot 0 0 0 0 (List.replicate 12 0) with hcrc := 0 })
     let m := x.target.toNat
     let len := leNat (x.payload.take 4)
     (64 ≤ m ∨ x.payload.length < 4 ∨ len = 0 ∨ 128 < len ∨ x.payload.length < msgRoom len ∨ c.mbxKind m ≠ 2 ∨ c.mbxDepth m ≤ (c.mbx m).count + (c.mbx m).resv)) ∧
    (
     let c : Chip := { chip [] [(Reg.SYNC_MBX_CFG_KIND 0, 3)] with sync := { mbx := [(5, { head := 4 })] } }
     let x : Slot := ({ goodSlot 0 0 0 0 (List.replicate 64 0) with hcrc := 0 })
     let m := x.target.toNat
     (m < 64) ∧ (
     (c.mbxKind m = 3) ∧ (
     (c.mbxPeek m = none)))) ∧
    (
     let c : Chip := { chip [] [(Reg.SYNC_MBX_CFG_KIND 0, 3)] with sync := { mbx := [(0, { head := 0, count := 3 })] } }
     let x : Slot := ({ goodSlot 0 0 0 0 (List.replicate 0 0) with hcrc := 0 })
     let m := x.target.toNat
     (m < 64) ∧ (
     (c.mbxKind m = 3) ∧ (
     let b : Nat := 0
     let k : Nat := 0
     (c.mbxPeek m = some (b, k)) ∧ (
     (x.payload.length < msgRoom k))))) ∧
    (
     let c : Chip := { chip [] [(Reg.SYNC_MBX_CFG_KIND 0, 3)] with boot := { holdsMbx := false }, sync := { mbx := [(0, { count := 31 })] }, ecc := [(1, 0)] }
     let x : Slot := ({ goodSlot 0 0 16 0 (List.replicate 64 0) with hcrc := 0 })
     let m := x.target.toNat
     (m < 64) ∧ (
     (c.mbxKind m = 3) ∧ (
     let b : Nat := 0
     let k : Nat := 0
     (c.mbxPeek m = some (b, k)) ∧ (
     (msgRoom k ≤ x.payload.length) ∧ (
     ((List.range k).any (fun i => c.eccAt (bufAddr b + i) == 2) = false) ∧ (
     (c.gate.run.log.contains (.mbxGet m b) = false))))))) ∧
    (
     let c : Chip := chip
     let x : Slot := ({ goodSlot 0 0 0 0 (List.replicate 12 0) with hcrc := 0 })
     let m := x.target.toNat
     (64 ≤ m ∨ c.mbxKind m ≠ 3)) ∧
    (
     let c : Chip := chip
     let x : Slot := ({ goodSlot 0 0 0 0 (List.replicate 12 0) with hcrc := 0 })
     let m := x.target.toNat
     (256 ≤ m ∨ c.flag Reg.WIDE_STAT_EN = false ∨ c.serves m = false ∨ c.active 51 = false ∨ x.payload.length < 12 + leNat (x.payload.take 2) % 8192)) ∧
    (
     let c : Chip := (regs [(Reg.WIDE_STAT_EN, 1)] (wideServed chip))
     let x : Slot := goodSlot 16 0 5 2 (List.replicate 12 0)
     let m := x.target.toNat
     (m < 256) ∧ (
     (c.flag Reg.WIDE_STAT_EN = true) ∧ (
     (c.serves m = true) ∧ (
     (c.active 51 = true) ∧ (
     (12 + leNat (x.payload.take 2) % 8192 ≤ x.payload.length)))))) ∧
    (
     let c : Chip := chip [(Reg.CHAIN_STAT_ADDR_VALID, 7)]
     let x : Slot := ({ goodSlot 0 0 21851 0 (List.replicate 4 0) with hcrc := 0 })
     let m := x.target.toNat
     let me := c.get Reg.CHAIN_ADDR_STATION
     (c.flag Reg.CHAIN_STAT_ADDR_VALID = true) ∧ (
     (bit x.flags.toNat 1 = false) ∧ (
     (m ≤ me) ∧ (
     (4 * (me - m) + 4 ≤ x.payload.length))))) ∧
    (
     let c : Chip := chip [(Reg.CHAIN_ADDR_STATION, 4), (Reg.CHAIN_STAT_ADDR_VALID, 3)]
     let x : Slot := ({ goodSlot 0 145 32 8 (List.replicate 8 0) with hcrc := 0 })
     let m := x.target.toNat
     let me := c.get Reg.CHAIN_ADDR_STATION
     (c.flag Reg.CHAIN_STAT_ADDR_VALID = true) ∧ (
     (bit x.flags.toNat 1 = false) ∧ (
     (me < m ∨ x.payload.length < 4 * (me - m) + 4)))) ∧
    (
     let c : Chip := { chip [(Reg.CHAIN_ADDR_STATION, 2), (Reg.CHAIN_STAT_ADDR_VALID, 1)] with bkg := { sets := [(1, [0, 4])], setOff := 2 } }
     let x : Slot := ({ goodSlot 0 63 22292 2 (List.replicate 12 0) with hcrc := 0 })
     let m := x.target.toNat
     let me := c.get Reg.CHAIN_ADDR_STATION
     (c.flag Reg.CHAIN_STAT_ADDR_VALID = true) ∧ (
     (bit x.flags.toNat 1 = true) ∧ (
     (m = me) ∧ (
     (8 ≤ x.payload.length) ∧ (
     let b : List (BitVec 8) := [0x02#8, 0x00#8, 0x01#8, 0x00#8]
     let k : Nat := 1
     let off : Nat := 2
     (c.telemChunk x.payload.length = some (b, k, off))))))) ∧
    (
     let c : Chip := chip
     let x : Slot := ({ goodSlot 0 0 0 0 (List.replicate 12 0) with hcrc := 0 })
     let u := fillEvents (x.payload.length / 16) x.payload (c.evt.cq.filter (fun r => !c.eventsTaken.contains r))
     (u.2 = [])) ∧
    (
     let c : Chip := { chip with evt := { cq := [[1, 2, 3, 4]] } }
     let x : Slot := ({ goodSlot 0 0 5 0 (List.replicate 16 0xFF) with hcrc := 0 })
     let u := fillEvents (x.payload.length / 16) x.payload (c.evt.cq.filter (fun r => !c.eventsTaken.contains r))
     (u.2 ≠ [])) ∧
    (
     let c : Chip := chip
     let x : Slot := ({ goodSlot 0 0 5 0 ([0, 0, 0, 0, 2, 0, 0, 0]) with hcrc := 0 })
     let n := c.get Reg.CLK_CYC_NUM
     let mask := leNat (x.payload.take 2)
     let target := leNat ((x.payload.drop 4).take 4)
     (8 ≤ x.payload.length) ∧ (
     (c.mayArm mask target n = true))) ∧
    (
     let c : Chip := chip
     let x : Slot := ({ goodSlot 0 133 36310 16 (List.replicate 8 0) with hcrc := 0 })
     let n := c.get Reg.CLK_CYC_NUM
     let mask := leNat (x.payload.take 2)
     let target := leNat ((x.payload.drop 4).take 4)
     (8 ≤ x.payload.length) ∧ (
     (c.mayArm mask target n = false))) ∧
    (
     let c : Chip := let c := chip [(Reg.SYS_ARM_CYC, 5)]; { c with arm := { c.arm with on := true } }
     let x : Slot := ({ goodSlot 0 0 5 0 ([0, 0, 0, 0, 5, 0, 0, 0]) with hcrc := 0 })
     let n := c.get Reg.CLK_CYC_NUM
     let mask := leNat (x.payload.take 2)
     let target := leNat ((x.payload.drop 4).take 4)
     (8 ≤ x.payload.length) ∧ (
     (bit x.flags.toNat 0 = false) ∧ (
     (c.armFits mask target = true) ∧ (
     (later target n = true))))) := by
  refine ⟨?_, ?_, ?_, ?_, ?_, ?_, ?_, ?_, ?_, ?_, ?_, ?_, ?_, ?_, ?_, ?_⟩ <;> dsimp only <;> decide +kernel

/-- Witnesses of the hypotheses of Obligations.SlotDecisions (part 3). -/
theorem meets_SlotDecisions_3 :
    (
     let c : Chip := { chip with arm := { on := true } }
     let x : Slot := ({ goodSlot 0 0 1 2 (List.replicate 12 0) with hcrc := 0 })
     let n := c.get Reg.CLK_CYC_NUM
     let mask := leNat (x.payload.take 2)
     let target := leNat ((x.payload.drop 4).take 4)
     (8 ≤ x.payload.length) ∧ (
     (bit x.flags.toNat 0 = false) ∧ (
     (c.armFits mask target = true) ∧ (
     (later target n = false))))) ∧
    (
     let c : Chip := chip
     let x : Slot := ({ goodSlot 0 0 0 0 (List.replicate 12 0) with hcrc := 0 })
     let mask := leNat (x.payload.take 2)
     let target := leNat ((x.payload.drop 4).take 4)
     (8 ≤ x.payload.length) ∧ (
     (bit x.flags.toNat 0 = false) ∧ (
     (c.armFits mask target = false)))) ∧
    (
     let c : Chip := { chip with arm := { on := true } }
     let x : Slot := ({ goodSlot 0 39 0 3 (List.replicate 12 0) with hcrc := 0 })
     (bit x.flags.toNat 0 = true) ∧ (
     (c.arm.on = true))) ∧
    (
     let x : Slot := ({ goodSlot 0 3 2 0 (List.replicate 4 0) with hcrc := 0 })
     (x.payload.length < 8)) := by
  refine ⟨?_, ?_, ?_, ?_⟩ <;> dsimp only <;> decide +kernel

/-- Witnesses of the hypotheses of Obligations.FrameEndResults (part 1). -/
theorem meets_FrameEndResults_1 :
    (
     let s : State := st (chip)
     let c := s.chip
     (c.gatePort = none)) ∧
    (
     let f : FrameTail := ⟨0x0002FF00, [], 0, false, 0⟩
     let p : Nat := 0
     let s : State := st (joined (chip [(Reg.FLASK_FSTAT_STATE 41, 2)]))
     let c := s.chip
     let had := c.gate.run
     let begun := if had.begun = true then had else { had with begun := true, hdr := f.hdr.toNat, rx := natBytes 4 f.hdr.toNat }
     let run := { begun with rx := begun.rx ++ f.rest, shut := begun.shut || c.gateShut p, broken := begun.broken || f.broken || f.misplaced != 0 }
     (c.gatePort = some p) ∧ (
     (run.shut = true))) ∧
    (
     let f : FrameTail := ⟨0x0002FF00, [], BitVec.ofNat 32 (crc32 (natBytes 4 0x0002FF00)).toNat, false, 0⟩
     let p : Nat := 0
     let s : State := st (joined chip)
     let c := s.chip
     let had := c.gate.run
     let begun := if had.begun = true then had else { had with begun := true, hdr := f.hdr.toNat, rx := natBytes 4 f.hdr.toNat }
     let run := { begun with rx := begun.rx ++ f.rest, shut := begun.shut || c.gateShut p, broken := begun.broken || f.broken || f.misplaced != 0 }
     let formed := hdrOk run.hdr && run.rx.length + 4 == 4 * (run.hdr / 65536)
     let crc := (crc32 run.rx).toNat
     let good := formed && !run.broken && f.crc.toNat == crc && !run.stop
     (c.gatePort = some p) ∧ (
     (run.shut = false) ∧ (
     (good = true)))) ∧
    (
     let f : FrameTail := ⟨0x0002FF00, [], BitVec.ofNat 32 (0xFFFFFFFF - (crc32 (natBytes 4 0x0002FF00)).toNat), false, 0⟩
     let p : Nat := 0
     let s : State := st (joined chip)
     let c := s.chip
     let had := c.gate.run
     let begun := if had.begun = true then had else { had with begun := true, hdr := f.hdr.toNat, rx := natBytes 4 f.hdr.toNat }
     let run := { begun with rx := begun.rx ++ f.rest, shut := begun.shut || c.gateShut p, broken := begun.broken || f.broken || f.misplaced != 0 }
     let formed := hdrOk run.hdr && run.rx.length + 4 == 4 * (run.hdr / 65536)
     let crc := (crc32 run.rx).toNat
     let good := formed && !run.broken && f.crc.toNat == crc && !run.stop
     (c.gatePort = some p) ∧ (
     (run.shut = false) ∧ (
     (good = false) ∧ (
     (run.broken = false) ∧ (
     (f.crc.toNat = 0xFFFFFFFF - crc)))))) ∧
    (
     let f : FrameTail := ⟨0x0002FF00, [], 0, false, 0⟩
     let p : Nat := 0
     let s : State := st (joined chip)
     let c := s.chip
     let had := c.gate.run
     let begun := if had.begun = true then had else { had with begun := true, hdr := f.hdr.toNat, rx := natBytes 4 f.hdr.toNat }
     let run := { begun with rx := begun.rx ++ f.rest, shut := begun.shut || c.gateShut p, broken := begun.broken || f.broken || f.misplaced != 0 }
     let formed := hdrOk run.hdr && run.rx.length + 4 == 4 * (run.hdr / 65536)
     let crc := (crc32 run.rx).toNat
     let good := formed && !run.broken && f.crc.toNat == crc && !run.stop
     (c.gatePort = some p) ∧ (
     (run.shut = false) ∧ (
     (good = false) ∧ (
     (run.broken = true ∨ f.crc.toNat ≠ 0xFFFFFFFF - crc))))) ∧
    (
     let p : Nat := 0
     let s : State := st (joined chip)
     let c := s.chip
     let had := c.gate.run
     (c.gatePort = some p) ∧ (
     (c.gate.saved = none) ∧ (
     (had.hadUrg = false)))) ∧
    (
     let p : Nat := 0
     let s : State := st (let c := joined chip; { c with gate := { c.gate with run := { hadUrg := true } } })
     let c := s.chip
     let had := c.gate.run
     (c.gatePort = some p) ∧ (
     (c.gate.saved ≠ none ∨ had.hadUrg = true))) ∧
    (
     let p : Nat := 0
     let s : State := st (let c := joined chip; { c with gate := { c.gate with saved := some {}, urgEnd := true } })
     let c := s.chip
     (c.gatePort = some p) ∧ (
     let w : FrameRun := {}
     (c.gate.saved = some w) ∧ (
     (c.gate.urgEnd = true)))) ∧
    (
     let p : Nat := 0
     let s : State := st (joined chip)
     let c := s.chip
     (c.gatePort = some p) ∧ (
     (c.gate.saved = none ∨ c.gate.urgEnd = false))) ∧
    (
     let r : Requester := .mgmt
     let k : BitVec 4 := 0
     let s : State := st (chip [(Reg.GATE_STAT_ORIGIN, 1)] [(Reg.GATE_FRAME_CTL_URG 0, 5)])
     let c := s.chip
     (c.takes r Reg.GATE_URG_GO.addr = true) ∧ (
     (c.flag Reg.GATE_STAT_ORIGIN = true) ∧ (
     (c.gate.urg = none) ∧ (
     (c.wkB (Reg.GATE_FRAME_CTL_URG k.toNat) = true))))) ∧
    (
     let r : Requester := .engine 0
     let k : BitVec 4 := 5
     let s : State := st (chip [(Reg.GATE_STAT_ORIGIN, 3)] [(Reg.GATE_FRAME_CTL_URG 0, 2)])
     let c := s.chip
     (c.takes r Reg.GATE_URG_GO.addr = true) ∧ (
     (c.flag Reg.GATE_STAT_ORIGIN = false ∨ c.gate.urg ≠ none ∨ c.wkB (Reg.GATE_FRAME_CTL_URG k.toNat) = false))) ∧
    (
     let s : State := st (let c := chip [(Reg.GATE_STAT_ORIGIN, 1)]; { c with gate := { c.gate with urg := some 0, sent := [⟨1, false, 0, [⟨.map 64, 2, 0, 0, 0, List.replicate 60 0⟩], false, 72, 0⟩] } })
     let c := s.chip
     (c.coreUp = true) ∧ (
     (c.flag Reg.GATE_STAT_ORIGIN = true) ∧ (
     let j : Nat := 0
     (c.gate.urg = some j) ∧ (
     let d := c.sendDue
     let t : Nat := 200
     let into : Option SentFrame := some ⟨1, false, 0, [⟨.map 64, 2, 0, 0, 0, List.replicate 60 0⟩], false, 72, 0⟩
     (d.urgPoint j = some (t, into)))))) ∧
    (
     let s : State := st (let c := chip [(Reg.GATE_STAT_ORIGIN, 1)]; { c with ct := 1000000, gate := { c.gate with urg := some 0 } })
     let c := s.chip
     (c.coreUp = true) ∧ (
     (c.flag Reg.GATE_STAT_ORIGIN = true) ∧ (
     let j : Nat := 0
     (c.gate.urg = some j) ∧ (
     let d := c.sendDue
     (d.urgPoint j = none))))) ∧
    (
     let s : State := st (chip)
     let c := s.chip
     (c.gate.urg = none ∨ c.coreUp = false ∨ c.flag Reg.GATE_STAT_ORIGIN = false)) ∧
    (
     let d : Chip := chip
     let now := max d.ct.toNat (d.clk.markNs + 72)
     (d.onWay now = none)) ∧
    (
     let d : Chip := let c := chip [(Reg.GATE_STAT_ORIGIN, 1)]; { c with gate := { c.gate with urg := some 0, sent := [⟨1, false, 0, [⟨.map 64, 2, 0, 0, 0, List.replicate 60 0⟩], false, 72, 0⟩] } }
     let now := max d.ct.toNat (d.clk.markNs + 72)
     let x : SentFrame := ⟨1, false, 0, [⟨.map 64, 2, 0, 0, 0, List.replicate 60 0⟩], false, 72, 0⟩
     (d.onWay now = some x) ∧ (
     let b := 32 * max 1 (((now - x.start) / 4 * d.tailWidth + 31) / 32)
     (x.urgent = false) ∧ (
     (x.late = 0) ∧ (
     (b < x.bytes))))) ∧
    (
     let d : Chip := let c := chip [(Reg.GATE_STAT_ORIGIN, 1)]; { c with gate := { c.gate with urg := some 0, sent := [⟨1, false, 0, [⟨.map 64, 2, 0, 0, 0, List.replicate 60 0⟩], false, 72, 40⟩] } }
     let now := max d.ct.toNat (d.clk.markNs + 72)
     let x : SentFrame := ⟨1, false, 0, [⟨.map 64, 2, 0, 0, 0, List.replicate 60 0⟩], false, 72, 40⟩
     (d.onWay now = some x) ∧ (
     let b := 32 * max 1 (((now - x.start) / 4 * d.tailWidth + 31) / 32)
     (x.urgent = true ∨ x.late ≠ 0 ∨ x.bytes ≤ b))) ∧
    (
     let g : ReturnedFrame := ⟨0, 0, false, true, []⟩
     let s : State := st (chip)
     let c := s.chip
     (c.coreUp = true) ∧ (
     let d := c.sendBefore g.frame.toNat g.urgent
     let back := d.gate.sent.find? (fun x => x.index == g.frame.toNat && x.urgent == g.urgent)
     (back = none))) ∧
    (
     let g : ReturnedFrame := ⟨0, 0, false, true, []⟩
     let s : State := st (let c := (chip [(Reg.CHAIN_STAT_ROLE, 1), (Reg.LINK_STAT_ROLE 0, 1), (Reg.LINK_STAT_STATE 0, 7)]); { c with gate := { c.gate with sent := [⟨0, false, 0, [], false, 0, 0⟩] } })
     let c := s.chip
     (c.coreUp = true) ∧ (
     let d := c.sendBefore g.frame.toNat g.urgent
     let x : SentFrame := ⟨0, false, 0, [], false, 0, 0⟩
     let back := d.gate.sent.find? (fun x => x.index == g.frame.toNat && x.urgent == g.urgent)
     (back = some x) ∧ (
     let ends := (d.bridgePort = none ∧ d.tailPort = some g.port.val) ∨ (d.bridgePort = some g.port.val ∧ x.relayed = true)
     (ends) ∧ (
     (g.good = true))))) := by
  refine ⟨?_, ?_, ?_, ?_, ?_, ?_, ?_, ?_, ?_, ?_, ?_, ?_, ?_, ?_, ?_, ?_, ?_, ?_, ?_⟩ <;> dsimp only <;> decide +kernel

/-- Witnesses of the hypotheses of Obligations.FrameEndResults (part 2). -/
theorem meets_FrameEndResults_2 :
    (
     let g : ReturnedFrame := ⟨0, 0, false, false, []⟩
     let s : State := st (let c := (chip [(Reg.CHAIN_STAT_ROLE, 1), (Reg.LINK_STAT_ROLE 0, 1), (Reg.LINK_STAT_STATE 0, 7)]); { c with gate := { c.gate with sent := [⟨0, false, 0, [], false, 0, 0⟩] } })
     let c := s.chip
     (c.coreUp = true) ∧ (
     let d := c.sendBefore g.frame.toNat g.urgent
     let x : SentFrame := ⟨0, false, 0, [], false, 0, 0⟩
     let back := d.gate.sent.find? (fun x => x.index == g.frame.toNat && x.urgent == g.urgent)
     (back = some x) ∧ (
     let ends := (d.bridgePort = none ∧ d.tailPort = some g.port.val) ∨ (d.bridgePort = some g.port.val ∧ x.relayed = true)
     (ends) ∧ (
     (g.good = false))))) ∧
    (
     let g : ReturnedFrame := ⟨0, 0, false, true, []⟩
     let s : State := st (let c := works [(Reg.CHAIN_CFG_BR_EN, 1)] (chip [(Reg.CHAIN_STAT_ROLE, 1), (Reg.LINK_STAT_ROLE 0, 1), (Reg.LINK_STAT_STATE 0, 7), (Reg.LINK_STAT_STATE 1, 7)]); { c with gate := { c.gate with sent := [⟨0, false, 0, [], false, 0, 0⟩] } })
     let c := s.chip
     (c.coreUp = true) ∧ (
     let d := c.sendBefore g.frame.toNat g.urgent
     let x : SentFrame := ⟨0, false, 0, [], false, 0, 0⟩
     let back := d.gate.sent.find? (fun x => x.index == g.frame.toNat && x.urgent == g.urgent)
     (back = some x) ∧ (
     let q : Nat := 1
     (d.bridgePort = some q) ∧ (
     (q ≠ g.port.val) ∧ (
     (x.relayed = false)))))) ∧
    (
     let g : ReturnedFrame := ⟨1, 0, false, true, []⟩
     let s : State := st (let c := (chip [(Reg.CHAIN_STAT_ROLE, 1), (Reg.LINK_STAT_ROLE 0, 1), (Reg.LINK_STAT_STATE 0, 7)]); { c with gate := { c.gate with sent := [⟨0, false, 0, [], false, 0, 0⟩] } })
     let c := s.chip
     (c.coreUp = true) ∧ (
     let d := c.sendBefore g.frame.toNat g.urgent
     let x : SentFrame := ⟨0, false, 0, [], false, 0, 0⟩
     let back := d.gate.sent.find? (fun x => x.index == g.frame.toNat && x.urgent == g.urgent)
     (back = some x) ∧ (
     (d.bridgePort = none) ∧ (
     (d.tailPort ≠ some g.port.val))))) ∧
    (
     let d : Chip := chip
     (d.coreUp = true) ∧ (
     let a : Nat := 0
     let v : Nat := 0
     ((d.busWrite .gate a v).1 = .done))) ∧
    (
     let d : Chip := chip [(Reg.SYS_ARMED, 2 ^ groupOfBlk 11)]
     (d.coreUp = true) ∧ (
     let a : Nat := (Reg.CUFF_POL_SRC 0).addr
     let v : Nat := 1
     ((d.busWrite .gate a v).1 = .reject))) ∧
    (
     let d : Chip := { chip with pwr := { coreRst := false, fieldRst := false }, sync := { mbx := [(0, { head := 6, count := 2 })] } }
     (d.coreUp = true) ∧ (
     let m : Nat := 0
     let b : Nat := 0
     let n : Nat := 0
     (d.mbxPeek m = some (b, n)))) ∧
    (
     let d : Chip := { chip [(Reg.SYS_ARM_CYC, 1)] with arm := { on := true }, pwr := { coreRst := false, fieldRst := false } }
     (d.coreUp = true) ∧ (
     let mask : Nat := 0
     let target : Nat := 1
     (d.armFits mask target = true) ∧ (
     (later target (d.get Reg.CLK_CYC_NUM) = true)))) := by
  refine ⟨?_, ?_, ?_, ?_, ?_, ?_, ?_⟩ <;> dsimp only <;> decide +kernel

/-- Witnesses of the hypotheses of Obligations.ChainCommandResults (part 1). -/
theorem meets_ChainCommandResults_1 :
    (
     let r : Requester := .engine 0
     let s : State := st (chip)
     let c := s.chip
     (c.takes r Reg.CHAIN_ASSIGN_UID0.addr = true)) ∧
    (
     let r : Requester := .engine 0
     let s : State := st (chip)
     let c := s.chip
     (c.takes r Reg.CHAIN_ASSIGN_UID1.addr = true)) ∧
    (
     let r : Requester := .gate
     let w : BitVec 32 := 1022
     let s : State := st { chip with chain := { uid0 := Sys2Proof.Config.uid.toNat % 2 ^ 32, uid1 := Sys2Proof.Config.uid.toNat / 2 ^ 32 } }
     let c := s.chip
     let st := bits w.toNat 9 0
     let mine := c.chain.uid0 + 2 ^ 32 * c.chain.uid1 = Sys2Proof.Config.uid.toNat
     (c.takes r Reg.CHAIN_ASSIGN_STATION.addr = true) ∧ (
     (mine) ∧ (
     (1 ≤ st) ∧ (
     (st ≤ 1022))))) ∧
    (
     let r : Requester := .gate
     let w : BitVec 32 := 0
     let s : State := st chip
     let c := s.chip
     let st := bits w.toNat 9 0
     let mine := c.chain.uid0 + 2 ^ 32 * c.chain.uid1 = Sys2Proof.Config.uid.toNat
     (c.takes r Reg.CHAIN_ASSIGN_STATION.addr = true) ∧ (
     (¬mine ∨ st = 0 ∨ 1022 < st))) ∧
    (
     let s : State := st (let c := chip [(Reg.CHAIN_ADDR_STATION, 7), (Reg.CHAIN_STAT_ADDR_VALID, 1)] [(Reg.CHAIN_CFG_STICKY_SAVE, 1)]; { c with chain := { c.chain with newAddr := true } })
     let c := s.chip
     let held := c.get Reg.CHAIN_ADDR_STATION + 1024 * c.get Reg.CHAIN_ADDR_RING
     let kept := c.get Reg.CHAIN_INFO2_STICKY + 1024 * c.get Reg.CHAIN_INFO2_S_RING
     (c.coreUp = true) ∧ (
     (c.isHead = false) ∧ (
     (c.wkB Reg.CHAIN_CFG_STICKY_SAVE = true) ∧ (
     (c.flag Reg.CHAIN_STAT_ADDR_VALID = true) ∧ (
     (c.chain.newAddr = true) ∧ (
     (c.bkg.pend.contains ⟨0, false, [held, 0, 0, 0], false⟩ = false) ∧ (
     (c.bkg.written.contains ⟨0, false, [held, 0, 0, 0], false⟩ = false) ∧ (
     (c.flag Reg.CHAIN_INFO2_S_VALID = false ∨ kept ≠ held))))))))) ∧
    (
     let s : State := st (chip [(Reg.CHAIN_INFO2_S_RING, 3)])
     let c := s.chip
     let held := c.get Reg.CHAIN_ADDR_STATION + 1024 * c.get Reg.CHAIN_ADDR_RING
     let kept := c.get Reg.CHAIN_INFO2_STICKY + 1024 * c.get Reg.CHAIN_INFO2_S_RING
     (c.isHead = true ∨ c.wkB Reg.CHAIN_CFG_STICKY_SAVE = false ∨ c.flag Reg.CHAIN_STAT_ADDR_VALID = false ∨ c.chain.newAddr = false ∨ (c.flag Reg.CHAIN_INFO2_S_VALID = true ∧ kept = held))) ∧
    (
     let r : Requester := .engine 0
     let s : State := st (chip)
     let c := s.chip
     (c.takes r Reg.CHAIN_STICKY_CLR.addr = true)) ∧
    (
     let r : Requester := .engine 0
     let w : BitVec 32 := 1794732421
     let s : State := st (chip [(Reg.CLK_CYC_NUM, 0)])
     let c := s.chip
     let n := c.get Reg.CLK_CYC_NUM
     let a := Reg.CHAIN_DETACH.addr
     (c.takes r a = true) ∧ (
     (w ≠ 0) ∧ (
     (c.isHead = false) ∧ (
     (2 ≤ sub32 w.toNat n) ∧ (
     (sub32 w.toNat n < 2 ^ 31)))))) ∧
    (
     let r : Requester := .mgmt
     let w : BitVec 32 := 1
     let s : State := st (chip [(Reg.CLK_CYC_NUM, 7)])
     let c := s.chip
     let n := c.get Reg.CLK_CYC_NUM
     let a := Reg.CHAIN_DETACH.addr
     (c.takes r a = true) ∧ (
     (w ≠ 0) ∧ (
     (c.isHead = true ∨ sub32 w.toNat n < 2 ∨ 2 ^ 31 ≤ sub32 w.toNat n)))) ∧
    (
     let r : Requester := .mgmt
     let w : BitVec 32 := 0
     let s : State := st (chip)
     let c := s.chip
     let a := Reg.CHAIN_DETACH.addr
     (c.takes r a = true) ∧ (
     (w = 0))) ∧
    (
     let s : State := st ({ chip [(Reg.CHAIN_STAT_ROLE, 4), (Reg.LINK_STAT_ROLE 0, 1)] with pwr := { coreRst := false, fieldRst := false }, chain := { detach := some (0) } })
     let c := s.chip
     let n := c.get Reg.CLK_CYC_NUM
     (c.coreUp = true) ∧ (
     (c.chain.detach = some n) ∧ (
     let t := ({ c with chain := { c.chain with detach := none, lift := false } }.foldBack).put Reg.CHAIN_STAT_DETACHED 1
     let p : Nat := 0
     (t.tailPort = some p)))) ∧
    (
     let s : State := st ({ chip [(Reg.CHAIN_STAT_DETACHED, 3)] with pwr := { coreRst := false, fieldRst := false }, chain := { detach := some (0) } })
     let c := s.chip
     let n := c.get Reg.CLK_CYC_NUM
     (c.coreUp = true) ∧ (
     (c.chain.detach = some n) ∧ (
     let t := ({ c with chain := { c.chain with detach := none, lift := false } }.foldBack).put Reg.CHAIN_STAT_DETACHED 1
     (t.tailPort = none)))) ∧
    (
     let s : State := st (chip)
     let c := s.chip
     let n := c.get Reg.CLK_CYC_NUM
     (c.chain.detach ≠ some n)) ∧
    (
     let s : State := st ({ chip [(Reg.CHAIN_STAT_ROLE, 5), (Reg.FLASK_FSTAT_STATE 0, 3)] with pwr := { coreRst := false, fieldRst := false }, chain := { rsv := 16, noEpoch := true } })
     let c := s.chip
     (c.coreUp = true) ∧ (
     (c.epochDue = true))) ∧
    (
     let s : State := st (chip)
     let c := s.chip
     (c.epochDue = false)) ∧
    (
     let r : Requester := .engine 0
     let w : BitVec 32 := 1794732421
     let s : State := st (chip [(Reg.CHAIN_STAT_ROLE, 4)])
     let c := s.chip
     let word := c.ckptWord 63 w.toNat
     let ck := (Reg.CHAIN_CKPT_IN 63).addr
     (c.takes r ck = true) ∧ (
     (word.get Reg.CHAIN_STAT_ROLE ≠ 2 ∨ word.chain.words.get 0 1 / 65536 ≠ 141))) := by
  refine ⟨?_, ?_, ⟨by decide +kernel, Nat.mod_add_div _ _, by decide, by decide⟩, ⟨by decide +kernel, Or.inr (Or.inl (by decide +kernel))⟩, ?_, ?_, ?_, ?_, ?_, ?_, ?_, ?_, ?_, ?_, ?_, ?_⟩ <;> dsimp only <;> decide +kernel

/-- Witnesses of the hypotheses of Obligations.ChainCommandResults (part 2). -/
theorem meets_ChainCommandResults_2 :
    (
     let r : Requester := .gate
     let w : BitVec 32 := 0
     let s : State := st (chunkIn 5 140 (some (5, 140)) chip)
     let c := s.chip
     let word := c.ckptWord 63 w.toNat
     let e := word.chain.words.get 0 0
     let i := word.chain.words.get 0 1 % 65536
     let ck := (Reg.CHAIN_CKPT_IN 63).addr
     (c.takes r ck = true) ∧ (
     (word.get Reg.CHAIN_STAT_ROLE = 2) ∧ (
     (word.chain.words.get 0 1 / 65536 = 141) ∧ (
     let k : Nat := 5
     let next : Nat := 140
     (word.chain.part = some (k, next)) ∧ (
     (e = k) ∧ (
     (i = next) ∧ (
     (next < 141)))))))) ∧
    (
     let r : Requester := .gate
     let w : BitVec 32 := 0
     let s : State := st (chunkIn 5 140 (some (5, 141)) chip)
     let c := s.chip
     let word := c.ckptWord 63 w.toNat
     let e := word.chain.words.get 0 0
     let i := word.chain.words.get 0 1 % 65536
     let ck := (Reg.CHAIN_CKPT_IN 63).addr
     (c.takes r ck = true) ∧ (
     (word.get Reg.CHAIN_STAT_ROLE = 2) ∧ (
     (word.chain.words.get 0 1 / 65536 = 141) ∧ (
     let k : Nat := 5
     let next : Nat := 141
     (word.chain.part = some (k, next)) ∧ (
     (e = k) ∧ (
     (i + 1 = next))))))) ∧
    (
     let r : Requester := .gate
     let w : BitVec 32 := 0
     let s : State := st (chunkIn 5 0 (some (4, 141)) chip)
     let c := s.chip
     let word := c.ckptWord 63 w.toNat
     let e := word.chain.words.get 0 0
     let i := word.chain.words.get 0 1 % 65536
     let ck := (Reg.CHAIN_CKPT_IN 63).addr
     (c.takes r ck = true) ∧ (
     (word.get Reg.CHAIN_STAT_ROLE = 2) ∧ (
     (word.chain.words.get 0 1 / 65536 = 141) ∧ (
     let k : Nat := 4
     let next : Nat := 141
     (word.chain.part = some (k, next)) ∧ (
     (i = 0) ∧ (
     (later e k = true) ∧ (
     (e ≠ k)))))))) ∧
    (
     let r : Requester := .gate
     let w : BitVec 32 := 0
     let s : State := st (chunkIn 5 2 (some (5, 1)) chip)
     let c := s.chip
     let word := c.ckptWord 63 w.toNat
     let e := word.chain.words.get 0 0
     let i := word.chain.words.get 0 1 % 65536
     let ck := (Reg.CHAIN_CKPT_IN 63).addr
     (c.takes r ck = true) ∧ (
     (word.get Reg.CHAIN_STAT_ROLE = 2) ∧ (
     (word.chain.words.get 0 1 / 65536 = 141) ∧ (
     let k : Nat := 5
     let next : Nat := 1
     (word.chain.part = some (k, next)) ∧ (
     (e = k) ∧ (
     (i ≠ next) ∧ (
     (i + 1 ≠ next)))))))) ∧
    (
     let r : Requester := .gate
     let w : BitVec 32 := 0
     let s : State := st (chunkIn 4 0 (some (5, 1)) chip)
     let c := s.chip
     let word := c.ckptWord 63 w.toNat
     let e := word.chain.words.get 0 0
     let i := word.chain.words.get 0 1 % 65536
     let ck := (Reg.CHAIN_CKPT_IN 63).addr
     (c.takes r ck = true) ∧ (
     (word.get Reg.CHAIN_STAT_ROLE = 2) ∧ (
     (word.chain.words.get 0 1 / 65536 = 141) ∧ (
     let k : Nat := 5
     let next : Nat := 1
     (word.chain.part = some (k, next)) ∧ (
     (e ≠ k) ∧ (
     (i ≠ 0 ∨ later e k = false))))))) ∧
    (
     let r : Requester := .gate
     let w : BitVec 32 := 0
     let s : State := st (chunkIn 4 0 none chip)
     let c := s.chip
     let word := c.ckptWord 63 w.toNat
     let e := word.chain.words.get 0 0
     let i := word.chain.words.get 0 1 % 65536
     let ck := (Reg.CHAIN_CKPT_IN 63).addr
     (c.takes r ck = true) ∧ (
     (word.get Reg.CHAIN_STAT_ROLE = 2) ∧ (
     (word.chain.words.get 0 1 / 65536 = 141) ∧ (
     (word.chain.part = none) ∧ (
     (i = 0) ∧ (
     (word.chain.complete = false ∨ later e (word.get Reg.CHAIN_EPOCH_OK) = true))))))) ∧
    (
     let r : Requester := .gate
     let w : BitVec 32 := 0
     let s : State := st (chunkIn 4 1 none chip)
     let c := s.chip
     let word := c.ckptWord 63 w.toNat
     let e := word.chain.words.get 0 0
     let i := word.chain.words.get 0 1 % 65536
     let ck := (Reg.CHAIN_CKPT_IN 63).addr
     (c.takes r ck = true) ∧ (
     (word.get Reg.CHAIN_STAT_ROLE = 2) ∧ (
     (word.chain.words.get 0 1 / 65536 = 141) ∧ (
     (word.chain.part = none) ∧ (
     (i ≠ 0 ∨ (word.chain.complete = true ∧ later e (word.get Reg.CHAIN_EPOCH_OK) = false))))))) ∧
    (
     let s : State := st (let c := joined (chip [(Reg.CHAIN_STAT_ROLE, 2), (Reg.CHAIN_STAT_ADDR_VALID, 1)] [(Reg.CHAIN_CFG_RSV_EN, 1)]); let c := { c with folded := true, clk := { c.clk with missed := 3 }, chain := { c.chain with complete := true } }; c.stbs 0xC800C [1])
     let c := s.chip
     (c.coreUp = true) ∧ (
     (c.ready = true) ∧ (
     (3 ≤ c.clk.missed) ∧ (
     (c.chain.taking = false))))) ∧
    (
     let d : Chip := joined chip
     let p : Nat := 0
     ((d.put Reg.CLK_STATUS_SYNC 2).headPort = some p)) ∧
    (
     let s : State := st (chip)
     let c := s.chip
     (c.ready = false ∨ c.clk.missed < 3 ∨ c.chain.taking = true)) ∧
    (
     let r : Requester := .engine 0
     let s : State := st (chip)
     let c := s.chip
     (c.takes r Reg.CHAIN_REV_Q.addr = true)) ∧
    (
     let r : Requester := .engine 0
     let lead : BitVec 4 := 5
     let s : State := st (chip [(Reg.CHAIN_STAT_ROLE, 3)])
     let c := s.chip
     let role := c.get Reg.CHAIN_STAT_ROLE
     (c.takes r Reg.CHAIN_HANDBACK_GO.addr = true) ∧ (
     (role = 3) ∧ (
     (2 ≤ lead.toNat)))) ∧
    (
     let r : Requester := .engine 21
     let lead : BitVec 4 := 1
     let s : State := st (chip [(Reg.CHAIN_STAT_ROLE, 5)])
     let c := s.chip
     let role := c.get Reg.CHAIN_STAT_ROLE
     (c.takes r Reg.CHAIN_HANDBACK_GO.addr = true) ∧ (
     (role ≠ 3 ∨ lead.toNat < 2))) ∧
    (
     let s : State := st ({ chip [(Reg.CHAIN_STAT_ROLE, 7), (Reg.CLK_CYC_NUM, 2)] with pwr := { coreRst := false, fieldRst := false }, chain := { hand := some (0) } })
     let c := s.chip
     let n := c.get Reg.CLK_CYC_NUM
     let role := c.get Reg.CHAIN_STAT_ROLE
     (c.coreUp = true) ∧ (
     (role = 3) ∧ (
     let h : Nat := 0
     (c.chain.hand = some h) ∧ (
     (later h ((n + 1) % 2 ^ 32) = false))))) ∧
    (
     let s : State := st (chip)
     let c := s.chip
     let role := c.get Reg.CHAIN_STAT_ROLE
     (c.chain.hand = none ∨ role ≠ 3)) ∧
    (
     let s : State := st (chip [(Reg.CHAIN_STAT_ROLE, 5)])
     let c := s.chip
     (c.coreUp = true) ∧ (
     (c.isHead = true))) := by
  refine ⟨?_, ?_, ?_, ?_, ?_, ?_, ?_, ?_, ?_, ?_, ?_, ?_, ?_, ?_, ?_, ?_⟩ <;> dsimp only <;> decide +kernel

/-- Witnesses of the hypotheses of Obligations.ChainCommandResults (part 3). -/
theorem meets_ChainCommandResults_3 :
    (
     let q : Fin 2 := 1
     let s : State := st (regs [(Reg.LINK_STAT_ROLE 1, 1)] (joined chip))
     let c := s.chip
     (c.coreUp = true) ∧ (
     (c.isHead = false) ∧ (
     (c.tailPort = some q.val)))) ∧
    (
     let q : Fin 2 := 0
     let s : State := st (regs [(Reg.LINK_STAT_ROLE 1, 1)] (joined chip))
     let c := s.chip
     (c.coreUp = true) ∧ (
     (c.isHead = false) ∧ (
     (c.tailPort ≠ some q.val)))) := by
  refine ⟨?_, ?_⟩ <;> dsimp only <;> decide +kernel

/-- Witnesses of the hypotheses of Obligations.EngineControlResults (part 1). -/
theorem meets_EngineControlResults_1 :
    (
     let r : Requester := .engine 21
     let e : Fin 32 := 17
     let s : State := st (chip)
     let c := s.chip
     let n := e.val
     let start := (Reg.ENG_CTL_START n).addr
     (c.mayCtl r n = false) ∧ (
     (c.takes r start = true))) ∧
    (
     let r : Requester := .engine 21
     let e : Fin 32 := 17
     let s : State := st (chip)
     let c := s.chip
     let n := e.val
     let halt := (Reg.ENG_CTL_HALT n).addr
     (c.mayCtl r n = false) ∧ (
     (c.takes r halt = true))) ∧
    (
     let r : Requester := .engine 21
     let e : Fin 32 := 17
     let s : State := st (chip)
     let c := s.chip
     let n := e.val
     let resume := (Reg.ENG_CTL_RESUME n).addr
     (c.mayCtl r n = false) ∧ (
     (c.takes r resume = true))) ∧
    (
     let r : Requester := .engine 21
     let e : Fin 32 := 17
     let s : State := st (chip)
     let c := s.chip
     let n := e.val
     let reset := (Reg.ENG_CTL_RESET n).addr
     (c.mayCtl r n = false) ∧ (
     (c.takes r reset = true))) ∧
    (
     let r : Requester := .engine 21
     let e : Fin 32 := 17
     let s : State := st (chip)
     let c := s.chip
     let n := e.val
     let armS := (Reg.ENG_CTL_ARM_START n).addr
     (c.mayCtl r n = false) ∧ (
     (c.takes r armS = true))) ∧
    (
     let r : Requester := .engine 21
     let e : Fin 32 := 17
     let s : State := st (chip)
     let c := s.chip
     let n := e.val
     let armH := (Reg.ENG_CTL_ARM_HALT n).addr
     (c.mayCtl r n = false) ∧ (
     (c.takes r armH = true))) ∧
    (
     let r : Requester := .engine 21
     let e : Fin 32 := 17
     let s : State := st (chip)
     let c := s.chip
     let n := e.val
     let clr := (Reg.ENG_CTL_ARM_CLR n).addr
     (c.mayCtl r n = false) ∧ (
     (c.takes r clr = true))) ∧
    (
     let r : Requester := .gate
     let e : Fin 32 := 0
     let s : State := st (chip [(Reg.ENG_STAT_ARM_START 0, 4)])
     let c := s.chip
     let n := e.val
     let st := c.engState n
     let armed := c.flag (Reg.ENG_STAT_ARM_START n) = true ∨ c.flag (Reg.ENG_STAT_ARM_HALT n) = true
     let start := (Reg.ENG_CTL_START n).addr
     (c.mayCtl r n = true) ∧ (
     (c.takes r start = true) ∧ (
     (st = 0) ∧ (
     (c.loadingTo n = false) ∧ (
     (¬armed)))))) ∧
    (
     let r : Requester := .engine 0
     let e : Fin 32 := 0
     let s : State := st (chip [(Reg.ENG_STAT_ARM_HALT 0, 7)])
     let c := s.chip
     let n := e.val
     let st := c.engState n
     let armed := c.flag (Reg.ENG_STAT_ARM_START n) = true ∨ c.flag (Reg.ENG_STAT_ARM_HALT n) = true
     let start := (Reg.ENG_CTL_START n).addr
     (c.mayCtl r n = true) ∧ (
     (c.takes r start = true) ∧ (
     (st ≠ 0 ∨ c.loadingTo n = true ∨ armed)))) ∧
    (
     let r : Requester := .engine 0
     let e : Fin 32 := 0
     let s : State := st (chip)
     let c := s.chip
     let n := e.val
     let st := c.engState n
     let halt := (Reg.ENG_CTL_HALT n).addr
     (c.mayCtl r n = true) ∧ (
     (c.takes r halt = true) ∧ (
     (st = 0)))) ∧
    (
     let r : Requester := .mgmt
     let e : Fin 32 := 0
     let s : State := st (chip [(Reg.ENG_STAT_STATE 0, 1), (Reg.FLASK_FSTAT_STATE 0, 1)] [(Reg.ENG_CFG_SUPV_EN 0, 4), (Reg.ENG_CFG_SUPV_ENG 0, 0)])
     let c := s.chip
     let n := e.val
     let st := c.engState n
     let halt := (Reg.ENG_CTL_HALT n).addr
     (c.mayCtl r n = true) ∧ (
     (c.takes r halt = true) ∧ (
     (st = 1 ∨ st = 2)))) ∧
    (
     let r : Requester := .mgmt
     let e : Fin 32 := 0
     let s : State := st (chip [(Reg.ENG_TRAP_CAUSE 0, 8), (Reg.ENG_STAT_STATE 0, 3)] [(Reg.ENG_CFG_SUPV_EN 0, 0), (Reg.ENG_CFG_SUPV_ENG 0, 5)])
     let c := s.chip
     let n := e.val
     let st := c.engState n
     let soft := st = 3 ∧ c.get (Reg.ENG_TRAP_CAUSE n) = 8
     let halt := (Reg.ENG_CTL_HALT n).addr
     (c.mayCtl r n = true) ∧ (
     (c.takes r halt = true) ∧ (
     (soft)))) ∧
    (
     let r : Requester := .mgmt
     let e : Fin 32 := 0
     let s : State := st (chip [(Reg.ENG_STAT_STATE 0, 4), (Reg.FLASK_FSTAT_STATE 0, 8)] [(Reg.ENG_CFG_SUPV_ENG 0, 8)])
     let c := s.chip
     let n := e.val
     let st := c.engState n
     let soft := st = 3 ∧ c.get (Reg.ENG_TRAP_CAUSE n) = 8
     let halt := (Reg.ENG_CTL_HALT n).addr
     (c.mayCtl r n = true) ∧ (
     (c.takes r halt = true) ∧ (
     (st = 4 ∨ (st = 3 ∧ ¬soft))))) ∧
    (
     let r : Requester := .mgmt
     let e : Fin 32 := 0
     let s : State := st ({ chip [(Reg.ENG_TRAP_CAUSE 0, 8), (Reg.ENG_STAT_STATE 0, 3), (Reg.FLASK_FSTAT_STATE 0, 1)] [(Reg.ENG_CFG_SUPV_EN 0, 7), (Reg.ENG_CFG_SUPV_ENG 0, 0)] with loader := { run := some ((31, (5, 63))) } })
     let c := s.chip
     let n := e.val
     let st := c.engState n
     let soft := st = 3 ∧ c.get (Reg.ENG_TRAP_CAUSE n) = 8
     let resume := (Reg.ENG_CTL_RESUME n).addr
     (c.mayCtl r n = true) ∧ (
     (c.takes r resume = true) ∧ (
     (soft) ∧ (
     (c.loadingTo n = false))))) ∧
    (
     let r : Requester := .engine 0
     let e : Fin 32 := 0
     let s : State := st (chip [(Reg.ENG_TRAP_CAUSE 0, 7)])
     let c := s.chip
     let n := e.val
     let st := c.engState n
     let soft := st = 3 ∧ c.get (Reg.ENG_TRAP_CAUSE n) = 8
     let resume := (Reg.ENG_CTL_RESUME n).addr
     (c.mayCtl r n = true) ∧ (
     (c.takes r resume = true) ∧ (
     (¬soft ∨ c.loadingTo n = true)))) ∧
    (
     let r : Requester := .engine 0
     let e : Fin 32 := 0
     let s : State := st (chip [(Reg.ENG_TRAP_CAUSE 0, 7)])
     let c := s.chip
     let n := e.val
     let st := c.engState n
     let soft := st = 3 ∧ c.get (Reg.ENG_TRAP_CAUSE n) = 8
     let reset := (Reg.ENG_CTL_RESET n).addr
     (c.mayCtl r n = true) ∧ (
     (c.takes r reset = true) ∧ (
     (st = 0 ∨ soft)))) := by
  refine ⟨?_, ?_, ?_, ?_, ?_, ?_, ?_, ?_, ?_, ?_, ?_, ?_, ?_, ?_, ?_, ?_⟩ <;> dsimp only <;> decide +kernel

/-- Witnesses of the hypotheses of Obligations.EngineControlResults (part 2). -/
theorem meets_EngineControlResults_2 :
    (
     let r : Requester := .engine 0
     let e : Fin 32 := 0
     let s : State := st (chip [(Reg.ENG_TRAP_CAUSE 0, 8), (Reg.ENG_STAT_STATE 0, 5), (Reg.FLASK_FSTAT_STATE 0, 0)])
     let c := s.chip
     let n := e.val
     let st := c.engState n
     let soft := st = 3 ∧ c.get (Reg.ENG_TRAP_CAUSE n) = 8
     let reset := (Reg.ENG_CTL_RESET n).addr
     (c.mayCtl r n = true) ∧ (
     (c.takes r reset = true) ∧ (
     (st ≠ 0) ∧ (
     (¬soft))))) ∧
    (
     let r : Requester := .engine 0
     let e : Fin 32 := 0
     let s : State := st (chip)
     let c := s.chip
     let n := e.val
     let st := c.engState n
     let armS := (Reg.ENG_CTL_ARM_START n).addr
     (c.mayCtl r n = true) ∧ (
     (c.takes r armS = true) ∧ (
     (st = 0) ∧ (
     (c.loadingTo n = false))))) ∧
    (
     let r : Requester := .mgmt
     let e : Fin 32 := 0
     let s : State := st (chip [(Reg.ENG_STAT_STATE 0, 3), (Reg.FLASK_FSTAT_STATE 0, 7)] [(Reg.ENG_CFG_SUPV_EN 0, 2), (Reg.ENG_CFG_SUPV_ENG 0, 1)])
     let c := s.chip
     let n := e.val
     let st := c.engState n
     let armS := (Reg.ENG_CTL_ARM_START n).addr
     (c.mayCtl r n = true) ∧ (
     (c.takes r armS = true) ∧ (
     (st ≠ 0 ∨ c.loadingTo n = true)))) ∧
    (
     let r : Requester := .mgmt
     let e : Fin 32 := 0
     let s : State := st (chip [(Reg.ENG_STAT_STATE 0, 1), (Reg.FLASK_FSTAT_STATE 0, 1)] [(Reg.ENG_CFG_SUPV_EN 0, 4), (Reg.ENG_CFG_SUPV_ENG 0, 0)])
     let c := s.chip
     let n := e.val
     let st := c.engState n
     let armH := (Reg.ENG_CTL_ARM_HALT n).addr
     (c.mayCtl r n = true) ∧ (
     (c.takes r armH = true) ∧ (
     (st = 1 ∨ st = 2)))) ∧
    (
     let r : Requester := .engine 0
     let e : Fin 32 := 0
     let s : State := st (chip)
     let c := s.chip
     let n := e.val
     let st := c.engState n
     let armH := (Reg.ENG_CTL_ARM_HALT n).addr
     (c.mayCtl r n = true) ∧ (
     (c.takes r armH = true) ∧ (
     (st ≠ 1) ∧ (
     (st ≠ 2))))) ∧
    (
     let r : Requester := .engine 0
     let e : Fin 32 := 0
     let s : State := st (chip)
     let c := s.chip
     let n := e.val
     let clr := (Reg.ENG_CTL_ARM_CLR n).addr
     (c.mayCtl r n = true) ∧ (
     (c.takes r clr = true))) ∧
    (
     let r : Requester := .engine 0
     let mask : BitVec 32 := 1794732421
     let s : State := st (chip)
     let c := s.chip
     let named := (List.range 32).filter (fun k => bit mask.toNat k)
     (c.takes r Reg.ENG_START_MASK.addr = true) ∧ (
     (named.any (fun k => !c.mayCtl r k) = true))) ∧
    (
     let r : Requester := .mgmt
     let mask : BitVec 32 := 16
     let s : State := st (chip)
     let c := s.chip
     let named := (List.range 32).filter (fun k => bit mask.toNat k)
     (c.takes r Reg.ENG_START_MASK.addr = true) ∧ (
     (named.any (fun k => !c.mayCtl r k) = false) ∧ (
     (named.any (fun k => c.engState k != 0 || c.loadingTo k) = false)))) ∧
    (
     let r : Requester := .mgmt
     let mask : BitVec 32 := 635286738
     let s : State := st ({ chip [(Reg.FLASK_FSTAT_STATE 0, 8)] [(Reg.ENG_CFG_SUPV_ENG 0, 32)] with loader := { run := some ((6, (3, 0))) } })
     let c := s.chip
     let named := (List.range 32).filter (fun k => bit mask.toNat k)
     (c.takes r Reg.ENG_START_MASK.addr = true) ∧ (
     (named.any (fun k => !c.mayCtl r k) = false) ∧ (
     (named.any (fun k => c.engState k != 0 || c.loadingTo k) = true)))) ∧
    (
     let r : Requester := .engine 0
     let mask : BitVec 32 := 1794732421
     let s : State := st (chip)
     let c := s.chip
     let named := (List.range 32).filter (fun k => bit mask.toNat k)
     (c.takes r Reg.ENG_HALT_MASK.addr = true) ∧ (
     (named.any (fun k => !c.mayCtl r k) = true))) ∧
    (
     let r : Requester := .mgmt
     let mask : BitVec 32 := 16
     let s : State := st (chip)
     let c := s.chip
     let named := (List.range 32).filter (fun k => bit mask.toNat k)
     (c.takes r Reg.ENG_HALT_MASK.addr = true) ∧ (
     (named.any (fun k => !c.mayCtl r k) = false) ∧ (
     (named.any (fun k => c.engState k == 3 || c.engState k == 4) = false)))) ∧
    (
     let r : Requester := .mgmt
     let mask : BitVec 32 := 1065140295
     let s : State := st (chip [(Reg.ENG_STAT_STATE 0, 3), (Reg.FLASK_FSTAT_STATE 0, 4)] [(Reg.ENG_CFG_SUPV_EN 0, 8)])
     let c := s.chip
     let named := (List.range 32).filter (fun k => bit mask.toNat k)
     (c.takes r Reg.ENG_HALT_MASK.addr = true) ∧ (
     (named.any (fun k => !c.mayCtl r k) = false) ∧ (
     (named.any (fun k => c.engState k == 3 || c.engState k == 4) = true)))) ∧
    (
     let e : Fin 32 := 0
     let s : State := st ({ chip [(Reg.ENG_STAT_STATE 0, 2)] with engs := [(0, { haltReq := true })] })
     let c := s.chip
     let n := e.val
     let st := c.engState n
     ((c.eng n).haltReq = true) ∧ (
     (st = 1 ∨ st = 2))) ∧
    (
     let e : Fin 32 := 0
     let s : State := st (chip)
     let c := s.chip
     let n := e.val
     let st := c.engState n
     ((c.eng n).haltReq = false ∨ (st ≠ 1 ∧ st ≠ 2))) ∧
    (
     let e : Fin 32 := 0
     let n := e.val
     let d : Chip := chip
     ((d.eng n).wait = .none)) := by
  refine ⟨?_, ?_, ?_, ?_, ?_, ?_, ?_, ?_, ?_, ?_, ?_, ?_, ?_, ?_, ?_⟩ <;> dsimp only <;> decide +kernel

/-- Witnesses of the hypotheses of Obligations.LoaderWatchdogWaitResults (part 1). -/
theorem meets_LoaderWatchdogWaitResults_1 :
    (
     let r : Requester := .engine 0
     let s : State := st (chip)
     let c := s.chip
     (c.takes r Reg.ENG_LOAD_SRC.addr = true)) ∧
    (
     let r : Requester := .engine 0
     let v : BitVec 32 := 1794732421
     let s : State := st (chip)
     let c := s.chip
     let tgt := bits v.toNat 4 0
     let go := Reg.ENG_LOAD_GO_ENGINE.addr
     (c.takes r go = true) ∧ (
     (c.mayCtl r tgt = false))) ∧
    (
     let r : Requester := .mgmt
     let v : BitVec 32 := 1774058000
     let s : State := st (chip [(Reg.ENG_LOAD_STAT_BUSY, 2), (Reg.ENG_STAT_ARM_START 0, 3), (Reg.SYS_ARMED, 1)])
     let c := s.chip
     let tgt := bits v.toNat 4 0
     let first := bits v.toNat 15 5
     let words := bits v.toNat 27 16
     let go := Reg.ENG_LOAD_GO_ENGINE.addr
     let src := c.loader.src
     let bad := c.engState tgt = 1 ∨ c.engState tgt = 2 ∨ words = 0 ∨ 2048 < first + words ∨ src % 4 ≠ 0 ∨ 0x100000 < src + 4 * words ∨
     (c.flag (Reg.ENG_STAT_ARM_START tgt) = true ∧ bit (c.get Reg.SYS_ARMED) 2 = true)
     (c.takes r go = true) ∧ (
     (c.mayCtl r tgt = true) ∧ (
     (c.flag Reg.ENG_LOAD_STAT_BUSY = true ∨ bad)))) ∧
    (
     let r : Requester := .mgmt
     let v : BitVec 32 := 95686994
     let s : State := st (chip)
     let c := s.chip
     let tgt := bits v.toNat 4 0
     let first := bits v.toNat 15 5
     let words := bits v.toNat 27 16
     let go := Reg.ENG_LOAD_GO_ENGINE.addr
     let src := c.loader.src
     let bad := c.engState tgt = 1 ∨ c.engState tgt = 2 ∨ words = 0 ∨ 2048 < first + words ∨ src % 4 ≠ 0 ∨ 0x100000 < src + 4 * words ∨
     (c.flag (Reg.ENG_STAT_ARM_START tgt) = true ∧ bit (c.get Reg.SYS_ARMED) 2 = true)
     (c.takes r go = true) ∧ (
     (c.mayCtl r tgt = true) ∧ (
     (c.flag Reg.ENG_LOAD_STAT_BUSY = false) ∧ (
     (¬bad))))) ∧
    (
     let s : State := st (chip)
     let c := s.chip
     (c.loader.run = none)) ∧
    (
     let k : Nat := 100
     let dst : Nat := 0
     let len : Nat := 5
     let s : State := st ({ chip with loader := { run := some ((100, (0, 5))) } })
     let c := s.chip
     (c.loader.run = some (k, dst, len)) ∧ (
     (c.active k = true))) ∧
    (
     let k : Nat := 0
     let dst : Nat := 0
     let len : Nat := 100
     let s : State := st ({ chip [(Reg.FLASK_FSTAT_STATE 0, 5)] with loader := { run := some ((0, (0, 100))) } })
     let c := s.chip
     (c.loader.run = some (k, dst, len)) ∧ (
     (c.active k = false))) ∧
    (
     let r : Requester := .mgmt
     let e : Fin 32 := 0
     let s : State := st (chip)
     let c := s.chip
     let n := e.val
     (c.coreUp = true) ∧ (
     (r = .mgmt) ∧ (
     (c.active 52 = true) ∧ (
     (c.engState n ≠ 1) ∧ (
     (c.engState n ≠ 2)))))) ∧
    (
     let r : Requester := .mgmt
     let e : Fin 32 := 0
     let s : State := st (chip [(Reg.ENG_STAT_STATE 0, 1)])
     let c := s.chip
     let n := e.val
     (c.coreUp = true) ∧ (
     (r = .mgmt) ∧ (
     (c.active 52 = true) ∧ (
     (c.engState n = 1 ∨ c.engState n = 2))))) ∧
    (
     let r : Requester := .mgmt
     let s : State := st (chip [(Reg.FLASK_FSTAT_STATE 52, 3)])
     let c := s.chip
     (c.coreUp = true) ∧ (
     (r = .mgmt) ∧ (
     (c.active 52 = false)))) ∧
    (
     let r : Requester := .engine 0
     let s : State := st (chip)
     let c := s.chip
     (c.coreUp = true) ∧ (
     (r ≠ .mgmt))) ∧
    (
     let e : Fin 32 := 0
     let s : State := st (chip [(Reg.ENG_STAT_STATE 0, 2)] [(Reg.ENG_WDOG 0, 4)])
     let c := s.chip
     let n := e.val
     (c.engState n = 1 ∨ c.engState n = 2) ∧ (
     (c.wkB (Reg.ENG_WDOG n) = true))) ∧
    (
     let e : Fin 32 := 0
     let s : State := st (chip)
     let c := s.chip
     let n := e.val
     (c.engState n ≠ 1 ∧ c.engState n ≠ 2 ∨ c.wkB (Reg.ENG_WDOG n) = false)) ∧
    (
     let e : Fin 32 := 31
     let s : State := st ((chip).setEng 31 { wait := .granted 1 5 3 false false false 0 })
     let c := s.chip
     let n := e.val
     let x := c.eng n
     let d : Nat := 1
     let val : BitVec 32 := 5
     let upd : Nat := 3
     let z : Bool := false
     let cy : Bool := false
     let ov : Bool := false
     let acc : Nat := 0
     (x.wait = .granted d val upd z cy ov acc) ∧ (
     (upd = 3))) ∧
    (
     let e : Fin 32 := 31
     let s : State := st ((chip).setEng 31 { wait := .granted 1 5 0 false false false 0 })
     let c := s.chip
     let n := e.val
     let x := c.eng n
     let d : Nat := 1
     let val : BitVec 32 := 5
     let upd : Nat := 0
     let z : Bool := false
     let cy : Bool := false
     let ov : Bool := false
     let acc : Nat := 0
     (x.wait = .granted d val upd z cy ov acc) ∧ (
     (upd ≠ 3))) ∧
    (
     let e : Fin 32 := 0
     let s : State := st ({ chip with engs := [(0, { wait := .time 5 })], ct := 31 })
     let c := s.chip
     let n := e.val
     let x := c.eng n
     let t : BitVec 64 := 0x0000000000000005#64
     (x.wait = .time t) ∧ (
     (t.toNat ≤ c.ct.toNat))) := by
  refine ⟨?_, ?_, ?_, ?_, ?_, ?_, ?_, ?_, ?_, ?_, ?_, ?_, ?_, ?_, ?_, ?_⟩ <;> dsimp only <;> decide +kernel

/-- Witnesses of the hypotheses of Obligations.LoaderWatchdogWaitResults (part 2). -/
theorem meets_LoaderWatchdogWaitResults_2 :
    (
     let e : Fin 32 := 0
     let s : State := st ({ chip with engs := [(0, { wait := .time 5 })] })
     let c := s.chip
     let n := e.val
     let x := c.eng n
     let t : BitVec 64 := 0x0000000000000005#64
     (x.wait = .time t) ∧ (
     (c.ct.toNat < t.toNat))) ∧
    (
     let e : Fin 32 := 0
     let s : State := st ({ chip with engs := [(0, { wait := .event 1 })] })
     let c := s.chip
     let n := e.val
     let x := c.eng n
     let d : Nat := 1
     (x.wait = .event d) ∧ (
     (lowestBit x.pend = none))) ∧
    (
     let e : Fin 32 := 0
     let s : State := st ({ chip with engs := [(0, { pend := 1539786186, wait := .event 1 })] })
     let c := s.chip
     let n := e.val
     let x := c.eng n
     let d : Nat := 1
     (x.wait = .event d) ∧ (
     let i : Nat := 1
     (lowestBit x.pend = some i))) ∧
    (
     let e : Fin 32 := 0
     let s : State := st (chip)
     let c := s.chip
     let n := e.val
     let x := c.eng n
     (x.wait = .none)) ∧
    (
     let e : Fin 32 := 0
     let n := e.val
     let q : Chip := (chip).setEng 0 { wait := .granted 1 5 0 false false false 0 }
     let d : Nat := 1
     let val : BitVec 32 := 5
     ((q.eng n).wait = .granted d val 0 false false false 0)) := by
  refine ⟨?_, ?_, ?_, ?_, ?_⟩ <;> dsimp only <;> decide +kernel

/-- Witnesses of the hypotheses of Obligations.RunnerCommandResults (part 1). -/
theorem meets_RunnerCommandResults_1 :
    (
     let r : Requester := .gate
     let q : Fin 128 := 49
     let s : State := st (chip [(Reg.RUN_CFG_BASE 0, 1)])
     let c := s.chip
     let n := q.val
     let en := c.flag (Reg.RUN_STAT_EN n)
     let size := c.get (Reg.RUN_CFG_SIZE n)
     let base := c.get (Reg.RUN_CFG_BASE n)
     let good := size % 16 = 0 ∧ 16 ≤ size ∧ size ≤ 1024 ∧ base % 16 = 0 ∧ base + 2 * size ≤ 32768 ∧ en = false
     let clash := ∃ p : Nat, p < 128 ∧ p ≠ n ∧ c.flag (Reg.RUN_STAT_EN p) = true ∧
     base < c.get (Reg.RUN_CFG_BASE p) + 2 * c.get (Reg.RUN_CFG_SIZE p) ∧ c.get (Reg.RUN_CFG_BASE p) < base + 2 * size
     let ctl := (Reg.RUN_CTL_ENABLE n).addr
     (c.takes r ctl = true) ∧ (
     (good) ∧ (
     (¬clash)))) ∧
    (
     let r : Requester := .engine 0
     let q : Fin 128 := 0
     let s : State := st (chip [(Reg.RUN_CFG_BASE 0, 7), (Reg.RUN_STAT_EN 0, 2)])
     let c := s.chip
     let n := q.val
     let en := c.flag (Reg.RUN_STAT_EN n)
     let size := c.get (Reg.RUN_CFG_SIZE n)
     let base := c.get (Reg.RUN_CFG_BASE n)
     let good := size % 16 = 0 ∧ 16 ≤ size ∧ size ≤ 1024 ∧ base % 16 = 0 ∧ base + 2 * size ≤ 32768 ∧ en = false
     let clash := ∃ p : Nat, p < 128 ∧ p ≠ n ∧ c.flag (Reg.RUN_STAT_EN p) = true ∧
     base < c.get (Reg.RUN_CFG_BASE p) + 2 * c.get (Reg.RUN_CFG_SIZE p) ∧ c.get (Reg.RUN_CFG_BASE p) < base + 2 * size
     let ctl := (Reg.RUN_CTL_ENABLE n).addr
     (c.takes r ctl = true) ∧ (
     (¬good ∨ clash))) ∧
    (
     let r : Requester := .gate
     let q : Fin 128 := 0
     let s : State := st (chip)
     let c := s.chip
     let n := q.val
     let en := c.flag (Reg.RUN_STAT_EN n)
     (c.takes r (Reg.RUN_CTL_DISABLE n).addr = true) ∧ (
     (en = false))) ∧
    (
     let r : Requester := .engine 0
     let q : Fin 128 := 0
     let s : State := st (chip [(Reg.RUN_STAT_EN 0, 7)])
     let c := s.chip
     let n := q.val
     let en := c.flag (Reg.RUN_STAT_EN n)
     (c.takes r (Reg.RUN_CTL_DISABLE n).addr = true) ∧ (
     (en = true))) ∧
    (
     let q : Fin 128 := 0
     let s : State := st (chip [] [(Reg.RUN_OWNER_PROD_V 0, 3)])
     let c := s.chip
     let n := q.val
     let en := c.flag (Reg.RUN_STAT_EN n)
     let noPut := en = false ∨ (c.wkB (Reg.RUN_OWNER_PROD_V n) = true ∧ c.wk (Reg.RUN_OWNER_PROD n) ≠ 52)
     (c.takes .mgmt (Reg.RUN_MPUT n).addr = true) ∧ (
     (noPut))) ∧
    (
     let q : Fin 128 := 0
     let s : State := st (chip [(Reg.RUN_STAT_EN 0, 5)])
     let c := s.chip
     let n := q.val
     let en := c.flag (Reg.RUN_STAT_EN n)
     let noPut := en = false ∨ (c.wkB (Reg.RUN_OWNER_PROD_V n) = true ∧ c.wk (Reg.RUN_OWNER_PROD n) ≠ 52)
     (c.takes .mgmt (Reg.RUN_MPUT n).addr = true) ∧ (
     (¬noPut))) ∧
    (
     let q : Fin 128 := 0
     let s : State := st (chip [] [(Reg.RUN_OWNER_PROD_V 0, 3)])
     let c := s.chip
     let n := q.val
     let en := c.flag (Reg.RUN_STAT_EN n)
     let noPut := en = false ∨ (c.wkB (Reg.RUN_OWNER_PROD_V n) = true ∧ c.wk (Reg.RUN_OWNER_PROD n) ≠ 52)
     (c.takes .mgmt (Reg.RUN_MPUT_E n).addr = true) ∧ (
     (noPut))) ∧
    (
     let q : Fin 128 := 0
     let s : State := st (chip [(Reg.RUN_STAT_EN 0, 5)])
     let c := s.chip
     let n := q.val
     let en := c.flag (Reg.RUN_STAT_EN n)
     let noPut := en = false ∨ (c.wkB (Reg.RUN_OWNER_PROD_V n) = true ∧ c.wk (Reg.RUN_OWNER_PROD n) ≠ 52)
     (c.takes .mgmt (Reg.RUN_MPUT_E n).addr = true) ∧ (
     (¬noPut))) ∧
    (
     let q : Fin 128 := 0
     let s : State := st (chip [] [(Reg.RUN_OWNER_CONS_V 0, 3)])
     let c := s.chip
     let n := q.val
     let en := c.flag (Reg.RUN_STAT_EN n)
     let noTake := en = false ∨ (c.wkB (Reg.RUN_OWNER_CONS_V n) = true ∧ c.wk (Reg.RUN_OWNER_CONS n) ≠ 52)
     (c.takes .mgmt (Reg.RUN_MDROPP n).addr = true) ∧ (
     (noTake))) ∧
    (
     let q : Fin 128 := 0
     let s : State := st (chip [(Reg.RUN_STAT_EN 0, 5)])
     let c := s.chip
     let n := q.val
     let en := c.flag (Reg.RUN_STAT_EN n)
     let noTake := en = false ∨ (c.wkB (Reg.RUN_OWNER_CONS_V n) = true ∧ c.wk (Reg.RUN_OWNER_CONS n) ≠ 52)
     (c.takes .mgmt (Reg.RUN_MDROPP n).addr = true) ∧ (
     (¬noTake))) ∧
    (
     let q : Fin 128 := 0
     let s : State := st (chip [] [(Reg.RUN_OWNER_CONS_V 0, 3)])
     let c := s.chip
     let n := q.val
     let en := c.flag (Reg.RUN_STAT_EN n)
     let noTake := en = false ∨ (c.wkB (Reg.RUN_OWNER_CONS_V n) = true ∧ c.wk (Reg.RUN_OWNER_CONS n) ≠ 52)
     (c.takes .mgmt (Reg.RUN_MGET n).addr = true) ∧ (
     (noTake))) ∧
    (
     let q : Fin 128 := 0
     let s : State := st (chip [(Reg.RUN_STAT_EN 0, 5)])
     let c := s.chip
     let n := q.val
     let en := c.flag (Reg.RUN_STAT_EN n)
     let noTake := en = false ∨ (c.wkB (Reg.RUN_OWNER_CONS_V n) = true ∧ c.wk (Reg.RUN_OWNER_CONS n) ≠ 52)
     (c.takes .mgmt (Reg.RUN_MGET n).addr = true) ∧ (
     (¬noTake))) ∧
    (
     let r : Requester := .engine 0
     let q : Fin 128 := 0
     let s : State := st (chip)
     let c := s.chip
     let n := q.val
     (r ≠ .mgmt) ∧ (
     (c.takes r (Reg.RUN_MPUT n).addr = true))) ∧
    (
     let r : Requester := .engine 0
     let q : Fin 128 := 0
     let s : State := st (chip)
     let c := s.chip
     let n := q.val
     (r ≠ .mgmt) ∧ (
     (c.takes r (Reg.RUN_MPUT_E n).addr = true))) ∧
    (
     let r : Requester := .engine 0
     let q : Fin 128 := 0
     let s : State := st (chip)
     let c := s.chip
     let n := q.val
     (r ≠ .mgmt) ∧ (
     (c.takes r (Reg.RUN_MDROPP n).addr = true))) ∧
    (
     let r : Requester := .engine 0
     let q : Fin 128 := 0
     let s : State := st (chip)
     let c := s.chip
     let n := q.val
     (r ≠ .mgmt) ∧ (
     (c.takes r (Reg.RUN_MGET n).addr = true))) := by
  refine ⟨?_, ?_, ?_, ?_, ?_, ?_, ?_, ?_, ?_, ?_, ?_, ?_, ?_, ?_, ?_, ?_⟩ <;> dsimp only <;> decide +kernel

/-- Witnesses of the hypotheses of Obligations.RunnerCommandResults (part 2). -/
theorem meets_RunnerCommandResults_2 :
    (
     let q : Fin 128 := 0
     let s : State := st ({ chip with runs := [(0, { waiters := 8 :: 63 :: 1 :: 16 :: 32 :: 2 :: 1 :: 2 :: 1 :: 1 :: [] })] })
     let c := s.chip
     let n := q.val
     let x := c.runner n
     (x.waiters.contains 32 = true)) ∧
    (
     let q : Fin 128 := 0
     let s : State := st (chip)
     let c := s.chip
     let n := q.val
     let x := c.runner n
     (x.waiters.contains 32 = false)) ∧
    (
     let q : Fin 128 := 0
     let producer : HwProducer := .meas
     let packet : List (BitVec 32) := 52 :: 52 :: 0 :: 52 :: 16 :: 1043174722 :: 16 :: 0 :: 625468435 :: 0 :: 8 :: 32 :: 1 :: 1975429802 :: 0 :: 1202698198 :: []
     let s : State := st (chip [(Reg.RUN_STAT_EN 0, 7)])
     let c := s.chip
     let n := q.val
     let en := c.flag (Reg.RUN_STAT_EN n)
     let own := c.wk (Reg.RUN_OWNER_PROD n)
     let flask := if (producerOf producer).2.contains own then some own else (producerOf producer).2.head?
     (c.coreUp = true) ∧ (
     (packet ≠ []) ∧ (
     let refused := en = false ∨ (c.wkB (Reg.RUN_OWNER_PROD_V n) = true ∧ flask ≠ some own)
     (¬refused)))) ∧
    (
     let q : Fin 128 := 0
     let producer : HwProducer := .can
     let packet : List (BitVec 32) := 0 :: 0 :: []
     let s : State := st (chip)
     let c := s.chip
     let n := q.val
     let en := c.flag (Reg.RUN_STAT_EN n)
     let own := c.wk (Reg.RUN_OWNER_PROD n)
     let flask := if (producerOf producer).2.contains own then some own else (producerOf producer).2.head?
     (c.coreUp = true) ∧ (
     (packet ≠ []) ∧ (
     let refused := en = false ∨ (c.wkB (Reg.RUN_OWNER_PROD_V n) = true ∧ flask ≠ some own)
     (refused) ∧ (
     (producer ≠ .evt))))) ∧
    (
     let q : Fin 128 := 0
     let producer : HwProducer := .evt
     let packet : List (BitVec 32) := 1167764440 :: []
     let s : State := st (chip)
     let c := s.chip
     let n := q.val
     let en := c.flag (Reg.RUN_STAT_EN n)
     let own := c.wk (Reg.RUN_OWNER_PROD n)
     let flask := if (producerOf producer).2.contains own then some own else (producerOf producer).2.head?
     (c.coreUp = true) ∧ (
     (packet ≠ []) ∧ (
     let refused := en = false ∨ (c.wkB (Reg.RUN_OWNER_PROD_V n) = true ∧ flask ≠ some own)
     (refused) ∧ (
     (producer = .evt))))) ∧
    (
     let packet : List (BitVec 32) := []
     (packet = [])) ∧
    (
     let q : Fin 128 := 0
     let s : State := st (chip [(Reg.RUN_STAT_EN 0, 3)])
     let c := s.chip
     let n := q.val
     let en := c.flag (Reg.RUN_STAT_EN n)
     (c.coreUp = true) ∧ (
     (en = true))) ∧
    (
     let q : Fin 128 := 0
     let s : State := st (chip)
     let c := s.chip
     let n := q.val
     let en := c.flag (Reg.RUN_STAT_EN n)
     (en = false)) ∧
    (
     let q : Fin 128 := 0
     let s : State := st ({ chip [(Reg.RUN_STAT_OVL 0, 7)] [(Reg.CLK_CYCLE, 5)] with ct := 1425122595 })
     let c := s.chip
     let n := q.val
     let x := c.runner n
     let now := c.ct.toNat + 1
     (c.flag (Reg.RUN_STAT_OVL n) = true) ∧ (
     (x.lastLoss + c.period ≤ now))) ∧
    (
     let q : Fin 128 := 0
     let s : State := st (chip)
     let c := s.chip
     let n := q.val
     let x := c.runner n
     let now := c.ct.toNat + 1
     (c.flag (Reg.RUN_STAT_OVL n) = false ∨ now < x.lastLoss + c.period)) ∧
    (
     let q : Fin 128 := 0
     let s : State := st (chip [(Reg.RUN_STAT_FILL 0, 7)])
     let c := s.chip
     let n := q.val
     let x := c.runner n
     let size := c.get (Reg.RUN_CFG_SIZE n)
     let b := c.get (Reg.RUN_STAT_FILL n)
     let held := (x.kinds b).length
     let open_ := c.flag (Reg.RUN_STAT_P_DROP n) = false ∧ c.flag (Reg.RUN_STAT_C_DROP n) = false
     (open_) ∧ (
     (held + 1 < size))) ∧
    (
     let q : Fin 128 := 0
     let s : State := st (chip [(Reg.RUN_CFG_SIZE 0, 1), (Reg.RUN_STAT_C_DROP 0, 0)])
     let c := s.chip
     let n := q.val
     let x := c.runner n
     let size := c.get (Reg.RUN_CFG_SIZE n)
     let b := c.get (Reg.RUN_STAT_FILL n)
     let held := (x.kinds b).length
     let open_ := c.flag (Reg.RUN_STAT_P_DROP n) = false ∧ c.flag (Reg.RUN_STAT_C_DROP n) = false
     (open_) ∧ (
     (held + 1 = size) ∧ (
     ((x.kinds (1 - b)).isEmpty = true)))) ∧
    (
     let q : Fin 128 := 0
     let s : State := st ({ chip [(Reg.RUN_CFG_MODE 0, 5), (Reg.RUN_CFG_SIZE 0, 1), (Reg.RUN_STAT_C_DROP 0, 0), (Reg.RUN_STAT_FILL 0, 0), (Reg.RUN_STAT_P_DROP 0, 2), (Reg.CLK_STATUS_SYNC, 3), (Reg.CHAIN_STAT_ROLE, 3)] [(Reg.CLK_CYCLE, 2)] with clk := { markNs := 0 }, runs := [(0, { k0 := [], k1 := 2 :: [] })], ct := 0 })
     let c := s.chip
     let n := q.val
     let x := c.runner n
     let size := c.get (Reg.RUN_CFG_SIZE n)
     let b := c.get (Reg.RUN_STAT_FILL n)
     let held := (x.kinds b).length
     let open_ := c.flag (Reg.RUN_STAT_P_DROP n) = false ∧ c.flag (Reg.RUN_STAT_C_DROP n) = false
     (open_) ∧ (
     (size ≤ held + 1) ∧ (
     ((x.kinds (1 - b)).isEmpty = false) ∧ (
     (c.flag (Reg.RUN_CFG_MODE n) = true) ∧ (
     ((x.kinds b).getLast? ≠ some 2)))))) ∧
    (
     let q : Fin 128 := 0
     let s : State := st (chip [(Reg.RUN_STAT_C_DROP 0, 5)])
     let c := s.chip
     let n := q.val
     (c.flag (Reg.RUN_STAT_P_DROP n) = false) ∧ (
     (c.flag (Reg.RUN_STAT_C_DROP n) = true))) ∧
    (
     let q : Fin 128 := 0
     let s : State := st (chip)
     let c := s.chip
     let n := q.val
     let x := c.runner n
     (x.waiters = [])) ∧
    (
     let q : Fin 128 := 0
     let s : State := st ((chip).setRunner 0 { k0 := [0], k1 := [0], waiters := [32] })
     let c := s.chip
     let n := q.val
     let x := c.runner n
     let ws : List Nat := []
     (x.waiters = 32 :: ws) ∧ (
     let k : Nat := 0
     let v : Nat := 0
     let t : Chip := (c.runTake n).2
     (c.runTake n = (some (k, v), t)) ∧ (
     let u : Chip := ((c.runTake n).2.setRunner n { (c.runTake n).2.runner n with waiters := [] }).put (Reg.RUN_MGET_STAT n) 0
     (u = (t.setRunner n { t.runner n with waiters := ws }).put (Reg.RUN_MGET_STAT n) k)))) := by
  refine ⟨?_, ?_, ?_, ?_, ?_, ?_, ?_, ?_, ?_, ?_, ?_, ?_, ?_, ?_, ?_, ?_⟩ <;> dsimp only <;> decide +kernel

/-- Witnesses of the hypotheses of Obligations.LockBufferMessageCommandResults (part 1). -/
theorem meets_LockBufferMessageCommandResults_1 :
    (
     let lock : BitVec 8 := 55
     let s : State := st (chip)
     let c := s.chip
     let l := lock.toNat
     let holder := c.get (Reg.SYNC_LOCK_STAT_OWNER l)
     let lk := Reg.SYNC_LOCK_CMD_LOCK.addr
     (c.takes .mgmt lk = true) ∧ (
     (holder = 63))) ∧
    (
     let lock : BitVec 8 := 0
     let s : State := st (chip [(Reg.SYNC_LOCK_STAT_OWNER 0, 0)])
     let c := s.chip
     let l := lock.toNat
     let holder := c.get (Reg.SYNC_LOCK_STAT_OWNER l)
     let lk := Reg.SYNC_LOCK_CMD_LOCK.addr
     (c.takes .mgmt lk = true) ∧ (
     (holder ≠ 63) ∧ (
     (holder ≠ 32)))) ∧
    (
     let lock : BitVec 8 := 0
     let s : State := st (chip [(Reg.SYNC_LOCK_STAT_OWNER 0, 32)])
     let c := s.chip
     let l := lock.toNat
     let holder := c.get (Reg.SYNC_LOCK_STAT_OWNER l)
     let poison := c.flag (Reg.SYNC_LOCK_STAT_POISON l)
     let lk := Reg.SYNC_LOCK_CMD_LOCK.addr
     (c.takes .mgmt lk = true) ∧ (
     (holder = 32) ∧ (
     (poison = false) ∧ (
     (c.sync.lockWait.get [] l = []))))) ∧
    (
     let lock : BitVec 8 := 0
     let s : State := st ({ chip [(Reg.SYNC_LOCK_STAT_OWNER 0, 32), (Reg.FLASK_FSTAT_STATE 1, 2)] with sync := { lockWait := [(0, 63 :: [])] } })
     let c := s.chip
     let l := lock.toNat
     let holder := c.get (Reg.SYNC_LOCK_STAT_OWNER l)
     let poison := c.flag (Reg.SYNC_LOCK_STAT_POISON l)
     let lk := Reg.SYNC_LOCK_CMD_LOCK.addr
     (c.takes .mgmt lk = true) ∧ (
     (holder = 32) ∧ (
     (poison = false) ∧ (
     let e : Nat := 63
     let t : List Nat := []
     (c.sync.lockWait.get [] l = e :: t))))) ∧
    (
     let lock : BitVec 8 := 55
     let s : State := st (chip)
     let c := s.chip
     let l := lock.toNat
     let holder := c.get (Reg.SYNC_LOCK_STAT_OWNER l)
     let poison := c.flag (Reg.SYNC_LOCK_STAT_POISON l)
     let lk := Reg.SYNC_LOCK_CMD_LOCK.addr
     (c.takes .mgmt lk = true) ∧ (
     (holder ≠ 32 ∨ poison = true))) ∧
    (
     let lock : BitVec 8 := 55
     let s : State := st (chip)
     let c := s.chip
     let l := lock.toNat
     let holder := c.get (Reg.SYNC_LOCK_STAT_OWNER l)
     let lk := Reg.SYNC_LOCK_CMD_LOCK.addr
     (c.takes .mgmt lk = true) ∧ (
     (holder ≠ 32))) ∧
    (
     let s : State := st ({ chip with sync := { fresh := 32 } })
     let c := s.chip
     (c.takes .mgmt Reg.SYNC_B_ALLOC.addr = true) ∧ (
     (c.wk Reg.SYNC_POOL_CFG_GATE_RESV < c.poolFree) ∧ (
     (c.wkB Reg.SYNC_POOL_CFG_MAX_OWN = false ∨ c.owned 32 < c.wk Reg.SYNC_POOL_CFG_MAX_OWN) ∧ (
     let x : Nat := 32
     let t : Chip := ((c.poolPop 32).getD (0, c)).2
     (c.poolPop 32 = some (x, t)))))) ∧
    (
     let s : State := st { chip with sync := { fresh := 2048 } }
     let c := s.chip
     (c.takes .mgmt Reg.SYNC_B_ALLOC.addr = true) ∧ (
     (c.poolFree ≤ c.wk Reg.SYNC_POOL_CFG_GATE_RESV))) ∧
    (
     let s : State := st ({ chip [(Reg.FLASK_FSTAT_STATE 0, 5), (Reg.SYNC_BUF_OWN 0, 32)] [(Reg.SYNC_POOL_CFG_GATE_RESV, 5), (Reg.SYNC_POOL_CFG_MAX_OWN, 1)] with sync := { freed := [] } })
     let c := s.chip
     (c.takes .mgmt Reg.SYNC_B_ALLOC.addr = true) ∧ (
     (c.wk Reg.SYNC_POOL_CFG_GATE_RESV < c.poolFree) ∧ (
     (c.wkB Reg.SYNC_POOL_CFG_MAX_OWN = true) ∧ (
     (c.wk Reg.SYNC_POOL_CFG_MAX_OWN ≤ c.owned 32))))) ∧
    (
     let buf : BitVec 11 := 0
     let s : State := st (chip [(Reg.SYNC_BUF_OWN 0, 32)])
     let c := s.chip
     let b := buf.toNat
     let code := c.get (Reg.SYNC_BUF_OWN b)
     (c.takes .mgmt Reg.SYNC_B_FREE.addr = true) ∧ (
     (code = 32))) ∧
    (
     let buf : BitVec 11 := 1335
     let s : State := st (chip)
     let c := s.chip
     let b := buf.toNat
     let code := c.get (Reg.SYNC_BUF_OWN b)
     (c.takes .mgmt Reg.SYNC_B_FREE.addr = true) ∧ (
     (code = 63))) ∧
    (
     let buf : BitVec 11 := 0
     let s : State := st (chip [(Reg.SYNC_BUF_OWN 0, 0)])
     let c := s.chip
     let b := buf.toNat
     let code := c.get (Reg.SYNC_BUF_OWN b)
     (c.takes .mgmt Reg.SYNC_B_FREE.addr = true) ∧ (
     (code ≠ 32) ∧ (
     (code ≠ 63)))) ∧
    (
     let buf : BitVec 11 := 0
     let owner : BitVec 6 := 32
     let s : State := st (chip [(Reg.SYNC_BUF_OWN 0, 32)])
     let c := s.chip
     let b := buf.toNat
     let code := c.get (Reg.SYNC_BUF_OWN b)
     let fenced := (owner.toNat < 32 ∧ c.active owner.toNat = false) ∨ (owner.toNat = 32 ∧ c.active 52 = false)
     (c.takes .mgmt Reg.SYNC_B_GIVE_BUF.addr = true) ∧ (
     (code = 32) ∧ (
     (owner.toNat ≤ 32) ∧ (
     (¬fenced))))) ∧
    (
     let buf : BitVec 11 := 0
     let owner : BitVec 6 := 0
     let s : State := st (chip [(Reg.SYNC_BUF_OWN 0, 32), (Reg.FLASK_FSTAT_STATE 0, 5)])
     let c := s.chip
     let b := buf.toNat
     let code := c.get (Reg.SYNC_BUF_OWN b)
     let fenced := (owner.toNat < 32 ∧ c.active owner.toNat = false) ∨ (owner.toNat = 32 ∧ c.active 52 = false)
     (c.takes .mgmt Reg.SYNC_B_GIVE_BUF.addr = true) ∧ (
     (code = 32) ∧ (
     (owner.toNat ≤ 32) ∧ (
     (fenced))))) ∧
    (
     let buf : BitVec 11 := 0
     let owner : BitVec 6 := 59
     let s : State := st (chip [(Reg.SYNC_BUF_OWN 0, 32)])
     let c := s.chip
     let b := buf.toNat
     let code := c.get (Reg.SYNC_BUF_OWN b)
     (c.takes .mgmt Reg.SYNC_B_GIVE_BUF.addr = true) ∧ (
     (code = 32) ∧ (
     (32 < owner.toNat)))) ∧
    (
     let buf : BitVec 11 := 1335
     let s : State := st (chip)
     let c := s.chip
     let b := buf.toNat
     let code := c.get (Reg.SYNC_BUF_OWN b)
     (c.takes .mgmt Reg.SYNC_B_GIVE_BUF.addr = true) ∧ (
     (code ≠ 32))) := by
  refine ⟨?_, ?_, ?_, ?_, ?_, ?_, ?_, ?_, ?_, ?_, ?_, ?_, ?_, ?_, ?_, ?_⟩ <;> dsimp only <;> decide +kernel

/-- Witnesses of the hypotheses of Obligations.LockBufferMessageCommandResults (part 2). -/
theorem meets_LockBufferMessageCommandResults_2 :
    (
     let v : BitVec 32 := 0x00010000
     let s : State := st (chip [(Reg.SYNC_BUF_OWN 0, 32)] [(Reg.SYNC_MBX_CFG_KIND 0, 1)])
     let c := s.chip
     let sb := bits v.toNat 10 0
     let len := bits v.toNat 23 16
     let box := bits v.toNat 29 24
     (c.takes .mgmt Reg.SYNC_M_SEND_BUF.addr = true) ∧ (
     (c.get (Reg.SYNC_BUF_OWN sb) = 32) ∧ (
     (1 ≤ len) ∧ (
     (len ≤ 128) ∧ (
     (c.maySend box 52 = true) ∧ (
     ((c.mbx box).count + (c.mbx box).resv < c.mbxDepth box))))))) ∧
    (
     let v : BitVec 32 := 0x00800000
     let s : State := st (chip [(Reg.SYNC_BUF_OWN 0, 32)])
     let c := s.chip
     let sb := bits v.toNat 10 0
     let len := bits v.toNat 23 16
     let box := bits v.toNat 29 24
     (c.takes .mgmt Reg.SYNC_M_SEND_BUF.addr = true) ∧ (
     (c.get (Reg.SYNC_BUF_OWN sb) = 32) ∧ (
     (1 ≤ len) ∧ (
     (len ≤ 128) ∧ (
     (c.maySend box 52 = false ∨ c.mbxDepth box ≤ (c.mbx box).count + (c.mbx box).resv)))))) ∧
    (
     let v : BitVec 32 := 569910583
     let s : State := st (chip)
     let c := s.chip
     let sb := bits v.toNat 10 0
     let len := bits v.toNat 23 16
     (c.takes .mgmt Reg.SYNC_M_SEND_BUF.addr = true) ∧ (
     (c.get (Reg.SYNC_BUF_OWN sb) ≠ 32 ∨ len = 0 ∨ 128 < len))) ∧
    (
     let s : State := st (chip)
     let c := s.chip
     (c.takes .mgmt Reg.SYNC_M_RECV_SEL.addr = true)) ∧
    (
     let s : State := st ({ chip [] [(Reg.SYNC_MBX_CFG_RECV 0, 52), (Reg.SYNC_MBX_CFG_KIND 0, 1)] with sync := { mbx := [(9, { head := 7 })] }, mem := [] })
     let c := s.chip
     (c.takes .mgmt Reg.SYNC_M_RECV.addr = true) ∧ (
     let x := c.sync.sel
     (c.mayRecv x 52 = true) ∧ (
     (c.mbxPeek x = none)))) ∧
    (
     let s : State := st ({ chip [(Reg.FLASK_FSTAT_STATE 0, 8)] [(Reg.SYNC_MBX_CFG_KIND 0, 1)] with sync := { mbx := [(0, { count := 2 })] } })
     let c := s.chip
     (c.takes .mgmt Reg.SYNC_M_RECV.addr = true) ∧ (
     let x := c.sync.sel
     (c.mayRecv x 52 = true) ∧ (
     let y : Nat := 0
     let n : Nat := 0
     (c.mbxPeek x = some (y, n))))) ∧
    (
     let s : State := st (chip)
     let c := s.chip
     (c.takes .mgmt Reg.SYNC_M_RECV.addr = true) ∧ (
     let x := c.sync.sel
     (c.mayRecv x 52 = false))) ∧
    (
     let r : Requester := .engine 0
     let s : State := st (chip)
     let c := s.chip
     let lk := Reg.SYNC_LOCK_CMD_LOCK.addr
     (r ≠ .mgmt) ∧ (
     (c.takes r lk = true))) ∧
    (
     let r : Requester := .engine 0
     let s : State := st (chip)
     let c := s.chip
     (r ≠ .mgmt) ∧ (
     (c.takes r Reg.SYNC_B_ALLOC.addr = true))) ∧
    (
     let r : Requester := .engine 0
     let s : State := st (chip)
     let c := s.chip
     (r ≠ .mgmt) ∧ (
     (c.takes r Reg.SYNC_B_FREE.addr = true))) ∧
    (
     let r : Requester := .engine 0
     let s : State := st (chip)
     let c := s.chip
     (r ≠ .mgmt) ∧ (
     (c.takes r Reg.SYNC_B_GIVE_BUF.addr = true))) ∧
    (
     let r : Requester := .engine 0
     let s : State := st (chip)
     let c := s.chip
     (r ≠ .mgmt) ∧ (
     (c.takes r Reg.SYNC_M_SEND_BUF.addr = true))) ∧
    (
     let r : Requester := .engine 0
     let s : State := st (chip)
     let c := s.chip
     (r ≠ .mgmt) ∧ (
     (c.takes r Reg.SYNC_M_RECV_SEL.addr = true))) ∧
    (
     let r : Requester := .engine 0
     let s : State := st (chip)
     let c := s.chip
     (r ≠ .mgmt) ∧ (
     (c.takes r Reg.SYNC_M_RECV.addr = true))) ∧
    (
     let r : Requester := .engine 0
     let k : Fin 64 := 0
     let s : State := st (chip)
     let c := s.chip
     (c.takes r (Reg.SYNC_MBX_CTL k.val).addr = true)) ∧
    (
     let s : State := st ({ chip [(Reg.SYNC_STAT_OVL, 1)] [(Reg.CLK_CYCLE, 8)] with sync := { lastFail := 52 }, ct := 633474960 })
     let c := s.chip
     (c.flag Reg.SYNC_STAT_OVL = true) ∧ (
     (c.sync.lastFail + c.period ≤ c.ct.toNat + 1))) := by
  refine ⟨?_, ?_, ?_, ?_, ?_, ?_, ?_, ?_, ?_, ?_, ?_, ?_, ?_, ?_, ?_, ?_⟩ <;> dsimp only <;> decide +kernel

/-- Witnesses of the hypotheses of Obligations.LockBufferMessageCommandResults (part 3). -/
theorem meets_LockBufferMessageCommandResults_3 :
    (
     let s : State := st (chip)
     let c := s.chip
     (c.flag Reg.SYNC_STAT_OVL = false ∨ c.ct.toNat + 1 < c.sync.lastFail + c.period)) := by
  dsimp only <;> decide +kernel

/-- Witnesses of the hypotheses of Obligations.FlaskCommandResults (part 1). -/
theorem meets_FlaskCommandResults_1 :
    (
     let r : Requester := .gate
     let f : BitVec 6 := 49
     let s : State := st (chip [] [(Reg.FLASK_FCFG_SUPV_ENG 0, 5)])
     let c := s.chip
     let n := f.toNat
     let fe := Reg.FLASK_FENCE.addr
     let may := ∀ e : Fin 32, r = .engine e → e.val ≠ n ∧ c.wkB (Reg.FLASK_FCFG_SUPV_V n) = true ∧ c.wk (Reg.FLASK_FCFG_SUPV_ENG n) = e.val
     (c.takes r fe = true) ∧ (
     (may) ∧ (
     (n < 54) ∧ (
     (c.active n = true))))) ∧
    (
     let r : Requester := .mgmt
     let f : BitVec 6 := 58
     let s : State := st (chip)
     let c := s.chip
     let n := f.toNat
     let fe := Reg.FLASK_FENCE.addr
     let may := ∀ e : Fin 32, r = .engine e → e.val ≠ n ∧ c.wkB (Reg.FLASK_FCFG_SUPV_V n) = true ∧ c.wk (Reg.FLASK_FCFG_SUPV_ENG n) = e.val
     (c.takes r fe = true) ∧ (
     (may) ∧ (
     (54 ≤ n ∨ c.active n = false)))) ∧
    (
     let r : Requester := .engine 0
     let f : BitVec 6 := 5
     let s : State := st (chip [] [(Reg.FLASK_FCFG_SUPV_ENG 0, 0), (Reg.FLASK_FCFG_SUPV_V 0, 32)])
     let c := s.chip
     let n := f.toNat
     let fe := Reg.FLASK_FENCE.addr
     let may := ∀ e : Fin 32, r = .engine e → e.val ≠ n ∧ c.wkB (Reg.FLASK_FCFG_SUPV_V n) = true ∧ c.wk (Reg.FLASK_FCFG_SUPV_ENG n) = e.val
     (c.takes r fe = true) ∧ (
     (¬may))) ∧
    (
     let r : Requester := .mgmt
     let f : BitVec 6 := 0
     let s : State := st (chip [(Reg.FLASK_FSTAT_STATE 0, 2)] [(Reg.FLASK_FCFG_SUPV_ENG 0, 8), (Reg.FLASK_FCFG_SUPV_V 0, 54)])
     let c := s.chip
     let n := f.toNat
     let re := Reg.FLASK_REVIVE.addr
     let may := ∀ e : Fin 32, r = .engine e → e.val ≠ n ∧ c.wkB (Reg.FLASK_FCFG_SUPV_V n) = true ∧ c.wk (Reg.FLASK_FCFG_SUPV_ENG n) = e.val
     let canRevive := fun (c : Chip) (k : Nat) => k < 54 ∧ c.get (Reg.FLASK_FSTAT_STATE k) = 2 ∧ (fieldFlask k = false ∨ c.seamUp = true) ∧
     c.warden.lastFault.get 0 k ≠ c.ctFine + 1
     (c.takes r re = true) ∧ (
     (may) ∧ (
     (canRevive c n)))) ∧
    (
     let r : Requester := .mgmt
     let f : BitVec 6 := 16
     let s : State := st (chip [(Reg.FLASK_FSTAT_STATE 0, 3)] [(Reg.FLASK_FCFG_SUPV_ENG 0, 7), (Reg.FLASK_FCFG_SUPV_V 0, 0)])
     let c := s.chip
     let n := f.toNat
     let re := Reg.FLASK_REVIVE.addr
     let may := ∀ e : Fin 32, r = .engine e → e.val ≠ n ∧ c.wkB (Reg.FLASK_FCFG_SUPV_V n) = true ∧ c.wk (Reg.FLASK_FCFG_SUPV_ENG n) = e.val
     let canRevive := fun (c : Chip) (k : Nat) => k < 54 ∧ c.get (Reg.FLASK_FSTAT_STATE k) = 2 ∧ (fieldFlask k = false ∨ c.seamUp = true) ∧
     c.warden.lastFault.get 0 k ≠ c.ctFine + 1
     (c.takes r re = true) ∧ (
     (may) ∧ (
     (¬canRevive c n)))) ∧
    (
     let r : Requester := .engine 0
     let f : BitVec 6 := 5
     let s : State := st (chip [] [(Reg.FLASK_FCFG_SUPV_ENG 0, 0), (Reg.FLASK_FCFG_SUPV_V 0, 32)])
     let c := s.chip
     let n := f.toNat
     let re := Reg.FLASK_REVIVE.addr
     let may := ∀ e : Fin 32, r = .engine e → e.val ≠ n ∧ c.wkB (Reg.FLASK_FCFG_SUPV_V n) = true ∧ c.wk (Reg.FLASK_FCFG_SUPV_ENG n) = e.val
     (c.takes r re = true) ∧ (
     (¬may))) ∧
    (
     let r : Requester := .engine 0
     let f : BitVec 6 := 5
     let s : State := st (chip)
     let c := s.chip
     let n := f.toNat
     (c.takes r Reg.FLASK_AR_CLR.addr = true) ∧ (
     (n < 54))) ∧
    (
     let r : Requester := .mgmt
     let f : BitVec 6 := 62
     let s : State := st (chip)
     let c := s.chip
     let n := f.toNat
     (c.takes r Reg.FLASK_AR_CLR.addr = true) ∧ (
     (54 ≤ n))) ∧
    (
     let g : Fin 64 := 0
     let s : State := st (chip)
     let c := s.chip
     let m := g.val
     (c.coreUp = true) ∧ (
     (m < 54) ∧ (
     (c.active m = true)))) ∧
    (
     let faults : List FaultIn := []
     let s : State := st (chip)
     let c := s.chip
     (c.coreUp = true) ∧ (
     (faults = []))) ∧
    (
     let faults : List FaultIn := ⟨32, 0⟩ :: []
     let s : State := st (chip)
     let c := s.chip
     (c.coreUp = true) ∧ (
     let x : FaultIn := { flask := 32, addr := 0x00000000#32 }
     (faults = [x]) ∧ (
     (ownsMemory x.flask.val = true)))) ∧
    (
     let faults : List FaultIn := ⟨0, 0⟩ :: []
     let s : State := st (chip)
     let c := s.chip
     (c.coreUp = true) ∧ (
     let x : FaultIn := ⟨0, 0⟩
     (faults = [x]) ∧ (
     (ownsMemory x.flask.val = false)))) ∧
    (
     let s : State := st ({ chip with warden := { lines := ⟨100, 52, 4, 0, 1, 3⟩ :: [] } })
     let c := s.chip
     let l : FaultLine := { flask := 100, cause := 52, detail := 4, word1 := 0, cyc := 1, ns := 3 }
     let t : List FaultLine := []
     (c.warden.lines = l :: t)) ∧
    (
     let s : State := st ({ chip with pwr := { coreRst := false, fieldRst := false }, warden := { queue := ⟨5, 32, 6, 2, 1, 0⟩ :: [] } })
     let c := s.chip
     (c.coreUp = true) ∧ (
     let l : FaultLine := { flask := 5, cause := 32, detail := 6, word1 := 2, cyc := 1, ns := 0 }
     let t : List FaultLine := []
     (c.warden.queue = l :: t))) ∧
    (
     let s : State := st (chip)
     let c := s.chip
     (c.warden.queue = [])) ∧
    (
     let s : State := st ({ chip with pwr := { coreRst := false, fieldRst := false }, warden := { lanePend := true } })
     let c := s.chip
     (c.coreUp = true) ∧ (
     (c.fieldUp = true) ∧ (
     (c.warden.lanePend = true)))) := by
  refine ⟨?_, ?_, ?_, ?_, ?_, ?_, ?_, ?_, ?_, ?_, ?_, ?_, ?_, ?_, ?_, ?_⟩ <;> dsimp only <;> decide +kernel

/-- Witnesses of the hypotheses of Obligations.FlaskCommandResults (part 2). -/
theorem meets_FlaskCommandResults_2 :
    (
     let s : State := st (chip)
     let c := s.chip
     (c.warden.lanePend = false)) ∧
    (
     let g : Fin 64 := 0
     let s : State := st (chip [(Reg.FLASK_FSTAT_STATE 0, 2)])
     let c := s.chip
     let m := g.val
     let canRevive := fun (c : Chip) (k : Nat) => k < 54 ∧ c.get (Reg.FLASK_FSTAT_STATE k) = 2 ∧ (fieldFlask k = false ∨ c.seamUp = true) ∧
     c.warden.lastFault.get 0 k ≠ c.ctFine + 1
     (m < 54) ∧ (
     let t : Chip := chip [(Reg.FLASK_FSTAT_STATE 0, 2)] [(Reg.FLASK_FCFG_AR_EN 0, 1)]
     (t.wkB (Reg.FLASK_FCFG_AR_EN m) = true) ∧ (
     (canRevive t m)))) ∧
    (
     let g : Fin 64 := 0
     let s : State := st chip
     let c := s.chip
     let m := g.val
     let canRevive := fun (c : Chip) (k : Nat) => k < 54 ∧ c.get (Reg.FLASK_FSTAT_STATE k) = 2 ∧ (fieldFlask k = false ∨ c.seamUp = true) ∧
     c.warden.lastFault.get 0 k ≠ c.ctFine + 1
     (m < 54) ∧ (
     let t : Chip := chip [] [(Reg.FLASK_FCFG_AR_EN 0, 1)]
     (t.wkB (Reg.FLASK_FCFG_AR_EN m) = true) ∧ (
     (¬canRevive t m)))) ∧
    (
     let g : Fin 64 := 0
     let m := g.val
     (m < 54) ∧ (
     let t : Chip := chip
     (t.wkB (Reg.FLASK_FCFG_AR_EN m) = false))) ∧
    (
     let g : Fin 64 := 0
     let s : State := st (chip [(Reg.FLASK_FSTAT_AR_WAIT 0, 1)])
     let c := s.chip
     let m := g.val
     let waits := c.flag (Reg.FLASK_FSTAT_AR_WAIT m)
     (c.coreUp = true) ∧ (
     (m < 54) ∧ (
     (waits = true) ∧ (
     (Sys2Proof.Machine.bit c.warden.retry m = false))))) ∧
    (
     let g : Fin 64 := 0
     let s : State := st (chip)
     let c := s.chip
     let m := g.val
     let waits := c.flag (Reg.FLASK_FSTAT_AR_WAIT m)
     (waits = false ∨ Sys2Proof.Machine.bit c.warden.retry m = true)) ∧
    (
     let s : State := st (let c := chip [(Reg.FLASK_FSTAT_AR_WAIT 5, 1)]; { c with warden := { c.warden with retry := 32 } })
     let c := s.chip
     (c.coreUp = true) ∧ (
     let k : Nat := 5
     let l : List Nat := []
     (c.retrying = k :: l))) ∧
    (
     let s : State := st (chip)
     let c := s.chip
     (c.retrying = [])) ∧
    (
     let s : State := st (let c := chip [(Reg.FLASK_FSTAT_AR_WAIT 5, 1)]; { c with warden := { c.warden with retry := 32 } })
     let c := s.chip
     let k : Nat := 5
     (k < 54) ∧ (
     (Sys2Proof.Machine.bit c.warden.retry k = true) ∧ (
     (c.flag (Reg.FLASK_FSTAT_AR_WAIT k) = true)))) ∧
    (
     let s : State := st (chip)
     let c := s.chip
     (c.warden.lines = [])) ∧
    (
     let g : Fin 64 := 0
     let s : State := st ({ chip with pwr := { coreRst := false, fieldRst := false }, warden := { stable := 63 } })
     let c := s.chip
     let m := g.val
     (c.coreUp = true) ∧ (
     (c.active m = true) ∧ (
     (Sys2Proof.Machine.bit c.warden.stable m = true)))) ∧
    (
     let g : Fin 64 := 0
     let s : State := st (chip)
     let c := s.chip
     let m := g.val
     (c.active m = false ∨ Sys2Proof.Machine.bit c.warden.stable m = false)) := by
  refine ⟨?_, ?_, ?_, ?_, ?_, ?_, ?_, ?_, ?_, ?_, ?_, ?_⟩ <;> dsimp only <;> decide +kernel

/-- Witnesses of the hypotheses of Obligations.HubPortResults (part 1). -/
theorem meets_HubPortResults_1 :
    (
     let p : BitVec 8 := 241
     let s : State := st (chip [(Reg.HUB_STAT_UP_STATE, 3)])
     let c := s.chip
     let n := p.toNat
     let on := c.usbOn .hub = true ∧ c.upState = 3
     let has := 1 ≤ n ∧ n ≤ 9
     (on) ∧ (
     (¬has))) ∧
    (
     let s : State := st (chip)
     let c := s.chip
     (c.usbOn .hub = false)) ∧
    (
     let p : BitVec 8 := 1
     let s : State := st ({ chip [(Reg.HUB_STAT_UP_STATE, 3), (Reg.CHAIN_STAT_ADDR_VALID, 4), (Reg.CHAIN_ADDR_STATION, 1)] [(Reg.WIDE_MAP_EN 0, 0)] with pwr := { coreRst := false, fieldRst := false }, test := { landsTaken := true }, hub := { wup := 3, ports := [(5, { st := 2, test := 100 })] }, mgmt := { run := some ((⟨16, 63, 6, 100, 104 :: 0 :: []⟩, 0 :: 182 :: [])) } })
     let c := s.chip
     let n := p.toNat
     let on := c.usbOn .hub = true ∧ c.upState = 3
     let has := 1 ≤ n ∧ n ≤ 9
     let shut := c.tunnelled n = true ∨ c.occPort n = true
     (on) ∧ (
     (has) ∧ (
     (shut)))) ∧
    (
     let p : BitVec 8 := 8
     let s : State := st ((hubOn chip).setHp 8 { st := 2 ^ stConn })
     let c := s.chip
     let n := p.toNat
     let x := c.hp n
     let on := c.usbOn .hub = true ∧ c.upState = 3
     let has := 1 ≤ n ∧ n ≤ 9
     let shut := c.tunnelled n = true ∨ c.occPort n = true
     (on) ∧ (
     (has) ∧ (
     (¬shut) ∧ (
     (Sys2Proof.Machine.bit x.st stConn = true) ∧ (
     (n ≠ 9)))))) ∧
    (
     let p : BitVec 8 := 1
     let s : State := st ({ chip [(Reg.HUB_STAT_UP_STATE, 3), (Reg.CHAIN_STAT_ADDR_VALID, 4)] [(Reg.WIDE_MAP_EN 0, 5), (Reg.WIDE_MAP_LPORT 0, 5)] with pwr := { coreRst := false, fieldRst := false }, test := { run := none }, hub := { ports := [(0, { test := 100 })] }, mgmt := { run := some ((⟨5, 63, 6, 5, []⟩, 3 :: [])) } })
     let c := s.chip
     let n := p.toNat
     let x := c.hp n
     let on := c.usbOn .hub = true ∧ c.upState = 3
     let has := 1 ≤ n ∧ n ≤ 9
     let shut := c.tunnelled n = true ∨ c.occPort n = true
     (on) ∧ (
     (has) ∧ (
     (¬shut) ∧ (
     (Sys2Proof.Machine.bit x.st stConn = false))))) ∧
    (
     let p : BitVec 8 := 9
     let s : State := st ((hubOn chip).setHp 9 { st := 2 ^ stEnable })
     let c := s.chip
     let n := p.toNat
     let x := c.hp n
     let on := c.usbOn .hub = true ∧ c.upState = 3
     let has := 1 ≤ n ∧ n ≤ 9
     let shut := c.tunnelled n = true ∨ c.occPort n = true
     (on) ∧ (
     (has) ∧ (
     (¬shut) ∧ (
     (Sys2Proof.Machine.bit x.st stEnable = true) ∧ (
     (Sys2Proof.Machine.bit x.st stSuspend = false) ∧ (
     (x.phase = 0))))))) ∧
    (
     let p : BitVec 8 := 1
     let s : State := st ({ chip [(Reg.HUB_STAT_UP_STATE, 3), (Reg.WIDE_STAT_PRESENTING, 4), (Reg.CHAIN_STAT_ADDR_VALID, 0), (Reg.CHAIN_ADDR_STATION, 2), (Reg.CHAIN_ADDR_RING, 0)] [(Reg.WIDE_MAP_EN 0, 1), (Reg.WIDE_MAP_LPORT 0, 1), (Reg.WIDE_MAP_STATION 0, 0), (Reg.WIDE_MAP_RING 0, 4)] with pwr := { coreRst := false, fieldRst := false }, test := { run := none }, hub := { ports := [(0, { test := 6 })] } })
     let c := s.chip
     let n := p.toNat
     let x := c.hp n
     let on := c.usbOn .hub = true ∧ c.upState = 3
     let has := 1 ≤ n ∧ n ≤ 9
     let shut := c.tunnelled n = true ∨ c.occPort n = true
     (on) ∧ (
     (has) ∧ (
     (¬shut) ∧ (
     (Sys2Proof.Machine.bit x.st stEnable = false ∨ Sys2Proof.Machine.bit x.st stSuspend = true ∨ x.phase ≠ 0))))) ∧
    (
     let p : BitVec 8 := 1
     let s : State := st ({ chip [(Reg.CHAIN_ADDR_RING, 2), (Reg.HUB_STAT_EN, 7), (Reg.HUB_STAT_UP_STATE, 3)] [(Reg.WIDE_MAP_RING 9, 8), (Reg.HUB_PORT_CFG_LOCK_OFF 1, 5)] with pwr := { coreRst := false, fieldRst := false }, hub := { wup := 2, ports := [(5, { st := 0, test := 0 })] } })
     let c := s.chip
     let n := p.toNat
     let on := c.usbOn .hub = true ∧ c.upState = 3
     let has := 1 ≤ n ∧ n ≤ 9
     let shut := c.tunnelled n = true ∨ c.occPort n = true
     (on) ∧ (
     (has) ∧ (
     (¬shut) ∧ (
     (c.lockedOff n = true))))) ∧
    (
     let p : BitVec 8 := 2
     let s : State := st ({ chip [(Reg.HUB_STAT_UP_STATE, 3), (Reg.WIDE_STAT_PRESENTING, 4)] [(Reg.WIDE_MAP_RING 0, 8)] with pwr := { coreRst := false, fieldRst := false }, hub := { wup := 0, ports := [(9, { test := 6 })] } })
     let c := s.chip
     let n := p.toNat
     let on := c.usbOn .hub = true ∧ c.upState = 3
     let has := 1 ≤ n ∧ n ≤ 9
     let shut := c.tunnelled n = true ∨ c.occPort n = true
     (on) ∧ (
     (has) ∧ (
     (¬shut) ∧ (
     (c.lockedOff n = false) ∧ (
     (n ≠ 9)))))) ∧
    (
     let p : BitVec 8 := 1
     let mode : BitVec 8 := 5
     let s : State := st (hubOn chip)
     let c := s.chip
     let n := p.toNat
     let on := c.usbOn .hub = true ∧ c.upState = 3
     let has := 1 ≤ n ∧ n ≤ 9
     let shut := c.tunnelled n = true ∨ c.occPort n = true
     (on) ∧ (
     (has) ∧ (
     (¬shut) ∧ (
     (n ≠ 9) ∧ (
     (1 ≤ mode.toNat) ∧ (
     (mode.toNat ≤ 5) ∧ (
     ((∀ k : Nat, 1 ≤ k → k ≤ 9 → k ≠ n → Sys2Proof.Machine.bit (c.get (Reg.HUB_PORT_STAT_STATUS k)) stEnable = false ∨ Sys2Proof.Machine.bit (c.get (Reg.HUB_PORT_STAT_STATUS k)) stSuspend = true))))))))) ∧
    (
     let p : BitVec 8 := 8
     let mode : BitVec 8 := 169
     let s : State := st ({ chip [(Reg.HUB_STAT_EN, 7), (Reg.HUB_STAT_UP_STATE, 3), (Reg.CHAIN_STAT_ADDR_VALID, 7), (Reg.CHAIN_ADDR_RING, 1)] [(Reg.WIDE_MAP_STATION 0, 1)] with pwr := { coreRst := false, fieldRst := false }, test := { run := some (⟨7, 63, true⟩) }, hub := { ports := [(9, { st := 4 })] }, mgmt := { run := some ((⟨5, 5, 100, 5, []⟩, 228 :: 1 :: 16 :: 7 :: 0 :: 8 :: 7 :: 1 :: 0 :: 100 :: [])) } })
     let c := s.chip
     let n := p.toNat
     let on := c.usbOn .hub = true ∧ c.upState = 3
     let has := 1 ≤ n ∧ n ≤ 9
     let shut := c.tunnelled n = true ∨ c.occPort n = true
     (on) ∧ (
     (has) ∧ (
     (¬shut) ∧ (
     (n = 9 ∨ mode.toNat = 0 ∨ 5 < mode.toNat))))) ∧
    (
     let p : BitVec 8 := 1
     let s : State := st (hubOn (wideServed chip))
     let c := s.chip
     let n := p.toNat
     let on := c.usbOn .hub = true ∧ c.upState = 3
     let has := 1 ≤ n ∧ n ≤ 9
     (on) ∧ (
     (has) ∧ (
     (c.tunnelled n = true)))) ∧
    (
     let p : BitVec 8 := 1
     let s : State := st ((hubOn chip).setHp 1 { st := 2 ^ stSuspend })
     let c := s.chip
     let n := p.toNat
     let x := c.hp n
     let on := c.usbOn .hub = true ∧ c.upState = 3
     let has := 1 ≤ n ∧ n ≤ 9
     (on) ∧ (
     (has) ∧ (
     (c.tunnelled n = false) ∧ (
     (Sys2Proof.Machine.bit x.st stSuspend = true) ∧ (
     (x.phase = 0)))))) ∧
    (
     let p : BitVec 8 := 1
     let s : State := st ({ chip [(Reg.HUB_STAT_EN, 7), (Reg.HUB_STAT_UP_STATE, 3), (Reg.WIDE_STAT_PRESENTING, 2), (Reg.CHAIN_STAT_ADDR_VALID, 3), (Reg.CHAIN_ADDR_STATION, 2), (Reg.CHAIN_ADDR_RING, 4)] [(Reg.WIDE_MAP_EN 0, 2), (Reg.WIDE_MAP_LPORT 0, 3), (Reg.WIDE_MAP_STATION 0, 8), (Reg.WIDE_MAP_RING 0, 8)] with pwr := { coreRst := false, fieldRst := false }, hub := { wup := 7, ports := [(0, { st := 1, phase := 5 })] } })
     let c := s.chip
     let n := p.toNat
     let x := c.hp n
     let on := c.usbOn .hub = true ∧ c.upState = 3
     let has := 1 ≤ n ∧ n ≤ 9
     (on) ∧ (
     (has) ∧ (
     (c.tunnelled n = false) ∧ (
     (Sys2Proof.Machine.bit x.st stSuspend = false ∨ x.phase ≠ 0))))) ∧
    (
     let p : BitVec 8 := 8
     let s : State := st ({ chip [(Reg.HUB_STAT_UP_STATE, 3), (Reg.WIDE_STAT_PRESENTING, 0), (Reg.CHAIN_STAT_ADDR_VALID, 4), (Reg.CHAIN_ADDR_RING, 2)] [(Reg.WIDE_MAP_RING 0, 8)] with pwr := { coreRst := false, fieldRst := false }, hub := { wup := 100 } })
     let c := s.chip
     let n := p.toNat
     let on := c.usbOn .hub = true ∧ c.upState = 3
     let has := 1 ≤ n ∧ n ≤ 9
     (on) ∧ (
     (has) ∧ (
     (c.tunnelled n = false) ∧ (
     (n ≠ 9))))) ∧
    (
     let p : BitVec 8 := 9
     let s : State := st (hubOn chip)
     let c := s.chip
     let n := p.toNat
     let on := c.usbOn .hub = true ∧ c.upState = 3
     let has := 1 ≤ n ∧ n ≤ 9
     (on) ∧ (
     (has) ∧ (
     (c.tunnelled n = false) ∧ (
     (n = 9))))) := by
  refine ⟨?_, ?_, ?_, ?_, ?_, ?_, ?_, ?_, ?_, ⟨by decide +kernel, by decide, by decide +kernel, by decide, by decide, by decide, fun k _ h9 _ => Or.inl ((by decide +kernel : ∀ k : Fin 10, bit ((hubOn chip).get (Reg.HUB_PORT_STAT_STATUS k.val)) stEnable = false) ⟨k, by omega⟩)⟩, ?_, ?_, ?_, ?_, ?_, ?_⟩ <;> dsimp only <;> decide +kernel

/-- Witnesses of the hypotheses of Obligations.HubPortResults (part 2). -/
theorem meets_HubPortResults_2 :
    (
     let p : BitVec 8 := 1
     let s : State := st ((hubOn chip).setHp 1 { st := 2 ^ stL1 })
     let c := s.chip
     let n := p.toNat
     let x := c.hp n
     let on := c.usbOn .hub = true ∧ c.upState = 3
     let has := 1 ≤ n ∧ n ≤ 9
     (on) ∧ (
     (has) ∧ (
     (c.tunnelled n = false) ∧ (
     (Sys2Proof.Machine.bit x.st stL1 = true) ∧ (
     (x.phase = 0)))))) ∧
    (
     let p : BitVec 8 := 1
     let s : State := st ({ chip [(Reg.HUB_STAT_EN, 7), (Reg.HUB_STAT_UP_STATE, 3), (Reg.WIDE_STAT_PRESENTING, 2), (Reg.CHAIN_STAT_ADDR_VALID, 3), (Reg.CHAIN_ADDR_STATION, 2), (Reg.CHAIN_ADDR_RING, 4)] [(Reg.WIDE_MAP_EN 0, 2), (Reg.WIDE_MAP_LPORT 0, 3), (Reg.WIDE_MAP_STATION 0, 8), (Reg.WIDE_MAP_RING 0, 8)] with pwr := { coreRst := false, fieldRst := false }, hub := { wup := 7, ports := [(0, { st := 1, phase := 5 })] } })
     let c := s.chip
     let n := p.toNat
     let x := c.hp n
     let on := c.usbOn .hub = true ∧ c.upState = 3
     let has := 1 ≤ n ∧ n ≤ 9
     (on) ∧ (
     (has) ∧ (
     (c.tunnelled n = false) ∧ (
     (Sys2Proof.Machine.bit x.st stL1 = false ∨ x.phase ≠ 0))))) ∧
    (
     let p : BitVec 8 := 9
     let s : State := st (hubOn chip)
     let c := s.chip
     let n := p.toNat
     let on := c.usbOn .hub = true ∧ c.upState = 3
     (on) ∧ (
     (n = 9))) ∧
    (
     let p : BitVec 8 := 1
     let s : State := st (hubOn (wideServed chip))
     let c := s.chip
     let n := p.toNat
     let on := c.usbOn .hub = true ∧ c.upState = 3
     (on) ∧ (
     (1 ≤ n) ∧ (
     (n ≤ 8) ∧ (
     (c.tunnelled n = true))))) ∧
    (
     let p : BitVec 8 := 5
     let s : State := st (chip [(Reg.HUB_STAT_UP_STATE, 3)] [(Reg.WIDE_MAP_LPORT 0, 7)])
     let c := s.chip
     let n := p.toNat
     let on := c.usbOn .hub = true ∧ c.upState = 3
     (on) ∧ (
     (1 ≤ n) ∧ (
     (n ≤ 8) ∧ (
     (c.tunnelled n = false))))) ∧
    (
     let s : State := st (chip [(Reg.HUB_STAT_ALT, 3)])
     let c := s.chip
     (c.flag Reg.HUB_STAT_ALT = true)) ∧
    (
     let p : BitVec 8 := 55
     let s : State := st (chip)
     let c := s.chip
     let n := p.toNat
     (c.flag Reg.HUB_STAT_ALT = false) ∧ (
     (c.tunnelled n = false))) ∧
    (
     let q : Fin 10 := 0
     let s : State := st ({ chip with pwr := { phase := .off, coreRst := false, fieldRst := false }, hub := { ports := [(0, { phase := 1 })] } })
     let c := s.chip
     let m := q.val
     let y := c.hp m
     (c.coreUp = true) ∧ (
     (y.phase = 1))) ∧
    (
     let q : Fin 10 := 0
     let s : State := st (chip)
     let c := s.chip
     let m := q.val
     let y := c.hp m
     (y.phase ≠ 1)) ∧
    (
     let q : Fin 10 := 0
     let s : State := st ({ chip with pwr := { coreRst := false, fieldRst := false }, hub := { ports := [(0, { phase := 2 })] } })
     let c := s.chip
     let m := q.val
     let y := c.hp m
     (c.coreUp = true) ∧ (
     (y.phase = 2))) ∧
    (
     let q : Fin 10 := 0
     let s : State := st (chip)
     let c := s.chip
     let m := q.val
     let y := c.hp m
     (y.phase ≠ 2)) ∧
    (
     let q : Fin 10 := 0
     let s : State := st ({ chip with pwr := { phase := .failed, coreRst := false, fieldRst := false }, hub := { ports := [(0, { phase := 3 })] } })
     let c := s.chip
     let m := q.val
     let y := c.hp m
     (c.coreUp = true) ∧ (
     (y.phase = 3))) ∧
    (
     let q : Fin 10 := 0
     let s : State := st (chip)
     let c := s.chip
     let m := q.val
     let y := c.hp m
     (y.phase ≠ 3)) ∧
    (
     let q : Fin 10 := 0
     let s : State := st ({ chip with pwr := { phase := .off, coreRst := false, fieldRst := false }, hub := { ports := [(0, { st := 63 })] } })
     let c := s.chip
     let m := q.val
     let y := c.hp m
     (c.coreUp = true) ∧ (
     (Sys2Proof.Machine.bit y.st stSuspend = true) ∧ (
     (y.phase = 0)))) ∧
    (
     let q : Fin 10 := 0
     let s : State := st ({ chip with pwr := { coreRst := false, fieldRst := false }, hub := { ports := [(0, { st := 32 })] } })
     let c := s.chip
     let m := q.val
     let y := c.hp m
     (c.coreUp = true) ∧ (
     (Sys2Proof.Machine.bit y.st stSuspend = false) ∧ (
     (Sys2Proof.Machine.bit y.st stL1 = true) ∧ (
     (y.phase = 0))))) ∧
    (
     let q : Fin 10 := 0
     let s : State := st (chip)
     let c := s.chip
     let m := q.val
     let y := c.hp m
     (c.coreUp = true) ∧ (
     (Sys2Proof.Machine.bit y.st stSuspend = false) ∧ (
     (Sys2Proof.Machine.bit y.st stL1 = false)))) := by
  refine ⟨?_, ?_, ?_, ?_, ?_, ?_, ?_, ?_, ?_, ?_, ?_, ?_, ?_, ?_, ?_, ?_⟩ <;> dsimp only <;> decide +kernel

/-- Witnesses of the hypotheses of Obligations.HubPortResults (part 3). -/
theorem meets_HubPortResults_3 :
    (
     let q : Fin 10 := 8
     let s : State := st ((chip).setHp 8 { st := 2 ^ stEnable })
     let c := s.chip
     let m := q.val
     let y := c.hp m
     (c.coreUp = true) ∧ (
     (1 ≤ m) ∧ (
     (m ≤ 8) ∧ (
     (Sys2Proof.Machine.bit y.st stEnable = true) ∧ (
     (Sys2Proof.Machine.bit y.st stSuspend = false) ∧ (
     (Sys2Proof.Machine.bit y.st stL1 = false) ∧ (
     (y.phase = 0)))))))) ∧
    (
     let q : Fin 10 := 0
     let s : State := st (chip)
     let c := s.chip
     let m := q.val
     let y := c.hp m
     (m = 0 ∨ m = 9 ∨ Sys2Proof.Machine.bit y.st stEnable = false ∨ Sys2Proof.Machine.bit y.st stSuspend = true ∨ Sys2Proof.Machine.bit y.st stL1 = true ∨ y.phase ≠ 0)) ∧
    (
     let q : Fin 10 := 2
     let s : State := st ({ chip with pwr := { coreRst := false, fieldRst := false }, hub := { ports := [(2, { conn := some (.low) })] } })
     let c := s.chip
     let m := q.val
     let y := c.hp m
     (c.coreUp = true) ∧ (
     (1 ≤ m) ∧ (
     (m ≤ 8) ∧ (
     (c.occPort m = false) ∧ (
     (y.conn.isSome = true)))))) ∧
    (
     let q : Fin 10 := 8
     let s : State := st ((chip).setHp 8 { st := 2 ^ stPower })
     let c := s.chip
     let m := q.val
     let y := c.hp m
     (c.coreUp = true) ∧ (
     (1 ≤ m) ∧ (
     (m ≤ 8) ∧ (
     (c.occPort m = false) ∧ (
     (Sys2Proof.Machine.bit y.st stPower = true) ∧ (
     (y.conn = none) ∧ (
     (5 ≤ m ∨ (c.cuff (m - 1)).pair = true)))))))) ∧
    (
     let q : Fin 10 := 3
     let s : State := st (chip)
     let c := s.chip
     let m := q.val
     let y := c.hp m
     (c.coreUp = true) ∧ (
     (1 ≤ m) ∧ (
     (m ≤ 8) ∧ (
     (c.occPort m = false) ∧ (
     (y.conn = none)))))) ∧
    (
     let q : Fin 10 := 3
     let s : State := st (chip)
     let c := s.chip
     let m := q.val
     let y := c.hp m
     (c.coreUp = true) ∧ (
     (1 ≤ m) ∧ (
     (m ≤ 8) ∧ (
     (c.occPort m = false) ∧ (
     (Sys2Proof.Machine.bit y.st stPower = false ∨ y.conn ≠ none)))))) ∧
    (
     let q : Fin 10 := 5
     let s : State := st ({ chip with pwr := { coreRst := false, fieldRst := false }, hub := { ports := [(5, { st := 6 })] } })
     let c := s.chip
     let m := q.val
     let y := c.hp m
     (c.coreUp = true) ∧ (
     (m ≠ 0) ∧ (
     (Sys2Proof.Machine.bit y.st stEnable = true)))) ∧
    (
     let q : Fin 10 := 0
     let s : State := st (chip)
     let c := s.chip
     let m := q.val
     let y := c.hp m
     (m = 0 ∨ Sys2Proof.Machine.bit y.st stEnable = false)) := by
  refine ⟨?_, ?_, ?_, ?_, ?_, ?_, ?_, ?_⟩ <;> dsimp only <;> decide +kernel

/-- Witnesses of the hypotheses of Obligations.HubRequestAndBusResults (part 1). -/
theorem meets_HubRequestAndBusResults_1 :
    (
     let d : UsbDev := .hub
     let index : BitVec 16 := 0
     let s : State := st ({ chip [(Reg.HUB_STAT_UP_STATE, 1)] with pwr := { coreRst := false, fieldRst := false }, hub := { ports := [(5, { st := 100 })] } })
     let c := s.chip
     let on := c.usbOn d = true
     let w := index.toNat
     (on) ∧ (
     (hasEp d w = true))) ∧
    (
     let d : UsbDev := .hub
     let index : BitVec 16 := 100
     let s : State := st (chip [(Reg.HUB_STAT_UP_STATE, 1)])
     let c := s.chip
     let on := c.usbOn d = true
     let w := index.toNat
     (on) ∧ (
     (hasEp d w = false))) ∧
    (
     let d : UsbDev := .hub
     let index : BitVec 16 := 0
     let s : State := st ({ chip [(Reg.HUB_STAT_UP_STATE, 1)] with pwr := { coreRst := false, fieldRst := false }, hub := { ports := [(0, { st := 1 })] } })
     let c := s.chip
     let on := c.usbOn d = true
     let v := c.dev d
     let w := index.toNat
     (on) ∧ (
     (w ≠ 0 ∨ v.config = 0))) ∧
    (
     let d : UsbDev := .hub
     let sel : BitVec 16 := 1
     let s : State := st ({ chip [(Reg.HUB_STAT_EN, 7), (Reg.WIDE_STAT_PRESENTING, 4), (Reg.HUB_STAT_UP_STATE, 2)] with pwr := { coreRst := false, fieldRst := false }, hub := { wup := 3, ports := [(0, { st := 5 })] } })
     let c := s.chip
     let on := c.usbOn d = true
     (on) ∧ (
     (sel.toNat = 1))) ∧
    (
     let d : UsbDev := .hub
     let index : BitVec 16 := 0
     let sel : BitVec 16 := 0
     let s : State := st ({ chip [(Reg.HUB_STAT_EN, 1), (Reg.HUB_STAT_UP_STATE, 1), (Reg.WIDE_STAT_PRESENTING, 8)] with pwr := { coreRst := false, fieldRst := false }, hub := { ports := [(9, { st := 1 })] } })
     let c := s.chip
     let on := c.usbOn d = true
     let w := index.toNat
     (on) ∧ (
     (sel.toNat = 0) ∧ (
     (hasEp d w = true)))) ∧
    (
     let d : UsbDev := .hub
     let rcp : Recipient := .interface
     let index : BitVec 16 := 1
     let sel : BitVec 16 := 13936
     let s : State := st ({ chip [(Reg.HUB_STAT_UP_STATE, 1), (Reg.WIDE_STAT_PRESENTING, 8)] with pwr := { coreRst := false, fieldRst := false }, hub := { wup := 0 } })
     let c := s.chip
     let on := c.usbOn d = true
     let w := index.toNat
     (on) ∧ (
     ((rcp = .device ∧ sel.toNat ≠ 1) ∨ (rcp = .endpoint ∧ (sel.toNat ≠ 0 ∨ hasEp d w = false)) ∨ rcp = .interface ∨ rcp = .other))) ∧
    (
     let d : UsbDev := .hub
     let index : BitVec 16 := 0x0500
     let sel : BitVec 16 := 2
     let s : State := st (hubOn chip)
     let c := s.chip
     let on := c.usbOn d = true
     let w := index.toNat
     (on) ∧ (
     (sel.toNat = 2) ∧ (
     (d ≠ .mgmt) ∧ (
     (w % 256 = 0) ∧ (
     (1 ≤ w / 256) ∧ (
     (w / 256 ≤ 5))))))) ∧
    (
     let d : UsbDev := .hub
     let rcp : Recipient := .interface
     let index : BitVec 16 := 1
     let sel : BitVec 16 := 13936
     let s : State := st ({ chip [(Reg.HUB_STAT_UP_STATE, 1), (Reg.WIDE_STAT_PRESENTING, 8)] with pwr := { coreRst := false, fieldRst := false }, hub := { wup := 0 } })
     let c := s.chip
     let on := c.usbOn d = true
     let w := index.toNat
     (on) ∧ (
     ((rcp = .device ∧ sel.toNat ≠ 1 ∧ sel.toNat ≠ 2) ∨ (rcp = .endpoint ∧ (sel.toNat ≠ 0 ∨ hasEp d w = false)) ∨ rcp = .interface ∨ rcp = .other))) ∧
    (
     let d : UsbDev := .hub
     let s : State := st ({ chip [(Reg.HUB_STAT_UP_STATE, 3)] with pwr := { coreRst := false, fieldRst := false }, hub := { wup := 0 } })
     let c := s.chip
     let on := c.usbOn d = true
     let up := c.upState
     (on) ∧ (
     (d = .mgmt ∨ up = 3))) ∧
    (
     let d : UsbDev := .hub
     let s : State := st ({ chip [(Reg.HUB_STAT_UP_STATE, 2)] with pwr := { coreRst := false, fieldRst := false }, hub := { ports := [(5, { st := 63 })] } })
     let c := s.chip
     let on := c.usbOn d = true
     let up := c.upState
     (on) ∧ (
     (d ≠ .mgmt) ∧ (
     (up ≠ 3)))) ∧
    (
     let d : UsbDev := .hub
     let kind : BitVec 8 := 7
     let i8 : BitVec 8 := 0
     let s : State := st ({ chip [(Reg.HUB_STAT_HS, 0), (Reg.WIDE_STAT_PRESENTING, 0), (Reg.HUB_STAT_UP_STATE, 1)] with pwr := { coreRst := false, fieldRst := false }, hub := { wup := 0 } })
     let c := s.chip
     let on := c.usbOn d = true
     (on) ∧ (
     let l : List Nat := [9, 7, 41, 0, 1, 1, 0, 224, 0, 9, 4, 0, 0, 1, 9, 0, 1, 0, 7, 5, 129, 3, 2, 0, 12, 9, 4, 0, 1, 1, 9, 0, 2, 0, 7, 5, 129,  3, 2, 0, 12]
     (c.descriptor d kind.toNat i8.toNat = some l))) ∧
    (
     let d : UsbDev := .wide
     let kind : BitVec 8 := 219
     let i8 : BitVec 8 := 3
     let s : State := st ({ chip [(Reg.HUB_STAT_EN, 0), (Reg.HUB_STAT_UP_STATE, 1), (Reg.WIDE_STAT_PRESENTING, 1), (Reg.HUB_STAT_HS, 2), (Reg.WIDE_CFG_NPORTS, 5)] with pwr := { coreRst := false, fieldRst := false }, hub := { wup := 1 } })
     let c := s.chip
     let on := c.usbOn d = true
     (on) ∧ (
     (c.descriptor d kind.toNat i8.toNat = none))) ∧
    (
     let d : UsbDev := .hub
     let value : BitVec 8 := 100
     let s : State := st (chip [(Reg.HUB_STAT_UP_STATE, 1)])
     let c := s.chip
     let on := c.usbOn d = true
     (on) ∧ (
     (1 < value.toNat))) ∧
    (
     let d : UsbDev := .mgmt
     let value : BitVec 8 := 1
     let s : State := st (mgmtOn chip)
     let c := s.chip
     let on := c.usbOn d = true
     (on) ∧ (
     (value.toNat ≤ 1) ∧ (
     (d = .mgmt)))) ∧
    (
     let d : UsbDev := .wide
     let value : BitVec 8 := 1
     let s : State := st (wideOn chip)
     let c := s.chip
     let on := c.usbOn d = true
     (on) ∧ (
     (value.toNat ≤ 1) ∧ (
     (d = .wide) ∧ (
     (value.toNat = 1))))) ∧
    (
     let d : UsbDev := .wide
     let value : BitVec 8 := 0
     let s : State := st ({ chip [(Reg.HUB_STAT_EN, 7), (Reg.WIDE_STAT_PRESENTING, 5), (Reg.HUB_STAT_UP_STATE, 5)] with pwr := { coreRst := false, fieldRst := false }, hub := { wup := 2, ports := [(0, { st := 1 })] } })
     let c := s.chip
     let on := c.usbOn d = true
     (on) ∧ (
     (value.toNat ≤ 1) ∧ (
     (d = .wide) ∧ (
     (value.toNat = 0))))) := by
  refine ⟨?_, ?_, ?_, ?_, ?_, ?_, ?_, ?_, ?_, ?_, ?_, ?_, ?_, ?_, ?_, ?_⟩ <;> dsimp only <;> decide +kernel

/-- Witnesses of the hypotheses of Obligations.HubRequestAndBusResults (part 2). -/
theorem meets_HubRequestAndBusResults_2 :
    (
     let d : UsbDev := .hub
     let value : BitVec 8 := 1
     let s : State := st ({ chip [(Reg.HUB_STAT_UP_STATE, 3), (Reg.WIDE_STAT_PRESENTING, 0)] with pwr := { coreRst := false, fieldRst := false }, hub := { wup := 52, ports := [(0, { st := 0 })] } })
     let c := s.chip
     let on := c.usbOn d = true
     (on) ∧ (
     (value.toNat ≤ 1) ∧ (
     (d = .hub) ∧ (
     (value.toNat = 1))))) ∧
    (
     let d : UsbDev := .hub
     let value : BitVec 8 := 0
     let s : State := st ({ chip [(Reg.HUB_STAT_UP_STATE, 3), (Reg.WIDE_STAT_PRESENTING, 0)] with pwr := { coreRst := false, fieldRst := false }, hub := { wup := 52, ports := [(0, { st := 0 })] } })
     let c := s.chip
     let on := c.usbOn d = true
     (on) ∧ (
     (value.toNat ≤ 1) ∧ (
     (d = .hub) ∧ (
     (value.toNat = 0))))) ∧
    (
     let d : UsbDev := .hub
     let index : BitVec 16 := 0
     let alt : BitVec 16 := 0
     let s : State := st ({ chip [(Reg.HUB_STAT_EN, 5), (Reg.HUB_STAT_UP_STATE, 1), (Reg.WIDE_STAT_PRESENTING, 4)] with pwr := { coreRst := false, fieldRst := false }, hub := { devs := [(0, { config := 32 })] } })
     let c := s.chip
     let on := c.usbOn d = true
     let v := c.dev d
     let w := index.toNat
     (on) ∧ (
     (w = 0) ∧ (
     (v.config ≠ 0) ∧ (
     (alt.toNat = 0 ∨ (alt.toNat = 1 ∧ d ≠ .mgmt ∧ c.flag Reg.HUB_STAT_HS = true)))))) ∧
    (
     let d : UsbDev := .hub
     let index : BitVec 16 := 31122
     let alt : BitVec 16 := 0
     let s : State := st ({ chip [(Reg.HUB_STAT_HS, 2), (Reg.HUB_STAT_UP_STATE, 1)] with pwr := { coreRst := false, fieldRst := false }, hub := { ports := [(1, { st := 0 })] } })
     let c := s.chip
     let on := c.usbOn d = true
     let v := c.dev d
     let w := index.toNat
     (on) ∧ (
     (w ≠ 0 ∨ v.config = 0 ∨ 1 < alt.toNat ∨ (alt.toNat = 1 ∧ (d = .mgmt ∨ c.flag Reg.HUB_STAT_HS = false))))) ∧
    (
     let d : UsbDev := .wide
     let value16 : BitVec 16 := 8
     let rt : BitVec 8 := 0
     let request : BitVec 8 := 157
     let s : State := st ({ chip [(Reg.WIDE_STAT_PRESENTING, 5)] with pwr := { coreRst := false, fieldRst := false }, hub := { wup := 2 }, lnk := [(9, { reqW := 7 })] })
     let c := s.chip
     let on := c.usbOn d = true
     (on) ∧ (
     (hubListed d rt.toNat request.toNat value16.toNat = false))) ∧
    (
     let d : UsbDev := .wide
     let value16 : BitVec 16 := 5
     let rt : BitVec 8 := 0
     let request : BitVec 8 := 8
     let s : State := st ({ chip [(Reg.HUB_STAT_UP_STATE, 4), (Reg.WIDE_STAT_PRESENTING, 5)] with pwr := { coreRst := false, fieldRst := false }, hub := { wup := 2 } })
     let c := s.chip
     let on := c.usbOn d = true
     (on) ∧ (
     (hubListed d rt.toNat request.toNat value16.toNat = true))) ∧
    (
     let d : UsbDev := .hub
     let sel : BitVec 16 := 0
     let s : State := st ({ chip [(Reg.HUB_STAT_UP_STATE, 1)] with pwr := { coreRst := false, fieldRst := false }, hub := { ports := [(5, { st := 100 })] } })
     let c := s.chip
     let on := c.usbOn d = true
     (on) ∧ (
     (d ≠ .mgmt) ∧ (
     (sel.toNat ≤ 1)))) ∧
    (
     let d : UsbDev := .hub
     let sel : BitVec 16 := 100
     let s : State := st (chip [(Reg.HUB_STAT_UP_STATE, 1)])
     let c := s.chip
     let on := c.usbOn d = true
     (on) ∧ (
     (1 < sel.toNat))) ∧
    (
     let d : UsbDev := .mgmt
     let s : State := st (mgmtOn chip)
     let c := s.chip
     let on := c.usbOn d = true
     (on) ∧ (
     (d = .mgmt))) ∧
    (
     let d : UsbDev := .mgmt
     let s : State := st (chip)
     let c := s.chip
     (c.usbOn d = false)) ∧
    (
     let d : UsbDev := .mgmt
     (d ≠ .hub)) ∧
    (
     let s : State := st (chip)
     let c := s.chip
     let up := c.upState
     let awake := c.coreUp = true ∧ 1 ≤ up ∧ up ≤ 3
     (¬awake)) ∧
    (
     let s : State := st (chip)
     let c := s.chip
     let up := c.upState
     (c.flag Reg.HUB_SOF_LOCK = false ∨ up = 4 ∨ up = 0)) ∧
    (
     let s : State := st ({ chip [(Reg.HUB_SOF_LOCK, 5), (Reg.HUB_STAT_UP_STATE, 5), (Reg.WIDE_STAT_PRESENTING, 0)] with hub := { lastSof := 3, wup := 0 } })
     let c := s.chip
     let up := c.upState
     (c.flag Reg.HUB_SOF_LOCK = true) ∧ (
     (up ≠ 4) ∧ (
     (up ≠ 0) ∧ (
     (c.ct.toNat < c.hub.lastSof + 187500))))) ∧
    (
     let s : State := st ({ chip [(Reg.HUB_STAT_UP_STATE, 4), (Reg.WIDE_STAT_PRESENTING, 2)] with pwr := { coreRst := false, fieldRst := false }, hub := { wakeDue := true } })
     let c := s.chip
     let up := c.upState
     (c.coreUp = true) ∧ (
     (c.hub.wakeDue = true) ∧ (
     (up = 4)))) ∧
    (
     let s : State := st (chip)
     let c := s.chip
     let up := c.upState
     (c.hub.wakeDue = false ∨ up ≠ 4)) := by
  refine ⟨?_, ?_, ?_, ?_, ?_, ?_, ?_, ?_, ?_, ?_, ?_, ?_, ?_, ?_, ?_, ?_⟩ <;> dsimp only <;> decide +kernel

/-- Witnesses of the hypotheses of Obligations.HubRequestAndBusResults (part 3). -/
theorem meets_HubRequestAndBusResults_3 :
    (
     let s : State := st (chip [(Reg.HUB_STAT_UP_STATE, 5), (Reg.WIDE_STAT_PRESENTING, 8)])
     let c := s.chip
     let up := c.upState
     (c.coreUp = true) ∧ (
     (up = 5))) ∧
    (
     let s : State := st (chip [(Reg.HUB_STAT_UP_STATE, 4)])
     let c := s.chip
     let up := c.upState
     (c.coreUp = true) ∧ (
     (up = 4))) ∧
    (
     let s : State := st (chip)
     let c := s.chip
     let up := c.upState
     (up ≠ 4) ∧ (
     (up ≠ 5))) ∧
    (
     let s : State := st ({ chip [(Reg.CLK_CYC_NUM, 2), (Reg.CHAIN_STAT_ROLE, 3), (Reg.CHAIN_STAT_DETACHED, 3), (Reg.WIDE_STAT_PRESENTING, 3)] with pwr := { coreRst := false, fieldRst := false }, hub := { pair := true }, wide := { detach := false }, chain := { detach := some (7) }, fuseReq := 1 })
     let c := s.chip
     (c.coreUp = true) ∧ (
     (c.hub.pair = true) ∧ (
     (c.wide.detach = false) ∧ (
     (c.presenting = true))))) ∧
    (
     let s : State := st ({ chip with pwr := { coreRst := false, fieldRst := false }, hub := { pair := true } })
     let c := s.chip
     (c.coreUp = true) ∧ (
     (c.hub.pair = true) ∧ (
     (c.wide.detach = false) ∧ (
     (c.presenting = false) ∧ (
     (c.flag Reg.HUB_STAT_EN = true)))))) ∧
    (
     let s : State := st ({ chip [(Reg.HUB_STAT_EN, 2), (Reg.CLK_CYC_NUM, 0)] with pwr := { coreRst := false, fieldRst := false }, hub := { pair := true }, chain := { detach := none } })
     let c := s.chip
     (c.coreUp = true) ∧ (
     (c.hub.pair = true) ∧ (
     (c.wide.detach = false) ∧ (
     (c.presenting = false) ∧ (
     (c.flag Reg.HUB_STAT_EN = false)))))) ∧
    (
     let s : State := st (chip)
     let c := s.chip
     (c.hub.pair = false ∨ c.wide.detach = true)) ∧
    (
     let s : State := st ({ chip [(Reg.HUB_STAT_UP_STATE, 4), (Reg.WIDE_STAT_PRESENTING, 5), (Reg.WIDE_CFG_NPORTS, 3), (Reg.HUB_PORT_STAT_STATUS 0, 4)] with evt := { mq := [] }, pwr := { coreRst := false, fieldRst := false }, hub := { wup := 3 } })
     let c := s.chip
     let up := c.upState
     let awake := c.coreUp = true ∧ 1 ≤ up ∧ up ≤ 3
     (awake) ∧ (
     ((if c.presenting then c.wideQuiet else c.portsQuiet) = true) ∧ (
     (c.evt.mq = [])))) ∧
    (
     let s : State := st ({ chip [(Reg.HUB_STAT_UP_STATE, 4), (Reg.WIDE_STAT_PRESENTING, 5), (Reg.WIDE_CFG_NPORTS, 3), (Reg.HUB_PORT_STAT_STATUS 0, 3)] with evt := { mq := [[6], [0, 8], [16], [], [1], [], [], [16], [63, 31], [3, 0]] }, pwr := { coreRst := false, fieldRst := false }, hub := { wup := 3 } })
     let c := s.chip
     let up := c.upState
     let awake := c.coreUp = true ∧ 1 ≤ up ∧ up ≤ 3
     (awake) ∧ (
     ((if c.presenting then c.wideQuiet else c.portsQuiet) = false ∨ c.evt.mq ≠ []))) ∧
    (
     let q : Fin 10 := 1
     let n : Nat := 1350
     let s : State := st (ttOn {} chip)
     let c := s.chip
     let up := c.upState
     let m := q.val
     let x := c.hp m
     let takes := c.usbOn .hub = true ∧ up = 3 ∧ c.tunnelled m = false ∧ c.ttLive m = true
     (takes) ∧ (
     let ks := c.ttPorts m
     let held := (ks.flatMap (fun k => (c.hp k).per)).countP (fun e => e.ok && e.age == 0)
     let used := ks.foldl (fun t k => t + (c.hp k).bytes) 0
     (held < 16) ∧ (
     (used + n ≤ 1350) ∧ (
     (x.stopped = false))))) ∧
    (
     let q : Fin 10 := 1
     let s : State := st (ttOn { stopped := true } chip)
     let c := s.chip
     let up := c.upState
     let m := q.val
     let x := c.hp m
     let takes := c.usbOn .hub = true ∧ up = 3 ∧ c.tunnelled m = false ∧ c.ttLive m = true
     (takes) ∧ (
     (x.stopped = true))) ∧
    (
     let q : Fin 10 := 1
     let n : Nat := 1351
     let s : State := st (ttOn {} chip)
     let c := s.chip
     let up := c.upState
     let m := q.val
     let x := c.hp m
     let takes := c.usbOn .hub = true ∧ up = 3 ∧ c.tunnelled m = false ∧ c.ttLive m = true
     (takes) ∧ (
     let ks := c.ttPorts m
     let held := (ks.flatMap (fun k => (c.hp k).per)).countP (fun e => e.ok && e.age == 0)
     let used := ks.foldl (fun t k => t + (c.hp k).bytes) 0
     (16 ≤ held ∨ 1350 < used + n) ∧ (
     (x.stopped = false)))) ∧
    (
     let q : Fin 10 := 1
     let ep : TtEndpoint := ⟨1, 1, true⟩
     let s : State := st (ttOn {} chip)
     let c := s.chip
     let up := c.upState
     let m := q.val
     let x := c.hp m
     let takes := c.usbOn .hub = true ∧ up = 3 ∧ c.tunnelled m = false ∧ c.ttLive m = true
     (takes) ∧ (
     let ks := c.ttPorts m
     let others := (ks.flatMap (fun k => (c.hp k).bufs)).countP (fun e => e.ep != ep)
     (others < 2) ∧ (
     (x.stopped = false)))) ∧
    (
     let q : Fin 10 := 1
     let ep : TtEndpoint := ⟨1, 1, true⟩
     let s : State := st (ttOn { bufs := [⟨⟨1, 2, true⟩, []⟩, ⟨⟨1, 3, true⟩, []⟩] } chip)
     let c := s.chip
     let up := c.upState
     let m := q.val
     let x := c.hp m
     let takes := c.usbOn .hub = true ∧ up = 3 ∧ c.tunnelled m = false ∧ c.ttLive m = true
     (takes) ∧ (
     let ks := c.ttPorts m
     let others := (ks.flatMap (fun k => (c.hp k).bufs)).countP (fun e => e.ep != ep)
     (2 ≤ others ∨ x.stopped = true))) ∧
    (
     let q : Fin 10 := 1
     let ep : TtEndpoint := ⟨1, 1, true⟩
     let s : State := st (ttOn { per := [⟨⟨1, 1, true⟩, true, 0⟩] } chip)
     let c := s.chip
     let up := c.upState
     let m := q.val
     let x := c.hp m
     let takes := c.usbOn .hub = true ∧ up = 3 ∧ c.tunnelled m = false ∧ c.ttLive m = true
     (takes) ∧ (
     let e : TtPer := ⟨⟨1, 1, true⟩, true, 0⟩
     (x.per.find? (fun e => e.ep == ep) = some e))) ∧
    (
     let q : Fin 10 := 1
     let ep : TtEndpoint := ⟨1, 1, true⟩
     let s : State := st (ttOn { bufs := [⟨⟨1, 1, true⟩, []⟩] } chip)
     let c := s.chip
     let up := c.upState
     let m := q.val
     let x := c.hp m
     let takes := c.usbOn .hub = true ∧ up = 3 ∧ c.tunnelled m = false ∧ c.ttLive m = true
     (takes) ∧ (
     (x.per.find? (fun e => e.ep == ep) = none) ∧ (
     (x.bufs.any (fun e => e.ep == ep) = true)))) := by
  refine ⟨?_, ?_, ?_, ?_, ?_, ?_, ?_, ?_, ?_, ?_, ?_, ?_, ?_, ?_, ?_, ?_⟩ <;> dsimp only <;> decide +kernel

/-- Witnesses of the hypotheses of Obligations.HubRequestAndBusResults (part 4). -/
theorem meets_HubRequestAndBusResults_4 :
    (
     let q : Fin 10 := 1
     let ep : TtEndpoint := ⟨1, 1, true⟩
     let s : State := st (ttOn {} chip)
     let c := s.chip
     let up := c.upState
     let m := q.val
     let x := c.hp m
     let takes := c.usbOn .hub = true ∧ up = 3 ∧ c.tunnelled m = false ∧ c.ttLive m = true
     (takes) ∧ (
     (x.per.find? (fun e => e.ep == ep) = none) ∧ (
     (x.bufs.any (fun e => e.ep == ep) = false)))) ∧
    (
     let q : Fin 10 := 0
     let s : State := st (chip)
     let c := s.chip
     let up := c.upState
     let m := q.val
     let takes := c.usbOn .hub = true ∧ up = 3 ∧ c.tunnelled m = false ∧ c.ttLive m = true
     (¬takes)) ∧
    (
     let s : State := st ({ chip [(Reg.HUB_STAT_UP_STATE, 3), (Reg.WIDE_STAT_PRESENTING, 0)] with pwr := { coreRst := false, fieldRst := false }, hub := { devs := [(1, { halts := 63 })] } })
     let c := s.chip
     let up := c.upState
     (c.presenting = false) ∧ (
     (c.usbOn .hub = true) ∧ (
     (up = 3) ∧ (
     (Sys2Proof.Machine.bit (c.dev .hub).halts 17 = false) ∧ (
     let changes := [1, 2, 3, 4, 5, 6, 7, 8, 9].foldl (fun t k => if c.get (Reg.HUB_PORT_STAT_CHANGE k) = 0 then t else t + 2 ^ k) 0
     (changes = 0)))))) ∧
    (
     let s : State := st ({ chip [(Reg.HUB_PORT_STAT_CHANGE 5, 7), (Reg.HUB_STAT_UP_STATE, 3)] with pwr := { coreRst := false, fieldRst := false }, hub := { ports := [(0, { st := 0 })], devs := [(0, { halts := 52 })] } })
     let c := s.chip
     let up := c.upState
     (c.presenting = false) ∧ (
     (c.usbOn .hub = true) ∧ (
     (up = 3) ∧ (
     (Sys2Proof.Machine.bit (c.dev .hub).halts 17 = false) ∧ (
     let changes := [1, 2, 3, 4, 5, 6, 7, 8, 9].foldl (fun t k => if c.get (Reg.HUB_PORT_STAT_CHANGE k) = 0 then t else t + 2 ^ k) 0
     (changes ≠ 0)))))) ∧
    (
     let s : State := st (chip)
     let c := s.chip
     (c.presenting = false) ∧ (
     (c.usbOn .hub = false))) ∧
    (
     let r : Requester := .mgmt
     let s : State := st (chip)
     let c := s.chip
     (c.takes r Reg.HUB_CTL_ENABLE.addr = true)) ∧
    (
     let r : Requester := .mgmt
     let s : State := st (chip)
     let c := s.chip
     (c.takes r Reg.HUB_CTL_DISABLE.addr = true)) ∧
    (
     let r : Requester := .engine 3
     let s : State := st (chip [(Reg.HUB_STAT_RWAKE_EN, 1), (Reg.HUB_STAT_UP_STATE, 4)])
     let c := s.chip
     (c.takes r Reg.HUB_CTL_RWAKE.addr = true) ∧ (
     (c.get Reg.HUB_STAT_UP_STATE = 4) ∧ (
     (c.flag Reg.HUB_STAT_RWAKE_EN = true)))) ∧
    (
     let r : Requester := .mgmt
     let s : State := st (chip [(Reg.HUB_STAT_RWAKE_EN, 3), (Reg.HUB_STAT_UP_STATE, 2)])
     let c := s.chip
     (c.takes r Reg.HUB_CTL_RWAKE.addr = true) ∧ (
     (c.get Reg.HUB_STAT_UP_STATE ≠ 4 ∨ c.flag Reg.HUB_STAT_RWAKE_EN = false))) := by
  refine ⟨?_, ?_, ?_, ?_, ?_, ?_, ?_, ?_, ?_⟩ <;> dsimp only <;> decide +kernel

/-- Witnesses of the hypotheses of Obligations.ManagementRequestResults (part 1). -/
theorem meets_ManagementRequestResults_1 :
    (
     let s : State := st (chip)
     let c := s.chip
     (c.usbOn .mgmt = false)) ∧
    (
     let s : State := st ({ chip [(Reg.HUB_STAT_UP_STATE, 7), (Reg.WIDE_STAT_PRESENTING, 1)] with pwr := { coreRst := false, fieldRst := false }, hub := { wup := 3, ports := [(9, { st := 2 })], devs := [(1, { halts := 31 })] } })
     let c := s.chip
     let on := c.usbOn .mgmt = true
     (on) ∧ (
     (Sys2Proof.Machine.bit (c.dev .mgmt).halts 1 = true))) ∧
    (
     let s : State := st ({ mgmtOn (chip [(Reg.CHAIN_STAT_ROLE, 4), (Reg.WIDE_STAT_PRESENTING, 2)] [(Reg.CLK_CYCLE, 5)]) with clk := { markNs := 8 }, pwr := { coreRst := false, fieldRst := false }, wide := { ports := [(0, { held := [] })] }, mgmt := { run := some ((⟨6, 0, 100, 0, []⟩, [1, 4, 0, 0, 1, 16, 0, 0, 8, 0, 255, 0, 0, 7, 1, 0, 7, 8])), held := ⟨100, 4, 5, 8, 3 :: []⟩ :: ⟨1, 0, 0, 0, 0 :: []⟩ :: [] }, ct := 0 })
     let c := s.chip
     let on := c.usbOn .mgmt = true
     let open_ := on ∧ Sys2Proof.Machine.bit (c.dev .mgmt).halts 1 = false
     (open_) ∧ (
     (c.mgmt.run.isSome = true) ∧ (
     (2 ≤ c.mgmt.held.length)))) ∧
    (
     let s : State := st (let c := mgmtOn (chip [(Reg.SYS_BOOT_STATE, 4)]); c.setMgmt { run := some (⟨6, 0, 0, 0, []⟩, []) })
     let c := s.chip
     let on := c.usbOn .mgmt = true
     let open_ := on ∧ Sys2Proof.Machine.bit (c.dev .mgmt).halts 1 = false
     (open_) ∧ (
     let q : MgmtReq := ⟨6, 0, 0, 0, []⟩
     let l : List (BitVec 8) := []
     (c.mgmt.run = some (q, l)) ∧ (
     (c.mgmt.held.length < 2) ∧ (
     (q.op = 6) ∧ (
     (c.get Reg.SYS_BOOT_STATE = 4)))))) ∧
    (
     let len : BitVec 32 := 0
     let s : State := st ({ mgmtOn (chip [(Reg.CLK_STATUS_SYNC, 7), (Reg.WIDE_STAT_PRESENTING, 4096), (Reg.HUB_STAT_UP_STATE, 2)] [(Reg.CLK_CYCLE, 5)]) with clk := { markNs := 16 }, pwr := { coreRst := false, fieldRst := false } })
     let c := s.chip
     let on := c.usbOn .mgmt = true
     let open_ := on ∧ Sys2Proof.Machine.bit (c.dev .mgmt).halts 1 = false
     let idle := open_ ∧ c.mgmt.run = none ∧ c.mgmt.held = []
     (idle) ∧ (
     (len.toNat % 4 = 0) ∧ (
     (len.toNat ≤ 4096)))) ∧
    (
     let len : BitVec 32 := 1905630735
     let s : State := st (mgmtOn (chip [(Reg.HUB_STAT_EN, 1), (Reg.HUB_STAT_UP_STATE, 2)] [(Reg.CLK_CYCLE, 8)]))
     let c := s.chip
     let on := c.usbOn .mgmt = true
     let open_ := on ∧ Sys2Proof.Machine.bit (c.dev .mgmt).halts 1 = false
     let idle := open_ ∧ c.mgmt.run = none ∧ c.mgmt.held = []
     (idle) ∧ (
     (len.toNat % 4 ≠ 0 ∨ 4096 < len.toNat))) ∧
    (
     let tag : BitVec 16 := 100
     let addr : BitVec 32 := 0
     let words : List (BitVec 32) := []
     let s : State := st (mgmtOn chip)
     let c := s.chip
     let on := c.usbOn .mgmt = true
     let open_ := on ∧ Sys2Proof.Machine.bit (c.dev .mgmt).halts 1 = false
     let idle := open_ ∧ c.mgmt.run = none ∧ c.mgmt.held = []
     let t := c.answer .ack
     let wr : MgmtReq := ⟨2, tag.toNat, addr.toNat, 4 * words.length, words.flatMap wordBytes⟩
     (idle) ∧ (
     (words.length ≤ 1024) ∧ (
     let u := mgmtWrites wr words addr.toNat 0 t
     (u.1.coreUp = true)))) ∧
    (
     let tag : BitVec 16 := 0
     let addr : BitVec 32 := 0x1000014
     let words : List (BitVec 32) := [1]
     let s : State := st (mgmtOn chip)
     let c := s.chip
     let on := c.usbOn .mgmt = true
     let open_ := on ∧ Sys2Proof.Machine.bit (c.dev .mgmt).halts 1 = false
     let idle := open_ ∧ c.mgmt.run = none ∧ c.mgmt.held = []
     let t := c.answer .ack
     let wr : MgmtReq := ⟨2, tag.toNat, addr.toNat, 4 * words.length, words.flatMap wordBytes⟩
     (idle) ∧ (
     (words.length ≤ 1024) ∧ (
     let u := mgmtWrites wr words addr.toNat 0 t
     (u.1.coreUp = false)))) ∧
    (
     let words : List (BitVec 32) := List.replicate 1025 0
     let s : State := st (mgmtOn chip)
     let c := s.chip
     let on := c.usbOn .mgmt = true
     let open_ := on ∧ Sys2Proof.Machine.bit (c.dev .mgmt).halts 1 = false
     let idle := open_ ∧ c.mgmt.run = none ∧ c.mgmt.held = []
     (idle) ∧ (
     (1024 < words.length))) ∧
    (
     let len : BitVec 32 := 52
     let s : State := st ({ mgmtOn (chip [(Reg.SYS_BOOT_STATE, 2), (Reg.CLK_STATUS_SYNC, 7), (Reg.CHAIN_STAT_ROLE, 5), (Reg.HUB_STAT_EN, 3), (Reg.WIDE_STAT_PRESENTING, 0), (Reg.HUB_STAT_UP_STATE, 5), (Reg.FLASK_FSTAT_STATE 0, 3)] [(Reg.CLK_CYCLE, 52)]) with clk := { markNs := 1 }, pwr := { coreRst := false, fieldRst := false } })
     let c := s.chip
     let on := c.usbOn .mgmt = true
     let open_ := on ∧ Sys2Proof.Machine.bit (c.dev .mgmt).halts 1 = false
     let idle := open_ ∧ c.mgmt.run = none ∧ c.mgmt.held = []
     let f52 := c.active 52 = true
     (idle) ∧ (
     (f52) ∧ (
     (c.get Reg.SYS_BOOT_STATE = 2) ∧ (
     (len.toNat ≤ 0x100000))))) ∧
    (
     let len : BitVec 32 := 0
     let s : State := st (mgmtOn (chip [(Reg.SYS_BOOT_STATE, 8)]))
     let c := s.chip
     let on := c.usbOn .mgmt = true
     let open_ := on ∧ Sys2Proof.Machine.bit (c.dev .mgmt).halts 1 = false
     let idle := open_ ∧ c.mgmt.run = none ∧ c.mgmt.held = []
     let f52 := c.active 52 = true
     (idle) ∧ (
     (f52) ∧ (
     (c.get Reg.SYS_BOOT_STATE ≠ 2 ∨ 0x100000 < len.toNat)))) ∧
    (
     let off : BitVec 32 := 4
     let data : List (BitVec 8) := [0, 0, 0, 0]
     let s : State := st (let c := mgmtOn (chip [(Reg.SYS_BOOT_STATE, 3)]); { c with boot := { c.boot with load := some (8, 4, 0) } })
     let c := s.chip
     let on := c.usbOn .mgmt = true
     let open_ := on ∧ Sys2Proof.Machine.bit (c.dev .mgmt).halts 1 = false
     let idle := open_ ∧ c.mgmt.run = none ∧ c.mgmt.held = []
     let f52 := c.active 52 = true
     (idle) ∧ (
     (data.length % 4 = 0) ∧ (
     (data.length ≤ 4096) ∧ (
     (f52) ∧ (
     (c.get Reg.SYS_BOOT_STATE = 3) ∧ (
     let n : Nat := 8
     let k : Nat := 0
     (c.boot.load = some (n, off.toNat, k)) ∧ (
     (off.toNat + data.length ≤ n)))))))) ∧
    (
     let off : BitVec 32 := 4
     let data : List (BitVec 8) := [0, 0, 0, 0]
     let s : State := st (mgmtOn chip)
     let c := s.chip
     let on := c.usbOn .mgmt = true
     let open_ := on ∧ Sys2Proof.Machine.bit (c.dev .mgmt).halts 1 = false
     let idle := open_ ∧ c.mgmt.run = none ∧ c.mgmt.held = []
     let f52 := c.active 52 = true
     (idle) ∧ (
     (data.length % 4 = 0) ∧ (
     (data.length ≤ 4096) ∧ (
     (f52) ∧ (
     (c.boot.load = none ∨ c.get Reg.SYS_BOOT_STATE ≠ 3 ∨ (∃ n p k : Nat, c.boot.load = some (n, p, k) ∧ (off.toNat ≠ p ∨ n < off.toNat + data.length)))))))) ∧
    (
     let data : List (BitVec 8) := withCrc []
     let s : State := st ({ mgmtOn (chip [(Reg.CLK_STATUS_SYNC, 7), (Reg.WIDE_STAT_PRESENTING, 4096), (Reg.HUB_STAT_UP_STATE, 2)] [(Reg.CLK_CYCLE, 5)]) with clk := { markNs := 16 }, pwr := { coreRst := false, fieldRst := false } })
     let c := s.chip
     let on := c.usbOn .mgmt = true
     let open_ := on ∧ Sys2Proof.Machine.bit (c.dev .mgmt).halts 1 = false
     let idle := open_ ∧ c.mgmt.run = none ∧ c.mgmt.held = []
     (idle) ∧ (
     (data.length % 4 ≠ 0 ∨ 4096 < data.length))) ∧
    (
     let s : State := st (let c := mgmtOn (chip [(Reg.SYS_BOOT_STATE, 3)]); { c with boot := { c.boot with load := some (8, 8, 0) } })
     let c := s.chip
     let on := c.usbOn .mgmt = true
     let open_ := on ∧ Sys2Proof.Machine.bit (c.dev .mgmt).halts 1 = false
     let idle := open_ ∧ c.mgmt.run = none ∧ c.mgmt.held = []
     let f52 := c.active 52 = true
     (idle) ∧ (
     (f52) ∧ (
     (c.get Reg.SYS_BOOT_STATE = 3) ∧ (
     let n : Nat := 8
     let k : Nat := 0
     (c.boot.load = some (n, n, k)))))) ∧
    (
     let s : State := st (mgmtOn chip)
     let c := s.chip
     let on := c.usbOn .mgmt = true
     let open_ := on ∧ Sys2Proof.Machine.bit (c.dev .mgmt).halts 1 = false
     let idle := open_ ∧ c.mgmt.run = none ∧ c.mgmt.held = []
     let f52 := c.active 52 = true
     (idle) ∧ (
     (f52) ∧ (
     (c.boot.load = none ∨ c.get Reg.SYS_BOOT_STATE ≠ 3 ∨ (∃ n p k : Nat, c.boot.load = some (n, p, k) ∧ p ≠ n))))) := by
  refine ⟨?_, ?_, ?_, ?_, ?_, ?_, ?_, ?_, ?_, ?_, ?_, ?_, ⟨by decide +kernel, by decide, by decide, by decide +kernel, Or.inl (by decide +kernel)⟩, ?_, ?_, ⟨by decide +kernel, by decide +kernel, Or.inl (by decide +kernel)⟩⟩ <;> dsimp only <;> decide +kernel

/-- Witnesses of the hypotheses of Obligations.ManagementRequestResults (part 2). -/
theorem meets_ManagementRequestResults_2 :
    (
     let data : List (BitVec 8) := [0, 0, 0, 0]
     let s : State := st (mgmtOn (chip [(Reg.FLASK_FSTAT_STATE 52, 1)]))
     let c := s.chip
     let on := c.usbOn .mgmt = true
     let open_ := on ∧ Sys2Proof.Machine.bit (c.dev .mgmt).halts 1 = false
     let idle := open_ ∧ c.mgmt.run = none ∧ c.mgmt.held = []
     let f52 := c.active 52 = true
     (idle) ∧ (
     (¬f52) ∧ (
     (data.length % 4 = 0) ∧ (
     (data.length ≤ 4096))))) ∧
    (
     let s : State := st (mgmtOn (chip [(Reg.FLASK_FSTAT_STATE 52, 1)]))
     let c := s.chip
     let a : Nat := 0x1000000
     (c.mgmtMay a = false)) ∧
    (
     let s : State := st (chip)
     let c := s.chip
     let a : Nat := 0
     (c.mgmtMay a = true) ∧ (
     let x := c.busRead .mgmt a
     let u := { x.2.2 with outcome := x.2.2.outcome.put 0 32 x.1.code }
     (x.1 = .done) ∧ (
     (u.mgetWaits a = false)))) ∧
    (
     let s : State := st (mgmtOn (chip [(Reg.RUN_STAT_EN 0, 1)]))
     let c := s.chip
     let a : Nat := (Reg.RUN_MGET 0).addr
     (c.mgmtMay a = true) ∧ (
     let x := c.busRead .mgmt a
     let u := { x.2.2 with outcome := x.2.2.outcome.put 0 32 x.1.code }
     (x.1 = .done) ∧ (
     (u.mgetWaits a = true)))) ∧
    (
     let s : State := st (chip)
     let c := s.chip
     let a : Nat := 5
     (c.mgmtMay a = true) ∧ (
     let x := c.busRead .mgmt a
     (x.1 ≠ .done))) ∧
    (
     let s : State := st (chip)
     let c := s.chip
     let a : Nat := 0
     (c.mgmtMay a = true) ∧ (
     let w : BitVec 32 := 1794732421
     let x := c.busWrite .mgmt a w.toNat
     let u := { x.2 with outcome := x.2.outcome.put 0 32 x.1.code }
     (x.1 = .done) ∧ (
     (u.coreUp = true)))) ∧
    (
     let s : State := st (chip)
     let c := s.chip
     let a : Nat := 5
     (c.mgmtMay a = true) ∧ (
     let w : BitVec 32 := 16
     let x := c.busWrite .mgmt a w.toNat
     let u := { x.2 with outcome := x.2.outcome.put 0 32 x.1.code }
     (x.1 ≠ .done ∨ u.coreUp = false))) ∧
    (
     let s : State := st (let c := mgmtOn chip; c.setDev .mgmt { halts := 2 ^ 19 })
     let c := s.chip
     let on := c.usbOn .mgmt = true
     (on) ∧ (
     (Sys2Proof.Machine.bit (c.dev .mgmt).halts 19 = true))) ∧
    (
     let s : State := st ({ mgmtOn (chip [(Reg.HUB_STAT_UP_STATE, 1)]) with evt := { mq := [] }, pwr := { coreRst := false, fieldRst := false } })
     let c := s.chip
     let on := c.usbOn .mgmt = true
     (on) ∧ (
     (Sys2Proof.Machine.bit (c.dev .mgmt).halts 19 = false) ∧ (
     (c.evt.mq = [])))) ∧
    (
     let s : State := st ({ mgmtOn (chip [(Reg.HUB_STAT_UP_STATE, 1)]) with evt := { mq := [[], [32, 0]] }, pwr := { coreRst := false, fieldRst := false } })
     let c := s.chip
     let on := c.usbOn .mgmt = true
     (on) ∧ (
     (Sys2Proof.Machine.bit (c.dev .mgmt).halts 19 = false) ∧ (
     (c.evt.mq ≠ [])))) := by
  refine ⟨?_, ?_, ?_, ?_, ?_, ?_, ?_, ?_, ?_, ?_⟩ <;> dsimp only <;> decide +kernel

/-- Witnesses of the hypotheses of Obligations.WideHubResults (part 1). -/
theorem meets_WideHubResults_1 :
    (
     let s : State := st (chip [(Reg.WIDE_STAT_PRESENTING, 5)])
     let c := s.chip
     (c.coreUp = true) ∧ (
     (c.wide.detach = false) ∧ (
     (c.presenting = true) ∧ (
     (c.wantWide = false))))) ∧
    (
     let s : State := st ({ chip [(Reg.CLK_CYC_NUM, 7), (Reg.CHAIN_STAT_ROLE, 7), (Reg.CHAIN_STAT_DETACHED, 5), (Reg.WIDE_STAT_EN, 3), (Reg.WIDE_CFG_PRESENT, 3), (Reg.GATE_STAT_ORIGIN, 7), (Reg.WIDE_STAT_PRESENTING, 8)] with pwr := { coreRst := false, fieldRst := false }, fuseReq := 16 })
     let c := s.chip
     (c.coreUp = true) ∧ (
     (c.wide.detach = false) ∧ (
     (c.presenting = false) ∧ (
     (c.wantWide = true))))) ∧
    (
     let s : State := st (chip)
     let c := s.chip
     (c.wide.detach = true ∨ c.presenting = c.wantWide)) ∧
    (
     let s : State := st ({ chip [(Reg.CHAIN_STAT_ROLE, 7), (Reg.CHAIN_STAT_DETACHED, 7)] with pwr := { coreRst := false, fieldRst := false }, wide := { detach := true }, chain := { detach := some (0) } })
     let c := s.chip
     (c.coreUp = true) ∧ (
     (c.wide.detach = true))) ∧
    (
     let s : State := st (chip)
     let c := s.chip
     (c.wide.detach = false)) ∧
    (
     let r : Requester := .engine 0
     let s : State := st (chip)
     let c := s.chip
     let f51 := c.active 51 = true
     (c.takes r Reg.WIDE_CTL_ENABLE.addr = true) ∧ (
     (2 ≤ c.get Reg.WIDE_CFG_NPORTS) ∧ (
     (f51)))) ∧
    (
     let r : Requester := .mgmt
     let s : State := st (chip [(Reg.WIDE_CFG_NPORTS, 1)])
     let c := s.chip
     let f51 := c.active 51 = true
     (c.takes r Reg.WIDE_CTL_ENABLE.addr = true) ∧ (
     (c.get Reg.WIDE_CFG_NPORTS < 2 ∨ ¬f51))) ∧
    (
     let r : Requester := .engine 0
     let s : State := st (chip)
     let c := s.chip
     (c.takes r Reg.WIDE_CTL_DISABLE.addr = true)) ∧
    (
     let w : Fin 256 := 0
     let s : State := st (chip)
     let c := s.chip
     let k := w.val
     (c.wideLive k = false)) ∧
    (
     let w : Fin 256 := 2
     let s : State := st (wideOn (chip [(Reg.FLASK_FSTAT_STATE 51, 1)]))
     let c := s.chip
     let k := w.val
     let f51 := c.active 51 = true
     (c.wideLive k = true) ∧ (
     (¬f51))) ∧
    (
     let w : Fin 256 := 2
     let dev : BitVec 7 := 1
     let ep : BitVec 4 := 1
     let s : State := st (widePoll 1 0 chip)
     let c := s.chip
     let k := w.val
     let d := dev.toNat
     let n := ep.toNat
     let f51 := c.active 51 = true
     let live := c.wideLive k = true ∧ f51
     (live) ∧ (
     let i : Nat := 0
     (c.pollOf k d n true = some i))) ∧
    (
     let w : Fin 256 := 2
     let dev : BitVec 7 := 1
     let ep : BitVec 4 := 1
     let s : State := st (wideOn chip)
     let c := s.chip
     let k := w.val
     let d := dev.toNat
     let n := ep.toNat
     let f51 := c.active 51 = true
     let live := c.wideLive k = true ∧ f51
     (live) ∧ (
     (c.pollOf k d n true = none) ∧ (
     (c.wideFind k d n true = none) ∧ (
     (c.wideRoom k n = true))))) ∧
    (
     let w : Fin 256 := 2
     let dev : BitVec 7 := 1
     let ep : BitVec 4 := 1
     let s : State := st (wideHeld [⟨1, 2, 3, false, [], 0, 0, false, [], false⟩] chip)
     let c := s.chip
     let k := w.val
     let d := dev.toNat
     let n := ep.toNat
     let f51 := c.active 51 = true
     let live := c.wideLive k = true ∧ f51
     (live) ∧ (
     (c.pollOf k d n true = none) ∧ (
     (c.wideFind k d n true = none) ∧ (
     (c.wideRoom k n = false))))) ∧
    (
     let w : Fin 256 := 2
     let dev : BitVec 7 := 1
     let ep : BitVec 4 := 1
     let s : State := st (wideHeld [⟨1, 1, 3, false, [], 1, 0, false, [], false⟩] chip)
     let c := s.chip
     let k := w.val
     let d := dev.toNat
     let n := ep.toNat
     let f51 := c.active 51 = true
     let live := c.wideLive k = true ∧ f51
     (live) ∧ (
     (c.pollOf k d n true = none) ∧ (
     let t : WTx := ⟨1, 1, 3, false, [], 1, 0, false, [], false⟩
     (c.wideFind k d n true = some t) ∧ (
     (t.state ≠ 2))))) ∧
    (
     let w : Fin 256 := 2
     let dev : BitVec 7 := 1
     let ep : BitVec 4 := 1
     let s : State := st (wideHeld [⟨1, 1, 3, false, [], 2, 0, false, [], false⟩] chip)
     let c := s.chip
     let k := w.val
     let d := dev.toNat
     let n := ep.toNat
     let f51 := c.active 51 = true
     let live := c.wideLive k = true ∧ f51
     (live) ∧ (
     (c.pollOf k d n true = none) ∧ (
     let t : WTx := ⟨1, 1, 3, false, [], 2, 0, false, [], false⟩
     (c.wideFind k d n true = some t) ∧ (
     (t.state = 2))))) ∧
    (
     let w : Fin 256 := 2
     let dev : BitVec 7 := 1
     let ep : BitVec 4 := 1
     let s : State := st (widePoll 0 0 chip)
     let c := s.chip
     let k := w.val
     let d := dev.toNat
     let n := ep.toNat
     let f51 := c.active 51 = true
     let live := c.wideLive k = true ∧ f51
     (live) ∧ (
     let i : Nat := 0
     (c.pollOf k d n false = some i))) := by
  refine ⟨?_, ?_, ?_, ?_, ?_, ?_, ?_, ?_, ?_, ?_, ?_, ?_, ?_, ?_, ?_, ?_⟩ <;> dsimp only <;> decide +kernel

/-- Witnesses of the hypotheses of Obligations.WideHubResults (part 2). -/
theorem meets_WideHubResults_2 :
    (
     let w : Fin 256 := 2
     let dev : BitVec 7 := 60
     let ep : BitVec 4 := 0
     let s : State := st ({ wideOn (chip [(Reg.FLASK_FSTAT_STATE 0, 5), (Reg.HUB_STAT_EN, 2)]) with pwr := { coreRst := false, fieldRst := false }, wide := { ports := [(0, { gone := true })] }, ct := 16 })
     let c := s.chip
     let k := w.val
     let d := dev.toNat
     let n := ep.toNat
     let f51 := c.active 51 = true
     let live := c.wideLive k = true ∧ f51
     (live) ∧ (
     (c.wideFind k d n false = none) ∧ (
     (c.pollOf k d n false = none) ∧ (
     (c.wideRoom k n = true))))) ∧
    (
     let w : Fin 256 := 2
     let dev : BitVec 7 := 1
     let ep : BitVec 4 := 1
     let s : State := st (wideHeld [⟨1, 2, 3, false, [], 0, 0, false, [], false⟩] chip)
     let c := s.chip
     let k := w.val
     let d := dev.toNat
     let n := ep.toNat
     let f51 := c.active 51 = true
     let live := c.wideLive k = true ∧ f51
     (live) ∧ (
     (c.wideFind k d n false = none) ∧ (
     (c.pollOf k d n false = none) ∧ (
     (c.wideRoom k n = false))))) ∧
    (
     let w : Fin 256 := 2
     let dev : BitVec 7 := 1
     let ep : BitVec 4 := 1
     let s : State := st (wideHeld [⟨1, 1, 2, false, [], 2, 0, false, [], false⟩] chip)
     let c := s.chip
     let k := w.val
     let d := dev.toNat
     let n := ep.toNat
     let f51 := c.active 51 = true
     let live := c.wideLive k = true ∧ f51
     (live) ∧ (
     let t : WTx := ⟨1, 1, 2, false, [], 2, 0, false, [], false⟩
     (c.wideFind k d n false = some t) ∧ (
     (t.state = 2)))) ∧
    (
     let w : Fin 256 := 2
     let dev : BitVec 7 := 1
     let ep : BitVec 4 := 1
     let s : State := st (wideHeld [⟨1, 1, 2, false, [], 1, 0, false, [], false⟩] chip)
     let c := s.chip
     let k := w.val
     let d := dev.toNat
     let n := ep.toNat
     let f51 := c.active 51 = true
     let live := c.wideLive k = true ∧ f51
     (live) ∧ (
     let t : WTx := ⟨1, 1, 2, false, [], 1, 0, false, [], false⟩
     (c.wideFind k d n false = some t) ∧ (
     (t.state ≠ 2)))) ∧
    (
     let w : Fin 256 := 2
     let dev : BitVec 7 := 1
     let ep : BitVec 4 := 0
     let s : State := st (wideHeld [⟨1, 0, 1, false, [], 2, 0, false, [], false⟩] chip)
     let c := s.chip
     let k := w.val
     let d := dev.toNat
     let n := ep.toNat
     let f51 := c.active 51 = true
     let live := c.wideLive k = true ∧ f51
     (live) ∧ (
     let t : WTx := ⟨1, 0, 1, false, [], 2, 0, false, [], false⟩
     (c.wideFind k d n false = some t) ∧ (
     let noPoll := c.pollOf k d n false = none
     (noPoll) ∧ (
     (t.kind = 1) ∧ (
     (t.state = 2)))))) ∧
    (
     let w : Fin 256 := 2
     let dev : BitVec 7 := 1
     let ep : BitVec 4 := 0
     let s : State := st (wideHeld [⟨1, 0, 1, false, [], 0, 0, false, [], false⟩] chip)
     let c := s.chip
     let k := w.val
     let d := dev.toNat
     let n := ep.toNat
     let f51 := c.active 51 = true
     let live := c.wideLive k = true ∧ f51
     (live) ∧ (
     let t : WTx := ⟨1, 0, 1, false, [], 0, 0, false, [], false⟩
     (c.wideFind k d n false = some t) ∧ (
     let noPoll := c.pollOf k d n false = none
     (noPoll) ∧ (
     (t.kind = 1) ∧ (
     (t.state ≠ 2)))))) ∧
    (
     let w : Fin 256 := 2
     let dev : BitVec 7 := 1
     let ep : BitVec 4 := 1
     let pid : Bool := true
     let data : List (BitVec 8) := []
     let s : State := st (wideHeld [⟨1, 1, 2, false, [], 0, 0, false, [], false⟩] chip)
     let c := s.chip
     let k := w.val
     let d := dev.toNat
     let n := ep.toNat
     let f51 := c.active 51 = true
     let live := c.wideLive k = true ∧ f51
     (live) ∧ (
     let t : WTx := ⟨1, 1, 2, false, [], 0, 0, false, [], false⟩
     (c.wideFind k d n false = some t) ∧ (
     let noPoll := c.pollOf k d n false = none
     (noPoll) ∧ (
     (t.kind ≠ 1) ∧ (
     (t.pid ≠ pid ∨ t.data.length ≠ data.length)))))) ∧
    (
     let w : Fin 256 := 2
     let dev : BitVec 7 := 1
     let ep : BitVec 4 := 1
     let pid : Bool := false
     let data : List (BitVec 8) := []
     let s : State := st (wideHeld [⟨1, 1, 2, false, [], 0, 0, false, [], false⟩] chip)
     let c := s.chip
     let k := w.val
     let d := dev.toNat
     let n := ep.toNat
     let f51 := c.active 51 = true
     let live := c.wideLive k = true ∧ f51
     (live) ∧ (
     let t : WTx := ⟨1, 1, 2, false, [], 0, 0, false, [], false⟩
     (c.wideFind k d n false = some t) ∧ (
     let noPoll := c.pollOf k d n false = none
     (noPoll) ∧ (
     (t.kind ≠ 1) ∧ (
     (t.pid = pid) ∧ (
     (t.data.length = data.length) ∧ (
     (t.state ≠ 2)))))))) ∧
    (
     let w : Fin 256 := 2
     let dev : BitVec 7 := 1
     let ep : BitVec 4 := 1
     let pid : Bool := false
     let data : List (BitVec 8) := []
     let s : State := st (wideHeld [⟨1, 1, 2, false, [], 2, 0, false, [], false⟩] chip)
     let c := s.chip
     let k := w.val
     let d := dev.toNat
     let n := ep.toNat
     let f51 := c.active 51 = true
     let live := c.wideLive k = true ∧ f51
     (live) ∧ (
     let t : WTx := ⟨1, 1, 2, false, [], 2, 0, false, [], false⟩
     (c.wideFind k d n false = some t) ∧ (
     let noPoll := c.pollOf k d n false = none
     (noPoll) ∧ (
     (t.kind ≠ 1) ∧ (
     (t.pid = pid) ∧ (
     (t.data.length = data.length) ∧ (
     (t.state = 2)))))))) ∧
    (
     let s : State := st ({ wideServed (chip [(Reg.WIDE_PORT_STAT_STATUS 0, 8), (Reg.HUB_STAT_UP_STATE, 0)]) with pwr := { coreRst := false, fieldRst := false }, hub := { wup := 63 }, wide := { ports := [(2, { gone := false })] } })
     let c := s.chip
     let z : WideSplit := ⟨0, 1, 1, false, false, false, false, false, []⟩
     let v := z.w.val
     let wl := c.wideLive v = true
     (¬wl)) ∧
    (
     let s : State := st (wideOn (chip [(Reg.FLASK_FSTAT_STATE 51, 1)]))
     let c := s.chip
     let f51 := c.active 51 = true
     let z : WideSplit := ⟨2, 1, 1, true, true, false, false, false, []⟩
     let v := z.w.val
     let wl := c.wideLive v = true
     (wl) ∧ (
     (¬f51) ∧ (
     (z.start = true)))) ∧
    (
     let s : State := st (wideOn (chip [(Reg.FLASK_FSTAT_STATE 51, 1)]))
     let c := s.chip
     let f51 := c.active 51 = true
     let z : WideSplit := ⟨2, 1, 1, true, false, false, false, false, []⟩
     let v := z.w.val
     let wl := c.wideLive v = true
     (wl) ∧ (
     (¬f51) ∧ (
     (z.start = false)))) ∧
    (
     let s : State := st ({ wideOn (chip [(Reg.FLASK_FSTAT_STATE 1, 8), (Reg.WIDE_PORT_STAT_STATUS 0, 2), (Reg.HUB_STAT_EN, 5), (Reg.WIDE_STAT_PRESENTING, 3), (Reg.HUB_STAT_UP_STATE, 2), (Reg.WIDE_CFG_NPORTS, 4)] [(Reg.WIDE_MAP_EN 0, 3), (Reg.WIDE_POLL_EN 1, 0), (Reg.WIDE_POLL_PORT 51, 5), (Reg.WIDE_POLL_DEV 51, 8), (Reg.WIDE_POLL_EP 0, 3), (Reg.WIDE_POLL_DIR 0, 1)]) with pwr := { coreRst := false, fieldRst := false }, wide := { ports := [(1, { gone := false })] } })
     let c := s.chip
     let f51 := c.active 51 = true
     let z : WideSplit := ⟨2, 1, 1, false, true, true, true, true, []⟩
     let v := z.w.val
     let a := z.dev.toNat
     let b := z.ep.toNat
     let wl := c.wideLive v = true
     (wl) ∧ (
     (f51) ∧ (
     (z.periodic = true) ∧ (
     (c.pollOf v a b z.dirIn = none) ∧ (
     (z.start = true)))))) ∧
    (
     let s : State := st (wideOn chip)
     let c := s.chip
     let f51 := c.active 51 = true
     let z : WideSplit := ⟨2, 1, 1, true, false, true, false, false, []⟩
     let v := z.w.val
     let a := z.dev.toNat
     let b := z.ep.toNat
     let wl := c.wideLive v = true
     (wl) ∧ (
     (f51) ∧ (
     (z.periodic = true) ∧ (
     (c.pollOf v a b z.dirIn = none) ∧ (
     (z.start = false)))))) ∧
    (
     let s : State := st (widePoll 1 0 chip)
     let c := s.chip
     let f51 := c.active 51 = true
     let z : WideSplit := ⟨2, 1, 1, true, true, true, false, false, []⟩
     let v := z.w.val
     let a := z.dev.toNat
     let b := z.ep.toNat
     let wl := c.wideLive v = true
     (wl) ∧ (
     (f51) ∧ (
     (z.periodic = true) ∧ (
     let i : Nat := 0
     (c.pollOf v a b z.dirIn = some i) ∧ (
     (z.start = true) ∧ (
     (z.dirIn = true))))))) ∧
    (
     let s : State := st (widePoll 0 0 chip)
     let c := s.chip
     let f51 := c.active 51 = true
     let z : WideSplit := ⟨2, 1, 1, false, true, true, false, false, []⟩
     let v := z.w.val
     let a := z.dev.toNat
     let b := z.ep.toNat
     let wl := c.wideLive v = true
     (wl) ∧ (
     (f51) ∧ (
     (z.periodic = true) ∧ (
     let i : Nat := 0
     (c.pollOf v a b z.dirIn = some i) ∧ (
     (z.start = true) ∧ (
     (z.dirIn = false))))))) := by
  refine ⟨?_, ?_, ?_, ?_, ?_, ?_, ?_, ?_, ?_, ?_, ?_, ?_, ?_, ?_, ?_, ?_⟩ <;> dsimp only <;> decide +kernel

/-- Witnesses of the hypotheses of Obligations.WideHubResults (part 3). -/
theorem meets_WideHubResults_3 :
    (
     let s : State := st (widePoll 1 0 chip)
     let c := s.chip
     let f51 := c.active 51 = true
     let z : WideSplit := ⟨2, 1, 1, true, false, true, false, false, []⟩
     let v := z.w.val
     let a := z.dev.toNat
     let b := z.ep.toNat
     let wl := c.wideLive v = true
     (wl) ∧ (
     (f51) ∧ (
     (z.periodic = true) ∧ (
     let i : Nat := 0
     (c.pollOf v a b z.dirIn = some i) ∧ (
     (z.start = false) ∧ (
     (z.dirIn = true))))))) ∧
    (
     let s : State := st (widePoll 0 0 chip)
     let c := s.chip
     let f51 := c.active 51 = true
     let z : WideSplit := ⟨2, 1, 1, false, false, true, false, false, []⟩
     let v := z.w.val
     let a := z.dev.toNat
     let b := z.ep.toNat
     let wl := c.wideLive v = true
     (wl) ∧ (
     (f51) ∧ (
     (z.periodic = true) ∧ (
     let i : Nat := 0
     (c.pollOf v a b z.dirIn = some i) ∧ (
     (z.start = false) ∧ (
     (z.dirIn = false))))))) ∧
    (
     let s : State := st (wideOn (chip [(Reg.FLASK_FSTAT_STATE 0, 3), (Reg.WIDE_PORT_STAT_STATUS 0, 3), (Reg.HUB_STAT_EN, 2), (Reg.WIDE_STAT_PRESENTING, 1), (Reg.HUB_STAT_UP_STATE, 7), (Reg.WIDE_CFG_NPORTS, 8)] [(Reg.WIDE_MAP_EN 0, 0)]))
     let c := s.chip
     let f51 := c.active 51 = true
     let z : WideSplit := ⟨2, 1, 1, false, true, false, true, true, []⟩
     let v := z.w.val
     let wl := c.wideLive v = true
     (wl) ∧ (
     (f51) ∧ (
     (z.periodic = false) ∧ (
     (z.start = true) ∧ (
     (z.setup = true)))))) ∧
    (
     let s : State := st (wideOn chip)
     let c := s.chip
     let f51 := c.active 51 = true
     let z : WideSplit := ⟨2, 1, 1, true, true, false, false, false, []⟩
     let v := z.w.val
     let b := z.ep.toNat
     let wl := c.wideLive v = true
     (wl) ∧ (
     (f51) ∧ (
     (z.periodic = false) ∧ (
     (z.start = true) ∧ (
     (z.setup = false) ∧ (
     (c.wideRoom v b = true))))))) ∧
    (
     let s : State := st (wideHeld [⟨1, 2, 3, false, [], 0, 0, false, [], false⟩] chip)
     let c := s.chip
     let f51 := c.active 51 = true
     let z : WideSplit := ⟨2, 1, 1, true, true, false, false, false, []⟩
     let v := z.w.val
     let b := z.ep.toNat
     let wl := c.wideLive v = true
     (wl) ∧ (
     (f51) ∧ (
     (z.periodic = false) ∧ (
     (z.start = true) ∧ (
     (z.setup = false) ∧ (
     (c.wideRoom v b = false))))))) ∧
    (
     let s : State := st ({ wideServed (wideOn (chip [(Reg.WIDE_STAT_PRESENTING, 51), (Reg.CHAIN_STAT_ROLE, 51)])) with clk := { markNs := 5 }, pwr := { coreRst := false, fieldRst := false }, mgmt := { held := ⟨7, 63, 52, 3, 6 :: 14 :: []⟩ :: ⟨5, 63, 0, 0, 1 :: []⟩ :: ⟨6, 100, 8, 8, 249 :: []⟩ :: ⟨4, 7, 16, 8, 178 :: []⟩ :: ⟨6, 5, 8, 16, []⟩ :: ⟨3, 0, 52, 4, []⟩ :: ⟨1, 63, 2, 2, 0 :: 81 :: []⟩ :: ⟨6, 6, 0, 32, 142 :: 0 :: []⟩ :: ⟨31, 4, 0, 0, 29 :: 152 :: []⟩ :: ⟨16, 6, 3, 3, 32 :: 0 :: 105 :: 63 :: 100 :: 0 :: 1 :: 2 :: 208 :: 119 :: []⟩ :: ⟨0, 0, 1, 0, 181 :: []⟩ :: ⟨0, 7, 1, 6, 197 :: []⟩ :: ⟨8, 100, 5, 5, 0 :: 0 :: 75 :: 52 :: []⟩ :: ⟨52, 31, 8, 0, 49 :: 0 :: 199 :: 0 :: 63 :: 237 :: 68 :: 31 :: 26 :: 53 :: []⟩ :: ⟨8, 0, 0, 32, 7 :: []⟩ :: ⟨8, 0, 1, 0, 7 :: []⟩ :: [] } })
     let c := s.chip
     let f51 := c.active 51 = true
     let z : WideSplit := ⟨2, 1, 1, true, false, false, false, false, []⟩
     let v := z.w.val
     let a := z.dev.toNat
     let b := z.ep.toNat
     let wl := c.wideLive v = true
     (wl) ∧ (
     (f51) ∧ (
     (z.periodic = false) ∧ (
     (z.start = false) ∧ (
     (c.wideFind v a b z.dirIn = none)))))) ∧
    (
     let s : State := st (wideHeld [⟨1, 1, 3, false, [], 1, 0, false, [], false⟩] chip)
     let c := s.chip
     let f51 := c.active 51 = true
     let z : WideSplit := ⟨2, 1, 1, true, false, false, false, false, []⟩
     let v := z.w.val
     let a := z.dev.toNat
     let b := z.ep.toNat
     let wl := c.wideLive v = true
     (wl) ∧ (
     (f51) ∧ (
     (z.periodic = false) ∧ (
     (z.start = false) ∧ (
     let t : WTx := ⟨1, 1, 3, false, [], 1, 0, false, [], false⟩
     (c.wideFind v a b z.dirIn = some t) ∧ (
     (t.state ≠ 2))))))) ∧
    (
     let s : State := st (wideHeld [⟨1, 1, 3, false, [], 2, 0, false, [], false⟩] chip)
     let c := s.chip
     let f51 := c.active 51 = true
     let z : WideSplit := ⟨2, 1, 1, true, false, false, false, false, []⟩
     let v := z.w.val
     let a := z.dev.toNat
     let b := z.ep.toNat
     let wl := c.wideLive v = true
     (wl) ∧ (
     (f51) ∧ (
     (z.periodic = false) ∧ (
     (z.start = false) ∧ (
     let t : WTx := ⟨1, 1, 3, false, [], 2, 0, false, [], false⟩
     (c.wideFind v a b z.dirIn = some t) ∧ (
     (t.state = 2) ∧ (
     (t.kind = 3)))))))) ∧
    (
     let s : State := st (wideHeld [⟨1, 1, 2, false, [], 2, 0, false, [], false⟩] chip)
     let c := s.chip
     let f51 := c.active 51 = true
     let z : WideSplit := ⟨2, 1, 1, false, false, false, false, false, []⟩
     let v := z.w.val
     let a := z.dev.toNat
     let b := z.ep.toNat
     let wl := c.wideLive v = true
     (wl) ∧ (
     (f51) ∧ (
     (z.periodic = false) ∧ (
     (z.start = false) ∧ (
     let t : WTx := ⟨1, 1, 2, false, [], 2, 0, false, [], false⟩
     (c.wideFind v a b z.dirIn = some t) ∧ (
     (t.state = 2) ∧ (
     (t.kind ≠ 3)))))))) ∧
    (
     let e : Fin 256 := 0
     let s : State := st ({ wideOn (chip [(Reg.FLASK_FSTAT_STATE 1, 7), (Reg.WIDE_PORT_STAT_STATUS 1, 5), (Reg.HUB_STAT_EN, 1), (Reg.WIDE_STAT_PRESENTING, 5), (Reg.HUB_STAT_UP_STATE, 7), (Reg.WIDE_CFG_NPORTS, 4)] [(Reg.WIDE_POLL_DIR 0, 5), (Reg.WIDE_POLL_EN 0, 4), (Reg.WIDE_POLL_PORT 0, 2), (Reg.WIDE_MAP_EN 0, 0)]) with pwr := { coreRst := false, fieldRst := false }, hub := { wup := 3, ports := [(1, { st := 1 })] } })
     let c := s.chip
     let f51 := c.active 51 = true
     let e_ := e.val
     let pl := c.wpoll e_
     let pollLive := c.wideLive (c.wk (Reg.WIDE_POLL_PORT e_)) = true ∧ c.wkB (Reg.WIDE_POLL_EN e_) = true
     (pollLive) ∧ (
     (f51) ∧ (
     (c.wkB (Reg.WIDE_POLL_DIR e_) = true) ∧ (
     (pl.shown = none))))) ∧
    (
     let e : Fin 256 := 0
     let s : State := st ({ wideOn (chip [(Reg.FLASK_FSTAT_STATE 0, 3), (Reg.WIDE_PORT_STAT_STATUS 1, 8), (Reg.HUB_STAT_EN, 2), (Reg.WIDE_STAT_PRESENTING, 0), (Reg.HUB_STAT_UP_STATE, 0), (Reg.WIDE_CFG_NPORTS, 2)] [(Reg.WIDE_POLL_DIR 0, 3), (Reg.WIDE_POLL_EN 0, 3), (Reg.WIDE_POLL_PORT 0, 2), (Reg.WIDE_MAP_EN 0, 3)]) with pwr := { coreRst := false, fieldRst := false }, wide := { ports := [(9, { gone := true })], polls := [(0, { shown := some (⟨0, false, 0 :: 150 :: []⟩) })] } })
     let c := s.chip
     let f51 := c.active 51 = true
     let e_ := e.val
     let pl := c.wpoll e_
     let pollLive := c.wideLive (c.wk (Reg.WIDE_POLL_PORT e_)) = true ∧ c.wkB (Reg.WIDE_POLL_EN e_) = true
     (pollLive) ∧ (
     (f51) ∧ (
     (c.wkB (Reg.WIDE_POLL_DIR e_) = true) ∧ (
     let z : PollRes := { status := 0, pid := false, data := [0x00#8, 0x96#8] }
     (pl.shown = some z) ∧ (
     (z.status = 0)))))) ∧
    (
     let e : Fin 256 := 0
     let s : State := st (let c := widePoll 1 0 chip; c.setWpoll 0 { shown := some ⟨2, false, []⟩ })
     let c := s.chip
     let f51 := c.active 51 = true
     let e_ := e.val
     let pl := c.wpoll e_
     let pollLive := c.wideLive (c.wk (Reg.WIDE_POLL_PORT e_)) = true ∧ c.wkB (Reg.WIDE_POLL_EN e_) = true
     let iso := c.wkB (Reg.WIDE_POLL_TYPE e_)
     (pollLive) ∧ (
     (f51) ∧ (
     (c.wkB (Reg.WIDE_POLL_DIR e_) = true) ∧ (
     let z : PollRes := ⟨2, false, []⟩
     (pl.shown = some z) ∧ (
     (z.status = 2) ∧ (
     (iso = false))))))) ∧
    (
     let e : Fin 256 := 0
     let s : State := st ({ wideOn (chip [(Reg.FLASK_FSTAT_STATE 1, 7), (Reg.WIDE_PORT_STAT_STATUS 1, 5), (Reg.HUB_STAT_EN, 1), (Reg.WIDE_STAT_PRESENTING, 5), (Reg.HUB_STAT_UP_STATE, 7), (Reg.WIDE_CFG_NPORTS, 4)] [(Reg.WIDE_POLL_DIR 1, 5), (Reg.WIDE_POLL_EN 0, 2), (Reg.WIDE_POLL_PORT 0, 2), (Reg.WIDE_MAP_EN 1, 0)]) with pwr := { coreRst := false, fieldRst := false }, hub := { wup := 3 }, wide := { polls := [(0, { stall := true })] } })
     let c := s.chip
     let f51 := c.active 51 = true
     let e_ := e.val
     let pl := c.wpoll e_
     let pollLive := c.wideLive (c.wk (Reg.WIDE_POLL_PORT e_)) = true ∧ c.wkB (Reg.WIDE_POLL_EN e_) = true
     (pollLive) ∧ (
     (f51) ∧ (
     (c.wkB (Reg.WIDE_POLL_DIR e_) = false) ∧ (
     (pl.stall = true))))) ∧
    (
     let e : Fin 256 := 0
     let s : State := st (widePoll 0 1 chip)
     let c := s.chip
     let f51 := c.active 51 = true
     let e_ := e.val
     let pl := c.wpoll e_
     let pollLive := c.wideLive (c.wk (Reg.WIDE_POLL_PORT e_)) = true ∧ c.wkB (Reg.WIDE_POLL_EN e_) = true
     let iso := c.wkB (Reg.WIDE_POLL_TYPE e_)
     (pollLive) ∧ (
     (f51) ∧ (
     (c.wkB (Reg.WIDE_POLL_DIR e_) = false) ∧ (
     (pl.stall = false) ∧ (
     (iso = true)))))) ∧
    (
     let e : Fin 256 := 0
     let s : State := st ({ wideOn (chip [(Reg.FLASK_FSTAT_STATE 0, 4), (Reg.HUB_STAT_EN, 4), (Reg.HUB_STAT_UP_STATE, 7), (Reg.WIDE_CFG_NPORTS, 1)] [(Reg.WIDE_POLL_EN 0, 2), (Reg.WIDE_POLL_PORT 0, 2)]) with pwr := { coreRst := false, fieldRst := false }, wide := { ports := [(9, { gone := false })], polls := [(0, { out := some ((false, List.replicate 64 0)) })] } })
     let c := s.chip
     let f51 := c.active 51 = true
     let e_ := e.val
     let pl := c.wpoll e_
     let pollLive := c.wideLive (c.wk (Reg.WIDE_POLL_PORT e_)) = true ∧ c.wkB (Reg.WIDE_POLL_EN e_) = true
     let iso := c.wkB (Reg.WIDE_POLL_TYPE e_)
     (pollLive) ∧ (
     (f51) ∧ (
     (c.wkB (Reg.WIDE_POLL_DIR e_) = false) ∧ (
     (pl.stall = false) ∧ (
     (iso = false) ∧ (
     (pl.out.isSome = true))))))) ∧
    (
     let e : Fin 256 := 0
     let s : State := st ({ wideOn (chip [(Reg.FLASK_FSTAT_STATE 0, 4), (Reg.HUB_STAT_EN, 4), (Reg.HUB_STAT_UP_STATE, 7), (Reg.WIDE_CFG_NPORTS, 1)] [(Reg.WIDE_POLL_EN 0, 2), (Reg.WIDE_POLL_PORT 0, 2)]) with pwr := { coreRst := false, fieldRst := false }, wide := { ports := [(9, { gone := false })] } })
     let c := s.chip
     let f51 := c.active 51 = true
     let e_ := e.val
     let pl := c.wpoll e_
     let pollLive := c.wideLive (c.wk (Reg.WIDE_POLL_PORT e_)) = true ∧ c.wkB (Reg.WIDE_POLL_EN e_) = true
     let iso := c.wkB (Reg.WIDE_POLL_TYPE e_)
     (pollLive) ∧ (
     (f51) ∧ (
     (c.wkB (Reg.WIDE_POLL_DIR e_) = false) ∧ (
     (pl.stall = false) ∧ (
     (iso = false) ∧ (
     (pl.out = none))))))) := by
  refine ⟨?_, ?_, ?_, ?_, ?_, ?_, ?_, ?_, ?_, ?_, ?_, ?_, ?_, ?_, ?_, ?_⟩ <;> dsimp only <;> decide +kernel

/-- Witnesses of the hypotheses of Obligations.WideHubResults (part 4). -/
theorem meets_WideHubResults_4 :
    (
     let e : Fin 256 := 0
     let s : State := st (wideOn (chip [(Reg.FLASK_FSTAT_STATE 51, 1), (Reg.WIDE_PORT_STAT_STATUS 0, 7), (Reg.HUB_STAT_EN, 7), (Reg.WIDE_STAT_PRESENTING, 0), (Reg.HUB_STAT_UP_STATE, 2), (Reg.WIDE_CFG_NPORTS, 0)] [(Reg.WIDE_POLL_DIR 0, 8), (Reg.WIDE_POLL_EN 0, 7), (Reg.WIDE_POLL_PORT 0, 2), (Reg.WIDE_MAP_EN 0, 7)]))
     let c := s.chip
     let f51 := c.active 51 = true
     let e_ := e.val
     let pollLive := c.wideLive (c.wk (Reg.WIDE_POLL_PORT e_)) = true ∧ c.wkB (Reg.WIDE_POLL_EN e_) = true
     (pollLive) ∧ (
     (¬f51) ∧ (
     (c.wkB (Reg.WIDE_POLL_DIR e_) = true)))) ∧
    (
     let e : Fin 256 := 0
     let s : State := st (wideOn (chip [(Reg.FLASK_FSTAT_STATE 51, 1), (Reg.WIDE_PORT_STAT_STATUS 0, 7), (Reg.HUB_STAT_EN, 7), (Reg.WIDE_STAT_PRESENTING, 0), (Reg.HUB_STAT_UP_STATE, 2), (Reg.WIDE_CFG_NPORTS, 0)] [(Reg.WIDE_POLL_DIR 51, 8), (Reg.WIDE_POLL_EN 0, 7), (Reg.WIDE_POLL_PORT 0, 2), (Reg.WIDE_MAP_EN 0, 7)]))
     let c := s.chip
     let f51 := c.active 51 = true
     let e_ := e.val
     let pollLive := c.wideLive (c.wk (Reg.WIDE_POLL_PORT e_)) = true ∧ c.wkB (Reg.WIDE_POLL_EN e_) = true
     (pollLive) ∧ (
     (¬f51) ∧ (
     (c.wkB (Reg.WIDE_POLL_DIR e_) = false)))) ∧
    (
     let e : Fin 256 := 0
     let s : State := st (chip)
     let c := s.chip
     let e_ := e.val
     let pollLive := c.wideLive (c.wk (Reg.WIDE_POLL_PORT e_)) = true ∧ c.wkB (Reg.WIDE_POLL_EN e_) = true
     (¬pollLive)) ∧
    (
     let s : State := st (chip)
     let c := s.chip
     let req := c.usbOn .wide = true
     (¬req)) ∧
    (
     let p : BitVec 8 := 7
     let s : State := st ({ chip [(Reg.WIDE_CFG_NPORTS, 7), (Reg.WIDE_STAT_PRESENTING, 5)] with pwr := { coreRst := false, fieldRst := false }, hub := { wup := 1 } })
     let c := s.chip
     let q := p.toNat
     let req := c.usbOn .wide = true
     (req) ∧ (
     (c.hub.wup ≠ 3 ∨ q = 0 ∨ c.get Reg.WIDE_CFG_NPORTS < q))) ∧
    (
     let p : BitVec 8 := 1
     let s : State := st ({ chip [(Reg.WIDE_STAT_PRESENTING, 7)] with pwr := { coreRst := false, fieldRst := false }, hub := { wup := 3 } })
     let c := s.chip
     let q := p.toNat
     let req := c.usbOn .wide = true
     (req) ∧ (
     (c.hub.wup = 3) ∧ (
     (q = 1) ∧ (
     (1 ≤ c.get Reg.WIDE_CFG_NPORTS))))) ∧
    (
     let p : BitVec 8 := 2
     let s : State := st (let c := wideOn chip; c.put (Reg.WIDE_PORT_STAT_STATUS 2) 3)
     let c := s.chip
     let q := p.toNat
     let req := c.usbOn .wide = true
     let here := req ∧ c.hub.wup = 3 ∧ 2 ≤ q ∧ q ≤ c.get Reg.WIDE_CFG_NPORTS
     let st := c.get (Reg.WIDE_PORT_STAT_STATUS q)
     (here) ∧ (
     (c.ownEntry q = false) ∧ (
     (Sys2Proof.Machine.bit st stConn = true)))) ∧
    (
     let p : BitVec 8 := 3
     let s : State := st ({ chip [(Reg.WIDE_CFG_NPORTS, 8), (Reg.HUB_STAT_EN, 0), (Reg.WIDE_STAT_PRESENTING, 1), (Reg.HUB_STAT_UP_STATE, 2)] [(Reg.WIDE_MAP_EN 3, 1)] with pwr := { coreRst := false, fieldRst := false }, hub := { wup := 3 } })
     let c := s.chip
     let q := p.toNat
     let req := c.usbOn .wide = true
     let here := req ∧ c.hub.wup = 3 ∧ 2 ≤ q ∧ q ≤ c.get Reg.WIDE_CFG_NPORTS
     (here) ∧ (
     (c.mapped q = true))) ∧
    (
     let m : BitVec 16 := 2
     let s : State := st ({ wideServed (wideOn (chip [(Reg.HUB_STAT_EN, 8), (Reg.WIDE_STAT_PRESENTING, 1), (Reg.HUB_STAT_UP_STATE, 256), (Reg.WIDE_CFG_NPORTS, 4)] [(Reg.WIDE_MAP_EN 0, 4)])) with pwr := { coreRst := false, fieldRst := false }, hub := { wup := 1 } })
     let c := s.chip
     let req := c.usbOn .wide = true
     (req) ∧ (
     (m.toNat < 256) ∧ (
     (c.mapped m.toNat = true)))) ∧
    (
     let m : BitVec 16 := 0
     let s : State := st ({ chip [(Reg.HUB_STAT_UP_STATE, 256), (Reg.WIDE_STAT_PRESENTING, 7)] [(Reg.WIDE_MAP_EN 0, 3)] with pwr := { coreRst := false, fieldRst := false }, hub := { wup := 1 } })
     let c := s.chip
     let req := c.usbOn .wide = true
     (req) ∧ (
     (256 ≤ m.toNat ∨ c.mapped m.toNat = false))) ∧
    (
     let w : Fin 256 := 2
     let s : State := st (let c := regs [(Reg.WIDE_STAT_EN, 1)] (wideServed chip); c.setWs 2 { todo := [⟨1, 0, 1, 0, 0, []⟩] })
     let c := s.chip
     let k := w.val
     let y := c.ws k
     (c.coreUp = true) ∧ (
     (c.servedLive k = true) ∧ (
     (c.ownEntry k = false) ∧ (
     let z : WRec := ⟨1, 0, 1, 0, 0, []⟩
     let l : List WRec := []
     (y.todo = z :: l))))) ∧
    (
     let w : Fin 256 := 0
     let s : State := st (chip)
     let c := s.chip
     let k := w.val
     (c.servedLive k = false)) ∧
    (
     let w : Fin 256 := 0
     let s : State := st (chip [] [(Reg.WIDE_MAP_STATION 0, 2)])
     let c := s.chip
     let k := w.val
     let y := c.ws k
     (c.ownEntry k = false) ∧ (
     (y.todo = []))) ∧
    (
     let s : State := st ({ chip [(Reg.CHAIN_STAT_ROLE, 7), (Reg.CHAIN_STAT_DETACHED, 7)] with pwr := { coreRst := false, fieldRst := false }, wide := { detach := true }, chain := { detach := some (0) } })
     let c := s.chip
     (c.coreUp = true) ∧ (
     (c.wide.polled ≠ c.get Reg.CLK_CYC_NUM + 1))) ∧
    (
     let s : State := st (let c := chip [(Reg.CLK_CYC_NUM, 4)]; { c with wide := { c.wide with polled := 5 } })
     let c := s.chip
     (c.wide.polled = c.get Reg.CLK_CYC_NUM + 1)) ∧
    (
     let w : Fin 256 := 2
     let s : State := st ({ wideServed (chip [(Reg.CLK_CYC_NUM, 16)] [(Reg.WIDE_MAP_LPORT 1, 5), (Reg.WIDE_MAP_EN 1, 7), (Reg.WIDE_MAP_RING 1, 8)]) with pwr := { coreRst := false, fieldRst := false }, hub := { ports := [(0, { st := 3 })] }, wide := { served := [(5, { orphan := true })] } })
     let c := s.chip
     let k := w.val
     let y := c.ws k
     (c.coreUp = true) ∧ (
     (c.serves k = true) ∧ (
     (c.ownEntry k = false) ∧ (
     (y.orphan = false) ∧ (
     (16 ≤ sub32 (c.get Reg.CLK_CYC_NUM + 1) y.last)))))) := by
  refine ⟨?_, ?_, ?_, ?_, ?_, ?_, ?_, ?_, ?_, ?_, ?_, ?_, ?_, ?_, ?_, ?_⟩ <;> dsimp only <;> decide +kernel

/-- Witnesses of the hypotheses of Obligations.WideHubResults (part 5). -/
theorem meets_WideHubResults_5 :
    (
     let w : Fin 256 := 0
     let s : State := st (chip)
     let c := s.chip
     let k := w.val
     let y := c.ws k
     (c.serves k = false ∨ c.ownEntry k = true ∨ y.orphan = true ∨ sub32 (c.get Reg.CLK_CYC_NUM + 1) y.last < 16)) ∧
    (
     let s : State := st ({ chip [(Reg.WIDE_STAT_OVL, 1)] with pwr := { coreRst := false, fieldRst := false }, ct := 318572985 })
     let c := s.chip
     (c.coreUp = true) ∧ (
     (c.flag Reg.WIDE_STAT_OVL = true) ∧ (
     (c.wide.lastDefer + c.period ≤ c.ct.toNat + 1)))) ∧
    (
     let s : State := st (chip)
     let c := s.chip
     (c.flag Reg.WIDE_STAT_OVL = false ∨ c.ct.toNat + 1 < c.wide.lastDefer + c.period)) := by
  refine ⟨?_, ?_, ?_⟩ <;> dsimp only <;> decide +kernel

/-- Witnesses of the hypotheses of Obligations.CuffPortCommandResults (part 1). -/
theorem meets_CuffPortCommandResults_1 :
    (
     let e : Fin 32 := 0
     let k : Fin 5 := 0
     let v : BitVec 32 := 1794732421
     let s : State := st (chip)
     let c := s.chip
     let rows : List (Instr × Nat) :=
     [(.rxStatWrite e k v, 0x18), (.txGo e k v, 0x28), (.cuffHardReset e k, 0x30), (.cuffCableReset e k, 0x30), (.cuffSrcOn e k, 0x30),
       (.cuffSrcOff e k, 0x30), (.cuffVconnOn e k, 0x30), (.cuffVconnOff e k, 0x30), (.cuffRoleRp e k, 0x30), (.cuffRoleRd e k, 0x30),
       (.cuffDataDfp e k, 0x30), (.cuffDataUfp e k, 0x30), (.cuffSwapBegin e k, 0x30), (.cuffSwapEnd e k, 0x30), (.cuffAmsEnd e k, 0x30),
       (.cuffAltOn e k, 0x30), (.cuffAltOff e k, 0x30), (.cuffFrsArm e k, 0x30), (.cuffFrsDisarm e k, 0x30), (.cuffErrorRecovery e k, 0x30),
       (.vsetWrite e k v, 0x31), (.contractWrite e k v, 0x32), (.kick e k, 0x33), (.rpWrite e k v, 0x34)]
     let up := c.coreUp = true ∧ c.engState e.val = 1
     let i : Instr × Nat := (.rxStatWrite e k v, 0x18)
     (¬up)) ∧
    (
     let e : Fin 32 := 0
     let k : Fin 5 := 4
     let v : BitVec 32 := 8
     let s : State := st ({ chip [(Reg.ENG_STAT_STATE 0, 1)] [(Reg.ENG_CLAIM_EN 0, 1), (Reg.ENG_CLAIM_ENGINE 0, 49), (Reg.ENG_CLAIM_MODE 0, 51)] [(Reg.CUFF_CONTRACT 0, 4)] with pwr := { phase := .dropping, coreRst := false, trunkOff := true, fieldRst := false }, cuffs := [(0, { cc1 := .rp 1, cc2 := .rp 1, rp := true, txGo := 2, kick := 0 })] })
     let c := s.chip
     let n := k.val
     let rows : List (Instr × Nat) :=
     [(.rxStatWrite e k v, 0x18), (.txGo e k v, 0x28), (.cuffHardReset e k, 0x30), (.cuffCableReset e k, 0x30), (.cuffSrcOn e k, 0x30),
       (.cuffSrcOff e k, 0x30), (.cuffVconnOn e k, 0x30), (.cuffVconnOff e k, 0x30), (.cuffRoleRp e k, 0x30), (.cuffRoleRd e k, 0x30),
       (.cuffDataDfp e k, 0x30), (.cuffDataUfp e k, 0x30), (.cuffSwapBegin e k, 0x30), (.cuffSwapEnd e k, 0x30), (.cuffAmsEnd e k, 0x30),
       (.cuffAltOn e k, 0x30), (.cuffAltOff e k, 0x30), (.cuffFrsArm e k, 0x30), (.cuffFrsDisarm e k, 0x30), (.cuffErrorRecovery e k, 0x30),
       (.vsetWrite e k v, 0x31), (.contractWrite e k v, 0x32), (.kick e k, 0x33), (.rpWrite e k v, 0x34)]
     let up := c.coreUp = true ∧ c.engState e.val = 1
     let i : Instr × Nat := (.rxStatWrite e k v, 0x18)
     (up) ∧ (
     (c.claim e.val (0x2000 + 0x100 * n + i.2) ≠ 2))) ∧
    (
     let e : Fin 32 := 0
     let k : Fin 5 := 0
     let v : BitVec 32 := 0
     let s : State := st ({ claimed 0x2000 (chip) with pwr := { phase := .gap, coreRst := false, trOrder := true, fieldRst := false }, warden := { laneHold := 6 }, test := { landsTaken := true } })
     let c := s.chip
     let n := k.val
     let rows : List (Instr × Nat) :=
     [(.rxStatWrite e k v, 0x18), (.txGo e k v, 0x28), (.cuffHardReset e k, 0x30), (.cuffCableReset e k, 0x30), (.cuffSrcOn e k, 0x30),
       (.cuffSrcOff e k, 0x30), (.cuffVconnOn e k, 0x30), (.cuffVconnOff e k, 0x30), (.cuffRoleRp e k, 0x30), (.cuffRoleRd e k, 0x30),
       (.cuffDataDfp e k, 0x30), (.cuffDataUfp e k, 0x30), (.cuffSwapBegin e k, 0x30), (.cuffSwapEnd e k, 0x30), (.cuffAmsEnd e k, 0x30),
       (.cuffAltOn e k, 0x30), (.cuffAltOff e k, 0x30), (.cuffFrsArm e k, 0x30), (.cuffFrsDisarm e k, 0x30), (.cuffErrorRecovery e k, 0x30),
       (.vsetWrite e k v, 0x31), (.contractWrite e k v, 0x32), (.kick e k, 0x33), (.rpWrite e k v, 0x34)]
     let up := c.coreUp = true ∧ c.engState e.val = 1
     let i : Instr × Nat := (.rxStatWrite e k v, 0x18)
     (up) ∧ (
     (c.claim e.val (0x2000 + 0x100 * n + i.2) = 2) ∧ (
     (c.occCuff n = true)))) ∧
    (
     let e : Fin 32 := 0
     let k : Fin 5 := 0
     let v : BitVec 32 := 5
     let s : State := st ({ claimed 0x2000 (chip [(Reg.ENG_STAT_STATE 0, 3), (Reg.FLASK_FSTAT_STATE 0, 256)] [(Reg.FUSE_ELEC_LIMIT 1, 52), (Reg.CUFF_POL_SRC 2, 256), (Reg.ENG_CLAIM_EN 50, 51), (Reg.ENG_CLAIM_ENGINE 52, 8192), (Reg.ENG_CLAIM_COUNT 0, 7)] [(Reg.CUFF_STAT_CONTRACT 0, 7), (Reg.CUFF_CONTRACT 1, 8192), (Reg.CUFF_STAT_POLICY 40, 8)]) with seam := { lost := true }, pwr := { coreRst := false, fieldRst := false }, cuffs := [(9, { cc1 := .rp 1, cc2 := .ra, srcOn := true })] })
     let c := s.chip
     let n := k.val
     let rows : List (Instr × Nat) :=
     [(.rxStatWrite e k v, 0x18), (.txGo e k v, 0x28), (.cuffHardReset e k, 0x30), (.cuffCableReset e k, 0x30), (.cuffSrcOn e k, 0x30),
       (.cuffSrcOff e k, 0x30), (.cuffVconnOn e k, 0x30), (.cuffVconnOff e k, 0x30), (.cuffRoleRp e k, 0x30), (.cuffRoleRd e k, 0x30),
       (.cuffDataDfp e k, 0x30), (.cuffDataUfp e k, 0x30), (.cuffSwapBegin e k, 0x30), (.cuffSwapEnd e k, 0x30), (.cuffAmsEnd e k, 0x30),
       (.cuffAltOn e k, 0x30), (.cuffAltOff e k, 0x30), (.cuffFrsArm e k, 0x30), (.cuffFrsDisarm e k, 0x30), (.cuffErrorRecovery e k, 0x30),
       (.vsetWrite e k v, 0x31), (.contractWrite e k v, 0x32), (.kick e k, 0x33), (.rpWrite e k v, 0x34)]
     let up := c.coreUp = true ∧ c.engState e.val = 1
     let reached := fun off : Nat => up ∧ c.claim e.val (0x2000 + 0x100 * n + off) = 2 ∧ c.occCuff n = false
     let firm := c.firmware n = true ∧ c.flag (Reg.CUFF_STAT_EN n) = true ∧ c.active (32 + n) = true
     let i : Instr × Nat := (.rxStatWrite e k v, 0x18)
     (reached i.2) ∧ (
     (¬firm))) ∧
    (
     let e : Fin 32 := 0
     let k : Fin 5 := 0
     let s : State := st ({ firmCuff (chip [(Reg.CUFF_STAT_EN 1, 8192), (Reg.ENG_STAT_STATE 0, 24)] [(Reg.ENG_CLAIM_EN 0, 4), (Reg.ENG_CLAIM_ENGINE 2, 8), (Reg.ENG_CLAIM_COUNT 24, 7)]) with seam := { safeOut := 8 }, pwr := { coreRst := false, fieldRst := false }, test := { run := none } })
     let c := s.chip
     let n := k.val
     let up := c.coreUp = true ∧ c.engState e.val = 1
     let reached := fun off : Nat => up ∧ c.claim e.val (0x2000 + 0x100 * n + off) = 2 ∧ c.occCuff n = false
     let firm := c.firmware n = true ∧ c.flag (Reg.CUFF_STAT_EN n) = true ∧ c.active (32 + n) = true
     (reached 0x18) ∧ (
     (firm))) ∧
    (
     let e : Fin 32 := 0
     let k : Fin 5 := 0
     let v : BitVec 32 := 0x102
     let s : State := st ((firmCuff chip).setCuff 0 { rp := true })
     let c := s.chip
     let n := k.val
     let x := c.cuff n
     let w := v.toNat
     let up := c.coreUp = true ∧ c.engState e.val = 1
     let reached := fun off : Nat => up ∧ c.claim e.val (0x2000 + 0x100 * n + off) = 2 ∧ c.occCuff n = false
     let firm := c.firmware n = true ∧ c.flag (Reg.CUFF_STAT_EN n) = true ∧ c.active (32 + n) = true
     let txn := bits w 4 0
     let ams := Sys2Proof.Machine.bit w 8 = true ∧ Sys2Proof.Machine.bit w 7 = false
     (reached 0x28) ∧ (
     (firm) ∧ (
     (x.txRes ≠ 1) ∧ (
     (2 ≤ txn) ∧ (
     (txn ≤ 30) ∧ (
     (bits w 6 5 ≠ 3) ∧ (
     (ams) ∧ (
     (x.rp = true))))))))) ∧
    (
     let e : Fin 32 := 0
     let k : Fin 5 := 0
     let v : BitVec 32 := 0x11E
     let s : State := st (firmCuff chip)
     let c := s.chip
     let n := k.val
     let x := c.cuff n
     let w := v.toNat
     let up := c.coreUp = true ∧ c.engState e.val = 1
     let reached := fun off : Nat => up ∧ c.claim e.val (0x2000 + 0x100 * n + off) = 2 ∧ c.occCuff n = false
     let firm := c.firmware n = true ∧ c.flag (Reg.CUFF_STAT_EN n) = true ∧ c.active (32 + n) = true
     let txn := bits w 4 0
     let ams := Sys2Proof.Machine.bit w 8 = true ∧ Sys2Proof.Machine.bit w 7 = false
     (reached 0x28) ∧ (
     (firm) ∧ (
     (x.txRes ≠ 1) ∧ (
     (2 ≤ txn) ∧ (
     (txn ≤ 30) ∧ (
     (bits w 6 5 ≠ 3) ∧ (
     (ams) ∧ (
     (x.rp = false) ∧ (
     (partnerRp x ≠ 3)))))))))) ∧
    (
     let e : Fin 32 := 0
     let k : Fin 5 := 0
     let v : BitVec 32 := 343750061
     let s : State := st ({ firmCuff (chip [(Reg.SEAM_STATUS_UP, 4), (Reg.FLASK_FSTAT_STATE 7, 3)] [(Reg.CUFF_POL_SRC 40, 5), (Reg.ENG_CLAIM_ENGINE 2, 6)]) with pwr := { coreRst := false, fieldRst := false }, test := { run := some (⟨32, 2, false⟩) }, cuffs := [(9, { cc2 := .rd })] })
     let c := s.chip
     let n := k.val
     let x := c.cuff n
     let w := v.toNat
     let up := c.coreUp = true ∧ c.engState e.val = 1
     let reached := fun off : Nat => up ∧ c.claim e.val (0x2000 + 0x100 * n + off) = 2 ∧ c.occCuff n = false
     let firm := c.firmware n = true ∧ c.flag (Reg.CUFF_STAT_EN n) = true ∧ c.active (32 + n) = true
     let txn := bits w 4 0
     let ams := Sys2Proof.Machine.bit w 8 = true ∧ Sys2Proof.Machine.bit w 7 = false
     (reached 0x28) ∧ (
     (firm) ∧ (
     (x.txRes ≠ 1) ∧ (
     (2 ≤ txn) ∧ (
     (txn ≤ 30) ∧ (
     (bits w 6 5 ≠ 3) ∧ (
     (¬ams ∨ (x.rp = false ∧ partnerRp x = 3))))))))) ∧
    (
     let e : Fin 32 := 0
     let k : Fin 5 := 0
     let v : BitVec 32 := 1
     let s : State := st (firmCuff chip)
     let c := s.chip
     let n := k.val
     let x := c.cuff n
     let w := v.toNat
     let up := c.coreUp = true ∧ c.engState e.val = 1
     let reached := fun off : Nat => up ∧ c.claim e.val (0x2000 + 0x100 * n + off) = 2 ∧ c.occCuff n = false
     let firm := c.firmware n = true ∧ c.flag (Reg.CUFF_STAT_EN n) = true ∧ c.active (32 + n) = true
     let txn := bits w 4 0
     (reached 0x28) ∧ (
     (firm) ∧ (
     (x.txRes = 1 ∨ txn < 2 ∨ 30 < txn ∨ bits w 6 5 = 3)))) ∧
    (
     let e : Fin 32 := 0
     let k : Fin 5 := 0
     let v : BitVec 32 := 1050
     let s : State := st ((firmCuff (chip [] [] [(Reg.CUFF_STAT_TC_STATE 0, 7)])).setCuff 0 { rp := true })
     let c := s.chip
     let n := k.val
     let w := v.toNat
     let up := c.coreUp = true ∧ c.engState e.val = 1
     let reached := fun off : Nat => up ∧ c.claim e.val (0x2000 + 0x100 * n + off) = 2 ∧ c.occCuff n = false
     let firm := c.firmware n = true ∧ c.flag (Reg.CUFF_STAT_EN n) = true ∧ c.active (32 + n) = true
     (reached 0x31) ∧ (
     (firm) ∧ (
     (w = 0 ∨ (165 ≤ w ∧ w ≤ 1050)) ∧ (
     (c.sourcing n = true))))) ∧
    (
     let e : Fin 32 := 0
     let k : Fin 5 := 0
     let v : BitVec 32 := 979066628
     let s : State := st ({ firmCuff (chip [(Reg.CUFF_STAT_EN 0, 7), (Reg.SEAM_STATUS_UP, 1), (Reg.FLASK_FSTAT_STATE 32, 8), (Reg.ENG_STAT_STATE 0, 256)] [(Reg.CUFF_POL_ENG 0, 3), (Reg.CUFF_POL_SRC 1, 1050), (Reg.ENG_CLAIM_EN 0, 3), (Reg.ENG_CLAIM_ENGINE 1, 8), (Reg.ENG_CLAIM_FIRST 2, 8), (Reg.ENG_CLAIM_COUNT 1, 165), (Reg.ENG_CLAIM_MODE 2, 1)] [(Reg.CUFF_STAT_POLICY 0, 5), (Reg.CUFF_STAT_TC_STATE 1, 7)]) with pwr := { coreRst := false, fieldRst := false }, test := { run := some (⟨5, 100, false⟩) }, ct := 1625627301 })
     let c := s.chip
     let n := k.val
     let w := v.toNat
     let up := c.coreUp = true ∧ c.engState e.val = 1
     let reached := fun off : Nat => up ∧ c.claim e.val (0x2000 + 0x100 * n + off) = 2 ∧ c.occCuff n = false
     let firm := c.firmware n = true ∧ c.flag (Reg.CUFF_STAT_EN n) = true ∧ c.active (32 + n) = true
     (reached 0x31) ∧ (
     (firm) ∧ (
     ((w ≠ 0 ∧ (w < 165 ∨ 1050 < w)) ∨ c.sourcing n = false)))) ∧
    (
     let e : Fin 32 := 0
     let k : Fin 5 := 0
     let v : BitVec 32 := 5
     let s : State := st ({ firmCuff (chip [(Reg.ENG_STAT_STATE 2, 2)] [(Reg.CUFF_POL_ENG 0, 1), (Reg.ENG_CLAIM_ENGINE 2, 7), (Reg.ENG_CLAIM_FIRST 23, 50), (Reg.ENG_CLAIM_COUNT 50, 23)] [(Reg.CUFF_STAT_POLICY 0, 4)]) with seam := { safeOut := 4 }, pwr := { coreRst := false, fieldRst := false }, warden := { laneFence := 0 }, test := { landsTaken := false } })
     let c := s.chip
     let n := k.val
     let w := v.toNat
     let up := c.coreUp = true ∧ c.engState e.val = 1
     let reached := fun off : Nat => up ∧ c.claim e.val (0x2000 + 0x100 * n + off) = 2 ∧ c.occCuff n = false
     let firm := c.firmware n = true ∧ c.flag (Reg.CUFF_STAT_EN n) = true ∧ c.active (32 + n) = true
     (reached 0x32) ∧ (
     (firm) ∧ (
     (Sys2Proof.Machine.bit w 23 = false)))) ∧
    (
     let e : Fin 32 := 0
     let k : Fin 5 := 0
     let v : BitVec 32 := 0x80_0000 + 250 + 0x400000 + 300 * 2048
     let s : State := st (firmCuff chip)
     let c := s.chip
     let n := k.val
     let w := v.toNat
     let up := c.coreUp = true ∧ c.engState e.val = 1
     let reached := fun off : Nat => up ∧ c.claim e.val (0x2000 + 0x100 * n + off) = 2 ∧ c.occCuff n = false
     let firm := c.firmware n = true ∧ c.flag (Reg.CUFF_STAT_EN n) = true ∧ c.active (32 + n) = true
     (reached 0x32) ∧ (
     (firm) ∧ (
     (Sys2Proof.Machine.bit w 23 = true) ∧ (
     let code := bits w 10 0
     let src := Sys2Proof.Machine.bit w 22 = true
     let pps := Sys2Proof.Machine.bit w 21 = true
     let cable := src → 300 < bits w 20 11 → c.lvB (Reg.CUFF_STAT_CABLE_5A n) = true
     let volts := (¬pps → code = 250 ∨ code = 450 ∨ code = 750 ∨ code = 1000) ∧ (pps → 165 ≤ code ∧ code ≤ 1050 ∧ src)
     (cable) ∧ (
     (volts)))))) ∧
    (
     let e : Fin 32 := 0
     let k : Fin 5 := 0
     let v : BitVec 32 := 481110309
     let s : State := st ({ firmCuff (chip [(Reg.CUFF_STAT_EN 1, 165), (Reg.SEAM_STATUS_UP, 2), (Reg.FLASK_FSTAT_STATE 1, 300), (Reg.ENG_STAT_STATE 20, 1050)] [(Reg.CUFF_POL_ENG 20, 11), (Reg.CUFF_POL_SRC 10, 1000), (Reg.ENG_CLAIM_EN 32, 2), (Reg.ENG_CLAIM_ENGINE 20, 11), (Reg.ENG_CLAIM_FIRST 22, 256), (Reg.ENG_CLAIM_COUNT 0, 11), (Reg.ENG_CLAIM_MODE 20, 2)] [(Reg.CUFF_STAT_CABLE_5A 32, 750), (Reg.CUFF_STAT_POLICY 11, 300)]) with seam := { lost := false, safeOut := 0 }, pwr := { coreRst := false, fieldRst := false } })
     let c := s.chip
     let n := k.val
     let w := v.toNat
     let up := c.coreUp = true ∧ c.engState e.val = 1
     let reached := fun off : Nat => up ∧ c.claim e.val (0x2000 + 0x100 * n + off) = 2 ∧ c.occCuff n = false
     let firm := c.firmware n = true ∧ c.flag (Reg.CUFF_STAT_EN n) = true ∧ c.active (32 + n) = true
     (reached 0x32) ∧ (
     (firm) ∧ (
     (Sys2Proof.Machine.bit w 23 = true) ∧ (
     let code := bits w 10 0
     let src := Sys2Proof.Machine.bit w 22 = true
     let pps := Sys2Proof.Machine.bit w 21 = true
     let cable := src → 300 < bits w 20 11 → c.lvB (Reg.CUFF_STAT_CABLE_5A n) = true
     let volts := (¬pps → code = 250 ∨ code = 450 ∨ code = 750 ∨ code = 1000) ∧ (pps → 165 ≤ code ∧ code ≤ 1050 ∧ src)
     (¬cable ∨ ¬volts))))) ∧
    (
     let e : Fin 32 := 0
     let k : Fin 5 := 0
     let s : State := st (firmCuff chip)
     let c := s.chip
     let n := k.val
     let up := c.coreUp = true ∧ c.engState e.val = 1
     let reached := fun off : Nat => up ∧ c.claim e.val (0x2000 + 0x100 * n + off) = 2 ∧ c.occCuff n = false
     let firm := c.firmware n = true ∧ c.flag (Reg.CUFF_STAT_EN n) = true ∧ c.active (32 + n) = true
     (reached 0x33) ∧ (
     (firm) ∧ (
     (c.wdogLate n = false)))) ∧
    (
     let e : Fin 32 := 0
     let k : Fin 5 := 0
     let s : State := st (let c := works [(Reg.CUFF_POL_WDOG_MS 0, 1)] ((firmCuff chip).setLv (Reg.CUFF_STAT_POLICY 0) 1); { c with ct := 2000000, fTime := { c.fTime with t := BitVec.ofNat 96 (2000000 * 2 ^ 32), loose := false } })
     let c := s.chip
     let n := k.val
     let up := c.coreUp = true ∧ c.engState e.val = 1
     let reached := fun off : Nat => up ∧ c.claim e.val (0x2000 + 0x100 * n + off) = 2 ∧ c.occCuff n = false
     let firm := c.firmware n = true ∧ c.flag (Reg.CUFF_STAT_EN n) = true ∧ c.active (32 + n) = true
     (reached 0x33) ∧ (
     (firm) ∧ (
     (c.wdogLate n = true)))) := by
  refine ⟨?_, ?_, ?_, ?_, ?_, ?_, ?_, ?_, ?_, ?_, ?_, ?_, ?_, ?_, ?_, ?_⟩ <;> dsimp only <;> decide +kernel

/-- Witnesses of the hypotheses of Obligations.CuffPortCommandResults (part 2). -/
theorem meets_CuffPortCommandResults_2 :
    (
     let e : Fin 32 := 0
     let k : Fin 5 := 0
     let v : BitVec 32 := 2
     let s : State := st (firmCuff chip)
     let c := s.chip
     let n := k.val
     let w := v.toNat
     let up := c.coreUp = true ∧ c.engState e.val = 1
     let reached := fun off : Nat => up ∧ c.claim e.val (0x2000 + 0x100 * n + off) = 2 ∧ c.occCuff n = false
     let firm := c.firmware n = true ∧ c.flag (Reg.CUFF_STAT_EN n) = true ∧ c.active (32 + n) = true
     (reached 0x34) ∧ (
     (firm) ∧ (
     (w < 3)))) ∧
    (
     let e : Fin 32 := 0
     let k : Fin 5 := 0
     let v : BitVec 32 := 8
     let s : State := st (firmCuff (chip [(Reg.CUFF_STAT_EN 1, 4), (Reg.FLASK_FSTAT_STATE 32, 8192), (Reg.ENG_STAT_STATE 0, 7), (Reg.SEAM_STATUS_UP, 52)] [(Reg.ENG_CLAIM_EN 1, 2), (Reg.ENG_CLAIM_ENGINE 1, 4), (Reg.ENG_CLAIM_FIRST 1, 1), (Reg.ENG_CLAIM_COUNT 52, 8192), (Reg.ENG_CLAIM_MODE 3, 0), (Reg.CUFF_POL_ENG 0, 0), (Reg.CUFF_POL_SRC 2, 2)] [(Reg.CUFF_STAT_POLICY 0, 52)]))
     let c := s.chip
     let n := k.val
     let w := v.toNat
     let up := c.coreUp = true ∧ c.engState e.val = 1
     let reached := fun off : Nat => up ∧ c.claim e.val (0x2000 + 0x100 * n + off) = 2 ∧ c.occCuff n = false
     let firm := c.firmware n = true ∧ c.flag (Reg.CUFF_STAT_EN n) = true ∧ c.active (32 + n) = true
     (reached 0x34) ∧ (
     (firm) ∧ (
     (3 ≤ w)))) ∧
    (
     let e : Fin 32 := 0
     let k : Fin 5 := 0
     let v : BitVec 32 := 0
     let s : State := st ((firmCuff chip).setCuff 0 { hr := 1 })
     let c := s.chip
     let n := k.val
     let rows : List (Instr × Nat) :=
     [(.rxStatWrite e k v, 0x18), (.txGo e k v, 0x28), (.cuffHardReset e k, 0x30), (.cuffCableReset e k, 0x30), (.cuffSrcOn e k, 0x30),
       (.cuffSrcOff e k, 0x30), (.cuffVconnOn e k, 0x30), (.cuffVconnOff e k, 0x30), (.cuffRoleRp e k, 0x30), (.cuffRoleRd e k, 0x30),
       (.cuffDataDfp e k, 0x30), (.cuffDataUfp e k, 0x30), (.cuffSwapBegin e k, 0x30), (.cuffSwapEnd e k, 0x30), (.cuffAmsEnd e k, 0x30),
       (.cuffAltOn e k, 0x30), (.cuffAltOff e k, 0x30), (.cuffFrsArm e k, 0x30), (.cuffFrsDisarm e k, 0x30), (.cuffErrorRecovery e k, 0x30),
       (.vsetWrite e k v, 0x31), (.contractWrite e k v, 0x32), (.kick e k, 0x33), (.rpWrite e k v, 0x34)]
     let up := c.coreUp = true ∧ c.engState e.val = 1
     let reached := fun off : Nat => up ∧ c.claim e.val (0x2000 + 0x100 * n + off) = 2 ∧ c.occCuff n = false
     let firm := c.firmware n = true ∧ c.flag (Reg.CUFF_STAT_EN n) = true ∧ c.active (32 + n) = true
     let cmd := reached 0x30 ∧ firm
     let i : Instr × Nat := (.cuffHardReset e k, 0x30)
     (i.2 = 0x30) ∧ (
     (i.1 ≠ .cuffAltOff e k) ∧ (
     (i.1 ≠ .cuffErrorRecovery e k) ∧ (
     (cmd) ∧ (
     (c.hrBusy n = true)))))) ∧
    (
     let e : Fin 32 := 0
     let k : Fin 5 := 0
     let s : State := st ({ firmCuff (chip [] [(Reg.ENG_CLAIM_EN 0, 3), (Reg.ENG_CLAIM_COUNT 2, 5), (Reg.CUFF_POL_ENG 0, 0), (Reg.CUFF_POL_SRC 48, 32)] [(Reg.CUFF_STAT_DATA 0, 1), (Reg.CUFF_STAT_VCONN 0, 1), (Reg.CUFF_STAT_POLICY 1, 5)]) with pwr := { coreRst := false, fieldRst := false }, cuffs := [(0, { hrAt := 2 })] })
     let c := s.chip
     let n := k.val
     let up := c.coreUp = true ∧ c.engState e.val = 1
     let reached := fun off : Nat => up ∧ c.claim e.val (0x2000 + 0x100 * n + off) = 2 ∧ c.occCuff n = false
     let firm := c.firmware n = true ∧ c.flag (Reg.CUFF_STAT_EN n) = true ∧ c.active (32 + n) = true
     let cmd := reached 0x30 ∧ firm
     let calm := cmd ∧ c.hrBusy n = false
     (calm) ∧ (
     (c.lvB (Reg.CUFF_STAT_DATA n) = true) ∧ (
     (c.lvB (Reg.CUFF_STAT_VCONN n) = true)))) ∧
    (
     let e : Fin 32 := 0
     let k : Fin 5 := 0
     let s : State := st ({ firmCuff (chip [] [(Reg.ENG_CLAIM_EN 0, 3), (Reg.ENG_CLAIM_COUNT 2, 5), (Reg.ENG_CLAIM_MODE 32, 2), (Reg.CUFF_POL_ENG 0, 0), (Reg.CUFF_POL_SRC 48, 32)] [(Reg.CUFF_STAT_DATA 0, 1), (Reg.CUFF_STAT_POLICY 1, 5)]) with pwr := { coreRst := false, fieldRst := false }, cuffs := [(0, { hrAt := 2 })] })
     let c := s.chip
     let n := k.val
     let up := c.coreUp = true ∧ c.engState e.val = 1
     let reached := fun off : Nat => up ∧ c.claim e.val (0x2000 + 0x100 * n + off) = 2 ∧ c.occCuff n = false
     let firm := c.firmware n = true ∧ c.flag (Reg.CUFF_STAT_EN n) = true ∧ c.active (32 + n) = true
     let cmd := reached 0x30 ∧ firm
     let calm := cmd ∧ c.hrBusy n = false
     (calm) ∧ (
     (c.lvB (Reg.CUFF_STAT_DATA n) = false ∨ c.lvB (Reg.CUFF_STAT_VCONN n) = false))) ∧
    (
     let e : Fin 32 := 0
     let k : Fin 5 := 0
     let s : State := st (let c := (works [] ((firmCuff (chip [] [] [(Reg.CUFF_STAT_TC_STATE 0, 7), (Reg.CUFF_VBUS_CODE 0, 5)])).setCuff 0 { rp := true, target := 250 })); { c with fuseReq := 1 })
     let c := s.chip
     let n := k.val
     let x := c.cuff n
     let up := c.coreUp = true ∧ c.engState e.val = 1
     let reached := fun off : Nat => up ∧ c.claim e.val (0x2000 + 0x100 * n + off) = 2 ∧ c.occCuff n = false
     let firm := c.firmware n = true ∧ c.flag (Reg.CUFF_STAT_EN n) = true ∧ c.active (32 + n) = true
     let cmd := reached 0x30 ∧ firm
     let calm := cmd ∧ c.hrBusy n = false
     let win := c.lvB (Reg.CUFF_STAT_SWAP n) = true
     (calm) ∧ (
     (x.rp = true) ∧ (
     (c.tc n = 7 ∨ win) ∧ (
     (c.portPow n = true) ∧ (
     (c.lv (Reg.CUFF_VBUS_CODE n) ≠ 0) ∧ (
     (c.vbusLive n = false))))))) ∧
    (
     let e : Fin 32 := 0
     let k : Fin 5 := 0
     let s : State := st ({ firmCuff (chip [(Reg.SEAM_STATUS_UP, 32)] [(Reg.CUFF_POL_ENG 7, 5), (Reg.ENG_CLAIM_FIRST 0, 48)] [(Reg.CUFF_STAT_POLICY 0, 7)]) with pwr := { coreRst := false, fieldRst := false }, cuffs := [(5, { rp := false, hrAt := 6 })], ct := 0, fuseReq := 63 })
     let c := s.chip
     let n := k.val
     let x := c.cuff n
     let up := c.coreUp = true ∧ c.engState e.val = 1
     let reached := fun off : Nat => up ∧ c.claim e.val (0x2000 + 0x100 * n + off) = 2 ∧ c.occCuff n = false
     let firm := c.firmware n = true ∧ c.flag (Reg.CUFF_STAT_EN n) = true ∧ c.active (32 + n) = true
     let cmd := reached 0x30 ∧ firm
     let calm := cmd ∧ c.hrBusy n = false
     let win := c.lvB (Reg.CUFF_STAT_SWAP n) = true
     (calm) ∧ (
     (x.rp = false ∨ (c.tc n ≠ 7 ∧ ¬win) ∨ c.portPow n = false ∨ c.lv (Reg.CUFF_VBUS_CODE n) = 0 ∨ c.vbusLive n = true))) ∧
    (
     let e : Fin 32 := 0
     let k : Fin 5 := 0
     let s : State := st ({ firmCuff (chip [(Reg.ENG_STAT_STATE 1, 1000000000)] [(Reg.ENG_CLAIM_COUNT 0, 0), (Reg.ENG_CLAIM_MODE 0, 0)] [(Reg.CUFF_STAT_POLICY 0, 48), (Reg.CUFF_STAT_TC_STATE 0, 7)]) with pwr := { coreRst := false, fieldRst := false }, warden := { laneFence := 32 }, cuffs := [(0, { hr := 7, hrAt := 4 })], ct := 0 })
     let c := s.chip
     let n := k.val
     let x := c.cuff n
     let up := c.coreUp = true ∧ c.engState e.val = 1
     let reached := fun off : Nat => up ∧ c.claim e.val (0x2000 + 0x100 * n + off) = 2 ∧ c.occCuff n = false
     let firm := c.firmware n = true ∧ c.flag (Reg.CUFF_STAT_EN n) = true ∧ c.active (32 + n) = true
     let cmd := reached 0x30 ∧ firm
     let calm := cmd ∧ c.hrBusy n = false
     let att := c.attached n = true
     (calm) ∧ (
     (att) ∧ (
     (x.vconnFault = 0 ∨ x.vconnFault + 1000000000 ≤ c.fNow + 1)))) ∧
    (
     let e : Fin 32 := 0
     let k : Fin 5 := 0
     let s : State := st ({ firmCuff (chip [(Reg.ENG_STAT_STATE 0, 7), (Reg.SEAM_STATUS_UP, 1000000000)] [(Reg.CUFF_POL_ENG 0, 0), (Reg.CUFF_POL_SRC 0, 0)] [(Reg.CUFF_STAT_TC_STATE 0, 48)]) with seam := { lost := false }, pwr := { coreRst := false, fieldRst := false }, warden := { laneFence := 32 }, cuffs := [(0, { hr := 7, hrAt := 4 })], ct := 0 })
     let c := s.chip
     let n := k.val
     let x := c.cuff n
     let up := c.coreUp = true ∧ c.engState e.val = 1
     let reached := fun off : Nat => up ∧ c.claim e.val (0x2000 + 0x100 * n + off) = 2 ∧ c.occCuff n = false
     let firm := c.firmware n = true ∧ c.flag (Reg.CUFF_STAT_EN n) = true ∧ c.active (32 + n) = true
     let cmd := reached 0x30 ∧ firm
     let calm := cmd ∧ c.hrBusy n = false
     let att := c.attached n = true
     (calm) ∧ (
     (¬att ∨ (x.vconnFault ≠ 0 ∧ c.fNow + 1 < x.vconnFault + 1000000000)))) ∧
    (
     let e : Fin 32 := 0
     let k : Fin 5 := 0
     let s : State := st ((firmCuff (chip [] [] [(Reg.CUFF_STAT_SWAP 0, 1)])))
     let c := s.chip
     let n := k.val
     let x := c.cuff n
     let up := c.coreUp = true ∧ c.engState e.val = 1
     let reached := fun off : Nat => up ∧ c.claim e.val (0x2000 + 0x100 * n + off) = 2 ∧ c.occCuff n = false
     let firm := c.firmware n = true ∧ c.flag (Reg.CUFF_STAT_EN n) = true ∧ c.active (32 + n) = true
     let cmd := reached 0x30 ∧ firm
     let calm := cmd ∧ c.hrBusy n = false
     let win := c.lvB (Reg.CUFF_STAT_SWAP n) = true
     (calm) ∧ (
     (win) ∧ (
     (c.fuseClosed n = false) ∧ (
     (c.vbusLive n = false ∨ x.frsFired = true))))) ∧
    (
     let e : Fin 32 := 0
     let k : Fin 5 := 0
     let s : State := st ({ firmCuff (chip [] [(Reg.ENG_CLAIM_EN 0, 3), (Reg.ENG_CLAIM_COUNT 2, 5), (Reg.ENG_CLAIM_MODE 32, 2), (Reg.CUFF_POL_ENG 0, 0), (Reg.CUFF_POL_SRC 48, 32)] [(Reg.CUFF_STAT_POLICY 1, 5)]) with pwr := { coreRst := false, fieldRst := false }, cuffs := [(0, { hrAt := 2 })] })
     let c := s.chip
     let n := k.val
     let up := c.coreUp = true ∧ c.engState e.val = 1
     let reached := fun off : Nat => up ∧ c.claim e.val (0x2000 + 0x100 * n + off) = 2 ∧ c.occCuff n = false
     let firm := c.firmware n = true ∧ c.flag (Reg.CUFF_STAT_EN n) = true ∧ c.active (32 + n) = true
     let cmd := reached 0x30 ∧ firm
     let calm := cmd ∧ c.hrBusy n = false
     let win := c.lvB (Reg.CUFF_STAT_SWAP n) = true
     (calm) ∧ (
     (¬win ∨ c.fuseClosed n = true))) ∧
    (
     let e : Fin 32 := 0
     let k : Fin 5 := 0
     let s : State := st ({ firmCuff (chip [(Reg.CUFF_STAT_EN 0, 7), (Reg.FLASK_FSTAT_STATE 0, 48), (Reg.ENG_STAT_STATE 0, 7), (Reg.SEAM_STATUS_UP, 48)] [(Reg.ENG_CLAIM_EN 0, 256), (Reg.ENG_CLAIM_ENGINE 32, 0), (Reg.ENG_CLAIM_FIRST 48, 8192), (Reg.ENG_CLAIM_COUNT 2, 8192), (Reg.ENG_CLAIM_MODE 2, 48), (Reg.CUFF_POL_ENG 0, 0), (Reg.CUFF_POL_SRC 0, 256)] [(Reg.CUFF_STAT_SWAP 0, 8192), (Reg.CUFF_STAT_TC_STATE 0, 4), (Reg.CUFF_STAT_POLICY 0, 7)]) with seam := { safeOut := 0 }, pwr := { coreRst := false, fieldRst := false }, test := { landsTaken := false } })
     let c := s.chip
     let n := k.val
     let up := c.coreUp = true ∧ c.engState e.val = 1
     let reached := fun off : Nat => up ∧ c.claim e.val (0x2000 + 0x100 * n + off) = 2 ∧ c.occCuff n = false
     let firm := c.firmware n = true ∧ c.flag (Reg.CUFF_STAT_EN n) = true ∧ c.active (32 + n) = true
     let cmd := reached 0x30 ∧ firm
     let calm := cmd ∧ c.hrBusy n = false
     let win := c.lvB (Reg.CUFF_STAT_SWAP n) = true
     let att := c.attached n = true
     (calm) ∧ (
     (att) ∧ (
     (¬win)))) ∧
    (
     let e : Fin 32 := 0
     let k : Fin 5 := 0
     let s : State := st ({ firmCuff (chip [] [(Reg.ENG_CLAIM_EN 0, 7), (Reg.ENG_CLAIM_ENGINE 2, 8)]) with pwr := { coreRst := false, fieldRst := false }, cuffs := [(1, { hr := 6 })], ct := 8 })
     let c := s.chip
     let n := k.val
     let up := c.coreUp = true ∧ c.engState e.val = 1
     let reached := fun off : Nat => up ∧ c.claim e.val (0x2000 + 0x100 * n + off) = 2 ∧ c.occCuff n = false
     let firm := c.firmware n = true ∧ c.flag (Reg.CUFF_STAT_EN n) = true ∧ c.active (32 + n) = true
     let cmd := reached 0x30 ∧ firm
     let calm := cmd ∧ c.hrBusy n = false
     let att := c.attached n = true
     (calm) ∧ (
     (¬att))) ∧
    (
     let e : Fin 32 := 0
     let k : Fin 5 := 0
     let s : State := st ({ firmCuff (chip [] [(Reg.ENG_CLAIM_EN 0, 7), (Reg.ENG_CLAIM_ENGINE 2, 8)]) with pwr := { coreRst := false, fieldRst := false }, cuffs := [(1, { hr := 6 })], ct := 8 })
     let c := s.chip
     let n := k.val
     let up := c.coreUp = true ∧ c.engState e.val = 1
     let reached := fun off : Nat => up ∧ c.claim e.val (0x2000 + 0x100 * n + off) = 2 ∧ c.occCuff n = false
     let firm := c.firmware n = true ∧ c.flag (Reg.CUFF_STAT_EN n) = true ∧ c.active (32 + n) = true
     let cmd := reached 0x30 ∧ firm
     let calm := cmd ∧ c.hrBusy n = false
     let win := c.lvB (Reg.CUFF_STAT_SWAP n) = true
     (calm) ∧ (
     (¬win))) ∧
    (
     let e : Fin 32 := 0
     let k : Fin 5 := 0
     let s : State := st ({ firmCuff (chip [(Reg.CUFF_STAT_EN 2, 8)] [(Reg.ENG_CLAIM_ENGINE 1, 32), (Reg.CUFF_POL_ENG 0, 0), (Reg.CUFF_POL_SRC 1, 7)]) with seam := { safeOut := 3 }, pwr := { coreRst := false, fieldRst := false }, test := { run := some (⟨16, 7, true⟩), landsTaken := false }, cuffs := [(1, { hrAt := 31 })] })
     let c := s.chip
     let n := k.val
     let x := c.cuff n
     let up := c.coreUp = true ∧ c.engState e.val = 1
     let reached := fun off : Nat => up ∧ c.claim e.val (0x2000 + 0x100 * n + off) = 2 ∧ c.occCuff n = false
     let firm := c.firmware n = true ∧ c.flag (Reg.CUFF_STAT_EN n) = true ∧ c.active (32 + n) = true
     let cmd := reached 0x30 ∧ firm
     let calm := cmd ∧ c.hrBusy n = false
     (calm) ∧ (
     (x.rp = false))) ∧
    (
     let e : Fin 32 := 0
     let k : Fin 5 := 0
     let s : State := st (firmCuff (chip [(Reg.LINK_PHY_MEDIA 1, 1)] [] [(Reg.CUFF_STAT_CONTRACT 0, 1)]))
     let c := s.chip
     let n := k.val
     let up := c.coreUp = true ∧ c.engState e.val = 1
     let reached := fun off : Nat => up ∧ c.claim e.val (0x2000 + 0x100 * n + off) = 2 ∧ c.occCuff n = false
     let firm := c.firmware n = true ∧ c.flag (Reg.CUFF_STAT_EN n) = true ∧ c.active (32 + n) = true
     let cmd := reached 0x30 ∧ firm
     let calm := cmd ∧ c.hrBusy n = false
     (calm) ∧ (
     let p : Nat := 1
     (altPort n = some p) ∧ (
     (c.flag (Reg.LINK_PHY_MEDIA p) = true) ∧ (
     (c.lvB (Reg.CUFF_STAT_CONTRACT n) = true) ∧ (
     (c.lvB (Reg.CUFF_STAT_ALT n) = false)))))) := by
  refine ⟨?_, ?_, ?_, ?_, ?_, ?_, ?_, ?_, ?_, ?_, ?_, ?_, ?_, ?_, ?_, ?_⟩ <;> dsimp only <;> decide +kernel

/-- Witnesses of the hypotheses of Obligations.CuffPortCommandResults (part 3). -/
theorem meets_CuffPortCommandResults_3 :
    (
     let e : Fin 32 := 0
     let k : Fin 5 := 0
     let s : State := st ({ firmCuff (chip [] [(Reg.ENG_CLAIM_EN 0, 3), (Reg.ENG_CLAIM_COUNT 2, 5), (Reg.ENG_CLAIM_MODE 32, 2), (Reg.CUFF_POL_ENG 0, 0), (Reg.CUFF_POL_SRC 48, 32)] [(Reg.CUFF_STAT_ALT 0, 1), (Reg.CUFF_STAT_POLICY 1, 5)]) with pwr := { coreRst := false, fieldRst := false }, cuffs := [(0, { hrAt := 2 })] })
     let c := s.chip
     let n := k.val
     let up := c.coreUp = true ∧ c.engState e.val = 1
     let reached := fun off : Nat => up ∧ c.claim e.val (0x2000 + 0x100 * n + off) = 2 ∧ c.occCuff n = false
     let firm := c.firmware n = true ∧ c.flag (Reg.CUFF_STAT_EN n) = true ∧ c.active (32 + n) = true
     let cmd := reached 0x30 ∧ firm
     let calm := cmd ∧ c.hrBusy n = false
     (calm) ∧ (
     (altPort n = none ∨ c.lvB (Reg.CUFF_STAT_CONTRACT n) = false ∨ c.lvB (Reg.CUFF_STAT_ALT n) = true))) ∧
    (
     let e : Fin 32 := 0
     let k : Fin 5 := 0
     let s : State := st ({ firmCuff (chip [(Reg.CUFF_STAT_EN 1, 8192), (Reg.ENG_STAT_STATE 0, 32)] [(Reg.ENG_CLAIM_EN 0, 4), (Reg.ENG_CLAIM_ENGINE 2, 8), (Reg.ENG_CLAIM_COUNT 32, 7)]) with seam := { safeOut := 8 }, pwr := { coreRst := false, fieldRst := false }, test := { run := none } })
     let c := s.chip
     let n := k.val
     let up := c.coreUp = true ∧ c.engState e.val = 1
     let reached := fun off : Nat => up ∧ c.claim e.val (0x2000 + 0x100 * n + off) = 2 ∧ c.occCuff n = false
     let firm := c.firmware n = true ∧ c.flag (Reg.CUFF_STAT_EN n) = true ∧ c.active (32 + n) = true
     let cmd := reached 0x30 ∧ firm
     (cmd)) ∧
    (
     let e : Fin 32 := 0
     let k : Fin 5 := 0
     let s : State := st (firmCuff (chip [] [] [(Reg.CUFF_STAT_TC_STATE 0, 7), (Reg.CUFF_STAT_CONTRACT 0, 1), (Reg.CUFF_CONTRACT 0, 0x400000)]))
     let c := s.chip
     let n := k.val
     let up := c.coreUp = true ∧ c.engState e.val = 1
     let reached := fun off : Nat => up ∧ c.claim e.val (0x2000 + 0x100 * n + off) = 2 ∧ c.occCuff n = false
     let firm := c.firmware n = true ∧ c.flag (Reg.CUFF_STAT_EN n) = true ∧ c.active (32 + n) = true
     let cmd := reached 0x30 ∧ firm
     let calm := cmd ∧ c.hrBusy n = false
     let win := c.lvB (Reg.CUFF_STAT_SWAP n) = true
     (calm) ∧ (
     (c.tc n = 7) ∧ (
     (c.lvB (Reg.CUFF_STAT_CONTRACT n) = true) ∧ (
     (Sys2Proof.Machine.bit (c.lv (Reg.CUFF_CONTRACT n)) 22 = true) ∧ (
     (¬win)))))) ∧
    (
     let e : Fin 32 := 0
     let k : Fin 5 := 0
     let s : State := st ({ firmCuff (chip [(Reg.CUFF_STAT_EN 1, 2), (Reg.FLASK_FSTAT_STATE 7, 1)] [(Reg.ENG_CLAIM_ENGINE 1, 4), (Reg.ENG_CLAIM_FIRST 0, 3)]) with pwr := { coreRst := false, fieldRst := false }, test := { run := some (⟨2, 5, false⟩) }, cuffs := [(9, { hrAt := 52 })] })
     let c := s.chip
     let n := k.val
     let up := c.coreUp = true ∧ c.engState e.val = 1
     let reached := fun off : Nat => up ∧ c.claim e.val (0x2000 + 0x100 * n + off) = 2 ∧ c.occCuff n = false
     let firm := c.firmware n = true ∧ c.flag (Reg.CUFF_STAT_EN n) = true ∧ c.active (32 + n) = true
     let cmd := reached 0x30 ∧ firm
     let calm := cmd ∧ c.hrBusy n = false
     let win := c.lvB (Reg.CUFF_STAT_SWAP n) = true
     (calm) ∧ (
     (c.tc n ≠ 7 ∨ c.lvB (Reg.CUFF_STAT_CONTRACT n) = false ∨ Sys2Proof.Machine.bit (c.lv (Reg.CUFF_CONTRACT n)) 22 = false ∨ win))) := by
  refine ⟨?_, ?_, ?_, ?_⟩ <;> dsimp only <;> decide +kernel

/-- Witnesses of the hypotheses of Obligations.CuffEventResults (part 1). -/
theorem meets_CuffEventResults_1 :
    (
     let k : Fin 5 := 0
     let s : State := st (chip)
     let c := s.chip
     let n := k.val
     let up := c.fieldUp = true
     let tc := c.tc n
     (up) ∧ (
     (tc ≠ 2) ∧ (
     (tc ≠ 5) ∧ (
     (tc ≠ 6))))) ∧
    (
     let k : Fin 5 := 0
     let s : State := st (chip [] [] [(Reg.CUFF_STAT_SWAP 0, 3)])
     let c := s.chip
     let n := k.val
     let up := c.fieldUp = true
     let win := c.lvB (Reg.CUFF_STAT_SWAP n)
     (up) ∧ (
     (win = true))) ∧
    (
     let k : Fin 5 := 0
     let a : CcPin := .rd
     let b : CcPin := .rp 3
     let s : State := st ({ chip [] [] [(Reg.CUFF_STAT_TC_STATE 0, 2)] with pwr := { fieldRst := false, coreRst := false }, cuffs := [(9, { rp := false, ccOpen := false })] })
     let c := s.chip
     let n := k.val
     let x := c.cuff n
     let up := c.fieldUp = true
     let tc := c.tc n
     let win := c.lvB (Reg.CUFF_STAT_SWAP n)
     let y := { x with cc1 := a, cc2 := b }
     (up) ∧ (
     (win = false) ∧ (
     (tc = 2) ∧ (
     (seesSource y.pins = true))))) ∧
    (
     let k : Fin 5 := 0
     let a : CcPin := .rd
     let b : CcPin := .ra
     let s : State := st ({ chip [] [] [(Reg.CUFF_STAT_TC_STATE 0, 2)] with pwr := { fieldRst := false, coreRst := false }, cuffs := [(9, { rp := false, ccOpen := false })] })
     let c := s.chip
     let n := k.val
     let x := c.cuff n
     let up := c.fieldUp = true
     let tc := c.tc n
     let win := c.lvB (Reg.CUFF_STAT_SWAP n)
     let y := { x with cc1 := a, cc2 := b }
     (up) ∧ (
     (win = false) ∧ (
     (tc = 2) ∧ (
     (seesSource y.pins = false))))) ∧
    (
     let k : Fin 5 := 0
     let a : CcPin := .rp 3
     let b : CcPin := .rd
     let s : State := st ({ chip [] [] [(Reg.CUFF_STAT_SWAP 0, 0), (Reg.CUFF_STAT_TC_STATE 0, 5)] with pwr := { fieldRst := false, coreRst := false } })
     let c := s.chip
     let n := k.val
     let x := c.cuff n
     let up := c.fieldUp = true
     let tc := c.tc n
     let win := c.lvB (Reg.CUFF_STAT_SWAP n)
     let y := { x with cc1 := a, cc2 := b }
     (up) ∧ (
     (win = false) ∧ (
     (tc = 5) ∧ (
     (seesSink y.pins = true))))) ∧
    (
     let k : Fin 5 := 0
     let a : CcPin := .ra
     let b : CcPin := .open_
     let s : State := st ({ chip [] [] [(Reg.CUFF_STAT_SWAP 0, 2), (Reg.CUFF_STAT_TC_STATE 0, 5)] with pwr := { fieldRst := false, coreRst := false } })
     let c := s.chip
     let n := k.val
     let x := c.cuff n
     let up := c.fieldUp = true
     let tc := c.tc n
     let win := c.lvB (Reg.CUFF_STAT_SWAP n)
     let y := { x with cc1 := a, cc2 := b }
     (up) ∧ (
     (win = false) ∧ (
     (tc = 5) ∧ (
     (seesSink y.pins = false))))) ∧
    (
     let k : Fin 5 := 0
     let a : CcPin := .rp 3
     let b : CcPin := .rd
     let s : State := st ({ chip [] [] [(Reg.CUFF_STAT_TC_STATE 0, 6)] with pwr := { fieldRst := false, coreRst := false }, cuffs := [(9, { cc2 := .ra, ccOpen := false })] })
     let c := s.chip
     let n := k.val
     let x := c.cuff n
     let up := c.fieldUp = true
     let tc := c.tc n
     let win := c.lvB (Reg.CUFF_STAT_SWAP n)
     let y := { x with cc1 := a, cc2 := b }
     (up) ∧ (
     (win = false) ∧ (
     (tc = 6) ∧ (
     (seesSink y.pins = true))))) ∧
    (
     let k : Fin 5 := 0
     let a : CcPin := .ra
     let b : CcPin := .rp 3
     let s : State := st ({ chip [] [] [(Reg.CUFF_STAT_TC_STATE 0, 6)] with pwr := { fieldRst := false, coreRst := false }, cuffs := [(9, { cc1 := .rp 3, cc2 := .open_ })] })
     let c := s.chip
     let n := k.val
     let x := c.cuff n
     let up := c.fieldUp = true
     let tc := c.tc n
     let win := c.lvB (Reg.CUFF_STAT_SWAP n)
     let y := { x with cc1 := a, cc2 := b }
     (up) ∧ (
     (win = false) ∧ (
     (tc = 6) ∧ (
     (seesSink y.pins = false))))) ∧
    (
     let k : Fin 5 := 0
     let s : State := st (chip)
     let c := s.chip
     let n := k.val
     let up := c.fieldUp = true
     let tc := c.tc n
     (up) ∧ (
     (tc = 1))) ∧
    (
     let k : Fin 5 := 0
     let s : State := st ({ chip [] [] [(Reg.CUFF_STAT_TC_STATE 0, 3)] with pwr := { fieldRst := false, coreRst := false }, cuffs := [(0, { cc1 := .rp 1, cc2 := .open_, rp := true })] })
     let c := s.chip
     let n := k.val
     let x := c.cuff n
     let up := c.fieldUp = true
     let tc := c.tc n
     let src := seesSource x.pins = true
     let mode := c.tcMode n
     let tri := c.fwk (Reg.CUFF_TC_CFG_TRY n)
     (up) ∧ (
     (tc = 3) ∧ (
     (src) ∧ (
     (mode = 2) ∧ (
     (tri = 1)))))) ∧
    (
     let k : Fin 5 := 0
     let s : State := st ({ chip [] [(Reg.CUFF_TC_CFG_TRY 0, 3), (Reg.CUFF_TC_CFG_MODE 2, 8)] [(Reg.CUFF_STAT_TC_STATE 0, 3)] with pwr := { fieldRst := false, coreRst := false }, cuffs := [(0, { cc1 := .rp 3, rp := false })] })
     let c := s.chip
     let n := k.val
     let x := c.cuff n
     let up := c.fieldUp = true
     let tc := c.tc n
     let src := seesSource x.pins = true
     let mode := c.tcMode n
     let tri := c.fwk (Reg.CUFF_TC_CFG_TRY n)
     (up) ∧ (
     (tc = 3) ∧ (
     (src) ∧ (
     (mode ≠ 2 ∨ tri ≠ 1))))) ∧
    (
     let k : Fin 5 := 0
     let s : State := st ({ chip [] [] [(Reg.CUFF_STAT_TC_STATE 0, 3)] with pwr := { fieldRst := false, coreRst := false }, cuffs := [(1, { cc1 := .rp 3 })] })
     let c := s.chip
     let n := k.val
     let x := c.cuff n
     let up := c.fieldUp = true
     let tc := c.tc n
     let src := seesSource x.pins = true
     (up) ∧ (
     (tc = 3) ∧ (
     (¬src)))) ∧
    (
     let k : Fin 5 := 0
     let s : State := st ({ chip [] [] [(Reg.CUFF_STAT_SWAP 0, 1), (Reg.CUFF_STAT_TC_STATE 0, 4)] with pwr := { fieldRst := false, coreRst := false }, cuffs := [(1, { rp := false, ccOpen := true })] })
     let c := s.chip
     let n := k.val
     let x := c.cuff n
     let up := c.fieldUp = true
     let tc := c.tc n
     let win := c.lvB (Reg.CUFF_STAT_SWAP n)
     let src := seesSource x.pins = true
     let frozen := win = true
     (up) ∧ (
     (tc = 4) ∧ (
     (src ∨ frozen)))) ∧
    (
     let k : Fin 5 := 0
     let s : State := st ({ chip [] [] [(Reg.CUFF_STAT_SWAP 0, 2), (Reg.CUFF_STAT_TC_STATE 0, 4)] with pwr := { fieldRst := false, coreRst := false }, cuffs := [(1, { cc2 := .open_ })] })
     let c := s.chip
     let n := k.val
     let x := c.cuff n
     let up := c.fieldUp = true
     let tc := c.tc n
     let win := c.lvB (Reg.CUFF_STAT_SWAP n)
     let src := seesSource x.pins = true
     let frozen := win = true
     (up) ∧ (
     (tc = 4) ∧ (
     (¬src) ∧ (
     (¬frozen))))) ∧
    (
     let k : Fin 5 := 0
     let s : State := st ({ chip [] [(Reg.CUFF_TC_CFG_TRY 0, 2)] [(Reg.CUFF_STAT_TC_STATE 0, 6)] with pwr := { fieldRst := false, coreRst := false }, cuffs := [(0, { cc2 := .rd })] })
     let c := s.chip
     let n := k.val
     let x := c.cuff n
     let up := c.fieldUp = true
     let tc := c.tc n
     let snk := seesSink x.pins = true
     let mode := c.tcMode n
     let tri := c.fwk (Reg.CUFF_TC_CFG_TRY n)
     (up) ∧ (
     (tc = 6) ∧ (
     (snk) ∧ (
     (mode = 2) ∧ (
     (tri = 2)))))) ∧
    (
     let k : Fin 5 := 0
     let s : State := st ({ chip [(Reg.CUFF_TC_CFG_TRY 0, 4)] [] [(Reg.CUFF_STAT_TC_STATE 0, 6)] with pwr := { fieldRst := false, coreRst := false }, cuffs := [(0, { cc1 := .rd })] })
     let c := s.chip
     let n := k.val
     let x := c.cuff n
     let up := c.fieldUp = true
     let tc := c.tc n
     let snk := seesSink x.pins = true
     let mode := c.tcMode n
     let tri := c.fwk (Reg.CUFF_TC_CFG_TRY n)
     (up) ∧ (
     (tc = 6) ∧ (
     (snk) ∧ (
     (mode ≠ 2 ∨ tri ≠ 2))))) := by
  refine ⟨?_, ?_, ?_, ?_, ?_, ?_, ?_, ?_, ?_, ?_, ?_, ?_, ?_, ?_, ?_, ?_⟩ <;> dsimp only <;> decide +kernel

/-- Witnesses of the hypotheses of Obligations.CuffEventResults (part 2). -/
theorem meets_CuffEventResults_2 :
    (
     let k : Fin 5 := 0
     let s : State := st ({ chip [] [] [(Reg.CUFF_STAT_TC_STATE 0, 6)] with pwr := { fieldRst := false, coreRst := false } })
     let c := s.chip
     let n := k.val
     let x := c.cuff n
     let up := c.fieldUp = true
     let tc := c.tc n
     let snk := seesSink x.pins = true
     (up) ∧ (
     (tc = 6) ∧ (
     (¬snk)))) ∧
    (
     let k : Fin 5 := 0
     let s : State := st ({ chip [] [] [(Reg.CUFF_STAT_SWAP 0, 1), (Reg.CUFF_STAT_TC_STATE 0, 7)] with pwr := { fieldRst := false, coreRst := false } })
     let c := s.chip
     let n := k.val
     let x := c.cuff n
     let up := c.fieldUp = true
     let tc := c.tc n
     let win := c.lvB (Reg.CUFF_STAT_SWAP n)
     let snk := seesSink x.pins = true
     let frozen := win = true
     (up) ∧ (
     (tc = 7) ∧ (
     (snk ∨ frozen)))) ∧
    (
     let k : Fin 5 := 0
     let s : State := st ({ chip [] [] [(Reg.CUFF_STAT_TC_STATE 0, 7)] with pwr := { fieldRst := false, coreRst := false } })
     let c := s.chip
     let n := k.val
     let x := c.cuff n
     let up := c.fieldUp = true
     let tc := c.tc n
     let win := c.lvB (Reg.CUFF_STAT_SWAP n)
     let snk := seesSink x.pins = true
     let frozen := win = true
     (up) ∧ (
     (tc = 7) ∧ (
     (¬snk) ∧ (
     (¬frozen))))) ∧
    (
     let k : Fin 5 := 0
     let s : State := st ({ chip [] [] [(Reg.CUFF_STAT_TC_STATE 0, 8)] with pwr := { fieldRst := false, coreRst := false }, cuffs := [(0, { cc1 := .rd, cc2 := .open_ })] })
     let c := s.chip
     let n := k.val
     let x := c.cuff n
     let up := c.fieldUp = true
     let tc := c.tc n
     let snk := seesSink x.pins = true
     (up) ∧ (
     (tc = 8) ∧ (
     (snk)))) ∧
    (
     let k : Fin 5 := 0
     let s : State := st ({ chip [] [] [(Reg.CUFF_STAT_TC_STATE 0, 8)] with pwr := { fieldRst := false, coreRst := false } })
     let c := s.chip
     let n := k.val
     let x := c.cuff n
     let up := c.fieldUp = true
     let tc := c.tc n
     let snk := seesSink x.pins = true
     (up) ∧ (
     (tc = 8) ∧ (
     (¬snk)))) ∧
    (
     let k : Fin 5 := 0
     let s : State := st ({ chip [] [] [(Reg.CUFF_STAT_TC_STATE 0, 9)] with pwr := { fieldRst := false, coreRst := false }, cuffs := [(0, { cc1 := .rp 3, rp := true })] })
     let c := s.chip
     let n := k.val
     let x := c.cuff n
     let up := c.fieldUp = true
     let tc := c.tc n
     let src := seesSource x.pins = true
     (up) ∧ (
     (tc = 9) ∧ (
     (src)))) ∧
    (
     let k : Fin 5 := 0
     let s : State := st ({ chip [] [] [(Reg.CUFF_STAT_TC_STATE 0, 9)] with pwr := { fieldRst := false, coreRst := false }, cuffs := [(9, { rp := true })] })
     let c := s.chip
     let n := k.val
     let x := c.cuff n
     let up := c.fieldUp = true
     let tc := c.tc n
     let src := seesSource x.pins = true
     (up) ∧ (
     (tc = 9) ∧ (
     (¬src)))) ∧
    (
     let k : Fin 5 := 0
     let s : State := st ({ chip [] [] [(Reg.CUFF_STAT_TC_STATE 0, 10)] with pwr := { fieldRst := false, coreRst := false }, cuffs := [(0, { cc1 := .rp 3, rp := true })] })
     let c := s.chip
     let n := k.val
     let x := c.cuff n
     let up := c.fieldUp = true
     let tc := c.tc n
     let src := seesSource x.pins = true
     (up) ∧ (
     (tc = 10) ∧ (
     (src)))) ∧
    (
     let k : Fin 5 := 0
     let s : State := st ({ chip [] [] [(Reg.CUFF_STAT_TC_STATE 0, 10)] with pwr := { fieldRst := false, coreRst := false }, cuffs := [(9, { rp := true })] })
     let c := s.chip
     let n := k.val
     let x := c.cuff n
     let up := c.fieldUp = true
     let tc := c.tc n
     let src := seesSource x.pins = true
     (up) ∧ (
     (tc = 10) ∧ (
     (¬src)))) ∧
    (
     let k : Fin 5 := 0
     let s : State := st ({ chip [] [] [(Reg.CUFF_STAT_TC_STATE 0, 11)] with pwr := { fieldRst := false, coreRst := false }, cuffs := [(0, { cc1 := .rd, cc2 := .ra })] })
     let c := s.chip
     let n := k.val
     let x := c.cuff n
     let up := c.fieldUp = true
     let tc := c.tc n
     let snk := seesSink x.pins = true
     (up) ∧ (
     (tc = 11) ∧ (
     (snk)))) ∧
    (
     let k : Fin 5 := 0
     let s : State := st ({ chip [] [] [(Reg.CUFF_STAT_TC_STATE 0, 11)] with pwr := { fieldRst := false, coreRst := false }, cuffs := [(0, { cc2 := .ra })] })
     let c := s.chip
     let n := k.val
     let x := c.cuff n
     let up := c.fieldUp = true
     let tc := c.tc n
     let snk := seesSink x.pins = true
     (up) ∧ (
     (tc = 11) ∧ (
     (¬snk)))) ∧
    (
     let k : Fin 5 := 0
     let s : State := st (chip [] [] [(Reg.CUFF_STAT_TC_STATE 0, 2)])
     let c := s.chip
     let n := k.val
     let tc := c.tc n
     (tc = 0 ∨ tc = 2 ∨ tc = 5)) ∧
    (
     let k : Fin 5 := 0
     let s : State := st ({ chip [] [] [(Reg.CUFF_STAT_TC_STATE 0, 2)] with pwr := { fieldRst := false, coreRst := false } })
     let c := s.chip
     let n := k.val
     let up := c.fieldUp = true
     let tc := c.tc n
     let mode := c.tcMode n
     (up) ∧ (
     (mode = 2) ∧ (
     (tc = 2)))) ∧
    (
     let k : Fin 5 := 0
     let s : State := st ({ chip [] [] [(Reg.CUFF_STAT_TC_STATE 0, 5)] with pwr := { fieldRst := false, coreRst := false } })
     let c := s.chip
     let n := k.val
     let up := c.fieldUp = true
     let tc := c.tc n
     let mode := c.tcMode n
     (up) ∧ (
     (mode = 2) ∧ (
     (tc = 5)))) ∧
    (
     let k : Fin 5 := 0
     let s : State := st (chip)
     let c := s.chip
     let n := k.val
     let tc := c.tc n
     let mode := c.tcMode n
     (mode ≠ 2 ∨ (tc ≠ 2 ∧ tc ≠ 5))) ∧
    (
     let k : Fin 5 := 0
     let s : State := st ({ chip [] [] [(Reg.CUFF_STAT_SWAP 0, 2), (Reg.CUFF_STAT_TC_STATE 0, 4)] with pwr := { fieldRst := false, coreRst := false } })
     let c := s.chip
     let n := k.val
     let x := c.cuff n
     let up := c.fieldUp = true
     let tc := c.tc n
     let win := c.lvB (Reg.CUFF_STAT_SWAP n)
     (up) ∧ (
     (tc = 4) ∧ (
     (win = false) ∧ (
     (x.hr ≠ 3))))) := by
  refine ⟨?_, ?_, ?_, ?_, ?_, ?_, ?_, ?_, ?_, ?_, ?_, ?_, ?_, ?_, ?_, ?_⟩ <;> dsimp only <;> decide +kernel

/-- Witnesses of the hypotheses of Obligations.CuffEventResults (part 3). -/
theorem meets_CuffEventResults_3 :
    (
     let k : Fin 5 := 0
     let s : State := st (chip)
     let c := s.chip
     let n := k.val
     let x := c.cuff n
     let tc := c.tc n
     let win := c.lvB (Reg.CUFF_STAT_SWAP n)
     (tc ≠ 4 ∨ win = true ∨ (x.hr = 3 ∧ c.hrBusy n = true))) ∧
    (
     let k : Fin 5 := 0
     let s : State := st (chip)
     let c := s.chip
     let n := k.val
     let up := c.fieldUp = true
     let hears := up ∧ c.lvB (Reg.CUFF_STAT_RX_ON n) = true ∧ c.attached n = true
     (¬hears)) ∧
    (
     let k : Fin 5 := 0
     let m : PdMessage := ⟨0, [77, 14]⟩
     let s : State := st ({ chip [] [] [(Reg.CUFF_STAT_RX_ON 0, 3), (Reg.CUFF_STAT_TC_STATE 0, 7)] with pwr := { fieldRst := false, coreRst := false }, cuffs := [(0, { txWait := false })] })
     let c := s.chip
     let n := k.val
     let x := c.cuff n
     let up := c.fieldUp = true
     let id_ := (pdHeader m.bytes).2.2
     let x1 : Cuff := if isSoftReset m.bytes = true then { x with txId := x.txId.put 0 m.sop.val 0, rxId := x.rxId.put 0 m.sop.val 0 } else x
     let hears := up ∧ c.lvB (Reg.CUFF_STAT_RX_ON n) = true ∧ c.attached n = true
     (hears) ∧ (
     (x.txRes ≠ 1 ∨ x.txWait = false) ∧ (
     (x.rx.length < 4) ∧ (
     (x1.rxId.get 0 m.sop.val ≠ id_ + 1) ∧ (
     (cable5A m.sop.val m.bytes = false)))))) ∧
    (
     let k : Fin 5 := 0
     let m : PdMessage := ⟨1, [0x0F, 0x50, 0x41, 0x80, 0x00, 0xFF, 0, 0, 0, 0, 0, 0, 0, 0, 0, 0, 0, 0, 0x40, 0, 0, 0]⟩
     let s : State := st (chip [] [] [(Reg.CUFF_STAT_RX_ON 0, 1), (Reg.CUFF_STAT_TC_STATE 0, 7)])
     let c := s.chip
     let n := k.val
     let x := c.cuff n
     let up := c.fieldUp = true
     let id_ := (pdHeader m.bytes).2.2
     let x1 : Cuff := if isSoftReset m.bytes = true then { x with txId := x.txId.put 0 m.sop.val 0, rxId := x.rxId.put 0 m.sop.val 0 } else x
     let hears := up ∧ c.lvB (Reg.CUFF_STAT_RX_ON n) = true ∧ c.attached n = true
     (hears) ∧ (
     (x.txRes ≠ 1 ∨ x.txWait = false) ∧ (
     (x.rx.length < 4) ∧ (
     (x1.rxId.get 0 m.sop.val ≠ id_ + 1) ∧ (
     (cable5A m.sop.val m.bytes = true)))))) ∧
    (
     let k : Fin 5 := 0
     let m : PdMessage := ⟨0, [97, 16]⟩
     let s : State := st ({ chip [] [] [(Reg.CUFF_STAT_RX_ON 0, 5), (Reg.CUFF_STAT_TC_STATE 0, 4)] with pwr := { fieldRst := false, coreRst := false }, cuffs := [(0, { rx := [(9, 33 :: [])], rxId := [(0, 1)], txRes := 31 })] })
     let c := s.chip
     let n := k.val
     let x := c.cuff n
     let up := c.fieldUp = true
     let id_ := (pdHeader m.bytes).2.2
     let x1 : Cuff := if isSoftReset m.bytes = true then { x with txId := x.txId.put 0 m.sop.val 0, rxId := x.rxId.put 0 m.sop.val 0 } else x
     let hears := up ∧ c.lvB (Reg.CUFF_STAT_RX_ON n) = true ∧ c.attached n = true
     (hears) ∧ (
     (x.txRes ≠ 1 ∨ x.txWait = false) ∧ (
     (x.rx.length < 4) ∧ (
     (x1.rxId.get 0 m.sop.val = id_ + 1))))) ∧
    (
     let k : Fin 5 := 0
     let s : State := st ((chip [] [] [(Reg.CUFF_STAT_RX_ON 0, 1), (Reg.CUFF_STAT_TC_STATE 0, 7)]).setCuff 0 { rx := List.replicate 4 (0, [0, 0]) })
     let c := s.chip
     let n := k.val
     let x := c.cuff n
     let up := c.fieldUp = true
     let hears := up ∧ c.lvB (Reg.CUFF_STAT_RX_ON n) = true ∧ c.attached n = true
     (hears) ∧ (
     (x.txRes ≠ 1 ∨ x.txWait = false) ∧ (
     (4 ≤ x.rx.length)))) ∧
    (
     let k : Fin 5 := 0
     let s : State := st ({ chip with pwr := { fieldRst := false, coreRst := false }, cuffs := [(0, { txRes := 1, txWait := true })] })
     let c := s.chip
     let n := k.val
     let x := c.cuff n
     let up := c.fieldUp = true
     (up) ∧ (
     (x.txRes = 1) ∧ (
     (x.txWait = true)))) ∧
    (
     let k : Fin 5 := 0
     let s : State := st (chip)
     let c := s.chip
     let n := k.val
     let x := c.cuff n
     (x.txRes ≠ 1 ∨ x.txWait = false)) ∧
    (
     let k : Fin 5 := 0
     let s : State := st ({ chip with pwr := { fieldRst := false, coreRst := false }, cuffs := [(0, { txRes := 1, retries := 5 })] })
     let c := s.chip
     let n := k.val
     let x := c.cuff n
     let up := c.fieldUp = true
     let sending := x.txRes = 1 ∧ x.txWait = false
     (up) ∧ (
     (sending) ∧ (
     (0 < x.retries)))) ∧
    (
     let k : Fin 5 := 0
     let s : State := st ({ chip with pwr := { fieldRst := false, coreRst := false }, cuffs := [(0, { txRes := 1 })] })
     let c := s.chip
     let n := k.val
     let x := c.cuff n
     let up := c.fieldUp = true
     let sending := x.txRes = 1 ∧ x.txWait = false
     (up) ∧ (
     (sending) ∧ (
     (x.retries = 0)))) ∧
    (
     let k : Fin 5 := 0
     let s : State := st (chip)
     let c := s.chip
     let n := k.val
     let x := c.cuff n
     let sending := x.txRes = 1 ∧ x.txWait = false
     (¬sending)) ∧
    (
     let k : Fin 5 := 0
     let s : State := st ({ chip [] [] [(Reg.CUFF_STAT_TC_STATE 0, 7)] with pwr := { fieldRst := false, coreRst := false } })
     let c := s.chip
     let n := k.val
     let up := c.fieldUp = true
     (up) ∧ (
     (c.attached n = true) ∧ (
     (c.lvB (Reg.CUFF_STAT_RX_ON n) = false)))) ∧
    (
     let k : Fin 5 := 0
     let s : State := st (chip [] [] [(Reg.CUFF_STAT_TC_STATE 0, 4), (Reg.CUFF_STAT_RX_ON 0, 1)])
     let c := s.chip
     let n := k.val
     let up := c.fieldUp = true
     (up) ∧ (
     (c.attached n = true) ∧ (
     (c.lvB (Reg.CUFF_STAT_RX_ON n) = true)))) ∧
    (
     let k : Fin 5 := 0
     let s : State := st (chip)
     let c := s.chip
     let n := k.val
     (c.attached n = false)) ∧
    (
     let k : Fin 5 := 0
     let s : State := st ({ chip with pwr := { fieldRst := false, coreRst := false }, cuffs := [(0, { hr := 1 })] })
     let c := s.chip
     let n := k.val
     let x := c.cuff n
     let up := c.fieldUp = true
     (up) ∧ (
     (x.hr = 1))) ∧
    (
     let k : Fin 5 := 0
     let s : State := st (chip)
     let c := s.chip
     let n := k.val
     let x := c.cuff n
     (x.hr ≠ 1)) := by
  refine ⟨?_, ?_, ?_, ?_, ?_, ?_, ?_, ?_, ?_, ?_, ?_, ?_, ?_, ?_, ?_, ?_⟩ <;> dsimp only <;> decide +kernel

/-- Witnesses of the hypotheses of Obligations.CuffEventResults (part 4). -/
theorem meets_CuffEventResults_4 :
    (
     let k : Fin 5 := 0
     let s : State := st ({ chip [(Reg.CUFF_STAT_VCONN 0, 4)] [] [(Reg.CUFF_STAT_POLICY 0, 1)] with pwr := { fieldRst := false, coreRst := false }, cuffs := [(0, { hr := 2, hrOff := true })], fuseReq := 3 })
     let c := s.chip
     let n := k.val
     let x := c.cuff n
     let up := c.fieldUp = true
     (up) ∧ (
     (x.hr = 2) ∧ (
     let u := ((c.fieldTimeTo (x.hrAt + 830000000)).hrEnd n).vconnAuto n
     (u.policyShown n = 1)))) ∧
    (
     let k : Fin 5 := 0
     let s : State := st ({ chip [(Reg.CUFF_STAT_VCONN 0, 5)] with pwr := { fieldRst := false, coreRst := false }, cuffs := [(0, { hr := 2 })] })
     let c := s.chip
     let n := k.val
     let x := c.cuff n
     let up := c.fieldUp = true
     (up) ∧ (
     (x.hr = 2) ∧ (
     let u := ((c.fieldTimeTo (x.hrAt + 830000000)).hrEnd n).vconnAuto n
     (u.policyShown n ≠ 1)))) ∧
    (
     let k : Fin 5 := 0
     let s : State := st (chip)
     let c := s.chip
     let n := k.val
     let x := c.cuff n
     (x.hr ≠ 2)) ∧
    (
     let k : Fin 5 := 0
     let s : State := st ({ chip with pwr := { fieldRst := false, coreRst := false }, cuffs := [(0, { hr := 3 })] })
     let c := s.chip
     let n := k.val
     let x := c.cuff n
     let up := c.fieldUp = true
     (up) ∧ (
     (x.hr = 3))) ∧
    (
     let k : Fin 5 := 0
     let s : State := st (chip)
     let c := s.chip
     let n := k.val
     let x := c.cuff n
     (x.hr ≠ 3)) ∧
    (
     let k : Fin 5 := 0
     let s : State := st ({ chip with pwr := { fieldRst := false, coreRst := false }, cuffs := [(0, { target := 16, ramping := true })] })
     let c := s.chip
     let n := k.val
     let x := c.cuff n
     let up := c.fieldUp = true
     let v := c.lv (Reg.CUFF_VBUS_CODE n)
     (up) ∧ (
     (x.ramping = true) ∧ (
     (v < x.target)))) ∧
    (
     let k : Fin 5 := 0
     let s : State := st ({ chip [] [] [(Reg.CUFF_VBUS_CODE 0, 7)] with pwr := { fieldRst := false, coreRst := false }, cuffs := [(0, { target := 0, ramping := true })] })
     let c := s.chip
     let n := k.val
     let x := c.cuff n
     let up := c.fieldUp = true
     let v := c.lv (Reg.CUFF_VBUS_CODE n)
     (up) ∧ (
     (x.ramping = true) ∧ (
     (x.target < v)))) ∧
    (
     let k : Fin 5 := 0
     let s : State := st (chip)
     let c := s.chip
     let n := k.val
     let x := c.cuff n
     (x.ramping = false)) ∧
    (
     let k : Fin 5 := 0
     let mA : Nat := 1000
     let s : State := st (chip [] [] [(Reg.FUSE_STAT_STATE 0, 1), (Reg.CUFF_STAT_CONTRACT 0, 1), (Reg.CUFF_CONTRACT 0, 0x200000 + 100 * 2048)])
     let c := s.chip
     let n := k.val
     let up := c.fieldUp = true
     let con := c.lv (Reg.CUFF_CONTRACT n)
     let limit := 10 * bits con 20 11
     (up) ∧ (
     (c.lvB (Reg.CUFF_STAT_CONTRACT n) = true) ∧ (
     (Sys2Proof.Machine.bit con 21 = true) ∧ (
     (c.fuseClosed n = true) ∧ (
     (limit ≤ mA)))))) ∧
    (
     let k : Fin 5 := 0
     let mA : Nat := 950
     let s : State := st ((chip [] [] [(Reg.FUSE_STAT_STATE 0, 3), (Reg.CUFF_STAT_CONTRACT 0, 1), (Reg.CUFF_CONTRACT 0, 0x200000 + 100 * 2048)]).setCuff 0 { target := 1 })
     let c := s.chip
     let n := k.val
     let x := c.cuff n
     let up := c.fieldUp = true
     let v := c.lv (Reg.CUFF_VBUS_CODE n)
     let con := c.lv (Reg.CUFF_CONTRACT n)
     let limit := 10 * bits con 20 11
     (up) ∧ (
     (c.lvB (Reg.CUFF_STAT_CONTRACT n) = true) ∧ (
     (Sys2Proof.Machine.bit con 21 = true) ∧ (
     (c.fuseClosed n = true) ∧ (
     (mA < limit) ∧ (
     (100 * mA ≤ 95 * limit) ∧ (
     (v < x.target)))))))) ∧
    (
     let k : Fin 5 := 0
     let mA : Nat := 951
     let s : State := st (chip [] [] [(Reg.FUSE_STAT_STATE 0, 1), (Reg.CUFF_STAT_CONTRACT 0, 1), (Reg.CUFF_CONTRACT 0, 0x200000 + 100 * 2048)])
     let c := s.chip
     let n := k.val
     let x := c.cuff n
     let up := c.fieldUp = true
     let v := c.lv (Reg.CUFF_VBUS_CODE n)
     let con := c.lv (Reg.CUFF_CONTRACT n)
     let limit := 10 * bits con 20 11
     (up) ∧ (
     (c.lvB (Reg.CUFF_STAT_CONTRACT n) = true) ∧ (
     (Sys2Proof.Machine.bit con 21 = true) ∧ (
     (c.fuseClosed n = true) ∧ (
     (mA < limit) ∧ (
     (95 * limit < 100 * mA ∨ x.target ≤ v))))))) ∧
    (
     let k : Fin 5 := 0
     let s : State := st (chip)
     let c := s.chip
     let n := k.val
     let con := c.lv (Reg.CUFF_CONTRACT n)
     (c.lvB (Reg.CUFF_STAT_CONTRACT n) = false ∨ Sys2Proof.Machine.bit con 21 = false ∨ c.fuseClosed n = false)) ∧
    (
     let k : Fin 5 := 0
     let s : State := st (chip)
     let c := s.chip
     let n := k.val
     let win := c.lvB (Reg.CUFF_STAT_SWAP n)
     (win = false)) ∧
    (
     let s : State := st (chip)
     let c := s.chip
     let up := c.fieldUp = true
     (up) ∧ (
     ((∀ i : Nat, i < 5 → (c.setLv Reg.CUFF_FRS_STAT 1).lvB (Reg.CUFF_STAT_FRS_ARMED i) = false)))) ∧
    (
     let k : Fin 5 := 0
     let s : State := st (chip.setCuff 0 { frsLow := true })
     let c := s.chip
     let n := k.val
     let x := c.cuff n
     let up := c.fieldUp = true
     (up) ∧ (
     (x.frsLow = true))) ∧
    (
     let k : Fin 5 := 0
     let s : State := st (chip)
     let c := s.chip
     let n := k.val
     let x := c.cuff n
     (x.frsLow = false)) := by
  refine ⟨?_, ?_, ?_, ?_, ?_, ?_, ?_, ?_, ?_, ?_, ?_, ?_, ?_, ?_, ?_, ?_⟩ <;> dsimp only <;> decide +kernel

/-- Witnesses of the hypotheses of Obligations.CuffEventResults (part 5). -/
theorem meets_CuffEventResults_5 :
    (
     let k : Fin 5 := 0
     let s : State := st ({ chip [(Reg.ENG_STAT_STATE 0, 1)] [(Reg.ENG_CLAIM_FIRST 0, 4)] [(Reg.CUFF_STAT_POLICY 0, 1)] with pwr := { fieldRst := false, coreRst := false } })
     let c := s.chip
     let n := k.val
     let up := c.fieldUp = true
     (up) ∧ (
     (c.policyShown n = 1) ∧ (
     (c.cuffPolicy n ≠ 1)))) ∧
    (
     let k : Fin 5 := 0
     let s : State := st (chip)
     let c := s.chip
     let n := k.val
     (c.policyShown n ≠ 1 ∨ c.cuffPolicy n = 1)) ∧
    (
     let k : Fin 5 := 0
     let s : State := st ((firmCuff chip).setLv (Reg.CUFF_STAT_POLICY 0) 2)
     let c := s.chip
     let n := k.val
     let up := c.fieldUp = true
     (up) ∧ (
     (c.policyShown n ≠ 1) ∧ (
     (c.cuffPolicy n = 1)))) ∧
    (
     let k : Fin 5 := 0
     let s : State := st (chip)
     let c := s.chip
     let n := k.val
     (c.policyShown n = 1 ∨ c.cuffPolicy n ≠ 1)) ∧
    (
     let k : Fin 5 := 0
     let s : State := st ({ chip [(Reg.ENG_STAT_STATE 0, 1)] [(Reg.ENG_CLAIM_FIRST 0, 4)] [(Reg.CUFF_STAT_POLICY 0, 1)] with pwr := { fieldRst := false, coreRst := false } })
     let c := s.chip
     let n := k.val
     let up := c.fieldUp = true
     let wdog := c.fwk (Reg.CUFF_POL_WDOG_MS n)
     (up) ∧ (
     (c.policyShown n = 1) ∧ (
     (wdog ≠ 0)))) ∧
    (
     let k : Fin 5 := 0
     let s : State := st (chip)
     let c := s.chip
     let n := k.val
     let wdog := c.fwk (Reg.CUFF_POL_WDOG_MS n)
     (c.policyShown n ≠ 1 ∨ wdog = 0)) ∧
    (
     let k : Fin 5 := 0
     let code : BitVec 4 := 5
     let s : State := st (chip)
     let c := s.chip
     let n := k.val
     let x := c.cuff n
     let up := c.fieldUp = true
     (up) ∧ (
     ((code.toNat = 1 ∧ x.srcOn = true) ∨ code.toNat = 5))) ∧
    (
     let code : BitVec 4 := 2
     let s : State := st (chip)
     let c := s.chip
     let up := c.fieldUp = true
     (up) ∧ (
     (code.toNat = 2))) ∧
    (
     let code : BitVec 4 := 3
     let s : State := st (chip)
     let c := s.chip
     let up := c.fieldUp = true
     (up) ∧ (
     (code.toNat = 3))) ∧
    (
     let code : BitVec 4 := 4
     let s : State := st (chip)
     let c := s.chip
     let up := c.fieldUp = true
     (up) ∧ (
     (code.toNat = 4))) ∧
    (
     let k : Fin 5 := 0
     let code : BitVec 4 := 0
     let s : State := st (chip)
     let c := s.chip
     let n := k.val
     let x := c.cuff n
     (code.toNat = 0 ∨ 5 < code.toNat ∨ (code.toNat = 1 ∧ x.srcOn = false))) ∧
    (
     let k : Fin 5 := 0
     let r : Requester := .gate
     let s : State := st (chip)
     let c := s.chip
     let n := k.val
     (c.takes r (Reg.CUFF_CTL_ENABLE n).addr = true) ∧ (
     (c.active (32 + n) = true))) ∧
    (
     let k : Fin 5 := 0
     let r : Requester := .mgmt
     let s : State := st (chip [(Reg.FLASK_FSTAT_STATE 32, 7)])
     let c := s.chip
     let n := k.val
     (c.takes r (Reg.CUFF_CTL_ENABLE n).addr = true) ∧ (
     (c.active (32 + n) = false))) ∧
    (
     let k : Fin 5 := 0
     let r : Requester := .gate
     let s : State := st (chip)
     let c := s.chip
     let n := k.val
     (c.takes r (Reg.CUFF_CTL_DISABLE n).addr = true)) ∧
    (
     let s : State := st ({ chip with pwr := { fieldRst := true, coreRst := false } })
     let c := s.chip
     (c.fieldUp = false)) := by
  refine ⟨?_, ?_, ?_, ?_, ?_, ?_, ?_, ?_, ?_, ?_, ?_, ?_, ?_, ?_, ?_⟩ <;> dsimp only <;> decide +kernel

/-- Witnesses of the hypotheses of Obligations.ChannelResults (part 1). -/
theorem meets_ChannelResults_1 :
    (
     let ch : Fin 10 := 0
     let vout : BitVec 16 := 0
     let n := ch.val
     let v := vout.toNat
     (v < (if n < 9 then 80 else 100))) ∧
    (
     let ch : Fin 10 := 9
     let vout : BitVec 16 := 53721
     let s : State := st (chip)
     let c := s.chip
     let n := ch.val
     let v := vout.toNat
     let x := c.fuseCh n
     ((if n < 9 then 80 else 100) ≤ v) ∧ (
     (x.held = false) ∧ (
     (n = 9)))) ∧
    (
     let ch : Fin 10 := 5
     let vout : BitVec 16 := 48768
     let s : State := st (chip)
     let c := s.chip
     let n := ch.val
     let v := vout.toNat
     let x := c.fuseCh n
     ((if n < 9 then 80 else 100) ≤ v) ∧ (
     (x.held = false) ∧ (
     (5 ≤ n) ∧ (
     (n < 9))))) ∧
    (
     let ch : Fin 10 := 4
     let vout : BitVec 16 := 38210
     let s : State := st (chip)
     let c := s.chip
     let n := ch.val
     let v := vout.toNat
     let x := c.fuseCh n
     ((if n < 9 then 80 else 100) ≤ v) ∧ (
     (n < 5 ∨ (n = 9 ∧ x.held = true)))) ∧
    (
     let ch : Fin 10 := 9
     let s : State := st ({ chip with seam := { safeOut := 52 }, pwr := { phase := .up, fieldRst := false, trOrder := true, coreRst := false }, warden := { laneFence := 100, laneHold := 16 }, fuse := [(1, { low := true })] })
     let c := s.chip
     let n := ch.val
     let x := c.fuseCh n
     let st := c.fuseState n
     let up := c.fieldUp = true
     let en := c.fuseEnable n = true
     let held_ := c.trunkHeld n
     (up) ∧ (
     (held_ = false) ∧ (
     (en) ∧ (
     (x.hot = false) ∧ (
     (x.rev = false) ∧ (
     (st = 0 ∨ (st = 5 ∧ x.low = true)))))))) ∧
    (
     let ch : Fin 10 := 0
     let s : State := st (chip)
     let c := s.chip
     let n := ch.val
     let x := c.fuseCh n
     let st := c.fuseState n
     let en := c.fuseEnable n = true
     let held_ := c.trunkHeld n
     (held_ = true ∨ ¬en ∨ x.hot = true ∨ x.rev = true ∨ (st ≠ 0 ∧ (st ≠ 5 ∨ x.low = false)))) ∧
    (
     let ch : Fin 10 := 0
     let s : State := st (chip)
     let c := s.chip
     let n := ch.val
     let st := c.fuseState n
     let up := c.fieldUp = true
     let en := c.fuseEnable n = true
     (up) ∧ (
     (¬en) ∧ (
     (st ≠ 4) ∧ (
     (st ≠ 5))))) ∧
    (
     let ch : Fin 10 := 0
     let s : State := st ({ chip [] [] [(Reg.FUSE_STAT_STATE 0, 5)] with pwr := { fieldRst := false, coreRst := false }, warden := { laneFence := 0 } })
     let c := s.chip
     let n := ch.val
     let st := c.fuseState n
     let up := c.fieldUp = true
     let en := c.fuseEnable n = true
     let hasPort := n < 4 ∨ (5 ≤ n ∧ n < 9)
     (up) ∧ (
     (¬en) ∧ (
     (st = 5) ∧ (
     (hasPort))))) ∧
    (
     let ch : Fin 10 := 4
     let s : State := st (chip [] [] [(Reg.FUSE_STAT_STATE 4, 5)])
     let c := s.chip
     let n := ch.val
     let st := c.fuseState n
     let up := c.fieldUp = true
     let en := c.fuseEnable n = true
     let hasPort := n < 4 ∨ (5 ≤ n ∧ n < 9)
     (up) ∧ (
     (¬en) ∧ (
     (st = 5) ∧ (
     (¬hasPort))))) ∧
    (
     let ch : Fin 10 := 0
     let s : State := st ({ chip [] [] [(Reg.FUSE_STAT_STATE 0, 5)] with pwr := { phase := .failed, trOrder := false, trunkOff := false, coreRst := false, fieldRst := false }, warden := { laneHold := 1 }, cuffs := [(0, { srcOn := true })], fuseReq := 3 })
     let c := s.chip
     let n := ch.val
     let st := c.fuseState n
     let en := c.fuseEnable n = true
     (en ∨ st = 4)) ∧
    (
     let ch : Fin 10 := 0
     let vout : BitVec 16 := 5
     let s : State := st ({ chip [(Reg.CLK_STATUS_SYNC, 1), (Reg.CHAIN_STAT_ROLE, 80)] with seam := { safeOut := 0 }, pwr := { phase := .up, fieldRst := false, trOrder := true, trunkOff := true, coreRst := false }, warden := { laneFence := 52, laneHold := 3 }, fuse := [(0, { held := true })], cuffs := [(0, { srcOn := true })], fuseReq := 31 })
     let c := s.chip
     let n := ch.val
     let v := vout.toNat
     let x := c.fuseCh n
     let st := c.fuseState n
     let up := c.fieldUp = true
     let en := c.fuseEnable n = true
     let held_ := c.trunkHeld n
     (up) ∧ (
     (held_ = false) ∧ (
     (x.held = true) ∧ (
     (v < (if n < 9 then 80 else 100)) ∧ (
     (en) ∧ (
     (st = 0 ∨ st = 6))))))) ∧
    (
     let ch : Fin 10 := 0
     let vout : BitVec 16 := 0
     let s : State := st (chip)
     let c := s.chip
     let n := ch.val
     let v := vout.toNat
     let x := c.fuseCh n
     let st := c.fuseState n
     let en := c.fuseEnable n = true
     let held_ := c.trunkHeld n
     (held_ = true ∨ x.held = false ∨ (if n < 9 then 80 else 100) ≤ v ∨ ¬en ∨ (st ≠ 0 ∧ st ≠ 6))) ∧
    (
     let ch : Fin 10 := 0
     let s : State := st ({ chip [] [] [(Reg.FUSE_STAT_STATE 0, 1)] with pwr := { fieldRst := false, coreRst := false } })
     let c := s.chip
     let n := ch.val
     let st := c.fuseState n
     let up := c.fieldUp = true
     (up) ∧ (
     (st = 1) ∧ (
     (n < 9)))) ∧
    (
     let ch : Fin 10 := 9
     let s : State := st ({ chip [] [] [(Reg.FUSE_STAT_STATE 9, 1)] with pwr := { fieldRst := false, coreRst := false } })
     let c := s.chip
     let n := ch.val
     let st := c.fuseState n
     let up := c.fieldUp = true
     (up) ∧ (
     (st = 1) ∧ (
     (n = 9)))) ∧
    (
     let ch : Fin 10 := 0
     let s : State := st (chip)
     let c := s.chip
     let n := ch.val
     let st := c.fuseState n
     (st ≠ 1)) ∧
    (
     let s : State := st ({ chip [] [] [(Reg.FUSE_STAT_STATE 9, 1)] with pwr := { fieldRst := false, coreRst := false } })
     let c := s.chip
     let up := c.fieldUp = true
     (up) ∧ (
     (c.fuseState 9 = 1))) := by
  refine ⟨?_, ?_, ?_, ?_, ?_, ?_, ?_, ?_, ?_, ?_, ?_, ?_, ?_, ?_, ?_, ?_⟩ <;> dsimp only <;> decide +kernel

/-- Witnesses of the hypotheses of Obligations.ChannelResults (part 2). -/
theorem meets_ChannelResults_2 :
    (
     let s : State := st (chip)
     let c := s.chip
     (c.fuseState 9 ≠ 1)) ∧
    (
     let ch : Fin 10 := 0
     let s : State := st ({ chip [] [] [(Reg.FUSE_STAT_STATE 0, 2)] with pwr := { fieldRst := false, coreRst := false } })
     let c := s.chip
     let n := ch.val
     let up := c.fieldUp = true
     let closed := c.fuseClosed n = true
     (up) ∧ (
     (closed) ∧ (
     (n < 9)))) ∧
    (
     let ch : Fin 10 := 0
     let s : State := st (chip)
     let c := s.chip
     let n := ch.val
     let closed := c.fuseClosed n = true
     (¬closed)) ∧
    (
     let ch : Fin 10 := 9
     let n := ch.val
     (n = 9)) ∧
    (
     let s : State := st ({ chip [] [] [(Reg.FUSE_STAT_STATE 9, 2)] with pwr := { fieldRst := false, coreRst := false } })
     let c := s.chip
     let up := c.fieldUp = true
     (up) ∧ (
     (c.fuseClosed 9 = true))) ∧
    (
     let s : State := st (chip)
     let c := s.chip
     (c.fuseClosed 9 = false)) ∧
    (
     let ch : Fin 10 := 0
     let n := ch.val
     let hasPort := n < 4 ∨ (5 ≤ n ∧ n < 9)
     (hasPort)) ∧
    (
     let ch : Fin 10 := 4
     let n := ch.val
     (n = 4)) ∧
    (
     let ch : Fin 10 := 9
     let n := ch.val
     (n = 9)) ∧
    (
     let h : Fin 4 := 0
     let s : State := st ({ chip [] [] [(Reg.FUSE_STAT_STATE 5, 2)] with pwr := { fieldRst := false, coreRst := false } })
     let c := s.chip
     let up := c.fieldUp = true
     let p := 5 + h.val
     (up) ∧ (
     (c.fuseClosed p = true))) ∧
    (
     let h : Fin 4 := 0
     let s : State := st (chip)
     let c := s.chip
     let p := 5 + h.val
     (c.fuseClosed p = false)) ∧
    (
     let h : Fin 4 := 0
     let s : State := st ({ chip with pwr := { phase := .gap, fieldRst := false, coreRst := false }, warden := { laneFence := 0 }, fuse := [(5, { rev := true })], cuffs := [(0, { srcOn := false })], fuseReq := 52 })
     let c := s.chip
     let up := c.fieldUp = true
     let p := 5 + h.val
     let back := c.setFuse p { c.fuseCh p with rev := false }
     (up) ∧ (
     ((c.fuseCh p).rev = true) ∧ (
     (back.fuseMay p = true)))) ∧
    (
     let h : Fin 4 := 0
     let s : State := st ({ chip [] [(Reg.FUSE_STAT_EN 0, 3)] [(Reg.FUSE_STAT_STATE 0, 2)] with seam := { safeOut := 1 }, pwr := { phase := .gap, fieldRst := false, trOrder := false, coreRst := false }, warden := { laneHold := 7 }, fuse := [(5, { low := false, hot := true, rev := true })] })
     let c := s.chip
     let up := c.fieldUp = true
     let p := 5 + h.val
     let back := c.setFuse p { c.fuseCh p with rev := false }
     (up) ∧ (
     ((c.fuseCh p).rev = true) ∧ (
     (back.fuseMay p = false)))) ∧
    (
     let h : Fin 4 := 0
     let s : State := st (chip)
     let c := s.chip
     let p := 5 + h.val
     ((c.fuseCh p).rev = false)) ∧
    (
     let ch : Fin 10 := 0
     let s : State := st ({ chip [] [(Reg.FUSE_STAT_EN 0, 4)] [(Reg.FUSE_STAT_STATE 0, 0)] with seam := { safeOut := 0 }, pwr := { phase := .por, fieldRst := false, trunkOff := false, coreRst := false }, warden := { laneFence := 4 }, fuse := [(0, { hot := true })], cuffs := [(0, { srcOn := true })], fuseReq := 1 })
     let c := s.chip
     let n := ch.val
     let x := c.fuseCh n
     let up := c.fieldUp = true
     let cool := c.setFuse n { x with hot := false }
     (up) ∧ (
     (n < 9) ∧ (
     (x.hot = true) ∧ (
     (cool.fuseMay n = true))))) ∧
    (
     let ch : Fin 10 := 0
     let s : State := st ({ chip [] [] [(Reg.FUSE_STAT_STATE 0, 1)] with pwr := { phase := .standby, fieldRst := false, trOrder := true, coreRst := false }, warden := { laneHold := 0 }, fuse := [(0, { hot := true, rev := true })] })
     let c := s.chip
     let n := ch.val
     let x := c.fuseCh n
     let up := c.fieldUp = true
     let cool := c.setFuse n { x with hot := false }
     (up) ∧ (
     (n < 9) ∧ (
     (x.hot = true) ∧ (
     (cool.fuseMay n = false))))) := by
  refine ⟨?_, ?_, ?_, ?_, ?_, ?_, ?_, ?_, ?_, ?_, ?_, ?_, ?_, ?_, ?_, ?_⟩ <;> dsimp only <;> decide +kernel

/-- Witnesses of the hypotheses of Obligations.ChannelResults (part 3). -/
theorem meets_ChannelResults_3 :
    (
     let ch : Fin 10 := 0
     let s : State := st (chip)
     let c := s.chip
     let n := ch.val
     let x := c.fuseCh n
     (n = 9 ∨ x.hot = false)) ∧
    (
     let ch : Fin 10 := 9
     let s : State := st ({ chip [] [(Reg.FUSE_POLICY_MODE 9, 0)] [(Reg.FUSE_STAT_STATE 9, 4)] with pwr := { fieldRst := false, coreRst := false } })
     let c := s.chip
     let n := ch.val
     let x := c.fuseCh n
     let st := c.fuseState n
     let up := c.fieldUp = true
     let w := c.fieldTimeTo x.due
     let hasPort := n < 4 ∨ (5 ≤ n ∧ n < 9)
     (up) ∧ (
     (st = 4) ∧ (
     (¬hasPort) ∧ (
     (w.fwkB (Reg.FUSE_POLICY_MODE n) = false))))) ∧
    (
     let ch : Fin 10 := 9
     let s : State := st ({ chip [] [(Reg.FUSE_ELEC_LIMIT 0, 5)] [(Reg.FUSE_STAT_STATE 9, 4)] with pwr := { fieldRst := false, trOrder := true, coreRst := false }, warden := { laneHold := 1 }, cuffs := [(9, { adv := 63 })], fuseReq := 16 })
     let c := s.chip
     let n := ch.val
     let x := c.fuseCh n
     let st := c.fuseState n
     let up := c.fieldUp = true
     let w := c.fieldTimeTo x.due
     let hasPort := n < 4 ∨ (5 ≤ n ∧ n < 9)
     (up) ∧ (
     (st = 4) ∧ (
     (¬hasPort) ∧ (
     (w.fwkB (Reg.FUSE_POLICY_MODE n) = true) ∧ (
     let u := ((w.setLv (Reg.FUSE_STAT_STATE n) 0).setFuse n { w.fuseCh n with waited := true }).fuseSettle
     (u.fuseMay n = true)))))) ∧
    (
     let ch : Fin 10 := 4
     let s : State := st ({ chip [(Reg.FUSE_STAT_STATE 0, 7)] [(Reg.FUSE_POLICY_MODE 0, 3), (Reg.FUSE_STAT_EN 0, 0), (Reg.FUSE_ELEC_LIMIT 0, 0)] [(Reg.FUSE_STAT_STATE 4, 4), (Reg.CUFF_STAT_CONTRACT 0, 7), (Reg.CUFF_CONTRACT 0, 3)] with pwr := { fieldRst := false, trOrder := true, trunkOff := false, coreRst := false }, warden := { laneHold := 1 }, cuffs := [(0, { adv := 16 })], fuseReq := 5 })
     let c := s.chip
     let n := ch.val
     let x := c.fuseCh n
     let st := c.fuseState n
     let up := c.fieldUp = true
     let w := c.fieldTimeTo x.due
     let hasPort := n < 4 ∨ (5 ≤ n ∧ n < 9)
     (up) ∧ (
     (st = 4) ∧ (
     (¬hasPort) ∧ (
     (w.fwkB (Reg.FUSE_POLICY_MODE n) = true) ∧ (
     let u := ((w.setLv (Reg.FUSE_STAT_STATE n) 0).setFuse n { w.fuseCh n with waited := true }).fuseSettle
     (u.fuseMay n = false)))))) ∧
    (
     let ch : Fin 10 := 0
     let s : State := st ({ chip [] [(Reg.FUSE_POLICY_MODE 0, 0)] [(Reg.FUSE_STAT_STATE 0, 4)] with pwr := { fieldRst := false, coreRst := false } })
     let c := s.chip
     let n := ch.val
     let x := c.fuseCh n
     let st := c.fuseState n
     let up := c.fieldUp = true
     let w := c.fieldTimeTo x.due
     let port := if n < 4 then n + 1 else n
     let hasPort := n < 4 ∨ (5 ≤ n ∧ n < 9)
     (up) ∧ (
     (st = 4) ∧ (
     (hasPort) ∧ (
     let a := w.portTripGone port
     (a.fwkB (Reg.FUSE_POLICY_MODE n) = false))))) ∧
    (
     let ch : Fin 10 := 0
     let s : State := st ({ chip [(Reg.FUSE_STAT_STATE 0, 5), (Reg.CHAIN_STAT_ADDR_VALID, 0), (Reg.CHAIN_ADDR_STATION, 1), (Reg.CHAIN_ADDR_RING, 9), (Reg.HUB_STAT_EN, 3), (Reg.HUB_STAT_UP_STATE, 1)] [(Reg.FUSE_POLICY_MODE 0, 7), (Reg.HUB_PORT_CFG_AUTO_PWR 1, 2), (Reg.HUB_PORT_CFG_LOCK_OFF 0, 2), (Reg.WIDE_MAP_EN 4, 7), (Reg.WIDE_MAP_LPORT 0, 0), (Reg.WIDE_MAP_STATION 1, 3), (Reg.WIDE_MAP_RING 0, 1), (Reg.FUSE_STAT_EN 0, 8), (Reg.FUSE_ELEC_LIMIT 4, 9)] [(Reg.FUSE_STAT_STATE 0, 4), (Reg.CUFF_STAT_CONTRACT 9, 3), (Reg.CUFF_CONTRACT 0, 7)] with seam := { safeOut := 1 }, pwr := { phase := .gap, fieldRst := false, trOrder := false, trunkOff := false, coreRst := false }, warden := { laneHold := 5 }, test := { landsTaken := false }, hub := { ports := [(0, { phase := 1, tripped := true, test := 0 })] }, cuffs := [(0, { srcOn := true })] })
     let c := s.chip
     let n := ch.val
     let x := c.fuseCh n
     let st := c.fuseState n
     let up := c.fieldUp = true
     let w := c.fieldTimeTo x.due
     let port := if n < 4 then n + 1 else n
     let hasPort := n < 4 ∨ (5 ≤ n ∧ n < 9)
     (up) ∧ (
     (st = 4) ∧ (
     (hasPort) ∧ (
     let a := w.portTripGone port
     (a.fwkB (Reg.FUSE_POLICY_MODE n) = true) ∧ (
     let b := (a.setLv (Reg.FUSE_STAT_STATE n) 0).setFuse n { a.fuseCh n with waited := true }
     let d := (b.setHp port { b.hp port with tripped := false }).hubAuto
     let u := ({ d with fuseReq := if Sys2Proof.Machine.bit d.portPowerWord n then setBit d.fuseReq n else d.fuseReq }).fuseSettle
     (u.fuseMay n = true)))))) ∧
    (
     let ch : Fin 10 := 0
     let s : State := st ({ chip [(Reg.FUSE_POLICY_MODE 0, 1), (Reg.FUSE_STAT_STATE 0, 2), (Reg.HUB_STAT_EN, 9), (Reg.HUB_STAT_UP_STATE, 5)] [(Reg.HUB_PORT_CFG_LOCK_OFF 0, 2), (Reg.HUB_PORT_CFG_AUTO_PWR 0, 1)] [(Reg.FUSE_STAT_STATE 0, 4), (Reg.CUFF_STAT_CONTRACT 0, 7), (Reg.CUFF_CONTRACT 0, 8)] with seam := { safeOut := 4 }, pwr := { phase := .up, fieldRst := false, coreRst := false }, warden := { laneHold := 5 }, hub := { ports := [(0, { st := 0, tripped := false })] }, fuse := [(9, { low := true })], cuffs := [(9, { adv := 5, srcOn := false })] })
     let c := s.chip
     let n := ch.val
     let x := c.fuseCh n
     let st := c.fuseState n
     let up := c.fieldUp = true
     let w := c.fieldTimeTo x.due
     let port := if n < 4 then n + 1 else n
     let hasPort := n < 4 ∨ (5 ≤ n ∧ n < 9)
     (up) ∧ (
     (st = 4) ∧ (
     (hasPort) ∧ (
     let a := w.portTripGone port
     (a.fwkB (Reg.FUSE_POLICY_MODE n) = true) ∧ (
     let b := (a.setLv (Reg.FUSE_STAT_STATE n) 0).setFuse n { a.fuseCh n with waited := true }
     let d := (b.setHp port { b.hp port with tripped := false }).hubAuto
     let u := ({ d with fuseReq := if Sys2Proof.Machine.bit d.portPowerWord n then setBit d.fuseReq n else d.fuseReq }).fuseSettle
     (u.fuseMay n = false)))))) ∧
    (
     let ch : Fin 10 := 0
     let s : State := st (chip)
     let c := s.chip
     let n := ch.val
     let st := c.fuseState n
     (st ≠ 4)) ∧
    (
     let ch : Fin 10 := 0
     let s : State := st (chip [] [] [(Reg.FUSE_STAT_STATE 0, 2)])
     let c := s.chip
     let n := ch.val
     let closed := c.fuseClosed n = true
     (closed)) ∧
    (
     let ch : Fin 10 := 0
     let s : State := st (chip)
     let c := s.chip
     let n := ch.val
     let up := c.fieldUp = true
     let closed := c.fuseClosed n = true
     (up) ∧ (
     (¬closed) ∧ (
     (n < 5)))) ∧
    (
     let ch : Fin 10 := 6
     let s : State := st (chip)
     let c := s.chip
     let n := ch.val
     let up := c.fieldUp = true
     let closed := c.fuseClosed n = true
     (up) ∧ (
     (¬closed) ∧ (
     (5 ≤ n) ∧ (
     (n < 9))))) ∧
    (
     let ch : Fin 10 := 9
     let s : State := st (chip)
     let c := s.chip
     let n := ch.val
     let up := c.fieldUp = true
     let closed := c.fuseClosed n = true
     (up) ∧ (
     (¬closed) ∧ (
     (n = 9)))) ∧
    (
     let ch : Fin 10 := 0
     let r : Requester := .gate
     let s : State := st (chip)
     let c := s.chip
     let n := ch.val
     (c.takes r (Reg.FUSE_CTL_ENABLE n).addr = true) ∧ (
     (9 = n ∨ c.active (32 + n) = true))) ∧
    (
     let ch : Fin 10 := 0
     let r : Requester := .engine 0
     let s : State := st (chip [(Reg.FLASK_FSTAT_STATE 32, 2)])
     let c := s.chip
     let n := ch.val
     (c.takes r (Reg.FUSE_CTL_ENABLE n).addr = true) ∧ (
     (n < 9) ∧ (
     (c.active (32 + n) = false)))) ∧
    (
     let ch : Fin 10 := 0
     let r : Requester := .gate
     let s : State := st (chip)
     let c := s.chip
     let n := ch.val
     (c.takes r (Reg.FUSE_CTL_DISABLE n).addr = true)) ∧
    (
     let ch : Fin 10 := 9
     let r : Requester := .mgmt
     let s : State := st (chip [(Reg.FLASK_FSTAT_STATE 0, 0)] [] [(Reg.FUSE_STAT_STATE 9, 5)])
     let c := s.chip
     let n := ch.val
     (c.takes r (Reg.FUSE_CTL_REARM n).addr = true) ∧ (
     (n = 9) ∧ (
     (c.fuseState 9 = 5)))) := by
  refine ⟨?_, ?_, ?_, ?_, ?_, ?_, ?_, ?_, ?_, ?_, ?_, ?_, ?_, ?_, ?_, ?_⟩ <;> dsimp only <;> decide +kernel

/-- Witnesses of the hypotheses of Obligations.ChannelResults (part 4). -/
theorem meets_ChannelResults_4 :
    (
     let ch : Fin 10 := 0
     let r : Requester := .gate
     let s : State := st (chip)
     let c := s.chip
     let n := ch.val
     (c.takes r (Reg.FUSE_CTL_REARM n).addr = true) ∧ (
     (n ≠ 9 ∨ c.fuseState 9 ≠ 5))) ∧
    (
     let s : State := st ({ chip with pwr := { fieldRst := true, coreRst := false } })
     let c := s.chip
     (c.fieldUp = false)) := by
  refine ⟨?_, ?_⟩ <;> dsimp only <;> decide +kernel

/-- Witnesses of the hypotheses of Obligations.MeasurementAndDriverResults (part 1). -/
theorem meets_MeasurementAndDriverResults_1 :
    (
     let r : Requester := .engine 0
     let s : State := st (chip)
     let c := s.chip
     (c.takes r Reg.MEAS_AIN_ON.addr = true)) ∧
    (
     let r : Requester := .engine 0
     let s : State := st (chip)
     let c := s.chip
     (c.takes r Reg.MEAS_AIN_OFF.addr = true)) ∧
    (
     let r : Requester := .engine 0
     let s : State := st (chip)
     let c := s.chip
     let ctl := Reg.MEAS_CTL.addr
     (c.takes r ctl = true) ∧ (
     (c.active 45 = true))) ∧
    (
     let r : Requester := .mgmt
     let s : State := st (chip [(Reg.FLASK_FSTAT_STATE 45, 5)])
     let c := s.chip
     let ctl := Reg.MEAS_CTL.addr
     (c.takes r ctl = true) ∧ (
     (c.active 45 = false))) ∧
    (
     let r : Requester := .engine 0
     let s : State := st (chip)
     let c := s.chip
     let ctl := Reg.MEAS_CTL.addr
     (c.takes r ctl = true) ∧ (
     (c.active 46 = true))) ∧
    (
     let r : Requester := .mgmt
     let s : State := st (chip [(Reg.FLASK_FSTAT_STATE 46, 5)])
     let c := s.chip
     let ctl := Reg.MEAS_CTL.addr
     (c.takes r ctl = true) ∧ (
     (c.active 46 = false))) ∧
    (
     let r : Requester := .engine 0
     let s : State := st (chip)
     let c := s.chip
     let ctl := Reg.MEAS_CTL.addr
     (c.takes r ctl = true) ∧ (
     (c.active 47 = true) ∧ (
     (c.flag Reg.MEAS_STAT_BR_EN = false)))) ∧
    (
     let r : Requester := .mgmt
     let s : State := st (chip [(Reg.MEAS_STAT_BR_EN, 1)])
     let c := s.chip
     let ctl := Reg.MEAS_CTL.addr
     (c.takes r ctl = true) ∧ (
     (c.active 47 = true) ∧ (
     (c.flag Reg.MEAS_STAT_BR_EN = true)))) ∧
    (
     let r : Requester := .mgmt
     let s : State := st (chip [(Reg.FLASK_FSTAT_STATE 47, 5)])
     let c := s.chip
     let ctl := Reg.MEAS_CTL.addr
     (c.takes r ctl = true) ∧ (
     (c.active 47 = false))) ∧
    (
     let k : Fin 2 := 0
     let i : Fin 16 := 0
     let s : State := st (works [(measEn 0, 1), (Reg.MEAS_SEQ_REP_COUNT 0, 1)] (chip [(Reg.CLK_STATUS_SYNC, 2)]))
     let c := s.chip
     let up := c.fieldUp = true
     let sk := k.val
     let bursts := c.fwkB (measEn sk) = true ∧ c.steered = true ∧ c.measStopped sk = false ∧ i.val < c.fwk (Reg.MEAS_SEQ_REP_COUNT sk) ∧
     c.get Reg.SYS_PWR_STAT ≠ 1
     (up) ∧ (
     (bursts) ∧ (
     (c.occMeas = false)))) ∧
    (
     let k : Fin 2 := 1
     let i : Fin 16 := 0
     let s : State := st (testing 3 6 (works [(measEn 1, 1), (Reg.MEAS_SEQ_REP_COUNT 1, 1)] (chip [(Reg.CLK_STATUS_SYNC, 2)])))
     let c := s.chip
     let up := c.fieldUp = true
     let sk := k.val
     let bursts := c.fwkB (measEn sk) = true ∧ c.steered = true ∧ c.measStopped sk = false ∧ i.val < c.fwk (Reg.MEAS_SEQ_REP_COUNT sk) ∧
     c.get Reg.SYS_PWR_STAT ≠ 1
     (up) ∧ (
     (bursts) ∧ (
     (c.occMeas = true)))) ∧
    (
     let k : Fin 2 := 0
     let i : Fin 16 := 0
     let s : State := st (chip)
     let c := s.chip
     let sk := k.val
     let bursts := c.fwkB (measEn sk) = true ∧ c.steered = true ∧ c.measStopped sk = false ∧ i.val < c.fwk (Reg.MEAS_SEQ_REP_COUNT sk) ∧
     c.get Reg.SYS_PWR_STAT ≠ 1
     (¬bursts)) ∧
    (
     let b : Fin 4 := 3
     let s : State := st ({ chip [(Reg.SYS_PWR_STAT, 4)] [(Reg.MEAS_STAT_BR_EN, 7)] with seam := { lost := false }, pwr := { fieldRst := false, coreRst := false }, warden := { laneFence := 1 }, test := { landsTaken := true } })
     let c := s.chip
     let up := c.fieldUp = true
     let m := c.meas
     let bridging := c.fwkB Reg.MEAS_STAT_BR_EN = true ∧ c.measStopped 2 = false ∧ Sys2Proof.Machine.bit m.excOff b.val = false ∧
     c.get Reg.SYS_PWR_STAT ≠ 1
     (up) ∧ (
     (bridging) ∧ (
     let at_ := c.brNext b.val
     let d := c.fieldTimeTo at_
     let e := { d with meas := { d.meas with brAt := d.meas.brAt.put 0 b.val (at_ + 1) } }
     (e.occMeas = true)))) ∧
    (
     let b : Fin 4 := 0
     let s : State := st ({ chip [(Reg.SYS_PWR_STAT, 2)] [(Reg.MEAS_STAT_BR_EN, 7)] with seam := { marks := 0 }, pwr := { fieldRst := false, coreRst := false }, meas := { excOff := 32 } })
     let c := s.chip
     let up := c.fieldUp = true
     let m := c.meas
     let bridging := c.fwkB Reg.MEAS_STAT_BR_EN = true ∧ c.measStopped 2 = false ∧ Sys2Proof.Machine.bit m.excOff b.val = false ∧
     c.get Reg.SYS_PWR_STAT ≠ 1
     (up) ∧ (
     (bridging) ∧ (
     let at_ := c.brNext b.val
     let d := c.fieldTimeTo at_
     let e := { d with meas := { d.meas with brAt := d.meas.brAt.put 0 b.val (at_ + 1) } }
     (e.occMeas = false) ∧ (
     (Sys2Proof.Machine.bit e.meas.shorted b.val = false))))) ∧
    (
     let b : Fin 4 := 0
     let s : State := st (chip)
     let c := s.chip
     let m := c.meas
     let bridging := c.fwkB Reg.MEAS_STAT_BR_EN = true ∧ c.measStopped 2 = false ∧ Sys2Proof.Machine.bit m.excOff b.val = false ∧
     c.get Reg.SYS_PWR_STAT ≠ 1
     (¬bridging)) ∧
    (
     let p : Fin 12 := 0
     let edge : PulseEdge := ⟨true, false⟩
     let s : State := st ({ chip [] [(Reg.MEAS_PC_CFG_MODE 0, 1), (Reg.MEAS_STAT_PC_EN, 3)] with seam := { lost := false }, pwr := { fieldRst := false, coreRst := false }, meas := { stopped := 2 } })
     let c := s.chip
     let up := c.fieldUp = true
     let wired := c.pulseWired p.val = true
     let run := c.fwkB Reg.MEAS_STAT_PC_EN = true ∧ c.measStopped 3 = false
     let q := p.val
     let mode := c.fwk (Reg.MEAS_PC_CFG_MODE q)
     let sel := c.fwk (Reg.MEAS_PC_CFG_EDGE q)
     let hit := (sel = 0 ∧ edge.rising = true) ∨ (sel = 1 ∧ edge.rising = false) ∨ sel = 2
     (up) ∧ (
     (wired) ∧ (
     (run) ∧ (
     (c.occMeas = false) ∧ (
     (c.fwk (Reg.MEAS_PC_CFG_MODE (q / 2 * 2)) ≠ 3) ∧ (
     (mode = 1 ∨ mode = 2) ∧ (
     (hit)))))))) := by
  refine ⟨?_, ?_, ?_, ?_, ?_, ?_, ?_, ?_, ?_, ?_, ?_, ?_, ?_, ?_, ?_, ?_⟩ <;> dsimp only <;> decide +kernel

/-- Witnesses of the hypotheses of Obligations.MeasurementAndDriverResults (part 2). -/
theorem meets_MeasurementAndDriverResults_2 :
    (
     let p : Fin 12 := 6
     let edge : PulseEdge := ⟨true, false⟩
     let s : State := st ({ chip [] [(Reg.MEAS_PC_CFG_MODE 1, 1), (Reg.MEAS_STAT_PC_EN, 3)] with seam := { lost := false }, pwr := { fieldRst := false, coreRst := false }, meas := { stopped := 2 } })
     let c := s.chip
     let up := c.fieldUp = true
     let wired := c.pulseWired p.val = true
     let run := c.fwkB Reg.MEAS_STAT_PC_EN = true ∧ c.measStopped 3 = false
     let q := p.val
     let mode := c.fwk (Reg.MEAS_PC_CFG_MODE q)
     let sel := c.fwk (Reg.MEAS_PC_CFG_EDGE q)
     let hit := (sel = 0 ∧ edge.rising = true) ∨ (sel = 1 ∧ edge.rising = false) ∨ sel = 2
     (up) ∧ (
     (wired) ∧ (
     (run) ∧ (
     (c.occMeas = false) ∧ (
     (c.fwk (Reg.MEAS_PC_CFG_MODE (q / 2 * 2)) ≠ 3) ∧ (
     ((mode ≠ 1 ∧ mode ≠ 2) ∨ ¬hit))))))) ∧
    (
     let p : Fin 12 := 0
     let s : State := st ({ chip [] [(Reg.MEAS_PC_CFG_MODE 0, 3), (Reg.MEAS_STAT_PC_EN, 5)] with seam := { lost := false, marks := 4 }, pwr := { fieldRst := false, coreRst := false } })
     let c := s.chip
     let up := c.fieldUp = true
     let wired := c.pulseWired p.val = true
     let run := c.fwkB Reg.MEAS_STAT_PC_EN = true ∧ c.measStopped 3 = false
     let q := p.val
     (up) ∧ (
     (wired) ∧ (
     (run) ∧ (
     (c.occMeas = false) ∧ (
     (c.fwk (Reg.MEAS_PC_CFG_MODE (q / 2 * 2)) = 3)))))) ∧
    (
     let p : Fin 12 := 0
     let s : State := st chip
     let c := s.chip
     let wired := c.pulseWired p.val = true
     let run := c.fwkB Reg.MEAS_STAT_PC_EN = true ∧ c.measStopped 3 = false
     (¬wired ∨ ¬run ∨ c.occMeas = true)) ∧
    (
     let s : State := st ({ chip [(Reg.SYS_PWR_STAT, 8)] [(Reg.MEAS_STAT_PC_EN, 2)] with seam := { marks := 16 }, pwr := { fieldRst := false, coreRst := false } })
     let c := s.chip
     let up := c.fieldUp = true
     let run := c.fwkB Reg.MEAS_STAT_PC_EN = true ∧ c.measStopped 3 = false
     (up) ∧ (
     (run) ∧ (
     (c.get Reg.SYS_PWR_STAT ≠ 1) ∧ (
     ((∀ j : Nat, j < 12 → c.periodShow.fwk (Reg.MEAS_PC_CFG_MODE j) = 0)))))) ∧
    (
     let s : State := st (chip)
     let c := s.chip
     let run := c.fwkB Reg.MEAS_STAT_PC_EN = true ∧ c.measStopped 3 = false
     (¬run ∨ c.get Reg.SYS_PWR_STAT = 1)) ∧
    (
     let a : Fin 24 := 0
     let s : State := st ({ chip [] [(Reg.MEAS_AIN_CFG 0, 3), (Reg.MEAS_AIN_EN, 1)] with pwr := { fieldRst := false, coreRst := false } })
     let c := s.chip
     let up := c.fieldUp = true
     let n := a.val
     let m := c.meas
     (up) ∧ (
     (Sys2Proof.Machine.bit (c.fwk Reg.MEAS_AIN_EN) n = true) ∧ (
     (c.fwk (Reg.MEAS_AIN_CFG n) = 3) ∧ (
     (Sys2Proof.Machine.bit m.shuntOpen n = false))))) ∧
    (
     let a : Fin 24 := 0
     let s : State := st (chip)
     let c := s.chip
     let n := a.val
     let m := c.meas
     (Sys2Proof.Machine.bit (c.fwk Reg.MEAS_AIN_EN) n = false ∨ c.fwk (Reg.MEAS_AIN_CFG n) ≠ 3 ∨ Sys2Proof.Machine.bit m.shuntOpen n = true)) ∧
    (
     let a : Fin 24 := 0
     let uA : Nat := 16
     let s : State := st ({ chip with pwr := { fieldRst := false, coreRst := false }, meas := { shuntOpen := 1 } })
     let c := s.chip
     let up := c.fieldUp = true
     let n := a.val
     let m := c.meas
     (up) ∧ (
     (Sys2Proof.Machine.bit m.shuntOpen n = true) ∧ (
     (uA < 25000)))) ∧
    (
     let a : Fin 24 := 0
     let uA : Nat := 0
     let s : State := st (chip)
     let c := s.chip
     let n := a.val
     let m := c.meas
     (Sys2Proof.Machine.bit m.shuntOpen n = false ∨ 25000 ≤ uA)) ∧
    (
     let code : BitVec 4 := 1
     let unit : Fin 4 := 0
     let s : State := st (chip)
     let c := s.chip
     let up := c.fieldUp = true
     (up) ∧ (
     (code.toNat = 1) ∧ (
     (unit.val < 2)))) ∧
    (
     let code : BitVec 4 := 2
     let s : State := st (chip)
     let c := s.chip
     let up := c.fieldUp = true
     (up) ∧ (
     (code.toNat = 2))) ∧
    (
     let code : BitVec 4 := 3
     let unit : Fin 4 := 0
     let s : State := st (chip)
     let c := s.chip
     let up := c.fieldUp = true
     (up) ∧ (
     (code.toNat = 3) ∧ (
     (unit.val < 2)))) ∧
    (
     let code : BitVec 4 := 7
     (code.toNat = 0 ∨ 3 < code.toNat)) ∧
    (
     let u : Fin 3 := 2
     let s : State := st (chip [(measEn 2, 1)] [(Reg.BKG_CFG_CAL_EN, 1)])
     let c := s.chip
     (c.bkgRuns = true) ∧ (
     (c.wkB Reg.BKG_CFG_CAL_EN = true) ∧ (
     (Sys2Proof.Machine.bit c.bkg.cal u.val = false) ∧ (
     let d := c.timeTo (c.calDue u.val)
     let t := { d with bkg := { d.bkg with calAt := d.bkg.calAt.put 0 u.val (d.ct.toNat + 1) } }
     let may := t.fieldUp = true ∧ t.flag (measEn u.val) = true ∧ t.active (measFlask u.val) = true ∧ t.occMeas = false ∧
     t.get Reg.SYS_PWR_STAT ≠ 1
     (may))))) ∧
    (
     let u : Fin 3 := 0
     let s : State := st (chip)
     let c := s.chip
     (c.bkgRuns = true) ∧ (
     (c.wkB Reg.BKG_CFG_CAL_EN = true) ∧ (
     (Sys2Proof.Machine.bit c.bkg.cal u.val = false) ∧ (
     let d := c.timeTo (c.calDue u.val)
     let t := { d with bkg := { d.bkg with calAt := d.bkg.calAt.put 0 u.val (d.ct.toNat + 1) } }
     let may := t.fieldUp = true ∧ t.flag (measEn u.val) = true ∧ t.active (measFlask u.val) = true ∧ t.occMeas = false ∧
     t.get Reg.SYS_PWR_STAT ≠ 1
     (¬may))))) ∧
    (
     let u : Fin 3 := 0
     let s : State := st (chip [] [(Reg.BKG_CFG_CAL_EN, 0)])
     let c := s.chip
     (c.bkgRuns = false ∨ c.wkB Reg.BKG_CFG_CAL_EN = false ∨ Sys2Proof.Machine.bit c.bkg.cal u.val = true)) := by
  refine ⟨?_, ?_, ?_, ?_, ?_, ?_, ?_, ?_, ?_, ?_, ?_, ?_, ?_, ?_, ?_, ?_⟩ <;> dsimp only <;> decide +kernel

/-- Witnesses of the hypotheses of Obligations.MeasurementAndDriverResults (part 3). -/
theorem meets_MeasurementAndDriverResults_3 :
    (
     let u : Fin 3 := 0
     let s : State := st ({ chip with pwr := { coreRst := false, fieldRst := false }, bkg := { cal := 5 } })
     let c := s.chip
     (c.bkgRuns = true) ∧ (
     (Sys2Proof.Machine.bit c.bkg.cal u.val = true))) ∧
    (
     let u : Fin 3 := 0
     let s : State := st (chip)
     let c := s.chip
     (c.bkgRuns = false ∨ Sys2Proof.Machine.bit c.bkg.cal u.val = false)) ∧
    (
     let o : Fin 12 := 0
     let s : State := st (let c := chip; { c with seam := { c.seam with fieldRx := true, flight := [.setpoint 0 ⟨100, false, false, 0⟩] } })
     let c := s.chip
     let up := c.fieldUp = true
     (up) ∧ (
     (c.seam.fieldRx = true) ∧ (
     let pre : List SeamItem := []
     let sp : SeamItem := .setpoint 0 ⟨100, false, false, 0⟩
     let behind : List SeamItem := []
     let rest : List SeamItem := []
     (c.seam.flight = pre ++ sp :: (behind ++ rest)) ∧ (
     (pre.all (fun j => !isSetpointOf o.val j) = true) ∧ (
     (isSetpointOf o.val sp = true) ∧ (
     (behind.all (fun j => !isSetpoint j) = true) ∧ (
     ((∀ j : SeamItem, rest.head? = some j → isSetpoint j = true))))))))) ∧
    (
     let o : Fin 12 := 0
     let s : State := st (chip)
     let c := s.chip
     (c.seam.flight.any (isSetpointOf o.val) = false ∨ c.seam.fieldRx = false)) ∧
    (
     let kind : BitVec 3 := 1
     let s : State := st (chip)
     let c := s.chip
     let up := c.fieldUp = true
     (up) ∧ (
     (kind.toNat = 1))) ∧
    (
     let o : Fin 12 := 0
     let kind : BitVec 3 := 2
     let s : State := st (chip)
     let c := s.chip
     let up := c.fieldUp = true
     (up) ∧ (
     (kind.toNat = 2) ∧ (
     (o.val < 8)))) ∧
    (
     let o : Fin 12 := 5
     let kind : BitVec 3 := 3
     let s : State := st (chip)
     let c := s.chip
     let up := c.fieldUp = true
     (up) ∧ (
     (kind.toNat = 3) ∧ (
     (o.val < 8)))) ∧
    (
     let o : Fin 12 := 8
     let kind : BitVec 3 := 4
     let s : State := st (chip)
     let c := s.chip
     let up := c.fieldUp = true
     (up) ∧ (
     (kind.toNat = 4) ∧ (
     (8 ≤ o.val)))) ∧
    (
     let o : Fin 12 := 0
     let kind : BitVec 3 := 0
     (kind.toNat = 0 ∨ 4 < kind.toNat ∨ (kind.toNat = 2 ∧ 8 ≤ o.val) ∨ (kind.toNat = 3 ∧ 8 ≤ o.val) ∨ (kind.toNat = 4 ∧ o.val < 8))) ∧
    (
     let r : Requester := .engine 0
     let o : Fin 12 := 0
     let s : State := st (chip)
     let c := s.chip
     (c.takes r (Reg.DRV_CTL_ENABLE o.val).addr = true) ∧ (
     (c.active (drvFlask o.val) = true) ∧ (
     (c.flag (Reg.DRV_STAT_EN o.val) = true)))) ∧
    (
     let r : Requester := .gate
     let o : Fin 12 := 11
     let s : State := st (chip [(Reg.DRV_STAT_EN 11, 0)])
     let c := s.chip
     (c.takes r (Reg.DRV_CTL_ENABLE o.val).addr = true) ∧ (
     (c.active (drvFlask o.val) = true) ∧ (
     (c.flag (Reg.DRV_STAT_EN o.val) = false)))) ∧
    (
     let r : Requester := .gate
     let o : Fin 12 := 11
     let s : State := st (chip [(Reg.FLASK_FSTAT_STATE 50, 1)])
     let c := s.chip
     (c.takes r (Reg.DRV_CTL_ENABLE o.val).addr = true) ∧ (
     (c.active (drvFlask o.val) = false))) ∧
    (
     let r : Requester := .engine 0
     let o : Fin 12 := 0
     let s : State := st (chip)
     let c := s.chip
     (c.takes r (Reg.DRV_CTL_DISABLE o.val).addr = true)) ∧
    (
     let r : Requester := .mgmt
     let o : Fin 12 := 0
     let present : Bool := false
     let s : State := st ({ chip [(Reg.FLASK_FSTAT_STATE 0, 5)] with drv := [(0, { cmd := 3, latched := true })] })
     let c := s.chip
     let x := c.out o.val
     let dc := (Reg.DRV_CTL_FAULT_CLR o.val).addr
     (c.takes r dc = true) ∧ (
     (c.active (drvFlask o.val) = true) ∧ (
     (x.latched = true) ∧ (
     (present = false))))) ∧
    (
     let r : Requester := .engine 0
     let o : Fin 12 := 0
     let present : Bool := true
     let s : State := st (chip)
     let c := s.chip
     let x := c.out o.val
     let dc := (Reg.DRV_CTL_FAULT_CLR o.val).addr
     (c.takes r dc = true) ∧ (
     (c.active (drvFlask o.val) = false ∨ x.latched = false ∨ present = true))) ∧
    (
     let s : State := st ({ chip with pwr := { fieldRst := true, coreRst := false } })
     let c := s.chip
     (c.fieldUp = false)) := by
  refine ⟨?_, ?_, ⟨by decide +kernel, by decide +kernel, by decide +kernel, by decide +kernel, by decide +kernel, by decide +kernel, by intro j h; simp at h⟩, ?_, ?_, ?_, ?_, ?_, ?_, ?_, ?_, ?_, ?_, ?_, ?_, ?_⟩ <;> dsimp only <;> decide +kernel

/-- Witnesses of the hypotheses of Obligations.PinAndCanResults (part 1). -/
theorem meets_PinAndCanResults_1 :
    (
     let r : Requester := .engine 0
     let n : Fin 4 := 0
     let s : State := st (chip)
     let c := s.chip
     (c.takes r (Reg.PIN_OUT_SET n.val).addr = true)) ∧
    (
     let r : Requester := .engine 0
     let n : Fin 4 := 0
     let s : State := st (chip)
     let c := s.chip
     (c.takes r (Reg.PIN_OUT_CLR n.val).addr = true)) ∧
    (
     let r : Requester := .engine 0
     let n : Fin 4 := 0
     let s : State := st (chip)
     let c := s.chip
     (c.takes r (Reg.PIN_OUT_TOG n.val).addr = true)) ∧
    (
     let r : Requester := .engine 0
     let n : Fin 4 := 0
     let s : State := st (chip)
     let c := s.chip
     (c.takes r (Reg.PIN_OUT_WR_VALUE n.val).addr = true)) ∧
    (
     let e : Fin 32 := 0
     let n : Fin 4 := 0
     let m : Fin 16 := 0
     let s : State := st (claimed 0x4100 (chip [(Reg.ENG_STAT_STATE 16, 1)]))
     let c := s.chip
     let up := c.coreUp = true ∧ c.engState e.val = 1
     let pin := 0x4100 + 16 * n.val + m.val
     (up) ∧ (
     (c.claim e.val pin = 2) ∧ (
     (c.occPin n.val = false)))) ∧
    (
     let e : Fin 32 := 0
     let n : Fin 4 := 2
     let m : Fin 16 := 0
     let s : State := st (chip [(Reg.ENG_STAT_STATE 0, 1)] [(Reg.ENG_CLAIM_EN 0, 2), (Reg.ENG_CLAIM_ENGINE 0, 2), (Reg.ENG_CLAIM_COUNT 0, 3), (Reg.ENG_CLAIM_MODE 0, 1)])
     let c := s.chip
     let up := c.coreUp = true ∧ c.engState e.val = 1
     let pin := 0x4100 + 16 * n.val + m.val
     (up) ∧ (
     (c.claim e.val pin ≠ 2))) ∧
    (
     let b : Nat := 0
     (b < 16)) ∧
    (
     let k : Fin 8 := 0
     let edge : Bool := true
     let s : State := st (chip [] [(Reg.PIN_PCFG_MUX 1 8, 8)])
     let c := s.chip
     let p : Nat := 1
     (c.evcapPin k.val = some p) ∧ (
     (c.coreUp = true) ∧ (
     (c.flag Reg.PIN_STAT = false) ∧ (
     (c.wkB (Reg.PIN_PCFG_ANALOG p (8 + k.val)) = false) ∧ (
     (edgeHit (c.wk (Reg.PIN_PCFG_EDGE p (8 + k.val))) edge = true)))))) ∧
    (
     let k : Fin 8 := 0
     let s : State := st (chip)
     let c := s.chip
     (c.evcapPin k.val = none ∨ c.flag Reg.PIN_STAT = true)) ∧
    (
     let s : State := st (let c := chip; { c with pin := { c.pin with apply := true } })
     let c := s.chip
     (c.pin.apply = true)) ∧
    (
     let s : State := st (let c := chip; { c with pin := { c.pin with mark := true } })
     let c := s.chip
     (c.pin.mark = true)) ∧
    (
     let s : State := st (chip)
     let c := s.chip
     (c.pin.apply = false)) ∧
    (
     let s : State := st (chip)
     let c := s.chip
     (c.pin.mark = false)) ∧
    (
     let s : State := st (chip)
     let c := s.chip
     (c.fieldUp = true) ∧ (
     (c.occHvi = false))) ∧
    (
     let s : State := st ({ chip with pwr := { fieldRst := true, coreRst := false }, test := { run := some (⟨5, 32, true⟩), landsTaken := true } })
     let c := s.chip
     (c.fieldUp = false ∨ c.occHvi = true)) ∧
    (
     let edge : Bool := true
     let i : Fin 16 := 0
     let s : State := st ({ chip with pwr := { phase := .off, goal := .retry, coreRst := false, fieldRst := false }, pin := { hviWake := [(0, 1)] } })
     let c := s.chip
     (c.wakeOpen = true ∨ c.flag Reg.CHAIN_SLEEP_STAT_STATE = true) ∧ (
     (c.pin.hviWake.get 0 i.val ≠ 0) ∧ (
     (edgeHit (c.pin.hviWake.get 0 i.val - 1) edge = true)))) := by
  refine ⟨?_, ?_, ?_, ?_, ?_, ?_, ?_, ?_, ?_, ?_, ?_, ?_, ?_, ?_, ?_, ?_⟩ <;> dsimp only <;> decide +kernel

/-- Witnesses of the hypotheses of Obligations.PinAndCanResults (part 2). -/
theorem meets_PinAndCanResults_2 :
    (
     let i : Fin 16 := 0
     let s : State := st (chip [(Reg.CHAIN_SLEEP_STAT_STATE, 0)])
     let c := s.chip
     ((c.wakeOpen = false ∧ c.flag Reg.CHAIN_SLEEP_STAT_STATE = false) ∨ c.pin.hviWake.get 0 i.val = 0)) ∧
    (
     let r : Requester := .mgmt
     let s : State := st (chip [(Reg.PIN_STAT, 7)])
     let c := s.chip
     (c.takes r Reg.PIN_CTL.addr = true) ∧ (
     (c.flag Reg.PIN_STAT = true))) ∧
    (
     let r : Requester := .engine 0
     let s : State := st (chip)
     let c := s.chip
     (c.takes r Reg.PIN_CTL.addr = true) ∧ (
     (c.flag Reg.PIN_STAT = false))) ∧
    (
     let r : Requester := .gate
     let cc : Fin 2 := 1
     let s : State := st (chip [(Reg.CAN_CFG_SJW 0, 1)])
     let c := s.chip
     let j := cc.val
     let f43 := c.active (43 + j) = true
     let t1 := c.get (Reg.CAN_CFG_TSEG1 j)
     let t2 := c.get (Reg.CAN_CFG_TSEG2 j)
     let sj := c.get (Reg.CAN_CFG_SJW j)
     let timing := 8 ≤ 1 + t1 + t2 ∧ 1 + t1 + t2 ≤ 25 ∧ 2 ≤ t1 ∧ t1 ≤ 63 ∧ 2 ≤ t2 ∧ t2 ≤ 16 ∧ 1 ≤ sj ∧ sj ≤ t2
     let ctl := (Reg.CAN_CTL_ENABLE j).addr
     (c.takes r ctl = true) ∧ (
     (timing) ∧ (
     (f43)))) ∧
    (
     let r : Requester := .engine 0
     let cc : Fin 2 := 0
     let s : State := st (chip [(Reg.CAN_CFG_SJW 0, 7), (Reg.CAN_CFG_TSEG2 0, 2)])
     let c := s.chip
     let j := cc.val
     let f43 := c.active (43 + j) = true
     let t1 := c.get (Reg.CAN_CFG_TSEG1 j)
     let t2 := c.get (Reg.CAN_CFG_TSEG2 j)
     let sj := c.get (Reg.CAN_CFG_SJW j)
     let timing := 8 ≤ 1 + t1 + t2 ∧ 1 + t1 + t2 ≤ 25 ∧ 2 ≤ t1 ∧ t1 ≤ 63 ∧ 2 ≤ t2 ∧ t2 ≤ 16 ∧ 1 ≤ sj ∧ sj ≤ t2
     let ctl := (Reg.CAN_CTL_ENABLE j).addr
     (c.takes r ctl = true) ∧ (
     (¬timing ∨ ¬f43))) ∧
    (
     let cc : Fin 2 := 0
     let s : State := st (chip [(Reg.CAN_STAT_EN 0, 43)])
     let c := s.chip
     let j := cc.val
     let state := c.get (Reg.CAN_STAT_STATE j)
     let enabled := c.flag (Reg.CAN_STAT_EN j) = true
     let f43 := c.active (43 + j) = true
     (c.coreUp = true) ∧ (
     (enabled) ∧ (
     (state = 3) ∧ (
     (f43) ∧ (
     (c.occCan j = false)))))) ∧
    (
     let cc : Fin 2 := 0
     let s : State := st (chip)
     let c := s.chip
     let j := cc.val
     let state := c.get (Reg.CAN_STAT_STATE j)
     let enabled := c.flag (Reg.CAN_STAT_EN j) = true
     let f43 := c.active (43 + j) = true
     (¬enabled ∨ state ≠ 3 ∨ ¬f43 ∨ c.occCan j = true)) ∧
    (
     let r : Requester := .engine 0
     let cc : Fin 2 := 0
     let s : State := st (chip)
     let c := s.chip
     let j := cc.val
     (c.takes r (Reg.CAN_CTL_DISABLE j).addr = true)) ∧
    (
     let r : Requester := .mgmt
     let cc : Fin 2 := 0
     let s : State := st (chip [(Reg.CAN_STAT_STATE 0, 2)])
     let c := s.chip
     let j := cc.val
     let x := c.cn j
     let state := c.get (Reg.CAN_STAT_STATE j)
     let f43 := c.active (43 + j) = true
     (c.takes r (Reg.CAN_CTL_RECOVER j).addr = true) ∧ (
     (state = 2) ∧ (
     (f43) ∧ (
     (x.recover = false))))) ∧
    (
     let r : Requester := .mgmt
     let cc : Fin 2 := 0
     let s : State := st ((chip [(Reg.CAN_STAT_STATE 0, 2)]).setCn 0 { recover := true })
     let c := s.chip
     let j := cc.val
     let x := c.cn j
     let state := c.get (Reg.CAN_STAT_STATE j)
     let f43 := c.active (43 + j) = true
     (c.takes r (Reg.CAN_CTL_RECOVER j).addr = true) ∧ (
     (state = 2) ∧ (
     (f43) ∧ (
     (x.recover = true))))) ∧
    (
     let r : Requester := .engine 0
     let cc : Fin 2 := 0
     let s : State := st (chip [(Reg.CAN_STAT_STATE 0, 3)])
     let c := s.chip
     let j := cc.val
     let state := c.get (Reg.CAN_STAT_STATE j)
     let f43 := c.active (43 + j) = true
     (c.takes r (Reg.CAN_CTL_RECOVER j).addr = true) ∧ (
     (state ≠ 2 ∨ ¬f43))) ∧
    (
     let cc : Fin 2 := 0
     let s : State := st ({ chip [(Reg.CAN_STAT_EN 0, 5), (Reg.CAN_STAT_STATE 0, 4)] with pwr := { coreRst := false, fieldRst := false }, test := { run := some (⟨0, 0, false⟩) }, can := [(0, { offDue := true })] })
     let c := s.chip
     let j := cc.val
     let x := c.cn j
     let live := c.canLive j = true
     (live) ∧ (
     (x.offDue = true))) ∧
    (
     let cc : Fin 2 := 0
     let s : State := st (chip)
     let c := s.chip
     let j := cc.val
     let x := c.cn j
     (x.offDue = false)) ∧
    (
     let cc : Fin 2 := 0
     let s : State := st ({ chip [(Reg.CAN_STAT_STATE 0, 2)] with pwr := { coreRst := false, fieldRst := false }, can := [(0, { recover := true })] })
     let c := s.chip
     let j := cc.val
     let x := c.cn j
     let state := c.get (Reg.CAN_STAT_STATE j)
     (c.coreUp = true) ∧ (
     (state = 2) ∧ (
     (x.recover = true)))) ∧
    (
     let cc : Fin 2 := 0
     let s : State := st (chip)
     let c := s.chip
     let j := cc.val
     let x := c.cn j
     let state := c.get (Reg.CAN_STAT_STATE j)
     (state ≠ 2 ∨ x.recover = false)) ∧
    (
     let cc : Fin 2 := 0
     let s : State := st ({ chip [(Reg.CAN_STAT_EN 0, 5), (Reg.CAN_STAT_STATE 0, 8)] with pwr := { coreRst := false, fieldRst := false }, test := { landsTaken := false } })
     let c := s.chip
     let j := cc.val
     let rec_ := c.get (Reg.CAN_STAT_REC j)
     let live := c.canLive j = true
     (live) ∧ (
     (c.get (Reg.CAN_CFG_MODE j) ≠ 2) ∧ (
     (rec_ ≤ 127)))) := by
  refine ⟨?_, ?_, ?_, ?_, ?_, ?_, ?_, ?_, ?_, ?_, ?_, ?_, ?_, ?_, ?_, ?_⟩ <;> dsimp only <;> decide +kernel

/-- Witnesses of the hypotheses of Obligations.PinAndCanResults (part 3). -/
theorem meets_PinAndCanResults_3 :
    (
     let cc : Fin 2 := 0
     let s : State := st (chip [(Reg.CAN_STAT_EN 0, 1), (Reg.CAN_STAT_STATE 0, 0), (Reg.CAN_STAT_REC 0, 128)])
     let c := s.chip
     let j := cc.val
     let rec_ := c.get (Reg.CAN_STAT_REC j)
     let live := c.canLive j = true
     (live) ∧ (
     (c.get (Reg.CAN_CFG_MODE j) ≠ 2) ∧ (
     (127 < rec_)))) ∧
    (
     let cc : Fin 2 := 0
     let s : State := st (chip)
     let c := s.chip
     let j := cc.val
     let live := c.canLive j = true
     (¬live ∨ c.get (Reg.CAN_CFG_MODE j) = 2)) ∧
    (
     let cc : Fin 2 := 0
     let dominant : Bool := true
     let s : State := st ({ chip [(Reg.CAN_STAT_STATE 0, 8), (Reg.CAN_STAT_EN 0, 255)] with pwr := { coreRst := false, fieldRst := false }, test := { run := some (⟨6, 0, false⟩) } })
     let c := s.chip
     let j := cc.val
     let rec_ := c.get (Reg.CAN_STAT_REC j)
     let live := c.canLive j = true
     (live) ∧ (
     let u := (c.put (Reg.CAN_STAT_REC j) (min 255 (rec_ + (if dominant then 8 else 1)))).canErrState j
     (u.get (Reg.CAN_CFG_MODE j) = 0))) ∧
    (
     let cc : Fin 2 := 0
     let dominant : Bool := false
     let s : State := st (chip [(Reg.CAN_CFG_MODE 0, 3), (Reg.CAN_STAT_REC 0, 0), (Reg.CAN_STAT_STATE 0, 5), (Reg.CAN_STAT_TEC 0, 255), (Reg.CAN_STAT_EN 0, 1), (Reg.FLASK_FSTAT_STATE 0, 7)])
     let c := s.chip
     let j := cc.val
     let rec_ := c.get (Reg.CAN_STAT_REC j)
     let live := c.canLive j = true
     (live) ∧ (
     let u := (c.put (Reg.CAN_STAT_REC j) (min 255 (rec_ + (if dominant then 8 else 1)))).canErrState j
     (u.get (Reg.CAN_CFG_MODE j) ≠ 0))) ∧
    (
     let cc : Fin 2 := 0
     let s : State := st (chip)
     let c := s.chip
     let j := cc.val
     let live := c.canLive j = true
     (¬live)) ∧
    (
     let cc : Fin 2 := 0
     let s : State := st ({ chip [(Reg.CAN_STAT_EN 0, 1), (Reg.CAN_STAT_STATE 0, 8), (Reg.FLASK_FSTAT_STATE 0, 2)] with pwr := { coreRst := false, fieldRst := false }, can := [(0, { onBus := some (0) })] })
     let c := s.chip
     let j := cc.val
     let x := c.cn j
     let live := c.canLive j = true
     (live) ∧ (
     let b : Nat := 0
     (x.onBus = some b) ∧ (
     let o : CanTxOutcome := .lostArbitration
     (o = .lostArbitration) ∧ (
     (x.abort = false))))) ∧
    (
     let cc : Fin 2 := 0
     let s : State := st ({ chip [(Reg.CAN_STAT_EN 0, 1), (Reg.CAN_STAT_STATE 0, 8), (Reg.FLASK_FSTAT_STATE 0, 2)] with pwr := { coreRst := false, fieldRst := false }, can := [(0, { onBus := some (0), abort := true })] })
     let c := s.chip
     let j := cc.val
     let x := c.cn j
     let live := c.canLive j = true
     (live) ∧ (
     let b : Nat := 0
     (x.onBus = some b) ∧ (
     let o : CanTxOutcome := .lostArbitration
     (o = .lostArbitration) ∧ (
     (x.abort = true))))) ∧
    (
     let cc : Fin 2 := 0
     let s : State := st ({ chip [(Reg.CAN_TXSTAT 0 0, 7), (Reg.CAN_TX_CNT 0, 5), (Reg.CAN_STAT_STATE 0, 5), (Reg.CAN_STAT_REC 0, 3), (Reg.CAN_STAT_EN 0, 5), (Reg.FLASK_FSTAT_STATE 0, 8)] with pwr := { coreRst := false, fieldRst := false }, can := [(0, { onBus := some (6) })] })
     let c := s.chip
     let j := cc.val
     let x := c.cn j
     let tec := c.get (Reg.CAN_STAT_TEC j)
     let live := c.canLive j = true
     (live) ∧ (
     let b : Nat := 6
     (x.onBus = some b) ∧ (
     let u := c.setCn j { x with onBus := none, abort := false }
     let o : CanTxOutcome := .sent
     (o = .sent) ∧ (
     let y := (((u.put (Reg.CAN_TXSTAT j b) 2).inc (Reg.CAN_TX_CNT j)).put (Reg.CAN_STAT_TEC j) (tec - 1)).canErrState j
     (y.get (Reg.CAN_CFG_MODE j) ≠ 2))))) ∧
    (
     let cc : Fin 2 := 0
     let s : State := st ((chip [(Reg.CAN_STAT_EN 0, 1), (Reg.CAN_STAT_STATE 0, 0)]).setCn 0 { onBus := some 0 })
     let c := s.chip
     let j := cc.val
     let x := c.cn j
     let state := c.get (Reg.CAN_STAT_STATE j)
     let tec := c.get (Reg.CAN_STAT_TEC j)
     let live := c.canLive j = true
     (live) ∧ (
     let b : Nat := 0
     (x.onBus = some b) ∧ (
     let o : CanTxOutcome := .error
     (o = .error) ∧ (
     (x.abort = false) ∧ (
     (state ≠ 1) ∧ (
     (tec + 8 ≤ 255))))))) ∧
    (
     let cc : Fin 2 := 0
     let s : State := st (chip)
     let c := s.chip
     let j := cc.val
     let x := c.cn j
     let live := c.canLive j = true
     (¬live ∨ x.onBus = none)) ∧
    (
     let e : Fin 32 := 0
     let v : BitVec 32 := 0
     let cc : Fin 2 := 0
     let t : Fin 8 := 0
     let w : Fin 4 := 0
     let w2 : Fin 2 := 0
     let s : State := st (chip)
     let c := s.chip
     let q := t.val
     let up := c.coreUp = true ∧ c.engState e.val = 1
     let rows : List (Instr × Nat) :=
     [(.canTxBufferWrite e cc t w v, 16 * q + w.val), (.canTxGo e cc t, 16 * q + 4), (.canTxAbort e cc t, 16 * q + 5),
       (.sessionStage e cc t w2 v, 0x80 + 4 * q + w2.val), (.sessionOpen e cc t v, 0x82 + 4 * q), (.sessionClose e cc t, 0x83 + 4 * q)]
     let a : Instr × Nat := (.canTxBufferWrite e cc t w v, 16 * q + w.val)
     (¬up)) ∧
    (
     let e : Fin 32 := 0
     let v : BitVec 32 := 2
     let cc : Fin 2 := 0
     let t : Fin 8 := 0
     let w : Fin 4 := 0
     let w2 : Fin 2 := 0
     let s : State := st (chip [(Reg.ENG_STAT_STATE 0, 1), (Reg.FLASK_FSTAT_STATE 0, 256)] [(Reg.ENG_CLAIM_EN 0, 1), (Reg.ENG_CLAIM_ENGINE 0, 0), (Reg.ENG_CLAIM_FIRST 0, 3), (Reg.ENG_CLAIM_COUNT 0, 128), (Reg.ENG_CLAIM_MODE 0, 4)])
     let c := s.chip
     let j := cc.val
     let q := t.val
     let up := c.coreUp = true ∧ c.engState e.val = 1
     let port := fun off : Nat => 0x5000 + 0x100 * j + off
     let rows : List (Instr × Nat) :=
     [(.canTxBufferWrite e cc t w v, 16 * q + w.val), (.canTxGo e cc t, 16 * q + 4), (.canTxAbort e cc t, 16 * q + 5),
       (.sessionStage e cc t w2 v, 0x80 + 4 * q + w2.val), (.sessionOpen e cc t v, 0x82 + 4 * q), (.sessionClose e cc t, 0x83 + 4 * q)]
     let a : Instr × Nat := (.canTxBufferWrite e cc t w v, 16 * q + w.val)
     (up) ∧ (
     (c.claim e.val (port a.2) ≠ 2))) ∧
    (
     let e : Fin 32 := 0
     let v : BitVec 32 := 0
     let cc : Fin 2 := 0
     let t : Fin 8 := 3
     let w : Fin 4 := 0
     let w2 : Fin 2 := 0
     let s : State := st (testing 3 4 (claimed 0x5000 chip))
     let c := s.chip
     let j := cc.val
     let q := t.val
     let up := c.coreUp = true ∧ c.engState e.val = 1
     let port := fun off : Nat => 0x5000 + 0x100 * j + off
     let rows : List (Instr × Nat) :=
     [(.canTxBufferWrite e cc t w v, 16 * q + w.val), (.canTxGo e cc t, 16 * q + 4), (.canTxAbort e cc t, 16 * q + 5),
       (.sessionStage e cc t w2 v, 0x80 + 4 * q + w2.val), (.sessionOpen e cc t v, 0x82 + 4 * q), (.sessionClose e cc t, 0x83 + 4 * q)]
     let a : Instr × Nat := (.canTxBufferWrite e cc t w v, 16 * q + w.val)
     (up) ∧ (
     (c.claim e.val (port a.2) = 2) ∧ (
     (c.occCan j = true)))) ∧
    (
     let e : Fin 32 := 0
     let v : BitVec 32 := 0
     let cc : Fin 2 := 0
     let t : Fin 8 := 0
     let w : Fin 4 := 0
     let w2 : Fin 2 := 0
     let s : State := st (claimed 0x5000 (chip [(Reg.FLASK_FSTAT_STATE 43, 1)]))
     let c := s.chip
     let j := cc.val
     let q := t.val
     let f43 := c.active (43 + j) = true
     let up := c.coreUp = true ∧ c.engState e.val = 1
     let port := fun off : Nat => 0x5000 + 0x100 * j + off
     let reached := fun off : Nat => up ∧ c.claim e.val (port off) = 2 ∧ c.occCan j = false
     let rows : List (Instr × Nat) :=
     [(.canTxBufferWrite e cc t w v, 16 * q + w.val), (.canTxGo e cc t, 16 * q + 4), (.canTxAbort e cc t, 16 * q + 5),
       (.sessionStage e cc t w2 v, 0x80 + 4 * q + w2.val), (.sessionOpen e cc t v, 0x82 + 4 * q), (.sessionClose e cc t, 0x83 + 4 * q)]
     let a : Instr × Nat := (.canTxBufferWrite e cc t w v, 16 * q + w.val)
     (reached a.2) ∧ (
     (¬f43))) ∧
    (
     let e : Fin 32 := 0
     let cc : Fin 2 := 0
     let t : Fin 8 := 0
     let w : Fin 4 := 0
     let s : State := st ({ claimed 0x5000 (chip [(Reg.ENG_STAT_STATE 16, 16)] [(Reg.ENG_CLAIM_MODE 1, 5)]) with pwr := { coreRst := false, fieldRst := false }, test := { run := some (⟨31, 63, false⟩), landsTaken := false } })
     let c := s.chip
     let j := cc.val
     let q := t.val
     let f43 := c.active (43 + j) = true
     let up := c.coreUp = true ∧ c.engState e.val = 1
     let port := fun off : Nat => 0x5000 + 0x100 * j + off
     let reached := fun off : Nat => up ∧ c.claim e.val (port off) = 2 ∧ c.occCan j = false
     (reached (16 * q + w.val)) ∧ (
     (f43))) ∧
    (
     let e : Fin 32 := 0
     let cc : Fin 2 := 0
     let t : Fin 8 := 0
     let s : State := st (claimed 0x5000 (chip [(Reg.CAN_STAT_EN 0, 7), (Reg.CAN_CFG_MODE 2, 3), (Reg.ENG_STAT_STATE 0, 43)] [(Reg.ENG_CLAIM_FIRST 0, 7), (Reg.ENG_CLAIM_COUNT 0, 16), (Reg.ENG_CLAIM_MODE 43, 20480)]))
     let c := s.chip
     let j := cc.val
     let q := t.val
     let enabled := c.flag (Reg.CAN_STAT_EN j) = true
     let f43 := c.active (43 + j) = true
     let up := c.coreUp = true ∧ c.engState e.val = 1
     let port := fun off : Nat => 0x5000 + 0x100 * j + off
     let reached := fun off : Nat => up ∧ c.claim e.val (port off) = 2 ∧ c.occCan j = false
     let pending := c.get (Reg.CAN_TXSTAT j q) = 1
     (reached (16 * q + 4)) ∧ (
     (f43) ∧ (
     (enabled) ∧ (
     (c.canDrives j = true) ∧ (
     (¬pending)))))) := by
  refine ⟨?_, ?_, ?_, ?_, ?_, ?_, ?_, ?_, ?_, ?_, ?_, ?_, ?_, ?_, ?_, ?_⟩ <;> dsimp only <;> decide +kernel

/-- Witnesses of the hypotheses of Obligations.PinAndCanResults (part 4). -/
theorem meets_PinAndCanResults_4 :
    (
     let e : Fin 32 := 0
     let cc : Fin 2 := 0
     let t : Fin 8 := 0
     let s : State := st (claimed 0x5000 (chip [(Reg.ENG_STAT_STATE 0, 43)] [(Reg.ENG_CLAIM_COUNT 0, 16), (Reg.ENG_CLAIM_MODE 43, 20480)]))
     let c := s.chip
     let j := cc.val
     let q := t.val
     let enabled := c.flag (Reg.CAN_STAT_EN j) = true
     let f43 := c.active (43 + j) = true
     let up := c.coreUp = true ∧ c.engState e.val = 1
     let port := fun off : Nat => 0x5000 + 0x100 * j + off
     let reached := fun off : Nat => up ∧ c.claim e.val (port off) = 2 ∧ c.occCan j = false
     let pending := c.get (Reg.CAN_TXSTAT j q) = 1
     (reached (16 * q + 4)) ∧ (
     (f43) ∧ (
     (¬enabled ∨ c.canDrives j = false ∨ pending)))) ∧
    (
     let e : Fin 32 := 0
     let cc : Fin 2 := 0
     let t : Fin 8 := 0
     let s : State := st ((claimed 0x5000 (chip [(Reg.CAN_TXSTAT 0 0, 1)])).setCn 0 { onBus := some 0 })
     let c := s.chip
     let j := cc.val
     let x := c.cn j
     let q := t.val
     let f43 := c.active (43 + j) = true
     let up := c.coreUp = true ∧ c.engState e.val = 1
     let port := fun off : Nat => 0x5000 + 0x100 * j + off
     let reached := fun off : Nat => up ∧ c.claim e.val (port off) = 2 ∧ c.occCan j = false
     let pending := c.get (Reg.CAN_TXSTAT j q) = 1
     (reached (16 * q + 5)) ∧ (
     (f43) ∧ (
     (pending) ∧ (
     (x.onBus = some q))))) ∧
    (
     let e : Fin 32 := 0
     let cc : Fin 2 := 0
     let t : Fin 8 := 0
     let s : State := st ({ claimed 0x5000 (claimed 0x4100 (chip [(Reg.CAN_TXSTAT 0 0, 1), (Reg.ENG_STAT_STATE 0, 16)] [(Reg.ENG_CLAIM_COUNT 43, 256), (Reg.ENG_CLAIM_MODE 16, 5)])) with pwr := { coreRst := false, fieldRst := false }, test := { run := none } })
     let c := s.chip
     let j := cc.val
     let x := c.cn j
     let q := t.val
     let f43 := c.active (43 + j) = true
     let up := c.coreUp = true ∧ c.engState e.val = 1
     let port := fun off : Nat => 0x5000 + 0x100 * j + off
     let reached := fun off : Nat => up ∧ c.claim e.val (port off) = 2 ∧ c.occCan j = false
     let pending := c.get (Reg.CAN_TXSTAT j q) = 1
     (reached (16 * q + 5)) ∧ (
     (f43) ∧ (
     (pending) ∧ (
     (x.onBus ≠ some q))))) ∧
    (
     let e : Fin 32 := 0
     let cc : Fin 2 := 0
     let t : Fin 8 := 1
     let s : State := st (claimed 0x5000 (chip [(Reg.CAN_TXSTAT 0 0, 0), (Reg.FLASK_FSTAT_STATE 5, 1)]))
     let c := s.chip
     let j := cc.val
     let q := t.val
     let f43 := c.active (43 + j) = true
     let up := c.coreUp = true ∧ c.engState e.val = 1
     let port := fun off : Nat => 0x5000 + 0x100 * j + off
     let reached := fun off : Nat => up ∧ c.claim e.val (port off) = 2 ∧ c.occCan j = false
     let pending := c.get (Reg.CAN_TXSTAT j q) = 1
     (reached (16 * q + 5)) ∧ (
     (f43) ∧ (
     (¬pending)))) ∧
    (
     let e : Fin 32 := 0
     let cc : Fin 2 := 0
     let t : Fin 8 := 4
     let w2 : Fin 2 := 0
     let s : State := st ({ claimed 0x5080 (claimed 0x5000 (chip [] [(Reg.ENG_CLAIM_COUNT 0, 1)])) with pwr := { coreRst := false, fieldRst := false }, test := { run := some (⟨16, 0, false⟩) } })
     let c := s.chip
     let j := cc.val
     let q := t.val
     let f43 := c.active (43 + j) = true
     let up := c.coreUp = true ∧ c.engState e.val = 1
     let port := fun off : Nat => 0x5000 + 0x100 * j + off
     let reached := fun off : Nat => up ∧ c.claim e.val (port off) = 2 ∧ c.occCan j = false
     (reached (0x80 + 4 * q + w2.val)) ∧ (
     (f43) ∧ (
     (w2.val = 0)))) ∧
    (
     let e : Fin 32 := 0
     let cc : Fin 2 := 0
     let t : Fin 8 := 0
     let w2 : Fin 2 := 1
     let s : State := st ({ claimed 0x5080 (chip [(Reg.FLASK_FSTAT_STATE 1, 7), (Reg.ENG_STAT_STATE 0, 43)] [(Reg.ENG_CLAIM_EN 4, 5), (Reg.ENG_CLAIM_ENGINE 2, 43), (Reg.ENG_CLAIM_FIRST 1, 7), (Reg.ENG_CLAIM_COUNT 0, 2), (Reg.ENG_CLAIM_MODE 2, 128)]) with pwr := { coreRst := false, fieldRst := false }, test := { run := some (⟨16, 5, false⟩) } })
     let c := s.chip
     let j := cc.val
     let q := t.val
     let f43 := c.active (43 + j) = true
     let up := c.coreUp = true ∧ c.engState e.val = 1
     let port := fun off : Nat => 0x5000 + 0x100 * j + off
     let reached := fun off : Nat => up ∧ c.claim e.val (port off) = 2 ∧ c.occCan j = false
     (reached (0x80 + 4 * q + w2.val)) ∧ (
     (f43) ∧ (
     (w2.val = 1)))) ∧
    (
     let e : Fin 32 := 0
     let v : BitVec 32 := 31
     let cc : Fin 2 := 0
     let t : Fin 8 := 0
     let s : State := st ({ claimed 0x5080 (chip [(Reg.ENG_STAT_STATE 0, 8)]) with pwr := { coreRst := false, fieldRst := false }, can := [(1, { sess := [(2, { etp := true })] })] })
     let c := s.chip
     let j := cc.val
     let q := t.val
     let ses := c.session j q
     let f43 := c.active (43 + j) = true
     let up := c.coreUp = true ∧ c.engState e.val = 1
     let port := fun off : Nat => 0x5000 + 0x100 * j + off
     let reached := fun off : Nat => up ∧ c.claim e.val (port off) = 2 ∧ c.occCan j = false
     let size := v.toNat
     (reached (0x82 + 4 * q)) ∧ (
     (f43) ∧ (
     (c.sessOpen j q = false) ∧ (
     ((ses.etp = true ∧ 1786 ≤ size ∧ size ≤ 117440505) ∨ (ses.etp = false ∧ 9 ≤ size ∧ size ≤ 1785)))))) ∧
    (
     let e : Fin 32 := 0
     let v : BitVec 32 := 2136131164
     let cc : Fin 2 := 0
     let t : Fin 8 := 0
     let s : State := st ({ claimed 0x5080 (chip [(Reg.ENG_STAT_STATE 0, 117440505)] [(Reg.ENG_CLAIM_EN 0, 9)]) with pwr := { coreRst := false, fieldRst := false }, test := { run := none } })
     let c := s.chip
     let j := cc.val
     let q := t.val
     let ses := c.session j q
     let f43 := c.active (43 + j) = true
     let up := c.coreUp = true ∧ c.engState e.val = 1
     let port := fun off : Nat => 0x5000 + 0x100 * j + off
     let reached := fun off : Nat => up ∧ c.claim e.val (port off) = 2 ∧ c.occCan j = false
     let size := v.toNat
     (reached (0x82 + 4 * q)) ∧ (
     (f43) ∧ (
     (c.sessOpen j q = true ∨ (ses.etp = true ∧ (size < 1786 ∨ 117440505 < size)) ∨ (ses.etp = false ∧ (size < 9 ∨ 1785 < size)))))) ∧
    (
     let e : Fin 32 := 0
     let cc : Fin 2 := 0
     let t : Fin 8 := 0
     let s : State := st ({ claimed 0x5080 (chip [(Reg.CAN_SESS_STATE 0 0, 7), (Reg.FLASK_FSTAT_STATE 4, 3), (Reg.ENG_STAT_STATE 1, 5)]) with pwr := { coreRst := false, fieldRst := false }, test := { run := some (⟨8, 1, true⟩), landsTaken := false } })
     let c := s.chip
     let j := cc.val
     let q := t.val
     let f43 := c.active (43 + j) = true
     let up := c.coreUp = true ∧ c.engState e.val = 1
     let port := fun off : Nat => 0x5000 + 0x100 * j + off
     let reached := fun off : Nat => up ∧ c.claim e.val (port off) = 2 ∧ c.occCan j = false
     (reached (0x83 + 4 * q)) ∧ (
     (f43) ∧ (
     (c.sessOpen j q = true)))) ∧
    (
     let e : Fin 32 := 0
     let cc : Fin 2 := 0
     let t : Fin 8 := 0
     let s : State := st ({ claimed 0x5080 (chip [(Reg.FLASK_FSTAT_STATE 4, 3), (Reg.ENG_STAT_STATE 1, 5)]) with pwr := { coreRst := false, fieldRst := false }, test := { run := some (⟨8, 1, true⟩), landsTaken := false } })
     let c := s.chip
     let j := cc.val
     let q := t.val
     let f43 := c.active (43 + j) = true
     let up := c.coreUp = true ∧ c.engState e.val = 1
     let port := fun off : Nat => 0x5000 + 0x100 * j + off
     let reached := fun off : Nat => up ∧ c.claim e.val (port off) = 2 ∧ c.occCan j = false
     (reached (0x83 + 4 * q)) ∧ (
     (f43) ∧ (
     (c.sessOpen j q = false)))) ∧
    (
     let cc : Fin 2 := 0
     let t : Fin 8 := 0
     let s : State := st ({ chip [(Reg.CAN_SESS_STATE 0 0, 4)] with pwr := { coreRst := false, fieldRst := false }, ct := 2132159927 })
     let c := s.chip
     let j := cc.val
     let q := t.val
     (c.coreUp = true) ∧ (
     (c.sessOpen j q = true))) ∧
    (
     let cc : Fin 2 := 0
     let t : Fin 8 := 0
     let s : State := st (chip)
     let c := s.chip
     let j := cc.val
     let q := t.val
     (c.sessOpen j q = false)) := by
  refine ⟨?_, ?_, ?_, ?_, ?_, ?_, ?_, ?_, ?_, ?_, ?_, ?_⟩ <;> dsimp only <;> decide +kernel

/-- Witnesses of the hypotheses of Obligations.BackgroundTestEventResults (part 1). -/
theorem meets_BackgroundTestEventResults_1 :
    (
     let m : EccMemory := .sram
     let s : State := st ({ chip [(Reg.BKG_STAT_JRNL_READY, 3), (Reg.CHAIN_STAT_ROLE, 4), (Reg.LINK_PARTNER_LO 0, 0), (Reg.LINK_PARTNER_HI 0, 2), (Reg.SYS_ARM_CYC, 5), (Reg.SYS_CH_STAT_STATE, 5)] [(Reg.WIDE_POLL_EN 16, 1), (Reg.PIN_HVI_CFG_DEB 1, 7), (Reg.GATE_FRAME_CTL_URG 16, 0)] with pwr := { coreRst := false, fieldRst := false }, bkg := { rewrite := 8 :: [], logIdx := 32 } })
     let c := s.chip
     let b := c.bkg
     let runs := c.bkgRuns = true
     let scrubs := runs ∧ c.wkB Reg.BKG_CFG_SCRUB_EN = true
     let place : Nat × Nat := (0, 262144)
     (memPlace m = some place) ∧ (
     (scrubs) ∧ (
     (b.rewrite.length < 16)))) ∧
    (
     let m : EccMemory := .sram
     let s : State := st ({ chip [(Reg.BKG_STAT_JRNL_READY, 2), (Reg.CHAIN_INFO3_STRAP, 1), (Reg.BKG_JRNL_VALID_LO, 0), (Reg.CUFF_STAT_EN 0, 7), (Reg.WIDE_CFG_NPORTS, 3), (Reg.SYS_OTP_STAT_KEY_SET, 4), (Reg.SYS_OTP_STAT_BUSY, 0), (Reg.LINK_PARTNER_LO 1, 2), (Reg.CLK_STATUS_EN, 3), (Reg.SYS_ARM_CYC, 3), (Reg.GATE_STAT_ORIGIN, 5)] [(Reg.WIDE_POLL_PORT 1, 4), (Reg.WIDE_POLL_DIR 1, 7), (Reg.PIN_HVI_CFG_DEB 0, 5), (Reg.GATE_FRAME_CTL_URG 0, 3)] [(Reg.SYS_KEEP_STAT_RAIL_FAIL, 4)] with pwr := { coreRst := false, fieldRst := false }, bkg := { rewrite := 5 :: 5 :: 8 :: 5 :: 52 :: 6 :: 0 :: 1 :: 0 :: 32 :: 1 :: 2 :: 8 :: 0 :: 5 :: 5 :: [] } })
     let c := s.chip
     let b := c.bkg
     let runs := c.bkgRuns = true
     let scrubs := runs ∧ c.wkB Reg.BKG_CFG_SCRUB_EN = true
     let place : Nat × Nat := (0, 262144)
     (memPlace m = some place) ∧ (
     (scrubs) ∧ (
     (16 ≤ b.rewrite.length)))) ∧
    (
     let m : EccMemory := .can 0
     let s : State := st (chip)
     let c := s.chip
     let b := c.bkg
     let runs := c.bkgRuns = true
     let scrubs := runs ∧ c.wkB Reg.BKG_CFG_SCRUB_EN = true
     (memPlace m = none) ∧ (
     (scrubs) ∧ (
     (b.rewrite.length < 16)))) ∧
    (
     let m : EccMemory := .marks
     let s : State := st ({ chip [(Reg.SYNC_STAT_OVL, 8), (Reg.CAN_STAT_REC 0, 3), (Reg.CAN_CFG_MODE 0, 2), (Reg.CLK_CYC_NUM, 8), (Reg.PIN_STAT, 3), (Reg.SYS_IMG_RBI, 8), (Reg.SYS_BOOT_STATE, 0), (Reg.GATE_STAT_ORIGIN, 5), (Reg.MEAS_AIN_EN, 1), (Reg.LINK_STAT_STATE 0, 7), (Reg.CAN_STAT_EN 0, 0), (Reg.SYS_ARM_CYC, 1), (Reg.SYS_CH_STAT_STATE, 8), (Reg.CHAIN_INFO3_STRAP, 1), (Reg.BKG_JRNL_VALID_LO, 16), (Reg.BKG_JRNL_VAL 0 0, 0), (Reg.CAN_CFG_TSEG1 0, 3)] [(Reg.BKG_CFG_SCRUB_EN, 8), (Reg.FLASK_FCFG_AR_EN 0, 16)] [(Reg.CUFF_STAT_SWAP 0, 0), (Reg.SYS_KEEP_STAT_RAIL_FAIL, 16), (Reg.FUSE_STAT_LAST_TRIP 0, 5)] with pwr := { coreRst := false, fieldRst := false }, bkg := { rewrite := 1 :: 0 :: 1 :: 100 :: 3 :: 1 :: 5 :: 0 :: 52 :: 0 :: 1 :: 0 :: 8 :: 8 :: 3 :: 0 :: [], logIdx := 52 } })
     let c := s.chip
     let b := c.bkg
     let runs := c.bkgRuns = true
     let scrubs := runs ∧ c.wkB Reg.BKG_CFG_SCRUB_EN = true
     (memPlace m = none) ∧ (
     (scrubs) ∧ (
     (16 ≤ b.rewrite.length)))) ∧
    (
     let m : EccMemory := .can 0
     let s : State := st (chip)
     let c := s.chip
     let runs := c.bkgRuns = true
     let scrubs := runs ∧ c.wkB Reg.BKG_CFG_SCRUB_EN = true
     (memPlace m = none) ∧ (
     (scrubs) ∧ (
     ((∀ k : Fin 5, m ≠ .pd k))))) ∧
    (
     let m : EccMemory := .pd 0
     let s : State := st (chip)
     let c := s.chip
     let runs := c.bkgRuns = true
     let scrubs := runs ∧ c.wkB Reg.BKG_CFG_SCRUB_EN = true
     (memPlace m = none) ∧ (
     (scrubs) ∧ (
     let k : Fin 5 := 0
     (m = .pd k)))) ∧
    (
     let s : State := st (chip [] [(Reg.BKG_CFG_SCRUB_EN, 0)])
     let c := s.chip
     let runs := c.bkgRuns = true
     let scrubs := runs ∧ c.wkB Reg.BKG_CFG_SCRUB_EN = true
     (¬scrubs)) ∧
    (
     let fg : Bool := false
     let s : State := st ({ chip [(Reg.BKG_JRNL_VALID_LO, 7), (Reg.SYS_BOOT_STATE, 5), (Reg.LINK_STAT_WIDTH 0, 2), (Reg.LINK_PARTNER_LO 0, 8), (Reg.LINK_MARGIN_BUSY 0, 0), (Reg.CAN_STAT_REC 0, 7)] [(Reg.WIDE_POLL_EN 0, 5), (Reg.WIDE_POLL_DIR 1, 2), (Reg.GATE_FRAME_CTL_URG 0, 7)] [(Reg.SYS_KEEP_STAT_RAIL_FAIL, 1)] with pwr := { coreRst := false, fieldRst := false }, bkg := { rewrite := 0 :: [], logIdx := 0 } })
     let c := s.chip
     let b := c.bkg
     let runs := c.bkgRuns = true
     let scrubs := runs ∧ c.wkB Reg.BKG_CFG_SCRUB_EN = true
     (scrubs) ∧ (
     let a : Nat := 0
     let t : List Nat := []
     (b.rewrite = a :: t) ∧ (
     (fg = false)))) ∧
    (
     let fg : Bool := true
     let s : State := st ({ chip [(Reg.BKG_STAT_JRNL_READY, 7), (Reg.LINK_STAT_REQ_BUSY 0, 5), (Reg.CAN_CFG_MODE 0, 3)] [(Reg.WIDE_POLL_PORT 0, 4), (Reg.DRV_ELEC_FENCE 1, 2)] [(Reg.SYS_KEEP_STAT_KEEPF_OK, 8), (Reg.SYS_KEEP_STAT_RAIL_FAIL, 1)] with pwr := { coreRst := false, fieldRst := false }, bkg := { rewrite := 32 :: 0 :: [] } })
     let c := s.chip
     let b := c.bkg
     let runs := c.bkgRuns = true
     let scrubs := runs ∧ c.wkB Reg.BKG_CFG_SCRUB_EN = true
     (scrubs) ∧ (
     let a : Nat := 32
     let t : List Nat := [0]
     (b.rewrite = a :: t) ∧ (
     (fg = true)))) ∧
    (
     let s : State := st (chip)
     let c := s.chip
     let b := c.bkg
     (b.rewrite = [])) ∧
    (
     let s : State := st ({ chip with pwr := { coreRst := true, fieldRst := false } })
     let c := s.chip
     (c.coreUp = false)) ∧
    (
     let ok : Bool := true
     let s : State := st ({ chip with pwr := { coreRst := false, fieldRst := false }, bkg := { pend := ⟨3, true, 8 :: [], false⟩ :: ⟨16, true, 100 :: [], true⟩ :: [], sealed := true } })
     let c := s.chip
     let b := c.bkg
     (c.coreUp = true) ∧ (
     (b.sealed = true) ∧ (
     let p : JPut := { key := 3, del := true, val := [8], user := false }
     (b.pend.find? (fun q => c.active 53 || q.key == 0) = some p) ∧ (
     (ok = true))))) ∧
    (
     let ok : Bool := false
     let s : State := st ({ chip [(Reg.FLASK_FSTAT_STATE 0, 3)] with pwr := { coreRst := false, fieldRst := false }, bkg := { pend := ⟨1, true, 16 :: 0 :: 0 :: 100 :: 0 :: 1 :: 32 :: 4 :: 100 :: 0 :: 0 :: 0 :: 0 :: 0 :: 63 :: 6 :: [], true⟩ :: [], sealed := true } })
     let c := s.chip
     let b := c.bkg
     (c.coreUp = true) ∧ (
     (b.sealed = true) ∧ (
     let p : JPut := { key := 1, del := true, val := [16, 0, 0, 100, 0, 1, 32, 4, 100, 0, 0, 0, 0, 0, 63, 6], user := true }
     (b.pend.find? (fun q => c.active 53 || q.key == 0) = some p) ∧ (
     (ok = false))))) ∧
    (
     let s : State := st (chip)
     let c := s.chip
     let b := c.bkg
     (c.coreUp = false ∨ b.sealed = false ∨ b.pend.find? (fun q => c.active 53 || q.key == 0) = none)) ∧
    (
     let r : Requester := .engine 0
     let s : State := st (chip)
     let c := s.chip
     (c.takes r Reg.BKG_JRNL_KEY_KEY.addr = true)) ∧
    (
     let r : Requester := .engine 0
     let jw : Fin 4 := 0
     let s : State := st (chip)
     let c := s.chip
     (c.takes r (Reg.BKG_JRNL_DATA jw.val).addr = true)) := by
  refine ⟨?_, ?_, ?_, ?_, ?_, ?_, ?_, ?_, ?_, ?_, ?_, ?_, ?_, ?_, ?_, ?_⟩ <;> dsimp only <;> decide +kernel

/-- Witnesses of the hypotheses of Obligations.BackgroundTestEventResults (part 2). -/
theorem meets_BackgroundTestEventResults_2 :
    (
     let r : Requester := .mgmt
     let s : State := st ({ chip [(Reg.BKG_STAT_JRNL_READY, 63), (Reg.FLASK_FSTAT_STATE 0, 4), (Reg.CHAIN_STAT_ROLE, 63), (Reg.LINK_STAT_STATE 0, 4)] [(Reg.CHAIN_CFG_RSV_EN, 2)] with bkg := { jKey := 16 }, chain := { sel := true }, mem := [] })
     let c := s.chip
     let b := c.bkg
     let ready := c.flag Reg.BKG_STAT_JRNL_READY = true
     let busy := c.flag Reg.BKG_STAT_JRNL_BUSY = true
     let put := Reg.BKG_JRNL_PUT.addr
     (c.takes r put = true) ∧ (
     (b.jKey ≠ 0) ∧ (
     (b.jKey ≤ 63) ∧ (
     (¬busy) ∧ (
     (ready) ∧ (
     (c.active 53 = true))))))) ∧
    (
     let r : Requester := .engine 0
     let s : State := st (chip)
     let c := s.chip
     let b := c.bkg
     let ready := c.flag Reg.BKG_STAT_JRNL_READY = true
     let busy := c.flag Reg.BKG_STAT_JRNL_BUSY = true
     let put := Reg.BKG_JRNL_PUT.addr
     (c.takes r put = true) ∧ (
     (b.jKey = 0 ∨ 63 < b.jKey ∨ busy ∨ ¬ready ∨ c.active 53 = false))) ∧
    (
     let s : State := st ({ chip with pwr := { coreRst := false, fieldRst := false }, bkg := { written := ⟨5, false, 1 :: 0 :: 52 :: 32 :: [], true⟩ :: [] } })
     let c := s.chip
     let b := c.bkg
     (c.coreUp = true) ∧ (
     let p : JPut := { key := 5, del := false, val := [1, 0, 52, 32], user := true }
     (b.written.find? (fun q => c.active 53 || q.key == 0) = some p) ∧ (
     (p.user = true)))) ∧
    (
     let s : State := st ({ chip with pwr := { coreRst := false, fieldRst := false }, bkg := { written := ⟨7, true, [], false⟩ :: ⟨1, true, [], true⟩ :: [] } })
     let c := s.chip
     let b := c.bkg
     (c.coreUp = true) ∧ (
     let p : JPut := { key := 7, del := true, val := [], user := false }
     (b.written.find? (fun q => c.active 53 || q.key == 0) = some p) ∧ (
     (p.user = false)))) ∧
    (
     let s : State := st (chip)
     let c := s.chip
     let b := c.bkg
     (c.coreUp = false ∨ b.written.find? (fun q => c.active 53 || q.key == 0) = none)) ∧
    (
     let s : State := st (chip [(Reg.BKG_STAT_JRNL_READY, 3)])
     let c := s.chip
     let b := c.bkg
     let runs := c.bkgRuns = true
     let ready := c.flag Reg.BKG_STAT_JRNL_READY = true
     (runs) ∧ (
     (ready) ∧ (
     (b.sealed = false)))) ∧
    (
     let s : State := st (chip)
     let c := s.chip
     let b := c.bkg
     let runs := c.bkgRuns = true
     let ready := c.flag Reg.BKG_STAT_JRNL_READY = true
     (¬runs ∨ ¬ready ∨ b.sealed = true)) ∧
    (
     let s : State := st (let c := chip; { c with bkg := { c.bkg with logQ := List.replicate 16 [1, 2, 3, 4] } })
     let c := s.chip
     let b := c.bkg
     let runs := c.bkgRuns = true
     (runs) ∧ (
     (b.logQ ≠ []) ∧ (
     (16 ≤ b.logQ.length)))) ∧
    (
     let s : State := st ({ chip with bkg := { logQ := [[]] } })
     let c := s.chip
     let b := c.bkg
     let runs := c.bkgRuns = true
     (runs) ∧ (
     (b.logQ ≠ []) ∧ (
     (b.logQ.length < 16)))) ∧
    (
     let s : State := st (chip)
     let c := s.chip
     let b := c.bkg
     let runs := c.bkgRuns = true
     (¬runs ∨ b.logQ = [])) ∧
    (
     let r : Requester := .engine 0
     let s : State := st (chip)
     let c := s.chip
     let log := Reg.BKG_LOG_IDX.addr
     (c.takes r log = true) ∧ (
     (c.flag Reg.BKG_STAT_LOG_RD_BUSY = false) ∧ (
     (c.active 53 = true)))) ∧
    (
     let r : Requester := .mgmt
     let s : State := st (chip [(Reg.BKG_STAT_LOG_RD_BUSY, 1)])
     let c := s.chip
     let log := Reg.BKG_LOG_IDX.addr
     (c.takes r log = true) ∧ (
     (c.flag Reg.BKG_STAT_LOG_RD_BUSY = true ∨ c.active 53 = false))) ∧
    (
     let s : State := st (chip [(Reg.BKG_STAT_LOG_RD_BUSY, 3)])
     let c := s.chip
     let runs := c.bkgRuns = true
     (runs) ∧ (
     (c.flag Reg.BKG_STAT_LOG_RD_BUSY = true))) ∧
    (
     let s : State := st (chip)
     let c := s.chip
     let runs := c.bkgRuns = true
     (¬runs ∨ c.flag Reg.BKG_STAT_LOG_RD_BUSY = false)) ∧
    (
     let s : State := st ({ chip with bkg := { logQ := [[]] } })
     let c := s.chip
     let b := c.bkg
     let n : Nat := 0
     (n < b.logQ.length)) ∧
    (
     let s : State := st (chip [(Reg.LINK_MARGIN_BUSY 4, 8), (Reg.LINK_STAT_WIDTH 0, 3), (Reg.LINK_STAT_STATE 0, 7), (Reg.BKG_STAT_JRNL_READY, 4), (Reg.CHAIN_INFO3_STRAP, 8), (Reg.BKG_JRNL_VALID_LO, 0), (Reg.BKG_JRNL_VAL 0 0, 0), (Reg.SYS_BOOT_STATE, 7), (Reg.SYS_BOOT_STORE_BUSY, 1), (Reg.SYNC_STAT_OVL, 7), (Reg.CHAIN_STAT_ROLE, 3), (Reg.CLK_CYC_NUM, 1), (Reg.CAN_CFG_AUTO_BO 4, 3), (Reg.LINK_STAT_REQ_BUSY 0, 3), (Reg.CUFF_STAT_EN 0, 2), (Reg.WIDE_CFG_NPORTS, 4), (Reg.SYS_OTP_STAT_KEY_SET, 0), (Reg.SYS_OTP_STAT_BUSY, 8), (Reg.LINK_PARTNER_LO 0, 8), (Reg.LINK_PARTNER_HI 1, 7), (Reg.CLK_STATUS_EN, 5), (Reg.CAN_STAT_STATE 0, 3), (Reg.SYS_ARM_CYC, 2), (Reg.CAN_STAT_REC 0, 7), (Reg.CAN_CFG_MODE 0, 8), (Reg.SYS_CH_STAT_STATE, 4), (Reg.PIN_STAT, 2)] [(Reg.BKG_CFG_MARGIN_EN, 4), (Reg.WIDE_POLL_PORT 4, 5), (Reg.WIDE_POLL_EN 0, 5), (Reg.WIDE_POLL_DIR 1, 4), (Reg.DRV_ELEC_FENCE 4, 2), (Reg.PIN_HVI_CFG_DEB 0, 1), (Reg.FUSE_STAT_EN 0, 1)] [(Reg.SYS_KEEP_STAT_KEEPF_OK, 5), (Reg.SYS_KEEP_STAT_RAIL_FAIL, 0), (Reg.CUFF_STAT_FRS_ARMED 0, 7), (Reg.CUFF_STAT_SWAP 1, 8), (Reg.PIN_HVI_RAW, 1)])
     let c := s.chip
     let b := c.bkg
     let runs := c.bkgRuns = true
     (runs) ∧ (
     (c.wkB Reg.BKG_CFG_MARGIN_EN = true) ∧ (
     let u := if b.scanAt = 0 then c else c.timeTo (b.scanAt - 1 + 1000000000 * max 1 (c.wk Reg.BKG_CFG_MARGIN_EVERY))
     let t := u.setBkg { u.bkg with scanAt := u.ct.toNat + 1 }
     let free := t.flag (Reg.LINK_MARGIN_BUSY 0) = false ∧ t.flag (Reg.LINK_MARGIN_BUSY 1) = false
     (free) ∧ (
     let l : Nat := 0
     (((List.range 4).map (fun k => (t.bkg.lane + k) % 4)).find? t.laneUsed = some l))))) := by
  refine ⟨?_, ?_, ?_, ?_, ?_, ?_, ?_, ?_, ?_, ?_, ?_, ?_, ?_, ?_, ?_, ?_⟩ <;> dsimp only <;> decide +kernel

/-- Witnesses of the hypotheses of Obligations.BackgroundTestEventResults (part 3). -/
theorem meets_BackgroundTestEventResults_3 :
    (
     let s : State := st (chip)
     let c := s.chip
     let b := c.bkg
     let runs := c.bkgRuns = true
     (runs) ∧ (
     (c.wkB Reg.BKG_CFG_MARGIN_EN = true) ∧ (
     let u := if b.scanAt = 0 then c else c.timeTo (b.scanAt - 1 + 1000000000 * max 1 (c.wk Reg.BKG_CFG_MARGIN_EVERY))
     let t := u.setBkg { u.bkg with scanAt := u.ct.toNat + 1 }
     let free := t.flag (Reg.LINK_MARGIN_BUSY 0) = false ∧ t.flag (Reg.LINK_MARGIN_BUSY 1) = false
     (¬free ∨ (∀ l : Nat, l < 4 → t.laneUsed l = false))))) ∧
    (
     let s : State := st State.reset.chip
     let c := s.chip
     let runs := c.bkgRuns = true
     (¬runs ∨ c.wkB Reg.BKG_CFG_MARGIN_EN = false)) ∧
    (
     let r : Requester := .engine 0
     let scope : BitVec 5 := 5
     let force : Bool := false
     let s : State := st (chip [(Reg.TEST_STAT_BUSY, 7)])
     let c := s.chip
     let go := Reg.TEST_GO_KIND.addr
     let starts : List (Instr × Nat × Bool) :=
     [(.testPins r scope force, 1, force), (.testNeighbour r scope, 2, false), (.testLbist r scope force, 3, force)]
     let a : Instr × Nat × Bool := (.testPins r scope force, 1, force)
     (c.takes r go = true) ∧ (
     (c.flag Reg.TEST_STAT_BUSY = true))) ∧
    (
     let r : Requester := .gate
     let scope : BitVec 5 := 2
     let force : Bool := false
     let s : State := st (chip [(Reg.TEST_STAT_BUSY, 4)])
     let c := s.chip
     let go := Reg.TEST_GO_KIND.addr
     let sc := scope.toNat
     let starts : List (Instr × Nat × Bool) :=
     [(.testPins r scope force, 1, force), (.testNeighbour r scope, 2, false), (.testLbist r scope force, 3, force)]
     let a : Instr × Nat × Bool := (.testPins r scope force, 1, force)
     (c.takes r go = true) ∧ (
     let kind := a.2.1
     let why := c.testRefusal kind sc a.2.2
     (c.flag Reg.TEST_STAT_BUSY = false) ∧ (
     (why ≠ 0)))) ∧
    (
     let r : Requester := .gate
     let scope : BitVec 5 := 0
     let force : Bool := false
     let s : State := st (chip [(Reg.TEST_STAT_BUSY, 0), (Reg.FLASK_FSTAT_STATE 0, 5), (Reg.CAN_STAT_EN 0, 3), (Reg.CUFF_STAT_CONTRACT 0, 3), (Reg.LINK_STAT_WIDTH 0, 7), (Reg.CLK_CYC_NUM, 2), (Reg.CLK_STATUS_CORE_LOCK, 7), (Reg.CLK_FREQ, 7), (Reg.SEAM_STATUS_UP, 1), (Reg.TEST_STAT_VCORE_OK, 1), (Reg.ENG_STAT_STATE 0, 5), (Reg.LINK_STAT_STATE 0, 5)])
     let c := s.chip
     let go := Reg.TEST_GO_KIND.addr
     let sc := scope.toNat
     let starts : List (Instr × Nat × Bool) :=
     [(.testPins r scope force, 1, force), (.testNeighbour r scope, 2, false), (.testLbist r scope force, 3, force)]
     let a : Instr × Nat × Bool := (.testPins r scope force, 1, force)
     (c.takes r go = true) ∧ (
     let kind := a.2.1
     let why := c.testRefusal kind sc a.2.2
     (c.flag Reg.TEST_STAT_BUSY = false) ∧ (
     (why = 0) ∧ (
     (scopeCuff kind sc = none))))) ∧
    (
     let r : Requester := .gate
     let scope : BitVec 5 := 5
     let force : Bool := false
     let s : State := st ({ chip [(Reg.FLASK_FSTAT_STATE 0, 4), (Reg.CLK_CYC_NUM, 5), (Reg.ENG_STAT_STATE 0, 0), (Reg.SEAM_STATUS_UP, 1), (Reg.TEST_STAT_VCORE_OK, 5), (Reg.CLK_STATUS_CORE_LOCK, 7), (Reg.CLK_FREQ, 0)] with test := { nbCycle := 63, landsTaken := false } })
     let c := s.chip
     let go := Reg.TEST_GO_KIND.addr
     let sc := scope.toNat
     let starts : List (Instr × Nat × Bool) :=
     [(.testPins r scope force, 1, force), (.testNeighbour r scope, 2, false), (.testLbist r scope force, 3, force)]
     let a : Instr × Nat × Bool := (.testPins r scope force, 1, force)
     (c.takes r go = true) ∧ (
     let kind := a.2.1
     let why := c.testRefusal kind sc a.2.2
     (c.flag Reg.TEST_STAT_BUSY = false) ∧ (
     (why = 0) ∧ (
     let k : Nat := 0
     (scopeCuff kind sc = some k))))) ∧
    (
     let s : State := st (chip)
     let c := s.chip
     (c.supplyOk = false)) ∧
    (
     let s : State := st (chip [(Reg.CLK_STATUS_CORE_LOCK, 4), (Reg.CLK_FREQ, 7), (Reg.TEST_STAT_VCORE_OK, 3)])
     let c := s.chip
     (c.supplyOk = true) ∧ (
     (c.clockOk = false))) ∧
    (
     let s : State := st (chip [(Reg.CLK_STATUS_CORE_LOCK, 3), (Reg.CLK_FREQ, 8), (Reg.SEAM_STATUS_UP, 4), (Reg.TEST_STAT_VCORE_OK, 1)])
     let c := s.chip
     (c.supplyOk = true) ∧ (
     (c.clockOk = true) ∧ (
     let kind : Nat := 1
     let scp : Nat := 100
     (fieldScope kind scp = true) ∧ (
     (c.seamUp = false))))) ∧
    (
     let s : State := st (chip [(Reg.CLK_STATUS_CORE_LOCK, 7), (Reg.CLK_FREQ, 7), (Reg.SEAM_STATUS_UP, 7), (Reg.TEST_STAT_VCORE_OK, 5)])
     let c := s.chip
     (c.supplyOk = true) ∧ (
     (c.clockOk = true) ∧ (
     (c.seamUp = true) ∧ (
     let kind : Nat := 32
     let scp : Nat := 4
     (scopeOk kind scp = false))))) ∧
    (
     let r : Requester := .engine 0
     let s : State := st (chip)
     let c := s.chip
     (c.takes r Reg.TEST_NB_CYCLE.addr = true)) ∧
    (
     let s : State := st (chip [] [(Reg.BKG_CFG_SCRUB_EN, 0)])
     let c := s.chip
     let nb := c.coreUp = true ∧ (c.testing 2 0 = true ∨ c.testing 2 1 = true) ∧ c.get Reg.CLK_CYC_NUM = c.test.nbCycle
     (¬nb)) ∧
    (
     let s : State := st State.reset.chip
     let c := s.chip
     (c.fieldUp = false)) ∧
    (
     let s : State := st (let c := testing 2 0 (chip [(Reg.LINK_PHY_MEDIA 0, 1)]); { c with test := { c.test with prbs := true }, ct := 50000 })
     let c := s.chip
     let nb := c.coreUp = true ∧ (c.testing 2 0 = true ∨ c.testing 2 1 = true) ∧ c.get Reg.CLK_CYC_NUM = c.test.nbCycle
     (nb) ∧ (
     (c.fieldUp = true) ∧ (
     let t := c.timeTo (c.clk.markNs + 50000)
     let p := if t.testing 2 0 = true then 0 else 1
     (t.flag (Reg.LINK_PHY_MEDIA p) = true)))) ∧
    (
     let s : State := st (let c := testing 2 1 (chip [(Reg.LINK_STAT_ROLE 1, 1)]); { c with test := { c.test with prbs := true }, ct := 50000 })
     let c := s.chip
     let nb := c.coreUp = true ∧ (c.testing 2 0 = true ∨ c.testing 2 1 = true) ∧ c.get Reg.CLK_CYC_NUM = c.test.nbCycle
     (nb) ∧ (
     (c.fieldUp = true) ∧ (
     let t := c.timeTo (c.clk.markNs + 50000)
     let p := if t.testing 2 0 = true then 0 else 1
     let u := t.put Reg.TEST_NB_STAT_TRUNK_VALID 1
     (t.flag (Reg.LINK_PHY_MEDIA p) = false) ∧ (
     (u.linkTailward p = true))))) ∧
    (
     let s : State := st ({ chip [(Reg.LINK_PHY_MEDIA 0, 0)] with pwr := { coreRst := false, fieldRst := false }, test := { run := some (⟨2, 1, false⟩), nbCycle := 0, prbs := true }, ct := 721233259 })
     let c := s.chip
     let nb := c.coreUp = true ∧ (c.testing 2 0 = true ∨ c.testing 2 1 = true) ∧ c.get Reg.CLK_CYC_NUM = c.test.nbCycle
     (nb) ∧ (
     (c.fieldUp = true) ∧ (
     let t := c.timeTo (c.clk.markNs + 50000)
     let p := if t.testing 2 0 = true then 0 else 1
     let u := t.put Reg.TEST_NB_STAT_TRUNK_VALID 1
     (t.flag (Reg.LINK_PHY_MEDIA p) = false) ∧ (
     (u.linkTailward p = false))))) := by
  refine ⟨?_, ?_, ?_, ?_, ?_, ?_, ?_, ?_, ?_, ?_, ?_, ?_, ?_, ?_, ?_, ?_⟩ <;> dsimp only <;> decide +kernel

/-- Witnesses of the hypotheses of Obligations.BackgroundTestEventResults (part 4). -/
theorem meets_BackgroundTestEventResults_4 :
    (
     let o : TestObs := ⟨0, 0, false, false, 1, 0⟩
     let s : State := st ({ chip with pwr := { coreRst := false, fieldRst := false }, test := { run := some (⟨1, 1, false⟩) } })
     let c := s.chip
     (c.coreUp = true) ∧ (
     let t : RunningTest := ⟨1, 1, false⟩
     (c.test.run = some t) ∧ (
     (t.kind = 1) ∧ (
     (o.stuck = 0) ∧ (
     (o.short = 0)))))) ∧
    (
     let o : TestObs := ⟨1, 0, false, false, 1, 0⟩
     let s : State := st ({ chip with pwr := { coreRst := false, fieldRst := false }, test := { run := some (⟨1, 1, false⟩) } })
     let c := s.chip
     (c.coreUp = true) ∧ (
     let t : RunningTest := ⟨1, 1, false⟩
     (c.test.run = some t) ∧ (
     (t.kind = 1) ∧ (
     (o.stuck ≠ 0 ∨ o.short ≠ 0))))) ∧
    (
     let s : State := st (let c := chip [(Reg.CLK_CYC_NUM, 4)]; { c with test := { c.test with run := some ⟨2, 1, false⟩, nbCycle := 9 } })
     let c := s.chip
     (c.coreUp = true) ∧ (
     let t : RunningTest := ⟨2, 1, false⟩
     (c.test.run = some t) ∧ (
     (t.kind = 2) ∧ (
     (later c.test.nbCycle (c.get Reg.CLK_CYC_NUM) = true))))) ∧
    (
     let o : TestObs := ⟨0, 0, false, false, 0, 0⟩
     let s : State := st ({ chip with pwr := { coreRst := false, fieldRst := false }, test := { run := some (⟨2, 8, false⟩), prbs := true }, ct := 1433629059 })
     let c := s.chip
     (c.coreUp = true) ∧ (
     let t : RunningTest := { kind := 2, scope := 8, force := false }
     (c.test.run = some t) ∧ (
     (t.kind = 2) ∧ (
     (later c.test.nbCycle (c.get Reg.CLK_CYC_NUM) = false) ∧ (
     (o.lock = false)))))) ∧
    (
     let o : TestObs := ⟨0, 0, true, false, 0, 0⟩
     let s : State := st ({ chip with pwr := { coreRst := false, fieldRst := false }, test := { run := some (⟨2, 8, false⟩), prbs := true }, ct := 1433629059 })
     let c := s.chip
     (c.coreUp = true) ∧ (
     let t : RunningTest := { kind := 2, scope := 8, force := false }
     (c.test.run = some t) ∧ (
     (t.kind = 2) ∧ (
     (later c.test.nbCycle (c.get Reg.CLK_CYC_NUM) = false) ∧ (
     (o.lock = true) ∧ (
     (o.errors = 0))))))) ∧
    (
     let o : TestObs := ⟨0, 0, true, false, 1, 0⟩
     let s : State := st ({ chip with pwr := { coreRst := false, fieldRst := false }, test := { run := some (⟨2, 8, false⟩), prbs := true }, ct := 1433629059 })
     let c := s.chip
     (c.coreUp = true) ∧ (
     let t : RunningTest := { kind := 2, scope := 8, force := false }
     (c.test.run = some t) ∧ (
     (t.kind = 2) ∧ (
     (later c.test.nbCycle (c.get Reg.CLK_CYC_NUM) = false) ∧ (
     (o.lock = true) ∧ (
     (o.errors ≠ 0))))))) ∧
    (
     let o : TestObs := ⟨0, 0, false, false, 1, Sys2Proof.Config.lbistReference 31⟩
     let s : State := st (testing 3 31 chip)
     let c := s.chip
     (c.coreUp = true) ∧ (
     let t : RunningTest := ⟨3, 31, false⟩
     (c.test.run = some t) ∧ (
     (t.kind = 3) ∧ (
     (o.sig = Sys2Proof.Config.lbistReference t.scope))))) ∧
    (
     let o : TestObs := ⟨0, 0, false, false, 1, Sys2Proof.Config.lbistReference 31 + 1⟩
     let s : State := st (testing 3 31 chip)
     let c := s.chip
     (c.coreUp = true) ∧ (
     let t : RunningTest := ⟨3, 31, false⟩
     (c.test.run = some t) ∧ (
     (t.kind = 3) ∧ (
     (o.sig ≠ Sys2Proof.Config.lbistReference t.scope))))) ∧
    (
     let cause : BitVec 3 := 2
     let s : State := st ({ chip [(Reg.LINK_STAT_STATE 0, 0)] with pwr := { coreRst := false, fieldRst := false }, test := { run := some (⟨2, 8, false⟩) } })
     let c := s.chip
     (c.coreUp = true) ∧ (
     let t : RunningTest := { kind := 2, scope := 8, force := false }
     (c.test.run = some t) ∧ (
     (cause = 2) ∧ (
     (t.kind = 2) ∧ (
     (c.linkActive t.scope = false)))))) ∧
    (
     let cause : BitVec 3 := 2
     let s : State := st ({ chip [(Reg.LINK_STAT_STATE 0, 0)] with pwr := { coreRst := false, fieldRst := false }, test := { run := some (⟨8, 8, false⟩) } })
     let c := s.chip
     (c.coreUp = true) ∧ (
     let t : RunningTest := { kind := 8, scope := 8, force := false }
     (c.test.run = some t) ∧ (
     (cause = 2) ∧ (
     (t.kind ≠ 2 ∨ c.linkActive t.scope = true))))) ∧
    (
     let cause : BitVec 3 := 3
     let s : State := st (testing 3 5 (chip [(Reg.FLASK_FSTAT_STATE 44, 1)]))
     let c := s.chip
     (c.coreUp = true) ∧ (
     let t : RunningTest := ⟨3, 5, false⟩
     (c.test.run = some t) ∧ (
     (cause = 3) ∧ (
     ((∃ f ∈ testFlasks t.kind t.scope, c.active f = false)))))) ∧
    (
     let cause : BitVec 3 := 3
     let s : State := st ({ chip [(Reg.FLASK_FSTAT_STATE 0, 8)] with pwr := { coreRst := false, fieldRst := false }, test := { run := some (⟨100, 16, true⟩) } })
     let c := s.chip
     (c.coreUp = true) ∧ (
     let t : RunningTest := { kind := 100, scope := 16, force := true }
     (c.test.run = some t) ∧ (
     (cause = 3) ∧ (
     ((∀ f ∈ testFlasks t.kind t.scope, c.active f = true)))))) ∧
    (
     let cause : BitVec 3 := 4
     let s : State := st ({ chip with seam := { lost := true }, pwr := { coreRst := false, fieldRst := false }, test := { run := some (⟨1, 32, true⟩) } })
     let c := s.chip
     (c.coreUp = true) ∧ (
     let t : RunningTest := { kind := 1, scope := 32, force := true }
     (c.test.run = some t) ∧ (
     (cause = 4) ∧ (
     (fieldScope t.kind t.scope = true) ∧ (
     (c.seam.lost = true)))))) ∧
    (
     let cause : BitVec 3 := 4
     let s : State := st ({ chip with seam := { lost := true }, pwr := { coreRst := false, fieldRst := false }, test := { run := some (⟨52, 0, true⟩) } })
     let c := s.chip
     (c.coreUp = true) ∧ (
     let t : RunningTest := { kind := 52, scope := 0, force := true }
     (c.test.run = some t) ∧ (
     (cause = 4) ∧ (
     (fieldScope t.kind t.scope = false ∨ c.seam.lost = false))))) ∧
    (
     let cause : BitVec 3 := 0
     let s : State := st ({ chip with pwr := { coreRst := false, fieldRst := false }, test := { run := some (⟨0, 0, false⟩) } })
     let c := s.chip
     (c.coreUp = true) ∧ (
     let t : RunningTest := ⟨0, 0, false⟩
     (c.test.run = some t) ∧ (
     (cause = 0 ∨ 5 ≤ cause.toNat)))) ∧
    (
     let r : Requester := .mgmt
     let s : State := st ({ chip with pwr := { coreRst := false, fieldRst := false }, test := { run := some (⟨0, 4, false⟩) } })
     let c := s.chip
     (c.coreUp = true) ∧ (
     let t : RunningTest := { kind := 0, scope := 4, force := false }
     (c.test.run = some t) ∧ (
     (c.takes r Reg.TEST_ABORT.addr = true)))) := by
  refine ⟨?_, ?_, ?_, ?_, ?_, ?_, ⟨by decide +kernel, by decide +kernel, by decide, rfl⟩, ⟨by decide +kernel, by decide +kernel, by decide, by intro h; bv_omega⟩, ?_, ?_, ?_, ?_, ?_, ?_, ?_, ?_⟩ <;> dsimp only <;> decide +kernel

/-- Witnesses of the hypotheses of Obligations.BackgroundTestEventResults (part 5). -/
theorem meets_BackgroundTestEventResults_5 :
    (
     let r : Requester := .engine 0
     let s : State := st (chip)
     let c := s.chip
     (c.test.run = none) ∧ (
     (c.takes r Reg.TEST_ABORT.addr = true))) ∧
    (
     let s : State := st (chip [(Reg.SEAM_STATUS_UP, 1), (Reg.TEST_STAT_VCORE_OK, 1), (Reg.CLK_STATUS_CORE_LOCK, 1), (Reg.CLK_FREQ, 0)] [(Reg.TEST_CFG_JTAG_PIN, 1)])
     let c := s.chip
     let z := c.put Reg.TEST_STAT_JTAG_REFUSED 0
     let landed : List (Instr × Nat) := [(.tapExtest, 0), (.tapExtestPulse, 8), (.tapExtestTrain, 9), (.tapClamp, 4), (.tapHighz, 5)]
     let a : Instr × Nat := (.tapHighz, 5)
     (z.landsMay = true) ∧ (
     (a.2 = 4 ∨ a.2 = 5))) ∧
    (
     let s : State := st (chip [(Reg.SEAM_STATUS_UP, 1), (Reg.TEST_STAT_VCORE_OK, 1), (Reg.CLK_STATUS_CORE_LOCK, 1), (Reg.CLK_FREQ, 0)] [(Reg.TEST_CFG_JTAG_PIN, 1)])
     let c := s.chip
     let z := c.put Reg.TEST_STAT_JTAG_REFUSED 0
     let landed : List (Instr × Nat) := [(.tapExtest, 0), (.tapExtestPulse, 8), (.tapExtestTrain, 9), (.tapClamp, 4), (.tapHighz, 5)]
     let a : Instr × Nat := (.tapExtest, 0)
     (z.landsMay = true) ∧ (
     (a.2 ≠ 4) ∧ (
     (a.2 ≠ 5)))) ∧
    (
     let s : State := st (chip)
     let c := s.chip
     let z := c.put Reg.TEST_STAT_JTAG_REFUSED 0
     let landed : List (Instr × Nat) := [(.tapExtest, 0), (.tapExtestPulse, 8), (.tapExtestTrain, 9), (.tapClamp, 4), (.tapHighz, 5)]
     let a : Instr × Nat := (.tapExtest, 0)
     (z.landsMay = false)) ∧
    (
     let s : State := st (chip)
     let c := s.chip
     (c.test.landsTaken = false)) ∧
    (
     let src : Fin 128 := 0
     let s : State := st (chip)
     let c := s.chip
     (c.coreUp = true) ∧ (
     (evReserved src.val = false))) ∧
    (
     let src : Fin 128 := 101
     let s : State := st (chip)
     let c := s.chip
     (c.coreUp = false ∨ evReserved src.val = true)) ∧
    (
     let src : Fin 128 := 0
     let s : State := st (chip)
     let c := s.chip
     (c.coreUp = true) ∧ (
     (c.wk (Reg.EVT_ROUTE_LIMIT src.val) = 0) ∧ (
     (c.evt.latched = [])))) ∧
    (
     let r : Requester := .mgmt
     let sig : BitVec 7 := 126
     let s : State := st (chip)
     let c := s.chip
     (c.takes r Reg.EVT_SIGNAL.addr = true) ∧ (
     (112 ≤ sig.toNat))) ∧
    (
     let r : Requester := .engine 0
     let sig : BitVec 7 := 5
     let s : State := st (chip)
     let c := s.chip
     (c.takes r Reg.EVT_SIGNAL.addr = true) ∧ (
     (sig.toNat < 112))) := by
  refine ⟨?_, ?_, ?_, ?_, ?_, ?_, ?_, ?_, ?_, ?_⟩ <;> dsimp only <;> decide +kernel

end Sys2Proof.Tests
end

section
/-! PROOF. Control of the engines (09_sprue_engines.md R197 to R199, R202, R212 to R214): how a register command that is taken ends, what
each control register of an engine does, and what an engine put into a state reads. -/

namespace Sys2Proof.Machine

/-! A command register that is taken -/

/-- Past every ground to turn a write of a command register away, what the register does decides the outcome and the block. -/
theorem Chip.command_of_takes {s : Chip} {r : Requester} {a : Nat} (h : s.takes r a = true) (act : Chip → Did) :
    s.command r a act = (act s).2.respond r a (act s).1 := by
  unfold Chip.takes at h
  cases hl : locate a with
  | none => simp [hl] at h
  | some l =>
    simp only [hl, Bool.and_eq_true, Bool.not_eq_true'] at h
    obtain ⟨hup, hturned, hocc⟩ := h
    have hmgmt : ¬(r = .mgmt ∧ (!s.active 52) = true ∧ l.blk ≠ 8) := by
      rintro ⟨hr, hact, hblk⟩
      simp [hr, hact, hblk] at hturned
    simp only [Chip.command, hup, hl, if_neg hmgmt, hocc, Bool.not_true, Bool.false_eq_true, if_false]

/-- A register command that is taken gives what its register does on the block, and the requester learns the outcome. -/
theorem gives_of_takes {i : Instr} {s : State} {r : Requester} {a : Nat} {act : Chip → Did} {o : Acc} {c : Chip}
    (hexec : exec i s = s.run (fun b => b.command r a act)) (ht : s.chip.takes r a = true) (hact : act s.chip = (o, c)) :
    Gives i s (c.respond r a o) := by
  unfold Gives
  rw [hexec, State.run, Chip.command_of_takes ht, hact]

/-! What each control register of one engine does -/

section
variable {s : Chip} {r : Requester} {e : Nat}

/-- The software trap as the state and the cause tell it (R202). -/
theorem Chip.softTrap_iff : s.softTrap e = true ↔ s.engState e = 3 ∧ s.get (Reg.ENG_TRAP_CAUSE e) = 8 := by
  simp [Chip.softTrap]

/-- R199 bars a requester that may not control the engine from each of its control registers. -/
theorem Chip.ctl_refused (h : s.mayCtl r e = false) :
    s.ctlStart r e = (.refused, s) ∧ s.ctlHalt r e = (.refused, s) ∧ s.ctlResume r e = (.refused, s) ∧
    s.ctlReset r e = (.refused, s) ∧ s.ctlArmStart r e = (.refused, s) ∧ s.ctlArmHalt r e = (.refused, s) ∧
    s.ctlArmClr r e = (.refused, s) := by
  have hbar : (!s.mayCtl r e) = true := by rw [h]; rfl
  exact ⟨if_pos hbar, if_pos hbar, if_pos hbar, if_pos hbar, if_pos hbar, if_pos hbar, if_pos hbar⟩

/-- START of an engine, once permitted (R211, R213, R214). -/
theorem Chip.ctlStart_permitted (h : s.mayCtl r e = true) : s.ctlStart r e =
    if s.engState e ≠ 0 ∨ s.loadingTo e = true ∨ s.flag (Reg.ENG_STAT_ARM_START e) = true ∨ s.flag (Reg.ENG_STAT_ARM_HALT e) = true
    then s.no r.code 5 e 4 else (s.engStart e).ok := by
  simp [Chip.ctlStart, h]

/-- HALT of an engine, once permitted (R197). -/
theorem Chip.ctlHalt_permitted (h : s.mayCtl r e = true) : s.ctlHalt r e =
    if s.engState e = 4 ∨ (s.engState e = 3 ∧ ¬(s.engState e = 3 ∧ s.get (Reg.ENG_TRAP_CAUSE e) = 8)) then s.no r.code 5 e 4
    else if s.engState e = 0 then s.ok
    else if s.engState e = 3 then (s.setEngState e 0).ok
    else (s.setEng e { s.eng e with haltReq := true }).ok := by
  simp [Chip.ctlHalt, h, Chip.softTrap_iff]

/-- RESUME of an engine, once permitted (R202). -/
theorem Chip.ctlResume_permitted (h : s.mayCtl r e = true) : s.ctlResume r e =
    if ¬(s.engState e = 3 ∧ s.get (Reg.ENG_TRAP_CAUSE e) = 8) ∨ s.loadingTo e = true then s.no r.code 5 e 4
    else (s.setEngState e 1).ok := by
  simp [Chip.ctlResume, h, Chip.softTrap_iff]

/-- RESET of an engine, once permitted (R198). -/
theorem Chip.ctlReset_permitted (h : s.mayCtl r e = true) : s.ctlReset r e =
    if ¬(s.engState e = 0 ∨ (s.engState e = 3 ∧ s.get (Reg.ENG_TRAP_CAUSE e) = 8)) then s.no r.code 5 e 4
    else ((((s.setEngState e 0).engClear e).locksSeize e none).poolReclaim e).ok := by
  simp [Chip.ctlReset, h, Chip.softTrap_iff]

/-- ARM_START of an engine, once permitted (R211, R214). -/
theorem Chip.ctlArmStart_permitted (h : s.mayCtl r e = true) : s.ctlArmStart r e =
    if s.engState e ≠ 0 ∨ s.loadingTo e = true then s.no r.code 5 e 4 else (s.put (Reg.ENG_STAT_ARM_START e) 1).ok := by
  simp [Chip.ctlArmStart, h]

/-- ARM_HALT of an engine, once permitted (R214). -/
theorem Chip.ctlArmHalt_permitted (h : s.mayCtl r e = true) : s.ctlArmHalt r e =
    if ¬(s.engState e = 1 ∨ s.engState e = 2) then s.no r.code 5 e 4 else (s.put (Reg.ENG_STAT_ARM_HALT e) 1).ok := by
  simp [Chip.ctlArmHalt, h]

/-- ARM_CLR of an engine, once permitted (R214). -/
theorem Chip.ctlArmClr_permitted (h : s.mayCtl r e = true) :
    s.ctlArmClr r e = ((s.put (Reg.ENG_STAT_ARM_START e) 0).put (Reg.ENG_STAT_ARM_HALT e) 0).ok := by
  simp [Chip.ctlArmClr, h]

/-- A requested halt takes hold in RUN and in WAIT (R197). -/
theorem Chip.engHalted_asked (hreq : (s.eng e).haltReq = true) (hst : s.engState e = 1 ∨ s.engState e = 2) :
    s.engHalted e = (s.abandonWait e).setEngState e 0 := by
  simp [Chip.engHalted, Chip.engHaltNow, hreq, hst]

/-- No halt takes hold that nobody asked for, nor in a state that executes nothing (R197). -/
theorem Chip.engHalted_idle (h : (s.eng e).haltReq = false ∨ (s.engState e ≠ 1 ∧ s.engState e ≠ 2)) : s.engHalted e = s := by
  refine if_neg fun hh => ?_
  simp only [Bool.and_eq_true, Bool.or_eq_true, beq_iff_eq] at hh
  obtain ⟨hreq, hst⟩ := hh
  rcases h with h | ⟨hrun, hwait⟩
  · simp [h] at hreq
  · exact hst.elim hrun hwait

end

/-- The moment a requested halt may take hold gives what it does to the engine (R197). -/
theorem gives_engineHalted {s : State} {e : Fin 32} {c : Chip} (h : s.chip.engHalted e.val = c) : Gives (.engineHalted e) s c := by
  subst h
  rfl

/-! What an engine put into a state reads -/

/-- A field reads what was put into it, held to its width. -/
theorem Chip.get_put_same (s : Chip) (f : Fld) (v : Nat) : (s.put f v).get f = v % 2 ^ f.width :=
  SMap.get_put_same _ _ _ _

/-- A field reads what it read before another was set. -/
theorem Chip.get_put_of_key_ne (s : Chip) {f g : Fld} (v : Nat) (h : g.key ≠ f.key) : (s.put f v).get g = s.get g :=
  SMap.get_put_ne _ _ _ _ h

/-- Setting an engine sets no field. -/
theorem Chip.get_setEng (s : Chip) (e : Nat) (x : Engine) (f : Fld) : (s.setEng e x).get f = s.get f := rfl

/-- An engine set is the engine read. -/
theorem Chip.eng_setEng_same (s : Chip) (e : Nat) (x : Engine) : (s.setEng e x).eng e = x :=
  SMap.get_put_same _ _ _ _

/-- HALT as four updates: EN and the wait cause go, the wait and a requested halt with them (R196, R197). -/
theorem Chip.setEngState_halted (s : Chip) (e : Nat) : s.setEngState e 0 =
    (((s.put (Reg.ENG_STAT_STATE e) 0).put (Reg.ENG_STAT_EN e) 0).put (Reg.ENG_STAT_WAIT_CAUSE e) 0).setEng e
      { s.eng e with wait := .none, haltReq := false } := rfl

/-- What STAT and the engine read once it is put into HALT. -/
theorem Chip.setEngState_halted_reads (s : Chip) (e : Nat) (hwait : (s.eng e).wait = .none) :
    (s.setEngState e 0).get (Reg.ENG_STAT_STATE e) = 0 ∧ (s.setEngState e 0).get (Reg.ENG_STAT_EN e) = 0 ∧
    (s.setEngState e 0).get (Reg.ENG_STAT_WAIT_CAUSE e) = 0 ∧ (s.setEngState e 0).eng e = { s.eng e with haltReq := false } := by
  rw [Chip.setEngState_halted]
  have hkeys : (Reg.ENG_STAT_STATE e).key ≠ (Reg.ENG_STAT_EN e).key ∧ (Reg.ENG_STAT_STATE e).key ≠ (Reg.ENG_STAT_WAIT_CAUSE e).key ∧
      (Reg.ENG_STAT_EN e).key ≠ (Reg.ENG_STAT_WAIT_CAUSE e).key := by
    simp [Reg.ENG_STAT_STATE, Reg.ENG_STAT_EN, Reg.ENG_STAT_WAIT_CAUSE]
  obtain ⟨hSE, hSW, hEW⟩ := hkeys
  refine ⟨?_, ?_, ?_, ?_⟩
  · rw [Chip.get_setEng, Chip.get_put_of_key_ne _ 0 hSW, Chip.get_put_of_key_ne _ 0 hSE, Chip.get_put_same, Nat.zero_mod]
  · rw [Chip.get_setEng, Chip.get_put_of_key_ne _ 0 hEW, Chip.get_put_same, Nat.zero_mod]
  · rw [Chip.get_setEng, Chip.get_put_same, Nat.zero_mod]
  · rw [Chip.eng_setEng_same, ← hwait]

/-! What the mask registers do -/

section
variable {s : Chip} {r : Requester} {m : Nat}

/-- START_MASK is refused where it names an engine that the requester may not control (R199). -/
theorem Chip.startMask_refused (h : ((List.range 32).filter (fun k => bit m k)).any (fun k => !s.mayCtl r k) = true) :
    s.startMask r m = (.refused, s) := if_pos h

/-- HALT_MASK is refused where it names an engine that the requester may not control (R199). -/
theorem Chip.haltMask_refused (h : ((List.range 32).filter (fun k => bit m k)).any (fun k => !s.mayCtl r k) = true) :
    s.haltMask r m = (.refused, s) := if_pos h

/-- START_MASK, once permitted: all the named engines or none (R212). -/
theorem Chip.startMask_permitted (h : ((List.range 32).filter (fun k => bit m k)).any (fun k => !s.mayCtl r k) = false) :
    s.startMask r m =
      if ((List.range 32).filter (fun k => bit m k)).any (fun k => s.engState k != 0 || s.loadingTo k) = true
      then s.no r.code 5 0 0x8000 else (s.each ((List.range 32).filter (fun k => bit m k)) (fun t k => t.engStart k)).ok :=
  if_neg (by rw [h]; decide)

/-- HALT_MASK, once permitted: all the named engines or none (R212). -/
theorem Chip.haltMask_permitted (h : ((List.range 32).filter (fun k => bit m k)).any (fun k => !s.mayCtl r k) = false) :
    s.haltMask r m =
      if ((List.range 32).filter (fun k => bit m k)).any (fun k => s.engState k == 3 || s.engState k == 4) = true
      then s.no r.code 5 0 0x8004
      else (s.each ((List.range 32).filter (fun k => bit m k))
        (fun t k => if t.engState k = 0 then t else t.setEng k { t.eng k with haltReq := true })).ok :=
  if_neg (by rw [h]; decide)

end

end Sys2Proof.Machine

namespace Sys2Proof.Proofs

open Sys2Proof.Machine

/-- Settles O46: past `gives_of_takes` each clause is one branch of what its register does. -/
theorem engineControlResults : Obligations.EngineControlResults := by
  unfold Obligations.EngineControlResults
  intro r e mask s c n st soft done no named armed start halt resume reset armS armH clr
  refine ⟨fun hbar => ?_, fun hmay => ⟨fun ht => ⟨?_, ?_⟩, fun ht => ⟨?_, ?_, ?_, ?_⟩, fun ht => ⟨?_, ?_⟩, fun ht => ⟨?_, ?_⟩,
    fun ht => ⟨?_, ?_⟩, fun ht => ⟨?_, ?_⟩, fun ht => ?_⟩, fun ht => ⟨?_, fun hmay => ⟨?_, ?_⟩⟩,
    fun ht => ⟨?_, fun hmay => ⟨?_, ?_⟩⟩, ?_, ?_, ?_⟩
  · obtain ⟨hstart, hhalt, hresume, hreset, harmS, harmH, hclr⟩ := Chip.ctl_refused hbar
    exact ⟨fun ht => gives_of_takes rfl ht hstart, fun ht => gives_of_takes rfl ht hhalt, fun ht => gives_of_takes rfl ht hresume,
      fun ht => gives_of_takes rfl ht hreset, fun ht => gives_of_takes rfl ht harmS, fun ht => gives_of_takes rfl ht harmH,
      fun ht => gives_of_takes rfl ht hclr⟩
  -- START
  · intro hst hload harm
    have hfree : ¬(st ≠ 0 ∨ c.loadingTo n = true ∨ armed) :=
      not_or.2 ⟨not_not_intro hst, not_or.2 ⟨Bool.eq_false_iff.1 hload, harm⟩⟩
    exact gives_of_takes rfl ht ((Chip.ctlStart_permitted hmay).trans (if_neg hfree))
  · exact fun hbad => gives_of_takes rfl ht ((Chip.ctlStart_permitted hmay).trans (if_pos hbad))
  -- HALT
  · intro hst
    refine gives_of_takes rfl ht ((Chip.ctlHalt_permitted hmay).trans ((if_neg ?_).trans (if_pos hst)))
    omega
  · intro hst
    refine gives_of_takes rfl ht ((Chip.ctlHalt_permitted hmay).trans
      ((if_neg ?_).trans ((if_neg ?_).trans (if_neg ?_)))) <;> omega
  · intro hsoft
    obtain ⟨hst, hcause⟩ := id hsoft
    refine gives_of_takes rfl ht ((Chip.ctlHalt_permitted hmay).trans
      ((if_neg ?_).trans ((if_neg ?_).trans (if_pos hst)))) <;> omega
  · exact fun hbad => gives_of_takes rfl ht ((Chip.ctlHalt_permitted hmay).trans (if_pos hbad))
  -- RESUME
  · intro hsoft hload
    have hgo : ¬(¬soft ∨ c.loadingTo n = true) := not_or.2 ⟨not_not_intro hsoft, Bool.eq_false_iff.1 hload⟩
    exact gives_of_takes rfl ht ((Chip.ctlResume_permitted hmay).trans (if_neg hgo))
  · exact fun hbad => gives_of_takes rfl ht ((Chip.ctlResume_permitted hmay).trans (if_pos hbad))
  -- RESET
  · exact fun hok => gives_of_takes rfl ht ((Chip.ctlReset_permitted hmay).trans (if_neg (not_not_intro hok)))
  · exact fun hst hsoft => gives_of_takes rfl ht ((Chip.ctlReset_permitted hmay).trans (if_pos (not_or.2 ⟨hst, hsoft⟩)))
  -- ARM_START
  · intro hst hload
    have hfree : ¬(st ≠ 0 ∨ c.loadingTo n = true) := not_or.2 ⟨not_not_intro hst, Bool.eq_false_iff.1 hload⟩
    exact gives_of_takes rfl ht ((Chip.ctlArmStart_permitted hmay).trans (if_neg hfree))
  · exact fun hbad => gives_of_takes rfl ht ((Chip.ctlArmStart_permitted hmay).trans (if_pos hbad))
  -- ARM_HALT
  · exact fun hst => gives_of_takes rfl ht ((Chip.ctlArmHalt_permitted hmay).trans (if_neg (not_not_intro hst)))
  · exact fun hrun hwait => gives_of_takes rfl ht ((Chip.ctlArmHalt_permitted hmay).trans (if_pos (not_or.2 ⟨hrun, hwait⟩)))
  -- ARM_CLR
  · exact gives_of_takes rfl ht (Chip.ctlArmClr_permitted hmay)
  -- START_MASK
  · exact fun hbar => gives_of_takes rfl ht (Chip.startMask_refused hbar)
  · exact fun hok => gives_of_takes rfl ht ((Chip.startMask_permitted hmay).trans (if_neg (Bool.eq_false_iff.1 hok)))
  · exact fun hbad => gives_of_takes rfl ht ((Chip.startMask_permitted hmay).trans (if_pos hbad))
  -- HALT_MASK
  · exact fun hbar => gives_of_takes rfl ht (Chip.haltMask_refused hbar)
  · exact fun hok => gives_of_takes rfl ht ((Chip.haltMask_permitted hmay).trans (if_neg (Bool.eq_false_iff.1 hok)))
  · exact fun hbad => gives_of_takes rfl ht ((Chip.haltMask_permitted hmay).trans (if_pos hbad))
  -- the requested halt
  · exact fun hreq hst => gives_engineHalted (Chip.engHalted_asked hreq hst)
  · exact fun h => gives_engineHalted (Chip.engHalted_idle h)
  -- what a halted engine reads
  · exact fun d => Chip.setEngState_halted_reads d n

end Sys2Proof.Proofs
end

section
/-! PROOF. Registers and accumulator of an engine (10_sprue_instruction_set.md R218, R226 to R228): what a register reads after a write, what
the end of an instruction leaves of the registers, and what an instruction gives on an engine that executes. -/

namespace Sys2Proof.Machine

/-! Registers of one engine -/

section
variable (x : Engine) (v : BitVec 32)

/-- g0 reads 0 (R218). -/
@[simp] theorem Engine.reg_zero : x.reg 0 = 0 := rfl

/-- A write to g0 is discarded (R218). -/
@[simp] theorem Engine.setReg_zero : x.setReg 0 v = x := rfl

/-- A register other than g0 is written in its place. -/
theorem Engine.setReg_of_ne_zero {k : Nat} (hk : k ≠ 0) : x.setReg k v = { x with g := x.g.put 0 k v } := if_neg hk

/-- A register other than g0 reads what is listed for it. -/
theorem Engine.reg_of_ne_zero {k : Nat} (hk : k ≠ 0) : x.reg k = x.g.get 0 k := if_neg hk

/-- A register other than g0 reads back what was written. -/
theorem Engine.reg_setReg_same {k : Nat} (hk : k ≠ 0) : (x.setReg k v).reg k = v := by
  rw [Engine.setReg_of_ne_zero x v hk, Engine.reg_of_ne_zero _ hk, SMap.get_put_same]

/-- A register reads what it read before another was written. -/
theorem Engine.reg_setReg_of_ne {j k : Nat} (hjk : j ≠ k) : (x.setReg k v).reg j = x.reg j := by
  by_cases hk : k = 0
  · rw [hk, Engine.setReg_zero]
  by_cases hj : j = 0
  · rw [hj, Engine.reg_zero, Engine.reg_zero]
  rw [Engine.setReg_of_ne_zero x v hk, Engine.reg_of_ne_zero _ hj, Engine.reg_of_ne_zero _ hj, SMap.get_put_ne _ _ _ _ hjk]

/-- Engines with the same registers listed read the same in every register. -/
theorem Engine.reg_congr {x y : Engine} (h : x.g = y.g) (k : Nat) : x.reg k = y.reg k := by
  rw [Engine.reg, Engine.reg, h]

/-- No flag named, no flag changed (R224). -/
@[simp] theorem Engine.upd_none : x.upd {} = x := rfl

end

/-! What the end of an instruction leaves of the registers -/

/-- Setting a field sets no engine. -/
theorem Chip.eng_put (s : Chip) (f : Fld) (v e : Nat) : (s.put f v).eng e = s.eng e := rfl

/-- Counting sets no engine. -/
theorem Chip.eng_inc (s : Chip) (f : Fld) (e : Nat) : (s.inc f).eng e = s.eng e := rfl

/-- Folding an update that sets no engine sets none. -/
theorem Chip.each_engs {α : Type} {f : Chip → α → Chip} (hf : ∀ s x, (f s x).engs = s.engs) (s : Chip) (l : List α) :
    (s.each l f).engs = s.engs := by
  induction l generalizing s with
  | nil => rfl
  | cons x xs ih => exact (ih (f s x)).trans (hf s x)

/-- Setting the locks, pool and mailboxes sets no engine. -/
theorem Chip.withSync_engs (s : Chip) (y : Sync) : { s with sync := y }.engs = s.engs := rfl

/-- Leaving every queue sets no engine. -/
theorem Chip.unwaitAll_engs (s : Chip) (w : Nat) : (s.unwaitAll w).engs = s.engs := by
  refine (Chip.withSync_engs _ _).trans ((Chip.each_engs ?_ _ _).trans (Chip.each_engs ?_ _ _))
  · exact fun _ _ => rfl
  · exact fun _ _ => rfl

/-- HALT leaves the engine's registers. -/
theorem Chip.setEngState_halted_g (s : Chip) (e : Nat) : ((s.setEngState e 0).eng e).g = (s.eng e).g := by
  rw [Chip.setEngState_halted, Chip.eng_setEng_same]

/-- A halt that takes hold at the end of an instruction leaves the engine's registers (R197). -/
theorem Chip.haltIfAsked_g (s : Chip) (e : Nat) : ((s.haltIfAsked e).eng e).g = (s.eng e).g := by
  unfold Chip.haltIfAsked
  split
  · rw [Chip.setEngState_halted_g, Chip.eng, Chip.unwaitAll_engs, Chip.eng]
  · rfl

/-- The end of an instruction that transfers control leaves the engine's registers (R232). -/
theorem Chip.engJump_g (s : Chip) (e target : Nat) (pop : Bool) : ((s.engJump e target pop).eng e).g = (s.eng e).g := by
  rw [Chip.engJump, Chip.haltIfAsked_g, Chip.eng_inc, Chip.eng_put, Chip.eng_setEng_same]

/-- The link register that a call writes is read behind its jump (R218, R231). -/
theorem Chip.g_engJump_linked (t : Chip) (e : Fin 32) (x : Engine) (link : BitVec 32) (target : Nat) (pop : Bool) :
    ((t.setEng e.val (x.setReg 15 link)).engJump e.val target pop).g e 15 = link := by
  have hregs := Chip.engJump_g (t.setEng e.val (x.setReg 15 link)) e.val target pop
  rw [Chip.eng_setEng_same] at hregs
  exact (Engine.reg_congr hregs 15).trans (Engine.reg_setReg_same x link (by decide))

/-! What an instruction gives on an engine that executes -/

/-- On an engine that executes, an instruction has its effect on the block behind the fetch (R194, R195). -/
theorem Chip.isa_of_executes {s : Chip} {e : Fin 32} (he : s.executes e = true) (f : Chip → Chip) : s.isa e.val f = f (s.fetched e) := by
  simp only [Chip.executes, Bool.and_eq_true] at he
  obtain ⟨⟨hup, hrun⟩, hcode⟩ := he
  simp [Chip.isa, Chip.fetched, hup, hrun, hcode]

section
variable {i : Instr} {s : State} {e : Fin 32}

/-- An instruction's effect on the fetched block is what it gives. -/
theorem gives_of_executes {f : Chip → Chip} {c : Chip} (hexec : exec i s = s.run (fun b => b.isa e.val f))
    (he : s.chip.executes e = true) (hc : f (s.chip.fetched e) = c) : Gives i s c := by
  rw [Gives, hexec, State.run, Chip.isa_of_executes he, hc]

/-- A command that gives a block with a property completes with it. -/
theorem Gives.completes {c : Chip} {p : Chip → Prop} (h : Gives i s c) (hp : p c) : Completes i s p := ⟨c, h, hp⟩

end

/-! The numbers of the accumulator's rules -/

/-- Between its bounds the clamp is a maximum of a minimum. -/
theorem clampInt_eq_max_min {lo hi : Int} (h : lo ≤ hi) (i : Int) : clampInt lo hi i = max lo (min hi i) := by
  unfold clampInt
  split
  · omega
  · split <;> omega

/-- sat64 of the pseudocode is the hold to the signed 64-bit range (R226). -/
theorem sat64_eq_held64 (i : Int) : sat64 i = held64 i := clampInt_eq_max_min (by decide) i

/-- sat32 of the pseudocode, as a word, is the hold to the signed 32-bit range (R227). -/
theorem ofInt_sat32 (i : Int) : BitVec.ofInt 32 (sat32 i) = held32 i :=
  congrArg (BitVec.ofInt 32) (clampInt_eq_max_min (by decide) i)

/-- The word that holds a saturated value reads as that value. -/
theorem toInt_held32 (i : Int) : (held32 i).toInt = sat32 i := by
  have hsat : sat32 i = max (-2147483648) (min 2147483647 i) := clampInt_eq_max_min (by decide) i
  rw [← ofInt_sat32]
  exact BitVec.toInt_ofInt_eq_self (by decide) (by omega) (by omega)

/-- sat64 acts where the hold changes the value. -/
theorem sat64_bne (i : Int) : (sat64 i != i) = decide (held64 i ≠ i) := by
  rw [sat64_eq_held64]
  exact Bool.eq_iff_iff.2 (by simp)

/-- Out of the signed 32-bit range, as one decision. -/
theorem over32_eq (i : Int) : over32 i = decide (i < -2147483648 ∨ 2147483647 < i) := by
  simp [over32]

/-- The 16-bit reading of a number is the signed reading of its halfword. -/
theorem signed_16 (v : Nat) : signed 16 v = (BitVec.ofNat 16 v).toInt := by
  rw [BitVec.toInt_eq_toNat_cond, BitVec.toNat_ofNat]
  unfold signed
  split <;> split <;> omega

/-- The Q15 forms read the low half of a word as signed (R226). -/
theorem signed_16_toNat (x : BitVec 32) : signed 16 x.toNat = (x.extractLsb' 0 16).toInt := by
  rw [signed_16]
  rfl

/-- The Q31 product, rounded half up (R226). -/
theorem macProduct_q31 (x y : BitVec 32) : macProduct 1 x y = (x.toInt * y.toInt + 2 ^ 30) >>> (31 : Nat) := by
  rw [Int.shiftRight_eq_div_pow]
  exact Int.fdiv_eq_ediv_of_nonneg _ (by decide)

/-- The Q15 product, exact in Q31 (R226). -/
theorem macProduct_q15 (x y : BitVec 32) :
    macProduct 2 x y = (x.extractLsb' 0 16).toInt * (y.extractLsb' 0 16).toInt * 2 := by
  rw [← signed_16_toNat, ← signed_16_toNat]
  rfl

/-- Rounding half up to the high half: adding 0x8000 and taking the upper halfword, which holds whatever the sum carries (R227). -/
theorem round_high_half (h : BitVec 32) :
    BitVec.ofInt 32 (signed 16 (unsigned 16 (Int.fdiv (h.toInt + 0x8000) 65536))) = ((h + 0x8000).extractLsb' 16 16).signExtend 32 := by
  have hword : BitVec.ofNat 16 (unsigned 16 (Int.fdiv (h.toInt + 0x8000) 65536)) = (h + 0x8000).extractLsb' 16 16 := by
    apply BitVec.eq_of_toNat_eq
    rw [Int.fdiv_eq_ediv_of_nonneg _ (by decide), BitVec.toInt_eq_toNat_cond, BitVec.extractLsb'_toNat, BitVec.toNat_ofNat, BitVec.toNat_add,
      Nat.shiftRight_eq_div_pow, unsigned]
    have hconst : BitVec.toNat (0x8000 : BitVec 32) = 0x8000 := rfl
    have hlt := h.isLt
    rw [hconst]
    split <;> omega
  rw [signed_16, hword]
  rfl

/-! What racc reads -/

/-- `racc.q31` reads ACC held to a word, and saturates out of its range (R227). -/
theorem raccRead_q31 (acc : BitVec 64) :
    raccRead 2 acc = (held32 acc.toInt, decide (acc.toInt < -2147483648 ∨ 2147483647 < acc.toInt)) := by
  rw [← ofInt_sat32, ← over32_eq]
  rfl

/-- `racc.q15` clamps where rounding would overflow (R227). -/
theorem raccRead_q15_clamped {acc : BitVec 64} (h : 0x7FFF8000 ≤ (held32 acc.toInt).toInt) : raccRead 3 acc = (0x7FFF, true) := by
  rw [toInt_held32] at h
  exact if_pos h

/-- `racc.q15` rounds elsewhere, and saturates where the word does (R227). -/
theorem raccRead_q15_rounded {acc : BitVec 64} (h : (held32 acc.toInt).toInt < 0x7FFF8000) :
    raccRead 3 acc = (((held32 acc.toInt + 0x8000).extractLsb' 16 16).signExtend 32,
      decide (acc.toInt < -2147483648 ∨ 2147483647 < acc.toInt)) := by
  rw [← round_high_half, toInt_held32, ← over32_eq]
  rw [toInt_held32] at h
  exact if_neg (Int.not_le.2 h)

/-! What the accumulator's instructions give -/

/-- The end of a `racc` form of engine e that read r of ACC into gd, with ACC 0 in its `.c` form and S set where its saturation acts. -/
def Chip.readAcc (t : Chip) (e : Fin 32) (d : Fin 16) (r : BitVec 32) (clear acts : Bool) : Chip :=
  (t.setEng e.val { (t.eng e.val).setReg d.val r with
    acc := if clear then 0 else (t.eng e.val).acc, sat := (t.eng e.val).sat || acts }).engNext e.val

section
variable {i : Instr} {s : State} {e : Fin 32}

/-- A MAC or MSU form gives the held sum, and S where the hold acts (R226). -/
theorem gives_macOp {a b : Fin 16} {form : Nat} {sub : Bool} {v : Int} (hexec : exec i s = s.run (isaMacOp e.val a.val b.val form sub))
    (he : s.chip.executes e = true)
    (hv : (let t := s.chip.fetched e
      let p := macProduct form (t.g e a) (t.g e b)
      if sub then (t.eng e.val).acc.toInt - p else (t.eng e.val).acc.toInt + p) = v) :
    Gives i s ((s.chip.fetched e).wroteAcc e (BitVec.ofInt 64 (held64 v)) (decide (held64 v ≠ v))) := by
  subst hv
  refine gives_of_executes hexec he ?_
  rw [Chip.wroteAcc, ← sat64_bne, ← sat64_eq_held64]
  rfl

/-- A `racc` form gives what it reads of ACC (R227). -/
theorem gives_racc {d : Fin 16} {form : Nat} {clear acts : Bool} {r : BitVec 32}
    (hexec : exec i s = s.run (isaRacc e.val d.val form clear)) (he : s.chip.executes e = true)
    (hr : raccRead form ((s.chip.fetched e).eng e.val).acc = (r, acts)) : Gives i s ((s.chip.fetched e).readAcc e d r clear acts) := by
  refine gives_of_executes hexec he ?_
  dsimp only
  rw [hr, Chip.readAcc]

/-- `wacc` loads ACC, gb high, and leaves S (Table ISA-5). -/
theorem gives_wacc {a b : Fin 16} (hexec : exec i s = s.run (isaWaccOp e.val a.val b.val)) (he : s.chip.executes e = true) :
    Gives i s ((s.chip.fetched e).wroteAcc e ((s.chip.fetched e).g e b ++ (s.chip.fetched e).g e a) false) := by
  refine gives_of_executes hexec he ?_
  rw [Chip.wroteAcc, Bool.or_false]
  rfl

end

end Sys2Proof.Machine

namespace Sys2Proof.Proofs

open Sys2Proof.Machine

/-- Settles O18: each clause is what its form computes, past `gives_macOp`, `gives_racc` and `gives_wacc`. -/
theorem isaAccumulatorResults : Obligations.IsaAccumulatorResults := by
  unfold Obligations.IsaAccumulatorResults
  intro s e d a b clear he t x y acc q31 q15 sums reads beyond h
  have hq31 : macProduct 1 x y = q31 := by
    refine (macProduct_q31 x y).trans ?_
    -- the shift's amount is an integer in the statement: the two shifts agree on either sign of the number
    simp only [q31] <;> cases x.toInt * y.toInt + 2 ^ 30 <;> rfl
  have hq15 : macProduct 2 x y = q15 := macProduct_q15 x y
  refine ⟨?_, ?_, ?_, ?_, ?_, ?_, ?_, ?_, ?_, ?_, ?_, ?_⟩
  -- MAC and MSU
  · exact gives_macOp rfl he rfl
  · exact gives_macOp rfl he rfl
  · exact gives_macOp rfl he (congrArg (acc.toInt + ·) hq31)
  · exact gives_macOp rfl he (congrArg (acc.toInt - ·) hq31)
  · exact gives_macOp rfl he (congrArg (acc.toInt + ·) hq15)
  · exact gives_macOp rfl he (congrArg (acc.toInt - ·) hq15)
  -- racc
  · exact gives_racc rfl he rfl
  · exact gives_racc rfl he rfl
  · exact gives_racc rfl he (raccRead_q31 acc)
  · exact fun hclamp => gives_racc rfl he (raccRead_q15_clamped hclamp)
  · exact fun hround => gives_racc rfl he (raccRead_q15_rounded hround)
  -- wacc
  · exact gives_wacc rfl he

/-- Settles O9: the register rules of one engine, the link register read behind a call's jump, and a move to g0 that changes nothing but
what the end of an instruction does. -/
theorem registerZeroReadsZeroAndDiscardsWrites : Obligations.RegisterZeroReadsZeroAndDiscardsWrites := by
  unfold Obligations.RegisterZeroReadsZeroAndDiscardsWrites
  intro x k j v
  refine ⟨x.reg_zero, x.setReg_zero v, fun hk => ?_, fun hjk => ?_, ?_, ?_⟩
  · exact x.reg_setReg_same v (Fin.val_ne_of_ne hk)
  · exact x.reg_setReg_of_ne v (Fin.val_ne_of_ne hjk)
  -- call and callr
  · intro s e a imm he ha t link
    have hnear : ¬ 2048 ≤ ((t.eng e.val).reg a.val).toNat := Nat.not_le.2 ha
    exact ⟨(gives_of_executes (i := .isaCall e imm) rfl he rfl).completes (Chip.g_engJump_linked t e (t.eng e.val) link _ _),
      (gives_of_executes (i := .isaCallr e a) rfl he (if_neg hnear)).completes (Chip.g_engJump_linked t e (t.eng e.val) link _ _)⟩
  -- a move to g0
  · exact fun s e imm he => gives_of_executes rfl he rfl

end Sys2Proof.Proofs
end

section
/-! PROOF. Faults, fences and revives of the flasks (13_flasks_and_warden.md R284, R286, R292 to R296): who may fence and revive and what
the two commands do, how a fault is latched and fenced, and how an auto-revive acts and ends. -/

namespace Sys2Proof.Machine

/-- A command that runs one effect on the block gives what the effect does. -/
theorem gives_of_run {i : Instr} {s : State} {f : Chip → Chip} {c : Chip} (hexec : exec i s = s.run f) (hc : f s.chip = c) :
    Gives i s c := by
  subst hc
  exact hexec

/-- The reserved flasks are those from 54 on (Table FLASK-1). -/
theorem not_flaskOk_iff {f : Nat} : (!flaskOk f) = true ↔ 54 ≤ f := by
  simp [flaskOk]

section
variable {s : Chip} {r : Requester} {f : Nat}

/-! Who may fence and revive, and what the two commands do -/

/-- Of the engines only the supervisor may fence or revive a flask, and never its own (R293). -/
theorem Chip.mayWarden_iff : s.mayWarden r f = true ↔ ∀ e : Fin 32, r = .engine e →
    e.val ≠ f ∧ s.wkB (Reg.FLASK_FCFG_SUPV_V f) = true ∧ s.wk (Reg.FLASK_FCFG_SUPV_ENG f) = e.val := by
  cases r with
  | engine e => simp [Chip.mayWarden, and_assoc]
  | mgmt | gate => simp [Chip.mayWarden]

/-- What R294 asks of a revive. -/
theorem Chip.mayRevive_iff : s.mayRevive f = true ↔ f < 54 ∧ s.get (Reg.FLASK_FSTAT_STATE f) = 2 ∧
    (fieldFlask f = false ∨ s.seamUp = true) ∧ s.warden.lastFault.get 0 f ≠ s.ctFine + 1 := by
  simp [Chip.mayRevive, flaskOk, and_assoc]

/-- R293 bars any other engine from both commands. -/
theorem Chip.warden_refused (h : ¬s.mayWarden r f = true) : s.fenceGo r f = (.refused, s) ∧ s.reviveGo r f = (.refused, s) := by
  have hbar : (!s.mayWarden r f) = true := by simpa using h
  exact ⟨if_pos hbar, if_pos hbar⟩

/-- FENCE, once permitted (R292). -/
theorem Chip.fenceGo_permitted (h : s.mayWarden r f = true) : s.fenceGo r f =
    if 54 ≤ f ∨ s.active f = false then s.no r.code 8 0 0x14 else (s.fault f 9 r.code 0).ok := by
  simp [Chip.fenceGo, h, flaskOk]

/-- REVIVE, once permitted (R294, R295). -/
theorem Chip.reviveGo_permitted (h : s.mayWarden r f = true) : s.reviveGo r f =
    if s.mayRevive f = true then (s.reviveFlask f).ok else s.no r.code 8 0 0x10 := by
  cases hr : s.mayRevive f <;> simp [Chip.reviveGo, h, hr]

/-! Faults and fences -/

/-- Counting a fault leaves the flask's state. -/
theorem Chip.active_inc_faultCnt (s : Chip) (f : Nat) : (s.inc (Reg.FLASK_FAULT_CNT f)).active f = s.active f := by
  have hkey : (Reg.FLASK_FSTAT_STATE f).key ≠ (Reg.FLASK_FAULT_CNT f).key := by
    simp only [Reg.FLASK_FSTAT_STATE, Reg.FLASK_FAULT_CNT]
    omega
  rw [Chip.active, Chip.inc, Chip.add, Chip.get_put_of_key_ne _ _ hkey, Chip.active]

/-- Setting the warden's own state leaves a flask's state. -/
theorem Chip.active_withWarden (s : Chip) (w : Warden) (f : Nat) : { s with warden := w }.active f = s.active f := rfl

/-- The effects of a fault on an ACTIVE flask (R284, R286). -/
theorem Chip.fault_of_active (hup : s.coreUp = true) (hf : f < 54) (hact : s.active f = true) (cause det w : Nat) :
    let i0 := s.inc (Reg.FLASK_FAULT_CNT f)
    let i := { i0 with warden := { i0.warden with lastFault := i0.warden.lastFault.put 0 f (i0.ctFine + 1) } }
    let t := (i.put (Reg.FLASK_FSTAT_STATE f) 1).put (Reg.FLASK_FSTAT_CAUSE f) cause
    let n := t.warden.n.get 0 f + 1
    s.fault f cause det w =
      ({ t with warden := { t.warden with
          lines := t.warden.lines ++ [(⟨f, cause, det, w, i.get Reg.CLK_CYC_NUM, i.ct.toNat⟩ : FaultLine)]
          n := t.warden.n.put 0 f n
          stable := clrBit t.warden.stable f } }).put (Reg.FLASK_FSTAT_N f) (min 63 n) := by
  intro i0 i t n
  have hreach : ¬(!s.coreUp || decide (54 ≤ f)) = true := by simp [hup, hf]
  have hcounted : i.active f = true := by
    rw [Chip.active_withWarden, Chip.active_inc_faultCnt, hact]
  exact (if_neg hreach).trans (if_pos hcounted)

/-- With no fault of memory the warden fences what it has latched (R286). -/
theorem Chip.flaskFence_nil (hup : s.coreUp = true) : s.flaskFence [] = s.fenceRun 4 := by
  simp [Chip.flaskFence, Chip.each, hup]

/-- A fault of memory that its flask owns is latched with cause 4 before the fences run (Table FLASK-2). -/
theorem Chip.flaskFence_owned {x : FaultIn} (hup : s.coreUp = true) (h : ownsMemory x.flask.val = true) :
    s.flaskFence [x] = (s.fault x.flask.val 4 0 x.addr.toNat).fenceRun 4 := by
  simp [Chip.flaskFence, Chip.each, hup, h]

/-- Memory that its flask does not own raises no fault (Table FLASK-2). -/
theorem Chip.flaskFence_unowned {x : FaultIn} (hup : s.coreUp = true) (h : ownsMemory x.flask.val = false) :
    s.flaskFence [x] = s.fenceRun 4 := by
  simp [Chip.flaskFence, Chip.each, hup, h]

/-- The oldest latched fault is fenced first (R286). -/
theorem Chip.fenceRun_cons {l : FaultLine} {t : List FaultLine} (h : s.warden.lines = l :: t) (k : Nat) :
    s.fenceRun (k + 1) = (({ s with warden := { s.warden with lines := t } }).fenceOne l).fenceRun k := by
  rw [Chip.fenceRun, h]

/-- With no fault latched no fence runs. -/
theorem Chip.fenceRun_nil (h : s.warden.lines = []) (k : Nat) : s.fenceRun (k + 1) = s := by
  rw [Chip.fenceRun, h]

/-- The oldest waiting fence runs, and the linked fences that it latched wait in turn (R286, R288). -/
theorem Chip.fenceQueued_cons {l : FaultLine} {t : List FaultLine} (hup : s.coreUp = true) (h : s.warden.queue = l :: t) :
    let u := ({ s with warden := { s.warden with queue := t } }).fenceOne l
    s.fenceQueued = { u with warden := { u.warden with
      queue := u.warden.queue ++ u.warden.lines.filter (fun x => x.cause == 8 && x.detail == l.flask)
      lines := u.warden.lines.filter (fun x => !(x.cause == 8 && x.detail == l.flask)) } } := by
  simp [Chip.fenceQueued, h, hup]

/-- With no fence waiting none starts. -/
theorem Chip.fenceQueued_nil (h : s.warden.queue = []) : s.fenceQueued = s := by
  rw [Chip.fenceQueued, h]

/-- The field die acts on the words that the warden sent: Cuffs hand over, outputs settle, harness switches open (R285). -/
theorem Chip.laneUpdate_pending (hup : s.coreUp = true) (hfield : s.fieldUp = true) (hpend : s.warden.lanePend = true) :
    let t := { s with warden := { s.warden with laneFence := s.warden.sentFence, laneHold := s.warden.sentHold, lanePend := false } }
    s.laneUpdate =
      ((t.each [0, 1, 2, 3, 4] (fun t k => t.policyHandover k)).fieldSettle).each [5, 6, 7, 8] (fun t k => t.channelOpen k) := by
  have hdue : ¬(!s.coreUp || !s.fieldUp || !s.warden.lanePend) = true := by simp [hup, hfield, hpend]
  exact if_neg hdue

/-- Without new words the field die keeps what it has (R285). -/
theorem Chip.laneUpdate_idle (h : s.warden.lanePend = false) : s.laneUpdate = s :=
  if_pos (by simp [h])

/-! Auto-revive -/

/-- A pending auto-revive that R294 allows revives the flask and is counted (R296). -/
theorem Chip.autoAct_revives (hen : s.wkB (Reg.FLASK_FCFG_AR_EN f) = true) (h : s.mayRevive f = true) :
    s.autoAct f = (s.reviveFlask f).inc Reg.FLASK_AR_CNT := by
  simp [Chip.autoAct, hen, h]

/-- A pending auto-revive that R294 refuses is tried again in 1 ms (R296). -/
theorem Chip.autoAct_retries (hen : s.wkB (Reg.FLASK_FCFG_AR_EN f) = true) (h : ¬s.mayRevive f = true) :
    s.autoAct f = { s with warden := { s.warden with
      retry := setBit s.warden.retry f, due := s.warden.due.put 0 f (s.ct.toNat + 1000000) } } := by
  simp [Chip.autoAct, hen, h]

/-- A pending auto-revive goes where AR_EN is 0 (R296). -/
theorem Chip.autoAct_cancelled (hen : s.wkB (Reg.FLASK_FCFG_AR_EN f) = false) :
    s.autoAct f = s.put (Reg.FLASK_FSTAT_AR_WAIT f) 0 := by
  simp [Chip.autoAct, hen]

/-- A pending auto-revive acts at its delay's end (R296). -/
theorem Chip.autoRevive_pending (hup : s.coreUp = true) (hf : f < 54) (hwait : s.flag (Reg.FLASK_FSTAT_AR_WAIT f) = true)
    (hretry : bit s.warden.retry f = false) : s.autoRevive f = (s.timeTo (s.warden.due.get 0 f)).autoAct f :=
  if_neg (by simp [hup, flaskOk, hf, hwait, hretry])

/-- Where none is pending, or one is retried, no delay ends. -/
theorem Chip.autoRevive_idle (h : s.flag (Reg.FLASK_FSTAT_AR_WAIT f) = false ∨ bit s.warden.retry f = true) : s.autoRevive f = s :=
  if_pos (by rcases h with hwait | hretry <;> simp [*])

/-- The next retry moves time to the earliest of those due, and all that are due by then act (R296). -/
theorem Chip.autoRetry_cons {k : Nat} {l : List Nat} (hup : s.coreUp = true) (h : s.retrying = k :: l) :
    let u := s.timeTo ((l.map (fun g => s.warden.due.get 0 g)).foldl min (s.warden.due.get 0 k))
    s.autoRetry = u.each u.retrying (fun t g => if t.warden.due.get 0 g ≤ t.ct.toNat then t.autoAct g else t) := by
  simp only [Chip.autoRetry, h, List.map_cons, hup, Bool.not_true, Bool.false_eq_true, if_false]

/-- With nothing to retry nothing happens. -/
theorem Chip.autoRetry_nil (h : s.retrying = []) : s.autoRetry = s := by
  rw [Chip.autoRetry, h, List.map_nil]

/-- A pending auto-revive that was refused is among those retried. -/
theorem Chip.mem_retrying (hf : f < 54) (hretry : bit s.warden.retry f = true) (hwait : s.flag (Reg.FLASK_FSTAT_AR_WAIT f) = true) :
    f ∈ s.retrying := by
  simp [Chip.retrying, hf, hretry, hwait]

/-- A flask that has run free of faults for AR_STABLE seconds counts anew (R296). -/
theorem Chip.arStable_expires (hup : s.coreUp = true) (hact : s.active f = true) (hst : bit s.warden.stable f = true) :
    let t := s.timeTo (s.warden.revivedAt.get 0 f + 1000000000 * max 1 (s.wk (Reg.FLASK_FCFG_AR_STABLE f)))
    s.arStable f =
      ({ t with warden := { t.warden with n := t.warden.n.put 0 f 0, stable := clrBit t.warden.stable f } }).put (Reg.FLASK_FSTAT_N f) 0 := by
  have hruns : (s.coreUp && s.active f && bit s.warden.stable f) = true := by simp [hup, hact, hst]
  exact if_pos hruns

/-- Where the flask is not ACTIVE, or its stable time does not run, nothing ends. -/
theorem Chip.arStable_idle (h : s.active f = false ∨ bit s.warden.stable f = false) : s.arStable f = s :=
  if_neg (by rcases h with hact | hst <;> simp [*])

end

end Sys2Proof.Machine

namespace Sys2Proof.Proofs

open Sys2Proof.Machine

/-- Settles O50: each clause is one branch of the warden's operation, past `gives_of_takes` for its registers and `gives_of_run` for what
happens of itself. -/
theorem flaskCommandResults : Obligations.FlaskCommandResults := by
  unfold Obligations.FlaskCommandResults
  intro r f g faults s c n m fe re may canRevive waits
  have hmay : c.mayWarden r n = true ↔ may := Chip.mayWarden_iff
  have hcan : ∀ (t : Chip) (k : Nat), t.mayRevive k = true ↔ canRevive t k := fun _ _ => Chip.mayRevive_iff
  refine ⟨fun ht => ⟨?_, ?_, ?_⟩, fun ht => ⟨?_, ?_, ?_⟩, fun ht => ⟨?_, ?_⟩, ?_, ?_, ?_, ?_, ?_, ?_, ?_, ?_, ?_, ?_, ?_, ?_, ?_, ?_,
    ?_, ?_, ?_, ?_⟩
  -- FENCE
  · intro hm hn hact
    have hfence : ¬(54 ≤ n ∨ c.active n = false) := not_or.2 ⟨Nat.not_le.2 hn, fun hidle => Bool.eq_false_iff.1 hidle hact⟩
    exact gives_of_takes rfl ht ((Chip.fenceGo_permitted (hmay.2 hm)).trans (if_neg hfence))
  · exact fun hm hbad => gives_of_takes rfl ht ((Chip.fenceGo_permitted (hmay.2 hm)).trans (if_pos hbad))
  · exact fun hm => gives_of_takes rfl ht (Chip.warden_refused (mt hmay.1 hm)).1
  -- REVIVE
  · exact fun hm hok => gives_of_takes rfl ht ((Chip.reviveGo_permitted (hmay.2 hm)).trans (if_pos ((hcan c n).2 hok)))
  · exact fun hm hbad => gives_of_takes rfl ht ((Chip.reviveGo_permitted (hmay.2 hm)).trans (if_neg (mt (hcan c n).1 hbad)))
  · exact fun hm => gives_of_takes rfl ht (Chip.warden_refused (mt hmay.1 hm)).2
  -- AR_CLR
  · exact fun hn => gives_of_takes rfl ht (if_neg (mt not_flaskOk_iff.1 (Nat.not_le.2 hn)))
  · exact fun hn => gives_of_takes rfl ht (if_pos (not_flaskOk_iff.2 hn))
  -- faults and fences
  · exact fun hup hm hact cause det w => Chip.fault_of_active hup hm hact cause det w
  · rintro hup rfl
    exact gives_of_run (f := (Chip.flaskFence · [])) rfl (Chip.flaskFence_nil hup)
  · rintro hup x rfl
    exact ⟨fun howns => gives_of_run (f := (Chip.flaskFence · [x])) rfl (Chip.flaskFence_owned hup howns),
      fun howns => gives_of_run (f := (Chip.flaskFence · [x])) rfl (Chip.flaskFence_unowned hup howns)⟩
  · exact fun l t k hl => Chip.fenceRun_cons hl k
  · rfl
  · intro l t hup hq
    have hnext := Chip.fenceQueued_cons hup hq
    exact gives_of_run (f := Chip.fenceQueued) rfl hnext
  · exact fun hq => gives_of_run (f := Chip.fenceQueued) rfl (Chip.fenceQueued_nil hq)
  · exact fun hup hfield hpend => gives_of_run (f := Chip.laneUpdate) rfl (Chip.laneUpdate_pending hup hfield hpend)
  · exact fun hpend => gives_of_run (f := Chip.laneUpdate) rfl (Chip.laneUpdate_idle hpend)
  -- auto-revive
  · exact fun _ t => ⟨fun hen hok => Chip.autoAct_revives hen ((hcan t m).2 hok),
      fun hen hbad => Chip.autoAct_retries hen (mt (hcan t m).1 hbad), Chip.autoAct_cancelled⟩
  · exact fun hup hm hwait hretry => gives_of_run (f := (Chip.autoRevive · m)) rfl (Chip.autoRevive_pending hup hm hwait hretry)
  · exact fun h => gives_of_run (f := (Chip.autoRevive · m)) rfl (Chip.autoRevive_idle h)
  · exact fun hup k l hl => gives_of_run (f := Chip.autoRetry) rfl (Chip.autoRetry_cons hup hl)
  · exact fun hl => gives_of_run (f := Chip.autoRetry) rfl (Chip.autoRetry_nil hl)
  · exact fun k hk hretry hwait => Chip.mem_retrying hk hretry hwait
  · exact fun hl k => Chip.fenceRun_nil hl k
  · exact fun hup hact hst => gives_of_run (f := (Chip.arStable · m)) rfl (Chip.arStable_expires hup hact hst)
  · exact fun h => gives_of_run (f := (Chip.arStable · m)) rfl (Chip.arStable_idle h)

end Sys2Proof.Proofs
end

section
/-! PROOF. The machine as a whole (95_what_each_step_holds.md): every command is one effect on the block, which memory it leaves and that it keeps
the memories canonical; when a register's command and an instruction reach what they act on. -/

namespace Sys2Proof.Machine

/-! Every command is one effect on the block -/

/-- Every command is one effect on the block. -/
theorem exec_eq_run (i : Instr) : ∃ f : Chip → Chip, ∀ s : State, exec i s = s.run f := by
  cases i <;> (delta exec; exact ⟨_, fun _ => rfl⟩)

/-- ENABLE and DISABLE of a runner are bits of one register. -/
theorem runCtl_addr (q : Nat) : (Reg.RUN_CTL_DISABLE q).addr = (Reg.RUN_CTL_ENABLE q).addr := by
  simp only [Reg.RUN_CTL_DISABLE, Reg.RUN_CTL_ENABLE, Fld.addr]
  omega

/-- A command that is one write of a command register is that write on the block. -/
theorem exec_of_registerOf {i : Instr} {r : Requester} {a : Nat} (h : i.registerOf = some (r, a)) :
    ∃ act : Chip → Did, ∀ s : State, exec i s = s.run (fun b => b.command r a act) := by
  cases i <;> cases h
  case runnerDisable.refl q =>
    rw [← runCtl_addr]
    exact ⟨_, fun _ => rfl⟩
  all_goals (delta exec; exact ⟨_, fun _ => rfl⟩)

/-- An operation of two registers is one instruction of its engine. -/
theorem isaOp3_eq_isa (e d a b : Nat) (g : BitVec 32 → BitVec 32 → BitVec 32 × FlagUpd) :
    ∃ f, ∀ s : Chip, isaOp3 e d a b g s = s.isa e f := by
  unfold isaOp3 isaCompute
  exact ⟨_, fun _ => rfl⟩

/-- A CRC step is one instruction of its engine. -/
theorem isaCrc_eq_isa (e d a : Nat) (wide32 word : Bool) : ∃ f, ∀ s : Chip, isaCrc e d a wide32 word s = s.isa e f := by
  unfold isaCrc isaCompute
  exact ⟨_, fun _ => rfl⟩

/-- A bit-field form is one instruction of its engine, a field past bit 31 included. -/
theorem isaBf_eq_isa (e d a pos wm1 kind : Nat) : ∃ f, ∀ b : Chip, isaBf e d a pos wm1 kind b = b.isa e f := by
  unfold isaBf
  split <;> exact ⟨_, fun _ => rfl⟩

/-- A command that is one instruction of an engine is that instruction on the block. -/
theorem exec_of_engineOf {i : Instr} {e : Fin 32} (h : i.engineOf = some e) :
    ∃ f : Chip → Chip, ∀ s : State, exec i s = s.run (fun b => b.isa e.val f) := by
  have ofForm : ∀ {g : Chip → Chip}, (∃ f, ∀ b : Chip, g b = b.isa e.val f) →
      ∃ f, ∀ s : State, s.run g = s.run (fun b => b.isa e.val f) :=
    fun ⟨f, hf⟩ => ⟨f, fun s => congrArg s.run (funext hf)⟩
  cases i <;> cases h
  case isaAdd.refl | isaSub.refl | isaAnd.refl | isaOr.refl | isaXor.refl | isaAndn.refl | isaShl.refl | isaShr.refl | isaSar.refl |
      isaRor.refl | isaAdds.refl | isaSubs.refl | isaMin.refl | isaMax.refl | isaMinu.refl | isaMaxu.refl | isaCmp.refl |
      isaTst.refl | isaMul.refl | isaMulh.refl | isaMulhu.refl | isaDiv.refl | isaDivu.refl | isaRem.refl | isaRemu.refl =>
    exact ofForm (isaOp3_eq_isa ..)
  case isaCrc16B.refl | isaCrc16W.refl | isaCrc32B.refl | isaCrc32W.refl => exact ofForm (isaCrc_eq_isa ..)
  case isaBfx.refl | isaBfxs.refl | isaBfi.refl => exact ofForm (isaBf_eq_isa ..)
  all_goals (delta exec; exact ⟨_, fun _ => rfl⟩)

/-! Commands that store nothing -/

/-- A port of a Cuff lies outside the CAN controllers' ports, so its write stores nothing. -/
theorem Chip.cuffPortDoBy_keeps (s : Chip) (e : Fin 32) (c : Fin 5) (off v : Nat) (h : off < 256) :
    Keeps s (s.portDoBy e (cuffPort c.val off) v) :=
  Chip.portDoBy_keeps s e _ v fun t => Chip.portDo_keeps t _ v (by simp only [cuffPort]; omega)

/-- A pin's port lies outside the CAN controllers' ports. -/
theorem Chip.pinPortDoBy_keeps (s : Chip) (e : Fin 32) (n : Fin 4) (m : Fin 16) (v : Nat) :
    Keeps s (s.portDoBy e (0x4100 + 16 * n.val + m.val) v) :=
  Chip.portDoBy_keeps s e _ v fun t => Chip.portDo_keeps t _ v (by omega)

/-- The buffer words of a CAN controller and the staged words of its sessions store nothing. -/
theorem Chip.canStageDoBy_keeps (s : Chip) (e : Fin 32) (c : Fin 2) (off v : Nat)
    (h : off < 0x80 ∧ off % 16 < 4 ∨ 0x80 ≤ off ∧ off < 0x100 ∧ (off - 0x80) % 4 < 2) :
    Keeps s (s.portDoBy e (canPort c.val off) v) := by
  refine Chip.portDoBy_keeps s e _ v fun t => ?_
  have hblk : canPort c.val off / 0x1000 = 5 := by simp only [canPort]; omega
  have hoff : canPort c.val off % 0x1000 % 256 = off := by simp only [canPort]; omega
  simp only [Chip.portDo, hblk, hoff]
  split
  · exact Chip.canStage_keeps t _ off v (by omega)
  · simp

/-- A command that stores nothing leaves both memories as they were: past the form of the command (a register's write, an instruction, a
slot, a request, a port's write) what it does has its own law. -/
theorem exec_keeps {i : Instr} (h : i.stores = false) (s : State) :
    ∃ c : Chip, exec i s = .next { s with chip := c } ∧ Keeps s.chip c := by
  cases i <;> cases h <;> (delta exec; refine ⟨_, rfl, ?_⟩; dsimp only)
  case canTxBufferWrite.refl e c t w v => exact Chip.canStageDoBy_keeps _ e c _ _ (by omega)
  case sessionStage.refl e c idx w v => exact Chip.canStageDoBy_keeps _ e c _ _ (by omega)
  case detach.refl r cycle => exact Chip.command_keeps _ r _ _ fun t => by split <;> simp
  all_goals simp [Chip.command_keeps, Chip.isa_keeps, Chip.usbReq_keeps, Chip.slotAt_keeps, Chip.setPort_keeps, Chip.clearPort_keeps,
    Chip.ttReq_keeps, Chip.cuffPortDoBy_keeps, Chip.pinPortDoBy_keeps]

/-! Commands that store -/

/-- A slot that passes keeps the memories' form where its operation keeps it. -/
theorem Chip.slotMine_wf (s : Chip) (op : Nat) (hop early : Bool) (x : Slot) {f : Chip → Slot → SlotOut × Chip}
    (h : ∀ s x, Wf s → Wf (f s x).2) (h0 : Wf s) : Wf (s.slotMine op hop early x f) := by
  have hf := h s x h0
  unfold Chip.slotMine
  dsimp only
  (repeat' split) <;> simp_all

/-- A slot of an operation of Table GATE-4 keeps the memories' form where its operation keeps it. -/
theorem Chip.slotAt_wf (s : Chip) (op : Nat) (hop early : Bool) (x : Slot) {f : Chip → Slot → SlotOut × Chip}
    (h : ∀ s x, Wf s → Wf (f s x).2) (h0 : Wf s) : Wf (s.slotAt op hop early x f) := by
  unfold Chip.slotAt Chip.slotSeen
  split
  · exact h0
  · rename_i p _
    have harr : Wf (s.arrive p op x) := by simpa using h0
    have hmine := Chip.slotMine_wf _ op hop early x h harr
    dsimp only
    (repeat' split) <;> simp_all

/-- A register's command that stores keeps both memories in canonical form. -/
theorem exec_wf_of_registerOf {i : Instr} (hs : i.stores = true) {s : State} {r : Requester} {a : Nat} (hr : i.registerOf = some (r, a)) (h0 : Wf s.chip) :
    ∃ c : Chip, exec i s = .next { s with chip := c } ∧ Wf c := by
  cases i <;> cases hs <;> cases hr <;> (delta exec; refine ⟨_, rfl, ?_⟩; dsimp only)
  case pwrStandby.refl.refl => exact Chip.command_wf _ _ _ _ (fun t => Chip.pwrStandby_wf t _) h0
  case pwrOff.refl.refl => exact Chip.command_wf _ _ _ _ (fun t => Chip.pwrOff_wf t _) h0
  case pwrTrunkOff.refl.refl => exact Chip.command_wf _ _ _ _ (fun t => Chip.pwrOff_wf t _) h0
  case ckptChunk.refl.refl w => exact Chip.command_wf _ _ _ _ (fun t => Chip.ckptChunk_wf t _ _) h0
  case mput.refl.refl q w => exact Chip.command_wf _ _ _ _ (fun t => Chip.runMput_wf t _ _ _ _) h0
  case mputE.refl.refl q w => exact Chip.command_wf _ _ _ _ (fun t => Chip.runMput_wf t _ _ _ _) h0
  case mSend.refl.refl v => exact Chip.command_wf _ _ _ _ (fun t => Chip.syncSend_wf t _ _) h0
  case canDisable.refl.refl c => exact Chip.command_wf _ _ _ _ (fun t => Chip.canDisable_wf t _) h0
  all_goals simp [Chip.command_wf, h0]

/-- Any other command that stores keeps them. -/
theorem exec_wf_of_not_registerOf {i : Instr} (hs : i.stores = true) (hr : i.registerOf = none) {s : State} (h0 : Wf s.chip) :
    ∃ c : Chip, exec i s = .next { s with chip := c } ∧ Wf c := by
  cases i <;> cases hs <;> cases hr <;> (delta exec; refine ⟨_, rfl, ?_⟩; dsimp only)
  case hopWr.refl.refl x => exact Chip.slotAt_wf _ _ _ _ x gateWr_wf h0
  case stWr.refl.refl x => exact Chip.slotAt_wf _ _ _ _ x gateWr_wf h0
  case stRw.refl.refl x => exact Chip.slotAt_wf _ _ _ _ x gateRw_wf h0
  case mbxPut.refl.refl x => exact Chip.slotAt_wf _ _ _ _ x gateMbxPut_wf h0
  case seamFrameReceive.refl.refl die crcOk => cases die <;> simp [h0]
  all_goals simp [h0]

/-- Every command keeps both memories in canonical form: one that stores nothing leaves them, one that stores has its own law. -/
theorem exec_wf (i : Instr) {s : State} (h0 : Wf s.chip) : ∃ c : Chip, exec i s = .next { s with chip := c } ∧ Wf c := by
  cases hs : i.stores with
  | false =>
    obtain ⟨c, hc, hmem, hnor⟩ := exec_keeps hs s
    exact ⟨c, hc, by rwa [Wf, hmem, hnor]⟩
  | true =>
    match hr : i.registerOf with
    | none => exact exec_wf_of_not_registerOf hs hr h0
    | some (r, a) => exact exec_wf_of_registerOf hs hr h0

/-- A step keeps both memories in canonical form, whether a command or a cc of the clock. -/
theorem step_wf {s t : State} (h0 : Wf s.chip) (h : step s = .next t) : Wf t.chip := by
  unfold step at h
  split at h
  · obtain rfl := Host.Outcome.next.inj h
    exact Chip.ccTick_wf s.chip h0
  next c rest _ =>
    obtain ⟨u, hu, hwf⟩ := exec_wf c (s := { s with pending := rest }) h0
    obtain rfl := Host.Outcome.next.inj (hu.symm.trans h)
    exact hwf

/-- The canonical form of the block's memories is that of each. -/
theorem Chip.memoriesWf_iff (s : Chip) : s.memoriesWf = true ↔ Wf s := Bool.and_eq_true _ _ ▸ Iff.rfl

/-! When a register's command and an instruction reach what they act on -/

section
variable {s : Chip} {r : Requester} {a : Nat} {l : Loc}

/-- With the core die in reset no register's command does anything (R53). -/
theorem Chip.command_in_reset (h : s.coreUp = false) (act : Chip → Did) : s.command r a act = s := by
  simp [Chip.command, h]

/-- To the management function while its flask is not ACTIVE every register outside FLASK is a refused access (R295). -/
theorem Chip.command_fenced (hup : s.coreUp = true) (hl : locate a = some l) (hact : s.active 52 = false) (hblk : l.blk ≠ 8)
    (act : Chip → Did) : s.command .mgmt a act = s.respond .mgmt a .refused := by
  simp [Chip.command, hup, hl, hact, hblk]

/-- A unit under test is busy to a requester that is not held to FLASK (R489). -/
theorem Chip.command_occupied (hup : s.coreUp = true) (hl : locate a = some l) (hopen : r ≠ .mgmt ∨ s.active 52 = true ∨ l.blk = 8)
    (hocc : s.occupied l = true) (act : Chip → Did) : s.command r a act = s.respond r a .busy := by
  have hheld : ¬(r = .mgmt ∧ (!s.active 52) = true ∧ l.blk ≠ 8) := by
    rintro ⟨hr, hact, hblk⟩
    rcases hopen with h | h | h
    · exact h hr
    · simp [h] at hact
    · exact hblk h
  simp only [Chip.command, hup, hl, if_neg hheld, hocc, Bool.not_true, Bool.false_eq_true, if_false, if_true]

variable {e : Nat}

/-- No instruction executes in reset or out of RUN (R195). -/
theorem Chip.isa_of_not_run (h : s.coreUp = false ∨ s.engState e ≠ 1) (f : Chip → Chip) : s.isa e f = s := by
  rcases h with h | h <;> simp [Chip.isa, h]

/-- The word at a program counter lies on a word's boundary, so its code is kept under its own address. -/
theorem Chip.eccAt_codeAddr (s : Chip) (e pc : Nat) : s.eccAt (codeAddr e pc) = s.ecc.get 0 (codeAddr e pc) := by
  have halign : codeAddr e pc / 4 * 4 = codeAddr e pc := by simp only [codeAddr]; omega
  rw [Chip.eccAt, halign]

/-- An uncorrectable code word is not executed: trap 5 at its address (R194). -/
theorem Chip.fetchEcc_uncorrectable (h : 2 ≤ s.ecc.get 0 (codeAddr e (s.get (Reg.ENG_PC e)))) :
    s.fetchEcc e = (false, s.trap e 5 (some (codeAddr e (s.get (Reg.ENG_PC e))))) := by
  simp only [Chip.fetchEcc, Chip.eccAt_codeAddr]
  split
  · omega
  · omega
  · rfl

/-- A clean code word is executed as it is (R194). -/
theorem Chip.fetchEcc_clean (h : s.ecc.get 0 (codeAddr e (s.get (Reg.ENG_PC e))) = 0) : s.fetchEcc e = (true, s) := by
  simp only [Chip.fetchEcc, Chip.eccAt_codeAddr, h]

/-- A corrected code word counts and is left to the scrubber where it runs (R194). -/
theorem Chip.fetchEcc_corrected (h : s.ecc.get 0 (codeAddr e (s.get (Reg.ENG_PC e))) = 1) :
    s.fetchEcc e = (true, let c := s.inc (Reg.ENG_ECC_CNT e)
      if c.bkgRuns then c.rewriteLater (codeAddr e (s.get (Reg.ENG_PC e))) else c) := by
  have halign : codeAddr e (s.get (Reg.ENG_PC e)) / 4 * 4 = codeAddr e (s.get (Reg.ENG_PC e)) := by simp only [codeAddr]; omega
  simp only [Chip.fetchEcc, Chip.eccAt_codeAddr, h, Chip.corrected, halign]

end

end Sys2Proof.Machine

namespace Sys2Proof.Proofs

open Sys2Proof.Machine

/-- Settles O1: the step's own equation. -/
theorem stepRunsCommandAtFront : Obligations.StepRunsCommandAtFront := fun _ _ => rfl

/-- Settles O4: nothing is listed, so every register reads its reset value. -/
theorem resetStateIsTrunkPor : Obligations.ResetStateIsTrunkPor := by
  unfold Obligations.ResetStateIsTrunkPor
  exact ⟨rfl, rfl, rfl, rfl, rfl, fun _ => ⟨rfl, rfl, rfl, rfl, rfl⟩, fun _ => rfl, fun _ => rfl, rfl⟩

/-- Settles O2, by induction on the number of steps: each step of a queue with a command runs that command, which leaves the queue's rest. -/
theorem queuedCommandsRunInOrder : Obligations.QueuedCommandsRunInOrder := by
  unfold Obligations.QueuedCommandsRunInOrder
  have completes : ∀ (i : Instr) (s : State), ∃ c : Chip, exec i s = .next { s with chip := c } := fun i s =>
    let ⟨_, hf⟩ := exec_eq_run i
    ⟨_, hf s⟩
  refine ⟨completes, fun n => ?_, fun s hs => ?_⟩
  · induction n with
    | zero => exact fun s _ => ⟨s, rfl, rfl⟩
    | succ n ih =>
      intro s hn
      match hq : s.pending with
      | [] => simp [hq] at hn
      | i :: rest =>
        obtain ⟨c, hc⟩ := completes i { s with pending := rest }
        obtain ⟨t, hrun, hpend⟩ := ih { chip := c, pending := rest } (by simpa [hq] using hn)
        refine ⟨t, ?_, hpend⟩
        simp only [Step.runs, step, hq, hc, hrun]
  · simp only [step, hs]

/-- Settles O5: `step_wf`. -/
theorem everyStepKeepsMemoriesCanonical : Obligations.EveryStepKeepsMemoriesCanonical := by
  unfold Obligations.EveryStepKeepsMemoriesCanonical
  intro s t hwf hstep
  exact (Chip.memoriesWf_iff _).2 (step_wf ((Chip.memoriesWf_iff _).1 hwf) hstep)

/-- Settles O6: a memory that is the same reads the same. -/
theorem commandsThatStoreNothingKeepMemory : Obligations.CommandsThatStoreNothingKeepMemory := by
  unfold Obligations.CommandsThatStoreNothingKeepMemory
  intro i s t hi ht a
  obtain ⟨c, hc, hmem, hnor⟩ := exec_keeps hi s
  obtain rfl := Host.Outcome.next.inj (hc.symm.trans ht)
  simp only [Chip.rdb, Chip.norb, hmem, hnor, and_self]

/-- Settles O7: each ground turns the write away before the register's own act. -/
theorem registerCommandsTurnedAway : Obligations.RegisterCommandsTurnedAway := by
  unfold Obligations.RegisterCommandsTurnedAway
  intro i r addr l s hi hl
  obtain ⟨act, hexec⟩ := exec_of_registerOf hi
  have gives : ∀ {c : Chip}, s.chip.command r addr act = c → Gives i s c := gives_of_run (hexec s)
  refine ⟨fun hdown => gives (Chip.command_in_reset hdown act), ?_, ?_⟩
  · rintro hup rfl hact hblk
    exact gives (Chip.command_fenced hup hl hact hblk act)
  · exact fun hup hopen hocc => gives (Chip.command_occupied hup hl hopen hocc act)

/-- Settles O8: the instruction is reached past the engine's state and the word's code. -/
theorem instructionsNeedRunAndGoodCode : Obligations.InstructionsNeedRunAndGoodCode := by
  unfold Obligations.InstructionsNeedRunAndGoodCode
  intro i e s hi addr code
  obtain ⟨f, hexec⟩ := exec_of_engineOf hi
  refine ⟨fun h => gives_of_run (hexec s) (Chip.isa_of_not_run h f), fun hup hrun hcode => ?_, fun hup hrun hcode => ?_,
    fun hup hrun hcode => ?_⟩
  · have hfetch := Chip.fetchEcc_uncorrectable hcode
    refine gives_of_run (hexec s) ?_
    simp only [Chip.isa, hup, hrun, hfetch, Bool.true_and, beq_self_eq_true, if_true, Bool.false_eq_true, if_false]
    rfl
  · have hfetch := Chip.fetchEcc_clean hcode
    simp only [Chip.executes, Chip.fetched, hup, hrun, hfetch, Bool.true_and, beq_self_eq_true, and_self]
  · have hfetch := Chip.fetchEcc_corrected hcode
    simp only [Chip.executes, Chip.fetched, hup, hrun, hfetch, Bool.true_and, beq_self_eq_true, true_and]
    rfl

end Sys2Proof.Proofs
end

section
/-! PROOF. Instructions that compute a register and flags (10_sprue_instruction_set.md R224 to R228, R236, R241, R242): what each computation of the
flags gives, and the results of the arithmetic forms. -/

namespace Sys2Proof.Machine

/-! Flags of the arithmetic forms -/

/-- Out of the signed 32-bit range is where the word of the exact result does not read as it. -/
theorem over32_eq_ofInt (i : Int) : over32 i = decide ((BitVec.ofInt 32 i).toInt ≠ i) := by
  rw [over32_eq, decide_eq_decide, BitVec.toInt_ofInt, Int.bmod_def]
  split <;> omega

/-- The word of an integer sum. -/
theorem ofInt_toInt_add_carry (x y : BitVec 32) (k : Nat) : BitVec.ofInt 32 (x.toInt + y.toInt + k) = x + y + BitVec.ofNat 32 k := by
  rw [BitVec.ofInt_add, BitVec.ofInt_add, BitVec.ofInt_toInt, BitVec.ofInt_toInt, BitVec.ofInt_natCast]

/-- The word of an integer difference. -/
theorem ofInt_toInt_sub_borrow (x y : BitVec 32) (k : Nat) : BitVec.ofInt 32 (x.toInt - y.toInt - k) = x - y - BitVec.ofNat 32 k := by
  rw [Int.sub_eq_add_neg, Int.sub_eq_add_neg, BitVec.ofInt_add, BitVec.ofInt_add, BitVec.ofInt_neg, BitVec.ofInt_neg, BitVec.ofInt_toInt,
    BitVec.ofInt_toInt, BitVec.ofInt_natCast, ← BitVec.sub_eq_add_neg, ← BitVec.sub_eq_add_neg]

/-- A sum with a carry in: C is the carry out of bit 31, V where the sum is not exact (R224). -/
theorem addFlags_eq (x y : BitVec 32) (ci : Bool) :
    addFlags x y ci = (x + y + BitVec.ofNat 32 (b2n ci), flagsZNCV (x + y + BitVec.ofNat 32 (b2n ci))
      (decide (2 ^ 32 ≤ x.toNat + y.toNat + b2n ci)) (decide ((x + y + BitVec.ofNat 32 (b2n ci)).toInt ≠ x.toInt + y.toInt + b2n ci))) := by
  rw [← ofInt_toInt_add_carry, ← over32_eq_ofInt, ofInt_toInt_add_carry]
  rfl

/-- A difference with a borrow: C is 1 where no borrow occurred, V where the difference is not exact (R224). -/
theorem subFlags_eq (x y : BitVec 32) (bi : Bool) :
    subFlags x y bi = (x - y - BitVec.ofNat 32 (b2n bi), flagsZNCV (x - y - BitVec.ofNat 32 (b2n bi))
      (decide (y.toNat + b2n bi ≤ x.toNat)) (decide ((x - y - BitVec.ofNat 32 (b2n bi)).toInt ≠ x.toInt - y.toInt - b2n bi))) := by
  rw [← ofInt_toInt_sub_borrow, ← over32_eq_ofInt, ofInt_toInt_sub_borrow]
  rfl

/-- A sum without a carry in (R224). -/
theorem addFlags_plain (x y : BitVec 32) :
    addFlags x y false = (x + y, flagsZNCV (x + y) (decide (2 ^ 32 ≤ x.toNat + y.toNat)) (decide ((x + y).toInt ≠ x.toInt + y.toInt))) := by
  simpa [b2n] using addFlags_eq x y false

/-- A difference without a borrow (R224). -/
theorem subFlags_plain (x y : BitVec 32) :
    subFlags x y false = (x - y, flagsZNCV (x - y) (decide (y.toNat ≤ x.toNat)) (decide ((x - y).toInt ≠ x.toInt - y.toInt))) := by
  simpa [b2n] using subFlags_eq x y false

/-- A saturating result: the exact value held to the range, S where it was out of it (R224). -/
theorem satFlags_eq (i : Int) : satFlags i = (held32 i, flagsSat i) := by
  simp only [satFlags, flagsSat, zn, ofInt_sat32, over32_eq, decide_eq_true_eq]

/-- A result with Z and N. -/
theorem withZN_eq (r : BitVec 32) : withZN r = (r, flagsZN r) := rfl

/-- The high half of the signed product. -/
theorem mulh_eq (x y : BitVec 32) :
    BitVec.ofInt 32 (Int.fdiv (x.toInt * y.toInt) 4294967296) = (x.signExtend 64 * y.signExtend 64).extractLsb' 32 32 := by
  have hprod : x.signExtend 64 * y.signExtend 64 = BitVec.ofInt 64 (x.toInt * y.toInt) := by
    rw [BitVec.ofInt_mul]
    rfl
  rw [hprod, Int.fdiv_eq_ediv_of_nonneg _ (by decide)]
  apply BitVec.eq_of_toNat_eq
  rw [BitVec.extractLsb'_toNat, BitVec.toNat_ofInt, BitVec.toNat_ofInt, Nat.shiftRight_eq_div_pow]
  omega

/-- The high half of the unsigned product. -/
theorem mulhu_eq (x y : BitVec 32) :
    BitVec.ofNat 32 (x.toNat * y.toNat / 4294967296) = (x.zeroExtend 64 * y.zeroExtend 64).extractLsb' 32 32 := by
  have hx := x.isLt
  have hy := y.isLt
  have hprod : x.toNat * y.toNat < 2 ^ 64 := Nat.lt_of_lt_of_eq (Nat.mul_lt_mul'' hx hy) (by decide)
  apply BitVec.eq_of_toNat_eq
  rw [BitVec.extractLsb'_toNat, BitVec.toNat_ofNat, BitVec.toNat_mul, BitVec.toNat_setWidth, BitVec.toNat_setWidth,
    Nat.shiftRight_eq_div_pow, Nat.mod_eq_of_lt (a := x.toNat) (by omega), Nat.mod_eq_of_lt (a := y.toNat) (by omega), Nat.mod_eq_of_lt hprod]

/-- The smaller of two words by their signed reading. -/
theorem ofInt_min_toInt (x y : BitVec 32) : BitVec.ofInt 32 (min x.toInt y.toInt) = if x.toInt ≤ y.toInt then x else y := by
  rw [Int.min_def]
  split <;> exact BitVec.ofInt_toInt

/-- The greater of two words by their signed reading. -/
theorem ofInt_max_toInt (x y : BitVec 32) : BitVec.ofInt 32 (max x.toInt y.toInt) = if x.toInt ≤ y.toInt then y else x := by
  rw [Int.max_def]
  split <;> exact BitVec.ofInt_toInt

/-- The smaller of two words. -/
theorem ofNat_min_toNat (x y : BitVec 32) : BitVec.ofNat 32 (min x.toNat y.toNat) = if x.toNat ≤ y.toNat then x else y := by
  rw [Nat.min_def]
  split <;> rw [BitVec.ofNat_toNat, BitVec.setWidth_eq]

/-- The greater of two words. -/
theorem ofNat_max_toNat (x y : BitVec 32) : BitVec.ofNat 32 (max x.toNat y.toNat) = if x.toNat ≤ y.toNat then y else x := by
  rw [Nat.max_def]
  split <;> rw [BitVec.ofNat_toNat, BitVec.setWidth_eq]

/-- The leading zeros of a word lie before its highest 1. -/
theorem clz32_eq {x : BitVec 32} {n : Nat} (hn : n ≤ 32) (hlt : x.toNat < 2 ^ (32 - n)) (hge : n < 32 → 2 ^ (31 - n) ≤ x.toNat) :
    clz32 x = n := by
  have hzeros : ∀ j < n, (!x.getLsbD (31 - j)) = true := by
    intro j hj
    rw [BitVec.getLsbD, Nat.testBit_lt_two_pow (Nat.lt_of_lt_of_le hlt (Nat.pow_le_pow_right (by decide) (by omega)))]
    rfl
  unfold clz32
  obtain rfl | hn := Nat.eq_or_lt_of_le hn
  · have hnone : (List.range 32).find? (fun i => x.getLsbD (31 - i)) = none := by
      rw [List.find?_range_eq_none]
      exact hzeros
    rw [hnone]
  · have hone : x.getLsbD (31 - n) = true := by
      have hexp : 32 - n = 31 - n + 1 := by omega
      rw [hexp, Nat.pow_succ] at hlt
      rw [BitVec.getLsbD, Nat.testBit_eq_decide_div_mod_eq, decide_eq_true_eq, Nat.div_eq_of_lt_le (k := 1)]
      · rw [Nat.one_mul]; exact hge hn
      · omega
    have hsome : (List.range 32).find? (fun i => x.getLsbD (31 - i)) = some n := by
      rw [List.find?_range_eq_some]
      exact ⟨hone, List.mem_range.2 hn, hzeros⟩
    rw [hsome]

/-- A divisor of 0: all-ones or the ends of the range as quotient, the dividend as remainder, with V (R228). -/
theorem divFlags_by_zero (x : BitVec 32) :
    divFlags 0 x 0 = (if 0 ≤ x.toInt then 0x7FFFFFFF else 0x80000000, flagsZNV (if 0 ≤ x.toInt then 0x7FFFFFFF else 0x80000000) true) ∧
    divFlags 1 x 0 = (0xFFFFFFFF, flagsZNV 0xFFFFFFFF true) ∧
    divFlags 2 x 0 = (x, flagsZNV x true) ∧ divFlags 3 x 0 = (x, flagsZNV x true) := by
  refine ⟨?_, rfl, rfl, rfl⟩
  have hsign : (if x.msb then (0x80000000 : BitVec 32) else 0x7FFFFFFF) = if 0 ≤ x.toInt then 0x7FFFFFFF else 0x80000000 := by
    rw [BitVec.msb_eq_toInt]
    by_cases h : 0 ≤ x.toInt
    · rw [if_pos h, if_neg (by simpa using h)]
    · rw [if_neg h, if_pos (by simpa using h)]
  rw [← hsign]
  rfl

/-- The signed forms away from their special cases truncate toward zero, without V (R228). -/
theorem divFlags_signed {x y : BitVec 32} (hy : y ≠ 0) (h : ¬(x = 0x80000000 ∧ y = 0xFFFFFFFF)) :
    divFlags 0 x y = (BitVec.ofInt 32 (x.toInt.tdiv y.toInt), flagsZNV (BitVec.ofInt 32 (x.toInt.tdiv y.toInt)) false) ∧
    divFlags 2 x y = (BitVec.ofInt 32 (x.toInt.tmod y.toInt), flagsZNV (BitVec.ofInt 32 (x.toInt.tmod y.toInt)) false) :=
  ⟨(if_neg hy).trans (if_neg fun hc => h hc.2), (if_neg hy).trans (if_neg fun hc => h hc.2)⟩

/-- The unsigned forms by a divisor other than 0, without V (R228). -/
theorem divFlags_unsigned (x : BitVec 32) {y : BitVec 32} (hy : y ≠ 0) :
    divFlags 1 x y = (BitVec.ofNat 32 (x.toNat / y.toNat), flagsZNV (BitVec.ofNat 32 (x.toNat / y.toNat)) false) ∧
    divFlags 3 x y = (BitVec.ofNat 32 (x.toNat % y.toNat), flagsZNV (BitVec.ofNat 32 (x.toNat % y.toNat)) false) := by
  have hdiv : BitVec.ofNat 32 (x.toNat / y.toNat) = x / y := by
    apply BitVec.eq_of_toNat_eq
    rw [BitVec.toNat_ofNat, BitVec.toNat_udiv, Nat.mod_eq_of_lt (Nat.lt_of_le_of_lt (Nat.div_le_self _ _) x.isLt)]
  have hmod : BitVec.ofNat 32 (x.toNat % y.toNat) = x % y := by
    apply BitVec.eq_of_toNat_eq
    rw [BitVec.toNat_ofNat, BitVec.toNat_umod, Nat.mod_eq_of_lt (Nat.lt_of_le_of_lt (Nat.mod_le _ _) x.isLt)]
  rw [hdiv, hmod]
  exact ⟨(if_neg hy).trans (if_neg fun hc => absurd hc.1 (by decide)), (if_neg hy).trans (if_neg fun hc => absurd hc.1 (by decide))⟩

/-- The amount of a shift by a register is its low five bits. -/
theorem amt_eq (y : BitVec 32) : amt y = (y.extractLsb' 0 5).toNat := by
  simp [amt, BitVec.extractLsb'_toNat]

/-! Instructions of an engine that executes -/

section
variable {i : Instr} {s : State} {e : Fin 32} {d : Fin 16} {r : BitVec 32} {u : FlagUpd}

/-- An instruction that computes gives its result in gd and its flags (R220). -/
theorem gives_compute {f : Engine → BitVec 32 × FlagUpd} (hexec : exec i s = s.run (isaCompute e.val d.val f))
    (he : s.chip.executes e = true) (hf : f ((s.chip.fetched e).eng e.val) = (r, u)) : Gives i s ((s.chip.fetched e).wrote e d r u) := by
  refine gives_of_executes hexec he ?_
  dsimp only
  rw [hf]
  rfl

/-- An instruction of two registers gives what it makes of what they read (R220). -/
theorem gives_op3 {a b : Fin 16} {f : BitVec 32 → BitVec 32 → BitVec 32 × FlagUpd}
    (hexec : exec i s = s.run (isaOp3 e.val d.val a.val b.val f)) (he : s.chip.executes e = true)
    (hf : f ((s.chip.fetched e).g e a) ((s.chip.fetched e).g e b) = (r, u)) : Gives i s ((s.chip.fetched e).wrote e d r u) :=
  gives_compute (f := fun x => f (x.reg a.val) (x.reg b.val)) hexec he hf

end

end Sys2Proof.Machine

namespace Sys2Proof.Proofs

open Sys2Proof.Machine

/-- Settles O13: each form is `addFlags` or `subFlags` of what its operands read. -/
theorem isaAddSubtractCompareResults : Obligations.IsaAddSubtractCompareResults := by
  unfold Obligations.IsaAddSubtractCompareResults
  intro s e d a b imm he t x y i k w sum dif
  have hcarry : k = b2n (t.eng e.val).c := rfl
  have hborrow : w = b2n (!(t.eng e.val).c) := by cases hc : (t.eng e.val).c <;> simp [w, hc, b2n]
  refine ⟨?_, ?_, ?_, ?_, ?_, ?_, ?_, ?_⟩
  · exact gives_op3 rfl he (addFlags_plain x y)
  · refine gives_compute rfl he ?_
    exact addFlags_eq x y (t.eng e.val).c
  · refine gives_compute rfl he ?_
    exact addFlags_plain x i
  · exact gives_op3 rfl he (subFlags_plain x y)
  · refine gives_compute rfl he ?_
    simp only [dif, hborrow]
    exact subFlags_eq x y (!(t.eng e.val).c)
  · refine gives_compute rfl he ?_
    have hzero : decide (x.toNat ≤ BitVec.toNat (0 : BitVec 32)) = decide (x = 0) := by
      rw [decide_eq_decide, BitVec.toNat_eq]
      exact Nat.le_zero
    have hexact : (0 : BitVec 32).toInt - x.toInt = - x.toInt := Int.zero_sub _
    rw [← hzero, ← hexact]
    exact subFlags_plain 0 x
  · exact gives_op3 rfl he (subFlags_plain x y)
  · refine gives_compute rfl he ?_
    exact subFlags_plain x i

/-- Settles O14: the logic forms as they stand, the moves with no flag, the halves of a product by `mulh_eq` and `mulhu_eq`. -/
theorem isaLogicMoveMultiplyResults : Obligations.IsaLogicMoveMultiplyResults := by
  unfold Obligations.IsaLogicMoveMultiplyResults
  intro s e d a b imm wide he t x y i gives
  refine ⟨?_, ?_, ?_, ?_, ?_, ?_, ?_, ?_, ?_, ?_, ?_, ?_, ?_⟩
  · exact gives_op3 rfl he (withZN_eq (x &&& y))
  · exact gives_op3 rfl he (withZN_eq (x ||| y))
  · exact gives_op3 rfl he (withZN_eq (x ^^^ y))
  · exact gives_op3 rfl he (withZN_eq (x &&& ~~~y))
  · exact gives_op3 rfl he (withZN_eq (x &&& y))
  · exact gives_compute rfl he (withZN_eq (x &&& i))
  · exact gives_compute rfl he (withZN_eq (x ||| i))
  · exact gives_compute rfl he (withZN_eq (x ^^^ i))
  · exact gives_compute rfl he rfl
  · exact gives_compute rfl he rfl
  · exact gives_op3 rfl he (withZN_eq (x * y))
  · exact gives_op3 rfl he (mulh_eq x y ▸ withZN_eq _)
  · exact gives_op3 rfl he (mulhu_eq x y ▸ withZN_eq _)

/-- Settles O15: each form is `shiftFlags` of its kind and amount. -/
theorem isaShiftResults : Obligations.IsaShiftResults := by
  unfold Obligations.IsaShiftResults
  intro s e d a b amount he t x gives n m
  have hn : amt (t.g e b) = n := amt_eq _
  refine ⟨?_, ?_, ?_, ?_, ?_, ?_, ?_, ?_⟩
  · exact gives_op3 rfl he (congrArg (shiftFlags 0 x) hn)
  · exact gives_op3 rfl he (congrArg (shiftFlags 1 x) hn)
  · exact gives_op3 rfl he (congrArg (shiftFlags 2 x) hn)
  · exact gives_op3 rfl he (congrArg (shiftFlags 3 x) hn)
  · exact gives_compute (f := fun u => shiftFlags 0 (u.reg a.val) m) rfl he rfl
  · exact gives_compute (f := fun u => shiftFlags 1 (u.reg a.val) m) rfl he rfl
  · exact gives_compute (f := fun u => shiftFlags 2 (u.reg a.val) m) rfl he rfl
  · exact gives_compute (f := fun u => shiftFlags 3 (u.reg a.val) m) rfl he rfl

/-- Settles O16: the held values, the smaller and the greater by either reading, and the leading zeros. -/
theorem isaSaturatingMinMaxClzResults : Obligations.IsaSaturatingMinMaxClzResults := by
  unfold Obligations.IsaSaturatingMinMaxClzResults
  intro s e d a b he t x y saturates gives
  refine ⟨?_, ?_, ?_, ?_, ?_, ?_, ?_, fun n hn hlt hge => ?_⟩
  · exact gives_op3 rfl he (satFlags_eq (x.toInt + y.toInt))
  · exact gives_op3 rfl he (satFlags_eq (x.toInt - y.toInt))
  · have habs : (x.toInt.natAbs : Int) = if x.toInt < 0 then - x.toInt else x.toInt := by split <;> omega
    rw [← habs]
    exact gives_compute rfl he (satFlags_eq _)
  · exact gives_op3 rfl he (ofInt_min_toInt x y ▸ withZN_eq _)
  · exact gives_op3 rfl he (ofInt_max_toInt x y ▸ withZN_eq _)
  · exact gives_op3 rfl he (ofNat_min_toNat x y ▸ withZN_eq _)
  · exact gives_op3 rfl he (ofNat_max_toNat x y ▸ withZN_eq _)
  · refine gives_compute rfl he ?_
    have hclz : clz32 ((t.eng e.val).reg a.val) = n := clz32_eq hn hlt hge
    rw [hclz]

/-- Settles O17: the special cases of R228's table, then truncation. -/
theorem isaDivideResults : Obligations.IsaDivideResults := by
  unfold Obligations.IsaDivideResults
  intro s e d a b he t x y gives
  refine ⟨fun hy => ?_, fun hx hy => ?_, fun hy h => ?_, fun hy => ?_⟩
  · obtain ⟨hdiv, hdivu, hrem, hremu⟩ := divFlags_by_zero x
    rw [← hy] at hdiv hdivu hrem hremu
    exact ⟨gives_op3 rfl he hdiv, gives_op3 rfl he hdivu, gives_op3 rfl he hrem, gives_op3 rfl he hremu⟩
  · have hdiv : divFlags 0 x y = (0x7FFFFFFF, flagsZNV 0x7FFFFFFF true) := by rw [hx, hy]; rfl
    have hrem : divFlags 2 x y = (0, flagsZNV 0 true) := by rw [hx, hy]; rfl
    exact ⟨gives_op3 rfl he hdiv, gives_op3 rfl he hrem⟩
  · obtain ⟨hdiv, hrem⟩ := divFlags_signed hy h
    exact ⟨gives_op3 rfl he hdiv, gives_op3 rfl he hrem⟩
  · obtain ⟨hdivu, hremu⟩ := divFlags_unsigned x hy
    exact ⟨gives_op3 rfl he hdivu, gives_op3 rfl he hremu⟩

end Sys2Proof.Proofs
end

section
/-! PROOF. Bit fields, CRC steps, flags, time and CSRs (10_sprue_instruction_set.md R228, R236, R241, R242). -/

namespace Sys2Proof.Machine

/-! Bit fields within a word -/

/-- A field read without sign. -/
theorem field_unsigned (x : BitVec 32) (pos w : Nat) :
    BitVec.ofNat 32 (x.toNat / 2 ^ pos % 2 ^ w) = (x.extractLsb' pos w).zeroExtend 32 := by
  apply BitVec.eq_of_toNat_eq
  rw [BitVec.toNat_ofNat, BitVec.toNat_setWidth, BitVec.extractLsb'_toNat, Nat.shiftRight_eq_div_pow]

/-- The signed reading of a number's low bits is that of the word they are. -/
theorem signed_eq_toInt {w : Nat} (hw : 0 < w) (v : Nat) : signed w v = (BitVec.ofNat w v).toInt := by
  have hhalf : 2 * 2 ^ (w - 1) = 2 ^ w := by rw [← Nat.pow_succ', Nat.succ_eq_add_one, Nat.sub_add_cancel hw]
  have hmod : (v : Int) % 2 ^ w = ((v % 2 ^ w : Nat) : Int) := by push_cast; rfl
  have hpow : (2 : Int) ^ w = ((2 ^ w : Nat) : Int) := by push_cast; rfl
  rw [BitVec.toInt_eq_toNat_cond, BitVec.toNat_ofNat, signed, hmod, hpow, ← hhalf]
  generalize v % (2 * 2 ^ (w - 1)) = m
  split <;> split <;> omega

/-- A field read with its sign. -/
theorem field_signed (x : BitVec 32) (pos : Nat) {w : Nat} (hw : 0 < w) :
    BitVec.ofInt 32 (signed w (x.toNat / 2 ^ pos % 2 ^ w)) = (x.extractLsb' pos w).signExtend 32 := by
  have hfield : BitVec.ofNat w (x.toNat / 2 ^ pos % 2 ^ w) = x.extractLsb' pos w := by
    apply BitVec.eq_of_toNat_eq
    rw [BitVec.toNat_ofNat, BitVec.extractLsb'_toNat, Nat.shiftRight_eq_div_pow, Nat.mod_mod]
  rw [signed_eq_toInt hw, hfield]
  rfl

/-- Replacing w bits from pos: the bits above, the new field, the bits below. -/
theorem insert_eq_parts (old new pos w : Nat) :
    old - old / 2 ^ pos % 2 ^ w * 2 ^ pos + new % 2 ^ w * 2 ^ pos = 2 ^ pos * (2 ^ w * (old / 2 ^ pos / 2 ^ w) + new % 2 ^ w) + old % 2 ^ pos := by
  have hlow := Nat.div_add_mod old (2 ^ pos)
  have hmid := Nat.div_add_mod (old / 2 ^ pos) (2 ^ w)
  generalize old / 2 ^ pos / 2 ^ w = hi at *
  generalize old / 2 ^ pos % 2 ^ w = m at *
  rw [← hmid] at hlow
  have hsplit : old = m * 2 ^ pos + (2 ^ pos * (2 ^ w * hi) + old % 2 ^ pos) := by
    rw [Nat.mul_add, Nat.mul_comm (2 ^ pos) m, Nat.add_comm (2 ^ pos * (2 ^ w * hi)), Nat.add_assoc] at hlow
    exact hlow.symm
  have hrest : old - m * 2 ^ pos = 2 ^ pos * (2 ^ w * hi) + old % 2 ^ pos := Nat.sub_eq_of_eq_add' hsplit
  rw [hrest, Nat.mul_add, Nat.mul_comm (2 ^ pos) (new % 2 ^ w), Nat.add_right_comm]

/-- A field put in place. -/
theorem field_insert (old new : BitVec 32) (pos w : Nat) :
    BitVec.ofNat 32 (old.toNat - old.toNat / 2 ^ pos % 2 ^ w * 2 ^ pos + new.toNat % 2 ^ w * 2 ^ pos) =
      (old &&& ~~~((BitVec.allOnes w).zeroExtend 32 <<< pos)) ||| ((new <<< pos) &&& ((BitVec.allOnes w).zeroExtend 32 <<< pos)) := by
  rw [insert_eq_parts]
  apply BitVec.eq_of_getLsbD_eq
  intro i hi
  rw [BitVec.getLsbD_ofNat, Nat.testBit_two_pow_mul_add _ (Nat.mod_lt _ (Nat.two_pow_pos pos)), 
    Nat.testBit_two_pow_mul_add _ (Nat.mod_lt _ (Nat.two_pow_pos w))]
  by_cases hbelow : i < pos
  · simp [hi, hbelow]
    rfl
  · by_cases hwithin : i - pos < w
    · simp [hi, hbelow, hwithin]
      rfl
    · have hplace : i - pos - w + w + pos = i := by omega
      simp [hi, hbelow, hwithin, Nat.testBit_div_two_pow, hplace]
      rfl
section
variable {e d a pos wm1 : Nat} (hfit : pos + (wm1 + 1) ≤ 32)
include hfit

/-- `bfx` within bit 31 reads its field without sign (Table ISA-5). -/
theorem isaBf_bfx : isaBf e d a pos wm1 0 =
    isaCompute e d (fun x => withZN (((x.reg a).extractLsb' pos (wm1 + 1)).zeroExtend 32)) := by
  funext s
  rw [isaBf, if_neg (by omega)]
  simp only [field_unsigned]

/-- `bfxs` within bit 31 reads its field with its sign (Table ISA-5). -/
theorem isaBf_bfxs : isaBf e d a pos wm1 1 =
    isaCompute e d (fun x => withZN (((x.reg a).extractLsb' pos (wm1 + 1)).signExtend 32)) := by
  funext s
  rw [isaBf, if_neg (by omega)]
  simp only [field_signed _ _ (Nat.succ_pos wm1)]

/-- `bfi` within bit 31 puts its field in place (Table ISA-5). -/
theorem isaBf_bfi : isaBf e d a pos wm1 2 =
    isaCompute e d (fun x => withZN ((x.reg d &&& ~~~((BitVec.allOnes (wm1 + 1)).zeroExtend 32 <<< pos)) |||
      ((x.reg a <<< pos) &&& ((BitVec.allOnes (wm1 + 1)).zeroExtend 32 <<< pos)))) := by
  funext s
  rw [isaBf, if_neg (by omega)]
  simp only [field_insert]

end

section
variable {i : Instr} {s : State} {e : Fin 32} {d : Fin 16}

/-- An instruction that reads into gd what the block holds, with no flag. -/
theorem gives_read {v : Chip → Nat} (hexec : exec i s = s.run (fun b => b.isa e.val fun b => (b.setD e.val d.val (v b)).engNext e.val))
    (he : s.chip.executes e = true) : Gives i s ((s.chip.fetched e).wrote e d (BitVec.ofNat 32 (v (s.chip.fetched e))) {}) :=
  gives_of_executes hexec he rfl

/-- `csrr` of a listed CSR reads it (R241). -/
theorem gives_csrr {n : BitVec 12} (he : s.chip.executes e = true) (hn : n.toNat ≤ 7) :
    Gives (.isaCsrr e d n) s ((s.chip.fetched e).wrote e d (BitVec.ofNat 32 ((s.chip.fetched e).csr e.val n.toNat)) {}) :=
  gives_of_executes rfl he (if_neg (Nat.not_lt.2 hn))

end

end Sys2Proof.Machine

namespace Sys2Proof.Proofs

open Sys2Proof.Machine

/-- Settles O19: fields by `isaBf_bfx`, `isaBf_bfxs` and `isaBf_bfi`, CSRs by `gives_csrr`; the others as they stand. -/
theorem isaBitFieldCrcTimeCsrResults : Obligations.IsaBitFieldCrcTimeCsrResults := by
  unfold Obligations.IsaBitFieldCrcTimeCsrResults
  intro s e d a pos wm1 n he t x u plain width mask byte
  refine ⟨fun hfit => ⟨?_, ?_, ?_⟩, ?_, ?_, ?_, ?_, ?_, ?_, ?_, ?_, ?_, ?_, ?_, ?_, ?_, ?_, ?_, ?_, ?_, ?_, ?_⟩
  · exact gives_compute (congrArg s.run (isaBf_bfx hfit)) he (withZN_eq _)
  · exact gives_compute (congrArg s.run (isaBf_bfxs hfit)) he (withZN_eq _)
  · exact gives_compute (congrArg s.run (isaBf_bfi hfit)) he (withZN_eq _)
  -- CRC steps
  · exact gives_compute rfl he rfl
  · exact gives_compute rfl he rfl
  · exact gives_compute rfl he rfl
  · exact gives_compute rfl he rfl
  -- flags and time
  · exact gives_of_executes rfl he rfl
  · exact gives_of_executes rfl he rfl
  · exact gives_compute rfl he rfl
  · exact gives_read (v := (Chip.get · Reg.CLK_CYC_NUM)) rfl he
  -- csrr
  · rintro rfl; exact gives_csrr he (by decide)
  · rintro rfl; exact gives_csrr he (by decide)
  · rintro rfl; exact gives_csrr he (by decide)
  · rintro rfl; exact gives_csrr he (by decide)
  · rintro rfl
    have hcc : BitVec.ofNat 32 u.cc.toNat = u.cc := by rw [BitVec.ofNat_toNat, BitVec.setWidth_eq]
    simp only [plain]
    rw [← hcc]
    exact gives_csrr he (by decide)
  · rintro rfl
    have hflags : u.flags = 16 * u.z.toNat + 8 * u.n.toNat + 4 * u.c.toNat + 2 * u.v.toNat + u.sat.toNat := by
      cases hz : u.z <;> cases hn : u.n <;> cases hc : u.c <;> cases hv : u.v <;> cases hs : u.sat <;> simp [Engine.flags, b2n, hz, hn, hc, hv, hs]
    rw [← hflags]
    exact gives_csrr he (by decide)
  · rintro rfl; exact gives_csrr he (by decide)
  · rintro rfl
    have htop : t.csr e.val 7 = (u.loops.head?.map (fun l => l.2.2)).getD 0 := by
      cases hl : u.loops <;> simp [Chip.csr, u, hl]
    rw [← htop]
    exact gives_csrr he (by decide)
  -- csrw
  · rintro rfl; exact gives_of_executes rfl he rfl
  · rintro rfl; exact gives_of_executes rfl he rfl
  · intro hle h2 h4
    have hne2 : n.toNat ≠ 2 := fun h => h2 (BitVec.eq_of_toNat_eq h)
    have hne4 : n.toNat ≠ 4 := fun h => h4 (BitVec.eq_of_toNat_eq h)
    exact gives_of_executes rfl he ((if_neg (Nat.not_lt.2 hle)).trans ((if_neg hne2).trans (if_neg hne4)))

end Sys2Proof.Proofs
end

section
/-! PROOF. The end of an instruction, traps and outcomes (09_sprue_engines.md R197, R200, R201, 03_register_model.md R53, R67): what an event leaves of
the registers, what a trap records, and how an instruction goes on. -/

namespace Sys2Proof.Machine

/-! The end of an instruction -/

/-- Counting adds one to what the count reads. -/
theorem Chip.inc_eq (s : Chip) (f : Fld) : s.inc f = s.put f (min (s.get f + 1) (2 ^ f.width - 1)) := rfl

/-- Where no halt was asked for, an instruction ends with its program counter, its loops and its count (R219, R232). -/
theorem Chip.engNext_of_advance {t : Chip} {e : Nat} {pc : Nat} {loops : List (Nat × Nat × Nat)} (hreq : (t.eng e).haltReq = false)
    (ha : advance (t.get (Reg.ENG_PC e)) (t.eng e).loops = (pc, loops)) :
    t.engNext e = ((t.setEng e { t.eng e with loops := loops }).put (Reg.ENG_PC e) pc).put (Reg.ENG_INSTR_CNT e)
      (min (t.get (Reg.ENG_INSTR_CNT e) + 1) (2 ^ 32 - 1)) := by
  have hkey : (Reg.ENG_INSTR_CNT e).key ≠ (Reg.ENG_PC e).key := by
    simp only [Reg.ENG_INSTR_CNT, Reg.ENG_PC]
    omega
  have hcnt : ((t.setEng e { t.eng e with loops := loops }).put (Reg.ENG_PC e) pc).get (Reg.ENG_INSTR_CNT e) = t.get (Reg.ENG_INSTR_CNT e) := by
    rw [Chip.get_put_of_key_ne _ _ hkey, Chip.get_setEng]
  have hnot : ((((t.setEng e { t.eng e with loops := loops }).put (Reg.ENG_PC e) pc).inc (Reg.ENG_INSTR_CNT e)).eng e).haltReq = false := by
    rw [Chip.eng_inc, Chip.eng_put, Chip.eng_setEng_same]
    exact hreq
  have hnohalt : ∀ c : Chip, (c.eng e).haltReq = false → c.haltIfAsked e = c := fun c h => if_neg (by simp [h])
  rw [Chip.engNext, ha, hnohalt _ hnot, Chip.inc_eq, hcnt]
  rfl

/-! What an event leaves -/

/-- What each round of a fold leaves, the fold leaves. -/
theorem Chip.foldl_leaves {α β : Type} (p : Chip → β) {f : Chip → α → Chip} (hf : ∀ c x, p (f c x) = p c) (l : List α) (c : Chip) :
    p (l.foldl f c) = p c := by
  induction l generalizing c with
  | nil => rfl
  | cons x l ih => exact (ih (f c x)).trans (hf c x)

/-- Setting bits pending sets no field. -/
theorem Chip.setPending_regs (s : Chip) (mask src : Nat) : (s.setPending mask src).regs = s.regs := by
  unfold Chip.setPending
  split
  · rfl
  · refine Chip.foldl_leaves Chip.regs (fun c e => ?_) _ s
    split <;> rfl

/-- Setting bits pending leaves the power state. -/
theorem Chip.setPending_pwr (s : Chip) (mask src : Nat) : (s.setPending mask src).pwr = s.pwr := by
  unfold Chip.setPending
  split
  · rfl
  · refine Chip.foldl_leaves Chip.pwr (fun c e => ?_) _ s
    split <;> rfl

/-- Setting bits pending leaves what an engine waits for. -/
theorem Chip.setPending_wait (s : Chip) (mask src e : Nat) : ((s.setPending mask src).eng e).wait = (s.eng e).wait := by
  unfold Chip.setPending
  split
  · rfl
  · refine Chip.foldl_leaves (fun c => (c.eng e).wait) (fun c j => ?_) _ s
    split
    · by_cases hj : e = j
      · rw [hj, Chip.eng_setEng_same]
      · exact congrArg Engine.wait (SMap.get_put_ne _ _ _ _ hj)
    · rfl

/-- A field that the exit from IDLE leaves, where engine e is not held: no field of the power state nor of another engine's STAT and watchdog. -/
def Chip.idleLeaves (e : Nat) (f : Fld) : Prop :=
  f.key ≠ Reg.SYS_PWR_STAT.key ∧ ∀ j, j < 32 → j ≠ e → f.key ≠ (Reg.ENG_STAT_IDLE_HELD j).key ∧ f.key ≠ (Reg.ENG_STAT_STATE j).key ∧
    f.key ≠ (Reg.ENG_STAT_EN j).key ∧ f.key ≠ (Reg.ENG_WDOG_LEFT j).key

/-- One engine's exit from IDLE leaves such a field where engine e is not held. -/
theorem Chip.idleOne_get {s : Chip} {e j : Nat} {f : Fld} (hlt : j < 32) (hf : Chip.idleLeaves e f) (hheld : s.get (Reg.ENG_STAT_IDLE_HELD e) = 0) :
    (if s.flag (Reg.ENG_STAT_IDLE_HELD j) && s.get (Reg.ENG_STAT_STATE j) == 0 then
        ((((s.put (Reg.ENG_STAT_IDLE_HELD j) 0).put (Reg.ENG_STAT_STATE j) 1).put (Reg.ENG_STAT_EN j) 1).put
          (Reg.ENG_WDOG_LEFT j) (s.wk (Reg.ENG_WDOG j)))
      else s).get f = s.get f := by
  by_cases hj : j = e
  · rw [if_neg (by simp [hj, Chip.flag, hheld])]
  · obtain ⟨hidle, hstate, hen, hwdog⟩ := hf.2 j hlt hj
    split
    · rw [Chip.get_put_of_key_ne _ _ hwdog, Chip.get_put_of_key_ne _ _ hen, Chip.get_put_of_key_ne _ _ hstate,
        Chip.get_put_of_key_ne _ _ hidle]
    · rfl

/-- IDLE_HELD of engine e is such a field. -/
theorem Chip.idleLeaves_held {e : Nat} : Chip.idleLeaves e (Reg.ENG_STAT_IDLE_HELD e) := by
  simp only [Chip.idleLeaves, Reg.SYS_PWR_STAT, Reg.ENG_STAT_IDLE_HELD, Reg.ENG_STAT_STATE, Reg.ENG_STAT_EN, Reg.ENG_WDOG_LEFT]
  exact ⟨by omega, fun j _ hj => by omega⟩

/-- The exit from IDLE leaves such a field where engine e is not held (R215). -/
theorem Chip.idleExit_get {s : Chip} {e : Nat} {f : Fld} (hf : Chip.idleLeaves e f) (hheld : s.get (Reg.ENG_STAT_IDLE_HELD e) = 0) :
    s.idleExit.get f = s.get f := by
  have hfold : ∀ (l : List Nat) (c : Chip), (∀ j ∈ l, j < 32) → c.get (Reg.ENG_STAT_IDLE_HELD e) = 0 → (l.foldl (fun s j =>
      if s.flag (Reg.ENG_STAT_IDLE_HELD j) && s.get (Reg.ENG_STAT_STATE j) == 0 then
        ((((s.put (Reg.ENG_STAT_IDLE_HELD j) 0).put (Reg.ENG_STAT_STATE j) 1).put (Reg.ENG_STAT_EN j) 1).put
          (Reg.ENG_WDOG_LEFT j) (s.wk (Reg.ENG_WDOG j)))
      else s) c).get f = c.get f := by
    intro l
    induction l with
    | nil => exact fun _ _ _ => rfl
    | cons j l ih =>
      intro c hl hc
      have hj : j < 32 := hl j List.mem_cons_self
      rw [List.foldl_cons, ih _ (fun k hk => hl k (List.mem_cons_of_mem j hk)) ((Chip.idleOne_get hj Chip.idleLeaves_held hc).trans hc)]
      exact Chip.idleOne_get hj hf hc
  unfold Chip.idleExit
  split
  · rw [hfold _ _ fun _ => List.mem_range.1, Chip.get_put_of_key_ne _ _ hf.1]
    rw [Chip.get_put_of_key_ne _ _ Chip.idleLeaves_held.1]
    exact hheld
  · rfl

/-- The exit from IDLE sets no engine. -/
theorem Chip.idleExit_engs (s : Chip) : s.idleExit.engs = s.engs := by
  unfold Chip.idleExit
  split
  · refine (Chip.foldl_leaves Chip.engs (fun c j => ?_) _ _).trans rfl
    split <;> rfl
  · rfl

/-- The exit from IDLE leaves the state of the power sequencer. -/
theorem Chip.idleExit_pwr (s : Chip) : s.idleExit.pwr = s.pwr := by
  unfold Chip.idleExit
  split
  · refine (Chip.foldl_leaves Chip.pwr (fun c j => ?_) _ _).trans rfl
    split <;> rfl
  · rfl

/-- An event that fires: the count, then an exit from IDLE where the routing asks for one, then the limit's count where it suppresses the
record; beyond these it reaches the queues of records and the hub's wake alone (R499 to R501). -/
theorem Chip.fire_cases {s : Chip} (src det : Nat) (hup : s.coreUp = true) :
    ∃ c : Chip, (c = (s.setPending (s.wk (Reg.EVT_ROUTE_ENG src)) src).inc (Reg.EVT_FIRE_CNT src) ∨
        c = ((s.setPending (s.wk (Reg.EVT_ROUTE_ENG src)) src).inc (Reg.EVT_FIRE_CNT src)).idleExit) ∧
      ((s.fire src det).regs = c.regs ∨ (s.fire src det).regs = (c.inc Reg.EVT_LIM_CNT).regs) ∧
      (s.fire src det).engs = c.engs ∧ (s.fire src det).pwr = c.pwr := by
  have hlive : ¬(!s.coreUp) = true := by simp [hup]
  unfold Chip.fire
  rw [if_neg hlive]
  extract_lets rt0 lim rt1 b c hub d now last supp limited evt
  have hc : c = b ∨ c = b.idleExit := by
    simp only [c]
    split
    · exact .inr rfl
    · exact .inl rfl
  have hd : d.regs = c.regs ∧ d.engs = c.engs ∧ d.pwr = c.pwr := by
    simp only [d]
    split <;> exact ⟨rfl, rfl, rfl⟩
  clear_value d c
  obtain ⟨hregs, hengs, hpwr⟩ := hd
  refine ⟨c, hc, ?_⟩
  split
  · exact ⟨.inr (by simp only [limited, Chip.inc_eq, Chip.get, Chip.put, hregs]), hengs, hpwr⟩
  · split
    · exact ⟨.inl hregs, hengs, hpwr⟩
    · exact ⟨.inl hregs, hengs, hpwr⟩

/-- Nothing fires while the core die is in reset (R499). -/
theorem Chip.fire_in_reset {s : Chip} (src det : Nat) (h : s.coreUp = false) : s.fire src det = s := if_pos (by simp [h])

/-- An event leaves a field that neither its counts nor an exit from IDLE set. -/
theorem Chip.fire_get {s : Chip} {e src det : Nat} {f : Fld} (hf : Chip.idleLeaves e f) (hfire : f.key ≠ (Reg.EVT_FIRE_CNT src).key)
    (hlim : f.key ≠ Reg.EVT_LIM_CNT.key) (heldKey : (Reg.ENG_STAT_IDLE_HELD e).key ≠ (Reg.EVT_FIRE_CNT src).key)
    (hheld : s.get (Reg.ENG_STAT_IDLE_HELD e) = 0) : (s.fire src det).get f = s.get f := by
  cases hup : s.coreUp with
  | false => rw [Chip.fire_in_reset src det hup]
  | true =>
    have hcounted : ∀ {g : Fld}, g.key ≠ (Reg.EVT_FIRE_CNT src).key → ∀ m,
        ((s.setPending m src).inc (Reg.EVT_FIRE_CNT src)).get g = s.get g := by
      intro g hg m
      rw [Chip.inc_eq, Chip.get_put_of_key_ne _ _ hg, Chip.get, Chip.setPending_regs, Chip.get]
    obtain ⟨c, hc, hregs, -, -⟩ := Chip.fire_cases src det hup
    have hleft : c.get f = s.get f := by
      rcases hc with rfl | rfl
      · exact hcounted hfire _
      · exact (Chip.idleExit_get hf ((hcounted heldKey _).trans hheld)).trans (hcounted hfire _)
    rcases hregs with hregs | hregs
    · rw [Chip.get, hregs, ← Chip.get, hleft]
    · rw [Chip.get, hregs, ← Chip.get, Chip.inc_eq, Chip.get_put_of_key_ne _ _ hlim, hleft]

/-- An event leaves the state of the power sequencer, and with it whether the dies run. -/
theorem Chip.fire_pwr (s : Chip) (src det : Nat) : (s.fire src det).pwr = s.pwr := by
  cases hup : s.coreUp with
  | false => rw [Chip.fire_in_reset src det hup]
  | true =>
    obtain ⟨c, hc, -, -, hpwr⟩ := Chip.fire_cases src det hup
    rw [hpwr]
    rcases hc with rfl | rfl
    · exact Chip.setPending_pwr _ _ _
    · exact (Chip.idleExit_pwr _).trans (Chip.setPending_pwr _ _ _)

/-- An event leaves what an engine waits for. -/
theorem Chip.fire_wait (s : Chip) (src det e : Nat) : ((s.fire src det).eng e).wait = (s.eng e).wait := by
  cases hup : s.coreUp with
  | false => rw [Chip.fire_in_reset src det hup]
  | true =>
    obtain ⟨c, hc, -, hengs, -⟩ := Chip.fire_cases src det hup
    rw [Chip.eng, hengs, ← Chip.eng]
    rcases hc with rfl | rfl
    · exact Chip.setPending_wait _ _ _ _
    · rw [Chip.eng, Chip.idleExit_engs, ← Chip.eng]
      exact Chip.setPending_wait _ _ _ _

/-! What a fault leaves, and what it counts -/

/-- Setting the warden's own state sets no field. -/
theorem Chip.get_withWarden (s : Chip) (w : Warden) (f : Fld) : { s with warden := w }.get f = s.get f := rfl

/-- A fault reaches the registers of its flask alone: its count, its state, its cause and its number (R283, R284). -/
theorem Chip.fault_get {s : Chip} {k cause det w : Nat} {f : Fld} (hcnt : f.key ≠ (Reg.FLASK_FAULT_CNT k).key)
    (hstate : f.key ≠ (Reg.FLASK_FSTAT_STATE k).key) (hcause : f.key ≠ (Reg.FLASK_FSTAT_CAUSE k).key)
    (hn : f.key ≠ (Reg.FLASK_FSTAT_N k).key) : (s.fault k cause det w).get f = s.get f := by
  have hinc : (s.inc (Reg.FLASK_FAULT_CNT k)).get f = s.get f := Chip.get_put_of_key_ne _ _ hcnt
  unfold Chip.fault
  extract_lets i wd u line v n
  have hu : u.get f = s.get f := (Chip.get_withWarden _ _ _).trans hinc
  have hv : v.get f = s.get f := by
    simp only [v, Chip.get_put_of_key_ne _ _ hcause, Chip.get_put_of_key_ne _ _ hstate, hu]
  clear_value u v
  split
  · rfl
  · split
    · rw [Chip.get_put_of_key_ne _ _ hn, Chip.get_withWarden, hv]
    · split
      · rw [Chip.get_put_of_key_ne _ _ hcause, Chip.get_withWarden, hu]
      · exact hu

/-- A fault is counted by its flask, whatever state it is in (R284). -/
theorem Chip.fault_counts {s : Chip} {k cause det w : Nat} (hup : s.coreUp = true) (hk : k < 54) :
    (s.fault k cause det w).get (Reg.FLASK_FAULT_CNT k) = min (s.get (Reg.FLASK_FAULT_CNT k) + 1) (2 ^ 32 - 1) := by
  have hkeys : (Reg.FLASK_FAULT_CNT k).key ≠ (Reg.FLASK_FSTAT_STATE k).key ∧ (Reg.FLASK_FAULT_CNT k).key ≠ (Reg.FLASK_FSTAT_CAUSE k).key ∧
      (Reg.FLASK_FAULT_CNT k).key ≠ (Reg.FLASK_FSTAT_N k).key := by
    simp only [Reg.FLASK_FAULT_CNT, Reg.FLASK_FSTAT_STATE, Reg.FLASK_FSTAT_CAUSE, Reg.FLASK_FSTAT_N]
    omega
  obtain ⟨hstate, hcause, hn⟩ := hkeys
  have hinc : (s.inc (Reg.FLASK_FAULT_CNT k)).get (Reg.FLASK_FAULT_CNT k) = min (s.get (Reg.FLASK_FAULT_CNT k) + 1) (2 ^ 32 - 1) :=
    (Chip.get_put_same _ _ _).trans (Nat.mod_eq_of_lt (by simp only [Reg.FLASK_FAULT_CNT]; omega))
  unfold Chip.fault
  extract_lets i wd u line v n
  have hu : u.get (Reg.FLASK_FAULT_CNT k) = i.get (Reg.FLASK_FAULT_CNT k) := Chip.get_withWarden _ _ _
  have hv : v.get (Reg.FLASK_FAULT_CNT k) = i.get (Reg.FLASK_FAULT_CNT k) := by
    simp only [v, Chip.get_put_of_key_ne _ _ hcause, Chip.get_put_of_key_ne _ _ hstate, hu]
  clear_value u v
  rw [if_neg (by simp [hup, hk]), ← hinc]
  split
  · rw [Chip.get_put_of_key_ne _ _ hn, Chip.get_withWarden, hv]
  · split
    · rw [Chip.get_put_of_key_ne _ _ hcause, Chip.get_withWarden, hu]
    · exact hu

/-- A fault sets no engine. -/
theorem Chip.fault_engs (s : Chip) (k cause det w : Nat) : (s.fault k cause det w).engs = s.engs := by
  unfold Chip.fault
  extract_lets i wd u line v n
  split
  · rfl
  · split
    · rfl
    · split
      · rfl
      · rfl

/-! What a trap records -/

/-- A trap as the updates it makes: TRAP with its cause and program counter, the address given, the count, the event, and the fault of its
flask for every cause but the software trap's (R200, R201). -/
theorem Chip.trap_given (s : Chip) (e cause a : Nat) :
    let c := (((s.setEngState e 3).put (Reg.ENG_TRAP_CAUSE e) cause).put (Reg.ENG_TRAP_PC e) (s.get (Reg.ENG_PC e))).put (Reg.ENG_TRAP_ADDR e) a
    let d := (c.inc (Reg.ENG_TRAP_CNT e)).fire 56 (detail e cause)
    s.trap e cause (some a) = if cause = 8 then d else d.fault e 1 (cause + 16 * s.get (Reg.ENG_PC e)) (d.get (Reg.ENG_TRAP_ADDR e)) := rfl

/-- A field of engine e's own registers (Table ENG-1) is left by an event, while IDLE does not hold the engine. -/
theorem Chip.fire_get_engine {s : Chip} {e src det : Nat} {f : Fld} (he : e < 32) (hlo : 32 * (0x1050000 + 0x400 * e) ≤ f.key)
    (hhi : f.key < 32 * (0x1050000 + 0x400 * (e + 1))) (hheld : s.get (Reg.ENG_STAT_IDLE_HELD e) = 0) :
    (s.fire src det).get f = s.get f := by
  have hleaves : Chip.idleLeaves e f := by
    simp only [Chip.idleLeaves, Reg.SYS_PWR_STAT, Reg.ENG_STAT_IDLE_HELD, Reg.ENG_STAT_STATE, Reg.ENG_STAT_EN, Reg.ENG_WDOG_LEFT]
    exact ⟨by omega, fun j _ hj => by omega⟩
  have hkeys : f.key ≠ (Reg.EVT_FIRE_CNT src).key ∧ f.key ≠ Reg.EVT_LIM_CNT.key ∧
      (Reg.ENG_STAT_IDLE_HELD e).key ≠ (Reg.EVT_FIRE_CNT src).key := by
    simp only [Reg.EVT_FIRE_CNT, Reg.EVT_LIM_CNT, Reg.ENG_STAT_IDLE_HELD]
    omega
  obtain ⟨hfire, hlim, hheldKey⟩ := hkeys
  exact Chip.fire_get hleaves hfire hlim hheldKey hheld

/-- A field of engine e's own registers is left by a fault of its flask. -/
theorem Chip.fault_get_engine {s : Chip} {e k cause det w : Nat} {f : Fld} (he : e < 32)
    (hhi : f.key < 32 * (0x1050000 + 0x400 * (e + 1))) : (s.fault k cause det w).get f = s.get f := by
  refine Chip.fault_get ?_ ?_ ?_ ?_ <;>
    simp only [Reg.FLASK_FAULT_CNT, Reg.FLASK_FSTAT_STATE, Reg.FLASK_FSTAT_CAUSE, Reg.FLASK_FSTAT_N] <;> omega

/-- TRAP as its updates: IDLE holds the engine no longer, its state, EN and wait cause, and the wait abandoned with a requested halt (R200). -/
theorem Chip.setEngState_trap (s : Chip) (e : Nat) : s.setEngState e 3 =
    ((((s.put (Reg.ENG_STAT_IDLE_HELD e) 0).put (Reg.ENG_STAT_STATE e) 3).put (Reg.ENG_STAT_EN e) 0).put (Reg.ENG_STAT_WAIT_CAUSE e) 0).setEng e
      { s.eng e with wait := .none, haltReq := false } := rfl

/-- What a trap has recorded when its event fires. -/
def Chip.trapRecord (s : Chip) (e cause a : Nat) : Chip :=
  ((((s.setEngState e 3).put (Reg.ENG_TRAP_CAUSE e) cause).put (Reg.ENG_TRAP_PC e) (s.get (Reg.ENG_PC e))).put (Reg.ENG_TRAP_ADDR e) a).inc
    (Reg.ENG_TRAP_CNT e)

/-- What the record of a trap reads. -/
theorem Chip.trapRecord_reads (s : Chip) (e cause a : Nat) (hc : cause < 16) (ha : a < 2 ^ 32) :
    let r := s.trapRecord e cause a
    r.get (Reg.ENG_STAT_STATE e) = 3 ∧ r.get (Reg.ENG_STAT_EN e) = 0 ∧ r.get (Reg.ENG_STAT_IDLE_HELD e) = 0 ∧
    r.get (Reg.ENG_TRAP_CAUSE e) = cause ∧ r.get (Reg.ENG_TRAP_PC e) = s.get (Reg.ENG_PC e) % 2048 ∧ r.get (Reg.ENG_TRAP_ADDR e) = a ∧
    r.get (Reg.ENG_TRAP_CNT e) = min (s.get (Reg.ENG_TRAP_CNT e) + 1) (2 ^ 32 - 1) ∧
    r.get (Reg.FLASK_FAULT_CNT e) = s.get (Reg.FLASK_FAULT_CNT e) ∧ (r.eng e).wait = .none := by
  simp only [Chip.trapRecord, Chip.setEngState_trap, Chip.inc_eq, Chip.eng_put, Chip.eng_setEng_same, and_true]
  have hcause : cause % 2 ^ (Reg.ENG_TRAP_CAUSE e).width = cause := Nat.mod_eq_of_lt hc
  have haddr : a % 2 ^ (Reg.ENG_TRAP_ADDR e).width = a := Nat.mod_eq_of_lt ha
  simp (disch := (simp only [ne_eq, Reg.ENG_STAT_STATE, Reg.ENG_STAT_EN, Reg.ENG_STAT_IDLE_HELD, Reg.ENG_STAT_WAIT_CAUSE, Reg.ENG_TRAP_CAUSE,
    Reg.ENG_TRAP_PC, Reg.ENG_TRAP_ADDR, Reg.ENG_TRAP_CNT, Reg.FLASK_FAULT_CNT]; omega)) only
    [Chip.get_put_of_key_ne, Chip.get_put_same, Chip.get_setEng, hcause, haddr]
  have hcnt : min (s.get (Reg.ENG_TRAP_CNT e) + 1) (2 ^ 32 - 1) % 2 ^ 32 = min (s.get (Reg.ENG_TRAP_CNT e) + 1) (2 ^ 32 - 1) :=
    Nat.mod_eq_of_lt (by omega)
  exact ⟨rfl, rfl, rfl, trivial, rfl, trivial, hcnt, trivial⟩

/-- A trap is its record, its event and, but for the software trap, the fault of its flask (R200, R201). -/
theorem Chip.trap_eq (s : Chip) (e cause a : Nat) :
    s.trap e cause (some a) =
      (let d := (s.trapRecord e cause a).fire 56 (detail e cause)
        if cause = 8 then d else d.fault e 1 (cause + 16 * s.get (Reg.ENG_PC e)) (d.get (Reg.ENG_TRAP_ADDR e))) := rfl

/-- A field of the trapping engine reads as recorded. -/
theorem Chip.trap_get_engine {s : Chip} {e cause a : Nat} {f : Fld} (he : e < 32) (hlo : 32 * (0x1050000 + 0x400 * e) ≤ f.key)
    (hhi : f.key < 32 * (0x1050000 + 0x400 * (e + 1))) (hheld : (s.trapRecord e cause a).get (Reg.ENG_STAT_IDLE_HELD e) = 0) :
    (s.trap e cause (some a)).get f = (s.trapRecord e cause a).get f := by
  have hfire := Chip.fire_get_engine (src := 56) (det := detail e cause) he hlo hhi hheld
  rw [Chip.trap_eq]
  dsimp only
  split
  · exact hfire
  · exact (Chip.fault_get_engine he hhi).trans hfire

/-- A trap abandons what the engine waits for (R200). -/
theorem Chip.trap_wait (s : Chip) (e cause a : Nat) : ((s.trap e cause (some a)).eng e).wait = ((s.trapRecord e cause a).eng e).wait := by
  rw [Chip.trap_eq]
  dsimp only
  split
  · exact Chip.fire_wait _ _ _ _
  · rw [Chip.eng, Chip.fault_engs, ← Chip.eng]
    exact Chip.fire_wait _ _ _ _

/-- The event of a trap leaves whether the core die runs. -/
theorem Chip.trapRecord_fire_coreUp (s : Chip) (e cause a src det : Nat) : ((s.trapRecord e cause a).fire src det).coreUp = s.coreUp := by
  rw [Chip.coreUp, Chip.fire_pwr]
  rfl

end Sys2Proof.Machine

namespace Sys2Proof.Proofs

open Sys2Proof.Machine

/-- Settles O10: `Chip.engNext_of_advance` on the cases of the loop stack. -/
theorem instructionEndAdvancesPcAndLoops : Obligations.InstructionEndAdvancesPcAndLoops := by
  unfold Obligations.InstructionEndAdvancesPcAndLoops
  intro t e hreq u goes
  have hgoes : ∀ {pc loops}, advance (t.pc e) u.loops = (pc, loops) → goes pc loops := fun h => Chip.engNext_of_advance hreq h
  refine ⟨fun hnil => hgoes ?_, fun st en n rest hl => ⟨fun hpc => hgoes ?_, fun hpc hn => hgoes ?_, fun hpc hn => hgoes ?_⟩⟩
  · rw [hnil]; rfl
  · rw [hl]; exact if_neg hpc
  · rw [hl]; exact (if_pos hpc).trans (if_pos hn)
  · rw [hl]; exact (if_pos hpc).trans (if_neg (Nat.not_lt.2 hn))

/-- Settles O11: the record of the trap, which its event and the fault of its flask leave. -/
theorem trapRecordsCauseAndFaultsFlask : Obligations.TrapRecordsCauseAndFaultsFlask := by
  unfold Obligations.TrapRecordsCauseAndFaultsFlask
  intro t e cause addr hup _ _ hcause haddr c counts
  obtain ⟨hstate, hen, hheld, hrcause, hpc, hraddr, hcnt, hflask, hwait⟩ := t.trapRecord_reads e.val cause addr (by omega) haddr
  have hreads : ∀ {f : Fld}, 32 * (0x1050000 + 0x400 * e.val) ≤ f.key → f.key < 32 * (0x1050000 + 0x400 * (e.val + 1)) →
      c.get f = (t.trapRecord e.val cause addr).get f := fun hlo hhi => Chip.trap_get_engine e.isLt hlo hhi hheld
  have hfired : ((t.trapRecord e.val cause addr).fire 56 (detail e.val cause)).get (Reg.FLASK_FAULT_CNT e.val) =
      t.get (Reg.FLASK_FAULT_CNT e.val) := by
    refine (Chip.fire_get (e := e.val) ?_ ?_ ?_ ?_ hheld).trans hflask
    · simp only [Chip.idleLeaves, Reg.SYS_PWR_STAT, Reg.ENG_STAT_IDLE_HELD, Reg.ENG_STAT_STATE, Reg.ENG_STAT_EN, Reg.ENG_WDOG_LEFT,
        Reg.FLASK_FAULT_CNT]
      exact ⟨by omega, fun j _ _ => by omega⟩
    all_goals simp only [Reg.FLASK_FAULT_CNT, Reg.EVT_FIRE_CNT, Reg.EVT_LIM_CNT, Reg.ENG_STAT_IDLE_HELD]; omega
  refine ⟨(hreads ?_ ?_).trans hstate, (hreads ?_ ?_).trans hen, (Chip.trap_wait t e.val cause addr).trans hwait,
    (hreads ?_ ?_).trans hrcause, (hreads ?_ ?_).trans hpc, (hreads ?_ ?_).trans hraddr, (hreads ?_ ?_).trans hcnt, fun h8 => ?_, fun h8 => ?_⟩
  case refine_13 =>
    have htrap : c = (t.trapRecord e.val cause addr).fire 56 (detail e.val cause) := (Chip.trap_eq t e.val cause addr).trans (if_pos h8)
    rw [htrap]
    exact hfired
  case refine_14 =>
    have htrap := (Chip.trap_eq t e.val cause addr).trans (if_neg h8)
    have hlive := (Chip.trapRecord_fire_coreUp t e.val cause addr 56 (detail e.val cause)).trans hup
    simp only [counts, c]
    rw [htrap, Chip.fault_counts hlive (by omega), hfired]
    rfl
  all_goals
    simp only [Reg.ENG_STAT_STATE, Reg.ENG_STAT_EN, Reg.ENG_TRAP_CAUSE, Reg.ENG_TRAP_PC, Reg.ENG_TRAP_ADDR, Reg.ENG_TRAP_CNT]
    omega

/-- Refutes O12: CLK (block 1) has no REJ_CNT, so a write refused there leaves the count that the statement has it raise; in the reset state
no event fires and nothing at all changes. -/
theorem not_requesterLearnsOutcome : ¬ Obligations.RequesterLearnsOutcome := by
  unfold Obligations.RequesterLearnsOutcome
  intro h
  obtain ⟨-, -, -, -, -, hreject⟩ := h State.reset.chip .mgmt 0 0 1 0 0 .done
  have hcnt := congrArg (Chip.get · Reg.SEAM_REJ_CNT) hreject
  revert hcnt
  decide

end Sys2Proof.Proofs
end

section
/-! PROOF. Control flow (10_sprue_instruction_set.md R219, R222, R231, R232, R241): branches, calls, loops and what ends or traps. -/

namespace Sys2Proof.Machine

/-- The conditions of Table ISA-3 in the order of their numbers. -/
theorem condHolds_eq_getD (x : Engine) {cond : Nat} (h : cond < 15) :
    condHolds x cond = [true, x.z, !x.z, x.n != x.v, x.n == x.v, !x.z && x.n == x.v, x.z || x.n != x.v, !x.c, x.c, x.n, !x.n, x.v, !x.v,
      x.sat, !x.sat].getD cond false := by
  match cond, h with
  | 0, _ | 1, _ | 2, _ | 3, _ | 4, _ | 5, _ | 6, _ | 7, _ | 8, _ | 9, _ | 10, _ | 11, _ | 12, _ | 13, _ | 14, _ => rfl
  | n + 15, h => exact absurd h (Nat.not_lt.2 (Nat.le_add_left 15 n))

/-- A `loop` that ends ahead and fits the loop stack goes past its end where the count is zero, and else pushes its level (R232). -/
theorem gives_loop {s : State} {e : Fin 32} {a : Fin 16} {imm : BitVec 14} (he : s.chip.executes e = true) (himm : 0 < imm.toInt) :
    let t := s.chip.fetched e
    let u := t.eng e.val
    let target := branchTo (t.pc e) imm
    (u.loops = [] ∨ ∃ st en n, u.loops = [(st, en, n)] ∧ (target + 2048 - st) % 2048 < (en + 2048 - st) % 2048) →
    Gives (.isaLoop e a imm) s (if t.g e a = 0 then t.engJump e.val ((target + 1) % 2048) true
      else (t.setEng e.val { u with loops := ((t.pc e + 1) % 2048, target, (t.g e a).toNat) :: u.loops }).engNext e.val) := by
  intro t u target hfits
  refine gives_of_executes rfl he ((if_neg (Int.not_le.2 himm)).trans (if_neg ?_))
  rcases hfits with h | ⟨st, en, n, h, hlt⟩
  · have hloops : ((s.chip.fetched e).eng e.val).loops = [] := h
    rw [hloops]
    simp
  · have hloops : ((s.chip.fetched e).eng e.val).loops = [(st, en, n)] := h
    rw [hloops]
    simp only [Bool.not_eq_true', decide_eq_false_iff_not, Decidable.not_not]
    exact hlt

end Sys2Proof.Machine

namespace Sys2Proof.Proofs

open Sys2Proof.Machine

/-- Settles O20: each clause is one branch of its instruction. -/
theorem isaControlFlowResults : Obligations.IsaControlFlowResults := by
  unfold Obligations.IsaControlFlowResults
  intro s e d a cond imm code word he t x u target next holds linked counted fits
  refine ⟨fun hcond => ?_, ?_, fun ha => ?_, fun ha => ?_, fun himm hfits hx => ?_, fun himm hfits hx => ?_, fun hd => ?_, fun hd => ?_, ?_, ?_, ?_,
    fun hw => ?_⟩
  · have hlt : cond.toNat < 15 := by
      have hne : cond.toNat ≠ 15 := fun h => hcond (BitVec.eq_of_toNat_eq h)
      omega
    have hholds : condHolds u cond.toNat = holds := condHolds_eq_getD u hlt
    rw [← hholds]
    exact gives_of_executes rfl he (if_neg (Nat.ne_of_lt hlt))
  · exact gives_of_executes rfl he rfl
  · exact gives_of_executes rfl he (if_neg (Nat.not_le.2 ha))
  · exact gives_of_executes rfl he (if_neg (Nat.not_le.2 ha))
  · have hloop := gives_loop (a := a) he himm hfits
    rwa [if_pos hx] at hloop
  · have hloop := gives_loop (a := a) he himm hfits
    rwa [if_neg hx] at hloop
  · exact gives_of_executes rfl he (if_pos hd)
  · exact gives_of_executes rfl he (if_neg (not_not_intro hd))
  · exact gives_of_executes rfl he rfl
  · exact gives_of_executes rfl he rfl
  · exact gives_of_executes rfl he rfl
  · exact gives_of_executes rfl he (if_neg (by simp [hw]))

end Sys2Proof.Proofs
end

section
/-! PROOF. O3: the fields of a code word, what each table of the decoder spells, and the two directions. -/

namespace Sys2Proof

/-! A word and its fields (Table ISA-1). -/

theorem wordR_lt {op d a b fn : Nat} (hop : op < 64) (hd : d < 16) (ha : a < 16) (hb : b < 16) (hfn : fn < 16384) : wordR op d a b fn < 2 ^ 32 := by
  unfold wordR; omega

theorem wordW_lt {op d imm : Nat} (hop : op < 64) (hd : d < 16) (himm : imm < 65536) : wordW op d imm < 2 ^ 32 := by
  unfold wordW; omega

/-- The fields of an R-form or I-form word are the ones it was made of. -/
theorem wordR_fields {op fn d a b : Nat} (hop : op < 64) (hd : d < 16) (ha : a < 16) (hb : b < 16) (hfn : fn < 16384) :
    wordR op d a b fn / 2 ^ 26 % 2 ^ 6 = op ∧ wordR op d a b fn / 2 ^ 22 % 2 ^ 4 = d ∧ wordR op d a b fn / 2 ^ 18 % 2 ^ 4 = a ∧
      wordR op d a b fn / 2 ^ 14 % 2 ^ 4 = b ∧ wordR op d a b fn % 2 ^ 14 = fn := by
  unfold wordR; omega

/-- The fields of a W-form word are the ones it was made of, with bits [21:16] zero. -/
theorem wordW_fields {op imm d : Nat} (hop : op < 64) (hd : d < 16) (himm : imm < 65536) :
    wordW op d imm / 2 ^ 26 % 2 ^ 6 = op ∧ wordW op d imm / 2 ^ 22 % 2 ^ 4 = d ∧ wordW op d imm / 2 ^ 16 % 2 ^ 6 = 0 ∧
      wordW op d imm % 2 ^ 16 = imm := by
  unfold wordW; omega

/-- A word is the R-form word of its fields. -/
theorem wordR_of_fields {w : Nat} (hw : w < 2 ^ 32) :
    wordR (w / 2 ^ 26 % 2 ^ 6) (w / 2 ^ 22 % 2 ^ 4) (w / 2 ^ 18 % 2 ^ 4) (w / 2 ^ 14 % 2 ^ 4) (w % 2 ^ 14) = w := by
  unfold wordR; omega

/-- A word whose bits [21:16] are zero is the W-form word of its fields. -/
theorem wordW_of_fields {w : Nat} (hw : w < 2 ^ 32) (h6 : w / 2 ^ 16 % 2 ^ 6 = 0) :
    wordW (w / 2 ^ 26 % 2 ^ 6) (w / 2 ^ 22 % 2 ^ 4) (w % 2 ^ 16) = w := by
  unfold wordW; omega

theorem onlyIf_eq_some {c : Bool} {i j : Instr} : onlyIf c i = some j ↔ c = true ∧ i = j := by
  cases c <;> simp [onlyIf]

/-- Instruction i, of engine e, conforms and its word is w. -/
def Spells (e : Fin 32) (w : Nat) (i : Instr) : Prop := encodeSprue i = some w ∧ i.engineOf = some e ∧ i.conforms = true

/-! What each table of the decoder gives spells the word whose fields it was given. -/

section Tables
variable {e : Fin 32} {d a b : Fin 16} {fn : Nat} {i : Instr}

theorem Spells.of_some {w : Nat} {j : Instr} (hj : Spells e w j) (h : some j = some i) : Spells e w i :=
  Option.some.inj h ▸ hj

theorem Spells.of_onlyIf {w : Nat} {c : Bool} {j : Instr} (hj : c = true → Spells e w j) (h : onlyIf c j = some i) : Spells e w i := by
  obtain ⟨hc, rfl⟩ := onlyIf_eq_some.1 h
  exact hj hc

theorem decodeAlu_spells (h : decodeAlu e d a b fn = some i) : Spells e (wordR 0x00 d.val a.val b.val fn) i := by
  unfold decodeAlu at h
  split at h
  case h_24 => cases h
  case h_19 | h_20 => exact .of_onlyIf (fun hd => by cases eq_of_beq hd; exact ⟨rfl, rfl, rfl⟩) h
  case h_21 | h_22 | h_23 => exact .of_onlyIf (fun hb => by cases eq_of_beq hb; exact ⟨rfl, rfl, rfl⟩) h
  all_goals exact .of_some ⟨rfl, rfl, rfl⟩ h

theorem decodeMul_spells (h : decodeMul e d a b fn = some i) : Spells e (wordR 0x10 d.val a.val b.val fn) i := by
  unfold decodeMul at h
  split at h
  case h_4 => cases h
  all_goals exact .of_some ⟨rfl, rfl, rfl⟩ h

theorem decodeMac_spells (h : decodeMac e d a b fn = some i) : Spells e (wordR 0x11 d.val a.val b.val fn) i := by
  unfold decodeMac at h
  split at h
  case h_7 => cases h
  all_goals exact .of_onlyIf (fun hd => by cases eq_of_beq hd; exact ⟨rfl, rfl, rfl⟩) h

theorem decodeDiv_spells (h : decodeDiv e d a b fn = some i) : Spells e (wordR 0x12 d.val a.val b.val fn) i := by
  unfold decodeDiv at h
  split at h
  case h_5 => cases h
  all_goals exact .of_some ⟨rfl, rfl, rfl⟩ h

theorem decodeAcc_spells (h : decodeAcc e d a b fn = some i) : Spells e (wordR 0x14 d.val a.val b.val fn) i := by
  unfold decodeAcc at h
  split at h
  case h_10 => cases h
  case h_9 => exact .of_onlyIf (fun hd => by cases eq_of_beq hd; exact ⟨rfl, rfl, rfl⟩) h
  all_goals
    refine .of_onlyIf (fun hab => ?_) h
    simp only [Bool.and_eq_true, beq_iff_eq] at hab
    obtain ⟨rfl, rfl⟩ := hab
    exact ⟨rfl, rfl, rfl⟩

theorem decodePut_spells (h : decodePut e d a b fn = some i) : Spells e (wordR 0x28 d.val a.val b.val fn) i := by
  unfold decodePut at h
  split at h
  case h_3 => cases h
  all_goals exact .of_onlyIf (fun hd => by cases eq_of_beq hd; exact ⟨rfl, rfl, rfl⟩) h

theorem decodeTake_spells (h : decodeTake e d a b fn = some i) : Spells e (wordR 0x29 d.val a.val b.val fn) i := by
  unfold decodeTake at h
  split at h
  case h_3 => cases h
  all_goals exact .of_onlyIf (fun hb => by cases eq_of_beq hb; exact ⟨rfl, rfl, rfl⟩) h

theorem decodeInfo_spells (h : decodeInfo e d a b fn = some i) : Spells e (wordR 0x2A d.val a.val b.val fn) i := by
  unfold decodeInfo at h
  split at h
  case h_3 => cases h
  all_goals exact .of_onlyIf (fun hb => by cases eq_of_beq hb; exact ⟨rfl, rfl, rfl⟩) h

theorem decodeAlloc_spells (h : decodeAlloc e d a b fn = some i) : Spells e (wordR 0x2C d.val a.val b.val fn) i := by
  unfold decodeAlloc at h
  split at h
  case h_3 => cases h
  all_goals
    refine .of_onlyIf (fun hab => ?_) h
    simp only [Bool.and_eq_true, beq_iff_eq] at hab
    obtain ⟨rfl, rfl⟩ := hab
    exact ⟨rfl, rfl, rfl⟩

theorem decodeTime_spells (h : decodeTime e d a b fn = some i) : Spells e (wordR 0x34 d.val a.val b.val fn) i := by
  unfold decodeTime at h
  split at h
  case h_4 => cases h
  all_goals
    refine .of_onlyIf (fun hab => ?_) h
    simp only [Bool.and_eq_true, beq_iff_eq] at hab
    obtain ⟨rfl, rfl⟩ := hab
    exact ⟨rfl, rfl, rfl⟩

theorem decodeWait_spells (h : decodeWait e d a b fn = some i) : Spells e (wordR 0x35 d.val a.val b.val fn) i := by
  unfold decodeWait at h
  split at h
  · refine .of_onlyIf (fun hdab => ?_) h
    simp only [Bool.and_eq_true, beq_iff_eq] at hdab
    obtain ⟨⟨rfl, rfl⟩, rfl⟩ := hdab
    exact ⟨rfl, rfl, rfl⟩
  · exact .of_onlyIf (fun hd => by cases eq_of_beq hd; exact ⟨rfl, rfl, rfl⟩) h
  · cases h

theorem decodeEvent_spells (h : decodeEvent e d a b fn = some i) : Spells e (wordR 0x36 d.val a.val b.val fn) i := by
  unfold decodeEvent at h
  split at h
  case h_4 => cases h
  all_goals
    refine .of_onlyIf (fun hc => ?_) h
    simp only [Bool.and_eq_true, beq_iff_eq] at hc
    obtain ⟨rfl, rfl⟩ := hc
    exact ⟨rfl, rfl, rfl⟩

theorem decodeLock_spells (h : decodeLock e d a b fn = some i) : Spells e (wordR 0x38 d.val a.val b.val fn) i := by
  unfold decodeLock at h
  split at h
  case h_1 | h_2 => exact .of_onlyIf (fun hb => by cases eq_of_beq hb; exact ⟨rfl, rfl, rfl⟩) h
  case h_3 | h_4 =>
    refine .of_onlyIf (fun hdb => ?_) h
    simp only [Bool.and_eq_true, beq_iff_eq] at hdb
    obtain ⟨rfl, rfl⟩ := hdb
    exact ⟨rfl, rfl, rfl⟩
  case h_5 => cases h

theorem decodeMsg_spells (h : decodeMsg e d a b fn = some i) : Spells e (wordR 0x39 d.val a.val b.val fn) i := by
  unfold decodeMsg at h
  split at h
  case h_1 => exact .of_some ⟨rfl, rfl, rfl⟩ h
  case h_2 | h_3 => exact .of_onlyIf (fun hb => by cases eq_of_beq hb; exact ⟨rfl, rfl, rfl⟩) h
  case h_4 => cases h

theorem decodeCrc_spells (h : decodeCrc e d a b fn = some i) : Spells e (wordR 0x3E d.val a.val b.val fn) i := by
  unfold decodeCrc at h
  split at h
  case h_5 => cases h
  all_goals exact .of_onlyIf (fun hb => by cases eq_of_beq hb; exact ⟨rfl, rfl, rfl⟩) h

/-- The kind of a shift is bits [13:12] of its word, its amount bits [4:0]. -/
theorem decodeShift_spells {n : Fin 32} {kind : Nat} (hkind : kind < 4) :
    Spells e (wordR 0x05 d.val a.val 0 (4096 * kind + n.val)) (decodeShift e d a n kind) := by
  unfold decodeShift
  split
  case h_1 => exact ⟨congrArg (fun f => some (wordR 0x05 d.val a.val 0 f)) (Nat.zero_add n.val).symm, rfl, rfl⟩
  case h_2 | h_3 => exact ⟨rfl, rfl, rfl⟩
  case h_4 =>
    obtain rfl : kind = 3 := by simp_all; omega
    exact ⟨rfl, rfl, rfl⟩

/-- The kind of a bit field is bits [13:10] of its word, its width less 1 bits [9:5], its place bits [4:0]. -/
theorem decodeField_spells {pos wm1 : Fin 32} {kind : Nat} (h : decodeField e d a pos wm1 kind = some i) :
    Spells e (wordR 0x13 d.val a.val 0 (1024 * kind + 32 * wm1.val + pos.val)) i := by
  unfold decodeField at h
  split at h
  case isTrue => cases h
  case isFalse hfits =>
    have hin : decide (pos.val + wm1.val ≤ 31) = true := decide_eq_true (by omega)
    split at h
    case h_1 =>
      cases h
      refine ⟨?_, rfl, hin⟩
      exact congrArg (fun f => some (wordR 0x13 d.val a.val 0 (f + pos.val))) (Nat.zero_add (32 * wm1.val)).symm
    case h_2 | h_3 =>
      cases h
      exact ⟨rfl, rfl, hin⟩
    case h_4 => cases h

/-- The number of a CSR is bits [11:0] of its word (R241). -/
theorem csrr_spells (hfn : fn / 4096 = 0) (hcsr : fn % 4096 ≤ 7) :
    Spells e (wordR 0x3C d.val 0 0 fn) (.isaCsrr e d (BitVec.ofNat 12 (fn % 4096))) := by
  have hn : (BitVec.ofNat 12 (fn % 4096)).toNat = fn % 4096 := by simp
  have hword : (BitVec.ofNat 12 (fn % 4096)).toNat = fn := by omega
  exact ⟨congrArg (fun f => some (wordR 0x3C d.val 0 0 f)) hword, rfl, decide_eq_true (Nat.le_trans (Nat.le_of_eq hn) hcsr)⟩

theorem csrw_spells (hfn : fn / 4096 = 1) (hcsr : fn % 4096 ≤ 7) :
    Spells e (wordR 0x3C 0 a.val 0 fn) (.isaCsrw e (BitVec.ofNat 12 (fn % 4096)) a) := by
  have hn : (BitVec.ofNat 12 (fn % 4096)).toNat = fn % 4096 := by simp
  have hword : 4096 + (BitVec.ofNat 12 (fn % 4096)).toNat = fn := by omega
  exact ⟨congrArg (fun f => some (wordR 0x3C 0 a.val 0 f)) hword, rfl, decide_eq_true (Nat.le_trans (Nat.le_of_eq hn) hcsr)⟩

/-- The code of `trap` is bits [13:4] of its word. -/
theorem trap_spells (hfn : fn < 16384) (hkind : fn % 16 = 2) : Spells e (wordR 0x3D 0 0 0 fn) (.isaTrap e (BitVec.ofNat 10 (fn / 16))) := by
  have hword : 16 * (BitVec.ofNat 10 (fn / 16)).toNat + 2 = fn := by simp; omega
  exact ⟨congrArg (fun f => some (wordR 0x3D 0 0 0 f)) hword, rfl, rfl⟩

end Tables

/-! A word that decodes. -/

/-- A word that decodes is the word of the instruction it decodes to. -/
theorem decodeSprue_spells {i : Instr} {e : Fin 32} {w : Nat} (hw : w < 2 ^ 32) (h : decodeSprue e w = some i) : Spells e w i := by
  have hR := wordR_of_fields hw
  have hW := @wordW_of_fields w hw
  unfold decodeSprue at h
  extract_lets d a b fn imm imm16 w6 at h
  have hd : w / 2 ^ 22 % 2 ^ 4 = d.val := rfl
  have ha : w / 2 ^ 18 % 2 ^ 4 = a.val := rfl
  have hb : w / 2 ^ 14 % 2 ^ 4 = b.val := rfl
  have hfn : w % 2 ^ 14 = fn := rfl
  have himm : imm.toNat = fn := BitVec.toNat_ofNat ..
  have himm16 : w % 2 ^ 16 = imm16.toNat := (BitVec.toNat_ofNat ..).symm
  have hw6 : w / 2 ^ 16 % 2 ^ 6 = w6 := rfl
  have hfnlt : fn < 16384 := Nat.mod_lt _ (by decide)
  rw [hd, ha, hb, hfn] at hR
  rw [hd, himm16, hw6] at hW
  generalize w / 2 ^ 26 % 2 ^ 6 = op at h hR hW
  clear_value d a b fn imm imm16 w6
  split at h
  case h_1 => exact hR ▸ decodeAlu_spells h
  case h_10 => exact hR ▸ decodeMul_spells h
  case h_11 => exact hR ▸ decodeMac_spells h
  case h_12 => exact hR ▸ decodeDiv_spells h
  case h_14 => exact hR ▸ decodeAcc_spells h
  case h_29 => exact hR ▸ decodePut_spells h
  case h_30 => exact hR ▸ decodeTake_spells h
  case h_31 => exact hR ▸ decodeInfo_spells h
  case h_33 => exact hR ▸ decodeAlloc_spells h
  case h_40 => exact hR ▸ decodeTime_spells h
  case h_41 => exact hR ▸ decodeWait_spells h
  case h_42 => exact hR ▸ decodeEvent_spells h
  case h_43 => exact hR ▸ decodeLock_spells h
  case h_44 => exact hR ▸ decodeMsg_spells h
  case h_47 => exact hR ▸ decodeCrc_spells h
  case h_48 => cases h
  case h_8 | h_9 | h_36 | h_37 =>
    refine .of_onlyIf (fun h6 => ?_) h
    exact ⟨congrArg some (hW (eq_of_beq h6)), rfl, rfl⟩
  case h_2 | h_3 | h_4 | h_5 | h_15 | h_16 | h_17 | h_18 | h_19 | h_20 | h_21 | h_22 =>
    subst hR himm
    exact .of_onlyIf (fun hb => by cases eq_of_beq hb; exact ⟨rfl, rfl, rfl⟩) h
  case h_7 | h_28 =>
    subst hR himm
    refine .of_onlyIf (fun hc => ?_) h
    simp only [Bool.and_eq_true, beq_iff_eq] at hc
    obtain ⟨rfl, rfl⟩ := hc
    exact ⟨rfl, rfl, rfl⟩
  case h_23 =>
    subst hR himm
    refine .of_onlyIf (fun hc => ?_) h
    simp only [Bool.and_eq_true, beq_iff_eq] at hc
    obtain ⟨⟨hcond, rfl⟩, rfl⟩ := hc
    refine ⟨rfl, rfl, ?_⟩
    exact bne_iff_ne.2 (fun h15 => bne_iff_ne.1 hcond (congrArg BitVec.toFin h15))
  case h_24 =>
    subst hR himm
    refine .of_onlyIf (fun hc => ?_) h
    simp only [Bool.and_eq_true, beq_iff_eq] at hc
    obtain ⟨⟨rfl, rfl⟩, rfl⟩ := hc
    exact ⟨rfl, rfl, rfl⟩
  case h_27 =>
    subst hR himm
    refine .of_onlyIf (fun hc => ?_) h
    simp only [Bool.and_eq_true, beq_iff_eq] at hc
    obtain ⟨⟨rfl, rfl⟩, hahead⟩ := hc
    exact ⟨rfl, rfl, hahead⟩
  case h_25 | h_26 | h_32 | h_34 =>
    subst hR
    refine .of_onlyIf (fun hc => ?_) h
    simp only [Bool.and_eq_true, beq_iff_eq] at hc
    obtain ⟨⟨rfl, rfl⟩, rfl⟩ := hc
    exact ⟨rfl, rfl, rfl⟩
  case h_35 | h_38 | h_39 =>
    subst hR
    refine .of_onlyIf (fun hc => ?_) h
    simp only [Bool.and_eq_true, beq_iff_eq] at hc
    obtain ⟨rfl, rfl⟩ := hc
    exact ⟨rfl, rfl, rfl⟩
  case h_6 =>
    refine .of_onlyIf (fun hc => ?_) h
    simp only [Bool.and_eq_true, beq_iff_eq] at hc
    obtain ⟨rfl, hzero⟩ := hc
    have hn : (fieldOf 5 w 0 (by decide)).val = w % 32 := by simp [fieldOf]
    have hword : 4096 * (fn / 4096) + w % 32 = fn := by omega
    have hspells := decodeShift_spells (e := e) (d := d) (a := a) (n := fieldOf 5 w 0 (by decide)) (kind := fn / 4096) (by omega)
    rw [hn, hword] at hspells
    exact hR ▸ hspells
  case h_13 =>
    split at h
    case isFalse => cases h
    case isTrue hb =>
      cases eq_of_beq hb
      have hpos : (fieldOf 5 w 0 (by decide)).val = w % 32 := by simp [fieldOf]
      have hwm1 : (fieldOf 5 w 5 (by decide)).val = w / 32 % 32 := by simp [fieldOf]
      have hword : 1024 * (fn / 1024) + 32 * (w / 32 % 32) + w % 32 = fn := by omega
      have hspells := decodeField_spells h
      rw [hpos, hwm1, hword] at hspells
      exact hR ▸ hspells
  case h_45 =>
    subst hR
    split at h
    case isFalse => cases h
    case isTrue hcsr =>
      split at h
      case h_1 hkind =>
        refine .of_onlyIf (fun hc => ?_) h
        simp only [Bool.and_eq_true, beq_iff_eq] at hc
        obtain ⟨rfl, rfl⟩ := hc
        exact csrr_spells hkind hcsr
      case h_2 hkind =>
        refine .of_onlyIf (fun hc => ?_) h
        simp only [Bool.and_eq_true, beq_iff_eq] at hc
        obtain ⟨rfl, rfl⟩ := hc
        exact csrw_spells hkind hcsr
      case h_3 => cases h
  case h_46 =>
    subst hR
    split at h
    case isFalse => cases h
    case isTrue hdb =>
      simp only [Bool.and_eq_true, beq_iff_eq] at hdb
      obtain ⟨rfl, rfl⟩ := hdb
      split at h
      case isTrue hwflg =>
        subst hwflg
        exact .of_some ⟨rfl, rfl, rfl⟩ h
      case isFalse =>
        split at h
        case isTrue hkind => exact .of_onlyIf (fun ha => by cases eq_of_beq ha; exact trap_spells hfnlt hkind) h
        case isFalse =>
          split at h
          case h_1 | h_2 => exact .of_onlyIf (fun ha => by cases eq_of_beq ha; exact ⟨rfl, rfl, rfl⟩) h
          case h_3 => cases h

/-! The word of an instruction. -/

section Words
variable {e : Fin 32} {op fn : Nat} {i : Instr}

/-- An R-form or I-form word is 32 bits, and decodes to what every word with its fields decodes to. -/
theorem reads_wordR (d a b : Fin 16) (hop : op < 64) (hfn : fn < 16384)
    (h : ∀ w, w / 2 ^ 26 % 2 ^ 6 = op → fieldOf 4 w 22 (by decide) = d → fieldOf 4 w 18 (by decide) = a → fieldOf 4 w 14 (by decide) = b →
      w % 2 ^ 14 = fn → BitVec.ofNat 14 w = BitVec.ofNat 14 fn → decodeSprue e w = some i) :
    wordR op d.val a.val b.val fn < 2 ^ 32 ∧ decodeSprue e (wordR op d.val a.val b.val fn) = some i := by
  obtain ⟨hop', hd, ha, hb, hfn'⟩ := wordR_fields hop d.isLt a.isLt b.isLt hfn
  refine ⟨wordR_lt hop d.isLt a.isLt b.isLt hfn, h _ hop' (Fin.ext hd) (Fin.ext ha) (Fin.ext hb) hfn' (BitVec.eq_of_toNat_eq ?_)⟩
  rw [BitVec.toNat_ofNat, BitVec.toNat_ofNat, hfn', Nat.mod_eq_of_lt hfn]

/-- A W-form word is 32 bits, and decodes to what every word with its fields decodes to. -/
theorem reads_wordW (d : Fin 16) (imm : BitVec 16) (hop : op < 64)
    (h : ∀ w, w / 2 ^ 26 % 2 ^ 6 = op → fieldOf 4 w 22 (by decide) = d → w / 2 ^ 16 % 2 ^ 6 = 0 → BitVec.ofNat 16 w = imm →
      decodeSprue e w = some i) :
    wordW op d.val imm.toNat < 2 ^ 32 ∧ decodeSprue e (wordW op d.val imm.toNat) = some i := by
  obtain ⟨hop', hd, h6, himm⟩ := wordW_fields hop d.isLt imm.isLt
  refine ⟨wordW_lt hop d.isLt imm.isLt, h _ hop' (Fin.ext hd) h6 (BitVec.eq_of_toNat_eq ?_)⟩
  rw [BitVec.toNat_ofNat, himm]

/-- The word of an immediate shift: its kind in bits [13:12], its amount in bits [4:0]. -/
theorem reads_shift {d a : Fin 16} {n : Fin 32} {k : Nat} (hk : k < 4) (hfn : fn = 4096 * k + n.val) :
    wordR 0x05 d.val a.val 0 fn < 2 ^ 32 ∧ decodeSprue e (wordR 0x05 d.val a.val 0 fn) = some (decodeShift e d a n k) := by
  have hn := n.isLt
  refine reads_wordR _ _ 0 (by decide) (by omega) fun w hop hd ha hb hw himm => ?_
  have hamount : fieldOf 5 w 0 (by decide) = n := Fin.ext (show w / 1 % 32 = n.val by omega)
  have hzero : fn / 32 % 128 = 0 := by omega
  have hkind : fn / 4096 = k := by omega
  simp only [decodeSprue, hop, hd, ha, hb, hw, hamount, hzero, hkind]
  rfl

/-- The word of a bit field: its kind in bits [13:10], its width less 1 in bits [9:5], its place in bits [4:0]. -/
theorem reads_field {d a : Fin 16} {pos wm1 : Fin 32} {k : Nat} (hk : k < 16) (hfn : fn = 1024 * k + 32 * wm1.val + pos.val)
    (h : decodeField e d a pos wm1 k = some i) :
    wordR 0x13 d.val a.val 0 fn < 2 ^ 32 ∧ decodeSprue e (wordR 0x13 d.val a.val 0 fn) = some i := by
  have hpos := pos.isLt
  have hwm1 := wm1.isLt
  refine reads_wordR _ _ 0 (by decide) (by omega) fun w hop hd ha hb hw himm => ?_
  have hplace : fieldOf 5 w 0 (by decide) = pos := Fin.ext (show w / 1 % 32 = pos.val by omega)
  have hwidth : fieldOf 5 w 5 (by decide) = wm1 := Fin.ext (show w / 32 % 32 = wm1.val by omega)
  have hkind : fn / 1024 = k := by omega
  simp only [decodeSprue, hop, hd, ha, hb, hw, hplace, hwidth, hkind]
  exact (if_pos rfl).trans h

theorem decodeSprue_encodeSprue (he : i.engineOf = some e) (hi : i.conforms = true) :
    ∃ w : Nat, encodeSprue i = some w ∧ w < 2 ^ 32 ∧ decodeSprue e w = some i := by
  cases i <;> cases he
  case isaAdd | isaSub | isaAdc | isaSbc | isaAnd | isaOr | isaXor | isaAndn | isaShl | isaShr | isaSar | isaRor | isaAdds | isaSubs | isaMin
      | isaMax | isaMinu | isaMaxu | isaMul | isaMulh | isaMulhu | isaDiv | isaDivu | isaRem | isaRemu | isaMsend =>
    refine ⟨_, rfl, reads_wordR _ _ _ (by decide) (by decide) fun w hop hd ha hb hfn himm => ?_⟩
    simp only [decodeSprue, hop, hd, ha, hb, hfn]
    rfl
  case isaAddi | isaAndi | isaOri | isaXori | isaLdw | isaLdhs | isaLdhu | isaLdbs | isaLdbu | isaStw | isaSth | isaStb =>
    refine ⟨_, rfl, reads_wordR _ _ 0 (by decide) (BitVec.isLt _) fun w hop hd ha hb hfn himm => ?_⟩
    simp only [decodeSprue, hop, hd, ha, hb, himm, BitVec.ofNat_toNat, BitVec.setWidth_eq]
    rfl
  case isaCmp | isaTst | isaMac | isaMsu | isaMacQ31 | isaMsuQ31 | isaMacQ15 | isaMsuQ15 | isaWacc | isaRput | isaRpute | isaBgive | isaPoutr
      | isaWtime =>
    refine ⟨_, rfl, reads_wordR 0 _ _ (by decide) (by decide) fun w hop hd ha hb hfn himm => ?_⟩
    simp only [decodeSprue, hop, hd, ha, hb, hfn]
    rfl
  case isaAbs | isaNeg | isaClz | isaRget | isaRtry | isaPinr | isaLacq | isaLtry | isaMrecv | isaMtry | isaCrc16B | isaCrc16W | isaCrc32B
      | isaCrc32W =>
    refine ⟨_, rfl, reads_wordR _ _ 0 (by decide) (by decide) fun w hop hd ha hb hfn himm => ?_⟩
    simp only [decodeSprue, hop, hd, ha, hb, hfn]
    rfl
  case isaBalloc | isaBtry | isaCtl | isaCth | isaCyc | isaEvwait | isaEvpoll =>
    refine ⟨_, rfl, reads_wordR _ 0 0 (by decide) (by decide) fun w hop hd ha hb hfn himm => ?_⟩
    simp only [decodeSprue, hop, hd, ha, hb, hfn]
    rfl
  case isaJr | isaCallr | isaRdropp | isaBfree | isaEvsig | isaLrel | isaLclr | isaWflg =>
    refine ⟨_, rfl, reads_wordR 0 _ 0 (by decide) (by decide) fun w hop hd ha hb hfn himm => ?_⟩
    simp only [decodeSprue, hop, hd, ha, hb, hfn]
    rfl
  case isaWmark | isaNop | isaHalt =>
    refine ⟨_, rfl, reads_wordR 0 0 0 (by decide) (by decide) fun w hop hd ha hb hfn himm => ?_⟩
    simp only [decodeSprue, hop, hd, ha, hb, hfn]
    rfl
  case isaMovi | isaMovhi | isaPin | isaPout =>
    refine ⟨_, rfl, reads_wordW _ _ (by decide) fun w hop hd h6 himm => ?_⟩
    simp only [decodeSprue, hop, hd, h6, himm]
    rfl
  case isaRaccLo clear | isaRaccHi clear | isaRaccQ31 clear | isaRaccQ15 clear =>
    refine ⟨_, rfl, reads_wordR _ 0 0 (by decide) (by cases clear <;> decide) fun w hop hd ha hb hfn himm => ?_⟩
    cases clear <;> simp only [decodeSprue, hop, hd, ha, hb, hfn] <;> rfl
  case isaRinfo words =>
    refine ⟨_, rfl, reads_wordR _ _ 0 (by decide) (by cases words <;> decide) fun w hop hd ha hb hfn himm => ?_⟩
    cases words <;> simp only [decodeSprue, hop, hd, ha, hb, hfn] <;> rfl
  case isaCmpi | isaLoop =>
    refine ⟨_, rfl, reads_wordR 0 _ 0 (by decide) (BitVec.isLt _) fun w hop hd ha hb hfn himm => ?_⟩
    simp only [decodeSprue, hop, hd, ha, hb, himm, BitVec.ofNat_toNat, BitVec.setWidth_eq]
    exact onlyIf_eq_some.2 ⟨hi, rfl⟩
  case isaCall =>
    refine ⟨_, rfl, reads_wordR 0 0 0 (by decide) (BitVec.isLt _) fun w hop hd ha hb hfn himm => ?_⟩
    simp only [decodeSprue, hop, hd, ha, hb, himm, BitVec.ofNat_toNat, BitVec.setWidth_eq]
    rfl
  case isaDbnz =>
    refine ⟨_, rfl, reads_wordR _ 0 0 (by decide) (BitVec.isLt _) fun w hop hd ha hb hfn himm => ?_⟩
    simp only [decodeSprue, hop, hd, ha, hb, himm, BitVec.ofNat_toNat, BitVec.setWidth_eq]
    rfl
  case isaBCond cond imm =>
    refine ⟨_, rfl, reads_wordR cond.toFin 0 0 (by decide) (BitVec.isLt _) fun w hop hd ha hb hfn himm => ?_⟩
    have hne : cond.toFin ≠ 15 := fun h => bne_iff_ne.1 hi (congrArg BitVec.ofFin h)
    simp only [decodeSprue, hop, hd, ha, hb, himm, BitVec.ofNat_toNat, BitVec.setWidth_eq]
    exact onlyIf_eq_some.2 ⟨by simp [hne], rfl⟩
  case isaShli => exact ⟨_, rfl, reads_shift (k := 0) (by decide) (Nat.zero_add _).symm⟩
  case isaShri => exact ⟨_, rfl, reads_shift (k := 1) (by decide) rfl⟩
  case isaSari => exact ⟨_, rfl, reads_shift (k := 2) (by decide) rfl⟩
  case isaRori => exact ⟨_, rfl, reads_shift (k := 3) (by decide) rfl⟩
  case isaBfx => exact ⟨_, rfl, reads_field (k := 0) (by decide) (by omega) (if_neg (Nat.not_lt.2 (Nat.succ_le_succ (of_decide_eq_true hi))))⟩
  case isaBfxs => exact ⟨_, rfl, reads_field (k := 4) (by decide) rfl (if_neg (Nat.not_lt.2 (Nat.succ_le_succ (of_decide_eq_true hi))))⟩
  case isaBfi => exact ⟨_, rfl, reads_field (k := 8) (by decide) rfl (if_neg (Nat.not_lt.2 (Nat.succ_le_succ (of_decide_eq_true hi))))⟩
  case isaCsrr d n =>
    have hn : n.toNat ≤ 7 := of_decide_eq_true hi
    refine ⟨_, rfl, reads_wordR _ 0 0 (by decide) (by omega) fun w hop hd ha hb hfn himm => ?_⟩
    have hlow : n.toNat % 4096 = n.toNat := by omega
    have hhigh : n.toNat / 4096 = 0 := by omega
    simp only [decodeSprue, hop, hd, ha, hb, hfn, hlow, hhigh, BitVec.ofNat_toNat, BitVec.setWidth_eq]
    exact if_pos hn
  case isaCsrw n a =>
    have hn : n.toNat ≤ 7 := of_decide_eq_true hi
    refine ⟨_, rfl, reads_wordR 0 _ 0 (by decide) (by omega) fun w hop hd ha hb hfn himm => ?_⟩
    have hlow : (4096 + n.toNat) % 4096 = n.toNat := by omega
    have hhigh : (4096 + n.toNat) / 4096 = 1 := by omega
    simp only [decodeSprue, hop, hd, ha, hb, hfn, hlow, hhigh, BitVec.ofNat_toNat, BitVec.setWidth_eq]
    exact if_pos hn
  case isaTrap code =>
    have hcode := code.isLt
    refine ⟨_, rfl, reads_wordR 0 0 0 (by decide) (by omega) fun w hop hd ha hb hfn himm => ?_⟩
    have hwflg : 16 * code.toNat + 2 ≠ 3 := by omega
    have hkind : (16 * code.toNat + 2) % 16 = 2 := by omega
    have hhigh : (16 * code.toNat + 2) / 16 = code.toNat := by omega
    simp only [decodeSprue, hop, hd, ha, hb, hfn, hhigh, BitVec.ofNat_toNat, BitVec.setWidth_eq]
    exact (if_neg hwflg).trans (if_pos hkind)
  case illegalInstruction => cases hi

end Words

end Sys2Proof

namespace Sys2Proof.Proofs

/-- Settles O3: `decodeSprue_encodeSprue` is the first direction, `decodeSprue_spells` the second. -/
theorem codeWordsAndInstructionsAgree : Obligations.CodeWordsAndInstructionsAgree := by
  unfold Obligations.CodeWordsAndInstructionsAgree
  exact ⟨fun _ _ => decodeSprue_encodeSprue, fun _ _ _ => decodeSprue_spells⟩

end Sys2Proof.Proofs
end

section
/-! PROOF. O22 to O25: instructions on runners, buffers, locks, mailboxes, ports and events, and the forms that trap. -/

namespace Sys2Proof.Machine

/-! An access that was done and one that was rejected end with ACCESS. -/

theorem Chip.didEnd_ok (s : Chip) (e addr bound : Nat) : Chip.didEnd s.ok e addr bound = s.accessEnd e bound 0 := rfl

theorem Chip.didEnd_no (s : Chip) (r blk inst off e addr bound : Nat) :
    Chip.didEnd (s.no r blk inst off) e addr bound = (s.reject r blk inst off).accessEnd e bound 1 := rfl

/-! A put, a packet drop, a free and a give by a party that may, and by one that may not. -/

theorem Chip.runPutBy_of_takes {s : Chip} {q : Nat} {f : Option Nat} (h : s.runRefuses q true f = false) (r k v off : Nat) :
    s.runPutBy r q k v f off = ((s.runPut q k v).runServe q 34).ok := if_neg (Bool.not_eq_true _ ▸ h)

theorem Chip.runPutBy_of_refuses {s : Chip} {q : Nat} {f : Option Nat} (h : s.runRefuses q true f = true) (r k v off : Nat) :
    s.runPutBy r q k v f off = s.no r 6 q off := if_pos h

theorem Chip.runDroppBy_of_takes {s : Chip} {q : Nat} {f : Option Nat} (h : s.runRefuses q false f = false) (r : Nat) :
    s.runDroppBy r q f = (s.runDropPkt q 2049).ok := if_neg (Bool.not_eq_true _ ▸ h)

theorem Chip.runDroppBy_of_refuses {s : Chip} {q : Nat} {f : Option Nat} (h : s.runRefuses q false f = true) (r : Nat) :
    s.runDroppBy r q f = s.no r 6 q 0x24 := if_pos h

theorem Chip.bufFree_of_owner {s : Chip} {who b : Nat} (h : s.bufOwner b = who) (hwho : who ≠ 63) :
    s.bufFree who b = (0, (s.poolPush b).poolServe 32) := by
  subst h
  exact (if_neg hwho).trans (if_neg (not_not_intro rfl))

theorem Chip.bufGive_of_owner {s : Chip} {who b to_ : Nat} (h : s.bufOwner b = who) (hto : to_ ≤ 32) :
    s.bufGive who b to_ = if s.ownerFenced to_ then (4, s) else (0, (s.put (Reg.SYNC_BUF_OWN b) to_).poolServe 32) :=
  (if_neg (not_not_intro h)).trans (if_neg (Nat.not_lt.2 hto))

/-- Bits hi down to lo of a number are those of its bit vector. -/
theorem bits_eq_extractLsb {n : Nat} (w : BitVec n) (hi lo : Nat) : bits w.toNat hi lo = (w.extractLsb' lo (hi + 1 - lo)).toNat := by
  rw [BitVec.extractLsb'_toNat, Nat.shiftRight_eq_div_pow, bits]

/-- A lock acquired shows 0, or 1 where it is poisoned. -/
theorem Chip.setDZ_b2n (s : Chip) (e : Fin 32) (d : Fin 16) (p : Bool) (bound : Nat) :
    (s.setDZ e.val d.val (b2n p) (b2n p == 0)).accessEnd e.val bound 0 = s.wroteAccess e d (if p then 1 else 0) { z := some (!p) } bound 0 := by
  cases p <;> rfl

theorem b2n_ne_two {p : Bool} : b2n p ≠ 2 := by cases p <;> decide

/-! The lowest pending event bit. -/

theorem lowestBit_eq_some {b : BitVec 128} {i : Nat} (hi : i < 128) (hset : b.getLsbD i = true) (hlow : ∀ j, j < i → b.getLsbD j = false) :
    lowestBit b = some i := by
  rw [lowestBit, List.find?_range_eq_some]
  exact ⟨hset, List.mem_range.2 hi, fun j hj => by simp [hlow j hj]⟩

theorem lowestBit_zero : lowestBit 0 = none := by
  rw [lowestBit, List.find?_eq_none]
  intro i _
  simp

theorem Chip.takePending_of_lowest {s : Chip} {e i : Nat} (hi : i < 128) (hset : (s.eng e).pend.getLsbD i = true)
    (hlow : ∀ j, j < i → (s.eng e).pend.getLsbD j = false) :
    s.takePending e = (some i, s.setEng e { s.eng e with pend := (s.eng e).pend &&& ~~~(1#128 <<< i) }) := by
  rw [Chip.takePending, lowestBit_eq_some hi hset hlow]

theorem Chip.takePending_of_none {s : Chip} {e : Nat} (h : (s.eng e).pend = 0) : s.takePending e = (none, s) := by
  rw [Chip.takePending, h, lowestBit_zero]

/-- A claimed port answers a write with OK, REJECT or BUSY (R206). -/
theorem Chip.portWrite_ne_refused (s : Chip) (e p v : Nat) : (s.portWrite e p v).1 ≠ .refused := by
  unfold Chip.portWrite
  split
  · exact nofun
  · dsimp only
    split
    · exact nofun
    · exact nofun

/-! The core die stays as it is while an engine fetches. -/

theorem Chip.rewriteLater_pwr (s : Chip) (a : Nat) : (s.rewriteLater a).pwr = s.pwr := by
  unfold Chip.rewriteLater
  split <;> rfl

theorem Chip.corrected_pwr (s : Chip) (a : Nat) : (s.corrected a).pwr = s.pwr := by
  unfold Chip.corrected
  split
  · exact Chip.rewriteLater_pwr s _
  · rfl

theorem Chip.fetched_pwr {s : Chip} {e : Fin 32} (h : s.executes e = true) : (s.fetched e).pwr = s.pwr := by
  obtain ⟨-, hgood⟩ := Bool.and_eq_true_iff.1 h
  unfold Chip.fetched
  unfold Chip.fetchEcc at hgood ⊢
  dsimp only at hgood ⊢
  split at hgood
  case h_1 => rfl
  case h_2 => exact Chip.corrected_pwr _ _
  case h_3 => cases hgood

/-- The core die of an engine that executes is out of reset, also behind the fetch. -/
theorem Chip.coreUp_fetched {s : Chip} {e : Fin 32} (h : s.executes e = true) : (s.fetched e).coreUp = true := by
  obtain ⟨hrun, -⟩ := Bool.and_eq_true_iff.1 h
  rw [Chip.coreUp, Chip.fetched_pwr h]
  exact (Bool.and_eq_true_iff.1 hrun).1

/-! A load or store that is refused traps at its address (R229). -/

theorem gives_load_refused {s : State} {e : Fin 32} {d a : Fin 16} {imm : BitVec 14} {n : Nat} {sx : Bool} {i : Instr}
    (hexec : exec i s = s.run (isaLoadOp e d.val a.val imm n sx)) (he : s.chip.executes e = true)
    (h : (s.chip.fetched e).engLoad e ((s.chip.fetched e).g e a + imm.signExtend 32).toNat n = none) :
    Gives i s ((s.chip.fetched e).trap e.val 2 (some ((s.chip.fetched e).g e a + imm.signExtend 32).toNat)) := by
  have h : (s.chip.fetched e).engLoad e ((s.chip.fetched e).memAddr e.val a.val imm) n = none := h
  exact gives_of_executes hexec he (by dsimp only; rw [h]; rfl)

theorem gives_store_refused {s : State} {e : Fin 32} {d a : Fin 16} {imm : BitVec 14} {n : Nat} {i : Instr}
    (hexec : exec i s = s.run (isaStoreOp e d.val a.val imm n)) (he : s.chip.executes e = true)
    (h : (s.chip.fetched e).engStore e ((s.chip.fetched e).g e a + imm.signExtend 32).toNat (natBytes n ((s.chip.fetched e).g e d).toNat) =
      (.refused, s.chip.fetched e)) :
    Gives i s ((s.chip.fetched e).trap e.val 2 (some ((s.chip.fetched e).g e a + imm.signExtend 32).toNat)) := by
  have h : (s.chip.fetched e).engStore e ((s.chip.fetched e).memAddr e.val a.val imm)
      (natBytes n (((s.chip.fetched e).eng e.val).reg d.val).toNat) = (.refused, s.chip.fetched e) := h
  refine gives_of_executes hexec he ?_
  dsimp only
  rw [h]
  exact (if_pos (Chip.coreUp_fetched he)).trans (if_pos rfl)

theorem Chip.engStore_gateView {s : Chip} {e : Fin 32} {a : Nat} {l : List (BitVec 8)} (h : gateView a = true) :
    s.engStore e a l = (.refused, s) := by
  have hlow : a < 0x10000 := of_decide_eq_true (Bool.and_eq_true_iff.1 h).1
  unfold Chip.engStore
  by_cases halign : a % l.length ≠ 0
  · exact if_pos halign
  · exact (if_neg halign).trans ((if_pos (by omega)).trans (if_pos h))

end Sys2Proof.Machine

namespace Sys2Proof.Proofs
open Sys2Proof.Machine

/-- Settles O22: each clause is one branch of its instruction. -/
theorem isaRunnerBufferResults : Obligations.IsaRunnerBufferResults := by
  unfold Obligations.IsaRunnerBufferResults
  intro s e d a b words he t q w ends none_
  have he63 : e.val ≠ 63 := by omega
  have done {x : Did} {c : Chip} (h : x = c.ok) : Chip.didEnd x e.val 0 23 = ends c 0 := h ▸ Chip.didEnd_ok c e.val 0 23
  have rejected {x : Did} {c : Chip} {off : Nat} (h : x = c.no e.val 6 q off) :
      Chip.didEnd x e.val 0 23 = ends (c.reject e.val 6 q off) 1 := h ▸ Chip.didEnd_no c e.val 6 q off e.val 0 23
  refine ⟨?put, ?putRefused, ?take, ?takeEmpty, ?takeRefused, ?drop, ?info, ?alloc, ?allocEmpty, ?own⟩
  case put =>
    intro hq hr
    have hin := Nat.not_le.2 hq
    constructor
    · exact gives_of_executes rfl he ((if_neg hin).trans (done (Chip.runPutBy_of_takes hr e.val 0 w 0x1C)))
    · exact gives_of_executes rfl he ((if_neg hin).trans (done (Chip.runPutBy_of_takes hr e.val 1 w 0x20)))
  case putRefused =>
    intro hq hr
    have hin := Nat.not_le.2 hq
    constructor
    · exact gives_of_executes rfl he ((if_neg hin).trans (rejected (Chip.runPutBy_of_refuses hr e.val 0 w 0x1C)))
    · exact gives_of_executes rfl he ((if_neg hin).trans (rejected (Chip.runPutBy_of_refuses hr e.val 1 w 0x20)))
  case take =>
    intro hq hr k v c hc f
    have hin := Nat.not_le.2 hq
    have hmay := Bool.not_eq_true _ ▸ hr
    have hc : (s.chip.fetched e).runTake (((s.chip.fetched e).eng e.val).reg a.val).toNat = (some (k, v), c) := hc
    constructor
    · exact gives_of_executes rfl he ((if_neg hin).trans ((if_neg hmay).trans (by rw [hc]; rfl)))
    · exact gives_of_executes rfl he ((if_neg hin).trans ((if_neg hmay).trans (by rw [hc]; rfl)))
  case takeEmpty =>
    intro hq hr c hc
    have hin := Nat.not_le.2 hq
    have hmay := Bool.not_eq_true _ ▸ hr
    have hc : (s.chip.fetched e).runTake (((s.chip.fetched e).eng e.val).reg a.val).toNat = (none, c) := hc
    constructor
    · exact gives_of_executes rfl he ((if_neg hin).trans ((if_neg hmay).trans (by rw [hc]; exact if_pos rfl)))
    · exact gives_of_executes rfl he ((if_neg hin).trans ((if_neg hmay).trans (by rw [hc]; exact if_neg Bool.false_ne_true)))
  case takeRefused =>
    intro hq hr
    have hin := Nat.not_le.2 hq
    refine ⟨?_, ?_, ?_⟩
    · exact gives_of_executes rfl he ((if_neg hin).trans (if_pos hr))
    · exact gives_of_executes rfl he ((if_neg hin).trans (if_pos hr))
    · exact gives_of_executes rfl he ((if_neg hin).trans (rejected (Chip.runDroppBy_of_refuses hr e.val)))
  case drop =>
    intro hq hr
    exact gives_of_executes rfl he ((if_neg (Nat.not_le.2 hq)).trans (done (Chip.runDroppBy_of_takes hr e.val)))
  case info =>
    intro hq v
    exact gives_of_executes rfl he (if_neg (Nat.not_le.2 hq))
  case alloc =>
    intro n c hc
    have hc : (s.chip.fetched e).poolAlloc e.val = (some n, c) := hc
    exact ⟨gives_of_executes rfl he (by rw [hc]; rfl), gives_of_executes rfl he (by rw [hc]; rfl)⟩
  case allocEmpty =>
    intro c hc
    have hc : (s.chip.fetched e).poolAlloc e.val = (none, c) := hc
    constructor
    · exact gives_of_executes rfl he (by rw [hc]; exact if_pos rfl)
    · exact gives_of_executes rfl he (by rw [hc]; exact if_neg Bool.false_ne_true)
  case own =>
    intro hq ho
    have hin := Nat.not_le.2 hq
    refine ⟨?free, fun hw hf => ?give, fun hw hf => ?giveFenced⟩
    case free =>
      have hfree : (s.chip.fetched e).bufFree e.val (((s.chip.fetched e).eng e.val).reg a.val).toNat = _ := Chip.bufFree_of_owner ho he63
      exact gives_of_executes rfl he ((if_neg hin).trans (by rw [hfree]; rfl))
    case give =>
      have hgive : (s.chip.fetched e).bufGive e.val (((s.chip.fetched e).eng e.val).reg a.val).toNat
          ((((s.chip.fetched e).eng e.val).reg b.val).toNat % 64) = _ :=
        (Chip.bufGive_of_owner ho hw).trans (if_neg (Bool.not_eq_true _ ▸ hf))
      exact gives_of_executes rfl he ((if_neg hin).trans (by rw [hgive]; rfl))
    case giveFenced =>
      have hgive : (s.chip.fetched e).bufGive e.val (((s.chip.fetched e).eng e.val).reg a.val).toNat
          ((((s.chip.fetched e).eng e.val).reg b.val).toNat % 64) = _ := (Chip.bufGive_of_owner ho hw).trans (if_pos hf)
      exact gives_of_executes rfl he ((if_neg hin).trans (by rw [hgive]; rfl))

/-- Settles O23: each clause is one branch of its instruction. -/
theorem isaLockMessageResults : Obligations.IsaLockMessageResults := by
  unfold Obligations.IsaLockMessageResults
  intro s e d a b he t l w buf len ends owner p
  have hbuf : bits w.toNat 10 0 = buf := bits_eq_extractLsb w 10 0
  have hlen : bits w.toNat 23 16 = len := bits_eq_extractLsb w 23 16
  refine ⟨?free, ?held, ?release, ?clear, ?send, ?sendRefused, ?recv, ?recvEmpty, ?recvRefused⟩
  case free =>
    intro hl ho
    have hin := Nat.not_le.2 hl
    have hown : ¬ t.lockOwner l = e.val := by show ¬ owner = e.val; omega
    have htry : (s.chip.fetched e).lockTry (((s.chip.fetched e).eng e.val).reg a.val).toNat e.val = _ := if_pos ho
    intro c
    have hfree : ∀ wait : Bool, ¬ ((t.lockTake l e.val).1 = 2 ∧ wait = true) := fun wait h => b2n_ne_two h.1
    have hc : (((t.lockTake l e.val).2.setDZ e.val d.val (t.lockTake l e.val).1 ((t.lockTake l e.val).1 == 0)).accessEnd e.val 34 0) = c :=
      Chip.setDZ_b2n (t.put (Reg.SYNC_LOCK_STAT_OWNER l) e.val) e d p 34
    constructor
    · exact gives_of_executes rfl he ((if_neg hin).trans ((if_neg hown).trans (by rw [htry]; exact (if_neg (hfree true)).trans hc)))
    · exact gives_of_executes rfl he ((if_neg hin).trans ((if_neg hown).trans (by rw [htry]; exact (if_neg (hfree false)).trans hc)))
  case held =>
    intro hl ho hne
    have hin := Nat.not_le.2 hl
    have htry : (s.chip.fetched e).lockTry (((s.chip.fetched e).eng e.val).reg a.val).toNat e.val = (2, s.chip.fetched e) := if_neg ho
    constructor
    · exact gives_of_executes rfl he ((if_neg hin).trans ((if_neg hne).trans (by rw [htry]; exact if_pos ⟨rfl, rfl⟩)))
    · exact gives_of_executes rfl he ((if_neg hin).trans ((if_neg hne).trans (by rw [htry]; exact if_neg (fun h => Bool.false_ne_true h.2))))
  case release =>
    intro hl ho hp
    exact gives_of_executes rfl he ((if_neg (Nat.not_le.2 hl)).trans (if_neg fun h => h.elim (· ho) fun h => Bool.false_ne_true (hp.symm.trans h)))
  case clear =>
    intro hl ho
    exact gives_of_executes rfl he ((if_neg (Nat.not_le.2 hl)).trans (if_neg (not_not_intro ho)))
  case send =>
    intro hl hown h1 h128 hmay
    have hin := Nat.not_le.2 hl
    have hgood : ¬ (t.bufOwner (bits w.toNat 10 0) ≠ e.val ∨ bits w.toNat 23 16 = 0 ∨ 128 < bits w.toNat 23 16) := by
      rw [hbuf, hlen]; omega
    have hsend : ¬ (!t.maySend l e.val) = true := by rw [hmay]; exact Bool.false_ne_true
    constructor
    · intro hfull
      have hsent : (s.chip.fetched e).mbxSend (((s.chip.fetched e).eng e.val).reg a.val).toNat
          (bits (((s.chip.fetched e).eng e.val).reg b.val).toNat 10 0) (bits (((s.chip.fetched e).eng e.val).reg b.val).toNat 23 16) e.val =
          (1, s.chip.fetched e) := (if_neg hsend).trans (if_pos hfull)
      exact gives_of_executes rfl he ((if_neg hin).trans ((if_neg hgood).trans (by rw [hsent]; rfl)))
    · intro hroom
      have hsent : (s.chip.fetched e).mbxSend (((s.chip.fetched e).eng e.val).reg a.val).toNat
          (bits (((s.chip.fetched e).eng e.val).reg b.val).toNat 10 0) (bits (((s.chip.fetched e).eng e.val).reg b.val).toNat 23 16) e.val =
          (0, ((t.mbxPush l (bits w.toNat 10 0) (bits w.toNat 23 16)).mbxServe l 32).poolServe 32) :=
        (if_neg hsend).trans (if_neg (Nat.not_le.2 hroom))
      rw [hbuf, hlen] at hsent
      exact gives_of_executes rfl he ((if_neg hin).trans ((if_neg hgood).trans (by rw [hsent]; rfl)))
  case sendRefused =>
    intro hl hown h1 h128 hmay
    have hin := Nat.not_le.2 hl
    have hgood : ¬ (t.bufOwner (bits w.toNat 10 0) ≠ e.val ∨ bits w.toNat 23 16 = 0 ∨ 128 < bits w.toNat 23 16) := by
      rw [hbuf, hlen]; omega
    have hsend : (!t.maySend l e.val) = true := by rw [hmay]; rfl
    have hsent : (s.chip.fetched e).mbxSend (((s.chip.fetched e).eng e.val).reg a.val).toNat
        (bits (((s.chip.fetched e).eng e.val).reg b.val).toNat 10 0) (bits (((s.chip.fetched e).eng e.val).reg b.val).toNat 23 16) e.val =
        (2, s.chip.fetched e) := if_pos hsend
    exact gives_of_executes rfl he ((if_neg hin).trans ((if_neg hgood).trans (by rw [hsent]; rfl)))
  case recv =>
    intro hl hmay m n hpeek c
    have hin := Nat.not_le.2 hl
    have hrecv : ¬ (!t.mayRecv l e.val) = true := by rw [hmay]; exact Bool.false_ne_true
    have hpeek : (s.chip.fetched e).mbxPeek (((s.chip.fetched e).eng e.val).reg a.val).toNat = some (m, n) := hpeek
    constructor
    · exact gives_of_executes rfl he ((if_neg hin).trans ((if_neg hrecv).trans (by rw [hpeek]; rfl)))
    · exact gives_of_executes rfl he ((if_neg hin).trans ((if_neg hrecv).trans (by rw [hpeek]; rfl)))
  case recvEmpty =>
    intro hl hmay hpeek
    have hin := Nat.not_le.2 hl
    have hrecv : ¬ (!t.mayRecv l e.val) = true := by rw [hmay]; exact Bool.false_ne_true
    have hpeek : (s.chip.fetched e).mbxPeek (((s.chip.fetched e).eng e.val).reg a.val).toNat = none := hpeek
    constructor
    · exact gives_of_executes rfl he ((if_neg hin).trans ((if_neg hrecv).trans (by rw [hpeek]; exact if_pos rfl)))
    · exact gives_of_executes rfl he ((if_neg hin).trans ((if_neg hrecv).trans (by rw [hpeek]; exact if_neg Bool.false_ne_true)))
  case recvRefused =>
    intro hl hmay c
    have hin := Nat.not_le.2 hl
    have hrecv : (!t.mayRecv l e.val) = true := by rw [hmay]; rfl
    exact ⟨gives_of_executes rfl he ((if_neg hin).trans (if_pos hrecv)), gives_of_executes rfl he ((if_neg hin).trans (if_pos hrecv))⟩

/-- Settles O24: each clause is one branch of its instruction. -/
theorem isaPortTimeEventResults : Obligations.IsaPortTimeEventResults := by
  unfold Obligations.IsaPortTimeEventResults
  intro s e d a b port he t ends u ra
  have read {p : Nat} (hp : portReserved p = false) (hc : t.claim e.val p ≠ 0) : ¬ (portReserved p || t.claim e.val p == 0) = true := by
    simp [hp, hc]
  have write {p : Nat} (hp : portReserved p = false) (hc : t.claim e.val p = 2) : ¬ (portReserved p || t.claim e.val p != 2) = true := by
    simp [hp, hc]
  refine ⟨?pin, ?pinr, ?pout, ?poutr, ?mark, ?time, ?pending, ?quiet, ?signal⟩
  case pin => exact fun hp hc => gives_of_executes rfl he (if_neg (read hp hc))
  case pinr => exact fun hp hc => gives_of_executes rfl he (if_neg (read hp hc))
  case pout =>
    exact fun hp hc => gives_of_executes rfl he ((if_neg (write hp hc)).trans (if_neg (t.portWrite_ne_refused e.val port.toNat (t.g e d).toNat)))
  case poutr =>
    exact fun hp hc => gives_of_executes rfl he ((if_neg (write hp hc)).trans (if_neg (t.portWrite_ne_refused e.val ra (t.g e b).toNat)))
  case mark => exact gives_of_executes rfl he rfl
  case time => exact gives_of_executes rfl he rfl
  case pending =>
    intro i hi hset hlow
    have htake : (s.chip.fetched e).takePending e.val = _ := Chip.takePending_of_lowest hi hset hlow
    intro c
    exact ⟨gives_of_executes rfl he (by rw [htake]; rfl), gives_of_executes rfl he (by rw [htake]; rfl)⟩
  case quiet =>
    intro hnone
    have htake : (s.chip.fetched e).takePending e.val = _ := Chip.takePending_of_none hnone
    constructor
    · exact gives_of_executes rfl he (by rw [htake]; exact if_pos rfl)
    · exact gives_of_executes rfl he (by rw [htake]; exact if_neg Bool.false_ne_true)
  case signal =>
    intro hlo hhi
    have hin : ¬ (ra < 112 ∨ 127 < ra) := by omega
    have hdetail : detail e.val 0 = e.val := by unfold detail; omega
    exact gives_of_executes rfl he ((if_neg hin).trans (congrArg (fun x => ends (t.fire ra x) 0) hdetail))

/-- Settles O25: each clause is the branch of its instruction that traps. -/
theorem isaTrappingForms : Obligations.IsaTrappingForms := by
  unfold Obligations.IsaTrappingForms
  intro s e d a b imm pos wm1 n port words he t x w u traps field target addr loopWord
  have hbuf : bits w.toNat 10 0 = (w.extractLsb' 0 11).toNat := bits_eq_extractLsb w 10 0
  have hlen : bits w.toNat 23 16 = (w.extractLsb' 16 8).toNat := bits_eq_extractLsb w 23 16
  have atWord {cause v v' : Nat} (h : v = v') : t.trap e.val cause (some v) = t.trap e.val cause (some v') :=
    congrArg (fun z => t.trap e.val cause (some z)) h
  have hloop : wordR 0x24 0 a.val 0 imm.toNat = loopWord := by unfold loopWord wordR; omega
  have read {p : Nat} (h : portReserved p = true ∨ t.claim e.val p = 0) : (portReserved p || t.claim e.val p == 0) = true := by simpa using h
  have write {p : Nat} (h : portReserved p = true ∨ t.claim e.val p ≠ 2) : (portReserved p || t.claim e.val p != 2) = true := by simpa using h
  refine ⟨?cond, ?field, ?csr, ?loopBack, ?loopDeep, ?loopOut, ?word, ?runner, ?lock, ?mailbox, ?signal, ?pin, ?pout, ?pinr, ?poutr,
    ?lockTwice, ?lockOther, ?lockPoison, ?send, ?memory⟩
  case cond => exact gives_of_executes rfl he ((if_pos rfl).trans (atWord (by unfold wordR; omega)))
  case field =>
    intro hout
    have hfield (k : Nat) : wordR 0x13 d.val a.val 0 (k * 4096 + wm1.val * 32 + pos.val) = field k := by unfold field wordR; omega
    have hexec (k : Nat) : isaBf e.val d.val a.val pos.val wm1.val k =
        fun c => c.isa e.val (fun c => c.illegal e.val (wordR 0x13 d.val a.val 0 (k * 4096 + wm1.val * 32 + pos.val))) :=
      funext fun c => if_pos hout
    refine ⟨?_, ?_, ?_⟩
    · exact gives_of_executes (congrArg s.run (hexec 0)) he (atWord (hfield 0))
    · exact gives_of_executes (congrArg s.run (hexec 1)) he (atWord (hfield 1))
    · exact gives_of_executes (congrArg s.run (hexec 2)) he (atWord (hfield 2))
  case csr =>
    intro hn
    constructor
    · exact gives_of_executes rfl he ((if_pos hn).trans (atWord (by unfold wordR; omega)))
    · exact gives_of_executes rfl he ((if_pos hn).trans (atWord (by unfold wordR; omega)))
  case loopBack => exact fun h => gives_of_executes rfl he ((if_pos h).trans (atWord hloop))
  case loopDeep =>
    intro hdeep
    by_cases himm : imm.toInt ≤ 0
    · exact gives_of_executes rfl he ((if_pos himm).trans (atWord hloop))
    · refine gives_of_executes rfl he ((if_neg himm).trans ((if_pos ?_).trans (atWord hloop)))
      split
      case h_1 h => exact absurd (h ▸ hdeep : 2 ≤ ([] : List (Nat × Nat × Nat)).length) (by decide)
      case h_2 st en k h => exact absurd (h ▸ hdeep : 2 ≤ [(st, en, k)].length) (by simp)
      case h_3 => rfl
  case loopOut =>
    intro st en k hl hout
    by_cases himm : imm.toInt ≤ 0
    · exact gives_of_executes rfl he ((if_pos himm).trans (atWord hloop))
    · refine gives_of_executes rfl he ((if_neg himm).trans ((if_pos ?_).trans (atWord hloop)))
      have hloops : ((s.chip.fetched e).eng e.val).loops = [(st, en, k)] := hl
      rw [hloops]
      simp only [Bool.not_eq_true', decide_eq_false_iff_not, Nat.not_lt]
      exact hout
  case word =>
    intro hx
    exact ⟨gives_of_executes rfl he (if_pos hx), gives_of_executes rfl he (if_pos hx), gives_of_executes rfl he (if_pos hx),
      gives_of_executes rfl he (if_pos hx)⟩
  case runner =>
    intro hx
    exact ⟨gives_of_executes rfl he (if_pos hx), gives_of_executes rfl he (if_pos hx), gives_of_executes rfl he (if_pos hx),
      gives_of_executes rfl he (if_pos hx), gives_of_executes rfl he (if_pos hx), gives_of_executes rfl he (if_pos hx)⟩
  case lock =>
    intro hx
    exact ⟨gives_of_executes rfl he (if_pos hx), gives_of_executes rfl he (if_pos hx), gives_of_executes rfl he (if_pos hx),
      gives_of_executes rfl he (if_pos hx)⟩
  case mailbox =>
    intro hx
    exact ⟨gives_of_executes rfl he (if_pos hx), gives_of_executes rfl he (if_pos hx), gives_of_executes rfl he (if_pos hx)⟩
  case signal => exact fun hx => gives_of_executes rfl he (if_pos hx)
  case pin => exact fun h => gives_of_executes rfl he (if_pos (read h))
  case pout => exact fun h => gives_of_executes rfl he (if_pos (write h))
  case pinr => exact fun h => gives_of_executes rfl he (if_pos (read h))
  case poutr => exact fun h => gives_of_executes rfl he (if_pos (write h))
  case lockTwice =>
    intro hx ho
    have hin := Nat.not_le.2 hx
    exact ⟨gives_of_executes rfl he ((if_neg hin).trans (if_pos ho)), gives_of_executes rfl he ((if_neg hin).trans (if_pos ho))⟩
  case lockOther =>
    intro hx ho
    have hin := Nat.not_le.2 hx
    exact ⟨gives_of_executes rfl he ((if_neg hin).trans (if_pos (Or.inl ho))), gives_of_executes rfl he ((if_neg hin).trans (if_pos ho))⟩
  case lockPoison =>
    exact fun hx ho hp => gives_of_executes rfl he ((if_neg (Nat.not_le.2 hx)).trans (if_pos (Or.inr hp)))
  case send =>
    intro hx hbad
    rw [← hbuf, ← hlen] at hbad
    exact gives_of_executes rfl he ((if_neg (Nat.not_le.2 hx)).trans (if_pos hbad))
  case memory =>
    have hup := Chip.coreUp_fetched he
    refine ⟨fun h => ⟨?_, ?_⟩, fun h => ⟨?_, ?_, ?_⟩, fun h => ⟨?_, ?_, ?_⟩⟩
    · exact gives_load_refused rfl he (if_pos h)
    · exact gives_store_refused rfl he (if_pos h)
    · exact gives_load_refused rfl he (if_pos h)
    · exact gives_load_refused rfl he (if_pos h)
    · exact gives_store_refused rfl he (if_pos h)
    · exact gives_store_refused rfl he (Chip.engStore_gateView h)
    · exact gives_store_refused rfl he (Chip.engStore_gateView h)
    · exact gives_store_refused rfl he (Chip.engStore_gateView h)

end Sys2Proof.Proofs
end

section
/-! PROOF. O21: loads and stores. -/

namespace Sys2Proof.Machine

/-! Little-endian bytes and words (R50). -/

theorem leNat_four (b0 b1 b2 b3 : BitVec 8) : leNat [b0, b1, b2, b3] = (b3 ++ b2 ++ b1 ++ b0).toNat := by
  simp only [leNat, BitVec.toNat_append]
  rw [← Nat.shiftLeft_add_eq_or_of_lt b2.isLt, ← Nat.shiftLeft_add_eq_or_of_lt b1.isLt, ← Nat.shiftLeft_add_eq_or_of_lt b0.isLt]
  simp only [Nat.shiftLeft_eq]
  omega

theorem leNat_two (b0 b1 : BitVec 8) : leNat [b0, b1] = (b1 ++ b0).toNat := by
  simp only [leNat, BitVec.toNat_append]
  rw [← Nat.shiftLeft_add_eq_or_of_lt b0.isLt]
  simp only [Nat.shiftLeft_eq]
  omega

theorem leNat_one (b0 : BitVec 8) : leNat [b0] = b0.toNat := by simp [leNat]

theorem length_natBytes (n v : Nat) : (natBytes n v).length = n := by
  induction n generalizing v with
  | zero => rfl
  | succ n ih => simp [natBytes, ih]

theorem leNat_natBytes (n v : Nat) : leNat (natBytes n v) = v % 256 ^ n := by
  induction n generalizing v with
  | zero => simp [natBytes, leNat, Nat.mod_one]
  | succ n ih =>
    rw [natBytes, leNat, ih, BitVec.toNat_ofNat, show 256 ^ (n + 1) = 256 * 256 ^ n from Nat.pow_succ', Nat.mod_mul]

/-- The four bytes of a word, lowest first. -/
theorem natBytes_four (w : BitVec 32) : natBytes 4 w.toNat = wordBytes w := by
  have h (k : Nat) : BitVec.ofNat 8 (w.toNat / 2 ^ k) = w.extractLsb' k 8 := by
    apply BitVec.eq_of_toNat_eq
    rw [BitVec.extractLsb'_toNat, Nat.shiftRight_eq_div_pow, BitVec.toNat_ofNat]
  have h0 := h 0
  have h1 := h 8
  have h2 := h 16
  have h3 := h 24
  simp only [natBytes, wordBytes, Nat.div_div_eq_div_mul, List.cons.injEq, and_true]
  simp only [Nat.pow_zero, Nat.div_one] at h0
  exact ⟨h0, h1, h2, h3⟩

theorem natBytes_take {n : Nat} (hn : n ≤ 4) (w : BitVec 32) : natBytes n w.toNat = (wordBytes w).take n := by
  rw [← natBytes_four]
  match n, hn with
  | 0, _ | 1, _ | 2, _ | 3, _ | 4, _ => rfl
  | n + 5, h => exact absurd h (Nat.not_le.2 (Nat.lt_of_lt_of_le (by decide) (Nat.le_add_left 5 n)))

/-- A value of w bits, sign-extended to a word. -/
theorem ofNat_unsigned_signed {w : Nat} (hw : 0 < w) (x : BitVec w) :
    BitVec.ofNat 32 (unsigned 32 (signed w x.toNat)) = x.signExtend 32 := by
  rw [signed_eq_toInt hw, BitVec.ofNat_toNat, BitVec.setWidth_eq]
  apply BitVec.eq_of_toNat_eq
  rw [BitVec.toNat_ofNat, unsigned, BitVec.signExtend, BitVec.toNat_ofInt]
  omega

/-! Stores leave the power state. -/

theorem Chip.putByte_pwr (s : Chip) (a : Nat) (b : BitVec 8) : (s.putByte a b).pwr = s.pwr := by
  unfold Chip.putByte
  dsimp only
  split
  · rfl
  · split
    · rfl
    · split <;> rfl

theorem Chip.putWin_pwr (s : Chip) (f : Nat → Fld) (w : Nat) (b : Bool) : (s.putWin f w b).pwr = s.pwr := rfl

theorem Chip.stbs_pwr (s : Chip) (a : Nat) (l : List (BitVec 8)) : (s.stbs a l).pwr = s.pwr := by
  unfold Chip.stbs
  have hput := Chip.foldl_leaves Chip.pwr (f := fun (s : Chip) (p : Nat × BitVec 8) => s.putByte (s.map (a + p.1)) p.2)
    (fun s p => Chip.putByte_pwr s _ _) (List.zip (List.range l.length) l) s
  extract_lets c
  split
  · split
    · split
      · exact hput
      · exact hput
    · exact hput
  · exact hput

theorem Chip.wrbs_pwr (s : Chip) (a : Nat) (l : List (BitVec 8)) : (s.wrbs a l).pwr = s.pwr := by
  induction l generalizing s a with
  | nil => rfl
  | cons b l ih => exact ih (s.wrb a b) (a + 1)

theorem Chip.liveStall_pwr (s : Chip) (a : Nat) : (s.liveStall a).pwr = s.pwr := by
  unfold Chip.liveStall
  split <;> rfl

/-! Loads and stores that are not refused. -/

/-- Where byte k of an access lies: in global SRAM behind the view its address names (R173). -/
def Chip.placeOf (s : Chip) (a k : Nat) : Nat := if a < 0x100000 then s.map (a + k) else a + k

/-- The byte an engine's load finds there. -/
def Chip.byteAt (s : Chip) (a k : Nat) : BitVec 8 := if a < 0x100000 then s.sees (s.placeOf a k) else s.rdb (s.placeOf a k)

/-- A load's read of the memory behind an address: its ACCESS and the block after it. -/
def Chip.loadRead (s : Chip) (e : Fin 32) (a : Nat) : Nat × Chip :=
  (if a < 0x100000 then s.liveStall a else s).loadEcc e.val (s.placeOf a 0)

theorem Chip.engLoad_memory {s : Chip} {e : Fin 32} {a n : Nat} (halign : a % n = 0) (h : a < 0x100000 ∨ ownCluster e.val a = true) :
    s.engLoad e a n = some (leNat ((List.range n).map (s.byteAt a)), s.loadRead e a) := by
  unfold Chip.engLoad
  rw [if_neg (not_not_intro halign)]
  unfold Chip.byteAt Chip.loadRead Chip.placeOf
  by_cases hlow : a < 0x100000
  · simp only [if_pos hlow, Nat.add_zero]
    rfl
  · simp only [if_neg hlow, if_pos (h.resolve_left hlow), Nat.add_zero]
    rfl

theorem Chip.engStore_memory {s : Chip} {e : Fin 32} {a : Nat} {l : List (BitVec 8)} (halign : a % l.length = 0)
    (h : a < 0x100000 ∧ gateView a = false ∨ ownCluster e.val a = true) :
    s.engStore e a l = (if a < 0x100000 then (s.liveStall a).stbs a l else s.wrbs a l).ok := by
  unfold Chip.engStore
  rw [if_neg (not_not_intro halign)]
  by_cases hlow : a < 0x100000
  · have hview : ¬ gateView a = true := by
      rcases h with ⟨-, hview⟩ | hown
      · rw [hview]; exact Bool.false_ne_true
      · have hbase := of_decide_eq_true (Bool.and_eq_true_iff.1 hown).1
        omega
    rw [if_pos hlow, if_neg hview, if_pos hlow]
  · have hown : ownCluster e.val a = true := h.resolve_left (fun h => hlow h.1)
    rw [if_neg hlow, if_pos hown, if_neg hlow]

/-- The address of a load or store (R229). -/
def Chip.accessAddr (s : Chip) (e : Fin 32) (a : Fin 16) (imm : BitVec 14) : Nat := (s.g e a + imm.signExtend 32).toNat

section Memory
variable {s : State} {e : Fin 32} {d a : Fin 16} {imm : BitVec 14} {n : Nat} {i : Instr}

/-- A load that finds a value writes it, extended as the load says. -/
theorem gives_load {sx : Bool} {v acc : Nat} {c : Chip} {r : BitVec 32} (hexec : exec i s = s.run (isaLoadOp e d.val a.val imm n sx))
    (he : s.chip.executes e = true)
    (h : (s.chip.fetched e).engLoad e ((s.chip.fetched e).accessAddr e a imm) n = some (v, acc, c))
    (hr : BitVec.ofNat 32 (if sx then unsigned 32 (signed (8 * n) v) else v) = r) :
    Gives i s (c.wroteAccess e d r {} (contendBound e.val ((s.chip.fetched e).accessAddr e a imm)) acc) := by
  have h : (s.chip.fetched e).engLoad e ((s.chip.fetched e).memAddr e.val a.val imm) n = some (v, acc, c) := h
  subst hr
  exact gives_of_executes hexec he (by dsimp only; rw [h]; rfl)

/-- A store that is not refused ends with its access, where the core die is still out of reset. -/
theorem gives_store {x : Did} (hexec : exec i s = s.run (isaStoreOp e d.val a.val imm n)) (he : s.chip.executes e = true)
    (h : (s.chip.fetched e).engStore e ((s.chip.fetched e).accessAddr e a imm) (natBytes n ((s.chip.fetched e).g e d).toNat) = x)
    (hup : x.2.coreUp = true) (hx : x.1 ≠ .refused) :
    Gives i s (x.2.accessEnd e.val (contendBound e.val ((s.chip.fetched e).accessAddr e a imm)) x.1.access) := by
  subst h
  exact gives_of_executes hexec he ((if_pos hup).trans (if_neg hx))

/-- A store to global SRAM or the engine's own data RAM moves its bytes. -/
theorem gives_store_memory (hexec : exec i s = s.run (isaStoreOp e d.val a.val imm n)) (he : s.chip.executes e = true) (hn : n ≤ 4)
    (halign : (s.chip.fetched e).accessAddr e a imm % n = 0)
    (hin : (s.chip.fetched e).accessAddr e a imm < 0x100000 ∧ gateView ((s.chip.fetched e).accessAddr e a imm) = false ∨
      ownCluster e.val ((s.chip.fetched e).accessAddr e a imm) = true) :
    let t := s.chip.fetched e
    let addr := t.accessAddr e a imm
    let l := (wordBytes (t.g e d)).take n
    Gives i s ((if addr < 0x100000 then (t.liveStall addr).stbs addr l else t.wrbs addr l).accessEnd e.val (contendBound e.val addr) 0) := by
  intro t addr l
  have hl : natBytes n (t.g e d).toNat = l := natBytes_take hn (t.g e d)
  have hstore : t.engStore e addr (natBytes n (t.g e d).toNat) =
      (if addr < 0x100000 then (t.liveStall addr).stbs addr l else t.wrbs addr l).ok := by
    rw [← hl]
    exact Chip.engStore_memory ((length_natBytes n _).symm ▸ halign) hin
  have hup : (if addr < 0x100000 then (t.liveStall addr).stbs addr l else t.wrbs addr l).coreUp = true := by
    have hup := Chip.coreUp_fetched he
    unfold Chip.coreUp at hup ⊢
    split
    · rw [Chip.stbs_pwr, Chip.liveStall_pwr]
      exact hup
    · rw [Chip.wrbs_pwr]
      exact hup
  generalize (if addr < 0x100000 then (t.liveStall addr).stbs addr l else t.wrbs addr l) = c at hstore hup
  exact gives_store (x := c.ok) hexec he hstore hup nofun

end Memory

end Sys2Proof.Machine

namespace Sys2Proof.Proofs
open Sys2Proof.Machine

/-- Settles O21: an access that memory answers moves its bytes, one that reaches a register reads or writes it. -/
theorem isaLoadStoreResults : Obligations.IsaLoadStoreResults := by
  unfold Obligations.IsaLoadStoreResults
  intro s e d a imm he t addr own place byte read bound loads stores
  have hown (h : own) : ownCluster e.val addr = true := by
    obtain ⟨hlo, hhi⟩ := h
    exact Bool.and_eq_true_iff.2 ⟨decide_eq_true hlo, decide_eq_true hhi⟩
  refine ⟨?loads, ?stores, ?register⟩
  case loads =>
    intro hin
    have hin : addr < 0x100000 ∨ ownCluster e.val addr = true := hin.imp_right hown
    refine ⟨fun halign => ?_, fun halign => ?_, fun halign => ?_, ?_, ?_⟩
    · refine gives_load rfl he (Chip.engLoad_memory halign hin) ?_
      exact (congrArg (BitVec.ofNat 32) (leNat_four (byte 0) (byte 1) (byte 2) (byte 3))).trans
        ((BitVec.ofNat_toNat 32 _).trans (BitVec.setWidth_eq _))
    · refine gives_load rfl he (Chip.engLoad_memory halign hin) ?_
      exact (congrArg (fun v => BitVec.ofNat 32 (unsigned 32 (signed 16 v))) (leNat_two (byte 0) (byte 1))).trans
        (ofNat_unsigned_signed (by decide) (byte 1 ++ byte 0))
    · refine gives_load rfl he (Chip.engLoad_memory halign hin) ?_
      exact (congrArg (BitVec.ofNat 32) (leNat_two (byte 0) (byte 1))).trans (BitVec.ofNat_toNat 32 _)
    · refine gives_load rfl he (Chip.engLoad_memory (Nat.mod_one _) hin) ?_
      exact (congrArg (fun v => BitVec.ofNat 32 (unsigned 32 (signed 8 v))) (leNat_one (byte 0))).trans
        (ofNat_unsigned_signed (by decide) (byte 0))
    · refine gives_load rfl he (Chip.engLoad_memory (Nat.mod_one _) hin) ?_
      exact (congrArg (BitVec.ofNat 32) (leNat_one (byte 0))).trans (BitVec.ofNat_toNat 32 _)
  case stores =>
    intro hin
    have hin : addr < 0x100000 ∧ gateView addr = false ∨ ownCluster e.val addr = true := hin.imp_right hown
    refine ⟨fun halign => ?_, fun halign => ?_, ?_⟩
    · exact gives_store_memory rfl he (by decide) halign hin
    · exact gives_store_memory rfl he (by decide) halign hin
    · exact gives_store_memory rfl he (by decide) (Nat.mod_one _) hin
  case register =>
    intro halign hregs l act hreg got
    have hlow : ¬ addr < 0x100000 := by omega
    have hcluster : ¬ ownCluster e.val addr = true := by
      intro h
      have hhi := of_decide_eq_true (Bool.and_eq_true_iff.1 h).2
      omega
    have hbound : contendBound e.val ((s.chip.fetched e).accessAddr e a imm) = 34 := (if_neg hlow).trans (if_neg hcluster)
    constructor
    · intro hgot
      have hload : t.engLoad e addr 4 = some (got.2.1, 0, got.2.2) := by
        unfold Chip.engLoad
        rw [if_neg (not_not_intro halign), if_neg hlow, if_neg hcluster, if_neg (by decide), hreg]
        exact if_neg hgot
      have hgives := gives_load (i := .isaLdw e d a imm) (sx := false) rfl he hload rfl
      rwa [hbound] at hgives
    · rintro rfl hup hdone
      have hstore : t.engStore e addr (natBytes 4 (t.g e d).toNat) = t.writeReg (.engine e) l (t.g e d).toNat := by
        unfold Chip.engStore
        rw [length_natBytes, if_neg (not_not_intro halign), if_neg hlow, if_neg hcluster, if_neg (by decide), hreg]
        exact congrArg (t.writeReg (.engine e) l) ((leNat_natBytes 4 _).trans (Nat.mod_eq_of_lt (t.g e d).isLt))
      have hgives := gives_store (i := .isaStw e d a imm) rfl he hstore hup hdone
      rwa [hbound] at hgives

end Sys2Proof.Proofs
end

section
/-! PROOF. O26: writes and reads of the register space. -/

namespace Sys2Proof.Machine

/-! Where a located register lies. -/

theorem locate_bounds {a : Nat} {l : Loc} (h : locate a = some l) : 0x01000000 ≤ a ∧ a < 0x01150000 ∧ a % 4 = 0 := by
  unfold locate at h
  split at h
  · cases h
  · omega

theorem locate_addr {a : Nat} {l : Loc} (h : locate a = some l) : l.addr = a := by
  unfold locate at h
  split at h
  · cases h
  · dsimp only at h
    split at h
    · cases h
    · cases h
      rfl

theorem regAt_of_locate {a : Nat} {l : Loc} (h : locate a = some l) : regAt a = some (l, false) := by
  obtain ⟨hlo, hhi, -⟩ := locate_bounds h
  unfold regAt
  rw [if_neg (by omega), h]
  rfl

theorem Chip.memWord_of_locate {a : Nat} {l : Loc} (h : locate a = some l) (s : Chip) : s.memWord a = none := by
  obtain ⟨hlo, hhi, halign⟩ := locate_bounds h
  unfold Chip.memWord
  rw [if_neg (by omega), if_neg (by omega), if_neg (by omega)]

section Located
variable {a : Nat} {l : Loc} (hl : locate a = some l) {s : Chip} {r : Requester}
include hl

theorem Chip.engStore_of_locate (e : Fin 32) {b : List (BitVec 8)} (hb : b.length = 4) :
    s.engStore e a b = s.writeReg (.engine e) l (leNat b) := by
  obtain ⟨hlo, hhi, halign⟩ := locate_bounds hl
  have hown : ¬ ownCluster e.val a = true := by
    intro h
    have := of_decide_eq_true (Bool.and_eq_true_iff.1 h).2
    omega
  unfold Chip.engStore
  rw [hb, if_neg (by omega), if_neg (by omega), if_neg hown, if_neg (by decide), regAt_of_locate hl]

theorem Chip.engStore_narrow (e : Fin 32) {b : List (BitVec 8)} (hb : b.length ≠ 4) : s.engStore e a b = (.refused, s) := by
  obtain ⟨hlo, hhi, halign⟩ := locate_bounds hl
  have hown : ¬ ownCluster e.val a = true := by
    intro h
    have := of_decide_eq_true (Bool.and_eq_true_iff.1 h).2
    omega
  unfold Chip.engStore
  by_cases hodd : a % b.length ≠ 0
  · rw [if_pos hodd]
  · rw [if_neg hodd, if_neg (by omega), if_neg hown, if_pos hb]

theorem Chip.busWrite_of_locate (v : Nat) : s.busWrite r a v = s.writeReg r l v := by
  obtain ⟨hlo, hhi, halign⟩ := locate_bounds hl
  unfold Chip.busWrite
  rw [if_neg (by omega), if_neg (by omega), if_neg (by omega), if_neg (by omega), regAt_of_locate hl]

theorem Chip.mgmtMay_of_locate (h : s.active 52 = true ∨ l.blk = 8) : s.mgmtMay a = true := by
  unfold Chip.mgmtMay
  rw [regAt_of_locate hl]
  rcases h with h | h <;> simp [h]

theorem Chip.gateRefused_of_locate : s.gateRefused true a = mgmtOnly l := by
  unfold Chip.gateRefused
  rw [Chip.memWord_of_locate hl, regAt_of_locate hl]
  simp

/-- A write of a word reaches its register, whoever asks (R50, R53). -/
theorem Chip.writeBy_word (hmay : r = .mgmt → s.active 52 = true ∨ l.blk = 8) {v : Nat} (hv : v < 2 ^ 32) :
    s.writeBy r 4 a v = s.writeReg r l v := by
  cases r with
  | engine e =>
    refine (Chip.engStore_of_locate hl e (length_natBytes 4 v)).trans ?_
    rw [leNat_natBytes, Nat.mod_eq_of_lt (show v < 256 ^ 4 from hv)]
  | mgmt =>
    refine (if_neg ?_).trans (Chip.busWrite_of_locate hl v)
    rw [Chip.mgmtMay_of_locate hl (hmay rfl)]
    decide
  | gate =>
    by_cases hmine : mgmtOnly l = true
    · refine (if_pos (Or.inr ((Chip.gateRefused_of_locate hl).trans hmine))).trans ?_
      exact (if_pos ⟨hmine, by decide⟩).symm
    · refine (if_neg ?_).trans (Chip.busWrite_of_locate hl v)
      rintro (h | h)
      · exact h rfl
      · exact hmine ((Chip.gateRefused_of_locate hl).symm.trans h)

/-- A write of less than a word is refused (R50). -/
theorem Chip.writeBy_narrow {n : Nat} (hn : n ≠ 4) (v : Nat) : s.writeBy r n a v = (.refused, s) := by
  cases r with
  | engine e => exact Chip.engStore_narrow hl e (by rwa [length_natBytes])
  | mgmt => exact if_pos (Or.inl hn)
  | gate => exact if_pos (Or.inl hn)

end Located

/-! What a write of a register does (R53, R55). -/

theorem Chip.respondUp_of_coreUp {d : Did} (h : d.2.coreUp = true) (r : Requester) (a : Nat) : Chip.respondUp d r a = d.2.respond r a d.1 := if_pos h

theorem Chip.reject_coreUp (s : Chip) (r blk inst off : Nat) : (s.reject r blk inst off).coreUp = s.coreUp := by
  unfold Chip.coreUp Chip.reject
  rw [Chip.fire_pwr]
  split <;> rfl

theorem loReg_not_mgmtOnly {l : Loc} (h : loReg l = true) : mgmtOnly l = false ∧ takingRead l = false ∧ l.blk ≠ 15 ∧ l.blk ≠ 4 ∧ hiReg l = false := by
  unfold loReg at h
  split at h
  case h_8 => cases h
  all_goals simp_all [mgmtOnly, takingRead, hiReg]

/-- A read of a _LO register captures its _HI half (R68). -/
theorem Chip.readReg_loReg {s : Chip} {r : Requester} {l h : Loc} (hlo : loReg l = true) (hh : locate (l.addr + 4) = some h) :
    s.readReg r l false = (.done, s.readWord l false, { s with hiLatch := s.hiLatch.put (resetWord l) (l.addr + 4) (s.readWord h false) }) := by
  obtain ⟨hmine, htake, hpin, hchain, hhi⟩ := loReg_not_mgmtOnly hlo
  unfold Chip.readReg Chip.freshen
  rw [if_neg (by rw [hmine]; exact fun h => Bool.false_ne_true h.1), if_neg (by rw [htake]; exact Bool.false_ne_true), if_neg (fun h => hpin h.1),
    if_neg (by rw [hhi]; exact Bool.false_ne_true), if_neg hchain]
  dsimp only
  rw [if_pos hlo, hh]

section Fields
variable {s : Chip} {l : Loc} {v : Nat} {f : Fld}

theorem Chip.writeFld_rwE (h : f.code = .rwE) : s.writeFld l v f =
    if s.unitOn l then s else if fieldDieKey f.key then s.putField f (f.part v) else s.put f (f.part v) := by rw [Chip.writeFld, h]

theorem Chip.writeFld_rwP (h : f.code = .rwP) : s.writeFld l v f =
    if fieldDieKey f.key then (s.putSh f (f.part v)).fieldAct (.shadowSet f (f.part v)) else s.putSh f (f.part v) := by rw [Chip.writeFld, h]

theorem Chip.writeFld_cnt (h : f.code = .cnt) : s.writeFld l v f = s.put f (f.part v) := by rw [Chip.writeFld, h]

end Fields

end Sys2Proof.Machine

namespace Sys2Proof.Proofs
open Sys2Proof.Machine

/-- Settles O26: an access reaches the register its address locates, and ends as `Chip.writeReg` or `Chip.readReg` does. -/
theorem registerAccessResults : Obligations.RegisterAccessResults := by
  unfold Obligations.RegisterAccessResults
  intro r addr data l s c a ignored mine t hup hmay hl
  have write (h : mine) : ¬ (mgmtOnly l = true ∧ r ≠ .mgmt) := fun hm => hm.2 (h hm.1)
  have word (c' : Chip) (h : Chip.respondUp (c.writeReg r l data.toNat) r a = c') : Gives (.registerWrite r .word addr data) s c' := by
    refine gives_of_run (f := fun s => s.regWriteBy r .word addr.toNat data.toNat) rfl ((if_pos hup).trans ?_)
    exact (congrArg (Chip.respondUp · r a) (Chip.writeBy_word hl hmay data.isLt)).trans h
  have narrow (w : Access) (hw : accessBytes w ≠ 4) : Gives (.registerWrite r w addr data) s (c.respond r a .refused) := by
    refine gives_of_run (f := fun s => s.regWriteBy r w addr.toNat data.toNat) rfl ((if_pos hup).trans ?_)
    exact (congrArg (Chip.respondUp · r a) (Chip.writeBy_narrow hl hw data.toNat)).trans (if_pos hup)
  refine ⟨?notMine, ?busy, ?armed, ?written, ?ignored, narrow .half (by decide), narrow .byte (by decide), ?fields, ?capture⟩
  case notMine => exact fun hm hr => word _ ((congrArg (Chip.respondUp · r a) (if_pos ⟨hm, hr⟩)).trans (if_pos hup))
  case busy => exact fun hm hb => word _ ((congrArg (Chip.respondUp · r a) ((if_neg (write hm)).trans (if_pos hb))).trans (if_pos hup))
  case armed =>
    intro hm hb hg
    have hreg : c.writeReg r l data.toNat = c.no r.code l.blk l.inst l.off :=
      (if_neg (write hm)).trans ((if_neg (Bool.not_eq_true _ ▸ hb)).trans (if_pos hg))
    exact word _ ((congrArg (Chip.respondUp · r a) hreg).trans (if_pos ((Chip.reject_coreUp c _ _ _ _).trans hup)))
  case written =>
    intro hm hb hg hi
    have hreg : c.writeReg r l data.toNat = runCmds (cmdsOf r l data.toNat) t := by
      refine (if_neg (write hm)).trans ((if_neg (Bool.not_eq_true _ ▸ hb)).trans ((if_neg (Bool.not_eq_true _ ▸ hg)).trans ?_))
      exact congrArg (runCmds (cmdsOf r l data.toNat)) (if_neg (Bool.not_eq_true _ ▸ hi))
    exact word _ (congrArg (Chip.respondUp · r a) hreg)
  case ignored =>
    intro hm hb hg hi
    have hreg : c.writeReg r l data.toNat = runCmds (cmdsOf r l data.toNat) (t.ignored r.code l.blk l.inst l.off) := by
      refine (if_neg (write hm)).trans ((if_neg (Bool.not_eq_true _ ▸ hb)).trans ((if_neg (Bool.not_eq_true _ ▸ hg)).trans ?_))
      exact congrArg (runCmds (cmdsOf r l data.toNat)) (if_pos hi)
    exact word _ (congrArg (Chip.respondUp · r a) hreg)
  case fields =>
    intro d f v p
    have hpart : p % 2 ^ f.width = p := Nat.mod_mod _ _
    refine ⟨fun hf hon => ?_, fun hf hon hcore => ?_, fun hf hcore => ?_, fun hf => ?_, fun hE hP hC => ?_⟩
    · rw [Chip.writeFld_rwE hf, if_pos hon]
    · rw [Chip.writeFld_rwE hf, if_neg (Bool.not_eq_true _ ▸ hon), if_neg (Bool.not_eq_true _ ▸ hcore)]
      exact (Chip.get_put_same d f p).trans hpart
    · rw [Chip.writeFld_rwP hf, if_neg (Bool.not_eq_true _ ▸ hcore)]
      exact ⟨(SMap.get_put_same ..).trans hpart, rfl⟩
    · rw [Chip.writeFld_cnt hf]
      exact (Chip.get_put_same d f p).trans hpart
    · unfold Chip.writeFld
      split
      · exact absurd ‹_› hE
      · exact absurd ‹_› hP
      · exact absurd ‹_› hC
      · rfl
  case capture =>
    intro h hlo hhi
    have hread := Chip.readReg_loReg (s := c) (r := r) hlo ((locate_addr hl).symm ▸ hhi : locate (l.addr + 4) = some h)
    rw [locate_addr hl] at hread
    have hreg : regAt addr.toNat = some (l, false) := regAt_of_locate hl
    have hopen : ¬ (r = .mgmt ∧ (!c.mgmtMay addr.toNat) = true) := by
      rintro ⟨hr, hshut⟩
      rw [Chip.mgmtMay_of_locate hl (hmay hr)] at hshut
      exact Bool.false_ne_true hshut
    refine gives_of_run (f := fun s => s.loCapture r addr.toNat) rfl ?_
    unfold Chip.loCapture
    rw [if_neg (by rw [hup]; exact Bool.false_ne_true), hreg]
    dsimp only
    rw [if_neg (by rw [hlo]; exact Bool.false_ne_true), if_neg hopen, hread]

end Sys2Proof.Proofs
end

section
/-! PROOF. O27 and O28: pours, withdraws, chain-wide pours and lapses, and what a pour and a withdraw move. -/

namespace Sys2Proof.Machine

/-! What an overlay reads. -/

theorem SMap.find_filter {V : Type} (p : Nat → Bool) (m : SMap V) (k : Nat) :
    SMap.find (m.filter (fun e => p e.1)) k = if p k then SMap.find m k else none := by
  induction m with
  | nil => simp [SMap.find]
  | cons e t ih =>
    obtain ⟨k', v⟩ := e
    by_cases hk : k' = k
    · subst hk
      by_cases hp : p k' = true
      · simp [List.filter, SMap.find, hp]
      · simp only [Bool.not_eq_true] at hp
        simp [List.filter, hp, ih]
    · by_cases hp : p k' = true
      · simp [List.filter, SMap.find, hp, hk, ih]
      · simp only [Bool.not_eq_true] at hp
        simp [List.filter, SMap.find, hp, hk, ih]

/-- A key below the first one is not listed. -/
theorem SMap.find_of_lt {V : Type} {m : SMap V} {lo k : Nat} (h : SMap.risingFrom lo m = true) (hk : k < lo) : SMap.find m k = none := by
  induction m generalizing lo with
  | nil => rfl
  | cons e t ih =>
    obtain ⟨k', v⟩ := e
    simp only [SMap.risingFrom, Bool.and_eq_true, decide_eq_true_eq] at h
    obtain ⟨hlo, ht⟩ := h
    rw [SMap.find, if_neg (by omega)]
    exact ih ht (by omega)

/-- Listing the entries of a rising map over another one: its own value where it lists a key, else the other's. -/
theorem SMap.find_foldl_ins {V : Type} {m : SMap V} {lo : Nat} (h : SMap.risingFrom lo m = true) (dst : SMap V) (k : Nat) :
    SMap.find (m.foldl (fun m e => SMap.ins e.1 e.2 m) dst) k = (SMap.find m k).or (SMap.find dst k) := by
  induction m generalizing lo dst with
  | nil => simp [SMap.find]
  | cons e t ih =>
    obtain ⟨k', v⟩ := e
    simp only [SMap.risingFrom, Bool.and_eq_true, decide_eq_true_eq] at h
    obtain ⟨hlo, ht⟩ := h
    rw [List.foldl_cons, ih ht, SMap.find_ins, SMap.find]
    by_cases hk : k' = k
    · subst hk
      rw [SMap.find_of_lt ht (Nat.lt_succ_self k')]
      simp
    · rw [if_neg (Ne.symm hk), if_neg hk]

/-- An overlay reads the source at the keys picked, the destination at every other key. -/
theorem SMap.get_overlay {V : Type} {p : Nat → Bool} {src : SMap V} (hsrc : SMap.wf src = true) (dst : SMap V) (d : V) (k : Nat) :
    SMap.get (SMap.overlay p src dst) d k = if p k then SMap.get src d k else SMap.get dst d k := by
  have hpicked : SMap.risingFrom 0 (src.filter (fun e => p e.1)) = true := by
    have hdrop := SMap.risingFrom_drop (fun k => !p k) hsrc
    simpa [SMap.drop] using hdrop
  unfold SMap.get SMap.overlay
  rw [SMap.find_foldl_ins hpicked, SMap.find_filter, SMap.find_filter (fun k => !p k)]
  cases p k <;> simp

/-! Bits of a mask. -/

theorem bit_eq_testBit (m i : Nat) : bit m i = m.testBit i := by
  rw [bit, Nat.testBit_eq_decide_div_mod_eq]
  rfl

/-- A mask that meets none of a set of groups lacks each of them. -/
theorem bit_of_land_eq_zero {m k i : Nat} (h : m &&& k = 0) (hk : k.testBit i = true) : bit m i = false := by
  have hbit := congrArg (Nat.testBit · i) h
  simp only [Nat.testBit_and, hk, Bool.and_true, Nat.zero_testBit] at hbit
  rw [bit_eq_testBit, hbit]

/-- A mask that meets none of a set of groups meets no part of it. -/
theorem land_eq_zero_of_land {m k j : Nat} (h : m &&& k = 0) (hj : k &&& j = j) : m &&& j = 0 := by
  rw [← hj, ← Nat.and_assoc, h, Nat.zero_and]

/-! Serving the pool moves no working value and no shadow. -/

theorem Chip.poolPop_planes {s c : Chip} {who b : Nat} (h : s.poolPop who = some (b, c)) : c.work = s.work ∧ c.shadow = s.shadow := by
  unfold Chip.poolPop at h
  split at h
  · cases h
    exact ⟨rfl, rfl⟩
  · split at h
    · cases h
    · cases h
      exact ⟨rfl, rfl⟩

theorem Chip.poolServe_planes (s : Chip) (fuel : Nat) : (s.poolServe fuel).work = s.work ∧ (s.poolServe fuel).shadow = s.shadow := by
  induction fuel generalizing s with
  | zero => exact ⟨rfl, rfl⟩
  | succ fuel ih =>
    unfold Chip.poolServe
    split
    · exact ⟨rfl, rfl⟩
    · split
      · exact ⟨rfl, rfl⟩
      · split
        · exact ⟨rfl, rfl⟩
        · rename_i b c hpop
          obtain ⟨hwork, hshadow⟩ := Chip.poolPop_planes hpop
          obtain ⟨ihwork, ihshadow⟩ := ih (Chip.grant { c with sync := { c.sync with poolWait := c.sync.poolWait.filter (fun x => x != _) } } _ b 1 false false false 0)
          exact ⟨ihwork.trans hwork, ihshadow.trans hshadow⟩

theorem Chip.chainShow_planes (s : Chip) : s.chainShow.work = s.work ∧ s.chainShow.shadow = s.shadow := ⟨rfl, rfl⟩

/-- A pour of PG1, PG3, PG4 and PG13 to PG15: the shadows of its groups are the working values, and no more moves. -/
theorem Chip.pour_planes (s : Chip) {mask : Nat} (hmask : mask &&& 0x1FE5 = 0) :
    (s.pour mask).work = SMap.overlay (pourKey mask) s.shadow s.work ∧ (s.pour mask).shadow = s.shadow := by
  have hfield : mask &&& fieldGroups = 0 := land_eq_zero_of_land hmask (by decide)
  have h0 : bit mask 0 = false := bit_of_land_eq_zero hmask (by decide)
  have h2 : bit mask 2 = false := bit_of_land_eq_zero hmask (by decide)
  have h5 : bit mask 5 = false := bit_of_land_eq_zero hmask (by decide)
  have h6 : bit mask 6 = false := bit_of_land_eq_zero hmask (by decide)
  have h7 : bit mask 7 = false := bit_of_land_eq_zero hmask (by decide)
  have h12 : bit mask 12 = false := bit_of_land_eq_zero hmask (by decide)
  have skip {b : Bool} (hb : b = false) (x y : Chip) : (if b = true then x else y) = y := if_neg (Bool.not_eq_true _ ▸ hb)
  unfold Chip.pour Chip.pourCore
  rw [if_pos hfield]
  extract_lets _ moved refilled c0 c2 c4 c5 c6 c7 c12 _ due
  have hpool : c4.work = c2.work ∧ c4.shadow = c2.shadow := by
    unfold c4
    split
    · exact Chip.poolServe_planes c2 32
    · exact ⟨rfl, rfl⟩
  have hdue : due.work = c12.work ∧ due.shadow = c12.shadow := by
    unfold due
    split <;> exact ⟨rfl, rfl⟩
  have hbefore : c2 = refilled := (skip h2 _ _).trans (skip h0 _ _)
  have hafter : c12 = c4 := (skip h12 _ _).trans ((skip h7 _ _).trans ((skip h6 _ _).trans (skip h5 _ _)))
  constructor
  · exact hdue.1.trans ((congrArg Chip.work hafter).trans (hpool.1.trans (congrArg Chip.work hbefore)))
  · exact hdue.2.trans ((congrArg Chip.shadow hafter).trans (hpool.2.trans ((congrArg Chip.shadow hbefore).trans rfl)))

end Sys2Proof.Machine

namespace Sys2Proof.Proofs
open Sys2Proof.Machine

/-- Settles O27: each clause is one branch of its command. -/
theorem pourCommandResults : Obligations.PourCommandResults := by
  unfold Obligations.PourCommandResults
  intro r mask v g s c m lead st n first target
  refine ⟨fun ht => ⟨fun h => ?_, fun h => ?_⟩, fun ht => ⟨fun h => ?_, fun h => ?_⟩, fun ht => ⟨fun h => ?_, fun h => ?_⟩, ?_, ?_, ?_, ?_, ?_⟩
  · obtain ⟨harmed, hrefill, hbad⟩ := h
    refine gives_of_takes rfl ht (if_neg ?_)
    rintro (h | h | h)
    · exact h harmed
    · exact h hrefill
    · exact Bool.false_ne_true (hbad.symm.trans h)
  · exact gives_of_takes rfl ht (if_pos h)
  · obtain ⟨harmed, hrefill⟩ := h
    refine gives_of_takes rfl ht (if_neg ?_)
    rintro (h | h)
    · exact h harmed
    · exact h hrefill
  · exact gives_of_takes rfl ht (if_pos h)
  · obtain ⟨hhead, h1, h2, hlead⟩ := h
    refine gives_of_takes rfl ht (if_neg ?_)
    rintro (h | h | h | h)
    · rw [hhead] at h; exact Bool.false_ne_true h
    · exact h1 h
    · exact h2 h
    · exact absurd h (Nat.not_lt.2 hlead)
  · refine gives_of_takes rfl ht (if_pos ?_)
    rcases h with h | h
    · exact Or.inl (by rw [h]; rfl)
    · exact Or.inr h
  · exact gives_of_run (f := fun s => s.refillDone g.val) rfl rfl
  · intro hup hon hacc hcyc
    have htime : c.get Reg.CLK_CYC_NUM = c.get Reg.SYS_ARM_CYC := hcyc
    exact gives_of_run (f := fun s => s.armedPour) rfl (if_pos (by simp [c, hup, hon, hacc, htime]))
  · intro h
    refine gives_of_run (f := fun s => s.armedPour) rfl (if_neg ?_)
    simp only [Bool.and_eq_true, beq_iff_eq]
    rintro ⟨⟨⟨hup, hon⟩, hacc⟩, hcyc⟩
    rcases h with h | h | h | h
    · exact Bool.false_ne_true (h.symm.trans hup)
    · exact Bool.false_ne_true (h.symm.trans hon)
    · exact Bool.false_ne_true (h.symm.trans hacc)
    · exact h hcyc
  · intro hup hon hlate hmissed
    refine gives_of_run (f := fun s => s.pourLapse) rfl ((if_pos ?_).trans ?_)
    · have hmiss : (c.arm.accepted && c.get Reg.CLK_CYC_NUM == c.get Reg.SYS_ARM_CYC) = false := by
        rw [Bool.and_eq_false_iff, beq_eq_false_iff_ne]
        exact hmissed
      have hlate : later (c.get Reg.SYS_ARM_CYC) (c.get Reg.CLK_CYC_NUM) = false := hlate
      show (c.coreUp && c.arm.on && !later (c.get Reg.SYS_ARM_CYC) (c.get Reg.CLK_CYC_NUM) &&
        !(c.arm.accepted && c.get Reg.CLK_CYC_NUM == c.get Reg.SYS_ARM_CYC)) = true
      rw [hup, hon, hlate, hmiss]
      rfl
    · exact congrArg (fun t : Chip => (t.inc Reg.SYS_LAPSE_CNT).fire 40 0) (if_pos hon)
  · intro h
    refine gives_of_run (f := fun s => s.pourLapse) rfl (if_neg ?_)
    simp only [Bool.and_eq_true, Bool.not_eq_true', Bool.and_eq_false_iff, beq_eq_false_iff_ne]
    rintro ⟨⟨⟨hup, hon⟩, hlate⟩, hmissed⟩
    rcases h with h | h | h | ⟨hacc, hcyc⟩
    · exact Bool.false_ne_true (h.symm.trans hup)
    · exact Bool.false_ne_true (h.symm.trans hon)
    · exact Bool.false_ne_true (hlate.symm.trans h)
    · rcases hmissed with hmissed | hmissed
      · exact Bool.false_ne_true (hmissed.symm.trans hacc)
      · exact hmissed hcyc

/-- Settles O28: a pour overlays the working values with the shadows of its groups, a withdraw the shadows with the working values. -/
theorem pourCopiesShadowsOfItsGroups : Obligations.PourCopiesShadowsOfItsGroups := by
  unfold Obligations.PourCopiesShadowsOfItsGroups
  intro s mask f hwork hshadow
  refine ⟨fun hmask => ?_, fun hmask => ?_⟩
  · obtain ⟨hw, hs⟩ := s.pour_planes hmask
    constructor
    · rw [Chip.wk, hw]
      exact SMap.get_overlay hshadow s.work f.reset f.key
    · rw [Chip.sh, hs, Chip.sh]
  · have hclear : bit mask 2 = false := bit_of_land_eq_zero hmask (by decide)
    have hfield : mask &&& fieldGroups = 0 := land_eq_zero_of_land hmask (by decide)
    have hun : s.unshadow mask =
        ({ s with shadow := SMap.overlay (pourKey mask) s.work s.shadow } : Chip).put Reg.SYS_REFILL (s.get Reg.SYS_REFILL ||| (mask &&& tableGroups)) := by
      unfold Chip.unshadow
      rw [hclear, if_neg Bool.false_ne_true, if_pos hfield]
      rfl
    rw [hun]
    refine ⟨SMap.get_overlay hwork s.shadow f.reset f.key, rfl, ?_⟩
    exact Chip.get_put_same _ Reg.SYS_REFILL _

end Sys2Proof.Proofs
end

section
/-! PROOF. O29: frames, loss, retrain and resumption of the seam. -/

namespace Sys2Proof.Machine

/-! Conditions of the model's branches, from what is known of their parts. -/

/-- Equivalent conditions choose alike. -/
theorem ite_of_iff {α : Type} {p q : Prop} [Decidable p] [Decidable q] {x y : α} (h : p ↔ q) : (if p then x else y) = if q then x else y :=
  ite_congr (propext h) (fun _ => rfl) (fun _ => rfl)

/-- A choice by two conditions, one after the other. -/
theorem ite_and_nested {α : Type} {p q : Prop} [Decidable p] [Decidable q] {x y : α} :
    (if p ∧ q then x else y) = if p then (if q then x else y) else y := by
  by_cases hp : p
  · rw [if_pos hp]
    exact ite_of_iff ⟨And.right, And.intro hp⟩
  · rw [if_neg hp, if_neg fun h => hp h.1]

theorem not_bnot {b : Bool} (h : b = true) : ¬ (!b) = true := by rw [h]; decide

theorem bnot {b : Bool} (h : b = false) : (!b) = true := by rw [h]; rfl

theorem not_or {a b : Bool} (ha : ¬ a = true) (hb : ¬ b = true) : ¬ (a || b) = true := fun h => (Bool.or_eq_true_iff.1 h).elim ha hb

theorem or_inl {a : Bool} (h : a = true) (b : Bool) : (a || b) = true := by rw [h]; rfl

theorem or_inr (a : Bool) {b : Bool} (h : b = true) : (a || b) = true := by rw [h, Bool.or_true]

theorem and_intro {a b : Bool} (ha : a = true) (hb : b = true) : (a && b) = true := by rw [ha, hb]; rfl

theorem not_and_left {a : Bool} (h : ¬ a = true) (b : Bool) : ¬ (a && b) = true := fun hab => h (Bool.and_eq_true_iff.1 hab).1

theorem not_and_right (a : Bool) {b : Bool} (h : ¬ b = true) : ¬ (a && b) = true := fun hab => h (Bool.and_eq_true_iff.1 hab).2

/-! The seam's own steps. -/

theorem Chip.beacon_coreUp (s : Chip) : s.beacon.coreUp = s.coreUp := rfl

theorem Chip.lossReported_of_none {s : Chip} (h : s.seam.lossReport = false) : s.lossReported = s := if_neg (ne_true_of_eq_false h)

theorem Chip.lossReported_of_report {s : Chip} (h : s.seam.lossReport = true) :
    s.lossReported = (({ s with seam := { s.seam with lossReport := false } }).inc Reg.SEAM_LOSS_CNT).lossLearn := if_pos h

theorem Chip.lossLearn_of_known {s : Chip} (h : s.seam.lossKnown = true) : s.lossLearn = s := if_pos h

theorem Chip.lossLearn_of_unknown {s : Chip} (h : s.seam.lossKnown = false) :
    s.lossLearn = ({ s with seam := { s.seam with lossKnown := true } }).alm 4 := if_neg (ne_true_of_eq_false h)

/-- The field die takes the items of a good frame (R17, R21). -/
def Chip.fieldGets (s : Chip) (items : List SeamItem) : Chip :=
  ((({ s with seam := { s.seam with fieldRx := s.coreUp, everRx := true, lost := false } }).seamShow).each items
    (fun s i => s.deliver i)).fieldSettle

section Frames
variable {c : Chip} (hup : c.coreUp = true) (hfield : c.fieldUp = true) (hbusy : c.flag Reg.SEAM_STATUS_RETRAIN_BUSY = false)
include hup hfield hbusy

theorem Chip.fieldFrame_of_ok {items : List SeamItem} {rest : List (List SeamItem)} (hsent : c.seam.sent = items :: rest) :
    let taken := { c with seam := { c.seam with flight := [], sent := rest } }
    let got := ({ taken.beacon with seam := { taken.beacon.seam with fieldRx := true, everRx := true, lost := false } }).seamShow
    c.fieldFrame true = (got.each (c.seam.flight ++ items) (fun t i => t.deliver i)).fieldSettle := by
  intro taken got
  have hcond : ¬ (!c.fieldUp || c.flag Reg.SEAM_STATUS_RETRAIN_BUSY || (!c.coreUp && c.seam.sent.isEmpty)) = true :=
    not_or (not_or (not_bnot hfield) (ne_true_of_eq_false hbusy)) (not_and_left (not_bnot hup) _)
  unfold Chip.fieldFrame
  rw [if_neg hcond, hsent]
  have hgets : taken.beacon.fieldGets (c.seam.flight ++ items) = (got.each (c.seam.flight ++ items) (fun t i => t.deliver i)).fieldSettle := by
    have hb : taken.beacon.coreUp = true := hup
    unfold Chip.fieldGets
    rw [hb]
  exact (if_neg (by decide)).trans ((congrArg (Chip.fieldGets · (c.seam.flight ++ items)) (if_pos hup)).trans hgets)

theorem Chip.fieldFrame_of_bad {items : List SeamItem} {rest : List (List SeamItem)} (hsent : c.seam.sent = items :: rest) :
    c.fieldFrame false = ({ c with seam := { c.seam with flight := [], sent := rest } } : Chip).inc Reg.SEAM_CRC_CNT := by
  have hcond : ¬ (!c.fieldUp || c.flag Reg.SEAM_STATUS_RETRAIN_BUSY || (!c.coreUp && c.seam.sent.isEmpty)) = true :=
    not_or (not_or (not_bnot hfield) (ne_true_of_eq_false hbusy)) (not_and_left (not_bnot hup) _)
  unfold Chip.fieldFrame
  rw [if_neg hcond, hsent]
  exact if_pos rfl

theorem Chip.coreFrame_of_bad : c.coreFrame false = ({ c with copySet := none } : Chip).inc Reg.SEAM_CRC_CNT := by
  have hcond : ¬ (!c.coreUp || !c.fieldUp || c.flag Reg.SEAM_STATUS_RETRAIN_BUSY) = true :=
    not_or (not_or (not_bnot hup) (not_bnot hfield)) (ne_true_of_eq_false hbusy)
  exact (if_neg hcond).trans (if_pos rfl)

/-- A good frame at the core die, with no report of a loss before it, and no copy set with it. -/
theorem Chip.coreFrame_of_ok (hreport : c.seam.lossReport = false) (hset : c.copySet = none) :
    c.coreFrame true = (({ c with seam := { c.seam with coreRx := true } } : Chip).seamShow).measRelease := by
  have hcond : ¬ (!c.coreUp || !c.fieldUp || c.flag Reg.SEAM_STATUS_RETRAIN_BUSY) = true :=
    not_or (not_or (not_bnot hup) (not_bnot hfield)) (ne_true_of_eq_false hbusy)
  have hlearn : (({ c with seam := { c.seam with coreRx := true } } : Chip).seamShow).lossReported = _ := Chip.lossReported_of_none hreport
  have hset' : (({ c with seam := { c.seam with coreRx := true } } : Chip).seamShow).copySet = none := hset
  unfold Chip.coreFrame
  rw [if_neg hcond, if_neg (by decide), hlearn]
  dsimp only
  rw [hset']

/-- A good frame that completes a copy set. -/
theorem Chip.coreFrame_of_set (hreport : c.seam.lossReport = false) {x : SMap Nat} (hset : c.copySet = some x) :
    let t := ({ c with seam := { c.seam with coreRx := true } } : Chip).seamShow
    c.coreFrame true = ((({ t with regs := SMap.overlay (fun k => codeOfKey k == some Code.roC) x t.regs, copySet := none } : Chip).put
      Reg.CLK_STATUS_COPY_STALE 0)).measRelease := by
  have hcond : ¬ (!c.coreUp || !c.fieldUp || c.flag Reg.SEAM_STATUS_RETRAIN_BUSY) = true :=
    not_or (not_or (not_bnot hup) (not_bnot hfield)) (ne_true_of_eq_false hbusy)
  have hlearn : (({ c with seam := { c.seam with coreRx := true } } : Chip).seamShow).lossReported = _ := Chip.lossReported_of_none hreport
  have hset' : (({ c with seam := { c.seam with coreRx := true } } : Chip).seamShow).copySet = some x := hset
  unfold Chip.coreFrame
  rw [if_neg hcond, if_neg (by decide), hlearn]
  dsimp only
  rw [hset']

end Frames

/-- While the seam retrains no frame arrives (R24). -/
theorem Chip.coreFrame_of_busy {c : Chip} (hbusy : c.flag Reg.SEAM_STATUS_RETRAIN_BUSY = true) (ok : Bool) : c.coreFrame ok = c :=
  if_pos (or_inr _ hbusy)

theorem Chip.fieldFrame_of_busy {c : Chip} (hbusy : c.flag Reg.SEAM_STATUS_RETRAIN_BUSY = true) (ok : Bool) : c.fieldFrame ok = c :=
  if_pos (or_inl (or_inr _ hbusy) _)

/-- A core die that learns of a loss by silence (R514). -/
theorem Chip.seamLossKnown_of_silence {c : Chip} (hup : c.coreUp = true)
    (h : c.seam.lossReport = false ∨ c.seam.coreRx = false ∨ c.seam.lossKnown = true) :
    c.seamLossKnown = ((({ c with seam := { c.seam with coreRx := false } } : Chip).seamShow).put Reg.CLK_STATUS_COPY_STALE 1).lossLearn := by
  have heither : (c.seam.lossReport && c.seam.coreRx && !c.seam.lossKnown) = false := by
    rcases h with h | h | h <;> simp [h]
  unfold Chip.seamLossKnown
  rw [if_neg (not_bnot hup), heither]
  rfl

/-- While a report waits and frames come, either tells it. -/
theorem Chip.seamLossKnown_of_either {c : Chip} (hup : c.coreUp = true) (hreport : c.seam.lossReport = true) (hrx : c.seam.coreRx = true)
    (hk : c.seam.lossKnown = false) :
    c.seamLossKnown = (({ c.drew with seam := { c.drew.seam with lossReport := false } } : Chip).inc Reg.SEAM_LOSS_CNT).lossLearn ∨
    c.seamLossKnown =
      ((({ c.drew with seam := { c.drew.seam with coreRx := false } } : Chip).seamShow).put Reg.CLK_STATUS_COPY_STALE 1).lossLearn := by
  have heither : (c.seam.lossReport && c.seam.coreRx && !c.seam.lossKnown) = true := by simp [hreport, hrx, hk]
  unfold Chip.seamLossKnown
  rw [if_neg (not_bnot hup), heither]
  by_cases hdraw : (true && c.free % 2 == 1) = true
  · exact .inl ((if_pos hdraw).trans (Chip.lossReported_of_report hreport))
  · exact .inr (if_neg hdraw)

/-- With no marks and nothing newly lost, a seam that is UP again has the warden's words sent afresh (R291). -/
theorem Chip.seamResume_of_afresh {c : Chip} (hup : c.coreUp = true) (hseam : c.seamUp = true) (hmarks : c.seam.marks = 0)
    (hfresh : c.warden.afresh = true) (hknown : c.seam.lossKnown = false) (hreport : c.seam.lossReport = false) :
    c.seamResume = ({ c with warden := { c.warden with afresh := false } } : Chip).laneSend true := by
  have hcond : ¬ (!c.coreUp || !c.seamUp || !(c.seam.lossKnown || c.warden.afresh)) = true :=
    not_or (not_or (not_bnot hup) (not_bnot hseam)) (not_bnot (or_inr _ hfresh))
  have hnone : fieldFlasks.filter (fun f => bit c.seam.marks f) = [] := by rw [hmarks]; decide
  unfold Chip.seamResume
  rw [if_neg hcond, Chip.lossReported_of_none hreport]
  extract_lets s0 before marked fresh s1 mine seam warden s4 loss s5
  have hmarked : marked = [] := hnone
  have hfresh : fresh = [] := by unfold fresh; rw [hmarked]; rfl
  have h1 : s1 = c := by unfold s1; rw [hmarked]; rfl
  have hmine : mine = [] := by unfold mine; rw [hfresh]; exact List.filter_eq_nil_iff.2 (by simp)
  have hlines : s1.warden.lines.filter (fun l => !(fresh.contains l.flask && l.cause == 7)) = c.warden.lines := by
    rw [hfresh, h1]
    exact List.filter_eq_self.2 (by simp)
  have hlearned : ({ c.seam with lossKnown := false } : Seam) = c.seam := by rw [← hknown]
  have h4 : s4 = { c with warden := { c.warden with afresh := false } } := by
    unfold s4 seam warden
    rw [hlines, h1, hlearned]
  have h5 : s5 = s4 := by unfold s5; rw [hmine]; rfl
  have hloss : ¬ loss = true := by
    unfold loss
    rw [hmarked]
    exact not_or (ne_true_of_eq_false hknown) (by decide)
  rw [if_neg hloss, h5, h4]

end Sys2Proof.Machine

namespace Sys2Proof.Proofs
open Sys2Proof.Machine

/-- Settles O29: each clause is one branch of its command. -/
theorem seamLinkResults : Obligations.SeamLinkResults := by
  unfold Obligations.SeamLinkResults
  intro r v items rest s c busy taken got dead quiet d counted hushed hush retrained
  refine ⟨?frames, ?core, ?retraining, ?keepalive, ?silent, ?loss, ?lost, ?known, ?either, ?down, ?resume, ?stays, ?go, ?done, ?notBusy, ?capture, ?pll,
    ?noPll, ?freq⟩
  case frames =>
    intro hup hfield hbusy hsent
    constructor
    · exact gives_of_run (f := fun s => s.fieldFrame true) rfl (Chip.fieldFrame_of_ok hup hfield hbusy hsent)
    · exact gives_of_run (f := fun s => s.fieldFrame false) rfl (Chip.fieldFrame_of_bad hup hfield hbusy hsent)
  case core =>
    intro hup hfield hbusy
    refine ⟨gives_of_run (f := fun s => s.coreFrame false) rfl (Chip.coreFrame_of_bad hup hfield hbusy), fun hreport => ?_⟩
    intro t
    exact ⟨fun hset => gives_of_run (f := fun s => s.coreFrame true) rfl (Chip.coreFrame_of_ok hup hfield hbusy hreport hset),
      fun x hset => gives_of_run (f := fun s => s.coreFrame true) rfl (Chip.coreFrame_of_set hup hfield hbusy hreport hset)⟩
  case retraining =>
    intro hbusy die ok
    cases die with
    | core => exact gives_of_run (f := fun s => s.coreFrame ok) rfl (Chip.coreFrame_of_busy hbusy ok)
    | field => exact gives_of_run (f := fun s => s.fieldFrame ok) rfl (Chip.fieldFrame_of_busy hbusy ok)
  case keepalive =>
    exact fun hup hbusy => gives_of_run (f := Chip.seamKeepalive) rfl (if_neg (not_or (not_bnot hup) (ne_true_of_eq_false hbusy)))
  case silent =>
    exact fun h => gives_of_run (f := Chip.seamKeepalive) rfl (if_pos (h.elim (fun h => or_inl (bnot h) _) (fun h => or_inr _ h)))
  case loss =>
    intro hfield hever hlost
    exact gives_of_run (f := Chip.seamLoss) rfl (if_neg (not_or (not_or (not_bnot hfield) (not_bnot hever)) (ne_true_of_eq_false hlost)))
  case lost => exact fun hlost => gives_of_run (f := Chip.seamLoss) rfl (if_pos (or_inr _ hlost))
  case known =>
    intro hup hone
    have hlearn : c.seamLossKnown = quiet.lossLearn := Chip.seamLossKnown_of_silence hup (hone.elim .inl (.inr ∘ .inl))
    exact ⟨fun hk => gives_of_run (f := Chip.seamLossKnown) rfl (hlearn.trans (Chip.lossLearn_of_unknown hk)),
      fun hk => gives_of_run (f := Chip.seamLossKnown) rfl (hlearn.trans (Chip.lossLearn_of_known hk))⟩
  case either =>
    intro hup hreport hrx hk
    rcases Chip.seamLossKnown_of_either hup hreport hrx hk with h | h
    · exact .inl (gives_of_run (f := Chip.seamLossKnown) rfl (h.trans (Chip.lossLearn_of_unknown hk)))
    · exact .inr (gives_of_run (f := Chip.seamLossKnown) rfl (h.trans (Chip.lossLearn_of_unknown hk)))
  case down => exact fun hup => gives_of_run (f := Chip.seamLossKnown) rfl (if_pos (bnot hup))
  case resume =>
    intro hup hseam hmarks hfresh hknown hreport
    exact gives_of_run (f := Chip.seamResume) rfl (Chip.seamResume_of_afresh hup hseam hmarks hfresh hknown hreport)
  case stays =>
    intro h
    refine gives_of_run (f := Chip.seamResume) rfl (if_pos ?_)
    rcases h with h | ⟨hknown, hfresh⟩
    · exact or_inl (or_inr _ (bnot h)) _
    · exact or_inr _ (bnot (Bool.or_eq_false_iff.2 ⟨hknown, hfresh⟩))
  case go =>
    exact fun ht => ⟨fun hb => gives_of_takes rfl ht (if_neg (ne_true_of_eq_false hb)), fun hb => gives_of_takes rfl ht (if_pos hb)⟩
  case done =>
    intro hup hfield hbusy hreport
    refine gives_of_run (f := Chip.retrainDone) rfl ((if_pos (and_intro (and_intro hup hfield) hbusy)).trans ?_)
    exact congrArg (fun t : Chip => t.beacon.measRelease) (Chip.lossReported_of_none hreport)
  case notBusy => exact fun hb => gives_of_run (f := Chip.retrainDone) rfl (if_neg (not_and_right _ (ne_true_of_eq_false hb)))
  case capture => exact fun hfield => gives_of_run (f := Chip.copyCapture) rfl (if_neg (not_bnot hfield))
  case pll => exact fun hup hpll => gives_of_run (f := Chip.pllLoss) rfl (if_pos (and_intro hup hpll))
  case noPll => exact fun hpll => gives_of_run (f := Chip.pllLoss) rfl (if_neg (not_and_right _ (ne_true_of_eq_false hpll)))
  case freq =>
    intro hup
    constructor
    · exact fun hlock => gives_of_run (f := fun s => s.freqMeasure v.toNat) rfl
        ((if_neg (not_bnot hup)).trans (congrArg (c.put Reg.CLK_FREQ) (if_pos hlock)))
    · exact fun hlock => gives_of_run (f := fun s => s.freqMeasure v.toNat) rfl
        ((if_neg (not_bnot hup)).trans (congrArg (c.put Reg.CLK_FREQ) (if_neg (ne_true_of_eq_false hlock))))

end Sys2Proof.Proofs
end

section
/-! PROOF. O30: marks, SOF loss, the apply instant and a field-die pour. -/

namespace Sys2Proof.Machine

theorem Chip.enterHoldover_of_locked {s : Chip} (h : s.get Reg.CLK_STATUS_SYNC = 2) :
    s.enterHoldover = (s.put Reg.CLK_STATUS_SYNC 3).fire 37 (detail 0 3) := if_pos h

theorem Chip.acquireMiss_of_acquire {s : Chip} (h : s.get Reg.CLK_STATUS_SYNC = 1) :
    s.acquireMiss = { s with clk := { s.clk with missed := s.clk.missed + 1, markNs := s.predicted, headNs := s.clk.headNs + s.period } } := if_pos h

/-- A member in HOLDOVER makes its own mark (R45). -/
theorem Chip.ownMark_of_holdover {s : Chip} (hup : s.coreUp = true) (hhead : s.isHead = false) (htaking : s.chain.taking = false)
    (hsync : s.get Reg.CLK_STATUS_SYNC = 3) :
    let t := { s with clk := { s.clk with missed := s.clk.missed + 1, markNs := s.predicted, headNs := s.clk.headNs + s.period } }
    s.ownMark = ((t.put Reg.CLK_CYC_NUM (t.get Reg.CLK_CYC_NUM + 1)).inc Reg.CLK_MISS_CNT).mark :=
  if_neg (not_or (not_or (not_or (not_bnot hup) (ne_true_of_eq_false hhead)) (ne_true_of_eq_false htaking))
    (ne_true_of_eq_false (decide_eq_false (not_not_intro hsync))))

section CycSend
variable {s own : Chip} (hsends : s.sends = true) (hmark : s.retClose.sendMark = own)
include hsends hmark

/-- At the mark of an agreed sleep SLP goes out, and no frames (05_gleshline_link.md R116). -/
theorem Chip.cycSend_of_sleep (hd : (own.sleepDecide (own.get Reg.CLK_CYC_NUM)).1 = true) :
    s.cycSend = (own.sleepDecide (own.get Reg.CLK_CYC_NUM)).2.slpLeaves.sofStep.mark := by
  subst hmark
  exact (if_neg (not_bnot hsends)).trans ((if_pos hd).trans (congrArg (fun t : Chip => t.sofStep.mark) (if_pos hd)))

theorem Chip.cycSend_of_awake (hd : (own.sleepDecide (own.get Reg.CLK_CYC_NUM)).1 = false) :
    s.cycSend = (own.sleepDecide (own.get Reg.CLK_CYC_NUM)).2.cycLeaves.sofStep.mark.buildFrames (own.get Reg.CLK_CYC_NUM) := by
  subst hmark
  exact (if_neg (not_bnot hsends)).trans ((if_neg (ne_true_of_eq_false hd)).trans
    (congrArg (fun t : Chip => t.sofStep.mark.buildFrames _) (if_neg (ne_true_of_eq_false hd))))

end CycSend

end Sys2Proof.Machine

namespace Sys2Proof.Proofs
open Sys2Proof.Machine

/-- Settles O30: each clause is one branch of its command. -/
theorem clockCommandResults : Obligations.ClockCommandResults := by
  unfold Obligations.ClockCommandResults
  intro s c sync cleared start first begun late
  refine ⟨?send, ?sendNot, ?member, ?usb, ?usbNot, ?apply, ?applyNot, ?pour, ?pourNot⟩
  case send =>
    intro hsends own n d
    have hmark : cleared.sendMark = own := by
      unfold own Chip.sendMark
      by_cases htaking : cleared.chain.taking = true
      · exact (if_pos htaking).trans (if_pos htaking).symm
      · refine (if_neg htaking).trans ((?_ : _ = _).trans (if_neg htaking).symm)
        by_cases hfirst : cleared.get Reg.CHAIN_STAT_ROLE = 1 ∧ cleared.clk.sentCyc = false
        · exact (if_pos ⟨hfirst.1, bnot hfirst.2⟩).trans (if_pos hfirst).symm
        · exact (if_neg (fun h => hfirst ⟨h.1, by simpa using h.2⟩)).trans (if_neg hfirst).symm
    constructor
    · exact fun hd => gives_of_run (f := Chip.cycSend) rfl (Chip.cycSend_of_sleep hsends hmark hd)
    · exact fun hd => gives_of_run (f := Chip.cycSend) rfl (Chip.cycSend_of_awake hsends hmark hd)
  case sendNot => exact fun hs => gives_of_run (f := Chip.cycSend) rfl (if_pos (bnot hs))
  case member =>
    intro hup hhead
    have hmember : ¬ (!c.coreUp || c.isHead) = true := not_or (not_bnot hup) (ne_true_of_eq_false hhead)
    refine ⟨fun h2 hlate => ?_, fun h1 hlate => ?_, fun h1 h2 => ?_, ?_, fun h => ?_⟩
    · exact gives_of_run (f := Chip.holdoverEntry) rfl ((if_neg hmember).trans ((if_pos h2).trans (Chip.enterHoldover_of_locked hlate)))
    · have h2 : ¬ c.get Reg.CLK_STATUS_SYNC = 2 := by show ¬ sync = 2; omega
      exact gives_of_run (f := Chip.holdoverEntry) rfl
        ((if_neg hmember).trans ((if_neg h2).trans ((if_pos h1).trans (Chip.acquireMiss_of_acquire hlate))))
    · exact gives_of_run (f := Chip.holdoverEntry) rfl ((if_neg hmember).trans ((if_neg h2).trans (if_neg h1)))
    · intro h3 htaking lup lhead lsync ltaking t
      have hmine : ¬ (!c.coreUp || c.isHead || c.chain.taking || decide (c.get Reg.CLK_STATUS_SYNC ≠ 3)) = true :=
        not_or (not_or hmember (ne_true_of_eq_false htaking)) (ne_true_of_eq_false (decide_eq_false (not_not_intro h3)))
      exact gives_of_run (f := Chip.localMark) rfl ((if_neg hmine).trans (Chip.ownMark_of_holdover lup lhead ltaking lsync))
    · refine gives_of_run (f := Chip.localMark) rfl (if_pos ?_)
      rcases h with h | h
      · exact or_inr _ (decide_eq_true h)
      · exact or_inl (or_inr _ h) _
  case usb =>
    intro hup hlock
    refine gives_of_run (f := Chip.usbLockLoss) rfl ((if_pos hup).trans (if_neg ?_))
    rw [hlock]
    decide
  case usbNot =>
    intro hlock
    by_cases hup : c.coreUp = true
    · refine gives_of_run (f := Chip.usbLockLoss) rfl ((if_pos hup).trans (if_pos ?_))
      rw [hlock]
      rfl
    · exact gives_of_run (f := Chip.usbLockLoss) rfl (if_neg hup)
  case apply =>
    intro hfield hmarked hsteered
    exact gives_of_run (f := Chip.applyInstant) rfl (if_neg (not_or (not_or (not_bnot hfield) (not_bnot hmarked)) (not_bnot hsteered)))
  case applyNot =>
    intro h
    refine gives_of_run (f := Chip.applyInstant) rfl (if_pos ?_)
    rcases h with h | h
    · exact or_inl (or_inr _ (bnot h)) _
    · exact or_inr _ (bnot h)
  case pour => exact fun hfield hp => gives_of_run (f := Chip.fieldPourApply) rfl (if_pos ⟨hfield, hp⟩)
  case pourNot => exact fun hp => gives_of_run (f := Chip.fieldPourApply) rfl (if_neg (fun h => h.2 hp))

end Sys2Proof.Proofs
end

section
/-! PROOF. O31 and O32: what a CYC does at a port, and the synchronisation of a member. -/

namespace Sys2Proof.Machine

/-- Does a CYC at port q say what this node itself sent last? -/
def Chip.ownCyc (c : Chip) (body : List (BitVec 8)) : Bool :=
  c.clk.sentCyc && leNat (body.take 8) == c.clk.markNs && leNat ((body.drop 8).take 4) == c.get Reg.CLK_CYC_NUM

/-- Does a CYC at port q reach the node at all (R163)? -/
def Chip.hearsCyc (c : Chip) (q : Nat) : Prop :=
  ¬ (!c.coreUp || !c.linkActive q || (bit c.chain.join q && !(c.get Reg.CHAIN_STAT_ROLE == 1 && (c.gl q).rank == 0))) = true

section Cyc
variable {c : Chip} {q : Nat} {body : List (BitVec 8)} (hhears : c.hearsCyc q) (hgood : bodyOk 16 body = true)
include hhears hgood

/-- A good CYC at a member. -/
theorem Chip.cycReceive_member (h1 : c.get Reg.CHAIN_STAT_ROLE ≠ 1) (h3 : c.get Reg.CHAIN_STAT_ROLE ≠ 3) :
    c.cycReceive q body =
      if (!c.flag Reg.CLK_STATUS_EN) = true then ((c.firstCyc q).acceptCyc body).chainShow
      else if (c.headPort == some q) = true then c.acceptCyc body
      else if 3 ≤ c.clk.missed then ((c.roleSwap q).acceptCyc body).chainShow else c := by
  unfold Chip.cycReceive
  rw [if_neg hhears, if_neg (not_bnot hgood), if_neg h1, if_neg h3]

/-- A good CYC at an acting reserve that has not handed back, or one that it sent itself (R172). -/
theorem Chip.cycReceive_reserve (h3 : c.get Reg.CHAIN_STAT_ROLE = 3) (h : (!c.chain.handed) = true ∨ c.ownCyc body = true) :
    c.cycReceive q body = c := by
  have h1 : ¬ c.get Reg.CHAIN_STAT_ROLE = 1 := by omega
  unfold Chip.cycReceive
  rw [if_neg hhears, if_neg (not_bnot hgood), if_neg h1, if_pos h3]
  exact if_pos h

section Head
variable (h1 : c.get Reg.CHAIN_STAT_ROLE = 1)
include h1

/-- A head that has sent no CYC yields to the first it hears (R12). -/
theorem Chip.cycReceive_unsent (hsent : c.clk.sentCyc = false) : c.cycReceive q body = c.yield_ q body := by
  unfold Chip.cycReceive
  rw [if_neg hhears, if_neg (not_bnot hgood), if_pos h1]
  exact if_pos (bnot hsent)

theorem Chip.cycReceive_own (hsent : c.clk.sentCyc = true) (hown : c.ownCyc body = true) : c.cycReceive q body = c := by
  unfold Chip.cycReceive
  rw [if_neg hhears, if_neg (not_bnot hgood), if_pos h1, if_neg (not_bnot hsent)]
  exact if_pos hown

/-- Of two heads that face each other the one of the lower UID keeps its place (R13). -/
theorem Chip.cycReceive_facing (hsent : c.clk.sentCyc = true) (hown : c.ownCyc body = false) (hface : (c.gl q).rank = 0) :
    c.cycReceive q body = if c.outranks q = true then c else c.yield_ q body := by
  unfold Chip.cycReceive
  rw [if_neg hhears, if_neg (not_bnot hgood), if_pos h1, if_neg (not_bnot hsent)]
  refine (if_neg (ne_true_of_eq_false hown)).trans ?_
  rw [if_pos hface]

end Head
end Cyc

theorem Chip.outranks_of_facing {c : Chip} {q : Nat} (hface : (c.gl q).rank = 0) :
    c.outranks q = decide (Sys2Proof.Config.uid.toNat < c.get (Reg.LINK_PARTNER_LO q) + 2 ^ 32 * c.get (Reg.LINK_PARTNER_HI q)) :=
  if_pos hface

/-- A CYC whose body fails its CRC-16 is counted and passed on, and is a missing mark on the headward port. -/
theorem Chip.cycReceive_bad {c : Chip} {q : Nat} {body : List (BitVec 8)} (hhears : c.hearsCyc q) (hbad : bodyOk 16 body = false) :
    c.cycReceive q body = if (c.headPort == some q) = true then ((c.inc (Reg.LINK_CYC_BAD_CNT q)).passCyc q body).badMark
      else (c.inc (Reg.LINK_CYC_BAD_CNT q)).passCyc q body := by
  unfold Chip.cycReceive
  rw [if_neg hhears, if_pos (bnot hbad)]

/-! Rules for the synchronisation state. -/

/-- An exit from IDLE leaves a field that is not of the power state, of an engine's state or of a watchdog (R215). -/
theorem Chip.idleExit_get_free {s : Chip} {f : Fld} (hf : ∀ e, Chip.idleLeaves e f) : s.idleExit.get f = s.get f := by
  have hleaves : ∀ j, f.key ≠ (Reg.ENG_STAT_IDLE_HELD j).key ∧ f.key ≠ (Reg.ENG_STAT_STATE j).key ∧
      f.key ≠ (Reg.ENG_STAT_EN j).key ∧ f.key ≠ (Reg.ENG_WDOG_LEFT j).key ∨ 32 ≤ j := by
    intro j
    by_cases hj : j < 32
    · exact .inl ((hf (j + 1)).2 j hj (by omega))
    · exact .inr (by omega)
  have hfold : ∀ (l : List Nat) (c : Chip), (∀ j ∈ l, j < 32) → (l.foldl (fun s j =>
      if s.flag (Reg.ENG_STAT_IDLE_HELD j) && s.get (Reg.ENG_STAT_STATE j) == 0 then
        ((((s.put (Reg.ENG_STAT_IDLE_HELD j) 0).put (Reg.ENG_STAT_STATE j) 1).put (Reg.ENG_STAT_EN j) 1).put
          (Reg.ENG_WDOG_LEFT j) (s.wk (Reg.ENG_WDOG j)))
      else s) c).get f = c.get f := by
    intro l
    induction l with
    | nil => exact fun _ _ => rfl
    | cons j l ih =>
      intro c hl
      obtain ⟨hidle, hstate, hen, hwdog⟩ := (hleaves j).resolve_right (Nat.not_le.2 (hl j List.mem_cons_self))
      rw [List.foldl_cons, ih _ fun k hk => hl k (List.mem_cons_of_mem j hk)]
      split
      · rw [Chip.get_put_of_key_ne _ _ hwdog, Chip.get_put_of_key_ne _ _ hen, Chip.get_put_of_key_ne _ _ hstate,
          Chip.get_put_of_key_ne _ _ hidle]
      · rfl
  unfold Chip.idleExit
  split
  · rw [hfold _ _ fun _ => List.mem_range.1, Chip.get_put_of_key_ne _ _ (hf 0).1]
  · rfl

/-- The exit from IDLE and the pending bits leave the chain clock. -/
theorem Chip.idleExit_clk (s : Chip) : s.idleExit.clk = s.clk ∧ s.idleExit.ct = s.ct := by
  unfold Chip.idleExit
  split
  · refine ⟨(Chip.foldl_leaves Chip.clk (fun c j => ?_) _ _).trans rfl, (Chip.foldl_leaves Chip.ct (fun c j => ?_) _ _).trans rfl⟩ <;>
      split <;> rfl
  · exact ⟨rfl, rfl⟩

theorem Chip.setPending_clk (s : Chip) (mask src : Nat) : (s.setPending mask src).clk = s.clk ∧ (s.setPending mask src).ct = s.ct := by
  unfold Chip.setPending
  split
  · exact ⟨rfl, rfl⟩
  · refine ⟨Chip.foldl_leaves Chip.clk (fun c j => ?_) _ _, Chip.foldl_leaves Chip.ct (fun c j => ?_) _ _⟩ <;>
      split <;> rfl

/-- An event leaves the chain clock. -/
theorem Chip.fire_clk (s : Chip) (src det : Nat) : (s.fire src det).clk = s.clk ∧ (s.fire src det).ct = s.ct := by
  unfold Chip.fire
  split
  · exact ⟨rfl, rfl⟩
  · extract_lets rt0 lim rt1 b c hub d now last supp limited evt
    have hb : b.clk = s.clk ∧ b.ct = s.ct := Chip.setPending_clk s rt0 src
    have hc : c.clk = s.clk ∧ c.ct = s.ct := by
      simp only [c]
      split
      · exact ⟨(Chip.idleExit_clk b).1.trans hb.1, (Chip.idleExit_clk b).2.trans hb.2⟩
      · exact hb
    have hd : d.clk = s.clk ∧ d.ct = s.ct := by
      simp only [d]
      split <;> exact hc
    split
    · exact hd
    · split <;> exact hd

/-- An event leaves such a field where it is none of its counts. -/
theorem Chip.fire_get_free {s : Chip} {src det : Nat} {f : Fld} (hf : ∀ e, Chip.idleLeaves e f) (hfire : f.key ≠ (Reg.EVT_FIRE_CNT src).key)
    (hlim : f.key ≠ Reg.EVT_LIM_CNT.key) : (s.fire src det).get f = s.get f := by
  cases hup : s.coreUp with
  | false => rw [Chip.fire_in_reset src det hup]
  | true =>
    obtain ⟨c, hc, hregs, -, -⟩ := Chip.fire_cases src det hup
    have hcounted : ((s.setPending (s.wk (Reg.EVT_ROUTE_ENG src)) src).inc (Reg.EVT_FIRE_CNT src)).get f = s.get f := by
      rw [Chip.inc_eq, Chip.get_put_of_key_ne _ _ hfire, Chip.get, Chip.setPending_regs, Chip.get]
    have hleft : c.get f = s.get f := by
      rcases hc with rfl | rfl
      · exact hcounted
      · exact (Chip.idleExit_get_free hf).trans hcounted
    rcases hregs with hregs | hregs
    · rw [Chip.get, hregs, ← Chip.get, hleft]
    · rw [Chip.get, hregs, ← Chip.get, Chip.inc_eq, Chip.get_put_of_key_ne _ _ hlim, hleft]

/-- An event of the clock leaves the synchronisation state. -/
theorem Chip.fire_sync (s : Chip) (src det : Nat) : (s.fire src det).get Reg.CLK_STATUS_SYNC = s.get Reg.CLK_STATUS_SYNC := by
  refine Chip.fire_get_free (fun e => ⟨by decide, fun j _ _ => ?_⟩) ?_ (by decide)
  · simp only [Reg.CLK_STATUS_SYNC, Reg.ENG_STAT_IDLE_HELD, Reg.ENG_STAT_STATE, Reg.ENG_STAT_EN, Reg.ENG_WDOG_LEFT]
    omega
  · simp only [Reg.CLK_STATUS_SYNC, Reg.EVT_FIRE_CNT]
    omega

/-- Entry to ACQUIRE starts the count of marks anew and leaves chain time. -/
theorem Chip.enterAcquire_reads (s : Chip) : s.enterAcquire.get Reg.CLK_STATUS_SYNC = 1 ∧ s.enterAcquire.clk.acqMarks = 0 ∧
    s.enterAcquire.clk.inWin = 0 ∧ s.enterAcquire.clk.stepped = false :=
  ⟨Chip.get_put_same _ _ _, rfl, rfl, rfl⟩

/-- The steering leaves the synchronisation state. -/
theorem Chip.steer_sync (s : Chip) (bound : Nat) : (s.steer bound).get Reg.CLK_STATUS_SYNC = s.get Reg.CLK_STATUS_SYNC :=
  Chip.get_put_of_key_ne _ _ (by decide)

/-- What a mark in ACQUIRE makes of the window's count: one more within 10 ns, else it starts again. -/
def Chip.windowAfter (s : Chip) (near : Bool) : Nat := if near then s.clk.inWin + 1 else 0

/-- ACQUIRE ends at the 16th mark in a row within 10 ns, and by the 96th mark in any case. -/
theorem Chip.acquireMark_locks {s : Chip} {target : Int} {near : Bool} (h : 16 ≤ s.windowAfter near ∨ 96 ≤ s.clk.acqMarks + 1) :
    (s.acquireMark target near).get Reg.CLK_STATUS_SYNC = 2 ∧ (s.acquireMark target near).ct = s.ct := by
  have heq : s.acquireMark target near = _ := if_pos h
  rw [heq]
  exact ⟨Chip.get_put_same _ _ _, rfl⟩

/-- Before that a mark within 10 ns, or one after the step, counts and steps nothing. -/
theorem Chip.acquireMark_counts {s : Chip} {target : Int} {near : Bool} (h : ¬ (16 ≤ s.windowAfter near ∨ 96 ≤ s.clk.acqMarks + 1))
    (hstay : near = true ∨ s.clk.stepped = true) :
    (s.acquireMark target near).get Reg.CLK_STATUS_SYNC = s.get Reg.CLK_STATUS_SYNC ∧
      (s.acquireMark target near).clk.inWin = s.windowAfter near ∧ (s.acquireMark target near).ct = s.ct := by
  have heq : s.acquireMark target near = _ := (if_neg h).trans (if_pos hstay)
  rw [heq]
  exact ⟨rfl, rfl, rfl⟩

/-- The first mark further off steps chain time to its own. -/
theorem Chip.acquireMark_steps {s : Chip} {target : Int} (h : ¬ 96 ≤ s.clk.acqMarks + 1) (hstepped : s.clk.stepped = false) :
    (s.acquireMark target false).get Reg.CLK_STATUS_SYNC = s.get Reg.CLK_STATUS_SYNC ∧ (s.acquireMark target false).clk.stepped = true ∧
      (s.acquireMark target false).clk.inWin = 0 ∧ (s.acquireMark target false).ct = BitVec.ofInt 64 (target / 1000) := by
  have hlate : ¬ (16 ≤ s.windowAfter false ∨ 96 ≤ s.clk.acqMarks + 1) := not_or_intro (by simp [Chip.windowAfter]) h
  have heq : s.acquireMark target false = _ := (if_neg hlate).trans (if_neg (not_or_intro Bool.false_ne_true (ne_true_of_eq_false hstepped)))
  rw [heq, Chip.fire_sync, (Chip.fire_clk _ _ _).1, (Chip.fire_clk _ _ _).2]
  exact ⟨(Chip.get_put_of_key_ne _ _ (by decide)).trans rfl, rfl, rfl, rfl⟩

/-- What the state at the mark makes of the synchronisation: entry to ACQUIRE, LOCKED out of HOLDOVER, or nothing. -/
def Chip.syncState (s : Chip) (near far : Bool) : Chip :=
  if s.get Reg.CLK_STATUS_SYNC = 0 then s.enterAcquire
  else if s.get Reg.CLK_STATUS_SYNC = 2 ∧ far then s.enterAcquire
  else if s.get Reg.CLK_STATUS_SYNC = 3 then (if near then s.put Reg.CLK_STATUS_SYNC 2 else s.enterAcquire) else s

/-- In ACQUIRE a mark counts; in every other state it shows the frequency good. -/
def Chip.syncCount (s : Chip) (target : Int) (near : Bool) : Chip :=
  if s.get Reg.CLK_STATUS_SYNC = 1 then s.acquireMark target near else { s with clk := { s.clk with freqOk := true } }

/-- PHASE_ERR of a mark. -/
def Chip.showPhase (s : Chip) (e : Int) : Chip := s.put Reg.CLK_PHASE_ERR (unsigned 16 (clampInt (-32767) 32767 (e.tdiv 1000)))

theorem Chip.showPhase_sync (s : Chip) (e : Int) : (s.showPhase e).get Reg.CLK_STATUS_SYNC = s.get Reg.CLK_STATUS_SYNC :=
  Chip.get_put_of_key_ne _ _ (by decide)

/-- The error of a mark against the member's own count, in ps. -/
def Chip.markError (s : Chip) (target : Int) : Int := target - ((s.ct.toNat : Int) * 1000 + (s.ctFrac.toNat : Int) * 1000 / 2 ^ 32)

/-- A valid mark is PHASE_ERR, the state's move, the count, and the steering, which leaves all that Table CLK-4 speaks of. -/
theorem Chip.syncMark_reads (s : Chip) (target : Int) :
    ∃ d : Chip, d = (((s.showPhase (s.markError target)).syncState (decide ((s.markError target).natAbs ≤ 10000))
        (decide (1000000 < (s.markError target).natAbs))).syncCount target (decide ((s.markError target).natAbs ≤ 10000))) ∧
      (s.syncMark target).get Reg.CLK_STATUS_SYNC = d.get Reg.CLK_STATUS_SYNC ∧ (s.syncMark target).clk = d.clk ∧
      (s.syncMark target).ct = d.ct :=
  ⟨_, rfl, Chip.steer_sync _ _, rfl, rfl⟩

end Sys2Proof.Machine

namespace Sys2Proof.Proofs
open Sys2Proof.Machine

/-- Settles O31: each clause is one branch of `Chip.cycReceive`. -/
theorem cycleMarkReceptionResults : Obligations.CycleMarkReceptionResults := by
  unfold Obligations.CycleMarkReceptionResults
  intro p body s c q good own partner counted role facing apart
  refine ⟨fun h => ?_, fun hup hactive hheard => ?_⟩
  · refine gives_of_run (f := fun s => s.cycReceive p.val body) rfl (if_pos ?_)
    rcases h with h | h | ⟨hjoin, hside⟩
    · exact or_inl (or_inl (bnot h) _) _
    · exact or_inl (or_inr _ (bnot h)) _
    · refine or_inr _ (and_intro hjoin (bnot ?_))
      rw [Bool.and_eq_false_iff, beq_eq_false_iff_ne, beq_eq_false_iff_ne]
      exact hside
  · have hhears : c.hearsCyc q := by
      refine not_or (not_or (not_bnot hup) (not_bnot hactive)) ?_
      rcases hheard with hjoin | ⟨hrole, hface⟩
      · exact not_and_left (ne_true_of_eq_false hjoin) _
      · exact not_and_right _ (not_bnot (and_intro (beq_iff_eq.2 hrole) (beq_iff_eq.2 hface)))
    have heard {d : Chip} (h : c.cycReceive q body = d) : Gives (.cycReceive p body) s d :=
      gives_of_run (f := fun s => s.cycReceive p.val body) rfl h
    refine ⟨fun hbad hport => ?_, fun hbad hport => ?_, fun hgood h1 h3 => ?_, fun hgood h1 => ?_, fun hgood h3 hkept => ?_⟩
    · exact heard ((Chip.cycReceive_bad hhears hbad).trans (if_pos (beq_iff_eq.2 hport)))
    · exact heard ((Chip.cycReceive_bad hhears hbad).trans (if_neg (fun h => hport (eq_of_beq h))))
    · have hmember := Chip.cycReceive_member hhears hgood h1 h3
      refine ⟨fun hen => ?_, fun hen hport => ?_, fun hen hport hmiss => ?_, fun hen hport hmiss => ?_⟩
      · exact heard (hmember.trans (if_pos (bnot hen)))
      · exact heard (hmember.trans ((if_neg (not_bnot hen)).trans (if_pos (beq_iff_eq.2 hport))))
      · exact heard (hmember.trans ((if_neg (not_bnot hen)).trans ((if_neg (fun h => hport (eq_of_beq h))).trans (if_pos hmiss))))
      · exact heard (hmember.trans ((if_neg (not_bnot hen)).trans ((if_neg (fun h => hport (eq_of_beq h))).trans (if_neg (Nat.not_le.2 hmiss)))))
    · refine ⟨fun hyields => ?_, fun hsent hstays => ?_⟩
      · by_cases hsent : c.clk.sentCyc = false
        · exact heard (Chip.cycReceive_unsent hhears hgood h1 hsent)
        · obtain ⟨hown, hface, hpartner⟩ := hyields.resolve_left hsent
          refine heard ((Chip.cycReceive_facing hhears hgood h1 (Bool.not_eq_false _ ▸ hsent) hown hface).trans (if_neg ?_))
          rw [Chip.outranks_of_facing hface]
          exact fun h => absurd (of_decide_eq_true h) (Nat.not_lt.2 hpartner)
      · by_cases hown : own = true
        · exact heard (Chip.cycReceive_own hhears hgood h1 hsent hown)
        · obtain ⟨hface, hpartner⟩ := hstays.resolve_left hown
          refine heard ((Chip.cycReceive_facing hhears hgood h1 hsent (Bool.not_eq_true _ ▸ hown) hface).trans (if_pos ?_))
          rw [Chip.outranks_of_facing hface]
          exact decide_eq_true hpartner
    · exact heard (Chip.cycReceive_reserve hhears hgood h3 (hkept.imp bnot id))

/-- Settles O32, state by state of Table CLK-4. -/
theorem synchronisationFollowsTableClk4 : Obligations.SynchronisationFollowsTableClk4 := by
  unfold Obligations.SynchronisationFollowsTableClk4
  intro c target e st last t
  obtain ⟨d, hd, hsync, hclk, hct⟩ := Chip.syncMark_reads c target
  change t.get _ = _ at hsync
  change t.clk = _ at hclk
  change t.ct = _ at hct
  rw [hsync, hclk, hct]
  have herr : c.markError target = e := rfl
  rw [herr] at hd
  have hst : (c.showPhase e).get Reg.CLK_STATUS_SYNC = st := Chip.showPhase_sync c e
  have hclk0 : (c.showPhase e).clk = c.clk := rfl
  have hct0 : (c.showPhase e).ct = c.ct := rfl
  clear_value e st t
  generalize c.showPhase e = b at hd hst hclk0 hct0
  subst hd
  have entered (near : Bool) : ((b.enterAcquire).syncCount target near).get Reg.CLK_STATUS_SYNC = 1 := by
    obtain ⟨h1, hmarks, hwin, hstepped⟩ := Chip.enterAcquire_reads b
    rw [Chip.syncCount, if_pos h1]
    have hearly : ¬ 96 ≤ b.enterAcquire.clk.acqMarks + 1 := by omega
    cases near with
    | true =>
      refine (Chip.acquireMark_counts (not_or_intro ?_ hearly) (.inl rfl)).1.trans h1
      simp [Chip.windowAfter, hwin]
    | false => exact (Chip.acquireMark_steps hearly hstepped).1.trans h1
  have inAcquire (h1 : st = 1) (near far : Bool) : (b.syncState near far).syncCount target near = b.acquireMark target near := by
    subst h1
    have hsame : b.syncState near far = b :=
      (if_neg (by omega)).trans ((if_neg fun h => absurd h.1 (by omega)).trans (if_neg (by omega)))
    rw [hsame, Chip.syncCount, if_pos hst]
  refine ⟨fun h0 => ?_, fun h1 hnear hend => ?_, fun h1 hnear hwin hlast => ?_, fun h1 hfar hlast hstepped => ?_,
    fun h1 hfar hlast hstepped => ?_, fun h1 hfar hlast => ?_, fun h2 hnear => ?_, fun h2 hfar => ?_, fun h3 hnear => ?_, fun h3 hfar => ?_⟩
  · rw [Chip.syncState, if_pos (hst.trans h0)]
    exact entered _
  · rw [inAcquire h1, decide_eq_true hnear, ← hct0]
    refine Chip.acquireMark_locks (hend.imp (fun h => ?_) fun h => ?_)
    · simpa [Chip.windowAfter, hclk0] using h
    · rw [hclk0]
      exact Nat.succ_le_succ h
  · rw [inAcquire h1, decide_eq_true hnear, ← hct0, ← hclk0]
    have hb : b.get Reg.CLK_STATUS_SYNC = 1 := hst.trans h1
    have hcounts : ¬ (16 ≤ b.windowAfter true ∨ 96 ≤ b.clk.acqMarks + 1) → _ := fun h => Chip.acquireMark_counts (target := target) h (.inl rfl)
    rw [hb] at hcounts
    refine hcounts (not_or_intro ?_ ?_)
    · simpa [Chip.windowAfter, hclk0] using hwin
    · rw [hclk0]
      exact fun h => hlast (Nat.le_of_succ_le_succ h)
  · rw [inAcquire h1, decide_eq_false (Nat.not_le.2 hfar)]
    refine hst.trans h1 ▸ Chip.acquireMark_steps ?_ (hclk0 ▸ hstepped)
    rw [hclk0]
    exact fun h => hlast (Nat.le_of_succ_le_succ h)
  · rw [inAcquire h1, decide_eq_false (Nat.not_le.2 hfar), ← hct0]
    refine hst.trans h1 ▸ Chip.acquireMark_counts (not_or_intro (by simp [Chip.windowAfter]) ?_) (.inr (hclk0 ▸ hstepped))
    rw [hclk0]
    exact fun h => hlast (Nat.le_of_succ_le_succ h)
  · rw [inAcquire h1, decide_eq_false (Nat.not_le.2 hfar), ← hct0]
    refine Chip.acquireMark_locks (.inr ?_)
    rw [hclk0]
    exact Nat.succ_le_succ hlast
  · have hkept : b.syncState (decide (e.natAbs ≤ 10000)) (decide (1000000 < e.natAbs)) = b :=
      (if_neg (by omega)).trans ((if_neg fun h => absurd (of_decide_eq_true h.2) (by omega)).trans (if_neg (by omega)))
    have hb2 : b.get Reg.CLK_STATUS_SYNC = 2 := hst.trans h2
    rw [hkept, Chip.syncCount, if_neg (by omega), ← hct0]
    exact ⟨hb2, rfl⟩
  · rw [Chip.syncState, if_neg (by omega), if_pos ⟨hst.trans h2, decide_eq_true hfar⟩]
    exact entered _
  · rw [Chip.syncState, if_neg (by omega), if_neg (fun h => absurd h.1 (by omega)), if_pos (hst.trans h3), if_pos (decide_eq_true hnear)]
    have h2 : (b.put Reg.CLK_STATUS_SYNC 2).get Reg.CLK_STATUS_SYNC = 2 := Chip.get_put_same _ _ _
    rw [Chip.syncCount, if_neg (by omega), ← hct0]
    exact ⟨h2, rfl⟩
  · rw [Chip.syncState, if_neg (by omega), if_neg (fun h => absurd h.1 (by omega)), if_pos (hst.trans h3),
      if_neg (ne_true_of_eq_false (decide_eq_false (Nat.not_le.2 hfar)))]
    exact entered _

end Sys2Proof.Proofs
end

section
/-! PROOF. O33: the rail sequencer and the release of the dies. -/

namespace Sys2Proof.Machine

/-! What the release of the core die leaves of the registers it set before. -/

/-- A field below the engines' registers, but for the power state, is none that an event sets. -/
theorem Chip.fire_get_of_lt {s : Chip} {src det : Nat} {f : Fld} (hlt : f.key < 32 * 0x1050000) (hpwr : f.key ≠ Reg.SYS_PWR_STAT.key) :
    (s.fire src det).get f = s.get f := by
  refine Chip.fire_get_free (fun e => ⟨hpwr, fun j _ _ => ?_⟩) ?_ ?_
  · simp only [Reg.ENG_STAT_IDLE_HELD, Reg.ENG_STAT_STATE, Reg.ENG_STAT_EN, Reg.ENG_WDOG_LEFT]
    omega
  · simp only [Reg.EVT_FIRE_CNT]
    omega
  · simp only [Reg.EVT_LIM_CNT]
    omega

/-- A foreground use of the NOR sets its own bit alone. -/
theorem Chip.norForeground_get {s : Chip} {f : Fld} (hf : f.key ≠ Reg.BKG_STAT_NOR_FG.key) : s.norForeground.get f = s.get f := by
  unfold Chip.norForeground
  split
  · rfl
  · exact Chip.get_put_of_key_ne _ _ hf

theorem Chip.norForeground_pwr (s : Chip) : s.norForeground.pwr = s.pwr := by
  unfold Chip.norForeground
  split <;> rfl

/-- The dies are released out of a complete power-up, with the straps' role and BOOTSEL (R76). -/
def Chip.strapped (s : Chip) (role : Nat) (sel : Bool) : Chip :=
  let s := ({ s with pwr := { s.pwr with coreRst := false, pllOnce := true, nrstLow := false } }).put Reg.CLK_STATUS_CORE_LOCK 1
  let s := (s.put Reg.SYS_STRAP_ROLE role).putB Reg.SYS_STRAP_BOOTSEL sel
  let s := (s.put Reg.CHAIN_INFO3_STRAP role).put Reg.CHAIN_STAT_ROLE
    (if role = 1 ∧ !s.pwr.lostHead then 1 else if role = 2 then 2 else 0)
  if role = 3 then s.fire 32 0 else s

/-- The boot ROM starts: with BOOTSEL it waits for an image, else it checks the slots (R78, R79). -/
def Chip.bootRom (s : Chip) (sel : Bool) : Chip :=
  let s := if sel then s.put Reg.SYS_BOOT_STATE 2 else (s.put Reg.SYS_BOOT_STATE 1).norForeground
  let s := { s with boot := { s.boot with holdsMbx := sel && !s.isHead } }
  s.otpShow.put Reg.SYS_PWR_STAT 0

/-- Out of STANDBY both links send WAK (R120). -/
def Chip.wakLinks (s : Chip) (woken : Bool) : Chip :=
  if woken then s.each [0, 1] (fun s p => s.setGl p { s.gl p with wak := true }) else s

/-- The release of the core die, step by step. -/
theorem Chip.coreRelease_of_ready {s : Chip} (role : Nat) (sel : Bool) (hrst : s.pwr.coreRst = true) (hpg : bit s.pwr.pg 2 = true)
    (hphase : s.pwr.phase = .up) :
    s.coreRelease role sel =
      (((((s.strapped role sel).bootRom sel).wakLinks (s.get Reg.SYS_RST_CAUSE == 7)).seamShow).chainShow).laneUpdate := by
  refine if_neg (not_or (not_or (not_bnot hrst) (not_bnot hpg)) ?_)
  simp [hphase]

/-- A field that the release sets after the straps, or the seam and the chain show of their state. -/
def releaseShows : List Fld :=
  [Reg.BKG_STAT_NOR_FG, Reg.SYS_RB_CNT, Reg.SYS_OTP_STAT_KEY_SET, Reg.SEAM_STATUS_UP, Reg.CHAIN_STAT_READY, Reg.CHAIN_FOLD_RES,
    Reg.CHAIN_STAT_TAIL, Reg.CHAIN_STAT_JOIN, Reg.CHAIN_INFO3_BRIDGE]

/-- What the seam and the chain show leaves every other field. -/
theorem Chip.released_get {s : Chip} {f : Fld} (hf : ∀ g ∈ releaseShows, f.key ≠ g.key) (woken : Bool) :
    (((s.wakLinks woken).seamShow).chainShow).get f = s.get f := by
  have hwak : (s.wakLinks woken).get f = s.get f := by
    unfold Chip.wakLinks
    split <;> rfl
  simp only [releaseShows, List.forall_mem_cons] at hf
  obtain ⟨-, -, -, hup, hready, hfold, htail, hjoin, hbridge, -⟩ := hf
  simp only [Chip.chainShow, Chip.seamShow, Chip.putB]
  rw [Chip.get_put_of_key_ne _ _ hbridge, Chip.get_put_of_key_ne _ _ hjoin, Chip.get_put_of_key_ne _ _ htail,
    Chip.get_put_of_key_ne _ _ hfold, Chip.get_put_of_key_ne _ _ hready, Chip.get_put_of_key_ne _ _ hup, hwak]

theorem Chip.released_pwr (s : Chip) (woken : Bool) : (((s.wakLinks woken).seamShow).chainShow).pwr = s.pwr := by
  cases woken <;> rfl

theorem Chip.released_mem (s : Chip) (woken : Bool) : (((s.wakLinks woken).seamShow).chainShow).mem = s.mem := by
  cases woken <;> rfl

/-- Behind BOOT.STATE and the NOR the boot ROM's start sets the OTP's fields and the power state. -/
theorem Chip.bootRom_get_state {s : Chip} {f : Fld} (hf : ∀ g ∈ releaseShows, f.key ≠ g.key) (hpwr : f.key ≠ Reg.SYS_PWR_STAT.key) (sel : Bool) :
    (s.bootRom sel).get f = (if sel then s.put Reg.SYS_BOOT_STATE 2 else (s.put Reg.SYS_BOOT_STATE 1).norForeground).get f := by
  simp only [releaseShows, List.forall_mem_cons] at hf
  obtain ⟨-, hrb, hkey, -⟩ := hf
  exact (Chip.get_put_of_key_ne _ _ hpwr).trans ((Chip.get_put_of_key_ne _ _ hkey).trans ((Chip.get_put_of_key_ne _ _ hrb).trans rfl))

/-- The boot ROM's start leaves a field that is not its own. -/
theorem Chip.bootRom_get {s : Chip} {f : Fld} (hf : ∀ g ∈ releaseShows, f.key ≠ g.key) (hboot : f.key ≠ Reg.SYS_BOOT_STATE.key)
    (hpwr : f.key ≠ Reg.SYS_PWR_STAT.key) (sel : Bool) : (s.bootRom sel).get f = s.get f := by
  rw [Chip.bootRom_get_state hf hpwr]
  split
  · exact Chip.get_put_of_key_ne _ _ hboot
  · exact (Chip.norForeground_get (hf _ List.mem_cons_self)).trans (Chip.get_put_of_key_ne _ _ hboot)

theorem Chip.bootRom_state (s : Chip) (sel : Bool) : (s.bootRom sel).get Reg.SYS_BOOT_STATE = if sel then 2 else 1 := by
  rw [Chip.bootRom_get_state (by decide) (by decide)]
  split
  · exact Chip.get_put_same _ _ _
  · exact (Chip.norForeground_get (by decide)).trans (Chip.get_put_same _ _ _)

theorem Chip.bootRom_pwr (s : Chip) (sel : Bool) : (s.bootRom sel).pwr = s.pwr := by
  cases sel with
  | true => rfl
  | false => exact Chip.norForeground_pwr _

theorem Chip.bootRom_mem (s : Chip) (sel : Bool) : (s.bootRom sel).mem = s.mem := by
  cases sel with
  | true => rfl
  | false => exact (Chip.norForeground_keeps _).1

/-- The role that the straps and an earlier loss of the head's place decide fits its field. -/
theorem headAtStraps_mod : ∀ (role : BitVec 2) (lost : Bool),
    (if role.toNat = 1 ∧ (!lost) = true then 1 else if role.toNat = 2 then 2 else 0) % 2 ^ Reg.CHAIN_STAT_ROLE.width =
      if role = 1 ∧ lost = false then 1 else if role = 2 then 2 else 0 := by
  decide

/-- The straps stand in their registers and decide the role (R9, R10, R12). -/
theorem Chip.strapped_reads (s : Chip) (role : BitVec 2) (sel : Bool) :
    let d := s.strapped role.toNat sel
    d.get Reg.SYS_STRAP_ROLE = role.toNat ∧ d.get Reg.SYS_STRAP_BOOTSEL = b2n sel ∧ d.get Reg.CLK_STATUS_CORE_LOCK = 1 ∧
      d.get Reg.CHAIN_STAT_ROLE = (if role = 1 ∧ s.pwr.lostHead = false then 1 else if role = 2 then 2 else 0) ∧
      d.pwr = { s.pwr with coreRst := false, pllOnce := true, nrstLow := false } ∧ d.mem = s.mem := by
  intro d
  let a := ({ s with pwr := { s.pwr with coreRst := false, pllOnce := true, nrstLow := false } }).put Reg.CLK_STATUS_CORE_LOCK 1
  let b := (((a.put Reg.SYS_STRAP_ROLE role.toNat).putB Reg.SYS_STRAP_BOOTSEL sel).put Reg.CHAIN_INFO3_STRAP role.toNat).put Reg.CHAIN_STAT_ROLE
    (if role.toNat = 1 ∧ !s.pwr.lostHead then 1 else if role.toNat = 2 then 2 else 0)
  have hd : d = if role.toNat = 3 then b.fire 32 0 else b := rfl
  have hget (f : Fld) (hlt : f.key < 32 * 0x1050000) (hpwr : f.key ≠ Reg.SYS_PWR_STAT.key) : d.get f = b.get f := by
    rw [hd]
    split
    · exact Chip.fire_get_of_lt hlt hpwr
    · rfl
  rw [hget _ (by decide) (by decide), hget _ (by decide) (by decide), hget _ (by decide) (by decide), hget _ (by decide) (by decide)]
  refine ⟨?_, ?_, ?_, ?_, ?_, ?_⟩
  · refine (Chip.get_put_of_key_ne _ _ (by decide)).trans ((Chip.get_put_of_key_ne _ _ (by decide)).trans
      ((Chip.get_put_of_key_ne _ _ (by decide)).trans ((Chip.get_put_same _ _ _).trans (Nat.mod_eq_of_lt role.isLt))))
  · refine (Chip.get_put_of_key_ne _ _ (by decide)).trans ((Chip.get_put_of_key_ne _ _ (by decide)).trans
      ((Chip.get_put_same _ _ _).trans ?_))
    cases sel <;> rfl
  · exact (Chip.get_put_of_key_ne _ _ (by decide)).trans ((Chip.get_put_of_key_ne _ _ (by decide)).trans
      ((Chip.get_put_of_key_ne _ _ (by decide)).trans ((Chip.get_put_of_key_ne _ _ (by decide)).trans (Chip.get_put_same _ _ _))))
  · refine (Chip.get_put_same _ _ _).trans ?_
    exact headAtStraps_mod role s.pwr.lostHead
  · rw [hd]
    split
    · exact Chip.fire_pwr _ _ _
    · rfl
  · rw [hd]
    split
    · exact (Chip.fire_keeps _ _ _).1
    · rfl

/-- What the release leaves standing when the lanes of the fence words are brought up to date. -/
theorem Chip.coreRelease_reads {s : Chip} (role : BitVec 2) (sel : Bool) (hrst : s.pwr.coreRst = true) (hpg : bit s.pwr.pg 2 = true)
    (hphase : s.pwr.phase = .up) :
    ∃ d : Chip, s.coreRelease role.toNat sel = d.laneUpdate ∧ d.coreUp = true ∧ d.pwr.pllOnce = true ∧
      d.pwr.nrstLow = false ∧ d.get Reg.SYS_STRAP_ROLE = role.toNat ∧ d.get Reg.SYS_STRAP_BOOTSEL = b2n sel ∧
      d.get Reg.SYS_BOOT_STATE = (if sel then 2 else 1) ∧ d.get Reg.CLK_STATUS_CORE_LOCK = 1 ∧ d.get Reg.SYS_PWR_STAT = 0 ∧
      d.get Reg.CHAIN_STAT_ROLE = (if role = 1 ∧ s.pwr.lostHead = false then 1 else if role = 2 then 2 else 0) ∧ d.mem = s.mem := by
  obtain ⟨hrole, hsel, hlock, hchain, hpwr, hmem⟩ := Chip.strapped_reads s role sel
  refine ⟨_, Chip.coreRelease_of_ready role.toNat sel hrst hpg hphase, ?_⟩
  have hpwr' := ((Chip.released_pwr _ (s.get Reg.SYS_RST_CAUSE == 7)).trans (Chip.bootRom_pwr _ sel)).trans hpwr
  have hget (f : Fld) (hf : ∀ g ∈ releaseShows, f.key ≠ g.key) (hboot : f.key ≠ Reg.SYS_BOOT_STATE.key)
      (hstat : f.key ≠ Reg.SYS_PWR_STAT.key) :=
    (Chip.released_get (s := (s.strapped role.toNat sel).bootRom sel) hf (s.get Reg.SYS_RST_CAUSE == 7)).trans (Chip.bootRom_get hf hboot hstat sel)
  refine ⟨?_, ?_, ?_, ?_, ?_, ?_, ?_, ?_, ?_, ?_⟩
  · rw [Chip.coreUp, hpwr']
    rfl
  · rw [hpwr']
  · rw [hpwr']
  · exact (hget _ (by decide) (by decide) (by decide)).trans hrole
  · exact (hget _ (by decide) (by decide) (by decide)).trans hsel
  · exact (Chip.released_get (by decide) _).trans (Chip.bootRom_state _ sel)
  · exact (hget _ (by decide) (by decide) (by decide)).trans hlock
  · exact (Chip.released_get (by decide) _).trans (Chip.get_put_same _ _ _)
  · exact (hget _ (by decide) (by decide) (by decide)).trans hchain
  · exact ((Chip.released_mem _ _).trans (Chip.bootRom_mem _ sel)).trans hmem

/-! The rails. -/

/-- The next rail to drop, case by case (R75, R92). -/
theorem Chip.railNext_cases (d : Chip) : (bit d.pwr.en 2 = true → d.railNext = some 2) ∧
    (bit d.pwr.en 2 = false → d.pwr.goal ≠ .standby → bit d.pwr.en 1 = true → d.railNext = some 1) ∧
    (bit d.pwr.en 2 = false → d.pwr.goal ≠ .standby → bit d.pwr.en 1 = false → bit d.pwr.en 0 = true → d.railNext = some 0) ∧
    (bit d.pwr.en 2 = false → d.pwr.goal = .standby ∨ (bit d.pwr.en 1 = false ∧ bit d.pwr.en 0 = false) → d.railNext = none) := by
  unfold Chip.railNext
  refine ⟨fun h2 => if_pos h2, fun h2 hgoal h1 => ?_, fun h2 hgoal h1 h0 => ?_, fun h2 hdone => ?_⟩
  · rw [if_neg (ne_true_of_eq_false h2), if_neg hgoal, if_pos h1]
  · rw [if_neg (ne_true_of_eq_false h2), if_neg hgoal, if_neg (ne_true_of_eq_false h1), if_pos h0]
  · rw [if_neg (ne_true_of_eq_false h2)]
    rcases hdone with hgoal | ⟨h1, h0⟩
    · exact if_pos hgoal
    · rw [if_neg (ne_true_of_eq_false h1), if_neg (ne_true_of_eq_false h0), ite_self]

section Dropping
variable {c : Chip} (hphase : c.pwr.phase = .dropping)
include hphase

/-- A power-down goes on with its next rail (R75). -/
theorem Chip.railDisableNext_of_some {k : Nat} (hnext : c.railNext = some k) : c.railDisableNext = c.railDown k := by
  unfold Chip.railDisableNext
  rw [if_neg (not_not_intro hphase), hnext]

/-- With no rail left it has reached its end. -/
theorem Chip.railDisableNext_of_none (hnext : c.railNext = none) : c.railDisableNext = c.dropped := by
  unfold Chip.railDisableNext
  rw [if_neg (not_not_intro hphase), hnext]

end Dropping

/-- The ends of a power-down (Table SYS-1, R74, R92). -/
theorem Chip.dropped_cases (c : Chip) :
    (c.pwr.goal = .retry → c.dropped = { c with pwr := { c.pwr with phase := .retryWait } }) ∧
    (c.pwr.goal = .failed → c.dropped = { c with pwr := { c.pwr with phase := .failed } }) ∧
    (c.pwr.goal = .standby → c.dropped = { c with pwr := { c.pwr with phase := .standby } }) ∧
    (c.pwr.goal = .resequence → c.dropped = c.railUp 0) ∧
    (c.pwr.goal = .off → c.pwr.trunkOff = false → c.dropped = { c with pwr := { c.pwr with phase := .off } }) := by
  unfold Chip.dropped
  refine ⟨fun h => by rw [h], fun h => by rw [h], fun h => by rw [h], fun h => by rw [h], fun h htrunk => ?_⟩
  rw [h]
  exact if_neg (ne_true_of_eq_false htrunk)

/-- A PG that comes, for VAUX or VLOGIC and for VCORE (R73). -/
theorem Chip.railPgHigh_of_wanted {c : Chip} {n : Nat} (hphase : c.pwr.phase = .wantPg) (hrail : c.pwr.rail = n) :
    (n ≠ 2 → c.railPgHigh n = { c with pwr := { c.pwr with pg := setBit c.pwr.pg n, phase := .gap } }) ∧
    (n = 2 → c.railPgHigh n =
      ({ c with pwr := { c.pwr with pg := setBit c.pwr.pg 2, phase := .up, attempts := 0 } }.setLv Reg.TEST_STAT_VCORE_OK 1)) := by
  have hwanted : ¬ (c.pwr.phase ≠ .wantPg ∨ c.pwr.rail ≠ n) := not_or_intro (not_not_intro hphase) (not_not_intro hrail)
  unfold Chip.railPgHigh
  rw [if_neg hwanted]
  refine ⟨fun hn => ?_, fun hn => ?_⟩
  · simp only [if_neg hn]
  · subst hn
    rfl

/-- A PG that does not come: the attempt counts, and after the third the power-up has failed (R74). -/
theorem Chip.railPgTimeout_of_wantPg {c : Chip} (h : c.pwr.phase = .wantPg) :
    c.railPgTimeout = Chip.dropStart { c.setLv Reg.SYS_KEEP_STAT_RAIL_FAIL (c.pwr.rail + 1) with
      pwr := { c.pwr with attempts := c.pwr.attempts + 1 } } (if 2 ≤ c.pwr.attempts then .failed else .retry) := by
  unfold Chip.railPgTimeout
  rw [if_neg (not_not_intro h), ite_of_iff (Nat.succ_le_succ_iff (a := 2)).symm]
  rfl

end Sys2Proof.Machine

namespace Sys2Proof.Proofs
open Sys2Proof.Machine

/-- Settles O33: the sequencer phase by phase, and the release of each die. -/
theorem railSequencerResults : Obligations.RailSequencerResults := by
  unfold Obligations.RailSequencerResults
  intro rail role sel s c n up failed
  refine ⟨?por, ?notPor, ?pgHigh, ?pgElse, ?gap, ?notGap, ?timeout, ?noTimeout, ?retry, ?noRetry, ?dropping, ?notDropping,
    Chip.railNext_cases, ?field, ?noField, ?noCore, ?core⟩
  case por => exact fun h => gives_of_run rfl (if_pos h)
  case notPor => exact fun h => gives_of_run rfl (if_neg h)
  case pgHigh =>
    intro hphase hrail
    obtain ⟨hlow, hcore⟩ := Chip.railPgHigh_of_wanted hphase hrail
    exact ⟨fun hn => gives_of_run (f := fun d => d.railPgHigh n) rfl (hlow hn), fun hn => gives_of_run (f := fun d => d.railPgHigh n) rfl (hcore hn)⟩
  case pgElse => exact fun h => gives_of_run (f := fun d => d.railPgHigh n) rfl (if_pos h)
  case gap => exact fun h => gives_of_run rfl (if_pos h)
  case notGap => exact fun h => gives_of_run rfl (if_neg h)
  case timeout => exact fun h => gives_of_run rfl (Chip.railPgTimeout_of_wantPg h)
  case noTimeout => exact fun h => gives_of_run rfl (if_pos h)
  case retry => exact fun h => gives_of_run rfl (if_pos h)
  case noRetry => exact fun h => gives_of_run rfl (if_neg h)
  case dropping =>
    intro hphase
    refine ⟨fun k hnext => gives_of_run rfl (Chip.railDisableNext_of_some hphase hnext), fun hnext => ?_⟩
    obtain ⟨hretry, hfailed, hstandby, hreseq, hoff⟩ := Chip.dropped_cases c
    have hdone {d : Chip} (h : c.dropped = d) : Gives .railDisableNext s d :=
      gives_of_run rfl ((Chip.railDisableNext_of_none hphase hnext).trans h)
    exact ⟨fun h => hdone (hretry h), fun h => hdone (hfailed h), fun h => hdone (hstandby h), fun h => hdone (hreseq h),
      fun h htrunk => hdone (hoff h htrunk)⟩
  case notDropping => exact fun h => gives_of_run rfl (if_pos h)
  case field =>
    exact fun hrst h0 h1 => gives_of_run rfl (if_neg (not_or (not_bnot hrst) (not_bnot (and_intro h0 h1))))
  case noField =>
    intro h
    refine gives_of_run rfl (if_pos ?_)
    rcases h with h | h | h
    · exact or_inl (bnot h) _
    · exact or_inr _ (bnot (Bool.and_eq_false_iff.2 (.inl h)))
    · exact or_inr _ (bnot (Bool.and_eq_false_iff.2 (.inr h)))
  case noCore =>
    intro h
    refine gives_of_run (f := fun d => d.coreRelease role.toNat sel) rfl (if_pos ?_)
    rcases h with h | h | h
    · exact or_inl (or_inl (bnot h) _) _
    · exact or_inl (or_inr _ (bnot h)) _
    · exact or_inr _ (bne_iff_ne.2 h)
  case core =>
    intro hrst hpg hphase
    exact ⟨_, rfl, Chip.coreRelease_reads role sel hrst hpg hphase⟩

end Sys2Proof.Proofs
end

section
/-! PROOF. O35 and O36: images at boot, the OTP and the journal scan. -/

namespace Sys2Proof.Machine

/-! The checks of both slots. -/

/-- The checks of both slots stand in the boot ROM's memory. -/
def Chip.slotsChecked (c : Chip) : Chip := { c with boot := { c.boot with slotA := c.slotVersion 0, slotB := c.slotVersion 1 } }

/-- The slots are looked at in state 1 (R79). -/
theorem Chip.imageVerifyDone_of_checking {c : Chip} (hup : c.coreUp = true) (hst : c.get Reg.SYS_BOOT_STATE = 1) :
    c.imageVerifyDone = c.norChecked := by
  unfold Chip.imageVerifyDone
  rw [if_neg (not_bnot hup), if_pos hst]

theorem Chip.norChecked_of_none {c : Chip} (h : pickSlot (c.slotVersion 0) (c.slotVersion 1) = none) :
    c.norChecked = c.slotsChecked.chainWait c.slotsChecked.slotsErr := by
  unfold Chip.norChecked
  extract_lets va vb boot checked
  have hpick : pickSlot va vb = none := h
  rw [hpick]
  rfl

theorem Chip.norChecked_of_some {c : Chip} {k : Nat} {b : List (BitVec 8)} (h : pickSlot (c.slotVersion 0) (c.slotVersion 1) = some k)
    (himage : c.slotImage k = some b) : c.norChecked = c.slotsChecked.bootStart b k 0 := by
  unfold Chip.norChecked
  extract_lets va vb boot checked
  have hpick : pickSlot va vb = some k := h
  have hheld : checked.slotImage k = some b := himage
  simp only [hpick, hheld]
  rfl

/-- An image that was received is looked at in state 4 (R85). -/
theorem Chip.imageVerifyDone_of_received {c : Chip} {len k : Nat} (hup : c.coreUp = true) (hst : c.get Reg.SYS_BOOT_STATE = 4)
    (hverify : c.boot.verify = some (len, k)) :
    c.imageVerifyDone = if c.imageErr (c.norbs (slotBase k) len) = 0 then c.bootStart (c.norbs (slotBase k) len) k 1
      else c.chainWait (c.imageErr (c.norbs (slotBase k) len)) := by
  unfold Chip.imageVerifyDone
  rw [if_neg (not_bnot hup), if_neg (by omega), hverify]
  exact if_neg (not_not_intro hst)

/-! The messages that bring a chain image. -/

section Message
variable {c : Chip} {buf : Nat} {l : List (BitVec 8)} (hmsg : c.bootMsg = some (buf, l))
include hmsg

/-- BEGIN is taken where M62 has room, and answered by what its length and the state allow (R80). -/
theorem Chip.chainImageBegin_of_msg (hroom : (c.mbx 62).count < 8) (hop : msgOp l = 1) :
    c.chainImageBegin = (if msgOk l false then c.imageBegin (imgWord l 4) else (false, c)).2.bootReply buf
      (some (1, (if msgOk l false then c.imageBegin (imgWord l 4) else (false, c)).1)) := by
  unfold Chip.chainImageBegin
  rw [hmsg]
  refine if_neg (not_or_intro (not_not_intro hop) (not_bnot ?_))
  exact decide_eq_true hroom

theorem Chip.chainImageData_of_msg (hroom : (c.mbx 62).count < 8) (hop : msgOp l = 2) :
    c.chainImageData = (if msgOk l true then c.imageData (imgWord l 4) (l.drop 8) else (false, c)).2.bootReply buf
      (some (2, (if msgOk l true then c.imageData (imgWord l 4) (l.drop 8) else (false, c)).1)) := by
  unfold Chip.chainImageData
  rw [hmsg]
  refine if_neg (not_or_intro (not_not_intro hop) (not_bnot ?_))
  exact decide_eq_true hroom

/-- Any other message leaves M63; a good END starts the check. -/
theorem Chip.chainImageEnd_of_msg (h1 : msgOp l ≠ 1) (h2 : msgOp l ≠ 2) :
    c.chainImageEnd = if msgOp l = 3 ∧ msgOk l false ∧ imgWord l 4 = 0 then (c.bootReply buf none).imageEnd.2 else c.bootReply buf none := by
  unfold Chip.chainImageEnd
  rw [hmsg]
  exact if_neg (not_or_intro h1 h2)

end Message

/-- With no message for the boot ROM none of the three does anything. -/
theorem Chip.chainImage_of_none {c : Chip} (h : c.bootMsg = none) :
    c.chainImageBegin = c ∧ c.chainImageData = c ∧ c.chainImageEnd = c := by
  unfold Chip.chainImageBegin Chip.chainImageData Chip.chainImageEnd
  rw [h]
  exact ⟨rfl, rfl, rfl⟩

/-- A chain image begins in state 2, with a length of at most 1 MiB. -/
theorem Chip.imageBegin_cases (c : Chip) (len : Nat) :
    (c.get Reg.SYS_BOOT_STATE = 2 → len ≤ 0x100000 → c.imageBegin len =
      (true, ({ c with boot := { c.boot with load := some (len, 0, c.targetSlot) } }).put Reg.SYS_BOOT_STATE 3)) ∧
    (c.get Reg.SYS_BOOT_STATE ≠ 2 ∨ 0x100000 < len → c.imageBegin len = (false, c)) :=
  ⟨fun hst hlen => if_neg (not_or_intro (not_not_intro hst) (Nat.not_lt.2 hlen)), fun h => if_pos h⟩

section Data
variable {c : Chip} {len next k off : Nat} {l : List (BitVec 8)} (hload : c.boot.load = some (len, next, k))
include hload

/-- Data is taken in order and within the stated length. -/
theorem Chip.imageData_in_turn (hst : c.get Reg.SYS_BOOT_STATE = 3) (hoff : off = next) (hend : next + l.length ≤ len) :
    c.imageData off l = (true, { c.norForeground.slotWrite k next l with
      boot := { (c.norForeground.slotWrite k next l).boot with load := some (len, next + l.length, k) } }) := by
  subst hoff
  unfold Chip.imageData
  rw [hload]
  exact if_neg (not_or_intro (not_not_intro hst) (not_or_intro (not_not_intro rfl) (Nat.not_lt.2 hend)))

theorem Chip.imageData_out_of_turn (h : c.get Reg.SYS_BOOT_STATE ≠ 3 ∨ off ≠ next ∨ len < next + l.length) :
    c.imageData off l = (false, c) := by
  unfold Chip.imageData
  rw [hload]
  refine if_pos (h.imp id fun h => ?_)
  by_cases hoff : off = next
  · exact .inr (hoff ▸ h.resolve_left (not_not_intro hoff))
  · exact .inl hoff

end Data

/-- END comes once the stated length has arrived. -/
theorem Chip.imageEnd_of_complete {d : Chip} {len k : Nat} (hload : d.boot.load = some (len, len, k)) (hst : d.get Reg.SYS_BOOT_STATE = 3) :
    d.imageEnd = (true, ({ d with boot := { d.boot with load := none, verify := some (len, k), fromOut := true, holdsMbx := false } }.put
        Reg.SYS_BOOT_STATE 4)) := by
  unfold Chip.imageEnd
  rw [hload]
  exact if_neg (not_or_intro (not_not_intro hst) (not_not_intro rfl))

/-! The OTP and the journal scan. -/

/-- A word is staged where fewer than 8 are. -/
theorem Chip.otpStage_of_room {c : Chip} {r : Nat} {w : BitVec 32} (h : c.boot.staged.length < 8) :
    c.otpStage r w = Chip.ok ({ c with boot := { c.boot with staged := c.boot.staged ++ [w] } }.put Reg.SYS_OTP_STAT_STAGED
      (c.boot.staged.length + 1)) := by
  have hlen : c.boot.staged.length + 1 = (c.boot.staged ++ [w]).length := by simp
  rw [hlen]
  exact if_neg (Nat.not_le.2 h)

/-- A durable value shows in registers alone. -/
theorem Chip.jShow_bkg (s : Chip) (key : Nat) (v : Option (List Nat)) : (s.jShow key v).bkg = s.bkg := by
  unfold Chip.jShow
  extract_lets f m a b d w
  have hb : b.bkg = a.bkg := by
    refine Chip.foldl_leaves Chip.bkg (fun c j => ?_) (List.range 4) a
    rfl
  split <;> exact hb

/-- A journal with a sealed sector is taken up from its newest (R476). -/
theorem Chip.journalScan_of_newest {c : Chip} {n : Nat × Nat} (hup : c.coreUp = true) (hready : c.flag Reg.BKG_STAT_JRNL_READY = false)
    (hnew : c.jNewest = some n) :
    c.journalScan.flag Reg.BKG_STAT_JRNL_READY = true ∧ c.journalScan.bkg.sealed = true ∧ c.journalScan.bkg.slot = c.jFree n.1 ∧
      c.journalScan.bkg.secSeq = n.2 := by
  have hflag (d : Chip) : (d.put Reg.BKG_STAT_JRNL_READY 1).flag Reg.BKG_STAT_JRNL_READY = true := by
    rw [Chip.flag, Chip.get_put_same]
    rfl
  unfold Chip.journalScan
  rw [if_neg (not_or (not_bnot hup) (ne_true_of_eq_false hready)), hnew]
  dsimp -zeta only
  extract_lets +lift keys counts0 act counts bkg b d e g
  have he : e.bkg = d.bkg := by
    refine Chip.foldl_leaves Chip.bkg (fun t x => ?_) (d.jLive n.1) d
    exact Chip.jShow_bkg _ _ _
  have hg : g.bkg = e.bkg := by
    simp only [g]
    split <;> rfl
  have hd : d.bkg = b.bkg := rfl
  clear_value g e d
  have hlast : (g.put Reg.BKG_STAT_JRNL_READY 1).bkg = b.bkg := (hg.trans he).trans hd
  refine ⟨hflag g, ?_⟩
  rw [hlast]
  exact ⟨rfl, rfl, rfl⟩

/-- One with no sealed sector is empty; a head starts from the chain time its key 1 holds, where that is valid (R41, R476). -/
theorem Chip.journalScan_of_empty {c : Chip} (hup : c.coreUp = true) (hready : c.flag Reg.BKG_STAT_JRNL_READY = false)
    (hnew : c.jNewest = none) :
    c.journalScan = Chip.put (if c.get Reg.CHAIN_INFO3_STRAP = 1 ∧ bit (c.get Reg.BKG_JRNL_VALID_LO) 1 then
      (c.put Reg.CLK_CT_INIT_LO (c.get (Reg.BKG_JRNL_VAL 1 0))).put Reg.CLK_CT_INIT_HI (c.get (Reg.BKG_JRNL_VAL 1 1)) else c)
      Reg.BKG_STAT_JRNL_READY 1 := by
  unfold Chip.journalScan
  rw [if_neg (not_or (not_bnot hup) (ne_true_of_eq_false hready)), hnew]

end Sys2Proof.Machine

namespace Sys2Proof.Proofs
open Sys2Proof.Machine

/-- Settles O35: the boot ROM's steps, each by the lemma of its command. -/
theorem bootImageResults : Obligations.BootImageResults := by
  unfold Obligations.BootImageResults
  intro r s c st checked
  refine ⟨?slots, ?received, ?start, ?messages, ?ended, fun d len k => Chip.imageEnd_of_complete, ?noMessage, ?store, ?stored, ?notStored⟩
  case slots =>
    intro hup hst
    have hnone (h : pickSlot (c.slotVersion 0) (c.slotVersion 1) = none) : Gives .imageVerifyDone s (checked.chainWait checked.slotsErr) :=
      gives_of_run rfl ((Chip.imageVerifyDone_of_checking hup hst).trans (Chip.norChecked_of_none h))
    have hsome {k : Nat} {b : List (BitVec 8)} (h : pickSlot (c.slotVersion 0) (c.slotVersion 1) = some k) (himage : c.slotImage k = some b) :
        Gives .imageVerifyDone s (checked.bootStart b k 0) :=
      gives_of_run rfl ((Chip.imageVerifyDone_of_checking hup hst).trans (Chip.norChecked_of_some h himage))
    refine ⟨fun ha hb => hnone (by rw [ha, hb]; rfl), fun v b => ⟨fun himage ha hb => ?_, fun himage ha hb => ?_⟩,
      fun va vb a b hia hib => ⟨fun ha hb hle => ?_, fun ha hb hlt => ?_⟩⟩
    · exact hsome (by rw [ha, hb]; rfl) himage
    · exact hsome (by rw [ha, hb]; rfl) himage
    · refine hsome ?_ hia
      rw [ha, hb, pickSlot, if_neg (Nat.not_lt.2 hle)]
    · refine hsome ?_ hib
      rw [ha, hb, pickSlot, if_pos hlt]
  case received =>
    intro hup hst len k hverify b
    exact ⟨fun h => gives_of_run rfl ((Chip.imageVerifyDone_of_received hup hst hverify).trans (if_pos h)),
      fun h => gives_of_run rfl ((Chip.imageVerifyDone_of_received hup hst hverify).trans (if_neg h))⟩
  case start =>
    intro d b k src hup w e p
    refine ⟨fun hbad => ?_, fun hgood hpour => ?_, fun hgood hpour => ?_⟩
    · exact (if_neg (not_bnot hup)).trans (if_pos (bnot hbad))
    · exact (if_neg (not_bnot hup)).trans ((if_neg (not_bnot hgood)).trans (if_pos hpour))
    · exact (if_neg (not_bnot hup)).trans ((if_neg (not_bnot hgood)).trans (if_neg (not_not_intro hpour)))
  case messages =>
    intro buf l hmsg hroom
    obtain ⟨hbegin, hturned⟩ := Chip.imageBegin_cases c (imgWord l 4)
    refine ⟨fun hop hok hst hlen => ?_, fun hop hno => ?_, fun len next k hload hop => ⟨fun hok hst hoff hend => ?_, fun hno => ?_⟩⟩
    · refine gives_of_run rfl ((Chip.chainImageBegin_of_msg hmsg hroom hop).trans ?_)
      rw [if_pos hok, hbegin hst hlen]
    · refine gives_of_run rfl ((Chip.chainImageBegin_of_msg hmsg hroom hop).trans ?_)
      by_cases hok : msgOk l false = true
      · rw [if_pos hok, hturned (hno.resolve_left (by simp [hok]))]
      · rw [if_neg hok]
    · refine gives_of_run rfl ((Chip.chainImageData_of_msg hmsg hroom hop).trans ?_)
      rw [if_pos hok, Chip.imageData_in_turn hload hst hoff hend]
    · refine gives_of_run rfl ((Chip.chainImageData_of_msg hmsg hroom hop).trans ?_)
      by_cases hok : msgOk l true = true
      · rw [if_pos hok, Chip.imageData_out_of_turn hload (hno.resolve_left (by simp [hok]))]
      · rw [if_neg hok]
  case ended =>
    intro buf l hmsg h1 h2
    refine ⟨fun h3 hok hzero => ?_, fun hno => ?_⟩
    · exact gives_of_run rfl ((Chip.chainImageEnd_of_msg hmsg h1 h2).trans (if_pos ⟨h3, hok, hzero⟩))
    · refine gives_of_run rfl ((Chip.chainImageEnd_of_msg hmsg h1 h2).trans (if_neg ?_))
      rintro ⟨h3, hok, hzero⟩
      rcases hno with h | h | h
      · exact h h3
      · exact ne_true_of_eq_false h hok
      · exact h hzero
  case noMessage =>
    intro h
    obtain ⟨hbegin, hdata, hend⟩ := Chip.chainImage_of_none h
    exact ⟨gives_of_run rfl hbegin, gives_of_run rfl hdata, gives_of_run rfl hend⟩
  case store =>
    intro ht
    refine ⟨fun hst hbusy => ?_, fun hno => ?_⟩
    · exact gives_of_takes rfl ht (if_neg (not_or_intro (not_not_intro hst) (ne_true_of_eq_false hbusy)))
    · exact gives_of_takes rfl ht (if_pos hno)
  case stored =>
    intro hbusy hslot t
    exact gives_of_run rfl ((if_neg (not_bnot hbusy)).trans (if_neg hslot))
  case notStored => exact fun h => gives_of_run rfl (if_pos (bnot h))

/-- Settles O36: the OTP's commands, and the scan with and without a sealed sector. -/
theorem otpAndJournalScanResults : Obligations.OtpAndJournalScanResults := by
  unfold Obligations.OtpAndJournalScanResults
  intro r w s c n i busy set_ ended
  refine ⟨fun ht => ⟨fun h => ?_, fun h => ?_⟩, fun ht => ⟨fun hn hset hbusy => ?_, fun h => ?_⟩, fun ht => ?_, fun h => ⟨?_, ?_⟩,
    fun h => ⟨?_, ?_⟩, fun ht => ⟨fun hst hopen hi => ?_, fun h => ?_⟩, fun h => ?_, fun hup hready => ⟨fun k q hnew => ?_, fun hnew => ⟨fun h => ?_, fun hstrap hvalid => ?_⟩⟩⟩
  · exact gives_of_takes rfl ht (Chip.otpStage_of_room h)
  · exact gives_of_takes rfl ht (if_pos h)
  · exact gives_of_takes rfl ht (if_neg (not_or_intro (Nat.not_lt.2 hn) (not_or_intro (ne_true_of_eq_false hset) (ne_true_of_eq_false hbusy))))
  · exact gives_of_takes rfl ht (if_pos h)
  · exact gives_of_takes rfl ht rfl
  · exact gives_of_run (f := fun d => d.otpProgDone true) rfl (if_neg (not_bnot h))
  · exact gives_of_run (f := fun d => d.otpProgDone false) rfl (if_neg (not_bnot h))
  · exact gives_of_run (f := fun d => d.otpProgDone true) rfl (if_pos (bnot h))
  · exact gives_of_run (f := fun d => d.otpProgDone false) rfl (if_pos (bnot h))
  · exact gives_of_takes rfl ht (if_neg (not_or_intro (not_not_intro hst) (not_or_intro (ne_true_of_eq_false hopen) (Nat.not_le.2 hi))))
  · exact gives_of_takes rfl ht (if_pos h)
  · exact gives_of_run rfl (if_pos (h.elim (fun h => or_inl (bnot h) _) (fun h => or_inr _ h)))
  · obtain ⟨hflag, hsealed, hslot, hseq⟩ := Chip.journalScan_of_newest hup hready hnew
    exact ⟨_, rfl, hflag, hsealed, hslot, hseq, (Chip.journalScan_keeps _).2⟩
  · refine gives_of_run rfl ((Chip.journalScan_of_empty hup hready hnew).trans (congrArg (Chip.put · _ 1) (if_neg ?_)))
    rintro ⟨hstrap, hvalid⟩
    exact h.elim (fun h => h hstrap) (fun h => ne_true_of_eq_false h hvalid)
  · exact gives_of_run rfl ((Chip.journalScan_of_empty hup hready hnew).trans (congrArg (Chip.put · _ 1) (if_pos ⟨hstrap, hvalid⟩)))

end Sys2Proof.Proofs
end

section
/-! PROOF. O37: the listen window, low-power states and wakes. -/

namespace Sys2Proof.Machine

/-- With no engine held in IDLE the exit sets the power state alone (R92, R215). -/
theorem Chip.idleExit_of_none_held {c : Chip} (hst : c.get Reg.SYS_PWR_STAT = 1)
    (hheld : ∀ e : Nat, e < 32 → c.get (Reg.ENG_STAT_IDLE_HELD e) = 0) : c.idleExit = c.put Reg.SYS_PWR_STAT 0 := by
  have hflag (e : Nat) (he : e < 32) : (c.put Reg.SYS_PWR_STAT 0).flag (Reg.ENG_STAT_IDLE_HELD e) = false := by
    have hkey : (Reg.ENG_STAT_IDLE_HELD e).key ≠ Reg.SYS_PWR_STAT.key := by
      simp only [Reg.ENG_STAT_IDLE_HELD, Reg.SYS_PWR_STAT]
      omega
    rw [Chip.flag, Chip.get_put_of_key_ne _ _ hkey, hheld e he]
    rfl
  have hfold : ∀ l : List Nat, (∀ e ∈ l, e < 32) → l.foldl (fun s e =>
      if s.flag (Reg.ENG_STAT_IDLE_HELD e) && s.get (Reg.ENG_STAT_STATE e) == 0 then
        ((((s.put (Reg.ENG_STAT_IDLE_HELD e) 0).put (Reg.ENG_STAT_STATE e) 1).put (Reg.ENG_STAT_EN e) 1).put
          (Reg.ENG_WDOG_LEFT e) (s.wk (Reg.ENG_WDOG e)))
      else s) (c.put Reg.SYS_PWR_STAT 0) = c.put Reg.SYS_PWR_STAT 0 := by
    intro l
    induction l with
    | nil => exact fun _ => rfl
    | cons e l ih =>
      intro hl
      rw [List.foldl_cons, if_neg (not_and_left (ne_true_of_eq_false (hflag e (hl e List.mem_cons_self))) _)]
      exact ih fun k hk => hl k (List.mem_cons_of_mem e hk)
  unfold Chip.idleExit
  rw [if_pos hst]
  exact hfold _ fun e => List.mem_range.1

/-- The timer latches its cause at any time; a node that is PROPOSED reports it (R93; log entry 18). -/
theorem Chip.wakeCause_timer (c : Chip) : c.wakeCause 3 =
    if c.get Reg.CHAIN_SLEEP_STAT_STATE = 1 then
      ({ c with pwr := { c.pwr with wake := setBit c.pwr.wake 3 } }).put Reg.CHAIN_SLEEP_STAT_WAKE_PEND 1
    else { c with pwr := { c.pwr with wake := setBit c.pwr.wake 3 } } := by
  unfold Chip.wakeCause
  simp only [beq_self_eq_true, Bool.or_true, if_true]

/-- A wake is due in STANDBY for any cause, in OFF for an HVI or the timer; else nothing happens. -/
theorem Chip.standbyWake_of_none {c : Chip} (h : c.pwr.phase ≠ .standby ∧ c.pwr.phase ≠ .off ∨ c.pwr.wake = 0 ∨
    (c.pwr.phase = .off ∧ bit c.pwr.wake 1 = false ∧ bit c.pwr.wake 3 = false)) : c.standbyWake = c := by
  refine (if_neg ?_).trans (if_neg ?_)
  · rintro ⟨hphase, hwake⟩
    rcases h with h | h | h
    · exact h.1 hphase
    · exact hwake h
    · exact absurd (hphase.symm.trans h.1) (by decide)
  · rintro ⟨hphase, hwake⟩
    rcases h with h | h | ⟨-, h1, h3⟩
    · exact h.2 hphase
    · rw [h] at hwake
      exact absurd hwake (by decide)
    · exact hwake.elim (ne_true_of_eq_false h1) (ne_true_of_eq_false h3)

theorem Chip.standbyWake_of_off {c : Chip} (hphase : c.pwr.phase = .off) (hwake : bit c.pwr.wake 1 = true ∨ bit c.pwr.wake 3 = true) :
    c.standbyWake = ((((({ c with pwr := { c.pwr with wake := 0, trunkOff := false } }.setLv Reg.SYS_WAKE_CAUSE c.pwr.wake).put
      Reg.SYS_RST_CAUSE c.free)).drew).railUp 0) := by
  refine (if_neg ?_).trans (if_pos ⟨hphase, hwake⟩)
  rintro ⟨hstandby, -⟩
  exact absurd (hphase.symm.trans hstandby) (by decide)

end Sys2Proof.Machine

namespace Sys2Proof.Proofs
open Sys2Proof.Machine

/-- Settles O37: each command by the branch its clause names. -/
theorem lowPowerResults : Obligations.LowPowerResults := by
  unfold Obligations.LowPowerResults
  intro r sec s c a left off
  refine ⟨?listen, ?noListen, fun d => ⟨fun h => if_pos h, fun h => if_neg (ne_true_of_eq_false h)⟩, fun ht => ?request, fun ht => ?timer,
    fun h => gives_of_run rfl (if_pos h), ?expire, ?expireProposed, ?standby, ?off, ?none⟩
  case listen =>
    intro hup hrole hsent hdone
    exact gives_of_run rfl (if_pos (and_intro (and_intro (and_intro hup (beq_iff_eq.2 hrole)) (bnot hsent)) (bnot hdone)))
  case noListen =>
    intro h
    refine gives_of_run rfl (if_neg ?_)
    rcases h with h | h | h
    · exact not_and_left (not_and_left (not_and_right _ fun hr => h (eq_of_beq hr)) _) _
    · exact not_and_left (not_and_right _ (not_bnot h)) _
    · exact not_and_right _ (not_bnot h)
  case request =>
    refine ⟨fun h => ?_, fun h hheld => ?_, fun h => ?_, fun h => ?_, fun h => ?_, fun h0 h1 => ?_, fun h => ?_, ?_, ?_⟩
    · exact gives_of_takes rfl ht (congrArg Chip.ok (if_neg h))
    · exact gives_of_takes rfl ht (congrArg Chip.ok (Chip.idleExit_of_none_held h hheld))
    · exact gives_of_takes rfl ht rfl
    · exact gives_of_takes rfl ht (if_pos h)
    · exact gives_of_takes rfl ht (if_neg h)
    · exact gives_of_takes rfl ht (if_neg (not_or (ne_true_of_eq_false h0) (ne_true_of_eq_false h1)))
    · exact gives_of_takes rfl ht (if_pos (h.elim (or_inl · _) (or_inr _ ·)))
    · exact gives_of_takes rfl ht rfl
    · exact gives_of_takes rfl ht rfl
  case timer => exact gives_of_takes rfl ht rfl
  case expire =>
    exact fun htimer hst => gives_of_run rfl ((if_neg htimer).trans ((Chip.wakeCause_timer _).trans (if_neg hst)))
  case expireProposed =>
    exact fun htimer hst => gives_of_run rfl ((if_neg htimer).trans ((Chip.wakeCause_timer _).trans (if_pos hst)))
  case standby => exact fun hphase hwake => gives_of_run rfl (if_pos ⟨hphase, hwake⟩)
  case off => exact fun hphase hwake => gives_of_run rfl (Chip.standbyWake_of_off hphase hwake)
  case none => exact fun h => gives_of_run rfl (Chip.standbyWake_of_none h)

end Sys2Proof.Proofs
end

section
/-! PROOF. O38 and O39: training of a link, and what leaving ACTIVE does. -/

namespace Sys2Proof.Machine

/-- A port reads what was set of it. -/
theorem Chip.gl_setGl_same (c : Chip) (q : Nat) (x : LnkPort) : (c.setGl q x).gl q = x := SMap.get_put_same _ _ _ _

/-! The exits of the training states (Table LINK-4). -/

section Exit
variable {c : Chip} {q : Nat} {obs : TrainObs}

theorem Chip.stateExit_of_detect (h : c.get (Reg.LINK_STAT_STATE q) = 2) : c.stateExit q obs = if obs.lanes = 0 then c else
    ((((((c.notePartner q obs).setGl q { (c.notePartner q obs).gl q with lanes := obs.lanes.toNat }).put (Reg.LINK_STAT_INV0 q)
      (b2n (obs.inv.getLsbD 0))).put (Reg.LINK_STAT_INV1 q) (b2n (obs.inv.getLsbD 1))).put (Reg.LINK_STAT_LANE_SWAP q) 0).linkEnter q 3) := by
  unfold Chip.stateExit
  rw [h]
  rfl

/-- Physical lane 1 alone becomes logical lane 0. -/
def Chip.swapFound (c : Chip) (q : Nat) (obs : TrainObs) : Bool := if (c.gl q).lanes = 3 then obs.swap else (c.gl q).lanes == 2

theorem Chip.stateExit_of_order (h : c.get (Reg.LINK_STAT_STATE q) = 3) : c.stateExit q obs =
    (((((c.notePartner q obs).setGl q { (c.notePartner q obs).gl q with lanes := logical (c.swapFound q obs) (c.gl q).lanes }).put
      (Reg.LINK_STAT_LANE_SWAP q) (b2n (c.swapFound q obs))).put
      (Reg.LINK_STAT_INV0 q) (b2n (bit (logical (c.swapFound q obs) (c.get (Reg.LINK_STAT_INV0 q) + 2 * c.get (Reg.LINK_STAT_INV1 q))) 0))).put
      (Reg.LINK_STAT_INV1 q) (b2n (bit (logical (c.swapFound q obs) (c.get (Reg.LINK_STAT_INV0 q) + 2 * c.get (Reg.LINK_STAT_INV1 q))) 1))).linkEnter q 4 := by
  unfold Chip.stateExit
  rw [h]
  rfl

/-- The preset that EQ shows: the one forced, else the one found. -/
def Chip.presetShown (c : Chip) (q n : Nat) : Nat := if c.flag (Reg.LINK_PHY_EQ_FORCE q) then c.get (Reg.LINK_PHY_EQ_PRESET q) else n

theorem Chip.stateExit_of_eq (h : c.get (Reg.LINK_STAT_STATE q) = 4) : c.stateExit q obs =
    if (c.gl q).lanes &&& obs.usable.toNat = 0 then c else
    ((((((c.notePartner q obs).setGl q { (c.notePartner q obs).gl q with lanes := (c.gl q).lanes &&& obs.usable.toNat }).put
      (Reg.LINK_EQ_PRE0 q) (c.presetShown q obs.pre0.toNat)).put (Reg.LINK_EQ_PRE1 q) (c.presetShown q obs.pre1.toNat)).put
      (Reg.LINK_EQ_CTLE0 q) obs.ctle0.toNat).put (Reg.LINK_EQ_CTLE1 q) obs.ctle1.toNat).linkEnter q 5 := by
  unfold Chip.stateExit
  rw [h]
  rfl

theorem Chip.stateExit_of_config (h : c.get (Reg.LINK_STAT_STATE q) = 5) : c.stateExit q obs =
    (((c.notePartner q obs).linkEnter q 6).put (Reg.LINK_STAT_WIDTH q) (if (if (c.notePartner q obs).seniorByRank q then
        (c.notePartner q obs).targetWidth q else obs.target.toNat) = 2 ∧ ((c.notePartner q obs).gl q).lanes = 3 then 2 else 1)).put
      (Reg.LINK_STAT_SENIOR q) (b2n ((c.notePartner q obs).seniorByRank q)) := by
  unfold Chip.stateExit
  rw [h]
  rfl

/-- No other state has an exit of this kind. -/
theorem Chip.stateExit_of_other (h : c.get (Reg.LINK_STAT_STATE q) < 2 ∨ 5 < c.get (Reg.LINK_STAT_STATE q)) : c.stateExit q obs = c := by
  unfold Chip.stateExit
  split
  case h_1 heq => omega
  case h_2 heq => omega
  case h_3 heq => omega
  case h_4 heq => omega
  case h_5 => rfl

end Exit

/-! The end of CONFIRM. -/

/-- What ACTIVE counts and shows before the port's role decides (R109). -/
def Chip.linkShown (c : Chip) (q outRes retRes : Nat) : Chip :=
  let t := (((c.put (Reg.LINK_STAT_STATE q) 7).inc (Reg.LINK_TRAIN_CNT q)).put Reg.CLK_RESID_OUT outRes).put Reg.CLK_RESID_RET retRes
  let u := if t.isHead = true ∧ (!t.linkTailward (1 - q)) = true then t.put (Reg.LINK_STAT_ROLE q) 1 else t
  (u.put (Reg.LINK_STAT_SENIOR q) (b2n (u.senior q))).fire 48 (detail q 0)

theorem Chip.linkBegin_eq (c : Chip) (q outRes retRes : Nat) : c.linkBegin q outRes retRes =
    if (c.linkShown q outRes retRes).linkTailward q || (c.linkShown q outRes retRes).isHead then (c.linkShown q outRes retRes).tailLink q
    else if (c.linkShown q outRes retRes).headPort = some q then
      (({ c.linkShown q outRes retRes with chain := { (c.linkShown q outRes retRes).chain with gotA := false } }.put
        Reg.CHAIN_STAT_DLY_PEND 1).memberTrunk).chainShow
    else c.linkShown q outRes retRes := rfl

/-! The loss of a lane. -/

section Lane
variable {c : Chip} {q lane : Nat} (hscan : c.flag (Reg.LINK_MARGIN_BUSY q) = false)
include hscan

/-- Of two lanes the other goes on as lane 0 (R112). -/
theorem Chip.laneGone_of_two (hw : c.get (Reg.LINK_STAT_WIDTH q) = 2) :
    c.laneGone q lane = (((if lane = 0 then c.renumber q else c).setGl q { (if lane = 0 then c.renumber q else c).gl q with
      lanes := 1, lane1 := false }).put (Reg.LINK_STAT_WIDTH q) 1).alm 3 := by
  unfold Chip.laneGone
  have hnoScan : ¬ (c.flag (Reg.LINK_MARGIN_BUSY q) = true ∧ (c.gl q).scan = lane) := fun h => ne_true_of_eq_false hscan h.1
  rw [if_neg hnoScan]
  exact if_pos hw

/-- The only lane takes the port DOWN. -/
theorem Chip.laneGone_of_one (hw : c.get (Reg.LINK_STAT_WIDTH q) ≠ 2) (hlane : lane ≠ 1) :
    c.laneGone q lane = (c.setGl q { c.gl q with sig := 0, lanes := 0 }).linkDrop q 0 := by
  unfold Chip.laneGone
  have hnoScan : ¬ (c.flag (Reg.LINK_MARGIN_BUSY q) = true ∧ (c.gl q).scan = lane) := fun h => ne_true_of_eq_false hscan h.1
  rw [if_neg hnoScan]
  exact (if_neg hw).trans (if_neg hlane)

/-- Lane 1 of a x1 link that nobody asks for changes its own state alone. -/
theorem Chip.laneGone_of_spare (hw : c.get (Reg.LINK_STAT_WIDTH q) ≠ 2) (hfixed : (c.gl q).fixed = none)
    (hbusy : c.flag (Reg.LINK_STAT_REQ_BUSY q) = false) :
    c.laneGone q 1 = c.setGl q { c.gl q with lanes := 1, lane1 := false } := by
  unfold Chip.laneGone
  have hnoScan : ¬ (c.flag (Reg.LINK_MARGIN_BUSY q) = true ∧ (c.gl q).scan = 1) := fun h => ne_true_of_eq_false hscan h.1
  rw [if_neg hnoScan]
  refine (if_neg hw).trans ((if_pos rfl).trans ?_)
  extract_lets x s
  have hgl : (s.gl q).fixed = none := (congrArg LnkPort.fixed (Chip.gl_setGl_same _ _ _)).trans hfixed
  rw [hgl]
  exact if_neg fun h => ne_true_of_eq_false hbusy h.1

end Lane

/-! Entry to a training state. -/

/-- An event leaves what neither a register, an engine, the hub nor the event block holds. -/
theorem Chip.fire_leaves {β : Type} (p : Chip → β) (hput : ∀ s f v, p (Chip.put s f v) = p s) (heng : ∀ s e x, p (Chip.setEng s e x) = p s)
    (hhub : ∀ (s : Chip) h, p { s with hub := h } = p s) (hevt : ∀ (s : Chip) e, p { s with evt := e } = p s) (s : Chip) (src det : Nat) :
    p (s.fire src det) = p s := by
  have hidle (c : Chip) : p c.idleExit = p c := by
    unfold Chip.idleExit
    split
    · refine (Chip.foldl_leaves p (fun c j => ?_) _ _).trans (hput _ _ _)
      split
      · rw [hput, hput, hput, hput]
      · rfl
    · rfl
  have hpend (c : Chip) (m : Nat) : p (c.setPending m src) = p c := by
    unfold Chip.setPending
    split
    · rfl
    · refine Chip.foldl_leaves p (fun c j => ?_) _ _
      split
      · exact heng _ _ _
      · rfl
  unfold Chip.fire
  split
  · rfl
  · extract_lets rt0 lim rt1 b c hub d now last supp limited evt
    have hb : p b = p s := (hput _ _ _).trans (hpend s rt0)
    have hc : p c = p s := by
      simp only [c]
      split
      · exact (hidle b).trans hb
      · exact hb
    have hd : p d = p s := by
      simp only [d]
      split
      · exact (hhub c _).trans hc
      · exact hc
    split
    · exact (hevt _ _).trans ((hput _ _ _).trans hd)
    · split <;> exact (hevt _ _).trans hd

/-- Port q stands in state st with no width, its request of a width gone. -/
def Chip.entered (c : Chip) (q st : Nat) : Chip :=
  ((c.put (Reg.LINK_STAT_STATE q) st).put (Reg.LINK_STAT_WIDTH q) 0).setGl q { c.gl q with fixed := none, since := c.ct.toNat }

/-- The link of port q breaks: no join link, no lift of a tailward port, counted and told. -/
def Chip.broken (c : Chip) (q : Nat) (tailward : Bool) : Chip :=
  let cut : Chip := { c with chain := { c.chain with join := clrBit c.chain.join q } }
  ({ cut with chain := { cut.chain with lift := if tailward then false else cut.chain.lift } }.inc (Reg.LINK_DOWN_CNT q)).fire 49 (detail q 0)

/-- A field of port q that entering a training state leaves. -/
def Fld.keptByEnter (f : Fld) (q : Nat) : Prop :=
  f.key ≠ (Reg.LINK_STAT_STATE q).key ∧ f.key ≠ (Reg.LINK_STAT_WIDTH q).key ∧ f.key ≠ (Reg.LINK_DOWN_CNT q).key ∧
    f.key < 32 * 0x1050000 ∧ f.key ≠ Reg.SYS_PWR_STAT.key

theorem Chip.entered_get {c : Chip} {q st : Nat} {f : Fld} (hf : f.keptByEnter q) : (c.entered q st).get f = c.get f := by
  obtain ⟨hstate, hwidth, -, -, -⟩ := hf
  exact (Chip.get_put_of_key_ne (c.put (Reg.LINK_STAT_STATE q) st) 0 hwidth).trans (Chip.get_put_of_key_ne c st hstate)

theorem Chip.broken_get {c : Chip} {q : Nat} {tailward : Bool} {f : Fld} (hf : f.keptByEnter q) : (c.broken q tailward).get f = c.get f := by
  obtain ⟨-, -, hcnt, hlt, hpwr⟩ := hf
  refine (Chip.fire_get_of_lt hlt hpwr).trans ?_
  rw [Chip.inc_eq]
  exact Chip.get_put_of_key_ne _ _ hcnt

theorem Chip.broken_test (c : Chip) (q : Nat) (tailward : Bool) : (c.broken q tailward).test = c.test :=
  Chip.fire_leaves Chip.test (fun _ _ _ => rfl) (fun _ _ _ => rfl) (fun _ _ => rfl) (fun _ _ => rfl) _ _ _

/-- The fields that the break asks for are no others than port q's flags. -/
theorem keptByEnter_flags {q : Nat} (hq : q < 2) : (Reg.LINK_STAT_REQ_BUSY q).keptByEnter q ∧ (Reg.LINK_MARGIN_BUSY q).keptByEnter q ∧
    (Reg.LINK_STAT_ROLE q).keptByEnter q := by
  simp only [Fld.keptByEnter, Reg.LINK_STAT_STATE, Reg.LINK_STAT_WIDTH, Reg.LINK_DOWN_CNT, Reg.LINK_STAT_REQ_BUSY, Reg.LINK_MARGIN_BUSY,
    Reg.LINK_STAT_ROLE, Reg.SYS_PWR_STAT]
  omega

section Enter
variable {c : Chip} {q st : Nat} (hq : q < 2) (hbusy : c.flag (Reg.LINK_STAT_REQ_BUSY q) = false)
include hq hbusy

/-- Out of another state than ACTIVE nothing else happens. -/
theorem Chip.linkEnter_of_inactive (h : c.linkActive q = false) : c.linkEnter q st = c.entered q st := by
  have hidle : (c.entered q st).flag (Reg.LINK_STAT_REQ_BUSY q) = false :=
    (congrArg (· != 0) (Chip.entered_get (keptByEnter_flags hq).1)).trans hbusy
  unfold Chip.linkEnter
  exact (if_pos (bnot h)).trans (if_neg (ne_true_of_eq_false hidle))

/-- A break of the link with no scan and no test on it. -/
theorem Chip.linkEnter_of_active (h : c.linkActive q = true) (hscan : c.flag (Reg.LINK_MARGIN_BUSY q) = false) (htest : c.test.run = none) :
    c.linkEnter q st = if c.linkTailward q then (((c.entered q st).broken q (c.linkTailward q)).alm 1).foldBack
      else ((c.entered q st).broken q (c.linkTailward q)).alm 2 := by
  obtain ⟨hfBusy, hfScan, hfRole⟩ := keptByEnter_flags hq
  have hidle : (c.entered q st).flag (Reg.LINK_STAT_REQ_BUSY q) = false := (congrArg (· != 0) (Chip.entered_get hfBusy)).trans hbusy
  have hrole : (c.entered q st).linkTailward q = c.linkTailward q := congrArg (· != 0) (Chip.entered_get hfRole)
  generalize hd : (c.entered q st).broken q (c.linkTailward q) = d
  have hroleLeft : d.linkTailward q = c.linkTailward q := by
    subst hd
    exact (congrArg (· != 0) (Chip.broken_get hfRole)).trans hrole
  have hscanLeft : d.flag (Reg.LINK_MARGIN_BUSY q) = false := by
    subst hd
    exact (congrArg (· != 0) ((Chip.broken_get hfScan).trans (Chip.entered_get hfScan))).trans hscan
  have htestLeft : d.testing 2 q = false := by
    subst hd
    have hrun : (c.entered q st).test.run = none := htest
    rw [Chip.testing, Chip.broken_test, hrun]
  have huncut : (d.marginCut q).nbAbort q = d := by
    rw [show d.marginCut q = d from if_pos (bnot hscanLeft)]
    exact if_neg (ne_true_of_eq_false htestLeft)
  have hstages : c.linkEnter q st = if ((d.marginCut q).nbAbort q).linkTailward q then (((d.marginCut q).nbAbort q).alm 1).foldBack
      else ((d.marginCut q).nbAbort q).alm 2 := by
    subst hd
    unfold Chip.linkEnter
    extract_lets was a x b e cut f g lift last
    have he : e = c.entered q st := if_neg (ne_true_of_eq_false hidle)
    have hlift : (lift.inc (Reg.LINK_DOWN_CNT q)).fire 49 (detail q 0) = (c.entered q st).broken q (c.linkTailward q) := by
      have hf : f.linkTailward q = c.linkTailward q := (congrArg (Chip.linkTailward · q) he).trans hrole
      clear_value e
      subst he
      cases htail : c.linkTailward q with
      | true => exact congrArg (fun d : Chip => (d.inc (Reg.LINK_DOWN_CNT q)).fire 49 (detail q 0)) (if_pos (hf.trans htail))
      | false =>
        exact congrArg (fun d : Chip => (d.inc (Reg.LINK_DOWN_CNT q)).fire 49 (detail q 0))
          (if_neg (ne_true_of_eq_false (hf.trans htail)))
    have hlast : last = (((c.entered q st).broken q (c.linkTailward q)).marginCut q).nbAbort q :=
      congrArg (fun d : Chip => (d.marginCut q).nbAbort q) hlift
    exact (if_neg (not_bnot h)).trans (by rw [hlast])
  rw [hstages, huncut, hroleLeft]

end Enter

end Sys2Proof.Machine

namespace Sys2Proof.Proofs
open Sys2Proof.Machine

/-- Settles O38: state by state of Table LINK-4. -/
theorem linkTrainingResults : Obligations.LinkTrainingResults := by
  unfold Obligations.LinkTrainingResults
  intro r p lane obs outRes retRes s c q st x told
  refine ⟨?detect, ?noDetect, fun htrain => ⟨?detected, ?undetected, ?order, ?eq, ?config, ?other⟩, ?noAdvance, ?timeout, ?noTimeout, ?quiet,
    ?noQuiet, ?up, ?notUp, ?lost, ?notLost, fun ht => ⟨?enable, ?noEnable⟩, fun ht => ?disable⟩
  case detect =>
    exact fun htrain hst => gives_of_run (f := fun d => d.signalDetect q) rfl (if_pos (and_intro htrain (beq_iff_eq.2 hst)))
  case noDetect =>
    refine fun h => gives_of_run (f := fun d => d.signalDetect q) rfl (if_neg ?_)
    exact h.elim (fun h => not_and_left (ne_true_of_eq_false h) _) (fun h => not_and_right _ fun he => h (eq_of_beq he))
  case detected =>
    exact fun hst hlanes => gives_of_run (f := fun d => d.stateAdvance q obs) rfl
      ((if_pos htrain).trans (congrArg (Chip.tellIdl · q false) ((Chip.stateExit_of_detect hst).trans (if_neg hlanes))))
  case undetected =>
    exact fun hst hlanes => gives_of_run (f := fun d => d.stateAdvance q obs) rfl
      ((if_pos htrain).trans (congrArg (Chip.tellIdl · q false) ((Chip.stateExit_of_detect hst).trans (if_pos hlanes))))
  case order =>
    exact fun hst => gives_of_run (f := fun d => d.stateAdvance q obs) rfl
      ((if_pos htrain).trans (congrArg (Chip.tellIdl · q false) (Chip.stateExit_of_order hst)))
  case eq =>
    intro hst use preset
    exact ⟨fun huse => gives_of_run (f := fun d => d.stateAdvance q obs) rfl
        ((if_pos htrain).trans (congrArg (Chip.tellIdl · q false) ((Chip.stateExit_of_eq hst).trans (if_pos huse)))),
      fun huse => gives_of_run (f := fun d => d.stateAdvance q obs) rfl
        ((if_pos htrain).trans (congrArg (Chip.tellIdl · q false) ((Chip.stateExit_of_eq hst).trans (if_neg huse))))⟩
  case config =>
    exact fun hst => gives_of_run (f := fun d => d.stateAdvance q obs) rfl
      ((if_pos htrain).trans (congrArg (Chip.tellIdl · q false) (Chip.stateExit_of_config hst)))
  case other =>
    exact fun hst => gives_of_run (f := fun d => d.stateAdvance q obs) rfl
      ((if_pos htrain).trans (congrArg (Chip.tellIdl · q false) (Chip.stateExit_of_other hst)))
  case noAdvance => exact fun h => gives_of_run (f := fun d => d.stateAdvance q obs) rfl (if_neg (ne_true_of_eq_false h))
  case timeout =>
    exact fun hup hlo hhi => gives_of_run (f := fun d => d.trainTimeout q) rfl (if_neg (not_or (not_or (not_bnot hup)
      (ne_true_of_eq_false (decide_eq_false (Nat.not_lt.2 hlo)))) (ne_true_of_eq_false (decide_eq_false (Nat.not_lt.2 hhi)))))
  case noTimeout =>
    exact fun h => gives_of_run (f := fun d => d.trainTimeout q) rfl
      (if_pos (h.elim (fun h => or_inl (or_inr _ (decide_eq_true h)) _) (fun h => or_inr _ (decide_eq_true h))))
  case quiet => exact fun hup hst => gives_of_run (f := fun d => d.quietEnd q) rfl (if_pos (and_intro hup (beq_iff_eq.2 hst)))
  case noQuiet => exact fun hst => gives_of_run (f := fun d => d.quietEnd q) rfl (if_neg (not_and_right _ fun he => hst (eq_of_beq he)))
  case up =>
    intro htrain hst t u v
    have hv : c.linkShown q outRes.toNat retRes.toNat = v := by
      have hu : (if t.isHead = true ∧ (!t.linkTailward (1 - q)) = true then t.put (Reg.LINK_STAT_ROLE q) 1 else t) = u := by
        simp only [Bool.not_eq_true', u]
      exact congrArg (fun u : Chip => (u.put (Reg.LINK_STAT_SENIOR q) (b2n (u.senior q))).fire 48 (detail q 0)) hu
    have hup : c.linkUp q outRes.toNat retRes.toNat = (c.linkBegin q outRes.toNat retRes.toNat).tellIdl q false :=
      if_pos (and_intro htrain (beq_iff_eq.2 hst))
    rw [Chip.linkBegin_eq, hv] at hup
    clear_value v
    refine ⟨fun h => ?_, fun htail hhead hport => ?_, fun htail hhead hport => ?_⟩
    · refine gives_of_run (f := fun d => d.linkUp q outRes.toNat retRes.toNat) rfl (hup.trans ?_)
      rw [if_pos (h.elim (or_inl · _) (or_inr _ ·))]
    · refine gives_of_run (f := fun d => d.linkUp q outRes.toNat retRes.toNat) rfl (hup.trans ?_)
      rw [if_neg (not_or (ne_true_of_eq_false htail) (ne_true_of_eq_false hhead)), if_pos hport]
    · refine gives_of_run (f := fun d => d.linkUp q outRes.toNat retRes.toNat) rfl (hup.trans ?_)
      rw [if_neg (not_or (ne_true_of_eq_false htail) (ne_true_of_eq_false hhead)), if_neg hport]
  case notUp =>
    refine fun h => gives_of_run (f := fun d => d.linkUp q outRes.toNat retRes.toNat) rfl (if_neg ?_)
    exact h.elim (fun h => not_and_left (ne_true_of_eq_false h) _) (fun h => not_and_right _ fun he => h (eq_of_beq he))
  case lost =>
    intro hup hst hscan t
    have hloss {d : Chip} (h : (c.laneGone q lane.val).tellIdl q false = d) : Gives (.laneLoss p lane) s d :=
      gives_of_run (f := fun d => d.laneLoss q lane.val) rfl ((if_pos (and_intro hup (beq_iff_eq.2 hst))).trans h)
    refine ⟨fun hw => hloss ?_, fun hw hlane => hloss ?_, fun hw hlane hfixed hbusy => hloss ?_⟩
    · have ht : (if lane.val = 0 then c.renumber q else c) = t := ite_of_iff (Fin.ext_iff (b := (0 : Fin 2))).symm
      rw [Chip.laneGone_of_two hscan hw, ht]
    · rw [hlane, Chip.laneGone_of_one hscan hw (by decide)]
      rfl
    · rw [hlane]
      exact congrArg (Chip.tellIdl · q false) (Chip.laneGone_of_spare hscan hw hfixed hbusy)
  case notLost =>
    exact fun hst => gives_of_run (f := fun d => d.laneLoss q lane.val) rfl (if_neg (not_and_right _ fun he => hst (eq_of_beq he)))
  case enable => exact fun hact => gives_of_takes rfl ht (if_neg (not_bnot hact))
  case noEnable => exact fun hact => gives_of_takes rfl ht (if_pos (bnot hact))
  case disable =>
    intro t
    exact ⟨fun hact => gives_of_takes rfl ht (if_neg (not_bnot hact)), fun hact => gives_of_takes rfl ht (if_pos (bnot hact))⟩

/-- Settles O39: entry to a training state out of ACTIVE and out of any other. -/
theorem leavingActiveBreaksTheLink : Obligations.LeavingActiveBreaksTheLink := by
  unfold Obligations.LeavingActiveBreaksTheLink
  intro c p st _ hup hbusy hscan htest q t cut down
  have hdown : (c.entered q st).broken q (c.linkTailward q) = down := rfl
  have hdownUp : down.coreUp = true := by
    rw [← hdown, Chip.broken, Chip.coreUp, Chip.fire_pwr]
    exact hup
  clear_value down
  refine ⟨fun h => Chip.linkEnter_of_inactive p.isLt hbusy h, fun h htail => ?_, fun h htail => ?_⟩
  · rw [Chip.linkEnter_of_active p.isLt hbusy h hscan htest, hdown, if_pos htail, Chip.alm, if_pos hdownUp]
  · rw [Chip.linkEnter_of_active p.isLt hbusy h hscan htest, hdown, if_neg (ne_true_of_eq_false htail), Chip.alm, if_pos hdownUp]

end Sys2Proof.Proofs
end

section
/-! PROOF. O40: width and retrain requests on a link. -/

namespace Sys2Proof.Machine

/-! The partner's request. -/

section Receive
variable {c : Chip} {q : Nat} {body : List (BitVec 8)} (hup : c.coreUp = true) (hact : c.get (Reg.LINK_STAT_STATE q) = 7)
include hup hact

/-- An ACTIVE link hears what is no part of a frame. -/
theorem Chip.requestReceive_of_active : c.requestReceive q body = if c.frameOpen q then c.codeBad q else if !bodyOk 20 body then c else
    if bit (leNat ((body.drop 13).take 1)) 1 || (bit (leNat ((body.drop 13).take 1)) 2 &&
        !(c.rankHeard q (leNat ((body.drop 3).take 1) % 4)).testing 2 q) then
      (c.rankHeard q (leNat ((body.drop 3).take 1) % 4)).requestTake q (bit (leNat ((body.drop 13).take 1)) 1)
        (leNat ((body.drop 2).take 1) % 4) (leNat ((body.drop 14).take 4))
    else c.rankHeard q (leNat ((body.drop 3).take 1) % 4) := by
  unfold Chip.requestReceive
  exact if_neg (not_or (not_bnot hup) (not_bnot (beq_iff_eq.2 hact)))

end Receive

/-- What an end withdraws of its own when its senior partner asks (R113, R114). -/
def Chip.withdrawn (c : Chip) (q : Nat) : Chip :=
  let t := ((c.linkReqEnd q 2).inc (Reg.LINK_WITHDRAW_CNT q)).fire 50 (detail q 0)
  if c.asking q then (if (t.gl q).byNode then t.setGl q { t.gl q with again := true } else t) else c

section Take
variable {c : Chip} {q w cyc : Nat}

/-- The senior's own request stands. -/
theorem Chip.requestTake_of_senior {retrain : Bool} (hasks : c.asking q = true) (hsenior : c.senior q = true) :
    c.requestTake q retrain w cyc = c := if_pos (and_intro hasks hsenior)

/-- Any other end takes the partner's. -/
theorem Chip.requestTake_of_junior {retrain : Bool} (h : c.asking q = true → c.senior q = false) :
    c.requestTake q retrain w cyc = if retrain then ((c.withdrawn q).tellIdl q true).linkDrop q 2
      else if (w = 1 ∨ w = 2) ∧ later cyc ((c.withdrawn q).get Reg.CLK_CYC_NUM) then
        ((c.withdrawn q).setGl q { (c.withdrawn q).gl q with fixed := some (w, cyc) }).tellIdl q true
      else c.withdrawn q := by
  unfold Chip.requestTake
  have hstands : ¬ (c.asking q && c.senior q) = true := by
    cases hasks : c.asking q with
    | true => exact not_and_right _ (ne_true_of_eq_false (h hasks))
    | false => exact not_and_left Bool.false_ne_true _
  rw [if_neg hstands]
  rfl

end Take

/-! The switch of the width at its cycle. -/

section Switch
variable {c : Chip} {q wd cy : Nat}

/-- With nothing fixed no width switches. -/
theorem Chip.widthSwitch_of_none (h : (c.gl q).fixed = none) : c.widthSwitch q = c := by
  unfold Chip.widthSwitch
  rw [h]

/-- An upshift whose lane 1 is not ready fails. -/
def Chip.upshiftFails (c : Chip) (q wd : Nat) : Bool := wd == 2 && c.get (Reg.LINK_STAT_WIDTH q) != 2 && !(c.gl q).lane1

/-- The lanes after the switch. -/
def Chip.switched (c : Chip) (q wd : Nat) : Chip :=
  c.setGl q { c.gl q with fixed := none, lanes := if c.upshiftFails q wd ∨ wd = 1 then 1 else 3, lane1 := false }

/-- The busy bit of a request does not depend on the width shown. -/
theorem Chip.flag_busy_of_width (c : Chip) (q v : Nat) :
    (c.put (Reg.LINK_STAT_WIDTH q) v).flag (Reg.LINK_STAT_REQ_BUSY q) = c.flag (Reg.LINK_STAT_REQ_BUSY q) := by
  have hkey : (Reg.LINK_STAT_REQ_BUSY q).key ≠ (Reg.LINK_STAT_WIDTH q).key := by
    simp only [Reg.LINK_STAT_REQ_BUSY, Reg.LINK_STAT_WIDTH]
    omega
  exact congrArg (· != 0) (Chip.get_put_of_key_ne _ _ hkey)

variable (hup : c.coreUp = true) (hact : c.get (Reg.LINK_STAT_STATE q) = 7) (hfixed : (c.gl q).fixed = some (wd, cy))
  (hnow : later cy (c.get Reg.CLK_CYC_NUM) = false) (hbusy : c.flag (Reg.LINK_STAT_REQ_BUSY q) = false)
include hup hact hfixed hnow hbusy

/-- A failed upshift shows no other width. -/
theorem Chip.widthSwitch_of_fail (hfail : c.upshiftFails q wd = true) : c.widthSwitch q = c.switched q wd := by
  unfold Chip.widthSwitch
  rw [hfixed]
  refine (if_neg (not_or (not_or (not_bnot hup) (not_bnot (beq_iff_eq.2 hact))) (ne_true_of_eq_false hnow))).trans ?_
  extract_lets was fail x a b d
  have hf : fail = true := hfail
  have hb : b = a := if_pos hf
  have hd : d = b := if_neg fun h => not_bnot hf h.1
  have hidle : a.flag (Reg.LINK_STAT_REQ_BUSY q) = false := hbusy
  rw [hd, hb]
  exact if_neg fun h => ne_true_of_eq_false hidle h.1

/-- Any other switch shows its width; it cuts no scan where none ran on a lane that goes. -/
theorem Chip.widthSwitch_of_success (hgood : c.upshiftFails q wd = false)
    (hscan : ¬ (wd = 1 ∧ c.get (Reg.LINK_STAT_WIDTH q) = 2 ∧ (c.gl q).scan = 1)) :
    c.widthSwitch q = (c.switched q wd).put (Reg.LINK_STAT_WIDTH q) wd := by
  unfold Chip.widthSwitch
  rw [hfixed]
  refine (if_neg (not_or (not_or (not_bnot hup) (not_bnot (beq_iff_eq.2 hact))) (ne_true_of_eq_false hnow))).trans ?_
  extract_lets was fail x a b d
  have hf : fail = false := hgood
  have hb : b = a.put (Reg.LINK_STAT_WIDTH q) wd := if_neg (ne_true_of_eq_false hf)
  have hgl : (a.gl q).scan = (c.gl q).scan := (congrArg LnkPort.scan (Chip.gl_setGl_same _ _ _)).trans rfl
  have hgb : (b.gl q).scan = (c.gl q).scan := (congrArg (fun t : Chip => (t.gl q).scan) hb).trans hgl
  have hd : d = b := if_neg fun h => hscan ⟨h.2.1, h.2.2.1, hgb.symm.trans h.2.2.2⟩
  have hidle : (a.put (Reg.LINK_STAT_WIDTH q) wd).flag (Reg.LINK_STAT_REQ_BUSY q) = false := (Chip.flag_busy_of_width _ _ _).trans hbusy
  rw [hd, hb]
  exact if_neg fun h => ne_true_of_eq_false hidle h.1

end Switch

/-! Errors of a lane. -/

/-- The count of a lane's errors is none of the fields the policy asks for. -/
theorem Chip.counted_get {c : Chip} {q lane n : Nat} {f : Fld} (h0 : f.key ≠ (Reg.LINK_CG_ERR0 q).key) (h1 : f.key ≠ (Reg.LINK_CG_ERR1 q).key) :
    (c.add (if lane = 0 then Reg.LINK_CG_ERR0 q else Reg.LINK_CG_ERR1 q) n).get f = c.get f := by
  unfold Chip.add
  refine Chip.get_put_of_key_ne _ _ ?_
  split
  · exact h0
  · exact h1

/-- Beyond the limit of the policy an idle ACTIVE link asks for a retrain of its own (R97, R115). -/
theorem Chip.errLimit_of_up {c : Chip} {q lane n : Nat} (hup : c.coreUp = true) :
    c.errLimit q lane n = if c.wk (Reg.LINK_POLICY q) ≠ 0 ∧ c.wk (Reg.LINK_POLICY q) < n ∧ c.linkActive q ∧
        !c.flag (Reg.LINK_STAT_REQ_BUSY q) then
      (c.add (if lane = 0 then Reg.LINK_CG_ERR0 q else Reg.LINK_CG_ERR1 q) n).request q 1 0 true
    else c.add (if lane = 0 then Reg.LINK_CG_ERR0 q else Reg.LINK_CG_ERR1 q) n := by
  unfold Chip.errLimit
  rw [if_neg (not_bnot hup)]
  extract_lets d lim
  have hactive : d.linkActive q = c.linkActive q := by
    refine congrArg (· == 7) (Chip.counted_get ?_ ?_) <;>
      simp only [Reg.LINK_STAT_STATE, Reg.LINK_CG_ERR0, Reg.LINK_CG_ERR1] <;> omega
  have hbusy : d.flag (Reg.LINK_STAT_REQ_BUSY q) = c.flag (Reg.LINK_STAT_REQ_BUSY q) := by
    refine congrArg (· != 0) (Chip.counted_get ?_ ?_) <;>
      simp only [Reg.LINK_STAT_REQ_BUSY, Reg.LINK_CG_ERR0, Reg.LINK_CG_ERR1] <;> omega
  rw [hactive, hbusy]
  rfl

end Sys2Proof.Machine

namespace Sys2Proof.Proofs
open Sys2Proof.Machine

/-- Settles O40: requests from either end, and what becomes of them. -/
theorem linkRequestResults : Obligations.LinkRequestResults := by
  unfold Obligations.LinkRequestResults
  intro r p lane w body n wd cy s c q x act busy a aw asked ended good flags wAsk cAsk rank heard inFrame counted
  refine ⟨fun ht => ⟨?retrain, ?noRetrain⟩, fun ht => ⟨?noWidth, ?width, ?nothing⟩, ?junior, ?senior, ?framed, ?badBody, ?inactive, ?asked, ?silent,
    ?switch, ?noSwitch, ?ready, ?reissue, ?noReissue, ?limit⟩
  case retrain =>
    exact fun hbusy hact => gives_of_takes rfl ht (if_neg (not_or (not_bnot hact) (ne_true_of_eq_false hbusy)))
  case noRetrain =>
    exact fun h => gives_of_takes rfl ht (if_pos (h.elim (or_inr _ ·) (fun h => or_inl (bnot h) _)))
  case noWidth =>
    intro h hw
    have hasks : ¬ (w.toNat = 0 ∨ w.toNat = 3) := by
      rcases hw with rfl | rfl <;> decide
    refine gives_of_takes rfl ht ((if_neg hasks).trans (if_pos ?_))
    rcases h with h | h | ⟨h, htest⟩
    · exact or_inr _ h
    · exact or_inl (or_inr _ (bnot h)) _
    · exact or_inl (or_inl (and_intro (by rw [h]; rfl) htest) _) _
  case width =>
    intro hbusy hact hw
    have hasks : ¬ (w.toNat = 0 ∨ w.toNat = 3) := by
      rcases hw with rfl | ⟨rfl, -⟩ <;> decide
    refine gives_of_takes rfl ht ((if_neg hasks).trans (if_neg (not_or (not_or ?_ (not_bnot hact)) (ne_true_of_eq_false hbusy))))
    rcases hw with rfl | ⟨-, htest⟩
    · exact not_and_left (by decide) _
    · exact not_and_right _ (ne_true_of_eq_false htest)
  case nothing =>
    intro hw
    refine gives_of_takes rfl ht (if_pos ?_)
    rcases hw with rfl | rfl <;> decide
  case junior =>
    intro hup hact hframe hgood hjunior t own
    have hreceive := (Chip.requestReceive_of_active (body := body) hup hact).trans
      ((if_neg (ne_true_of_eq_false hframe)).trans (if_neg (not_bnot hgood)))
    have htake {rt : Bool} := Chip.requestTake_of_junior (c := heard) (q := q) (w := wAsk) (cyc := cAsk) (retrain := rt) hjunior
    have hown : heard.withdrawn q = own := rfl
    rw [hown] at htake
    clear_value own
    have gives {d : Chip} (h : c.requestReceive q body = d) : Gives (.linkRequestReceive p body) s d :=
      gives_of_run (f := fun d => d.requestReceive q body) rfl h
    refine ⟨fun h1 => gives ?_, fun h1 h2 htest hw hlater => gives ?_, fun h1 h2 htest hno => gives ?_, fun h1 hno => gives ?_⟩
    · refine (hreceive.trans (if_pos (or_inl h1 _))).trans (htake.trans (if_pos h1))
    · exact (hreceive.trans (if_pos (or_inr _ (and_intro h2 (bnot htest))))).trans
        (htake.trans ((if_neg (ne_true_of_eq_false h1)).trans (if_pos ⟨hw, hlater⟩)))
    · refine (hreceive.trans (if_pos (or_inr _ (and_intro h2 (bnot htest))))).trans
        (htake.trans ((if_neg (ne_true_of_eq_false h1)).trans (if_neg ?_)))
      rintro ⟨hw, hlater⟩
      exact hno.elim (fun h => hw.elim h.1 h.2) (fun h => ne_true_of_eq_false h hlater)
    · refine hreceive.trans (if_neg (not_or (ne_true_of_eq_false h1) ?_))
      exact hno.elim (fun h => not_and_left (ne_true_of_eq_false h) _) (fun h => not_and_right _ (not_bnot h))
  case senior =>
    intro hup hact hframe hgood hasks hsenior
    refine gives_of_run (f := fun d => d.requestReceive q body) rfl ((Chip.requestReceive_of_active (body := body) hup hact).trans
      ((if_neg (ne_true_of_eq_false hframe)).trans ((if_neg (not_bnot hgood)).trans ?_)))
    split
    · exact Chip.requestTake_of_senior hasks hsenior
    · rfl
  case framed =>
    exact fun hup hact hframe => gives_of_run (f := fun d => d.requestReceive q body) rfl
      ((Chip.requestReceive_of_active hup hact).trans (if_pos hframe))
  case badBody =>
    exact fun hup hact hframe hbad => gives_of_run (f := fun d => d.requestReceive q body) rfl
      ((Chip.requestReceive_of_active hup hact).trans ((if_neg (ne_true_of_eq_false hframe)).trans (if_pos (bnot hbad))))
  case inactive =>
    exact fun hact => gives_of_run (f := fun d => d.requestReceive q body) rfl
      (if_pos (or_inr _ (bnot (beq_eq_false_iff_ne.2 hact))))
  case asked =>
    intro hup hasks
    have hlive (hact : act) : ¬ (!c.coreUp || !c.linkActive q || !c.asking q) = true :=
      not_or (not_or (not_bnot hup) (not_bnot (beq_iff_eq.2 hact))) (not_bnot hasks)
    exact ⟨gives_of_run (f := fun d => d.requestTimeout q) rfl (if_pos (and_intro hup hasks)),
      fun hact hreq => gives_of_run (f := fun d => d.requestAck q) rfl ((if_neg (hlive hact)).trans (if_pos hreq)),
      fun hact hreq => gives_of_run (f := fun d => d.requestAck q) rfl ((if_neg (hlive hact)).trans (if_neg hreq))⟩
  case silent =>
    exact fun h => ⟨gives_of_run (f := fun d => d.requestTimeout q) rfl (if_neg (not_and_right _ (ne_true_of_eq_false h))),
      gives_of_run (f := fun d => d.requestAck q) rfl (if_pos (or_inr _ (bnot h)))⟩
  case switch =>
    intro hup hact hfixed hnow hbusy
    refine ⟨fun hwd hwidth hlane => ?_, fun hwd hwidth hlane => ?_, fun hwd hwidth hscan => ?_⟩ <;> subst hwd
    · have hgood : c.upshiftFails q 2 = false := by rw [Chip.upshiftFails, hlane]; exact Bool.and_false _
      refine gives_of_run (f := fun d => d.widthSwitch q) rfl
        ((Chip.widthSwitch_of_success hup hact hfixed hnow hbusy hgood fun h => absurd h.1 (by decide)).trans ?_)
      rw [Chip.switched, hgood]
      rfl
    · have hfail : c.upshiftFails q 2 = true := by rw [Chip.upshiftFails, hlane, hwidth]; rfl
      refine gives_of_run (f := fun d => d.widthSwitch q) rfl ((Chip.widthSwitch_of_fail hup hact hfixed hnow hbusy hfail).trans ?_)
      rw [Chip.switched, hfail]
      rfl
    · exact gives_of_run (f := fun d => d.widthSwitch q) rfl
        (Chip.widthSwitch_of_success hup hact hfixed hnow hbusy rfl fun h => hscan h.2.2)
  case noSwitch => exact fun h => gives_of_run (f := fun d => d.widthSwitch q) rfl (Chip.widthSwitch_of_none h)
  case ready =>
    intro hup hact hwidth
    refine ⟨fun h => gives_of_run (f := fun d => d.upshiftReady q) rfl (if_pos ?_),
      fun hfixed hasks => gives_of_run (f := fun d => d.upshiftReady q) rfl (if_neg ?_)⟩
    · refine and_intro (and_intro (and_intro hup (beq_iff_eq.2 hact)) ?_) (beq_iff_eq.2 hwidth)
      rcases h with h | ⟨hasks, hreq, hreqW⟩
      · exact or_inl (by rw [h]; rfl) _
      · exact or_inr _ (and_intro (and_intro hasks (beq_iff_eq.2 hreq)) (beq_iff_eq.2 hreqW))
    · refine not_and_left (not_and_right _ (not_or ?_ ?_)) _
      · rw [hfixed]
        exact Bool.false_ne_true
      · exact not_and_left (not_and_left (ne_true_of_eq_false hasks) _) _
  case reissue =>
    intro hup hact hagain hbusy hfixed
    exact gives_of_run (f := fun d => d.requestReissue q) rfl (if_pos (and_intro (and_intro (and_intro (and_intro hup (beq_iff_eq.2 hact)) hagain)
      (bnot hbusy)) (Option.isNone_iff_eq_none.2 hfixed)))
  case noReissue =>
    refine fun h => gives_of_run (f := fun d => d.requestReissue q) rfl (if_neg (not_and_left ?_ _))
    exact h.elim (fun h => not_and_left (not_and_right _ (ne_true_of_eq_false h)) _) (fun h => not_and_right _ (not_bnot h))
  case limit =>
    intro hup
    have hcounted : c.add (if lane.val = 0 then Reg.LINK_CG_ERR0 q else Reg.LINK_CG_ERR1 q) n = counted :=
      congrArg (c.add · n) (ite_of_iff (Fin.ext_iff (b := (0 : Fin 2))).symm)
    have hlimit := Chip.errLimit_of_up (q := q) (lane := lane.val) (n := n) hup
    rw [hcounted] at hlimit
    refine ⟨fun hlim hn hact hbusy => gives_of_run (f := fun d => d.errLimit q lane.val n) rfl (hlimit.trans (if_pos ?_)),
      fun hno => gives_of_run (f := fun d => d.errLimit q lane.val n) rfl (hlimit.trans (if_neg ?_))⟩
    · exact ⟨hlim, hn, beq_iff_eq.2 hact, bnot hbusy⟩
    · rintro ⟨hlim, hn, hact, hbusy⟩
      rcases hno with h | h | h | h
      · exact hlim h
      · exact Nat.not_lt.2 h hn
      · exact h (eq_of_beq hact)
      · exact not_bnot h hbusy

end Sys2Proof.Proofs
end

section
/-! PROOF. O41: alarms, margin scans, sleep and wake of links. -/

namespace Sys2Proof.Machine

/-! A port that serves hears ordered sets: its link is ACTIVE and no join link. -/

/-- Does port q serve? -/
def Chip.linkServes (c : Chip) (q : Nat) : Prop := c.coreUp = true ∧ c.get (Reg.LINK_STAT_STATE q) = 7 ∧ bit c.chain.join q = false

theorem Chip.not_dumb_of_serves {c : Chip} {q : Nat} (h : c.linkServes q) : ¬ (!c.coreUp || !c.linkActive q || bit c.chain.join q) = true := by
  obtain ⟨hup, hact, hjoin⟩ := h
  exact not_or (not_or (not_bnot hup) (not_bnot (beq_iff_eq.2 hact))) (ne_true_of_eq_false hjoin)

theorem Chip.dumb_of_not_serves {c : Chip} {q : Nat} (h : ¬ c.linkServes q) : (!c.coreUp || !c.linkActive q || bit c.chain.join q) = true := by
  refine Classical.byContradiction fun hdumb => ?_
  rw [Bool.not_eq_true, Bool.or_eq_false_iff, Bool.or_eq_false_iff, Bool.not_eq_false', Bool.not_eq_false'] at hdumb
  obtain ⟨⟨hup, hact⟩, hjoin⟩ := hdumb
  exact h ⟨hup, eq_of_beq hact, hjoin⟩

/-! Alarms. -/

/-- An ALM that is heard in idle is passed on; a good one is taken (R96, R103). -/
theorem Chip.almReceive_of_serves {c : Chip} {q : Nat} {body : List (BitVec 8)} (h : c.linkServes q) (hframe : c.frameOpen q = false) :
    c.almReceive q body = if !bodyOk 4 body then c.almPass q body else
      if ((c.almPass q body).almTake q body).isHead && ((c.almPass q body).almTake q body).clk.sentCyc &&
          bits (leNat (body.take 2)) 15 12 == 1 then
        ((c.almPass q body).almTake q body).chainShrink (bits (leNat (body.take 2)) 11 10) (bits (leNat (body.take 2)) 9 0)
      else (c.almPass q body).almTake q body := by
  unfold Chip.almReceive
  rw [if_neg (Chip.not_dumb_of_serves h)]
  exact if_neg (ne_true_of_eq_false hframe)

/-- The oldest cause of a port's direction goes out (R103). -/
theorem Chip.almSend_of_some {c : Chip} {q k : Nat} (h : c.linkServes q) (hfind : c.alms.find? (fun a => c.almPort a == some q) = some k) :
    c.almSend q = { c with alms := c.alms.erase k }.setGl q { c.gl q with almOut := c.almBody k } := by
  unfold Chip.almSend
  rw [if_neg (Chip.not_dumb_of_serves h), hfind]

theorem Chip.almSend_of_none {c : Chip} {q : Nat} (h : c.linkServes q) (hfind : c.alms.find? (fun a => c.almPort a == some q) = none) :
    c.almSend q = c := by
  unfold Chip.almSend
  rw [if_neg (Chip.not_dumb_of_serves h), hfind]

/-! Margin scans. -/

/-- A scan of the program's ends with its result (R123). -/
theorem Chip.marginEnd_of_busy {c : Chip} {q w h : Nat} {valid : Bool} (hq : q < 2) (hbusy : c.flag (Reg.LINK_MARGIN_BUSY q) = true)
    (hrun : c.flag Reg.BKG_STAT_MARGIN_RUN = false) :
    c.marginEnd q valid w h = (((c.put (Reg.LINK_MARGIN_BUSY q) 0).put (Reg.LINK_MARGIN_VALID q) (b2n valid)).put (Reg.LINK_MARGIN_WIDTH q)
      (if valid then w else 0)).put (Reg.LINK_MARGIN_HEIGHT q) (if valid then h else 0) := by
  unfold Chip.marginEnd
  rw [if_neg (not_bnot hbusy)]
  extract_lets d
  have hleft : d.flag Reg.BKG_STAT_MARGIN_RUN = false := by
    refine Eq.trans (congrArg (· != 0) ?_) hrun
    refine (Chip.get_put_of_key_ne _ _ ?_).trans ((Chip.get_put_of_key_ne _ _ ?_).trans ((Chip.get_put_of_key_ne _ _ ?_).trans
      (Chip.get_put_of_key_ne _ _ ?_))) <;>
      simp only [Reg.BKG_STAT_MARGIN_RUN, Reg.LINK_MARGIN_BUSY, Reg.LINK_MARGIN_VALID, Reg.LINK_MARGIN_WIDTH, Reg.LINK_MARGIN_HEIGHT] <;>
      omega
  exact if_pos (bnot hleft)

/-- With no scan none ends. -/
theorem Chip.marginDone_of_idle {c : Chip} {q w h : Nat} {isOpen : Bool} (hidle : c.flag (Reg.LINK_MARGIN_BUSY q) = false) :
    c.marginDone q isOpen w h = c := by
  unfold Chip.marginDone
  split
  · rfl
  · exact if_pos (bnot hidle)

/-! Sleep. -/

section Slp
variable {c : Chip} {q : Nat} {body : List (BitVec 8)} (h : c.linkServes q) (hgood : bodyOk 6 body = true)
include h hgood

/-- Does the SLP that comes carry the cycle that went out? -/
def Chip.slpBack (c : Chip) (body : List (BitVec 8)) : Bool := c.chain.slp && c.chain.slpS == leNat (body.take 4)

/-- The node holds the cycle of the SLP it passes. -/
def Chip.slpHeld (c : Chip) (body : List (BitVec 8)) : Chip := { c with chain := { c.chain with slp := true, slpS := leNat (body.take 4) } }

theorem Chip.slpReceive_of_head (hhead : c.isHead = true) :
    c.slpReceive q body = if c.slpBack body && c.tailPort == some q then c.slpHead else c := by
  unfold Chip.slpReceive
  rw [if_neg (not_or (Chip.not_dumb_of_serves h) (not_bnot hgood))]
  exact if_pos hhead

/-- On the headward port a member takes the SLP and passes it tailward; a tail folds it (R119). -/
theorem Chip.slpReceive_of_headward (hhead : c.isHead = false) (hport : c.headPort = some q) :
    (c.folded = true → c.slpReceive q body = ((c.slpHeld body).slpPass q body).enterStandby) ∧
    (∀ o, c.folded = false → (c.slpHeld body).tailPort = some o → c.slpReceive q body = (c.slpHeld body).slpPass o body) ∧
    (c.folded = false → (c.slpHeld body).tailPort = none → c.slpReceive q body = c.slpHeld body) := by
  unfold Chip.slpReceive
  rw [if_neg (not_or (Chip.not_dumb_of_serves h) (not_bnot hgood))]
  extract_lets cyc back x held
  rw [if_neg (ne_true_of_eq_false hhead), if_pos hport]
  refine ⟨fun hfold => if_pos hfold, fun o hfold htail => (if_neg (ne_true_of_eq_false hfold)).trans ?_,
    fun hfold htail => (if_neg (ne_true_of_eq_false hfold)).trans ?_⟩
  · have hheld : held.tailPort = some o := htail
    rw [hheld]
    rfl
  · have hheld : held.tailPort = none := htail
    rw [hheld]
    rfl

/-- On the other port it comes back. -/
theorem Chip.slpReceive_of_tailward (hhead : c.isHead = false) (hport : c.headPort ≠ some q) :
    c.slpReceive q body = if c.slpBack body then (c.slpPass (1 - q) body).enterStandby else c := by
  unfold Chip.slpReceive
  rw [if_neg (not_or (Chip.not_dumb_of_serves h) (not_bnot hgood))]
  exact (if_neg (ne_true_of_eq_false hhead)).trans (if_neg hport)

end Slp

/-- SLP back at the head with KEEP_HEAD leaves both ports in electrical idle, else the head goes to STANDBY (R119). -/
theorem Chip.slpHead_cases (c : Chip) :
    (c.wkB Reg.CHAIN_SLEEP_CFG_KEEP_HEAD = false → c.slpHead = { c with chain := { c.chain with slp := false } }.enterStandby) ∧
    (c.wkB Reg.CHAIN_SLEEP_CFG_KEEP_HEAD = true →
      c.slpHead = (((({ c with chain := { c.chain with slp := false } }.linkDrop 0 0).linkDrop 1 0).hush 0).hush 1)) :=
  ⟨fun h => if_pos (bnot h), fun h => if_neg (not_bnot h)⟩

end Sys2Proof.Machine

namespace Sys2Proof.Proofs
open Sys2Proof.Machine

/-- Settles O41: alarms, scans, the agreement to sleep, and the wakes. -/
theorem linkAlarmSleepResults : Obligations.LinkAlarmSleepResults := by
  unfold Obligations.LinkAlarmSleepResults
  intro r p lane body lead cycle wd ht isOpen s c q serves v good inFrame passed taken scan first st cyc back held slp
  refine ⟨?alm, ?framed, ?badAlm, ?deaf, ?send, fun ht => ⟨?scan, ?noScan⟩, ?scanned, ?notScanned, fun ht => ⟨?go, ?noGo⟩,
    fun ht => ⟨?propose, ?refuse, ?idle, ?cancel⟩, ?slp, ?noSlp, ?wake, ?noWake, gives_of_run rfl rfl, ?normal, ?notJoin⟩
  case alm =>
    intro hserves hframe hgood
    have hpassed : (c.almPass q body).almTake q body = taken := rfl
    have hheard := (Chip.almReceive_of_serves (body := body) hserves hframe).trans (if_neg (not_bnot hgood))
    rw [hpassed] at hheard
    clear_value taken
    refine ⟨fun hno => ?_, fun hhead hsent hcause => ?_⟩
    · refine gives_of_run (f := fun d => d.almReceive q body) rfl (hheard.trans (if_neg ?_))
      rcases hno with hno | hno | hno
      · exact not_and_left (not_and_left (ne_true_of_eq_false hno) _) _
      · exact not_and_left (not_and_right _ (ne_true_of_eq_false hno)) _
      · exact not_and_right _ fun he => hno (eq_of_beq he)
    · exact gives_of_run (f := fun d => d.almReceive q body) rfl
        (hheard.trans (if_pos (and_intro (and_intro hhead hsent) (beq_iff_eq.2 hcause))))
  case framed =>
    exact fun hserves hframe => gives_of_run (f := fun d => d.almReceive q body) rfl
      ((if_neg (Chip.not_dumb_of_serves hserves)).trans (if_pos hframe))
  case badAlm =>
    exact fun hserves hframe hbad => gives_of_run (f := fun d => d.almReceive q body) rfl
      ((Chip.almReceive_of_serves hserves hframe).trans (if_pos (bnot hbad)))
  case deaf =>
    exact fun h => gives_of_run (f := fun d => d.almReceive q body) rfl (if_pos (Chip.dumb_of_not_serves h))
  case send =>
    exact fun hserves => ⟨fun k hfind => gives_of_run (f := fun d => d.almSend q) rfl (Chip.almSend_of_some hserves hfind),
      fun hfind => gives_of_run (f := fun d => d.almSend q) rfl (Chip.almSend_of_none hserves hfind)⟩
  case scan =>
    exact fun h0 h1 => gives_of_takes rfl ht (if_neg (not_or (ne_true_of_eq_false h0) (ne_true_of_eq_false h1)))
  case noScan => exact fun h => gives_of_takes rfl ht (if_pos (h.elim (or_inl · _) (or_inr _ ·)))
  case scanned =>
    intro hup hbusy hrun used
    refine gives_of_run (f := fun d => d.marginDone q isOpen wd.toNat ht.toNat) rfl
      ((if_neg (not_or (not_bnot hup) (not_and_left (ne_true_of_eq_false hrun) _))).trans
        ((Chip.marginEnd_of_busy p.isLt hbusy hrun).trans ?_))
    rw [ite_and_nested, ite_and_nested]
  case notScanned => exact fun h => gives_of_run (f := fun d => d.marginDone q isOpen wd.toNat ht.toNat) rfl (Chip.marginDone_of_idle h)
  case go =>
    intro hhead hlead hsleep
    exact gives_of_takes rfl ht (if_neg (not_or (not_or (not_bnot hhead) (ne_true_of_eq_false (decide_eq_false (Nat.not_lt.2 hlead))))
      (Option.not_isSome_iff_eq_none.2 hsleep)))
  case noGo =>
    intro h
    refine gives_of_takes rfl ht (if_pos ?_)
    rcases h with h | h | h
    · exact or_inl (or_inl (bnot h) _) _
    · exact or_inl (or_inr _ (decide_eq_true h)) _
    · exact or_inr _ (Option.isSome_iff_ne_none.2 h)
  case propose =>
    exact fun hcyc href => gives_of_takes rfl ht ((if_neg (fun h => hcyc (BitVec.eq_of_toNat_eq h))).trans
      (if_neg (ne_true_of_eq_false href)))
  case refuse =>
    exact fun hcyc href => gives_of_takes rfl ht ((if_neg (fun h => hcyc (BitVec.eq_of_toNat_eq h))).trans (if_pos href))
  case idle =>
    exact fun hcyc hst => gives_of_takes rfl ht ((if_pos (congrArg BitVec.toNat hcyc)).trans (congrArg Chip.ok (if_pos hst)))
  case cancel =>
    exact fun hcyc hst => gives_of_takes rfl ht ((if_pos (congrArg BitVec.toNat hcyc)).trans (congrArg Chip.ok (if_neg hst)))
  case slp =>
    intro hserves hgood
    have heard {d : Chip} (h : c.slpReceive q body = d) : Gives (.slpReceive p body) s d :=
      gives_of_run (f := fun d => d.slpReceive q body) rfl h
    have hback (h : back) : c.slpBack body = true := and_intro h.1 (beq_iff_eq.2 h.2)
    have hnotBack (h : ¬ back) : ¬ c.slpBack body = true := fun hb => by
      rw [Chip.slpBack, Bool.and_eq_true, beq_iff_eq] at hb
      exact h hb
    refine ⟨fun hhead hport hfold => ?_, fun hhead hport hfold => ⟨fun o htail => ?_, fun htail => ?_⟩, fun hhead hport hb => ?_,
      fun hhead hb htail => ?_, fun hb hno => ?_⟩
    · exact heard ((Chip.slpReceive_of_headward hserves hgood hhead hport).1 hfold)
    · exact heard ((Chip.slpReceive_of_headward hserves hgood hhead hport).2.1 o hfold htail)
    · exact heard ((Chip.slpReceive_of_headward hserves hgood hhead hport).2.2 hfold htail)
    · exact heard ((Chip.slpReceive_of_tailward hserves hgood hhead hport).trans (if_pos (hback hb)))
    · intro t
      have hhome : c.slpReceive q body = c.slpHead :=
        (Chip.slpReceive_of_head hserves hgood hhead).trans (if_pos (and_intro (hback hb) (beq_iff_eq.2 htail)))
      exact ⟨fun hkeep => heard (hhome.trans ((Chip.slpHead_cases c).1 hkeep)), fun hkeep => heard (hhome.trans ((Chip.slpHead_cases c).2 hkeep))⟩
    · by_cases hhead : c.isHead = true
      · exact heard ((Chip.slpReceive_of_head hserves hgood hhead).trans (if_neg (not_and_left (hnotBack hb) _)))
      · exact heard ((Chip.slpReceive_of_tailward hserves hgood (Bool.not_eq_true _ ▸ hhead) (hno.resolve_left hhead)).trans
          (if_neg (hnotBack hb)))
  case noSlp =>
    refine fun h => gives_of_run (f := fun d => d.slpReceive q body) rfl (if_pos ?_)
    exact h.elim (fun h => or_inl (Chip.dumb_of_not_serves h) _) (fun h => or_inr _ (bnot h))
  case wake => exact fun h => gives_of_run rfl (if_pos h)
  case noWake =>
    refine fun hphase h => gives_of_run (f := Chip.laneWake) rfl (if_neg ?_)
    exact not_or_intro hphase fun hd => h.elim (fun h => h hd.1) (fun h => h hd.2)
  case normal =>
    exact fun hup hjoin => gives_of_run (f := fun d => d.joinNormal q) rfl
      ((if_pos (and_intro hup hjoin)).trans ((if_pos hjoin).trans (if_neg (by decide))))
  case notJoin =>
    exact fun hjoin => gives_of_run (f := fun d => d.joinNormal q) rfl (if_neg (not_and_right _ (ne_true_of_eq_false hjoin)))

end Sys2Proof.Proofs
end

section
/-! PROOF. O42: how every slot passes a member. -/

namespace Sys2Proof.Machine

/-- The slot operations of Table GATE-4: opcode, hop addressing, whether a node that does not serve takes part, and what the node decides. -/
def gateSlots (x : Slot) : List (Instr × Nat × Bool × Bool × (Chip → Slot → SlotOut × Chip)) :=
  [(.hopRd x, 1, true, true, gateRd 1), (.hopWr x, 2, true, true, gateWr), (.stRd x, 3, false, true, gateRd 3),
    (.stWr x, 4, false, true, gateWr), (.stRw x, 5, false, true, gateRw), (.bcOr x, 6, false, true, gateOr),
    (.imgRd x, 8, false, false, gateImgRd), (.imgWr x, 9, false, false, gateImgWr), (.mbxPut x, 10, false, true, gateMbxPut),
    (.mbxGet x, 11, false, true, gateMbxGet), (.tunnel x, 12, false, false, gateTunnel), (.telem x, 13, false, false, gateTelem),
    (.eventSlot x, 14, false, false, gateEvent), (.pourArm x, 16, false, true, gateArm), (.pourSlot x, 17, false, true, gatePour),
    (.delaySlot x, 18, false, true, gateDelay)]

/-- Each of them is a slot at the gate. -/
theorem exec_gateSlots (x : Slot) (s : State) :
    ∀ k ∈ gateSlots x, exec k.1 s = s.run (fun c => c.slotAt k.2.1 k.2.2.1 k.2.2.2.1 x k.2.2.2.2) := by
  simp only [gateSlots, List.forall_mem_cons]
  exact ⟨rfl, rfl, rfl, rfl, rfl, rfl, rfl, rfl, rfl, rfl, rfl, rfl, rfl, rfl, rfl, rfl, fun _ h => absurd h List.not_mem_nil⟩

/-! A slot reaches the gate. -/

/-- Is a slot of the frame in hand left alone? -/
def Chip.slotsAside (d : Chip) : Bool := d.gate.run.shut || d.gate.run.stop || !hdrOk d.gate.run.hdr

/-- No slot acts on a node that sends cycle marks. -/
theorem Chip.slotSeen_of_none {c : Chip} {op : Nat} {x : Slot} {k : Chip → Chip} (h : c.gatePort = none) : c.slotSeen op x k = c := by
  unfold Chip.slotSeen
  rw [h]

section Seen
variable {c : Chip} {p op : Nat} {x : Slot} {k : Chip → Chip} (hport : c.gatePort = some p)
include hport

theorem Chip.slotSeen_of_aside (h : (c.arrive p op x).slotsAside = true) : c.slotSeen op x k = (c.arrive p op x).forward (x.asCame op) := by
  unfold Chip.slotSeen
  rw [hport]
  exact if_pos h

variable (haside : (c.arrive p op x).slotsAside = false)
include haside

theorem Chip.slotSeen_of_bad (h : x.crcOk op = false) : c.slotSeen op x k = (c.arrive p op x).headerBad op x := by
  unfold Chip.slotSeen
  rw [hport]
  exact (if_neg (ne_true_of_eq_false haside)).trans (if_neg (ne_true_of_eq_false h))

theorem Chip.slotSeen_of_good (h : x.crcOk op = true) : c.slotSeen op x k = k (c.arrive p op x) := by
  unfold Chip.slotSeen
  rw [hport]
  exact (if_neg (ne_true_of_eq_false haside)).trans (if_pos h)

end Seen

/-! A slot whose header is good. -/

section Mine
variable {d : Chip} {op : Nat} {hop early : Bool} {x : Slot} {f : Chip → Slot → SlotOut × Chip}

theorem Chip.slotMine_of_reserved (h : x.reserved op = true) :
    d.slotMine op hop early x f = (d.inc Reg.GATE_BAD_OP_CNT).forward (x.asCame op) := if_pos h

variable (hres : x.reserved op = false)
include hres

theorem Chip.slotMine_of_other_ring (h : x.ring ≠ d.get Reg.CHAIN_STAT_RING) : d.slotMine op hop early x f = d.forward (x.asCame op) :=
  (if_neg (ne_true_of_eq_false hres)).trans (if_pos h)

variable (hring : x.ring = d.get Reg.CHAIN_STAT_RING)
include hring

/-- In its ring a slot is judged by its hop or its station. -/
theorem Chip.slotMine_of_ring : d.slotMine op hop early x f =
    if hop && x.station == 1023 then d.forward (x.asCame op)
    else if hop && x.station != 0 then d.forward { x.asCame op with addr := x.withStation (x.station - 1) }.sealed_
    else if !hop && !d.addressed x.station then d.forward (x.asCame op)
    else if !d.clk.serving && !early then d.forward { x.asCame op with rflags := x.rflags.toNat ||| 4 }
    else (f d x).2.slotLeaves op (if hop then x.withStation 1023 else x.addr.toNat) x { (f d x).1 with flags := (f d x).1.flags ||| d.notOp } :=
  (if_neg (ne_true_of_eq_false hres)).trans (if_neg (not_not_intro hring))

/-- Here it acts, or leaves with NOT_OP. -/
theorem Chip.slotMine_of_here (here : if hop then x.station = 0 else d.addressed x.station = true) : d.slotMine op hop early x f =
    if !d.clk.serving && !early then d.forward { x.asCame op with rflags := x.rflags.toNat ||| 4 }
    else (f d x).2.slotLeaves op (if hop then x.withStation 1023 else x.addr.toNat) x { (f d x).1 with flags := (f d x).1.flags ||| d.notOp } := by
  rw [Chip.slotMine_of_ring hres hring]
  cases hop with
  | true =>
    have hzero : x.station = 0 := here
    rw [hzero]
    rfl
  | false =>
    have haddr : d.addressed x.station = true := here
    rw [haddr]
    rfl

end Mine

end Sys2Proof.Machine

namespace Sys2Proof.Proofs
open Sys2Proof.Machine

/-- Settles O42: first whether the slot reaches the gate, then whose it is. -/
theorem slotsPassOrAct : Obligations.SlotsPassOrAct := by
  unfold Obligations.SlotsPassOrAct
  intro x op8 s c slots aside goodCrc spoilt
  refine ⟨fun hnone => ⟨?_, ?_, ?_, ?_⟩, fun p hport => ⟨?slots, ?crcAndOp, ?nop⟩, ?goodCrc, ?listed⟩
  · refine gives_of_run (f := fun d => d.slotBad op8.toNat x) rfl ?_
    unfold Chip.slotBad
    split
    · rfl
    · exact Chip.slotSeen_of_none hnone
  · exact gives_of_run (f := fun d => d.slotNop x) rfl (Chip.slotSeen_of_none hnone)
  · refine gives_of_run (f := fun d => d.slotBadOp op8.toNat x) rfl ?_
    unfold Chip.slotBadOp
    split
    · rfl
    · exact Chip.slotSeen_of_none hnone
  · exact fun k hk => gives_of_run (exec_gateSlots x s k hk) (Chip.slotSeen_of_none hnone)
  case slots =>
    intro i op hop early f hmem d
    have leaves {t : Chip} (h : c.slotAt op hop early x f = t) : Gives i s t := gives_of_run (exec_gateSlots x s _ hmem) h
    refine ⟨fun haside => leaves (Chip.slotSeen_of_aside hport haside), fun haside hbad => leaves (Chip.slotSeen_of_bad hport haside hbad),
      fun haside hgood hres => leaves ((Chip.slotSeen_of_good hport haside hgood).trans (Chip.slotMine_of_reserved hres)),
      fun haside hgood hres => ?_⟩
    intro mine here addr
    have hseen : c.slotAt op hop early x f = d.slotMine op hop early x f := Chip.slotSeen_of_good hport haside hgood
    refine ⟨fun hring => leaves (hseen.trans (Chip.slotMine_of_other_ring hres hring)), fun hring hhop hst => ?_, fun hring hhop hlast hst => ?_,
      fun hring hhop haddr => ?_, fun hring hhere hserve hearly => ?_, fun hring hhere hserve => ?_⟩
    · exact leaves (hseen.trans ((Chip.slotMine_of_ring hres hring).trans (if_pos (and_intro hhop (beq_iff_eq.2 hst)))))
    · exact leaves (hseen.trans ((Chip.slotMine_of_ring hres hring).trans ((if_neg (not_and_right _ fun h => hlast (eq_of_beq h))).trans
        (if_pos (and_intro hhop (bne_iff_ne.2 hst))))))
    · exact leaves (hseen.trans ((Chip.slotMine_of_ring hres hring).trans ((if_neg (not_and_left (ne_true_of_eq_false hhop) _)).trans
        ((if_neg (not_and_left (ne_true_of_eq_false hhop) _)).trans (if_pos (and_intro (bnot hhop) (bnot haddr)))))))
    · exact leaves (hseen.trans ((Chip.slotMine_of_here hres hring hhere).trans (if_pos (and_intro (bnot hserve) (bnot hearly)))))
    · refine leaves (hseen.trans ((Chip.slotMine_of_here hres hring hhere).trans (if_neg ?_)))
      exact hserve.elim (fun h => not_and_left (not_bnot h) _) (fun h => not_and_right _ (not_bnot h))
  case crcAndOp =>
    intro d
    have failed {t : Chip} (hcrc : goodCrc op8.toNat = false) (h : c.slotSeen op8.toNat x id = t) : Gives (.slotHeaderCrcFail ⟨op8, x⟩) s t :=
      gives_of_run (f := fun d => d.slotBad op8.toNat x) rfl ((if_neg (ne_true_of_eq_false hcrc)).trans h)
    refine ⟨fun hcrc haside => failed hcrc (Chip.slotSeen_of_aside hport haside),
      fun hcrc haside => failed hcrc (Chip.slotSeen_of_bad hport haside hcrc), fun hbad => ?_⟩
    have hodd : ¬ (opListed op8.toNat && !x.reserved op8.toNat) = true :=
      hbad.elim (fun h => not_and_left (ne_true_of_eq_false h) _) (fun h => not_and_right _ (not_bnot h))
    have leaves {t : Chip} (h : c.slotSeen op8.toNat x (fun s => (s.inc Reg.GATE_BAD_OP_CNT).forward (x.asCame op8.toNat)) = t) :
        Gives (.badOpSlot op8 x) s t := gives_of_run (f := fun d => d.slotBadOp op8.toNat x) rfl ((if_neg hodd).trans h)
    exact ⟨fun haside => leaves (Chip.slotSeen_of_aside hport haside), fun haside hcrc => leaves (Chip.slotSeen_of_bad hport haside hcrc),
      fun haside hcrc => leaves (Chip.slotSeen_of_good hport haside hcrc)⟩
  case nop =>
    intro d
    have leaves {t : Chip} (h : c.slotNop x = t) : Gives (.nopSlot x) s t := gives_of_run (f := fun d => d.slotNop x) rfl h
    have counted (haside : aside d = false) (hcrc : goodCrc 0 = true) :
        c.slotNop x = (if x.reserved 0 then d.inc Reg.GATE_BAD_OP_CNT else d).forward (x.asCame 0) := Chip.slotSeen_of_good hport haside hcrc
    refine ⟨fun haside => leaves (Chip.slotSeen_of_aside hport haside), fun haside hcrc => leaves (Chip.slotSeen_of_bad hport haside hcrc),
      fun haside hcrc hres => leaves ((counted haside hcrc).trans ?_), fun haside hcrc hres => leaves ((counted haside hcrc).trans ?_)⟩
    · rw [if_neg (ne_true_of_eq_false hres)]
    · rw [if_pos hres]
  case goodCrc => exact fun h => gives_of_run (f := fun d => d.slotBad op8.toNat x) rfl (if_pos h)
  case listed => exact fun h hres => gives_of_run (f := fun d => d.slotBadOp op8.toNat x) rfl (if_pos (and_intro h (bnot hres)))

end Sys2Proof.Proofs
end

section
/-! PROOF. O43: what a node decides at a slot. -/

namespace Sys2Proof.Machine

section Reads
variable {c : Chip} {x : Slot}

/-- A read of words that no register operation may touch is refused (R131). -/
theorem gateRd_of_refused {op : Nat} (h : x.regLen = false ∨ (op = 3 ∧ x.station = 1023) ∨ x.words.any (c.gateRefused false) = true) :
    gateRd op c x = (x.refuse, c) := by
  refine if_pos ?_
  rcases h with h | ⟨hop, hst⟩ | h
  · exact or_inl (or_inl (bnot h) _) _
  · exact or_inl (or_inr _ (and_intro (beq_iff_eq.2 hop) (beq_iff_eq.2 hst))) _
  · exact or_inr _ h

section Legal
variable {op : Nat} (hlen : x.regLen = true) (hop : op ≠ 3 ∨ x.station ≠ 1023) (href : x.words.any (c.gateRefused false) = false)
  (hnone : c.pickup op x = none)
include hlen hop href hnone

/-- One that is not picked up is read at once where every word is gate-fast, else deferred (R134). -/
theorem gateRd_of_slow (hslow : x.words.all gateFast = false) : gateRd op c x = c.deferRead op x := by
  unfold gateRd
  rw [if_neg (not_or (not_or (not_bnot hlen) ?_) (ne_true_of_eq_false href)), hnone]
  · exact if_pos (bnot hslow)
  · exact hop.elim (fun h => not_and_left (fun he => h (eq_of_beq he)) _) (fun h => not_and_right _ fun he => h (eq_of_beq he))

theorem gateRd_of_fast {l : List Nat} {t : Chip} (hfast : x.words.all gateFast = true) (hread : c.gateReads x.words = (some l, t)) :
    gateRd op c x = ({ payload := overWords x.payload l, acted := true, flags := if c.gatePoison x.words then 16 else 0 }, t) := by
  unfold gateRd
  rw [if_neg (not_or (not_or (not_bnot hlen) ?_) (ne_true_of_eq_false href)), hnone]
  · refine (if_neg (not_bnot hfast)).trans ?_
    rw [hread]
  · exact hop.elim (fun h => not_and_left (fun he => h (eq_of_beq he)) _) (fun h => not_and_right _ fun he => h (eq_of_beq he))

end Legal

/-! Writes. -/

/-- What the first word that would not end Done makes of a slot's writes (R135). -/
theorem Chip.decideWrites_cases (out : List (BitVec 8)) :
    (c.notDone x.writes = none → c.decideWrites x out = ({ payload := out, acted := true, log := (c.logWrites x.writes).1 }, (c.logWrites x.writes).2)) ∧
    (∀ a v : Nat, c.notDone x.writes = some (.busy, a, v) → c.decideWrites x out = ({ payload := x.payload, flags := 2 }, c)) ∧
    (∀ a v : Nat, c.notDone x.writes = some (.reject, a, v) → c.decideWrites x out = (x.refuse, c.gateReject a v)) := by
  unfold Chip.decideWrites
  exact ⟨fun h => by rw [h], fun a v h => by rw [h], fun a v h => by rw [h]⟩

theorem gateWr_of_legal (hlen : x.regLen = true) (href : x.words.any (c.gateRefused true) = false) :
    gateWr c x = c.decideWrites x x.payload := if_neg (not_or (not_bnot hlen) (ne_true_of_eq_false href))

/-- A write to words the gate may not write is refused. -/
theorem gateWr_of_refused (h : x.regLen = false ∨ x.words.any (c.gateRefused true) = true) :
    gateWr c x = (x.refuse, c) ∧ gateRw c x = (x.refuse, c) := by
  refine ⟨if_pos (h.elim (fun h => or_inl (bnot h) _) (or_inr _ ·)), if_pos (or_inl ?_ _)⟩
  exact h.elim (fun h => or_inl (or_inl (bnot h) _) _) (or_inr _ ·)

/-- ST_RW of one station reads its words, then decides the writes. -/
theorem gateRw_of_legal {l : List Nat} {t : Chip} (hlen : x.regLen = true) (href : x.words.any (c.gateRefused true) = false)
    (hst : x.station ≠ 1023) (hfast : x.words.all gateFast = true) (hread : c.gateReads x.words = (some l, t)) :
    gateRw c x = t.decideWrites x (overWords x.payload l) := by
  unfold gateRw
  rw [if_neg (not_or (not_or (not_or (not_bnot hlen) (fun he => hst (eq_of_beq he))) (ne_true_of_eq_false href)) (not_bnot hfast)), hread]

/-- An OR-read that leaves SLEEP_STAT alone. -/
theorem gateOr_of_legal {l : List Nat} {t : Chip} (hlen : x.regLen = true) (href : x.words.any (c.gateRefused false) = false)
    (hfast : x.words.all gateFast = true) (hread : c.gateReads x.words = (some l, t)) (hsleep : x.words.contains sleepStatReg = false) :
    gateOr c x = ({ payload := overWords x.payload (List.zipWith (fun a b => a ||| b) l ((bytesWords x.payload).map BitVec.toNat)),
                    acted := true }, t) := by
  unfold gateOr
  rw [if_neg (not_or (not_or (not_bnot hlen) (ne_true_of_eq_false href)) (not_bnot hfast)), hread]
  exact congrArg (Prod.mk _) (if_neg (ne_true_of_eq_false hsleep))

/-! Image. -/

theorem gateImgRd_of_free (h : c.held = false) : gateImgRd c x =
    ({ payload := (c.winParts 0 x).foldl (fun (o : List (BitVec 8)) p => overBytes o p.2.1 (c.gateIn p.2.2.2 p.2.2.1)) x.payload
       acted := !(c.winParts 0 x).isEmpty
       flags := (c.winParts 0 x).foldl (fun (f : Nat) p => f ||| c.winFlags p.1 p.2.2.2 p.2.2.1) 0 }, c) :=
  if_neg (ne_true_of_eq_false h)

theorem gateImgWr_of_free (h : c.held = false) : gateImgWr c x =
    ({ payload := x.payload, acted := !(c.winParts 1 x).isEmpty
       log := (c.winParts 1 x).map (fun p => .img p.1 p.2.2.2 ((x.payload.drop p.2.1).take p.2.2.1)) }, c) :=
  if_neg (ne_true_of_eq_false h)

/-! Mailboxes. -/

/-- A message that the mailbox has room for takes a buffer (R275). -/
theorem gateMbxPut_of_room (hm : x.target.toNat < 64) (hpos : 0 < leNat (x.payload.take 4)) (hlen : leNat (x.payload.take 4) ≤ 128)
    (hroom : msgRoom (leNat (x.payload.take 4)) ≤ x.payload.length) (hkind : c.mbxKind x.target.toNat = 2)
    (hdepth : (c.mbx x.target.toNat).count + (c.mbx x.target.toNat).resv < c.mbxDepth x.target.toNat) :
    (c.poolPop 62 = none → gateMbxPut c x = (x.refuse, c.poolFail)) ∧
    (∀ (b : Nat) (t : Chip), c.poolPop 62 = some (b, t) →
      gateMbxPut c x = ({ payload := x.payload, acted := true, log := [.mbxPut x.target.toNat b (leNat (x.payload.take 4))] },
        (t.setMbx x.target.toNat { t.mbx x.target.toNat with resv := (t.mbx x.target.toNat).resv + 1 }).wrbs (bufAddr b)
          ((x.payload.drop 4).take (leNat (x.payload.take 4))))) := by
  have hfits : ¬ (64 ≤ x.target.toNat ∨ x.payload.length < 4 ∨ leNat (x.payload.take 4) = 0 ∨ 128 < leNat (x.payload.take 4) ∨
      x.payload.length < msgRoom (leNat (x.payload.take 4)) ∨ c.mbxKind x.target.toNat ≠ 2 ∨
      c.mbxDepth x.target.toNat ≤ (c.mbx x.target.toNat).count + (c.mbx x.target.toNat).resv) := by
    have hfour : 4 ≤ msgRoom (leNat (x.payload.take 4)) := Nat.le_add_right _ _
    omega
  unfold gateMbxPut
  rw [if_neg hfits]
  exact ⟨fun h => by rw [h], fun b t h => by rw [h]⟩

/-- A message for the chain leaves with the slot that has room for it (R276). -/
theorem gateMbxGet_of_kind (hm : x.target.toNat < 64) (hkind : c.mbxKind x.target.toNat = 3) :
    (c.mbxPeek x.target.toNat = none → gateMbxGet c x = (x.pass, c)) ∧
    (∀ b k : Nat, c.mbxPeek x.target.toNat = some (b, k) → x.payload.length < msgRoom k → gateMbxGet c x = (x.pass, c)) ∧
    (∀ b k : Nat, c.mbxPeek x.target.toNat = some (b, k) → msgRoom k ≤ x.payload.length →
      (List.range k).any (fun i => c.eccAt (bufAddr b + i) == 2) = false → c.gate.run.log.contains (.mbxGet x.target.toNat b) = false →
      gateMbxGet c x = ({ payload := overBytes (overBytes x.payload 0 (natBytes 4 k)) 4 (c.rdbs (bufAddr b) k), acted := true
                          log := [.mbxGet x.target.toNat b] }, c)) := by
  have hserves : ¬ (64 ≤ x.target.toNat ∨ c.mbxKind x.target.toNat ≠ 3) := by omega
  unfold gateMbxGet
  rw [if_neg hserves]
  refine ⟨fun h => by rw [h], fun b k h hroom => ?_, fun b k h hroom hecc hlog => ?_⟩
  · rw [h]
    exact if_pos hroom
  · rw [h]
    refine (if_neg (Nat.not_lt.2 hroom)).trans ?_
    simp only [hecc]
    rw [if_neg Bool.false_ne_true, if_neg (ne_true_of_eq_false hlog)]

/-! Telemetry, events, pours. -/

/-- A set of telemetry leaves chunk by chunk (R482). -/
theorem gateTelem_of_set {b : List (BitVec 8)} {k off : Nat} (haddr : c.flag Reg.CHAIN_STAT_ADDR_VALID = true) (hset : bit x.flags.toNat 1 = true)
    (hme : x.target.toNat = c.get Reg.CHAIN_ADDR_STATION) (hlen : 8 ≤ x.payload.length) (hchunk : c.telemChunk x.payload.length = some (b, k, off)) :
    gateTelem c x = ({ payload := overBytes x.payload 0 b, acted := true, log := [.telem k off] }, c) := by
  unfold gateTelem
  rw [if_neg (not_bnot haddr), if_pos hset, if_neg (not_or_intro (not_not_intro hme) (Nat.not_lt.2 hlen)), hchunk]

/-- A payload of 8 bytes carries a mask and a target. -/
theorem Slot.pour_of_len (h : 8 ≤ x.payload.length) : x.pour = some (leNat (x.payload.take 2), leNat ((x.payload.drop 4).take 4)) :=
  if_neg (Nat.not_lt.2 h)

theorem gateArm_of_len (h : 8 ≤ x.payload.length) : gateArm c x =
    if c.mayArm (leNat (x.payload.take 2)) (leNat ((x.payload.drop 4).take 4)) (c.get Reg.CLK_CYC_NUM) then
      ({ payload := x.payload, acted := true, log := [.arm] }, c.armNow (leNat (x.payload.take 2)) (leNat ((x.payload.drop 4).take 4)) true)
    else (x.refuse, c) := by
  unfold gateArm
  rw [Slot.pour_of_len h]

theorem gateArm_of_short (h : x.payload.length < 8) : gateArm c x = (x.refuse, c) := by
  unfold gateArm
  rw [show x.pour = none from if_pos h]

theorem gatePour_of_len (hwd : bit x.flags.toNat 0 = false) (h : 8 ≤ x.payload.length) : gatePour c x =
    if !c.armFits (leNat (x.payload.take 2)) (leNat ((x.payload.drop 4).take 4)) then (x.refuse, c)
    else if later (leNat ((x.payload.drop 4).take 4)) (c.get Reg.CLK_CYC_NUM) then
      ({ payload := x.payload, acted := true, log := [.pour (leNat (x.payload.take 2)) (leNat ((x.payload.drop 4).take 4))] }, c)
    else ({ x.refuse with log := [.withdraw] }, c) := by
  unfold gatePour
  rw [if_neg (ne_true_of_eq_false hwd), Slot.pour_of_len h]

end Reads

end Sys2Proof.Machine

namespace Sys2Proof.Proofs
open Sys2Proof.Machine

/-- Settles O43: operation by operation of Table GATE-4. -/
theorem slotDecisions : Obligations.SlotDecisions := by
  unfold Obligations.SlotDecisions
  intro c x refuse pass n legal m len mask target me u
  refine ⟨fun op h => gateRd_of_refused h, fun op l t hlegal hop href hnone => ⟨?fast, ?defer, ?tooMany⟩, fun h => gateWr_of_refused h,
    fun hlegal href => ⟨?written, ?busy, ?rejected, ?readWrite⟩, fun l t hlegal href hfast hread hsleep => gateOr_of_legal hlegal href hfast hread hsleep,
    fun hheld => ⟨if_pos hheld, if_pos hheld⟩, fun hfree => ⟨?noIn, ?noOut, ?out, ?oneIn⟩,
    fun hm hpos hlen hroom hkind hdepth => gateMbxPut_of_room hm hpos hlen hroom hkind hdepth, fun h => if_pos h,
    fun hm hkind => gateMbxGet_of_kind hm hkind, fun h => if_pos h, ?noTunnel, ?tunnel, ?telem,
    fun b k off haddr hset hme hlen hchunk => gateTelem_of_set haddr hset hme hlen hchunk, ⟨?noEvent, ?events⟩, ?pours, ?withdraw, ?short⟩
  case fast => exact fun hfast hread => gateRd_of_fast hlegal hop href hnone hfast hread
  case defer => exact fun hslow hroom => (gateRd_of_slow hlegal hop href hnone hslow).trans (if_neg (Nat.not_le.2 hroom))
  case tooMany => exact fun hslow hfull => (gateRd_of_slow hlegal hop href hnone hslow).trans (if_pos hfull)
  case written => exact fun h => (gateWr_of_legal hlegal href).trans ((Chip.decideWrites_cases x.payload).1 h)
  case busy => exact fun a v h => (gateWr_of_legal hlegal href).trans ((Chip.decideWrites_cases x.payload).2.1 a v h)
  case rejected => exact fun a v h => (gateWr_of_legal hlegal href).trans ((Chip.decideWrites_cases x.payload).2.2 a v h)
  case readWrite => exact fun l t hst hfast hread => gateRw_of_legal hlegal href hst hfast hread
  case noIn =>
    intro h
    rw [gateImgRd_of_free hfree, h]
    rfl
  case noOut =>
    intro h
    rw [gateImgWr_of_free hfree, h]
    rfl
  case out =>
    intro h
    rw [gateImgWr_of_free hfree, List.isEmpty_eq_false_iff.2 h]
    rfl
  case oneIn =>
    intro w off k at_ h
    rw [gateImgRd_of_free hfree, h]
    simp only [List.foldl_cons, List.foldl_nil, Nat.zero_or]
    rfl
  case noTunnel =>
    refine fun h => if_pos ?_
    rcases h with h | h | h | h | h
    · exact .inl h
    · exact .inr (.inl (bnot h))
    · exact .inr (.inr (.inl (bnot h)))
    · exact .inr (.inr (.inr (.inl (bnot h))))
    · exact .inr (.inr (.inr (.inr h)))
  case tunnel =>
    exact fun hm hen hserves hact hlen => if_neg (not_or_intro (Nat.not_le.2 hm) (not_or_intro (not_bnot hen) (not_or_intro (not_bnot hserves)
      (not_or_intro (not_bnot hact) (Nat.not_lt.2 hlen)))))
  case telem =>
    intro haddr hset
    refine ⟨fun hm hlen => ?_, fun hno => ?_⟩
    · exact (if_neg (not_bnot haddr)).trans ((if_neg (ne_true_of_eq_false hset)).trans (if_pos ⟨hm, hlen⟩))
    · exact (if_neg (not_bnot haddr)).trans ((if_neg (ne_true_of_eq_false hset)).trans
        (if_neg fun h => hno.elim (Nat.not_lt.2 h.1) (Nat.not_lt.2 h.2)))
  case noEvent =>
    intro h
    change (({ payload := u.1, acted := !u.2.isEmpty, log := if u.2.isEmpty then [] else [.events u.2] } : SlotOut), c) = _
    rw [h]
    rfl
  case events =>
    intro h
    change (({ payload := u.1, acted := !u.2.isEmpty, log := if u.2.isEmpty then [] else [.events u.2] } : SlotOut), c) = _
    rw [List.isEmpty_eq_false_iff.2 h]
    rfl
  case pours =>
    intro hlen
    refine ⟨fun h => (gateArm_of_len hlen).trans (if_pos h), fun h => (gateArm_of_len hlen).trans (if_neg (ne_true_of_eq_false h)),
      fun hwd hfits hlater => ?_, fun hwd hfits hlater => ?_, fun hwd hfits => ?_, if_neg (Nat.not_lt.2 hlen)⟩
    · exact (gatePour_of_len hwd hlen).trans ((if_neg (not_bnot hfits)).trans (if_pos hlater))
    · exact (gatePour_of_len hwd hlen).trans ((if_neg (not_bnot hfits)).trans (if_neg (ne_true_of_eq_false hlater)))
    · exact (gatePour_of_len hwd hlen).trans (if_pos (bnot hfits))
  case withdraw => exact fun hwd hon => (if_pos hwd).trans (if_pos hon)
  case short => exact fun h => ⟨gateArm_of_short h, if_pos h⟩

end Sys2Proof.Proofs
end

section
/-! PROOF. O44: the end of a frame, its log, and urgent frames. -/

namespace Sys2Proof.Machine

/-! The end of a frame at the gate of a member. -/

/-- A node that sends cycle marks handles no frame. -/
theorem Chip.frame_of_no_gate {c : Chip} {f : FrameTail} (h : c.gatePort = none) :
    c.frameEnd f = c ∧ c.urgentPre = c ∧ c.urgentRes = c := by
  unfold Chip.frameEnd Chip.urgentPre Chip.urgentRes
  rw [h]
  exact ⟨rfl, rfl, rfl⟩

/-- The frame counts, with its form. -/
def Chip.frameShown (c : Chip) (p : Nat) (f : FrameTail) (w : Nat) : Chip :=
  let s := ((c.codeGroups p f.misplaced.toNat).frameSent ⟨(c.runAtEnd p f).hdr, (c.runAtEnd p f).fwd, f.rest, w⟩).inc Reg.GATE_FRAME_CNT
  if (c.runAtEnd p f).wellFormed then s else s.inc Reg.GATE_MALFORM_CNT

section Gate
variable {c : Chip} {p : Nat} {f : FrameTail} (hport : c.gatePort = some p)
include hport

/-- A frame that the gate left alone goes on as it came (R145). -/
theorem Chip.frameEnd_of_shut (h : (c.runAtEnd p f).shut = true) :
    c.frameEnd f = ((c.codeGroups p f.misplaced.toNat).frameSent
      ⟨(c.runAtEnd p f).hdr, (c.runAtEnd p f).fwd, f.rest, f.crc.toNat⟩).logDrop (c.runAtEnd p f) := by
  unfold Chip.frameEnd
  rw [hport]
  exact if_pos h

variable (hshut : (c.runAtEnd p f).shut = false)
include hshut

/-- A good one commits (R135). -/
theorem Chip.frameEnd_of_good (hgood : (c.runAtEnd p f).good f = true) :
    c.frameEnd f = (c.frameShown p f ((c.runAtEnd p f).outCrc f)).frameCommit (c.runAtEnd p f).log := by
  unfold Chip.frameEnd
  rw [hport]
  refine (if_neg (ne_true_of_eq_false hshut)).trans ((if_pos hgood).trans ?_)
  rw [if_pos hgood]
  rfl

/-- Any other loses its log and is counted (R145). -/
theorem Chip.frameEnd_of_bad (hbad : (c.runAtEnd p f).good f = false) :
    c.frameEnd f = ((c.frameShown p f (0xFFFFFFFF - (c.runAtEnd p f).outCrc f)).logDrop (c.runAtEnd p f)).inc
      (if !(c.runAtEnd p f).broken && f.crc.toNat == 0xFFFFFFFF - (c.runAtEnd p f).crc then Reg.GATE_STOMP_CNT else Reg.GATE_FCRC_CNT) := by
  unfold Chip.frameEnd
  rw [hport]
  refine (if_neg (ne_true_of_eq_false hshut)).trans ((if_neg (ne_true_of_eq_false hbad)).trans ?_)
  rw [if_neg (ne_true_of_eq_false hbad)]
  rfl

omit hshut

theorem Chip.urgentPre_of_port : c.urgentPre = if c.preOk then
    ((c.setGate { c.gate with saved := some { c.gate.run with hadUrg := true }, run := {}, urgEnd := false }).put Reg.GATE_STAT_SAVED 1).inc
      Reg.GATE_PRE_CNT
    else c.codeBad p := by
  unfold Chip.urgentPre
  rw [hport]

theorem Chip.urgentRes_of_saved {w : FrameRun} (hsaved : c.gate.saved = some w) :
    c.urgentRes = if c.gate.urgEnd then (c.setGate { c.gate with run := w, saved := none, urgEnd := false }).put Reg.GATE_STAT_SAVED 0
      else c.codeBad p := by
  unfold Chip.urgentRes
  rw [hport, hsaved]

theorem Chip.urgentRes_of_none (hsaved : c.gate.saved = none) : c.urgentRes = c.codeBad p := by
  unfold Chip.urgentRes
  rw [hport, hsaved]

end Gate

/-! Urgent frames of the head. -/

section Urgent
variable {c : Chip} {j : Nat}

/-- The queued urgent frame goes out at its point, or waits (R142). -/
theorem Chip.urgentSend_of_queued (hup : c.coreUp = true) (horigin : c.flag Reg.GATE_STAT_ORIGIN = true) (hurg : c.gate.urg = some j) :
    (∀ (t : Nat) (into : Option SentFrame), c.sendDue.urgPoint j = some (t, into) → c.urgentSend = (c.sendDue.timeTo t).urgGoes j t into) ∧
    (c.sendDue.urgPoint j = none → c.urgentSend = c.sendDue) := by
  unfold Chip.urgentSend
  rw [hurg]
  have hlive : ¬ (!c.flag Reg.GATE_STAT_ORIGIN || !c.coreUp) = true := not_or (not_bnot horigin) (not_bnot hup)
  refine ⟨fun t into h => (if_neg hlive).trans ?_, fun h => (if_neg hlive).trans ?_⟩
  · extract_lets d
    have hpoint : d.urgPoint j = some (t, into) := h
    rw [hpoint]
  · extract_lets d
    have hpoint : d.urgPoint j = none := h
    rw [hpoint]

theorem Chip.urgentSend_of_none (h : c.gate.urg = none ∨ c.coreUp = false ∨ c.flag Reg.GATE_STAT_ORIGIN = false) : c.urgentSend = c := by
  unfold Chip.urgentSend
  cases hurg : c.gate.urg with
  | none => rfl
  | some j =>
    have hdead := h.resolve_left (by rw [hurg]; exact Option.some_ne_none j)
    exact if_pos (hdead.elim (fun h => or_inr _ (bnot h)) (fun h => or_inl (bnot h) _))

/-- The instant from which an urgent frame may go out: the present, from the end of CYC on. -/
def Chip.urgNow (d : Chip) : Nat := max d.ct.toNat (d.clk.markNs + 72)

/-- Idle at an instant is a point where the frame ends before the guard. -/
def Chip.urgIdle (d : Chip) (j t : Nat) : Option (Nat × Option SentFrame) :=
  if t + 4 * d.urgCost j false + 2000 ≤ d.predicted then some (t, none) else none

theorem Chip.urgIdle_eq (d : Chip) (j t : Nat) :
    (if decide (t + 4 * d.urgCost j false + 2000 ≤ d.predicted) = true then some (t, none) else none) = d.urgIdle j t :=
  ite_of_iff (decide_eq_true_iff)

theorem Chip.urgPoint_of_idle (h : c.onWay c.urgNow = none) : c.urgPoint j = c.urgIdle j c.urgNow := by
  unfold Chip.urgPoint
  extract_lets now w idle
  have hway : c.onWay now = none := h
  rw [hway]
  rfl

/-- The next 32-byte boundary of a frame on its way. -/
def Chip.urgBoundary (d : Chip) (x : SentFrame) : Nat := 32 * max 1 (((d.urgNow - x.start) / 4 * d.tailWidth + 31) / 32)

theorem Chip.urgPoint_of_frame {x : SentFrame} (h : c.onWay c.urgNow = some x) :
    c.urgPoint j = if !x.urgent ∧ x.late = 0 ∧ c.urgBoundary x < x.bytes then
      some (x.start + 4 * (c.urgBoundary x / c.tailWidth), some x) else c.urgIdle j (x.ends c.tailWidth) := by
  unfold Chip.urgPoint
  extract_lets now w idle
  have hway : c.onWay now = some x := h
  rw [hway]
  rfl

end Urgent

/-! A frame that returns to the head. -/

section Return
variable {c : Chip} {p : Nat} {g : ReturnedFrame}

/-- The sent frame that a returned one is. -/
def Chip.sentOf (d : Chip) (g : ReturnedFrame) : Option SentFrame :=
  d.gate.sent.find? (fun x => x.index == g.frame.toNat && x.urgent == g.urgent)

variable {d : Chip} (hup : c.coreUp = true) (hd : c.sendBefore g.frame.toNat g.urgent = d)
include hup hd

theorem Chip.headFrameReturn_of_none (h : d.sentOf g = none) : c.headFrameReturn p g = d := by
  unfold Chip.headFrameReturn
  rw [if_neg (not_bnot hup)]
  extract_lets e
  have he : e = d := hd
  clear_value e
  subst he
  rw [← Chip.sentOf, h]

variable {x : SentFrame} (hsent : d.sentOf g = some x)
include hsent

/-- Without a bridge the tailward port brings the returned frame (R146). -/
theorem Chip.headFrameReturn_of_no_bridge (hbridge : d.bridgePort = none) :
    c.headFrameReturn p g = if d.tailPort = some p then d.frameTaken x g else d := by
  unfold Chip.headFrameReturn
  rw [if_neg (not_bnot hup)]
  extract_lets e
  have he : e = d := hd
  clear_value e
  subst he
  rw [← Chip.sentOf, hsent, hbridge]

/-- With one the bridge port does, and what comes on the tailward port is relayed (R158). -/
theorem Chip.headFrameReturn_of_bridge {q : Nat} (hbridge : d.bridgePort = some q) :
    c.headFrameReturn p g = if p = q then (if x.relayed then d.frameTaken x g else d) else if x.relayed then d else d.frameRelay x q := by
  unfold Chip.headFrameReturn
  rw [if_neg (not_bnot hup)]
  extract_lets e
  have he : e = d := hd
  clear_value e
  subst he
  rw [← Chip.sentOf, hsent, hbridge]

end Return

/-- What the returned frame leaves: its slots' payloads, or its loss. -/
theorem Chip.frameTaken_cases (d : Chip) (x : SentFrame) (g : ReturnedFrame) :
    (g.good = true → d.frameTaken x g =
      (({ d with gate := { d.gate with sent := d.gate.sent.erase x } }).slotsReturn x.cyc (List.zip x.slots g.slots)).retShow x.cyc) ∧
    (g.good = false → d.frameTaken x g = (({ d with gate := { d.gate with sent := d.gate.sent.erase x } }).frameLost x).retShow x.cyc) :=
  ⟨fun h => congrArg (Chip.retShow · x.cyc) (if_pos h), fun h => congrArg (Chip.retShow · x.cyc) (if_neg (ne_true_of_eq_false h))⟩

/-! The log of a frame that commits. -/

section Commit
variable {d : Chip} (hup : d.coreUp = true)
include hup

/-- A logged write acts, or counts as late where its block now turns it away (R136). -/
theorem Chip.commitOp_write {a v : Nat} :
    ((d.busWrite .gate a v).1 = .done → d.commitOp (.write a v) = (d.busWrite .gate a v).2) ∧
    ((d.busWrite .gate a v).1 = .reject → d.commitOp (.write a v) = (d.busWrite .gate a v).2.inc Reg.GATE_LATE_REJ_CNT) := by
  have hop : d.commitOp (.write a v) = d.commitWrite a v := if_neg (not_bnot hup)
  rw [hop]
  unfold Chip.commitWrite
  extract_lets t
  refine ⟨fun h => ?_, fun h => ?_⟩
  · have hdone : t.1 = .done := h
    rw [hdone]
  · have hrejected : t.1 = .reject := h
    rw [hrejected]

theorem Chip.commitOp_mbxGet {m b n : Nat} (h : d.mbxPeek m = some (b, n)) :
    d.commitOp (.mbxGet m b) = ((d.mbxPop m).poolPush b).poolServe 32 :=
  (if_neg (not_bnot hup)).trans (if_pos (by rw [h]; rfl))

theorem Chip.commitOp_pour {mask target : Nat} (hfits : d.armFits mask target = true) (hlater : later target (d.get Reg.CLK_CYC_NUM) = true) :
    d.commitOp (.pour mask target) = d.armAccept :=
  (if_neg (not_bnot hup)).trans ((if_neg (not_bnot hfits)).trans (if_pos hlater))

end Commit

end Sys2Proof.Machine

namespace Sys2Proof.Proofs
open Sys2Proof.Machine

/-- Settles O44: the frame at a member's gate, at the head, and what its log does. -/
theorem frameEndResults : Obligations.FrameEndResults := by
  unfold Obligations.FrameEndResults
  intro r f g k p s c had begun run formed crc good out errs codes sent shown
  refine ⟨?noGate, ?gate, fun ht => ⟨?go, ?noGo⟩, ?send, ?noSend, ?point, ?back, ?commit⟩
  case noGate =>
    intro h
    obtain ⟨hend, hpre, hres⟩ := Chip.frame_of_no_gate (f := f) h
    exact ⟨gives_of_run (f := fun d => d.frameEnd f) rfl hend, gives_of_run rfl hpre, gives_of_run rfl hres⟩
  case gate =>
    intro hport
    have hrun : c.runAtEnd p f = run := rfl
    have hsent (w : Nat) : (c.codeGroups p f.misplaced.toNat).frameSent ⟨(c.runAtEnd p f).hdr, (c.runAtEnd p f).fwd, f.rest, w⟩ = sent w := rfl
    have hshown (w : Nat) : c.frameShown p f w = shown w := rfl
    have ended {t : Chip} (h : c.frameEnd f = t) : Gives (.frameEnd f) s t := gives_of_run (f := fun d => d.frameEnd f) rfl h
    refine ⟨fun hshut => ?_, fun hshut hgood => ?_, fun hshut hbad hwhole hcrc => ?_, fun hshut hbad hother => ?_, fun hsaved hurg => ?_,
      fun h => ?_, fun w hsaved hend => ?_, fun h => ?_⟩
    · refine ended ((Chip.frameEnd_of_shut hport hshut).trans ?_)
      rw [hsent, hrun]
    · refine ended ((Chip.frameEnd_of_good hport hshut hgood).trans ?_)
      rw [hshown]
      rfl
    · refine ended ((Chip.frameEnd_of_bad hport hshut hbad).trans ?_)
      exact congrArg (((shown (0xFFFFFFFF - out)).logDrop run).inc ·) (if_pos (and_intro (bnot hwhole) (beq_iff_eq.2 hcrc)))
    · refine ended ((Chip.frameEnd_of_bad hport hshut hbad).trans ?_)
      refine congrArg (((shown (0xFFFFFFFF - out)).logDrop run).inc ·) (if_neg ?_)
      exact hother.elim (fun h => not_and_left (not_bnot h) _) (fun h => not_and_right _ fun he => h (eq_of_beq he))
    · exact gives_of_run rfl ((Chip.urgentPre_of_port hport).trans (if_pos (and_intro (Option.isNone_iff_eq_none.2 hsaved) (bnot hurg))))
    · refine gives_of_run rfl ((Chip.urgentPre_of_port hport).trans (if_neg ?_))
      exact h.elim (fun h => not_and_left (fun he => h (Option.isNone_iff_eq_none.1 he)) _) (fun h => not_and_right _ (not_bnot h))
    · exact gives_of_run rfl ((Chip.urgentRes_of_saved hport hsaved).trans (if_pos hend))
    · refine gives_of_run (f := Chip.urgentRes) rfl ?_
      cases hsaved : c.gate.saved with
      | none => exact Chip.urgentRes_of_none hport hsaved
      | some w =>
        refine (Chip.urgentRes_of_saved hport hsaved).trans (if_neg (ne_true_of_eq_false (h.resolve_left ?_)))
        rw [hsaved]
        exact Option.some_ne_none w
  case go =>
    intro horigin hurg hframe
    exact gives_of_takes rfl ht (if_neg (not_or (not_or (not_bnot horigin) (Option.not_isSome_iff_eq_none.2 hurg)) (not_bnot hframe)))
  case noGo =>
    intro h
    refine gives_of_takes rfl ht (if_pos ?_)
    rcases h with h | h | h
    · exact or_inl (or_inl (bnot h) _) _
    · exact or_inl (or_inr _ (Option.isSome_iff_ne_none.2 h)) _
    · exact or_inr _ (bnot h)
  case send =>
    intro j hup horigin hurg d
    obtain ⟨hgoes, hwaits⟩ := Chip.urgentSend_of_queued hup horigin hurg
    refine ⟨fun t into hpoint => ?_, fun hpoint => gives_of_run rfl (hwaits hpoint)⟩
    exact gives_of_run rfl (hgoes t into hpoint)
  case noSend => exact fun h => gives_of_run rfl (Chip.urgentSend_of_none h)
  case point =>
    intro d j now fits
    refine ⟨fun hidle => ?_, fun x hway => ?_⟩
    · exact (Chip.urgPoint_of_idle hidle).trans (Chip.urgIdle_eq d j now).symm
    · intro b
      refine ⟨fun hnormal hlate hinside => ?_, fun hno => ?_⟩
      · exact (Chip.urgPoint_of_frame hway).trans (if_pos ⟨bnot hnormal, hlate, hinside⟩)
      · refine (Chip.urgPoint_of_frame hway).trans ((if_neg ?_).trans (Chip.urgIdle_eq d j _).symm)
        rintro ⟨hnormal, hlate, hinside⟩
        rcases hno with h | h | h
        · exact not_bnot h hnormal
        · exact h hlate
        · exact Nat.not_lt.2 h hinside
  case back =>
    intro hup d back
    have returns {t : Chip} (h : c.headFrameReturn g.port.val g = t) : Gives (.headFrameReturn g) s t :=
      gives_of_run (f := fun d => d.headFrameReturn g.port.val g) rfl h
    refine ⟨fun hnone => returns (Chip.headFrameReturn_of_none hup rfl hnone), fun x hsent => ?_⟩
    intro t ends
    obtain ⟨hgood, hbad⟩ := Chip.frameTaken_cases d x g
    have htaken (h : ends) : c.headFrameReturn g.port.val g = d.frameTaken x g := by
      rcases h with ⟨hbridge, htail⟩ | ⟨hbridge, hrelayed⟩
      · exact (Chip.headFrameReturn_of_no_bridge hup rfl hsent hbridge).trans (if_pos htail)
      · exact (Chip.headFrameReturn_of_bridge hup rfl hsent hbridge).trans ((if_pos rfl).trans (if_pos hrelayed))
    refine ⟨fun hends h => returns ((htaken hends).trans (hgood h)), fun hends h => returns ((htaken hends).trans (hbad h)),
      fun q hbridge hq hrelayed => ?_, fun hbridge htail => ?_⟩
    · exact returns ((Chip.headFrameReturn_of_bridge hup rfl hsent hbridge).trans ((if_neg (Ne.symm hq)).trans
        (if_neg (ne_true_of_eq_false hrelayed))))
    · exact returns ((Chip.headFrameReturn_of_no_bridge hup rfl hsent hbridge).trans (if_neg htail))
  case commit =>
    intro d hup
    exact ⟨rfl, fun a v => (Chip.commitOp_write hup).1, fun a v => (Chip.commitOp_write hup).2, fun m b n => if_neg (not_bnot hup),
      fun m b n h => Chip.commitOp_mbxGet hup h, fun mask target hfits hlater => Chip.commitOp_pour hup hfits hlater,
      if_neg (not_bnot hup), fun l => if_neg (not_bnot hup)⟩

end Sys2Proof.Proofs
end

section
/-! PROOF. Addresses, the planned uncoupling, epochs, takeover and handback (07_chain_topology_and_heads.md). -/

namespace Sys2Proof.Machine

section
variable {s : Chip}

/-! Addresses (R154) -/

/-- A node takes an address in range that names its own identity. -/
theorem Chip.assign_of_fits {r w st : Nat} (hst : bits w 9 0 = st) (hmine : s.chain.uid0 + 2 ^ 32 * s.chain.uid1 = Sys2Proof.Config.uid.toNat)
    (hlow : 1 ≤ st) (hhigh : st ≤ 1022) :
    s.assign r w =
      (let t := ((s.putAddr st (bits w 11 10)).inc Reg.CHAIN_ASSIGN_CNT).put Reg.CHAIN_STAT_DLY_PEND 1
       { t with chain := { t.chain with newAddr := true } }.memberTrunk.chainShow).ok := by
  subst hst
  unfold Chip.assign
  exact if_neg (not_or_intro (not_not_intro hmine) (not_or_intro (Nat.one_le_iff_ne_zero.1 hlow) (Nat.not_lt.2 hhigh)))

/-! The planned uncoupling (R164) -/

/-- The node at its mark C, folded behind it. -/
def Chip.uncoupled (s : Chip) : Chip :=
  ({ s with chain := { s.chain with detach := none, lift := false } }.foldBack).put Reg.CHAIN_STAT_DETACHED 1

section
variable (hup : s.coreUp = true) (hdue : s.chain.detach = some (s.get Reg.CLK_CYC_NUM))
include hup hdue

theorem Chip.not_undue : ¬ (!s.coreUp || s.chain.detach != some (s.get Reg.CLK_CYC_NUM)) = true :=
  not_or (not_bnot hup) fun h => bne_iff_ne.1 h hdue

theorem Chip.detachExecute_of_tail {p : Nat} (h : s.uncoupled.tailPort = some p) :
    s.detachExecute = (((s.uncoupled.linkDrop p 0).tellIdl p false).tellTerms).chainShow := by
  refine (if_neg (Chip.not_undue hup hdue)).trans ?_
  have htail : (({ s with chain := { s.chain with detach := none, lift := false } }.foldBack).put Reg.CHAIN_STAT_DETACHED 1).tailPort = some p := h
  simp only [htail]
  rfl

theorem Chip.detachExecute_of_no_tail (h : s.uncoupled.tailPort = none) : s.detachExecute = s.uncoupled.tellTerms.chainShow := by
  refine (if_neg (Chip.not_undue hup hdue)).trans ?_
  have htail : (({ s with chain := { s.chain with detach := none, lift := false } }.foldBack).put Reg.CHAIN_STAT_DETACHED 1).tailPort = none := h
  simp only [htail]
  rfl

end

/-! Chunks of an epoch at the reserve (R168) -/

/-- No cycle number is later than itself. -/
theorem not_later_of_eq {e k : Nat} (h : e = k) : later e k = false := by
  subst h
  unfold later
  simp only [Bool.and_eq_false_iff, decide_eq_false_iff_not]
  omega

section
variable {r w : Nat}

/-- A chunk for no reserve, or of another count of chunks, is turned away. -/
theorem Chip.ckptChunk_of_strange
    (h : (s.ckptWord 63 w).get Reg.CHAIN_STAT_ROLE ≠ 2 ∨ (s.ckptWord 63 w).chain.words.get 0 1 / 65536 ≠ 141) :
    s.ckptChunk r w = (s.ckptWord 63 w).no r 4 0 0x4FC := if_pos h

variable (hrole : (s.ckptWord 63 w).get Reg.CHAIN_STAT_ROLE = 2) (htotal : (s.ckptWord 63 w).chain.words.get 0 1 / 65536 = 141)
include hrole htotal

theorem Chip.ckptChunk_of_part {k next e i : Nat} (hpart : (s.ckptWord 63 w).chain.part = some (k, next))
    (he : (s.ckptWord 63 w).chain.words.get 0 0 = e) (hi : (s.ckptWord 63 w).chain.words.get 0 1 % 65536 = i) :
    s.ckptChunk r w =
      if e = k ∧ i = next ∧ next < 141 then ((s.ckptWord 63 w).ckptStore e i).ok
      else if e = k ∧ i + 1 = next then (s.ckptWord 63 w).ok
      else if i = 0 ∧ later e k then ((s.ckptWord 63 w).ckptStore e 0).ok else (s.ckptWord 63 w).no r 4 0 0x4FC := by
  subst he hi
  refine (if_neg (not_or_intro (not_not_intro hrole) (not_not_intro htotal))).trans ?_
  rw [hpart]
  rfl

/-- The chunks that follow on the first of an epoch: the next one, the last one again, the first of a later epoch, and no other. -/
theorem Chip.ckptChunk_part_cases {k next e i : Nat} (hpart : (s.ckptWord 63 w).chain.part = some (k, next))
    (he : (s.ckptWord 63 w).chain.words.get 0 0 = e) (hi : (s.ckptWord 63 w).chain.words.get 0 1 % 65536 = i) :
    (e = k → i = next → next < 141 → s.ckptChunk r w = ((s.ckptWord 63 w).ckptStore e i).ok) ∧
    (e = k → i + 1 = next → s.ckptChunk r w = (s.ckptWord 63 w).ok) ∧
    (i = 0 → later e k = true → e ≠ k → s.ckptChunk r w = ((s.ckptWord 63 w).ckptStore e 0).ok) ∧
    (e = k → i ≠ next → i + 1 ≠ next → s.ckptChunk r w = (s.ckptWord 63 w).no r 4 0 0x4FC) ∧
    (e ≠ k → i ≠ 0 ∨ later e k = false → s.ckptChunk r w = (s.ckptWord 63 w).no r 4 0 0x4FC) := by
  have hcases := Chip.ckptChunk_of_part (r := r) hrole htotal hpart he hi
  refine ⟨fun he hi hn => ?_, fun he hi => ?_, fun hi hlater he => ?_, fun he hi hdup => ?_, fun he h => ?_⟩
  · exact hcases.trans (if_pos ⟨he, hi, hn⟩)
  · exact hcases.trans ((if_neg fun h => Nat.succ_ne_self _ (hi.trans h.2.1.symm)).trans (if_pos ⟨he, hi⟩))
  · exact hcases.trans ((if_neg fun h => he h.1).trans ((if_neg fun h => he h.1).trans (if_pos ⟨hi, hlater⟩)))
  · exact hcases.trans ((if_neg fun h => hi h.2.1).trans ((if_neg fun h => hdup h.2).trans
      (if_neg fun h => ne_true_of_eq_false (not_later_of_eq he) h.2)))
  · refine hcases.trans ((if_neg fun hk => he hk.1).trans ((if_neg fun hk => he hk.1).trans (if_neg fun hk => ?_)))
    exact h.elim (fun hi => hi hk.1) (fun hlater => ne_true_of_eq_false hlater hk.2)

/-- With no epoch begun the first chunk of an epoch that is not the complete one, or older, begins one. -/
theorem Chip.ckptChunk_no_part_cases {e i : Nat} (hpart : (s.ckptWord 63 w).chain.part = none)
    (he : (s.ckptWord 63 w).chain.words.get 0 0 = e) (hi : (s.ckptWord 63 w).chain.words.get 0 1 % 65536 = i) :
    (i = 0 → (s.ckptWord 63 w).chain.complete = false ∨ later e ((s.ckptWord 63 w).get Reg.CHAIN_EPOCH_OK) = true →
      s.ckptChunk r w = ((s.ckptWord 63 w).ckptStore e 0).ok) ∧
    (i ≠ 0 ∨ ((s.ckptWord 63 w).chain.complete = true ∧ later e ((s.ckptWord 63 w).get Reg.CHAIN_EPOCH_OK) = false) →
      s.ckptChunk r w = (s.ckptWord 63 w).no r 4 0 0x4FC) := by
  subst he hi
  have hjudged : s.ckptChunk r w = _ := if_neg (not_or_intro (not_not_intro hrole) (not_not_intro htotal))
  rw [hjudged, hpart]
  refine ⟨fun hi h => if_pos ⟨hi, h.imp_left bnot⟩, fun h => if_neg ?_⟩
  rintro ⟨hi, hnew⟩
  rcases h with h | ⟨hcomplete, hlater⟩
  · exact h hi
  · exact hnew.elim (not_bnot hcomplete) (ne_true_of_eq_false hlater)

end

/-- A new epoch begins where one is due. -/
theorem Chip.epochStart_of_due {k : Nat} {t : Chip} (hup : s.coreUp = true) (hdue : s.epochDue = true)
    (hk : (s.chain.epoch + 1) % 2 ^ 32 = k) (ht : s.wrbs 0xC8000 (s.epochContent k) = t) :
    s.epochStart =
      ((({ t with chain := { t.chain with
        active := true, epoch := k, chunk := 0, epochCyc := t.get Reg.CLK_CYC_NUM, due := false, changed := false, noEpoch := false } }).put
        Reg.CHAIN_EPOCH_TX k).put Reg.CHAIN_CKPT_STAT_NEXT 0).put Reg.CHAIN_CKPT_STAT_TOTAL 141 := by
  subst hk ht
  exact if_pos (and_intro hup hdue)

/-! Takeover and handback (R169, R172) -/

theorem Chip.takeover_of_missed {t : Chip} (hup : s.coreUp = true) (hready : s.ready = true) (hmissed : 3 ≤ s.clk.missed)
    (htaking : s.chain.taking = false) (ht : s.armWithdraw.partDrop.epochInstall = t) :
    s.takeover = { t with chain := { t.chain with taking := true } } := by
  subst ht
  exact if_neg (not_or (not_or (not_or (not_bnot hup) (not_bnot hready)) (ne_true_of_eq_false htaking))
    (ne_true_of_eq_false (decide_eq_false (Nat.not_lt.2 hmissed))))

theorem Chip.takeoverPort_of_headPort {p : Nat} (h : (s.put Reg.CLK_STATUS_SYNC 2).headPort = some p) :
    s.takeoverPort = (((s.put Reg.CLK_STATUS_SYNC 2).put (Reg.LINK_STAT_ROLE p) 1).put (Reg.LINK_STAT_SENIOR p) 1).put
      (Reg.LINK_STAT_ROLE (1 - p)) 0 := by
  unfold Chip.takeoverPort
  simp only [h]

theorem Chip.handbackStart_of_none (h : s.chain.hand = none) : s.handbackStart = s := by
  unfold Chip.handbackStart
  rw [h]

theorem Chip.handbackStart_of_some {m : Nat} (h : s.chain.hand = some m) :
    s.handbackStart = if !s.coreUp || s.get Reg.CHAIN_STAT_ROLE != 3 || later m ((s.get Reg.CLK_CYC_NUM + 1) % 2 ^ 32) then s
      else { s with chain := { s.chain with hand := none, handed := true } }.put Reg.GATE_STAT_ORIGIN 0 := by
  unfold Chip.handbackStart
  rw [h]

end

end Sys2Proof.Machine

namespace Sys2Proof.Proofs
open Sys2Proof.Machine

/-- Settles O45: the chain's commands and the instants they wait for. -/
theorem chainCommandResults : Obligations.ChainCommandResults := by
  unfold Obligations.ChainCommandResults
  intro r w back lead q s c st n mine role a held kept undetached whole word e i ck
  refine ⟨fun ht => gives_of_takes rfl ht rfl, fun ht => gives_of_takes rfl ht rfl, fun ht => ⟨?assign, ?noAssign⟩, ?save, ?noSave,
    fun ht => gives_of_takes rfl ht rfl, fun ht => ⟨?detach, ?noDetach, ?detachZero, gives_of_takes rfl ht rfl⟩, ?execute, ?noExecute, ?epoch,
    ?noEpoch, fun ht => ⟨fun h => gives_of_takes rfl ht (Chip.ckptChunk_of_strange h), fun hrole htotal => ⟨?part, ?noPart⟩⟩, ?takeover,
    fun d p => Chip.takeoverPort_of_headPort, fun d => rfl, ?noTakeover, fun ht => gives_of_takes rfl ht rfl, fun ht => ⟨?hand, ?noHand⟩,
    ?start, ?noStart, fun hup => ⟨?head, ?tail, ?pass⟩⟩
  case assign =>
    intro hmine hlow hhigh
    have h := Chip.assign_of_fits (r := r.code) (st := st) rfl hmine hlow hhigh
    exact gives_of_takes rfl ht h
  case noAssign => exact fun h => gives_of_takes rfl ht (if_pos h)
  case save =>
    intro hup hhead hcfg hvalid hnew hpend hwritten hkept
    refine gives_of_run rfl (if_neg ?_)
    refine not_or (not_or (not_or (not_or (not_or (not_or (not_or (not_bnot hup) ?_) (not_bnot hcfg)) (not_bnot hvalid)) (not_bnot hnew)) ?_) ?_) ?_
    · exact ne_true_of_eq_false hhead
    · exact hkept.elim (fun h => not_and_left (ne_true_of_eq_false h) _) (fun h => not_and_right _ fun he => h (eq_of_beq he))
    · exact ne_true_of_eq_false hpend
    · exact ne_true_of_eq_false hwritten
  case noSave =>
    intro h
    refine gives_of_run rfl (if_pos ?_)
    refine or_inl (or_inl ?_ _) _
    rcases h with h | h | h | h | ⟨hvalid, hkept⟩
    · exact or_inl (or_inl (or_inl (or_inl (or_inr _ h) _) _) _) _
    · exact or_inl (or_inl (or_inl (or_inr _ (bnot h)) _) _) _
    · exact or_inl (or_inl (or_inr _ (bnot h)) _) _
    · exact or_inl (or_inr _ (bnot h)) _
    · exact or_inr _ (and_intro hvalid (beq_iff_eq.2 hkept))
  case detach =>
    intro hw hhead hlow hhigh
    refine gives_of_takes rfl ht ((if_neg hw).trans ((if_neg (mt BitVec.eq_of_toNat_eq hw)).trans (if_neg ?_)))
    exact not_or (not_or (ne_true_of_eq_false hhead) (ne_true_of_eq_false (decide_eq_false (Nat.not_lt.2 hlow))))
      (ne_true_of_eq_false (decide_eq_false (Nat.not_le.2 hhigh)))
  case noDetach =>
    intro hw h
    refine gives_of_takes rfl ht ((if_neg hw).trans ((if_neg (mt BitVec.eq_of_toNat_eq hw)).trans (if_pos ?_)))
    rcases h with h | h | h
    · exact or_inl (or_inl h _) _
    · exact or_inl (or_inr _ (decide_eq_true h)) _
    · exact or_inr _ (decide_eq_true h)
  case detachZero => exact fun hw => gives_of_takes rfl ht (if_pos hw)
  case execute =>
    intro hup hdue t
    exact ⟨fun p h => gives_of_run rfl (Chip.detachExecute_of_tail hup hdue h),
      fun h => gives_of_run rfl (Chip.detachExecute_of_no_tail hup hdue h)⟩
  case noExecute => exact fun h => gives_of_run rfl (if_pos (or_inr _ (bne_iff_ne.2 h)))
  case epoch =>
    intro hup hdue k t
    exact gives_of_run rfl (Chip.epochStart_of_due (k := k) (t := t) hup hdue rfl rfl)
  case noEpoch => exact fun h => gives_of_run rfl (if_neg (not_and_right _ (ne_true_of_eq_false h)))
  case part =>
    intro k next hpart
    have chunk {o : Acc} {d : Chip} (h : c.ckptChunk r.code w.toNat = (o, d)) : Gives (.ckptChunk r w) s (d.respond r ck o) :=
      gives_of_takes rfl ht h
    obtain ⟨hnext, hlast, hlater, hother, hold⟩ := Chip.ckptChunk_part_cases (r := r.code) (e := e) (i := i) hrole htotal hpart rfl rfl
    exact ⟨fun he hi hn => chunk (hnext he hi hn), fun he hi => chunk (hlast he hi), fun hi hl he => chunk (hlater hi hl he),
      fun he hi hdup => chunk (hother he hi hdup), fun he h => chunk (hold he h)⟩
  case noPart =>
    intro hpart
    have chunk {o : Acc} {d : Chip} (h : c.ckptChunk r.code w.toNat = (o, d)) : Gives (.ckptChunk r w) s (d.respond r ck o) :=
      gives_of_takes rfl ht h
    obtain ⟨hfirst, hother⟩ := Chip.ckptChunk_no_part_cases (r := r.code) (e := e) (i := i) hrole htotal hpart rfl rfl
    exact ⟨fun hi h => chunk (hfirst hi h), fun h => chunk (hother h)⟩
  case takeover =>
    intro hup hready hmissed htaking t
    exact gives_of_run rfl (Chip.takeover_of_missed hup hready hmissed htaking rfl)
  case noTakeover =>
    intro h
    refine gives_of_run rfl (if_pos ?_)
    rcases h with h | h | h
    · exact or_inl (or_inl (or_inr _ (bnot h)) _) _
    · exact or_inr _ (decide_eq_true h)
    · exact or_inl (or_inr _ h) _
  case hand =>
    intro hrole hlead
    exact gives_of_takes rfl ht (if_neg (not_or_intro (not_not_intro hrole) (Nat.not_lt.2 hlead)))
  case noHand => exact fun h => gives_of_takes rfl ht (if_pos h)
  case start =>
    intro h hup hrole hhand hdue
    exact gives_of_run rfl ((Chip.handbackStart_of_some hhand).trans
      (if_neg (not_or (not_or (not_bnot hup) fun hne => bne_iff_ne.1 hne hrole) (ne_true_of_eq_false hdue))))
  case noStart =>
    intro h
    refine gives_of_run rfl ?_
    cases hhand : c.chain.hand with
    | none => exact Chip.handbackStart_of_none hhand
    | some m =>
      have hrole : role ≠ 3 := h.resolve_left (hhand ▸ Option.some_ne_none m)
      exact (Chip.handbackStart_of_some hhand).trans (if_pos (or_inl (or_inr _ (bne_iff_ne.2 hrole)) _))
  case head =>
    exact fun hhead => gives_of_run (f := fun d => d.foldedCyc q.val w.toNat back.toNat) rfl ((if_neg (not_bnot hup)).trans (if_pos hhead))
  case tail =>
    intro hhead htail t
    exact gives_of_run (f := fun d => d.foldedCyc q.val w.toNat back.toNat) rfl
      ((if_neg (not_bnot hup)).trans ((if_neg (ne_true_of_eq_false hhead)).trans (if_neg (not_not_intro htail))))
  case pass =>
    exact fun hhead htail => gives_of_run (f := fun d => d.foldedCyc q.val w.toNat back.toNat) rfl
      ((if_neg (not_bnot hup)).trans ((if_neg (ne_true_of_eq_false hhead)).trans (if_pos htail)))

end Sys2Proof.Proofs
end

section
/-! PROOF. The program loader, code RAM, the watchdog and the release of waits (09_sprue_engines.md, 10_sprue_instruction_set.md). -/

namespace Sys2Proof.Machine

section
variable {s : Chip}

/-! The program loader and code RAM (R210, R211) -/

theorem Chip.loadDone_of_idle {aborted : Bool} (h : s.loader.run = none) : s.loadDone aborted = s := by
  unfold Chip.loadDone
  rw [h]

section
variable {k dst len : Nat} (h : s.loader.run = some (k, dst, len))
include h

/-- A load that completes has copied all its words. -/
theorem Chip.loadDone_of_run :
    s.loadDone false =
      let t := s.copyCode k dst len
      let u := ((t.put Reg.ENG_LOAD_STAT_BUSY 0).put Reg.ENG_LOAD_STAT_RESULT 1).put Reg.ENG_LOAD_STAT_DONE len
      { u with loader := { u.loader with run := none } } := by
  unfold Chip.loadDone
  rw [h]
  rfl

/-- The fence of the target alone aborts a load, after a free number of words. -/
theorem Chip.loadDone_of_abort :
    s.loadDone true = if s.active k then s else
      let t := s.drew.copyCode k dst (s.free % (len + 1))
      let u := ((t.put Reg.ENG_LOAD_STAT_BUSY 0).put Reg.ENG_LOAD_STAT_RESULT 3).put Reg.ENG_LOAD_STAT_DONE (s.free % (len + 1))
      { u with loader := { u.loader with run := none } } := by
  unfold Chip.loadDone
  rw [h]
  rfl

end

@[simp] theorem Chip.wrw_coreUp (s : Chip) (a : Nat) (v : BitVec 32) : (s.wrw a v).coreUp = s.coreUp := rfl

/-- A write through the address map tells its outcome where the requester reaches the core die. -/
theorem Chip.codeWriteBy_of_reach {r : Requester} {e w : Nat} {v : BitVec 32} {o : Acc} {d : Chip} (hup : s.coreUp = true)
    (hreach : ¬(r = .mgmt ∧ !s.active 52)) (h : s.codeWrite r e w v = (o, d)) (hd : d.coreUp = true) :
    s.codeWriteBy r e w v = d.respond r (codeAddr e w) o := by
  refine (if_neg (not_bnot hup)).trans ((if_neg hreach).trans ?_)
  rw [h]
  exact Chip.respondUp_of_coreUp hd r _

/-! The release of waits (R209, R243) -/

section
variable {e d upd acc : Nat} {val : BitVec 32} {z cy ov : Bool}

theorem Chip.markRelease_of_mark (h : (s.eng e).wait = .granted d val 3 z cy ov acc) : s.markRelease e = s.completeWait e := by
  unfold Chip.markRelease
  rw [h]
  rfl

theorem Chip.markRelease_of_other (h : (s.eng e).wait = .granted d val upd z cy ov acc) (hne : upd ≠ 3) : s.markRelease e = s := by
  unfold Chip.markRelease
  rw [h]
  split
  next heq => exact absurd (Wait.granted.inj heq).2.2.1 hne
  next => rfl

theorem Chip.waitComplete_of_mark (h : (s.eng e).wait = .granted d val 3 z cy ov acc) : s.waitComplete e = s := by
  unfold Chip.waitComplete
  rw [h]
  rfl

theorem Chip.waitComplete_of_other (h : (s.eng e).wait = .granted d val upd z cy ov acc) (hne : upd ≠ 3) :
    s.waitComplete e = s.completeWait e := by
  unfold Chip.waitComplete
  rw [h]
  split
  next heq => exact absurd (Wait.granted.inj heq).2.2.1 hne
  next => rfl
  next heq => exact Wait.noConfusion heq
  next hno _ => exact (hno _ _ _ _ _ _ _ rfl).elim

theorem Chip.timeRelease_of_time {t : BitVec 64} (h : (s.eng e).wait = .time t) :
    s.timeRelease e = if t.toNat ≤ s.ct.toNat then
      (s.setEng e { s.eng e with wait := .granted 0 0 4 false false false 0 }).completeWait e else s := by
  unfold Chip.timeRelease
  rw [h]

theorem Chip.waitComplete_of_no_event (h : (s.eng e).wait = .event d) (hpend : lowestBit (s.eng e).pend = none) : s.waitComplete e = s := by
  unfold Chip.waitComplete Chip.takePending
  rw [h, hpend]

theorem Chip.waitComplete_of_event {i : Nat} (h : (s.eng e).wait = .event d) (hpend : lowestBit (s.eng e).pend = some i) :
    s.waitComplete e =
      let t := s.setEng e { s.eng e with pend := (s.eng e).pend &&& ~~~(1#128 <<< i) }
      (t.setEng e { t.eng e with wait := .granted d (BitVec.ofNat 32 i) 4 false false false 0 }).completeWait e := by
  unfold Chip.waitComplete Chip.takePending
  rw [h, hpend]

/-- With nothing to wait for no release acts. -/
theorem Chip.releases_of_no_wait (h : (s.eng e).wait = .none) : s.markRelease e = s ∧ s.timeRelease e = s ∧ s.waitComplete e = s := by
  unfold Chip.markRelease Chip.timeRelease Chip.waitComplete
  rw [h]
  exact ⟨rfl, rfl, rfl⟩

/-- A wait that sets no flag and tells OK writes its register and goes on to the next word. -/
theorem Chip.completeWait_of_plain (h : (s.eng e).wait = .granted d val 0 false false false 0) :
    s.completeWait e =
      (let t := (s.setEng e { (s.eng e).setReg d val with wait := .none }).setEngState e 1
       (t.put (Reg.ENG_ACCESS e) 0).engNext e) := by
  unfold Chip.completeWait
  rw [h]
  rfl

end

end

end Sys2Proof.Machine

namespace Sys2Proof.Proofs
open Sys2Proof.Machine

/-- Settles O47: loads, code RAM, the watchdog, and what releases a wait. -/
theorem loaderWatchdogWaitResults : Obligations.LoaderWatchdogWaitResults := by
  unfold Obligations.LoaderWatchdogWaitResults
  intro r e w v k dst len s c n x tgt first words go src bad marked code ended
  refine ⟨fun ht => gives_of_takes rfl ht rfl, fun ht => ⟨?noCtl, fun hctl => ⟨?loadNo, ?load⟩⟩, ?idle, fun hrun => ⟨?copied, ?kept, ?aborted⟩,
    fun hup => ⟨?write, ?busy, ?fenced, ?other⟩, ?expire, ?noExpire, ?granted, ?time, ?event, ?noWait, fun q d val h =>
    Chip.completeWait_of_plain h⟩
  case noCtl => exact fun hctl => gives_of_takes rfl ht (if_pos (bnot hctl))
  case loadNo => exact fun h => gives_of_takes rfl ht ((if_neg (not_bnot hctl)).trans (if_pos h))
  case load =>
    intro hfree hgood t
    exact gives_of_takes rfl ht ((if_neg (not_bnot hctl)).trans (if_neg (not_or_intro (ne_true_of_eq_false hfree) hgood)))
  case idle =>
    exact fun h => ⟨gives_of_run (f := fun d => d.loadDone false) rfl (Chip.loadDone_of_idle h),
      gives_of_run (f := fun d => d.loadDone true) rfl (Chip.loadDone_of_idle h)⟩
  case copied => exact gives_of_run (f := fun d => d.loadDone false) rfl (Chip.loadDone_of_run hrun)
  case kept => exact fun h => gives_of_run (f := fun d => d.loadDone true) rfl ((Chip.loadDone_of_abort hrun).trans (if_pos h))
  case aborted =>
    exact fun h => gives_of_run (f := fun d => d.loadDone true) rfl ((Chip.loadDone_of_abort hrun).trans (if_neg (ne_true_of_eq_false h)))
  case write =>
    rintro rfl hact hrun hwait
    exact gives_of_run (f := fun d => d.codeWriteBy _ n w.val v) rfl (Chip.codeWriteBy_of_reach hup (fun h => not_bnot hact h.2)
      ((if_neg (not_not_intro rfl)).trans (if_neg (not_or_intro hrun hwait))) hup)
  case busy =>
    rintro rfl hact hrun
    exact gives_of_run (f := fun d => d.codeWriteBy _ n w.val v) rfl (Chip.codeWriteBy_of_reach hup (fun h => not_bnot hact h.2)
      ((if_neg (not_not_intro rfl)).trans (if_pos hrun)) ((Chip.reject_coreUp ..).trans hup))
  case fenced =>
    exact fun hr hact => gives_of_run (f := fun d => d.codeWriteBy r n w.val v) rfl ((if_neg (not_bnot hup)).trans (if_pos ⟨hr, bnot hact⟩))
  case other =>
    exact fun hr => gives_of_run (f := fun d => d.codeWriteBy _ n w.val v) rfl (Chip.codeWriteBy_of_reach hup (fun h => hr h.1) (if_pos hr) hup)
  case expire =>
    intro hstate hwdog t
    exact gives_of_run (f := fun d => d.wdogExpire n) rfl (if_pos ⟨hstate, hwdog⟩)
  case noExpire =>
    refine fun h => gives_of_run (f := fun d => d.wdogExpire n) rfl (if_neg fun hc => ?_)
    exact h.elim (fun h => hc.1.elim h.1 h.2) (fun h => ne_true_of_eq_false h hc.2)
  case granted =>
    intro d val upd acc z cy ov h
    refine ⟨?_, fun hne => ⟨gives_of_run (f := fun d => d.markRelease n) rfl (Chip.markRelease_of_other h hne),
      gives_of_run (f := fun d => d.waitComplete n) rfl (Chip.waitComplete_of_other h hne)⟩⟩
    rintro rfl
    exact ⟨gives_of_run (f := fun d => d.markRelease n) rfl (Chip.markRelease_of_mark h),
      gives_of_run (f := fun d => d.waitComplete n) rfl (Chip.waitComplete_of_mark h)⟩
  case time =>
    intro t h
    exact ⟨fun hdue => gives_of_run (f := fun d => d.timeRelease n) rfl ((Chip.timeRelease_of_time h).trans (if_pos hdue)),
      fun hearly => gives_of_run (f := fun d => d.timeRelease n) rfl ((Chip.timeRelease_of_time h).trans (if_neg (Nat.not_le.2 hearly)))⟩
  case event =>
    intro d h
    refine ⟨fun hpend => gives_of_run (f := fun d => d.waitComplete n) rfl (Chip.waitComplete_of_no_event h hpend), fun i hpend => ?_⟩
    intro t
    exact gives_of_run (f := fun d => d.waitComplete n) rfl (Chip.waitComplete_of_event h hpend)
  case noWait =>
    intro h
    obtain ⟨hmark, htime, hcomplete⟩ := Chip.releases_of_no_wait h
    exact ⟨gives_of_run (f := fun d => d.markRelease n) rfl hmark, gives_of_run (f := fun d => d.timeRelease n) rfl htime,
      gives_of_run (f := fun d => d.waitComplete n) rfl hcomplete⟩

end Sys2Proof.Proofs
end

section
/-! PROOF. The commands of a runner, puts, served readers and packets of hardware producers (11_runners.md). -/

namespace Sys2Proof.Machine

section
variable {s : Chip} {q : Nat}

/-! Enabling (R245) -/

/-- The configuration of runner q is one that CTL.ENABLE takes. -/
def Chip.runFits (s : Chip) (q : Nat) : Prop :=
  s.get (Reg.RUN_CFG_SIZE q) % 16 = 0 ∧ 16 ≤ s.get (Reg.RUN_CFG_SIZE q) ∧ s.get (Reg.RUN_CFG_SIZE q) ≤ 1024 ∧
  s.get (Reg.RUN_CFG_BASE q) % 16 = 0 ∧ s.get (Reg.RUN_CFG_BASE q) + 2 * s.get (Reg.RUN_CFG_SIZE q) ≤ 32768 ∧
  s.flag (Reg.RUN_STAT_EN q) = false

/-- Another enabled runner holds storage of runner q. -/
def Chip.runClashes (s : Chip) (q : Nat) : Prop :=
  ∃ p : Nat, p < 128 ∧ p ≠ q ∧ s.flag (Reg.RUN_STAT_EN p) = true ∧
    s.get (Reg.RUN_CFG_BASE q) < s.get (Reg.RUN_CFG_BASE p) + 2 * s.get (Reg.RUN_CFG_SIZE p) ∧
    s.get (Reg.RUN_CFG_BASE p) < s.get (Reg.RUN_CFG_BASE q) + 2 * s.get (Reg.RUN_CFG_SIZE q)

/-- The model's search for a clash finds one exactly where there is one. -/
theorem Chip.runClashes_iff :
    (List.range 128).any (fun p => p != q && s.flag (Reg.RUN_STAT_EN p) &&
      overlap (s.get (Reg.RUN_CFG_BASE q)) (2 * s.runSize q) (s.get (Reg.RUN_CFG_BASE p)) (2 * s.runSize p)) = true ↔ s.runClashes q := by
  simp only [overlap, List.any_eq_true, List.mem_range, Bool.and_eq_true, bne_iff_ne, decide_eq_true_iff, and_assoc]
  exact Iff.rfl

/-- The bounds the model tests are those of `Chip.runFits`, negated. -/
theorem Chip.not_runFits_iff :
    (s.runSize q % 16 ≠ 0 ∨ s.runSize q < 16 ∨ 1024 < s.runSize q ∨ s.get (Reg.RUN_CFG_BASE q) % 16 ≠ 0 ∨
      32768 < s.get (Reg.RUN_CFG_BASE q) + 2 * s.runSize q ∨ s.flag (Reg.RUN_STAT_EN q) = true) ↔ ¬s.runFits q := by
  simp only [Chip.runFits, Chip.runSize, Classical.not_and_iff_not_or_not, Nat.not_le, Bool.not_eq_false, ne_eq]

theorem Chip.runEnable_of_fits {r : Nat} (hfits : s.runFits q) (hclash : ¬s.runClashes q) :
    s.runEnable r q =
      (((s.setRunner q { s.runner q with rd0 := 0, rd1 := 0, k0 := [], k1 := [], lastStored := false, lastPut := false }).put
        (Reg.RUN_STAT_FILL q) 0).put (Reg.RUN_STAT_EN q) 1).ok :=
  if_neg (not_or_intro (fun h => Chip.not_runFits_iff.1 h hfits) fun h => hclash (Chip.runClashes_iff.1 h))

theorem Chip.runEnable_of_misfits {r : Nat} (h : ¬s.runFits q ∨ s.runClashes q) : s.runEnable r q = s.no r 6 q 0x08 :=
  if_pos (h.imp Chip.not_runFits_iff.2 Chip.runClashes_iff.2)

/-! Whom a runner refuses (R255) -/

theorem Chip.runRefuses_put_iff {f : Option Nat} :
    s.runRefuses q true f = true ↔
      s.flag (Reg.RUN_STAT_EN q) = false ∨ (s.wkB (Reg.RUN_OWNER_PROD_V q) = true ∧ f ≠ some (s.wk (Reg.RUN_OWNER_PROD q))) := by
  simp [Chip.runRefuses]

theorem Chip.runRefuses_take_iff {f : Option Nat} :
    s.runRefuses q false f = true ↔
      s.flag (Reg.RUN_STAT_EN q) = false ∨ (s.wkB (Reg.RUN_OWNER_CONS_V q) = true ∧ f ≠ some (s.wk (Reg.RUN_OWNER_CONS q))) := by
  simp [Chip.runRefuses]

/-- The management function's flask, 52, is the named one where the numbers agree. -/
theorem mgmtFlask_ne_iff {n : Nat} : some 52 ≠ some n ↔ n ≠ 52 := by
  rw [ne_eq, Option.some.injEq, eq_comm]

theorem Chip.runRefuses_mgmt_put_iff :
    s.runRefuses q true (some 52) = true ↔
      s.flag (Reg.RUN_STAT_EN q) = false ∨ (s.wkB (Reg.RUN_OWNER_PROD_V q) = true ∧ s.wk (Reg.RUN_OWNER_PROD q) ≠ 52) := by
  rw [Chip.runRefuses_put_iff, mgmtFlask_ne_iff]

theorem Chip.runRefuses_mgmt_take_iff :
    s.runRefuses q false (some 52) = true ↔
      s.flag (Reg.RUN_STAT_EN q) = false ∨ (s.wkB (Reg.RUN_OWNER_CONS_V q) = true ∧ s.wk (Reg.RUN_OWNER_CONS q) ≠ 52) := by
  rw [Chip.runRefuses_take_iff, mgmtFlask_ne_iff]

/-! A put (R248, R252, R253) -/

/-- The runner keeps whether the last put was of plain data. -/
def Chip.notePut (s : Chip) (q k : Nat) : Chip := s.setRunner q { s.runner q with lastPut := k == 0 }

theorem Chip.notePut_kinds (k b : Nat) : ((s.notePut q k).runner q).kinds b = (s.runner q).kinds b := by
  have h : (s.notePut q k).runner q = { s.runner q with lastPut := k == 0 } := SMap.get_put_same ..
  rw [h]
  rfl

section
variable (hpdrop : s.flag (Reg.RUN_STAT_P_DROP q) = false)
include hpdrop

/-- While the consumer drops to the end, a put stores nothing, and an end-marked one ends the drop. -/
theorem Chip.runPut_of_dropping (hcdrop : s.flag (Reg.RUN_STAT_C_DROP q) = true) (k v : Nat) :
    s.runPut q k v = if k = 1 then (s.notePut q k).put (Reg.RUN_STAT_C_DROP q) 0 else s.notePut q k :=
  (if_neg (ne_true_of_eq_false hpdrop)).trans (if_pos hcdrop)

variable (hcdrop : s.flag (Reg.RUN_STAT_C_DROP q) = false)
include hcdrop

theorem Chip.runPut_of_room {k v : Nat} (hroom : ((s.runner q).kinds (s.runFill q)).length + 1 < s.runSize q) :
    s.runPut q k v = (s.notePut q k).runStore q (s.runFill q) k v := by
  refine (if_neg (ne_true_of_eq_false hpdrop)).trans ((if_neg (ne_true_of_eq_false hcdrop)).trans (if_pos ?_))
  exact (congrArg (fun l => l.length + 1 < s.runSize q) (Chip.notePut_kinds k (s.runFill q))).mpr hroom

/-- Past the room of the filling bank a put goes by the other bank. -/
theorem Chip.runPut_of_no_room {k v : Nat} (hfull : s.runSize q ≤ ((s.runner q).kinds (s.runFill q)).length + 1) :
    s.runPut q k v =
      let t := s.notePut q k
      let b := s.runFill q
      if ((t.runner q).kinds (1 - b)).isEmpty then
        if ((t.runner q).kinds b).length + 1 = s.runSize q then (t.runStore q b k v).runSwap q
        else (t.runSwap q).runStore q ((t.runSwap q).runFill q) k v
      else if s.flag (Reg.RUN_CFG_MODE q) then
        let u := (if t.runTailGap q then t.runAddTailGap q 1 else t.runStore q b 2 1).runLose q 1
        if k = 0 then u.put (Reg.RUN_STAT_P_DROP q) 1 else u
      else if (t.runOverwrite q).1 then (t.runOverwrite q).2.runDropItem q k else (t.runOverwrite q).2.runStore q b k v := by
  refine (if_neg (ne_true_of_eq_false hpdrop)).trans ((if_neg (ne_true_of_eq_false hcdrop)).trans (if_neg ?_))
  exact fun h => Nat.not_lt.2 hfull ((congrArg (fun l => l.length + 1 < s.runSize q) (Chip.notePut_kinds k (s.runFill q))).mp h)

theorem Chip.runPut_of_last_room {k v : Nat} (hlast : ((s.runner q).kinds (s.runFill q)).length + 1 = s.runSize q)
    (hempty : ((s.runner q).kinds (1 - s.runFill q)).isEmpty = true) :
    s.runPut q k v = ((s.notePut q k).runStore q (s.runFill q) k v).runSwap q := by
  refine (Chip.runPut_of_no_room hpdrop hcdrop (Nat.le_of_eq hlast.symm)).trans ?_
  dsimp only
  rw [Chip.notePut_kinds, Chip.notePut_kinds, if_pos hempty, if_pos hlast]

theorem Chip.runPut_of_full {v : Nat} (hfull : s.runSize q ≤ ((s.runner q).kinds (s.runFill q)).length + 1)
    (hempty : ((s.runner q).kinds (1 - s.runFill q)).isEmpty = false) (hmode : s.flag (Reg.RUN_CFG_MODE q) = true)
    (hgap : ((s.runner q).kinds (s.runFill q)).getLast? ≠ some 2) :
    s.runPut q 0 v = (((s.notePut q 0).runStore q (s.runFill q) 2 1).runLose q 1).put (Reg.RUN_STAT_P_DROP q) 1 := by
  refine (Chip.runPut_of_no_room hpdrop hcdrop hfull).trans ?_
  have htail : ¬(s.notePut q 0).runTailGap q = true := by
    unfold Chip.runTailGap
    rw [Chip.notePut_kinds]
    exact fun h => hgap (eq_of_beq h)
  dsimp only
  rw [Chip.notePut_kinds, if_neg (ne_true_of_eq_false hempty), if_pos hmode, if_neg htail, if_pos rfl]

end

/-! Served readers (R249, R251) -/

theorem Chip.runServe_of_none (h : (s.runner q).waiters = []) (k : Nat) : s.runServe q k = s := by
  cases k with
  | zero => rfl
  | succ k =>
    unfold Chip.runServe
    rw [h]

/-- The management function, first in line, gets the item and the runner serves the next. -/
theorem Chip.runServe_of_mgmt {k v m : Nat} {t : Chip} {ws : List Nat} (hwait : (s.runner q).waiters = 32 :: ws)
    (htake : s.runTake q = (some (k, v), t)) :
    s.runServe q (m + 1) =
      let u := (t.setRunner q { t.runner q with waiters := ws }).put (Reg.RUN_MGET_STAT q) k
      ({ u with lastRead := u.lastRead.put 0 32 v, outcome := u.outcome.put 0 32 0 }).runServe q m := by
  rw [Chip.runServe, hwait]
  dsimp only
  rw [htake]
  rfl

/-! Packets of hardware producers (R248, R255) -/

/-- The last item of a packet is end-marked. -/
theorem packetItems_getLast_fst {l : List Nat} (h : l ≠ []) : (packetItems l).getLast?.map (·.1) = some 1 := by
  induction l with
  | nil => exact absurd rfl h
  | cons w t ih =>
    cases t with
    | nil => rfl
    | cons x t =>
      have hrest := ih (List.cons_ne_nil x t)
      rw [packetItems]
      · cases hp : packetItems (x :: t) with
        | nil => rw [hp] at hrest; exact absurd hrest (by simp)
        | cons y l => rw [hp] at hrest; rwa [List.getLast?_cons_cons]
      · exact List.cons_ne_nil x t

theorem Chip.hwPut_of_refuses {code : Nat} {f : Option Nat} {l : List Nat} (h : s.runRefuses q true f = true) (hl : l ≠ []) :
    s.hwPut q code f (packetItems l) = (false, if code = 37 then s.inc (Reg.RUN_REJ_CNT q) else s.reject code 6 q 0x20) := by
  refine (if_pos h).trans ?_
  rw [packetItems_getLast_fst hl]
  rfl

/-- A packet goes as the flask the runner names, where it is one of the producer's, else as the producer's first. -/
theorem Chip.hwPacket_of_words {p : HwProducer} {packet : List (BitVec 32)} {o : Bool} {d : Chip} (hup : s.coreUp = true)
    (hpacket : packet ≠ [])
    (h : s.hwPut q (producerOf p).1
      (if (producerOf p).2.contains (s.wk (Reg.RUN_OWNER_PROD q)) then some (s.wk (Reg.RUN_OWNER_PROD q)) else (producerOf p).2.head?)
      (packetItems (packet.map BitVec.toNat)) = (o, d)) :
    s.hwPacket q p packet = if !o && p == .evt then d.inc Reg.EVT_RDROP_CNT else d := by
  refine (if_neg (not_or (not_bnot hup) fun h => hpacket (List.isEmpty_iff.1 h))).trans ?_
  dsimp only
  rw [h]

/-- Requester code 37 is that of the event producer alone. -/
theorem producerOf_code_iff (p : HwProducer) : (producerOf p).1 = 37 ↔ p = .evt := by
  cases p <;> decide

end

end Sys2Proof.Machine

namespace Sys2Proof.Proofs
open Sys2Proof.Machine

/-- Settles O48: enabling and disabling, puts, readers, packets, and the ends of an episode. -/
theorem runnerCommandResults : Obligations.RunnerCommandResults := by
  unfold Obligations.RunnerCommandResults
  intro r q w producer packet s c n en x size base good clash ctl noPut noTake b held open_ put now own flask
  have hput : s.chip.runRefuses n true (some 52) = true ↔ noPut := Chip.runRefuses_mgmt_put_iff
  have htake : s.chip.runRefuses n false (some 52) = true ↔ noTake := Chip.runRefuses_mgmt_take_iff
  have refused {p : Prop} {v : Bool} (hiff : v = true ↔ p) (h : ¬p) : v = false := Bool.eq_false_iff.2 fun hv => h (hiff.1 hv)
  refine ⟨fun ht => ⟨fun hgood hclash => gives_of_takes rfl ht (Chip.runEnable_of_fits hgood hclash),
      fun h => gives_of_takes rfl ht (Chip.runEnable_of_misfits h)⟩,
    fun ht => ⟨?disabled, ?disable⟩, fun ht => ⟨?mputNo, ?mput⟩, fun ht => ⟨?mputENo, ?mputE⟩, fun ht => ⟨?mdroppNo, ?mdropp⟩,
    fun ht => ⟨?mgetNo, ?mget⟩, fun hr => ⟨?otherPut, ?otherPutE, ?otherDrop, ?otherGet⟩, ?timeout, ?noTimeout, fun hup hpacket => ?packet,
    ?noPacket, ?check, ?noCheck, ?ovl, ?noOvl, ?room, ?last, ?full, ?dropping, ?served, ?serve⟩
  case disabled =>
    exact fun h => gives_of_takes (act := fun d => (d.runDisable n).ok) rfl ht (congrArg Chip.ok (if_pos (bnot h)))
  case disable =>
    intro h t u
    exact gives_of_takes (act := fun d => (d.runDisable n).ok) rfl ht (congrArg Chip.ok (if_neg (not_bnot h)))
  case mputNo =>
    exact fun h => gives_of_takes rfl ht ((if_pos rfl).trans (Chip.runPutBy_of_refuses (hput.2 h) ..))
  case mput =>
    exact fun h => gives_of_takes rfl ht ((if_pos rfl).trans (Chip.runPutBy_of_takes (refused hput h) ..))
  case mputENo =>
    exact fun h => gives_of_takes rfl ht ((if_pos rfl).trans (Chip.runPutBy_of_refuses (hput.2 h) ..))
  case mputE =>
    exact fun h => gives_of_takes rfl ht ((if_pos rfl).trans (Chip.runPutBy_of_takes (refused hput h) ..))
  case mdroppNo =>
    exact fun h => gives_of_takes rfl ht ((if_pos rfl).trans (Chip.runDroppBy_of_refuses (htake.2 h) _))
  case mdropp =>
    exact fun h => gives_of_takes rfl ht ((if_pos rfl).trans (Chip.runDroppBy_of_takes (refused htake h) _))
  case mgetNo =>
    exact fun h => gives_of_takes rfl ht ((if_neg (not_not_intro rfl)).trans (if_pos (htake.2 h)))
  case mget =>
    exact fun h => gives_of_takes rfl ht ((if_neg (not_not_intro rfl)).trans (if_neg (ne_true_of_eq_false (refused htake h))))
  case otherPut => exact fun ht => gives_of_takes rfl ht (if_neg hr)
  case otherPutE => exact fun ht => gives_of_takes rfl ht (if_neg hr)
  case otherDrop => exact fun ht => gives_of_takes rfl ht (if_neg hr)
  case otherGet => exact fun ht => gives_of_takes rfl ht (if_pos hr)
  case timeout => exact fun h => gives_of_run (f := fun d => d.runMgetTimeout n) rfl (if_pos h)
  case noTimeout => exact fun h => gives_of_run (f := fun d => d.runMgetTimeout n) rfl (if_neg (ne_true_of_eq_false h))
  case packet =>
    intro items isRefused
    have hiff : s.chip.runRefuses n true flask = true ↔ isRefused := Chip.runRefuses_put_iff
    have hwords : packet.map BitVec.toNat ≠ [] := fun h => hpacket (List.map_eq_nil_iff.1 h)
    have sent {o : Bool} {d t : Chip} (h : c.hwPut n (producerOf producer).1 flask items = (o, d))
        (ht : (if !o && producer == .evt then d.inc Reg.EVT_RDROP_CNT else d) = t) : Gives (.hardwarePut q producer packet) s t :=
      gives_of_run (f := fun d => d.hwPacket n producer packet) rfl ((Chip.hwPacket_of_words hup hpacket h).trans ht)
    refine ⟨fun h => ?_, fun h hne => ?_, fun h heq => ?_⟩
    · exact sent (if_neg (ne_true_of_eq_false (refused hiff h))) (if_neg (not_and_left Bool.false_ne_true _))
    · refine sent (Chip.hwPut_of_refuses (hiff.2 h) hwords) ((if_neg (not_and_right _ fun he => hne (eq_of_beq he))).trans ?_)
      exact if_neg fun he => hne ((producerOf_code_iff producer).1 he)
    · refine sent (Chip.hwPut_of_refuses (hiff.2 h) hwords) ((if_pos (and_intro rfl (beq_iff_eq.2 heq))).trans ?_)
      exact congrArg (fun d : Chip => d.inc Reg.EVT_RDROP_CNT) (if_pos ((producerOf_code_iff producer).2 heq))
  case noPacket =>
    rintro rfl
    exact gives_of_run (f := fun d => d.hwPacket n producer []) rfl (if_pos (or_inr _ rfl))
  case check => exact fun hup hen => gives_of_run (f := fun d => d.runPointerCheck n) rfl (if_pos (and_intro hup hen))
  case noCheck =>
    exact fun hen => gives_of_run (f := fun d => d.runPointerCheck n) rfl (if_neg (not_and_right _ (ne_true_of_eq_false hen)))
  case ovl => exact fun hovl hdue => gives_of_run (f := fun d => d.runOvlEnd n) rfl (if_pos (and_intro hovl (decide_eq_true hdue)))
  case noOvl =>
    refine fun h => gives_of_run (f := fun d => d.runOvlEnd n) rfl (if_neg ?_)
    exact h.elim (fun h => not_and_left (ne_true_of_eq_false h) _)
      (fun h => not_and_right _ (ne_true_of_eq_false (decide_eq_false (Nat.not_le.2 h))))
  case room => exact fun k v hopen hroom => Chip.runPut_of_room hopen.1 hopen.2 hroom
  case last => exact fun k v hopen hlast hempty => Chip.runPut_of_last_room hopen.1 hopen.2 hlast hempty
  case full => exact fun v hopen hfull hempty hmode hgap => Chip.runPut_of_full hopen.1 hopen.2 hfull hempty hmode hgap
  case dropping =>
    exact fun v hp hc => ⟨(Chip.runPut_of_dropping hp hc 0 v).trans (if_neg Nat.zero_ne_one),
      (Chip.runPut_of_dropping hp hc 1 v).trans (if_pos rfl)⟩
  case served => exact fun k h => Chip.runServe_of_none h k
  case serve =>
    rintro k v m t u ws hwait htake rfl
    exact Chip.runServe_of_mgmt hwait htake

end Sys2Proof.Proofs
end

section
/-! PROOF. The management function's commands of locks, pool and mailboxes (12_locks_buffers_messages.md). -/

namespace Sys2Proof.Machine

section
variable {s : Chip}

/-! Locks (R262 to R264) -/

theorem Chip.syncLockTry_of_free {l : Nat} (h : s.get (Reg.SYNC_LOCK_STAT_OWNER l) = 63) :
    s.syncLockTry .mgmt l = ((s.put (Reg.SYNC_LOCK_STAT_OWNER l) 32).put Reg.SYNC_LOCK_RES (if s.flag (Reg.SYNC_LOCK_STAT_POISON l) then 1 else 0)).ok := by
  have hother : s.lockOwner l ≠ 32 := fun h32 => absurd (h.symm.trans h32) (by decide)
  have htry : s.lockTry l 32 = s.lockTake l 32 := if_pos h
  refine (if_neg (not_not_intro rfl)).trans ((if_neg hother).trans ?_)
  rw [htry]
  rfl

theorem Chip.syncLockTry_of_held {l : Nat} (h : s.get (Reg.SYNC_LOCK_STAT_OWNER l) ≠ 63) (hother : s.get (Reg.SYNC_LOCK_STAT_OWNER l) ≠ 32) :
    s.syncLockTry .mgmt l = (s.put Reg.SYNC_LOCK_RES 2).ok := by
  have htry : s.lockTry l 32 = (2, s) := if_neg h
  refine (if_neg (not_not_intro rfl)).trans ((if_neg hother).trans ?_)
  rw [htry]

/-- A release of an unpoisoned lock of the management function passes it on. -/
theorem Chip.syncLockRel_of_owner {l : Nat} (h : s.get (Reg.SYNC_LOCK_STAT_OWNER l) = 32) (hpoison : s.flag (Reg.SYNC_LOCK_STAT_POISON l) = false) :
    s.syncLockRel .mgmt l = (s.lockPass l).ok :=
  (if_neg (not_not_intro rfl)).trans (if_neg (not_or_intro (not_not_intro h) (ne_true_of_eq_false hpoison)))

theorem Chip.lockPass_of_none {l : Nat} (h : s.sync.lockWait.get [] l = []) : s.lockPass l = s.put (Reg.SYNC_LOCK_STAT_OWNER l) 63 := by
  have hwait : s.lockWaiters l = [] := h
  unfold Chip.lockPass
  rw [hwait]

theorem Chip.lockPass_of_waiter {l e : Nat} {t : List Nat} (h : s.sync.lockWait.get [] l = e :: t)
    (hpoison : s.flag (Reg.SYNC_LOCK_STAT_POISON l) = false) :
    s.lockPass l =
      (({ s with sync := { s.sync with lockWait := s.sync.lockWait.put [] l t } }).put (Reg.SYNC_LOCK_STAT_OWNER l) e).grant
        e 0 1 true false false 0 := by
  have hwait : s.lockWaiters l = e :: t := h
  have hclean : (s.setLockWaiters l t).lockPoison l = false := hpoison
  unfold Chip.lockPass
  rw [hwait]
  dsimp only
  rw [hclean]
  rfl

/-! The pool (R268 to R270) -/

theorem Chip.poolOpen_of_lt (h : s.wk Reg.SYNC_POOL_CFG_GATE_RESV < s.poolFree) : s.poolOpen = true := decide_eq_true h

theorem Chip.quotaBars_iff {who : Nat} :
    s.quotaBars who = true ↔ s.wkB Reg.SYNC_POOL_CFG_MAX_OWN = true ∧ s.wk Reg.SYNC_POOL_CFG_MAX_OWN ≤ s.owned who := by
  simp only [Chip.quotaBars, Bool.and_eq_true, decide_eq_true_iff]

theorem Chip.poolAlloc_of_pop {who x : Nat} {t : Chip} (hopen : s.poolOpen = true) (hquota : ¬s.quotaBars who = true)
    (hpop : s.poolPop who = some (x, t)) : s.poolAlloc who = (some x, t) := by
  refine (if_pos (and_intro hopen (bnot (Bool.eq_false_iff.2 hquota)))).trans ?_
  rw [hpop]

theorem Chip.poolAlloc_of_closed {who : Nat} (hopen : ¬s.poolOpen = true) : s.poolAlloc who = (none, s.poolFail) :=
  (if_neg (not_and_left hopen _)).trans (congrArg (fun d : Chip => (none, d.poolFail)) (if_neg hopen))

theorem Chip.poolAlloc_of_quota {who : Nat} (hopen : s.poolOpen = true) (hquota : s.quotaBars who = true) :
    s.poolAlloc who = (none, (s.inc Reg.SYNC_QUOTA_CNT).poolFail) :=
  (if_neg (not_and_right _ (not_bnot hquota))).trans (congrArg (fun d : Chip => (none, d.poolFail)) (if_pos hopen))

theorem Chip.syncAlloc_of_some {x : Nat} {t : Chip} (h : s.poolAlloc 32 = (some x, t)) :
    s.syncAlloc .mgmt = ({ t with lastRead := t.lastRead.put 0 32 x }).ok := by
  refine (if_neg (not_not_intro rfl)).trans ?_
  rw [h]

theorem Chip.syncAlloc_of_none {t : Chip} (h : s.poolAlloc 32 = (none, t)) :
    s.syncAlloc .mgmt = ({ t with lastRead := t.lastRead.put 0 32 0xFFFFFFFF }).ok := by
  refine (if_neg (not_not_intro rfl)).trans ?_
  rw [h]

/-- A free or a gift that is done. -/
theorem Chip.syncFree_of_done {b : Nat} {t : Chip} (h : s.bufFree 32 b = (0, t)) : s.syncFree .mgmt b = t.ok := by
  refine (if_neg (not_not_intro rfl)).trans ?_
  rw [h]
  exact if_pos rfl

theorem Chip.syncFree_of_misuse {b n : Nat} {t : Chip} (h : s.bufFree 32 b = (n, t)) (hn : n ≠ 0) : s.syncFree .mgmt b = t.mgmtMisuse 3 b := by
  refine (if_neg (not_not_intro rfl)).trans ?_
  rw [h]
  exact if_neg hn

theorem Chip.ownerFenced_iff {o : Nat} (ho : o ≤ 32) :
    s.ownerFenced o = true ↔ (o < 32 ∧ s.active o = false) ∨ (o = 32 ∧ s.active 52 = false) := by
  unfold Chip.ownerFenced ownerFlask
  by_cases hlow : o < 32
  · simp [hlow, Nat.ne_of_lt hlow]
  · obtain rfl : o = 32 := by omega
    simp

theorem Chip.syncGive_of_done {b o : Nat} (h : s.get (Reg.SYNC_BUF_OWN b) = 32) (ho : o ≤ 32) (hfence : ¬s.ownerFenced o = true) :
    s.syncGive .mgmt b o = ((s.put (Reg.SYNC_BUF_OWN b) o).poolServe 32).ok := by
  have hgive : s.bufGive 32 b o = (0, (s.put (Reg.SYNC_BUF_OWN b) o).poolServe 32) :=
    (if_neg (not_not_intro h)).trans ((if_neg (Nat.not_lt.2 ho)).trans (if_neg hfence))
  refine (if_neg (not_not_intro rfl)).trans ?_
  rw [hgive]
  exact if_pos rfl

theorem Chip.syncGive_of_fenced {b o : Nat} (h : s.get (Reg.SYNC_BUF_OWN b) = 32) (ho : o ≤ 32) (hfence : s.ownerFenced o = true) :
    s.syncGive .mgmt b o = s.no 32 7 0 0x10 := by
  have hgive : s.bufGive 32 b o = (4, s) := (if_neg (not_not_intro h)).trans ((if_neg (Nat.not_lt.2 ho)).trans (if_pos hfence))
  refine (if_neg (not_not_intro rfl)).trans ?_
  rw [hgive]
  exact (if_neg (Nat.succ_ne_zero 3)).trans (if_pos rfl)

theorem Chip.syncGive_of_no_target {b o : Nat} (h : s.get (Reg.SYNC_BUF_OWN b) = 32) (ho : 32 < o) :
    s.syncGive .mgmt b o = s.mgmtMisuse 3 b := by
  have hgive : s.bufGive 32 b o = (3, s) := (if_neg (not_not_intro h)).trans (if_pos ho)
  refine (if_neg (not_not_intro rfl)).trans ?_
  rw [hgive]
  exact (if_neg (Nat.succ_ne_zero 2)).trans (if_neg (by decide : (3 : Nat) ≠ 4))

theorem Chip.syncGive_of_foreign {b o : Nat} (h : s.get (Reg.SYNC_BUF_OWN b) ≠ 32) :
    s.syncGive .mgmt b o = (s.inc Reg.SYNC_FOREIGN_CNT).mgmtMisuse 3 b := by
  have hgive : s.bufGive 32 b o = (2, s.inc Reg.SYNC_FOREIGN_CNT) := if_pos h
  refine (if_neg (not_not_intro rfl)).trans ?_
  rw [hgive]
  exact (if_neg (Nat.succ_ne_zero 1)).trans (if_neg (by decide : (2 : Nat) ≠ 4))

/-! Mailboxes (R274) -/

section
variable {v : Nat} (hown : s.get (Reg.SYNC_BUF_OWN (bits v 10 0)) = 32) (hlow : 1 ≤ bits v 23 16) (hhigh : bits v 23 16 ≤ 128)
include hown hlow hhigh

/-- A good message of the management function goes where its mailbox takes it. -/
theorem Chip.syncSend_of_good :
    s.syncSend .mgmt v =
      let t := s.mbxSend (bits v 29 24) (bits v 10 0) (bits v 23 16) 52
      if t.1 = 0 then t.2.ok else (.reject, t.2.mbxRefuse 32 0x20) :=
  (if_neg (not_not_intro rfl)).trans (if_neg (not_or_intro (not_not_intro hown)
    (not_or_intro (Nat.one_le_iff_ne_zero.1 hlow) (Nat.not_lt.2 hhigh))))

theorem Chip.syncSend_of_room (hmay : s.maySend (bits v 29 24) 52 = true)
    (hroom : (s.mbx (bits v 29 24)).count + (s.mbx (bits v 29 24)).resv < s.mbxDepth (bits v 29 24)) :
    s.syncSend .mgmt v = (((s.mbxPush (bits v 29 24) (bits v 10 0) (bits v 23 16)).mbxServe (bits v 29 24) 32).poolServe 32).ok := by
  have hsend : s.mbxSend (bits v 29 24) (bits v 10 0) (bits v 23 16) 52 = _ :=
    (if_neg (not_bnot hmay)).trans (if_neg (Nat.not_le.2 hroom))
  refine (Chip.syncSend_of_good hown hlow hhigh).trans ?_
  rw [hsend]
  exact if_pos rfl

theorem Chip.syncSend_of_refused
    (h : s.maySend (bits v 29 24) 52 = false ∨ s.mbxDepth (bits v 29 24) ≤ (s.mbx (bits v 29 24)).count + (s.mbx (bits v 29 24)).resv) :
    s.syncSend .mgmt v = (.reject, s.mbxRefuse 32 0x20) := by
  have hsend : ∃ n, n ≠ 0 ∧ s.mbxSend (bits v 29 24) (bits v 10 0) (bits v 23 16) 52 = (n, s) := by
    by_cases hmay : s.maySend (bits v 29 24) 52 = true
    · exact ⟨1, by decide, (if_neg (not_bnot hmay)).trans (if_pos (h.resolve_left fun h => ne_true_of_eq_false h hmay))⟩
    · exact ⟨2, by decide, if_pos (bnot (Bool.eq_false_iff.2 hmay))⟩
  obtain ⟨n, hn, hsend⟩ := hsend
  refine (Chip.syncSend_of_good hown hlow hhigh).trans ?_
  rw [hsend]
  exact if_neg hn

end

theorem Chip.syncRecv_of_empty (hmay : s.mayRecv s.sync.sel 52 = true) (h : s.mbxPeek s.sync.sel = none) :
    s.syncRecv .mgmt = ({ s with lastRead := s.lastRead.put 0 32 0xFFFFFFFF }).ok := by
  refine (if_neg (not_not_intro rfl)).trans ((if_neg (not_bnot hmay)).trans ?_)
  rw [h]

theorem Chip.syncRecv_of_message {y n : Nat} (hmay : s.mayRecv s.sync.sel 52 = true) (h : s.mbxPeek s.sync.sel = some (y, n)) :
    s.syncRecv .mgmt =
      (let t := (s.mbxPop s.sync.sel).put (Reg.SYNC_BUF_OWN y) 32
       { t with lastRead := t.lastRead.put 0 32 (y + 65536 * n) }).ok := by
  refine (if_neg (not_not_intro rfl)).trans ((if_neg (not_bnot hmay)).trans ?_)
  rw [h]
  rfl

end

end Sys2Proof.Machine

namespace Sys2Proof.Proofs
open Sys2Proof.Machine

/-- Settles O49: the management function's locks, buffers and messages, a flush, and the end of the pool's episode. -/
theorem lockBufferMessageCommandResults : Obligations.LockBufferMessageCommandResults := by
  unfold Obligations.LockBufferMessageCommandResults
  intro r lock buf owner m v k s c l holder poison lk gives misuse b code sb len box read fenced
  refine ⟨fun ht => ⟨?tryFree, ?tryHeld, ?tryOwn, ?release, ?pass, ?releaseMisuse, ?clear, ?clearMisuse⟩, fun ht => ⟨?alloc, ?closed, ?quota⟩,
    fun ht => ⟨?free, ?double, ?foreign⟩, fun ht => ⟨?give, ?giveFenced, ?giveNowhere, ?giveForeign⟩, fun ht => ⟨?send, ?sendMisuse⟩,
    fun ht => gives_of_takes rfl ht (if_neg (not_not_intro rfl)), fun ht => ⟨?empty, ?message, ?noRecv⟩, fun hr => ?others,
    fun ht => gives_of_takes rfl ht rfl, ?ovl, ?noOvl⟩
  case tryFree => exact fun h => gives_of_takes rfl ht (Chip.syncLockTry_of_free h)
  case tryHeld => exact fun h hother => gives_of_takes rfl ht (Chip.syncLockTry_of_held h hother)
  case tryOwn => exact fun h => gives_of_takes rfl ht ((if_neg (not_not_intro rfl)).trans (if_pos h))
  case release =>
    exact fun h hpoison hwait => gives_of_takes rfl ht ((Chip.syncLockRel_of_owner h hpoison).trans
      (congrArg Chip.ok (Chip.lockPass_of_none hwait)))
  case pass =>
    exact fun h hpoison e t hwait => gives_of_takes rfl ht ((Chip.syncLockRel_of_owner h hpoison).trans
      (congrArg Chip.ok (Chip.lockPass_of_waiter hwait hpoison)))
  case releaseMisuse => exact fun h => gives_of_takes rfl ht ((if_neg (not_not_intro rfl)).trans (if_pos h))
  case clear => exact fun h => gives_of_takes rfl ht ((if_neg (not_not_intro rfl)).trans (if_neg (not_not_intro h)))
  case clearMisuse => exact fun h => gives_of_takes rfl ht ((if_neg (not_not_intro rfl)).trans (if_pos h))
  case alloc =>
    intro t x hopen hquota hpop
    have hbars : ¬c.quotaBars 32 = true := fun h => by
      obtain ⟨hset, hheld⟩ := Chip.quotaBars_iff.1 h
      exact hquota.elim (fun h => ne_true_of_eq_false h hset) (fun h => Nat.not_le.2 h hheld)
    exact gives_of_takes rfl ht (Chip.syncAlloc_of_some (Chip.poolAlloc_of_pop (Chip.poolOpen_of_lt hopen) hbars hpop))
  case closed =>
    exact fun h => gives_of_takes rfl ht (Chip.syncAlloc_of_none
      (Chip.poolAlloc_of_closed (ne_true_of_eq_false (decide_eq_false (Nat.not_lt.2 h)))))
  case quota =>
    exact fun hopen hset hheld => gives_of_takes rfl ht (Chip.syncAlloc_of_none
      (Chip.poolAlloc_of_quota (Chip.poolOpen_of_lt hopen) (Chip.quotaBars_iff.2 ⟨hset, hheld⟩)))
  case free => exact fun h => gives_of_takes rfl ht (Chip.syncFree_of_done (Chip.bufFree_of_owner h (by decide)))
  case double => exact fun h => gives_of_takes rfl ht (Chip.syncFree_of_misuse (if_pos h) Nat.one_ne_zero)
  case foreign =>
    exact fun h h63 => gives_of_takes rfl ht (Chip.syncFree_of_misuse ((if_neg h63).trans (if_pos h)) (Nat.succ_ne_zero 1))
  case give =>
    exact fun h ho hfence => gives_of_takes rfl ht (Chip.syncGive_of_done h ho fun hf => hfence ((Chip.ownerFenced_iff ho).1 hf))
  case giveFenced =>
    exact fun h ho hfence => gives_of_takes rfl ht (Chip.syncGive_of_fenced h ho ((Chip.ownerFenced_iff ho).2 hfence))
  case giveNowhere => exact fun h ho => gives_of_takes rfl ht (Chip.syncGive_of_no_target h ho)
  case giveForeign => exact fun h => gives_of_takes rfl ht (Chip.syncGive_of_foreign h)
  case send =>
    exact fun h hlow hhigh => ⟨fun hmay hroom => gives_of_takes rfl ht (Chip.syncSend_of_room h hlow hhigh hmay hroom),
      fun hno => gives_of_takes rfl ht (Chip.syncSend_of_refused h hlow hhigh hno)⟩
  case sendMisuse => exact fun h => gives_of_takes rfl ht ((if_neg (not_not_intro rfl)).trans (if_pos h))
  case empty => exact fun hmay h => gives_of_takes rfl ht (Chip.syncRecv_of_empty hmay h)
  case message => exact fun y n hmay h => gives_of_takes rfl ht (Chip.syncRecv_of_message hmay h)
  case noRecv => exact fun hmay => gives_of_takes rfl ht ((if_neg (not_not_intro rfl)).trans (if_pos (bnot hmay)))
  case others =>
    exact ⟨fun ht => ⟨gives_of_takes rfl ht (if_pos hr), gives_of_takes rfl ht (if_pos hr), gives_of_takes rfl ht (if_pos hr)⟩,
      fun ht => gives_of_takes rfl ht (if_pos hr), fun ht => gives_of_takes rfl ht (if_pos hr), fun ht => gives_of_takes rfl ht (if_pos hr),
      fun ht => gives_of_takes rfl ht (if_pos hr), fun ht => gives_of_takes rfl ht (if_pos hr), fun ht => gives_of_takes rfl ht (if_pos hr)⟩
  case ovl => exact fun hovl hdue => gives_of_run (f := Chip.poolOvlEnd) rfl (if_pos (and_intro hovl (decide_eq_true hdue)))
  case noOvl =>
    refine fun h => gives_of_run (f := Chip.poolOvlEnd) rfl (if_neg ?_)
    exact h.elim (fun h => not_and_left (ne_true_of_eq_false h) _)
      (fun h => not_and_right _ (ne_true_of_eq_false (decide_eq_false (Nat.not_le.2 h))))

end Sys2Proof.Proofs
end

section
/-! PROOF. The local hub: requests for a port and for its translator, and what happens at its ports (14_local_hub.md). -/

namespace Sys2Proof.Machine

section
variable {s : Chip} {p : Nat} {f : Chip → Chip}

/-! Whom a request for a port reaches (R303, R304, R306) -/

theorem Chip.portReq_of_off (h : s.usbOn .hub = false) : s.portReq p f = s := if_neg (ne_true_of_eq_false h)

section
variable (hon : s.usbOn .hub = true ∧ s.upState = 3)
include hon

theorem Chip.portReq_of_no_port (h : ¬(1 ≤ p ∧ p ≤ 9)) : s.portReq p f = (s.inc Reg.HUB_REQ_STALL_CNT).answer .stall := by
  refine (if_pos hon.1).trans (if_pos (Or.inr ?_))
  omega

variable (hport : 1 ≤ p ∧ p ≤ 9)
include hport

theorem Chip.portReq_of_port : s.portReq p f = f s := by
  refine (if_pos hon.1).trans (if_neg (not_or_intro (not_not_intro hon.2) ?_))
  omega

theorem Chip.setPort_of_shut (h : s.tunnelled p = true ∨ s.occPort p = true) :
    s.setPort p f = (s.inc Reg.HUB_REQ_STALL_CNT).answer .stall :=
  (Chip.portReq_of_port hon hport).trans (if_pos (Bool.or_eq_true_iff.2 h))

theorem Chip.setPort_of_open (h : ¬(s.tunnelled p = true ∨ s.occPort p = true)) {t : Chip} (ht : f s = t) :
    s.setPort p f = t.answer .ack :=
  (Chip.portReq_of_port hon hport).trans ((if_neg fun hs => h (Bool.or_eq_true_iff.1 hs)).trans (congrArg (fun d : Chip => d.answer .ack) ht))

theorem Chip.clearPort_of_tunnelled (h : s.tunnelled p = true) : s.clearPort p f = s.answer .ack :=
  (Chip.portReq_of_port hon hport).trans (congrArg (fun d : Chip => d.answer .ack) (if_pos h))

theorem Chip.clearPort_of_local (h : s.tunnelled p = false) {t : Chip} (ht : f s = t) : s.clearPort p f = t.answer .ack :=
  (Chip.portReq_of_port hon hport).trans
    (congrArg (fun d : Chip => d.answer .ack) ((if_neg (ne_true_of_eq_false h)).trans ht))

/-- A test begins where every other enabled port is suspended. -/
theorem Chip.testPort_of_quiet {mode : Nat} (hshut : ¬(s.tunnelled p = true ∨ s.occPort p = true)) (hp : p ≠ 9) (hlow : 1 ≤ mode)
    (hhigh : mode ≤ 5)
    (hquiet : ∀ k : Nat, 1 ≤ k → k ≤ 9 → k ≠ p →
      bit (s.get (Reg.HUB_PORT_STAT_STATUS k)) stEnable = false ∨ bit (s.get (Reg.HUB_PORT_STAT_STATUS k)) stSuspend = true) :
    s.testPort p mode = ((s.setHp p { s.hp p with test := mode }).setSt p (setBit (s.hp p).st stTest)).answer .ack := by
  refine (Chip.portReq_of_port hon hport).trans (if_neg ?_)
  rintro (h | h | h | h | h)
  · exact hshut (Bool.or_eq_true_iff.1 h)
  · exact hp h
  · exact Nat.one_le_iff_ne_zero.1 hlow h
  · exact Nat.not_lt.2 hhigh h
  · obtain ⟨k, hk, hothers⟩ := List.any_eq_true.1 h
    simp only [Bool.and_eq_true, bne_iff_ne, Bool.not_eq_true'] at hothers
    obtain ⟨⟨hne, hen⟩, hsus⟩ := hothers
    have hrange : 1 ≤ k ∧ k ≤ 9 := by simp only [List.mem_cons, List.not_mem_nil, or_false] at hk; omega
    exact (hquiet k hrange.1 hrange.2 hne).elim (fun h => ne_true_of_eq_false h hen) (fun h => ne_true_of_eq_false hsus h)

theorem Chip.testPort_of_refused {mode : Nat} (h : (s.tunnelled p = true ∨ s.occPort p = true) ∨ p = 9 ∨ mode = 0 ∨ 5 < mode) :
    s.testPort p mode = (s.inc Reg.HUB_REQ_STALL_CNT).answer .stall := by
  refine (Chip.portReq_of_port hon hport).trans (if_pos ?_)
  rcases h with h | h | h | h
  · exact Or.inl (Bool.or_eq_true_iff.2 h)
  · exact Or.inr (Or.inl h)
  · exact Or.inr (Or.inr (Or.inl h))
  · exact Or.inr (Or.inr (Or.inr (Or.inl h)))

omit hport

/-! Translators (R310 to R312) -/

theorem Chip.ttReq_of_mgmt_port (h : p = 9) : s.ttReq p f = (s.inc Reg.HUB_REQ_STALL_CNT).answer .stall :=
  (Chip.portReq_of_port hon (by omega)).trans (if_pos h)

theorem Chip.ttReq_of_tunnelled (hlow : 1 ≤ p) (hhigh : p ≤ 8) (h : s.tunnelled p = true) : s.ttReq p f = s.answer .ack :=
  (Chip.portReq_of_port hon (by omega)).trans ((if_neg (by omega)).trans (if_pos h))

theorem Chip.ttReq_of_local (hlow : 1 ≤ p) (hhigh : p ≤ 8) (h : s.tunnelled p = false) : s.ttReq p f = f s :=
  (Chip.portReq_of_port hon (by omega)).trans ((if_neg (by omega)).trans (if_neg (ne_true_of_eq_false h)))

end

theorem Chip.ttPorts_of_multi (h : s.flag Reg.HUB_STAT_ALT = true) : s.ttPorts p = [p] := if_pos (or_inl h _)

theorem Chip.mem_ttPorts_iff (h : s.flag Reg.HUB_STAT_ALT = false) (hp : s.tunnelled p = false) (k : Nat) :
    k ∈ s.ttPorts p ↔ 1 ≤ k ∧ k ≤ 8 ∧ s.tunnelled k = false := by
  have hall : s.ttPorts p = [1, 2, 3, 4, 5, 6, 7, 8].filter (fun q => !s.tunnelled q) :=
    if_neg (not_or (ne_true_of_eq_false h) (ne_true_of_eq_false hp))
  rw [hall, List.mem_filter, Bool.not_eq_true', ← and_assoc]
  refine and_congr_left' ?_
  simp only [List.mem_cons, List.not_mem_nil, or_false]
  omega

/-! Actions at a port (R308, R317 to R319) -/

theorem Chip.suspendPort_of_ready (hen : bit (s.hp p).st stEnable = true) (hsus : bit (s.hp p).st stSuspend = false) (hphase : (s.hp p).phase = 0) :
    s.suspendPort p = s.setSt p (setBit (s.hp p).st stSuspend) :=
  if_pos (and_intro (and_intro hen (bnot hsus)) (beq_iff_eq.2 hphase))

theorem Chip.suspendPort_of_busy (h : bit (s.hp p).st stEnable = false ∨ bit (s.hp p).st stSuspend = true ∨ (s.hp p).phase ≠ 0) :
    s.suspendPort p = s := by
  refine if_neg ?_
  rcases h with h | h | h
  · exact not_and_left (not_and_left (ne_true_of_eq_false h) _) _
  · exact not_and_left (not_and_right _ (not_bnot h)) _
  · exact not_and_right _ fun he => h (eq_of_beq he)

theorem Chip.resumePort_of_suspended (hsus : bit (s.hp p).st stSuspend = true) (hphase : (s.hp p).phase = 0) :
    s.resumePort p = s.setHp p { s.hp p with phase := 2, since := s.ct.toNat } :=
  if_pos (and_intro hsus (beq_iff_eq.2 hphase))

theorem Chip.resumePort_of_other (h : bit (s.hp p).st stSuspend = false ∨ (s.hp p).phase ≠ 0) : s.resumePort p = s :=
  if_neg (h.elim (fun h => not_and_left (ne_true_of_eq_false h) _) fun h => not_and_right _ fun he => h (eq_of_beq he))

theorem Chip.l1Exit_of_l1 (hl1 : bit (s.hp p).st stL1 = true) (hphase : (s.hp p).phase = 0) :
    s.l1Exit p = s.setHp p { s.hp p with phase := 3, since := s.ct.toNat } :=
  if_pos (and_intro hl1 (beq_iff_eq.2 hphase))

theorem Chip.l1Exit_of_other (h : bit (s.hp p).st stL1 = false ∨ (s.hp p).phase ≠ 0) : s.l1Exit p = s :=
  if_neg (h.elim (fun h => not_and_left (ne_true_of_eq_false h) _) fun h => not_and_right _ fun he => h (eq_of_beq he))

theorem Chip.resetBegin_of_connected (h : bit (s.hp p).st stConn = true) (hp : p ≠ 9) :
    s.resetBegin p = (s.setHp p { s.hp p with phase := 1, since := s.ct.toNat }).setSt p
      (setBit (clrBit (clrBit (clrBit (s.hp p).st stEnable) stSuspend) stL1) stReset) :=
  (if_neg (not_bnot h)).trans (if_neg hp)

theorem Chip.powerUp_of_free (h : s.lockedOff p = false) (hp : p ≠ 9) :
    s.powerUp p = ((s.setHp p { s.hp p with tripped := false, fenced := false }).portPowerOn p).tellTerms :=
  (if_neg (ne_true_of_eq_false h)).trans (congrArg Chip.tellTerms (if_neg hp))

/-! The ends of resets, resumes and L1 exits (R308, R318, R319) -/

theorem Chip.resetEnd_of_resetting {v : UsbSpeed} {t : Chip} (h : (s.hp p).phase = 1)
    (ht : s.timeTo ((s.hp p).since + 15000000) = t) :
    s.resetEnd p v =
      let z := t.hp p
      let v := if p = 9 then (if t.flag Reg.HUB_STAT_HS then .high else .full) else v
      let st := clrBit (clrBit (clrBit z.st stReset) stLow) stHigh
      ((t.setHp p { z with phase := 0, conn := some v }).setSt p (setBit st stEnable + speedBits v)).portChange p .reset := by
  subst ht
  unfold Chip.resetEnd
  rw [if_neg (not_not_intro h)]
  rfl

theorem Chip.resumeEnd_of_resuming (h : (s.hp p).phase = 2) : s.resumeEnd p = (s.timeTo ((s.hp p).since + 20000000)).resumeDone p :=
  if_neg (not_not_intro h)

/-- What leaves the block as it is does so in reset as well. -/
theorem Chip.ite_coreUp_of_eq {t : Chip} (h : t = s) : (if s.coreUp then t else s) = s :=
  (congrArg (fun t => if s.coreUp then t else s) h).trans (ite_self s)

/-! Connections (R299, R304) -/

section
variable (hup : s.coreUp = true) (hlow : 1 ≤ p) (hhigh : p ≤ 8) (hocc : s.occPort p = false)
include hup hlow hhigh hocc

theorem Chip.not_connect_shut : ¬(!s.coreUp || p == 0 || p == 9 || s.occPort p) = true :=
  not_or (not_or (not_or (not_bnot hup) fun h => absurd (eq_of_beq h) (by omega)) fun h => absurd (eq_of_beq h) (by omega))
    (ne_true_of_eq_false hocc)

theorem Chip.connectChange_of_leave {v : UsbSpeed} :
    s.connectChange p false v = if (s.hp p).conn.isSome then s.portGone p else s :=
  (if_neg (Chip.not_connect_shut hup hlow hhigh hocc)).trans (if_pos rfl)

theorem Chip.connectChange_of_arrive {v : UsbSpeed} :
    s.connectChange p true v =
      if s.portPowered p && (s.hp p).conn.isNone && (decide (5 ≤ p) || (s.cuff (p - 1)).pair) then s.portConnect p v else s :=
  (if_neg (Chip.not_connect_shut hup hlow hhigh hocc)).trans (if_neg Bool.noConfusion)

end

end

end Sys2Proof.Machine

namespace Sys2Proof.Proofs
open Sys2Proof.Machine

/-- Settles O51: the requests for a port of the local hub, for its translator, and what happens at its ports. -/
theorem hubPortResults : Obligations.HubPortResults := by
  unfold Obligations.HubPortResults
  intro q p mode chg ep speed besl s c n m x y on has shut stall acked
  refine ⟨?noPort, ?off, ?status, ?shut, fun hon hhas hopen => ?set, ?clearTunnelled, fun hon hhas hlocal => ?clear, ?change, ?ttMgmt,
    ?ttTunnelled, ?ttLocal, fun h => Chip.ttPorts_of_multi h, fun h hp k => Chip.mem_ttPorts_iff h hp k, ?resetEnd, ?noResetEnd, ?resumeEnd,
    ?noResumeEnd, ?l1End, ?noL1End, ?wakeSuspend, ?wakeL1, ?noWake, ?l1Entry, ?noL1Entry, fun hup hlow hhigh hocc => ?connect, ?babble,
    ?noBabble⟩
  case noPort =>
    intro hon hno
    have stalled {i : Instr} {f : Chip → Chip} (h : exec i s = s.run fun d => d.portReq n f) : Gives i s stall :=
      gives_of_run h (Chip.portReq_of_no_port hon hno)
    exact ⟨stalled rfl, stalled rfl, stalled rfl, stalled rfl, stalled rfl, stalled rfl, stalled rfl, stalled rfl, stalled rfl, stalled rfl,
      stalled rfl, stalled rfl, stalled rfl, stalled rfl⟩
  case off =>
    intro hoff
    have unheard {i : Instr} {f : Chip → Chip} (h : exec i s = s.run fun d => d.portReq n f) : Gives i s c :=
      gives_of_run h (Chip.portReq_of_off hoff)
    exact ⟨unheard rfl, unheard rfl, unheard rfl, unheard rfl, unheard rfl, unheard rfl, unheard rfl, unheard rfl, unheard rfl, unheard rfl,
      unheard rfl, unheard rfl, unheard rfl, unheard rfl⟩
  case status => exact fun hon hhas => gives_of_run (f := fun d => d.portStatus n) rfl (Chip.portReq_of_port hon hhas)
  case shut =>
    intro hon hhas hshut
    have stalled {i : Instr} {f : Chip → Chip} (h : exec i s = s.run fun d => d.setPort n f) : Gives i s stall :=
      gives_of_run h (Chip.setPort_of_shut hon hhas hshut)
    exact ⟨stalled rfl, stalled rfl, stalled rfl,
      gives_of_run (f := fun d => d.testPort n mode.toNat) rfl (Chip.testPort_of_refused hon hhas (Or.inl hshut))⟩
  case set =>
    have done {i : Instr} {f : Chip → Chip} {t : Chip} (h : exec i s = s.run fun d => d.setPort n f) (ht : f c = t) : Gives i s (acked t) :=
      gives_of_run h (Chip.setPort_of_open hon hhas hopen ht)
    exact ⟨fun hconn hn => done rfl (Chip.resetBegin_of_connected hconn hn), fun hconn => done rfl (if_pos (bnot hconn)),
      fun hen hsus hphase => done rfl (Chip.suspendPort_of_ready hen hsus hphase), fun h => done rfl (Chip.suspendPort_of_busy h),
      fun h => done rfl (if_pos h), fun h hn => done rfl (Chip.powerUp_of_free h hn),
      fun hn hlow hhigh hquiet => gives_of_run (f := fun d => d.testPort n mode.toNat) rfl
        (Chip.testPort_of_quiet hon hhas hopen hn hlow hhigh hquiet),
      fun h => gives_of_run (f := fun d => d.testPort n mode.toNat) rfl (Chip.testPort_of_refused hon hhas (Or.inr h))⟩
  case clearTunnelled =>
    intro hon hhas htun
    have left {i : Instr} {f : Chip → Chip} (h : exec i s = s.run fun d => d.clearPort n f) : Gives i s (acked c) :=
      gives_of_run h (Chip.clearPort_of_tunnelled hon hhas htun)
    exact ⟨left rfl, left rfl, left rfl, left rfl⟩
  case clear =>
    have done {i : Instr} {f : Chip → Chip} {t : Chip} (h : exec i s = s.run fun d => d.clearPort n f) (ht : f c = t) : Gives i s (acked t) :=
      gives_of_run h (Chip.clearPort_of_local hon hhas hlocal ht)
    exact ⟨done rfl rfl, fun hsus hphase => done rfl (Chip.resumePort_of_suspended hsus hphase), fun h => done rfl (Chip.resumePort_of_other h),
      fun hn => done rfl (congrArg Chip.tellTerms (if_neg hn)), fun hn => done rfl (congrArg Chip.tellTerms (if_pos hn)),
      fun hl1 hphase => done rfl (Chip.l1Exit_of_l1 hl1 hphase), fun h => done rfl (Chip.l1Exit_of_other h)⟩
  case change => exact fun hon hhas => gives_of_run (f := fun d => d.clearChange n chg) rfl (Chip.portReq_of_port hon hhas)
  case ttMgmt =>
    intro hon hn
    have stalled {i : Instr} {f : Chip → Chip} (h : exec i s = s.run fun d => d.ttReq n f) : Gives i s stall :=
      gives_of_run h (Chip.ttReq_of_mgmt_port hon hn)
    exact ⟨stalled rfl, stalled rfl, stalled rfl, stalled rfl⟩
  case ttTunnelled =>
    intro hon hlow hhigh htun
    have left {i : Instr} {f : Chip → Chip} (h : exec i s = s.run fun d => d.ttReq n f) : Gives i s (acked c) :=
      gives_of_run h (Chip.ttReq_of_tunnelled hon hlow hhigh htun)
    exact ⟨left rfl, left rfl, left rfl, left rfl⟩
  case ttLocal =>
    intro hon hlow hhigh hlocal
    have done {i : Instr} {f : Chip → Chip} (h : exec i s = s.run fun d => d.ttReq n f) : Gives i s (f c) :=
      gives_of_run h (Chip.ttReq_of_local hon hlow hhigh hlocal)
    exact ⟨done (f := fun d => (d.ttClear n ep).answer .ack) rfl, done (f := fun d => (d.ttReset n).answer .ack) rfl,
      done (f := fun d => (d.ttStop n).answer .ack) rfl, done (f := Chip.ttState) rfl⟩
  case resetEnd =>
    intro hup hphase t z v st
    have ht : c.timeTo ((c.hp m).since + 15000000) = t := rfl
    clear_value t
    exact gives_of_run (f := fun d => if d.coreUp then d.resetEnd m speed else d) rfl
      ((if_pos hup).trans (Chip.resetEnd_of_resetting hphase ht))
  case noResetEnd =>
    exact fun hphase => gives_of_run (f := fun d => if d.coreUp then d.resetEnd m speed else d) rfl
      (Chip.ite_coreUp_of_eq (if_pos hphase))
  case resumeEnd =>
    intro hup hphase t
    exact gives_of_run (f := fun d => if d.coreUp then d.resumeEnd m else d) rfl ((if_pos hup).trans (Chip.resumeEnd_of_resuming hphase))
  case noResumeEnd =>
    exact fun hphase => gives_of_run (f := fun d => if d.coreUp then d.resumeEnd m else d) rfl
      (Chip.ite_coreUp_of_eq (if_pos hphase))
  case l1End =>
    intro hup hphase t
    exact gives_of_run (f := fun d => if d.coreUp then d.l1End m else d) rfl ((if_pos hup).trans (if_neg (not_not_intro hphase)))
  case noL1End =>
    exact fun hphase => gives_of_run (f := fun d => if d.coreUp then d.l1End m else d) rfl
      (Chip.ite_coreUp_of_eq (if_pos hphase))
  case wakeSuspend =>
    exact fun hup hsus hphase => gives_of_run (f := fun d => if d.coreUp then d.deviceWake m else d) rfl
      ((if_pos hup).trans ((if_pos hsus).trans (congrArg Chip.hubWake (Chip.resumePort_of_suspended hsus hphase))))
  case wakeL1 =>
    exact fun hup hsus hl1 hphase => gives_of_run (f := fun d => if d.coreUp then d.deviceWake m else d) rfl
      ((if_pos hup).trans ((if_neg (ne_true_of_eq_false hsus)).trans ((if_pos hl1).trans (Chip.l1Exit_of_l1 hl1 hphase))))
  case noWake =>
    exact fun hup hsus hl1 => gives_of_run (f := fun d => if d.coreUp then d.deviceWake m else d) rfl
      ((if_pos hup).trans ((if_neg (ne_true_of_eq_false hsus)).trans (if_neg (ne_true_of_eq_false hl1))))
  case l1Entry =>
    intro hup hlow hhigh hen hsus hl1 hphase
    refine gives_of_run (f := fun d => if d.coreUp then d.l1Entry m besl.toNat else d) rfl ((if_pos hup).trans (if_pos ?_))
    exact and_intro (and_intro (and_intro (and_intro (and_intro (decide_eq_true hlow) (decide_eq_true hhigh)) hen) (bnot hsus)) (bnot hl1))
      (beq_iff_eq.2 hphase)
  case noL1Entry =>
    intro h
    refine gives_of_run (f := fun d => if d.coreUp then d.l1Entry m besl.toNat else d) rfl (Chip.ite_coreUp_of_eq (if_neg ?_))
    rcases h with h | h | h | h | h | h
    · exact not_and_left (not_and_left (not_and_left (not_and_left (not_and_left
        (ne_true_of_eq_false (decide_eq_false (Nat.not_le.2 (Nat.lt_one_iff.2 h)))) _) _) _) _) _
    · exact not_and_left (not_and_left (not_and_left (not_and_left (not_and_right _
        (ne_true_of_eq_false (decide_eq_false (Nat.not_le.2 (Nat.lt_of_lt_of_eq (Nat.lt_succ_self 8) h.symm))))) _) _) _) _
    · exact not_and_left (not_and_left (not_and_left (not_and_right _ (ne_true_of_eq_false h)) _) _) _
    · exact not_and_left (not_and_left (not_and_right _ (not_bnot h)) _) _
    · exact not_and_left (not_and_right _ (not_bnot h)) _
    · exact not_and_right _ fun he => h (eq_of_beq he)
  case connect =>
    have left {t : Chip} (h : (if (c.hp m).conn.isSome then c.portGone m else c) = t) : Gives (.portConnectChange q false speed) s t :=
      gives_of_run (f := fun d => d.connectChange m false speed) rfl ((Chip.connectChange_of_leave hup hlow hhigh hocc).trans h)
    have found {t : Chip} (h : (if c.portPowered m && (c.hp m).conn.isNone && (decide (5 ≤ m) || (c.cuff (m - 1)).pair) then
        c.portConnect m speed else c) = t) : Gives (.portConnectChange q true speed) s t :=
      gives_of_run (f := fun d => d.connectChange m true speed) rfl ((Chip.connectChange_of_arrive hup hlow hhigh hocc).trans h)
    refine ⟨fun h => left (if_pos h), fun hpower hconn hpair => found (if_pos ?_), fun h => left (if_neg ?_), fun h => found (if_neg ?_)⟩
    · exact and_intro (and_intro hpower (Option.isNone_iff_eq_none.2 hconn)) (hpair.elim (fun h => or_inl (decide_eq_true h) _) (or_inr _))
    · exact Option.not_isSome_iff_eq_none.2 h
    · exact h.elim (fun h => not_and_left (not_and_left (ne_true_of_eq_false h) _) _)
        (fun h => not_and_left (not_and_right _ fun he => h (Option.isNone_iff_eq_none.1 he)) _)
  case babble =>
    exact fun hup hm hen => gives_of_run (f := fun d => d.babble m) rfl (if_pos (and_intro (and_intro hup (bne_iff_ne.2 hm)) hen))
  case noBabble =>
    refine fun h => gives_of_run (f := fun d => d.babble m) rfl (if_neg ?_)
    exact h.elim (fun h => not_and_left (not_and_right _ fun he => bne_iff_ne.1 he h) _) (fun h => not_and_right _ (ne_true_of_eq_false h))

end Sys2Proof.Proofs
end

section
/-! PROOF. Requests of the hubs and of the management function, splits, and the bus of C4 (14_local_hub.md). -/

namespace Sys2Proof.Machine

section
variable {s : Chip} {d : UsbDev}

/-! Standard requests (R306, R316) -/

theorem Chip.usbReq_of_on {f : Chip → Chip} (h : s.usbOn d = true) : s.usbReq d f = f s := if_pos h

theorem Chip.usbReq_of_off {f : Chip → Chip} (h : s.usbOn d = false) : s.usbReq d f = s := if_neg (ne_true_of_eq_false h)

theorem Chip.clearFeature_of_misfit {rcp : Recipient} {sel x : Nat}
    (h : (rcp = .device ∧ sel ≠ 1) ∨ (rcp = .endpoint ∧ (sel ≠ 0 ∨ hasEp d x = false)) ∨ rcp = .interface ∨ rcp = .other) :
    s.clearFeature d rcp sel x = s.stalls d := by
  rcases h with ⟨rfl, hsel⟩ | ⟨rfl, h⟩ | rfl | rfl
  · exact if_neg hsel
  · exact if_neg fun he => h.elim (fun hsel => hsel he.1) (fun hep => ne_true_of_eq_false hep he.2)
  · rfl
  · rfl

theorem Chip.setFeature_of_misfit {rcp : Recipient} {sel x : Nat}
    (h : (rcp = .device ∧ sel ≠ 1 ∧ sel ≠ 2) ∨ (rcp = .endpoint ∧ (sel ≠ 0 ∨ hasEp d x = false)) ∨ rcp = .interface ∨ rcp = .other) :
    s.setFeature d rcp sel x = s.stalls d := by
  rcases h with ⟨rfl, hsel, hsel'⟩ | ⟨rfl, h⟩ | rfl | rfl
  · exact (if_neg hsel).trans (if_neg fun he => hsel' he.1)
  · exact if_neg fun he => h.elim (fun hsel => hsel he.1) (fun hep => ne_true_of_eq_false hep he.2)
  · rfl
  · rfl

theorem Chip.setFeature_of_test {sel x : Nat} (hsel : sel = 2) (hd : d ≠ .mgmt) (hx : x % 256 = 0) (hlow : 1 ≤ x / 256) (hhigh : x / 256 ≤ 5) :
    s.setFeature d .device sel x = ({ s with hub := { s.hub with upTest := x / 256 } }).answer .ack :=
  (if_neg fun h => absurd (h.symm.trans hsel) (by decide)).trans (if_pos ⟨hsel, hd, hx, hlow, hhigh⟩)

theorem Chip.setAddress_of_kept {a : Nat} (h : d = .mgmt ∨ s.upState = 3) :
    s.setAddress d a = (s.setDev d { s.dev d with addr := a }).answer .ack := if_pos h

theorem Chip.setAddress_of_moved {a : Nat} (hd : d ≠ .mgmt) (hup : s.upState ≠ 3) :
    s.setAddress d a = ((s.setDev d { s.dev d with addr := a }).answer .ack).setUpState (if a = 0 then 1 else 2) :=
  if_neg (not_or_intro hd hup)

theorem Chip.giveDescriptor_some {l : List Nat} {o : Option (List Nat)} {n : Nat} (h : o = some l) :
    s.giveDescriptor d o n = s.answer (.data ((bytesOf l).take n)) := by
  subst h
  rfl

theorem Chip.giveDescriptor_none {o : Option (List Nat)} {n : Nat} (h : o = none) : s.giveDescriptor d o n = s.stalls d := by
  subst h
  rfl

/-- A configuration above 1 does not exist. -/
theorem Chip.configure_of_large {v : Nat} (h : 1 < v) : s.configure d v = s.stalls d := by
  refine (if_neg fun hv => absurd hv.2 (Nat.ne_of_gt (Nat.zero_lt_of_lt h))).trans (if_pos h)

theorem Chip.configure_mgmt {v : Nat} (hd : d = .mgmt) (h : v ≤ 1) :
    s.configure d v = (s.setDev d { s.dev d with config := v, toggles := 0, halts := 0, alt := 0 }).answer .ack := by
  subst hd
  have hset : s.setConfiguration .mgmt v = _ := if_neg (Nat.not_lt.2 h)
  unfold Chip.configure
  rw [hset, if_neg fun hv => UsbDev.noConfusion hv.1]

theorem Chip.configure_wide_one {v : Nat} (hd : d = .wide) (hv : v = 1) :
    s.configure d v = ((s.setDev d { s.dev d with config := v, toggles := 0, halts := 0, alt := 0 }).answer .ack).setUpState 3 := by
  subst hd hv
  rfl

theorem Chip.configure_wide_zero {v : Nat} (hd : d = .wide) (hv : v = 0) :
    s.configure d v = (((s.setDev d { s.dev d with config := v, toggles := 0, halts := 0, alt := 0 }).answer .ack).setUpState 2).widePortsOff := by
  subst hd hv
  have hset : s.setConfiguration .wide 0 = _ := if_neg (Nat.not_lt_zero 1)
  unfold Chip.configure
  rw [hset, if_pos ⟨rfl, rfl⟩]
  rfl

theorem Chip.configure_hub_one {v : Nat} (hd : d = .hub) (hv : v = 1) :
    s.configure d v =
      (((s.setDev d { s.dev d with config := v, toggles := 0, halts := 0, alt := 0 }).answer .ack).put Reg.HUB_STAT_ALT 0).hubUpState 3 := by
  subst hd hv
  rfl

theorem Chip.configure_hub_zero {v : Nat} (hd : d = .hub) (hv : v = 0) :
    s.configure d v =
      ((((((s.setDev d { s.dev d with config := v, toggles := 0, halts := 0, alt := 0 }).answer .ack).put Reg.HUB_STAT_ALT 0).portsOff.setDev
        .mgmt {}).hubUpState 2).hubAuto).tellTerms := by
  subst hd hv
  have hset : s.setConfiguration .hub 0 = _ := if_neg (Nat.not_lt_zero 1)
  unfold Chip.configure
  rw [hset, if_neg fun hv => UsbDev.noConfusion hv.1]
  dsimp only
  rw [if_neg Nat.zero_ne_one]
  rfl

/-- The alternate settings a device has. -/
theorem Chip.setInterface_of_fit {x alt : Nat} (hx : x = 0) (hconfig : (s.dev d).config ≠ 0)
    (halt : alt = 0 ∨ (alt = 1 ∧ d ≠ .mgmt ∧ s.flag Reg.HUB_STAT_HS = true)) :
    s.setInterface d x alt =
      let t := (s.setDev d { s.dev d with alt := alt, toggles := 0, halts := 0 }).answer .ack
      if d = .hub then t.put Reg.HUB_STAT_ALT alt else t := by
  refine if_neg ?_
  rintro (h | h | h | ⟨h, hno⟩)
  · exact h hx
  · exact hconfig h
  · omega
  · obtain ⟨-, hd, hhs⟩ := halt.resolve_left (by omega)
    exact hno.elim hd (not_bnot hhs)

theorem Chip.setInterface_of_misfit {x alt : Nat}
    (h : x ≠ 0 ∨ (s.dev d).config = 0 ∨ 1 < alt ∨ (alt = 1 ∧ (d = .mgmt ∨ s.flag Reg.HUB_STAT_HS = false))) :
    s.setInterface d x alt = s.stalls d := by
  refine if_pos ?_
  rcases h with h | h | h | ⟨h, hno⟩
  · exact Or.inl h
  · exact Or.inr (Or.inl h)
  · exact Or.inr (Or.inr (Or.inl h))
  · exact Or.inr (Or.inr (Or.inr ⟨h, hno.imp_right bnot⟩))

theorem Chip.stalls_of_other (h : d ≠ .hub) : s.stalls d = s.answer .stall := congrArg (fun t : Chip => t.answer .stall) (if_neg h)

/-! The bus (R314, R317 to R320) -/

/-- The hub on C4 is attached, and neither suspended nor in L1. -/
theorem Chip.awake_iff :
    (s.coreUp && decide (1 ≤ s.upState) && decide (s.upState ≤ 3)) = true ↔ s.coreUp = true ∧ 1 ≤ s.upState ∧ s.upState ≤ 3 := by
  simp only [Bool.and_eq_true, decide_eq_true_iff, and_assoc]

theorem Chip.hubTick_of_stopped (h : s.flag Reg.HUB_SOF_LOCK = false ∨ s.upState = 4 ∨ s.upState = 0) : s.hubTick = s := by
  refine if_pos ?_
  rcases h with h | h | h
  · exact or_inl (or_inl (bnot h) _) _
  · exact or_inl (or_inr _ (beq_iff_eq.2 h)) _
  · exact or_inr _ (beq_iff_eq.2 h)

theorem Chip.hubTick_of_locked (hlock : s.flag Reg.HUB_SOF_LOCK = true) (hup4 : s.upState ≠ 4) (hup0 : s.upState ≠ 0)
    (hsof : s.ct.toNat < s.hub.lastSof + 187500) :
    s.hubTick =
      s.each [1, 2, 3, 4, 5, 6, 7, 8] (fun t k => if t.tunnelled k then t else t.ttTick k (s.get Reg.HUB_SOF_UFRAME == 0)) := by
  unfold Chip.hubTick
  rw [if_neg (not_or (not_or (not_bnot hlock) fun h => hup4 (eq_of_beq h)) fun h => hup0 (eq_of_beq h)), if_neg (Nat.not_le.2 hsof)]

theorem Chip.upResume_of_l1 (hup : s.coreUp = true) (h : s.upState = 5) :
    s.upResume = ({ s with hub := { s.hub with waking := false, wakeDue := false } }).setUpState s.hub.upPrev := by
  unfold Chip.upResume
  rw [if_pos (and_intro hup (or_inr _ (beq_iff_eq.2 h))), if_neg fun h4 => absurd (h.symm.trans h4) (by decide)]

theorem Chip.upResume_of_suspend {t : Chip} (hup : s.coreUp = true) (h : s.upState = 4) (ht : s.inc Reg.HUB_RESUME_CNT = t) :
    s.upResume = ({ t with hub := { s.hub with waking := false, wakeDue := false } }).setUpState s.hub.upPrev := by
  subst ht
  unfold Chip.upResume
  rw [if_pos (and_intro hup (or_inl (beq_iff_eq.2 h) _)), if_pos h]
  rfl

theorem Chip.upResume_of_other (h4 : s.upState ≠ 4) (h5 : s.upState ≠ 5) : s.upResume = s :=
  if_neg (not_and_right _ (not_or (fun h => h4 (eq_of_beq h)) fun h => h5 (eq_of_beq h)))

/-- A bus reset reaches the hub on C4 while its pair is in service. -/
theorem Chip.busReset_of_pair {hs : Bool} (hup : s.coreUp = true) (hpair : s.hub.pair = true) (hdetach : s.wide.detach = false) :
    s.busReset hs = if s.presenting then s.wideBusReset hs else if s.flag Reg.HUB_STAT_EN then s.hubBusReset hs else s :=
  if_neg (not_or (not_or (not_bnot hup) (not_bnot hpair)) (ne_true_of_eq_false hdetach))

/-! Splits (R311, R312) -/

/-- A translator takes splits of its hub. -/
theorem Chip.ttTakes_iff {m : Nat} :
    (s.usbOn .hub && s.upState == 3 && !s.tunnelled m && s.ttLive m) = true ↔
      s.usbOn .hub = true ∧ s.upState = 3 ∧ s.tunnelled m = false ∧ s.ttLive m = true := by
  simp only [Bool.and_eq_true, beq_iff_eq, Bool.not_eq_true', and_assoc]

theorem Chip.completeSplit_of_periodic {m : Nat} {ep : TtEndpoint} {o : DevReply} {e : TtPer}
    (htakes : (s.usbOn .hub && s.upState == 3 && !s.tunnelled m && s.ttLive m) = true)
    (h : (s.hp m).per.find? (fun e => e.ep == ep) = some e) :
    s.completeSplit m ep o =
      (s.setHp m { s.hp m with per := (s.hp m).per.erase e }).answer (if e.ok then replyOf o else .err) := by
  unfold Chip.completeSplit
  rw [if_neg (not_bnot htakes)]
  dsimp only
  rw [h]

theorem Chip.completeSplit_of_nonperiodic {m : Nat} {ep : TtEndpoint} {o : DevReply}
    (htakes : (s.usbOn .hub && s.upState == 3 && !s.tunnelled m && s.ttLive m) = true)
    (h : (s.hp m).per.find? (fun e => e.ep == ep) = none) :
    s.completeSplit m ep o =
      if (s.hp m).bufs.any (fun e => e.ep == ep) then
        (s.setHp m { s.hp m with bufs := (s.hp m).bufs.filter (fun e => e.ep != ep) }).answer (replyOf o)
      else s.answer .err := by
  unfold Chip.completeSplit
  rw [if_neg (not_bnot htakes)]
  dsimp only
  rw [h]

end

end Sys2Proof.Machine

namespace Sys2Proof.Proofs
open Sys2Proof.Machine

/-- Settles O52: requests of the devices, the bus of C4, splits, and HUB.CTL. -/
theorem hubRequestAndBusResults : Obligations.HubRequestAndBusResults := by
  unfold Obligations.HubRequestAndBusResults
  intro d rcp index sel alt length value16 addr kind i8 value rt request frame hs besl q ep n data o r s c on v w b stall acked bytes up awake m
    x takes
  have req {i : Instr} {f : Chip → Chip} {t : Chip} {g : UsbDev} (hon : c.usbOn g = true) (h : exec i s = s.run fun e => e.usbReq g f)
      (ht : f c = t) : Gives i s t := gives_of_run h ((Chip.usbReq_of_on hon).trans ht)
  refine ⟨fun hon => req hon rfl rfl, fun hon hep => req hon rfl (if_pos hep), fun hon hep => req hon rfl (if_neg (ne_true_of_eq_false hep)),
    fun hon hw hv => req hon rfl (if_pos ⟨hw, hv⟩), ?noInterface, fun hon => req hon rfl rfl, fun hon hsel => req hon rfl (if_pos hsel),
    fun hon hsel hep => req hon rfl (if_pos ⟨hsel, hep⟩), fun hon h => req hon rfl (Chip.clearFeature_of_misfit h),
    fun hon hsel => req hon rfl (if_pos hsel), fun hon hsel hd hw hlow hhigh => req hon rfl (Chip.setFeature_of_test hsel hd hw hlow hhigh),
    fun hon hsel hep => req hon rfl (if_pos ⟨hsel, hep⟩), fun hon h => req hon rfl (Chip.setFeature_of_misfit h),
    fun hon h => req hon rfl (Chip.setAddress_of_kept h), fun hon hd hup => req hon rfl (Chip.setAddress_of_moved hd hup), ?descriptor,
    ?noDescriptor, fun hon => req (f := fun e => e.answer (.data (bytesOf [(e.dev d).config]))) hon rfl rfl,
    fun hon h => req hon rfl (Chip.configure_of_large h), fun hon h => ?configure, fun hon hw hv => req hon rfl (if_pos ⟨hw, hv⟩),
    ?noGetInterface, ?setInterface, fun hon h => req hon rfl (Chip.setInterface_of_misfit h), ?unlisted, ?listed, ?hubStatus, ?clearHub,
    ?clearHubNo, ?hubDescriptor, ?mgmtHub, fun hoff => ?off, rfl, fun hd => Chip.stalls_of_other hd, ?sof, ?noSof, ?tickStopped, ?tick, ?suspend,
    ?noSuspend, ?wake, ?noWake, ?resumeL1, ?resume, ?noResume, fun hup hpair hdetach => ?reset, ?noReset, ?lpm, ?lpmNyet, ?noLpm,
    fun htakes => ?split, ?noSplit, fun hpresent hon hup hhalt => ?changes, ?noChanges, fun ht => gives_of_takes rfl ht rfl,
    fun ht => gives_of_takes rfl ht rfl, fun ht => ⟨?rwake, ?noRwake⟩⟩
  case noInterface =>
    exact fun hon h => req hon rfl (if_neg fun hc => h.elim (fun hw => hw hc.1) (fun hv => hc.2 hv))
  case descriptor =>
    exact fun hon l h => req (f := fun e => e.giveDescriptor d (e.descriptor d kind.toNat i8.toNat) length.toNat) hon rfl
      (Chip.giveDescriptor_some h)
  case noDescriptor =>
    exact fun hon h => req (f := fun e => e.giveDescriptor d (e.descriptor d kind.toNat i8.toNat) length.toNat) hon rfl
      (Chip.giveDescriptor_none h)
  case configure =>
    exact ⟨fun hd => req hon rfl (Chip.configure_mgmt hd h), fun hd hv => req hon rfl (Chip.configure_wide_one hd hv),
      fun hd hv => req hon rfl (Chip.configure_wide_zero hd hv), fun hd hv => req hon rfl (Chip.configure_hub_one hd hv),
      fun hd hv => req hon rfl (Chip.configure_hub_zero hd hv)⟩
  case noGetInterface =>
    exact fun hon h => req hon rfl (if_neg fun hc => h.elim (fun hw => hw hc.1) (fun hv => hc.2 hv))
  case setInterface =>
    intro hon hw hv halt t
    exact req hon rfl (Chip.setInterface_of_fit hw hv halt)
  case unlisted =>
    exact fun hon h => req (f := fun e => if hubListed d rt.toNat request.toNat value16.toNat then e else e.stalls d) hon rfl
      (if_neg (ne_true_of_eq_false h))
  case listed =>
    exact fun hon h => req (f := fun e => if hubListed d rt.toNat request.toNat value16.toNat then e else e.stalls d) hon rfl (if_pos h)
  case hubStatus =>
    exact fun hon hd => req (f := fun e => if d = .mgmt then e.stalls d else e.answer (.data (bytesOf [0, 0, 0, 0]))) hon rfl (if_neg hd)
  case clearHub =>
    exact fun hon hd hsel => req (f := fun e => if d = .mgmt ∨ 1 < sel.toNat then e.stalls d else e.answer .ack) hon rfl
      (if_neg (not_or_intro hd (Nat.not_lt.2 hsel)))
  case clearHubNo =>
    exact fun hon hsel => req (f := fun e => if d = .mgmt ∨ 1 < sel.toNat then e.stalls d else e.answer .ack) hon rfl (if_pos (Or.inr hsel))
  case hubDescriptor =>
    exact fun hon hd => req (f := fun e => if d = .mgmt then e.stalls d else e.giveDescriptor d (some (e.hubDesc d)) length.toNat) hon rfl
      ((if_neg hd).trans (Chip.giveDescriptor_some rfl))
  case mgmtHub =>
    intro hon hd
    exact ⟨req (f := fun e => if d = .mgmt then e.stalls d else e.answer (.data (bytesOf [0, 0, 0, 0]))) hon rfl (if_pos hd),
      req (f := fun e => if d = .mgmt ∨ 1 < sel.toNat then e.stalls d else e.answer .ack) hon rfl (if_pos (Or.inl hd)),
      req (f := fun e => if d = .mgmt then e.stalls d else e.giveDescriptor d (some (e.hubDesc d)) length.toNat) hon rfl (if_pos hd)⟩
  case off =>
    have unheard {i : Instr} {f : Chip → Chip} (h : exec i s = s.run fun e => e.usbReq d f) : Gives i s c :=
      gives_of_run h (Chip.usbReq_of_off hoff)
    exact ⟨unheard rfl, unheard rfl, unheard rfl, unheard rfl, unheard rfl, unheard rfl, unheard rfl, unheard rfl, unheard rfl, unheard rfl,
      unheard rfl, unheard rfl, unheard rfl⟩
  case sof => exact fun h => gives_of_run (f := fun e => e.sofIn frame.toNat) rfl (if_pos (Chip.awake_iff.2 h))
  case noSof => exact fun h => gives_of_run (f := fun e => e.sofIn frame.toNat) rfl (if_neg fun hc => h (Chip.awake_iff.1 hc))
  case tickStopped => exact fun h => gives_of_run rfl (Chip.hubTick_of_stopped h)
  case tick => exact fun hlock hup4 hup0 hsof => gives_of_run rfl (Chip.hubTick_of_locked hlock hup4 hup0 hsof)
  case suspend => exact fun h => gives_of_run (f := Chip.upSuspend) rfl (if_pos (Chip.awake_iff.2 h))
  case noSuspend => exact fun h => gives_of_run (f := Chip.upSuspend) rfl (if_neg fun hc => h (Chip.awake_iff.1 hc))
  case wake =>
    exact fun hup hdue hstate => gives_of_run (f := Chip.remoteWake) rfl (if_pos (and_intro (and_intro hup hdue) (beq_iff_eq.2 hstate)))
  case noWake =>
    refine fun h => gives_of_run (f := Chip.remoteWake) rfl (if_neg ?_)
    exact h.elim (fun h => not_and_left (not_and_right _ (ne_true_of_eq_false h)) _) (fun h => not_and_right _ fun he => h (eq_of_beq he))
  case resumeL1 => exact fun hup h => gives_of_run rfl (Chip.upResume_of_l1 hup h)
  case resume =>
    intro hup h t
    exact gives_of_run rfl (Chip.upResume_of_suspend (t := t) hup h rfl)
  case noResume => exact fun h4 h5 => gives_of_run rfl (Chip.upResume_of_other h4 h5)
  case reset =>
    have hreset := Chip.busReset_of_pair (hs := hs) hup hpair hdetach
    exact ⟨fun hp => gives_of_run (f := fun e => e.busReset hs) rfl (hreset.trans (if_pos hp)),
      fun hp hen => gives_of_run (f := fun e => e.busReset hs) rfl (hreset.trans ((if_neg (ne_true_of_eq_false hp)).trans (if_pos hen))),
      fun hp hen => gives_of_run (f := fun e => e.busReset hs) rfl
        (hreset.trans ((if_neg (ne_true_of_eq_false hp)).trans (if_neg (ne_true_of_eq_false hen))))⟩
  case noReset =>
    refine fun h => gives_of_run (f := fun e => e.busReset hs) rfl (if_pos ?_)
    exact h.elim (fun h => or_inl (or_inr _ (bnot h)) _) (or_inr _)
  case lpm =>
    intro hawake hquiet hmq
    exact gives_of_run (f := fun e => e.lpm (if e.presenting then e.wideQuiet else e.portsQuiet) besl.toNat) rfl
      ((if_neg (not_bnot (Chip.awake_iff.2 hawake))).trans (if_pos (and_intro hquiet (List.isEmpty_iff.2 hmq))))
  case lpmNyet =>
    intro hawake h
    refine gives_of_run (f := fun e => e.lpm (if e.presenting then e.wideQuiet else e.portsQuiet) besl.toNat) rfl
      ((if_neg (not_bnot (Chip.awake_iff.2 hawake))).trans (if_neg ?_))
    exact h.elim (fun h => not_and_left (ne_true_of_eq_false h) _) (fun h => not_and_right _ fun he => h (List.isEmpty_iff.1 he))
  case noLpm =>
    exact fun h => gives_of_run (f := fun e => e.lpm (if e.presenting then e.wideQuiet else e.portsQuiet) besl.toNat) rfl
      (if_pos (bnot (Bool.eq_false_iff.2 fun hc => h (Chip.awake_iff.1 hc))))
  case split =>
    have hgo := Chip.ttTakes_iff.2 htakes
    have periodic {t : Chip} (h : c.periodicAt m ep n = t) : Gives (.periodicStartSplit q ep n) s t :=
      gives_of_run (f := fun e => e.periodicStart m ep n) rfl ((if_pos hgo).trans h)
    intro ks held used others
    refine ⟨fun hheld hused hrun => periodic ((if_neg (ne_true_of_eq_false hrun)).trans (if_pos ⟨hheld, hused⟩)),
      fun hstop => periodic (if_pos hstop), fun hfull hrun => periodic ((if_neg (ne_true_of_eq_false hrun)).trans (if_neg fun hc =>
        hfull.elim (Nat.not_le.2 hc.1) (Nat.not_lt.2 hc.2))), fun hothers hrun => ?_, fun h => ?_, fun e he => ?_, fun hper hbuf => ?_,
      fun hper hbuf => ?_⟩
    · exact gives_of_run (f := fun e => e.nonperiodicStart m ep data) rfl
        ((if_neg (not_bnot hgo)).trans (if_neg (not_or_intro (ne_true_of_eq_false hrun) (Nat.not_le.2 hothers))))
    · exact gives_of_run (f := fun e => e.nonperiodicStart m ep data) rfl ((if_neg (not_bnot hgo)).trans (if_pos h.symm))
    · exact gives_of_run (f := fun e => e.completeSplit m ep o) rfl (Chip.completeSplit_of_periodic hgo he)
    · exact gives_of_run (f := fun e => e.completeSplit m ep o) rfl ((Chip.completeSplit_of_nonperiodic hgo hper).trans (if_pos hbuf))
    · exact gives_of_run (f := fun e => e.completeSplit m ep o) rfl
        ((Chip.completeSplit_of_nonperiodic hgo hper).trans (if_neg (ne_true_of_eq_false hbuf)))
  case noSplit =>
    intro h
    have hno : ¬(c.usbOn .hub && c.upState == 3 && !c.tunnelled m && c.ttLive m) = true := fun hc => h (Chip.ttTakes_iff.1 hc)
    exact ⟨gives_of_run (f := fun e => e.periodicStart m ep n) rfl (if_neg hno),
      gives_of_run (f := fun e => e.nonperiodicStart m ep data) rfl (if_pos (bnot (Bool.eq_false_iff.2 hno))),
      gives_of_run (f := fun e => e.completeSplit m ep o) rfl (if_pos (bnot (Bool.eq_false_iff.2 hno)))⟩
  case changes =>
    have answers {t : Chip} (h : c.statusIn = t) : Gives .statusChangeIn s t :=
      gives_of_run (f := fun e => if e.presenting then e.wideStatusIn else e.statusIn) rfl ((if_neg (ne_true_of_eq_false hpresent)).trans h)
    have hgo : ¬(!(c.usbOn .hub && c.upState == 3)) = true := not_bnot (and_intro hon (beq_iff_eq.2 hup))
    intro changes
    exact ⟨fun hzero => answers ((if_neg hgo).trans ((if_neg (ne_true_of_eq_false hhalt)).trans (if_pos hzero))),
      fun hsome => answers ((if_neg hgo).trans ((if_neg (ne_true_of_eq_false hhalt)).trans (if_neg hsome)))⟩
  case noChanges =>
    intro hpresent hoff
    exact gives_of_run (f := fun e => if e.presenting then e.wideStatusIn else e.statusIn) rfl
      ((if_neg (ne_true_of_eq_false hpresent)).trans (if_pos (bnot (Bool.eq_false_iff.2 (not_and_left (ne_true_of_eq_false hoff) _)))))
  case rwake => exact fun hstate hen => gives_of_takes rfl ht (if_pos ⟨hstate, hen⟩)
  case noRwake =>
    exact fun h => gives_of_takes rfl ht (if_neg fun hc => h.elim (fun h => h hc.1) (fun h => ne_true_of_eq_false h hc.2))

end Sys2Proof.Proofs
end

section
/-! PROOF. The management function's requests and their answers (14_local_hub.md R321 to R326). -/

namespace Sys2Proof.Machine

/-- The words of the bytes of words are those words. -/
theorem bytesWords_flatMap_wordBytes (l : List (BitVec 32)) : bytesWords (l.flatMap wordBytes) = l := by
  induction l with
  | nil => rfl
  | cons w t ih =>
    have hword : w.extractLsb' 24 8 ++ w.extractLsb' 16 8 ++ w.extractLsb' 8 8 ++ w.extractLsb' 0 8 = w := by
      refine BitVec.eq_of_toNat_eq ((leNat_four ..).symm.trans ?_)
      change leNat (wordBytes w) = w.toNat
      rw [← natBytes_four, leNat_natBytes]
      exact Nat.mod_eq_of_lt w.isLt
    change (w.extractLsb' 24 8 ++ w.extractLsb' 16 8 ++ w.extractLsb' 8 8 ++ w.extractLsb' 0 8) :: bytesWords (t.flatMap wordBytes) = _
    rw [hword, ih]

theorem mgmtLen_iff {n : Nat} : mgmtLen n = true ↔ n % 4 = 0 ∧ n ≤ 4096 := by
  simp only [mgmtLen, Bool.and_eq_true, beq_iff_eq, decide_eq_true_iff]

theorem mgmtLen_of_misfit {n : Nat} (h : n % 4 ≠ 0 ∨ 4096 < n) : mgmtLen n = false :=
  Bool.eq_false_iff.2 fun hn => h.elim (fun h => h (mgmtLen_iff.1 hn).1) (fun h => Nat.not_le.2 h (mgmtLen_iff.1 hn).2)

theorem mgmtLen_words {n : Nat} (h : n ≤ 1024) : mgmtLen (4 * n) = true := mgmtLen_iff.2 ⟨Nat.mul_mod_right 4 n, by omega⟩

section
variable {s : Chip} {q : MgmtReq}

/-- A device takes requests with the core die out of reset alone. -/
theorem Chip.coreUp_of_usbOn {d : UsbDev} (h : s.usbOn d = true) : s.coreUp = true := by
  unfold Chip.usbOn at h
  simp only [Bool.and_eq_true] at h
  obtain ⟨⟨⟨hup, -⟩, -⟩, -⟩ := h
  exact hup

/-! Whether a request is taken (R321, R322) -/

section
variable (hon : s.usbOn .mgmt = true)
include hon

theorem Chip.mgmtTake_of_halted (h : bit (s.dev .mgmt).halts 1 = true) : s.mgmtTake q = s.answer .stall :=
  (if_neg (not_bnot hon)).trans (if_pos h)

variable (hhalt : bit (s.dev .mgmt).halts 1 = false)
include hhalt

theorem Chip.mgmtTake_of_full (hrun : s.mgmt.run.isSome = true) (hheld : 2 ≤ s.mgmt.held.length) : s.mgmtTake q = s.answer .nak :=
  (if_neg (not_bnot hon)).trans ((if_neg (ne_true_of_eq_false hhalt)).trans (if_pos (and_intro hrun (decide_eq_true hheld))))

theorem Chip.mgmtTake_of_room (h : s.mgmt.run = none ∨ s.mgmt.held.length < 2) :
    s.mgmtTake q = ((s.setMgmt { s.mgmt with held := s.mgmt.held ++ [q] }).answer .ack).mgmtDrive := by
  refine (if_neg (not_bnot hon)).trans ((if_neg (ne_true_of_eq_false hhalt)).trans (if_neg ?_))
  exact h.elim (fun h => not_and_left (Option.not_isSome_iff_eq_none.2 h) _)
    (fun h => not_and_right _ (ne_true_of_eq_false (decide_eq_false (Nat.not_le.2 h))))

end

theorem Chip.mgmtDrive_of_held {l : List MgmtReq} (hup : s.coreUp = true) (hrun : s.mgmt.run = none) (hheld : s.mgmt.held = q :: l) :
    s.mgmtDrive = (s.setMgmt { s.mgmt with held := l }).mgmtExec q := by
  refine (if_neg (not_bnot hup)).trans ?_
  rw [hrun, hheld]

theorem Chip.mgmtDrive_of_run {x : MgmtReq × List (BitVec 8)} (hup : s.coreUp = true) (hrun : s.mgmt.run = some x) :
    s.mgmtDrive = s.mgmtResume := by
  refine (if_neg (not_bnot hup)).trans ?_
  rw [hrun]

/-- While the boot ROM checks an image its request stays in hand. -/
theorem Chip.mgmtResume_of_checking {l : List (BitVec 8)} (hrun : s.mgmt.run = some (q, l)) (hop : q.op = 6)
    (hboot : s.get Reg.SYS_BOOT_STATE = 4) : s.mgmtResume = s := by
  unfold Chip.mgmtResume
  rw [hrun]
  dsimp only
  rw [if_pos hop, if_pos hboot]

/-- With none in hand a request is executed at once. -/
theorem Chip.mgmtTake_of_idle (hon : s.usbOn .mgmt = true) (hhalt : bit (s.dev .mgmt).halts 1 = false) (hrun : s.mgmt.run = none)
    (hheld : s.mgmt.held = []) : s.mgmtTake q = (s.answer .ack).mgmtExec q := by
  have hkept : { s.mgmt with held := [] } = s.mgmt := by rw [← hheld]
  refine (Chip.mgmtTake_of_room hon hhalt (Or.inl hrun)).trans ?_
  refine (Chip.mgmtDrive_of_held (q := q) (l := []) ?_ ?_ ?_).trans ?_
  · exact Chip.coreUp_of_usbOn (s := s) hon
  · exact hrun
  · exact congrArg (· ++ [q]) hheld
  · exact congrArg (fun m => ((s.answer .ack).setMgmt m).mgmtExec q) hkept

/-- Behind an image check in hand a request is held. -/
theorem Chip.mgmtTake_of_checking {x : MgmtReq} {l : List (BitVec 8)} (hon : s.usbOn .mgmt = true) (hhalt : bit (s.dev .mgmt).halts 1 = false)
    (hrun : s.mgmt.run = some (x, l)) (hheld : s.mgmt.held.length < 2) (hop : x.op = 6) (hboot : s.get Reg.SYS_BOOT_STATE = 4) :
    s.mgmtTake q = ({ s with mgmt := { s.mgmt with held := s.mgmt.held ++ [q] } }).answer .ack := by
  refine (Chip.mgmtTake_of_room hon hhalt (Or.inr hheld)).trans ?_
  refine (Chip.mgmtDrive_of_run (x := (x, l)) ?_ ?_).trans ?_
  · exact Chip.coreUp_of_usbOn (s := s) hon
  · exact hrun
  · exact Chip.mgmtResume_of_checking (q := x) (l := l) hrun hop hboot

/-! What a request does (R295, R323, R324) -/

theorem Chip.mgmtExec_of_bad_len (h : mgmtLen q.len = false) : s.mgmtExec q = s.mgmtEnd q 5 [] := if_pos (bnot h)

section
variable {tag a len : Nat} {data : List (BitVec 8)}

theorem Chip.mgmtExec_read (h : mgmtLen len = true) :
    s.mgmtExec ⟨1, tag, a, len, []⟩ = mgmtReads ⟨1, tag, a, len, []⟩ (len / 4) a [] s := if_neg (not_bnot h)

theorem Chip.mgmtExec_write {words : List (BitVec 32)} (h : words.length ≤ 1024) :
    s.mgmtExec ⟨2, tag, a, 4 * words.length, words.flatMap wordBytes⟩ =
      let t := mgmtWrites ⟨2, tag, a, 4 * words.length, words.flatMap wordBytes⟩ words a 0 s
      if t.1.coreUp then
        let u := t.1.mgmtEnd ⟨2, tag, a, 4 * words.length, words.flatMap wordBytes⟩ t.2.1 []
        { u with mgmt := { u.mgmt with doneLen := t.2.2 } }
      else t.1 := by
  refine (if_neg (not_bnot (mgmtLen_words h))).trans ?_
  dsimp only
  rw [bytesWords_flatMap_wordBytes]
  rfl

theorem Chip.mgmtExec_echo : s.mgmtExec ⟨7, tag, 0, 0, []⟩ = s.mgmtEnd ⟨7, tag, 0, 0, []⟩ (if s.active 52 then 0 else 2) [] :=
  if_neg (not_bnot (mgmtLen_iff.2 ⟨rfl, Nat.zero_le _⟩))

/-- The three image requests reach the boot ROM while F52 is ACTIVE. -/
theorem Chip.mgmtExec_image_of_fenced (h : s.active 52 = false) :
    s.mgmtExec ⟨4, tag, a, 0, []⟩ = s.mgmtEnd ⟨4, tag, a, 0, []⟩ 2 [] ∧ s.mgmtExec ⟨6, tag, 0, 0, []⟩ = s.mgmtEnd ⟨6, tag, 0, 0, []⟩ 2 [] ∧
    (mgmtLen data.length = true → s.mgmtExec ⟨5, tag, a, data.length, data⟩ = s.mgmtEnd ⟨5, tag, a, data.length, data⟩ 2 []) :=
  ⟨(if_neg (not_bnot (mgmtLen_iff.2 ⟨rfl, Nat.zero_le _⟩))).trans (if_pos (bnot h)),
    (if_neg (not_bnot (mgmtLen_iff.2 ⟨rfl, Nat.zero_le _⟩))).trans (if_pos (bnot h)),
    fun hlen => (if_neg (not_bnot hlen)).trans (if_pos (bnot h))⟩

section
variable (hact : s.active 52 = true) {o : Bool} {d : Chip}
include hact

theorem Chip.mgmtExec_imageBegin (h : s.imageBegin a = (o, d)) :
    s.mgmtExec ⟨4, tag, a, 0, []⟩ = d.mgmtEnd ⟨4, tag, a, 0, []⟩ (b2n (!o)) [] := by
  refine (if_neg (not_bnot (mgmtLen_iff.2 ⟨rfl, Nat.zero_le _⟩))).trans ((if_neg (not_bnot hact)).trans ?_)
  rw [h]

theorem Chip.mgmtExec_imageData (hlen : mgmtLen data.length = true) (h : s.imageData a data = (o, d)) :
    s.mgmtExec ⟨5, tag, a, data.length, data⟩ = d.mgmtEnd ⟨5, tag, a, data.length, data⟩ (b2n (!o)) [] := by
  refine (if_neg (not_bnot hlen)).trans ((if_neg (not_bnot hact)).trans ?_)
  rw [h]

theorem Chip.mgmtExec_imageEnd (h : s.imageEnd = (o, d)) :
    s.mgmtExec ⟨6, tag, 0, 0, []⟩ =
      if o then { d with mgmt := { d.mgmt with run := some (⟨6, tag, 0, 0, []⟩, []) } } else d.mgmtEnd ⟨6, tag, 0, 0, []⟩ 1 [] := by
  refine (if_neg (not_bnot (mgmtLen_iff.2 ⟨rfl, Nat.zero_le _⟩))).trans ((if_neg (not_bnot hact)).trans ?_)
  rw [h]
  rfl

end

end

/-- Data out of turn, too long, or with no load on its way, is not taken. -/
theorem Chip.imageData_of_refused {off : Nat} {l : List (BitVec 8)}
    (h : s.boot.load = none ∨ s.get Reg.SYS_BOOT_STATE ≠ 3 ∨
      ∃ n p k : Nat, s.boot.load = some (n, p, k) ∧ (off ≠ p ∨ n < off + l.length)) : s.imageData off l = (false, s) := by
  cases hload : s.boot.load with
  | none =>
    unfold Chip.imageData
    rw [hload]
  | some x =>
    obtain ⟨n, p, k⟩ := x
    unfold Chip.imageData
    rw [hload]
    refine if_pos ?_
    rcases h with h | h | ⟨n', p', k', hx, h⟩
    · rw [hload] at h
      exact absurd h (Option.some_ne_none _)
    · exact Or.inl h
    · rw [hload] at hx
      cases hx
      exact Or.inr h

theorem Chip.imageEnd_of_refused
    (h : s.boot.load = none ∨ s.get Reg.SYS_BOOT_STATE ≠ 3 ∨ ∃ n p k : Nat, s.boot.load = some (n, p, k) ∧ p ≠ n) :
    s.imageEnd = (false, s) := by
  cases hload : s.boot.load with
  | none =>
    unfold Chip.imageEnd
    rw [hload]
  | some x =>
    obtain ⟨n, p, k⟩ := x
    unfold Chip.imageEnd
    rw [hload]
    refine if_pos ?_
    rcases h with h | h | ⟨n', p', k', hx, h⟩
    · rw [hload] at h
      exact absurd h (Option.some_ne_none _)
    · exact Or.inl h
    · rw [hload] at hx
      cases hx
      exact Or.inr h

/-! Words one after another (R323) -/

section
variable {a n : Nat} {l : List (BitVec 8)}

theorem mgmtReads_of_barred (h : s.mgmtMay a = false) : mgmtReads q (n + 1) a l s = s.mgmtEnd q 2 l := if_pos (bnot h)

/-- A word that the management function may read is read, and shows its outcome. -/
theorem mgmtReads_of_may {o : Acc} {v : Nat} {t : Chip} (h : s.mgmtMay a = true) (hread : s.busRead .mgmt a = (o, v, t)) :
    mgmtReads q (n + 1) a l s =
      let u := { t with outcome := t.outcome.put 0 32 o.code }
      if o ≠ .done then u.mgmtEnd q o.status l
      else if u.mgetWaits a then { u with mgmt := { u.mgmt with run := some (q, l) } }
      else mgmtReads q n ((a + 4) % 2 ^ 32) (l ++ natBytes 4 v) u := by
  refine (if_neg (not_bnot h)).trans ?_
  rw [hread]
  rfl

end

section
variable {a n : Nat} {w : BitVec 32} {l : List (BitVec 32)}

theorem mgmtWrites_of_barred (h : s.mgmtMay a = false) : mgmtWrites q (w :: l) a n s = (s, 2, n) := if_pos (bnot h)

theorem mgmtWrites_of_may {o : Acc} {t : Chip} (h : s.mgmtMay a = true) (hwrite : s.busWrite .mgmt a w.toNat = (o, t)) :
    mgmtWrites q (w :: l) a n s =
      let u := { t with outcome := t.outcome.put 0 32 o.code }
      if o ≠ .done ∨ !u.coreUp then (u, o.status, n) else mgmtWrites q l ((a + 4) % 2 ^ 32) (n + 4) u := by
  refine (if_neg (not_bnot h)).trans ?_
  rw [hwrite]

end

end

end Sys2Proof.Machine

namespace Sys2Proof.Proofs
open Sys2Proof.Machine

/-- Settles O53: taking, executing and answering the management function's requests, and its events. -/
theorem managementRequestResults : Obligations.ManagementRequestResults := by
  unfold Obligations.ManagementRequestResults
  intro tag addr len off words data op s c on open_ idle t f52 rd wr ib id_ ie ec bad all queued
  refine ⟨?off, ?halted, ?full, ?held, fun hidle => ?exec, fun q a n l => ⟨rfl, mgmtReads_of_barred, fun hmay => ?reads⟩,
    fun q a n w l => ⟨rfl, mgmtWrites_of_barred, fun hmay => ?writes⟩, fun q l st => rfl, ?eventOff, ?eventHalted, ?eventNone, ?event⟩
  case off =>
    intro h
    have unheard {i : Instr} {q : MgmtReq} (hi : exec i s = s.run fun d => d.mgmtTake q) : Gives i s c := gives_of_run hi (if_pos (bnot h))
    exact ⟨unheard rfl, unheard rfl, unheard rfl, unheard rfl, unheard rfl, unheard rfl, unheard rfl⟩
  case halted =>
    intro hon hhalt
    have stalled {i : Instr} {q : MgmtReq} (hi : exec i s = s.run fun d => d.mgmtTake q) : Gives i s (c.answer .stall) :=
      gives_of_run hi (Chip.mgmtTake_of_halted hon hhalt)
    exact ⟨stalled rfl, stalled rfl, stalled rfl, stalled rfl, stalled rfl, stalled rfl, stalled rfl⟩
  case full =>
    intro hopen hrun hheld
    have nakked {i : Instr} {q : MgmtReq} (hi : exec i s = s.run fun d => d.mgmtTake q) : Gives i s (c.answer .nak) :=
      gives_of_run hi (Chip.mgmtTake_of_full hopen.1 hopen.2 hrun hheld)
    exact ⟨nakked rfl, nakked rfl, nakked rfl, nakked rfl, nakked rfl, nakked rfl, nakked rfl⟩
  case held =>
    intro q l hopen hrun hheld hop hboot
    have waits {i : Instr} {q : MgmtReq} (hi : exec i s = s.run fun d => d.mgmtTake q) : Gives i s (queued q) :=
      gives_of_run hi (Chip.mgmtTake_of_checking hopen.1 hopen.2 hrun hheld hop hboot)
    exact ⟨waits rfl, waits rfl, waits rfl, waits rfl, waits rfl, waits rfl, waits rfl⟩
  case exec =>
    obtain ⟨⟨hon, hhalt⟩, hrun, hheld⟩ := hidle
    have runs {i : Instr} {q : MgmtReq} {u : Chip} (hi : exec i s = s.run fun d => d.mgmtTake q) (h : t.mgmtExec q = u) : Gives i s u :=
      gives_of_run hi ((Chip.mgmtTake_of_idle hon hhalt hrun hheld).trans h)
    have hfenced (h : ¬f52) : t.active 52 = false := Bool.eq_false_iff.2 h
    refine ⟨fun h => runs rfl (Chip.mgmtExec_echo.trans (congrArg (fun k => t.mgmtEnd ec k []) (if_pos h))),
      fun h => runs rfl (Chip.mgmtExec_echo.trans (congrArg (fun k => t.mgmtEnd ec k []) (if_neg h))),
      runs rfl (Chip.mgmtExec_of_bad_len rfl), fun hmul hlen => runs rfl (Chip.mgmtExec_read (mgmtLen_iff.2 ⟨hmul, hlen⟩)),
      fun h => runs rfl (Chip.mgmtExec_of_bad_len (mgmtLen_of_misfit h)), fun hlen => ?write, fun hlen => ?longWrite,
      fun hact hboot hlen => runs rfl (Chip.mgmtExec_imageBegin (s := t) hact ((Chip.imageBegin_cases t len.toNat).1 hboot hlen)),
      fun hact h => runs rfl (Chip.mgmtExec_imageBegin (s := t) hact ((Chip.imageBegin_cases t len.toNat).2 h)),
      fun hmul hlen hact hboot n k hload hend => ?data, fun hmul hlen hact h => runs rfl
        (Chip.mgmtExec_imageData (s := t) hact (mgmtLen_iff.2 ⟨hmul, hlen⟩) (Chip.imageData_of_refused (s := t) h)),
      fun h => runs rfl (Chip.mgmtExec_of_bad_len (mgmtLen_of_misfit h)), fun hact hboot n k hload => ?ends,
      fun hact h => runs rfl ((Chip.mgmtExec_imageEnd (s := t) hact (Chip.imageEnd_of_refused (s := t) h)).trans (if_neg Bool.false_ne_true)),
      fun h => ?fenced⟩
    case write =>
      intro u
      exact ⟨fun hup => runs rfl ((Chip.mgmtExec_write hlen).trans (if_pos hup)),
        fun hdown => runs rfl ((Chip.mgmtExec_write hlen).trans (if_neg (ne_true_of_eq_false hdown)))⟩
    case longWrite =>
      exact runs rfl (Chip.mgmtExec_of_bad_len (mgmtLen_of_misfit (Or.inr (Nat.mul_lt_mul_of_pos_left hlen (Nat.succ_pos 3)))))
    case data =>
      intro u
      exact runs rfl (Chip.mgmtExec_imageData (s := t) hact (mgmtLen_iff.2 ⟨hmul, hlen⟩) (Chip.imageData_in_turn (c := t) hload hboot rfl hend))
    case ends =>
      intro u
      exact runs rfl ((Chip.mgmtExec_imageEnd (s := t) hact (Chip.imageEnd_of_complete (d := t) hload hboot)).trans (if_pos rfl))
    case fenced =>
      obtain ⟨hbegin, hend, hdata⟩ := Chip.mgmtExec_image_of_fenced (tag := tag.toNat) (a := len.toNat) (data := data) (hfenced h)
      refine ⟨runs rfl hbegin, runs rfl hend, fun hmul hlen => runs rfl ?_⟩
      exact (Chip.mgmtExec_image_of_fenced (hfenced h) (a := off.toNat)).2.2 (mgmtLen_iff.2 ⟨hmul, hlen⟩)
  case reads =>
    intro x u
    have hread := mgmtReads_of_may (q := q) (n := n) (l := l) (o := x.1) (v := x.2.1) (t := x.2.2) hmay rfl
    exact ⟨fun hdone hget => hread.trans ((if_neg (not_not_intro hdone)).trans (if_neg (ne_true_of_eq_false hget))),
      fun hdone hget => hread.trans ((if_neg (not_not_intro hdone)).trans (if_pos hget)), fun hno => hread.trans (if_pos hno)⟩
  case writes =>
    intro x u
    have hwrite := mgmtWrites_of_may (q := q) (n := n) (l := l) (o := x.1) (t := x.2) hmay rfl
    exact ⟨fun hdone hup => hwrite.trans (if_neg (not_or_intro (not_not_intro hdone) (not_bnot hup))),
      fun h => hwrite.trans (if_pos (h.imp_right bnot))⟩
  case eventOff => exact fun h => gives_of_run rfl (if_pos (bnot h))
  case eventHalted => exact fun hon h => gives_of_run rfl ((if_neg (not_bnot hon)).trans (if_pos h))
  case eventNone =>
    exact fun hon h hmq => gives_of_run rfl
      ((if_neg (not_bnot hon)).trans ((if_neg (ne_true_of_eq_false h)).trans (if_pos (List.isEmpty_iff.2 hmq))))
  case event =>
    exact fun hon h hmq => gives_of_run rfl
      ((if_neg (not_bnot hon)).trans ((if_neg (ne_true_of_eq_false h)).trans (if_neg fun he => hmq (List.isEmpty_iff.1 he))))

end Sys2Proof.Proofs
end

section
/-! PROOF. The wide hub and its tunnelled ports (15_wide_hub_tunnel.md). -/

namespace Sys2Proof.Machine

section
variable {s : Chip}

/-! Presentation (R328) -/

theorem Chip.presentChange_of_presented (hup : s.coreUp = true) (hdetach : s.wide.detach = false) (hpresent : s.presenting = true)
    (hwant : s.wantWide = false) :
    s.presentChange =
      (let t := ((({ s with hub := { s.hub with wup := 0 } }).setDev .wide {}).wideForget).put Reg.WIDE_STAT_PRESENTING 0
       ({ t with wide := { t.wide with detach := true, detachAt := t.ct.toNat } }).tellTerms) := by
  have hgo : ¬(s.wantWide == s.presenting || s.wide.detach || !s.coreUp) = true := by
    rw [hwant, hpresent]
    exact not_or (not_or Bool.false_ne_true (ne_true_of_eq_false hdetach)) (not_bnot hup)
  refine (if_neg hgo).trans ?_
  rw [if_pos hpresent]

theorem Chip.presentChange_of_absent (hup : s.coreUp = true) (hdetach : s.wide.detach = false) (hpresent : s.presenting = false)
    (hwant : s.wantWide = true) :
    s.presentChange =
      (let t := s.hubDefault.hubUpState 0
       ({ t with wide := { t.wide with detach := true, detachAt := t.ct.toNat } }).tellTerms) := by
  have hgo : ¬(s.wantWide == s.presenting || s.wide.detach || !s.coreUp) = true := by
    rw [hwant, hpresent]
    exact not_or (not_or Bool.false_ne_true (ne_true_of_eq_false hdetach)) (not_bnot hup)
  refine (if_neg hgo).trans ?_
  rw [if_neg (ne_true_of_eq_false hpresent)]

theorem Chip.presentChange_of_settled (h : s.wide.detach = true ∨ s.presenting = s.wantWide) : s.presentChange = s := by
  refine if_pos (or_inl ?_ _)
  exact h.elim (or_inr _) (fun h => or_inl (beq_iff_eq.2 h.symm) _)

theorem Chip.wideAttach_of_detached {t : Chip} (hup : s.coreUp = true) (hdetach : s.wide.detach = true)
    (ht : s.timeTo (s.wide.detachAt + 10000000) = t) :
    s.wideAttach = (({ t with wide := { t.wide with detach := false } }).putB Reg.WIDE_STAT_PRESENTING t.wantWide).copyMgmt := by
  subst ht
  exact if_neg (not_or (not_bnot hdetach) (not_bnot hup))

/-! Transactions of the host (R338, R339) -/

section
variable {w d n : Nat} {pid : Bool} {data : List (BitVec 8)} (hlive : s.wideLive w = true) (hact : s.active 51 = true)
include hlive hact

theorem Chip.wideIn_of_poll {i : Nat} (h : s.pollOf w d n true = some i) : s.wideIn w d n = s.pollIn i := by
  refine (if_neg (not_bnot hlive)).trans ((if_neg (not_bnot hact)).trans ?_)
  rw [h]

theorem Chip.wideIn_of_free (hpoll : s.pollOf w d n true = none) (h : s.wideFind w d n true = none) :
    s.wideIn w d n = if s.wideRoom w n then (s.wideHold w (newTx d n 3 false [] false)).answer .nak else s.wideDefer.answer .nak := by
  refine (if_neg (not_bnot hlive)).trans ((if_neg (not_bnot hact)).trans ?_)
  rw [hpoll]
  dsimp only
  rw [h]

theorem Chip.wideIn_of_held {t : WTx} (hpoll : s.pollOf w d n true = none) (h : s.wideFind w d n true = some t) :
    s.wideIn w d n = if t.state ≠ 2 then s.answer .nak
      else ((s.wideDrop w t).withPid t.rpid).answer (if t.kind = 1 then .stall else inReply t.status t.rdata) := by
  refine (if_neg (not_bnot hlive)).trans ((if_neg (not_bnot hact)).trans ?_)
  rw [hpoll]
  dsimp only
  rw [h]

theorem Chip.wideOut_of_poll {i : Nat} (h : s.pollOf w d n false = some i) : s.wideOut w d n pid data = s.pollOut i pid data false := by
  refine (if_neg (not_bnot hlive)).trans ((if_neg (not_bnot hact)).trans ?_)
  rw [h]

theorem Chip.wideOut_of_free (hpoll : s.pollOf w d n false = none) (h : s.wideFind w d n false = none) :
    s.wideOut w d n pid data =
      if s.wideRoom w n then (s.wideHold w (newTx d n 2 pid (data.take 512) false)).answer .nak else s.wideDefer.answer .nak := by
  refine (if_neg (not_bnot hlive)).trans ((if_neg (not_bnot hact)).trans ?_)
  rw [hpoll]
  dsimp only
  rw [h]

theorem Chip.wideOut_of_held {t : WTx} (hpoll : s.pollOf w d n false = none) (h : s.wideFind w d n false = some t) :
    s.wideOut w d n pid data =
      if t.kind = 1 then (if t.state = 2 then (s.wideDrop w t).answer .stall else s.answer .nak)
      else if t.pid ≠ pid ∨ t.data.length ≠ data.length then (s.inc Reg.WIDE_MISMATCH_CNT).answer .nak
      else if t.state ≠ 2 then s.answer .nak
      else (s.wideDrop w t).answer (if t.status = 0 then .ack else if t.status = 2 then .stall else .nak) := by
  refine (if_neg (not_bnot hlive)).trans ((if_neg (not_bnot hact)).trans ?_)
  rw [hpoll]
  dsimp only
  rw [h]
  dsimp only
  generalize t.status = k
  rcases k with _ | _ | _ | k <;> rfl

theorem Chip.widePing_of_free (h : s.wideFind w d n false = none) : s.widePing w d n = s.answer .ack := by
  refine (if_neg (not_bnot hlive)).trans ((if_neg (not_bnot hact)).trans ?_)
  rw [h]

theorem Chip.widePing_of_held {t : WTx} (h : s.wideFind w d n false = some t) :
    s.widePing w d n = s.answer (if t.state = 2 then .ack else .nak) := by
  refine (if_neg (not_bnot hlive)).trans ((if_neg (not_bnot hact)).trans ?_)
  rw [h]

theorem Chip.wideSetup_of_live : s.wideSetup w d data = (s.takeSetup w d data false).answer .ack :=
  (if_neg (not_bnot hlive)).trans (if_neg (not_bnot hact))

end

/-- A SETUP discards what is held for the endpoints that it concerns, and takes the control place. -/
theorem Chip.takeSetup_discards {w d : Nat} {data : List (BitVec 8)} {split : Bool} :
    ∃ l : List WTx, (∀ t : WTx, t ∈ l ↔ t ∈ (s.wp w).held ∧ ¬(t.ep = 0 ∨ (t.dev = d ∧
        (leNat (data.take 2) = 0x0900 ∨
          (leNat (data.take 2) = 0x0102 ∧ leNat ((data.drop 2).take 2) = 0 ∧ t.ep = leNat ((data.drop 4).take 2) % 16 ∧
            ((t.kind = 3) ↔ 128 ≤ leNat ((data.drop 4).take 2))))))) ∧
      s.takeSetup w d data split = (s.setWp w { s.wp w with held := l }).wideHold w (newTx d 0 1 false (data.take 8) split) := by
  refine ⟨_, fun t => ?_, rfl⟩
  rw [List.mem_filter, Bool.not_eq_true', Bool.eq_false_iff]
  refine and_congr_right' (not_congr ?_)
  have hdir : ((t.kind == 3) = decide (128 ≤ leNat ((data.drop 4).take 2))) ↔ ((t.kind = 3) ↔ 128 ≤ leNat ((data.drop 4).take 2)) := by
    rw [Bool.eq_iff_iff, beq_iff_eq, decide_eq_true_iff]
  simp only [Bool.or_eq_true, Bool.and_eq_true, beq_iff_eq, and_assoc, hdir]
  exact or_congr_right (and_congr_right' or_comm)

/-! Split transactions (R340) -/

section
variable {z : WideSplit}

theorem Chip.wideSplit_of_fenced (hlive : s.wideLive z.w.val = true) (hact : s.active 51 = false) :
    s.wideSplit z = s.answer (if z.start then .nak else .err) :=
  (if_neg (not_bnot hlive)).trans (if_pos (bnot hact))

variable (hlive : s.wideLive z.w.val = true) (hact : s.active 51 = true)
include hlive hact

theorem Chip.wideSplit_of_unlisted (hper : z.periodic = true) (h : s.pollOf z.w.val z.dev.toNat z.ep.toNat z.dirIn = none) :
    s.wideSplit z = if z.start then (s.inc Reg.WIDE_UNLISTED_CNT).answer .none else s.answer .err := by
  refine (if_neg (not_bnot hlive)).trans ((if_neg (not_bnot hact)).trans ((if_pos hper).trans ?_))
  rw [h]

theorem Chip.wideSplit_of_listed {i : Nat} (hper : z.periodic = true) (h : s.pollOf z.w.val z.dev.toNat z.ep.toNat z.dirIn = some i) :
    s.wideSplit z = if z.start then (if z.dirIn then s.answer .none else s.pollOut i z.pid1 z.data true)
      else if z.dirIn then s.pollIn i else s.answer (s.wpoll i).hand := by
  refine (if_neg (not_bnot hlive)).trans ((if_neg (not_bnot hact)).trans ((if_pos hper).trans ?_))
  rw [h]

variable (hper : z.periodic = false)
include hper

theorem Chip.wideSplit_of_start (hstart : z.start = true) :
    s.wideSplit z = if z.setup then (s.takeSetup z.w.val z.dev.toNat z.data true).answer .ack
      else if s.wideRoom z.w.val z.ep.toNat then
        (s.wideHold z.w.val (newTx z.dev.toNat z.ep.toNat (if z.dirIn then 3 else 2) z.pid1 (z.data.take 512) true)).answer .ack
      else s.wideDefer.answer .nak :=
  (if_neg (not_bnot hlive)).trans ((if_neg (not_bnot hact)).trans ((if_neg (ne_true_of_eq_false hper)).trans (if_pos hstart)))

theorem Chip.wideSplit_of_complete_none (hstart : z.start = false) (h : s.wideFind z.w.val z.dev.toNat z.ep.toNat z.dirIn = none) :
    s.wideSplit z = s.answer .err := by
  refine (if_neg (not_bnot hlive)).trans ((if_neg (not_bnot hact)).trans ((if_neg (ne_true_of_eq_false hper)).trans
    ((if_neg (ne_true_of_eq_false hstart)).trans ?_)))
  rw [h]

theorem Chip.wideSplit_of_complete {t : WTx} (hstart : z.start = false)
    (h : s.wideFind z.w.val z.dev.toNat z.ep.toNat z.dirIn = some t) :
    s.wideSplit z = if t.state ≠ 2 then s.answer .nyet
      else ((s.wideDrop z.w.val t).withPid t.rpid).answer (if t.kind = 3 then inReply t.status t.rdata
        else if t.status = 0 then .ack else if t.status = 1 then .nak else if t.status = 2 then .stall else .err) := by
  refine (if_neg (not_bnot hlive)).trans ((if_neg (not_bnot hact)).trans ((if_neg (ne_true_of_eq_false hper)).trans
    ((if_neg (ne_true_of_eq_false hstart)).trans ?_)))
  rw [h]
  dsimp only
  generalize t.status = k
  rcases k with _ | _ | _ | k <;> rfl

end

/-! Polls (R342) -/

section
variable {e : Nat}

theorem Chip.pollIn_of_none (h : (s.wpoll e).shown = none) :
    s.pollIn e = (s.withPid false).answer (if s.wkB (Reg.WIDE_POLL_TYPE e) then .data [] else .nak) := by
  unfold Chip.pollIn
  rw [h]

theorem Chip.pollIn_of_data {z : PollRes} (h : (s.wpoll e).shown = some z) (hst : z.status = 0) :
    s.pollIn e = ((s.setWpoll e { s.wpoll e with shown := none }).withPid z.pid).answer (.data z.data) := by
  unfold Chip.pollIn
  rw [h]
  dsimp only
  rw [hst]
  rfl

theorem Chip.pollIn_of_stall {z : PollRes} (h : (s.wpoll e).shown = some z) (hst : z.status = 2)
    (hiso : s.wkB (Reg.WIDE_POLL_TYPE e) = false) :
    s.pollIn e = ((s.setWpoll e { s.wpoll e with shown := none }).withPid false).answer .stall := by
  unfold Chip.pollIn
  rw [h]
  dsimp only
  rw [hst, hiso]
  rfl

/-- OUT data of the host at a poll entry, by its handshake. -/
theorem Chip.pollOut_of_take {x : WPoll} {h : UsbReply} {pid : Bool} {data : List (BitVec 8)}
    (htake : (s.wpoll e).take (s.wkB (Reg.WIDE_POLL_TYPE e)) pid data = (h, x)) :
    s.pollOut e pid data false = (s.setWpoll e { x with hand := h }).answer h := by
  unfold Chip.pollOut
  rw [htake]
  rfl

theorem Chip.not_poll_shut {dir : Bool} (h : s.wideLive (s.wk (Reg.WIDE_POLL_PORT e)) = true ∧ s.wkB (Reg.WIDE_POLL_EN e) = true)
    (hdir : dir = false) : ¬(!s.wideLive (s.wk (Reg.WIDE_POLL_PORT e)) || !s.wkB (Reg.WIDE_POLL_EN e) || dir) = true :=
  not_or (not_or (not_bnot h.1) (not_bnot h.2)) (ne_true_of_eq_false hdir)

theorem Chip.poll_shut {dir : Bool} (h : ¬(s.wideLive (s.wk (Reg.WIDE_POLL_PORT e)) = true ∧ s.wkB (Reg.WIDE_POLL_EN e) = true)) :
    (!s.wideLive (s.wk (Reg.WIDE_POLL_PORT e)) || !s.wkB (Reg.WIDE_POLL_EN e) || dir) = true := by
  refine or_inl ?_ _
  by_cases hlive : s.wideLive (s.wk (Reg.WIDE_POLL_PORT e)) = true
  · exact or_inr _ (bnot (Bool.eq_false_iff.2 fun hen => h ⟨hlive, hen⟩))
  · exact or_inl (bnot (Bool.eq_false_iff.2 hlive)) _

end

/-! Port requests (R344) -/

/-- A request for a mapped wide port of the configured wide hub goes by the request. -/
theorem Chip.not_portReq_refused {q : Nat} (h : s.hub.wup = 3 ∧ 2 ≤ q ∧ q ≤ s.get Reg.WIDE_CFG_NPORTS) :
    ¬(s.hub.wup ≠ 3 ∨ q = 0 ∨ s.get Reg.WIDE_CFG_NPORTS < q) ∧ q ≠ 1 := by
  omega

/-- A port reset of a tunnelled port with a device shows at once and drops what is held. -/
theorem Chip.widePortReq_setReset {q : Nat} (hon : s.usbOn .wide = true)
    (hq : s.hub.wup = 3 ∧ 2 ≤ q ∧ q ≤ s.get Reg.WIDE_CFG_NPORTS) (hown : s.ownEntry q = false)
    (hconn : bit (s.get (Reg.WIDE_PORT_STAT_STATUS q)) stConn = true) :
    s.widePortReq q .setReset =
      (let t := s.put (Reg.WIDE_PORT_STAT_STATUS q) (clrBit (setBit (s.get (Reg.WIDE_PORT_STAT_STATUS q)) stReset) stEnable)
       let u := (t.setWp q { t.wp q with held := [], resetting := if t.mapped q then 1 else 0 }).wideCount
       if u.mapped q then (u.sendCmd q (portCmd 4 true 0 0)).answer .ack else u.answer .ack) := by
  obtain ⟨hgo, hother⟩ := Chip.not_portReq_refused hq
  refine (if_neg (not_bnot hon)).trans ((if_neg hgo).trans ((if_neg hother).trans ?_))
  have hput : (if bit (s.get (Reg.WIDE_PORT_STAT_STATUS q)) stConn && !s.ownEntry q then
      s.put (Reg.WIDE_PORT_STAT_STATUS q) (clrBit (setBit (s.get (Reg.WIDE_PORT_STAT_STATUS q)) stReset) stEnable) else s) =
      s.put (Reg.WIDE_PORT_STAT_STATUS q) (clrBit (setBit (s.get (Reg.WIDE_PORT_STAT_STATUS q)) stReset) stEnable) :=
    if_pos (and_intro hconn (bnot hown))
  dsimp only
  rw [hput]
  have hkept : (s.put (Reg.WIDE_PORT_STAT_STATUS q) (clrBit (setBit (s.get (Reg.WIDE_PORT_STAT_STATUS q)) stReset) stEnable)).ownEntry q = false :=
    hown
  rw [hkept, Bool.not_false, Bool.and_true]

/-! The node that serves a port (R337, R341, R346) -/

section
variable {w : Nat} {o : DevReply}

theorem Chip.downExecute_of_record {z : WRec} {l : List WRec} (hup : s.coreUp = true) (hlive : s.servedLive w = true)
    (hown : s.ownEntry w = false) (h : (s.ws w).todo = z :: l) :
    s.downExecute w o =
      (s.setWs w { s.ws w with todo := l }).stage w
        ⟨0x81, z.b1, z.dev, b2n (replyParts o).2.1 + z.b3 / 2 % 4 * 2, (replyParts o).1, (replyParts o).2.2⟩ := by
  refine (if_neg (not_or (not_bnot hup) (not_bnot hlive))).trans ((if_neg (ne_true_of_eq_false hown)).trans ?_)
  rw [h]

theorem Chip.downExecute_of_done (hown : s.ownEntry w = false) (h : (s.ws w).todo = []) : s.downExecute w o = s := by
  unfold Chip.downExecute
  rw [if_neg (ne_true_of_eq_false hown), h]
  exact ite_self s

theorem Chip.portOrphan_of_kept
    (h : s.serves w = false ∨ s.ownEntry w = true ∨ (s.ws w).orphan = true ∨ sub32 (s.get Reg.CLK_CYC_NUM + 1) (s.ws w).last < 16) :
    s.portOrphan w = s := by
  refine if_neg ?_
  rcases h with h | h | h | h
  · exact not_and_left (not_and_left (not_and_left (not_and_right _ (ne_true_of_eq_false h)) _) _) _
  · exact not_and_left (not_and_left (not_and_right _ (not_bnot h)) _) _
  · exact not_and_left (not_and_right _ (not_bnot h)) _
  · exact not_and_right _ (ne_true_of_eq_false (decide_eq_false (Nat.not_le.2 h)))

end

end

end Sys2Proof.Machine

namespace Sys2Proof.Proofs
open Sys2Proof.Machine

/-- Settles O54: presentation, transactions, splits, polls and port requests of the wide hub, and the node that serves a port. -/
theorem wideHubResults : Obligations.WideHubResults := by
  unfold Obligations.WideHubResults
  intro r w e dev ep pid data o replies p m s c k d n x y f51 live nak dropped e_ pl pollLive iso q req here st ch cmd mine
  have hostIn {t : Chip} (h : c.wideIn k d n = t) : Gives (.wideHostIn w dev ep) s t := gives_of_run (f := fun u => u.wideIn k d n) rfl h
  have hostOut {t : Chip} (h : c.wideOut k d n pid data = t) : Gives (.wideHostOut w dev ep pid data) s t :=
    gives_of_run (f := fun u => u.wideOut k d n pid data) rfl h
  have hostPing {t : Chip} (h : c.widePing k d n = t) : Gives (.wideHostPing w dev ep) s t :=
    gives_of_run (f := fun u => u.widePing k d n) rfl h
  have hostSetup {t : Chip} (h : c.wideSetup k d data = t) : Gives (.wideHostSetup w dev data) s t :=
    gives_of_run (f := fun u => u.wideSetup k d data) rfl h
  have pollResult {t : Chip} (h : c.pollResultIn e_ = t) : Gives (.pollResultIn e) s t := gives_of_run (f := fun u => u.pollResultIn e_) rfl h
  have pollData {t : Chip} (h : c.pollOutData e_ pid data = t) : Gives (.pollOutData e pid data) s t :=
    gives_of_run (f := fun u => u.pollOutData e_ pid data) rfl h
  have portRequest {t : Chip} (z : HubPortReq) (h : c.widePortReq q z = t) : Gives (.widePortRequest p z) s t :=
    gives_of_run (f := fun u => u.widePortReq q z) rfl h
  refine ⟨?present, ?absent, ?settled, ?attach, ?noAttach, fun ht => ⟨?enable, ?noEnable⟩, fun ht => gives_of_takes rfl ht rfl, ?dead, ?fenced,
    fun hl i h => hostIn (Chip.wideIn_of_poll hl.1 hl.2 h), ?inFree, ?inHeld, fun hl i h => hostOut (Chip.wideOut_of_poll hl.1 hl.2 h), ?outFree,
    ?outHeld, fun hl => hostSetup (Chip.wideSetup_of_live hl.1 hl.2), fun split => Chip.takeSetup_discards, fun z => ?split, ?pollIn, ?pollOut,
    ?pollFenced, ?pollDead, ?noReq, ?refused, ?mgmtPort, fun hhere => ?port, ?map, ?noMap, ?noMapReq, ?down, ?noDown, ?downDone, ?run, ?noRun,
    ?orphan, ?noOrphan, ?ovl, ?noOvl⟩
  case present =>
    exact fun hup hdetach hpresent hwant => gives_of_run (f := fun u => if u.coreUp then u.presentChange else u) rfl
      ((if_pos hup).trans (Chip.presentChange_of_presented hup hdetach hpresent hwant))
  case absent =>
    intro hup hdetach hpresent hwant
    have h := Chip.presentChange_of_absent (s := c) hup hdetach hpresent hwant
    exact gives_of_run (f := fun u => if u.coreUp then u.presentChange else u) rfl ((if_pos hup).trans h)
  case settled =>
    exact fun h => gives_of_run (f := fun u => if u.coreUp then u.presentChange else u) rfl
      (Chip.ite_coreUp_of_eq (Chip.presentChange_of_settled h))
  case attach =>
    intro hup hdetach t
    have ht : c.timeTo (c.wide.detachAt + 10000000) = t := rfl
    clear_value t
    exact gives_of_run (f := fun u => if u.coreUp then u.wideAttach else u) rfl
      ((if_pos hup).trans (Chip.wideAttach_of_detached hup hdetach ht))
  case noAttach =>
    exact fun h => gives_of_run (f := fun u => if u.coreUp then u.wideAttach else u) rfl
      (Chip.ite_coreUp_of_eq (if_pos (or_inl (bnot h) _)))
  case enable =>
    exact fun hports hact => gives_of_takes rfl ht (if_neg (not_or_intro (Nat.not_lt.2 hports) (not_bnot hact)))
  case noEnable =>
    exact fun h => gives_of_takes rfl ht (if_pos (h.imp_right fun h => bnot (Bool.eq_false_iff.2 h)))
  case dead =>
    exact fun h => ⟨hostIn (if_pos (bnot h)), hostOut (if_pos (bnot h)), hostPing (if_pos (bnot h)), hostSetup (if_pos (bnot h))⟩
  case fenced =>
    intro hlive h
    have hact : (!c.active 51) = true := bnot (Bool.eq_false_iff.2 h)
    exact ⟨hostIn ((if_neg (not_bnot hlive)).trans (if_pos hact)), hostOut ((if_neg (not_bnot hlive)).trans (if_pos hact)),
      hostPing ((if_neg (not_bnot hlive)).trans (if_pos hact)), hostSetup ((if_neg (not_bnot hlive)).trans (if_pos hact))⟩
  case inFree =>
    exact fun hl hpoll hfind => ⟨fun hroom => hostIn ((Chip.wideIn_of_free hl.1 hl.2 hpoll hfind).trans (if_pos hroom)),
      fun hroom => hostIn ((Chip.wideIn_of_free hl.1 hl.2 hpoll hfind).trans (if_neg (ne_true_of_eq_false hroom)))⟩
  case inHeld =>
    exact fun hl hpoll t hfind => ⟨fun hst => hostIn ((Chip.wideIn_of_held hl.1 hl.2 hpoll hfind).trans (if_pos hst)),
      fun hst => hostIn ((Chip.wideIn_of_held hl.1 hl.2 hpoll hfind).trans (if_neg (not_not_intro hst)))⟩
  case outFree =>
    exact fun hl hfind => ⟨fun hpoll hroom => hostOut ((Chip.wideOut_of_free hl.1 hl.2 hpoll hfind).trans (if_pos hroom)),
      fun hpoll hroom => hostOut ((Chip.wideOut_of_free hl.1 hl.2 hpoll hfind).trans (if_neg (ne_true_of_eq_false hroom))),
      hostPing (Chip.widePing_of_free hl.1 hl.2 hfind)⟩
  case outHeld =>
    intro hl t hfind noPoll
    have held (hp : noPoll) := Chip.wideOut_of_held (pid := pid) (data := data) hl.1 hl.2 hp hfind
    have hping := Chip.widePing_of_held hl.1 hl.2 hfind
    refine ⟨fun hst => hostPing (hping.trans (congrArg c.answer (if_pos hst))), fun hst => hostPing (hping.trans (congrArg c.answer (if_neg hst))),
      fun hp hkind hst => hostOut ((held hp).trans ((if_pos hkind).trans (if_pos hst))),
      fun hp hkind hst => hostOut ((held hp).trans ((if_pos hkind).trans (if_neg hst))),
      fun hp hkind h => hostOut ((held hp).trans ((if_neg hkind).trans (if_pos h))), fun hp hkind hpid hlen hst => hostOut ((held hp).trans ?_),
      fun hp hkind hpid hlen hst => hostOut ((held hp).trans ?_)⟩
    · exact (if_neg hkind).trans ((if_neg (not_or_intro (not_not_intro hpid) (not_not_intro hlen))).trans (if_pos hst))
    · exact (if_neg hkind).trans ((if_neg (not_or_intro (not_not_intro hpid) (not_not_intro hlen))).trans (if_neg (not_not_intro hst)))
  case split =>
    intro v a b wl
    have splits {t : Chip} (h : c.wideSplit z = t) : Gives (.wideSplit z) s t := gives_of_run (f := fun u => u.wideSplit z) rfl h
    have hfenced (hl : wl) (h : ¬f51) := Chip.wideSplit_of_fenced (z := z) hl (Bool.eq_false_iff.2 h)
    refine ⟨fun h => splits (if_pos (bnot (Bool.eq_false_iff.2 h))), fun hl h hs => splits ((hfenced hl h).trans (congrArg c.answer (if_pos hs))),
      fun hl h hs => splits ((hfenced hl h).trans (congrArg c.answer (if_neg (ne_true_of_eq_false hs)))), fun hl hact hper hpoll => ?unlisted,
      fun hl hact hper i hpoll => ?listed, fun hl hact hper hs hsetup => splits ((Chip.wideSplit_of_start hl hact hper hs).trans (if_pos hsetup)),
      fun hl hact hper hs hsetup => ?start,
      fun hl hact hper hs hfind => splits (Chip.wideSplit_of_complete_none hl hact hper hs hfind), fun hl hact hper hs t hfind => ?complete⟩
    case unlisted =>
      have h := Chip.wideSplit_of_unlisted hl hact hper hpoll
      exact ⟨fun hs => splits (h.trans (if_pos hs)), fun hs => splits (h.trans (if_neg (ne_true_of_eq_false hs)))⟩
    case listed =>
      have h := Chip.wideSplit_of_listed hl hact hper hpoll
      exact ⟨fun hs hdir => splits (h.trans ((if_pos hs).trans (if_pos hdir))),
        fun hs hdir => splits (h.trans ((if_pos hs).trans (if_neg (ne_true_of_eq_false hdir)))),
        fun hs hdir => splits (h.trans ((if_neg (ne_true_of_eq_false hs)).trans (if_pos hdir))),
        fun hs hdir => splits (h.trans ((if_neg (ne_true_of_eq_false hs)).trans (if_neg (ne_true_of_eq_false hdir))))⟩
    case start =>
      have h := (Chip.wideSplit_of_start hl hact hper hs).trans (if_neg (ne_true_of_eq_false hsetup))
      exact ⟨fun hroom => splits (h.trans (if_pos hroom)), fun hroom => splits (h.trans (if_neg (ne_true_of_eq_false hroom)))⟩
    case complete =>
      have h := Chip.wideSplit_of_complete hl hact hper hs hfind
      exact ⟨fun hst => splits (h.trans (if_pos hst)),
        fun hst hkind => splits (h.trans ((if_neg (not_not_intro hst)).trans (congrArg _ (if_pos hkind)))),
        fun hst hkind => splits (h.trans ((if_neg (not_not_intro hst)).trans (congrArg _ (if_neg hkind))))⟩
  case pollIn =>
    intro hpl hact hdir
    have shows {t : Chip} (h : c.pollIn e_ = t) : Gives (.pollResultIn e) s t :=
      pollResult ((if_neg (Chip.not_poll_shut hpl (congrArg (!·) hdir))).trans ((if_neg (not_bnot hact)).trans h))
    refine ⟨fun h => shows (Chip.pollIn_of_none h), fun z h => ?_⟩
    intro u
    exact ⟨fun hst => shows (Chip.pollIn_of_data h hst), fun hst hiso => shows (Chip.pollIn_of_stall h hst hiso)⟩
  case pollOut =>
    intro hpl hact hdir data_
    have takes {g : UsbReply} {z : WPoll} (h : pl.take iso pid data = (g, z)) :
        Gives (.pollOutData e pid data) s ((c.setWpoll e_ { z with hand := g }).answer g) :=
      pollData ((if_neg (Chip.not_poll_shut hpl hdir)).trans ((if_neg (not_bnot hact)).trans (Chip.pollOut_of_take h)))
    exact ⟨fun hstall => takes (if_pos hstall),
      fun hstall hiso => takes ((if_neg (ne_true_of_eq_false hstall)).trans (if_pos hiso)),
      fun hstall hiso hout => takes ((if_neg (ne_true_of_eq_false hstall)).trans ((if_neg (ne_true_of_eq_false hiso)).trans (if_pos hout))),
      fun hstall hiso hout => takes ((if_neg (ne_true_of_eq_false hstall)).trans ((if_neg (ne_true_of_eq_false hiso)).trans
        (if_neg (Option.not_isSome_iff_eq_none.2 hout))))⟩
  case pollFenced =>
    intro hpl h
    have hact : (!c.active 51) = true := bnot (Bool.eq_false_iff.2 h)
    exact ⟨fun hdir => pollResult ((if_neg (Chip.not_poll_shut hpl (congrArg (!·) hdir))).trans (if_pos hact)),
      fun hdir => pollData ((if_neg (Chip.not_poll_shut hpl hdir)).trans (if_pos hact))⟩
  case pollDead => exact fun h => ⟨pollResult (if_pos (Chip.poll_shut h)), pollData (if_pos (Chip.poll_shut h))⟩
  case noReq => exact fun h z => portRequest z (if_pos (bnot (Bool.eq_false_iff.2 h)))
  case refused => exact fun hon h z => portRequest z ((if_neg (not_bnot hon)).trans (if_pos h))
  case mgmtPort =>
    intro hon hwup hq hports z
    refine portRequest z ((if_neg (not_bnot hon)).trans ((if_neg ?_).trans (if_pos hq)))
    exact not_or_intro (not_not_intro hwup) (not_or_intro (hq ▸ Nat.one_ne_zero) (Nat.not_lt.2 (hq ▸ hports)))
  case port =>
    obtain ⟨hon, hq⟩ := hhere
    obtain ⟨hgo, hother⟩ := Chip.not_portReq_refused hq
    have reached (z : HubPortReq) {t u : Chip} (h : u = t) :
        (if (!c.usbOn .wide) = true then c else if c.hub.wup ≠ 3 ∨ q = 0 ∨ c.get Reg.WIDE_CFG_NPORTS < q then c.answer .stall
          else if q = 1 then c.mgmtPortReq z else u) = t :=
      (if_neg (not_bnot hon)).trans ((if_neg hgo).trans ((if_neg hother).trans h))
    refine ⟨portRequest _ (reached .setPower rfl), portRequest _ (reached .clearPower rfl), portRequest _ (reached .setSuspend rfl),
      portRequest _ (reached .clearSuspend rfl), portRequest _ (reached .resetTt rfl), portRequest _ (reached .getStatus rfl),
      fun hown hconn => portRequest _ (Chip.widePortReq_setReset hon hq hown hconn), fun hown => portRequest _ (reached .clearEnable ?enable),
      fun z => portRequest _ (reached (.clearChange z) rfl), fun z hmap => portRequest _ (reached (.clearTt z) (if_pos hmap)),
      portRequest _ (reached .setTest rfl), portRequest _ (reached .clearL1 rfl), portRequest _ (reached .getTt rfl),
      portRequest _ (reached .stopTt rfl)⟩
    exact congrArg (fun t : Chip => cmd t 1 false) (if_neg (ne_true_of_eq_false hown))
  case map =>
    exact fun hon hm hmap => gives_of_run (f := fun u => u.getPortMap m.toNat) rfl ((if_neg (not_bnot hon)).trans (if_pos ⟨hm, hmap⟩))
  case noMap =>
    refine fun hon h => gives_of_run (f := fun u => u.getPortMap m.toNat) rfl ((if_neg (not_bnot hon)).trans (if_neg fun hc => ?_))
    exact h.elim (fun h => Nat.not_lt.2 h hc.1) (fun h => ne_true_of_eq_false h hc.2)
  case noMapReq => exact fun h => gives_of_run (f := fun u => u.getPortMap m.toNat) rfl (if_pos (bnot (Bool.eq_false_iff.2 h)))
  case down =>
    exact fun hup hlive hown z l h => gives_of_run (f := fun u => u.downExecute k o) rfl (Chip.downExecute_of_record hup hlive hown h)
  case noDown => exact fun h => gives_of_run (f := fun u => u.downExecute k o) rfl (if_pos (or_inr _ (bnot h)))
  case downDone => exact fun hown h => gives_of_run (f := fun u => u.downExecute k o) rfl (Chip.downExecute_of_done hown h)
  case run =>
    exact fun hup hnew => gives_of_run (f := fun u => u.pollRun replies) rfl (if_neg (not_or (not_bnot hup) fun h => hnew (eq_of_beq h)))
  case noRun => exact fun h => gives_of_run (f := fun u => u.pollRun replies) rfl (if_pos (or_inr _ (beq_iff_eq.2 h)))
  case orphan =>
    exact fun hup hserves hown horphan hlast => gives_of_run (f := fun u => u.portOrphan k) rfl (if_pos
      (and_intro (and_intro (and_intro (and_intro hup hserves) (bnot hown)) (bnot horphan)) (decide_eq_true hlast)))
  case noOrphan => exact fun h => gives_of_run (f := fun u => u.portOrphan k) rfl (Chip.portOrphan_of_kept h)
  case ovl =>
    exact fun hup hovl hdue => gives_of_run (f := fun u => if u.coreUp then u.wideOvlEnd else u) rfl
      ((if_pos hup).trans (if_pos (and_intro (and_intro hup hovl) (decide_eq_true hdue))))
  case noOvl =>
    refine fun h => gives_of_run (f := fun u => if u.coreUp then u.wideOvlEnd else u) rfl (Chip.ite_coreUp_of_eq (if_neg ?_))
    exact h.elim (fun h => not_and_left (not_and_right _ (ne_true_of_eq_false h)) _)
      (fun h => not_and_right _ (ne_true_of_eq_false (decide_eq_false (Nat.not_le.2 h))))

end Sys2Proof.Proofs
end

section
/-! PROOF. The writes of the ports of a Cuff (16_cuffs_type_c_pd.md Tables CUFF-4 and CUFF-5). -/

namespace Sys2Proof.Machine

/-- The ports of a Cuff that can be written (Table CUFF-4). -/
def cuffWritten : List Nat := [0x18, 0x28, 0x30, 0x31, 0x32, 0x33, 0x34]

theorem portReserved_cuffPort (c : Fin 5) : ∀ o ∈ cuffWritten, portReserved (cuffPort c.val o) = false := by
  revert c; decide

theorem cuffPort_place (c : Fin 5) : ∀ o ∈ cuffWritten,
    cuffPort c.val o / 0x1000 = 2 ∧ cuffPort c.val o % 0x1000 / 256 = c.val ∧ cuffPort c.val o % 0x1000 % 256 = o := by
  revert c; decide

section
variable {s t : Chip} {e : Fin 32} {c : Fin 5} {o v : Nat}

theorem Chip.portBusy_cuffPort (ho : o ∈ cuffWritten) : s.portBusy (cuffPort c.val o) = s.occCuff c.val := by
  obtain ⟨hblock, hinst, -⟩ := cuffPort_place c o ho
  unfold Chip.portBusy
  dsimp only
  rw [hblock, hinst]
  rfl

theorem Chip.portDo_cuffPort (ho : o ∈ cuffWritten) : s.portDo (cuffPort c.val o) v = s.cuffPortWrite c.val o v := by
  obtain ⟨hblock, hinst, hoff⟩ := cuffPort_place c o ho
  unfold Chip.portDo
  dsimp only
  rw [hblock, hinst, hoff]
  rfl

theorem portBlock_cuffPort (ho : o ∈ cuffWritten) : portBlock (cuffPort c.val o) = (11, c.val) := by
  obtain ⟨hblock, hinst, -⟩ := cuffPort_place c o ho
  unfold portBlock
  dsimp only
  rw [hblock, hinst]
  rfl

/-! A write of a claimed port (R206) -/

theorem Chip.portDoBy_of_idle {p : Nat} (h : ¬(s.coreUp = true ∧ s.engState e.val = 1)) : s.portDoBy e p v = s := by
  refine if_pos ?_
  by_cases hup : s.coreUp = true
  · exact or_inr _ (bne_iff_ne.2 fun hrun => h ⟨hup, hrun⟩)
  · exact or_inl (bnot (Bool.eq_false_iff.2 hup)) _

section
variable (hup : s.coreUp = true ∧ s.engState e.val = 1)
include hup

theorem Chip.not_idle_of_run : ¬(!s.coreUp || s.engState e.val != 1) = true :=
  not_or (not_bnot hup.1) fun h => bne_iff_ne.1 h hup.2

theorem Chip.portDoBy_of_unclaimed {p : Nat} (h : s.claim e.val p ≠ 2) : s.portDoBy e p v = s.trap e.val 3 (some p) :=
  (if_neg (Chip.not_idle_of_run hup)).trans (if_pos (or_inr _ (bne_iff_ne.2 h)))

theorem Chip.portDoBy_of_claimed (ho : o ∈ cuffWritten) (hclaim : s.claim e.val (cuffPort c.val o) = 2) :
    s.portDoBy e (cuffPort c.val o) v =
      (s.portWrite e.val (cuffPort c.val o) v).2.respond (.engine e) (cuffPort c.val o) (s.portWrite e.val (cuffPort c.val o) v).1 := by
  have hfree : ¬(portReserved (cuffPort c.val o) || s.claim e.val (cuffPort c.val o) != 2) = true :=
    not_or (ne_true_of_eq_false (portReserved_cuffPort c o ho)) fun h => bne_iff_ne.1 h hclaim
  exact (if_neg (Chip.not_idle_of_run hup)).trans (if_neg hfree)

theorem Chip.portDoBy_of_tested (ho : o ∈ cuffWritten) (hclaim : s.claim e.val (cuffPort c.val o) = 2) (hocc : s.occCuff c.val = true) :
    s.portDoBy e (cuffPort c.val o) v = s.respond (.engine e) (cuffPort c.val o) .busy := by
  have h : s.portWrite e.val (cuffPort c.val o) v = (.busy, s) := if_pos ((Chip.portBusy_cuffPort ho).trans hocc)
  rw [Chip.portDoBy_of_claimed hup ho hclaim, h]

theorem Chip.portDoBy_of_accepted (ho : o ∈ cuffWritten) (hclaim : s.claim e.val (cuffPort c.val o) = 2) (hocc : s.occCuff c.val = false)
    (hdo : s.cuffPortWrite c.val o v = (true, t)) : s.portDoBy e (cuffPort c.val o) v = t.respond (.engine e) (cuffPort c.val o) .done := by
  have h : s.portWrite e.val (cuffPort c.val o) v = (.done, t) := by
    unfold Chip.portWrite
    rw [Chip.portBusy_cuffPort ho, Chip.portDo_cuffPort ho, hdo, hocc]
    rfl
  rw [Chip.portDoBy_of_claimed hup ho hclaim, h]

theorem Chip.portDoBy_of_rejected (ho : o ∈ cuffWritten) (hclaim : s.claim e.val (cuffPort c.val o) = 2) (hocc : s.occCuff c.val = false)
    (hdo : s.cuffPortWrite c.val o v = (false, s)) :
    s.portDoBy e (cuffPort c.val o) v =
      (s.drew.reject e.val 11 c.val (s.free % 65536)).respond (.engine e) (cuffPort c.val o) .reject := by
  have h : s.portWrite e.val (cuffPort c.val o) v = (.reject, s.drew.reject e.val 11 c.val (s.free % 65536)) := by
    unfold Chip.portWrite
    rw [Chip.portBusy_cuffPort ho, Chip.portDo_cuffPort ho, hdo, hocc, portBlock_cuffPort ho]
    rfl
  rw [Chip.portDoBy_of_claimed hup ho hclaim, h]

end

/-! The ports under firmware policy (R375) -/

theorem Chip.cuffPortWrite_of_safe {n : Nat} (h : ¬(s.firmware n = true ∧ s.flag (Reg.CUFF_STAT_EN n) = true ∧ s.active (32 + n) = true)) :
    s.cuffPortWrite n o v = (false, s) := by
  refine if_pos ?_
  refine Classical.byContradiction fun hno => ?_
  refine h ⟨?_, ?_, ?_⟩
  · exact Bool.of_not_eq_false fun hfirm => hno (.inl (bnot hfirm))
  · exact Bool.of_not_eq_false fun hen => hno (.inr (.inl (bnot hen)))
  · exact Bool.of_not_eq_false fun hactive => hno (.inr (.inr (bnot hactive)))

section
variable {n : Nat} (hfirm : s.firmware n = true ∧ s.flag (Reg.CUFF_STAT_EN n) = true ∧ s.active (32 + n) = true)
include hfirm

theorem Chip.not_safe_of_firm : ¬((!s.firmware n) = true ∨ (!s.flag (Reg.CUFF_STAT_EN n)) = true ∨ (!s.active (32 + n)) = true) :=
  not_or_intro (not_bnot hfirm.1) (not_or_intro (not_bnot hfirm.2.1) (not_bnot hfirm.2.2))

theorem Chip.cuffPortWrite_rxStat : s.cuffPortWrite n 0x18 v = (true, s.setCuff n { s.cuff n with rx := (s.cuff n).rx.drop 1 }) :=
  if_neg (Chip.not_safe_of_firm hfirm)

theorem Chip.cuffPortWrite_txGo : s.cuffPortWrite n 0x28 v = s.txGo n v := if_neg (Chip.not_safe_of_firm hfirm)

theorem Chip.cuffPortWrite_cmd : s.cuffPortWrite n 0x30 v = s.cuffCmd n v := if_neg (Chip.not_safe_of_firm hfirm)

theorem Chip.cuffPortWrite_vset : s.cuffPortWrite n 0x31 v = s.vsetPort n v := if_neg (Chip.not_safe_of_firm hfirm)

theorem Chip.cuffPortWrite_contract : s.cuffPortWrite n 0x32 v = s.contractPort n v := if_neg (Chip.not_safe_of_firm hfirm)

theorem Chip.cuffPortWrite_kick : s.cuffPortWrite n 0x33 v =
    (true, if s.wdogLate n then s.fault (32 + n) 6 0 0 else s.setCuff n { s.cuff n with kick := s.fNow }) :=
  if_neg (Chip.not_safe_of_firm hfirm)

theorem Chip.cuffPortWrite_rp : s.cuffPortWrite n 0x34 v =
    (if v < 3 then (true, (s.setCuff n { s.cuff n with adv := v }).fuseSettle) else (false, s)) :=
  if_neg (Chip.not_safe_of_firm hfirm)

end

/-! TX_GO (R355, R356) -/

/-- The Cuff with a transmission begun by TX_GO, before the wait that R356 asks of a source's first message. -/
def txStarted (x : Cuff) (v : Nat) : Cuff :=
  let y : Cuff := { x with txGo := v % 512, txRes := 1, txWait := false, retries := if bit v 7 then 3 else 2 }
  if y.txData.get 0 0 % 32 = 13 ∧ bits (y.txData.get 0 0) 15 12 = 0 then
    { y with txId := y.txId.put 0 (bits v 6 5) 0, rxId := y.rxId.put 0 (bits v 6 5) 0 } else y

theorem txStarted_eq (x : Cuff) (v : Nat) :
    txStarted x v =
      (let x1 : Cuff := if x.txData.get 0 0 % 32 = 13 ∧ bits (x.txData.get 0 0) 15 12 = 0 then
        { x with txId := x.txId.put 0 (bits v 6 5) 0, rxId := x.rxId.put 0 (bits v 6 5) 0 } else x
       { x1 with txGo := v % 512, txRes := 1, txWait := false, retries := if bit v 7 then 3 else 2 }) := by
  unfold txStarted
  dsimp only
  split
  · rfl
  · rfl

theorem txStarted_rp (x : Cuff) (v : Nat) : (txStarted x v).rp = x.rp := by
  rw [txStarted_eq]
  dsimp only
  split
  · rfl
  · rfl

theorem partnerRp_txStarted (x : Cuff) (v : Nat) : partnerRp (txStarted x v) = partnerRp x := by
  rw [txStarted_eq]
  dsimp only
  split
  · rfl
  · rfl

theorem Chip.txGo_of_refused {n : Nat} (h : (s.cuff n).txRes = 1 ∨ bits v 4 0 < 2 ∨ 30 < bits v 4 0 ∨ bits v 6 5 = 3) :
    s.txGo n v = (false, s) := if_pos h

theorem Chip.txGo_of_free {n : Nat} (hfree : (s.cuff n).txRes ≠ 1) (hlo : 2 ≤ bits v 4 0) (hhi : bits v 4 0 ≤ 30) (hsop : bits v 6 5 ≠ 3) :
    s.txGo n v =
      if (bit v 8 && !bit v 7) && (txStarted (s.cuff n) v).rp then
        (true, (s.setCuff n { txStarted (s.cuff n) v with txWait := true, txAt := s.fNow, ams := true, adv := 1 }).fuseSettle)
      else if (bit v 8 && !bit v 7) && partnerRp (txStarted (s.cuff n) v) != 3 then (true, s.setCuff n { txStarted (s.cuff n) v with txRes := 6 })
      else (true, s.setCuff n (txStarted (s.cuff n) v)) := by
  have hno : ¬((s.cuff n).txRes = 1 ∨ bits v 4 0 < 2 ∨ 30 < bits v 4 0 ∨ bits v 6 5 = 3) :=
    not_or_intro hfree (not_or_intro (Nat.not_lt.2 hlo) (not_or_intro (Nat.not_lt.2 hhi) hsop))
  exact if_neg hno

/-! CONTRACT (R362) -/

theorem div_mod_of_mod_pow {v l k m : Nat} (h : l + m ≤ k) : v % 2 ^ k / 2 ^ l % 2 ^ m = v / 2 ^ l % 2 ^ m := by
  obtain ⟨d, rfl⟩ := Nat.exists_eq_add_of_le h
  rw [Nat.add_assoc, Nat.pow_add 2 l, Nat.mod_mul_right_div_self, Nat.mod_mod_of_dvd _ (Nat.pow_dvd_pow 2 (Nat.le_add_right m d))]

theorem bits_mod_pow {v h l k : Nat} (hk : l + (h + 1 - l) ≤ k) : bits (v % 2 ^ k) h l = bits v h l := div_mod_of_mod_pow hk

theorem bit_mod_pow {v i k : Nat} (hk : i + 1 ≤ k) : bit (v % 2 ^ k) i = bit v i :=
  congrArg (· == 1) (div_mod_of_mod_pow (m := 1) hk)

theorem Chip.contractPort_of_end {n : Nat} (h : bit v 23 = false) : s.contractPort n v = (true, s.contractEnd n) :=
  if_pos (by rw [bit_mod_pow (by decide)]; exact bnot h)

/-- May CONTRACT hold this value: the voltage of a fixed contract or of a source's PPS, and for more than 3 A from this source a 5 A cable? -/
def Chip.contractFits (s : Chip) (n v : Nat) : Prop :=
  (bit v 22 = true → 300 < bits v 20 11 → s.lvB (Reg.CUFF_STAT_CABLE_5A n) = true) ∧
  (bit v 21 ≠ true → bits v 10 0 = 250 ∨ bits v 10 0 = 450 ∨ bits v 10 0 = 750 ∨ bits v 10 0 = 1000) ∧
  (bit v 21 = true → 165 ≤ bits v 10 0 ∧ bits v 10 0 ≤ 1050 ∧ bit v 22 = true)

theorem Chip.contractPort_eq {n : Nat} (h : bit v 23 = true) :
    s.contractPort n v =
      if (bit v 22 && decide (300 < bits v 20 11) && !s.lvB (Reg.CUFF_STAT_CABLE_5A n)) ||
        (!bit v 21 && bits v 10 0 != 250 && bits v 10 0 != 450 && bits v 10 0 != 750 && bits v 10 0 != 1000) ||
        (bit v 21 && (decide (bits v 10 0 < 165) || decide (1050 < bits v 10 0) || !bit v 22)) then (false, s)
      else (true, ((s.setLv (Reg.CUFF_CONTRACT n) (v % 2 ^ 24)).setLv (Reg.CUFF_STAT_CONTRACT n) 1).fuseSettle) := by
  unfold Chip.contractPort
  dsimp only
  rw [bit_mod_pow (by decide), bit_mod_pow (by decide), bit_mod_pow (by decide), bits_mod_pow (by decide), bits_mod_pow (by decide), h]
  exact if_neg (by decide)

theorem Chip.contractBad_iff {n : Nat} :
    ((bit v 22 && decide (300 < bits v 20 11) && !s.lvB (Reg.CUFF_STAT_CABLE_5A n)) ||
        (!bit v 21 && bits v 10 0 != 250 && bits v 10 0 != 450 && bits v 10 0 != 750 && bits v 10 0 != 1000) ||
        (bit v 21 && (decide (bits v 10 0 < 165) || decide (1050 < bits v 10 0) || !bit v 22))) = true ↔ ¬s.contractFits n v := by
  unfold Chip.contractFits
  cases bit v 22 <;> cases bit v 21 <;> cases s.lvB (Reg.CUFF_STAT_CABLE_5A n) <;> simp <;> omega

theorem Chip.contractPort_of_fits {n : Nat} (h : bit v 23 = true) (hfits : s.contractFits n v) :
    s.contractPort n v = (true, ((s.setLv (Reg.CUFF_CONTRACT n) (v % 2 ^ 24)).setLv (Reg.CUFF_STAT_CONTRACT n) 1).fuseSettle) :=
  (Chip.contractPort_eq h).trans (if_neg fun hbad => Chip.contractBad_iff.1 hbad hfits)

theorem Chip.contractPort_of_unfit {n : Nat} (h : bit v 23 = true) (hfits : ¬s.contractFits n v) : s.contractPort n v = (false, s) :=
  (Chip.contractPort_eq h).trans (if_pos (Chip.contractBad_iff.2 hfits))

/-! CMD (Table CUFF-5) -/

theorem Chip.cuffCmd_of_hardReset {n code : Nat} (hbusy : s.hrBusy n = true) (h18 : code ≠ 18) (h15 : code ≠ 15) :
    s.cuffCmd n code = (false, s) := if_pos ⟨hbusy, h18, h15⟩

theorem Chip.cuffCmd_altOff {n : Nat} : s.cuffCmd n 15 = (true, s.altOff n) := if_neg fun h => h.2.2 rfl

theorem Chip.cuffCmd_errorRecovery {n : Nat} : s.cuffCmd n 18 = (true, s.tcEnter n 1) := if_neg fun h => h.2.1 rfl

theorem Chip.vconnLate_iff {n : Nat} :
    s.vconnLate n = true ↔ (s.cuff n).vconnFault ≠ 0 ∧ s.fNow + 1 < (s.cuff n).vconnFault + 1000000000 := by
  unfold Chip.vconnLate
  rw [Bool.and_eq_true, bne_iff_ne, decide_eq_true_iff]

section
variable {n : Nat} (hcalm : s.hrBusy n = false)
include hcalm

theorem Chip.not_hrBusy_and {p : Prop} : ¬(s.hrBusy n = true ∧ p) := fun h => ne_true_of_eq_false hcalm h.1

theorem Chip.cuffCmd_hardReset : s.cuffCmd n 1 = if s.attached n then (true, s.hrSend n) else (false, s) := if_neg (Chip.not_hrBusy_and hcalm)

theorem Chip.cuffCmd_cableReset :
    s.cuffCmd n 2 = if s.lvB (Reg.CUFF_STAT_DATA n) && s.lvB (Reg.CUFF_STAT_VCONN n) then (true, s) else (false, s) :=
  if_neg (Chip.not_hrBusy_and hcalm)

theorem Chip.cuffCmd_srcOn :
    s.cuffCmd n 3 = if !(s.cuff n).rp ∨ !(s.tc n == 7 || s.lvB (Reg.CUFF_STAT_SWAP n)) ∨ !s.portPow n ∨
        s.lv (Reg.CUFF_VBUS_CODE n) = 0 ∨ s.vbusLive n then (false, s)
      else (true, (s.setCuff n { s.cuff n with srcOn := true }).fuseSettle) := if_neg (Chip.not_hrBusy_and hcalm)

theorem Chip.cuffCmd_srcOff : s.cuffCmd n 4 = (true, s.srcOff n) := if_neg (Chip.not_hrBusy_and hcalm)

theorem Chip.cuffCmd_vconnOn :
    s.cuffCmd n 5 = if !s.attached n ∨ s.vconnLate n then (false, s) else (true, s.setLv (Reg.CUFF_STAT_VCONN n) 1) :=
  if_neg (Chip.not_hrBusy_and hcalm)

theorem Chip.cuffCmd_vconnOff : s.cuffCmd n 6 = (true, s.setLv (Reg.CUFF_STAT_VCONN n) 0) := if_neg (Chip.not_hrBusy_and hcalm)

theorem Chip.cuffCmd_roleRp :
    s.cuffCmd n 7 = if !s.lvB (Reg.CUFF_STAT_SWAP n) ∨ s.fuseClosed n then (false, s) else (true, s.setCuff n { s.cuff n with rp := true }) :=
  if_neg (Chip.not_hrBusy_and hcalm)

theorem Chip.cuffCmd_roleRd :
    s.cuffCmd n 8 = if !s.lvB (Reg.CUFF_STAT_SWAP n) ∨ s.fuseClosed n ∨ (s.vbusLive n ∧ !(s.cuff n).frsFired) then (false, s)
      else (true, s.setCuff n { s.cuff n with rp := false }) :=
  if_neg (Chip.not_hrBusy_and hcalm)

theorem Chip.cuffCmd_dataDfp :
    s.cuffCmd n 9 = if s.attached n then (true, (s.setLv (Reg.CUFF_STAT_DATA n) 1).cuffPair n) else (false, s) :=
  if_neg (Chip.not_hrBusy_and hcalm)

theorem Chip.cuffCmd_dataUfp :
    s.cuffCmd n 10 = if s.attached n then (true, (s.setLv (Reg.CUFF_STAT_DATA n) 0).cuffPair n) else (false, s) :=
  if_neg (Chip.not_hrBusy_and hcalm)

theorem Chip.cuffCmd_swapBegin :
    s.cuffCmd n 11 = if !s.attached n ∨ s.lvB (Reg.CUFF_STAT_SWAP n) then (false, s)
      else (true, (s.setLv (Reg.CUFF_STAT_SWAP n) 1).setCuff n { s.cuff n with swapAt := s.fNow }) :=
  if_neg (Chip.not_hrBusy_and hcalm)

theorem Chip.cuffCmd_swapEnd :
    s.cuffCmd n 12 = if s.lvB (Reg.CUFF_STAT_SWAP n) then (true, (s.windowClose n).cuffPair n) else (false, s) :=
  if_neg (Chip.not_hrBusy_and hcalm)

theorem Chip.cuffCmd_amsEnd :
    s.cuffCmd n 13 = if (s.cuff n).rp then (true, (s.setCuff n { s.cuff n with adv := 2, ams := false }).fuseSettle) else (false, s) :=
  if_neg (Chip.not_hrBusy_and hcalm)

theorem Chip.cuffCmd_altOn_of_port {p : Nat} (hp : altPort n = some p) :
    s.cuffCmd n 14 = if !s.flag (Reg.LINK_PHY_MEDIA p) ∨ !s.lvB (Reg.CUFF_STAT_CONTRACT n) ∨ s.lvB (Reg.CUFF_STAT_ALT n) then (false, s)
      else (true, (s.setLv (Reg.CUFF_STAT_ALT n) 1).put (Reg.LINK_STAT_ALT p) 1) := by
  refine (if_neg (Chip.not_hrBusy_and hcalm)).trans ?_
  rw [hp]

theorem Chip.cuffCmd_altOn_of_none (hp : altPort n = none) : s.cuffCmd n 14 = (false, s) := by
  refine (if_neg (Chip.not_hrBusy_and hcalm)).trans ?_
  rw [hp]

theorem Chip.cuffCmd_frsArm :
    s.cuffCmd n 16 = if s.tc n ≠ 7 ∨ !(s.lvB (Reg.CUFF_STAT_CONTRACT n) && bit (s.lv (Reg.CUFF_CONTRACT n)) 22) ∨
        s.lvB (Reg.CUFF_STAT_SWAP n) then (false, s)
      else (true, s.setLv (Reg.CUFF_STAT_FRS_ARMED n) 1) :=
  if_neg (Chip.not_hrBusy_and hcalm)

theorem Chip.cuffCmd_frsDisarm : s.cuffCmd n 17 = (true, s.setLv (Reg.CUFF_STAT_FRS_ARMED n) 0) := if_neg (Chip.not_hrBusy_and hcalm)

end

end

/-! The commands -/

section
variable {s : State} {e : Fin 32} {c : Fin 5} {v : Nat} {t : Chip} {i : Instr} {off : Nat}

/-- The engine runs, holds the port for itself, and no test has the Cuff. -/
def cuffReached (s : Chip) (e : Fin 32) (n off : Nat) : Prop :=
  (s.coreUp = true ∧ s.engState e.val = 1) ∧ s.claim e.val (cuffPort n off) = 2 ∧ s.occCuff n = false

/-- The Cuff runs firmware policy, is enabled, and its flask is ACTIVE. -/
def cuffFirm (s : Chip) (n : Nat) : Prop :=
  s.firmware n = true ∧ s.flag (Reg.CUFF_STAT_EN n) = true ∧ s.active (32 + n) = true

/-- A command that is a write of this port of the Cuff by the engine. -/
def WritesCuffPort (i : Instr) (e : Fin 32) (c : Fin 5) (off v : Nat) : Prop :=
  ∀ s : State, exec i s = s.run fun d => d.portDoBy e (cuffPort c.val off) v

variable (hi : WritesCuffPort i e c off v)
include hi

theorem gives_cuffPort_of_idle (h : ¬(s.chip.coreUp = true ∧ s.chip.engState e.val = 1)) : Gives i s s.chip :=
  gives_of_run (f := fun d => d.portDoBy e (cuffPort c.val off) v) (hi s) (Chip.portDoBy_of_idle h)

theorem gives_cuffPort_of_unclaimed (hup : s.chip.coreUp = true ∧ s.chip.engState e.val = 1)
    (h : s.chip.claim e.val (cuffPort c.val off) ≠ 2) : Gives i s (s.chip.trap e.val 3 (some (cuffPort c.val off))) :=
  gives_of_run (f := fun d => d.portDoBy e (cuffPort c.val off) v) (hi s) (Chip.portDoBy_of_unclaimed hup h)

variable (ho : off ∈ cuffWritten)
include ho

theorem gives_cuffPort_of_tested (hup : s.chip.coreUp = true ∧ s.chip.engState e.val = 1)
    (h : s.chip.claim e.val (cuffPort c.val off) = 2) (hocc : s.chip.occCuff c.val = true) :
    Gives i s (s.chip.respond (.engine e) (cuffPort c.val off) .busy) :=
  gives_of_run (f := fun d => d.portDoBy e (cuffPort c.val off) v) (hi s) (Chip.portDoBy_of_tested hup ho h hocc)

variable (hreached : cuffReached s.chip e c.val off)
include hreached

theorem gives_cuffPort_of_accepted (hdo : s.chip.cuffPortWrite c.val off v = (true, t)) :
    Gives i s (t.respond (.engine e) (cuffPort c.val off) .done) :=
  gives_of_run (f := fun d => d.portDoBy e (cuffPort c.val off) v) (hi s)
    (Chip.portDoBy_of_accepted hreached.1 ho hreached.2.1 hreached.2.2 hdo)

theorem gives_cuffPort_of_rejected (hdo : s.chip.cuffPortWrite c.val off v = (false, s.chip)) :
    Gives i s ((s.chip.drew.reject e.val 11 c.val (s.chip.free % 65536)).respond (.engine e) (cuffPort c.val off) .reject) :=
  gives_of_run (f := fun d => d.portDoBy e (cuffPort c.val off) v) (hi s)
    (Chip.portDoBy_of_rejected hreached.1 ho hreached.2.1 hreached.2.2 hdo)

end

theorem cmd_mem_cuffWritten : 0x30 ∈ cuffWritten := by decide

/-- The row's command writes its port; of the commands of CMD, ALT_OFF and ERROR_RECOVERY alone have the codes 15 and 18. -/
def WritesRow (e : Fin 32) (k : Fin 5) (i : Instr × Nat) : Prop :=
  i.2 ∈ cuffWritten ∧ ∃ w, WritesCuffPort i.1 e k i.2 w ∧
    (i.2 = 0x30 → i.1 ≠ .cuffAltOff e k → i.1 ≠ .cuffErrorRecovery e k → w ≠ 18 ∧ w ≠ 15)

section
variable {e : Fin 32} {k : Fin 5} {i : Instr} {off w : Nat}

theorem writesRow_cmd (hw : WritesCuffPort i e k 0x30 w) (h18 : w ≠ 18) (h15 : w ≠ 15) : WritesRow e k (i, 0x30) :=
  ⟨cmd_mem_cuffWritten, w, hw, fun _ _ _ => ⟨h18, h15⟩⟩

theorem writesRow_other (hw : WritesCuffPort i e k off w) (ho : off ∈ cuffWritten) (hne : off ≠ 0x30) : WritesRow e k (i, off) :=
  ⟨ho, w, hw, fun h => absurd h hne⟩

end

theorem cuffRows_write (e : Fin 32) (k : Fin 5) (v : BitVec 32) :
    ∀ i ∈ ([(.rxStatWrite e k v, 0x18), (.txGo e k v, 0x28), (.cuffHardReset e k, 0x30), (.cuffCableReset e k, 0x30), (.cuffSrcOn e k, 0x30),
        (.cuffSrcOff e k, 0x30), (.cuffVconnOn e k, 0x30), (.cuffVconnOff e k, 0x30), (.cuffRoleRp e k, 0x30), (.cuffRoleRd e k, 0x30),
        (.cuffDataDfp e k, 0x30), (.cuffDataUfp e k, 0x30), (.cuffSwapBegin e k, 0x30), (.cuffSwapEnd e k, 0x30), (.cuffAmsEnd e k, 0x30),
        (.cuffAltOn e k, 0x30), (.cuffAltOff e k, 0x30), (.cuffFrsArm e k, 0x30), (.cuffFrsDisarm e k, 0x30), (.cuffErrorRecovery e k, 0x30),
        (.vsetWrite e k v, 0x31), (.contractWrite e k v, 0x32), (.kick e k, 0x33), (.rpWrite e k v, 0x34)] : List (Instr × Nat)),
      WritesRow e k i := by
  have value {i : Instr} {off : Nat} (hw : WritesCuffPort i e k off v.toNat) (ho : off ∈ cuffWritten) (hne : off ≠ 0x30) :
      WritesRow e k (i, off) := writesRow_other hw ho hne
  have code {i : Instr} (w : Nat) (hw : WritesCuffPort i e k 0x30 w) (h18 : w ≠ 18) (h15 : w ≠ 15) : WritesRow e k (i, 0x30) :=
    writesRow_cmd hw h18 h15
  simp only [List.forall_mem_cons]
  exact ⟨value (fun s => rfl) (by decide) (by decide), value (fun s => rfl) (by decide) (by decide),
    code 1 (fun s => rfl) (by decide) (by decide), code 2 (fun s => rfl) (by decide) (by decide),
    code 3 (fun s => rfl) (by decide) (by decide), code 4 (fun s => rfl) (by decide) (by decide),
    code 5 (fun s => rfl) (by decide) (by decide), code 6 (fun s => rfl) (by decide) (by decide),
    code 7 (fun s => rfl) (by decide) (by decide), code 8 (fun s => rfl) (by decide) (by decide),
    code 9 (fun s => rfl) (by decide) (by decide), code 10 (fun s => rfl) (by decide) (by decide),
    code 11 (fun s => rfl) (by decide) (by decide), code 12 (fun s => rfl) (by decide) (by decide),
    code 13 (fun s => rfl) (by decide) (by decide), code 14 (fun s => rfl) (by decide) (by decide),
    ⟨cmd_mem_cuffWritten, 15, fun s => rfl, fun _ h => absurd rfl h⟩,
    code 16 (fun s => rfl) (by decide) (by decide), code 17 (fun s => rfl) (by decide) (by decide),
    ⟨cmd_mem_cuffWritten, 18, fun s => rfl, fun _ _ h => absurd rfl h⟩,
    value (fun s => rfl) (by decide) (by decide), value (fun s => rfl) (by decide) (by decide),
    writesRow_other (w := 0) (fun s => rfl) (by decide) (by decide), value (fun s => rfl) (by decide) (by decide), nofun⟩

end Sys2Proof.Machine

namespace Sys2Proof.Proofs
open Sys2Proof.Machine

/-- Settles O55: every row is a write of a port of the Cuff; a clause is one branch of `Chip.portDoBy`, of the port's write, or of the
command of Table CUFF-5. -/
theorem cuffPortCommandResults : Obligations.CuffPortCommandResults := by
  unfold Obligations.CuffPortCommandResults
  intro e k v s c n x w rows up reached firm done turned cmd calm win att txn ams k_ soft x1 sent
  have hrows : ∀ i ∈ rows, WritesRow e k i := cuffRows_write e k v
  have port {i : Instr} {off w' : Nat} {t : Chip} (hi : WritesCuffPort i e k off w') (ho : off ∈ cuffWritten) (hr : reached off)
      (h : c.cuffPortWrite n off w' = (true, t)) : done i off t := gives_cuffPort_of_accepted hi ho hr h
  have portNo {i : Instr} {off w' : Nat} (hi : WritesCuffPort i e k off w') (ho : off ∈ cuffWritten) (hr : reached off)
      (h : c.cuffPortWrite n off w' = (false, c)) : turned i off := gives_cuffPort_of_rejected hi ho hr h
  have yes {i : Instr} {code : Nat} {t : Chip} (hi : WritesCuffPort i e k 0x30 code) (h : cmd) (hdo : c.cuffCmd n code = (true, t)) :
      done i 0x30 t := port hi (by decide) h.1 ((Chip.cuffPortWrite_cmd h.2).trans hdo)
  have no {i : Instr} {code : Nat} (hi : WritesCuffPort i e k 0x30 code) (h : cmd) (hdo : c.cuffCmd n code = (false, c)) :
      turned i 0x30 := portNo hi (by decide) h.1 ((Chip.cuffPortWrite_cmd h.2).trans hdo)
  have hwin {p : Prop} (h : win) (hp : ¬p) : ¬((!c.lvB (Reg.CUFF_STAT_SWAP n)) = true ∨ p) := not_or_intro (not_bnot h) hp
  have hatt {p : Prop} (h : att) (hp : ¬p) : ¬((!c.attached n) = true ∨ p) := not_or_intro (not_bnot h) hp
  have hoff {b : Bool} (h : ¬b = true) : (!b) = true := bnot (Bool.eq_false_iff.2 h)
  refine ⟨?idle, ?unclaimed, ?tested, ?safe, ?rx, ?tx, ?txNo, ?vset, ?vsetNo, ?contractEnd, ?contract, ?kick, ?kickLate, ?rp, ?rpNo,
    ?hrBusy, ?hardReset, ?cable, ?cableNo, ?srcOn, ?srcOnNo, ?srcOff, ?vconn, ?vconnNo, ?vconnOff, ?roleRp, ?roleRd, ?roleNo, ?data,
    ?swapBegin, ?detached, ?swapTwice, ?swapEnd, ?swapEndNo, ?amsEnd, ?amsEndNo, ?altOn, ?altOnNo, ?altOff, ?frsArm, ?frsArmNo,
    ?frsDisarm, ?errorRecovery⟩
  case idle =>
    intro i hi h
    obtain ⟨-, _, hw, -⟩ := hrows i hi
    exact gives_cuffPort_of_idle hw h
  case unclaimed =>
    intro i hi hup h
    obtain ⟨-, _, hw, -⟩ := hrows i hi
    exact gives_cuffPort_of_unclaimed hw hup h
  case tested =>
    intro i hi hup h hocc
    obtain ⟨ho, _, hw, -⟩ := hrows i hi
    exact gives_cuffPort_of_tested hw ho hup h hocc
  case safe =>
    intro i hi hr h
    obtain ⟨ho, _, hw, -⟩ := hrows i hi
    exact portNo hw ho hr (Chip.cuffPortWrite_of_safe h)
  case rx => exact fun hr hf => port (fun s => rfl) (by decide) hr (Chip.cuffPortWrite_rxStat hf)
  case tx =>
    intro hr hf hfree hlo hhi hsop
    have hsent : txStarted x w = sent := txStarted_eq x w
    have hgo := (Chip.cuffPortWrite_txGo hf).trans (Chip.txGo_of_free hfree hlo hhi hsop)
    have hams (h : ams) : (bit w 8 && !bit w 7) = true := and_intro h.1 (bnot h.2)
    have hrp : (txStarted x w).rp = x.rp := txStarted_rp x w
    have hpartner : partnerRp (txStarted x w) = partnerRp x := partnerRp_txStarted x w
    refine ⟨fun ha h => ?_, fun ha h h3 => ?_, fun h => ?_⟩
    · exact port (fun s => rfl) (by decide) hr (hgo.trans ((if_pos (and_intro (hams ha) (hrp.trans h))).trans (by rw [← hsent])))
    · refine port (fun s => rfl) (by decide) hr (hgo.trans ((if_neg (not_and_right _ (ne_true_of_eq_false (hrp.trans h)))).trans ?_))
      exact (if_pos (and_intro (hams ha) (bne_iff_ne.2 (hpartner ▸ h3)))).trans (by rw [← hsent])
    · have hplain : ¬((bit w 8 && !bit w 7) && (txStarted x w).rp) = true ∧ ¬((bit w 8 && !bit w 7) && partnerRp (txStarted x w) != 3) = true := by
        rcases h with h | ⟨hsink, h3⟩
        · have hno : ¬(bit w 8 && !bit w 7) = true := fun hb =>
            h ⟨(Bool.and_eq_true_iff.1 hb).1, by simpa using (Bool.and_eq_true_iff.1 hb).2⟩
          exact ⟨not_and_left hno _, not_and_left hno _⟩
        · exact ⟨not_and_right _ (ne_true_of_eq_false (hrp.trans hsink)), not_and_right _ fun h => bne_iff_ne.1 h (hpartner.trans h3)⟩
      exact port (fun s => rfl) (by decide) hr (hgo.trans ((if_neg hplain.1).trans ((if_neg hplain.2).trans (by rw [← hsent]))))
  case txNo => exact fun hr hf h => portNo (fun s => rfl) (by decide) hr ((Chip.cuffPortWrite_txGo hf).trans (Chip.txGo_of_refused h))
  case vset => exact fun hr hf hv hsrc => port (fun s => rfl) (by decide) hr ((Chip.cuffPortWrite_vset hf).trans (if_pos ⟨hv, hsrc⟩))
  case vsetNo =>
    intro hr hf h
    refine portNo (fun s => rfl) (by decide) hr ((Chip.cuffPortWrite_vset hf).trans (if_neg ?_))
    rintro ⟨hv, hsrc⟩
    rcases h with ⟨h0, h⟩ | h
    · exact hv.elim h0 fun hv => h.elim (Nat.not_lt.2 hv.1) (Nat.not_lt.2 hv.2)
    · exact ne_true_of_eq_false h hsrc
  case contractEnd =>
    exact fun hr hf h => port (fun s => rfl) (by decide) hr ((Chip.cuffPortWrite_contract hf).trans (Chip.contractPort_of_end h))
  case contract =>
    intro hr hf h code src pps cable volts
    constructor
    · intro hcable hvolts
      exact port (fun s => rfl) (by decide) hr
        ((Chip.cuffPortWrite_contract hf).trans (Chip.contractPort_of_fits h ⟨hcable, hvolts.1, hvolts.2⟩))
    · intro hbad
      refine portNo (fun s => rfl) (by decide) hr ((Chip.cuffPortWrite_contract hf).trans (Chip.contractPort_of_unfit h ?_))
      exact fun hfits => hbad.elim (fun h => h hfits.1) (fun h => h hfits.2)
  case kick =>
    intro hr hf h
    exact port (fun s => rfl) (by decide) hr
      ((Chip.cuffPortWrite_kick hf).trans (congrArg (Prod.mk true) (if_neg (ne_true_of_eq_false h))))
  case kickLate =>
    exact fun hr hf h => port (fun s => rfl) (by decide) hr ((Chip.cuffPortWrite_kick hf).trans (congrArg (Prod.mk true) (if_pos h)))
  case rp => exact fun hr hf h => port (fun s => rfl) (by decide) hr ((Chip.cuffPortWrite_rp hf).trans (if_pos h))
  case rpNo => exact fun hr hf h => portNo (fun s => rfl) (by decide) hr ((Chip.cuffPortWrite_rp hf).trans (if_neg (Nat.not_lt.2 h)))
  case hrBusy =>
    rintro ⟨i, off⟩ hi hcmd hnotOff hnotRecovery h hbusy
    obtain ⟨-, code, hw, hcode⟩ := hrows _ hi
    obtain ⟨h18, h15⟩ := hcode hcmd hnotOff hnotRecovery
    cases hcmd
    exact no hw h (Chip.cuffCmd_of_hardReset hbusy h18 h15)
  case hardReset => exact fun h ha => yes (fun s => rfl) h.1 ((Chip.cuffCmd_hardReset h.2).trans (if_pos ha))
  case cable => exact fun h hd hv => yes (fun s => rfl) h.1 ((Chip.cuffCmd_cableReset h.2).trans (if_pos (and_intro hd hv)))
  case cableNo =>
    intro h hno
    refine no (fun s => rfl) h.1 ((Chip.cuffCmd_cableReset h.2).trans (if_neg ?_))
    exact hno.elim (fun h => not_and_left (ne_true_of_eq_false h) _) (fun h => not_and_right _ (ne_true_of_eq_false h))
  case srcOn =>
    intro h hrp hstate hpow hcode hlive
    refine yes (fun s => rfl) h.1 ((Chip.cuffCmd_srcOn h.2).trans (if_neg ?_))
    refine not_or_intro (not_bnot hrp) (not_or_intro (not_bnot ?_) (not_or_intro (not_bnot hpow)
      (not_or_intro hcode (ne_true_of_eq_false hlive))))
    exact hstate.elim (fun h => or_inl (beq_iff_eq.2 h) _) (fun h => or_inr _ h)
  case srcOnNo =>
    intro h hno
    refine no (fun s => rfl) h.1 ((Chip.cuffCmd_srcOn h.2).trans (if_pos ?_))
    rcases hno with hrp | ⟨htc, hw⟩ | hpow | hcode | hlive
    · exact .inl (bnot hrp)
    · exact .inr (.inl (hoff (not_or (fun h => htc (eq_of_beq h)) hw)))
    · exact .inr (.inr (.inl (bnot hpow)))
    · exact .inr (.inr (.inr (.inl hcode)))
    · exact .inr (.inr (.inr (.inr hlive)))
  case srcOff => exact fun h => yes (fun s => rfl) h.1 (Chip.cuffCmd_srcOff h.2)
  case vconn =>
    intro h ha hfault
    refine yes (fun s => rfl) h.1 ((Chip.cuffCmd_vconnOn h.2).trans (if_neg (hatt ha fun hlate => ?_)))
    obtain ⟨h0, hlt⟩ := Chip.vconnLate_iff.1 hlate
    exact hfault.elim h0 (Nat.not_le.2 hlt)
  case vconnNo =>
    intro h hno
    refine no (fun s => rfl) h.1 ((Chip.cuffCmd_vconnOn h.2).trans (if_pos ?_))
    exact hno.imp hoff Chip.vconnLate_iff.2
  case vconnOff => exact fun h => yes (fun s => rfl) h.1 (Chip.cuffCmd_vconnOff h.2)
  case roleRp =>
    exact fun h hw hclosed => yes (fun s => rfl) h.1 ((Chip.cuffCmd_roleRp h.2).trans (if_neg (hwin hw (ne_true_of_eq_false hclosed))))
  case roleRd =>
    intro h hw hclosed hlive
    refine yes (fun s => rfl) h.1 ((Chip.cuffCmd_roleRd h.2).trans (if_neg (hwin hw (not_or_intro (ne_true_of_eq_false hclosed) ?_))))
    exact fun hno => hlive.elim (fun h => ne_true_of_eq_false h hno.1) (fun h => not_bnot h hno.2)
  case roleNo =>
    intro h hno
    exact ⟨no (fun s => rfl) h.1 ((Chip.cuffCmd_roleRp h.2).trans (if_pos (hno.imp hoff id))),
      no (fun s => rfl) h.1 ((Chip.cuffCmd_roleRd h.2).trans (if_pos (hno.imp hoff .inl)))⟩
  case data =>
    exact fun h ha => ⟨yes (fun s => rfl) h.1 ((Chip.cuffCmd_dataDfp h.2).trans (if_pos ha)),
      yes (fun s => rfl) h.1 ((Chip.cuffCmd_dataUfp h.2).trans (if_pos ha))⟩
  case swapBegin => exact fun h ha hw => yes (fun s => rfl) h.1 ((Chip.cuffCmd_swapBegin h.2).trans (if_neg (hatt ha hw)))
  case detached =>
    exact fun h ha => ⟨no (fun s => rfl) h.1 ((Chip.cuffCmd_hardReset h.2).trans (if_neg ha)),
      no (fun s => rfl) h.1 ((Chip.cuffCmd_dataDfp h.2).trans (if_neg ha)),
      no (fun s => rfl) h.1 ((Chip.cuffCmd_dataUfp h.2).trans (if_neg ha)),
      no (fun s => rfl) h.1 ((Chip.cuffCmd_swapBegin h.2).trans (if_pos (.inl (hoff ha))))⟩
  case swapTwice => exact fun h hw => no (fun s => rfl) h.1 ((Chip.cuffCmd_swapBegin h.2).trans (if_pos (.inr hw)))
  case swapEnd =>
    intro h hw
    have hclose : c.windowClose n = _ := if_neg (not_bnot hw)
    exact yes (fun s => rfl) h.1 ((Chip.cuffCmd_swapEnd h.2).trans ((if_pos hw).trans (by rw [hclose])))
  case swapEndNo => exact fun h hw => no (fun s => rfl) h.1 ((Chip.cuffCmd_swapEnd h.2).trans (if_neg hw))
  case amsEnd => exact fun h hrp => yes (fun s => rfl) h.1 ((Chip.cuffCmd_amsEnd h.2).trans (if_pos hrp))
  case amsEndNo => exact fun h hrp => no (fun s => rfl) h.1 ((Chip.cuffCmd_amsEnd h.2).trans (if_neg (ne_true_of_eq_false hrp)))
  case altOn =>
    intro p h hp hmedia hcontract halt
    refine yes (fun s => rfl) h.1 ((Chip.cuffCmd_altOn_of_port h.2 hp).trans (if_neg ?_))
    exact not_or_intro (not_bnot hmedia) (not_or_intro (not_bnot hcontract) (ne_true_of_eq_false halt))
  case altOnNo =>
    intro h hno
    rcases hp : altPort n with _ | p
    · exact no (fun s => rfl) h.1 (Chip.cuffCmd_altOn_of_none h.2 hp)
    · refine no (fun s => rfl) h.1 ((Chip.cuffCmd_altOn_of_port h.2 hp).trans (if_pos ?_))
      rcases hno with hnone | hcontract | halt
      · exact absurd (hnone.symm.trans hp) nofun
      · exact .inr (.inl (bnot hcontract))
      · exact .inr (.inr halt)
  case altOff => exact fun h => yes (fun s => rfl) h Chip.cuffCmd_altOff
  case frsArm =>
    intro h htc hcontract hsrc hw
    refine yes (fun s => rfl) h.1 ((Chip.cuffCmd_frsArm h.2).trans (if_neg ?_))
    exact not_or_intro (not_not_intro htc) (not_or_intro (not_bnot (and_intro hcontract hsrc)) hw)
  case frsArmNo =>
    intro h hno
    refine no (fun s => rfl) h.1 ((Chip.cuffCmd_frsArm h.2).trans (if_pos ?_))
    rcases hno with htc | hcontract | hsrc | hw
    · exact .inl htc
    · exact .inr (.inl (hoff (not_and_left (ne_true_of_eq_false hcontract) _)))
    · exact .inr (.inl (hoff (not_and_right _ (ne_true_of_eq_false hsrc))))
    · exact .inr (.inr hw)
  case frsDisarm => exact fun h => yes (fun s => rfl) h.1 (Chip.cuffCmd_frsDisarm h.2)
  case errorRecovery => exact fun h => yes (fun s => rfl) h Chip.cuffCmd_errorRecovery

end Sys2Proof.Proofs
end

section
/-! PROOF. What happens at a Cuff (16_cuffs_type_c_pd.md): attach moves, messages, Hard Reset, ramps, swaps, policy and faults. -/

namespace Sys2Proof.Machine

section
variable {s : Chip} {c : Nat}

/-! The pins (R352, R353) -/

theorem Chip.ccChange_of_up {a b : CcPin} (hup : s.fieldUp = true) :
    s.ccChange c a b =
      (let x : Cuff := { s.cuff c with cc1 := a, cc2 := b }
       let t := s.setCuff c x
       if t.lvB (Reg.CUFF_STAT_SWAP c) then t else
       if t.tc c = 2 then (if seesSource x.pins then t.tcEnter c 3 else t)
       else if t.tc c = 5 then (if seesSink x.pins then t.tcEnter c 6 else t)
       else if t.tc c = 6 then (if seesSink x.pins then t else t.tcEnter c (if t.tcMode c = 2 then 2 else 5))
       else t) := by
  unfold Chip.ccChange
  rw [if_neg (not_bnot hup)]
  dsimp only
  split
  · rfl
  · generalize (s.setCuff c _).tc c = k
    split
    · rfl
    · rfl
    · rfl
    · rename_i h2 h5 h6
      rw [if_neg h2, if_neg h5, if_neg h6]

/-! The timers of Table CUFF-3 -/

section
variable (hup : s.fieldUp = true)
include hup

theorem Chip.tcTimer_errorRecovery (htc : s.tc c = 1) :
    s.tcTimer c .errorRecovery =
      s.tcEnter c (s.tcFresh c) :=
  (if_neg (not_bnot hup)).trans (by rw [htc]; rfl)

theorem Chip.tcTimer_attachWaitSink_cc (htc : s.tc c = 3) :
    s.tcTimer c .ccDebounce =
      if seesSource (s.cuff c).pins then
        (if s.tcMode c == 2 && s.fwk (Reg.CUFF_TC_CFG_TRY c) == 1 then s.tcEnter c 8 else s.tcAttach c false) else s :=
  (if_neg (not_bnot hup)).trans (by rw [htc]; rfl)

theorem Chip.tcTimer_attachWaitSink_pd (htc : s.tc c = 3) :
    s.tcTimer c .pdDebounce =
      if seesSource (s.cuff c).pins then s else s.tcEnter c (if s.tcMode c == 2 then 5 else 2) :=
  (if_neg (not_bnot hup)).trans (by rw [htc]; rfl)

theorem Chip.tcTimer_attachedSink_pd (htc : s.tc c = 4) :
    s.tcTimer c .pdDebounce =
      if seesSource (s.cuff c).pins || s.lvB (Reg.CUFF_STAT_SWAP c) then s else s.tcEnter c 2 :=
  (if_neg (not_bnot hup)).trans (by rw [htc]; rfl)

theorem Chip.tcTimer_attachWaitSource_cc (htc : s.tc c = 6) :
    s.tcTimer c .ccDebounce =
      if seesSink (s.cuff c).pins then
        (if s.tcMode c == 2 && s.fwk (Reg.CUFF_TC_CFG_TRY c) == 2 then s.tcEnter c 10 else s.tcAttach c true) else s :=
  (if_neg (not_bnot hup)).trans (by rw [htc]; rfl)

theorem Chip.tcTimer_attachedSource_pd (htc : s.tc c = 7) :
    s.tcTimer c .pdDebounce =
      if seesSink (s.cuff c).pins || s.lvB (Reg.CUFF_STAT_SWAP c) then s else s.tcEnter c (s.tcUnattached c) :=
  (if_neg (not_bnot hup)).trans (by rw [htc]; rfl)

theorem Chip.tcTimer_trySource_tryCc (htc : s.tc c = 8) :
    s.tcTimer c .tryCcDebounce =
      if seesSink (s.cuff c).pins then s.tcAttach c true else s :=
  (if_neg (not_bnot hup)).trans (by rw [htc]; rfl)

theorem Chip.tcTimer_trySource_drpTry (htc : s.tc c = 8) :
    s.tcTimer c .drpTry =
      if seesSink (s.cuff c).pins then s else s.tcEnter c 9 :=
  (if_neg (not_bnot hup)).trans (by rw [htc]; rfl)

theorem Chip.tcTimer_trySource_timeout (htc : s.tc c = 8) :
    s.tcTimer c .tryTimeout =
      s.tcEnter c 9 :=
  (if_neg (not_bnot hup)).trans (by rw [htc]; rfl)

theorem Chip.tcTimer_tryWaitSink_cc (htc : s.tc c = 9) :
    s.tcTimer c .ccDebounce =
      if seesSource (s.cuff c).pins then s.tcAttach c false else s :=
  (if_neg (not_bnot hup)).trans (by rw [htc]; rfl)

theorem Chip.tcTimer_tryWaitSink_pd (htc : s.tc c = 9) :
    s.tcTimer c .pdDebounce =
      if seesSource (s.cuff c).pins then s else s.tcEnter c 2 :=
  (if_neg (not_bnot hup)).trans (by rw [htc]; rfl)

theorem Chip.tcTimer_trySink_tryCc (htc : s.tc c = 10) :
    s.tcTimer c .tryCcDebounce =
      if seesSource (s.cuff c).pins then s.tcAttach c false else s :=
  (if_neg (not_bnot hup)).trans (by rw [htc]; rfl)

theorem Chip.tcTimer_trySink_drpTry (htc : s.tc c = 10) :
    s.tcTimer c .drpTry =
      if seesSource (s.cuff c).pins then s else s.tcEnter c 11 :=
  (if_neg (not_bnot hup)).trans (by rw [htc]; rfl)

theorem Chip.tcTimer_tryWaitSource_tryCc (htc : s.tc c = 11) :
    s.tcTimer c .tryCcDebounce =
      if seesSink (s.cuff c).pins then s.tcAttach c true else s :=
  (if_neg (not_bnot hup)).trans (by rw [htc]; rfl)

theorem Chip.tcTimer_tryWaitSource_drpTry (htc : s.tc c = 11) :
    s.tcTimer c .drpTry =
      if seesSink (s.cuff c).pins then s else s.tcEnter c 2 :=
  (if_neg (not_bnot hup)).trans (by rw [htc]; rfl)

end

theorem Chip.tcTimer_of_untimed {z : TcTimer} (htc : s.tc c = 0 ∨ s.tc c = 2 ∨ s.tc c = 5) : s.tcTimer c z = s := by
  unfold Chip.tcTimer
  split
  · rfl
  · rcases htc with htc | htc | htc
    · rw [htc]; rfl
    · rw [htc]; rfl
    · rw [htc]; rfl

theorem Chip.drpToggle_of_drp (hup : s.fieldUp = true) (hmode : s.tcMode c = 2) :
    s.drpToggle c = if s.tc c = 2 then s.tcEnter c 5 else if s.tc c = 5 then s.tcEnter c 2 else s := by
  refine (if_pos (and_intro hup (beq_iff_eq.2 hmode))).trans ?_
  generalize s.tc c = k
  split
  · rfl
  · rfl
  · rename_i h2 h5
    rw [if_neg h2, if_neg h5]

theorem Chip.drpToggle_of_other (h : s.tcMode c ≠ 2 ∨ (s.tc c ≠ 2 ∧ s.tc c ≠ 5)) : s.drpToggle c = s := by
  by_cases hdrp : (s.fieldUp && s.tcMode c == 2) = true
  · obtain ⟨hup, hmode⟩ := Bool.and_eq_true_iff.1 hdrp
    rw [Chip.drpToggle_of_drp hup (eq_of_beq hmode)]
    obtain ⟨h2, h5⟩ := h.resolve_left (not_not_intro (eq_of_beq hmode))
    rw [if_neg h2, if_neg h5]
  · exact if_neg hdrp

/-! Messages (R355) -/

/-- The Cuff behind the MessageIDs that a received message starts anew: a Soft_Reset those of its SOP type. -/
def Cuff.afterSoftReset (x : Cuff) (sop : Nat) (b : List (BitVec 8)) : Cuff :=
  if isSoftReset b then { x with txId := x.txId.put 0 sop 0, rxId := x.rxId.put 0 sop 0 } else x

theorem Chip.pdReceive_of_deaf {sop : Nat} {b : List (BitVec 8)}
    (h : ¬(s.fieldUp = true ∧ s.lvB (Reg.CUFF_STAT_RX_ON c) = true ∧ s.attached c = true)) : s.pdReceive c sop b = s := by
  refine if_pos ?_
  refine Classical.byContradiction fun hno => ?_
  refine h ⟨?_, ?_, ?_⟩
  · exact Bool.of_not_eq_false fun h => hno (or_inl (or_inl (bnot h) _) _)
  · exact Bool.of_not_eq_false fun h => hno (or_inl (or_inr _ (bnot h)) _)
  · exact Bool.of_not_eq_false fun h => hno (or_inr _ (bnot h))

theorem Chip.pdReceive_of_hears {sop : Nat} {b : List (BitVec 8)}
    (h : s.fieldUp = true ∧ s.lvB (Reg.CUFF_STAT_RX_ON c) = true ∧ s.attached c = true)
    (hfree : (s.cuff c).txRes ≠ 1 ∨ (s.cuff c).txWait = false) :
    s.pdReceive c sop b =
      if 4 ≤ (s.cuff c).rx.length then s.inc (Reg.CUFF_RX_FULL_CNT c) else
      let x := (s.cuff c).afterSoftReset sop b
      if x.rxId.get 0 sop = (pdHeader b).2.2 + 1 then s else
      let t := s.setCuff c { x with rx := x.rx ++ [(sop, b.take 30)], rxId := x.rxId.put 0 sop ((pdHeader b).2.2 + 1) }
      if cable5A sop b then t.setLv (Reg.CUFF_STAT_CABLE_5A c) 1 else t := by
  have hwait : ¬((s.cuff c).txRes = 1 ∧ (s.cuff c).txWait = true) := fun hw =>
    hfree.elim (fun h => h hw.1) (fun h => ne_true_of_eq_false h hw.2)
  have hhears : ¬(!s.fieldUp || !s.lvB (Reg.CUFF_STAT_RX_ON c) || !s.attached c) = true :=
    not_or (not_or (not_bnot h.1) (not_bnot h.2.1)) (not_bnot h.2.2)
  unfold Chip.pdReceive
  rw [if_neg hhears]
  dsimp only
  rw [if_neg hwait]
  rfl

/-! A command that has no effect where its condition fails -/

theorem Chip.crcTimeout_of_sending (hup : s.fieldUp = true) (h : (s.cuff c).txRes = 1 ∧ (s.cuff c).txWait = false) :
    s.crcTimeout c =
      if 0 < (s.cuff c).retries then s.setCuff c { s.cuff c with retries := (s.cuff c).retries - 1 }
      else (s.setCuff c { nextTxId (s.cuff c) with txRes := 3 }).inc (Reg.CUFF_TX_FAIL_CNT c) :=
  if_pos (and_intro (and_intro hup (beq_iff_eq.2 h.1)) (bnot h.2))

theorem not_sending {x : Cuff} {b : Bool} (h : ¬(x.txRes = 1 ∧ x.txWait = false)) : ¬(b && x.txRes == 1 && !x.txWait) = true := by
  intro hs
  obtain ⟨hleft, hwait⟩ := Bool.and_eq_true_iff.1 hs
  exact h ⟨eq_of_beq (Bool.and_eq_true_iff.1 hleft).2, by simpa using hwait⟩

/-! Hard Reset (R358, R359) -/

theorem Chip.hrReceive_of_attached (hup : s.fieldUp = true) (h : s.attached c = true) :
    s.hrReceive c =
      ((if s.lvB (Reg.CUFF_STAT_RX_ON c) then (if s.free % 2 = 1 then s.inc (Reg.CUFF_RX_ABORT_CNT c) else s).drew else s).inc
        (Reg.CUFF_HR_RX_CNT c)).hrStart c :=
  if_neg (not_or (not_bnot hup) (not_bnot h))

/-! Ramps (R360, R363) -/

theorem Chip.vsetStep_of_ramping (hup : s.fieldUp = true) (h : (s.cuff c).ramping = true) :
    s.vsetStep c =
      (let v := s.lv (Reg.CUFF_VBUS_CODE c)
       let w := if v < (s.cuff c).target then v + 1 else if (s.cuff c).target < v then v - 1 else v
       ((s.setLv (Reg.CUFF_VBUS_CODE c) w).setCuff c { s.cuff c with ramping := w != (s.cuff c).target }).vbusShow c) :=
  if_pos (and_intro hup h)

theorem Chip.ppsStep_of_limit {mA : Nat} (hup : s.fieldUp = true) (hcontract : s.lvB (Reg.CUFF_STAT_CONTRACT c) = true)
    (hpps : bit (s.lv (Reg.CUFF_CONTRACT c)) 21 = true) (hclosed : s.fuseClosed c = true) :
    s.ppsStep c mA =
      (let v := s.lv (Reg.CUFF_VBUS_CODE c)
       let i := 10 * bits (s.lv (Reg.CUFF_CONTRACT c)) 20 11
       if i ≤ mA then s.setLv (Reg.CUFF_VBUS_CODE c) (if 165 < v then v - 1 else v)
       else if 100 * mA ≤ 95 * i ∧ v < (s.cuff c).target then s.setLv (Reg.CUFF_VBUS_CODE c) (v + 1) else s) :=
  if_pos (and_intro (and_intro (and_intro hup hcontract) hpps) hclosed)

/-! Swaps (R366) -/

/-- What FRS_TRIGGER does at one Cuff. -/
def Chip.frsAt (s : Chip) (c : Nat) : Chip :=
  if s.lvB (Reg.CUFF_STAT_FRS_ARMED c) && !s.lvB (Reg.CUFF_STAT_SWAP c) then
    let f := ((s.srcOff c).setLv (Reg.CUFF_STAT_SWAP c) 1).setLv (Reg.CUFF_STAT_FRS_ARMED c) 0
    let g := f.setCuff c { f.cuff c with frsFired := true, frsLow := true, swapAt := f.fNow }
    (g.inc (Reg.CUFF_FRS_CNT c)).fire 69 (detail c (g.tc c))
  else s

theorem Chip.frsTrigger_of_up (hup : s.fieldUp = true) : s.frsTrigger = (s.setLv Reg.CUFF_FRS_STAT 1).each (List.range 5) Chip.frsAt :=
  if_neg (not_bnot hup)

theorem Chip.each_eq_self {α : Type} {l : List α} {f : Chip → α → Chip} (h : ∀ x ∈ l, f s x = s) : s.each l f = s := by
  induction l with
  | nil => rfl
  | cons x xs ih =>
    have hx : f s x = s := h x List.mem_cons_self
    calc s.each (x :: xs) f = (f s x).each xs f := rfl
      _ = s.each xs f := by rw [hx]
      _ = s := ih fun y hy => h y (List.mem_cons_of_mem x hy)

/-! Faults (R377) -/

section
variable {code : Nat} (hup : s.fieldUp = true)
include hup

theorem Chip.cuffFault_of_report (hlo : code ≠ 0) (hhi : code ≤ 5) (hon : code = 1 → (s.cuff c).srcOn = true) :
    s.cuffFault c code =
      ((if code = 1 ∨ code = 5 then s.srcOff c
        else if code = 2 then s.setCuff c { s.cuff c with ccOpen := true }
        else if code = 4 then (s.setLv (Reg.CUFF_STAT_VCONN c) 0).setCuff c { s.cuff c with vconnFault := s.fNow + 1 }
        else s).put (Reg.CUFF_FAULT_LAST c) code).fault (32 + c) 5 code 0 := by
  have hgo : ¬((!s.fieldUp) = true ∨ code = 0 ∨ 5 < code ∨ (code = 1 ∧ (!(s.cuff c).srcOn) = true)) :=
    not_or_intro (not_bnot hup) (not_or_intro hlo (not_or_intro (Nat.not_lt.2 hhi) fun h => not_bnot (hon h.1) h.2))
  refine (if_neg hgo).trans ?_
  rcases code with _ | _ | _ | _ | _ | _ | code
  · rfl
  · rfl
  · rfl
  · rfl
  · rfl
  · rfl
  · omega

end

theorem Chip.cuffFault_of_unlisted {code : Nat} (h : code = 0 ∨ 5 < code ∨ (code = 1 ∧ (s.cuff c).srcOn = false)) : s.cuffFault c code = s :=
  if_pos (.inr (h.imp id (Or.imp id fun h => ⟨h.1, bnot h.2⟩)))

end

end Sys2Proof.Machine

namespace Sys2Proof.Proofs
open Sys2Proof.Machine

/-- Settles O56: each clause is one branch of what happens at the Cuff. -/
theorem cuffEventResults : Obligations.CuffEventResults := by
  unfold Obligations.CuffEventResults
  intro k a b m mA code r s c n x up tc win y t snk src frozen mode tri sending v con limit id_ x1 kept hears wdog faulted
  have pins {u : Chip} (h : c.ccChange n a b = u) : Gives (.ccChange k a b) s u := gives_of_run (f := fun d => d.ccChange n a b) rfl h
  have timer {z : TcTimer} {u : Chip} (h : c.tcTimer n z = u) : Gives (.tcTimerExpire k z) s u :=
    gives_of_run (f := fun d => d.tcTimer n z) rfl h
  have toggle {u : Chip} (h : c.drpToggle n = u) : Gives (.drpToggle k) s u := gives_of_run (f := fun d => d.drpToggle n) rfl h
  have removal {u : Chip} (h : c.vbusRemoval n = u) : Gives (.vbusRemoval k) s u := gives_of_run (f := fun d => d.vbusRemoval n) rfl h
  have message {u : Chip} (h : c.pdReceive n m.sop.val m.bytes = u) : Gives (.pdMessageReceive k m) s u :=
    gives_of_run (f := fun d => d.pdReceive n m.sop.val m.bytes) rfl h
  have fault {u : Chip} (h : c.cuffFault n code.toNat = u) : Gives (.cuffInstrumentFault k code) s u :=
    gives_of_run (f := fun d => d.cuffFault n code.toNat) rfl h
  have report (hup : up) (h0 : code.toNat ≠ 0) (h5 : code.toNat ≤ 5) (h1 : code.toNat ≠ 1) :=
    Chip.cuffFault_of_report (c := n) hup h0 h5 fun h => absurd h h1
  have pps {u : Chip} (h : c.ppsStep n mA = u) : Gives (.ppsLimitStep k mA) s u := gives_of_run (f := fun d => d.ppsStep n mA) rfl h
  have drp {i : Nat} : (c.tcMode n == 2 && c.fwk (Reg.CUFF_TC_CFG_TRY n) == i) = true ↔ mode = 2 ∧ tri = i := by
    rw [Bool.and_eq_true, beq_iff_eq, beq_iff_eq]
  have notDrp {i : Nat} (h : mode ≠ 2 ∨ tri ≠ i) : ¬(c.tcMode n == 2 && c.fwk (Reg.CUFF_TC_CFG_TRY n) == i) = true :=
    fun hd => h.elim (fun h => h (drp.1 hd).1) (fun h => h (drp.1 hd).2)
  refine ⟨?pins, ?pinsFrozen, ?pinsFree, ?t1, ?t3, ?t4, ?t6, ?t7, ?t8, ?t9, ?t10, ?t11, ?untimed, ?toggleSink, ?toggleSource, ?toggleNo,
    ?removal, ?removalNo, ?deaf, ?message, ?again, ?full, ?txWait, ?txWaitNo, ?retry, ?failed, ?complete, ?notSending, ?hrReceive,
    ?hrReceiveNo, ?psHr, ?psHrNo, ?recover, ?recoverNo, ?sinkHr, ?sinkHrNo, ?rampUp, ?rampDown, ?rampNo, ?pps, ?ppsNo, ?swapTimeout,
    ?swapTimeoutNo, ?frsNone, ?frs, ?frsEnd, ?frsEndNo, ?handover, ?handoverNo, ?firmware, ?firmwareNo, ?wdog, ?wdogNo, ?faultOff,
    ?faultOpen, ?faultThree, ?faultVconn, ?faultNo, ?enable, ?disable, ?down⟩
  case pins =>
    intro hup h2 h5 h6
    refine pins ((Chip.ccChange_of_up hup).trans ?_)
    dsimp only
    split
    · rfl
    · exact (if_neg h2).trans ((if_neg h5).trans (if_neg h6))
  case pinsFrozen => exact fun hup hw => pins ((Chip.ccChange_of_up hup).trans (if_pos hw))
  case pinsFree =>
    intro hup hw
    have hw : ¬t.lvB (Reg.CUFF_STAT_SWAP n) = true := ne_true_of_eq_false hw
    have go {u : Chip} (h : (if t.tc n = 2 then (if seesSource y.pins then t.tcEnter n 3 else t)
        else if t.tc n = 5 then (if seesSink y.pins then t.tcEnter n 6 else t)
        else if t.tc n = 6 then (if seesSink y.pins then t else t.tcEnter n (if t.tcMode n = 2 then 2 else 5))
        else t) = u) : Gives (.ccChange k a b) s u := pins ((Chip.ccChange_of_up hup).trans ((if_neg hw).trans h))
    have not2 {j : Nat} (h : tc = j) (hne : j ≠ 2) : t.tc n ≠ 2 := fun h2 => hne (h.symm.trans h2)
    have not5 (h : tc = 6) : t.tc n ≠ 5 := fun h5 => absurd (h.symm.trans h5) (by decide)
    refine ⟨fun h hs => ?_, fun h hs => ?_, fun h hs => ?_, fun h hs => ?_, fun h hs => ?_, fun h hs => ?_⟩
    · exact go ((if_pos h).trans (if_pos hs))
    · exact go ((if_pos h).trans (if_neg (ne_true_of_eq_false hs)))
    · exact go ((if_neg (not2 h (by decide))).trans ((if_pos h).trans (if_pos hs)))
    · exact go ((if_neg (not2 h (by decide))).trans ((if_pos h).trans (if_neg (ne_true_of_eq_false hs))))
    · exact go ((if_neg (not2 h (by decide))).trans ((if_neg (not5 h)).trans ((if_pos h).trans (if_pos hs))))
    · exact go ((if_neg (not2 h (by decide))).trans ((if_neg (not5 h)).trans ((if_pos h).trans (if_neg (ne_true_of_eq_false hs)))))
  case t1 => exact fun hup h => timer (Chip.tcTimer_errorRecovery hup h)
  case t3 =>
    intro hup h
    have hcc := Chip.tcTimer_attachWaitSink_cc hup h
    have hpd := Chip.tcTimer_attachWaitSink_pd hup h
    have hmode : (if (c.tcMode n == 2) = true then 5 else 2) = if mode = 2 then 5 else 2 := by simp only [beq_iff_eq, mode]
    refine ⟨fun hs hm ht => ?_, fun hs hno => ?_, fun hs => ?_, fun hs => ?_, fun hs => ?_⟩
    · exact timer (hcc.trans ((if_pos hs).trans (if_pos (drp.2 ⟨hm, ht⟩))))
    · exact timer (hcc.trans ((if_pos hs).trans (if_neg (notDrp hno))))
    · exact timer (hcc.trans (if_neg hs))
    · exact timer (hpd.trans ((if_neg hs).trans (congrArg (c.tcEnter n) hmode)))
    · exact timer (hpd.trans (if_pos hs))
  case t4 =>
    intro hup h
    have hpd := Chip.tcTimer_attachedSink_pd hup h
    exact ⟨fun h => timer (hpd.trans (if_pos (Bool.or_eq_true_iff.2 h))), fun hs hf => timer (hpd.trans (if_neg (not_or hs hf)))⟩
  case t6 =>
    intro hup h
    have hcc := Chip.tcTimer_attachWaitSource_cc hup h
    refine ⟨fun hs hm ht => ?_, fun hs hno => ?_, fun hs => ?_⟩
    · exact timer (hcc.trans ((if_pos hs).trans (if_pos (drp.2 ⟨hm, ht⟩))))
    · exact timer (hcc.trans ((if_pos hs).trans (if_neg (notDrp hno))))
    · exact timer (hcc.trans (if_neg hs))
  case t7 =>
    intro hup h
    have hpd := Chip.tcTimer_attachedSource_pd hup h
    exact ⟨fun h => timer (hpd.trans (if_pos (Bool.or_eq_true_iff.2 h))), fun hs hf => timer (hpd.trans (if_neg (not_or hs hf)))⟩
  case t8 =>
    exact fun hup h => ⟨fun hs => timer ((Chip.tcTimer_trySource_tryCc hup h).trans (if_pos hs)),
      fun hs => timer ((Chip.tcTimer_trySource_drpTry hup h).trans (if_neg hs)), timer (Chip.tcTimer_trySource_timeout hup h)⟩
  case t9 =>
    exact fun hup h => ⟨fun hs => timer ((Chip.tcTimer_tryWaitSink_cc hup h).trans (if_pos hs)),
      fun hs => timer ((Chip.tcTimer_tryWaitSink_pd hup h).trans (if_neg hs))⟩
  case t10 =>
    exact fun hup h => ⟨fun hs => timer ((Chip.tcTimer_trySink_tryCc hup h).trans (if_pos hs)),
      fun hs => timer ((Chip.tcTimer_trySink_drpTry hup h).trans (if_neg hs))⟩
  case t11 =>
    exact fun hup h => ⟨fun hs => timer ((Chip.tcTimer_tryWaitSource_tryCc hup h).trans (if_pos hs)),
      fun hs => timer ((Chip.tcTimer_tryWaitSource_drpTry hup h).trans (if_neg hs))⟩
  case untimed => exact fun z h => timer (Chip.tcTimer_of_untimed h)
  case toggleSink => exact fun hup hm h => toggle ((Chip.drpToggle_of_drp hup hm).trans (if_pos h))
  case toggleSource =>
    intro hup hm h
    have h2 : c.tc n ≠ 2 := fun h2 => absurd (h.symm.trans h2) (by decide)
    exact toggle ((Chip.drpToggle_of_drp hup hm).trans ((if_neg h2).trans (if_pos h)))
  case toggleNo => exact fun h => toggle (Chip.drpToggle_of_other h)
  case removal =>
    intro hup h hw hhr
    refine removal (if_pos (and_intro (and_intro (and_intro hup (beq_iff_eq.2 h)) (bnot hw)) (bnot (Bool.eq_false_iff.2 ?_))))
    exact not_and_left (fun h => hhr (eq_of_beq h)) _
  case removalNo =>
    intro h
    refine removal (if_neg ?_)
    rcases h with h | h | ⟨h3, hbusy⟩
    · exact not_and_left (not_and_left (not_and_right _ fun h4 => h (eq_of_beq h4)) _) _
    · exact not_and_left (not_and_right _ (not_bnot h)) _
    · exact not_and_right _ (not_bnot (and_intro (beq_iff_eq.2 h3) hbusy))
  case deaf => exact fun h => message (Chip.pdReceive_of_deaf h)
  case message =>
    intro h hfree hlen hid
    have hgo := (Chip.pdReceive_of_hears (sop := m.sop.val) (b := m.bytes) h hfree).trans ((if_neg (Nat.not_le.2 hlen)).trans (if_neg hid))
    exact ⟨fun hcable => message (hgo.trans (if_neg (ne_true_of_eq_false hcable))), fun hcable => message (hgo.trans (if_pos hcable))⟩
  case again =>
    exact fun h hfree hlen hid => message ((Chip.pdReceive_of_hears h hfree).trans ((if_neg (Nat.not_le.2 hlen)).trans (if_pos hid)))
  case full => exact fun h hfree hlen => message ((Chip.pdReceive_of_hears h hfree).trans (if_pos hlen))
  case txWait =>
    exact fun hup hres hwait => gives_of_run (f := fun d => d.sinkTxWaitEnd n) rfl
      (if_pos (and_intro (and_intro hup (beq_iff_eq.2 hres)) hwait))
  case txWaitNo =>
    intro h
    refine gives_of_run (f := fun d => d.sinkTxWaitEnd n) rfl (if_neg ?_)
    exact h.elim (fun h => not_and_left (not_and_right _ fun h1 => h (eq_of_beq h1)) _) (fun h => not_and_right _ (ne_true_of_eq_false h))
  case retry =>
    exact fun hup hs h => gives_of_run (f := fun d => d.crcTimeout n) rfl ((Chip.crcTimeout_of_sending hup hs).trans (if_pos h))
  case failed =>
    intro hup hs h
    exact gives_of_run (f := fun d => d.crcTimeout n) rfl
      ((Chip.crcTimeout_of_sending hup hs).trans (if_neg (Nat.not_lt.2 (Nat.le_of_eq h))))
  case complete =>
    exact fun hup hs => gives_of_run (f := fun d => d.txComplete n) rfl
      (if_pos (and_intro (and_intro hup (beq_iff_eq.2 hs.1)) (bnot hs.2)))
  case notSending =>
    exact fun h => ⟨gives_of_run (f := fun d => d.crcTimeout n) rfl (if_neg (not_sending h)),
      gives_of_run (f := fun d => d.txComplete n) rfl (if_neg (not_sending h))⟩
  case hrReceive =>
    intro hup hatt
    have hgo : c.hrReceive n = _ := Chip.hrReceive_of_attached hup hatt
    constructor
    · intro hrx
      rw [if_neg (ne_true_of_eq_false hrx)] at hgo
      exact gives_of_run (f := fun d => d.hrReceive n) rfl hgo
    · intro hrx
      rw [if_pos hrx] at hgo
      exact gives_of_run (f := fun d => d.hrReceive n) rfl hgo
  case hrReceiveNo => exact fun h => gives_of_run (f := fun d => d.hrReceive n) rfl (if_pos (or_inr _ (bnot h)))
  case psHr => exact fun hup h => gives_of_run (f := fun d => d.psHrExpire n) rfl (if_pos (and_intro hup (beq_iff_eq.2 h)))
  case psHrNo =>
    exact fun h => gives_of_run (f := fun d => d.psHrExpire n) rfl (if_neg (not_and_right _ fun h1 => h (eq_of_beq h1)))
  case recover =>
    intro hup h u
    have hgo : c.srcRecover n = _ := if_pos (and_intro hup (beq_iff_eq.2 h))
    exact ⟨fun hp => gives_of_run (f := fun d => d.srcRecover n) rfl (hgo.trans (if_pos hp)),
      fun hp => gives_of_run (f := fun d => d.srcRecover n) rfl (hgo.trans (if_neg hp))⟩
  case recoverNo =>
    exact fun h => gives_of_run (f := fun d => d.srcRecover n) rfl (if_neg (not_and_right _ fun h2 => h (eq_of_beq h2)))
  case sinkHr => exact fun hup h => gives_of_run (f := fun d => d.sinkHrExpire n) rfl (if_pos (and_intro hup (beq_iff_eq.2 h)))
  case sinkHrNo =>
    exact fun h => gives_of_run (f := fun d => d.sinkHrExpire n) rfl (if_neg (not_and_right _ fun h3 => h (eq_of_beq h3)))
  case rampUp =>
    intro hup hr hlt
    have hgo : c.vsetStep n = _ := Chip.vsetStep_of_ramping hup hr
    dsimp only at hgo
    rw [if_pos hlt] at hgo
    exact gives_of_run (f := fun d => d.vsetStep n) rfl hgo
  case rampDown =>
    intro hup hr hlt
    have hgo : c.vsetStep n = _ := Chip.vsetStep_of_ramping hup hr
    dsimp only at hgo
    rw [if_neg (Nat.lt_asymm hlt), if_pos hlt] at hgo
    exact gives_of_run (f := fun d => d.vsetStep n) rfl hgo
  case rampNo =>
    exact fun h => gives_of_run (f := fun d => d.vsetStep n) rfl (if_neg (not_and_right _ (ne_true_of_eq_false h)))
  case pps =>
    intro hup hcontract hbit hclosed
    have hgo := Chip.ppsStep_of_limit (mA := mA) hup hcontract hbit hclosed
    refine ⟨fun h => ?_, fun h hlow ht => ?_, fun h hno => ?_⟩
    · exact pps (hgo.trans (if_pos h))
    · exact pps (hgo.trans ((if_neg (Nat.not_le.2 h)).trans (if_pos ⟨hlow, ht⟩)))
    · refine pps (hgo.trans ((if_neg (Nat.not_le.2 h)).trans (if_neg fun hb => ?_)))
      exact hno.elim (Nat.not_lt.2 hb.1) (Nat.not_le.2 hb.2)
  case ppsNo =>
    intro h
    refine pps (if_neg ?_)
    rcases h with h | h | h
    · exact not_and_left (not_and_left (not_and_right _ (ne_true_of_eq_false h)) _) _
    · exact not_and_left (not_and_right _ (ne_true_of_eq_false h)) _
    · exact not_and_right _ (ne_true_of_eq_false h)
  case swapTimeout => exact fun hup hw => gives_of_run (f := fun d => d.swapTimeout n) rfl (if_pos (and_intro hup hw))
  case swapTimeoutNo =>
    exact fun h => gives_of_run (f := fun d => d.swapTimeout n) rfl (if_neg (not_and_right _ (ne_true_of_eq_false h)))
  case frsNone =>
    intro hup hnone
    refine gives_of_run (f := fun d => d.frsTrigger) rfl ((Chip.frsTrigger_of_up hup).trans (Chip.each_eq_self fun i hi => ?_))
    exact if_neg (not_and_left (ne_true_of_eq_false (hnone i (List.mem_range.1 hi))) _)
  case frs => exact fun hup => gives_of_run (f := fun d => d.frsTrigger) rfl (Chip.frsTrigger_of_up hup)
  case frsEnd => exact fun hup h => gives_of_run (f := fun d => d.frsSignalEnd n) rfl (if_pos (and_intro hup h))
  case frsEndNo =>
    exact fun h => gives_of_run (f := fun d => d.frsSignalEnd n) rfl (if_neg (not_and_right _ (ne_true_of_eq_false h)))
  case handover =>
    exact fun hup hp hne => gives_of_run (f := fun d => d.policyHandover n) rfl
      (if_pos (and_intro (and_intro hup (beq_iff_eq.2 hp)) (bne_iff_ne.2 hne)))
  case handoverNo =>
    intro h
    refine gives_of_run (f := fun d => d.policyHandover n) rfl (if_neg ?_)
    exact h.elim (fun h => not_and_left (not_and_right _ fun h1 => h (eq_of_beq h1)) _) (fun h => not_and_right _ fun h1 => bne_iff_ne.1 h1 h)
  case firmware =>
    exact fun hup hne hp => gives_of_run (f := fun d => d.policyToFirmware n) rfl
      (if_pos (and_intro (and_intro hup (bne_iff_ne.2 hne)) (beq_iff_eq.2 hp)))
  case firmwareNo =>
    intro h
    refine gives_of_run (f := fun d => d.policyToFirmware n) rfl (if_neg ?_)
    exact h.elim (fun h => not_and_left (not_and_right _ fun h1 => bne_iff_ne.1 h1 h) _) (fun h => not_and_right _ fun h1 => h (eq_of_beq h1))
  case wdog => exact fun hup hp hms => gives_of_run (f := fun d => d.cuffWdog n) rfl (if_pos ⟨hup, hp, hms⟩)
  case wdogNo =>
    exact fun h => gives_of_run (f := fun d => d.cuffWdog n) rfl (if_neg fun hb => h.elim (fun h => h hb.2.1) (fun h => hb.2.2 h))
  case faultOff =>
    intro hup h
    have hcode : code.toNat ≠ 0 ∧ code.toNat ≤ 5 ∧ (code.toNat = 1 ∨ code.toNat = 5) := by
      rcases h with ⟨h, -⟩ | h
      · rw [h]; decide
      · rw [h]; decide
    obtain ⟨hlo, hhi, hoff⟩ := hcode
    have hon (h1 : code.toNat = 1) : (c.cuff n).srcOn = true := h.elim And.right fun h5 => absurd (h1.symm.trans h5) (by decide)
    have hgo := Chip.cuffFault_of_report (c := n) hup hlo hhi hon
    rw [if_pos hoff] at hgo
    exact fault hgo
  case faultOpen =>
    intro hup h
    have hgo := report hup (by rw [h]; decide) (by rw [h]; decide) (by rw [h]; decide)
    rw [if_neg (by rw [h]; decide), if_pos h] at hgo
    exact fault hgo
  case faultThree =>
    intro hup h
    have hgo := report hup (by rw [h]; decide) (by rw [h]; decide) (by rw [h]; decide)
    rw [if_neg (by rw [h]; decide), if_neg (by rw [h]; decide), if_neg (by rw [h]; decide)] at hgo
    exact fault hgo
  case faultVconn =>
    intro hup h
    have hgo := report hup (by rw [h]; decide) (by rw [h]; decide) (by rw [h]; decide)
    rw [if_neg (by rw [h]; decide), if_neg (by rw [h]; decide), if_pos h] at hgo
    exact fault hgo
  case faultNo => exact fun h => fault (Chip.cuffFault_of_unlisted h)
  case enable =>
    exact fun ht => ⟨fun ha => gives_of_takes rfl ht (if_neg (not_bnot ha)), fun ha => gives_of_takes rfl ht (if_pos (bnot ha))⟩
  case disable => exact fun ht => gives_of_takes rfl ht rfl
  case down =>
    intro hdown
    have hno : ¬c.fieldUp = true := ne_true_of_eq_false hdown
    refine ⟨pins (if_pos (bnot hdown)), fun z => timer (if_pos (bnot hdown)), toggle (if_neg (not_and_left hno _)), removal (if_neg ?_),
      message (Chip.pdReceive_of_deaf fun h => hno h.1), gives_of_run (f := fun d => d.hrReceive n) rfl (if_pos (or_inl (bnot hdown) _)),
      gives_of_run (f := fun d => d.vsetStep n) rfl (if_neg (not_and_left hno _)),
      gives_of_run (f := fun d => d.frsTrigger) rfl (if_pos (bnot hdown)), fault (if_pos (.inl (bnot hdown)))⟩
    exact not_and_left (not_and_left (not_and_left hno _) _) _

end Sys2Proof.Proofs
end

section
/-! PROOF. The switched channels (17_switching_and_fusing.md): closing under the guard, opening, trips, waits and re-closing. -/

namespace Sys2Proof.Machine

section
variable {s : Chip} {n v : Nat}

/-! Closing (R382, R390) -/

theorem Chip.fuseClose_of_below (h : v < fuseGuard n) :
    s.fuseClose n v =
      (let x := s.fuseCh n
       let a := if x.waited then s.inc (Reg.FUSE_RETRY_CNT n) else s
       let b := a.setFuse n { x with held := false, waited := false, retried := x.waited, low := false, closedAt := a.fNow }
       let d := if n = 9 then { b with pwr := { b.pwr with trStaged := true } } else b
       ((d.setLv (Reg.FUSE_STAT_STATE n) 1).setLv (Reg.FUSE_STAT_PG n) 0).fuseSettle) :=
  if_neg (Nat.not_le.2 h)

theorem Chip.fuseClose_of_trunk_fed (h : fuseGuard 9 ≤ v) (hheld : (s.fuseCh 9).held = false) :
    s.fuseClose 9 v =
      (({ s.fire 35 0 with pwr := { s.pwr with trFed := true } } : Chip).setFuse 9 { s.fuseCh 9 with held := true }).fuseSettle := by
  refine (if_pos h).trans ?_
  rw [if_neg (ne_true_of_eq_false hheld)]
  rfl

theorem Chip.fuseClose_of_backFed (h : fuseGuard n ≤ v) (hheld : (s.fuseCh n).held = false) (hlo : 5 ≤ n) (hhi : n < 9) :
    s.fuseClose n v =
      (((s.fire 72 (detail n (s.lv (Reg.FUSE_STAT_LAST_TRIP n)))).setLv (Reg.FUSE_STAT_STATE n) 6).setFuse n
        { s.fuseCh n with held := true }).fuseSettle := by
  refine (if_pos h).trans ?_
  rw [if_neg (ne_true_of_eq_false hheld), if_neg (Nat.ne_of_lt hhi), if_pos hlo]
  dsimp only
  rw [if_pos ⟨hlo, hhi⟩]

theorem Chip.fuseClose_of_quiet (h : fuseGuard n ≤ v) (hn : n < 5 ∨ (n = 9 ∧ (s.fuseCh n).held = true)) :
    s.fuseClose n v = (s.setFuse n { s.fuseCh n with held := true }).fuseSettle := by
  have hout : ¬(5 ≤ n ∧ n < 9) := by omega
  refine (if_pos h).trans ?_
  rcases hn with hn | ⟨-, hheld⟩
  · have hsame : (if (s.fuseCh n).held then s else if n = 9 then { s.fire 35 0 with pwr := { s.pwr with trFed := true } }
        else if 5 ≤ n then s.fire 72 (detail n (s.lv (Reg.FUSE_STAT_LAST_TRIP n))) else s) = s := by
      split
      · rfl
      · rw [if_neg (by omega), if_neg (Nat.not_le.2 hn)]
    rw [hsame]
    dsimp only
    rw [if_neg hout]
  · rw [if_pos hheld]
    dsimp only
    rw [if_neg hout]

/-! When a channel may close, and when seam loss holds it (R20) -/

theorem Chip.fuseMay_iff :
    s.fuseMay n = true ↔ s.fuseEnable n = true ∧ (s.fuseCh n).hot = false ∧ (s.fuseCh n).rev = false ∧
      (s.fuseState n = 0 ∨ (s.fuseState n = 5 ∧ (s.fuseCh n).low = true)) := by
  simp only [Chip.fuseMay, Bool.and_eq_true, Bool.or_eq_true, Bool.not_eq_true', beq_iff_eq, and_assoc]

theorem Chip.trunkHeld_iff : s.trunkHeld n = true ↔ n = 9 ∧ s.seam.lost = true ∧ (s.fuseCh 9).waited = false := by
  simp only [Chip.trunkHeld, Bool.and_eq_true, Bool.not_eq_true', beq_iff_eq, and_assoc]

theorem Chip.channelClose_of_may (hup : s.fieldUp = true) (hmay : s.fuseMay n = true) (hheld : s.trunkHeld n = false) :
    s.channelClose n v = s.fuseClose n v := if_pos (and_intro (and_intro hup hmay) (bnot hheld))

theorem Chip.channelClose_of_not (h : s.trunkHeld n = true ∨ s.fuseMay n ≠ true) : s.channelClose n v = s := by
  refine if_neg ?_
  exact h.elim (fun h => not_and_right _ (not_bnot h)) (fun h => not_and_left (not_and_right _ h) _)

/-! Opening (R381) -/

theorem Chip.channelOpen_of_disabled (hup : s.fieldUp = true) (hen : s.fuseEnable n ≠ true) (h4 : s.fuseState n ≠ 4) :
    s.channelOpen n =
      (if s.fuseState n = 5 then (if n < 4 then s.portTripGone (n + 1) else if 5 ≤ n ∧ n < 9 then s.portTripGone n else s) else s).fuseOpen n :=
  if_pos (and_intro (and_intro hup (bnot (Bool.eq_false_iff.2 hen))) (bne_iff_ne.2 h4))

/-- What holds for a channel with a hub port: C0 to C3 at ports 1 to 4, H0 to H3 at ports 5 to 8. -/
theorem port_cases {α : Type} {a b : Nat → α} {d : α} (h : n < 4 ∨ (5 ≤ n ∧ n < 9)) (hab : a = b) :
    (if n < 4 then a (n + 1) else if 5 ≤ n ∧ n < 9 then b n else d) = a (if n < 4 then n + 1 else n) := by
  subst hab
  by_cases h4 : n < 4
  · rw [if_pos h4, if_pos h4]
  · rw [if_neg h4, if_neg h4, if_pos (h.resolve_left h4)]

theorem no_port_cases {α : Type} {a b d : α} (h : ¬(n < 4 ∨ (5 ≤ n ∧ n < 9))) :
    (if n < 4 then a else if 5 ≤ n ∧ n < 9 then b else d) = d := by
  rw [if_neg fun h4 => h (.inl h4), if_neg fun h59 => h (.inr h59)]

/-! Trips (R388 to R390) -/

/-- Does a trip latch the channel: under LATCH, or where the count of trips after waits reaches its bound? -/
def Chip.tripLatches (s : Chip) (n : Nat) : Prop :=
  s.fwkB (Reg.FUSE_POLICY_MODE n) = false ∨
    (s.fwk (Reg.FUSE_POLICY_RETRY_MAX n) ≠ 0 ∧ (s.fuseCh n).retried = true ∧
      s.fwk (Reg.FUSE_POLICY_RETRY_MAX n) ≤ (if (s.fuseCh n).retried then (s.fuseCh n).cons + 1 else (s.fuseCh n).cons))

theorem Chip.tripLatches_iff :
    (!s.fwkB (Reg.FUSE_POLICY_MODE n) || (s.fwk (Reg.FUSE_POLICY_RETRY_MAX n) != 0 && (s.fuseCh n).retried &&
      decide (s.fwk (Reg.FUSE_POLICY_RETRY_MAX n) ≤ (if (s.fuseCh n).retried then (s.fuseCh n).cons + 1 else (s.fuseCh n).cons)))) = true ↔
      s.tripLatches n := by
  simp only [Chip.tripLatches, Bool.or_eq_true, Bool.and_eq_true, Bool.not_eq_true', bne_iff_ne, decide_eq_true_iff, and_assoc]

/-- The channel behind the trip itself: its state, cause, count and event. -/
def Chip.tripped (s : Chip) (n cause k : Nat) : Chip :=
  let x := s.fuseCh n
  let a := s.setFuse n { x with
    cons := if x.retried then x.cons + 1 else x.cons, retried := false, low := false, hot := x.hot || cause == 3, due := s.fNow + s.retryWait n }
  let b := ((a.setLv (Reg.FUSE_STAT_STATE n) k).setLv (Reg.FUSE_STAT_PG n) 0).setLv (Reg.FUSE_STAT_LAST_TRIP n) cause
  (b.inc (Reg.FUSE_TRIP_CNT n)).fuseEvent n cause

theorem Chip.fuseTrip_eq {cause k : Nat} (hlatch : s.tripLatches n → k = 5) (hwait : ¬s.tripLatches n → k = 4) :
    s.fuseTrip n cause =
      (let d := s.tripped n cause k
       (if n < 4 then { d.portTrip (n + 1) with fuseReq := clrBit d.fuseReq n }
        else if 5 ≤ n ∧ n < 9 then { d.portTrip n with fuseReq := clrBit d.fuseReq n }
        else if n = 9 then d.alm 5 else d).fuseSettle) := by
  have hstate : (if (!s.fwkB (Reg.FUSE_POLICY_MODE n) || (s.fwk (Reg.FUSE_POLICY_RETRY_MAX n) != 0 && (s.fuseCh n).retried &&
      decide (s.fwk (Reg.FUSE_POLICY_RETRY_MAX n) ≤ (if (s.fuseCh n).retried then (s.fuseCh n).cons + 1 else (s.fuseCh n).cons)))) then
      5 else 4) = k := by
    by_cases h : s.tripLatches n
    · rw [if_pos (Chip.tripLatches_iff.2 h), hlatch h]
    · rw [if_neg fun hb => h (Chip.tripLatches_iff.1 hb), hwait h]
  unfold Chip.fuseTrip
  dsimp only
  rw [hstate]
  rfl

theorem Chip.tripIfClosed_of_closed {cause : Nat} (hup : s.fieldUp = true) (h : s.fuseClosed n = true) :
    s.tripIfClosed n cause = s.fuseTrip n cause := if_pos (and_intro hup h)

theorem Chip.tripIfClosed_of_open {cause : Nat} (h : s.fuseClosed n ≠ true) : s.tripIfClosed n cause = s := if_neg (not_and_right _ h)

/-! Re-closing (R387) and the RETRY wait (R390, R391) -/

theorem Chip.hpReclose_of_reversed {h : Nat} {t : Chip} (hup : s.fieldUp = true) (hrev : (s.fuseCh (5 + h)).rev = true)
    (ht : s.setFuse (5 + h) { s.fuseCh (5 + h) with rev := false } = t) :
    s.hpReclose h v = if t.fuseMay (5 + h) then t.fuseClose (5 + h) v else t := by
  subst ht
  exact if_pos (and_intro hup hrev)

theorem Chip.thermalReclose_of_hot {t : Chip} (hup : s.fieldUp = true) (hn : n < 9) (hhot : (s.fuseCh n).hot = true)
    (ht : s.setFuse n { s.fuseCh n with hot := false } = t) :
    s.thermalReclose n v = if t.fuseMay n then t.fuseClose n v else t := by
  subst ht
  exact if_pos ⟨hup, hn, hhot⟩

section
variable {w u : Chip} (hup : s.fieldUp = true) (hst : s.fuseState n = 4) (hw : s.fieldTimeTo (s.fuseCh n).due = w)
include hup hst hw

theorem Chip.retryWaitEnd_of_latch_portless (hport : ¬(n < 4 ∨ (5 ≤ n ∧ n < 9))) (hmode : w.fwkB (Reg.FUSE_POLICY_MODE n) = false) :
    s.retryWaitEnd n v = (w.setLv (Reg.FUSE_STAT_STATE n) 5).fuseSettle := by
  subst hw
  refine (if_pos ⟨hup, hst⟩).trans ?_
  dsimp only
  rw [if_neg hport, if_pos (bnot hmode)]

theorem Chip.retryWaitEnd_of_retry_portless (hport : ¬(n < 4 ∨ (5 ≤ n ∧ n < 9))) (hmode : w.fwkB (Reg.FUSE_POLICY_MODE n) = true)
    (hu : ((w.setLv (Reg.FUSE_STAT_STATE n) 0).setFuse n { w.fuseCh n with waited := true }).fuseSettle = u) :
    s.retryWaitEnd n v = if u.fuseMay n then u.fuseClose n v else u := by
  subst hw hu
  refine (if_pos ⟨hup, hst⟩).trans ?_
  dsimp only
  rw [if_neg hport, if_neg (not_bnot hmode), if_neg hport]

variable {p : Nat} {a : Chip} (hp : (if n < 4 then n + 1 else n) = p) (ha : w.portTripGone p = a)
include hp ha

theorem Chip.retryWaitEnd_of_latch (hport : n < 4 ∨ (5 ≤ n ∧ n < 9)) (hmode : a.fwkB (Reg.FUSE_POLICY_MODE n) = false) :
    s.retryWaitEnd n v = (a.setLv (Reg.FUSE_STAT_STATE n) 5).fuseSettle := by
  subst hw hp ha
  refine (if_pos ⟨hup, hst⟩).trans ?_
  dsimp only
  rw [if_pos hport, if_pos (bnot hmode)]

theorem Chip.retryWaitEnd_of_retry {b d : Chip} (hport : n < 4 ∨ (5 ≤ n ∧ n < 9)) (hmode : a.fwkB (Reg.FUSE_POLICY_MODE n) = true)
    (hb : (a.setLv (Reg.FUSE_STAT_STATE n) 0).setFuse n { a.fuseCh n with waited := true } = b)
    (hd : (b.setHp p { b.hp p with tripped := false }).hubAuto = d)
    (hu : Chip.fuseSettle { d with fuseReq := if bit d.portPowerWord n then setBit d.fuseReq n else d.fuseReq } = u) :
    s.retryWaitEnd n v = if u.fuseMay n then u.fuseClose n v else u := by
  subst hw hp ha hb hd hu
  refine (if_pos ⟨hup, hst⟩).trans ?_
  dsimp only
  rw [if_pos hport, if_neg (not_bnot hmode), if_pos hport]

end

/-! A stuck switch (R396) -/

theorem Chip.switchStuck_of_open (hup : s.fieldUp = true) (h : s.fuseClosed n ≠ true) :
    s.switchStuck n =
      if n < 5 then s.cuffFault n 5 else if n < 9 then s.fault (32 + n) 5 1 0
      else (s.setLv (Reg.FUSE_STAT_STUCK 9) 1).fire 74 (detail 9 (s.lv (Reg.FUSE_STAT_LAST_TRIP 9))) :=
  if_neg (not_or (not_bnot hup) h)

/-! CTL (R381) -/

theorem Chip.fuseFenced_of_flask (h : n < 9) : s.fuseFenced n = !s.active (32 + n) := by
  unfold Chip.fuseFenced fuseFlask
  rw [if_pos h]

theorem Chip.fuseFenced_trunk : s.fuseFenced 9 = false := rfl

end

end Sys2Proof.Machine

namespace Sys2Proof.Proofs
open Sys2Proof.Machine

/-- Settles O57: each clause is one branch of what happens at the channel. -/
theorem channelResults : Obligations.ChannelResults := by
  unfold Obligations.ChannelResults
  intro ch h vout r s c n v x st up closed en open_ p held_ w port hasPort cool back
  have close {u : Chip} (h : c.channelClose n v = u) : Gives (.channelClose ch vout) s u :=
    gives_of_run (f := fun d => d.channelClose n v) rfl h
  have opened {u : Chip} (h : c.channelOpen n = u) : Gives (.channelOpen ch) s u := gives_of_run (f := fun d => d.channelOpen n) rfl h
  have guard {u : Chip} (h : c.guardRelease n v = u) : Gives (.guardRelease ch vout) s u :=
    gives_of_run (f := fun d => d.guardRelease n v) rfl h
  have ramp {u : Chip} (h : c.rampEnd n = u) : Gives (.rampEnd ch) s u := gives_of_run (f := fun d => d.rampEnd n) rfl h
  have timerTrip {u : Chip} (h : c.tripIfClosed n 1 = u) : Gives (.faultTimerTrip ch) s u :=
    gives_of_run (f := fun d => d.tripIfClosed n 1) rfl h
  have shortTrip {u : Chip} (h : c.tripIfClosed n 2 = u) : Gives (.shortCircuitTrip ch) s u :=
    gives_of_run (f := fun d => d.tripIfClosed n 2) rfl h
  have thermal {u : Chip} (h : (if n < 9 then c.tripIfClosed n 3 else c) = u) : Gives (.thermalTrip ch) s u :=
    gives_of_run (f := fun d => if n < 9 then d.tripIfClosed n 3 else d) rfl h
  have reclose {u : Chip} (h' : c.hpReclose h.val v = u) : Gives (.hpReverseReclose h vout) s u :=
    gives_of_run (f := fun d => d.hpReclose h.val v) rfl h'
  have cooled {u : Chip} (h : c.thermalReclose n v = u) : Gives (.thermalReclose ch vout) s u :=
    gives_of_run (f := fun d => d.thermalReclose n v) rfl h
  have retry {u : Chip} (h : c.retryWaitEnd n v = u) : Gives (.retryWaitEnd ch vout) s u :=
    gives_of_run (f := fun d => d.retryWaitEnd n v) rfl h
  have stuck {u : Chip} (h : c.switchStuck n = u) : Gives (.switchStuck ch) s u := gives_of_run (f := fun d => d.switchStuck n) rfl h
  refine ⟨?below, ?above, ?close, ?closeNo, ?opened, ?openedPort, ?openedLatched, ?openedNo, ?held, ?guard, ?guardNo, ?ramp, ?rampTrunk,
    ?rampNo, ?timeout, ?timeoutNo, ?trip, ?tripNo, ?thermalNo, ?reverseTrip, ?reverseTripNo, ?fuseTrip, ?reverse, ?reverseNo, ?reclose,
    ?recloseHeld, ?recloseNo, ?cool, ?coolHeld, ?coolNo, ?waitLatch, ?waitRetry, ?waitPort, ?waitNo, ?stable, ?stableNo, ?stuckClosed,
    ?stuckCuff, ?stuckPort, ?stuckTrunk, ?enable, ?disable, ?rearm, ?down⟩
  case below => exact fun h => Chip.fuseClose_of_below h
  case above =>
    intro hv
    refine ⟨fun hheld h9 => ?_, fun hheld hlo hhi => ?_, fun hn => ?_⟩
    · have hch : ch = 9 := Fin.ext h9
      subst hch
      exact Chip.fuseClose_of_trunk_fed hv hheld
    · exact Chip.fuseClose_of_backFed hv hheld hlo hhi
    · exact Chip.fuseClose_of_quiet hv hn
  case close =>
    exact fun hup hheld hen hhot hrev hst => close (Chip.channelClose_of_may hup (Chip.fuseMay_iff.2 ⟨hen, hhot, hrev, hst⟩) hheld)
  case closeNo =>
    intro hno
    refine close (Chip.channelClose_of_not (hno.imp id fun hno hmay => ?_))
    obtain ⟨hen, hhot, hrev, hst⟩ := Chip.fuseMay_iff.1 hmay
    rcases hno with h | h | h | ⟨h0, h5⟩
    · exact h hen
    · exact ne_true_of_eq_false hhot h
    · exact ne_true_of_eq_false hrev h
    · exact hst.elim h0 fun hst => h5.elim (fun h => h hst.1) (fun h => ne_true_of_eq_false h hst.2)
  case opened =>
    intro hup hen h4 h5
    have hgo := Chip.channelOpen_of_disabled hup hen h4
    rw [if_neg h5] at hgo
    exact opened hgo
  case openedPort =>
    intro hup hen h5 hport
    have hgo := Chip.channelOpen_of_disabled hup hen fun h4 => absurd (h5.symm.trans h4) (by decide)
    rw [if_pos h5, port_cases (a := fun p => c.portTripGone p) hport rfl] at hgo
    exact opened hgo
  case openedLatched =>
    intro hup hen h5 hport
    have hgo := Chip.channelOpen_of_disabled hup hen fun h4 => absurd (h5.symm.trans h4) (by decide)
    rw [if_pos h5, no_port_cases hport] at hgo
    exact opened hgo
  case openedNo =>
    intro h
    refine opened (if_neg ?_)
    exact h.elim (fun h => not_and_left (not_and_right _ (not_bnot h)) _) (fun h => not_and_right _ fun h4 => bne_iff_ne.1 h4 h)
  case held => exact Chip.trunkHeld_iff
  case guard => exact fun hup hheld hx hv hen hst => guard (if_pos ⟨hup, bnot hheld, hx, hv, hen, hst⟩)
  case guardNo =>
    intro hno
    refine guard (if_neg ?_)
    rintro ⟨-, hheld, hx, hv, hen, hst⟩
    rcases hno with h | h | h | h | ⟨h0, h6⟩
    · exact not_bnot h hheld
    · exact ne_true_of_eq_false h hx
    · exact Nat.not_lt.2 h hv
    · exact h hen
    · exact hst.elim h0 h6
  case ramp => exact fun hup h1 hn => ramp ((if_pos ⟨hup, h1⟩).trans (if_neg (Nat.ne_of_lt hn)))
  case rampTrunk => exact fun hup h1 hn => ramp ((if_pos ⟨hup, h1⟩).trans (if_pos hn))
  case rampNo => exact fun h => ramp (if_neg fun hb => h hb.2)
  case timeout => exact fun hup h => gives_of_run (f := fun d => d.rampTimeout) rfl (if_pos ⟨hup, h⟩)
  case timeoutNo => exact fun h => gives_of_run (f := fun d => d.rampTimeout) rfl (if_neg fun hb => h hb.2)
  case trip =>
    exact fun hup hclosed => ⟨timerTrip (Chip.tripIfClosed_of_closed hup hclosed), shortTrip (Chip.tripIfClosed_of_closed hup hclosed),
      fun hn => thermal ((if_pos hn).trans (Chip.tripIfClosed_of_closed hup hclosed))⟩
  case tripNo =>
    intro hopen
    refine ⟨timerTrip (Chip.tripIfClosed_of_open hopen), shortTrip (Chip.tripIfClosed_of_open hopen), thermal ?_⟩
    rw [Chip.tripIfClosed_of_open hopen, ite_self]
  case thermalNo => exact fun hn => thermal (if_neg (by rw [hn]; decide))
  case reverseTrip =>
    exact fun hup h => gives_of_run (f := fun d => d.tripIfClosed 9 4) rfl (Chip.tripIfClosed_of_closed hup h)
  case reverseTripNo =>
    exact fun h => gives_of_run (f := fun d => d.tripIfClosed 9 4) rfl (Chip.tripIfClosed_of_open (ne_true_of_eq_false h))
  case fuseTrip =>
    intro cause cons mx latch a b d
    have htrip : c.fuseTrip n cause =
        (if n < 4 then { d.portTrip (n + 1) with fuseReq := clrBit d.fuseReq n }
          else if 5 ≤ n ∧ n < 9 then { d.portTrip n with fuseReq := clrBit d.fuseReq n }
          else if n = 9 then d.alm 5 else d).fuseSettle :=
      Chip.fuseTrip_eq (k := if latch then 5 else 4) (fun h => if_pos h) (fun h => if_neg h)
    refine ⟨fun hport => ?_, fun h4 => ?_, fun h9 => ?_⟩
    · rw [htrip, port_cases (a := fun q => ({ d.portTrip q with fuseReq := clrBit d.fuseReq n } : Chip)) hport rfl]
    · rw [htrip, no_port_cases (by omega), if_neg (by rw [h4]; decide)]
    · rw [htrip, no_port_cases (by omega), if_pos h9]
  case reverse => exact fun hup hc => gives_of_run (f := fun d => d.hpReverse h.val) rfl (if_pos (and_intro hup hc))
  case reverseNo =>
    exact fun hc => gives_of_run (f := fun d => d.hpReverse h.val) rfl (if_neg (not_and_right _ (ne_true_of_eq_false hc)))
  case reclose => exact fun hup hrev hmay => reclose ((Chip.hpReclose_of_reversed (t := back) hup hrev rfl).trans (if_pos hmay))
  case recloseHeld =>
    exact fun hup hrev hmay => reclose ((Chip.hpReclose_of_reversed (t := back) hup hrev rfl).trans (if_neg (ne_true_of_eq_false hmay)))
  case recloseNo => exact fun hrev => reclose (if_neg (not_and_right _ (ne_true_of_eq_false hrev)))
  case cool => exact fun hup hn hhot hmay => cooled ((Chip.thermalReclose_of_hot (t := cool) hup hn hhot rfl).trans (if_pos hmay))
  case coolHeld =>
    exact fun hup hn hhot hmay =>
      cooled ((Chip.thermalReclose_of_hot (t := cool) hup hn hhot rfl).trans (if_neg (ne_true_of_eq_false hmay)))
  case coolNo =>
    intro hno
    refine cooled (if_neg ?_)
    exact fun hb => hno.elim (Nat.ne_of_lt hb.2.1) (fun h => ne_true_of_eq_false h hb.2.2)
  case waitLatch => exact fun hup h4 hport hmode => retry (Chip.retryWaitEnd_of_latch_portless hup h4 rfl hport hmode)
  case waitRetry =>
    intro hup h4 hport hmode u
    have hgo := Chip.retryWaitEnd_of_retry_portless (v := v) (w := w) (u := u) hup h4 rfl hport hmode rfl
    exact ⟨fun hmay => retry (hgo.trans (if_pos hmay)), fun hmay => retry (hgo.trans (if_neg (ne_true_of_eq_false hmay)))⟩
  case waitPort =>
    intro hup h4 hport a
    refine ⟨fun hmode => retry (Chip.retryWaitEnd_of_latch (w := w) (a := a) (p := port) hup h4 rfl rfl rfl hport hmode), fun hmode => ?_⟩
    intro b d u
    have hgo := Chip.retryWaitEnd_of_retry (v := v) (w := w) (a := a) (b := b) (d := d) (u := u) (p := port) hup h4 rfl rfl rfl hport hmode
      rfl rfl rfl
    exact ⟨fun hmay => retry (hgo.trans (if_pos hmay)), fun hmay => retry (hgo.trans (if_neg (ne_true_of_eq_false hmay)))⟩
  case waitNo => exact fun h => retry (if_neg fun hb => h hb.2)
  case stable => exact fun hup hc => gives_of_run (f := fun d => d.retryStable n) rfl (if_pos (and_intro hup hc))
  case stableNo => exact fun hc => gives_of_run (f := fun d => d.retryStable n) rfl (if_neg (not_and_right _ hc))
  case stuckClosed => exact fun hc => stuck (if_pos (or_inr _ hc))
  case stuckCuff =>
    intro hup hc hn
    have hfault := Chip.cuffFault_of_report (s := c) (c := n) (code := 5) hup (by decide) (by decide) nofun
    rw [if_pos (.inr rfl)] at hfault
    exact stuck ((Chip.switchStuck_of_open hup hc).trans ((if_pos hn).trans hfault))
  case stuckPort =>
    exact fun hup hc hlo hhi => stuck ((Chip.switchStuck_of_open hup hc).trans ((if_neg (Nat.not_lt.2 hlo)).trans (if_pos hhi)))
  case stuckTrunk =>
    intro hup hc h9
    exact stuck ((Chip.switchStuck_of_open hup hc).trans ((if_neg (by rw [h9]; decide)).trans (if_neg (by rw [h9]; decide))))
  case enable =>
    intro ht
    have hn : n ≤ 9 := Nat.lt_succ_iff.1 ch.isLt
    constructor
    · intro ha
      have hfree : ¬c.fuseFenced n = true := by
        rcases Nat.lt_or_eq_of_le hn with hlt | h9
        · rw [Chip.fuseFenced_of_flask hlt]
          exact not_bnot (ha.resolve_left (Nat.ne_of_gt hlt))
        · rw [h9]
          exact ne_true_of_eq_false Chip.fuseFenced_trunk
      exact gives_of_takes rfl ht (if_neg hfree)
    · intro hlt ha
      have hfenced : c.fuseFenced n = true := (Chip.fuseFenced_of_flask hlt).trans (bnot ha)
      exact gives_of_takes rfl ht (if_pos hfenced)
  case disable => exact fun ht => gives_of_takes rfl ht rfl
  case rearm =>
    intro ht
    exact ⟨fun h9 h5 => gives_of_takes rfl ht (if_neg (not_or_intro (not_not_intro h9) (not_not_intro h5))),
      fun h => gives_of_takes rfl ht (if_pos h)⟩
  case down =>
    intro hdown
    have hno : ¬c.fieldUp = true := ne_true_of_eq_false hdown
    exact ⟨close (if_neg (not_and_left (not_and_left hno _) _)), opened (if_neg (not_and_left (not_and_left hno _) _)),
      ramp (if_neg fun hb => hno hb.1), timerTrip (if_neg (not_and_left hno _)), shortTrip (if_neg (not_and_left hno _)),
      retry (if_neg fun hb => hno hb.1), stuck (if_pos (or_inl (bnot hdown) _))⟩

end Sys2Proof.Proofs
end

section
/-! PROOF. Measurement (18_measurement.md), the driver outputs (19_control_outputs.md) and calibrations (22_background_work.md R483). -/

namespace Sys2Proof.Machine

section
variable {s : Chip}

/-! The units (R401, R405 to R407) -/

theorem Chip.measOn_of_active {r u : Nat} (ha : s.active (measFlask u) = true) (hno : u ≠ 2 ∨ s.flag (measEn u) = true) :
    s.measOn r u = (.done, s.putField (measEn u) 1) := by
  have hquiet : ¬(u = 2 ∧ (!s.flag (measEn u)) = true) := fun h => hno.elim (fun h2 => h2 h.1) (fun hf => not_bnot hf h.2)
  refine (if_neg (not_bnot ha)).trans ?_
  dsimp only
  rw [if_neg hquiet]
  rfl

theorem Chip.measOn_bridge {r : Nat} (ha : s.active 47 = true) (hoff : s.flag Reg.MEAS_STAT_BR_EN = false) :
    s.measOn r 2 = (.done, (s.putField Reg.MEAS_STAT_BR_EN 1).fieldAct (.unit 13 0 0 15)) := by
  refine (if_neg (not_bnot ha)).trans ?_
  have hfirst : 2 = 2 ∧ (!s.flag (measEn 2)) = true := ⟨rfl, bnot hoff⟩
  dsimp only
  rw [if_pos hfirst]
  rfl

theorem Chip.measOn_of_fenced {r u : Nat} (ha : s.active (measFlask u) = false) : s.measOn r u = s.no r 13 0 4 := if_pos (bnot ha)

/-! Bursts (R401) -/

theorem Chip.burst_of_stopped {k i : Nat} {readings : List Int}
    (h : ¬(s.fieldUp = true ∧ s.fwkB (measEn k) = true ∧ s.steered = true ∧ s.measStopped k = false ∧ i < s.fwk (Reg.MEAS_SEQ_REP_COUNT k) ∧
      s.get Reg.SYS_PWR_STAT ≠ 1)) : s.burst k i readings = s := by
  refine if_pos ?_
  refine Classical.byContradiction fun hno => ?_
  refine h ⟨?_, ?_, ?_, ?_, ?_, ?_⟩
  · exact Bool.of_not_eq_false fun h => hno (.inl (bnot h))
  · exact Bool.of_not_eq_false fun h => hno (.inr (.inl (bnot h)))
  · exact Bool.of_not_eq_false fun h => hno (.inr (.inr (.inl (bnot h))))
  · exact Bool.eq_false_iff.2 fun h => hno (.inr (.inr (.inr (.inl h))))
  · exact Nat.not_le.1 fun h => hno (.inr (.inr (.inr (.inr (.inl h)))))
  · exact fun h => hno (.inr (.inr (.inr (.inr (.inr h)))))

theorem Chip.burst_of_due {k i len t : Nat} {readings : List Int} (hup : s.fieldUp = true)
    (h : s.fwkB (measEn k) = true ∧ s.steered = true ∧ s.measStopped k = false ∧ i < s.fwk (Reg.MEAS_SEQ_REP_COUNT k) ∧
      s.get Reg.SYS_PWR_STAT ≠ 1) (hlen : s.fwk (Reg.MEAS_SEQ_REP_LEN k) = len)
    (ht : s.clk.markNs + s.fwk (Reg.MEAS_SEQ k) + i * s.fwk (Reg.MEAS_SEQ_REP_INTERVAL k) = t) :
    s.burst k i readings =
      if s.occMeas then s.inc (Reg.MEAS_SKIP_CNT k)
      else ((s.fieldTimeTo t).inc (Reg.MEAS_BURST_CNT k)).burstEntries k len 0 t
        (readings.take len ++ List.replicate (len - readings.length) 0) := by
  obtain ⟨hen, hsteered, hrun, hi, hpwr⟩ := h
  subst hlen ht
  exact if_neg (not_or_intro (not_bnot hup) (not_or_intro (not_bnot hen) (not_or_intro (not_bnot hsteered)
    (not_or_intro (ne_true_of_eq_false hrun) (not_or_intro (Nat.not_le.2 hi) hpwr)))))

/-! Bridges (R405, R406) -/

theorem dvd_round_up (x per : Nat) : per ∣ (x + per - 1) / per * per := Nat.dvd_mul_left per _

theorem le_round_up {x per : Nat} (h : 0 < per) : x ≤ (x + per - 1) / per * per := by
  have hlt := Nat.lt_div_mul_add h (a := x + per - 1)
  omega

theorem Chip.brPeriod_pos (s : Chip) (b : Nat) : 0 < s.brPeriod b := Nat.mul_pos (by decide) (Nat.two_pow_pos _)

theorem Chip.brNext_mod (s : Chip) (b : Nat) : s.brNext b % s.brPeriod b = 0 := by
  refine Nat.mod_eq_zero_of_dvd ?_
  unfold Chip.brNext
  rcases Nat.le_total ((s.fNow + s.brPeriod b - 1) / s.brPeriod b * s.brPeriod b)
    ((s.meas.brAt.get 0 b + s.brPeriod b - 1) / s.brPeriod b * s.brPeriod b) with h | h
  · rw [Nat.max_eq_right h]
    exact dvd_round_up _ _
  · rw [Nat.max_eq_left h]
    exact dvd_round_up _ _

theorem Chip.fNow_le_brNext (s : Chip) (b : Nat) : s.fNow ≤ s.brNext b :=
  Nat.le_trans (le_round_up (s.brPeriod_pos b)) (Nat.le_max_left _ _)

theorem Chip.brAt_le_brNext (s : Chip) (b : Nat) : s.meas.brAt.get 0 b ≤ s.brNext b :=
  Nat.le_trans (le_round_up (s.brPeriod_pos b)) (Nat.le_max_right _ _)

/-- The bridges run, bridge b is excited, and the node does not stand by. -/
def Chip.bridging (s : Chip) (b : Nat) : Prop :=
  s.fwkB Reg.MEAS_STAT_BR_EN = true ∧ s.measStopped 2 = false ∧ bit s.meas.excOff b = false ∧ s.get Reg.SYS_PWR_STAT ≠ 1

theorem Chip.bridge_of_stopped {b : Nat} {raw : Int} (h : ¬(s.fieldUp = true ∧ s.bridging b)) : s.bridge b raw = s := by
  refine if_pos ?_
  refine Classical.byContradiction fun hno => ?_
  refine h ⟨?_, ?_, ?_, ?_, ?_⟩
  · exact Bool.of_not_eq_false fun h => hno (or_inl (or_inl (or_inl (or_inl (bnot h) _) _) _) _)
  · exact Bool.of_not_eq_false fun h => hno (or_inl (or_inl (or_inl (or_inr _ (bnot h)) _) _) _)
  · exact Bool.eq_false_iff.2 fun h => hno (or_inl (or_inl (or_inr _ h) _) _)
  · exact Bool.eq_false_iff.2 fun h => hno (or_inl (or_inr _ h) _)
  · exact fun h => hno (or_inr _ (beq_iff_eq.2 h))

section
variable {b at_ : Nat} {raw : Int} {e : Chip} (hup : s.fieldUp = true) (h : s.bridging b) (hat : s.brNext b = at_)
include hup h

theorem Chip.not_bridge_stopped :
    ¬(!s.fieldUp || !s.fwkB (measEn 2) || s.measStopped 2 || bit s.meas.excOff b || s.get Reg.SYS_PWR_STAT == 1) = true := by
  obtain ⟨hen, hrun, hexc, hpwr⟩ := h
  exact not_or (not_or (not_or (not_or (not_bnot hup) (not_bnot hen)) (ne_true_of_eq_false hrun)) (ne_true_of_eq_false hexc))
    fun h => hpwr (eq_of_beq h)

include hat
variable (he : (let d := s.fieldTimeTo at_
  ({ d with meas := { d.meas with brAt := d.meas.brAt.put 0 b (at_ + 1) } } : Chip)) = e)
include he

theorem Chip.bridge_of_tested (hocc : e.occMeas = true) : s.bridge b raw = e.inc (Reg.MEAS_SKIP_CNT 2) := by
  subst hat he
  refine (if_neg (Chip.not_bridge_stopped hup h)).trans ?_
  exact if_pos hocc

/-- The sample word of a bridge whose result is whole. -/
def Chip.bridgeWord (e : Chip) (b : Nat) (raw : Int) : Nat :=
  let v := clampInt (-8388608) 8388607 (e.brValue b raw)
  unsigned 24 v + (if v ≠ e.brValue b raw then 2 ^ 25 else 0) + (if e.get Reg.CLK_STATUS_SYNC = 3 then 2 ^ 27 else 0) +
    (if bit e.meas.calBr b then 2 ^ 28 else 0) + (if e.meas.settle.get 0 b ≠ 0 then 2 ^ 30 else 0)

theorem Chip.bridge_of_whole {w : Nat} {t : Chip} (hocc : e.occMeas = false) (hwhole : bit e.meas.shorted b = false)
    (hw : e.bridgeWord b raw = w)
    (ht : ({ e with meas := { e.meas with
      shorted := clrBit e.meas.shorted b
      calBr := clrBit e.meas.calBr b
      settle := e.meas.settle.put 0 b (e.meas.settle.get 0 b - 1) } } : Chip).setLv (Reg.MEAS_BR_VAL b) w = t) :
    s.bridge b raw =
      t.measSend 2 (measOut (t.fwk (Reg.MEAS_BR_DEST b)) w (at_ + 2 ^ 32 - t.brPeriod b * 3 / 2) (bit (t.fwk (Reg.MEAS_BR_DEST b)) 8) true true) := by
  refine (if_neg (Chip.not_bridge_stopped hup h)).trans ?_
  extract_lets next d dm e1 exact_ v cut val e2 st word m0 m t1 dest
  have he1 : e1 = e := by
    rw [← he]
    subst hat
    rfl
  have hcut : cut = false := (congrArg (fun z : Chip => bit z.meas.shorted b) he1).trans hwhole
  have he2 : e2 = e := (if_neg (ne_true_of_eq_false hcut)).trans he1
  have hval : val = unsigned 24 v := if_neg (ne_true_of_eq_false hcut)
  clear_value val e2 e1 cut
  subst hcut he2 hval he1
  have hword : word = w := by
    rw [← hw]
    unfold word Chip.bridgeWord
    rw [Bool.false_or]
    congr 4
    exact ite_of_iff (and_iff_left rfl)
  clear_value word
  subst hword ht hat
  exact if_neg (ne_true_of_eq_false hocc)

end

/-! Counters (R407, R409) -/

theorem edgeHit_iff {sel : Nat} {rising : Bool} :
    edgeHit sel rising = true ↔ (sel = 0 ∧ rising = true) ∨ (sel = 1 ∧ rising = false) ∨ sel = 2 := by
  unfold edgeHit
  rcases sel with _ | _ | _ | sel
  · simp
  · simp
  · simp
  · simp

/-- The counters run, an input reaches counter p, and no test has them. -/
def Chip.counting (s : Chip) (p : Nat) : Prop :=
  s.pulseWired p = true ∧ (s.fwkB Reg.MEAS_STAT_PC_EN = true ∧ s.measStopped 3 = false) ∧ s.occMeas = false

theorem Chip.pulse_of_stopped {p : Nat} {x : PulseEdge} (h : ¬(s.fieldUp = true ∧ s.counting p)) : s.pulse p x = s := by
  refine if_pos ?_
  refine Classical.byContradiction fun hno => ?_
  refine h ⟨?_, ?_, ⟨?_, ?_⟩, ?_⟩
  · exact Bool.of_not_eq_false fun h => hno (or_inl (or_inl (or_inl (or_inl (bnot h) _) _) _) _)
  · exact Bool.of_not_eq_false fun h => hno (or_inl (or_inl (or_inl (or_inr _ (bnot h)) _) _) _)
  · exact Bool.of_not_eq_false fun h => hno (or_inl (or_inl (or_inr _ (bnot h)) _) _)
  · exact Bool.eq_false_iff.2 fun h => hno (or_inl (or_inr _ h) _)
  · exact Bool.eq_false_iff.2 fun h => hno (or_inr _ h)

section
variable {p : Nat} {x : PulseEdge} (hup : s.fieldUp = true) (h : s.counting p)
include hup h

theorem Chip.not_pulse_stopped :
    ¬(!s.fieldUp || !s.pulseWired p || !s.fwkB (measEn 3) || s.measStopped 3 || s.occMeas) = true := by
  obtain ⟨hwired, ⟨hen, hrun⟩, hocc⟩ := h
  exact not_or (not_or (not_or (not_or (not_bnot hup) (not_bnot hwired)) (not_bnot hen)) (ne_true_of_eq_false hrun))
    (ne_true_of_eq_false hocc)

theorem Chip.pulse_of_quad (hquad : s.fwk (Reg.MEAS_PC_CFG_MODE (p / 2 * 2)) = 3) :
    s.pulse p x = (s.countEdge (p / 2 * 2) (quadUp p x)).countEdge (p / 2 * 2 + 1) (quadUp p x) :=
  (if_neg (Chip.not_pulse_stopped hup h)).trans (if_pos hquad)

theorem Chip.pulse_of_single (hquad : s.fwk (Reg.MEAS_PC_CFG_MODE (p / 2 * 2)) ≠ 3) :
    s.pulse p x =
      if (s.fwk (Reg.MEAS_PC_CFG_MODE p) = 1 ∨ s.fwk (Reg.MEAS_PC_CFG_MODE p) = 2) ∧ edgeHit (s.fwk (Reg.MEAS_PC_CFG_EDGE p)) x.rising = true then
        s.countEdge p true else s := by
  refine (if_neg (Chip.not_pulse_stopped hup h)).trans ((if_neg hquad).trans ?_)
  generalize s.fwk (Reg.MEAS_PC_CFG_MODE p) = mode
  split
  · exact ite_of_iff (by rw [edgeHit]; simp)
  · exact ite_of_iff (by rw [edgeHit]; simp)
  · rename_i h1 h2
    exact (if_neg fun h => h.1.elim h1 h2).symm

end

theorem Chip.snapshot_of_stopped
    (h : ¬(s.fieldUp = true ∧ (s.fwkB Reg.MEAS_STAT_PC_EN = true ∧ s.measStopped 3 = false) ∧ s.get Reg.SYS_PWR_STAT ≠ 1)) :
    s.snapshot = s := by
  refine if_pos ?_
  refine Classical.byContradiction fun hno => ?_
  refine h ⟨?_, ⟨?_, ?_⟩, ?_⟩
  · exact Bool.of_not_eq_false fun h => hno (or_inl (or_inl (or_inl (bnot h) _) _) _)
  · exact Bool.of_not_eq_false fun h => hno (or_inl (or_inl (or_inr _ (bnot h)) _) _)
  · exact Bool.eq_false_iff.2 fun h => hno (or_inl (or_inr _ h) _)
  · exact fun h => hno (or_inr _ (beq_iff_eq.2 h))

/-- What a snapshot delivers of one counter. -/
def Chip.snapAt (t : Chip) (j : Nat) : Chip :=
  if t.fwk (Reg.MEAS_PC_CFG_MODE j) = 0 ∧ t.fwk (Reg.MEAS_PC_CFG_MODE (j / 2 * 2)) ≠ 3 then t
  else if t.occMeas then t.inc (Reg.MEAS_SKIP_CNT 3)
  else t.measSend 3 (measOut (t.fwk (Reg.MEAS_PC_DEST j))
    (if t.fwk (Reg.MEAS_PC_CFG_MODE j) = 2 then t.lv (Reg.MEAS_PC_PER j) else t.lv (Reg.MEAS_PC_CNT j)) (t.lv (Reg.MEAS_PC_TLAST j)) true true true)

theorem Chip.snapshot_of_running (hup : s.fieldUp = true) (hrun : s.fwkB Reg.MEAS_STAT_PC_EN = true ∧ s.measStopped 3 = false)
    (hpwr : s.get Reg.SYS_PWR_STAT ≠ 1) : s.snapshot = s.periodShow.each (List.range 12) Chip.snapAt :=
  if_neg (not_or (not_or (not_or (not_bnot hup) (not_bnot hrun.1)) (ne_true_of_eq_false hrun.2)) fun h => hpwr (eq_of_beq h))

theorem Chip.snapAt_of_off {t : Chip} {j : Nat} (h : t.fwk (Reg.MEAS_PC_CFG_MODE j) = 0)
    (hpair : t.fwk (Reg.MEAS_PC_CFG_MODE (j / 2 * 2)) = 0) : t.snapAt j = t :=
  if_pos ⟨h, by rw [hpair]; decide⟩

/-! Faults of the instruments (Table MEAS-5) -/

theorem Chip.measFault_of_up {code u : Nat} (hup : s.fieldUp = true) :
    s.measFault code u =
      if code = 1 then (if u < 2 then ({ s with meas := { s.meas with refBad := setBit s.meas.refBad u } }).fault (measFlask u) 5 1 0 else s)
      else if code = 2 then ({ s with meas := { s.meas with excOff := setBit s.meas.excOff u } }).fault 47 5 2 0
      else if code = 3 then (if u < 2 then s.fault (measFlask u) 5 3 0 else s)
      else s := by
  refine (if_neg (not_bnot hup)).trans ?_
  rcases code with _ | _ | _ | _ | code
  · rfl
  · rfl
  · rfl
  · rfl
  · rfl

theorem Chip.measFault_of_unlisted {code u : Nat} (h : code = 0 ∨ 3 < code) : s.measFault code u = s := by
  cases hup : s.fieldUp with
  | false => exact if_pos (bnot hup)
  | true =>
    rw [Chip.measFault_of_up hup, if_neg (by omega), if_neg (by omega), if_neg (by omega)]

/-! Calibrations (R414, R483) -/

theorem Chip.calStart_of_rest {u : Nat} (h : s.bkgRuns = false ∨ s.wkB Reg.BKG_CFG_CAL_EN = false ∨ bit s.bkg.cal u = true) :
    s.calStart u = s := by
  refine if_pos ?_
  rcases h with h | h | h
  · exact or_inl (or_inl (bnot h) _) _
  · exact or_inl (or_inr _ (bnot h)) _
  · exact or_inr _ h

/-- May a calibration that is due begin: its unit is on, free, and its flask ACTIVE, on a field die that is up and not in STANDBY? -/
def Chip.mayCalibrate (t : Chip) (u : Nat) : Prop :=
  t.fieldUp = true ∧ t.flag (measEn u) = true ∧ t.active (measFlask u) = true ∧ t.occMeas = false ∧ t.get Reg.SYS_PWR_STAT ≠ 1

section
variable {u : Nat} {t : Chip} (hruns : s.bkgRuns = true) (hen : s.wkB Reg.BKG_CFG_CAL_EN = true) (hcal : bit s.bkg.cal u = false)
  (ht : (let d := s.timeTo (s.calDue u)
    ({ d with bkg := { d.bkg with calAt := d.bkg.calAt.put 0 u (d.ct.toNat + 1) } } : Chip)) = t)
include hruns hen hcal ht

theorem Chip.calStart_of_due :
    s.calStart u =
      if !t.fieldUp || !t.flag (measEn u) || !t.active (measFlask u) || t.occMeas || t.get Reg.SYS_PWR_STAT == 1 then t.inc Reg.BKG_CAL_SKIP_CNT
      else (({ t with bkg := { t.bkg with cal := setBit t.bkg.cal u } } : Chip).put Reg.BKG_STAT_CAL_RUN 1).calBegin u := by
  subst ht
  exact if_neg (not_or (not_or (not_bnot hruns) (not_bnot hen)) (ne_true_of_eq_false hcal))

theorem Chip.calStart_of_may (hmay : t.mayCalibrate u) :
    s.calStart u = (({ t with bkg := { t.bkg with cal := setBit t.bkg.cal u } } : Chip).put Reg.BKG_STAT_CAL_RUN 1).calBegin u := by
  obtain ⟨hup, hon, hactive, hocc, hpwr⟩ := hmay
  refine (Chip.calStart_of_due hruns hen hcal ht).trans (if_neg ?_)
  exact not_or (not_or (not_or (not_or (not_bnot hup) (not_bnot hon)) (not_bnot hactive)) (ne_true_of_eq_false hocc))
    fun h => hpwr (eq_of_beq h)

theorem Chip.calStart_of_skip (hno : ¬t.mayCalibrate u) : s.calStart u = t.inc Reg.BKG_CAL_SKIP_CNT := by
  refine (Chip.calStart_of_due hruns hen hcal ht).trans (if_pos ?_)
  refine Classical.byContradiction fun hgo => ?_
  refine hno ⟨?_, ?_, ?_, ?_, ?_⟩
  · exact Bool.of_not_eq_false fun h => hgo (or_inl (or_inl (or_inl (or_inl (bnot h) _) _) _) _)
  · exact Bool.of_not_eq_false fun h => hgo (or_inl (or_inl (or_inl (or_inr _ (bnot h)) _) _) _)
  · exact Bool.of_not_eq_false fun h => hgo (or_inl (or_inl (or_inr _ (bnot h)) _) _)
  · exact Bool.eq_false_iff.2 fun h => hgo (or_inl (or_inr _ h) _)
  · exact fun h => hgo (or_inr _ (beq_iff_eq.2 h))

end

/-! Setpoints (R54, R424) -/

theorem takeWhile_append_of_all {α : Type} {p : α → Bool} {l r : List α} (hl : l.all p = true) (hr : ∀ x, r.head? = some x → p x = false) :
    (l ++ r).takeWhile p = l := by
  have hnil : r.takeWhile p = [] := by
    cases r with
    | nil => rfl
    | cons x xs => exact List.takeWhile_cons_of_neg (ne_true_of_eq_false (hr x rfl))
  rw [List.takeWhile_append_of_pos (List.all_eq_true.1 hl), hnil, List.append_nil]

theorem Chip.setpointArrive_of_oldest {o : Nat} {sp : SeamItem} {pre behind rest : List SeamItem} (hup : s.fieldUp = true)
    (hrx : s.seam.fieldRx = true) (hflight : s.seam.flight = pre ++ sp :: (behind ++ rest))
    (hpre : pre.all (fun j => !isSetpointOf o j) = true) (hsp : isSetpointOf o sp = true)
    (hbehind : behind.all (fun j => !isSetpoint j) = true) (hrest : ∀ j, rest.head? = some j → isSetpoint j = true) :
    s.setpointArrive o =
      Chip.each { s with seam := { s.seam with flight := rest } } (pre ++ sp :: behind) (fun t j => t.deliver j) := by
  have hany : s.seam.flight.any (isSetpointOf o) = true := by
    rw [hflight, List.any_append, List.any_cons, hsp, Bool.true_or, Bool.or_true]
  have hfirst : s.seam.flight.takeWhile (fun i => !isSetpointOf o i) = pre := by
    rw [hflight]
    refine takeWhile_append_of_all hpre fun x hx => ?_
    cases hx
    exact Bool.eq_false_iff.2 (not_bnot hsp)
  have hdrop : s.seam.flight.drop (pre.length + 1) = behind ++ rest := by
    rw [hflight, List.drop_append, Nat.add_sub_cancel_left, List.drop_of_length_le (Nat.le_succ _)]
    rfl
  have hwait : (behind ++ rest).takeWhile (fun i => !isSetpoint i) = behind :=
    takeWhile_append_of_all hbehind fun x hx => Bool.eq_false_iff.2 (not_bnot (hrest x hx))
  have htake : s.seam.flight.take (pre.length + 1 + behind.length) = pre ++ sp :: behind := by
    have hsplit : s.seam.flight = (pre ++ sp :: behind) ++ rest := by rw [hflight, List.append_assoc]; rfl
    rw [hsplit]
    exact List.take_left' (by rw [List.length_append, List.length_cons]; omega)
  refine (if_neg (not_or (not_or (not_bnot hup) (not_bnot hrx)) (not_bnot hany))).trans ?_
  dsimp only
  rw [hfirst, hdrop, hwait, htake, List.drop_left]

/-! Faults of the outputs (Table DRV-3, R432) -/

theorem Chip.driverFault_of_up {o code : Nat} (hup : s.fieldUp = true) :
    s.driverFault o code =
      if code = 1 then s.drvTrip o 1 (s.fwkB (Reg.DRV_ELEC_FENCE o))
      else if code = 2 then (if o < 8 then s.setLv (Reg.DRV_STAT_OPEN o) 1 else s)
      else if code = 3 then (if o < 8 then s.drvTrip o 3 true else s)
      else if code = 4 then
        (if 8 ≤ o then ((s.each [8, 9, 10, 11] (fun t j => t.setOut j { t.out j with safe := true, cmd := 0 })).fault 50 5 4 0).drvSettle else s)
      else s := by
  refine (if_neg (not_bnot hup)).trans ?_
  rcases code with _ | _ | _ | _ | _ | code
  · rfl
  · rfl
  · rfl
  · rfl
  · rfl
  · rfl

theorem Chip.driverFault_of_unlisted {o code : Nat}
    (h : code = 0 ∨ 4 < code ∨ (code = 2 ∧ 8 ≤ o) ∨ (code = 3 ∧ 8 ≤ o) ∨ (code = 4 ∧ o < 8)) : s.driverFault o code = s := by
  cases hup : s.fieldUp with
  | false => exact if_pos (bnot hup)
  | true =>
    rw [Chip.driverFault_of_up hup]
    rcases h with h | h | ⟨h, ho⟩ | ⟨h, ho⟩ | ⟨h, ho⟩
    · rw [if_neg (by omega), if_neg (by omega), if_neg (by omega), if_neg (by omega)]
    · rw [if_neg (by omega), if_neg (by omega), if_neg (by omega), if_neg (by omega)]
    · rw [if_neg (by omega), if_pos h, if_neg (by omega)]
    · rw [if_neg (by omega), if_neg (by omega), if_pos h, if_neg (by omega)]
    · rw [if_neg (by omega), if_neg (by omega), if_neg (by omega), if_pos h, if_neg (by omega)]

theorem Chip.mayClear_iff {o : Nat} {present : Bool} :
    s.mayClear o present = true ↔ s.active (drvFlask o) = true ∧ (s.out o).latched = true ∧ present = false := by
  simp only [Chip.mayClear, Bool.and_eq_true, Bool.not_eq_true', and_assoc]

end

end Sys2Proof.Machine

namespace Sys2Proof.Proofs
open Sys2Proof.Machine

/-- Settles O58: each clause is one branch of the command, or of what happens at the unit. -/
theorem measurementAndDriverResults : Obligations.MeasurementAndDriverResults := by
  unfold Obligations.MeasurementAndDriverResults
  intro r mask k i readings b raw p edge a uA code unit u o kind present s c en ctl rejected up x n m dc wired run q mode sel hit sk bursts
    len bridging
  have burst {t : Chip} (h : c.burst sk i.val readings = t) : Gives (.burstStart k i readings) s t :=
    gives_of_run (f := fun d => d.burst sk i.val readings) rfl h
  have bridge {t : Chip} (h : c.bridge b.val raw = t) : Gives (.bridgeResult b raw) s t :=
    gives_of_run (f := fun d => d.bridge b.val raw) rfl h
  have pulse {t : Chip} (h : c.pulse q edge = t) : Gives (.pulseEdge p edge) s t := gives_of_run (f := fun d => d.pulse q edge) rfl h
  have snap {t : Chip} (h : c.snapshot = t) : Gives .pcSnapshot s t := gives_of_run (f := fun d => d.snapshot) rfl h
  have shunt {t : Chip} (h : c.shuntOver n = t) : Gives (.shuntOvercurrent a) s t := gives_of_run (f := fun d => d.shuntOver n) rfl h
  have retry {t : Chip} (h : c.shuntRetry n uA = t) : Gives (.shuntRetry a uA) s t := gives_of_run (f := fun d => d.shuntRetry n uA) rfl h
  have mfault {t : Chip} (h : c.measFault code.toNat unit.val = t) : Gives (.measInstrumentFault code unit) s t :=
    gives_of_run (f := fun d => d.measFault code.toNat unit.val) rfl h
  have calStart {t : Chip} (h : c.calStart u.val = t) : Gives (.calibrationStart u) s t :=
    gives_of_run (f := fun d => d.calStart u.val) rfl h
  have calEnd {t : Chip} (h : c.calEnd u.val = t) : Gives (.calibrationDone u) s t := gives_of_run (f := fun d => d.calEnd u.val) rfl h
  have arrive {t : Chip} (h : c.setpointArrive o.val = t) : Gives (.setpointArrive o) s t :=
    gives_of_run (f := fun d => d.setpointArrive o.val) rfl h
  have dfault {t : Chip} (h : c.driverFault o.val kind.toNat = t) : Gives (.driverFault o kind) s t :=
    gives_of_run (f := fun d => d.driverFault o.val kind.toNat) rfl h
  refine ⟨?ainOn, ?ainOff, ?units, ?burst, ?burstTested, ?burstNo, ?next, ?value, ?bridge, ?bridgeNo, ?pulse, ?pulseQuad, ?pulseNo,
    ?snapOff, ?snap, ?snapNo, ?shunt, ?shuntNo, ?retry, ?retryNo, ?fault1, ?fault2, ?fault3, ?faultNo, ?calStart, ?calStartNo, ?calEnd,
    ?calEndNo, ?arrive, ?arriveNo, ?driver1, ?driver2, ?driver3, ?driver4, ?driverNo, ?trip, ?enable, ?disable, ?clear, ?down⟩
  case ainOn => exact fun ht => gives_of_takes rfl ht rfl
  case ainOff => exact fun ht => gives_of_takes rfl ht rfl
  case units =>
    intro ht
    refine ⟨fun ha => ?_, fun ha => ?_, ?_, fun ha => ?_, fun ha => ?_, ?_, fun ha => ⟨fun hoff => ?_, fun hon => ?_, ?_⟩,
      fun ha => ⟨?_, ?_⟩, ?_, ?_⟩
    · exact gives_of_takes rfl ht (Chip.measOn_of_active (u := 0) ha (.inl (by decide)))
    · exact gives_of_takes rfl ht (Chip.measOn_of_fenced (u := 0) ha)
    · exact gives_of_takes rfl ht rfl
    · exact gives_of_takes rfl ht (Chip.measOn_of_active (u := 1) ha (.inl (by decide)))
    · exact gives_of_takes rfl ht (Chip.measOn_of_fenced (u := 1) ha)
    · exact gives_of_takes rfl ht rfl
    · exact gives_of_takes rfl ht (Chip.measOn_bridge ha hoff)
    · exact gives_of_takes rfl ht (Chip.measOn_of_active (u := 2) ha (.inr hon))
    · exact gives_of_takes rfl ht (Chip.measOn_of_active (u := 3) ha (.inl (by decide)))
    · exact gives_of_takes rfl ht (Chip.measOn_of_fenced (u := 2) ha)
    · exact gives_of_takes rfl ht (Chip.measOn_of_fenced (u := 3) ha)
    · exact gives_of_takes rfl ht rfl
    · exact gives_of_takes rfl ht rfl
  case burst =>
    intro hup h hocc t
    exact burst ((Chip.burst_of_due (t := t) hup h rfl rfl).trans (if_neg (ne_true_of_eq_false hocc)))
  case burstTested =>
    intro hup h hocc
    have hgo := Chip.burst_of_due (readings := readings) hup h rfl rfl
    exact burst (hgo.trans (if_pos hocc))
  case burstNo => exact fun h => burst (Chip.burst_of_stopped fun hb => h hb.2)
  case next => exact ⟨c.brNext_mod b.val, c.fNow_le_brNext b.val, c.brAt_le_brNext b.val⟩
  case value => exact rfl
  case bridge =>
    intro hup hb at_ d e exact_
    refine ⟨fun hocc => ?_, ?_⟩
    · exact bridge (Chip.bridge_of_tested (e := e) (at_ := at_) hup hb rfl rfl hocc)
    · intro hocc hwhole v st w t
      exact bridge (Chip.bridge_of_whole (e := e) (at_ := at_) (w := w) (t := t) hup hb rfl rfl hocc hwhole rfl rfl)
  case bridgeNo => exact fun h => bridge (Chip.bridge_of_stopped fun hb => h hb.2)
  case pulse =>
    intro hup hwired hrun hocc hquad
    have hgo := Chip.pulse_of_single (x := edge) hup ⟨hwired, hrun, hocc⟩ hquad
    exact ⟨fun hm hh => pulse (hgo.trans (if_pos ⟨hm, edgeHit_iff.2 hh⟩)),
      fun hno => pulse (hgo.trans (if_neg fun hb => hno.elim (fun h => hb.1.elim h.1 h.2) (fun h => h (edgeHit_iff.1 hb.2))))⟩
  case pulseQuad => exact fun hup hwired hrun hocc hquad => pulse (Chip.pulse_of_quad hup ⟨hwired, hrun, hocc⟩ hquad)
  case pulseNo =>
    intro hno
    refine pulse (Chip.pulse_of_stopped ?_)
    rintro ⟨-, hwired, hrun, hocc⟩
    rcases hno with h | h | h
    · exact h hwired
    · exact h hrun
    · exact ne_true_of_eq_false hocc h
  case snapOff =>
    intro hup hrun hpwr hoff
    refine snap ((Chip.snapshot_of_running hup hrun hpwr).trans (Chip.each_eq_self fun j hj => ?_))
    have hj : j < 12 := List.mem_range.1 hj
    exact Chip.snapAt_of_off (hoff j hj) (hoff (j / 2 * 2) (Nat.lt_of_le_of_lt (Nat.div_mul_le_self j 2) hj))
  case snap => exact fun hup hrun hpwr => snap (Chip.snapshot_of_running hup hrun hpwr)
  case snapNo =>
    exact fun hno => snap (Chip.snapshot_of_stopped fun hb => hno.elim (fun h => h hb.2.1) (fun h => hb.2.2 h))
  case shunt =>
    exact fun hup hen hmode hopen => shunt (if_pos (and_intro (and_intro (and_intro hup hen) (beq_iff_eq.2 hmode)) (bnot hopen)))
  case shuntNo =>
    intro hno
    refine shunt (if_neg ?_)
    rcases hno with h | h | h
    · exact not_and_left (not_and_left (not_and_right _ (ne_true_of_eq_false h)) _) _
    · exact not_and_left (not_and_right _ fun h3 => h (eq_of_beq h3)) _
    · exact not_and_right _ (not_bnot h)
  case retry => exact fun hup hopen hlow => retry (if_pos ⟨hup, hopen, hlow⟩)
  case retryNo =>
    exact fun hno => retry (if_neg fun hb => hno.elim (fun h => ne_true_of_eq_false h hb.2.1) (fun h => Nat.not_lt.2 h hb.2.2))
  case fault1 => exact fun hup h hu => mfault ((Chip.measFault_of_up hup).trans ((if_pos h).trans (if_pos hu)))
  case fault2 =>
    intro hup h
    exact mfault ((Chip.measFault_of_up hup).trans ((if_neg (by rw [h]; decide)).trans (if_pos h)))
  case fault3 =>
    intro hup h hu
    exact mfault ((Chip.measFault_of_up hup).trans
      ((if_neg (by rw [h]; decide)).trans ((if_neg (by rw [h]; decide)).trans ((if_pos h).trans (if_pos hu)))))
  case faultNo => exact fun h => mfault (Chip.measFault_of_unlisted h)
  case calStart =>
    intro hruns hen hcal d t may
    exact ⟨fun hmay => calStart (Chip.calStart_of_may (t := t) hruns hen hcal rfl hmay),
      fun hno => calStart (Chip.calStart_of_skip (t := t) hruns hen hcal rfl hno)⟩
  case calStartNo => exact fun h => calStart (Chip.calStart_of_rest h)
  case calEnd =>
    intro hruns hcal left
    exact calEnd (if_neg (not_or (not_bnot hruns) (not_bnot hcal)))
  case calEndNo => exact fun h => calEnd (if_pos (h.elim (fun h => or_inl (bnot h) _) (fun h => or_inr _ (bnot h))))
  case arrive =>
    exact fun hup hrx sp pre behind rest hflight hpre hsp hbehind hrest =>
      arrive (Chip.setpointArrive_of_oldest hup hrx hflight hpre hsp hbehind hrest)
  case arriveNo =>
    exact fun h => arrive (if_pos (h.elim (fun h => or_inr _ (bnot h)) (fun h => or_inl (or_inr _ (bnot h)) _)))
  case driver1 => exact fun hup h => dfault ((Chip.driverFault_of_up hup).trans (if_pos h))
  case driver2 =>
    intro hup h ho
    exact dfault ((Chip.driverFault_of_up hup).trans ((if_neg (by rw [h]; decide)).trans ((if_pos h).trans (if_pos ho))))
  case driver3 =>
    intro hup h ho
    exact dfault ((Chip.driverFault_of_up hup).trans
      ((if_neg (by rw [h]; decide)).trans ((if_neg (by rw [h]; decide)).trans ((if_pos h).trans (if_pos ho)))))
  case driver4 =>
    intro hup h ho
    exact dfault ((Chip.driverFault_of_up hup).trans ((if_neg (by rw [h]; decide)).trans
      ((if_neg (by rw [h]; decide)).trans ((if_neg (by rw [h]; decide)).trans ((if_pos h).trans (if_pos ho))))))
  case driverNo => exact fun h => dfault (Chip.driverFault_of_unlisted h)
  case trip => exact fun cause fenced => rfl
  case enable =>
    intro ht
    refine ⟨fun ha => ⟨fun hon => ?_, fun hoff => ?_⟩, fun ha => gives_of_takes rfl ht (if_pos (bnot ha))⟩
    · exact gives_of_takes rfl ht ((if_neg (not_bnot ha)).trans (congrArg (Prod.mk Acc.done) (if_pos hon)))
    · exact gives_of_takes rfl ht ((if_neg (not_bnot ha)).trans (congrArg (Prod.mk Acc.done) (if_neg (ne_true_of_eq_false hoff))))
  case disable => exact fun ht => gives_of_takes rfl ht rfl
  case clear =>
    intro ht
    refine ⟨fun ha hl hp => gives_of_takes rfl ht (if_pos (Chip.mayClear_iff.2 ⟨ha, hl, hp⟩)), fun hno => ?_⟩
    refine gives_of_takes rfl ht (if_neg fun hmay => ?_)
    obtain ⟨ha, hl, hp⟩ := Chip.mayClear_iff.1 hmay
    rcases hno with h | h | h
    · exact ne_true_of_eq_false h ha
    · exact ne_true_of_eq_false h hl
    · exact ne_true_of_eq_false hp h
  case down =>
    intro hdown
    have hno : ¬c.fieldUp = true := ne_true_of_eq_false hdown
    exact ⟨burst (if_pos (.inl (bnot hdown))), bridge (Chip.bridge_of_stopped fun h => hno h.1),
      pulse (Chip.pulse_of_stopped fun h => hno h.1), snap (Chip.snapshot_of_stopped fun h => hno h.1),
      shunt (if_neg (not_and_left (not_and_left (not_and_left hno _) _) _)), retry (if_neg fun h => hno h.1),
      arrive (if_pos (or_inl (or_inl (bnot hdown) _) _)), dfault (if_pos (bnot hdown))⟩

end Sys2Proof.Proofs
end

section
/-! PROOF. Pins (20_pins_and_muxing.md) and the CAN controllers (21_isobus_bridge.md). -/

namespace Sys2Proof.Machine

/-! A number put together bit by bit -/

/-- The number whose bits below n are those of a predicate. -/
def ofBitsBelow (g : Nat → Bool) (n : Nat) : Nat := (List.range n).foldl (fun a m => a + (if g m then 2 ^ m else 0)) 0

theorem ofBitsBelow_succ (g : Nat → Bool) (n : Nat) : ofBitsBelow g (n + 1) = ofBitsBelow g n + (if g n then 2 ^ n else 0) := by
  rw [ofBitsBelow, List.range_succ, List.foldl_append]
  rfl

theorem ofBitsBelow_lt (g : Nat → Bool) (n : Nat) : ofBitsBelow g n < 2 ^ n := by
  induction n with
  | zero => exact Nat.two_pow_pos 0
  | succ n ih =>
    have hbit : (if g n then 2 ^ n else 0) ≤ 2 ^ n := by
      split
      · exact Nat.le_refl _
      · exact Nat.zero_le _
    rw [ofBitsBelow_succ, Nat.pow_succ]
    omega

theorem bit_ofBitsBelow {g : Nat → Bool} {n b : Nat} (h : b < n) : bit (ofBitsBelow g n) b = g b := by
  rw [bit_eq_testBit]
  induction n with
  | zero => exact absurd h (Nat.not_lt_zero _)
  | succ n ih =>
    rw [ofBitsBelow_succ, Nat.add_comm]
    rcases Nat.lt_succ_iff_lt_or_eq.1 h with hlt | rfl
    · cases hg : g n with
      | false => exact (congrArg (Nat.testBit · b) (Nat.zero_add _)).trans (ih hlt)
      | true => exact (Nat.testBit_two_pow_add_gt hlt _).trans (ih hlt)
    · have hzero := Nat.testBit_lt_two_pow (ofBitsBelow_lt g b)
      cases hg : g b with
      | false => exact (congrArg (Nat.testBit · b) (Nat.zero_add _)).trans hzero
      | true => exact (Nat.testBit_two_pow_add_eq _ b).trans (congrArg (!·) hzero)

section
variable {s : Chip}

/-! Output latches (R441, R443) -/

/-- Where the mask is 1 a bit of the latch takes the value; elsewhere it stays. -/
theorem Chip.bit_latchWrite {n value mask b : Nat} (hb : b < 16) :
    bit ((s.latchWrite n value mask).get (Reg.PIN_OUT n)) b = if bit mask b then bit value b else bit (s.get (Reg.PIN_OUT n)) b := by
  have hword : (s.latchWrite n value mask).get (Reg.PIN_OUT n) =
      ofBitsBelow (fun m => bit (if bit mask m then value else s.get (Reg.PIN_OUT n)) m) 16 :=
    (Chip.get_put_same s _ _).trans (Nat.mod_eq_of_lt (ofBitsBelow_lt _ 16))
  rw [hword, bit_ofBitsBelow hb]
  exact apply_ite (bit · b) _ _ _

/-! A claimed port of any unit (R206) -/

section
variable {e : Fin 32} {p v : Nat} (hup : s.coreUp = true ∧ s.engState e.val = 1) (hlisted : portReserved p = false) (hclaim : s.claim e.val p = 2)
include hup hlisted hclaim

theorem Chip.portDoBy_of_free :
    s.portDoBy e p v = (s.portWrite e.val p v).2.respond (.engine e) p (s.portWrite e.val p v).1 := by
  have hfree : ¬(portReserved p || s.claim e.val p != 2) = true :=
    not_or (ne_true_of_eq_false hlisted) fun h => bne_iff_ne.1 h hclaim
  exact (if_neg (Chip.not_idle_of_run hup)).trans (if_neg hfree)

theorem Chip.portDoBy_of_busy (hbusy : s.portBusy p = true) : s.portDoBy e p v = s.respond (.engine e) p .busy := by
  have h : s.portWrite e.val p v = (.busy, s) := if_pos hbusy
  rw [Chip.portDoBy_of_free hup hlisted hclaim, h]

variable {t : Chip} (hbusy : s.portBusy p = false)
include hbusy

theorem Chip.portDoBy_of_taken (hdo : s.portDo p v = (true, t)) : s.portDoBy e p v = t.respond (.engine e) p .done := by
  have h : s.portWrite e.val p v = (.done, t) := by
    unfold Chip.portWrite
    rw [hdo, hbusy]
    rfl
  rw [Chip.portDoBy_of_free hup hlisted hclaim, h]

theorem Chip.portDoBy_of_turned {b i : Nat} (hdo : s.portDo p v = (false, s)) (hblock : portBlock p = (b, i)) :
    s.portDoBy e p v = (s.drew.reject e.val b i (s.free % 65536)).respond (.engine e) p .reject := by
  have h : s.portWrite e.val p v = (.reject, s.drew.reject e.val b i (s.free % 65536)) := by
    unfold Chip.portWrite
    rw [hdo, hbusy, hblock]
    rfl
  rw [Chip.portDoBy_of_free hup hlisted hclaim, h]

end

/-! The ports of the pins (Table PIN-3) -/

theorem portReserved_pin (n : Fin 4) (m : Fin 16) : portReserved (0x4100 + 16 * n.val + m.val) = false := by
  revert n m; decide

theorem pin_place (n : Fin 4) (m : Fin 16) :
    (0x4100 + 16 * n.val + m.val) / 0x1000 = 4 ∧ (0x4100 + 16 * n.val + m.val) % 0x1000 = 0x100 + 16 * n.val + m.val := by
  omega

theorem Chip.portBusy_pin (n : Fin 4) (m : Fin 16) : s.portBusy (0x4100 + 16 * n.val + m.val) = s.occPin n.val := by
  obtain ⟨hblock, hoff⟩ := pin_place n m
  have hn : (0x100 + 16 * n.val + m.val - 0x100) / 16 = n.val := by omega
  have hlow : ¬0x100 + 16 * n.val + m.val < 0x20 := by omega
  have hin : 0x100 ≤ 0x100 + 16 * n.val + m.val ∧ 0x100 + 16 * n.val + m.val < 0x140 := by omega
  unfold Chip.portBusy
  dsimp only
  rw [hblock, hoff]
  rw [if_neg hlow, if_pos hin, hn]
  rfl

theorem Chip.portDo_pin (n : Fin 4) (m : Fin 16) (v : Nat) :
    s.portDo (0x4100 + 16 * n.val + m.val) v = (true, s.latchWrite n.val (if bit v 0 then 65535 else 0) (2 ^ m.val)) := by
  obtain ⟨hblock, hoff⟩ := pin_place n m
  have hn : (0x100 + 16 * n.val + m.val - 0x100) / 16 = n.val := by omega
  have hm : (0x100 + 16 * n.val + m.val) % 16 = m.val := by omega
  have hlow : ¬0x100 + 16 * n.val + m.val < 4 := by omega
  have hin : 0x100 ≤ 0x100 + 16 * n.val + m.val ∧ 0x100 + 16 * n.val + m.val < 0x140 := by omega
  unfold Chip.portDo
  dsimp only
  rw [hblock, hoff]
  refine (if_neg hlow).trans ((if_pos hin).trans ?_)
  rw [hn, hm]

/-! Edge capture, wakes and the hold (R444, R447, R448) -/

theorem Chip.evcap_of_pin {k p : Nat} {edge : Bool} (hp : s.evcapPin k = some p) (hup : s.coreUp = true) (hheld : s.flag Reg.PIN_STAT = false)
    (hdigital : s.wkB (Reg.PIN_PCFG_ANALOG p (8 + k)) = false) (hhit : edgeHit (s.wk (Reg.PIN_PCFG_EDGE p (8 + k))) edge = true) :
    s.evcap k edge =
      ((s.put (Reg.PIN_EVCAP_T k) ((s.ct.toNat * 2 ^ 32 + s.ctFrac.toNat + 2 ^ 96 - (2 + s.wk (Reg.PIN_PCFG_FILT p (8 + k))) * 5 * 2 ^ 31) / 2 ^ 32
        % 2 ^ 32)).inc (Reg.PIN_EVCAP_CNT k)).fire (80 + k) 0 := by
  unfold Chip.evcap
  rw [hp]
  exact if_neg (not_or (not_or (not_or (not_bnot hup) (ne_true_of_eq_false hheld)) (ne_true_of_eq_false hdigital)) (not_bnot hhit))

theorem Chip.evcap_of_none {k : Nat} {edge : Bool} (h : s.evcapPin k = none ∨ s.flag Reg.PIN_STAT = true) : s.evcap k edge = s := by
  unfold Chip.evcap
  rcases hp : s.evcapPin k with _ | p
  · rfl
  · exact if_pos (or_inl (or_inl (or_inr _ (h.resolve_left (by rw [hp]; nofun))) _) _)

theorem Chip.releasePads_of_held (h : s.flag Reg.PIN_STAT = true) :
    s.releasePads = ({ s with pin := { s.pin with heldDrive := [], heldLevel := [], heldPull := [] } } : Chip).put Reg.PIN_STAT 0 := if_pos h

/-! The CAN controllers (R452 to R454) -/

section
variable {j : Nat}

/-- Bit timing that CTL.ENABLE takes (R452). -/
def Chip.canTimed (s : Chip) (j : Nat) : Prop :=
  let t1 := s.get (Reg.CAN_CFG_TSEG1 j)
  let t2 := s.get (Reg.CAN_CFG_TSEG2 j)
  let sj := s.get (Reg.CAN_CFG_SJW j)
  8 ≤ 1 + t1 + t2 ∧ 1 + t1 + t2 ≤ 25 ∧ 2 ≤ t1 ∧ t1 ≤ 63 ∧ 2 ≤ t2 ∧ t2 ≤ 16 ∧ 1 ≤ sj ∧ sj ≤ t2

theorem Chip.canEnable_of_timed {r : Nat} (ht : s.canTimed j) (ha : s.active (43 + j) = true) :
    s.canEnable r j =
      (.done, ((s.put (Reg.CAN_STAT_EN j) 1).setCn j
        { s.cn j with onBus := none, abort := false, offDue := false, recover := false, since := s.ct.toNat }).put (Reg.CAN_STAT_STATE j) 3) := by
  obtain ⟨h8, h25, h1lo, h1hi, h2lo, h2hi, hslo, hshi⟩ := ht
  have hon : (s.put (Reg.CAN_STAT_EN j) 1).flag (Reg.CAN_STAT_EN j) = true := by
    rw [Chip.flag, Chip.get_put_same]
    rfl
  have hrejoin : (s.put (Reg.CAN_STAT_EN j) 1).canRejoin j = _ := if_neg (not_bnot hon)
  refine (if_neg ?_).trans (congrArg (Prod.mk Acc.done) hrejoin)
  exact not_or_intro (Nat.not_lt.2 h8) (not_or_intro (Nat.not_lt.2 h25) (not_or_intro (Nat.not_lt.2 h1lo) (not_or_intro (Nat.not_lt.2 h1hi)
    (not_or_intro (Nat.not_lt.2 h2lo) (not_or_intro (Nat.not_lt.2 h2hi) (not_or_intro (Nat.not_lt.2 hslo)
    (not_or_intro (Nat.not_lt.2 hshi) (not_bnot ha))))))))

theorem Chip.canEnable_of_refused {r : Nat} (h : ¬s.canTimed j ∨ s.active (43 + j) ≠ true) : s.canEnable r j = s.no r 16 j 0x0004 := by
  refine if_pos ?_
  refine Classical.byContradiction fun hno => ?_
  have ht : s.canTimed j := ⟨Nat.not_lt.1 fun h => hno (.inl h), Nat.not_lt.1 fun h => hno (.inr (.inl h)),
    Nat.not_lt.1 fun h => hno (.inr (.inr (.inl h))), Nat.not_lt.1 fun h => hno (.inr (.inr (.inr (.inl h)))),
    Nat.not_lt.1 fun h => hno (.inr (.inr (.inr (.inr (.inl h))))), Nat.not_lt.1 fun h => hno (.inr (.inr (.inr (.inr (.inr (.inl h)))))),
    Nat.not_lt.1 fun h => hno (.inr (.inr (.inr (.inr (.inr (.inr (.inl h))))))),
    Nat.not_lt.1 fun h => hno (.inr (.inr (.inr (.inr (.inr (.inr (.inr (.inl h))))))))⟩
  exact h.elim (· ht) fun h => hno (.inr (.inr (.inr (.inr (.inr (.inr (.inr (.inr (bnot (Bool.eq_false_iff.2 h))))))))))

theorem Chip.canRecover_of_off {r : Nat} (hst : s.get (Reg.CAN_STAT_STATE j) = 2) (ha : s.active (43 + j) = true) :
    s.canRecover r j = if (s.cn j).recover then s.ok else (s.setCn j { s.cn j with recover := true, since := s.ct.toNat }).ok :=
  if_neg (not_or_intro (not_not_intro hst) (not_bnot ha))

/-! Frames (R454, R456, R459) -/

theorem Chip.canReceive_of_low {f : CanFrame} (hlive : s.canLive j = true) (hmode : s.get (Reg.CAN_CFG_MODE j) ≠ 2)
    (hrec : s.get (Reg.CAN_STAT_REC j) ≤ 127) :
    s.canReceive j f = ((s.put (Reg.CAN_STAT_REC j) (s.get (Reg.CAN_STAT_REC j) - 1)).canErrState j).canTake j f := by
  refine (if_neg (not_or_intro (not_bnot hlive) hmode)).trans ?_
  dsimp only
  rw [if_neg (Nat.not_lt.2 hrec), if_neg (Nat.not_lt.2 hrec)]

theorem Chip.canReceive_of_high {f : CanFrame} (hlive : s.canLive j = true) (hmode : s.get (Reg.CAN_CFG_MODE j) ≠ 2)
    (hrec : 127 < s.get (Reg.CAN_STAT_REC j)) :
    s.canReceive j f = ((s.put (Reg.CAN_STAT_REC j) (119 + s.free % 9)).canErrState j).drew.canTake j f := by
  refine (if_neg (not_or_intro (not_bnot hlive) hmode)).trans ?_
  dsimp only
  rw [if_pos hrec, if_pos hrec]

theorem Chip.canReceive_of_deaf {f : CanFrame} (h : s.canLive j ≠ true ∨ s.get (Reg.CAN_CFG_MODE j) = 2) : s.canReceive j f = s :=
  if_pos (h.imp (fun h => bnot (Bool.eq_false_iff.2 h)) id)

theorem Chip.canTxDone_of_idle {o : CanTxOutcome} (h : s.canLive j ≠ true ∨ (s.cn j).onBus = none) : s.canTxDone j o = s := by
  by_cases hlive : s.canLive j = true
  · refine (if_neg (not_bnot hlive)).trans ?_
    rw [h.resolve_left (not_not_intro hlive)]
  · exact if_pos (bnot (Bool.eq_false_iff.2 hlive))

section
variable {b : Nat} {u : Chip} (hlive : s.canLive j = true) (hbus : (s.cn j).onBus = some b)
  (hu : s.setCn j { s.cn j with onBus := none, abort := false } = u)
include hlive hbus hu

theorem Chip.canTxDone_lost :
    s.canTxDone j .lostArbitration = (if (s.cn j).abort then u.put (Reg.CAN_TXSTAT j b) 3 else u).canArbitrate j := by
  subst hu
  refine (if_neg (not_bnot hlive)).trans ?_
  rw [hbus]

theorem Chip.canTxDone_sent {y : Chip}
    (hy : (((u.put (Reg.CAN_TXSTAT j b) 2).inc (Reg.CAN_TX_CNT j)).put (Reg.CAN_STAT_TEC j) (s.get (Reg.CAN_STAT_TEC j) - 1)).canErrState j = y)
    (hmode : y.get (Reg.CAN_CFG_MODE j) ≠ 2) : s.canTxDone j .sent = y.canArbitrate j := by
  subst hu hy
  refine (if_neg (not_bnot hlive)).trans ?_
  rw [hbus]
  exact congrArg (fun z : Chip => z.canArbitrate j) (if_neg hmode)

theorem Chip.canTxDone_error (habort : (s.cn j).abort = false) (hst : s.get (Reg.CAN_STAT_STATE j) ≠ 1)
    (htec : s.get (Reg.CAN_STAT_TEC j) + 8 ≤ 255) :
    s.canTxDone j .error =
      (((u.put (Reg.CAN_STAT_TEC j) (s.get (Reg.CAN_STAT_TEC j) + 8)).inc (Reg.CAN_ERRFRAME_CNT j)).canErrState j).canArbitrate j := by
  have hactive : (u.get (Reg.CAN_STAT_STATE j) == 1) = false := by
    subst hu
    exact beq_eq_false_iff_ne.2 hst
  have hcount : u.get (Reg.CAN_STAT_TEC j) = s.get (Reg.CAN_STAT_TEC j) := by
    subst hu
    rfl
  refine (if_neg (not_bnot hlive)).trans ?_
  rw [hbus]
  dsimp only
  rw [hu, habort, if_neg Bool.false_ne_true, hactive, hcount]
  simp only [Bool.false_and, Bool.false_eq_true, if_false]
  rw [if_neg (Nat.not_lt.2 htec), Nat.min_eq_right htec]

end

/-! The ports of the controllers (Table CAN-3) -/

theorem canPort_place {off : Nat} (hj : j < 2) (hoff : off < 0xA0) :
    canPort j off / 0x1000 = 5 ∧ canPort j off % 0x1000 / 256 = j ∧ canPort j off % 0x1000 % 256 = off ∧ canPort j off % 0x1000 < 0x200 := by
  unfold canPort
  omega

theorem portReserved_canPort {off : Nat} (hj : j < 2) (hoff : off < 0xA0) : portReserved (canPort j off) = false := by
  have hlo : 0x5000 ≤ canPort j off := by unfold canPort; omega
  have hhi : canPort j off < 0x5200 := by unfold canPort; omega
  generalize canPort j off = p at hlo hhi
  simp [portReserved, reservedPorts]
  omega

theorem Chip.portBusy_canPort {off : Nat} (hj : j < 2) (hoff : off < 0xA0) : s.portBusy (canPort j off) = s.occCan j := by
  obtain ⟨hblock, hinst, -, -⟩ := canPort_place hj hoff
  unfold Chip.portBusy
  dsimp only
  rw [hblock, hinst]
  exact congrArg s.occCan (Nat.mod_eq_of_lt hj)

theorem Chip.portDo_canPort {off v : Nat} (hj : j < 2) (hoff : off < 0xA0) (hlisted : canPortIs off = true) :
    s.portDo (canPort j off) v = s.canPortWrite j off v := by
  obtain ⟨hblock, hinst, hmod, hlt⟩ := canPort_place hj hoff
  unfold Chip.portDo
  dsimp only
  rw [hblock, hinst, hmod]
  exact if_pos ⟨hlt, hlisted⟩

theorem portBlock_canPort {off : Nat} (hj : j < 2) (hoff : off < 0xA0) : portBlock (canPort j off) = (16, j) := by
  obtain ⟨hblock, hinst, -, -⟩ := canPort_place hj hoff
  unfold portBlock
  dsimp only
  rw [hblock, hinst]
  exact congrArg (Prod.mk 16) (Nat.mod_eq_of_lt hj)

theorem Chip.canPortWrite_of_fenced {off v : Nat} (h : s.active (43 + j) ≠ true) : s.canPortWrite j off v = (false, s) :=
  if_pos (bnot (Bool.eq_false_iff.2 h))

section
variable {v : Nat} (ha : s.active (43 + j) = true)
include ha

theorem Chip.canPortWrite_buffer {q w : Nat} (hq : q < 8) (hw : w < 4) :
    s.canPortWrite j (16 * q + w) v = (true, s.setCn j { s.cn j with tx := (s.cn j).tx.put 0 (4 * q + w) v }) := by
  have hlow : 16 * q + w < 0x80 := by omega
  have hdiv : (16 * q + w) / 16 = q := by omega
  have hmod : (16 * q + w) % 16 = w := by omega
  refine (if_neg (not_bnot ha)).trans ((if_pos hlow).trans ?_)
  rw [hdiv, hmod]
  rcases w with _ | _ | _ | _ | w
  · rfl
  · rfl
  · rfl
  · rfl
  · omega

theorem Chip.canPortWrite_go {q : Nat} (hq : q < 8) : s.canPortWrite j (16 * q + 4) v = s.canGo j q := by
  have hlow : 16 * q + 4 < 0x80 := by omega
  have hdiv : (16 * q + 4) / 16 = q := by omega
  have hmod : (16 * q + 4) % 16 = 4 := by omega
  refine (if_neg (not_bnot ha)).trans ((if_pos hlow).trans ?_)
  rw [hdiv, hmod]
  rfl

theorem Chip.canPortWrite_abort {q : Nat} (hq : q < 8) : s.canPortWrite j (16 * q + 5) v = s.canAbort j q := by
  have hlow : 16 * q + 5 < 0x80 := by omega
  have hdiv : (16 * q + 5) / 16 = q := by omega
  have hmod : (16 * q + 5) % 16 = 5 := by omega
  refine (if_neg (not_bnot ha)).trans ((if_pos hlow).trans ?_)
  rw [hdiv, hmod]
  rfl

theorem Chip.canPortWrite_session {q k : Nat} (hq : q < 8) (hk : k < 4) :
    s.canPortWrite j (0x80 + 4 * q + k) v =
      if k = 0 then (true, s.setSession j q { s.session j q with pgn := v % 2 ^ 18, etp := bit v 18 })
      else if k = 1 then (true, s.setSession j q { s.session j q with sa := v % 256, da := v / 256 % 256 })
      else if k = 2 then s.sessOpenPort j q v
      else (true, s.sessClosePort j q) := by
  have hhigh : ¬0x80 + 4 * q + k < 0x80 := by omega
  have hlow : 0x80 + 4 * q + k < 0xA0 := by omega
  have hdiv : (0x80 + 4 * q + k - 0x80) / 4 = q := by omega
  have hmod : (0x80 + 4 * q + k - 0x80) % 4 = k := by omega
  refine (if_neg (not_bnot ha)).trans ((if_neg hhigh).trans ((if_pos hlow).trans ?_))
  rw [hdiv, hmod]
  rcases k with _ | _ | _ | k
  · rfl
  · rfl
  · rfl
  · rfl

end

theorem Chip.canGo_of_ready {q : Nat} (hen : s.flag (Reg.CAN_STAT_EN j) = true) (hdrives : s.canDrives j = true)
    (hfree : s.get (Reg.CAN_TXSTAT j q) ≠ 1) : s.canGo j q = (true, (s.put (Reg.CAN_TXSTAT j q) 1).canArbitrate j) :=
  if_neg (not_or_intro (not_bnot hen) (not_or_intro (not_bnot hdrives) hfree))

theorem Chip.canGo_of_refused {q : Nat}
    (h : s.flag (Reg.CAN_STAT_EN j) ≠ true ∨ s.canDrives j = false ∨ s.get (Reg.CAN_TXSTAT j q) = 1) : s.canGo j q = (false, s) :=
  if_pos (h.imp (fun h => bnot (Bool.eq_false_iff.2 h)) (Or.imp bnot id))

/-- A size that the session's kind can carry (R460). -/
def CanSess.fits (x : CanSess) (size : Nat) : Prop :=
  (x.etp = true ∧ 1786 ≤ size ∧ size ≤ 117440505) ∨ (x.etp = false ∧ 9 ≤ size ∧ size ≤ 1785)

theorem sessGood_iff {x : CanSess} {size : Nat} :
    (if x.etp then decide (1786 ≤ size) && decide (size ≤ 117440505) else decide (9 ≤ size) && decide (size ≤ 1785)) = true ↔ x.fits size := by
  unfold CanSess.fits
  cases x.etp with
  | false => simp
  | true => simp

theorem Chip.sessOpenPort_of_fits {q size : Nat} (hfree : s.sessOpen j q = false) (h : (s.session j q).fits size) :
    s.sessOpenPort j q size =
      (true, s.sessBegin j q (if (s.session j q).etp then 2 else 1) (s.session j q).pgn (s.session j q).sa (s.session j q).da size) :=
  if_neg (not_or_intro (ne_true_of_eq_false hfree) (not_bnot (sessGood_iff.2 h)))

theorem Chip.sessOpenPort_of_unfit {q size : Nat} (h : s.sessOpen j q = true ∨ ¬(s.session j q).fits size) :
    s.sessOpenPort j q size = (false, s) :=
  if_pos (h.imp id fun h => bnot (Bool.eq_false_iff.2 fun hgood => h (sessGood_iff.1 hgood)))

end
end

/-! The commands that write a port of a controller -/

section
variable {s : State} {e : Fin 32} {c : Fin 2} {v : Nat} {t : Chip} {i : Instr} {off : Nat}

/-- The engine runs, holds the port for itself, and no test has the controller. -/
def canReached (s : Chip) (e : Fin 32) (j off : Nat) : Prop :=
  (s.coreUp = true ∧ s.engState e.val = 1) ∧ s.claim e.val (canPort j off) = 2 ∧ s.occCan j = false

/-- A port of a controller that an engine can write, or that Table CAN-3 lists for a read. -/
def canWritten (off : Nat) : Prop := off < 0xA0 ∧ canPortIs off = true

/-- A command that is a write of this port of the controller by the engine. -/
def WritesCanPort (i : Instr) (e : Fin 32) (c : Fin 2) (off v : Nat) : Prop :=
  ∀ s : State, exec i s = s.run fun d => d.portDoBy e (canPort c.val off) v

theorem canWritten_buffer {q k : Nat} (hq : q < 8) (hk : k < 6) : canWritten (16 * q + k) := by
  refine ⟨by omega, or_inl (or_inl (and_intro (decide_eq_true ?_) (decide_eq_true ?_)) _) _⟩
  · omega
  · omega

theorem canWritten_session {q k : Nat} (hq : q < 8) (hk : k < 4) : canWritten (0x80 + 4 * q + k) := by
  refine ⟨by omega, or_inl (or_inr _ (and_intro (decide_eq_true ?_) (decide_eq_true ?_))) _⟩
  · omega
  · omega

variable (hi : WritesCanPort i e c off v)
include hi

theorem gives_canPort_of_idle (h : ¬(s.chip.coreUp = true ∧ s.chip.engState e.val = 1)) : Gives i s s.chip :=
  gives_of_run (f := fun d => d.portDoBy e (canPort c.val off) v) (hi s) (Chip.portDoBy_of_idle h)

theorem gives_canPort_of_unclaimed (hup : s.chip.coreUp = true ∧ s.chip.engState e.val = 1)
    (h : s.chip.claim e.val (canPort c.val off) ≠ 2) : Gives i s (s.chip.trap e.val 3 (some (canPort c.val off))) :=
  gives_of_run (f := fun d => d.portDoBy e (canPort c.val off) v) (hi s) (Chip.portDoBy_of_unclaimed hup h)

variable (ho : canWritten off)
include ho

theorem gives_canPort_of_tested (hup : s.chip.coreUp = true ∧ s.chip.engState e.val = 1)
    (h : s.chip.claim e.val (canPort c.val off) = 2) (hocc : s.chip.occCan c.val = true) :
    Gives i s (s.chip.respond (.engine e) (canPort c.val off) .busy) :=
  gives_of_run (f := fun d => d.portDoBy e (canPort c.val off) v) (hi s)
    (Chip.portDoBy_of_busy hup (portReserved_canPort c.isLt ho.1) h ((Chip.portBusy_canPort c.isLt ho.1).trans hocc))

variable (hreached : canReached s.chip e c.val off)
include hreached

theorem gives_canPort_of_accepted (hdo : s.chip.canPortWrite c.val off v = (true, t)) :
    Gives i s (t.respond (.engine e) (canPort c.val off) .done) := by
  obtain ⟨hup, hclaim, hocc⟩ := hreached
  exact gives_of_run (f := fun d => d.portDoBy e (canPort c.val off) v) (hi s)
    (Chip.portDoBy_of_taken hup (portReserved_canPort c.isLt ho.1) hclaim ((Chip.portBusy_canPort c.isLt ho.1).trans hocc)
      ((Chip.portDo_canPort c.isLt ho.1 ho.2).trans hdo))

theorem gives_canPort_of_rejected (hdo : s.chip.canPortWrite c.val off v = (false, s.chip)) :
    Gives i s ((s.chip.drew.reject e.val 16 c.val (s.chip.free % 65536)).respond (.engine e) (canPort c.val off) .reject) := by
  obtain ⟨hup, hclaim, hocc⟩ := hreached
  exact gives_of_run (f := fun d => d.portDoBy e (canPort c.val off) v) (hi s)
    (Chip.portDoBy_of_turned hup (portReserved_canPort c.isLt ho.1) hclaim ((Chip.portBusy_canPort c.isLt ho.1).trans hocc)
      ((Chip.portDo_canPort c.isLt ho.1 ho.2).trans hdo) (portBlock_canPort c.isLt ho.1))

end

/-- The row's command writes its port. -/
def WritesCanRow (e : Fin 32) (c : Fin 2) (a : Instr × Nat) : Prop := canWritten a.2 ∧ ∃ v, WritesCanPort a.1 e c a.2 v

theorem canRows_write (e : Fin 32) (c : Fin 2) (t : Fin 8) (w : Fin 4) (w2 : Fin 2) (v : BitVec 32) :
    ∀ a ∈ ([(.canTxBufferWrite e c t w v, 16 * t.val + w.val), (.canTxGo e c t, 16 * t.val + 4), (.canTxAbort e c t, 16 * t.val + 5),
        (.sessionStage e c t w2 v, 0x80 + 4 * t.val + w2.val), (.sessionOpen e c t v, 0x82 + 4 * t.val),
        (.sessionClose e c t, 0x83 + 4 * t.val)] : List (Instr × Nat)),
      WritesCanRow e c a := by
  have hopen : 0x82 + 4 * t.val = 0x80 + 4 * t.val + 2 := by omega
  have hclose : 0x83 + 4 * t.val = 0x80 + 4 * t.val + 3 := by omega
  simp only [List.forall_mem_cons]
  refine ⟨⟨canWritten_buffer t.isLt (by omega), v.toNat, fun s => rfl⟩, ⟨canWritten_buffer t.isLt (by decide), 0, fun s => rfl⟩,
    ⟨canWritten_buffer t.isLt (by decide), 0, fun s => rfl⟩, ⟨canWritten_session t.isLt (by omega), v.toNat, fun s => rfl⟩,
    ⟨?_, v.toNat, fun s => rfl⟩, ⟨?_, 0, fun s => rfl⟩, nofun⟩
  · exact hopen ▸ canWritten_session t.isLt (by decide)
  · exact hclose ▸ canWritten_session t.isLt (by decide)

end Sys2Proof.Machine

namespace Sys2Proof.Proofs
open Sys2Proof.Machine

/-- Settles O59: each clause is one branch of the command, of the port's write, or of what happens at the pin or the controller. -/
theorem pinAndCanResults : Obligations.PinAndCanResults := by
  unfold Obligations.PinAndCanResults
  intro r e n m value mask v k edge i cc t w w2 f dominant s c latch j x q ses state tec rec_ enabled f43 live up pin port reached done turned
    rows pending size t1 t2 sj timing ctl
  have hrows : ∀ a ∈ rows, WritesCanRow e cc a := canRows_write e cc t w w2 v
  have yes {a : Instr} {off w' : Nat} {u : Chip} (hi : WritesCanPort a e cc off w') (ho : canWritten off) (hr : reached off)
      (h : c.canPortWrite j off w' = (true, u)) : done a off u := gives_canPort_of_accepted hi ho hr h
  have no {a : Instr} {off w' : Nat} (hi : WritesCanPort a e cc off w') (ho : canWritten off) (hr : reached off)
      (h : c.canPortWrite j off w' = (false, c)) : turned a off := gives_canPort_of_rejected hi ho hr h
  have hq : q < 8 := t.isLt
  have capture {u : Chip} (h : c.evcap k.val edge = u) : Gives (.evcapEdge k edge) s u :=
    gives_of_run (f := fun d => d.evcap k.val edge) rfl h
  have wake {u : Chip} (h : c.hviWakes i.val edge = u) : Gives (.hviWake i edge) s u :=
    gives_of_run (f := fun d => d.hviWakes i.val edge) rfl h
  have receive {u : Chip} (h : c.canReceive j f = u) : Gives (.canFrameReceive cc f) s u :=
    gives_of_run (f := fun d => d.canReceive j f) rfl h
  have error {u : Chip} (h : c.canBusError j dominant = u) : Gives (.canBusError cc dominant) s u :=
    gives_of_run (f := fun d => d.canBusError j dominant) rfl h
  have complete {o : CanTxOutcome} {u : Chip} (h : c.canTxDone j o = u) : Gives (.canTxComplete cc o) s u :=
    gives_of_run (f := fun d => d.canTxDone j o) rfl h
  have hopen : 0x82 + 4 * q = 0x80 + 4 * q + 2 := by omega
  have hclose : 0x83 + 4 * q = 0x80 + 4 * q + 3 := by omega
  refine ⟨?outSet, ?outClr, ?outTog, ?outWr, ?pinBit, ?pinTrap, ?latchBit, ?capture, ?captureNo, ?apply, ?mark, ?applyNo, ?markNo, ?hvi,
    ?hviNo, ?wake, ?wakeNo, ?holdRel, ?canEnable, ?integrated, ?integratedNo, ?canDisable, ?recover, ?busOff, ?busOffNo, ?recovered,
    ?recoveredNo, ?receiveLow, ?receiveHigh, ?receiveNo, ?error, ?errorNo, ?complete, ?completeNo, ?idle, ?unclaimed, ?tested, ?fenced,
    ?buffer, ?go, ?goNo, ?abortBus, ?abort, ?abortNo, ?stage, ?sessOpen, ?sessClose, ?sessCloseFree, ?timeout, ?timeoutNo⟩
  case outSet => exact fun ht => gives_of_takes rfl ht rfl
  case outClr => exact fun ht => gives_of_takes rfl ht rfl
  case outTog => exact fun ht => gives_of_takes rfl ht rfl
  case outWr => exact fun ht => gives_of_takes rfl ht rfl
  case pinBit =>
    exact fun hup hclaim hocc => gives_of_run (f := fun d => d.portDoBy e (0x4100 + 16 * n.val + m.val) v.toNat) rfl
      (Chip.portDoBy_of_taken hup (portReserved_pin n m) hclaim ((Chip.portBusy_pin n m).trans hocc) (Chip.portDo_pin n m v.toNat))
  case pinTrap =>
    exact fun hup hclaim => gives_of_run (f := fun d => d.portDoBy e (0x4100 + 16 * n.val + m.val) v.toNat) rfl
      (Chip.portDoBy_of_unclaimed hup hclaim)
  case latchBit => exact fun val msk b hb => Chip.bit_latchWrite hb
  case capture => exact fun p hp hup hheld hdigital hhit => capture (Chip.evcap_of_pin hp hup hheld hdigital hhit)
  case captureNo => exact fun h => capture (Chip.evcap_of_none h)
  case apply => exact fun h => gives_of_run (f := fun d => d.strobeEnds true) rfl ((if_pos rfl).trans (if_pos h))
  case mark => exact fun h => gives_of_run (f := fun d => d.strobeEnds false) rfl ((if_neg Bool.false_ne_true).trans (if_pos h))
  case applyNo =>
    exact fun h => gives_of_run (f := fun d => d.strobeEnds true) rfl ((if_pos rfl).trans (if_neg (ne_true_of_eq_false h)))
  case markNo =>
    exact fun h => gives_of_run (f := fun d => d.strobeEnds false) rfl
      ((if_neg Bool.false_ne_true).trans (if_neg (ne_true_of_eq_false h)))
  case hvi =>
    exact fun hup hocc => gives_of_run (f := fun d => d.hviLevel i.val edge) rfl
      (if_neg (not_or (not_bnot hup) (ne_true_of_eq_false hocc)))
  case hviNo =>
    exact fun h => gives_of_run (f := fun d => d.hviLevel i.val edge) rfl
      (if_pos (h.elim (fun h => or_inl (bnot h) _) (fun h => or_inr _ h)))
  case wake => exact fun hdue hw hhit => wake (if_pos ⟨Bool.or_eq_true_iff.2 hdue, hw, hhit⟩)
  case wakeNo =>
    intro h
    refine wake (if_neg fun hb => ?_)
    rcases h with ⟨hopen, hsleep⟩ | h
    · exact not_or (ne_true_of_eq_false hopen) (ne_true_of_eq_false hsleep) hb.1
    · exact hb.2.1 h
  case holdRel =>
    intro ht
    refine ⟨fun hheld => gives_of_takes rfl ht ((if_pos hheld).trans ?_), fun h => gives_of_takes rfl ht (if_neg (ne_true_of_eq_false h))⟩
    rw [Chip.releasePads_of_held hheld]
    rfl
  case canEnable =>
    intro ht
    refine ⟨fun htimed ha => gives_of_takes rfl ht (Chip.canEnable_of_timed htimed ha), fun h => ?_⟩
    exact gives_of_takes rfl ht (Chip.canEnable_of_refused h)
  case integrated =>
    exact fun hup hen hst ha hocc => gives_of_run (f := fun d => d.canIntegrated j) rfl
      (if_pos (and_intro (and_intro (and_intro (and_intro hup hen) (beq_iff_eq.2 hst)) ha) (bnot hocc)))
  case integratedNo =>
    intro h
    refine gives_of_run (f := fun d => d.canIntegrated j) rfl (if_neg ?_)
    rcases h with h | h | h | h
    · exact not_and_left (not_and_left (not_and_left (not_and_right _ h) _) _) _
    · exact not_and_left (not_and_left (not_and_right _ fun h3 => h (eq_of_beq h3)) _) _
    · exact not_and_left (not_and_right _ h) _
    · exact not_and_right _ (not_bnot h)
  case canDisable => exact fun ht => gives_of_takes rfl ht rfl
  case recover =>
    intro ht
    refine ⟨fun hst ha hrec => ?_, fun hst ha hrec => ?_, fun h => ?_⟩
    · exact gives_of_takes rfl ht ((Chip.canRecover_of_off hst ha).trans (if_neg (ne_true_of_eq_false hrec)))
    · exact gives_of_takes rfl ht ((Chip.canRecover_of_off hst ha).trans (if_pos hrec))
    · exact gives_of_takes rfl ht (if_pos (h.imp id fun h => bnot (Bool.eq_false_iff.2 h)))
  case busOff =>
    exact fun hlive hoff => gives_of_run (f := fun d => d.canBusOff j) rfl (if_neg (not_or (not_bnot hlive) (not_bnot hoff)))
  case busOffNo => exact fun h => gives_of_run (f := fun d => d.canBusOff j) rfl (if_pos (or_inr _ (bnot h)))
  case recovered =>
    exact fun hup hst hrec => gives_of_run (f := fun d => d.canRecovered j) rfl
      (if_pos (and_intro (and_intro hup (beq_iff_eq.2 hst)) hrec))
  case recoveredNo =>
    intro h
    refine gives_of_run (f := fun d => d.canRecovered j) rfl (if_neg ?_)
    exact h.elim (fun h => not_and_left (not_and_right _ fun h2 => h (eq_of_beq h2)) _) (fun h => not_and_right _ (ne_true_of_eq_false h))
  case receiveLow => exact fun hlive hmode hrec => receive (Chip.canReceive_of_low hlive hmode hrec)
  case receiveHigh =>
    intro hlive hmode hrec
    have hmod : c.free % 9 < 9 := Nat.mod_lt _ (by decide)
    refine ⟨119 + c.free % 9, Nat.le_add_right _ _, ?_, receive (Chip.canReceive_of_high hlive hmode hrec)⟩
    exact Nat.add_le_add_left (Nat.lt_succ_iff.1 hmod) 119
  case receiveNo => exact fun h => receive (Chip.canReceive_of_deaf h)
  case error =>
    intro hlive u
    have hgo : c.canBusError j dominant = (if u.get (Reg.CAN_CFG_MODE j) = 0 then u.inc (Reg.CAN_ERRFRAME_CNT j) else u) :=
      if_neg (not_bnot hlive)
    exact ⟨fun h => error (hgo.trans (if_pos h)), fun h => error (hgo.trans (if_neg h))⟩
  case errorNo => exact fun h => error (if_pos (bnot (Bool.eq_false_iff.2 h)))
  case complete =>
    intro b o hlive hbus u
    refine ⟨?_, ?_, ?_, ?_⟩
    · rintro rfl habort
      exact complete ((Chip.canTxDone_lost (u := u) hlive hbus rfl).trans (by rw [if_neg (ne_true_of_eq_false habort)]))
    · rintro rfl habort
      exact complete ((Chip.canTxDone_lost (u := u) hlive hbus rfl).trans (by rw [if_pos habort]))
    · rintro rfl y hmode
      exact complete (Chip.canTxDone_sent (u := u) (y := y) hlive hbus rfl rfl hmode)
    · rintro rfl habort hst htec
      exact complete (Chip.canTxDone_error (u := u) hlive hbus rfl habort hst htec)
  case completeNo => exact fun h o => complete (Chip.canTxDone_of_idle h)
  case idle =>
    intro a ha h
    obtain ⟨-, _, hw⟩ := hrows a ha
    exact gives_canPort_of_idle hw h
  case unclaimed =>
    intro a ha hup h
    obtain ⟨-, _, hw⟩ := hrows a ha
    exact gives_canPort_of_unclaimed hw hup h
  case tested =>
    intro a ha hup h hocc
    obtain ⟨ho, _, hw⟩ := hrows a ha
    exact gives_canPort_of_tested hw ho hup h hocc
  case fenced =>
    intro a ha hr h
    obtain ⟨ho, _, hw⟩ := hrows a ha
    exact no hw ho hr (Chip.canPortWrite_of_fenced h)
  case buffer =>
    exact fun hr ha => yes (fun s => rfl) (canWritten_buffer hq (Nat.lt_of_lt_of_le w.isLt (by decide))) hr
      (Chip.canPortWrite_buffer ha hq w.isLt)
  case go =>
    exact fun hr ha hen hdrives hfree => yes (fun s => rfl) (canWritten_buffer hq (by decide)) hr
      ((Chip.canPortWrite_go ha hq).trans (Chip.canGo_of_ready hen hdrives hfree))
  case goNo =>
    exact fun hr ha h => no (fun s => rfl) (canWritten_buffer hq (by decide)) hr
      ((Chip.canPortWrite_go ha hq).trans (Chip.canGo_of_refused h))
  case abortBus =>
    exact fun hr ha hpend hbus => yes (fun s => rfl) (canWritten_buffer hq (by decide)) hr
      ((Chip.canPortWrite_abort ha hq).trans ((if_neg (not_not_intro hpend)).trans (if_pos hbus)))
  case abort =>
    exact fun hr ha hpend hbus => yes (fun s => rfl) (canWritten_buffer hq (by decide)) hr
      ((Chip.canPortWrite_abort ha hq).trans ((if_neg (not_not_intro hpend)).trans (if_neg hbus)))
  case abortNo =>
    exact fun hr ha hpend => no (fun s => rfl) (canWritten_buffer hq (by decide)) hr
      ((Chip.canPortWrite_abort ha hq).trans (if_pos hpend))
  case stage =>
    intro hr ha
    have hk : w2.val < 4 := Nat.lt_of_lt_of_le w2.isLt (by decide)
    have hwrite := Chip.canPortWrite_session (v := v.toNat) ha hq hk
    refine ⟨fun h0 => ?_, fun h1 => ?_⟩
    · exact yes (fun s => rfl) (canWritten_session hq hk) hr (hwrite.trans (if_pos h0))
    · have hne : w2.val ≠ 0 := by rw [h1]; decide
      exact yes (fun s => rfl) (canWritten_session hq hk) hr (hwrite.trans ((if_neg hne).trans (if_pos h1)))
  case sessOpen =>
    intro hr ha
    have ho : canWritten (0x82 + 4 * q) := hopen ▸ canWritten_session hq (by decide)
    have hwrite : c.canPortWrite j (0x82 + 4 * q) v.toNat = c.sessOpenPort j q v.toNat :=
      (congrArg (fun o => c.canPortWrite j o v.toNat) hopen).trans (Chip.canPortWrite_session ha hq (by decide))
    refine ⟨fun hfree hfits => yes (fun s => rfl) ho hr (hwrite.trans (Chip.sessOpenPort_of_fits hfree hfits)), fun h => ?_⟩
    refine no (fun s => rfl) ho hr (hwrite.trans (Chip.sessOpenPort_of_unfit (h.imp id fun h hfits => ?_)))
    rcases hfits with ⟨hetp, hlo, hhi⟩ | ⟨hetp, hlo, hhi⟩
    · rcases h with ⟨-, h⟩ | ⟨hno, -⟩
      · exact h.elim (Nat.not_lt.2 hlo) (Nat.not_lt.2 hhi)
      · exact ne_true_of_eq_false hno hetp
    · rcases h with ⟨hyes, -⟩ | ⟨-, h⟩
      · exact ne_true_of_eq_false hetp hyes
      · exact h.elim (Nat.not_lt.2 hlo) (Nat.not_lt.2 hhi)
  case sessClose =>
    intro hr ha hopened
    have hwrite : c.canPortWrite j (0x83 + 4 * q) 0 = (true, c.sessClosePort j q) :=
      (congrArg (fun o => c.canPortWrite j o 0) hclose).trans (Chip.canPortWrite_session ha hq (by decide))
    have hport : c.sessClosePort j q = c.sessClose j q 5 := if_pos hopened
    exact yes (fun s => rfl) (hclose ▸ canWritten_session hq (by decide)) hr (hwrite.trans (congrArg (Prod.mk true) hport))
  case sessCloseFree =>
    intro hr ha hfree
    have hwrite : c.canPortWrite j (0x83 + 4 * q) 0 = (true, c.sessClosePort j q) :=
      (congrArg (fun o => c.canPortWrite j o 0) hclose).trans (Chip.canPortWrite_session ha hq (by decide))
    have hport : c.sessClosePort j q = c := if_neg (ne_true_of_eq_false hfree)
    exact yes (fun s => rfl) (hclose ▸ canWritten_session hq (by decide)) hr (hwrite.trans (congrArg (Prod.mk true) hport))
  case timeout => exact fun hup h => gives_of_run (f := fun d => d.sessTimeout j q) rfl (if_pos (and_intro hup h))
  case timeoutNo =>
    exact fun h => gives_of_run (f := fun d => d.sessTimeout j q) rfl (if_neg (not_and_right _ (ne_true_of_eq_false h)))

end Sys2Proof.Proofs
end

section
/-! PROOF. Background work (22_background_work.md): scrubbing, the NOR, the configuration journal, the event log and margin scans. -/

namespace Sys2Proof.Machine

section
variable {s : Chip}

/-! Scrubbing (R468 to R470) -/

/-- The scrubber's pass over a memory goes on behind word i, or ends at it. -/
def Chip.scrubMoved (s : Chip) (b : Bkg) (m : EccMemory) (i : Nat) (last : Bool) : Chip :=
  let w := s.setBkg { b with scrubAt := b.scrubAt.put 0 (memIndex m) (if last = true then 0 else i + 1) }
  if last = true then w.inc Reg.BKG_SCRUB_PASS_CNT else w

theorem Chip.scrubMoved_rewrite {b : Bkg} {m : EccMemory} {i : Nat} {last : Bool} : (s.scrubMoved b m i last).bkg.rewrite = b.rewrite := by
  unfold Chip.scrubMoved
  split
  · rfl
  · rfl

/-- What the scrubber does with what it found in word i of memory m. -/
def Chip.scrubFound (u : Chip) (m : EccMemory) (i : Nat) (found : EccState) : Chip :=
  match found with
  | .clean => u
  | .correctable => ({ u with ecc := u.ecc.put 0 (memKey m i) 1 } : Chip).rewriteLater (memKey m i)
  | .uncorrectable =>
    let w : Chip := { u with ecc := u.ecc.put 0 (memKey m i) 2 }
    let a := w.ueAddr m i
    ((a.2.inc Reg.BKG_SCRUB_UE_CNT).put Reg.BKG_SCRUB_UE_ADDR a.1).fire 78 0

section
variable {m : EccMemory} {i : Nat} {found : EccState} (hruns : s.bkgRuns = true) (hen : s.wkB Reg.BKG_CFG_SCRUB_EN = true)
  (hi : s.bkg.scrubAt.get 0 (memIndex m) = i)
include hruns hen hi

theorem Chip.scrubTick_of_placed {p : Nat × Nat} (hp : memPlace m = some p) :
    s.scrubTick m found = (s.scrubMoved s.bkg m i (decide (i + 1 = p.2))).scrubFound m i found := by
  subst hi
  refine (if_neg (not_or (not_bnot hruns) (not_bnot hen))).trans ?_
  rw [hp]
  cases found with
  | clean => rfl
  | correctable => rfl
  | uncorrectable => rfl

theorem Chip.scrubTick_of_unplaced (hp : memPlace m = none) :
    s.scrubTick m found = (s.drew.scrubMoved s.bkg m i (bit s.free 0)).scrubFound m i found := by
  subst hi
  refine (if_neg (not_or (not_bnot hruns) (not_bnot hen))).trans ?_
  rw [hp]
  cases found with
  | clean => rfl
  | correctable => rfl
  | uncorrectable => rfl

end

theorem memKey_of_placed {m : EccMemory} {i : Nat} {p : Nat × Nat} (hp : memPlace m = some p) : memKey m i = p.1 + 4 * i := by
  unfold memKey
  rw [hp]

section
variable {u : Chip} {m : EccMemory} {i : Nat}

theorem Chip.scrubFound_of_room (h : u.bkg.rewrite.length < 16) :
    u.scrubFound m i .correctable =
      { u with ecc := u.ecc.put 0 (memKey m i) 1, bkg := { u.bkg with rewrite := u.bkg.rewrite ++ [memKey m i] } } := if_pos h

theorem Chip.scrubFound_of_full (h : 16 ≤ u.bkg.rewrite.length) :
    u.scrubFound m i .correctable = { u with ecc := u.ecc.put 0 (memKey m i) 1 } := if_neg (Nat.not_lt.2 h)

theorem Chip.scrubFound_uncorrectable_of_addr {a : Nat} {t : Chip}
    (ha : ({ u with ecc := u.ecc.put 0 (memKey m i) 2 } : Chip).ueAddr m i = (a, t)) :
    u.scrubFound m i .uncorrectable = ((t.inc Reg.BKG_SCRUB_UE_CNT).put Reg.BKG_SCRUB_UE_ADDR a).fire 78 0 := by
  unfold Chip.scrubFound
  dsimp only
  rw [ha]

end

theorem Chip.ueAddr_of_placed {m : EccMemory} {i : Nat} {p : Nat × Nat} (hp : memPlace m = some p) : s.ueAddr m i = (p.1 + 4 * i, s) := by
  unfold Chip.ueAddr
  rw [hp]

theorem Chip.ueAddr_of_unplaced {m : EccMemory} {i : Nat} (hp : memPlace m = none) (hpd : ∀ k : Fin 5, m ≠ .pd k) :
    s.ueAddr m i = (s.free, s.drew) := by
  unfold Chip.ueAddr
  rw [hp]
  cases m with
  | pd k => exact absurd rfl (hpd k)
  | sram => rfl
  | code e => rfl
  | cluster k => rfl
  | marks => rfl
  | tags => rfl
  | can c => rfl

theorem Chip.ueAddr_pd (k : Fin 5) {i : Nat} : s.ueAddr (.pd k) i = (0xF0000000 + i, s) := rfl

theorem Chip.not_scrubs {p : Bool} (h : ¬(s.bkgRuns = true ∧ p = true)) : (!s.bkgRuns || !p) = true := by
  cases hruns : s.bkgRuns with
  | false => rfl
  | true => exact or_inr _ (bnot (Bool.eq_false_iff.2 fun hp => h ⟨hruns, hp⟩))

theorem Chip.scrubRewrite_of_queue {fg : Bool} {a : Nat} {t : List Nat} (hruns : s.bkgRuns = true) (hen : s.wkB Reg.BKG_CFG_SCRUB_EN = true)
    (hq : s.bkg.rewrite = a :: t) :
    s.scrubRewrite fg =
      (let u : Chip := { s with bkg := { s.bkg with rewrite := t }, ecc := s.ecc.put 0 a 0 }
       if fg then u else u.inc Reg.BKG_SCRUB_CE_CNT) := by
  refine (if_neg (not_or (not_bnot hruns) (not_bnot hen))).trans ?_
  rw [hq]
  rfl

theorem Chip.scrubRewrite_of_empty {fg : Bool} (hq : s.bkg.rewrite = []) : s.scrubRewrite fg = s := by
  unfold Chip.scrubRewrite
  split
  · rfl
  · rw [hq]

/-! The configuration journal (R474 to R477) -/

theorem Chip.journalAppend_of_pending {p : JPut} {ok : Bool} {e u w : Chip} {a : Nat} {image : List (BitVec 8)} (hup : s.coreUp = true)
    (hsealed : s.bkg.sealed = true) (hp : s.bkg.pend.find? (fun q => s.active 53 || q.key == 0) = some p)
    (he : (if s.bkg.suspended = true then s else s.eraseDone) = e) (hu : (if 127 < e.bkg.slot then e.jRotate else e) = u)
    (ha : jSector (u.get Reg.BKG_JRNL_STAT_ACTIVE) + 32 * u.bkg.slot = a) (himage : jRecord p.key p.del u.bkg.recSeq p.val = image)
    (hw : u.setBkg { u.bkg with slot := u.bkg.slot + 1 } = w) :
    s.journalAppend ok =
      if ok then
        (let d := w.norws a image
         d.setBkg { d.bkg with recSeq := d.bkg.recSeq + 1, pend := d.bkg.pend.erase p, written := d.bkg.written ++ [p] })
      else ((w.norws a (image.take 30 ++ (image.drop 30).map (fun x => ~~~x))).inc Reg.BKG_JRNL_ERR_CNT).fire 79 0 := by
  subst he hu ha himage hw
  unfold Chip.journalAppend
  dsimp only
  rw [hp]
  dsimp only
  rw [if_neg (not_or (not_bnot hup) (not_bnot hsealed))]

theorem Chip.journalAppend_of_rest {ok : Bool}
    (h : s.coreUp = false ∨ s.bkg.sealed = false ∨ s.bkg.pend.find? (fun q => s.active 53 || q.key == 0) = none) : s.journalAppend ok = s := by
  unfold Chip.journalAppend
  dsimp only
  by_cases hnone : s.bkg.pend.find? (fun q => s.active 53 || q.key == 0) = none
  · rw [hnone]
  · obtain ⟨p, hp⟩ := Option.ne_none_iff_exists'.1 hnone
    rw [hp]
    refine if_pos ?_
    rcases h with h | h | h
    · exact or_inl (bnot h) _
    · exact or_inr _ (bnot h)
    · exact absurd h hnone

theorem Chip.jrnlDurable_of_written {p : JPut} (hup : s.coreUp = true)
    (hp : s.bkg.written.find? (fun q => s.active 53 || q.key == 0) = some p) :
    s.jrnlDurable =
      (let u := ((s.setBkg { s.bkg with written := s.bkg.written.erase p }).inc Reg.BKG_JRNL_REC_CNT).jShow p.key
         (if p.del = true then none else some p.val)
       if p.user then u.put Reg.BKG_STAT_JRNL_BUSY 0 else u) := by
  unfold Chip.jrnlDurable
  rw [hp]
  exact if_neg (not_bnot hup)

theorem Chip.jrnlDurable_of_rest (h : s.coreUp = false ∨ s.bkg.written.find? (fun q => s.active 53 || q.key == 0) = none) :
    s.jrnlDurable = s := by
  unfold Chip.jrnlDurable
  by_cases hnone : s.bkg.written.find? (fun q => s.active 53 || q.key == 0) = none
  · rw [hnone]
  · obtain ⟨p, hp⟩ := Option.ne_none_iff_exists'.1 hnone
    rw [hp]
    exact if_pos (bnot (h.resolve_right hnone))

theorem Chip.journalFormat_of_blank (hruns : s.bkgRuns = true) (hready : s.flag Reg.BKG_STAT_JRNL_READY = true) (hblank : s.bkg.sealed = false) :
    s.journalFormat =
      (let n := s.bkg.erases.get 0 0 + 1
       let u := (s.norErase (jSector 0)).norws (jSector 0) (jHeader 0 n)
       ((u.setBkg { u.bkg with sealed := true, slot := 1, secSeq := 0, erases := u.bkg.erases.put 0 0 n, erasing := some 1,
                               suspended := false }).put Reg.BKG_JRNL_STAT_ACTIVE 0).put Reg.BKG_JRNL_STAT_WEAR n) :=
  if_neg (not_or (not_or (not_bnot hruns) (not_bnot hready)) (ne_true_of_eq_false hblank))

/-! The event log (R478, R479) -/

theorem Chip.logPage_of_queue (hruns : s.bkgRuns = true) (hq : s.bkg.logQ ≠ []) :
    s.logPage =
      (let u : Chip := if s.bkg.logQ.length < 16 then s.timeTo (s.bkg.logAts.headD 0 + 1000000000) else s
       (u.each (u.bkg.logQ.take 16) (fun x w => x.logWrite w)).setBkg { u.bkg with logQ := u.bkg.logQ.drop 16, logAts := u.bkg.logAts.drop 16 }) :=
  if_neg (not_or (not_bnot hruns) fun h => hq (List.isEmpty_iff.1 h))

theorem Chip.logNth_of_queued {n : Nat} (h : n < s.bkg.logQ.length) : s.logNth n = s.bkg.logQ[s.bkg.logQ.length - 1 - n]? :=
  (if_pos h).trans (List.getElem?_reverse h)

/-! Margin scans (R484) -/

section
variable {u t : Chip} (hruns : s.bkgRuns = true) (hen : s.wkB Reg.BKG_CFG_MARGIN_EN = true)
  (hu : (if s.bkg.scanAt = 0 then s else s.timeTo (s.bkg.scanAt - 1 + 1000000000 * max 1 (s.wk Reg.BKG_CFG_MARGIN_EVERY))) = u)
  (ht : u.setBkg { u.bkg with scanAt := u.ct.toNat + 1 } = t)
include hruns hen hu ht

theorem Chip.marginDue_of_busy (hbusy : ¬(t.flag (Reg.LINK_MARGIN_BUSY 0) = false ∧ t.flag (Reg.LINK_MARGIN_BUSY 1) = false)) :
    s.marginDue = t := by
  subst hu ht
  refine (if_neg (not_or (not_bnot hruns) (not_bnot hen))).trans (if_pos ?_)
  refine Classical.byContradiction fun hno => ?_
  exact hbusy ⟨Bool.eq_false_iff.2 fun h => hno (or_inl h _), Bool.eq_false_iff.2 fun h => hno (or_inr _ h)⟩

omit hruns hen hu ht in
theorem Chip.not_margin_busy (hfree : t.flag (Reg.LINK_MARGIN_BUSY 0) = false ∧ t.flag (Reg.LINK_MARGIN_BUSY 1) = false) :
    ¬(t.flag (Reg.LINK_MARGIN_BUSY 0) || t.flag (Reg.LINK_MARGIN_BUSY 1)) = true :=
  not_or (ne_true_of_eq_false hfree.1) (ne_true_of_eq_false hfree.2)

theorem Chip.marginDue_of_lane {l : Nat} (hfree : t.flag (Reg.LINK_MARGIN_BUSY 0) = false ∧ t.flag (Reg.LINK_MARGIN_BUSY 1) = false)
    (hl : ((List.range 4).map (fun k => (t.bkg.lane + k) % 4)).find? t.laneUsed = some l) :
    s.marginDue = ((t.setBkg { t.bkg with lane := (l + 1) % 4 }).put Reg.BKG_STAT_MARGIN_RUN 1).marginBegin (l / 2) (l % 2) := by
  have hidle := Chip.not_margin_busy hfree
  subst hu ht
  refine (if_neg (not_or (not_bnot hruns) (not_bnot hen))).trans ((if_neg hidle).trans ?_)
  rw [hl]

theorem Chip.marginDue_of_unused (hfree : t.flag (Reg.LINK_MARGIN_BUSY 0) = false ∧ t.flag (Reg.LINK_MARGIN_BUSY 1) = false)
    (hnone : ∀ l, l < 4 → t.laneUsed l = false) : s.marginDue = t := by
  have hidle := Chip.not_margin_busy hfree
  have hfind : ((List.range 4).map (fun k => (t.bkg.lane + k) % 4)).find? t.laneUsed = none := by
    refine List.find?_eq_none.2 fun l hl => ?_
    obtain ⟨k, -, rfl⟩ := List.mem_map.1 hl
    exact ne_true_of_eq_false (hnone _ (Nat.mod_lt _ (by decide)))
  subst hu ht
  refine (if_neg (not_or (not_bnot hruns) (not_bnot hen))).trans ((if_neg hidle).trans ?_)
  rw [hfind]

end

end

end Sys2Proof.Machine
end

section
/-! PROOF. Tests and the TAP (23_stitch_test_and_bist.md), and what an event that fires latches (24_events.md). -/

namespace Sys2Proof.Machine

section
variable {s : Chip}

/-! TEST.GO (R485, R486, R488) -/

theorem Chip.testGo_of_busy {r kind scope : Nat} {force : Bool} (h : s.flag Reg.TEST_STAT_BUSY = true) :
    s.testGo r kind scope force = s.no r 18 0 0x04 := if_pos h

theorem Chip.testGo_of_refused {r kind scope why : Nat} {force : Bool} (h : s.flag Reg.TEST_STAT_BUSY = false)
    (hwhy : s.testRefusal kind scope force = why) (hno : why ≠ 0) :
    s.testGo r kind scope force = (s.put Reg.TEST_REFUSE why).no r 18 0 0x04 := by
  subst hwhy
  exact (if_neg (ne_true_of_eq_false h)).trans (if_pos hno)

/-- The test's units are occupied and its results read zero. -/
def Chip.testBegun (s : Chip) (kind scope : Nat) (force : Bool) : Chip :=
  let e : Chip := { s with test := { s.test with run := some ⟨kind, scope, force⟩, prbs := false, since := s.ct.toNat } }
  let u := (e.put Reg.TEST_STAT_BUSY 1).testZero kind
  if kind = 2 then u.putB Reg.TEST_NB_STAT_END (!u.linkTailward scope) else u

section
variable {r kind scope : Nat} {force : Bool} (h : s.flag Reg.TEST_STAT_BUSY = false) (hwhy : s.testRefusal kind scope force = 0)
include h hwhy

theorem Chip.testGo_of_no_cuff (hc : scopeCuff kind scope = none) :
    s.testGo r kind scope force = (.done, (s.testBegun kind scope force).occShow) := by
  refine (if_neg (ne_true_of_eq_false h)).trans ((if_neg (not_not_intro hwhy)).trans ?_)
  rw [hc]
  rfl

theorem Chip.testGo_of_cuff {k : Nat} (hc : scopeCuff kind scope = some k) :
    s.testGo r kind scope force = (.done, ((s.testBegun kind scope force).cuffForced k).occShow) := by
  refine (if_neg (ne_true_of_eq_false h)).trans ((if_neg (not_not_intro hwhy)).trans ?_)
  rw [hc]
  rfl

end

section
variable {kind scope : Nat} {force : Bool}

theorem Chip.testRefusal_of_supply (h : s.supplyOk = false) : s.testRefusal kind scope force = 1 := if_pos (bnot h)

theorem Chip.testRefusal_of_clock (hs : s.supplyOk = true) (h : s.clockOk = false) : s.testRefusal kind scope force = 2 :=
  (if_neg (not_bnot hs)).trans (if_pos (bnot h))

theorem Chip.testRefusal_of_seam (hs : s.supplyOk = true) (hc : s.clockOk = true) (hfield : fieldScope kind scope = true)
    (h : s.seamUp = false) : s.testRefusal kind scope force = 3 :=
  (if_neg (not_bnot hs)).trans ((if_neg (not_bnot hc)).trans (if_pos (and_intro hfield (bnot h))))

theorem Chip.testRefusal_of_scope (hs : s.supplyOk = true) (hc : s.clockOk = true) (hseam : s.seamUp = true)
    (h : scopeOk kind scope = false) : s.testRefusal kind scope force = 4 := by
  refine (if_neg (not_bnot hs)).trans ((if_neg (not_bnot hc)).trans ((if_neg (not_and_right _ (not_bnot hseam))).trans (if_pos ?_)))
  exact or_inl (or_inl (or_inl (bnot h) _) _) _

end

/-! The neighbour test's instants (R492) -/

theorem Chip.nbNow_iff :
    s.nbNow = true ↔ s.coreUp = true ∧ (s.testing 2 0 = true ∨ s.testing 2 1 = true) ∧ s.get Reg.CLK_CYC_NUM = s.test.nbCycle := by
  simp only [Chip.nbNow, Bool.and_eq_true, Bool.or_eq_true, beq_iff_eq, and_assoc]

theorem Chip.nbTime_of_cycle {ns : Nat} (h : s.get Reg.CLK_CYC_NUM = s.test.nbCycle) : s.nbTime ns = s.timeTo (s.clk.markNs + ns) := if_pos h

section
variable {t u : Chip} {p : Nat} (hup : s.fieldUp = true) (hnow : s.nbNow = true) (ht : s.timeTo (s.clk.markNs + 50000) = t)
  (hp : (if t.testing 2 0 = true then 0 else 1) = p)
include hup hnow ht hp

theorem Chip.nbTrunk_of_now :
    s.nbTrunk =
      if t.flag (Reg.LINK_PHY_MEDIA p) then t else
      let u := t.put Reg.TEST_NB_STAT_TRUNK_VALID 1
      if u.linkTailward p then (u.put Reg.TEST_NB_TRUNK_V (u.lv (Reg.FUSE_MEAS_VOUT 9))).put Reg.TEST_NB_TRUNK_MA (u.lv (Reg.FUSE_MEAS_MA 9))
      else u.put Reg.TEST_NB_TRUNK_V (u.lv (Reg.FUSE_VIN 9)) := by
  subst hp ht
  refine (if_neg (not_or (not_bnot hup) (not_bnot hnow))).trans ?_
  rw [Chip.nbTime_of_cycle (Chip.nbNow_iff.1 hnow).2.2]

end

theorem Chip.nbTrunk_of_other (h : s.fieldUp = false ∨ s.nbNow ≠ true) : s.nbTrunk = s :=
  if_pos (h.elim (fun h => or_inl (bnot h) _) (fun h => or_inr _ (bnot (Bool.eq_false_iff.2 h))))

/-! The end of a test (R490 to R494) -/

theorem testSpan_pins {scope : Nat} : testSpan 1 scope = if scope ≤ 4 then 320000 else if scope ≤ 9 then 80000 else 40000 := if_pos rfl

theorem testSpan_logic {scope : Nat} : testSpan 3 scope = if scope < 4 then 4000000 else if scope < 6 then 2000000 else 10000000 :=
  if_neg (by decide)

theorem Chip.nbBegun_of_later (h : later s.test.nbCycle (s.get Reg.CLK_CYC_NUM) = true) : s.nbBegun = false := congrArg (!·) h

theorem Chip.nbBegun_of_not_later (h : later s.test.nbCycle (s.get Reg.CLK_CYC_NUM) = false) : s.nbBegun = true := congrArg (!·) h

section
variable {t : RunningTest} {o : TestObs} (hup : s.coreUp = true) (hrun : s.test.run = some t)
include hup hrun

theorem Chip.testDone_of_pins {e : Chip} (hk : t.kind = 1)
    (he : s.timeTo (s.test.since + (if t.scope ≤ 4 then 320000 else if t.scope ≤ 9 then 80000 else 40000)) = e) :
    s.testDone o =
      (((e.put Reg.TEST_PIN_RES_STUCK o.stuck.toNat).put Reg.TEST_PIN_RES_SHORT o.short.toNat).testOver
        (if o.stuck = 0 ∧ o.short = 0 then 1 else 2) 0).testFreed 1 t.scope := by
  unfold Chip.testDone
  rw [hrun]
  dsimp only
  rw [if_neg (not_bnot hup), hk, testSpan_pins, he]
  rfl

theorem Chip.testDone_of_early (hk : t.kind = 2) (hearly : s.nbBegun = false) : s.testDone o = s := by
  unfold Chip.testDone
  rw [hrun]
  dsimp only
  rw [if_neg (not_bnot hup), hk, if_pos (bnot hearly)]
  rfl

theorem Chip.testDone_of_neighbour {e : Chip} (hk : t.kind = 2) (hbegun : s.nbBegun = true) (he : s.nbTime 110000 = e) :
    s.testDone o =
      (((e.putB Reg.TEST_NB_STAT_LOCK o.lock).putB Reg.TEST_NB_STAT_INV (o.lock && o.inv)).put Reg.TEST_NB_ERR
        (if o.lock then o.errors.toNat else 0)).testOver (if !o.lock then 3 else if o.errors = 0 then 1 else 2) 0 := by
  unfold Chip.testDone
  rw [hrun]
  dsimp only
  rw [if_neg (not_bnot hup), hk, if_neg (not_bnot hbegun), he]
  rfl

theorem Chip.testDone_of_logic {e : Chip} (hk : t.kind = 3)
    (he : s.timeTo (s.test.since + (if t.scope < 4 then 4000000 else if t.scope < 6 then 2000000 else 10000000)) = e) :
    s.testDone o =
      ((e.put Reg.TEST_LBIST_SIG o.sig.toNat).testOver (if o.sig = Sys2Proof.Config.lbistReference t.scope then 1 else 2) 0).testFreed 3
        t.scope := by
  unfold Chip.testDone
  rw [hrun]
  dsimp only
  rw [if_neg (not_bnot hup), hk, testSpan_logic, he]
  rfl

end

theorem Chip.testDone_of_none {o : TestObs} (h : s.test.run = none) : s.testDone o = s := by
  unfold Chip.testDone
  rw [h]

/-! Aborts (R487) -/

theorem Chip.testCut_of_run {t : RunningTest} {cause : Nat} (h : s.test.run = some t) :
    s.testCut cause = ((s.testZero t.kind).testOver 4 cause).testFreed t.kind t.scope := by
  unfold Chip.testCut
  rw [h]

theorem Chip.testCut_of_none {cause : Nat} (h : s.test.run = none) : s.testCut cause = s := by
  unfold Chip.testCut
  rw [h]

theorem Chip.testCondition_of_none {cause : Nat} (h : s.test.run = none) : s.testCondition cause = s := by
  unfold Chip.testCondition
  rw [h]

section
variable {t : RunningTest} (hrun : s.test.run = some t)
include hrun

theorem Chip.testCondition_supply {u : Chip}
    (hu : (if s.clockOk = true ∧ (fieldScope t.kind t.scope = false ∨ s.seamUp = true) then
      (s.setLv Reg.TEST_STAT_VCORE_OK 0).put Reg.TEST_STAT_VCORE_OK 0 else s) = u) :
    s.testCondition 1 = ((u.testZero t.kind).testOver 4 1).testFreed t.kind t.scope := by
  have hstill : u.test.run = some t := by
    subst hu
    split
    · exact hrun
    · exact hrun
  have hcut : s.testCondition 1 = u.testCut 1 := by
    subst hu
    unfold Chip.testCondition
    rw [hrun]
    exact congrArg (fun z : Chip => z.testCut 1) (ite_of_iff (by rw [Bool.not_eq_true']))
  rw [hcut, Chip.testCut_of_run hstill]

theorem Chip.testCondition_link :
    s.testCondition 2 = if t.kind = 2 ∧ ¬s.linkActive t.scope = true then s.testCut 2 else s := by
  unfold Chip.testCondition
  rw [hrun]
  rfl

theorem Chip.testCondition_flask :
    s.testCondition 3 = if (testFlasks t.kind t.scope).any (fun f => !s.active f) then s.testCut 3 else s := by
  unfold Chip.testCondition
  rw [hrun]
  rfl

theorem Chip.testCondition_seam :
    s.testCondition 4 = if fieldScope t.kind t.scope && s.seam.lost then s.testCut 4 else s := by
  unfold Chip.testCondition
  rw [hrun]
  refine (show _ = s.testSeam from rfl).trans ?_
  unfold Chip.testSeam
  rw [hrun]

theorem Chip.testCondition_unlisted {cause : Nat} (h : cause = 0 ∨ 5 ≤ cause) : s.testCondition cause = s := by
  unfold Chip.testCondition
  rw [hrun]
  rcases cause with _ | _ | _ | _ | _ | cause
  · rfl
  · omega
  · omega
  · omega
  · omega
  · rfl

end

/-! The TAP (R495, R496) -/

theorem Chip.landsFree_of_untaken (h : s.test.landsTaken = false) : s.landsFree = s := if_pos (bnot h)

theorem Chip.tapLands_of_may {code : Nat} {z : Chip} (hz : s.put Reg.TEST_STAT_JTAG_REFUSED 0 = z) (h : z.landsMay = true) :
    s.tapLands code =
      { z.landsTake with test := { z.landsTake.test with
        tapInstr := code, irOut := tapCapture, tapOut := if code = 4 ∨ code = 5 then 0 else z.landsTake.test.boundary } } := by
  subst hz
  exact if_pos h

theorem Chip.tapLands_of_not {code : Nat} {z u : Chip} (hz : s.put Reg.TEST_STAT_JTAG_REFUSED 0 = z) (h : z.landsMay = false)
    (hu : z.landsFree.put Reg.TEST_STAT_JTAG_REFUSED 1 = u) :
    s.tapLands code = { u with test := { u.test with tapInstr := 0x1F, irOut := tapCapture, tapOut := 0 } } := by
  subst hz hu
  exact if_neg (ne_true_of_eq_false h)

/-! Firings (R497, R499) -/

theorem evReserved_iff {n : Nat} (h : n < 128) : evReserved n = true ↔ (53 ≤ n ∧ n ≤ 55) ∨ n = 71 ∨ (89 ≤ n ∧ n ≤ 111) := by
  unfold evReserved
  simp
  omega

/-- The pending bits and the exit from IDLE leave the event block. -/
theorem Chip.setPending_evt (s : Chip) (mask src : Nat) : (s.setPending mask src).evt = s.evt := by
  unfold Chip.setPending
  split
  · rfl
  · refine Chip.foldl_leaves Chip.evt (fun c j => ?_) _ _
    split
    · rfl
    · rfl

theorem Chip.idleExit_evt (s : Chip) : s.idleExit.evt = s.evt := by
  unfold Chip.idleExit
  split
  · refine (Chip.foldl_leaves Chip.evt (fun c j => ?_) _ _).trans rfl
    split
    · rfl
    · rfl
  · rfl

/-- A source without a limit whose record finds none waiting latches one record of the firing. -/
theorem Chip.fire_latches {src det : Nat} (hup : s.coreUp = true) (hlim : s.wk (Reg.EVT_ROUTE_LIMIT src) = 0) (hnone : s.evt.latched = []) :
    ∃ x : EvRec, (s.fire src det).evt.latched = [x] ∧ x.src = src ∧ x.det = det % 2 ^ 32 ∧ x.supp = s.evt.supp.get 0 src ∧
      x.ns = s.ct.toNat % 2 ^ 32 := by
  unfold Chip.fire
  rw [if_neg (not_bnot hup)]
  extract_lets rt0 lim rt1 b c hub d now last supp limited evt
  have hb : b.evt = s.evt ∧ b.ct = s.ct := ⟨Chip.setPending_evt s rt0 src, (Chip.setPending_clk s rt0 src).2⟩
  have hc : c.evt = s.evt ∧ c.ct = s.ct := by
    simp only [c]
    split
    · exact ⟨(Chip.idleExit_evt b).trans hb.1, (Chip.idleExit_clk b).2.trans hb.2⟩
    · exact hb
  have hd : d.evt = s.evt ∧ d.ct = s.ct := by
    simp only [d]
    split
    · exact hc
    · exact hc
  have hempty : d.evt.latched = [] := by rw [hd.1, hnone]
  have hfree : ¬(lim ≠ 0 ∧ last ≠ 0 ∧ now + 1 < last + 4 ^ lim * d.period) := fun h => h.1 hlim
  have hfresh : ¬(d.evt.latched.any fun r => r.src == src) = true := by
    rw [hempty]
    exact Bool.false_ne_true
  rw [if_neg hfree, if_neg hfresh, hempty]
  refine ⟨_, rfl, rfl, rfl, ?_, ?_⟩
  · exact congrArg (fun x : Evt => x.supp.get 0 src) hd.1
  · exact congrArg (fun x => BitVec.toNat x % 2 ^ 32) hd.2

end

end Sys2Proof.Machine
end

section
/-! PROOF. Background work, tests, the TAP and event firings as commands: the results of the obligation, from the rules of the two files before. -/

namespace Sys2Proof.Machine

theorem bits_low_six (v : Nat) : bits v 5 0 = v % 64 := by
  unfold bits
  exact congrArg (· % 64) (Nat.div_one v)

section
variable {s : Chip}

theorem Chip.ueAddr_of_pd {m : EccMemory} {k : Fin 5} {i : Nat} (hk : m = .pd k) : s.ueAddr m i = (0xF0000000 + i, s) := by
  subst hk
  exact Chip.ueAddr_pd k

/-! Refusals of the journal and the log -/

theorem Chip.jrnlGo_of_ready {r : Nat} (hkey : s.bkg.jKey ≠ 0) (hle : s.bkg.jKey ≤ 63) (hbusy : ¬s.flag Reg.BKG_STAT_JRNL_BUSY = true)
    (hready : s.flag Reg.BKG_STAT_JRNL_READY = true) (hactive : s.active 53 = true) :
    s.jrnlGo r =
      (.done, (s.setBkg { s.bkg with pend := s.bkg.pend ++
        [⟨s.bkg.jKey, s.bkg.jDel, (List.range 4).map (s.bkg.jData.get 0), true⟩] }).put Reg.BKG_STAT_JRNL_BUSY 1) :=
  if_neg (not_or_intro hkey (not_or_intro (Nat.not_lt.2 hle) (not_or_intro hbusy
    (not_or_intro (not_not_intro hready) (not_not_intro hactive)))))

theorem Chip.jrnlGo_of_refused {r : Nat}
    (h : s.bkg.jKey = 0 ∨ 63 < s.bkg.jKey ∨ s.flag Reg.BKG_STAT_JRNL_BUSY = true ∨ ¬s.flag Reg.BKG_STAT_JRNL_READY = true ∨
      s.active 53 = false) : s.jrnlGo r = s.no r 17 0 0x3C :=
  if_pos (h.imp_right (Or.imp_right (Or.imp_right (Or.imp_right Bool.eq_false_iff.1))))

theorem Chip.journalFormat_of_rest (h : ¬s.bkgRuns = true ∨ ¬s.flag Reg.BKG_STAT_JRNL_READY = true ∨ s.bkg.sealed = true) :
    s.journalFormat = s := by
  refine if_pos ?_
  rcases h with h | h | h
  · exact or_inl (or_inl (bnot (Bool.eq_false_iff.2 h)) _) _
  · exact or_inl (or_inr _ (bnot (Bool.eq_false_iff.2 h))) _
  · exact or_inr _ h

theorem Chip.logPage_of_rest (h : ¬s.bkgRuns = true ∨ s.bkg.logQ = []) : s.logPage = s :=
  if_pos (h.elim (fun h => or_inl (bnot (Bool.eq_false_iff.2 h)) _) (fun h => or_inr _ (List.isEmpty_iff.2 h)))

theorem Chip.logStart_of_refused {r n : Nat} (h : s.flag Reg.BKG_STAT_LOG_RD_BUSY = true ∨ s.active 53 = false) :
    s.logStart r n = s.no r 17 0 0x50 := by
  by_cases hbusy : s.flag Reg.BKG_STAT_LOG_RD_BUSY = true
  · exact if_pos hbusy
  · exact (if_neg hbusy).trans (if_pos (bnot (h.resolve_left hbusy)))

theorem Chip.logStart_of_active {r n : Nat} (hbusy : s.flag Reg.BKG_STAT_LOG_RD_BUSY = false) (h : s.active 53 = true) :
    s.logStart r n = (.done, (s.setBkg { s.bkg with logIdx := n }).put Reg.BKG_STAT_LOG_RD_BUSY 1) :=
  (if_neg (ne_true_of_eq_false hbusy)).trans (if_neg (not_bnot h))

theorem Chip.logDone_of_rest (h : ¬s.bkgRuns = true ∨ s.flag Reg.BKG_STAT_LOG_RD_BUSY = false) : s.logDone = s :=
  if_pos (h.elim (fun h => or_inl (bnot (Bool.eq_false_iff.2 h)) _) (fun h => or_inr _ (bnot h)))

theorem Chip.marginDue_of_off (h : ¬s.bkgRuns = true ∨ s.wkB Reg.BKG_CFG_MARGIN_EN = false) : s.marginDue = s :=
  if_pos (h.elim (fun h => or_inl (bnot (Bool.eq_false_iff.2 h)) _) (fun h => or_inr _ (bnot h)))

end

/-! The commands that start a test, and those that take the lands -/

/-- Command a is TEST.GO of a kind at a scope, forced or not. -/
def StartsTest (scope : Nat) (r : Requester) (a : Instr × Nat × Bool) : Prop :=
  ∀ s : State, exec a.1 s = s.run fun c => c.command r Reg.TEST_GO_KIND.addr fun c => c.testGo r.code a.2.1 scope a.2.2

theorem startsTest_all {r : Requester} {scope : BitVec 5} {force : Bool} :
    ∀ a ∈ [(Instr.testPins r scope force, 1, force), (.testNeighbour r scope, 2, false), (.testLbist r scope force, 3, force)],
      StartsTest scope.toNat r a := by
  simp only [List.forall_mem_cons]
  exact ⟨fun _ => rfl, fun _ => rfl, fun _ => rfl, fun _ h => absurd h List.not_mem_nil⟩

/-- Command a shifts in the instruction of a code that takes the lands. -/
def TakesLands (a : Instr × Nat) : Prop := ∀ s : State, exec a.1 s = s.run fun c => c.tapLands a.2

theorem takesLands_all :
    ∀ a ∈ [(Instr.tapExtest, 0), (.tapExtestPulse, 8), (.tapExtestTrain, 9), (.tapClamp, 4), (.tapHighz, 5)], TakesLands a := by
  simp only [List.forall_mem_cons]
  exact ⟨fun _ => rfl, fun _ => rfl, fun _ => rfl, fun _ => rfl, fun _ => rfl, fun _ h => absurd h List.not_mem_nil⟩

end Sys2Proof.Machine

namespace Sys2Proof.Proofs
open Sys2Proof.Machine

/-- Settles O60: background work, tests, the TAP and event firings give what the statement lists. -/
theorem backgroundTestEventResults : Obligations.BackgroundTestEventResults := by
  unfold Obligations.BackgroundTestEventResults
  intro r m fg ok v jw scope force o cause sampled preload src det sig s c b runs scrubs ready busy i moved put log go sc starts z nb after
    plain landed
  have tick {f : EccState} {u : Chip} (h : c.scrubTick m f = u) : Gives (.scrubTick m f) s u := gives_of_run (f := fun d => d.scrubTick m f) rfl h
  have rewritten {u : Chip} (h : c.scrubRewrite fg = u) : Gives (.scrubRewrite fg) s u := gives_of_run (f := fun d => d.scrubRewrite fg) rfl h
  have append {u : Chip} (h : c.journalAppend ok = u) : Gives (.journalAppend ok) s u := gives_of_run (f := fun d => d.journalAppend ok) rfl h
  have scan {u : Chip} (h : c.marginDue = u) : Gives .marginScanStart s u := gives_of_run (f := fun d => d.marginDue) rfl h
  have page {u : Chip} (h : c.logPage = u) : Gives .logPageProgram s u := gives_of_run (f := fun d => d.logPage) rfl h
  have trunk {u : Chip} (h : c.nbTrunk = u) : Gives .nbTrunkCapture s u := gives_of_run (f := fun d => d.nbTrunk) rfl h
  have ends {u : Chip} (h : c.testDone o = u) : Gives (.testDone o) s u := gives_of_run (f := fun d => d.testDone o) rfl h
  have cuts {n : BitVec 3} {u : Chip} (h : c.testCondition n.toNat = u) : Gives (.testAbortCondition n) s u :=
    gives_of_run (f := fun d => d.testCondition n.toNat) rfl h
  refine ⟨?placed, ?unplaced, ?unscrubbed, ?rewrite, ?rewriteEmpty, ?nor, ?norDown, ?append, ?appendNo, ?key, ?data, ?put, ?durable,
    ?durableNo, ?format, ?formatNo, ?page, ?pageNo, ?logIdx, ?logDone, ?logDoneNo, ?logNth, ?margin, ?marginNo, ?testGo, ?refusal, ?nbCycle,
    ?prbs, ?notNb, ?trunkDown, ?trunk, ?tests, ?noTest, ?bypass, ?idcode, ?sample, ?lands, ?untaken, ?fire, ?fireNo, ?reserved, ?latches,
    ?signal⟩
  case placed =>
    intro place hp hscrubs u addr
    have go (f : EccState) : c.scrubTick m f = u.scrubFound m i f := Chip.scrubTick_of_placed hscrubs.1 hscrubs.2 rfl hp
    have haddr : memKey m i = addr := memKey_of_placed hp
    have hlen : u.bkg.rewrite = b.rewrite := Chip.scrubMoved_rewrite
    refine ⟨tick (go _), fun hroom => tick ((go _).trans ?_), fun hfull => tick ((go _).trans ?_), tick ((go _).trans ?_)⟩
    · rw [Chip.scrubFound_of_room (hlen.symm ▸ hroom), hlen, haddr]
    · rw [Chip.scrubFound_of_full (hlen.symm ▸ hfull), haddr]
    · rw [Chip.scrubFound_uncorrectable_of_addr (Chip.ueAddr_of_placed hp), haddr]
  case unplaced =>
    intro hp hscrubs u
    have go (f : EccState) : c.scrubTick m f = u.scrubFound m i f := Chip.scrubTick_of_unplaced hscrubs.1 hscrubs.2 rfl hp
    have hlen : u.bkg.rewrite = b.rewrite := Chip.scrubMoved_rewrite
    refine ⟨tick (go _), fun hroom => tick ((go _).trans ?_), fun hfull => tick ((go _).trans ?_), fun hpd => tick ((go _).trans ?_),
      fun k hk => tick ((go _).trans ?_)⟩
    · rw [Chip.scrubFound_of_room (hlen.symm ▸ hroom), hlen]
    · rw [Chip.scrubFound_of_full (hlen.symm ▸ hfull)]
    · rw [Chip.scrubFound_uncorrectable_of_addr (Chip.ueAddr_of_unplaced hp hpd)]
    · rw [Chip.scrubFound_uncorrectable_of_addr (Chip.ueAddr_of_pd hk)]
  case unscrubbed =>
    exact fun h => ⟨fun f => tick (if_pos (Chip.not_scrubs h)), rewritten (if_pos (Chip.not_scrubs h))⟩
  case rewrite =>
    intro hscrubs a t hq u
    have go := Chip.scrubRewrite_of_queue (fg := fg) hscrubs.1 hscrubs.2 hq
    exact ⟨fun hfg => rewritten (go.trans (if_neg (ne_true_of_eq_false hfg))), fun hfg => rewritten (go.trans (if_pos hfg))⟩
  case rewriteEmpty => exact fun h => rewritten (Chip.scrubRewrite_of_empty h)
  case nor => exact fun hup => gives_of_run (f := fun d => if d.coreUp then d.norForeground else d) rfl ((if_pos hup).trans (if_neg (not_bnot hup)))
  case norDown =>
    exact fun hup => gives_of_run (f := fun d => if d.coreUp then d.norForeground else d) rfl (if_neg (ne_true_of_eq_false hup))
  case append =>
    intro hup hsealed p hp e u a image w d k
    have go := Chip.journalAppend_of_pending (ok := ok) hup hsealed hp (e := e) (u := u) (a := a) (image := image) (w := w) rfl rfl rfl rfl rfl
    exact ⟨fun hok => append (go.trans (if_pos hok)), fun hok => append (go.trans (if_neg (ne_true_of_eq_false hok)))⟩
  case appendNo => exact fun h => append (Chip.journalAppend_of_rest h)
  case key =>
    intro ht
    refine gives_of_takes rfl ht ?_
    unfold Chip.jStageKey
    rw [bits_low_six]
    rfl
  case data => exact fun ht => gives_of_takes rfl ht rfl
  case put =>
    intro ht
    refine ⟨fun hkey hle hbusy hready ha => gives_of_takes rfl ht (Chip.jrnlGo_of_ready hkey hle hbusy hready ha), fun h => ?_⟩
    exact gives_of_takes rfl ht (Chip.jrnlGo_of_refused h)
  case durable =>
    intro hup p hp u
    have go := Chip.jrnlDurable_of_written hup hp
    exact ⟨fun hu => gives_of_run (f := fun d => d.jrnlDurable) rfl (go.trans (if_pos hu)),
      fun hu => gives_of_run (f := fun d => d.jrnlDurable) rfl (go.trans (if_neg (ne_true_of_eq_false hu)))⟩
  case durableNo => exact fun h => gives_of_run (f := fun d => d.jrnlDurable) rfl (Chip.jrnlDurable_of_rest h)
  case format =>
    intro hruns hready hblank
    exact gives_of_run (f := fun d => d.journalFormat) rfl (Chip.journalFormat_of_blank hruns hready hblank)
  case formatNo => exact fun h => gives_of_run (f := fun d => d.journalFormat) rfl (Chip.journalFormat_of_rest h)
  case page =>
    intro hruns hq paged
    have go := Chip.logPage_of_queue hruns hq
    refine ⟨fun hlen => page (go.trans ?_), fun hlen => page (go.trans ?_)⟩
    · rw [if_neg (Nat.not_lt.2 hlen)]
    · rw [if_pos hlen]
  case pageNo => exact fun h => page (Chip.logPage_of_rest h)
  case logIdx =>
    intro ht
    refine ⟨fun hbusy ha => gives_of_takes rfl ht (Chip.logStart_of_active hbusy ha), fun h => ?_⟩
    exact gives_of_takes rfl ht (Chip.logStart_of_refused h)
  case logDone =>
    intro hruns hbusy w
    exact gives_of_run (f := fun d => d.logDone) rfl (if_neg (not_or (not_bnot hruns) (not_bnot hbusy)))
  case logDoneNo => exact fun h => gives_of_run (f := fun d => d.logDone) rfl (Chip.logDone_of_rest h)
  case logNth => exact fun n hn => Chip.logNth_of_queued hn
  case margin =>
    intro hruns hen u t free
    refine ⟨fun hfree l hl => scan (Chip.marginDue_of_lane hruns hen (u := u) (t := t) rfl rfl hfree hl), fun h => ?_⟩
    by_cases hfree : free
    · exact scan (Chip.marginDue_of_unused hruns hen (u := u) (t := t) rfl rfl hfree (h.resolve_left (not_not_intro hfree)))
    · exact scan (Chip.marginDue_of_busy hruns hen (u := u) (t := t) rfl rfl hfree)
  case marginNo => exact fun h => scan (Chip.marginDue_of_off h)
  case testGo =>
    intro a ha ht kind why e u w
    have hstart := startsTest_all a ha s
    refine ⟨fun h => gives_of_takes hstart ht (Chip.testGo_of_busy h),
      fun h hno => gives_of_takes hstart ht (Chip.testGo_of_refused h rfl hno), fun h hwhy => ⟨fun hc => ?_, fun k hc => ?_⟩⟩
    · exact gives_of_takes hstart ht (Chip.testGo_of_no_cuff h hwhy hc)
    · exact gives_of_takes hstart ht (Chip.testGo_of_cuff h hwhy hc)
  case refusal =>
    exact fun kind scp fr => ⟨Chip.testRefusal_of_supply, Chip.testRefusal_of_clock, Chip.testRefusal_of_seam, Chip.testRefusal_of_scope⟩
  case nbCycle => exact fun ht => gives_of_takes rfl ht rfl
  case prbs =>
    intro hnb
    refine gives_of_run (f := fun d => d.nbPrbs) rfl ((if_pos (Chip.nbNow_iff.2 hnb)).trans ?_)
    rw [Chip.nbTime_of_cycle hnb.2.2]
  case notNb =>
    intro h
    have hno : c.nbNow ≠ true := fun hn => h (Chip.nbNow_iff.1 hn)
    exact ⟨gives_of_run (f := fun d => d.nbPrbs) rfl (if_neg hno), trunk (Chip.nbTrunk_of_other (.inr hno))⟩
  case trunkDown => exact fun h => trunk (Chip.nbTrunk_of_other (.inl h))
  case trunk =>
    intro hnb hup t p u
    have go := Chip.nbTrunk_of_now hup (Chip.nbNow_iff.2 hnb) (t := t) (p := p) rfl rfl
    refine ⟨fun hm => trunk (go.trans (if_pos hm)), fun hm hl => trunk (go.trans ((if_neg (ne_true_of_eq_false hm)).trans (if_pos hl))),
      fun hm hl => trunk (go.trans ((if_neg (ne_true_of_eq_false hm)).trans (if_neg (ne_true_of_eq_false hl))))⟩
  case tests =>
    intro hup t hrun
    have cut (n : Nat) : c.testCut n = ((c.testZero t.kind).testOver 4 n).testFreed t.kind t.scope := Chip.testCut_of_run hrun
    have cuts2 (h : cause = 2) {u : Chip} (hu : c.testCondition 2 = u) : Gives (.testAbortCondition cause) s u := cuts (by rw [h]; exact hu)
    have cuts3 (h : cause = 3) {u : Chip} (hu : c.testCondition 3 = u) : Gives (.testAbortCondition cause) s u := cuts (by rw [h]; exact hu)
    have cuts4 (h : cause = 4) {u : Chip} (hu : c.testCondition 4 = u) : Gives (.testAbortCondition cause) s u := cuts (by rw [h]; exact hu)
    refine ⟨?pins, ?early, ?neighbour, ?logic, ?supply, ?link, ?linkNo, ?flask, ?flaskNo, ?seam, ?seamNo, ?unlisted, ?abort⟩
    case pins =>
      intro hk e u
      have go := Chip.testDone_of_pins (o := o) hup hrun hk (e := e) rfl
      refine ⟨fun h1 h2 => ends (go.trans ?_), fun h => ends (go.trans ?_)⟩
      · rw [if_pos ⟨h1, h2⟩]
      · rw [if_neg fun hb => h.elim (· hb.1) (· hb.2)]
    case early => exact fun hk hearly => ends (Chip.testDone_of_early hup hrun hk (Chip.nbBegun_of_later hearly))
    case neighbour =>
      intro hk hbegun e
      have go := Chip.testDone_of_neighbour (o := o) hup hrun hk (Chip.nbBegun_of_not_later hbegun) (e := e) rfl
      refine ⟨fun hlock => ends (go.trans ?_), fun hlock => ?_⟩
      · rw [hlock]
        rfl
      · intro u
        rw [hlock] at go
        exact ⟨fun herr => ends (go.trans (congrArg (fun n => u.testOver n 0) (if_pos herr))),
          fun herr => ends (go.trans (congrArg (fun n => u.testOver n 0) (if_neg herr)))⟩
    case logic =>
      intro hk u
      have go := Chip.testDone_of_logic (o := o) hup hrun hk rfl
      refine ⟨fun h => ends (go.trans ?_), fun h => ends (go.trans ?_)⟩
      · rw [if_pos h]
      · rw [if_neg h]
    case supply => exact cuts (Chip.testCondition_supply hrun rfl)
    case link =>
      exact fun h hk hl => cuts2 h ((Chip.testCondition_link hrun).trans ((if_pos ⟨hk, ne_true_of_eq_false hl⟩).trans (cut 2)))
    case linkNo =>
      exact fun h hno => cuts2 h ((Chip.testCondition_link hrun).trans (if_neg fun hb => hno.elim (· hb.1) hb.2))
    case flask =>
      intro h hex
      obtain ⟨f, hf, hoff⟩ := hex
      exact cuts3 h ((Chip.testCondition_flask hrun).trans ((if_pos (List.any_eq_true.2 ⟨f, hf, bnot hoff⟩)).trans (cut 3)))
    case flaskNo =>
      intro h hall
      refine cuts3 h ((Chip.testCondition_flask hrun).trans (if_neg fun hb => ?_))
      obtain ⟨f, hf, hoff⟩ := List.any_eq_true.1 hb
      exact not_bnot (hall f hf) hoff
    case seam =>
      exact fun h hfield hlost => cuts4 h ((Chip.testCondition_seam hrun).trans ((if_pos (and_intro hfield hlost)).trans (cut 4)))
    case seamNo =>
      intro h hno
      refine cuts4 h ((Chip.testCondition_seam hrun).trans (if_neg ?_))
      exact hno.elim (fun h => not_and_left (ne_true_of_eq_false h) _) (fun h => not_and_right _ (ne_true_of_eq_false h))
    case unlisted =>
      exact fun h => cuts (Chip.testCondition_unlisted hrun (h.imp_left (congrArg BitVec.toNat)))
    case abort => exact fun ht => gives_of_takes rfl ht (congrArg (fun z : Chip => ((.done, z) : Did)) (cut 5))
  case noTest =>
    intro h
    refine ⟨ends (Chip.testDone_of_none h), cuts (Chip.testCondition_of_none h), fun ht => gives_of_takes rfl ht ?_⟩
    exact congrArg (fun z : Chip => ((.done, z) : Did)) (Chip.testCut_of_none h)
  case bypass => exact gives_of_run (f := fun d => d.tapPlain 0x1F 0) rfl rfl
  case idcode => exact gives_of_run (f := fun d => d.tapPlain 1 0x106486B7) rfl rfl
  case sample => exact gives_of_run (f := fun d => d.tapSample sampled preload) rfl rfl
  case lands =>
    intro a ha
    have hlands := takesLands_all a ha s
    refine ⟨fun hmay => ⟨fun hby => ?_, fun h4 h5 => ?_⟩, fun hno => ?_⟩
    · refine gives_of_run hlands ((Chip.tapLands_of_may rfl hmay).trans ?_)
      rw [if_pos hby]
      rfl
    · refine gives_of_run hlands ((Chip.tapLands_of_may rfl hmay).trans ?_)
      rw [if_neg (not_or_intro h4 h5)]
      rfl
    · exact gives_of_run hlands (Chip.tapLands_of_not rfl hno rfl)
  case untaken => exact Chip.landsFree_of_untaken
  case fire =>
    exact fun hup hres => gives_of_run (f := fun d => if d.coreUp then d.eventFire src.val det.toNat else d) rfl
      ((if_pos hup).trans (if_neg (ne_true_of_eq_false hres)))
  case fireNo =>
    intro h
    refine gives_of_run (f := fun d => if d.coreUp then d.eventFire src.val det.toNat else d) rfl ?_
    by_cases hup : c.coreUp = true
    · exact (if_pos hup).trans (if_pos (h.resolve_left (by rw [hup]; decide)))
    · exact if_neg hup
  case reserved => exact evReserved_iff src.isLt
  case latches =>
    intro hup hlim hnone
    have h := Chip.fire_latches (det := det.toNat) hup hlim hnone
    rwa [Nat.mod_eq_of_lt det.isLt] at h
  case signal =>
    intro ht
    refine ⟨fun h => gives_of_takes rfl ht (if_pos ⟨h, Nat.le_of_lt_succ sig.isLt⟩), fun h => ?_⟩
    exact gives_of_takes rfl ht (if_neg fun hb => absurd hb.1 (Nat.not_le.2 h))

end Sys2Proof.Proofs
end
